-- ==== Sys2Proof/Word.lean ====
section
/-! DEFINITION. The plainest arithmetic of the block: fields of a word, saturating and wrapping counts. -/

namespace Sys2Proof

/-- Bits `lo + w - 1` down to `lo` of `v` (R7: bit 0 is the least significant). -/
def bitsOf (v lo w : Nat) : Nat := v / 2 ^ lo % 2 ^ w

/-- Bit `i` of `v`. -/
def bitOf (v i : Nat) : Bool := v / 2 ^ i % 2 == 1

/-- `v` with bit `i` set to `b`. -/
def setBit (v i : Nat) (b : Bool) : Nat :=
  if bitOf v i == b then v else if b then v + 2 ^ i else v - 2 ^ i

/-- A saturating count of `w` bits, one more. -/
def satInc (w n : Nat) : Nat := if n + 1 < 2 ^ w then n + 1 else 2 ^ w - 1

/-- A saturating count of `w` bits, `d` more. -/
def satAdd (w n d : Nat) : Nat := if n + d < 2 ^ w then n + d else 2 ^ w - 1

/-- The signed number a `w`-bit two's complement field holds. -/
def toSigned (w v : Nat) : Int := if v < 2 ^ (w - 1) then (v : Int) else (v : Int) - 2 ^ w

/-- The `w`-bit two's complement field that holds `i` (wrapping). -/
def ofSigned (w : Nat) (i : Int) : Nat := (i % (2 ^ w : Int)).toNat

/-- `n` rounded up to a multiple of 4 (the padding of R385). -/
def pad4 (n : Nat) : Nat := (n + 3) / 4 * 4

end Sys2Proof
end

