-- ==== Sys2Proof/Syntax.lean ====
section
/-! DEFINITION. The commands of the block: one constructor of `Instr` for each row of the table of
operations and events, with the operands the row needs, and the plain records those operands are made of. -/

namespace Sys2Proof

/-- A TLV parameter of a packet (R385): type, value bytes, value read as a little-endian number (R7). -/
structure Tlv where
  t : Nat
  len : Nat
  val : Nat
  deriving DecidableEq, Repr, Inhabited

/-- A client certificate as the handshake of R370 hands it over (R411, R475): the SHA-384 fingerprint, the
privilege of the Kilram extension, its DEBUG_SIGNER flag. -/
structure Cert where
  fp : Nat
  priv : Nat
  signer : Bool
  deriving DecidableEq, Repr, Inhabited

/-- A command packet (R384, R385) with the connection it arrived on and its arrival stamp (R389). The opcode
is the constructor of `Instr`; `hopLen` is the length byte L of the UnitRef and `hops` the hops that lie
within the payload (R358). -/
structure Packet where
  sess : Nat        -- session of the connection, 0 while none is open on it
  service : Bool    -- on the USB-C service port
  port : Option Nat := none -- the Ethernet port it came in on, none for S0 and the service port
  pairIp : Bool := false    -- its connection is to the pair address (R380)
  origin : Option (Nat × Nat) := none -- of a FORWARDED packet: the originating session's priority and the beat of its stamp (R360)
  cert : Cert       -- client certificate of the connection
  magic : Nat := 0x434C
  version : Nat := 1
  flags : Nat := 0
  seq : Nat
  epoch : Nat := 0
  length : Nat
  reserved : Nat := 0
  hopLen : Nat := 0
  hops : List Nat := []
  tlvs : List Tlv := []
  stamp : Nat := 0  -- arrival stamp, offset in the current beat in 5 ns
  chainOk : Bool := true  -- what the crypto engine finds of the certificate chain the packet carries
  sigOk : Bool := true    -- and of the signature it carries (HELLO, token, image header)
  digestOk : Bool := true -- and of the digest of the image it commits
  notBefore : Nat := 0    -- what it reads from the leaf of the chain: validity in PTP seconds, SHA-384 fingerprint
  notAfter : Nat := 0
  fingerprint : Nat := 0
  deriving DecidableEq, Repr, Inhabited

/-- A write of the watchdog's service word (R457): by the Supervisor's rule of R458, where its scheduler has completed every
cycle or has not, or by a fault of the Supervisor, with the current service word or a wrong one. -/
inductive WdWrite where
  | byRule (schedOk : Bool)
  | byFault (wordOk : Bool)
  deriving DecidableEq, Repr, Inhabited

/-- A rail failure that cuts a power-down sequence (R506): the rail, the step of R504 it falls in, and how many Journal records
step 3 had committed by then. -/
structure PowerCut where
  rail : Nat
  step : Nat
  done : Nat := 0
  deriving DecidableEq, Repr, Inhabited

/-- The opcodes of R417, in the order of the table. -/
inductive Op where
  | hello | bye | ping | sessionPriority
  | unitList | unitInfo | unitCertGet | unitEpochGet
  | modeGet | modeSet | restart | gong | clearSafe
  | valueRead | valueWrite | constWrite | valueOwn | valueRelease | forceSet | forceClear
  | objRead | objWrite
  | programStage | programChunk | shadowStart | shadowCompareGet | promote | revert | changeConfirm
  | pairStatus | switchover | healthReport | resyncStandby
  | loopRead | loopModeSet | loopCoeffSet | loopSpSet
  | timeStatus | chimeSet | rimshotArm | captureRead
  | journalStatus | rollNow | recorderFreeze | recorderRead | recorderThaw | recorderClear
  | imageHeader | imageChunk | imageCommit | imageStatus | imageConfirm
  | csrCreate | certInstall | securityStateSet | debugTokenInstall | auditRead
  | ioConfigSet | ioDiagRead | laneStatus | canObjSet
  | powerStatus | dormantEnter | powerStats
  | eventSubscribe | eventRead | selftest | klStatus
  deriving DecidableEq, Repr, Inhabited

/-- Elementary type of a named value (R418 gives the widths; the symbol table names the type). -/
inductive ValTy where
  | bool | u8 | u16 | u32 | u64 | i8 | i16 | i32 | i64 | f32 | f64
  deriving DecidableEq, Repr, Inhabited

/-- Substitute of an input point (R104). -/
inductive Subst where
  | hold | fixed | safe
  deriving DecidableEq, Repr, Inhabited

/-- A named value of the symbol table (R82, R83, R92, R96, R104, R579). `station` names the station of a point,
`chan` the local channel or board word behind it (for R425 IO_DIAG_READ: object index of the channel's status). -/
structure ValDef where
  idx : Nat
  home : Nat
  kind : Nat            -- 0 variable, 1 retained, 2 constant, 3 input point, 4 output point
  ty : ValTy
  attr : Nat            -- 0 READ_ONLY, 1 OPERATOR, 2 ENGINEER
  lo : Nat
  hi : Nat
  forceable : Bool
  init : Nat
  subst : Subst
  fixedVal : Nat
  safeVal : Nat
  rangeLo : Nat         -- lower range limit of an analog point
  rangeHi : Nat
  digital : Bool
  station : Option Nat
  statusObj : Nat       -- index of the status object of the channel behind a point
  compare : Nat         -- 0 not compared, 1 compared, 2 intended difference (R169)
  deriving DecidableEq, Repr, Inhabited

/-- A task of the task table (R84, R86). -/
structure TaskDef where
  id : Nat
  cls : Nat
  order : Nat
  isError : Bool
  skippable : Bool
  deriving DecidableEq, Repr, Inhabited

/-- A station of the I/O map with its owning and error task (R105). `lane` for a board, `wsl` for a remote station. -/
structure StationDef where
  idx : Nat
  lane : Option Nat
  addr : Nat
  wsl : Option Nat
  hop : Nat
  task : Option Nat
  errTask : Option Nat
  deriving DecidableEq, Repr, Inhabited

/-- A loop block as the program carries it (R133). binary32 fields hold their bits. -/
structure LoopDef where
  num : Nat
  cls : Nat
  mode0 : Nat
  spTarget : Nat
  spWorking : Nat
  out : Nat
  gain : Nat
  resetTime : Nat
  rateTime : Nat
  derivFilter : Nat
  action : Nat
  deadband : Nat
  bias : Nat
  spLo : Nat
  spHi : Nat
  rampUp : Nat
  rampDown : Nat
  outLo : Nat
  outHi : Nat
  outRate : Nat
  spTrack : Nat
  extSource : Nat
  extGain : Nat
  extOffset : Nat
  pvLo : Nat
  pvHi : Nat
  group : Option Nat
  groupPos : Nat
  primary : Option Nat    -- loop number, or group number when primaryIsGroup
  primaryIsGroup : Bool
  progOwner : Bool        -- mode_owner PROGRAM
  pvVal : Nat             -- INDEX of the process value
  outVal : Nat            -- INDEX of the named value that takes OUT
  spVal : Option Nat      -- named value by which the program writes the set-point
  trackSwitch : Option Nat
  trackVal : Option Nat
  modeReq : Option Nat
  outReq : Option Nat := none -- named value by which the owning program writes the output in MAN (R121)
  deriving DecidableEq, Repr, Inhabited

/-- A select group (R127 to R129). -/
structure GroupDef where
  num : Nat
  cls : Nat
  members : List Nat      -- loop numbers by position
  invert : Bool
  out0 : Nat
  deriving DecidableEq, Repr, Inhabited

/-- A control program image as the module's loader reads it (R79, R80). -/
structure Program where
  hwMask : Nat
  wellFormed : Bool       -- header, layout and signature pass
  gen : Nat
  layoutId : Nat
  code : Nat              -- bytes
  data : Nat              -- bytes per cluster
  retained : Nat          -- bytes
  slices : List Nat       -- slice_t0 to slice_t4 in µs
  vals : List ValDef
  tasks : List TaskDef
  stations : List StationDef
  loops : List LoopDef
  groups : List GroupDef
  carry : List Nat        -- constants whose overlay entries it declares to carry (R95)
  replaceCoeff : List Nat -- loops whose coefficients it declares to be replaced (R132)
  streamed : Nat          -- FA channels declared as streamed (R296)
  deriving DecidableEq, Repr, Inhabited

/-- An LCP packet the module sends: a reply, an event packet or a forwarded request (R384 to R386). -/
structure Reply where
  sess : Nat
  op : Nat                -- OPCODE
  flags : Nat
  seq : Nat
  epoch : Nat
  status : Nat
  hopLen : Nat
  hops : List Nat
  tlvs : List Tlv
  deriving DecidableEq, Repr, Inhabited

/-- A slot of the Retain partition (R98): header complete, beat of the snapshot, program generation, retained-layout
identifier, values by handle and type, CRC-32C. -/
structure RetainSlot where
  valid : Bool := false
  beat : Nat := 0
  gen : Nat := 0
  layout : Nat := 0
  vals : List (Nat × Nat) := []
  crc : Nat := 0
  deriving DecidableEq, Repr, Inhabited

/-- A Journal record (R429). -/
structure JRec where
  seq : Nat
  type : Nat
  tomb : Bool
  shared : Bool
  key : Nat
  len : Nat
  payload : Nat
  crc : Nat := 0          -- CRC and COMMIT words, once it is written (R430)
  commit : Nat := 0
  deriving DecidableEq, Repr, Inhabited

/-- A task waiting to run, or running, in the current cycle of its class: reason and station of an error-task run. -/
structure RunE where
  task : Nat
  reason : Nat := 0       -- ERROR_REASON: 1 FAILED, 2 RESTORED (R105)
  station : Nat := 0
  spilled : Bool := false -- carried over from an earlier cycle (R90)
  deriving DecidableEq, Repr, Inhabited

/-- The input image's entry of a point (R103). -/
structure PointV where
  idx : Nat
  val : Nat
  q : Nat                 -- the quality byte
  deriving DecidableEq, Repr, Inhabited

/-- What a class reads in its cycle (R42, R85): input image, published values and forces as they stood at its release. -/
structure ClassView where
  cls : Nat
  image : List PointV
  published : List (Nat × Nat)
  forces : List (Nat × Nat)
  flags : List Nat := []  -- event flags of the loop engine (R451)
  deriving DecidableEq, Repr, Inhabited

/-- The state of a loop block by R118 to R134, all of it in the line that tracks the block (R46, R113). -/
structure LoopTrack where
  num : Nat
  mode : Nat
  req : Nat
  selected : Bool := false
  shed : Bool := false
  ramping : Bool := false
  spClamped : Bool := false
  outLimited : Bool := false
  rateLimited : Bool := false
  pvQ : Nat := 3
  extLost : Bool := false
  late : Bool := false
  pv : Nat := 0           -- PV, binary32
  target : Nat            -- sp_target, binary32
  working : Nat           -- SP_WORKING, binary32
  out : Nat               -- OUT, binary32
  f : Nat := 0            -- lag of the reset feedback, binary32, in %
  dTerm : Nat := 0        -- derivative term, binary32
  pvPrev : Nat := 0       -- previous process value in %, binary32
  cand : Nat := 0         -- candidate output, binary32
  rf : Nat := 0           -- reset feedback of the previous execution, binary32
  last : Nat := 0         -- mode of the previous execution (R119, R123)
  extWait : Bool := true  -- a rate source has no whole cycle yet (R125)
  ran : Bool := true      -- executed in the current cycle of its class
  competes : Bool := false
  cut : Bool := false     -- owed an execution cut by R117
  manTarget : Nat := 0    -- output asked for in MAN, binary32 (R121)
  spNew : Bool := false   -- the program has written its set-point value since the last release (R122)
  reqNew : Bool := false  -- and its mode-request value
  outNew : Bool := false  -- and its output value
  count0 : Nat := 0       -- counter of a rate source at the previous release (R125)
  count1 : Nat := 0       -- and at the last release
  bad : Bool := false     -- the cycle between them makes the rate STALE
  badNow : Bool := false  -- the current cycle does so far
  deriving DecidableEq, Repr, Inhabited

/-- A command that the ACTIVE has answered ACCEPTED and not applied yet (R143). -/
structure TrackedCmd where
  op : Op
  pkt : Packet
  prio : Nat
  beat : Nat
  apply : Nat
  epoch : Nat
  deriving DecidableEq, Repr, Inhabited

/-- A session of the ACTIVE with its reply cache (R382, R383). -/
structure TrackedSession where
  id : Nat
  fp : Nat
  priv : Nat
  prio : Nat
  idle : Nat
  grace : Nat
  high : Nat
  cache : List Reply
  deriving DecidableEq, Repr, Inhabited

/-- What the lines and the shared Journal records of a beat hold, in the runtime's terms (R141, R144; log entry 29): the
ACTIVE's MODE, published values and those of open cycles by INDEX, forces, overlay,
owned handles, loop states and coefficients, commands accepted, sessions, the pair's configuration by field key, epochs, the
open cycles of the classes, the Retain partition and the staged program. -/
structure Tracked where
  mode : Nat := 2
  published : List (Nat × Nat) := []
  work : List (Nat × Nat) := []
  forces : List (Nat × Nat) := []
  overlay : List (Nat × Nat) := []
  owners : List (Nat × Nat) := []
  loops : List LoopTrack := []
  coeffs : List (Nat × Nat) := []
  cmds : List TrackedCmd := []
  sessions : List TrackedSession := []
  config : List (Nat × Nat) := []
  gen : Nat := 0              -- program generation
  changePending : Bool := false
  epochs : List (List Nat × Nat) := []  -- role epochs of the units the pair holds, by hops, the pair's own under [] (R361)
  records : List JRec := []             -- shared Journal records of the beat, or all of them at the copy of R144
  runQ : List RunE := []                -- open cycles: tasks released and not ended, what each class and loop class reads (R150)
  seen : List ClassView := []
  loopSeen : List ClassView := []
  spills : List (Nat × ClassView) := []
  groupsRun : List Nat := []            -- select groups whose selection has run in its cycle
  late : List (Nat × Nat) := []         -- publications that an abandoned Commit left open (R40)
  unpublished : List Nat := []
  withheld : List Nat := []
  errQ : List (Nat × Nat) := []         -- error-task runs owed (R105)
  lastGood : List (Nat × Nat) := []     -- last GOOD values (R104)
  status : List (Nat × Nat) := []       -- task and group status that the runtime keeps, by field key (R86, R136)
  slotA : RetainSlot := {}              -- the Retain partition (R144 step 2)
  slotB : RetainSlot := {}
  staged : Option Program := none       -- the program staged on the STANDBY (R166)
  pairKey : Bool := false               -- the pair key, wrapped for this module (R369)
  deriving DecidableEq, Repr, Inhabited

/-- A Gong datagram (R405). -/
structure GongDatagram where
  group : Nat
  target : Nat
  serial : Nat
  signer : Nat
  signature : Nat
  stamp : Nat
  known : Bool            -- the signer's pair certificate is known, chains to the ANCHOR and the signature verifies
  deriving DecidableEq, Repr, Inhabited

/-- The local field samples of an edge (R36, R239): raw DIO states, AO readback in mA and terminal voltage in V
(binary32 bits). -/
structure EdgeIn where
  dio : Nat := 0
  aoMa : List Nat := []
  aoV : List Nat := []
  deriving DecidableEq, Repr, Inhabited

/-- What the ACTIVE hands over with its timebase (R31, R314): ALIGN, filtered offset and holdover bound in ns, rate,
grandmaster (0 none), ms since the last accepted Sync, STEP_PENDING (R61). -/
structure Servo where
  align : Nat := 0
  offset : Int := 0
  bound : Nat := 0
  rate : Nat := 0
  gm : Nat := 0
  since : Nat := 0
  stepPending : Bool := false
  deriving DecidableEq, Repr, Inhabited

/-- What the partner reports in the exchange of R69. -/
structure PartnerInfo where
  hwIssue : Nat
  fw : Nat
  pairId : Nat
  pairMode : Nat
  triad : Nat
  role : Nat
  mode : Nat
  gen : Nat
  atS12 : Bool            -- at S12 of its own START
  serial : Nat
  updating : Bool := false -- a pair update is recorded in its Journal (R69)
  confirmed : Bool := true -- runs confirmed images of the same VERSION in all six types (R535)
  hasActive : Bool := false -- with a change pending: holds the program that was ACTIVE (R173)
  pairKey : Bool := false -- holds the pair key (R369)
  deriving DecidableEq, Repr, Inhabited

/-- A heartbeat (R140): beat index, MODE, ROLE, role epoch, TRIAD, health of the 96 lanes, last beat closed
or received; `handover` when a planned handover is under way. `lossOfLink` is the partner's loss-of-link
report of R216 by lane, and `ready`, `keyStop` what R64 and R154 ask of the partner. -/
structure Heartbeat where
  beat : Nat
  mode : Nat
  role : Nat
  epoch : Nat
  triad : Nat
  lanes : Nat
  lossOfLink : Nat
  lastBeat : Nat
  handover : Bool
  ready : Bool
  keyStop : Bool
  servo : Servo := {}     -- the timebase rides beside it (R31)
  syncing : Bool := false -- the sender is a STANDBY whose state is not current (R144)
  resync : Bool := false  -- the ACTIVE has its partner synchronise anew, or has ended its shadow run (R74, R172, R422)
  deriving DecidableEq, Repr, Inhabited

/-- An upstream or WSL-E frame as the lane controller sees it (R207): link-level validity, header fields,
computed and carried CRC, payload. -/
structure Frame where
  symbolsOk : Bool
  ftype : Nat
  flags : Nat
  beat : Nat
  lane : Nat
  frag : Nat
  epochLo : Nat
  payload : List Nat      -- bytes 16 to 15 + LEN
  crc : Nat
  points : List (Nat × Nat)  -- image sections, decoded by the downloaded configuration (R210): INDEX, value
  deriving DecidableEq, Repr, Inhabited

/-- The prefix of a WSL-E frame (R226). -/
structure WslPrefix where
  magic : Nat
  ver : Nat
  dir : Nat
  station : Nat
  xseq : Nat
  deriving DecidableEq, Repr, Inhabited

/-- A capture result (R267, R269): start time in ns, COUNT or interval, COINCIDENT. -/
structure CapRes where
  time : Nat
  val : Nat
  coincident : Bool := false
  interval : Bool := false
  deriving DecidableEq, Repr, Inhabited

/-- A beat record of a filter lane (R295). -/
structure FaRec where
  value : Nat := 0
  q : Nat := 3
  det : Nat := 0
  cfgSeq : Nat := 0
  ts : Int := 0
  peakMax : Nat := 0
  peakMin : Nat := 0
  rms : Nat := 0
  env : Nat := 0
  deriving DecidableEq, Repr, Inhabited

/-- A sample block (R296): words, CFG_SEQ, RESTART, GAP, timestamp of the first sample. -/
structure FaBlock where
  words : List Nat := []
  cfgSeq : Nat := 0
  restart : Bool := false
  gap : Bool := false
  firstTs : Int := 0
  deriving DecidableEq, Repr, Inhabited

/-- A frozen input image on the pair link (R142): beat, completeness, point values with quality bytes. -/
structure Image where
  beat : Nat
  complete : Bool
  points : List (Nat × Nat × Nat)
  crc : Nat
  cmds : List TrackedCmd := []      -- the commands applied in that Freeze (R168)
  forces : List (Nat × Nat) := []   -- the forces that stand on the ACTIVE, by handle (R169)
  acks : List Nat := []             -- mismatches acknowledged since the last image, by handle (R169)
  dio : List Nat := []              -- the words of DIO0 to DIO15 (R273)
  caps : List (List CapRes) := []   -- results of the capture units (R269)
  fa : List FaRec := []             -- beat records of the filter lanes (R295), and their sample blocks (R296)
  blocks : List FaBlock := []
  enc : List (Nat × Nat) := []      -- COUNT and POSITION_UNCERTAIN of each encoder at the edge (R266)
  deriving DecidableEq, Repr, Inhabited

/-- What the boot finds at a START (R66), step by step. -/
structure StartIn where
  wake : Nat              -- wake code (R514)
  powerOff : Bool         -- entry from power off (power-cycle count, R66 S3)
  railsOk : Bool          -- S1
  feedA : Nat
  feedB : Nat
  key : Nat
  resetHeld : Bool        -- RESET reads closed at S1 (R540)
  side : Nat
  latchValid : Bool       -- LMAGIC and LATCH_CRC (R507)
  supImageOk : Bool       -- S2: the chosen bank
  supOtherOk : Bool       -- S2: the other bank
  sbValid : Bool × Bool   -- S3: superblock copies 0 and 1 read as they were written
  unreadable : Option Nat -- S3: the first record of the live half with a word that reads as invalid (R428), by its place
  torn : Bool             -- S3: behind the last record stands one without a valid COMMIT
  securityOk : Bool       -- S4
  imagesOk : Nat          -- S5: bit t, active image of type t passes its digest
  fallbackOk : Nat        -- S5: bit t, fallback image of type t passes
  copyOk : Nat            -- S5: bit t, the copy of a staged image passes its digest
  clusters : Nat          -- S6: bit c, cluster X, Y, Z passes
  linkLanes : Nat         -- S7: pair-link lanes trained
  partner : Option PartnerInfo
  claimAsserted : Bool
  partnerRun : Bool       -- partner already in RUN, its timebase is taken (R28)
  beat : Nat              -- the partner's beat index, where its timebase is taken (R28)
  rtc : Nat               -- periods of the 32.768 kHz counter since the last PTP time of the Journal (R28)
  servo : Servo := {}     -- the partner's, where its timebase is taken (R28)
  fieldAnswers : Bool     -- S9
  boards : Nat            -- S9: lanes with a board present
  laOk : Nat              -- S9: state of L+A by R255
  lbOk : Nat
  fullHeight : Bool       -- double-height chassis (R24)
  chassisChanged : Bool   -- chassis identity different (R362)
  replaced : Bool         -- a serial number other than the slot held (R362)
  retainA : Bool          -- Retain slot A valid (R101)
  retainB : Bool
  selfTestFail : Nat      -- S11: checks that fail the start-up pass
  notApplicable : Nat     -- checks on hardware not fitted or configured (R145)
  progStored : Option Program -- program of the Image Store program area (S10)
  deriving DecidableEq, Repr, Inhabited

/-- A transaction that leaves a cluster, as the voter compares it (R181): 48-bit address, 64 bytes of write data or the
read-request tag, byte enables, control (type, length, cache attributes, privilege, MPU region, poison bit). `late` counts the
interconnect cycles since the first of the other clusters' (R182). -/
structure Txn where
  addr : Nat
  data : Nat
  be : Nat
  kind : Nat
  len : Nat
  cache : Nat
  priv : Nat
  region : Nat
  poison : Bool
  late : Nat := 0
  deriving DecidableEq, Repr, Inhabited

/-- A received CAN frame (R329, R334). -/
structure CanFrame where
  id : Nat
  ide : Bool
  rtr : Bool
  fdf : Bool
  brs : Bool
  esi : Bool
  len : Nat
  data : Nat
  sof : Nat               -- SOF time in ns of the beat timebase
  atEdge : Bool           -- completes exactly at the coming edge or later (R333)
  deriving DecidableEq, Repr, Inhabited

/-- A fast-analog output sample as the lane's filters deliver it (R285, R296): signed count and magnitude. -/
structure FaSample where
  count : Int             -- VALUE, one count = 12.5 V / 0x7FFFFF or 25 mA / 0x7FFFFF
  deliver : Nat           -- delivery instant in ns of the beat timebase
  deriving DecidableEq, Repr, Inhabited

/-- An Announce (R304, R305) as the best master clock algorithm reads it. -/
structure Announce where
  gm : Nat
  port : Fin 12
  domain : Nat
  prio1 : Nat
  clockClass : Nat
  accuracy : Nat
  variance : Nat
  prio2 : Nat
  steps : Nat
  deriving DecidableEq, Repr, Inhabited

/-- Commands to the AX-960: LCP opcodes (rows 1 to 68), then events and internal steps. -/
inductive Instr where
  | hello (p : Packet) | bye (p : Packet) | ping (p : Packet) | sessionPriority (p : Packet)
  | unitList (p : Packet) | unitInfo (p : Packet) | unitCertGet (p : Packet) | unitEpochGet (p : Packet)
  | modeGet (p : Packet) | modeSet (p : Packet) | restart (p : Packet) | gong (p : Packet) | clearSafe (p : Packet)
  | valueRead (p : Packet) | valueWrite (p : Packet) | constWrite (p : Packet) | valueOwn (p : Packet)
  | valueRelease (p : Packet) | forceSet (p : Packet) | forceClear (p : Packet)
  | objRead (p : Packet) | objWrite (p : Packet)
  | programStage (p : Packet)
  | programChunk (p : Packet) (prog : Option Program)  -- the program a completed image holds, none where it is malformed
  | shadowStart (p : Packet) | shadowCompareGet (p : Packet)
  | promote (p : Packet) | revert (p : Packet) | changeConfirm (p : Packet)
  | pairStatus (p : Packet) | switchover (p : Packet) | healthReport (p : Packet) | resyncStandby (p : Packet)
  | loopRead (p : Packet) | loopModeSet (p : Packet) | loopCoeffSet (p : Packet) | loopSpSet (p : Packet)
  | timeStatus (p : Packet) | chimeSet (p : Packet) | rimshotArm (p : Packet) | captureRead (p : Packet)
  | journalStatus (p : Packet) | rollNow (p : Packet) | recorderFreeze (p : Packet) | recorderRead (p : Packet)
  | recorderThaw (p : Packet) | recorderClear (p : Packet)
  | imageHeader (p : Packet) | imageChunk (p : Packet) | imageCommit (p : Packet) | imageStatus (p : Packet)
  | imageConfirm (p : Packet)
  | csrCreate (p : Packet) | certInstall (p : Packet) | securityStateSet (p : Packet)
  | debugTokenInstall (p : Packet) | auditRead (p : Packet)
  | ioConfigSet (p : Packet) | ioDiagRead (p : Packet) | laneStatus (p : Packet) | canObjSet (p : Packet)
  | powerStatus (p : Packet) | dormantEnter (p : Packet) | powerStats (p : Packet)
  | eventSubscribe (p : Packet) | eventRead (p : Packet) | selftest (p : Packet) | klStatus (p : Packet)
  -- sessions, forwarding, Gong
  | gongDatagramSend
  | gongDatagramReceive (d : GongDatagram)
  | servicePacketCrcFail
  | nonceExpiry
  | sessionTransportLoss (sess : Nat)
  | sessionIdleTimeout (sess : Nat)
  | ownGraceExpiry (sess : Nat)
  | transferTimeout (image : Bool)
  | forwardTimeout (sess seq : Nat)
  | mailboxReply (lane : Fin 96) (sub mbSeq mbOp status : Nat) (len data : Nat)
  | mailboxTimeout (lane : Fin 96) (sub mbSeq : Nat)
  -- the beat
  | beatEdge (inp : EdgeIn)
  | freezeCommandApply
  | imageComplete (offset : Nat)                       -- 0.1 µs from the edge
  -- the lines written: address, 64 bytes; the cluster of the program, where the module is SPLIT
  | taskEnd (task : Fin 32) (writes : List (Nat × Nat)) (exec : Nat) (lines : List (Nat × Nat)) (cluster : Fin 3 := 0)
  | sliceEnd (cls : Fin 5) (used : Nat) (cluster : Fin 3 := 0)           -- slice time used, 0.1 µs
  | loopBlockExecute (loop : Nat) (cluster : Fin 3 := 0)
  | commitStart (unfinished : List Nat) (finish : Nat) -- loop blocks not finished (cluster × 2^14 + loop), engine finish in 0.1 µs
  | commitDone
  | commitLate
  | emitStart
  | trackingCloseSend (resent : List (Nat × Nat)) (allSent : Bool) -- records sent before their line was written again
  | clusterTrimExit (tX tY tZ : Int) (request : Bool)
  | holdTimeout
  | retainMirrorDone
  -- start, pair
  | startSequence (i : StartIn)
  | partnerExchange (i : Option PartnerInfo) (claim : Bool := false) -- none: no answer; the claim line as sampled
  | heartbeatSend (tick : Fin 10) (triadLive supLive : Bool)
  | heartbeatReceive (h : Heartbeat)
  | heartbeatLost (tick : Fin 10)
  | ownHeartbeatStop
  | takeover (tdNs : Nat) (claim : Bool)               -- t_d in ns from edge c+1
  | claimReleasedUnsynced
  | claimProbe (asserted : Bool)
  | pairLinkUp (lanes : Nat)
  | pairLinkDegraded (lane : Fin 2)
  | frozenImageReceive (i : Image)
  | trackingLineReceive (addr data : Nat)
  | outputCloseReceive (beat : Nat) (outs : List (Nat × Nat))
  | trackingCloseReceive (beat count crc imageCrc : Nat) (overflow : Bool) (t : Tracked)
  | syncComplete (prog : Option Program) (t : Tracked) -- the ACTIVE's program where its generation differs
  | healthCheckPass (k : Fin 48)
  | healthCheckDue (k : Fin 48)
  | healthCheckFailed (k : Fin 48)
  | plannedSwitchover
  | shadowRunStart (beat : Nat)                        -- beat s
  | shadowCompare (theirs : List (Nat × Nat × Nat))    -- the other side's values: handle, value, place on the build's lists (R169)
  | revertHandover
  | confirmWindowEnd
  -- triad
  -- what X, Y and Z issue in a cycle, its offset in the beat, and whether the self-test of R183 injects it
  | triadMismatch (x y z : Option Txn) (off : Nat := 0) (injected : Bool := false)
  | resyncStart
  | resyncPassDone (cluster : Fin 3)
  | resyncFinal (cluster : Fin 3)
  | resyncDone (cluster : Fin 3)
  | resyncRetry (cluster : Fin 3)
  | splitClusterFault (cluster : Fin 3) (cause : Nat)
  -- lanes and stations
  | edgeLaunch (lane : Fin 96)
  | delayMeasure (lane : Fin 96)
  -- the two data symbols of the set, 0x80 the second of a response, and its CRC-8
  | delayRespReceive (lane : Fin 96) (seq : Nat) (roundTripNs crc : Nat) (mark : Nat := 0x80)
  | upstreamFrameReceive (lane : Fin 96) (f : Frame)
  | ackSend (lane : Fin 96) (second : Bool)
  | exchangeWindowEnd (lane : Fin 96)
  | lossOfLink (lane : Fin 96)
  | boardInserted (lane : Fin 96) (addr : Nat) (generation type : Nat) (identityOk : Bool) (partCode serial : Nat)
  | crossoverForward (lane : Fin 96) (points : List (Nat × Nat))
  | laneProbe (lane : Fin 96) (reply : Option Frame)      -- what comes back in the retry window
  | crossoverEnd (lane : Fin 96) (cause : Fin 3)       -- 0 link lost, 1 partner START/SAFE/DORMANT, 2 partner lane
  | l3Poll (lane : Fin 96) (board : Fin 8)
  | l3CheckPoll (lane : Fin 96) (board : Fin 8)
  | l3ResponseReceive (lane : Fin 96) (board : Fin 8) (check : Bool) (addrChar status crc : Nat)
      (inputs : List Nat := []) (points : List (Nat × Nat) := []) -- the input bytes, and their values by the downloaded configuration
  | l3ResponseTimeout (lane : Fin 96) (board : Fin 8) (check : Bool)
  | wslFrameReceive (st : Fin 64) (pre : WslPrefix) (f : Frame) (off : Nat := 0) -- received `off` × 5 ns into the beat
  | wslExchangeDeadline (st : Fin 64)
  | wslGateOpen (port : Fin 12)
  | wslGateClose (port : Fin 12) (unsent : Nat)
  -- local field I/O
  | fieldSamplesCross (converterOk : Bool)
  | fieldSamplesLate
  | fieldConverter
  | fieldTimeout
  | dioRampAbort (k : Fin 16)
  | dioOverloadTrip (k : Fin 16)
  | dioRetry (k : Fin 16) (rampOk : Bool)
  | dioRetriesRestore (k : Fin 16)
  | dioOverloadClear (k : Fin 16) (byAck : Bool)
  | dioOvertemp (k : Fin 16)
  | dioCooled (k : Fin 16)
  | dioWire (k : Fin 16) (ext onset : Bool)
  | dioEdge (k : Fin 16) (rising : Bool) (off : Nat)
  | loadSupplyChange (b : Bool) (state : Fin 3)
  | aoOpenLoop (k : Fin 4)
  | aoMiswire (k : Fin 4) (volts : Nat)
  | aoMiswireClear (k : Fin 4)
  | aoReadback (k : Fin 4) (ma : Nat)
  | aoHeadroomLow (k : Fin 4)
  | encIllegal (k : Fin 4)
  | encZ (k : Fin 4) (a b : Bool) (step : Int) (illegal : Bool)
  | encLineFault (k : Fin 4) (line : Fin 3)
  | countPreset (k : Fin 4) (value : Nat)
  | captureEvent (u : Fin 10) (start stop : Bool) (timeNs : Nat)
  | captureIntervalTimeout (u : Fin 10)
  -- filter chain
  | faSampleDeliver (k : Fin 8) (x : FaSample)
  | faChainRestart (k : Fin 8)
  | faLaneFault (k : Fin 8) (cause : Nat)
  | faLaneReload (k : Fin 8)
  -- time
  | ptpSyncReceive (port : Fin 12) (gm : Nat) (rawNs : Int) (domain : Nat := 0) -- boundary instant less origin time and correctionField (R307)
  | delayExchangeComplete (port : Fin 12) (gm : Nat) (rawNs : Int) -- mean delay by the boundary instants (R307)
  | announceReceive (a : Announce)
  | gmChange (gm : Nat) (port : Fin 12)
  | gmLost (cause : Nat)
  | timeLockLost
  | ptpRxError (port : Fin 12)
  | ptpForward (port : Fin 12) (ipv6 trailer : Bool) (correction ingress egress : Int)
  | ppsEdge (off : Nat)                                  -- corrected instant of the edge in the beat, 5 ns
  | ppsLost
  | ppsOutPulse
  | chimePulse (pin : Fin 2)
  | rimshotFired (pin : Fin 2)
  | tpEventPulse (pin : Fin 2)
  -- CAN
  | canFrameReceive (k : Fin 8) (f : CanFrame)
  | canTxComplete (k : Fin 8) (obj : Fin 128)
  | canBusError (k : Fin 8) (kind : Nat) (tx : Option (Fin 128)) (tec rec : Nat)
  | canAckError (k : Fin 8) (obj : Fin 128)
  | canNoPeerResume (k : Fin 8) (obj : Fin 128)
  | canRecover (k : Fin 8)
  | canBusoffRecovery (k : Fin 8)
  | canAbrDwell (k : Fin 8)
  | canControllerFault (k : Fin 8) (cause : Nat)
  | canControllerReload (k : Fin 8)
  -- Journal, recorder, events, faults
  | journalRecordCommit
  | rollCopy
  | rollDone
  | recorderAppend
  | eventDeliver
  | faultArrival
  | faultHandlerEnd (triadCtx : Bool) (time : Nat)       -- time the handler took, 0.1 µs (R39)
  | fatalHandler
  -- watchdog
  | wdService (k : Nat) (w : WdWrite)
  | wdExpired
  | wdAckTimeout
  | wdClockStop
  | wdMonitorClock
  | wdEraseGuard (target : Nat)
  | tollAge
  -- debug, memory protection, identity
  | dbgCmdHalt
  | dbgCmdResume
  | dbgCmdStep
  | dbgCmdEndSession
  | dbgWindowWrite (data : Nat)
  | debugDurationEnd
  | mpuBankSwap (core : Fin 4) (regions : List Nat)      -- the 16 descriptors the runtime has loaded for the next task
  | mpuFault (core : Fin 4) (addr size : Nat) (kind : Fin 3) (priv : Bool) (task : Fin 32)
  | auditLinkCheck
  | certExpiring (slot : Fin 4)
  | certExpired (slot : Fin 4)
  -- power
  | feedChange (b : Bool) (state : Fin 4) (centivolts : Nat)
  | powerdownStart (cut : Option PowerCut := none) -- a rail failure in the sequence, if one cuts it
  | crashDown (rail : Nat)
  | powerdownRestart
  | trimIdleTimer (p : Fin 6) (unit : Nat) (refusers : Nat)   -- refuser bits 1 DMA, 3 LANE_TXN, 5 power-switch sensor
  | trimEntryConfirm (p : Fin 6)
  | trimWake (p : Fin 6) (wake : Nat) (ap : Fin 5)
  | dormantWake (wake : Nat)
  | partnerWakePulse
  -- panel
  | moduleInsert (slotClosed : Bool)
  | moduleRemove
  | keyChange (pos : Fin 4)
  | resetRelease (ms : Nat)
  | stuckReset (atStart : Bool)
  | resetRearm
  | releasePress (ms : Nat)
  | releaseHold
  | okToRemove
  | touchPage
  | touchSelect
  | touchBack
  | touchAck
  | displayTimeout
  -- images
  | imageEraseComplete (held : Nat := 0) (more : Bool := false) -- the erase that ends held the watchdog for `held` µs; more block groups follow
  | supBankProgramDone (held : Nat := 0) (more : Bool := false) -- the same of a sector; the last ends the programming
  | imageAutoConfirm
  | imageRejection (cause : Nat)
  | confirmDeadline
  -- late rows of the table
  | supervisorLockstepMismatch
  | encCountStep (k : Fin 4) (a0 b0 a1 b1 : Bool)
  | ethLinkChange (port : Fin 12) (up : Bool)
  | buttonClosure (release : Bool)
  | panelMessageTimeout
  | holdupBankCharged (decivolts : Nat)
  deriving DecidableEq, Repr

end Sys2Proof
end

