-- ==== Sys2Proof/Machine/Num.lean ====
section
/-! DEFINITION. Numbers: binary32 and binary64 values as rationals, CRCs. Every computation is exact and is rounded
once, to nearest with ties to even, when it is stored (DESIGN CHOICE, log entry 5). -/

namespace Sys2Proof.Machine

/-- 2 to an integer power. -/
def pow2 (e : Int) : Rat := if 0 ≤ e then ((2 ^ e.toNat : Nat) : Rat) else 1 / ((2 ^ (-e).toNat : Nat) : Rat)

/-- A binary32 word is a NaN or an infinity (R580). -/
def f32Bad (w : Nat) : Bool := w / 2 ^ 23 % 256 == 255

/-- The number a finite binary32 word holds; a NaN or an infinity, which no field takes, counts as 0. -/
def f32 (w : Nat) : Rat :=
  let e : Nat := w / 2 ^ 23 % 256
  let m : Nat := w % 2 ^ 23
  let a : Rat :=
    if e = 255 then 0
    else if e = 0 then (m : Rat) * pow2 (-149)
    else ((m + 2 ^ 23 : Nat) : Rat) * pow2 ((e : Int) - 150)
  if w / 2 ^ 31 % 2 = 1 then -a else a

/-- Nearest integer to a non-negative rational, ties to even. -/
def roundNat (r : Rat) : Nat :=
  let n := r.num.toNat
  let q := n / r.den
  let m := n % r.den
  if 2 * m < r.den then q else if 2 * m > r.den then q + 1 else if q % 2 = 0 then q else q + 1

/-- The exponent of the leading bit of a positive rational: the greatest e with 2^e at most r. -/
def floorLog2 (r : Rat) : Int :=
  let e : Int := (r.num.toNat.log2 : Int) - (r.den.log2 : Int)
  if pow2 e ≤ r then e else e - 1

/-- The word of a format with `p` significand bits after the leading one and exponent bias `b` nearest to `r`; a number
too large gives the largest finite word. -/
def floatOf (p b : Nat) (r : Rat) : Nat :=
  let sign := if r < 0 then 1 else 0
  let a := if r < 0 then -r else r
  let w :=
    if a = 0 then 0
    else
      let emin : Int := 1 - (b : Int)
      let e := if floorLog2 a < emin then emin else floorLog2 a
      let q := roundNat (a * pow2 ((p : Int) - e))
      -- q carries the leading bit for a normal number, and into the exponent when it rounds up
      let base := (e - emin).toNat * 2 ^ p
      let w := if q < 2 ^ p ∧ e = emin then q else base + q
      if w ≥ (2 * b + 1) * 2 ^ p then (2 * b + 1) * 2 ^ p - 1 else w
  w + sign * 2 ^ (p + (if p = 23 then 8 else 11))

/-- The binary32 word nearest to a rational. -/
def toF32 (r : Rat) : Nat := floatOf 23 127 r

/-- The binary64 word nearest to a rational. -/
def toF64 (r : Rat) : Nat := floatOf 52 1023 r

/-- The number a finite binary64 word holds. -/
def f64 (w : Nat) : Rat :=
  let e : Nat := w / 2 ^ 52 % 2048
  let m : Nat := w % 2 ^ 52
  let a : Rat :=
    if e = 2047 then 0
    else if e = 0 then (m : Rat) * pow2 (-1074)
    else ((m + 2 ^ 52 : Nat) : Rat) * pow2 ((e : Int) - 1075)
  if w / 2 ^ 63 % 2 = 1 then -a else a

/-- `r` held between two limits. -/
def clampR (r lo hi : Rat) : Rat := if r < lo then lo else if hi < r then hi else r

/-- Least and greatest of two rationals. -/
def minR (a b : Rat) : Rat := if a ≤ b then a else b
def maxR (a b : Rat) : Rat := if a ≤ b then b else a

/-- One step of a reflected CRC over a bit. -/
def crcBit (poly c : Nat) : Nat := if c % 2 = 1 then (c / 2) ^^^ poly else c / 2

/-- A byte into a reflected CRC. -/
def crcByte (poly c b : Nat) : Nat := (List.range 8).foldl (fun a _ => crcBit poly a) (c ^^^ b)

/-- CRC-32C of a list of bytes (R402): reflected polynomial 0x82F63B78, initial value and final XOR all ones. -/
def crc32c (bytes : List Nat) : Nat := (bytes.foldl (crcByte 0x82F63B78) 0xFFFFFFFF) ^^^ 0xFFFFFFFF

/-- One step of a CRC of `w` bits that is not reflected. -/
def crcStep (w poly c : Nat) : Nat := if bitOf c (w - 1) then (2 * c % 2 ^ w) ^^^ poly else 2 * c % 2 ^ w

/-- A CRC of `w` bits, each byte entering most significant bit first, with no final XOR. -/
def crcOf (w poly init : Nat) (bytes : List Nat) : Nat :=
  bytes.foldl (fun c b => (List.range 8).foldl (fun a _ => crcStep w poly a) (c ^^^ (b * 2 ^ (w - 8)))) init

/-- CRC-8 of an ordered set (R202). -/
def crc8 (bytes : List Nat) : Nat := crcOf 8 0x07 0 bytes

/-- CRC-16 of L3 characters (R222). -/
def crc16 (bytes : List Nat) : Nat := crcOf 16 0x1021 0xFFFF bytes

/-- The number that little-endian bytes spell. -/
def ofBytes (l : List Nat) : Nat := l.foldr (fun b n => b + 256 * n) 0

/-- The bytes of a little-endian number. -/
def bytesOf (n v : Nat) : List Nat := (List.range n).map (fun i => v / 256 ^ i % 256)

/-- The highest number of a list. -/
def listMax (l : List Nat) : Nat := l.foldl max 0

/-- A number in its place in an ascending list, once. -/
def insertNat (a : Nat) : List Nat → List Nat
  | [] => [a]
  | b :: t => if a < b then a :: b :: t else if a = b then b :: t else b :: insertNat a t

/-- The numbers of a list in ascending order, each once. -/
def ascending (l : List Nat) : List Nat := l.foldl (fun acc a => insertNat a acc) []

/-- Square root of `n` from below, bit by bit: `k` bits are still open under `r`. -/
def sqrtFrom (n : Nat) : Nat → Nat → Nat
  | 0, r => r
  | k + 1, r => sqrtFrom n k (if (r + 2 ^ k) * (r + 2 ^ k) ≤ n then r + 2 ^ k else r)

/-- The integer square root. -/
def natSqrt (n : Nat) : Nat := sqrtFrom n (n.log2 / 2 + 1) 0

end Sys2Proof.Machine
end

