-- ==== Sys2Proof/Config.lean ====
section
/-! DEFINITION. What an implementation fixes and the spec leaves open: every constant here has no body, so that no proof
can rest on its value. -/

namespace Sys2Proof

/-- A value the spec leaves open; the step draws the next one from a counter of the state. -/
opaque Config.freeValue : Nat → Nat

/-- The first 8 bytes of SHA-384 over an audit record (R490): the hash function is named, not given. -/
opaque Config.sha384 : Nat → Nat

/-- The data words of an image section: SUB, STYPE and the values by INDEX, in the positions that the downloaded configuration
sets (R210). The spec gives no layout. -/
opaque Config.imageWords : Nat → Nat → List (Nat × Nat) → List Nat

/-- The output bytes of an L3 board's cyclic poll, from its values by INDEX (R222). The spec gives no layout. -/
opaque Config.l3Outputs : List (Nat × Nat) → List Nat

end Sys2Proof
end

