-- ==== Sys2Proof/Machine/Fields.lean ====
section
/-! DEFINITION. The object map: every field of every object that OBJ_READ and OBJ_WRITE reach, written down from
the object tables of the chapters (R373 lays the map out; the rule of each group is named beside it). -/

namespace Sys2Proof.Machine

/-- The access codes of R8. -/
inductive Acc where
  | ro | rw | w1c | wo | rs
  deriving DecidableEq, Repr

/-- The values a field accepts (R580), as its meaning lists them. -/
inductive Rng where
  | any
  | nat (lo hi : Nat)
  | int (lo hi : Int)
  | real (lo hi : Option (Int × Nat))   -- binary32 between two rationals
  | port                                -- 0 to 11 or 0xFF (R237)
  | src                                 -- capture sources of R278
  | tsrc                                -- capture sources of R320
  | canlen                              -- CAN FD lengths (R350)
  | addr64                              -- multiples of 64 in 48 bits (R494)
  | fir                                 -- coefficients of R301
  deriving DecidableEq, Repr

/-- The modes in which a field may be written (R345, R373 and the field's own row). -/
inductive WMode where
  | all | stop | stopStart | notHold
  deriving DecidableEq, Repr

/-- One field of the object map. `home` is the key of its value in `State.regs` for instance 0; a field that shows
another field's value has that field's key. -/
structure Fld where
  home : Nat
  obj : Nat
  cnt : Nat
  sub : Nat
  lo : Nat
  w : Nat
  dflt : Nat
  acc : Acc
  rng : Rng := .any
  wmode : WMode := .all
  deriving DecidableEq, Repr

/-- Key of the field in instance `k` of its object; the instances of an object of `cnt` instances are numbered below `cnt`. -/
def fldKey (f : Fld) (k : Nat) : Nat := f.home + k % f.cnt * 4194304

/-! Group of objects 0x0000 (spec/13_units_and_identity.md R375), 1 instance. -/
def F.unitType : Fld := { home := 16384, obj := 0x0000, cnt := 1, sub := 1, lo := 0, w := 16, dflt := 2, acc := .ro }
def F.partCode : Fld := { home := 32768, obj := 0x0000, cnt := 1, sub := 2, lo := 0, w := 32, dflt := 0, acc := .ro }
def F.serial : Fld := { home := 49152, obj := 0x0000, cnt := 1, sub := 3, lo := 0, w := 64, dflt := 0, acc := .ro }
def F.hwIssue : Fld := { home := 65536, obj := 0x0000, cnt := 1, sub := 4, lo := 0, w := 8, dflt := 1, acc := .ro }
def F.fwRelease : Fld := { home := 81920, obj := 0x0000, cnt := 1, sub := 5, lo := 0, w := 32, dflt := 0x01000000, acc := .ro }
def F.vouched : Fld := { home := 98304, obj := 0x0000, cnt := 1, sub := 6, lo := 0, w := 8, dflt := 0, acc := .ro }
def F.unitStatus : Fld := { home := 114688, obj := 0x0000, cnt := 1, sub := 7, lo := 0, w := 8, dflt := 3, acc := .ro }
def F.children : Fld := { home := 131072, obj := 0x0000, cnt := 1, sub := 8, lo := 0, w := 16, dflt := 0, acc := .ro }
def F.groupUnit : List Fld :=
  [F.unitType, F.partCode, F.serial, F.hwIssue, F.fwRelease, F.vouched,
   F.unitStatus, F.children]

/-! Group of objects 0x0001 (spec/13_units_and_identity.md R376), 1 instance. -/
def F.epoch : Fld := { home := 4210688, obj := 0x0001, cnt := 1, sub := 1, lo := 0, w := 32, dflt := 1, acc := .ro }
def F.unitRole : Fld := { home := 4227072, obj := 0x0001, cnt := 1, sub := 2, lo := 0, w := 8, dflt := 0, acc := .ro }
def F.lastChangeBeat : Fld := { home := 4243456, obj := 0x0001, cnt := 1, sub := 3, lo := 0, w := 64, dflt := 0, acc := .ro }
def F.lastEpochCause : Fld := { home := 4259840, obj := 0x0001, cnt := 1, sub := 4, lo := 0, w := 8, dflt := 0, acc := .ro }
def F.groupEpoch : List Fld :=
  [F.epoch, F.unitRole, F.lastChangeBeat, F.lastEpochCause]

/-! Group of objects 0x0010 (spec/03_modes_and_startup.md R77), 1 instance. -/
def F.mode : Fld := { home := 67108864, obj := 0x0010, cnt := 1, sub := 0, lo := 0, w := 3, dflt := 1, acc := .ro }
def F.role : Fld := { home := 67108867, obj := 0x0010, cnt := 1, sub := 0, lo := 3, w := 3, dflt := 0, acc := .ro }
def F.sec : Fld := { home := 67108870, obj := 0x0010, cnt := 1, sub := 0, lo := 6, w := 2, dflt := 0, acc := .ro }
def F.dbg : Fld := { home := 67108872, obj := 0x0010, cnt := 1, sub := 0, lo := 8, w := 2, dflt := 0, acc := .ro }
def F.pwr : Fld := { home := 67108874, obj := 0x0010, cnt := 1, sub := 0, lo := 10, w := 2, dflt := 0, acc := .ro }
def F.triad : Fld := { home := 67108876, obj := 0x0010, cnt := 1, sub := 0, lo := 12, w := 2, dflt := 0, acc := .ro }
def F.ready : Fld := { home := 67108878, obj := 0x0010, cnt := 1, sub := 0, lo := 14, w := 1, dflt := 0, acc := .ro }
def F.claim : Fld := { home := 67108879, obj := 0x0010, cnt := 1, sub := 0, lo := 15, w := 1, dflt := 0, acc := .ro }
def F.key : Fld := { home := 67108880, obj := 0x0010, cnt := 1, sub := 0, lo := 16, w := 2, dflt := 0, acc := .ro }
def F.surge : Fld := { home := 67108882, obj := 0x0010, cnt := 1, sub := 0, lo := 18, w := 1, dflt := 0, acc := .ro }
def F.timeLocked : Fld := { home := 67108883, obj := 0x0010, cnt := 1, sub := 0, lo := 19, w := 1, dflt := 0, acc := .ro }
def F.safeCause : Fld := { home := 67108884, obj := 0x0010, cnt := 1, sub := 0, lo := 20, w := 4, dflt := 0, acc := .ro }
def F.toll : Fld := { home := 67108888, obj := 0x0010, cnt := 1, sub := 0, lo := 24, w := 4, dflt := 0, acc := .ro }
def F.modRs : Fld := { home := 67108892, obj := 0x0010, cnt := 1, sub := 0, lo := 28, w := 4, dflt := 0, acc := .rs }
def F.groupMod : List Fld :=
  [F.mode, F.role, F.sec, F.dbg, F.pwr, F.triad,
   F.ready, F.claim, F.key, F.surge, F.timeLocked, F.safeCause,
   F.toll, F.modRs]

/-! Group of objects 0x0011 (spec/02_beat.md R32/R33), 1 instance. -/
def F.beatIndex : Fld := { home := 71319552, obj := 0x0011, cnt := 1, sub := 1, lo := 0, w := 64, dflt := 0, acc := .ro }
def F.align : Fld := { home := 71335936, obj := 0x0011, cnt := 1, sub := 2, lo := 0, w := 2, dflt := 0, acc := .ro }
def F.stepPending : Fld := { home := 71335938, obj := 0x0011, cnt := 1, sub := 2, lo := 2, w := 1, dflt := 0, acc := .ro }
def F.freezeLate : Fld := { home := 71335939, obj := 0x0011, cnt := 1, sub := 2, lo := 3, w := 1, dflt := 0, acc := .w1c }
def F.reserveExceeded : Fld := { home := 71335940, obj := 0x0011, cnt := 1, sub := 2, lo := 4, w := 1, dflt := 0, acc := .w1c }
def F.commitLate : Fld := { home := 71335941, obj := 0x0011, cnt := 1, sub := 2, lo := 5, w := 1, dflt := 0, acc := .w1c }
def F.beatRs : Fld := { home := 71335942, obj := 0x0011, cnt := 1, sub := 2, lo := 6, w := 10, dflt := 0, acc := .rs }
def F.minIdle : Fld := { home := 71335952, obj := 0x0011, cnt := 1, sub := 2, lo := 16, w := 16, dflt := 0, acc := .ro }
def F.edgeOffset : Fld := { home := 71352320, obj := 0x0011, cnt := 1, sub := 3, lo := 0, w := 32, dflt := 0, acc := .ro }
def F.damperCount : Fld := { home := 71368704, obj := 0x0011, cnt := 1, sub := 4, lo := 0, w := 32, dflt := 0, acc := .ro }
def F.reservePeak : Fld := { home := 71385088, obj := 0x0011, cnt := 1, sub := 5, lo := 0, w := 16, dflt := 0, acc := .ro }
def F.groupBeat : List Fld :=
  [F.beatIndex, F.align, F.stepPending, F.freezeLate, F.reserveExceeded, F.commitLate,
   F.beatRs, F.minIdle, F.edgeOffset, F.damperCount, F.reservePeak]

/-! Group of objects 0x0012 (spec/07_triad.md R196/R197), 1 instance. -/
def F.triadAlias : Fld := { home := 67108876, obj := 0x0012, cnt := 1, sub := 0, lo := 0, w := 2, dflt := 0, acc := .ro }
def F.isolated : Fld := { home := 75497474, obj := 0x0012, cnt := 1, sub := 0, lo := 2, w := 3, dflt := 0, acc := .ro }
def F.retired : Fld := { home := 75497477, obj := 0x0012, cnt := 1, sub := 0, lo := 5, w := 3, dflt := 0, acc := .ro }
def F.resyncPhase : Fld := { home := 75497480, obj := 0x0012, cnt := 1, sub := 0, lo := 8, w := 3, dflt := 0, acc := .ro }
def F.resyncTarget : Fld := { home := 75497483, obj := 0x0012, cnt := 1, sub := 0, lo := 11, w := 2, dflt := 3, acc := .ro }
def F.surgeAlias : Fld := { home := 67108882, obj := 0x0012, cnt := 1, sub := 0, lo := 13, w := 1, dflt := 0, acc := .ro }
def F.surgeBlock : Fld := { home := 75497486, obj := 0x0012, cnt := 1, sub := 0, lo := 14, w := 3, dflt := 0, acc := .ro }
def F.triadRs : Fld := { home := 75497489, obj := 0x0012, cnt := 1, sub := 0, lo := 17, w := 15, dflt := 0, acc := .rs }
def F.resyncCountX : Fld := { home := 75513856, obj := 0x0012, cnt := 1, sub := 1, lo := 0, w := 8, dflt := 0, acc := .ro }
def F.resyncCountY : Fld := { home := 75530240, obj := 0x0012, cnt := 1, sub := 2, lo := 0, w := 8, dflt := 0, acc := .ro }
def F.resyncCountZ : Fld := { home := 75546624, obj := 0x0012, cnt := 1, sub := 3, lo := 0, w := 8, dflt := 0, acc := .ro }
def F.mismatchTotal : Fld := { home := 75563008, obj := 0x0012, cnt := 1, sub := 4, lo := 0, w := 32, dflt := 0, acc := .ro }
def F.lastMismatchBeat : Fld := { home := 75579392, obj := 0x0012, cnt := 1, sub := 5, lo := 0, w := 64, dflt := 0, acc := .ro }
def F.lastResyncTime : Fld := { home := 75595776, obj := 0x0012, cnt := 1, sub := 6, lo := 0, w := 32, dflt := 0, acc := .ro }
def F.tempMax : Fld := { home := 75612160, obj := 0x0012, cnt := 1, sub := 7, lo := 0, w := 16, dflt := 0, acc := .ro }
def F.surgeLeft : Fld := { home := 75628544, obj := 0x0012, cnt := 1, sub := 8, lo := 0, w := 16, dflt := 2000, acc := .ro }
def F.cooldownLeft : Fld := { home := 75644928, obj := 0x0012, cnt := 1, sub := 9, lo := 0, w := 16, dflt := 0, acc := .ro }
def F.groupTriad : List Fld :=
  [F.triadAlias, F.isolated, F.retired, F.resyncPhase, F.resyncTarget, F.surgeAlias,
   F.surgeBlock, F.triadRs, F.resyncCountX, F.resyncCountY, F.resyncCountZ, F.mismatchTotal,
   F.lastMismatchBeat, F.lastResyncTime, F.tempMax, F.surgeLeft, F.cooldownLeft]

/-! Group of objects 0x0020 (spec/13_units_and_identity.md R377), 4 instances. -/
def F.certState : Fld := { home := 134234112, obj := 0x0020, cnt := 4, sub := 1, lo := 0, w := 8, dflt := 0, acc := .ro }
def F.certNotBefore : Fld := { home := 134250496, obj := 0x0020, cnt := 4, sub := 2, lo := 0, w := 64, dflt := 0, acc := .ro }
def F.certNotAfter : Fld := { home := 134266880, obj := 0x0020, cnt := 4, sub := 3, lo := 0, w := 64, dflt := 0, acc := .ro }
def F.certFingerprint : Fld := { home := 134283264, obj := 0x0020, cnt := 4, sub := 4, lo := 0, w := 384, dflt := 0, acc := .ro }
def F.groupCert : List Fld :=
  [F.certState, F.certNotBefore, F.certNotAfter, F.certFingerprint]

/-! Group of objects 0x1000 (spec/03_modes_and_startup.md R72), 1 instance. -/
def F.startMode : Fld := { home := 17179885568, obj := 0x1000, cnt := 1, sub := 1, lo := 0, w := 8, dflt := 0, acc := .rw, rng := .nat 0 2 }
def F.wslDownPorts : Fld := { home := 17179901952, obj := 0x1000, cnt := 1, sub := 2, lo := 0, w := 16, dflt := 0, acc := .rw, rng := .nat 0 0x0FFF, wmode := .stop }
def F.wslUpPorts : Fld := { home := 17179918336, obj := 0x1000, cnt := 1, sub := 3, lo := 0, w := 16, dflt := 0, acc := .rw, rng := .nat 0 0x0FFF, wmode := .stop }
def F.forwardTimeout : Fld := { home := 17179934720, obj := 0x1000, cnt := 1, sub := 4, lo := 0, w := 32, dflt := 2000, acc := .rw, rng := .nat 100 60000 }
def F.groupModCfg : List Fld :=
  [F.startMode, F.wslDownPorts, F.wslUpPorts, F.forwardTimeout]

/-! Group of objects 0x1010 (spec/07_triad.md R198), 1 instance. -/
def F.bootSplit : Fld := { home := 17246994432, obj := 0x1010, cnt := 1, sub := 1, lo := 0, w := 8, dflt := 0, acc := .rw, rng := .nat 0 1, wmode := .stopStart }
def F.surgePolicy : Fld := { home := 17247010816, obj := 0x1010, cnt := 1, sub := 2, lo := 0, w := 8, dflt := 0, acc := .rw, rng := .nat 0 2 }
def F.surgeThreshold : Fld := { home := 17247027200, obj := 0x1010, cnt := 1, sub := 3, lo := 0, w := 8, dflt := 90, acc := .rw, rng := .nat 50 100 }
def F.dualSwitchover : Fld := { home := 17247043584, obj := 0x1010, cnt := 1, sub := 4, lo := 0, w := 8, dflt := 1, acc := .rw, rng := .nat 0 1 }
def F.groupTriadCfg : List Fld :=
  [F.bootSplit, F.surgePolicy, F.surgeThreshold, F.dualSwitchover]

/-! Group of objects 0x1020 (spec/14_lcp_protocol.md R407), 1 instance. -/
def F.sessionIdle : Fld := { home := 17314103296, obj := 0x1020, cnt := 1, sub := 1, lo := 0, w := 16, dflt := 30, acc := .rw, rng := .nat 5 3600 }
def F.ownGrace : Fld := { home := 17314119680, obj := 0x1020, cnt := 1, sub := 2, lo := 0, w := 16, dflt := 10, acc := .rw, rng := .nat 0 600 }
def F.lcpEnable : Fld := { home := 17314136064, obj := 0x1020, cnt := 1, sub := 3, lo := 0, w := 16, dflt := 0x0FF0, acc := .rw, rng := .nat 0 0x0FFF }
def F.pairIp : Fld := { home := 17314152448, obj := 0x1020, cnt := 1, sub := 4, lo := 0, w := 128, dflt := 0, acc := .rw }
def F.gongGroup : Fld := { home := 17314168832, obj := 0x1020, cnt := 1, sub := 5, lo := 0, w := 16, dflt := 0, acc := .rw }
def F.gongAddress : Fld := { home := 17314185216, obj := 0x1020, cnt := 1, sub := 6, lo := 0, w := 128, dflt := 0, acc := .rw }
def F.gongPorts : Fld := { home := 17314201600, obj := 0x1020, cnt := 1, sub := 7, lo := 0, w := 16, dflt := 0, acc := .rw, rng := .nat 0 0x0FFF }
def F.groupLcpCfg : List Fld :=
  [F.sessionIdle, F.ownGrace, F.lcpEnable, F.pairIp, F.gongGroup, F.gongAddress,
   F.gongPorts]

/-! Group of objects 0x1021 (spec/14_lcp_protocol.md R408), 1 instance. -/
def F.sessions : Fld := { home := 17318297600, obj := 0x1021, cnt := 1, sub := 1, lo := 0, w := 8, dflt := 0, acc := .ro }
def F.held : Fld := { home := 17318313984, obj := 0x1021, cnt := 1, sub := 2, lo := 0, w := 8, dflt := 0, acc := .ro }
def F.conflicts : Fld := { home := 17318330368, obj := 0x1021, cnt := 1, sub := 3, lo := 0, w := 32, dflt := 0, acc := .ro }
def F.replays : Fld := { home := 17318346752, obj := 0x1021, cnt := 1, sub := 4, lo := 0, w := 32, dflt := 0, acc := .ro }
def F.svcCrcErrors : Fld := { home := 17318363136, obj := 0x1021, cnt := 1, sub := 5, lo := 0, w := 32, dflt := 0, acc := .ro }
def F.ownedHandles : Fld := { home := 17318379520, obj := 0x1021, cnt := 1, sub := 6, lo := 0, w := 16, dflt := 0, acc := .ro }
def F.lastGongBeat : Fld := { home := 17318395904, obj := 0x1021, cnt := 1, sub := 7, lo := 0, w := 64, dflt := 0, acc := .ro }
def F.groupLcpStat : List Fld :=
  [F.sessions, F.held, F.conflicts, F.replays, F.svcCrcErrors, F.ownedHandles,
   F.lastGongBeat]

/-! Group of objects 0x1030 (spec/21_front_panel.md R548), 1 instance. -/
def F.resetState : Fld := { home := 17381195776, obj := 0x1030, cnt := 1, sub := 0, lo := 0, w := 2, dflt := 0, acc := .ro }
def F.releaseState : Fld := { home := 17381195778, obj := 0x1030, cnt := 1, sub := 0, lo := 2, w := 2, dflt := 0, acc := .ro }
def F.page : Fld := { home := 17381195780, obj := 0x1030, cnt := 1, sub := 0, lo := 4, w := 3, dflt := 0, acc := .ro }
def F.displayOn : Fld := { home := 17381195783, obj := 0x1030, cnt := 1, sub := 0, lo := 7, w := 1, dflt := 1, acc := .ro }
def F.leds : Fld := { home := 17381195784, obj := 0x1030, cnt := 1, sub := 0, lo := 8, w := 12, dflt := 0, acc := .ro }
def F.panelRs : Fld := { home := 17381195796, obj := 0x1030, cnt := 1, sub := 0, lo := 20, w := 12, dflt := 0, acc := .rs }
def F.resetCount : Fld := { home := 17381212160, obj := 0x1030, cnt := 1, sub := 1, lo := 0, w := 32, dflt := 0, acc := .ro }
def F.stuckCount : Fld := { home := 17381228544, obj := 0x1030, cnt := 1, sub := 2, lo := 0, w := 32, dflt := 0, acc := .ro }
def F.releaseCount : Fld := { home := 17381244928, obj := 0x1030, cnt := 1, sub := 3, lo := 0, w := 32, dflt := 0, acc := .ro }
def F.groupPanel : List Fld :=
  [F.resetState, F.releaseState, F.page, F.displayOn, F.leds, F.panelRs,
   F.resetCount, F.stuckCount, F.releaseCount]

/-! Group of objects 0x1031 (spec/21_front_panel.md R549), 1 instance. -/
def F.displayTimeout : Fld := { home := 17385406464, obj := 0x1031, cnt := 1, sub := 1, lo := 0, w := 16, dflt := 600, acc := .rw, rng := .nat 10 3600 }
def F.groupPanelCfg : List Fld :=
  [F.displayTimeout]

/-! Group of objects 0x2000 (spec/08_station_link.md R234/R235), 96 instances. -/
def F.laneLink : Fld := { home := 34359738368, obj := 0x2000, cnt := 96, sub := 0, lo := 0, w := 1, dflt := 0, acc := .ro }
def F.laneModeNow : Fld := { home := 34359738369, obj := 0x2000, cnt := 96, sub := 0, lo := 1, w := 2, dflt := 0, acc := .ro }
def F.laneState : Fld := { home := 34359738371, obj := 0x2000, cnt := 96, sub := 0, lo := 3, w := 3, dflt := 0, acc := .ro }
def F.laneHolder : Fld := { home := 34359738374, obj := 0x2000, cnt := 96, sub := 0, lo := 6, w := 2, dflt := 0, acc := .ro }
def F.laneStaleRun : Fld := { home := 34359738376, obj := 0x2000, cnt := 96, sub := 0, lo := 8, w := 4, dflt := 0, acc := .ro }
def F.laneRs : Fld := { home := 34359738380, obj := 0x2000, cnt := 96, sub := 0, lo := 12, w := 4, dflt := 0, acc := .rs }
def F.laneBoards : Fld := { home := 34359738384, obj := 0x2000, cnt := 96, sub := 0, lo := 16, w := 8, dflt := 0, acc := .ro }
def F.laneRs2 : Fld := { home := 34359738392, obj := 0x2000, cnt := 96, sub := 0, lo := 24, w := 8, dflt := 0, acc := .rs }
def F.laneRetries : Fld := { home := 34359754752, obj := 0x2000, cnt := 96, sub := 1, lo := 0, w := 32, dflt := 0, acc := .ro }
def F.laneStaleBeats : Fld := { home := 34359771136, obj := 0x2000, cnt := 96, sub := 2, lo := 0, w := 32, dflt := 0, acc := .ro }
def F.laneFailures : Fld := { home := 34359787520, obj := 0x2000, cnt := 96, sub := 3, lo := 0, w := 32, dflt := 0, acc := .ro }
def F.laneDownMiss : Fld := { home := 34359803904, obj := 0x2000, cnt := 96, sub := 4, lo := 0, w := 32, dflt := 0, acc := .ro }
def F.laneDuplicates : Fld := { home := 34359820288, obj := 0x2000, cnt := 96, sub := 5, lo := 0, w := 32, dflt := 0, acc := .ro }
def F.laneDelay : Fld := { home := 34359836672, obj := 0x2000, cnt := 96, sub := 6, lo := 0, w := 32, dflt := 0, acc := .ro }
def F.laneDelayReject : Fld := { home := 34359853056, obj := 0x2000, cnt := 96, sub := 7, lo := 0, w := 32, dflt := 0, acc := .ro }
def F.laneEpochReject : Fld := { home := 34359869440, obj := 0x2000, cnt := 96, sub := 8, lo := 0, w := 32, dflt := 0, acc := .ro }
def F.laneBadFrame : Fld := { home := 34359885824, obj := 0x2000, cnt := 96, sub := 9, lo := 0, w := 32, dflt := 0, acc := .ro }
def F.laneLastFail : Fld := { home := 34359902208, obj := 0x2000, cnt := 96, sub := 10, lo := 0, w := 64, dflt := 0, acc := .ro }
def F.groupLane : List Fld :=
  [F.laneLink, F.laneModeNow, F.laneState, F.laneHolder, F.laneStaleRun, F.laneRs,
   F.laneBoards, F.laneRs2, F.laneRetries, F.laneStaleBeats, F.laneFailures, F.laneDownMiss,
   F.laneDuplicates, F.laneDelay, F.laneDelayReject, F.laneEpochReject, F.laneBadFrame, F.laneLastFail]

/-! Group of objects 0x2100 (spec/08_station_link.md R236), 96 instances. -/
def F.laneMode : Fld := { home := 35433496576, obj := 0x2100, cnt := 96, sub := 1, lo := 0, w := 8, dflt := 0, acc := .rw, rng := .nat 0 3, wmode := .stop }
def F.staleLimit : Fld := { home := 35433512960, obj := 0x2100, cnt := 96, sub := 2, lo := 0, w := 8, dflt := 3, acc := .rw, rng := .nat 1 16 }
def F.restoreLimit : Fld := { home := 35433529344, obj := 0x2100, cnt := 96, sub := 3, lo := 0, w := 8, dflt := 3, acc := .rw, rng := .nat 1 16 }
def F.boardTimeout : Fld := { home := 35433545728, obj := 0x2100, cnt := 96, sub := 4, lo := 0, w := 16, dflt := 20, acc := .rw, rng := .nat 1 1000 }
def F.l3Boards : Fld := { home := 35433562112, obj := 0x2100, cnt := 96, sub := 5, lo := 0, w := 8, dflt := 0, acc := .rw }
def F.expectedType : Fld := { home := 35433578496, obj := 0x2100, cnt := 96, sub := 6, lo := 0, w := 32, dflt := 0, acc := .rw }
def F.groupLaneCfg : List Fld :=
  [F.laneMode, F.staleLimit, F.restoreLimit, F.boardTimeout, F.l3Boards, F.expectedType]

/-! Group of objects 0x2200 (spec/08_station_link.md R237), 64 instances. -/
def F.wslPort : Fld := { home := 36507238400, obj := 0x2200, cnt := 64, sub := 1, lo := 0, w := 8, dflt := 0xFF, acc := .rw, rng := .port }
def F.wslStation : Fld := { home := 36507254784, obj := 0x2200, cnt := 64, sub := 2, lo := 0, w := 32, dflt := 0, acc := .rw }
def F.wslGroup : Fld := { home := 36507271168, obj := 0x2200, cnt := 64, sub := 3, lo := 0, w := 48, dflt := 0, acc := .rw }
def F.wslVid : Fld := { home := 36507287552, obj := 0x2200, cnt := 64, sub := 4, lo := 0, w := 16, dflt := 100, acc := .rw, rng := .nat 1 4094 }
def F.wslPcp : Fld := { home := 36507303936, obj := 0x2200, cnt := 64, sub := 5, lo := 0, w := 8, dflt := 6, acc := .rw, rng := .nat 0 7 }
def F.wslEthertype : Fld := { home := 36507320320, obj := 0x2200, cnt := 64, sub := 6, lo := 0, w := 16, dflt := 0x88B5, acc := .rw }
def F.wslGateLen : Fld := { home := 36507336704, obj := 0x2200, cnt := 64, sub := 7, lo := 0, w := 16, dflt := 100, acc := .rw, rng := .nat 10 230 }
def F.wslStaleLimit : Fld := { home := 36507353088, obj := 0x2200, cnt := 64, sub := 8, lo := 0, w := 8, dflt := 3, acc := .rw, rng := .nat 1 16 }
def F.wslRestoreLimit : Fld := { home := 36507369472, obj := 0x2200, cnt := 64, sub := 9, lo := 0, w := 8, dflt := 3, acc := .rw, rng := .nat 1 16 }
def F.wslState : Fld := { home := 36507385856, obj := 0x2200, cnt := 64, sub := 10, lo := 0, w := 8, dflt := 0, acc := .ro }
def F.wslBeatMismatch : Fld := { home := 36507402240, obj := 0x2200, cnt := 64, sub := 11, lo := 0, w := 32, dflt := 0, acc := .ro }
def F.wslGateOverrun : Fld := { home := 36507418624, obj := 0x2200, cnt := 64, sub := 12, lo := 0, w := 32, dflt := 0, acc := .ro }
def F.groupWsl : List Fld :=
  [F.wslPort, F.wslStation, F.wslGroup, F.wslVid, F.wslPcp, F.wslEthertype,
   F.wslGateLen, F.wslStaleLimit, F.wslRestoreLimit, F.wslState, F.wslBeatMismatch, F.wslGateOverrun]

/-! Group of objects 0x3000 (spec/09_local_field_io.md R271), 1 instance. -/
def F.fieldTimeoutCfg : Fld := { home := 51539623936, obj := 0x3000, cnt := 1, sub := 1, lo := 0, w := 16, dflt := 20, acc := .rw, rng := .nat 1 1000 }
def F.groupFieldCfg : List Fld :=
  [F.fieldTimeoutCfg]

/-! Group of objects 0x3001 (spec/09_local_field_io.md R271), 1 instance. -/
def F.laState : Fld := { home := 51543801856, obj := 0x3001, cnt := 1, sub := 0, lo := 0, w := 2, dflt := 0, acc := .ro }
def F.lbState : Fld := { home := 51543801858, obj := 0x3001, cnt := 1, sub := 0, lo := 2, w := 2, dflt := 0, acc := .ro }
def F.silent : Fld := { home := 51543801860, obj := 0x3001, cnt := 1, sub := 0, lo := 4, w := 1, dflt := 0, acc := .w1c }
def F.converter : Fld := { home := 51543801861, obj := 0x3001, cnt := 1, sub := 0, lo := 5, w := 1, dflt := 0, acc := .ro }
def F.driveEn : Fld := { home := 51543801862, obj := 0x3001, cnt := 1, sub := 0, lo := 6, w := 1, dflt := 0, acc := .ro }
def F.fieldRs : Fld := { home := 51543801863, obj := 0x3001, cnt := 1, sub := 0, lo := 7, w := 9, dflt := 0, acc := .rs }
def F.silentCount : Fld := { home := 51543801872, obj := 0x3001, cnt := 1, sub := 0, lo := 16, w := 16, dflt := 0, acc := .ro }
def F.groupFieldStat : List Fld :=
  [F.laState, F.lbState, F.silent, F.converter, F.driveEn, F.fieldRs,
   F.silentCount]

/-! Group of objects 0x3010 (spec/09_local_field_io.md R272), 16 instances. -/
def F.dioDir : Fld := { home := 51606732800, obj := 0x3010, cnt := 16, sub := 1, lo := 0, w := 1, dflt := 0, acc := .rw, rng := .nat 0 1, wmode := .stop }
def F.inType : Fld := { home := 51606732801, obj := 0x3010, cnt := 16, sub := 1, lo := 1, w := 2, dflt := 1, acc := .rw, rng := .nat 1 3, wmode := .stop }
def F.pulsed : Fld := { home := 51606732803, obj := 0x3010, cnt := 16, sub := 1, lo := 3, w := 1, dflt := 0, acc := .rw, rng := .nat 0 1, wmode := .stop }
def F.inFilter : Fld := { home := 51606732804, obj := 0x3010, cnt := 16, sub := 1, lo := 4, w := 6, dflt := 0, acc := .rw, rng := .nat 0 40 }
def F.safeState : Fld := { home := 51606732810, obj := 0x3010, cnt := 16, sub := 1, lo := 10, w := 2, dflt := 0, acc := .rw, rng := .nat 0 2 }
def F.retry : Fld := { home := 51606732812, obj := 0x3010, cnt := 16, sub := 1, lo := 12, w := 2, dflt := 0, acc := .rw, rng := .nat 0 3 }
def F.openWireEn : Fld := { home := 51606732814, obj := 0x3010, cnt := 16, sub := 1, lo := 14, w := 1, dflt := 1, acc := .rw, rng := .nat 0 1 }
def F.parallel : Fld := { home := 51606732815, obj := 0x3010, cnt := 16, sub := 1, lo := 15, w := 2, dflt := 0, acc := .rw, rng := .nat 0 2, wmode := .stop }
def F.dioCfgRs : Fld := { home := 51606732817, obj := 0x3010, cnt := 16, sub := 1, lo := 17, w := 15, dflt := 0, acc := .rs }
def F.groupDioCfg : List Fld :=
  [F.dioDir, F.inType, F.pulsed, F.inFilter, F.safeState, F.retry,
   F.openWireEn, F.parallel, F.dioCfgRs]

/-! Group of objects 0x3030 (spec/09_local_field_io.md R273), 16 instances. -/
def F.dioLevel : Fld := { home := 51740934144, obj := 0x3030, cnt := 16, sub := 0, lo := 0, w := 1, dflt := 0, acc := .ro }
def F.dioOverload : Fld := { home := 51740934145, obj := 0x3030, cnt := 16, sub := 0, lo := 1, w := 1, dflt := 0, acc := .w1c }
def F.dioOpenWire : Fld := { home := 51740934146, obj := 0x3030, cnt := 16, sub := 0, lo := 2, w := 1, dflt := 0, acc := .ro }
def F.dioOvertemp : Fld := { home := 51740934147, obj := 0x3030, cnt := 16, sub := 0, lo := 3, w := 1, dflt := 0, acc := .w1c }
def F.dioTripped : Fld := { home := 51740934148, obj := 0x3030, cnt := 16, sub := 0, lo := 4, w := 1, dflt := 0, acc := .ro }
def F.dioExtDrive : Fld := { home := 51740934149, obj := 0x3030, cnt := 16, sub := 0, lo := 5, w := 1, dflt := 0, acc := .ro }
def F.dioSupplyLow : Fld := { home := 51740934150, obj := 0x3030, cnt := 16, sub := 0, lo := 6, w := 1, dflt := 0, acc := .ro }
def F.dioRetriesLeft : Fld := { home := 51740934151, obj := 0x3030, cnt := 16, sub := 0, lo := 7, w := 2, dflt := 0, acc := .ro }
def F.dioRs : Fld := { home := 51740934153, obj := 0x3030, cnt := 16, sub := 0, lo := 9, w := 7, dflt := 0, acc := .rs }
def F.dioOverloadCount : Fld := { home := 51740934160, obj := 0x3030, cnt := 16, sub := 0, lo := 16, w := 16, dflt := 0, acc := .ro }
def F.dioEdgeCount : Fld := { home := 51740950528, obj := 0x3030, cnt := 16, sub := 1, lo := 0, w := 32, dflt := 0, acc := .ro }
def F.dioThermalCount : Fld := { home := 51740966912, obj := 0x3030, cnt := 16, sub := 2, lo := 0, w := 32, dflt := 0, acc := .ro }
def F.groupDioStat : List Fld :=
  [F.dioLevel, F.dioOverload, F.dioOpenWire, F.dioOvertemp, F.dioTripped, F.dioExtDrive,
   F.dioSupplyLow, F.dioRetriesLeft, F.dioRs, F.dioOverloadCount, F.dioEdgeCount, F.dioThermalCount]

/-! Group of objects 0x3050 (spec/09_local_field_io.md R274), 4 instances. -/
def F.aoMode : Fld := { home := 51875168256, obj := 0x3050, cnt := 4, sub := 1, lo := 0, w := 8, dflt := 0, acc := .rw, rng := .nat 0 2, wmode := .stop }
def F.aoFailLevel : Fld := { home := 51875184640, obj := 0x3050, cnt := 4, sub := 2, lo := 0, w := 8, dflt := 0, acc := .rw, rng := .nat 0 1 }
def F.aoSafe : Fld := { home := 51875201024, obj := 0x3050, cnt := 4, sub := 3, lo := 0, w := 8, dflt := 2, acc := .rw, rng := .nat 0 2 }
def F.aoFixed : Fld := { home := 51875217408, obj := 0x3050, cnt := 4, sub := 4, lo := 0, w := 32, dflt := 0, acc := .rw, rng := .real (some (-5, 4)) (some (825, 8)) }
def F.groupAoCfg : List Fld :=
  [F.aoMode, F.aoFailLevel, F.aoSafe, F.aoFixed]

/-! Group of objects 0x3058 (spec/09_local_field_io.md R275), 4 instances. -/
def F.aoOpenLoop : Fld := { home := 51908706304, obj := 0x3058, cnt := 4, sub := 0, lo := 0, w := 1, dflt := 0, acc := .ro }
def F.aoMiswire : Fld := { home := 51908706305, obj := 0x3058, cnt := 4, sub := 0, lo := 1, w := 1, dflt := 0, acc := .ro }
def F.aoReadbackFault : Fld := { home := 51908706306, obj := 0x3058, cnt := 4, sub := 0, lo := 2, w := 1, dflt := 0, acc := .w1c }
def F.aoFailing : Fld := { home := 51908706307, obj := 0x3058, cnt := 4, sub := 0, lo := 3, w := 1, dflt := 0, acc := .ro }
def F.aoHeadroomLow : Fld := { home := 51908706308, obj := 0x3058, cnt := 4, sub := 0, lo := 4, w := 1, dflt := 0, acc := .ro }
def F.aoRs : Fld := { home := 51908706309, obj := 0x3058, cnt := 4, sub := 0, lo := 5, w := 3, dflt := 0, acc := .rs }
def F.aoReadback : Fld := { home := 51908722688, obj := 0x3058, cnt := 4, sub := 1, lo := 0, w := 32, dflt := 0, acc := .ro }
def F.aoHeadroom : Fld := { home := 51908739072, obj := 0x3058, cnt := 4, sub := 2, lo := 0, w := 32, dflt := 0, acc := .ro }
def F.groupAoStat : List Fld :=
  [F.aoOpenLoop, F.aoMiswire, F.aoReadbackFault, F.aoFailing, F.aoHeadroomLow, F.aoRs,
   F.aoReadback, F.aoHeadroom]

/-! Group of objects 0x3060 (spec/09_local_field_io.md R276), 4 instances. -/
def F.encLine : Fld := { home := 51942277120, obj := 0x3060, cnt := 4, sub := 1, lo := 0, w := 8, dflt := 0, acc := .rw, rng := .nat 0 1, wmode := .stop }
def F.encMode : Fld := { home := 51942293504, obj := 0x3060, cnt := 4, sub := 2, lo := 0, w := 8, dflt := 0, acc := .rw, rng := .nat 0 4, wmode := .stop }
def F.glitchFilter : Fld := { home := 51942309888, obj := 0x3060, cnt := 4, sub := 3, lo := 0, w := 16, dflt := 4, acc := .rw, rng := .nat 1 2000 }
def F.zMode : Fld := { home := 51942326272, obj := 0x3060, cnt := 4, sub := 4, lo := 0, w := 8, dflt := 0, acc := .rw, rng := .nat 0 3 }
def F.zGate : Fld := { home := 51942342656, obj := 0x3060, cnt := 4, sub := 5, lo := 0, w := 8, dflt := 0, acc := .rw, rng := .nat 0 1 }
def F.countPreset : Fld := { home := 51942359040, obj := 0x3060, cnt := 4, sub := 6, lo := 0, w := 64, dflt := 0, acc := .wo }
def F.groupEncCfg : List Fld :=
  [F.encLine, F.encMode, F.glitchFilter, F.zMode, F.zGate, F.countPreset]

/-! Group of objects 0x3068 (spec/09_local_field_io.md R277), 4 instances. -/
def F.encUncertain : Fld := { home := 51975815168, obj := 0x3068, cnt := 4, sub := 0, lo := 0, w := 1, dflt := 0, acc := .ro }
def F.encLineFault : Fld := { home := 51975815169, obj := 0x3068, cnt := 4, sub := 0, lo := 1, w := 1, dflt := 0, acc := .ro }
def F.encZSeen : Fld := { home := 51975815170, obj := 0x3068, cnt := 4, sub := 0, lo := 2, w := 1, dflt := 0, acc := .ro }
def F.encRs : Fld := { home := 51975815171, obj := 0x3068, cnt := 4, sub := 0, lo := 3, w := 13, dflt := 0, acc := .rs }
def F.encIllegalCount : Fld := { home := 51975815184, obj := 0x3068, cnt := 4, sub := 0, lo := 16, w := 16, dflt := 0, acc := .ro }
def F.encCount : Fld := { home := 51975831552, obj := 0x3068, cnt := 4, sub := 1, lo := 0, w := 64, dflt := 0, acc := .ro }
def F.encLastZCount : Fld := { home := 51975847936, obj := 0x3068, cnt := 4, sub := 2, lo := 0, w := 64, dflt := 0, acc := .ro }
def F.groupEncStat : List Fld :=
  [F.encUncertain, F.encLineFault, F.encZSeen, F.encRs, F.encIllegalCount, F.encCount,
   F.encLastZCount]

/-! Group of objects 0x3070 (spec/09_local_field_io.md R278), 8 instances. -/
def F.capMode : Fld := { home := 52009385984, obj := 0x3070, cnt := 8, sub := 1, lo := 0, w := 8, dflt := 0, acc := .rw, rng := .nat 0 2 }
def F.startSrc : Fld := { home := 52009402368, obj := 0x3070, cnt := 8, sub := 2, lo := 0, w := 8, dflt := 0, acc := .rw, rng := .src }
def F.stopSrc : Fld := { home := 52009418752, obj := 0x3070, cnt := 8, sub := 3, lo := 0, w := 8, dflt := 0, acc := .rw, rng := .src }
def F.intervalTimeout : Fld := { home := 52009435136, obj := 0x3070, cnt := 8, sub := 4, lo := 0, w := 32, dflt := 10000, acc := .rw, rng := .nat 1 21000 }
def F.orphanStop : Fld := { home := 52009451520, obj := 0x3070, cnt := 8, sub := 5, lo := 0, w := 32, dflt := 0, acc := .ro }
def F.capRestart : Fld := { home := 52009467904, obj := 0x3070, cnt := 8, sub := 6, lo := 0, w := 32, dflt := 0, acc := .ro }
def F.coincident : Fld := { home := 52009484288, obj := 0x3070, cnt := 8, sub := 7, lo := 0, w := 32, dflt := 0, acc := .ro }
def F.capTimeout : Fld := { home := 52009500672, obj := 0x3070, cnt := 8, sub := 8, lo := 0, w := 32, dflt := 0, acc := .ro }
def F.capOverrun : Fld := { home := 52009517056, obj := 0x3070, cnt := 8, sub := 9, lo := 0, w := 32, dflt := 0, acc := .ro }
def F.groupCap : List Fld :=
  [F.capMode, F.startSrc, F.stopSrc, F.intervalTimeout, F.orphanStop, F.capRestart,
   F.coincident, F.capTimeout, F.capOverrun]

/-! Group of objects 0x4000 (spec/10_filter_chain.md R298), 1 instance. -/
def F.seqOk : Fld := { home := 68719476736, obj := 0x4000, cnt := 1, sub := 0, lo := 0, w := 1, dflt := 0, acc := .ro }
def F.fcsPad0 : Fld := { home := 68719476737, obj := 0x4000, cnt := 1, sub := 0, lo := 1, w := 7, dflt := 0, acc := .rs }
def F.lanesEnabled : Fld := { home := 68719476744, obj := 0x4000, cnt := 1, sub := 0, lo := 8, w := 8, dflt := 0, acc := .ro }
def F.lanesFault : Fld := { home := 68719476752, obj := 0x4000, cnt := 1, sub := 0, lo := 16, w := 8, dflt := 0, acc := .ro }
def F.fcsPad1 : Fld := { home := 68719476760, obj := 0x4000, cnt := 1, sub := 0, lo := 24, w := 8, dflt := 0, acc := .rs }
def F.groupFcs : List Fld :=
  [F.seqOk, F.fcsPad0, F.lanesEnabled, F.lanesFault, F.fcsPad1]

/-! Group of objects 0x4010 (spec/10_filter_chain.md R299/R300), 8 instances. -/
def F.faEnable : Fld := { home := 68786601984, obj := 0x4010, cnt := 8, sub := 1, lo := 0, w := 1, dflt := 0, acc := .rw, rng := .nat 0 1 }
def F.faRange : Fld := { home := 68786601985, obj := 0x4010, cnt := 8, sub := 1, lo := 1, w := 2, dflt := 0, acc := .rw, rng := .nat 0 1 }
def F.rateN : Fld := { home := 68786601987, obj := 0x4010, cnt := 8, sub := 1, lo := 3, w := 4, dflt := 4, acc := .rw, rng := .nat 0 8 }
def F.streamEn : Fld := { home := 68786601991, obj := 0x4010, cnt := 8, sub := 1, lo := 7, w := 1, dflt := 0, acc := .ro }
def F.faCfgRs : Fld := { home := 68786601992, obj := 0x4010, cnt := 8, sub := 1, lo := 8, w := 8, dflt := 0, acc := .rs }
def F.phaseDelay : Fld := { home := 68786602000, obj := 0x4010, cnt := 8, sub := 1, lo := 16, w := 12, dflt := 0, acc := .rw }
def F.faCfgRs2 : Fld := { home := 68786602012, obj := 0x4010, cnt := 8, sub := 1, lo := 28, w := 4, dflt := 0, acc := .rs }
def F.peakWindow : Fld := { home := 68786618368, obj := 0x4010, cnt := 8, sub := 2, lo := 0, w := 32, dflt := 1024, acc := .rw, rng := .nat 1 65536 }
def F.rmsWindow : Fld := { home := 68786634752, obj := 0x4010, cnt := 8, sub := 3, lo := 0, w := 32, dflt := 1024, acc := .rw, rng := .nat 1 65536 }
def F.envAttack : Fld := { home := 68786651136, obj := 0x4010, cnt := 8, sub := 4, lo := 0, w := 32, dflt := 0x42C80000, acc := .rw, rng := .real (some (1, 1)) (some (10000000, 1)) }
def F.envRelease : Fld := { home := 68786667520, obj := 0x4010, cnt := 8, sub := 5, lo := 0, w := 32, dflt := 0x461C4000, acc := .rw, rng := .real (some (1, 1)) (some (10000000, 1)) }
def F.limitSrc : Fld := { home := 68786683904, obj := 0x4010, cnt := 8, sub := 6, lo := 0, w := 8, dflt := 0, acc := .rw, rng := .nat 0 3 }
def F.limitHi : Fld := { home := 68786700288, obj := 0x4010, cnt := 8, sub := 7, lo := 0, w := 32, dflt := 0, acc := .rw, rng := .real none none }
def F.limitHyst : Fld := { home := 68786716672, obj := 0x4010, cnt := 8, sub := 8, lo := 0, w := 32, dflt := 0, acc := .rw, rng := .real (some (0, 1)) none }
def F.groupFaCfg : List Fld :=
  [F.faEnable, F.faRange, F.rateN, F.streamEn, F.faCfgRs, F.phaseDelay,
   F.faCfgRs2, F.peakWindow, F.rmsWindow, F.envAttack, F.envRelease, F.limitSrc,
   F.limitHi, F.limitHyst]

/-! Group of objects 0x4018 (spec/10_filter_chain.md R301), 8 instances. -/
def F.firTaps : Fld := { home := 68820156416, obj := 0x4018, cnt := 8, sub := 1, lo := 0, w := 16, dflt := 1, acc := .rw, rng := .nat 1 256 }
def F.firCoeff : Fld := { home := 68820172800, obj := 0x4018, cnt := 8, sub := 2, lo := 0, w := 8192, dflt := 0x3F800000, acc := .rw, rng := .fir }
def F.coeffCrc : Fld := { home := 68820189184, obj := 0x4018, cnt := 8, sub := 3, lo := 0, w := 32, dflt := 0, acc := .ro }
def F.groupFaFir : List Fld :=
  [F.firTaps, F.firCoeff, F.coeffCrc]

/-! Group of objects 0x4020 (spec/10_filter_chain.md R302), 8 instances. -/
def F.faState : Fld := { home := 68853694464, obj := 0x4020, cnt := 8, sub := 0, lo := 0, w := 3, dflt := 0, acc := .ro }
def F.faOverrange : Fld := { home := 68853694467, obj := 0x4020, cnt := 8, sub := 0, lo := 3, w := 1, dflt := 0, acc := .w1c }
def F.faLimit : Fld := { home := 68853694468, obj := 0x4020, cnt := 8, sub := 0, lo := 4, w := 1, dflt := 0, acc := .ro }
def F.faRs : Fld := { home := 68853694469, obj := 0x4020, cnt := 8, sub := 0, lo := 5, w := 11, dflt := 0, acc := .rs }
def F.unsettledLeft : Fld := { home := 68853694480, obj := 0x4020, cnt := 8, sub := 0, lo := 16, w := 16, dflt := 0, acc := .ro }
def F.totalDelay : Fld := { home := 68853710848, obj := 0x4020, cnt := 8, sub := 1, lo := 0, w := 32, dflt := 0, acc := .ro }
def F.settling : Fld := { home := 68853727232, obj := 0x4020, cnt := 8, sub := 2, lo := 0, w := 16, dflt := 16, acc := .ro }
def F.faFaultCount : Fld := { home := 68853743616, obj := 0x4020, cnt := 8, sub := 3, lo := 0, w := 32, dflt := 0, acc := .ro }
def F.overrangeCount : Fld := { home := 68853760000, obj := 0x4020, cnt := 8, sub := 4, lo := 0, w := 32, dflt := 0, acc := .ro }
def F.faCfgSeq : Fld := { home := 68853776384, obj := 0x4020, cnt := 8, sub := 5, lo := 0, w := 8, dflt := 0, acc := .ro }
def F.groupFaStat : List Fld :=
  [F.faState, F.faOverrange, F.faLimit, F.faRs, F.unsettledLeft, F.totalDelay,
   F.settling, F.faFaultCount, F.overrangeCount, F.faCfgSeq]

/-! Group of objects 0x5000 (spec/11_time.md R323/R324), 1 instance. -/
def F.gmPresent : Fld := { home := 85899345920, obj := 0x5000, cnt := 1, sub := 0, lo := 0, w := 1, dflt := 0, acc := .ro }
def F.sourcePort : Fld := { home := 85899345921, obj := 0x5000, cnt := 1, sub := 0, lo := 1, w := 4, dflt := 15, acc := .ro }
def F.pairSource : Fld := { home := 85899345925, obj := 0x5000, cnt := 1, sub := 0, lo := 5, w := 1, dflt := 0, acc := .ro }
def F.ppsInOk : Fld := { home := 85899345926, obj := 0x5000, cnt := 1, sub := 0, lo := 6, w := 1, dflt := 0, acc := .ro }
def F.ppsOutOn : Fld := { home := 85899345927, obj := 0x5000, cnt := 1, sub := 0, lo := 7, w := 1, dflt := 0, acc := .ro }
def F.timeRs : Fld := { home := 85899345928, obj := 0x5000, cnt := 1, sub := 0, lo := 8, w := 8, dflt := 0, acc := .rs }
def F.gmChanges : Fld := { home := 85899345936, obj := 0x5000, cnt := 1, sub := 0, lo := 16, w := 16, dflt := 0, acc := .ro }
def F.gmIdentity : Fld := { home := 85899362304, obj := 0x5000, cnt := 1, sub := 1, lo := 0, w := 64, dflt := 0, acc := .ro }
def F.ownOffset : Fld := { home := 85899378688, obj := 0x5000, cnt := 1, sub := 2, lo := 0, w := 32, dflt := 0, acc := .ro }
def F.pathDelay : Fld := { home := 85899395072, obj := 0x5000, cnt := 1, sub := 3, lo := 0, w := 32, dflt := 0, acc := .ro }
def F.rate : Fld := { home := 85899411456, obj := 0x5000, cnt := 1, sub := 4, lo := 0, w := 32, dflt := 0, acc := .ro }
def F.holdoverBound : Fld := { home := 85899427840, obj := 0x5000, cnt := 1, sub := 5, lo := 0, w := 32, dflt := 0, acc := .ro }
def F.holdoverTime : Fld := { home := 85899444224, obj := 0x5000, cnt := 1, sub := 6, lo := 0, w := 32, dflt := 0, acc := .ro }
def F.ppsOffset : Fld := { home := 85899460608, obj := 0x5000, cnt := 1, sub := 7, lo := 0, w := 32, dflt := 0, acc := .ro }
def F.groupTime : List Fld :=
  [F.gmPresent, F.sourcePort, F.pairSource, F.ppsInOk, F.ppsOutOn, F.timeRs,
   F.gmChanges, F.gmIdentity, F.ownOffset, F.pathDelay, F.rate, F.holdoverBound,
   F.holdoverTime, F.ppsOffset]

/-! Group of objects 0x5001 (spec/11_time.md R325), 1 instance. -/
def F.ptpProfile : Fld := { home := 85903556608, obj := 0x5001, cnt := 1, sub := 1, lo := 0, w := 8, dflt := 0, acc := .rw, rng := .nat 0 1, wmode := .stop }
def F.ptpDomain : Fld := { home := 85903572992, obj := 0x5001, cnt := 1, sub := 2, lo := 0, w := 8, dflt := 0, acc := .rw, rng := .nat 0 127, wmode := .stop }
def F.ptpTransport : Fld := { home := 85903589376, obj := 0x5001, cnt := 1, sub := 3, lo := 0, w := 8, dflt := 0, acc := .rw, rng := .nat 0 2, wmode := .stop }
def F.logSync : Fld := { home := 85903605760, obj := 0x5001, cnt := 1, sub := 4, lo := 0, w := 8, dflt := 0xFD, acc := .rw, rng := .int (-7) (0) }
def F.logAnnounce : Fld := { home := 85903622144, obj := 0x5001, cnt := 1, sub := 5, lo := 0, w := 8, dflt := 0, acc := .rw, rng := .int (-3) (3) }
def F.announceTimeout : Fld := { home := 85903638528, obj := 0x5001, cnt := 1, sub := 6, lo := 0, w := 8, dflt := 3, acc := .rw, rng := .nat 2 10 }
def F.logDelay : Fld := { home := 85903654912, obj := 0x5001, cnt := 1, sub := 7, lo := 0, w := 8, dflt := 0xFD, acc := .rw, rng := .int (-7) (4) }
def F.ppsOutGate : Fld := { home := 85903671296, obj := 0x5001, cnt := 1, sub := 8, lo := 0, w := 8, dflt := 1, acc := .rw, rng := .nat 0 1 }
def F.groupTimeCfg : List Fld :=
  [F.ptpProfile, F.ptpDomain, F.ptpTransport, F.logSync, F.logAnnounce, F.announceTimeout,
   F.logDelay, F.ppsOutGate]

/-! Group of objects 0x5010 (spec/11_time.md R326), 12 instances. -/
def F.ptpRole : Fld := { home := 85966471168, obj := 0x5010, cnt := 12, sub := 1, lo := 0, w := 8, dflt := 1, acc := .rw, rng := .nat 0 4 }
def F.phyRxNs : Fld := { home := 85966487552, obj := 0x5010, cnt := 12, sub := 2, lo := 0, w := 16, dflt := 0, acc := .rw, rng := .nat 0 2000 }
def F.phyTxNs : Fld := { home := 85966503936, obj := 0x5010, cnt := 12, sub := 3, lo := 0, w := 16, dflt := 0, acc := .rw, rng := .nat 0 2000 }
def F.asymNs : Fld := { home := 85966520320, obj := 0x5010, cnt := 12, sub := 4, lo := 0, w := 32, dflt := 0, acc := .rw, rng := .int (-100000) (100000) }
def F.portState : Fld := { home := 85966536704, obj := 0x5010, cnt := 12, sub := 5, lo := 0, w := 8, dflt := 1, acc := .ro }
def F.peerDelay : Fld := { home := 85966553088, obj := 0x5010, cnt := 12, sub := 6, lo := 0, w := 32, dflt := 0, acc := .ro }
def F.rxFcs : Fld := { home := 85966569472, obj := 0x5010, cnt := 12, sub := 7, lo := 0, w := 32, dflt := 0, acc := .ro }
def F.tcUncorrected : Fld := { home := 85966585856, obj := 0x5010, cnt := 12, sub := 8, lo := 0, w := 32, dflt := 0, acc := .ro }
def F.groupPtpPort : List Fld :=
  [F.ptpRole, F.phyRxNs, F.phyTxNs, F.asymNs, F.portState, F.peerDelay,
   F.rxFcs, F.tcUncorrected]

/-! Group of objects 0x5020 (spec/11_time.md R327), 4 instances. -/
def F.tpMode : Fld := { home := 86033580032, obj := 0x5020, cnt := 4, sub := 1, lo := 0, w := 8, dflt := 0, acc := .rw, rng := .nat 0 4 }
def F.tpPolarity : Fld := { home := 86033596416, obj := 0x5020, cnt := 4, sub := 2, lo := 0, w := 8, dflt := 0, acc := .rw, rng := .nat 0 1 }
def F.tpWidth : Fld := { home := 86033612800, obj := 0x5020, cnt := 4, sub := 3, lo := 0, w := 32, dflt := 20000000, acc := .rw, rng := .nat 1 100000000 }
def F.chimePeriod : Fld := { home := 86033629184, obj := 0x5020, cnt := 4, sub := 4, lo := 0, w := 64, dflt := 200000000, acc := .rw, rng := .nat 200 200000000000 }
def F.chimePhase : Fld := { home := 86033645568, obj := 0x5020, cnt := 4, sub := 5, lo := 0, w := 64, dflt := 0, acc := .rw }
def F.rimshotTime : Fld := { home := 86033661952, obj := 0x5020, cnt := 4, sub := 6, lo := 0, w := 64, dflt := 0, acc := .ro }
def F.tpState : Fld := { home := 86033678336, obj := 0x5020, cnt := 4, sub := 7, lo := 0, w := 8, dflt := 0, acc := .ro }
def F.tpPulses : Fld := { home := 86033694720, obj := 0x5020, cnt := 4, sub := 8, lo := 0, w := 32, dflt := 0, acc := .ro }
def F.tpRearms : Fld := { home := 86033711104, obj := 0x5020, cnt := 4, sub := 9, lo := 0, w := 32, dflt := 0, acc := .ro }
def F.tpMerged : Fld := { home := 86033727488, obj := 0x5020, cnt := 4, sub := 10, lo := 0, w := 32, dflt := 0, acc := .ro }
def F.groupTimePin : List Fld :=
  [F.tpMode, F.tpPolarity, F.tpWidth, F.chimePeriod, F.chimePhase, F.rimshotTime,
   F.tpState, F.tpPulses, F.tpRearms, F.tpMerged]

/-! Group of objects 0x5030 (spec/11_time.md R320/R278), 2 instances. -/
def F.tcapMode : Fld := { home := 86100688896, obj := 0x5030, cnt := 2, sub := 1, lo := 0, w := 8, dflt := 0, acc := .rw, rng := .nat 0 2 }
def F.tcapStartSrc : Fld := { home := 86100705280, obj := 0x5030, cnt := 2, sub := 2, lo := 0, w := 8, dflt := 0, acc := .rw, rng := .tsrc }
def F.tcapStopSrc : Fld := { home := 86100721664, obj := 0x5030, cnt := 2, sub := 3, lo := 0, w := 8, dflt := 0, acc := .rw, rng := .tsrc }
def F.tcapIntervalTimeout : Fld := { home := 86100738048, obj := 0x5030, cnt := 2, sub := 4, lo := 0, w := 32, dflt := 10000, acc := .rw, rng := .nat 1 21000 }
def F.tcapOrphanStop : Fld := { home := 86100754432, obj := 0x5030, cnt := 2, sub := 5, lo := 0, w := 32, dflt := 0, acc := .ro }
def F.tcapRestart : Fld := { home := 86100770816, obj := 0x5030, cnt := 2, sub := 6, lo := 0, w := 32, dflt := 0, acc := .ro }
def F.tcapCoincident : Fld := { home := 86100787200, obj := 0x5030, cnt := 2, sub := 7, lo := 0, w := 32, dflt := 0, acc := .ro }
def F.tcapTimeout : Fld := { home := 86100803584, obj := 0x5030, cnt := 2, sub := 8, lo := 0, w := 32, dflt := 0, acc := .ro }
def F.tcapOverrun : Fld := { home := 86100819968, obj := 0x5030, cnt := 2, sub := 9, lo := 0, w := 32, dflt := 0, acc := .ro }
def F.groupTcap : List Fld :=
  [F.tcapMode, F.tcapStartSrc, F.tcapStopSrc, F.tcapIntervalTimeout, F.tcapOrphanStop, F.tcapRestart,
   F.tcapCoincident, F.tcapTimeout, F.tcapOverrun]

/-! Group of objects 0x6010 (spec/12_can.md R347), 8 instances. -/
def F.canMode : Fld := { home := 103146340352, obj := 0x6010, cnt := 8, sub := 1, lo := 0, w := 8, dflt := 0, acc := .rw, rng := .nat 0 3, wmode := .stop }
def F.nomBrp : Fld := { home := 103146356736, obj := 0x6010, cnt := 8, sub := 2, lo := 0, w := 16, dflt := 2, acc := .rw, rng := .nat 1 512, wmode := .stop }
def F.nomTseg1 : Fld := { home := 103146373120, obj := 0x6010, cnt := 8, sub := 3, lo := 0, w := 16, dflt := 69, acc := .rw, rng := .nat 2 256, wmode := .stop }
def F.nomTseg2 : Fld := { home := 103146389504, obj := 0x6010, cnt := 8, sub := 4, lo := 0, w := 8, dflt := 10, acc := .rw, rng := .nat 1 128, wmode := .stop }
def F.nomSjw : Fld := { home := 103146405888, obj := 0x6010, cnt := 8, sub := 5, lo := 0, w := 8, dflt := 10, acc := .rw, rng := .nat 1 128, wmode := .stop }
def F.dataBrp : Fld := { home := 103146422272, obj := 0x6010, cnt := 8, sub := 6, lo := 0, w := 8, dflt := 1, acc := .rw, rng := .nat 1 32, wmode := .stop }
def F.dataTseg1 : Fld := { home := 103146438656, obj := 0x6010, cnt := 8, sub := 7, lo := 0, w := 8, dflt := 15, acc := .rw, rng := .nat 1 32, wmode := .stop }
def F.dataTseg2 : Fld := { home := 103146455040, obj := 0x6010, cnt := 8, sub := 8, lo := 0, w := 8, dflt := 4, acc := .rw, rng := .nat 1 16, wmode := .stop }
def F.dataSjw : Fld := { home := 103146471424, obj := 0x6010, cnt := 8, sub := 9, lo := 0, w := 8, dflt := 4, acc := .rw, rng := .nat 1 16, wmode := .stop }
def F.fdEnable : Fld := { home := 103146487808, obj := 0x6010, cnt := 8, sub := 10, lo := 0, w := 8, dflt := 1, acc := .rw, rng := .nat 0 1, wmode := .stop }
def F.busoffRecoveryCfg : Fld := { home := 103146504192, obj := 0x6010, cnt := 8, sub := 11, lo := 0, w := 8, dflt := 1, acc := .rw, rng := .nat 0 1 }
def F.abrApply : Fld := { home := 103146520576, obj := 0x6010, cnt := 8, sub := 12, lo := 0, w := 8, dflt := 0, acc := .rw, rng := .nat 0 1 }
def F.abrRounds : Fld := { home := 103146536960, obj := 0x6010, cnt := 8, sub := 13, lo := 0, w := 8, dflt := 3, acc := .rw, rng := .nat 1 10 }
def F.groupCanCfg : List Fld :=
  [F.canMode, F.nomBrp, F.nomTseg1, F.nomTseg2, F.nomSjw, F.dataBrp,
   F.dataTseg1, F.dataTseg2, F.dataSjw, F.fdEnable, F.busoffRecoveryCfg, F.abrApply,
   F.abrRounds]

/-! Group of objects 0x6020 (spec/12_can.md R348/R349), 8 instances. -/
def F.canErrState : Fld := { home := 103213432832, obj := 0x6020, cnt := 8, sub := 0, lo := 0, w := 2, dflt := 0, acc := .ro }
def F.canBusMode : Fld := { home := 103213432834, obj := 0x6020, cnt := 8, sub := 0, lo := 2, w := 2, dflt := 0, acc := .ro }
def F.canFault : Fld := { home := 103213432836, obj := 0x6020, cnt := 8, sub := 0, lo := 4, w := 2, dflt := 0, acc := .ro }
def F.canRecoverBit : Fld := { home := 103213432838, obj := 0x6020, cnt := 8, sub := 0, lo := 6, w := 1, dflt := 0, acc := .wo }
def F.canRs : Fld := { home := 103213432839, obj := 0x6020, cnt := 8, sub := 0, lo := 7, w := 1, dflt := 0, acc := .rs }
def F.canTec : Fld := { home := 103213432840, obj := 0x6020, cnt := 8, sub := 0, lo := 8, w := 8, dflt := 0, acc := .ro }
def F.canRec : Fld := { home := 103213432848, obj := 0x6020, cnt := 8, sub := 0, lo := 16, w := 8, dflt := 0, acc := .ro }
def F.canNoPeerObjs : Fld := { home := 103213432856, obj := 0x6020, cnt := 8, sub := 0, lo := 24, w := 8, dflt := 0, acc := .ro }
def F.canRxFrames : Fld := { home := 103213449216, obj := 0x6020, cnt := 8, sub := 1, lo := 0, w := 32, dflt := 0, acc := .ro }
def F.canTxFrames : Fld := { home := 103213465600, obj := 0x6020, cnt := 8, sub := 2, lo := 0, w := 32, dflt := 0, acc := .ro }
def F.canUnmatched : Fld := { home := 103213481984, obj := 0x6020, cnt := 8, sub := 3, lo := 0, w := 32, dflt := 0, acc := .ro }
def F.canBusOffCount : Fld := { home := 103213498368, obj := 0x6020, cnt := 8, sub := 4, lo := 0, w := 32, dflt := 0, acc := .ro }
def F.canProtocolErrors : Fld := { home := 103213514752, obj := 0x6020, cnt := 8, sub := 5, lo := 0, w := 32, dflt := 0, acc := .ro }
def F.canAbrRate : Fld := { home := 103213531136, obj := 0x6020, cnt := 8, sub := 6, lo := 0, w := 32, dflt := 0, acc := .ro }
def F.canFaultCount : Fld := { home := 103213547520, obj := 0x6020, cnt := 8, sub := 7, lo := 0, w := 32, dflt := 0, acc := .ro }
def F.groupCanStat : List Fld :=
  [F.canErrState, F.canBusMode, F.canFault, F.canRecoverBit, F.canRs, F.canTec,
   F.canRec, F.canNoPeerObjs, F.canRxFrames, F.canTxFrames, F.canUnmatched, F.canBusOffCount,
   F.canProtocolErrors, F.canAbrRate, F.canFaultCount]

/-! Group of objects 0x6400 (spec/12_can.md R350), 1024 instances. -/
def F.objDir : Fld := { home := 107374198784, obj := 0x6400, cnt := 1024, sub := 1, lo := 0, w := 2, dflt := 0, acc := .rw, rng := .nat 0 2 }
def F.objIdExt : Fld := { home := 107374198786, obj := 0x6400, cnt := 1024, sub := 1, lo := 2, w := 1, dflt := 0, acc := .rw, rng := .nat 0 1 }
def F.objFd : Fld := { home := 107374198787, obj := 0x6400, cnt := 1024, sub := 1, lo := 3, w := 1, dflt := 0, acc := .rw, rng := .nat 0 1 }
def F.objBrs : Fld := { home := 107374198788, obj := 0x6400, cnt := 1024, sub := 1, lo := 4, w := 1, dflt := 0, acc := .rw, rng := .nat 0 1 }
def F.objRtr : Fld := { home := 107374198789, obj := 0x6400, cnt := 1024, sub := 1, lo := 5, w := 1, dflt := 0, acc := .rw, rng := .nat 0 1 }
def F.objSingleShot : Fld := { home := 107374198790, obj := 0x6400, cnt := 1024, sub := 1, lo := 6, w := 1, dflt := 0, acc := .rw, rng := .nat 0 1 }
def F.objTrigger : Fld := { home := 107374198791, obj := 0x6400, cnt := 1024, sub := 1, lo := 7, w := 2, dflt := 0, acc := .rw, rng := .nat 0 2 }
def F.objLen : Fld := { home := 107374198793, obj := 0x6400, cnt := 1024, sub := 1, lo := 9, w := 7, dflt := 0, acc := .rw, rng := .canlen }
def F.objClass : Fld := { home := 107374198800, obj := 0x6400, cnt := 1024, sub := 1, lo := 16, w := 3, dflt := 0, acc := .rw, rng := .nat 0 4 }
def F.objRs : Fld := { home := 107374198803, obj := 0x6400, cnt := 1024, sub := 1, lo := 19, w := 13, dflt := 0, acc := .rs }
def F.objId : Fld := { home := 107374215168, obj := 0x6400, cnt := 1024, sub := 2, lo := 0, w := 32, dflt := 0, acc := .rw, rng := .nat 0 0x1FFFFFFF }
def F.objTxPeriod : Fld := { home := 107374231552, obj := 0x6400, cnt := 1024, sub := 3, lo := 0, w := 16, dflt := 4, acc := .rw, rng := .nat 1 4000 }
def F.objTxPhase : Fld := { home := 107374247936, obj := 0x6400, cnt := 1024, sub := 4, lo := 0, w := 16, dflt := 0, acc := .rw }
def F.objLost : Fld := { home := 107374264320, obj := 0x6400, cnt := 1024, sub := 5, lo := 0, w := 1, dflt := 0, acc := .w1c }
def F.objNoPeer : Fld := { home := 107374264321, obj := 0x6400, cnt := 1024, sub := 5, lo := 1, w := 1, dflt := 0, acc := .w1c }
def F.objTxFailed : Fld := { home := 107374264322, obj := 0x6400, cnt := 1024, sub := 5, lo := 2, w := 1, dflt := 0, acc := .w1c }
def F.objPending : Fld := { home := 107374264323, obj := 0x6400, cnt := 1024, sub := 5, lo := 3, w := 1, dflt := 0, acc := .ro }
def F.objTxDropped : Fld := { home := 107374264324, obj := 0x6400, cnt := 1024, sub := 5, lo := 4, w := 1, dflt := 0, acc := .w1c }
def F.objRs2 : Fld := { home := 107374264325, obj := 0x6400, cnt := 1024, sub := 5, lo := 5, w := 3, dflt := 0, acc := .rs }
def F.objAckErrRun : Fld := { home := 107374264328, obj := 0x6400, cnt := 1024, sub := 5, lo := 8, w := 8, dflt := 0, acc := .ro }
def F.objOverwrites : Fld := { home := 107374280704, obj := 0x6400, cnt := 1024, sub := 6, lo := 0, w := 32, dflt := 0, acc := .ro }
def F.objLostCount : Fld := { home := 107374297088, obj := 0x6400, cnt := 1024, sub := 7, lo := 0, w := 32, dflt := 0, acc := .ro }
def F.groupCanObj : List Fld :=
  [F.objDir, F.objIdExt, F.objFd, F.objBrs, F.objRtr, F.objSingleShot,
   F.objTrigger, F.objLen, F.objClass, F.objRs, F.objId, F.objTxPeriod,
   F.objTxPhase, F.objLost, F.objNoPeer, F.objTxFailed, F.objPending, F.objTxDropped,
   F.objRs2, F.objAckErrRun, F.objOverwrites, F.objLostCount]

/-! Group of objects 0x6800 (spec/12_can.md R351), 2048 instances. -/
def F.fType : Fld := { home := 111669166080, obj := 0x6800, cnt := 2048, sub := 1, lo := 0, w := 2, dflt := 0, acc := .rw, rng := .nat 0 3 }
def F.fExt : Fld := { home := 111669166082, obj := 0x6800, cnt := 2048, sub := 1, lo := 2, w := 1, dflt := 0, acc := .rw, rng := .nat 0 1 }
def F.fAction : Fld := { home := 111669166083, obj := 0x6800, cnt := 2048, sub := 1, lo := 3, w := 1, dflt := 0, acc := .rw, rng := .nat 0 1 }
def F.fObject : Fld := { home := 111669166084, obj := 0x6800, cnt := 2048, sub := 1, lo := 4, w := 7, dflt := 0, acc := .rw }
def F.fRs : Fld := { home := 111669166091, obj := 0x6800, cnt := 2048, sub := 1, lo := 11, w := 21, dflt := 0, acc := .rs }
def F.fId1 : Fld := { home := 111669182464, obj := 0x6800, cnt := 2048, sub := 2, lo := 0, w := 32, dflt := 0, acc := .rw, rng := .nat 0 0x1FFFFFFF }
def F.fId2 : Fld := { home := 111669198848, obj := 0x6800, cnt := 2048, sub := 3, lo := 0, w := 32, dflt := 0, acc := .rw, rng := .nat 0 0x1FFFFFFF }
def F.groupCanFilter : List Fld :=
  [F.fType, F.fExt, F.fAction, F.fObject, F.fRs, F.fId1,
   F.fId2]

/-! Group of objects 0x7000 (spec/06_pair_redundancy.md R174/R175), 1 instance. -/
def F.pairState : Fld := { home := 120259084288, obj := 0x7000, cnt := 1, sub := 0, lo := 0, w := 3, dflt := 0, acc := .ro }
def F.side : Fld := { home := 120259084291, obj := 0x7000, cnt := 1, sub := 0, lo := 3, w := 1, dflt := 0, acc := .ro }
def F.linkUp : Fld := { home := 120259084292, obj := 0x7000, cnt := 1, sub := 0, lo := 4, w := 2, dflt := 0, acc := .ro }
def F.claimSeen : Fld := { home := 120259084294, obj := 0x7000, cnt := 1, sub := 0, lo := 6, w := 1, dflt := 0, acc := .ro }
def F.changePending : Fld := { home := 120259084295, obj := 0x7000, cnt := 1, sub := 0, lo := 7, w := 1, dflt := 0, acc := .ro }
def F.crossover : Fld := { home := 120259084296, obj := 0x7000, cnt := 1, sub := 0, lo := 8, w := 1, dflt := 0, acc := .ro }
def F.resyncing : Fld := { home := 120259084297, obj := 0x7000, cnt := 1, sub := 0, lo := 9, w := 1, dflt := 0, acc := .ro }
def F.pairRs : Fld := { home := 120259084298, obj := 0x7000, cnt := 1, sub := 0, lo := 10, w := 6, dflt := 0, acc := .rs }
def F.crossoverCount : Fld := { home := 120259084304, obj := 0x7000, cnt := 1, sub := 0, lo := 16, w := 7, dflt := 0, acc := .ro }
def F.pairRs2 : Fld := { home := 120259084311, obj := 0x7000, cnt := 1, sub := 0, lo := 23, w := 9, dflt := 0, acc := .rs }
def F.lastClosed : Fld := { home := 120259100672, obj := 0x7000, cnt := 1, sub := 1, lo := 0, w := 64, dflt := 0, acc := .ro }
def F.takeoverCount : Fld := { home := 120259117056, obj := 0x7000, cnt := 1, sub := 2, lo := 0, w := 32, dflt := 0, acc := .ro }
def F.plannedCount : Fld := { home := 120259133440, obj := 0x7000, cnt := 1, sub := 3, lo := 0, w := 32, dflt := 0, acc := .ro }
def F.overflowCount : Fld := { home := 120259149824, obj := 0x7000, cnt := 1, sub := 4, lo := 0, w := 32, dflt := 0, acc := .ro }
def F.trackPeak : Fld := { home := 120259166208, obj := 0x7000, cnt := 1, sub := 5, lo := 0, w := 32, dflt := 0, acc := .ro }
def F.lastTakeoverBeat : Fld := { home := 120259182592, obj := 0x7000, cnt := 1, sub := 6, lo := 0, w := 64, dflt := 0, acc := .ro }
def F.lastTakeoverKind : Fld := { home := 120259198976, obj := 0x7000, cnt := 1, sub := 7, lo := 0, w := 8, dflt := 0, acc := .ro }
def F.crossoverMap : Fld := { home := 120259215360, obj := 0x7000, cnt := 1, sub := 8, lo := 0, w := 96, dflt := 0, acc := .ro }
def F.partnerLanes : Fld := { home := 120259231744, obj := 0x7000, cnt := 1, sub := 9, lo := 0, w := 96, dflt := 0, acc := .ro }
def F.groupPair : List Fld :=
  [F.pairState, F.side, F.linkUp, F.claimSeen, F.changePending, F.crossover,
   F.resyncing, F.pairRs, F.crossoverCount, F.pairRs2, F.lastClosed, F.takeoverCount,
   F.plannedCount, F.overflowCount, F.trackPeak, F.lastTakeoverBeat, F.lastTakeoverKind, F.crossoverMap,
   F.partnerLanes]

/-! Group of objects 0x7001 (spec/06_pair_redundancy.md R176), 1 instance. -/
def F.pairMode : Fld := { home := 120263294976, obj := 0x7001, cnt := 1, sub := 1, lo := 0, w := 8, dflt := 0, acc := .rw, rng := .nat 0 1, wmode := .stopStart }
def F.preferredSide : Fld := { home := 120263311360, obj := 0x7001, cnt := 1, sub := 2, lo := 0, w := 8, dflt := 0, acc := .rw, rng := .nat 0 1, wmode := .stopStart }
def F.switchoverOnHealth : Fld := { home := 120263327744, obj := 0x7001, cnt := 1, sub := 3, lo := 0, w := 8, dflt := 1, acc := .rw, rng := .nat 0 1 }
def F.shadowSettle : Fld := { home := 120263344128, obj := 0x7001, cnt := 1, sub := 4, lo := 0, w := 32, dflt := 4000, acc := .rw, rng := .nat 0 400000 }
def F.confirmWindow : Fld := { home := 120263360512, obj := 0x7001, cnt := 1, sub := 5, lo := 0, w := 32, dflt := 86400, acc := .rw, rng := .nat 600 604800 }
def F.shadowTakeover : Fld := { home := 120263376896, obj := 0x7001, cnt := 1, sub := 6, lo := 0, w := 8, dflt := 1, acc := .rw, rng := .nat 0 1 }
def F.compareTolerance : Fld := { home := 120263393280, obj := 0x7001, cnt := 1, sub := 7, lo := 0, w := 16, dflt := 50, acc := .rw, rng := .nat 0 1000 }
def F.groupPairCfg : List Fld :=
  [F.pairMode, F.preferredSide, F.switchoverOnHealth, F.shadowSettle, F.confirmWindow, F.shadowTakeover,
   F.compareTolerance]

/-! Group of objects 0x7100 (spec/06_pair_redundancy.md R177), 48 instances. -/
def F.hcLastPass : Fld := { home := 121332842496, obj := 0x7100, cnt := 48, sub := 1, lo := 0, w := 64, dflt := 0, acc := .ro }
def F.hcInterval : Fld := { home := 121332858880, obj := 0x7100, cnt := 48, sub := 2, lo := 0, w := 32, dflt := 0, acc := .ro }
def F.hcState : Fld := { home := 121332875264, obj := 0x7100, cnt := 48, sub := 3, lo := 0, w := 8, dflt := 1, acc := .ro }
def F.hcFailCount : Fld := { home := 121332891648, obj := 0x7100, cnt := 48, sub := 4, lo := 0, w := 32, dflt := 0, acc := .ro }
def F.groupHealth : List Fld :=
  [F.hcLastPass, F.hcInterval, F.hcState, F.hcFailCount]

/-! Group of objects 0x7200 (spec/06_pair_redundancy.md R178), 1 instance. -/
def F.shState : Fld := { home := 122406584320, obj := 0x7200, cnt := 1, sub := 1, lo := 0, w := 8, dflt := 0, acc := .ro }
def F.shStartBeat : Fld := { home := 122406600704, obj := 0x7200, cnt := 1, sub := 2, lo := 0, w := 64, dflt := 0, acc := .ro }
def F.shBeats : Fld := { home := 122406617088, obj := 0x7200, cnt := 1, sub := 3, lo := 0, w := 32, dflt := 0, acc := .ro }
def F.shPoints : Fld := { home := 122406633472, obj := 0x7200, cnt := 1, sub := 4, lo := 0, w := 32, dflt := 0, acc := .ro }
def F.shMismatches : Fld := { home := 122406649856, obj := 0x7200, cnt := 1, sub := 5, lo := 0, w := 32, dflt := 0, acc := .ro }
def F.shUnaccepted : Fld := { home := 122406666240, obj := 0x7200, cnt := 1, sub := 6, lo := 0, w := 32, dflt := 0, acc := .ro }
def F.shIntended : Fld := { home := 122406682624, obj := 0x7200, cnt := 1, sub := 7, lo := 0, w := 32, dflt := 0, acc := .ro }
def F.groupShadow : List Fld :=
  [F.shState, F.shStartBeat, F.shBeats, F.shPoints, F.shMismatches, F.shUnaccepted,
   F.shIntended]

/-! Group of objects 0x8000 (spec/05_loop_engine.md R135), 1 instance. -/
def F.loopCount : Fld := { home := 137438969856, obj := 0x8000, cnt := 1, sub := 1, lo := 0, w := 16, dflt := 0, acc := .ro }
def F.t0Count : Fld := { home := 137438986240, obj := 0x8000, cnt := 1, sub := 2, lo := 0, w := 16, dflt := 0, acc := .ro }
def F.charged : Fld := { home := 137439002624, obj := 0x8000, cnt := 1, sub := 3, lo := 0, w := 32, dflt := 0, acc := .ro }
def F.groupCount : Fld := { home := 137439019008, obj := 0x8000, cnt := 1, sub := 4, lo := 0, w := 16, dflt := 0, acc := .ro }
def F.finishPeak : Fld := { home := 137439035392, obj := 0x8000, cnt := 1, sub := 5, lo := 0, w := 16, dflt := 0, acc := .ro }
def F.lateCount : Fld := { home := 137439051776, obj := 0x8000, cnt := 1, sub := 6, lo := 0, w := 32, dflt := 0, acc := .ro }
def F.shedCount : Fld := { home := 137439068160, obj := 0x8000, cnt := 1, sub := 7, lo := 0, w := 32, dflt := 0, acc := .ro }
def F.groupLoopEng : List Fld :=
  [F.loopCount, F.t0Count, F.charged, F.groupCount, F.finishPeak, F.lateCount,
   F.shedCount]

/-! Group of objects 0x8200 (spec/05_loop_engine.md R136), 512 instances. -/
def F.grpSelected : Fld := { home := 139586453504, obj := 0x8200, cnt := 512, sub := 1, lo := 0, w := 3, dflt := 0, acc := .ro }
def F.grpMode : Fld := { home := 139586453507, obj := 0x8200, cnt := 512, sub := 1, lo := 3, w := 1, dflt := 0, acc := .ro }
def F.grpInvert : Fld := { home := 139586453508, obj := 0x8200, cnt := 512, sub := 1, lo := 4, w := 1, dflt := 0, acc := .ro }
def F.grpNoneCompeting : Fld := { home := 139586453509, obj := 0x8200, cnt := 512, sub := 1, lo := 5, w := 1, dflt := 0, acc := .ro }
def F.grpRs : Fld := { home := 139586453510, obj := 0x8200, cnt := 512, sub := 1, lo := 6, w := 2, dflt := 0, acc := .rs }
def F.grpPresent : Fld := { home := 139586453512, obj := 0x8200, cnt := 512, sub := 1, lo := 8, w := 8, dflt := 0, acc := .ro }
def F.grpCompeting : Fld := { home := 139586453520, obj := 0x8200, cnt := 512, sub := 1, lo := 16, w := 8, dflt := 0, acc := .ro }
def F.grpRs2 : Fld := { home := 139586453528, obj := 0x8200, cnt := 512, sub := 1, lo := 24, w := 8, dflt := 0, acc := .rs }
def F.grpOut : Fld := { home := 139586469888, obj := 0x8200, cnt := 512, sub := 2, lo := 0, w := 32, dflt := 0, acc := .ro }
def F.grpManual : Fld := { home := 139586486272, obj := 0x8200, cnt := 512, sub := 3, lo := 0, w := 32, dflt := 0, acc := .rw, rng := .real (some (0, 1)) (some (100, 1)) }
def F.grpOutRate : Fld := { home := 139586502656, obj := 0x8200, cnt := 512, sub := 4, lo := 0, w := 32, dflt := 0, acc := .rw, rng := .real (some (0, 1)) none }
def F.grpSwitchCount : Fld := { home := 139586519040, obj := 0x8200, cnt := 512, sub := 5, lo := 0, w := 32, dflt := 0, acc := .ro }
def F.groupGroup : List Fld :=
  [F.grpSelected, F.grpMode, F.grpInvert, F.grpNoneCompeting, F.grpRs, F.grpPresent,
   F.grpCompeting, F.grpRs2, F.grpOut, F.grpManual, F.grpOutRate, F.grpSwitchCount]

/-! Group of objects 0x9000 (spec/16_journal_and_recorder.md R443), 1 instance. -/
def F.liveHalf : Fld := { home := 154618839040, obj := 0x9000, cnt := 1, sub := 1, lo := 0, w := 8, dflt := 0, acc := .ro }
def F.sbSeq : Fld := { home := 154618855424, obj := 0x9000, cnt := 1, sub := 2, lo := 0, w := 64, dflt := 1, acc := .ro }
def F.liveBytes : Fld := { home := 154618871808, obj := 0x9000, cnt := 1, sub := 3, lo := 0, w := 32, dflt := 0, acc := .ro }
def F.liveRecords : Fld := { home := 154618888192, obj := 0x9000, cnt := 1, sub := 4, lo := 0, w := 32, dflt := 0, acc := .ro }
def F.nextSeq : Fld := { home := 154618904576, obj := 0x9000, cnt := 1, sub := 5, lo := 0, w := 64, dflt := 1, acc := .ro }
def F.rollState : Fld := { home := 154618920960, obj := 0x9000, cnt := 1, sub := 6, lo := 0, w := 8, dflt := 0, acc := .ro }
def F.rollCount : Fld := { home := 154618937344, obj := 0x9000, cnt := 1, sub := 7, lo := 0, w := 32, dflt := 0, acc := .ro }
def F.tornCount : Fld := { home := 154618953728, obj := 0x9000, cnt := 1, sub := 8, lo := 0, w := 32, dflt := 0, acc := .ro }
def F.lastRecovery : Fld := { home := 154618970112, obj := 0x9000, cnt := 1, sub := 9, lo := 0, w := 8, dflt := 0, acc := .ro }
def F.rollThreshold : Fld := { home := 154618986496, obj := 0x9000, cnt := 1, sub := 10, lo := 0, w := 8, dflt := 75, acc := .rw, rng := .nat 50 90 }
def F.groupJournal : List Fld :=
  [F.liveHalf, F.sbSeq, F.liveBytes, F.liveRecords, F.nextSeq, F.rollState,
   F.rollCount, F.tornCount, F.lastRecovery, F.rollThreshold]

/-! Group of objects 0x9001 (spec/16_journal_and_recorder.md R444), 1 instance. -/
def F.recCount : Fld := { home := 154623033344, obj := 0x9001, cnt := 1, sub := 1, lo := 0, w := 32, dflt := 0, acc := .ro }
def F.recFull : Fld := { home := 154623049728, obj := 0x9001, cnt := 1, sub := 2, lo := 0, w := 1, dflt := 0, acc := .ro }
def F.recFrozen : Fld := { home := 154623049729, obj := 0x9001, cnt := 1, sub := 2, lo := 1, w := 1, dflt := 0, acc := .ro }
def F.recRs : Fld := { home := 154623049730, obj := 0x9001, cnt := 1, sub := 2, lo := 2, w := 6, dflt := 0, acc := .rs }
def F.recLost : Fld := { home := 154623066112, obj := 0x9001, cnt := 1, sub := 3, lo := 0, w := 32, dflt := 0, acc := .ro }
def F.holdDepth : Fld := { home := 154623082496, obj := 0x9001, cnt := 1, sub := 4, lo := 0, w := 16, dflt := 0, acc := .ro }
def F.frozenBy : Fld := { home := 154623098880, obj := 0x9001, cnt := 1, sub := 5, lo := 0, w := 32, dflt := 0, acc := .ro }
def F.opTime : Fld := { home := 154623115264, obj := 0x9001, cnt := 1, sub := 6, lo := 0, w := 64, dflt := 0, acc := .ro }
def F.powerCycles : Fld := { home := 154623131648, obj := 0x9001, cnt := 1, sub := 7, lo := 0, w := 32, dflt := 0, acc := .ro }
def F.clearCount : Fld := { home := 154623148032, obj := 0x9001, cnt := 1, sub := 8, lo := 0, w := 32, dflt := 0, acc := .ro }
def F.groupRecorder : List Fld :=
  [F.recCount, F.recFull, F.recFrozen, F.recRs, F.recLost, F.holdDepth,
   F.frozenBy, F.opTime, F.powerCycles, F.clearCount]

/-! Group of objects 0xA000 (spec/18_security.md R493), 1 instance. -/
def F.secAlias : Fld := { home := 67108870, obj := 0xA000, cnt := 1, sub := 1, lo := 0, w := 8, dflt := 0, acc := .ro }
def F.dbgAlias : Fld := { home := 67108872, obj := 0xA000, cnt := 1, sub := 2, lo := 0, w := 8, dflt := 0, acc := .ro }
def F.debugSession : Fld := { home := 171798740992, obj := 0xA000, cnt := 1, sub := 3, lo := 0, w := 32, dflt := 0, acc := .ro }
def F.debugLeft : Fld := { home := 171798757376, obj := 0xA000, cnt := 1, sub := 4, lo := 0, w := 32, dflt := 0, acc := .ro }
def F.lastTokenSeq : Fld := { home := 171798773760, obj := 0xA000, cnt := 1, sub := 5, lo := 0, w := 64, dflt := 0, acc := .ro }
def F.debugWrites : Fld := { home := 171798790144, obj := 0xA000, cnt := 1, sub := 6, lo := 0, w := 8, dflt := 0, acc := .ro }
def F.tokenRejects : Fld := { home := 171798806528, obj := 0xA000, cnt := 1, sub := 7, lo := 0, w := 32, dflt := 0, acc := .ro }
def F.groupSecurity : List Fld :=
  [F.secAlias, F.dbgAlias, F.debugSession, F.debugLeft, F.lastTokenSeq, F.debugWrites,
   F.tokenRejects]

/-! Group of objects 0xA010 (spec/18_security.md R494), 1 instance. -/
def F.dbgCmd : Fld := { home := 171865817088, obj := 0xA010, cnt := 1, sub := 1, lo := 0, w := 8, dflt := 0, acc := .wo, rng := .nat 1 4 }
def F.haltState : Fld := { home := 171865833472, obj := 0xA010, cnt := 1, sub := 2, lo := 0, w := 8, dflt := 0, acc := .ro }
def F.dbgAddr : Fld := { home := 171865849856, obj := 0xA010, cnt := 1, sub := 3, lo := 0, w := 64, dflt := 0, acc := .rw, rng := .addr64 }
def F.dbgWindow : Fld := { home := 171865866240, obj := 0xA010, cnt := 1, sub := 4, lo := 0, w := 512, dflt := 0, acc := .rw }
def F.haltPc : Fld := { home := 171865882624, obj := 0xA010, cnt := 1, sub := 5, lo := 0, w := 256, dflt := 0, acc := .ro }
def F.groupDebug : List Fld :=
  [F.dbgCmd, F.haltState, F.dbgAddr, F.dbgWindow, F.haltPc]

/-! Group of objects 0xA011 (spec/18_security.md R495), 1 instance. -/
def F.traceFill : Fld := { home := 171870027776, obj := 0xA011, cnt := 1, sub := 2, lo := 0, w := 32, dflt := 0, acc := .ro }
def F.traceWraps : Fld := { home := 171870044160, obj := 0xA011, cnt := 1, sub := 3, lo := 0, w := 32, dflt := 0, acc := .ro }
def F.groupTrace : List Fld :=
  [F.traceFill, F.traceWraps]

/-! Group of objects 0xA020 (spec/18_security.md R496), 1 instance. -/
def F.faultAddr : Fld := { home := 171932925952, obj := 0xA020, cnt := 1, sub := 1, lo := 0, w := 64, dflt := 0, acc := .ro }
def F.mfRegion : Fld := { home := 171932942336, obj := 0xA020, cnt := 1, sub := 2, lo := 0, w := 5, dflt := 0, acc := .ro }
def F.mfPart : Fld := { home := 171932942341, obj := 0xA020, cnt := 1, sub := 2, lo := 5, w := 2, dflt := 0, acc := .ro }
def F.mfCause : Fld := { home := 171932942343, obj := 0xA020, cnt := 1, sub := 2, lo := 7, w := 3, dflt := 0, acc := .ro }
def F.mfPriv : Fld := { home := 171932942346, obj := 0xA020, cnt := 1, sub := 2, lo := 10, w := 1, dflt := 0, acc := .ro }
def F.mfBank : Fld := { home := 171932942347, obj := 0xA020, cnt := 1, sub := 2, lo := 11, w := 1, dflt := 0, acc := .ro }
def F.mfCore : Fld := { home := 171932942348, obj := 0xA020, cnt := 1, sub := 2, lo := 12, w := 2, dflt := 0, acc := .ro }
def F.mfTask : Fld := { home := 171932942350, obj := 0xA020, cnt := 1, sub := 2, lo := 14, w := 5, dflt := 0, acc := .ro }
def F.mfRs : Fld := { home := 171932942355, obj := 0xA020, cnt := 1, sub := 2, lo := 19, w := 13, dflt := 0, acc := .rs }
def F.mpuFaultBeat : Fld := { home := 171932958720, obj := 0xA020, cnt := 1, sub := 3, lo := 0, w := 64, dflt := 0, acc := .ro }
def F.mpuFaultCount : Fld := { home := 171932975104, obj := 0xA020, cnt := 1, sub := 4, lo := 0, w := 32, dflt := 0, acc := .ro }
def F.groupMpuFault : List Fld :=
  [F.faultAddr, F.mfRegion, F.mfPart, F.mfCause, F.mfPriv, F.mfBank,
   F.mfCore, F.mfTask, F.mfRs, F.mpuFaultBeat, F.mpuFaultCount]

/-! Group of objects 0xA030 (spec/18_security.md R497), 1 instance. -/
def F.auditCount : Fld := { home := 172000034816, obj := 0xA030, cnt := 1, sub := 1, lo := 0, w := 32, dflt := 0, acc := .ro }
def F.auditNext : Fld := { home := 172000051200, obj := 0xA030, cnt := 1, sub := 2, lo := 0, w := 32, dflt := 0, acc := .ro }
def F.auditWraps : Fld := { home := 172000067584, obj := 0xA030, cnt := 1, sub := 3, lo := 0, w := 32, dflt := 0, acc := .ro }
def F.linkOk : Fld := { home := 172000083968, obj := 0xA030, cnt := 1, sub := 4, lo := 0, w := 8, dflt := 0, acc := .ro }
def F.groupAudit : List Fld :=
  [F.auditCount, F.auditNext, F.auditWraps, F.linkOk]

/-! Group of objects 0xB000 (spec/19_power.md R515/R516), 1 instance. -/
def F.feedA : Fld := { home := 188978561024, obj := 0xB000, cnt := 1, sub := 0, lo := 0, w := 2, dflt := 0, acc := .ro }
def F.feedB : Fld := { home := 188978561026, obj := 0xB000, cnt := 1, sub := 0, lo := 2, w := 2, dflt := 0, acc := .ro }
def F.bankReady : Fld := { home := 188978561028, obj := 0xB000, cnt := 1, sub := 0, lo := 4, w := 1, dflt := 0, acc := .ro }
def F.pwrSeq : Fld := { home := 188978561029, obj := 0xB000, cnt := 1, sub := 0, lo := 5, w := 3, dflt := 0, acc := .ro }
def F.gated : Fld := { home := 188978561032, obj := 0xB000, cnt := 1, sub := 0, lo := 8, w := 6, dflt := 0, acc := .ro }
def F.pwrAlias : Fld := { home := 67108874, obj := 0xB000, cnt := 1, sub := 0, lo := 14, w := 2, dflt := 0, acc := .ro }
def F.lastWake : Fld := { home := 188978561040, obj := 0xB000, cnt := 1, sub := 0, lo := 16, w := 8, dflt := 0, acc := .ro }
def F.latchValid : Fld := { home := 188978561048, obj := 0xB000, cnt := 1, sub := 0, lo := 24, w := 1, dflt := 0, acc := .ro }
def F.crashSeen : Fld := { home := 188978561049, obj := 0xB000, cnt := 1, sub := 0, lo := 25, w := 1, dflt := 0, acc := .w1c }
def F.powerRs : Fld := { home := 188978561050, obj := 0xB000, cnt := 1, sub := 0, lo := 26, w := 6, dflt := 0, acc := .rs }
def F.feedAV : Fld := { home := 188978577408, obj := 0xB000, cnt := 1, sub := 1, lo := 0, w := 16, dflt := 0, acc := .ro }
def F.feedBV : Fld := { home := 188978593792, obj := 0xB000, cnt := 1, sub := 2, lo := 0, w := 16, dflt := 0, acc := .ro }
def F.bankV : Fld := { home := 188978610176, obj := 0xB000, cnt := 1, sub := 3, lo := 0, w := 16, dflt := 0, acc := .ro }
def F.bankCap : Fld := { home := 188978626560, obj := 0xB000, cnt := 1, sub := 4, lo := 0, w := 16, dflt := 0, acc := .ro }
def F.powerDraw : Fld := { home := 188978642944, obj := 0xB000, cnt := 1, sub := 5, lo := 0, w := 16, dflt := 0, acc := .ro }
def F.faultLatch : Fld := { home := 188978659328, obj := 0xB000, cnt := 1, sub := 6, lo := 0, w := 512, dflt := 0, acc := .ro }
def F.pwrdnCount : Fld := { home := 188978675712, obj := 0xB000, cnt := 1, sub := 7, lo := 0, w := 32, dflt := 0, acc := .ro }
def F.crashCount : Fld := { home := 188978692096, obj := 0xB000, cnt := 1, sub := 8, lo := 0, w := 32, dflt := 0, acc := .ro }
def F.groupPower : List Fld :=
  [F.feedA, F.feedB, F.bankReady, F.pwrSeq, F.gated, F.pwrAlias,
   F.lastWake, F.latchValid, F.crashSeen, F.powerRs, F.feedAV, F.feedBV,
   F.bankV, F.bankCap, F.powerDraw, F.faultLatch, F.pwrdnCount, F.crashCount]

/-! Group of objects 0xB001 (spec/19_power.md R517), 1 instance. -/
def F.ps0Entries : Fld := { home := 188983017472, obj := 0xB001, cnt := 1, sub := 16, lo := 0, w := 32, dflt := 0, acc := .ro }
def F.ps0Aborts : Fld := { home := 188983033856, obj := 0xB001, cnt := 1, sub := 17, lo := 0, w := 32, dflt := 0, acc := .ro }
def F.ps0RefDebug : Fld := { home := 188983050240, obj := 0xB001, cnt := 1, sub := 18, lo := 0, w := 32, dflt := 0, acc := .ro }
def F.ps0RefDma : Fld := { home := 188983066624, obj := 0xB001, cnt := 1, sub := 19, lo := 0, w := 32, dflt := 0, acc := .ro }
def F.ps0RefPairTrack : Fld := { home := 188983083008, obj := 0xB001, cnt := 1, sub := 20, lo := 0, w := 32, dflt := 0, acc := .ro }
def F.ps0RefLaneTxn : Fld := { home := 188983099392, obj := 0xB001, cnt := 1, sub := 21, lo := 0, w := 32, dflt := 0, acc := .ro }
def F.ps0RefEventPending : Fld := { home := 188983115776, obj := 0xB001, cnt := 1, sub := 22, lo := 0, w := 32, dflt := 0, acc := .ro }
def F.ps0RefThermal : Fld := { home := 188983132160, obj := 0xB001, cnt := 1, sub := 23, lo := 0, w := 32, dflt := 0, acc := .ro }
def F.ps0GatedMs : Fld := { home := 188983148544, obj := 0xB001, cnt := 1, sub := 24, lo := 0, w := 32, dflt := 0, acc := .ro }
def F.ps0LastAbortAp : Fld := { home := 188983164928, obj := 0xB001, cnt := 1, sub := 25, lo := 0, w := 8, dflt := 0, acc := .ro }
def F.ps0LastWake : Fld := { home := 188983181312, obj := 0xB001, cnt := 1, sub := 26, lo := 0, w := 8, dflt := 0, acc := .ro }
def F.ps1Entries : Fld := { home := 188983279616, obj := 0xB001, cnt := 1, sub := 32, lo := 0, w := 32, dflt := 0, acc := .ro }
def F.ps1Aborts : Fld := { home := 188983296000, obj := 0xB001, cnt := 1, sub := 33, lo := 0, w := 32, dflt := 0, acc := .ro }
def F.ps1RefDebug : Fld := { home := 188983312384, obj := 0xB001, cnt := 1, sub := 34, lo := 0, w := 32, dflt := 0, acc := .ro }
def F.ps1RefDma : Fld := { home := 188983328768, obj := 0xB001, cnt := 1, sub := 35, lo := 0, w := 32, dflt := 0, acc := .ro }
def F.ps1RefPairTrack : Fld := { home := 188983345152, obj := 0xB001, cnt := 1, sub := 36, lo := 0, w := 32, dflt := 0, acc := .ro }
def F.ps1RefLaneTxn : Fld := { home := 188983361536, obj := 0xB001, cnt := 1, sub := 37, lo := 0, w := 32, dflt := 0, acc := .ro }
def F.ps1RefEventPending : Fld := { home := 188983377920, obj := 0xB001, cnt := 1, sub := 38, lo := 0, w := 32, dflt := 0, acc := .ro }
def F.ps1RefThermal : Fld := { home := 188983394304, obj := 0xB001, cnt := 1, sub := 39, lo := 0, w := 32, dflt := 0, acc := .ro }
def F.ps1GatedMs : Fld := { home := 188983410688, obj := 0xB001, cnt := 1, sub := 40, lo := 0, w := 32, dflt := 0, acc := .ro }
def F.ps1LastAbortAp : Fld := { home := 188983427072, obj := 0xB001, cnt := 1, sub := 41, lo := 0, w := 8, dflt := 0, acc := .ro }
def F.ps1LastWake : Fld := { home := 188983443456, obj := 0xB001, cnt := 1, sub := 42, lo := 0, w := 8, dflt := 0, acc := .ro }
def F.ps2Entries : Fld := { home := 188983541760, obj := 0xB001, cnt := 1, sub := 48, lo := 0, w := 32, dflt := 0, acc := .ro }
def F.ps2Aborts : Fld := { home := 188983558144, obj := 0xB001, cnt := 1, sub := 49, lo := 0, w := 32, dflt := 0, acc := .ro }
def F.ps2RefDebug : Fld := { home := 188983574528, obj := 0xB001, cnt := 1, sub := 50, lo := 0, w := 32, dflt := 0, acc := .ro }
def F.ps2RefDma : Fld := { home := 188983590912, obj := 0xB001, cnt := 1, sub := 51, lo := 0, w := 32, dflt := 0, acc := .ro }
def F.ps2RefPairTrack : Fld := { home := 188983607296, obj := 0xB001, cnt := 1, sub := 52, lo := 0, w := 32, dflt := 0, acc := .ro }
def F.ps2RefLaneTxn : Fld := { home := 188983623680, obj := 0xB001, cnt := 1, sub := 53, lo := 0, w := 32, dflt := 0, acc := .ro }
def F.ps2RefEventPending : Fld := { home := 188983640064, obj := 0xB001, cnt := 1, sub := 54, lo := 0, w := 32, dflt := 0, acc := .ro }
def F.ps2RefThermal : Fld := { home := 188983656448, obj := 0xB001, cnt := 1, sub := 55, lo := 0, w := 32, dflt := 0, acc := .ro }
def F.ps2GatedMs : Fld := { home := 188983672832, obj := 0xB001, cnt := 1, sub := 56, lo := 0, w := 32, dflt := 0, acc := .ro }
def F.ps2LastAbortAp : Fld := { home := 188983689216, obj := 0xB001, cnt := 1, sub := 57, lo := 0, w := 8, dflt := 0, acc := .ro }
def F.ps2LastWake : Fld := { home := 188983705600, obj := 0xB001, cnt := 1, sub := 58, lo := 0, w := 8, dflt := 0, acc := .ro }
def F.ps3Entries : Fld := { home := 188983803904, obj := 0xB001, cnt := 1, sub := 64, lo := 0, w := 32, dflt := 0, acc := .ro }
def F.ps3Aborts : Fld := { home := 188983820288, obj := 0xB001, cnt := 1, sub := 65, lo := 0, w := 32, dflt := 0, acc := .ro }
def F.ps3RefDebug : Fld := { home := 188983836672, obj := 0xB001, cnt := 1, sub := 66, lo := 0, w := 32, dflt := 0, acc := .ro }
def F.ps3RefDma : Fld := { home := 188983853056, obj := 0xB001, cnt := 1, sub := 67, lo := 0, w := 32, dflt := 0, acc := .ro }
def F.ps3RefPairTrack : Fld := { home := 188983869440, obj := 0xB001, cnt := 1, sub := 68, lo := 0, w := 32, dflt := 0, acc := .ro }
def F.ps3RefLaneTxn : Fld := { home := 188983885824, obj := 0xB001, cnt := 1, sub := 69, lo := 0, w := 32, dflt := 0, acc := .ro }
def F.ps3RefEventPending : Fld := { home := 188983902208, obj := 0xB001, cnt := 1, sub := 70, lo := 0, w := 32, dflt := 0, acc := .ro }
def F.ps3RefThermal : Fld := { home := 188983918592, obj := 0xB001, cnt := 1, sub := 71, lo := 0, w := 32, dflt := 0, acc := .ro }
def F.ps3GatedMs : Fld := { home := 188983934976, obj := 0xB001, cnt := 1, sub := 72, lo := 0, w := 32, dflt := 0, acc := .ro }
def F.ps3LastAbortAp : Fld := { home := 188983951360, obj := 0xB001, cnt := 1, sub := 73, lo := 0, w := 8, dflt := 0, acc := .ro }
def F.ps3LastWake : Fld := { home := 188983967744, obj := 0xB001, cnt := 1, sub := 74, lo := 0, w := 8, dflt := 0, acc := .ro }
def F.ps4Entries : Fld := { home := 188984066048, obj := 0xB001, cnt := 1, sub := 80, lo := 0, w := 32, dflt := 0, acc := .ro }
def F.ps4Aborts : Fld := { home := 188984082432, obj := 0xB001, cnt := 1, sub := 81, lo := 0, w := 32, dflt := 0, acc := .ro }
def F.ps4RefDebug : Fld := { home := 188984098816, obj := 0xB001, cnt := 1, sub := 82, lo := 0, w := 32, dflt := 0, acc := .ro }
def F.ps4RefDma : Fld := { home := 188984115200, obj := 0xB001, cnt := 1, sub := 83, lo := 0, w := 32, dflt := 0, acc := .ro }
def F.ps4RefPairTrack : Fld := { home := 188984131584, obj := 0xB001, cnt := 1, sub := 84, lo := 0, w := 32, dflt := 0, acc := .ro }
def F.ps4RefLaneTxn : Fld := { home := 188984147968, obj := 0xB001, cnt := 1, sub := 85, lo := 0, w := 32, dflt := 0, acc := .ro }
def F.ps4RefEventPending : Fld := { home := 188984164352, obj := 0xB001, cnt := 1, sub := 86, lo := 0, w := 32, dflt := 0, acc := .ro }
def F.ps4RefThermal : Fld := { home := 188984180736, obj := 0xB001, cnt := 1, sub := 87, lo := 0, w := 32, dflt := 0, acc := .ro }
def F.ps4GatedMs : Fld := { home := 188984197120, obj := 0xB001, cnt := 1, sub := 88, lo := 0, w := 32, dflt := 0, acc := .ro }
def F.ps4LastAbortAp : Fld := { home := 188984213504, obj := 0xB001, cnt := 1, sub := 89, lo := 0, w := 8, dflt := 0, acc := .ro }
def F.ps4LastWake : Fld := { home := 188984229888, obj := 0xB001, cnt := 1, sub := 90, lo := 0, w := 8, dflt := 0, acc := .ro }
def F.ps5Entries : Fld := { home := 188984328192, obj := 0xB001, cnt := 1, sub := 96, lo := 0, w := 32, dflt := 0, acc := .ro }
def F.ps5Aborts : Fld := { home := 188984344576, obj := 0xB001, cnt := 1, sub := 97, lo := 0, w := 32, dflt := 0, acc := .ro }
def F.ps5RefDebug : Fld := { home := 188984360960, obj := 0xB001, cnt := 1, sub := 98, lo := 0, w := 32, dflt := 0, acc := .ro }
def F.ps5RefDma : Fld := { home := 188984377344, obj := 0xB001, cnt := 1, sub := 99, lo := 0, w := 32, dflt := 0, acc := .ro }
def F.ps5RefPairTrack : Fld := { home := 188984393728, obj := 0xB001, cnt := 1, sub := 100, lo := 0, w := 32, dflt := 0, acc := .ro }
def F.ps5RefLaneTxn : Fld := { home := 188984410112, obj := 0xB001, cnt := 1, sub := 101, lo := 0, w := 32, dflt := 0, acc := .ro }
def F.ps5RefEventPending : Fld := { home := 188984426496, obj := 0xB001, cnt := 1, sub := 102, lo := 0, w := 32, dflt := 0, acc := .ro }
def F.ps5RefThermal : Fld := { home := 188984442880, obj := 0xB001, cnt := 1, sub := 103, lo := 0, w := 32, dflt := 0, acc := .ro }
def F.ps5GatedMs : Fld := { home := 188984459264, obj := 0xB001, cnt := 1, sub := 104, lo := 0, w := 32, dflt := 0, acc := .ro }
def F.ps5LastAbortAp : Fld := { home := 188984475648, obj := 0xB001, cnt := 1, sub := 105, lo := 0, w := 8, dflt := 0, acc := .ro }
def F.ps5LastWake : Fld := { home := 188984492032, obj := 0xB001, cnt := 1, sub := 106, lo := 0, w := 8, dflt := 0, acc := .ro }
def F.groupPstats : List Fld :=
  [F.ps0Entries, F.ps0Aborts, F.ps0RefDebug, F.ps0RefDma, F.ps0RefPairTrack, F.ps0RefLaneTxn,
   F.ps0RefEventPending, F.ps0RefThermal, F.ps0GatedMs, F.ps0LastAbortAp, F.ps0LastWake, F.ps1Entries,
   F.ps1Aborts, F.ps1RefDebug, F.ps1RefDma, F.ps1RefPairTrack, F.ps1RefLaneTxn, F.ps1RefEventPending,
   F.ps1RefThermal, F.ps1GatedMs, F.ps1LastAbortAp, F.ps1LastWake, F.ps2Entries, F.ps2Aborts,
   F.ps2RefDebug, F.ps2RefDma, F.ps2RefPairTrack, F.ps2RefLaneTxn, F.ps2RefEventPending, F.ps2RefThermal,
   F.ps2GatedMs, F.ps2LastAbortAp, F.ps2LastWake, F.ps3Entries, F.ps3Aborts, F.ps3RefDebug,
   F.ps3RefDma, F.ps3RefPairTrack, F.ps3RefLaneTxn, F.ps3RefEventPending, F.ps3RefThermal, F.ps3GatedMs,
   F.ps3LastAbortAp, F.ps3LastWake, F.ps4Entries, F.ps4Aborts, F.ps4RefDebug, F.ps4RefDma,
   F.ps4RefPairTrack, F.ps4RefLaneTxn, F.ps4RefEventPending, F.ps4RefThermal, F.ps4GatedMs, F.ps4LastAbortAp,
   F.ps4LastWake, F.ps5Entries, F.ps5Aborts, F.ps5RefDebug, F.ps5RefDma, F.ps5RefPairTrack,
   F.ps5RefLaneTxn, F.ps5RefEventPending, F.ps5RefThermal, F.ps5GatedMs, F.ps5LastAbortAp, F.ps5LastWake]

/-! Group of objects 0xB002 (spec/19_power.md R518), 1 instance. -/
def F.idleTimer0 : Fld := { home := 188986966016, obj := 0xB002, cnt := 1, sub := 1, lo := 0, w := 16, dflt := 2, acc := .rw, rng := .nat 2 10000 }
def F.idleTimer1 : Fld := { home := 188986982400, obj := 0xB002, cnt := 1, sub := 2, lo := 0, w := 16, dflt := 100, acc := .rw, rng := .nat 2 10000 }
def F.idleTimer2 : Fld := { home := 188986998784, obj := 0xB002, cnt := 1, sub := 3, lo := 0, w := 16, dflt := 100, acc := .rw, rng := .nat 2 10000 }
def F.idleTimer3 : Fld := { home := 188987015168, obj := 0xB002, cnt := 1, sub := 4, lo := 0, w := 16, dflt := 10000, acc := .rw, rng := .nat 2 10000 }
def F.idleTimer4 : Fld := { home := 188987031552, obj := 0xB002, cnt := 1, sub := 5, lo := 0, w := 16, dflt := 10000, acc := .rw, rng := .nat 2 10000 }
def F.idleTimer5 : Fld := { home := 188987047936, obj := 0xB002, cnt := 1, sub := 6, lo := 0, w := 16, dflt := 50, acc := .rw, rng := .nat 2 10000 }
def F.trimEnable : Fld := { home := 188987064320, obj := 0xB002, cnt := 1, sub := 7, lo := 0, w := 8, dflt := 0x3F, acc := .rw, rng := .nat 0 0x3F }
def F.groupPowerCfg : List Fld :=
  [F.idleTimer0, F.idleTimer1, F.idleTimer2, F.idleTimer3, F.idleTimer4, F.idleTimer5,
   F.trimEnable]

/-! Group of objects 0xC000 (spec/17_events_watchdog.md R465), 1 instance. -/
def F.wdClock : Fld := { home := 206158446592, obj := 0xC000, cnt := 1, sub := 1, lo := 0, w := 8, dflt := 1, acc := .rw, rng := .nat 0 1, wmode := .stop }
def F.wdOpen : Fld := { home := 206158462976, obj := 0xC000, cnt := 1, sub := 2, lo := 0, w := 32, dflt := 40000, acc := .rw, rng := .nat 100 9999500 }
def F.wdClose : Fld := { home := 206158479360, obj := 0xC000, cnt := 1, sub := 3, lo := 0, w := 32, dflt := 100000, acc := .rw, rng := .nat 1000 10000000 }
def F.tollLimit : Fld := { home := 206158495744, obj := 0xC000, cnt := 1, sub := 4, lo := 0, w := 8, dflt := 3, acc := .rw, rng := .nat 1 15 }
def F.groupWdCfg : List Fld :=
  [F.wdClock, F.wdOpen, F.wdClose, F.tollLimit]

/-! Group of objects 0xC001 (spec/17_events_watchdog.md R466/R467), 1 instance. -/
def F.wdState : Fld := { home := 206162624512, obj := 0xC001, cnt := 1, sub := 0, lo := 0, w := 2, dflt := 0, acc := .ro }
def F.wdClockNow : Fld := { home := 206162624514, obj := 0xC001, cnt := 1, sub := 0, lo := 2, w := 1, dflt := 1, acc := .ro }
def F.monitorOk : Fld := { home := 206162624515, obj := 0xC001, cnt := 1, sub := 0, lo := 3, w := 1, dflt := 1, acc := .ro }
def F.eraseGuard : Fld := { home := 206162624516, obj := 0xC001, cnt := 1, sub := 0, lo := 4, w := 1, dflt := 0, acc := .w1c }
def F.wdLastCause : Fld := { home := 206162624517, obj := 0xC001, cnt := 1, sub := 0, lo := 5, w := 2, dflt := 0, acc := .ro }
def F.wdRs : Fld := { home := 206162624519, obj := 0xC001, cnt := 1, sub := 0, lo := 7, w := 9, dflt := 0, acc := .rs }
def F.tollAlias : Fld := { home := 67108888, obj := 0xC001, cnt := 1, sub := 0, lo := 16, w := 4, dflt := 0, acc := .ro }
def F.wdRs2 : Fld := { home := 206162624532, obj := 0xC001, cnt := 1, sub := 0, lo := 20, w := 12, dflt := 0, acc := .rs }
def F.wdCount : Fld := { home := 206162640896, obj := 0xC001, cnt := 1, sub := 1, lo := 0, w := 32, dflt := 0, acc := .ro }
def F.openCount : Fld := { home := 206162657280, obj := 0xC001, cnt := 1, sub := 2, lo := 0, w := 32, dflt := 1311, acc := .ro }
def F.closeCount : Fld := { home := 206162673664, obj := 0xC001, cnt := 1, sub := 3, lo := 0, w := 32, dflt := 3277, acc := .ro }
def F.wdTotal : Fld := { home := 206162690048, obj := 0xC001, cnt := 1, sub := 4, lo := 0, w := 32, dflt := 0, acc := .ro }
def F.lastExpiryBeat : Fld := { home := 206162706432, obj := 0xC001, cnt := 1, sub := 5, lo := 0, w := 64, dflt := 0, acc := .ro }
def F.guardUsed : Fld := { home := 206162722816, obj := 0xC001, cnt := 1, sub := 6, lo := 0, w := 16, dflt := 0, acc := .ro }
def F.groupWdStat : List Fld :=
  [F.wdState, F.wdClockNow, F.monitorOk, F.eraseGuard, F.wdLastCause, F.wdRs,
   F.tollAlias, F.wdRs2, F.wdCount, F.openCount, F.closeCount, F.wdTotal,
   F.lastExpiryBeat, F.guardUsed]

/-! Group of objects 0xC002 (spec/17_events_watchdog.md R468), 1 instance. -/
def F.triadSev : Fld := { home := 206166835200, obj := 0xC002, cnt := 1, sub := 1, lo := 0, w := 8, dflt := 0xFF, acc := .ro }
def F.triadQueue : Fld := { home := 206166851584, obj := 0xC002, cnt := 1, sub := 2, lo := 0, w := 8, dflt := 0, acc := .ro }
def F.supSev : Fld := { home := 206166867968, obj := 0xC002, cnt := 1, sub := 3, lo := 0, w := 8, dflt := 0xFF, acc := .ro }
def F.supQueue : Fld := { home := 206166884352, obj := 0xC002, cnt := 1, sub := 4, lo := 0, w := 8, dflt := 0, acc := .ro }
def F.queuePeak : Fld := { home := 206166900736, obj := 0xC002, cnt := 1, sub := 5, lo := 0, w := 8, dflt := 0, acc := .ro }
def F.preemptions : Fld := { home := 206166917120, obj := 0xC002, cnt := 1, sub := 6, lo := 0, w := 32, dflt := 0, acc := .ro }
def F.groupFaultStat : List Fld :=
  [F.triadSev, F.triadQueue, F.supSev, F.supQueue, F.queuePeak, F.preemptions]

/-! Group of objects 0xC100 (spec/17_events_watchdog.md R469), 512 instances. -/
def F.routeClusters : Fld := { home := 207232188416, obj := 0xC100, cnt := 512, sub := 1, lo := 0, w := 1, dflt := 0, acc := .rw, rng := .nat 0 1 }
def F.routeLoops : Fld := { home := 207232188417, obj := 0xC100, cnt := 512, sub := 1, lo := 1, w := 1, dflt := 0, acc := .rw, rng := .nat 0 1 }
def F.routeSup : Fld := { home := 207232188418, obj := 0xC100, cnt := 512, sub := 1, lo := 2, w := 1, dflt := 1, acc := .ro }
def F.routeRecorder : Fld := { home := 207232188419, obj := 0xC100, cnt := 512, sub := 1, lo := 3, w := 1, dflt := 1, acc := .rw, rng := .nat 0 1 }
def F.routeTp2 : Fld := { home := 207232188420, obj := 0xC100, cnt := 512, sub := 1, lo := 4, w := 1, dflt := 0, acc := .rw, rng := .nat 0 1 }
def F.routeTp3 : Fld := { home := 207232188421, obj := 0xC100, cnt := 512, sub := 1, lo := 5, w := 1, dflt := 0, acc := .rw, rng := .nat 0 1 }
def F.routeRs : Fld := { home := 207232188422, obj := 0xC100, cnt := 512, sub := 1, lo := 6, w := 2, dflt := 0, acc := .rs }
def F.raised : Fld := { home := 207232204800, obj := 0xC100, cnt := 512, sub := 2, lo := 0, w := 32, dflt := 0, acc := .ro }
def F.groupRoute : List Fld :=
  [F.routeClusters, F.routeLoops, F.routeSup, F.routeRecorder, F.routeTp2, F.routeTp3,
   F.routeRs, F.raised]

/-! Group of objects 0xD000 (spec/02_beat.md R44), 1 instance. -/
def F.sliceT0 : Fld := { home := 223338315776, obj := 0xD000, cnt := 1, sub := 1, lo := 0, w := 16, dflt := 40, acc := .rw, rng := .nat 0 170, wmode := .stop }
def F.sliceT1 : Fld := { home := 223338332160, obj := 0xD000, cnt := 1, sub := 2, lo := 0, w := 16, dflt := 40, acc := .rw, rng := .nat 0 170, wmode := .stop }
def F.sliceT2 : Fld := { home := 223338348544, obj := 0xD000, cnt := 1, sub := 3, lo := 0, w := 16, dflt := 40, acc := .rw, rng := .nat 0 170, wmode := .stop }
def F.sliceT3 : Fld := { home := 223338364928, obj := 0xD000, cnt := 1, sub := 4, lo := 0, w := 16, dflt := 30, acc := .rw, rng := .nat 0 170, wmode := .stop }
def F.sliceT4 : Fld := { home := 223338381312, obj := 0xD000, cnt := 1, sub := 5, lo := 0, w := 16, dflt := 20, acc := .rw, rng := .nat 0 170, wmode := .stop }
def F.reserve : Fld := { home := 223338397696, obj := 0xD000, cnt := 1, sub := 6, lo := 0, w := 16, dflt := 10, acc := .ro }
def F.sliceSum : Fld := { home := 223338414080, obj := 0xD000, cnt := 1, sub := 7, lo := 0, w := 16, dflt := 170, acc := .ro }
def F.peakT0 : Fld := { home := 223338577920, obj := 0xD000, cnt := 1, sub := 17, lo := 0, w := 16, dflt := 0, acc := .ro }
def F.peakT1 : Fld := { home := 223338594304, obj := 0xD000, cnt := 1, sub := 18, lo := 0, w := 16, dflt := 0, acc := .ro }
def F.peakT2 : Fld := { home := 223338610688, obj := 0xD000, cnt := 1, sub := 19, lo := 0, w := 16, dflt := 0, acc := .ro }
def F.peakT3 : Fld := { home := 223338627072, obj := 0xD000, cnt := 1, sub := 20, lo := 0, w := 16, dflt := 0, acc := .ro }
def F.peakT4 : Fld := { home := 223338643456, obj := 0xD000, cnt := 1, sub := 21, lo := 0, w := 16, dflt := 0, acc := .ro }
def F.groupClassBudget : List Fld :=
  [F.sliceT0, F.sliceT1, F.sliceT2, F.sliceT3, F.sliceT4, F.reserve,
   F.sliceSum, F.peakT0, F.peakT1, F.peakT2, F.peakT3, F.peakT4]

/-! Group of objects 0xD001 (spec/04_control_runtime.md R111/R112), 1 instance. -/
def F.program : Fld := { home := 223342493696, obj := 0xD001, cnt := 1, sub := 0, lo := 0, w := 1, dflt := 0, acc := .ro }
def F.forcedAny : Fld := { home := 223342493697, obj := 0xD001, cnt := 1, sub := 0, lo := 1, w := 1, dflt := 0, acc := .ro }
def F.spilling : Fld := { home := 223342493698, obj := 0xD001, cnt := 1, sub := 0, lo := 2, w := 1, dflt := 0, acc := .ro }
def F.substituted : Fld := { home := 223342493699, obj := 0xD001, cnt := 1, sub := 0, lo := 3, w := 1, dflt := 0, acc := .ro }
def F.stepping : Fld := { home := 223342493700, obj := 0xD001, cnt := 1, sub := 0, lo := 4, w := 1, dflt := 0, acc := .ro }
def F.rtRs : Fld := { home := 223342493701, obj := 0xD001, cnt := 1, sub := 0, lo := 5, w := 11, dflt := 0, acc := .rs }
def F.forceCount : Fld := { home := 223342493712, obj := 0xD001, cnt := 1, sub := 0, lo := 16, w := 11, dflt := 0, acc := .ro }
def F.rtRs2 : Fld := { home := 223342493723, obj := 0xD001, cnt := 1, sub := 0, lo := 27, w := 5, dflt := 0, acc := .rs }
def F.programGen : Fld := { home := 223342510080, obj := 0xD001, cnt := 1, sub := 1, lo := 0, w := 32, dflt := 0, acc := .ro }
def F.codeSize : Fld := { home := 223342526464, obj := 0xD001, cnt := 1, sub := 2, lo := 0, w := 32, dflt := 0, acc := .ro }
def F.dataSize : Fld := { home := 223342542848, obj := 0xD001, cnt := 1, sub := 3, lo := 0, w := 32, dflt := 0, acc := .ro }
def F.valueCount : Fld := { home := 223342559232, obj := 0xD001, cnt := 1, sub := 4, lo := 0, w := 32, dflt := 0, acc := .ro }
def F.taskCount : Fld := { home := 223342575616, obj := 0xD001, cnt := 1, sub := 5, lo := 0, w := 8, dflt := 0, acc := .ro }
def F.overlayCount : Fld := { home := 223342592000, obj := 0xD001, cnt := 1, sub := 6, lo := 0, w := 32, dflt := 0, acc := .ro }
def F.groupRuntime : List Fld :=
  [F.program, F.forcedAny, F.spilling, F.substituted, F.stepping, F.rtRs,
   F.forceCount, F.rtRs2, F.programGen, F.codeSize, F.dataSize, F.valueCount,
   F.taskCount, F.overlayCount]

/-! Group of objects 0xD002 (spec/04_control_runtime.md R110), 1 instance. -/
def F.holdPolicy : Fld := { home := 223346704384, obj := 0xD002, cnt := 1, sub := 1, lo := 0, w := 8, dflt := 2, acc := .rw, rng := .nat 0 2, wmode := .notHold }
def F.holdTimeoutCfg : Fld := { home := 223346720768, obj := 0xD002, cnt := 1, sub := 2, lo := 0, w := 32, dflt := 900, acc := .rw, rng := .nat 0 86400 }
def F.keyRunWrites : Fld := { home := 223346737152, obj := 0xD002, cnt := 1, sub := 3, lo := 0, w := 8, dflt := 1, acc := .rw, rng := .nat 0 1 }
def F.groupRtCfg : List Fld :=
  [F.holdPolicy, F.holdTimeoutCfg, F.keyRunWrites]

/-! Group of objects 0xD010 (spec/04_control_runtime.md R86/R87), 32 instances. -/
def F.taskClass : Fld := { home := 223405424640, obj := 0xD010, cnt := 32, sub := 1, lo := 0, w := 3, dflt := 0, acc := .ro }
def F.taskOrder : Fld := { home := 223405424643, obj := 0xD010, cnt := 32, sub := 1, lo := 3, w := 8, dflt := 0, acc := .ro }
def F.taskKind : Fld := { home := 223405424651, obj := 0xD010, cnt := 32, sub := 1, lo := 11, w := 1, dflt := 0, acc := .ro }
def F.skippable : Fld := { home := 223405424652, obj := 0xD010, cnt := 32, sub := 1, lo := 12, w := 1, dflt := 0, acc := .ro }
def F.skipLimit : Fld := { home := 223405424653, obj := 0xD010, cnt := 32, sub := 1, lo := 13, w := 4, dflt := 3, acc := .rw, rng := .nat 1 15 }
def F.taskRs : Fld := { home := 223405424657, obj := 0xD010, cnt := 32, sub := 1, lo := 17, w := 15, dflt := 0, acc := .rs }
def F.taskState : Fld := { home := 223405441024, obj := 0xD010, cnt := 32, sub := 2, lo := 0, w := 8, dflt := 0, acc := .ro }
def F.taskSkips : Fld := { home := 223405457408, obj := 0xD010, cnt := 32, sub := 3, lo := 0, w := 8, dflt := 0, acc := .ro }
def F.taskSkipTotal : Fld := { home := 223405473792, obj := 0xD010, cnt := 32, sub := 4, lo := 0, w := 32, dflt := 0, acc := .ro }
def F.taskExecPeak : Fld := { home := 223405490176, obj := 0xD010, cnt := 32, sub := 5, lo := 0, w := 32, dflt := 0, acc := .ro }
def F.taskLastRelease : Fld := { home := 223405506560, obj := 0xD010, cnt := 32, sub := 6, lo := 0, w := 32, dflt := 0, acc := .ro }
def F.taskErrorRuns : Fld := { home := 223405522944, obj := 0xD010, cnt := 32, sub := 7, lo := 0, w := 32, dflt := 0, acc := .ro }
def F.groupTask : List Fld :=
  [F.taskClass, F.taskOrder, F.taskKind, F.skippable, F.skipLimit, F.taskRs,
   F.taskState, F.taskSkips, F.taskSkipTotal, F.taskExecPeak, F.taskLastRelease, F.taskErrorRuns]

/-! Group of objects 0xD040 (spec/04_control_runtime.md R102), 1 instance. -/
def F.retainSource : Fld := { home := 223606751232, obj := 0xD040, cnt := 1, sub := 1, lo := 0, w := 8, dflt := 0, acc := .ro }
def F.slotABeat : Fld := { home := 223606767616, obj := 0xD040, cnt := 1, sub := 2, lo := 0, w := 64, dflt := 0, acc := .ro }
def F.slotBBeat : Fld := { home := 223606784000, obj := 0xD040, cnt := 1, sub := 3, lo := 0, w := 64, dflt := 0, acc := .ro }
def F.retainSize : Fld := { home := 223606800384, obj := 0xD040, cnt := 1, sub := 4, lo := 0, w := 32, dflt := 0, acc := .ro }
def F.dirtyPeak : Fld := { home := 223606816768, obj := 0xD040, cnt := 1, sub := 5, lo := 0, w := 32, dflt := 0, acc := .ro }
def F.retainLateCount : Fld := { home := 223606833152, obj := 0xD040, cnt := 1, sub := 6, lo := 0, w := 32, dflt := 0, acc := .ro }
def F.groupRetain : List Fld :=
  [F.retainSource, F.slotABeat, F.slotBBeat, F.retainSize, F.dirtyPeak, F.retainLateCount]

/-! Group of objects 0xE000 (spec/20_updates.md R536), 1 instance. -/
def F.imgPending : Fld := { home := 240518168576, obj := 0xE000, cnt := 1, sub := 0, lo := 0, w := 1, dflt := 0, acc := .ro }
def F.confirmDue : Fld := { home := 240518168577, obj := 0xE000, cnt := 1, sub := 0, lo := 1, w := 1, dflt := 0, acc := .ro }
def F.imgRejected : Fld := { home := 240518168578, obj := 0xE000, cnt := 1, sub := 0, lo := 2, w := 1, dflt := 0, acc := .ro }
def F.fallbackTaken : Fld := { home := 240518168579, obj := 0xE000, cnt := 1, sub := 0, lo := 3, w := 1, dflt := 0, acc := .w1c }
def F.pairUpdate : Fld := { home := 240518168580, obj := 0xE000, cnt := 1, sub := 0, lo := 4, w := 1, dflt := 0, acc := .ro }
def F.bootBank : Fld := { home := 240518168581, obj := 0xE000, cnt := 1, sub := 0, lo := 5, w := 1, dflt := 0, acc := .ro }
def F.imgRs : Fld := { home := 240518168582, obj := 0xE000, cnt := 1, sub := 0, lo := 6, w := 2, dflt := 0, acc := .rs }
def F.startsPending : Fld := { home := 240518168584, obj := 0xE000, cnt := 1, sub := 0, lo := 8, w := 4, dflt := 0, acc := .ro }
def F.imgRs2 : Fld := { home := 240518168588, obj := 0xE000, cnt := 1, sub := 0, lo := 12, w := 20, dflt := 0, acc := .rs }
def F.confirmLeft : Fld := { home := 240518184960, obj := 0xE000, cnt := 1, sub := 1, lo := 0, w := 32, dflt := 0, acc := .ro }
def F.fallbackCount : Fld := { home := 240518201344, obj := 0xE000, cnt := 1, sub := 2, lo := 0, w := 32, dflt := 0, acc := .ro }
def F.arbMin0 : Fld := { home := 240518447104, obj := 0xE000, cnt := 1, sub := 17, lo := 0, w := 32, dflt := 0, acc := .ro }
def F.arbMin1 : Fld := { home := 240518463488, obj := 0xE000, cnt := 1, sub := 18, lo := 0, w := 32, dflt := 0, acc := .ro }
def F.arbMin2 : Fld := { home := 240518479872, obj := 0xE000, cnt := 1, sub := 19, lo := 0, w := 32, dflt := 0, acc := .ro }
def F.arbMin3 : Fld := { home := 240518496256, obj := 0xE000, cnt := 1, sub := 20, lo := 0, w := 32, dflt := 0, acc := .ro }
def F.arbMin4 : Fld := { home := 240518512640, obj := 0xE000, cnt := 1, sub := 21, lo := 0, w := 32, dflt := 0, acc := .ro }
def F.arbMin5 : Fld := { home := 240518529024, obj := 0xE000, cnt := 1, sub := 22, lo := 0, w := 32, dflt := 0, acc := .ro }
def F.groupImage : List Fld :=
  [F.imgPending, F.confirmDue, F.imgRejected, F.fallbackTaken, F.pairUpdate, F.bootBank,
   F.imgRs, F.startsPending, F.imgRs2, F.confirmLeft, F.fallbackCount, F.arbMin0,
   F.arbMin1, F.arbMin2, F.arbMin3, F.arbMin4, F.arbMin5]

/-! Group of objects 0xE001 (spec/20_updates.md R537), 1 instance. -/
def F.confirmMode : Fld := { home := 240522379264, obj := 0xE001, cnt := 1, sub := 1, lo := 0, w := 8, dflt := 0, acc := .rw, rng := .nat 0 1 }
def F.confirmPeriod : Fld := { home := 240522395648, obj := 0xE001, cnt := 1, sub := 2, lo := 0, w := 32, dflt := 600, acc := .rw, rng := .nat 60 86400 }
def F.confirmDeadlineCfg : Fld := { home := 240522412032, obj := 0xE001, cnt := 1, sub := 3, lo := 0, w := 32, dflt := 3600, acc := .rw, rng := .nat 60 604800 }
def F.startLimit : Fld := { home := 240522428416, obj := 0xE001, cnt := 1, sub := 4, lo := 0, w := 8, dflt := 3, acc := .rw, rng := .nat 1 15 }
def F.groupImageCfg : List Fld :=
  [F.confirmMode, F.confirmPeriod, F.confirmDeadlineCfg, F.startLimit]

/-- Every field of the object map, group by group. -/
def objMap : List (List Fld) :=
  [F.groupUnit, F.groupEpoch, F.groupMod, F.groupBeat, F.groupTriad,
   F.groupCert, F.groupModCfg, F.groupTriadCfg, F.groupLcpCfg, F.groupLcpStat,
   F.groupPanel, F.groupPanelCfg, F.groupLane, F.groupLaneCfg, F.groupWsl,
   F.groupFieldCfg, F.groupFieldStat, F.groupDioCfg, F.groupDioStat, F.groupAoCfg,
   F.groupAoStat, F.groupEncCfg, F.groupEncStat, F.groupCap, F.groupFcs,
   F.groupFaCfg, F.groupFaFir, F.groupFaStat, F.groupTime, F.groupTimeCfg,
   F.groupPtpPort, F.groupTimePin, F.groupTcap, F.groupCanCfg, F.groupCanStat,
   F.groupCanObj, F.groupCanFilter, F.groupPair, F.groupPairCfg, F.groupHealth,
   F.groupShadow, F.groupLoopEng, F.groupGroup, F.groupJournal, F.groupRecorder,
   F.groupSecurity, F.groupDebug, F.groupTrace, F.groupMpuFault, F.groupAudit,
   F.groupPower, F.groupPstats, F.groupPowerCfg, F.groupWdCfg, F.groupWdStat,
   F.groupFaultStat, F.groupRoute, F.groupClassBudget, F.groupRuntime, F.groupRtCfg,
   F.groupTask, F.groupRetain, F.groupImage, F.groupImageCfg]

end Sys2Proof.Machine
end

