-- ==== Sys2Proof/Machine/State.lean ====
section
/-! DEFINITION. The state of one AX-960 module, all of it plain data: the register file that holds every field of the
object map, and beside it, block by block, the state the chapters give the module that no object shows. -/

namespace Sys2Proof.Machine

/-- Why a machine would stop: no command of this block does. -/
inductive Fault where
  deriving DecidableEq, Repr

/-- Why the model would give a command no meaning. -/
inductive Refusal where
  /-- Raised by an arm of `exec` that has no meaning yet, by name. Safe. -/
  | notModelled (mnemonic : String)
  deriving DecidableEq, Repr

/-- An event record (R439) as the Event Router carries it, with the route of its source at the stamp (R450). -/
structure EvRec where
  src : Nat               -- SOURCE[8:0]
  code : Nat
  sev : Nat               -- SOURCE[11:9]
  beat : Nat              -- beat of the stamp; BEAT_LO is its low 32 bits
  off : Nat               -- OFFSET, 5 ns
  ptpValid : Bool         -- SOURCE[12]
  ptp : Nat               -- PTP_TIME
  op : Nat                -- OP_TIME, 1/16 s
  cycles : Nat            -- POWER_CYCLES, low 24 bits
  held : Bool := false    -- SOURCE[13]
  cont : Bool := false    -- SOURCE[14]
  data : Nat              -- DATA, 64 bits
  route : Nat             -- EventRoute.event_route at the stamp
  deriving DecidableEq, Repr, Inhabited

/-- A fault in a handling context (R453, R454). -/
structure FaultE where
  src : Nat
  sev : Nat
  beat : Nat
  off : Nat
  deriving DecidableEq, Repr, Inhabited

/-- A fault-handling context (R453): the running handler, the preempted ones (innermost first), the queue. -/
structure FaultCtx where
  running : Option FaultE := none
  preempted : List FaultE := []
  queue : List FaultE := []
  deriving DecidableEq, Repr, Inhabited

/-- The Event Router, the event ring, and what waits at the destinations (R446 to R454, R577). -/
structure EventSt where
  router : List EvRec := []          -- stamped, not yet delivered, oldest first (R18)
  ring : List EvRec := []            -- the ring of R577, oldest first, at most 4,096 records
  ringNext : Nat := 1                -- event sequence of the next record (R577)
  imageQ : List EvRec := []          -- records waiting for the input image, at most 256 (R452)
  imageNow : List EvRec := []        -- records in the input image of the current beat, at most 64 (R452)
  imageLost : Nat := 0               -- records discarded since the last EVENT_IMAGE_OVERFLOW (R452)
  loopFlags : List Nat := []         -- sources whose loop-engine flag is set (R451)
  faults : List FaultE := []         -- faults delivered, not yet arrived at a context (R453)
  triad : FaultCtx := {}             -- triad context (R453)
  sup : FaultCtx := {}               -- Supervisor context (R453)
  tpPulses : List Nat := []          -- pins (2, 3) with an event waiting for their pulse (R321)
  deriving DecidableEq, Repr, Inhabited

/-- What a cause of a mode change asks for (R62). -/
inductive CauseKind where
  | safe (cause : Nat)    -- precedence 1: SAFE with this SAFE_CAUSE
  | start                 -- precedence 2: module restart
  | keyStop               -- precedence 3
  | stop                  -- precedence 4: task overrun, GONG, hold_timeout
  deriving DecidableEq, Repr, Inhabited

/-- A cause of a mode change, detected in a beat, that waits for a Freeze (R62). `code` is the cause of MODE_CHANGE. -/
structure Cause where
  kind : CauseKind
  beat : Nat              -- beat in which it was detected
  code : Nat
  deriving DecidableEq, Repr, Inhabited

/-- The beat timebase and the schedule of the current beat (R25 to R41). -/
structure BeatSt where
  off : Nat := 0                     -- offset of the last command from the edge, 5 ns (R16, R439)
  runs : Bool := false               -- Freeze, Commit and Emit run each beat (R66 S8, R55)
  sinceStart : Nat := 0              -- beats run since S8 (R33 MIN_IDLE)
  opBeats : Nat := 0                 -- operating time in beats (R438)
  stepOffset : Int := 0              -- offset from PTP time in ns, the last filtered estimate (R26, R30)
  slewNs : Int := 0                  -- adjustment of the current beat in ns (R29)
  imaged : Bool := false             -- the image-complete event of this beat has come (R38)
  freezeDelay : Nat := 0             -- delay of the image-complete event beyond 20 µs, 0.1 µs (R38)
  computing : Bool := false          -- between the image-complete event and Commit
  charged : Nat := 0                 -- fault handling time charged to this beat, 0.1 µs (R39)
  used : List Nat := []              -- slice time used in this beat by class, 0.1 µs (R44)
  slice : Nat := 0                   -- lowest class whose slice of this beat is not over, 5 after the last (R35, R43)
  committing : Bool := false         -- Commit is running
  committed : Bool := false          -- the Commit of this beat has completed (R17)
  lastLate : Option Nat := none      -- beat of the last COMMIT_LATE (R40)
  idleLog : List (Nat × Nat) := []   -- (beat, Idle in 0.1 µs), at most 4,000 (R33)
  reserveLog : List (Nat × Nat) := []-- (beat, reserve use in 0.1 µs), at most 4,000 (R32)
  peakLog : List (List Nat) := []    -- per class, the peaks of its last 10 cycles, current first (R44)
  causes : List Cause := []          -- causes of mode changes that wait for a Freeze (R62)
  edgePend : List (Nat × Nat) := []  -- register writes that take effect at the next edge (R450, R345, R72)
  deriving DecidableEq, Repr, Inhabited

/-- A reply that leaves only after a tracking close (R143, R391) and the commit of its records (R430). -/
structure HeldReply where
  beat : Nat              -- the tracking close it waits for
  need : Nat              -- Journal commits it waits for
  reply : Reply
  deriving DecidableEq, Repr, Inhabited

/-- An LCP session (R381, R382, R390). -/
structure Session where
  id : Nat
  fp : Nat                           -- certificate fingerprint
  priv : Nat
  prio : Nat
  nextPrio : Option Nat := none      -- set by SESSION_PRIORITY, from the next Freeze
  service : Bool := false
  idle : Nat := 30                   -- session_idle when it opened, s (R407)
  grace : Nat := 10                  -- own_grace when it opened, s (R407)
  held : Bool := false               -- held for own_grace (R382)
  lossCause : Nat := 0               -- row of R382 that will end it
  pairIp : Bool := false             -- connected to the pair address (R152, R380)
  last : Nat := 0                    -- beat of its last packet, or of its loss while held (R382)
  high : Nat := 0                    -- highest sequence seen (R390)
  cache : List Reply := []           -- last 256 final replies, oldest first (R383)
  mask : Nat := 0                    -- EVENT_MASK (R426)
  minSev : Nat := 0
  evq : List EvRec := []             -- undelivered events, at most 1,024 (R426)
  dropped : Nat := 0
  deriving DecidableEq, Repr, Inhabited

/-- A chunked transfer (R398 to R400). -/
structure Transfer where
  id : Nat
  image : Bool                       -- IMAGE_HEADER, else PROGRAM_STAGE
  sess : Nat
  total : Nat
  got : Nat := 0                     -- bytes received
  data : Nat := 0                    -- the bytes, little-endian
  hdr : Nat := 0                     -- IMAGE_HDR
  pair : Bool := true                -- opened on the pair unit, else on the module (R366)
  cluster : Nat := 0                 -- cluster whose program it stages on a SPLIT module (R191)
  last : Nat := 0                    -- beat of its opening or last chunk (R400)
  deriving DecidableEq, Repr, Inhabited

/-- A command queued for a Freeze (R391, R393). -/
structure QCmd where
  op : Op
  pkt : Packet
  prio : Nat
  beat : Nat                         -- beat of the arrival stamp
  apply : Nat
  epoch : Nat                        -- epoch of the named unit at acceptance (R364)
  deriving DecidableEq, Repr, Inhabited

/-- A mailbox exchange in flight (R212). -/
structure MailReq where
  lane : Nat
  sub : Nat
  mbSeq : Nat
  mbOp : Nat
  obj : Nat
  data : Nat
  rest : Nat                         -- bytes of a write's data that have not been sent
  got : Nat := 0                     -- bytes of a read's data that have come, and the data
  acc : Nat := 0
  sess : Nat                         -- requesting session and packet
  pkt : Packet
  op : Op
  deriving DecidableEq, Repr, Inhabited

/-- A Gong of this pair that is still to be sent (R404): serial, target beat, datagrams left. -/
structure GongOut where
  serial : Nat
  group : Nat
  target : Nat
  left : Nat
  signature : Nat := 0               -- by the pair key (R405)
  deriving DecidableEq, Repr, Inhabited

/-- A Gong datagram as it was sent (R405): group, target beat, serial, fingerprint of the pair certificate, signature. -/
structure GongSent where
  group : Nat
  target : Nat
  serial : Nat
  signer : Nat
  signature : Nat
  deriving DecidableEq, Repr, Inhabited

/-- A request forwarded to another unit (R360): the beat it went in, its time limit in beats (0 on the pair link, which has
none), and the request. -/
structure Forward where
  beat : Nat
  limit : Nat
  req : Reply
  deriving DecidableEq, Repr, Inhabited

/-- Command packets: sessions, what waits to be applied, what waits to be sent (R379 to R409). -/
structure LcpSt where
  sessions : List Session := []
  nextSess : Nat := 1                -- next session ID, never 0 (R381)
  queue : List QCmd := []            -- commands accepted for a Freeze (R391)
  heldReplies : List HeldReply := []
  wire : List Reply := []            -- packets sent in the current beat, oldest first
  forwards : List Forward := []      -- requests forwarded to the partner or a remote station, unanswered (R360, R380)
  mute : Bool := false               -- the Supervisor answers nothing until a restart (R15, R75)
  transfers : List Transfer := []
  nextTransfer : Nat := 1
  nonce : Option Nat := none         -- nonce of the service port (R403)
  nonceAt : Nat := 0                 -- the beat it was given in
  mail : List MailReq := []
  mbSeq : Nat := 1                   -- next mailbox sequence (R212)
  gongOut : List GongOut := []
  gongSent : List GongSent := []     -- datagrams sent in the current beat
  gongSerial : Nat := 0              -- serial of the last Gong of this pair (R405)
  gongs : List Nat := []             -- accepted target beats not yet reached (R406)
  gongSeen : List (Nat × Nat) := []  -- signer and serial of every Gong accepted (R406)
  owners : List (Nat × Nat) := []    -- owned handles, each with its session (R395)
  deriving DecidableEq, Repr, Inhabited

/-- A superblock copy (R433); its reserved bytes are 0. -/
structure Superblock where
  magic : Nat := 0x4B4A5342
  seq : Nat := 0
  half : Nat := 0
  crc : Nat := 0
  deriving DecidableEq, Repr, Inhabited

/-- The Journal Store (R427 to R445). -/
structure JournalSt where
  pend : List JRec := []             -- records waiting for the write port, oldest first, SEQ not yet given (R18, R430)
  live : List JRec := []             -- records of the live half, in SEQ order
  other : List JRec := []            -- records of the other half (R434)
  otherBytes : Nat := 0
  copied : Nat := 0                  -- records of the live half the Roll has reached (R434)
  commits : Nat := 0                 -- records committed since START, with `asked` the order of replies (R430)
  asked : Nat := 0                   -- records handed to the port since START
  full : Bool := false               -- JOURNAL_FULL raised at the end of a Roll (R435)
  fullMark : Nat := 0                -- occupancy at that moment
  rollWanted : Bool := false         -- a Roll restarts at the end of START (R436)
  rolled : Nat := 0                  -- bytes the Roll has copied in this beat (R434)
  sb0 : Superblock := { seq := 0, half := 1, crc := 0x5BDD751D }  -- superblock copies 0 and 1 (R433)
  sb1 : Superblock := { seq := 1, half := 0, crc := 0x139EBA6D }
  retry : List JRec := []            -- records that found no room, to be retried at the next beat (R431)
  lost : List JRec := []             -- records that power took from the port, for S3 (R436)
  recs : List EvRec := []            -- recorder records, record 0 first (R440)
  recBuf : List EvRec := []          -- the 256-entry write buffer (R18)
  recHold : List EvRec := []         -- the hold queue of a freeze, at most 4,096 (R442)
  recDropped : Nat := 0              -- events lost in this freeze (R442)
  recFullRaised : Bool := false      -- RECORDER_FULL was raised (R440)
  deriving DecidableEq, Repr, Inhabited

/-- A unit other than the module itself (R353 to R357, R375, R376). -/
structure UnitRec where
  hops : List Nat                    -- from the pair
  type : Nat := 0
  part : Nat := 0
  serial : Nat := 0
  hw : Nat := 0
  fw : Nat := 0
  vouched : Bool := false
  status : Nat := 3
  epoch : Nat := 1
  role : Nat := 0
  lastBeat : Nat := 0
  lastCause : Nat := 0
  deriving DecidableEq, Repr, Inhabited

/-- Units and epochs (R353 to R377). The module's own are in the register file. -/
structure UnitSt where
  pair : UnitRec := { hops := [], type := 1 }
  others : List UnitRec := []
  noActive : Bool := true            -- neither module has been ACTIVE or SOLO since (R362)
  keyMade : Bool := false            -- the pair key exists on this module (R367, R368)
  wrapped : Bool := false            -- and the partner holds it (R369)
  chains : List (Nat × Nat × Nat) := []  -- certificate chains by slot: slot, length, bytes (R368)
  expiring : List Nat := []          -- slots whose CERT_EXPIRING has been raised (R372)
  deriving DecidableEq, Repr, Inhabited

/-- The watchdog, the Toll and the fault latch's own memory (R456 to R470). -/
structure WdSt where
  running : Bool := false            -- a window is open (R456)
  waitAck : Bool := false            -- a Toll step waits for the Supervisor's acknowledgement (R461)
  step : Nat := 0                    -- step of the table of R462 for the last expiry, 0 none
  stepDone : Nat := 0                -- step carried out after R463
  instants : List Nat := []          -- operating time (beats) of each Toll step of the last 24 h, oldest first
  clockStopped : Bool := false       -- the chosen clock has stopped (R459)
  warmRestart : Bool := false        -- step 1: warm restart in the next Freeze (R462)
  tokenMissed : Bool := false        -- a Commit since the last service has run without the runtime's liveness token (R458)
  erase : Nat := 0                   -- an erase: 1 waits for the erase guard (R529), 2 is busy and holds the counter (R460)
  safeRec : Nat := 0                 -- SAFE record of the Journal: SAFE_CAUSE, 0 none (R75)
  endInStop : Bool := false          -- the START that follows ends in STOP (R76)
  hbStopped : Bool := false          -- heartbeats stopped for a Toll step (R463)
  deriving DecidableEq, Repr, Inhabited

/-- The control runtime of one program (R79 to R112). On a SPLIT module there are three (R191). -/
structure RtSt where
  prog : Option Program := none
  published : List (Nat × Nat) := []   -- published values by INDEX (R85)
  work : List (Nat × Nat) := []        -- values written in cycles not yet published
  late : List (Nat × Nat) := []        -- values of ended cycles that an abandoned Commit left unpublished (R40)
  outs : List (Nat × Nat) := []        -- outputs committed last, by INDEX: the filled staging buffer (R17)
  applied : List (Nat × Nat) := []     -- outputs applied at the last edge
  image : List PointV := []            -- the frozen input image
  plain : List PointV := []            -- the same image without the forces (R96, R425)
  spills : List (Nat × ClassView) := []-- what each spilled task goes on reading (R90)
  seen : List ClassView := []          -- what each class reads in its current cycle (R42)
  live : List (Nat × Nat) := []        -- latest values received of the points, unforced (R17, R425)
  lastGood : List (Nat × Nat) := []    -- last GOOD value of each point (R104)
  errQ : List (Nat × Nat) := []        -- station, reason: error-task runs owed (R105)
  runQ : List RunE := []               -- tasks released and not ended, in order (R84)
  errorReason : Nat := 0               -- system value ERROR_REASON
  errorUnit : List Nat := []           -- system value ERROR_UNIT: hops of the station's UnitRef
  withheld : List Nat := []            -- classes whose outputs of this cycle are not committed (R89)
  unpublished : List Nat := []         -- classes whose cycle ended in a beat with an abandoned Commit (R40)
  execLog : List (Nat × List Nat) := []-- task, its execution time in each of the last 100 cycles, newest first (R87)
  overlay : List (Nat × Nat) := []     -- constant overlay by INDEX (R95)
  forces : List (Nat × Nat) := []      -- forces by INDEX (R96)
  stepClass : Option Nat := none       -- class of the step of R108
  stepRuns : Bool := false             -- its cycle has been released
  running : List Nat := []             -- classes whose tasks are released (R73: first release after a restart)
  staged : Option Program := none      -- complete staged program (R166, R81)
  revertArea : Option Program := none  -- old program of a change pending (R171)
  resume : Option Program := none      -- with a change pending: the program that was ACTIVE (R173)
  slotA : RetainSlot := {}
  slotB : RetainSlot := {}
  mirror : Option RetainSlot := none   -- snapshot being written (R99)
  mirrorB : Bool := false              -- into slot B
  dirty : List Nat := []               -- retained values written in this T3 cycle (R102)
  dirtyA : List Nat := []              -- and since the last write of slot A
  dirtyB : List Nat := []              -- and of slot B (R98, R100)
  deriving DecidableEq, Repr, Inhabited

/-- A loop block: its fields by R133 and the state the engine keeps for it (R118). -/
structure LoopRt extends LoopTrack where
  d : LoopDef                          -- class, links and coefficients, as they stand now
  deriving DecidableEq, Repr, Inhabited

/-- The loop engine (R113 to R137). -/
structure LoopSt where
  loops : List LoopRt := []
  groups : List GroupDef := []
  finishLog : List (Nat × Nat) := []   -- (beat, finish in 0.1 µs) of the last 4,000 beats (R135)
  started : Bool := false              -- the engine has started in this beat (R114)
  dealt : List Nat := []               -- classes of the blocks it has dealt to this beat, one entry each (R114)
  selected : List Nat := []            -- groups whose selection has run in the current cycle of their class (R117)
  seen : List ClassView := []          -- what the blocks of each class read in its current cycle (R114)
  saved : List (Nat × Nat) := []       -- Journal coefficients: loop × 256 + field, value (R131, R132)
  deriving DecidableEq, Repr, Inhabited

/-- What a program of a SPLIT module's cluster Y or Z has beside its runtime (R191): its loop engine, the course of its
slices in the beat, and its own copies of the registers that show a program. -/
structure ClusterSt where
  loops : LoopSt := {}
  slice : Nat := 0
  used : List Nat := []
  peakLog : List (List Nat) := []
  regs : List (Nat × Nat) := []
  deriving DecidableEq, Repr, Inhabited

/-- A planned switch-over that waits for its Freeze (R154): apply beat, cause of SWITCHOVER_PLANNED, and what the old
ACTIVE does afterwards: 0 STANDBY, 1 STOP with ROLE NONE, 2 START, 3 STANDBY in SYNCING (R171, R172). -/
structure Handover where
  apply : Nat
  cause : Nat
  after : Nat := 0
  deriving DecidableEq, Repr, Inhabited

/-- The record of a compared point with a difference (R169, COMPARE_REC of R418). -/
structure CmpRec where
  handle : Nat
  intended : Bool
  unaccepted : Bool
  first : Nat
  last : Nat
  count : Nat
  deviation : Nat         -- binary32, in % of range
  deriving DecidableEq, Repr, Inhabited

/-- A tracking close as the ACTIVE sends it (R141): beat, line count, CRC-32C over the line records, CRC of the frozen input
image, OVERFLOW. -/
structure CloseOut where
  beat : Nat
  lines : Nat
  crc : Nat
  imageCrc : Nat
  overflow : Bool
  deriving DecidableEq, Repr, Inhabited

/-- What the module knows of its partner and of the pair (R138 to R179). -/
structure PairSt where
  single : Bool := false             -- pair_mode SINGLE, as it stood at the last START (R176)
  preferred : Nat := 0               -- pair_preferred_side at the last START (R176)
  seen : Bool := false               -- a partner that is not refused answers on the pair link (R69)
  refusal : Nat := 0                 -- reason of the standing refusal (R69), 0 none
  partnerRole : Nat := 0
  partnerMode : Nat := 0
  partnerReady : Bool := false
  partnerKeyStop : Bool := false
  partnerEpoch : Nat := 0
  partnerGen : Nat := 0
  partnerHas : Bool := false         -- it holds the program that was ACTIVE when a change stood pending (R173)
  partnerSerial : Nat := 0
  partnerTriad : Nat := 0
  partnerLoss : Nat := 0             -- bit k: the partner reports loss of link on lane k (R216)
  partnerHandover : Bool := false    -- its heartbeat announced a planned handover (R140)
  claimIn : Bool := false            -- the other slot asserts the claim line, as last sampled
  hbBeat : Nat := 0                  -- beat and offset of the last heartbeat received
  hbOff : Nat := 0
  missed : Nat := 0                  -- consecutive missed due instants (R140)
  ownStop : Nat := 0                 -- consecutive due instants at which none was sent (R148)
  hbOut : List Heartbeat := []       -- heartbeats sent in the current beat
  lost : Bool := false               -- heartbeat loss declared, decision instant still to come (R147)
  linkLost : Bool := false           -- the pair link is lost (R157)
  hasImage : Bool := false           -- holds the ACTIVE's program and state image (R58)
  current : Bool := false            -- its state is current (R144)
  oneBeatStop : Bool := false        -- MODE_SET STOP to a STANDBY: one beat in STOP (R61)
  tx : List (Nat × Nat) := []        -- lines queued for tracking in the beat: address, latest content (R141)
  loopTx : List (Nat × Nat) := []    -- line records of the loop blocks executed in the beat (R46, R141)
  xBytes : Nat := 0                  -- crossover volume of the beat in bytes (R164)
  overNow : Bool := false            -- the beat's tracking close was marked OVERFLOW (R165)
  trackLog : List (Nat × Nat) := []  -- (beat, line data) of the last 4,000 beats (R175)
  closeOut : Option CloseOut := none -- tracking close sent last
  imageOut : Option Image := none    -- frozen input image sent last
  outsOut : List (Nat × Nat) := []   -- output close sent last
  rx : List (Nat × Nat) := []        -- line records of the beat, buffered: address, data (R142)
  outsIn : List (Nat × Nat) := []    -- O of R142
  outsBeat : Nat := 0                -- its beat
  dioIn : List Nat := []             -- DIO words of the last frozen image received (R257)
  images : List Image := []          -- I of R142, at most two
  cmds : List TrackedCmd := []       -- commands answered ACCEPTED by the ACTIVE and not applied yet (R143)
  sessions : List TrackedSession := []  -- its sessions (R382, R383)
  appliedCmds : List TrackedCmd := [] -- commands applied in this Freeze, which the image carries (R168)
  acks : List Nat := []              -- mismatches acknowledged, by handle, until the next image carries them (R169)
  theirForces : List Nat := []       -- handles forced on the ACTIVE, as its last image had them (R169)
  shadowC : Option Nat := none       -- last beat a SHADOW committed on a complete frozen image (R153)
  own : List PointV := []            -- own image of the newest edge, and of the one before (R142)
  ownBeat : Nat := 0
  ownPrev : List PointV := []
  ownPrevBeat : Nat := 0
  kept : Option (RtSt × LoopSt) := none -- a SHADOW's state at the end of beat shadowC (R153)
  keptStatus : List (Nat × Nat) := []
  decided : Option (Nat × Nat) := none -- decision instant of a lost pair link: beat, ns from its edge (R147, R157)
  naMask : Nat := 0                  -- health checks on hardware that START found not fitted (R145)
  redo : Option Nat := none          -- beat recomputed in the next slot (case 2 of R149)
  redoImage : List PointV := []      -- the image it is recomputed from
  lostSlot : Option Nat := none      -- beat whose slot a takeover cost (R150)
  elapsed : Nat := 1                 -- system value ELAPSED (R150)
  handover : Option Handover := none
  handing : Bool := false            -- the handover at the coming edge runs (R155)
  claimBeats : Nat := 0              -- beats left of the 8 of R158
  shadowAt : Option Nat := none      -- s of R167, still to come
  endShadow : Bool := false          -- the shadow run ends in the next Freeze, as after REVERT
  overruns : List Nat := []          -- tasks that overran on the SHADOW, in its comparison result (R91)
  partnerStaged : Bool := false      -- a complete program is staged on the STANDBY (R166)
  cmp : List CmpRec := []            -- ascending handle
  revertAt : Option Nat := none      -- handover beat r of R172
  fwd : List (Nat × Nat × List (Nat × Nat)) := []  -- forwarded frames: lane, beat, points (R161)
  dropPartner : Bool := false        -- the partner is to synchronise anew (R74, R172, R422)
  waitRule : Bool := false           -- rule 6 of R70 stands: it is applied again at each retry
  deriving DecidableEq, Repr, Inhabited

/-- An audit record (R490). -/
structure AuditRec where
  op : Nat
  cycles : Nat
  beat : Nat
  seq : Nat
  action : Nat
  result : Nat
  states : Nat
  detail : Nat
  subject : Nat
  link : Nat
  deriving DecidableEq, Repr, Inhabited

/-- Security, debug and memory protection beside the registers (R471 to R497). -/
structure SecSt where
  audit : List AuditRec := []        -- the audit log, oldest first, at most 131,072
  kind : Nat := 0                    -- TKIND of the debug session (R476), 0 none
  scope : Nat := 0                   -- its SCOPE
  left : Nat := 0                    -- beats until its DURATION ends
  cmd : Nat := 0                     -- dbg_cmd that waits for the end of its Freeze (R481)
  trace : List Nat := []             -- the trace buffer, 16-byte items, oldest first (R479)
  banks : List Nat := []             -- cores whose live MPU bank is B (R483)
  regions : List (Nat × Nat) := []   -- descriptors by (core × 2 + bank) × 16 + region, unlisted ones 0 with SLICE_EN 0xFF
  deriving DecidableEq, Repr, Inhabited

/-- The triad beside its objects (R180 to R195). -/
structure TriadSt where
  attempts : List (Nat × Nat) := []  -- cluster, operating time in beats of each attempt of the last 24 h (R188)
  started : Nat := 0                 -- beat of the first edge of the resync (R185)
  passes : Nat := 0                  -- converge passes done (R185)
  converged : Bool := false          -- phase 3 follows (R185)
  waiting : List Nat := []           -- clusters whose next attempt waits (R186)
  startsNext : Option Nat := none    -- cluster whose resync starts at the first edge (R185)
  surgeEnd : Nat := 0                -- operating time in beats at which surge ended last (R194)
  surgeEver : Bool := false
  surgeBeats : Nat := 0              -- beats of the current grant (R195)
  lastRefused : Option Nat := none   -- operating time in beats of the last SURGE_REFUSED (R194)
  passed : Option Txn := none        -- the transaction that the voter passed last (R182)
  dirty : List Nat := []             -- dirty bitmap: lines the triad has written since the resync's last copy began (R185)
  oddMem : List Host.Cell := []      -- memory of the cluster held in reset (R180, R184)
  memY : List Host.Cell := []        -- memory of Y and of Z on a SPLIT module (R180, R190)
  memZ : List Host.Cell := []
  y : ClusterSt := {}                -- cluster Y of a SPLIT module, beside rtY (R191)
  z : ClusterSt := {}
  cur : Nat := 0                     -- the model's own: the cluster whose program stands in the place of X's, 0 between commands
  mail : List (Nat × Nat) := []      -- mailbox between X and Y or Z (R22): from × 2^18 + to × 2^16 + word, value
  deriving DecidableEq, Repr, Inhabited

/-- The fault latch (R507), but for its CRC. -/
structure Latch where
  valid : Bool := true
  crash : Bool := false
  done : Bool := false
  safeSet : Bool := false
  railId : Nat := 0xFF
  railStep : Nat := 0
  safeCause : Nat := 0
  wake : Nat := 0
  tollT : Nat := 0
  wdCause : Nat := 0
  wdTotal : Nat := 0
  expiryOp : Nat := 0
  expiryBeat : Nat := 0
  pwrBeat : Nat := 0
  pwrOp : Nat := 0
  events : Nat := 0                  -- EVENT_MAP
  seq : Nat := 0
  deriving DecidableEq, Repr, Inhabited

/-- Power (R499 to R514). -/
structure PowerSt where
  latch : Latch := {}
  off : Bool := false                -- the rails are down
  s1Fails : Nat := 0                 -- failures of S1 in a row (R66)
  wakePulsed : Bool := false         -- the partner's WAKE line was pulsed in this START (R513)
  wakeAfter : Option Nat := none     -- a wake at or after step 5 of the DORMANT entry (R513)
  flush : Bool := false              -- the Retain flush of the DORMANT entry is still to begin (R512)
  entering : List (Nat × Nat) := []  -- TRIM entries under way: partition × 256 + unit, abort point reached
  gated : List (Nat × Nat) := []     -- gated units: partition × 256 + unit, operating time of AP4 in 5 ns
  gatedFor : List (Nat × Nat) := []  -- partition, operating time gated in 5 ns
  entries : List (Nat × Nat) := []   -- partition, operating beat of each entry of the last 1 ms (R509)
  thermal : List (Nat × Nat) := []   -- partition, operating beat of its last TRIM_THERMAL (R519)
  selftest : Option Packet := none   -- a SELFTEST that runs (R425)
  tests : Nat := 0                   -- its checks still to run
  deriving DecidableEq, Repr, Inhabited

/-- An image in a slot (R520, R523, R418 IMAGE_REC). -/
structure ImgSlot where
  state : Nat := 0                   -- 0 empty, 1 valid, 2 awaiting confirmation, 3 invalid
  version : Nat := 0
  arb : Nat := 0
  length : Nat := 0
  data : Nat := 0                    -- body bytes
  hdr : Nat := 0                     -- the image header (R523)
  deriving DecidableEq, Repr, Inhabited

/-- Images and slots (R520 to R535). -/
structure ImageSt where
  slots : List (Nat × ImgSlot) := [] -- slot table: type × 4 + slot (0 active, 1 staged, 2 fallback); others empty
  slotSeq : Nat := 0                 -- sequence number of the slot table (R521)
  bankState : List Nat := [1, 3]     -- BANK_STATE of banks A and B (R522)
  bankSeq : List Nat := [1, 0]       -- BOOT_SEQ of banks A and B
  bankHdr : List Nat := [0, 0]       -- the image header that each bank header copies
  erase : Option (Packet × Nat) := none      -- an accepted IMAGE_HEADER that waits for its erase (R526)
  program : Option (Packet × Nat) := none    -- an IMAGE_COMMIT of SUP that programs a bank (R528)
  runBeats : Nat := 0                -- beats in RUN since START (R531)
  passed : List Nat := []            -- health checks passed since START (R531)
  dueBeats : Nat := 0                -- beats since R531 was met under HOST (R532)
  fallback : Bool := false           -- the next START takes the fallback (R533)
  confirm : Nat := 0                 -- confirm_mode, confirm_period, confirm_deadline and start_limit at the commit (R537)
  period : Nat := 600
  deadline : Nat := 3600
  limit : Nat := 3
  pairRec : List Nat := []           -- committed VERSION of each type in the pair-update record (R535)
  partnerConfirmed : Bool := false   -- the partner runs confirmed images of the same versions (R535)
  deriving DecidableEq, Repr, Inhabited

/-- A panel action that waits for its Freeze (R538): 1 short RESET, 2 long RESET, 3 RELEASE, 4 forced RELEASE,
5 the key left STOP for RUN, 6 the key left STOP for REM (R65). -/
structure PanelAct where
  act : Nat
  apply : Nat
  deriving DecidableEq, Repr, Inhabited

/-- The front panel (R538 to R547). `message`: 0 none, 1 a refusal, 2 STARTING, 3 RESET HELD AT START, 4 OK TO REMOVE. -/
structure PanelSt where
  acts : List PanelAct := []
  message : Nat := 0
  reason : Nat := 0
  scroll : Nat := 0
  events : List (Nat × Bool) := []   -- page EVENTS: event sequences of severity 2 or higher, newest first, at most 32; seen
  quiesceAfter : Nat := 0            -- a RELEASE that waits for its handover: 1 plain, 2 forced
  restartAfter : Bool := false       -- a long RESET that waits for the end of beat h
  keyFault : Bool := false
  bootFail : Bool := false           -- S1 or S2 failed (R547)
  deriving DecidableEq, Repr, Inhabited

/-- A downstream frame as it leaves (R207): DOWN_CYCLIC, FORWARDED, DOWN_SERVICE or PROBE. `outs` are the values in its image
sections by INDEX. LEN is the payload's length. -/
structure DownFrame where
  ftype : Nat := 0x01
  flags : Nat
  beat : Nat
  lane : Nat
  frag : Nat := 0
  epochLo : Nat
  payload : List Nat := []
  crc : Nat := 0
  outs : List (Nat × Nat) := []
  deriving DecidableEq, Repr, Inhabited

/-- A lane controller beside LaneStatus (R200 to R224). -/
structure LaneRt where
  k : Nat
  bridge : Bool := false             -- the board is an HB-12
  ever : Bool := false               -- its points have been live since START (R103, R106)
  failed : Bool := false             -- the lane counts as failed, or the board has gone (R216)
  fresh : Bool := false              -- inserted into a slot whose points are ABSENT (R106)
  accepted : Option Nat := none      -- edge of the last accepted upstream frame
  retried : Option Nat := none       -- edge of the exchange whose retry has been seen
  judged : Option Nat := none        -- edge of the last exchange judged at the end of its window
  run : Nat := 0                     -- consecutive stale exchanges
  good : Nat := 0                    -- consecutive accepted exchanges
  healthy : Bool := false            -- accepted a frame in its last exchange (R216)
  lostAt : Option Nat := none        -- beat of a loss of link, while a partner report can make it a removal (R216)
  crossAt : Option Nat := none       -- the slot crosses over at this edge (R160)
  probes : Nat := 0                  -- consecutive clean probes (R162)
  returnAt : Option Nat := none      -- the lane returns at this edge (R162)
  owes : Bool := false               -- LANE_FAILED waits for the partner's report (R216)
  type : Option (Nat × Nat) := none  -- board found in the slot: generation, type code (R201)
  status : Nat := 0                  -- status section of the last accepted frame (R211)
  subs : List (Nat × Nat) := []      -- status sections of an HB-12's positions, by SUB (R229)
  edge : Option (Nat × Nat × Nat) := none -- EDGE sent last: beat[7:0], EFLAGS, CRC-8 (R202)
  ack : Option (Nat × Nat × Nat) := none  -- ACK sent last: beat[7:0], RESULT, CRC-8
  delayReq : Option (Nat × Nat) := none   -- DELAY_REQ sent last: SEQ, CRC-8
  service : Option DownFrame := none -- PROBE or DOWN_SERVICE sent last (R205)
  delaySeq : Nat := 0                -- SEQ of the last DELAY_REQ
  delayWait : Bool := false          -- its DELAY_RESP has not come
  delayKnown : Bool := false         -- DELAY holds a measured value (R203)
  deriving DecidableEq, Repr, Inhabited

/-- An L3 board (R222 to R224). -/
structure L3Rt where
  lane : Nat
  addr : Nat
  ever : Bool := false
  failed : Bool := false
  poll : Option (Nat × Bool) := none -- outstanding poll: beat, check poll
  sent : List (Nat × Nat) := []      -- outputs of the last cyclic poll, by INDEX
  chars : List Nat := []             -- the characters of the last poll (R222)
  type : Option Nat := none          -- type code of the board found (R201)
  mismatch : Bool := false           -- it does not match the configuration: no cyclic poll
  status : Nat := 0                  -- status byte of the last response
  run : Nat := 0
  silent : Bool := true              -- the run consists of missing responses alone
  good : Nat := 0
  last : Nat := 0                    -- beat of the last response
  deriving DecidableEq, Repr, Inhabited

/-- A WSL-E station (R225 to R228, R237). -/
structure WslRt where
  st : Nat
  ever : Bool := false
  failed : Bool := false
  beat : Nat := 0                    -- exchange being received: BEAT, XSEQ, fragments, number of the last one, points
  xseq : Nat := 0
  frags : List Nat := []
  lastFrag : Nat := 0
  points : List (Nat × Nat) := []
  judged : Option Nat := none
  run : Nat := 0
  good : Nat := 0
  bad : Nat := 0                     -- frames counted in BAD_FRAME (R226)
  holder : Nat := 0                  -- side that claims by its downstream frames: 0 none, 1 A, 2 B (R217, R227)
  sentXseq : Nat := 0                -- XSEQ of the next exchange sent
  deriving DecidableEq, Repr, Inhabited

/-- What an exchange gives the input image of a beat: unit key (lane × 8 + L3 address, or 1,000 + station), the values
of its points, or that the exchange was stale. -/
structure DueIn where
  beat : Nat
  key : Nat
  stale : Bool
  points : List (Nat × Nat)
  deriving DecidableEq, Repr, Inhabited

/-- A WSL-E exchange as Emit sends it (R51, R226, R227): station, BEAT, XSEQ, FLAGS, values by INDEX. -/
structure WslOut where
  prefixBytes : List Nat             -- the 16 bytes before the inner frame (R226)
  frags : List DownFrame             -- its fragments, at most 16 (R227)
  st : Nat
  down : Bool
  beat : Nat
  xseq : Nat
  flags : Nat
  vals : List (Nat × Nat)
  deriving DecidableEq, Repr, Inhabited

/-- Lanes, L3 boards and WSL-E stations. -/
structure LanesSt where
  lanes : List LaneRt := []
  l3 : List L3Rt := []
  wsl : List WslRt := []
  due : List DueIn := []             -- waiting for their image (R36, R161, R221)
  down : List DownFrame := []        -- downstream frames of the last Emit
  wslOut : List WslOut := []         -- WSL-E exchanges of the last Emit
  gates : List Nat := []             -- ports whose gate of traffic class 6 is open (R228)
  forwards : List (Nat × Nat) := []  -- lanes this module serves under the partner's crossover, and the beat it last forwarded (R161)
  tall : Bool := true                -- double-height chassis: lanes 48 to 95 are present (R24)
  deriving DecidableEq, Repr, Inhabited

/-- A DIO channel beside its objects (R244 to R257). `trip` is the instant of the last trip in 5 ns of the beat timebase. -/
structure DioRt where
  k : Nat
  on : Bool := false                 -- the switch is on, its ramp completed or running
  commanded : Bool := false          -- committed value or safe state in force
  lastRun : Bool := false            -- last output committed in RUN or HOLD (R256)
  hot : Bool := false                -- off by its junction sensor (R251)
  trip : Option Nat := none
  cand : Nat := 0                    -- in_filter: edges in a row with a sample other than LEVEL (R248)
  deriving DecidableEq, Repr, Inhabited

/-- An AO port beside its objects (R258 to R260). -/
structure AoRt where
  k : Nat
  percent : Nat := 0                 -- last committed value, binary32 %
  target : Option Nat := none        -- current the port drives, binary32 mA; none: high impedance
  back : Nat := 0                    -- edges in a row within 0.5 mA of the target, while OPEN_LOOP
  deriving DecidableEq, Repr, Inhabited

/-- A capture unit (R267 to R269, R320). -/
structure CapRt where
  u : Nat
  start : Option Nat := none         -- pending start, ns
  queue : List CapRes := []          -- results waiting for the next Freeze, at most 16
  image : List CapRes := []          -- results in the input image of the current beat
  log : List (Nat × List CapRes) := [] -- the last 16 beats with results (R423)
  deriving DecidableEq, Repr, Inhabited

/-- A sample of a filter lane: signed count, corrected timestamp in ns, UNSETTLED, OVERRANGE (R285, R287). -/
structure FaPoint where
  count : Int
  ts : Int
  unsettled : Bool
  ovr : Bool
  deriving DecidableEq, Repr, Inhabited

/-- A lane of the filter chain (R281 to R297). -/
structure FaRt where
  k : Nat
  due : Bool := false                -- a write asks for a restart at the next edge (R287)
  dueAt : Nat := 0                   -- beat of that write
  dueDet : List Nat := []            -- detectors that restart at the next edge: 1 peak, 2 RMS, 3 envelope (R289)
  n : Nat := 4                       -- the configuration that runs: rate_n, fir_taps, phase_delay, fa_range
  taps : Nat := 1
  phase : Nat := 0
  range : Nat := 0
  since : Nat := 0                   -- samples since the restart
  peakSince : Nat := 0               -- samples since the restart of each detector
  rmsSince : Nat := 0
  envSince : Nat := 0
  samples : List FaPoint := []       -- newest first, as many as the windows need
  env : Nat := 0                     -- binary32
  now : FaRec := {}                  -- record of the newest sample
  beatRec : FaRec := {}                -- beat record of the current image
  building : FaBlock := {}
  block : FaBlock := {}              -- sample block of the current image
  firstBlock : Bool := false         -- the next sample is the first since the restart
  gap : Bool := false                -- and it ends a lane fault
  faults : List Nat := []            -- operating beats of the lane faults of the last 60 s
  deriving DecidableEq, Repr, Inhabited

/-- The field side and the filter chain (R239 to R303). -/
structure FieldSt where
  late : Nat := 0                    -- consecutive beats with late samples (R243)
  bad : Nat := 0                     -- consecutive beats with the converter out of regulation
  badBeat : Option Nat := none       -- the last of them
  good : Nat := 0                    -- consecutive good beats
  failed : Bool := false
  staleNow : Bool := false           -- the samples of this beat are late
  silent : Bool := false             -- safe states applied for silence (R242)
  lastUpdate : Nat := 0              -- beat of the last valid update
  armed : Option (List (Nat × Nat)) := none  -- latch values of the last Emit, not applied yet (R17)
  edgeVals : List PointV := []       -- local input points as sampled at the edge (R36)
  edgeDio : List Nat := []           -- words of the DIO channels at the edge (R273)
  edgeEnc : List (Nat × List (Nat × Nat)) := [] -- the last 4 edges: beat, COUNT and POSITION_UNCERTAIN of each encoder (R266)
  dios : List DioRt := []
  aos : List AoRt := []
  caps : List CapRt := []
  presets : List (Nat × Nat) := []   -- encoder, COUNT to set at the next edge (R265)
  fas : List FaRt := []
  deriving DecidableEq, Repr, Inhabited

/-- A CHIME grid in force (R318): period, phase and width in 5 ns. -/
structure Grid where
  period : Nat
  phase : Nat
  width : Nat
  deriving DecidableEq, Repr, Inhabited

/-- A time pin beside its object (R315 to R321); instants in ns of the beat timebase. -/
structure PinRt where
  p : Nat
  grid : Option Grid := none         -- the grid that runs
  starts : Option Nat := none         -- first instant of the grid now written, not reached yet
  last : Nat := 0                    -- rise of the last pulse
  pulseEnd : Nat := 0                -- and its end
  deriving DecidableEq, Repr, Inhabited

/-- A PTP event message as the egress port of a ring pair sends it (R309): correctionField in ns. -/
structure PtpOut where
  port : Nat
  correction : Int
  deriving DecidableEq, Repr, Inhabited

/-- The time servo, the algorithm's data sets and the pins (R304 to R321). Operating times are in beats. -/
structure TimeSt where
  gm : Option Nat := none            -- the selected grandmaster
  servoGm : Nat := 0                 -- grandmaster of the servo received from the ACTIVE, 0 none (R314)
  firstSync : Bool := false          -- its first Sync has come
  measured : Bool := false           -- and a delay measurement that began after it
  count : Nat := 0                   -- counted Syncs, 8 when it is qualified (R312)
  lastRx : Nat := 0                  -- its last Sync, or its selection
  lastAnn : Nat := 0                 -- its last Announce, or its selection
  off50 : Nat := 0                   -- consecutive Syncs over 50 ns while ALIGNED
  disagree : Nat := 0                -- consecutive Syncs over 200 ns (R306)
  removed : Nat := 0                 -- ns removed since the offset was found
  lastSync : Nat := 0                -- last accepted Sync (R312, R313)
  announces : List Announce := []    -- newest of each port
  linkDown : List Nat := []          -- ports without link
  rxRaised : List (Nat × Nat) := []  -- port and its last PTP_RX_ERROR
  tcRaised : List (Nat × Nat) := []  -- port and its last TC_UNCORRECTED
  forwarded : Option PtpOut := none  -- message in residence, corrected
  ppsLast : Nat := 0                 -- last edge of TP0, ns
  ppsGated : Bool := true            -- TP1 does not pulse (R317)
  pins : List PinRt := []
  deriving DecidableEq, Repr, Inhabited

/-- A message object beside its registers (R332 to R340): `o` is controller × 128 + object. -/
structure CanObjRt where
  o : Nat
  primary : Option CanFrame := none
  shadow : Option CanFrame := none
  stored : Nat := 0                  -- frames stored since the previous image
  held : Nat := 0                    -- of them those that came to the shadow, for the next image
  shown : Nat := 0                   -- record of the current image, 80 bytes (R334)
  shownQ : Nat := 3                  -- its QUALITY
  payload : Option Nat := none       -- payload of the pending frame
  lastSent : Option (Nat × Nat) := none -- identifier and payload of the last frame queued
  resume : Bool := false             -- a suspended object resumes at the next Commit (R340)
  deriving DecidableEq, Repr, Inhabited

/-- A controller beside its registers. -/
structure CanRt where
  k : Nat
  detect : Nat := 0                  -- auto-bitrate: 0 searching, 1 matched, 2 adopted, 3 failed
  entry : Nat := 0                   -- entry of R341 tried
  since : Nat := 0                   -- operating beat at which it was entered
  rounds : Nat := 0                  -- passes done
  good : Nat := 0                    -- consecutive matching frames
  adopt : Bool := false              -- adopts the rate at the next edge (R342)
  recovering : Bool := false         -- MANUAL recovery has been started (R339)
  faults : List Nat := []            -- operating beats of its faults of the last 60 s
  rearmed : Bool := false            -- FAILED, and can_mode has been written 0 (R344)
  errRaised : Option Nat := none     -- operating beat of the last CAN_PROTOCOL_ERROR
  deriving DecidableEq, Repr, Inhabited

/-- The CAN block. `sys` holds the system values the program has set: object for CAN_SEND, 1,024 + object for
CAN_RESUME. -/
structure CanSt where
  objs : List CanObjRt := []
  ctls : List CanRt := []
  locked : Bool := false             -- from the edge until the Freeze has copied the objects (R333)
  sys : List Nat := []
  pend : List (Nat × Nat) := []      -- register writes that take effect at the next edge (R345)
  deriving DecidableEq, Repr, Inhabited

/-- The state of one AX-960 module. -/
structure State where
  /-- Every field of the object map, by key (Fields.lean); keys rise, an unlisted key reads as the field's default. -/
  regs : List (Nat × Nat) := []
  /-- The clusters' memory (R10, R494): unlisted bytes read 0. -/
  mem : List Host.Cell := []
  /-- The model's own counter of free values drawn so far. -/
  free : Nat := 0
  beat : BeatSt := {}
  ev : EventSt := {}
  lcp : LcpSt := {}
  jr : JournalSt := {}
  units : UnitSt := {}
  wd : WdSt := {}
  rt : RtSt := {}
  rtY : RtSt := {}
  rtZ : RtSt := {}
  loops : LoopSt := {}
  pair : PairSt := {}
  sec : SecSt := {}
  triad : TriadSt := {}
  pwr : PowerSt := {}
  img : ImageSt := {}
  panel : PanelSt := {}
  lanes : LanesSt := {}
  field : FieldSt := {}
  time : TimeSt := {}
  can : CanSt := {}
  /-- The commands that wait, first in first out. -/
  pending : List Instr := []
  deriving DecidableEq, Repr

/-- The intervals of the 48 health checks in ms (R145). -/
def healthIntervals : List Nat :=
  [28800000, 28800000, 28800000, 1000, 60000] ++ List.replicate 12 10000 ++ [1000, 1000] ++ List.replicate 7 60000 ++
    [10000, 10000, 1000, 1000, 60000, 60000, 60000, 1000, 1000, 3600000, 600000, 60000, 10000, 86400000, 86400000, 10000,
     60000, 3600000, 1000, 60000, 10000, 1000]

/-- The sources whose event_route leaves out the recorder by default (R469): 99 + 4k of the local inputs, and 323. -/
def quietSources : List Nat := (List.range 16).map (fun k => 99 + 4 * k) ++ [323]

/-- Registers whose value at reset is not the default of their field: the intervals, and the routes of the quiet sources. -/
def resetRegs : List (Nat × Nat) :=
  healthIntervals.mapIdx (fun k v => (fldKey F.hcInterval k, v)) ++ quietSources.map (fun k => (fldKey F.routeRecorder k, 0))

/-- The module as a feed rises: in START, before S1 (R60, R66), every register at the default its table gives, nothing in
memory, the Journal or a queue. The six images it boots from stand in their active slots, valid (DESIGN CHOICE, log entry
33). -/
def State.reset : State :=
  { regs := resetRegs
    img := { slots := (List.range 6).map (fun t => (t * 4, { state := 1, version := 0x01000000 })) } }

end Sys2Proof.Machine
end

