-- ==== Sys2Proof/Machine/Ops.lean ====
section
/-! DEFINITION. The named operations over the state that every family shares: reading and writing a field of the
object map, memory, events, causes of mode changes, the entry into each mode, epochs, the Journal's port. -/

namespace Sys2Proof.Machine

open Sys2Proof

/-! Register file. -/

/-- Value listed for a key, or the default. -/
def regGet : List (Nat × Nat) → Nat → Nat → Nat
  | [], _, d => d
  | (k, v) :: t, key, d => if k = key then v else regGet t key d

/-- Lists a value for a key, keys rising. -/
def regPut : List (Nat × Nat) → Nat → Nat → List (Nat × Nat)
  | [], key, v => [(key, v)]
  | (k, w) :: t, key, v =>
    if key < k then (key, v) :: (k, w) :: t
    else if k = key then (key, v) :: t
    else (k, w) :: regPut t key v

/-- Keys rise strictly. -/
def regWf (l : List (Nat × Nat)) : Bool :=
  match l with
  | [] => true
  | [_] => true
  | a :: b :: t => decide (a.1 < b.1) && regWf (b :: t)

/-- The value of field `f` in instance `k` of its object. -/
def State.get (s : State) (f : Fld) (k : Nat := 0) : Nat := regGet s.regs (fldKey f k) f.dflt

/-- Field `f` of instance `k` takes `v`, cut to its width. -/
def State.put (s : State) (f : Fld) (v : Nat) (k : Nat := 0) : State :=
  { s with regs := regPut s.regs (fldKey f k) (v % 2 ^ f.w) }

/-- A one-bit field as a truth value. -/
def State.flag (s : State) (f : Fld) (k : Nat := 0) : Bool := s.get f k == 1

/-- A one-bit field set from a truth value. -/
def State.putFlag (s : State) (f : Fld) (b : Bool) (k : Nat := 0) : State := s.put f (if b then 1 else 0) k

/-- A saturating counter, one more. -/
def State.inc (s : State) (f : Fld) (k : Nat := 0) : State := s.put f (satInc f.w (s.get f k)) k

/-- A saturating counter, `d` more. -/
def State.add (s : State) (f : Fld) (d : Nat) (k : Nat := 0) : State := s.put f (satAdd f.w (s.get f k) d) k

/-- A 32-bit (or other) field of 1 to 256 bytes that keeps the highest value seen. -/
def State.peak (s : State) (f : Fld) (v : Nat) (k : Nat := 0) : State :=
  if s.get f k < v then s.put f v k else s

/-- The field one or more sub-indices further, for fields that a table lists as a run of equal sub-indices. -/
def Fld.next (f : Fld) (i : Nat) : Fld := { f with home := f.home + i * 16384, sub := f.sub + i }

/-! Memory of the clusters. -/

/-- The byte at an address; a byte nothing has written reads 0 (DESIGN CHOICE, log entry 3). -/
def memGet : List Host.Cell → Nat → BitVec 8
  | [], _ => 0
  | (k, v) :: t, a => if k = a then v else memGet t a

/-- Stores a byte, keeping addresses rising and no byte listed that reads as an unlisted one. -/
def memPut : List Host.Cell → Nat → BitVec 8 → List Host.Cell
  | [], a, v => if v = 0 then [] else [(a, v)]
  | (k, w) :: t, a, v =>
    if a < k then (if v = 0 then (k, w) :: t else (a, v) :: (k, w) :: t)
    else if k = a then (if v = 0 then t else (a, v) :: t)
    else (k, w) :: memPut t a v

/-- The canonical form: addresses rise strictly, no listed byte is 0. -/
def memWf : List Host.Cell → Bool
  | [] => true
  | [a] => decide (a.2 ≠ 0)
  | a :: b :: t => decide (a.2 ≠ 0) && (decide (a.1 < b.1) && memWf (b :: t))

/-- `n` bytes from `a`, little-endian (R7). -/
def memRead (m : List Host.Cell) (a : Nat) : Nat → Nat
  | 0 => 0
  | n + 1 => (memGet m a).toNat + 256 * memRead m (a + 1) n

/-- Stores the low `n` bytes of `v` from `a`, little-endian. -/
def memWrite (m : List Host.Cell) (a v : Nat) : Nat → List Host.Cell
  | 0 => m
  | n + 1 => memWrite (memPut m a (BitVec.ofNat 8 v)) (a + 1) (v / 256) n

/-! Free values. -/

/-- The next free value of `w` bits, and the state that has drawn it. -/
def State.fresh (s : State) (w : Nat) : Nat × State :=
  (Config.freeValue s.free % 2 ^ w, { s with free := s.free + 1 })

/-! Association lists of the hidden state, keyed by a number. -/

/-- Entry of a key. -/
def lookupD (l : List (Nat × Nat)) (k d : Nat) : Nat :=
  match l.find? (fun p => p.1 == k) with
  | some p => p.2
  | none => d

/-- Replaces or adds the entry of a key. -/
def assoc (l : List (Nat × Nat)) (k v : Nat) : List (Nat × Nat) := regPut l k v

/-- Drops the entry of a key. -/
def unassoc (l : List (Nat × Nat)) (k : Nat) : List (Nat × Nat) := l.filter (fun p => p.1 != k)

/-- The last `n` elements. -/
def lastN {α : Type} (n : Nat) (l : List α) : List α := l.drop (l.length - n)

/-- Position `i` of a list replaced. -/
def setAt {α : Type} (l : List α) (i : Nat) (a : α) : List α := l.set i a

/-! Time and stamps. -/

/-- Current beat index (R9). -/
def State.now (s : State) : Nat := s.get F.beatIndex

/-- The coming edge is a step edge (R30): an offset over 10 ms stands, in START or STOP, on a module that keeps its timebase. -/
def State.stepNow (s : State) : Bool :=
  s.flag F.stepPending && (s.get F.mode == 1 || s.get F.mode == 2) && !s.flag F.pairSource

/-- Index of the edge that ends the beat: the next one, or at a step the first edge of the domain grid at least 250 µs after
this beat's own edge (R30). -/
def State.nextBeat (s : State) : Nat :=
  if s.stepNow then ((s.now : Int) + 1 - s.beat.stepOffset / 250000).toNat else s.now + 1

/-- Length of the current beat in 5 ns: 250 µs, and up to 500 µs where it ends with a step edge (R30). -/
def State.beatLen (s : State) : Nat :=
  if s.stepNow then 50000 + (s.beat.stepOffset % 250000).toNat / 5 else 50000

/-- Operating time in 1/16 s (R438): 250 beats of 250 µs make 62.5 ms. -/
def State.opTime (s : State) : Nat := s.beat.opBeats / 250

/-- PTP_TIME of a stamp (R439): seconds, then the fraction in 2⁻¹⁶ s. -/
def ptpField (beat off : Nat) : Nat :=
  let ns := beat * 250000 + off * 5
  (ns / 1000000000 % 2 ^ 32) * 65536 + ns % 1000000000 * 65536 / 1000000000

/-! Events (R446 to R452, R576). -/

/-- The route of a source now (R450, R469), as event_route. -/
def State.route (s : State) (src : Nat) : Nat :=
  s.get F.routeClusters src + 2 * s.get F.routeLoops src + 4 * s.get F.routeSup src
    + 8 * s.get F.routeRecorder src + 16 * s.get F.routeTp2 src + 32 * s.get F.routeTp3 src

/-- Packs data fields (width, value) into records of `lim` bits, a field never split (R576). `cur` and `used` are the
record being filled. -/
def packData (lim cur used : Nat) : List (Nat × Nat) → List Nat
  | [] => [cur]
  | (w, v) :: t =>
    if used + w ≤ lim then packData lim (cur + (v % 2 ^ w) * 2 ^ used) (used + w) t
    else cur :: packData lim (v % 2 ^ w) w t

/-- The records of one event: the first, then its continuations (R576). -/
def mkRecs (s : State) (src code sev : Nat) (words : List Nat) : List EvRec :=
  let valid := s.get F.timeLocked == 1
  words.mapIdx (fun i d =>
    { src := src, code := code, sev := sev, beat := s.now, off := s.beat.off, ptpValid := valid
      ptp := if valid then ptpField s.now s.beat.off else 0
      op := s.opTime, cycles := s.get F.powerCycles % 2 ^ 24, cont := i != 0, data := d, route := s.route src })

/-- An event of source `src` is stamped and handed to the Event Router; RAISED counts it (R446, R469). -/
def State.raise (s : State) (src code sev : Nat) (data : List (Nat × Nat)) : State :=
  let recs := mkRecs s src code sev (packData 64 0 0 data)
  let s := s.inc F.raised src
  { s with ev := { s.ev with router := s.ev.router ++ recs } }

/-- An event of WSL-E station `st` on Ethernet port `port` (R448): code 0x0100 up, the station in DATA[63:56]. -/
def State.raiseWsl (s : State) (port st code sev : Nat) (data : List (Nat × Nat)) : State :=
  let src := 286 + 2 * port
  let words := (packData 56 0 0 data).map (fun d => d + st * 2 ^ 56)
  let recs := mkRecs s src (0x0100 + code) sev words
  let s := s.inc F.raised src
  { s with ev := { s.ev with router := s.ev.router ++ recs } }

/-! The Journal's port (R18, R429, R430). -/

/-- Bytes of a record with `len` payload bytes (R429). -/
def recBytes (len : Nat) : Nat := 24 + (len + 7) / 8 * 8

/-- Bytes of the records that wait for the port. -/
def pendBytes (l : List JRec) : Nat := l.foldl (fun a r => a + recBytes r.len) 0

/-- Room for one more record of `len` payload bytes in the live half of 128 MiB (R431). -/
def State.journalRoom (s : State) (len : Nat) : Bool :=
  decide (s.get F.liveBytes + pendBytes s.jr.pend + recBytes len ≤ 134217728)

/-- Hands a record to the port; where the live half has no room it raises JOURNAL_FULL, and the record waits (R431). -/
def State.journal (s : State) (type key len payload : Nat) (shared : Bool) (tomb : Bool := false) : State :=
  let r : JRec := { seq := 0, type := type, tomb := tomb, shared := shared, key := key, len := len, payload := payload }
  let others := s.jr.retry.filter (fun x => !(x.type == type && x.key == key))
  if s.journalRoom len then
    { s with jr := { s.jr with asked := s.jr.asked + 1, pend := s.jr.pend ++ [r], retry := others } }
  else { s with jr := { s.jr with retry := others ++ [r] } }.raise 378 1 2 [(32, s.get F.liveBytes)]   -- JOURNAL_FULL

/-- Records that found no room are retried at the next beat (R431). -/
def State.journalRetry (s : State) : State :=
  s.jr.retry.foldl (fun (s : State) r =>
    if s.journalRoom r.len then s.journal r.type r.key r.len r.payload r.shared r.tomb else s) s

/-- A shared record that says what the newest one of its key does not: it is written (R437). -/
def State.journalNew (s : State) (type key len payload : Nat) (tomb : Bool) : State :=
  match (s.jr.live ++ s.jr.pend).reverse.find? (fun r => r.type == type && r.key == key) with
  | some r => if r.tomb = tomb ∧ (tomb ∨ (r.len = len ∧ r.payload = payload)) then s else s.journal type key len payload true tomb
  | none => if tomb then s else s.journal type key len payload true

/-! Units and epochs (R361, R362). -/

/-- The epoch after `e` (R361): 0xFFFF_FFFF is followed by 1. -/
def nextEpoch (e : Nat) : Nat := if e ≥ 0xFFFFFFFF then 1 else e + 1

/-- A UnitRef packed for a Journal key (R437): L, then the hops. -/
def packHops (hops : List Nat) : Nat :=
  hops.length + 256 * hops.foldr (fun h a => h + 65536 * a) 0

/-- The transfers that an epoch event of the pair (or of the module) leaves open (R366). -/
def State.dropTransfers (s : State) (pair : Bool) : State :=
  { s with lcp := { s.lcp with transfers := s.lcp.transfers.filter (fun t => t.pair != pair) } }

/-- The hop of this module in its pair (R355). -/
def State.ownHop (s : State) : Nat := s.get F.side

/-- The module's role epoch is incremented for `cause` of R376. -/
def State.bumpOwn (s : State) (cause : Nat) : State :=
  let e := nextEpoch (s.get F.epoch)
  let s := (((s.put F.epoch e).put F.lastChangeBeat s.now).put F.lastEpochCause cause).dropTransfers false
  s.journal 8 (packHops [s.ownHop]) 4 e true

/-- The pair's epoch is incremented for `cause` of R376. -/
def State.bumpPair (s : State) (cause : Nat) : State :=
  let e := nextEpoch s.units.pair.epoch
  let s := { s with units := { s.units with pair := { s.units.pair with
              epoch := e, lastBeat := s.now, lastCause := cause } } }
  (s.dropTransfers true).journal 8 0 4 e true

/-- The record of another unit, by its hops. -/
def State.unit? (s : State) (hops : List Nat) : Option UnitRec :=
  s.units.others.find? (fun u => u.hops == hops)

/-- Adds or replaces the record of another unit. -/
def State.putUnit (s : State) (u : UnitRec) : State :=
  { s with units := { s.units with others := s.units.others.filter (fun v => v.hops != u.hops) ++ [u] } }

/-- Another unit's epoch is incremented for `cause` of R376. -/
def State.bumpUnit (s : State) (hops : List Nat) (cause : Nat) : State :=
  let u := (s.unit? hops).getD { hops := hops }
  let e := nextEpoch u.epoch
  (s.putUnit { u with epoch := e, lastBeat := s.now, lastCause := cause }).journal 8 (packHops hops) 4 e true

/-! The fault latch (R507, R461, R470). -/

/-- The power manager writes its fault latch. -/
def State.latch (s : State) (f : Latch → Latch) : State :=
  { s with pwr := { s.pwr with latch := { f s.pwr.latch with valid := true, seq := s.pwr.latch.seq + 1 } } }

/-- The counts of the watchdog go into the latch (R461). -/
def State.latchCounts (s : State) (t : Nat) : State :=
  s.latch (fun l => { l with
    tollT := t, wdCause := s.get F.wdLastCause, wdTotal := s.get F.wdTotal, expiryOp := s.opTime, expiryBeat := s.now })

/-- One of the events 394 to 401, which the latch records as well (R470). -/
def State.raiseLatched (s : State) (src code sev : Nat) (data : List (Nat × Nat)) : State :=
  (s.latch (fun l => { l with events := setBit l.events (src - 394) true })).raise src code sev data

/-- No slice of this beat is still to come: the clusters are in Idle (R35, R41). -/
def State.slicesOver (s : State) : Bool :=
  (List.range 5).all (fun c => decide (c < s.beat.slice) || s.get (F.sliceT0.next c) == 0)

/-! The audit log (R489 to R491). -/

/-- The 24 bytes of an audit record before its LINK, and the LINK behind them. -/
def AuditRec.word (r : AuditRec) : Nat :=
  r.op % 2 ^ 40 + r.cycles % 2 ^ 24 * 2 ^ 40 + r.beat % 2 ^ 32 * 2 ^ 64 + r.seq % 2 ^ 32 * 2 ^ 96
    + r.action % 256 * 2 ^ 128 + r.result % 256 * 2 ^ 136 + r.states % 256 * 2 ^ 144 + r.detail % 256 * 2 ^ 152
    + r.subject % 2 ^ 32 * 2 ^ 160 + r.link % 2 ^ 64 * 2 ^ 192

/-- An action is recorded (R489): the ring holds 131,072 records, and a full one loses its oldest. -/
def State.audit (s : State) (action result detail priv subject : Nat) : State :=
  let r : AuditRec := {
    op := s.opTime, cycles := s.get F.powerCycles % 2 ^ 24, beat := s.now % 2 ^ 32, seq := s.get F.auditNext
    action := action, result := result % 256
    states := s.get F.sec + 4 * s.get F.dbg + 16 * (priv % 4), detail := detail % 256, subject := subject % 2 ^ 32
    link := match s.sec.audit.getLast? with | some q => Config.sha384 q.word % 2 ^ 64 | none => 0 }
  let full := decide (131072 ≤ s.sec.audit.length)
  let s := { s with sec := { s.sec with audit := (if full then s.sec.audit.drop 1 else s.sec.audit) ++ [r] } }
  let s := (s.put F.auditNext (s.get F.auditNext + 1)).put F.auditCount (min s.sec.audit.length 131072)
  if full then (s.inc F.auditWraps).raise 392 1 1 [(32, s.get F.auditWraps + 1)] else s      -- AUDIT_WRAPPED

/-- An action of a session is recorded with its privilege and certificate fingerprint. -/
def State.auditBy (s : State) (sess action result detail : Nat) : State :=
  match s.lcp.sessions.find? (fun x => x.id == sess) with
  | some x => s.audit action result detail x.priv x.fp
  | none => s.audit action result detail 0 0

/-- The unfinished part of every cycle is discarded: no task runs; a task that is spilled, or was and has resumed, is idle
again with SKIPS 0 (R90, R107). -/
def State.dropCycles (s : State) : State :=
  let s := (List.range 32).foldl (fun s t =>
    let s := if s.rt.spills.any (fun e => e.1 == t) then s.put F.taskSkips 0 t else s
    if s.get F.taskState t = 0 then s else s.put F.taskState 0 t) s
  { s with rt := { s.rt with runQ := [], work := [], late := [], withheld := [], unpublished := [], running := [], spills := []
                             errorReason := 0, errorUnit := [] } }

/-- The debug session ends (R478) for a cause in the order of its list: 1 dbg_cmd 4, 2 DURATION, 3 release of its
session, 4 security state, 5 START, SAFE or DORMANT, 6 R481. The cores run again. -/
def State.endDebug (s : State) (cause : Nat) : State :=
  if s.get F.dbg = 0 then s
  else
    let k := s.sec.kind
    let s := if s.get F.haltState = 1 then s.dropCycles else s
    let s := s.auditBy (s.get F.debugSession) 0x06 0 cause
    let s := (((s.put F.dbg 0).put F.debugSession 0).put F.debugLeft 0).put F.haltState 0
    ({ s with sec := { s.sec with kind := 0, scope := 0, left := 0, cmd := 0 } }).raise 389 1 1
      [(8, 1), (8, k), (8, cause)]                                                    -- DEBUG_SESSION

/-! Local outputs (R14, R56). -/

/-- DIO channel `k`. -/
def State.dio (s : State) (k : Nat) : DioRt := (s.field.dios.find? (fun d => d.k == k)).getD { k := k }

/-- Replaces a DIO channel. -/
def State.putDio (s : State) (d : DioRt) : State :=
  { s with field := { s.field with dios := s.field.dios.filter (fun e => e.k != d.k) ++ [d] } }

/-- AO port `k`. -/
def State.ao (s : State) (k : Nat) : AoRt := (s.field.aos.find? (fun a => a.k == k)).getD { k := k }

/-- Replaces an AO port. -/
def State.putAo (s : State) (a : AoRt) : State :=
  { s with field := { s.field with aos := s.field.aos.filter (fun b => b.k != a.k) ++ [a] } }

/-- The drive enable has gone: every local output is high impedance (R14, R56), and the flags of the test currents read 0
(R240). -/
def State.fieldOff (s : State) : State :=
  let s := (List.range 16).foldl (fun (s : State) k =>
    ((s.putDio { s.dio k with on := false }).put F.dioOpenWire 0 k).put F.dioExtDrive 0 k) s
  (List.range 4).foldl (fun (s : State) k => (s.putAo { s.ao k with target := none }).put F.aoFailing 0 k) s

/-! Modes and roles (R55 to R65, R75, R77). -/

/-- Codes of MODE. -/
abbrev mDormant : Nat := 0
abbrev mStart : Nat := 1
abbrev mStop : Nat := 2
abbrev mRun : Nat := 3
abbrev mHold : Nat := 4
abbrev mSafe : Nat := 5

/-- Codes of ROLE. -/
abbrev rNone : Nat := 0
abbrev rSolo : Nat := 1
abbrev rActive : Nat := 2
abbrev rStandby : Nat := 3
abbrev rShadow : Nat := 4

/-- Out of service after RELEASE (R543): the module has left the pair and sends no more. -/
def State.quiet (s : State) : Bool := decide (2 ≤ s.get F.releaseState) && s.get F.role == rNone

/-- The module drives outputs (R14, R55): STOP, RUN or HOLD with ROLE SOLO or ACTIVE. -/
def drives (mode role : Nat) : Bool :=
  (mode == mStop || mode == mRun || mode == mHold) && (role == rSolo || role == rActive)

/-- Claim line and field drive enable follow mode and role (R14, R55), while its own heartbeats run (R148); the drive waits
for the 8 beats of R158. -/
def State.refreshDrive (s : State) : State :=
  let d := drives (s.get F.mode) (s.get F.role) && !s.wd.hbStopped
  (s.putFlag F.claim d).putFlag F.driveEn (d && s.pair.claimBeats == 0)

/-- MODE, ROLE, READY and SAFE_CAUSE take new values; MODE_CHANGE is raised if one of them changed (R77). A role change
increments the module's role epoch (R59, R362) for `epochCause`; the pair's epoch follows the first ACTIVE after a time
without one (R362). `cause` is the precedence of R62, 0 for a change outside it (DESIGN CHOICE, log entry 7). -/
def State.setMode (s : State) (mode role ready safeCause cause : Nat) (epochCause : Nat := 1) : State :=
  let m := s.get F.mode
  let r := s.get F.role
  let d := s.get F.ready
  let c := s.get F.safeCause
  if m = mode ∧ r = role ∧ d = ready ∧ c = safeCause then s
  else
    let s := (((s.put F.mode mode).put F.role role).put F.ready ready).put F.safeCause safeCause
    let s := if r = role then s else
      ((s.put F.unitRole role).putFlag F.pairSource (role == rStandby || role == rShadow)).bumpOwn epochCause
    let acts := role == rSolo || role == rActive
    let s := if role == rActive && s.units.noActive then s.bumpPair 8 else s
    let s := if acts then { s with units := { s.units with noActive := false } } else s
    let s := if !acts && (r == rSolo || r == rActive) && s.pair.partnerRole != rActive
      then { s with units := { s.units with noActive := true } } else s
    let s := s.refreshDrive
    -- MODE_CHANGE
    s.raise 450 1 0 [(3, m), (3, mode), (3, r), (3, role), (1, d), (1, ready), (4, c), (4, safeCause), (8, cause)]

/-- Images that await confirmation are rejected at the START that follows (R532). -/
def State.rejectNext (s : State) : State :=
  if s.get F.imgPending = 1 then { s with img := { s.img with fallback := true } } else s

/-- A cause of a mode change is detected now (R62). -/
def State.cause (s : State) (k : CauseKind) (code : Nat) : State :=
  { s with beat := { s.beat with causes := s.beat.causes ++ [{ kind := k, beat := s.now, code := code }] } }

/-- Ends the freeze of the recorder (R442): the hold queue goes behind what waits for the recorder, each record HELD. -/
def State.thaw (s : State) : State :=
  let held := s.jr.recHold.map (fun r => { r with held := true })
  let s := { s with jr := { s.jr with recBuf := s.jr.recBuf ++ held, recHold := [], recDropped := 0 } }
  ((s.put F.recFrozen 0).put F.frozenBy 0).put F.holdDepth 0

end Sys2Proof.Machine
end

