-- ==== Sys2Proof/Machine/Operands.lean ====
section
/-! DEFINITION. The operands of command packets: TLV parameters, UnitRefs, handles, and the checks every opcode shares
(R358 to R366, R384 to R394, R410 to R419). -/

namespace Sys2Proof.Machine

open Sys2Proof

/-! Status codes (R392). -/

abbrev stOk : Nat := 0x0000
abbrev stAccepted : Nat := 0x0001
abbrev stBadOpcode : Nat := 0x0010
abbrev stBadParam : Nat := 0x0011
abbrev stBadLength : Nat := 0x0012
abbrev stNoUnit : Nat := 0x0020
abbrev stEpochMismatch : Nat := 0x0021
abbrev stNotPermitted : Nat := 0x0022
abbrev stOwned : Nat := 0x0023
abbrev stConflict : Nat := 0x0024
abbrev stWrongMode : Nat := 0x0025
abbrev stKeyLocked : Nat := 0x0026
abbrev stLoopClosed : Nat := 0x0027
abbrev stBusy : Nat := 0x0028
abbrev stBankSelf : Nat := 0x0029
abbrev stHeaderRejected : Nat := 0x002A
abbrev stTrackOverflow : Nat := 0x002B
abbrev stTimeout : Nat := 0x0030
abbrev stUnitOffline : Nat := 0x0031

/-! TLVs (R385, R387, R418). -/

/-- A TLV of `len` bytes. -/
def tlv (t len val : Nat) : Tlv := { t := t, len := len, val := val % 256 ^ len }

/-- DETAIL (R387). -/
def detail (d : Nat) : List Tlv := [tlv 0x800B 2 d]

/-- APPLY_BEAT. -/
def applyBeatTlv (n : Nat) : Tlv := tlv 0x8001 8 n

/-- HOP_POS. -/
def hopPos (n : Nat) : List Tlv := [tlv 0x8003 1 n]

end Sys2Proof.Machine

namespace Sys2Proof

/-- The first TLV of a type. -/
def Packet.find? (p : Packet) (t : Nat) : Option Tlv := p.tlvs.find? (fun x => x.t == t)

/-- Value of the first TLV of a type, or a default. -/
def Packet.val (p : Packet) (t d : Nat) : Nat :=
  match p.find? t with
  | some x => x.val
  | none => d

/-- A TLV of the type is present. -/
def Packet.has (p : Packet) (t : Nat) : Bool := p.tlvs.any (fun x => x.t == t)

/-- Every TLV value of a type, in order. -/
def Packet.vals (p : Packet) (t : Nat) : List Nat := (p.tlvs.filter (fun x => x.t == t)).map (fun x => x.val)

/-- Position in the packet, from 1, of the first TLV of a type; 0 where it is missing (DEDUCED, log entry 13). -/
def Packet.pos (p : Packet) (t : Nat) : Nat :=
  match p.tlvs.findIdx? (fun x => x.t == t) with
  | some i => i + 1
  | none => 0

end Sys2Proof

namespace Sys2Proof.Machine

open Sys2Proof

/-- Bytes of several fields of given widths in bytes, packed without padding (R419): value, then length. -/
def packBytes : List (Nat × Nat) → Nat × Nat
  | [] => (0, 0)
  | (n, v) :: t => let r := packBytes t; (v % 256 ^ n + 256 ^ n * r.1, n + r.2)

/-- A TLV whose value is packed from fields of given widths in bytes. -/
def tlvPacked (t : Nat) (fs : List (Nat × Nat)) : Tlv := { t := t, len := (packBytes fs).2, val := (packBytes fs).1 }

/-- The lengths a TLV of a type may have (R387, R418). -/
def tlvLenOk (t len : Nat) : Bool :=
  match t with
  | 0x0010 => len == 4 | 0x0011 => len == 1 || len == 2 || len == 4 || len == 8
  | 0x0012 => len == 16 | 0x0013 => len == 1 | 0x0014 => len == 4
  | 0x0015 => true | 0x0016 => true
  | 0x0017 => len == 1 | 0x0018 => len == 1 | 0x0019 => len == 1 | 0x001A => len == 2
  | 0x001B => len == 8 | 0x001C => len == 1 | 0x001D => len == 1
  | 0x001E => decide (1 ≤ len) && decide (len ≤ 32)
  | 0x001F => len == 4 | 0x0020 => len == 1 | 0x0021 => len == 1 | 0x0022 => len == 8
  | 0x0023 => len == 1 | 0x0024 => len == 4 | 0x0025 => len == 8 | 0x0026 => len == 4
  | 0x0027 => len == 1 | 0x0028 => len == 4 | 0x002B => len == 1 | 0x002C => len == 8
  | 0x002D => len == 8 | 0x002E => len == 4 | 0x002F => len == 8 | 0x0030 => len == 1
  | 0x0033 => len == 4 | 0x0034 => len == 512 | 0x0035 => len == 1 | 0x0037 => len == 1
  | 0x0038 => len == 1 | 0x0039 => len == 1 | 0x003B => len == 1
  | 0x003C => decide (len ≤ 8192) | 0x003E => len == 1 | 0x003F => decide (len ≤ 1024)
  | 0x0040 => len == 1 | 0x0041 => len == 2 | 0x0042 => len == 64 | 0x0043 => len == 1
  | 0x0045 => len == 8 | 0x0048 => len == 1
  | 0x8002 => len == 8 | 0x8007 => len == 4 | 0x8008 => len == 8
  | 0x8009 => decide (1 ≤ len) && decide (len ≤ 65280)
  | 0x800D => len == 96 | 0x800E => decide (len ≤ 8192) | 0x800F => len == 2
  | _ => false

/-- A value outside what R418 or the opcode's row gives its TLV type. -/
def tlvValOk (t v : Nat) : Bool :=
  match t with
  | 0x0013 => decide (v ≤ 2) | 0x0014 => decide (v < 2 ^ 24)
  | 0x0017 => decide (v ≤ 5) | 0x0018 => decide (v ≤ 2) | 0x0019 => decide (v ≤ 4)
  | 0x001A => decide (v < 2 ^ 15) && (v / 2 ^ 14 == 0 || decide (v % 2 ^ 14 < 512))
  | 0x001C => decide (v ≤ 1) | 0x001D => decide (v ≤ 7)
  | 0x0026 => decide (4 ≤ v) && decide (v ≤ 65280)
  | 0x0027 => decide (v ≤ 1) | 0x002B => decide (v ≤ 3) | 0x0030 => decide (v ≤ 9)
  | 0x0035 => decide (v ≤ 5) | 0x0037 => decide (v ≤ 1) | 0x0038 => decide (v ≤ 1)
  | 0x0039 => decide (v ≤ 1) | 0x003B => decide (v ≤ 3) | 0x003E => decide (v ≤ 2)
  | 0x0040 => decide (v ≤ 95) || v == 0xFF
  | 0x0041 => v / 128 % 2 == 0 && decide (v < 2048)
  | 0x0043 => decide (v ≤ 4) | 0x0045 => decide (v < 2 ^ 48) | 0x0048 => decide (v ≤ 1)
  | _ => true

/-! The opcodes (R410, R417). -/

inductive OpKind where
  | s | f | p
  deriving DecidableEq, Repr

inductive TargetK where
  | none | unit | pm | pair | mod
  deriving DecidableEq, Repr

inductive ModesK where
  | all | op | opSafe | safe | run | stopSafe
  deriving DecidableEq, Repr

inductive KeyRule where
  | none | r63 | r92 | r170
  deriving DecidableEq, Repr

/-- A row of the permission table (R417). -/
structure OpSpec where
  ef : Bool
  kind : OpKind
  target : TargetK
  modes : ModesK
  svOp : Bool
  key : KeyRule
  priv : Nat
  deriving DecidableEq, Repr

/-- The opcode number (R417). -/
def opCode : Op → Nat
  | .hello => 0x0001
  | .bye => 0x0002
  | .ping => 0x0003
  | .sessionPriority => 0x0004
  | .unitList => 0x0100
  | .unitInfo => 0x0101
  | .unitCertGet => 0x0102
  | .unitEpochGet => 0x0103
  | .modeGet => 0x0200
  | .modeSet => 0x0201
  | .restart => 0x0202
  | .gong => 0x0203
  | .clearSafe => 0x0204
  | .valueRead => 0x0300
  | .valueWrite => 0x0301
  | .constWrite => 0x0302
  | .valueOwn => 0x0303
  | .valueRelease => 0x0304
  | .forceSet => 0x0305
  | .forceClear => 0x0306
  | .objRead => 0x0310
  | .objWrite => 0x0311
  | .programStage => 0x0400
  | .programChunk => 0x0401
  | .shadowStart => 0x0402
  | .shadowCompareGet => 0x0403
  | .promote => 0x0404
  | .revert => 0x0405
  | .changeConfirm => 0x0406
  | .pairStatus => 0x0500
  | .switchover => 0x0501
  | .healthReport => 0x0502
  | .resyncStandby => 0x0503
  | .loopRead => 0x0600
  | .loopModeSet => 0x0601
  | .loopCoeffSet => 0x0602
  | .loopSpSet => 0x0603
  | .timeStatus => 0x0700
  | .chimeSet => 0x0701
  | .rimshotArm => 0x0702
  | .captureRead => 0x0703
  | .journalStatus => 0x0800
  | .rollNow => 0x0801
  | .recorderFreeze => 0x0802
  | .recorderRead => 0x0803
  | .recorderThaw => 0x0804
  | .recorderClear => 0x0805
  | .imageHeader => 0x0900
  | .imageChunk => 0x0901
  | .imageCommit => 0x0902
  | .imageStatus => 0x0903
  | .imageConfirm => 0x0904
  | .csrCreate => 0x0A00
  | .certInstall => 0x0A01
  | .securityStateSet => 0x0A02
  | .debugTokenInstall => 0x0A03
  | .auditRead => 0x0A04
  | .ioConfigSet => 0x0B00
  | .ioDiagRead => 0x0B01
  | .laneStatus => 0x0B02
  | .canObjSet => 0x0B03
  | .powerStatus => 0x0C00
  | .dormantEnter => 0x0C01
  | .powerStats => 0x0C02
  | .eventSubscribe => 0x0D00
  | .eventRead => 0x0D01
  | .selftest => 0x0E00
  | .klStatus => 0x0E01

/-- The permission table (R417). The privilege is the lowest that may send the opcode. -/
def opSpec : Op → OpSpec
  | .hello => { ef := true, kind := .s, target := .none, modes := .all, svOp := false, key := .none, priv := 0 }
  | .bye => { ef := true, kind := .s, target := .none, modes := .all, svOp := false, key := .none, priv := 0 }
  | .ping => { ef := true, kind := .s, target := .none, modes := .all, svOp := false, key := .none, priv := 0 }
  | .sessionPriority => { ef := true, kind := .s, target := .none, modes := .all, svOp := false, key := .none, priv := 0 }
  | .unitList => { ef := true, kind := .s, target := .unit, modes := .all, svOp := false, key := .none, priv := 0 }
  | .unitInfo => { ef := true, kind := .s, target := .unit, modes := .all, svOp := false, key := .none, priv := 0 }
  | .unitCertGet => { ef := true, kind := .s, target := .unit, modes := .all, svOp := false, key := .none, priv := 0 }
  | .unitEpochGet => { ef := true, kind := .s, target := .unit, modes := .all, svOp := false, key := .none, priv := 0 }
  | .modeGet => { ef := true, kind := .s, target := .pm, modes := .all, svOp := false, key := .none, priv := 0 }
  | .modeSet => { ef := false, kind := .f, target := .pm, modes := .op, svOp := false, key := .r63, priv := 2 }
  | .restart => { ef := false, kind := .f, target := .pm, modes := .op, svOp := false, key := .r63, priv := 2 }
  | .gong => { ef := false, kind := .f, target := .pair, modes := .op, svOp := false, key := .none, priv := 2 }
  | .clearSafe => { ef := false, kind := .s, target := .mod, modes := .safe, svOp := false, key := .r63, priv := 3 }
  | .valueRead => { ef := true, kind := .s, target := .pm, modes := .all, svOp := false, key := .none, priv := 0 }
  | .valueWrite => { ef := false, kind := .f, target := .pm, modes := .op, svOp := false, key := .r92, priv := 1 }
  | .constWrite => { ef := false, kind := .f, target := .pm, modes := .op, svOp := false, key := .r92, priv := 2 }
  | .valueOwn => { ef := false, kind := .f, target := .pair, modes := .op, svOp := false, key := .r92, priv := 1 }
  | .valueRelease => { ef := false, kind := .f, target := .pair, modes := .op, svOp := false, key := .none, priv := 1 }
  | .forceSet => { ef := false, kind := .f, target := .pair, modes := .op, svOp := true, key := .r92, priv := 2 }
  | .forceClear => { ef := false, kind := .f, target := .pair, modes := .op, svOp := false, key := .r92, priv := 2 }
  | .objRead => { ef := true, kind := .s, target := .unit, modes := .all, svOp := false, key := .none, priv := 0 }
  | .objWrite => { ef := false, kind := .f, target := .unit, modes := .op, svOp := false, key := .none, priv := 2 }
  | .programStage => { ef := false, kind := .s, target := .pm, modes := .op, svOp := false, key := .r63, priv := 2 }
  | .programChunk => { ef := false, kind := .s, target := .pm, modes := .op, svOp := false, key := .r63, priv := 2 }
  | .shadowStart => { ef := false, kind := .f, target := .pair, modes := .run, svOp := false, key := .r63, priv := 2 }
  | .shadowCompareGet => { ef := true, kind := .s, target := .pair, modes := .op, svOp := false, key := .none, priv := 0 }
  | .promote => { ef := false, kind := .f, target := .pm, modes := .op, svOp := false, key := .r170, priv := 2 }
  | .revert => { ef := false, kind := .f, target := .pair, modes := .op, svOp := false, key := .r63, priv := 2 }
  | .changeConfirm => { ef := false, kind := .f, target := .pair, modes := .op, svOp := false, key := .r63, priv := 2 }
  | .pairStatus => { ef := true, kind := .s, target := .pm, modes := .all, svOp := false, key := .none, priv := 0 }
  | .switchover => { ef := false, kind := .f, target := .pm, modes := .op, svOp := false, key := .r63, priv := 2 }
  | .healthReport => { ef := true, kind := .s, target := .pm, modes := .all, svOp := false, key := .none, priv := 0 }
  | .resyncStandby => { ef := false, kind := .f, target := .pair, modes := .op, svOp := false, key := .none, priv := 2 }
  | .loopRead => { ef := true, kind := .s, target := .pm, modes := .all, svOp := false, key := .none, priv := 0 }
  | .loopModeSet => { ef := false, kind := .f, target := .pair, modes := .op, svOp := false, key := .r92, priv := 1 }
  | .loopCoeffSet => { ef := false, kind := .p, target := .pair, modes := .op, svOp := false, key := .r92, priv := 2 }
  | .loopSpSet => { ef := false, kind := .f, target := .pair, modes := .op, svOp := false, key := .r92, priv := 1 }
  | .timeStatus => { ef := true, kind := .s, target := .pm, modes := .all, svOp := false, key := .none, priv := 0 }
  | .chimeSet => { ef := false, kind := .f, target := .mod, modes := .op, svOp := false, key := .none, priv := 2 }
  | .rimshotArm => { ef := false, kind := .f, target := .mod, modes := .op, svOp := false, key := .none, priv := 2 }
  | .captureRead => { ef := true, kind := .s, target := .pm, modes := .all, svOp := false, key := .none, priv := 0 }
  | .journalStatus => { ef := true, kind := .s, target := .pm, modes := .all, svOp := false, key := .none, priv := 0 }
  | .rollNow => { ef := false, kind := .s, target := .mod, modes := .op, svOp := false, key := .none, priv := 3 }
  | .recorderFreeze => { ef := false, kind := .s, target := .mod, modes := .opSafe, svOp := false, key := .none, priv := 1 }
  | .recorderRead => { ef := true, kind := .s, target := .pm, modes := .all, svOp := false, key := .none, priv := 0 }
  | .recorderThaw => { ef := false, kind := .s, target := .mod, modes := .opSafe, svOp := false, key := .none, priv := 1 }
  | .recorderClear => { ef := false, kind := .s, target := .mod, modes := .op, svOp := true, key := .none, priv := 3 }
  | .imageHeader => { ef := false, kind := .s, target := .mod, modes := .opSafe, svOp := false, key := .none, priv := 3 }
  | .imageChunk => { ef := false, kind := .s, target := .mod, modes := .opSafe, svOp := false, key := .none, priv := 3 }
  | .imageCommit => { ef := false, kind := .s, target := .mod, modes := .opSafe, svOp := false, key := .none, priv := 3 }
  | .imageStatus => { ef := true, kind := .s, target := .mod, modes := .all, svOp := false, key := .none, priv := 0 }
  | .imageConfirm => { ef := false, kind := .s, target := .mod, modes := .opSafe, svOp := false, key := .none, priv := 3 }
  | .csrCreate => { ef := false, kind := .s, target := .pm, modes := .op, svOp := true, key := .none, priv := 3 }
  | .certInstall => { ef := false, kind := .s, target := .pm, modes := .op, svOp := true, key := .none, priv := 3 }
  | .securityStateSet => { ef := false, kind := .p, target := .mod, modes := .op, svOp := false, key := .none, priv := 3 }
  | .debugTokenInstall => { ef := false, kind := .s, target := .mod, modes := .op, svOp := true, key := .none, priv := 3 }
  | .auditRead => { ef := true, kind := .s, target := .mod, modes := .all, svOp := false, key := .none, priv := 3 }
  | .ioConfigSet => { ef := false, kind := .f, target := .pair, modes := .op, svOp := false, key := .none, priv := 2 }
  | .ioDiagRead => { ef := true, kind := .s, target := .pm, modes := .all, svOp := false, key := .none, priv := 0 }
  | .laneStatus => { ef := true, kind := .s, target := .mod, modes := .all, svOp := false, key := .none, priv := 0 }
  | .canObjSet => { ef := false, kind := .f, target := .pair, modes := .op, svOp := false, key := .none, priv := 2 }
  | .powerStatus => { ef := true, kind := .s, target := .mod, modes := .all, svOp := false, key := .none, priv := 0 }
  | .dormantEnter => { ef := false, kind := .f, target := .mod, modes := .stopSafe, svOp := false, key := .none, priv := 3 }
  | .powerStats => { ef := true, kind := .s, target := .mod, modes := .all, svOp := false, key := .none, priv := 0 }
  | .eventSubscribe => { ef := true, kind := .s, target := .pm, modes := .all, svOp := false, key := .none, priv := 0 }
  | .eventRead => { ef := true, kind := .s, target := .pm, modes := .all, svOp := false, key := .none, priv := 0 }
  | .selftest => { ef := false, kind := .s, target := .mod, modes := .opSafe, svOp := false, key := .none, priv := 3 }
  | .klStatus => { ef := true, kind := .s, target := .mod, modes := .all, svOp := false, key := .none, priv := 0 }
/-- The TLV types an opcode takes, and whether each may repeat (R420 to R425). -/
def allowedTlvs : Op → List (Nat × Bool)
  | .hello => [(0x001E, false), (0x001D, false), (0x001F, false), (0x800E, false), (0x800D, false)]
  | .bye | .ping | .unitInfo | .unitEpochGet | .modeGet | .clearSafe | .shadowStart | .revert | .changeConfirm
  | .pairStatus | .healthReport | .resyncStandby | .timeStatus | .journalStatus | .rollNow | .recorderFreeze
  | .recorderThaw | .recorderClear | .powerStatus | .dormantEnter | .powerStats | .klStatus => []
  | .sessionPriority => [(0x001D, false)]
  | .unitList => [(0x0033, false), (0x0026, false)]
  | .unitCertGet => [(0x003B, false)]
  | .modeSet => [(0x0017, false), (0x0018, false), (0x0019, false)]
  | .restart => [(0x0018, false)]
  | .gong => [(0x8002, false), (0x800F, false)]
  | .valueRead => [(0x0010, true), (0x0013, false)]
  | .valueWrite | .constWrite => [(0x0010, true), (0x0011, true), (0x0013, false)]
  | .valueOwn => [(0x0010, true)]
  | .valueRelease => [(0x0010, true), (0x0048, false)]
  | .forceSet => [(0x0010, true), (0x0011, true)]
  | .forceClear => [(0x0010, true)]
  | .objRead => [(0x0014, false), (0x8008, false), (0x0026, false)]
  | .objWrite => [(0x0014, false), (0x0015, false), (0x0016, false)]
  | .programStage => [(0x0025, false), (0x0013, false)]
  | .programChunk | .imageChunk => [(0x8007, false), (0x8008, false), (0x8009, false)]
  | .shadowCompareGet => [(0x8008, false), (0x0026, false), (0x0028, true)]
  | .promote => [(0x8002, false), (0x0027, false), (0x0018, false)]
  | .switchover => [(0x8002, false)]
  | .loopRead => [(0x001A, false), (0x001B, true)]
  | .loopModeSet => [(0x001A, false), (0x0017, false)]
  | .loopCoeffSet => [(0x001A, false), (0x001B, true)]
  | .loopSpSet => [(0x001A, false), (0x001C, false), (0x0011, false)]
  | .chimeSet => [(0x002B, false), (0x002C, false), (0x002D, false), (0x002E, false)]
  | .rimshotArm => [(0x002B, false), (0x002F, false), (0x002E, false)]
  | .captureRead => [(0x0030, false)]
  | .recorderRead | .auditRead | .eventRead => [(0x0033, false), (0x0026, false)]
  | .imageHeader => [(0x0034, false)]
  | .imageCommit => [(0x8007, false), (0x0037, false), (0x0038, false)]
  | .imageStatus | .imageConfirm => [(0x0035, false)]
  | .csrCreate => [(0x0039, false)]
  | .certInstall => [(0x003B, false), (0x003C, false)]
  | .securityStateSet => [(0x003E, false), (0x003F, false)]
  | .debugTokenInstall => [(0x003F, false)]
  | .ioConfigSet => [(0x0014, true), (0x0015, true), (0x0016, true)]
  | .ioDiagRead => [(0x0010, false)]
  | .laneStatus => [(0x0040, false)]
  | .canObjSet => [(0x0041, false), (0x0015, false)]
  | .eventSubscribe => [(0x0042, false), (0x0043, false)]
  | .selftest => [(0x0045, false)]

/-- Session opcodes (R415). -/
def isSessionOp (o : Op) : Bool := decide (opCode o < 0x0100)

/-- An opcode that changes state (R414): every opcode that is not epoch-free. CHIME_SET and RIMSHOT_ARM write the
module-local object TimePin, which R414 excepts in any role (DEDUCED, log entry 12). -/
def changesState (o : Op) : Bool := !(opSpec o).ef

/-! Checks. -/

/-- The outcome of a check: passed, or a status with its reply TLVs. -/
inductive Chk where
  | ok
  | bad (status : Nat) (tlvs : List Tlv)
  deriving DecidableEq, Repr

/-- The first failing check stands (R388). -/
def Chk.andThen (a : Chk) (b : Chk) : Chk :=
  match a with
  | .ok => b
  | .bad s t => .bad s t

/-- A check that fails with NOT_PERMITTED and a DETAIL of R413 where the condition does not hold. -/
def need (b : Bool) (d : Nat) : Chk := if b then .ok else .bad stNotPermitted (detail d)

/-- A check that fails with BAD_PARAM and the position of the failing TLV (R412). -/
def param (b : Bool) (pos : Nat) : Chk := if b then .ok else .bad stBadParam (detail pos)

/-- A check that fails with a bare status. -/
def require (b : Bool) (st : Nat) (tl : List Tlv := []) : Chk := if b then .ok else .bad st tl

/-- The checks of a list, in order. -/
def Chk.all : List Chk → Chk
  | [] => .ok
  | c :: t => c.andThen (Chk.all t)

/-- TLVs the opcode defines, repeated only where it allows it, of the right length and range (R387, R418, R580). -/
def checkTlvs (allowed : List (Nat × Bool)) : List Tlv → List Nat → Nat → Chk
  | [], _, _ => .ok
  | x :: t, seen, i =>
    match allowed.find? (fun a => a.1 == x.t) with
    | none => .bad stBadParam (detail i)
    | some a =>
      if (seen.contains x.t && !a.2) || !tlvLenOk x.t x.len || !tlvValOk x.t x.val then .bad stBadParam (detail i)
      else checkTlvs allowed t (x.t :: seen) (i + 1)

/-- A TLV the opcode requires. -/
def needTlv (p : Packet) (t : Nat) : Chk := param (p.has t) 0

/-! Units (R353 to R360). -/

/-- The unit a UnitRef names, as this module reaches it. -/
inductive UnitSel where
  | pair
  | own
  | partner
  | chassis
  | slot (k : Nat)
  | sub (k j : Nat)
  | station (s : Nat) (rest : List Nat)
  deriving DecidableEq, Repr

/-- Hops of a unit from the pair. -/
def UnitSel.hops (u : UnitSel) (s : State) : List Nat :=
  match u with
  | .pair => []
  | .own => [s.ownHop]
  | .partner => [1 - s.ownHop]
  | .chassis => [2]
  | .slot k => [0x0100 + k]
  | .sub k j => [0x0100 + k, j]
  | .station n r => (0x0200 + n) :: r

/-- The module stands alone by configuration (R57, R354). -/
def State.alone (s : State) : Bool :=
  s.get F.role == rSolo || s.pair.single || s.get F.triad == 2

/-- A slot is configured by its lane mode (R236), and answers in LIVE, STALE and CROSSOVER (R234). -/
def State.slotConfigured (s : State) (k : Nat) : Bool := s.get F.laneMode k != 0
def State.slotOnline (s : State) (k : Nat) : Bool :=
  let st := s.get F.laneState k
  st == 2 || st == 3 || st == 5

/-- A hop behind a slot is assigned by R356: an L3 address, a position behind an HB-12, a sub-unit of a Gen-5 board. -/
def State.subConfigured (s : State) (k j : Nat) : Bool :=
  if s.get F.laneMode k == 3 then decide (j ≤ 7) && bitOf (s.get F.l3Boards k) j
  else (s.unit? [0x0100 + k, j]).isSome
def State.subOnline (s : State) (k j : Nat) : Bool :=
  s.slotOnline k && (if s.get F.laneMode k == 3 then bitOf (s.get F.laneBoards k) j
    else match s.unit? [0x0100 + k, j] with | some u => u.status < 2 | none => false)

/-- The result of resolving a UnitRef (R359). -/
inductive Resolved where
  | unit (u : UnitSel)
  | fail (status : Nat) (tlvs : List Tlv)
  deriving DecidableEq, Repr

/-- Resolves the hops from the root (R355, R356, R359). -/
def resolveHops (s : State) : List Nat → Resolved
  | [] => .unit .pair
  | h :: rest =>
    if h = 0xFFFF then .fail stBadParam (hopPos 1)
    else if h = 0 ∨ h = 1 then
      if h ≠ s.ownHop ∧ s.alone then .fail stNoUnit (hopPos 1)
      else
        match rest with
        | [] =>
          if h = s.ownHop then .unit .own
          else if s.get F.linkUp = 0 then .fail stUnitOffline (hopPos 1) else .unit .partner
        | h2 :: _ => if h2 = 0xFFFF then .fail stBadParam (hopPos 2) else .fail stNoUnit (hopPos 2)
    else if h = 2 then
      match rest with
      | [] => .unit .chassis
      | h2 :: _ => if h2 = 0xFFFF then .fail stBadParam (hopPos 2) else .fail stNoUnit (hopPos 2)
    else if 0x0100 ≤ h ∧ h ≤ 0x0100 + 95 then
      let k := h - 0x0100
      if !s.slotConfigured k then .fail stNoUnit (hopPos 1)
      else
        match rest with
        | [] => if s.slotOnline k then .unit (.slot k) else .fail stUnitOffline (hopPos 1)
        | h2 :: rest2 =>
          if h2 = 0xFFFF then .fail stBadParam (hopPos 2)
          else if !s.slotOnline k then .fail stUnitOffline (hopPos 1)
          else if !s.subConfigured k h2 then .fail stNoUnit (hopPos 2)
          else
            match rest2 with
            | [] => if s.subOnline k h2 then .unit (.sub k h2) else .fail stUnitOffline (hopPos 2)
            | h3 :: _ => if h3 = 0xFFFF then .fail stBadParam (hopPos 3) else .fail stNoUnit (hopPos 3)
    else if 0x0200 ≤ h ∧ h ≤ 0x0200 + 63 then
      let n := h - 0x0200
      if s.get F.wslPort n = 0xFF then .fail stNoUnit (hopPos 1)
      else if s.get F.wslState n = 0 ∨ s.get F.wslState n = 4 then .fail stUnitOffline (hopPos 1)
      else .unit (.station n rest)
    else .fail stNoUnit (hopPos 1)

/-- Resolves a packet's UnitRef (R358, R359). -/
def resolve (s : State) (p : Packet) : Resolved :=
  if p.hopLen > 31 ∨ p.hops.length ≠ p.hopLen then .fail stBadLength []
  else resolveHops s p.hops

/-- Role code of the pair (R365): 0 out of service, 1 controller, 2 station-head, 3 both. -/
def State.pairRole (s : State) : Nat :=
  if s.units.noActive then 0
  else if s.get F.wslUpPorts = 0 then 1
  else if s.get F.wslDownPorts = 0 then 2 else 3

/-- Epoch of a unit (R361), as far as this module holds it. -/
def State.epochOf (s : State) (u : UnitSel) : Nat :=
  match u with
  | .pair => s.units.pair.epoch
  | .own => s.get F.epoch
  | u => match s.unit? (u.hops s) with | some r => r.epoch | none => 1

/-- Role code of a unit (R365). -/
def State.roleCodeOf (s : State) (u : UnitSel) : Nat :=
  match u with
  | .pair => s.pairRole
  | .own => s.get F.role
  | u => match s.unit? (u.hops s) with | some r => r.role | none => 0

/-! Checks on receipt (R388). -/

/-- The mode of the named unit is one the opcode's row lists (R388 step 11, R410). -/
def modeOk (m : ModesK) (mode : Nat) : Bool :=
  match m with
  | .all => mode != mDormant
  | .op => mode == mStop || mode == mRun || mode == mHold
  | .opSafe => mode == mStop || mode == mRun || mode == mHold || mode == mSafe
  | .safe => mode == mSafe
  | .run => mode == mRun
  | .stopSafe => mode == mStop || mode == mSafe

/-- A packet takes the module path of program staging: it names the module, or the module stands alone (R81, R166). -/
def modulePath (u : UnitSel) (s : State) : Bool := u == .own || s.alone

/-- The modes of an opcode's row for the unit it names: PROMOTE is sent in RUN through the pair and in STOP on the module
path (R81, R417). -/
def opModeOk (o : Op) (u : UnitSel) (s : State) : Bool :=
  if o = .promote then s.get F.mode == (if modulePath u s then mStop else mRun)
  else modeOk (opSpec o).modes (s.get F.mode)

/-- The framing of LENGTH (R388 step 4): the TLVs fill it exactly, where the UnitRef lets them be found. -/
def framingOk (p : Packet) : Bool :=
  let base := 1 + 2 * p.hopLen
  p.length % 4 == 0 && decide (4 ≤ p.length) &&
    (if p.hopLen ≤ 31 ∧ base ≤ p.length then
      p.tlvs.all (fun x => decide (x.len ≤ 65280)) &&
        p.tlvs.foldl (fun a x => a + 4 + pad4 x.len) (pad4 base) == p.length
     else true)

/-- HDR_RESERVED and FLAGS bits 0 to 3, 6 and 7 are 0 (R388 step 5). -/
def flagsOk (p : Packet) : Bool := p.reserved == 0 && p.flags % 16 == 0 && p.flags / 64 == 0

/-- The session of a packet, open and not held. -/
def State.session? (s : State) (id : Nat) : Option Session :=
  s.lcp.sessions.find? (fun x => x.id == id && !x.held && id != 0)

/-- Requests of a session that await a final reply (R388 step 7). -/
def State.awaiting (s : State) (id : Nat) : Nat :=
  (s.lcp.queue.filter (fun q => q.pkt.sess == id)).length + (s.lcp.mail.filter (fun q => q.sess == id)).length
    + (s.lcp.forwards.filter (fun q => q.req.sess == id)).length
    + ([s.img.erase, s.img.program].filter (fun q => match q with | some x => x.1.sess == id | none => false)).length
    + (match s.pwr.selftest with | some p => if p.sess = id then 1 else 0 | none => 0)

/-- What becomes of a packet up to step 11 of R388. -/
inductive Admit where
  | silent                                             -- no reply
  | drop                                               -- no reply, session closed
  | refuse (status : Nat) (tlvs : List Tlv) (close : Bool)
  | cached (r : Reply)                                 -- answered from the reply cache
  | late (u : Option UnitSel) (status : Nat) (tlvs : List Tlv) -- refused from step 9 on
  | away (u : UnitSel)                                 -- forwarded to the partner, the ACTIVE or a remote station
  | go (u : UnitSel)
  deriving DecidableEq, Repr

/-- Steps 9 to 11 of R388 for an opcode with a unit: UnitRef, epoch (R363), mode. -/
def admitUnit (o : Op) (p : Packet) (s : State) : Admit :=
  match resolve s p with
  | .fail st tl => .late none st tl
  | .unit u =>
    let away : Bool := match u with
      | .partner => true
      | .station _ _ => true
      | .own => false
      | _ => s.get F.role == rStandby || s.get F.role == rShadow
    if away then .away u
    else
      let e := s.epochOf u
      if (p.epoch = 0 ∧ !((opSpec o).ef && !(p.has 0x0028))) ∨ (p.epoch ≠ 0 ∧ p.epoch ≠ e) then
        .late (some u) stEpochMismatch [tlvPacked 0x8005 [(4, e), (1, s.roleCodeOf u)]]
      else if !opModeOk o u s then .late (some u) stWrongMode (detail (s.get F.mode))
      else .go u

/-- The packet came in on an upstream WSL-E port of a module that does not serve: such a port carries PTP traffic only (R20). -/
def State.upstreamOnly (s : State) (p : Packet) : Bool :=
  match p.port with
  | some k => bitOf (s.get F.wslUpPorts) k && !(s.get F.role == rActive || s.get F.role == rSolo)
  | none => false

/-- The packet came in on an Ethernet port that does not serve LCP (R379, R407). -/
def State.lcpOff (s : State) (p : Packet) : Bool :=
  match p.port with
  | some k => !bitOf (s.get F.lcpEnable) k && !p.service
  | none => false

/-- Steps 1 to 11 of R388. -/
def admission (o : Op) (p : Packet) (s : State) : Admit :=
  if s.get F.mode = mDormant ∨ s.lcp.mute ∨ s.pwr.off ∨ (s.quiet ∧ !p.service) ∨ s.lcpOff p ∨ s.upstreamOnly p then .silent
  else if p.magic ≠ 0x434C then .drop
  else if p.version ≠ 1 then .refuse stBadParam [] true
  else if p.length > 65512 then .refuse stBadLength [] true
  else if !framingOk p then .refuse stBadLength [] false
  else if !flagsOk p then .refuse stBadParam [] false
  else
    match s.session? p.sess with
    | none => if o = .hello ∧ p.sess = 0 then .go .own else .refuse stNotPermitted (detail 7) true
    | some x =>
      if o = .hello then .refuse stNotPermitted (detail 7) false
      else if s.awaiting p.sess ≥ 64 then .refuse stBusy [] false
      else
        match x.cache.find? (fun r => r.seq == p.seq) with
        | some r => .cached r
        | none =>
          if p.seq ≤ x.high then .refuse stBadParam [] false
          else if isSessionOp o then (if p.hopLen = 0 then .go .pair else .late none stBadParam [])
          else admitUnit o p s

/-! Step 12 of R388: privilege, security state, target and role, key (R413). -/

/-- Privilege of the packet's session; a service-port HELLO has none yet. -/
def State.privOf (s : State) (id : Nat) : Nat :=
  match s.session? id with
  | some x => x.priv
  | none => 0

/-- The target of the opcode (R410, R414): the pair or the module, and the role of a module that changes state.
DEBUG_TOKEN_INSTALL reaches a STANDBY or SHADOW, where R479 and R480 let it act (DEDUCED, log entry 25). -/
def targetChk (o : Op) (u : UnitSel) (s : State) : Chk :=
  match (opSpec o).target with
  | .none => .ok
  | .unit => .ok
  | .pm =>
    match u with
    | .pair => .ok
    | .own =>
      if changesState o && (s.get F.role == rStandby || s.get F.role == rShadow)
        && !(o == .modeSet) then .bad stNotPermitted (detail 3) else .ok
    | _ => .bad stNotPermitted (detail 0x000A)
  | .pair =>
    match u with
    | .pair => .ok
    | .own => .bad stNotPermitted (detail 4)
    | _ => .bad stNotPermitted (detail 0x000A)
  | .mod =>
    match u with
    | .own =>
      if changesState o && (s.get F.role == rStandby || s.get F.role == rShadow)
        && !(o == .chimeSet || o == .rimshotArm || o == .debugTokenInstall) then .bad stNotPermitted (detail 3) else .ok
    | .pair => if changesState o && !s.alone then .bad stNotPermitted (detail 4) else .ok
    | _ => .bad stNotPermitted (detail 0x000A)

/-- KEY_LOCKED with the key position (R392). -/
def keyLocked (s : State) : Chk := .bad stKeyLocked (detail (s.get F.key))

/-- The key rule of R63: with the key at RUN (or in its fault position) the mode and program opcodes are locked; at STOP
a MODE_SET into RUN or HOLD and SWITCHOVER are. -/
def keyR63 (o : Op) (p : Packet) (s : State) : Chk :=
  let k := s.get F.key
  if k = 0 ∨ k = 3 then keyLocked s
  else if k = 2 ∧ (o = .switchover ∨ (o = .modeSet ∧ (p.val 0x0017 0 = mRun ∨ p.val 0x0017 0 = mHold))) then
    keyLocked s
  else .ok

/-- The key column of R417, but for R92, which the writes of R93 check themselves. PROMOTE in STOP on a module without
a partner obeys R63; on a pair it needs the key at REM (R170). -/
def keyChk (o : Op) (p : Packet) (u : UnitSel) (s : State) : Chk :=
  match (opSpec o).key with
  | .none => .ok
  | .r63 => keyR63 o p s
  | .r92 => .ok
  | .r170 => if modulePath u s then keyR63 o p s else if s.get F.key = 1 then .ok else keyLocked s

/-- The writes of R93 check privilege with their attribute (DEDUCED, log entry 14). -/
def isR93 (o : Op) : Bool :=
  o == .valueWrite || o == .constWrite || o == .valueOwn || o == .forceSet || o == .forceClear

/-- Step 12 for every opcode: privilege, security state, target and role, key, the TLVs' own form (R413). -/
def permit (o : Op) (p : Packet) (u : UnitSel) (s : State) : Chk :=
  Chk.all [
    need (isR93 o || decide ((opSpec o).priv ≤ s.privOf p.sess) || o == .hello) 1,
    need (isR93 o || !(opSpec o).svOp || s.get F.sec != 0) 2,
    targetChk o u s,
    keyChk o p u s,
    checkTlvs (allowedTlvs o) p.tlvs [] 1]

end Sys2Proof.Machine
end

