-- ==== Sys2Proof/Machine/Packets.lean ====
section
/-! DEFINITION. How the module answers: objects read packed (R373, R419), replies and their cache, held replies, closing a
session, and the three ways an opcode is handled (R381 to R392, R410 to R416). -/

namespace Sys2Proof.Machine

open Sys2Proof

/-! Sub-indices of objects (R373, R419). -/

/-- The fields of object `idx`. -/
def fieldsOf (idx : Nat) : List Fld :=
  match objMap.find? (fun g => g.any (fun f => decide (f.obj ≤ idx) && decide (idx < f.obj + f.cnt))) with
  | some g => g
  | none => []

/-- The fields of a sub-index. -/
def subFields (idx sub : Nat) : List Fld := (fieldsOf idx).filter (fun f => f.sub == sub)

/-- Bits of a sub-index, in whole bytes. -/
def subBytes (fs : List Fld) : Nat := (listMax (fs.map (fun f => f.lo + f.w)) + 7) / 8

/-- The instance of an object that a field's index names. -/
def fldInst (f : Fld) (idx : Nat) : Nat := idx - f.obj

/-- A sub-index as it reads (R8): reserved and write-only fields read 0. -/
def subVal (s : State) (fs : List Fld) (idx : Nat) : Nat :=
  fs.foldl (fun a f => if f.acc = .rs ∨ f.acc = .wo then a else a + s.get f (fldInst f idx) * 2 ^ f.lo) 0

/-- The sub-indices `a` to `b` of an object that exist, ascending, packed (R419). -/
def packObj (s : State) (idx a b : Nat) : Tlv :=
  tlvPacked 0x0015 (((List.range (b + 1 - a)).map (· + a)).filterMap (fun sub =>
    match subFields idx sub with
    | [] => none
    | fs => some (subBytes fs, subVal s fs idx)))

/-- A reply to a packet (R384 to R386): its UnitRef echoed, the unit's current epoch or 0. -/
def mkReply (o : Op) (p : Packet) (s : State) (u : Option UnitSel) (flags status : Nat) (tlvs : List Tlv) : Reply :=
  { sess := p.sess, op := opCode o, flags := 1 + flags + (if bitOf p.flags 5 then 32 else 0), seq := p.seq
    epoch := match u with | some u => s.epochOf u | none => 0
    status := status, hopLen := p.hopLen, hops := p.hops, tlvs := tlvs }

/-- A packet leaves the module. -/
def State.send (s : State) (r : Reply) : State := { s with lcp := { s.lcp with wire := s.lcp.wire ++ [r] } }

/-- Changes the session of an ID. -/
def State.onSession (s : State) (id : Nat) (f : Session → Session) : State :=
  { s with lcp := { s.lcp with sessions := s.lcp.sessions.map (fun x => if x.id == id then f x else x) } }

/-- The reply enters the session's cache of 256, in place of an earlier one of its sequence (R383). -/
def Session.remember (x : Session) (r : Reply) : Session :=
  { x with cache := lastN 256 (x.cache.filter (fun c => c.seq != r.seq) ++ [r]) }

/-- A reply is cached and leaves at once. -/
def State.answer (s : State) (r : Reply) : State := (s.onSession r.sess (fun x => Session.remember x r)).send r

/-- The partner is this ACTIVE's STANDBY (R143). -/
def State.hasStandby (s : State) : Bool := s.get F.role == rActive && s.pair.partnerRole == rStandby

/-- The tracking close a reply given now waits for (R391): that of this beat up to 240 µs, else of the next; 0 without
a STANDBY. -/
def State.replyBeat (s : State) : Nat :=
  if s.hasStandby then (if s.beat.off ≤ 48000 then s.now else s.now + 1) else 0

/-- A reply after application or an ACCEPTED: cached, and held until its tracking close (R143) and the commit of the
Journal records handed to the port so far (R430). -/
def State.answerHeld (s : State) (r : Reply) : State :=
  let s := s.onSession r.sess (fun x => Session.remember x r)
  if s.replyBeat = 0 ∧ s.jr.asked ≤ s.jr.commits then s.send r
  else { s with lcp := { s.lcp with heldReplies := s.lcp.heldReplies ++
    [{ beat := s.replyBeat, need := s.jr.asked, reply := r }] } }

/-- Held replies whose tracking close (up to `closed`) and commits have come leave, in order. -/
def State.releaseHeld (s : State) (closed : Nat) : State :=
  let due := fun (h : HeldReply) => decide (h.beat ≤ closed) && decide (h.need ≤ s.jr.commits)
  { s with lcp := { s.lcp with
      wire := s.lcp.wire ++ (s.lcp.heldReplies.filter due).map (fun h => h.reply)
      heldReplies := s.lcp.heldReplies.filter (fun h => !due h) } }

/-- A packet of the session has come: its session_idle begins anew (R382). -/
def State.heard (s : State) (id : Nat) : State := s.onSession id (fun x => { x with last := s.now })

/-- The session's highest sequence is the packet's (R390); the beat stands at its arrival stamp (log entry 32). -/
def State.noteSeq (s : State) (p : Packet) : State :=
  let s := s.onSession p.sess (fun x => { x with high := p.seq, last := s.now })
  { s with beat := { s.beat with off := max s.beat.off (p.stamp % s.beatLen) } }

/-- LcpStatus shows the sessions that are open and held (R408). -/
def State.countSessions (s : State) : State :=
  (s.put F.sessions (s.lcp.sessions.filter (fun x => !x.held)).length).put F.held
    (s.lcp.sessions.filter (fun x => x.held)).length

/-- A session ends for good (R382): ownership, transfers, cache and its freeze are released. -/
def State.releaseSession (s : State) (id cause : Nat) : State :=
  let s := if s.get F.dbg != 0 && s.get F.debugSession == id then s.endDebug 3 else s
  let s := { s with lcp := { s.lcp with
      sessions := s.lcp.sessions.filter (fun x => x.id != id)
      owners := s.lcp.owners.filter (fun o => o.2 != id)
      transfers := s.lcp.transfers.filter (fun t => t.sess != id) } }
  let s := s.put F.ownedHandles s.lcp.owners.length
  let s := if s.flag F.recFrozen && s.get F.frozenBy == id then s.thaw else s
  (s.countSessions).raise 463 1 0 [(32, id), (8, cause)]   -- SESSION_CLOSED

/-- A session loses its connection and is held for own_grace (R382). -/
def State.holdSession (s : State) (id cause : Nat) : State :=
  (s.onSession id (fun x => { x with held := true, lossCause := cause, last := s.now })).countSessions

/-- The module closes the connection of a packet after a check that lets it trust the stream no more (R388): the session
is lost as by a TLS close. -/
def State.closeConn (s : State) (id : Nat) : State :=
  if (s.session? id).isSome then s.holdSession id 2 else s

/-- The unit whose epoch the reply to a refused packet carries (R384): the one its UnitRef names, where the packet can be
trusted so far. -/
def State.unitRefused (s : State) (p : Packet) : Option UnitSel :=
  if p.version = 1 ∧ p.length ≤ 65512 ∧ framingOk p then
    match resolve s p with
    | .unit u => some u
    | .fail _ _ => none
  else none

/-- A packet that does not reach its opcode: what R388 gives for its failing step, or the forward of R360. -/
def turnedAway (o : Op) (p : Packet) (a : Admit) (s : State) : State :=
  match a with
  | .silent => s
  | .drop => s.closeConn p.sess
  | .refuse st tl close =>
    let s := (s.heard p.sess).send (mkReply o p s (s.unitRefused p) 0 st tl)
    if close then s.closeConn p.sess else s
  | .cached r => ((s.heard p.sess).inc F.replays).send r
  | .late u st tl => (s.noteSeq p).answer (mkReply o p s u 0 st tl)
  | .away u =>
    let s := s.noteSeq p
    let toPartner : Bool := match u with | .station _ _ => false | _ => true
    if toPartner && s.get F.linkUp == 0 then s.answer (mkReply o p s none 0 stUnitOffline (hopPos 1))
    else
      let rest := match u with
        | .station _ r => r
        | _ => p.hops
      { s with lcp := { s.lcp with forwards := s.lcp.forwards ++
        [{ beat := s.now, limit := if toPartner then 0 else 4 * s.get F.forwardTimeout
           req := { sess := p.sess, op := opCode o, flags := 32 + p.flags % 32, seq := p.seq, epoch := p.epoch, status := 0
                    hopLen := rest.length, hops := rest, tlvs := p.tlvs } }] } }
  | .go _ => s

/-- What an opcode answers: the state after it, a status, reply TLVs, and whether the reply continues (MORE, R386). -/
structure Ans where
  st : State
  status : Nat := 0
  tlvs : List Tlv := []
  more : Bool := false

/-- An S opcode (R410): checked, served on receipt, one final reply. -/
def served (o : Op) (p : Packet) (check : UnitSel → State → Chk) (body : UnitSel → State → Ans) (s : State) : State :=
  match admission o p s with
  | .go u =>
    let s := s.noteSeq p
    match (permit o p u s).andThen (check u s) with
    | .bad st tl => s.answer (mkReply o p s (some u) 0 st tl)
    | .ok =>
      let a := body u s
      a.st.answer (mkReply o p a.st (some u) (if a.more then 8 else 0) a.status a.tlvs)
  | a => turnedAway o p a s

/-- An S opcode that changes state (R416): its reply leaves with the tracking close that carries the change, after the
commit of its records. -/
def servedTracked (o : Op) (p : Packet) (check : UnitSel → State → Chk) (body : UnitSel → State → Ans) (s : State) :
    State :=
  match admission o p s with
  | .go u =>
    let s := s.noteSeq p
    match (permit o p u s).andThen (check u s) with
    | .bad st tl => s.answer (mkReply o p s (some u) 0 st tl)
    | .ok =>
      let a := body u s
      a.st.answerHeld (mkReply o p a.st (some u) (if a.more then 8 else 0) a.status a.tlvs)
  | a => turnedAway o p a s

/-- The first beat for which a command stamped at `off` in the current beat is eligible: the stamp lies at least 5 µs before
its edge (R47), which a step edge sets later (R30). -/
def State.eligible (s : State) (off : Nat) : Nat := if off + 1000 ≤ s.beatLen then s.nextBeat else s.nextBeat + 1

/-- The first beat from `n` on that is a multiple of `b` (R48). -/
def alignUp (n b : Nat) : Nat := (n + b - 1) / b * b

/-- Beats per cycle of a class (R42). -/
def classBeats (c : Nat) : Nat :=
  match c with
  | 0 => 1
  | 1 => 4
  | 2 => 40
  | 3 => 400
  | _ => 4000

/-- A P opcode has one reply, after application (R391). -/
def queuedP (o : Op) : Bool := (opSpec o).kind == .p

/-- What the replies of a GONG add on a pair that is not TIME_LOCKED: its ModuleStatus word, in which TIME_LOCKED reads 0 (R54;
DESIGN CHOICE, log entry 48). -/
def lockTlvs (o : Op) (s : State) : List Tlv :=
  if o = .gong ∧ s.get F.timeLocked = 0 then [packObj s 0x0010 0 0] else []

/-- A command joins the queue of the Freeze. -/
def State.enqueue (s : State) (q : QCmd) : State := { s with lcp := { s.lcp with queue := s.lcp.queue ++ [q] } }

/-- An F or P opcode (R410): checked, queued for its apply beat, answered ACCEPTED (F) or after the Freeze (P). -/
def queued (o : Op) (p : Packet) (check : UnitSel → State → Chk) (applyAt : UnitSel → State → Nat) (s : State) : State :=
  match admission o p s with
  | .go u =>
    let s := s.noteSeq p
    match (permit o p u s).andThen (check u s) with
    | .bad st tl => s.answer (mkReply o p s (some u) 0 st tl)
    | .ok =>
      let n := applyAt u s
      let own := match s.session? p.sess with | some x => x.prio | none => 0
      let from_ := p.origin.getD (own, s.now)
      let q : QCmd := { op := o, pkt := p, prio := from_.1, beat := from_.2, apply := n, epoch := s.epochOf u }
      let s := s.enqueue q
      if queuedP o then s else s.answerHeld (mkReply o p s (some u) 0 stAccepted (applyBeatTlv n :: lockTlvs o s))
  | a => turnedAway o p a s

/-- A queued command whose unit's epoch has changed is not applied (R364): a LATE EPOCH_MISMATCH with the new epoch and role. -/
def State.lateEpoch (s : State) (q : QCmd) (u : UnitSel) : State :=
  let tl := [tlvPacked 0x8005 [(4, s.epochOf u), (1, s.roleCodeOf u)]]
  s.answerHeld (mkReply q.op q.pkt s (some u) (if queuedP q.op then 0 else 2) stEpochMismatch tl)

/-- The reply after application (R391): for an F opcode LATE, only where application failed or CONFIRM was set. -/
def State.afterFreeze (s : State) (q : QCmd) (status : Nat) (tlvs : List Tlv) : State :=
  let u := match resolve s q.pkt with | .unit u => some u | .fail _ _ => none
  let s := if status = stConflict then s.inc F.conflicts else s
  if queuedP q.op then s.answerHeld (mkReply q.op q.pkt s u 0 status tlvs)
  else if status = stOk ∧ !bitOf q.pkt.flags 4 then s
  else s.answerHeld (mkReply q.op q.pkt s u 2 status (tlvs ++ lockTlvs q.op s))

end Sys2Proof.Machine
end

