-- ==== Sys2Proof/Machine/Runtime.lean ====
section
/-! DEFINITION. The control runtime: named values, the input image, tasks and classes, publication and commit of
outputs, restarts and the Retain partition (R42, R73, R79 to R112, R579). -/

namespace Sys2Proof.Machine

open Sys2Proof

/-! Named values (R82, R83, R418). -/

/-- Bytes of an elementary type (R418). -/
def tyBytes : ValTy → Nat
  | .bool | .u8 | .i8 => 1
  | .u16 | .i16 => 2
  | .u32 | .i32 | .f32 => 4
  | .u64 | .i64 | .f64 => 8

/-- The number a raw value of a type stands for. -/
def valNum (ty : ValTy) (v : Nat) : Rat :=
  match ty with
  | .bool | .u8 | .u16 | .u32 | .u64 => (v : Rat)
  | .i8 => (toSigned 8 v : Rat)
  | .i16 => (toSigned 16 v : Rat)
  | .i32 => (toSigned 32 v : Rat)
  | .i64 => (toSigned 64 v : Rat)
  | .f32 => f32 v
  | .f64 => f64 v

/-- The raw value of a type nearest to a number (DESIGN CHOICE, log entry 5). -/
def valOf (ty : ValTy) (r : Rat) : Nat :=
  let n : Int := if r < 0 then -((roundNat (-r) : Nat) : Int) else ((roundNat r : Nat) : Int)
  match ty with
  | .bool => if r = 0 then 0 else 1
  | .u8 | .i8 => ofSigned 8 n
  | .u16 | .i16 => ofSigned 16 n
  | .u32 | .i32 => ofSigned 32 n
  | .u64 | .i64 => ofSigned 64 n
  | .f32 => toF32 r
  | .f64 => toF64 r

/-- A raw value a type can hold: BOOL 0 or 1, a float finite. -/
def valFits (ty : ValTy) (v : Nat) : Bool :=
  match ty with
  | .bool => decide (v ≤ 1)
  | .f32 => !f32Bad v
  | .f64 => v / 2 ^ 52 % 2048 != 2047
  | _ => true

/-- The handle of a value (R82). -/
def handleOf (v : ValDef) : Nat := v.idx + v.home * 2 ^ 22 + v.kind * 2 ^ 25

/-- The symbol table entry of an INDEX. -/
def RtSt.entry? (rt : RtSt) (idx : Nat) : Option ValDef :=
  match rt.prog with
  | some p => p.vals.find? (fun v => v.idx == idx)
  | none => none

/-- The entry a handle names, or none where R83 refuses it. -/
def RtSt.handle? (rt : RtSt) (h : Nat) : Option ValDef :=
  match rt.entry? (h % 2 ^ 22) with
  | some v => if handleOf v = h then some v else none
  | none => none

/-- The program of a cluster (R191): Y and Z have their own on a SPLIT module. -/
def State.rtOf (s : State) (c : Nat) : RtSt := match c with | 1 => s.rtY | 2 => s.rtZ | _ => s.rt

/-- Replaces the runtime of a cluster. -/
def State.putRt (s : State) (c : Nat) (rt : RtSt) : State :=
  match c with
  | 1 => { s with rtY := rt }
  | 2 => { s with rtZ := rt }
  | _ => { s with rt := rt }

/-! The clusters of a SPLIT module (R190, R191). -/

/-- A register that shows a program: class budget, RuntimeStatus but the generation, tasks, loop engine, groups. -/
def isClusterKey (key : Nat) : Bool :=
  let o := key / 4194304
  o == 0xD000 || (o == 0xD001 && key % 4194304 / 16384 != 1) || (decide (0xD010 ≤ o) && decide (o < 0xD030)) || o == 0x8000
    || (decide (0x8200 ≤ o) && decide (o < 0x8400))

/-- A register of a cluster's own copy takes its place. -/
def takeClusterReg (l : List (Nat × Nat)) (c : Nat × Nat) : List (Nat × Nat) :=
  match objMap.flatten.find? (fun f => decide (f.home ≤ c.1) && (c.1 - f.home) % 4194304 == 0
    && decide ((c.1 - f.home) / 4194304 < f.cnt)) with
  | some f => if isClusterKey c.1 then regPut l c.1 (c.2 % 2 ^ f.w) else l
  | none => l

/-- The program of cluster `c` and the one that stands in the place of X's change places. -/
def State.swapCluster (s : State) (c : Nat) : State :=
  let k := if c = 1 then s.triad.y else s.triad.z
  let mine : ClusterSt := {
    loops := s.loops, slice := s.beat.slice, used := s.beat.used, peakLog := s.beat.peakLog
    regs := s.regs.filter (fun r => isClusterKey r.1) }
  let t := if c = 1 then { s.triad with y := mine } else { s.triad with z := mine }
  { s.putRt c s.rt with
    rt := s.rtOf c
    loops := k.loops
    beat := { s.beat with slice := k.slice, used := k.used, peakLog := k.peakLog }
    regs := k.regs.foldl takeClusterReg (s.regs.filter (fun r => !isClusterKey r.1))
    triad := { t with cur := if s.triad.cur = c then 0 else c } }

/-- A SPLIT module's cluster that runs its own program (R190). -/
def State.splitRuns (s : State) (c : Nat) : Bool := s.get F.triad == 2 && !bitOf (s.get F.isolated) c

/-- An action on the program of cluster `c`: X's is the module's own; Y's and Z's are there in SPLIT (R191). -/
def State.onCluster (s : State) (c : Nat) (f : State → State) : State :=
  if c = 0 then f s else if s.splitRuns c then (f (s.swapCluster c)).swapCluster c else s

/-- An action on every cluster's program. -/
def State.onClusters (s : State) (f : State → State) : State := ((f s).onCluster 1 f).onCluster 2 f

/-- Substitute of a point whose station has failed, or has not been present (R104). -/
def substOf (v : ValDef) (good : Option Nat) : Nat :=
  match v.subst with
  | .hold => match good with | some g => g | none => if v.digital then 0 else v.safeVal
  | .fixed => v.fixedVal
  | .safe => if v.digital then 0 else v.safeVal

/-- Value of a list by INDEX. -/
def valAt (l : List (Nat × Nat)) (idx : Nat) : Option Nat := (l.find? (fun p => p.1 == idx)).map (fun p => p.2)

/-- A value as the program and hosts read it, with its quality byte (R85, R94 to R97, R103). -/
def RtSt.read (rt : RtSt) (v : ValDef) : Nat × Nat :=
  let base : Nat × Nat :=
    if v.kind = 3 then
      match rt.image.find? (fun p => p.idx == v.idx) with
      | some p => (p.val, p.q)
      | none => (substOf v none, 3)
    else if v.kind = 4 then ((valAt rt.outs v.idx).getD v.safeVal, 0)
    else if v.kind = 2 then ((valAt rt.overlay v.idx).getD v.init, 0)
    else ((valAt rt.published v.idx).getD v.init, 0)
  match valAt rt.forces v.idx with
  | some f => (f, if bitOf base.2 2 then base.2 else base.2 + 4)
  | none => base

/-- The value of an INDEX, 0 where the program has none. -/
def RtSt.readIdx (rt : RtSt) (idx : Nat) : Nat × Nat :=
  match rt.entry? idx with
  | some v => rt.read v
  | none => (0, 0)

/-- RuntimeStatus follows the runtime of the module's program (R111, R112). STEPPING stands from the Freeze that applies the
step request to the end of the stepped cycle (DESIGN CHOICE, log entry 46). -/
def State.showRuntime (s : State) : State :=
  let spilled := (List.range 32).any (fun t => s.get F.taskState t == 3)
  ((((((s.putFlag F.program s.rt.prog.isSome).putFlag F.forcedAny (!s.rt.forces.isEmpty)).put F.forceCount
    s.rt.forces.length).putFlag F.spilling spilled).putFlag F.substituted
    (s.rt.image.any (fun p => p.q % 4 == 2))).putFlag F.stepping s.rt.stepClass.isSome).put F.overlayCount
    s.rt.overlay.length

/-! Classes and tasks (R42, R84 to R91). -/

/-- Beat `n` is a release beat of class `c`; beat `n` ends a cycle of it (R42). -/
def releases (n c : Nat) : Bool := n % classBeats c == 0
def cycleEnds (n c : Nat) : Bool := (n + 1) % classBeats c == 0

/-- The task table of the program. -/
def RtSt.taskDef? (rt : RtSt) (t : Nat) : Option TaskDef :=
  match rt.prog with
  | some p => p.tasks.find? (fun d => d.id == t)
  | none => none

/-- Insertion into a list of tasks by order number, then task ID (R84). -/
def insertTask (d : TaskDef) : List TaskDef → List TaskDef
  | [] => [d]
  | e :: t => if d.order < e.order ∨ (d.order = e.order ∧ d.id < e.id) then d :: e :: t else e :: insertTask d t

/-- The CYCLIC tasks of a class in order. -/
def RtSt.cyclic (rt : RtSt) (c : Nat) : List TaskDef :=
  match rt.prog with
  | some p => (p.tasks.filter (fun d => d.cls == c && !d.isError)).foldr insertTask []
  | none => []

/-- Insertion of an owed error-task run: failures first, then returns, each by ascending station (R105). -/
def insertErr (e : Nat × Nat) : List (Nat × Nat) → List (Nat × Nat)
  | [] => [e]
  | f :: t => if e.2 < f.2 ∨ (e.2 = f.2 ∧ e.1 < f.1) then e :: f :: t else f :: insertErr e t

/-- The error task of a station, and its class. -/
def RtSt.errTask (rt : RtSt) (station : Nat) : Option TaskDef :=
  match rt.prog with
  | some p =>
    match p.stations.find? (fun d => d.idx == station) with
    | some d => match d.errTask with | some t => rt.taskDef? t | none => none
    | none => none
  | none => none

/-- The error-task runs that class `c` owes, in order (R105). -/
def RtSt.errRuns (rt : RtSt) (c : Nat) : List RunE :=
  let mine := rt.errQ.filter (fun e => match rt.errTask e.1 with | some d => d.cls == c | none => false)
  (mine.foldr insertErr []).filterMap (fun e =>
    (rt.errTask e.1).map (fun d => { task := d.id, reason := e.2, station := e.1 }))

/-- The runs of a class in the queue. -/
def RtSt.runsOf (rt : RtSt) (c : Nat) : List RunE :=
  rt.runQ.filter (fun e => match rt.taskDef? e.task with | some d => d.cls == c | none => false)

/-- The UnitRef of a station of the I/O map (R105, R355): its hops from the pair. -/
def State.stationRef (s : State) (d : StationDef) : List Nat :=
  match d.wsl with
  | some n => [0x0200 + n]
  | none =>
    match d.lane with
    | some k => if s.get F.laneMode k = 3 then [0x0100 + k, d.addr] else [0x0100 + k]
    | none => []

/-- ERROR_UNIT of a run: the UnitRef of the station of an INDEX. -/
def State.errorRef (s : State) (station : Nat) : List Nat :=
  match s.rt.prog with
  | some p => match p.stations.find? (fun d => d.idx == station) with | some d => s.stationRef d | none => []
  | none => []

/-- The class at whose head the queue stands starts its next task: STATE 1 and, in an error task, the system values. -/
def State.startNext (s : State) (c : Nat) : State :=
  match s.rt.runsOf c with
  | [] => s
  | e :: _ =>
    let s := s.put F.taskState 1 e.task
    if e.reason = 0 then s else { s with rt := { s.rt with errorReason := e.reason, errorUnit := s.errorRef e.station } }

/-- The module computes (R42, R113): ROLE SOLO, ACTIVE or SHADOW, and no debug halt (R481). -/
def State.computes (s : State) : Bool :=
  let r := s.get F.role
  (r == rSolo || r == rActive || r == rShadow) && s.get F.haltState == 0

/-- The release beat of class `c` whose cycle starts in the current slot: the beat itself, but for R150: the slot after a
takeover by case 2 computes the beat before it, and the classes released in that slot's own beat start one slot later. -/
def State.releaseBeat? (s : State) (c : Nat) : Option Nat :=
  let n := s.now
  match s.pair.redo with
  | some m =>
    if n = m then none
    else if n = m + 1 then (if releases m c then some m else none)
    else if releases n c then some n
    else if n = m + 2 ∧ c ≠ 0 ∧ releases (m + 1) c then some (m + 1) else none
  | none => if releases n c then some n else none

/-- The classes released in the current beat: all in RUN, the stepped class in HOLD (R108). -/
def State.releasing (s : State) : List Nat :=
  let all := (List.range 5).filter (fun c => (s.releaseBeat? c).isSome)
  if !s.computes || s.rt.prog.isNone then []
  else if s.get F.mode = mRun then all
  else if s.get F.mode = mHold then
    all.filter (fun c => s.rt.stepClass == some c && !s.rt.stepRuns)
  else []

/-- The execution times of a task over its last 100 cycles. -/
def RtSt.execTimes (rt : RtSt) (t : Nat) : List Nat :=
  ((rt.execLog.find? (fun (p : Nat × List Nat) => p.1 == t)).map (fun p => p.2)).getD []

/-- A task's execution times are replaced, and EXEC_PEAK shows the highest (R87). -/
def State.putExec (s : State) (t : Nat) (log : List Nat) : State :=
  ({ s with rt := { s.rt with execLog := s.rt.execLog.filter (fun (p : Nat × List Nat) => p.1 != t) ++ [(t, log)] } }).put
    F.taskExecPeak (listMax log) t

/-- A cycle of class `c` begins: its tasks' execution times get a new entry, an ERROR task is idle again (R87). -/
def State.newCycle (s : State) (c : Nat) : State :=
  match s.rt.prog with
  | none => s
  | some p => (p.tasks.filter (fun d => d.cls == c)).foldl (fun (s : State) d =>
      let s := s.putExec d.id ((0 :: s.rt.execTimes d.id).take 100)
      if d.isError ∧ s.get F.taskState d.id = 2 then s.put F.taskState 0 d.id else s) s

/-- Class `c` is released (R84): owed error-task runs, the CYCLIC tasks in order, then the spilled ones (R90). -/
def State.releaseClass (s : State) (c : Nat) : State :=
  let tasks := s.rt.cyclic c
  let n := (s.releaseBeat? c).getD s.now
  let fresh := tasks.filter (fun d => s.get F.taskState d.id != 3)
  let spilled := tasks.filter (fun d => s.get F.taskState d.id == 3)
  let runs := s.rt.errRuns c ++ fresh.map (fun d => { task := d.id })
    ++ spilled.map (fun d => { task := d.id, spilled := true })
  let s := (s.newCycle c)
  let s := fresh.foldl (fun s d => (s.put F.taskLastRelease n d.id).put F.taskState 0 d.id) s
  let rt := s.rt
  let old := rt.runsOf c
  let s := { s with rt := { rt with
    runQ := rt.runQ.filter (fun e => !old.contains e) ++ runs
    errQ := rt.errQ.filter (fun e => match rt.errTask e.1 with | some d => d.cls != c | none => false)
    running := if rt.running.contains c then rt.running else rt.running ++ [c] } }
  s.startNext c

/-- What a class released now reads (R42, R85). -/
def RtSt.viewOf (rt : RtSt) (c : Nat) : ClassView :=
  { cls := c, image := rt.image, published := rt.published, forces := rt.forces }

/-- A class has a new view. -/
def newView (l : List ClassView) (v : ClassView) : List ClassView := l.filter (fun x => x.cls != v.cls) ++ [v]

/-- A class that is released reads, for its whole cycle, the image of its release beat and what is published by then
(R42, R85). -/
def RtSt.look (rt : RtSt) (c : Nat) : RtSt := { rt with seen := newView rt.seen (rt.viewOf c) }

/-- The runtime as the loop blocks of class `c` read it in its cycle. -/
def RtSt.seenBy (rt : RtSt) (views : List ClassView) (c : Nat) : RtSt :=
  match views.find? (fun v => v.cls == c) with
  | some v => { rt with image := v.image, published := v.published, forces := v.forces }
  | none => rt

/-- The release of the beat's classes, in class order. -/
def State.releaseAll (s : State) : State :=
  let cs := s.releasing
  let s := { s with rt := cs.foldl (fun (rt : RtSt) c => rt.look c) s.rt }
  let s := cs.foldl (fun (s : State) c => s.releaseClass c) s
  if s.get F.mode = mHold ∧ cs ≠ [] then { s with rt := { s.rt with stepRuns := true } } else s

/-- A task's writes reach its class (R85, R96): constants and input points are no task's to write, and a write to a
forced variable is discarded. -/
def RtSt.taskWrites (rt : RtSt) (ws : List (Nat × Nat)) : RtSt :=
  { rt with work := ws.foldl (fun l w =>
      match rt.entry? w.1 with
      | some v =>
        if v.kind = 2 ∨ v.kind = 3 then l
        else if v.kind ≠ 4 ∧ (valAt rt.forces v.idx).isSome then l
        else regPut l w.1 (w.2 % 256 ^ tyBytes v.ty)
      | none => l) rt.work }

/-- First number of the CAN system values among the numbers a program writes (DESIGN CHOICE, log entry 23): CAN_SEND of
object o at this number + o, CAN_RESUME 1,024 above (R335, R340). -/
abbrev canSysBase : Nat := 4194304 + 65536

/-- The system values of CAN objects that a list of writes sets. -/
def sysSets (ws : List (Nat × Nat)) : List Nat :=
  (ws.filter (fun w => decide (canSysBase ≤ w.1) && decide (w.1 < canSysBase + 2048) && w.2 != 0)).map
    (fun w => w.1 - canSysBase)

/-- First number of the mailbox words among the numbers that a program writes (DESIGN CHOICE, log entry 31): word w for
cluster c at this number + c × 65,536 + w (R22, R191). -/
abbrev mailBase : Nat := 4194304 + 131072

/-- What a program of a SPLIT module writes to the mailbox reaches the named cluster: X from Y and Z, and Y or Z from X
(R22). -/
def State.mailWrites (s : State) (ws : List (Nat × Nat)) : State :=
  if s.get F.triad ≠ 2 then s
  else
    let mine := ws.filter (fun w => decide (mailBase ≤ w.1) && decide (w.1 < mailBase + 3 * 65536)
      && ((s.triad.cur == 0) != ((w.1 - mailBase) / 65536 == 0)))
    { s with triad := { s.triad with
      mail := mine.foldl (fun l w => regPut l (s.triad.cur * 2 ^ 18 + (w.1 - mailBase)) w.2) s.triad.mail } }

/-- An INDEX among others, once. -/
def withIdx (l : List Nat) (i : Nat) : List Nat := if l.contains i then l else l ++ [i]

/-- A published value changes; a retained one is dirty until the T3 cycle ends and until each slot is next written (R98,
R100, R102). -/
def RtSt.setValue (rt : RtSt) (idx v : Nat) : RtSt :=
  let rt' := { rt with published := regPut rt.published idx v }
  match rt.entry? idx with
  | some d =>
    if d.kind = 1 ∧ valAt rt.published idx ≠ some v then
      { rt' with dirty := withIdx rt.dirty idx, dirtyA := withIdx rt.dirtyA idx, dirtyB := withIdx rt.dirtyB idx }
    else rt'
  | none => rt'

/-- What the tasks and loop blocks of a class have written for publication. -/
def RtSt.toPublish (rt : RtSt) (c : Nat) : List (Nat × Nat) :=
  rt.work.filter (fun w => match rt.entry? w.1 with | some v => v.home == c && v.kind != 4 | none => false)

/-- A value that a loop names has been written by a task. -/
def wroteOne (idxs : List Nat) (o : Option Nat) : Bool := match o with | some i => idxs.contains i | none => false

/-- The loops whose set-point, mode-request or output value a task has written keep that until their next release (R122). -/
def LoopSt.noteWrites (ls : LoopSt) (idxs : List Nat) : LoopSt :=
  { ls with loops := ls.loops.map (fun (l : LoopRt) =>
      { l with
        spNew := l.spNew || wroteOne idxs l.d.spVal
        reqNew := l.reqNew || wroteOne idxs l.d.modeReq
        outNew := l.outNew || wroteOne idxs l.d.outReq }) }

/-- Publishes what the tasks and loop blocks of a class have written. -/
def State.publish (s : State) (c : Nat) : State :=
  let mine := s.rt.toPublish c
  { s with
    rt := mine.foldl (fun (rt : RtSt) w => rt.setValue w.1 w.2) s.rt
    loops := s.loops.noteWrites (mine.map (fun w => w.1)) }

/-- In HOLD what ended tasks have written is published, and is no work any more but for outputs (R107). -/
def State.holdPublish (s : State) : State :=
  let s := (List.range 5).foldl (fun (s : State) c => s.publish c) s
  { s with rt := { s.rt with
      work := s.rt.work.filter (fun w => match s.rt.entry? w.1 with | some v => v.kind == 4 | none => false) } }

/-- The slice of class `c` in this beat is not over (R35, R43): Compute runs, no later class has run, and the class has a
slice. -/
def State.inSlice (s : State) (c : Nat) : Bool :=
  s.beat.computing && decide (s.beat.slice ≤ c) && s.get (F.sliceT0.next c) != 0

/-- The execution time of a cycle grows by that of a run that has ended (R87). -/
def addExec (exec : Nat) : List Nat → List Nat
  | [] => [exec]
  | x :: t => (x + exec) :: t

/-- In HOLD a class other than the stepped one runs only what was running when HOLD came (R107). -/
def State.held (s : State) (c : Nat) : Bool := s.get F.mode == mHold && s.rt.stepClass != some c

/-- A task ends (R84, R85, R87, R90): it leaves the queue, its writes reach its class, the next task of its class
starts, unless HOLD lets none start; then what it has written is published (R107). It ends only within its class's slice
(R43). -/
def State.endTask (s : State) (t : Nat) (writes : List (Nat × Nat)) (exec : Nat) : State :=
  match s.rt.taskDef? t with
  | none => s
  | some d =>
    match s.rt.runsOf d.cls with
    | [] => s
    | e :: _ =>
      if e.task ≠ t ∨ !s.inSlice d.cls then s
      else
        let rt := s.rt.taskWrites writes
        let s := { s with
          can := { s.can with sys := if s.triad.cur = 0 then (s.can.sys ++ sysSets writes).dedup else s.can.sys }
          beat := { s.beat with slice := d.cls } }
        let s := { s with rt := { rt with
          runQ := rt.runQ.erase e
          spills := rt.spills.filter (fun x => x.1 != t)
          errorReason := 0, errorUnit := [] } }
        let s := (s.put F.taskState 2 t).putExec t (addExec exec (s.rt.execTimes t))
        let s := if d.isError then s.inc F.taskErrorRuns t else s
        let s := if e.spilled then s else s.put F.taskSkips 0 t
        let s := if s.held d.cls then s.holdPublish else s.startNext d.cls
        (s.mailWrites writes).showRuntime

/-- The program of a SPLIT module's cluster Y or Z makes a cold restart (R192). -/
def RtSt.cold (rt : RtSt) : RtSt :=
  { rt with
    published := [], work := [], forces := [], runQ := [], errQ := [], late := [], withheld := [], unpublished := []
    stepClass := none, stepRuns := false, running := [], errorReason := 0, errorUnit := [], spills := []
    outs := (match rt.prog with
      | some p => (p.vals.filter (fun v => v.kind == 4)).foldl (fun l v => regPut l v.idx v.safeVal) []
      | none => []) }

/-- A loop block with the initial values of the program (R73, R123). An initial mode that is closed counts as entered from MAN
(DESIGN CHOICE, log entry 47). -/
def loopInit (d : LoopDef) : LoopRt :=
  { d := d, num := d.num, mode := d.mode0, req := d.mode0, target := d.spTarget, working := d.spWorking, out := d.out
    rf := d.out, manTarget := d.out }

/-- The cluster's tasks, values and loops begin anew. -/
def State.coldCluster (s : State) : State :=
  { s.dropCycles with
    rt := s.dropCycles.rt.cold
    loops := { s.loops with loops := s.loops.loops.map (fun (l : LoopRt) => loopInit l.d) } }

/-- A fault of cluster Y or Z of a SPLIT module: TRIAD_MISMATCH with the cluster and the cause, and its program starts cold
(R192). -/
def State.splitFault (s : State) (c cause : Nat) : State :=
  (s.raise 330 1 2 [(8, c), (32, s.now), (16, s.beat.off), (32, cause)]).coldCluster

/-- Class `c` overruns (R89): TASK_OVERRUN for each task named, its outputs of the cycle are not committed, and the module
stops in the next Freeze; on a SHADOW the shadow run ends. On a SPLIT module an overrun of Y or Z restarts that program, one
of X is of severity 4 and restarts the module (R192). -/
def State.overrunStops (s : State) (c : Nat) (tasks : List Nat) : State :=
  if s.triad.cur ≠ 0 then s.splitFault s.triad.cur 1
  else
  let split := s.get F.triad == 2
  let s := tasks.foldl (fun (s : State) t => s.raise (402 + t) 1 (if split then 4 else 3) [(3, c), (32, s.now)]) s
  let s := { s with rt := { s.rt with
    withheld := s.rt.withheld ++ [c], runQ := s.rt.runQ.filter (fun e => !(s.rt.runsOf c).contains e) } }
  if s.get F.role = rShadow then { s with pair := { s.pair with endShadow := true, overruns := s.pair.overruns ++ tasks } }
  else if split then s else s.cause .stop 4

/-- A run that R90 may carry over: a CYCLIC task marked skippable. -/
def RtSt.maySkip (rt : RtSt) (e : RunE) : Bool :=
  e.reason == 0 && (match rt.taskDef? e.task with | some d => d.skippable && !d.isError | none => false)

/-- SKIPS of a run's task has reached skip_limit. -/
def State.skipsOut (s : State) (e : RunE) : Bool := decide (s.get F.skipLimit e.task ≤ s.get F.taskSkips e.task)

/-- An unfinished task is SPILLED and keeps what its cycle reads (R90). -/
def State.spill (s : State) (c : Nat) (e : RunE) : State :=
  let view : Option ClassView := match s.rt.spills.find? (fun x => x.1 == e.task) with
    | some x => some x.2
    | none => s.rt.seen.find? (fun v => v.cls == c)
  let rest := s.rt.spills.filter (fun x => x.1 != e.task)
  let s := { s with rt := { s.rt with spills := match view with | some v => rest ++ [(e.task, v)] | none => rest } }
  s.put F.taskState 3 e.task

/-- A task below its limit is skipped: counted, TASK_SKIP, SPILLED (R90). -/
def State.skipTask (s : State) (c : Nat) (e : RunE) : State :=
  (((s.inc F.taskSkips e.task).inc F.taskSkipTotal e.task).spill c e).raise (402 + e.task) 2 1 [(3, c), (32, s.now)]

/-- The end of a cycle of class `c` with tasks unfinished (R88 to R90): one that is not skippable stops the module by R89; else
each is handled by the table of R90. -/
def State.overrun (s : State) (c : Nat) : State :=
  let left := s.rt.runsOf c
  let fixed := left.filter (fun e => !s.rt.maySkip e)
  if fixed ≠ [] then s.overrunStops c (fixed.map (fun e => e.task))
  else
    let out := left.filter (fun e => s.skipsOut e)
    let s := (left.filter (fun e => !s.skipsOut e)).foldl (fun (s : State) e => s.skipTask c e) s
    if out ≠ [] then (s.overrunStops c (out.map (fun e => e.task))).showRuntime
    else ({ s with rt := { s.rt with runQ := s.rt.runQ.filter (fun e => !left.contains e) } }).showRuntime

/-- The cycle of class `c` that ends in the current beat contains the slot a takeover cost (R150). -/
def State.lostIn (s : State) (c : Nat) : Bool :=
  match s.pair.lostSlot with
  | some m => cycleEnds s.now c && decide (m ≤ s.now) && decide (s.now < m + classBeats c)
  | none => false

/-- Every unfinished task of the class is carried over without a count (R150). -/
def State.spillAll (s : State) (c : Nat) : State :=
  let left := s.rt.runsOf c
  let s := left.foldl (fun (s : State) e => s.spill c e) s
  ({ s with rt := { s.rt with runQ := s.rt.runQ.filter (fun e => !left.contains e) } }).showRuntime

/-! Publication and commit (R85, R97, R107, R579). -/

/-- The cycle of a class ends with its slice of this beat: a cycle of the beat, or of the beat recomputed in it (R150). -/
def State.cycleOver (s : State) (c : Nat) : Bool :=
  cycleEnds s.now c || (match s.pair.redo with | some m => s.now == m + 1 && cycleEnds m c | none => false)

/-- The classes whose cycle ends in the current beat, or whose publication an abandoned Commit left open (R40). -/
def State.closingClasses (s : State) : List Nat :=
  (List.range 5).filter (fun c => (s.cycleOver c || s.rt.unpublished.contains c) && !s.rt.withheld.contains c)

/-- The values a Commit can publish: those of the cycles that end in the beat, and of ended cycles that an abandoned Commit
left open; the later cycle of a class stands in place of the earlier (R40). -/
def State.closingWork (s : State) : List (Nat × Nat) :=
  (s.rt.work.filter (fun w => match s.rt.entry? w.1 with | some v => s.cycleOver v.home | none => false)).foldl
    (fun l w => regPut l w.1 w.2) s.rt.late

/-- The values of the cycles that end in an abandoned Commit's beat are put by for the next one (R40). -/
def State.putByWork (s : State) (cs : List Nat) : State :=
  let mine := fun (w : Nat × Nat) => match s.rt.entry? w.1 with | some v => cs.contains v.home | none => false
  { s with rt := { s.rt with
    late := (s.rt.work.filter mine).foldl (fun l w => regPut l w.1 w.2) s.rt.late
    work := s.rt.work.filter (fun w => !mine w)
    unpublished := s.rt.unpublished ++ cs.filter (fun c => !s.rt.unpublished.contains c) } }

/-- The output points of the program. -/
def RtSt.outPoints (rt : RtSt) : List ValDef :=
  match rt.prog with
  | some p => p.vals.filter (fun v => v.kind == 4)
  | none => []

/-- Every output at its configured safe value (R55, R579). -/
def RtSt.safeOuts (rt : RtSt) : List (Nat × Nat) :=
  rt.outPoints.foldl (fun l v => regPut l v.idx v.safeVal) []

/-- The outputs committed by the classes of a list; a force takes the place of the program's value (R96). -/
def RtSt.commitOuts (rt : RtSt) (cs : List Nat) : List (Nat × Nat) :=
  rt.outPoints.foldl (fun l v =>
    match valAt rt.forces v.idx with
    | some f => regPut l v.idx f
    | none =>
      if cs.contains v.home then
        match valAt rt.work v.idx with
        | some w => regPut l v.idx w
        | none => l
      else l) rt.outs

/-- The outputs that loops drive. -/
def LoopSt.drivesOut (ls : LoopSt) (idx : Nat) : Bool := ls.loops.any (fun l => l.d.outVal == idx)

/-- The outputs a Commit assembles, by mode (R55, R97, R107). -/
def State.assembleOuts (s : State) : List (Nat × Nat) :=
  let m := s.get F.mode
  let closing := s.closingClasses
  if m = mStop then s.rt.safeOuts
  else if m = mRun then s.rt.commitOuts closing
  else if m = mHold then
    let pol := s.get F.holdPolicy
    let stepped := closing.filter (fun c => s.rt.stepClass == some c && s.rt.stepRuns)
    if pol = 1 then
      s.rt.outPoints.foldl (fun l v =>
        match valAt s.rt.forces v.idx with
        | some f => regPut l v.idx f
        | none =>
          if stepped.contains v.home then regPut l v.idx ((valAt s.rt.work v.idx).getD v.safeVal)
          else regPut l v.idx v.safeVal) []
    else
      s.rt.outPoints.foldl (fun l v =>
        match valAt s.rt.forces v.idx with
        | some f => regPut l v.idx f
        | none =>
          if stepped.contains v.home ∨ (pol = 2 ∧ closing.contains v.home ∧ s.loops.drivesOut v.idx) then
            match valAt s.rt.work v.idx with
            | some w => regPut l v.idx w
            | none => l
          else l) s.rt.outs
  else s.rt.outs

/-- The part of a Commit that the runtime carries out: values published, outputs committed (R35, R85). -/
def State.commitRuntime (s : State) : State :=
  let closing := s.closingClasses
  let work := s.rt.work
  let s := { s with rt := { s.rt with work := s.closingWork } }
  let outs := s.assembleOuts
  let m := s.get F.mode
  let pub := if m = mRun then closing
    else if m = mHold then closing.filter (fun c => (s.rt.stepClass == some c && s.rt.stepRuns) || s.get F.holdPolicy == 2)
    else []
  let s := pub.foldl (fun (s : State) c => s.publish c) s
  let rt := s.rt
  let stepDone := match rt.stepClass with | some c => rt.stepRuns && closing.contains c | none => false
  let rt := { rt with
    outs := outs
    work := work.filter (fun w => match rt.entry? w.1 with | some v => !(pub.contains v.home && s.cycleOver v.home) | none => false)
    late := []
    unpublished := []
    withheld := []
    stepClass := if stepDone then none else rt.stepClass
    stepRuns := if stepDone then false else rt.stepRuns }
  ({ s with rt := rt }).showRuntime

/-! Retained variables (R98 to R101). -/

/-- A number for each elementary type. -/
def tyCode : ValTy → Nat
  | .bool => 0 | .u8 => 1 | .u16 => 2 | .u32 => 3 | .u64 => 4 | .i8 => 5 | .i16 => 6 | .i32 => 7 | .i64 => 8
  | .f32 => 9 | .f64 => 10

/-- Key of a retained value in a slot: its handle and its type. -/
def retKey (v : ValDef) : Nat := tyCode v.ty * 2 ^ 32 + handleOf v

/-- The published retained values. -/
def RtSt.retained (rt : RtSt) : List (Nat × Nat) :=
  match rt.prog with
  | some p => (p.vals.filter (fun v => v.kind == 1)).foldl
      (fun l v => regPut l (retKey v) ((valAt rt.published v.idx).getD v.init)) []
  | none => []

/-- The bytes of a slot that its CRC covers: beat, generation and layout of the header, then each value behind its key. The
order of the bytes is the model's (DESIGN CHOICE, log entry 46). -/
def slotBytes (m : RetainSlot) : List Nat :=
  bytesOf 8 m.beat ++ bytesOf 4 m.gen ++ bytesOf 4 m.layout
    ++ m.vals.flatMap (fun (w : Nat × Nat) => bytesOf 8 w.1 ++ bytesOf 8 w.2)

/-- A slot is valid when its header is complete and its CRC-32C is correct (R98, R101). -/
def slotSound (m : RetainSlot) : Bool := m.valid && m.crc == crc32c (slotBytes m)

/-- The header is written last, with the CRC over the slot (R98). -/
def slotFinish (m : RetainSlot) : RetainSlot := { m with valid := true, crc := crc32c (slotBytes m) }

/-- A snapshot of them at beat `n`, keyed by handle and type. -/
def State.snapshotAt (s : State) (n : Nat) : RetainSlot :=
  slotFinish { beat := n, gen := s.get F.programGen, layout := (match s.rt.prog with | some p => p.layoutId | none => 0)
               vals := s.rt.retained }

/-- Bytes of retained values by INDEX. -/
def RtSt.bytesOfIdx (rt : RtSt) (l : List Nat) : Nat :=
  l.foldl (fun a i => match rt.entry? i with | some v => a + tyBytes v.ty | none => a) 0

/-- The dirty set of the slot that the next mirror goes to (R98, R100). -/
def RtSt.slotDirty (rt : RtSt) : List Nat := if rt.mirrorB then rt.dirtyB else rt.dirtyA

/-- The snapshot of R99 that ends the T3 cycle of beat `n`: skipped, with RETAIN_LATE, while the previous mirror is still
being written. -/
def State.takeSnapshot (s : State) (n : Nat) : State :=
  let s := s.peak F.dirtyPeak (s.rt.bytesOfIdx s.rt.dirty)
  let s := { s with rt := { s.rt with dirty := [] } }
  match s.rt.mirror with
  | some _ => (s.inc F.retainLateCount).raise 456 1 1 [(32, n)]            -- RETAIN_LATE
  | none =>
    { s with rt := { s.rt with
        mirror := some (s.snapshotAt n)
        dirtyA := if s.rt.mirrorB then s.rt.dirtyA else [], dirtyB := if s.rt.mirrorB then [] else s.rt.dirtyB } }

/-- A module that drives takes its snapshot at the Commit that ends a T3 cycle (R99); a SHADOW writes none, a READY STANDBY
takes it from its tracked state at the close of that beat (R101). -/
def State.retainSnapshot (s : State) : State :=
  if s.now % 400 ≠ 399 ∨ !s.computes ∨ s.get F.role = rShadow ∨ s.rt.prog.isNone then s else s.takeSnapshot s.now

/-- A snapshot is complete in its slot (R98): the header is written last, and the next mirror goes to the other slot. -/
def State.storeMirror (s : State) (m : RetainSlot) : State :=
  if s.rt.mirrorB then
    ({ s with rt := { s.rt with slotB := m, mirror := none, mirrorB := false } }).put F.slotBBeat m.beat
  else ({ s with rt := { s.rt with slotA := m, mirror := none, mirrorB := true } }).put F.slotABeat m.beat

/-- The slot a warm restart takes (R101): 1 A, 2 B, 0 none; and whether it is the older one. -/
def RtSt.retainChoice (rt : RtSt) : Nat × Bool :=
  let newestA := rt.slotB.beat ≤ rt.slotA.beat
  if newestA then (if slotSound rt.slotA then (1, false) else if slotSound rt.slotB then (2, true) else (0, false))
  else (if slotSound rt.slotB then (2, false) else if slotSound rt.slotA then (1, true) else (0, false))

/-- The retained values a slot gives the loaded program: whole where the layout is the same, else those whose handle and
type are unchanged (R101). -/
def RtSt.takeRetained (rt : RtSt) (slot : RetainSlot) : List (Nat × Nat) :=
  match rt.prog with
  | some p => (p.vals.filter (fun v => v.kind == 1)).foldl (fun l v =>
      let x := if slot.layout = p.layoutId
        then (slot.vals.find? (fun w => w.1 % 2 ^ 32 == handleOf v)).map (fun w => w.2)
        else valAt slot.vals (retKey v)
      match x with
      | some x => regPut l v.idx x
      | none => l) []
  | none => []

/-! Restarts and programs (R73, R74, R81, R107). -/

/-- The loop engine's status (R135). -/
def State.showLoops (s : State) : State :=
  let n := fun (c : Nat) => (s.loops.loops.filter (fun l => l.d.cls == c)).length
  let charged := (List.range 5).foldl (fun a c => a + n c * 150 * (4000 / classBeats c)) 0 / 4000
  (((s.put F.loopCount s.loops.loops.length).put F.t0Count (n 0)).put F.charged charged).put F.groupCount
    s.loops.groups.length

/-- A select group as the program gives it: INVERT, the positions present (R129, R136). -/
def State.showGroup (s : State) (g : GroupDef) : State :=
  let present := (g.members.mapIdx (fun i n => if s.loops.loops.any (fun l => l.d.num == n) then 2 ^ i else 0)).foldl (· + ·) 0
  (s.putFlag F.grpInvert g.invert g.num).put F.grpPresent present g.num

/-- A select group starts from the program's initial values (R123, R136). -/
def State.initGroup (s : State) (g : GroupDef) : State :=
  (((((s.showGroup g).put F.grpOut g.out0 g.num).put F.grpSelected 0 g.num).put F.grpMode 0 g.num).put F.grpNoneCompeting 0
    g.num).put F.grpCompeting 0 g.num

/-- The handle of an INDEX in the force table. -/
def RtSt.handleAt (rt : RtSt) (idx : Nat) : Nat := match rt.entry? idx with | some v => handleOf v | none => idx

/-- The forces of these INDEXes leave the force table, each with the tombstone of its record (R97, R437). -/
def State.clearForces (s : State) (gone : List Nat) : State :=
  gone.foldl (fun (s : State) i =>
    if (valAt s.rt.forces i).isSome then
      ({ s with rt := { s.rt with forces := unassoc s.rt.forces i } }).journal 7 (s.rt.handleAt i) 0 0 true true
    else s) s

/-- Every force is cleared. -/
def State.clearAllForces (s : State) : State := s.clearForces (s.rt.forces.map (fun f => f.1))

/-- A cold restart (R73): initial values, forces cleared, ownership released, transfers abandoned (R382), loops at the
program's initial values with their Journal coefficients, outputs at their safe values until a class commits. -/
def State.coldRestart (s : State) : State :=
  let s := s.dropCycles.clearAllForces
  let s := { s with
    rt := { s.rt with published := [], outs := s.rt.safeOuts, stepClass := none, stepRuns := false }
    lcp := { s.lcp with owners := [], transfers := [] }
    loops := { s.loops with loops := s.loops.loops.map (fun (l : LoopRt) => loopInit l.d) } }
  let s := s.loops.groups.foldl (fun (s : State) g => s.initGroup g) s
  ((s.put F.ownedHandles 0).put F.retainSource 0).showRuntime

/-- A warm restart (R73): retained variables from the Retain partition, other variables at initial values, forces,
ownership, loops and committed outputs kept. Without a valid slot it is a cold restart with RETAIN_INVALID (R74). -/
def State.warmRestart (s : State) : State :=
  let (n, older) := s.rt.retainChoice
  if n = 0 then
    (s.raise 454 1 2 [(8, if slotSound s.rt.slotA then 1 else 0), (8, if slotSound s.rt.slotB then 1 else 0)]).coldRestart
  else
    let s := if older then s.raise 455 1 1 [(8, n)] else s          -- RETAIN_STALE
    let s := s.dropCycles
    let slot := if n = 1 then s.rt.slotA else s.rt.slotB
    let s := { s with
      rt := { s.rt with published := s.rt.takeRetained slot, stepClass := none, stepRuns := false }
      loops := { s.loops with loops := s.loops.loops.map (fun (l : LoopRt) => { l with extWait := true }) } }
    (s.put F.retainSource n).showRuntime

/-- A restart of the program by its kind of R418: 0 WARM, 1 COLD. -/
def State.restartProgram (s : State) (kind : Nat) : State := if kind = 1 then s.coldRestart else s.warmRestart

/-- Coefficient of a loop that a Journal record replaces (R131, R132): field ID of R133. -/
def loopSetField (d : LoopDef) (field v : Nat) : LoopDef :=
  match field with
  | 0x06 => { d with gain := v }
  | 0x07 => { d with resetTime := v }
  | 0x08 => { d with rateTime := v }
  | 0x09 => { d with derivFilter := v }
  | 0x0A => { d with action := v % 256 }
  | 0x0B => { d with deadband := v }
  | 0x0C => { d with bias := v }
  | 0x0D => { d with spLo := v }
  | 0x0E => { d with spHi := v }
  | 0x0F => { d with rampUp := v }
  | 0x10 => { d with rampDown := v }
  | 0x11 => { d with outLo := v }
  | 0x12 => { d with outHi := v }
  | 0x13 => { d with outRate := v }
  | 0x14 => { d with spTrack := v % 256 }
  | 0x16 => { d with extGain := v }
  | 0x17 => { d with extOffset := v }
  | _ => d

/-- The coefficients of a loop with those that the Journal holds for it. -/
def withSaved (d : LoopDef) (saved : List (Nat × Nat)) : LoopDef :=
  (saved.filter (fun c => c.1 / 256 == d.num)).foldl (fun d c => loopSetField d (c.1 % 256) c.2) d

/-- A program replaces another: the Journal keeps the coefficients of a loop whose number and class are unchanged, unless the
program declares them replaced; the others go, each with the tombstone of its record (R132, R437). -/
def State.purgeCoeffs (s : State) (p : Program) : State :=
  let keep := fun (num : Nat) => !p.replaceCoeff.contains num &&
    p.loops.any (fun d => d.num == num && s.loops.loops.any (fun l => l.d.num == num && l.d.cls == d.cls))
  let gone := ((s.loops.saved.map (fun c => c.1 / 256)).filter (fun n => !keep n)).eraseDups
  let s := { s with loops := { s.loops with saved := s.loops.saved.filter (fun c => keep (c.1 / 256)) } }
  gone.foldl (fun (s : State) n => s.journal 4 n 0 0 true true) s

/-- The loops of a program, with the coefficients that the Journal holds for them (R132). -/
def loopsOf (p : Program) (old : List LoopRt) (saved : List (Nat × Nat)) (carryState : Bool) : List LoopRt :=
  p.loops.map (fun d =>
    let was := old.find? (fun l => l.d.num == d.num && l.d.cls == d.cls)
    let d := withSaved d saved
    match was with
    | some l => if carryState then { l with d := d } else loopInit d
    | none => loopInit d)

/-- No task stands in the task table: every entry of R86 at its default. -/
def State.noTasks (s : State) : State :=
  (List.range 32).foldl (fun (s : State) t =>
    (((s.put F.taskClass 0 t).put F.taskOrder 0 t).put F.taskKind 0 t).put F.skippable 0 t) s

/-- The tasks of a program stand in the task table (R86). -/
def State.showTasks (s : State) (p : Program) : State :=
  p.tasks.foldl (fun (s : State) d =>
    (((s.put F.taskClass d.cls d.id).put F.taskOrder d.order d.id).putFlag F.taskKind d.isError d.id).putFlag
      F.skippable d.skippable d.id) s

/-- No program is loaded: RuntimeStatus, the task table and RETAIN_SIZE show none (R86, R102, R112). -/
def State.noProgram (s : State) : State :=
  ((((s.noTasks.put F.codeSize 0).put F.dataSize 0).put F.valueCount 0).put F.taskCount 0).put F.retainSize 0

/-- A program is loaded into the module (R81): its slices, tasks, symbol table, streamed channels and loops take
effect (R45, R86, R112, R296). -/
def State.loadProgram (s : State) (p : Program) (carryState : Bool) : State :=
  let old := s.loops.groups
  let s := (List.range 5).foldl (fun s i => s.put (F.sliceT0.next i) (p.slices.getD i 0)) s
  let s := s.put F.sliceSum (p.slices.foldl (· + ·) 0)
  let s := (s.noTasks).showTasks p
  let s := ((((s.put F.codeSize p.code).put F.dataSize p.data).put F.valueCount p.vals.length).put F.taskCount
    p.tasks.length).put F.retainSize p.retained
  let s := if s.triad.cur = 0 then
      (List.range 8).foldl (fun (s : State) k => s.putFlag F.streamEn (bitOf p.streamed k) k) s else s
  let s := { s with
    rt := { s.rt with
      prog := some p
      published := if carryState then s.rt.published else []
      overlay := s.rt.overlay }
    loops := { s.loops with loops := loopsOf p s.loops.loops s.loops.saved carryState, groups := p.groups } }
  let had := fun (n : Nat) => carryState && old.any (fun (g : GroupDef) => g.num == n)
  let s := p.groups.foldl (fun (s : State) g => if had g.num then s.showGroup g else s.initGroup g) s
  s.showLoops.showRuntime

/-- Record 0x03 of a point (R104, R437, R579): an input's substitute and its values, an output's safe value. The order of its
fields is the model's (DESIGN CHOICE, log entry 46). -/
def pointRec (v : ValDef) : Nat × Nat :=
  if v.kind = 3 then
    (24, (match v.subst with | .hold => 0 | .fixed => 1 | .safe => 2) + v.fixedVal % 2 ^ 64 * 2 ^ 64
      + (if v.digital then 0 else v.safeVal % 2 ^ 64) * 2 ^ 128)
  else (8, v.safeVal % 2 ^ 64)

/-- A sub-index of the configuration as a program load leaves it in the Journal (R437 type 0x01). -/
def State.journalSub (s : State) (idx sub : Nat) : State :=
  let fs := subFields idx sub
  s.journalNew 1 (idx + sub * 65536) (subBytes fs) (subVal s fs idx) false

/-- A program load writes to the Journal, where they differ from what stands there, the substitutes and safe values of its
points and the configuration it carries: slices and streamed channels (R104, R437, R579). -/
def State.journalLoad (s : State) (p : Program) : State :=
  let s := (p.vals.filter (fun v => v.kind == 3 || v.kind == 4)).foldl (fun (s : State) v =>
    s.journalNew 3 (handleOf v) (pointRec v).1 (pointRec v).2 false) s
  let s := (List.range 5).foldl (fun (s : State) i => s.journalSub F.sliceT0.obj (F.sliceT0.sub + i)) s
  (List.range 8).foldl (fun (s : State) k => s.journalSub (F.streamEn.obj + k) F.streamEn.sub) s

/-! The checks of a staged program (R79, R80, R116, R422). -/

/-- Cascade depth and dependency level of a loop and of a group, by fuel (R581). -/
def loopDepth (p : Program) : Nat → Nat → Nat
  | 0, _ => 100
  | fuel + 1, num =>
    match p.loops.find? (fun d => d.num == num) with
    | none => 0
    | some d =>
      match d.primary with
      | none => 1
      | some q =>
        if d.primaryIsGroup then
          match p.groups.find? (fun g => g.num == q) with
          | none => 1
          | some g => listMax (g.members.map (loopDepth p fuel)) + 1
        else loopDepth p fuel q + 1

/-- Dependency level of a loop; a selection lies one above its deepest member (R581). -/
def loopLevel (p : Program) : Nat → Nat → Nat
  | 0, _ => 100
  | fuel + 1, num =>
    match p.loops.find? (fun d => d.num == num) with
    | none => 0
    | some d =>
      match d.primary with
      | none => 1
      | some q =>
        if d.primaryIsGroup then
          match p.groups.find? (fun g => g.num == q) with
          | none => 1
          | some g => listMax (g.members.map (loopLevel p fuel)) + 2
        else loopLevel p fuel q + 1

/-- The limits of R115 and R581 and the class rules of R124 and R127. -/
def loopsFit (p : Program) : Bool :=
  let n := fun (c : Nat) => (p.loops.filter (fun l => l.cls == c)).length
  let charged : Rat := (List.range 5).foldl (fun a c => a + ((n c * 150 : Nat) : Rat) / ((classBeats c : Nat) : Rat)) 0
  let clsOf := fun (q : Nat) (isG : Bool) =>
    if isG then (p.groups.find? (fun g => g.num == q)).map (fun g => g.cls)
    else (p.loops.find? (fun l => l.num == q)).map (fun l => l.cls)
  decide (charged ≤ 640000) && decide (p.loops.length ≤ 16384) && decide (n 0 ≤ 4096) && decide (p.groups.length ≤ 512)
    && p.groups.all (fun g => decide (2 ≤ g.members.length) && decide (g.members.length ≤ 8) &&
        g.members.all (fun m => clsOf m false == some g.cls) &&
        decide (listMax (g.members.map (loopLevel p 9)) + 1 ≤ 8))
    && p.loops.all (fun l => decide (loopDepth p 9 l.num ≤ 4) && decide (loopLevel p 9 l.num ≤ 8) &&
        (match l.primary with | some q => clsOf q l.primaryIsGroup == some l.cls | none => true))

/-- The DETAIL with which PROGRAM_CHUNK refuses a program (R80, R422), 0 where it is accepted. `written` of a value by
more than one class shows as two symbol entries of one INDEX with different home classes (DESIGN CHOICE, log entry 15). -/
def programDetail (p : Program) (issueBit : Nat) : Nat :=
  let skips := p.tasks.filter (fun t => t.skippable)
  let limits := decide (p.tasks.length ≤ 32) && decide (p.code ≤ 268435456) && decide (p.data ≤ 1610612736)
    && decide (p.vals.length ≤ 4194304) && decide (p.retained ≤ 32505856) && decide (skips.length ≤ 4)
    && skips.all (fun t => decide (2 ≤ t.cls) && decide (t.cls ≤ 4))
    && decide ((p.vals.filter (fun v => v.forceable && v.kind ≤ 1)).length ≤ 65536)
  let oneClass := p.vals.all (fun v => p.vals.all (fun w => !(v.idx == w.idx) || v.home == w.home))
  let slicesGiven := p.tasks.all (fun t => p.slices.getD t.cls 0 != 0)
  let errClass := p.stations.all (fun st =>
    match st.errTask, st.task with
    | some e, some t =>
      (p.tasks.find? (fun d => d.id == e)).map (fun d => d.cls) == (p.tasks.find? (fun d => d.id == t)).map (fun d => d.cls)
    | _, _ => true)
  let slicesFit := p.slices.all (fun x => decide (x ≤ 170)) && decide (p.slices.foldl (· + ·) 0 ≤ 170)
  if !p.wellFormed then 0x0108
  else if !limits then 0x0101
  else if !oneClass then 0x0102
  else if !slicesGiven then 0x0103
  else if !errClass then 0x0104
  else if !slicesFit then 0x0107
  else if !bitOf p.hwMask issueBit then 0x0106
  else if !loopsFit p then 0x0105
  else 0

end Sys2Proof.Machine
end

