-- ==== Sys2Proof/Machine/Loops.lean ====
section
/-! DEFINITION. The loop engine: the loop block, its modes and set-points, select groups, and the 0x06xx opcodes
(R113 to R137, R423). -/

namespace Sys2Proof.Machine

open Sys2Proof

/-! Access to blocks and groups. -/

/-- The block of a loop number. -/
def State.loop? (s : State) (num : Nat) : Option LoopRt := s.loops.loops.find? (fun l => l.d.num == num)

/-- Replaces a block. -/
def State.putLoop (s : State) (l : LoopRt) : State :=
  { s with loops := { s.loops with loops := s.loops.loops.map (fun m => if m.d.num == l.d.num then l else m) } }

/-- The group a loop belongs to. -/
def State.groupOf (s : State) (l : LoopRt) : Option GroupDef :=
  match l.d.group with
  | some g => s.loops.groups.find? (fun x => x.num == g)
  | none => none

/-- Cycle of a class in seconds (R118). -/
def classDt (c : Nat) : Rat := ((classBeats c * 250 : Nat) : Rat) / 1000000

/-- LOOP_MODE_CHANGE and the fields of a mode change (R123, R137). `cause`: 1 command, 2 program, 3 track switch, 4 shed,
5 external source lost (DESIGN CHOICE, log entry 8). -/
def State.loopMode (s : State) (l : LoopRt) (mode cause : Nat) : State × LoopRt :=
  if l.mode = mode then (s, l)
  else
    (s.raise 441 1 0 [(16, l.d.num), (32, s.now), (3, l.mode), (3, mode), (8, cause)],
     { l with mode := mode, manTarget := l.out, extWait := true })

/-- A mode request by a host or the program (R120, R122, R125): it clears SHED and EXT_LOST, and waits while TRACK lasts. -/
def State.requestMode (s : State) (l : LoopRt) (mode cause : Nat) : State × LoopRt :=
  let l := { l with req := mode, shed := false, extLost := false }
  if l.mode = 4 then (s, l) else s.loopMode l mode cause

/-- A value named by a track switch or mode request: an INDEX, or 4,194,304 + source ID for an event flag among `flags`
(R451). -/
def State.switchValue (s : State) (flags : List Nat) (idx : Nat) : Nat :=
  if idx < 4194304 then (s.rt.readIdx idx).1
  else if flags.contains (idx - 4194304) then 1 else 0

/-- An event flag is cleared by the execution that reads it set (R451). -/
def State.readFlag (s : State) (flags : List Nat) (idx : Nat) : State :=
  if idx < 4194304 ∨ !flags.contains (idx - 4194304) then s
  else { s with ev := { s.ev with loopFlags := s.ev.loopFlags.filter (fun x => x != idx - 4194304) } }

/-! Set-points (R121, R124 to R126). -/

/-- The working set-point moves toward the clamped target (R126). -/
def rampSp (l : LoopRt) (dt : Rat) : LoopRt :=
  let lo := f32 l.d.spLo
  let hi := f32 l.d.spHi
  let t := clampR (f32 l.target) lo hi
  let w := clampR (f32 l.working) lo hi
  let up := f32 l.d.rampUp
  let down := f32 l.d.rampDown
  let w' := if w < t then (if up = 0 then t else minR t (w + up * dt))
    else if t < w then (if down = 0 then t else maxR t (w - down * dt)) else w
  { l with working := toF32 w', ramping := decide (f32 (toF32 w') ≠ t)
           spClamped := decide (f32 l.target < lo) || decide (hi < f32 l.target) }

/-- The output of a loop's primary in percent (R124). -/
def State.primaryOut (s : State) (l : LoopRt) : Rat :=
  match l.d.primary with
  | none => 0
  | some q =>
    if l.d.primaryIsGroup then f32 (s.get F.grpOut q)
    else match s.loop? q with | some m => f32 m.out | none => 0

/-- Kind and channel of a loop's external source (R125, R133). -/
def extKind (d : LoopDef) : Nat := d.extSource / 2 ^ 28
def extChan (d : LoopDef) : Nat := d.extSource % 2 ^ 28

/-- A DIO channel reports a diagnostic. -/
def State.dioDiag (s : State) (ch : Nat) : Bool :=
  s.flag F.dioOverload ch || s.flag F.dioOpenWire ch || s.flag F.dioOvertemp ch || s.flag F.dioExtDrive ch

/-- ENC_ILLEGAL has been raised on an ENC channel (kind 1), or a DIO channel reports a diagnostic (kind 2): the rate of this
cycle is STALE for every loop that reads the channel (R125). -/
def State.spoilRate (s : State) (kind ch : Nat) : State :=
  { s with loops := { s.loops with loops := s.loops.loops.map (fun (l : LoopRt) =>
      if extKind l.d = kind ∧ extChan l.d = ch then { l with badNow := true } else l) } }

/-- The counter of a rate source. -/
def State.rateCount (s : State) (d : LoopDef) : Nat :=
  if extKind d = 1 then s.get F.encCount (extChan d) else if extKind d = 2 then s.get F.dioEdgeCount (extChan d) else 0

/-- At each release the counts of the cycle that ends are kept, whether or not the loop executes (R125). -/
def State.sampleRate (s : State) (l : LoopRt) : LoopRt :=
  { l with
    count0 := l.count1, count1 := s.rateCount l.d, bad := l.badNow
    badNow := extKind l.d == 2 && s.dioDiag (extChan l.d) }

/-- The external source (R125): its value and its QUALITY. -/
def State.extSource (s : State) (l : LoopRt) : Rat × Nat :=
  let dt := classDt l.d.cls
  let q := if l.extWait ∨ l.bad then 1 else 0
  if extKind l.d = 0 then
    match s.rt.entry? (extChan l.d % 2 ^ 22) with
    | some v =>
      let (x, q) := s.rt.read v
      (valNum v.ty x, (if bitOf q 2 then 0 else q % 4))
    | none => (0, 3)
  else if extKind l.d = 1 then ((toSigned 64 ((l.count1 + 2 ^ 64 - l.count0) % 2 ^ 64) : Rat) / dt, q)
  else (((((l.count1 + 2 ^ 32 - l.count0) % 2 ^ 32 : Nat)) : Rat) / dt, q)

/-- The set-point of one execution (R121, R124 to R126), with the events of a lost source and of a clamp that begins to
bite. `pvEu` is the process value in engineering units. -/
def State.loopSetpoint (s : State) (l : LoopRt) (pvEu : Rat) : State × LoopRt :=
  let dt := classDt l.d.cls
  let clampEvent := fun (s : State) (l0 l1 : LoopRt) =>
    if l1.spClamped && !l0.spClamped then
      s.raise 437 1 0 [(16, l1.d.num), (32, s.now),
        (32, toF32 (clampR (f32 l1.target) (f32 l1.d.spLo) (f32 l1.d.spHi)))]   -- LOOP_SP_CLAMPED
    else s
  -- CASC or EXT to AUTO: sp_target takes sp_working (R123)
  let l := if l.mode == 1 && (l.last == 2 || l.last == 3) then { l with target := l.working } else l
  if l.mode = 2 ∧ (l.last = 1 ∨ l.last = 3) then
    (s, { l with ramping := false, spClamped := false })      -- AUTO or EXT to CASC: sp_working keeps its value (R123)
  else if l.mode = 2 then
    let lo := f32 l.d.spLo
    let hi := f32 l.d.spHi
    (s, { l with working := toF32 (lo + s.primaryOut l * (hi - lo) / 100), ramping := false, spClamped := false })
  else if l.mode = 3 then
    let (x, q) := s.extSource l
    let l := { l with extWait := false }
    if q = 2 ∨ q = 3 then
      let s := s.raise 436 1 1 [(16, l.d.num), (32, s.now), (32, l.d.extSource)]  -- LOOP_EXT_LOST
      let (s, l) := s.loopMode { l with target := l.working, extLost := true } 1 5
      let l1 := rampSp l dt
      (clampEvent s l l1, l1)
    else
      let l := if q = 1 then l else { l with target := toF32 (f32 l.d.extGain * x + f32 l.d.extOffset) }
      let l1 := rampSp l dt
      (clampEvent s l l1, l1)
  else if l.mode = 1 then
    let l1 := rampSp l dt
    (clampEvent s l l1, l1)
  else if l.d.spTrack = 1 then (s, { l with working := toF32 pvEu, ramping := false, spClamped := false })
  else (s, rampSp l dt)

/-! The PID (R118, R119, R123). -/

/-- A value moved toward a goal at a rate; a rate of 0 does not limit. -/
def rateLimit (prev goal rate dt : Rat) : Rat :=
  if rate = 0 then goal else clampR goal (prev - rate * dt) (prev + rate * dt)

/-- The reset feedback of the previous execution (R119). -/
def State.resetFeedback (s : State) (l : LoopRt) : Rat :=
  let secs := s.loops.loops.filter (fun (m : LoopRt) =>
    match m.d.primary with
    | some q => if m.d.primaryIsGroup then l.d.group == some q else q == l.d.num
    | none => false)
  let lowest := fun (ms : List LoopRt) =>
    ms.foldl (fun (a : Option LoopRt) m => match a with
      | none => some m
      | some b => if m.d.num < b.d.num then some m else some b) none
  let pick := match lowest (secs.filter (fun m => m.last == 2)) with
    | some m => some m
    | none => lowest secs
  match pick with
  | some m =>
    let lo := f32 m.d.spLo
    let hi := f32 m.d.spHi
    100 * (f32 m.working - lo) / (hi - lo)
  | none =>
    match l.d.group with
    | some g => f32 (s.get F.grpOut g)
    | none => f32 l.out

/-- The process value in percent (R118). -/
def pvPercent (d : LoopDef) (eu : Rat) : Rat := 100 * (eu - f32 d.pvLo) / (f32 d.pvHi - f32 d.pvLo)

/-- One execution in a closed mode: candidate, lag and derivative (R118), or their initialisation (R123). -/
def pidStep (l : LoopRt) (pv rf : Rat) : LoopRt :=
  let d := l.d
  let dt := classDt d.cls
  let sp := pvPercent d (f32 l.working)
  let e0 := sp - pv
  let db := f32 d.deadband
  let e := if (if e0 < 0 then -e0 else e0) ≤ db then 0 else e0
  let sg : Rat := if d.action = 0 then 1 else -1
  let p := sg * f32 d.gain * e
  let lo := f32 d.outLo
  let hi := f32 d.outHi
  let first := l.last == 0 || l.last == 4
  let dTerm := if first then 0
    else if f32 d.rateTime > 0 then
      let tf := f32 d.derivFilter * f32 d.rateTime
      (tf * f32 l.dTerm - sg * f32 d.gain * f32 d.rateTime * (pv - f32 l.pvPrev)) / (tf + dt)
    else 0
  let f := if first then f32 l.out - p
    else if f32 d.resetTime > 0 then f32 l.f + dt / (f32 d.resetTime + dt) * (rf - f32 l.f)
    else f32 d.bias
  let cand := if first then f32 l.out else clampR (p + dTerm + f) lo hi
  { l with dTerm := toF32 dTerm, f := toF32 f, cand := toF32 cand, pvPrev := toF32 pv, rf := toF32 rf
           outLimited := decide (cand ≤ lo) || decide (hi ≤ cand), competes := true }

/-- The output of a block outside a group: the candidate, limited in rate (R118). -/
def freeOut (l : LoopRt) : LoopRt :=
  let o := rateLimit (f32 l.out) (f32 l.cand) (f32 l.d.outRate) (classDt l.d.cls)
  { l with out := toF32 o, rateLimited := decide (o ≠ f32 l.cand) }

/-- The output in MAN (R121): what was asked for, within the limits, at out_rate. -/
def manOut (l : LoopRt) : LoopRt :=
  let goal := clampR (f32 l.manTarget) (f32 l.d.outLo) (f32 l.d.outHi)
  let o := rateLimit (f32 l.out) goal (f32 l.d.outRate) (classDt l.d.cls)
  { l with out := toF32 o, rateLimited := decide (o ≠ goal), outLimited := false }

/-- The output a loop or group delivers to its named value: over the range of an output point, else in percent (R118). -/
def State.deliverOut (s : State) (idx : Nat) (out : Rat) : State :=
  match s.rt.entry? idx with
  | some v =>
    let r := if v.kind = 4 then
        valNum v.ty v.rangeLo + out * (valNum v.ty v.rangeHi - valNum v.ty v.rangeLo) / 100 else out
    { s with rt := s.rt.taskWrites [(idx, valOf v.ty r)] }
  | none => s

/-! Select groups (R127 to R129). -/

/-- The better of two candidates (position, value): the lower value, then the lower position. -/
def betterCand (a : Option (Nat × Rat)) (b : Nat × Rat) : Option (Nat × Rat) :=
  match a with
  | none => some b
  | some x => if b.2 < x.2 ∨ (b.2 = x.2 ∧ b.1 < x.1) then some b else some x

/-- A loop in a closed mode (R118). -/
def loopClosed (l : LoopRt) : Bool := l.mode == 1 || l.mode == 2 || l.mode == 3

/-- A group's selection has run in the cycle. -/
def LoopSt.hasSelected (ls : LoopSt) (g : Nat) : Bool := ls.selected.contains g

/-- The selection of a group may run (R117): not yet in this cycle, and after every member but one that is cut and does not
compete. -/
def State.canSelect (s : State) (g : GroupDef) : Bool :=
  !s.loops.hasSelected g.num &&
    g.members.all (fun n => match s.loop? n with | some l => l.ran || (l.cut && !loopClosed l) | none => true)

/-- The selection of a group (R117, R127 to R129). -/
def State.selectGroup (s : State) (g : GroupDef) : State :=
  if !s.canSelect g then s
  else
    let s := { s with loops := { s.loops with selected := s.loops.selected ++ [g.num] } }
    let members := g.members.mapIdx (fun i n => (i, s.loop? n))
    let cands := members.filterMap (fun m => match m.2 with
      | some l => if l.competes then some (m.1, (if g.invert then 100 - f32 l.cand else f32 l.cand)) else none
      | none => none)
    let compMap := cands.foldl (fun a c => a + 2 ^ c.1) 0
    let dt := classDt g.cls
    let prev := f32 (s.get F.grpOut g.num)
    let rate := f32 (s.get F.grpOutRate g.num)
    let win := cands.foldl betterCand none
    let s := s.put F.grpCompeting compMap g.num
    let old := s.get F.grpSelected g.num
    let s : State := match win with
      | none =>
        let s : State := if s.flag F.grpNoneCompeting g.num then s
          else s.raise 440 1 2 [(16, g.num + 2 ^ 14), (32, s.now)]                 -- LOOP_GROUP_EMPTY
        s.putFlag F.grpNoneCompeting true g.num
      | some w =>
        let s := s.putFlag F.grpNoneCompeting false g.num
        if w.1 = old then s
        else ((s.put F.grpSelected w.1 g.num).inc F.grpSwitchCount g.num).raise 439 1 0
          [(16, g.num + 2 ^ 14), (32, s.now), (8, old), (8, w.1)]                  -- LOOP_SELECT_CHANGE
    let goal : Rat := if s.get F.grpMode g.num = 1 then f32 (s.get F.grpManual g.num)
      else match win with
        | none => prev
        | some w => if g.invert then 100 - w.2 else w.2
    let out := rateLimit prev goal rate dt
    let s := s.put F.grpOut (toF32 out) g.num
    let s := g.members.foldl (fun s n => match s.loop? n with
      | some l => s.putLoop { l with
          out := if l.competes then l.cand else toF32 out
          selected := (match win with | some w => l.d.groupPos == w.1 | none => false) }
      | none => s) s
    match g.members.head? with
    | some n => match s.loop? n with | some l => s.deliverOut l.d.outVal out | none => s
    | none => s

/-! Execution (R114, R117, R118, R120, R122). -/

/-- The engine runs in RUN, and in HOLD under LOOPS_LIVE, on a module that computes (R107, R113). -/
def State.engineRuns (s : State) : Bool :=
  s.computes && (s.get F.mode == mRun || (s.get F.mode == mHold && s.get F.holdPolicy == 2))

/-- The event flags that the blocks of a class read in its current cycle (R451). -/
def State.flagsOf (s : State) (c : Nat) : List Nat :=
  match s.loops.seen.find? (fun v => v.cls == c) with | some v => v.flags | none => []

/-- TRACK is entered and left through the track switch (R122); a loop shed or cut from its source needs a new request. -/
def State.loopTrack (s : State) (l : LoopRt) : State × LoopRt :=
  match l.d.trackSwitch with
  | none => (s, l)
  | some idx =>
    let flags := s.flagsOf l.d.cls
    let on := s.switchValue flags idx != 0
    let s := s.readFlag flags idx
    if on then s.loopMode l 4 3
    else if l.mode = 4 then s.loopMode l (if l.shed then 0 else if l.extLost then 1 else l.req) 3
    else (s, l)

/-- The output of a loop in TRACK: the track value within the output limits (R121). -/
def State.trackOut (s : State) (l : LoopRt) : LoopRt :=
  let tv := match l.d.trackVal with
    | some i => (match s.rt.entry? i with | some v => valNum v.ty (s.rt.read v).1 | none => 0)
    | none => f32 l.out
  let o := toF32 (clampR tv (f32 l.d.outLo) (f32 l.d.outHi))
  { l with out := o, rateLimited := false, manTarget := o }

/-- The work of one loop block (R118 to R128) on what its class reads, before its output goes anywhere. A skipped execution is
none: the mode of the previous execution stands (R120, R123). -/
def State.loopWork (s : State) (num : Nat) (l : LoopRt) : State × LoopRt :=
    let raw := s.rt.readIdx l.d.pvVal
    let eu := match s.rt.entry? l.d.pvVal with | some v => valNum v.ty raw.1 | none => 0
    let q := if bitOf raw.2 2 then 0 else raw.2 % 4
    let skip := q == 1 || (bitOf raw.2 3 && !bitOf raw.2 2)
    let lost := q == 2 || q == 3
    let l := { l with pvQ := q, pv := toF32 eu, cut := false, ran := true, competes := false }
    if lost && loopClosed l then
      let s := (s.inc F.shedCount).raise 435 1 2 [(16, num), (32, s.now), (2, q)]  -- LOOP_SHED
      let (s, l) := s.loopMode l 0 4
      (s, { l with shed := true, last := 0 })
    else if loopClosed l && skip then (s, l)
    else
      let (s, l) := s.loopSetpoint l eu
      let pv := pvPercent l.d eu
      let l := if loopClosed l then
          let l := pidStep l pv (s.resetFeedback l)
          if l.d.group.isNone then freeOut l else l
        else
          let l := if skip || lost then l else { l with pvPrev := toF32 pv, dTerm := 0 }
          if l.mode = 4 then s.trackOut l else if l.d.group.isSome then l else manOut l
      (s, { l with last := l.mode })

/-- One execution of a loop block: the member's work, then the selection of its group or the delivery of its output. -/
def State.loopRun (s : State) (num : Nat) (l : LoopRt) : State :=
    let r := s.loopTrack l
    let w := r.1.loopWork num r.2
    let s := w.1.putLoop w.2
    match s.groupOf w.2 with
    | some g => s.selectGroup g
    | none => s.deliverOut w.2.d.outVal (f32 w.2.out)

/-- What a block depends on has run in this cycle (R114): its primary, or the selection of its primary group. -/
def State.depsRan (s : State) (l : LoopRt) : Bool :=
  match l.d.primary with
  | none => true
  | some q =>
    if l.d.primaryIsGroup then s.loops.hasSelected q || !s.loops.groups.any (fun g => g.num == q)
    else match s.loop? q with | some m => m.ran | none => true

/-- Blocks of a class that a beat may take at most (R114). -/
def LoopSt.share (ls : LoopSt) (c : Nat) : Nat :=
  ((ls.loops.filter (fun l => l.d.cls == c)).length + classBeats c - 1) / classBeats c

/-- Blocks of a class that the current beat takes: after a takeover by case 2 the blocks of T1 to T4 due in the lost slot
are run in the beat after it, beside that beat's own (R150). -/
def State.loopShare (s : State) (c : Nat) : Nat :=
  if c ≠ 0 ∧ s.pair.redo.any (fun m => s.now == m + 2) then 2 * s.loops.share c else s.loops.share c

/-- The engine takes a block in this beat (R114, R117): once in the cycle, behind what it depends on, a cut one before any
other, the others at most ⌈Lk / B⌉ of their class. Which of them, the spec leaves open (log entry 47). -/
def State.takesBlock (s : State) (l : LoopRt) : Bool :=
  s.loops.started && s.beat.computing && !l.ran && s.depsRan l &&
    (l.cut || (decide ((s.loops.dealt.filter (fun c => c == l.d.cls)).length < s.loopShare l.d.cls) &&
      s.loops.loops.all (fun m => !(m.cut && !m.ran && s.depsRan m))))

/-- The line record of an executed block (R46, R141). Where the block's line lies, and how it holds the state of R118 to
R134, the spec leaves open: free values (log entry 29). -/
def State.loopLine (s : State) : State :=
  let (a, s) := s.fresh 42
  let (d, s) := s.fresh 512
  { s with pair := { s.pair with loopTx := s.pair.loopTx ++ [(64 * a, d)] } }

/-- An execution reads the image and the values of its class's release beat (R114), and is one line of tracking (R46). -/
def State.loopExecute (s : State) (num : Nat) : State :=
  if !s.engineRuns then s
  else
    match s.loop? num with
    | none => s
    | some l =>
      if !s.takesBlock l then s
      else
        let t := ({ s with rt := s.rt.seenBy s.loops.seen l.d.cls }).loopRun num l
        { t with
          rt := { t.rt with image := s.rt.image, published := s.rt.published, forces := s.rt.forces }
          loops := { t.loops with dealt := if l.cut then t.loops.dealt else t.loops.dealt ++ [l.d.cls] } }.loopLine

/-- A block's new cycle: it has not run, and what was cut in the last beat of the cycle before stays out (R117). -/
def State.blockCycle (s : State) (l : LoopRt) : LoopRt := { s.sampleRate l with ran := false, cut := false }

/-- A loop takes the set-point that the program has written (R121, R122). -/
def State.takeSp (s : State) (l : LoopRt) : LoopRt :=
  match l.d.spVal with
  | some i =>
    if !l.spNew then l
    else match s.rt.entry? i with
      | some e => { l with spNew := false, target := toF32 (valNum e.ty (s.rt.read e).1) }
      | none => { l with spNew := false }
  | none => l

/-- A PROGRAM loop in MAN takes the output that the program has written (R121). -/
def State.takeOut (s : State) (l : LoopRt) : LoopRt :=
  match l.d.outReq with
  | some i =>
    if !l.outNew then l
    else match s.rt.entry? i with
      | some e =>
        if l.d.progOwner ∧ l.mode = 0 then { l with outNew := false, manTarget := toF32 (valNum e.ty (s.rt.read e).1) }
        else { l with outNew := false }
      | none => { l with outNew := false }
  | none => l

/-- A PROGRAM loop takes the mode request that a task has written, or an event flag that stands (R122, R451); a mode it cannot
take is ignored. -/
def State.takeReq (s : State) (l : LoopRt) : State × LoopRt :=
  match l.d.modeReq with
  | none => (s, l)
  | some i =>
    let v := s.switchValue s.ev.loopFlags i
    let new := if i < 4194304 then l.reqNew else v != 0
    let s := s.readFlag s.ev.loopFlags i
    let l := { l with reqNew := false }
    let ok := decide (v ≤ 3) && !(v == 2 && l.d.primary.isNone) && !(v == 3 && l.d.extSource == 0xFFFFFFFF)
    if new ∧ l.d.progOwner ∧ ok then s.requestMode l v 2 else (s, l)

/-- In the Freeze of its class's release beat a loop takes what the program has written for it (R122), and its new cycle
begins. -/
def State.loopRelease (s : State) (l : LoopRt) : State :=
  let r := s.takeReq (s.takeOut (s.takeSp (s.blockCycle l)))
  r.1.putLoop r.2

/-- The blocks of class `c` are released: their view of the inputs (R114; in HOLD live ones, R107), their new cycle. -/
def State.releaseLoops (s : State) (c : Nat) : State :=
  let mine := s.loops.loops.filter (fun l => l.d.cls == c)
  let groups := (s.loops.groups.filter (fun g => g.cls == c)).map (fun g => g.num)
  let s := { s with loops := { s.loops with
    selected := s.loops.selected.filter (fun g => !groups.contains g)
    seen := newView s.loops.seen { s.rt.viewOf c with flags := s.ev.loopFlags } } }
  mine.foldl (fun (s : State) l => s.loopRelease l) s

/-- The loop engine at the release of the beat's classes. -/
def State.loopIntake (s : State) : State :=
  if !s.engineRuns ∨ s.rt.prog.isNone then s
  else ((List.range 5).filter (fun c => (s.releaseBeat? c).isSome)).foldl (fun (s : State) c => s.releaseLoops c) s

/-- The blocks that a beat cut at 200 µs (R117): they keep their state and are marked. -/
def State.cutLoops (s : State) (nums : List Nat) : State :=
  let nums := nums.filter (fun n => match s.loop? n with | some l => !l.ran | none => false)
  if nums = [] then s
  else
    let s := { s with loops := { s.loops with loops := s.loops.loops.map (fun (l : LoopRt) =>
      if nums.contains l.d.num then { l with late := true, cut := true } else l) } }
    (s.add F.lateCount nums.length).raise 434 1 2 [(32, s.now), (32, nums.length)]   -- LOOP_ENGINE_LATE

/-! Fields of a loop block (R133, R134). -/

/-- LoopState (R134). LATE is W1C, but R130 keeps LoopState out of LOOP_COEFF_SET and no opcode is named that writes it: LATE
stands until the loop is initialised (DESIGN CHOICE, log entry 47). -/
def loopStateWord (l : LoopRt) : Nat :=
  let b := fun (x : Bool) (i : Nat) => if x then 2 ^ i else 0
  l.mode + l.req * 8 + b l.selected 6 + b l.shed 7 + b l.ramping 8 + b l.spClamped 9 + b l.outLimited 10
    + b l.rateLimited 11 + l.pvQ * 2 ^ 12 + b l.extLost 14 + b l.late 15 + l.d.groupPos * 2 ^ 24

/-- LINKS (R133). -/
def loopLinks (d : LoopDef) : Nat :=
  (match d.group with | some g => g + 2 ^ 9 | none => 0)
    + (match d.primary with | some q => q * 2 ^ 16 + 2 ^ 13 + (if d.primaryIsGroup then 2 ^ 14 else 0) | none => 0)
    + (if d.progOwner then 2 ^ 15 else 0)

/-- The field of an ID, zero-extended to 32 bits (R133, R418). -/
def loopField (l : LoopRt) (id : Nat) : Option Nat :=
  match id with
  | 0x01 => some (loopStateWord l) | 0x02 => some l.pv | 0x03 => some l.target | 0x04 => some l.working
  | 0x05 => some l.out | 0x06 => some l.d.gain | 0x07 => some l.d.resetTime | 0x08 => some l.d.rateTime
  | 0x09 => some l.d.derivFilter | 0x0A => some l.d.action | 0x0B => some l.d.deadband | 0x0C => some l.d.bias
  | 0x0D => some l.d.spLo | 0x0E => some l.d.spHi | 0x0F => some l.d.rampUp | 0x10 => some l.d.rampDown
  | 0x11 => some l.d.outLo | 0x12 => some l.d.outHi | 0x13 => some l.d.outRate | 0x14 => some l.d.spTrack
  | 0x15 => some l.d.extSource | 0x16 => some l.d.extGain | 0x17 => some l.d.extOffset | 0x18 => some l.d.pvLo
  | 0x19 => some l.d.pvHi | 0x1A => some (loopLinks l.d) | 0x1B => some l.d.cls
  | _ => none

/-- The tuning set and the limit set of R130. -/
def isTuning (id : Nat) : Bool := decide (0x06 ≤ id) && decide (id ≤ 0x0C)
def isLimit (id : Nat) : Bool :=
  (decide (0x0D ≤ id) && decide (id ≤ 0x14)) || id == 0x16 || id == 0x17

/-- The stated range of a coefficient taken alone (R133). -/
def coeffOk (id v : Nat) : Bool :=
  let x := f32 v
  if id = 0x0A ∨ id = 0x14 then decide (v ≤ 1)
  else if f32Bad v then false
  else match id with
    | 0x06 => decide (0 ≤ x) && decide (x ≤ 1000)
    | 0x07 => x == 0 || (decide ((1 : Rat) / 1000 ≤ x) && decide (x ≤ 100000)) || v == 0x3A83126F
    | 0x08 => decide (0 ≤ x) && decide (x ≤ 10000)
    | 0x09 => (decide ((1 : Rat) / 20 ≤ x) || v == 0x3D4CCCCD) && decide (x ≤ 1)
    | 0x0B => decide (0 ≤ x) && decide (x ≤ 10)
    | 0x0C => decide (0 ≤ x) && decide (x ≤ 100)
    | 0x0F | 0x10 | 0x13 => decide (0 ≤ x)
    | 0x11 => decide (0 ≤ x) && decide (x ≤ 100)
    | 0x12 => decide (x ≤ 100)
    | _ => true

/-- The relations between the fields of a loop (R133): set-point limits within the range, low below high. -/
def coeffsOk (d : LoopDef) : Bool :=
  decide (f32 d.pvLo ≤ f32 d.spLo) && decide (f32 d.spHi ≤ f32 d.pvHi) && decide (f32 d.spLo < f32 d.spHi)
    && decide (f32 d.outLo < f32 d.outHi)

/-! The opcodes (R130, R131, R423). -/

/-- The fields of a LOOP_FIELD TLV: field ID, bytes 1 to 3, value. -/
def lfId (v : Nat) : Nat := v % 256
def lfZero (v : Nat) : Bool := v / 256 % 2 ^ 24 == 0
def lfVal (v : Nat) : Nat := v / 2 ^ 32

/-- Loop or group number of a LOOP TLV, and whether it names a group (R418). -/
def loopNum (v : Nat) : Nat := v % 2 ^ 14
def loopIsGroup (v : Nat) : Bool := bitOf v 14

/-- The program has the loop or group. -/
def State.hasLoop (s : State) (v : Nat) : Bool :=
  if loopIsGroup v then s.loops.groups.any (fun g => g.num == loopNum v) else (s.loop? (loopNum v)).isSome

/-- Class of a loop or group. -/
def State.loopCls (s : State) (v : Nat) : Nat :=
  if loopIsGroup v then
    match s.loops.groups.find? (fun g => g.num == loopNum v) with | some g => g.cls | none => 0
  else match s.loop? (loopNum v) with | some l => l.d.cls | none => 0

/-- The policy of a VALUE_WRITE on an OPERATOR (1) or ENGINEER (2) value, for the key (R92). -/
def keyR92 (s : State) (attr : Nat) : Chk :=
  let k := s.get F.key
  if k = 1 ∨ k = 2 then .ok
  else if attr = 1 ∧ s.get F.keyRunWrites = 1 then .ok else keyLocked s

/-- LOOP_READ (R423). -/
def loopReadBody (p : Packet) (_ : UnitSel) (s : State) : Ans :=
  let v := p.val 0x001A 0
  if loopIsGroup v then
    let g := loopNum v
    let st := s.get F.grpSelected g + s.get F.grpMode g * 8 + s.get F.grpInvert g * 16 + s.get F.grpNoneCompeting g * 32
      + s.get F.grpPresent g * 256 + s.get F.grpCompeting g * 65536
    { st := s, tlvs := [tlvPacked 0x0015 [(4, st), (4, s.get F.grpOut g), (4, s.get F.grpManual g),
        (4, s.get F.grpOutRate g), (4, s.get F.grpSwitchCount g)]] }
  else
    match s.loop? (loopNum v) with
    | none => { st := s, status := stBadParam, tlvs := detail (p.pos 0x001A) }
    | some l =>
      let asked := p.vals 0x001B
      let ids := ((List.range 27).map (· + 1)).filter (fun i => asked == [] || asked.any (fun a => lfId a == i))
      { st := s, tlvs := ids.map (fun i => tlvPacked 0x001B [(1, i), (3, 0), (4, (loopField l i).getD 0)]) }

/-- LOOP_READ's own checks. -/
def loopReadChk (p : Packet) (_ : UnitSel) (s : State) : Chk :=
  Chk.all [needTlv p 0x001A, param (s.hasLoop (p.val 0x001A 0)) (p.pos 0x001A),
    param ((p.vals 0x001B).all (fun v => decide (1 ≤ lfId v) && decide (lfId v ≤ 27))) (p.pos 0x001B)]

/-- LOOP_MODE_SET's checks (R122, R423). -/
def loopModeSetChk (p : Packet) (_ : UnitSel) (s : State) : Chk :=
  let v := p.val 0x001A 0
  let m := p.val 0x0017 0
  Chk.all [
    keyR92 s 1, needTlv p 0x001A, needTlv p 0x0017, param (s.hasLoop v) (p.pos 0x001A),
    if loopIsGroup v then param (decide (m ≤ 1)) (p.pos 0x0017)
    else match s.loop? (loopNum v) with
      | none => .ok
      | some l => Chk.all [need (!l.d.progOwner) 4,
          param (decide (m ≤ 3) && !(m == 2 && l.d.primary.isNone) && !(m == 3 && l.d.extSource == 0xFFFFFFFF))
            (p.pos 0x0017)]]

/-- LOOP_MODE_SET in its Freeze. -/
def loopModeSetApply (p : Packet) (s : State) : Ans :=
  let v := p.val 0x001A 0
  let m := p.val 0x0017 0
  if loopIsGroup v then
    let g := loopNum v
    let old := s.get F.grpMode g
    if old = m then { st := s }
    else { st := (s.put F.grpMode m g).raise 441 1 0 [(16, v), (32, s.now), (3, old), (3, m), (8, 1)] }
  else
    match s.loop? (loopNum v) with
    | none => { st := s }
    | some l => { st := (s.requestMode l m 1).1.putLoop (s.requestMode l m 1).2 }

/-- LOOP_SP_SET's checks (R423). -/
def loopSpSetChk (p : Packet) (_ : UnitSel) (s : State) : Chk :=
  let v := p.val 0x001A 0
  Chk.all [
    keyR92 s 1, needTlv p 0x001A, needTlv p 0x001C, needTlv p 0x0011,
    param (!loopIsGroup v && s.hasLoop v) (p.pos 0x001A),
    param ((match p.find? 0x0011 with | some x => x.len == 4 | none => false) && !f32Bad (p.val 0x0011 0)) (p.pos 0x0011)]

/-- LOOP_SP_SET in its Freeze: OUT only while the loop is in MAN (R121, R423). -/
def loopSpSetApply (p : Packet) (s : State) : Ans :=
  match s.loop? (loopNum (p.val 0x001A 0)) with
  | none => { st := s }
  | some l =>
    if p.val 0x001C 0 = 0 then { st := s.putLoop { l with target := p.val 0x0011 0 } }
    else if l.mode = 0 then { st := s.putLoop { l with manTarget := p.val 0x0011 0 } }
    else { st := s, status := stWrongMode, tlvs := detail l.mode }

/-- The coefficients of a loop with the fields of a packet. -/
def coeffApply (p : Packet) (d : LoopDef) : LoopDef :=
  (p.vals 0x001B).foldl (fun d v => loopSetField d (lfId v) (lfVal v)) d

/-- LOOP_COEFF_SET's checks at receipt (R130, R133). -/
def loopCoeffSetChk (p : Packet) (_ : UnitSel) (s : State) : Chk :=
  let v := p.val 0x001A 0
  let fs := p.vals 0x001B
  Chk.all [
    keyR92 s 2, needTlv p 0x001A, needTlv p 0x001B,
    param (!loopIsGroup v && s.hasLoop v) (p.pos 0x001A),
    param (decide (fs.length ≤ 26) && fs.all (fun f => lfZero f && (isTuning (lfId f) || isLimit (lfId f)) &&
      coeffOk (lfId f) (lfVal f))) (p.pos 0x001B),
    match s.loop? (loopNum v) with
    | some l => param (coeffsOk (coeffApply p l.d)) (p.pos 0x001B)
    | none => .ok]

/-- LOOP_COEFF_SET in its Freeze (R130, R131); the relations of R133 hold with what was applied before it (DEDUCED, log
entry 47). -/
def loopCoeffSetApply (p : Packet) (s : State) : Ans :=
  match s.loop? (loopNum (p.val 0x001A 0)) with
  | none => { st := s, status := stBadParam }
  | some l =>
    let fs := p.vals 0x001B
    if !coeffsOk (coeffApply p l.d) then { st := s, status := stBadParam, tlvs := detail (p.pos 0x001B) }
    else if fs.any (fun f => isTuning (lfId f)) ∧ (l.mode = 1 ∨ l.mode = 2 ∨ l.mode = 3) then
      { st := s, status := stLoopClosed }
    else if !s.journalRoom 108 then { st := s.raise 378 1 2 [(32, s.get F.liveBytes)], status := stBusy }
    else
      let d := coeffApply p l.d
      let l := { l with d := d, working := toF32 (clampR (f32 l.working) (f32 d.spLo) (f32 d.spHi)) }
      let s := s.putLoop l
      let s := { s with loops := { s.loops with
        saved := fs.foldl (fun a f => regPut a (l.d.num * 256 + lfId f) (lfVal f)) s.loops.saved } }
      let s := s.journal 4 l.d.num 108 (packBytes (((List.range 27).map (· + 1)).map
        (fun i => (4, (loopField l i).getD 0)))).1 true
      { st := s.raise 438 1 0 [(16, l.d.num), (32, s.now), (32, p.sess),
          (32, fs.foldl (fun a f => setBit a (lfId f) true) 0)] }                    -- LOOP_COEFF_CHANGED

/-- The apply beat of a command on a loop or group (R122). -/
def loopApplyAt (p : Packet) (_ : UnitSel) (s : State) : Nat :=
  alignUp (s.eligible p.stamp) (classBeats (s.loopCls (p.val 0x001A 0)))

end Sys2Proof.Machine
end

