-- ==== Sys2Proof/Machine/Values.lean ====
section
/-! DEFINITION. Reading, writing, owning and forcing named values (R82, R83, R92 to R97, R395 to R397, R421). -/

namespace Sys2Proof.Machine

open Sys2Proof

/-- The cluster a packet names (R191, R418): X unless the module is SPLIT and CLUSTER says otherwise. -/
def pktCluster (p : Packet) : Nat := p.val 0x0013 0

/-- CLUSTER is accepted only on a SPLIT module (R418). -/
def clusterChk (p : Packet) (s : State) : Chk := param (!p.has 0x0013 || s.get F.triad == 2) (p.pos 0x0013)

/-- HANDLE and VALUE in pairs: each HANDLE is followed by its VALUE (R421). Position, handle, value. -/
def pairsOf : List Tlv → Nat → List (Nat × Nat × Tlv)
  | a :: b :: t, i => if a.t = 0x0010 ∧ b.t = 0x0011 then (i, a.val, b) :: pairsOf t (i + 2) else pairsOf (b :: t) (i + 1)
  | _, _ => []

/-- Every HANDLE and VALUE of the packet stands in a pair, 1 to 64 of them. -/
def pairsChk (p : Packet) : Chk :=
  let n := (pairsOf p.tlvs 1).length
  param (decide (1 ≤ n) && decide (n ≤ 64) && (p.vals 0x0010).length == n && (p.vals 0x0011).length == n) (p.pos 0x0010)

/-- The session that owns a handle. -/
def State.owner? (s : State) (h : Nat) : Option Nat := (s.lcp.owners.find? (fun o => o.1 == h)).map (fun o => o.2)

/-- OWNED with the owner's session where another session owns the handle (R396). -/
def ownedChk (s : State) (sess h : Nat) : Chk :=
  match s.owner? h with
  | some o => if o = sess then .ok else .bad stOwned [tlv 0x8006 4 o]
  | none => .ok

/-- The privilege a write needs by the attribute of its value (R417): OPERATE or ENGINEER. -/
def attrChk (s : State) (sess attr : Nat) : Chk :=
  Chk.all [need (attr != 0) 5, need (decide ((if attr = 2 then 2 else 1) ≤ s.privOf sess)) 1]

/-- The value a write carries: its length, its type and its limits (R93 step 7, R418). -/
def valueChk (v : ValDef) (x : Tlv) (pos : Nat) : Chk :=
  param (x.len == tyBytes v.ty && valFits v.ty x.val &&
    (v.attr == 0 || (decide (valNum v.ty v.lo ≤ valNum v.ty x.val) && decide (valNum v.ty x.val ≤ valNum v.ty v.hi)))) pos

/-- The checks of R93 for one VALUE_WRITE or VALUE_OWN, steps 1 to 5. -/
def writeSteps (s : State) (rt : RtSt) (sess h pos : Nat) : Chk :=
  match rt.handle? h with
  | none => .bad stBadParam (detail pos)
  | some v => Chk.all [
      need (decide (v.kind ≤ 1)) 5, attrChk s sess v.attr,
      keyR92 s v.attr, ownedChk s sess h]

/-- The checks of R93 for one VALUE_WRITE. -/
def valueWriteOne (s : State) (rt : RtSt) (sess : Nat) (w : Nat × Nat × Tlv) : Chk :=
  match rt.handle? w.2.1 with
  | none => .bad stBadParam (detail w.1)
  | some v => Chk.all [
      writeSteps s rt sess w.2.1 w.1,
      need (valAt rt.forces v.idx).isNone 5, valueChk v w.2.2 (w.1 + 1)]

/-- The checks of R93 for one CONST_WRITE. -/
def constWriteOne (s : State) (rt : RtSt) (sess : Nat) (w : Nat × Nat × Tlv) : Chk :=
  match rt.handle? w.2.1 with
  | none => .bad stBadParam (detail w.1)
  | some v => Chk.all [
      need (v.kind == 2 && v.attr != 0) 5, need (decide (2 ≤ s.privOf sess)) 1,
      keyR92 s 2, ownedChk s sess w.2.1,
      need (valAt rt.forces v.idx).isNone 5, valueChk v w.2.2 (w.1 + 1)]

/-- The checks of R93 for one FORCE_SET, with R96: points and forceable variables. A force is ruled by R96 and not by the write
attribute (DEDUCED, log entry 16). -/
def forceSetOne (s : State) (rt : RtSt) (sess : Nat) (w : Nat × Nat × Tlv) : Chk :=
  match rt.handle? w.2.1 with
  | none => .bad stBadParam (detail w.1)
  | some v => Chk.all [
      need (v.kind == 3 || v.kind == 4 || (decide (v.kind ≤ 1) && v.forceable)) 5, need (decide (2 ≤ s.privOf sess)) 1,
      keyR92 s 2, need (s.get F.sec != 0) 2, ownedChk s sess w.2.1,
      valueChk v w.2.2 (w.1 + 1)]

/-- How many of the values a packet names a table by INDEX does not hold yet. -/
def newTargets (p : Packet) (rt : RtSt) (table : List (Nat × Nat)) : Nat :=
  ((((pairsOf p.tlvs 1).filterMap (fun w => rt.handle? w.2.1)).map (fun v => v.idx)).filter
    (fun i => (valAt table i).isNone)).eraseDups.length

/-- The overlay holds at most 65,536 constants with those of this packet (R95). -/
def overlayFits (p : Packet) (rt : RtSt) : Chk := need (decide (rt.overlay.length + newTargets p rt rt.overlay ≤ 65536)) 6

/-- The pair holds at most 1,024 forces with those of this packet (R96). -/
def forcesFit (p : Packet) (rt : RtSt) : Chk := need (decide (rt.forces.length + newTargets p rt rt.forces ≤ 1024)) 6

/-- VALUE_WRITE's checks. -/
def valueWriteChk (p : Packet) (_ : UnitSel) (s : State) : Chk :=
  let rt := s.rtOf (pktCluster p)
  Chk.all [clusterChk p s, pairsChk p, Chk.all ((pairsOf p.tlvs 1).map (valueWriteOne s rt p.sess))]

/-- CONST_WRITE's checks. -/
def constWriteChk (p : Packet) (_ : UnitSel) (s : State) : Chk :=
  let rt := s.rtOf (pktCluster p)
  Chk.all [clusterChk p s, pairsChk p, Chk.all ((pairsOf p.tlvs 1).map (constWriteOne s rt p.sess)),
    overlayFits p rt]

/-- FORCE_SET's checks. -/
def forceSetChk (p : Packet) (_ : UnitSel) (s : State) : Chk :=
  Chk.all [pairsChk p, Chk.all ((pairsOf p.tlvs 1).map (forceSetOne s s.rt p.sess)), forcesFit p s.rt]

/-- Home class of a handle, T0 where it names nothing. -/
def homeOf (rt : RtSt) (h : Nat) : Nat := match rt.handle? h with | some v => v.home | none => 0

/-- The apply beat of a write (R48): the first eligible release beat of the home class; of the slowest one where a
packet names several (DEDUCED, log entry 17). -/
def valuesApplyAt (p : Packet) (_ : UnitSel) (s : State) : Nat :=
  let rt := s.rtOf (pktCluster p)
  alignUp (s.eligible p.stamp) (classBeats (listMax ((p.vals 0x0010).map (homeOf rt))))

/-- The apply beat of a command at the first eligible beat. -/
def firstApplyAt (p : Packet) (_ : UnitSel) (s : State) : Nat := s.eligible p.stamp

/-- VALUE_WRITE in its Freeze: the published value is set (R94); a force in between lets it lie. -/
def valueWriteApply (p : Packet) (s : State) : Ans :=
  let c := pktCluster p
  let rt := s.rtOf c
  let rt' := (pairsOf p.tlvs 1).foldl (fun (rt : RtSt) w =>
    match rt.handle? w.2.1 with
    | some v => rt.setValue v.idx w.2.2.val
    | none => rt) rt
  { st := s.putRt c rt' }

/-- CONST_WRITE in its Freeze: the overlay takes the values, each with its Journal record of 32 bytes, or BUSY and nothing; the
limit holds with what was applied before it (R95). -/
def constWriteApply (p : Packet) (s : State) : Ans :=
  let c := pktCluster p
  let ws := pairsOf p.tlvs 1
  match overlayFits p (s.rtOf c) with
  | .bad st tl => { st := s, status := st, tlvs := tl }
  | .ok =>
  if !s.journalRoom (8 + 32 * (ws.length - 1)) then
    { st := s.raise 378 1 2 [(32, s.get F.liveBytes)], status := stBusy }            -- JOURNAL_FULL
  else
    let s := ws.foldl (fun (s : State) w =>
      let rt := s.rtOf c
      match rt.handle? w.2.1 with
      | some v => (s.putRt c { rt with overlay := regPut rt.overlay v.idx w.2.2.val }).journal 6 w.2.1 8 w.2.2.val true
      | none => s) s
    { st := s.showRuntime }

/-- FORCE_SET in its Freeze (R96, R97); the limit holds with what was applied before it. -/
def forceSetApply (p : Packet) (s : State) : Ans :=
  match forcesFit p s.rt with
  | .bad st tl => { st := s, status := st, tlvs := tl }
  | .ok =>
  let s := s.auditBy p.sess 0x0D 0 1
  let s := (pairsOf p.tlvs 1).foldl (fun (s : State) w =>
    match s.rt.handle? w.2.1 with
    | some v => ({ s with rt := { s.rt with forces := regPut s.rt.forces v.idx w.2.2.val } }).journal 7 w.2.1 8
        w.2.2.val true
    | none => s) s
  { st := s.showRuntime }

/-- FORCE_CLEAR's checks (R92, R396, R397): the "all" form needs every forced handle to be the session's own. -/
def forceClearChk (p : Packet) (_ : UnitSel) (s : State) : Chk :=
  let hs := p.vals 0x0010
  if hs = [0xFFFFFFFF] then
    Chk.all [keyR92 s 2,
      match (s.rt.forces.map (fun f => s.rt.handleAt f.1)).find? (fun h => s.owner? h != some p.sess) with
      | some h => .bad stOwned [tlv 0x8006 4 ((s.owner? h).getD 0)]
      | none => .ok]
  else
    Chk.all [param (decide (1 ≤ hs.length) && decide (hs.length ≤ 64)) (p.pos 0x0010),
      Chk.all (hs.mapIdx (fun i h => match s.rt.handle? h with
        | none => .bad stBadParam (detail (i + 1))
        | some _ => Chk.all [keyR92 s 2, ownedChk s p.sess h]))]

/-- FORCE_CLEAR in its Freeze. -/
def forceClearApply (p : Packet) (s : State) : Ans :=
  let hs := p.vals 0x0010
  let s := s.auditBy p.sess 0x0D 0 2
  let gone := if hs = [0xFFFFFFFF] then s.rt.forces.map (fun f => f.1)
    else hs.filterMap (fun h => (s.rt.handle? h).map (fun v => v.idx))
  { st := (s.clearForces gone).showRuntime }

/-- VALUE_OWN's checks (R395, R396, R413): R93 steps 1 to 5, then the count limits. -/
def valueOwnChk (p : Packet) (_ : UnitSel) (s : State) : Chk :=
  let hs := p.vals 0x0010
  let new := hs.filter (fun h => (s.owner? h).isNone)
  let mine := (s.lcp.owners.filter (fun o => o.2 == p.sess)).length
  Chk.all [param (decide (1 ≤ hs.length) && decide (hs.length ≤ 64)) (p.pos 0x0010),
    Chk.all (hs.mapIdx (fun i h => writeSteps s s.rt p.sess h (i + 1))),
    require (decide (mine + new.length ≤ 256) && decide (s.lcp.owners.length + new.length ≤ 4096)) stBusy (detail 6)]

/-- VALUE_OWN in its Freeze: a handle taken meanwhile gives OWNED (R396). -/
def valueOwnApply (p : Packet) (s : State) : Ans :=
  let hs := p.vals 0x0010
  match hs.find? (fun h => match s.owner? h with | some o => o != p.sess | none => false) with
  | some h => { st := s, status := stOwned, tlvs := [tlv 0x8006 4 ((s.owner? h).getD 0)] }
  | none =>
    let new := hs.filter (fun h => (s.owner? h).isNone)
    let s := { s with lcp := { s.lcp with owners := s.lcp.owners ++ new.eraseDups.map (fun h => (h, p.sess)) } }
    { st := s.put F.ownedHandles s.lcp.owners.length }

/-- VALUE_RELEASE's checks (R397, R421): a foreign handle needs FORCE 1 and the maintenance privilege. -/
def valueReleaseChk (p : Packet) (_ : UnitSel) (s : State) : Chk :=
  let hs := p.vals 0x0010
  let force := p.val 0x0048 0 == 1
  Chk.all [need (!force || decide (3 ≤ s.privOf p.sess)) 1,
    param (decide (1 ≤ hs.length) && decide (hs.length ≤ 64)) (p.pos 0x0010),
    Chk.all (hs.mapIdx (fun i h => param (s.rt.handle? h).isSome (i + 1))),
    if force then .ok else Chk.all (hs.map (ownedChk s p.sess))]

/-- VALUE_RELEASE in its Freeze; the owner of a handle released by force hears of it (R397). -/
def valueReleaseApply (p : Packet) (s : State) : Ans :=
  let hs := p.vals 0x0010
  let force := p.val 0x0048 0 == 1
  let s := if force then s.auditBy p.sess 0x0E 0 0 else s
  let s := hs.foldl (fun (s : State) h =>
    match s.owner? h with
    | none => s
    | some o =>
      if o ≠ p.sess ∧ !force then s
      else
        let s := { s with lcp := { s.lcp with owners := s.lcp.owners.filter (fun x => x.1 != h) } }
        if o = p.sess then s else s.raise 465 1 1 [(32, h), (32, o), (32, p.sess)]   -- VALUE_OWNERSHIP_LOST
      ) s
  { st := s.put F.ownedHandles s.lcp.owners.length }

/-- A VALREC (R418): handle, status, quality, value. -/
def valRec (h status q v : Nat) : Tlv := tlvPacked 0x0012 [(4, h), (2, status), (1, q), (1, 0), (8, v)]

/-- VALUE_READ's checks. -/
def valueReadChk (p : Packet) (_ : UnitSel) (s : State) : Chk :=
  let n := (p.vals 0x0010).length
  Chk.all [clusterChk p s, param (decide (1 ≤ n) && decide (n ≤ 256)) (p.pos 0x0010)]

/-- VALUE_READ (R421): one VALREC per handle, in request order. -/
def valueReadBody (p : Packet) (_ : UnitSel) (s : State) : Ans :=
  let rt := s.rtOf (pktCluster p)
  { st := s, tlvs := (p.vals 0x0010).map (fun h =>
      match rt.handle? h with
      | some v => valRec h stOk (rt.read v).2 (rt.read v).1
      | none => valRec h stBadParam 0 0) }

/-- VALUE_READ (R421). -/
def execValueRead (p : Packet) (s : State) : Host.Outcome State Fault Refusal :=
  .next (served .valueRead p (valueReadChk p) (valueReadBody p) s)

/-- VALUE_WRITE (R93, R94): applied in the Freeze of its apply beat. -/
def execValueWrite (p : Packet) (s : State) : Host.Outcome State Fault Refusal :=
  .next (queued .valueWrite p (valueWriteChk p) (valuesApplyAt p) s)

/-- CONST_WRITE (R95). -/
def execConstWrite (p : Packet) (s : State) : Host.Outcome State Fault Refusal :=
  .next (queued .constWrite p (constWriteChk p) (valuesApplyAt p) s)

/-- VALUE_OWN (R395). -/
def execValueOwn (p : Packet) (s : State) : Host.Outcome State Fault Refusal :=
  .next (queued .valueOwn p (valueOwnChk p) (firstApplyAt p) s)

/-- VALUE_RELEASE (R397). -/
def execValueRelease (p : Packet) (s : State) : Host.Outcome State Fault Refusal :=
  .next (queued .valueRelease p (valueReleaseChk p) (firstApplyAt p) s)

/-- FORCE_SET (R96). -/
def execForceSet (p : Packet) (s : State) : Host.Outcome State Fault Refusal :=
  .next (queued .forceSet p (forceSetChk p) (valuesApplyAt p) s)

/-- FORCE_CLEAR (R97, R397): the "all" form applies at the first eligible beat (DEDUCED, log entry 17). -/
def execForceClear (p : Packet) (s : State) : Host.Outcome State Fault Refusal :=
  .next (queued .forceClear p (forceClearChk p)
    (if p.vals 0x0010 = [0xFFFFFFFF] then firstApplyAt p else valuesApplyAt p) s)

/-- LOOP_READ (R423). -/
def execLoopRead (p : Packet) (s : State) : Host.Outcome State Fault Refusal :=
  .next (served .loopRead p (loopReadChk p) (loopReadBody p) s)

/-- LOOP_MODE_SET (R122). -/
def execLoopModeSet (p : Packet) (s : State) : Host.Outcome State Fault Refusal :=
  .next (queued .loopModeSet p (loopModeSetChk p) (loopApplyAt p) s)

/-- LOOP_COEFF_SET (R130, R131): replied after application. -/
def execLoopCoeffSet (p : Packet) (s : State) : Host.Outcome State Fault Refusal :=
  .next (queued .loopCoeffSet p (loopCoeffSetChk p) (loopApplyAt p) s)

/-- LOOP_SP_SET (R121, R126). -/
def execLoopSpSet (p : Packet) (s : State) : Host.Outcome State Fault Refusal :=
  .next (queued .loopSpSet p (loopSpSetChk p) (loopApplyAt p) s)

/-- LOOP_BLOCK_EXECUTE (R118): one execution of a loop block. -/
def execLoopBlockExecute (loop : Nat) (s : State) (cluster : Fin 3 := 0) : Host.Outcome State Fault Refusal :=
  .next (s.onCluster cluster (fun s => s.loopExecute loop))

/-- A line among those queued for tracking: one written again is sent once, with its latest content (R141). -/
def queueLine (l : List (Nat × Nat)) (r : Nat × Nat) : List (Nat × Nat) := l.filter (fun x => x.1 != r.1) ++ [r]

/-- A line enters the memory of the clusters that run: of all that agree, or on a SPLIT module of the one whose program
writes. The dirty bitmap of a resync marks it (R180, R185). -/
def State.lineMem (s : State) (a d : Nat) : State :=
  if s.triad.cur = 1 then { s with triad := { s.triad with memY := memWrite s.triad.memY a d 64 } }
  else if s.triad.cur = 2 then { s with triad := { s.triad with memZ := memWrite s.triad.memZ a d 64 } }
  else
    { s with
      mem := memWrite s.mem a d 64
      triad := { s.triad with
        dirty := if s.get F.resyncPhase = 0 ∨ s.triad.dirty.contains a then s.triad.dirty else s.triad.dirty ++ [a] } }

/-- A 64-byte line of cluster memory is written, and on the ACTIVE queued for tracking (R141). -/
def State.writeLine (s : State) (r : Nat × Nat) : State :=
  let a := r.1 % 2 ^ 48 / 64 * 64
  let d := r.2 % 2 ^ 512
  { s.lineMem a d with
    pair := { s.pair with tx := if s.get F.role = rActive then queueLine s.pair.tx (a, d) else s.pair.tx } }

/-- The task that is said to end is the one its class runs, within its slice (R43, R84). -/
def State.endsNow (s : State) (t : Nat) : Bool :=
  match s.rt.taskDef? t with
  | none => false
  | some d => match s.rt.runsOf d.cls with | e :: _ => e.task == t && s.inSlice d.cls | [] => false

/-- TASK_END (R84, R85): a task ends, with the values it wrote, its execution time and the lines of memory it dirtied. -/
def State.taskEnd (s : State) (t : Nat) (writes : List (Nat × Nat)) (exec : Nat) (lines : List (Nat × Nat)) : State :=
  if s.endsNow t then lines.foldl (fun (s : State) r => s.writeLine r) (s.endTask t writes exec) else s

/-- TASK_END (R84, R85, R141). -/
def execTaskEnd (task : Fin 32) (writes : List (Nat × Nat)) (exec : Nat) (lines : List (Nat × Nat)) (s : State)
    (cluster : Fin 3 := 0) : Host.Outcome State Fault Refusal :=
  .next (s.onCluster cluster (fun s => s.taskEnd task writes exec lines))

/-- The beats of a class's cycle that its slice record covers (R44): a new cycle opens a new entry. -/
def slicePeaks (log : List Nat) (newCycle : Bool) (used : Nat) : List Nat :=
  match log with
  | [] => [used]
  | x :: t => if newCycle then (used :: x :: t).take 10 else max x used :: t

/-- The time a class has used of its slice, kept for the beat (R194) and as the peak of its last 10 cycles (R44). -/
def State.sliceUsed (s : State) (c used : Nat) : State :=
  let log := s.beat.peakLog ++ List.replicate (5 - s.beat.peakLog.length) []
  let mine := slicePeaks (log.getD c []) (releases s.now c) used
  let now := s.beat.used ++ List.replicate (5 - s.beat.used.length) 0
  ({ s with beat := { s.beat with peakLog := setAt log c mine, used := setAt now c used } }).put
    (F.peakT0.next c) (listMax mine)

/-- The task watchdog at the end of a class's slice in the last beat of its cycle (R88); a class that HOLD has stopped has no
cycle to overrun (R107). -/
def State.watchClass (s : State) (c : Nat) : State :=
  if s.get F.haltState = 1 ∨ s.held c ∨ !s.cycleOver c ∨ s.rt.runsOf c = [] then s
  else if s.lostIn c then s.spillAll c else s.overrun c

/-- The slice of class `c` is over: it has used at most the slice (R43, R44), and the task watchdog checks it. -/
def State.endSlice (s : State) (c used : Nat) : State :=
  if !s.beat.computing ∨ c < s.beat.slice then s
  else
    let s := s.sliceUsed c (min used (10 * s.get (F.sliceT0.next c)))
    ({ s with beat := { s.beat with slice := c + 1 } }).watchClass c

/-- SLICE_END (R43, R44, R88). -/
def execSliceEnd (cls : Fin 5) (used : Nat) (s : State) (cluster : Fin 3 := 0) : Host.Outcome State Fault Refusal :=
  .next (s.onCluster cluster (fun s => s.endSlice cls used))

end Sys2Proof.Machine
end

