-- ==== Sys2Proof/Machine/Sessions.lean ====
section
/-! DEFINITION. Sessions, forwarding and the Gong (R379 to R383, R402 to R406, R420). -/

namespace Sys2Proof.Machine

open Sys2Proof

/-- The priority cap of a privilege (R475). -/
def prioCap (priv : Nat) : Nat :=
  match priv with
  | 0 => 1
  | 1 => 4
  | 2 => 6
  | _ => 7

/-- The session ID after `n`: 32 bits, never 0 (R381). -/
def nextId (n : Nat) : Nat := if n ≥ 0xFFFFFFFF then 1 else n + 1

/-- The TLVs of a HELLO reply (R381, R420). -/
def helloTlvs (s : State) (x : Session) (resumed : Bool) : List Tlv :=
  [tlv 0x001F 4 x.id, tlv 0x001D 1 x.prio, tlv 0x0020 1 x.priv, tlv 0x0022 8 s.now,
   tlv 0x0023 1 (s.get F.side + 2 * s.get F.role), tlv 0x0024 4 s.units.pair.epoch,
   tlv 0x0021 1 (if resumed then 1 else 0)]

/-- The held session that a HELLO resumes (R382): held, and under the same certificate fingerprint. -/
def State.resumable (s : State) (p : Packet) : Option Session :=
  match p.find? 0x001F with
  | some x => s.lcp.sessions.find? (fun y => y.id == x.val && y.held && y.fp == p.cert.fp)
  | none => none

/-- The session that a HELLO opens anew. -/
def newSession (s : State) (p : Packet) : Session :=
  { id := s.lcp.nextSess, fp := p.cert.fp, priv := p.cert.priv, prio := min (p.val 0x001D 0) (prioCap p.cert.priv)
    service := p.service, pairIp := p.pairIp, last := s.now, idle := s.get F.sessionIdle, grace := s.get F.ownGrace, high := p.seq }

/-- SESSION_OPENED (R409). -/
def State.sessionOpened (s : State) (x : Session) (resumed : Bool) : State :=
  (s.audit 0x01 0 x.priv x.priv x.fp).raise 462 1 0 [(32, x.id), (32, x.fp), (8, x.prio), (8, if resumed then 1 else 0)]

/-- A session opens or is resumed, and HELLO is answered (R381, R382). -/
def State.openSession (s : State) (p : Packet) : State :=
  match s.resumable p with
  | some x =>
    let x := { x with held := false, lossCause := 0, service := p.service, pairIp := p.pairIp, last := s.now, high := max x.high p.seq }
    let s := (s.onSession x.id (fun _ => x)).countSessions
    (s.sessionOpened x true).answer
      { mkReply .hello p s (some .pair) 0 stOk (helloTlvs s x true) with sess := x.id }
  | none =>
    let x := newSession s p
    let s := { s with lcp := { s.lcp with sessions := s.lcp.sessions ++ [x], nextSess := nextId x.id } }
    let s := s.countSessions
    (s.sessionOpened x false).answer
      { mkReply .hello p s (some .pair) 0 stOk (helloTlvs s x false) with sess := x.id }

/-- SERVICE_AUTH_FAILED with its cause: 1 no nonce, 2 chain, 3 signature (DESIGN CHOICE, log entry 8); the audit record
names step 2 of R403 (R491). -/
def State.authFailed (s : State) (p : Packet) (cause : Nat) : State :=
  let s := s.audit 0x02 stNotPermitted 2 p.cert.priv p.cert.fp
  ({ s with lcp := { s.lcp with nonce := none } }.raise 464 1 2 [(8, cause)]).send
    (mkReply .hello p s (some .pair) 0 stNotPermitted (detail 7))

/-- HELLO on the service port (R403): the first gets a nonce, the second must be signed over it. -/
def State.helloService (s : State) (p : Packet) : State :=
  if !p.has 0x800D then
    let (n, s) := s.fresh 256
    let s := { s with lcp := { s.lcp with nonce := some n, nonceAt := s.now } }
    s.send (mkReply .hello p s (some .pair) 0 stNotPermitted [tlv 0x800C 32 n])
  else if s.lcp.nonce.isNone then s.authFailed p 1
  else if !p.has 0x800E || !p.chainOk then s.authFailed p 2
  else if !p.sigOk then s.authFailed p 3
  else
    let s := { s with lcp := { s.lcp with nonce := none } }
    if (s.lcp.sessions.filter (fun x => x.service && !x.held)).length ≥ 1 then
      s.send (mkReply .hello p s (some .pair) 0 stBusy [])
    else s.openSession p

/-- HELLO over TLS (R379, R381): BUSY beyond the 16th session. -/
def State.helloTls (s : State) (p : Packet) : State :=
  if (s.resumable p).isNone ∧ (s.lcp.sessions.filter (fun x => !x.service)).length ≥ 16 then
    s.send (mkReply .hello p s (some .pair) 0 stBusy [])
  else s.openSession p

/-- HELLO's own checks: a client name and a priority; the service-port TLVs on the service port alone (R420). -/
def helloChk (p : Packet) : Chk :=
  Chk.all [checkTlvs (allowedTlvs .hello) p.tlvs [] 1, needTlv p 0x001E, needTlv p 0x001D,
    param (p.service || !p.has 0x800E) (p.pos 0x800E), param (p.service || !p.has 0x800D) (p.pos 0x800D)]

/-- HELLO: opens or resumes a session. -/
def State.hello (s : State) (p : Packet) : State :=
  match admission .hello p s with
  | .go _ =>
    if p.hopLen ≠ 0 then s.send (mkReply .hello p s none 0 stBadParam [])
    else
      match helloChk p with
      | .bad st tl => s.send (mkReply .hello p s (some .pair) 0 st tl)
      | .ok => if p.service then s.helloService p else s.helloTls p
  | a => turnedAway .hello p a s

/-- HELLO (R381, R403). -/
def execHello (p : Packet) (s : State) : Host.Outcome State Fault Refusal := .next (s.hello p)

/-- BYE: answered OK, then the session is released at once (R382). -/
def execBye (p : Packet) (s : State) : Host.Outcome State Fault Refusal :=
  let s' := served .bye p (fun _ _ => .ok) (fun _ s => { st := s }) s
  let closes : Bool := match admission .bye p s with | .go _ => p.tlvs == [] | _ => false
  .next (if closes then s'.releaseSession p.sess 1 else s')

/-- PING: the current beat index (R382, R420). -/
def execPing (p : Packet) (s : State) : Host.Outcome State Fault Refusal :=
  .next (served .ping p (fun _ _ => .ok) (fun _ s => { st := s, tlvs := [tlv 0x0022 8 s.now] }) s)

/-- SESSION_PRIORITY: the priority changes within the cap, from the next Freeze (R381). -/
def sessionPriorityBody (p : Packet) (_ : UnitSel) (s : State) : Ans :=
  let n := min (p.val 0x001D 0) (prioCap (s.privOf p.sess))
  { st := s.onSession p.sess (fun x => { x with nextPrio := some n }), tlvs := [tlv 0x001D 1 n] }

/-- SESSION_PRIORITY (R381). -/
def execSessionPriority (p : Packet) (s : State) : Host.Outcome State Fault Refusal :=
  .next (served .sessionPriority p (fun _ _ => needTlv p 0x001D) (sessionPriorityBody p) s)

/-- SESSION_TRANSPORT_LOSS: TLS closed or lost, or the service port detached; the session is held for own_grace (R382). -/
def execSessionTransportLoss (sess : Nat) (s : State) : Host.Outcome State Fault Refusal := .next (s.closeConn sess)

/-- A time of `beats` has passed since the beat `since`; where no beat runs the timer's own command says so (log entry 40). -/
def State.elapsed (s : State) (since beats : Nat) : Bool := !s.beat.runs || decide (since + beats ≤ s.now)

/-- SESSION_IDLE_TIMEOUT: no packet for session_idle; as TLS loss (R382). -/
def execSessionIdleTimeout (sess : Nat) (s : State) : Host.Outcome State Fault Refusal :=
  .next (match s.session? sess with
    | some x => if s.elapsed x.last (4000 * x.idle) then s.holdSession sess 3 else s
    | none => s)

/-- OWN_GRACE_EXPIRY: a held session is released (R382). -/
def execOwnGraceExpiry (sess : Nat) (s : State) : Host.Outcome State Fault Refusal :=
  .next (match s.lcp.sessions.find? (fun x => x.id == sess && x.held) with
    | some x => if s.elapsed x.last (4000 * x.grace) then s.releaseSession sess x.lossCause else s
    | none => s)

/-- NONCE_EXPIRY: the nonce of the service port expires after 30 s (R403). -/
def execNonceExpiry (s : State) : Host.Outcome State Fault Refusal :=
  .next (if s.elapsed s.lcp.nonceAt 120000 then { s with lcp := { s.lcp with nonce := none } } else s)

/-- SERVICE_PACKET_CRC_FAIL: a service-port packet whose trailer fails is discarded and counted (R402). -/
def execServicePacketCrcFail (s : State) : Host.Outcome State Fault Refusal := .next (s.inc F.svcCrcErrors)

/-- TRANSFER_TIMEOUT: 60 s without a chunk abandon the transfer of the kind (R400). -/
def execTransferTimeout (image : Bool) (s : State) : Host.Outcome State Fault Refusal :=
  .next { s with lcp := { s.lcp with
    transfers := s.lcp.transfers.filter (fun t => t.image != image || !s.elapsed t.last 240000) } }

/-- FORWARD_TIMEOUT: a forwarded hop did not answer within its limit; TIMEOUT with the hop's position (R359, R360). -/
def execForwardTimeout (sess seq : Nat) (s : State) : Host.Outcome State Fault Refusal :=
  .next (match s.lcp.forwards.find? (fun f => f.req.sess == sess && f.req.seq == seq && s.elapsed f.beat f.limit) with
    | none => s
    | some f =>
      let s := { s with lcp := { s.lcp with
        forwards := s.lcp.forwards.filter (fun g => !(g.req.sess == sess && g.req.seq == seq)) } }
      s.answer { f.req with flags := 1 + 32, status := stTimeout, epoch := 0, tlvs := hopPos 1 })

/-! The Gong. -/

/-- GONG's checks (R404): 40 beats ahead of the first eligible beat, and the pair's own group. -/
def gongChk (p : Packet) (_ : UnitSel) (s : State) : Chk :=
  Chk.all [needTlv p 0x8002, needTlv p 0x800F,
    param (decide (s.eligible p.stamp + 40 ≤ p.val 0x8002 0)) (p.pos 0x8002),
    param (p.val 0x800F 0 == s.get F.gongGroup) (p.pos 0x800F)]

/-- GONG (R404): ACCEPTED with the target beat; the pair's own stop is scheduled, and three datagrams are to be sent. -/
def execGong (p : Packet) (s : State) : Host.Outcome State Fault Refusal :=
  let s' := queued .gong p (gongChk p) (fun _ _ => p.val 0x8002 0) s
  let accepted := decide (s'.lcp.queue.length = s.lcp.queue.length + 1)
  .next (if accepted then
      let (sig, s') := s'.fresh 768
      { s' with lcp := { s'.lcp with
          gongSerial := s'.lcp.gongSerial + 1
          gongs := s'.lcp.gongs ++ [p.val 0x8002 0]
          gongOut := s'.lcp.gongOut ++ [{ serial := s'.lcp.gongSerial + 1, group := p.val 0x800F 0
                                          target := p.val 0x8002 0, left := 3, signature := sig }] } }
    else s')

/-- GONG_DATAGRAM_SEND: the next of the three datagrams of the oldest Gong leaves on every port of gong_ports (R404,
R405); only the ACTIVE (or a SOLO module) sends. -/
def execGongDatagramSend (s : State) : Host.Outcome State Fault Refusal :=
  .next (if s.get F.role ≠ rActive ∧ s.get F.role ≠ rSolo then s
    else match s.lcp.gongOut with
    | [] => s
    | g :: rest =>
      let sent := if s.get F.gongPorts = 0 then s.lcp.gongSent else s.lcp.gongSent ++
        [{ group := g.group, target := g.target, serial := g.serial, signer := s.get F.certFingerprint 2, signature := g.signature }]
      { s with lcp := { s.lcp with
          gongSent := sent
          gongOut := if g.left ≤ 1 then rest else { g with left := g.left - 1 } :: rest } })

/-- GONG_REJECTED (R406, R409). -/
def State.gongRejected (s : State) (cause serial : Nat) : State := s.raise 467 1 2 [(8, cause), (32, min serial 0xFFFFFFFF)]

/-- A received Gong is checked by R406 and, if it passes, its stop is scheduled. -/
def State.gongReceive (s : State) (d : GongDatagram) : State :=
  if s.get F.gongGroup = 0 ∨ d.group ≠ s.get F.gongGroup then s
  else if !d.known then s.gongRejected 1 d.serial
  else
    if s.lcp.gongSeen.contains (d.signer, d.serial) then s
    else if s.lcp.gongSeen.any (fun g => g.1 == d.signer && decide (d.serial < g.2)) then s.gongRejected 2 d.serial
    else if d.target < s.eligible d.stamp then s.gongRejected 3 d.serial
    else
      let s := { s with lcp := { s.lcp with
        gongSeen := s.lcp.gongSeen ++ [(d.signer, d.serial)], gongs := s.lcp.gongs ++ [d.target] } }
      (s.put F.lastGongBeat d.target).raise 466 1 2
        [(32, d.signer), (32, min d.serial 0xFFFFFFFF), (32, d.target), (8, s.get F.timeLocked)]  -- GONG_RECEIVED (R54)

/-- GONG_DATAGRAM_RECEIVE (R406). -/
def execGongDatagramReceive (d : GongDatagram) (s : State) : Host.Outcome State Fault Refusal := .next (s.gongReceive d)

end Sys2Proof.Machine
end

