-- ==== Sys2Proof/Machine/Events.lean ====
section
/-! DEFINITION. Delivery of events, the fault-handling contexts, the recorder's port, the windowed watchdog and the Toll
(R18, R440 to R442, R446 to R470, R577), with the opcodes that read events and the recorder. -/

namespace Sys2Proof.Machine

open Sys2Proof

/-! Records (R439). -/

/-- The 32 bytes of a record. -/
def EvRec.word (r : EvRec) : Nat :=
  let source := r.src + r.sev * 2 ^ 9 + (if r.ptpValid then 2 ^ 12 else 0) + (if r.held then 2 ^ 13 else 0)
    + (if r.cont then 2 ^ 14 else 0)
  (packBytes [(5, r.op), (3, r.cycles), (4, r.beat), (6, r.ptp), (2, source), (2, r.code), (2, r.off), (8, r.data)]).1

/-- A RECORDS TLV of whole records (R418). -/
def recordsTlv (rs : List EvRec) : Tlv := tlvPacked 0x0032 (rs.map (fun r => (32, r.word)))

/-- The records from `first` on that fit a reply of `maxLen` bytes, and whether more follow (R401). -/
def sliceRecs (rs : List EvRec) (first maxLen : Nat) : List EvRec × Bool :=
  let n := min (maxLen / 32) 2040
  ((rs.drop first).take n, decide (first + n < rs.length))

/-! Delivery (R450). -/

/-- The records of the oldest event: its first record and the continuations behind it (R576). -/
def firstEvent : List EvRec → List EvRec × List EvRec
  | [] => ([], [])
  | r :: t => (r :: t.takeWhile (fun x => x.cont), t.dropWhile (fun x => x.cont))

/-- The ring of R577: at most 4,096 records, numbered from 1. -/
def EventSt.enter (e : EventSt) (rs : List EvRec) : EventSt :=
  { e with ring := lastN 4096 (e.ring ++ rs), ringNext := e.ringNext + rs.length }

/-- A subscription takes matching records, the newest lost where 1,024 wait (R426). -/
def Session.offer (x : Session) (rs : List EvRec) : Session :=
  match rs with
  | [] => x
  | r :: _ =>
    if bitOf x.mask r.src && decide (x.minSev ≤ r.sev) then
      rs.foldl (fun (x : Session) r =>
        if x.evq.length < 1024 then { x with evq := x.evq ++ [r] } else { x with dropped := x.dropped + 1 }) x
    else x

/-- The recorder takes records into its write buffer of 256, or into the hold queue of 4,096 while it is frozen; what
finds no room is counted lost (R18, R442). -/
def State.toRecorder (s : State) (rs : List EvRec) : State :=
  rs.foldl (fun (s : State) r =>
    if s.flag F.recFrozen then
      if s.jr.recHold.length < 4096 then
        ({ s with jr := { s.jr with recHold := s.jr.recHold ++ [r] } }).put F.holdDepth (s.jr.recHold.length + 1)
      else ({ s with jr := { s.jr with recDropped := s.jr.recDropped + 1 } }).inc F.recLost
    else if (s.jr.recBuf.filter (fun x => !x.held)).length < 256 then
      { s with jr := { s.jr with recBuf := s.jr.recBuf ++ [r] } }
    else s.inc F.recLost) s

/-- The clusters take records for the next image; beyond 256 the newest are discarded and counted (R452). -/
def EventSt.toImage (e : EventSt) (rs : List EvRec) : EventSt :=
  rs.foldl (fun (e : EventSt) r =>
    if e.imageQ.length < 256 then { e with imageQ := e.imageQ ++ [r] } else { e with imageLost := e.imageLost + 1 }) e

/-- A pin waits for its pulse, once (R321). -/
def EventSt.toPin (e : EventSt) (pin : Nat) : EventSt := { e with tpPulses := e.tpPulses ++ [pin] }

/-! What the display and the LEDs follow (R546, R547). -/

/-- An event of severity 2 or higher enters the page EVENTS, which lists the 32 newest. -/
def PanelSt.list (p : PanelSt) (seq : Nat) : PanelSt := { p with events := ((seq, false) :: p.events).take 32 }

/-- One LED of R547: 3 fast blink, 1 on, 2 slow blink, 0 off; where two conditions hold at once, fast stands before on and on
before slow (DESIGN CHOICE, log entry 27). -/
def ledCode (on slow fast : Bool) : Nat := if fast then 3 else if on then 1 else if slow then 2 else 0

/-- The six LEDs; while the module is quiesced only SEC is lit. -/
def State.showLeds (s : State) : State :=
  let m := s.get F.mode
  let r := s.get F.role
  let run := ledCode (m == mRun) (m == mHold) (m == mStart)
  let act := ledCode (r == rActive || r == rSolo) false (s.pair.handover.isSome || s.pair.handing)
  let stby := ledCode (r == rStandby && s.get F.ready == 1) (r == rStandby) (r == rShadow)
  let fault := ledCode (m == mSafe || s.panel.bootFail)
    (s.panel.events.any (fun e => !e.2) || s.get F.triad == 1 || s.panel.keyFault) (decide (2 ≤ s.get F.resetState))
  let sec := ledCode (s.get F.sec == 2) (s.get F.sec == 1) (s.get F.dbg != 0)
  let link := ledCode (s.get F.linkUp == 3) (s.get F.linkUp != 0) s.pair.linkLost
  s.put F.leds (if s.quiet then sec * 256 else run + act * 4 + stby * 16 + fault * 64 + sec * 256 + link * 1024)

/-- EVENT_DELIVER: the oldest stamped event goes to every destination of its route (R450 to R453). -/
def State.deliver (s : State) : State :=
  let (rs, rest) := firstEvent s.ev.router
  match rs with
  | [] => s
  | r :: _ =>
    let e := ({ s.ev with router := rest }).enter rs
    let e := if bitOf r.route 0 then e.toImage rs else e
    let e := if bitOf r.route 1 && !e.loopFlags.contains r.src then { e with loopFlags := e.loopFlags ++ [r.src] } else e
    let e := if bitOf r.route 4 then e.toPin 2 else e
    let e := if bitOf r.route 5 then e.toPin 3 else e
    let e := if r.sev ≥ 1 then
        { e with faults := e.faults ++ [{ src := r.src, sev := r.sev, beat := r.beat, off := r.off }] } else e
    let seq := s.ev.ringNext
    let s := { s with ev := e, lcp := { s.lcp with sessions := s.lcp.sessions.map (fun x => x.offer rs) } }
    let s := if r.sev ≥ 2 then ({ s with panel := s.panel.list seq }).showLeds else s
    let s := if r.sev ≥ 3 then s.put F.displayOn 1 else s
    if bitOf r.route 3 then s.toRecorder rs else s

/-- EVENT_DELIVER (R450). -/
def execEventDeliver (s : State) : Host.Outcome State Fault Refusal := .next s.deliver

/-! The Toll (R461 to R464). -/

/-- The Toll's record (R438): the instant of each expiry of the last 24 h in operating time. -/
def State.journalToll (s : State) : State :=
  s.journal 0x10 2 120 (packBytes ((lastN 15 s.wd.instants).map (fun i => (8, i / 250)))).1 false

/-- The step of the table of R462. -/
def tollTable (t n : Nat) : Nat := if t ≥ n then 3 else if t = 1 then 1 else 2

/-- One Toll step is counted and carried out: `forced` for a queue overflow or a fault in a severity-4 handler, which act
as step 2 below the limit (R462); the cases of R463 turn step 1 into step 2. -/
def State.tollStep (s : State) (cause : Nat) (forced : Bool) : State :=
  let s := { s.rejectNext with wd := { s.wd with instants := s.wd.instants ++ [s.beat.opBeats] } }
  let t := s.wd.instants.length
  let s := (s.put F.toll (min t 15)).latchCounts t
  let step := tollTable t (s.get F.tollLimit)
  let step0 := if forced && step == 1 then 2 else step
  let active := s.get F.role == rActive && s.pair.partnerReady
  let restarts := active || s.get F.mode == mStart || s.get F.mode == mSafe || s.rt.prog.isNone
  let done := if step0 = 1 ∧ restarts then 2 else step0
  let s := { s with wd := { s.wd with step := step, stepDone := done, hbStopped := s.wd.hbStopped || active } }
  let s := s.journalToll
  let s := s.journal 0x10 3 4 (s.get F.wdTotal) false
  -- TOLL_STEP
  let s := s.raiseLatched 399 1 (if done = 3 then 4 else 3) [(32, t), (8, done), (8, step), (8, cause)]
  if done = 3 then s.cause (.safe 1) 1
  else if done = 2 then s.cause .start 2
  else { s with wd := { s.wd with warmRestart := true } }

/-- O and C in ticks of the clock in use, each to the nearest tick, O at least 1 (R456). -/
def ticks (us clock : Nat) : Nat := if clock = 0 then us * 25 else (us * 32768 + 500000) / 1000000

/-- A wanted erase starts when the current window has at least 20 ms of its erase guard of 25 ms left (R529); it holds the
counter (R460). -/
def State.eraseStarts (s : State) : State :=
  if s.wd.erase ≠ 1 ∨ (s.wd.running ∧ 5000 < s.get F.guardUsed) then s
  else
    let s := { s with wd := { s.wd with erase := 2 } }
    if s.wd.running ∧ s.get F.wdState = 0 then s.put F.wdState 1 else s

/-- An erase is wanted. -/
def State.eraseWanted (s : State) : State := { s with wd := { s.wd with erase := 1 } }.eraseStarts

/-- The busy erase ends: the counter runs on, and the time for which it was held is used of the guard. -/
def State.eraseEnds (s : State) (held : Nat) : State :=
  let s := { s with wd := { s.wd with erase := 0 } }
  if s.get F.wdState = 1 then (s.put F.wdState 0).put F.guardUsed (min 25000 (s.get F.guardUsed + held)) else s

/-- A new window opens: counter 0, guard unused, the configured counts (R456, R465); a busy erase holds it, and one that
waited for the guard starts. -/
def State.openWindow (s : State) : State :=
  let c := s.get F.wdClockNow
  let s := ((((s.put F.wdState (if s.wd.erase = 2 then 1 else 0)).put F.wdCount 0).put F.guardUsed 0).put F.openCount
    (max 1 (ticks (s.get F.wdOpen) c))).put F.closeCount (ticks (s.get F.wdClose) c)
  { s with wd := { s.wd with running := true, waitAck := false, tokenMissed := false } }.eraseStarts

/-- An expiry (R461): the counts and the latch first; then the Supervisor acknowledges and carries the step out, or the
power manager waits for an acknowledgement that does not come. -/
def State.expire (s : State) (cause : Nat) : State :=
  let s := (((s.put F.wdState 2).put F.wdLastCause cause).inc F.wdTotal).put F.lastExpiryBeat s.now
  if s.lcp.mute then
    let s := { s with wd := { s.wd with instants := s.wd.instants ++ [s.beat.opBeats], waitAck := true } }
    (s.put F.toll (min s.wd.instants.length 15)).latchCounts s.wd.instants.length
  else
    let s := s.tollStep cause false
    if s.wd.stepDone = 1 then s.openWindow else { s with wd := { s.wd with running := false } }

/-- Ticks of the clock in use since the edge of the current beat. -/
def State.ticksInBeat (s : State) : Nat :=
  if s.get F.wdClockNow = 0 then s.beat.off / 8 else s.beat.off * 32768 / 200000000

/-- The Supervisor services at `k` (R458): in the Idle of a beat that began after the counter had passed (O + C) / 2, and only
where the runtime has written its liveness token at every Commit and the Supervisor's scheduler has completed every cycle; the
second alone in START, SAFE and while halted (R481). -/
def State.wdServes (s : State) (k : Nat) (schedOk : Bool) : Bool :=
  let m := s.get F.mode
  let idle := !s.beat.committing && (!s.beat.computing || s.slicesOver)
  let at_ := if s.beat.runs then k - s.ticksInBeat else k
  decide (s.get F.openCount + s.get F.closeCount < 2 * at_) && (!s.beat.runs || idle) && schedOk
    && (!s.wd.tokenMissed || m == mStart || m == mSafe || s.get F.haltState != 0)

/-- The write of a service word that lands at `k`, or none: by its rule the Supervisor withholds the service (R458). The
answer says whether the word is the current one. -/
def State.wdWritten (s : State) (k : Nat) : WdWrite → Option Bool
  | .byFault wordOk => some wordOk
  | .byRule schedOk => if s.wdServes k schedOk then some true else none

/-- A service word lands at counter value `k` (R457, R460). -/
def State.wdLands (s : State) (k : Nat) (wordOk : Bool) : State :=
    if !s.wd.running ∨ s.get F.wdState ≠ 0 then s
    else
      let s := s.put F.wdCount k
      if k ≥ s.get F.closeCount then
        (s.raiseLatched 394 1 3 [(8, 1), (32, k), (32, s.now)]).expire 1                     -- WD_EXPIRED
      else if !wordOk ∨ k < s.get F.openCount then
        (s.raiseLatched 395 1 3 [(32, k), (32, s.get F.openCount)]).expire 2                 -- WD_EARLY
      else s.openWindow

/-- WD_SERVICE (R457, R458). -/
def execWdService (k : Nat) (w : WdWrite) (s : State) : Host.Outcome State Fault Refusal :=
  .next (match s.wdWritten k w with
    | some wordOk => s.wdLands k wordOk
    | none => s)

/-- WD_EXPIRED (R457): the counter reaches C with no accepted service. -/
def execWdExpired (s : State) : Host.Outcome State Fault Refusal :=
  .next (
    if !s.wd.running ∨ s.get F.wdState ≠ 0 then s
    else
      let s := s.put F.wdCount (s.get F.closeCount)
      (s.raiseLatched 394 1 3 [(8, 1), (32, s.get F.closeCount), (32, s.now)]).expire 1)

/-- WD_ACK_TIMEOUT (R461): without an acknowledgement in 1 ms the power manager carries the step out by the T it has
counted: a module restart, after SAFE in its latch at step 3; TOLL_STEP follows at the next START (R470). -/
def execWdAckTimeout (s : State) : Host.Outcome State Fault Refusal :=
  .next (
    if !s.wd.waitAck then s
    else
      let t := s.wd.instants.length
      let step := tollTable t (s.get F.tollLimit)
      let s := { s with wd := { s.wd with
        waitAck := false, running := false, step := step, stepDone := if step = 3 then 3 else 2 } }
      let s := s.latch (fun l => { l with
        safeSet := l.safeSet || step == 3, safeCause := if step = 3 then 1 else l.safeCause
        events := setBit l.events 5 true })
      s.cause .start 2)

/-- WD_CLOCK_STOP (R459): the chosen clock stops; an expiry, and the other clock serves until the next START. -/
def execWdClockStop (s : State) : Host.Outcome State Fault Refusal :=
  .next (
    if !s.wd.running ∨ s.wd.clockStopped then s
    else
      let c := s.get F.wdClockNow
      let s := (s.put F.wdClockNow (1 - c)).put F.monitorOk 0
      let s := { s with wd := { s.wd with clockStopped := true } }
      (s.raiseLatched 396 1 3 [(8, c)]).expire 3)

/-- A health check fails (R145, R146, R177): its state and count; READY and the planned switch-over follow in the pair's
own step. -/
def State.healthFails (s : State) (k : Nat) : State :=
  if s.get F.hcState k = 3 then s
  else ((s.put F.hcState 2 k).inc F.hcFailCount k).raise 347 1 2 [(8, k)]

/-- WD_ERASE_GUARD (R460): an erase has used up the erase guard of the window; the counter runs on. -/
def execWdEraseGuard (target : Nat) (s : State) : Host.Outcome State Fault Refusal :=
  .next (if s.get F.wdState ≠ 1 then s
    else (((s.put F.eraseGuard 1).put F.guardUsed 25000).put F.wdState 0).raiseLatched 398 1 1 [(8, target), (32, 25000)])

/-- TOLL_AGE (R462): steps older than 24 h of operating time leave the count. -/
def execTollAge (s : State) : Host.Outcome State Fault Refusal :=
  let keep := s.wd.instants.filter (fun i => decide (s.beat.opBeats < i + 345600000))
  .next (({ s with wd := { s.wd with instants := keep } }).put F.toll (min keep.length 15))

/-! Fault contexts (R453 to R455). -/

/-- The sources whose faults the triad context takes: triad, tasks, loop engine, and the runtime's own events
(DEDUCED, log entry 18). -/
def triadSource (src : Nat) : Bool :=
  (decide (330 ≤ src) && decide (src ≤ 341)) || (decide (402 ≤ src) && decide (src ≤ 441))
    || (decide (452 ≤ src) && decide (src ≤ 456))

/-- FaultStatus follows the contexts (R468). -/
def State.showFaults (s : State) : State :=
  let sev := fun (c : FaultCtx) => match c.running with | some f => f.sev | none => 0xFF
  let s := (((s.put F.triadSev (sev s.ev.triad)).put F.triadQueue s.ev.triad.queue.length).put F.supSev
    (sev s.ev.sup)).put F.supQueue s.ev.sup.queue.length
  s.peak F.queuePeak (max s.ev.triad.queue.length s.ev.sup.queue.length)

/-- Replaces a context. -/
def State.putCtx (s : State) (triad : Bool) (c : FaultCtx) : State :=
  { s with ev := if triad then { s.ev with triad := c } else { s.ev with sup := c } }

/-- A fault reaches its context (R454). -/
def State.faultArrives (s : State) (f : FaultE) : State :=
  let t := triadSource f.src
  let c := if t then s.ev.triad else s.ev.sup
  let code := if t then 0 else 1
  match c.running with
  | none => (s.putCtx t { c with running := some f }).showFaults
  | some g =>
    if g.sev ≥ 4 then
      (s.raiseLatched 401 1 4 [(8, code), (16, f.src)]).tollStep 4 true                      -- FATAL_HANDLER_FAULT
    else if f.sev > g.sev then
      ((s.putCtx t { c with running := some f, preempted := g :: c.preempted }).inc F.preemptions).showFaults
    else if c.queue.length ≥ 16 then
      (s.raiseLatched 400 1 4 [(8, code), (32, f.sev)]).tollStep 5 true                      -- FAULT_QUEUE_OVERFLOW
    else (s.putCtx t { c with queue := c.queue ++ [f] }).showFaults

/-- FAULT_ARRIVAL (R454): the oldest fault delivered reaches its context. -/
def execFaultArrival (s : State) : Host.Outcome State Fault Refusal :=
  .next (match s.ev.faults with
    | [] => s
    | f :: rest => { s with ev := { s.ev with faults := rest } }.faultArrives f)

/-- The queued fault that is served first: highest severity, then earliest stamp, then lowest source (R454). -/
def firstFault (a : Option FaultE) (b : FaultE) : Option FaultE :=
  match a with
  | none => some b
  | some x =>
    if b.sev > x.sev ∨ (b.sev = x.sev ∧ (b.beat < x.beat ∨ (b.beat = x.beat ∧ (b.off < x.off ∨
      (b.off = x.off ∧ b.src < x.src))))) then some b else some x

/-- A handler ends: a queued fault of higher severity than the preempted handler starts, else that handler resumes, else
the queue is served (R454). -/
def FaultCtx.next (c : FaultCtx) : FaultCtx :=
  let best := c.queue.foldl firstFault none
  match best, c.preempted with
  | some f, p :: ps =>
    if f.sev > p.sev then { running := some f, preempted := c.preempted, queue := c.queue.erase f }
    else { running := some p, preempted := ps, queue := c.queue }
  | none, p :: ps => { running := some p, preempted := ps, queue := c.queue }
  | some f, [] => { running := some f, preempted := [], queue := c.queue.erase f }
  | none, [] => { running := none, preempted := [], queue := [] }

/-- FAULT_HANDLER_END (R39, R454): the running handler of a context ends; its time is charged to the fault reserve in
the triad context. -/
def execFaultHandlerEnd (triadCtx : Bool) (time : Nat) (s : State) : Host.Outcome State Fault Refusal :=
  let c := if triadCtx then s.ev.triad else s.ev.sup
  .next (match c.running with
    | none => s
    | some _ =>
      let s := (s.putCtx triadCtx c.next).showFaults
      if triadCtx then { s with beat := { s.beat with charged := s.beat.charged + time } } else s)

/-- The SAFE_CAUSE of a severity-4 fault (R78, R182): TRIAD_DUAL_MISMATCH, COMMIT_LATE, TOLL, else FATAL. -/
def fatalCause (src : Nat) : Nat :=
  if src = 335 then 3 else if src = 453 then 5 else if src = 399 then 1 else 2

/-- The severity-4 handler that runs. -/
def State.fatal? (s : State) : Option FaultE :=
  match s.ev.triad.running with
  | some f => if f.sev ≥ 4 then some f else
      (match s.ev.sup.running with | some g => if g.sev ≥ 4 then some g else none | none => none)
  | none => match s.ev.sup.running with | some g => if g.sev ≥ 4 then some g else none | none => none

/-- The SAFE record (R75, R437 type 0x09), in the Journal and the power manager's fault latch. -/
def State.safeRecord (s : State) (cause : Nat) : State :=
  (({ s with wd := { s.wd with safeRec := cause } }).latch (fun l => { l with
    safeSet := true, safeCause := cause })).journal 9 0 8 cause false

/-- A fault of cluster X's program: a triad fault, a task overrun, an MPU fault (R192). -/
def splitSource (src : Nat) : Bool := src == 330 || src == 391 || (decide (402 ≤ src) && decide (src < 434))

/-- FATAL_HANDLER (R455): the severity-4 handler writes the SAFE record, then releases the claim and the drive enable;
SAFE follows in the Freeze of the next beat (R62). The fault of cluster X on a SPLIT module is a module restart (R192). -/
def execFatalHandler (s : State) : Host.Outcome State Fault Refusal :=
  .next (match s.fatal? with
    | none => s
    | some f =>
      let c := fatalCause f.src
      if s.get F.triad = 2 ∧ splitSource f.src then (((s.rejectNext).put F.claim 0).put F.driveEn 0).cause .start 2
      else (((s.rejectNext.safeRecord c).put F.claim 0).put F.driveEn 0).cause (.safe c) 1)

/-! The recorder's port (R18, R440, R441). -/

/-- The Journal Store's port is free for the recorder: no Retain mirror and no Journal record waits for it (R18). -/
def State.portFree (s : State) : Bool := s.rt.mirror.isNone && s.jr.pend.isEmpty

/-- RECORDER_APPEND: the oldest record of the write buffer is written, or counted lost once the recorder is full. -/
def State.recorderAppend (s : State) : State :=
  match s.jr.recBuf with
  | [] => s
  | r :: rest =>
    if !s.portFree then s
    else
    let s := { s with jr := { s.jr with recBuf := rest } }
    let s := if 394 ≤ r.src ∧ r.src ≤ 401 then
        { s with pwr := { s.pwr with latch := { s.pwr.latch with events := setBit s.pwr.latch.events (r.src - 394) false } } }
      else s
    if s.flag F.recFull then s.inc F.recLost
    else
      let n := s.get F.recCount + 1
      let s := ({ s with jr := { s.jr with recs := s.jr.recs ++ [r] } }).put F.recCount n
      if n < 4194304 then s
      else
        let s := s.put F.recFull 1
        if s.jr.recFullRaised then s
        else { s with jr := { s.jr with recFullRaised := true } }.raise 379 1 1 [(32, s.now)]   -- RECORDER_FULL

/-- RECORDER_APPEND (R440). -/
def execRecorderAppend (s : State) : Host.Outcome State Fault Refusal := .next s.recorderAppend

/-! Opcodes (R424 to R426, R441, R442). -/

/-- RECORDER_FREEZE (R424, R442). -/
def execRecorderFreeze (p : Packet) (s : State) : Host.Outcome State Fault Refusal :=
  .next (served .recorderFreeze p
    (fun _ s => if s.flag F.recFrozen ∧ s.get F.frozenBy ≠ p.sess then
        .bad stBusy [tlv 0x8006 4 (s.get F.frozenBy)] else .ok)
    (fun _ s => { st := (s.put F.recFrozen 1).put F.frozenBy p.sess, tlvs := [tlv 0x0033 4 (s.get F.recCount)] }) s)

/-- RECORDER_READ (R424). -/
def execRecorderRead (p : Packet) (s : State) : Host.Outcome State Fault Refusal :=
  .next (served .recorderRead p (fun _ _ => Chk.all [needTlv p 0x0033, needTlv p 0x0026])
    (fun _ s =>
      let (rs, more) := sliceRecs s.jr.recs (p.val 0x0033 0) (p.val 0x0026 0)
      { st := s, tlvs := if rs.isEmpty then [] else [recordsTlv rs], more := more }) s)

/-- RECORDER_THAW (R424, R442): the hold queue is appended, as far as the recorder has room. -/
def recorderThawBody (_ : UnitSel) (s : State) : Ans :=
  let room := 4194304 - s.get F.recCount
  let n := min s.jr.recHold.length room
  let d := s.jr.recDropped
  { st := s.thaw, tlvs := [tlv 0x0033 4 n, tlv 0x0044 4 d] }

/-- RECORDER_THAW. -/
def execRecorderThaw (p : Packet) (s : State) : Host.Outcome State Fault Refusal :=
  .next (served .recorderThaw p (fun _ s => need (s.flag F.recFrozen && s.get F.frozenBy == p.sess) 9)
    recorderThawBody s)

/-- RECORDER_CLEAR (R441): counts cleared, record 0 is RECORDER_CLEARED with the old counts. -/
def recorderClearBody (p : Packet) (_ : UnitSel) (s : State) : Ans :=
  let s := s.auditBy p.sess 0x0F 0 0
  let c := s.get F.recCount
  let l := s.get F.recLost
  let s := { s with jr := { s.jr with recs := [], recFullRaised := false } }
  let s := (((s.put F.recCount 0).put F.recFull 0).put F.recLost 0).inc F.clearCount
  let recs := mkRecs s 381 1 0 (packData 64 0 0 [(32, c), (32, l)])
  let s := (s.inc F.raised 381)
  let s := { s with jr := { s.jr with recs := recs } }
  let s := s.put F.recCount recs.length
  -- the router carries it to its other destinations, its route without the recorder
  { st := { s with ev := { s.ev with router := s.ev.router ++ recs.map (fun r => { r with route := setBit r.route 3 false }) } } }

/-- RECORDER_CLEAR (R424, R441). -/
def execRecorderClear (p : Packet) (s : State) : Host.Outcome State Fault Refusal :=
  .next (served .recorderClear p (fun _ s => require (!s.flag F.recFrozen) stBusy []) (recorderClearBody p) s)

/-- EVENT_SUBSCRIBE (R425, R426): replaces the session's subscription; an all-zero mask ends it. -/
def execEventSubscribe (p : Packet) (s : State) : Host.Outcome State Fault Refusal :=
  .next (served .eventSubscribe p (fun _ _ => Chk.all [needTlv p 0x0042, needTlv p 0x0043])
    (fun _ s => { st := s.onSession p.sess (fun x => { x with
        mask := p.val 0x0042 0, minSev := p.val 0x0043 0, evq := [], dropped := 0 }) }) s)

/-- EVENT_READ (R425, R577): from an event sequence of the ring; an older index starts at the oldest held event. -/
def eventReadBody (p : Packet) (_ : UnitSel) (s : State) : Ans :=
  let oldest := s.ev.ringNext - s.ev.ring.length
  let want := p.val 0x0033 0
  let first := if want < oldest then 0 else want - oldest
  let (rs, more) := sliceRecs s.ev.ring first (p.val 0x0026 0)
  { st := s
    tlvs := (if rs.isEmpty then [] else [recordsTlv rs]) ++ (if want < oldest ∧ !rs.isEmpty then [tlv 0x0033 4 oldest] else [])
    more := more }

/-- EVENT_READ. -/
def execEventRead (p : Packet) (s : State) : Host.Outcome State Fault Refusal :=
  .next (served .eventRead p (fun _ _ => Chk.all [needTlv p 0x0033, needTlv p 0x0026]) (eventReadBody p) s)

/-- The event packet of a session (R426): its queued events, at most what a packet holds, and what was dropped. -/
def State.eventPackets (s : State) : State :=
  let due := s.lcp.sessions.filter (fun x => !x.held && (!x.evq.isEmpty || x.dropped != 0))
  let packet := fun (x : Session) =>
    ({ sess := x.id, op := 0x0D00, flags := 4, seq := 0, epoch := s.get F.epoch, status := 0, hopLen := 0, hops := []
       tlvs := (if x.evq.isEmpty then [] else [recordsTlv x.evq]) ++
         (if x.dropped = 0 then [] else [tlv 0x0044 4 x.dropped]) } : Reply)
  { s with lcp := { s.lcp with
      wire := s.lcp.wire ++ due.map packet
      sessions := s.lcp.sessions.map (fun x => if x.held then x else { x with evq := [], dropped := 0 }) } }

end Sys2Proof.Machine
end

