-- ==== Sys2Proof/Machine/Journal.lean ====
section
/-! DEFINITION. The Journal: records committed through the port, the Roll (R18, R429
to R435, R443). -/

namespace Sys2Proof.Machine

open Sys2Proof

/-! Records and superblocks as they stand in the store (R429, R433). -/

/-- Header and padded payload of a record (R429). -/
def recBody (r : JRec) : List Nat :=
  bytesOf 6 r.seq ++ [r.type, (if r.tomb then 1 else 0) + (if r.shared then 2 else 0)] ++ bytesOf 2 r.len ++ bytesOf 6 r.key
    ++ bytesOf ((r.len + 7) / 8 * 8) r.payload

/-- The COMMIT word of a record (R429). -/
def recCommit (seq : Nat) : Nat := seq % 2 ^ 32 ^^^ 0xA5C35A96

/-- A record as it is written: its SEQ, CRC and COMMIT (R430). -/
def recWritten (r : JRec) (seq : Nat) : JRec :=
  { r with seq := seq, crc := crc32c (recBody { r with seq := seq }), commit := recCommit seq }

/-- The records of a half that the scan of S3 accepts behind one of SEQ `prev` (R436). -/
def recScan (prev : Nat) : List JRec → List JRec
  | [] => []
  | r :: t =>
    if r.len ≤ 4096 ∧ r.commit = recCommit r.seq ∧ prev < r.seq ∧ r.crc = crc32c (recBody r) then r :: recScan r.seq t else []

/-- A superblock copy with its SB_CRC (R433). -/
def mkSuperblock (seq half : Nat) : Superblock :=
  { seq := seq, half := half, crc := crc32c (bytesOf 4 0x4B4A5342 ++ bytesOf 8 seq ++ [half] ++ List.replicate 15 0) }

/-- A superblock copy is valid when SB_MAGIC and SB_CRC are correct (R433). -/
def sbOk (b : Superblock) : Bool := b == mkSuperblock b.seq b.half

/-- The valid copy with the higher SB_SEQ (R433), none where neither is valid; `r0`, `r1` say that a copy reads as written. -/
def State.superblock? (s : State) (r0 r1 : Bool) : Option Superblock :=
  let v0 := r0 && sbOk s.jr.sb0
  let v1 := r1 && sbOk s.jr.sb1
  if v0 ∧ v1 then some (if s.jr.sb0.seq < s.jr.sb1.seq then s.jr.sb1 else s.jr.sb0)
  else if v0 then some s.jr.sb0
  else if v1 then some s.jr.sb1 else none

/-! The Journal's port (R430, R431). -/

/-- The standing records of a half (R431): the highest SEQ of each TYPE and KEY, unless it deletes its key. -/
def standing (l : List JRec) (r : JRec) : Bool :=
  !r.tomb && l.all (fun x => !(x.type == r.type && x.key == r.key) || decide (x.seq ≤ r.seq))

/-- Roll starts (R434): ROLL_START with the occupancy in percent. -/
def State.rollStart (s : State) (restart : Nat) : State :=
  let s := { s with jr := { s.jr with other := [], otherBytes := 0, copied := 0, rollWanted := false } }
  (s.put F.rollState 1).raise 376 1 0
    [(32, toF32 (((s.get F.liveBytes * 100 : Nat) : Rat) / 134217728)), (8, restart)]

/-- The live half has reached the threshold, and 8 MiB more after a Roll that found it full (R434, R435). -/
def State.rollDue (s : State) : Bool :=
  s.get F.rollState == 0 && decide (s.get F.rollThreshold * 134217728 ≤ s.get F.liveBytes * 100)
    && (!s.jr.full || decide (s.jr.fullMark + 8388608 ≤ s.get F.liveBytes))

/-- The oldest record at the port is written and committed (R430), behind a Retain mirror that holds the port (R18); replies
that waited for it leave. -/
def State.commitRecord (s : State) : State :=
  match s.jr.pend with
  | [] => s
  | r :: rest =>
    if s.get F.rollState = 2 ∨ s.rt.mirror.isSome then s
    else
      let n := s.get F.nextSeq
      let s := { s with jr := { s.jr with
        pend := rest, live := s.jr.live ++ [recWritten r n], commits := s.jr.commits + 1 } }
      let s := ((s.put F.nextSeq (n + 1)).put F.liveBytes (s.get F.liveBytes + recBytes r.len)).put F.liveRecords
        (s.get F.liveRecords + 1)
      let s := if s.rollDue then s.rollStart 0 else s
      s.releaseHeld (if s.get F.role = rActive then s.get F.lastClosed else 0)

/-- JOURNAL_RECORD_COMMIT (R430). -/
def execJournalRecordCommit (s : State) : Host.Outcome State Fault Refusal := .next s.commitRecord

/-- What a beat of the Roll copies: standing records in ascending SEQ, at most `budget` bytes (R434). Records seen, bytes
copied, records copied. -/
def rollTake (all : List JRec) : List JRec → Nat → Nat → List JRec → Nat × List JRec
  | [], _, n, acc => (n, acc)
  | r :: t, budget, n, acc =>
    if standing all r then
      if recBytes r.len ≤ budget then rollTake all t (budget - recBytes r.len) (n + 1) (acc ++ [r]) else (n, acc)
    else rollTake all t budget (n + 1) acc

/-- ROLL_COPY (R434 steps 1 to 3), in port time that nothing else asks for (R18): up to 64 KiB of standing records in a beat;
at the tail the switch takes the port. -/
def State.rollCopy (s : State) : State :=
  if s.get F.rollState ≠ 1 ∨ !s.portFree ∨ !s.jr.recBuf.isEmpty then s
  else
    let (n, rs) := rollTake s.jr.live (s.jr.live.drop s.jr.copied) (65536 - s.jr.rolled) 0 []
    let bytes := rs.foldl (fun a r => a + recBytes r.len) 0
    let s := { s with jr := { s.jr with
      rolled := if s.beat.runs then s.jr.rolled + bytes else 0
      other := s.jr.other ++ rs, otherBytes := s.jr.otherBytes + bytes, copied := s.jr.copied + n } }
    if s.jr.copied ≥ s.jr.live.length then s.put F.rollState 2 else s

/-- ROLL_COPY (R434). -/
def execRollCopy (s : State) : Host.Outcome State Fault Refusal := .next s.rollCopy

/-- The other half becomes the live one. -/
def State.swapHalves (s : State) : State :=
  let s := { s with jr := { s.jr with live := s.jr.other, other := s.jr.live, otherBytes := 0, copied := 0 } }
  ((s.put F.liveHalf (1 - s.get F.liveHalf)).put F.liveBytes (pendBytes s.jr.live)).put F.liveRecords s.jr.live.length

/-- The switch of step 3 (R433, R434): the copy that does not name the live half is written, and the new half is live. -/
def State.rollSwitch (s : State) : State :=
  let seq := s.get F.sbSeq + 1
  let block := mkSuperblock seq (1 - s.get F.liveHalf)
  let s := if s.jr.sb0.half = s.get F.liveHalf then { s with jr := { s.jr with sb1 := block } }
    else { s with jr := { s.jr with sb0 := block } }
  ((s.swapHalves.put F.sbSeq seq).put F.rollState 0).inc F.rollCount

/-- ROLL_DONE (R434, R435): the superblock names the new half; a Roll that ends above the threshold raises JOURNAL_FULL. -/
def State.rollDone (s : State) : State :=
  if s.get F.rollState ≠ 2 then s
  else
    let s := s.rollSwitch
    let half := s.get F.liveHalf
    let bytes := s.get F.liveBytes
    let s := s.raise 377 1 0 [(8, half), (32, s.get F.sbSeq), (32, bytes)]       -- ROLL_DONE
    if s.get F.rollThreshold * 134217728 ≤ bytes * 100 then
      { s with jr := { s.jr with full := true, fullMark := bytes } }.raise 378 1 2 [(32, bytes)]   -- JOURNAL_FULL
    else { s with jr := { s.jr with full := false } }

/-- ROLL_DONE (R434). -/
def execRollDone (s : State) : Host.Outcome State Fault Refusal := .next s.rollDone

/-- A Roll in progress is abandoned by a power-down sequence, a module restart or DORMANT; a switch is not (R435). -/
def State.rollAbandon (s : State) : State :=
  if s.get F.rollState = 1 then
    ({ s with jr := { s.jr with other := [], otherBytes := 0, copied := 0, rollWanted := true } }).put F.rollState 0
  else s

/-- JOURNAL_STATUS (R424, R443). -/
def execJournalStatus (p : Packet) (s : State) : Host.Outcome State Fault Refusal :=
  .next (served .journalStatus p (fun _ _ => .ok) (fun _ s => { st := s, tlvs := [packObj s 0x9000 1 0x0A] }) s)

/-- ROLL_NOW (R424, R434): OK when Roll has started, BUSY while one runs. -/
def execRollNow (p : Packet) (s : State) : Host.Outcome State Fault Refusal :=
  .next (served .rollNow p (fun _ s => require (s.get F.rollState == 0) stBusy []) (fun _ s => { st := s.rollStart 0 }) s)

end Sys2Proof.Machine
end

