-- ==== Sys2Proof/Machine/Can.lean ====
section
/-! DEFINITION. The CAN FD controllers: message objects, filters, error confinement, automatic bit rate detection, faults
(R329 to R352). -/

namespace Sys2Proof.Machine

open Sys2Proof

/-- Message object `o` (controller × 128 + object). -/
def State.canObj (s : State) (o : Nat) : CanObjRt := (s.can.objs.find? (fun x => x.o == o)).getD { o := o }

/-- Replaces a message object. -/
def State.putCanObj (s : State) (x : CanObjRt) : State :=
  { s with can := { s.can with objs := s.can.objs.filter (fun y => y.o != x.o) ++ [x] } }

/-- Controller `k`. -/
def State.canCtl (s : State) (k : Nat) : CanRt := (s.can.ctls.find? (fun x => x.k == k)).getD { k := k }

/-- Replaces a controller. -/
def State.putCanCtl (s : State) (x : CanRt) : State :=
  { s with can := { s.can with ctls := s.can.ctls.filter (fun y => y.k != x.k) ++ [x] } }

/-- The payload lengths of R332. -/
def canLenOk (fd : Bool) (len : Nat) : Bool :=
  decide (len ≤ 8) || (fd && [12, 16, 20, 24, 32, 48, 64].contains len)

/-- ObjConfig, obj_id, tx_period and tx_phase fit together (R332, R335, R350). -/
def canObjOk (cfg id period phase : Nat) : Bool :=
  let dir := bitsOf cfg 0 2
  let cls := bitsOf cfg 16 3
  decide (dir ≤ 2) && decide (bitsOf cfg 7 2 ≤ 2) && decide (cls ≤ 4) && decide (cfg < 2 ^ 19) && decide (id < 2 ^ 29)
    && canLenOk (bitOf cfg 3) (bitsOf cfg 9 7) && decide (1 ≤ period) && decide (period ≤ 4000) && decide (phase < period)
    && (!(dir == 2 && bitsOf cfg 7 2 == 1) || period % classBeats cls == 0)

/-- The objects of a controller. -/
def canObjsOf (k : Nat) : List Nat := (List.range 128).map (· + 128 * k)

/-- The bus mode by can_mode, mode, role, fault and detection (R331, R342, R344): 0 off, 1 normal, 2 monitoring, 3
detecting. -/
def State.canBusModeOf (s : State) (k : Nat) : Nat :=
  let m := s.get F.canMode k
  if m = 0 ∨ s.get F.mode = mDormant ∨ s.get F.canFault k ≠ 0 then 0
  else
    let normal := if drives (s.get F.mode) (s.get F.role) then 1 else 2
    if m = 1 then normal
    else if m = 2 then 2
    else
      match (s.canCtl k).detect with
      | 0 => 3
      | 2 => normal
      | _ => 2

/-- A pending frame is dropped; `mark` sets TX_DROPPED. -/
def State.canDropObj (s : State) (o : Nat) (mark : Bool) : State :=
  if s.flag F.objPending o then
    let s := (s.put F.objPending 0 o).putCanObj { s.canObj o with payload := none }
    if mark then s.put F.objTxDropped 1 o else s
  else s

/-- The pending frames of a controller are dropped. -/
def State.canDropCtl (s : State) (k : Nat) (mark : Bool) : State :=
  (canObjsOf k).foldl (fun (s : State) o => s.canDropObj o mark) s

/-- Every pending frame is dropped, at entry into STOP, START or SAFE (R335). -/
def State.canDropAll (s : State) : State :=
  (s.can.objs.filter (fun x => x.payload.isSome)).foldl (fun (s : State) x => s.canDropObj x.o true) s

/-- Controllers enter and leave normal operation with mode and role (R331, R343): error active with both counts 0, or not
on the bus. -/
def State.canShow (s : State) : State :=
  (List.range 8).foldl (fun (s : State) k =>
    let m := s.canBusModeOf k
    let old := s.get F.canBusMode k
    if m = old then s
    else
      let s := s.put F.canBusMode m k
      if m = 1 then ((s.put F.canErrState 0 k).put F.canTec 0 k).put F.canRec 0 k
      else
        let s := if old = 1 then s.canDropCtl k true else s
        s.put F.canErrState 3 k) s

/-- TEC and REC take values, and the error state follows (R339); each change raises CAN_ERROR_STATE, bus-off drops the
pending frames. -/
def State.canErr (s : State) (k tec rec' : Nat) : State :=
  let old := s.get F.canErrState k
  let new := if tec > 255 then 2 else if tec ≥ 128 ∨ rec' ≥ 128 then 1 else 0
  let s := (s.put F.canTec (min tec 255) k).put F.canRec (min rec' 255) k
  if new = old then s
  else
    let s := s.put F.canErrState new k
    let s := if new = 2 then (s.inc F.canBusOffCount k).canDropCtl k true else s
    s.raise (222 + 8 * k) 1 (if new = 2 then 2 else 1) [(2, old), (2, new), (8, min tec 255), (8, min rec' 255)]

/-- An error on the bus is counted; CAN_PROTOCOL_ERROR at most once per second (R349, R352). -/
def State.canCountErr (s : State) (k kind : Nat) : State :=
  let s := s.inc F.canProtocolErrors k
  let c := s.canCtl k
  let due : Bool := match c.errRaised with | some t => decide (t + 4000 ≤ s.beat.opBeats) | none => true
  if due then (s.putCanCtl { c with errRaised := some s.beat.opBeats }).raise (229 + 8 * k) 1 0 [(8, kind)] else s

/-- NO_PEER of an object, and the count of suspended objects. -/
def State.setNoPeer (s : State) (o : Nat) (b : Bool) : State :=
  let s := s.putFlag F.objNoPeer b o
  let k := o / 128
  s.put F.canNoPeerObjs ((canObjsOf k).filter (fun o => s.flag F.objNoPeer o)).length k

/-- A suspended object resumes (R340). -/
def State.canResume (s : State) (o : Nat) : State :=
  if s.flag F.objNoPeer o then (s.putCanObj { s.canObj o with resume := false }).setNoPeer o false else s

/-- Every suspended object of a controller resumes at the next Commit. -/
def State.canWake (s : State) (k : Nat) : State :=
  if s.get F.canNoPeerObjs k = 0 then s
  else (canObjsOf k).foldl (fun (s : State) o =>
    if s.flag F.objNoPeer o then s.putCanObj { s.canObj o with resume := true } else s) s

/-! Reception (R333, R334, R338). -/

/-- Filter element `e` (of 2,048) matches an identifier (R338). -/
def State.filterMatches (s : State) (e : Nat) (f : CanFrame) : Bool :=
  let t := s.get F.fType e
  let a := s.get F.fId1 e
  let b := s.get F.fId2 e
  t != 0 && s.flag F.fExt e == f.ide &&
    (if t = 1 then decide (a ≤ f.id) && decide (f.id ≤ b)
     else if t = 2 then f.id == a || f.id == b
     else f.id &&& b == a &&& b)

/-- The element of a controller that decides a frame. -/
def State.filterOf (s : State) (k : Nat) (f : CanFrame) : Option Nat :=
  ((List.range 256).map (· + 256 * k)).find? (fun e => s.filterMatches e f)

/-- A frame is stored in an RX object by its lock (R333). -/
def State.canStore (s : State) (k o : Nat) (f : CanFrame) : State :=
  let s := s.inc F.canRxFrames k
  let x := s.canObj o
  if s.can.locked || f.atEdge then
    if x.shadow.isSome then
      let s := ((s.putCanObj { x with shadow := some f, held := x.held + 1 }).put F.objLost 1 o).inc F.objLostCount o
      s.raise (224 + 8 * k) 1 1 [(16, o % 128)]                                     -- CAN_LOST
    else s.putCanObj { x with shadow := some f, held := x.held + 1 }
  else
    let s := if x.primary.isSome && x.stored != 0 then s.inc F.objOverwrites o else s
    s.putCanObj { x with primary := some f, stored := x.stored + 1 }

/-- A received frame is filtered (R338). -/
def State.canFilter (s : State) (k : Nat) (f : CanFrame) : State :=
  match s.filterOf k f with
  | none => s.inc F.canUnmatched k
  | some e =>
    let o := 128 * k + s.get F.fObject e
    if s.flag F.fAction e ∨ s.get F.objDir o ≠ 1 then s else s.canStore k o f

/-- The 12 rates of R341: bit/s, nom_brp, nom_tseg1, nom_tseg2. -/
def abrTable : List (Nat × Nat × Nat × Nat) :=
  [(1000000, 1, 69, 10), (800000, 1, 87, 12), (500000, 2, 69, 10), (250000, 4, 69, 10), (125000, 8, 69, 10),
   (100000, 10, 69, 10), (83333, 12, 69, 10), (62500, 16, 69, 10), (50000, 20, 69, 10), (33333, 30, 69, 10),
   (20000, 50, 69, 10), (10000, 100, 69, 10)]

/-- A frame received without error while a controller searches (R342): the second in a row without BRS is a match, except
at entry 11, which this issue does not recognise (KL-01). -/
def State.abrFrame (s : State) (k : Nat) (f : CanFrame) : State :=
  let c := s.canCtl k
  if f.brs ∨ c.entry ≥ 11 then s
  else if c.good = 0 then s.putCanCtl { c with good := 1 }
  else
    let rate := ((abrTable[c.entry]?).getD (0, 0, 0, 0)).1
    let s := s.putCanCtl { c with good := 0, detect := 1, adopt := s.flag F.abrApply k }
    ((s.put F.canAbrRate rate k).raise (226 + 8 * k) 1 0 [(32, rate)]).canShow      -- CAN_ABR_DONE

/-- REC after a frame received without error, by ISO 11898-1 (R339): one less, or from above 127 to a value between 119
and 127, which the standard leaves open. -/
def State.canRxOk (s : State) (k : Nat) : State :=
  let r := s.get F.canRec k
  if r = 0 then s
  else if r ≤ 127 then s.canErr k (s.get F.canTec k) (r - 1)
  else
    let (v, s) := s.fresh 8
    s.canErr k (s.get F.canTec k) (119 + v % 9)

/-- CAN_FRAME_RECEIVE (R333): every frame on the bus of a controller that is not off; an FD frame with fd_enable 0 counts
as an error (R347). -/
def State.canReceive (s : State) (k : Nat) (f : CanFrame) : State :=
  let m := s.get F.canBusMode k
  if m = 0 ∨ s.get F.canErrState k = 2 then s
  else if f.fdf && !s.flag F.fdEnable k then s.canCountErr k 2
  else
    let s := if m = 3 then s.abrFrame k f else if m = 1 then s.canRxOk k else s
    (s.canWake k).canFilter k f

/-- CAN_FRAME_RECEIVE. -/
def execCanFrameReceive (k : Fin 8) (f : CanFrame) (s : State) : Host.Outcome State Fault Refusal := .next (s.canReceive k f)

/-- Bytes of a record (R334). -/
def canRecord (s : State) (o : Nat) (f : CanFrame) (stored q : Nat) : Nat :=
  let k := o / 128
  let any : Bool := s.get F.canNoPeerObjs k != 0
  let failed : Bool := (canObjsOf k).any (fun o => s.flag F.objTxFailed o)
  let flags := (if f.fdf then 1 else 0) + (if f.brs then 2 else 0) + (if f.esi then 4 else 0) + 8 * s.get F.objLost o
    + (if any then 16 else 0) + (if failed then 32 else 0)
  (packBytes [(4, f.id % 2 ^ 29 + (if f.ide then 2 ^ 29 else 0) + (if f.rtr then 2 ^ 30 else 0)), (1, f.len), (1, flags),
    (1, min stored 255), (1, q), (8, f.sof), (64, f.data % 256 ^ f.len)]).1

/-- The Freeze copies an RX object and unlocks it (R333, R334). -/
def State.canCopy (s : State) (o : Nat) : State :=
  if s.get F.objDir o ≠ 1 then s
  else
    let x := s.canObj o
    let q := match x.primary with
      | none => 3
      | some _ => if s.get F.canFault (o / 128) ≠ 0 then 1 else 0
    let f := x.primary.getD { id := 0, ide := false, rtr := false, fdf := false, brs := false, esi := false, len := 0, data := 0
                              sof := 0, atEdge := false }
    let x' := { x with
      shown := canRecord s o f x.stored q, shownQ := q, stored := x.held, held := 0
      primary := if x.shadow.isSome then x.shadow else x.primary, shadow := none }
    (s.putCanObj x').put F.objLost 0 o

/-- The Freeze copies every RX object that has been configured. -/
def State.canFreeze (s : State) : State :=
  let s := (List.range 1024).foldl (fun (s : State) o => s.canCopy o) s
  { s with can := { s.can with locked := false } }

/-- The input points of the program on an RX object, in INDEX order, take consecutive payload bytes (DESIGN CHOICE, log
entry 23): offset of a point. -/
def canOffset (rt : RtSt) (kind : Nat) (v : ValDef) : Nat :=
  match rt.prog with
  | none => 0
  | some p => (p.vals.filter (fun w =>
      w.kind == kind && w.station.isNone && w.statusObj == v.statusObj && decide (w.idx < v.idx))).foldl
        (fun a w => a + tyBytes w.ty) 0

/-- The value and QUALITY of an input point on object `o`. -/
def State.canPoint (s : State) (v : ValDef) (o : Nat) : Nat × Nat :=
  let x := s.canObj o
  (x.shown / 256 ^ (16 + canOffset s.rt 3 v) % 256 ^ tyBytes v.ty, x.shownQ)

/-! Transmission (R335 to R337, R340). -/

/-- The payload that the committed outputs give a TX object. -/
def State.canPayload (s : State) (o : Nat) : Nat :=
  (s.rt.outPoints.filter (fun v => v.station.isNone && v.statusObj == 0x6400 + o)).foldl (fun a v =>
    a + ((valAt s.rt.outs v.idx).getD v.safeVal % 256 ^ tyBytes v.ty) * 256 ^ canOffset s.rt 4 v) 0
      % 256 ^ s.get F.objLen o

/-- A TX object queues a frame at this Commit (R335). -/
def State.canDue (s : State) (o : Nat) (payload : Nat) : Bool :=
  match s.get F.objTrigger o with
  | 0 => s.can.sys.contains o && cycleEnds s.now (s.get F.objClass o)
  | 1 => s.now % s.get F.objTxPeriod o == s.get F.objTxPhase o
  | _ => (s.canObj o).lastSent != some (s.get F.objId o, payload)

/-- The Commit's part of one TX object: it queues; a pending frame is replaced (R336). -/
def State.canQueueObj (s : State) (o : Nat) : State :=
  let d := s.canPayload o
  if s.get F.objDir o ≠ 2 ∨ s.flag F.objNoPeer o ∨ s.get F.canBusMode (o / 128) ≠ 1 ∨ s.get F.canErrState (o / 128) = 2
    ∨ !s.canDue o d then s
  else
    let s := if s.flag F.objPending o then s.inc F.objOverwrites o else s
    (s.putCanObj { s.canObj o with payload := some d, lastSent := some (s.get F.objId o, d) }).put F.objPending 1 o

/-- At the Commit suspended objects resume whose cause has come (R340); it queues frames in RUN and HOLD (R335). Consumed
system values are cleared: CAN_SEND of a class with the end of its cycle, CAN_RESUME at once. -/
def State.canCommit (s : State) : State :=
  let s := (List.range 1024).foldl (fun (s : State) o =>
    if (s.canObj o).resume || s.can.sys.contains (1024 + o) then s.canResume o else s) s
  if s.get F.mode ≠ mRun ∧ s.get F.mode ≠ mHold then s
  else
    let s := (List.range 1024).foldl (fun (s : State) o => if s.get F.objDir o = 2 then s.canQueueObj o else s) s
    { s with can := { s.can with
        sys := s.can.sys.filter (fun o => decide (o < 1024) && !cycleEnds s.now (s.get F.objClass o)) } }

/-- A controller is on its bus and the object has a frame to send. -/
def State.canSends (s : State) (o : Nat) : Bool :=
  s.get F.canBusMode (o / 128) == 1 && s.get F.canErrState (o / 128) != 2 && s.flag F.objPending o

/-- CAN_TX_COMPLETE (R339, R340): the frame has been sent; TEC is one less by ISO 11898-1. -/
def execCanTxComplete (k : Fin 8) (obj : Fin 128) (s : State) : Host.Outcome State Fault Refusal :=
  let o := 128 * k.val + obj.val
  .next (
    if !s.canSends o then s
    else
      let s := ((s.inc F.canTxFrames k).put F.objAckErrRun 0 o).canDropObj o false
      if s.get F.canTec k = 0 then s else s.canErr k (s.get F.canTec k - 1) (s.get F.canRec k))

/-- A single-shot frame ends on an error (R337). -/
def State.canShotEnds (s : State) (o : Nat) : State :=
  if s.flag F.objSingleShot o && s.flag F.objPending o then
    ((s.canDropObj o false).put F.objTxFailed 1 o).raise (225 + 8 * (o / 128)) 1 1 [(16, o % 128)]  -- CAN_TX_FAILED
  else s

/-- CAN_BUS_ERROR (R339): in normal operation with the counts ISO 11898-1 gives; while monitoring no count changes; while
detecting the match starts again (R342). -/
def execCanBusError (k : Fin 8) (kind : Nat) (tx : Option (Fin 128)) (tec rec' : Nat) (s : State) :
    Host.Outcome State Fault Refusal :=
  let m := s.get F.canBusMode k
  .next (
    if m = 0 ∨ s.get F.canErrState k = 2 then s
    else
      let s := s.canCountErr k kind
      if m = 1 then
        let s : State := match tx with
          | some j => s.canShotEnds (128 * k.val + j.val)
          | none => s
        s.canErr k tec rec'
      else s.putCanCtl { s.canCtl k with good := 0 })

/-- CAN_ACK_ERROR (R340): TEC rises by 8 while error active; the 64th in a row suspends the object. -/
def execCanAckError (k : Fin 8) (obj : Fin 128) (s : State) : Host.Outcome State Fault Refusal :=
  let o := 128 * k.val + obj.val
  .next (
    if !s.canSends o then s
    else
      let s := s.canCountErr k 3
      let s := if s.get F.canErrState k = 0 then s.canErr k (s.get F.canTec k + 8) (s.get F.canRec k) else s
      let n := s.get F.objAckErrRun o + 1
      let s : State := if n ≥ 64 then
          let s := ((s.canDropObj o false).put F.objAckErrRun 0 o).setNoPeer o true
          s.raise (223 + 8 * k.val) 1 2 [(16, obj.val)]                             -- CAN_NO_PEER
        else s.put F.objAckErrRun n o
      s.canShotEnds o)

/-- CAN_NO_PEER_RESUME (R340): at the Commit after its cause. -/
def execCanNoPeerResume (k : Fin 8) (obj : Fin 128) (s : State) : Host.Outcome State Fault Refusal :=
  let o := 128 * k.val + obj.val
  .next (if (s.canObj o).resume || s.can.sys.contains (1024 + o) then s.canResume o else s)

/-- 1 written to RECOVER (R339): MANUAL recovery starts. -/
def State.canRecover (s : State) (k : Nat) : State :=
  if s.get F.canErrState k = 2 ∧ s.get F.busoffRecoveryCfg k = 0 then s.putCanCtl { s.canCtl k with recovering := true } else s

/-- CAN_RECOVER (R339). -/
def execCanRecover (k : Fin 8) (s : State) : Host.Outcome State Fault Refusal := .next (s.canRecover k)

/-- CAN_BUSOFF_RECOVERY (R339): 128 occurrences of 11 recessive bits have been observed. -/
def execCanBusoffRecovery (k : Fin 8) (s : State) : Host.Outcome State Fault Refusal :=
  .next (
    if s.get F.canErrState k = 2 ∧ (s.get F.busoffRecoveryCfg k = 1 ∨ (s.canCtl k).recovering) then
      (s.putCanCtl { s.canCtl k with recovering := false }).canErr k 0 0
    else s)

/-- CAN_ABR_DWELL (R342): 200 ms after an entry was entered the next one is tried; after abr_rounds passes detection has
failed. -/
def execCanAbrDwell (k : Fin 8) (s : State) : Host.Outcome State Fault Refusal :=
  let c := s.canCtl k
  let t := s.beat.opBeats
  .next (
    if s.get F.canBusMode k ≠ 3 ∨ t < c.since + 800 then s
    else if c.entry < 11 then s.putCanCtl { c with entry := c.entry + 1, good := 0, since := t }
    else if c.rounds + 1 < s.get F.abrRounds k then
      s.putCanCtl { c with entry := 0, good := 0, rounds := c.rounds + 1, since := t }
    else
      let s := (s.putCanCtl { c with detect := 3, good := 0, rounds := c.rounds + 1 }).put F.canAbrRate 0 k
      (s.raise (227 + 8 * k.val) 1 1 [(32, c.rounds + 1)]).canShow)                 -- CAN_ABR_FAILED

/-! Faults (R344). -/

/-- A controller fault: it leaves the bus; the third fault within 60 s makes it FAILED. -/
def State.canFaults (s : State) (k cause : Nat) : State :=
  let c := s.canCtl k
  let recent := c.faults.filter (fun t => decide (s.beat.opBeats < t + 240000)) ++ [s.beat.opBeats]
  let failed := decide (3 ≤ recent.length)
  if s.get F.canFault k = 2 ∨ s.get F.canMode k = 0 then s
  else
    let s := (s.putCanCtl { c with faults := recent }).inc F.canFaultCount k
    let s := ((s.put F.canFault (if failed then 2 else 1) k).canDropCtl k false).canShow
    s.raise (228 + 8 * k) 1 (if failed then 3 else 2) [(8, cause)]

/-- CAN_CONTROLLER_FAULT: causes 1 parity, 2 loopback, 3 transceiver supply. -/
def execCanControllerFault (k : Fin 8) (cause : Nat) (s : State) : Host.Outcome State Fault Refusal :=
  .next (s.canFaults k cause)

/-- CAN_CONTROLLER_RELOAD: the Supervisor restarts a controller in FAULT with its configuration. -/
def execCanControllerReload (k : Fin 8) (s : State) : Host.Outcome State Fault Refusal :=
  .next (if s.get F.canFault k = 1 then (s.put F.canFault 0 k).canShow else s)

/-! Writes (R344, R345). -/

/-- can_mode has been written (R341, R344): a search starts anew; 0 and then non-zero ends FAILED. -/
def State.canModeWritten (s : State) (k : Nat) : State :=
  let c := s.canCtl k
  let m := s.get F.canMode k
  let c := { c with detect := 0, entry := 0, rounds := 0, good := 0, adopt := false, since := s.beat.opBeats }
  if s.get F.canFault k = 2 then
    if m = 0 then s.putCanCtl { c with rearmed := true }
    else if c.rearmed then ((s.putCanCtl { c with rearmed := false, faults := [] }).put F.canFault 0 k) else s.putCanCtl c
  else s.putCanCtl c

/-- An object that is rewritten loses its pending frame and its buffered frames (R345). -/
def State.canRewritten (s : State) (o : Nat) : State := (s.canDropObj o false).putCanObj { o := o }

/-- The object index of a register key, by the layout of Fields.lean. -/
def keyObj (key : Nat) : Nat := key / 4194304

/-- The writes that wait for this edge take effect, all together (R345), and a detected rate is adopted (R342). The
objects are locked from here (R333). -/
def State.canEdge (s : State) : State :=
  let pend := s.can.pend
  let objs := (pend.map (fun w => keyObj w.1)).dedup
  let s := { s with regs := pend.foldl (fun l (w : Nat × Nat) => regPut l w.1 w.2) s.regs, can := { s.can with pend := [] } }
  let s := objs.foldl (fun (s : State) i =>
    if 0x6400 ≤ i ∧ i < 0x6800 then s.canRewritten (i - 0x6400) else s) s
  let s := (List.range 8).foldl (fun (s : State) k =>
    let s := if pend.any (fun w => w.1 == fldKey F.canMode k) then s.canModeWritten k else s
    let c := s.canCtl k
    if c.adopt then
      let e := (abrTable[c.entry]?).getD (0, 2, 69, 10)
      let s := ((s.put F.nomBrp e.2.1 k).put F.nomTseg1 e.2.2.1 k).put F.nomTseg2 e.2.2.2 k
      s.putCanCtl { c with adopt := false, detect := 2 }
    else s) s
  let s := s.canShow
  { s with can := { s.can with locked := true } }

/-- CAN_OBJ_SET's target (R418): controller [10:8], object [6:0]. -/
def canTarget (v : Nat) : Nat := v / 256 % 8 * 128 + v % 128

/-- CAN_OBJ_SET's checks (R425, R332, R335). -/
def canObjSetChk (p : Packet) (_ : UnitSel) (_ : State) : Chk :=
  let d := p.val 0x0015 0
  Chk.all [needTlv p 0x0041, needTlv p 0x0015,
    param (match p.find? 0x0015 with | some x => x.len == 12 | none => false) (p.pos 0x0015),
    param (canObjOk (bitsOf d 0 32) (bitsOf d 32 32) (bitsOf d 64 16) (bitsOf d 80 16)) (p.pos 0x0015)]

/-- The register writes that an ObjConfig word asks for. -/
def objCfgWrites (o cfg : Nat) : List (Nat × Nat) :=
  [F.objDir, F.objIdExt, F.objFd, F.objBrs, F.objRtr, F.objSingleShot, F.objTrigger, F.objLen, F.objClass].map
    (fun f => (fldKey f o, bitsOf cfg f.lo f.w))

/-- CAN_OBJ_SET in its Freeze: the object's configuration is recorded, and takes effect at the next edge. -/
def canObjSetApply (p : Packet) (s : State) : Ans :=
  let o := canTarget (p.val 0x0041 0)
  let d := p.val 0x0015 0
  let ws := objCfgWrites o (bitsOf d 0 32) ++
    [(fldKey F.objId o, bitsOf d 32 32), (fldKey F.objTxPeriod o, bitsOf d 64 16), (fldKey F.objTxPhase o, bitsOf d 80 16)]
  let s := s.journal 5 (0x6400 + o) 12 (d % 2 ^ 96) true
  { st := { s with can := { s.can with pend := s.can.pend ++ ws } } }

/-- CAN_OBJ_SET (R425). -/
def execCanObjSet (p : Packet) (s : State) : Host.Outcome State Fault Refusal :=
  .next (queued .canObjSet p (canObjSetChk p) (fun _ s => s.eligible p.stamp) s)

end Sys2Proof.Machine
end

