-- ==== Sys2Proof/Machine/Modes.lean ====
section
/-! DEFINITION. Entering the modes, roles and their decision, planned switch-overs as causes ask for them, the key, and
the mode opcodes (R55 to R78, R107 to R109, R154). -/

namespace Sys2Proof.Machine

open Sys2Proof

/-! Planned switch-overs (R154). -/

/-- A planned switch-over can be carried out: ROLE ACTIVE and the partner READY. -/
def State.canPlan (s : State) : Bool := s.get F.role == rActive && s.pair.partnerReady

/-- A planned switch-over is scheduled for the Freeze of beat `a`, for `cause` of SWITCHOVER_PLANNED: 1 command, 2
RELEASE, 3 RESET, 4 key, 5 health, 6 retired cluster, 7 single-instance block, 8 image rejection, 9 restart, 10 PROMOTE,
11 REVERT (DESIGN CHOICE, log entry 8). -/
def State.planAt (s : State) (a cause after : Nat) : State :=
  if s.canPlan ∧ s.pair.handover.isNone then
    { s with pair := { s.pair with handover := some { apply := a, cause := cause, after := after } } }
  else s

/-- For a cause other than a command the handover comes with the next edge (R15, R64): the current beat is its apply beat while
its Commit-to-edge span lies ahead, from 212 µs on the next beat (DEDUCED, log entry 19). -/
def State.plan (s : State) (cause after : Nat) : State :=
  s.planAt (if s.beat.committed || decide (42400 ≤ s.beat.off) then s.now + 1 else s.now) cause after

/-! The end of a shadow run on the ACTIVE (R58, R167, R178). -/

/-- A shadow run that is announced or under way ends on the ACTIVE, whose SHADOW synchronises anew: it has left RUN, or the
SHADOW is gone. -/
def State.runLeaves (s : State) : State :=
  let on := s.get F.shState == 1 || s.get F.shState == 2
  if s.get F.role ≠ rActive ∨ (s.pair.shadowAt.isNone ∧ !on) then s
  else
    let s := { s with pair := { s.pair with shadowAt := none } }
    if on then s.put F.shState 3 else s

/-! STANDBY and SHADOW (R58, R59, R144, R172). -/

/-- The STANDBY falls to SYNCING and synchronises from step 2 of R144; it keeps reporting its ACTIVE's MODE where it has
had the state image (R58). -/
def State.dropSync (s : State) : State :=
  if s.get F.role ≠ rStandby then s
  else
    let s := { s with pair := { s.pair with current := false, rx := [], images := [] } }
    let s := (s.put F.pairState 2).put F.resyncing 1
    s.setMode (s.get F.mode) rStandby 0 (s.get F.safeCause) 0

/-- The module becomes STANDBY in SYNCING, without the ACTIVE's image: MODE STOP (R58, R70). -/
def State.enterStandby (s : State) (cause : Nat) : State :=
  let s := s.dropCycles
  let s := { s with pair := { s.pair with
    current := false, hasImage := false, rx := [], images := [], outsIn := [], handover := none, handing := false } }
  let s := (s.put F.pairState 2).put F.resyncing 1
  s.setMode mStop rStandby 0 (s.get F.safeCause) cause

/-- The shadow run ends as after REVERT (R172): the SHADOW is STANDBY in SYNCING with the program it had, and the staged
program stays staged. -/
def State.stopShadow (s : State) (cause : Nat) : State :=
  if s.get F.role ≠ rShadow then s
  else
    let old := s.rt.revertArea
    let s := s.dropCycles
    let s := match old with
      | some p => (s.loadProgram p false)
      | none => s
    let s := { s with
      rt := { s.rt with revertArea := none }
      pair := { s.pair with shadowAt := none, endShadow := false } }
    (s.put F.shState 3).enterStandby cause

/-! Roles at the end of START and by the key (R59, R70). -/

/-- The first rule of R70 that applies; `s12` when the partner stands at S12 of its own START. A partner with ROLE NONE that is
still on the way to S12 fits no row: rule 4 stands for it (DESIGN CHOICE, log entry 20). -/
def State.roleRule (s : State) (s12 : Bool) : Nat :=
  if s.get F.triad = 2 ∨ s.pair.single then 1
  else if s.pair.seen then
    if s.pair.partnerRole = rActive then 2 else if s12 then 3 else 4
  else if s.pair.claimIn then 6 else 5

/-- The role a rule of R70 gives: in rule 3 the higher program generation is ACTIVE, or the preferred side; with a change
pending the module that holds the program that was ACTIVE, whatever the generations say (R173). Without a valid program it
is NONE, but by rule 2; with the key at STOP no module is STANDBY (R64). -/
def State.roleOf (s : State) (rule : Nat) : Nat :=
  let g := s.get F.programGen
  let r :=
    if rule = 1 then rSolo
    else if rule = 2 then rStandby
    else if rule = 3 then
      if s.get F.changePending = 1 ∧ s.rt.resume.isSome ≠ s.pair.partnerHas then
        if s.rt.resume.isSome then rActive else rStandby
      else if g > s.pair.partnerGen ∨ (g = s.pair.partnerGen ∧ s.get F.side = s.pair.preferred) then rActive else rStandby
    else if rule = 6 then rNone
    else rActive
  if (s.rt.prog.isNone ∧ rule ≠ 2) ∨ (r = rStandby ∧ s.get F.key = 2) then rNone else r

/-- The role is decided (R70): the module takes it in MODE STOP. PAIR_LINK_ABSENT by rule 6. A claim asserted with no
trained pair link drives nothing for 8 beats (R158). -/
def State.decideRole (s : State) (s12 : Bool) : State :=
  let rule := s.roleRule s12
  let r := s.roleOf rule
  let s := if rule = 6 ∧ !s.pair.waitRule then s.raise 351 1 2 [] else s          -- PAIR_LINK_ABSENT
  let s := { s with pair := { s.pair with waitRule := rule == 6 } }
  if r = rStandby then s.enterStandby 0
  else
    let s := if r = rActive ∧ s.get F.linkUp = 0 ∧ rule = 5 then
      { s with pair := { s.pair with claimBeats := 8 } } else s
    s.setMode mStop r 0 (s.get F.safeCause) 0

/-! Entering START, STOP, HOLD, RUN and SAFE. -/

/-- Every session ends at a module restart (R73, R382). -/
def State.endSessions (s : State) (cause : Nat) : State :=
  s.lcp.sessions.foldl (fun s x => s.releaseSession x.id cause) s

/-- Writes accepted for the next edge stand in the Journal: they hold. -/
def State.settleEdges (s : State) : State :=
  { s with regs := (s.beat.edgePend ++ s.can.pend).foldl (fun l (w : Nat × Nat) => regPut l w.1 w.2) s.regs
           beat := { s.beat with edgePend := [] }, can := { s.can with pend := [] } }

/-- A resync in progress is abandoned (R187). -/
def State.abandonResync (s : State) : State :=
  ({ (s.put F.resyncPhase 0) with triad := { s.triad with
    startsNext := none, converged := false, passes := 0, dirty := [] } }).put F.resyncTarget 3

/-- Surge ends as the clusters stop: the 30 s at 1.6 GHz are counted from here (R194). -/
def State.surgeStops (s : State) : State :=
  if s.get F.surge = 0 then s
  else { (s.put F.surge 0) with triad := { s.triad with surgeEnd := s.beat.opBeats, surgeEver := true, surgeBeats := 0 } }

/-- The module enters START (R60, R73): claim and drive released, role NONE, sessions ended, queued commands gone, a
resync, a Roll and transfers abandoned. The role epoch is incremented once. `cause` is that of MODE_CHANGE: 6 names
IMAGE_FALLBACK (R533; log entry 7). -/
def State.enterStart (s : State) (cause : Nat := 2) : State :=
  let s := (((s.endDebug 5).endSessions 6).rollAbandon).runLeaves.dropCycles
  let s := s.settleEdges.surgeStops
  let s := { s with
    beat := { s.beat with runs := false, computing := false, committing := false, causes := [] }
    lcp := { s.lcp with queue := [], transfers := [], heldReplies := [], mail := [], forwards := [] }
    pair := { s.pair with handover := none, handing := false, lost := false, current := false, hasImage := false
                          rx := [], images := [], redo := none, lostSlot := none, shadowAt := none, endShadow := false }
    wd := { s.wd with warmRestart := false } }
  let s := s.abandonResync
  let r := s.get F.role
  let s := (s.canDropAll.setMode mStart rNone 0 (s.get F.safeCause) cause 2).canShow.fieldOff
  if r = rNone then s.bumpOwn 2 else s

/-- The module enters STOP with the role it has (R60): cycles and a step are discarded, and a shadow run ends (R58). -/
def State.enterStop (s : State) (cause : Nat) : State :=
  let s := s.runLeaves.dropCycles.canDropAll
  let s := { s with rt := { s.rt with stepClass := none, stepRuns := false } }
  s.setMode mStop (s.get F.role) (s.get F.ready) (s.get F.safeCause) cause

/-- The key at STOP takes effect (R64). -/
def State.keyStops (s : State) : State :=
  let r := s.get F.role
  let s := if r = rShadow then s.stopShadow 3 else s
  if r = rStandby ∨ r = rShadow then
    (s.dropCycles).setMode mStop rNone 0 (s.get F.safeCause) 3
  else if s.get F.mode = mRun ∨ s.get F.mode = mHold then s.enterStop 3
  else s

/-- The module enters SAFE (R75): the SAFE record, claim and drive released, every local output high impedance (R56), role
NONE. -/
def State.enterSafe (s : State) (safeCause : Nat) : State :=
  let s := (s.endDebug 5).runLeaves.dropCycles
  let s := if s.wd.safeRec = safeCause then s else s.safeRecord safeCause
  let s := { s with
    pair := { s.pair with handover := none, handing := false, shadowAt := none, endShadow := false }
    rt := { s.rt with stepClass := none, stepRuns := false } }
  let s := s.abandonResync
  (s.canDropAll.setMode mSafe rNone 0 safeCause 1).canShow.fieldOff

/-- A restart of the program on an ACTIVE drops its STANDBY to SYNCING (R74). -/
def State.restartPair (s : State) (kind : Nat) : State :=
  let s := s.restartProgram kind
  if s.get F.role = rActive then { s with pair := { s.pair with partnerReady := false, dropPartner := true } } else s

/-- A debug halt ends before a cause that leads into RUN or to ACTIVE (R481): the cores resume. -/
def State.unhalt (s : State) : State := if s.get F.haltState = 1 then s.endDebug 6 else s

/-- The module enters RUN after a restart of its program (R60, R73). -/
def State.startRun (s : State) (kind cause : Nat) : State :=
  let s := s.unhalt.restartPair kind
  s.setMode mRun (s.get F.role) (s.get F.ready) (s.get F.safeCause) cause

/-- The module enters HOLD (R107): each class keeps the task that it is running and starts no other, and what ended tasks
have written is published. -/
def State.enterHold (s : State) : State :=
  let s := s.runLeaves.holdPublish
  let keep := (List.range 5).filterMap (fun c => (s.rt.runsOf c).head?)
  ({ s with rt := { s.rt with runQ := keep } }).setMode mHold (s.get F.role) (s.get F.ready) (s.get F.safeCause) 5

/-- The key has left STOP (R65): a module out of service rejoins or decides its role, and a turn to RUN starts RUN. -/
def State.keyAway (s : State) (toRun : Bool) : State :=
  let s := if s.get F.role = rNone ∧ s.get F.mode = mStop ∧ s.get F.releaseState ≠ 3 then
      (if s.rt.prog.isSome ∨ (s.pair.seen ∧ s.pair.partnerRole = rActive) then s.decideRole false else s) else s
  let r := s.get F.role
  if toRun ∧ (r = rActive ∨ r = rSolo) ∧ s.get F.mode = mStop ∧ s.rt.prog.isSome then s.startRun 0 3 else s

/-! KEY_CHANGE (R63 to R65). -/

/-- The key reads fault: KEY_FAULT with its contacts, and the FAULT LED (R63). -/
def State.keyFaults (s : State) : State :=
  let (c, s) := s.fresh 2
  ({ s with panel := { s.panel with keyFault := true } }).raise 443 1 2 [(32, c)]

/-- With the key at STOP the module leaves service by a handover; one that waits already leads there too (R64). -/
def State.planKey (s : State) : State :=
  match s.pair.handover with
  | none => s.plan 4 1
  | some ho => { s with pair := { s.pair with handover := some { ho with after := if ho.after = 2 then 2 else 1 } } }

/-- The key's contacts have taken a new position. -/
def State.keyChange (s : State) (pos : Nat) : State :=
  let old := s.get F.key
  if old = pos then s
  else
    let s := (s.put F.key pos).audit 0x10 0 pos 0 0
    let s := s.raise 442 1 0 [(2, old), (2, pos)]                                  -- KEY_CHANGE
    let s : State := if pos = 3 then s.keyFaults else { s with panel := { s.panel with keyFault := false } }
    if pos = 2 then
      if s.canPlan ∧ !s.pair.partnerKeyStop then s.planKey
      else if s.get F.role = rNone then s
      else s.cause .keyStop 3
    else if old = 2 then
      { s with panel := { s.panel with acts := s.panel.acts ++
        [{ act := if pos = 1 then 6 else 5, apply := s.eligible s.beat.off }] } }
    else s

/-- KEY_CHANGE (R63). -/
def execKeyChange (pos : Fin 4) (s : State) : Host.Outcome State Fault Refusal := .next (s.keyChange pos)

/-! HOLD_TIMEOUT (R109). -/

/-- HOLD_TIMEOUT: the module has stayed in HOLD longer than hold_timeout; STOP follows in the next Freeze. -/
def execHoldTimeout (s : State) : Host.Outcome State Fault Refusal :=
  .next (if s.get F.mode = mHold ∧ s.get F.holdTimeoutCfg ≠ 0 ∧ (s.get F.role = rSolo ∨ s.get F.role = rActive) then
      (s.raise 457 1 2 [(32, s.get F.holdTimeoutCfg)]).cause .stop 4               -- HOLD_TIMEOUT
    else s)

/-! Opcodes (R60, R61, R73, R74, R76, R420). -/

/-- MODE_GET: ModuleStatus and the beat. -/
def execModeGet (p : Packet) (s : State) : Host.Outcome State Fault Refusal :=
  .next (served .modeGet p (fun _ _ => .ok)
    (fun _ s => { st := s, tlvs := [packObj s 0x0010 0 0, tlv 0x0022 8 s.now] }) s)

/-- A command names this module while it is STANDBY or SHADOW. -/
def toFollower (u : UnitSel) (s : State) : Bool :=
  u == .own && (s.get F.role == rStandby || s.get F.role == rShadow)

/-- The transitions of R60 by MODE_SET, with the restart kind and the step class of R108. A transition that R60 does not
list for MODE_SET is WRONG_MODE, and STOP to RUN without a program NOT_PERMITTED (DEDUCED, log entry 20). They hold in the
Freeze too, and so does the key (R60, R63). -/
def modeSetRules (p : Packet) (u : UnitSel) (s : State) : Chk :=
  let m := p.val 0x0017 0
  let cur := s.get F.mode
  let r := s.get F.role
  let drv := r == rSolo || r == rActive
  if toFollower u s then need (m == mStop && r == rStandby) 3
  else Chk.all [
    param (!p.has 0x0019 || (cur == mHold && m == mRun)) (p.pos 0x0019),
    if m = cur then .ok
    else if cur = mStop ∧ m = mRun then Chk.all [
      param (p.has 0x0018 && decide (p.val 0x0018 0 ≤ 1)) (p.pos 0x0018), need (drv && s.rt.prog.isSome) 3]
    else if cur = mRun ∧ m = mHold then Chk.all [need (s.get F.sec != 0) 2, need drv 3]
    else if cur = mHold ∧ m = mRun then Chk.all [
      param (!p.has 0x0018) (p.pos 0x0018),
      require (!(p.has 0x0019 && s.rt.stepClass.isSome)) stBusy]
    else if m = mStop ∧ (cur = mRun ∨ cur = mHold) then .ok
    else .bad stWrongMode (detail cur)]

/-- MODE_SET's checks on receipt. -/
def modeSetChk (p : Packet) (u : UnitSel) (s : State) : Chk := Chk.all [needTlv p 0x0017, modeSetRules p u s]

/-- MODE_SET in its Freeze. -/
def modeSetApply (p : Packet) (u : UnitSel) (s : State) : Ans :=
  match (keyR63 .modeSet p s).andThen (modeSetRules p u s) with
  | .bad st tl => { st := s, status := st, tlvs := tl }
  | .ok =>
    let m := p.val 0x0017 0
    let cur := s.get F.mode
    if toFollower u s then
      let s := s.dropSync
      let s := { s with pair := { s.pair with oneBeatStop := true } }
      { st := s.setMode mStop rStandby 0 (s.get F.safeCause) 5 }
    else if m = mStop then { st := if cur = mStop then s else s.enterStop 5 }
    else if m = mHold then { st := if cur = mHold then s else s.enterHold }
    else if cur = mStop then { st := s.startRun (p.val 0x0018 0) 5 }
    else if cur = mHold ∧ p.has 0x0019 then
      { st := { s with rt := { s.rt with stepClass := some (p.val 0x0019 0), stepRuns := false } } }
    else if cur = mHold then
      let s := s.unhalt.dropCycles
      let s := { s with rt := { s.rt with stepClass := none, stepRuns := false } }
      { st := s.setMode mRun (s.get F.role) (s.get F.ready) (s.get F.safeCause) 5 }
    else { st := s }

/-- MODE_SET (R60, R61). -/
def execModeSet (p : Packet) (s : State) : Host.Outcome State Fault Refusal :=
  .next (queued .modeSet p (modeSetChk p) (firstApplyAt p) s)

/-- A module restart that R74 refuses: an ACTIVE or SOLO module in RUN or HOLD with no READY partner. -/
def State.restartRefused (s : State) : Bool :=
  (s.get F.role == rActive || s.get F.role == rSolo) && (s.get F.mode == mRun || s.get F.mode == mHold) && !s.canPlan

/-- RESTART's checks. -/
def restartChk (p : Packet) (_ : UnitSel) (s : State) : Chk :=
  Chk.all [needTlv p 0x0018, need (!(p.val 0x0018 0 == 2 && s.restartRefused)) 8]

/-- A module restart by R74: after a planned switch-over on an ACTIVE with a READY partner. -/
def State.moduleRestart (s : State) (cause : Nat) : State :=
  if s.canPlan then s.planAt s.now cause 2 else s.enterStart

/-- RESTART in its Freeze (R73, R74). -/
def restartApply (p : Packet) (s : State) : Ans :=
  if p.val 0x0018 0 = 2 then
    if s.restartRefused then { st := s, status := stNotPermitted, tlvs := detail 8 } else { st := s.moduleRestart 9 }
  else { st := s.restartPair (p.val 0x0018 0) }

/-- RESTART (R73). -/
def execRestart (p : Packet) (s : State) : Host.Outcome State Fault Refusal :=
  .next (queued .restart p (restartChk p) (firstApplyAt p) s)

/-- An action of R491 whose refusal is recorded too. -/
def auditRefused (o : Op) (p : Packet) (chk : UnitSel → State → Chk) (action det : Nat) (s s' : State) : State :=
  match admission o p s with
  | .go u =>
    let s := s.noteSeq p
    match (permit o p u s).andThen (chk u s) with
    | .bad st _ => s'.auditBy p.sess action st det
    | .ok => s'
  | _ => s'

/-- SAFE_CAUSE takes a value outside a change of mode: MODE_CHANGE shows it (R77). -/
def State.showSafeCause (s : State) (c : Nat) : State := s.setMode (s.get F.mode) (s.get F.role) (s.get F.ready) c 0

/-- The SAFE record and the 24 h Toll count are cleared (R76, R464). -/
def State.clearSafe (s : State) : State :=
  let s := { s with wd := { s.wd with safeRec := 0, instants := [], endInStop := true } }
  let s := s.latch (fun l => { l with safeSet := false, safeCause := 0, tollT := 0 })
  let s := ((s.put F.toll 0).showSafeCause 0).journal 9 0 0 0 false true
  s.journalToll

/-- CLEAR_SAFE: answered OK, then the module runs START and ends it in STOP (R76). -/
def clearSafeBody (p : Packet) (_ : UnitSel) (s : State) : Ans :=
  { st := (s.auditBy p.sess 0x0A 0 (s.get F.safeCause)).clearSafe }

/-- A request passes every check of its opcode (R388). -/
def passesAll (o : Op) (p : Packet) (chk : UnitSel → State → Chk) (s : State) : Bool :=
  match admission o p s with
  | .go u => match (permit o p u (s.noteSeq p)).andThen (chk u (s.noteSeq p)) with | .ok => true | .bad _ _ => false
  | _ => false

/-- CLEAR_SAFE (R76). -/
def execClearSafe (p : Packet) (s : State) : Host.Outcome State Fault Refusal :=
  let s' := served .clearSafe p (fun _ _ => .ok) (clearSafeBody p) s
  let s' := auditRefused .clearSafe p (fun _ _ => .ok) 0x0A (s.get F.safeCause) s s'
  .next (if passesAll .clearSafe p (fun _ _ => .ok) s then s'.enterStart else s')

end Sys2Proof.Machine
end

