-- ==== Sys2Proof/Machine/Lanes.lean ====
section
/-! DEFINITION. The station link: lanes of the L5, L4 and L3 modes, boards that come and go, crossover, WSL-E stations
(R51 to R53, R160 to R163, R200 to R238). -/

namespace Sys2Proof.Machine

open Sys2Proof

/-! Records of lanes, boards and stations. -/

/-- The controller of lane `k`. -/
def State.lane (s : State) (k : Nat) : LaneRt := (s.lanes.lanes.find? (fun l => l.k == k)).getD { k := k }

/-- Replaces the controller of a lane. -/
def State.putLane (s : State) (l : LaneRt) : State :=
  { s with lanes := { s.lanes with lanes := s.lanes.lanes.filter (fun m => m.k != l.k) ++ [l] } }

/-- Board `a` of L3 lane `k`. -/
def State.l3 (s : State) (k a : Nat) : L3Rt :=
  (s.lanes.l3.find? (fun b => b.lane == k && b.addr == a)).getD { lane := k, addr := a, last := s.now }

/-- Replaces an L3 board. -/
def State.putL3 (s : State) (b : L3Rt) : State :=
  { s with lanes := { s.lanes with l3 := s.lanes.l3.filter (fun c => !(c.lane == b.lane && c.addr == b.addr)) ++ [b] } }

/-- WSL-E station `n`. -/
def State.wslRt (s : State) (n : Nat) : WslRt := (s.lanes.wsl.find? (fun w => w.st == n)).getD { st := n }

/-- Replaces a WSL-E station. -/
def State.putWsl (s : State) (w : WslRt) : State :=
  { s with lanes := { s.lanes with wsl := s.lanes.wsl.filter (fun v => v.st != w.st) ++ [w] } }

/-- Codes of LaneStatus.STATE (R234). -/
abbrev lsAbsent : Nat := 0
abbrev lsTraining : Nat := 1
abbrev lsLive : Nat := 2
abbrev lsStale : Nat := 3
abbrev lsFailed : Nat := 4
abbrev lsCrossover : Nat := 5
abbrev lsMismatch : Nat := 6

/-- The module serves the plant: its lane failures start crossover and substitution (R163). -/
def State.serving (s : State) : Bool := s.get F.role == rActive || s.get F.role == rSolo

/-- The board of a lane is configured and exchanges frames. -/
def State.laneServed (s : State) (k : Nat) : Bool :=
  let st := s.get F.laneState k
  st == lsLive || st == lsStale || st == lsFailed || st == lsCrossover

/-- Key of what a station's exchanges bring: lane × 8 + L3 address, or 1,000 + WSL-E station. -/
def State.stationKey (s : State) (d : StationDef) : Nat :=
  match d.wsl with
  | some n => 1000 + n
  | none =>
    match d.lane with
    | some k => k * 8 + (if s.get F.laneMode k = 3 then d.addr else 0)
    | none => 2000

/-- The stations of the program behind a key. -/
def State.stationsAt (s : State) (key : Nat) : List StationDef :=
  match s.rt.prog with
  | some p => p.stations.filter (fun d => s.stationKey d == key)
  | none => []

/-- Each station behind a key owes its error task a run (R105): 1 FAILED, 2 RESTORED. -/
def State.oweErr (s : State) (key reason : Nat) : State :=
  if s.serving then
    { s with rt := { s.rt with errQ := s.rt.errQ ++ (s.stationsAt key).map (fun d => (d.idx, reason)) } }
  else s

/-- What an exchange brings waits for its image. -/
def State.addDue (s : State) (beat key : Nat) (stale : Bool) (points : List (Nat × Nat)) : State :=
  { s with
    lanes := { s.lanes with due := s.lanes.due ++ [{ beat := beat, key := key, stale := stale, points := points }] }
    rt := { s.rt with live := points.foldl (fun l p => regPut l p.1 p.2) s.rt.live } }

/-- A lane event (R238) on the source of the lane index. -/
def State.laneEvent (s : State) (k code sev : Nat) (data : List (Nat × Nat)) : State := s.raise k code sev data

/-- The partner answers on the pair link. -/
def State.hasPartner (s : State) : Bool := s.pair.seen && s.get F.linkUp != 0 && !s.alone

/-- PairStatus follows the lanes under crossover (R174, R175). -/
def State.showCrossover (s : State) : State :=
  let ks := (List.range 96).filter (fun k => s.get F.laneState k == lsCrossover)
  ((s.putFlag F.crossover (!ks.isEmpty)).put F.crossoverCount ks.length).put F.crossoverMap
    (ks.foldl (fun a k => a + 2 ^ k) 0)

/-- Bitmap of the healthy lanes (R140, R216). -/
def State.laneHealth (s : State) : Nat := s.lanes.lanes.foldl (fun a l => if l.healthy then a + 2 ^ l.k else a) 0

/-- Bitmap of the lanes that have lost their link (R216). -/
def State.laneLoss (s : State) : Nat :=
  s.lanes.lanes.foldl (fun a l => if s.get F.laneLink l.k = 0 ∧ (l.ever || l.lostAt.isSome) then a + 2 ^ l.k else a) 0

/-- The partner's lane to the slot is healthy by its heartbeats (R160). -/
def State.partnerHealthy (s : State) (k : Nat) : Bool := s.hasPartner && bitOf (s.get F.partnerLanes) k

/-- The keys of a lane: its boards on L3, else the one board. -/
def State.laneKeys (s : State) (k : Nat) : List Nat :=
  if s.get F.laneMode k = 3 then
    ((List.range 8).filter (fun a => bitOf (s.get F.l3Boards k) a)).map (fun a => k * 8 + a)
  else [k * 8]

/-- The boards of an L3 lane all count as failed, or none does. -/
def State.setL3 (s : State) (k : Nat) (failed : Bool) : State :=
  { s with lanes := { s.lanes with l3 := s.lanes.l3.map (fun b => if b.lane == k then { b with failed := failed } else b) } }

/-- The keys of a lane whose points have been live and do not count as failed yet. -/
def State.liveKeys (s : State) (l : LaneRt) : List Nat :=
  if s.get F.laneMode l.k = 3 then
    (s.laneKeys l.k).filter (fun key => (s.l3 l.k (key % 8)).ever && !(s.l3 l.k (key % 8)).failed)
  else if l.ever then [l.k * 8] else []

/-! Failure, crossover and return (R104 to R106, R160 to R163, R216). -/

/-- A lane fails: crossover from the next beat where the partner's lane is healthy, else LANE_FAILED and substitutes. At a loss
of link (`l.owes`) the event waits: the partner may report the loss too, which makes it a removal (R216). -/
def State.laneFail (s : State) (l : LaneRt) : State :=
  let k := l.k
  let s := ((s.inc F.laneFailures k).put F.laneLastFail s.now k).put F.laneState lsFailed k
  let l := { l with failed := true, good := 0, healthy := false }
  if s.serving ∧ s.partnerHealthy k then s.putLane { l with crossAt := some (s.now + 1), probes := 0, owes := false }
  else
    let keys := s.liveKeys l
    let s := s.putLane l
    let s := if l.owes then s else s.laneEvent k 2 2 [(32, s.now), (8, 0xFF)]      -- LANE_FAILED
    let s := keys.foldl (fun s key => s.oweErr key 1) s
    if s.get F.laneMode k = 3 then s.setL3 k true else s

/-- A board has gone (R216, R233): the slot is ABSENT, its epoch incremented, its points follow the failure rules. -/
def State.boardGone (s : State) (l : LaneRt) : State :=
  let k := l.k
  let was := s.get F.laneState k
  let keys := if l.failed ∧ l.crossAt.isNone ∧ was ≠ lsCrossover then [] else s.liveKeys l
  let s : State := if l.failed then s else (s.inc F.laneFailures k).put F.laneLastFail s.now k
  let s := ((s.put F.laneState lsAbsent k).put F.laneLink 0 k).put F.laneBoards 0 k
  let s := s.putLane { l with failed := true, good := 0, healthy := false, lostAt := none, crossAt := none
                              returnAt := none, probes := 0, bridge := false, owes := false, type := none
                              subs := [] }
  let s := (s.laneEvent k 7 2 [(8, 0)]).bumpUnit [0x0100 + k] 6                    -- BOARD_REMOVED
  (keys.foldl (fun s key => s.oweErr key 1) s).showCrossover

/-- LANE_FAILED of a loss of link that was no removal: the 10 ms of the partner's report are over, or the lane comes back first
(R216). -/
def State.payFailure (s : State) (l : LaneRt) : State :=
  if l.owes then
    (s.putLane { s.lane l.k with owes := false }).laneEvent l.k 2 2 [(32, l.lostAt.getD s.now), (8, 0xFF)]   -- LANE_FAILED
  else s

/-- Crossovers that begin at the edge of the current beat, and lanes that return at it (R160, R162). -/
def State.crossEdge (s : State) : State :=
  let n := s.now
  let s := s.lanes.lanes.foldl (fun (s : State) l => if l.lostAt.getD n + 40 < n then s.payFailure l else s) s
  let s := s.lanes.lanes.foldl (fun (s : State) l0 =>
    let l := s.lane l0.k
    if l.returnAt = some n then
      ((s.putLane { l with returnAt := none, crossAt := none, failed := false, run := 0, good := 0, probes := 0 }).put
        F.laneState lsLive l.k).laneEvent l.k 5 0 [(32, n)]                        -- LANE_RESTORED
    else if l.crossAt = some n then
      let s := ((s.putLane { l with crossAt := none }).put F.laneState lsCrossover l.k).laneEvent l.k 4 1 [(32, n)] -- LANE_CROSSOVER
      if s.get F.laneMode l.k = 3 then
        ((s.laneKeys l.k).foldl (fun (s : State) key =>
          if (s.l3 l.k (key % 8)).failed then s.oweErr key 2 else s) s).setL3 l.k false
      else s
    else s) s
  s.showCrossover

/-- A crossover ends, and the slot's inputs take substitutes (R163); a module that no longer serves ends it quietly. -/
def State.endCrossover (s : State) (k : Nat) : State :=
  let l := s.lane k
  if s.get F.laneState k ≠ lsCrossover ∧ l.crossAt.isNone then s
  else
    let s := (s.putLane { l with crossAt := none, returnAt := none, probes := 0 }).put F.laneState lsFailed k
    let s := if s.serving then
        (s.laneKeys k).foldl (fun s key => s.oweErr key 1) (s.laneEvent k 2 2 [(32, s.now), (8, 0xFF)])   -- LANE_FAILED
      else s
    let s := if s.get F.laneMode k = 3 then s.setL3 k true else s
    s.showCrossover

/-- Every crossover ends: the pair link is lost, or the partner has left service (R157, R163). -/
def State.endCrossovers (s : State) : State := s.lanes.lanes.foldl (fun s l => s.endCrossover l.k) s

/-- A module that becomes ACTIVE or SOLO treats its failed lanes as failing now (R160). -/
def State.lanesTakeService (s : State) : State :=
  s.lanes.lanes.foldl (fun (s : State) l =>
    if l.failed ∧ s.get F.laneState l.k = lsFailed then
      if s.partnerHealthy l.k then s.putLane { l with crossAt := some (s.now + 1), probes := 0 }
      else (s.laneKeys l.k).foldl (fun s key => s.oweErr key 1) s
    else s) s

/-- A lane or board counts as returned (R106): LANE_RETURNED and a run of the error task with RESTORED, unless its points
have been ABSENT since START. -/
def State.laneReturn (s : State) (l : LaneRt) : State :=
  let s := (s.payFailure l).put F.laneState lsLive l.k
  let l := { l with owes := false }
  if l.fresh then s.putLane { l with failed := false, fresh := false, ever := true, good := 0 }
  else
    ((s.putLane { l with failed := false, ever := true, good := 0 }).laneEvent l.k 3 0 [(32, s.now)]).oweErr
      (l.k * 8) 2                                                                  -- LANE_RETURNED

/-! Frames (R207 to R213). -/

/-- The bytes of a frame before its CRC (R207). -/
def headBytes (ftype flags beat lane frag epochLo : Nat) (payload : List Nat) : List Nat :=
  [ftype, flags] ++ bytesOf 2 payload.length ++ bytesOf 8 beat ++ [lane, frag] ++ bytesOf 2 epochLo ++ payload

/-- A section: SUB, STYPE, SWORDS, and its data in 4-byte words, at most 255 (R210). -/
def sectionBytes (sub stype : Nat) (words : List Nat) : List Nat :=
  bytesOf 2 sub ++ [stype % 256, (words.take 255).length] ++ (words.take 255).flatMap (bytesOf 4)

/-- The sections of a payload: SUB, STYPE, data (R210). The first argument bounds their number. -/
def sectionsOf : Nat → List Nat → List (Nat × Nat × List Nat)
  | n + 1, b0 :: b1 :: t :: w :: rest => (b0 + 256 * b1, t, rest.take (4 * w)) :: sectionsOf n (rest.drop (4 * w))
  | _, _ => []

/-- The sections of an upstream frame. -/
def frameSections (f : Frame) : List (Nat × Nat × List Nat) := sectionsOf f.payload.length f.payload

/-- The status sections of a frame: SUB and the 4 bytes of R211; 0xFFFF is the unit itself. -/
def frameStatuses (f : Frame) : List (Nat × Nat) :=
  ((frameSections f).filter (fun x => x.2.1 == 3 && x.2.2.length == 4)).map (fun x => (x.1, ofBytes x.2.2))

/-- Its own status section, with which an UP_CYCLIC begins (R210). -/
def ownStatus? (f : Frame) : Option Nat :=
  match (frameStatuses f) with
  | (0xFFFF, v) :: _ => if ((frameSections f).head?.map (fun x => x.2.1)) = some 3 then some v else none
  | _ => none

/-- Largest LEN of a frame type on a lane mode (R213). -/
def maxLen (mode ftype : Nat) : Nat :=
  if mode = 2 then (if ftype = 0x01 then 64 else 476) else if ftype = 0x01 then 860 else 1444

/-- A frame with its payload within the limit of R213 and its CRC. -/
def sealFrame (limit : Nat) (f : DownFrame) : DownFrame :=
  { f with payload := f.payload.take limit
           crc := crc32c (headBytes f.ftype f.flags f.beat f.lane f.frag f.epochLo (f.payload.take limit)) }

/-- The image sections of values: digital before analog (R210). -/
def State.imageSections (s : State) (sub : Nat) (vals : List (Nat × Nat)) : List (List Nat) :=
  [true, false].filterMap (fun digital =>
    let mine := vals.filter (fun o => ((s.rt.entry? o.1).map (fun v => v.digital)) == some digital)
    if mine = [] then none
    else
      let t := if digital then 1 else 2
      some (sectionBytes sub t (Config.imageWords sub t mine)))

/-- The payload of a slot's DOWN_CYCLIC: for each of its stations the image sections; a position behind an HB-12 is a sub-unit
(R210, R229). -/
def State.cyclicPayload (s : State) (k : Nat) (outs : List (Nat × Nat)) : List Nat :=
  ((s.stationsAt (k * 8)).flatMap (fun d =>
    s.imageSections (if (s.lane k).bridge then d.addr else 0xFFFF)
      (outs.filter (fun o => ((s.rt.entry? o.1).bind (fun v => v.station)) == some d.idx)))).flatten

/-- A DOWN_CYCLIC for the board of lane `k` with these values. -/
def State.cyclicFrame (s : State) (k flags : Nat) (outs : List (Nat × Nat)) : DownFrame :=
  sealFrame (maxLen (s.get F.laneMode k) 0x01)
    { flags := flags, beat := s.now, lane := k, epochLo := s.epochOf (.slot k) % 65536, payload := s.cyclicPayload k outs
      outs := outs }

/-- A DOWN_SERVICE or PROBE frame leaves on lane `k` (R205); an L3 lane has no frames. -/
def State.sendService (s : State) (k ftype : Nat) (payload : List Nat) : State :=
  let m := s.get F.laneMode k
  if m = 1 ∨ m = 2 then
    s.putLane { s.lane k with service := some (sealFrame (maxLen m ftype)
      { ftype := ftype, flags := (if s.get F.claim = 1 then 1 else 0) + 2 * s.get F.side, beat := s.now, lane := k
        epochLo := s.epochOf (.slot k) % 65536, payload := payload }) }
  else s

/-! The lines (R202 to R206). -/

/-- EFLAGS of the EDGE for the coming edge (R202): the claim as it will stand, the side, a handover, FRAME_EDGE. -/
def State.eflags (s : State) : Nat :=
  let claim := if s.pair.handing then s.get F.role != rActive else s.get F.claim == 1
  (if claim then 1 else 0) + 2 * s.get F.side + (if s.pair.handing then 4 else 0) + (if (s.now + 1) % 4 = 0 then 8 else 0)

/-- EDGE_LAUNCH: the EDGE of the coming edge leaves on a trained L5 or L4 lane. -/
def State.edgeLaunch (s : State) (k : Nat) : State :=
  let m := s.get F.laneMode k
  if s.get F.laneLink k = 1 ∧ (m = 1 ∨ m = 2) ∧ !s.quiet then
    let b := (s.now + 1) % 256
    s.putLane { s.lane k with edge := some (b, s.eflags, crc8 [b, s.eflags]) }
  else s

/-- EDGE_LAUNCH (R203). -/
def execEdgeLaunch (lane : Fin 96) (s : State) : Host.Outcome State Fault Refusal := .next (s.edgeLaunch lane)

/-- DELAY_MEASURE (R203): a DELAY_REQ leaves on an L5 or L4 lane. -/
def execDelayMeasure (lane : Fin 96) (s : State) : Host.Outcome State Fault Refusal :=
  let m := s.get F.laneMode lane
  .next (if (m = 1 ∨ m = 2) ∧ !s.quiet then
      let l := s.lane lane
      let q := (l.delaySeq + 1) % 256
      s.putLane { l with delaySeq := q, delayWait := true, delayReq := some (q, crc8 [q, 0x00]) }
    else s)

/-- The difference of two counts. -/
def natDist (a b : Nat) : Nat := if a ≤ b then b - a else a - b

/-- DELAY_RESP_RECEIVE (R202, R203, R215): D is half the round trip less 1 µs; one whose CRC-8 fails, or that lies more than
100 ns off the running value, is discarded and counted. `mark` is 0x80 in a response. -/
def execDelayRespReceive (lane : Fin 96) (seq roundTripNs crc : Nat) (s : State) (mark : Nat := 0x80) :
    Host.Outcome State Fault Refusal :=
  let l := s.lane lane
  .next (if !l.delayWait then s
    else if crc ≠ crc8 [seq, mark] then (s.putLane { l with delayWait := false }).inc F.laneDelayReject lane
    else if seq ≠ l.delaySeq ∨ mark ≠ 0x80 then s
    else
      let d := (roundTripNs - 1000) / 2
      let s := s.putLane { l with delayWait := false, delayKnown := true }
      if l.delayKnown ∧ natDist d (s.get F.laneDelay lane) > 100 then s.inc F.laneDelayReject lane
      else s.put F.laneDelay d lane)

/-! Upstream frames (R207 to R216). -/

/-- The bytes of a received frame before its CRC. -/
def frameBytes (f : Frame) : List Nat := headBytes f.ftype f.flags f.beat f.lane f.frag f.epochLo f.payload

/-- Symbols and CRC are right, and LEN is a multiple of 4 within the limit of R213. -/
def frameSound (f : Frame) (maxLen : Nat) : Bool :=
  f.symbolsOk && f.crc == crc32c (frameBytes f) && f.payload.length % 4 == 0 && decide (f.payload.length ≤ maxLen)

/-- Frame types of R208. -/
def ftypeKnown (t : Nat) : Bool := [0x01, 0x02, 0x03, 0x10, 0x11, 0x21, 0x22].contains t

/-- The edge of the exchange that runs: the beat on L5, the last frame edge on L4 (R205, R220). -/
def State.exchangeEdge (s : State) (k : Nat) : Nat := if s.get F.laneMode k = 2 then s.now - s.now % 4 else s.now

/-- The image an accepted frame enters (R36, R221). -/
def State.exchangeImage (s : State) (k : Nat) : Nat :=
  if s.get F.laneMode k = 2 then s.exchangeEdge k + 4 else s.now + 1

/-- The attempt lies in a window: on L4 the first in the beat of the frame edge, the retry in the next. -/
def State.inWindow (s : State) (k : Nat) (retry : Bool) : Bool :=
  s.get F.laneMode k == 1 || (s.get F.laneMode k == 2 && s.now % 4 == (if retry then 1 else 0))

/-- HOLDER of a lane, which is below 96. -/
def State.putHolder (s : State) (k v : Nat) : State := if k < 96 then s.put F.laneHolder v k else s

/-- The status section of the unit itself (R211): OK, HELD, SAFE, CLOCK_FLY, DIAG and the board's EPOCH_REJECT are kept as they
came; the holder and DOWN_MISS are shown in LaneStatus. -/
def State.laneStatusIn (s : State) (k status : Nat) : State :=
  let holder := bitsOf status 3 2
  let s := s.putLane { s.lane k with status := status }
  let s := (s.putHolder k holder).add F.laneDownMiss (bitsOf status 8 8) k
  if bitOf status 7 then s.laneEvent k 9 1 [(2, holder)] else s                    -- HOLDER_CHANGE

/-- An accepted frame: its points wait for their image, unless the slot is crossed over. -/
def State.frameAccepted (s : State) (l : LaneRt) (f : Frame) (retry : Bool) : State :=
  let k := l.k
  let s := s.putLane { l with accepted := some (s.exchangeEdge k)
                              retried := if retry then some (s.exchangeEdge k) else l.retried }
  let s := (if retry then s.inc F.laneRetries k else s).put F.laneLink 1 k
  let s := s.put F.laneBoards 1 k
  let s := match ownStatus? f with
    | some v => s.laneStatusIn k v
    | none => s
  let s := s.putLane { s.lane k with subs := if l.bridge then (frameStatuses f).filter (fun x => x.1 != 0xFFFF) else [] }
  if s.get F.laneState k = lsCrossover then s else s.addDue (s.exchangeImage k) (k * 8) false f.points

/-- UPSTREAM_FRAME_RECEIVE on an L5 or L4 lane (R208, R214). -/
def State.upstreamFrame (s : State) (k : Nat) (f : Frame) : State :=
  let l := s.lane k
  let m := s.get F.laneMode k
  let edge := s.exchangeEdge k
  let retry := bitOf f.flags 4
  if !s.laneServed k ∨ (m ≠ 1 ∧ m ≠ 2) then s
  else if !frameSound f (maxLen m 0x02) then
    if retry then s.putLane { l with retried := some edge } else s
  else if !ftypeKnown f.ftype then s.inc F.laneBadFrame k
  else if f.ftype ≠ 0x02 ∨ f.beat ≠ edge ∨ f.lane ≠ k ∨ !s.inWindow k retry then
    if retry then s.putLane { l with retried := some edge } else s
  else if f.epochLo ≠ s.epochOf (.slot k) % 65536 then
    let s := s.inc F.laneEpochReject k
    if retry then s.putLane { l with retried := some edge } else s
  else if l.accepted = some edge then
    if retry then (s.putLane { l with retried := some edge }).inc F.laneDuplicates k else s
  else s.frameAccepted l f retry

/-- UPSTREAM_FRAME_RECEIVE (R214). -/
def execUpstreamFrameReceive (lane : Fin 96) (f : Frame) (s : State) : Host.Outcome State Fault Refusal :=
  .next (s.upstreamFrame lane f)

/-- ACK_SEND (R205, R214, R220): RESULT 0x00 where the exchange has an accepted frame, else 0x01; the second ACK answers
a retry. -/
def execAckSend (lane : Fin 96) (second : Bool) (s : State) : Host.Outcome State Fault Refusal :=
  let l := s.lane lane
  let edge := s.exchangeEdge lane
  .next (if !s.laneServed lane ∨ (second ∧ l.retried ≠ some edge) then s
    else
      let r := if l.accepted = some edge then 0 else 1
      s.putLane { l with ack := some (edge % 256, r, crc8 [edge % 256, r]) })

/-- A stale exchange of an L5 or L4 lane (R215, R216). -/
def State.laneStale (s : State) (l : LaneRt) : State :=
  let k := l.k
  let l := { l with run := l.run + 1, good := 0, healthy := false }
  let s := ((s.putLane l).inc F.laneStaleBeats k).put F.laneStaleRun (min l.run 15) k
  let s := if s.get F.laneState k = lsCrossover then s else s.addDue (s.exchangeImage k) (k * 8) true []
  let s := if s.get F.laneState k = lsLive then s.put F.laneState lsStale k else s
  let s := if l.run = 1 then s.laneEvent k 1 1 [(32, s.exchangeEdge k)] else s     -- LANE_STALE
  if l.run ≥ s.get F.staleLimit k ∧ s.get F.laneState k = lsStale then s.laneFail l else s

/-- An accepted exchange of an L5 or L4 lane (R216). -/
def State.laneGood (s : State) (l : LaneRt) : State :=
  let k := l.k
  let l := { l with run := 0, good := l.good + 1, healthy := true }
  let s := (s.putLane l).put F.laneStaleRun 0 k
  let s := if s.get F.laneState k = lsStale then s.put F.laneState lsLive k else s
  let joins := (l.failed && s.get F.laneState k == lsFailed && l.crossAt.isNone) || l.fresh
  if joins ∧ l.good ≥ s.get F.restoreLimit k then s.laneReturn l else s

/-- EXCHANGE_WINDOW_END: the exchange is judged once, at the end of its retry window. -/
def State.windowEnd (s : State) (k : Nat) : State :=
  let l := s.lane k
  let m := s.get F.laneMode k
  let edge := s.exchangeEdge k
  if !s.laneServed k ∨ (m ≠ 1 ∧ m ≠ 2) ∨ l.judged = some edge ∨ (m = 2 ∧ s.now % 4 = 0) then s
  else
    let l := { l with judged := some edge }
    if l.accepted = some edge then s.laneGood l else s.laneStale l

/-- EXCHANGE_WINDOW_END (R216). -/
def execExchangeWindowEnd (lane : Fin 96) (s : State) : Host.Outcome State Fault Refusal := .next (s.windowEnd lane)

/-- LOSS_OF_LINK (R216): a removal where no partner answers or the partner reports the loss too, else a failure at once. -/
def State.lossOfLink (s : State) (k : Nat) : State :=
  let l := s.lane k
  if s.get F.laneMode k = 0 ∨ s.get F.laneState k = lsAbsent then s
  else
    let s := s.put F.laneLink 0 k
    if s.get F.laneState k = lsMismatch ∨ !s.hasPartner ∨ bitOf s.pair.partnerLoss k then s.boardGone l
    else
      let l := { l with healthy := false, lostAt := some s.now }
      if l.failed then s.putLane l else s.laneFail { l with owes := true }

/-- LOSS_OF_LINK (R216). -/
def execLossOfLink (lane : Fin 96) (s : State) : Host.Outcome State Fault Refusal := .next (s.lossOfLink lane)

/-- The partner's report of lost links arrives (R216): within 40 beats of the own loss it makes it a removal. -/
def State.partnerLossIn (s : State) (bits : Nat) : State :=
  let s := { s with pair := { s.pair with partnerLoss := bits } }
  s.lanes.lanes.foldl (fun (s : State) l =>
    match l.lostAt with
    | some b => if bitOf bits l.k ∧ s.now ≤ b + 40 ∧ s.get F.laneLink l.k = 0 then s.boardGone (s.lane l.k) else s
    | none => s) s

/-! Insertion (R201, R233, R371). -/

/-- Board generations that a lane mode serves (R200); 12 stands for an HB-12. -/
def generationFits (mode generation : Nat) : Bool :=
  match mode with
  | 1 => generation == 5 || generation == 12
  | 2 => generation == 4 || generation == 12
  | 3 => generation == 3
  | _ => false

/-- UNIT_TYPE of a board generation (R375). -/
def unitTypeOf (generation : Nat) : Nat :=
  match generation with
  | 5 => 0x0010
  | 4 => 0x0011
  | 3 => 0x0013
  | 12 => 0x0014
  | 2 => 0x0015
  | _ => 0x0016

/-- The record of a board that has been configured, its epoch incremented. -/
def State.boardUnit (s : State) (hops : List Nat) (generation part serial : Nat) : State :=
  let u := (s.unit? hops).getD { hops := hops }
  (s.putUnit { u with type := unitTypeOf generation, part := part, serial := serial
                      vouched := generation != 5, status := 0, role := 1 }).bumpUnit hops 6

/-- A board in a slot of an L5 or L4 lane is configured (R233). -/
def State.slotInserted (s : State) (k generation type part serial : Nat) : State :=
  let l := s.lane k
  let st := s.get F.laneState k
  let s := if st = lsLive ∨ st = lsStale then s.boardGone l else s
  let l := s.lane k
  let s := s.boardUnit [0x0100 + k] generation part serial
  let s := (s.put F.laneLink 1 k).put F.laneBoards 1 k
  let s := s.put F.laneState (if st = lsCrossover then lsCrossover else if l.ever then lsFailed else lsLive) k
  let s := s.putLane { l with bridge := generation == 12, type := some (generation, type), owes := false, failed := l.ever, fresh := !l.ever, run := 0, good := 0
                              lostAt := none, accepted := none }
  s.laneEvent k 6 0 [(8, 0), (32, type), (32, s.epochOf (.slot k))]                -- BOARD_INSERTED

/-- A Gen-3 board at an address of an L3 lane is configured. -/
def State.l3Inserted (s : State) (k a type part serial : Nat) : State :=
  let b := s.l3 k a
  let s := s.boardUnit [0x0100 + k, a] 3 part serial
  let s := (s.put F.laneLink 1 k).put F.laneBoards (setBit (s.get F.laneBoards k) a true) k
  let s := if s.get F.laneState k = lsAbsent then s.put F.laneState lsLive k else s
  let s := s.putL3 { b with failed := b.ever, run := 0, good := 0, last := s.now, silent := true, mismatch := false
                            type := some type }
  s.laneEvent k 6 0 [(8, a), (32, type), (32, s.epochOf (.sub k a))]

/-- A Gen-1 or Gen-2 board behind an HB-12 (R229, R230): its own epoch and the bridge's are incremented. -/
def State.behindBridge (s : State) (k a generation type part serial : Nat) : State :=
  let s := (s.boardUnit [0x0100 + k, a] generation part serial).bumpUnit [0x0100 + k] 6
  s.laneEvent k 6 0 [(8, a), (32, type), (32, s.epochOf (.sub k a))]

/-- BOARD_MISMATCH (R201): the board is not configured and gets no cyclic frame; what it was is kept. -/
def State.mismatchFound (s : State) (k a generation type : Nat) : State :=
  let s := (s.laneEvent k 8 2 [(32, s.get F.expectedType k), (32, type)]).bumpUnit [0x0100 + k] 6
  if s.get F.laneMode k = 3 then s.putL3 { s.l3 k a with mismatch := true, type := some type }
  else ((s.putLane { s.lane k with type := some (generation, type) }).put F.laneLink 1 k).put F.laneState lsMismatch k

/-- A write of expected_type that the board found no longer fits raises BOARD_MISMATCH (R201): its points follow the failure
rules, as those of a board that has gone. One that fits lets the board be configured at its next insertion (DESIGN CHOICE, log
entry 30). -/
def State.typeWritten (s : State) (k : Nat) : State :=
  let want := s.get F.expectedType k
  if want = 0 then s
  else if s.get F.laneMode k = 3 then
    (s.lanes.l3.filter (fun b => b.lane == k && !b.mismatch && b.type.isSome && b.type != some want)).foldl (fun (s : State) b =>
      let s := if b.ever ∧ !b.failed then s.oweErr (k * 8 + b.addr) 1 else s
      (s.putL3 { b with failed := true, poll := none }).mismatchFound k b.addr 3 (b.type.getD 0)) s
  else match (s.lane k).type with
    | some (g, t) =>
      if t = want ∨ s.get F.laneState k = lsMismatch ∨ s.get F.laneState k = lsAbsent then s
      else
        let l := s.lane k
        let keys := if l.failed ∧ l.crossAt.isNone ∧ s.get F.laneState k ≠ lsCrossover then [] else s.liveKeys l
        let s := s.putLane { l with failed := true, good := 0, healthy := false, crossAt := none, returnAt := none, probes := 0 }
        (keys.foldl (fun s key => s.oweErr key 1) (s.mismatchFound k 0 g t)).showCrossover
    | none => s

/-- BOARD_INSERTED: identity, generation and type are checked, then the board is configured. -/
def State.boardInserted (s : State) (k a generation type : Nat) (identityOk : Bool) (part serial : Nat) : State :=
  let mode := s.get F.laneMode k
  let l := s.lane k
  let old := generation = 1 ∨ generation = 2
  if mode = 0 ∨ (48 ≤ k ∧ !s.lanes.tall) then s
  else if !identityOk then
    let check := (8, if generation = 5 then 1 else 2)
    let s := s.raise 387 1 2 (if mode = 3 ∨ old then [(8, 2), (16, 0x0100 + k), (16, a), check]
      else [(8, 1), (16, 0x0100 + k), check])                                            -- IDENTITY_FAILED
    if generation = 5 then (s.put F.laneLink 1 k).put F.laneState lsMismatch k else s
  else if old then (if l.bridge then s.behindBridge k a generation type part serial else s)
  else if !generationFits mode generation ∨ (s.get F.expectedType k ≠ 0 ∧ s.get F.expectedType k ≠ type) then
    s.mismatchFound k a generation type
  else if mode = 3 then (if bitOf (s.get F.l3Boards k) a then s.l3Inserted k a type part serial else s)
  else s.slotInserted k generation type part serial

/-- BOARD_INSERTED (R233). -/
def execBoardInserted (lane : Fin 96) (addr generation type : Nat) (identityOk : Bool) (partCode serial : Nat)
    (s : State) : Host.Outcome State Fault Refusal :=
  .next (s.boardInserted lane addr generation type identityOk partCode serial)

/-! Crossover rows (R161 to R164). -/

/-- Crossover volume of a lane and beat: an upstream and a downstream frame at their largest (R161, R213). -/
abbrev crossBytes : Nat := 1464 + 880

/-- CROSSOVER_FORWARD: the ACTIVE takes the frames its partner received in the beat before into the image of the next
beat; the partner forwards its own and serves the lane in this beat's Emit (R161). -/
def State.crossForward (s : State) (k : Nat) (points : List (Nat × Nat)) : State :=
  if s.get F.role = rActive then
    if s.get F.laneState k ≠ lsCrossover then s
    else
      let keys := s.laneKeys k
      let s := keys.foldl (fun (s : State) key =>
        let mine := points.filter (fun p => match s.rt.entry? p.1 with
          | some v => (s.stationsAt key).any (fun d => v.station == some d.idx)
          | none => false)
        s.addDue (s.now + 1) key false mine) s
      { s with pair := { s.pair with xBytes := s.pair.xBytes + crossBytes } }
  else if s.get F.role = rStandby ∨ s.get F.role = rShadow then
    { s with
      pair := { s.pair with fwd := s.pair.fwd ++ [(k, s.now - 1, points)] }
      lanes := { s.lanes with forwards := unassoc s.lanes.forwards k ++ [(k, s.now)] } }
  else s

/-- CROSSOVER_FORWARD (R161). -/
def execCrossoverForward (lane : Fin 96) (points : List (Nat × Nat)) (s : State) : Host.Outcome State Fault Refusal :=
  .next (s.crossForward lane points)

/-- A probe has come back clean: a PROBE_REPLY of this beat and lane, with the board's epoch and a right CRC (R205, R208, R214).
On an L3 lane, which has no frames, the last check poll stands for it (DESIGN CHOICE, log entry 30). -/
def State.probeClean (s : State) (k : Nat) (reply : Option Frame) : Bool :=
  if s.get F.laneMode k = 3 then (s.lane k).healthy
  else match reply with
    | some f => frameSound f (maxLen (s.get F.laneMode k) 0x11) && f.ftype == 0x11 && f.beat == s.now && f.lane == k
        && f.epochLo == s.epochOf (.slot k) % 65536
    | none => false

/-- LANE_PROBE (R162, R205): a PROBE leaves; three consecutive clean probes bring the lane back at the next edge. -/
def execLaneProbe (lane : Fin 96) (reply : Option Frame) (s : State) : Host.Outcome State Fault Refusal :=
  let ok := s.probeClean lane reply
  .next (if s.get F.laneState lane ≠ lsCrossover ∨ !s.serving then s
    else
    let s := s.sendService lane 0x10 []
    let l := s.lane lane
    if !ok then s.putLane { l with probes := 0 }
    else if l.probes + 1 ≥ 3 then s.putLane { l with probes := 3, returnAt := some (s.now + 1) }
    else s.putLane { l with probes := l.probes + 1 })

/-- CROSSOVER_END (R163): on the partner the lane is served no longer. -/
def execCrossoverEnd (lane : Fin 96) (_cause : Fin 3) (s : State) : Host.Outcome State Fault Refusal :=
  .next { s.endCrossover lane with lanes := { (s.endCrossover lane).lanes with
    forwards := unassoc (s.endCrossover lane).lanes.forwards lane } }

/-! L3 (R222 to R224). -/

/-- The outputs of the stations behind a key, as committed last. -/
def State.outsAt (s : State) (key : Nat) : List (Nat × Nat) :=
  let ds := (s.stationsAt key).map (fun d => d.idx)
  (s.rt.outPoints.filter (fun v => match v.station with | some d => ds.contains d | none => false)).map
    (fun v => (v.idx, (valAt s.rt.outs v.idx).getD v.safeVal))

/-- The characters of a poll (R222): address and command, BEAT[7:0], the output bytes, and the CRC-16 of what stands between
the address character and the CRC. -/
def pollChars (command addr beat : Nat) (outs : List Nat) : List Nat :=
  let body := beat % 256 :: (outs.take 8).map (fun b => b % 256)
  (8 * command + addr) :: body ++ bytesOf 2 (crc16 body)

/-- L3_POLL: the holder polls board `p` in each beat q with q mod 40 = 5p, with the outputs committed in beat q − 1; a board
that does not match the configuration is sent no cyclic poll (R201). -/
def execL3Poll (lane : Fin 96) (board : Fin 8) (s : State) : Host.Outcome State Fault Refusal :=
  let outs := s.outsAt (lane.val * 8 + board.val)
  .next (if s.get F.laneMode lane = 3 ∧ bitOf (s.get F.l3Boards lane) board ∧ s.get F.claim = 1 ∧
        !(s.l3 lane board).mismatch ∧ s.now % 40 = 5 * board.val then
      s.putL3 { s.l3 lane board with
        poll := some (s.now, false), sent := outs, chars := pollChars 0x01 board s.now (Config.l3Outputs outs) }
    else s)

/-- L3_CHECK_POLL: the other module asks board `p` for its status in each beat q with q mod 40 = 5p + 2. -/
def execL3CheckPoll (lane : Fin 96) (board : Fin 8) (s : State) : Host.Outcome State Fault Refusal :=
  .next (if s.get F.laneMode lane = 3 ∧ bitOf (s.get F.l3Boards lane) board ∧ s.get F.claim = 0 ∧
        s.now % 40 = 5 * board.val + 2 then
      s.putL3 { s.l3 lane board with poll := some (s.now, true), chars := pollChars 0x03 board s.now [] }
    else s)

/-- STALE_RUN and STATE of an L3 lane follow its boards. -/
def State.showL3 (s : State) (k : Nat) : State :=
  let bs := s.lanes.l3.filter (fun b => b.lane == k)
  let s := s.put F.laneStaleRun (min (listMax (bs.map (fun b => b.run))) 15) k
  let st := s.get F.laneState k
  if st = lsLive ∨ st = lsStale then s.put F.laneState (if bs.any (fun b => b.run != 0) then lsStale else lsLive) k else s

/-- An L3 board is stale for its poll (R223): the board alone fails at stale_limit, the lane once every configured board
has failed or none has answered for 40 beats. -/
def State.l3Stale (s : State) (b : L3Rt) (missing check : Bool) : State :=
  let k := b.lane
  let key := k * 8 + b.addr
  let b := { b with poll := none, run := b.run + 1, good := 0, silent := (b.silent || b.run == 0) && missing }
  let s := ((s.putL3 b).inc F.laneStaleBeats k).putLane { s.lane k with healthy := false }
  let s := if check then s else s.addDue (s.now + 1) key true []
  let s := if b.run = 1 then s.laneEvent k 1 1 [(32, s.now)] else s                -- LANE_STALE
  let fails := !b.failed && decide (b.run ≥ s.get F.staleLimit k) && s.get F.laneState k != lsCrossover
  let s : State := if fails then
      let s := (s.putL3 { b with failed := true }).put F.laneBoards (setBit (s.get F.laneBoards k) b.addr false) k
      let s := s.laneEvent k 2 2 [(32, s.now), (8, b.addr)]                        -- LANE_FAILED
      let s := if b.ever then s.oweErr key 1 else s
      if b.silent then (s.laneEvent k 7 2 [(8, b.addr)]).bumpUnit [0x0100 + k, b.addr] 6 else s  -- BOARD_REMOVED
    else s
  let s := s.showL3 k
  let bs := (List.range 8).filter (fun a => bitOf (s.get F.l3Boards k) a)
  let dead := bs.all (fun a => (s.l3 k a).failed) || bs.all (fun a => decide ((s.l3 k a).last + 40 ≤ s.now))
  if dead ∧ !(s.lane k).failed ∧ s.laneServed k then s.laneFail (s.lane k) else s

/-- An L3 board has answered its poll: its points reach the image of the next beat; a failed board returns after
restore_limit answers. -/
def State.l3Good (s : State) (b : L3Rt) (check : Bool) (status : Nat) (points : List (Nat × Nat)) : State :=
  let k := b.lane
  let key := k * 8 + b.addr
  let b := { b with poll := none, run := 0, good := b.good + 1, silent := true, last := s.now, status := status }
  let s := ((s.putL3 b).putHolder k (bitsOf status 3 2)).putLane { s.lane k with healthy := true }
  let s := (s.put F.laneLink 1 k).put F.laneBoards (setBit (s.get F.laneBoards k) b.addr true) k
  let s := if s.get F.laneState k = lsAbsent then s.put F.laneState lsLive k else s
  let s := if bitOf status 7 then s.laneEvent k 9 1 [(2, bitsOf status 3 2)] else s  -- HOLDER_CHANGE
  let s := if check ∨ s.get F.laneState k = lsCrossover then s else s.addDue (s.now + 1) key false points
  let s : State := if b.good ≥ s.get F.restoreLimit k ∧ (b.failed ∨ !b.ever) then
      let s := s.putL3 { b with failed := false, ever := true, good := 0 }
      let s := if b.ever then (s.laneEvent k 3 0 [(32, s.now)]).oweErr key 2 else s  -- LANE_RETURNED
      if s.get F.laneState k = lsFailed then
        (s.put F.laneState lsLive k).putLane { s.lane k with failed := false, crossAt := none } else s
    else s
  s.showL3 k

/-- L3_RESPONSE_RECEIVE (R222 to R224): a response to the outstanding poll; one whose CRC fails, or that comes from another
address or with more than 12 input bytes, makes the board stale. -/
def execL3ResponseReceive (lane : Fin 96) (board : Fin 8) (check : Bool) (addrChar status crc : Nat) (s : State)
    (inputs : List Nat := []) (points : List (Nat × Nat) := []) : Host.Outcome State Fault Refusal :=
  let b := s.l3 lane board
  .next (if b.poll ≠ some (s.now, check) then s
    else if crc = crc16 (status :: inputs) ∧ addrChar % 8 = board.val ∧ inputs.length ≤ 12 then s.l3Good b check status points
    else s.l3Stale b false check)

/-- L3_RESPONSE_TIMEOUT (R223): the response is missing or late; there is no retry. -/
def execL3ResponseTimeout (lane : Fin 96) (board : Fin 8) (check : Bool) (s : State) : Host.Outcome State Fault Refusal :=
  let b := s.l3 lane board
  .next (if b.poll ≠ some (s.now, check) then s else s.l3Stale b true check)

/-! WSL-E (R51 to R53, R225 to R228). -/

/-- A port carries WSL-E upstream, toward a controlling pair; downstream, toward stations (R19), which a SPLIT module does not
have (R22, R190). -/
def State.portUp (s : State) (p : Nat) : Bool := bitOf (s.get F.wslUpPorts) p
def State.portDown (s : State) (p : Nat) : Bool := bitOf (s.get F.wslDownPorts) p && s.get F.triad != 2

/-- A port's WSL-E exchanges are this module's: upstream only while it serves (R20). -/
def State.portLive (s : State) (p : Nat) : Bool := (s.portUp p && s.serving) || (!s.portUp p && s.portDown p)

/-- The cadence of what a station's port receives (R51): upstream frames in beats with n mod 4 = 2, downstream frames in
beats with n mod 4 = 3. -/
def State.rxCadence (s : State) (p : Nat) : Nat := if s.portUp p then 3 else 2

/-- A frame of this beat index, received `off` × 5 ns into the current beat, is in time for its image: its beat is one of the
cadence, and edge n + 2 is still 5 µs away (R51, R52). -/
def State.rxInTime (s : State) (p beat off : Nat) : Bool :=
  beat % 4 == s.rxCadence p && (beat == s.now || (beat + 1 == s.now && decide (off ≤ 49000)))

/-- WSL_FRAME_RECEIVE: a fragment is checked by its prefix, its type and CRC and its beat, and kept. -/
def State.wslFrame (s : State) (n off : Nat) (pre : WslPrefix) (f : Frame) : State :=
  let w := s.wslRt n
  let p := s.get F.wslPort n
  let up := s.portUp p
  if p = 0xFF ∨ !s.portLive p then s
  else if pre.magic ≠ 0x5745 ∨ pre.ver ≠ 1 ∨ pre.station ≠ s.get F.wslStation n then s.putWsl { w with bad := w.bad + 1 }
  else if !frameSound f 1444 then s
  else if !ftypeKnown f.ftype then s.putWsl { w with bad := w.bad + 1 }
  else if f.ftype ≠ (if up then 0x21 else 0x22) ∨ pre.dir ≠ (if up then 1 else 2) ∨ f.lane ≠ 0xFF then s
  else if up ∧ !bitOf f.flags 0 then s
  else if !s.rxInTime p f.beat off then s.inc F.wslBeatMismatch n
  else
    let w : WslRt := if up then { w with holder := 1 + bitsOf f.flags 1 1 } else w
    let w : WslRt := if w.beat = f.beat ∧ w.frags ≠ [] then w
      else { w with beat := f.beat, xseq := pre.xseq, frags := [], lastFrag := f.frag / 16 % 16, points := [] }
    if pre.xseq ≠ w.xseq ∨ w.frags.contains (f.frag % 16) then s.putWsl w
    else s.putWsl { w with frags := w.frags ++ [f.frag % 16], points := w.points ++ f.points }

/-- WSL_FRAME_RECEIVE (R52, R226). -/
def execWslFrameReceive (st : Fin 64) (pre : WslPrefix) (f : Frame) (s : State) (off : Nat := 0) :
    Host.Outcome State Fault Refusal := .next (s.wslFrame st off pre f)

/-- Every fragment of an exchange has come. -/
def WslRt.whole (w : WslRt) : Bool := (List.range (w.lastFrag + 1)).all (fun i => w.frags.contains i)

/-- An exchange has been received whole: its points reach the image two beats after it was sent. -/
def State.wslGood (s : State) (w : WslRt) : State :=
  let p := s.get F.wslPort w.st
  let w := { w with run := 0, good := w.good + 1, judged := some w.beat, frags := [] }
  let s := (s.putWsl w).addDue (w.beat + 2) (1000 + w.st) false w.points
  if w.failed ∧ w.good ≥ s.get F.wslRestoreLimit w.st then
    let s := (s.putWsl { w with failed := false, good := 0 }).put F.wslState lsLive w.st
    (s.raiseWsl p w.st 3 0 [(32, s.now)]).oweErr (1000 + w.st) 2                    -- LANE_RETURNED
  else if w.failed then s
  else (s.putWsl { w with ever := true }).put F.wslState lsLive w.st

/-- A missing exchange is stale for every point it carries (R227). -/
def State.wslStale (s : State) (w : WslRt) (beat : Nat) : State :=
  let p := s.get F.wslPort w.st
  let w := { w with run := w.run + 1, good := 0, judged := some beat, frags := [] }
  let s := (s.putWsl w).addDue (beat + 2) (1000 + w.st) true []
  if w.failed ∨ !w.ever then s
  else
    let s := (if w.run = 1 then s.raiseWsl p w.st 1 1 [(32, beat)] else s).put F.wslState lsStale w.st  -- LANE_STALE
    if w.run ≥ s.get F.wslStaleLimit w.st then
      let s := (s.putWsl { w with failed := true }).put F.wslState lsFailed w.st
      (s.raiseWsl p w.st 2 2 [(32, s.now), (8, 0xFF)]).oweErr (1000 + w.st) 1       -- LANE_FAILED
    else s

/-- WSL_EXCHANGE_DEADLINE: 5 µs before its image edge the exchange is judged. -/
def State.wslDeadline (s : State) (n : Nat) : State :=
  let w := s.wslRt n
  let p := s.get F.wslPort n
  if p = 0xFF ∨ !s.portLive p ∨ s.now = 0 then s
  else
    let beat := s.now - 1
    if beat % 4 ≠ s.rxCadence p ∨ w.judged = some beat then s
    else if w.beat = beat ∧ w.frags ≠ [] ∧ w.whole then s.wslGood w
    else s.wslStale w beat

/-- WSL_EXCHANGE_DEADLINE (R52, R227). -/
def execWslExchangeDeadline (st : Fin 64) (s : State) : Host.Outcome State Fault Refusal := .next (s.wslDeadline st)

/-- WSL_GATE_OPEN (R228): in beats with n mod 4 = 2 on upstream ports, 3 on downstream ports. -/
def execWslGateOpen (port : Fin 12) (s : State) : Host.Outcome State Fault Refusal :=
  let due := (s.portUp port ∧ s.serving ∧ s.now % 4 = 2) ∨ (s.portDown port ∧ s.now % 4 = 3)
  .next (if due ∧ !s.lanes.gates.contains port.val then
      { s with lanes := { s.lanes with gates := s.lanes.gates ++ [port.val] } } else s)

/-- WSL_GATE_CLOSE (R228): fragments not sent within the gate are dropped and counted, on the lowest station of the port. -/
def execWslGateClose (port : Fin 12) (unsent : Nat) (s : State) : Host.Outcome State Fault Refusal :=
  .next (if !s.lanes.gates.contains port.val then s
    else
      let s := { s with lanes := { s.lanes with gates := s.lanes.gates.filter (fun g => g != port.val) } }
      match (List.range 64).find? (fun n => s.get F.wslPort n == port.val) with
      | some n => s.add F.wslGateOverrun unsent n
      | none => s)

/-! What Emit sends (R51, R205, R209, R220). -/

/-- The content is the module's safe values: STOP, or HOLD under hold_policy SAFE (R55, R107). -/
def State.safeContent (s : State) : Bool :=
  s.get F.mode == mStop || (s.get F.mode == mHold && s.get F.holdPolicy == 1)

/-- FLAGS of a downstream frame (R209). -/
def State.downFlags (s : State) (claim forwarded : Bool) : Nat :=
  (if claim then 1 else 0) + 2 * s.get F.side + (if s.pair.handing then 4 else 0) + (if forwarded then 8 else 0)
    + (if s.safeContent then 32 else 0)

/-- The downstream frames of a beat: on every served lane that is not crossed over, each beat on L5, in the last beat of
the frame cycle on L4. -/
def State.emitLanes (s : State) : State :=
  if s.get F.claim = 0 ∨ s.pair.claimBeats ≠ 0 then { s with lanes := { s.lanes with down := [] } }
  else
    let ks := (List.range 96).filter (fun k => s.laneServed k && s.get F.laneState k != lsCrossover &&
      (s.get F.laneMode k == 1 || (s.get F.laneMode k == 2 && s.now % 4 == 3)))
    { s with lanes := { s.lanes with down := ks.map (fun k =>
      s.cyclicFrame k (s.downFlags true false) (s.outsAt (k * 8))) } }

/-- The lanes whose FORWARDED frame is due in this Emit: those whose upstream frames went over in this beat on L5, in this frame
cycle on L4, whose frame leaves in the last beat of the cycle (R161, R220). -/
def State.forwardsNow (s : State) : List Nat :=
  (s.lanes.forwards.filter (fun f => if s.get F.laneMode f.1 = 2
    then s.now % 4 == 3 && f.2 / 4 == s.now / 4 else s.get F.laneMode f.1 == 1 && f.2 == s.now)).map (fun f => f.1)

/-- The FORWARDED frames of the lanes served for the partner, from its output close (R161). -/
def State.emitForwarded (s : State) (outs : List (Nat × Nat)) : State :=
  let frames := (s.forwardsNow).map (fun k =>
    let ds := (s.stationsAt (k * 8)).map (fun d => d.idx)
    let mine := outs.filter (fun o => match s.rt.entry? o.1 with
      | some v => (match v.station with | some d => ds.contains d | none => false)
      | none => false)
    s.cyclicFrame k (s.downFlags false true) mine)
  { s with lanes := { s.lanes with down := s.lanes.down ++ frames } }

/-- The values that the program publishes to another controller pair, which its I/O map lists as a station (R51): the named
values that have this station (DEDUCED, log entry 30). -/
def State.publishedTo (s : State) (n : Nat) : List (Nat × Nat) :=
  let ds := (s.stationsAt (1000 + n)).map (fun d => d.idx)
  match s.rt.prog with
  | some p => (p.vals.filter (fun v => decide (v.kind ≤ 2) && (match v.station with | some d => ds.contains d | none => false))).map
      (fun v => (v.idx, (s.rt.read v).1))
  | none => []

/-- FLAGS of an upstream frame of this station-head (R209): the holder it sees, its outputs in their safe states, the last
exchange missing. -/
def State.upFlags (s : State) (w : WslRt) : Nat :=
  (if w.holder = 2 then 2 else 0) + (if s.safeContent then 32 else 0) + (if w.run ≠ 0 then 64 else 0)

/-- Sections into the payloads of fragments, each filled as far as whole sections fit (R210, R213). -/
def intoFragments (limit : Nat) (sections : List (List Nat)) : List (List Nat) :=
  sections.foldl (fun (frags : List (List Nat)) x =>
    match frags.reverse with
    | last :: before => if last.length + x.length ≤ limit then (before.reverse ++ [last ++ x]) else frags ++ [x]
    | [] => [x]) [[]]

/-- The exchange that leaves for station `n` (R207, R226, R227): a prefix and at most 16 fragments with LANE 0xFF. -/
def State.wslExchange (s : State) (n : Nat) (up : Bool) (flags : Nat) (vals : List (Nat × Nat)) : WslOut :=
  let w := s.wslRt n
  let payloads := (intoFragments 1444 (s.imageSections 0xFFFF vals)).take 16
  let epoch := if up then s.epochOf .pair else s.epochOf (.station n [])
  { st := n, down := !up, beat := s.now, xseq := w.sentXseq, flags := flags, vals := vals
    prefixBytes := bytesOf 2 0x5745 ++ [1, if up then 2 else 1] ++ bytesOf 4 (s.get F.wslStation n) ++ bytesOf 4 w.sentXseq
      ++ bytesOf 4 0
    frags := (List.range payloads.length).map (fun i => sealFrame 1444
      { ftype := if up then 0x22 else 0x21, flags := flags, beat := s.now, lane := 0xFF
        frag := i + 16 * (payloads.length - 1), epochLo := epoch % 65536, payload := payloads.getD i [] }) }

/-- WSL_FRAME_SEND (R51, R53): upstream the input image and what is published to that pair, downstream the committed outputs;
only while TIME_LOCKED. -/
def State.emitWsl (s : State) : State :=
  let s := { s with lanes := { s.lanes with wslOut := [] } }
  if !s.serving ∨ s.get F.timeLocked = 0 ∨ s.pair.claimBeats ≠ 0 then s
  else
    (List.range 64).foldl (fun (s : State) n =>
      let p := s.get F.wslPort n
      let up := s.portUp p
      if p ≠ 0xFF ∧ ((up ∧ s.now % 4 = 2) ∨ (!up ∧ s.portDown p ∧ s.now % 4 = 3)) then
        let w := s.wslRt n
        let out := if up then
            s.wslExchange n up (s.upFlags w) (s.rt.image.map (fun v => (v.idx, v.val)) ++ s.publishedTo n)
          else s.wslExchange n up (s.downFlags true false) (s.outsAt (1000 + n))
        let s := s.putWsl { w with sentXseq := (w.sentXseq + 1) % 2 ^ 32 }
        { s with lanes := { s.lanes with wslOut := s.lanes.wslOut ++ [out] } }
      else s) s

end Sys2Proof.Machine
end

