-- ==== Sys2Proof/Machine/Field.lean ====
section
/-! DEFINITION. Local field I/O: digital channels, analog loop ports, encoder inputs, capture units, and the failure of
the field side (R239 to R279). -/

namespace Sys2Proof.Machine

open Sys2Proof

/-! Records of channels. -/

/-- Capture unit `u`. -/
def State.cap (s : State) (u : Nat) : CapRt := (s.field.caps.find? (fun c => c.u == u)).getD { u := u }

/-- Replaces a capture unit. -/
def State.putCap (s : State) (c : CapRt) : State :=
  { s with field := { s.field with caps := s.field.caps.filter (fun d => d.u != c.u) ++ [c] } }

/-- The present instant in 5 ns of the beat timebase. -/
def State.tick (s : State) : Nat := s.now * 50000 + s.beat.off

/-- Ticks of 5 ns in 100 ms and in 1 s. -/
abbrev ticks100ms : Nat := 20000000
abbrev ticks1s : Nat := 200000000

/-! Parallel groups (R253). -/

/-- The channel whose configuration a channel follows: the lowest of its pair or quad, else itself. -/
def State.dioLead (s : State) (k : Nat) : Nat :=
  if k < 8 then k
  else if s.get F.parallel (k - k % 4) = 2 then k - k % 4
  else if s.get F.parallel (k - k % 2) = 1 then k - k % 2
  else k

/-- The channels of a group. -/
def State.dioGroup (s : State) (lead : Nat) : List Nat := (List.range 16).filter (fun k => s.dioLead k == lead)

/-- A channel configured as output. -/
def State.dioOut (s : State) (k : Nat) : Bool := s.get F.dioDir k == 1

/-- The load supply of a channel's group is not OK (R254, R255). -/
def State.supplyLow (s : State) (k : Nat) : Bool :=
  (if k < 8 then s.get F.laState else s.get F.lbState) != 0

/-! Values the field side takes (R242, R256, R259). -/

/-- The value of a channel's safe state: OFF, ON or the last output of RUN or HOLD. -/
def State.dioSafe (s : State) (k : Nat) : Bool :=
  match s.get F.safeState k with
  | 0 => false
  | 1 => true
  | _ => (s.dio k).lastRun

/-- The output point of the program on a local channel, by its status object. -/
def RtSt.localOut? (rt : RtSt) (obj : Nat) : Option ValDef :=
  rt.outPoints.find? (fun v => v.statusObj == obj && v.station.isNone)

/-- OPEN_WIRE and EXT_DRIVE end, each with its DIO_WIRE (R254). -/
def State.wireEnds (s : State) (k : Nat) : State :=
  let s := if s.flag F.dioOpenWire k then (s.put F.dioOpenWire 0 k).raise (97 + 4 * k) 1 1 [(8, k), (8, 0), (8, 1)] else s
  if s.flag F.dioExtDrive k then (s.put F.dioExtDrive 0 k).raise (97 + 4 * k) 1 1 [(8, k), (8, 1), (8, 1)] else s

/-- A switch takes its value: on only with the drive enable, and not while tripped or hot (R250, R251). The wire flags are those
of an output commanded 0 (R254). -/
def State.dioDrive (s : State) (k : Nat) (v : Bool) : State :=
  let lead := s.dioLead k
  let s := if v && s.dioOut k then s.wireEnds k else s
  let d := s.dio k
  let can := s.dioOut k && s.get F.driveEn == 1 && s.get F.dioTripped lead == 0 &&
    (s.dioGroup lead).all (fun m => !(s.dio m).hot)
  s.putDio { d with commanded := v, on := v && can }

/-- Target current of a percentage (R259), binary32 mA. -/
def aoCurrent (percent : Nat) : Nat := toF32 (4 + 16 * clampR (f32 percent) (-5 / 4) (825 / 8) / 100)

/-- Current of the fail level. -/
def State.aoFail (s : State) (k : Nat) : Nat := if s.get F.aoFailLevel k = 0 then toF32 (18 / 5) else toF32 21

/-- A port drives a committed percentage, or the fail level where the value is a NaN; a fault of R260 stands before it.
A new target that differs by more than 1 mA clears READBACK_FAULT. -/
def State.aoDrive (s : State) (k : Nat) (percent : Nat) (fail : Bool) : State :=
  let a := s.ao k
  if s.get F.driveEn = 0 ∨ s.get F.aoMode k = 0 ∨ s.flag F.aoMiswire k then
    (s.putAo { a with percent := percent, target := none }).put F.aoFailing 0 k
  else
    let want := aoCurrent percent
    let moved := f32 want - f32 (aoCurrent a.percent)
    let s := if !fail && !f32Bad percent && decide (moved > 1 ∨ moved < -1) then s.put F.aoReadbackFault 0 k else s
    let failing := fail || f32Bad percent || s.flag F.aoReadbackFault k
    (s.putAo { a with percent := percent, target := some (if failing then s.aoFail k else want) }).putFlag F.aoFailing
      failing k

/-- A port takes its safe state: HOLD, FIXED or FAIL (R259). -/
def State.aoSafeState (s : State) (k : Nat) : State :=
  match s.get F.aoSafe k with
  | 0 => s.aoDrive k (s.ao k).percent false
  | 1 => s.aoDrive k (s.get F.aoFixed k) false
  | _ => s.aoDrive k (s.ao k).percent true

/-- Every local output takes its safe state. -/
def State.fieldSafe (s : State) : State :=
  let s := (List.range 16).foldl (fun (s : State) k => s.dioDrive k (s.dioSafe (s.dioLead k))) s
  (List.range 4).foldl (fun (s : State) k => s.aoSafeState k) s

/-- Latch values reach the local outputs: committed values, and the safe state of a point that has none. -/
def State.fieldApply (s : State) (vals : List (Nat × Nat)) : State :=
  let s := (List.range 16).foldl (fun (s : State) k =>
    let lead := s.dioLead k
    match s.rt.localOut? (0x3030 + lead) with
    | some v =>
      match valAt vals v.idx with
      | some x => (s.putDio { s.dio k with lastRun := x != 0 }).dioDrive k (x != 0)
      | none => s.dioDrive k (s.dioSafe lead)
    | none => s.dioDrive k false) s
  (List.range 4).foldl (fun (s : State) k =>
    match s.rt.localOut? (0x3058 + k) with
    | some v =>
      match valAt vals v.idx with
      | some x => s.aoDrive k (if v.ty = .f32 then x else toF32 (valNum v.ty x)) false
      | none => s.aoSafeState k
    | none => s.aoDrive k 0 false) s

/-- The latch values that Emit sends (R239): those of the local output points; in STOP none, and under hold_policy SAFE
only forced points and those of the stepped class (R55, R107). -/
def State.latchVals (s : State) : List (Nat × Nat) :=
  let own := s.rt.outPoints.filter (fun v => v.station.isNone)
  let keep := if s.get F.mode = mStop then []
    else if s.get F.mode = mHold ∧ s.get F.holdPolicy = 1 then
      own.filter (fun v => (valAt s.rt.forces v.idx).isSome || s.rt.stepClass == some v.home)
    else own
  keep.filterMap (fun v => (valAt s.rt.outs v.idx).map (fun x => (v.idx, x)))

/-- The field side receives the beat update of Emit. -/
def State.armLatches (s : State) (vals : List (Nat × Nat)) : State :=
  { s with field := { s.field with armed := some vals, lastUpdate := s.now } }

/-- Field silence (R242): safe states, SILENT, FIELD_SILENT. -/
def State.fieldSilent (s : State) : State :=
  if s.get F.driveEn = 0 ∨ s.field.silent then s
  else
    let s := { s with field := { s.field with silent := true } }
    let s := ((s.put F.silent 1).inc F.silentCount).raise 160 2 3 [(32, s.field.lastUpdate)]    -- FIELD_SILENT
    s.fieldSafe

/-! The edge (R36, R37, R239 to R248). -/

/-- LEVEL of a channel at the edge: readback of an output, pulsed or filtered state of an input. -/
def State.dioSample (s : State) (k : Nat) (raw : Bool) : State :=
  let d := s.dio k
  let level := s.flag F.dioLevel k
  if s.dioOut k ∨ s.get F.pulsed k = 1 then s.putFlag F.dioLevel raw k
  else if raw = level then s.putDio { d with cand := 0 }
  else if d.cand + 1 ≥ s.get F.inFilter k + 1 then (s.putDio { d with cand := 0 }).putFlag F.dioLevel raw k
  else s.putDio { d with cand := d.cand + 1 }

/-- A difference of two rationals is at most `e` in magnitude. -/
def within (a b e : Rat) : Bool := decide (a - b ≤ e) && decide (b - a ≤ e)

/-- Readback of a port at the edge (R260): OPEN_LOOP and HEADROOM_LOW clear. -/
def State.aoSample (s : State) (k ma volts : Nat) : State :=
  let s := (s.put F.aoReadback ma k).put F.aoHeadroom volts k
  let a := s.ao k
  let near : Bool := match a.target with | some t => within (f32 ma) (f32 t) (1 / 2) | none => false
  let s := s.putAo { a with back := if near then a.back + 1 else 0 }
  let s := if near = true ∧ a.back + 1 ≥ 2 then s.put F.aoOpenLoop 0 k else s
  if f32 volts ≥ 21 / 2 then s.put F.aoHeadroomLow 0 k else s

/-- Presets take effect at the edge, instead of its sample (R265). -/
def State.encPresets (s : State) : State :=
  let s := s.field.presets.foldl (fun (s : State) p =>
    ((s.put F.encCount p.2 p.1).put F.encUncertain 0 p.1).put F.encZSeen 0 p.1) s
  { s with field := { s.field with presets := [] } }

/-- Results complete before the edge enter its image (R269); TP_CAPTURE and ENC_CAPTURE name the unit. -/
def State.capsToImage (s : State) : State :=
  (List.range 10).foldl (fun (s : State) u =>
    let c := s.cap u
    if c.queue.isEmpty then s.putCap { c with image := [] }
    else
      let s := s.putCap { c with image := c.queue, queue := [], log := lastN 16 (c.log ++ [(s.now, c.queue)]) }
      let n := c.queue.length
      if u < 8 then s.raise (176 + 4 * (u / 2)) 1 0 [(32, u), (32, n)]                  -- ENC_CAPTURE
      else s.raise (328 + (u - 8)) 1 0 [(8, u - 6), (32, n)]) s                         -- TP_CAPTURE

/-- The edge at the field side: latches of the last Emit, or silence; samples. -/
def State.fieldEdge (s : State) (i : EdgeIn) : State :=
  let s := s.encPresets
  let s : State := match s.field.armed with
    | some vals =>
      let s := { s with field := { s.field with armed := none, silent := false } }
      if s.get F.driveEn = 1 then (if s.get F.mode = mStop then s.fieldSafe else s.fieldApply vals) else s.fieldOff
    | none =>
      if s.get F.driveEn = 1 ∧ !s.field.silent ∧ s.field.lastUpdate + 4 * s.get F.fieldTimeoutCfg ≤ s.now then s.fieldSilent
      else if s.get F.driveEn = 0 then s.fieldOff else s
  let s := (List.range 16).foldl (fun (s : State) k => s.dioSample k (bitOf i.dio k)) s
  let s := (List.range 4).foldl (fun (s : State) k =>
    if i.aoMa = [] then s else s.aoSample k (i.aoMa.getD k 0) (i.aoV.getD k 0)) s
  let s := s.capsToImage
  { s with field := { s.field with staleNow := false } }

/-! Failure and return of the field side (R15, R243). -/

/-- FIELD_SIDE_FAILED: cause 1 samples late, 2 converter. R15 follows: a planned switch-over, or SAFE without a READY
partner; the filter lanes are in FAULT (R297). -/
def State.fieldFails (s : State) (cause : Nat) : State :=
  if s.field.failed then s
  else
    let s := { s with field := { s.field with failed := true, good := 0 } }
    let s := s.raise 160 4 3 [(8, cause)]                                               -- FIELD_SIDE_FAILED
    let s := (List.range 8).foldl (fun (s : State) k =>
      if s.get F.faState k = 0 ∨ s.get F.faState k = 4 then s else s.put F.faState 3 k) s
    if s.canPlan then s.plan 7 0
    else if s.serving then s.cause (.safe 7) 1 else s

/-- The converter is out of regulation in this beat, counted once. -/
def State.converterBad (s : State) : State :=
  let s := s.put F.converter 0
  if s.field.badBeat = some s.now then s
  else
    let run := match s.field.badBeat with | some b => if b + 1 = s.now then s.field.bad + 1 else 1 | none => 1
    let s := { s with field := { s.field with bad := run, badBeat := some s.now, good := 0 } }
    if run ≥ 3 then s.fieldFails 2 else s

/-- FIELD_SAMPLES_CROSS (R239, R243): the samples are across by 8 µs; three good beats bring a failed field side back. -/
def execFieldSamplesCross (converterOk : Bool) (s : State) : Host.Outcome State Fault Refusal :=
  let s := { s with field := { s.field with late := 0 } }
  .next (if !converterOk then s.converterBad
    else
      let good := s.field.good + 1
      let s := s.put F.converter 1
      { s with field := { s.field with
          good := if s.field.failed && decide (good ≥ 3) then 0 else good, bad := 0
          failed := s.field.failed && decide (good < 3) } })

/-- FIELD_SAMPLES_LATE (R243). -/
def execFieldSamplesLate (s : State) : Host.Outcome State Fault Refusal :=
  let s := { s with field := { s.field with late := s.field.late + 1, good := 0, staleNow := true } }
  .next (if s.field.late ≥ 3 then s.fieldFails 1 else s)

/-- FIELD_CONVERTER (R243): the converter leaves regulation. -/
def execFieldConverter (s : State) : Host.Outcome State Fault Refusal :=
  .next ((s.raise 160 3 3 [(8, 1)]).converterBad)

/-- FIELD_TIMEOUT (R242): no valid update for field_timeout. -/
def execFieldTimeout (s : State) : Host.Outcome State Fault Refusal :=
  .next (if s.field.lastUpdate + 4 * s.get F.fieldTimeoutCfg ≤ s.now then s.fieldSilent else s)

/-! Digital outputs (R249 to R254). -/

/-- A DIO configuration has been written: RETRIES_LEFT and SUPPLY_LOW follow, the wire flags of a channel without their
detection end, and a pulsed channel counts no edges (R247, R254, R273). -/
def State.dioWritten (s : State) (k : Nat) : State :=
  let s := if s.get F.dioTripped k = 0 then s.put F.dioRetriesLeft (s.get F.retry k) k else s
  let s := s.putFlag F.dioSupplyLow (s.dioOut k && s.supplyLow k) k
  let s := if s.get F.pulsed k = 1 then s.put F.dioEdgeCount 0 k else s
  if s.get F.openWireEn k = 1 ∧ (s.dioOut k ∨ (s.get F.inType k = 2 ∧ s.get F.pulsed k = 0)) then s else s.wireEnds k

/-- A trip: the group is off, OVERLOAD and TRIPPED stand on its lowest channel, DIO_OVERLOAD names the member. `how`: 0 in
the ramp, 1 sustained. -/
def State.dioTrip (s : State) (k how : Nat) : State :=
  let lead := s.dioLead k
  let s := (s.dioGroup lead).foldl (fun (s : State) m => s.putDio { s.dio m with on := false }) s
  let s := s.putDio { s.dio lead with trip := some s.tick }
  let s := (((s.put F.dioOverload 1 lead).put F.dioTripped 1 lead).inc F.dioOverloadCount lead).spoilRate 2 lead
  s.raise (96 + 4 * lead) 1 2 [(8, lead), (8, k), (8, how)]                             -- DIO_OVERLOAD

/-- A channel of this module drives its load. -/
def State.dioDriving (s : State) (k : Nat) : Bool :=
  s.dioOut k && s.get F.driveEn == 1 && (s.dio k).on

/-- DIO_RAMP_ABORT (R249). -/
def execDioRampAbort (k : Fin 16) (s : State) : Host.Outcome State Fault Refusal :=
  .next (if s.dioDriving k then s.dioTrip k 0 else s)

/-- DIO_OVERLOAD_TRIP (R244). -/
def execDioOverloadTrip (k : Fin 16) (s : State) : Host.Outcome State Fault Refusal :=
  .next (if s.dioDriving k then s.dioTrip k 1 else s)

/-- DIO_RETRY (R250): at an edge at least 100 ms after the trip, with the committed value 1 and a retry left. -/
def State.dioRetry (s : State) (k : Nat) (rampOk : Bool) : State :=
  let lead := s.dioLead k
  let d := s.dio lead
  let ripe := match d.trip with | some t => decide (t + ticks100ms ≤ s.now * 50000) | none => false
  if s.get F.dioTripped lead = 0 ∨ s.get F.dioRetriesLeft lead = 0 ∨ !d.commanded ∨ !ripe ∨ s.get F.driveEn = 0 then s
  else
    let s := s.put F.dioRetriesLeft (s.get F.dioRetriesLeft lead - 1) lead
    if rampOk then
      let s := s.put F.dioTripped 0 lead
      (s.dioGroup lead).foldl (fun (s : State) m => s.dioDrive m d.commanded) s
    else s.dioTrip k 0

/-- DIO_RETRY (R250). -/
def execDioRetry (k : Fin 16) (rampOk : Bool) (s : State) : Host.Outcome State Fault Refusal := .next (s.dioRetry k rampOk)

/-- DIO_RETRIES_RESTORE (R250): 1 s after the last trip. -/
def execDioRetriesRestore (k : Fin 16) (s : State) : Host.Outcome State Fault Refusal :=
  let lead := s.dioLead k
  let ripe := match (s.dio lead).trip with | some t => decide (t + ticks1s ≤ s.tick) | none => false
  .next (if ripe then s.put F.dioRetriesLeft (s.get F.retry lead) lead else s)

/-- Writing 1 to OVERLOAD, or a rising DIO_ACK, clears OVERLOAD and TRIPPED; the channel follows from the next edge. -/
def State.dioClear (s : State) (k : Nat) : State :=
  let lead := s.dioLead k
  (((s.put F.dioOverload 0 lead).put F.dioTripped 0 lead).put F.dioOverload 0 k).put F.dioTripped 0 k

/-- DIO_OVERLOAD_CLEAR (R250). -/
def execDioOverloadClear (k : Fin 16) (_byAck : Bool) (s : State) : Host.Outcome State Fault Refusal := .next (s.dioClear k)

/-- DIO_OVERTEMP (R251): the channel, or its group, is off until its junction has cooled. The event, on the source of the
group's lowest channel, names the member (R253). -/
def execDioOvertemp (k : Fin 16) (s : State) : Host.Outcome State Fault Refusal :=
  let lead := s.dioLead k
  .next (if !s.dioOut k then s
    else
      let s := (s.dioGroup lead).foldl (fun (s : State) m => s.putDio { s.dio m with on := false }) s
      let s := s.putDio { s.dio k with on := false, hot := true }
      (((s.put F.dioOvertemp 1 lead).inc F.dioThermalCount lead).spoilRate 2 lead).raise (98 + 4 * lead) 1 2 [(8, k)])
                                                                                          -- DIO_OVERTEMP

/-- DIO_COOLED (R251): at 150 °C the committed value returns with a fresh ramp, unless TRIPPED governs. -/
def execDioCooled (k : Fin 16) (s : State) : Host.Outcome State Fault Refusal :=
  let lead := s.dioLead k
  .next (if !(s.dio k).hot then s
    else
      let s := s.putDio { s.dio k with hot := false }
      (s.dioGroup lead).foldl (fun (s : State) m => s.dioDrive m (s.dio m).commanded) s)

/-- DIO_WIRE applies to the channel (R240, R247, R254): the driving module's outputs commanded 0, and the Type 2 inputs with
continuous sampling for an open wire, both with open_wire_en 1; not while a test current is missing. -/
def State.wireSeen (s : State) (k : Nat) (ext : Bool) : Bool :=
  s.get F.driveEn == 1 && s.get F.openWireEn k == 1 &&
    (if s.dioOut k then !s.supplyLow k && !(s.dio k).commanded else !ext && s.get F.inType k == 2 && s.get F.pulsed k == 0)

/-- DIO_WIRE (R254): onset or end of OPEN_WIRE or EXT_DRIVE. -/
def execDioWire (k : Fin 16) (ext onset : Bool) (s : State) : Host.Outcome State Fault Refusal :=
  let lead := s.dioLead k
  let f := if ext then F.dioExtDrive else F.dioOpenWire
  .next (if s.flag f lead = onset ∨ !s.wireSeen lead ext then s
    else ((if onset then s.spoilRate 2 k else s).putFlag f onset lead).raise (97 + 4 * lead) 1 1
      [(8, lead), (8, if ext then 1 else 0), (8, if onset then 0 else 1)])                -- DIO_WIRE

/-- DIO_EDGE (R248): an unfiltered edge of an input with continuous sampling; `off` is its corrected time in 5 ns. -/
def execDioEdge (k : Fin 16) (rising : Bool) (off : Nat) (s : State) : Host.Outcome State Fault Refusal :=
  .next (if s.dioOut k ∨ s.get F.pulsed k = 1 then s
    else
      let s := if rising then s.inc F.dioEdgeCount k else s
      s.raise (99 + 4 * k) 1 0 [(8, k), (8, if rising then 0 else 1), (32, off * 5)])

/-- LOAD_SUPPLY_CHANGE (R255): a load supply moves between OK, LOW and MISSING. -/
def execLoadSupplyChange (b : Bool) (state : Fin 3) (s : State) : Host.Outcome State Fault Refusal :=
  let f := if b then F.lbState else F.laState
  let old := s.get f
  .next (if old = state then s
    else
      let s := s.put f state
      let s := (List.range 8).foldl (fun (s : State) i =>
        let k := if b then 8 + i else i
        s.putFlag F.dioSupplyLow (s.dioOut k && state.val != 0) k) s
      s.raise (if b then 161 else 160) 1 2 [(2, old), (2, state)])                        -- FIELD_SUPPLY_A, FIELD_SUPPLY_B

/-! Analog loop ports (R260). -/

/-- Target and readback of a port, for its events. -/
def State.aoData (s : State) (k : Nat) : List (Nat × Nat) :=
  [(8, k), (32, ((s.ao k).target).getD 0), (32, s.get F.aoReadback k)]

/-- AO_OPEN_LOOP: the target is kept. -/
def execAoOpenLoop (k : Fin 4) (s : State) : Host.Outcome State Fault Refusal :=
  .next (if (s.ao k).target.isNone ∨ s.flag F.aoOpenLoop k then s
    else ((s.put F.aoOpenLoop 1 k).putAo { s.ao k with back := 0 }).raise (162 + 3 * k) 1 2 (s.aoData k))

/-- AO_MISWIRE: the output stage is off. -/
def execAoMiswire (k : Fin 4) (volts : Nat) (s : State) : Host.Outcome State Fault Refusal :=
  .next (if s.flag F.aoMiswire k then s
    else
      let s := ((s.put F.aoMiswire 1 k).put F.aoFailing 0 k).putAo { s.ao k with target := none }
      s.raise (163 + 3 * k) 1 2 [(8, k), (32, volts)])

/-- AO_MISWIRE_CLEAR: the voltage has been in range for 100 ms; the port drives its committed value again. -/
def execAoMiswireClear (k : Fin 4) (s : State) : Host.Outcome State Fault Refusal :=
  .next (if !s.flag F.aoMiswire k then s
    else
      let s := s.put F.aoMiswire 0 k
      if s.field.silent ∨ s.get F.mode = mStop then s.aoSafeState k else s.aoDrive k (s.ao k).percent false)

/-- AO_READBACK: the fail level is driven. -/
def execAoReadback (k : Fin 4) (ma : Nat) (s : State) : Host.Outcome State Fault Refusal :=
  .next (if (s.ao k).target.isNone ∨ s.flag F.aoOpenLoop k ∨ s.flag F.aoMiswire k ∨ s.flag F.aoReadbackFault k then s
    else
      let data := [(8, k.val), (32, ((s.ao k).target).getD 0), (32, ma)]
      let s := ((s.put F.aoReadback ma k).put F.aoReadbackFault 1 k).put F.aoFailing 1 k
      (s.putAo { s.ao k with target := some (s.aoFail k) }).raise (164 + 3 * k) 1 2 data)

/-- AO_HEADROOM_LOW: of a sink port. -/
def execAoHeadroomLow (k : Fin 4) (s : State) : Host.Outcome State Fault Refusal :=
  .next (if s.get F.aoMode k = 2 then s.put F.aoHeadroomLow 1 k else s)

/-! Encoder inputs (R262 to R265). -/

/-- The count step of a transition (R262); A leading B counts up, and B 1 in pulse-direction (PRESUMED, log entry 21). -/
def encStep (mode : Nat) (a0 b0 a1 b1 : Bool) : Int :=
  match mode with
  | 0 => if a0 != a1 then (if a1 != b1 then 1 else -1) else if b0 != b1 then (if a1 == b1 then 1 else -1) else 0
  | 1 => if a0 != a1 then (if a1 != b1 then 1 else -1) else 0
  | 2 => if a0 != a1 && !b1 then (if a1 then 1 else -1) else 0
  | 3 => if !a0 && a1 then (if b1 then 1 else -1) else 0
  | _ => if !a0 && a1 then 1 else 0

/-- COUNT moves by a step; it is a signed number of 64 bits. -/
def State.encMove (s : State) (k : Nat) (d : Int) : State :=
  s.put F.encCount (ofSigned 64 (toSigned 64 (s.get F.encCount k) + d)) k

/-- An illegal transition (R263): the count holds, the position is uncertain. -/
def State.encIllegal (s : State) (k : Nat) : State :=
  let s := ((s.inc F.encIllegalCount k).put F.encUncertain 1 k).spoilRate 1 k
  s.raise (174 + 4 * k) 1 1 [(32, k), (16, s.get F.encIllegalCount k)]                    -- ENC_ILLEGAL

/-- ENC_COUNT_STEP (R262, R263). -/
def execEncCountStep (k : Fin 4) (a0 b0 a1 b1 : Bool) (s : State) : Host.Outcome State Fault Refusal :=
  .next (if s.get F.encMode k ≤ 2 ∧ a0 ≠ a1 ∧ b0 ≠ b1 then s.encIllegal k
    else s.encMove k (encStep (s.get F.encMode k) a0 b0 a1 b1))

/-- ENC_ILLEGAL (R263): only the quadrature modes know it. -/
def execEncIllegal (k : Fin 4) (s : State) : Host.Outcome State Fault Refusal :=
  .next (if s.get F.encMode k ≤ 2 then s.encIllegal k else s)

/-- A reference Z (R264): LAST_Z_COUNT, and the reset by z_mode; the count step of the sample and the reset resolve to
0. It ends an uncertain position, unless its own sample holds the illegal transition (R263). -/
def State.encRef (s : State) (k : Nat) (step : Int) (illegal : Bool) : State :=
  let zm := s.get F.zMode k
  let before := s.get F.encCount k
  let resets := zm = 2 ∨ (zm = 3 ∧ s.get F.encZSeen k = 0)
  let s := (s.put F.encLastZCount before k).put F.encZSeen 1 k
  let s := if illegal then s else s.put F.encUncertain 0 k
  if resets then (s.put F.encCount 0 k).raise (175 + 4 * k) 1 0 [(32, k), (32, before)]   -- ENC_Z
  else s.encMove k step

/-- ENC_Z (R264): a rising edge of Z, with the levels of A and B and the count step of its sample. -/
def execEncZ (k : Fin 4) (a b : Bool) (step : Int) (illegal : Bool) (s : State) : Host.Outcome State Fault Refusal :=
  let ref := s.get F.zMode k ≠ 0 ∧ (s.get F.zGate k = 0 ∨ (a ∧ b))
  .next (if ref then s.encRef k step illegal else s.encMove k step)

/-- ENC_LINE_FAULT (R261): on an RS-422 input. -/
def execEncLineFault (k : Fin 4) (line : Fin 3) (s : State) : Host.Outcome State Fault Refusal :=
  .next (if s.get F.encLine k = 0 then (s.put F.encLineFault 1 k).raise (177 + 4 * k) 1 2 [(32, k), (32, line)] else s)

/-- A write to count_preset waits for the next edge (R265). -/
def State.encPreset (s : State) (k value : Nat) : State :=
  { s with field := { s.field with presets := s.field.presets.filter (fun p => p.1 != k) ++ [(k, value % 2 ^ 64)] } }

/-- COUNT_PRESET (R265). -/
def execCountPreset (k : Fin 4) (value : Nat) (s : State) : Host.Outcome State Fault Refusal := .next (s.encPreset k value)

/-! Capture units (R267 to R269, R320). -/

/-- Fields of a capture unit: 0 to 7 on the encoders, 8 and 9 on the time pins. -/
def State.capGet (s : State) (f g : Fld) (u : Nat) : Nat := if u < 8 then s.get f u else s.get g (u - 8)
def State.capInc (s : State) (f g : Fld) (u : Nat) : State := if u < 8 then s.inc f u else s.inc g (u - 8)

/-- A result enters the queue of 16, or is lost and counted. -/
def State.capResult (s : State) (u : Nat) (r : CapRes) : State :=
  let c := s.cap u
  if c.queue.length < 16 then s.putCap { c with queue := c.queue ++ [r] } else s.capInc F.capOverrun F.tcapOverrun u

/-- An interval that two events give. -/
def capInterval (a b : Nat) : CapRes := { time := a, val := (b - a) / 5 % 2 ^ 32, interval := true }

/-- CAPTURE_EVENT: events of start_src and stop_src in one 5 ns sample (R267, R268). -/
def State.capEvent (s : State) (u : Nat) (start stop : Bool) (t : Nat) : State :=
  let c := s.cap u
  let mode := s.capGet F.capMode F.tcapMode u
  let a := s.capGet F.startSrc F.tcapStartSrc u
  let b := s.capGet F.stopSrc F.tcapStopSrc u
  let start := start && a != 0
  let stop := stop && b != 0
  if mode = 0 then s
  else if mode = 1 then
    if start then s.capResult u { time := t, val := if u < 8 then s.get F.encCount (u / 2) else 0 } else s
  else if a = b then
    if !start then s
    else
      let s := s.putCap { c with start := some t }
      match c.start with
      | some x => s.capResult u (capInterval x t)
      | none => s
  else if start && stop then
    let s := if c.start.isSome then s.capInc F.capRestart F.tcapRestart u else s
    let s := (s.putCap { s.cap u with start := none }).capInc F.coincident F.tcapCoincident u
    s.capResult u { time := t, val := 0, coincident := true, interval := true }
  else if start then
    let s := if c.start.isSome then s.capInc F.capRestart F.tcapRestart u else s
    s.putCap { s.cap u with start := some t }
  else if stop then
    match c.start with
    | some x => (s.putCap { c with start := none }).capResult u (capInterval x t)
    | none => s.capInc F.orphanStop F.tcapOrphanStop u
  else s

/-- CAPTURE_EVENT (R268); a time pin carries its unit only in CAPTURE (R320). -/
def execCaptureEvent (u : Fin 10) (start stop : Bool) (timeNs : Nat) (s : State) : Host.Outcome State Fault Refusal :=
  .next (if u.val ≥ 8 ∧ s.get F.tpMode (u.val - 6) ≠ 3 then s else s.capEvent u start stop (timeNs / 5 * 5))

/-- CAPTURE_INTERVAL_TIMEOUT (R268): a start has been pending longer than interval_timeout. -/
def execCaptureIntervalTimeout (u : Fin 10) (s : State) : Host.Outcome State Fault Refusal :=
  let c := s.cap u
  let late := match c.start with
    | some t => decide (t + 1000000 * s.capGet F.intervalTimeout F.tcapIntervalTimeout u < 5 * s.tick)
    | none => false
  .next (if late then (s.putCap { c with start := none }).capInc F.capTimeout F.tcapTimeout u else s)

/-! Takeover (R151, R257, R266). -/

/-- The new ACTIVE holds off the channels that the last frozen image shows tripped, with the RETRIES_LEFT of that image;
their times run from now (R257). -/
def State.takeTrips (s : State) : State :=
  let words := s.pair.dioIn
  (List.range 16).foldl (fun (s : State) k =>
    let w := words.getD k 0
    if bitOf w 4 then
      ((s.put F.dioTripped 1 k).put F.dioRetriesLeft (bitsOf w 7 2) k).putDio { s.dio k with trip := some s.tick, on := false }
    else s) s

/-- The local outputs take the values of the last output close when the drive enable comes on (R151, R155). -/
def State.fieldTakeover (s : State) (outs : List (Nat × Nat)) : State :=
  let s := s.takeTrips
  let own := (s.rt.outPoints.filter (fun v => v.station.isNone)).filterMap (fun v =>
    (valAt outs v.idx).map (fun x => (v.idx, x)))
  let s := { s with field := { s.field with armed := none, silent := false, lastUpdate := s.now } }
  if s.get F.mode = mStop then s.fieldSafe else s.fieldApply own

/-- COUNT and POSITION_UNCERTAIN follow the ACTIVE when the STANDBY's state becomes current (R266): the difference between the
ACTIVE's COUNT in the frozen image of a beat and the own sample at its edge. -/
def State.encFollow (s : State) (theirs own : List (Nat × Nat)) : State :=
  (List.range (min theirs.length own.length)).foldl (fun (s : State) k =>
    let t := theirs.getD k (0, 0)
    (s.encMove k (toSigned 64 t.1 - toSigned 64 (own.getD k (0, 0)).1)).put F.encUncertain t.2 k) s

/-- What the last edges of a log give for a beat. -/
def beatOf? {α : Type} (l : List (Nat × α)) (n : Nat) : Option α := (l.find? (fun x => x.1 == n)).map (fun x => x.2)

/-- The newest frozen image whose edge this module has sampled gives the counts. -/
def State.encSync (s : State) : State :=
  match (s.pair.images.filter (fun i => (beatOf? s.field.edgeEnc i.beat).isSome)).getLast? with
  | some i => s.encFollow i.enc ((beatOf? s.field.edgeEnc i.beat).getD [])
  | none => s

end Sys2Proof.Machine
end

