-- ==== Sys2Proof/Machine/Filter.lean ====
section
/-! DEFINITION. Fast analog inputs and the filter chain (R280 to R303). -/

namespace Sys2Proof.Machine

open Sys2Proof

/-- Filter lane `k`. -/
def State.fa (s : State) (k : Nat) : FaRt := (s.field.fas.find? (fun a => a.k == k)).getD { k := k }

/-- Replaces a filter lane. -/
def State.putFa (s : State) (a : FaRt) : State :=
  { s with field := { s.field with fas := s.field.fas.filter (fun b => b.k != a.k) ++ [a] } }

/-! Delay and settling (R282 to R288). -/

/-- Output period in ns. -/
def faPeriod (n : Nat) : Rat := 1000000 / ((2 ^ n : Nat) : Rat)

/-- base(n) in ns (R286). -/
def faBase (n : Nat) : Rat :=
  match n with
  | 8 => 29937
  | 7 => 58745
  | 6 => 116362
  | 5 => 231597
  | 4 => 462065
  | 3 => 923003
  | 2 => 1844878
  | 1 => 3688628
  | _ => 7376128

/-- Total delay D in ns (R285). -/
def faDelay (n taps phase : Nat) : Rat := faBase n + ((taps - 1 : Nat) : Rat) / 2 * faPeriod n + (phase : Rat) * 3125 / 64

/-- Samples that carry UNSETTLED after a restart (R287). -/
def faSettling (taps : Nat) : Nat := 15 + taps

/-- Nearest integer to a rational. -/
def roundInt (r : Rat) : Int := if r < 0 then -((roundNat (-r) : Nat) : Int) else ((roundNat r : Nat) : Int)

/-- CRC-32C over the active coefficients (R301). -/
def State.coeffCrcOf (s : State) (k : Nat) : Nat := crc32c (bytesOf (4 * s.get F.firTaps k) (s.get F.firCoeff k))

/-- FilterChainStatus and FaStatus follow the lanes (R298, R302). -/
def State.showFa (s : State) : State :=
  let on := (List.range 8).foldl (fun a k => if s.get F.faEnable k = 1 then a + 2 ^ k else a) 0
  let bad := (List.range 8).foldl (fun a k => if s.get F.faState k ≥ 3 then a + 2 ^ k else a) 0
  (s.put F.lanesEnabled on).put F.lanesFault bad

/-- FaStatus shows delay and settling of the configuration that runs, of a disabled channel the one written. -/
def State.showFaCfg (s : State) (k : Nat) : State :=
  let a := s.fa k
  ((s.put F.totalDelay (roundNat (faDelay a.n a.taps a.phase)) k).put F.settling (faSettling a.taps) k).put F.coeffCrc
    (s.coeffCrcOf k) k

/-- The chain restarts from zero state with the configuration now written (R287). -/
def State.faRestart (s : State) (k : Nat) (gap : Bool) : State :=
  let a := s.fa k
  if s.get F.faEnable k = 0 ∨ s.get F.faState k = 4 then (s.putFa { a with due := false }).showFa
  else
    let a := { a with
      due := false, dueDet := [], n := s.get F.rateN k, taps := s.get F.firTaps k, phase := s.get F.phaseDelay k
      range := s.get F.faRange k, since := 0, peakSince := 0, rmsSince := 0, envSince := 0, samples := [], env := 0
      firstBlock := true, gap := gap }
    let s := (s.putFa a).put F.faState 1 k
    let s := (s.put F.unsettledLeft (faSettling a.taps) k).put F.faCfgSeq ((s.get F.faCfgSeq k + 1) % 256) k
    ((s.put F.faLimit 0 k).showFaCfg k).showFa

/-- FA_CHAIN_RESTART (R287): at the edge after the write that asked for it. -/
def execFaChainRestart (k : Fin 8) (s : State) : Host.Outcome State Fault Refusal :=
  .next (if (s.fa k).due ∧ (s.fa k).dueAt < s.now then s.faRestart k false else s)

/-! Detectors (R290 to R294). -/

/-- A sample's value in V or mA (R296). -/
def faValue (range : Nat) (count : Int) : Rat :=
  (count : Rat) * (if range = 1 then 25 else 25 / 2) / 8388607

/-- The larger of two magnitudes. -/
def absR (r : Rat) : Rat := if r < 0 then -r else r

/-- e to the power −x for x ≥ 0, by fixed-point arithmetic of 96 fraction bits (DESIGN CHOICE, log entry 5). -/
def expNeg (x : Rat) : Rat :=
  if x ≥ 64 then 0
  else
    let one : Int := 2 ^ 96
    let y : Int := (x.num * one) / ((x.den : Int) * 128)
    let t := (List.range 20).foldl (fun (p : Int × Int) i =>
      let term := -(p.2 * y / one) / ((i : Int) + 1)
      (p.1 + term, term)) (one, one)
    let e := (List.range 7).foldl (fun (e : Int) _ => e * e / one) t.1
    (e : Rat) / (one : Rat)

/-- Square root of a non-negative rational, by the integer root at 64 more fraction bits (DESIGN CHOICE, log entry 5). -/
def sqrtRat (r : Rat) : Rat :=
  ((natSqrt (r.num.toNat * r.den * 2 ^ 128) : Nat) : Rat) / ((r.den * 2 ^ 64 : Nat) : Rat)

/-- The extreme of a window, newest sample first: the latest sample that holds it. -/
def extreme (range : Nat) (better : Rat → Rat → Bool) : List FaPoint → Option FaPoint
  | [] => none
  | p :: t =>
    match extreme range better t with
    | none => some p
    | some q => if better (faValue range q.count) (faValue range p.count) then some q else some p

/-- The windows of the peak and RMS detectors. -/
def FaRt.window (a : FaRt) (w since : Nat) : List FaPoint := a.samples.take (min w since)

/-- The window holds an unsettled sample or is not full (R293). -/
def windowUnsettled (w since : Nat) (l : List FaPoint) : Bool := decide (since < w) || l.any (fun p => p.unsettled)

/-- Result, timestamp and UNSETTLED of the detector that limit_src names (R290 to R294). -/
structure DetOut where
  value : Rat := 0
  ts : Int := 0
  unsettled : Bool := true

/-- Peak of the largest magnitude. -/
def peakAbs (range : Nat) (hi lo : Option FaPoint) (uns : Bool) : DetOut :=
  match hi, lo with
  | some p, some q =>
    let a := absR (faValue range p.count)
    let b := absR (faValue range q.count)
    if a > b ∨ (a = b ∧ p.ts ≥ q.ts) then { value := a, ts := p.ts, unsettled := uns }
    else { value := b, ts := q.ts, unsettled := uns }
  | _, _ => {}

/-- An event stamped at an instant of the beat timebase other than the present (R294). -/
def State.raiseAt (s : State) (t : Int) (src code sev : Nat) (data : List (Nat × Nat)) : State :=
  let n := t.toNat
  let recs := (mkRecs s src code sev (packData 64 0 0 data)).map (fun r =>
    { r with beat := n / 250000, off := n % 250000 / 5
             ptp := if r.ptpValid then ptpField (n / 250000) (n % 250000 / 5) else 0 })
  let s := s.inc F.raised src
  { s with ev := { s.ev with router := s.ev.router ++ recs } }

/-- An instant as an event carries it (R576): ns from the edge of the record's beat, 32 bits signed. -/
def instant (t : Int) (beat : Nat) : Nat := ofSigned 32 (t - (beat : Int) * 250000)

/-- The envelope's next value (R292). -/
def envStep (prev r : Rat) (periodUs attack release : Rat) : Rat :=
  let tau := if r > prev then attack else release
  prev + (1 - expNeg (periodUs / tau)) * (r - prev)

/-- FA_LIMIT (R294): the watched result passes limit_hi, or falls to the hysteresis. -/
def State.faWatch (s : State) (k : Nat) (d : DetOut) : State :=
  let src := s.get F.limitSrc k
  let hi := f32 (s.get F.limitHi k)
  let lo := hi - f32 (s.get F.limitHyst k)
  let is := s.flag F.faLimit k
  if src = 0 ∨ d.unsettled then s
  else
    let turn : Bool := if is then decide (d.value ≤ lo) else decide (d.value > hi)
    if turn then
      (s.putFlag F.faLimit (!is) k).raiseAt d.ts (193 + 4 * k) 1 0
        [(8, src), (32, toF32 d.value), (8, if is then 1 else 0)]                        -- FA_LIMIT
    else s

/-- Events of a sample: the first settled one, the onset and the end of OVERRANGE. -/
def State.faSampleEvents (s : State) (k : Nat) (p : FaPoint) (prevOver settled : Bool) : State :=
  let ts := instant p.ts s.now
  let s := if p.ovr then (s.put F.faOverrange 1 k).inc F.overrangeCount k else s
  let s := if p.ovr && !prevOver then s.raise (190 + 4 * k) 1 1 [(8, 0), (32, ts)]        -- FA_OVERRANGE
    else if !p.ovr && prevOver then s.raise (190 + 4 * k) 1 1 [(8, 1), (32, ts)] else s
  if settled then
    (s.put F.faState 2 k).raise (192 + 4 * k) 1 0 [(8, s.get F.faCfgSeq k), (32, ts)]     -- FA_SETTLED
  else s

/-- A sample enters the block of a streamed channel (R296). -/
def FaRt.stream (a : FaRt) (p : FaPoint) (seq : Nat) : FaBlock :=
  let b := a.building
  let word := ofSigned 24 p.count + (if p.unsettled then 2 ^ 24 else 0) + (if p.ovr then 2 ^ 25 else 0)
  if b.words.length ≥ 64 then b
  else
    { words := b.words ++ [word], cfgSeq := seq, restart := b.restart || a.firstBlock, gap := b.gap || (a.firstBlock && a.gap)
      firstTs := if b.words.isEmpty then p.ts else b.firstTs }

/-- FA_SAMPLE_DELIVER (R285, R287, R290 to R295): a sample with its corrected timestamp, and the three detectors. -/
def State.faDeliver (s : State) (k : Nat) (x : FaSample) : State :=
  let st := s.get F.faState k
  if s.get F.faEnable k = 0 ∨ (st ≠ 1 ∧ st ≠ 2) ∨ s.field.failed then s
  else
    let a := s.fa k
    let per := faPeriod a.n
    let ts := roundInt ((roundInt (((x.deliver : Rat) - faDelay a.n a.taps a.phase) / per) : Rat) * per)
    let v := faValue a.range x.count
    let left := s.get F.unsettledLeft k
    let p : FaPoint := { count := x.count, ts := ts, unsettled := left != 0
                         ovr := decide (absR v > (if a.range = 1 then 21 else 21 / 2)) }
    let prevOver := match a.samples.head? with | some q => q.ovr | none => false
    let pw := s.get F.peakWindow k
    let rw := s.get F.rmsWindow k
    let a := { a with since := a.since + 1, peakSince := a.peakSince + 1, rmsSince := a.rmsSince + 1
                      envSince := a.envSince + 1, samples := (p :: a.samples).take (max pw rw) }
    let wp := a.window pw a.peakSince
    let wr := a.window rw a.rmsSince
    let hi := extreme a.range (fun q r => decide (q > r)) wp
    let lo := extreme a.range (fun q r => decide (q < r)) wp
    let sum := wr.foldl (fun (t : Rat) q => t + faValue a.range q.count * faValue a.range q.count) 0
    let rms := sqrtRat (sum / (rw : Rat))
    let env := toF32 (envStep (f32 a.env) (absR v) (per / 1000) (f32 (s.get F.envAttack k)) (f32 (s.get F.envRelease k)))
    let pu := windowUnsettled pw a.peakSince wp
    let ru := windowUnsettled rw a.rmsSince wr
    let envN := faSettling a.taps + (Rat.ceil (5 * f32 (s.get F.envRelease k) / (per / 1000))).toNat
    let eu := decide (a.envSince ≤ envN)
    let wo := wp.any (fun q => q.ovr) || wr.any (fun q => q.ovr)
    let s := if left = 0 then s else s.put F.unsettledLeft (left - 1) k
    let s := s.faSampleEvents k p prevOver (!p.unsettled && st == 1)
    let watched : DetOut := match s.get F.limitSrc k with
      | 1 => peakAbs a.range hi lo pu
      | 2 => { value := rms, ts := ts - roundInt (((rw - 1 : Nat) : Rat) / 2 * per), unsettled := ru }
      | 3 => { value := f32 env, ts := ts, unsettled := eu }
      | _ => {}
    let s := s.faWatch k watched
    let val := fun (o : Option FaPoint) => match o with | some q => toF32 (faValue a.range q.count) | none => 0
    let r : FaRec := {
      value := toF32 v, q := if p.unsettled then 8 else 0
      det := (if pu then 1 else 0) + (if ru then 2 else 0) + (if eu then 4 else 0) + (if wo then 8 else 0)
        + (if s.flag F.faLimit k then 16 else 0)
      cfgSeq := s.get F.faCfgSeq k, ts := ts, peakMax := val hi, peakMin := val lo, rms := toF32 rms, env := env }
    s.putFa { a with env := env, now := r, firstBlock := false, gap := false
                     building := if s.get F.streamEn k = 1 then a.stream p (s.get F.faCfgSeq k) else a.building }

/-- FA_SAMPLE_DELIVER (R285). -/
def execFaSampleDeliver (k : Fin 8) (x : FaSample) (s : State) : Host.Outcome State Fault Refusal := .next (s.faDeliver k x)

/-- At the edge each channel closes its beat record and its block (R295, R296): ABSENT while disabled, STALE in FAULT,
SUBSTITUTED once FAILED. Detectors with new fields restart (R289). -/
def State.faEdge (s : State) : State :=
  (List.range 8).foldl (fun (s : State) k =>
    let a := s.fa k
    let st := s.get F.faState k
    let q := if s.get F.faEnable k = 0 then 3 else if st = 4 then 2 else if st = 3 then 1 else a.now.q
    s.putFa { a with
      beatRec := { a.now with q := q }, block := a.building, building := { cfgSeq := s.get F.faCfgSeq k }
      peakSince := if a.dueDet.contains 1 then 0 else a.peakSince
      rmsSince := if a.dueDet.contains 2 then 0 else a.rmsSince
      envSince := if a.dueDet.contains 3 then 0 else a.envSince
      env := if a.dueDet.contains 3 then 0 else a.env
      dueDet := [] }) s

/-! Faults (R297). -/

/-- FA_LANE_FAULT: causes 1 parity, 2 bitstream, 3 reference, 4 coefficient CRC. The third within 60 s fails the lane. -/
def State.faFault (s : State) (k cause : Nat) : State :=
  if s.get F.faEnable k = 0 ∨ s.get F.faState k = 4 ∨ s.get F.faState k = 0 then s
  else
    let a := s.fa k
    let recent := (a.faults.filter (fun t => decide (s.beat.opBeats < t + 240000))) ++ [s.beat.opBeats]
    let st := if recent.length ≥ 3 then 4 else 3
    let s := ((s.putFa { a with faults := recent }).put F.faState st k).inc F.faFaultCount k
    (s.raise (191 + 4 * k) 1 2 [(8, cause), (8, st)]).showFa                             -- FA_LANE_FAULT

/-- FA_LANE_FAULT (R297). -/
def execFaLaneFault (k : Fin 8) (cause : Nat) (s : State) : Host.Outcome State Fault Refusal := .next (s.faFault k cause)

/-- FA_LANE_RELOAD (R297): the sequencer restarts a faulted lane; its first block has GAP set. -/
def execFaLaneReload (k : Fin 8) (s : State) : Host.Outcome State Fault Refusal :=
  .next (if s.get F.faState k = 3 then s.faRestart k true else s)

/-- A disabled lane takes its configuration as it is written; it has no chain to restart. -/
def State.faIdle (s : State) (k : Nat) : State :=
  (s.putFa { s.fa k with due := false, faults := [], n := s.get F.rateN k, taps := s.get F.firTaps k
                         phase := s.get F.phaseDelay k, range := s.get F.faRange k }).showFaCfg k

/-- A lane comes up with the field side: it restarts at the next edge (R287). -/
def State.faComesUp (s : State) (k : Nat) : State :=
  let s := s.faIdle k
  if s.get F.faEnable k = 1 then s.putFa { s.fa k with due := true, dueAt := s.now } else s

/-- A write to FaConfig or FaFir has been applied (R287, R289): sub-index 1 with the old word, or the FIR, asks for a
restart; the detector fields restart their detector. -/
def State.faWritten (s : State) (obj sub k oldWord : Nat) : State :=
  let a := s.fa k
  let en := s.get F.faEnable k
  if obj = 0x4018 then (if en = 0 then s.faIdle k else s.putFa { a with due := true, dueAt := s.now })
  else if sub = 1 then
    let was := oldWord % 2
    if en = 0 then ((s.faIdle k).put F.faState 0 k).showFa
    else if was = 0 then (s.putFa { a with due := true, dueAt := s.now, faults := [] }).showFa
    else s.putFa { a with due := true, dueAt := s.now }
  else if sub = 2 then s.putFa { a with dueDet := a.dueDet ++ [1] }
  else if sub = 3 then s.putFa { a with dueDet := a.dueDet ++ [2] }
  else if sub = 4 ∨ sub = 5 then s.putFa { a with dueDet := a.dueDet ++ [3] }
  else s

end Sys2Proof.Machine
end

