-- ==== Sys2Proof/Machine/Clock.lean ====
section
/-! DEFINITION. Time: the servo and the alignment states, transparent ports, the time pins, the opcodes of the time
chapter (R26 to R31, R304 to R328, R423). -/

namespace Sys2Proof.Machine

open Sys2Proof

/-! The servo (R26, R27, R312, R313). -/

/-- Changes the servo's memory. -/
def State.onTime (s : State) (f : TimeSt → TimeSt) : State := { s with time := f s.time }

/-- Magnitude of an offset. -/
def absI (i : Int) : Nat := i.natAbs

/-- The holdover bound b(t) after `d` beats, in units of 1/6,400,000,000 ns (R313). -/
def boundScaled (d : Nat) : Nat := 320000000000 + 40000000 * d + d * d

/-- b(t) in ns. -/
def boundNs (d : Nat) : Nat := boundScaled d / 6400000000

/-- b(t) exceeds 1 µs. -/
def boundOver (d : Nat) : Bool := decide (6400000000000 < boundScaled d)

/-- Beats since the last accepted Sync. -/
def State.sinceSync (s : State) : Nat := s.beat.opBeats - s.time.lastSync

/-- portState of port `k` (R305, R306, R326): codes of IEEE 1588, 0x10 TRANSPARENT (PRESUMED, log entry 22). -/
def State.portStateOf (s : State) (k : Nat) : Nat :=
  let r := s.get F.ptpRole k
  if r = 0 then 3
  else if s.time.linkDown.contains k then 2
  else if r = 4 then 0x10
  else if s.get F.sourcePort = k then (if s.get F.gmPresent = 1 then 9 else 8)
  else if r = 3 then 4
  else if s.flag F.timeLocked then 6 else 7

/-- PORT_STATE of every port follows; each change raises PTP_PORT_STATE. -/
def State.showPorts (s : State) : State :=
  (List.range 12).foldl (fun (s : State) k =>
    let n := s.portStateOf k
    let o := s.get F.portState k
    if n = o then s else (s.put F.portState n k).raise (286 + 2 * k) 1 0 [(8, k), (8, o), (8, n)]) s

/-- ALIGN takes a state; TIME_LOCKED and EDGE_OFFSET follow (R26, R27, R32). -/
def State.setAlign (s : State) (a : Nat) : State :=
  let s := (s.put F.align a).putFlag F.timeLocked (a == 2 || (a == 3 && !boundOver s.sinceSync))
  let s := s.put F.edgeOffset (if a = 0 then 0x7FFFFFFF else ofSigned 32 s.beat.stepOffset)
  s.showPorts

/-- ALIGNED is reached: TIME_ALIGNED with the offset that has been removed. -/
def State.becomeAligned (s : State) : State :=
  let s := ((s.put F.holdoverBound 0).put F.holdoverTime 0).put F.stepPending 0
  let s := s.setAlign 2
  (s.raise 313 1 0 [(32, s.now), (32, s.time.removed)]).onTime (fun t => { t with off50 := 0, removed := 0 })

/-- A filtered offset of a qualified grandmaster decides ALIGN (R312): at most 50 ns ALIGNED, at most 10 ms SLEWING, else
FREE with a step, which START and STOP take at the next edge (R30). -/
def State.classify (s : State) (off : Int) : State :=
  let s := { s with beat := { s.beat with stepOffset := off } }
  let s := s.onTime (fun t => { t with removed := absI off, off50 := 0 })
  if absI off ≤ 50 then s.becomeAligned
  else if absI off ≤ 10000000 then
    (((s.put F.holdoverBound 0).put F.holdoverTime 0).put F.stepPending 0).setAlign 1
  else
    (((s.put F.holdoverBound 0).put F.holdoverTime 0).put F.stepPending 1).setAlign 0

/-- A grandmaster is selected: its qualification begins (R312). -/
def State.selectGm (s : State) (gm port : Nat) : State :=
  let s := s.onTime (fun t => { t with gm := some gm, firstSync := false, measured := false, count := 0, disagree := 0
                                       lastRx := s.beat.opBeats, lastAnn := s.beat.opBeats })
  ((s.put F.gmIdentity gm).put F.sourcePort port).showPorts

/-- The selected grandmaster no longer serves (R312): ALIGNED becomes HOLDOVER, SLEWING becomes FREE with the rate kept.
A module that follows its partner's timebase keeps its ALIGN. -/
def State.loseGm (s : State) : State :=
  let s := s.onTime (fun t => { t with gm := none, firstSync := false, measured := false, count := 0 })
  let s := ((s.put F.gmPresent 0).put F.gmIdentity 0).put F.sourcePort 15
  if s.flag F.pairSource then s.showPorts
  else if s.get F.align = 2 then
    let s := (s.put F.holdoverBound (boundNs s.sinceSync)).put F.holdoverTime (s.sinceSync / 4)
    (s.setAlign 3).raise 312 1 2 [(32, s.now)]                                      -- HOLDOVER_ENTER
  else if s.get F.align = 1 then s.setAlign 0
  else s.showPorts

/-- Sync interval in beats. -/
def State.syncBeats (s : State) : Nat := 4000 / 2 ^ (-(toSigned 8 (s.get F.logSync))).toNat

/-- The Sync counts toward qualification, or restarts the count (R312). A gap over one and a half intervals is a missed
Sync (DESIGN CHOICE, log entry 22). -/
def State.countSync (s : State) : State :=
  let gap := s.beat.opBeats - s.time.lastRx
  let c := if !s.time.firstSync || !s.time.measured then 0
    else if s.time.count ≥ 8 then 8
    else if 2 * gap > 3 * s.syncBeats then 1 else s.time.count + 1
  s.onTime (fun t => { t with firstSync := true, count := c, lastRx := s.beat.opBeats })

/-- A Sync of the selected grandmaster at the source port: the servo steers by it, or it counts toward qualification
(R306, R312). RATE is the servo's own, a value the spec does not give. -/
def State.sync (s : State) (off : Int) : State :=
  let was : Bool := decide (8 ≤ s.time.count)
  let s := (s.countSync).put F.ownOffset (ofSigned 32 off)
  let is : Bool := decide (8 ≤ s.time.count)
  let s : State := if is && !was then (s.put F.gmPresent 1).showPorts else s
  if s.flag F.pairSource then
    let n := if absI off > 200 then s.time.disagree + 1 else 0
    let s := s.onTime (fun t => { t with disagree := n })
    if n = 16 then s.raise 316 1 2 [(32, ofSigned 32 off)] else s                  -- PAIR_TIME_DISAGREE
  else if !is then s
  else
    let (r, s) := s.fresh 32
    let s := s.put F.rate r
    let a := s.get F.align
    if !was then (s.onTime (fun t => { t with lastSync := s.beat.opBeats })).classify off
    else if a = 2 then
      let s := s.onTime (fun t => { t with
        lastSync := s.beat.opBeats, off50 := if absI off > 50 then t.off50 + 1 else 0 })
      if s.time.off50 ≥ 4 then s.classify off
      else ({ s with beat := { s.beat with stepOffset := off } }).put F.edgeOffset (ofSigned 32 off)
    else if a = 1 then
      let s := s.onTime (fun t => { t with lastSync := s.beat.opBeats })
      if absI off ≤ 50 then ({ s with beat := { s.beat with stepOffset := off } }).becomeAligned
      else if absI off > 10000000 then s.classify off
      else ({ s with beat := { s.beat with stepOffset := off } }).put F.edgeOffset (ofSigned 32 off)
    else (s.onTime (fun t => { t with lastSync := s.beat.opBeats })).classify off

/-- A port may be the source of time (R306, R311). -/
def State.sourceRole (s : State) (k : Nat) : Bool :=
  let r := s.get F.ptpRole k
  r == 1 || r == 3 || r == 4

/-- The other port of a ring pair (R309). -/
def ringMate (k : Nat) : Nat := if k % 2 = 0 then k + 1 else k - 1

/-- The port is the source, or the other port of a transparent pair that is (R306, R311). -/
def State.isSource (s : State) (k : Nat) : Bool :=
  s.get F.sourcePort == k || (s.get F.ptpRole k == 4 && s.get F.sourcePort == ringMate k)

/-- The corrections of port `k`'s timestamps (R307): of an ingress timestamp, and of an egress timestamp. -/
def State.rxCorr (s : State) (k : Nat) : Int := -(s.get F.phyRxNs k : Int) - toSigned 32 (s.get F.asymNs k) / 2
def State.txCorr (s : State) (k : Nat) : Int := (s.get F.phyTxNs k : Int) + toSigned 32 (s.get F.asymNs k) / 2

/-- The offset that a Sync gives: its corrected ingress timestamp less origin time, correctionField and path delay. The filter
of the servo passes it on as it is (DESIGN CHOICE, log entry 22). -/
def State.syncOffset (s : State) (k : Nat) (rawNs : Int) : Int := rawNs + s.rxCorr k - (s.get F.pathDelay : Int)

/-- The delay that an exchange gives: half of the corrections of its own ingress and egress timestamps (R307). -/
def State.delayOf (s : State) (k : Nat) (rawNs : Int) : Nat := (rawNs + (s.rxCorr k - s.txCorr k) / 2).toNat

/-- PTP_SYNC_RECEIVE (R304, R307, R312): in the own domain, from the selected grandmaster at the source. -/
def execPtpSyncReceive (port : Fin 12) (gm : Nat) (rawNs : Int) (s : State) (domain : Nat := 0) :
    Host.Outcome State Fault Refusal :=
  .next (if domain = s.get F.ptpDomain ∧ s.time.gm = some gm ∧ s.isSource port.val then s.sync (s.syncOffset port.val rawNs)
    else s)

/-- DELAY_EXCHANGE_COMPLETE (R307, R312): a measurement that began after the grandmaster's first Sync. Under profile 1 every
enabled port measures its peer (R304). -/
def execDelayExchangeComplete (port : Fin 12) (gm : Nat) (rawNs : Int) (s : State) : Host.Outcome State Fault Refusal :=
  let delayNs := s.delayOf port.val rawNs
  let s := if s.get F.ptpProfile = 1 ∧ s.get F.ptpRole port.val ≠ 0 then s.put F.peerDelay delayNs port.val else s
  .next (
    if s.time.gm = some gm ∧ s.isSource port.val then
      (s.put F.pathDelay delayNs).onTime (fun t => { t with measured := t.measured || t.firstSync })
    else s)

/-- ANNOUNCE_RECEIVE (R304, R306): in the own domain, at a port that can be the source, the data set is taken; the first
grandmaster to appear is selected. -/
def execAnnounceReceive (a : Announce) (s : State) : Host.Outcome State Fault Refusal :=
  .next (
    if a.domain ≠ s.get F.ptpDomain ∨ !s.sourceRole a.port.val ∨ s.time.linkDown.contains a.port.val then s
    else
      let s := s.onTime (fun t => { t with announces := t.announces.filter (fun b => b.port != a.port) ++ [a] })
      if s.time.gm.isNone then s.selectGm a.gm a.port.val
      else if s.time.gm = some a.gm then s.onTime (fun t => { t with lastAnn := s.beat.opBeats }) else s)

/-- GM_CHANGE: the algorithm selects another grandmaster: as grandmaster lost, then its qualification. -/
def execGmChange (gm : Nat) (port : Fin 12) (s : State) : Host.Outcome State Fault Refusal :=
  .next (
    match s.time.gm with
    | none => s.selectGm gm port.val
    | some old =>
      if old = gm then s
      else
        let s := (s.inc F.gmChanges).raise 310 1 1 [(64, old), (64, gm)]             -- GM_CHANGE
        let s := s.raise 311 1 2 [(64, old), (8, 3)]                                -- GM_LOST
        (s.loseGm).selectGm gm port.val)

/-- Beats of announce_timeout Announce intervals. -/
def State.announceBeats (s : State) : Nat :=
  let e := toSigned 8 (s.get F.logAnnounce)
  s.get F.announceTimeout * (if e < 0 then 4000 / 2 ^ (-e).toNat else 4000 * 2 ^ e.toNat)

/-- The selected grandmaster has been silent for so long (R312): cause 1 no Sync for 3 intervals, 2 no Announce. -/
def State.gmSilent (s : State) (cause : Nat) : Bool :=
  (cause == 1 && decide (s.time.lastRx + 3 * s.syncBeats ≤ s.beat.opBeats))
    || (cause == 2 && decide (s.time.lastAnn + s.announceBeats ≤ s.beat.opBeats))

/-- GM_LOST (R312): causes 1 Sync, 2 Announce. -/
def execGmLost (cause : Nat) (s : State) : Host.Outcome State Fault Refusal :=
  .next (
    match s.time.gm with
    | none => s
    | some gm =>
      if !s.gmSilent cause then s
      else
      let s := s.onTime (fun t => { t with announces := t.announces.filter (fun a => a.gm != gm) })
      (s.raise 311 1 2 [(64, gm), (8, cause)]).loseGm)

/-- HOLDOVER_BOUND has passed 1 µs: TIME_LOCKED drops (R27, R313). -/
def State.lockLost (s : State) : State :=
  if s.get F.align = 3 ∧ s.flag F.timeLocked then
    let b := boundNs s.sinceSync
    let s := ((s.put F.timeLocked 0).put F.holdoverBound b).showPorts
    s.raise 314 1 2 [(32, s.now), (32, b)]
  else s

/-- TIME_LOCK_LOST (R313). -/
def execTimeLockLost (s : State) : Host.Outcome State Fault Refusal := .next s.lockLost

/-- The clock's part of an edge (R29, R31, R313): a SLEWING beat takes up to 250 ns off the offset, and HOLDOVER shows its
bound. A module that follows its partner does neither. -/
def State.slewEdge (s : State) : State :=
  if s.flag F.pairSource then s
  else if s.get F.align = 1 then
    let off := s.beat.stepOffset
    let d : Int := if off > 250 then 250 else if off < -250 then -250 else off
    let s := { s with beat := { s.beat with stepOffset := off - d, slewNs := d } }
    if absI (off - d) ≤ 50 then s.becomeAligned else s.put F.edgeOffset (ofSigned 32 (off - d))
  else
    let s := { s with beat := { s.beat with slewNs := 0 } }
    if s.get F.align = 3 then
      let s := (s.put F.holdoverBound (boundNs s.sinceSync)).put F.holdoverTime (s.sinceSync / 4)
      if boundOver s.sinceSync then s.lockLost else s
    else s

/-- PTP_RX_ERROR (R308): counted, and raised at most once per 10 s. -/
def execPtpRxError (port : Fin 12) (s : State) : Host.Outcome State Fault Refusal :=
  let k := port.val
  let s := s.inc F.rxFcs k
  let due : Bool := match valAt s.time.rxRaised k with
    | some t => decide (t + 40000 ≤ s.beat.opBeats)
    | none => true
  .next (
    if due then
      (s.onTime (fun t => { t with rxRaised := assoc t.rxRaised k s.beat.opBeats })).raise (287 + 2 * k) 1 1
        [(8, k), (32, s.get F.rxFcs k)]
    else s)

/-- PTP_FORWARD (R307, R309 to R311): a ring pair adds the residence time between the corrected timestamps, and under
profile 1 the peer delay, as the message leaves; an IPv6 message without its trailer leaves unchanged; with the egress link
down it is dropped. -/
def execPtpForward (port : Fin 12) (ipv6 trailer : Bool) (correction ingress egress : Int) (s : State) :
    Host.Outcome State Fault Refusal :=
  let k := port.val
  let o := ringMate k
  .next (
    if s.quiet || !(s.get F.ptpRole k == 4 && s.get F.ptpRole o == 4) then s
    else if s.time.linkDown.contains o then s.onTime (fun t => { t with forwarded := none })
    else if ipv6 && !trailer then
      let s := (s.inc F.tcUncorrected k).onTime (fun t => { t with forwarded := some { port := o, correction := correction } })
      let due : Bool := match valAt s.time.tcRaised k with
        | some t => decide (t + 40000 ≤ s.beat.opBeats)
        | none => true
      if due then
        (s.onTime (fun t => { t with tcRaised := assoc t.tcRaised k s.beat.opBeats })).raise 317 1 1
          [(8, k), (32, s.get F.tcUncorrected k)]                                    -- TC_UNCORRECTED
      else s
    else
      let peer : Int := if s.get F.ptpProfile = 1 then (s.get F.peerDelay k : Int) else 0
      s.onTime (fun t => { t with forwarded := some { port := o, correction := correction + ((egress + s.txCorr o) - (ingress + s.rxCorr k)) + peer } }))

/-- A port's link comes or goes: without link it has no announcement, and a message that would leave there is lost. -/
def State.linkAt (s : State) (k : Nat) (up : Bool) : State :=
  let rest := s.time.linkDown.filter (· != k)
  s.onTime (fun t => { t with
    linkDown := if up then rest else rest ++ [k]
    forwarded := (match t.forwarded with | some f => if !up && f.port == k then none else some f | none => none)
    announces := if up then t.announces else t.announces.filter (fun a => a.port.val != k) })

/-- The source port is one from which the selected grandmaster is still announced. -/
def State.sourceAgain (s : State) : State :=
  match s.time.announces.find? (fun a => some a.gm == s.time.gm) with
  | some a => s.put F.sourcePort a.port.val
  | none => s

/-- ETH_LINK_CHANGE (R308, R311, R508): the port's link; a frame in residence toward it is dropped, and a source port
without link gives way to another port that has heard its grandmaster. -/
def execEthLinkChange (port : Fin 12) (up : Bool) (s : State) : Host.Outcome State Fault Refusal :=
  let s := s.linkAt port.val up
  .next (if !up && s.get F.sourcePort == port.val then s.sourceAgain else s).showPorts

/-! The pins (R315 to R321). -/

/-- The pins are driven in STOP, RUN and HOLD (R315). -/
def State.pinsDriven (s : State) : Bool := s.get F.mode == mStop || s.get F.mode == mRun || s.get F.mode == mHold

/-- The memory of pin `p`. -/
def State.pin (s : State) (p : Nat) : PinRt := (s.time.pins.find? (fun x => x.p == p)).getD { p := p }

/-- Replaces the memory of a pin. -/
def State.putPin (s : State) (x : PinRt) : State :=
  s.onTime (fun t => { t with pins := t.pins.filter (fun y => y.p != x.p) ++ [x] })

/-- The present instant in ns of the beat timebase. -/
def State.nowNs (s : State) : Nat := s.now * 250000 + s.beat.off * 5

/-- The first instant of a grid from `t` on, in ns (R318). -/
def Grid.nextAt (g : Grid) (t : Nat) : Nat :=
  let p := g.period * 5
  let f := g.phase * 5 % p
  if t ≤ f then f else f + (t - f + p - 1) / p * p

/-- The grid that the pin's fields name. -/
def State.pinGrid (s : State) (p : Nat) : Grid :=
  { period := s.get F.chimePeriod p, phase := s.get F.chimePhase p, width := s.get F.tpWidth p }

/-- A pulse rises at `t` and lasts tp_width. -/
def State.pulse (s : State) (p t width : Nat) : State :=
  (s.inc F.tpPulses p).putPin { s.pin p with last := t, pulseEnd := t + width * 5 }

/-- The fields of a pin take effect (R318): in CHIME at the first instant of the new grid after 20 µs from the edge of
apply beat `n` and after a pulse in progress; another mode ends the old grid. -/
def State.pinWritten (s : State) (p n : Nat) : State :=
  let x := s.pin p
  if s.get F.tpMode p = 1 then
    let t := (s.pinGrid p).nextAt (max (n * 250000 + 20000) x.pulseEnd + 1)
    let s := (s.putPin { x with starts := some t }).put F.tpState 1 p
    s.raise 325 1 0 [(8, p), (32, instant t s.now)]                                  -- TP_CONFIG
  else
    let s := s.putPin { x with grid := none, starts := none }
    if s.get F.tpMode p = 2 then (if s.get F.tpState p = 1 then s.put F.tpState 0 p else s) else s.put F.tpState 0 p

/-- A step of the timebase moves the grids with it (R318). -/
def State.pinsStep (s : State) : State :=
  { s with time := { s.time with pins := s.time.pins.map (fun x =>
      { x with last := 0, pulseEnd := 0
               starts := match x.starts with | some _ => some ((s.pinGrid x.p).nextAt s.nowNs) | none => none }) } }

/-- The signed distance from an instant to the nearest integer second: positive where the second comes after it (R316). -/
def toSecond (t : Nat) : Int := ((t + 500000000) / 1000000000 * 1000000000 : Nat) - (t : Int)

/-- PPS_EDGE (R316). -/
def execPpsEdge (off : Nat) (s : State) : Host.Outcome State Fault Refusal :=
  let t := s.now * 250000 + off * 5
  let d := ofSigned 32 (toSecond t)
  let s := ((s.put F.ppsOffset d).put F.ppsInOk 1).inc F.tpPulses 0
  .next ((s.onTime (fun x => { x with ppsLast := t })).raise 323 1 0 [(32, d)])

/-- PPS_LOST (R316): no edge for 2 s. -/
def execPpsLost (s : State) : Host.Outcome State Fault Refusal :=
  .next (
    if s.flag F.ppsInOk ∧ s.time.ppsLast + 2000000000 ≤ s.nowNs then
      (s.put F.ppsInOk 0).raise 322 1 2 [(32, instant (s.time.ppsLast : Int) s.now)]
    else s)

/-- PPS_OUT_PULSE (R317): at an integer second of the beat timebase. -/
def execPpsOutPulse (s : State) : Host.Outcome State Fault Refusal :=
  .next (
    if s.now % 4000 ≠ 0 ∨ !s.pinsDriven then s
    else
      let gated : Bool := s.flag F.ppsOutGate && !s.flag F.timeLocked
      let s := if gated == s.time.ppsGated then s
        else s.raise 324 1 1 [(8, if gated then 1 else 0)]                           -- PPS_OUT_GATED
      let s := (s.onTime (fun t => { t with ppsGated := gated })).putFlag F.ppsOutOn (!gated)
      if gated then s else s.pulse 1 (s.now * 250000) (s.get F.tpWidth 1))

/-- CHIME_PULSE (R318): the next instant of the grid in the current beat; the grid last written takes over at its first
instant. -/
def execChimePulse (pin : Fin 2) (s : State) : Host.Outcome State Fault Refusal :=
  let p := 2 + pin.val
  let x := s.pin p
  let stop := (s.now + 1) * 250000
  let fresh : Option Nat := match x.starts with | some t => if t < stop then some t else none | none => none
  let old : Option (Nat × Nat) := match x.grid with
    | some g => let t := g.nextAt (max (s.now * 250000) (x.last + 1)); if t < stop then some (t, g.width) else none
    | none => none
  .next (
    if !s.pinsDriven ∨ s.get F.tpMode p ≠ 1 then s
    else
      match old, fresh with
      | some (t, w), none => s.pulse p t w
      | some (t, w), some f =>
        if t < f then s.pulse p t w
        else (s.putPin { x with grid := some (s.pinGrid p), starts := none }).pulse p f (s.get F.tpWidth p)
      | none, some f => (s.putPin { x with grid := some (s.pinGrid p), starts := none }).pulse p f (s.get F.tpWidth p)
      | none, none => s)

/-- RIMSHOT_FIRED (R319): an armed pin fires in the beat of its time, or LATE at a step edge that has jumped it. -/
def execRimshotFired (pin : Fin 2) (s : State) : Host.Outcome State Fault Refusal :=
  let p := 2 + pin.val
  let due := s.get F.rimshotTime p / 5 * 5
  let late : Bool := decide (due < s.now * 250000)
  let t := if late then s.now * 250000 else due
  .next (
    if !s.pinsDriven ∨ s.get F.tpMode p ≠ 2 ∨ s.get F.tpState p ≠ 2 ∨ t ≥ (s.now + 1) * 250000 then s
    else
      ((s.pulse p t (s.get F.tpWidth p)).put F.tpState 0 p).raise (326 + pin.val) 1 0
        [(8, p), (32, instant t s.now), (8, if late then 1 else 0)])

/-- TP_EVENT_PULSE (R321): an event that waits for the pin pulses it, or is merged into the pulse in progress. -/
def execTpEventPulse (pin : Fin 2) (s : State) : Host.Outcome State Fault Refusal :=
  let p := 2 + pin.val
  .next (
    if !s.ev.tpPulses.contains p then s
    else
      let s := { s with ev := { s.ev with tpPulses := s.ev.tpPulses.erase p } }
      if !s.pinsDriven ∨ s.get F.tpMode p ≠ 4 then s
      else if s.nowNs < (s.pin p).pulseEnd then s.inc F.tpMerged p
      else s.pulse p s.nowNs (s.get F.tpWidth p))

/-! Opcodes (R423). -/

/-- TIME_STATUS. -/
def execTimeStatus (p : Packet) (s : State) : Host.Outcome State Fault Refusal :=
  .next (served .timeStatus p (fun _ _ => .ok) (fun _ s => { st := s, tlvs := [packObj s 0x5000 0 7] }) s)

/-- The ranges and relations of a CHIME grid (R318, R327). -/
def gridOk (period phase width : Nat) : Bool :=
  decide (200 ≤ period) && decide (period ≤ 200000000000) && decide (phase < period) && decide (1 ≤ width)
    && decide (width ≤ 100000000) && decide (width + 2 ≤ period)

/-- PIN names TP2 or TP3. -/
def pinChk (p : Packet) : Chk := Chk.all [needTlv p 0x002B, param (decide (2 ≤ p.val 0x002B 0)) (p.pos 0x002B)]

/-- CHIME_SET's checks. -/
def chimeSetChk (p : Packet) (_ : UnitSel) (_ : State) : Chk :=
  Chk.all [pinChk p, needTlv p 0x002C, needTlv p 0x002D, needTlv p 0x002E,
    param (decide (200 ≤ p.val 0x002C 0) && decide (p.val 0x002C 0 ≤ 200000000000)) (p.pos 0x002C),
    param (decide (p.val 0x002D 0 < p.val 0x002C 0)) (p.pos 0x002D),
    param (gridOk (p.val 0x002C 0) (p.val 0x002D 0) (p.val 0x002E 0)) (p.pos 0x002E)]

/-- CHIME_SET in its Freeze. -/
def chimeSetApply (p : Packet) (s : State) : Ans :=
  let k := p.val 0x002B 0
  let s := (((s.put F.tpMode 1 k).put F.chimePeriod (p.val 0x002C 0) k).put F.chimePhase (p.val 0x002D 0) k).put
    F.tpWidth (p.val 0x002E 0) k
  { st := s.pinWritten k s.now }

/-- CHIME_SET (R318). -/
def execChimeSet (p : Packet) (s : State) : Host.Outcome State Fault Refusal :=
  .next (queued .chimeSet p (chimeSetChk p) (firstApplyAt p) s)

/-- RIMSHOT_ARM's checks (R319): at least 20 µs after the edge of the first eligible beat. -/
def rimshotArmChk (p : Packet) (_ : UnitSel) (s : State) : Chk :=
  Chk.all [pinChk p, needTlv p 0x002F,
    param (decide (s.eligible p.stamp * 250000 + 20000 ≤ p.val 0x002F 0)) (p.pos 0x002F),
    param (!p.has 0x002E || (decide (1 ≤ p.val 0x002E 0) && decide (p.val 0x002E 0 ≤ 100000000))) (p.pos 0x002E)]

/-- RIMSHOT_ARM in its Freeze. -/
def rimshotArmApply (p : Packet) (s : State) : Ans :=
  let k := p.val 0x002B 0
  let s := if s.get F.tpMode k = 2 ∧ s.get F.tpState k = 2 then s.inc F.tpRearms k else s
  let s := ((s.put F.tpMode 2 k).put F.rimshotTime (p.val 0x002F 0) k).put F.tpWidth
    (p.val 0x002E (s.get F.tpWidth k)) k
  { st := (s.putPin { s.pin k with grid := none, starts := none }).put F.tpState 2 k }

/-- RIMSHOT_ARM (R319). -/
def execRimshotArm (p : Packet) (s : State) : Host.Outcome State Fault Refusal :=
  .next (queued .rimshotArm p (rimshotArmChk p) (firstApplyAt p) s)

/-- CAP_REC (R418): start time, COUNT or interval, COINCIDENT and interval bits. -/
def capRec (r : CapRes) : Tlv :=
  tlvPacked 0x0031 [(8, r.time), (8, r.val), (4, (if r.coincident then 1 else 0) + if r.interval then 2 else 0)]

/-- CAPTURE_READ (R423): the newest 16 results that entered the images of the last 16 beats with results, oldest first. -/
def captureReadBody (p : Packet) (_ : UnitSel) (s : State) : Ans :=
  let all := ((s.cap (p.val 0x0030 0)).log.map (fun e => e.2)).flatten
  { st := s, tlvs := (lastN 16 all).map capRec }

/-- CAPTURE_READ. -/
def execCaptureRead (p : Packet) (s : State) : Host.Outcome State Fault Refusal :=
  .next (served .captureRead p (fun _ _ => needTlv p 0x0030) (captureReadBody p) s)

/-! The timebase of a STANDBY (R31, R314). -/

/-- The servo state as the ACTIVE hands it over. -/
def State.servo (s : State) : Servo :=
  { align := s.get F.align, offset := s.beat.stepOffset, bound := s.get F.holdoverBound, rate := s.get F.rate
    gm := s.get F.gmIdentity, since := s.get F.holdoverTime, stepPending := s.flag F.stepPending }

/-- A STANDBY or SHADOW takes the timebase: it reports the ACTIVE's ALIGN, TIME_LOCKED, EDGE_OFFSET and STEP_PENDING (R27,
R31, R32, R61). -/
def State.takeServo (s : State) (v : Servo) : State :=
  let s := ((s.put F.rate v.rate).put F.holdoverBound v.bound).put F.holdoverTime v.since
  let s := { s with beat := { s.beat with stepOffset := v.offset } }
  let s := (s.onTime (fun t => { t with lastSync := s.beat.opBeats - 4 * v.since, servoGm := v.gm })).putFlag F.stepPending v.stepPending
  (s.setAlign v.align).putFlag F.timeLocked (v.align == 2 || (v.align == 3 && decide (v.bound ≤ 1000)))

/-- The grandmaster of a new ACTIVE: its own choice, else the one whose servo it has received (R314). -/
def TimeSt.continues (t : TimeSt) : Option Nat :=
  match t.gm with
  | some g => some g
  | none => if t.servoGm = 0 then none else some t.servoGm

/-- A new ACTIVE continues the servo it has received with its grandmaster: no new qualification is needed, ALIGN does not
change, and GM_LOST follows where that grandmaster is not heard (R312, R314). -/
def State.timeTakesOver (s : State) : State :=
  if s.get F.align = 1 ∨ s.get F.align = 2 then
    let g := s.time.continues
    let s := s.onTime (fun t => { t with gm := g, count := 8, firstSync := true, measured := true, disagree := 0 })
    match g with
    | some n => (s.put F.gmPresent 1).put F.gmIdentity n
    | none => s
  else s

end Sys2Proof.Machine
end

