-- ==== Sys2Proof/Machine/Units.lean ====
section
/-! DEFINITION. Units as hosts see them: identity, status, epochs, sub-units, keys and certificates (R353 to R378, R420,
R425). -/

namespace Sys2Proof.Machine

open Sys2Proof

/-! Status and identity (R357, R375, R376). -/

/-- Status of the pair: OK, DEGRADED, FAILED. -/
def State.pairStatusCode (s : State) : Nat :=
  let served : Bool := s.serving || s.pair.partnerRole == rActive
  if !served then 2
  else if s.get F.mode = mRun ∧ (s.pair.partnerReady ∨ s.pair.single) ∧ s.get F.triad ≠ 1
    ∧ s.get F.crossoverCount = 0 ∧ s.get F.substituted = 0 then 0 else 1

/-- A module shows a fault flag while one of its health checks has failed (DESIGN CHOICE, log entry 24). -/
def State.moduleFault (s : State) : Bool := (List.range 48).any (fun k => s.get F.hcState k == 2)

/-- Status of a sub-unit of slot `k`. -/
def State.subStatus (s : State) (k j : Nat) : Nat :=
  if s.subOnline k j then 0
  else if s.get F.laneMode k = 3 then (if (s.l3 k j).ever then 2 else 3)
  else match s.unit? [0x0100 + k, j] with | some u => u.status | none => 3

/-- Hops of the configured sub-units below a slot. -/
def State.subHops (s : State) (k : Nat) : List Nat :=
  if s.get F.laneMode k = 3 then (List.range 8).filter (fun j => bitOf (s.get F.l3Boards k) j)
  else ascending (s.units.others.filterMap (fun u => match u.hops with
    | [h, j] => if h = 0x0100 + k then some j else none
    | _ => none))

/-- Status of the unit in slot `k`. -/
def State.slotStatus (s : State) (k : Nat) : Nat :=
  let st := s.get F.laneState k
  if st = lsLive ∨ st = lsStale ∨ st = lsCrossover then
    if st ≠ lsStale ∧ (s.subHops k).all (fun j => s.subStatus k j == 0) then 0 else 1
  else if st = lsAbsent ∧ !(s.lane k).ever then 3 else 2

/-- Status of any unit. -/
def State.statusOf (s : State) (u : UnitSel) : Nat :=
  match u with
  | .pair => s.pairStatusCode
  | .own => if s.moduleFault then 1 else 0
  | .partner => if s.get F.linkUp = 0 then 2 else 0
  | .chassis => 0
  | .slot k => s.slotStatus k
  | .sub k j => s.subStatus k j
  | .station n _ =>
    let st := s.get F.wslState n
    if st = 0 then 3 else if st = 4 then 2 else if st = 3 then 1 else 0

/-- The record of a unit of the pair; one that has never been seen has no identity. -/
def State.unitRec (s : State) (u : UnitSel) : UnitRec :=
  match u with
  | .pair => { s.units.pair with type := 1 }
  | u => (s.unit? (u.hops s)).getD { hops := u.hops s }

/-- UNIT_TYPE of a unit (R375). -/
def State.typeOf (s : State) (u : UnitSel) : Nat :=
  match u with
  | .pair => 0x0001
  | .own | .partner => 0x0002
  | .chassis => 0x0003
  | .slot k => if s.get F.laneMode k = 3 then 0x0012 else (s.unitRec u).type
  | .sub k _ => if s.get F.laneMode k = 3 then 0x0013 else (s.unitRec u).type
  | .station _ _ => 0x0020

/-- Hops of the configured sub-units of a unit (R355, R356), ascending. -/
def State.childHops (s : State) (u : UnitSel) : List Nat :=
  match u with
  | .pair =>
    (if s.alone then [s.ownHop] else [0, 1]) ++ [2]
      ++ ((List.range 96).filter (fun k => s.slotConfigured k)).map (· + 0x0100)
      ++ ((List.range 64).filter (fun n => s.get F.wslPort n != 0xFF)).map (· + 0x0200)
  | .slot k => s.subHops k
  | _ => []

/-- The sub-unit behind a hop of a unit. -/
def State.childSel (s : State) (u : UnitSel) (h : Nat) : UnitSel :=
  match u with
  | .slot k => .sub k h
  | _ =>
    if h = s.ownHop then .own
    else if h < 2 then .partner
    else if h = 2 then .chassis
    else if h < 0x0200 then .slot (h - 0x0100) else .station (h - 0x0200) []

/-- UnitIdentity 0x01 to 0x08 (R375): width in bytes and value. -/
def State.identity (s : State) (u : UnitSel) : List (Nat × Nat) :=
  let r := s.unitRec u
  let own : Bool := u == .own
  [(2, s.typeOf u), (4, if own then s.get F.partCode else r.part), (8, if own then s.get F.serial else r.serial),
   (1, if own then s.get F.hwIssue else r.hw), (4, if own then s.get F.fwRelease else r.fw),
   (1, if own then s.get F.vouched else if r.vouched then 1 else 0), (1, s.statusOf u),
   (2, (s.childHops u).length)]

/-- UnitEpoch 0x01 to 0x04 (R376). -/
def State.epochFields (s : State) (u : UnitSel) : List (Nat × Nat) :=
  let r := s.unitRec u
  let own : Bool := u == .own
  [(4, s.epochOf u), (1, s.roleCodeOf u), (8, if own then s.get F.lastChangeBeat else r.lastBeat),
   (1, if own then s.get F.lastEpochCause else r.lastCause)]

/-- The module's own UnitIdentity registers follow its status. -/
def State.showUnit (s : State) : State := s.put F.unitStatus (s.statusOf .own)

/-! Mailbox exchanges (R212, R360). -/

/-- The mailbox of a unit: its lane and SUB, 0xFFFF for the unit in the slot itself; none where no board answers by
mailbox. -/
def mailboxOf (u : UnitSel) : Option (Nat × Nat) :=
  match u with
  | .slot k => some (k, 0xFFFF)
  | .sub k j => some (k, j)
  | _ => none

/-- The unit behind a mailbox. -/
def MailReq.unit (m : MailReq) : UnitSel := if m.sub = 0xFFFF then .slot m.lane else .sub m.lane m.sub

/-- A sub-unit has a request outstanding. -/
def State.mailBusy (s : State) (k sub : Nat) : Bool := s.lcp.mail.any (fun m => m.lane == k && m.sub == sub)

/-- Data bytes of a mailbox section on lane `k`: its 255 words less the 8 bytes before the data; on L4 what a frame's 476 bytes
hold (R210, R212, R213). -/
def State.mailRoom (s : State) (k : Nat) : Nat := if s.get F.laneMode k = 2 then 464 else 1012

/-- A mailbox section (R212): MB_SEQ, MB_OP, index, sub-index, status, length and data. -/
def mailSection (sub mbSeq mbOp obj len data : Nat) : List Nat :=
  let bytes := [mbSeq, mbOp] ++ bytesOf 2 (obj % 65536) ++ [obj / 65536 % 256, 0] ++ bytesOf 2 len ++ bytesOf len data
  sectionBytes sub 0x04 ((List.range ((bytes.length + 3) / 4)).map (fun i => ofBytes ((bytes.drop (4 * i)).take 4)))

/-- The next section of a request leaves in a DOWN_SERVICE frame, under an MB_SEQ of its own. -/
def State.mailNext (s : State) (m : MailReq) : State :=
  let n := min m.rest (s.mailRoom m.lane)
  let q := s.lcp.mbSeq
  let s := s.sendService m.lane 0x03 (mailSection m.sub q m.mbOp m.obj n (m.data % 256 ^ n))
  { s with lcp := { s.lcp with
      mail := s.lcp.mail ++ [{ m with mbSeq := q, rest := m.rest - n, data := m.data / 256 ^ n }], mbSeq := (q + 1) % 256 } }

/-- A request leaves for a mailbox; data that is too long for a section is split, one section per exchange. -/
def State.mailSend (s : State) (o : Op) (p : Packet) (k sub mbOp obj len data : Nat) : State :=
  s.mailNext { lane := k, sub := sub, mbSeq := 0, mbOp := mbOp, obj := obj, data := data, rest := len, sess := p.sess
               pkt := p, op := o }

/-- An S opcode that a mailbox may carry: where `mb` names its section (lane, SUB, MB_OP, object, length, data), the reply
waits for the mailbox, one request per sub-unit (R212); else it is served at once. -/
def mailed (o : Op) (p : Packet) (check : UnitSel → State → Chk)
    (mb : UnitSel → State → Option (Nat × Nat × Nat × Nat × Nat × Nat)) (body : UnitSel → State → Ans) (s : State) :
    State :=
  match admission o p s with
  | .go u =>
    let s := s.noteSeq p
    match (permit o p u s).andThen (check u s) with
    | .bad st tl => s.answer (mkReply o p s (some u) 0 st tl)
    | .ok =>
      match mb u s with
      | some (k, sub, mbOp, obj, len, data) =>
        if s.mailBusy k sub then s.answer (mkReply o p s (some u) 0 stBusy [])
        else s.mailSend o p k sub mbOp obj len data
      | none =>
        let a := body u s
        a.st.answer (mkReply o p a.st (some u) (if a.more then 8 else 0) a.status a.tlvs)
  | a => turnedAway o p a s

/-- A mailbox exchange ends with a reply to its host; a unit whose epoch has changed since answers EPOCH_MISMATCH (R230,
R366). -/
def State.mailDone (s : State) (m : MailReq) (status : Nat) (tlvs : List Tlv) : State :=
  let s := { s with lcp := { s.lcp with mail := s.lcp.mail.erase m } }
  let u := m.unit
  let e := s.epochOf u
  if m.pkt.epoch ≠ 0 ∧ m.pkt.epoch ≠ e then
    s.answer (mkReply m.op m.pkt s (some u) 0 stEpochMismatch [tlvPacked 0x8005 [(4, e), (1, s.roleCodeOf u)]])
  else s.answer (mkReply m.op m.pkt s (some u) 0 status tlvs)

/-- The data of a read whose last section has come, as its host is answered. -/
def MailReq.data? (m : MailReq) : List Tlv :=
  if m.mbOp ≠ 1 then [] else if m.op = .unitCertGet then [tlv 0x003C m.got m.acc] else [tlv 0x0015 m.got m.acc]

/-- MAILBOX_REPLY (R212): the reply of the outstanding request. A long write goes on with its next section; a read whose section
is full asks for the next one (DESIGN CHOICE, log entry 24). -/
def execMailboxReply (lane : Fin 96) (sub mbSeq mbOp status : Nat) (len data : Nat) (s : State) :
    Host.Outcome State Fault Refusal :=
  .next (
    match s.lcp.mail.find? (fun m => m.lane == lane.val && m.sub == sub && m.mbSeq == mbSeq && m.mbOp + 0x80 == mbOp) with
    | none => s
    | some m0 =>
      let m : MailReq := { m0 with got := m0.got + len, acc := m0.acc + data * 256 ^ m0.got }
      let more := if m.mbOp = 1 then decide (len = s.mailRoom m.lane) && decide (m.got < 65280) else decide (m.rest ≠ 0)
      if status = 0 ∧ more then
        { s with lcp := { s.lcp with mail := s.lcp.mail.erase m0 } }.mailNext m
      else s.mailDone m0 status (if status ≠ 0 then [] else m.data?))

/-- MAILBOX_TIMEOUT (R212, R359): no reply within 40 beats. -/
def execMailboxTimeout (lane : Fin 96) (sub mbSeq : Nat) (s : State) : Host.Outcome State Fault Refusal :=
  .next (
    match s.lcp.mail.find? (fun m => m.lane == lane.val && m.sub == sub && m.mbSeq == mbSeq) with
    | none => s
    | some m => s.mailDone m stTimeout (hopPos m.pkt.hopLen))

/-! UNIT_LIST, UNIT_INFO, UNIT_EPOCH_GET (R420). -/

/-- UNIT_LIST: a record per configured sub-unit, ascending from the first hop asked for. -/
def unitListBody (p : Packet) (u : UnitSel) (s : State) : Ans :=
  let hs := (s.childHops u).filter (fun h => decide (p.val 0x0033 0 ≤ h))
  let n := p.val 0x0026 65280 / 12
  { st := s, more := decide (n < hs.length)
    tlvs := (hs.take n).map (fun h =>
      let c := s.childSel u h
      tlvPacked 0x0047 [(2, h), (2, s.typeOf c), (1, s.statusOf c), (1, 0), (4, s.epochOf c), (2, 0)]) }

/-- UNIT_LIST. -/
def execUnitList (p : Packet) (s : State) : Host.Outcome State Fault Refusal :=
  .next (served .unitList p (fun _ _ => .ok) (unitListBody p) s)

/-- UNIT_INFO. -/
def execUnitInfo (p : Packet) (s : State) : Host.Outcome State Fault Refusal :=
  .next (served .unitInfo p (fun _ _ => .ok) (fun u s => { st := s, tlvs := [tlvPacked 0x0015 (s.identity u)] }) s)

/-- UNIT_EPOCH_GET. -/
def execUnitEpochGet (p : Packet) (s : State) : Host.Outcome State Fault Refusal :=
  .next (served .unitEpochGet p (fun _ _ => .ok) (fun u s => { st := s, tlvs := [tlvPacked 0x0015 (s.epochFields u)] }) s)

/-! Certificates (R367 to R372). -/

/-- The chain held in a slot: bytes and their number. -/
def State.chain? (s : State) (slot : Nat) : Option (Nat × Nat) :=
  (s.units.chains.find? (fun c => c.1 == slot)).map (fun c => c.2)

/-- The slot of the chain a module presents (R370): PAIR, OPERATIONAL, MANUFACTURING. -/
def State.presented (s : State) : Nat :=
  if (s.chain? 2).isSome then 2 else if (s.chain? 1).isSome then 1 else 0

/-- A chain as a TLV. -/
def chainTlv (c : Nat × Nat) : Tlv := tlv 0x003C c.1 c.2

/-- A vouch record (R371): UnitRef from the vouching unit, type code, serial number, epoch, beat of the check, and the
pair's signature, a value the spec does not give. The order of the fields is the model's (DESIGN CHOICE, log entry 24). -/
def vouchTlv (s : State) (u : UnitSel) (sig : Nat) : Tlv :=
  let r := s.unitRec u
  let hops := u.hops s
  tlvPacked 0x003D ([(1, hops.length)] ++ hops.map (fun h => (2, h)) ++
    [(4, r.part), (8, r.serial), (4, s.epochOf u), (8, r.lastBeat), (96, sig)])

/-- UNIT_CERT_GET's checks: a slot is named on modules and pairs only, and holds a certificate. -/
def unitCertGetChk (p : Packet) (u : UnitSel) (s : State) : Chk :=
  let top : Bool := u == .own || u == .pair
  Chk.all [param (top || !p.has 0x003B) (p.pos 0x003B),
    param (s.typeOf u == 0x0010 || (s.chain? (if p.has 0x003B then p.val 0x003B 0 else s.presented)).isSome) (p.pos 0x003B)]

/-- A Gen-5 board is asked for the chain of its identity objects (R360, R371); the index asked for is the model's (DESIGN
CHOICE, log entry 24). -/
def certMailbox (u : UnitSel) (s : State) : Option (Nat × Nat × Nat × Nat × Nat × Nat) :=
  if s.typeOf u = 0x0010 then (mailboxOf u).map (fun m => (m.1, m.2, 1, 0x0020, 0, 0)) else none

/-- UNIT_CERT_GET: the chain of a module or pair; for a vouched unit the pair's chain and a vouch record. -/
def unitCertGetBody (p : Packet) (u : UnitSel) (s : State) : Ans :=
  let c := (s.chain? (if p.has 0x003B then p.val 0x003B 0 else s.presented)).getD (0, 0)
  if u = .own ∨ u = .pair then { st := s, tlvs := [chainTlv c] }
  else
    let (sig, s) := s.fresh 768
    { st := s, tlvs := [chainTlv c, vouchTlv s u sig] }

/-- UNIT_CERT_GET. -/
def execUnitCertGet (p : Packet) (s : State) : Host.Outcome State Fault Refusal :=
  .next (mailed .unitCertGet p (unitCertGetChk p) certMailbox (unitCertGetBody p) s)

/-- The pair key reaches the partner (R369): PAIR_KEY_WRAPPED names the receiving side. -/
def State.wrapKey (s : State) : State :=
  if s.units.keyMade && !s.units.wrapped && s.pair.partnerRole == rStandby then
    ({ s with units := { s.units with wrapped := true } }).raise 386 1 0 [(8, 1 - s.get F.side)]
  else s

/-- CSR_CREATE's checks: KEY_SEL PAIR names the pair, MODULE a module. -/
def csrCreateChk (p : Packet) (u : UnitSel) (_ : State) : Chk :=
  Chk.all [needTlv p 0x0039, need ((p.val 0x0039 0 == 1) == (u == .pair)) 4]

/-- CSR_CREATE: the request's bytes are a value the spec does not give; KEY_SEL PAIR generates the pair key where none
exists, and wraps it (R368, R369). -/
def csrCreateBody (p : Packet) (_ : UnitSel) (s : State) : Ans :=
  let pairKey := p.val 0x0039 0 == 1
  let s := s.auditBy p.sess 0x09 0 (if pairKey then 2 else 1)
  let s : State := if pairKey && !s.units.keyMade then
      let s := { s with units := { s.units with keyMade := true, wrapped := false } }
      if s.get F.certState 2 = 0 then s.put F.certState 3 2 else s
    else s
  let s := s.wrapKey
  let (len, s) := s.fresh 12
  let (b, s) := s.fresh 32768
  { st := s, tlvs := [tlv 0x003A (len + 1) b] }

/-- CSR_CREATE (R368). -/
def execCsrCreate (p : Packet) (s : State) : Host.Outcome State Fault Refusal :=
  let s' := served .csrCreate p (csrCreateChk p) (csrCreateBody p) s
  .next (auditRefused .csrCreate p (csrCreateChk p) 0x09 (if p.val 0x0039 0 = 1 then 2 else 1) s s')

/-- The PTP second of the current beat. -/
def State.ptpSecond (s : State) : Nat := s.now / 4000

/-- CERT_INSTALL's checks (R368): slot 2 through the pair, slots 1 and 3 through a module, slot 0 never; the chain, the key
and, while TIME_LOCKED is 1, the validity. -/
def certInstallChk (p : Packet) (u : UnitSel) (s : State) : Chk :=
  let slot := p.val 0x003B 0
  Chk.all [needTlv p 0x003B, needTlv p 0x003C,
    need (slot != 0 && ((slot == 2) == (u == .pair))) 4,
    param (p.chainOk && (!s.flag F.timeLocked ||
      (decide (p.notBefore ≤ s.ptpSecond) && decide (s.ptpSecond ≤ p.notAfter)))) (p.pos 0x003C)]

/-- The certificate metadata of a slot as its Journal record holds them (R437). -/
def State.certRecord (s : State) (slot : Nat) : State :=
  s.journal 2 slot 65 (packBytes [(1, slot), (48, s.get F.certFingerprint slot), (8, s.get F.certNotBefore slot),
    (8, s.get F.certNotAfter slot)]).1 false

/-- CERT_INSTALL: the slot takes the chain; a pair certificate is an epoch event of the pair (R362). The pair's serial
number is that of the certificate's key, a value the command does not carry. -/
def certInstallBody (p : Packet) (_ : UnitSel) (s : State) : Ans :=
  let slot := p.val 0x003B 0
  let s := s.auditBy p.sess 0x09 0 slot
  let c := (p.find? 0x003C).getD { t := 0x003C, len := 0, val := 0 }
  let s := { s with units := { s.units with
    chains := s.units.chains.filter (fun (x : Nat × Nat × Nat) => x.1 != slot) ++ [(slot, c.len, c.val)]
    expiring := s.units.expiring.filter (· != slot) } }
  let s := (((s.put F.certState 1 slot).put F.certNotBefore p.notBefore slot).put F.certNotAfter p.notAfter slot).put
    F.certFingerprint p.fingerprint slot
  let s := (s.certRecord slot).raise 382 1 0 [(8, slot), (32, p.fingerprint % 2 ^ 32)]    -- CERT_INSTALLED
  if slot = 2 then
    let (n, s) := s.fresh 64
    let s := { s with units := { s.units with pair := { s.units.pair with serial := n } } }
    let s := s.bumpPair 7
    { st := s.raise 385 1 0 [(32, s.units.pair.epoch)] }                                  -- PAIR_IDENTITY_SET
  else { st := s }

/-- CERT_INSTALL (R368). -/
def execCertInstall (p : Packet) (s : State) : Host.Outcome State Fault Refusal :=
  let s' := servedTracked .certInstall p (certInstallChk p) (certInstallBody p) s
  .next (auditRefused .certInstall p (certInstallChk p) 0x09 (p.val 0x003B 0) s s')

/-- CERT_EXPIRING (R372): 30 days before NOT_AFTER, while TIME_LOCKED is 1. -/
def execCertExpiring (slot : Fin 4) (s : State) : Host.Outcome State Fault Refusal :=
  let k := slot.val
  .next (
    if s.flag F.timeLocked ∧ s.get F.certState k = 1 ∧ !s.units.expiring.contains k
      ∧ s.get F.certNotAfter k ≤ s.ptpSecond + 2592000 then
      ({ s with units := { s.units with expiring := s.units.expiring ++ [k] } }).raise 383 1 1
        [(8, k), (32, s.get F.certNotAfter k)]
    else s)

/-- CERT_EXPIRED (R372): at NOT_AFTER, while TIME_LOCKED is 1; the certificate is still presented. -/
def execCertExpired (slot : Fin 4) (s : State) : Host.Outcome State Fault Refusal :=
  let k := slot.val
  .next (
    if s.flag F.timeLocked ∧ s.get F.certState k = 1 ∧ s.get F.certNotAfter k ≤ s.ptpSecond then
      (s.put F.certState 2 k).raise 384 1 2 [(8, k)]
    else s)

end Sys2Proof.Machine
end

