-- ==== Sys2Proof/Machine/Security.lean ====
section
/-! DEFINITION. Security states, tokens, debug sessions, memory protection, the audit log (R471 to R498). -/

namespace Sys2Proof.Machine

open Sys2Proof

/-! Tokens (R476, R477). -/

/-- `n` bytes of a token from byte `b`. -/
def tokBytes (t : Tlv) (b n : Nat) : Nat := t.val / 256 ^ b % 256 ^ n

/-- TKIND, SCOPE, DURATION, TOKEN_SEQ of a token. -/
def tokKind (t : Tlv) : Nat := tokBytes t 3 1
def tokScope (t : Tlv) : Nat := tokBytes t 28 4
def tokDuration (t : Tlv) : Nat := tokBytes t 32 4
def tokSeq (t : Tlv) : Nat := tokBytes t 36 8

/-- SCOPE and DURATION fit TKIND (R476). -/
def tokFits (t : Tlv) : Bool :=
  match tokKind t with
  | 1 | 2 => tokScope t == 0 && tokDuration t == 0
  | 3 => decide (tokScope t < 32) && decide (60 ≤ tokDuration t) && decide (tokDuration t ≤ 86400)
  | 4 => tokScope t == 1 && decide (60 ≤ tokDuration t) && decide (tokDuration t ≤ 86400)
  | _ => false

/-- The first failing check of R477, 0 where the token passes; `kinds` are the TKINDs the opcode takes. What the crypto
engine finds of SIGNER and SIGNATURE stands in the packet. -/
def tokenCheck (p : Packet) (t : Tlv) (kinds : List Nat) (s : State) : Nat :=
  let chain := tokBytes t 44 2
  if !(tokBytes t 0 2 == 0x5444 && tokBytes t 2 1 == 1 && tokBytes t 46 2 == 0 && 48 + chain + 96 == t.len
    && decide (1 ≤ chain) && decide (chain ≤ 880)) then 1
  else if !(kinds.contains (tokKind t) && tokFits t) then 2
  else if tokBytes t 4 8 ≠ s.get F.serial then 3
  else if !p.chainOk then 4
  else if !p.sigOk then 5
  else if tokSeq t ≤ s.get F.lastTokenSeq then 6
  else if s.flag F.timeLocked && !(decide (tokBytes t 12 8 ≤ s.ptpSecond) && decide (s.ptpSecond ≤ tokBytes t 20 8)) then 7
  else 0

/-- The token of a packet; an empty one where it is missing. -/
def tokenOf (p : Packet) : Tlv := (p.find? 0x003F).getD { t := 0x003F, len := 0, val := 0 }

/-- A token is rejected: TOKEN_REJECTED with the check, counted and recorded with the status of its command (R477, R490). -/
def State.tokenRejected (s : State) (p : Packet) (chk status : Nat) : State :=
  let s := (s.inc F.tokenRejects).auditBy p.sess 0x04 (status % 256) chk
  s.raise 390 1 2 [(8, chk), (32, min (tokSeq (tokenOf p)) 0xFFFFFFFF)]

/-! SECURITY_STATE_SET (R473). -/

/-- The transition needs a token of this TKIND; 0 none. -/
def tokenFor (fr dst : Nat) : Nat := if fr = 0 ∧ dst = 1 then 1 else if fr = 1 ∧ dst = 2 then 2 else 0

/-- The transition is one of the table's, by mode and role. -/
def secMoveOk (s : State) (dst : Nat) : Bool :=
  let fr := s.get F.sec
  if fr = dst then true
  else if fr = 0 ∧ dst = 2 then false
  else if fr = 1 ∧ dst = 2 then s.get F.mode == mStop && (s.get F.role == rNone || s.get F.role == rSolo)
  else if fr = 2 then s.get F.mode == mStop
  else true

/-- The first failing check of the token the transition requires, 0 none. -/
def secTokenCheck (p : Packet) (s : State) : Nat :=
  let k := tokenFor (s.get F.sec) (p.val 0x003E 0)
  if k = 0 then 0 else tokenCheck p (tokenOf p) [k] s

/-- SECURITY_STATE_SET's checks; every refusal is NOT_PERMITTED 0x0002. -/
def securityStateSetChk (p : Packet) (_ : UnitSel) (s : State) : Chk :=
  Chk.all [needTlv p 0x003E, need (secMoveOk s (p.val 0x003E 0)) 2, need (secTokenCheck p s == 0) 2]

/-- SECURITY_STATE_SET in its Freeze: recorded first; the debug session ends; the token is consumed; leaving OPEN restarts
the module. -/
def securityStateSetApply (p : Packet) (s : State) : Ans :=
  let fr := s.get F.sec
  let dst := p.val 0x003E 0
  if fr = dst then { st := s }
  else if !secMoveOk s dst || secTokenCheck p s != 0 then
    let s := s.auditBy p.sess 0x03 (stNotPermitted % 256) dst
    { st := if secMoveOk s dst then s.tokenRejected p (secTokenCheck p s) stNotPermitted else s, status := stNotPermitted, tlvs := detail 2 }
  else
    let s := s.auditBy p.sess 0x03 0 dst
    let s := s.endDebug 4
    let s := if tokenFor fr dst ≠ 0 then s.put F.lastTokenSeq (tokSeq (tokenOf p)) else s
    let s := (s.put F.sec dst).raise 388 1 1 [(2, fr), (2, dst), (8, s.get F.debugWrites)]   -- SEC_STATE_CHANGE
    if dst = 2 then { st := s.put F.debugWrites 0 }
    else if fr = 2 then { st := s.enterStart }
    else { st := s }

/-- A packet reaches the checks of its opcode, and its token fails them. -/
def tokenFails (o : Op) (p : Packet) (before : UnitSel → State → Chk) (check : State → Nat) (s : State) : Nat :=
  match admission o p s with
  | .go u =>
    let s := s.noteSeq p
    match (permit o p u s).andThen (before u s) with
    | .ok => check s
    | .bad _ _ => 0
  | _ => 0

/-- SECURITY_STATE_SET (R473). -/
def execSecurityStateSet (p : Packet) (s : State) : Host.Outcome State Fault Refusal :=
  let bad := tokenFails .securityStateSet p
    (fun _ s => Chk.all [needTlv p 0x003E, need (secMoveOk s (p.val 0x003E 0)) 2]) (secTokenCheck p) s
  let s' := queued .securityStateSet p (securityStateSetChk p) (fun _ s => s.eligible p.stamp) s
  let s' := auditRefused .securityStateSet p (securityStateSetChk p) 0x03 (p.val 0x003E 0) s s'
  .next (if bad ≠ 0 then s'.tokenRejected p bad stNotPermitted else s')

/-! DEBUG_TOKEN_INSTALL (R478 to R480). -/

/-- HALT is admitted by security state, role and mode (R480). -/
def haltAdmitted (s : State) : Chk :=
  let r := s.get F.role
  let m := s.get F.mode
  if s.get F.sec ≠ 2 then .bad stNotPermitted (detail 2)
  else if r = rActive then .bad stNotPermitted (detail 3)
  else if r = rSolo then require (m == mStop || m == mHold) stWrongMode (detail m)
  else if r = rNone then require (m == mStop) stWrongMode (detail m)
  else if r = rShadow then require (m == mRun) stWrongMode (detail m)
  else .ok

/-- DEBUG_TOKEN_INSTALL's checks before the token's own. -/
def debugInstallBefore (p : Packet) (_ : UnitSel) (s : State) : Chk :=
  Chk.all [needTlv p 0x003F, if tokKind (tokenOf p) = 4 then haltAdmitted s else .ok]

/-- DEBUG_TOKEN_INSTALL's checks. -/
def debugInstallChk (p : Packet) (u : UnitSel) (s : State) : Chk :=
  Chk.all [debugInstallBefore p u s, param (tokenCheck p (tokenOf p) [3, 4] s == 0) (p.pos 0x003F),
    require (s.get F.dbg == 0) stBusy]

/-- DEBUG_TOKEN_INSTALL: the session begins, recorded first; the trace buffer is cleared (R495). -/
def debugInstallBody (p : Packet) (_ : UnitSel) (s : State) : Ans :=
  let t := (tokenOf p)
  let k := tokKind t
  let s := s.auditBy p.sess 0x05 0 k
  let s := ((((s.put F.dbg (k - 2)).put F.debugSession p.sess).put F.debugLeft (tokDuration t)).put F.lastTokenSeq
    (tokSeq t)).put F.haltState 0
  let s := (s.put F.traceFill 0).put F.traceWraps 0
  let s := { s with sec := { s.sec with
    kind := k, scope := tokScope t, left := tokDuration t * 4000, cmd := 0, trace := [] } }
  { st := s.raise 389 1 1 [(8, 0), (8, k), (8, 0)] }                                      -- DEBUG_SESSION

/-- DEBUG_TOKEN_INSTALL (R478). -/
def execDebugTokenInstall (p : Packet) (s : State) : Host.Outcome State Fault Refusal :=
  let bad := tokenFails .debugTokenInstall p (debugInstallBefore p) (tokenCheck p (tokenOf p) [3, 4]) s
  let s' := served .debugTokenInstall p (debugInstallChk p) (debugInstallBody p) s
  let s' := auditRefused .debugTokenInstall p (debugInstallChk p) 0x05 (tokKind (tokenOf p)) s s'
  .next (if bad ≠ 0 then s'.tokenRejected p bad stBadParam else s')

/-! Debug commands (R480, R481, R494). -/

/-- The cores halt (R481): at the end of the Freeze of the apply beat. The program counters are values the spec does not
give. A STANDBY drops to SYNCING, a shadow run ends (R480). -/
def State.dbgHalt (s : State) : State :=
  if s.get F.dbg ≠ 2 ∨ s.get F.haltState = 1 ∨ haltAdmitted s ≠ .ok then s
  else
    let s := s.auditBy (s.get F.debugSession) 0x07 0 1
    let (pcs, s) := s.fresh 256
    let s := (s.put F.haltState 1).put F.haltPc pcs
    if s.get F.role = rStandby then { s.dropSync with pair := { s.dropSync.pair with rx := [] } }
    else if s.get F.role = rShadow then s.stopShadow 0
    else s

/-- The cores resume at the Freeze of the apply beat: cycles in progress are discarded, and each class is released at its
next release beat. -/
def State.dbgResume (s : State) : State :=
  if s.get F.haltState ≠ 1 then s
  else ((s.auditBy (s.get F.debugSession) 0x07 0 2).dropCycles).put F.haltState 0

/-- Every core executes one instruction and halts again; what the instruction does lies in the program's code. -/
def State.dbgStep (s : State) : State :=
  if s.get F.haltState ≠ 1 then s
  else
    let s := s.auditBy (s.get F.debugSession) 0x07 0 3
    let (pcs, s) := s.fresh 256
    s.put F.haltPc pcs

/-- A line enters X, Y and Z alike (R481); the dirty bitmap of a resync marks it. -/
def State.lineAlike (s : State) (a d : Nat) : State :=
  let m := s.triad
  let split : Bool := s.get F.triad == 2
  { s with
    mem := memWrite s.mem a d 64
    triad := { m with
      dirty := if s.get F.resyncPhase = 0 ∨ m.dirty.contains a then m.dirty else m.dirty ++ [a]
      memY := if split then memWrite m.memY a d 64 else m.memY
      memZ := if split then memWrite m.memZ a d 64 else m.memZ } }

/-- A write through the debug window (R474, R481): a line of X, Y and Z at dbg_addr. -/
def State.dbgWindowWrite (s : State) (data : Nat) : State :=
  if s.get F.haltState ≠ 1 then s
  else
    let s := s.auditBy (s.get F.debugSession) 0x08 0 0
    let s := if s.get F.sec = 2 then s.put F.debugWrites 1 else s
    s.lineAlike (s.get F.dbgAddr) data

/-- The line that dbg_window shows. -/
def State.dbgWindowRead (s : State) : Nat := memRead s.mem (s.get F.dbgAddr) 64

/-- DBG_CMD_HALT (R481). -/
def execDbgCmdHalt (s : State) : Host.Outcome State Fault Refusal := .next s.dbgHalt

/-- DBG_CMD_RESUME (R481). -/
def execDbgCmdResume (s : State) : Host.Outcome State Fault Refusal := .next s.dbgResume

/-- DBG_CMD_STEP (R481). -/
def execDbgCmdStep (s : State) : Host.Outcome State Fault Refusal := .next s.dbgStep

/-- DBG_CMD_END_SESSION (R478). -/
def execDbgCmdEndSession (s : State) : Host.Outcome State Fault Refusal := .next (s.endDebug 1)

/-- DBG_WINDOW_WRITE (R481). -/
def execDbgWindowWrite (data : Nat) (s : State) : Host.Outcome State Fault Refusal := .next (s.dbgWindowWrite data)

/-- DEBUG_DURATION_END (R478): the session ends. -/
def execDebugDurationEnd (s : State) : Host.Outcome State Fault Refusal := .next (s.endDebug 2)

/-- `n` trace items of the current beat enter the ring of 1,048,576 (R479, R495): BEAT_LO, then offset, source, kind and word,
which depend on the traffic the trace unit taps and are free values. -/
def State.traceItems (s : State) : Nat → State
  | 0 => s
  | n + 1 =>
    let (v, s) := s.fresh 96
    let t := s.sec.trace ++ [s.now % 2 ^ 32 + v * 2 ^ 32]
    let full : Bool := decide (1048576 < t.length)
    let s := { s with sec := { s.sec with trace := if full then t.drop 1 else t } }
    let s := s.put F.traceFill (min t.length 1048576)
    (if full && s.get F.traceFill == 1048576 then s.inc F.traceWraps else s).traceItems n

/-- At an edge DURATION runs on the beat timebase; under OBSERVE the trace unit writes items, as many as the traffic
gives (a free number below 16 per beat, DESIGN CHOICE, log entry 25). -/
def State.debugEdge (s : State) : State :=
  let s : State := if s.get F.dbg = 1 then
      let (n, s) := s.fresh 4
      s.traceItems n
    else s
  if s.get F.dbg = 0 then s
  else if s.sec.left ≤ 1 then s.endDebug 2
  else ({ s with sec := { s.sec with left := s.sec.left - 1 } }).put F.debugLeft ((s.sec.left - 1 + 3999) / 4000)

/-! Memory protection (R483 to R488). -/

/-- Live bank of a core: 1 B. -/
def State.mpuBank (s : State) (core : Nat) : Nat := if s.sec.banks.contains core then 1 else 0

/-- A descriptor; one never written has SLICE_EN 0xFF and is not VALID (R484). -/
def State.region (s : State) (core bank i : Nat) : Nat := lookupD s.sec.regions ((core * 2 + bank) * 16 + i) 0xFF00

/-- Fields of a descriptor. -/
def rgValid (d : Nat) : Bool := bitOf d 0
def rgStart (d : Nat) : Nat := bitsOf d 16 48
def rgSpan (d : Nat) : Nat := bitsOf d 64 48

/-- A descriptor breaks R484. -/
def rgBad (d : Nat) : Bool :=
  rgStart d % 64 != 0 || rgSpan d % 512 != 0 || decide (rgSpan d < 512) || decide (2 ^ 40 < rgSpan d)
    || decide (2 ^ 48 < rgStart d + rgSpan d) || (bitOf d 2 && !bitOf d 1) || (bitOf d 5 && !bitOf d 4)
    || (bitOf d 2 && bitOf d 3) || (bitOf d 5 && bitOf d 6)

/-- An enabled slice of the region contains the address (R485). -/
def rgHas (d a : Nat) : Bool :=
  decide (rgStart d ≤ a) && decide (a < rgStart d + rgSpan d) && bitOf d (8 + (a - rgStart d) / (rgSpan d / 8))

/-- The region that decides an address: number and descriptor, lowest first; an invalid one decides what is left (R485). -/
def State.decides (s : State) (core bank a : Nat) : Option (Nat × Nat) :=
  ((List.range 16).map (fun i => (i, s.region core bank i))).find? (fun r => rgValid r.2 && (rgBad r.2 || rgHas r.2 a))

/-- The boundaries of a core's regions and slices (R487). -/
def State.boundaries (s : State) (core bank : Nat) : List Nat :=
  ((List.range 16).map (fun i =>
    let d := s.region core bank i
    if rgValid d && !rgBad d then (List.range 9).map (fun j => rgStart d + j * (rgSpan d / 8)) else [])).flatten

/-- The first addresses of an access's parts, ascending (R487). -/
def State.parts (s : State) (core bank addr size : Nat) : List Nat :=
  addr :: ascending ((s.boundaries core bank).filter (fun b => decide (addr < b) && decide (b < addr + size)))

/-- What the MPU makes of a part: none where it permits it, else region and cause (R485, R496). -/
def State.partFault (s : State) (core bank a kind : Nat) (priv : Bool) : Option (Nat × Nat) :=
  match s.decides core bank a with
  | none => some (0x10, kind + 1)
  | some (i, d) =>
    if rgBad d then some (i, 4)
    else if bitOf d ((if priv then 4 else 1) + kind) then none else some (i, kind + 1)

/-- The first failing part of an access: part, address, region, cause. -/
def State.firstFail (s : State) (core bank addr size kind : Nat) (priv : Bool) : Option (Nat × Nat × Nat × Nat) :=
  ((s.parts core bank addr size).mapIdx (fun i a => (i, a))).findSome? (fun x =>
    (s.partFault core bank x.2 kind priv).map (fun f => (x.1, x.2, f.1, f.2)))

/-- MPU_FAULT (R485 to R488): nothing of the access is performed; a fault in a task is an overrun of its class. An access
that every part permits is no fault. -/
def State.mpuFaults (s : State) (core addr size kind : Nat) (priv : Bool) (task : Nat) : State :=
  let bank := s.mpuBank core
  match s.firstFail core bank addr size kind priv with
  | none => s
  | some (part, a, region, cause) =>
    let s := ((((s.put F.faultAddr a).put F.mfRegion region).put F.mfPart (min part 3)).put F.mfCause cause).putFlag F.mfPriv priv
    let s := ((((s.put F.mfBank bank).put F.mfCore core).put F.mfTask task).put F.mpuFaultBeat s.now).inc F.mpuFaultCount
    let s := s.raise 391 1 (if priv ∨ s.get F.triad = 2 then 4 else 3) [(32, a), (5, region), (2, min part 3), (3, cause),
      (1, if priv then 1 else 0), (1, bank), (2, core), (5, task), (32, s.now), (32, s.get F.mpuFaultCount)]
    if priv then s
    else match s.rt.taskDef? task with
      | some d => s.overrunStops d.cls [task]
      | none => if s.get F.triad = 2 then s else s.cause .stop 4

/-- MPU_FAULT. -/
def execMpuFault (core : Fin 4) (addr size : Nat) (kind : Fin 3) (priv : Bool) (task : Fin 32) (s : State) :
    Host.Outcome State Fault Refusal :=
  .next (s.mpuFaults core.val addr size kind.val priv task.val)

/-- MPU_BANK_SWAP (R483, R486): the descriptors of the next task stand in the bank that was not live, which becomes live. -/
def execMpuBankSwap (core : Fin 4) (regions : List Nat) (s : State) : Host.Outcome State Fault Refusal :=
  let c := core.val
  let b := 1 - s.mpuBank c
  let rs := ((regions.take 16).mapIdx (fun i d => ((c * 2 + b) * 16 + i, d % 2 ^ 112))).foldl
    (fun l x => assoc l x.1 x.2) s.sec.regions
  .next { s with sec := { s.sec with
    regions := rs, banks := if b = 1 then s.sec.banks ++ [c] else s.sec.banks.filter (· != c) } }

/-! The audit log (R489 to R492). -/

/-- The first record, by position, whose LINK does not fit the record before it; the oldest is not checked. -/
def auditBreak : List AuditRec → Option Nat
  | a :: b :: t => if b.link = Config.sha384 a.word % 2 ^ 64 then auditBreak (b :: t) else some b.seq
  | _ => none

/-- AUDIT_LINK_CHECK (R492). -/
def execAuditLinkCheck (s : State) : Host.Outcome State Fault Refusal :=
  .next (
    match auditBreak s.sec.audit with
    | none => s.put F.linkOk 1
    | some q => (s.put F.linkOk 2).raise 393 1 2 [(32, q)])                               -- AUDIT_BROKEN

/-- AUDIT_READ (R425, R490). -/
def auditReadBody (p : Packet) (_ : UnitSel) (s : State) : Ans :=
  let first := p.val 0x0033 0
  let n := p.val 0x0026 0 / 32
  { st := s, more := decide (first + n < s.sec.audit.length)
    tlvs := [tlvPacked 0x0032 (((s.sec.audit.drop first).take n).map (fun r => (32, r.word)))] }

/-- AUDIT_READ. -/
def execAuditRead (p : Packet) (s : State) : Host.Outcome State Fault Refusal :=
  .next (served .auditRead p (fun _ _ => Chk.all [needTlv p 0x0033, needTlv p 0x0026]) (auditReadBody p) s)

end Sys2Proof.Machine
end

