-- ==== Sys2Proof/Machine/Power.lean ====
section
/-! DEFINITION. Power: feeds and hold-up, the power-down sequence and the crash-down, TRIM gating, DORMANT, with the power
opcodes (R499 to R519). -/

namespace Sys2Proof.Machine

open Sys2Proof

/-- Changes the power manager's memory. -/
def State.onPwr (s : State) (f : PowerSt → PowerSt) : State := { s with pwr := f s.pwr }

/-! The fault latch as 64 bytes (R507). -/

/-- The latch before its CRC. -/
def Latch.body (l : Latch) : Nat :=
  let flags := (if l.crash then 1 else 0) + (if l.done then 2 else 0) + (if l.safeSet then 4 else 0)
    + (if l.events ≠ 0 then 8 else 0)
  (packBytes [(2, 0x4C46), (1, 1), (1, flags), (1, l.railId), (1, l.railStep), (1, l.safeCause), (1, l.wake), (1, l.tollT),
    (1, l.wdCause), (2, 0), (4, l.wdTotal), (8, l.expiryOp), (8, l.expiryBeat), (8, l.pwrBeat), (8, l.pwrOp), (1, l.events),
    (7, 0), (4, l.seq)]).1

/-- The latch with LATCH_CRC. -/
def Latch.word (l : Latch) : Nat := l.body % 256 ^ 60 + crc32c (bytesOf 60 l.body) * 256 ^ 60

/-! Feeds and the hold-up bank (R499, R500, R502). -/

/-- BANK_READY: 58 V or more, and the last measured capacitance at least 470 µF. -/
def State.showBank (s : State) : State :=
  s.putFlag F.bankReady (decide (5800 ≤ s.get F.bankV) && decide (470 ≤ s.get F.bankCap))

/-- A feed is PRESENT or LOW. -/
def feedGood (n : Nat) : Bool := n == 1 || n == 2

/-- HOLDUP_BANK_CHARGED (R502). -/
def execHoldupBankCharged (decivolts : Nat) (s : State) : Host.Outcome State Fault Refusal :=
  .next (s.put F.bankV (min (decivolts * 10) 65535)).showBank

/-! Losing power (R503 to R506). -/

/-- What the rails held is lost: events and packets on their way, sessions, memory, the pair link. -/
def State.railsDown (s : State) : State :=
  let s := { s with
    ev := {}
    lcp := { nextSess := s.lcp.nextSess, gongSerial := s.lcp.gongSerial, gongSeen := s.lcp.gongSeen }
    jr := { s.jr with pend := [], retry := [], lost := s.jr.lost ++ s.jr.pend, recBuf := [], recHold := [], recDropped := 0 }
    mem := []
    triad := { s.triad with
      memY := [], memZ := [], oddMem := [], dirty := [], mail := [], y := {}, z := {}, passed := none }
    sec := { audit := s.sec.audit }
    beat := { s.beat with runs := false, computing := false, committing := false, causes := [], edgePend := [] }
    rt := { s.rt with runQ := [], work := [], mirror := none }
    pair := {}
    lanes := {}
    field := {}
    can := {}
    wd := { s.wd with running := false, waitAck := false, erase := 0 } }
  let s := s.onPwr (fun p => { p with off := true, flush := false, entering := [], gated := [], selftest := none, tests := 0 })
  let s := (((s.put F.claim 0).put F.driveEn 0).put F.linkUp 0).put F.gated 0
  let s := (((s.put F.dbg 0).put F.debugSession 0).put F.debugLeft 0).put F.haltState 0
  ((s.put F.sessions 0).put F.held 0).put F.ownedHandles 0

/-- At most `n` records at the Journal's port are committed. -/
def State.commitSome (s : State) (n : Nat) : State :=
  let s := if s.get F.rollState = 2 then s.rollDone else s
  (List.range (min n s.jr.pend.length)).foldl (fun (s : State) _ => s.commitRecord) s

/-- Every record at the Journal's port is committed; the recorder's write buffer is flushed (step 3 of R504). -/
def State.flushJournal (s : State) : State :=
  let s := s.commitSome s.jr.pend.length
  (List.range s.jr.recBuf.length).foldl (fun (s : State) _ => s.recorderAppend) s

/-- A mirror in writing ends: the header of its slot is not complete (R98, R506). -/
def State.dropMirror (s : State) : State :=
  match s.rt.mirror with
  | none => s
  | some _ =>
    if s.rt.mirrorB then { s with rt := { s.rt with mirror := none, slotB := { s.rt.slotB with valid := false } } }
    else { s with rt := { s.rt with mirror := none, slotA := { s.rt.slotA with valid := false } } }

/-- The operating time and the PTP time enter the Journal (R437, R438). -/
def State.journalTimes (s : State) : State := (s.journal 0x10 0 8 s.opTime false).journal 0x0C 0 8 (s.now * 250000) false

/-- The Retain flush (R100): the published values, to the slot without the newest mirror, unless its dirty set exceeds
4 MiB. -/
def State.retainFlush (s : State) : State :=
  if s.rt.prog.isNone ∨ 4194304 < s.rt.bytesOfIdx s.rt.slotDirty then s else s.storeMirror (s.snapshotAt s.now)

/-- The safe frames of step 2 (R504): the safe values of the output points of each L5 and L4 board. -/
def State.safeFrames (s : State) : State :=
  let safe := { s with rt := { s.rt with outs := s.rt.safeOuts } }
  { s with lanes := { s.lanes with down :=
      ((List.range 96).filter (fun k => s.laneServed k && (s.get F.laneMode k == 1 || s.get F.laneMode k == 2))).map (fun k =>
        s.cyclicFrame k (2 * s.get F.side + 32) (safe.outsAt (k * 8))) } }

/-- Step 1 of R504: heartbeats, claim, drive enable and a surge end; the safe frames of step 2 are on their way. -/
def State.shed (s : State) : State :=
  let s := { (s.endDebug 5) with wd := { s.wd with hbStopped := true } }
  let s := ((s.put F.claim 0).put F.driveEn 0).surgeStops
  { s with lanes := { s.lanes with down := s.safeFrames.lanes.down } }

/-- What step 3 has to write: Roll and freeze end, events reach the recorder, the times go to the port. -/
def State.journalLast (s : State) : State :=
  let s := (s.rollAbandon).thaw
  let s := (List.range s.ev.router.length).foldl (fun (s : State) _ => s.deliver) s
  s.dropMirror.journalTimes

/-- The target slot of a flush that begins has no complete header (R504 step 4). -/
def State.flushBegins (s : State) : State :=
  if s.rt.prog.isNone ∨ 4194304 < s.rt.bytesOfIdx s.rt.slotDirty then s
  else if s.rt.mirrorB then { s with rt := { s.rt with slotB := { s.rt.slotB with valid := false } } }
  else { s with rt := { s.rt with slotA := { s.rt.slotA with valid := false } } }

/-- A sequence up to the rail failure that cuts it in step 3, 4 or 5; an earlier one leaves steps 3 and 4 undone. -/
def State.downUntil (s : State) (c : PowerCut) : State :=
  if c.step = 3 then s.journalLast.commitSome c.done
  else if c.step = 4 then s.journalLast.flushJournal.flushBegins
  else if c.step = 5 then s.journalLast.flushJournal.retainFlush
  else s.dropMirror

/-- Every remaining rail is switched off at once, and the latch says where (R506). -/
def State.railFails (s : State) (rail step : Nat) : State :=
  let frames := s.lanes.down
  let s := (s.inc F.crashCount).latch (fun l => { l with
    crash := true, done := false, railId := rail % 256, railStep := step, pwrBeat := s.now, pwrOp := s.opTime })
  let s := s.railsDown
  if step = 0 then s else { s with lanes := { s.lanes with down := frames } }

/-- POWERDOWN_START (R503, R504): both feeds are ABSENT; the sequence runs to its end, or to the rail failure that cuts it. -/
def State.powerdown (s : State) (cut : Option PowerCut) : State :=
  if s.pwr.off ∨ s.get F.mode = mDormant ∨ s.get F.feedA ≠ 0 ∨ s.get F.feedB ≠ 0 then s
  else
    let s := (s.inc F.pwrdnCount).put F.pwrSeq 1
    let s := s.latch (fun l => { l with crash := false, done := false, railId := 0xFF, pwrBeat := s.now, pwrOp := s.opTime })
    let s := s.raise 360 1 3 [(32, s.now), (32, toF32 ((s.get F.feedAV : Rat) / 100)), (32, toF32 ((s.get F.feedBV : Rat) / 100))]
    let s := s.shed
    match cut with
    | some c => ((s.downUntil c).put F.pwrSeq c.step).railFails c.rail c.step
    | none =>
      let s := s.journalLast.flushJournal.retainFlush
      let s := (s.put F.pwrSeq 5).latch (fun l => { l with done := true })
      let frames := s.lanes.down
      let s := s.railsDown
      { s with lanes := { s.lanes with down := frames } }

/-- POWERDOWN_START. -/
def execPowerdownStart (s : State) (cut : Option PowerCut := none) : Host.Outcome State Fault Refusal :=
  .next (s.powerdown cut)

/-- The step of R504 that a rail failure outside a power-down sequence falls in (R507): 0 in service, step 3 or 4 in a DORMANT
entry (R512). -/
def State.crashStep (s : State) : Nat :=
  if s.get F.pwr ≠ 2 then 0 else if s.pwr.flush ∨ s.rt.mirror.isNone then 3 else 4

/-- CRASH_DOWN (R506): a rail has left its band while it should be on; every rail is switched off at once. What stood before
the Journal's port or in the recorder's write buffer is lost, and a mirror in writing leaves its slot invalid. -/
def State.crashDown (s : State) (rail : Nat) : State :=
  if s.pwr.off ∨ s.get F.mode = mDormant then s else s.dropMirror.railFails rail s.crashStep

/-- CRASH_DOWN. -/
def execCrashDown (rail : Nat) (s : State) : Host.Outcome State Fault Refusal := .next (s.crashDown rail)

/-- The rails come back: a wake from DORMANT is a change of MODE, with its event (R77); a module that had no power had no
mode. -/
def State.leaveDormant (s : State) : State :=
  let s := s.onPwr (fun p => { p with off := false, wakePulsed := false, wakeAfter := none })
  let s := { s with units := { s.units with noActive := true } }
  if s.get F.mode = mDormant then s.setMode mStart (s.get F.role) 0 (s.get F.safeCause) 0 else s

/-- The module stands before S1 after a time without rails: MODE START, ROLE NONE; its role epoch counts the restart. -/
def State.powerUp (s : State) (wake : Nat) : State :=
  let s := ((((s.leaveDormant.put F.mode mStart).put F.role rNone).put F.ready 0).put F.unitRole 0).put F.pwr 0
  let s := ((s.put F.pwrSeq 0).latch (fun l => { l with wake := wake })).refreshDrive
  s.bumpOwn 2

/-- POWERDOWN_RESTART (R503): the rails are down and a feed is PRESENT for 100 ms: the module starts at S1. -/
def execPowerdownRestart (s : State) : Host.Outcome State Fault Refusal :=
  .next (
    if s.pwr.off ∧ s.get F.mode ≠ mDormant ∧ (s.get F.feedA ≠ 0 ∨ s.get F.feedB ≠ 0) then
      s.powerUp (if s.pwr.latch.crash then 0x06 else 0x01)
    else s)

/-! TRIM gating (R508 to R511). -/

/-- The counter `i` of partition `p` (R517). -/
def statFld (p i : Nat) : Fld := F.ps0Entries.next (16 * p + i)

/-- The one-byte items of a partition: LAST_ABORT_AP 9, LAST_WAKE 10. -/
def statByte (p i : Nat) : Fld := F.ps0LastAbortAp.next (16 * p + (i - 9))

/-- The partition counts (R511): in normal service. -/
def State.trimCounts (s : State) : Bool :=
  s.pinsDriven && s.pwr.selftest.isNone && s.get F.resyncPhase == 0 && !(s.get F.role == rStandby && s.get F.ready == 0)

/-- One more of item `i`, where the partition counts. -/
def State.trimCount (s : State) (p i : Nat) : State := if s.trimCounts then s.inc (statFld p i) else s

/-- Operating time in 5 ns. -/
def State.opTicks (s : State) : Nat := s.beat.opBeats * 50000 + s.beat.off

/-- The idle condition of a unit (R508), as far as the state shows it. -/
def State.trimIdle (s : State) (p unit : Nat) : Bool :=
  match p with
  | 0 => (s.beat.computing && s.slicesOver) || (!s.beat.computing && s.beat.committed && decide (s.beat.off ≤ 47000))
  | 1 => decide (unit < 8) && s.get F.faEnable unit == 0
  | 2 => decide (unit < 8) && (s.get F.canMode unit == 0 || s.get F.mode == mDormant)
  | 3 => decide (unit < 12) && s.time.linkDown.contains unit
  | 4 => decide (unit < 12) && (List.range 8).all (fun i => s.get F.laneMode (unit * 8 + i) == 0)
  | _ => unit == 0

/-- A lane controller of the extension row in a single-height chassis, held in TRIM (R24). -/
def State.heldTrim (s : State) (key : Nat) : Bool :=
  !s.lanes.tall && decide (4 * 256 + 6 ≤ key) && decide (key < 4 * 256 + 12)

/-- The entries of a partition within the last 1 ms. -/
def State.trimRecent (s : State) (p : Nat) : Nat :=
  (s.pwr.entries.filter (fun e => e.1 == p && decide (s.beat.opBeats < e.2 + 4))).length

/-- The first refuser that holds (R509), as its item of R517; `ops` are the refusers only the hardware sees: bit 1 DMA, bit 3
LANE_TXN, bit 5 the power-switch sensor. -/
def State.refuser (s : State) (p ops : Nat) : Option Nat :=
  if s.get F.dbg ≠ 0 then some 2
  else if bitOf ops 1 then some 3
  else if p = 0 ∧ s.hasStandby ∧ (s.pair.tx ++ s.pair.loopTx) ≠ [] then some 4
  else if bitOf ops 3 then some 5
  else if p = 0 ∧ (s.ev.router.any (fun r => bitOf r.route 0 || bitOf r.route 1)) then some 6
  else if bitOf ops 5 ∨ s.trimRecent p > 200 then some 7
  else none

/-- TRIM_IDLE_TIMER (R509): the timer of an idle unit has expired; a refuser stops the entry and the timer restarts. -/
def State.trimTimer (s : State) (p unit ops : Nat) : State :=
  let key := p * 256 + unit
  if !bitOf (s.get F.trimEnable) p ∨ !s.trimIdle p unit ∨ s.pwr.off ∨ (s.pwr.gated.any (fun g => g.1 == key))
    ∨ (s.pwr.entering.any (fun e => e.1 == key)) then s
  else
    match s.refuser p ops with
    | none => s.onPwr (fun w => { w with entering := w.entering ++ [(key, 1)] })
    | some i =>
      let s := s.trimCount p i
      let due : Bool := match valAt s.pwr.thermal p with | some t => decide (t + 40000 ≤ s.beat.opBeats) | none => true
      if i = 7 ∧ due then
        (s.onPwr (fun w => { w with thermal := assoc w.thermal p s.beat.opBeats })).raise 366 1 1 [(8, p)]  -- TRIM_THERMAL
      else s

/-- TRIM_IDLE_TIMER. -/
def execTrimIdleTimer (p : Fin 6) (unit : Nat) (refusers : Nat) (s : State) : Host.Outcome State Fault Refusal :=
  .next (s.trimTimer p.val unit refusers)

/-- GATED and PWR follow the gated units (R510, R516). -/
def State.showTrim (s : State) : State :=
  let s := s.put F.gated ((List.range 6).foldl (fun a p =>
    if s.pwr.gated.any (fun g => g.1 / 256 == p) then a + 2 ^ p else a) 0)
  if s.get F.pwr = 2 then s else s.put F.pwr (if s.pwr.gated.isEmpty then 0 else 1)

/-- A single-height chassis holds the lane controllers of the absent row in TRIM (R24). -/
def State.holdAbsent (s : State) : State :=
  if s.lanes.tall then s
  else
    let new := ((List.range 6).map (fun i => 4 * 256 + 6 + i)).filter (fun k => !s.pwr.gated.any (fun g => g.1 == k))
    (s.onPwr (fun w => { w with gated := w.gated ++ new.map (fun k => (k, s.opTicks)) })).showTrim

/-- The entering units of a partition are gated (AP4, R510). -/
def State.trimConfirm (s : State) (p : Nat) : State :=
  let mine := s.pwr.entering.filter (fun e => e.1 / 256 == p)
  let s := mine.foldl (fun (s : State) _ => s.trimCount p 0) s
  (s.onPwr (fun w => { w with
    entering := w.entering.filter (fun e => e.1 / 256 != p)
    gated := w.gated ++ mine.map (fun e => (e.1, s.opTicks))
    entries := w.entries.filter (fun e => decide (s.beat.opBeats < e.2 + 4)) ++ mine.map (fun _ => (p, s.beat.opBeats)) })).showTrim

/-- TRIM_ENTRY_CONFIRM (R510). -/
def execTrimEntryConfirm (p : Fin 6) (s : State) : Host.Outcome State Fault Refusal := .next (s.trimConfirm p.val)

/-- The gated units of a partition leave TRIM: GATED_MS. -/
def State.trimExit (s : State) (p : Nat) : State :=
  let mine := s.pwr.gated.filter (fun g => g.1 / 256 == p && !s.heldTrim g.1)
  let t := mine.foldl (fun a g => a + (s.opTicks - g.2)) (lookupD s.pwr.gatedFor p 0)
  let held := s.pwr.gated.filter (fun g => g.1 / 256 != p || s.heldTrim g.1)
  let s := s.onPwr (fun w => { w with gated := held })
  let s := if s.trimCounts then
      (s.onPwr (fun w => { w with gatedFor := assoc w.gatedFor p t })).put (statFld p 8) (min (t / 200000) (2 ^ 32 - 1)) else s
  s.showTrim

/-- A wake of partition `p` (R510, R511): before AP3 it abandons an entry, from AP3 on the entry completes and the partition
exits at once; outside normal service only LAST_WAKE is kept. -/
def State.trimWake (s : State) (p wake ap : Nat) : State :=
  let s := if s.trimCounts then s else s.put (statByte p 10) wake
  if s.pwr.entering.any (fun e => e.1 / 256 == p) then
    if ap < 3 then
      let s := s.onPwr (fun w => { w with entering := w.entering.filter (fun e => e.1 / 256 != p) })
      let s := s.trimCount p 1
      if s.trimCounts then s.put (statByte p 9) ap else s
    else (s.trimConfirm p).trimExit p
  else s.trimExit p

/-- TRIM_WAKE (R510). -/
def execTrimWake (p : Fin 6) (wake : Nat) (ap : Fin 5) (s : State) : Host.Outcome State Fault Refusal :=
  .next (s.trimWake p.val wake ap.val)

/-! DORMANT (R512, R513). -/

/-- The roles that R60 refuses: ACTIVE with a READY partner, SOLO in a configured pair chassis. -/
def State.dormantRefused (s : State) : Bool := s.canPlan || (s.get F.role == rSolo && !s.pair.single)

/-- DORMANT_ENTER's checks. -/
def dormantEnterChk (_ : UnitSel) (s : State) : Chk := need (!s.dormantRefused) 3

/-- DORMANT_ENTER in its Freeze: PWR is DORMANT-pending, the debug session ends, claim and drive enable are released; the
Journal, the recorder and, with a program, the Retain partition are brought up to date (R512). -/
def dormantEnterApply (s : State) : Ans :=
  if s.dormantRefused then { st := s, status := stNotPermitted, tlvs := detail 3 }
  else if s.get F.mode ≠ mStop ∧ s.get F.mode ≠ mSafe then
    { st := s, status := stWrongMode, tlvs := detail (s.get F.mode) }
  else
    let s := ((s.endDebug 5).put F.pwr 2).put F.pwrSeq 6
    let s := (s.put F.claim 0).put F.driveEn 0
    let s := (s.rollAbandon).thaw
    let s := s.raise 363 1 0 [(32, s.now)]                                                -- DORMANT_ENTERED
    let s := s.journalTimes
    { st := s.onPwr (fun p => { p with flush := s.rt.prog.isSome }) }

/-- DORMANT_ENTER (R425, R512). -/
def execDormantEnter (p : Packet) (s : State) : Host.Outcome State Fault Refusal :=
  .next (queued .dormantEnter p dormantEnterChk (fun _ s => s.eligible p.stamp) s)

/-- Step 3 of a DORMANT entry is done: nothing waits for Journal or recorder. -/
def State.dormantWritten (s : State) : Bool := s.ev.router.isEmpty && s.jr.pend.isEmpty && s.jr.recBuf.isEmpty

/-- Steps 3 and 4 of a DORMANT entry are done. -/
def State.dormantReady (s : State) : Bool := s.dormantWritten && s.rt.mirror.isNone && !s.pwr.flush

/-- Step 4 of a DORMANT entry begins at the edge after step 3: the Retain flush, where R100 allows it. -/
def State.dormantFlush (s : State) : State :=
  if s.get F.pwr = 2 ∧ s.pwr.flush ∧ s.dormantWritten ∧ s.rt.mirror.isNone then
    let small := decide (s.rt.bytesOfIdx s.rt.slotDirty ≤ 4194304)
    let s := s.onPwr (fun p => { p with flush := false })
    if small then { s with rt := { s.rt with mirror := some (s.snapshotAt s.now) } } else s
  else s

/-- At the edge after which nothing is left to write, step 5 switches the rails off: the module is DORMANT. A wake during
step 5 leads to S1 at once. -/
def State.dormantEdge (s : State) : State :=
  let s := s.dormantFlush
  if s.get F.pwr ≠ 2 ∨ s.pwr.off ∨ !s.dormantReady then s
  else
    let s := s.abandonResync.surgeStops.setMode mDormant rNone 0 (s.get F.safeCause) 0
    let s := s.flushJournal
    let s := (s.latch (fun l => { l with done := true })).railsDown
    let s := (s.put F.pwr 0).put F.pwrSeq 0
    match s.pwr.wakeAfter with
    | some w => s.powerUp w
    | none => s

/-- A wake: in DORMANT the module goes to S1; during the entry before step 5 the entry is abandoned. -/
def State.dormantWake (s : State) (wake : Nat) : State :=
  if s.get F.mode = mDormant then s.powerUp wake
  else if s.get F.pwr = 2 ∧ s.dormantReady then s.onPwr (fun p => { p with wakeAfter := some wake })
  else if s.get F.pwr = 2 then
    let s := ((s.put F.pwr 0).put F.pwrSeq 0).onPwr (fun p => { p with flush := false })
    s.showTrim.raise 364 1 1 [(8, wake)]                                                -- DORMANT_ABANDONED
  else s

/-- DORMANT_WAKE (R513). -/
def execDormantWake (wake : Nat) (s : State) : Host.Outcome State Fault Refusal := .next (s.dormantWake wake)

/-- PARTNER_WAKE_PULSE (R513): in START on a paired module whose link has not trained, once per START. -/
def execPartnerWakePulse (s : State) : Host.Outcome State Fault Refusal :=
  .next (
    if s.get F.mode = mStart ∧ !s.pair.single ∧ s.get F.linkUp = 0 ∧ !s.pwr.wakePulsed then
      s.onPwr (fun p => { p with wakePulsed := true })
    else s)

/-! Opcodes (R425). -/

/-- POWER_STATUS: the draw is measured at the read, at most 66 W by R501. -/
def powerStatusBody (_ : UnitSel) (s : State) : Ans :=
  let (w, s) := s.fresh 16
  let s := s.put F.powerDraw (w % 661)
  { st := s, tlvs := [packObj s 0xB000 0 8] }

/-- POWER_STATUS. -/
def execPowerStatus (p : Packet) (s : State) : Host.Outcome State Fault Refusal :=
  .next (served .powerStatus p (fun _ _ => .ok) powerStatusBody s)

/-- POWER_STATS. -/
def execPowerStats (p : Packet) (s : State) : Host.Outcome State Fault Refusal :=
  .next (served .powerStats p (fun _ _ => .ok) (fun _ s => { st := s, tlvs := [packObj s 0xB001 0x10 0x6A] }) s)

end Sys2Proof.Machine
end

