-- ==== Sys2Proof/Machine/Images.lean ====
section
/-! DEFINITION. Images: headers, staging, commit, the starts that follow, confirmation and fallback (R520 to R537). -/

namespace Sys2Proof.Machine

open Sys2Proof

/-- Changes the image state. -/
def State.onImg (s : State) (f : ImageSt → ImageSt) : State := { s with img := f s.img }

/-! Slots (R520, R521). -/

/-- Slot codes: 0 active, 1 staged, 2 fallback. -/
def State.slot (s : State) (t k : Nat) : ImgSlot :=
  ((s.img.slots.find? (fun e => e.1 == t * 4 + k)).map (fun e => e.2)).getD {}

/-- One slot of the table is replaced. -/
def slotPut (l : List (Nat × ImgSlot)) (t k : Nat) (x : ImgSlot) : List (Nat × ImgSlot) :=
  l.filter (fun e => e.1 != t * 4 + k) ++ (if x.state = 0 then [] else [(t * 4 + k, x)])

/-- One write of the slot table (R521). -/
def State.writeSlots (s : State) (f : List (Nat × ImgSlot) → List (Nat × ImgSlot)) : State :=
  s.onImg (fun i => { i with slots := f i.slots, slotSeq := i.slotSeq + 1 })

/-- The types whose active image awaits confirmation. -/
def State.awaitingTypes (s : State) : List Nat := (List.range 6).filter (fun t => (s.slot t 0).state == 2)

/-- ARB_MIN of a type (R536). -/
def arbFld (t : Nat) : Fld := F.arbMin0.next t

/-! The header (R523, R524). -/

/-- `n` bytes of a header from byte `b`. -/
def hdrBytes (h b n : Nat) : Nat := h / 256 ^ b % 256 ^ n

/-- Maximum body length of a type (R520). -/
def maxBody (t : Nat) : Nat := if t = 0 then 8384512 else if t = 1 then 67108864 else 4194304

/-- The first failing check of R524, 0 where the header passes. -/
def headerCheck (p : Packet) (h : Nat) (s : State) : Nat :=
  let t := hdrBytes h 5 1
  if hdrBytes h 0 4 ≠ 0x474D494B then 1
  else if hdrBytes h 4 1 ≠ 1 ∨ hdrBytes h 6 2 ≠ 0 ∨ hdrBytes h 81 335 ≠ 0 then 2
  else if t > 5 then 3
  else if hdrBytes h 8 4 ≠ s.get F.partCode ∨ !bitOf (hdrBytes h 12 4) (s.get F.hwIssue - 1) ∨ hdrBytes h 19 1 ≠ 1 then 4
  else if hdrBytes h 20 4 < s.get (arbFld t) then 5
  else if hdrBytes h 80 1 > 3 ∨ !p.sigOk then 6
  else if hdrBytes h 24 8 = 0 ∨ hdrBytes h 24 8 > maxBody t then 7
  else 0

/-- An image transfer is open, or its staged slot is still being erased, or an image is being programmed (R400). -/
def State.imageBusy (s : State) : Bool :=
  s.lcp.transfers.any (fun t => t.image) || s.img.erase.isSome || s.img.program.isSome

/-- IMAGE_HEADER's checks. -/
def imageHeaderChk (p : Packet) (_ : UnitSel) (s : State) : Chk :=
  let c := headerCheck p (p.val 0x0034 0) s
  Chk.all [needTlv p 0x0034, require (c == 0) stHeaderRejected (detail c),
    require (s.awaitingTypes.isEmpty) stBusy (detail 1), require (!s.imageBusy) stBusy]

/-- An S opcode whose final reply comes later (R410): checked, and `body` keeps what it waits for; the reply may come at once
too. -/
def deferred (o : Op) (p : Packet) (check : UnitSel → State → Chk) (body : UnitSel → State → State) (s : State) : State :=
  match admission o p s with
  | .go u =>
    let s := s.noteSeq p
    match (permit o p u s).andThen (check u s) with
    | .bad st tl => s.answer (mkReply o p s (some u) 0 st tl)
    | .ok => body u s
  | a => turnedAway o p a s

/-- The unit of a packet, for its later reply. -/
def State.unitFor (s : State) (p : Packet) : Option UnitSel := match resolve s p with | .unit u => some u | .fail _ _ => none

/-- IMAGE_HEADER (R526): an image in the staged slot is discarded; the reply follows the erase. -/
def execImageHeader (p : Packet) (s : State) : Host.Outcome State Fault Refusal :=
  .next (deferred .imageHeader p (imageHeaderChk p) (fun _ s =>
    let h := p.val 0x0034 0
    let s := s.writeSlots (fun l => slotPut l (hdrBytes h 5 1) 1 {})
    (s.onImg (fun i => { i with erase := some (p, h) })).eraseWanted) s)

/-- The staged slot is erased: the transfer opens (R526). -/
def State.slotErased (s : State) : State :=
    match s.img.erase with
    | none => s
    | some (p, h) =>
      let id := s.lcp.nextTransfer
      let t : Transfer := { id := id, image := true, sess := p.sess, total := hdrBytes h 24 8, hdr := h, pair := false, last := s.now }
      let s := s.onImg (fun i => { i with erase := none })
      let s := { s with lcp := { s.lcp with transfers := s.lcp.transfers ++ [t], nextTransfer := id + 1 } }
      s.answer (mkReply .imageHeader p s (s.unitFor p) 0 stOk [tlv 0x8007 4 id])

/-- IMAGE_ERASE_COMPLETE (R526, R529): a block group of the staged slot is erased; the next one waits for the guard. -/
def execImageEraseComplete (s : State) (held : Nat := 0) (more : Bool := false) : Host.Outcome State Fault Refusal :=
  .next (if s.img.erase.isNone ∨ s.wd.erase ≠ 2 then s
    else if more then (s.eraseEnds held).eraseWanted
    else (s.eraseEnds held).slotErased)

/-! Chunks (R398, R399). -/

/-- The open transfer of a packet. -/
def State.transferOf (s : State) (p : Packet) (image : Bool) : Option Transfer :=
  s.lcp.transfers.find? (fun t => t.image == image && t.id == p.val 0x8007 0)

/-- The checks of a chunk: its transfer, the offset, the announced length. -/
def chunkChk (p : Packet) (image : Bool) (s : State) : Chk :=
  Chk.all [needTlv p 0x8007, needTlv p 0x8008, needTlv p 0x8009,
    match s.transferOf p image with
    | none => param false (p.pos 0x8007)
    | some t =>
      let len := match p.find? 0x8009 with | some x => x.len | none => 0
      if p.val 0x8008 0 ≠ t.got then .bad stBadParam [tlv 0x800A 8 t.got]
      else require (decide (t.got + len ≤ t.total)) stBadLength]

/-- A transfer with the data of a chunk. -/
def Transfer.take (t : Transfer) (p : Packet) : Transfer :=
  let len := match p.find? 0x8009 with | some x => x.len | none => 0
  { t with got := t.got + len, data := t.data + p.val 0x8009 0 * 256 ^ t.got }

/-- Replaces an open transfer. -/
def State.putTransfer (s : State) (t : Transfer) : State :=
  { s with lcp := { s.lcp with transfers := s.lcp.transfers.filter (fun x => x.id != t.id) ++ [{ t with last := s.now }] } }

/-- Closes a transfer. -/
def State.closeTransfer (s : State) (id : Nat) : State :=
  { s with lcp := { s.lcp with transfers := s.lcp.transfers.filter (fun x => x.id != id) } }

/-- IMAGE_CHUNK (R399). -/
def execImageChunk (p : Packet) (s : State) : Host.Outcome State Fault Refusal :=
  .next (served .imageChunk p (fun _ s => chunkChk p true s) (fun _ s =>
    match s.transferOf p true with
    | none => { st := s }
    | some t => { st := s.putTransfer (t.take p) }) s)

/-! IMAGE_COMMIT (R527, R528, R535). -/

/-- The program state record (R437 type 0x0A): generation, pending change, the pair update in progress and its versions. -/
def State.journalProgram (s : State) : State :=
  s.journal 0x0A 0 32 (packBytes ([(4, s.get F.programGen), (1, s.get F.changePending), (1, s.get F.pairUpdate), (2, 0)]
    ++ (List.range 6).map (fun i => (4, s.img.pairRec.getD i 0)))).1 true

/-- The pair-update record (R535, R437 type 0x0A): it stands until both modules run one confirmed release. -/
def State.recordPairUpdate (s : State) (t version : Nat) : State :=
  if s.pair.single then s
  else
    let old := s.img.pairRec ++ List.replicate (6 - s.img.pairRec.length) 0
    let s := (s.onImg (fun i => { i with pairRec := old.set t version })).put F.pairUpdate 1
    s.journalProgram

/-- The pair-update record is cleared (R535). -/
def State.clearPairUpdate (s : State) : State :=
  if s.get F.pairUpdate = 1 ∧ s.awaitingTypes.isEmpty ∧ s.img.partnerConfirmed then
    ((s.onImg (fun i => { i with pairRec := [] })).put F.pairUpdate 0).journalProgram
  else s

/-- The bank a commit names; by default the bank not executing. -/
def bankOf (p : Packet) (s : State) : Nat := p.val 0x0037 (1 - s.get F.bootBank)

/-- IMAGE_COMMIT's checks, but for the digest. A transfer that is not complete has not yet come to its commit (DEDUCED, log
entry 26). -/
def imageCommitBefore (p : Packet) (_ : UnitSel) (s : State) : Chk :=
  Chk.all [needTlv p 0x8007,
    match s.transferOf p true with
    | none => param false (p.pos 0x8007)
    | some t =>
      let ty := hdrBytes t.hdr 5 1
      Chk.all [param (t.got == t.total) (p.pos 0x8007), param (ty == 0 || !p.has 0x0037) (p.pos 0x0037),
        require (!(ty == 0 && bankOf p s == s.get F.bootBank)) stBankSelf,
        need (!(p.val 0x0038 0 == 1 && s.restartRefused)) 8]]

/-- The staged image is valid: its slot, the confirmation rules that stand at the commit (R537), the pair-update record. -/
def State.stageImage (s : State) (t : Transfer) : State :=
  let ty := hdrBytes t.hdr 5 1
  let x : ImgSlot := { state := 1, version := hdrBytes t.hdr 16 4, arb := hdrBytes t.hdr 20 4, length := t.total, data := t.data
                       hdr := t.hdr }
  let s := (s.closeTransfer t.id).writeSlots (fun l => slotPut l ty 1 x)
  let s := s.onImg (fun i => { i with
    confirm := s.get F.confirmMode, period := s.get F.confirmPeriod, deadline := s.get F.confirmDeadlineCfg
    limit := s.get F.startLimit })
  s.recordPairUpdate ty x.version

/-- RESTART_NOW 1 (R527): the module restarts, after a planned switch-over on an ACTIVE with a READY partner (R74). -/
def State.restartNow (s : State) (p : Packet) : State :=
  if p.val 0x0038 0 = 1 ∧ !s.restartRefused then s.moduleRestart 9 else s

/-- IMAGE_COMMIT: recorded, then the staged body is checked against DIGEST; a SUP image is programmed into its bank, and the
reply follows the read-back. -/
def imageCommitBody (p : Packet) (u : UnitSel) (s : State) : State :=
  match s.transferOf p true with
  | none => s
  | some t =>
    let ty := hdrBytes t.hdr 5 1
    let s := s.auditBy p.sess 0x0B (if p.digestOk then 0 else stBadParam) ty
    if !p.digestOk then
      let s := s.closeTransfer t.id
      s.answer (mkReply .imageCommit p s (some u) 0 stBadParam (detail 8))
    else
      let s := s.stageImage t
      if ty = 0 then
        let b := bankOf p s
        (s.onImg (fun i => { i with bankState := i.bankState.set b 3, program := some (p, b) })).eraseWanted
      else (s.answer (mkReply .imageCommit p s (some u) 0 stOk [])).restartNow p

/-- IMAGE_COMMIT (R527). -/
def execImageCommit (p : Packet) (s : State) : Host.Outcome State Fault Refusal :=
  .next (deferred .imageCommit p (imageCommitBefore p) (imageCommitBody p) s)

/-- The image is programmed and read back: the bank header says AWAITING with a BOOT_SEQ one above the other bank's (R528). -/
def State.bankProgrammed (s : State) : State :=
    match s.img.program with
    | none => s
    | some (p, b) =>
      let other := s.img.bankSeq.getD (1 - b) 0
      let h := (s.slot 0 1).hdr
      let s := s.onImg (fun i => { i with
        program := none, bankHdr := i.bankHdr.set b h, bankState := i.bankState.set b 2, bankSeq := i.bankSeq.set b (other + 1) })
      (s.answer (mkReply .imageCommit p s (s.unitFor p) 0 stOk [])).restartNow p

/-- SUP_BANK_PROGRAM_DONE (R528, R529): a sector of the bank is erased and the next waits for the guard, or the last one is and
the body stands. -/
def execSupBankProgramDone (s : State) (held : Nat := 0) (more : Bool := false) : Host.Outcome State Fault Refusal :=
  .next (if s.img.program.isNone ∨ s.wd.erase ≠ 2 then s
    else if more then (s.eraseEnds held).eraseWanted
    else (s.eraseEnds held).bankProgrammed)

/-! Confirmation (R525, R531). -/

/-- Every applicable health check has passed since START, and confirm_period has been spent in RUN (R531). -/
def State.confirmable (s : State) : Bool :=
  (List.range 48).all (fun k => s.get F.hcState k == 3 || s.img.passed.contains k)
    && decide (s.img.period * 4000 ≤ s.img.runBeats)

/-- ImageState and CONFIRM_LEFT follow (R536). -/
def State.showImages (s : State) : State :=
  let wait : Bool := !s.awaitingTypes.isEmpty
  let s := s.putFlag F.imgPending wait
  let s := s.putFlag F.confirmDue (wait && s.img.confirm == 1 && s.confirmable)
  let s := s.put F.bootBank (s.get F.bootBank)
  s.put F.confirmLeft (if wait then s.img.period - s.img.runBeats / 4000 else 0)

/-- An image is confirmed: valid, its SUP bank VALID, ARB_MIN raised; a fallback below ARB_MIN becomes INVALID (R525). -/
def State.confirmType (s : State) (t : Nat) : State :=
  let x := s.slot t 0
  let s := s.writeSlots (fun l => slotPut l t 0 { x with state := 1 })
  let s := if t = 0 then s.onImg (fun i => { i with bankState := i.bankState.set (s.get F.bootBank) 1 }) else s
  let s := s.peak (arbFld t) x.arb
  let f := s.slot t 2
  if f.state = 1 ∧ f.arb < s.get (arbFld t) then s.writeSlots (fun l => slotPut l t 2 { f with state := 3 }) else s

/-- The images of a list of types are confirmed. -/
def State.confirmAll (s : State) (ts : List Nat) : State :=
  let s := ts.foldl (fun (s : State) t => s.confirmType t) s
  let s := if s.awaitingTypes.isEmpty then (s.put F.startsPending 0).onImg (fun i => { i with dueBeats := 0, fallback := false })
    else s
  s.showImages.clearPairUpdate

/-- IMAGE_AUTO_CONFIRM (R531). -/
def execImageAutoConfirm (s : State) : Host.Outcome State Fault Refusal :=
  .next (if !s.awaitingTypes.isEmpty && s.img.confirm == 0 && s.confirmable then s.confirmAll s.awaitingTypes else s)

/-- The types that IMAGE_CONFIRM names: one, or every one that awaits confirmation. -/
def confirmTypes (p : Packet) (s : State) : List Nat :=
  if p.has 0x0035 then s.awaitingTypes.filter (fun t => t == p.val 0x0035 0) else s.awaitingTypes

/-- IMAGE_CONFIRM: recorded, then confirmed. -/
def imageConfirmBody (p : Packet) (_ : UnitSel) (s : State) : Ans :=
  let ts := confirmTypes p s
  let s := ts.foldl (fun (s : State) t => s.auditBy p.sess 0x0B 0 t) s
  { st := s.confirmAll ts }

/-- IMAGE_CONFIRM (R424, R531). -/
def execImageConfirm (p : Packet) (s : State) : Host.Outcome State Fault Refusal :=
  .next (served .imageConfirm p (fun _ s => need (!(confirmTypes p s).isEmpty && s.confirmable) 9) (imageConfirmBody p) s)

/-- IMAGE_REC (R418). -/
def imageRec (s : State) (t k : Nat) : Tlv :=
  let x := s.slot t k
  let left := if x.state = 2 then s.img.period - s.img.runBeats / 4000 else 0
  tlvPacked 0x0036 [(1, t), (1, k), (1, x.state), (1, 0), (4, x.version), (4, x.arb), (4, left), (8, x.length)]

/-- IMAGE_STATUS (R424). -/
def execImageStatus (p : Packet) (s : State) : Host.Outcome State Fault Refusal :=
  .next (served .imageStatus p (fun _ _ => .ok) (fun _ s =>
    { st := s, tlvs := ((if p.has 0x0035 then [p.val 0x0035 0] else List.range 6).map (fun t =>
      [imageRec s t 0, imageRec s t 1, imageRec s t 2])).flatten }) s)

/-! Rejection and fallback (R532, R533). -/

/-- The images that await confirmation are rejected: the module restarts into the fallback by R74, or stays on them with
REJECTED until the next START. -/
def State.rejectImages (s : State) : State :=
  if s.awaitingTypes.isEmpty then s
  else
    let s := s.onImg (fun i => { i with fallback := true })
    if s.restartRefused then s.put F.imgRejected 1
    else if s.canPlan then s.plan 8 2
    else if s.get F.mode = mStart ∨ s.get F.mode = mDormant then s
    else s.enterStart 6

/-- confirm_deadline has passed since R531 was met under HOST (R532). -/
def State.deadlinePast (s : State) : Bool :=
  s.img.confirm == 1 && s.flag F.confirmDue && decide (4000 * s.img.deadline ≤ s.img.dueBeats)

/-- IMAGE_REJECTION (R532): causes 1 health check, 2 Toll step, severity-4 fault or START failing, 3 start count, 4 deadline.
Causes 2 and 3 take the fallback at the resulting START. -/
def execImageRejection (cause : Nat) (s : State) : Host.Outcome State Fault Refusal :=
  .next (if cause = 2 ∨ cause = 3 then s.rejectNext
    else if cause = 1 ∧ (List.range 48).all (fun k => s.get F.hcState k != 2) then s
    else if cause = 4 ∧ !s.deadlinePast then s
    else s.rejectImages)

/-- CONFIRM_DEADLINE (R532): under confirm_mode HOST. -/
def execConfirmDeadline (s : State) : Host.Outcome State Fault Refusal :=
  .next (if s.deadlinePast then s.rejectImages else s)

/-- At an edge: time in RUN, and time since R531 was met under HOST. -/
def State.imagesEdge (s : State) : State :=
  if s.awaitingTypes.isEmpty then s
  else
    let due := s.flag F.confirmDue
    (s.onImg (fun i => { i with
      runBeats := if s.get F.mode = mRun then i.runBeats + 1 else i.runBeats
      dueBeats := if due then i.dueBeats + 1 else i.dueBeats })).showImages

/-! At START (R522, R530, R533). -/

/-- A staged image starts: its copy becomes active and awaits confirmation, the former active becomes the fallback; a copy
that fails discards the staged image. For SUP the AWAITING bank takes the active role. -/
def State.startStaged (s : State) (t : Nat) (copyOk : Bool) : State :=
  let x := s.slot t 1
  if x.state ≠ 1 then s
  else if t = 0 then
    let b := 1 - s.get F.bootBank
    if s.img.bankState.getD b 3 = 2 then
      let s := s.writeSlots (fun l => slotPut (slotPut (slotPut l 0 2 (s.slot 0 0)) 0 0 { x with state := 2 }) 0 1 {})
      (s.put F.bootBank b).put F.fwRelease x.version
    else s
  else if copyOk then
    s.writeSlots (fun l => slotPut (slotPut (slotPut l t 2 (s.slot t 0)) t 0 { x with state := 2 }) t 1 {})
  else s.writeSlots (fun l => slotPut l t 1 {})

/-- The fallback of a type is taken: roles change, the rejected image stays as an INVALID fallback. -/
def State.fallBack (s : State) (t : Nat) : State :=
  let x := s.slot t 0
  let f := s.slot t 2
  if f.state ≠ 1 then s
  else
    let s := s.writeSlots (fun l => slotPut (slotPut l t 0 f) t 2 { x with state := 3 })
    if t = 0 then
      let b := s.get F.bootBank
      ((s.onImg (fun i => { i with bankState := i.bankState.set b 3 })).put F.bootBank (1 - b)).put F.fwRelease f.version
    else s

/-- All images that await confirmation are rejected together at this START (R533). -/
def State.takeFallback (s : State) : State :=
  let s := s.awaitingTypes.foldl (fun (s : State) t => s.fallBack t) s
  let s := (((s.put F.fallbackTaken 1).inc F.fallbackCount).put F.imgRejected 0).put F.startsPending 0
  (s.onImg (fun i => { i with fallback := false, dueBeats := 0 })).showImages

/-- The images' part of a START (S2, S5): the fallback if a rejection waits, or if the start count exceeds start_limit; else
what is staged starts. confirm_period begins again. -/
def State.imagesStart (s : State) (copyOk : Nat) : State :=
  let s := s.onImg (fun i => { i with runBeats := 0, dueBeats := 0, passed := [], erase := none, program := none })
  let s := s.put F.fallbackTaken 0
  if s.awaitingTypes.isEmpty then
    let s := (List.range 6).foldl (fun (s : State) t => s.startStaged t (bitOf copyOk t)) s
    let s := s.onImg (fun i => { i with fallback := false })
    (if s.awaitingTypes.isEmpty then s else s.put F.startsPending 1).showImages
  else
    let n := s.get F.startsPending + 1
    if s.img.fallback ∨ n > s.img.limit then s.takeFallback
    else ((s.put F.startsPending n).onImg (fun i => i)).showImages

end Sys2Proof.Machine
end

