-- ==== Sys2Proof/Machine/Panel.lean ====
section
/-! DEFINITION. The front of the module: RESET, RELEASE and the quiesce, insertion and removal, the display and its touch
keys (R538 to R550). -/

namespace Sys2Proof.Machine

open Sys2Proof

/-- A message overlays the display and lights it (R546): 1 a refusal with its reason, 2 STARTING, 3 RESET HELD AT START,
4 OK TO REMOVE. -/
def State.message (s : State) (m reason : Nat) : State :=
  ({ s with panel := { s.panel with message := m, reason := reason } }).put F.displayOn 1

/-- PANEL_REFUSED: button 1 RESET or 2 RELEASE; reason 1 no READY partner, 2 SOLO in RUN or HOLD (DESIGN CHOICE, log
entry 27). -/
def State.panelRefused (s : State) (button reason : Nat) : State :=
  (s.raise 447 1 1 [(8, button), (8, reason)]).message 1 reason

/-- A panel action waits for the Freeze of the first beat that begins 5 µs or more after it (R538). -/
def State.panelAct (s : State) (act : Nat) : State :=
  { s with panel := { s.panel with acts := s.panel.acts ++ [{ act := act, apply := s.eligible s.beat.off }] } }

/-! RESET (R539 to R541). -/

/-- RESET is stuck, or disabled where it reads closed at S1. -/
def State.stuckReset (s : State) (atStart : Bool) : State :=
  let s := (s.put F.resetState (if atStart then 3 else 2)).inc F.stuckCount
  let s := s.raise 445 1 2 [(32, if atStart then 0 else 10000), (8, if atStart then 1 else 0)]      -- STUCK_RESET
  if atStart then (s.message 3 0).showLeds else s.showLeds

/-- STUCK_RESET (R539, R540). -/
def execStuckReset (atStart : Bool) (s : State) : Host.Outcome State Fault Refusal :=
  .next (if s.pwr.off ∨ s.get F.resetState = 2 ∨ s.get F.resetState = 3 then s else s.stuckReset atStart)

/-- RESET_REARM (R539): open for 1 s. -/
def execResetRearm (s : State) : Host.Outcome State Fault Refusal :=
  .next (if s.get F.resetState = 2 ∨ s.get F.resetState = 3 then (s.put F.resetState 0).showLeds else s)

/-- A short RESET at its apply beat (R541). -/
def State.resetShort (s : State) : State :=
  let r := s.get F.role
  if s.get F.releaseState = 2 then s
  else if r = rActive then (if s.canPlan then s.planAt s.now 3 3 else s.panelRefused 1 1)
  else if r = rSolo then s.restartPair 0
  else if r = rStandby then s.dropSync
  else if r = rShadow then s.stopShadow 5
  else s

/-- A RESET held 2 s to 10 s at its apply beat (R541). In START the sequence begins again at S1 (R68). -/
def State.resetHold (s : State) : State :=
  let r := s.get F.role
  if s.get F.releaseState = 2 then s
  else if r = rActive then (if s.canPlan then s.planAt s.now 3 2 else s.panelRefused 1 1)
  else if r = rSolo ∧ s.get F.mode ≠ mStop then s.panelRefused 1 2
  else if s.get F.mode = mStart then (s.raise 451 1 1 [(8, 1), (8, 5)]).enterStart      -- START_RESTARTED
  else s.enterStart

/-- RESET is let go after `ms` (R539), ignored from the acceptance of a RELEASE to OK TO REMOVE (R541, R572 KL-12): its
action waits for its Freeze; where no beat runs yet it acts at once (DESIGN CHOICE, log entry 27). -/
def State.resetRelease (s : State) (ms : Nat) : State :=
  if s.pwr.off ∨ ms < 50 ∨ s.get F.resetState = 2 ∨ s.get F.resetState = 3 then s
  else if s.get F.releaseState = 2 then (if s.get F.resetState = 1 then s.put F.resetState 0 else s)
  else if ms > 10000 then s.stuckReset false
  else
    let act := if ms < 2000 then 1 else 2
    let s := (s.put F.resetState 0).inc F.resetCount
    let s := s.raise 444 1 1 [(32, ms), (8, act)]                                  -- RESET_ACTION
    if s.beat.runs then s.panelAct act else if act = 1 then s.resetShort else s.resetHold

/-- RESET_RELEASE. -/
def execResetRelease (ms : Nat) (s : State) : Host.Outcome State Fault Refusal := .next (s.resetRelease ms)

/-! RELEASE and the quiesce (R542, R543). -/

/-- Steps 1 to 4 of the quiesce: out of service, sessions ended as by a switch-over, the Journal committed and, on a module
that drove outputs, Retain flushed; its lines fall silent. -/
def State.quiesce (s : State) : State :=
  let drove := s.serving || s.panel.quiesceAfter != 0
  let s := if s.get F.role = rShadow then s.stopShadow 5 else s
  let s := s.dropCycles.canDropAll
  let s := { s with
    rt := { s.rt with stepClass := none, stepRuns := false }
    pair := { s.pair with handover := none, handing := false }
    panel := { s.panel with quiesceAfter := 0 } }
  let s := s.setMode (if s.get F.mode = mSafe then mSafe else mStop) rNone 0 (s.get F.safeCause) 5
  let s := s.lcp.sessions.foldl (fun (s : State) x => if x.held then s else s.holdSession x.id 4) s
  let s := (match s.rt.mirror with | some m => s.storeMirror m | none => s).flushJournal
  let s := if drove then s.retainFlush else s
  ((s.put F.releaseState 2).canShow).showLeds

/-- RELEASE is accepted: RELEASE_ACTION and its count. -/
def State.releaseAccepted (s : State) (forced : Bool) : State :=
  ((s.inc F.releaseCount).put F.releaseState 2).raise 446 1 1 [(8, if forced then 1 else 0)]

/-- A quiesce waits for its Freeze, or begins at once where no beat runs. -/
def State.quiesceSoon (s : State) (forced : Bool) : State :=
  let s := s.releaseAccepted forced
  if s.beat.runs then s.panelAct (if forced then 4 else 3) else s.quiesce

/-- RELEASE by the table of R542; `forced` is the press held 5 s with the key at STOP. -/
def State.releaseAct (s : State) (forced : Bool) : State :=
  let m := s.get F.mode
  let r := s.get F.role
  if m = mDormant ∨ s.get F.pwr = 2 then s.dormantWake 2
  else if s.pwr.off ∨ s.get F.releaseState = 2 then s
  else
    let s := s.put F.releaseState (if s.get F.releaseState = 1 then 0 else s.get F.releaseState)
    if m = mStart then (if forced then s else s.message 2 0)
    else if s.get F.releaseState = 3 then s.enterStart
    else if r = rActive ∧ s.canPlan then
      let s := s.releaseAccepted false
      let s := s.planAt (s.eligible s.beat.off) 2 1
      { s with panel := { s.panel with quiesceAfter := 1 } }
    else if r = rActive ∨ (r = rSolo ∧ m ≠ mStop) then
      if forced then s.quiesceSoon true else s.panelRefused 2 (if r = rActive then 1 else 2)
    else s.quiesceSoon false

/-- RELEASE_PRESS (R542): let go after `ms`; a press held 5 s with the key at STOP has acted already. -/
def execReleasePress (ms : Nat) (s : State) : Host.Outcome State Fault Refusal :=
  .next (
    if ms < 50 then s
    else if 5000 ≤ ms ∧ s.get F.key = 2 then (if s.get F.releaseState = 1 then s.put F.releaseState 0 else s)
    else s.releaseAct false)

/-- RELEASE_HOLD (R542): 5 s with the key at STOP. -/
def execReleaseHold (s : State) : Host.Outcome State Fault Refusal :=
  .next (if s.get F.key = 2 then s.releaseAct true else s)

/-- OK_TO_REMOVE (R543 step 5). -/
def execOkToRemove (s : State) : Host.Outcome State Fault Refusal :=
  .next (if s.get F.releaseState = 2 ∧ s.quiet then
      (((s.put F.releaseState 3).raise 448 1 0 [(32, s.now)]).message 4 0).showLeds
    else s)

/-- A panel action in its Freeze. -/
def State.panelApply (s : State) (act : Nat) : State :=
  match act with
  | 1 => s.resetShort
  | 2 => s.resetHold
  | 3 => s.quiesce
  | 4 => s.quiesce
  | 5 => s.keyAway true
  | 6 => s.keyAway false
  | _ => s

/-- The panel actions due in the Freeze of the current beat. -/
def State.panelFreeze (s : State) : State :=
  let due := s.panel.acts.filter (fun a => decide (a.apply ≤ s.now))
  let s := { s with panel := { s.panel with acts := s.panel.acts.filter (fun a => !decide (a.apply ≤ s.now)) } }
  due.foldl (fun (s : State) a => s.panelApply a.act) s

/-- BUTTON_CLOSURE (R538): a debounced closure; a stuck or disabled RESET ignores it. -/
def execButtonClosure (release : Bool) (s : State) : Host.Outcome State Fault Refusal :=
  let f := if release then F.releaseState else F.resetState
  .next (if s.get f = 0 ∧ !s.pwr.off then s.put f 1 else s)

/-! Insertion and removal (R544, R545). -/

/-- MODULE_INSERT: with a feed present and the slot contact closed an unpowered module starts at S1. -/
def execModuleInsert (slotClosed : Bool) (s : State) : Host.Outcome State Fault Refusal :=
  .next (if s.pwr.off ∧ slotClosed ∧ (s.get F.feedA = 1 ∨ s.get F.feedB = 1) then
      (s.powerUp (if s.pwr.latch.crash then 0x06 else 0x01)).put F.releaseState 0
    else s)

/-- MODULE_REMOVE: the pair link and the claim contact go first, then the feeds; the power-down sequence runs on the hold-up
bank, and its safe frames reach no board. -/
def execModuleRemove (s : State) : Host.Outcome State Fault Refusal :=
  let s := ((s.put F.linkUp 0).put F.claim 0).put F.driveEn 0
  let s := (s.put F.feedA 0).put F.feedB 0
  let s := s.powerdown none
  let s := s.onPwr (fun p => { p with off := true })
  .next { s with lanes := { s.lanes with down := [] }, panel := { s.panel with message := 0, reason := 0 } }

/-! Display and touch keys (R546). -/

/-- A touch lights the display. -/
def State.touched (s : State) : State := s.put F.displayOn 1

/-- TOUCH_PAGE: the next of the seven pages. -/
def execTouchPage (s : State) : Host.Outcome State Fault Refusal :=
  .next (if s.pwr.off then s
    else { s.touched.put F.page ((s.get F.page + 1) % 7) with panel := { s.panel with scroll := 0 } })

/-- TOUCH_SELECT: scrolls within the page. -/
def execTouchSelect (s : State) : Host.Outcome State Fault Refusal :=
  .next (if s.pwr.off then s else { s.touched with panel := { s.panel with scroll := s.panel.scroll + 1 } })

/-- TOUCH_BACK: the page STATUS. -/
def execTouchBack (s : State) : Host.Outcome State Fault Refusal :=
  .next (if s.pwr.off then s else { s.touched.put F.page 0 with panel := { s.panel with scroll := 0 } })

/-- The newest event not yet seen is marked. -/
def markSeen : List (Nat × Bool) → List (Nat × Bool)
  | [] => []
  | (n, b) :: t => if b then (n, b) :: markSeen t else (n, true) :: t

/-- TOUCH_ACK: marks the newest unacknowledged event as seen; the FAULT LED follows. -/
def execTouchAck (s : State) : Host.Outcome State Fault Refusal :=
  .next (if s.pwr.off then s
    else ({ s.touched with panel := { s.panel with events := markSeen s.panel.events } }).showLeds)

/-- DISPLAY_TIMEOUT: dark after display_timeout without a touch; a standing message keeps it lit (DEDUCED, log entry 27). -/
def execDisplayTimeout (s : State) : Host.Outcome State Fault Refusal :=
  .next (if s.panel.message = 0 then s.put F.displayOn 0 else s)

/-- PANEL_MESSAGE_TIMEOUT: the display returns to its page; OK TO REMOVE stands until the module is removed. -/
def execPanelMessageTimeout (s : State) : Host.Outcome State Fault Refusal :=
  .next (if s.panel.message = 4 then s else { s with panel := { s.panel with message := 0, reason := 0 } })

end Sys2Proof.Machine
end

