-- ==== Sys2Proof/Machine/Triad.lean ====
section
/-! DEFINITION. The triad: the voter's findings, isolation and resync, retirement, faults of a SPLIT cluster, the surge clock
(R180 to R199). -/

namespace Sys2Proof.Machine

open Sys2Proof

/-! Resync attempts (R188). -/

/-- The attempts of cluster `c` that started in the last 24 h. -/
def State.attemptsOf (s : State) (c : Nat) : List (Nat × Nat) :=
  s.triad.attempts.filter (fun a => a.1 == c && decide (s.beat.opBeats < a.2 + 345600000))

/-- RESYNC_COUNT_X, Y and Z follow the attempts (R197). -/
def State.showAttempts (s : State) : State :=
  (List.range 3).foldl (fun (s : State) c => s.put (F.resyncCountX.next c) (s.attemptsOf c).length) s

/-- Cluster `c` is retired (R188, R189): recorded in the Journal, its health check no longer applies, and an ACTIVE hands
over to a READY, VOTED partner where dual_switchover says so. -/
def State.retireCluster (s : State) (c : Nat) : State :=
  let s := (s.put F.retired (setBit (s.get F.retired) c true)).raise 334 1 3 [(8, c)]     -- CLUSTER_RETIRED
  let s := (s.journal 0x0B c 1 1 false).put F.hcState 3 c
  if s.get F.dualSwitchover = 1 ∧ s.pair.partnerTriad = 0 then s.plan 6 0 else s

/-- Cluster `c` is isolated (R184): DUAL. Its memory stays as it is from here on (R180). It is resynchronised from the next
edge, or retired after three attempts. -/
def State.isolate (s : State) (c : Nat) : State :=
  let s := (s.put F.triad 1).put F.isolated (setBit (s.get F.isolated) c true)
  let s := { s with triad := { s.triad with oddMem := s.mem } }
  if 3 ≤ (s.attemptsOf c).length then s.retireCluster c
  else { s with triad := { s.triad with startsNext := some c } }

/-- The triad runs: the clusters are out of reset. -/
def State.triadRuns (s : State) : Bool := !s.pwr.off && s.get F.mode != mDormant

/-- A mismatch is counted (R197): fatal ones as well (DESIGN CHOICE, log entry 31). -/
def State.countMismatch (s : State) : State := (s.inc F.mismatchTotal).put F.lastMismatchBeat s.now

/-- What the voter compares of a cluster's transaction (R181): every field, and its presence. More than 16 interconnect cycles
after the first, it counts as absent (R182). -/
def votable (t : Option Txn) : Option Txn :=
  match t with
  | some t => if 16 < t.late then none else some { t with late := 0 }
  | none => none

/-- The majority of X, Y and Z with the odd cluster, 3 where all agree; none where all three differ (R182). -/
def majority (x y z : Option Txn) : Option (Nat × Option Txn) :=
  if x = y ∧ y = z then some (3, x)
  else if y = z then some (0, y)
  else if x = z then some (1, x)
  else if x = y then some (2, x)
  else none

/-- Cluster `c` takes part in the voting: it is neither held in reset nor retired (R184). -/
def State.votes (s : State) (c : Nat) : Bool := !bitOf (s.get F.isolated) c && !bitOf (s.get F.retired) c

/-- The transactions of the clusters that vote. -/
def State.voters (s : State) (x y z : Option Txn) : List (Option Txn) :=
  (if s.votes 0 then [votable x] else []) ++ (if s.votes 1 then [votable y] else []) ++ (if s.votes 2 then [votable z] else [])

/-- The transaction that leaves the triad. -/
def State.passTxn (s : State) (t : Option Txn) : State := { s with triad := { s.triad with passed := t } }

/-- The voter in the cycle at offset `off` in 5 ns (R182). TRIAD_MISMATCH names the odd cluster and the type of its transaction,
of the majority's where it issued none. In SPLIT the transactions pass unvoted (R190), each within its own cluster. -/
def State.vote (s : State) (x y z : Option Txn) (off : Nat) : State :=
  let t := s.get F.triad
  if !s.triadRuns ∨ t = 2 then s
  else if t = 0 then
    match majority (votable x) (votable y) (votable z) with
    | none => (s.passTxn none).countMismatch.raise 336 1 4 [(32, s.now), (16, off)]         -- TRIAD_NO_MAJORITY
    | some (c, m) =>
      let s := s.passTxn m
      if c = 3 then s
      else
        let own := if c = 0 then x else if c = 1 then y else z
        let kind := match own with
          | some t => t.kind
          | none => match m with
            | some t => t.kind
            | none => 0
        (s.countMismatch.raise 330 1 2 [(8, c), (32, s.now), (16, off), (32, kind)]).isolate c   -- TRIAD_MISMATCH
  else
    match s.voters x y z with
    | [a, b] =>
      if a = b then s.passTxn a
      else (s.passTxn none).countMismatch.raise 335 1 4 [(32, s.now), (16, off)]            -- TRIAD_DUAL_MISMATCH
    | _ => s

/-- TRIAD_MISMATCH: a cycle of the voter (R181, R182). A disagreement that the self-test injects is flagged and counts for
nothing (R183). -/
def execTriadMismatch (x y z : Option Txn) (s : State) (off : Nat := 0) (injected : Bool := false) :
    Host.Outcome State Fault Refusal :=
  .next (if injected then s else s.vote x y z off)

/-! Resync (R185, R186). -/

/-- The residual at which a resync has converged. -/
abbrev convergedBytes : Nat := 786432

/-- An attempt of cluster `c` starts: phase 1 copies the source's footprint and code, and every line that the triad writes from
here on is marked. -/
def State.startResync (s : State) (c : Nat) : State :=
  let keep := s.triad.attempts.filter (fun a => decide (s.beat.opBeats < a.2 + 345600000))
  let s := { s with triad := { s.triad with
    attempts := keep ++ [(c, s.beat.opBeats)], started := s.now, passes := 0, converged := false, startsNext := none, dirty := []
    waiting := s.triad.waiting.filter (fun w => w != c) } }
  let s := ((s.showAttempts).put F.resyncPhase 1).put F.resyncTarget c
  let s := s.journal 0x0B c 8 (s.attemptsOf c).length false
  s.raise 331 1 1 [(8, c), (32, (s.attemptsOf c).length)]                                 -- RESYNC_START

/-- The residual: the lines marked since the last copy began, in bytes (R185). -/
def State.residual (s : State) : Nat := 64 * s.triad.dirty.length

/-- A copy is whole in the odd cluster's memory. The source is the lower-lettered healthy cluster; both healthy clusters hold
the memory that they agree on. The bitmap begins anew for the lines marked during the pass that follows (R185). -/
def State.copied (s : State) : State := { s with triad := { s.triad with oddMem := s.mem, dirty := [] } }

/-- A resync that has started goes on: it ends with the beat, with DUAL, and in the modes that abandon it (R187). -/
def State.resyncGoes (s : State) : Bool :=
  s.triadRuns && s.get F.triad == 1 && s.get F.mode != mSafe && s.beat.runs

/-- The resync of cluster `c` goes on. -/
def State.resyncOf (s : State) (c : Fin 3) : Bool := s.resyncGoes && s.get F.resyncTarget == c.val

/-- A resync can run: the beat runs, the module is DUAL, none runs, and the mode is not one that abandons it (R187). -/
def State.canResync (s : State) : Bool :=
  s.resyncGoes && s.get F.resyncPhase == 0

/-- RESYNC_START: the first edge after isolation. -/
def execResyncStart (s : State) : Host.Outcome State Fault Refusal :=
  .next (match s.triad.startsNext with
    | some c => if s.canResync then s.startResync c else s
    | none => s)

/-- A resync ends with RESYNC_FAILED; the next attempt waits. -/
def State.resyncFails (s : State) : State :=
  let c := s.get F.resyncTarget
  let r := s.residual
  let s := { s with triad := { s.triad with waiting := s.triad.waiting ++ [c], converged := false } }
  ((s.put F.resyncPhase 0).put F.resyncTarget 3).raise 333 1 2 [(8, c), (32, r)]          -- RESYNC_FAILED

/-- Convergence is judged at the end of a pass: at most 6 converge passes, each copying the lines marked during the one
before. A residual that has converged waits for phase 3. -/
def State.judgePass (s : State) : State :=
  if s.residual ≤ convergedBytes then { s with triad := { s.triad with converged := true } }
  else if 6 ≤ s.triad.passes then s.resyncFails
  else { s.copied with triad := { s.copied.triad with converged := false } }

/-- RESYNC_PASS_DONE: the copy of phase 1, or a converge pass, ends. -/
def execResyncPassDone (cluster : Fin 3) (s : State) : Host.Outcome State Fault Refusal :=
  .next (
    if !s.resyncOf cluster then s
    else if s.get F.resyncPhase = 1 then (s.put F.resyncPhase 2).judgePass
    else if s.get F.resyncPhase = 2 ∧ !s.triad.converged then
      { s with triad := { s.triad with passes := s.triad.passes + 1 } }.judgePass
    else s)

/-- RESYNC_FINAL: at 214 µs phase 3 starts and copies the residual, or a further pass is needed. -/
def execResyncFinal (cluster : Fin 3) (s : State) : Host.Outcome State Fault Refusal :=
  .next (if s.resyncOf cluster ∧ s.get F.resyncPhase = 2 ∧ s.triad.converged then
      if s.residual ≤ convergedBytes then s.copied.put F.resyncPhase 3 else s.judgePass
    else s)

/-- Phase 4: from the end of phase 3 the cluster waits for the edge at which it leaves reset (R185). -/
def State.rejoins (s : State) : State := if s.get F.resyncPhase = 3 then s.put F.resyncPhase 4 else s

/-- RESYNC_DONE: at the next edge the cluster leaves reset with the state of the healthy ones, and the triad is VOTED. The
duration counts from the edge at which the attempt started (R197). -/
def execResyncDone (cluster : Fin 3) (s : State) : Host.Outcome State Fault Refusal :=
  .next (if s.resyncOf cluster ∧ s.get F.resyncPhase = 4 then
      let c := s.get F.resyncTarget
      let us := 250 * (s.now - s.triad.started)
      let s := ((s.put F.resyncPhase 0).put F.resyncTarget 3).put F.isolated (setBit (s.get F.isolated) c false)
      let s := (s.put F.triad 0).put F.lastResyncTime us
      { s with triad := { s.triad with converged := false, oddMem := [], dirty := [] } }.raise 332 1 0
        [(8, c), (32, us)]                                                                -- RESYNC_DONE
    else s)

/-- RESYNC_RETRY (R186): 10 s after a failure, or once the oldest of three attempts is 24 h old. -/
def execResyncRetry (cluster : Fin 3) (s : State) : Host.Outcome State Fault Refusal :=
  .next (if s.triad.waiting.contains cluster.val ∧ s.canResync ∧ (s.attemptsOf cluster).length < 3 then
      s.startResync cluster
    else s)

/-! SPLIT (R192). -/

/-- SPLIT_CLUSTER_FAULT: a fault of Y or Z restarts that program; one of X is of severity 4 and restarts the module. -/
def execSplitClusterFault (cluster : Fin 3) (cause : Nat) (s : State) : Host.Outcome State Fault Refusal :=
  .next (if s.get F.triad ≠ 2 ∨ !s.triadRuns then s
    else if cluster.val = 0 then s.raise 330 1 4 [(8, 0), (32, s.now), (16, s.beat.off), (32, cause)]
    else s.onCluster cluster (fun s => s.splitFault cluster cause))

/-! The surge clock (R193 to R195). -/

/-- Under AUTO the runtime requests surge: some class used more than surge_threshold percent of its slice in the beat. -/
def State.surgeLoad (s : State) : Bool :=
  (List.range 5).any (fun c => decide (s.get (F.sliceT0.next c) * s.get F.surgeThreshold < 10 * s.beat.used.getD c 0))

/-- A request stands: the program's (refused under OFF), or the runtime's under AUTO. -/
def State.surgeAsked (s : State) (request : Bool) : Bool :=
  if s.get F.surgePolicy = 2 then s.surgeLoad else request

/-- The first failing condition of R194, in the codes of SURGE_BLOCK; 0 where every one holds. -/
def State.surgeRefusal (s : State) (temp : Int) : Nat :=
  if s.get F.surgePolicy = 0 then 1
  else if 950 ≤ temp then 2
  else if s.triad.surgeEver ∧ s.beat.opBeats < s.triad.surgeEnd + 120000 then 3
  else if s.get F.dbg = 1 then 4
  else if s.get F.triad = 1 ∨ s.get F.resyncPhase ≠ 0 then 5
  else 0

/-- The cause that ends a surge: 1 its 2 s, 2 withdrawal, 3 temperature, 4 DUAL, 5 OBSERVE (DESIGN CHOICE, log entry 31);
0 none. -/
def State.surgeEnds (s : State) (temp : Int) (asked : Bool) : Nat :=
  if 8000 ≤ s.triad.surgeBeats then 1
  else if !asked then 2
  else if 950 ≤ temp then 3
  else if s.get F.triad = 1 then 4
  else if s.get F.dbg = 1 then 5
  else 0

/-- A register write that takes effect at the next edge. -/
def State.atEdge (s : State) (f : Fld) (v : Nat) (k : Nat := 0) : State :=
  { s with beat := { s.beat with edgePend := s.beat.edgePend ++ [(fldKey f k, v)] } }

/-- The core clock at 245 µs: the sensors' highest reading `temp`, and the program's SURGE_REQUEST. -/
def State.surgeStep (s : State) (temp : Int) (request : Bool) : State :=
  let asked := s.surgeAsked request
  if s.get F.surge = 1 then
    let n := s.triad.surgeBeats + 1
    let s := { s with triad := { s.triad with surgeBeats := n } }
    let s := s.put F.surgeLeft (2000 - n / 4)
    let c := s.surgeEnds temp asked
    if c = 0 then s
    else
      let s := { s with triad := { s.triad with surgeEnd := s.beat.opBeats, surgeEver := true, surgeBeats := 0 } }
      (((s.atEdge F.surge 0).put F.surgeLeft 2000).put F.cooldownLeft 30000).raise 339 1 0 [(8, c)]   -- SURGE_ENDED
  else
    let s := s.put F.cooldownLeft
      (if s.triad.surgeEver then 30000 - (s.beat.opBeats - s.triad.surgeEnd) / 4 else 0)
    if !asked then s.put F.surgeBlock 0
    else
      let r := s.surgeRefusal temp
      let s := s.put F.surgeBlock r
      if r = 0 then
        ({ s with triad := { s.triad with surgeBeats := 0 } }.atEdge F.surge 1).raise 338 1 0 [(32, s.now + 1)]   -- SURGE_GRANTED
      else
        let due : Bool := match s.triad.lastRefused with
          | some t => decide (t + 4000 ≤ s.beat.opBeats)
          | none => true
        if due then
          { s with triad := { s.triad with lastRefused := some s.beat.opBeats } }.raise 340 1 0 [(8, r)]   -- SURGE_REFUSED
        else s

/-- CLUSTER_TRIM_EXIT (R41, R195): at 245 µs the clusters leave TRIM, their sensors are read, and the core clock may change.
Phase 3 of a resync is over by then. -/
def execClusterTrimExit (tX tY tZ : Int) (request : Bool) (s : State) : Host.Outcome State Fault Refusal :=
  .next (if s.pwr.off ∨ !s.beat.runs then s
    else
      let temp := max tX (max tY tZ)
      (((s.trimExit 0).put F.tempMax (ofSigned 16 temp)).surgeStep temp request).rejoins)

end Sys2Proof.Machine
end

