-- ==== Sys2Proof/Machine/Pair.lean ====
section
/-! DEFINITION. The pair: health checks and READY, heartbeats, the pair link, tracking and synchronisation, the claim line,
unplanned and planned switch-over (R138 to R165, R174 to R179). -/

namespace Sys2Proof.Machine

open Sys2Proof

/-! Health checks (R145, R146, R177). -/

/-- Lane controller `c` serves a lane: one of its eight lanes is configured, and controllers 6 to 11 are fitted (R24, R145). -/
def State.controllerUsed (s : State) (c : Nat) : Bool :=
  (c < 6 || s.lanes.tall) && (List.range 8).any (fun i => s.get F.laneMode (8 * c + i) != 0)

/-- Check `k` tests hardware that is fitted and configured (R145). -/
def State.checkApplies (s : State) (k : Nat) : Bool :=
  !bitOf s.pair.naMask k &&
    (if k < 3 then !bitOf (s.get F.retired) k
     else if k ≤ 4 then s.get F.triad != 2
     else if k ≤ 16 then s.controllerUsed (k - 5)
     else if k ≤ 18 then !s.pair.single && s.get F.triad != 2
     else if k = 24 then (List.range 4).any (fun c => s.get F.aoMode c != 0)
     else if k = 25 then (List.range 4).any (fun c => s.get F.encMode c != 0)
     else if k = 26 ∨ k = 27 then (List.range 8).any (fun c => s.get F.faEnable c == 1)
     else if k = 30 ∨ k = 31 then (List.range 4).any (fun c => s.get F.canMode (4 * (k - 30) + c) != 0)
     else true)

/-- A check that does not apply is NOT_APPLICABLE; one that comes to apply is DUE (R145). -/
def State.showApplicable (s : State) : State :=
  (List.range 48).foldl (fun (s : State) k =>
    if !s.checkApplies k then s.put F.hcState 3 k
    else if s.get F.hcState k = 3 then s.put F.hcState 1 k else s) s

/-- Every applicable check stands within its interval. -/
def State.checksStand (s : State) : Bool :=
  (List.range 48).all (fun k => s.get F.hcState k == 0 || s.get F.hcState k == 3)

/-- The first check that does not stand, 0xFF where all do. -/
def State.firstOpen (s : State) : Nat :=
  match (List.range 48).find? (fun k => s.get F.hcState k == 1 || s.get F.hcState k == 2) with
  | some k => k
  | none => 0xFF

/-- A STANDBY with current state is READY while every check stands, else CHECKING (R144). -/
def State.judgeReady (s : State) : State :=
  if s.get F.role ≠ rStandby ∨ !s.pair.current then s
  else
    let ok := s.checksStand
    let was := s.get F.ready
    let s := s.put F.pairState (if ok then 4 else 3)
    let s := s.setMode (s.get F.mode) rStandby (if ok then 1 else 0) (s.get F.safeCause) 0
    if ok ∧ was = 0 then s.raise 346 1 0 [] else s                                       -- STANDBY_READY

/-- A HEALTH_REC (R418). -/
def State.healthRec (s : State) (k : Nat) : Tlv :=
  tlvPacked 0x002A [(1, k), (1, s.get F.hcState k), (2, 0), (4, s.get F.hcFailCount k), (8, s.get F.hcLastPass k)]

/-- A check of a running SELFTEST has run; with the last of them the reply leaves (R425). `tests` is the mask still to run. -/
def State.selftestRan (s : State) (k : Nat) : State :=
  match s.pwr.selftest with
  | none => s
  | some p =>
    let left := setBit s.pwr.tests k false
    if left ≠ 0 then s.onPwr (fun w => { w with tests := left })
    else
      let s := s.onPwr (fun w => { w with tests := 0, selftest := none })
      let ks := (List.range 48).filter (fun i => bitOf (p.val 0x0045 0) i)
      s.answer (mkReply .selftest p s (s.unitFor p) 0 stOk (ks.map s.healthRec))

/-- HEALTH_CHECK_PASS: the beat of the pass; check 43 measures the bank's capacitance (R502), at least 470 µF. -/
def State.healthPass (s : State) (k : Nat) : State :=
  if s.get F.hcState k = 3 then s.selftestRan k
  else
    let s := (s.put F.hcLastPass s.now k).put F.hcState 0 k
    let s := s.onImg (fun i => { i with passed := if i.passed.contains k then i.passed else i.passed ++ [k] })
    let s : State := if k = 43 then
        let (v, s) := s.fresh 15
        (s.put F.bankCap (470 + v)).showBank
      else s
    (s.selftestRan k).judgeReady

/-- HEALTH_CHECK_PASS (R145). -/
def execHealthCheckPass (k : Fin 48) (s : State) : Host.Outcome State Fault Refusal := .next (s.healthPass k)

/-- HEALTH_CHECK_DUE (R177): the check has not passed within its interval. -/
def execHealthCheckDue (k : Fin 48) (s : State) : Host.Outcome State Fault Refusal :=
  .next (if s.get F.hcState k = 0 then (s.put F.hcState 1 k).judgeReady else s)

/-- What the failed check tested has a fault: 27 the lanes of the filter chain by their coefficient CRC (R297), 30 and 31 the
four CAN controllers by their loopback (R344). A check does not tell which of them it found: all that are in use have the fault
(DESIGN CHOICE, log entry 23). -/
def State.checkedFault (s : State) (k : Nat) : State :=
  if k = 27 then (List.range 8).foldl (fun (s : State) i => s.faFault i 4) s
  else if k = 30 then (List.range 4).foldl (fun (s : State) i => s.canFaults i 2) s
  else if k = 31 then (List.range 4).foldl (fun (s : State) i => s.canFaults (4 + i) 2) s
  else s

/-- A failed check (R146): READY falls on a STANDBY, an ACTIVE hands over where switchover_on_health says so. Check 35
leads to SAFE (R78); images that await confirmation are rejected (R532). -/
def State.healthFailed (s : State) (k : Nat) : State :=
  if s.get F.hcState k = 3 then s.selftestRan k
  else
    let s := s.healthFails k
    let s : State := if k = 43 then
        let (v, s) := s.fresh 16
        let s := (s.put F.bankCap (v % 470)).showBank
        s.raise 362 1 2 [(16, s.get F.bankV), (16, s.get F.bankCap)]                      -- HOLDUP_LOW
      else s
    let s := if k = 35 then s.cause (.safe 9) 1 else s
    let s := s.checkedFault k
    let s := if s.get F.role = rActive ∧ k = 32 then s.plan 7 0                           -- the Ethernet switch (R15)
      else if s.get F.role = rActive ∧ s.get F.switchoverOnHealth = 1 then s.plan 5 0 else s
    ((s.rejectImages).selftestRan k).judgeReady

/-- HEALTH_CHECK_FAILED (R146). -/
def execHealthCheckFailed (k : Fin 48) (s : State) : Host.Outcome State Fault Refusal := .next (s.healthFailed k)

/-- FEED_CHANGE (R500): state and voltage; severity 2 where one feed alone stays good; a surge is named. Health check 44
fails while a feed is neither PRESENT nor LOW. -/
def State.feedChange (s : State) (b : Bool) (n centivolts : Nat) : State :=
  let f := if b then F.feedB else F.feedA
  let old := s.get f
  let s := (s.put f n).put (if b then F.feedBV else F.feedAV) centivolts
  if old = n ∨ s.pwr.off ∨ s.get F.mode = mDormant then s
  else
    let one : Bool := feedGood (s.get F.feedA) != feedGood (s.get F.feedB)
    let id := if b then 1 else 0
    let s := s.raise 358 1 (if one then 2 else 1) [(8, id), (2, old), (2, n)]
    let s := if n = 3 then s.raise 359 1 1 [(8, id), (32, toF32 ((centivolts : Rat) / 100))] else s      -- FEED_SURGE
    if feedGood (s.get F.feedA) && feedGood (s.get F.feedB) then s
    else if s.get F.hcState 44 = 2 then s else s.healthFailed 44

/-- FEED_CHANGE (R500). -/
def execFeedChange (b : Bool) (state : Fin 4) (centivolts : Nat) (s : State) : Host.Outcome State Fault Refusal :=
  .next (s.feedChange b state centivolts)

/-- WD_MONITOR_CLOCK (R459): the monitoring clock stops; nothing expires, health check 42 fails. -/
def execWdMonitorClock (s : State) : Host.Outcome State Fault Refusal :=
  let s := (s.put F.monitorOk 0).raiseLatched 397 1 2 [(8, 1 - s.get F.wdClockNow)]
  .next (s.healthFailed 42)

/-- HEALTH_REPORT (R422). -/
def execHealthReport (p : Packet) (s : State) : Host.Outcome State Fault Refusal :=
  .next (served .healthReport p (fun _ _ => .ok)
    (fun _ s => { st := s, tlvs := packObj s 0x0012 0 0 :: (List.range 48).map s.healthRec }) s)

/-- SELFTEST starts the requested checks; 0 to 2, 39 and 40 are reported DUE and end in the background. -/
def State.selftest (s : State) (p : Packet) : State :=
  let mask := p.val 0x0045 0
  let ks := (List.range 48).filter (fun k => bitOf mask k)
  let slow := fun (k : Nat) => decide (k ≤ 2) || k == 39 || k == 40
  let s := (ks.filter (fun k => slow k && s.get F.hcState k != 3)).foldl (fun (s : State) k => s.put F.hcState 1 k) s
  let s := s.judgeReady
  let left := (ks.filter (fun k => !slow k && s.get F.hcState k != 3)).foldl (fun a k => a + 2 ^ k) 0
  if left = 0 then s.answer (mkReply .selftest p s (s.unitFor p) 0 stOk (ks.map s.healthRec))
  else s.onPwr (fun w => { w with selftest := some p, tests := left })

/-- SELFTEST (R425): replied to when every check has run. -/
def execSelftest (p : Packet) (s : State) : Host.Outcome State Fault Refusal :=
  .next (deferred .selftest p
    (fun _ s => Chk.all [needTlv p 0x0045, require s.pwr.selftest.isNone stBusy]) (fun _ s => s.selftest p) s)

/-! The pair link and heartbeats (R139, R140, R147, R148, R157). -/

/-- PAIR_LINK_UP: the link trains; the side that held the claim stays ACTIVE, a STANDBY that had lost the link
synchronises anew. In SPLIT the engine is disabled (R22). -/
def State.pairLinkUp (s : State) (lanes : Nat) : State :=
  let l := lanes % 4
  if s.pwr.off ∨ s.get F.mode = mDormant ∨ l = 0 ∨ s.get F.linkUp = l ∨ s.get F.triad = 2 then s
  else
    let s := (s.put F.linkUp l).raise 349 1 0 [(32, l)]
    let lost := s.pair.linkLost
    let s := { s with pair := { s.pair with linkLost := false, decided := none } }
    let s := if s.get F.pairState = 6 then s.put F.pairState 0 else s
    if lost then s.dropSync.showLeds else s.showLeds

/-- PAIR_LINK_UP (R157). -/
def execPairLinkUp (lanes : Nat) (s : State) : Host.Outcome State Fault Refusal := .next (s.pairLinkUp lanes)

/-- PAIR_LINK_DEGRADED (R139): one lane fails; the event is raised while the other carries the link. -/
def execPairLinkDegraded (lane : Fin 2) (s : State) : Host.Outcome State Fault Refusal :=
  .next (if !bitOf (s.get F.linkUp) lane then s
    else
      let s := s.put F.linkUp (setBit (s.get F.linkUp) lane false)
      let s := if s.get F.linkUp = 0 then s else s.raise 353 1 2 [(8, lane.val)]
      s.showLeds)

/-- The tracking limit of a beat in bytes of line data (R138, R139). -/
def State.trackLimit (s : State) : Nat := if s.get F.linkUp = 3 then 1048576 else 393216

/-- A heartbeat (R140): sent while triad and Supervisor live, or a due instant passes without one (R148). -/
def State.heartbeatSend (s : State) (triadLive supLive : Bool) : State :=
  if s.pwr.off ∨ s.get F.mode = mDormant ∨ s.quiet ∨ s.get F.triad = 2 then s
  else if s.get F.linkUp = 0 ∨ !triadLive ∨ !supLive ∨ s.wd.hbStopped ∨ s.lcp.mute then
    { s with pair := { s.pair with ownStop := s.pair.ownStop + 1 } }
  else
    let h : Heartbeat := {
      beat := s.now, mode := s.get F.mode, role := s.get F.role, epoch := s.get F.epoch, triad := s.get F.triad
      lanes := s.laneHealth, lossOfLink := s.laneLoss, lastBeat := s.get F.lastClosed
      handover := s.pair.handing || s.pair.handover.isSome, ready := s.get F.ready == 1, keyStop := s.get F.key == 2
      servo := s.servo
      syncing := s.get F.role == rStandby && !s.pair.current, resync := s.pair.dropPartner }
    { s with pair := { s.pair with hbOut := s.pair.hbOut ++ [h], ownStop := 0 } }

/-- HEARTBEAT_SEND (R140). -/
def execHeartbeatSend (_tick : Fin 10) (triadLive supLive : Bool) (s : State) : Host.Outcome State Fault Refusal :=
  .next (s.heartbeatSend triadLive supLive)

/-- The module's own heartbeats have stopped: it drives nothing (R148). -/
def State.stopsHeart (s : State) : State := ({ s with wd := { s.wd with hbStopped := true } }.refreshDrive).fieldOff

/-- OWN_HEARTBEAT_STOP (R148): the claim and the field drive enable are released. -/
def execOwnHeartbeatStop (s : State) : Host.Outcome State Fault Refusal := .next s.stopsHeart

/-- The partner is gone, as far as this module can tell. -/
def State.partnerGone (s : State) : State :=
  { s with pair := { s.pair with
    seen := false, partnerRole := 0, partnerReady := false, partnerHandover := false, handover := none, handing := false
    dropPartner := false } }

/-- Pair link lost (R157). -/
def State.linkLoss (s : State) : State :=
  if s.pair.linkLost then s
  else
    let s := ({ s with pair := { s.pair with linkLost := true } }.raise 348 1 3 []).put F.pairState 6    -- PAIR_LINK_LOST
    s.showLeds

/-- Heartbeat loss is declared: a follower comes to its decision instant, an ACTIVE goes on without a partner. -/
def State.heartbeatLoss (s : State) : State :=
  if s.pair.lost ∨ s.pwr.off ∨ s.get F.mode = mDormant then s
  else
    let s := { s with pair := { s.pair with lost := true, missed := 2 } }
    let s := s.raise 342 1 2 [(32, s.pair.hbBeat), (16, s.pair.hbOff)]                   -- HEARTBEAT_LOST
    if s.get F.role = rStandby ∨ s.get F.role = rShadow then s
    else
      let s := (s.endCrossovers.runLeaves.partnerGone).put F.pairState 0
      if s.get F.linkUp = 0 then s.linkLoss else s

/-- HEARTBEAT_LOST (R140): the second consecutive missed due instant, while a partner was answering. -/
def execHeartbeatLost (_tick : Fin 10) (s : State) : Host.Outcome State Fault Refusal :=
  .next (if s.pair.seen then s.heartbeatLoss else s)

/-- PAIR_STATE as an ACTIVE sees its partner (R174). -/
def State.partnerState (s : State) (h : Heartbeat) : Nat :=
  if h.role = rShadow then 5
  else if h.role ≠ rStandby then 0
  else if h.syncing then 2
  else if h.ready then 4
  else if s.get F.lastClosed ≤ h.lastBeat + 2 then 3 else 2

/-- What a heartbeat tells an ACTIVE of its partner. -/
def State.activeHears (s : State) (h : Heartbeat) : State :=
  let s := s.put F.pairState (s.partnerState h)
  let s := s.putFlag F.resyncing (s.get F.pairState == 2)
  let s := if h.role ≠ rShadow ∧ s.get F.shStartBeat + 1 < s.now then s.runLeaves else s   -- the SHADOW is gone (R178)
  let s := if h.mode = mStart ∨ h.mode = mSafe ∨ h.mode = mDormant then s.endCrossovers else s
  let s := { s with pair := { s.pair with dropPartner := s.pair.dropPartner && (h.ready || h.role == rShadow) } }
  s.wrapKey

/-- A follower takes the ACTIVE's timebase (R31), and knows that there is an ACTIVE. -/
def State.takeActive (s : State) (v : Servo) : State :=
  let s := s.takeServo v
  { s with units := { s.units with noActive := false } }

/-- The shadow run is to end in the next Freeze. -/
def State.endsShadow (s : State) : State := { s with pair := { s.pair with endShadow := true } }

/-- What a heartbeat of the ACTIVE tells a follower: its timebase, that it is to synchronise anew, and that its shadow run ends
because the ACTIVE has left RUN (R58). -/
def State.followerHears (s : State) (h : Heartbeat) (wasActive underWay : Bool) : State :=
  if wasActive ∧ (h.mode = mStart ∨ h.mode = mSafe ∨ (!underWay ∧ h.role ≠ rActive)) then s.heartbeatLoss
  else if h.role ≠ rActive then s
  else
    let s := s.takeActive h.servo
    if s.get F.role = rShadow then
      if h.resync ∨ h.mode ≠ mRun then s.endsShadow else s
    else if h.resync ∧ s.pair.current then s.dropSync else s

/-- A follower takes the ACTIVE's beat index where the two differ by more than a heartbeat's travel, as at the edge of the
ACTIVE's step (R30, R31; DEDUCED, log entry 22). -/
def State.followStep (s : State) (h : Heartbeat) : State :=
  let follows := s.get F.role == rStandby || s.get F.role == rShadow
  if !follows ∨ h.role ≠ rActive ∨ natDist h.beat s.now ≤ 1 then s
  else ((s.put F.beatIndex h.beat).pinsStep).raise 315 1 2 [(32, s.now), (32, h.beat)]          -- BEAT_STEP

/-- A heartbeat of an accepted partner (R140). -/
def State.heartbeatReceive (s : State) (h : Heartbeat) : State :=
  if s.pwr.off ∨ s.get F.mode = mDormant ∨ s.get F.linkUp = 0 ∨ !s.pair.seen then s
  else
    let s := s.followStep h
    let wasActive := s.pair.partnerRole == rActive
    let underWay := s.pair.handing || s.pair.partnerHandover || h.handover
    let s := { s with pair := { s.pair with
      partnerRole := h.role, partnerMode := h.mode, partnerEpoch := h.epoch, partnerTriad := h.triad
      partnerReady := h.ready && h.role == rStandby, partnerKeyStop := h.keyStop
      partnerHandover := h.handover, claimIn := h.role == rActive, hbBeat := s.now, hbOff := s.beat.off, missed := 0 } }
    let s := s.put F.partnerLanes h.lanes
    let u := (s.unit? [1 - s.ownHop]).getD { hops := [1 - s.ownHop], type := 2 }
    let s := (s.putUnit { u with epoch := h.epoch, role := h.role, status := 0 }).partnerLossIn h.lossOfLink
    if s.get F.role = rStandby ∨ s.get F.role = rShadow then s.followerHears h wasActive underWay
    else if s.get F.role = rActive then { s.activeHears h with pair := { (s.activeHears h).pair with lost := false } }
    else s

/-- HEARTBEAT_RECEIVE (R140). -/
def execHeartbeatReceive (h : Heartbeat) (s : State) : Host.Outcome State Fault Refusal := .next (s.heartbeatReceive h)

/-! Tracking (R141 to R144). -/

/-- Points of a received image. -/
def imagePts (i : Image) : List PointV :=
  i.points.map (fun (x : Nat × Nat × Nat) => { idx := x.1, val := x.2.1, q := x.2.2 })

/-- A command applied in the ACTIVE's Freeze is applied on the SHADOW, to the handles and loops that its program has (R168); the
audit of it is the ACTIVE's. -/
def State.shadowCmd (s : State) (c : TrackedCmd) : State :=
  let t := match c.op with
    | .valueWrite => (valueWriteApply c.pkt s).st
    | .constWrite => (constWriteApply c.pkt s).st
    | .forceSet => (forceSetApply c.pkt s).st
    | .forceClear => (forceClearApply c.pkt s).st
    | .loopModeSet => (loopModeSetApply c.pkt s).st
    | .loopSpSet => (loopSpSetApply c.pkt s).st
    | .loopCoeffSet => (loopCoeffSetApply c.pkt s).st
    | _ => s
  { t with sec := s.sec }

/-- Mismatches that the ACTIVE has had acknowledged are acknowledged here too (R169, R178). -/
def State.takeAcks (s : State) (acks : List Nat) : State :=
  if acks = [] then s
  else
    let s := { s with pair := { s.pair with
      cmp := s.pair.cmp.map (fun (r : CmpRec) => if acks.contains r.handle then { r with unaccepted := false } else r) } }
    s.put F.shUnaccepted (s.pair.cmp.filter (fun (r : CmpRec) => !r.intended && r.unaccepted)).length

/-- What a SHADOW computes on: the ACTIVE's image of the beat, with the commands of that Freeze (R168). Classes that it has
released at the edge read this image. -/
def State.shadowImage (s : State) (i : Image) : State :=
  let s := i.cmds.foldl (fun (s : State) c => s.shadowCmd c) s
  let s := { (s.takeAcks i.acks) with pair := { (s.takeAcks i.acks).pair with theirForces := i.forces.map (fun (f : Nat × Nat) => f.1) } }
  let s := { s with rt := { s.rt with image := imagePts i } }
  let cs := s.releasing
  { s with
    rt := cs.foldl (fun (rt : RtSt) c => rt.look c) s.rt
    loops := { s.loops with seen := cs.foldl (fun l c => newView l { s.rt.viewOf c with flags := s.flagsOf c }) s.loops.seen } }

/-- FROZEN_IMAGE_RECEIVE (R142): a follower keeps the two newest images; a SHADOW computes on a complete one of the beat. -/
def State.frozenImage (s : State) (i : Image) : State :=
  if s.get F.role ≠ rStandby ∧ s.get F.role ≠ rShadow then s
  else
    let s := { s with pair := { s.pair with dioIn := i.dio, images := lastN 2 (s.pair.images.filter (fun j => j.beat != i.beat) ++ [i]) } }
    if s.get F.role ≠ rShadow ∨ !i.complete ∨ i.beat ≠ s.now then s else s.shadowImage i

/-- FROZEN_IMAGE_RECEIVE. -/
def execFrozenImageReceive (i : Image) (s : State) : Host.Outcome State Fault Refusal := .next (s.frozenImage i)

/-- TRACKING_LINE_RECEIVE (R142): a STANDBY buffers the line. The record's 8-byte address lies in the 48-bit address space of
R494 (log entry 44). -/
def execTrackingLineReceive (addr data : Nat) (s : State) : Host.Outcome State Fault Refusal :=
  .next (if s.get F.role = rStandby then
      { s with pair := { s.pair with rx := s.pair.rx ++ [(addr % 2 ^ 48, data % 2 ^ 512)] } } else s)

/-- OUTPUT_CLOSE_RECEIVE (R142): O of the beat. -/
def execOutputCloseReceive (beat : Nat) (outs : List (Nat × Nat)) (s : State) : Host.Outcome State Fault Refusal :=
  .next (if s.get F.role = rStandby ∨ s.get F.role = rShadow then
      { s with pair := { s.pair with outsIn := outs, outsBeat := beat } } else s)

/-- CRC-32C over line records: 8 bytes of address and 64 of data each (R141). -/
def linesCrc (rs : List (Nat × Nat)) : Nat := crc32c (rs.flatMap (fun (r : Nat × Nat) => bytesOf 8 r.1 ++ bytesOf 64 r.2))

/-- A configuration field that the pair shares, by its key (R374). -/
def sharedField? (key : Nat) : Option Fld :=
  objMap.flatten.find? (fun f => f.acc == .rw && decide (f.home ≤ key) && (key - f.home) % 4194304 == 0
    && decide ((key - f.home) / 4194304 < f.cnt)
    && !([0x1010, 0x1020, 0x5010, 0x5020].contains f.obj))

/-- A tracked configuration value enters the registers, where the pair shares its field. -/
def takeConfig (l : List (Nat × Nat)) (c : Nat × Nat) : List (Nat × Nat) :=
  match sharedField? c.1 with
  | some f => regPut l c.1 (c.2 % 2 ^ f.w)
  | none => l

/-- The loops take their tracked state and the shared coefficients. -/
def LoopSt.track (ls : LoopSt) (ts : List LoopTrack) (coeffs : List (Nat × Nat)) : LoopSt :=
  { ls with
    saved := coeffs
    loops := ls.loops.map (fun (l : LoopRt) =>
      let d := (coeffs.filter (fun c => c.1 / 256 == l.d.num)).foldl (fun d c => loopSetField d (c.1 % 256) c.2) l.d
      match ts.find? (fun t => t.num == l.d.num) with
      | some t => { d := d, toLoopTrack := t }
      | none => { l with d := d }) }

/-- Status that the runtime keeps in registers: of tasks and of select groups (R86, R136). -/
def statusFields : List Fld :=
  [F.taskState, F.taskSkips, F.taskSkipTotal, F.taskLastRelease, F.taskErrorRuns, F.grpOut, F.grpSelected, F.grpMode,
   F.grpNoneCompeting, F.grpCompeting, F.grpManual, F.grpOutRate, F.grpSwitchCount]

/-- A register key among those of the runtime's status. -/
def isStatus (key : Nat) : Bool :=
  statusFields.any (fun f => decide (f.home ≤ key) && (key - f.home) % 4194304 == 0 && decide ((key - f.home) / 4194304 < f.cnt))

/-- A tracked status value enters the registers. -/
def takeStatus (l : List (Nat × Nat)) (c : Nat × Nat) : List (Nat × Nat) :=
  match statusFields.find? (fun f => decide (f.home ≤ c.1) && (c.1 - f.home) % 4194304 == 0
    && decide ((c.1 - f.home) / 4194304 < f.cnt)) with
  | some f => regPut l c.1 (c.2 % 2 ^ f.w)
  | none => l

/-- The runtime's status becomes what was tracked: what is not listed is at its default. -/
def State.takeStatuses (s : State) (l : List (Nat × Nat)) : State :=
  { s with regs := l.foldl takeStatus (s.regs.filter (fun r => !isStatus r.1)) }

/-- A shared record of the ACTIVE's Journal stands in this one too (R141, R144). -/
def State.takeRecord (s : State) (r : JRec) : State := s.journalNew r.type r.key r.len r.payload r.tomb

/-- The role epochs of the pair and of the units it holds are those of the ACTIVE (R361). -/
def State.takeEpochs (s : State) (l : List (List Nat × Nat)) : State :=
  l.foldl (fun (s : State) e =>
    if e.1 = [] then { s with units := { s.units with pair := { s.units.pair with epoch := e.2 } } }
    else if e.1 = [0] ∨ e.1 = [1] then s
    else s.putUnit { (s.unit? e.1).getD { hops := e.1 } with epoch := e.2 }) s

/-- A STANDBY takes the tracked state: values, forces, overlay, owners, loops, open cycles, commands, sessions, configuration,
shared Journal records, the staged program; a change that the ACTIVE has confirmed leaves its revert area (R173). -/
def State.applyTracked (s : State) (t : Tracked) : State :=
  let confirmed : Bool := s.get F.changePending == 1 && !t.changePending
  let rt := t.published.foldl (fun (rt : RtSt) w => rt.setValue w.1 w.2) s.rt
  let s := { s with
    regs := t.config.foldl takeConfig s.regs
    rt := { rt with
      published := t.published, work := t.work, forces := t.forces, overlay := t.overlay
      runQ := t.runQ, seen := t.seen, spills := t.spills, late := t.late, unpublished := t.unpublished, withheld := t.withheld
      errQ := t.errQ, lastGood := t.lastGood, staged := t.staged
      revertArea := if confirmed then none else s.rt.revertArea
      resume := if confirmed then none else s.rt.resume }
    lcp := { s.lcp with owners := t.owners }
    units := { s.units with keyMade := s.units.keyMade || t.pairKey }
    loops := { s.loops.track t.loops t.coeffs with seen := t.loopSeen, selected := t.groupsRun }
    pair := { s.pair with cmds := t.cmds, sessions := t.sessions } }
  let s := t.records.foldl (fun (s : State) r => s.takeRecord r) (s.takeStatuses t.status)
  let s := (s.put F.programGen t.gen).putFlag F.changePending t.changePending
  ((s.put F.ownedHandles t.owners.length).takeEpochs t.epochs).showRuntime

/-- A STANDBY follows its ACTIVE's MODE (R58), but for the one beat of R61. -/
def State.followMode (s : State) (m : Nat) : State :=
  if s.pair.oneBeatStop then s
  else s.setMode m rStandby (s.get F.ready) (s.get F.safeCause) 0

/-- A READY STANDBY takes the snapshot of a T3 cycle from its tracked state as the close of the cycle's last beat leaves it: the
same snapshot as the ACTIVE's (R99, R101). -/
def State.standbySnapshot (s : State) (n : Nat) : State :=
  if n % 400 = 399 ∧ s.get F.ready = 1 ∧ s.rt.prog.isSome then s.takeSnapshot n else s

/-- This Journal has room for every shared record of a close (R432). -/
def State.canTake (s : State) (t : Tracked) : Bool :=
  decide (s.get F.liveBytes + pendBytes s.jr.pend + pendBytes t.records ≤ 134217728)

/-- An accepted close of beat `n`: the lines are applied, S(n) stands. -/
def State.closeAccepted (s : State) (n imageCrc : Nat) (t : Tracked) : State :=
  let s := { s with
    mem := s.pair.rx.foldl (fun m (r : Nat × Nat) => memWrite m r.1 r.2 64) s.mem
    pair := { s.pair with
      rx := []
      images := s.pair.images.filter (fun i => decide (n < i.beat) || (i.beat == n && i.crc == imageCrc)) } }
  let s := s.put F.lastClosed n
  if s.pair.hasImage then ((s.applyTracked t).followMode t.mode).standbySnapshot n else s

/-- TRACKING_CLOSE_RECEIVE (R142, R165): count and CRC match, and no beat is missing; else the STANDBY drops to SYNCING. -/
def State.closeReceive (s : State) (beat count crc imageCrc : Nat) (overflow : Bool) (t : Tracked) : State :=
  if s.get F.role ≠ rStandby then s
  else
    let good := !overflow && s.pair.rx.length == count && linesCrc s.pair.rx == crc
      && (!s.pair.current || beat == s.get F.lastClosed + 1)
    if good then
      let room := s.canTake t
      let s := s.closeAccepted beat imageCrc t
      if room then s else s.dropSync
    else s.dropSync

/-- TRACKING_CLOSE_RECEIVE. -/
def execTrackingCloseReceive (beat count crc imageCrc : Nat) (overflow : Bool) (t : Tracked) (s : State) :
    Host.Outcome State Fault Refusal := .next (s.closeReceive beat count crc imageCrc overflow t)

/-- The Retain partition is the ACTIVE's (R144 step 2, R101): every slot is rewritten in full. -/
def State.takeSlots (s : State) (a b : RetainSlot) : State :=
  (({ s with rt := { s.rt with slotA := a, slotB := b, mirror := none, mirrorB := decide (b.beat < a.beat), dirty := []
                               dirtyA := [], dirtyB := [] } }).put F.slotABeat a.beat).put F.slotBBeat b.beat

/-- SYNC_COMPLETE (R144 step 4): the program where it differs (R70), the state with the shared Journal records and the Retain
partition, the encoder counts (R266); CHECKING or READY. With a change pending the program is the one that is ACTIVE (R173). -/
def State.syncComplete (s : State) (prog : Option Program) (t : Tracked) : State :=
  if s.get F.role ≠ rStandby ∨ s.pair.current ∨ s.get F.linkUp = 0 then s
  else
    let s : State := match prog with
      | some p => s.loadProgram p false
      | none => s
    let s := { s with pair := { s.pair with current := true, hasImage := true } }
    let s := (((s.applyTracked t).takeSlots t.slotA t.slotB).put F.resyncing 0).followMode t.mode
    let s := { s with rt := { s.rt with resume := if s.get F.changePending = 1 then s.rt.prog else none } }
    s.encSync.judgeReady.showLeds

/-- SYNC_COMPLETE. -/
def execSyncComplete (prog : Option Program) (t : Tracked) (s : State) : Host.Outcome State Fault Refusal :=
  .next (s.syncComplete prog t)

/-! Taking the plant (R149 to R153). -/

/-- Compute starts, `offset` in 0.1 µs from the edge (R38): later than 20 µs it shifts the slices and is charged to the
reserve. -/
def State.startCompute (s : State) (offset : Nat) : State :=
  let late := offset - 200
  let s := { s with beat := { s.beat with freezeDelay := late, computing := true, charged := s.beat.charged + late } }
  let s := if late = 0 then s else (s.put F.freezeLate 1).raise 452 1 1 [(32, late)]       -- BEAT_FREEZE_LATE
  { s with loops := { s.loops with started := s.engineRuns } }.loopIntake.releaseAll

/-- Commands that the ACTIVE has answered ACCEPTED and not applied by beat `c`, and its sessions, which are held as after a
TLS loss, pass to the new ACTIVE (R143, R152, R382). -/
def State.takeCommands (s : State) (c : Nat) : State :=
  let cmds := (s.pair.cmds.filter (fun q => decide (c < q.apply))).map (fun q =>
    ({ op := q.op, pkt := q.pkt, prio := q.prio, beat := q.beat, apply := q.apply, epoch := q.epoch } : QCmd))
  let have_ := s.lcp.sessions.map (fun (x : Session) => x.id)
  let new := (s.pair.sessions.filter (fun (x : TrackedSession) => !have_.contains x.id)).map (fun x =>
    ({ id := x.id, fp := x.fp, priv := x.priv, prio := x.prio, idle := x.idle, grace := x.grace, high := x.high
       cache := x.cache, held := true, lossCause := 4, last := s.now } : Session))
  let s := { s with
    lcp := { s.lcp with
      queue := s.lcp.queue ++ cmds, sessions := s.lcp.sessions ++ new
      nextSess := new.foldl (fun n (x : Session) => max n (nextId x.id)) s.lcp.nextSess }
    pair := { s.pair with cmds := [], sessions := [] } }
  s.countSessions

/-- What every new ACTIVE does besides its role: local outputs (R151), lanes (R160), time (R314), CAN. -/
def State.serveNow (s : State) (outs : List (Nat × Nat)) : State :=
  ((((s.fieldTakeover outs).lanesTakeService).timeTakesOver).canShow).showLeds

/-- The image a recomputed beat `n` uses (R149): I(n) if complete, else the own image of n. -/
def State.imageFor (s : State) (n : Nat) : List PointV :=
  match s.pair.images.find? (fun i => i.beat == n && i.complete) with
  | some i => imagePts i
  | none => if s.pair.ownBeat = n then s.pair.own else if s.pair.ownPrevBeat = n then s.pair.ownPrev else s.rt.image

/-- The decision instant `tdNs` after edge c + 1 in ns from the edge of the current beat. -/
def State.instantOf (s : State) (c tdNs : Nat) : Int := (tdNs : Int) - ((s.now : Int) - (c + 1 : Int)) * 250000

/-- An instant in the 32 signed bits of event data, at the end of the range beyond it (R439). -/
def instant32 (i : Int) : Nat := ofSigned 32 (max (-2147483648) (min i 2147483647))

/-- TAKEOVER is raised and counted (R152, R175). `mark` is the first check not within its interval on a CHECKING STANDBY, else
0xFF (R153; DESIGN CHOICE, log entry 29). -/
def State.noteTakeover (s : State) (c cas kind : Nat) (inst : Int) (mark : Nat) : State :=
  let s := ((s.inc F.takeoverCount).put F.lastTakeoverBeat c).put F.lastTakeoverKind kind
  s.raise 343 1 3 [(32, c), (8, cas), (32, instant32 inst), (8, mark)]

/-- The partner has failed, and its role epoch is incremented with this module's (R152). -/
def State.partnerFailed (s : State) : State :=
  (({ s.partnerGone with pair := { s.partnerGone.pair with lost := false, linkLost := false } }).bumpUnit
    [1 - s.ownHop] 3).put F.pairState 0

/-- A STANDBY without current state takes over: ACTIVE in STOP, outputs safe, kind UNSYNCED (R153). `inst` is the decision
instant; the case is neither 1 nor 2 and reads 0 (DESIGN CHOICE, log entry 29). -/
def State.takeUnsynced (s : State) (inst : Int) : State :=
  let c := s.get F.lastClosed
  let s := s.partnerFailed.dropCycles
  let s := { s with
    rt := { s.rt with outs := s.rt.safeOuts }
    pair := { s.pair with current := false, hasImage := false } }
  let s := (s.setMode mStop rActive 0 (s.get F.safeCause) 0 3).put F.resyncing 0
  ((s.takeCommands c).noteTakeover c 0 3 inst 0xFF).serveNow []

/-- Case 1 of R149 once the own image of c + 1 stands frozen: Compute starts at t_d, charged by R38. Before that the
image-complete event starts it. -/
def State.takeNow (s : State) (c tdNs : Nat) : State :=
  if s.now = c + 1 ∧ s.beat.imaged ∧ s.pair.ownBeat = c + 1 ∧ s.beat.computing then
    { s with rt := { s.rt with image := s.pair.own }, beat := { s.beat with slice := 0 } }.startCompute (max 200 (tdNs / 100))
  else s

/-- Case 2 of R149 and R150: beat n = c + 1 is recomputed in the next slot, and its own slot commits nothing; classes whose
cycle ended with n commit there. Where slot n + 1 has its image already, Compute starts at t_d. -/
def State.takeRedo (s : State) (n tdNs : Nat) : State :=
  let s := { s with pair := { s.pair with redo := some n, lostSlot := some (n + 1), redoImage := s.imageFor n } }
  if s.now = n + 1 ∧ s.beat.imaged ∧ s.beat.computing then
    { s with rt := { s.rt with image := s.pair.redoImage }, beat := { s.beat with slice := 0 } }.startCompute
      (max 200 ((tdNs - 250000) / 100))
  else { s with beat := { s.beat with computing := false, committing := false } }

/-- A SHADOW goes on from the end of beat c, the last that it committed on a complete image: what it has computed since is
given up, and the commands of the ACTIVE's Freeze of n stand (R153, R168). -/
def State.backTo (s : State) (n : Nat) : State :=
  match s.pair.kept with
  | none => s
  | some k =>
    if s.pair.shadowC = some n then s
    else
      let s := { s with
        rt := { k.1 with staged := s.rt.staged, revertArea := s.rt.revertArea }, loops := k.2 }.takeStatuses s.pair.keptStatus
      match s.pair.images.find? (fun i => i.beat == n && i.complete) with
      | some i => i.cmds.foldl (fun (s : State) c => s.shadowCmd c) s
      | none => s

/-- A partner whose state is current takes over by R149; from SHADOW the change stands as promoted (R153). -/
def State.takeSynced (s : State) (c kind tdNs mark : Nat) : State :=
  let case1 := decide (tdNs ≤ 30000)
  let shadow := s.get F.role == rShadow
  let outs := s.pair.outsIn
  let inst := s.instantOf c tdNs
  let s := if shadow then s.backTo (c + 1) else s
  let s := s.partnerFailed
  let s := if shadow then
      { ((s.put F.changePending 1).put F.shState 3) with
        pair := { s.pair with shadowAt := none, endShadow := false, kept := none, keptStatus := [] }
        rt := { s.rt with revertArea := none, staged := none, resume := s.rt.prog } }.journalProgram
    else { s with rt := { s.rt with outs := outs } }
  let s := s.setMode (if shadow then mRun else s.get F.mode) rActive 0 (s.get F.safeCause) 0 3
  let s := (s.takeCommands c).noteTakeover c (if case1 then 1 else 2) (if kind = 4 then 4 else if case1 then 1 else 2) inst mark
  let s := s.serveNow outs
  let s := { s with pair := { s.pair with current := false, hasImage := false } }
  if case1 then s.takeNow c tdNs else s.takeRedo (c + 1) tdNs

/-- A follower at its decision instant, the line asserted: the pair link is lost (R157). The instant is kept for a TAKEOVER that
the line's release brings. -/
def State.followerLinkLost (s : State) (tdNs : Nat) : State :=
  let inst := s.instantOf (s.get F.lastClosed) tdNs
  let s := { s with pair := { s.pair with fwd := [], decided := some (s.now, inst.toNat) }, lanes := { s.lanes with forwards := [] } }
  let s := if s.get F.role = rShadow then s.stopShadow 0 else s.dropSync
  ((s.linkLoss).put F.pairState 6).put F.resyncing 0

/-- The decision instant t_d, `tdNs` after edge c + 1 (R147, R149, R153, R157). -/
def State.takeover (s : State) (tdNs : Nat) (claim : Bool) : State :=
  if !s.pair.lost then s
  else
    let s := { s with pair := { s.pair with lost := false, claimIn := claim } }
    let r := s.get F.role
    if r = rActive then (if claim then s.linkLoss else s)
    else if r ≠ rStandby ∧ r ≠ rShadow then s
    else if claim then s.followerLinkLost tdNs
    else if r = rStandby ∧ s.pair.current then
      s.takeSynced (s.get F.lastClosed) 0 tdNs (if s.get F.ready = 1 then 0xFF else s.firstOpen)
    else
      match s.pair.shadowC with
      | some c =>
        if r = rShadow ∧ s.get F.shadowTakeover = 1 ∧ s.get F.shUnaccepted = 0 then s.takeSynced c 4 tdNs 0xFF
        else (if r = rShadow then s.stopShadow 0 else s).takeUnsynced (s.instantOf (s.get F.lastClosed) tdNs)
      | none => (if r = rShadow then s.stopShadow 0 else s).takeUnsynced (s.instantOf (s.get F.lastClosed) tdNs)

/-- TAKEOVER (R149). -/
def execTakeover (tdNs : Nat) (claim : Bool) (s : State) : Host.Outcome State Fault Refusal := .next (s.takeover tdNs claim)

/-- The decision instant kept from the loss of the link, in ns from the edge of the current beat; the current instant where none
is kept (DESIGN CHOICE, log entry 29). -/
def State.keptInstant (s : State) : Int :=
  match s.pair.decided with
  | some d => (d.2 : Int) - ((s.now : Int) - (d.1 : Int)) * 250000
  | none => (s.beat.off * 5 : Nat)

/-- CLAIM_RELEASED_UNSYNCED (R157): with the link lost, the line has been released for 50 µs. -/
def execClaimReleasedUnsynced (s : State) : Host.Outcome State Fault Refusal :=
  .next (if s.get F.role = rStandby ∧ s.pair.linkLost then
      { s with pair := { s.pair with claimIn := false } }.takeUnsynced s.keptInstant
    else s)

/-- CLAIM_PROBE (R158): side B reads the line it has released; asserted, it yields. -/
def execClaimProbe (asserted : Bool) (s : State) : Host.Outcome State Fault Refusal :=
  .next (if s.get F.side ≠ 1 ∨ s.pair.claimBeats = 0 ∨ s.get F.role ≠ rActive then s
    else
      let s := { s with pair := { s.pair with claimIn := asserted } }
      if !asserted then s
      else
        let s := { (s.dropCycles.canDropAll) with pair := { s.pair with claimBeats := 0 } }
        let s := s.setMode mStop rNone 0 (s.get F.safeCause) 0
        (s.raise 352 1 3 [(8, 1)]).canShow.showLeds)                                    -- CLAIM_CONFLICT

/-! Planned switch-over (R154 to R156). -/

/-- A scheduled handover can be carried out: to a READY partner, or for PROMOTE (cause 10) to the SHADOW. -/
def State.canHand (s : State) (ho : Handover) : Bool :=
  s.get F.role == rActive && (if ho.cause == 10 then s.pair.partnerRole == rShadow else s.pair.partnerReady)

/-- PLANNED_SWITCHOVER on the ACTIVE in its apply beat a: SWITCHOVER_PLANNED with h = a + 1; one that can no longer be carried
out is dropped, and a RELEASE that waited for it is refused (R154, R542). -/
def State.planRuns (s : State) (ho : Handover) : State :=
  if s.canHand ho then
    let s := { s with pair := { s.pair with handing := true } }
    (s.inc F.plannedCount).raise 344 1 0 [(32, s.now + 1), (8, ho.cause)]
  else
    let s := { s with pair := { s.pair with handover := none } }
    if s.panel.quiesceAfter = 0 then s
    else ({ s with panel := { s.panel with quiesceAfter := 0 } }.put F.releaseState 0).panelRefused 2 1

/-- PLANNED_SWITCHOVER (R155). -/
def execPlannedSwitchover (s : State) : Host.Outcome State Fault Refusal :=
  let r := s.get F.role
  .next (if s.pair.handing then s
    else
      match s.pair.handover with
      | some ho => if r = rActive ∧ ho.apply ≤ s.now then s.planRuns ho else s
      | none =>
        if s.pair.partnerHandover ∧ ((r = rStandby ∧ s.get F.ready = 1) ∨ r = rShadow) then
          { (s.inc F.plannedCount) with pair := { s.pair with handing := true } }
        else s)

/-- The state of a program is mapped into another by unchanged handles (R167): variables of unchanged type, forces where
the handle exists, the overlay entries that it declares to carry, loops of unchanged number and class. -/
def State.mapInto (s : State) (p : Program) : State :=
  let rt := s.rt
  let same := fun (i : Nat) => match rt.entry? i, p.vals.find? (fun v => v.idx == i) with
    | some a, some b => handleOf a == handleOf b
    | _, _ => false
  let vals := p.vals.foldl (fun l v =>
    match rt.entry? v.idx with
    | some a => if v.kind ≤ 1 ∧ handleOf a = handleOf v ∧ a.ty = v.ty
        then regPut l v.idx ((valAt rt.published v.idx).getD a.init) else l
    | none => l) []
  let s := s.dropCycles
  let s := (s.clearForces ((rt.forces.filter (fun f => !same f.1)).map (fun f => f.1))).purgeCoeffs p
  let s := { s with rt := { s.rt with
    published := vals
    overlay := rt.overlay.filter (fun o => same o.1 && p.carry.contains (rt.handleAt o.1))
    outs := rt.outs.filter (fun o => same o.1) } }
  (s.loadProgram p true).journalLoad p

/-- PROMOTED is raised and the change stands pending, in the Journal too (R170, R171, R173). -/
def State.notePromoted (s : State) : State :=
  (((s.put F.changePending 1).put F.shState 3).raise 355 1 0 [(32, s.now), (32, s.get F.programGen)]).journalProgram

/-- REVERTED is raised, and no change is pending (R172, R173). -/
def State.noteReverted (s : State) : State :=
  ({ (s.put F.changePending 0) with rt := { s.rt with resume := none } }.raise 356 1 1 [(32, s.now)]).journalProgram

/-- The old program goes into the revert area (R171). -/
def State.keepOld (s : State) : State := { s with rt := { s.rt with revertArea := s.rt.prog, resume := none } }

/-- What the old ACTIVE records of the change its handover carries: after PROMOTE (cause 10) it keeps the old program. -/
def State.handsChange (s : State) (cause : Nat) : State :=
  if cause = 10 then s.notePromoted.keepOld else if cause = 11 then s.noteReverted else s

/-- The old ACTIVE as STANDBY: READY if its checks stand, or in SYNCING (R155, R156). -/
def State.becomesStandby (s : State) (sync : Bool) : State :=
  let ready := !sync && s.checksStand
  let s := (s.put F.pairState (if sync then 2 else if ready then 4 else 3)).putFlag F.resyncing sync
  let s := s.setMode (s.get F.mode) rStandby (if ready then 1 else 0) (s.get F.safeCause) 0 3
  let s := (((s.bumpUnit [1 - s.ownHop] 3).endCrossovers).fieldOff).canShow
  let mine := s.lcp.queue.filterMap (fun (q : QCmd) => match resolve s q.pkt with
    | .unit u => if u == .own then some (q, u) else none
    | .fail _ _ => none)
  let s := mine.foldl (fun (s : State) m => s.lateEpoch m.1 m.2) s
  { s with lcp := { s.lcp with queue := [] } }

/-- What the cause of a handover asks of the old ACTIVE afterwards: 1 out of service, 2 START, else nothing. -/
def State.afterHandover (s : State) (after : Nat) : State :=
  if after = 1 then
    if s.panel.quiesceAfter ≠ 0 then s.quiesce
    else ((s.dropCycles.setMode mStop rNone 0 (s.get F.safeCause) 3).canShow).showLeds
  else if after = 2 then { s with panel := { s.panel with restartAfter := true } }
  else s.showLeds

/-- The old ACTIVE at edge h (R155, R156). -/
def State.handsOver (s : State) (ho : Handover) : State :=
  let sync := ho.after == 3
  let s := { s with pair := { s.pair with
    handover := none, handing := false, partnerRole := rActive, partnerReady := false, current := !sync, hasImage := true
    claimIn := true
    rx := [], images := [], cmds := [], revertAt := none, redo := none } }
  let s := s.lcp.sessions.foldl (fun (s : State) x => if x.pairIp && !x.held then s.holdSession x.id 4 else s) s
  let s := (s.put F.lastClosed (s.now - 1)).handsChange ho.cause
  (s.becomesStandby sync).afterHandover ho.after

/-- The SHADOW's change is promoted as it becomes ACTIVE (R171, R173); handles that the program no longer has lose their owner
(R397). -/
def State.takesChange (s : State) : State :=
  let s := s.notePromoted
  let owners := s.lcp.owners.filter (fun (o : Nat × Nat) => (s.rt.handle? o.1).isSome)
  let s := { s with rt := { s.rt with revertArea := none, staged := none, resume := s.rt.prog }, lcp := { s.lcp with owners := owners } }
  s.put F.ownedHandles owners.length

/-- On a REVERT the new ACTIVE maps its state back into the old program (R172). -/
def State.takesBack (s : State) (back : Option Program) : State :=
  match back with
  | some p =>
    let s := s.mapInto p
    { s with rt := { s.rt with revertArea := none } }.noteReverted
  | none => s

/-- The new ACTIVE at edge h (R155). From SHADOW the change is promoted (R171); on a REVERT it maps its state back into the old
program (R172). -/
def State.takesOver (s : State) : State :=
  let shadow := s.get F.role == rShadow
  let back := if s.pair.revertAt = some s.now then s.rt.revertArea else none
  let outs := s.pair.outsIn
  let s := { s with pair := { s.pair with
    handing := false, partnerHandover := false, partnerRole := rStandby, partnerReady := false, current := false
    claimIn := false, kept := none, keptStatus := []
    hasImage := false, rx := [], images := [], shadowAt := none, endShadow := false, revertAt := none, lost := false } }
  let s := (s.put F.lastClosed (s.now - 1)).put F.resyncing 0
  let s : State := if shadow then s.takesChange else
    let s := { s with rt := { s.rt with outs := outs } }
    s.takesBack back
  let s := (s.put F.pairState 2).setMode (if shadow then mRun else s.get F.mode) rActive 0 (s.get F.safeCause) 0 3
  let s := s.bumpUnit [1 - s.ownHop] 3
  (s.takeCommands (s.now - 1)).serveNow outs

/-- At edge h a handover under way is completed (R155). -/
def State.handoverEdge (s : State) : State :=
  if !s.pair.handing then s
  else if s.get F.role = rActive then s.handsOver (s.pair.handover.getD { apply := s.now - 1, cause := 1 })
  else if s.get F.role = rStandby ∨ s.get F.role = rShadow then s.takesOver
  else { s with pair := { s.pair with handing := false } }

/-! Opcodes. -/

/-- PAIR_STATUS (R422). -/
def execPairStatus (p : Packet) (s : State) : Host.Outcome State Fault Refusal :=
  .next (served .pairStatus p (fun _ _ => .ok) (fun _ s => { st := s, tlvs := [packObj s 0x7000 0 9] }) s)

/-- A shadow run is to begin or runs (R154, R166). -/
def State.shadowRun (s : State) : Bool := s.pair.shadowAt.isSome || s.get F.shState == 1 || s.get F.shState == 2

/-- SWITCHOVER's refusals (R154). -/
def switchoverRules (s : State) : Chk :=
  Chk.all [need (s.get F.role == rActive) 3, require (!s.shadowRun) stBusy, need s.pair.partnerReady 8]

/-- A named beat is not earlier than the first eligible one (R48). -/
def targetBeatChk (p : Packet) (s : State) : Chk :=
  param (!p.has 0x8002 || decide (s.eligible p.stamp ≤ p.val 0x8002 0)) (p.pos 0x8002)

/-- The apply beat of a command that may name one (R48). -/
def targetApplyAt (p : Packet) (_ : UnitSel) (s : State) : Nat :=
  if p.has 0x8002 then p.val 0x8002 0 else s.eligible p.stamp

/-- SWITCHOVER in its Freeze. -/
def switchoverApply (s : State) : Ans :=
  match switchoverRules s with
  | .bad st tl => { st := s, status := st, tlvs := tl }
  | .ok => { st := s.planAt s.now 1 0 }

/-- SWITCHOVER (R154). -/
def execSwitchover (p : Packet) (s : State) : Host.Outcome State Fault Refusal :=
  .next (queued .switchover p (fun _ s => Chk.all [targetBeatChk p s, switchoverRules s]) (targetApplyAt p) s)

/-- RESYNC_STANDBY's refusals (R422). -/
def resyncRules (s : State) : Chk :=
  Chk.all [require (!s.shadowRun) stBusy, need (s.get F.role == rActive && s.pair.partnerRole == rStandby) 3]

/-- RESYNC_STANDBY in its Freeze: the STANDBY hears of it with the next heartbeat (log entry 29). -/
def resyncApply (s : State) : Ans :=
  match resyncRules s with
  | .bad st tl => { st := s, status := st, tlvs := tl }
  | .ok => { st := ({ s with pair := { s.pair with partnerReady := false, dropPartner := true } }.put F.pairState 2).put F.resyncing 1 }

/-- RESYNC_STANDBY (R422). -/
def execResyncStandby (p : Packet) (s : State) : Host.Outcome State Fault Refusal :=
  .next (queued .resyncStandby p (fun _ s => resyncRules s) (firstApplyAt p) s)

/-! The Supervisor fails (R15, R75). -/

/-- SUPERVISOR_LOCKSTEP_MISMATCH: the power manager enters SAFE by itself and keeps the cause in its latch; the module answers
nothing until it is restarted, and its heartbeats stop. -/
def execSupervisorLockstepMismatch (s : State) : Host.Outcome State Fault Refusal :=
  .next (if s.pwr.off ∨ s.get F.mode = mDormant then s
    else
      let s := s.latch (fun l => { l with safeSet := true, safeCause := 6 })
      let s := { s.dropCycles.canDropAll with lcp := { s.lcp with mute := true }, wd := { s.wd with hbStopped := true } }
      let s := { s with pair := { s.pair with handover := none, handing := false, shadowAt := none, endShadow := false } }
      ((s.abandonResync.setMode mSafe rNone 0 6 1).fieldOff).canShow.showLeds)

end Sys2Proof.Machine
end

