-- ==== Sys2Proof/Machine/Change.lean ====
section
/-! DEFINITION. Changing the program: staging, the shadow run and its comparison, PROMOTE, REVERT and confirmation; KL_STATUS
(R79 to R81, R166 to R173, R191, R422, R572, R573). -/

namespace Sys2Proof.Machine

open Sys2Proof

/-! Staging (R81, R166, R191, R398 to R400). -/

/-- Where a program image goes: BUSY while a change is under way, NOT_PERMITTED without a place (R166, R422). -/
def stagePlace (u : UnitSel) (s : State) : Chk :=
  if modulePath u s then
    need (s.get F.role == rSolo || (s.get F.role == rActive && !s.pair.seen)) 3
  else Chk.all [require (!s.shadowRun && s.get F.changePending == 0) stBusy, need s.pair.partnerReady 8]

/-- PROGRAM_STAGE's checks: one open program transfer on each unit (R400). -/
def programStageChk (p : Packet) (u : UnitSel) (s : State) : Chk :=
  Chk.all [needTlv p 0x0025, clusterChk p s, stagePlace u s,
    require (s.lcp.transfers.all (fun t => t.image || t.pair != !modulePath u s)) stBusy]

/-- PROGRAM_STAGE opens a transfer. -/
def programStageBody (p : Packet) (u : UnitSel) (s : State) : Ans :=
  let id := s.lcp.nextTransfer
  let t : Transfer := { id := id, image := false, sess := p.sess, total := p.val 0x0025 0, pair := !modulePath u s
                        cluster := pktCluster p, last := s.now }
  { st := { s with lcp := { s.lcp with transfers := s.lcp.transfers ++ [t], nextTransfer := id + 1 } }
    tlvs := [tlv 0x8007 4 id] }

/-- PROGRAM_STAGE (R422). -/
def execProgramStage (p : Packet) (s : State) : Host.Outcome State Fault Refusal :=
  .next (served .programStage p (programStageChk p) (programStageBody p) s)

/-- A complete image is kept as staged: on the STANDBY, or here in the area of its cluster. -/
def State.stageProgram (s : State) (t : Transfer) (prog : Program) : State :=
  if t.pair then { s with pair := { s.pair with partnerStaged := true } }
  else s.putRt t.cluster { s.rtOf t.cluster with staged := some prog }

/-- PROGRAM_CHUNK: the chunk that completes the image closes the transfer, and the image is checked (R80, R116). -/
def programChunkBody (p : Packet) (prog : Option Program) (_ : UnitSel) (s : State) : Ans :=
  match s.transferOf p false with
  | none => { st := s }
  | some t =>
    let t := t.take p
    if t.got < t.total then { st := s.putTransfer t }
    else
      let s := s.closeTransfer t.id
      match prog with
      | none => { st := s, status := stBadParam, tlvs := detail 0x0108 }
      | some g =>
        let d := programDetail g (s.get F.hwIssue - 1)
        if d = 0 then { st := s.stageProgram t g } else { st := s, status := stBadParam, tlvs := detail d }

/-- PROGRAM_CHUNK (R399, R422): a program that is accepted is part of what the pair tracks (R416). -/
def execProgramChunk (p : Packet) (prog : Option Program) (s : State) : Host.Outcome State Fault Refusal :=
  .next (servedTracked .programChunk p (fun _ s => chunkChk p false s) (programChunkBody p prog) s)

/-! The shadow run (R167 to R169). -/

/-- SHADOW_START's refusals (R166, R422). -/
def shadowStartRules (s : State) : Chk :=
  Chk.all [require (!s.shadowRun && s.get F.changePending == 0) stBusy, need s.pair.partnerReady 8,
    need s.pair.partnerStaged 9]

/-- SHADOW_START in its Freeze: the run starts at the first beat after it that is a multiple of 4,000 (R167). -/
def shadowStartApply (s : State) : Ans :=
  match shadowStartRules s with
  | .bad st tl => { st := s, status := st, tlvs := tl }
  | .ok =>
    let n := alignUp (s.now + 1) 4000
    { st := { s with pair := { s.pair with shadowAt := some n } }.put F.shStartBeat n }

/-- SHADOW_START (R167). -/
def execShadowStart (p : Packet) (s : State) : Host.Outcome State Fault Refusal :=
  .next (queued .shadowStart p (fun _ s => shadowStartRules s) (firstApplyAt p) s)

/-- A run begins at this beat: ShadowCompare starts anew. -/
def State.runBegins (s : State) : State :=
  let s := { s with pair := { s.pair with
    cmp := [], shadowAt := none, endShadow := false, overruns := [], acks := [], theirForces := [], kept := none
    keptStatus := [] } }
  (((((((s.put F.shState 1).put F.shStartBeat s.now).put F.shBeats 0).put F.shPoints 0).put F.shMismatches 0).put
    F.shUnaccepted 0).put F.shIntended 0).put F.pairState 5

/-- SHADOW_RUN_START at beat s (R167): the READY STANDBY maps its state into the staged program and is SHADOW; the ACTIVE has
no READY partner from then on. A STANDBY that is not READY at s does not start (DEDUCED, log entry 29). -/
def State.shadowRunStart (s : State) : State :=
  if s.get F.role = rActive then
    if s.pair.shadowAt ≠ some s.now then s
    else if !s.pair.partnerReady then { s with pair := { s.pair with shadowAt := none } }
    else
      let s := s.runBegins
      { s with pair := { s.pair with partnerRole := rShadow, partnerReady := false } }
  else
    match s.rt.staged with
    | none => s
    | some g =>
      if s.get F.role ≠ rStandby ∨ s.get F.ready ≠ 1 ∨ s.now % 4000 ≠ 0 then s
      else
        let old := s.rt.prog
        let s := s.runBegins.mapInto g
        let s := { s with
          rt := { s.rt with revertArea := old }
          pair := { s.pair with current := false, shadowC := none, rx := [] } }
        (s.setMode mRun rShadow 0 (s.get F.safeCause) 0).showLeds

/-- SHADOW_RUN_START (R167): it is the command of beat s alone. -/
def execShadowRunStart (beat : Nat) (s : State) : Host.Outcome State Fault Refusal :=
  .next (if beat = s.now then s.shadowRunStart else s)

/-- The value of the other side that a value is compared with, and its place on the build's lists (R169): on the SHADOW an
output's comes from the ACTIVE's output close of the beat, where the old program has the point under the same handle. -/
def State.otherSide (s : State) (theirs : List (Nat × Nat × Nat)) (v : ValDef) : Option (Nat × Nat) :=
  let named := (theirs.find? (fun (t : Nat × Nat × Nat) => t.1 == handleOf v)).map (fun (t : Nat × Nat × Nat) => t.2)
  if s.get F.role = rShadow then
    let inOld := match s.rt.revertArea with
      | some g => g.vals.any (fun w => handleOf w == handleOf v)
      | none => false
    if !inOld then none
    else if v.kind = 4 then
      if s.pair.outsBeat = s.now then (valAt s.pair.outsIn v.idx).map (fun x => (x, v.compare)) else none
    else if v.compare = 0 then none else named.map (fun (t : Nat × Nat) => (t.1, v.compare))
  else if v.kind = 4 then named else named.filter (fun (t : Nat × Nat) => t.2 != 0)

/-- What is compared in this beat (R169): every output point, and the named values at their class's cycle ends; forced points
are left out. Each with its own value, the other side's, and whether its difference is intended. -/
def State.compared (s : State) (theirs : List (Nat × Nat × Nat)) : List (ValDef × Nat × Nat × Bool) :=
  match s.rt.prog with
  | none => []
  | some g =>
    (g.vals.filter (fun v => (v.kind == 4 || (decide (v.kind ≤ 2) && cycleEnds s.now v.home))
        && (valAt s.rt.forces v.idx).isNone && !s.pair.theirForces.contains (handleOf v))).filterMap (fun v =>
      (s.otherSide theirs v).map (fun (t : Nat × Nat) => (v, (s.rt.read v).1, t.1, t.2 == 2)))

/-- The difference of two analog values in % of the point's range, none where the spec gives the value no range. -/
def rangeDiff (v : ValDef) (a b : Nat) : Option Rat :=
  let span := valNum v.ty v.rangeHi - valNum v.ty v.rangeLo
  if v.digital ∨ span ≤ 0 then none
  else
    let d := valNum v.ty a - valNum v.ty b
    some ((if d < 0 then -d else d) * 100 / span)

/-- Two values match (R169): digital ones, and analog ones without a range, when they are equal (DESIGN CHOICE for the latter,
log entry 29). -/
def valuesMatch (v : ValDef) (a b tol : Nat) : Bool :=
  match rangeDiff v a b with
  | some d => decide (d * 100 ≤ (tol : Rat))
  | none => a == b

/-- A record among those of the comparison, by ascending handle. -/
def putCmp : List CmpRec → CmpRec → List CmpRec
  | [], r => [r]
  | x :: t, r => if r.handle < x.handle then r :: x :: t else if x.handle = r.handle then r :: t else x :: putCmp t r

/-- The counts of ShadowCompare. -/
def State.showCmp (s : State) : State :=
  let mm := s.pair.cmp.filter (fun r => !r.intended)
  ((s.put F.shMismatches mm.length).put F.shUnaccepted (mm.filter (fun r => r.unaccepted)).length).put F.shIntended
    (s.pair.cmp.filter (fun r => r.intended)).length

/-- A point differs in this beat: SHADOW_MISMATCH the first time, unless the difference is intended (R169). Where the point
has no range the deviation in percent is open (DESIGN CHOICE, log entry 29). -/
def State.noteDiff (s : State) (v : ValDef) (a b : Nat) (intended : Bool) : State :=
  let (dev, s) : Nat × State := match rangeDiff v a b with
    | some d => (toF32 d, s)
    | none => s.fresh 32
  match s.pair.cmp.find? (fun r => r.handle == handleOf v) with
  | some r =>
    let dev := if f32 dev ≤ f32 r.deviation then r.deviation else dev
    { s with pair := { s.pair with
        cmp := putCmp s.pair.cmp { r with last := s.now, count := satInc 32 r.count, deviation := dev } } }
  | none =>
    let r : CmpRec := { handle := handleOf v, intended := intended, unaccepted := !intended, first := s.now, last := s.now
                        count := 1, deviation := dev }
    let s := { s with pair := { s.pair with cmp := putCmp s.pair.cmp r } }
    if intended then s else s.raise 354 1 1 [(32, handleOf v), (32, s.now), (32, dev)]     -- SHADOW_MISMATCH

/-- SHADOW_COMPARE (R169): from shadow_settle beats after s on, each beat whose Commit was not abandoned. -/
def State.shadowCompare (s : State) (theirs : List (Nat × Nat × Nat)) : State :=
  let st := s.get F.shState
  if (s.get F.role ≠ rActive ∧ s.get F.role ≠ rShadow) ∨ (st ≠ 1 ∧ st ≠ 2) then s
  else if s.now < s.get F.shStartBeat + s.get F.shadowSettle ∨ !s.beat.committed then s
  else
    let cs := s.compared theirs
    let tol := s.get F.compareTolerance
    let s := ((s.put F.shState 2).inc F.shBeats).peak F.shPoints cs.length
    let s := (cs.filter (fun (c : ValDef × Nat × Nat × Bool) => !valuesMatch c.1 c.2.1 c.2.2.1 tol)).foldl
      (fun (s : State) c => s.noteDiff c.1 c.2.1 c.2.2.1 c.2.2.2) s
    s.showCmp

/-- SHADOW_COMPARE (R169). -/
def execShadowCompare (theirs : List (Nat × Nat × Nat)) (s : State) : Host.Outcome State Fault Refusal :=
  .next (s.shadowCompare theirs)

/-- A handle has a mismatch to acknowledge. -/
def State.hasMismatch (s : State) (h : Nat) : Bool := s.pair.cmp.any (fun r => r.handle == h && !r.intended)

/-- SHADOW_COMPARE_GET's checks: with ACK_HANDLE it changes state, so privilege and key are those of R417. -/
def shadowGetChk (p : Packet) (_ : UnitSel) (s : State) : Chk :=
  Chk.all [
    if p.has 0x0028 then Chk.all [need (decide (2 ≤ s.privOf p.sess)) 1, keyR63 .shadowCompareGet p s] else .ok,
    needTlv p 0x8008, needTlv p 0x0026,
    param (decide ((p.vals 0x0028).length ≤ 1024) && (p.vals 0x0028).all s.hasMismatch) (p.pos 0x0028)]

/-- A COMPARE_REC (R418). -/
def compareRec (r : CmpRec) : Tlv :=
  tlvPacked 0x0029 [(4, r.handle), (4, (if r.intended then 1 else 0) + (if r.unaccepted then 2 else 0)), (8, r.first),
    (8, r.last), (4, r.count), (4, r.deviation)]

/-- SHADOW_COMPARE_GET: acknowledgements on receipt, then the records from OFFSET on, which counts bytes of records (R401). -/
def shadowGetBody (p : Packet) (_ : UnitSel) (s : State) : Ans :=
  let acks := p.vals 0x0028
  let s := { s with pair := { s.pair with
    cmp := s.pair.cmp.map (fun r => if acks.contains r.handle then { r with unaccepted := false } else r)
    acks := if s.get F.role = rActive then s.pair.acks ++ acks else s.pair.acks } }
  let s := if acks = [] then s else s.showCmp
  let first := p.val 0x8008 0 / 32
  let n := p.val 0x0026 0 / 32
  { st := s
    tlvs := packObj s 0x7200 1 7 :: ((s.pair.cmp.drop first).take n).map compareRec
    more := decide (first + n < s.pair.cmp.length) }

/-- SHADOW_COMPARE_GET (R422). -/
def execShadowCompareGet (p : Packet) (s : State) : Host.Outcome State Fault Refusal :=
  .next (served .shadowCompareGet p (shadowGetChk p) (shadowGetBody p) s)

/-! PROMOTE (R81, R170, R171). -/

/-- Some staged program waits on the module. -/
def State.anyStaged (s : State) : Bool := s.rt.staged.isSome || s.rtY.staged.isSome || s.rtZ.staged.isSome

/-- PROMOTE's refusals: through the pair those of R170, on the module path those of R81. -/
def promoteRules (p : Packet) (u : UnitSel) (s : State) : Chk :=
  if modulePath u s then Chk.all [
    need (s.get F.role == rSolo || (s.get F.role == rActive && !s.pair.seen)) 3,
    require (s.get F.mode == mStop) stWrongMode (detail (s.get F.mode)),
    param (p.has 0x0018 && decide (p.val 0x0018 0 ≤ 1)) (p.pos 0x0018), need s.anyStaged 9]
  else Chk.all [
    param (!p.has 0x0018) (p.pos 0x0018),
    need s.shadowRun 9,
    require (s.get F.shState == 2) stBusy,
    need (s.get F.shUnaccepted == 0 || p.val 0x0027 0 == 1) 9]

/-- A program of a SPLIT module's other cluster is loaded and starts by R73; none of its values is in the Retain partition,
which is the module's program's (R191). -/
def State.promoteCluster (s : State) (kind : Nat) : State :=
  match s.rt.staged with
  | none => s
  | some g =>
    let keep := s.rt.overlay.filter (fun (o : Nat × Nat) =>
      g.carry.contains (s.rt.handleAt o.1) && g.vals.any (fun v => handleOf v == s.rt.handleAt o.1))
    let forces := if kind = 1 then [] else s.rt.forces
    let s := { s.dropCycles with rt := { s.dropCycles.rt with overlay := keep, staged := none } }
    let s := (s.loadProgram g false).coldCluster
    { s with rt := { s.rt with forces := forces } }.showRuntime

/-- The module's own staged program replaces the one it runs (R81): it starts by R73, and overlay entries it does not carry go
(R95). -/
def State.promoteOwn (s : State) (kind : Nat) : State :=
  match s.rt.staged with
  | none => s
  | some g =>
    let keep := s.rt.overlay.filter (fun (o : Nat × Nat) =>
      g.carry.contains (s.rt.handleAt o.1) && g.vals.any (fun v => handleOf v == s.rt.handleAt o.1))
    let s := s.dropCycles
    let s := { s with rt := { s.rt with overlay := keep, staged := none } }
    let s := (((s.purgeCoeffs g).loadProgram g false).journalLoad g).restartProgram kind
    let owners := s.lcp.owners.filter (fun (o : Nat × Nat) => (s.rt.handle? o.1).isSome)
    { s with lcp := { s.lcp with owners := owners } }.put F.ownedHandles owners.length

/-- PROMOTE in its Freeze: a planned switch-over to the SHADOW (R170), or the staged programs are loaded in STOP and MODE stays
(R81; DEDUCED, log entry 29). -/
def promoteApply (p : Packet) (u : UnitSel) (s : State) : Ans :=
  match promoteRules p u s with
  | .bad st tl => { st := s, status := st, tlvs := tl }
  | .ok =>
    let s := s.auditBy p.sess 0x0C 0 1
    if modulePath u s then
      let kind := p.val 0x0018 0
      let s := s.promoteOwn kind
      let s := (s.onCluster 1 (fun s => s.promoteCluster kind)).onCluster 2 (fun s => s.promoteCluster kind)
      { st := (s.raise 355 1 0 [(32, s.now), (32, s.get F.programGen)]).showRuntime }          -- PROMOTED
    else { st := { s with pair := { s.pair with handover := some { apply := s.now, cause := 10, after := 3 } } } }

/-- PROMOTE (R170). -/
def execPromote (p : Packet) (s : State) : Host.Outcome State Fault Refusal :=
  .next (queued .promote p (fun u s => Chk.all [targetBeatChk p s, promoteRules p u s]) (targetApplyAt p) s)

/-! REVERT (R172). -/

/-- REVERT's refusals: after PROMOTE the STANDBY must be READY; with no change under way there is nothing to revert. -/
def revertRules (s : State) : Chk :=
  if s.shadowRun then .ok
  else Chk.all [need (s.get F.changePending == 1) 9, require s.pair.partnerReady stBusy]

/-- REVERT in its Freeze. -/
def revertApply (p : Packet) (s : State) : Ans :=
  match revertRules s with
  | .bad st tl => { st := s, status := st, tlvs := tl }
  | .ok =>
    let s := s.auditBy p.sess 0x0C 0 2
    if s.shadowRun then
      let s := { s with pair := { s.pair with shadowAt := none, dropPartner := true } }
      { st := (s.put F.shState 3).raise 356 1 1 [(32, s.now)] }                                  -- REVERTED
    else { st := { s with pair := { s.pair with revertAt := some (alignUp (s.now + 400) 4000) } } }

/-- REVERT (R172). -/
def execRevert (p : Packet) (s : State) : Host.Outcome State Fault Refusal :=
  .next (queued .revert p (fun _ s => revertRules s) (firstApplyAt p) s)

/-- REVERT_HANDOVER in beat r − 1 (R172): the ACTIVE hands over as by R155, the STANDBY with the old program in its revert area
takes the plant at edge r. A STANDBY no longer READY leaves the program that runs. -/
def State.revertHandover (s : State) : State :=
  if s.get F.role = rActive then
    if s.pair.revertAt ≠ some (s.now + 1) then s
    else if !s.pair.partnerReady then { s with pair := { s.pair with revertAt := none } }
    else
      let s := s.inc F.plannedCount
      { s with pair := { s.pair with handover := some { apply := s.now, cause := 11, after := 3 }, handing := true } }.raise
        344 1 0 [(32, s.now + 1), (8, 11)]                                                       -- SWITCHOVER_PLANNED
  else if s.get F.role = rStandby ∧ s.get F.ready = 1 ∧ s.get F.changePending = 1 ∧ s.rt.revertArea.isSome
      ∧ (s.now + 1) % 4000 = 0 then
    { (s.inc F.plannedCount) with pair := { s.pair with revertAt := some (s.now + 1), handing := true } }
  else s

/-- REVERT_HANDOVER (R172). -/
def execRevertHandover (s : State) : Host.Outcome State Fault Refusal := .next s.revertHandover

/-! Confirmation (R173). -/

/-- The change is confirmed, by 0 a command or 1 the end of confirm_window. -/
def State.confirmChange (s : State) (how : Nat) : State :=
  let g := (s.get F.programGen + 1) % 2 ^ 32
  let s := { s with rt := { s.rt with revertArea := none, resume := none }, pair := { s.pair with revertAt := none } }
  (((s.put F.programGen g).put F.changePending 0).raise 357 1 0 [(32, g), (8, how)]).journalProgram     -- CHANGE_CONFIRMED

/-- CHANGE_CONFIRM's refusal. -/
def changeConfirmRules (s : State) : Chk := need (s.get F.changePending == 1) 9

/-- CHANGE_CONFIRM in its Freeze. -/
def changeConfirmApply (p : Packet) (s : State) : Ans :=
  match changeConfirmRules s with
  | .bad st tl => { st := s, status := st, tlvs := tl }
  | .ok => { st := (s.auditBy p.sess 0x0C 0 3).confirmChange 0 }

/-- CHANGE_CONFIRM (R173). -/
def execChangeConfirm (p : Packet) (s : State) : Host.Outcome State Fault Refusal :=
  .next (queued .changeConfirm p (fun _ s => changeConfirmRules s) (firstApplyAt p) s)

/-- CONFIRM_WINDOW_END (R173): on the module that runs the change as ACTIVE; its STANDBY follows by tracking. -/
def execConfirmWindowEnd (s : State) : Host.Outcome State Fault Refusal :=
  .next (if s.get F.changePending = 1 ∧ (s.get F.role = rActive ∨ s.get F.role = rSolo) then s.confirmChange 1 else s)

/-! Known limitations (R572, R573). -/

/-- An active image of the affected type is of line 1. -/
def State.line1 (s : State) (t : Nat) : Bool := (s.slot t 0).version / 2 ^ 24 == 1

/-- The condition of entry `k` on the module's configuration (R572). -/
def State.klReached (s : State) (k : Nat) : Bool :=
  match k with
  | 1 => (List.range 8).any (fun c => s.get F.canMode c == 3)
  | 2 => (List.range 16).any (fun c => s.get F.dioDir c == 0 && s.get F.pulsed c == 1)
  | 4 => (List.range 8).any (fun c => s.get F.faEnable c == 1)
  | 5 => (List.range 96).any (fun l => s.get F.laneMode l == 3)
  | 6 => s.get F.pairMode == 0
  | 7 => s.get F.surgePolicy != 0
  | 8 => s.get F.ptpTransport == 2 && (List.range 12).any (fun q => s.get F.ptpRole q == 4)
  | 9 => s.get F.bootSplit == 1
  | 10 => (List.range 4).any (fun c => s.get F.aoMode c == 2)
  | 11 => (List.range 96).any (fun l => s.get F.laneMode l != 0 && ((s.lane l).bridge || s.get F.expectedType l == 0x14))
  | _ => true

/-- The image type an entry names, SUP where it names none that is an image. -/
def klType (k : Nat) : Nat :=
  match k with
  | 4 => 5
  | 5 => 4
  | 7 => 1
  | _ => 0

/-- Status of an entry: 0 open, 2 not to be fixed. -/
def klStatusOf (k : Nat) : Nat := if k = 4 ∨ k = 8 then 0 else 2

/-- Entry `k` applies: issue A, line 1, and its condition (R573). -/
def State.klApplies (s : State) (k : Nat) : Bool := s.get F.hwIssue == 1 && s.line1 (klType k) && s.klReached k

/-- KL_STATUS: one KL_REC for each entry, ascending. -/
def klRecs (s : State) : List Tlv :=
  (List.range 12).map (fun i =>
    tlvPacked 0x0046 [(1, i + 1), (1, if s.klApplies (i + 1) then 1 else 0), (1, klStatusOf (i + 1)), (1, 0)])

/-- KL_STATUS (R573). -/
def execKlStatus (p : Packet) (s : State) : Host.Outcome State Fault Refusal :=
  .next (served .klStatus p (fun _ _ => .ok) (fun _ s => { st := s, tlvs := klRecs s }) s)

end Sys2Proof.Machine
end

