-- ==== Sys2Proof/Machine/Objects.lean ====
section
/-! DEFINITION. Objects by index and sub-index: OBJ_READ, OBJ_WRITE, IO_CONFIG_SET, IO_DIAG_READ and LANE_STATUS (R8, R373, R374,
R412, R414, R421, R425, R578, R580), with the relations between fields that the chapters give. -/

namespace Sys2Proof.Machine

open Sys2Proof

/-! Values a field accepts (R580). -/

/-- The rational a pair of numerator and denominator stands for. -/
def ratOf (r : Int × Nat) : Rat := (r.1 : Rat) / ((r.2 : Nat) : Rat)

/-- A raw value of `w` bits lies within what the field accepts. The coefficients of R301 are checked against fir_taps. -/
def rngOk (r : Rng) (w v : Nat) : Bool :=
  match r with
  | .any => true
  | .nat lo hi => decide (lo ≤ v) && decide (v ≤ hi)
  | .int lo hi => decide (lo ≤ toSigned w v) && decide (toSigned w v ≤ hi)
  | .real lo hi => !f32Bad v && (match lo with | some a => decide (ratOf a ≤ f32 v) | none => true)
      && (match hi with | some a => decide (f32 v ≤ ratOf a) | none => true)
  | .port => decide (v ≤ 11) || v == 0xFF
  | .src => decide (v ≤ 2) || (decide (0x10 ≤ v) && decide (v < 0x30))
  | .tsrc => v == 0 || v == 2 || v == 0x40 || v == 0x41 || v == 0x42
  | .canlen => canLenOk true v
  | .addr64 => v % 64 == 0 && decide (v < 2 ^ 48)
  | .fir => true

/-! What a packet writes. -/

/-- One written sub-index: position of its OBJ_INDEX, OBJ_DATA and OBJ_MASK for BAD_PARAM, index, sub-index, data, mask. -/
structure WEntry where
  ipos : Nat
  dpos : Nat
  mpos : Nat
  raw : Nat
  len : Nat
  data : Nat
  mask : Option (Nat × Nat)
  deriving DecidableEq, Repr, Inhabited

def WEntry.idx (e : WEntry) : Nat := e.raw % 65536
def WEntry.sub (e : WEntry) : Nat := e.raw / 65536 % 256
def WEntry.fields (e : WEntry) : List Fld := subFields e.idx e.sub

/-- The bits to write: OBJ_MASK, or all of them (R418). -/
def WEntry.bits (e : WEntry) : Nat := match e.mask with | some m => m.2 | none => 256 ^ e.len - 1

/-- The mask selects a bit of the field. -/
def WEntry.covers (e : WEntry) (f : Fld) : Bool := bitsOf e.bits f.lo f.w != 0

/-- The value a field has after the write: masked bits from the data, the others as they stand. -/
def WEntry.merged (e : WEntry) (s : State) (f : Fld) : Nat :=
  let cur := s.get f (fldInst f e.idx)
  cur ^^^ ((cur ^^^ bitsOf e.data f.lo f.w) &&& bitsOf e.bits f.lo f.w)

/-- The entry of an OBJ_WRITE; its positions are those of its TLVs (R412). -/
def objEntry (p : Packet) : WEntry :=
  let d := (p.find? 0x0015).getD { t := 0x0015, len := 0, val := 0 }
  { ipos := p.pos 0x0014, dpos := p.pos 0x0015, mpos := p.pos 0x0016, raw := p.val 0x0014 0, len := d.len, data := d.val
    mask := (p.find? 0x0016).map (fun m => (m.len, m.val)) }

/-- The entries of an IO_CONFIG_SET: OBJ_INDEX, OBJ_DATA, and OBJ_MASK where one follows; positions are entry positions (R425).
None where the TLVs do not fall into such groups. -/
def ioEntries : List Tlv → Nat → Option (List WEntry)
  | [], _ => some []
  | a :: b :: c :: t, i =>
    if a.t = 0x0014 ∧ b.t = 0x0015 then
      if c.t = 0x0016 then
        (ioEntries t (i + 1)).map (fun l => { ipos := i, dpos := i, mpos := i, raw := a.val, len := b.len, data := b.val
                                              mask := some (c.len, c.val) } :: l)
      else (ioEntries (c :: t) (i + 1)).map (fun l =>
        { ipos := i, dpos := i, mpos := i, raw := a.val, len := b.len, data := b.val, mask := none } :: l)
    else none
  | [a, b], i =>
    if a.t = 0x0014 ∧ b.t = 0x0015 then
      some [{ ipos := i, dpos := i, mpos := i, raw := a.val, len := b.len, data := b.val, mask := none }]
    else none
  | [_], _ => none

/-! Checks. -/

/-- Objects of one module, written through its own hop in any role (R414). -/
def isLocal (idx : Nat) : Bool :=
  idx == 0x1010 || idx == 0x1020 || (decide (0x5010 ≤ idx) && decide (idx < 0x501C))
    || (decide (0x5020 ≤ idx) && decide (idx < 0x5024))

/-- A sub-index that configures: it has a field that is read and written. -/
def WEntry.configures (e : WEntry) : Bool := e.fields.any (fun f => f.acc == .rw)

/-- The path of a write (R414): module-local objects through the module, configuration through the pair, a module without
partner being both; a status object either way, but not on a STANDBY or SHADOW. DebugControl is the module's own (R494). -/
def pathChk (e : WEntry) (u : UnitSel) (s : State) : Chk :=
  let follower := s.get F.role == rStandby || s.get F.role == rShadow
  if e.idx = 0xA010 ∨ isLocal e.idx then need (u == .own || s.alone) 4
  else if u = .pair then .ok
  else if e.configures then need false (if follower then 3 else 4)
  else need (!follower) 3

/-- DebugControl takes writes only from the session of the debug session, under HALT (R494). -/
def debugChk (e : WEntry) (sess : Nat) (s : State) : Chk :=
  if e.idx ≠ 0xA010 then .ok
  else Chk.all [need (s.get F.dbg == 2 && s.get F.debugSession == sess) 4,
    if e.sub = 1 ∧ e.data % 256 = 1 then haltAdmitted s else .ok,
    if e.sub = 4 then require (s.get F.haltState == 1) stWrongMode (detail (s.get F.mode)) else .ok]

/-- The mode a field may be written in. -/
def wmodeOk (m : WMode) (mode : Nat) : Bool :=
  match m with
  | .all => true
  | .stop => mode == mStop
  | .stopStart => mode == mStop || mode == mStart
  | .notHold => mode != mHold

/-- One field of a write (R578, R580); `receipt` where the checks against current RO values are made. -/
def fieldChk (s : State) (e : WEntry) (receipt : Bool) (f : Fld) : Chk :=
  if !e.covers f then .ok
  else
    let m := bitsOf e.bits f.lo f.w
    let d := bitsOf e.data f.lo f.w
    match f.acc with
    | .rs => param (d &&& m == 0) e.dpos
    | .ro => param (!receipt || (d ^^^ s.get f (fldInst f e.idx)) &&& m == 0) e.dpos
    | .w1c => .ok
    | _ => Chk.all [require (wmodeOk f.wmode (s.get F.mode)) stWrongMode (detail (s.get F.mode)),
        param (rngOk f.rng f.w (if f.acc = .wo then d else e.merged s f)) e.dpos]

/-- On TP0 and TP1 only tp_width of TP1 is written (R327); sources 470 to 511 have no route (R469). -/
def indexOk (e : WEntry) : Bool :=
  e.idx != 0x5020 && (e.idx != 0x5021 || e.sub == 3) && !(decide (0xC100 + 470 ≤ e.idx) && decide (e.idx < 0xC100 + 512))

/-- One entry by itself. -/
def entryChk (s : State) (receipt : Bool) (e : WEntry) : Chk :=
  let fs := e.fields
  Chk.all [
    param (!fs.isEmpty && e.raw / 2 ^ 24 == 0) e.ipos,
    param (fs.any (fun f => f.acc != .ro && f.acc != .rs)) e.ipos,
    param (indexOk e) e.ipos,
    param (e.len == subBytes fs) e.dpos,
    param (match e.mask with | some m => m.1 == e.len | none => true) e.mpos,
    Chk.all (fs.map (fieldChk s e receipt))]

/-- The registers as they stand once the writes that wait for the next edge have taken effect (R345, R450, R72). -/
def State.settled (s : State) : State :=
  { s with regs := (s.can.pend ++ s.beat.edgePend).foldl (fun l (w : Nat × Nat) => regPut l w.1 w.2) s.regs }

/-- An entry's values in the registers, without what they cause. -/
def State.entryPut (s : State) (e : WEntry) : State :=
  e.fields.foldl (fun (s : State) f =>
    if f.acc = .rw ∧ e.covers f then s.put f (e.merged s f) (fldInst f e.idx) else s) s

/-- board_timeout by default of a lane mode (R236). -/
def boardDefault (mode : Nat) : Nat := if mode = 3 then 80 else 20

/-- The lanes whose mode a packet writes without their board_timeout. -/
def modeLanes (es : List WEntry) : List Nat :=
  (es.filter (fun e => decide (0x2100 ≤ e.idx) && decide (e.idx < 0x2160) && e.sub == 1 && e.covers F.laneMode
    && !es.any (fun x => x.idx == e.idx && x.sub == 4))).map (fun e => e.idx - 0x2100)

/-- All entries of a packet in the registers, and board_timeout by the new mode where the packet does not write it. -/
def State.scratch (s : State) (es : List WEntry) : State :=
  let s := es.foldl (fun (s : State) e => s.entryPut e) s.settled
  (modeLanes es).foldl (fun (s : State) k => s.put F.boardTimeout (boardDefault (s.get F.laneMode k)) k) s

/-- A DIO channel is named as a capture source (R247, R278). -/
def State.isCapSource (s : State) (k : Nat) : Bool :=
  (List.range 8).any (fun u => [s.get F.startSrc u, s.get F.stopSrc u].any (fun v => v == 0x10 + k || v == 0x20 + k))

/-- A DIO source names a channel that can be one (R278). -/
def State.capSourceOk (s : State) (v : Nat) : Bool :=
  decide (v < 0x10) || (s.get F.dioDir (v % 16) == 0 && s.get F.pulsed (v % 16) == 0)

/-- pulsed excludes in_filter, open-wire detection on Type 2, and rate and capture sources (R247). -/
def State.pulsedOk (s : State) (k : Nat) : Bool :=
  s.get F.pulsed k == 0 || (s.get F.inFilter k == 0 && !(s.get F.inType k == 2 && s.get F.openWireEn k == 1)
    && !s.isCapSource k && s.loops.loops.all (fun l => l.d.extSource / 2 ^ 28 != 2 || l.d.extSource % 2 ^ 28 != k))

/-- parallel is set on the lowest channel of a pair or quad of class H outputs (R253). -/
def State.parallelOk (s : State) (k : Nat) : Bool :=
  let out := fun (j : Nat) => s.get F.dioDir j == 1
  match s.get F.parallel k with
  | 0 => true
  | 1 => (k == 8 || k == 10 || k == 12 || k == 14) && out k && out (k + 1)
  | _ => (k == 8 || k == 12) && out k && out (k + 1) && out (k + 2) && out (k + 3)

/-- The FIR is linear-phase, its coefficients within ±2 (R283). -/
def State.firOk (s : State) (k : Nat) : Bool :=
  let n := s.get F.firTaps k
  let c := s.get F.firCoeff k
  let tap := fun (i : Nat) => c / 2 ^ (32 * i) % 2 ^ 32
  (List.range n).all (fun i => !f32Bad (tap i) && decide (-2 ≤ f32 (tap i)) && decide (f32 (tap i) ≤ 2)
    && tap i == tap (n - 1 - i))

/-- ObjConfig of a CAN object, as its fields stand. -/
def State.objConfig (s : State) (o : Nat) : Nat := subVal s (subFields (0x6400 + o) 1) (0x6400 + o)

/-- A filter element (R338, R351): identifiers of 11 bits with f_ext 0; an enabled RANGE in order; an enabled one that stores
names an RX object. -/
def State.filterOk (s : State) (e : Nat) : Bool :=
  let t := s.get F.fType e
  let a := s.get F.fId1 e
  let b := s.get F.fId2 e
  (s.get F.fExt e == 1 || (decide (a < 2048) && decide (b < 2048)))
    && (t == 0 || ((t != 1 || decide (a ≤ b)) && (s.get F.fAction e == 1 || s.get F.objDir (128 * (e / 256) + s.get F.fObject e) == 1)))

/-- The relations between the fields of an object, once a packet's values stand in the registers. -/
def State.relationsOk (s : State) (idx : Nat) : Bool :=
  if idx = 0x1000 then s.get F.wslDownPorts &&& s.get F.wslUpPorts == 0
  else if 0x2100 ≤ idx ∧ idx < 0x2160 then
    let m := s.get F.laneMode (idx - 0x2100)
    decide ((if m = 2 then 4 else if m = 3 then 40 else 1) ≤ s.get F.boardTimeout (idx - 0x2100))
  else if 0x3010 ≤ idx ∧ idx < 0x3020 then s.pulsedOk (idx - 0x3010) && s.parallelOk (idx - 0x3010)
  else if 0x3070 ≤ idx ∧ idx < 0x3078 then
    s.capSourceOk (s.get F.startSrc (idx - 0x3070)) && s.capSourceOk (s.get F.stopSrc (idx - 0x3070))
  else if 0x4018 ≤ idx ∧ idx < 0x4020 then s.firOk (idx - 0x4018)
  else if idx = 0x5001 then s.get F.ptpProfile == 0 || s.get F.ptpTransport == 0
  else if 0x5010 ≤ idx ∧ idx < 0x501C then
    let q := idx - 0x5010
    s.get F.ptpRole q != 4 || (decide (4 ≤ q) && decide (q ≤ 7) && s.get F.ptpRole (ringMate q) == 4)
  else if 0x5022 ≤ idx ∧ idx < 0x5024 then
    decide (s.get F.chimePhase (idx - 0x5020) < s.get F.chimePeriod (idx - 0x5020)) && (s.get F.tpMode (idx - 0x5020) != 1 ||
      gridOk (s.get F.chimePeriod (idx - 0x5020)) (s.get F.chimePhase (idx - 0x5020)) (s.get F.tpWidth (idx - 0x5020)))
  else if 0x6010 ≤ idx ∧ idx < 0x6018 then
    decide (s.get F.nomSjw (idx - 0x6010) ≤ s.get F.nomTseg2 (idx - 0x6010))
      && decide (s.get F.dataSjw (idx - 0x6010) ≤ s.get F.dataTseg2 (idx - 0x6010))
  else if 0x6400 ≤ idx ∧ idx < 0x6800 then
    canObjOk (s.objConfig (idx - 0x6400)) (s.get F.objId (idx - 0x6400)) (s.get F.objTxPeriod (idx - 0x6400))
      (s.get F.objTxPhase (idx - 0x6400))
  else if 0x6800 ≤ idx ∧ idx < 0x7000 then s.filterOk (idx - 0x6800)
  else if idx = 0xC000 then decide (s.get F.wdOpen + 500 ≤ s.get F.wdClose)
  else if idx = 0xD000 then
    decide (((List.range 5).map (fun i => s.get (F.sliceT0.next i))).foldl (· + ·) 0 ≤ 170)
  else true

/-- The checks of a packet's writes: each entry by itself, then the relations of the objects it writes. -/
def writesChk (es : List WEntry) (receipt : Bool) (s : State) : Chk :=
  let base := s.settled
  Chk.all [Chk.all (es.map (entryChk base receipt)),
    let t := s.scratch es
    Chk.all (es.map (fun e => param (t.relationsOk e.idx) e.dpos))]

/-! Effects. -/

/-- Writes that wait for the next edge: WSL-E ports (R72) and routes (R450). -/
def atNextEdge (idx sub : Nat) : Bool :=
  (idx == 0x1000 && (sub == 2 || sub == 3)) || (decide (0xC100 ≤ idx) && decide (idx < 0xC300))

/-- CAN configuration, objects and filters wait for it together (R345). -/
def atCanEdge (idx sub : Nat) : Bool :=
  (decide (0x6010 ≤ idx) && decide (idx < 0x6018) && decide (sub ≤ 0x0A)) || (decide (0x6400 ≤ idx) && decide (idx < 0x7000))

/-- A field of a write with access RW takes its value, or waits for its edge. -/
def State.writeField (s : State) (e : WEntry) (f : Fld) (v : Nat) : State :=
  let k := fldInst f e.idx
  if atNextEdge e.idx e.sub then s.atEdge f v k
  else if atCanEdge e.idx e.sub then { s with can := { s.can with pend := s.can.pend ++ [(fldKey f k, v % 2 ^ f.w)] } }
  else s.put f v k

/-- 1 written to a W1C field: it clears, with what else the write does (R250, R340, R515). -/
def State.clearField (s : State) (f : Fld) (k : Nat) : State :=
  if f = F.dioOverload then s.dioClear k
  else if f = F.objNoPeer then
    s.canResume k
  else if f = F.crashSeen then (s.put f 0).latch (fun l => { l with crash := false })
  else s.put f 0 k

/-- A value written to a WO field. -/
def State.triggerField (s : State) (f : Fld) (k v : Nat) : State :=
  if f = F.countPreset then s.encPreset k v
  else if f = F.canRecoverBit then (if v = 1 then s.canRecover k else s)
  else if f = F.dbgCmd then
    if v = 1 then { s with sec := { s.sec with cmd := 1 } }
    else if v = 2 then s.dbgResume
    else if v = 3 then s.dbgStep
    else s.endDebug 1
  else s

/-- The whole configuration of a CAN object or filter, with the writes that wait for the edge: 12 bytes. -/
def State.canObjWord (s : State) (idx : Nat) : Nat :=
  let sub := fun (n : Nat) => (subFields idx n).foldl (fun a (f : Fld) =>
    let key := fldKey f (fldInst f idx)
    let v := match s.can.pend.reverse.find? (fun (w : Nat × Nat) => w.1 == key) with
      | some w => w.2
      | none => s.get f (fldInst f idx)
    if f.acc = .rw then a + v * 2 ^ f.lo else a) 0
  if idx < 0x6800 then sub 1 + sub 2 * 2 ^ 32 + sub 3 * 2 ^ 64 + sub 4 * 2 ^ 80 else sub 1 + sub 2 * 2 ^ 32 + sub 3 * 2 ^ 64

/-- The Journal record of a written configuration sub-index (R437): type 0x05 for CAN objects and filters, else 0x01. -/
def State.journalWrite (s t : State) (e : WEntry) : State :=
  let fs := e.fields
  let v := fs.foldl (fun a f => if f.acc = .rw then a + t.get f (fldInst f e.idx) * 2 ^ f.lo else a) 0
  if !e.configures ∨ e.idx = 0xA010 then s
  else if 0x6400 ≤ e.idx ∧ e.idx < 0x7000 then s.journal 5 e.idx 12 (s.canObjWord e.idx) true
  else s.journal 1 (e.idx + e.sub * 65536) (subBytes fs) v (!isLocal e.idx)

/-- A lane takes its new mode: what its last board was is gone (R234, R236). -/
def State.laneModeWritten (s : State) (k : Nat) : State :=
  let m := s.get F.laneMode k
  if s.get F.laneModeNow k = m then s
  else
    let s := (((s.put F.laneModeNow m k).put F.laneState lsAbsent k).put F.laneLink 0 k).put F.laneBoards 0 k
    { s.putLane { k := k } with lanes := { (s.putLane { k := k }).lanes with
        l3 := (s.putLane { k := k }).lanes.l3.filter (fun b => b.lane != k) } }

/-- What a write of an object causes beside its fields. `old` is the sub-index before it. -/
def State.written (s : State) (e : WEntry) (old : Nat) : State :=
  let i := e.idx
  if 0x2100 ≤ i ∧ i < 0x2160 ∧ e.sub = 1 then s.laneModeWritten (i - 0x2100)
  else if 0x2100 ≤ i ∧ i < 0x2160 ∧ e.sub = 6 then s.typeWritten (i - 0x2100)
  else if 0x2200 ≤ i ∧ i < 0x2240 ∧ e.sub = 1 then
    if s.get F.wslPort (i - 0x2200) = 0xFF then s.put F.wslState 0 (i - 0x2200) else s
  else if 0x3010 ≤ i ∧ i < 0x3020 then
    s.dioWritten (i - 0x3010)
  else if 0x4010 ≤ i ∧ i < 0x4018 then s.faWritten 0x4010 e.sub (i - 0x4010) old
  else if 0x4018 ≤ i ∧ i < 0x4020 then s.faWritten 0x4018 e.sub (i - 0x4018) old
  else if i = 0x5001 ∨ (0x5010 ≤ i ∧ i < 0x501C) then s.showPorts
  else if 0x5022 ≤ i ∧ i < 0x5024 then s.pinWritten (i - 0x5020) s.now
  else if i = 0xA010 ∧ e.sub = 4 then s.dbgWindowWrite e.data
  else if i = 0xD000 then s.put F.sliceSum (((List.range 5).map (fun j => s.get (F.sliceT0.next j))).foldl (· + ·) 0)
  else s

/-- One entry is applied. `t` holds the packet's values. -/
def State.applyEntry (s t : State) (e : WEntry) : State :=
  let old := subVal s e.fields e.idx
  let s := e.fields.foldl (fun (s : State) f =>
    let k := fldInst f e.idx
    if !e.covers f then s
    else match f.acc with
      | .rw => if e.idx = 0xA010 ∧ e.sub = 4 then s else s.writeField e f (t.get f k)
      | .w1c => if bitsOf e.data f.lo f.w &&& bitsOf e.bits f.lo f.w ≠ 0 then s.clearField f k else s
      | .wo => s.triggerField f k (bitsOf e.data f.lo f.w)
      | _ => s) s
  (s.journalWrite t e).written e old

/-- A packet's writes are applied, all together; the health checks that apply follow the configuration (R145). -/
def State.applyWrites (s : State) (es : List WEntry) : State :=
  let t := s.scratch es
  let s := (modeLanes es).foldl (fun (s : State) k =>
    (s.put F.boardTimeout (t.get F.boardTimeout k) k).journal 1 (0x2100 + k + 4 * 65536) 2 (t.get F.boardTimeout k) true) s
  (es.foldl (fun (s : State) e => s.applyEntry t e) s).showApplicable.judgeReady

/-- The fields an entry writes, as targets of the competition of R394: the keys of their values. -/
def WEntry.targets (e : WEntry) : List Nat :=
  (e.fields.filter (fun f => e.covers f && f.acc != .rs && f.acc != .ro)).map (fun f => fldKey f (fldInst f e.idx))

/-! OBJ_WRITE (R421). -/

/-- A unit whose objects lie behind a mailbox (R212, R360). -/
def boardUnit (u : UnitSel) (s : State) : Option (Nat × Nat) :=
  match u with
  | .slot k => if s.get F.laneMode k = 3 then none else some (k, 0xFFFF)
  | .sub k j => some (k, j)
  | _ => none

/-- OBJ_WRITE's checks. A mailbox section carries no mask, and the identity objects are read only. -/
def objWriteChk (p : Packet) (receipt : Bool) (u : UnitSel) (s : State) : Chk :=
  let e := objEntry p
  Chk.all [needTlv p 0x0014, needTlv p 0x0015,
    need (!(decide (0xA000 ≤ e.idx) && decide (e.idx < 0xB000)) || s.get F.sec != 0) 2,
    if u = .own ∨ u = .pair then Chk.all [pathChk e u s, debugChk e p.sess s, writesChk [e] receipt s]
    else Chk.all [param ((boardUnit u s).isSome && decide (0x1000 ≤ e.idx) && decide (e.idx < 0xF000)
        && e.raw / 2 ^ 24 == 0) (p.pos 0x0014),
      param (!p.has 0x0016) (p.pos 0x0016)]]

/-- OBJ_WRITE in its Freeze: the mode and range rules are checked again. -/
def objWriteApply (p : Packet) (u : UnitSel) (s : State) : Ans :=
  match objWriteChk p false u s with
  | .bad st tl => { st := s, status := st, tlvs := tl }
  | .ok => { st := s.applyWrites [objEntry p] }

/-- OBJ_WRITE to a board leaves by mailbox, and is answered after its reply. -/
def objMailed (p : Packet) (u : UnitSel) (s : State) : State :=
  let e := objEntry p
  match boardUnit u s with
  | some (k, j) =>
    if s.mailBusy k j then s.answer (mkReply .objWrite p s (some u) 0 stBusy [])
    else s.mailSend .objWrite p k j 2 e.raw e.len e.data
  | none => s

/-- OBJ_WRITE (R421). -/
def execObjWrite (p : Packet) (s : State) : Host.Outcome State Fault Refusal :=
  let toBoard : Bool := match admission .objWrite p s with
    | .go u => (boardUnit u s).isSome
    | _ => false
  .next (if toBoard then deferred .objWrite p (objWriteChk p true) (objMailed p) s
    else queued .objWrite p (objWriteChk p true) (firstApplyAt p) s)

/-! IO_CONFIG_SET (R425). -/

/-- IO_CONFIG_SET's checks: 1 to 256 entries of objects 0x2000 to 0x6FFF, all of them. -/
def ioConfigChk (p : Packet) (receipt : Bool) (u : UnitSel) (s : State) : Chk :=
  match ioEntries p.tlvs 1 with
  | none => param false (p.pos 0x0014)
  | some es => Chk.all [
      param (decide (1 ≤ es.length) && decide (es.length ≤ 256)) (p.pos 0x0014),
      Chk.all (es.map (fun e => param (decide (0x2000 ≤ e.idx) && decide (e.idx < 0x7000)) e.ipos)),
      Chk.all (es.map (fun e => pathChk e u s)), writesChk es receipt s]

/-- IO_CONFIG_SET in its Freeze: every entry, or none. -/
def ioConfigApply (p : Packet) (u : UnitSel) (s : State) : Ans :=
  match ioConfigChk p false u s with
  | .bad st tl => { st := s, status := st, tlvs := tl }
  | .ok => { st := s.applyWrites ((ioEntries p.tlvs 1).getD []) }

/-- IO_CONFIG_SET (R425). -/
def execIoConfigSet (p : Packet) (s : State) : Host.Outcome State Fault Refusal :=
  .next (queued .ioConfigSet p (ioConfigChk p true) (firstApplyAt p) s)

/-! OBJ_READ (R421). -/

/-- Bytes of a sub-index as OBJ_READ sees it: those of the object map, the identity objects of every unit, and the trace
buffer of 16 MiB (R495). None where there is no such sub-index. -/
def objSize (u : UnitSel) (idx sub : Nat) (s : State) : Option Nat :=
  if idx = 0 then if 1 ≤ sub ∧ sub ≤ 8 then ((s.identity u)[sub - 1]?).map (fun f => f.1) else none
  else if idx = 1 then if 1 ≤ sub ∧ sub ≤ 4 then ((s.epochFields u)[sub - 1]?).map (fun f => f.1) else none
  else if u ≠ .own ∧ u ≠ .pair then none
  else if idx = 0xA011 ∧ sub = 1 then some 16777216
  else match subFields idx sub with
    | [] => none
    | fs => some (subBytes fs)

/-- `n` bytes of the trace buffer from `off`; what holds no item reads 0. -/
def State.traceBytes (s : State) (off n : Nat) : Nat :=
  let items := (s.sec.trace.drop (off / 16)).take (n / 16 + 2)
  items.foldr (fun x a => x % 2 ^ 128 + a * 2 ^ 128) 0 / 256 ^ (off % 16)

/-- The value of a sub-index. -/
def objValue (u : UnitSel) (idx sub : Nat) (s : State) : Nat :=
  if idx = 0 then (((s.identity u)[sub - 1]?).map (fun f => f.2)).getD 0
  else if idx = 1 then (((s.epochFields u)[sub - 1]?).map (fun f => f.2)).getD 0
  else if idx = 0xA010 ∧ sub = 4 then s.dbgWindowRead
  else subVal s (subFields idx sub) idx

/-- A unit's own mailbox is read, but for its identity, which the module keeps. -/
def readMailbox (p : Packet) (u : UnitSel) (s : State) : Option (Nat × Nat × Nat × Nat × Nat × Nat) :=
  let raw := p.val 0x0014 0
  if raw % 65536 ≤ 1 then none else (boardUnit u s).map (fun m => (m.1, m.2, 1, raw, 0, 0))

/-- OBJ_READ's checks: an index and sub-index of the unit's map; a sub-index over 65,280 bytes names its part (R401). -/
def objReadChk (p : Packet) (u : UnitSel) (s : State) : Chk :=
  let raw := p.val 0x0014 0
  let n := objSize u (raw % 65536) (raw / 65536 % 256) s
  Chk.all [needTlv p 0x0014,
    param (raw / 2 ^ 24 == 0 && (n.isSome || ((boardUnit u s).isSome && decide (0x1000 ≤ raw % 65536)
      && decide (raw % 65536 < 0xF000)))) (p.pos 0x0014),
    if 65280 < n.getD 0 then Chk.all [needTlv p 0x8008, needTlv p 0x0026] else .ok]

/-- OBJ_READ: the bytes asked for, and MORE where the sub-index goes on. -/
def objReadBody (p : Packet) (u : UnitSel) (s : State) : Ans :=
  let raw := p.val 0x0014 0
  let idx := raw % 65536
  let sub := raw / 65536 % 256
  let size := (objSize u idx sub s).getD 0
  let off := min (p.val 0x8008 0) size
  let n := min (min (p.val 0x0026 size) (size - off)) 65280
  let v := if idx = 0xA011 ∧ sub = 1 then s.traceBytes off n else objValue u idx sub s / 256 ^ off
  { st := s, tlvs := [tlv 0x0015 n v], more := decide (off + n < size) }

/-- OBJ_READ (R421). -/
def execObjRead (p : Packet) (s : State) : Host.Outcome State Fault Refusal :=
  .next (mailed .objRead p (objReadChk p) (readMailbox p) (objReadBody p) s)

/-! IO_DIAG_READ and LANE_STATUS (R425). -/

/-- IO_DIAG_READ's checks: a handle of a point. -/
def ioDiagChk (p : Packet) (_ : UnitSel) (s : State) : Chk :=
  Chk.all [needTlv p 0x0010, param (match s.rt.handle? (p.val 0x0010 0) with
    | some v => v.kind == 3 || v.kind == 4
    | none => false) (p.pos 0x0010)]

/-- The live value of a point and its quality, unforced (R96). -/
def RtSt.liveOf (rt : RtSt) (v : ValDef) : Nat × Nat :=
  let r := { rt with forces := [], image := rt.plain }.read v
  ((valAt rt.live v.idx).getD r.1, setBit r.2 2 false)

/-- The sub-index of a channel's status: 0, but ObjStatus of a CAN object and STATE of a WSL-E station. -/
def statusSub (idx : Nat) : Nat :=
  if 0x6400 ≤ idx ∧ idx < 0x6800 then 5 else if 0x2200 ≤ idx ∧ idx < 0x2240 then 0x0A else 0

/-- IO_DIAG_READ: the live value, then the status object of the channel. -/
def ioDiagBody (p : Packet) (_ : UnitSel) (s : State) : Ans :=
  match s.rt.handle? (p.val 0x0010 0) with
  | none => { st := s }
  | some v =>
    let sub := statusSub v.statusObj
    { st := s, tlvs := [valRec (handleOf v) stOk (s.rt.liveOf v).2 (s.rt.liveOf v).1,
        tlv 0x0014 4 (v.statusObj + sub * 65536), packObj s v.statusObj sub sub] }

/-- IO_DIAG_READ. -/
def execIoDiagRead (p : Packet) (s : State) : Host.Outcome State Fault Refusal :=
  .next (served .ioDiagRead p (ioDiagChk p) (ioDiagBody p) s)

/-- LANE_STATUS: one lane, or all of them. -/
def laneStatusBody (p : Packet) (_ : UnitSel) (s : State) : Ans :=
  let l := p.val 0x0040 0
  { st := s, tlvs := (if l = 0xFF then List.range 96 else [l]).map (fun k => packObj s (0x2000 + k) 0 0x0A) }

/-- LANE_STATUS. -/
def execLaneStatus (p : Packet) (s : State) : Host.Outcome State Fault Refusal :=
  .next (served .laneStatus p (fun _ _ => needTlv p 0x0040) (laneStatusBody p) s)

end Sys2Proof.Machine
end

