-- ==== Sys2Proof/Machine/Start.lean ====
section
/-! DEFINITION. START: the sequence S1 to S12, partner discovery and the role decision (R66 to R72, R436, R464). What the
boot finds at each step is the operand of the command. -/

namespace Sys2Proof.Machine

open Sys2Proof

/-! What a START resets (R32, R73, R235, R273, R278, R349, R408, R468, R517). -/

/-- Fields that restart at START, beside those of whole status objects. -/
def startFields : List Fld :=
  [F.minIdle, F.damperCount, F.reservePeak, F.taskSkips, F.taskSkipTotal, F.taskErrorRuns, F.taskState, F.taskExecPeak,
   F.peakT0, F.peakT1, F.peakT2, F.peakT3, F.peakT4, F.dirtyPeak, F.retainLateCount, F.lateCount, F.shedCount, F.finishPeak,
   F.grpSelected, F.grpNoneCompeting, F.grpPresent, F.grpCompeting, F.grpSwitchCount,
   F.overflowCount, F.trackPeak, F.crossover, F.crossoverCount, F.crossoverMap, F.partnerLanes, F.resyncing, F.pairState,
   F.lastClosed, F.linkUp, F.claimSeen,
   F.hcFailCount, F.hcState, F.silent, F.silentCount, F.driveEn, F.wslState, F.wslBeatMismatch, F.wslGateOverrun,
   F.orphanStop, F.capRestart, F.coincident, F.capTimeout, F.capOverrun,
   F.tcapOrphanStop, F.tcapRestart, F.tcapCoincident, F.tcapTimeout, F.tcapOverrun,
   F.gmPresent, F.gmIdentity, F.sourcePort, F.gmChanges, F.ownOffset, F.holdoverBound, F.holdoverTime, F.align,
   F.stepPending, F.edgeOffset, F.timeLocked, F.tpState, F.tpPulses, F.tpRearms, F.tpMerged,
   F.objLost, F.objNoPeer, F.objTxFailed, F.objPending, F.objTxDropped, F.objAckErrRun, F.objOverwrites, F.objLostCount,
   F.conflicts, F.replays, F.svcCrcErrors, F.tokenRejects, F.raised, F.surge, F.surgeLeft, F.surgeBlock, F.linkOk,
   F.resetState, F.releaseState, F.page, F.displayOn]

/-- The status objects that restart as a whole, first index and count: lanes, DIO, AO, ENC, FA and CAN status, PowerStats,
FaultStatus, ShadowCompare. -/
def startObjects : List (Nat × Nat) :=
  [(0x2000, 96), (0x3030, 16), (0x3058, 4), (0x3068, 4), (0x4020, 8), (0x6020, 8), (0xB001, 1), (0xC002, 1),
   (0x7200, 1)]

/-- A register key that START takes back to its default. -/
def startClears (key : Nat) : Bool :=
  startObjects.any (fun o => decide (o.1 ≤ keyObj key) && decide (keyObj key < o.1 + o.2))
    || startFields.any (fun f => decide (f.home ≤ key) && (key - f.home) % 4194304 == 0 && decide ((key - f.home) / 4194304 < f.cnt))

/-- The volatile state of the blocks is as after power-up; what waits for the recorder stays (R18), the event ring is empty
(R577). -/
def State.startReset (s : State) : State :=
  let s := { s with
    regs := s.regs.filter (fun r => !startClears r.1)
    ev := { router := s.ev.router }
    lcp := { nextSess := s.lcp.nextSess, gongSerial := s.lcp.gongSerial, gongSeen := s.lcp.gongSeen }
    pair := { single := s.get F.pairMode == 1, preferred := s.get F.preferredSide }
    lanes := {}
    field := {}
    can := {}
    sec := { audit := s.sec.audit }
    wd := { s.wd with hbStopped := false, warmRestart := false, clockStopped := false, waitAck := false, running := false,
                       tokenMissed := false, erase := 0 }
    time := { linkDown := s.time.linkDown, announces := s.time.announces }
    panel := { events := [], keyFault := s.panel.keyFault }
    beat := { opBeats := s.beat.opBeats } }
  (List.range 96).foldl (fun (s : State) k => s.put F.laneModeNow (s.get F.laneMode k) k) s

/-- START fails: SAFE, from which the beat runs (R55; DEDUCED, log entry 28). A clearing that led to this START is spent
(R76). -/
def State.startFails (s : State) (cause : Nat) : State :=
  let s := s.enterSafe cause
  ({ s with beat := { s.beat with runs := true }, wd := { s.wd with endInStop := false } }).showLeds

/-! S1 (R66, R506, R507, R514, R540). -/

/-- S1 with every rail in regulation: feeds, key and slot are read, the fault latch reported, the wake source recorded. -/
def State.startS1 (s : State) (i : StartIn) : State :=
  let s := s.startReset
  let s := ((((s.put F.key i.key).put F.side i.side).put F.feedA i.feedA).put F.feedB i.feedB).put F.pwr 0
  let s := { s with panel := { s.panel with bootFail := false, keyFault := false } }
  let s := if i.powerOff then ((s.put F.freezeLate 0).put F.reserveExceeded 0).put F.commitLate 0 else s
  let s := if i.key = 3 then s.keyFaults else s
  let s := s.onPwr (fun p => { p with s1Fails := 0 })
  let crash := s.pwr.latch.crash && i.powerOff && i.latchValid
  let s := (s.putFlag F.latchValid i.latchValid).put F.lastWake i.wake
  let s := if crash then (s.put F.crashSeen 1).raise 361 1 3 [(8, s.pwr.latch.railId), (8, s.pwr.latch.railStep)]
    else s                                                                             -- PWRDN_RAIL_FAULT
  let s := s.latch (fun l => { (if i.latchValid then l else {}) with wake := i.wake })
  let s := (s.put F.faultLatch s.pwr.latch.word).raise 365 1 0 [(8, i.wake)]            -- WAKE
  let s : State := { s with
    lanes := { s.lanes with tall := i.fullHeight }, pair := { s.pair with claimIn := i.claimAsserted } }
  let s := s.putFlag F.claimSeen i.claimAsserted
  if i.resetHeld then s.stuckReset true else s

/-! S3 (R67, R436, R438, R442, R464). -/

/-- The default of a field in instance `k`: event_route leaves out the recorder for the quiet sources (R469). -/
def dfltOf (f : Fld) (k : Nat) : Nat := if f = F.routeRecorder ∧ quietSources.contains k then 0 else f.dflt

/-- A sub-index of the object map takes the value of a Journal record, or its defaults. -/
def State.restoreSub (s : State) (idx sub : Nat) (v : Option Nat) : State :=
  (subFields idx sub).foldl (fun (s : State) f =>
    if f.acc = .rw then
      s.put f (match v with | some x => bitsOf x f.lo f.w | none => dfltOf f (fldInst f idx)) (fldInst f idx)
    else s) s

/-- A CAN object or filter takes the value of its record, or its defaults. -/
def State.restoreCan (s : State) (idx : Nat) (v : Option Nat) : State :=
  let part := fun (lo w : Nat) => v.map (fun x => bitsOf x lo w)
  let s := ((s.restoreSub idx 1 (part 0 32)).restoreSub idx 2 (part 32 32)).restoreSub idx 3 (part 64 (if idx < 0x6800 then 16 else 32))
  if idx < 0x6800 then s.restoreSub idx 4 (part 80 16) else s

/-- The key of a record lost after the stop of a scan takes the value of the newest record that is left, or its default:
configuration, CAN objects, loop coefficients, overlay, forces (R436). Other keys keep what the module holds (log entry 28). -/
def State.forgetRec (s : State) (kept : List JRec) (r : JRec) : State :=
  let last : Option Nat := match kept.reverse.find? (fun x => x.type == r.type && x.key == r.key) with
    | some x => if x.tomb then none else some x.payload
    | none => none
  let ix := r.key % 2 ^ 22
  if r.type = 1 then s.restoreSub (r.key % 65536) (r.key / 65536 % 256) last
  else if r.type = 5 then s.restoreCan r.key last
  else if r.type = 4 then
    { s with loops := { s.loops with saved := s.loops.saved.filterMap (fun c =>
        if c.1 / 256 == r.key then last.map (fun v => (c.1, bitsOf v (32 * (c.1 % 256 - 1)) 32)) else some c) } }
  else if r.type = 6 then
    { s with rt := { s.rt with overlay := match last with
        | some v => regPut s.rt.overlay ix v
        | none => unassoc s.rt.overlay ix } }
  else if r.type = 7 then
    { s with rt := { s.rt with forces := match last with
        | some v => regPut s.rt.forces ix v
        | none => unassoc s.rt.forces ix } }
  else s

/-- The records before the stop of the scan (R436). -/
def State.scanned (s : State) (i : StartIn) : List JRec :=
  recScan 0 (match i.unreadable with | some n => s.jr.live.take n | none => s.jr.live)

/-- The records that the scan found are the Journal; the next one is written at the stop. -/
def State.journalIs (s : State) (kept : List JRec) : State :=
  let s := { s with jr := { s.jr with live := kept } }
  let next := match kept.getLast? with | some r => r.seq + 1 | none => 1
  ((s.put F.liveRecords kept.length).put F.liveBytes (pendBytes kept)).put F.nextSeq next

/-- A committed record is unreadable: the scan stops there, and it and the later ones are lost. -/
def State.journalCut (s : State) (kept : List JRec) : State :=
  let lost := s.jr.live.drop kept.length
  let seq := match lost with | r :: _ => r.seq | [] => s.get F.nextSeq
  let s := lost.foldl (fun (s : State) r => s.forgetRec kept r) s
  s.raise 375 1 3 [(8, 2), (32, seq)]                                                   -- JOURNAL_CORRUPT

/-- Operating time goes on from its last record plus 60 s after a torn record or a crash-down (R438). -/
def State.resumeOpTime (s : State) : State :=
  match s.jr.live.reverse.find? (fun r => r.type == 0x10 && r.key == 0) with
  | some r => { s with beat := { s.beat with opBeats := max s.beat.opBeats (r.payload * 250 + 240000) } }
  | none => { s with beat := { s.beat with opBeats := s.beat.opBeats + 240000 } }

/-- Exactly one superblock copy is valid (R436). -/
def State.sbSpoilt (s : State) (i : StartIn) : Bool :=
  (i.sbValid.1 && sbOk s.jr.sb0) != (i.sbValid.2 && sbOk s.jr.sb1)

/-- The live half of R433. A Roll that power has cut off begins anew, unless its switch stands: with both copies valid the
one in writing was complete (log entry 28). -/
def State.chooseHalf (s : State) (i : StartIn) : State :=
  let s := if s.get F.rollState = 2 ∧ !s.sbSpoilt i then s.rollSwitch else s
  let s := if s.get F.rollState = 0 then s
    else ({ s with jr := { s.jr with other := [], otherBytes := 0, copied := 0, rollWanted := true } }).put F.rollState 0
  match s.superblock? i.sbValid.1 i.sbValid.2 with
  | none => s
  | some b =>
    let s := if b.half = s.get F.liveHalf then s else s.swapHalves
    s.put F.sbSeq b.seq

/-- Recovery of the Journal (R436). -/
def State.recoverJournal (s : State) (i : StartIn) : State :=
  let spoilt := s.sbSpoilt i
  let s := s.chooseHalf i
  let s := s.jr.lost.foldl (fun (s : State) r => s.forgetRec s.jr.live r) s
  let s := { s with jr := { s.jr with lost := [] } }
  let kept := s.scanned i
  let corrupt := decide (kept.length < s.jr.live.length)
  let s := s.put F.lastRecovery
    (if corrupt then 4 else if spoilt then 3 else if i.torn then 1 else if s.jr.rollWanted then 2 else 0)
  let s := if spoilt then s.raise 375 1 3 [(8, 1), (32, s.get F.nextSeq)] else s
  let s := if i.torn then (s.inc F.tornCount).raise 374 1 1 [(32, s.get F.nextSeq)] else s     -- JOURNAL_TORN
  let s := (if corrupt then s.journalCut kept else s).journalIs kept
  let s := { s with jr := { s.jr with rollWanted := (s.jr.rollWanted || spoilt) && s.rollDue } }
  if i.torn ∨ (i.powerOff ∧ s.pwr.latch.crash ∧ i.latchValid) then s.resumeOpTime else s

/-- The Toll counts of Journal and latch: the higher of each, in both copies (R464). -/
def State.mergeToll (s : State) : State :=
  let l := s.pwr.latch
  let more := l.tollT - s.wd.instants.length
  let s := { s with wd := { s.wd with instants := s.wd.instants ++ List.replicate more (l.expiryOp * 250) } }
  let s := (s.put F.wdTotal (max (s.get F.wdTotal) l.wdTotal)).put F.toll (min s.wd.instants.length 15)
  let t := s.wd.instants.length
  let s := s.latch (fun l => { l with tollT := t, wdTotal := s.get F.wdTotal })
  s.journalToll.journal 0x10 3 4 (s.get F.wdTotal) false

/-- An event that the latch holds as not recorded is raised again, with the latch's beat (R470). TOLL_STEP carries what the
power manager has counted; data that the latch does not hold are free values. -/
def State.raiseAgain (s : State) (k : Nat) : State :=
  let src := 394 + k
  if (s.ev.router ++ s.jr.recBuf).any (fun r => r.src == src) then s
  else
    let n := s.ev.router.length
    let l := s.pwr.latch
    let (v, s) := s.fresh 32
    let s := if k = 5 then s.raiseLatched src 1 (if s.wd.stepDone = 3 then 4 else 3)
        [(32, l.tollT), (8, s.wd.stepDone), (8, s.wd.step), (8, l.wdCause)]
      else s.raiseLatched src 1 (if k < 3 then 3 else if k = 3 then 2 else if k = 4 then 1 else 4)
        (if k = 0 then [(8, l.wdCause), (32, v), (32, l.expiryBeat)] else [(8, v), (32, v)])
    { s with ev := { s.ev with router := s.ev.router.mapIdx (fun j (r : EvRec) =>
        if j < n then r else { r with beat := l.expiryBeat }) } }

/-- The SAFE record of S3: the Journal's, else that of the latch (R461). -/
def State.takeSafeRecord (s : State) : State :=
  let s := if s.wd.safeRec = 0 ∧ s.pwr.latch.safeSet then { s with wd := { s.wd with safeRec := s.pwr.latch.safeCause } } else s
  s.showSafeCause s.wd.safeRec

/-- S3: Journal, counts, SAFE record; a power cycle or DORMANT wake with the key at STOP clears SAFE (R67, R76). -/
def State.startS3 (s : State) (i : StartIn) : State :=
  let s := s.recoverJournal i
  let gap := s.flag F.recFrozen
  let s := if gap then
      (((s.raise 380 1 1 [(32, s.get F.powerCycles)]).put F.recFrozen 0).put F.frozenBy 0).put F.holdDepth 0
    else s                                                                             -- RECORDER_GAP
  let s := if i.powerOff then
      let n := satInc 32 (s.get F.powerCycles)
      (s.put F.powerCycles n).journal 0x10 1 4 n false
    else s
  let s := s.mergeToll
  let s := ((List.range 8).filter (fun k => bitOf s.pwr.latch.events k)).foldl (fun (s : State) k => s.raiseAgain k) s
  let s := s.takeSafeRecord
  let wake := decide (2 ≤ i.wake) && decide (i.wake ≤ 4)
  if s.wd.safeRec ≠ 0 ∧ i.key = 2 ∧ (i.powerOff ∨ wake) then s.clearSafe else s

/-! S5 and S6 (R66, R188, R190, R530 to R533). -/

/-- The fallback of a type is taken because its active image does not pass its digest. -/
def State.bootFallback (s : State) (t : Nat) : State :=
  ((s.fallBack t).put F.fallbackTaken 1).inc F.fallbackCount

/-- S5: rejected or staged images change places, then each subordinate image is checked; none where one type has no image
that passes. -/
def State.startS5 (s : State) (i : StartIn) : Option State :=
  let s := s.imagesStart i.copyOk
  (List.range 5).foldl (fun (o : Option State) k =>
    o.bind (fun (s : State) =>
      let t := k + 1
      if bitOf i.imagesOk t then some s
      else if bitOf i.fallbackOk t ∧ (s.slot t 2).state = 1 then some (s.bootFallback t)
      else none)) (some s)

/-- Cluster `c` is tested at S6: a retired one only at a module restart with the key at STOP. -/
def State.testedAtS6 (s : State) (i : StartIn) (c : Nat) : Bool :=
  !bitOf (s.get F.retired) c || (i.wake == 5 && i.key == 2)

/-- A retired cluster that passes rejoins. -/
def State.restoreClusters (s : State) (i : StartIn) : State :=
  (List.range 3).foldl (fun (s : State) c =>
    if bitOf (s.get F.retired) c ∧ s.testedAtS6 i c ∧ bitOf i.clusters c then
      let s := { s with triad := { s.triad with attempts := s.triad.attempts.filter (fun a => a.1 != c) } }
      let s := (s.put F.retired (setBit (s.get F.retired) c false)).showAttempts
      (s.journal 0x0B c 0 0 false true).raise 341 1 0 [(8, c)]                           -- CLUSTER_RESTORED
    else s) s

/-- S6 decides the triad: SPLIT, VOTED, DUAL, or none where fewer than two clusters pass. -/
def State.startS6 (s : State) (i : StartIn) : Option State :=
  let s := { s with triad := { s.triad with startsNext := none, waiting := [], converged := false, passes := 0 } }
  let s := s.abandonResync.put F.isolated 0
  let bad := (List.range 3).filter (fun c => !bitOf i.clusters c)
  if s.get F.bootSplit = 1 then
    if 2 ≤ bad.length then none
    else some ({ (s.put F.triad 2) with triad := { s.triad with memY := s.mem, memZ := s.mem, mail := [] } }.put F.isolated
      (7 - i.clusters % 8))
  else
    let s := s.restoreClusters i
    let out := (List.range 3).filter (fun c => bitOf (s.get F.retired) c || !bitOf i.clusters c)
    match out with
    | [] => some (s.put F.triad 0)
    | [c] =>
      let s := if s.testedAtS6 i c then s.raise 337 1 2 [(8, c)] else s                  -- TRIAD_START_DUAL
      some (if bitOf (s.get F.retired) c then (s.put F.triad 1).put F.isolated (2 ^ c) else s.isolate c)
    | _ => none

/-! S7: partner exchange (R69). -/

/-- The reason for which pairing is refused, 0 where it is not. -/
def State.pairingRefusal (s : State) (p : PartnerInfo) : Nat :=
  if p.hwIssue ≠ s.get F.hwIssue then 1
  else if p.fw ≠ s.get F.fwRelease ∧ s.get F.pairUpdate = 0 ∧ !p.updating then 2
  else if p.pairId ≠ 0 ∧ s.units.pair.serial ≠ 0 ∧ p.pairId ≠ s.units.pair.serial then 3
  else if p.triad = 2 ∨ p.role = rSolo ∨ s.get F.triad = 2 then 4
  else if p.pairMode = 1 ∨ s.pair.single then 5
  else 0

/-- Pairing is refused: the partner counts as absent. PAIR_REFUSED is raised when the reason is new (log entry 29). -/
def State.refusePartner (s : State) (reason : Nat) : State :=
  let new := s.pair.refusal != reason
  let s := { s.partnerGone with pair := { s.partnerGone.pair with refusal := reason } }
  let s := s.put F.pairState 1
  if new then s.raise 350 1 2 [(8, reason)] else s                                      -- PAIR_REFUSED

/-- The partner is accepted; a pair update of either side is recorded on both until both run one release (R535). -/
def State.acceptPartner (s : State) (p : PartnerInfo) : State :=
  let s := { s with pair := { s.pair with
    seen := true, refusal := 0, partnerRole := p.role, partnerMode := p.mode, partnerGen := p.gen, partnerHas := p.hasActive, partnerSerial := p.serial
    partnerTriad := p.triad, missed := 0, lost := false } }
  let s := { s with units := { s.units with wrapped := p.pairKey } }
  let s := if s.get F.pairState = 1 then s.put F.pairState 0 else s
  let s := if p.role = rActive then { s with units := { s.units with noActive := false } } else s
  let s := if p.updating ∧ s.get F.pairUpdate = 0 then (s.put F.pairUpdate 1).journalProgram else s
  let s := s.onImg (fun i => { i with partnerConfirmed := p.confirmed })
  let u := (s.unit? [1 - s.ownHop]).getD { hops := [1 - s.ownHop] }
  (s.putUnit { u with type := 2, hw := p.hwIssue, fw := p.fw, serial := p.serial, role := p.role, status := 0 }).clearPairUpdate

/-- One exchange with the partner. -/
def State.exchange (s : State) (p : PartnerInfo) : State :=
  let r := s.pairingRefusal p
  if r = 0 then s.acceptPartner p else s.refusePartner r

/-! S9 to S12 (R66, R70, R71, R145, R255, R474). -/

/-- A local channel is in use: the program's I/O map names it, or its configuration turns it on. -/
def State.localInUse (s : State) (prog : Option Program) : Bool :=
  (match prog with
    | some p => p.vals.any (fun v => v.kind ≥ 3 && v.station.isNone && decide (0x3000 ≤ v.statusObj) && decide (v.statusObj < 0x5000))
    | none => false)
  || (List.range 16).any (fun k => s.get F.dioDir k == 1)
  || (List.range 4).any (fun k => s.get F.aoMode k != 0)
  || (List.range 8).any (fun k => s.get F.faEnable k == 1 || s.get F.capMode k != 0)

/-- The field side comes up: load supplies as first measured, retry counts full, chains of enabled channels due. -/
def State.startField (s : State) (i : StartIn) : State :=
  let s := ((s.put F.laState i.laOk).put F.lbState i.lbOk).put F.converter 1
  let s := (List.range 16).foldl (fun (s : State) k =>
    (s.put F.dioRetriesLeft (s.get F.retry k) k).putFlag F.dioSupplyLow (s.dioOut k && s.supplyLow k) k) s
  let s := { s with field := { s.field with failed := !i.fieldAnswers, lastUpdate := s.now } }
  let s := s.put F.seqOk 1
  ((List.range 8).foldl (fun (s : State) k => s.faComesUp k) s).showFa

/-- The lanes come up: a lane in use with a board present trains, the others are ABSENT until a board arrives. -/
def State.startLanes (s : State) (boards : Nat) : State :=
  (List.range 96).foldl (fun (s : State) k =>
    if s.get F.laneMode k ≠ 0 ∧ (k < 48 ∨ s.lanes.tall) ∧ bitOf boards k then s.put F.laneState lsTraining k else s)
    s.holdAbsent

/-- The last PTP time that the Journal holds, in ns (record type 0x0C of R437); 0 where it holds none. -/
def State.lastPtp (s : State) : Nat :=
  match s.jr.live.reverse.find? (fun r => r.type == 0x0C) with
  | some r => if r.tomb then 0 else r.payload
  | none => 0

/-- The beat index of the real-time counter: `ticks` periods of 32.768 kHz since the last PTP time of the Journal (R28). -/
def State.rtcBeat (s : State) (ticks : Nat) : Nat := (s.lastPtp + ticks * 1000000000 / 32768) / 250000

/-- S8: the partner's timebase where it is in RUN, else FREE from the real-time counter (R28). -/
def State.startBeat (s : State) (i : StartIn) : State :=
  let follows := i.partnerRun && s.pair.seen
  let s := s.put F.beatIndex (if follows then i.beat else s.rtcBeat i.rtc)
  let s := { s with beat := { s.beat with runs := true, sinceStart := 0, imaged := false } }
  if follows then s.takeServo i.servo else s.setAlign 0

/-- S10: the program of the Image Store, if it passes its checks (R81); with a change pending the program that was ACTIVE, where
this module holds it (R173). A module restart keeps the loops' states for a warm
start (R73); from power off they begin anew (log entry 28). Retain slots that fail their check are invalid. -/
def State.startProgram (s : State) (i : StartIn) (noRetain : Bool) : State :=
  let s := { s with rt := { s.rt with
    prog := none, published := [], work := [], outs := [], applied := [], image := [], plain := [], spills := [], seen := []
    live := [], lastGood := []
    errQ := [], runQ := [], late := [], withheld := [], unpublished := [], execLog := [], running := []
    slotA := { s.rt.slotA with valid := s.rt.slotA.valid && i.retainA && !noRetain }
    slotB := { s.rt.slotB with valid := s.rt.slotB.valid && i.retainB && !noRetain }, mirror := none } }
  let s : State := match (if s.get F.changePending = 1 ∧ s.rt.resume.isSome then s.rt.resume else i.progStored) with
    | some p =>
      if programDetail p (s.get F.hwIssue - 1) = 0 then (s.loadProgram p (!i.powerOff)).journalLoad p else s.noProgram
    | none => s.noProgram
  let s := (s.onCluster 1 State.coldCluster).onCluster 2 State.coldCluster
  ((s.put F.slotABeat (if s.rt.slotA.valid then s.rt.slotA.beat else 0)).put
    F.slotBBeat (if s.rt.slotB.valid then s.rt.slotB.beat else 0)).showRuntime

/-- S11: the start-up pass of the self-tests; a failed check is reported and is not fatal. -/
def State.startTests (s : State) (i : StartIn) : State :=
  let s := { s with pair := { s.pair with naMask := i.notApplicable } }.showApplicable
  (List.range 48).foldl (fun (s : State) k =>
    if s.get F.hcState k = 3 then s
    else if bitOf i.selfTestFail k then s.healthFails k
    else s.healthPass k) s

/-- The exit of START, or of a role decision that follows it: RUN by start_mode where nothing keeps the module in STOP
(R71, R76). `cold` forces a cold restart (R474). -/
def State.exitStart (s : State) (cold : Bool) : State :=
  let r := s.get F.role
  let drv : Bool := (r == rActive || r == rSolo) && s.rt.prog.isSome
  if drv && s.get F.key != 2 && !s.wd.endInStop && s.get F.startMode != 0 then
    s.startRun (if cold || s.get F.startMode == 2 then 1 else 0) 0
  else if cold then s.coldRestart else s

/-- What identity changes at a START do to the epochs (R362). -/
def State.startEpochs (s : State) (i : StartIn) : State :=
  let s := if i.chassisChanged then s.bumpUnit [2] 4 else s
  if i.replaced then s.bumpOwn 4 else s

/-- S9 to S12 of a module whose role will be decided. -/
def State.startService (s : State) (i : StartIn) : State :=
  let cold := s.get F.sec != 2 && s.get F.debugWrites == 1
  let s := (s.startField i).startLanes i.boards
  let s := (s.startProgram i cold).startTests i
  let s := s.startEpochs i
  let s := s.decideRole (match i.partner with | some p => p.atS12 | none => false)
  let s := s.exitStart cold
  let s := if cold then s.put F.debugWrites 0 else s
  let s := { s with wd := { s.wd with endInStop := false } }
  (s.canShow.showLeds).showUnit

/-- S7 to S12. -/
def State.startPair (s : State) (i : StartIn) : State :=
  let s := if s.get F.triad = 2 then s else s.pairLinkUp i.linkLanes
  let s : State := match i.partner with
    | some p => if s.get F.linkUp = 0 then s else s.exchange p
    | none => s
  let s := s.startBeat i
  if !i.fieldAnswers ∧ s.localInUse (i.progStored.filter (fun p => programDetail p (s.get F.hwIssue - 1) == 0)) ∧ !s.pair.partnerReady then s.startFails 7
  else s.startService i

/-- S4 to S12; a module that was in SAFE returns to it after S4 (R67). -/
def State.startS4 (s : State) (i : StartIn) : State :=
  if !i.securityOk then s.startFails 9
  else if s.wd.safeRec ≠ 0 then
    let s := s.setMode mSafe rNone 0 s.wd.safeRec 1
    ({ s with beat := { s.beat with runs := true } }).showLeds
  else
    match s.startS5 i with
    | none => s.rejectNext.startFails 10
    | some s =>
      match s.startS6 i with
      | none => s.rejectNext.startFails 4
      | some s => s.startPair i

/-- S2 to S12: SUP from the chosen bank, or from the other (R522); the watchdog opens as S2 ends (R456). -/
def State.startS2 (s : State) (i : StartIn) : State :=
  if !i.supImageOk ∧ !i.supOtherOk then
    ({ s with panel := { s.panel with bootFail := true }, lcp := { s.lcp with mute := true } }).showLeds
  else
    let s := if i.supImageOk then s else s.bootFallback 0
    let s := (s.put F.wdClockNow (s.get F.wdClock)).put F.monitorOk 1
    let s := s.openWindow
    if (s.superblock? i.sbValid.1 i.sbValid.2).isNone then s.startFails 8 else (s.startS3 i).startS4 i

/-- A failure of S1: rails off, FAULT LED, retry after 10 s; the third leads to SAFE (R66). -/
def State.startS1Fails (s : State) : State :=
  let n := s.pwr.s1Fails + 1
  let s := { s.onPwr (fun p => { p with s1Fails := n, off := true }) with panel := { s.panel with bootFail := true } }
  if n < 3 then s.showLeds else (s.onPwr (fun p => { p with s1Fails := 0, off := false })).startFails 11

/-- START_RESTARTED where a start cause came during START (R68); a fatal fault leads to SAFE. -/
def State.startCauses (s : State) : State :=
  let again := s.beat.causes.any (fun c => c.kind == .start)
  let s := { s with beat := { s.beat with causes := [] } }
  if again then s.raise 451 1 1 [(8, 1), (8, 2)] else s

/-- START from S1 to its end. -/
def State.start (s : State) (i : StartIn) : State :=
  let fatal := s.beat.causes.findSome? (fun c => match c.kind with | .safe k => some k | _ => none)
  let s := s.startCauses
  match fatal with
  | some c => s.startFails c
  | none => if !i.railsOk then s.startS1Fails else ((s.onPwr (fun p => { p with off := false })).startS1 i).startS2 i

/-- START_SEQUENCE (R66): in MODE START, before the beat runs; with the rails off only as the retry after a failed S1. -/
def execStartSequence (i : StartIn) (s : State) : Host.Outcome State Fault Refusal :=
  .next (if (s.pwr.off ∧ s.pwr.s1Fails = 0) ∨ s.get F.mode ≠ mStart ∨ s.beat.runs then s else s.start i)

/-- PARTNER_EXCHANGE (R69, R70): the exchange is retried every 1 s, while the pair link is trained with what the partner sends;
where rule 6 stands, the role decision is applied again at each retry, on the claim line as it now stands. -/
def execPartnerExchange (i : Option PartnerInfo) (s : State) (claim : Bool := false) : Host.Outcome State Fault Refusal :=
  .next (
    if s.pwr.off ∨ !s.beat.runs ∨ s.get F.triad = 2 then s
    else
      let s := { s with pair := { s.pair with claimIn := claim } }
      let s : State := match i with
        | some p => if s.get F.linkUp = 0 then s else s.exchange p
        | none => s
      if s.pair.waitRule ∧ s.get F.mode = mStop ∧ s.get F.role = rNone then
        ((s.decideRole (match i with | some p => p.atS12 | none => false)).exitStart false).canShow.showLeds
      else s)

end Sys2Proof.Machine
end

