-- ==== Sys2Proof/Machine/Beat.lean ====
section
/-! DEFINITION. The edge of a beat and the input image: BEAT_EDGE and IMAGE_COMPLETE (R16, R17, R25 to R38, R103 to R106,
R114, R142, R149, R150). -/

namespace Sys2Proof.Machine

open Sys2Proof

/-! The edge. -/

/-- The edge that ends a beat without a completed Commit repeats the outputs: the Damper applied (R17, R32). -/
def State.damper (s : State) : State :=
  if drives (s.get F.mode) (s.get F.role) && !s.beat.committed && s.beat.sinceStart != 0 then s.inc F.damperCount else s

/-- What belongs to one beat starts anew. A Commit that neither ended nor was abandoned has written no liveness token (R458;
DESIGN CHOICE, log entry 38). -/
def State.newBeat (s : State) : State :=
  { s with
    beat := { s.beat with
      off := 0, opBeats := s.beat.opBeats + 1, sinceStart := s.beat.sinceStart + 1, freezeDelay := 0
      imaged := false, computing := false, charged := 0, used := [], slice := 0, committing := false, committed := false }
    pair := { s.pair with tx := [], loopTx := [], xBytes := 0, overNow := false, hbOut := [], fwd := [], appliedCmds := [] }
    loops := { s.loops with started := false, dealt := [] }
    wd := { s.wd with tokenMissed := s.wd.tokenMissed || ((s.beat.computing || s.beat.committing) && s.get F.haltState == 0) }
    lcp := { s.lcp with wire := [], gongSent := [] } }

/-- At a step edge the timebase follows the servo: BEAT_STEP, then ALIGNED with a qualified grandmaster, since the whole offset
is gone (R30); without one FREE by R26 (DESIGN CHOICE, log entry 22). -/
def State.stepTaken (s : State) (old : Nat) : State :=
  let s := ({ s with beat := { s.beat with stepOffset := 0 } }).pinsStep
  let s := s.raise 315 1 2 [(32, old), (32, s.now)]                                     -- BEAT_STEP
  if s.time.count ≥ 8 then s.becomeAligned else (s.put F.stepPending 0).setAlign 0

/-- The index and the clocks of the new beat (R25, R438). -/
def State.turn (s : State) : State :=
  let old := s.now
  let step := s.stepNow
  let s := ((s.put F.beatIndex s.nextBeat).newBeat)
  let s := s.put F.opTime s.opTime
  if step then s.stepTaken old else s

/-- Register writes that wait for the edge take effect; a station-head role gained or lost is a change of the pair (R72). -/
def State.pendEdge (s : State) : State :=
  let heads := fun (s : State) => (s.get F.wslUpPorts != 0, s.get F.wslDownPorts != 0)
  let old := heads s
  let pend := s.beat.edgePend
  let s := { s with regs := pend.foldl (fun l (w : Nat × Nat) => regPut l w.1 w.2) s.regs
                    beat := { s.beat with edgePend := [] } }
  if heads s = old then s else s.bumpPair 8

/-- The pair's part of an edge: a handover (R155), the one beat in STOP (R61), the 8 silent beats (R158), the slots of a
recomputed beat (R150), the claim line as last sampled. -/
def State.pairEdge (s : State) : State :=
  let s := s.handoverEdge
  let n := s.now
  let elapsed : Nat := match s.pair.redo with | some m => if n = m + 2 then 2 else 1 | none => 1
  let redo : Option Nat := match s.pair.redo with | some m => if n ≥ m + 3 then none else some m | none => none
  let s := { s with pair := { s.pair with
    oneBeatStop := false, claimBeats := s.pair.claimBeats - 1, redo := redo, elapsed := elapsed } }
  s.refreshDrive.putFlag F.claimSeen (s.get F.claim == 1 || s.pair.claimIn)

/-- Records discarded on the way to the image are reported with the next one (R452). -/
def State.reportImageLoss (s : State) : State :=
  if s.ev.imageLost = 0 then s
  else { s.raise 458 1 1 [(32, s.ev.imageLost)] with ev := { (s.raise 458 1 1 [(32, s.ev.imageLost)]).ev with imageLost := 0 } }

/-- Records that found no room are retried (R431), operating time is recorded once per minute (R438), and a Roll that waits
for START's end begins (R436). -/
def State.journalEdge (s : State) : State :=
  let s := { s with jr := { s.jr with rolled := 0 } }.journalRetry
  let s := if s.beat.opBeats % 240000 = 0 then s.journal 0x10 0 8 s.opTime false else s
  if s.jr.rollWanted && s.rollDue && s.get F.rollState == 0 then
    { s.rollStart 1 with jr := { (s.rollStart 1).jr with rollWanted := false } }
  else s

/-- The local sample of an input point, by the status object of its channel (R36): DIO, AO readback, ENC count, FA beat
record. -/
def State.localPoint (s : State) (v : ValDef) : Option PointV :=
  let o := v.statusObj
  let at_ := fun (val q : Nat) => some ({ idx := v.idx, val := val, q := q } : PointV)
  if v.kind ≠ 3 ∨ v.station.isSome then none
  else if 0x3030 ≤ o ∧ o < 0x3040 then
    at_ (if v.ty = .bool then s.get F.dioLevel (o - 0x3030) else subVal s (subFields o 0) o % 512) 0
  else if 0x3058 ≤ o ∧ o < 0x305C then at_ (valOf v.ty (f32 (s.get F.aoReadback (o - 0x3058)))) 0
  else if 0x3068 ≤ o ∧ o < 0x306C then at_ (valOf v.ty (toSigned 64 (s.get F.encCount (o - 0x3068)) : Rat)) 0
  else if 0x4020 ≤ o ∧ o < 0x4028 then at_ (valOf v.ty (f32 (s.fa (o - 0x4020)).beatRec.value)) (s.fa (o - 0x4020)).beatRec.q
  else none

/-- The input points of the program. -/
def RtSt.inPoints (rt : RtSt) : List ValDef :=
  match rt.prog with
  | some p => p.vals.filter (fun v => v.kind == 3)
  | none => []

/-- The word of each DIO channel in the input image: bits 8 to 0 of DioStatus (R273). -/
def State.dioWords (s : State) : List Nat :=
  (List.range 16).map (fun k => subVal s (subFields (0x3030 + k) 0) (0x3030 + k) % 512)

/-- The local points as sampled at the edge, with the words and counts that every image carries. -/
def State.sampleLocal (s : State) : State :=
  { s with field := { s.field with
      edgeVals := s.rt.inPoints.filterMap (fun v => s.localPoint v), edgeDio := s.dioWords
      edgeEnc := lastN 4 (s.field.edgeEnc ++
        [(s.now, (List.range 4).map (fun k => (s.get F.encCount k, s.get F.encUncertain k)))]) } }

/-- The blocks' parts of an edge, in order. -/
def State.blocksEdge (s : State) (inp : EdgeIn) : State :=
  let s := (s.pendEdge.pairEdge).eventPackets
  let s := s.reportImageLoss.journalEdge
  let s := (s.crossEdge.canEdge.fieldEdge inp).faEdge
  let s := s.slewEdge.debugEdge.imagesEdge
  let s := if s.triad.attempts = [] then s else s.showAttempts
  (s.showUnit.showLeds.sampleLocal).dormantEdge

/-- BEAT_EDGE (R16, R35): the outputs committed in the beat that ends are applied, inputs are sampled, the Freeze begins. -/
def State.beatEdge (s : State) (inp : EdgeIn) : State :=
  if s.pwr.off ∨ !s.beat.runs then s
  else
    let s := s.damper.turn
    let s := { s with rt := { s.rt with applied := s.rt.outs } }
    if s.panel.restartAfter then { s with panel := { s.panel with restartAfter := false } }.enterStart
    else s.blocksEdge inp

/-- BEAT_EDGE. -/
def execBeatEdge (inp : EdgeIn) (s : State) : Host.Outcome State Fault Refusal := .next (s.beatEdge inp)

/-! The input image. -/

/-- A point with a value and quality. -/
def pointAt (v : ValDef) (val q : Nat) : PointV := { idx := v.idx, val := val, q := q }

/-- The last good value of a point, STALE; without one the SAFE row of R104. -/
def State.heldPoint (s : State) (v : ValDef) : PointV := pointAt v ((valAt s.rt.lastGood v.idx).getD (substOf v none)) 1

/-- The substitute of a failed unit's point (R104). -/
def State.substPoint (s : State) (v : ValDef) : PointV := pointAt v (substOf v (valAt s.rt.lastGood v.idx)) 2

/-- Whether a unit's points have been live since START, and whether the unit counts as failed, by its key. -/
def State.keyEver (s : State) (key : Nat) : Bool :=
  if key ≥ 1000 then (s.wslRt (key - 1000)).ever
  else if s.get F.laneMode (key / 8) = 3 then (s.l3 (key / 8) (key % 8)).ever else (s.lane (key / 8)).ever
def State.keyFailed (s : State) (key : Nat) : Bool :=
  if key ≥ 1000 then (s.wslRt (key - 1000)).failed
  else if s.get F.laneMode (key / 8) = 3 then (s.l3 (key / 8) (key % 8)).failed else (s.lane (key / 8)).failed

/-- The lane of a key is crossed over, or crosses at the coming edge (R160). -/
def State.keyCrossed (s : State) (key : Nat) : Bool :=
  decide (key < 1000) && (s.get F.laneState (key / 8) == lsCrossover || (s.lane (key / 8)).crossAt.isSome)

/-- A crossed-over lane owes the image of this beat an exchange: each beat on L5, in the beats of the frame cycle on L4. -/
def State.keyOwes (s : State) (key : Nat) : Bool :=
  s.keyCrossed key && (s.get F.laneMode (key / 8) == 1 || (s.get F.laneMode (key / 8) == 2 && s.now % 4 == 0))

/-- A point as it stood in the previous image, without a force. -/
def State.prevPoint (s : State) (v : ValDef) : PointV :=
  match s.pair.own.find? (fun p => p.idx == v.idx) with
  | some p =>
    if p.q % 4 = 0 then pointAt v ((valAt s.rt.lastGood v.idx).getD p.val) 0
    else if p.q % 4 = 1 then s.heldPoint v
    else if p.q % 4 = 2 then s.substPoint v
    else pointAt v (substOf v none) 3
  | none => s.heldPoint v

/-- The last frozen image of the ACTIVE gives a STANDBY its L3 points (R224). -/
def State.l3FromActive (s : State) (v : ValDef) (key : Nat) : Option PointV :=
  if s.get F.role = rStandby ∧ key < 1000 ∧ s.get F.laneMode (key / 8) = 3 then
    match s.pair.images.getLast? with
    | some i => (imagePts i).find? (fun p => p.idx == v.idx)
    | none => none
  else none

/-- A point behind a lane or port (R103 to R106, R161, R163). -/
def State.stationPoint (s : State) (v : ValDef) (key : Nat) : PointV :=
  match s.l3FromActive v key with
  | some p => p
  | none =>
    let failed := s.keyFailed key
    if !s.keyEver key then pointAt v (substOf v none) 3
    else if failed && s.serving && !s.keyCrossed key then s.substPoint v
    else
      match (s.lanes.due.filter (fun d => d.beat == s.now && d.key == key)).getLast? with
      | some d =>
        if d.stale then s.heldPoint v
        else match valAt d.points v.idx with | some x => pointAt v x 0 | none => s.prevPoint v
      | none => if s.keyOwes key || failed then s.heldPoint v else s.prevPoint v

/-- A point of the module itself (R36, R243, R295, R334). -/
def State.ownPoint (s : State) (v : ValDef) : PointV :=
  if 0x6400 ≤ v.statusObj ∧ v.statusObj < 0x6800 then
    let x := s.canPoint v (v.statusObj - 0x6400)
    if x.2 = 3 then pointAt v (substOf v none) 3 else pointAt v x.1 x.2
  else if s.field.failed then s.substPoint v
  else
    match s.field.edgeVals.find? (fun p => p.idx == v.idx) with
    | none => pointAt v (substOf v none) 3
    | some p =>
      let flags := p.q / 4 * 4
      if s.field.staleNow ∨ p.q % 4 = 1 then pointAt v (s.heldPoint v).val (1 + flags)
      else if p.q % 4 = 2 then pointAt v (s.substPoint v).val (2 + flags)
      else if p.q % 4 = 3 then pointAt v (substOf v none) (3 + flags)
      else p

/-- A point of the input image, unforced. -/
def State.freshPoint (s : State) (v : ValDef) : PointV :=
  match v.station with
  | none => s.ownPoint v
  | some i =>
    match s.rt.prog with
    | none => s.heldPoint v
    | some p =>
      match p.stations.find? (fun d => d.idx == i) with
      | some d => s.stationPoint v (s.stationKey d)
      | none => pointAt v (substOf v none) 3

/-- A force stands before everything else, with FORCED (R96, R104). -/
def State.forcedPoint (s : State) (p : PointV) : PointV :=
  match valAt s.rt.forces p.idx with
  | some f => { p with val := f, q := setBit p.q 2 true }
  | none => p

/-- The module's own input image of the beat, with the last GOOD values that it leaves. -/
def State.ownImage (s : State) : State :=
  let pts := s.rt.inPoints.map (fun v => s.freshPoint v)
  let good := pts.foldl (fun l (p : PointV) => if p.q % 4 = 0 then regPut l p.idx p.val else l) s.rt.lastGood
  { s with
    rt := { s.rt with lastGood := good, plain := pts }
    pair := { s.pair with
      own := pts.map (fun p => s.forcedPoint p), ownBeat := s.now, ownPrev := s.pair.own, ownPrevBeat := s.pair.ownBeat }
    lanes := { s.lanes with due := s.lanes.due.filter (fun d => decide (s.now < d.beat)) } }

/-- The image the program computes on: its own; on a SHADOW the ACTIVE's (R168), in the slot of a recomputed beat the image of
that beat (R149). -/
def State.imageStands (s : State) : State :=
  if s.get F.role = rShadow then s
  else if s.pair.redo.any (fun m => s.now == m + 1) then { s with rt := { s.rt with image := s.pair.redoImage } }
  else { s with rt := { s.rt with image := s.pair.own } }

/-- Up to 64 waiting records enter the image (R452). -/
def State.imageEvents (s : State) : State :=
  { s with ev := { s.ev with imageNow := s.ev.imageQ.take 64, imageQ := s.ev.imageQ.drop 64 } }

/-- The ACTIVE sends its frozen image to its partner, with the commands applied in this Freeze (R142, R168). Its
CRC is a free value (log entry 29). -/
def State.imageSent (s : State) : State :=
  if s.get F.role ≠ rActive ∨ s.get F.linkUp = 0 then s
  else
    let (crc, s) := s.fresh 32
    let out : Image := { beat := s.now, complete := true, crc := crc, cmds := s.pair.appliedCmds
                         forces := s.rt.forces.map (fun f => (s.rt.handleAt f.1, f.2)), acks := s.pair.acks
                         caps := (List.range 10).map (fun u => (s.cap u).image)
                         fa := (List.range 8).map (fun k => (s.fa k).beatRec)
                         blocks := (List.range 8).map (fun k => (s.fa k).block)
                         dio := s.field.edgeDio, enc := (beatOf? s.field.edgeEnc s.now).getD []
                         points := s.rt.image.map (fun p => (p.idx, p.val, p.q)) }
    { s with pair := { s.pair with imageOut := some out, acks := [] } }

/-- dbg_cmd HALT takes effect at the end of its Freeze (R481). -/
def State.haltPending (s : State) : State :=
  if s.sec.cmd = 1 then { s.dbgHalt with sec := { s.dbgHalt.sec with cmd := 0 } } else s

/-- In the second slot after a takeover by case 2 the classes released one slot late read the image of their own release
beat (R150). -/
def State.lateViews (s : State) (prev : List PointV) : State :=
  match s.pair.redo with
  | some m =>
    if s.now ≠ m + 2 then s
    else
      let late := fun (v : ClassView) =>
        if v.cls ≠ 0 ∧ releases (m + 1) v.cls ∧ !releases s.now v.cls then { v with image := prev } else v
      { s with rt := { s.rt with seen := s.rt.seen.map late }, loops := { s.loops with seen := s.loops.seen.map late } }
  | none => s

/-- The program of Y or Z of a SPLIT module computes from the same instant, in slices of its own (R191). -/
def State.clusterStarts (s : State) : State :=
  { s with
    beat := { s.beat with slice := 0, used := [] }
    loops := { s.loops with started := s.engineRuns, dealt := [] } }.loopIntake.releaseAll

/-- Compute starts on the image, but in the slot of a beat that is recomputed in the next one (R38, R149). -/
def State.imageStarts (s : State) (offset : Nat) (prev : List PointV) : State :=
  if s.pair.redo = some s.now then s
  else
    let s := (s.startCompute offset).lateViews prev
    (s.onCluster 1 State.clusterStarts).onCluster 2 State.clusterStarts

/-- IMAGE_COMPLETE (R38): the Freeze ends `offset` × 0.1 µs after the edge, Compute and the loop engine start, but in the slot
of a beat that is recomputed in the next one (R149). -/
def State.imageComplete (s : State) (offset : Nat) : State :=
  if s.pwr.off ∨ !s.beat.runs ∨ s.beat.imaged ∨ s.beat.committing then s
  else
    let prev := s.pair.own
    let s := s.canFreeze.ownImage.imageStands
    let s := s.imageEvents.imageSent.haltPending
    let s := { s with beat := { s.beat with imaged := true, off := max s.beat.off (offset * 20) } }
    s.imageStarts offset prev

/-- IMAGE_COMPLETE. -/
def execImageComplete (offset : Nat) (s : State) : Host.Outcome State Fault Refusal := .next (s.imageComplete offset)

end Sys2Proof.Machine
end

