-- ==== Sys2Proof/Machine/Freeze.lean ====
section
/-! DEFINITION. The Freeze of a beat: causes of mode changes (R62), then the commands whose apply beat it is, in the order of
R393, with the competition of R394 and the checks of R364 and R396. -/

namespace Sys2Proof.Machine

open Sys2Proof

/-! Causes of mode changes (R62). -/

/-- Precedence of a cause. -/
def CauseKind.rank : CauseKind → Nat
  | .safe _ => 1
  | .start => 2
  | .keyStop => 3
  | .stop => 4

/-- The cause of lower precedence number; of two equal ones the earlier. -/
def firstCause (a : Option Cause) (b : Cause) : Option Cause :=
  match a with
  | some c => if b.kind.rank < c.kind.rank then some b else some c
  | none => some b

/-- Accepted Gongs whose beat has come count as causes (R404). -/
def State.gongCauses (s : State) : List Cause :=
  (s.lcp.gongs.filter (fun t => decide (t ≤ s.now))).map (fun t => { kind := .stop, beat := t - 1, code := 4 })

/-- The key stands at STOP on a module that drives the plant in RUN or HOLD and has no handover to make: it stops now, where it
could not hand over or the handover was dropped (R64). -/
def State.keyCauses (s : State) : List Cause :=
  if s.get F.key = 2 ∧ (s.get F.role = rActive ∨ s.get F.role = rSolo) ∧ (s.get F.mode = mRun ∨ s.get F.mode = mHold)
      ∧ s.pair.handover.isNone ∧ !s.pair.handing then [{ kind := .keyStop, beat := s.now - 1, code := 3 }] else []

/-- The cause that wins in this Freeze: detected in an earlier beat, of the highest precedence. -/
def State.winner (s : State) : Option Cause :=
  ((s.beat.causes.filter (fun c => decide (c.beat < s.now))) ++ s.keyCauses ++ s.gongCauses).foldl firstCause none

/-- A RESET held 2 s to 10 s is due and will restart the module, now or behind a handover: a cause of precedence 2 (R62,
R541). -/
def State.resetWins (s : State) : Bool :=
  s.panel.acts.any (fun a => a.act == 2 && decide (a.apply ≤ s.now)) && s.get F.releaseState != 2
    && (s.get F.role != rActive || s.canPlan) && !(s.get F.role == rSolo && s.get F.mode != mStop)

/-- The cause that takes effect: a RESET of R62's precedence 2 discards one of a lower precedence. -/
def State.taken (s : State) : Option Cause :=
  match s.winner with
  | some c => if s.resetWins && decide (2 < c.kind.rank) then none else some c
  | none => none

/-- The winner takes effect, the losers are discarded. -/
def State.takeCause (s : State) (w : Option Cause) : State :=
  let s := { s with
    beat := { s.beat with causes := s.beat.causes.filter (fun c => !decide (c.beat < s.now)) }
    lcp := { s.lcp with gongs := s.lcp.gongs.filter (fun t => !decide (t ≤ s.now)) } }
  match w with
  | none => s
  | some c =>
    match c.kind with
    | .safe n => s.enterSafe n
    | .start => s.enterStart c.code
    | .keyStop => s.keyStops
    | .stop => if s.get F.mode = mRun ∨ s.get F.mode = mHold then s.enterStop c.code else s

/-- What else the Freeze does before the commands: priorities set in the beat before (R381), a Toll's warm restart (R462), panel
actions, the end of a shadow run (R172). -/
def State.freezeFirst (s : State) : State :=
  let s := { s with lcp := { s.lcp with sessions := s.lcp.sessions.map (fun (x : Session) =>
    match x.nextPrio with | some n => { x with prio := n, nextPrio := none } | none => x) } }
  let w := s.taken
  let s := s.takeCause w
  let hard : Bool := match w with | some c => decide (c.kind.rank ≤ 2) | none => false
  if hard then { s with panel := { s.panel with acts := s.panel.acts.filter (fun a => !decide (a.apply ≤ s.now)) } }
  else
    let s : State := if s.wd.warmRestart then { s with wd := { s.wd with warmRestart := false } }.restartPair 0 else s
    let acts := if s.get F.key = 2 then s.panel.acts.filter (fun a => a.act != 5 && a.act != 6) else s.panel.acts
    let s := { s with panel := { s.panel with acts := acts } }.panelFreeze
    if s.pair.endShadow then s.stopShadow 0 else s

/-! The order of the commands (R393). -/

/-- One command stands before another: priority at acceptance, arrival stamp, session, sequence. -/
def QCmd.before (a b : QCmd) : Bool :=
  if a.prio ≠ b.prio then decide (b.prio < a.prio)
  else if a.beat ≠ b.beat then decide (a.beat < b.beat)
  else if a.pkt.stamp ≠ b.pkt.stamp then decide (a.pkt.stamp < b.pkt.stamp)
  else if a.pkt.sess ≠ b.pkt.sess then decide (a.pkt.sess < b.pkt.sess)
  else decide (a.pkt.seq < b.pkt.seq)

/-- Insertion by that order. -/
def insertCmd (q : QCmd) : List QCmd → List QCmd
  | [] => [q]
  | r :: t => if q.before r then q :: r :: t else r :: insertCmd q t

/-- The commands due in this Freeze, in order. -/
def State.dueCmds (s : State) : List QCmd :=
  (s.lcp.queue.filter (fun q => decide (q.apply ≤ s.now))).foldr insertCmd []

/-! Targets (R394). -/

/-- A target of the competition. -/
inductive Target where
  | value (cluster handle : Nat)
  | loopMode (loop : Nat)
  | loopOut (loop which : Nat)        -- set-point 0 or output 1
  | loopField (loop field : Nat)
  | object (key : Nat)                -- field key of the object map
  | mode (ownHop : Bool)
  | role
  deriving DecidableEq, Repr

/-- The handles a packet sets. -/
def State.handlesOf (s : State) (q : QCmd) : List Nat :=
  match q.op with
  | .valueWrite | .constWrite | .forceSet => q.pkt.vals 0x0010
  | .forceClear => if q.pkt.vals 0x0010 = [0xFFFFFFFF] then s.rt.forces.map (fun f => s.rt.handleAt f.1) else q.pkt.vals 0x0010
  | _ => []

/-- The targets a command sets. -/
def State.targetsOf (s : State) (q : QCmd) (u : UnitSel) : List Target :=
  let p := q.pkt
  let v := p.val 0x001A 0
  let pin := p.val 0x002B 0
  match q.op with
  | .valueWrite | .constWrite | .forceSet | .forceClear => (s.handlesOf q).map (fun h => .value (pktCluster p) h)
  | .loopModeSet => [.loopMode v]
  | .loopSpSet => [.loopOut v (p.val 0x001C 0)]
  | .loopCoeffSet => (p.vals 0x001B).map (fun f => .loopField (loopNum v) (lfId f))
  | .chimeSet => [F.tpMode, F.chimePeriod, F.chimePhase, F.tpWidth].map (fun f => .object (fldKey f pin))
  | .rimshotArm => [F.tpMode, F.rimshotTime, F.tpWidth].map (fun f => .object (fldKey f pin))
  | .canObjSet =>
    let o := canTarget (p.val 0x0041 0)
    ((objCfgWrites o 0).map (fun w => w.1) ++ [F.objId, F.objTxPeriod, F.objTxPhase].map (fun f => fldKey f o)).map .object
  | .objWrite => (objEntry p).targets.map .object
  | .ioConfigSet => (((ioEntries p.tlvs 1).getD []).flatMap (fun e => e.targets)).map .object
  | .modeSet => [.mode (u == .own)]
  | .switchover | .promote | .revert => [.role]
  | _ => []

/-- The value of a field that stands, with a write that waits for the edge. -/
def State.standing (s : State) (f : Fld) (k : Nat) : Nat :=
  match (s.beat.edgePend ++ s.can.pend).reverse.find? (fun (w : Nat × Nat) => w.1 == fldKey f k) with
  | some w => w.2
  | none => s.get f k

/-- WIN_VALUE of a lost target: the value that now stands, in the width of the target. -/
def State.winValue (s : State) (t : Target) : Tlv :=
  match t with
  | .value c h =>
    let rt := s.rtOf c
    match rt.handle? h with
    | none => tlv 0x8004 8 0
    | some v => tlv 0x8004 (tyBytes v.ty) (rt.read v).1
  | .loopMode v =>
    tlv 0x8004 1 (if loopIsGroup v then s.get F.grpMode (loopNum v)
      else match s.loop? (loopNum v) with | some l => l.req | none => 0)
  | .loopOut v w =>
    tlv 0x8004 4 (match s.loop? (loopNum v) with | some l => if w = 0 then l.target else l.manTarget | none => 0)
  | .loopField n i => tlv 0x8004 4 (match s.loop? n with | some l => (loopField l i).getD 0 | none => 0)
  | .object key =>
    match objMap.flatten.find? (fun f => decide (f.home ≤ key) && (key - f.home) % 4194304 == 0
        && decide ((key - f.home) / 4194304 < f.cnt)) with
    | some f => tlv 0x8004 ((f.w + 7) / 8) (s.standing f ((key - f.home) / 4194304))
    | none => tlv 0x8004 4 0
  | .mode _ => tlv 0x8004 1 (s.get F.mode)
  | .role => tlv 0x8004 1 s.pairRole

/-! One command. -/

/-- A command that changes the mode (R62). -/
def QCmd.changesMode (q : QCmd) : Bool :=
  q.op == .modeSet || q.op == .dormantEnter || (q.op == .restart && q.pkt.val 0x0018 0 == 2)

/-- The effect of a command in its Freeze. -/
def applyCmd (q : QCmd) (u : UnitSel) (s : State) : Ans :=
  let p := q.pkt
  match q.op with
  | .modeSet => modeSetApply p u s
  | .restart => restartApply p s
  | .valueWrite => valueWriteApply p s
  | .constWrite => constWriteApply p s
  | .forceSet => forceSetApply p s
  | .forceClear => forceClearApply p s
  | .valueOwn => valueOwnApply p s
  | .valueRelease => valueReleaseApply p s
  | .loopModeSet => loopModeSetApply p s
  | .loopSpSet => loopSpSetApply p s
  | .loopCoeffSet => loopCoeffSetApply p s
  | .chimeSet => chimeSetApply p s
  | .rimshotArm => rimshotArmApply p s
  | .canObjSet => canObjSetApply p s
  | .securityStateSet => securityStateSetApply p s
  | .dormantEnter => dormantEnterApply s
  | .switchover => switchoverApply s
  | .resyncStandby => resyncApply s
  | .shadowStart => shadowStartApply s
  | .promote => promoteApply p u s
  | .revert => revertApply p s
  | .changeConfirm => changeConfirmApply p s
  | .objWrite => objWriteApply p u s
  | .ioConfigSet => ioConfigApply p u s
  | _ => { st := s }

/-- A command that the SHADOW applies too, as the image on the pair link carries it (R168). -/
def QCmd.tracked (q : QCmd) : List TrackedCmd :=
  if [Op.valueWrite, .constWrite, .forceSet, .forceClear, .loopModeSet, .loopSpSet, .loopCoeffSet].contains q.op then
    [{ op := q.op, pkt := q.pkt, prio := q.prio, beat := q.beat, apply := q.apply, epoch := q.epoch }]
  else []

/-- A command that stands against the causes and the owners of R62 and R396, or the refusal it gets. -/
def State.freezeChk (s : State) (q : QCmd) (cause : Option Cause) : Chk :=
  match cause with
  | some c =>
    if !q.changesMode then Chk.all ((s.handlesOf q).map (ownedChk s q.pkt.sess))
    else if c.kind = .keyStop then keyLocked s
    else .bad stWrongMode (detail (s.get F.mode))
  | none => Chk.all ((s.handlesOf q).map (ownedChk s q.pkt.sess))

/-- A target that another session has won. -/
def lostTarget (won : List (Target × Nat)) (ts : List Target) (sess : Nat) : Option (Target × Nat) :=
  ts.findSome? (fun t => won.find? (fun w => w.1 == t && w.2 != sess))

/-- One due command: epoch (R364), causes and owners, competition, effect. `won` holds the targets set so far, with their
sessions. -/
def State.freezeOne (s : State) (cause : Option Cause) (won : List (Target × Nat)) (q : QCmd) :
    State × List (Target × Nat) :=
  match resolve s q.pkt with
  | .fail st tl => (s.afterFreeze q st tl, won)
  | .unit u =>
    if s.epochOf u ≠ q.epoch ∧ !(opSpec q.op).ef then (s.lateEpoch q u, won)
    else
      match s.freezeChk q cause with
      | .bad st tl => (s.afterFreeze q st tl, won)
      | .ok =>
        let ts := s.targetsOf q u
        match lostTarget won ts q.pkt.sess with
        | some w => (s.afterFreeze q stConflict [s.winValue w.1, tlv 0x8006 4 w.2], won)
        | none =>
          let a := applyCmd q u s
          let s := if a.status = stOk then
              { a.st with pair := { a.st.pair with appliedCmds := a.st.pair.appliedCmds ++ q.tracked } }
            else a.st
          (s.afterFreeze q a.status a.tlvs, if a.status = stOk then won ++ ts.map (fun t => (t, q.pkt.sess)) else won)

/-- The due commands, until one restarts the module. -/
def freezeAll (cause : Option Cause) : List QCmd → State → List (Target × Nat) → State
  | [], s, _ => s
  | q :: t, s, won =>
    if !s.beat.runs then s
    else
      let r := s.freezeOne cause won q
      freezeAll cause t r.1 r.2

/-- A module restart takes effect in this Freeze (R62). -/
def State.restartDue (s : State) : Bool :=
  (match s.taken with | some c => c.kind == .start | none => false) || (s.resetWins && s.get F.role != rActive)

/-- The due commands that would change the mode lose to a module restart: each gets WRONG_MODE (R62). -/
def State.refuseLosers (s : State) : State :=
  if s.restartDue then
    (s.dueCmds.filter (fun q => q.changesMode)).foldl (fun (s : State) q =>
      s.afterFreeze q stWrongMode (detail (s.get F.mode))) s
  else s

/-- FREEZE_COMMAND_APPLY (R62, R393): causes first, then the commands of the beat. -/
def State.freezeApply (s : State) : State :=
  if s.pwr.off ∨ !s.beat.runs ∨ s.beat.imaged then s
  else
    let w := s.taken
    let s := s.refuseLosers.freezeFirst
    let due := s.dueCmds
    let s := { s with lcp := { s.lcp with queue := s.lcp.queue.filter (fun q => !decide (q.apply ≤ s.now)) } }
    (freezeAll w due s []).showLeds

/-- FREEZE_COMMAND_APPLY. -/
def execFreezeCommandApply (s : State) : Host.Outcome State Fault Refusal := .next s.freezeApply

end Sys2Proof.Machine
end

