-- ==== Sys2Proof/Machine/Commit.lean ====
section
/-! DEFINITION. Commit, Emit and the tracking close: COMMIT_START, COMMIT_DONE, COMMIT_LATE, EMIT_START, TRACKING_CLOSE_SEND and
RETAIN_MIRROR_DONE (R16, R17, R33, R39, R40, R51, R98, R99, R117, R141, R164, R335). -/

namespace Sys2Proof.Machine

open Sys2Proof

/-- A log of the last 4,000 beats with the entry of this beat. -/
def logBeat (l : List (Nat × Nat)) (now v : Nat) : List (Nat × Nat) :=
  l.filter (fun e => decide (now < e.1 + 4000)) ++ [(now, v)]

/-- The highest and the lowest value of a log. -/
def logMax (l : List (Nat × Nat)) : Nat := listMax (l.map (fun e => e.2))
def logMin (l : List (Nat × Nat)) : Nat := l.foldl (fun a e => min a e.2) 0xFFFF

/-- Idle between the last slice and 190 µs, in 0.1 µs: what absorbs a charge before the reserve does (R35, R39). -/
def State.idleTime (s : State) : Nat := 1700 - 10 * s.get F.sliceSum

/-- Idle of the whole compute window before any charge: what the classes have not used of their slices is Idle too (R43). -/
def State.idleSpan (s : State) : Nat := 1700 - s.beat.used.foldl (· + ·) 0

/-- Idle left and fault reserve used in the beat (R32, R33, R39). -/
def State.accountBeat (s : State) : State :=
  let used := s.beat.charged - s.idleTime
  let s := { s with beat := { s.beat with
    idleLog := logBeat s.beat.idleLog s.now (s.idleSpan - s.beat.charged)
    reserveLog := logBeat s.beat.reserveLog s.now used } }
  let s := s.put F.reservePeak (min (logMax s.beat.reserveLog) 0xFFFF)
  let s := s.put F.minIdle (if s.beat.sinceStart < 4000 then 0 else logMin s.beat.idleLog)
  if used > 100 then s.put F.reserveExceeded 1 else s

/-- The loop engine at 200 µs: its finish, and the blocks that are cut (R117, R135). -/
def State.engineEnds (s : State) (unfinished : List Nat) (finish : Nat) : State :=
  if !s.loops.started then s
  else
    let log := logBeat s.loops.finishLog s.now finish
    let s := { s with loops := { s.loops with finishLog := log } }
    (s.put F.finishPeak (min (logMax log) 0xFFFF)).cutLoops unfinished

/-- Every slice is over at 200 µs: one still running is cut there (R39), and the task watchdog has checked each class. -/
def State.cutSlices (s : State) : State :=
  (List.range 5).foldl (fun (s : State) c =>
    if s.beat.slice ≤ c then ({ s with beat := { s.beat with slice := c + 1 } }).watchClass c else s) s

/-- COMMIT_START: Compute ends at 200 µs (R35). Halted cores commit nothing (R481). -/
def State.commitStart (s : State) (unfinished : List Nat) (finish : Nat) : State :=
  if s.pwr.off ∨ !s.beat.runs ∨ !s.beat.computing then s
  else
    let s := s.onClusters State.cutSlices
    let s := { s with beat := { s.beat with
      computing := false, committing := s.get F.haltState == 0, off := max s.beat.off 40000 } }
    let of := fun (c : Nat) => (unfinished.filter (fun n => n / 2 ^ 14 == c)).map (fun n => n % 2 ^ 14)
    let s := s.accountBeat.engineEnds (of 0) finish
    (s.onCluster 1 (fun s => s.engineEnds (of 1) finish)).onCluster 2 (fun s => s.engineEnds (of 2) finish)

/-- COMMIT_START. -/
def execCommitStart (unfinished : List Nat) (finish : Nat) (s : State) : Host.Outcome State Fault Refusal :=
  .next (s.commitStart unfinished finish)

/-- What a completed Commit does (R17, R35, R85, R99): values published, outputs staged, the snapshot of retained values; a
follower's outputs are those of the ACTIVE. -/
def State.commitDone (s : State) : State :=
  if s.pwr.off ∨ !s.beat.committing then s
  else
    let r := s.get F.role
    let s := if r = rStandby then s else s.onClusters State.commitRuntime
    let s := s.retainSnapshot
    let s := { s with beat := { s.beat with committing := false, committed := true } }
    if r = rShadow then
      if s.pair.images.any (fun i => i.beat == s.now && i.complete) then
        { s with pair := { s.pair with
          shadowC := some s.now, kept := some (s.rt, s.loops), keptStatus := s.regs.filter (fun r => isStatus r.1) } } else s
    else if r = rActive then { s with pair := { s.pair with outsOut := s.rt.outs } }
    else s

/-- COMMIT_DONE. -/
def execCommitDone (s : State) : Host.Outcome State Fault Refusal := .next s.commitDone

/-- What the cycles that end here would have published waits for the next Commit (R40). -/
def State.putByAll (s : State) : State :=
  s.putByWork ((List.range 5).filter (fun c => s.cycleOver c && !s.rt.withheld.contains c))

/-- A Commit not finished by 212 µs is abandoned (R40): the classes whose cycles end here publish at the next Commit. -/
def State.commitLate (s : State) : State :=
  if s.pwr.off ∨ !s.beat.committing then s
  else
    let s := s.onClusters State.putByAll
    let again : Bool := match s.beat.lastLate with | some n => decide (s.now < n + 4000) | none => false
    let s := { s with
      beat := { s.beat with committing := false, lastLate := some s.now, off := max s.beat.off 42400 } }
    (s.put F.commitLate 1).raise 453 1 (if again then 4 else 2) [(32, s.now)]                 -- COMMIT_LATE

/-- COMMIT_LATE. -/
def execCommitLate (s : State) : Host.Outcome State Fault Refusal := .next s.commitLate

/-- EMIT_START at 212 µs (R35): lane frames, the frames forwarded for the partner, WSL-E exchanges, CAN frames of a completed
Commit, local latches. -/
def State.emitStart (s : State) : State :=
  if s.pwr.off ∨ !s.beat.runs ∨ s.beat.committing then s
  else
    let s := { s with beat := { s.beat with off := max s.beat.off 42400 } }
    let s := s.emitLanes
    let s := if (s.get F.role = rStandby ∨ s.get F.role = rShadow) ∧ s.pair.outsBeat = s.now then s.emitForwarded s.pair.outsIn
      else s
    let s := s.emitWsl
    let s := if s.beat.committed ∧ s.get F.haltState = 0 then s.canCommit else s
    if s.get F.driveEn = 1 then s.armLatches s.latchVals else s

/-- EMIT_START. -/
def execEmitStart (s : State) : Host.Outcome State Fault Refusal := .next s.emitStart

/-- An OK reply that waits for this tracking close becomes TRACK_OVERFLOW where it is sent after application (R165). -/
def HeldReply.overflow (h : HeldReply) (n : Nat) : HeldReply :=
  if h.beat = n ∧ h.reply.status = stOk ∧ (h.reply.op = opCode .loopCoeffSet ∨ h.reply.op = opCode .securityStateSet) then
    { h with reply := { h.reply with status := stTrackOverflow } }
  else h

/-- The beat's tracking overflows (R165): TRACK_OVERFLOW, and the partner synchronises again. -/
def State.trackOverflow (s : State) (data : Nat) : State :=
  let s := (s.inc F.overflowCount).raise 345 1 2 [(32, s.now), (32, data)]                    -- TRACK_OVERFLOW
  let held := s.lcp.heldReplies.map (fun h => HeldReply.overflow h s.now)
  let cached := fun (r : Reply) =>
    match held.find? (fun h => h.reply.sess == r.sess && h.reply.seq == r.seq && h.reply.op == r.op) with
    | some h => h.reply
    | none => r
  let s := { s with
    lcp := { s.lcp with
      heldReplies := held
      sessions := s.lcp.sessions.map (fun (x : Session) => { x with cache := x.cache.map cached }) }
    pair := { s.pair with overNow := true, partnerReady := false } }
  s.put F.pairState 2

/-- The line data of the beat, and the most of the last 4,000 beats (R175). -/
def State.logTrack (s : State) (data : Nat) : State :=
  let log := logBeat s.pair.trackLog s.now data
  ({ s with pair := { s.pair with trackLog := log } }).put F.trackPeak (min (logMax log) 0xFFFFFFFF)

/-- The line records of the beat (R141): those sent before their line was written again, then each line with its latest content,
then the executed loop blocks. -/
def State.lineRecords (s : State) (resent : List (Nat × Nat)) : List (Nat × Nat) := resent ++ s.pair.tx ++ s.pair.loopTx

/-- The close that the ACTIVE sends its STANDBY: count, CRCs, OVERFLOW (R141, R164). -/
def State.sendClose (s : State) (resent : List (Nat × Nat)) (allSent : Bool) : State :=
  let rs := s.lineRecords resent
  let data := 64 * rs.length
  let over_ := decide (data > s.trackLimit - s.pair.xBytes) || !allSent
  let crc : Nat := match s.pair.imageOut with | some i => i.crc | none => 0
  let s := { s.logTrack data with pair := { (s.logTrack data).pair with
    closeOut := some { beat := s.now, lines := rs.length, crc := linesCrc rs, imageCrc := crc, overflow := over_ } } }
  let s := s.put F.lastClosed s.now
  if over_ then s.trackOverflow data else s

/-- TRACKING_CLOSE_SEND at 240 µs (R141, R164). -/
def State.trackingClose (s : State) (resent : List (Nat × Nat)) (allSent : Bool) : State :=
  if s.pwr.off ∨ !s.beat.runs then s
  else
    let s := if !s.hasStandby ∨ s.get F.linkUp = 0 then s.logTrack 0 else s.sendClose resent allSent
    let s := s.releaseHeld s.now
    { s with beat := { s.beat with off := max s.beat.off 48001 } }

/-- TRACKING_CLOSE_SEND. -/
def execTrackingCloseSend (resent : List (Nat × Nat)) (allSent : Bool) (s : State) : Host.Outcome State Fault Refusal :=
  .next (s.trackingClose resent allSent)

/-- RETAIN_MIRROR_DONE (R98): the mirror being written is complete. -/
def execRetainMirrorDone (s : State) : Host.Outcome State Fault Refusal :=
  .next (match s.rt.mirror with | some m => s.storeMirror m | none => s)

end Sys2Proof.Machine
end

