-- ==== Sys2Proof/Machine/Dispatch.lean ====
section
/-! DEFINITION. One arm per command: the direct call of its meaning. -/

namespace Sys2Proof.Machine

open Sys2Proof

/-- The effect of a command on everything but the queue. -/
def exec (i : Instr) (s : State) : Host.Outcome State Fault Refusal :=
  match i with
  | .hello p => Sys2Proof.Machine.execHello p s
  | .bye p => Sys2Proof.Machine.execBye p s
  | .ping p => Sys2Proof.Machine.execPing p s
  | .sessionPriority p => Sys2Proof.Machine.execSessionPriority p s
  | .unitList p => Sys2Proof.Machine.execUnitList p s
  | .unitInfo p => Sys2Proof.Machine.execUnitInfo p s
  | .unitCertGet p => Sys2Proof.Machine.execUnitCertGet p s
  | .unitEpochGet p => Sys2Proof.Machine.execUnitEpochGet p s
  | .modeGet p => Sys2Proof.Machine.execModeGet p s
  | .modeSet p => Sys2Proof.Machine.execModeSet p s
  | .restart p => Sys2Proof.Machine.execRestart p s
  | .gong p => Sys2Proof.Machine.execGong p s
  | .clearSafe p => Sys2Proof.Machine.execClearSafe p s
  | .valueRead p => Sys2Proof.Machine.execValueRead p s
  | .valueWrite p => Sys2Proof.Machine.execValueWrite p s
  | .constWrite p => Sys2Proof.Machine.execConstWrite p s
  | .valueOwn p => Sys2Proof.Machine.execValueOwn p s
  | .valueRelease p => Sys2Proof.Machine.execValueRelease p s
  | .forceSet p => Sys2Proof.Machine.execForceSet p s
  | .forceClear p => Sys2Proof.Machine.execForceClear p s
  | .objRead p => Sys2Proof.Machine.execObjRead p s
  | .objWrite p => Sys2Proof.Machine.execObjWrite p s
  | .programStage p => Sys2Proof.Machine.execProgramStage p s
  | .programChunk p prog => Sys2Proof.Machine.execProgramChunk p prog s
  | .shadowStart p => Sys2Proof.Machine.execShadowStart p s
  | .shadowCompareGet p => Sys2Proof.Machine.execShadowCompareGet p s
  | .promote p => Sys2Proof.Machine.execPromote p s
  | .revert p => Sys2Proof.Machine.execRevert p s
  | .changeConfirm p => Sys2Proof.Machine.execChangeConfirm p s
  | .pairStatus p => Sys2Proof.Machine.execPairStatus p s
  | .switchover p => Sys2Proof.Machine.execSwitchover p s
  | .healthReport p => Sys2Proof.Machine.execHealthReport p s
  | .resyncStandby p => Sys2Proof.Machine.execResyncStandby p s
  | .loopRead p => Sys2Proof.Machine.execLoopRead p s
  | .loopModeSet p => Sys2Proof.Machine.execLoopModeSet p s
  | .loopCoeffSet p => Sys2Proof.Machine.execLoopCoeffSet p s
  | .loopSpSet p => Sys2Proof.Machine.execLoopSpSet p s
  | .timeStatus p => Sys2Proof.Machine.execTimeStatus p s
  | .chimeSet p => Sys2Proof.Machine.execChimeSet p s
  | .rimshotArm p => Sys2Proof.Machine.execRimshotArm p s
  | .captureRead p => Sys2Proof.Machine.execCaptureRead p s
  | .journalStatus p => Sys2Proof.Machine.execJournalStatus p s
  | .rollNow p => Sys2Proof.Machine.execRollNow p s
  | .recorderFreeze p => Sys2Proof.Machine.execRecorderFreeze p s
  | .recorderRead p => Sys2Proof.Machine.execRecorderRead p s
  | .recorderThaw p => Sys2Proof.Machine.execRecorderThaw p s
  | .recorderClear p => Sys2Proof.Machine.execRecorderClear p s
  | .imageHeader p => Sys2Proof.Machine.execImageHeader p s
  | .imageChunk p => Sys2Proof.Machine.execImageChunk p s
  | .imageCommit p => Sys2Proof.Machine.execImageCommit p s
  | .imageStatus p => Sys2Proof.Machine.execImageStatus p s
  | .imageConfirm p => Sys2Proof.Machine.execImageConfirm p s
  | .csrCreate p => Sys2Proof.Machine.execCsrCreate p s
  | .certInstall p => Sys2Proof.Machine.execCertInstall p s
  | .securityStateSet p => Sys2Proof.Machine.execSecurityStateSet p s
  | .debugTokenInstall p => Sys2Proof.Machine.execDebugTokenInstall p s
  | .auditRead p => Sys2Proof.Machine.execAuditRead p s
  | .ioConfigSet p => Sys2Proof.Machine.execIoConfigSet p s
  | .ioDiagRead p => Sys2Proof.Machine.execIoDiagRead p s
  | .laneStatus p => Sys2Proof.Machine.execLaneStatus p s
  | .canObjSet p => Sys2Proof.Machine.execCanObjSet p s
  | .powerStatus p => Sys2Proof.Machine.execPowerStatus p s
  | .dormantEnter p => Sys2Proof.Machine.execDormantEnter p s
  | .powerStats p => Sys2Proof.Machine.execPowerStats p s
  | .eventSubscribe p => Sys2Proof.Machine.execEventSubscribe p s
  | .eventRead p => Sys2Proof.Machine.execEventRead p s
  | .selftest p => Sys2Proof.Machine.execSelftest p s
  | .klStatus p => Sys2Proof.Machine.execKlStatus p s
  | .gongDatagramSend => Sys2Proof.Machine.execGongDatagramSend s
  | .gongDatagramReceive d => Sys2Proof.Machine.execGongDatagramReceive d s
  | .servicePacketCrcFail => Sys2Proof.Machine.execServicePacketCrcFail s
  | .nonceExpiry => Sys2Proof.Machine.execNonceExpiry s
  | .sessionTransportLoss sess => Sys2Proof.Machine.execSessionTransportLoss sess s
  | .sessionIdleTimeout sess => Sys2Proof.Machine.execSessionIdleTimeout sess s
  | .ownGraceExpiry sess => Sys2Proof.Machine.execOwnGraceExpiry sess s
  | .transferTimeout image => Sys2Proof.Machine.execTransferTimeout image s
  | .forwardTimeout sess seq => Sys2Proof.Machine.execForwardTimeout sess seq s
  | .mailboxReply lane sub mbSeq mbOp status len data => Sys2Proof.Machine.execMailboxReply lane sub mbSeq mbOp status len data s
  | .mailboxTimeout lane sub mbSeq => Sys2Proof.Machine.execMailboxTimeout lane sub mbSeq s
  | .beatEdge inp => Sys2Proof.Machine.execBeatEdge inp s
  | .freezeCommandApply => Sys2Proof.Machine.execFreezeCommandApply s
  | .imageComplete offset => Sys2Proof.Machine.execImageComplete offset s
  | .taskEnd task writes exec lines cluster => Sys2Proof.Machine.execTaskEnd task writes exec lines s cluster
  | .sliceEnd cls used cluster => Sys2Proof.Machine.execSliceEnd cls used s cluster
  | .loopBlockExecute loop cluster => Sys2Proof.Machine.execLoopBlockExecute loop s cluster
  | .commitStart unfinished finish => Sys2Proof.Machine.execCommitStart unfinished finish s
  | .commitDone => Sys2Proof.Machine.execCommitDone s
  | .commitLate => Sys2Proof.Machine.execCommitLate s
  | .emitStart => Sys2Proof.Machine.execEmitStart s
  | .trackingCloseSend resent allSent => Sys2Proof.Machine.execTrackingCloseSend resent allSent s
  | .clusterTrimExit tX tY tZ request => Sys2Proof.Machine.execClusterTrimExit tX tY tZ request s
  | .holdTimeout => Sys2Proof.Machine.execHoldTimeout s
  | .retainMirrorDone => Sys2Proof.Machine.execRetainMirrorDone s
  | .startSequence inp => Sys2Proof.Machine.execStartSequence inp s
  | .partnerExchange inp claim => Sys2Proof.Machine.execPartnerExchange inp s claim
  | .heartbeatSend tick triadLive supLive => Sys2Proof.Machine.execHeartbeatSend tick triadLive supLive s
  | .heartbeatReceive h => Sys2Proof.Machine.execHeartbeatReceive h s
  | .heartbeatLost tick => Sys2Proof.Machine.execHeartbeatLost tick s
  | .ownHeartbeatStop => Sys2Proof.Machine.execOwnHeartbeatStop s
  | .takeover tdNs claim => Sys2Proof.Machine.execTakeover tdNs claim s
  | .claimReleasedUnsynced => Sys2Proof.Machine.execClaimReleasedUnsynced s
  | .claimProbe asserted => Sys2Proof.Machine.execClaimProbe asserted s
  | .pairLinkUp lanes => Sys2Proof.Machine.execPairLinkUp lanes s
  | .pairLinkDegraded lane => Sys2Proof.Machine.execPairLinkDegraded lane s
  | .frozenImageReceive inp => Sys2Proof.Machine.execFrozenImageReceive inp s
  | .trackingLineReceive addr data => Sys2Proof.Machine.execTrackingLineReceive addr data s
  | .outputCloseReceive beat outs => Sys2Proof.Machine.execOutputCloseReceive beat outs s
  | .trackingCloseReceive beat count crc imageCrc overflow t => Sys2Proof.Machine.execTrackingCloseReceive beat count crc imageCrc overflow t s
  | .syncComplete prog t => Sys2Proof.Machine.execSyncComplete prog t s
  | .healthCheckPass k => Sys2Proof.Machine.execHealthCheckPass k s
  | .healthCheckDue k => Sys2Proof.Machine.execHealthCheckDue k s
  | .healthCheckFailed k => Sys2Proof.Machine.execHealthCheckFailed k s
  | .plannedSwitchover => Sys2Proof.Machine.execPlannedSwitchover s
  | .shadowRunStart beat => Sys2Proof.Machine.execShadowRunStart beat s
  | .shadowCompare theirs => Sys2Proof.Machine.execShadowCompare theirs s
  | .revertHandover => Sys2Proof.Machine.execRevertHandover s
  | .confirmWindowEnd => Sys2Proof.Machine.execConfirmWindowEnd s
  | .triadMismatch x y z off injected => Sys2Proof.Machine.execTriadMismatch x y z s off injected
  | .resyncStart => Sys2Proof.Machine.execResyncStart s
  | .resyncPassDone cluster => Sys2Proof.Machine.execResyncPassDone cluster s
  | .resyncFinal cluster => Sys2Proof.Machine.execResyncFinal cluster s
  | .resyncDone cluster => Sys2Proof.Machine.execResyncDone cluster s
  | .resyncRetry cluster => Sys2Proof.Machine.execResyncRetry cluster s
  | .splitClusterFault cluster cause => Sys2Proof.Machine.execSplitClusterFault cluster cause s
  | .edgeLaunch lane => Sys2Proof.Machine.execEdgeLaunch lane s
  | .delayMeasure lane => Sys2Proof.Machine.execDelayMeasure lane s
  | .delayRespReceive lane seq roundTripNs crc mark => Sys2Proof.Machine.execDelayRespReceive lane seq roundTripNs crc s mark
  | .upstreamFrameReceive lane f => Sys2Proof.Machine.execUpstreamFrameReceive lane f s
  | .ackSend lane second => Sys2Proof.Machine.execAckSend lane second s
  | .exchangeWindowEnd lane => Sys2Proof.Machine.execExchangeWindowEnd lane s
  | .lossOfLink lane => Sys2Proof.Machine.execLossOfLink lane s
  | .boardInserted lane addr generation type identityOk partCode serial => Sys2Proof.Machine.execBoardInserted lane addr generation type identityOk partCode serial s
  | .crossoverForward lane points => Sys2Proof.Machine.execCrossoverForward lane points s
  | .laneProbe lane reply => Sys2Proof.Machine.execLaneProbe lane reply s
  | .crossoverEnd lane cause => Sys2Proof.Machine.execCrossoverEnd lane cause s
  | .l3Poll lane board => Sys2Proof.Machine.execL3Poll lane board s
  | .l3CheckPoll lane board => Sys2Proof.Machine.execL3CheckPoll lane board s
  | .l3ResponseReceive lane board check addrChar status crc inputs points => Sys2Proof.Machine.execL3ResponseReceive lane board check addrChar status crc s inputs points
  | .l3ResponseTimeout lane board check => Sys2Proof.Machine.execL3ResponseTimeout lane board check s
  | .wslFrameReceive st pre f off => Sys2Proof.Machine.execWslFrameReceive st pre f s off
  | .wslExchangeDeadline st => Sys2Proof.Machine.execWslExchangeDeadline st s
  | .wslGateOpen port => Sys2Proof.Machine.execWslGateOpen port s
  | .wslGateClose port unsent => Sys2Proof.Machine.execWslGateClose port unsent s
  | .fieldSamplesCross converterOk => Sys2Proof.Machine.execFieldSamplesCross converterOk s
  | .fieldSamplesLate => Sys2Proof.Machine.execFieldSamplesLate s
  | .fieldConverter => Sys2Proof.Machine.execFieldConverter s
  | .fieldTimeout => Sys2Proof.Machine.execFieldTimeout s
  | .dioRampAbort k => Sys2Proof.Machine.execDioRampAbort k s
  | .dioOverloadTrip k => Sys2Proof.Machine.execDioOverloadTrip k s
  | .dioRetry k rampOk => Sys2Proof.Machine.execDioRetry k rampOk s
  | .dioRetriesRestore k => Sys2Proof.Machine.execDioRetriesRestore k s
  | .dioOverloadClear k byAck => Sys2Proof.Machine.execDioOverloadClear k byAck s
  | .dioOvertemp k => Sys2Proof.Machine.execDioOvertemp k s
  | .dioCooled k => Sys2Proof.Machine.execDioCooled k s
  | .dioWire k ext onset => Sys2Proof.Machine.execDioWire k ext onset s
  | .dioEdge k rising off => Sys2Proof.Machine.execDioEdge k rising off s
  | .loadSupplyChange b state => Sys2Proof.Machine.execLoadSupplyChange b state s
  | .aoOpenLoop k => Sys2Proof.Machine.execAoOpenLoop k s
  | .aoMiswire k volts => Sys2Proof.Machine.execAoMiswire k volts s
  | .aoMiswireClear k => Sys2Proof.Machine.execAoMiswireClear k s
  | .aoReadback k ma => Sys2Proof.Machine.execAoReadback k ma s
  | .aoHeadroomLow k => Sys2Proof.Machine.execAoHeadroomLow k s
  | .encIllegal k => Sys2Proof.Machine.execEncIllegal k s
  | .encZ k a b step illegal => Sys2Proof.Machine.execEncZ k a b step illegal s
  | .encLineFault k line => Sys2Proof.Machine.execEncLineFault k line s
  | .countPreset k value => Sys2Proof.Machine.execCountPreset k value s
  | .captureEvent u start stop timeNs => Sys2Proof.Machine.execCaptureEvent u start stop timeNs s
  | .captureIntervalTimeout u => Sys2Proof.Machine.execCaptureIntervalTimeout u s
  | .faSampleDeliver k x => Sys2Proof.Machine.execFaSampleDeliver k x s
  | .faChainRestart k => Sys2Proof.Machine.execFaChainRestart k s
  | .faLaneFault k cause => Sys2Proof.Machine.execFaLaneFault k cause s
  | .faLaneReload k => Sys2Proof.Machine.execFaLaneReload k s
  | .ptpSyncReceive port gm rawNs domain => Sys2Proof.Machine.execPtpSyncReceive port gm rawNs s domain
  | .delayExchangeComplete port gm rawNs => Sys2Proof.Machine.execDelayExchangeComplete port gm rawNs s
  | .announceReceive a => Sys2Proof.Machine.execAnnounceReceive a s
  | .gmChange gm port => Sys2Proof.Machine.execGmChange gm port s
  | .gmLost cause => Sys2Proof.Machine.execGmLost cause s
  | .timeLockLost => Sys2Proof.Machine.execTimeLockLost s
  | .ptpRxError port => Sys2Proof.Machine.execPtpRxError port s
  | .ptpForward port ipv6 trailer correction ingress egress => Sys2Proof.Machine.execPtpForward port ipv6 trailer correction ingress egress s
  | .ppsEdge off => Sys2Proof.Machine.execPpsEdge off s
  | .ppsLost => Sys2Proof.Machine.execPpsLost s
  | .ppsOutPulse => Sys2Proof.Machine.execPpsOutPulse s
  | .chimePulse pin => Sys2Proof.Machine.execChimePulse pin s
  | .rimshotFired pin => Sys2Proof.Machine.execRimshotFired pin s
  | .tpEventPulse pin => Sys2Proof.Machine.execTpEventPulse pin s
  | .canFrameReceive k f => Sys2Proof.Machine.execCanFrameReceive k f s
  | .canTxComplete k obj => Sys2Proof.Machine.execCanTxComplete k obj s
  | .canBusError k kind tx tec rec => Sys2Proof.Machine.execCanBusError k kind tx tec rec s
  | .canAckError k obj => Sys2Proof.Machine.execCanAckError k obj s
  | .canNoPeerResume k obj => Sys2Proof.Machine.execCanNoPeerResume k obj s
  | .canRecover k => Sys2Proof.Machine.execCanRecover k s
  | .canBusoffRecovery k => Sys2Proof.Machine.execCanBusoffRecovery k s
  | .canAbrDwell k => Sys2Proof.Machine.execCanAbrDwell k s
  | .canControllerFault k cause => Sys2Proof.Machine.execCanControllerFault k cause s
  | .canControllerReload k => Sys2Proof.Machine.execCanControllerReload k s
  | .journalRecordCommit => Sys2Proof.Machine.execJournalRecordCommit s
  | .rollCopy => Sys2Proof.Machine.execRollCopy s
  | .rollDone => Sys2Proof.Machine.execRollDone s
  | .recorderAppend => Sys2Proof.Machine.execRecorderAppend s
  | .eventDeliver => Sys2Proof.Machine.execEventDeliver s
  | .faultArrival => Sys2Proof.Machine.execFaultArrival s
  | .faultHandlerEnd triadCtx time => Sys2Proof.Machine.execFaultHandlerEnd triadCtx time s
  | .fatalHandler => Sys2Proof.Machine.execFatalHandler s
  | .wdService k w => Sys2Proof.Machine.execWdService k w s
  | .wdExpired => Sys2Proof.Machine.execWdExpired s
  | .wdAckTimeout => Sys2Proof.Machine.execWdAckTimeout s
  | .wdClockStop => Sys2Proof.Machine.execWdClockStop s
  | .wdMonitorClock => Sys2Proof.Machine.execWdMonitorClock s
  | .wdEraseGuard target => Sys2Proof.Machine.execWdEraseGuard target s
  | .tollAge => Sys2Proof.Machine.execTollAge s
  | .dbgCmdHalt => Sys2Proof.Machine.execDbgCmdHalt s
  | .dbgCmdResume => Sys2Proof.Machine.execDbgCmdResume s
  | .dbgCmdStep => Sys2Proof.Machine.execDbgCmdStep s
  | .dbgCmdEndSession => Sys2Proof.Machine.execDbgCmdEndSession s
  | .dbgWindowWrite data => Sys2Proof.Machine.execDbgWindowWrite data s
  | .debugDurationEnd => Sys2Proof.Machine.execDebugDurationEnd s
  | .mpuBankSwap core regions => Sys2Proof.Machine.execMpuBankSwap core regions s
  | .mpuFault core addr size kind priv task => Sys2Proof.Machine.execMpuFault core addr size kind priv task s
  | .auditLinkCheck => Sys2Proof.Machine.execAuditLinkCheck s
  | .certExpiring slot => Sys2Proof.Machine.execCertExpiring slot s
  | .certExpired slot => Sys2Proof.Machine.execCertExpired slot s
  | .feedChange b state centivolts => Sys2Proof.Machine.execFeedChange b state centivolts s
  | .powerdownStart cut => Sys2Proof.Machine.execPowerdownStart s cut
  | .crashDown rail => Sys2Proof.Machine.execCrashDown rail s
  | .powerdownRestart => Sys2Proof.Machine.execPowerdownRestart s
  | .trimIdleTimer p unit refusers => Sys2Proof.Machine.execTrimIdleTimer p unit refusers s
  | .trimEntryConfirm p => Sys2Proof.Machine.execTrimEntryConfirm p s
  | .trimWake p wake ap => Sys2Proof.Machine.execTrimWake p wake ap s
  | .dormantWake wake => Sys2Proof.Machine.execDormantWake wake s
  | .partnerWakePulse => Sys2Proof.Machine.execPartnerWakePulse s
  | .moduleInsert slotClosed => Sys2Proof.Machine.execModuleInsert slotClosed s
  | .moduleRemove => Sys2Proof.Machine.execModuleRemove s
  | .keyChange pos => Sys2Proof.Machine.execKeyChange pos s
  | .resetRelease ms => Sys2Proof.Machine.execResetRelease ms s
  | .stuckReset atStart => Sys2Proof.Machine.execStuckReset atStart s
  | .resetRearm => Sys2Proof.Machine.execResetRearm s
  | .releasePress ms => Sys2Proof.Machine.execReleasePress ms s
  | .releaseHold => Sys2Proof.Machine.execReleaseHold s
  | .okToRemove => Sys2Proof.Machine.execOkToRemove s
  | .touchPage => Sys2Proof.Machine.execTouchPage s
  | .touchSelect => Sys2Proof.Machine.execTouchSelect s
  | .touchBack => Sys2Proof.Machine.execTouchBack s
  | .touchAck => Sys2Proof.Machine.execTouchAck s
  | .displayTimeout => Sys2Proof.Machine.execDisplayTimeout s
  | .imageEraseComplete held more => Sys2Proof.Machine.execImageEraseComplete s held more
  | .supBankProgramDone held more => Sys2Proof.Machine.execSupBankProgramDone s held more
  | .imageAutoConfirm => Sys2Proof.Machine.execImageAutoConfirm s
  | .imageRejection cause => Sys2Proof.Machine.execImageRejection cause s
  | .confirmDeadline => Sys2Proof.Machine.execConfirmDeadline s
  | .supervisorLockstepMismatch => Sys2Proof.Machine.execSupervisorLockstepMismatch s
  | .encCountStep k a0 b0 a1 b1 => Sys2Proof.Machine.execEncCountStep k a0 b0 a1 b1 s
  | .ethLinkChange port up => Sys2Proof.Machine.execEthLinkChange port up s
  | .buttonClosure release => Sys2Proof.Machine.execButtonClosure release s
  | .panelMessageTimeout => Sys2Proof.Machine.execPanelMessageTimeout s
  | .holdupBankCharged decivolts => Sys2Proof.Machine.execHoldupBankCharged decivolts s

end Sys2Proof.Machine
end

