-- ==== Sys2Proof/Safety.lean ====
section
/-! DEFINITION. What a state of the block must satisfy, and what counts as a safe one, in the terms that claims use. -/

namespace Sys2Proof.Machine

open Sys2Proof

/-- The memories of the clusters: of those that agree, and of Y and of Z on a SPLIT module (R180, R190). -/
abbrev State.mems (s : State) : List (List Host.Cell) := [s.mem, s.triad.memY, s.triad.memZ]

/-- The data of a state are in their one canonical form: no memory lists a byte twice or one that reads 0 anyway, and the
register file lists each key at most once. -/
def State.Canonical (s : State) : Prop := s.mems.all memWf = true ∧ regWf s.regs = true

/-- A module that asserts its claim line or enables its field drive is in STOP, RUN or HOLD, and SOLO or ACTIVE (R14, R55). -/
def State.DriveSafe (s : State) : Prop :=
  s.get F.claim = 1 ∨ s.get F.driveEn = 1 → drives (s.get F.mode) (s.get F.role) = true

/-- The keys of MODE, ROLE, the claim and the drive enable: what no object write may reach (R373). -/
def statusKeys : List Nat := [fldKey F.mode 0, fldKey F.role 0, fldKey F.claim 0, fldKey F.driveEn 0]

/-- No register write that waits for its edge (R345, R373) names one of those keys. -/
def State.EdgesClean (s : State) : Prop := ∀ w ∈ s.beat.edgePend ++ s.can.pend, w.1 ∉ statusKeys

/-- What every state of the block keeps. -/
def State.Inv (s : State) : Prop := s.Canonical ∧ s.DriveSafe ∧ s.EdgesClean

/-- MODE and ROLE hold values of their three bits. -/
def State.ModeFits (s : State) : Prop := s.get F.mode < 8 ∧ s.get F.role < 8

/-- The parts of a state, each named or not; the registers' values count as one part. -/
structure Parts where
  regs : Bool := false
  mem : Bool := false
  free : Bool := false
  beat : Bool := false
  ev : Bool := false
  lcp : Bool := false
  jr : Bool := false
  units : Bool := false
  wd : Bool := false
  rt : Bool := false
  rtY : Bool := false
  rtZ : Bool := false
  loops : Bool := false
  pair : Bool := false
  sec : Bool := false
  triad : Bool := false
  pwr : Bool := false
  img : Bool := false
  panel : Bool := false
  lanes : Bool := false
  field : Bool := false
  time : Bool := false
  can : Bool := false
  deriving DecidableEq, Repr

/-- The state without the parts named: what is left to compare. -/
def State.without (m : Parts) (s : State) : State where
  regs := bif m.regs then [] else s.regs
  mem := bif m.mem then [] else s.mem
  free := bif m.free then 0 else s.free
  beat := bif m.beat then {} else s.beat
  ev := bif m.ev then {} else s.ev
  lcp := bif m.lcp then {} else s.lcp
  jr := bif m.jr then {} else s.jr
  units := bif m.units then {} else s.units
  wd := bif m.wd then {} else s.wd
  rt := bif m.rt then {} else s.rt
  rtY := bif m.rtY then {} else s.rtY
  rtZ := bif m.rtZ then {} else s.rtZ
  loops := bif m.loops then {} else s.loops
  pair := bif m.pair then {} else s.pair
  sec := bif m.sec then {} else s.sec
  triad := bif m.triad then {} else s.triad
  pwr := bif m.pwr then {} else s.pwr
  img := bif m.img then {} else s.img
  panel := bif m.panel then {} else s.panel
  lanes := bif m.lanes then {} else s.lanes
  field := bif m.field then {} else s.field
  time := bif m.time then {} else s.time
  can := bif m.can then {} else s.can
  pending := s.pending

/-- From `s` to `t` only the parts named differ, and the queue of commands is the same. -/
def Touches (m : Parts) (s t : State) : Prop := t.without m = s.without m

/-- The parts of `m` are among those of `n`. -/
def Parts.le (m n : Parts) : Bool :=
  (!m.regs || n.regs) && (!m.mem || n.mem) && (!m.free || n.free) && (!m.beat || n.beat) &&
  (!m.ev || n.ev) && (!m.lcp || n.lcp) && (!m.jr || n.jr) && (!m.units || n.units) &&
  (!m.wd || n.wd) && (!m.rt || n.rt) && (!m.rtY || n.rtY) && (!m.rtZ || n.rtZ) &&
  (!m.loops || n.loops) && (!m.pair || n.pair) && (!m.sec || n.sec) && (!m.triad || n.triad) &&
  (!m.pwr || n.pwr) && (!m.img || n.img) && (!m.panel || n.panel) && (!m.lanes || n.lanes) &&
  (!m.field || n.field) && (!m.time || n.time) && (!m.can || n.can)

/-- A step that answers a next state. -/
def StepsTo (s t : State) : Prop := step s = .next t

/-! The terms the statements share. -/

/-- A request reaches its opcode, with the unit its UnitRef names, and passes the checks of the opcode (R388 to R413): `chk`
holds the opcode's own. -/
def Passes (o : Op) (p : Packet) (chk : UnitSel → State → Chk) (u : UnitSel) (s : State) : Prop :=
  admission o p s = .go u ∧ (permit o p u (s.noteSeq p)).andThen (chk u (s.noteSeq p)) = .ok

/-- The final reply to a request leaves the module: opcode, session, sequence and UnitRef of the request, the epoch of the
unit, RESPONSE set, MORE as given, a status and its TLVs (R384 to R386). -/
def Replied (o : Op) (p : Packet) (u : UnitSel) (status : Nat) (tlvs : List Tlv) (more : Bool) (s t : State) : Prop :=
  ∃ r : Reply, t.lcp.wire = s.lcp.wire ++ [r] ∧ r.op = opCode o ∧ r.sess = p.sess ∧ r.seq = p.seq ∧ r.hops = p.hops
    ∧ r.epoch = t.epochOf u ∧ r.status = status ∧ r.tlvs = tlvs ∧ bitOf r.flags 0 = true ∧ bitOf r.flags 3 = more

/-- From `s` to `t` a packet has been answered and nothing else has changed: the sessions' caches and sequences, what the
module sends, and how far the beat has run. -/
def OnlyAnswered (s t : State) : Prop :=
  t = { s with lcp := { s.lcp with sessions := t.lcp.sessions, wire := t.lcp.wire }
               beat := { s.beat with off := t.beat.off } }

/-- A request that only reads, and its completion: wherever it passes its checks it is answered OK with `tl`, read from the
state with the request's sequence noted, and nothing else changes. -/
def AnswersRead (i : Packet → Instr) (o : Op) (chk : Packet → UnitSel → State → Chk)
    (tl : Packet → UnitSel → State → List Tlv) (more : Packet → UnitSel → State → Bool) : Prop :=
  ∀ p u s, Passes o p (chk p) u s → ∃ t, exec (i p) s = .next t
    ∧ Replied o p u stOk (tl p u (s.noteSeq p)) (more p u (s.noteSeq p)) s t ∧ OnlyAnswered s t

/-- No MORE. -/
def whole (_ : Packet) (_ : UnitSel) (_ : State) : Bool := false

/-- An opcode without checks of its own. -/
def noChk (_ : Packet) (_ : UnitSel) (_ : State) : Chk := .ok

/-- INDEX and MAX_LEN must be there. -/
def pagedChk (p : Packet) (_ : UnitSel) (_ : State) : Chk := Chk.all [needTlv p 0x0033, needTlv p 0x0026]

/-- An accepted command waits for its Freeze behind those that wait already, with the beat it applies in and the priority and the
beat by which it competes: of its session and of this beat, or, where the partner forwarded it, those it brings (R385, R391,
R393). -/
def Waits (o : Op) (p : Packet) (u : UnitSel) (n : Nat) (s t : State) : Prop :=
  ∃ q : QCmd, t.lcp.queue = s.lcp.queue ++ [q] ∧ q.op = o ∧ q.pkt = p ∧ q.apply = n ∧ q.epoch = s.epochOf u ∧
    (q.prio, q.beat) = p.origin.getD ((match s.session? p.sess with | some x => x.prio | none => 0), s.get F.beatIndex)

/-- It is answered ACCEPTED with its apply beat (GONG without time lock with ModuleStatus beside it: R54, the model's choice of
log entry 48); the reply leaves at once, or waits for the tracking close and the commits that R143 and R430 name. -/
def Accepted (o : Op) (p : Packet) (u : UnitSel) (n : Nat) (s t : State) : Prop :=
  ∃ r : Reply, r.op = opCode o ∧ r.sess = p.sess ∧ r.seq = p.seq ∧ r.epoch = s.epochOf u ∧ r.status = stAccepted
    ∧ r.tlvs = applyBeatTlv n :: (if o = .gong ∧ s.get F.timeLocked = 0 then [packObj s 0x0010 0 0] else [])
    ∧ (if (s.noteSeq p).replyBeat = 0 ∧ s.jr.asked ≤ s.jr.commits then
        t.lcp.wire = s.lcp.wire ++ [r] ∧ t.lcp.heldReplies = s.lcp.heldReplies
      else t.lcp.wire = s.lcp.wire ∧ t.lcp.heldReplies = s.lcp.heldReplies ++
        [{ beat := (s.noteSeq p).replyBeat, need := s.jr.asked, reply := r }])

/-- From `s` to `t` a command has been taken into the queue and answered, and nothing else has changed. -/
def OnlyQueued (s t : State) : Prop :=
  t = { s with lcp := { s.lcp with sessions := t.lcp.sessions, wire := t.lcp.wire, queue := t.lcp.queue
                                   heldReplies := t.lcp.heldReplies }
               beat := { s.beat with off := t.beat.off } }

/-- A command that is applied in a Freeze, and its completion: wherever it passes its checks it waits for the beat `n`, is
answered ACCEPTED, and changes nothing else yet. -/
def AcceptsCommand (i : Packet → Instr) (o : Op) (chk : Packet → UnitSel → State → Chk)
    (n : Packet → UnitSel → State → Nat) : Prop :=
  ∀ p u s, Passes o p (chk p) u s → ∃ t, exec (i p) s = .next t ∧ Waits o p u (n p u (s.noteSeq p)) s t
    ∧ Accepted o p u (n p u (s.noteSeq p)) s t ∧ OnlyQueued s t

/-! What a command does to the state: it completes, which registers it changes, which events it stamps. -/

/-- The command answers a next state, and that state satisfies `P`. -/
def Does (c : Instr) (s : State) (P : State → Prop) : Prop := ∃ t, exec c s = .next t ∧ P t

/-- Every field of the object map but those listed (with their indices) reads in `t` as in `s`. -/
def RegsBut (l : List (Fld × Nat)) (s t : State) : Prop :=
  ∀ f k, (∀ p ∈ l, fldKey f k ≠ fldKey p.1 p.2) → t.get f k = s.get f k

/-- Values of given widths, side by side from bit 0 up. -/
def sideBySide : List (Nat × Nat) → Nat
  | [] => 0
  | (w, v) :: l => v % 2 ^ w + 2 ^ w * sideBySide l

/-- The record of an event stamped in `s` (R439, R446). -/
def eventOf (s : State) (src code sev : Nat) (fields : List (Nat × Nat)) : EvRec :=
  { src := src, code := code, sev := sev, beat := s.get F.beatIndex, off := s.beat.off
    ptpValid := s.get F.timeLocked == 1
    ptp := if s.get F.timeLocked = 1 then ptpField (s.get F.beatIndex) s.beat.off else 0
    op := s.beat.opBeats / 250, cycles := s.get F.powerCycles % 2 ^ 24, data := sideBySide fields, route := s.route src }

/-- From `s` to `t` exactly these records have been handed to the Event Router, and nothing else of the events has changed. -/
def Raised (es : List EvRec) (s t : State) : Prop := t.ev = { s.ev with router := s.ev.router ++ es }

/-- These records are the last handed to the Event Router since `s`. -/
def RaisedLast (es : List EvRec) (s t : State) : Prop := ∃ l, t.ev.router = s.ev.router ++ (l ++ es)

/-- An action has been added to the audit log as its newest record. -/
def Audited (action result subject : Nat) (t : State) : Prop :=
  ∃ r, t.sec.audit.getLast? = some r ∧ r.action = action ∧ r.result = result ∧ r.subject = subject % 2 ^ 32

/-- The newest record of the audit log is of this action, with this result and DETAIL. -/
def Recorded (action result detail : Nat) (t : State) : Prop :=
  ∃ r, t.sec.audit.getLast? = some r ∧ r.action = action ∧ r.result = result % 256 ∧ r.detail = detail % 256

/-- The registers an audit record touches: AuditStatus, and the count of AUDIT_WRAPPED. -/
def auditRegs : List (Fld × Nat) := [(F.auditNext, 0), (F.auditCount, 0), (F.auditWraps, 0), (F.raised, 392)]

/-- A final reply that waits, where it must, for the tracking close and the commits (R143, R430). -/
def RepliedHeld (o : Op) (p : Packet) (status : Nat) (tlvs : List Tlv) (s t : State) : Prop :=
  ∃ r : Reply, r.op = opCode o ∧ r.sess = p.sess ∧ r.seq = p.seq ∧ r.status = status ∧ r.tlvs = tlvs ∧
    (t.lcp.wire = s.lcp.wire ++ [r] ∧ t.lcp.heldReplies = s.lcp.heldReplies ∨
      t.lcp.wire = s.lcp.wire ∧ ∃ h : HeldReply, t.lcp.heldReplies = s.lcp.heldReplies ++ [h] ∧ h.reply = r)

end Sys2Proof.Machine
end

