-- ==== Sys2Proof/Certificates/Slice0/Obligations.lean ====
section
/-! DEFINITION. The statements for the provers, chapter by chapter, each after the terms it uses. -/

open Sys2Proof Sys2Proof.Machine

namespace Sys2Proof.Machine

/-- The parts of the state that a command may change, whatever the state; every other part, and the queue of commands,
stands. -/
def footprint : Instr → Parts
  | .hello .. => { regs := true, free := true, beat := true, ev := true, lcp := true, sec := true }
  | .bye .. => { regs := true, beat := true, ev := true, lcp := true, jr := true, rt := true, sec := true }
  | .ping .. | .sessionPriority .. | .unitList .. | .unitInfo .. | .unitEpochGet .. | .modeGet .. | .modeSet ..
  | .restart .. | .valueRead .. | .valueWrite .. | .constWrite .. | .valueOwn .. | .valueRelease ..
  | .forceSet .. | .forceClear .. | .programStage .. | .shadowStart .. | .promote .. | .revert ..
  | .changeConfirm .. | .pairStatus .. | .switchover .. | .healthReport .. | .resyncStandby .. | .loopRead ..
  | .loopModeSet .. | .loopCoeffSet .. | .loopSpSet .. | .timeStatus .. | .chimeSet .. | .rimshotArm ..
  | .captureRead .. | .journalStatus .. | .recorderFreeze .. | .recorderRead .. | .imageChunk ..
  | .imageStatus .. | .auditRead .. | .ioConfigSet .. | .ioDiagRead .. | .laneStatus .. | .canObjSet ..
  | .dormantEnter .. | .powerStats .. | .eventSubscribe .. | .eventRead .. | .klStatus .. =>
      { regs := true, beat := true, lcp := true }
  | .unitCertGet .. => { regs := true, free := true, beat := true, lcp := true, lanes := true }
  | .gong .. | .powerStatus .. => { regs := true, free := true, beat := true, lcp := true }
  | .clearSafe .. =>
      { regs := true, beat := true, ev := true, lcp := true, jr := true, units := true, wd := true, rt := true,
        pair := true, sec := true, triad := true, pwr := true, field := true, can := true }
  | .objRead .. | .objWrite .. => { regs := true, beat := true, lcp := true, lanes := true }
  | .programChunk .. =>
      { regs := true, beat := true, lcp := true, rt := true, rtY := true, rtZ := true, pair := true }
  | .shadowCompareGet .. => { regs := true, beat := true, lcp := true, pair := true }
  | .rollNow .. => { regs := true, beat := true, ev := true, lcp := true, jr := true }
  | .recorderThaw .. => { regs := true, beat := true, lcp := true, jr := true }
  | .recorderClear .. => { regs := true, beat := true, ev := true, lcp := true, jr := true, sec := true }
  | .imageHeader .. => { regs := true, beat := true, lcp := true, wd := true, img := true }
  | .imageCommit .. | .supBankProgramDone .. | .imageRejection .. | .confirmDeadline =>
      { regs := true, beat := true, ev := true, lcp := true, jr := true, units := true, wd := true, rt := true,
        pair := true, sec := true, triad := true, img := true, field := true, can := true }
  | .imageConfirm .. => { regs := true, beat := true, ev := true, lcp := true, jr := true, sec := true, img := true }
  | .csrCreate .. => { regs := true, free := true, beat := true, ev := true, lcp := true, units := true, sec := true }
  | .certInstall .. =>
      { regs := true, free := true, beat := true, ev := true, lcp := true, jr := true, units := true, sec := true }
  | .securityStateSet .. | .debugTokenInstall .. =>
      { regs := true, beat := true, ev := true, lcp := true, sec := true }
  | .selftest .. => { regs := true, beat := true, ev := true, lcp := true, jr := true, units := true, pwr := true }
  | .gongDatagramSend | .nonceExpiry | .transferTimeout .. | .forwardTimeout .. | .mailboxTimeout .. =>
      { lcp := true }
  | .gongDatagramReceive .. => { regs := true, ev := true, lcp := true }
  | .servicePacketCrcFail | .dioRetriesRestore .. | .dioOverloadClear .. | .aoHeadroomLow .. | .resetRearm
  | .displayTimeout | .buttonClosure .. | .holdupBankCharged .. => { regs := true }
  | .sessionTransportLoss .. | .sessionIdleTimeout .. => { regs := true, lcp := true }
  | .ownGraceExpiry .. => { regs := true, ev := true, lcp := true, jr := true, rt := true, sec := true }
  | .mailboxReply .. => { lcp := true, lanes := true }
  | .beatEdge .. =>
      { regs := true, mem := true, free := true, beat := true, ev := true, lcp := true, jr := true, units := true,
        wd := true, rt := true, loops := true, pair := true, sec := true, triad := true, pwr := true, img := true,
        panel := true, lanes := true, field := true, time := true, can := true }
  | .freezeCommandApply =>
      { regs := true, mem := true, free := true, beat := true, ev := true, lcp := true, jr := true, units := true,
        wd := true, rt := true, rtY := true, rtZ := true, loops := true, pair := true, sec := true, triad := true,
        pwr := true, panel := true, lanes := true, field := true, time := true, can := true }
  | .imageComplete .. =>
      { regs := true, free := true, beat := true, ev := true, lcp := true, jr := true, units := true, rt := true,
        rtY := true, rtZ := true, loops := true, pair := true, sec := true, triad := true, lanes := true,
        can := true }
  | .taskEnd .. =>
      { regs := true, mem := true, beat := true, rt := true, rtY := true, rtZ := true, loops := true, pair := true,
        triad := true, can := true }
  | .sliceEnd .. | .commitStart .. | .commitDone =>
      { regs := true, beat := true, ev := true, rt := true, rtY := true, rtZ := true, loops := true, pair := true,
        triad := true }
  | .loopBlockExecute .. =>
      { regs := true, free := true, beat := true, ev := true, rt := true, rtY := true, rtZ := true, loops := true,
        pair := true, triad := true }
  | .commitLate | .splitClusterFault .. =>
      { regs := true, beat := true, ev := true, rt := true, rtY := true, rtZ := true, loops := true, triad := true }
  | .emitStart => { regs := true, beat := true, lanes := true, field := true, can := true }
  | .trackingCloseSend .. => { regs := true, beat := true, ev := true, lcp := true, pair := true }
  | .clusterTrimExit .. => { regs := true, beat := true, ev := true, triad := true, pwr := true }
  | .holdTimeout | .faultHandlerEnd .. => { regs := true, beat := true, ev := true }
  | .retainMirrorDone => { regs := true, rt := true }
  | .startSequence .. =>
      { regs := true, free := true, beat := true, ev := true, lcp := true, jr := true, units := true, wd := true,
        rt := true, rtY := true, rtZ := true, loops := true, pair := true, sec := true, triad := true, pwr := true,
        img := true, panel := true, lanes := true, field := true, time := true, can := true }
  | .partnerExchange .. =>
      { regs := true, ev := true, lcp := true, jr := true, units := true, rt := true, loops := true, pair := true,
        sec := true, img := true, can := true }
  | .heartbeatSend .. | .trackingLineReceive .. | .outputCloseReceive .. => { pair := true }
  | .heartbeatReceive .. =>
      { regs := true, beat := true, ev := true, lcp := true, jr := true, units := true, rt := true, pair := true,
        lanes := true, time := true }
  | .heartbeatLost .. => { regs := true, ev := true, rt := true, pair := true, lanes := true }
  | .ownHeartbeatStop => { regs := true, wd := true, field := true }
  | .takeover .. =>
      { regs := true, beat := true, ev := true, lcp := true, jr := true, units := true, rt := true, rtY := true,
        rtZ := true, loops := true, pair := true, sec := true, lanes := true, field := true, time := true,
        can := true }
  | .claimReleasedUnsynced =>
      { regs := true, ev := true, lcp := true, jr := true, units := true, rt := true, pair := true, lanes := true,
        field := true, time := true, can := true }
  | .claimProbe .. =>
      { regs := true, ev := true, lcp := true, jr := true, units := true, rt := true, pair := true, can := true }
  | .pairLinkUp .. => { regs := true, ev := true, lcp := true, jr := true, units := true, pair := true }
  | .pairLinkDegraded .. | .dioEdge .. | .loadSupplyChange .. | .encZ .. | .encLineFault .. | .timeLockLost
  | .ppsLost | .auditLinkCheck | .certExpired .. => { regs := true, ev := true }
  | .frozenImageReceive .. =>
      { regs := true, ev := true, jr := true, rt := true, rtY := true, rtZ := true, loops := true, pair := true,
        sec := true }
  | .trackingCloseReceive .. =>
      { regs := true, mem := true, ev := true, lcp := true, jr := true, units := true, rt := true, loops := true,
        pair := true }
  | .syncComplete .. | .shadowRunStart .. =>
      { regs := true, ev := true, lcp := true, jr := true, units := true, rt := true, loops := true, pair := true }
  | .healthCheckPass .. =>
      { regs := true, free := true, ev := true, lcp := true, jr := true, units := true, pwr := true, img := true }
  | .healthCheckDue .. => { regs := true, ev := true, lcp := true, jr := true, units := true }
  | .healthCheckFailed .. | .wdMonitorClock | .feedChange .. =>
      { regs := true, free := true, beat := true, ev := true, lcp := true, jr := true, units := true, wd := true,
        rt := true, pair := true, sec := true, triad := true, pwr := true, img := true, field := true, can := true }
  | .plannedSwitchover => { regs := true, ev := true, pair := true, panel := true }
  | .shadowCompare .. => { regs := true, free := true, ev := true, pair := true }
  | .revertHandover => { regs := true, ev := true, pair := true }
  | .confirmWindowEnd => { regs := true, ev := true, jr := true, rt := true, pair := true }
  | .triadMismatch .. => { regs := true, ev := true, jr := true, pair := true, triad := true }
  | .resyncStart | .resyncRetry .. => { regs := true, ev := true, jr := true, triad := true }
  | .resyncPassDone .. | .resyncFinal .. | .resyncDone .. => { regs := true, ev := true, triad := true }
  | .edgeLaunch .. | .delayMeasure .. | .ackSend .. | .laneProbe .. | .l3Poll .. | .l3CheckPoll ..
  | .wslGateOpen .. => { lanes := true }
  | .delayRespReceive .. | .wslFrameReceive .. | .wslGateClose .. => { regs := true, lanes := true }
  | .upstreamFrameReceive .. | .exchangeWindowEnd .. | .crossoverEnd .. | .wslExchangeDeadline .. =>
      { regs := true, ev := true, rt := true, lanes := true }
  | .lossOfLink .. | .boardInserted .. | .l3ResponseReceive .. | .l3ResponseTimeout .. =>
      { regs := true, ev := true, jr := true, units := true, rt := true, lanes := true }
  | .crossoverForward .. => { rt := true, pair := true, lanes := true }
  | .fieldSamplesCross .. | .fieldSamplesLate | .fieldConverter =>
      { regs := true, beat := true, ev := true, pair := true, field := true }
  | .fieldTimeout | .dioCooled .. | .aoOpenLoop .. | .aoMiswire .. | .aoReadback .. | .faSampleDeliver ..
  | .faLaneFault .. => { regs := true, ev := true, field := true }
  | .dioRampAbort .. | .dioOverloadTrip .. | .dioRetry .. | .dioOvertemp .. =>
      { regs := true, ev := true, loops := true, field := true }
  | .dioWire .. | .encIllegal .. | .encCountStep .. => { regs := true, ev := true, loops := true }
  | .aoMiswireClear .. | .captureEvent .. | .captureIntervalTimeout .. | .faChainRestart .. | .faLaneReload .. =>
      { regs := true, field := true }
  | .countPreset .. => { field := true }
  | .ptpSyncReceive .. => { regs := true, free := true, beat := true, ev := true, time := true }
  | .delayExchangeComplete .. | .chimePulse .. => { regs := true, time := true }
  | .announceReceive .. | .gmChange .. | .gmLost .. | .ptpRxError .. | .ptpForward .. | .ppsEdge ..
  | .ppsOutPulse | .rimshotFired .. | .tpEventPulse .. | .ethLinkChange .. =>
      { regs := true, ev := true, time := true }
  | .canFrameReceive .. => { regs := true, free := true, ev := true, can := true }
  | .canTxComplete .. | .canBusError .. | .canAckError .. | .canBusoffRecovery .. | .canAbrDwell ..
  | .canControllerFault .. => { regs := true, ev := true, can := true }
  | .canNoPeerResume .. | .canControllerReload .. => { regs := true, can := true }
  | .canRecover .. => { can := true }
  | .journalRecordCommit => { regs := true, ev := true, lcp := true, jr := true }
  | .rollCopy => { regs := true, jr := true }
  | .rollDone => { regs := true, ev := true, jr := true }
  | .recorderAppend => { regs := true, ev := true, jr := true, pwr := true }
  | .eventDeliver => { regs := true, ev := true, lcp := true, jr := true, panel := true }
  | .faultArrival | .fatalHandler | .wdService .. | .wdExpired | .wdClockStop =>
      { regs := true, beat := true, ev := true, jr := true, wd := true, pwr := true, img := true }
  | .wdAckTimeout => { beat := true, wd := true, pwr := true }
  | .wdEraseGuard .. | .trimIdleTimer .. => { regs := true, ev := true, pwr := true }
  | .tollAge => { regs := true, wd := true }
  | .dbgCmdHalt =>
      { regs := true, free := true, ev := true, lcp := true, jr := true, units := true, rt := true, loops := true,
        pair := true, sec := true }
  | .dbgCmdResume | .dbgCmdEndSession | .debugDurationEnd => { regs := true, ev := true, rt := true, sec := true }
  | .dbgCmdStep => { regs := true, free := true, ev := true, sec := true }
  | .dbgWindowWrite .. => { regs := true, mem := true, ev := true, sec := true, triad := true }
  | .mpuBankSwap .. => { sec := true }
  | .mpuFault .. => { regs := true, beat := true, ev := true, rt := true, loops := true, pair := true }
  | .certExpiring .. => { regs := true, ev := true, units := true }
  | .powerdownStart .. | .moduleRemove =>
      { regs := true, mem := true, beat := true, ev := true, lcp := true, jr := true, wd := true, rt := true,
        pair := true, sec := true, triad := true, pwr := true, panel := true, lanes := true, field := true,
        can := true }
  | .crashDown .. =>
      { regs := true, mem := true, beat := true, ev := true, lcp := true, jr := true, wd := true, rt := true,
        pair := true, sec := true, triad := true, pwr := true, lanes := true, field := true, can := true }
  | .powerdownRestart | .dormantWake .. | .moduleInsert .. =>
      { regs := true, ev := true, lcp := true, jr := true, units := true, pwr := true }
  | .trimEntryConfirm .. | .trimWake .. => { regs := true, pwr := true }
  | .partnerWakePulse => { pwr := true }
  | .keyChange .. =>
      { regs := true, free := true, beat := true, ev := true, pair := true, sec := true, panel := true }
  | .resetRelease .. =>
      { regs := true, beat := true, ev := true, lcp := true, jr := true, units := true, wd := true, rt := true,
        loops := true, pair := true, sec := true, triad := true, panel := true, field := true, can := true }
  | .stuckReset .. | .okToRemove => { regs := true, ev := true, panel := true }
  | .releasePress .. | .releaseHold =>
      { regs := true, beat := true, ev := true, lcp := true, jr := true, units := true, wd := true, rt := true,
        loops := true, pair := true, sec := true, triad := true, pwr := true, panel := true, field := true,
        can := true }
  | .touchPage | .touchSelect | .touchBack | .touchAck => { regs := true, panel := true }
  | .imageEraseComplete .. => { regs := true, lcp := true, wd := true, img := true }
  | .imageAutoConfirm => { regs := true, ev := true, jr := true, img := true }
  | .supervisorLockstepMismatch =>
      { regs := true, ev := true, lcp := true, jr := true, units := true, wd := true, rt := true, pair := true,
        triad := true, pwr := true, field := true, can := true }
  | .panelMessageTimeout => { panel := true }

/-- The commands that may change MODE or ROLE (R59, R60): those that take effect in a Freeze or at an edge, the starts and falls
of a module, the switch-overs, CLEAR_SAFE, a restart with an image, and the debug HALT of a STANDBY. -/
def changesMode : Instr → Bool
  | .clearSafe .. | .dbgCmdHalt | .powerdownRestart | .dormantWake .. | .imageCommit .. | .supBankProgramDone ..
  | .imageRejection .. | .confirmDeadline | .resetRelease .. | .releasePress .. | .releaseHold | .moduleInsert ..
  | .healthCheckFailed .. | .feedChange .. | .wdMonitorClock | .trackingCloseReceive .. | .syncComplete .. | .takeover ..
  | .claimReleasedUnsynced | .claimProbe .. | .supervisorLockstepMismatch | .shadowRunStart .. | .startSequence ..
  | .partnerExchange .. | .beatEdge .. | .imageComplete .. | .freezeCommandApply => true
  | _ => false

/-- Every LCP request but those of the session itself, with its command; `g` is the program that a PROGRAM_CHUNK completes. -/
def requests (g : Option Program) : List (Op × (Packet → Instr)) :=
  [(.unitList, .unitList), (.unitInfo, .unitInfo), (.unitCertGet, .unitCertGet), (.unitEpochGet, .unitEpochGet),
   (.modeGet, .modeGet), (.modeSet, .modeSet), (.restart, .restart), (.gong, .gong), (.clearSafe, .clearSafe),
   (.valueRead, .valueRead), (.valueWrite, .valueWrite), (.constWrite, .constWrite), (.valueOwn, .valueOwn),
   (.valueRelease, .valueRelease), (.forceSet, .forceSet), (.forceClear, .forceClear), (.objRead, .objRead),
   (.objWrite, .objWrite), (.programStage, .programStage), (.programChunk, fun p => .programChunk p g),
   (.shadowStart, .shadowStart), (.shadowCompareGet, .shadowCompareGet), (.promote, .promote), (.revert, .revert),
   (.changeConfirm, .changeConfirm), (.pairStatus, .pairStatus), (.switchover, .switchover),
   (.healthReport, .healthReport), (.resyncStandby, .resyncStandby), (.loopRead, .loopRead),
   (.loopModeSet, .loopModeSet), (.loopCoeffSet, .loopCoeffSet), (.loopSpSet, .loopSpSet),
   (.timeStatus, .timeStatus), (.chimeSet, .chimeSet), (.rimshotArm, .rimshotArm), (.captureRead, .captureRead),
   (.journalStatus, .journalStatus), (.rollNow, .rollNow), (.recorderFreeze, .recorderFreeze),
   (.recorderRead, .recorderRead), (.recorderThaw, .recorderThaw), (.recorderClear, .recorderClear),
   (.imageHeader, .imageHeader), (.imageChunk, .imageChunk), (.imageCommit, .imageCommit),
   (.imageStatus, .imageStatus), (.imageConfirm, .imageConfirm), (.csrCreate, .csrCreate),
   (.certInstall, .certInstall), (.securityStateSet, .securityStateSet), (.debugTokenInstall, .debugTokenInstall),
   (.auditRead, .auditRead), (.ioConfigSet, .ioConfigSet), (.ioDiagRead, .ioDiagRead), (.laneStatus, .laneStatus),
   (.canObjSet, .canObjSet), (.powerStatus, .powerStatus), (.dormantEnter, .dormantEnter),
   (.powerStats, .powerStats), (.eventSubscribe, .eventSubscribe), (.eventRead, .eventRead), (.selftest, .selftest),
   (.klStatus, .klStatus)]

/-- The requests of an open session itself. -/
def sessionRequests : List (Op × (Packet → Instr)) :=
  [(.bye, .bye), (.ping, .ping), (.sessionPriority, .sessionPriority)]

/-- A packet that steps 1 to 6 of R388 let through, on a module that answers. -/
structure Framed (p : Packet) (s : State) : Prop where
  awake : s.get F.mode ≠ 0
  heard : s.lcp.mute = false
  on : s.pwr.off = false
  served : s.quiet = false ∨ p.service = true
  port : ∀ k, p.port = some k → (bitOf (s.get F.lcpEnable) k = true ∨ p.service = true) ∧
    (bitOf (s.get F.wslUpPorts) k = false ∨ s.get F.role = 1 ∨ s.get F.role = 2)
  magic : p.magic = 0x434C
  version : p.version = 1
  length : p.length ≤ 65512
  framing : framingOk p = true
  flags : flagsOk p = true

/-- A packet of an open session with fewer than 64 requests in flight. -/
structure InSession (p : Packet) (x : Session) (s : State) : Prop where
  framed : Framed p s
  session : s.session? p.sess = some x
  room : s.awaiting p.sess < 64

/-- A packet that passes steps 1 to 8 of R388. -/
structure Arrives (p : Packet) (x : Session) (s : State) : Prop where
  inSession : InSession p x s
  fresh : x.cache.find? (fun r => r.seq == p.seq) = none
  rises : x.high < p.seq

/-- The module itself answers for the unit: not its partner, its ACTIVE or a remote station. -/
def answersFor (u : UnitSel) (s : State) : Bool :=
  match u with
  | .partner => false
  | .station _ _ => false
  | .own => true
  | _ => s.get F.role != 3 && s.get F.role != 4

/-- A command that expected epoch 0 suffices for. -/
def epochFree (o : Op) (p : Packet) : Bool := (opSpec o).ef && !p.has 0x0028

/-- A reply of this status and these TLVs has left, for the packet's session and sequence. -/
def Refused (p : Packet) (status : Nat) (tlvs : List Tlv) (s t : State) : Prop :=
  ∃ r : Reply, t.lcp.wire = s.lcp.wire ++ [r] ∧ r.sess = p.sess ∧ r.seq = p.seq ∧ r.status = status ∧ r.tlvs = tlvs

/-- From `s` to `t` a packet has left the module, and the session of that ID has been heard in this beat; of the command packets
nothing else has changed. -/
def OnlyHeard (id : Nat) (s t : State) : Prop :=
  t.lcp = { s.lcp with
    wire := t.lcp.wire
    sessions := s.lcp.sessions.map (fun x => if x.id == id then { x with last := s.get F.beatIndex } else x) }

end Sys2Proof.Machine

/-! The machine as a whole. -/

/-- One step carries out the command at the front of the queue on the state with the rest of the queue. On an empty queue it
idles: that is the model's choice (log entry 1). -/
def Obligations.StepCarriesOutTheFrontCommand : Prop :=
  (∀ c rest s, s.pending = c :: rest → step s = exec c { s with pending := rest }) ∧
  (∀ s, s.pending = [] → step s = .next s)

/-- After reset the state satisfies the invariant, nothing waits, the module is in START without role, claim and drive, and the
registers of the triad, the beat, the lanes and the watchdog hold their defaults. -/
def Obligations.ResetSatisfiesTheInvariantAndHoldsTheDefaults : Prop :=
  State.reset.Inv ∧ State.reset.ModeFits ∧ State.reset.pending = [] ∧ State.reset.mem = [] ∧
  State.reset.get F.mode = 1 ∧ State.reset.get F.role = 0 ∧ State.reset.get F.dbg = 0 ∧ State.reset.get F.pwr = 0 ∧
  State.reset.get F.triad = 0 ∧ State.reset.get F.ready = 0 ∧ State.reset.get F.claim = 0 ∧ State.reset.get F.driveEn = 0 ∧
  State.reset.get F.surge = 0 ∧ State.reset.get F.timeLocked = 0 ∧ State.reset.get F.align = 0 ∧
  State.reset.get F.stepPending = 0 ∧ State.reset.get F.freezeLate = 0 ∧ State.reset.get F.reserveExceeded = 0 ∧
  State.reset.get F.commitLate = 0 ∧ State.reset.get F.damperCount = 0 ∧ State.reset.get F.epoch = 1 ∧
  State.reset.get F.startMode = 0 ∧ State.reset.get F.tollLimit = 3 ∧ State.reset.get F.wdOpen = 40000 ∧
  State.reset.get F.wdClose = 100000 ∧ State.reset.get F.sessionIdle = 30 ∧ State.reset.get F.ownGrace = 10 ∧
  (∀ k : Fin 96, State.reset.get F.staleLimit k.val = 3 ∧ State.reset.get F.restoreLimit k.val = 3) ∧
  (∀ k : Fin 8, State.reset.get F.firTaps k.val = 1)

/-- Every step keeps the invariant: memory and registers stay in their canonical form, a module that asserts its claim line or
its drive enable is in STOP, RUN or HOLD and SOLO or ACTIVE, and no register write that waits for an edge reaches MODE, ROLE,
the claim or the drive enable. -/
def Obligations.EveryStepKeepsTheInvariant : Prop := ∀ s t, s.Inv → StepsTo s t → t.Inv

/-- Every command completes, in every state: it answers a next state, which differs from the state before in the parts of the
command's footprint at most, and in which the queue of commands is the same. -/
def Obligations.CommandsChangeOnlyTheirParts : Prop := ∀ c s, ∃ t, exec c s = .next t ∧ Touches (footprint c) s t

/-- No command but those listed changes MODE or ROLE. -/
def Obligations.OnlyTheseCommandsChangeModeOrRole : Prop :=
  ∀ c s t, changesMode c = false → s.ModeFits → exec c s = .next t →
    t.get F.mode = s.get F.mode ∧ t.get F.role = s.get F.role

/-! How a packet is taken. -/

/-- A request whose unit this module answers for is accepted with the unit's current epoch, or with 0 where it is
epoch-free; with any other it is answered EPOCH_MISMATCH with the current epoch and the unit's role code, and nothing of it
is applied. -/
def Obligations.TheExpectedEpochDecidesAcceptance : Prop :=
  (∀ g, ∀ r ∈ requests g, ∀ p x u s, Arrives p x s → resolve s p = .unit u → answersFor u s = true →
    (p.epoch = 0 ∧ epochFree r.1 p = false) ∨ (p.epoch ≠ 0 ∧ p.epoch ≠ s.epochOf u) → Does (r.2 p) s fun t =>
      Refused p stEpochMismatch [tlvPacked 0x8005 [(4, s.epochOf u), (1, s.roleCodeOf u)]] s t ∧ OnlyAnswered s t) ∧
  (∀ g, ∀ r ∈ requests g, ∀ p x u s, Arrives p x s → resolve s p = .unit u → answersFor u s = true →
    (p.epoch = 0 ∧ epochFree r.1 p = true) ∨ (p.epoch ≠ 0 ∧ p.epoch = s.epochOf u) → opModeOk r.1 u s = true →
    admission r.1 p s = .go u)

/-- A session opcode reaches its own parameters after step 8, whatever the unit's mode; with hops in its UnitRef it is answered
BAD_PARAM; its EPOCH changes nothing. -/
def Obligations.SessionOpcodesNameTheRoot : Prop :=
  (∀ r ∈ sessionRequests, ∀ p x s, Arrives p x s → p.hopLen = 0 → admission r.1 p s = .go .pair) ∧
  (∀ p s, Framed p s → s.session? p.sess = none → p.sess = 0 → admission .hello p s = .go .own) ∧
  (∀ r ∈ sessionRequests, ∀ p x s, Arrives p x s → p.hopLen ≠ 0 → Does (r.2 p) s fun t =>
    Refused p stBadParam [] s t ∧ OnlyAnswered s t) ∧
  (∀ p s, Framed p s → s.session? p.sess = none → p.sess = 0 → p.hopLen ≠ 0 → Does (.hello p) s fun t =>
    Refused p stBadParam [] s t ∧ t = { s with lcp := { s.lcp with wire := t.lcp.wire } }) ∧
  (∀ p e s, ∀ r ∈ (.hello, .hello) :: sessionRequests, exec (r.2 { p with epoch := e }) s = exec (r.2 p) s)

/-- Before a request of a session is looked at: one held in the reply cache is answered by the reply it had and carried out
no second time; another whose sequence does not rise is refused, as is one beyond 64 in flight; the session has been heard.
A request of no session is refused, and a packet of another protocol is dropped. -/
def Obligations.RepeatedAndStrayRequestsDoNothing : Prop :=
  (∀ g, ∀ r ∈ sessionRequests ++ requests g, ∀ p x q s, InSession p x s → x.cache.find? (fun r => r.seq == p.seq) = some q →
    Does (r.2 p) s fun t => t.lcp.wire = s.lcp.wire ++ [q] ∧ t.get F.replays = satInc 32 (s.get F.replays) ∧
      RegsBut [(F.replays, 0)] s t ∧ OnlyHeard p.sess s t ∧ t = { s with regs := t.regs, lcp := t.lcp }) ∧
  (∀ g, ∀ r ∈ sessionRequests ++ requests g, ∀ p x s, InSession p x s → x.cache.find? (fun r => r.seq == p.seq) = none →
    p.seq ≤ x.high → Does (r.2 p) s fun t => Refused p stBadParam [] s t ∧ OnlyHeard p.sess s t ∧ t = { s with lcp := t.lcp }) ∧
  (∀ g, ∀ r ∈ sessionRequests ++ requests g, ∀ p s, Framed p s → (∀ x ∈ s.lcp.sessions, x.id ≠ p.sess) → Does (r.2 p) s fun t =>
    Refused p stNotPermitted (detail 7) s t ∧ t = { s with lcp := { s.lcp with wire := t.lcp.wire } }) ∧
  (∀ g, ∀ r ∈ sessionRequests ++ requests g, ∀ p x s, Framed p s → s.session? p.sess = some x → 64 ≤ s.awaiting p.sess →
    Does (r.2 p) s fun t => Refused p stBusy [] s t ∧ OnlyHeard p.sess s t ∧ t = { s with lcp := t.lcp }) ∧
  (∀ g, ∀ r ∈ sessionRequests ++ requests g, ∀ p s, p.magic ≠ 0x434C → s.session? p.sess = none →
    Does (r.2 p) s fun t => t = s)

/-! Requests that only read. -/

/-- Requests that only read. Each answers what R420 to R425 and R573 list, wherever it passes its checks, and changes
nothing but the session's own bookkeeping: VALUE_READ one VALREC for each handle in request order, RECORDER_READ, EVENT_READ
and AUDIT_READ records from the index asked for, with MORE while records remain. -/
def Obligations.ReadsAnswerAndChangeNothing : Prop :=
  AnswersRead .ping .ping noChk (fun _ _ s => [tlv 0x0022 8 (s.get F.beatIndex)]) whole ∧
  AnswersRead .modeGet .modeGet noChk (fun _ _ s => [packObj s 0x0010 0 0, tlv 0x0022 8 (s.get F.beatIndex)]) whole ∧
  AnswersRead .unitInfo .unitInfo noChk (fun _ u s => [tlvPacked 0x0015 (s.identity u)]) whole ∧
  AnswersRead .unitEpochGet .unitEpochGet noChk (fun _ u s => [tlvPacked 0x0015 (s.epochFields u)]) whole ∧
  AnswersRead .unitList .unitList noChk
    (fun p u s => (((s.childHops u).filter (fun h => decide (p.val 0x0033 0 ≤ h))).take (p.val 0x0026 65280 / 12)).map (fun h =>
      tlvPacked 0x0047 [(2, h), (2, s.typeOf (s.childSel u h)), (1, s.statusOf (s.childSel u h)), (1, 0),
        (4, s.epochOf (s.childSel u h)), (2, 0)]))
    (fun p u s => decide (p.val 0x0026 65280 / 12 < ((s.childHops u).filter (fun h => decide (p.val 0x0033 0 ≤ h))).length)) ∧
  AnswersRead .valueRead .valueRead valueReadChk
    (fun p _ s => (p.vals 0x0010).map (fun h => match (s.rtOf (pktCluster p)).handle? h with
      | some v => valRec h stOk ((s.rtOf (pktCluster p)).read v).2 ((s.rtOf (pktCluster p)).read v).1
      | none => valRec h stBadParam 0 0)) whole ∧
  AnswersRead .loopRead .loopRead loopReadChk (fun p u s => (loopReadBody p u s).tlvs) whole ∧
  AnswersRead .captureRead .captureRead (fun p _ _ => needTlv p 0x0030)
    (fun p _ s => (lastN 16 (((s.cap (p.val 0x0030 0)).log.map (fun e => e.2)).flatten)).map capRec) whole ∧
  AnswersRead .ioDiagRead .ioDiagRead ioDiagChk (fun p u s => (ioDiagBody p u s).tlvs) whole ∧
  AnswersRead .pairStatus .pairStatus noChk (fun _ _ s => [packObj s 0x7000 0 9]) whole ∧
  AnswersRead .healthReport .healthReport noChk
    (fun _ _ s => packObj s 0x0012 0 0 :: (List.range 48).map s.healthRec) whole ∧
  AnswersRead .timeStatus .timeStatus noChk (fun _ _ s => [packObj s 0x5000 0 7]) whole ∧
  AnswersRead .journalStatus .journalStatus noChk (fun _ _ s => [packObj s 0x9000 1 0x0A]) whole ∧
  AnswersRead .laneStatus .laneStatus (fun p _ _ => needTlv p 0x0040)
    (fun p _ s => (if p.val 0x0040 0 = 0xFF then List.range 96 else [p.val 0x0040 0]).map
      (fun k => packObj s (0x2000 + k) 0 0x0A)) whole ∧
  AnswersRead .imageStatus .imageStatus noChk
    (fun p _ s => ((if p.has 0x0035 then [p.val 0x0035 0] else List.range 6).map (fun t =>
      [imageRec s t 0, imageRec s t 1, imageRec s t 2])).flatten) whole ∧
  AnswersRead .powerStats .powerStats noChk (fun _ _ s => [packObj s 0xB001 0x10 0x6A]) whole ∧
  AnswersRead .klStatus .klStatus noChk (fun _ _ s => (List.range 12).map (fun i =>
      tlvPacked 0x0046 [(1, i + 1), (1, if s.klApplies (i + 1) then 1 else 0), (1, klStatusOf (i + 1)), (1, 0)])) whole ∧
  AnswersRead .recorderRead .recorderRead pagedChk
    (fun p _ s => if (sliceRecs s.jr.recs (p.val 0x0033 0) (p.val 0x0026 0)).1.isEmpty then []
      else [recordsTlv (sliceRecs s.jr.recs (p.val 0x0033 0) (p.val 0x0026 0)).1])
    (fun p _ s => (sliceRecs s.jr.recs (p.val 0x0033 0) (p.val 0x0026 0)).2) ∧
  AnswersRead .eventRead .eventRead pagedChk (fun p u s => (eventReadBody p u s).tlvs) (fun p u s => (eventReadBody p u s).more) ∧
  AnswersRead .auditRead .auditRead pagedChk
    (fun p _ s => [tlvPacked 0x0032 (((s.sec.audit.drop (p.val 0x0033 0)).take (p.val 0x0026 0 / 32)).map (fun r => (32, r.word)))])
    (fun p _ s => decide (p.val 0x0033 0 + p.val 0x0026 0 / 32 < s.sec.audit.length))

namespace Sys2Proof.Machine

/-- The first beat in which a command stamped in the current beat can be applied (R47): that of the coming edge where the stamp
lies 5 µs before it or earlier, else the one after. Where the coming edge is no step edge, the beat ends at 250 µs. -/
def firstBeat (p : Packet) (s : State) : Nat :=
  if s.stepNow then (if p.stamp + 1000 ≤ s.beatLen then s.nextBeat else s.nextBeat + 1)
  else if p.stamp ≤ 49000 then s.get F.beatIndex + 1 else s.get F.beatIndex + 2

/-- The first release beat from `n` on of a class whose cycle is `period` beats (R48). -/
def releaseBeat (n period : Nat) : Nat := (n + period - 1) / period * period

/-- Beats per cycle of T0 to T4 (R42). -/
def cycleBeats : Nat → Nat
  | 0 => 1
  | 1 => 4
  | 2 => 40
  | 3 => 400
  | _ => 4000

/-- Beats per cycle of the slowest home class among the handles a packet names. -/
def slowestCycle (p : Packet) (s : State) : Nat :=
  cycleBeats (listMax ((p.vals 0x0010).map (homeOf (s.rtOf (pktCluster p)))))

/-- A P opcode, and its completion: wherever it passes its checks it waits for the beat `n`; it is answered after its
application only, and nothing else changes. -/
def AcceptsSilently (i : Packet → Instr) (o : Op) (chk : Packet → UnitSel → State → Chk)
    (n : Packet → UnitSel → State → Nat) : Prop :=
  ∀ p u s, Passes o p (chk p) u s → ∃ t, exec (i p) s = .next t ∧ Waits o p u (n p u (s.noteSeq p)) s t
    ∧ t.lcp.wire = s.lcp.wire ∧ t.lcp.heldReplies = s.lcp.heldReplies ∧ OnlyQueued s t

end Sys2Proof.Machine

/-! Commands that wait for a Freeze. -/

/-- A command that is applied in a Freeze is accepted for a beat (R47, R48): one without a beat of its own for the first
eligible beat, the next, or the one after it where its stamp lies past 245 µs; a write or a force of values, and a command
on a loop or group, for the first release beat of the class concerned from there on. -/
def Obligations.CommandsWaitForTheirBeat : Prop :=
  AcceptsCommand .modeSet .modeSet modeSetChk (fun p _ s => firstBeat p s) ∧
  AcceptsCommand .restart .restart restartChk (fun p _ s => firstBeat p s) ∧
  AcceptsCommand .valueOwn .valueOwn valueOwnChk (fun p _ s => firstBeat p s) ∧
  AcceptsCommand .valueRelease .valueRelease valueReleaseChk (fun p _ s => firstBeat p s) ∧
  AcceptsCommand .shadowStart .shadowStart (fun _ _ s => shadowStartRules s) (fun p _ s => firstBeat p s) ∧
  AcceptsCommand .revert .revert (fun _ _ s => revertRules s) (fun p _ s => firstBeat p s) ∧
  AcceptsCommand .changeConfirm .changeConfirm (fun _ _ s => changeConfirmRules s) (fun p _ s => firstBeat p s) ∧
  AcceptsCommand .resyncStandby .resyncStandby (fun _ _ s => resyncRules s) (fun p _ s => firstBeat p s) ∧
  AcceptsCommand .chimeSet .chimeSet chimeSetChk (fun p _ s => firstBeat p s) ∧
  AcceptsCommand .rimshotArm .rimshotArm rimshotArmChk (fun p _ s => firstBeat p s) ∧
  AcceptsCommand .ioConfigSet .ioConfigSet (fun p => ioConfigChk p true) (fun p _ s => firstBeat p s) ∧
  AcceptsCommand .canObjSet .canObjSet canObjSetChk (fun p _ s => firstBeat p s) ∧
  AcceptsCommand .dormantEnter .dormantEnter (fun _ => dormantEnterChk) (fun p _ s => firstBeat p s) ∧
  (∀ p u s, Passes .objWrite p (objWriteChk p true) u s → boardUnit u s = none →
    ∃ t, exec (.objWrite p) s = .next t ∧ Waits .objWrite p u (firstBeat p s) s t
      ∧ Accepted .objWrite p u (firstBeat p s) s t ∧ OnlyQueued s t) ∧
  AcceptsCommand .valueWrite .valueWrite valueWriteChk (fun p _ s => releaseBeat (firstBeat p s) (slowestCycle p s)) ∧
  AcceptsCommand .constWrite .constWrite constWriteChk (fun p _ s => releaseBeat (firstBeat p s) (slowestCycle p s)) ∧
  AcceptsCommand .forceSet .forceSet forceSetChk (fun p _ s => releaseBeat (firstBeat p s) (slowestCycle p s)) ∧
  AcceptsCommand .forceClear .forceClear forceClearChk (fun p _ s =>
    if p.vals 0x0010 = [0xFFFFFFFF] then firstBeat p s else releaseBeat (firstBeat p s) (slowestCycle p s)) ∧
  AcceptsCommand .loopModeSet .loopModeSet loopModeSetChk
    (fun p _ s => releaseBeat (firstBeat p s) (cycleBeats (s.loopCls (p.val 0x001A 0)))) ∧
  AcceptsCommand .loopSpSet .loopSpSet loopSpSetChk
    (fun p _ s => releaseBeat (firstBeat p s) (cycleBeats (s.loopCls (p.val 0x001A 0))))

/-- PROMOTE and SWITCHOVER are accepted for the beat they name, which lies no earlier than the first eligible one; without
one for the first eligible beat. GONG is accepted for the target beat it carries, schedules the pair's own stop there and
puts its three datagrams, under a signature that the spec does not compute, among those to be sent. LOOP_COEFF_SET and
SECURITY_STATE_SET are answered after their application only. -/
def Obligations.CommandsThatNameABeatOrAnswerLate : Prop :=
  AcceptsCommand .promote .promote (fun p u s => Chk.all [targetBeatChk p s, promoteRules p u s])
    (fun p _ s => if p.has 0x8002 then p.val 0x8002 0 else firstBeat p s) ∧
  AcceptsCommand .switchover .switchover (fun p _ s => Chk.all [targetBeatChk p s, switchoverRules s])
    (fun p _ s => if p.has 0x8002 then p.val 0x8002 0 else firstBeat p s) ∧
  (∀ p u s, Passes .gong p (gongChk p) u s → ∃ t, exec (.gong p) s = .next t
    ∧ firstBeat p s + 40 ≤ p.val 0x8002 0
    ∧ Waits .gong p u (p.val 0x8002 0) s t ∧ Accepted .gong p u (p.val 0x8002 0) s t
    ∧ t.lcp.gongs = s.lcp.gongs ++ [p.val 0x8002 0] ∧ t.lcp.gongSerial = s.lcp.gongSerial + 1
    ∧ (∃ sig, sig < 2 ^ 768 ∧ t.lcp.gongOut = s.lcp.gongOut ++ [{
        serial := s.lcp.gongSerial + 1, group := p.val 0x800F 0, target := p.val 0x8002 0, left := 3, signature := sig }])
    ∧ t = { s with lcp := { s.lcp with sessions := t.lcp.sessions, wire := t.lcp.wire, queue := t.lcp.queue
                                       heldReplies := t.lcp.heldReplies, gongs := t.lcp.gongs
                                       gongSerial := t.lcp.gongSerial, gongOut := t.lcp.gongOut }
                   beat := { s.beat with off := t.beat.off }, free := s.free + 1 }) ∧
  AcceptsSilently .loopCoeffSet .loopCoeffSet loopCoeffSetChk
    (fun p _ s => releaseBeat (firstBeat p s) (cycleBeats (s.loopCls (p.val 0x001A 0)))) ∧
  AcceptsSilently .securityStateSet .securityStateSet securityStateSetChk (fun p _ s => firstBeat p s)

namespace Sys2Proof.Machine

/-- A HELLO that reaches its checks and passes them, on TLS with a session free or to resume, or on the service port with
the nonce signed under a certificate that chains (R381, R403). -/
def HelloGranted (p : Packet) (s : State) : Prop :=
  (∃ u, admission .hello p s = .go u) ∧ p.hopLen = 0 ∧ helloChk p = .ok ∧
  if p.service then
    p.has 0x800D = true ∧ s.lcp.nonce.isSome = true ∧ p.has 0x800E = true ∧ p.chainOk = true ∧ p.sigOk = true
      ∧ (s.lcp.sessions.filter (fun x => x.service && !x.held)).length = 0
  else (s.resumable p).isSome = true ∨ (s.lcp.sessions.filter (fun x => !x.service)).length < 16

/-- What a HELLO's reply carries of a session: ID, priority, privilege, beat, side and role, the pair's epoch, RESUMED. -/
def GreetedWith (id prio priv : Nat) (resumed : Bool) (s : State) (r : Reply) : Prop :=
  r.sess = id ∧ r.status = stOk ∧
  r.tlvs = [tlv 0x001F 4 id, tlv 0x001D 1 prio, tlv 0x0020 1 priv, tlv 0x0022 8 (s.get F.beatIndex),
    tlv 0x0023 1 (s.get F.side + 2 * s.get F.role), tlv 0x0024 4 s.units.pair.epoch, tlv 0x0021 1 (if resumed then 1 else 0)]

/-- A session has been released (R382): it is gone with its ownership and its transfers, LcpStatus counts what is left,
its freeze of the recorder and its debug session are over, and SESSION_CLOSED is raised with the cause. -/
def SessionReleased (id cause : Nat) (s t : State) : Prop :=
  t.lcp.owners = s.lcp.owners.filter (fun o => o.2 != id) ∧
  t.lcp.transfers = s.lcp.transfers.filter (fun x => x.sess != id) ∧
  t.get F.ownedHandles = (s.lcp.owners.filter (fun o => o.2 != id)).length % 65536 ∧
  (s.get F.recFrozen = 1 → s.get F.frozenBy = id → t.get F.recFrozen = 0 ∧ t.jr.recHold = []) ∧
  (s.get F.dbg ≠ 0 → s.get F.debugSession = id → t.get F.dbg = 0 ∧ t.get F.haltState = 0) ∧
  RaisedLast [eventOf s 463 1 0 [(32, id), (8, cause)]] s t

/-- A time of that many beats has passed since a beat; where no beat runs the timer's command itself says so (log entry 40). -/
def TimeIsUp (s : State) (since beats : Nat) : Prop := s.beat.runs = false ∨ since + beats ≤ s.get F.beatIndex

/-- The registers that the release of a session may change. -/
def releaseRegs : List (Fld × Nat) :=
  [(F.sessions, 0), (F.held, 0), (F.ownedHandles, 0), (F.recFrozen, 0), (F.frozenBy, 0), (F.holdDepth, 0), (F.dbg, 0),
   (F.debugSession, 0), (F.debugLeft, 0), (F.haltState, 0), (F.raised, 463), (F.raised, 389)] ++ auditRegs
    ++ (List.range 32).map (fun k => (F.taskState, k)) ++ (List.range 32).map (fun k => (F.taskSkips, k))

end Sys2Proof.Machine

/-- A HELLO that is granted opens a session with the certificate's privilege, the priority asked for up to the cap and the
timers as configured, or resumes the held session it names; it is answered with that session, recorded in the audit log, and
raises SESSION_OPENED. A HELLO on the service port that carries no nonce is answered with a fresh one, whatever it is. -/
def Obligations.HelloOpensOrResumesASession : Prop :=
  (∀ p s u, admission .hello p s = .go u → p.hopLen = 0 → helloChk p = .ok → p.service = true → p.has 0x800D = false →
    Does (.hello p) s fun t => ∃ n, t.lcp.nonce = some n ∧ n < 2 ^ 256 ∧
      (∃ r, t.lcp.wire = s.lcp.wire ++ [r] ∧ r.status = stNotPermitted ∧ r.tlvs = [tlv 0x800C 32 n]) ∧
      t = { s with free := s.free + 1
                   lcp := { s.lcp with nonce := some n, nonceAt := s.get F.beatIndex, wire := t.lcp.wire } }) ∧
  ∀ p s, HelloGranted p s → Does (.hello p) s fun t =>
    (∃ r, t.lcp.wire = s.lcp.wire ++ [r] ∧
      match s.resumable p with
      | none =>
        GreetedWith s.lcp.nextSess (min (p.val 0x001D 0) (prioCap p.cert.priv)) p.cert.priv false s r ∧
        t.lcp.nextSess = nextId s.lcp.nextSess ∧
        t.lcp.sessions = (s.lcp.sessions ++ [newSession s p]).map
          (fun x => if x.id == s.lcp.nextSess then Session.remember x r else x)
      | some x =>
        GreetedWith x.id x.prio x.priv true s r ∧ t.lcp.nextSess = s.lcp.nextSess ∧
        t.lcp.sessions = s.lcp.sessions.map (fun y => if y.id == x.id then
          Session.remember { x with held := false, lossCause := 0, service := p.service, pairIp := p.pairIp
                                    last := s.get F.beatIndex, high := max x.high p.seq } r
          else y)) ∧
    (match s.resumable p with
      | none => RaisedLast [eventOf s 462 1 0 [(32, s.lcp.nextSess), (32, p.cert.fp)],
          { eventOf s 462 1 0 [(8, min (p.val 0x001D 0) (prioCap p.cert.priv)), (8, 0)] with cont := true }] s t
          ∧ Audited 0x01 0 p.cert.fp t
      | some x => RaisedLast [eventOf s 462 1 0 [(32, x.id), (32, x.fp)],
          { eventOf s 462 1 0 [(8, x.prio), (8, 1)] with cont := true }] s t ∧ Audited 0x01 0 x.fp t) ∧
    t.get F.sessions = (t.lcp.sessions.filter (fun x => !x.held)).length % 256 ∧
    RegsBut ([(F.sessions, 0), (F.held, 0), (F.raised, 462)] ++ auditRegs) s t ∧
    t.lcp.nonce = (if p.service then none else s.lcp.nonce) ∧
    t = { s with regs := t.regs, ev := t.ev
                 lcp := { s.lcp with sessions := t.lcp.sessions, nextSess := t.lcp.nextSess, nonce := t.lcp.nonce
                                     wire := t.lcp.wire }
                 sec := { s.sec with audit := t.sec.audit } }

/-- A session ends: BYE is answered and releases it at once; a loss of its connection, or session_idle without a packet,
holds it, and the end of own_grace releases it for the cause of the loss. SESSION_PRIORITY sets the priority from the next
Freeze, within the cap of the privilege. -/
def Obligations.SessionsAreHeldAndReleased : Prop :=
  (∀ p u s, Passes .bye p (noChk p) u s → p.tlvs = [] → Does (.bye p) s fun t =>
    (∃ r, t.lcp.wire = s.lcp.wire ++ [r] ∧ r.op = opCode .bye ∧ r.seq = p.seq ∧ r.status = stOk) ∧
    (∀ x ∈ t.lcp.sessions, x.id ≠ p.sess) ∧ SessionReleased p.sess 1 (s.noteSeq p) t ∧ RegsBut releaseRegs s t ∧
    t.mem = s.mem) ∧
  (∀ id s x, s.session? id = some x → Does (.sessionTransportLoss id) s fun t =>
    t.lcp.sessions = s.lcp.sessions.map (fun x =>
      if x.id == id then { x with held := true, lossCause := 2, last := s.get F.beatIndex } else x) ∧
    t.get F.sessions = (t.lcp.sessions.filter (fun x => !x.held)).length % 256 ∧
    t.get F.held = (t.lcp.sessions.filter (fun x => x.held)).length % 256 ∧
    RegsBut [(F.sessions, 0), (F.held, 0)] s t ∧
    t = { s with regs := t.regs, lcp := { s.lcp with sessions := t.lcp.sessions } }) ∧
  (∀ id s x, s.session? id = some x → TimeIsUp s x.last (4000 * x.idle) → Does (.sessionIdleTimeout id) s fun t =>
    t.lcp.sessions = s.lcp.sessions.map (fun x =>
      if x.id == id then { x with held := true, lossCause := 3, last := s.get F.beatIndex } else x) ∧
    t.get F.sessions = (t.lcp.sessions.filter (fun x => !x.held)).length % 256 ∧
    t.get F.held = (t.lcp.sessions.filter (fun x => x.held)).length % 256 ∧
    RegsBut [(F.sessions, 0), (F.held, 0)] s t ∧
    t = { s with regs := t.regs, lcp := { s.lcp with sessions := t.lcp.sessions } }) ∧
  (∀ id s x, s.lcp.sessions.find? (fun x => x.id == id && x.held) = some x → TimeIsUp s x.last (4000 * x.grace) →
    Does (.ownGraceExpiry id) s fun t =>
    t.lcp.sessions = s.lcp.sessions.filter (fun x => x.id != id) ∧ SessionReleased id x.lossCause s t ∧
    RegsBut releaseRegs s t ∧ t.mem = s.mem) ∧
  (∀ p u s, Passes .sessionPriority p (fun _ _ => needTlv p 0x001D) u s → Does (.sessionPriority p) s fun t =>
    (∀ x ∈ t.lcp.sessions, x.id = p.sess → x.nextPrio = some (min (p.val 0x001D 0) (prioCap (s.privOf p.sess)))) ∧
    Replied .sessionPriority p u stOk [tlv 0x001D 1 (min (p.val 0x001D 0) (prioCap (s.privOf p.sess)))] false s t ∧
    OnlyAnswered s t)

/-- The timers and counters of the transport: a nonce of 30 s is forgotten, a younger one is not; a broken service packet is
counted; a transfer without a chunk for 60 s is abandoned; a forward whose limit has passed is answered TIMEOUT with the
position of its hop. -/
def Obligations.TransportTimersDropWhatTheyWatch : Prop :=
  (∀ s, TimeIsUp s s.lcp.nonceAt 120000 → Does .nonceExpiry s fun t =>
    t.lcp.nonce = none ∧ t = { s with lcp := { s.lcp with nonce := none } }) ∧
  (∀ s, ¬TimeIsUp s s.lcp.nonceAt 120000 → Does .nonceExpiry s fun t => t = s) ∧
  (∀ s, Does .servicePacketCrcFail s fun t =>
    t.get F.svcCrcErrors = min (s.get F.svcCrcErrors + 1) 0xFFFFFFFF ∧ RegsBut [(F.svcCrcErrors, 0)] s t ∧
    t = { s with regs := t.regs }) ∧
  (∀ image s, Does (.transferTimeout image) s fun t =>
    (∀ x, x ∈ t.lcp.transfers ↔ x ∈ s.lcp.transfers ∧ (x.image ≠ image ∨ ¬TimeIsUp s x.last 240000)) ∧
    t = { s with lcp := { s.lcp with transfers := t.lcp.transfers } }) ∧
  (∀ f id seq s, s.lcp.forwards.filter (fun g => g.req.sess == id && g.req.seq == seq) = [f] → TimeIsUp s f.beat f.limit →
    Does (.forwardTimeout id seq) s fun t =>
      (∀ g, g ∈ t.lcp.forwards ↔ g ∈ s.lcp.forwards ∧ ¬(g.req.sess = id ∧ g.req.seq = seq)) ∧
      (∃ r, t.lcp.wire = s.lcp.wire ++ [r] ∧ r.op = f.req.op ∧ r.sess = id ∧ r.seq = seq ∧ r.status = stTimeout
        ∧ r.tlvs = hopPos 1) ∧
      t = { s with lcp := { s.lcp with forwards := t.lcp.forwards, sessions := t.lcp.sessions, wire := t.lcp.wire } })

/-- Of a Gong that waits to be sent the acting module sends one datagram more on the ports of gong_ports, with its group,
target, serial, signer and signature, and one fewer is left; without a port none is sent. A received Gong of the own group
and a known signer that this signer has not sent before, with no higher serial accepted from it and a beat that can still be
met, puts its target among the stops to come and raises GONG_RECEIVED, which tells whether the module's time is locked. -/
def Obligations.GongsAreSentThriceAndScheduleTheStop : Prop :=
  (∀ s g rest, s.get F.role = 1 ∨ s.get F.role = 2 → s.lcp.gongOut = g :: rest → Does .gongDatagramSend s fun t =>
    t.lcp.gongSent = s.lcp.gongSent ++ (if s.get F.gongPorts = 0 then [] else
      [{ group := g.group, target := g.target, serial := g.serial, signer := s.get F.certFingerprint 2
         signature := g.signature }]) ∧
    t.lcp.gongOut = (if g.left ≤ 1 then rest else { g with left := g.left - 1 } :: rest) ∧
    t = { s with lcp := { s.lcp with gongSent := t.lcp.gongSent, gongOut := t.lcp.gongOut } }) ∧
  (∀ (d : GongDatagram) s, s.get F.gongGroup ≠ 0 → d.group = s.get F.gongGroup → d.known = true →
    (d.signer, d.serial) ∉ s.lcp.gongSeen → (∀ g ∈ s.lcp.gongSeen, g.1 = d.signer → g.2 ≤ d.serial) →
    s.eligible d.stamp ≤ d.target → Does (.gongDatagramReceive d) s fun t =>
      t.lcp.gongs = s.lcp.gongs ++ [d.target] ∧ t.lcp.gongSeen = s.lcp.gongSeen ++ [(d.signer, d.serial)] ∧
      t.get F.lastGongBeat = d.target % 2 ^ 64 ∧
      RaisedLast [eventOf s 466 1 2 [(32, d.signer), (32, min d.serial 0xFFFFFFFF)],
        { eventOf s 466 1 2 [(32, d.target), (8, s.get F.timeLocked)] with cont := true }] s t ∧
      RegsBut [(F.lastGongBeat, 0), (F.raised, 466)] s t ∧
      t = { s with regs := t.regs, ev := t.ev, lcp := { s.lcp with gongs := t.lcp.gongs, gongSeen := t.lcp.gongSeen } })

/-- A mailbox reply that ends its exchange is answered to the host with the status and, of a read, the data that have come;
a write with data left goes on with its next section, a read whose section was full asks for the next one (the model's
choice, log entry 24), each in a DOWN_SERVICE frame; without a reply the exchange ends in TIMEOUT. -/
def Obligations.MailboxExchangesEndInAReply : Prop :=
  (∀ (lane : Fin 96) sub n op status len data s m,
    s.lcp.mail.filter (fun m => m.lane == lane.val && m.sub == sub && m.mbSeq == n) = [m] → m.mbOp = op →
    status ≠ 0 ∨ (op ≠ 1 ∧ m.rest = 0) ∨ (op = 1 ∧ len ≠ s.mailRoom lane.val) →
    m.pkt.epoch = 0 ∨ m.pkt.epoch = s.epochOf m.unit →
    Does (.mailboxReply lane sub n (op + 0x80) status len data) s fun t =>
      t.lcp.mail = s.lcp.mail.erase m ∧
      (∃ r, t.lcp.wire = s.lcp.wire ++ [r] ∧ r.op = opCode m.op ∧ r.sess = m.pkt.sess ∧ r.seq = m.pkt.seq ∧ r.status = status ∧
        (status = 0 → op = 1 → m.op = .objRead → r.tlvs = [tlv 0x0015 (m.got + len) (m.acc + data * 256 ^ m.got)])) ∧
      t = { s with lcp := { s.lcp with mail := t.lcp.mail, sessions := t.lcp.sessions, wire := t.lcp.wire } }) ∧
  (∀ (lane : Fin 96) sub n op len data s m,
    s.lcp.mail.filter (fun m => m.lane == lane.val && m.sub == sub && m.mbSeq == n) = [m] → m.mbOp = op →
    (op ≠ 1 ∧ m.rest ≠ 0) ∨ (op = 1 ∧ len = s.mailRoom lane.val ∧ m.got + len < 65280) →
    Does (.mailboxReply lane sub n (op + 0x80) 0 len data) s fun t =>
      t.lcp.mail = s.lcp.mail.erase m ++ [{ m with
        mbSeq := s.lcp.mbSeq, got := m.got + len, acc := m.acc + data * 256 ^ m.got
        rest := m.rest - min m.rest (s.mailRoom m.lane), data := m.data / 256 ^ min m.rest (s.mailRoom m.lane) }] ∧
      t.lcp.mbSeq = (s.lcp.mbSeq + 1) % 256 ∧
      t = { s with lcp := { s.lcp with mail := t.lcp.mail, mbSeq := t.lcp.mbSeq }, lanes := t.lanes }) ∧
  (∀ (lane : Fin 96) sub n s m, s.lcp.mail.find? (fun m => m.lane == lane.val && m.sub == sub && m.mbSeq == n) = some m →
    m.pkt.epoch = 0 ∨ m.pkt.epoch = s.epochOf m.unit → Does (.mailboxTimeout lane sub n) s fun t =>
      t.lcp.mail = s.lcp.mail.erase m ∧
      (∃ r, t.lcp.wire = s.lcp.wire ++ [r] ∧ r.op = opCode m.op ∧ r.sess = m.pkt.sess ∧ r.seq = m.pkt.seq ∧
        r.status = stTimeout) ∧
      t = { s with lcp := { s.lcp with mail := t.lcp.mail, sessions := t.lcp.sessions, wire := t.lcp.wire } })

namespace Sys2Proof.Machine

/-- The registers and the parts beside them that an S request may have changed when it is answered: the registers, the
sessions and what the module sends; the statement names the others. -/
def Request (s t u : State) : Prop :=
  u = { t with regs := u.regs, ev := u.ev, lcp := { t.lcp with sessions := u.lcp.sessions, wire := u.lcp.wire }
               beat := { s.beat with off := u.beat.off } }

/-- RECORDER_FREEZE is BUSY while another session holds the freeze. -/
def freezeChk (p : Packet) (_ : UnitSel) (s : State) : Chk :=
  if s.flag F.recFrozen ∧ s.get F.frozenBy ≠ p.sess then .bad stBusy [tlv 0x8006 4 (s.get F.frozenBy)] else .ok

/-- RECORDER_THAW needs the session's own freeze. -/
def thawChk (p : Packet) (_ : UnitSel) (s : State) : Chk := need (s.flag F.recFrozen && s.get F.frozenBy == p.sess) 9

/-- RECORDER_CLEAR is BUSY while the recorder is frozen. -/
def clearChk (_ : Packet) (_ : UnitSel) (s : State) : Chk := require (!s.flag F.recFrozen) stBusy []

/-- ROLL_NOW is BUSY while a Roll runs. -/
def rollChk (_ : Packet) (_ : UnitSel) (s : State) : Chk := require (s.get F.rollState == 0) stBusy []

/-- EVENT_SUBSCRIBE needs its mask and its severity. -/
def subscribeChk (p : Packet) (_ : UnitSel) (_ : State) : Chk := Chk.all [needTlv p 0x0042, needTlv p 0x0043]

end Sys2Proof.Machine

/-- Requests that are served on receipt and change something: a freeze stops the recorder for its session; a thaw appends
what was held, marked HELD; a clear leaves one record, RECORDER_CLEARED with the old counts, and is audited; ROLL_NOW starts
a Roll; a subscription replaces the session's own; POWER_STATUS measures the draw, a value from 0 to 66 W that the spec
leaves open; OBJ_READ answers from the object map, or asks the board that holds the object by a mailbox; SHADOW_COMPARE_GET
acknowledges mismatches, on the ACTIVE for its SHADOW too, and pages through the records. -/
def Obligations.RequestsServedOnReceiptDoWhatTheyName : Prop :=
  (∀ p u s, Passes .recorderFreeze p (freezeChk p) u s → Does (.recorderFreeze p) s fun t =>
    t.get F.recFrozen = 1 ∧ t.get F.frozenBy = p.sess % 2 ^ 32 ∧ RegsBut [(F.recFrozen, 0), (F.frozenBy, 0)] s t ∧
    Replied .recorderFreeze p u stOk [tlv 0x0033 4 (s.get F.recCount)] false s t ∧ t.ev = s.ev ∧ Request s s t) ∧
  (∀ p u s, Passes .recorderThaw p (thawChk p) u s → Does (.recorderThaw p) s fun t =>
    t.get F.recFrozen = 0 ∧ t.get F.frozenBy = 0 ∧ t.get F.holdDepth = 0 ∧
    RegsBut [(F.recFrozen, 0), (F.frozenBy, 0), (F.holdDepth, 0)] s t ∧ t.ev = s.ev ∧
    Replied .recorderThaw p u stOk
      [tlv 0x0033 4 (min s.jr.recHold.length (4194304 - s.get F.recCount)), tlv 0x0044 4 s.jr.recDropped] false s t ∧
    Request s { s with jr := { s.jr with recBuf := s.jr.recBuf ++ s.jr.recHold.map (fun r => { r with held := true })
                                         recHold := [], recDropped := 0 } } t) ∧
  (∀ p u s, Passes .recorderClear p (clearChk p) u s → Does (.recorderClear p) s fun t =>
    t.jr.recs = [eventOf (s.noteSeq p) 381 1 0 [(32, s.get F.recCount), (32, s.get F.recLost)]] ∧
    t.get F.recCount = 1 ∧ t.get F.recFull = 0 ∧ t.get F.recLost = 0 ∧
    t.get F.clearCount = min (s.get F.clearCount + 1) 0xFFFFFFFF ∧
    RegsBut ([(F.recCount, 0), (F.recFull, 0), (F.recLost, 0), (F.clearCount, 0), (F.raised, 381)] ++ auditRegs) s t ∧
    (∃ r, t.sec.audit.getLast? = some r ∧ r.action = 0x0F ∧ r.result = 0) ∧
    Replied .recorderClear p u stOk [] false s t ∧
    Request s { s with jr := { s.jr with recs := t.jr.recs, recFullRaised := false }
                       sec := { s.sec with audit := t.sec.audit } } t) ∧
  (∀ p u s, Passes .rollNow p (rollChk p) u s → Does (.rollNow p) s fun t =>
    t.get F.rollState = 1 ∧ RegsBut [(F.rollState, 0), (F.raised, 376)] s t ∧
    Raised [eventOf (s.noteSeq p) 376 1 0
      [(32, toF32 (((s.get F.liveBytes * 100 : Nat) : Rat) / 134217728)), (8, 0)]] s t ∧
    Replied .rollNow p u stOk [] false s t ∧
    Request s { s with jr := { s.jr with other := [], otherBytes := 0, copied := 0, rollWanted := false } } t) ∧
  (∀ p u s, Passes .eventSubscribe p (subscribeChk p) u s → Does (.eventSubscribe p) s fun t =>
    (∀ x ∈ t.lcp.sessions, x.id = p.sess →
      x.mask = p.val 0x0042 0 ∧ x.minSev = p.val 0x0043 0 ∧ x.evq = [] ∧ x.dropped = 0) ∧
    (∀ x ∈ t.lcp.sessions, x.id ≠ p.sess → x ∈ s.lcp.sessions) ∧
    Replied .eventSubscribe p u stOk [] false s t ∧ OnlyAnswered s t) ∧
  (∀ p u s, Passes .powerStatus p (noChk p) u s → Does (.powerStatus p) s fun t =>
    t.get F.powerDraw ≤ 660 ∧ RegsBut [(F.powerDraw, 0)] s t ∧ t.ev = s.ev ∧
    (∃ r, t.lcp.wire = s.lcp.wire ++ [r] ∧ r.op = opCode .powerStatus ∧ r.seq = p.seq ∧ r.status = stOk ∧
      r.tlvs = [packObj t 0xB000 0 8]) ∧
    Request s { s with free := s.free + 1 } t) ∧
  (∀ p u s, Passes .objRead p (objReadChk p) u s → readMailbox p u (s.noteSeq p) = none → Does (.objRead p) s fun t =>
    Replied .objRead p u stOk (objReadBody p u (s.noteSeq p)).tlvs (objReadBody p u (s.noteSeq p)).more s t ∧
    OnlyAnswered s t) ∧
  (∀ p u s k sub mb obj len data, Passes .objRead p (objReadChk p) u s →
    readMailbox p u (s.noteSeq p) = some (k, sub, mb, obj, len, data) → s.mailBusy k sub = false →
    Does (.objRead p) s fun t =>
      (∃ m, t.lcp.mail = s.lcp.mail ++ [m] ∧ m.lane = k ∧ m.sub = sub ∧ m.mbSeq = s.lcp.mbSeq ∧ m.mbOp = mb ∧ m.obj = obj ∧
        m.got = 0 ∧ m.pkt = p ∧ m.op = .objRead) ∧
      t = { s with lcp := { s.lcp with sessions := t.lcp.sessions, mail := t.lcp.mail, mbSeq := (s.lcp.mbSeq + 1) % 256 }
                   beat := { s.beat with off := t.beat.off }, lanes := t.lanes }) ∧
  (∀ p u s, Passes .shadowCompareGet p (shadowGetChk p) u s → Does (.shadowCompareGet p) s fun t =>
    t.pair.cmp = s.pair.cmp.map (fun r => if r.handle ∈ p.vals 0x0028 then { r with unaccepted := false } else r) ∧
    RegsBut [(F.shMismatches, 0), (F.shUnaccepted, 0), (F.shIntended, 0)] s t ∧ t.ev = s.ev ∧
    (∃ r, t.lcp.wire = s.lcp.wire ++ [r] ∧ r.op = opCode .shadowCompareGet ∧ r.seq = p.seq ∧ r.status = stOk ∧
      r.tlvs = packObj t 0x7200 1 7 ::
        ((t.pair.cmp.drop (p.val 0x8008 0 / 32)).take (p.val 0x0026 0 / 32)).map compareRec) ∧
    t.pair.acks = (if s.get F.role = 2 then s.pair.acks ++ p.vals 0x0028 else s.pair.acks) ∧
    Request s { s with pair := { s.pair with cmp := t.pair.cmp, acks := t.pair.acks } } t)

namespace Sys2Proof.Machine

/-- Bytes of the chunk in a packet. -/
def chunkLen (p : Packet) : Nat := match p.find? 0x8009 with | some x => x.len | none => 0

/-- A transfer has taken the chunk of a packet: the bytes lie behind those it had. -/
def ChunkTaken (p : Packet) (x : Transfer) (s t : State) : Prop :=
  ∀ y, y ∈ t.lcp.transfers ↔ (y ∈ s.lcp.transfers ∧ y.id ≠ x.id) ∨
    y = { x with got := x.got + chunkLen p, data := x.data + p.val 0x8009 0 * 256 ^ x.got, last := s.get F.beatIndex }

/-- Every slot of the table but the one named holds what it held. -/
def SlotsBut (ty k : Nat) (s t : State) : Prop := ∀ a b, a * 4 + b ≠ ty * 4 + k → t.slot a b = s.slot a b

/-- An erase of a block is wanted while the window has used `used` µs of its erase guard: it is busy at once where at least
20 ms of the 25 ms are left, or no window runs, and then holds the counter of a running window; else it waits (R460, R529). -/
def EraseWanted (used : Nat) (s t : State) : Prop :=
  if s.wd.running = true ∧ 5000 < used then t.wd = { s.wd with erase := 1 } ∧ t.get F.wdState ≠ 1
  else t.wd = { s.wd with erase := 2 } ∧ (s.wd.running = true → t.get F.wdState ≠ 0)

/-- What a window has used of its erase guard after a busy erase that held its counter for `held` µs. -/
def guardAfter (s : State) (held : Nat) : Nat :=
  if s.get F.wdState = 1 then min 25000 (s.get F.guardUsed + held) else s.get F.guardUsed

/-- Such an erase has ended, and no other is wanted. -/
def EraseEnded (held : Nat) (s t : State) : Prop :=
  t.wd = { s.wd with erase := 0 } ∧ t.get F.wdState = (if s.get F.wdState = 1 then 0 else s.get F.wdState) ∧
  (s.get F.guardUsed ≤ 25000 → t.get F.guardUsed = guardAfter s held)

end Sys2Proof.Machine

/-- IMAGE_HEADER empties the staged slot of its type and waits for the erase, block group by block group as the erase guard
allows; the end of the last one opens the transfer and answers with its ID. IMAGE_CHUNK and PROGRAM_CHUNK put their bytes
behind those received; PROGRAM_STAGE opens a transfer. The chunk that completes a program closes the transfer and stages the
program where it passes the checks, and is answered BAD_PARAM where it does not. -/
def Obligations.ImagesAndProgramsAreStagedByChunks : Prop :=
  (∀ p u s, Passes .imageHeader p (imageHeaderChk p) u s → s.get F.wdState ≠ 1 → Does (.imageHeader p) s fun t =>
    t.img.erase = some (p, p.val 0x0034 0) ∧ t.slot (hdrBytes (p.val 0x0034 0) 5 1) 1 = {} ∧
    SlotsBut (hdrBytes (p.val 0x0034 0) 5 1) 1 s t ∧ t.img.slotSeq = s.img.slotSeq + 1 ∧
    EraseWanted (s.get F.guardUsed) s t ∧ RegsBut [(F.wdState, 0)] s t ∧
    t = { s with img := { s.img with slots := t.img.slots, slotSeq := t.img.slotSeq, erase := t.img.erase }
                 regs := t.regs, wd := t.wd
                 lcp := { s.lcp with sessions := t.lcp.sessions }, beat := { s.beat with off := t.beat.off } }) ∧
  (∀ s held, s.img.erase.isSome = true → s.wd.erase = 2 → s.get F.guardUsed ≤ 25000 →
    Does (.imageEraseComplete held true) s fun t =>
      EraseWanted (guardAfter s held) s t ∧ t.get F.guardUsed = guardAfter s held ∧
      RegsBut [(F.wdState, 0), (F.guardUsed, 0)] s t ∧ t = { s with regs := t.regs, wd := t.wd }) ∧
  (∀ s held p h, s.img.erase = some (p, h) → s.wd.erase = 2 → Does (.imageEraseComplete held false) s fun t =>
    EraseEnded held s t ∧ RegsBut [(F.wdState, 0), (F.guardUsed, 0)] s t ∧
    t.img = { s.img with erase := none } ∧
    t.lcp.transfers = s.lcp.transfers ++
      [{ id := s.lcp.nextTransfer, image := true, sess := p.sess, total := hdrBytes h 24 8, hdr := h, pair := false
         last := s.get F.beatIndex }] ∧
    (∃ r, t.lcp.wire = s.lcp.wire ++ [r] ∧ r.op = opCode .imageHeader ∧ r.sess = p.sess ∧ r.seq = p.seq ∧ r.status = stOk ∧
      r.tlvs = [tlv 0x8007 4 s.lcp.nextTransfer]) ∧
    t = { s with regs := t.regs, wd := t.wd, img := t.img
                 lcp := { s.lcp with transfers := t.lcp.transfers, nextTransfer := s.lcp.nextTransfer + 1
                                     sessions := t.lcp.sessions, wire := t.lcp.wire } }) ∧
  (∀ p u s x, Passes .imageChunk p (fun _ s => chunkChk p true s) u s → s.transferOf p true = some x →
    Does (.imageChunk p) s fun t => ChunkTaken p x s t ∧ Replied .imageChunk p u stOk [] false s t ∧
      t = { s with lcp := { s.lcp with transfers := t.lcp.transfers, sessions := t.lcp.sessions, wire := t.lcp.wire }
                   beat := { s.beat with off := t.beat.off } }) ∧
  (∀ p u s, Passes .programStage p (programStageChk p) u s → Does (.programStage p) s fun t =>
    t.lcp.transfers = s.lcp.transfers ++
      [{ id := s.lcp.nextTransfer, image := false, sess := p.sess, total := p.val 0x0025 0, pair := !modulePath u s
         cluster := pktCluster p, last := s.get F.beatIndex }] ∧
    Replied .programStage p u stOk [tlv 0x8007 4 s.lcp.nextTransfer] false s t ∧
    t = { s with lcp := { s.lcp with transfers := t.lcp.transfers, nextTransfer := s.lcp.nextTransfer + 1
                                     sessions := t.lcp.sessions, wire := t.lcp.wire }
                 beat := { s.beat with off := t.beat.off } }) ∧
  (∀ p prog u s x, Passes .programChunk p (fun _ s => chunkChk p false s) u s → s.transferOf p false = some x →
    x.got + chunkLen p < x.total → Does (.programChunk p prog) s fun t =>
      ChunkTaken p x s t ∧ RepliedHeld .programChunk p stOk [] s t ∧
      t = { s with lcp := { s.lcp with transfers := t.lcp.transfers, sessions := t.lcp.sessions, wire := t.lcp.wire
                                       heldReplies := t.lcp.heldReplies }, beat := { s.beat with off := t.beat.off } }) ∧
  (∀ p g u s x, Passes .programChunk p (fun _ s => chunkChk p false s) u s → s.transferOf p false = some x →
    x.total ≤ x.got + chunkLen p → programDetail g (s.get F.hwIssue - 1) = 0 → Does (.programChunk p (some g)) s fun t =>
      (∀ y, y ∈ t.lcp.transfers ↔ y ∈ s.lcp.transfers ∧ y.id ≠ x.id) ∧ RepliedHeld .programChunk p stOk [] s t ∧
      (if x.pair then t.pair.partnerStaged = true else (t.rtOf x.cluster).staged = some g) ∧
      t.regs = s.regs ∧ t.mem = s.mem ∧ t.ev = s.ev) ∧
  (∀ p g u s x, Passes .programChunk p (fun _ s => chunkChk p false s) u s → s.transferOf p false = some x →
    x.total ≤ x.got + chunkLen p → programDetail g (s.get F.hwIssue - 1) ≠ 0 → Does (.programChunk p (some g)) s fun t =>
      (∀ y, y ∈ t.lcp.transfers ↔ y ∈ s.lcp.transfers ∧ y.id ≠ x.id) ∧
      RepliedHeld .programChunk p stBadParam (detail (programDetail g (s.get F.hwIssue - 1))) s t ∧
      t = { s with lcp := { s.lcp with transfers := t.lcp.transfers, sessions := t.lcp.sessions, wire := t.lcp.wire
                                       heldReplies := t.lcp.heldReplies }, beat := { s.beat with off := t.beat.off } })

namespace Sys2Proof.Machine

/-- The staged image of a complete transfer: valid, with the version, ARB, length and bytes of its header and body (R520,
R527). -/
def stagedSlot (x : Transfer) : ImgSlot :=
  { state := 1, version := hdrBytes x.hdr 16 4, arb := hdrBytes x.hdr 20 4, length := x.total, data := x.data
    hdr := x.hdr }

/-- A final reply has left, with this status. -/
def Answered (o : Op) (p : Packet) (status : Nat) (tlvs : List Tlv) (s t : State) : Prop :=
  ∃ r : Reply, t.lcp.wire = s.lcp.wire ++ [r] ∧ r.op = opCode o ∧ r.sess = p.sess ∧ r.seq = p.seq ∧ r.status = status ∧
    r.tlvs = tlvs

/-- An image is confirmed in its active slot (R525): valid, its ARB at or under ARB_MIN, which never falls. -/
def Confirmed (ty : Nat) (s t : State) : Prop :=
  t.slot ty 0 = { s.slot ty 0 with state := 1 } ∧ (s.slot ty 0).arb % 2 ^ (arbFld ty).w ≤ t.get (arbFld ty)

end Sys2Proof.Machine

/-- IMAGE_COMMIT closes the transfer and is audited: a body that does not match its digest is refused; else the staged slot
is valid under the confirmation rules that stand now; a SUP image is programmed into its bank before the reply, sector by
sector as the erase guard allows, and the bank header then says AWAITING with a BOOT_SEQ one above the other bank's. With
RESTART_NOW the module plans a switch-over or restarts. -/
def Obligations.ImageCommitStagesTheImage : Prop :=
  (∀ p u s x, Passes .imageCommit p (imageCommitBefore p) u s → s.transferOf p true = some x → p.digestOk = false →
    Does (.imageCommit p) s fun t =>
      (∀ y, y ∈ t.lcp.transfers ↔ y ∈ s.lcp.transfers ∧ y.id ≠ x.id) ∧
      Answered .imageCommit p stBadParam (detail 8) s t ∧ RegsBut auditRegs s t ∧
      (∃ q, t.sec.audit.getLast? = some q ∧ q.action = 0x0B ∧ q.result = stBadParam % 256) ∧ t.img = s.img ∧ t.mem = s.mem) ∧
  (∀ p u s x, Passes .imageCommit p (imageCommitBefore p) u s → s.transferOf p true = some x → p.digestOk = true →
    hdrBytes x.hdr 5 1 ≠ 0 → p.val 0x0038 0 ≠ 1 → Does (.imageCommit p) s fun t =>
      (∀ y, y ∈ t.lcp.transfers ↔ y ∈ s.lcp.transfers ∧ y.id ≠ x.id) ∧ Answered .imageCommit p stOk [] s t ∧
      t.slot (hdrBytes x.hdr 5 1) 1 = stagedSlot x ∧ SlotsBut (hdrBytes x.hdr 5 1) 1 s t ∧
      t.img.confirm = s.get F.confirmMode ∧ t.img.period = s.get F.confirmPeriod ∧
      t.img.deadline = s.get F.confirmDeadlineCfg ∧ t.img.limit = s.get F.startLimit ∧
      (s.pair.single = false → t.get F.pairUpdate = 1) ∧
      (∃ q, t.sec.audit.getLast? = some q ∧ q.action = 0x0B ∧ q.result = 0) ∧
      RegsBut ([(F.pairUpdate, 0), (F.raised, 378)] ++ auditRegs) s t ∧ t.mem = s.mem) ∧
  (∀ p u s x, Passes .imageCommit p (imageCommitBefore p) u s → s.transferOf p true = some x → p.digestOk = true →
    hdrBytes x.hdr 5 1 ≠ 0 → p.val 0x0038 0 = 1 → Does (.imageCommit p) s fun t =>
      if s.canPlan then t.pair.handover.isSome = true else t.get F.mode = 1 ∧ t.get F.role = 0) ∧
  (∀ p u s x, Passes .imageCommit p (imageCommitBefore p) u s → s.transferOf p true = some x → p.digestOk = true →
    hdrBytes x.hdr 5 1 = 0 → s.get F.wdState ≠ 1 → Does (.imageCommit p) s fun t =>
      EraseWanted (s.get F.guardUsed) s t ∧ t.slot 0 1 = stagedSlot x ∧ SlotsBut 0 1 s t ∧
      t.img.program = some (p, p.val 0x0037 (1 - s.get F.bootBank)) ∧
      t.img.bankState = s.img.bankState.set (p.val 0x0037 (1 - s.get F.bootBank)) 3 ∧ t.lcp.wire = s.lcp.wire ∧
      RegsBut ([(F.pairUpdate, 0), (F.raised, 378), (F.wdState, 0)] ++ auditRegs) s t ∧ t.mem = s.mem) ∧
  (∀ s held, s.img.program.isSome = true → s.wd.erase = 2 → s.get F.guardUsed ≤ 25000 →
    Does (.supBankProgramDone held true) s fun t =>
      EraseWanted (guardAfter s held) s t ∧ t.get F.guardUsed = guardAfter s held ∧
      RegsBut [(F.wdState, 0), (F.guardUsed, 0)] s t ∧ t = { s with regs := t.regs, wd := t.wd }) ∧
  (∀ s held p b, s.img.program = some (p, b) → s.wd.erase = 2 → p.val 0x0038 0 ≠ 1 →
    Does (.supBankProgramDone held false) s fun t =>
    EraseEnded held s t ∧ RegsBut [(F.wdState, 0), (F.guardUsed, 0)] s t ∧
    t.img = { s.img with program := none, bankHdr := s.img.bankHdr.set b (s.slot 0 1).hdr, bankState := s.img.bankState.set b 2
                         bankSeq := s.img.bankSeq.set b (s.img.bankSeq.getD (1 - b) 0 + 1) } ∧
    Answered .imageCommit p stOk [] s t ∧
    t = { s with regs := t.regs, wd := t.wd, img := t.img
                 lcp := { s.lcp with sessions := t.lcp.sessions, wire := t.lcp.wire } })

/-- Confirmation makes the active images that await it valid and raises their ARB_MIN, by command or by itself; rejection,
by a failed health check, a Toll step or START that failed, the start count, or confirm_deadline, takes the fallback at the
next start, or restarts the module at once, or leaves REJECTED standing. -/
def Obligations.ImagesAreConfirmedOrRejected : Prop :=
  (∀ p u s, Passes .imageConfirm p (fun _ s => need (!(confirmTypes p s).isEmpty && s.confirmable) 9) u s →
    Does (.imageConfirm p) s fun t =>
      (∀ ty ∈ confirmTypes p s, Confirmed ty s t) ∧ (∀ ty, ty ∉ confirmTypes p s → t.slot ty 0 = s.slot ty 0) ∧
      Answered .imageConfirm p stOk [] s t ∧ t.mem = s.mem) ∧
  (∀ s, s.awaitingTypes ≠ [] → s.img.confirm = 0 → s.confirmable = true → Does .imageAutoConfirm s fun t =>
    (∀ ty ∈ s.awaitingTypes, Confirmed ty s t) ∧ (∀ ty, ty ∉ s.awaitingTypes → t.slot ty 0 = s.slot ty 0) ∧
    t.lcp = s.lcp ∧ t.mem = s.mem) ∧
  (∀ cause s, cause = 2 ∨ cause = 3 → Does (.imageRejection cause) s fun t =>
    (s.get F.imgPending = 1 → t.img.fallback = true) ∧ t = { s with img := { s.img with fallback := t.img.fallback } }) ∧
  (∀ cause s, cause ≠ 2 → cause ≠ 3 → (cause = 1 → ∃ k : Fin 48, s.get F.hcState k.val = 2) →
    (cause = 4 → s.img.confirm = 1 ∧ s.get F.confirmDue = 1 ∧ 4000 * s.img.deadline ≤ s.img.dueBeats) →
    s.awaitingTypes ≠ [] → Does (.imageRejection cause) s fun t =>
    t.img.fallback = true ∧
    (s.restartRefused = true → t.get F.imgRejected = 1 ∧ RegsBut [(F.imgRejected, 0)] s t) ∧
    (s.restartRefused = false → s.canPlan = true → t.pair.handover.isSome = true ∧ t.regs = s.regs) ∧
    (s.restartRefused = false → s.canPlan = false → s.get F.mode ≠ 1 → s.get F.mode ≠ 0 →
      t.get F.mode = 1 ∧ t.get F.role = 0)) ∧
  (∀ s, s.awaitingTypes ≠ [] → s.img.confirm = 1 → s.get F.confirmDue = 1 → 4000 * s.img.deadline ≤ s.img.dueBeats →
    Does .confirmDeadline s fun t =>
    t.img.fallback = true ∧
    (s.restartRefused = true → t.get F.imgRejected = 1 ∧ RegsBut [(F.imgRejected, 0)] s t) ∧
    (s.restartRefused = false → s.canPlan = true → t.pair.handover.isSome = true ∧ t.regs = s.regs) ∧
    (s.restartRefused = false → s.canPlan = false → s.get F.mode ≠ 1 → s.get F.mode ≠ 0 →
      t.get F.mode = 1 ∧ t.get F.role = 0))

namespace Sys2Proof.Machine

/-- SELFTEST's checks: the mask is there and no other SELFTEST runs. -/
def selftestChk (p : Packet) (_ : UnitSel) (s : State) : Chk := Chk.all [needTlv p 0x0045, require s.pwr.selftest.isNone stBusy]

/-- The checks of a SELFTEST's mask that are to run. -/
def testsAsked (p : Packet) : List Nat := (List.range 48).filter (fun k => bitOf (p.val 0x0045 0) k)

end Sys2Proof.Machine

/-- CSR_CREATE answers a request of up to 4,096 bytes, whose content is a free value, is recorded in the audit log and makes
the pair key where none exists. CERT_INSTALL keeps the chain and its metadata in the slot named; a pair certificate is an
epoch event of the pair. UNIT_CERT_GET answers the chain of a module or pair, with a vouch record for a vouched unit, and asks
a Gen-5 board by its mailbox. -/
def Obligations.CertificatesAreMadeInstalledAndShown : Prop :=
  (∀ p u s, Passes .csrCreate p (csrCreateChk p) u s → Does (.csrCreate p) s fun t =>
    (∃ n b, n < 4096 ∧ b < 2 ^ 32768 ∧ Replied .csrCreate p u stOk [tlv 0x003A (n + 1) b] false s t) ∧
    Recorded 0x09 0 (if p.val 0x0039 0 = 1 then 2 else 1) t ∧
    t.units.keyMade = (s.units.keyMade || p.val 0x0039 0 == 1) ∧
    (p.val 0x0039 0 = 1 → s.units.keyMade = false → s.get F.certState 2 = 0 → t.get F.certState 2 = 3) ∧
    RegsBut ([(F.certState, 2), (F.raised, 386)] ++ auditRegs) s t ∧ t.mem = s.mem ∧ t.free = s.free + 2) ∧
  (∀ p u s, Passes .certInstall p (certInstallChk p) u s → p.val 0x003B 0 = 1 ∨ p.val 0x003B 0 = 3 →
    Does (.certInstall p) s fun t => RepliedHeld .certInstall p stOk [] s t ∧ Recorded 0x09 0 (p.val 0x003B 0) t ∧
      (∀ c, p.find? 0x003C = some c → t.chain? (p.val 0x003B 0) = some (c.len, c.val)) ∧
      t.get F.certState (p.val 0x003B 0) = 1 ∧ t.get F.certNotBefore (p.val 0x003B 0) = p.notBefore % 2 ^ 64 ∧
      t.get F.certNotAfter (p.val 0x003B 0) = p.notAfter % 2 ^ 64 ∧
      t.get F.certFingerprint (p.val 0x003B 0) = p.fingerprint % 2 ^ 384 ∧
      RegsBut ([(F.certState, p.val 0x003B 0), (F.certNotBefore, p.val 0x003B 0), (F.certNotAfter, p.val 0x003B 0),
        (F.certFingerprint, p.val 0x003B 0), (F.raised, 378), (F.raised, 382)] ++ auditRegs) s t ∧ t.mem = s.mem) ∧
  (∀ p u s, Passes .certInstall p (certInstallChk p) u s → p.val 0x003B 0 = 2 →
    Does (.certInstall p) s fun t => RepliedHeld .certInstall p stOk [] s t ∧
      t.get F.certState 2 = 1 ∧ t.get F.certFingerprint 2 = p.fingerprint % 2 ^ 384 ∧
      t.units.pair.epoch = nextEpoch s.units.pair.epoch ∧ t.mem = s.mem) ∧
  (∀ p u s c, Passes .unitCertGet p (unitCertGetChk p) u s → certMailbox u s = none → u = .own ∨ u = .pair →
    s.chain? (if p.has 0x003B then p.val 0x003B 0 else s.presented) = some c →
    Does (.unitCertGet p) s fun t => Replied .unitCertGet p u stOk [chainTlv c] false s t ∧ OnlyAnswered s t) ∧
  (∀ p u s c, Passes .unitCertGet p (unitCertGetChk p) u s → certMailbox u s = none → u ≠ .own → u ≠ .pair →
    s.chain? (if p.has 0x003B then p.val 0x003B 0 else s.presented) = some c →
    Does (.unitCertGet p) s fun t => ∃ sig, sig < 2 ^ 768 ∧
      Replied .unitCertGet p u stOk [chainTlv c, vouchTlv (s.noteSeq p) u sig] false s t ∧ t.free = s.free + 1 ∧
      OnlyAnswered { s with free := s.free + 1 } t) ∧
  (∀ p u s m, Passes .unitCertGet p (unitCertGetChk p) u s → certMailbox u (s.noteSeq p) = some m →
    s.mailBusy m.1 m.2.1 = false → Does (.unitCertGet p) s fun t =>
      (∃ q : MailReq, t.lcp.mail = s.lcp.mail ++ [q] ∧ q.lane = m.1 ∧ q.sub = m.2.1 ∧ q.mbSeq = s.lcp.mbSeq ∧ q.pkt = p) ∧
      t = { s with lcp := { s.lcp with sessions := t.lcp.sessions, mail := t.lcp.mail, mbSeq := t.lcp.mbSeq }
                   lanes := t.lanes, beat := { s.beat with off := t.beat.off } })

/-- DEBUG_TOKEN_INSTALL opens the debug session its token grants, audited and with the trace buffer cleared. CLEAR_SAFE is
audited, clears the SAFE record and the Toll count and takes the module through START. SELFTEST reports the slow checks DUE
and answers once the others have run. -/
def Obligations.DebugTokensClearSafeAndSelftest : Prop :=
  (∀ p u s, Passes .debugTokenInstall p (debugInstallChk p) u s → Does (.debugTokenInstall p) s fun t =>
    t.get F.dbg = tokKind (tokenOf p) - 2 ∧ t.get F.debugSession = p.sess % 2 ^ 32 ∧
    t.get F.debugLeft = tokDuration (tokenOf p) % 2 ^ 32 ∧ t.get F.lastTokenSeq = tokSeq (tokenOf p) % 2 ^ 64 ∧
    t.get F.haltState = 0 ∧ t.get F.traceFill = 0 ∧ t.sec.trace = [] ∧ t.sec.left = tokDuration (tokenOf p) * 4000 ∧
    Recorded 0x05 0 (tokKind (tokenOf p)) t ∧ Replied .debugTokenInstall p u stOk [] false s t ∧
    RegsBut ([(F.dbg, 0), (F.debugSession, 0), (F.debugLeft, 0), (F.lastTokenSeq, 0), (F.haltState, 0), (F.traceFill, 0),
      (F.traceWraps, 0), (F.raised, 389)] ++ auditRegs) s t ∧ t.mem = s.mem) ∧
  (∀ p u s, Passes .clearSafe p (noChk p) u s → Does (.clearSafe p) s fun t =>
    t.get F.mode = 1 ∧ t.get F.role = 0 ∧ t.get F.toll = 0 ∧ t.wd.safeRec = 0 ∧ t.wd.endInStop = true ∧ t.mem = s.mem) ∧
  (∀ p u s, Passes .selftest p (selftestChk p) u s → (∀ k ∈ testsAsked p, s.get F.hcState k = 3) → s.get F.role ≠ 3 →
    Does (.selftest p) s fun t => Answered .selftest p stOk ((testsAsked p).map s.healthRec) s t ∧ OnlyAnswered s t) ∧
  (∀ p u s, Passes .selftest p (selftestChk p) u s → (∀ k ∈ testsAsked p, k ≤ 2 ∨ k = 39 ∨ k = 40) → s.get F.role ≠ 3 →
    Does (.selftest p) s fun t =>
      (∀ k ∈ testsAsked p, s.get F.hcState k ≠ 3 → t.get F.hcState k = 1) ∧
      RegsBut ((testsAsked p).map (fun k => (F.hcState, k))) s t ∧
      Answered .selftest p stOk ((testsAsked p).map t.healthRec) s t ∧ t.mem = s.mem ∧ t.ev = s.ev) ∧
  (∀ p u s k, Passes .selftest p (selftestChk p) u s → k ∈ testsAsked p → 3 ≤ k → k ≠ 39 → k ≠ 40 → s.get F.hcState k ≠ 3 →
    s.get F.role ≠ 3 → Does (.selftest p) s fun t =>
      t.pwr.selftest = some p ∧ bitOf t.pwr.tests k = true ∧ t.lcp.wire = s.lcp.wire ∧ t.mem = s.mem ∧ t.ev = s.ev)

namespace Sys2Proof.Machine

/-- A Freeze in which nothing but the causes of mode changes is due: those detected, an accepted Gong, the key at STOP. -/
structure OnlyCauses (s : State) : Prop where
  on : s.pwr.off = false
  runs : s.beat.runs = true
  open_ : s.beat.imaged = false
  warm : s.wd.warmRestart = false
  acts : s.panel.acts = []
  shadow : s.pair.endShadow = false
  cmds : ∀ q ∈ s.lcp.queue, s.now < q.apply

/-- A Freeze in which one command is due and nothing else: its unit is there with the epoch it had at acceptance, and no owner
stands against it. -/
structure Applies (q : QCmd) (u : UnitSel) (s : State) : Prop where
  on : s.pwr.off = false
  runs : s.beat.runs = true
  open_ : s.beat.imaged = false
  warm : s.wd.warmRestart = false
  acts : s.panel.acts = []
  shadow : s.pair.endShadow = false
  causes : s.beat.causes = []
  gongs : s.lcp.gongs = []
  key_ : s.keyCauses = []
  prios : ∀ x ∈ s.lcp.sessions, x.nextPrio = none
  cmds : s.lcp.queue = [q]
  due : q.apply ≤ s.now
  unit : resolve s q.pkt = .unit u
  free_ : s.freezeChk q none = .ok

end Sys2Proof.Machine

/-- Of the causes that wait, the one of the highest precedence takes effect in the Freeze (R62): SAFE, START, STOP by the key,
or STOP with the role kept. -/
def Obligations.FreezeTakesTheWinningCause : Prop :=
  (∀ s n c, OnlyCauses s → s.winner = some c → c.kind = .safe n → n < 16 → Does .freezeCommandApply s fun t =>
    t.get F.mode = 5 ∧ t.get F.role = 0 ∧ t.mem = s.mem) ∧
  (∀ s c, OnlyCauses s → s.winner = some c → c.kind = .start → Does .freezeCommandApply s fun t =>
    t.get F.mode = 1 ∧ t.get F.role = 0 ∧ t.mem = s.mem) ∧
  (∀ s c, OnlyCauses s → s.winner = some c → c.kind = .keyStop → s.get F.role = 1 ∨ s.get F.role = 2 →
    s.get F.mode = 3 ∨ s.get F.mode = 4 → Does .freezeCommandApply s fun t =>
      t.get F.mode = 2 ∧ t.get F.role = s.get F.role ∧ t.mem = s.mem) ∧
  (∀ s c, OnlyCauses s → s.winner = some c → c.kind = .keyStop → s.get F.role = 3 → Does .freezeCommandApply s fun t =>
      t.get F.mode = 2 ∧ t.get F.role = 0 ∧ t.mem = s.mem) ∧
  (∀ s c, OnlyCauses s → s.winner = some c → c.kind = .stop → s.get F.role < 8 → s.get F.mode = 3 ∨ s.get F.mode = 4 →
    Does .freezeCommandApply s fun t => t.get F.mode = 2 ∧ t.get F.role = s.get F.role ∧ t.mem = s.mem) ∧
  (∀ s, OnlyCauses s → s.winner = none → s.ModeFits → Does .freezeCommandApply s fun t =>
    t.get F.mode = s.get F.mode ∧ t.get F.role = s.get F.role ∧ RegsBut [(F.leds, 0)] s t ∧ t.lcp.queue = s.lcp.queue ∧
    t.mem = s.mem ∧ t.ev = s.ev)

/-- A command that is due takes effect in the Freeze of its apply beat: MODE_SET changes MODE, VALUE_WRITE sets the published
value, FORCE_SET the force, VALUE_OWN the owner; one whose unit has another epoch is answered EPOCH_MISMATCH and not applied
(R364). -/
def Obligations.FreezeAppliesTheDueCommand : Prop :=
  (∀ q u s, Applies q u s → s.epochOf u = q.epoch → q.op = .modeSet → u ≠ .own → modeSetRules q.pkt u s = .ok →
    s.get F.role = 1 ∨ s.get F.role = 2 → s.get F.mode < 8 → Does .freezeCommandApply s fun t =>
      (q.pkt.val 0x0017 0 = 2 → t.get F.mode = 2) ∧ (q.pkt.val 0x0017 0 = 4 → t.get F.mode = 4) ∧
      (q.pkt.val 0x0017 0 = 3 → q.pkt.has 0x0019 = false → t.get F.mode = 3) ∧ t.get F.role = s.get F.role ∧ t.mem = s.mem) ∧
  (∀ q u s h v n x, Applies q u s → s.epochOf u = q.epoch → q.op = .valueWrite → pairsOf q.pkt.tlvs 1 = [(n, h, x)] →
    (s.rtOf (pktCluster q.pkt)).handle? h = some v → bitOf q.pkt.flags 4 = false → Does .freezeCommandApply s fun t =>
      valAt (t.rtOf (pktCluster q.pkt)).published v.idx = some x.val ∧
      (∀ i, i ≠ v.idx → valAt (t.rtOf (pktCluster q.pkt)).published i = valAt (s.rtOf (pktCluster q.pkt)).published i) ∧
      RegsBut [(F.leds, 0)] s t ∧ t.lcp.wire = s.lcp.wire ∧ t.mem = s.mem ∧ t.ev = s.ev) ∧
  (∀ q u s h v n x, Applies q u s → s.epochOf u = q.epoch → q.op = .forceSet → pairsOf q.pkt.tlvs 1 = [(n, h, x)] →
    s.rt.handle? h = some v → Does .freezeCommandApply s fun t =>
      valAt t.rt.forces v.idx = some x.val ∧ (∀ i, i ≠ v.idx → valAt t.rt.forces i = valAt s.rt.forces i) ∧ t.mem = s.mem) ∧
  (∀ q u s h, Applies q u s → s.epochOf u = q.epoch → q.op = .valueOwn → q.pkt.vals 0x0010 = [h] → s.owner? h = none →
    bitOf q.pkt.flags 4 = false → Does .freezeCommandApply s fun t =>
      t.lcp.owners = s.lcp.owners ++ [(h, q.pkt.sess)] ∧ t.get F.ownedHandles = (s.lcp.owners.length + 1) % 65536 ∧
      RegsBut [(F.leds, 0), (F.ownedHandles, 0)] s t ∧ t.mem = s.mem ∧ t.ev = s.ev) ∧
  (∀ q u s, Applies q u s → s.epochOf u ≠ q.epoch → (opSpec q.op).ef = false → Does .freezeCommandApply s fun t =>
    (∃ r : Reply, (t.lcp.wire = s.lcp.wire ++ [r] ∨ ∃ h : HeldReply, t.lcp.heldReplies = s.lcp.heldReplies ++ [h] ∧ h.reply = r)
      ∧ r.status = stEpochMismatch ∧ r.seq = q.pkt.seq ∧
      r.tlvs = [tlvPacked 0x8005 [(4, s.epochOf u), (1, s.roleCodeOf u)]]) ∧
    t.lcp.queue = [] ∧ RegsBut [(F.leds, 0)] s t ∧
    t = { s with regs := t.regs, lcp := { s.lcp with queue := [], sessions := t.lcp.sessions, wire := t.lcp.wire
                                                     heldReplies := t.lcp.heldReplies } })

namespace Sys2Proof.Machine

/-- The beat runs on a powered module. -/
def Runs (s : State) : Prop := s.pwr.off = false ∧ s.beat.runs = true

/-- The registers of the runtime's status that a task's end, a slice's end or a Commit may change. -/
def runtimeRegs : List (Fld × Nat) :=
  [(F.program, 0), (F.forcedAny, 0), (F.forceCount, 0), (F.spilling, 0), (F.substituted, 0), (F.stepping, 0), (F.overlayCount, 0)]

/-- A Commit has finished: nothing is committing and what follows it stands. -/
def Committed (s t : State) : Prop := t.beat = { s.beat with committing := false, committed := true }

end Sys2Proof.Machine

/-- The edge takes the beat index one on (or to the step's beat) and applies the outputs committed before it; the Freeze of the
new beat is open. Where the beat that ends committed nothing while the module drives, the Damper is counted (R17, R32). -/
def Obligations.TheEdgeTurnsTheBeat : Prop :=
  (∀ inp s, Runs s → s.panel.restartAfter = false → s.get F.pwr ≠ 2 → s.beat.edgePend = [] → s.can.pend = [] →
    s.pair.handing = false → s.stepNow = false → Does (.beatEdge inp) s fun t =>
      t.get F.beatIndex = (s.get F.beatIndex + 1) % 2 ^ 64 ∧ t.rt.applied = s.rt.outs ∧ t.beat.off = 0 ∧
      t.beat.opBeats = s.beat.opBeats + 1 ∧ t.beat.imaged = false ∧ t.beat.committed = false ∧
      t.get F.damperCount = (if drives (s.get F.mode) (s.get F.role) ∧ s.beat.committed = false ∧ s.beat.sinceStart ≠ 0 then
        min (s.get F.damperCount + 1) 0xFFFFFFFF else s.get F.damperCount)) ∧
  (∀ inp s, s.pwr.off = true ∨ s.beat.runs = false → Does (.beatEdge inp) s fun t => t = s) ∧
  (∀ n s, Runs s → s.beat.imaged = false → s.beat.committing = false → s.sec.cmd ≠ 1 → s.pair.redo ≠ some s.now →
    Does (.imageComplete n) s fun t => t.beat.imaged = true ∧ t.beat.computing = true ∧ t.beat.off = max s.beat.off (n * 20) ∧ t.beat.freezeDelay = n - 200 ∧
    t.pair.ownBeat = s.now ∧ t.loops.started = s.engineRuns ∧ t.mem = s.mem ∧
    (200 < n → t.get F.freezeLate = 1)) ∧
  (∀ s, Runs s → s.get F.mode = 4 → s.get F.holdTimeoutCfg ≠ 0 → s.get F.role = 1 ∨ s.get F.role = 2 →
    Does .holdTimeout s fun t =>
      t.beat = { s.beat with causes := s.beat.causes ++ [{ kind := .stop, beat := s.now, code := 4 }] } ∧
      Raised [eventOf s 457 1 2 [(32, s.get F.holdTimeoutCfg)]] s t ∧ RegsBut [(F.raised, 457)] s t ∧
      t = { s with regs := t.regs, ev := t.ev, beat := t.beat }) ∧
  (∀ s, s.get F.mode ≠ 4 → Does .holdTimeout s fun t => t = s)

/-- Compute ends at COMMIT_START; COMMIT_DONE commits the outputs of the mode that stands (in STOP every output's safe value);
COMMIT_LATE abandons the Commit and raises COMMIT_LATE; RETAIN_MIRROR_DONE makes the mirror the newest slot. -/
def Obligations.CommitsPublishOrAreAbandoned : Prop :=
  (∀ l n s, Runs s → s.beat.computing = true → Does (.commitStart l n) s fun t =>
    t.beat.computing = false ∧ t.beat.committing = (s.get F.haltState == 0) ∧ t.beat.off = max s.beat.off 40000 ∧
    (s.beat.charged ≤ s.idleTime + 100 → t.get F.reserveExceeded = s.get F.reserveExceeded) ∧
    (s.idleTime + 100 < s.beat.charged → t.get F.reserveExceeded = 1) ∧ t.beat.slice = max s.beat.slice 5 ∧ t.mem = s.mem ∧
    (5 ≤ s.beat.slice → s.get F.triad ≠ 2 → t.rt = s.rt ∧ RegsBut [(F.reservePeak, 0), (F.minIdle, 0), (F.reserveExceeded, 0),
      (F.finishPeak, 0), (F.lateCount, 0), (F.raised, 434)] s t)) ∧
  (∀ s, s.pwr.off = false → s.beat.committing = true → s.get F.role ≠ 3 → Does .commitDone s fun t =>
    Committed s t ∧ (s.get F.mode = 2 → t.rt.outs = s.rt.safeOuts) ∧
    (s.get F.mode = 3 → t.rt.outs = { s.rt with work := s.closingWork }.commitOuts s.closingClasses) ∧
    (s.get F.role = 2 → t.pair.outsOut = t.rt.outs) ∧
    RegsBut (runtimeRegs ++ [(F.dirtyPeak, 0), (F.retainLateCount, 0), (F.raised, 456)]) s t ∧ t.mem = s.mem) ∧
  (∀ s, s.pwr.off = false → s.beat.committing = true → s.get F.role = 3 → Does .commitDone s fun t =>
    Committed s t ∧ t.rt.outs = s.rt.outs ∧ t.rt.published = s.rt.published ∧
    RegsBut [(F.dirtyPeak, 0), (F.retainLateCount, 0), (F.raised, 456)] s t ∧ t.mem = s.mem) ∧
  (∀ s, s.pwr.off = false → s.beat.committing = true → Does .commitLate s fun t =>
    t.rt = s.putByAll.rt ∧ t.beat.committing = false ∧ t.beat.committed = s.beat.committed ∧ t.get F.commitLate = 1 ∧ t.rt.outs = s.rt.outs ∧
    t.beat.off = max s.beat.off 42400 ∧
    (∃ sev, Raised [eventOf { s with beat := { s.beat with off := max s.beat.off 42400 } } 453 1 sev [(32, s.now)]] s t ∧
      (s.beat.lastLate = none → sev = 2)) ∧
    RegsBut [(F.commitLate, 0), (F.raised, 453)] s t ∧ t.mem = s.mem) ∧
  (∀ s m, s.rt.mirror = some m → Does .retainMirrorDone s fun t =>
    (if s.rt.mirrorB then t.rt = { s.rt with slotB := m, mirror := none, mirrorB := false } ∧ t.get F.slotBBeat = m.beat % 2 ^ 64
      else t.rt = { s.rt with slotA := m, mirror := none, mirrorB := true } ∧ t.get F.slotABeat = m.beat % 2 ^ 64) ∧
    RegsBut [(F.slotABeat, 0), (F.slotBBeat, 0)] s t ∧ t = { s with regs := t.regs, rt := t.rt })

/-- At EMIT_START the frames and latches of the beat leave, nothing on a module without the claim; TRACKING_CLOSE_SEND closes
the beat's tracking to the partner, or reports TRACK_OVERFLOW where it does not fit; without a partner it only lets replies go.
CLUSTER_TRIM_EXIT takes the highest temperature and grants or refuses a surge. -/
def Obligations.EmitAndTheTrackingClose : Prop :=
  (∀ s, Runs s → s.beat.committing = false → Does .emitStart s fun t =>
    t.beat.off = max s.beat.off 42400 ∧
    (s.get F.driveEn = 1 → t.field.armed = some s.latchVals ∧ t.field.lastUpdate = s.now) ∧
    (s.get F.driveEn ≠ 1 → t.field = s.field) ∧
    (s.get F.claim = 0 → s.get F.role ≠ 3 → s.get F.role ≠ 4 → t.lanes.down = []) ∧ t.rt = s.rt ∧ t.mem = s.mem ∧ t.ev = s.ev) ∧
  (∀ rs all s, Runs s → s.hasStandby = false ∨ s.get F.linkUp = 0 → Does (.trackingCloseSend rs all) s fun t =>
    t.lcp = (s.releaseHeld s.now).lcp ∧ t.beat = { s.beat with off := max s.beat.off 48001 } ∧ t.pair.closeOut = s.pair.closeOut ∧
    RegsBut [(F.trackPeak, 0)] s t ∧
    t = { s with regs := t.regs, lcp := t.lcp, beat := t.beat, pair := { s.pair with trackLog := t.pair.trackLog } }) ∧
  (∀ rs s, Runs s → s.hasStandby = true → s.get F.linkUp ≠ 0 →
    64 * (s.lineRecords rs).length ≤ s.trackLimit - s.pair.xBytes → Does (.trackingCloseSend rs true) s fun t =>
      (∃ c, t.pair.closeOut = some c ∧ c.beat = s.now ∧ c.lines = (s.lineRecords rs).length ∧
        c.crc = linesCrc (s.lineRecords rs) ∧ c.overflow = false) ∧
      t.get F.lastClosed = s.now % 2 ^ 64 ∧ RegsBut [(F.trackPeak, 0), (F.lastClosed, 0)] s t ∧ t.ev = s.ev ∧ t.mem = s.mem) ∧
  (∀ rs all s, Runs s → s.hasStandby = true → s.get F.linkUp ≠ 0 →
    all = false ∨ s.trackLimit - s.pair.xBytes < 64 * (s.lineRecords rs).length → Does (.trackingCloseSend rs all) s fun t =>
      (∃ c, t.pair.closeOut = some c ∧ c.beat = s.now ∧ c.overflow = true) ∧ t.pair.partnerReady = false ∧
      t.get F.pairState = 2 ∧ t.get F.overflowCount = min (s.get F.overflowCount + 1) 0xFFFFFFFF ∧
      Raised [eventOf s 345 1 2 [(32, s.now), (32, 64 * (s.lineRecords rs).length)]] s t ∧
      RegsBut [(F.trackPeak, 0), (F.lastClosed, 0), (F.overflowCount, 0), (F.pairState, 0), (F.raised, 345)] s t ∧ t.mem = s.mem) ∧
  (∀ x y z s, Runs s → s.get F.surge = 0 → s.get F.surgePolicy = 1 → s.surgeRefusal (max x (max y z)) = 0 →
    Does (.clusterTrimExit x y z true) s fun t =>
      t.beat.edgePend = s.beat.edgePend ++ [(fldKey F.surge 0, 1)] ∧ t.get F.surgeBlock = 0 ∧
      t.get F.tempMax = ofSigned 16 (max x (max y z)) % 2 ^ 16 ∧
      RaisedLast [eventOf s 338 1 0 [(32, s.now + 1)]] s t ∧ t.rt = s.rt ∧ t.mem = s.mem) ∧
  (∀ x y z r s, s.pwr.off = true ∨ s.beat.runs = false → Does (.clusterTrimExit x y z r) s fun t => t = s)

/-- IMAGE_COMPLETE starts Compute; more than 20 µs after the edge it shifts the slices and charges the fault reserve by the
delay, sets FREEZE_LATE and raises BEAT_FREEZE_LATE with severity 1. In the slot whose beat a new ACTIVE recomputes in the
next one (R149) there is no Compute to start or to delay. -/
def Obligations.TheImageCompleteEventStartsCompute : Prop :=
  (∀ n s, Runs s → s.beat.imaged = false → s.beat.committing = false → s.pair.redo ≠ some s.now →
    Does (.imageComplete n) s fun t =>
      t.beat.computing = true ∧ t.beat.freezeDelay = n - 200 ∧ t.beat.charged = s.beat.charged + (n - 200) ∧
      (200 < n → t.get F.freezeLate = 1 ∧
        eventOf { s with beat := { s.beat with off := max s.beat.off (n * 20) } } 452 1 1 [(32, n - 200)] ∈ t.ev.router) ∧
      (n ≤ 200 → t.get F.freezeLate = s.get F.freezeLate)) ∧
  (∀ n s, Runs s → s.beat.imaged = false → s.beat.committing = false → s.pair.redo = some s.now →
    Does (.imageComplete n) s fun t => t.beat.imaged = true ∧ t.beat.computing = s.beat.computing ∧
      t.beat.charged = s.beat.charged ∧ t.get F.freezeLate = s.get F.freezeLate ∧ t.mem = s.mem)

namespace Sys2Proof.Machine

/-- The task registers that a task's end or a slice's end may change. -/
def taskRegs : List (Fld × Nat) :=
  (List.range 32).map (fun k => (F.taskState, k)) ++ (List.range 32).map (fun k => (F.taskExecPeak, k)) ++
  (List.range 32).map (fun k => (F.taskErrorRuns, k)) ++ (List.range 32).map (fun k => (F.taskSkips, k)) ++
  (List.range 32).map (fun k => (F.taskSkipTotal, k))

/-- A command that names a cluster does to Y's or Z's program of a SPLIT module what it does to X's; a cluster that runs no
program of its own takes none. -/
def ForEachCluster (i : Fin 3 → Instr) : Prop :=
  ∀ (c : Fin 3) s, c ≠ 0 →
    (s.splitRuns c.val = true → Does (i 0) (s.swapCluster c.val) fun t => exec (i c) s = .next (t.swapCluster c.val)) ∧
    (s.splitRuns c.val = false → Does (i c) s fun t => t = s)

/-- The lines of tracking after a task's writes: each line once, with its latest content, on the ACTIVE. -/
def linesQueued (lines : List (Nat × Nat)) (s : State) : List (Nat × Nat) :=
  if s.get F.role = 2 then
    lines.foldl (fun l r => queueLine l (r.1 % 2 ^ 48 / 64 * 64, r.2 % 2 ^ 512)) s.pair.tx
  else s.pair.tx

/-- A START whose every step finds what it needs, on a module that starts neither SPLIT nor from SAFE nor with a cluster out. -/
structure CleanStart (i : StartIn) (s : State) : Prop where
  on : s.pwr.off = false
  start : s.get F.mode = 1
  still : s.beat.runs = false
  causes : s.beat.causes = []
  rails : i.railsOk = true
  sup : i.supImageOk = true
  journal : s.superblock? i.sbValid.1 i.sbValid.2 ≠ none
  whole_ : i.unreadable = none ∧ i.torn = false
  security : i.securityOk = true
  safe : s.wd.safeRec = 0
  latch : i.latchValid = false
  images : i.imagesOk = 63
  voted : s.get F.bootSplit = 0
  retired : s.get F.retired = 0
  clusters : i.clusters = 7
  field : i.fieldAnswers = true

end Sys2Proof.Machine

/-- The task that its class runs ends within the class's slice: it leaves the queue with its writes taken, its execution time in
the peak of its last 100 cycles and the lines it wrote in memory and in tracking; no other byte of memory changes. A slice ends
once: with tasks of an ended cycle unfinished it skips them where every one may be skipped (R90), and else stops the module in
the next Freeze (R89). A loop block runs once in a cycle, while the engine takes it, and is one line of tracking. On a SPLIT
module each does to Y's and Z's program what it does to X's. -/
def Obligations.TasksEndOrOverrun : Prop :=
  (∀ (k : Fin 32) ws x ls s d e rest, s.rt.taskDef? k.val = some d → s.rt.runsOf d.cls = e :: rest → e.task = k.val →
    s.inSlice d.cls = true → s.held d.cls = false → Does (.taskEnd k ws x ls 0) s fun t =>
      t.rt.runQ = s.rt.runQ.erase e ∧ t.rt.work = (s.rt.taskWrites ws).work ∧ t.beat = { s.beat with slice := d.cls } ∧
      t.get F.taskExecPeak k.val = listMax (addExec x (s.rt.execTimes k.val)) % 2 ^ 32 ∧ t.pair.tx = linesQueued ls s ∧
      (rest = [] → t.get F.taskState k.val = 2) ∧ RegsBut (runtimeRegs ++ taskRegs) s t ∧ t.ev = s.ev ∧
      (∀ a, (∀ r ∈ ls, a / 64 ≠ r.1 % 2 ^ 48 / 64) → memGet t.mem a = memGet s.mem a)) ∧
  (∀ (k : Fin 32) ws x ls s, s.endsNow k.val = false → Does (.taskEnd k ws x ls 0) s fun t => t = s) ∧
  (∀ (c : Fin 5) used s, s.beat.computing = false ∨ c.val < s.beat.slice → Does (.sliceEnd c used 0) s fun t => t = s) ∧
  (∀ (c : Fin 5) used s, s.beat.computing = true → s.beat.slice ≤ c.val → s.cycleOver c.val = false ∨ s.rt.runsOf c.val = [] →
    Does (.sliceEnd c used 0) s fun t =>
      t.get (F.peakT0.next c.val) = listMax (slicePeaks (s.beat.peakLog.getD c.val []) (releases s.now c.val)
        (min used (10 * s.get (F.sliceT0.next c.val)))) % 2 ^ 16 ∧
      RegsBut [(F.peakT0.next c.val, 0)] s t ∧ t.beat.slice = c.val + 1 ∧
      t = { s with regs := t.regs
                   beat := { s.beat with peakLog := t.beat.peakLog, used := t.beat.used, slice := t.beat.slice } }) ∧
  (∀ (c : Fin 5) used s e rest, s.beat.computing = true → s.beat.slice ≤ c.val → s.get F.haltState = 0 → s.held c.val = false →
    s.cycleOver c.val = true → s.lostIn c.val = false → s.rt.runsOf c.val = e :: rest → s.rt.maySkip e = false →
    s.get F.role ≠ 4 → s.get F.triad ≠ 2 → s.triad.cur = 0 → Does (.sliceEnd c used 0) s fun t =>
      { kind := .stop, beat := s.now, code := 4 } ∈ t.beat.causes ∧ c.val ∈ t.rt.withheld ∧ t.rt.runsOf c.val = [] ∧
      t.rt.work = s.rt.work ∧ t.mem = s.mem) ∧
  (∀ (c : Fin 5) used s e, s.beat.computing = true → s.beat.slice ≤ c.val → s.get F.haltState = 0 → s.held c.val = false →
    s.cycleOver c.val = true → s.lostIn c.val = false → s.rt.runsOf c.val = [e] → s.rt.maySkip e = true →
    e.task < 32 → s.get F.taskSkips e.task < s.get F.skipLimit e.task → Does (.sliceEnd c used 0) s fun t =>
      t.get F.taskState e.task = 3 ∧ t.rt.runsOf c.val = [] ∧ t.beat.causes = s.beat.causes ∧
      t.get F.taskSkips e.task = min (s.get F.taskSkips e.task + 1) 0xFF ∧
      Raised [eventOf s (402 + e.task) 2 1 [(3, c.val), (32, s.now)]] s t ∧ t.rt.work = s.rt.work ∧ t.mem = s.mem) ∧
  (∀ n s, s.engineRuns = false ∨ s.loop? n = none ∨ (∃ l, s.loop? n = some l ∧ s.takesBlock l = false) →
    Does (.loopBlockExecute n 0) s fun t => t = s) ∧
  (∀ n s l, s.engineRuns = true → s.loop? n = some l → s.takesBlock l = true → Does (.loopBlockExecute n 0) s fun t =>
    (∃ r, t.pair.loopTx = s.pair.loopTx ++ [r] ∧ r.1 % 64 = 0 ∧ r.1 < 2 ^ 48) ∧
    t.loops.dealt = (if l.cut then s.loops.dealt else s.loops.dealt ++ [l.d.cls]) ∧
    t.rt.image = s.rt.image ∧ t.rt.published = s.rt.published ∧ t.rt.forces = s.rt.forces ∧ t.mem = s.mem ∧
    t.get F.mode = s.get F.mode) ∧
  (∀ k ws x ls, ForEachCluster (.taskEnd k ws x ls ·)) ∧ (∀ k used, ForEachCluster (.sliceEnd k used ·)) ∧
  (∀ n, ForEachCluster (.loopBlockExecute n ·))

/-- START (R66): a step that fails leads to SAFE, a failed rail to a retry until the third, no bootable SUP image to a mute
module; where every step finds what it needs the beat runs and the module is in STOP or RUN, with the role it decided. A
partner is taken into the pair or refused by the first reason of R69. -/
def Obligations.StartEndsInServiceOrInSafe : Prop :=
  (∀ i s, CleanStart i s → Does (.startSequence i) s fun t =>
    t.beat.runs = true ∧ (t.get F.mode = 2 ∨ t.get F.mode = 3) ∧ t.get F.role ≤ 3 ∧ t.wd.endInStop = false ∧ t.mem = s.mem) ∧
  (∀ i s, CleanStart { i with securityOk := true } s → i.securityOk = false → Does (.startSequence i) s fun t =>
    t.beat.runs = true ∧ t.get F.mode = 5 ∧ t.get F.role = 0 ∧ t.mem = s.mem) ∧
  (∀ i s, s.pwr.off = false → s.get F.mode = 1 → s.beat.runs = false → s.beat.causes = [] → i.railsOk = false →
    s.pwr.s1Fails < 2 → Does (.startSequence i) s fun t =>
      t.pwr.s1Fails = s.pwr.s1Fails + 1 ∧ t.pwr.off = true ∧ t.panel.bootFail = true ∧ t.beat.runs = false ∧ t.get F.mode = 1 ∧
      RegsBut [(F.leds, 0)] s t ∧ t.mem = s.mem ∧ t.ev = s.ev) ∧
  (∀ i s c, s.pwr.off = false → s.get F.mode = 1 → s.beat.runs = false →
    s.beat.causes.findSome? (fun c => match c.kind with | .safe k => some k | _ => none) = some c →
    Does (.startSequence i) s fun t => t.beat.runs = true ∧ t.get F.mode = 5 ∧ t.get F.role = 0 ∧ t.mem = s.mem) ∧
  (∀ i s, (s.pwr.off = true ∧ s.pwr.s1Fails = 0) ∨ s.get F.mode ≠ 1 ∨ s.beat.runs = true → Does (.startSequence i) s fun t => t = s) ∧
  (∀ p b s, Runs s → s.get F.linkUp ≠ 0 → s.get F.triad ≠ 2 → s.pair.waitRule = false → s.pairingRefusal p = 0 →
    Does (.partnerExchange (some p) b) s fun t =>
      t.pair.seen = true ∧ t.pair.partnerRole = p.role ∧ t.pair.partnerMode = p.mode ∧ t.pair.partnerGen = p.gen ∧
      t.pair.refusal = 0 ∧ t.pair.claimIn = b ∧ t.get F.mode = s.get F.mode ∧ t.mem = s.mem) ∧
  (∀ p b s, Runs s → s.get F.linkUp ≠ 0 → s.get F.triad ≠ 2 → s.pair.waitRule = false → s.pairingRefusal p ≠ 0 →
    Does (.partnerExchange (some p) b) s fun t =>
      t.pair.refusal = s.pairingRefusal p ∧ t.get F.pairState = 1 ∧ t.pair.seen = false ∧
      (s.pair.refusal ≠ s.pairingRefusal p → RaisedLast [eventOf s 350 1 2 [(8, s.pairingRefusal p)]] s t) ∧
      t.get F.mode = s.get F.mode ∧ t.mem = s.mem) ∧
  (∀ o b s, Runs s → o = none ∨ s.get F.linkUp = 0 → s.get F.triad ≠ 2 → s.pair.waitRule = false →
    Does (.partnerExchange o b) s fun t => t = { s with pair := { s.pair with claimIn := b } }) ∧
  (∀ o b s, s.get F.triad = 2 → Does (.partnerExchange o b) s fun t => t = s)

namespace Sys2Proof.Machine

/-- The module is up: powered, not DORMANT. -/
def Up (s : State) : Prop := s.pwr.off = false ∧ s.get F.mode ≠ 0

/-- A STANDBY or SHADOW. -/
def Follows (s : State) : Prop := s.get F.role = 3 ∨ s.get F.role = 4

/-- The second of the two records of an event whose data exceed 8 bytes (R446). -/
def restOf (s : State) (src code sev : Nat) (fields : List (Nat × Nat)) : EvRec := { eventOf s src code sev fields with cont := true }

end Sys2Proof.Machine

/-- The pair link and its heartbeats: the link trains or loses a lane; a heartbeat is sent with what it tells of the module, or
its instant passes, and in SPLIT the link is disabled; a received one tells an ACTIVE and a follower of the partner; the second
missed one is HEARTBEAT_LOST; the module's own stop releases claim and drive (R22, R139, R140, R148, R157). -/
def Obligations.HeartbeatsAndThePairLink : Prop :=
  (∀ n s, Up s → n % 4 ≠ 0 → s.get F.linkUp ≠ n % 4 → s.get F.triad ≠ 2 → s.pair.linkLost = false → s.get F.pairState ≠ 6 →
    Does (.pairLinkUp n) s fun t => t.get F.linkUp = n % 4 ∧ Raised [eventOf s 349 1 0 [(32, n % 4)]] s t ∧
      RegsBut [(F.linkUp, 0), (F.raised, 349), (F.leds, 0)] s t ∧ t = { s with regs := t.regs, ev := t.ev, pair := t.pair } ∧
      t.pair = { s.pair with linkLost := false, decided := none }) ∧
  (∀ (k : Fin 2) s, s.get F.linkUp = 3 → Does (.pairLinkDegraded k) s fun t =>
    t.get F.linkUp = 2 - k.val ∧ Raised [eventOf s 353 1 2 [(8, k.val)]] s t ∧
    RegsBut [(F.linkUp, 0), (F.raised, 353), (F.leds, 0)] s t ∧ t = { s with regs := t.regs, ev := t.ev }) ∧
  (∀ k s, Up s → s.quiet = false → s.get F.triad ≠ 2 → s.get F.linkUp ≠ 0 → s.wd.hbStopped = false → s.lcp.mute = false →
    Does (.heartbeatSend k true true) s fun t =>
      (∃ h, t.pair.hbOut = s.pair.hbOut ++ [h] ∧ h.beat = s.now ∧ h.mode = s.get F.mode ∧ h.role = s.get F.role ∧
        h.epoch = s.get F.epoch ∧ h.lastBeat = s.get F.lastClosed ∧ h.ready = (s.get F.ready == 1)) ∧
      t = { s with pair := { s.pair with hbOut := t.pair.hbOut, ownStop := 0 } }) ∧
  (∀ k a b s, Up s → s.quiet = false → s.get F.triad ≠ 2 → a = false ∨ b = false → Does (.heartbeatSend k a b) s fun t =>
    t = { s with pair := { s.pair with ownStop := s.pair.ownStop + 1 } }) ∧
  (∀ n s, s.get F.triad = 2 → Does (.pairLinkUp n) s fun t => t = s) ∧
  (∀ k a b s, s.get F.triad = 2 → Does (.heartbeatSend k a b) s fun t => t = s) ∧
  (∀ h s, Up s → s.get F.linkUp ≠ 0 → s.pair.seen = true → s.get F.role = 2 → Does (.heartbeatReceive h) s fun t =>
    t.pair.partnerRole = h.role ∧ t.pair.partnerMode = h.mode ∧ t.pair.partnerEpoch = h.epoch ∧
    t.pair.partnerReady = (h.ready && h.role == rStandby) ∧ t.pair.missed = 0 ∧ t.pair.lost = false ∧
    t.get F.pairState = s.partnerState h ∧ t.get F.role = 2 ∧ t.mem = s.mem) ∧
  (∀ h s, Up s → s.get F.linkUp ≠ 0 → s.pair.seen = true → s.get F.role = 3 → h.role = 2 → h.mode = 3 → h.resync = true →
    s.pair.current = true → Does (.heartbeatReceive h) s fun t =>
      t.pair.partnerRole = 2 ∧ t.pair.missed = 0 ∧ t.pair.current = false ∧ t.get F.pairState = 2 ∧ t.mem = s.mem) ∧
  (∀ k s, Up s → s.pair.seen = true → s.pair.lost = false → Follows s → Does (.heartbeatLost k) s fun t =>
    Raised [eventOf s 342 1 2 [(32, s.pair.hbBeat), (16, s.pair.hbOff)]] s t ∧ RegsBut [(F.raised, 342)] s t ∧
    t = { s with regs := t.regs, ev := t.ev, pair := { s.pair with lost := true, missed := 2 } }) ∧
  (∀ k s, s.pair.seen = false → Does (.heartbeatLost k) s fun t => t = s) ∧
  (∀ s, Does .ownHeartbeatStop s fun t => t.wd.hbStopped = true ∧ t.get F.claim = 0 ∧ t.get F.driveEn = 0 ∧
    RegsBut ([(F.claim, 0), (F.driveEn, 0)] ++ (List.range 4).map (fun k => (F.aoFailing, k)) ++
      (List.range 16).map (fun k => (F.dioOpenWire, k)) ++ (List.range 16).map (fun k => (F.dioExtDrive, k))) s t ∧
    (∀ k < 4, (t.ao k).target = none) ∧ (∀ k < 16, (t.dio k).on = false) ∧
    t = { s with regs := t.regs, field := t.field, wd := { s.wd with hbStopped := true } })

/-- A follower at its decision instant, with the line released: a STANDBY whose state is current becomes ACTIVE with the MODE
it had, one without it in STOP; the takeover is counted and raised (R147 to R153). CLAIM_RELEASED_UNSYNCED does the latter.
A claim found asserted at the probe makes side B yield (R158). -/
def Obligations.FollowersTakeThePlant : Prop :=
  (∀ n s, s.pair.lost = true → s.get F.role = 3 → s.pair.current = true → s.get F.mode < 8 → Does (.takeover n false) s fun t =>
    t.get F.role = 2 ∧ t.get F.mode = s.get F.mode ∧ t.get F.takeoverCount = min (s.get F.takeoverCount + 1) 0xFFFFFFFF ∧
    t.get F.lastTakeoverBeat = s.get F.lastClosed % 2 ^ 64 ∧
    t.get F.lastTakeoverKind = (if n ≤ 30000 then 1 else 2) ∧ t.pair.lost = false ∧ t.pair.seen = false ∧
    t.pair.current = false ∧ (∀ x ∈ s.lcp.queue, x ∈ t.lcp.queue) ∧ t.mem = s.mem) ∧
  (∀ n s, s.pair.lost = true → s.get F.role = 3 → s.pair.current = false → s.pair.shadowC = none →
    Does (.takeover n false) s fun t =>
      t.get F.role = 2 ∧ t.get F.mode = 2 ∧ t.get F.takeoverCount = min (s.get F.takeoverCount + 1) 0xFFFFFFFF ∧
      t.get F.lastTakeoverKind = 3 ∧ t.rt.outs = s.rt.safeOuts ∧ t.mem = s.mem) ∧
  (∀ n s, s.pair.lost = true → s.get F.role = 3 → s.get F.mode < 8 → Does (.takeover n true) s fun t =>
    t.pair.lost = false ∧ t.get F.role = 3 ∧ t.get F.pairState = 6 ∧ t.get F.resyncing = 0 ∧ t.mem = s.mem) ∧
  (∀ n b s, s.pair.lost = false → Does (.takeover n b) s fun t => t = s) ∧
  (∀ s, s.get F.role = 3 → s.pair.linkLost = true → Does .claimReleasedUnsynced s fun t =>
    t.get F.role = 2 ∧ t.get F.mode = 2 ∧ t.get F.lastTakeoverKind = 3 ∧ t.rt.outs = s.rt.safeOuts ∧ t.mem = s.mem) ∧
  (∀ s, s.get F.side = 1 → s.pair.claimBeats ≠ 0 → s.get F.role = 2 → Does (.claimProbe true) s fun t =>
    t.get F.role = 0 ∧ t.get F.mode = 2 ∧ t.pair.claimBeats = 0 ∧ t.get F.claim = 0 ∧ t.mem = s.mem) ∧
  (∀ s, s.get F.side = 1 → s.pair.claimBeats ≠ 0 → s.get F.role = 2 → Does (.claimProbe false) s fun t =>
    t = { s with pair := { s.pair with claimIn := false } })

/-- What a STANDBY takes of its ACTIVE's tracking: the two newest images, lines buffered and applied with a close that matches
them, the outputs of a beat; a close that does not match drops it to SYNCING; a completed synchronisation makes its state
current (R141 to R144). -/
def Obligations.StandbyFollowsTheTracking : Prop :=
  (∀ i s, s.get F.role = 3 → Does (.frozenImageReceive i) s fun t =>
    t = { s with pair := { s.pair with dioIn := i.dio, images := lastN 2 (s.pair.images.filter (fun j => j.beat != i.beat) ++ [i]) } }) ∧
  (∀ a d s, Does (.trackingLineReceive a d) s fun t =>
    t = if s.get F.role = 3 then { s with pair := { s.pair with rx := s.pair.rx ++ [(a % 2 ^ 48, d % 2 ^ 512)] } } else s) ∧
  (∀ n o s, Does (.outputCloseReceive n o) s fun t =>
    t = if s.get F.role = 3 ∨ s.get F.role = 4 then { s with pair := { s.pair with outsIn := o, outsBeat := n } } else s) ∧
  (∀ n c crc ic x s, s.get F.role = 3 → s.pair.rx.length = c → linesCrc s.pair.rx = crc →
    s.pair.current = false ∨ n = s.get F.lastClosed + 1 → s.pair.hasImage = false → s.canTake x = true →
    Does (.trackingCloseReceive n c crc ic false x) s fun t =>
      t.mem = s.pair.rx.foldl (fun m (r : Nat × Nat) => memWrite m r.1 r.2 64) s.mem ∧ t.pair.rx = [] ∧
      t.get F.lastClosed = n % 2 ^ 64 ∧ RegsBut [(F.lastClosed, 0)] s t ∧
      t = { s with regs := t.regs, mem := t.mem, pair := { s.pair with rx := [], images := t.pair.images } }) ∧
  (∀ n c crc ic x s, s.get F.role = 3 → s.pair.rx.length = c → linesCrc s.pair.rx = crc →
    s.pair.current = false ∨ n = s.get F.lastClosed + 1 → s.pair.hasImage = true → x.config = [] →
    s.canTake x = true → Does (.trackingCloseReceive n c crc ic false x) s fun t =>
      t.mem = s.pair.rx.foldl (fun m (r : Nat × Nat) => memWrite m r.1 r.2 64) s.mem ∧ t.pair.rx = [] ∧
      t.rt.published = x.published ∧ t.rt.forces = x.forces ∧ t.rt.overlay = x.overlay ∧ t.lcp.owners = x.owners ∧
      t.get F.lastClosed = n % 2 ^ 64 ∧ t.get F.programGen = x.gen % 2 ^ 32) ∧
  (∀ n c crc ic o x s, s.get F.role = 3 → o = true ∨ s.pair.rx.length ≠ c ∨ linesCrc s.pair.rx ≠ crc → s.get F.mode < 8 →
    Does (.trackingCloseReceive n c crc ic o x) s fun t =>
      t.pair.current = false ∧ t.pair.rx = [] ∧ t.get F.pairState = 2 ∧ t.get F.resyncing = 1 ∧ t.get F.ready = 0 ∧
      t.get F.role = 3 ∧ t.mem = s.mem) ∧
  (∀ x s, s.get F.role = 3 → s.pair.current = false → s.get F.linkUp ≠ 0 → x.config = [] → Does (.syncComplete none x) s fun t =>
    t.pair.current = true ∧ t.pair.hasImage = true ∧ t.rt.published = x.published ∧ t.lcp.owners = x.owners ∧
    t.get F.resyncing = 0 ∧ t.mem = s.mem) ∧
  (∀ p x s, s.get F.role ≠ 3 → Does (.syncComplete p x) s fun t => t = s)

/-- Health checks and the feeds they watch: a check that passes records its beat and its name; one that is due or fails
takes READY from a STANDBY, hands an ACTIVE over where switchover_on_health says so and for check 32 always, leads to SAFE
for check 35, faults the filter chains in use for 27 and the CAN controllers in use for 30 and 31, and rejects images that
await confirmation; check 43 measures the bank. A feed's change is raised, with severity 2 where one feed alone stays good,
and the loss of a feed fails check 44; the watchdog's monitoring clock fails check 42 (R15, R78, R145, R146, R297, R344,
R459, R500, R502, R532). -/
def Obligations.HealthChecksAndFeedsAreJudged : Prop :=
  (∀ (k : Fin 48) s, s.get F.hcState k.val ≠ 3 → k.val ≠ 43 → s.pwr.selftest = none → s.get F.role ≠ 3 →
    Does (.healthCheckPass k) s fun t =>
      t.get F.hcState k.val = 0 ∧ t.get F.hcLastPass k.val = s.now % 2 ^ 64 ∧ k.val ∈ t.img.passed ∧
      RegsBut [(F.hcState, k.val), (F.hcLastPass, k.val)] s t ∧
      t = { s with regs := t.regs, img := { s.img with passed := t.img.passed } }) ∧
  (∀ (k : Fin 48) s, k.val = 43 → s.get F.hcState k.val ≠ 3 → Does (.healthCheckPass k) s fun t =>
    470 ≤ t.get F.bankCap ∧ t.get F.hcState k.val = 0 ∧ t.get F.bankReady = (if 5800 ≤ s.get F.bankV then 1 else 0)) ∧
  (∀ (k : Fin 48) s, s.get F.hcState k.val = 0 → s.get F.role ≠ 3 → Does (.healthCheckDue k) s fun t =>
    t.get F.hcState k.val = 1 ∧ RegsBut [(F.hcState, k.val)] s t ∧ t = { s with regs := t.regs }) ∧
  (∀ (k : Fin 48) s, s.get F.hcState k.val = 0 → s.get F.role = 3 → s.pair.current = true → s.get F.mode < 8 →
    Does (.healthCheckDue k) s fun t =>
      t.get F.hcState k.val = 1 ∧ t.get F.ready = 0 ∧ t.get F.pairState = 3 ∧ t.get F.role = 3 ∧ t.mem = s.mem) ∧
  (∀ (k : Fin 48) s, s.get F.hcState k.val ≠ 0 → Does (.healthCheckDue k) s fun t => t = s) ∧
  (∀ (k : Fin 48) s, s.get F.hcState k.val ≠ 3 → k.val ∉ [27, 30, 31, 35, 43] → s.get F.role = 1 → s.awaitingTypes = [] →
    s.pwr.selftest = none → Does (.healthCheckFailed k) s fun t =>
      t.get F.hcState k.val = 2 ∧ t.get F.hcFailCount k.val = satInc 32 (s.get F.hcFailCount k.val) ∧
      Raised [eventOf s 347 1 2 [(8, k.val)]] s t ∧
      RegsBut [(F.hcState, k.val), (F.hcFailCount, k.val), (F.raised, 347)] s t ∧ t = { s with regs := t.regs, ev := t.ev }) ∧
  (∀ (k : Fin 48) s, k.val = 35 → s.get F.hcState k.val ≠ 3 → s.awaitingTypes = [] → Does (.healthCheckFailed k) s fun t =>
    { kind := .safe 9, beat := s.now, code := 1 } ∈ t.beat.causes ∧ t.get F.hcState k.val = 2) ∧
  (∀ (k : Fin 48) s, k.val = 43 → s.get F.hcState k.val ≠ 3 → s.get F.role ≠ 3 → s.awaitingTypes = [] →
    Does (.healthCheckFailed k) s fun t => t.get F.bankCap < 470 ∧ t.get F.bankReady = 0 ∧
      RaisedLast [eventOf s 362 1 2 [(16, s.get F.bankV), (16, t.get F.bankCap)]] s t) ∧
  (∀ (k : Fin 48) (j : Fin 8) s, k.val = 27 → s.get F.hcState k.val ≠ 3 → s.get F.faEnable j.val ≠ 0 →
    s.get F.faState j.val ≠ 0 → s.get F.faState j.val ≠ 4 → s.get F.role = 1 → s.awaitingTypes = [] →
    Does (.healthCheckFailed k) s fun t => t.get F.faState j.val = 3 ∨ t.get F.faState j.val = 4) ∧
  (∀ (k : Fin 48) (j : Fin 4) s, k.val = 30 ∨ k.val = 31 → s.get F.hcState k.val ≠ 3 →
    s.get F.canMode (4 * (k.val - 30) + j.val) ≠ 0 → s.get F.canFault (4 * (k.val - 30) + j.val) ≠ 2 → s.get F.role = 1 →
    s.awaitingTypes = [] → Does (.healthCheckFailed k) s fun t => t.get F.canFault (4 * (k.val - 30) + j.val) ≠ 0) ∧
  (∀ (k : Fin 48) s, s.get F.hcState k.val ≠ 3 → s.get F.role = 2 → s.get F.switchoverOnHealth = 1 ∨ k.val = 32 →
    s.pair.partnerReady = true → s.pair.handover = none → s.awaitingTypes = [] → Does (.healthCheckFailed k) s fun t =>
      t.pair.handover = some { apply := if s.beat.committed ∨ 42400 ≤ s.beat.off then s.now + 1 else s.now
                               cause := if k.val = 32 then 7 else 5 } ∧ t.get F.role = 2 ∧ t.get F.mode = s.get F.mode) ∧
  (∀ (k : Fin 48) s, s.get F.hcState k.val ≠ 3 → s.get F.role = 3 → s.pair.current = true → s.awaitingTypes = [] →
    s.get F.mode < 8 → Does (.healthCheckFailed k) s fun t =>
      t.get F.ready = 0 ∧ t.get F.pairState = 3 ∧ t.get F.role = 3 ∧ t.mem = s.mem) ∧
  (∀ (k : Fin 48) s, s.get F.hcState k.val ≠ 3 → s.get F.role = 1 → s.get F.mode = 2 → s.awaitingTypes ≠ [] →
    Does (.healthCheckFailed k) s fun t =>
      t.get F.mode = 1 ∧ t.get F.role = 0 ∧ t.img.fallback = true ∧ t.beat.runs = false ∧ t.mem = s.mem) ∧
  (∀ (n : Fin 4) v s, Up s → s.get F.feedA ≠ n.val → n.val ≠ 3 → feedGood n.val = true → feedGood (s.get F.feedB) = true →
    Does (.feedChange false n v) s fun t =>
      t.get F.feedA = n.val ∧ t.get F.feedAV = v % 2 ^ 16 ∧
      Raised [eventOf s 358 1 1 [(8, 0), (2, s.get F.feedA), (2, n.val)]] s t ∧
      RegsBut [(F.feedA, 0), (F.feedAV, 0), (F.raised, 358)] s t ∧ t = { s with regs := t.regs, ev := t.ev }) ∧
  (∀ (n : Fin 4) v s, Up s → s.get F.feedB ≠ n.val → n.val ≠ 3 → feedGood n.val = false → feedGood (s.get F.feedA) = true →
    s.get F.hcState 44 < 2 → s.get F.role = 1 → s.awaitingTypes = [] → s.pwr.selftest = none →
    Does (.feedChange true n v) s fun t =>
      t.get F.feedB = n.val ∧ t.get F.feedBV = v % 2 ^ 16 ∧ t.get F.hcState 44 = 2 ∧
      Raised [eventOf s 358 1 2 [(8, 1), (2, s.get F.feedB), (2, n.val)], eventOf s 347 1 2 [(8, 44)]] s t ∧
      RegsBut [(F.feedB, 0), (F.feedBV, 0), (F.hcState, 44), (F.hcFailCount, 44), (F.raised, 358), (F.raised, 347)] s t ∧
      t = { s with regs := t.regs, ev := t.ev }) ∧
  (∀ (n : Fin 4) v s, s.get F.feedA = n.val → Does (.feedChange false n v) s fun t =>
    t.get F.feedAV = v % 2 ^ 16 ∧ t.get F.feedA = n.val ∧ RegsBut [(F.feedAV, 0)] s t ∧ t = { s with regs := t.regs }) ∧
  (∀ s, s.get F.hcState 42 ≠ 3 → s.get F.role = 1 → s.awaitingTypes = [] → s.pwr.selftest = none →
    Does .wdMonitorClock s fun t =>
      t.get F.monitorOk = 0 ∧ t.get F.hcState 42 = 2 ∧
      Raised [eventOf s 397 1 2 [(8, 1 - s.get F.wdClockNow)], eventOf s 347 1 2 [(8, 42)]] s t ∧
      RegsBut [(F.monitorOk, 0), (F.hcState, 42), (F.hcFailCount, 42), (F.raised, 397), (F.raised, 347)] s t ∧
      t = { s with regs := t.regs, ev := t.ev, pwr := t.pwr })

/-- Planned switch-overs and shadow runs: SWITCHOVER_PLANNED in the apply beat names the edge of the handover, and a
handover that can no longer be carried out is dropped; a shadow run starts on both sides at one beat, compares each
committed beat from shadow_settle on, and a REVERT hands back; confirm_window ends a change by confirming it (R154, R155,
R167, R169, R172, R173). -/
def Obligations.SwitchoversAndShadowRunsTakeTheirSteps : Prop :=
  (∀ ho s, s.pair.handing = false → s.pair.handover = some ho → s.get F.role = 2 → ho.apply ≤ s.now → s.canHand ho = true →
    Does .plannedSwitchover s fun t =>
      t.pair = { s.pair with handing := true } ∧ t.get F.plannedCount = satInc 32 (s.get F.plannedCount) ∧
      Raised [eventOf s 344 1 0 [(32, s.now + 1), (8, ho.cause)]] s t ∧ RegsBut [(F.plannedCount, 0), (F.raised, 344)] s t ∧
      t = { s with regs := t.regs, ev := t.ev, pair := t.pair }) ∧
  (∀ ho s, s.pair.handing = false → s.pair.handover = some ho → s.get F.role = 2 → ho.apply ≤ s.now → s.canHand ho = false →
    Does .plannedSwitchover s fun t => t.pair = { s.pair with handover := none } ∧ t.panel.quiesceAfter = 0 ∧
      (s.panel.quiesceAfter = 0 → t = { s with pair := t.pair }) ∧ (s.panel.quiesceAfter ≠ 0 → t.get F.releaseState = 0)) ∧
  (∀ s, s.pair.handing = false → s.pair.handover = none → s.pair.partnerHandover = true → s.get F.role = 3 →
    s.get F.ready = 1 → Does .plannedSwitchover s fun t =>
      t.get F.plannedCount = satInc 32 (s.get F.plannedCount) ∧ RegsBut [(F.plannedCount, 0)] s t ∧
      t = { s with regs := t.regs, pair := { s.pair with handing := true } }) ∧
  (∀ s, s.pair.handing = true → Does .plannedSwitchover s fun t => t = s) ∧
  (∀ s, s.get F.role = 2 → s.pair.shadowAt = some s.now → s.pair.partnerReady = true → Does (.shadowRunStart s.now) s fun t =>
    t.get F.shState = 1 ∧ t.get F.shStartBeat = s.now % 2 ^ 64 ∧ t.get F.shBeats = 0 ∧ t.get F.shMismatches = 0 ∧
    t.get F.pairState = 5 ∧
    RegsBut [(F.shState, 0), (F.shStartBeat, 0), (F.shBeats, 0), (F.shPoints, 0), (F.shMismatches, 0), (F.shUnaccepted, 0),
      (F.shIntended, 0), (F.pairState, 0)] s t ∧
    t = { s with regs := t.regs, pair := { s.pair with
      cmp := [], shadowAt := none, endShadow := false, overruns := [], acks := [], theirForces := [], kept := none
      keptStatus := [], partnerRole := 4, partnerReady := false } }) ∧
  (∀ g s, s.get F.role = 3 → s.get F.ready = 1 → s.now % 4000 = 0 → s.rt.staged = some g → Does (.shadowRunStart s.now) s fun t =>
    t.get F.role = 4 ∧ t.get F.mode = 3 ∧ t.rt.prog = some g ∧ t.rt.revertArea = s.rt.prog ∧ t.pair.current = false ∧
    t.pair.shadowC = none ∧ t.mem = s.mem) ∧
  (∀ s, s.get F.role = 3 → s.get F.ready ≠ 1 ∨ s.now % 4000 ≠ 0 ∨ s.rt.staged = none → Does (.shadowRunStart s.now) s fun t => t = s) ∧
  (∀ b s, b ≠ s.now → Does (.shadowRunStart b) s fun t => t = s) ∧
  (∀ l s, s.get F.role = 2 ∨ s.get F.role = 4 → s.get F.shState = 1 ∨ s.get F.shState = 2 → s.beat.committed = true →
    s.get F.shStartBeat + s.get F.shadowSettle ≤ s.now → Does (.shadowCompare l) s fun t =>
      t.get F.shState = 2 ∧ t.get F.shBeats = satInc 32 (s.get F.shBeats) ∧
      t.get F.shMismatches = (t.pair.cmp.filter (fun r => !r.intended)).length % 2 ^ 32 ∧
      ((∀ c ∈ s.compared l, valuesMatch c.1 c.2.1 c.2.2.1 (s.get F.compareTolerance) = true) →
        t = { s with regs := t.regs }) ∧
      t = { s with regs := t.regs, ev := t.ev, free := t.free, pair := { s.pair with cmp := t.pair.cmp } }) ∧
  (∀ l v a b s, s.get F.role = 2 ∨ s.get F.role = 4 → s.get F.shState = 1 ∨ s.get F.shState = 2 → s.beat.committed = true →
    s.get F.shStartBeat + s.get F.shadowSettle ≤ s.now → s.compared l = [(v, a, b, false)] →
    valuesMatch v a b (s.get F.compareTolerance) = false → s.pair.cmp.find? (fun r => r.handle == handleOf v) = none →
    Does (.shadowCompare l) s fun t => ∃ dev, Raised [eventOf s 354 1 1 [(32, handleOf v), (32, s.now)],
      restOf s 354 1 1 [(32, dev)]] s t) ∧
  (∀ l s, s.beat.committed = false ∨ s.now < s.get F.shStartBeat + s.get F.shadowSettle →
    Does (.shadowCompare l) s fun t => t = s) ∧
  (∀ s, s.get F.role = 2 → s.pair.revertAt = some (s.now + 1) → s.pair.partnerReady = true → Does .revertHandover s fun t =>
    t.pair = { s.pair with handover := some { apply := s.now, cause := 11, after := 3 }, handing := true } ∧
    t.get F.plannedCount = satInc 32 (s.get F.plannedCount) ∧ Raised [eventOf s 344 1 0 [(32, s.now + 1), (8, 11)]] s t ∧
    RegsBut [(F.plannedCount, 0), (F.raised, 344)] s t ∧ t = { s with regs := t.regs, ev := t.ev, pair := t.pair }) ∧
  (∀ s, s.get F.role = 3 → s.get F.ready = 1 → s.get F.changePending = 1 → s.rt.revertArea.isSome = true →
    (s.now + 1) % 4000 = 0 → Does .revertHandover s fun t =>
      t.pair = { s.pair with revertAt := some (s.now + 1), handing := true } ∧ RegsBut [(F.plannedCount, 0)] s t ∧
      t = { s with regs := t.regs, pair := t.pair }) ∧
  (∀ s, s.get F.role = 1 → Does .revertHandover s fun t => t = s) ∧
  (∀ s, s.get F.changePending = 1 → s.get F.role = 1 ∨ s.get F.role = 2 → Does .confirmWindowEnd s fun t =>
    t.get F.changePending = 0 ∧ t.get F.programGen = (s.get F.programGen + 1) % 2 ^ 32 ∧ t.rt.revertArea = none ∧
    eventOf s 357 1 0 [(32, s.get F.programGen + 1), (8, 1)] ∈ t.ev.router ∧
    RegsBut [(F.changePending, 0), (F.programGen, 0), (F.raised, 357), (F.raised, 378)] s t ∧
    t = { s with regs := t.regs, ev := t.ev, jr := t.jr, rt := { s.rt with revertArea := none, resume := none },
                 pair := { s.pair with revertAt := none } }) ∧
  (∀ s, s.get F.changePending ≠ 1 → Does .confirmWindowEnd s fun t => t = s)

namespace Sys2Proof.Machine

/-- The registers an attempt at resynchronising writes. -/
def resyncRegs : List (Fld × Nat) :=
  [(F.resyncCountX, 0), (F.resyncCountX.next 1, 0), (F.resyncCountX.next 2, 0), (F.resyncPhase, 0), (F.resyncTarget, 0),
   (F.raised, 378), (F.raised, 331)]

/-- From `s` to `t` an attempt at resynchronising cluster `c` has started. -/
def ResyncStarted (c : Nat) (s t : State) : Prop :=
  t.get F.resyncPhase = 1 ∧ t.get F.resyncTarget = c % 4 ∧ (c, s.beat.opBeats) ∈ t.triad.attempts ∧
  t.triad.startsNext = none ∧ t.triad.passes = 0 ∧ t.triad.converged = false ∧ t.triad.started = s.now ∧
  RaisedLast [eventOf s 331 1 1 [(8, c), (32, (t.attemptsOf c).length)]] s t ∧ RegsBut resyncRegs s t ∧
  t = { s with regs := t.regs, ev := t.ev, jr := t.jr, triad := t.triad }

end Sys2Proof.Machine

/-- The voter compares every field and the presence of the clusters' transactions (R181 to R184): in VOTED one that all agree on
passes, the odd one of three is isolated and resynchronised from the next edge, or retired after three attempts in 24 h, and the
majority's passes; no majority, and a difference of the two voters of a DUAL one, are faults of severity 4. An injected
difference counts for nothing; in SPLIT nothing is voted. -/
def Obligations.TheVoterIsolatesTheOddCluster : Prop :=
  (∀ (tx : Fin 3 → Option Txn) off s, s.triadRuns = true → s.get F.triad = 0 → votable (tx 0) = votable (tx 1) →
    votable (tx 1) = votable (tx 2) → Does (.triadMismatch (tx 0) (tx 1) (tx 2) off false) s fun t =>
      t = { s with triad := { s.triad with passed := votable (tx 0) } }) ∧
  (∀ (tx : Fin 3 → Option Txn) (c d e : Fin 3) off s, s.triadRuns = true → s.get F.triad = 0 → c ≠ d → c ≠ e → d ≠ e →
    votable (tx d) = votable (tx e) → votable (tx c) ≠ votable (tx d) → (s.attemptsOf c.val).length < 3 →
    Does (.triadMismatch (tx 0) (tx 1) (tx 2) off false) s fun t =>
      t.get F.triad = 1 ∧ t.get F.isolated = setBit (s.get F.isolated) c.val true % 8 ∧
      t.triad = { s.triad with startsNext := some c.val, passed := votable (tx d), oddMem := s.mem } ∧
      t.get F.mismatchTotal = satInc 32 (s.get F.mismatchTotal) ∧ t.get F.lastMismatchBeat = s.now % 2 ^ 64 ∧
      Raised [eventOf s 330 1 2 [(8, c.val), (32, s.now), (16, off)],
        restOf s 330 1 2 [(32, ((tx c).or (votable (tx d))).elim 0 (·.kind))]] s t ∧
      RegsBut [(F.mismatchTotal, 0), (F.lastMismatchBeat, 0), (F.triad, 0), (F.isolated, 0), (F.raised, 330)] s t ∧
      t = { s with regs := t.regs, ev := t.ev, triad := t.triad }) ∧
  (∀ (tx : Fin 3 → Option Txn) (c d e : Fin 3) off s, s.triadRuns = true → s.get F.triad = 0 → c ≠ d → c ≠ e → d ≠ e →
    votable (tx d) = votable (tx e) → votable (tx c) ≠ votable (tx d) → 3 ≤ (s.attemptsOf c.val).length →
    Does (.triadMismatch (tx 0) (tx 1) (tx 2) off false) s fun t =>
      t.get F.triad = 1 ∧ t.get F.isolated = setBit (s.get F.isolated) c.val true % 8 ∧
      t.get F.retired = setBit (s.get F.retired) c.val true % 8 ∧ t.get F.hcState c.val = 3 ∧
      t.triad = { s.triad with passed := votable (tx d), oddMem := s.mem } ∧ eventOf s 334 1 3 [(8, c.val)] ∈ t.ev.router ∧
      (s.get F.dualSwitchover = 1 → s.pair.partnerTriad = 0 → s.canPlan = true → s.pair.handover = none →
        t.pair.handover = some { apply := if s.beat.committed ∨ 42400 ≤ s.beat.off then s.now + 1 else s.now, cause := 6 }) ∧
      t.mem = s.mem) ∧
  (∀ (tx : Fin 3 → Option Txn) off s, s.triadRuns = true → s.get F.triad = 0 → votable (tx 0) ≠ votable (tx 1) →
    votable (tx 0) ≠ votable (tx 2) → votable (tx 1) ≠ votable (tx 2) →
    Does (.triadMismatch (tx 0) (tx 1) (tx 2) off false) s fun t =>
      Raised [eventOf s 336 1 4 [(32, s.now), (16, off)]] s t ∧
      RegsBut [(F.mismatchTotal, 0), (F.lastMismatchBeat, 0), (F.raised, 336)] s t ∧
      t = { s with regs := t.regs, ev := t.ev, triad := { s.triad with passed := none } }) ∧
  (∀ (tx : Fin 3 → Option Txn) (c d e : Fin 3) off s, s.triadRuns = true → s.get F.triad = 1 → c ≠ d → c ≠ e → d ≠ e →
    s.votes c.val = false → s.votes d.val = true → s.votes e.val = true → votable (tx d) = votable (tx e) →
    Does (.triadMismatch (tx 0) (tx 1) (tx 2) off false) s fun t =>
      t = { s with triad := { s.triad with passed := votable (tx d) } }) ∧
  (∀ (tx : Fin 3 → Option Txn) (c d e : Fin 3) off s, s.triadRuns = true → s.get F.triad = 1 → c ≠ d → c ≠ e → d ≠ e →
    s.votes c.val = false → s.votes d.val = true → s.votes e.val = true → votable (tx d) ≠ votable (tx e) →
    Does (.triadMismatch (tx 0) (tx 1) (tx 2) off false) s fun t =>
      Raised [eventOf s 335 1 4 [(32, s.now), (16, off)]] s t ∧ t.get F.triad = 1 ∧
      RegsBut [(F.mismatchTotal, 0), (F.lastMismatchBeat, 0), (F.raised, 335)] s t ∧
      t = { s with regs := t.regs, ev := t.ev, triad := { s.triad with passed := none } }) ∧
  (∀ x y z off b s, b = true ∨ s.triadRuns = false ∨ s.get F.triad = 2 → Does (.triadMismatch x y z off b) s fun t => t = s)

/-- The resynchronisation of a cluster passes through its phases (R185 to R188): copy, converge passes until the residual, the
lines marked in the dirty bitmap, fits or the sixth fails, the final phase, and the return to VOTED at the edge after it, which
dates the attempt's length; a waiting cluster is tried again while it has had fewer than three attempts in 24 h; what abandons a
resync ends it. A fault of a cluster of a SPLIT module restarts that cluster's program alone, for X it is a fault of severity 4
(R192). -/
def Obligations.AClusterIsResynchronised : Prop :=
  (∀ c s, s.triad.startsNext = some c → s.canResync = true → Does .resyncStart s (ResyncStarted c s)) ∧
  (∀ s, s.triad.startsNext = none ∨ s.canResync = false → Does .resyncStart s fun t => t = s) ∧
  (∀ (c : Fin 3) s, s.triad.waiting.contains c.val = true → s.canResync = true → (s.attemptsOf c.val).length < 3 →
    Does (.resyncRetry c) s fun t => ResyncStarted c.val s t ∧ c.val ∉ t.triad.waiting) ∧
  (∀ (c : Fin 3) s, 3 ≤ (s.attemptsOf c.val).length → Does (.resyncRetry c) s fun t => t = s) ∧
  (∀ (c : Fin 3) s, s.resyncOf c = true → s.get F.resyncPhase = 1 → s.residual ≤ 786432 → Does (.resyncPassDone c) s fun t =>
    t.get F.resyncPhase = 2 ∧ t.triad = { s.triad with converged := true } ∧ RegsBut [(F.resyncPhase, 0)] s t ∧
    t = { s with regs := t.regs, triad := t.triad }) ∧
  (∀ (c : Fin 3) s, s.resyncOf c = true → s.get F.resyncPhase = 1 → 786432 < s.residual → s.triad.passes < 6 →
    Does (.resyncPassDone c) s fun t =>
      t.get F.resyncPhase = 2 ∧ t.triad = { s.triad with converged := false, oddMem := s.mem, dirty := [] } ∧
      RegsBut [(F.resyncPhase, 0)] s t ∧ t = { s with regs := t.regs, triad := t.triad }) ∧
  (∀ (c : Fin 3) s, s.resyncOf c = true → s.get F.resyncPhase = 2 → s.triad.converged = false → s.residual ≤ 786432 →
    Does (.resyncPassDone c) s fun t =>
      t = { s with triad := { s.triad with passes := s.triad.passes + 1, converged := true } }) ∧
  (∀ (c : Fin 3) s, s.resyncOf c = true → s.get F.resyncPhase = 2 → s.triad.converged = false → 786432 < s.residual →
    s.triad.passes < 5 → Does (.resyncPassDone c) s fun t =>
      t = { s with triad := { s.triad with passes := s.triad.passes + 1, converged := false, oddMem := s.mem, dirty := [] } }) ∧
  (∀ (c : Fin 3) s, s.resyncOf c = true → s.get F.resyncPhase = 2 → s.triad.converged = false → 786432 < s.residual →
    5 ≤ s.triad.passes → Does (.resyncPassDone c) s fun t =>
      t.get F.resyncPhase = 0 ∧ t.get F.resyncTarget = 3 ∧ t.triad.waiting = s.triad.waiting ++ [s.get F.resyncTarget] ∧
      Raised [eventOf s 333 1 2 [(8, s.get F.resyncTarget), (32, s.residual)]] s t ∧
      RegsBut [(F.resyncPhase, 0), (F.resyncTarget, 0), (F.raised, 333)] s t ∧
      t = { s with regs := t.regs, ev := t.ev, triad := t.triad }) ∧
  (∀ (c : Fin 3) s, s.resyncOf c = true → s.get F.resyncPhase = 2 → s.triad.converged = true → s.residual ≤ 786432 →
    Does (.resyncFinal c) s fun t =>
      t.get F.resyncPhase = 3 ∧ t.triad = { s.triad with oddMem := s.mem, dirty := [] } ∧ RegsBut [(F.resyncPhase, 0)] s t ∧
      t = { s with regs := t.regs, triad := t.triad }) ∧
  (∀ (c : Fin 3) s, s.resyncOf c = true → s.get F.resyncPhase = 2 → s.triad.converged = true → 786432 < s.residual → s.triad.passes < 6 →
    Does (.resyncFinal c) s fun t =>
      t = { s with triad := { s.triad with converged := false, oddMem := s.mem, dirty := [] } }) ∧
  (∀ (c : Fin 3) s, s.resyncOf c = true → s.get F.resyncPhase = 4 → Does (.resyncDone c) s fun t =>
    t.get F.triad = 0 ∧ t.get F.resyncPhase = 0 ∧ t.get F.resyncTarget = 3 ∧
    t.get F.lastResyncTime = 250 * (s.now - s.triad.started) % 2 ^ 32 ∧
    t.get F.isolated = setBit (s.get F.isolated) (s.get F.resyncTarget) false % 8 ∧
    Raised [eventOf s 332 1 0 [(8, s.get F.resyncTarget), (32, 250 * (s.now - s.triad.started))]] s t ∧
    RegsBut [(F.triad, 0), (F.resyncPhase, 0), (F.resyncTarget, 0), (F.lastResyncTime, 0), (F.isolated, 0), (F.raised, 332)] s t ∧
    t = { s with regs := t.regs, ev := t.ev, triad := { s.triad with converged := false, oddMem := [], dirty := [] } }) ∧
  (∀ (c : Fin 3) s, s.resyncOf c = false → Does (.resyncPassDone c) s (· = s) ∧ Does (.resyncFinal c) s (· = s) ∧ Does (.resyncDone c) s (· = s)) ∧
  (∀ (c : Fin 3) s, s.get F.resyncPhase ≠ 4 → Does (.resyncDone c) s fun t => t = s) ∧
  (∀ (c : Fin 3) n s, c.val ≠ 0 → s.splitRuns c.val = true → s.triadRuns = true →
    Does (.splitClusterFault c n) s fun t =>
      t.rtOf c.val = (s.swapCluster c.val).dropCycles.rt.cold ∧ t.rt = s.rt ∧ t.loops = s.loops ∧ t.beat = s.beat ∧
      Raised [eventOf s 330 1 2 [(8, c.val), (32, s.now), (16, s.beat.off)], restOf s 330 1 2 [(32, n)]] s t ∧
      (∀ f k, isClusterKey (fldKey f k) = false → fldKey f k ≠ fldKey F.raised 330 → t.get f k = s.get f k) ∧
      t.mem = s.mem ∧ t.triad.memY = s.triad.memY ∧ t.triad.memZ = s.triad.memZ) ∧
  (∀ (c : Fin 3) n s, c.val ≠ 0 → s.splitRuns c.val = false → Does (.splitClusterFault c n) s fun t => t = s) ∧
  (∀ (c : Fin 3) n s, c.val = 0 → s.get F.triad = 2 → s.triadRuns = true → Does (.splitClusterFault c n) s fun t =>
    Raised [eventOf s 330 1 4 [(8, 0), (32, s.now), (16, s.beat.off)], restOf s 330 1 4 [(32, n)]] s t ∧
    RegsBut [(F.raised, 330)] s t ∧ t = { s with regs := t.regs, ev := t.ev }) ∧
  (∀ c n s, s.get F.triad ≠ 2 → Does (.splitClusterFault c n) s fun t => t = s)

namespace Sys2Proof.Machine

/-- Only the controller of lane `k` may differ; every other lane's stands. -/
def OnlyLane (k : Nat) (s t : State) : Prop := ∀ j, j ≠ k → t.lane j = s.lane j

/-- An upstream frame of lane `k` that R207 to R214 accept: sound, of the type and exchange expected, in its window, with the
epoch of the board, and the first accepted one of its exchange. -/
structure FrameFits (k : Nat) (f : Frame) (s : State) : Prop where
  served : s.laneServed k = true
  mode : s.get F.laneMode k = 1 ∨ s.get F.laneMode k = 2
  sound : frameSound f (if s.get F.laneMode k = 1 then 1444 else 476) = true
  upstream : f.ftype = 2
  beat : f.beat = s.exchangeEdge k
  lane : f.lane = k
  window : s.inWindow k (bitOf f.flags 4) = true
  epoch : f.epochLo = s.epochOf (.slot k) % 65536
  first : (s.lane k).accepted ≠ some (s.exchangeEdge k)

/-- The record of the unit at these hops: an epoch event of insertion or removal (cause 6) in this beat. -/
def UnitChanged (hops : List Nat) (s t : State) : Prop :=
  ∃ u, t.unit? hops = some u ∧ u.lastCause = 6 ∧ u.lastBeat = s.now

end Sys2Proof.Machine

/-- The lines of an L5 or L4 lane: EDGE and DELAY_REQ leave, D is half the round trip less 1 µs and an outlier is discarded and
counted, an upstream frame is accepted once and its points wait for their image, ACK answers what was accepted, and each
exchange is judged once at the end of its window (R202 to R216). -/
def Obligations.LaneExchangesAreMadeAndJudged : Prop :=
  (∀ (k : Fin 96) s, s.get F.laneLink k.val = 1 → s.get F.laneMode k.val = 1 ∨ s.get F.laneMode k.val = 2 → s.quiet = false →
    Does (.edgeLaunch k) s fun t => t.lane k.val = { s.lane k.val with
        edge := some ((s.now + 1) % 256, s.eflags, crc8 [(s.now + 1) % 256, s.eflags]) } ∧
      OnlyLane k.val s t ∧ t = { s with lanes := { s.lanes with lanes := t.lanes.lanes } }) ∧
  (∀ (k : Fin 96) s, s.get F.laneLink k.val ≠ 1 ∨ s.get F.laneMode k.val = 3 → Does (.edgeLaunch k) s fun t => t = s) ∧
  (∀ (k : Fin 96) s, s.get F.laneMode k.val = 1 ∨ s.get F.laneMode k.val = 2 → s.quiet = false →
    Does (.delayMeasure k) s fun t =>
      t.lane k.val = { s.lane k.val with delaySeq := ((s.lane k.val).delaySeq + 1) % 256, delayWait := true
                                         delayReq := some (((s.lane k.val).delaySeq + 1) % 256,
                                           crc8 [((s.lane k.val).delaySeq + 1) % 256, 0]) } ∧
      OnlyLane k.val s t ∧ t = { s with lanes := { s.lanes with lanes := t.lanes.lanes } }) ∧
  (∀ (k : Fin 96) n s, (s.lane k.val).delayWait = true →
    (s.lane k.val).delayKnown = false ∨ natDist ((n - 1000) / 2) (s.get F.laneDelay k.val) ≤ 100 →
    Does (.delayRespReceive k (s.lane k.val).delaySeq n (crc8 [(s.lane k.val).delaySeq, 0x80]) 0x80) s fun t =>
      t.get F.laneDelay k.val = (n - 1000) / 2 % 2 ^ 32 ∧ RegsBut [(F.laneDelay, k.val)] s t ∧
      t.lane k.val = { s.lane k.val with delayWait := false, delayKnown := true } ∧
      t = { s with regs := t.regs, lanes := { s.lanes with lanes := t.lanes.lanes } }) ∧
  (∀ (k : Fin 96) q m c n s, (s.lane k.val).delayWait = true →
    c ≠ crc8 [q, m] ∨ q = (s.lane k.val).delaySeq ∧ m = 0x80 ∧ (s.lane k.val).delayKnown = true ∧
      100 < natDist ((n - 1000) / 2) (s.get F.laneDelay k.val) →
    Does (.delayRespReceive k q n c m) s fun t =>
      t.get F.laneDelayReject k.val = satInc 32 (s.get F.laneDelayReject k.val) ∧ RegsBut [(F.laneDelayReject, k.val)] s t ∧
      (t.lane k.val).delayWait = false ∧ t = { s with regs := t.regs, lanes := { s.lanes with lanes := t.lanes.lanes } }) ∧
  (∀ (k : Fin 96) q m c n s, (s.lane k.val).delayWait = false → Does (.delayRespReceive k q n c m) s fun t => t = s) ∧
  (∀ (k : Fin 96) f v s, FrameFits k.val f s → ownStatus? f = some v → Does (.upstreamFrameReceive k f) s fun t =>
    (t.lane k.val).accepted = some (s.exchangeEdge k.val) ∧ OnlyLane k.val s t ∧
    (t.lanes.due = if s.get F.laneState k.val = 5 then s.lanes.due else s.lanes.due ++
      [{ beat := s.exchangeImage k.val, key := k.val * 8, stale := false, points := f.points }]) ∧
    t.get F.laneLink k.val = 1 ∧ t.get F.laneHolder k.val = bitsOf v 3 2 ∧ (t.lane k.val).status = v ∧
    t.get F.laneRetries k.val = (if bitOf f.flags 4 then satInc 32 (s.get F.laneRetries k.val) else s.get F.laneRetries k.val) ∧
    t.get F.laneDownMiss k.val = satAdd 32 (s.get F.laneDownMiss k.val) (bitsOf v 8 8) ∧
    Raised (if bitOf v 7 then [eventOf s k.val 9 1 [(2, bitsOf v 3 2)]] else []) s t ∧
    RegsBut [(F.laneLink, k.val), (F.laneHolder, k.val), (F.laneRetries, k.val), (F.laneBoards, k.val), (F.laneDownMiss, k.val),
      (F.raised, k.val)] s t ∧ t.mem = s.mem) ∧
  (∀ (k : Fin 96) f s, FrameFits k.val f s → ownStatus? f = none → Does (.upstreamFrameReceive k f) s fun t =>
    (t.lane k.val).accepted = some (s.exchangeEdge k.val) ∧ OnlyLane k.val s t ∧ t.ev = s.ev ∧
    RegsBut [(F.laneLink, k.val), (F.laneRetries, k.val), (F.laneBoards, k.val)] s t ∧ t.mem = s.mem) ∧
  (∀ (k : Fin 96) f s, s.laneServed k.val = false ∨ s.get F.laneMode k.val = 3 →
    Does (.upstreamFrameReceive k f) s fun t => t = s) ∧
  (∀ (k : Fin 96) f s, s.laneServed k.val = true → s.get F.laneMode k.val = 1 → frameSound f 1444 = true → f.ftype = 2 →
    f.beat = s.now → f.lane = k.val → f.epochLo ≠ s.epochOf (.slot k.val) % 65536 → bitOf f.flags 4 = false →
    Does (.upstreamFrameReceive k f) s fun t =>
      t.get F.laneEpochReject k.val = satInc 32 (s.get F.laneEpochReject k.val) ∧ RegsBut [(F.laneEpochReject, k.val)] s t ∧
      t = { s with regs := t.regs }) ∧
  (∀ (k : Fin 96) s, s.laneServed k.val = true → Does (.ackSend k false) s fun t =>
    (∃ r, r = (if (s.lane k.val).accepted = some (s.exchangeEdge k.val) then 0 else 1) ∧
      t.lane k.val = { s.lane k.val with
        ack := some (s.exchangeEdge k.val % 256, r, crc8 [s.exchangeEdge k.val % 256, r]) }) ∧
    OnlyLane k.val s t ∧ t = { s with lanes := { s.lanes with lanes := t.lanes.lanes } }) ∧
  (∀ (k : Fin 96) s, (s.lane k.val).retried ≠ some (s.exchangeEdge k.val) → Does (.ackSend k true) s fun t => t = s) ∧
  (∀ (k : Fin 96) s, s.get F.laneState k.val = 3 → s.get F.laneMode k.val = 1 → (s.lane k.val).judged ≠ some s.now →
    (s.lane k.val).accepted = some s.now → (s.lane k.val).fresh = false → Does (.exchangeWindowEnd k) s fun t =>
      t.get F.laneState k.val = 2 ∧ t.get F.laneStaleRun k.val = 0 ∧
      t.lane k.val = { s.lane k.val with judged := some s.now, run := 0, good := (s.lane k.val).good + 1, healthy := true } ∧
      RegsBut [(F.laneState, k.val), (F.laneStaleRun, k.val)] s t ∧
      t = { s with regs := t.regs, lanes := { s.lanes with lanes := t.lanes.lanes } }) ∧
  (∀ (k : Fin 96) s, s.get F.laneState k.val = 2 → s.get F.laneMode k.val = 1 → (s.lane k.val).judged ≠ some s.now →
    (s.lane k.val).accepted ≠ some s.now → (s.lane k.val).run = 0 → 1 < s.get F.staleLimit k.val →
    Does (.exchangeWindowEnd k) s fun t =>
      t.get F.laneState k.val = 3 ∧ t.get F.laneStaleRun k.val = 1 ∧
      t.get F.laneStaleBeats k.val = satInc 32 (s.get F.laneStaleBeats k.val) ∧
      t.lanes.due = s.lanes.due ++ [{ beat := s.now + 1, key := k.val * 8, stale := true, points := [] }] ∧
      Raised [eventOf s k.val 1 1 [(32, s.now)]] s t ∧
      RegsBut [(F.laneState, k.val), (F.laneStaleRun, k.val), (F.laneStaleBeats, k.val), (F.raised, k.val)] s t ∧ t.mem = s.mem)

/-- A lane that has been stale for stale_limit exchanges, or loses its link, fails: crossover from the next beat where the
partner's lane is healthy, else LANE_FAILED and substitutes; it returns after restore_limit accepted exchanges, a crossed slot
after three clean probes. A board that goes or comes is an epoch event of its unit; identity, generation and type are checked
first (R104 to R106, R160 to R163, R216, R233). -/
def Obligations.LanesFailCrossOverAndReturn : Prop :=
  (∀ (k : Fin 96) s, s.get F.laneState k.val = 3 → s.get F.laneMode k.val = 1 → (s.lane k.val).judged ≠ some s.now →
    (s.lane k.val).accepted ≠ some s.now → (s.lane k.val).run ≠ 0 → s.get F.staleLimit k.val ≤ (s.lane k.val).run + 1 →
    s.serving = true → s.partnerHealthy k.val = false → (s.lane k.val).ever = true → (s.lane k.val).owes = false → Does (.exchangeWindowEnd k) s fun t =>
      t.get F.laneState k.val = 4 ∧ t.get F.laneFailures k.val = satInc 32 (s.get F.laneFailures k.val) ∧
      (t.lane k.val).failed = true ∧ Raised [eventOf s k.val 2 2 [(32, s.now), (8, 0xFF)]] s t ∧
      t.rt.errQ = s.rt.errQ ++ (s.stationsAt (k.val * 8)).map (fun d => (d.idx, 1)) ∧ t.mem = s.mem) ∧
  (∀ (k : Fin 96) s, s.get F.laneState k.val = 3 → s.get F.laneMode k.val = 1 → (s.lane k.val).judged ≠ some s.now →
    (s.lane k.val).accepted ≠ some s.now → (s.lane k.val).run ≠ 0 → s.get F.staleLimit k.val ≤ (s.lane k.val).run + 1 →
    s.serving = true → s.partnerHealthy k.val = true → Does (.exchangeWindowEnd k) s fun t =>
      t.get F.laneState k.val = 4 ∧ (t.lane k.val).crossAt = some (s.now + 1) ∧ t.ev = s.ev ∧ t.rt.errQ = s.rt.errQ) ∧
  (∀ (k : Fin 96) s, s.get F.laneState k.val = 4 → s.get F.laneMode k.val = 1 → (s.lane k.val).judged ≠ some s.now →
    (s.lane k.val).accepted = some s.now → (s.lane k.val).failed = true → (s.lane k.val).fresh = false →
    (s.lane k.val).owes = false →
    (s.lane k.val).crossAt = none → s.get F.restoreLimit k.val ≤ (s.lane k.val).good + 1 → s.serving = true →
    Does (.exchangeWindowEnd k) s fun t =>
      t.get F.laneState k.val = 2 ∧ (t.lane k.val).failed = false ∧ Raised [eventOf s k.val 3 0 [(32, s.now)]] s t ∧
      t.rt.errQ = s.rt.errQ ++ (s.stationsAt (k.val * 8)).map (fun d => (d.idx, 2)) ∧ t.mem = s.mem) ∧
  (∀ (k : Fin 96) s, s.get F.laneMode k.val ≠ 0 → s.get F.laneState k.val ≠ 0 → s.hasPartner = false →
    Does (.lossOfLink k) s fun t =>
      t.get F.laneState k.val = 0 ∧ t.get F.laneLink k.val = 0 ∧ t.get F.laneBoards k.val = 0 ∧
      UnitChanged [0x0100 + k.val] s t ∧ t.epochOf (.slot k.val) = nextEpoch (s.epochOf (.slot k.val)) ∧
      eventOf s k.val 7 2 [(8, 0)] ∈ t.ev.router ∧ t.mem = s.mem) ∧
  (∀ (k : Fin 96) s, s.get F.laneMode k.val ≠ 0 → s.get F.laneState k.val ≠ 0 → s.get F.laneState k.val ≠ 6 →
    s.hasPartner = true → bitOf s.pair.partnerLoss k.val = false → (s.lane k.val).failed = false →
    Does (.lossOfLink k) s fun t =>
      t.get F.laneState k.val = 4 ∧ t.get F.laneLink k.val = 0 ∧ (t.lane k.val).lostAt = some s.now ∧
      t.get F.laneFailures k.val = satInc 32 (s.get F.laneFailures k.val) ∧ t.units = s.units ∧ t.ev = s.ev ∧ t.mem = s.mem) ∧
  (∀ (k : Fin 96) s, s.get F.laneMode k.val = 0 ∨ s.get F.laneState k.val = 0 → Does (.lossOfLink k) s fun t => t = s) ∧
  (∀ (k : Fin 96) a ty pc sn s, s.get F.laneMode k.val = 1 → k.val < 48 → s.get F.laneState k.val = 0 →
    (s.lane k.val).ever = false → s.get F.expectedType k.val = 0 ∨ s.get F.expectedType k.val = ty →
    Does (.boardInserted k a 5 ty true pc sn) s fun t =>
      t.get F.laneState k.val = 2 ∧ t.get F.laneLink k.val = 1 ∧ (t.lane k.val).fresh = true ∧
      (∃ u, t.unit? [0x0100 + k.val] = some u ∧ u.type = 0x0010 ∧ u.part = pc ∧ u.serial = sn) ∧
      UnitChanged [0x0100 + k.val] s t ∧ RaisedLast [eventOf s k.val 6 0 [(8, 0), (32, ty)],
        restOf s k.val 6 0 [(32, t.epochOf (.slot k.val))]] s t ∧ t.mem = s.mem) ∧
  (∀ (k : Fin 96) a ty pc sn s, s.get F.laneMode k.val = 1 → k.val < 48 → Does (.boardInserted k a 5 ty false pc sn) s fun t =>
    t.get F.laneState k.val = 6 ∧ Raised [eventOf s 387 1 2 [(8, 1), (16, 0x0100 + k.val), (8, 1)]] s t ∧
    RegsBut [(F.laneState, k.val), (F.laneLink, k.val), (F.raised, 387)] s t ∧ t = { s with regs := t.regs, ev := t.ev }) ∧
  (∀ (k : Fin 96) a g ty pc sn s, s.get F.laneMode k.val = 1 → k.val < 48 → 2 < g →
    g ≠ 5 ∧ g ≠ 12 ∨ s.get F.expectedType k.val ≠ 0 ∧ s.get F.expectedType k.val ≠ ty →
    Does (.boardInserted k a g ty true pc sn) s fun t =>
      t.get F.laneState k.val = 6 ∧ UnitChanged [0x0100 + k.val] s t ∧
      eventOf s k.val 8 2 [(32, s.get F.expectedType k.val), (32, ty)] ∈ t.ev.router ∧ t.mem = s.mem) ∧
  (∀ (k : Fin 96) a g ty ok pc sn s, s.get F.laneMode k.val = 0 → Does (.boardInserted k a g ty ok pc sn) s fun t => t = s) ∧
  (∀ (k : Fin 96) l s, s.get F.role = 2 → s.get F.laneState k.val = 5 → s.get F.laneMode k.val ≠ 3 →
    Does (.crossoverForward k l) s fun t =>
      (∃ mine, t.lanes.due = s.lanes.due ++ [{ beat := s.now + 1, key := k.val * 8, stale := false, points := mine }] ∧
        ∀ x ∈ mine, x ∈ l) ∧ t.pair = { s.pair with xBytes := s.pair.xBytes + 2344 } ∧ t.regs = s.regs ∧ t.ev = s.ev) ∧
  (∀ (k : Fin 96) l s, s.get F.role = 3 ∨ s.get F.role = 4 → Does (.crossoverForward k l) s fun t =>
    t.pair = { s.pair with fwd := s.pair.fwd ++ [(k.val, s.now - 1, l)] } ∧ (k.val, s.now) ∈ t.lanes.forwards ∧ t.regs = s.regs ∧
    t.lanes.lanes = s.lanes.lanes ∧ t.lanes.due = s.lanes.due) ∧
  (∀ (k : Fin 96) l s, s.get F.role = 1 ∨ s.get F.role = 2 ∧ s.get F.laneState k.val ≠ 5 →
    Does (.crossoverForward k l) s fun t => t = s) ∧
  (∀ (k : Fin 96) f s, s.get F.laneState k.val = 5 → s.serving = true → Does (.laneProbe k f) s fun t =>
    (s.probeClean k.val f = false → (t.lane k.val).probes = 0 ∧ (t.lane k.val).returnAt = (s.lane k.val).returnAt) ∧
    (s.probeClean k.val f = true → (s.lane k.val).probes < 2 →
      (t.lane k.val).probes = (s.lane k.val).probes + 1 ∧ (t.lane k.val).returnAt = (s.lane k.val).returnAt) ∧
    (s.probeClean k.val f = true → 2 ≤ (s.lane k.val).probes → (t.lane k.val).returnAt = some (s.now + 1)) ∧
    (s.get F.laneMode k.val = 1 ∨ s.get F.laneMode k.val = 2 → ∃ d, (t.lane k.val).service = some d ∧ d.ftype = 0x10 ∧
      d.beat = s.now ∧ d.lane = k.val ∧ d.payload = [] ∧ d.crc = crc32c (headBytes 0x10 d.flags s.now k.val d.frag d.epochLo [])) ∧
    OnlyLane k.val s t ∧ t = { s with lanes := { s.lanes with lanes := t.lanes.lanes } }) ∧
  (∀ (k : Fin 96) (c : Fin 3) s, s.get F.laneState k.val = 5 → s.serving = true → s.get F.laneMode k.val ≠ 3 →
    Does (.crossoverEnd k c) s fun t =>
      t.get F.laneState k.val = 4 ∧ Raised [eventOf s k.val 2 2 [(32, s.now), (8, 0xFF)]] s t ∧
      t.rt.errQ = s.rt.errQ ++ (s.stationsAt (k.val * 8)).map (fun d => (d.idx, 1)) ∧ t.mem = s.mem) ∧
  (∀ (k : Fin 96) (c : Fin 3) s, s.get F.laneState k.val ≠ 5 → (s.lane k.val).crossAt = none →
    Does (.crossoverEnd k c) s fun t =>
      t = { s with lanes := { s.lanes with forwards := unassoc s.lanes.forwards k.val } })

/-- L3 boards are polled in their beats, by the holder with the outputs committed last and by the other module for their
status; an answer gives the image its points, a missing or corrupted one makes the board stale. WSL-E fragments are gathered
into their exchange, which is judged at its deadline; fragments outside the gate, and those of a beat that is not due or too
late, are counted; upstream ports are served only by a module that serves (R20, R52, R222 to R228). -/
def Obligations.L3PollsAndWslExchanges : Prop :=
  (∀ (k : Fin 96) (p : Fin 8) s, s.get F.laneMode k.val = 3 → bitOf (s.get F.l3Boards k.val) p.val = true → s.get F.claim = 1 →
    s.now % 40 = 5 * p.val → (s.l3 k.val p.val).mismatch = false → Does (.l3Poll k p) s fun t =>
      (∃ b, b.length ≤ 9 ∧ b.head? = some (s.now % 256) ∧
        t.l3 k.val p.val = { s.l3 k.val p.val with poll := some (s.now, false), sent := s.outsAt (k.val * 8 + p.val)
                                                   chars := (8 + p.val) :: b ++ bytesOf 2 (crc16 b) }) ∧
      t = { s with lanes := { s.lanes with l3 := t.lanes.l3 } }) ∧
  (∀ (k : Fin 96) (p : Fin 8) s, s.get F.claim = 0 ∨ s.now % 40 ≠ 5 * p.val ∨ (s.l3 k.val p.val).mismatch = true → Does (.l3Poll k p) s fun t => t = s) ∧
  (∀ (k : Fin 96) (p : Fin 8) s, s.get F.laneMode k.val = 3 → bitOf (s.get F.l3Boards k.val) p.val = true → s.get F.claim = 0 →
    s.now % 40 = 5 * p.val + 2 → Does (.l3CheckPoll k p) s fun t =>
      t.l3 k.val p.val = { s.l3 k.val p.val with poll := some (s.now, true)
                                                 chars := pollChars 0x03 p.val s.now [] } ∧
      t = { s with lanes := { s.lanes with l3 := t.lanes.l3 } }) ∧
  (∀ (k : Fin 96) (p : Fin 8) s, s.get F.claim = 1 ∨ s.now % 40 ≠ 5 * p.val + 2 → Does (.l3CheckPoll k p) s fun t => t = s) ∧
  (∀ (k : Fin 96) (p : Fin 8) a st bs l s, (s.l3 k.val p.val).poll = some (s.now, false) →
    (s.l3 k.val p.val).failed = false → (s.l3 k.val p.val).ever = true → s.get F.laneState k.val ≠ 5 → a % 8 = p.val →
    bs.length ≤ 12 → Does (.l3ResponseReceive k p false a st (crc16 (st :: bs)) bs l) s fun t =>
      (t.l3 k.val p.val).poll = none ∧ (t.l3 k.val p.val).run = 0 ∧ (t.l3 k.val p.val).last = s.now ∧
      t.lanes.due = s.lanes.due ++ [{ beat := s.now + 1, key := k.val * 8 + p.val, stale := false, points := l }] ∧
      t.get F.laneLink k.val = 1 ∧ t.get F.laneHolder k.val = bitsOf st 3 2 ∧
      (t.l3 k.val p.val).status = st ∧
      Raised (if bitOf st 7 then [eventOf s k.val 9 1 [(2, bitsOf st 3 2)]] else []) s t ∧ t.mem = s.mem) ∧
  (∀ (k : Fin 96) (p : Fin 8) a st bs c l s, (s.l3 k.val p.val).poll = some (s.now, false) →
    c ≠ crc16 (st :: bs) ∨ a % 8 ≠ p.val ∨ 12 < bs.length → Does (.l3ResponseReceive k p false a st c bs l) s fun t =>
      (t.l3 k.val p.val).poll = none ∧ (t.l3 k.val p.val).run = (s.l3 k.val p.val).run + 1 ∧
      t.lanes.due = s.lanes.due ++ [{ beat := s.now + 1, key := k.val * 8 + p.val, stale := true, points := [] }] ∧
      t.get F.laneStaleBeats k.val = satInc 32 (s.get F.laneStaleBeats k.val) ∧ t.mem = s.mem) ∧
  (∀ (k : Fin 96) (p : Fin 8) b a st bs c l s, (s.l3 k.val p.val).poll = none →
    Does (.l3ResponseReceive k p b a st c bs l) s fun t => t = s) ∧
  (∀ (k : Fin 96) (p : Fin 8) s, (s.l3 k.val p.val).poll = some (s.now, false) → Does (.l3ResponseTimeout k p false) s fun t =>
    (t.l3 k.val p.val).poll = none ∧ (t.l3 k.val p.val).run = (s.l3 k.val p.val).run + 1 ∧
    t.lanes.due = s.lanes.due ++ [{ beat := s.now + 1, key := k.val * 8 + p.val, stale := true, points := [] }] ∧
    t.get F.laneStaleBeats k.val = satInc 32 (s.get F.laneStaleBeats k.val) ∧ t.mem = s.mem) ∧
  (∀ (k : Fin 96) (p : Fin 8) c s, (s.l3 k.val p.val).poll = none → Does (.l3ResponseTimeout k p c) s fun t => t = s) ∧
  (∀ (n : Fin 64) off pre f s, s.get F.wslPort n.val ≠ 0xFF → s.portUp (s.get F.wslPort n.val) = false →
    s.portDown (s.get F.wslPort n.val) = true → pre.magic = 0x5745 → pre.ver = 1 → pre.station = s.get F.wslStation n.val →
    pre.dir = 2 → frameSound f 1444 = true → f.ftype = 0x22 → f.lane = 0xFF →
    s.rxInTime (s.get F.wslPort n.val) f.beat off = true → (s.wslRt n.val).beat ≠ f.beat ∨ (s.wslRt n.val).frags = [] →
    Does (.wslFrameReceive n pre f off) s fun t =>
      t.wslRt n.val = { s.wslRt n.val with beat := f.beat, xseq := pre.xseq, frags := [f.frag % 16]
                                           lastFrag := f.frag / 16 % 16, points := f.points } ∧
      t = { s with lanes := { s.lanes with wsl := t.lanes.wsl } }) ∧
  (∀ (n : Fin 64) off pre f s, s.get F.wslPort n.val ≠ 0xFF → s.portUp (s.get F.wslPort n.val) = true → s.serving = true →
    pre.magic = 0x5745 → pre.ver = 1 → pre.station = s.get F.wslStation n.val → pre.dir = 1 → frameSound f 1444 = true →
    f.ftype = 0x21 → f.lane = 0xFF → bitOf f.flags 0 = true → s.rxInTime (s.get F.wslPort n.val) f.beat off = true →
    (s.wslRt n.val).beat ≠ f.beat ∨ (s.wslRt n.val).frags = [] → Does (.wslFrameReceive n pre f off) s fun t =>
      t.wslRt n.val = { s.wslRt n.val with beat := f.beat, xseq := pre.xseq, frags := [f.frag % 16]
                                           lastFrag := f.frag / 16 % 16, points := f.points
                                           holder := 1 + bitsOf f.flags 1 1 } ∧
      t = { s with lanes := { s.lanes with wsl := t.lanes.wsl } }) ∧
  (∀ (n : Fin 64) off pre f s, s.get F.wslPort n.val ≠ 0xFF → s.portUp (s.get F.wslPort n.val) = false →
    s.portDown (s.get F.wslPort n.val) = true → pre.magic = 0x5745 → pre.ver = 1 → pre.station = s.get F.wslStation n.val →
    pre.dir = 2 → frameSound f 1444 = true → f.ftype = 0x22 → f.lane = 0xFF →
    s.rxInTime (s.get F.wslPort n.val) f.beat off = false → Does (.wslFrameReceive n pre f off) s fun t =>
      t.get F.wslBeatMismatch n.val = satInc 32 (s.get F.wslBeatMismatch n.val) ∧ RegsBut [(F.wslBeatMismatch, n.val)] s t ∧
      t = { s with regs := t.regs }) ∧
  (∀ (n : Fin 64) off pre f s, s.get F.wslPort n.val = 0xFF ∨ s.portLive (s.get F.wslPort n.val) = false →
    Does (.wslFrameReceive n pre f off) s fun t => t = s) ∧
  (∀ (n : Fin 64) s, s.get F.wslPort n.val ≠ 0xFF → s.portLive (s.get F.wslPort n.val) = true → s.now ≠ 0 →
    (s.now - 1) % 4 = s.rxCadence (s.get F.wslPort n.val) → (s.wslRt n.val).judged ≠ some (s.now - 1) →
    (s.wslRt n.val).beat = s.now - 1 → (s.wslRt n.val).frags ≠ [] → (s.wslRt n.val).whole = true →
    (s.wslRt n.val).failed = false → Does (.wslExchangeDeadline n) s fun t =>
      t.get F.wslState n.val = 2 ∧ (t.wslRt n.val).judged = some (s.now - 1) ∧ (t.wslRt n.val).run = 0 ∧
      t.lanes.due = s.lanes.due ++
        [{ beat := s.now + 1, key := 1000 + n.val, stale := false, points := (s.wslRt n.val).points }] ∧
      RegsBut [(F.wslState, n.val)] s t ∧ t.ev = s.ev ∧ t.mem = s.mem) ∧
  (∀ (n : Fin 64) s, s.get F.wslPort n.val ≠ 0xFF → s.portLive (s.get F.wslPort n.val) = true → s.now ≠ 0 →
    (s.now - 1) % 4 = s.rxCadence (s.get F.wslPort n.val) → (s.wslRt n.val).judged ≠ some (s.now - 1) →
    (s.wslRt n.val).beat ≠ s.now - 1 → (s.wslRt n.val).failed = false → (s.wslRt n.val).ever = true →
    (s.wslRt n.val).run = 0 → 1 < s.get F.wslStaleLimit n.val → Does (.wslExchangeDeadline n) s fun t =>
      t.get F.wslState n.val = 3 ∧ (t.wslRt n.val).run = 1 ∧
      t.lanes.due = s.lanes.due ++ [{ beat := s.now + 1, key := 1000 + n.val, stale := true, points := [] }] ∧
      Raised [eventOf s (286 + 2 * s.get F.wslPort n.val) 0x0101 1 [(32, s.now - 1), (24, 0), (8, n.val)]] s t ∧
      RegsBut [(F.wslState, n.val), (F.raised, 286 + 2 * s.get F.wslPort n.val)] s t ∧ t.mem = s.mem) ∧
  (∀ (n : Fin 64) s, s.get F.wslPort n.val ≠ 0xFF → s.portLive (s.get F.wslPort n.val) = true → s.now ≠ 0 →
    (s.now - 1) % 4 = s.rxCadence (s.get F.wslPort n.val) → (s.wslRt n.val).judged ≠ some (s.now - 1) →
    (s.wslRt n.val).beat ≠ s.now - 1 → (s.wslRt n.val).failed = false → (s.wslRt n.val).ever = true →
    (s.wslRt n.val).run ≠ 0 → s.get F.wslStaleLimit n.val ≤ (s.wslRt n.val).run + 1 → s.serving = true →
    Does (.wslExchangeDeadline n) s fun t =>
      t.get F.wslState n.val = 4 ∧ (t.wslRt n.val).failed = true ∧
      Raised [eventOf s (286 + 2 * s.get F.wslPort n.val) 0x0102 2 [(32, s.now), (8, 0xFF), (16, 0), (8, n.val)]] s t ∧
      t.rt.errQ = s.rt.errQ ++ (s.stationsAt (1000 + n.val)).map (fun d => (d.idx, 1)) ∧ t.mem = s.mem) ∧
  (∀ (n : Fin 64) s, s.get F.wslPort n.val = 0xFF ∨ s.now = 0 → Does (.wslExchangeDeadline n) s fun t => t = s) ∧
  (∀ (p : Fin 12) s, s.portUp p.val = true ∧ s.serving = true ∧ s.now % 4 = 2 ∨ s.portDown p.val = true ∧ s.now % 4 = 3 →
    p.val ∉ s.lanes.gates → Does (.wslGateOpen p) s fun t =>
    t = { s with lanes := { s.lanes with gates := s.lanes.gates ++ [p.val] } }) ∧
  (∀ (p : Fin 12) s, s.now % 4 < 2 → Does (.wslGateOpen p) s fun t => t = s) ∧
  (∀ (p : Fin 12) n (k : Fin 64) s, p.val ∈ s.lanes.gates → s.get F.wslPort k.val = p.val →
    (∀ j, j < k.val → s.get F.wslPort j ≠ p.val) → Does (.wslGateClose p n) s fun t =>
      p.val ∉ t.lanes.gates ∧ t.get F.wslGateOverrun k.val = satAdd 32 (s.get F.wslGateOverrun k.val) n ∧
      RegsBut [(F.wslGateOverrun, k.val)] s t ∧ t = { s with regs := t.regs, lanes := { s.lanes with gates := t.lanes.gates } }) ∧
  (∀ (p : Fin 12) n s, p.val ∉ s.lanes.gates → Does (.wslGateClose p n) s fun t => t = s)

namespace Sys2Proof.Machine

/-- From `s` to `t` channel `k` has tripped (R249, R250): its group is off, OVERLOAD and TRIPPED stand on the lowest channel of
the group, DIO_OVERLOAD names the member; only those registers and the channels' own records differ. -/
def Tripped (k how : Nat) (s t : State) : Prop :=
  let lead := s.dioLead k
  t.get F.dioTripped lead = 1 ∧ t.get F.dioOverload lead = 1 ∧
  t.get F.dioOverloadCount lead = satInc 16 (s.get F.dioOverloadCount lead) ∧ (t.dio lead).trip = some s.tick ∧
  (∀ m ∈ s.dioGroup lead, (t.dio m).on = false) ∧
  Raised [eventOf s (96 + 4 * lead) 1 2 [(8, lead), (8, k), (8, how)]] s t ∧
  t = { s with regs := t.regs, ev := t.ev, loops := (s.spoilRate 2 lead).loops, field := { s.field with dios := t.field.dios } }

/-- The registers of the wire flags of every channel, with the counts of their events. -/
def wireRegs : List (Fld × Nat) :=
  (List.range 16).map (fun k => (F.dioOpenWire, k)) ++ (List.range 16).map (fun k => (F.dioExtDrive, k)) ++
  (List.range 16).map (fun k => (F.raised, 97 + 4 * k))

/-- A capture unit is in use: an encoder's, or that of a time pin in CAPTURE (R267, R320). -/
def CapOn (u : Nat) (s : State) : Prop := u < 8 ∨ s.get F.tpMode (u - 6) = 3

/-- Only the record of capture unit `u` may differ. -/
def OnlyCap (u : Nat) (s t : State) : Prop :=
  (∀ v, v ≠ u → t.cap v = s.cap v) ∧ t = { s with field := { s.field with caps := t.field.caps } }

end Sys2Proof.Machine

/-- The field side: samples in time and a converter in regulation count good beats, three of which bring a failed side back; the
third late or bad beat fails it, with a planned switch-over or SAFE; silence takes every local output to its safe state; a load
supply that moves marks its bank (R15, R242, R243, R255). -/
def Obligations.TheFieldSideFailsAndReturns : Prop :=
  (∀ s, s.field.failed = false → Does (.fieldSamplesCross true) s fun t =>
    t.get F.converter = 1 ∧ RegsBut [(F.converter, 0)] s t ∧
    t = { s with regs := t.regs, field := { s.field with late := 0, bad := 0, good := s.field.good + 1 } }) ∧
  (∀ s, s.field.failed = true → Does (.fieldSamplesCross true) s fun t =>
    t.field.failed = decide (s.field.good < 2) ∧ t.field.good = (if s.field.good < 2 then s.field.good + 1 else 0) ∧
    t = { s with regs := t.regs, field := { s.field with late := 0, bad := 0, good := t.field.good, failed := t.field.failed } }) ∧
  (∀ s, s.field.badBeat ≠ some s.now → s.field.bad < 2 → Does (.fieldSamplesCross false) s fun t =>
    t.get F.converter = 0 ∧ t.field.badBeat = some s.now ∧ t.field.good = 0 ∧ t.field.failed = s.field.failed ∧
    RegsBut [(F.converter, 0)] s t ∧ t = { s with regs := t.regs, field := t.field }) ∧
  (∀ b s, s.field.badBeat = some b → b + 1 = s.now → s.field.bad = 2 → s.field.failed = false → s.canPlan = false →
    s.serving = true → Does (.fieldSamplesCross false) s fun t =>
      t.field.failed = true ∧ t.beat.causes = s.beat.causes ++ [{ kind := .safe 7, beat := s.now, code := 1 }] ∧
      Raised [eventOf s 160 4 3 [(8, 2)]] s t ∧ t.mem = s.mem) ∧
  (∀ s, s.field.late < 2 → Does .fieldSamplesLate s fun t =>
    t = { s with field := { s.field with late := s.field.late + 1, good := 0, staleNow := true } }) ∧
  (∀ s, 2 ≤ s.field.late → s.field.failed = false → s.canPlan = true → s.pair.handover = none →
    Does .fieldSamplesLate s fun t =>
      t.field.failed = true ∧ t.pair.handover =
        some { apply := if s.beat.committed ∨ 42400 ≤ s.beat.off then s.now + 1 else s.now, cause := 7 } ∧ t.beat = s.beat ∧
      (∀ k : Fin 8, t.get F.faState k.val = if s.get F.faState k.val = 0 ∨ s.get F.faState k.val = 4 then s.get F.faState k.val else 3) ∧
      Raised [eventOf s 160 4 3 [(8, 1)]] s t ∧ t.mem = s.mem) ∧
  (∀ s, s.field.badBeat = some s.now → Does .fieldConverter s fun t =>
    t.get F.converter = 0 ∧ Raised [eventOf s 160 3 3 [(8, 1)]] s t ∧ RegsBut [(F.converter, 0), (F.raised, 160)] s t ∧
    t = { s with regs := t.regs, ev := t.ev }) ∧
  (∀ s, s.get F.driveEn = 1 → s.field.silent = false → s.field.lastUpdate + 4 * s.get F.fieldTimeoutCfg ≤ s.now →
    Does .fieldTimeout s fun t => t.field.silent = true ∧ t.get F.silent = 1 ∧ t.get F.silentCount = satInc 16 (s.get F.silentCount) ∧
    (∀ k : Fin 16, (t.dio k.val).commanded = s.dioSafe (s.dioLead k.val)) ∧
    eventOf s 160 2 3 [(32, s.field.lastUpdate)] ∈ t.ev.router ∧ t.rt = s.rt ∧ t.mem = s.mem) ∧
  (∀ s, s.get F.driveEn = 0 ∨ s.field.silent = true ∨ s.now < s.field.lastUpdate + 4 * s.get F.fieldTimeoutCfg → Does .fieldTimeout s fun t => t = s) ∧
  (∀ (n : Fin 3) s, s.get F.lbState ≠ n.val → Does (.loadSupplyChange true n) s fun t =>
    t.get F.lbState = n.val ∧
    (∀ k : Fin 8, t.get F.dioSupplyLow (8 + k.val) = if s.dioOut (8 + k.val) = true ∧ n.val ≠ 0 then 1 else 0) ∧
    Raised [eventOf s 161 1 2 [(2, s.get F.lbState), (2, n.val)]] s t ∧
    RegsBut ([(F.lbState, 0), (F.raised, 161)] ++ (List.range 8).map (fun i => (F.dioSupplyLow, 8 + i))) s t ∧
    t = { s with regs := t.regs, ev := t.ev }) ∧
  (∀ (n : Fin 3) s, s.get F.laState = n.val → Does (.loadSupplyChange false n) s fun t => t = s)

/-- Digital channels: an overload in the ramp or sustained trips the group, a retry is made at an edge 100 ms after the trip
while one is left, RETRIES_LEFT returns 1 s after it; a hot channel is off until it has cooled; open wires, external drives
and input edges are raised (R244, R247 to R251, R254). -/
def Obligations.DigitalChannelsTripAndReturn : Prop :=
  (∀ (k : Fin 16) s, s.dioDriving k.val = true → Does (.dioRampAbort k) s (Tripped k.val 0 s)) ∧
  (∀ (k : Fin 16) s, s.dioDriving k.val = false → Does (.dioRampAbort k) s fun t => t = s) ∧
  (∀ (k : Fin 16) s, s.dioDriving k.val = true → Does (.dioOverloadTrip k) s (Tripped k.val 1 s)) ∧
  (∀ (k : Fin 16) s, s.dioDriving k.val = false → Does (.dioOverloadTrip k) s fun t => t = s) ∧
  (∀ (k : Fin 16) x s, s.get F.dioTripped (s.dioLead k.val) ≠ 0 → s.get F.dioRetriesLeft (s.dioLead k.val) ≠ 0 →
    (s.dio (s.dioLead k.val)).commanded = true → (s.dio (s.dioLead k.val)).trip = some x → x + 20000000 ≤ s.now * 50000 →
    s.get F.driveEn = 1 → Does (.dioRetry k true) s fun t =>
      t.get F.dioTripped (s.dioLead k.val) = 0 ∧
      t.get F.dioRetriesLeft (s.dioLead k.val) = (s.get F.dioRetriesLeft (s.dioLead k.val) - 1) % 4 ∧
      (∀ m ∈ s.dioGroup (s.dioLead k.val), (t.dio m).commanded = true) ∧
      RegsBut ([(F.dioTripped, s.dioLead k.val), (F.dioRetriesLeft, s.dioLead k.val)] ++ wireRegs) s t ∧
      t = { s with regs := t.regs, ev := t.ev, field := { s.field with dios := t.field.dios } }) ∧
  (∀ (k : Fin 16) x s, s.get F.dioTripped (s.dioLead k.val) ≠ 0 → s.get F.dioRetriesLeft (s.dioLead k.val) ≠ 0 →
    (s.dio (s.dioLead k.val)).commanded = true → (s.dio (s.dioLead k.val)).trip = some x → x + 20000000 ≤ s.now * 50000 →
    s.get F.driveEn = 1 → Does (.dioRetry k false) s fun t => Tripped k.val 0 s t ∧
      t.get F.dioRetriesLeft (s.dioLead k.val) = (s.get F.dioRetriesLeft (s.dioLead k.val) - 1) % 4) ∧
  (∀ (k : Fin 16) ok s, s.get F.dioTripped (s.dioLead k.val) = 0 ∨ s.get F.dioRetriesLeft (s.dioLead k.val) = 0 →
    Does (.dioRetry k ok) s fun t => t = s) ∧
  (∀ (k : Fin 16) x s, (s.dio (s.dioLead k.val)).trip = some x → x + 200000000 ≤ s.tick → Does (.dioRetriesRestore k) s fun t =>
    t.get F.dioRetriesLeft (s.dioLead k.val) = s.get F.retry (s.dioLead k.val) % 4 ∧
    RegsBut [(F.dioRetriesLeft, s.dioLead k.val)] s t ∧ t = { s with regs := t.regs }) ∧
  (∀ (k : Fin 16) s, (s.dio (s.dioLead k.val)).trip = none → Does (.dioRetriesRestore k) s fun t => t = s) ∧
  (∀ (k : Fin 16) b s, Does (.dioOverloadClear k b) s fun t =>
    t.get F.dioOverload (s.dioLead k.val) = 0 ∧ t.get F.dioTripped (s.dioLead k.val) = 0 ∧ t.get F.dioOverload k.val = 0 ∧
    t.get F.dioTripped k.val = 0 ∧ RegsBut [(F.dioOverload, s.dioLead k.val), (F.dioTripped, s.dioLead k.val),
      (F.dioOverload, k.val), (F.dioTripped, k.val)] s t ∧ t = { s with regs := t.regs }) ∧
  (∀ (k : Fin 16) s, s.dioOut k.val = true → Does (.dioOvertemp k) s fun t =>
    t.get F.dioOvertemp (s.dioLead k.val) = 1 ∧ (t.dio k.val).hot = true ∧ (t.dio k.val).on = false ∧
    (∀ m ∈ s.dioGroup (s.dioLead k.val), (t.dio m).on = false) ∧
    Raised [eventOf s (98 + 4 * s.dioLead k.val) 1 2 [(8, k.val)]] s t ∧
    RegsBut [(F.dioOvertemp, s.dioLead k.val), (F.dioThermalCount, s.dioLead k.val), (F.raised, 98 + 4 * s.dioLead k.val)] s t ∧
    t = { s with regs := t.regs, ev := t.ev, loops := (s.spoilRate 2 (s.dioLead k.val)).loops
                 field := { s.field with dios := t.field.dios } }) ∧
  (∀ (k : Fin 16) s, s.dioOut k.val = false → Does (.dioOvertemp k) s fun t => t = s) ∧
  (∀ (k : Fin 16) s, (s.dio k.val).hot = true → Does (.dioCooled k) s fun t =>
    (t.dio k.val).hot = false ∧ RegsBut wireRegs s t ∧
    t = { s with regs := t.regs, ev := t.ev, field := { s.field with dios := t.field.dios } }) ∧
  (∀ (k : Fin 16) s, (s.dio k.val).hot = false → Does (.dioCooled k) s fun t => t = s) ∧
  (∀ (k : Fin 16) onset s, s.wireSeen (s.dioLead k.val) false = true → s.flag F.dioOpenWire (s.dioLead k.val) = !onset →
    Does (.dioWire k false onset) s fun t =>
      t.get F.dioOpenWire (s.dioLead k.val) = (if onset then 1 else 0) ∧
      Raised [eventOf s (97 + 4 * s.dioLead k.val) 1 1 [(8, s.dioLead k.val), (8, 0), (8, if onset then 0 else 1)]] s t ∧
      RegsBut [(F.dioOpenWire, s.dioLead k.val), (F.raised, 97 + 4 * s.dioLead k.val)] s t ∧
      t = { s with regs := t.regs, ev := t.ev, loops := if onset then (s.spoilRate 2 k.val).loops else s.loops }) ∧
  (∀ (k : Fin 16) onset s, s.wireSeen (s.dioLead k.val) true = false → Does (.dioWire k true onset) s fun t => t = s) ∧
  (∀ (k : Fin 16) r n s, s.dioOut k.val = false → s.get F.pulsed k.val ≠ 1 → Does (.dioEdge k r n) s fun t =>
    t.get F.dioEdgeCount k.val = (if r then satInc 32 (s.get F.dioEdgeCount k.val) else s.get F.dioEdgeCount k.val) ∧
    Raised [eventOf s (99 + 4 * k.val) 1 0 [(8, k.val), (8, if r then 0 else 1), (32, n * 5)]] s t ∧
    RegsBut [(F.dioEdgeCount, k.val), (F.raised, 99 + 4 * k.val)] s t ∧ t = { s with regs := t.regs, ev := t.ev }) ∧
  (∀ (k : Fin 16) r n s, s.dioOut k.val = true → Does (.dioEdge k r n) s fun t => t = s)

/-- Analog ports, encoders and capture units: each fault of a port sets its flag, drives what R260 says and is raised; COUNT
moves by the step of its mode, an illegal transition and a reference act as R263 and R264 say; a preset waits for the edge;
results, orphan stops and timeouts of a capture unit are queued and counted (R258 to R269, R320). -/
def Obligations.AnalogPortsEncodersAndCaptures : Prop :=
  (∀ (k : Fin 4) x s, (s.ao k.val).target = some x → s.flag F.aoOpenLoop k.val = false → Does (.aoOpenLoop k) s fun t =>
    t.get F.aoOpenLoop k.val = 1 ∧ t.ao k.val = { s.ao k.val with back := 0 } ∧
    Raised [eventOf s (162 + 3 * k.val) 1 2 [(8, k.val), (32, x)],
      restOf s (162 + 3 * k.val) 1 2 [(32, s.get F.aoReadback k.val)]] s t ∧
    RegsBut [(F.aoOpenLoop, k.val), (F.raised, 162 + 3 * k.val)] s t ∧
    t = { s with regs := t.regs, ev := t.ev, field := { s.field with aos := t.field.aos } }) ∧
  (∀ (k : Fin 4) s, (s.ao k.val).target = none → Does (.aoOpenLoop k) s fun t => t = s) ∧
  (∀ (k : Fin 4) v s, s.flag F.aoMiswire k.val = false → Does (.aoMiswire k v) s fun t =>
    t.get F.aoMiswire k.val = 1 ∧ t.get F.aoFailing k.val = 0 ∧ t.ao k.val = { s.ao k.val with target := none } ∧
    Raised [eventOf s (163 + 3 * k.val) 1 2 [(8, k.val), (32, v)]] s t ∧
    RegsBut [(F.aoMiswire, k.val), (F.aoFailing, k.val), (F.raised, 163 + 3 * k.val)] s t ∧
    t = { s with regs := t.regs, ev := t.ev, field := { s.field with aos := t.field.aos } }) ∧
  (∀ (k : Fin 4) v s, s.flag F.aoMiswire k.val = true → Does (.aoMiswire k v) s fun t => t = s) ∧
  (∀ (k : Fin 4) s, s.flag F.aoMiswire k.val = true → s.field.silent = false → s.get F.mode = 3 → s.get F.driveEn = 1 →
    s.get F.aoMode k.val ≠ 0 → s.flag F.aoReadbackFault k.val = false → f32Bad (s.ao k.val).percent = false →
    Does (.aoMiswireClear k) s fun t =>
      t.get F.aoMiswire k.val = 0 ∧ t.get F.aoFailing k.val = 0 ∧
      t.ao k.val = { s.ao k.val with target := some (aoCurrent (s.ao k.val).percent) } ∧
      RegsBut [(F.aoMiswire, k.val), (F.aoFailing, k.val)] s t ∧
      t = { s with regs := t.regs, field := { s.field with aos := t.field.aos } }) ∧
  (∀ (k : Fin 4) s, s.flag F.aoMiswire k.val = false → Does (.aoMiswireClear k) s fun t => t = s) ∧
  (∀ (k : Fin 4) ma x s, (s.ao k.val).target = some x → s.flag F.aoOpenLoop k.val = false → s.flag F.aoMiswire k.val = false →
    s.flag F.aoReadbackFault k.val = false → Does (.aoReadback k ma) s fun t =>
      t.get F.aoReadbackFault k.val = 1 ∧ t.get F.aoFailing k.val = 1 ∧ t.get F.aoReadback k.val = ma % 2 ^ 32 ∧
      t.ao k.val = { s.ao k.val with target := some (s.aoFail k.val) } ∧
      Raised [eventOf s (164 + 3 * k.val) 1 2 [(8, k.val), (32, x)], restOf s (164 + 3 * k.val) 1 2 [(32, ma)]] s t ∧
      t = { s with regs := t.regs, ev := t.ev, field := { s.field with aos := t.field.aos } }) ∧
  (∀ (k : Fin 4) ma s, s.flag F.aoReadbackFault k.val = true → Does (.aoReadback k ma) s fun t => t = s) ∧
  (∀ (k : Fin 4) s, Does (.aoHeadroomLow k) s fun t =>
    (t.get F.aoHeadroomLow k.val = if s.get F.aoMode k.val = 2 then 1 else s.get F.aoHeadroomLow k.val) ∧
    RegsBut [(F.aoHeadroomLow, k.val)] s t ∧ t = { s with regs := t.regs }) ∧
  (∀ (k : Fin 4) a b c d s, 2 < s.get F.encMode k.val ∨ a = c ∨ b = d → Does (.encCountStep k a b c d) s fun t =>
    t.get F.encCount k.val = ofSigned 64 (toSigned 64 (s.get F.encCount k.val) + encStep (s.get F.encMode k.val) a b c d) % 2 ^ 64 ∧
    RegsBut [(F.encCount, k.val)] s t ∧ t = { s with regs := t.regs }) ∧
  (∀ (k : Fin 4) a b s, s.get F.encMode k.val ≤ 2 → Does (.encCountStep k a b (!a) (!b)) s fun t =>
    t.get F.encUncertain k.val = 1 ∧ t.get F.encIllegalCount k.val = satInc 16 (s.get F.encIllegalCount k.val) ∧
    Raised [eventOf s (174 + 4 * k.val) 1 1 [(32, k.val), (16, satInc 16 (s.get F.encIllegalCount k.val))]] s t ∧
    RegsBut [(F.encUncertain, k.val), (F.encIllegalCount, k.val), (F.raised, 174 + 4 * k.val)] s t ∧
    t = { s with regs := t.regs, ev := t.ev, loops := (s.spoilRate 1 k.val).loops }) ∧
  (∀ (k : Fin 4) s, s.get F.encMode k.val ≤ 2 → Does (.encIllegal k) s fun t =>
    t.get F.encUncertain k.val = 1 ∧ t.get F.encCount k.val = s.get F.encCount k.val ∧
    Raised [eventOf s (174 + 4 * k.val) 1 1 [(32, k.val), (16, satInc 16 (s.get F.encIllegalCount k.val))]] s t ∧
    RegsBut [(F.encUncertain, k.val), (F.encIllegalCount, k.val), (F.raised, 174 + 4 * k.val)] s t ∧
    t = { s with regs := t.regs, ev := t.ev, loops := (s.spoilRate 1 k.val).loops }) ∧
  (∀ (k : Fin 4) s, 2 < s.get F.encMode k.val → Does (.encIllegal k) s fun t => t = s) ∧
  (∀ (k : Fin 4) a b d s, s.get F.zMode k.val = 2 → s.get F.zGate k.val = 0 ∨ a = true ∧ b = true → Does (.encZ k a b d false) s fun t =>
    t.get F.encCount k.val = 0 ∧ t.get F.encLastZCount k.val = s.get F.encCount k.val % 2 ^ 64 ∧ t.get F.encZSeen k.val = 1 ∧
    t.get F.encUncertain k.val = 0 ∧ Raised [eventOf s (175 + 4 * k.val) 1 0 [(32, k.val), (32, s.get F.encCount k.val)]] s t ∧
    RegsBut [(F.encCount, k.val), (F.encLastZCount, k.val), (F.encZSeen, k.val), (F.encUncertain, k.val),
      (F.raised, 175 + 4 * k.val)] s t ∧ t = { s with regs := t.regs, ev := t.ev }) ∧
  (∀ (k : Fin 4) a b d i s, s.get F.zMode k.val = 0 → Does (.encZ k a b d i) s fun t =>
    t.get F.encCount k.val = ofSigned 64 (toSigned 64 (s.get F.encCount k.val) + d) % 2 ^ 64 ∧
    RegsBut [(F.encCount, k.val)] s t ∧ t = { s with regs := t.regs }) ∧
  (∀ (k : Fin 4) (l : Fin 3) s, s.get F.encLine k.val = 0 → Does (.encLineFault k l) s fun t =>
    t.get F.encLineFault k.val = 1 ∧ Raised [eventOf s (177 + 4 * k.val) 1 2 [(32, k.val), (32, l.val)]] s t ∧
    RegsBut [(F.encLineFault, k.val), (F.raised, 177 + 4 * k.val)] s t ∧ t = { s with regs := t.regs, ev := t.ev }) ∧
  (∀ (k : Fin 4) (l : Fin 3) s, s.get F.encLine k.val ≠ 0 → Does (.encLineFault k l) s fun t => t = s) ∧
  (∀ (k : Fin 4) v s, Does (.countPreset k v) s fun t => t = { s with field := { s.field with
    presets := s.field.presets.filter (fun p => p.1 != k.val) ++ [(k.val, v % 2 ^ 64)] } }) ∧
  (∀ (u : Fin 10) b n s, CapOn u.val s → s.capGet F.capMode F.tcapMode u.val = 1 → s.capGet F.startSrc F.tcapStartSrc u.val ≠ 0 →
    (s.cap u.val).queue.length < 16 → Does (.captureEvent u true b n) s fun t =>
      t.cap u.val = { s.cap u.val with queue := (s.cap u.val).queue ++
        [{ time := n / 5 * 5, val := if u.val < 8 then s.get F.encCount (u.val / 2) else 0 }] } ∧ OnlyCap u.val s t) ∧
  (∀ (u : Fin 10) x n s, CapOn u.val s → s.capGet F.capMode F.tcapMode u.val = 2 →
    s.capGet F.startSrc F.tcapStartSrc u.val ≠ s.capGet F.stopSrc F.tcapStopSrc u.val →
    s.capGet F.stopSrc F.tcapStopSrc u.val ≠ 0 → (s.cap u.val).start = some x → (s.cap u.val).queue.length < 16 →
    Does (.captureEvent u false true n) s fun t =>
      t.cap u.val = { s.cap u.val with start := none, queue := (s.cap u.val).queue ++ [capInterval x (n / 5 * 5)] } ∧
      OnlyCap u.val s t) ∧
  (∀ (u : Fin 8) b n s, s.get F.capMode u.val = 1 → s.get F.startSrc u.val ≠ 0 → 16 ≤ (s.cap u.val).queue.length →
    Does (.captureEvent ⟨u.val, by omega⟩ true b n) s fun t =>
      t.get F.capOverrun u.val = satInc 32 (s.get F.capOverrun u.val) ∧ RegsBut [(F.capOverrun, u.val)] s t ∧
      t = { s with regs := t.regs }) ∧
  (∀ (u : Fin 8) n s, s.get F.capMode u.val = 2 → s.get F.startSrc u.val ≠ s.get F.stopSrc u.val → s.get F.stopSrc u.val ≠ 0 →
    (s.cap u.val).start = none → Does (.captureEvent ⟨u.val, by omega⟩ false true n) s fun t =>
      t.get F.orphanStop u.val = satInc 32 (s.get F.orphanStop u.val) ∧ RegsBut [(F.orphanStop, u.val)] s t ∧
      t = { s with regs := t.regs }) ∧
  (∀ (u : Fin 10) a b n s, s.capGet F.capMode F.tcapMode u.val = 0 → Does (.captureEvent u a b n) s fun t => t = s) ∧
  (∀ (u : Fin 8) x s, (s.cap u.val).start = some x → x + 1000000 * s.get F.intervalTimeout u.val < 5 * s.tick →
    Does (.captureIntervalTimeout ⟨u.val, by omega⟩) s fun t => t.cap u.val = { s.cap u.val with start := none } ∧ t.get F.capTimeout u.val = satInc 32 (s.get F.capTimeout u.val) ∧
    RegsBut [(F.capTimeout, u.val)] s t ∧ t = { s with regs := t.regs, field := { s.field with caps := t.field.caps } }) ∧
  (∀ (u : Fin 10) s, (s.cap u.val).start = none ∨ (∃ x, (s.cap u.val).start = some x ∧
    5 * s.tick ≤ x + 1000000 * s.capGet F.intervalTimeout F.tcapIntervalTimeout u.val) →
    Does (.captureIntervalTimeout u) s fun t => t = s)

/-- The filter lanes: a running lane takes each sample with its value and UNSETTLED, counts down the settling and is settled
with FA_SETTLED; a restart that is due starts from zero state; a fault stops the lane, the third within 60 s for good, and a
reload restarts it with a gap (R285 to R297). -/
def Obligations.FilterLanesSettleAndFault : Prop :=
  (∀ (k : Fin 8) x s, s.get F.faEnable k.val ≠ 0 → s.get F.faState k.val = 1 ∨ s.get F.faState k.val = 2 → s.field.failed = false →
    Does (.faSampleDeliver k x) s fun t =>
      t.get F.unsettledLeft k.val = (s.get F.unsettledLeft k.val - 1) % 2 ^ 16 ∧
      (t.get F.faState k.val = if s.get F.unsettledLeft k.val = 0 ∧ s.get F.faState k.val = 1 then 2 else s.get F.faState k.val) ∧
      (t.fa k.val).since = (s.fa k.val).since + 1 ∧ (t.fa k.val).firstBlock = false ∧
      (t.fa k.val).now.value = toF32 (faValue (s.fa k.val).range x.count) ∧
      (t.fa k.val).now.q = (if s.get F.unsettledLeft k.val = 0 then 0 else 8) ∧
      RegsBut [(F.unsettledLeft, k.val), (F.faState, k.val), (F.faOverrange, k.val), (F.overrangeCount, k.val), (F.faLimit, k.val),
        (F.raised, 190 + 4 * k.val), (F.raised, 192 + 4 * k.val), (F.raised, 193 + 4 * k.val)] s t ∧
      t = { s with regs := t.regs, ev := t.ev, field := { s.field with fas := t.field.fas } }) ∧
  (∀ (k : Fin 8) x s, s.get F.faEnable k.val = 0 ∨ s.get F.faState k.val = 3 ∨ s.field.failed = true →
    Does (.faSampleDeliver k x) s fun t => t = s) ∧
  (∀ (k : Fin 8) s, (s.fa k.val).due = true → (s.fa k.val).dueAt < s.now → s.get F.faEnable k.val ≠ 0 → s.get F.faState k.val ≠ 4 → Does (.faChainRestart k) s fun t =>
    t.get F.faState k.val = 1 ∧ t.get F.unsettledLeft k.val = (15 + s.get F.firTaps k.val) % 2 ^ 16 ∧
    t.get F.faCfgSeq k.val = (s.get F.faCfgSeq k.val + 1) % 256 ∧ (t.fa k.val).samples = [] ∧ (t.fa k.val).due = false ∧
    (t.fa k.val).gap = false ∧ (t.fa k.val).taps = s.get F.firTaps k.val ∧
    t = { s with regs := t.regs, field := { s.field with fas := t.field.fas } }) ∧
  (∀ (k : Fin 8) s, (s.fa k.val).due = false ∨ s.now ≤ (s.fa k.val).dueAt → Does (.faChainRestart k) s fun t => t = s) ∧
  (∀ (k : Fin 8) n s, s.get F.faEnable k.val ≠ 0 → s.get F.faState k.val ≠ 0 → s.get F.faState k.val ≠ 4 →
    Does (.faLaneFault k n) s fun t =>
      (t.get F.faState k.val = if 2 ≤ ((s.fa k.val).faults.filter (fun b => decide (s.beat.opBeats < b + 240000))).length then 4 else 3) ∧
      t.get F.faFaultCount k.val = satInc 32 (s.get F.faFaultCount k.val) ∧ s.beat.opBeats ∈ (t.fa k.val).faults ∧
      Raised [eventOf s (191 + 4 * k.val) 1 2 [(8, n), (8, t.get F.faState k.val)]] s t ∧
      RegsBut [(F.faState, k.val), (F.faFaultCount, k.val), (F.raised, 191 + 4 * k.val), (F.lanesEnabled, 0), (F.lanesFault, 0)] s t ∧
      t = { s with regs := t.regs, ev := t.ev, field := { s.field with fas := t.field.fas } }) ∧
  (∀ (k : Fin 8) n s, s.get F.faEnable k.val = 0 ∨ s.get F.faState k.val = 0 → Does (.faLaneFault k n) s fun t => t = s) ∧
  (∀ (k : Fin 8) s, s.get F.faState k.val = 3 → s.get F.faEnable k.val ≠ 0 → Does (.faLaneReload k) s fun t =>
    t.get F.faState k.val = 1 ∧ (t.fa k.val).samples = [] ∧ (t.fa k.val).gap = true ∧
    t = { s with regs := t.regs, field := { s.field with fas := t.field.fas } }) ∧
  (∀ (k : Fin 8) s, s.get F.faState k.val ≠ 3 → Does (.faLaneReload k) s fun t => t = s)

namespace Sys2Proof.Machine

/-- The registers that PORT_STATE of the ports reaches: its value on each port and the count of its event. -/
def portRegs : List (Fld × Nat) :=
  (List.range 12).map (fun k => (F.portState, k)) ++ (List.range 12).map (fun k => (F.raised, 286 + 2 * k))

/-- Pin `p` has pulsed from `t0` on (ns) for its width: counted, and its last pulse stands. -/
def Pulsed (p t0 : Nat) (s t : State) : Prop :=
  t.get F.tpPulses p = satInc 32 (s.get F.tpPulses p) ∧ (t.pin p).last = t0 ∧
  (t.pin p).pulseEnd = t0 + s.get F.tpWidth p * 5

end Sys2Proof.Machine

/-- The servo steers by the Syncs of its selected, qualified grandmaster: ALIGNED while the offset stays small, SLEWING
after four over 50 ns, a step over 10 ms; a module that follows its partner only reports a disagreement. The grandmaster is
the first one announced until it changes or is lost; ALIGNED then becomes HOLDOVER, and TIME_LOCKED drops with its bound
(R26, R27, R304 to R313). -/
def Obligations.TheServoFollowsItsGrandmaster : Prop :=
  (∀ (k : Fin 12) g d raw s, d ≠ s.get F.ptpDomain ∨ s.time.gm ≠ some g ∨ s.isSource k.val = false →
    Does (.ptpSyncReceive k g raw d) s fun t => t = s) ∧
  (∀ (k : Fin 12) g raw off s, off = s.syncOffset k.val raw → s.time.gm = some g → s.isSource k.val = true → s.time.firstSync = true → s.time.measured = true →
    8 ≤ s.time.count → s.get F.pairSource = 0 → s.get F.align = 2 → absI off ≤ 50 → Does (.ptpSyncReceive k g raw (s.get F.ptpDomain)) s fun t =>
      t.get F.align = 2 ∧ t.get F.ownOffset = ofSigned 32 off % 2 ^ 32 ∧ t.get F.edgeOffset = ofSigned 32 off % 2 ^ 32 ∧
      t.time.lastSync = s.beat.opBeats ∧ t.time.off50 = 0 ∧
      RegsBut [(F.ownOffset, 0), (F.edgeOffset, 0), (F.rate, 0)] s t ∧
      t = { s with regs := t.regs, time := t.time, free := s.free + 1, beat := { s.beat with stepOffset := off } }) ∧
  (∀ (k : Fin 12) g raw off s, off = s.syncOffset k.val raw → s.time.gm = some g → s.isSource k.val = true → s.time.firstSync = true → s.time.measured = true →
    8 ≤ s.time.count → s.get F.pairSource = 0 → s.get F.align = 2 → 50 < absI off → absI off ≤ 10000000 → s.time.off50 = 3 →
    Does (.ptpSyncReceive k g raw (s.get F.ptpDomain)) s fun t =>
      t.get F.align = 1 ∧ t.get F.timeLocked = 0 ∧ t.get F.stepPending = 0 ∧ t.beat.stepOffset = off ∧ t.mem = s.mem) ∧
  (∀ (k : Fin 12) g raw off s, off = s.syncOffset k.val raw → s.time.gm = some g → s.isSource k.val = true → s.time.firstSync = true → s.time.measured = true →
    s.time.count = 7 → 2 * (s.beat.opBeats - s.time.lastRx) ≤ 3 * s.syncBeats → s.get F.pairSource = 0 →
    Does (.ptpSyncReceive k g raw (s.get F.ptpDomain)) s fun t =>
      t.get F.gmPresent = 1 ∧ t.time.count = 8 ∧ t.time.lastSync = s.beat.opBeats ∧
      (absI off ≤ 50 → t.get F.align = 2 ∧ t.get F.timeLocked = 1 ∧
        RaisedLast [eventOf t 313 1 0 [(32, s.now), (32, absI off)]] s t) ∧
      (50 < absI off → absI off ≤ 10000000 → t.get F.align = 1 ∧ t.get F.timeLocked = 0) ∧
      (10000000 < absI off → t.get F.align = 0 ∧ t.get F.timeLocked = 0 ∧ t.get F.stepPending = 1)) ∧
  (∀ (k : Fin 12) g raw off s, off = s.syncOffset k.val raw → s.time.gm = some g → s.isSource k.val = true → s.time.firstSync = true → s.time.measured = true →
    8 ≤ s.time.count → s.get F.pairSource = 1 → s.time.disagree = 15 → 200 < absI off → Does (.ptpSyncReceive k g raw (s.get F.ptpDomain)) s fun t =>
      Raised [eventOf s 316 1 2 [(32, ofSigned 32 off)]] s t ∧ t.time.disagree = 16 ∧
      RegsBut [(F.ownOffset, 0), (F.raised, 316)] s t ∧ t = { s with regs := t.regs, ev := t.ev, time := t.time }) ∧
  (∀ (k : Fin 12) g raw s, s.time.gm = some g → s.isSource k.val = true → Does (.delayExchangeComplete k g raw) s fun t =>
    t.get F.pathDelay = s.delayOf k.val raw % 2 ^ 32 ∧ t.time = { s.time with measured := s.time.measured || s.time.firstSync } ∧
    RegsBut [(F.pathDelay, 0), (F.peerDelay, k.val)] s t ∧ t = { s with regs := t.regs, time := t.time }) ∧
  (∀ (k : Fin 12) g raw s, s.time.gm ≠ some g → s.get F.ptpProfile = 1 → s.get F.ptpRole k.val ≠ 0 →
    Does (.delayExchangeComplete k g raw) s fun t =>
      t.get F.peerDelay k.val = s.delayOf k.val raw % 2 ^ 32 ∧ RegsBut [(F.peerDelay, k.val)] s t ∧ t = { s with regs := t.regs }) ∧
  (∀ a s, a.domain = s.get F.ptpDomain → s.sourceRole a.port.val = true → a.port.val ∉ s.time.linkDown → s.time.gm = none →
    Does (.announceReceive a) s fun t =>
      t.time.gm = some a.gm ∧ t.get F.gmIdentity = a.gm % 2 ^ 64 ∧ t.get F.sourcePort = a.port.val ∧ a ∈ t.time.announces ∧
      t.time.count = 0 ∧ RegsBut ([(F.gmIdentity, 0), (F.sourcePort, 0)] ++ portRegs) s t) ∧
  (∀ a g s, a.domain = s.get F.ptpDomain → s.sourceRole a.port.val = true → a.port.val ∉ s.time.linkDown → s.time.gm = some g →
    Does (.announceReceive a) s fun t =>
      a ∈ t.time.announces ∧ t.time.lastAnn = (if a.gm = g then s.beat.opBeats else s.time.lastAnn) ∧
      t = { s with time := { s.time with announces := t.time.announces, lastAnn := t.time.lastAnn } }) ∧
  (∀ a s, a.domain ≠ s.get F.ptpDomain ∨ s.sourceRole a.port.val = false → Does (.announceReceive a) s fun t => t = s) ∧
  (∀ g (k : Fin 12) old s, s.time.gm = some old → old ≠ g → Does (.gmChange g k) s fun t =>
    t.time.gm = some g ∧ t.get F.gmIdentity = g % 2 ^ 64 ∧ t.get F.sourcePort = k.val ∧ t.get F.gmPresent = 0 ∧
    t.get F.gmChanges = satInc 16 (s.get F.gmChanges) ∧
    (∃ l, t.ev.router = s.ev.router ++ [eventOf s 310 1 1 [(64, old)], restOf s 310 1 1 [(64, g)],
      eventOf s 311 1 2 [(64, old)], restOf s 311 1 2 [(8, 3)]] ++ l) ∧
    (s.get F.pairSource = 0 → s.get F.align = 2 → t.get F.align = 3) ∧ t.mem = s.mem) ∧
  (∀ g (k : Fin 12) s, s.time.gm = some g → Does (.gmChange g k) s fun t => t = s) ∧
  (∀ c g s, s.time.gm = some g → s.gmSilent c = true → Does (.gmLost c) s fun t =>
    t.time.gm = none ∧ t.get F.gmPresent = 0 ∧ t.get F.gmIdentity = 0 ∧ t.get F.sourcePort = 15 ∧ (∀ a ∈ t.time.announces, a.gm ≠ g) ∧
    (∃ l, t.ev.router = s.ev.router ++ [eventOf s 311 1 2 [(64, g)], restOf s 311 1 2 [(8, c)]] ++ l) ∧
    (s.get F.pairSource = 0 → s.get F.align = 2 → t.get F.align = 3 ∧ RaisedLast [eventOf t 312 1 2 [(32, s.now)]] s t) ∧
    (s.get F.pairSource = 0 → s.get F.align = 1 → t.get F.align = 0) ∧ t.mem = s.mem) ∧
  (∀ c s, s.time.gm = none ∨ s.gmSilent c = false → Does (.gmLost c) s fun t => t = s) ∧
  (∀ s, s.get F.align = 3 → s.get F.timeLocked = 1 → Does .timeLockLost s fun t =>
    t.get F.timeLocked = 0 ∧ t.get F.holdoverBound = boundNs s.sinceSync % 2 ^ 32 ∧
    RaisedLast [eventOf t 314 1 2 [(32, s.now), (32, boundNs s.sinceSync)]] s t ∧
    RegsBut ([(F.timeLocked, 0), (F.holdoverBound, 0), (F.raised, 314)] ++ portRegs) s t ∧ t = { s with regs := t.regs, ev := t.ev }) ∧
  (∀ s, s.get F.align ≠ 3 → Does .timeLockLost s fun t => t = s)

/-- The ports carry what passes through: a received error is counted and raised at most once in 10 s; a ring pair adds the
residence time, and under profile 1 the peer delay, to what it forwards, drops it without link, and leaves an IPv6 message
without trailer uncorrected; a port without link hears no grandmaster (R308 to R311, R508). -/
def Obligations.PtpPortsForwardAndCount : Prop :=
  (∀ (k : Fin 12) s, valAt s.time.rxRaised k.val = none → Does (.ptpRxError k) s fun t =>
    t.get F.rxFcs k.val = satInc 32 (s.get F.rxFcs k.val) ∧
    Raised [eventOf s (287 + 2 * k.val) 1 1 [(8, k.val), (32, satInc 32 (s.get F.rxFcs k.val))]] s t ∧
    RegsBut [(F.rxFcs, k.val), (F.raised, 287 + 2 * k.val)] s t ∧
    t = { s with regs := t.regs, ev := t.ev, time := { s.time with rxRaised := t.time.rxRaised } }) ∧
  (∀ (k : Fin 12) x s, valAt s.time.rxRaised k.val = some x → s.beat.opBeats < x + 40000 → Does (.ptpRxError k) s fun t =>
    t.get F.rxFcs k.val = satInc 32 (s.get F.rxFcs k.val) ∧ RegsBut [(F.rxFcs, k.val)] s t ∧ t = { s with regs := t.regs }) ∧
  (∀ (k : Fin 12) v6 tr (c i e : Int) s, s.quiet = false → s.get F.ptpRole k.val = 4 → s.get F.ptpRole (ringMate k.val) = 4 →
    ringMate k.val ∉ s.time.linkDown → v6 = false ∨ tr = true → Does (.ptpForward k v6 tr c i e) s fun t =>
      t = { s with time := { s.time with forwarded := some { port := ringMate k.val, correction :=
        c + ((e + s.txCorr (ringMate k.val)) - (i + s.rxCorr k.val)) + (if s.get F.ptpProfile = 1 then (s.get F.peerDelay k.val : Int) else 0) } } }) ∧
  (∀ (k : Fin 12) (c i e : Int) s, s.quiet = false → s.get F.ptpRole k.val = 4 → s.get F.ptpRole (ringMate k.val) = 4 →
    ringMate k.val ∉ s.time.linkDown → Does (.ptpForward k true false c i e) s fun t =>
      t.time.forwarded = some { port := ringMate k.val, correction := c } ∧
      t.get F.tcUncorrected k.val = satInc 32 (s.get F.tcUncorrected k.val) ∧
      (valAt s.time.tcRaised k.val = none →
        Raised [eventOf s 317 1 1 [(8, k.val), (32, satInc 32 (s.get F.tcUncorrected k.val))]] s t) ∧
      (∀ x, valAt s.time.tcRaised k.val = some x → s.beat.opBeats < x + 40000 → t.ev = s.ev) ∧
      RegsBut [(F.tcUncorrected, k.val), (F.raised, 317)] s t ∧ t = { s with regs := t.regs, ev := t.ev, time := t.time }) ∧
  (∀ (k : Fin 12) v6 tr (c i e : Int) s, s.quiet = false → s.get F.ptpRole k.val = 4 → s.get F.ptpRole (ringMate k.val) = 4 →
    ringMate k.val ∈ s.time.linkDown → Does (.ptpForward k v6 tr c i e) s fun t =>
      t = { s with time := { s.time with forwarded := none } }) ∧
  (∀ (k : Fin 12) v6 tr (c i e : Int) s, s.quiet = true ∨ s.get F.ptpRole k.val ≠ 4 ∨ s.get F.ptpRole (ringMate k.val) ≠ 4 →
    Does (.ptpForward k v6 tr c i e) s fun t => t = s) ∧
  (∀ (k : Fin 12) s, Does (.ethLinkChange k false) s fun t =>
    k.val ∈ t.time.linkDown ∧ (∀ a ∈ t.time.announces, a.port ≠ k) ∧ (∀ f, t.time.forwarded = some f → f.port ≠ k.val) ∧
    (s.get F.ptpRole k.val ≠ 0 → t.get F.portState k.val = 2) ∧ RegsBut ((F.sourcePort, 0) :: portRegs) s t ∧
    t = { s with regs := t.regs, ev := t.ev, time := t.time }) ∧
  (∀ (k : Fin 12) s, Does (.ethLinkChange k true) s fun t =>
    k.val ∉ t.time.linkDown ∧ t.time.announces = s.time.announces ∧ RegsBut portRegs s t ∧
    t = { s with regs := t.regs, ev := t.ev, time := t.time })

/-- The time pins: PPS in is measured and its loss raised once, PPS out pulses at the integer second unless gated, CHIME
pulses on its grid, RIMSHOT once at its time, and an event pulses its pin or is merged into the pulse in progress (R315 to
R321). -/
def Obligations.TimePinsPulse : Prop :=
  (∀ off s, Does (.ppsEdge off) s fun t =>
    t.get F.ppsOffset = ofSigned 32 (toSecond (s.now * 250000 + off * 5)) ∧ t.get F.ppsInOk = 1 ∧
    t.time = { s.time with ppsLast := s.now * 250000 + off * 5 } ∧ t.get F.tpPulses 0 = satInc 32 (s.get F.tpPulses 0) ∧
    Raised [eventOf s 323 1 0 [(32, ofSigned 32 (toSecond (s.now * 250000 + off * 5)))]] s t ∧
    RegsBut [(F.ppsOffset, 0), (F.ppsInOk, 0), (F.tpPulses, 0), (F.raised, 323)] s t ∧
    t = { s with regs := t.regs, ev := t.ev, time := t.time }) ∧
  (∀ s, s.get F.ppsInOk = 1 → s.time.ppsLast + 2000000000 ≤ s.nowNs → Does .ppsLost s fun t =>
    t.get F.ppsInOk = 0 ∧ Raised [eventOf s 322 1 2 [(32, instant (s.time.ppsLast : Int) s.now)]] s t ∧
    RegsBut [(F.ppsInOk, 0), (F.raised, 322)] s t ∧ t = { s with regs := t.regs, ev := t.ev }) ∧
  (∀ s, s.get F.ppsInOk = 0 ∨ s.nowNs < s.time.ppsLast + 2000000000 → Does .ppsLost s fun t => t = s) ∧
  (∀ s, s.now % 4000 = 0 → s.pinsDriven = true → s.get F.ppsOutGate = 0 ∨ s.get F.timeLocked = 1 → s.time.ppsGated = false →
    Does .ppsOutPulse s fun t => Pulsed 1 (s.now * 250000) s t ∧ t.get F.ppsOutOn = 1 ∧
      RegsBut [(F.ppsOutOn, 0), (F.tpPulses, 1)] s t ∧ t = { s with regs := t.regs, time := t.time }) ∧
  (∀ s, s.now % 4000 = 0 → s.pinsDriven = true → s.get F.ppsOutGate = 1 → s.get F.timeLocked = 0 → s.time.ppsGated = false →
    Does .ppsOutPulse s fun t =>
      t.get F.ppsOutOn = 0 ∧ t.time = { s.time with ppsGated := true } ∧ Raised [eventOf s 324 1 1 [(8, 1)]] s t ∧
      RegsBut [(F.ppsOutOn, 0), (F.raised, 324)] s t ∧ t = { s with regs := t.regs, ev := t.ev, time := t.time }) ∧
  (∀ s, s.now % 4000 ≠ 0 ∨ s.pinsDriven = false → Does .ppsOutPulse s fun t => t = s) ∧
  (∀ (n : Fin 2) g s, s.pinsDriven = true → s.get F.tpMode (2 + n.val) = 1 → (s.pin (2 + n.val)).starts = none →
    (s.pin (2 + n.val)).grid = some g →
    g.nextAt (max (s.now * 250000) ((s.pin (2 + n.val)).last + 1)) < (s.now + 1) * 250000 → Does (.chimePulse n) s fun t =>
      t.get F.tpPulses (2 + n.val) = satInc 32 (s.get F.tpPulses (2 + n.val)) ∧
      (t.pin (2 + n.val)).last = g.nextAt (max (s.now * 250000) ((s.pin (2 + n.val)).last + 1)) ∧
      (t.pin (2 + n.val)).grid = some g ∧ RegsBut [(F.tpPulses, 2 + n.val)] s t ∧ t = { s with regs := t.regs, time := t.time }) ∧
  (∀ (n : Fin 2) f s, s.pinsDriven = true → s.get F.tpMode (2 + n.val) = 1 → (s.pin (2 + n.val)).starts = some f →
    f < (s.now + 1) * 250000 → (s.pin (2 + n.val)).grid = none → Does (.chimePulse n) s fun t =>
      Pulsed (2 + n.val) f s t ∧ (t.pin (2 + n.val)).grid = some (s.pinGrid (2 + n.val)) ∧
      (t.pin (2 + n.val)).starts = none ∧ RegsBut [(F.tpPulses, 2 + n.val)] s t ∧ t = { s with regs := t.regs, time := t.time }) ∧
  (∀ (n : Fin 2) s, s.pinsDriven = false ∨ s.get F.tpMode (2 + n.val) ≠ 1 → Does (.chimePulse n) s fun t => t = s) ∧
  (∀ (n : Fin 2) s, s.pinsDriven = true → s.get F.tpMode (2 + n.val) = 2 → s.get F.tpState (2 + n.val) = 2 →
    s.now * 250000 ≤ s.get F.rimshotTime (2 + n.val) / 5 * 5 → s.get F.rimshotTime (2 + n.val) / 5 * 5 < (s.now + 1) * 250000 →
    Does (.rimshotFired n) s fun t =>
      Pulsed (2 + n.val) (s.get F.rimshotTime (2 + n.val) / 5 * 5) s t ∧ t.get F.tpState (2 + n.val) = 0 ∧
      Raised [eventOf s (326 + n.val) 1 0 [(8, 2 + n.val),
        (32, instant ((s.get F.rimshotTime (2 + n.val) / 5 * 5 : Nat) : Int) s.now), (8, 0)]] s t ∧
      RegsBut [(F.tpState, 2 + n.val), (F.tpPulses, 2 + n.val), (F.raised, 326 + n.val)] s t ∧
      t = { s with regs := t.regs, ev := t.ev, time := t.time }) ∧
  (∀ (n : Fin 2) s, s.get F.tpState (2 + n.val) ≠ 2 ∨ s.get F.tpMode (2 + n.val) ≠ 2 → Does (.rimshotFired n) s fun t => t = s) ∧
  (∀ (n : Fin 2) s, 2 + n.val ∈ s.ev.tpPulses → s.pinsDriven = true → s.get F.tpMode (2 + n.val) = 4 →
    (s.pin (2 + n.val)).pulseEnd ≤ s.nowNs → Does (.tpEventPulse n) s fun t =>
      Pulsed (2 + n.val) s.nowNs s t ∧ t.ev = { s.ev with tpPulses := s.ev.tpPulses.erase (2 + n.val) } ∧
      RegsBut [(F.tpPulses, 2 + n.val)] s t ∧ t = { s with regs := t.regs, ev := t.ev, time := t.time }) ∧
  (∀ (n : Fin 2) s, 2 + n.val ∈ s.ev.tpPulses → s.pinsDriven = true → s.get F.tpMode (2 + n.val) = 4 →
    s.nowNs < (s.pin (2 + n.val)).pulseEnd → Does (.tpEventPulse n) s fun t =>
      t.get F.tpMerged (2 + n.val) = satInc 32 (s.get F.tpMerged (2 + n.val)) ∧ RegsBut [(F.tpMerged, 2 + n.val)] s t ∧
      t = { s with regs := t.regs, ev := { s.ev with tpPulses := s.ev.tpPulses.erase (2 + n.val) } }) ∧
  (∀ (n : Fin 2) s, 2 + n.val ∉ s.ev.tpPulses → Does (.tpEventPulse n) s fun t => t = s)

/-- A message with a bad FCS, or cut off by a loss of link, is counted in RX_FCS of its port, and the clock knows nothing of
it. -/
def Obligations.AMessageWithABadFcsIsOnlyCounted : Prop :=
  ∀ (k : Fin 12) s, Does (.ptpRxError k) s fun t =>
    t.get F.rxFcs k.val = satInc 32 (s.get F.rxFcs k.val) ∧ RegsBut [(F.rxFcs, k.val), (F.raised, 287 + 2 * k.val)] s t ∧
    t = { s with regs := t.regs, ev := t.ev, time := { s.time with rxRaised := t.time.rxRaised } }

namespace Sys2Proof.Machine

/-- A frame reaches the filters of controller `k`: the controller monitors the bus and none of its objects is suspended. -/
structure Monitors (k : Nat) (f : CanFrame) (s : State) : Prop where
  mode : s.get F.canBusMode k = 2
  state : s.get F.canErrState k ≠ 2
  format : f.fdf = false ∨ s.get F.fdEnable k = 1
  awake : s.get F.canNoPeerObjs k = 0

end Sys2Proof.Machine

/-- The CAN controllers receive: a frame that no filter matches is counted, one for an RX object is stored in it, in its
second buffer while the Freeze has not copied it, and lost and counted where that holds one; a frame of an FD controller
that may not take it is an error (R333, R334, R338, R347). -/
def Obligations.CanFramesAreFilteredAndStored : Prop :=
  (∀ (k : Fin 8) f s, s.get F.canBusMode k.val = 0 ∨ s.get F.canErrState k.val = 2 → Does (.canFrameReceive k f) s fun t => t = s) ∧
  (∀ (k : Fin 8) f s, s.get F.canBusMode k.val ≠ 0 → s.get F.canErrState k.val ≠ 2 → f.fdf = true → s.get F.fdEnable k.val = 0 →
    Does (.canFrameReceive k f) s fun t =>
      t.get F.canProtocolErrors k.val = satInc 32 (s.get F.canProtocolErrors k.val) ∧ t.can.objs = s.can.objs ∧
      RegsBut [(F.canProtocolErrors, k.val), (F.raised, 229 + 8 * k.val)] s t ∧ t = { s with regs := t.regs, ev := t.ev, can := t.can }) ∧
  (∀ (k : Fin 8) f s, Monitors k.val f s → s.filterOf k.val f = none → Does (.canFrameReceive k f) s fun t =>
    t.get F.canUnmatched k.val = satInc 32 (s.get F.canUnmatched k.val) ∧ RegsBut [(F.canUnmatched, k.val)] s t ∧
    t = { s with regs := t.regs }) ∧
  (∀ (k : Fin 8) f e o s, Monitors k.val f s → s.filterOf k.val f = some e → s.get F.fAction e = 0 →
    o = 128 * k.val + s.get F.fObject e → s.get F.objDir o = 1 → s.can.locked = false → f.atEdge = false →
    Does (.canFrameReceive k f) s fun t =>
      t.canObj o = { s.canObj o with primary := some f, stored := (s.canObj o).stored + 1 } ∧
      (∀ p, p ≠ o → t.canObj p = s.canObj p) ∧ t.get F.canRxFrames k.val = satInc 32 (s.get F.canRxFrames k.val) ∧
      (t.get F.objOverwrites o = if (s.canObj o).primary.isSome = true ∧ (s.canObj o).stored ≠ 0 then
        satInc 32 (s.get F.objOverwrites o) else s.get F.objOverwrites o) ∧
      RegsBut [(F.canRxFrames, k.val), (F.objOverwrites, o)] s t ∧ t = { s with regs := t.regs, can := { s.can with objs := t.can.objs } }) ∧
  (∀ (k : Fin 8) f e o s, Monitors k.val f s → s.filterOf k.val f = some e → s.get F.fAction e = 0 →
    o = 128 * k.val + s.get F.fObject e → s.get F.objDir o = 1 → s.can.locked = true ∨ f.atEdge = true → (s.canObj o).shadow = none →
    Does (.canFrameReceive k f) s fun t =>
      t.canObj o = { s.canObj o with shadow := some f, held := (s.canObj o).held + 1 } ∧ (∀ p, p ≠ o → t.canObj p = s.canObj p) ∧
      RegsBut [(F.canRxFrames, k.val)] s t ∧ t = { s with regs := t.regs, can := { s.can with objs := t.can.objs } }) ∧
  (∀ (k : Fin 8) f e o g s, Monitors k.val f s → s.filterOf k.val f = some e → s.get F.fAction e = 0 →
    o = 128 * k.val + s.get F.fObject e → s.get F.objDir o = 1 → s.can.locked = true ∨ f.atEdge = true → (s.canObj o).shadow = some g →
    Does (.canFrameReceive k f) s fun t =>
      t.canObj o = { s.canObj o with shadow := some f, held := (s.canObj o).held + 1 } ∧ t.get F.objLost o = 1 ∧
      t.get F.objLostCount o = satInc 32 (s.get F.objLostCount o) ∧
      Raised [eventOf s (224 + 8 * k.val) 1 1 [(16, o % 128)]] s t ∧
      RegsBut [(F.canRxFrames, k.val), (F.objLost, o), (F.objLostCount, o), (F.raised, 224 + 8 * k.val)] s t) ∧
  (∀ (k : Fin 8) f e s, Monitors k.val f s → s.filterOf k.val f = some e →
    s.get F.fAction e = 1 ∨ s.get F.objDir (128 * k.val + s.get F.fObject e) ≠ 1 → Does (.canFrameReceive k f) s fun t => t = s)

/-- The CAN controllers transmit and fail: a sent frame leaves its object and lowers TEC, errors move the counts and the
error state, 64 acknowledgement errors suspend the object until it resumes, bus-off ends by recovery, a search for the bit
rate dwells 200 ms on each entry, and a fault takes the controller off the bus until it is reloaded, the third within 60 s
for good (R337, R339 to R344). -/
def Obligations.CanControllersSendAndFail : Prop :=
  (∀ (k : Fin 8) (j : Fin 128) s, s.canSends (128 * k.val + j.val) = true → s.get F.canTec k.val = 0 →
    Does (.canTxComplete k j) s fun t =>
      t.get F.canTxFrames k.val = satInc 32 (s.get F.canTxFrames k.val) ∧ t.get F.objPending (128 * k.val + j.val) = 0 ∧
      t.get F.objAckErrRun (128 * k.val + j.val) = 0 ∧ (t.canObj (128 * k.val + j.val)).payload = none ∧
      RegsBut [(F.canTxFrames, k.val), (F.objPending, 128 * k.val + j.val), (F.objAckErrRun, 128 * k.val + j.val)] s t ∧
      t = { s with regs := t.regs, can := { s.can with objs := t.can.objs } }) ∧
  (∀ (k : Fin 8) (j : Fin 128) s, s.canSends (128 * k.val + j.val) = true → s.get F.canTec k.val ≠ 0 → s.get F.canTec k.val < 256 →
    Does (.canTxComplete k j) s fun t =>
      t.get F.canTec k.val = s.get F.canTec k.val - 1 ∧ t.get F.objPending (128 * k.val + j.val) = 0 ∧ t.mem = s.mem) ∧
  (∀ (k : Fin 8) (j : Fin 128) s, s.canSends (128 * k.val + j.val) = false → Does (.canTxComplete k j) s fun t => t = s) ∧
  (∀ (k : Fin 8) n o a b s, s.get F.canBusMode k.val = 2 → s.get F.canErrState k.val ≠ 2 → Does (.canBusError k n o a b) s fun t =>
    t.get F.canProtocolErrors k.val = satInc 32 (s.get F.canProtocolErrors k.val) ∧ (t.canCtl k.val).good = 0 ∧
    RegsBut [(F.canProtocolErrors, k.val), (F.raised, 229 + 8 * k.val)] s t ∧ t.can.objs = s.can.objs) ∧
  (∀ (k : Fin 8) n a b s, s.get F.canBusMode k.val = 1 → s.get F.canErrState k.val ≠ 2 → Does (.canBusError k n none a b) s fun t =>
    t.get F.canTec k.val = min a 255 ∧ t.get F.canRec k.val = min b 255 ∧
    t.get F.canErrState k.val = (if 255 < a then 2 else if 128 ≤ a ∨ 128 ≤ b then 1 else 0) ∧
    (255 < a → t.get F.canBusOffCount k.val = satInc 32 (s.get F.canBusOffCount k.val) ∧
      RaisedLast [eventOf s (222 + 8 * k.val) 1 2 [(2, s.get F.canErrState k.val), (2, 2), (8, 255), (8, min b 255)]] s t)) ∧
  (∀ (k : Fin 8) n o a b s, s.get F.canBusMode k.val = 0 → Does (.canBusError k n o a b) s fun t => t = s) ∧
  (∀ (k : Fin 8) (j : Fin 128) s, s.canSends (128 * k.val + j.val) = true → s.get F.canErrState k.val = 0 →
    s.get F.objAckErrRun (128 * k.val + j.val) < 63 → s.get F.objSingleShot (128 * k.val + j.val) = 0 → s.get F.canTec k.val < 120 →
    Does (.canAckError k j) s fun t =>
      t.get F.objAckErrRun (128 * k.val + j.val) = s.get F.objAckErrRun (128 * k.val + j.val) + 1 ∧
      t.get F.canTec k.val = s.get F.canTec k.val + 8 ∧ t.get F.objPending (128 * k.val + j.val) = 1 ∧ t.can.objs = s.can.objs) ∧
  (∀ (k : Fin 8) (j : Fin 128) s, s.canSends (128 * k.val + j.val) = true → s.get F.canErrState k.val = 1 →
    63 ≤ s.get F.objAckErrRun (128 * k.val + j.val) → Does (.canAckError k j) s fun t =>
      t.get F.objNoPeer (128 * k.val + j.val) = 1 ∧ t.get F.objPending (128 * k.val + j.val) = 0 ∧
      t.get F.objAckErrRun (128 * k.val + j.val) = 0 ∧ t.get F.canTec k.val = s.get F.canTec k.val ∧
      RaisedLast [eventOf s (223 + 8 * k.val) 1 2 [(16, j.val)]] s t) ∧
  (∀ (k : Fin 8) (j : Fin 128) s, s.canSends (128 * k.val + j.val) = false → Does (.canAckError k j) s fun t => t = s) ∧
  (∀ (k : Fin 8) (j : Fin 128) s, s.get F.objNoPeer (128 * k.val + j.val) = 1 →
    (s.canObj (128 * k.val + j.val)).resume = true ∨ 1024 + (128 * k.val + j.val) ∈ s.can.sys →
    Does (.canNoPeerResume k j) s fun t =>
      t.get F.objNoPeer (128 * k.val + j.val) = 0 ∧ (t.canObj (128 * k.val + j.val)).resume = false ∧
      RegsBut [(F.objNoPeer, 128 * k.val + j.val), (F.canNoPeerObjs, k.val)] s t ∧
      t = { s with regs := t.regs, can := { s.can with objs := t.can.objs } }) ∧
  (∀ (k : Fin 8) (j : Fin 128) s, s.get F.objNoPeer (128 * k.val + j.val) = 0 ∨
    (s.canObj (128 * k.val + j.val)).resume = false ∧ 1024 + (128 * k.val + j.val) ∉ s.can.sys → Does (.canNoPeerResume k j) s fun t => t = s) ∧
  (∀ (k : Fin 8) s, s.get F.canErrState k.val = 2 → s.get F.busoffRecoveryCfg k.val = 0 → Does (.canRecover k) s fun t =>
    t.canCtl k.val = { s.canCtl k.val with recovering := true } ∧ t = { s with can := { s.can with ctls := t.can.ctls } }) ∧
  (∀ (k : Fin 8) s, s.get F.canErrState k.val ≠ 2 → Does (.canRecover k) s fun t => t = s) ∧
  (∀ (k : Fin 8) s, s.get F.canErrState k.val = 2 → s.get F.busoffRecoveryCfg k.val = 1 ∨ (s.canCtl k.val).recovering = true →
    Does (.canBusoffRecovery k) s fun t =>
      t.get F.canErrState k.val = 0 ∧ t.get F.canTec k.val = 0 ∧ t.get F.canRec k.val = 0 ∧ (t.canCtl k.val).recovering = false ∧
      Raised [eventOf s (222 + 8 * k.val) 1 1 [(2, 2), (2, 0), (8, 0), (8, 0)]] s t ∧
      RegsBut [(F.canErrState, k.val), (F.canTec, k.val), (F.canRec, k.val), (F.raised, 222 + 8 * k.val)] s t) ∧
  (∀ (k : Fin 8) s, s.get F.canErrState k.val ≠ 2 → Does (.canBusoffRecovery k) s fun t => t = s) ∧
  (∀ (k : Fin 8) s, s.get F.canBusMode k.val = 3 → (s.canCtl k.val).since + 800 ≤ s.beat.opBeats → (s.canCtl k.val).entry < 11 →
    Does (.canAbrDwell k) s fun t =>
    t.canCtl k.val = { s.canCtl k.val with entry := (s.canCtl k.val).entry + 1, good := 0, since := s.beat.opBeats } ∧
    t = { s with can := { s.can with ctls := t.can.ctls } }) ∧
  (∀ (k : Fin 8) s, s.get F.canBusMode k.val = 3 → (s.canCtl k.val).since + 800 ≤ s.beat.opBeats → 11 ≤ (s.canCtl k.val).entry →
    (s.canCtl k.val).rounds + 1 < s.get F.abrRounds k.val → Does (.canAbrDwell k) s fun t =>
      t.canCtl k.val = { s.canCtl k.val with
        entry := 0, good := 0, rounds := (s.canCtl k.val).rounds + 1, since := s.beat.opBeats } ∧
      t = { s with can := { s.can with ctls := t.can.ctls } }) ∧
  (∀ (k : Fin 8) s, s.get F.canBusMode k.val = 3 → (s.canCtl k.val).since + 800 ≤ s.beat.opBeats → 11 ≤ (s.canCtl k.val).entry →
    s.get F.abrRounds k.val ≤ (s.canCtl k.val).rounds + 1 →
    Does (.canAbrDwell k) s fun t =>
      (t.canCtl k.val).detect = 3 ∧ t.get F.canAbrRate k.val = 0 ∧
      Raised [eventOf s (227 + 8 * k.val) 1 1 [(32, (s.canCtl k.val).rounds + 1)]] s t ∧ t.mem = s.mem) ∧
  (∀ (k : Fin 8) s, s.get F.canBusMode k.val ≠ 3 ∨ s.beat.opBeats < (s.canCtl k.val).since + 800 → Does (.canAbrDwell k) s fun t => t = s) ∧
  (∀ (k : Fin 8) n s, s.get F.canFault k.val ≠ 2 → s.get F.canMode k.val ≠ 0 → Does (.canControllerFault k n) s fun t =>
    (t.get F.canFault k.val = if 2 ≤ ((s.canCtl k.val).faults.filter (fun b => decide (s.beat.opBeats < b + 240000))).length then 2 else 1) ∧
    t.get F.canFaultCount k.val = satInc 32 (s.get F.canFaultCount k.val) ∧ t.get F.canBusMode k.val = 0 ∧
    RaisedLast [eventOf s (228 + 8 * k.val) 1 (if t.get F.canFault k.val = 2 then 3 else 2) [(8, n)]] s t ∧ t.mem = s.mem) ∧
  (∀ (k : Fin 8) n s, s.get F.canFault k.val = 2 ∨ s.get F.canMode k.val = 0 → Does (.canControllerFault k n) s fun t => t = s) ∧
  (∀ (k : Fin 8) s, s.get F.canFault k.val = 1 → Does (.canControllerReload k) s fun t =>
    t.get F.canFault k.val = 0 ∧ t.get F.canBusMode k.val = t.canBusModeOf k.val ∧ t.ev = s.ev ∧ t.mem = s.mem) ∧
  (∀ (k : Fin 8) s, s.get F.canFault k.val ≠ 1 → Does (.canControllerReload k) s fun t => t = s)

namespace Sys2Proof.Machine

/-- The context of a fault, the triad's or the Supervisor's (R453). -/
def ctxOf (triad : Bool) (s : State) : FaultCtx := if triad then s.ev.triad else s.ev.sup

/-- The registers that show the contexts (R468). -/
def faultRegs : List (Fld × Nat) := [(F.triadSev, 0), (F.triadQueue, 0), (F.supSev, 0), (F.supQueue, 0), (F.queuePeak, 0)]

/-- The records of one event: the first, and the continuations behind it (R576). -/
def OneEvent (rs rest : List EvRec) : Prop :=
  (∀ q ∈ rs, q.cont = true) ∧ (∀ q, rest.head? = some q → q.cont = false)

end Sys2Proof.Machine

/-- The Journal's port commits its oldest record under the next SEQ with CRC and COMMIT, except during a switch or a Retain
mirror; the Roll copies at most 64 KiB of standing records of the live half in a beat, while nothing else waits for the
port, and is at its switch once it has seen them all; the switch writes the superblock copy that does not name the live half
and exchanges the halves, and a Roll that ends above the threshold finds the Journal full. Behind mirror and Journal the
recorder takes its write buffer's oldest record, or counts it lost once it is full (R18, R429, R430, R433 to R435, R440). -/
def Obligations.TheJournalCommitsAndRolls : Prop :=
  (∀ r rest s, s.jr.pend = r :: rest → s.get F.rollState ≠ 2 → s.rt.mirror = none → Does .journalRecordCommit s fun t =>
    t.jr.pend = rest ∧ (∃ c w, t.jr.live = s.jr.live ++ [{ r with seq := s.get F.nextSeq, crc := c, commit := w }] ∧
      c = crc32c (recBody { r with seq := s.get F.nextSeq }) ∧ w = s.get F.nextSeq % 2 ^ 32 ^^^ 0xA5C35A96) ∧ t.jr.commits = s.jr.commits + 1 ∧
    t.get F.nextSeq = (s.get F.nextSeq + 1) % 2 ^ 64 ∧ t.get F.liveBytes = (s.get F.liveBytes + recBytes r.len) % 2 ^ 32 ∧
    t.get F.liveRecords = (s.get F.liveRecords + 1) % 2 ^ 32 ∧
    t.lcp.queue = s.lcp.queue ∧ t.rt = s.rt ∧
    RegsBut [(F.nextSeq, 0), (F.liveBytes, 0), (F.liveRecords, 0), (F.rollState, 0), (F.raised, 376)] s t ∧ t.mem = s.mem) ∧
  (∀ s, s.jr.pend = [] ∨ s.get F.rollState = 2 ∨ s.rt.mirror ≠ none → Does .journalRecordCommit s fun t => t = s) ∧
  (∀ s, s.get F.rollState = 1 → s.rt.mirror = none → s.jr.pend = [] → s.jr.recBuf = [] → Does .rollCopy s fun t =>
    (∃ rs, t.jr.other = s.jr.other ++ rs ∧ (∀ r ∈ rs, r ∈ s.jr.live ∧ standing s.jr.live r = true) ∧ pendBytes rs ≤ 65536 - s.jr.rolled ∧
      t.jr.rolled = if s.beat.runs = true then s.jr.rolled + pendBytes rs else 0) ∧
    t.jr.live = s.jr.live ∧ s.jr.copied ≤ t.jr.copied ∧
    (t.get F.rollState = if s.jr.live.length ≤ t.jr.copied then 2 else 1) ∧ RegsBut [(F.rollState, 0)] s t ∧
    t = { s with regs := t.regs, jr := t.jr }) ∧
  (∀ s, s.get F.rollState ≠ 1 ∨ s.rt.mirror ≠ none ∨ s.jr.pend ≠ [] ∨ s.jr.recBuf ≠ [] → Does .rollCopy s fun t => t = s) ∧
  (∀ s, s.get F.rollState = 2 → pendBytes s.jr.other * 100 < s.get F.rollThreshold * 134217728 → Does .rollDone s fun t =>
    (t.jr.sb0, t.jr.sb1) = (if s.jr.sb0.half = s.get F.liveHalf
      then (s.jr.sb0, mkSuperblock (s.get F.sbSeq + 1) (1 - s.get F.liveHalf))
      else (mkSuperblock (s.get F.sbSeq + 1) (1 - s.get F.liveHalf), s.jr.sb1)) ∧
    t.jr.live = s.jr.other ∧ t.jr.other = s.jr.live ∧ t.jr.copied = 0 ∧ t.jr.full = false ∧ t.get F.rollState = 0 ∧
    t.get F.liveHalf = (1 - s.get F.liveHalf) % 256 ∧ t.get F.sbSeq = (s.get F.sbSeq + 1) % 2 ^ 64 ∧
    t.get F.liveBytes = pendBytes s.jr.other % 2 ^ 32 ∧ t.get F.liveRecords = s.jr.other.length % 2 ^ 32 ∧
    t.get F.rollCount = satInc 32 (s.get F.rollCount) ∧
    Raised [eventOf s 377 1 0 [(8, 1 - s.get F.liveHalf), (32, s.get F.sbSeq + 1)], restOf s 377 1 0 [(32, pendBytes s.jr.other)]] s t ∧
    t = { s with regs := t.regs, ev := t.ev, jr := t.jr }) ∧
  (∀ s, s.get F.rollState = 2 → pendBytes s.jr.other < 2 ^ 32 → s.get F.rollThreshold * 134217728 ≤ pendBytes s.jr.other * 100 →
    Does .rollDone s fun t =>
      t.jr.live = s.jr.other ∧ t.get F.rollState = 0 ∧ t.jr.full = true ∧ t.jr.fullMark = pendBytes s.jr.other ∧
      RaisedLast [eventOf s 378 1 2 [(32, pendBytes s.jr.other)]] s t) ∧
  (∀ s, s.get F.rollState ≠ 2 → Does .rollDone s fun t => t = s) ∧
  (∀ r rest s, s.portFree = true → s.jr.recBuf = r :: rest → s.get F.recFull = 0 → s.get F.recCount < 4194303 → r.src < 394 →
    Does .recorderAppend s fun t =>
      t.jr = { s.jr with recBuf := rest, recs := s.jr.recs ++ [r] } ∧ t.get F.recCount = s.get F.recCount + 1 ∧
      RegsBut [(F.recCount, 0)] s t ∧ t = { s with regs := t.regs, jr := t.jr }) ∧
  (∀ r rest s, s.portFree = true → s.jr.recBuf = r :: rest → s.get F.recFull = 1 → Does .recorderAppend s fun t =>
    t.jr = { s.jr with recBuf := rest } ∧ t.get F.recLost = satInc 32 (s.get F.recLost) ∧ RegsBut [(F.recLost, 0)] s t) ∧
  (∀ s, s.jr.recBuf = [] ∨ s.jr.pend ≠ [] ∨ s.rt.mirror ≠ none → Does .recorderAppend s fun t => t = s)

/-- The Event Router delivers its oldest event to the ring and to every destination of its route, and severity 1 and up to
the fault contexts, severity 2 and up to the display (R450 to R453, R546, R577). -/
def Obligations.EventsReachTheirDestinations : Prop :=
  (∀ r rs rest s, s.ev.router = r :: rs ++ rest → OneEvent rs rest → Does .eventDeliver s fun t =>
    t.ev.router = rest ∧ t.ev.ring = lastN 4096 (s.ev.ring ++ r :: rs) ∧ t.ev.ringNext = s.ev.ringNext + (rs.length + 1) ∧
    t.ev.faults = (if 1 ≤ r.sev then s.ev.faults ++ [{ src := r.src, sev := r.sev, beat := r.beat, off := r.off }] else s.ev.faults) ∧
    t.panel.events = (if 2 ≤ r.sev then ((s.ev.ringNext, false) :: s.panel.events).take 32 else s.panel.events) ∧
    (bitOf r.route 0 = false → t.ev.imageQ = s.ev.imageQ) ∧
    (bitOf r.route 0 = true → s.ev.imageQ.length + rs.length < 256 → t.ev.imageQ = s.ev.imageQ ++ r :: rs) ∧
    (bitOf r.route 3 = false → t.jr = s.jr) ∧
    (bitOf r.route 3 = true → s.get F.recFrozen = 0 → s.jr.recBuf.length + rs.length < 256 →
      t.jr = { s.jr with recBuf := s.jr.recBuf ++ r :: rs }) ∧
    (bitOf r.route 4 = true → 2 ∈ t.ev.tpPulses) ∧ (bitOf r.route 1 = true → r.src ∈ t.ev.loopFlags) ∧
    RegsBut [(F.leds, 0), (F.displayOn, 0), (F.holdDepth, 0), (F.recLost, 0)] s t ∧
    t = { s with regs := t.regs, ev := t.ev, jr := t.jr, panel := { s.panel with events := t.panel.events }
                 lcp := { s.lcp with sessions := t.lcp.sessions } }) ∧
  (∀ s, s.ev.router = [] → Does .eventDeliver s fun t => t = s)

/-- A fault reaches its context: it starts the handler, preempts one of lower severity, or waits; a full queue or a fault in
a handler of severity 4 is a Toll step. The end of a handler resumes or serves what waits, charged to the fault reserve in
the triad context; the handler of severity 4 writes the SAFE record and releases claim and drive, and restarts a SPLIT
module for a fault of cluster X (R39, R192, R453 to R455, R462). -/
def Obligations.FaultContextsServeFaults : Prop :=
  (∀ f rest s, s.ev.faults = f :: rest → (ctxOf (triadSource f.src) s).running = none → Does .faultArrival s fun t =>
    ctxOf (triadSource f.src) t = { ctxOf (triadSource f.src) s with running := some f } ∧
    ctxOf (!triadSource f.src) t = ctxOf (!triadSource f.src) s ∧ t.ev.faults = rest ∧ RegsBut faultRegs s t ∧
    t = { s with regs := t.regs, ev := t.ev }) ∧
  (∀ f rest g s, s.ev.faults = f :: rest → (ctxOf (triadSource f.src) s).running = some g → g.sev < 4 → g.sev < f.sev →
    Does .faultArrival s fun t =>
      ctxOf (triadSource f.src) t =
        { ctxOf (triadSource f.src) s with running := some f, preempted := g :: (ctxOf (triadSource f.src) s).preempted } ∧
      t.get F.preemptions = satInc 32 (s.get F.preemptions) ∧ t.ev.faults = rest ∧
      RegsBut ((F.preemptions, 0) :: faultRegs) s t ∧ t = { s with regs := t.regs, ev := t.ev }) ∧
  (∀ f rest g s, s.ev.faults = f :: rest → (ctxOf (triadSource f.src) s).running = some g → g.sev < 4 → f.sev ≤ g.sev →
    (ctxOf (triadSource f.src) s).queue.length < 16 → Does .faultArrival s fun t =>
      ctxOf (triadSource f.src) t = { ctxOf (triadSource f.src) s with queue := (ctxOf (triadSource f.src) s).queue ++ [f] } ∧
      t.ev.faults = rest ∧ RegsBut faultRegs s t ∧ t = { s with regs := t.regs, ev := t.ev }) ∧
  (∀ f rest g s, s.ev.faults = f :: rest → (ctxOf (triadSource f.src) s).running = some g →
    4 ≤ g.sev ∨ f.sev ≤ g.sev ∧ 16 ≤ (ctxOf (triadSource f.src) s).queue.length → Does .faultArrival s fun t =>
      t.wd.instants = s.wd.instants ++ [s.beat.opBeats] ∧ t.get F.toll = min (s.wd.instants.length + 1) 15 ∧
      eventOf s (if 4 ≤ g.sev then 401 else 400) 1 4 (if 4 ≤ g.sev then [(8, if triadSource f.src then 0 else 1), (16, f.src)]
        else [(8, if triadSource f.src then 0 else 1), (32, f.sev)]) ∈ t.ev.router ∧
      (s.get F.tollLimit ≤ s.wd.instants.length + 1 → { kind := .safe 1, beat := s.now, code := 1 } ∈ t.beat.causes) ∧
      (s.wd.instants.length + 1 < s.get F.tollLimit → { kind := .start, beat := s.now, code := 2 } ∈ t.beat.causes) ∧
      t.mem = s.mem) ∧
  (∀ s, s.ev.faults = [] → Does .faultArrival s fun t => t = s) ∧
  (∀ b n f s, (ctxOf b s).running = some f → (ctxOf b s).queue = [] → (ctxOf b s).preempted = [] →
    Does (.faultHandlerEnd b n) s fun t =>
      ctxOf b t = {} ∧ ctxOf (!b) t = ctxOf (!b) s ∧ t.beat = { s.beat with charged := s.beat.charged + (if b then n else 0) } ∧
      RegsBut faultRegs s t ∧ t = { s with regs := t.regs, ev := t.ev, beat := t.beat }) ∧
  (∀ b n f p ps s, (ctxOf b s).running = some f → (ctxOf b s).preempted = p :: ps →
    (∀ q ∈ (ctxOf b s).queue, q.sev ≤ p.sev) → Does (.faultHandlerEnd b n) s fun t =>
      (ctxOf b t).running = some p ∧ (ctxOf b t).preempted = ps ∧ (ctxOf b t).queue = (ctxOf b s).queue) ∧
  (∀ b n f g s, (ctxOf b s).running = some f → (ctxOf b s).preempted = [] → (ctxOf b s).queue = [g] →
    Does (.faultHandlerEnd b n) s fun t => ctxOf b t = { running := some g }) ∧
  (∀ b n s, (ctxOf b s).running = none → Does (.faultHandlerEnd b n) s fun t => t = s) ∧
  (∀ f s, s.fatal? = some f → splitSource f.src = false ∨ s.get F.triad ≠ 2 → Does .fatalHandler s fun t =>
    t.wd.safeRec = fatalCause f.src ∧ t.get F.claim = 0 ∧ t.get F.driveEn = 0 ∧
    t.beat.causes = s.beat.causes ++ [{ kind := .safe (fatalCause f.src), beat := s.now, code := 1 }] ∧
    t.pwr.latch.safeSet = true ∧ t.pwr.latch.safeCause = fatalCause f.src ∧
    RegsBut [(F.claim, 0), (F.driveEn, 0), (F.raised, 378)] s t ∧ t.mem = s.mem) ∧
  (∀ f s, s.fatal? = some f → f.src = 330 ∨ f.src = 391 ∨ 402 ≤ f.src ∧ f.src < 434 → s.get F.triad = 2 → Does .fatalHandler s fun t =>
    t.get F.claim = 0 ∧ t.get F.driveEn = 0 ∧ t.wd = s.wd ∧
    t.beat.causes = s.beat.causes ++ [{ kind := .start, beat := s.now, code := 2 }] ∧
    RegsBut [(F.claim, 0), (F.driveEn, 0)] s t) ∧
  (∀ s, s.fatal? = none → Does .fatalHandler s fun t => t = s)

/-- The windowed watchdog: a service inside the window opens the next, which a busy erase holds; the Supervisor withholds
the service up to half of the window, where its scheduler has missed a cycle and, in RUN, where the runtime has missed its
token; one outside it, a bad word, the end of the window and a stopped clock are expiries, each a Toll step that the
Supervisor carries out, or the power manager where it is mute; old steps leave the count after 24 h. A Supervisor whose
halves differ ends in SAFE and is mute (R15, R456 to R465). -/
def Obligations.TheWatchdogCountsItsExpiries : Prop :=
  (∀ k w s, s.wd.running = true → s.get F.wdState = 0 → s.get F.openCount ≤ k → k < s.get F.closeCount →
    s.wdWritten k w = some true → s.wd.erase ≤ 2 → Does (.wdService k w) s fun t =>
      t.get F.wdState = (if s.wd.erase = 0 then 0 else 1) ∧ t.get F.wdCount = 0 ∧ t.get F.guardUsed = 0 ∧
      t.get F.openCount = max 1 (ticks (s.get F.wdOpen) (s.get F.wdClockNow)) % 2 ^ 32 ∧
      t.get F.closeCount = ticks (s.get F.wdClose) (s.get F.wdClockNow) % 2 ^ 32 ∧
      RegsBut [(F.wdState, 0), (F.wdCount, 0), (F.guardUsed, 0), (F.openCount, 0), (F.closeCount, 0)] s t ∧
      t = { s with regs := t.regs, wd := { s.wd with
        waitAck := false, tokenMissed := false, erase := if s.wd.erase = 0 then 0 else 2 } }) ∧
  (∀ k (b : Bool) s, b = false ∨ 2 * k ≤ s.get F.openCount + s.get F.closeCount ∨
    s.wd.tokenMissed = true ∧ s.get F.mode = 3 ∧ s.get F.haltState = 0 → Does (.wdService k (.byRule b)) s fun t => t = s) ∧
  (∀ k w ok s, s.wd.running = true → s.get F.wdState = 0 → k < s.get F.closeCount → s.wdWritten k w = some ok →
    ok = false ∨ k < s.get F.openCount → Does (.wdService k w) s fun t =>
      t.get F.wdLastCause = 2 ∧ t.get F.wdTotal = satInc 32 (s.get F.wdTotal) ∧ t.get F.lastExpiryBeat = s.now % 2 ^ 64 ∧
      t.get F.toll = min (s.wd.instants.length + 1) 15 ∧ t.wd.instants = s.wd.instants ++ [s.beat.opBeats] ∧
      eventOf s 395 1 3 [(32, k), (32, s.get F.openCount)] ∈ t.ev.router ∧ t.mem = s.mem) ∧
  (∀ s, s.wd.running = true → s.get F.wdState = 0 → Does .wdExpired s fun t =>
    t.get F.wdLastCause = 1 ∧ t.get F.wdTotal = satInc 32 (s.get F.wdTotal) ∧
    t.get F.toll = min (s.wd.instants.length + 1) 15 ∧ t.wd.instants = s.wd.instants ++ [s.beat.opBeats] ∧
    eventOf s 394 1 3 [(8, 1), (32, s.get F.closeCount)] ∈ t.ev.router ∧ restOf s 394 1 3 [(32, s.now)] ∈ t.ev.router ∧
    (s.lcp.mute = true → t.wd.waitAck = true ∧ t.get F.wdState = 2) ∧
    (s.lcp.mute = false → s.get F.tollLimit ≤ s.wd.instants.length + 1 →
      t.wd.stepDone = 3 ∧ { kind := .safe 1, beat := s.now, code := 1 } ∈ t.beat.causes) ∧
    (s.lcp.mute = false → 1 ≤ s.wd.instants.length → s.wd.instants.length + 1 < s.get F.tollLimit →
      t.wd.stepDone = 2 ∧ { kind := .start, beat := s.now, code := 2 } ∈ t.beat.causes) ∧
    (s.lcp.mute = false → s.wd.instants = [] → 1 < s.get F.tollLimit → s.get F.role = 1 → s.get F.mode = 3 →
      s.rt.prog.isSome = true → s.wd.erase = 0 → t.wd.stepDone = 1 ∧ t.wd.warmRestart = true ∧ t.get F.wdState = 0 ∧ t.beat = s.beat) ∧
    t.mem = s.mem) ∧
  (∀ k w s, s.wd.running = false ∨ s.get F.wdState ≠ 0 → Does (.wdService k w) s fun t => t = s) ∧
  (∀ s, s.wd.running = false ∨ s.get F.wdState ≠ 0 → Does .wdExpired s fun t => t = s) ∧
  (∀ s, s.wd.waitAck = true → Does .wdAckTimeout s fun t =>
    t.wd.waitAck = false ∧ t.wd.running = false ∧ t.wd.step = tollTable s.wd.instants.length (s.get F.tollLimit) ∧
    t.beat.causes = s.beat.causes ++ [{ kind := .start, beat := s.now, code := 2 }] ∧
    (s.get F.tollLimit ≤ s.wd.instants.length → t.pwr.latch.safeSet = true ∧ t.pwr.latch.safeCause = 1) ∧
    t = { s with wd := t.wd, pwr := t.pwr, beat := t.beat }) ∧
  (∀ s, s.wd.waitAck = false → Does .wdAckTimeout s fun t => t = s) ∧
  (∀ s, s.wd.running = true → s.wd.clockStopped = false → s.get F.wdClockNow < 2 → Does .wdClockStop s fun t =>
    t.get F.wdClockNow = 1 - s.get F.wdClockNow ∧ t.get F.monitorOk = 0 ∧ t.wd.clockStopped = true ∧ t.get F.wdLastCause = 3 ∧
    t.wd.instants = s.wd.instants ++ [s.beat.opBeats] ∧ eventOf s 396 1 3 [(8, s.get F.wdClockNow)] ∈ t.ev.router ∧ t.mem = s.mem) ∧
  (∀ s, s.wd.clockStopped = true → Does .wdClockStop s fun t => t = s) ∧
  (∀ n s, s.get F.wdState ≠ 1 → Does (.wdEraseGuard n) s fun t => t = s) ∧
  (∀ n s, s.get F.wdState = 1 → Does (.wdEraseGuard n) s fun t =>
    t.get F.eraseGuard = 1 ∧ t.get F.guardUsed = 25000 ∧ t.get F.wdState = 0 ∧
    Raised [eventOf s 398 1 1 [(8, n), (32, 25000)]] s t ∧
    RegsBut [(F.eraseGuard, 0), (F.guardUsed, 0), (F.wdState, 0), (F.raised, 398)] s t ∧
    t = { s with regs := t.regs, ev := t.ev, pwr := t.pwr }) ∧
  (∀ s, Does .tollAge s fun t =>
    (∀ i ∈ t.wd.instants, s.beat.opBeats < i + 345600000) ∧
    (∀ i ∈ s.wd.instants, s.beat.opBeats < i + 345600000 → i ∈ t.wd.instants) ∧
    t.get F.toll = min t.wd.instants.length 15 ∧ RegsBut [(F.toll, 0)] s t ∧
    t = { s with regs := t.regs, wd := { s.wd with instants := t.wd.instants } }) ∧
  (∀ s, Up s → Does .supervisorLockstepMismatch s fun t =>
    t.get F.mode = 5 ∧ t.get F.role = 0 ∧ t.get F.safeCause = 6 ∧ t.lcp.mute = true ∧ t.wd.hbStopped = true ∧
    t.pwr.latch.safeSet = true ∧ t.pwr.latch.safeCause = 6 ∧ t.mem = s.mem)

/-- The debug commands: HALT where R480 admits it halts the cores, RESUME discards the cycles and lets them run, STEP
executes one instruction whose program counter is a free value, the window writes one line of memory, of each cluster's in
SPLIT, and the session ends by command or by its DURATION; each action is in the audit log (R474, R478 to R481, R489). -/
def Obligations.DebugCommandsAreAudited : Prop :=
  (∀ s, s.get F.dbg = 2 → s.get F.haltState ≠ 1 → haltAdmitted s = .ok → s.get F.role < 3 → Does .dbgCmdHalt s fun t =>
    t.get F.haltState = 1 ∧ Recorded 0x07 0 1 t ∧ RegsBut ([(F.haltState, 0), (F.haltPc, 0)] ++ auditRegs) s t ∧
    t = { s with regs := t.regs, ev := t.ev, sec := { s.sec with audit := t.sec.audit }, free := s.free + 1 }) ∧
  (∀ s, s.get F.dbg = 2 → s.get F.haltState ≠ 1 → haltAdmitted s = .ok → s.get F.role = 3 → s.get F.mode < 8 →
    Does .dbgCmdHalt s fun t =>
      t.get F.haltState = 1 ∧ t.get F.role = 3 ∧ t.get F.ready = 0 ∧ t.get F.pairState = 2 ∧ t.pair.current = false ∧
      t.pair.rx = [] ∧ Recorded 0x07 0 1 t ∧ t.mem = s.mem) ∧
  (∀ s, s.get F.dbg ≠ 2 ∨ s.get F.haltState = 1 ∨ haltAdmitted s ≠ .ok → Does .dbgCmdHalt s fun t => t = s) ∧
  (∀ s, s.get F.haltState = 1 → Does .dbgCmdResume s fun t =>
    t.get F.haltState = 0 ∧ t.rt.runQ = [] ∧ t.rt.work = [] ∧ t.rt.published = s.rt.published ∧ Recorded 0x07 0 2 t ∧
    RegsBut ([(F.haltState, 0)] ++ taskRegs ++ auditRegs) s t ∧
    t = { s with regs := t.regs, ev := t.ev, rt := t.rt, sec := { s.sec with audit := t.sec.audit } }) ∧
  (∀ s, s.get F.haltState ≠ 1 → Does .dbgCmdResume s fun t => t = s) ∧
  (∀ s, s.get F.haltState = 1 → Does .dbgCmdStep s fun t =>
    t.get F.haltState = 1 ∧ Recorded 0x07 0 3 t ∧ RegsBut ((F.haltPc, 0) :: auditRegs) s t ∧
    t = { s with regs := t.regs, ev := t.ev, sec := { s.sec with audit := t.sec.audit }, free := s.free + 1 }) ∧
  (∀ s, s.get F.haltState ≠ 1 → Does .dbgCmdStep s fun t => t = s) ∧
  (∀ s, s.get F.dbg ≠ 0 → Does .dbgCmdEndSession s fun t =>
    t.get F.dbg = 0 ∧ t.get F.debugSession = 0 ∧ t.get F.debugLeft = 0 ∧ t.get F.haltState = 0 ∧ t.sec.kind = 0 ∧
    Recorded 0x06 0 1 t ∧ RaisedLast [eventOf s 389 1 1 [(8, 1), (8, s.sec.kind), (8, 1)]] s t ∧ t.mem = s.mem) ∧
  (∀ s, s.get F.dbg = 0 → Does .dbgCmdEndSession s fun t => t = s) ∧
  (∀ s, s.get F.dbg ≠ 0 → Does .debugDurationEnd s fun t =>
    t.get F.dbg = 0 ∧ t.get F.haltState = 0 ∧ Recorded 0x06 0 2 t ∧
    RaisedLast [eventOf s 389 1 1 [(8, 1), (8, s.sec.kind), (8, 2)]] s t ∧ t.mem = s.mem) ∧
  (∀ s, s.get F.dbg = 0 → Does .debugDurationEnd s fun t => t = s) ∧
  (∀ d s, s.get F.haltState = 1 → memWf s.mem = true → Does (.dbgWindowWrite d) s fun t =>
    (∀ i, i < 64 → memGet t.mem (s.get F.dbgAddr + i) = BitVec.ofNat 8 (d / 256 ^ i)) ∧
    (∀ a, a < s.get F.dbgAddr ∨ s.get F.dbgAddr + 64 ≤ a → memGet t.mem a = memGet s.mem a) ∧
    (s.get F.triad = 2 → t.triad.memY = memWrite s.triad.memY (s.get F.dbgAddr) d 64 ∧
      t.triad.memZ = memWrite s.triad.memZ (s.get F.dbgAddr) d 64) ∧
    (s.get F.triad ≠ 2 → t.triad.memY = s.triad.memY ∧ t.triad.memZ = s.triad.memZ) ∧
    (t.get F.debugWrites = if s.get F.sec = 2 then 1 else s.get F.debugWrites) ∧ Recorded 0x08 0 0 t ∧
    RegsBut ((F.debugWrites, 0) :: auditRegs) s t ∧
    t = { s with regs := t.regs, ev := t.ev, mem := t.mem, sec := { s.sec with audit := t.sec.audit }
                 triad := { s.triad with memY := t.triad.memY, memZ := t.triad.memZ, dirty := t.triad.dirty } }) ∧
  (∀ d s, s.get F.haltState ≠ 1 → Does (.dbgWindowWrite d) s fun t => t = s)

/-- Memory protection, the audit log's links and the certificates: a bank swap makes the descriptors of the next task live
on its core alone; an access that some part of is not permitted is recorded with its first failing part and overruns its
task, or is a fault of severity 4 in privileged code and on a SPLIT module; a broken link of the audit log is found; a
certificate about to expire, or expired, is raised (R372, R483 to R488, R492). -/
def Obligations.AccessesLinksAndCertificatesAreWatched : Prop :=
  (∀ (c : Fin 4) l s, Does (.mpuBankSwap c l) s fun t =>
    t.mpuBank c.val = 1 - s.mpuBank c.val ∧ (∀ d, d ≠ c.val → t.mpuBank d = s.mpuBank d) ∧
    (∀ i d, i < 16 → l[i]? = some d → t.region c.val (t.mpuBank c.val) i = d % 2 ^ 112) ∧
    (∀ i, i < 16 → t.region c.val (s.mpuBank c.val) i = s.region c.val (s.mpuBank c.val) i) ∧
    t = { s with sec := { s.sec with banks := t.sec.banks, regions := t.sec.regions } }) ∧
  (∀ (c : Fin 4) a n (k : Fin 3) p (q : Fin 32) s, s.firstFail c.val (s.mpuBank c.val) a n k.val p = none →
    Does (.mpuFault c a n k p q) s fun t => t = s) ∧
  (∀ (c : Fin 4) a n (k : Fin 3) p (q : Fin 32) s i b r e, s.firstFail c.val (s.mpuBank c.val) a n k.val p = some (i, b, r, e) →
    p = true ∨ s.rt.taskDef? q.val = none → Does (.mpuFault c a n k p q) s fun t =>
      t.get F.faultAddr = b % 2 ^ 64 ∧ t.get F.mfRegion = r % 32 ∧ t.get F.mfPart = min i 3 ∧ t.get F.mfCause = e % 8 ∧
      t.get F.mfCore = c.val ∧ t.get F.mfTask = q.val ∧ t.get F.mpuFaultBeat = s.now % 2 ^ 64 ∧
      t.get F.mpuFaultCount = satInc 32 (s.get F.mpuFaultCount) ∧
      Raised [eventOf s 391 1 (if p = true ∨ s.get F.triad = 2 then 4 else 3) [(32, b), (5, r), (2, min i 3), (3, e), (1, if p then 1 else 0),
          (1, s.mpuBank c.val), (2, c.val), (5, q.val)],
        restOf s 391 1 (if p = true ∨ s.get F.triad = 2 then 4 else 3) [(32, s.now), (32, satInc 32 (s.get F.mpuFaultCount))]] s t ∧
      t.beat = (if p = true ∨ s.get F.triad = 2 then s.beat else { s.beat with causes := s.beat.causes ++ [{ kind := .stop, beat := s.now, code := 4 }] }) ∧
      t = { s with regs := t.regs, ev := t.ev, beat := t.beat }) ∧
  (∀ s, auditBreak s.sec.audit = none → Does .auditLinkCheck s fun t =>
    t.get F.linkOk = 1 ∧ RegsBut [(F.linkOk, 0)] s t ∧ t = { s with regs := t.regs }) ∧
  (∀ q s, auditBreak s.sec.audit = some q → Does .auditLinkCheck s fun t =>
    t.get F.linkOk = 2 ∧ Raised [eventOf s 393 1 2 [(32, q)]] s t ∧ RegsBut [(F.linkOk, 0), (F.raised, 393)] s t ∧
    t = { s with regs := t.regs, ev := t.ev }) ∧
  (∀ (k : Fin 4) s, s.get F.timeLocked = 1 → s.get F.certState k.val = 1 → k.val ∉ s.units.expiring →
    s.get F.certNotAfter k.val ≤ s.ptpSecond + 2592000 → Does (.certExpiring k) s fun t =>
      t.units = { s.units with expiring := s.units.expiring ++ [k.val] } ∧
      Raised [eventOf s 383 1 1 [(8, k.val), (32, s.get F.certNotAfter k.val)]] s t ∧ RegsBut [(F.raised, 383)] s t ∧
      t = { s with regs := t.regs, ev := t.ev, units := t.units }) ∧
  (∀ (k : Fin 4) s, s.get F.timeLocked = 0 ∨ s.get F.certState k.val ≠ 1 → Does (.certExpiring k) s fun t => t = s) ∧
  (∀ (k : Fin 4) s, s.get F.timeLocked = 1 → s.get F.certState k.val = 1 → s.get F.certNotAfter k.val ≤ s.ptpSecond →
    Does (.certExpired k) s fun t =>
      t.get F.certState k.val = 2 ∧ Raised [eventOf s 384 1 2 [(8, k.val)]] s t ∧
      RegsBut [(F.certState, k.val), (F.raised, 384)] s t ∧ t = { s with regs := t.regs, ev := t.ev }) ∧
  (∀ (k : Fin 4) s, s.get F.timeLocked = 0 ∨ s.get F.certState k.val ≠ 1 → Does (.certExpired k) s fun t => t = s)

/-- Losing and regaining power: with both feeds absent the power-down sequence brings the Journal up to date and takes the
rails down, or is cut by a rail failure, whose step the latch keeps; a rail out of its band takes them down at once and what
waited before the port is lost; claim and drive are released, the memory is empty; a feed that returns, a wake in DORMANT
and an insertion start the module before S1 with a new epoch (R362, R503 to R507, R512, R513, R544, R545). -/
def Obligations.PowerIsLostAndRegained : Prop :=
  (∀ s, Up s → s.get F.feedA = 0 → s.get F.feedB = 0 → Does (.powerdownStart none) s fun t =>
    t.pwr.off = true ∧ t.mem = [] ∧ t.get F.claim = 0 ∧ t.get F.driveEn = 0 ∧ t.get F.linkUp = 0 ∧ t.get F.pwrSeq = 5 ∧
    t.get F.pwrdnCount = satInc 32 (s.get F.pwrdnCount) ∧ t.pwr.latch.done = true ∧ t.pwr.latch.crash = false ∧
    t.beat.runs = false ∧ t.lcp.sessions = [] ∧ t.lcp.queue = [] ∧ t.jr.pend = [] ∧ t.ev = {} ∧ t.get F.mode = s.get F.mode) ∧
  (∀ c s, Up s → s.get F.feedA = 0 → s.get F.feedB = 0 → Does (.powerdownStart (some c)) s fun t =>
    t.pwr.off = true ∧ t.mem = [] ∧ t.get F.claim = 0 ∧ t.get F.driveEn = 0 ∧ t.get F.pwrSeq = c.step % 8 ∧
    t.get F.crashCount = satInc 32 (s.get F.crashCount) ∧ t.pwr.latch.done = false ∧ t.pwr.latch.crash = true ∧
    t.pwr.latch.railId = c.rail % 256 ∧ t.pwr.latch.railStep = c.step ∧ t.jr.pend = [] ∧ t.ev = {} ∧
    (c.step < 3 → ∃ l, t.jr.lost = s.jr.lost ++ s.jr.pend ++ l)) ∧
  (∀ c s, s.pwr.off = true ∨ s.get F.mode = 0 ∨ s.get F.feedA ≠ 0 ∨ s.get F.feedB ≠ 0 → Does (.powerdownStart c) s fun t => t = s) ∧
  (∀ n s, Up s → Does (.crashDown n) s fun t =>
    t.pwr.off = true ∧ t.mem = [] ∧ t.get F.claim = 0 ∧ t.get F.driveEn = 0 ∧ t.pwr.latch.crash = true ∧ t.pwr.latch.done = false ∧
    t.pwr.latch.railId = n % 256 ∧ t.pwr.latch.railStep = s.crashStep ∧ t.pwr.latch.pwrBeat = s.now ∧
    t.get F.crashCount = satInc 32 (s.get F.crashCount) ∧ t.jr = { s.jr with
      pend := [], retry := [], lost := s.jr.lost ++ s.jr.pend, recBuf := [], recHold := [], recDropped := 0 } ∧
    (s.rt.mirror.isSome = true → (if s.rt.mirrorB then t.rt.slotB.valid else t.rt.slotA.valid) = false) ∧
    t.sec.audit = s.sec.audit) ∧
  (∀ n s, s.pwr.off = true → Does (.crashDown n) s fun t => t = s) ∧
  (∀ s, s.pwr.off = true → s.get F.mode ≠ 0 → s.get F.feedA ≠ 0 ∨ s.get F.feedB ≠ 0 → Does .powerdownRestart s fun t =>
    t.get F.mode = 1 ∧ t.get F.role = 0 ∧ t.pwr.off = false ∧ t.get F.epoch = nextEpoch (s.get F.epoch) ∧
    t.get F.lastEpochCause = 2 ∧ t.pwr.latch.wake = (if s.pwr.latch.crash then 6 else 1) ∧ t.units.noActive = true) ∧
  (∀ s, s.pwr.off = false → Does .powerdownRestart s fun t => t = s) ∧
  (∀ n s, s.get F.mode = 0 → Does (.dormantWake n) s fun t =>
    t.get F.mode = 1 ∧ t.get F.role = 0 ∧ t.pwr.off = false ∧ t.get F.epoch = nextEpoch (s.get F.epoch) ∧ t.pwr.latch.wake = n) ∧
  (∀ n s, s.get F.mode ≠ 0 → s.get F.pwr = 2 → s.dormantReady = true → Does (.dormantWake n) s fun t =>
    t = { s with pwr := { s.pwr with wakeAfter := some n } }) ∧
  (∀ n s, s.get F.mode ≠ 0 → s.get F.pwr = 2 → s.dormantReady = false → Does (.dormantWake n) s fun t =>
    t.get F.pwr = (if s.pwr.gated.isEmpty then 0 else 1) ∧ t.get F.pwrSeq = 0 ∧ t.get F.mode = s.get F.mode ∧
    Raised [eventOf s 364 1 1 [(8, n)]] s t ∧ RegsBut [(F.pwr, 0), (F.pwrSeq, 0), (F.gated, 0), (F.raised, 364)] s t ∧
    t = { s with regs := t.regs, ev := t.ev, pwr := { s.pwr with flush := false } }) ∧
  (∀ n s, s.get F.mode ≠ 0 → s.get F.pwr ≠ 2 → Does (.dormantWake n) s fun t => t = s) ∧
  (∀ s, s.get F.mode = 1 → s.pair.single = false → s.get F.linkUp = 0 → Does .partnerWakePulse s fun t =>
    t = { s with pwr := { s.pwr with wakePulsed := true } }) ∧
  (∀ s, s.get F.mode ≠ 1 → Does .partnerWakePulse s fun t => t = s) ∧
  (∀ s, s.pwr.off = true → s.get F.feedA = 1 ∨ s.get F.feedB = 1 → Does (.moduleInsert true) s fun t =>
    t.get F.mode = 1 ∧ t.get F.role = 0 ∧ t.pwr.off = false ∧ t.get F.releaseState = 0 ∧
    t.pwr.latch.wake = (if s.pwr.latch.crash then 6 else 1)) ∧
  (∀ b s, s.pwr.off = false ∨ b = false → Does (.moduleInsert b) s fun t => t = s) ∧
  (∀ s, Does .moduleRemove s fun t =>
    t.pwr.off = true ∧ t.get F.linkUp = 0 ∧ t.get F.claim = 0 ∧ t.get F.driveEn = 0 ∧ t.get F.feedA = 0 ∧ t.get F.feedB = 0 ∧
    t.lanes.down = [] ∧ t.panel.message = 0 ∧ (Up s → t.mem = [])) ∧
  (∀ n s, Does (.holdupBankCharged n) s fun t =>
    t.get F.bankV = min (n * 10) 65535 ∧ (t.get F.bankReady = if 5800 ≤ n * 10 ∧ 470 ≤ s.get F.bankCap then 1 else 0) ∧
    RegsBut [(F.bankV, 0), (F.bankReady, 0)] s t ∧ t = { s with regs := t.regs })

/-- TRIM gating: the timer of an idle unit starts an entry unless a refuser holds, the confirmation gates the entering units
of the partition, a wake abandons an entry before AP3 and else ungates the partition but for controllers of an absent row
(R24, R508 to R511, R516). -/
def Obligations.TrimGatesAndUngates : Prop :=
  (∀ (p : Fin 6) u n s, s.pwr.off = false → bitOf (s.get F.trimEnable) p.val = true → s.trimIdle p.val u = true →
    (∀ g ∈ s.pwr.gated, g.1 ≠ p.val * 256 + u) → (∀ e ∈ s.pwr.entering, e.1 ≠ p.val * 256 + u) → s.refuser p.val n = none →
    Does (.trimIdleTimer p u n) s fun t =>
      t = { s with pwr := { s.pwr with entering := s.pwr.entering ++ [(p.val * 256 + u, 1)] } }) ∧
  (∀ (p : Fin 6) u n i s, s.pwr.off = false → bitOf (s.get F.trimEnable) p.val = true → s.trimIdle p.val u = true →
    (∀ g ∈ s.pwr.gated, g.1 ≠ p.val * 256 + u) → (∀ e ∈ s.pwr.entering, e.1 ≠ p.val * 256 + u) →
    s.refuser p.val n = some i → i < 7 → Does (.trimIdleTimer p u n) s fun t =>
      (t.get (statFld p.val i) = if s.trimCounts then satInc 32 (s.get (statFld p.val i)) else s.get (statFld p.val i)) ∧
      RegsBut [(statFld p.val i, 0)] s t ∧ t = { s with regs := t.regs }) ∧
  (∀ (p : Fin 6) u n s, s.trimIdle p.val u = false → Does (.trimIdleTimer p u n) s fun t => t = s) ∧
  (∀ (p : Fin 6) s, Does (.trimEntryConfirm p) s fun t =>
    (∀ e ∈ t.pwr.entering, e.1 / 256 ≠ p.val) ∧
    (∀ e ∈ s.pwr.entering, e.1 / 256 = p.val → (e.1, s.opTicks) ∈ t.pwr.gated) ∧
    (∀ g ∈ s.pwr.gated, g ∈ t.pwr.gated) ∧ RegsBut [(statFld p.val 0, 0), (F.gated, 0), (F.pwr, 0)] s t ∧
    t = { s with regs := t.regs, pwr := { s.pwr with
      entering := t.pwr.entering, gated := t.pwr.gated, entries := t.pwr.entries } }) ∧
  (∀ (p : Fin 6) w (a : Fin 5) s, (∀ e ∈ s.pwr.entering, e.1 / 256 ≠ p.val) → Does (.trimWake p w a) s fun t =>
    (∀ g ∈ t.pwr.gated, g.1 / 256 = p.val → s.heldTrim g.1 = true) ∧
    (∀ g ∈ s.pwr.gated, g.1 / 256 ≠ p.val ∨ s.heldTrim g.1 = true → g ∈ t.pwr.gated) ∧
    RegsBut [(statFld p.val 8, 0), (statByte p.val 10, 0), (F.gated, 0), (F.pwr, 0)] s t ∧
    t = { s with regs := t.regs, pwr := { s.pwr with gated := t.pwr.gated, gatedFor := t.pwr.gatedFor } }) ∧
  (∀ (p : Fin 6) w (a : Fin 5) e s, e ∈ s.pwr.entering → e.1 / 256 = p.val → a.val < 3 → Does (.trimWake p w a) s fun t =>
    t.pwr = { s.pwr with entering := s.pwr.entering.filter (fun e => e.1 / 256 != p.val) } ∧
    RegsBut [(statFld p.val 1, 0), (statByte p.val 9, 0), (statByte p.val 10, 0)] s t ∧ t = { s with regs := t.regs, pwr := t.pwr })

/-- The panel: RESET acts by how long it was held, in the Freeze of its apply beat, and a stuck one is disabled until it is
open again; RELEASE and the press held with the key at STOP take the module out of service or are refused by its role; OK TO
REMOVE follows the quiesce; the key's positions are recorded and raised, and STOP stops the module or hands it over (R63 to
R65, R538 to R543). -/
def Obligations.TheButtonsAndTheKeyAct : Prop :=
  (∀ s, s.get F.resetState = 0 → s.pwr.off = false → Does (.buttonClosure false) s fun t =>
    t.get F.resetState = 1 ∧ RegsBut [(F.resetState, 0)] s t ∧ t = { s with regs := t.regs }) ∧
  (∀ s, s.get F.releaseState = 0 → s.pwr.off = false → Does (.buttonClosure true) s fun t =>
    t.get F.releaseState = 1 ∧ RegsBut [(F.releaseState, 0)] s t ∧ t = { s with regs := t.regs }) ∧
  (∀ s, s.get F.resetState ≠ 0 → Does (.buttonClosure false) s fun t => t = s) ∧
  (∀ n s, s.pwr.off = false → s.get F.resetState < 2 → s.get F.releaseState ≠ 2 → 50 ≤ n → n ≤ 10000 → s.beat.runs = true → Does (.resetRelease n) s fun t =>
    t.panel = { s.panel with acts := s.panel.acts ++ [{ act := if n < 2000 then 1 else 2, apply := s.eligible s.beat.off }] } ∧
    t.get F.resetState = 0 ∧ t.get F.resetCount = satInc 32 (s.get F.resetCount) ∧
    Raised [eventOf s 444 1 1 [(32, n), (8, if n < 2000 then 1 else 2)]] s t ∧
    RegsBut [(F.resetState, 0), (F.resetCount, 0), (F.raised, 444)] s t ∧ t = { s with regs := t.regs, ev := t.ev, panel := t.panel }) ∧
  (∀ n s, s.pwr.off = false → s.get F.resetState < 2 → s.get F.releaseState ≠ 2 → 10000 < n → Does (.resetRelease n) s fun t =>
    t.get F.resetState = 2 ∧ t.get F.stuckCount = satInc 32 (s.get F.stuckCount) ∧
    Raised [eventOf s 445 1 2 [(32, 10000), (8, 0)]] s t ∧
    RegsBut [(F.resetState, 0), (F.stuckCount, 0), (F.leds, 0), (F.raised, 445)] s t ∧ t = { s with regs := t.regs, ev := t.ev }) ∧
  (∀ n s, s.pwr.off = false → s.get F.resetState < 2 → s.get F.releaseState = 2 → 50 ≤ n → Does (.resetRelease n) s fun t =>
    t.get F.resetState = 0 ∧ RegsBut [(F.resetState, 0)] s t ∧ t = { s with regs := t.regs }) ∧
  (∀ n s, n < 50 ∨ 2 ≤ s.get F.resetState ∧ s.get F.resetState ≤ 3 → Does (.resetRelease n) s fun t => t = s) ∧
  (∀ b s, s.pwr.off = false → s.get F.resetState < 2 → Does (.stuckReset b) s fun t =>
    t.get F.resetState = (if b then 3 else 2) ∧ t.get F.stuckCount = satInc 32 (s.get F.stuckCount) ∧
    (b = true → t.panel.message = 3 ∧ t.get F.displayOn = 1) ∧
    Raised [eventOf s 445 1 2 [(32, if b then 0 else 10000), (8, if b then 1 else 0)]] s t ∧
    RegsBut [(F.resetState, 0), (F.stuckCount, 0), (F.leds, 0), (F.displayOn, 0), (F.raised, 445)] s t) ∧
  (∀ s, s.get F.resetState = 2 ∨ s.get F.resetState = 3 → Does .resetRearm s fun t =>
    t.get F.resetState = 0 ∧ RegsBut [(F.resetState, 0), (F.leds, 0)] s t ∧ t = { s with regs := t.regs }) ∧
  (∀ s, s.get F.resetState < 2 → Does .resetRearm s fun t => t = s) ∧
  (∀ n s, 50 ≤ n → n < 5000 ∨ s.get F.key ≠ 2 → Up s → s.get F.pwr ≠ 2 → s.get F.releaseState < 2 → s.get F.role = 1 →
    s.get F.mode = 3 → Does (.releasePress n) s fun t =>
      Raised [eventOf s 447 1 1 [(8, 2), (8, 2)]] s t ∧ t.panel = { s.panel with message := 1, reason := 2 } ∧
      t.get F.releaseState = 0 ∧ RegsBut [(F.releaseState, 0), (F.displayOn, 0), (F.raised, 447)] s t ∧
      t = { s with regs := t.regs, ev := t.ev, panel := t.panel }) ∧
  (∀ n s, 50 ≤ n → n < 5000 ∨ s.get F.key ≠ 2 → Up s → s.get F.pwr ≠ 2 → s.get F.releaseState < 2 → s.get F.role = 1 →
    s.get F.mode = 2 → s.beat.runs = true → Does (.releasePress n) s fun t =>
      t.panel.acts = s.panel.acts ++ [{ act := 3, apply := s.eligible s.beat.off }] ∧ t.get F.releaseState = 2 ∧
      t.get F.releaseCount = satInc 32 (s.get F.releaseCount) ∧ Raised [eventOf s 446 1 1 [(8, 0)]] s t ∧ t.mem = s.mem) ∧
  (∀ n s, 50 ≤ n → n < 5000 ∨ s.get F.key ≠ 2 → Up s → s.get F.pwr ≠ 2 → s.get F.releaseState < 2 → s.get F.role = 2 →
    s.get F.mode = 3 → s.pair.partnerReady = true → s.pair.handover = none → Does (.releasePress n) s fun t =>
      t.pair.handover = some { apply := s.eligible s.beat.off, cause := 2, after := 1 } ∧ t.panel.quiesceAfter = 1 ∧
      t.get F.releaseState = 2 ∧ Raised [eventOf s 446 1 1 [(8, 0)]] s t ∧ t.mem = s.mem) ∧
  (∀ n s, n < 50 → Does (.releasePress n) s fun t => t = s) ∧
  (∀ s, s.get F.key = 2 → Up s → s.get F.pwr ≠ 2 → s.get F.releaseState < 2 → s.get F.role = 1 → s.get F.mode = 3 →
    s.beat.runs = true → Does .releaseHold s fun t =>
      t.panel.acts = s.panel.acts ++ [{ act := 4, apply := s.eligible s.beat.off }] ∧ t.get F.releaseState = 2 ∧
      Raised [eventOf s 446 1 1 [(8, 1)]] s t ∧ t.mem = s.mem) ∧
  (∀ s, s.get F.key ≠ 2 → Does .releaseHold s fun t => t = s) ∧
  (∀ s, s.get F.releaseState = 2 → s.get F.role = 0 → Does .okToRemove s fun t =>
    t.get F.releaseState = 3 ∧ t.panel = { s.panel with message := 4, reason := 0 } ∧ t.get F.displayOn = 1 ∧
    Raised [eventOf s 448 1 0 [(32, s.now)]] s t ∧
    RegsBut [(F.releaseState, 0), (F.displayOn, 0), (F.leds, 0), (F.raised, 448)] s t ∧
    t = { s with regs := t.regs, ev := t.ev, panel := t.panel }) ∧
  (∀ s, s.get F.releaseState ≠ 2 → Does .okToRemove s fun t => t = s) ∧
  (∀ (k : Fin 4) s, s.get F.key = k.val → Does (.keyChange k) s fun t => t = s) ∧
  (∀ (k : Fin 4) s, s.get F.key ≠ k.val → k.val = 2 → s.get F.role = 1 → Does (.keyChange k) s fun t =>
    t.get F.key = 2 ∧ Recorded 0x10 0 2 t ∧ eventOf s 442 1 0 [(2, s.get F.key), (2, 2)] ∈ t.ev.router ∧
    t.beat.causes = s.beat.causes ++ [{ kind := .keyStop, beat := s.now, code := 3 }] ∧
    RegsBut ([(F.key, 0), (F.raised, 442)] ++ auditRegs) s t ∧ t.mem = s.mem) ∧
  (∀ (k : Fin 4) s, s.get F.key ≠ k.val → k.val = 2 → s.canPlan = true → s.pair.partnerKeyStop = false → s.pair.handover = none →
    Does (.keyChange k) s fun t => t.get F.key = 2 ∧ t.beat = s.beat ∧
      t.pair.handover = some { apply := if s.beat.committed = true ∨ 42400 ≤ s.beat.off then s.now + 1 else s.now
                               cause := 4, after := 1 } ∧ Recorded 0x10 0 2 t) ∧
  (∀ (k : Fin 4) ho s, s.get F.key ≠ k.val → k.val = 2 → s.canPlan = true → s.pair.partnerKeyStop = false →
    s.pair.handover = some ho → Does (.keyChange k) s fun t => t.get F.key = 2 ∧ t.beat = s.beat ∧
      t.pair.handover = some { ho with after := if ho.after = 2 then 2 else 1 } ∧ Recorded 0x10 0 2 t) ∧
  (∀ (k : Fin 4) s, s.get F.key = 2 → k.val < 2 → Does (.keyChange k) s fun t =>
    t.get F.key = k.val ∧ t.panel.acts = s.panel.acts ++ [{ act := if k.val = 1 then 6 else 5, apply := s.eligible s.beat.off }] ∧
    t.panel.keyFault = false ∧ t.beat = s.beat) ∧
  (∀ (k : Fin 4) s, s.get F.key < 2 → k.val = 3 → Does (.keyChange k) s fun t =>
    t.get F.key = 3 ∧ t.panel.keyFault = true ∧ (∃ n, n < 4 ∧ RaisedLast [eventOf s 443 1 2 [(32, n)]] s t) ∧ t.beat = s.beat)

/-- The display and its touch keys change only what the panel shows (R546). -/
def Obligations.TouchKeysMoveTheDisplay : Prop :=
  (∀ s, s.pwr.off = false → Does .touchPage s fun t =>
    t.get F.page = (s.get F.page + 1) % 7 ∧ t.get F.displayOn = 1 ∧ RegsBut [(F.page, 0), (F.displayOn, 0)] s t ∧
    t = { s with regs := t.regs, panel := { s.panel with scroll := 0 } }) ∧
  (∀ s, s.pwr.off = false → Does .touchSelect s fun t =>
    t.get F.displayOn = 1 ∧ RegsBut [(F.displayOn, 0)] s t ∧
    t = { s with regs := t.regs, panel := { s.panel with scroll := s.panel.scroll + 1 } }) ∧
  (∀ s, s.pwr.off = false → Does .touchBack s fun t =>
    t.get F.page = 0 ∧ t.get F.displayOn = 1 ∧ RegsBut [(F.page, 0), (F.displayOn, 0)] s t ∧
    t = { s with regs := t.regs, panel := { s.panel with scroll := 0 } }) ∧
  (∀ s, s.pwr.off = false → Does .touchAck s fun t =>
    (∀ l n r, s.panel.events = l ++ (n, false) :: r → (∀ e ∈ l, e.2 = true) → t.panel.events = l ++ (n, true) :: r) ∧
    ((∀ e ∈ s.panel.events, e.2 = true) → t.panel.events = s.panel.events) ∧
    RegsBut [(F.displayOn, 0), (F.leds, 0)] s t ∧ t = { s with regs := t.regs, panel := { s.panel with events := t.panel.events } }) ∧
  (∀ s, s.pwr.off = true → Does .touchPage s (fun t => t = s) ∧ Does .touchSelect s (fun t => t = s) ∧
    Does .touchBack s (fun t => t = s) ∧ Does .touchAck s (fun t => t = s)) ∧
  (∀ s, s.panel.message = 0 → Does .displayTimeout s fun t =>
    t.get F.displayOn = 0 ∧ RegsBut [(F.displayOn, 0)] s t ∧ t = { s with regs := t.regs }) ∧
  (∀ s, s.panel.message ≠ 0 → Does .displayTimeout s fun t => t = s) ∧
  (∀ s, s.panel.message ≠ 4 → Does .panelMessageTimeout s fun t =>
    t = { s with panel := { s.panel with message := 0, reason := 0 } }) ∧
  (∀ s, s.panel.message = 4 → Does .panelMessageTimeout s fun t => t = s)
end

