-- ==== Sys2Proof/Laws/Regs.lean ====
section
/-! SUPPORT. The register file and the memory as data: what a read sees after a write, and that every write keeps the
canonical form. -/

namespace Sys2Proof.Machine

open Sys2Proof

/-! Register file. -/

theorem regGet_regPut_self (l : List (Nat × Nat)) (k v d : Nat) : regGet (regPut l k v) k d = v := by
  induction l with
  | nil => simp [regPut, regGet]
  | cons p t ih =>
    obtain ⟨a, w⟩ := p
    unfold regPut
    split
    · simp [regGet]
    · split
      · simp [regGet]
      · rename_i h; simp [regGet, h, ih]

theorem regGet_regPut_ne {k k' : Nat} (h : k' ≠ k) (l : List (Nat × Nat)) (v d : Nat) :
    regGet (regPut l k v) k' d = regGet l k' d := by
  induction l with
  | nil => simp [regPut, regGet, h.symm]
  | cons p t ih =>
    obtain ⟨a, w⟩ := p
    unfold regPut
    split
    · simp [regGet, h.symm]
    · split
      · rename_i e; subst e; simp [regGet, h.symm]
      · simp [regGet, ih]

/-- A key below every listed one. -/
def regBelow (k : Nat) (l : List (Nat × Nat)) : Prop := ∀ p ∈ l, k < p.1

theorem regWf_cons {p : Nat × Nat} {t : List (Nat × Nat)} : regWf (p :: t) = true ↔ regBelow p.1 t ∧ regWf t = true := by
  induction t generalizing p with
  | nil => simp [regWf, regBelow]
  | cons q t ih =>
    simp only [regWf, Bool.and_eq_true, decide_eq_true_eq, regBelow, List.mem_cons, forall_eq_or_imp]
    constructor
    · rintro ⟨h, w⟩
      exact ⟨⟨h, fun x hx => lt_trans h ((ih.1 w).1 x hx)⟩, w⟩
    · rintro ⟨⟨h, -⟩, w⟩
      exact ⟨h, w⟩

theorem regBelow_regPut {k a v : Nat} {l : List (Nat × Nat)} (h : regBelow k l) (ha : k < a) : regBelow k (regPut l a v) := by
  induction l with
  | nil => simpa [regPut, regBelow] using ha
  | cons p t ih =>
    obtain ⟨b, w⟩ := p
    have hb : k < b := h (b, w) (by simp)
    have ht : regBelow k t := fun x hx => h x (by simp [hx])
    unfold regPut
    split
    · intro x hx
      rcases List.mem_cons.1 hx with rfl | hx
      · exact ha
      · exact h x hx
    · split
      · intro x hx
        rcases List.mem_cons.1 hx with rfl | hx
        · exact ha
        · exact ht x hx
      · intro x hx
        rcases List.mem_cons.1 hx with rfl | hx
        · exact hb
        · exact ih ht x hx

theorem regWf_regPut {l : List (Nat × Nat)} (h : regWf l = true) (k v : Nat) : regWf (regPut l k v) = true := by
  induction l with
  | nil => simp [regPut, regWf]
  | cons p t ih =>
    obtain ⟨a, w⟩ := p
    obtain ⟨hb, ht⟩ := regWf_cons.1 h
    unfold regPut
    split
    · rename_i hk
      refine regWf_cons.2 ⟨?_, h⟩
      intro x hx
      rcases List.mem_cons.1 hx with rfl | hx
      · exact hk
      · exact lt_trans hk (hb x hx)
    · split
      · rename_i e; subst e
        exact regWf_cons.2 ⟨hb, ht⟩
      · rename_i h1 h2
        exact regWf_cons.2 ⟨regBelow_regPut hb (by show a < k; omega), ih ht⟩

theorem regWf_filter {l : List (Nat × Nat)} (h : regWf l = true) (p : Nat × Nat → Bool) : regWf (l.filter p) = true := by
  induction l with
  | nil => simpa using h
  | cons q t ih =>
    obtain ⟨hb, ht⟩ := regWf_cons.1 h
    rw [List.filter_cons]
    split
    · exact regWf_cons.2 ⟨fun x hx => hb x (List.mem_filter.1 hx).1, ih ht⟩
    · exact ih ht

theorem regGet_filter {p : Nat × Nat → Bool} {k : Nat} (h : ∀ v, p (k, v) = true) (l : List (Nat × Nat)) (d : Nat) :
    regGet (l.filter p) k d = regGet l k d := by
  induction l with
  | nil => rfl
  | cons q t ih =>
    obtain ⟨a, w⟩ := q
    rw [List.filter_cons]
    split
    · simp [regGet, ih]
    · rename_i hp
      by_cases e : a = k
      · subst e; exact absurd (h w) hp
      · simp [regGet, e, ih]

/-! Fields. -/

theorem State.get_put_self (s : State) (f : Fld) (v k : Nat) : (s.put f v k).get f k = v % 2 ^ f.w := by
  simp [State.get, State.put, regGet_regPut_self]

theorem State.get_put_ne {s : State} {f g : Fld} {v k j : Nat} (h : fldKey g j ≠ fldKey f k) :
    (s.put f v k).get g j = s.get g j := by
  simp [State.get, State.put, regGet_regPut_ne h]

/-! Memory. -/

/-- An address below every listed one. -/
def memBelow (k : Nat) (l : List Host.Cell) : Prop := ∀ p ∈ l, k < p.1

theorem memWf_cons {p : Host.Cell} {t : List Host.Cell} :
    memWf (p :: t) = true ↔ p.2 ≠ 0 ∧ memBelow p.1 t ∧ memWf t = true := by
  induction t generalizing p with
  | nil => simp [memWf, memBelow]
  | cons q t ih =>
    simp only [memWf, Bool.and_eq_true, decide_eq_true_eq, memBelow, List.mem_cons, forall_eq_or_imp]
    constructor
    · rintro ⟨h0, h, w⟩
      exact ⟨h0, ⟨h, fun x hx => lt_trans h ((ih.1 w).2.1 x hx)⟩, w⟩
    · rintro ⟨h0, ⟨h, -⟩, w⟩
      exact ⟨h0, h, w⟩

theorem memGet_below {k : Nat} {l : List Host.Cell} (h : memBelow k l) : memGet l k = 0 := by
  induction l with
  | nil => rfl
  | cons p t ih =>
    obtain ⟨a, w⟩ := p
    have ha : k < a := h (a, w) (by simp)
    simp only [memGet]
    rw [if_neg (by omega)]
    exact ih (fun x hx => h x (by simp [hx]))

theorem memGet_memPut_self {l : List Host.Cell} (h : memWf l = true) (a : Nat) (v : BitVec 8) :
    memGet (memPut l a v) a = v := by
  induction l with
  | nil =>
    unfold memPut
    split
    · rename_i e; simp [memGet, e]
    · simp [memGet]
  | cons p t ih =>
    obtain ⟨k, w⟩ := p
    obtain ⟨h0, hb, ht⟩ := memWf_cons.1 h
    unfold memPut
    split
    · rename_i hk
      split
      · rename_i e; subst e
        refine memGet_below (l := (k, w) :: t) ?_
        intro x hx
        rcases List.mem_cons.1 hx with rfl | hx
        · exact hk
        · exact lt_trans hk (hb x hx)
      · simp [memGet]
    · split
      · rename_i e; subst e
        split
        · rename_i e; subst e; exact memGet_below hb
        · simp [memGet]
      · rename_i h1; simp [memGet, h1, ih ht]

theorem memGet_memPut_ne {a b : Nat} (h : b ≠ a) (l : List Host.Cell) (v : BitVec 8) :
    memGet (memPut l a v) b = memGet l b := by
  induction l with
  | nil =>
    unfold memPut
    split
    · rfl
    · simp [memGet, h.symm]
  | cons p t ih =>
    obtain ⟨k, w⟩ := p
    unfold memPut
    split
    · split
      · rfl
      · simp [memGet, h.symm]
    · split
      · rename_i e; subst e
        split
        · simp [memGet, h.symm]
        · simp [memGet, h.symm]
      · simp [memGet, ih]

theorem memBelow_memPut {k a : Nat} {v : BitVec 8} {l : List Host.Cell} (h : memBelow k l) (ha : k < a) :
    memBelow k (memPut l a v) := by
  induction l with
  | nil =>
    unfold memPut
    split
    · exact h
    · simpa [memBelow] using ha
  | cons p t ih =>
    obtain ⟨b, w⟩ := p
    have hb : k < b := h (b, w) (by simp)
    have ht : memBelow k t := fun x hx => h x (by simp [hx])
    unfold memPut
    split
    · split
      · exact h
      · intro x hx
        rcases List.mem_cons.1 hx with rfl | hx
        · exact ha
        · exact h x hx
    · split
      · split
        · exact ht
        · intro x hx
          rcases List.mem_cons.1 hx with rfl | hx
          · exact ha
          · exact ht x hx
      · intro x hx
        rcases List.mem_cons.1 hx with rfl | hx
        · exact hb
        · exact ih ht x hx

/-- A byte write keeps the canonical form. -/
theorem memWf_memPut {l : List Host.Cell} (h : memWf l = true) (a : Nat) (v : BitVec 8) : memWf (memPut l a v) = true := by
  induction l with
  | nil =>
    unfold memPut
    split
    · rfl
    · rename_i e; simpa [memWf] using e
  | cons p t ih =>
    obtain ⟨k, w⟩ := p
    obtain ⟨h0, hb, ht⟩ := memWf_cons.1 h
    unfold memPut
    split
    · rename_i hk
      split
      · exact h
      · rename_i e
        refine memWf_cons.2 ⟨e, ?_, h⟩
        intro x hx
        rcases List.mem_cons.1 hx with rfl | hx
        · exact hk
        · exact lt_trans hk (hb x hx)
    · split
      · rename_i e; subst e
        split
        · exact ht
        · rename_i e; exact memWf_cons.2 ⟨e, hb, ht⟩
      · rename_i h1 h2
        exact memWf_cons.2 ⟨h0, memBelow_memPut hb (by show k < a; omega), ih ht⟩

/-- A write of several bytes keeps the canonical form. -/
theorem memWf_memWrite {l : List Host.Cell} (h : memWf l = true) (a v n : Nat) : memWf (memWrite l a v n) = true := by
  induction n generalizing l a v with
  | zero => exact h
  | succ n ih => exact ih (memWf_memPut h a _) (a + 1) (v / 256)

/-- A write of `n` bytes leaves every other byte. -/
theorem memGet_memWrite_out {a v n b : Nat} (h : b < a ∨ a + n ≤ b) (l : List Host.Cell) :
    memGet (memWrite l a v n) b = memGet l b := by
  induction n generalizing l a v with
  | zero => rfl
  | succ n ih =>
    simp only [memWrite]
    rw [ih (by omega), memGet_memPut_ne (by omega)]

/-- What was written is read back. -/
theorem memRead_memWrite {l : List Host.Cell} (h : memWf l = true) (a v n : Nat) :
    memRead (memWrite l a v n) a n = v % 256 ^ n := by
  induction n generalizing l a v with
  | zero => simp [memRead, Nat.mod_one]
  | succ n ih =>
    simp only [memWrite, memRead]
    rw [memGet_memWrite_out (by omega), memGet_memPut_self h, ih (memWf_memPut h a _), BitVec.toNat_ofNat]
    have e : (256 : Nat) ^ (n + 1) = 256 * 256 ^ n := pow_succ' 256 n
    rw [e, Nat.mod_mul]

/-! Registers of different fields (R373): the keys of two fields never meet, whatever the instances. -/

/-- Two fields lie apart: in different places of their objects, or in objects of different numbers. -/
def fldApart (f g : Fld) : Bool :=
  f.home % 4194304 != g.home % 4194304 || decide (f.home / 4194304 + f.cnt ≤ g.home / 4194304)
    || decide (g.home / 4194304 + g.cnt ≤ f.home / 4194304)

theorem fldKey_apart {f g : Fld} (h : fldApart f g = true) (hf : 0 < f.cnt) (hg : 0 < g.cnt) (k j : Nat) :
    fldKey f k ≠ fldKey g j := by
  have a := Nat.mod_lt k hf
  have b := Nat.mod_lt j hg
  simp only [fldApart, Bool.or_eq_true, bne_iff_ne, decide_eq_true_eq] at h
  simp only [fldKey]
  omega

theorem State.get_put_apart {s : State} {f g : Fld} {v k j : Nat} (h : (fldApart g f && decide (0 < g.cnt) && decide (0 < f.cnt)) = true) :
    (s.put f v k).get g j = s.get g j := by
  simp only [Bool.and_eq_true, decide_eq_true_eq] at h
  exact State.get_put_ne (fldKey_apart h.1.1 h.1.2 h.2 j k)

end Sys2Proof.Machine
end

