-- ==== Sys2Proof/Laws/MKeptBase.lean ====
section
/-! SUPPORT. `MKept`: an operation leaves MODE and ROLE. The lemmas of the shared operations; MKeptAll holds one lemma
per function. -/

namespace Sys2Proof.Machine

open Sys2Proof

/-- From `s` to `t` MODE and ROLE stand. -/
structure MKept (s t : State) : Prop where
  same : s.ModeFits → t.get F.mode = s.get F.mode ∧ t.get F.role = s.get F.role

theorem MKept.refl (s : State) : MKept s s := ⟨fun _ => ⟨rfl, rfl⟩⟩

theorem MKept.fits {s t : State} (h : MKept s t) (f : s.ModeFits) : t.ModeFits := by
  obtain ⟨a, b⟩ := h.same f
  exact ⟨a ▸ f.1, b ▸ f.2⟩

theorem MKept.trans {s t u : State} (h : MKept s t) (k : MKept t u) : MKept s u :=
  ⟨fun f => ⟨(k.same (h.fits f)).1.trans (h.same f).1, (k.same (h.fits f)).2.trans (h.same f).2⟩⟩

theorem MKept.upd {s t u : State} (h : MKept s t) (hr : u.regs = t.regs) : MKept s u := by
  constructor
  intro f
  simpa only [State.get, hr] using h.same f

theorem MKept.mkUpd {s t : State} (h : MKept s t) {mem free ev lcp jr units wd rt rtY rtZ loops pair sec triad pwr img panel lanes field time pending} {beat : BeatSt} {can : CanSt} :
    MKept s (State.mk t.regs mem free beat ev lcp jr units wd rt rtY rtZ loops pair sec triad pwr img panel lanes field time can pending) :=
  ⟨h.same⟩

theorem MKept.ite {s a b : State} {c : Prop} [Decidable c] (ha : MKept s a) (hb : MKept s b) : MKept s (if c then a else b) := by
  split <;> assumption

theorem MKept.iteFst {α : Type} {s : State} {a b : State × α} {c : Prop} [Decidable c] (ha : MKept s a.1) (hb : MKept s b.1) :
    MKept s (if c then a else b).1 := by
  split <;> assumption

theorem MKept.iteSnd {α : Type} {s : State} {a b : α × State} {c : Prop} [Decidable c] (ha : MKept s a.2) (hb : MKept s b.2) :
    MKept s (if c then a else b).2 := by
  split <;> assumption

theorem MKept.iteSt {s : State} {a b : Ans} {c : Prop} [Decidable c] (ha : MKept s a.st) (hb : MKept s b.st) :
    MKept s (if c then a else b).st := by
  split <;> assumption

theorem MKept.foldl {α : Type} {s t : State} {f : State → α → State} {l : List α} (h : MKept s t)
    (hf : ∀ u a, MKept u (f u a)) : MKept s (l.foldl f t) := by
  induction l generalizing t with
  | nil => exact h
  | cons a l ih => exact ih (h.trans (hf t a))

theorem MKept.foldlSnd {α β : Type} {s : State} {t : β × State} {f : β × State → α → β × State} {l : List α}
    (h : MKept s t.2) (hf : ∀ u a, MKept u.2 (f u a).2) : MKept s (l.foldl f t).2 := by
  induction l generalizing t with
  | nil => exact h
  | cons a l ih => exact ih (h.trans (hf t a))

theorem MKept.foldlFst {α β : Type} {s : State} {t : State × β} {f : State × β → α → State × β} {l : List α}
    (h : MKept s t.1) (hf : ∀ u a, MKept u.1 (f u a).1) : MKept s (l.foldl f t).1 := by
  induction l generalizing t with
  | nil => exact h
  | cons a l ih => exact ih (h.trans (hf t a))

theorem MKept.ofSnd {α : Type} {s x : State} {e : α × State} {a : α} (h : e = (a, x)) (k : MKept s e.2) : MKept s x := by
  subst h; exact k

theorem MKept.ofFst {α : Type} {s x : State} {e : State × α} {a : α} (h : e = (x, a)) (k : MKept s e.1) : MKept s x := by
  subst h; exact k

theorem MKept.thenUnits {c : Prop} [Decidable c] {s t : State} {u : UnitSt} (h : MKept s t) :
    MKept s (if c then { t with units := u } else t) := by
  split
  · exact MKept.mkUpd h
  · exact h

/-- A key that is none of the two, whatever the copy number: by its place in the map. -/
def Fld.calm (f : Fld) : Bool :=
  decide (67108867 < f.home) || (f.home % 4194304 != 0 && f.home % 4194304 != 3)

theorem Fld.calm_keys {f : Fld} (h : f.calm = true) (k : Nat) : fldKey f k ∉ [fldKey F.mode 0, fldKey F.role 0] := by
  simp only [Fld.calm, Bool.or_eq_true, decide_eq_true_eq, Bool.and_eq_true, bne_iff_ne] at h
  simp only [fldKey, F.mode, F.role, List.mem_cons, List.not_mem_nil, or_false]
  omega

theorem Fld.calm_next {f : Fld} (h : decide (67108867 < f.home) = true) (i : Nat) : (f.next i).calm = true := by
  have h := of_decide_eq_true h
  have k : 67108867 < (f.next i).home := Nat.lt_of_lt_of_le h (Nat.le_add_right _ _)
  rw [Fld.calm, decide_eq_true k, Bool.true_or]

theorem MKept.putKey {s : State} {f : Fld} {v k : Nat} (h : fldKey f k ∉ [fldKey F.mode 0, fldKey F.role 0]) : MKept s (s.put f v k) := by
  simp only [List.mem_cons, List.not_mem_nil, or_false, not_or] at h
  exact ⟨fun _ => ⟨State.get_put_ne (Ne.symm h.1), State.get_put_ne (Ne.symm h.2)⟩⟩

theorem MKept.put {s : State} {f : Fld} {v k : Nat} (h : f.calm = true) : MKept s (s.put f v k) := MKept.putKey (f.calm_keys h k)
theorem MKept.putFlag {s : State} {f : Fld} {b : Bool} {k : Nat} (h : f.calm = true) : MKept s (s.putFlag f b k) := MKept.put h
theorem MKept.inc {s : State} {f : Fld} {k : Nat} (h : f.calm = true) : MKept s (s.inc f k) := MKept.put h
theorem MKept.add {s : State} {f : Fld} {d k : Nat} (h : f.calm = true) : MKept s (s.add f d k) := MKept.put h
theorem MKept.peak {s : State} {f : Fld} {v k : Nat} (h : f.calm = true) : MKept s (s.peak f v k) := by
  unfold State.peak; split
  · exact MKept.put h
  · exact MKept.refl s

end Sys2Proof.Machine
end

