-- ==== Sys2Proof/Laws/MKeptAll.lean ====
section
/-! SUPPORT. Which functions leave MODE and ROLE: every one but those that the commands which change them go through. -/

set_option maxRecDepth 4000
namespace Sys2Proof.Machine

open Sys2Proof

theorem State.fresh_mk {a0 : _} {a1 : _} : MKept a0 (@State.fresh a0 a1).2 := by
  unfold State.fresh
  dsimp only
  refine MKept.mkUpd ?_
  exact MKept.refl _

theorem State.raise_mk {a0 : _} {a1 : _} {a2 : _} {a3 : _} {a4 : _} : MKept a0 (@State.raise a0 a1 a2 a3 a4) := by
  unfold State.raise
  dsimp only
  refine MKept.mkUpd ?_
  refine MKept.trans ?_ (MKept.inc (by decide))
  exact MKept.refl _

theorem State.raiseWsl_mk {a0 : _} {a1 : _} {a2 : _} {a3 : _} {a4 : _} {a5 : _} : MKept a0 (@State.raiseWsl a0 a1 a2 a3 a4 a5) := by
  unfold State.raiseWsl
  dsimp only
  refine MKept.mkUpd ?_
  refine MKept.trans ?_ (MKept.inc (by decide))
  exact MKept.refl _

theorem State.journal_mk {a0 : _} {a1 : _} {a2 : _} {a3 : _} {a4 : _} {a5 : _} {a6 : _} : MKept a0 (@State.journal a0 a1 a2 a3 a4 a5 a6) := by
  unfold State.journal
  dsimp only
  refine MKept.ite ?_ ?_
  · refine MKept.mkUpd ?_
    exact MKept.refl _
  · refine MKept.trans ?_ State.raise_mk
    refine MKept.mkUpd ?_
    exact MKept.refl _

theorem State.journalRetry_mk {a0 : _} : MKept a0 (@State.journalRetry a0) := by
  unfold State.journalRetry
  refine MKept.foldl ?_ (fun v0 v1 => ?_)
  · exact MKept.refl _
  · refine MKept.ite ?_ ?_
    · refine MKept.trans ?_ State.journal_mk
      exact MKept.refl _
    · exact MKept.refl _

theorem State.journalNew_mk {a0 : _} {a1 : _} {a2 : _} {a3 : _} {a4 : _} {a5 : _} : MKept a0 (@State.journalNew a0 a1 a2 a3 a4 a5) := by
  unfold State.journalNew
  split
  · rename_i v0 v1 v2
    refine MKept.ite ?_ ?_
    · exact MKept.refl _
    · refine MKept.trans ?_ State.journal_mk
      exact MKept.refl _
  · rename_i v3 v4
    refine MKept.ite ?_ ?_
    · exact MKept.refl _
    · refine MKept.trans ?_ State.journal_mk
      exact MKept.refl _

theorem State.dropTransfers_mk {a0 : _} {a1 : _} : MKept a0 (@State.dropTransfers a0 a1) := by
  unfold State.dropTransfers
  refine MKept.mkUpd ?_
  exact MKept.refl _

theorem State.bumpOwn_mk {a0 : _} {a1 : _} : MKept a0 (@State.bumpOwn a0 a1) := by
  unfold State.bumpOwn
  dsimp only
  refine MKept.trans ?_ State.journal_mk
  refine MKept.trans ?_ State.dropTransfers_mk
  iterate 3 refine MKept.trans ?_ (MKept.put (by decide))
  exact MKept.refl _

theorem State.bumpPair_mk {a0 : _} {a1 : _} : MKept a0 (@State.bumpPair a0 a1) := by
  unfold State.bumpPair
  dsimp only
  refine MKept.trans ?_ State.journal_mk
  refine MKept.trans ?_ State.dropTransfers_mk
  refine MKept.mkUpd ?_
  exact MKept.refl _

theorem State.putUnit_mk {a0 : _} {a1 : _} : MKept a0 (@State.putUnit a0 a1) := by
  unfold State.putUnit
  refine MKept.mkUpd ?_
  exact MKept.refl _

theorem State.bumpUnit_mk {a0 : _} {a1 : _} {a2 : _} : MKept a0 (@State.bumpUnit a0 a1 a2) := by
  unfold State.bumpUnit
  dsimp only
  refine MKept.trans ?_ State.journal_mk
  refine MKept.trans ?_ State.putUnit_mk
  exact MKept.refl _

theorem State.latch_mk {a0 : _} {a1 : _} : MKept a0 (@State.latch a0 a1) := by
  unfold State.latch
  refine MKept.mkUpd ?_
  exact MKept.refl _

theorem State.latchCounts_mk {a0 : _} {a1 : _} : MKept a0 (@State.latchCounts a0 a1) := by
  unfold State.latchCounts
  refine MKept.trans ?_ State.latch_mk
  exact MKept.refl _

theorem State.raiseLatched_mk {a0 : _} {a1 : _} {a2 : _} {a3 : _} {a4 : _} : MKept a0 (@State.raiseLatched a0 a1 a2 a3 a4) := by
  unfold State.raiseLatched
  refine MKept.trans ?_ State.raise_mk
  refine MKept.trans ?_ State.latch_mk
  exact MKept.refl _

theorem State.audit_mk {a0 : _} {a1 : _} {a2 : _} {a3 : _} {a4 : _} {a5 : _} : MKept a0 (@State.audit a0 a1 a2 a3 a4 a5) := by
  unfold State.audit
  dsimp only
  refine MKept.ite ?_ ?_
  · refine MKept.trans ?_ State.raise_mk
    refine MKept.trans ?_ (MKept.inc (by decide))
    refine MKept.trans ?_ (MKept.put (by decide))
    refine MKept.trans ?_ (MKept.put (by decide))
    refine MKept.mkUpd ?_
    exact MKept.refl _
  · refine MKept.trans ?_ (MKept.put (by decide))
    refine MKept.trans ?_ (MKept.put (by decide))
    refine MKept.mkUpd ?_
    exact MKept.refl _

theorem State.auditBy_mk {a0 : _} {a1 : _} {a2 : _} {a3 : _} {a4 : _} : MKept a0 (@State.auditBy a0 a1 a2 a3 a4) := by
  unfold State.auditBy
  split
  · rename_i v0 v1 v2
    refine MKept.trans ?_ State.audit_mk
    exact MKept.refl _
  · rename_i v3 v4
    refine MKept.trans ?_ State.audit_mk
    exact MKept.refl _

theorem State.dropCycles_mk {a0 : _} : MKept a0 (@State.dropCycles a0) := by
  unfold State.dropCycles
  dsimp only
  refine MKept.mkUpd ?_
  refine MKept.foldl ?_ (fun v0 v1 => ?_)
  · exact MKept.refl _
  · refine MKept.ite ?_ ?_
    · refine MKept.ite ?_ ?_
      · refine MKept.trans ?_ (MKept.put (by decide))
        exact MKept.refl _
      · exact MKept.refl _
    · refine MKept.trans ?_ (MKept.put (by decide))
      refine MKept.ite ?_ ?_
      · refine MKept.trans ?_ (MKept.put (by decide))
        exact MKept.refl _
      · exact MKept.refl _

theorem State.endDebug_mk {a0 : _} {a1 : _} : MKept a0 (@State.endDebug a0 a1) := by
  unfold State.endDebug
  refine MKept.ite ?_ ?_
  · exact MKept.refl _
  · dsimp only
    refine MKept.trans ?_ State.raise_mk
    refine MKept.mkUpd ?_
    iterate 4 refine MKept.trans ?_ (MKept.put (by decide))
    refine MKept.trans ?_ State.auditBy_mk
    refine MKept.ite ?_ ?_
    · refine MKept.trans ?_ State.dropCycles_mk
      exact MKept.refl _
    · exact MKept.refl _

theorem State.putDio_mk {a0 : _} {a1 : _} : MKept a0 (@State.putDio a0 a1) := by
  unfold State.putDio
  refine MKept.mkUpd ?_
  exact MKept.refl _

theorem State.putAo_mk {a0 : _} {a1 : _} : MKept a0 (@State.putAo a0 a1) := by
  unfold State.putAo
  refine MKept.mkUpd ?_
  exact MKept.refl _

theorem State.fieldOff_mk {a0 : _} : MKept a0 (@State.fieldOff a0) := by
  unfold State.fieldOff
  dsimp only
  refine MKept.foldl ?_ (fun v0 v1 => ?_)
  · refine MKept.foldl ?_ (fun v2 v3 => ?_)
    · exact MKept.refl _
    · refine MKept.trans ?_ (MKept.put (by decide))
      refine MKept.trans ?_ (MKept.put (by decide))
      refine MKept.trans ?_ State.putDio_mk
      exact MKept.refl _
  · refine MKept.trans ?_ (MKept.put (by decide))
    refine MKept.trans ?_ State.putAo_mk
    exact MKept.refl _

theorem State.refreshDrive_mk {a0 : _} : MKept a0 (@State.refreshDrive a0) := by
  unfold State.refreshDrive
  dsimp only
  refine MKept.trans ?_ (MKept.putFlag (by decide))
  refine MKept.trans ?_ (MKept.putFlag (by decide))
  exact MKept.refl _

theorem MKept.thenBump {c : Prop} [Decidable c] {s t : State} {n : Nat} (h : MKept s t) :
    MKept s (if c then t.bumpPair n else t) := by
  split
  · exact MKept.trans h State.bumpPair_mk
  · exact h

/-- A mode change that names the mode and role that stand changes READY and SAFE_CAUSE alone. -/
theorem State.setMode_same {s t : State} {a b c d e f : Nat} (h : MKept s t) (ha : t.get F.mode = a) (hb : t.get F.role = b) : MKept s (t.setMode a b c d e f) := by
  refine MKept.trans h ⟨fun hf => ?_⟩
  obtain ⟨hm, hr⟩ := hf
  rw [ha] at hm
  rw [hb] at hr
  unfold State.setMode
  dsimp only
  split
  · exact ⟨rfl, rfl⟩
  · have key : ∀ u, MKept ((((t.put F.mode a).put F.role b).put F.ready c).put F.safeCause d) u → u.get F.mode = t.get F.mode ∧ u.get F.role = t.get F.role := by
      intro u hu
      have e1 : ((((t.put F.mode a).put F.role b).put F.ready c).put F.safeCause d).get F.mode = a := by
        rw [State.get_put_ne (by decide), State.get_put_ne (by decide), State.get_put_ne (by decide), State.get_put_self]
        exact Nat.mod_eq_of_lt hm
      have e2 : ((((t.put F.mode a).put F.role b).put F.ready c).put F.safeCause d).get F.role = b := by
        rw [State.get_put_ne (by decide), State.get_put_ne (by decide), State.get_put_self]
        exact Nat.mod_eq_of_lt hr
      obtain ⟨x, y⟩ := hu.same ⟨by rw [e1]; exact hm, by rw [e2]; exact hr⟩
      exact ⟨by rw [x, e1, ha], by rw [y, e2, hb]⟩
    apply key
    refine MKept.trans ?_ State.raise_mk
    refine MKept.trans ?_ State.refreshDrive_mk
    refine MKept.thenUnits ?_
    refine MKept.thenUnits ?_
    refine MKept.thenBump ?_
    exact MKept.refl _

theorem State.rejectNext_mk {a0 : _} : MKept a0 (@State.rejectNext a0) := by
  unfold State.rejectNext
  refine MKept.ite ?_ ?_
  · refine MKept.mkUpd ?_
    exact MKept.refl _
  · exact MKept.refl _

theorem State.cause_mk {a0 : _} {a1 : _} {a2 : _} : MKept a0 (@State.cause a0 a1 a2) := by
  unfold State.cause
  refine MKept.mkUpd ?_
  exact MKept.refl _

theorem State.thaw_mk {a0 : _} : MKept a0 (@State.thaw a0) := by
  unfold State.thaw
  dsimp only
  iterate 3 refine MKept.trans ?_ (MKept.put (by decide))
  refine MKept.mkUpd ?_
  exact MKept.refl _



theorem State.send_mk {a0 : _} {a1 : _} : MKept a0 (@State.send a0 a1) := by
  unfold State.send
  refine MKept.mkUpd ?_
  exact MKept.refl _

theorem State.onSession_mk {a0 : _} {a1 : _} {a2 : _} : MKept a0 (@State.onSession a0 a1 a2) := by
  unfold State.onSession
  refine MKept.mkUpd ?_
  exact MKept.refl _

theorem State.answer_mk {a0 : _} {a1 : _} : MKept a0 (@State.answer a0 a1) := by
  unfold State.answer
  refine MKept.trans ?_ State.send_mk
  refine MKept.trans ?_ State.onSession_mk
  exact MKept.refl _

theorem State.answerHeld_mk {a0 : _} {a1 : _} : MKept a0 (@State.answerHeld a0 a1) := by
  unfold State.answerHeld
  dsimp only
  refine MKept.ite ?_ ?_
  · refine MKept.trans ?_ State.send_mk
    refine MKept.trans ?_ State.onSession_mk
    exact MKept.refl _
  · refine MKept.mkUpd ?_
    refine MKept.trans ?_ State.onSession_mk
    exact MKept.refl _

theorem State.releaseHeld_mk {a0 : _} {a1 : _} : MKept a0 (@State.releaseHeld a0 a1) := by
  unfold State.releaseHeld
  dsimp only
  refine MKept.mkUpd ?_
  exact MKept.refl _

theorem State.heard_mk {a0 : _} {a1 : _} : MKept a0 (@State.heard a0 a1) := by
  unfold State.heard
  refine MKept.trans ?_ State.onSession_mk
  exact MKept.refl _

theorem State.noteSeq_mk {a0 : _} {a1 : _} : MKept a0 (@State.noteSeq a0 a1) := by
  unfold State.noteSeq
  dsimp only
  refine MKept.mkUpd ?_
  refine MKept.trans ?_ State.onSession_mk
  exact MKept.refl _

theorem State.countSessions_mk {a0 : _} : MKept a0 (@State.countSessions a0) := by
  unfold State.countSessions
  refine MKept.trans ?_ (MKept.put (by decide))
  refine MKept.trans ?_ (MKept.put (by decide))
  exact MKept.refl _

theorem State.releaseSession_mk {a0 : _} {a1 : _} {a2 : _} : MKept a0 (@State.releaseSession a0 a1 a2) := by
  unfold State.releaseSession
  dsimp only
  refine MKept.trans ?_ State.raise_mk
  refine MKept.trans ?_ State.countSessions_mk
  refine MKept.ite ?_ ?_
  · refine MKept.trans ?_ State.thaw_mk
    refine MKept.trans ?_ (MKept.put (by decide))
    refine MKept.mkUpd ?_
    refine MKept.ite ?_ ?_
    · refine MKept.trans ?_ State.endDebug_mk
      exact MKept.refl _
    · exact MKept.refl _
  · refine MKept.trans ?_ (MKept.put (by decide))
    refine MKept.mkUpd ?_
    refine MKept.ite ?_ ?_
    · refine MKept.trans ?_ State.endDebug_mk
      exact MKept.refl _
    · exact MKept.refl _

theorem State.holdSession_mk {a0 : _} {a1 : _} {a2 : _} : MKept a0 (@State.holdSession a0 a1 a2) := by
  unfold State.holdSession
  refine MKept.trans ?_ State.countSessions_mk
  refine MKept.trans ?_ State.onSession_mk
  exact MKept.refl _

theorem State.closeConn_mk {a0 : _} {a1 : _} : MKept a0 (@State.closeConn a0 a1) := by
  unfold State.closeConn
  refine MKept.ite ?_ ?_
  · refine MKept.trans ?_ State.holdSession_mk
    exact MKept.refl _
  · exact MKept.refl _

theorem turnedAway_mk {a0 : _} {a1 : _} {a2 : _} {a3 : _} : MKept a3 (@turnedAway a0 a1 a2 a3) := by
  unfold turnedAway
  split
  · rename_i v0
    exact MKept.refl _
  · rename_i v1
    refine MKept.trans ?_ State.closeConn_mk
    exact MKept.refl _
  · rename_i v2 v3 v4 v5
    dsimp only
    refine MKept.ite ?_ ?_
    · refine MKept.trans ?_ State.closeConn_mk
      refine MKept.trans ?_ State.send_mk
      refine MKept.trans ?_ State.heard_mk
      exact MKept.refl _
    · refine MKept.trans ?_ State.send_mk
      refine MKept.trans ?_ State.heard_mk
      exact MKept.refl _
  · rename_i v6 v7
    refine MKept.trans ?_ State.send_mk
    refine MKept.trans ?_ (MKept.inc (by decide))
    refine MKept.trans ?_ State.heard_mk
    exact MKept.refl _
  · rename_i v8 v9 v10 v11
    refine MKept.trans ?_ State.answer_mk
    refine MKept.trans ?_ State.noteSeq_mk
    exact MKept.refl _
  · rename_i v12 v13
    dsimp only
    refine MKept.ite ?_ ?_
    · refine MKept.trans ?_ State.answer_mk
      refine MKept.trans ?_ State.noteSeq_mk
      exact MKept.refl _
    · refine MKept.mkUpd ?_
      refine MKept.trans ?_ State.noteSeq_mk
      exact MKept.refl _
  · rename_i v14 v15
    exact MKept.refl _

theorem served_mk {a0 : _} {a1 : _} {a2 : _} {a3 : _} {a4 : _} (h3 : ∀ y0 y1, MKept y1 (a3 y0 y1).st) : MKept a4 (@served a0 a1 a2 a3 a4) := by
  unfold served
  split
  · rename_i v0 v1 v2
    dsimp only
    split
    · rename_i v3 v4 v5 v6
      refine MKept.trans ?_ State.answer_mk
      refine MKept.trans ?_ State.noteSeq_mk
      exact MKept.refl _
    · rename_i v7 v8
      refine MKept.trans ?_ State.answer_mk
      refine MKept.trans ?_ (h3 ..)
      refine MKept.trans ?_ State.noteSeq_mk
      exact MKept.refl _
  · rename_i v9 v10
    refine MKept.trans ?_ turnedAway_mk
    exact MKept.refl _

theorem servedTracked_mk {a0 : _} {a1 : _} {a2 : _} {a3 : _} {a4 : _} (h3 : ∀ y0 y1, MKept y1 (a3 y0 y1).st) : MKept a4 (@servedTracked a0 a1 a2 a3 a4) := by
  unfold servedTracked
  split
  · rename_i v0 v1 v2
    dsimp only
    split
    · rename_i v3 v4 v5 v6
      refine MKept.trans ?_ State.answer_mk
      refine MKept.trans ?_ State.noteSeq_mk
      exact MKept.refl _
    · rename_i v7 v8
      refine MKept.trans ?_ State.answerHeld_mk
      refine MKept.trans ?_ (h3 ..)
      refine MKept.trans ?_ State.noteSeq_mk
      exact MKept.refl _
  · rename_i v9 v10
    refine MKept.trans ?_ turnedAway_mk
    exact MKept.refl _

theorem State.enqueue_mk {a0 : _} {a1 : _} : MKept a0 (@State.enqueue a0 a1) := by
  unfold State.enqueue
  refine MKept.mkUpd ?_
  exact MKept.refl _

theorem queued_mk {a0 : _} {a1 : _} {a2 : _} {a3 : _} {a4 : _} : MKept a4 (@queued a0 a1 a2 a3 a4) := by
  unfold queued
  split
  · rename_i v0 v1 v2
    dsimp only
    split
    · rename_i v3 v4 v5 v6
      refine MKept.trans ?_ State.answer_mk
      refine MKept.trans ?_ State.noteSeq_mk
      exact MKept.refl _
    · rename_i v7 v8
      refine MKept.ite ?_ ?_
      · refine MKept.trans ?_ State.enqueue_mk
        refine MKept.trans ?_ State.noteSeq_mk
        exact MKept.refl _
      · refine MKept.trans ?_ State.answerHeld_mk
        refine MKept.trans ?_ State.enqueue_mk
        refine MKept.trans ?_ State.noteSeq_mk
        exact MKept.refl _
  · rename_i v9 v10
    refine MKept.trans ?_ turnedAway_mk
    exact MKept.refl _

theorem State.lateEpoch_mk {a0 : _} {a1 : _} {a2 : _} : MKept a0 (@State.lateEpoch a0 a1 a2) := by
  unfold State.lateEpoch
  dsimp only
  refine MKept.trans ?_ State.answerHeld_mk
  exact MKept.refl _

theorem State.afterFreeze_mk {a0 : _} {a1 : _} {a2 : _} {a3 : _} : MKept a0 (@State.afterFreeze a0 a1 a2 a3) := by
  unfold State.afterFreeze
  dsimp only
  refine MKept.ite ?_ ?_
  · refine MKept.trans ?_ State.answerHeld_mk
    refine MKept.ite ?_ ?_
    · refine MKept.trans ?_ (MKept.inc (by decide))
      exact MKept.refl _
    · exact MKept.refl _
  · refine MKept.ite ?_ ?_
    · refine MKept.ite ?_ ?_
      · refine MKept.trans ?_ (MKept.inc (by decide))
        exact MKept.refl _
      · exact MKept.refl _
    · refine MKept.trans ?_ State.answerHeld_mk
      refine MKept.ite ?_ ?_
      · refine MKept.trans ?_ (MKept.inc (by decide))
        exact MKept.refl _
      · exact MKept.refl _



theorem State.putRt_mk {a0 : _} {a1 : _} {a2 : _} : MKept a0 (@State.putRt a0 a1 a2) := by
  unfold State.putRt
  split
  · rename_i v0
    refine MKept.mkUpd ?_
    exact MKept.refl _
  · rename_i v1
    refine MKept.mkUpd ?_
    exact MKept.refl _
  · rename_i v2 v3 v4
    refine MKept.mkUpd ?_
    exact MKept.refl _

/-- Writes of keys other than the two. -/
theorem MKept.regSteps {α : Type} {s t : State} {l : List α} {f : List (Nat × Nat) → α → List (Nat × Nat)} (h : MKept s t)
    (hf : ∀ r a, f r a = r ∨ ∃ k v, (k ≠ fldKey F.mode 0 ∧ k ≠ fldKey F.role 0) ∧ f r a = Machine.regPut r k v) :
    MKept s { t with regs := l.foldl f t.regs } := by
  induction l generalizing t with
  | nil => exact h
  | cons a l ih =>
    refine ih (t := { t with regs := f t.regs a }) ?_
    rcases hf t.regs a with e | ⟨k, v, hk, e⟩
    · rw [e]; exact h
    · rw [e]
      refine h.trans ⟨fun _ => ?_⟩
      simp only [State.get, regGet_regPut_ne (Ne.symm hk.1), regGet_regPut_ne (Ne.symm hk.2), and_self]

/-- Registers other than the two go back to their defaults. -/
theorem MKept.regDrop {s t : State} {p : Nat → Bool} (h : MKept s t) (hm : p (fldKey F.mode 0) = false)
    (hr : p (fldKey F.role 0) = false) : MKept s { t with regs := t.regs.filter (fun r => !p r.1) } := by
  refine h.trans ⟨fun _ => ?_⟩
  simp only [State.get]
  exact ⟨regGet_filter (by simp [hm]) t.regs _, regGet_filter (by simp [hr]) t.regs _⟩

theorem State.swapCluster_mk {s : State} {c : Nat} : MKept s (s.swapCluster c) := by
  have h : ∀ l : List (Nat × Nat), MKept s { s with
      regs := l.foldl takeClusterReg (s.regs.filter (fun r => !isClusterKey r.1)) } := by
    intro l
    refine MKept.regSteps (t := { s with regs := s.regs.filter (fun r => !isClusterKey r.1) })
      (MKept.regDrop (MKept.refl s) (by decide +kernel) (by decide +kernel)) (fun r a => ?_)
    unfold takeClusterReg
    split
    · split
      · rename_i e
        refine .inr ⟨_, _, ⟨?_, ?_⟩, rfl⟩
        · intro k; rw [k] at e; exact absurd e (by decide +kernel)
        · intro k; rw [k] at e; exact absurd e (by decide +kernel)
      · exact .inl rfl
    · exact .inl rfl
  refine MKept.upd (h (if c = 1 then s.triad.y else s.triad.z).regs) ?_
  unfold State.swapCluster; rfl

theorem State.onCluster_mk {a0 : _} {a1 : _} {a2 : _} (h2 : ∀ y0, MKept y0 (a2 y0)) : MKept a0 (@State.onCluster a0 a1 a2) := by
  unfold State.onCluster
  refine MKept.ite ?_ ?_
  · refine MKept.trans ?_ (h2 ..)
    exact MKept.refl _
  · refine MKept.ite ?_ ?_
    · refine MKept.trans ?_ State.swapCluster_mk
      refine MKept.trans ?_ (h2 ..)
      refine MKept.trans ?_ State.swapCluster_mk
      exact MKept.refl _
    · exact MKept.refl _

theorem State.onClusters_mk {a0 : _} {a1 : _} (h1 : ∀ y0, MKept y0 (a1 y0)) : MKept a0 (@State.onClusters a0 a1) := by
  unfold State.onClusters
  refine MKept.trans ?_ (State.onCluster_mk ?_)
  · refine MKept.trans ?_ (State.onCluster_mk ?_)
    · refine MKept.trans ?_ (h1 ..)
      exact MKept.refl _
    · intro v0
      refine MKept.trans ?_ (h1 ..)
      exact MKept.refl _
  · intro v1
    refine MKept.trans ?_ (h1 ..)
    exact MKept.refl _

theorem State.showRuntime_mk {a0 : _} : MKept a0 (@State.showRuntime a0) := by
  unfold State.showRuntime
  dsimp only
  refine MKept.trans ?_ (MKept.put (by decide))
  iterate 3 refine MKept.trans ?_ (MKept.putFlag (by decide))
  refine MKept.trans ?_ (MKept.put (by decide))
  refine MKept.trans ?_ (MKept.putFlag (by decide))
  refine MKept.trans ?_ (MKept.putFlag (by decide))
  exact MKept.refl _

theorem State.startNext_mk {a0 : _} {a1 : _} : MKept a0 (@State.startNext a0 a1) := by
  unfold State.startNext
  split
  · rename_i v0 v1
    exact MKept.refl _
  · rename_i v2 v3 v4 v5
    dsimp only
    refine MKept.ite ?_ ?_
    · refine MKept.trans ?_ (MKept.put (by decide))
      exact MKept.refl _
    · refine MKept.mkUpd ?_
      refine MKept.trans ?_ (MKept.put (by decide))
      exact MKept.refl _

theorem State.putExec_mk {a0 : _} {a1 : _} {a2 : _} : MKept a0 (@State.putExec a0 a1 a2) := by
  unfold State.putExec
  refine MKept.trans ?_ (MKept.put (by decide))
  refine MKept.mkUpd ?_
  exact MKept.refl _

theorem State.newCycle_mk {a0 : _} {a1 : _} : MKept a0 (@State.newCycle a0 a1) := by
  unfold State.newCycle
  split
  · rename_i v0 v1
    exact MKept.refl _
  · rename_i v2 v3 v4
    refine MKept.foldl ?_ (fun v5 v6 => ?_)
    · exact MKept.refl _
    · dsimp only
      refine MKept.ite ?_ ?_
      · refine MKept.trans ?_ (MKept.put (by decide))
        refine MKept.trans ?_ State.putExec_mk
        exact MKept.refl _
      · refine MKept.trans ?_ State.putExec_mk
        exact MKept.refl _

theorem State.releaseClass_mk {a0 : _} {a1 : _} : MKept a0 (@State.releaseClass a0 a1) := by
  unfold State.releaseClass
  dsimp only
  refine MKept.trans ?_ State.startNext_mk
  refine MKept.mkUpd ?_
  refine MKept.foldl ?_ (fun v0 v1 => ?_)
  · refine MKept.trans ?_ State.newCycle_mk
    exact MKept.refl _
  · refine MKept.trans ?_ (MKept.put (by decide))
    refine MKept.trans ?_ (MKept.put (by decide))
    exact MKept.refl _

theorem State.releaseAll_mk {a0 : _} : MKept a0 (@State.releaseAll a0) := by
  unfold State.releaseAll
  dsimp only
  refine MKept.ite ?_ ?_
  · refine MKept.mkUpd ?_
    refine MKept.foldl ?_ (fun v0 v1 => ?_)
    · refine MKept.mkUpd ?_
      exact MKept.refl _
    · refine MKept.trans ?_ State.releaseClass_mk
      exact MKept.refl _
  · refine MKept.foldl ?_ (fun v2 v3 => ?_)
    · refine MKept.mkUpd ?_
      exact MKept.refl _
    · refine MKept.trans ?_ State.releaseClass_mk
      exact MKept.refl _

theorem State.mailWrites_mk {a0 : _} {a1 : _} : MKept a0 (@State.mailWrites a0 a1) := by
  unfold State.mailWrites
  refine MKept.ite ?_ ?_
  · exact MKept.refl _
  · dsimp only
    refine MKept.mkUpd ?_
    exact MKept.refl _

theorem State.publish_mk {a0 : _} {a1 : _} : MKept a0 (@State.publish a0 a1) := by
  unfold State.publish
  dsimp only
  refine MKept.mkUpd ?_
  exact MKept.refl _

theorem State.holdPublish_mk {a0 : _} : MKept a0 (@State.holdPublish a0) := by
  unfold State.holdPublish
  dsimp only
  refine MKept.mkUpd ?_
  refine MKept.foldl ?_ (fun v0 v1 => ?_)
  · exact MKept.refl _
  · refine MKept.trans ?_ State.publish_mk
    exact MKept.refl _

theorem State.endTask_mk {a0 : _} {a1 : _} {a2 : _} {a3 : _} : MKept a0 (@State.endTask a0 a1 a2 a3) := by
  unfold State.endTask
  split
  · rename_i v0 v1
    exact MKept.refl _
  · rename_i v2 v3 v4
    split
    · rename_i v5 v6
      exact MKept.refl _
    · rename_i v7 v8 v9 v10
      refine MKept.ite ?_ ?_
      · exact MKept.refl _
      · dsimp only
        refine MKept.trans ?_ State.showRuntime_mk
        refine MKept.trans ?_ State.mailWrites_mk
        refine MKept.ite ?_ ?_
        · refine MKept.trans ?_ State.holdPublish_mk
          refine MKept.ite ?_ ?_
          · refine MKept.ite ?_ ?_
            · refine MKept.trans ?_ (MKept.inc (by decide))
              refine MKept.trans ?_ State.putExec_mk
              refine MKept.trans ?_ (MKept.put (by decide))
              refine MKept.mkUpd ?_
              exact MKept.refl _
            · refine MKept.trans ?_ State.putExec_mk
              refine MKept.trans ?_ (MKept.put (by decide))
              refine MKept.mkUpd ?_
              exact MKept.refl _
          · refine MKept.trans ?_ (MKept.put (by decide))
            refine MKept.ite ?_ ?_
            · refine MKept.trans ?_ (MKept.inc (by decide))
              refine MKept.trans ?_ State.putExec_mk
              refine MKept.trans ?_ (MKept.put (by decide))
              refine MKept.mkUpd ?_
              exact MKept.refl _
            · refine MKept.trans ?_ State.putExec_mk
              refine MKept.trans ?_ (MKept.put (by decide))
              refine MKept.mkUpd ?_
              exact MKept.refl _
        · refine MKept.trans ?_ State.startNext_mk
          refine MKept.ite ?_ ?_
          · refine MKept.ite ?_ ?_
            · refine MKept.trans ?_ (MKept.inc (by decide))
              refine MKept.trans ?_ State.putExec_mk
              refine MKept.trans ?_ (MKept.put (by decide))
              refine MKept.mkUpd ?_
              exact MKept.refl _
            · refine MKept.trans ?_ State.putExec_mk
              refine MKept.trans ?_ (MKept.put (by decide))
              refine MKept.mkUpd ?_
              exact MKept.refl _
          · refine MKept.trans ?_ (MKept.put (by decide))
            refine MKept.ite ?_ ?_
            · refine MKept.trans ?_ (MKept.inc (by decide))
              refine MKept.trans ?_ State.putExec_mk
              refine MKept.trans ?_ (MKept.put (by decide))
              refine MKept.mkUpd ?_
              exact MKept.refl _
            · refine MKept.trans ?_ State.putExec_mk
              refine MKept.trans ?_ (MKept.put (by decide))
              refine MKept.mkUpd ?_
              exact MKept.refl _

theorem State.coldCluster_mk {a0 : _} : MKept a0 (@State.coldCluster a0) := by
  unfold State.coldCluster
  dsimp only
  refine MKept.mkUpd ?_
  refine MKept.trans ?_ State.dropCycles_mk
  exact MKept.refl _

theorem State.splitFault_mk {a0 : _} {a1 : _} {a2 : _} : MKept a0 (@State.splitFault a0 a1 a2) := by
  unfold State.splitFault
  refine MKept.trans ?_ State.coldCluster_mk
  refine MKept.trans ?_ State.raise_mk
  exact MKept.refl _

theorem State.overrunStops_mk {a0 : _} {a1 : _} {a2 : _} : MKept a0 (@State.overrunStops a0 a1 a2) := by
  unfold State.overrunStops
  refine MKept.ite ?_ ?_
  · refine MKept.trans ?_ State.splitFault_mk
    exact MKept.refl _
  · dsimp only
    refine MKept.ite ?_ ?_
    · refine MKept.mkUpd ?_
      refine MKept.foldl ?_ (fun v0 v1 => ?_)
      · exact MKept.refl _
      · refine MKept.trans ?_ State.raise_mk
        exact MKept.refl _
    · refine MKept.ite ?_ ?_
      · refine MKept.mkUpd ?_
        refine MKept.foldl ?_ (fun v2 v3 => ?_)
        · exact MKept.refl _
        · refine MKept.trans ?_ State.raise_mk
          exact MKept.refl _
      · refine MKept.trans ?_ State.cause_mk
        refine MKept.mkUpd ?_
        refine MKept.foldl ?_ (fun v4 v5 => ?_)
        · exact MKept.refl _
        · refine MKept.trans ?_ State.raise_mk
          exact MKept.refl _

theorem State.spill_mk {a0 : _} {a1 : _} {a2 : _} : MKept a0 (@State.spill a0 a1 a2) := by
  unfold State.spill
  dsimp only
  refine MKept.trans ?_ (MKept.put (by decide))
  refine MKept.mkUpd ?_
  exact MKept.refl _

theorem State.skipTask_mk {a0 : _} {a1 : _} {a2 : _} : MKept a0 (@State.skipTask a0 a1 a2) := by
  unfold State.skipTask
  refine MKept.trans ?_ State.raise_mk
  refine MKept.trans ?_ State.spill_mk
  refine MKept.trans ?_ (MKept.inc (by decide))
  refine MKept.trans ?_ (MKept.inc (by decide))
  exact MKept.refl _

theorem State.overrun_mk {a0 : _} {a1 : _} : MKept a0 (@State.overrun a0 a1) := by
  unfold State.overrun
  dsimp only
  refine MKept.ite ?_ ?_
  · refine MKept.trans ?_ State.overrunStops_mk
    exact MKept.refl _
  · refine MKept.ite ?_ ?_
    · refine MKept.trans ?_ State.showRuntime_mk
      refine MKept.trans ?_ State.overrunStops_mk
      refine MKept.foldl ?_ (fun v0 v1 => ?_)
      · exact MKept.refl _
      · refine MKept.trans ?_ State.skipTask_mk
        exact MKept.refl _
    · refine MKept.trans ?_ State.showRuntime_mk
      refine MKept.mkUpd ?_
      refine MKept.foldl ?_ (fun v2 v3 => ?_)
      · exact MKept.refl _
      · refine MKept.trans ?_ State.skipTask_mk
        exact MKept.refl _

theorem State.spillAll_mk {a0 : _} {a1 : _} : MKept a0 (@State.spillAll a0 a1) := by
  unfold State.spillAll
  dsimp only
  refine MKept.trans ?_ State.showRuntime_mk
  refine MKept.mkUpd ?_
  refine MKept.foldl ?_ (fun v0 v1 => ?_)
  · exact MKept.refl _
  · refine MKept.trans ?_ State.spill_mk
    exact MKept.refl _

theorem State.putByWork_mk {a0 : _} {a1 : _} : MKept a0 (@State.putByWork a0 a1) := by
  unfold State.putByWork
  dsimp only
  refine MKept.mkUpd ?_
  exact MKept.refl _

theorem State.commitRuntime_mk {a0 : _} : MKept a0 (@State.commitRuntime a0) := by
  unfold State.commitRuntime
  dsimp only
  refine MKept.trans ?_ State.showRuntime_mk
  refine MKept.mkUpd ?_
  refine MKept.foldl ?_ (fun v0 v1 => ?_)
  · refine MKept.mkUpd ?_
    exact MKept.refl _
  · refine MKept.trans ?_ State.publish_mk
    exact MKept.refl _

theorem State.takeSnapshot_mk {a0 : _} {a1 : _} : MKept a0 (@State.takeSnapshot a0 a1) := by
  unfold State.takeSnapshot
  dsimp only
  split
  · rename_i v0 v1 v2
    refine MKept.trans ?_ State.raise_mk
    refine MKept.trans ?_ (MKept.inc (by decide))
    refine MKept.mkUpd ?_
    refine MKept.trans ?_ (MKept.peak (by decide))
    exact MKept.refl _
  · rename_i v3 v4
    refine MKept.mkUpd ?_
    refine MKept.trans ?_ (MKept.peak (by decide))
    exact MKept.refl _

theorem State.retainSnapshot_mk {a0 : _} : MKept a0 (@State.retainSnapshot a0) := by
  unfold State.retainSnapshot
  refine MKept.ite ?_ ?_
  · exact MKept.refl _
  · refine MKept.trans ?_ State.takeSnapshot_mk
    exact MKept.refl _

theorem State.storeMirror_mk {a0 : _} {a1 : _} : MKept a0 (@State.storeMirror a0 a1) := by
  unfold State.storeMirror
  refine MKept.ite ?_ ?_
  · refine MKept.trans ?_ (MKept.put (by decide))
    refine MKept.mkUpd ?_
    exact MKept.refl _
  · refine MKept.trans ?_ (MKept.put (by decide))
    refine MKept.mkUpd ?_
    exact MKept.refl _

theorem State.showLoops_mk {a0 : _} : MKept a0 (@State.showLoops a0) := by
  unfold State.showLoops
  dsimp only
  iterate 4 refine MKept.trans ?_ (MKept.put (by decide))
  exact MKept.refl _

theorem State.showGroup_mk {a0 : _} {a1 : _} : MKept a0 (@State.showGroup a0 a1) := by
  unfold State.showGroup
  dsimp only
  refine MKept.trans ?_ (MKept.put (by decide))
  refine MKept.trans ?_ (MKept.putFlag (by decide))
  exact MKept.refl _

theorem State.initGroup_mk {a0 : _} {a1 : _} : MKept a0 (@State.initGroup a0 a1) := by
  unfold State.initGroup
  iterate 5 refine MKept.trans ?_ (MKept.put (by decide))
  refine MKept.trans ?_ State.showGroup_mk
  exact MKept.refl _

theorem State.clearForces_mk {a0 : _} {a1 : _} : MKept a0 (@State.clearForces a0 a1) := by
  unfold State.clearForces
  refine MKept.foldl ?_ (fun v0 v1 => ?_)
  · exact MKept.refl _
  · refine MKept.ite ?_ ?_
    · refine MKept.trans ?_ State.journal_mk
      refine MKept.mkUpd ?_
      exact MKept.refl _
    · exact MKept.refl _

theorem State.clearAllForces_mk {a0 : _} : MKept a0 (@State.clearAllForces a0) := by
  unfold State.clearAllForces
  refine MKept.trans ?_ State.clearForces_mk
  exact MKept.refl _

theorem State.coldRestart_mk {a0 : _} : MKept a0 (@State.coldRestart a0) := by
  unfold State.coldRestart
  dsimp only
  refine MKept.trans ?_ State.showRuntime_mk
  refine MKept.trans ?_ (MKept.put (by decide))
  refine MKept.trans ?_ (MKept.put (by decide))
  refine MKept.foldl ?_ (fun v0 v1 => ?_)
  · refine MKept.mkUpd ?_
    refine MKept.trans ?_ State.clearAllForces_mk
    refine MKept.trans ?_ State.dropCycles_mk
    exact MKept.refl _
  · refine MKept.trans ?_ State.initGroup_mk
    exact MKept.refl _

theorem State.warmRestart_mk {a0 : _} : MKept a0 (@State.warmRestart a0) := by
  unfold State.warmRestart
  split
  · rename_i v0 v1 v2 v3
    refine MKept.ite ?_ ?_
    · refine MKept.trans ?_ State.coldRestart_mk
      refine MKept.trans ?_ State.raise_mk
      exact MKept.refl _
    · dsimp only
      refine MKept.trans ?_ State.showRuntime_mk
      refine MKept.trans ?_ (MKept.put (by decide))
      refine MKept.mkUpd ?_
      refine MKept.trans ?_ State.dropCycles_mk
      refine MKept.ite ?_ ?_
      · refine MKept.trans ?_ State.raise_mk
        exact MKept.refl _
      · exact MKept.refl _

theorem State.restartProgram_mk {a0 : _} {a1 : _} : MKept a0 (@State.restartProgram a0 a1) := by
  unfold State.restartProgram
  refine MKept.ite ?_ ?_
  · refine MKept.trans ?_ State.coldRestart_mk
    exact MKept.refl _
  · refine MKept.trans ?_ State.warmRestart_mk
    exact MKept.refl _

theorem State.purgeCoeffs_mk {a0 : _} {a1 : _} : MKept a0 (@State.purgeCoeffs a0 a1) := by
  unfold State.purgeCoeffs
  dsimp only
  refine MKept.foldl ?_ (fun v0 v1 => ?_)
  · refine MKept.mkUpd ?_
    exact MKept.refl _
  · refine MKept.trans ?_ State.journal_mk
    exact MKept.refl _

theorem State.noTasks_mk {a0 : _} : MKept a0 (@State.noTasks a0) := by
  unfold State.noTasks
  refine MKept.foldl ?_ (fun v0 v1 => ?_)
  · exact MKept.refl _
  · refine MKept.trans ?_ (MKept.put (by decide))
    iterate 3 refine MKept.trans ?_ (MKept.put (by decide))
    exact MKept.refl _

theorem State.showTasks_mk {a0 : _} {a1 : _} : MKept a0 (@State.showTasks a0 a1) := by
  unfold State.showTasks
  refine MKept.foldl ?_ (fun v0 v1 => ?_)
  · exact MKept.refl _
  · refine MKept.trans ?_ (MKept.putFlag (by decide))
    refine MKept.trans ?_ (MKept.putFlag (by decide))
    refine MKept.trans ?_ (MKept.put (by decide))
    refine MKept.trans ?_ (MKept.put (by decide))
    exact MKept.refl _

theorem State.noProgram_mk {a0 : _} : MKept a0 (@State.noProgram a0) := by
  unfold State.noProgram
  iterate 5 refine MKept.trans ?_ (MKept.put (by decide))
  refine MKept.trans ?_ State.noTasks_mk
  exact MKept.refl _

theorem State.loadProgram_mk {a0 : _} {a1 : _} {a2 : _} : MKept a0 (@State.loadProgram a0 a1 a2) := by
  unfold State.loadProgram
  dsimp only
  refine MKept.trans ?_ State.showRuntime_mk
  refine MKept.trans ?_ State.showLoops_mk
  refine MKept.foldl ?_ (fun v0 v1 => ?_)
  · refine MKept.mkUpd ?_
    refine MKept.ite ?_ ?_
    · refine MKept.foldl ?_ (fun v2 v3 => ?_)
      · refine MKept.trans ?_ (MKept.put (by decide))
        iterate 4 refine MKept.trans ?_ (MKept.put (by decide))
        refine MKept.trans ?_ State.showTasks_mk
        refine MKept.trans ?_ State.noTasks_mk
        refine MKept.trans ?_ (MKept.put (by decide))
        refine MKept.foldl ?_ (fun v4 v5 => ?_)
        · exact MKept.refl _
        · refine MKept.trans ?_ (MKept.put (Fld.calm_next (by decide) _))
          exact MKept.refl _
      · refine MKept.trans ?_ (MKept.putFlag (by decide))
        exact MKept.refl _
    · refine MKept.trans ?_ (MKept.put (by decide))
      iterate 4 refine MKept.trans ?_ (MKept.put (by decide))
      refine MKept.trans ?_ State.showTasks_mk
      refine MKept.trans ?_ State.noTasks_mk
      refine MKept.trans ?_ (MKept.put (by decide))
      refine MKept.foldl ?_ (fun v6 v7 => ?_)
      · exact MKept.refl _
      · refine MKept.trans ?_ (MKept.put (Fld.calm_next (by decide) _))
        exact MKept.refl _
  · refine MKept.ite ?_ ?_
    · refine MKept.trans ?_ State.showGroup_mk
      exact MKept.refl _
    · refine MKept.trans ?_ State.initGroup_mk
      exact MKept.refl _

theorem State.journalSub_mk {a0 : _} {a1 : _} {a2 : _} : MKept a0 (@State.journalSub a0 a1 a2) := by
  unfold State.journalSub
  dsimp only
  refine MKept.trans ?_ State.journalNew_mk
  exact MKept.refl _

theorem State.journalLoad_mk {a0 : _} {a1 : _} : MKept a0 (@State.journalLoad a0 a1) := by
  unfold State.journalLoad
  dsimp only
  refine MKept.foldl ?_ (fun v0 v1 => ?_)
  · refine MKept.foldl ?_ (fun v2 v3 => ?_)
    · refine MKept.foldl ?_ (fun v4 v5 => ?_)
      · exact MKept.refl _
      · refine MKept.trans ?_ State.journalNew_mk
        exact MKept.refl _
    · refine MKept.trans ?_ State.journalSub_mk
      exact MKept.refl _
  · refine MKept.trans ?_ State.journalSub_mk
    exact MKept.refl _

theorem State.putLoop_mk {a0 : _} {a1 : _} : MKept a0 (@State.putLoop a0 a1) := by
  unfold State.putLoop
  refine MKept.mkUpd ?_
  exact MKept.refl _

theorem State.loopMode_mk {a0 : _} {a1 : _} {a2 : _} {a3 : _} : MKept a0 (@State.loopMode a0 a1 a2 a3).1 := by
  unfold State.loopMode
  refine MKept.iteFst ?_ ?_
  · dsimp only
    exact MKept.refl _
  · dsimp only
    refine MKept.trans ?_ State.raise_mk
    exact MKept.refl _

theorem State.requestMode_mk {a0 : _} {a1 : _} {a2 : _} {a3 : _} : MKept a0 (@State.requestMode a0 a1 a2 a3).1 := by
  unfold State.requestMode
  dsimp only
  refine MKept.iteFst ?_ ?_
  · dsimp only
    exact MKept.refl _
  · refine MKept.trans ?_ State.loopMode_mk
    exact MKept.refl _

theorem State.readFlag_mk {a0 : _} {a1 : _} {a2 : _} : MKept a0 (@State.readFlag a0 a1 a2) := by
  unfold State.readFlag
  refine MKept.ite ?_ ?_
  · exact MKept.refl _
  · refine MKept.mkUpd ?_
    exact MKept.refl _

theorem State.spoilRate_mk {a0 : _} {a1 : _} {a2 : _} : MKept a0 (@State.spoilRate a0 a1 a2) := by
  unfold State.spoilRate
  refine MKept.mkUpd ?_
  exact MKept.refl _

theorem State.loopSetpoint_mk {a0 : _} {a1 : _} {a2 : _} : MKept a0 (@State.loopSetpoint a0 a1 a2).1 := by
  unfold State.loopSetpoint
  dsimp only
  refine MKept.iteFst ?_ ?_
  · dsimp only
    exact MKept.refl _
  · refine MKept.iteFst ?_ ?_
    · dsimp only
      exact MKept.refl _
    · refine MKept.iteFst ?_ ?_
      · refine MKept.iteFst ?_ ?_
        · dsimp only
          refine MKept.ite ?_ ?_
          · refine MKept.trans ?_ State.raise_mk
            refine MKept.trans ?_ State.loopMode_mk
            refine MKept.trans ?_ State.raise_mk
            exact MKept.refl _
          · refine MKept.trans ?_ State.loopMode_mk
            refine MKept.trans ?_ State.raise_mk
            exact MKept.refl _
        · dsimp only
          refine MKept.ite ?_ ?_
          · refine MKept.trans ?_ State.raise_mk
            exact MKept.refl _
          · exact MKept.refl _
      · refine MKept.iteFst ?_ ?_
        · dsimp only
          refine MKept.ite ?_ ?_
          · refine MKept.trans ?_ State.raise_mk
            exact MKept.refl _
          · exact MKept.refl _
        · refine MKept.iteFst ?_ ?_
          · dsimp only
            exact MKept.refl _
          · dsimp only
            exact MKept.refl _

theorem State.deliverOut_mk {a0 : _} {a1 : _} {a2 : _} : MKept a0 (@State.deliverOut a0 a1 a2) := by
  unfold State.deliverOut
  split
  · rename_i v0 v1 v2
    dsimp only
    refine MKept.mkUpd ?_
    exact MKept.refl _
  · rename_i v3 v4
    exact MKept.refl _

theorem State.selectGroup_mk {a0 : _} {a1 : _} : MKept a0 (@State.selectGroup a0 a1) := by
  unfold State.selectGroup
  refine MKept.ite ?_ ?_
  · exact MKept.refl _
  · dsimp only
    split
    · rename_i v0 v1 v2
      split
      · rename_i v3 v4 v5
        refine MKept.trans ?_ State.deliverOut_mk
        refine MKept.foldl ?_ (fun v6 v7 => ?_)
        · refine MKept.trans ?_ (MKept.put (by decide))
          split
          · rename_i v8 v9
            refine MKept.trans ?_ (MKept.putFlag (by decide))
            refine MKept.ite ?_ ?_
            · refine MKept.trans ?_ (MKept.put (by decide))
              refine MKept.mkUpd ?_
              exact MKept.refl _
            · refine MKept.trans ?_ State.raise_mk
              refine MKept.trans ?_ (MKept.put (by decide))
              refine MKept.mkUpd ?_
              exact MKept.refl _
          · rename_i v10 v11 v12
            refine MKept.ite ?_ ?_
            · refine MKept.trans ?_ (MKept.putFlag (by decide))
              refine MKept.trans ?_ (MKept.put (by decide))
              refine MKept.mkUpd ?_
              exact MKept.refl _
            · refine MKept.trans ?_ State.raise_mk
              refine MKept.trans ?_ (MKept.inc (by decide))
              refine MKept.trans ?_ (MKept.put (by decide))
              refine MKept.trans ?_ (MKept.putFlag (by decide))
              refine MKept.trans ?_ (MKept.put (by decide))
              refine MKept.mkUpd ?_
              exact MKept.refl _
        · split
          · rename_i v13 v14 v15
            refine MKept.trans ?_ State.putLoop_mk
            exact MKept.refl _
          · rename_i v16 v17
            exact MKept.refl _
      · rename_i v18 v19
        refine MKept.foldl ?_ (fun v20 v21 => ?_)
        · refine MKept.trans ?_ (MKept.put (by decide))
          split
          · rename_i v22 v23
            refine MKept.trans ?_ (MKept.putFlag (by decide))
            refine MKept.ite ?_ ?_
            · refine MKept.trans ?_ (MKept.put (by decide))
              refine MKept.mkUpd ?_
              exact MKept.refl _
            · refine MKept.trans ?_ State.raise_mk
              refine MKept.trans ?_ (MKept.put (by decide))
              refine MKept.mkUpd ?_
              exact MKept.refl _
          · rename_i v24 v25 v26
            refine MKept.ite ?_ ?_
            · refine MKept.trans ?_ (MKept.putFlag (by decide))
              refine MKept.trans ?_ (MKept.put (by decide))
              refine MKept.mkUpd ?_
              exact MKept.refl _
            · refine MKept.trans ?_ State.raise_mk
              refine MKept.trans ?_ (MKept.inc (by decide))
              refine MKept.trans ?_ (MKept.put (by decide))
              refine MKept.trans ?_ (MKept.putFlag (by decide))
              refine MKept.trans ?_ (MKept.put (by decide))
              refine MKept.mkUpd ?_
              exact MKept.refl _
        · split
          · rename_i v27 v28 v29
            refine MKept.trans ?_ State.putLoop_mk
            exact MKept.refl _
          · rename_i v30 v31
            exact MKept.refl _
    · rename_i v32 v33
      refine MKept.foldl ?_ (fun v34 v35 => ?_)
      · refine MKept.trans ?_ (MKept.put (by decide))
        split
        · rename_i v36 v37
          refine MKept.trans ?_ (MKept.putFlag (by decide))
          refine MKept.ite ?_ ?_
          · refine MKept.trans ?_ (MKept.put (by decide))
            refine MKept.mkUpd ?_
            exact MKept.refl _
          · refine MKept.trans ?_ State.raise_mk
            refine MKept.trans ?_ (MKept.put (by decide))
            refine MKept.mkUpd ?_
            exact MKept.refl _
        · rename_i v38 v39 v40
          refine MKept.ite ?_ ?_
          · refine MKept.trans ?_ (MKept.putFlag (by decide))
            refine MKept.trans ?_ (MKept.put (by decide))
            refine MKept.mkUpd ?_
            exact MKept.refl _
          · refine MKept.trans ?_ State.raise_mk
            refine MKept.trans ?_ (MKept.inc (by decide))
            refine MKept.trans ?_ (MKept.put (by decide))
            refine MKept.trans ?_ (MKept.putFlag (by decide))
            refine MKept.trans ?_ (MKept.put (by decide))
            refine MKept.mkUpd ?_
            exact MKept.refl _
      · split
        · rename_i v41 v42 v43
          refine MKept.trans ?_ State.putLoop_mk
          exact MKept.refl _
        · rename_i v44 v45
          exact MKept.refl _

theorem State.loopTrack_mk {a0 : _} {a1 : _} : MKept a0 (@State.loopTrack a0 a1).1 := by
  unfold State.loopTrack
  split
  · rename_i v0 v1
    dsimp only
    exact MKept.refl _
  · rename_i v2 v3 v4
    dsimp only
    refine MKept.iteFst ?_ ?_
    · refine MKept.trans ?_ State.loopMode_mk
      refine MKept.trans ?_ State.readFlag_mk
      exact MKept.refl _
    · refine MKept.iteFst ?_ ?_
      · refine MKept.trans ?_ State.loopMode_mk
        refine MKept.trans ?_ State.readFlag_mk
        exact MKept.refl _
      · dsimp only
        refine MKept.trans ?_ State.readFlag_mk
        exact MKept.refl _

theorem State.loopWork_mk {a0 : _} {a1 : _} {a2 : _} : MKept a0 (@State.loopWork a0 a1 a2).1 := by
  unfold State.loopWork
  dsimp only
  refine MKept.iteFst ?_ ?_
  · dsimp only
    refine MKept.trans ?_ State.loopMode_mk
    refine MKept.trans ?_ State.raise_mk
    refine MKept.trans ?_ (MKept.inc (by decide))
    exact MKept.refl _
  · refine MKept.iteFst ?_ ?_
    · dsimp only
      exact MKept.refl _
    · dsimp only
      refine MKept.trans ?_ State.loopSetpoint_mk
      exact MKept.refl _

theorem State.loopRun_mk {a0 : _} {a1 : _} {a2 : _} : MKept a0 (@State.loopRun a0 a1 a2) := by
  unfold State.loopRun
  dsimp only
  split
  · rename_i v0 v1 v2
    refine MKept.trans ?_ State.selectGroup_mk
    refine MKept.trans ?_ State.putLoop_mk
    refine MKept.trans ?_ State.loopWork_mk
    refine MKept.trans ?_ State.loopTrack_mk
    exact MKept.refl _
  · rename_i v3 v4
    refine MKept.trans ?_ State.deliverOut_mk
    refine MKept.trans ?_ State.putLoop_mk
    refine MKept.trans ?_ State.loopWork_mk
    refine MKept.trans ?_ State.loopTrack_mk
    exact MKept.refl _

theorem State.loopLine_mk {a0 : _} : MKept a0 (@State.loopLine a0) := by
  unfold State.loopLine
  split
  · rename_i v0 v1 v2 v3
    split
    · rename_i v4 v5 v6 v7
      refine MKept.mkUpd ?_
      refine MKept.ofSnd v7 ?_
      refine MKept.trans ?_ State.fresh_mk
      refine MKept.ofSnd v3 ?_
      refine MKept.trans ?_ State.fresh_mk
      exact MKept.refl _

theorem State.loopExecute_mk {a0 : _} {a1 : _} : MKept a0 (@State.loopExecute a0 a1) := by
  unfold State.loopExecute
  refine MKept.ite ?_ ?_
  · exact MKept.refl _
  · split
    · rename_i v0 v1
      exact MKept.refl _
    · rename_i v2 v3 v4
      refine MKept.ite ?_ ?_
      · exact MKept.refl _
      · dsimp only
        refine MKept.trans ?_ State.loopLine_mk
        refine MKept.mkUpd ?_
        refine MKept.trans ?_ State.loopRun_mk
        refine MKept.mkUpd ?_
        exact MKept.refl _

theorem State.takeReq_mk {a0 : _} {a1 : _} : MKept a0 (@State.takeReq a0 a1).1 := by
  unfold State.takeReq
  split
  · rename_i v0 v1
    dsimp only
    exact MKept.refl _
  · rename_i v2 v3 v4
    dsimp only
    refine MKept.iteFst ?_ ?_
    · refine MKept.trans ?_ State.requestMode_mk
      refine MKept.trans ?_ State.readFlag_mk
      exact MKept.refl _
    · dsimp only
      refine MKept.trans ?_ State.readFlag_mk
      exact MKept.refl _

theorem State.loopRelease_mk {a0 : _} {a1 : _} : MKept a0 (@State.loopRelease a0 a1) := by
  unfold State.loopRelease
  dsimp only
  refine MKept.trans ?_ State.putLoop_mk
  refine MKept.trans ?_ State.takeReq_mk
  exact MKept.refl _

theorem State.releaseLoops_mk {a0 : _} {a1 : _} : MKept a0 (@State.releaseLoops a0 a1) := by
  unfold State.releaseLoops
  dsimp only
  refine MKept.foldl ?_ (fun v0 v1 => ?_)
  · refine MKept.mkUpd ?_
    exact MKept.refl _
  · refine MKept.trans ?_ State.loopRelease_mk
    exact MKept.refl _

theorem State.loopIntake_mk {a0 : _} : MKept a0 (@State.loopIntake a0) := by
  unfold State.loopIntake
  refine MKept.ite ?_ ?_
  · exact MKept.refl _
  · refine MKept.foldl ?_ (fun v0 v1 => ?_)
    · exact MKept.refl _
    · refine MKept.trans ?_ State.releaseLoops_mk
      exact MKept.refl _

theorem State.cutLoops_mk {a0 : _} {a1 : _} : MKept a0 (@State.cutLoops a0 a1) := by
  unfold State.cutLoops
  dsimp only
  refine MKept.ite ?_ ?_
  · exact MKept.refl _
  · refine MKept.trans ?_ State.raise_mk
    refine MKept.trans ?_ (MKept.add (by decide))
    refine MKept.mkUpd ?_
    exact MKept.refl _

theorem loopReadBody_mk {a0 : _} {a1 : _} {a2 : _} : MKept a2 (@loopReadBody a0 a1 a2).st := by
  unfold loopReadBody
  dsimp only
  refine MKept.iteSt ?_ ?_
  · dsimp only
    exact MKept.refl _
  · split
    · rename_i v0 v1
      dsimp only
      exact MKept.refl _
    · rename_i v2 v3 v4
      dsimp only
      exact MKept.refl _

theorem loopModeSetApply_mk {a0 : _} {a1 : _} : MKept a1 (@loopModeSetApply a0 a1).st := by
  unfold loopModeSetApply
  dsimp only
  refine MKept.iteSt ?_ ?_
  · refine MKept.iteSt ?_ ?_
    · dsimp only
      exact MKept.refl _
    · dsimp only
      refine MKept.trans ?_ State.raise_mk
      refine MKept.trans ?_ (MKept.put (by decide))
      exact MKept.refl _
  · split
    · rename_i v0 v1
      dsimp only
      exact MKept.refl _
    · rename_i v2 v3 v4
      dsimp only
      refine MKept.trans ?_ State.putLoop_mk
      refine MKept.trans ?_ State.requestMode_mk
      exact MKept.refl _

theorem loopSpSetApply_mk {a0 : _} {a1 : _} : MKept a1 (@loopSpSetApply a0 a1).st := by
  unfold loopSpSetApply
  split
  · rename_i v0 v1
    dsimp only
    exact MKept.refl _
  · rename_i v2 v3 v4
    refine MKept.iteSt ?_ ?_
    · dsimp only
      refine MKept.trans ?_ State.putLoop_mk
      exact MKept.refl _
    · refine MKept.iteSt ?_ ?_
      · dsimp only
        refine MKept.trans ?_ State.putLoop_mk
        exact MKept.refl _
      · dsimp only
        exact MKept.refl _

theorem loopCoeffSetApply_mk {a0 : _} {a1 : _} : MKept a1 (@loopCoeffSetApply a0 a1).st := by
  unfold loopCoeffSetApply
  split
  · rename_i v0 v1
    dsimp only
    exact MKept.refl _
  · rename_i v2 v3 v4
    dsimp only
    refine MKept.iteSt ?_ ?_
    · dsimp only
      exact MKept.refl _
    · refine MKept.iteSt ?_ ?_
      · dsimp only
        exact MKept.refl _
      · refine MKept.iteSt ?_ ?_
        · dsimp only
          refine MKept.trans ?_ State.raise_mk
          exact MKept.refl _
        · dsimp only
          refine MKept.trans ?_ State.raise_mk
          refine MKept.trans ?_ State.journal_mk
          refine MKept.mkUpd ?_
          refine MKept.trans ?_ State.putLoop_mk
          exact MKept.refl _

theorem valueWriteApply_mk {a0 : _} {a1 : _} : MKept a1 (@valueWriteApply a0 a1).st := by
  unfold valueWriteApply
  dsimp only
  refine MKept.trans ?_ State.putRt_mk
  exact MKept.refl _

theorem constWriteApply_mk {a0 : _} {a1 : _} : MKept a1 (@constWriteApply a0 a1).st := by
  unfold constWriteApply
  dsimp only
  split
  · rename_i v0 v1 v2 v3
    dsimp only
    exact MKept.refl _
  · rename_i v4 v5
    refine MKept.iteSt ?_ ?_
    · dsimp only
      refine MKept.trans ?_ State.raise_mk
      exact MKept.refl _
    · dsimp only
      refine MKept.trans ?_ State.showRuntime_mk
      refine MKept.foldl ?_ (fun v6 v7 => ?_)
      · exact MKept.refl _
      · split
        · rename_i v8 v9 v10
          refine MKept.trans ?_ State.journal_mk
          refine MKept.trans ?_ State.putRt_mk
          exact MKept.refl _
        · rename_i v11 v12
          exact MKept.refl _

theorem forceSetApply_mk {a0 : _} {a1 : _} : MKept a1 (@forceSetApply a0 a1).st := by
  unfold forceSetApply
  split
  · rename_i v0 v1 v2 v3
    dsimp only
    exact MKept.refl _
  · rename_i v4 v5
    dsimp only
    refine MKept.trans ?_ State.showRuntime_mk
    refine MKept.foldl ?_ (fun v6 v7 => ?_)
    · refine MKept.trans ?_ State.auditBy_mk
      exact MKept.refl _
    · split
      · rename_i v8 v9 v10
        refine MKept.trans ?_ State.journal_mk
        refine MKept.mkUpd ?_
        exact MKept.refl _
      · rename_i v11 v12
        exact MKept.refl _

theorem forceClearApply_mk {a0 : _} {a1 : _} : MKept a1 (@forceClearApply a0 a1).st := by
  unfold forceClearApply
  dsimp only
  refine MKept.trans ?_ State.showRuntime_mk
  refine MKept.trans ?_ State.clearForces_mk
  refine MKept.trans ?_ State.auditBy_mk
  exact MKept.refl _

theorem valueOwnApply_mk {a0 : _} {a1 : _} : MKept a1 (@valueOwnApply a0 a1).st := by
  unfold valueOwnApply
  dsimp only
  split
  · rename_i v0 v1 v2
    dsimp only
    exact MKept.refl _
  · rename_i v3 v4
    dsimp only
    refine MKept.trans ?_ (MKept.put (by decide))
    refine MKept.mkUpd ?_
    exact MKept.refl _

theorem valueReleaseApply_mk {a0 : _} {a1 : _} : MKept a1 (@valueReleaseApply a0 a1).st := by
  unfold valueReleaseApply
  dsimp only
  refine MKept.trans ?_ (MKept.put (by decide))
  refine MKept.foldl ?_ (fun v0 v1 => ?_)
  · refine MKept.ite ?_ ?_
    · refine MKept.trans ?_ State.auditBy_mk
      exact MKept.refl _
    · exact MKept.refl _
  · split
    · rename_i v2 v3
      exact MKept.refl _
    · rename_i v4 v5 v6
      refine MKept.ite ?_ ?_
      · exact MKept.refl _
      · refine MKept.ite ?_ ?_
        · refine MKept.mkUpd ?_
          exact MKept.refl _
        · refine MKept.trans ?_ State.raise_mk
          refine MKept.mkUpd ?_
          exact MKept.refl _

theorem valueReadBody_mk {a0 : _} {a1 : _} {a2 : _} : MKept a2 (@valueReadBody a0 a1 a2).st := by
  unfold valueReadBody
  dsimp only
  exact MKept.refl _

theorem execValueRead_mk {a0 : _} {a1 : _} {t : State} (h : (@execValueRead a0 a1) = .next t) : MKept a1 t := by
  unfold execValueRead at h
  injection h with h
  subst h
  refine MKept.trans ?_ (served_mk ?_)
  · exact MKept.refl _
  · intro v0 v1
    refine MKept.trans ?_ valueReadBody_mk
    exact MKept.refl _

theorem execValueWrite_mk {a0 : _} {a1 : _} {t : State} (h : (@execValueWrite a0 a1) = .next t) : MKept a1 t := by
  unfold execValueWrite at h
  injection h with h
  subst h
  refine MKept.trans ?_ queued_mk
  exact MKept.refl _

theorem execConstWrite_mk {a0 : _} {a1 : _} {t : State} (h : (@execConstWrite a0 a1) = .next t) : MKept a1 t := by
  unfold execConstWrite at h
  injection h with h
  subst h
  refine MKept.trans ?_ queued_mk
  exact MKept.refl _

theorem execValueOwn_mk {a0 : _} {a1 : _} {t : State} (h : (@execValueOwn a0 a1) = .next t) : MKept a1 t := by
  unfold execValueOwn at h
  injection h with h
  subst h
  refine MKept.trans ?_ queued_mk
  exact MKept.refl _

theorem execValueRelease_mk {a0 : _} {a1 : _} {t : State} (h : (@execValueRelease a0 a1) = .next t) : MKept a1 t := by
  unfold execValueRelease at h
  injection h with h
  subst h
  refine MKept.trans ?_ queued_mk
  exact MKept.refl _

theorem execForceSet_mk {a0 : _} {a1 : _} {t : State} (h : (@execForceSet a0 a1) = .next t) : MKept a1 t := by
  unfold execForceSet at h
  injection h with h
  subst h
  refine MKept.trans ?_ queued_mk
  exact MKept.refl _

theorem execForceClear_mk {a0 : _} {a1 : _} {t : State} (h : (@execForceClear a0 a1) = .next t) : MKept a1 t := by
  unfold execForceClear at h
  injection h with h
  subst h
  refine MKept.trans ?_ queued_mk
  exact MKept.refl _

theorem execLoopRead_mk {a0 : _} {a1 : _} {t : State} (h : (@execLoopRead a0 a1) = .next t) : MKept a1 t := by
  unfold execLoopRead at h
  injection h with h
  subst h
  refine MKept.trans ?_ (served_mk ?_)
  · exact MKept.refl _
  · intro v0 v1
    refine MKept.trans ?_ loopReadBody_mk
    exact MKept.refl _

theorem execLoopModeSet_mk {a0 : _} {a1 : _} {t : State} (h : (@execLoopModeSet a0 a1) = .next t) : MKept a1 t := by
  unfold execLoopModeSet at h
  injection h with h
  subst h
  refine MKept.trans ?_ queued_mk
  exact MKept.refl _

theorem execLoopCoeffSet_mk {a0 : _} {a1 : _} {t : State} (h : (@execLoopCoeffSet a0 a1) = .next t) : MKept a1 t := by
  unfold execLoopCoeffSet at h
  injection h with h
  subst h
  refine MKept.trans ?_ queued_mk
  exact MKept.refl _

theorem execLoopSpSet_mk {a0 : _} {a1 : _} {t : State} (h : (@execLoopSpSet a0 a1) = .next t) : MKept a1 t := by
  unfold execLoopSpSet at h
  injection h with h
  subst h
  refine MKept.trans ?_ queued_mk
  exact MKept.refl _

theorem execLoopBlockExecute_mk {a0 : _} {a1 : _} {a2 : _} {t : State} (h : (@execLoopBlockExecute a0 a1 a2) = .next t) : MKept a1 t := by
  unfold execLoopBlockExecute at h
  injection h with h
  subst h
  refine MKept.trans ?_ (State.onCluster_mk ?_)
  · exact MKept.refl _
  · intro v0
    refine MKept.trans ?_ State.loopExecute_mk
    exact MKept.refl _

theorem State.lineMem_mk {a0 : _} {a1 : _} {a2 : _} : MKept a0 (@State.lineMem a0 a1 a2) := by
  unfold State.lineMem
  refine MKept.ite ?_ ?_
  · refine MKept.mkUpd ?_
    exact MKept.refl _
  · refine MKept.ite ?_ ?_
    · refine MKept.mkUpd ?_
      exact MKept.refl _
    · refine MKept.mkUpd ?_
      exact MKept.refl _

theorem State.writeLine_mk {a0 : _} {a1 : _} : MKept a0 (@State.writeLine a0 a1) := by
  unfold State.writeLine
  dsimp only
  refine MKept.mkUpd ?_
  refine MKept.trans ?_ State.lineMem_mk
  exact MKept.refl _

theorem State.taskEnd_mk {a0 : _} {a1 : _} {a2 : _} {a3 : _} {a4 : _} : MKept a0 (@State.taskEnd a0 a1 a2 a3 a4) := by
  unfold State.taskEnd
  refine MKept.ite ?_ ?_
  · refine MKept.foldl ?_ (fun v0 v1 => ?_)
    · refine MKept.trans ?_ State.endTask_mk
      exact MKept.refl _
    · refine MKept.trans ?_ State.writeLine_mk
      exact MKept.refl _
  · exact MKept.refl _

theorem execTaskEnd_mk {a0 : _} {a1 : _} {a2 : _} {a3 : _} {a4 : _} {a5 : _} {t : State} (h : (@execTaskEnd a0 a1 a2 a3 a4 a5) = .next t) : MKept a4 t := by
  unfold execTaskEnd at h
  injection h with h
  subst h
  refine MKept.trans ?_ (State.onCluster_mk ?_)
  · exact MKept.refl _
  · intro v0
    refine MKept.trans ?_ State.taskEnd_mk
    exact MKept.refl _

theorem State.sliceUsed_mk {a0 : _} {a1 : _} {a2 : _} : MKept a0 (@State.sliceUsed a0 a1 a2) := by
  unfold State.sliceUsed
  dsimp only
  refine MKept.trans ?_ (MKept.put (Fld.calm_next (by decide) _))
  refine MKept.mkUpd ?_
  exact MKept.refl _

theorem State.watchClass_mk {a0 : _} {a1 : _} : MKept a0 (@State.watchClass a0 a1) := by
  unfold State.watchClass
  refine MKept.ite ?_ ?_
  · exact MKept.refl _
  · refine MKept.ite ?_ ?_
    · refine MKept.trans ?_ State.spillAll_mk
      exact MKept.refl _
    · refine MKept.trans ?_ State.overrun_mk
      exact MKept.refl _

theorem State.endSlice_mk {a0 : _} {a1 : _} {a2 : _} : MKept a0 (@State.endSlice a0 a1 a2) := by
  unfold State.endSlice
  refine MKept.ite ?_ ?_
  · exact MKept.refl _
  · dsimp only
    refine MKept.trans ?_ State.watchClass_mk
    refine MKept.mkUpd ?_
    refine MKept.trans ?_ State.sliceUsed_mk
    exact MKept.refl _

theorem execSliceEnd_mk {a0 : _} {a1 : _} {a2 : _} {a3 : _} {t : State} (h : (@execSliceEnd a0 a1 a2 a3) = .next t) : MKept a2 t := by
  unfold execSliceEnd at h
  injection h with h
  subst h
  refine MKept.trans ?_ (State.onCluster_mk ?_)
  · exact MKept.refl _
  · intro v0
    refine MKept.trans ?_ State.endSlice_mk
    exact MKept.refl _

theorem State.sessionOpened_mk {a0 : _} {a1 : _} {a2 : _} : MKept a0 (@State.sessionOpened a0 a1 a2) := by
  unfold State.sessionOpened
  refine MKept.trans ?_ State.raise_mk
  refine MKept.trans ?_ State.audit_mk
  exact MKept.refl _

theorem State.openSession_mk {a0 : _} {a1 : _} : MKept a0 (@State.openSession a0 a1) := by
  unfold State.openSession
  split
  · rename_i v0 v1 v2
    dsimp only
    refine MKept.trans ?_ State.answer_mk
    refine MKept.trans ?_ State.sessionOpened_mk
    refine MKept.trans ?_ State.countSessions_mk
    refine MKept.trans ?_ State.onSession_mk
    exact MKept.refl _
  · rename_i v3 v4
    dsimp only
    refine MKept.trans ?_ State.answer_mk
    refine MKept.trans ?_ State.sessionOpened_mk
    refine MKept.trans ?_ State.countSessions_mk
    refine MKept.mkUpd ?_
    exact MKept.refl _

theorem State.authFailed_mk {a0 : _} {a1 : _} {a2 : _} : MKept a0 (@State.authFailed a0 a1 a2) := by
  unfold State.authFailed
  dsimp only
  refine MKept.trans ?_ State.send_mk
  refine MKept.trans ?_ State.raise_mk
  refine MKept.mkUpd ?_
  refine MKept.trans ?_ State.audit_mk
  exact MKept.refl _

theorem State.helloService_mk {a0 : _} {a1 : _} : MKept a0 (@State.helloService a0 a1) := by
  unfold State.helloService
  refine MKept.ite ?_ ?_
  · split
    · rename_i v0 v1 v2 v3
      dsimp only
      refine MKept.trans ?_ State.send_mk
      refine MKept.mkUpd ?_
      refine MKept.ofSnd v3 ?_
      refine MKept.trans ?_ State.fresh_mk
      exact MKept.refl _
  · refine MKept.ite ?_ ?_
    · refine MKept.trans ?_ State.authFailed_mk
      exact MKept.refl _
    · refine MKept.ite ?_ ?_
      · refine MKept.trans ?_ State.authFailed_mk
        exact MKept.refl _
      · refine MKept.ite ?_ ?_
        · refine MKept.trans ?_ State.authFailed_mk
          exact MKept.refl _
        · dsimp only
          refine MKept.ite ?_ ?_
          · refine MKept.trans ?_ State.send_mk
            refine MKept.mkUpd ?_
            exact MKept.refl _
          · refine MKept.trans ?_ State.openSession_mk
            refine MKept.mkUpd ?_
            exact MKept.refl _

theorem State.helloTls_mk {a0 : _} {a1 : _} : MKept a0 (@State.helloTls a0 a1) := by
  unfold State.helloTls
  refine MKept.ite ?_ ?_
  · refine MKept.trans ?_ State.send_mk
    exact MKept.refl _
  · refine MKept.trans ?_ State.openSession_mk
    exact MKept.refl _

theorem State.hello_mk {a0 : _} {a1 : _} : MKept a0 (@State.hello a0 a1) := by
  unfold State.hello
  split
  · rename_i v0 v1 v2
    refine MKept.ite ?_ ?_
    · refine MKept.trans ?_ State.send_mk
      exact MKept.refl _
    · split
      · rename_i v3 v4 v5 v6
        refine MKept.trans ?_ State.send_mk
        exact MKept.refl _
      · rename_i v7 v8
        refine MKept.ite ?_ ?_
        · refine MKept.trans ?_ State.helloService_mk
          exact MKept.refl _
        · refine MKept.trans ?_ State.helloTls_mk
          exact MKept.refl _
  · rename_i v9 v10
    refine MKept.trans ?_ turnedAway_mk
    exact MKept.refl _

theorem execHello_mk {a0 : _} {a1 : _} {t : State} (h : (@execHello a0 a1) = .next t) : MKept a1 t := by
  unfold execHello at h
  injection h with h
  subst h
  refine MKept.trans ?_ State.hello_mk
  exact MKept.refl _

theorem execBye_mk {a0 : _} {a1 : _} {t : State} (h : (@execBye a0 a1) = .next t) : MKept a1 t := by
  unfold execBye at h
  injection h with h
  subst h
  refine MKept.ite ?_ ?_
  · refine MKept.trans ?_ State.releaseSession_mk
    refine MKept.trans ?_ (served_mk ?_)
    · exact MKept.refl _
    · intro v0 v1
      dsimp only
      exact MKept.refl _
  · refine MKept.trans ?_ (served_mk ?_)
    · exact MKept.refl _
    · intro v2 v3
      dsimp only
      exact MKept.refl _

theorem execPing_mk {a0 : _} {a1 : _} {t : State} (h : (@execPing a0 a1) = .next t) : MKept a1 t := by
  unfold execPing at h
  injection h with h
  subst h
  refine MKept.trans ?_ (served_mk ?_)
  · exact MKept.refl _
  · intro v0 v1
    dsimp only
    exact MKept.refl _

theorem sessionPriorityBody_mk {a0 : _} {a1 : _} {a2 : _} : MKept a2 (@sessionPriorityBody a0 a1 a2).st := by
  unfold sessionPriorityBody
  dsimp only
  refine MKept.trans ?_ State.onSession_mk
  exact MKept.refl _

theorem execSessionPriority_mk {a0 : _} {a1 : _} {t : State} (h : (@execSessionPriority a0 a1) = .next t) : MKept a1 t := by
  unfold execSessionPriority at h
  injection h with h
  subst h
  refine MKept.trans ?_ (served_mk ?_)
  · exact MKept.refl _
  · intro v0 v1
    refine MKept.trans ?_ sessionPriorityBody_mk
    exact MKept.refl _

theorem execSessionTransportLoss_mk {a0 : _} {a1 : _} {t : State} (h : (@execSessionTransportLoss a0 a1) = .next t) : MKept a1 t := by
  unfold execSessionTransportLoss at h
  injection h with h
  subst h
  refine MKept.trans ?_ State.closeConn_mk
  exact MKept.refl _

theorem execSessionIdleTimeout_mk {a0 : _} {a1 : _} {t : State} (h : (@execSessionIdleTimeout a0 a1) = .next t) : MKept a1 t := by
  unfold execSessionIdleTimeout at h
  injection h with h
  subst h
  split
  · rename_i v0 v1 v2
    refine MKept.ite ?_ ?_
    · refine MKept.trans ?_ State.holdSession_mk
      exact MKept.refl _
    · exact MKept.refl _
  · rename_i v3 v4
    exact MKept.refl _

theorem execOwnGraceExpiry_mk {a0 : _} {a1 : _} {t : State} (h : (@execOwnGraceExpiry a0 a1) = .next t) : MKept a1 t := by
  unfold execOwnGraceExpiry at h
  injection h with h
  subst h
  split
  · rename_i v0 v1 v2
    refine MKept.ite ?_ ?_
    · refine MKept.trans ?_ State.releaseSession_mk
      exact MKept.refl _
    · exact MKept.refl _
  · rename_i v3 v4
    exact MKept.refl _

theorem execNonceExpiry_mk {a0 : _} {t : State} (h : (@execNonceExpiry a0) = .next t) : MKept a0 t := by
  unfold execNonceExpiry at h
  injection h with h
  subst h
  refine MKept.ite ?_ ?_
  · refine MKept.mkUpd ?_
    exact MKept.refl _
  · exact MKept.refl _

theorem execServicePacketCrcFail_mk {a0 : _} {t : State} (h : (@execServicePacketCrcFail a0) = .next t) : MKept a0 t := by
  unfold execServicePacketCrcFail at h
  injection h with h
  subst h
  refine MKept.trans ?_ (MKept.inc (by decide))
  exact MKept.refl _

theorem execTransferTimeout_mk {a0 : _} {a1 : _} {t : State} (h : (@execTransferTimeout a0 a1) = .next t) : MKept a1 t := by
  unfold execTransferTimeout at h
  injection h with h
  subst h
  refine MKept.mkUpd ?_
  exact MKept.refl _

theorem execForwardTimeout_mk {a0 : _} {a1 : _} {a2 : _} {t : State} (h : (@execForwardTimeout a0 a1 a2) = .next t) : MKept a2 t := by
  unfold execForwardTimeout at h
  injection h with h
  subst h
  split
  · rename_i v0 v1
    exact MKept.refl _
  · rename_i v2 v3 v4
    dsimp only
    refine MKept.trans ?_ State.answer_mk
    refine MKept.mkUpd ?_
    exact MKept.refl _

theorem execGong_mk {a0 : _} {a1 : _} {t : State} (h : (@execGong a0 a1) = .next t) : MKept a1 t := by
  unfold execGong at h
  injection h with h
  subst h
  refine MKept.ite ?_ ?_
  · split
    · rename_i v0 v1 v2 v3
      refine MKept.mkUpd ?_
      refine MKept.ofSnd v3 ?_
      refine MKept.trans ?_ State.fresh_mk
      refine MKept.trans ?_ queued_mk
      exact MKept.refl _
  · refine MKept.trans ?_ queued_mk
    exact MKept.refl _

theorem execGongDatagramSend_mk {a0 : _} {t : State} (h : (@execGongDatagramSend a0) = .next t) : MKept a0 t := by
  unfold execGongDatagramSend at h
  injection h with h
  subst h
  refine MKept.ite ?_ ?_
  · exact MKept.refl _
  · split
    · rename_i v0 v1
      exact MKept.refl _
    · rename_i v2 v3 v4 v5
      dsimp only
      refine MKept.mkUpd ?_
      exact MKept.refl _

theorem State.gongRejected_mk {a0 : _} {a1 : _} {a2 : _} : MKept a0 (@State.gongRejected a0 a1 a2) := by
  unfold State.gongRejected
  refine MKept.trans ?_ State.raise_mk
  exact MKept.refl _

theorem State.gongReceive_mk {a0 : _} {a1 : _} : MKept a0 (@State.gongReceive a0 a1) := by
  unfold State.gongReceive
  refine MKept.ite ?_ ?_
  · exact MKept.refl _
  · refine MKept.ite ?_ ?_
    · refine MKept.trans ?_ State.gongRejected_mk
      exact MKept.refl _
    · refine MKept.ite ?_ ?_
      · exact MKept.refl _
      · refine MKept.ite ?_ ?_
        · refine MKept.trans ?_ State.gongRejected_mk
          exact MKept.refl _
        · refine MKept.ite ?_ ?_
          · refine MKept.trans ?_ State.gongRejected_mk
            exact MKept.refl _
          · dsimp only
            refine MKept.trans ?_ State.raise_mk
            refine MKept.trans ?_ (MKept.put (by decide))
            refine MKept.mkUpd ?_
            exact MKept.refl _

theorem execGongDatagramReceive_mk {a0 : _} {a1 : _} {t : State} (h : (@execGongDatagramReceive a0 a1) = .next t) : MKept a1 t := by
  unfold execGongDatagramReceive at h
  injection h with h
  subst h
  refine MKept.trans ?_ State.gongReceive_mk
  exact MKept.refl _

theorem State.toRecorder_mk {a0 : _} {a1 : _} : MKept a0 (@State.toRecorder a0 a1) := by
  unfold State.toRecorder
  refine MKept.foldl ?_ (fun v0 v1 => ?_)
  · exact MKept.refl _
  · refine MKept.ite ?_ ?_
    · refine MKept.ite ?_ ?_
      · refine MKept.trans ?_ (MKept.put (by decide))
        refine MKept.mkUpd ?_
        exact MKept.refl _
      · refine MKept.trans ?_ (MKept.inc (by decide))
        refine MKept.mkUpd ?_
        exact MKept.refl _
    · refine MKept.ite ?_ ?_
      · refine MKept.mkUpd ?_
        exact MKept.refl _
      · refine MKept.trans ?_ (MKept.inc (by decide))
        exact MKept.refl _

theorem State.showLeds_mk {a0 : _} : MKept a0 (@State.showLeds a0) := by
  unfold State.showLeds
  dsimp only
  refine MKept.trans ?_ (MKept.put (by decide))
  exact MKept.refl _

theorem State.deliver_mk {a0 : _} : MKept a0 (@State.deliver a0) := by
  unfold State.deliver
  split
  · rename_i v0 v1 v2 v3
    split
    · rename_i v4
      exact MKept.refl _
    · rename_i v5 v6 v7
      dsimp only
      refine MKept.ite ?_ ?_
      · refine MKept.trans ?_ State.toRecorder_mk
        refine MKept.ite ?_ ?_
        · refine MKept.trans ?_ (MKept.put (by decide))
          refine MKept.ite ?_ ?_
          · refine MKept.trans ?_ State.showLeds_mk
            refine MKept.mkUpd ?_
            exact MKept.refl _
          · refine MKept.mkUpd ?_
            exact MKept.refl _
        · refine MKept.ite ?_ ?_
          · refine MKept.trans ?_ State.showLeds_mk
            refine MKept.mkUpd ?_
            exact MKept.refl _
          · refine MKept.mkUpd ?_
            exact MKept.refl _
      · refine MKept.ite ?_ ?_
        · refine MKept.trans ?_ (MKept.put (by decide))
          refine MKept.ite ?_ ?_
          · refine MKept.trans ?_ State.showLeds_mk
            refine MKept.mkUpd ?_
            exact MKept.refl _
          · refine MKept.mkUpd ?_
            exact MKept.refl _
        · refine MKept.ite ?_ ?_
          · refine MKept.trans ?_ State.showLeds_mk
            refine MKept.mkUpd ?_
            exact MKept.refl _
          · refine MKept.mkUpd ?_
            exact MKept.refl _

theorem execEventDeliver_mk {a0 : _} {t : State} (h : (@execEventDeliver a0) = .next t) : MKept a0 t := by
  unfold execEventDeliver at h
  injection h with h
  subst h
  refine MKept.trans ?_ State.deliver_mk
  exact MKept.refl _

theorem State.journalToll_mk {a0 : _} : MKept a0 (@State.journalToll a0) := by
  unfold State.journalToll
  refine MKept.trans ?_ State.journal_mk
  exact MKept.refl _

theorem State.tollStep_mk {a0 : _} {a1 : _} {a2 : _} : MKept a0 (@State.tollStep a0 a1 a2) := by
  unfold State.tollStep
  dsimp only
  refine MKept.ite ?_ ?_
  · refine MKept.trans ?_ State.cause_mk
    refine MKept.trans ?_ State.raiseLatched_mk
    refine MKept.trans ?_ State.journal_mk
    refine MKept.trans ?_ State.journalToll_mk
    refine MKept.mkUpd ?_
    refine MKept.trans ?_ State.latchCounts_mk
    refine MKept.trans ?_ (MKept.put (by decide))
    refine MKept.mkUpd ?_
    refine MKept.trans ?_ State.rejectNext_mk
    exact MKept.refl _
  · refine MKept.ite ?_ ?_
    · refine MKept.trans ?_ State.cause_mk
      refine MKept.trans ?_ State.raiseLatched_mk
      refine MKept.trans ?_ State.journal_mk
      refine MKept.trans ?_ State.journalToll_mk
      refine MKept.mkUpd ?_
      refine MKept.trans ?_ State.latchCounts_mk
      refine MKept.trans ?_ (MKept.put (by decide))
      refine MKept.mkUpd ?_
      refine MKept.trans ?_ State.rejectNext_mk
      exact MKept.refl _
    · refine MKept.mkUpd ?_
      refine MKept.trans ?_ State.raiseLatched_mk
      refine MKept.trans ?_ State.journal_mk
      refine MKept.trans ?_ State.journalToll_mk
      refine MKept.mkUpd ?_
      refine MKept.trans ?_ State.latchCounts_mk
      refine MKept.trans ?_ (MKept.put (by decide))
      refine MKept.mkUpd ?_
      refine MKept.trans ?_ State.rejectNext_mk
      exact MKept.refl _

theorem State.eraseStarts_mk {a0 : _} : MKept a0 (@State.eraseStarts a0) := by
  unfold State.eraseStarts
  refine MKept.ite ?_ ?_
  · exact MKept.refl _
  · dsimp only
    refine MKept.ite ?_ ?_
    · refine MKept.trans ?_ (MKept.put (by decide))
      refine MKept.mkUpd ?_
      exact MKept.refl _
    · refine MKept.mkUpd ?_
      exact MKept.refl _

theorem State.eraseWanted_mk {a0 : _} : MKept a0 (@State.eraseWanted a0) := by
  unfold State.eraseWanted
  refine MKept.trans ?_ State.eraseStarts_mk
  refine MKept.mkUpd ?_
  exact MKept.refl _

theorem State.eraseEnds_mk {a0 : _} {a1 : _} : MKept a0 (@State.eraseEnds a0 a1) := by
  unfold State.eraseEnds
  dsimp only
  refine MKept.ite ?_ ?_
  · refine MKept.trans ?_ (MKept.put (by decide))
    refine MKept.trans ?_ (MKept.put (by decide))
    refine MKept.mkUpd ?_
    exact MKept.refl _
  · refine MKept.mkUpd ?_
    exact MKept.refl _

theorem State.openWindow_mk {a0 : _} : MKept a0 (@State.openWindow a0) := by
  unfold State.openWindow
  dsimp only
  refine MKept.trans ?_ State.eraseStarts_mk
  refine MKept.mkUpd ?_
  iterate 5 refine MKept.trans ?_ (MKept.put (by decide))
  exact MKept.refl _

theorem State.expire_mk {a0 : _} {a1 : _} : MKept a0 (@State.expire a0 a1) := by
  unfold State.expire
  dsimp only
  refine MKept.ite ?_ ?_
  · refine MKept.trans ?_ State.latchCounts_mk
    refine MKept.trans ?_ (MKept.put (by decide))
    refine MKept.mkUpd ?_
    refine MKept.trans ?_ (MKept.put (by decide))
    refine MKept.trans ?_ (MKept.inc (by decide))
    refine MKept.trans ?_ (MKept.put (by decide))
    refine MKept.trans ?_ (MKept.put (by decide))
    exact MKept.refl _
  · refine MKept.ite ?_ ?_
    · refine MKept.trans ?_ State.openWindow_mk
      refine MKept.trans ?_ State.tollStep_mk
      refine MKept.trans ?_ (MKept.put (by decide))
      refine MKept.trans ?_ (MKept.inc (by decide))
      refine MKept.trans ?_ (MKept.put (by decide))
      refine MKept.trans ?_ (MKept.put (by decide))
      exact MKept.refl _
    · refine MKept.mkUpd ?_
      refine MKept.trans ?_ State.tollStep_mk
      refine MKept.trans ?_ (MKept.put (by decide))
      refine MKept.trans ?_ (MKept.inc (by decide))
      refine MKept.trans ?_ (MKept.put (by decide))
      refine MKept.trans ?_ (MKept.put (by decide))
      exact MKept.refl _

theorem State.wdLands_mk {a0 : _} {a1 : _} {a2 : _} : MKept a0 (@State.wdLands a0 a1 a2) := by
  unfold State.wdLands
  refine MKept.ite ?_ ?_
  · exact MKept.refl _
  · dsimp only
    refine MKept.ite ?_ ?_
    · refine MKept.trans ?_ State.expire_mk
      refine MKept.trans ?_ State.raiseLatched_mk
      refine MKept.trans ?_ (MKept.put (by decide))
      exact MKept.refl _
    · refine MKept.ite ?_ ?_
      · refine MKept.trans ?_ State.expire_mk
        refine MKept.trans ?_ State.raiseLatched_mk
        refine MKept.trans ?_ (MKept.put (by decide))
        exact MKept.refl _
      · refine MKept.trans ?_ State.openWindow_mk
        refine MKept.trans ?_ (MKept.put (by decide))
        exact MKept.refl _

theorem execWdService_mk {a0 : _} {a1 : _} {a2 : _} {t : State} (h : (@execWdService a0 a1 a2) = .next t) : MKept a2 t := by
  unfold execWdService at h
  injection h with h
  subst h
  split
  · rename_i v0 v1 v2
    refine MKept.trans ?_ State.wdLands_mk
    exact MKept.refl _
  · rename_i v3 v4
    exact MKept.refl _

theorem execWdExpired_mk {a0 : _} {t : State} (h : (@execWdExpired a0) = .next t) : MKept a0 t := by
  unfold execWdExpired at h
  injection h with h
  subst h
  refine MKept.ite ?_ ?_
  · exact MKept.refl _
  · dsimp only
    refine MKept.trans ?_ State.expire_mk
    refine MKept.trans ?_ State.raiseLatched_mk
    refine MKept.trans ?_ (MKept.put (by decide))
    exact MKept.refl _

theorem execWdAckTimeout_mk {a0 : _} {t : State} (h : (@execWdAckTimeout a0) = .next t) : MKept a0 t := by
  unfold execWdAckTimeout at h
  injection h with h
  subst h
  refine MKept.ite ?_ ?_
  · exact MKept.refl _
  · dsimp only
    refine MKept.trans ?_ State.cause_mk
    refine MKept.trans ?_ State.latch_mk
    refine MKept.mkUpd ?_
    exact MKept.refl _

theorem execWdClockStop_mk {a0 : _} {t : State} (h : (@execWdClockStop a0) = .next t) : MKept a0 t := by
  unfold execWdClockStop at h
  injection h with h
  subst h
  refine MKept.ite ?_ ?_
  · exact MKept.refl _
  · dsimp only
    refine MKept.trans ?_ State.expire_mk
    refine MKept.trans ?_ State.raiseLatched_mk
    refine MKept.mkUpd ?_
    refine MKept.trans ?_ (MKept.put (by decide))
    refine MKept.trans ?_ (MKept.put (by decide))
    exact MKept.refl _

theorem State.healthFails_mk {a0 : _} {a1 : _} : MKept a0 (@State.healthFails a0 a1) := by
  unfold State.healthFails
  refine MKept.ite ?_ ?_
  · exact MKept.refl _
  · refine MKept.trans ?_ State.raise_mk
    refine MKept.trans ?_ (MKept.inc (by decide))
    refine MKept.trans ?_ (MKept.put (by decide))
    exact MKept.refl _

theorem execWdEraseGuard_mk {a0 : _} {a1 : _} {t : State} (h : (@execWdEraseGuard a0 a1) = .next t) : MKept a1 t := by
  unfold execWdEraseGuard at h
  injection h with h
  subst h
  refine MKept.ite ?_ ?_
  · exact MKept.refl _
  · refine MKept.trans ?_ State.raiseLatched_mk
    iterate 3 refine MKept.trans ?_ (MKept.put (by decide))
    exact MKept.refl _

theorem execTollAge_mk {a0 : _} {t : State} (h : (@execTollAge a0) = .next t) : MKept a0 t := by
  unfold execTollAge at h
  injection h with h
  subst h
  refine MKept.trans ?_ (MKept.put (by decide))
  refine MKept.mkUpd ?_
  exact MKept.refl _

theorem State.showFaults_mk {a0 : _} : MKept a0 (@State.showFaults a0) := by
  unfold State.showFaults
  dsimp only
  refine MKept.trans ?_ (MKept.peak (by decide))
  iterate 4 refine MKept.trans ?_ (MKept.put (by decide))
  exact MKept.refl _

theorem State.putCtx_mk {a0 : _} {a1 : _} {a2 : _} : MKept a0 (@State.putCtx a0 a1 a2) := by
  unfold State.putCtx
  refine MKept.mkUpd ?_
  exact MKept.refl _

theorem State.faultArrives_mk {a0 : _} {a1 : _} : MKept a0 (@State.faultArrives a0 a1) := by
  unfold State.faultArrives
  dsimp only
  split
  · rename_i v0 v1
    refine MKept.trans ?_ State.showFaults_mk
    refine MKept.trans ?_ State.putCtx_mk
    exact MKept.refl _
  · rename_i v2 v3 v4
    refine MKept.ite ?_ ?_
    · refine MKept.trans ?_ State.tollStep_mk
      refine MKept.trans ?_ State.raiseLatched_mk
      exact MKept.refl _
    · refine MKept.ite ?_ ?_
      · refine MKept.trans ?_ State.showFaults_mk
        refine MKept.trans ?_ (MKept.inc (by decide))
        refine MKept.trans ?_ State.putCtx_mk
        exact MKept.refl _
      · refine MKept.ite ?_ ?_
        · refine MKept.trans ?_ State.tollStep_mk
          refine MKept.trans ?_ State.raiseLatched_mk
          exact MKept.refl _
        · refine MKept.trans ?_ State.showFaults_mk
          refine MKept.trans ?_ State.putCtx_mk
          exact MKept.refl _

theorem execFaultArrival_mk {a0 : _} {t : State} (h : (@execFaultArrival a0) = .next t) : MKept a0 t := by
  unfold execFaultArrival at h
  injection h with h
  subst h
  split
  · rename_i v0 v1
    exact MKept.refl _
  · rename_i v2 v3 v4 v5
    refine MKept.trans ?_ State.faultArrives_mk
    refine MKept.mkUpd ?_
    exact MKept.refl _

theorem execFaultHandlerEnd_mk {a0 : _} {a1 : _} {a2 : _} {t : State} (h : (@execFaultHandlerEnd a0 a1 a2) = .next t) : MKept a2 t := by
  unfold execFaultHandlerEnd at h
  injection h with h
  subst h
  split
  · rename_i v0 v1
    exact MKept.refl _
  · rename_i v2 v3 v4
    dsimp only
    refine MKept.ite ?_ ?_
    · refine MKept.mkUpd ?_
      refine MKept.trans ?_ State.showFaults_mk
      refine MKept.trans ?_ State.putCtx_mk
      exact MKept.refl _
    · refine MKept.trans ?_ State.showFaults_mk
      refine MKept.trans ?_ State.putCtx_mk
      exact MKept.refl _

theorem State.safeRecord_mk {a0 : _} {a1 : _} : MKept a0 (@State.safeRecord a0 a1) := by
  unfold State.safeRecord
  refine MKept.trans ?_ State.journal_mk
  refine MKept.trans ?_ State.latch_mk
  refine MKept.mkUpd ?_
  exact MKept.refl _

theorem execFatalHandler_mk {a0 : _} {t : State} (h : (@execFatalHandler a0) = .next t) : MKept a0 t := by
  unfold execFatalHandler at h
  injection h with h
  subst h
  split
  · rename_i v0 v1
    exact MKept.refl _
  · rename_i v2 v3 v4
    dsimp only
    refine MKept.ite ?_ ?_
    · refine MKept.trans ?_ State.cause_mk
      refine MKept.trans ?_ (MKept.put (by decide))
      refine MKept.trans ?_ (MKept.put (by decide))
      refine MKept.trans ?_ State.rejectNext_mk
      exact MKept.refl _
    · refine MKept.trans ?_ State.cause_mk
      refine MKept.trans ?_ (MKept.put (by decide))
      refine MKept.trans ?_ (MKept.put (by decide))
      refine MKept.trans ?_ State.safeRecord_mk
      refine MKept.trans ?_ State.rejectNext_mk
      exact MKept.refl _

theorem State.recorderAppend_mk {a0 : _} : MKept a0 (@State.recorderAppend a0) := by
  unfold State.recorderAppend
  split
  · rename_i v0 v1
    exact MKept.refl _
  · rename_i v2 v3 v4 v5
    refine MKept.ite ?_ ?_
    · exact MKept.refl _
    · dsimp only
      refine MKept.ite ?_ ?_
      · refine MKept.trans ?_ (MKept.inc (by decide))
        refine MKept.ite ?_ ?_
        · refine MKept.mkUpd ?_
          exact MKept.refl _
        · refine MKept.mkUpd ?_
          exact MKept.refl _
      · refine MKept.ite ?_ ?_
        · refine MKept.trans ?_ (MKept.put (by decide))
          refine MKept.mkUpd ?_
          refine MKept.ite ?_ ?_
          · refine MKept.mkUpd ?_
            exact MKept.refl _
          · refine MKept.mkUpd ?_
            exact MKept.refl _
        · refine MKept.ite ?_ ?_
          · refine MKept.trans ?_ (MKept.put (by decide))
            refine MKept.trans ?_ (MKept.put (by decide))
            refine MKept.mkUpd ?_
            refine MKept.ite ?_ ?_
            · refine MKept.mkUpd ?_
              exact MKept.refl _
            · refine MKept.mkUpd ?_
              exact MKept.refl _
          · refine MKept.trans ?_ State.raise_mk
            refine MKept.mkUpd ?_
            refine MKept.trans ?_ (MKept.put (by decide))
            refine MKept.trans ?_ (MKept.put (by decide))
            refine MKept.mkUpd ?_
            refine MKept.ite ?_ ?_
            · refine MKept.mkUpd ?_
              exact MKept.refl _
            · refine MKept.mkUpd ?_
              exact MKept.refl _

theorem execRecorderAppend_mk {a0 : _} {t : State} (h : (@execRecorderAppend a0) = .next t) : MKept a0 t := by
  unfold execRecorderAppend at h
  injection h with h
  subst h
  refine MKept.trans ?_ State.recorderAppend_mk
  exact MKept.refl _

theorem execRecorderFreeze_mk {a0 : _} {a1 : _} {t : State} (h : (@execRecorderFreeze a0 a1) = .next t) : MKept a1 t := by
  unfold execRecorderFreeze at h
  injection h with h
  subst h
  refine MKept.trans ?_ (served_mk ?_)
  · exact MKept.refl _
  · intro v0 v1
    dsimp only
    refine MKept.trans ?_ (MKept.put (by decide))
    refine MKept.trans ?_ (MKept.put (by decide))
    exact MKept.refl _

theorem execRecorderRead_mk {a0 : _} {a1 : _} {t : State} (h : (@execRecorderRead a0 a1) = .next t) : MKept a1 t := by
  unfold execRecorderRead at h
  injection h with h
  subst h
  refine MKept.trans ?_ (served_mk ?_)
  · exact MKept.refl _
  · intro v0 v1
    split
    · rename_i v2 v3 v4 v5
      dsimp only
      exact MKept.refl _

theorem recorderThawBody_mk {a0 : _} {a1 : _} : MKept a1 (@recorderThawBody a0 a1).st := by
  unfold recorderThawBody
  dsimp only
  refine MKept.trans ?_ State.thaw_mk
  exact MKept.refl _

theorem execRecorderThaw_mk {a0 : _} {a1 : _} {t : State} (h : (@execRecorderThaw a0 a1) = .next t) : MKept a1 t := by
  unfold execRecorderThaw at h
  injection h with h
  subst h
  refine MKept.trans ?_ (served_mk ?_)
  · exact MKept.refl _
  · intro v0 v1
    refine MKept.trans ?_ recorderThawBody_mk
    exact MKept.refl _

theorem recorderClearBody_mk {a0 : _} {a1 : _} {a2 : _} : MKept a2 (@recorderClearBody a0 a1 a2).st := by
  unfold recorderClearBody
  dsimp only
  refine MKept.mkUpd ?_
  refine MKept.trans ?_ (MKept.put (by decide))
  refine MKept.mkUpd ?_
  refine MKept.trans ?_ (MKept.inc (by decide))
  refine MKept.trans ?_ (MKept.inc (by decide))
  iterate 3 refine MKept.trans ?_ (MKept.put (by decide))
  refine MKept.mkUpd ?_
  refine MKept.trans ?_ State.auditBy_mk
  exact MKept.refl _

theorem execRecorderClear_mk {a0 : _} {a1 : _} {t : State} (h : (@execRecorderClear a0 a1) = .next t) : MKept a1 t := by
  unfold execRecorderClear at h
  injection h with h
  subst h
  refine MKept.trans ?_ (served_mk ?_)
  · exact MKept.refl _
  · intro v0 v1
    refine MKept.trans ?_ recorderClearBody_mk
    exact MKept.refl _

theorem execEventSubscribe_mk {a0 : _} {a1 : _} {t : State} (h : (@execEventSubscribe a0 a1) = .next t) : MKept a1 t := by
  unfold execEventSubscribe at h
  injection h with h
  subst h
  refine MKept.trans ?_ (served_mk ?_)
  · exact MKept.refl _
  · intro v0 v1
    dsimp only
    refine MKept.trans ?_ State.onSession_mk
    exact MKept.refl _

theorem eventReadBody_mk {a0 : _} {a1 : _} {a2 : _} : MKept a2 (@eventReadBody a0 a1 a2).st := by
  unfold eventReadBody
  dsimp only
  exact MKept.refl _

theorem execEventRead_mk {a0 : _} {a1 : _} {t : State} (h : (@execEventRead a0 a1) = .next t) : MKept a1 t := by
  unfold execEventRead at h
  injection h with h
  subst h
  refine MKept.trans ?_ (served_mk ?_)
  · exact MKept.refl _
  · intro v0 v1
    refine MKept.trans ?_ eventReadBody_mk
    exact MKept.refl _

theorem State.eventPackets_mk {a0 : _} : MKept a0 (@State.eventPackets a0) := by
  unfold State.eventPackets
  dsimp only
  refine MKept.mkUpd ?_
  exact MKept.refl _

theorem State.rollStart_mk {a0 : _} {a1 : _} : MKept a0 (@State.rollStart a0 a1) := by
  unfold State.rollStart
  dsimp only
  refine MKept.trans ?_ State.raise_mk
  refine MKept.trans ?_ (MKept.put (by decide))
  refine MKept.mkUpd ?_
  exact MKept.refl _

theorem State.commitRecord_mk {a0 : _} : MKept a0 (@State.commitRecord a0) := by
  unfold State.commitRecord
  split
  · rename_i v0 v1
    exact MKept.refl _
  · rename_i v2 v3 v4 v5
    refine MKept.ite ?_ ?_
    · exact MKept.refl _
    · dsimp only
      refine MKept.trans ?_ State.releaseHeld_mk
      refine MKept.ite ?_ ?_
      · refine MKept.trans ?_ State.rollStart_mk
        iterate 3 refine MKept.trans ?_ (MKept.put (by decide))
        refine MKept.mkUpd ?_
        exact MKept.refl _
      · refine MKept.trans ?_ (MKept.put (by decide))
        refine MKept.trans ?_ (MKept.put (by decide))
        refine MKept.trans ?_ (MKept.put (by decide))
        refine MKept.mkUpd ?_
        exact MKept.refl _

theorem execJournalRecordCommit_mk {a0 : _} {t : State} (h : (@execJournalRecordCommit a0) = .next t) : MKept a0 t := by
  unfold execJournalRecordCommit at h
  injection h with h
  subst h
  refine MKept.trans ?_ State.commitRecord_mk
  exact MKept.refl _

theorem State.rollCopy_mk {a0 : _} : MKept a0 (@State.rollCopy a0) := by
  unfold State.rollCopy
  refine MKept.ite ?_ ?_
  · exact MKept.refl _
  · split
    · rename_i v0 v1 v2 v3
      dsimp only
      refine MKept.ite ?_ ?_
      · refine MKept.trans ?_ (MKept.put (by decide))
        refine MKept.mkUpd ?_
        exact MKept.refl _
      · refine MKept.mkUpd ?_
        exact MKept.refl _

theorem execRollCopy_mk {a0 : _} {t : State} (h : (@execRollCopy a0) = .next t) : MKept a0 t := by
  unfold execRollCopy at h
  injection h with h
  subst h
  refine MKept.trans ?_ State.rollCopy_mk
  exact MKept.refl _

theorem State.swapHalves_mk {a0 : _} : MKept a0 (@State.swapHalves a0) := by
  unfold State.swapHalves
  dsimp only
  iterate 3 refine MKept.trans ?_ (MKept.put (by decide))
  refine MKept.mkUpd ?_
  exact MKept.refl _

theorem State.rollSwitch_mk {a0 : _} : MKept a0 (@State.rollSwitch a0) := by
  unfold State.rollSwitch
  dsimp only
  refine MKept.trans ?_ (MKept.inc (by decide))
  refine MKept.trans ?_ (MKept.put (by decide))
  refine MKept.trans ?_ (MKept.put (by decide))
  refine MKept.trans ?_ State.swapHalves_mk
  refine MKept.ite ?_ ?_
  · refine MKept.mkUpd ?_
    exact MKept.refl _
  · refine MKept.mkUpd ?_
    exact MKept.refl _

theorem State.rollDone_mk {a0 : _} : MKept a0 (@State.rollDone a0) := by
  unfold State.rollDone
  refine MKept.ite ?_ ?_
  · exact MKept.refl _
  · dsimp only
    refine MKept.ite ?_ ?_
    · refine MKept.trans ?_ State.raise_mk
      refine MKept.mkUpd ?_
      refine MKept.trans ?_ State.raise_mk
      refine MKept.trans ?_ State.rollSwitch_mk
      exact MKept.refl _
    · refine MKept.mkUpd ?_
      refine MKept.trans ?_ State.raise_mk
      refine MKept.trans ?_ State.rollSwitch_mk
      exact MKept.refl _

theorem execRollDone_mk {a0 : _} {t : State} (h : (@execRollDone a0) = .next t) : MKept a0 t := by
  unfold execRollDone at h
  injection h with h
  subst h
  refine MKept.trans ?_ State.rollDone_mk
  exact MKept.refl _

theorem State.rollAbandon_mk {a0 : _} : MKept a0 (@State.rollAbandon a0) := by
  unfold State.rollAbandon
  refine MKept.ite ?_ ?_
  · refine MKept.trans ?_ (MKept.put (by decide))
    refine MKept.mkUpd ?_
    exact MKept.refl _
  · exact MKept.refl _

theorem execJournalStatus_mk {a0 : _} {a1 : _} {t : State} (h : (@execJournalStatus a0 a1) = .next t) : MKept a1 t := by
  unfold execJournalStatus at h
  injection h with h
  subst h
  refine MKept.trans ?_ (served_mk ?_)
  · exact MKept.refl _
  · intro v0 v1
    dsimp only
    exact MKept.refl _

theorem execRollNow_mk {a0 : _} {a1 : _} {t : State} (h : (@execRollNow a0 a1) = .next t) : MKept a1 t := by
  unfold execRollNow at h
  injection h with h
  subst h
  refine MKept.trans ?_ (served_mk ?_)
  · exact MKept.refl _
  · intro v0 v1
    dsimp only
    refine MKept.trans ?_ State.rollStart_mk
    exact MKept.refl _

theorem State.putCanObj_mk {a0 : _} {a1 : _} : MKept a0 (@State.putCanObj a0 a1) := by
  unfold State.putCanObj
  refine MKept.mkUpd ?_
  exact MKept.refl _

theorem State.putCanCtl_mk {a0 : _} {a1 : _} : MKept a0 (@State.putCanCtl a0 a1) := by
  unfold State.putCanCtl
  refine MKept.mkUpd ?_
  exact MKept.refl _

theorem State.canDropObj_mk {a0 : _} {a1 : _} {a2 : _} : MKept a0 (@State.canDropObj a0 a1 a2) := by
  unfold State.canDropObj
  refine MKept.ite ?_ ?_
  · dsimp only
    refine MKept.ite ?_ ?_
    · refine MKept.trans ?_ (MKept.put (by decide))
      refine MKept.trans ?_ State.putCanObj_mk
      refine MKept.trans ?_ (MKept.put (by decide))
      exact MKept.refl _
    · refine MKept.trans ?_ State.putCanObj_mk
      refine MKept.trans ?_ (MKept.put (by decide))
      exact MKept.refl _
  · exact MKept.refl _

theorem State.canDropCtl_mk {a0 : _} {a1 : _} {a2 : _} : MKept a0 (@State.canDropCtl a0 a1 a2) := by
  unfold State.canDropCtl
  refine MKept.foldl ?_ (fun v0 v1 => ?_)
  · exact MKept.refl _
  · refine MKept.trans ?_ State.canDropObj_mk
    exact MKept.refl _

theorem State.canDropAll_mk {a0 : _} : MKept a0 (@State.canDropAll a0) := by
  unfold State.canDropAll
  refine MKept.foldl ?_ (fun v0 v1 => ?_)
  · exact MKept.refl _
  · refine MKept.trans ?_ State.canDropObj_mk
    exact MKept.refl _

theorem State.canShow_mk {a0 : _} : MKept a0 (@State.canShow a0) := by
  unfold State.canShow
  refine MKept.foldl ?_ (fun v0 v1 => ?_)
  · exact MKept.refl _
  · dsimp only
    refine MKept.ite ?_ ?_
    · exact MKept.refl _
    · refine MKept.ite ?_ ?_
      · refine MKept.trans ?_ (MKept.put (by decide))
        iterate 3 refine MKept.trans ?_ (MKept.put (by decide))
        exact MKept.refl _
      · refine MKept.trans ?_ (MKept.put (by decide))
        refine MKept.ite ?_ ?_
        · refine MKept.trans ?_ State.canDropCtl_mk
          refine MKept.trans ?_ (MKept.put (by decide))
          exact MKept.refl _
        · refine MKept.trans ?_ (MKept.put (by decide))
          exact MKept.refl _

theorem State.canErr_mk {a0 : _} {a1 : _} {a2 : _} {a3 : _} : MKept a0 (@State.canErr a0 a1 a2 a3) := by
  unfold State.canErr
  dsimp only
  refine MKept.ite ?_ ?_
  · refine MKept.trans ?_ (MKept.put (by decide))
    refine MKept.trans ?_ (MKept.put (by decide))
    exact MKept.refl _
  · refine MKept.trans ?_ State.raise_mk
    refine MKept.ite ?_ ?_
    · refine MKept.trans ?_ State.canDropCtl_mk
      refine MKept.trans ?_ (MKept.inc (by decide))
      iterate 3 refine MKept.trans ?_ (MKept.put (by decide))
      exact MKept.refl _
    · refine MKept.trans ?_ (MKept.put (by decide))
      refine MKept.trans ?_ (MKept.put (by decide))
      refine MKept.trans ?_ (MKept.put (by decide))
      exact MKept.refl _

theorem State.canCountErr_mk {a0 : _} {a1 : _} {a2 : _} : MKept a0 (@State.canCountErr a0 a1 a2) := by
  unfold State.canCountErr
  dsimp only
  refine MKept.ite ?_ ?_
  · refine MKept.trans ?_ State.raise_mk
    refine MKept.trans ?_ State.putCanCtl_mk
    refine MKept.trans ?_ (MKept.inc (by decide))
    exact MKept.refl _
  · refine MKept.trans ?_ (MKept.inc (by decide))
    exact MKept.refl _

theorem State.setNoPeer_mk {a0 : _} {a1 : _} {a2 : _} : MKept a0 (@State.setNoPeer a0 a1 a2) := by
  unfold State.setNoPeer
  dsimp only
  refine MKept.trans ?_ (MKept.put (by decide))
  refine MKept.trans ?_ (MKept.putFlag (by decide))
  exact MKept.refl _

theorem State.canResume_mk {a0 : _} {a1 : _} : MKept a0 (@State.canResume a0 a1) := by
  unfold State.canResume
  refine MKept.ite ?_ ?_
  · refine MKept.trans ?_ State.setNoPeer_mk
    refine MKept.trans ?_ State.putCanObj_mk
    exact MKept.refl _
  · exact MKept.refl _

theorem State.canWake_mk {a0 : _} {a1 : _} : MKept a0 (@State.canWake a0 a1) := by
  unfold State.canWake
  refine MKept.ite ?_ ?_
  · exact MKept.refl _
  · refine MKept.foldl ?_ (fun v0 v1 => ?_)
    · exact MKept.refl _
    · refine MKept.ite ?_ ?_
      · refine MKept.trans ?_ State.putCanObj_mk
        exact MKept.refl _
      · exact MKept.refl _

theorem State.canStore_mk {a0 : _} {a1 : _} {a2 : _} {a3 : _} : MKept a0 (@State.canStore a0 a1 a2 a3) := by
  unfold State.canStore
  dsimp only
  refine MKept.ite ?_ ?_
  · refine MKept.ite ?_ ?_
    · refine MKept.trans ?_ State.raise_mk
      refine MKept.trans ?_ (MKept.inc (by decide))
      refine MKept.trans ?_ (MKept.put (by decide))
      refine MKept.trans ?_ State.putCanObj_mk
      refine MKept.trans ?_ (MKept.inc (by decide))
      exact MKept.refl _
    · refine MKept.trans ?_ State.putCanObj_mk
      refine MKept.trans ?_ (MKept.inc (by decide))
      exact MKept.refl _
  · refine MKept.trans ?_ State.putCanObj_mk
    refine MKept.ite ?_ ?_
    · refine MKept.trans ?_ (MKept.inc (by decide))
      refine MKept.trans ?_ (MKept.inc (by decide))
      exact MKept.refl _
    · refine MKept.trans ?_ (MKept.inc (by decide))
      exact MKept.refl _

theorem State.canFilter_mk {a0 : _} {a1 : _} {a2 : _} : MKept a0 (@State.canFilter a0 a1 a2) := by
  unfold State.canFilter
  split
  · rename_i v0 v1
    refine MKept.trans ?_ (MKept.inc (by decide))
    exact MKept.refl _
  · rename_i v2 v3 v4
    dsimp only
    refine MKept.ite ?_ ?_
    · exact MKept.refl _
    · refine MKept.trans ?_ State.canStore_mk
      exact MKept.refl _

theorem State.abrFrame_mk {a0 : _} {a1 : _} {a2 : _} : MKept a0 (@State.abrFrame a0 a1 a2) := by
  unfold State.abrFrame
  dsimp only
  refine MKept.ite ?_ ?_
  · exact MKept.refl _
  · refine MKept.ite ?_ ?_
    · refine MKept.trans ?_ State.putCanCtl_mk
      exact MKept.refl _
    · refine MKept.trans ?_ State.canShow_mk
      refine MKept.trans ?_ State.raise_mk
      refine MKept.trans ?_ (MKept.put (by decide))
      refine MKept.trans ?_ State.putCanCtl_mk
      exact MKept.refl _

theorem State.canRxOk_mk {a0 : _} {a1 : _} : MKept a0 (@State.canRxOk a0 a1) := by
  unfold State.canRxOk
  dsimp only
  refine MKept.ite ?_ ?_
  · exact MKept.refl _
  · refine MKept.ite ?_ ?_
    · refine MKept.trans ?_ State.canErr_mk
      exact MKept.refl _
    · refine MKept.trans ?_ State.canErr_mk
      refine MKept.trans ?_ State.fresh_mk
      exact MKept.refl _

theorem State.canReceive_mk {a0 : _} {a1 : _} {a2 : _} : MKept a0 (@State.canReceive a0 a1 a2) := by
  unfold State.canReceive
  dsimp only
  refine MKept.ite ?_ ?_
  · exact MKept.refl _
  · refine MKept.ite ?_ ?_
    · refine MKept.trans ?_ State.canCountErr_mk
      exact MKept.refl _
    · refine MKept.trans ?_ State.canFilter_mk
      refine MKept.trans ?_ State.canWake_mk
      refine MKept.ite ?_ ?_
      · refine MKept.trans ?_ State.abrFrame_mk
        exact MKept.refl _
      · refine MKept.ite ?_ ?_
        · refine MKept.trans ?_ State.canRxOk_mk
          exact MKept.refl _
        · exact MKept.refl _

theorem execCanFrameReceive_mk {a0 : _} {a1 : _} {a2 : _} {t : State} (h : (@execCanFrameReceive a0 a1 a2) = .next t) : MKept a2 t := by
  unfold execCanFrameReceive at h
  injection h with h
  subst h
  refine MKept.trans ?_ State.canReceive_mk
  exact MKept.refl _

theorem State.canCopy_mk {a0 : _} {a1 : _} : MKept a0 (@State.canCopy a0 a1) := by
  unfold State.canCopy
  refine MKept.ite ?_ ?_
  · exact MKept.refl _
  · dsimp only
    refine MKept.trans ?_ (MKept.put (by decide))
    refine MKept.trans ?_ State.putCanObj_mk
    exact MKept.refl _

theorem State.canFreeze_mk {a0 : _} : MKept a0 (@State.canFreeze a0) := by
  unfold State.canFreeze
  dsimp only
  refine MKept.mkUpd ?_
  refine MKept.foldl ?_ (fun v0 v1 => ?_)
  · exact MKept.refl _
  · refine MKept.trans ?_ State.canCopy_mk
    exact MKept.refl _

theorem State.canQueueObj_mk {a0 : _} {a1 : _} : MKept a0 (@State.canQueueObj a0 a1) := by
  unfold State.canQueueObj
  dsimp only
  refine MKept.ite ?_ ?_
  · exact MKept.refl _
  · refine MKept.trans ?_ (MKept.put (by decide))
    refine MKept.trans ?_ State.putCanObj_mk
    refine MKept.ite ?_ ?_
    · refine MKept.trans ?_ (MKept.inc (by decide))
      exact MKept.refl _
    · exact MKept.refl _

theorem State.canCommit_mk {a0 : _} : MKept a0 (@State.canCommit a0) := by
  unfold State.canCommit
  dsimp only
  refine MKept.ite ?_ ?_
  · refine MKept.foldl ?_ (fun v0 v1 => ?_)
    · exact MKept.refl _
    · refine MKept.ite ?_ ?_
      · refine MKept.trans ?_ State.canResume_mk
        exact MKept.refl _
      · exact MKept.refl _
  · refine MKept.mkUpd ?_
    refine MKept.foldl ?_ (fun v2 v3 => ?_)
    · refine MKept.foldl ?_ (fun v4 v5 => ?_)
      · exact MKept.refl _
      · refine MKept.ite ?_ ?_
        · refine MKept.trans ?_ State.canResume_mk
          exact MKept.refl _
        · exact MKept.refl _
    · refine MKept.ite ?_ ?_
      · refine MKept.trans ?_ State.canQueueObj_mk
        exact MKept.refl _
      · exact MKept.refl _

theorem execCanTxComplete_mk {a0 : _} {a1 : _} {a2 : _} {t : State} (h : (@execCanTxComplete a0 a1 a2) = .next t) : MKept a2 t := by
  unfold execCanTxComplete at h
  injection h with h
  subst h
  refine MKept.ite ?_ ?_
  · exact MKept.refl _
  · dsimp only
    refine MKept.ite ?_ ?_
    · refine MKept.trans ?_ State.canDropObj_mk
      refine MKept.trans ?_ (MKept.put (by decide))
      refine MKept.trans ?_ (MKept.inc (by decide))
      exact MKept.refl _
    · refine MKept.trans ?_ State.canErr_mk
      refine MKept.trans ?_ State.canDropObj_mk
      refine MKept.trans ?_ (MKept.put (by decide))
      refine MKept.trans ?_ (MKept.inc (by decide))
      exact MKept.refl _

theorem State.canShotEnds_mk {a0 : _} {a1 : _} : MKept a0 (@State.canShotEnds a0 a1) := by
  unfold State.canShotEnds
  refine MKept.ite ?_ ?_
  · refine MKept.trans ?_ State.raise_mk
    refine MKept.trans ?_ (MKept.put (by decide))
    refine MKept.trans ?_ State.canDropObj_mk
    exact MKept.refl _
  · exact MKept.refl _

theorem execCanBusError_mk {a0 : _} {a1 : _} {a2 : _} {a3 : _} {a4 : _} {a5 : _} {t : State} (h : (@execCanBusError a0 a1 a2 a3 a4 a5) = .next t) : MKept a5 t := by
  unfold execCanBusError at h
  injection h with h
  subst h
  refine MKept.ite ?_ ?_
  · exact MKept.refl _
  · dsimp only
    refine MKept.ite ?_ ?_
    · refine MKept.trans ?_ State.canErr_mk
      split
      · rename_i v0 v1
        refine MKept.trans ?_ State.canShotEnds_mk
        refine MKept.trans ?_ State.canCountErr_mk
        exact MKept.refl _
      · rename_i v2
        refine MKept.trans ?_ State.canCountErr_mk
        exact MKept.refl _
    · refine MKept.trans ?_ State.putCanCtl_mk
      refine MKept.trans ?_ State.canCountErr_mk
      exact MKept.refl _

theorem execCanAckError_mk {a0 : _} {a1 : _} {a2 : _} {t : State} (h : (@execCanAckError a0 a1 a2) = .next t) : MKept a2 t := by
  unfold execCanAckError at h
  injection h with h
  subst h
  refine MKept.ite ?_ ?_
  · exact MKept.refl _
  · dsimp only
    refine MKept.trans ?_ State.canShotEnds_mk
    refine MKept.ite ?_ ?_
    · refine MKept.trans ?_ State.raise_mk
      refine MKept.trans ?_ State.setNoPeer_mk
      refine MKept.trans ?_ (MKept.put (by decide))
      refine MKept.trans ?_ State.canDropObj_mk
      refine MKept.ite ?_ ?_
      · refine MKept.trans ?_ State.canErr_mk
        refine MKept.trans ?_ State.canCountErr_mk
        exact MKept.refl _
      · refine MKept.trans ?_ State.canCountErr_mk
        exact MKept.refl _
    · refine MKept.trans ?_ (MKept.put (by decide))
      refine MKept.ite ?_ ?_
      · refine MKept.trans ?_ State.canErr_mk
        refine MKept.trans ?_ State.canCountErr_mk
        exact MKept.refl _
      · refine MKept.trans ?_ State.canCountErr_mk
        exact MKept.refl _

theorem execCanNoPeerResume_mk {a0 : _} {a1 : _} {a2 : _} {t : State} (h : (@execCanNoPeerResume a0 a1 a2) = .next t) : MKept a2 t := by
  unfold execCanNoPeerResume at h
  injection h with h
  subst h
  refine MKept.ite ?_ ?_
  · refine MKept.trans ?_ State.canResume_mk
    exact MKept.refl _
  · exact MKept.refl _

theorem State.canRecover_mk {a0 : _} {a1 : _} : MKept a0 (@State.canRecover a0 a1) := by
  unfold State.canRecover
  refine MKept.ite ?_ ?_
  · refine MKept.trans ?_ State.putCanCtl_mk
    exact MKept.refl _
  · exact MKept.refl _

theorem execCanRecover_mk {a0 : _} {a1 : _} {t : State} (h : (@execCanRecover a0 a1) = .next t) : MKept a1 t := by
  unfold execCanRecover at h
  injection h with h
  subst h
  refine MKept.trans ?_ State.canRecover_mk
  exact MKept.refl _

theorem execCanBusoffRecovery_mk {a0 : _} {a1 : _} {t : State} (h : (@execCanBusoffRecovery a0 a1) = .next t) : MKept a1 t := by
  unfold execCanBusoffRecovery at h
  injection h with h
  subst h
  refine MKept.ite ?_ ?_
  · refine MKept.trans ?_ State.canErr_mk
    refine MKept.trans ?_ State.putCanCtl_mk
    exact MKept.refl _
  · exact MKept.refl _

theorem execCanAbrDwell_mk {a0 : _} {a1 : _} {t : State} (h : (@execCanAbrDwell a0 a1) = .next t) : MKept a1 t := by
  unfold execCanAbrDwell at h
  injection h with h
  subst h
  refine MKept.ite ?_ ?_
  · exact MKept.refl _
  · refine MKept.ite ?_ ?_
    · refine MKept.trans ?_ State.putCanCtl_mk
      exact MKept.refl _
    · refine MKept.ite ?_ ?_
      · refine MKept.trans ?_ State.putCanCtl_mk
        exact MKept.refl _
      · dsimp only
        refine MKept.trans ?_ State.canShow_mk
        refine MKept.trans ?_ State.raise_mk
        refine MKept.trans ?_ (MKept.put (by decide))
        refine MKept.trans ?_ State.putCanCtl_mk
        exact MKept.refl _

theorem State.canFaults_mk {a0 : _} {a1 : _} {a2 : _} : MKept a0 (@State.canFaults a0 a1 a2) := by
  unfold State.canFaults
  dsimp only
  refine MKept.ite ?_ ?_
  · exact MKept.refl _
  · refine MKept.trans ?_ State.raise_mk
    refine MKept.trans ?_ State.canShow_mk
    refine MKept.trans ?_ State.canDropCtl_mk
    refine MKept.trans ?_ (MKept.put (by decide))
    refine MKept.trans ?_ (MKept.inc (by decide))
    refine MKept.trans ?_ State.putCanCtl_mk
    exact MKept.refl _

theorem execCanControllerFault_mk {a0 : _} {a1 : _} {a2 : _} {t : State} (h : (@execCanControllerFault a0 a1 a2) = .next t) : MKept a2 t := by
  unfold execCanControllerFault at h
  injection h with h
  subst h
  refine MKept.trans ?_ State.canFaults_mk
  exact MKept.refl _

theorem execCanControllerReload_mk {a0 : _} {a1 : _} {t : State} (h : (@execCanControllerReload a0 a1) = .next t) : MKept a1 t := by
  unfold execCanControllerReload at h
  injection h with h
  subst h
  refine MKept.ite ?_ ?_
  · refine MKept.trans ?_ State.canShow_mk
    refine MKept.trans ?_ (MKept.put (by decide))
    exact MKept.refl _
  · exact MKept.refl _

theorem State.canModeWritten_mk {a0 : _} {a1 : _} : MKept a0 (@State.canModeWritten a0 a1) := by
  unfold State.canModeWritten
  dsimp only
  refine MKept.ite ?_ ?_
  · refine MKept.ite ?_ ?_
    · refine MKept.trans ?_ State.putCanCtl_mk
      exact MKept.refl _
    · refine MKept.ite ?_ ?_
      · refine MKept.trans ?_ (MKept.put (by decide))
        refine MKept.trans ?_ State.putCanCtl_mk
        exact MKept.refl _
      · refine MKept.trans ?_ State.putCanCtl_mk
        exact MKept.refl _
  · refine MKept.trans ?_ State.putCanCtl_mk
    exact MKept.refl _

theorem State.canRewritten_mk {a0 : _} {a1 : _} : MKept a0 (@State.canRewritten a0 a1) := by
  unfold State.canRewritten
  refine MKept.trans ?_ State.putCanObj_mk
  refine MKept.trans ?_ State.canDropObj_mk
  exact MKept.refl _

theorem canObjSetApply_mk {a0 : _} {a1 : _} : MKept a1 (@canObjSetApply a0 a1).st := by
  unfold canObjSetApply
  dsimp only
  refine MKept.mkUpd ?_
  refine MKept.trans ?_ State.journal_mk
  exact MKept.refl _

theorem execCanObjSet_mk {a0 : _} {a1 : _} {t : State} (h : (@execCanObjSet a0 a1) = .next t) : MKept a1 t := by
  unfold execCanObjSet at h
  injection h with h
  subst h
  refine MKept.trans ?_ queued_mk
  exact MKept.refl _

theorem State.planAt_mk {a0 : _} {a1 : _} {a2 : _} {a3 : _} : MKept a0 (@State.planAt a0 a1 a2 a3) := by
  unfold State.planAt
  refine MKept.ite ?_ ?_
  · refine MKept.mkUpd ?_
    exact MKept.refl _
  · exact MKept.refl _

theorem State.plan_mk {a0 : _} {a1 : _} {a2 : _} : MKept a0 (@State.plan a0 a1 a2) := by
  unfold State.plan
  refine MKept.trans ?_ State.planAt_mk
  exact MKept.refl _

theorem State.runLeaves_mk {a0 : _} : MKept a0 (@State.runLeaves a0) := by
  unfold State.runLeaves
  dsimp only
  refine MKept.ite ?_ ?_
  · exact MKept.refl _
  · refine MKept.ite ?_ ?_
    · refine MKept.trans ?_ (MKept.put (by decide))
      refine MKept.mkUpd ?_
      exact MKept.refl _
    · refine MKept.mkUpd ?_
      exact MKept.refl _

theorem State.dropSync_mk {s : State} : MKept s s.dropSync := by
  unfold State.dropSync
  split
  · exact MKept.refl _
  · rename_i h
    dsimp only
    refine State.setMode_same (MKept.trans (MKept.trans (MKept.mkUpd (MKept.refl s)) (MKept.put (by decide))) (MKept.put (by decide))) rfl ?_
    rw [State.get_put_ne (by decide), State.get_put_ne (by decide)]
    exact not_not.1 h

theorem State.endSessions_mk {a0 : _} {a1 : _} : MKept a0 (@State.endSessions a0 a1) := by
  unfold State.endSessions
  refine MKept.foldl ?_ (fun v0 v1 => ?_)
  · exact MKept.refl _
  · refine MKept.trans ?_ State.releaseSession_mk
    exact MKept.refl _

theorem State.abandonResync_mk {a0 : _} : MKept a0 (@State.abandonResync a0) := by
  unfold State.abandonResync
  refine MKept.trans ?_ (MKept.put (by decide))
  dsimp only
  refine MKept.mkUpd ?_
  refine MKept.trans ?_ (MKept.put (by decide))
  exact MKept.refl _

theorem State.surgeStops_mk {a0 : _} : MKept a0 (@State.surgeStops a0) := by
  unfold State.surgeStops
  refine MKept.ite ?_ ?_
  · exact MKept.refl _
  · dsimp only
    refine MKept.mkUpd ?_
    refine MKept.trans ?_ (MKept.put (by decide))
    exact MKept.refl _

theorem State.restartPair_mk {a0 : _} {a1 : _} : MKept a0 (@State.restartPair a0 a1) := by
  unfold State.restartPair
  dsimp only
  refine MKept.ite ?_ ?_
  · refine MKept.mkUpd ?_
    refine MKept.trans ?_ State.restartProgram_mk
    exact MKept.refl _
  · refine MKept.trans ?_ State.restartProgram_mk
    exact MKept.refl _

theorem State.unhalt_mk {a0 : _} : MKept a0 (@State.unhalt a0) := by
  unfold State.unhalt
  refine MKept.ite ?_ ?_
  · refine MKept.trans ?_ State.endDebug_mk
    exact MKept.refl _
  · exact MKept.refl _

theorem State.keyFaults_mk {a0 : _} : MKept a0 (@State.keyFaults a0) := by
  unfold State.keyFaults
  split
  · rename_i v0 v1 v2 v3
    refine MKept.trans ?_ State.raise_mk
    refine MKept.mkUpd ?_
    refine MKept.ofSnd v3 ?_
    refine MKept.trans ?_ State.fresh_mk
    exact MKept.refl _

theorem State.planKey_mk {a0 : _} : MKept a0 (@State.planKey a0) := by
  unfold State.planKey
  split
  · rename_i v0 v1
    refine MKept.trans ?_ State.plan_mk
    exact MKept.refl _
  · rename_i v2 v3 v4
    refine MKept.mkUpd ?_
    exact MKept.refl _

theorem State.keyChange_mk {a0 : _} {a1 : _} : MKept a0 (@State.keyChange a0 a1) := by
  unfold State.keyChange
  dsimp only
  refine MKept.ite ?_ ?_
  · exact MKept.refl _
  · refine MKept.ite ?_ ?_
    · refine MKept.ite ?_ ?_
      · refine MKept.trans ?_ State.planKey_mk
        refine MKept.ite ?_ ?_
        · refine MKept.trans ?_ State.keyFaults_mk
          refine MKept.trans ?_ State.raise_mk
          refine MKept.trans ?_ State.audit_mk
          refine MKept.trans ?_ (MKept.put (by decide))
          exact MKept.refl _
        · refine MKept.mkUpd ?_
          refine MKept.trans ?_ State.raise_mk
          refine MKept.trans ?_ State.audit_mk
          refine MKept.trans ?_ (MKept.put (by decide))
          exact MKept.refl _
      · refine MKept.ite ?_ ?_
        · refine MKept.ite ?_ ?_
          · refine MKept.trans ?_ State.keyFaults_mk
            refine MKept.trans ?_ State.raise_mk
            refine MKept.trans ?_ State.audit_mk
            refine MKept.trans ?_ (MKept.put (by decide))
            exact MKept.refl _
          · refine MKept.mkUpd ?_
            refine MKept.trans ?_ State.raise_mk
            refine MKept.trans ?_ State.audit_mk
            refine MKept.trans ?_ (MKept.put (by decide))
            exact MKept.refl _
        · refine MKept.trans ?_ State.cause_mk
          refine MKept.ite ?_ ?_
          · refine MKept.trans ?_ State.keyFaults_mk
            refine MKept.trans ?_ State.raise_mk
            refine MKept.trans ?_ State.audit_mk
            refine MKept.trans ?_ (MKept.put (by decide))
            exact MKept.refl _
          · refine MKept.mkUpd ?_
            refine MKept.trans ?_ State.raise_mk
            refine MKept.trans ?_ State.audit_mk
            refine MKept.trans ?_ (MKept.put (by decide))
            exact MKept.refl _
    · refine MKept.ite ?_ ?_
      · refine MKept.mkUpd ?_
        refine MKept.ite ?_ ?_
        · refine MKept.trans ?_ State.keyFaults_mk
          refine MKept.trans ?_ State.raise_mk
          refine MKept.trans ?_ State.audit_mk
          refine MKept.trans ?_ (MKept.put (by decide))
          exact MKept.refl _
        · refine MKept.mkUpd ?_
          refine MKept.trans ?_ State.raise_mk
          refine MKept.trans ?_ State.audit_mk
          refine MKept.trans ?_ (MKept.put (by decide))
          exact MKept.refl _
      · refine MKept.ite ?_ ?_
        · refine MKept.trans ?_ State.keyFaults_mk
          refine MKept.trans ?_ State.raise_mk
          refine MKept.trans ?_ State.audit_mk
          refine MKept.trans ?_ (MKept.put (by decide))
          exact MKept.refl _
        · refine MKept.mkUpd ?_
          refine MKept.trans ?_ State.raise_mk
          refine MKept.trans ?_ State.audit_mk
          refine MKept.trans ?_ (MKept.put (by decide))
          exact MKept.refl _

theorem execKeyChange_mk {a0 : _} {a1 : _} {t : State} (h : (@execKeyChange a0 a1) = .next t) : MKept a1 t := by
  unfold execKeyChange at h
  injection h with h
  subst h
  refine MKept.trans ?_ State.keyChange_mk
  exact MKept.refl _

theorem execHoldTimeout_mk {a0 : _} {t : State} (h : (@execHoldTimeout a0) = .next t) : MKept a0 t := by
  unfold execHoldTimeout at h
  injection h with h
  subst h
  refine MKept.ite ?_ ?_
  · refine MKept.trans ?_ State.cause_mk
    refine MKept.trans ?_ State.raise_mk
    exact MKept.refl _
  · exact MKept.refl _

theorem execModeGet_mk {a0 : _} {a1 : _} {t : State} (h : (@execModeGet a0 a1) = .next t) : MKept a1 t := by
  unfold execModeGet at h
  injection h with h
  subst h
  refine MKept.trans ?_ (served_mk ?_)
  · exact MKept.refl _
  · intro v0 v1
    dsimp only
    exact MKept.refl _

theorem execModeSet_mk {a0 : _} {a1 : _} {t : State} (h : (@execModeSet a0 a1) = .next t) : MKept a1 t := by
  unfold execModeSet at h
  injection h with h
  subst h
  refine MKept.trans ?_ queued_mk
  exact MKept.refl _

theorem execRestart_mk {a0 : _} {a1 : _} {t : State} (h : (@execRestart a0 a1) = .next t) : MKept a1 t := by
  unfold execRestart at h
  injection h with h
  subst h
  refine MKept.trans ?_ queued_mk
  exact MKept.refl _

theorem auditRefused_mk {o : Op} {p : Packet} {chk : UnitSel → State → Chk} {a d : Nat} {s t : State} : MKept t (auditRefused o p chk a d s t) := by
  unfold auditRefused
  split
  · dsimp only
    split
    · exact State.auditBy_mk
    · exact MKept.refl _
  · exact MKept.refl _

theorem State.showSafeCause_mk {s : State} {c : Nat} : MKept s (s.showSafeCause c) := by
  unfold State.showSafeCause
  exact State.setMode_same (MKept.refl s) rfl rfl

theorem State.clearSafe_mk {a0 : _} : MKept a0 (@State.clearSafe a0) := by
  unfold State.clearSafe
  dsimp only
  refine MKept.trans ?_ State.journalToll_mk
  refine MKept.trans ?_ State.journal_mk
  refine MKept.trans ?_ State.showSafeCause_mk
  refine MKept.trans ?_ (MKept.put (by decide))
  refine MKept.trans ?_ State.latch_mk
  refine MKept.mkUpd ?_
  exact MKept.refl _

theorem clearSafeBody_mk {a0 : _} {a1 : _} {a2 : _} : MKept a2 (@clearSafeBody a0 a1 a2).st := by
  unfold clearSafeBody
  dsimp only
  refine MKept.trans ?_ State.clearSafe_mk
  refine MKept.trans ?_ State.auditBy_mk
  exact MKept.refl _

theorem State.putLane_mk {a0 : _} {a1 : _} : MKept a0 (@State.putLane a0 a1) := by
  unfold State.putLane
  refine MKept.mkUpd ?_
  exact MKept.refl _

theorem State.putL3_mk {a0 : _} {a1 : _} : MKept a0 (@State.putL3 a0 a1) := by
  unfold State.putL3
  refine MKept.mkUpd ?_
  exact MKept.refl _

theorem State.putWsl_mk {a0 : _} {a1 : _} : MKept a0 (@State.putWsl a0 a1) := by
  unfold State.putWsl
  refine MKept.mkUpd ?_
  exact MKept.refl _

theorem State.oweErr_mk {a0 : _} {a1 : _} {a2 : _} : MKept a0 (@State.oweErr a0 a1 a2) := by
  unfold State.oweErr
  refine MKept.ite ?_ ?_
  · refine MKept.mkUpd ?_
    exact MKept.refl _
  · exact MKept.refl _

theorem State.addDue_mk {a0 : _} {a1 : _} {a2 : _} {a3 : _} {a4 : _} : MKept a0 (@State.addDue a0 a1 a2 a3 a4) := by
  unfold State.addDue
  refine MKept.mkUpd ?_
  exact MKept.refl _

theorem State.laneEvent_mk {a0 : _} {a1 : _} {a2 : _} {a3 : _} {a4 : _} : MKept a0 (@State.laneEvent a0 a1 a2 a3 a4) := by
  unfold State.laneEvent
  refine MKept.trans ?_ State.raise_mk
  exact MKept.refl _

theorem State.showCrossover_mk {a0 : _} : MKept a0 (@State.showCrossover a0) := by
  unfold State.showCrossover
  dsimp only
  refine MKept.trans ?_ (MKept.put (by decide))
  refine MKept.trans ?_ (MKept.put (by decide))
  refine MKept.trans ?_ (MKept.putFlag (by decide))
  exact MKept.refl _

theorem State.setL3_mk {a0 : _} {a1 : _} {a2 : _} : MKept a0 (@State.setL3 a0 a1 a2) := by
  unfold State.setL3
  refine MKept.mkUpd ?_
  exact MKept.refl _

theorem State.laneFail_mk {a0 : _} {a1 : _} : MKept a0 (@State.laneFail a0 a1) := by
  unfold State.laneFail
  dsimp only
  refine MKept.ite ?_ ?_
  · refine MKept.trans ?_ State.putLane_mk
    refine MKept.trans ?_ (MKept.put (by decide))
    refine MKept.trans ?_ (MKept.put (by decide))
    refine MKept.trans ?_ (MKept.inc (by decide))
    exact MKept.refl _
  · refine MKept.ite ?_ ?_
    · refine MKept.trans ?_ State.setL3_mk
      refine MKept.foldl ?_ (fun v0 v1 => ?_)
      · refine MKept.ite ?_ ?_
        · refine MKept.trans ?_ State.putLane_mk
          refine MKept.trans ?_ (MKept.put (by decide))
          refine MKept.trans ?_ (MKept.put (by decide))
          refine MKept.trans ?_ (MKept.inc (by decide))
          exact MKept.refl _
        · refine MKept.trans ?_ State.laneEvent_mk
          refine MKept.trans ?_ State.putLane_mk
          refine MKept.trans ?_ (MKept.put (by decide))
          refine MKept.trans ?_ (MKept.put (by decide))
          refine MKept.trans ?_ (MKept.inc (by decide))
          exact MKept.refl _
      · refine MKept.trans ?_ State.oweErr_mk
        exact MKept.refl _
    · refine MKept.foldl ?_ (fun v2 v3 => ?_)
      · refine MKept.ite ?_ ?_
        · refine MKept.trans ?_ State.putLane_mk
          refine MKept.trans ?_ (MKept.put (by decide))
          refine MKept.trans ?_ (MKept.put (by decide))
          refine MKept.trans ?_ (MKept.inc (by decide))
          exact MKept.refl _
        · refine MKept.trans ?_ State.laneEvent_mk
          refine MKept.trans ?_ State.putLane_mk
          refine MKept.trans ?_ (MKept.put (by decide))
          refine MKept.trans ?_ (MKept.put (by decide))
          refine MKept.trans ?_ (MKept.inc (by decide))
          exact MKept.refl _
      · refine MKept.trans ?_ State.oweErr_mk
        exact MKept.refl _

theorem State.boardGone_mk {a0 : _} {a1 : _} : MKept a0 (@State.boardGone a0 a1) := by
  unfold State.boardGone
  dsimp only
  refine MKept.trans ?_ State.showCrossover_mk
  refine MKept.foldl ?_ (fun v0 v1 => ?_)
  · refine MKept.trans ?_ State.bumpUnit_mk
    refine MKept.trans ?_ State.laneEvent_mk
    refine MKept.trans ?_ State.putLane_mk
    iterate 3 refine MKept.trans ?_ (MKept.put (by decide))
    refine MKept.ite ?_ ?_
    · exact MKept.refl _
    · refine MKept.trans ?_ (MKept.put (by decide))
      refine MKept.trans ?_ (MKept.inc (by decide))
      exact MKept.refl _
  · refine MKept.trans ?_ State.oweErr_mk
    exact MKept.refl _

theorem State.payFailure_mk {a0 : _} {a1 : _} : MKept a0 (@State.payFailure a0 a1) := by
  unfold State.payFailure
  refine MKept.ite ?_ ?_
  · refine MKept.trans ?_ State.laneEvent_mk
    refine MKept.trans ?_ State.putLane_mk
    exact MKept.refl _
  · exact MKept.refl _

theorem State.crossEdge_mk {a0 : _} : MKept a0 (@State.crossEdge a0) := by
  unfold State.crossEdge
  dsimp only
  refine MKept.trans ?_ State.showCrossover_mk
  refine MKept.foldl ?_ (fun v0 v1 => ?_)
  · refine MKept.foldl ?_ (fun v2 v3 => ?_)
    · exact MKept.refl _
    · refine MKept.ite ?_ ?_
      · refine MKept.trans ?_ State.payFailure_mk
        exact MKept.refl _
      · exact MKept.refl _
  · refine MKept.ite ?_ ?_
    · refine MKept.trans ?_ State.laneEvent_mk
      refine MKept.trans ?_ (MKept.put (by decide))
      refine MKept.trans ?_ State.putLane_mk
      exact MKept.refl _
    · refine MKept.ite ?_ ?_
      · refine MKept.ite ?_ ?_
        · refine MKept.trans ?_ State.setL3_mk
          refine MKept.foldl ?_ (fun v4 v5 => ?_)
          · refine MKept.trans ?_ State.laneEvent_mk
            refine MKept.trans ?_ (MKept.put (by decide))
            refine MKept.trans ?_ State.putLane_mk
            exact MKept.refl _
          · refine MKept.ite ?_ ?_
            · refine MKept.trans ?_ State.oweErr_mk
              exact MKept.refl _
            · exact MKept.refl _
        · refine MKept.trans ?_ State.laneEvent_mk
          refine MKept.trans ?_ (MKept.put (by decide))
          refine MKept.trans ?_ State.putLane_mk
          exact MKept.refl _
      · exact MKept.refl _

theorem State.endCrossover_mk {a0 : _} {a1 : _} : MKept a0 (@State.endCrossover a0 a1) := by
  unfold State.endCrossover
  dsimp only
  refine MKept.ite ?_ ?_
  · exact MKept.refl _
  · refine MKept.trans ?_ State.showCrossover_mk
    refine MKept.ite ?_ ?_
    · refine MKept.trans ?_ State.setL3_mk
      refine MKept.ite ?_ ?_
      · refine MKept.foldl ?_ (fun v0 v1 => ?_)
        · refine MKept.trans ?_ State.laneEvent_mk
          refine MKept.trans ?_ (MKept.put (by decide))
          refine MKept.trans ?_ State.putLane_mk
          exact MKept.refl _
        · refine MKept.trans ?_ State.oweErr_mk
          exact MKept.refl _
      · refine MKept.trans ?_ (MKept.put (by decide))
        refine MKept.trans ?_ State.putLane_mk
        exact MKept.refl _
    · refine MKept.ite ?_ ?_
      · refine MKept.foldl ?_ (fun v2 v3 => ?_)
        · refine MKept.trans ?_ State.laneEvent_mk
          refine MKept.trans ?_ (MKept.put (by decide))
          refine MKept.trans ?_ State.putLane_mk
          exact MKept.refl _
        · refine MKept.trans ?_ State.oweErr_mk
          exact MKept.refl _
      · refine MKept.trans ?_ (MKept.put (by decide))
        refine MKept.trans ?_ State.putLane_mk
        exact MKept.refl _

theorem State.endCrossovers_mk {a0 : _} : MKept a0 (@State.endCrossovers a0) := by
  unfold State.endCrossovers
  refine MKept.foldl ?_ (fun v0 v1 => ?_)
  · exact MKept.refl _
  · refine MKept.trans ?_ State.endCrossover_mk
    exact MKept.refl _

theorem State.lanesTakeService_mk {a0 : _} : MKept a0 (@State.lanesTakeService a0) := by
  unfold State.lanesTakeService
  refine MKept.foldl ?_ (fun v0 v1 => ?_)
  · exact MKept.refl _
  · refine MKept.ite ?_ ?_
    · refine MKept.ite ?_ ?_
      · refine MKept.trans ?_ State.putLane_mk
        exact MKept.refl _
      · refine MKept.foldl ?_ (fun v2 v3 => ?_)
        · exact MKept.refl _
        · refine MKept.trans ?_ State.oweErr_mk
          exact MKept.refl _
    · exact MKept.refl _

theorem State.laneReturn_mk {a0 : _} {a1 : _} : MKept a0 (@State.laneReturn a0 a1) := by
  unfold State.laneReturn
  dsimp only
  refine MKept.ite ?_ ?_
  · refine MKept.trans ?_ State.putLane_mk
    refine MKept.trans ?_ (MKept.put (by decide))
    refine MKept.trans ?_ State.payFailure_mk
    exact MKept.refl _
  · refine MKept.trans ?_ State.oweErr_mk
    refine MKept.trans ?_ State.laneEvent_mk
    refine MKept.trans ?_ State.putLane_mk
    refine MKept.trans ?_ (MKept.put (by decide))
    refine MKept.trans ?_ State.payFailure_mk
    exact MKept.refl _

theorem State.sendService_mk {a0 : _} {a1 : _} {a2 : _} {a3 : _} : MKept a0 (@State.sendService a0 a1 a2 a3) := by
  unfold State.sendService
  dsimp only
  refine MKept.ite ?_ ?_
  · refine MKept.trans ?_ State.putLane_mk
    exact MKept.refl _
  · exact MKept.refl _

theorem State.edgeLaunch_mk {a0 : _} {a1 : _} : MKept a0 (@State.edgeLaunch a0 a1) := by
  unfold State.edgeLaunch
  dsimp only
  refine MKept.ite ?_ ?_
  · refine MKept.trans ?_ State.putLane_mk
    exact MKept.refl _
  · exact MKept.refl _

theorem execEdgeLaunch_mk {a0 : _} {a1 : _} {t : State} (h : (@execEdgeLaunch a0 a1) = .next t) : MKept a1 t := by
  unfold execEdgeLaunch at h
  injection h with h
  subst h
  refine MKept.trans ?_ State.edgeLaunch_mk
  exact MKept.refl _

theorem execDelayMeasure_mk {a0 : _} {a1 : _} {t : State} (h : (@execDelayMeasure a0 a1) = .next t) : MKept a1 t := by
  unfold execDelayMeasure at h
  injection h with h
  subst h
  refine MKept.ite ?_ ?_
  · dsimp only
    refine MKept.trans ?_ State.putLane_mk
    exact MKept.refl _
  · exact MKept.refl _

theorem execDelayRespReceive_mk {a0 : _} {a1 : _} {a2 : _} {a3 : _} {a4 : _} {a5 : _} {t : State} (h : (@execDelayRespReceive a0 a1 a2 a3 a4 a5) = .next t) : MKept a4 t := by
  unfold execDelayRespReceive at h
  injection h with h
  subst h
  refine MKept.ite ?_ ?_
  · exact MKept.refl _
  · refine MKept.ite ?_ ?_
    · refine MKept.trans ?_ (MKept.inc (by decide))
      refine MKept.trans ?_ State.putLane_mk
      exact MKept.refl _
    · refine MKept.ite ?_ ?_
      · exact MKept.refl _
      · dsimp only
        refine MKept.ite ?_ ?_
        · refine MKept.trans ?_ (MKept.inc (by decide))
          refine MKept.trans ?_ State.putLane_mk
          exact MKept.refl _
        · refine MKept.trans ?_ (MKept.put (by decide))
          refine MKept.trans ?_ State.putLane_mk
          exact MKept.refl _

theorem State.putHolder_mk {a0 : _} {a1 : _} {a2 : _} : MKept a0 (@State.putHolder a0 a1 a2) := by
  unfold State.putHolder
  refine MKept.ite ?_ ?_
  · refine MKept.trans ?_ (MKept.put (by decide))
    exact MKept.refl _
  · exact MKept.refl _

theorem State.laneStatusIn_mk {a0 : _} {a1 : _} {a2 : _} : MKept a0 (@State.laneStatusIn a0 a1 a2) := by
  unfold State.laneStatusIn
  dsimp only
  refine MKept.ite ?_ ?_
  · refine MKept.trans ?_ State.laneEvent_mk
    refine MKept.trans ?_ (MKept.add (by decide))
    refine MKept.trans ?_ State.putHolder_mk
    refine MKept.trans ?_ State.putLane_mk
    exact MKept.refl _
  · refine MKept.trans ?_ (MKept.add (by decide))
    refine MKept.trans ?_ State.putHolder_mk
    refine MKept.trans ?_ State.putLane_mk
    exact MKept.refl _

theorem State.frameAccepted_mk {a0 : _} {a1 : _} {a2 : _} {a3 : _} : MKept a0 (@State.frameAccepted a0 a1 a2 a3) := by
  unfold State.frameAccepted
  dsimp only
  refine MKept.ite ?_ ?_
  · refine MKept.trans ?_ State.putLane_mk
    split
    · rename_i v0 v1 v2
      refine MKept.trans ?_ State.laneStatusIn_mk
      refine MKept.trans ?_ (MKept.put (by decide))
      refine MKept.trans ?_ (MKept.put (by decide))
      refine MKept.ite ?_ ?_
      · refine MKept.trans ?_ (MKept.inc (by decide))
        refine MKept.trans ?_ State.putLane_mk
        exact MKept.refl _
      · refine MKept.trans ?_ State.putLane_mk
        exact MKept.refl _
    · rename_i v3 v4
      refine MKept.trans ?_ (MKept.put (by decide))
      refine MKept.trans ?_ (MKept.put (by decide))
      refine MKept.ite ?_ ?_
      · refine MKept.trans ?_ (MKept.inc (by decide))
        refine MKept.trans ?_ State.putLane_mk
        exact MKept.refl _
      · refine MKept.trans ?_ State.putLane_mk
        exact MKept.refl _
  · refine MKept.trans ?_ State.addDue_mk
    refine MKept.trans ?_ State.putLane_mk
    split
    · rename_i v5 v6 v7
      refine MKept.trans ?_ State.laneStatusIn_mk
      refine MKept.trans ?_ (MKept.put (by decide))
      refine MKept.trans ?_ (MKept.put (by decide))
      refine MKept.ite ?_ ?_
      · refine MKept.trans ?_ (MKept.inc (by decide))
        refine MKept.trans ?_ State.putLane_mk
        exact MKept.refl _
      · refine MKept.trans ?_ State.putLane_mk
        exact MKept.refl _
    · rename_i v8 v9
      refine MKept.trans ?_ (MKept.put (by decide))
      refine MKept.trans ?_ (MKept.put (by decide))
      refine MKept.ite ?_ ?_
      · refine MKept.trans ?_ (MKept.inc (by decide))
        refine MKept.trans ?_ State.putLane_mk
        exact MKept.refl _
      · refine MKept.trans ?_ State.putLane_mk
        exact MKept.refl _

theorem State.upstreamFrame_mk {a0 : _} {a1 : _} {a2 : _} : MKept a0 (@State.upstreamFrame a0 a1 a2) := by
  unfold State.upstreamFrame
  dsimp only
  refine MKept.ite ?_ ?_
  · exact MKept.refl _
  · refine MKept.ite ?_ ?_
    · refine MKept.ite ?_ ?_
      · refine MKept.trans ?_ State.putLane_mk
        exact MKept.refl _
      · exact MKept.refl _
    · refine MKept.ite ?_ ?_
      · refine MKept.trans ?_ (MKept.inc (by decide))
        exact MKept.refl _
      · refine MKept.ite ?_ ?_
        · refine MKept.ite ?_ ?_
          · refine MKept.trans ?_ State.putLane_mk
            exact MKept.refl _
          · exact MKept.refl _
        · refine MKept.ite ?_ ?_
          · refine MKept.ite ?_ ?_
            · refine MKept.trans ?_ State.putLane_mk
              refine MKept.trans ?_ (MKept.inc (by decide))
              exact MKept.refl _
            · refine MKept.trans ?_ (MKept.inc (by decide))
              exact MKept.refl _
          · refine MKept.ite ?_ ?_
            · refine MKept.ite ?_ ?_
              · refine MKept.trans ?_ (MKept.inc (by decide))
                refine MKept.trans ?_ State.putLane_mk
                exact MKept.refl _
              · exact MKept.refl _
            · refine MKept.trans ?_ State.frameAccepted_mk
              exact MKept.refl _

theorem execUpstreamFrameReceive_mk {a0 : _} {a1 : _} {a2 : _} {t : State} (h : (@execUpstreamFrameReceive a0 a1 a2) = .next t) : MKept a2 t := by
  unfold execUpstreamFrameReceive at h
  injection h with h
  subst h
  refine MKept.trans ?_ State.upstreamFrame_mk
  exact MKept.refl _

theorem execAckSend_mk {a0 : _} {a1 : _} {a2 : _} {t : State} (h : (@execAckSend a0 a1 a2) = .next t) : MKept a2 t := by
  unfold execAckSend at h
  injection h with h
  subst h
  refine MKept.ite ?_ ?_
  · exact MKept.refl _
  · dsimp only
    refine MKept.trans ?_ State.putLane_mk
    exact MKept.refl _

theorem State.laneStale_mk {a0 : _} {a1 : _} : MKept a0 (@State.laneStale a0 a1) := by
  unfold State.laneStale
  dsimp only
  refine MKept.ite ?_ ?_
  · refine MKept.trans ?_ State.laneFail_mk
    refine MKept.ite ?_ ?_
    · refine MKept.trans ?_ State.laneEvent_mk
      refine MKept.ite ?_ ?_
      · refine MKept.trans ?_ (MKept.put (by decide))
        refine MKept.ite ?_ ?_
        · refine MKept.trans ?_ (MKept.put (by decide))
          refine MKept.trans ?_ (MKept.inc (by decide))
          refine MKept.trans ?_ State.putLane_mk
          exact MKept.refl _
        · refine MKept.trans ?_ State.addDue_mk
          refine MKept.trans ?_ (MKept.put (by decide))
          refine MKept.trans ?_ (MKept.inc (by decide))
          refine MKept.trans ?_ State.putLane_mk
          exact MKept.refl _
      · refine MKept.ite ?_ ?_
        · refine MKept.trans ?_ (MKept.put (by decide))
          refine MKept.trans ?_ (MKept.inc (by decide))
          refine MKept.trans ?_ State.putLane_mk
          exact MKept.refl _
        · refine MKept.trans ?_ State.addDue_mk
          refine MKept.trans ?_ (MKept.put (by decide))
          refine MKept.trans ?_ (MKept.inc (by decide))
          refine MKept.trans ?_ State.putLane_mk
          exact MKept.refl _
    · refine MKept.ite ?_ ?_
      · refine MKept.trans ?_ (MKept.put (by decide))
        refine MKept.ite ?_ ?_
        · refine MKept.trans ?_ (MKept.put (by decide))
          refine MKept.trans ?_ (MKept.inc (by decide))
          refine MKept.trans ?_ State.putLane_mk
          exact MKept.refl _
        · refine MKept.trans ?_ State.addDue_mk
          refine MKept.trans ?_ (MKept.put (by decide))
          refine MKept.trans ?_ (MKept.inc (by decide))
          refine MKept.trans ?_ State.putLane_mk
          exact MKept.refl _
      · refine MKept.ite ?_ ?_
        · refine MKept.trans ?_ (MKept.put (by decide))
          refine MKept.trans ?_ (MKept.inc (by decide))
          refine MKept.trans ?_ State.putLane_mk
          exact MKept.refl _
        · refine MKept.trans ?_ State.addDue_mk
          refine MKept.trans ?_ (MKept.put (by decide))
          refine MKept.trans ?_ (MKept.inc (by decide))
          refine MKept.trans ?_ State.putLane_mk
          exact MKept.refl _
  · refine MKept.ite ?_ ?_
    · refine MKept.trans ?_ State.laneEvent_mk
      refine MKept.ite ?_ ?_
      · refine MKept.trans ?_ (MKept.put (by decide))
        refine MKept.ite ?_ ?_
        · refine MKept.trans ?_ (MKept.put (by decide))
          refine MKept.trans ?_ (MKept.inc (by decide))
          refine MKept.trans ?_ State.putLane_mk
          exact MKept.refl _
        · refine MKept.trans ?_ State.addDue_mk
          refine MKept.trans ?_ (MKept.put (by decide))
          refine MKept.trans ?_ (MKept.inc (by decide))
          refine MKept.trans ?_ State.putLane_mk
          exact MKept.refl _
      · refine MKept.ite ?_ ?_
        · refine MKept.trans ?_ (MKept.put (by decide))
          refine MKept.trans ?_ (MKept.inc (by decide))
          refine MKept.trans ?_ State.putLane_mk
          exact MKept.refl _
        · refine MKept.trans ?_ State.addDue_mk
          refine MKept.trans ?_ (MKept.put (by decide))
          refine MKept.trans ?_ (MKept.inc (by decide))
          refine MKept.trans ?_ State.putLane_mk
          exact MKept.refl _
    · refine MKept.ite ?_ ?_
      · refine MKept.trans ?_ (MKept.put (by decide))
        refine MKept.ite ?_ ?_
        · refine MKept.trans ?_ (MKept.put (by decide))
          refine MKept.trans ?_ (MKept.inc (by decide))
          refine MKept.trans ?_ State.putLane_mk
          exact MKept.refl _
        · refine MKept.trans ?_ State.addDue_mk
          refine MKept.trans ?_ (MKept.put (by decide))
          refine MKept.trans ?_ (MKept.inc (by decide))
          refine MKept.trans ?_ State.putLane_mk
          exact MKept.refl _
      · refine MKept.ite ?_ ?_
        · refine MKept.trans ?_ (MKept.put (by decide))
          refine MKept.trans ?_ (MKept.inc (by decide))
          refine MKept.trans ?_ State.putLane_mk
          exact MKept.refl _
        · refine MKept.trans ?_ State.addDue_mk
          refine MKept.trans ?_ (MKept.put (by decide))
          refine MKept.trans ?_ (MKept.inc (by decide))
          refine MKept.trans ?_ State.putLane_mk
          exact MKept.refl _

theorem State.laneGood_mk {a0 : _} {a1 : _} : MKept a0 (@State.laneGood a0 a1) := by
  unfold State.laneGood
  dsimp only
  refine MKept.ite ?_ ?_
  · refine MKept.trans ?_ State.laneReturn_mk
    refine MKept.ite ?_ ?_
    · refine MKept.trans ?_ (MKept.put (by decide))
      refine MKept.trans ?_ (MKept.put (by decide))
      refine MKept.trans ?_ State.putLane_mk
      exact MKept.refl _
    · refine MKept.trans ?_ (MKept.put (by decide))
      refine MKept.trans ?_ State.putLane_mk
      exact MKept.refl _
  · refine MKept.ite ?_ ?_
    · refine MKept.trans ?_ (MKept.put (by decide))
      refine MKept.trans ?_ (MKept.put (by decide))
      refine MKept.trans ?_ State.putLane_mk
      exact MKept.refl _
    · refine MKept.trans ?_ (MKept.put (by decide))
      refine MKept.trans ?_ State.putLane_mk
      exact MKept.refl _

theorem State.windowEnd_mk {a0 : _} {a1 : _} : MKept a0 (@State.windowEnd a0 a1) := by
  unfold State.windowEnd
  dsimp only
  refine MKept.ite ?_ ?_
  · exact MKept.refl _
  · refine MKept.ite ?_ ?_
    · refine MKept.trans ?_ State.laneGood_mk
      exact MKept.refl _
    · refine MKept.trans ?_ State.laneStale_mk
      exact MKept.refl _

theorem execExchangeWindowEnd_mk {a0 : _} {a1 : _} {t : State} (h : (@execExchangeWindowEnd a0 a1) = .next t) : MKept a1 t := by
  unfold execExchangeWindowEnd at h
  injection h with h
  subst h
  refine MKept.trans ?_ State.windowEnd_mk
  exact MKept.refl _

theorem State.lossOfLink_mk {a0 : _} {a1 : _} : MKept a0 (@State.lossOfLink a0 a1) := by
  unfold State.lossOfLink
  dsimp only
  refine MKept.ite ?_ ?_
  · exact MKept.refl _
  · refine MKept.ite ?_ ?_
    · refine MKept.trans ?_ State.boardGone_mk
      refine MKept.trans ?_ (MKept.put (by decide))
      exact MKept.refl _
    · refine MKept.ite ?_ ?_
      · refine MKept.trans ?_ State.putLane_mk
        refine MKept.trans ?_ (MKept.put (by decide))
        exact MKept.refl _
      · refine MKept.trans ?_ State.laneFail_mk
        refine MKept.trans ?_ (MKept.put (by decide))
        exact MKept.refl _

theorem execLossOfLink_mk {a0 : _} {a1 : _} {t : State} (h : (@execLossOfLink a0 a1) = .next t) : MKept a1 t := by
  unfold execLossOfLink at h
  injection h with h
  subst h
  refine MKept.trans ?_ State.lossOfLink_mk
  exact MKept.refl _

theorem State.partnerLossIn_mk {a0 : _} {a1 : _} : MKept a0 (@State.partnerLossIn a0 a1) := by
  unfold State.partnerLossIn
  dsimp only
  refine MKept.foldl ?_ (fun v0 v1 => ?_)
  · refine MKept.mkUpd ?_
    exact MKept.refl _
  · split
    · rename_i v2 v3 v4
      refine MKept.ite ?_ ?_
      · refine MKept.trans ?_ State.boardGone_mk
        exact MKept.refl _
      · exact MKept.refl _
    · rename_i v5 v6
      exact MKept.refl _

theorem State.boardUnit_mk {a0 : _} {a1 : _} {a2 : _} {a3 : _} {a4 : _} : MKept a0 (@State.boardUnit a0 a1 a2 a3 a4) := by
  unfold State.boardUnit
  dsimp only
  refine MKept.trans ?_ State.bumpUnit_mk
  refine MKept.trans ?_ State.putUnit_mk
  exact MKept.refl _

theorem State.slotInserted_mk {a0 : _} {a1 : _} {a2 : _} {a3 : _} {a4 : _} {a5 : _} : MKept a0 (@State.slotInserted a0 a1 a2 a3 a4 a5) := by
  unfold State.slotInserted
  dsimp only
  refine MKept.trans ?_ State.laneEvent_mk
  refine MKept.trans ?_ State.putLane_mk
  iterate 3 refine MKept.trans ?_ (MKept.put (by decide))
  refine MKept.trans ?_ State.boardUnit_mk
  refine MKept.ite ?_ ?_
  · refine MKept.trans ?_ State.boardGone_mk
    exact MKept.refl _
  · exact MKept.refl _

theorem State.l3Inserted_mk {a0 : _} {a1 : _} {a2 : _} {a3 : _} {a4 : _} {a5 : _} : MKept a0 (@State.l3Inserted a0 a1 a2 a3 a4 a5) := by
  unfold State.l3Inserted
  dsimp only
  refine MKept.trans ?_ State.laneEvent_mk
  refine MKept.trans ?_ State.putL3_mk
  refine MKept.ite ?_ ?_
  · refine MKept.trans ?_ (MKept.put (by decide))
    refine MKept.trans ?_ (MKept.put (by decide))
    refine MKept.trans ?_ (MKept.put (by decide))
    refine MKept.trans ?_ State.boardUnit_mk
    exact MKept.refl _
  · refine MKept.trans ?_ (MKept.put (by decide))
    refine MKept.trans ?_ (MKept.put (by decide))
    refine MKept.trans ?_ State.boardUnit_mk
    exact MKept.refl _

theorem State.behindBridge_mk {a0 : _} {a1 : _} {a2 : _} {a3 : _} {a4 : _} {a5 : _} {a6 : _} : MKept a0 (@State.behindBridge a0 a1 a2 a3 a4 a5 a6) := by
  unfold State.behindBridge
  dsimp only
  refine MKept.trans ?_ State.laneEvent_mk
  refine MKept.trans ?_ State.bumpUnit_mk
  refine MKept.trans ?_ State.boardUnit_mk
  exact MKept.refl _

theorem State.mismatchFound_mk {a0 : _} {a1 : _} {a2 : _} {a3 : _} {a4 : _} : MKept a0 (@State.mismatchFound a0 a1 a2 a3 a4) := by
  unfold State.mismatchFound
  dsimp only
  refine MKept.ite ?_ ?_
  · refine MKept.trans ?_ State.putL3_mk
    refine MKept.trans ?_ State.bumpUnit_mk
    refine MKept.trans ?_ State.laneEvent_mk
    exact MKept.refl _
  · refine MKept.trans ?_ (MKept.put (by decide))
    refine MKept.trans ?_ (MKept.put (by decide))
    refine MKept.trans ?_ State.putLane_mk
    refine MKept.trans ?_ State.bumpUnit_mk
    refine MKept.trans ?_ State.laneEvent_mk
    exact MKept.refl _

theorem State.typeWritten_mk {a0 : _} {a1 : _} : MKept a0 (@State.typeWritten a0 a1) := by
  unfold State.typeWritten
  dsimp only
  refine MKept.ite ?_ ?_
  · exact MKept.refl _
  · refine MKept.ite ?_ ?_
    · refine MKept.foldl ?_ (fun v0 v1 => ?_)
      · exact MKept.refl _
      · refine MKept.trans ?_ State.mismatchFound_mk
        refine MKept.trans ?_ State.putL3_mk
        refine MKept.ite ?_ ?_
        · refine MKept.trans ?_ State.oweErr_mk
          exact MKept.refl _
        · exact MKept.refl _
    · split
      · rename_i v2 v3 v4 v5
        refine MKept.ite ?_ ?_
        · exact MKept.refl _
        · refine MKept.trans ?_ State.showCrossover_mk
          refine MKept.foldl ?_ (fun v6 v7 => ?_)
          · refine MKept.trans ?_ State.mismatchFound_mk
            refine MKept.trans ?_ State.putLane_mk
            exact MKept.refl _
          · refine MKept.trans ?_ State.oweErr_mk
            exact MKept.refl _
      · rename_i v8 v9
        exact MKept.refl _

theorem State.boardInserted_mk {a0 : _} {a1 : _} {a2 : _} {a3 : _} {a4 : _} {a5 : _} {a6 : _} {a7 : _} : MKept a0 (@State.boardInserted a0 a1 a2 a3 a4 a5 a6 a7) := by
  unfold State.boardInserted
  dsimp only
  refine MKept.ite ?_ ?_
  · exact MKept.refl _
  · refine MKept.ite ?_ ?_
    · refine MKept.ite ?_ ?_
      · refine MKept.trans ?_ (MKept.put (by decide))
        refine MKept.trans ?_ (MKept.put (by decide))
        refine MKept.trans ?_ State.raise_mk
        exact MKept.refl _
      · refine MKept.trans ?_ State.raise_mk
        exact MKept.refl _
    · refine MKept.ite ?_ ?_
      · refine MKept.ite ?_ ?_
        · refine MKept.trans ?_ State.behindBridge_mk
          exact MKept.refl _
        · exact MKept.refl _
      · refine MKept.ite ?_ ?_
        · refine MKept.trans ?_ State.mismatchFound_mk
          exact MKept.refl _
        · refine MKept.ite ?_ ?_
          · refine MKept.ite ?_ ?_
            · refine MKept.trans ?_ State.l3Inserted_mk
              exact MKept.refl _
            · exact MKept.refl _
          · refine MKept.trans ?_ State.slotInserted_mk
            exact MKept.refl _

theorem execBoardInserted_mk {a0 : _} {a1 : _} {a2 : _} {a3 : _} {a4 : _} {a5 : _} {a6 : _} {a7 : _} {t : State} (h : (@execBoardInserted a0 a1 a2 a3 a4 a5 a6 a7) = .next t) : MKept a7 t := by
  unfold execBoardInserted at h
  injection h with h
  subst h
  refine MKept.trans ?_ State.boardInserted_mk
  exact MKept.refl _

theorem State.crossForward_mk {a0 : _} {a1 : _} {a2 : _} : MKept a0 (@State.crossForward a0 a1 a2) := by
  unfold State.crossForward
  refine MKept.ite ?_ ?_
  · refine MKept.ite ?_ ?_
    · exact MKept.refl _
    · dsimp only
      refine MKept.mkUpd ?_
      refine MKept.foldl ?_ (fun v0 v1 => ?_)
      · exact MKept.refl _
      · refine MKept.trans ?_ State.addDue_mk
        exact MKept.refl _
  · refine MKept.ite ?_ ?_
    · refine MKept.mkUpd ?_
      exact MKept.refl _
    · exact MKept.refl _

theorem execCrossoverForward_mk {a0 : _} {a1 : _} {a2 : _} {t : State} (h : (@execCrossoverForward a0 a1 a2) = .next t) : MKept a2 t := by
  unfold execCrossoverForward at h
  injection h with h
  subst h
  refine MKept.trans ?_ State.crossForward_mk
  exact MKept.refl _

theorem execLaneProbe_mk {a0 : _} {a1 : _} {a2 : _} {t : State} (h : (@execLaneProbe a0 a1 a2) = .next t) : MKept a2 t := by
  unfold execLaneProbe at h
  injection h with h
  subst h
  refine MKept.ite ?_ ?_
  · exact MKept.refl _
  · dsimp only
    refine MKept.ite ?_ ?_
    · refine MKept.trans ?_ State.putLane_mk
      refine MKept.trans ?_ State.sendService_mk
      exact MKept.refl _
    · refine MKept.ite ?_ ?_
      · refine MKept.trans ?_ State.putLane_mk
        refine MKept.trans ?_ State.sendService_mk
        exact MKept.refl _
      · refine MKept.trans ?_ State.putLane_mk
        refine MKept.trans ?_ State.sendService_mk
        exact MKept.refl _

theorem execCrossoverEnd_mk {a0 : _} {a1 : _} {a2 : _} {t : State} (h : (@execCrossoverEnd a0 a1 a2) = .next t) : MKept a2 t := by
  unfold execCrossoverEnd at h
  injection h with h
  subst h
  dsimp only
  refine MKept.mkUpd ?_
  refine MKept.trans ?_ State.endCrossover_mk
  exact MKept.refl _

theorem execL3Poll_mk {a0 : _} {a1 : _} {a2 : _} {t : State} (h : (@execL3Poll a0 a1 a2) = .next t) : MKept a2 t := by
  unfold execL3Poll at h
  injection h with h
  subst h
  refine MKept.ite ?_ ?_
  · refine MKept.trans ?_ State.putL3_mk
    exact MKept.refl _
  · exact MKept.refl _

theorem execL3CheckPoll_mk {a0 : _} {a1 : _} {a2 : _} {t : State} (h : (@execL3CheckPoll a0 a1 a2) = .next t) : MKept a2 t := by
  unfold execL3CheckPoll at h
  injection h with h
  subst h
  refine MKept.ite ?_ ?_
  · refine MKept.trans ?_ State.putL3_mk
    exact MKept.refl _
  · exact MKept.refl _

theorem State.showL3_mk {a0 : _} {a1 : _} : MKept a0 (@State.showL3 a0 a1) := by
  unfold State.showL3
  dsimp only
  refine MKept.ite ?_ ?_
  · refine MKept.trans ?_ (MKept.put (by decide))
    refine MKept.trans ?_ (MKept.put (by decide))
    exact MKept.refl _
  · refine MKept.trans ?_ (MKept.put (by decide))
    exact MKept.refl _

theorem State.l3Stale_mk {a0 : _} {a1 : _} {a2 : _} {a3 : _} : MKept a0 (@State.l3Stale a0 a1 a2 a3) := by
  unfold State.l3Stale
  dsimp only
  refine MKept.ite ?_ ?_
  · refine MKept.trans ?_ State.laneFail_mk
    refine MKept.trans ?_ State.showL3_mk
    refine MKept.ite ?_ ?_
    · refine MKept.ite ?_ ?_
      · refine MKept.trans ?_ State.bumpUnit_mk
        refine MKept.trans ?_ State.laneEvent_mk
        refine MKept.ite ?_ ?_
        · refine MKept.trans ?_ State.oweErr_mk
          refine MKept.trans ?_ State.laneEvent_mk
          refine MKept.trans ?_ (MKept.put (by decide))
          refine MKept.trans ?_ State.putL3_mk
          refine MKept.ite ?_ ?_
          · refine MKept.trans ?_ State.laneEvent_mk
            refine MKept.ite ?_ ?_
            · refine MKept.trans ?_ State.putLane_mk
              refine MKept.trans ?_ (MKept.inc (by decide))
              refine MKept.trans ?_ State.putL3_mk
              exact MKept.refl _
            · refine MKept.trans ?_ State.addDue_mk
              refine MKept.trans ?_ State.putLane_mk
              refine MKept.trans ?_ (MKept.inc (by decide))
              refine MKept.trans ?_ State.putL3_mk
              exact MKept.refl _
          · refine MKept.ite ?_ ?_
            · refine MKept.trans ?_ State.putLane_mk
              refine MKept.trans ?_ (MKept.inc (by decide))
              refine MKept.trans ?_ State.putL3_mk
              exact MKept.refl _
            · refine MKept.trans ?_ State.addDue_mk
              refine MKept.trans ?_ State.putLane_mk
              refine MKept.trans ?_ (MKept.inc (by decide))
              refine MKept.trans ?_ State.putL3_mk
              exact MKept.refl _
        · refine MKept.trans ?_ State.laneEvent_mk
          refine MKept.trans ?_ (MKept.put (by decide))
          refine MKept.trans ?_ State.putL3_mk
          refine MKept.ite ?_ ?_
          · refine MKept.trans ?_ State.laneEvent_mk
            refine MKept.ite ?_ ?_
            · refine MKept.trans ?_ State.putLane_mk
              refine MKept.trans ?_ (MKept.inc (by decide))
              refine MKept.trans ?_ State.putL3_mk
              exact MKept.refl _
            · refine MKept.trans ?_ State.addDue_mk
              refine MKept.trans ?_ State.putLane_mk
              refine MKept.trans ?_ (MKept.inc (by decide))
              refine MKept.trans ?_ State.putL3_mk
              exact MKept.refl _
          · refine MKept.ite ?_ ?_
            · refine MKept.trans ?_ State.putLane_mk
              refine MKept.trans ?_ (MKept.inc (by decide))
              refine MKept.trans ?_ State.putL3_mk
              exact MKept.refl _
            · refine MKept.trans ?_ State.addDue_mk
              refine MKept.trans ?_ State.putLane_mk
              refine MKept.trans ?_ (MKept.inc (by decide))
              refine MKept.trans ?_ State.putL3_mk
              exact MKept.refl _
      · refine MKept.ite ?_ ?_
        · refine MKept.trans ?_ State.oweErr_mk
          refine MKept.trans ?_ State.laneEvent_mk
          refine MKept.trans ?_ (MKept.put (by decide))
          refine MKept.trans ?_ State.putL3_mk
          refine MKept.ite ?_ ?_
          · refine MKept.trans ?_ State.laneEvent_mk
            refine MKept.ite ?_ ?_
            · refine MKept.trans ?_ State.putLane_mk
              refine MKept.trans ?_ (MKept.inc (by decide))
              refine MKept.trans ?_ State.putL3_mk
              exact MKept.refl _
            · refine MKept.trans ?_ State.addDue_mk
              refine MKept.trans ?_ State.putLane_mk
              refine MKept.trans ?_ (MKept.inc (by decide))
              refine MKept.trans ?_ State.putL3_mk
              exact MKept.refl _
          · refine MKept.ite ?_ ?_
            · refine MKept.trans ?_ State.putLane_mk
              refine MKept.trans ?_ (MKept.inc (by decide))
              refine MKept.trans ?_ State.putL3_mk
              exact MKept.refl _
            · refine MKept.trans ?_ State.addDue_mk
              refine MKept.trans ?_ State.putLane_mk
              refine MKept.trans ?_ (MKept.inc (by decide))
              refine MKept.trans ?_ State.putL3_mk
              exact MKept.refl _
        · refine MKept.trans ?_ State.laneEvent_mk
          refine MKept.trans ?_ (MKept.put (by decide))
          refine MKept.trans ?_ State.putL3_mk
          refine MKept.ite ?_ ?_
          · refine MKept.trans ?_ State.laneEvent_mk
            refine MKept.ite ?_ ?_
            · refine MKept.trans ?_ State.putLane_mk
              refine MKept.trans ?_ (MKept.inc (by decide))
              refine MKept.trans ?_ State.putL3_mk
              exact MKept.refl _
            · refine MKept.trans ?_ State.addDue_mk
              refine MKept.trans ?_ State.putLane_mk
              refine MKept.trans ?_ (MKept.inc (by decide))
              refine MKept.trans ?_ State.putL3_mk
              exact MKept.refl _
          · refine MKept.ite ?_ ?_
            · refine MKept.trans ?_ State.putLane_mk
              refine MKept.trans ?_ (MKept.inc (by decide))
              refine MKept.trans ?_ State.putL3_mk
              exact MKept.refl _
            · refine MKept.trans ?_ State.addDue_mk
              refine MKept.trans ?_ State.putLane_mk
              refine MKept.trans ?_ (MKept.inc (by decide))
              refine MKept.trans ?_ State.putL3_mk
              exact MKept.refl _
    · refine MKept.ite ?_ ?_
      · refine MKept.trans ?_ State.laneEvent_mk
        refine MKept.ite ?_ ?_
        · refine MKept.trans ?_ State.putLane_mk
          refine MKept.trans ?_ (MKept.inc (by decide))
          refine MKept.trans ?_ State.putL3_mk
          exact MKept.refl _
        · refine MKept.trans ?_ State.addDue_mk
          refine MKept.trans ?_ State.putLane_mk
          refine MKept.trans ?_ (MKept.inc (by decide))
          refine MKept.trans ?_ State.putL3_mk
          exact MKept.refl _
      · refine MKept.ite ?_ ?_
        · refine MKept.trans ?_ State.putLane_mk
          refine MKept.trans ?_ (MKept.inc (by decide))
          refine MKept.trans ?_ State.putL3_mk
          exact MKept.refl _
        · refine MKept.trans ?_ State.addDue_mk
          refine MKept.trans ?_ State.putLane_mk
          refine MKept.trans ?_ (MKept.inc (by decide))
          refine MKept.trans ?_ State.putL3_mk
          exact MKept.refl _
  · refine MKept.trans ?_ State.showL3_mk
    refine MKept.ite ?_ ?_
    · refine MKept.ite ?_ ?_
      · refine MKept.trans ?_ State.bumpUnit_mk
        refine MKept.trans ?_ State.laneEvent_mk
        refine MKept.ite ?_ ?_
        · refine MKept.trans ?_ State.oweErr_mk
          refine MKept.trans ?_ State.laneEvent_mk
          refine MKept.trans ?_ (MKept.put (by decide))
          refine MKept.trans ?_ State.putL3_mk
          refine MKept.ite ?_ ?_
          · refine MKept.trans ?_ State.laneEvent_mk
            refine MKept.ite ?_ ?_
            · refine MKept.trans ?_ State.putLane_mk
              refine MKept.trans ?_ (MKept.inc (by decide))
              refine MKept.trans ?_ State.putL3_mk
              exact MKept.refl _
            · refine MKept.trans ?_ State.addDue_mk
              refine MKept.trans ?_ State.putLane_mk
              refine MKept.trans ?_ (MKept.inc (by decide))
              refine MKept.trans ?_ State.putL3_mk
              exact MKept.refl _
          · refine MKept.ite ?_ ?_
            · refine MKept.trans ?_ State.putLane_mk
              refine MKept.trans ?_ (MKept.inc (by decide))
              refine MKept.trans ?_ State.putL3_mk
              exact MKept.refl _
            · refine MKept.trans ?_ State.addDue_mk
              refine MKept.trans ?_ State.putLane_mk
              refine MKept.trans ?_ (MKept.inc (by decide))
              refine MKept.trans ?_ State.putL3_mk
              exact MKept.refl _
        · refine MKept.trans ?_ State.laneEvent_mk
          refine MKept.trans ?_ (MKept.put (by decide))
          refine MKept.trans ?_ State.putL3_mk
          refine MKept.ite ?_ ?_
          · refine MKept.trans ?_ State.laneEvent_mk
            refine MKept.ite ?_ ?_
            · refine MKept.trans ?_ State.putLane_mk
              refine MKept.trans ?_ (MKept.inc (by decide))
              refine MKept.trans ?_ State.putL3_mk
              exact MKept.refl _
            · refine MKept.trans ?_ State.addDue_mk
              refine MKept.trans ?_ State.putLane_mk
              refine MKept.trans ?_ (MKept.inc (by decide))
              refine MKept.trans ?_ State.putL3_mk
              exact MKept.refl _
          · refine MKept.ite ?_ ?_
            · refine MKept.trans ?_ State.putLane_mk
              refine MKept.trans ?_ (MKept.inc (by decide))
              refine MKept.trans ?_ State.putL3_mk
              exact MKept.refl _
            · refine MKept.trans ?_ State.addDue_mk
              refine MKept.trans ?_ State.putLane_mk
              refine MKept.trans ?_ (MKept.inc (by decide))
              refine MKept.trans ?_ State.putL3_mk
              exact MKept.refl _
      · refine MKept.ite ?_ ?_
        · refine MKept.trans ?_ State.oweErr_mk
          refine MKept.trans ?_ State.laneEvent_mk
          refine MKept.trans ?_ (MKept.put (by decide))
          refine MKept.trans ?_ State.putL3_mk
          refine MKept.ite ?_ ?_
          · refine MKept.trans ?_ State.laneEvent_mk
            refine MKept.ite ?_ ?_
            · refine MKept.trans ?_ State.putLane_mk
              refine MKept.trans ?_ (MKept.inc (by decide))
              refine MKept.trans ?_ State.putL3_mk
              exact MKept.refl _
            · refine MKept.trans ?_ State.addDue_mk
              refine MKept.trans ?_ State.putLane_mk
              refine MKept.trans ?_ (MKept.inc (by decide))
              refine MKept.trans ?_ State.putL3_mk
              exact MKept.refl _
          · refine MKept.ite ?_ ?_
            · refine MKept.trans ?_ State.putLane_mk
              refine MKept.trans ?_ (MKept.inc (by decide))
              refine MKept.trans ?_ State.putL3_mk
              exact MKept.refl _
            · refine MKept.trans ?_ State.addDue_mk
              refine MKept.trans ?_ State.putLane_mk
              refine MKept.trans ?_ (MKept.inc (by decide))
              refine MKept.trans ?_ State.putL3_mk
              exact MKept.refl _
        · refine MKept.trans ?_ State.laneEvent_mk
          refine MKept.trans ?_ (MKept.put (by decide))
          refine MKept.trans ?_ State.putL3_mk
          refine MKept.ite ?_ ?_
          · refine MKept.trans ?_ State.laneEvent_mk
            refine MKept.ite ?_ ?_
            · refine MKept.trans ?_ State.putLane_mk
              refine MKept.trans ?_ (MKept.inc (by decide))
              refine MKept.trans ?_ State.putL3_mk
              exact MKept.refl _
            · refine MKept.trans ?_ State.addDue_mk
              refine MKept.trans ?_ State.putLane_mk
              refine MKept.trans ?_ (MKept.inc (by decide))
              refine MKept.trans ?_ State.putL3_mk
              exact MKept.refl _
          · refine MKept.ite ?_ ?_
            · refine MKept.trans ?_ State.putLane_mk
              refine MKept.trans ?_ (MKept.inc (by decide))
              refine MKept.trans ?_ State.putL3_mk
              exact MKept.refl _
            · refine MKept.trans ?_ State.addDue_mk
              refine MKept.trans ?_ State.putLane_mk
              refine MKept.trans ?_ (MKept.inc (by decide))
              refine MKept.trans ?_ State.putL3_mk
              exact MKept.refl _
    · refine MKept.ite ?_ ?_
      · refine MKept.trans ?_ State.laneEvent_mk
        refine MKept.ite ?_ ?_
        · refine MKept.trans ?_ State.putLane_mk
          refine MKept.trans ?_ (MKept.inc (by decide))
          refine MKept.trans ?_ State.putL3_mk
          exact MKept.refl _
        · refine MKept.trans ?_ State.addDue_mk
          refine MKept.trans ?_ State.putLane_mk
          refine MKept.trans ?_ (MKept.inc (by decide))
          refine MKept.trans ?_ State.putL3_mk
          exact MKept.refl _
      · refine MKept.ite ?_ ?_
        · refine MKept.trans ?_ State.putLane_mk
          refine MKept.trans ?_ (MKept.inc (by decide))
          refine MKept.trans ?_ State.putL3_mk
          exact MKept.refl _
        · refine MKept.trans ?_ State.addDue_mk
          refine MKept.trans ?_ State.putLane_mk
          refine MKept.trans ?_ (MKept.inc (by decide))
          refine MKept.trans ?_ State.putL3_mk
          exact MKept.refl _

theorem State.l3Good_mk {a0 : _} {a1 : _} {a2 : _} {a3 : _} {a4 : _} : MKept a0 (@State.l3Good a0 a1 a2 a3 a4) := by
  unfold State.l3Good
  dsimp only
  refine MKept.trans ?_ State.showL3_mk
  refine MKept.ite ?_ ?_
  · refine MKept.ite ?_ ?_
    · refine MKept.trans ?_ State.putLane_mk
      refine MKept.trans ?_ (MKept.put (by decide))
      refine MKept.ite ?_ ?_
      · refine MKept.trans ?_ State.oweErr_mk
        refine MKept.trans ?_ State.laneEvent_mk
        refine MKept.trans ?_ State.putL3_mk
        refine MKept.ite ?_ ?_
        · refine MKept.ite ?_ ?_
          · refine MKept.trans ?_ State.laneEvent_mk
            refine MKept.ite ?_ ?_
            · refine MKept.trans ?_ (MKept.put (by decide))
              refine MKept.trans ?_ (MKept.put (by decide))
              refine MKept.trans ?_ (MKept.put (by decide))
              refine MKept.trans ?_ State.putLane_mk
              refine MKept.trans ?_ State.putHolder_mk
              refine MKept.trans ?_ State.putL3_mk
              exact MKept.refl _
            · refine MKept.trans ?_ (MKept.put (by decide))
              refine MKept.trans ?_ (MKept.put (by decide))
              refine MKept.trans ?_ State.putLane_mk
              refine MKept.trans ?_ State.putHolder_mk
              refine MKept.trans ?_ State.putL3_mk
              exact MKept.refl _
          · refine MKept.ite ?_ ?_
            · refine MKept.trans ?_ (MKept.put (by decide))
              refine MKept.trans ?_ (MKept.put (by decide))
              refine MKept.trans ?_ (MKept.put (by decide))
              refine MKept.trans ?_ State.putLane_mk
              refine MKept.trans ?_ State.putHolder_mk
              refine MKept.trans ?_ State.putL3_mk
              exact MKept.refl _
            · refine MKept.trans ?_ (MKept.put (by decide))
              refine MKept.trans ?_ (MKept.put (by decide))
              refine MKept.trans ?_ State.putLane_mk
              refine MKept.trans ?_ State.putHolder_mk
              refine MKept.trans ?_ State.putL3_mk
              exact MKept.refl _
        · refine MKept.trans ?_ State.addDue_mk
          refine MKept.ite ?_ ?_
          · refine MKept.trans ?_ State.laneEvent_mk
            refine MKept.ite ?_ ?_
            · refine MKept.trans ?_ (MKept.put (by decide))
              refine MKept.trans ?_ (MKept.put (by decide))
              refine MKept.trans ?_ (MKept.put (by decide))
              refine MKept.trans ?_ State.putLane_mk
              refine MKept.trans ?_ State.putHolder_mk
              refine MKept.trans ?_ State.putL3_mk
              exact MKept.refl _
            · refine MKept.trans ?_ (MKept.put (by decide))
              refine MKept.trans ?_ (MKept.put (by decide))
              refine MKept.trans ?_ State.putLane_mk
              refine MKept.trans ?_ State.putHolder_mk
              refine MKept.trans ?_ State.putL3_mk
              exact MKept.refl _
          · refine MKept.ite ?_ ?_
            · refine MKept.trans ?_ (MKept.put (by decide))
              refine MKept.trans ?_ (MKept.put (by decide))
              refine MKept.trans ?_ (MKept.put (by decide))
              refine MKept.trans ?_ State.putLane_mk
              refine MKept.trans ?_ State.putHolder_mk
              refine MKept.trans ?_ State.putL3_mk
              exact MKept.refl _
            · refine MKept.trans ?_ (MKept.put (by decide))
              refine MKept.trans ?_ (MKept.put (by decide))
              refine MKept.trans ?_ State.putLane_mk
              refine MKept.trans ?_ State.putHolder_mk
              refine MKept.trans ?_ State.putL3_mk
              exact MKept.refl _
      · refine MKept.trans ?_ State.putL3_mk
        refine MKept.ite ?_ ?_
        · refine MKept.ite ?_ ?_
          · refine MKept.trans ?_ State.laneEvent_mk
            refine MKept.ite ?_ ?_
            · refine MKept.trans ?_ (MKept.put (by decide))
              refine MKept.trans ?_ (MKept.put (by decide))
              refine MKept.trans ?_ (MKept.put (by decide))
              refine MKept.trans ?_ State.putLane_mk
              refine MKept.trans ?_ State.putHolder_mk
              refine MKept.trans ?_ State.putL3_mk
              exact MKept.refl _
            · refine MKept.trans ?_ (MKept.put (by decide))
              refine MKept.trans ?_ (MKept.put (by decide))
              refine MKept.trans ?_ State.putLane_mk
              refine MKept.trans ?_ State.putHolder_mk
              refine MKept.trans ?_ State.putL3_mk
              exact MKept.refl _
          · refine MKept.ite ?_ ?_
            · refine MKept.trans ?_ (MKept.put (by decide))
              refine MKept.trans ?_ (MKept.put (by decide))
              refine MKept.trans ?_ (MKept.put (by decide))
              refine MKept.trans ?_ State.putLane_mk
              refine MKept.trans ?_ State.putHolder_mk
              refine MKept.trans ?_ State.putL3_mk
              exact MKept.refl _
            · refine MKept.trans ?_ (MKept.put (by decide))
              refine MKept.trans ?_ (MKept.put (by decide))
              refine MKept.trans ?_ State.putLane_mk
              refine MKept.trans ?_ State.putHolder_mk
              refine MKept.trans ?_ State.putL3_mk
              exact MKept.refl _
        · refine MKept.trans ?_ State.addDue_mk
          refine MKept.ite ?_ ?_
          · refine MKept.trans ?_ State.laneEvent_mk
            refine MKept.ite ?_ ?_
            · refine MKept.trans ?_ (MKept.put (by decide))
              refine MKept.trans ?_ (MKept.put (by decide))
              refine MKept.trans ?_ (MKept.put (by decide))
              refine MKept.trans ?_ State.putLane_mk
              refine MKept.trans ?_ State.putHolder_mk
              refine MKept.trans ?_ State.putL3_mk
              exact MKept.refl _
            · refine MKept.trans ?_ (MKept.put (by decide))
              refine MKept.trans ?_ (MKept.put (by decide))
              refine MKept.trans ?_ State.putLane_mk
              refine MKept.trans ?_ State.putHolder_mk
              refine MKept.trans ?_ State.putL3_mk
              exact MKept.refl _
          · refine MKept.ite ?_ ?_
            · refine MKept.trans ?_ (MKept.put (by decide))
              refine MKept.trans ?_ (MKept.put (by decide))
              refine MKept.trans ?_ (MKept.put (by decide))
              refine MKept.trans ?_ State.putLane_mk
              refine MKept.trans ?_ State.putHolder_mk
              refine MKept.trans ?_ State.putL3_mk
              exact MKept.refl _
            · refine MKept.trans ?_ (MKept.put (by decide))
              refine MKept.trans ?_ (MKept.put (by decide))
              refine MKept.trans ?_ State.putLane_mk
              refine MKept.trans ?_ State.putHolder_mk
              refine MKept.trans ?_ State.putL3_mk
              exact MKept.refl _
    · refine MKept.ite ?_ ?_
      · refine MKept.trans ?_ State.oweErr_mk
        refine MKept.trans ?_ State.laneEvent_mk
        refine MKept.trans ?_ State.putL3_mk
        refine MKept.ite ?_ ?_
        · refine MKept.ite ?_ ?_
          · refine MKept.trans ?_ State.laneEvent_mk
            refine MKept.ite ?_ ?_
            · refine MKept.trans ?_ (MKept.put (by decide))
              refine MKept.trans ?_ (MKept.put (by decide))
              refine MKept.trans ?_ (MKept.put (by decide))
              refine MKept.trans ?_ State.putLane_mk
              refine MKept.trans ?_ State.putHolder_mk
              refine MKept.trans ?_ State.putL3_mk
              exact MKept.refl _
            · refine MKept.trans ?_ (MKept.put (by decide))
              refine MKept.trans ?_ (MKept.put (by decide))
              refine MKept.trans ?_ State.putLane_mk
              refine MKept.trans ?_ State.putHolder_mk
              refine MKept.trans ?_ State.putL3_mk
              exact MKept.refl _
          · refine MKept.ite ?_ ?_
            · refine MKept.trans ?_ (MKept.put (by decide))
              refine MKept.trans ?_ (MKept.put (by decide))
              refine MKept.trans ?_ (MKept.put (by decide))
              refine MKept.trans ?_ State.putLane_mk
              refine MKept.trans ?_ State.putHolder_mk
              refine MKept.trans ?_ State.putL3_mk
              exact MKept.refl _
            · refine MKept.trans ?_ (MKept.put (by decide))
              refine MKept.trans ?_ (MKept.put (by decide))
              refine MKept.trans ?_ State.putLane_mk
              refine MKept.trans ?_ State.putHolder_mk
              refine MKept.trans ?_ State.putL3_mk
              exact MKept.refl _
        · refine MKept.trans ?_ State.addDue_mk
          refine MKept.ite ?_ ?_
          · refine MKept.trans ?_ State.laneEvent_mk
            refine MKept.ite ?_ ?_
            · refine MKept.trans ?_ (MKept.put (by decide))
              refine MKept.trans ?_ (MKept.put (by decide))
              refine MKept.trans ?_ (MKept.put (by decide))
              refine MKept.trans ?_ State.putLane_mk
              refine MKept.trans ?_ State.putHolder_mk
              refine MKept.trans ?_ State.putL3_mk
              exact MKept.refl _
            · refine MKept.trans ?_ (MKept.put (by decide))
              refine MKept.trans ?_ (MKept.put (by decide))
              refine MKept.trans ?_ State.putLane_mk
              refine MKept.trans ?_ State.putHolder_mk
              refine MKept.trans ?_ State.putL3_mk
              exact MKept.refl _
          · refine MKept.ite ?_ ?_
            · refine MKept.trans ?_ (MKept.put (by decide))
              refine MKept.trans ?_ (MKept.put (by decide))
              refine MKept.trans ?_ (MKept.put (by decide))
              refine MKept.trans ?_ State.putLane_mk
              refine MKept.trans ?_ State.putHolder_mk
              refine MKept.trans ?_ State.putL3_mk
              exact MKept.refl _
            · refine MKept.trans ?_ (MKept.put (by decide))
              refine MKept.trans ?_ (MKept.put (by decide))
              refine MKept.trans ?_ State.putLane_mk
              refine MKept.trans ?_ State.putHolder_mk
              refine MKept.trans ?_ State.putL3_mk
              exact MKept.refl _
      · refine MKept.trans ?_ State.putL3_mk
        refine MKept.ite ?_ ?_
        · refine MKept.ite ?_ ?_
          · refine MKept.trans ?_ State.laneEvent_mk
            refine MKept.ite ?_ ?_
            · refine MKept.trans ?_ (MKept.put (by decide))
              refine MKept.trans ?_ (MKept.put (by decide))
              refine MKept.trans ?_ (MKept.put (by decide))
              refine MKept.trans ?_ State.putLane_mk
              refine MKept.trans ?_ State.putHolder_mk
              refine MKept.trans ?_ State.putL3_mk
              exact MKept.refl _
            · refine MKept.trans ?_ (MKept.put (by decide))
              refine MKept.trans ?_ (MKept.put (by decide))
              refine MKept.trans ?_ State.putLane_mk
              refine MKept.trans ?_ State.putHolder_mk
              refine MKept.trans ?_ State.putL3_mk
              exact MKept.refl _
          · refine MKept.ite ?_ ?_
            · refine MKept.trans ?_ (MKept.put (by decide))
              refine MKept.trans ?_ (MKept.put (by decide))
              refine MKept.trans ?_ (MKept.put (by decide))
              refine MKept.trans ?_ State.putLane_mk
              refine MKept.trans ?_ State.putHolder_mk
              refine MKept.trans ?_ State.putL3_mk
              exact MKept.refl _
            · refine MKept.trans ?_ (MKept.put (by decide))
              refine MKept.trans ?_ (MKept.put (by decide))
              refine MKept.trans ?_ State.putLane_mk
              refine MKept.trans ?_ State.putHolder_mk
              refine MKept.trans ?_ State.putL3_mk
              exact MKept.refl _
        · refine MKept.trans ?_ State.addDue_mk
          refine MKept.ite ?_ ?_
          · refine MKept.trans ?_ State.laneEvent_mk
            refine MKept.ite ?_ ?_
            · refine MKept.trans ?_ (MKept.put (by decide))
              refine MKept.trans ?_ (MKept.put (by decide))
              refine MKept.trans ?_ (MKept.put (by decide))
              refine MKept.trans ?_ State.putLane_mk
              refine MKept.trans ?_ State.putHolder_mk
              refine MKept.trans ?_ State.putL3_mk
              exact MKept.refl _
            · refine MKept.trans ?_ (MKept.put (by decide))
              refine MKept.trans ?_ (MKept.put (by decide))
              refine MKept.trans ?_ State.putLane_mk
              refine MKept.trans ?_ State.putHolder_mk
              refine MKept.trans ?_ State.putL3_mk
              exact MKept.refl _
          · refine MKept.ite ?_ ?_
            · refine MKept.trans ?_ (MKept.put (by decide))
              refine MKept.trans ?_ (MKept.put (by decide))
              refine MKept.trans ?_ (MKept.put (by decide))
              refine MKept.trans ?_ State.putLane_mk
              refine MKept.trans ?_ State.putHolder_mk
              refine MKept.trans ?_ State.putL3_mk
              exact MKept.refl _
            · refine MKept.trans ?_ (MKept.put (by decide))
              refine MKept.trans ?_ (MKept.put (by decide))
              refine MKept.trans ?_ State.putLane_mk
              refine MKept.trans ?_ State.putHolder_mk
              refine MKept.trans ?_ State.putL3_mk
              exact MKept.refl _
  · refine MKept.ite ?_ ?_
    · refine MKept.ite ?_ ?_
      · refine MKept.trans ?_ State.laneEvent_mk
        refine MKept.ite ?_ ?_
        · refine MKept.trans ?_ (MKept.put (by decide))
          refine MKept.trans ?_ (MKept.put (by decide))
          refine MKept.trans ?_ (MKept.put (by decide))
          refine MKept.trans ?_ State.putLane_mk
          refine MKept.trans ?_ State.putHolder_mk
          refine MKept.trans ?_ State.putL3_mk
          exact MKept.refl _
        · refine MKept.trans ?_ (MKept.put (by decide))
          refine MKept.trans ?_ (MKept.put (by decide))
          refine MKept.trans ?_ State.putLane_mk
          refine MKept.trans ?_ State.putHolder_mk
          refine MKept.trans ?_ State.putL3_mk
          exact MKept.refl _
      · refine MKept.ite ?_ ?_
        · refine MKept.trans ?_ (MKept.put (by decide))
          refine MKept.trans ?_ (MKept.put (by decide))
          refine MKept.trans ?_ (MKept.put (by decide))
          refine MKept.trans ?_ State.putLane_mk
          refine MKept.trans ?_ State.putHolder_mk
          refine MKept.trans ?_ State.putL3_mk
          exact MKept.refl _
        · refine MKept.trans ?_ (MKept.put (by decide))
          refine MKept.trans ?_ (MKept.put (by decide))
          refine MKept.trans ?_ State.putLane_mk
          refine MKept.trans ?_ State.putHolder_mk
          refine MKept.trans ?_ State.putL3_mk
          exact MKept.refl _
    · refine MKept.trans ?_ State.addDue_mk
      refine MKept.ite ?_ ?_
      · refine MKept.trans ?_ State.laneEvent_mk
        refine MKept.ite ?_ ?_
        · refine MKept.trans ?_ (MKept.put (by decide))
          refine MKept.trans ?_ (MKept.put (by decide))
          refine MKept.trans ?_ (MKept.put (by decide))
          refine MKept.trans ?_ State.putLane_mk
          refine MKept.trans ?_ State.putHolder_mk
          refine MKept.trans ?_ State.putL3_mk
          exact MKept.refl _
        · refine MKept.trans ?_ (MKept.put (by decide))
          refine MKept.trans ?_ (MKept.put (by decide))
          refine MKept.trans ?_ State.putLane_mk
          refine MKept.trans ?_ State.putHolder_mk
          refine MKept.trans ?_ State.putL3_mk
          exact MKept.refl _
      · refine MKept.ite ?_ ?_
        · refine MKept.trans ?_ (MKept.put (by decide))
          refine MKept.trans ?_ (MKept.put (by decide))
          refine MKept.trans ?_ (MKept.put (by decide))
          refine MKept.trans ?_ State.putLane_mk
          refine MKept.trans ?_ State.putHolder_mk
          refine MKept.trans ?_ State.putL3_mk
          exact MKept.refl _
        · refine MKept.trans ?_ (MKept.put (by decide))
          refine MKept.trans ?_ (MKept.put (by decide))
          refine MKept.trans ?_ State.putLane_mk
          refine MKept.trans ?_ State.putHolder_mk
          refine MKept.trans ?_ State.putL3_mk
          exact MKept.refl _

theorem execL3ResponseReceive_mk {a0 : _} {a1 : _} {a2 : _} {a3 : _} {a4 : _} {a5 : _} {a6 : _} {a7 : _} {a8 : _} {t : State} (h : (@execL3ResponseReceive a0 a1 a2 a3 a4 a5 a6 a7 a8) = .next t) : MKept a6 t := by
  unfold execL3ResponseReceive at h
  injection h with h
  subst h
  refine MKept.ite ?_ ?_
  · exact MKept.refl _
  · refine MKept.ite ?_ ?_
    · refine MKept.trans ?_ State.l3Good_mk
      exact MKept.refl _
    · refine MKept.trans ?_ State.l3Stale_mk
      exact MKept.refl _

theorem execL3ResponseTimeout_mk {a0 : _} {a1 : _} {a2 : _} {a3 : _} {t : State} (h : (@execL3ResponseTimeout a0 a1 a2 a3) = .next t) : MKept a3 t := by
  unfold execL3ResponseTimeout at h
  injection h with h
  subst h
  refine MKept.ite ?_ ?_
  · exact MKept.refl _
  · refine MKept.trans ?_ State.l3Stale_mk
    exact MKept.refl _

theorem State.wslFrame_mk {a0 : _} {a1 : _} {a2 : _} {a3 : _} {a4 : _} : MKept a0 (@State.wslFrame a0 a1 a2 a3 a4) := by
  unfold State.wslFrame
  dsimp only
  refine MKept.ite ?_ ?_
  · exact MKept.refl _
  · refine MKept.ite ?_ ?_
    · refine MKept.trans ?_ State.putWsl_mk
      exact MKept.refl _
    · refine MKept.ite ?_ ?_
      · exact MKept.refl _
      · refine MKept.ite ?_ ?_
        · refine MKept.trans ?_ State.putWsl_mk
          exact MKept.refl _
        · refine MKept.ite ?_ ?_
          · exact MKept.refl _
          · refine MKept.ite ?_ ?_
            · exact MKept.refl _
            · refine MKept.ite ?_ ?_
              · refine MKept.trans ?_ (MKept.inc (by decide))
                exact MKept.refl _
              · refine MKept.ite ?_ ?_
                · refine MKept.trans ?_ State.putWsl_mk
                  exact MKept.refl _
                · refine MKept.trans ?_ State.putWsl_mk
                  exact MKept.refl _

theorem execWslFrameReceive_mk {a0 : _} {a1 : _} {a2 : _} {a3 : _} {a4 : _} {t : State} (h : (@execWslFrameReceive a0 a1 a2 a3 a4) = .next t) : MKept a3 t := by
  unfold execWslFrameReceive at h
  injection h with h
  subst h
  refine MKept.trans ?_ State.wslFrame_mk
  exact MKept.refl _

theorem State.wslGood_mk {a0 : _} {a1 : _} : MKept a0 (@State.wslGood a0 a1) := by
  unfold State.wslGood
  dsimp only
  refine MKept.ite ?_ ?_
  · refine MKept.trans ?_ State.oweErr_mk
    refine MKept.trans ?_ State.raiseWsl_mk
    refine MKept.trans ?_ (MKept.put (by decide))
    refine MKept.trans ?_ State.putWsl_mk
    refine MKept.trans ?_ State.addDue_mk
    refine MKept.trans ?_ State.putWsl_mk
    exact MKept.refl _
  · refine MKept.ite ?_ ?_
    · refine MKept.trans ?_ State.addDue_mk
      refine MKept.trans ?_ State.putWsl_mk
      exact MKept.refl _
    · refine MKept.trans ?_ (MKept.put (by decide))
      refine MKept.trans ?_ State.putWsl_mk
      refine MKept.trans ?_ State.addDue_mk
      refine MKept.trans ?_ State.putWsl_mk
      exact MKept.refl _

theorem State.wslStale_mk {a0 : _} {a1 : _} {a2 : _} : MKept a0 (@State.wslStale a0 a1 a2) := by
  unfold State.wslStale
  dsimp only
  refine MKept.ite ?_ ?_
  · refine MKept.trans ?_ State.addDue_mk
    refine MKept.trans ?_ State.putWsl_mk
    exact MKept.refl _
  · refine MKept.ite ?_ ?_
    · refine MKept.trans ?_ State.oweErr_mk
      refine MKept.trans ?_ State.raiseWsl_mk
      refine MKept.trans ?_ (MKept.put (by decide))
      refine MKept.trans ?_ State.putWsl_mk
      refine MKept.trans ?_ (MKept.put (by decide))
      refine MKept.ite ?_ ?_
      · refine MKept.trans ?_ State.raiseWsl_mk
        refine MKept.trans ?_ State.addDue_mk
        refine MKept.trans ?_ State.putWsl_mk
        exact MKept.refl _
      · refine MKept.trans ?_ State.addDue_mk
        refine MKept.trans ?_ State.putWsl_mk
        exact MKept.refl _
    · refine MKept.trans ?_ (MKept.put (by decide))
      refine MKept.ite ?_ ?_
      · refine MKept.trans ?_ State.raiseWsl_mk
        refine MKept.trans ?_ State.addDue_mk
        refine MKept.trans ?_ State.putWsl_mk
        exact MKept.refl _
      · refine MKept.trans ?_ State.addDue_mk
        refine MKept.trans ?_ State.putWsl_mk
        exact MKept.refl _

theorem State.wslDeadline_mk {a0 : _} {a1 : _} : MKept a0 (@State.wslDeadline a0 a1) := by
  unfold State.wslDeadline
  dsimp only
  refine MKept.ite ?_ ?_
  · exact MKept.refl _
  · refine MKept.ite ?_ ?_
    · exact MKept.refl _
    · refine MKept.ite ?_ ?_
      · refine MKept.trans ?_ State.wslGood_mk
        exact MKept.refl _
      · refine MKept.trans ?_ State.wslStale_mk
        exact MKept.refl _

theorem execWslExchangeDeadline_mk {a0 : _} {a1 : _} {t : State} (h : (@execWslExchangeDeadline a0 a1) = .next t) : MKept a1 t := by
  unfold execWslExchangeDeadline at h
  injection h with h
  subst h
  refine MKept.trans ?_ State.wslDeadline_mk
  exact MKept.refl _

theorem execWslGateOpen_mk {a0 : _} {a1 : _} {t : State} (h : (@execWslGateOpen a0 a1) = .next t) : MKept a1 t := by
  unfold execWslGateOpen at h
  injection h with h
  subst h
  refine MKept.ite ?_ ?_
  · refine MKept.mkUpd ?_
    exact MKept.refl _
  · exact MKept.refl _

theorem execWslGateClose_mk {a0 : _} {a1 : _} {a2 : _} {t : State} (h : (@execWslGateClose a0 a1 a2) = .next t) : MKept a2 t := by
  unfold execWslGateClose at h
  injection h with h
  subst h
  refine MKept.ite ?_ ?_
  · exact MKept.refl _
  · dsimp only
    split
    · rename_i v0 v1 v2
      refine MKept.trans ?_ (MKept.add (by decide))
      refine MKept.mkUpd ?_
      exact MKept.refl _
    · rename_i v3 v4
      refine MKept.mkUpd ?_
      exact MKept.refl _

theorem State.emitLanes_mk {a0 : _} : MKept a0 (@State.emitLanes a0) := by
  unfold State.emitLanes
  refine MKept.ite ?_ ?_
  · refine MKept.mkUpd ?_
    exact MKept.refl _
  · dsimp only
    refine MKept.mkUpd ?_
    exact MKept.refl _

theorem State.emitForwarded_mk {a0 : _} {a1 : _} : MKept a0 (@State.emitForwarded a0 a1) := by
  unfold State.emitForwarded
  dsimp only
  refine MKept.mkUpd ?_
  exact MKept.refl _

theorem State.emitWsl_mk {a0 : _} : MKept a0 (@State.emitWsl a0) := by
  unfold State.emitWsl
  dsimp only
  refine MKept.ite ?_ ?_
  · refine MKept.mkUpd ?_
    exact MKept.refl _
  · refine MKept.foldl ?_ (fun v0 v1 => ?_)
    · refine MKept.mkUpd ?_
      exact MKept.refl _
    · refine MKept.ite ?_ ?_
      · refine MKept.mkUpd ?_
        refine MKept.trans ?_ State.putWsl_mk
        exact MKept.refl _
      · exact MKept.refl _

theorem State.putCap_mk {a0 : _} {a1 : _} : MKept a0 (@State.putCap a0 a1) := by
  unfold State.putCap
  refine MKept.mkUpd ?_
  exact MKept.refl _

theorem State.wireEnds_mk {a0 : _} {a1 : _} : MKept a0 (@State.wireEnds a0 a1) := by
  unfold State.wireEnds
  dsimp only
  refine MKept.ite ?_ ?_
  · refine MKept.trans ?_ State.raise_mk
    refine MKept.trans ?_ (MKept.put (by decide))
    refine MKept.ite ?_ ?_
    · refine MKept.trans ?_ State.raise_mk
      refine MKept.trans ?_ (MKept.put (by decide))
      exact MKept.refl _
    · exact MKept.refl _
  · refine MKept.ite ?_ ?_
    · refine MKept.trans ?_ State.raise_mk
      refine MKept.trans ?_ (MKept.put (by decide))
      exact MKept.refl _
    · exact MKept.refl _

theorem State.dioDrive_mk {a0 : _} {a1 : _} {a2 : _} : MKept a0 (@State.dioDrive a0 a1 a2) := by
  unfold State.dioDrive
  dsimp only
  refine MKept.trans ?_ State.putDio_mk
  refine MKept.ite ?_ ?_
  · refine MKept.trans ?_ State.wireEnds_mk
    exact MKept.refl _
  · exact MKept.refl _

theorem State.aoDrive_mk {a0 : _} {a1 : _} {a2 : _} {a3 : _} : MKept a0 (@State.aoDrive a0 a1 a2 a3) := by
  unfold State.aoDrive
  dsimp only
  refine MKept.ite ?_ ?_
  · refine MKept.trans ?_ (MKept.put (by decide))
    refine MKept.trans ?_ State.putAo_mk
    exact MKept.refl _
  · refine MKept.trans ?_ (MKept.putFlag (by decide))
    refine MKept.trans ?_ State.putAo_mk
    refine MKept.ite ?_ ?_
    · refine MKept.trans ?_ (MKept.put (by decide))
      exact MKept.refl _
    · exact MKept.refl _

theorem State.aoSafeState_mk {a0 : _} {a1 : _} : MKept a0 (@State.aoSafeState a0 a1) := by
  unfold State.aoSafeState
  split
  · rename_i v0 v1
    refine MKept.trans ?_ State.aoDrive_mk
    exact MKept.refl _
  · rename_i v2 v3
    refine MKept.trans ?_ State.aoDrive_mk
    exact MKept.refl _
  · rename_i v4 v5 v6
    refine MKept.trans ?_ State.aoDrive_mk
    exact MKept.refl _

theorem State.fieldSafe_mk {a0 : _} : MKept a0 (@State.fieldSafe a0) := by
  unfold State.fieldSafe
  dsimp only
  refine MKept.foldl ?_ (fun v0 v1 => ?_)
  · refine MKept.foldl ?_ (fun v2 v3 => ?_)
    · exact MKept.refl _
    · refine MKept.trans ?_ State.dioDrive_mk
      exact MKept.refl _
  · refine MKept.trans ?_ State.aoSafeState_mk
    exact MKept.refl _

theorem State.fieldApply_mk {a0 : _} {a1 : _} : MKept a0 (@State.fieldApply a0 a1) := by
  unfold State.fieldApply
  dsimp only
  refine MKept.foldl ?_ (fun v0 v1 => ?_)
  · refine MKept.foldl ?_ (fun v2 v3 => ?_)
    · exact MKept.refl _
    · split
      · rename_i v4 v5 v6
        split
        · rename_i v7 v8 v9
          refine MKept.trans ?_ State.dioDrive_mk
          refine MKept.trans ?_ State.putDio_mk
          exact MKept.refl _
        · rename_i v10 v11
          refine MKept.trans ?_ State.dioDrive_mk
          exact MKept.refl _
      · rename_i v12 v13
        refine MKept.trans ?_ State.dioDrive_mk
        exact MKept.refl _
  · split
    · rename_i v14 v15 v16
      split
      · rename_i v17 v18 v19
        refine MKept.trans ?_ State.aoDrive_mk
        exact MKept.refl _
      · rename_i v20 v21
        refine MKept.trans ?_ State.aoSafeState_mk
        exact MKept.refl _
    · rename_i v22 v23
      refine MKept.trans ?_ State.aoDrive_mk
      exact MKept.refl _

theorem State.armLatches_mk {a0 : _} {a1 : _} : MKept a0 (@State.armLatches a0 a1) := by
  unfold State.armLatches
  refine MKept.mkUpd ?_
  exact MKept.refl _

theorem State.fieldSilent_mk {a0 : _} : MKept a0 (@State.fieldSilent a0) := by
  unfold State.fieldSilent
  refine MKept.ite ?_ ?_
  · exact MKept.refl _
  · dsimp only
    refine MKept.trans ?_ State.fieldSafe_mk
    refine MKept.trans ?_ State.raise_mk
    refine MKept.trans ?_ (MKept.inc (by decide))
    refine MKept.trans ?_ (MKept.put (by decide))
    refine MKept.mkUpd ?_
    exact MKept.refl _

theorem State.dioSample_mk {a0 : _} {a1 : _} {a2 : _} : MKept a0 (@State.dioSample a0 a1 a2) := by
  unfold State.dioSample
  dsimp only
  refine MKept.ite ?_ ?_
  · refine MKept.trans ?_ (MKept.putFlag (by decide))
    exact MKept.refl _
  · refine MKept.ite ?_ ?_
    · refine MKept.trans ?_ State.putDio_mk
      exact MKept.refl _
    · refine MKept.ite ?_ ?_
      · refine MKept.trans ?_ (MKept.putFlag (by decide))
        refine MKept.trans ?_ State.putDio_mk
        exact MKept.refl _
      · refine MKept.trans ?_ State.putDio_mk
        exact MKept.refl _

theorem State.aoSample_mk {a0 : _} {a1 : _} {a2 : _} {a3 : _} : MKept a0 (@State.aoSample a0 a1 a2 a3) := by
  unfold State.aoSample
  dsimp only
  refine MKept.ite ?_ ?_
  · refine MKept.trans ?_ (MKept.put (by decide))
    refine MKept.ite ?_ ?_
    · refine MKept.trans ?_ (MKept.put (by decide))
      refine MKept.trans ?_ State.putAo_mk
      refine MKept.trans ?_ (MKept.put (by decide))
      refine MKept.trans ?_ (MKept.put (by decide))
      exact MKept.refl _
    · refine MKept.trans ?_ State.putAo_mk
      refine MKept.trans ?_ (MKept.put (by decide))
      refine MKept.trans ?_ (MKept.put (by decide))
      exact MKept.refl _
  · refine MKept.ite ?_ ?_
    · refine MKept.trans ?_ (MKept.put (by decide))
      refine MKept.trans ?_ State.putAo_mk
      refine MKept.trans ?_ (MKept.put (by decide))
      refine MKept.trans ?_ (MKept.put (by decide))
      exact MKept.refl _
    · refine MKept.trans ?_ State.putAo_mk
      refine MKept.trans ?_ (MKept.put (by decide))
      refine MKept.trans ?_ (MKept.put (by decide))
      exact MKept.refl _

theorem State.encPresets_mk {a0 : _} : MKept a0 (@State.encPresets a0) := by
  unfold State.encPresets
  dsimp only
  refine MKept.mkUpd ?_
  refine MKept.foldl ?_ (fun v0 v1 => ?_)
  · exact MKept.refl _
  · refine MKept.trans ?_ (MKept.put (by decide))
    refine MKept.trans ?_ (MKept.put (by decide))
    refine MKept.trans ?_ (MKept.put (by decide))
    exact MKept.refl _

theorem State.capsToImage_mk {a0 : _} : MKept a0 (@State.capsToImage a0) := by
  unfold State.capsToImage
  refine MKept.foldl ?_ (fun v0 v1 => ?_)
  · exact MKept.refl _
  · dsimp only
    refine MKept.ite ?_ ?_
    · refine MKept.trans ?_ State.putCap_mk
      exact MKept.refl _
    · refine MKept.ite ?_ ?_
      · refine MKept.trans ?_ State.raise_mk
        refine MKept.trans ?_ State.putCap_mk
        exact MKept.refl _
      · refine MKept.trans ?_ State.raise_mk
        refine MKept.trans ?_ State.putCap_mk
        exact MKept.refl _

theorem State.fieldEdge_mk {a0 : _} {a1 : _} : MKept a0 (@State.fieldEdge a0 a1) := by
  unfold State.fieldEdge
  dsimp only
  refine MKept.mkUpd ?_
  refine MKept.trans ?_ State.capsToImage_mk
  refine MKept.foldl ?_ (fun v0 v1 => ?_)
  · refine MKept.foldl ?_ (fun v2 v3 => ?_)
    · split
      · rename_i v4 v5 v6
        refine MKept.ite ?_ ?_
        · refine MKept.ite ?_ ?_
          · refine MKept.trans ?_ State.fieldSafe_mk
            refine MKept.mkUpd ?_
            refine MKept.trans ?_ State.encPresets_mk
            exact MKept.refl _
          · refine MKept.trans ?_ State.fieldApply_mk
            refine MKept.mkUpd ?_
            refine MKept.trans ?_ State.encPresets_mk
            exact MKept.refl _
        · refine MKept.trans ?_ State.fieldOff_mk
          refine MKept.mkUpd ?_
          refine MKept.trans ?_ State.encPresets_mk
          exact MKept.refl _
      · rename_i v7 v8
        refine MKept.ite ?_ ?_
        · refine MKept.trans ?_ State.fieldSilent_mk
          refine MKept.trans ?_ State.encPresets_mk
          exact MKept.refl _
        · refine MKept.ite ?_ ?_
          · refine MKept.trans ?_ State.fieldOff_mk
            refine MKept.trans ?_ State.encPresets_mk
            exact MKept.refl _
          · refine MKept.trans ?_ State.encPresets_mk
            exact MKept.refl _
    · refine MKept.trans ?_ State.dioSample_mk
      exact MKept.refl _
  · refine MKept.ite ?_ ?_
    · exact MKept.refl _
    · refine MKept.trans ?_ State.aoSample_mk
      exact MKept.refl _

theorem State.fieldFails_mk {a0 : _} {a1 : _} : MKept a0 (@State.fieldFails a0 a1) := by
  unfold State.fieldFails
  refine MKept.ite ?_ ?_
  · exact MKept.refl _
  · dsimp only
    refine MKept.ite ?_ ?_
    · refine MKept.trans ?_ State.plan_mk
      refine MKept.foldl ?_ (fun v0 v1 => ?_)
      · refine MKept.trans ?_ State.raise_mk
        refine MKept.mkUpd ?_
        exact MKept.refl _
      · refine MKept.ite ?_ ?_
        · exact MKept.refl _
        · refine MKept.trans ?_ (MKept.put (by decide))
          exact MKept.refl _
    · refine MKept.ite ?_ ?_
      · refine MKept.trans ?_ State.cause_mk
        refine MKept.foldl ?_ (fun v2 v3 => ?_)
        · refine MKept.trans ?_ State.raise_mk
          refine MKept.mkUpd ?_
          exact MKept.refl _
        · refine MKept.ite ?_ ?_
          · exact MKept.refl _
          · refine MKept.trans ?_ (MKept.put (by decide))
            exact MKept.refl _
      · refine MKept.foldl ?_ (fun v4 v5 => ?_)
        · refine MKept.trans ?_ State.raise_mk
          refine MKept.mkUpd ?_
          exact MKept.refl _
        · refine MKept.ite ?_ ?_
          · exact MKept.refl _
          · refine MKept.trans ?_ (MKept.put (by decide))
            exact MKept.refl _

theorem State.converterBad_mk {a0 : _} : MKept a0 (@State.converterBad a0) := by
  unfold State.converterBad
  dsimp only
  refine MKept.ite ?_ ?_
  · refine MKept.trans ?_ (MKept.put (by decide))
    exact MKept.refl _
  · refine MKept.ite ?_ ?_
    · refine MKept.trans ?_ State.fieldFails_mk
      refine MKept.mkUpd ?_
      refine MKept.trans ?_ (MKept.put (by decide))
      exact MKept.refl _
    · refine MKept.mkUpd ?_
      refine MKept.trans ?_ (MKept.put (by decide))
      exact MKept.refl _

theorem execFieldSamplesCross_mk {a0 : _} {a1 : _} {t : State} (h : (@execFieldSamplesCross a0 a1) = .next t) : MKept a1 t := by
  unfold execFieldSamplesCross at h
  injection h with h
  subst h
  refine MKept.ite ?_ ?_
  · refine MKept.trans ?_ State.converterBad_mk
    refine MKept.mkUpd ?_
    exact MKept.refl _
  · dsimp only
    refine MKept.mkUpd ?_
    refine MKept.trans ?_ (MKept.put (by decide))
    refine MKept.mkUpd ?_
    exact MKept.refl _

theorem execFieldSamplesLate_mk {a0 : _} {t : State} (h : (@execFieldSamplesLate a0) = .next t) : MKept a0 t := by
  unfold execFieldSamplesLate at h
  injection h with h
  subst h
  refine MKept.ite ?_ ?_
  · refine MKept.trans ?_ State.fieldFails_mk
    refine MKept.mkUpd ?_
    exact MKept.refl _
  · refine MKept.mkUpd ?_
    exact MKept.refl _

theorem execFieldConverter_mk {a0 : _} {t : State} (h : (@execFieldConverter a0) = .next t) : MKept a0 t := by
  unfold execFieldConverter at h
  injection h with h
  subst h
  refine MKept.trans ?_ State.converterBad_mk
  refine MKept.trans ?_ State.raise_mk
  exact MKept.refl _

theorem execFieldTimeout_mk {a0 : _} {t : State} (h : (@execFieldTimeout a0) = .next t) : MKept a0 t := by
  unfold execFieldTimeout at h
  injection h with h
  subst h
  refine MKept.ite ?_ ?_
  · refine MKept.trans ?_ State.fieldSilent_mk
    exact MKept.refl _
  · exact MKept.refl _

theorem State.dioWritten_mk {a0 : _} {a1 : _} : MKept a0 (@State.dioWritten a0 a1) := by
  unfold State.dioWritten
  dsimp only
  refine MKept.ite ?_ ?_
  · refine MKept.ite ?_ ?_
    · refine MKept.trans ?_ (MKept.put (by decide))
      refine MKept.trans ?_ (MKept.putFlag (by decide))
      refine MKept.ite ?_ ?_
      · refine MKept.trans ?_ (MKept.put (by decide))
        exact MKept.refl _
      · exact MKept.refl _
    · refine MKept.trans ?_ (MKept.putFlag (by decide))
      refine MKept.ite ?_ ?_
      · refine MKept.trans ?_ (MKept.put (by decide))
        exact MKept.refl _
      · exact MKept.refl _
  · refine MKept.trans ?_ State.wireEnds_mk
    refine MKept.ite ?_ ?_
    · refine MKept.trans ?_ (MKept.put (by decide))
      refine MKept.trans ?_ (MKept.putFlag (by decide))
      refine MKept.ite ?_ ?_
      · refine MKept.trans ?_ (MKept.put (by decide))
        exact MKept.refl _
      · exact MKept.refl _
    · refine MKept.trans ?_ (MKept.putFlag (by decide))
      refine MKept.ite ?_ ?_
      · refine MKept.trans ?_ (MKept.put (by decide))
        exact MKept.refl _
      · exact MKept.refl _

theorem State.dioTrip_mk {a0 : _} {a1 : _} {a2 : _} : MKept a0 (@State.dioTrip a0 a1 a2) := by
  unfold State.dioTrip
  dsimp only
  refine MKept.trans ?_ State.raise_mk
  refine MKept.trans ?_ State.spoilRate_mk
  refine MKept.trans ?_ (MKept.inc (by decide))
  refine MKept.trans ?_ (MKept.put (by decide))
  refine MKept.trans ?_ (MKept.put (by decide))
  refine MKept.trans ?_ State.putDio_mk
  refine MKept.foldl ?_ (fun v0 v1 => ?_)
  · exact MKept.refl _
  · refine MKept.trans ?_ State.putDio_mk
    exact MKept.refl _

theorem execDioRampAbort_mk {a0 : _} {a1 : _} {t : State} (h : (@execDioRampAbort a0 a1) = .next t) : MKept a1 t := by
  unfold execDioRampAbort at h
  injection h with h
  subst h
  refine MKept.ite ?_ ?_
  · refine MKept.trans ?_ State.dioTrip_mk
    exact MKept.refl _
  · exact MKept.refl _

theorem execDioOverloadTrip_mk {a0 : _} {a1 : _} {t : State} (h : (@execDioOverloadTrip a0 a1) = .next t) : MKept a1 t := by
  unfold execDioOverloadTrip at h
  injection h with h
  subst h
  refine MKept.ite ?_ ?_
  · refine MKept.trans ?_ State.dioTrip_mk
    exact MKept.refl _
  · exact MKept.refl _

theorem State.dioRetry_mk {a0 : _} {a1 : _} {a2 : _} : MKept a0 (@State.dioRetry a0 a1 a2) := by
  unfold State.dioRetry
  dsimp only
  refine MKept.ite ?_ ?_
  · exact MKept.refl _
  · refine MKept.ite ?_ ?_
    · refine MKept.foldl ?_ (fun v0 v1 => ?_)
      · refine MKept.trans ?_ (MKept.put (by decide))
        refine MKept.trans ?_ (MKept.put (by decide))
        exact MKept.refl _
      · refine MKept.trans ?_ State.dioDrive_mk
        exact MKept.refl _
    · refine MKept.trans ?_ State.dioTrip_mk
      refine MKept.trans ?_ (MKept.put (by decide))
      exact MKept.refl _

theorem execDioRetry_mk {a0 : _} {a1 : _} {a2 : _} {t : State} (h : (@execDioRetry a0 a1 a2) = .next t) : MKept a2 t := by
  unfold execDioRetry at h
  injection h with h
  subst h
  refine MKept.trans ?_ State.dioRetry_mk
  exact MKept.refl _

theorem execDioRetriesRestore_mk {a0 : _} {a1 : _} {t : State} (h : (@execDioRetriesRestore a0 a1) = .next t) : MKept a1 t := by
  unfold execDioRetriesRestore at h
  injection h with h
  subst h
  refine MKept.ite ?_ ?_
  · refine MKept.trans ?_ (MKept.put (by decide))
    exact MKept.refl _
  · exact MKept.refl _

theorem State.dioClear_mk {a0 : _} {a1 : _} : MKept a0 (@State.dioClear a0 a1) := by
  unfold State.dioClear
  dsimp only
  iterate 4 refine MKept.trans ?_ (MKept.put (by decide))
  exact MKept.refl _

theorem execDioOverloadClear_mk {a0 : _} {a1 : _} {a2 : _} {t : State} (h : (@execDioOverloadClear a0 a1 a2) = .next t) : MKept a2 t := by
  unfold execDioOverloadClear at h
  injection h with h
  subst h
  refine MKept.trans ?_ State.dioClear_mk
  exact MKept.refl _

theorem execDioOvertemp_mk {a0 : _} {a1 : _} {t : State} (h : (@execDioOvertemp a0 a1) = .next t) : MKept a1 t := by
  unfold execDioOvertemp at h
  injection h with h
  subst h
  refine MKept.ite ?_ ?_
  · exact MKept.refl _
  · dsimp only
    refine MKept.trans ?_ State.raise_mk
    refine MKept.trans ?_ State.spoilRate_mk
    refine MKept.trans ?_ (MKept.inc (by decide))
    refine MKept.trans ?_ (MKept.put (by decide))
    refine MKept.trans ?_ State.putDio_mk
    refine MKept.foldl ?_ (fun v0 v1 => ?_)
    · exact MKept.refl _
    · refine MKept.trans ?_ State.putDio_mk
      exact MKept.refl _

theorem execDioCooled_mk {a0 : _} {a1 : _} {t : State} (h : (@execDioCooled a0 a1) = .next t) : MKept a1 t := by
  unfold execDioCooled at h
  injection h with h
  subst h
  refine MKept.ite ?_ ?_
  · exact MKept.refl _
  · dsimp only
    refine MKept.foldl ?_ (fun v0 v1 => ?_)
    · refine MKept.trans ?_ State.putDio_mk
      exact MKept.refl _
    · refine MKept.trans ?_ State.dioDrive_mk
      exact MKept.refl _

theorem execDioWire_mk {a0 : _} {a1 : _} {a2 : _} {a3 : _} {t : State} (h : (@execDioWire a0 a1 a2 a3) = .next t) : MKept a3 t := by
  unfold execDioWire at h
  injection h with h
  subst h
  refine MKept.ite ?_ ?_
  · exact MKept.refl _
  · refine MKept.trans ?_ State.raise_mk
    refine MKept.trans ?_ (MKept.putFlag (by split <;> decide))
    refine MKept.ite ?_ ?_
    · refine MKept.trans ?_ State.spoilRate_mk
      exact MKept.refl _
    · exact MKept.refl _

theorem execDioEdge_mk {a0 : _} {a1 : _} {a2 : _} {a3 : _} {t : State} (h : (@execDioEdge a0 a1 a2 a3) = .next t) : MKept a3 t := by
  unfold execDioEdge at h
  injection h with h
  subst h
  refine MKept.ite ?_ ?_
  · exact MKept.refl _
  · dsimp only
    refine MKept.trans ?_ State.raise_mk
    refine MKept.ite ?_ ?_
    · refine MKept.trans ?_ (MKept.inc (by decide))
      exact MKept.refl _
    · exact MKept.refl _

theorem execLoadSupplyChange_mk {a0 : _} {a1 : _} {a2 : _} {t : State} (h : (@execLoadSupplyChange a0 a1 a2) = .next t) : MKept a2 t := by
  unfold execLoadSupplyChange at h
  injection h with h
  subst h
  refine MKept.ite ?_ ?_
  · exact MKept.refl _
  · dsimp only
    refine MKept.trans ?_ State.raise_mk
    refine MKept.foldl ?_ (fun v0 v1 => ?_)
    · refine MKept.trans ?_ (MKept.put (by split <;> decide))
      exact MKept.refl _
    · refine MKept.trans ?_ (MKept.putFlag (by decide))
      exact MKept.refl _

theorem execAoOpenLoop_mk {a0 : _} {a1 : _} {t : State} (h : (@execAoOpenLoop a0 a1) = .next t) : MKept a1 t := by
  unfold execAoOpenLoop at h
  injection h with h
  subst h
  refine MKept.ite ?_ ?_
  · exact MKept.refl _
  · refine MKept.trans ?_ State.raise_mk
    refine MKept.trans ?_ State.putAo_mk
    refine MKept.trans ?_ (MKept.put (by decide))
    exact MKept.refl _

theorem execAoMiswire_mk {a0 : _} {a1 : _} {a2 : _} {t : State} (h : (@execAoMiswire a0 a1 a2) = .next t) : MKept a2 t := by
  unfold execAoMiswire at h
  injection h with h
  subst h
  refine MKept.ite ?_ ?_
  · exact MKept.refl _
  · dsimp only
    refine MKept.trans ?_ State.raise_mk
    refine MKept.trans ?_ State.putAo_mk
    refine MKept.trans ?_ (MKept.put (by decide))
    refine MKept.trans ?_ (MKept.put (by decide))
    exact MKept.refl _

theorem execAoMiswireClear_mk {a0 : _} {a1 : _} {t : State} (h : (@execAoMiswireClear a0 a1) = .next t) : MKept a1 t := by
  unfold execAoMiswireClear at h
  injection h with h
  subst h
  refine MKept.ite ?_ ?_
  · exact MKept.refl _
  · dsimp only
    refine MKept.ite ?_ ?_
    · refine MKept.trans ?_ State.aoSafeState_mk
      refine MKept.trans ?_ (MKept.put (by decide))
      exact MKept.refl _
    · refine MKept.trans ?_ State.aoDrive_mk
      refine MKept.trans ?_ (MKept.put (by decide))
      exact MKept.refl _

theorem execAoReadback_mk {a0 : _} {a1 : _} {a2 : _} {t : State} (h : (@execAoReadback a0 a1 a2) = .next t) : MKept a2 t := by
  unfold execAoReadback at h
  injection h with h
  subst h
  refine MKept.ite ?_ ?_
  · exact MKept.refl _
  · dsimp only
    refine MKept.trans ?_ State.raise_mk
    refine MKept.trans ?_ State.putAo_mk
    iterate 3 refine MKept.trans ?_ (MKept.put (by decide))
    exact MKept.refl _

theorem execAoHeadroomLow_mk {a0 : _} {a1 : _} {t : State} (h : (@execAoHeadroomLow a0 a1) = .next t) : MKept a1 t := by
  unfold execAoHeadroomLow at h
  injection h with h
  subst h
  refine MKept.ite ?_ ?_
  · refine MKept.trans ?_ (MKept.put (by decide))
    exact MKept.refl _
  · exact MKept.refl _

theorem State.encMove_mk {a0 : _} {a1 : _} {a2 : _} : MKept a0 (@State.encMove a0 a1 a2) := by
  unfold State.encMove
  refine MKept.trans ?_ (MKept.put (by decide))
  exact MKept.refl _

theorem State.encIllegal_mk {a0 : _} {a1 : _} : MKept a0 (@State.encIllegal a0 a1) := by
  unfold State.encIllegal
  dsimp only
  refine MKept.trans ?_ State.raise_mk
  refine MKept.trans ?_ State.spoilRate_mk
  refine MKept.trans ?_ (MKept.put (by decide))
  refine MKept.trans ?_ (MKept.inc (by decide))
  exact MKept.refl _

theorem execEncCountStep_mk {a0 : _} {a1 : _} {a2 : _} {a3 : _} {a4 : _} {a5 : _} {t : State} (h : (@execEncCountStep a0 a1 a2 a3 a4 a5) = .next t) : MKept a5 t := by
  unfold execEncCountStep at h
  injection h with h
  subst h
  refine MKept.ite ?_ ?_
  · refine MKept.trans ?_ State.encIllegal_mk
    exact MKept.refl _
  · refine MKept.trans ?_ State.encMove_mk
    exact MKept.refl _

theorem execEncIllegal_mk {a0 : _} {a1 : _} {t : State} (h : (@execEncIllegal a0 a1) = .next t) : MKept a1 t := by
  unfold execEncIllegal at h
  injection h with h
  subst h
  refine MKept.ite ?_ ?_
  · refine MKept.trans ?_ State.encIllegal_mk
    exact MKept.refl _
  · exact MKept.refl _

theorem State.encRef_mk {a0 : _} {a1 : _} {a2 : _} {a3 : _} : MKept a0 (@State.encRef a0 a1 a2 a3) := by
  unfold State.encRef
  dsimp only
  refine MKept.ite ?_ ?_
  · refine MKept.trans ?_ State.raise_mk
    refine MKept.trans ?_ (MKept.put (by decide))
    refine MKept.ite ?_ ?_
    · refine MKept.trans ?_ (MKept.put (by decide))
      refine MKept.trans ?_ (MKept.put (by decide))
      exact MKept.refl _
    · refine MKept.trans ?_ (MKept.put (by decide))
      refine MKept.trans ?_ (MKept.put (by decide))
      refine MKept.trans ?_ (MKept.put (by decide))
      exact MKept.refl _
  · refine MKept.trans ?_ State.encMove_mk
    refine MKept.ite ?_ ?_
    · refine MKept.trans ?_ (MKept.put (by decide))
      refine MKept.trans ?_ (MKept.put (by decide))
      exact MKept.refl _
    · refine MKept.trans ?_ (MKept.put (by decide))
      refine MKept.trans ?_ (MKept.put (by decide))
      refine MKept.trans ?_ (MKept.put (by decide))
      exact MKept.refl _

theorem execEncZ_mk {a0 : _} {a1 : _} {a2 : _} {a3 : _} {a4 : _} {a5 : _} {t : State} (h : (@execEncZ a0 a1 a2 a3 a4 a5) = .next t) : MKept a5 t := by
  unfold execEncZ at h
  injection h with h
  subst h
  refine MKept.ite ?_ ?_
  · refine MKept.trans ?_ State.encRef_mk
    exact MKept.refl _
  · refine MKept.trans ?_ State.encMove_mk
    exact MKept.refl _

theorem execEncLineFault_mk {a0 : _} {a1 : _} {a2 : _} {t : State} (h : (@execEncLineFault a0 a1 a2) = .next t) : MKept a2 t := by
  unfold execEncLineFault at h
  injection h with h
  subst h
  refine MKept.ite ?_ ?_
  · refine MKept.trans ?_ State.raise_mk
    refine MKept.trans ?_ (MKept.put (by decide))
    exact MKept.refl _
  · exact MKept.refl _

theorem State.encPreset_mk {a0 : _} {a1 : _} {a2 : _} : MKept a0 (@State.encPreset a0 a1 a2) := by
  unfold State.encPreset
  refine MKept.mkUpd ?_
  exact MKept.refl _

theorem execCountPreset_mk {a0 : _} {a1 : _} {a2 : _} {t : State} (h : (@execCountPreset a0 a1 a2) = .next t) : MKept a2 t := by
  unfold execCountPreset at h
  injection h with h
  subst h
  refine MKept.trans ?_ State.encPreset_mk
  exact MKept.refl _

theorem State.capInc_mk {s : State} {f g : Fld} {u : Nat} (hf : f.calm = true) (hg : g.calm = true) :
    MKept s (s.capInc f g u) := by
  unfold State.capInc
  exact MKept.ite (MKept.inc hf) (MKept.inc hg)

theorem State.capResult_mk {a0 : _} {a1 : _} {a2 : _} : MKept a0 (@State.capResult a0 a1 a2) := by
  unfold State.capResult
  dsimp only
  refine MKept.ite ?_ ?_
  · refine MKept.trans ?_ State.putCap_mk
    exact MKept.refl _
  · refine MKept.trans ?_ (State.capInc_mk ?_ ?_)
    · exact MKept.refl _
    · decide
    · decide

theorem State.capEvent_mk {a0 : _} {a1 : _} {a2 : _} {a3 : _} {a4 : _} : MKept a0 (@State.capEvent a0 a1 a2 a3 a4) := by
  unfold State.capEvent
  dsimp only
  refine MKept.ite ?_ ?_
  · exact MKept.refl _
  · refine MKept.ite ?_ ?_
    · refine MKept.ite ?_ ?_
      · refine MKept.trans ?_ State.capResult_mk
        exact MKept.refl _
      · exact MKept.refl _
    · refine MKept.ite ?_ ?_
      · refine MKept.ite ?_ ?_
        · exact MKept.refl _
        · split
          · rename_i v0 v1 v2
            refine MKept.trans ?_ State.capResult_mk
            refine MKept.trans ?_ State.putCap_mk
            exact MKept.refl _
          · rename_i v3 v4
            refine MKept.trans ?_ State.putCap_mk
            exact MKept.refl _
      · refine MKept.ite ?_ ?_
        · refine MKept.trans ?_ State.capResult_mk
          refine MKept.trans ?_ (State.capInc_mk ?_ ?_)
          · refine MKept.trans ?_ State.putCap_mk
            refine MKept.ite ?_ ?_
            · refine MKept.trans ?_ (State.capInc_mk ?_ ?_)
              · exact MKept.refl _
              · decide
              · decide
            · exact MKept.refl _
          · decide
          · decide
        · refine MKept.ite ?_ ?_
          · refine MKept.trans ?_ State.putCap_mk
            refine MKept.ite ?_ ?_
            · refine MKept.trans ?_ (State.capInc_mk ?_ ?_)
              · exact MKept.refl _
              · decide
              · decide
            · exact MKept.refl _
          · refine MKept.ite ?_ ?_
            · split
              · rename_i v5 v6 v7
                refine MKept.trans ?_ State.capResult_mk
                refine MKept.trans ?_ State.putCap_mk
                exact MKept.refl _
              · rename_i v8 v9
                refine MKept.trans ?_ (State.capInc_mk ?_ ?_)
                · exact MKept.refl _
                · decide
                · decide
            · exact MKept.refl _

theorem execCaptureEvent_mk {a0 : _} {a1 : _} {a2 : _} {a3 : _} {a4 : _} {t : State} (h : (@execCaptureEvent a0 a1 a2 a3 a4) = .next t) : MKept a4 t := by
  unfold execCaptureEvent at h
  injection h with h
  subst h
  refine MKept.ite ?_ ?_
  · exact MKept.refl _
  · refine MKept.trans ?_ State.capEvent_mk
    exact MKept.refl _

theorem execCaptureIntervalTimeout_mk {a0 : _} {a1 : _} {t : State} (h : (@execCaptureIntervalTimeout a0 a1) = .next t) : MKept a1 t := by
  unfold execCaptureIntervalTimeout at h
  injection h with h
  subst h
  refine MKept.ite ?_ ?_
  · refine MKept.trans ?_ (State.capInc_mk ?_ ?_)
    · refine MKept.trans ?_ State.putCap_mk
      exact MKept.refl _
    · decide
    · decide
  · exact MKept.refl _

theorem State.takeTrips_mk {a0 : _} : MKept a0 (@State.takeTrips a0) := by
  unfold State.takeTrips
  dsimp only
  refine MKept.foldl ?_ (fun v0 v1 => ?_)
  · exact MKept.refl _
  · refine MKept.ite ?_ ?_
    · refine MKept.trans ?_ State.putDio_mk
      refine MKept.trans ?_ (MKept.put (by decide))
      refine MKept.trans ?_ (MKept.put (by decide))
      exact MKept.refl _
    · exact MKept.refl _

theorem State.fieldTakeover_mk {a0 : _} {a1 : _} : MKept a0 (@State.fieldTakeover a0 a1) := by
  unfold State.fieldTakeover
  dsimp only
  refine MKept.ite ?_ ?_
  · refine MKept.trans ?_ State.fieldSafe_mk
    refine MKept.mkUpd ?_
    refine MKept.trans ?_ State.takeTrips_mk
    exact MKept.refl _
  · refine MKept.trans ?_ State.fieldApply_mk
    refine MKept.mkUpd ?_
    refine MKept.trans ?_ State.takeTrips_mk
    exact MKept.refl _

theorem State.encFollow_mk {a0 : _} {a1 : _} {a2 : _} : MKept a0 (@State.encFollow a0 a1 a2) := by
  unfold State.encFollow
  refine MKept.foldl ?_ (fun v0 v1 => ?_)
  · exact MKept.refl _
  · dsimp only
    refine MKept.trans ?_ (MKept.put (by decide))
    refine MKept.trans ?_ State.encMove_mk
    exact MKept.refl _

theorem State.encSync_mk {a0 : _} : MKept a0 (@State.encSync a0) := by
  unfold State.encSync
  split
  · rename_i v0 v1 v2
    refine MKept.trans ?_ State.encFollow_mk
    exact MKept.refl _
  · rename_i v3 v4
    exact MKept.refl _

theorem State.putFa_mk {a0 : _} {a1 : _} : MKept a0 (@State.putFa a0 a1) := by
  unfold State.putFa
  refine MKept.mkUpd ?_
  exact MKept.refl _

theorem State.showFa_mk {a0 : _} : MKept a0 (@State.showFa a0) := by
  unfold State.showFa
  dsimp only
  refine MKept.trans ?_ (MKept.put (by decide))
  refine MKept.trans ?_ (MKept.put (by decide))
  exact MKept.refl _

theorem State.showFaCfg_mk {a0 : _} {a1 : _} : MKept a0 (@State.showFaCfg a0 a1) := by
  unfold State.showFaCfg
  dsimp only
  iterate 3 refine MKept.trans ?_ (MKept.put (by decide))
  exact MKept.refl _

theorem State.faRestart_mk {a0 : _} {a1 : _} {a2 : _} : MKept a0 (@State.faRestart a0 a1 a2) := by
  unfold State.faRestart
  dsimp only
  refine MKept.ite ?_ ?_
  · refine MKept.trans ?_ State.showFa_mk
    refine MKept.trans ?_ State.putFa_mk
    exact MKept.refl _
  · refine MKept.trans ?_ State.showFa_mk
    refine MKept.trans ?_ State.showFaCfg_mk
    iterate 4 refine MKept.trans ?_ (MKept.put (by decide))
    refine MKept.trans ?_ State.putFa_mk
    exact MKept.refl _

theorem execFaChainRestart_mk {a0 : _} {a1 : _} {t : State} (h : (@execFaChainRestart a0 a1) = .next t) : MKept a1 t := by
  unfold execFaChainRestart at h
  injection h with h
  subst h
  refine MKept.ite ?_ ?_
  · refine MKept.trans ?_ State.faRestart_mk
    exact MKept.refl _
  · exact MKept.refl _

theorem State.raiseAt_mk {a0 : _} {a1 : _} {a2 : _} {a3 : _} {a4 : _} {a5 : _} : MKept a0 (@State.raiseAt a0 a1 a2 a3 a4 a5) := by
  unfold State.raiseAt
  dsimp only
  refine MKept.mkUpd ?_
  refine MKept.trans ?_ (MKept.inc (by decide))
  exact MKept.refl _

theorem State.faWatch_mk {a0 : _} {a1 : _} {a2 : _} : MKept a0 (@State.faWatch a0 a1 a2) := by
  unfold State.faWatch
  dsimp only
  refine MKept.ite ?_ ?_
  · exact MKept.refl _
  · refine MKept.ite ?_ ?_
    · refine MKept.trans ?_ State.raiseAt_mk
      refine MKept.trans ?_ (MKept.putFlag (by decide))
      exact MKept.refl _
    · exact MKept.refl _

theorem State.faSampleEvents_mk {a0 : _} {a1 : _} {a2 : _} {a3 : _} {a4 : _} : MKept a0 (@State.faSampleEvents a0 a1 a2 a3 a4) := by
  unfold State.faSampleEvents
  dsimp only
  refine MKept.ite ?_ ?_
  · refine MKept.trans ?_ State.raise_mk
    refine MKept.trans ?_ (MKept.put (by decide))
    refine MKept.ite ?_ ?_
    · refine MKept.trans ?_ State.raise_mk
      refine MKept.ite ?_ ?_
      · refine MKept.trans ?_ (MKept.inc (by decide))
        refine MKept.trans ?_ (MKept.put (by decide))
        exact MKept.refl _
      · exact MKept.refl _
    · refine MKept.ite ?_ ?_
      · refine MKept.trans ?_ State.raise_mk
        refine MKept.ite ?_ ?_
        · refine MKept.trans ?_ (MKept.inc (by decide))
          refine MKept.trans ?_ (MKept.put (by decide))
          exact MKept.refl _
        · exact MKept.refl _
      · refine MKept.ite ?_ ?_
        · refine MKept.trans ?_ (MKept.inc (by decide))
          refine MKept.trans ?_ (MKept.put (by decide))
          exact MKept.refl _
        · exact MKept.refl _
  · refine MKept.ite ?_ ?_
    · refine MKept.trans ?_ State.raise_mk
      refine MKept.ite ?_ ?_
      · refine MKept.trans ?_ (MKept.inc (by decide))
        refine MKept.trans ?_ (MKept.put (by decide))
        exact MKept.refl _
      · exact MKept.refl _
    · refine MKept.ite ?_ ?_
      · refine MKept.trans ?_ State.raise_mk
        refine MKept.ite ?_ ?_
        · refine MKept.trans ?_ (MKept.inc (by decide))
          refine MKept.trans ?_ (MKept.put (by decide))
          exact MKept.refl _
        · exact MKept.refl _
      · refine MKept.ite ?_ ?_
        · refine MKept.trans ?_ (MKept.inc (by decide))
          refine MKept.trans ?_ (MKept.put (by decide))
          exact MKept.refl _
        · exact MKept.refl _

theorem State.faDeliver_mk {a0 : _} {a1 : _} {a2 : _} : MKept a0 (@State.faDeliver a0 a1 a2) := by
  unfold State.faDeliver
  dsimp only
  refine MKept.ite ?_ ?_
  · exact MKept.refl _
  · refine MKept.trans ?_ State.putFa_mk
    refine MKept.trans ?_ State.faWatch_mk
    refine MKept.trans ?_ State.faSampleEvents_mk
    refine MKept.ite ?_ ?_
    · exact MKept.refl _
    · refine MKept.trans ?_ (MKept.put (by decide))
      exact MKept.refl _

theorem execFaSampleDeliver_mk {a0 : _} {a1 : _} {a2 : _} {t : State} (h : (@execFaSampleDeliver a0 a1 a2) = .next t) : MKept a2 t := by
  unfold execFaSampleDeliver at h
  injection h with h
  subst h
  refine MKept.trans ?_ State.faDeliver_mk
  exact MKept.refl _

theorem State.faEdge_mk {a0 : _} : MKept a0 (@State.faEdge a0) := by
  unfold State.faEdge
  refine MKept.foldl ?_ (fun v0 v1 => ?_)
  · exact MKept.refl _
  · dsimp only
    refine MKept.trans ?_ State.putFa_mk
    exact MKept.refl _

theorem State.faFault_mk {a0 : _} {a1 : _} {a2 : _} : MKept a0 (@State.faFault a0 a1 a2) := by
  unfold State.faFault
  refine MKept.ite ?_ ?_
  · exact MKept.refl _
  · dsimp only
    refine MKept.trans ?_ State.showFa_mk
    refine MKept.trans ?_ State.raise_mk
    refine MKept.trans ?_ (MKept.inc (by decide))
    refine MKept.trans ?_ (MKept.put (by decide))
    refine MKept.trans ?_ State.putFa_mk
    exact MKept.refl _

theorem execFaLaneFault_mk {a0 : _} {a1 : _} {a2 : _} {t : State} (h : (@execFaLaneFault a0 a1 a2) = .next t) : MKept a2 t := by
  unfold execFaLaneFault at h
  injection h with h
  subst h
  refine MKept.trans ?_ State.faFault_mk
  exact MKept.refl _

theorem execFaLaneReload_mk {a0 : _} {a1 : _} {t : State} (h : (@execFaLaneReload a0 a1) = .next t) : MKept a1 t := by
  unfold execFaLaneReload at h
  injection h with h
  subst h
  refine MKept.ite ?_ ?_
  · refine MKept.trans ?_ State.faRestart_mk
    exact MKept.refl _
  · exact MKept.refl _

theorem State.faIdle_mk {a0 : _} {a1 : _} : MKept a0 (@State.faIdle a0 a1) := by
  unfold State.faIdle
  refine MKept.trans ?_ State.showFaCfg_mk
  refine MKept.trans ?_ State.putFa_mk
  exact MKept.refl _

theorem State.faComesUp_mk {a0 : _} {a1 : _} : MKept a0 (@State.faComesUp a0 a1) := by
  unfold State.faComesUp
  dsimp only
  refine MKept.ite ?_ ?_
  · refine MKept.trans ?_ State.putFa_mk
    refine MKept.trans ?_ State.faIdle_mk
    exact MKept.refl _
  · refine MKept.trans ?_ State.faIdle_mk
    exact MKept.refl _

theorem State.faWritten_mk {a0 : _} {a1 : _} {a2 : _} {a3 : _} {a4 : _} : MKept a0 (@State.faWritten a0 a1 a2 a3 a4) := by
  unfold State.faWritten
  dsimp only
  refine MKept.ite ?_ ?_
  · refine MKept.ite ?_ ?_
    · refine MKept.trans ?_ State.faIdle_mk
      exact MKept.refl _
    · refine MKept.trans ?_ State.putFa_mk
      exact MKept.refl _
  · refine MKept.ite ?_ ?_
    · refine MKept.ite ?_ ?_
      · refine MKept.trans ?_ State.showFa_mk
        refine MKept.trans ?_ (MKept.put (by decide))
        refine MKept.trans ?_ State.faIdle_mk
        exact MKept.refl _
      · refine MKept.ite ?_ ?_
        · refine MKept.trans ?_ State.showFa_mk
          refine MKept.trans ?_ State.putFa_mk
          exact MKept.refl _
        · refine MKept.trans ?_ State.putFa_mk
          exact MKept.refl _
    · refine MKept.ite ?_ ?_
      · refine MKept.trans ?_ State.putFa_mk
        exact MKept.refl _
      · refine MKept.ite ?_ ?_
        · refine MKept.trans ?_ State.putFa_mk
          exact MKept.refl _
        · refine MKept.ite ?_ ?_
          · refine MKept.trans ?_ State.putFa_mk
            exact MKept.refl _
          · exact MKept.refl _

theorem State.onTime_mk {a0 : _} {a1 : _} : MKept a0 (@State.onTime a0 a1) := by
  unfold State.onTime
  refine MKept.mkUpd ?_
  exact MKept.refl _

theorem State.showPorts_mk {a0 : _} : MKept a0 (@State.showPorts a0) := by
  unfold State.showPorts
  refine MKept.foldl ?_ (fun v0 v1 => ?_)
  · exact MKept.refl _
  · dsimp only
    refine MKept.ite ?_ ?_
    · exact MKept.refl _
    · refine MKept.trans ?_ State.raise_mk
      refine MKept.trans ?_ (MKept.put (by decide))
      exact MKept.refl _

theorem State.setAlign_mk {a0 : _} {a1 : _} : MKept a0 (@State.setAlign a0 a1) := by
  unfold State.setAlign
  dsimp only
  refine MKept.trans ?_ State.showPorts_mk
  refine MKept.trans ?_ (MKept.put (by decide))
  refine MKept.trans ?_ (MKept.putFlag (by decide))
  refine MKept.trans ?_ (MKept.put (by decide))
  exact MKept.refl _

theorem State.becomeAligned_mk {a0 : _} : MKept a0 (@State.becomeAligned a0) := by
  unfold State.becomeAligned
  dsimp only
  refine MKept.trans ?_ State.onTime_mk
  refine MKept.trans ?_ State.raise_mk
  refine MKept.trans ?_ State.setAlign_mk
  iterate 3 refine MKept.trans ?_ (MKept.put (by decide))
  exact MKept.refl _

theorem State.classify_mk {a0 : _} {a1 : _} : MKept a0 (@State.classify a0 a1) := by
  unfold State.classify
  dsimp only
  refine MKept.ite ?_ ?_
  · refine MKept.trans ?_ State.becomeAligned_mk
    refine MKept.trans ?_ State.onTime_mk
    refine MKept.mkUpd ?_
    exact MKept.refl _
  · refine MKept.ite ?_ ?_
    · refine MKept.trans ?_ State.setAlign_mk
      iterate 3 refine MKept.trans ?_ (MKept.put (by decide))
      refine MKept.trans ?_ State.onTime_mk
      refine MKept.mkUpd ?_
      exact MKept.refl _
    · refine MKept.trans ?_ State.setAlign_mk
      iterate 3 refine MKept.trans ?_ (MKept.put (by decide))
      refine MKept.trans ?_ State.onTime_mk
      refine MKept.mkUpd ?_
      exact MKept.refl _

theorem State.selectGm_mk {a0 : _} {a1 : _} {a2 : _} : MKept a0 (@State.selectGm a0 a1 a2) := by
  unfold State.selectGm
  dsimp only
  refine MKept.trans ?_ State.showPorts_mk
  refine MKept.trans ?_ (MKept.put (by decide))
  refine MKept.trans ?_ (MKept.put (by decide))
  refine MKept.trans ?_ State.onTime_mk
  exact MKept.refl _

theorem State.loseGm_mk {a0 : _} : MKept a0 (@State.loseGm a0) := by
  unfold State.loseGm
  dsimp only
  refine MKept.ite ?_ ?_
  · refine MKept.trans ?_ State.showPorts_mk
    iterate 3 refine MKept.trans ?_ (MKept.put (by decide))
    refine MKept.trans ?_ State.onTime_mk
    exact MKept.refl _
  · refine MKept.ite ?_ ?_
    · refine MKept.trans ?_ State.raise_mk
      refine MKept.trans ?_ State.setAlign_mk
      iterate 5 refine MKept.trans ?_ (MKept.put (by decide))
      refine MKept.trans ?_ State.onTime_mk
      exact MKept.refl _
    · refine MKept.ite ?_ ?_
      · refine MKept.trans ?_ State.setAlign_mk
        iterate 3 refine MKept.trans ?_ (MKept.put (by decide))
        refine MKept.trans ?_ State.onTime_mk
        exact MKept.refl _
      · refine MKept.trans ?_ State.showPorts_mk
        iterate 3 refine MKept.trans ?_ (MKept.put (by decide))
        refine MKept.trans ?_ State.onTime_mk
        exact MKept.refl _

theorem State.countSync_mk {a0 : _} : MKept a0 (@State.countSync a0) := by
  unfold State.countSync
  dsimp only
  refine MKept.trans ?_ State.onTime_mk
  exact MKept.refl _

theorem State.sync_mk {a0 : _} {a1 : _} : MKept a0 (@State.sync a0 a1) := by
  unfold State.sync
  dsimp only
  refine MKept.ite ?_ ?_
  · refine MKept.ite ?_ ?_
    · refine MKept.trans ?_ State.raise_mk
      refine MKept.trans ?_ State.onTime_mk
      refine MKept.ite ?_ ?_
      · refine MKept.trans ?_ State.showPorts_mk
        refine MKept.trans ?_ (MKept.put (by decide))
        refine MKept.trans ?_ (MKept.put (by decide))
        refine MKept.trans ?_ State.countSync_mk
        exact MKept.refl _
      · refine MKept.trans ?_ (MKept.put (by decide))
        refine MKept.trans ?_ State.countSync_mk
        exact MKept.refl _
    · refine MKept.trans ?_ State.onTime_mk
      refine MKept.ite ?_ ?_
      · refine MKept.trans ?_ State.showPorts_mk
        refine MKept.trans ?_ (MKept.put (by decide))
        refine MKept.trans ?_ (MKept.put (by decide))
        refine MKept.trans ?_ State.countSync_mk
        exact MKept.refl _
      · refine MKept.trans ?_ (MKept.put (by decide))
        refine MKept.trans ?_ State.countSync_mk
        exact MKept.refl _
  · refine MKept.ite ?_ ?_
    · refine MKept.ite ?_ ?_
      · refine MKept.trans ?_ State.showPorts_mk
        refine MKept.trans ?_ (MKept.put (by decide))
        refine MKept.trans ?_ (MKept.put (by decide))
        refine MKept.trans ?_ State.countSync_mk
        exact MKept.refl _
      · refine MKept.trans ?_ (MKept.put (by decide))
        refine MKept.trans ?_ State.countSync_mk
        exact MKept.refl _
    · refine MKept.ite ?_ ?_
      · refine MKept.trans ?_ State.classify_mk
        refine MKept.trans ?_ State.onTime_mk
        refine MKept.trans ?_ (MKept.put (by decide))
        refine MKept.trans ?_ State.fresh_mk
        refine MKept.ite ?_ ?_
        · refine MKept.trans ?_ State.showPorts_mk
          refine MKept.trans ?_ (MKept.put (by decide))
          refine MKept.trans ?_ (MKept.put (by decide))
          refine MKept.trans ?_ State.countSync_mk
          exact MKept.refl _
        · refine MKept.trans ?_ (MKept.put (by decide))
          refine MKept.trans ?_ State.countSync_mk
          exact MKept.refl _
      · refine MKept.ite ?_ ?_
        · refine MKept.ite ?_ ?_
          · refine MKept.trans ?_ State.classify_mk
            refine MKept.trans ?_ State.onTime_mk
            refine MKept.trans ?_ (MKept.put (by decide))
            refine MKept.trans ?_ State.fresh_mk
            refine MKept.ite ?_ ?_
            · refine MKept.trans ?_ State.showPorts_mk
              refine MKept.trans ?_ (MKept.put (by decide))
              refine MKept.trans ?_ (MKept.put (by decide))
              refine MKept.trans ?_ State.countSync_mk
              exact MKept.refl _
            · refine MKept.trans ?_ (MKept.put (by decide))
              refine MKept.trans ?_ State.countSync_mk
              exact MKept.refl _
          · refine MKept.trans ?_ (MKept.put (by decide))
            refine MKept.mkUpd ?_
            refine MKept.trans ?_ State.onTime_mk
            refine MKept.trans ?_ (MKept.put (by decide))
            refine MKept.trans ?_ State.fresh_mk
            refine MKept.ite ?_ ?_
            · refine MKept.trans ?_ State.showPorts_mk
              refine MKept.trans ?_ (MKept.put (by decide))
              refine MKept.trans ?_ (MKept.put (by decide))
              refine MKept.trans ?_ State.countSync_mk
              exact MKept.refl _
            · refine MKept.trans ?_ (MKept.put (by decide))
              refine MKept.trans ?_ State.countSync_mk
              exact MKept.refl _
        · refine MKept.ite ?_ ?_
          · refine MKept.ite ?_ ?_
            · refine MKept.trans ?_ State.becomeAligned_mk
              refine MKept.mkUpd ?_
              refine MKept.trans ?_ State.onTime_mk
              refine MKept.trans ?_ (MKept.put (by decide))
              refine MKept.trans ?_ State.fresh_mk
              refine MKept.ite ?_ ?_
              · refine MKept.trans ?_ State.showPorts_mk
                refine MKept.trans ?_ (MKept.put (by decide))
                refine MKept.trans ?_ (MKept.put (by decide))
                refine MKept.trans ?_ State.countSync_mk
                exact MKept.refl _
              · refine MKept.trans ?_ (MKept.put (by decide))
                refine MKept.trans ?_ State.countSync_mk
                exact MKept.refl _
            · refine MKept.ite ?_ ?_
              · refine MKept.trans ?_ State.classify_mk
                refine MKept.trans ?_ State.onTime_mk
                refine MKept.trans ?_ (MKept.put (by decide))
                refine MKept.trans ?_ State.fresh_mk
                refine MKept.ite ?_ ?_
                · refine MKept.trans ?_ State.showPorts_mk
                  refine MKept.trans ?_ (MKept.put (by decide))
                  refine MKept.trans ?_ (MKept.put (by decide))
                  refine MKept.trans ?_ State.countSync_mk
                  exact MKept.refl _
                · refine MKept.trans ?_ (MKept.put (by decide))
                  refine MKept.trans ?_ State.countSync_mk
                  exact MKept.refl _
              · refine MKept.trans ?_ (MKept.put (by decide))
                refine MKept.mkUpd ?_
                refine MKept.trans ?_ State.onTime_mk
                refine MKept.trans ?_ (MKept.put (by decide))
                refine MKept.trans ?_ State.fresh_mk
                refine MKept.ite ?_ ?_
                · refine MKept.trans ?_ State.showPorts_mk
                  refine MKept.trans ?_ (MKept.put (by decide))
                  refine MKept.trans ?_ (MKept.put (by decide))
                  refine MKept.trans ?_ State.countSync_mk
                  exact MKept.refl _
                · refine MKept.trans ?_ (MKept.put (by decide))
                  refine MKept.trans ?_ State.countSync_mk
                  exact MKept.refl _
          · refine MKept.trans ?_ State.classify_mk
            refine MKept.trans ?_ State.onTime_mk
            refine MKept.trans ?_ (MKept.put (by decide))
            refine MKept.trans ?_ State.fresh_mk
            refine MKept.ite ?_ ?_
            · refine MKept.trans ?_ State.showPorts_mk
              refine MKept.trans ?_ (MKept.put (by decide))
              refine MKept.trans ?_ (MKept.put (by decide))
              refine MKept.trans ?_ State.countSync_mk
              exact MKept.refl _
            · refine MKept.trans ?_ (MKept.put (by decide))
              refine MKept.trans ?_ State.countSync_mk
              exact MKept.refl _

theorem execPtpSyncReceive_mk {a0 : _} {a1 : _} {a2 : _} {a3 : _} {a4 : _} {t : State} (h : (@execPtpSyncReceive a0 a1 a2 a3 a4) = .next t) : MKept a3 t := by
  unfold execPtpSyncReceive at h
  injection h with h
  subst h
  refine MKept.ite ?_ ?_
  · refine MKept.trans ?_ State.sync_mk
    exact MKept.refl _
  · exact MKept.refl _

theorem execDelayExchangeComplete_mk {a0 : _} {a1 : _} {a2 : _} {a3 : _} {t : State} (h : (@execDelayExchangeComplete a0 a1 a2 a3) = .next t) : MKept a3 t := by
  unfold execDelayExchangeComplete at h
  injection h with h
  subst h
  refine MKept.ite ?_ ?_
  · refine MKept.trans ?_ State.onTime_mk
    refine MKept.trans ?_ (MKept.put (by decide))
    refine MKept.ite ?_ ?_
    · refine MKept.trans ?_ (MKept.put (by decide))
      exact MKept.refl _
    · exact MKept.refl _
  · refine MKept.ite ?_ ?_
    · refine MKept.trans ?_ (MKept.put (by decide))
      exact MKept.refl _
    · exact MKept.refl _

theorem execAnnounceReceive_mk {a0 : _} {a1 : _} {t : State} (h : (@execAnnounceReceive a0 a1) = .next t) : MKept a1 t := by
  unfold execAnnounceReceive at h
  injection h with h
  subst h
  refine MKept.ite ?_ ?_
  · exact MKept.refl _
  · dsimp only
    refine MKept.ite ?_ ?_
    · refine MKept.trans ?_ State.selectGm_mk
      refine MKept.trans ?_ State.onTime_mk
      exact MKept.refl _
    · refine MKept.ite ?_ ?_
      · refine MKept.trans ?_ State.onTime_mk
        refine MKept.trans ?_ State.onTime_mk
        exact MKept.refl _
      · refine MKept.trans ?_ State.onTime_mk
        exact MKept.refl _

theorem execGmChange_mk {a0 : _} {a1 : _} {a2 : _} {t : State} (h : (@execGmChange a0 a1 a2) = .next t) : MKept a2 t := by
  unfold execGmChange at h
  injection h with h
  subst h
  split
  · rename_i v0 v1
    refine MKept.trans ?_ State.selectGm_mk
    exact MKept.refl _
  · rename_i v2 v3 v4
    refine MKept.ite ?_ ?_
    · exact MKept.refl _
    · dsimp only
      refine MKept.trans ?_ State.selectGm_mk
      refine MKept.trans ?_ State.loseGm_mk
      refine MKept.trans ?_ State.raise_mk
      refine MKept.trans ?_ State.raise_mk
      refine MKept.trans ?_ (MKept.inc (by decide))
      exact MKept.refl _

theorem execGmLost_mk {a0 : _} {a1 : _} {t : State} (h : (@execGmLost a0 a1) = .next t) : MKept a1 t := by
  unfold execGmLost at h
  injection h with h
  subst h
  split
  · rename_i v0 v1
    exact MKept.refl _
  · rename_i v2 v3 v4
    refine MKept.ite ?_ ?_
    · exact MKept.refl _
    · dsimp only
      refine MKept.trans ?_ State.loseGm_mk
      refine MKept.trans ?_ State.raise_mk
      refine MKept.trans ?_ State.onTime_mk
      exact MKept.refl _

theorem State.lockLost_mk {a0 : _} : MKept a0 (@State.lockLost a0) := by
  unfold State.lockLost
  refine MKept.ite ?_ ?_
  · dsimp only
    refine MKept.trans ?_ State.raise_mk
    refine MKept.trans ?_ State.showPorts_mk
    refine MKept.trans ?_ (MKept.put (by decide))
    refine MKept.trans ?_ (MKept.put (by decide))
    exact MKept.refl _
  · exact MKept.refl _

theorem execTimeLockLost_mk {a0 : _} {t : State} (h : (@execTimeLockLost a0) = .next t) : MKept a0 t := by
  unfold execTimeLockLost at h
  injection h with h
  subst h
  refine MKept.trans ?_ State.lockLost_mk
  exact MKept.refl _

theorem State.slewEdge_mk {a0 : _} : MKept a0 (@State.slewEdge a0) := by
  unfold State.slewEdge
  refine MKept.ite ?_ ?_
  · exact MKept.refl _
  · refine MKept.ite ?_ ?_
    · dsimp only
      refine MKept.ite ?_ ?_
      · refine MKept.trans ?_ State.becomeAligned_mk
        refine MKept.mkUpd ?_
        exact MKept.refl _
      · refine MKept.trans ?_ (MKept.put (by decide))
        refine MKept.mkUpd ?_
        exact MKept.refl _
    · dsimp only
      refine MKept.ite ?_ ?_
      · refine MKept.ite ?_ ?_
        · refine MKept.trans ?_ State.lockLost_mk
          refine MKept.trans ?_ (MKept.put (by decide))
          refine MKept.trans ?_ (MKept.put (by decide))
          refine MKept.mkUpd ?_
          exact MKept.refl _
        · refine MKept.trans ?_ (MKept.put (by decide))
          refine MKept.trans ?_ (MKept.put (by decide))
          refine MKept.mkUpd ?_
          exact MKept.refl _
      · refine MKept.mkUpd ?_
        exact MKept.refl _

theorem execPtpRxError_mk {a0 : _} {a1 : _} {t : State} (h : (@execPtpRxError a0 a1) = .next t) : MKept a1 t := by
  unfold execPtpRxError at h
  injection h with h
  subst h
  refine MKept.ite ?_ ?_
  · refine MKept.trans ?_ State.raise_mk
    refine MKept.trans ?_ State.onTime_mk
    refine MKept.trans ?_ (MKept.inc (by decide))
    exact MKept.refl _
  · refine MKept.trans ?_ (MKept.inc (by decide))
    exact MKept.refl _

theorem execPtpForward_mk {a0 : _} {a1 : _} {a2 : _} {a3 : _} {a4 : _} {a5 : _} {a6 : _} {t : State} (h : (@execPtpForward a0 a1 a2 a3 a4 a5 a6) = .next t) : MKept a6 t := by
  unfold execPtpForward at h
  injection h with h
  subst h
  refine MKept.ite ?_ ?_
  · exact MKept.refl _
  · refine MKept.ite ?_ ?_
    · refine MKept.trans ?_ State.onTime_mk
      exact MKept.refl _
    · refine MKept.ite ?_ ?_
      · dsimp only
        refine MKept.ite ?_ ?_
        · refine MKept.trans ?_ State.raise_mk
          refine MKept.trans ?_ State.onTime_mk
          refine MKept.trans ?_ State.onTime_mk
          refine MKept.trans ?_ (MKept.inc (by decide))
          exact MKept.refl _
        · refine MKept.trans ?_ State.onTime_mk
          refine MKept.trans ?_ (MKept.inc (by decide))
          exact MKept.refl _
      · dsimp only
        refine MKept.trans ?_ State.onTime_mk
        exact MKept.refl _

theorem State.linkAt_mk {a0 : _} {a1 : _} {a2 : _} : MKept a0 (@State.linkAt a0 a1 a2) := by
  unfold State.linkAt
  dsimp only
  refine MKept.trans ?_ State.onTime_mk
  exact MKept.refl _

theorem State.sourceAgain_mk {a0 : _} : MKept a0 (@State.sourceAgain a0) := by
  unfold State.sourceAgain
  split
  · rename_i v0 v1 v2
    refine MKept.trans ?_ (MKept.put (by decide))
    exact MKept.refl _
  · rename_i v3 v4
    exact MKept.refl _

theorem execEthLinkChange_mk {a0 : _} {a1 : _} {a2 : _} {t : State} (h : (@execEthLinkChange a0 a1 a2) = .next t) : MKept a2 t := by
  unfold execEthLinkChange at h
  injection h with h
  subst h
  refine MKept.trans ?_ State.showPorts_mk
  refine MKept.ite ?_ ?_
  · refine MKept.trans ?_ State.sourceAgain_mk
    refine MKept.trans ?_ State.linkAt_mk
    exact MKept.refl _
  · refine MKept.trans ?_ State.linkAt_mk
    exact MKept.refl _

theorem State.putPin_mk {a0 : _} {a1 : _} : MKept a0 (@State.putPin a0 a1) := by
  unfold State.putPin
  refine MKept.trans ?_ State.onTime_mk
  exact MKept.refl _

theorem State.pulse_mk {a0 : _} {a1 : _} {a2 : _} {a3 : _} : MKept a0 (@State.pulse a0 a1 a2 a3) := by
  unfold State.pulse
  refine MKept.trans ?_ State.putPin_mk
  refine MKept.trans ?_ (MKept.inc (by decide))
  exact MKept.refl _

theorem State.pinWritten_mk {a0 : _} {a1 : _} {a2 : _} : MKept a0 (@State.pinWritten a0 a1 a2) := by
  unfold State.pinWritten
  dsimp only
  refine MKept.ite ?_ ?_
  · refine MKept.trans ?_ State.raise_mk
    refine MKept.trans ?_ (MKept.put (by decide))
    refine MKept.trans ?_ State.putPin_mk
    exact MKept.refl _
  · refine MKept.ite ?_ ?_
    · refine MKept.ite ?_ ?_
      · refine MKept.trans ?_ (MKept.put (by decide))
        refine MKept.trans ?_ State.putPin_mk
        exact MKept.refl _
      · refine MKept.trans ?_ State.putPin_mk
        exact MKept.refl _
    · refine MKept.trans ?_ (MKept.put (by decide))
      refine MKept.trans ?_ State.putPin_mk
      exact MKept.refl _

theorem State.pinsStep_mk {a0 : _} : MKept a0 (@State.pinsStep a0) := by
  unfold State.pinsStep
  refine MKept.mkUpd ?_
  exact MKept.refl _

theorem execPpsEdge_mk {a0 : _} {a1 : _} {t : State} (h : (@execPpsEdge a0 a1) = .next t) : MKept a1 t := by
  unfold execPpsEdge at h
  injection h with h
  subst h
  refine MKept.trans ?_ State.raise_mk
  refine MKept.trans ?_ State.onTime_mk
  refine MKept.trans ?_ (MKept.inc (by decide))
  refine MKept.trans ?_ (MKept.put (by decide))
  refine MKept.trans ?_ (MKept.put (by decide))
  exact MKept.refl _

theorem execPpsLost_mk {a0 : _} {t : State} (h : (@execPpsLost a0) = .next t) : MKept a0 t := by
  unfold execPpsLost at h
  injection h with h
  subst h
  refine MKept.ite ?_ ?_
  · refine MKept.trans ?_ State.raise_mk
    refine MKept.trans ?_ (MKept.put (by decide))
    exact MKept.refl _
  · exact MKept.refl _

theorem execPpsOutPulse_mk {a0 : _} {t : State} (h : (@execPpsOutPulse a0) = .next t) : MKept a0 t := by
  unfold execPpsOutPulse at h
  injection h with h
  subst h
  refine MKept.ite ?_ ?_
  · exact MKept.refl _
  · dsimp only
    refine MKept.ite ?_ ?_
    · refine MKept.trans ?_ (MKept.putFlag (by decide))
      refine MKept.trans ?_ State.onTime_mk
      refine MKept.ite ?_ ?_
      · exact MKept.refl _
      · refine MKept.trans ?_ State.raise_mk
        exact MKept.refl _
    · refine MKept.trans ?_ State.pulse_mk
      refine MKept.trans ?_ (MKept.putFlag (by decide))
      refine MKept.trans ?_ State.onTime_mk
      refine MKept.ite ?_ ?_
      · exact MKept.refl _
      · refine MKept.trans ?_ State.raise_mk
        exact MKept.refl _

theorem execChimePulse_mk {a0 : _} {a1 : _} {t : State} (h : (@execChimePulse a0 a1) = .next t) : MKept a1 t := by
  unfold execChimePulse at h
  injection h with h
  subst h
  refine MKept.ite ?_ ?_
  · exact MKept.refl _
  · split
    · rename_i v0 v1 v2 v3 v4 v5
      refine MKept.trans ?_ State.pulse_mk
      exact MKept.refl _
    · rename_i v6 v7 v8 v9 v10 v11 v12
      refine MKept.ite ?_ ?_
      · refine MKept.trans ?_ State.pulse_mk
        exact MKept.refl _
      · refine MKept.trans ?_ State.pulse_mk
        refine MKept.trans ?_ State.putPin_mk
        exact MKept.refl _
    · rename_i v13 v14 v15 v16 v17
      refine MKept.trans ?_ State.pulse_mk
      refine MKept.trans ?_ State.putPin_mk
      exact MKept.refl _
    · rename_i v18 v19 v20 v21
      exact MKept.refl _

theorem execRimshotFired_mk {a0 : _} {a1 : _} {t : State} (h : (@execRimshotFired a0 a1) = .next t) : MKept a1 t := by
  unfold execRimshotFired at h
  injection h with h
  subst h
  refine MKept.ite ?_ ?_
  · exact MKept.refl _
  · refine MKept.trans ?_ State.raise_mk
    refine MKept.trans ?_ (MKept.put (by decide))
    refine MKept.trans ?_ State.pulse_mk
    exact MKept.refl _

theorem execTpEventPulse_mk {a0 : _} {a1 : _} {t : State} (h : (@execTpEventPulse a0 a1) = .next t) : MKept a1 t := by
  unfold execTpEventPulse at h
  injection h with h
  subst h
  refine MKept.ite ?_ ?_
  · exact MKept.refl _
  · dsimp only
    refine MKept.ite ?_ ?_
    · refine MKept.mkUpd ?_
      exact MKept.refl _
    · refine MKept.ite ?_ ?_
      · refine MKept.trans ?_ (MKept.inc (by decide))
        refine MKept.mkUpd ?_
        exact MKept.refl _
      · refine MKept.trans ?_ State.pulse_mk
        refine MKept.mkUpd ?_
        exact MKept.refl _

theorem execTimeStatus_mk {a0 : _} {a1 : _} {t : State} (h : (@execTimeStatus a0 a1) = .next t) : MKept a1 t := by
  unfold execTimeStatus at h
  injection h with h
  subst h
  refine MKept.trans ?_ (served_mk ?_)
  · exact MKept.refl _
  · intro v0 v1
    dsimp only
    exact MKept.refl _

theorem chimeSetApply_mk {a0 : _} {a1 : _} : MKept a1 (@chimeSetApply a0 a1).st := by
  unfold chimeSetApply
  dsimp only
  refine MKept.trans ?_ State.pinWritten_mk
  iterate 4 refine MKept.trans ?_ (MKept.put (by decide))
  exact MKept.refl _

theorem execChimeSet_mk {a0 : _} {a1 : _} {t : State} (h : (@execChimeSet a0 a1) = .next t) : MKept a1 t := by
  unfold execChimeSet at h
  injection h with h
  subst h
  refine MKept.trans ?_ queued_mk
  exact MKept.refl _

theorem rimshotArmApply_mk {a0 : _} {a1 : _} : MKept a1 (@rimshotArmApply a0 a1).st := by
  unfold rimshotArmApply
  dsimp only
  refine MKept.trans ?_ (MKept.put (by decide))
  refine MKept.trans ?_ State.putPin_mk
  iterate 3 refine MKept.trans ?_ (MKept.put (by decide))
  refine MKept.ite ?_ ?_
  · refine MKept.trans ?_ (MKept.inc (by decide))
    exact MKept.refl _
  · exact MKept.refl _

theorem execRimshotArm_mk {a0 : _} {a1 : _} {t : State} (h : (@execRimshotArm a0 a1) = .next t) : MKept a1 t := by
  unfold execRimshotArm at h
  injection h with h
  subst h
  refine MKept.trans ?_ queued_mk
  exact MKept.refl _

theorem captureReadBody_mk {a0 : _} {a1 : _} {a2 : _} : MKept a2 (@captureReadBody a0 a1 a2).st := by
  unfold captureReadBody
  dsimp only
  exact MKept.refl _

theorem execCaptureRead_mk {a0 : _} {a1 : _} {t : State} (h : (@execCaptureRead a0 a1) = .next t) : MKept a1 t := by
  unfold execCaptureRead at h
  injection h with h
  subst h
  refine MKept.trans ?_ (served_mk ?_)
  · exact MKept.refl _
  · intro v0 v1
    refine MKept.trans ?_ captureReadBody_mk
    exact MKept.refl _

theorem State.takeServo_mk {a0 : _} {a1 : _} : MKept a0 (@State.takeServo a0 a1) := by
  unfold State.takeServo
  dsimp only
  refine MKept.trans ?_ (MKept.putFlag (by decide))
  refine MKept.trans ?_ State.setAlign_mk
  refine MKept.trans ?_ (MKept.putFlag (by decide))
  refine MKept.trans ?_ State.onTime_mk
  refine MKept.mkUpd ?_
  iterate 3 refine MKept.trans ?_ (MKept.put (by decide))
  exact MKept.refl _

theorem State.timeTakesOver_mk {a0 : _} : MKept a0 (@State.timeTakesOver a0) := by
  unfold State.timeTakesOver
  refine MKept.ite ?_ ?_
  · dsimp only
    split
    · rename_i v0 v1 v2
      refine MKept.trans ?_ (MKept.put (by decide))
      refine MKept.trans ?_ (MKept.put (by decide))
      refine MKept.trans ?_ State.onTime_mk
      exact MKept.refl _
    · rename_i v3 v4
      refine MKept.trans ?_ State.onTime_mk
      exact MKept.refl _
  · exact MKept.refl _

theorem State.showUnit_mk {a0 : _} : MKept a0 (@State.showUnit a0) := by
  unfold State.showUnit
  refine MKept.trans ?_ (MKept.put (by decide))
  exact MKept.refl _

theorem State.mailNext_mk {a0 : _} {a1 : _} : MKept a0 (@State.mailNext a0 a1) := by
  unfold State.mailNext
  dsimp only
  refine MKept.mkUpd ?_
  refine MKept.trans ?_ State.sendService_mk
  exact MKept.refl _

theorem State.mailSend_mk {a0 : _} {a1 : _} {a2 : _} {a3 : _} {a4 : _} {a5 : _} {a6 : _} {a7 : _} {a8 : _} : MKept a0 (@State.mailSend a0 a1 a2 a3 a4 a5 a6 a7 a8) := by
  unfold State.mailSend
  refine MKept.trans ?_ State.mailNext_mk
  exact MKept.refl _

theorem mailed_mk {a0 : _} {a1 : _} {a2 : _} {a3 : _} {a4 : _} {a5 : _} (h4 : ∀ y0 y1, MKept y1 (a4 y0 y1).st) : MKept a5 (@mailed a0 a1 a2 a3 a4 a5) := by
  unfold mailed
  split
  · rename_i v0 v1 v2
    dsimp only
    split
    · rename_i v3 v4 v5 v6
      refine MKept.trans ?_ State.answer_mk
      refine MKept.trans ?_ State.noteSeq_mk
      exact MKept.refl _
    · rename_i v7 v8
      split
      · rename_i v9 v10 v11 v12 v13 v14 v15 v16
        refine MKept.ite ?_ ?_
        · refine MKept.trans ?_ State.answer_mk
          refine MKept.trans ?_ State.noteSeq_mk
          exact MKept.refl _
        · refine MKept.trans ?_ State.mailSend_mk
          refine MKept.trans ?_ State.noteSeq_mk
          exact MKept.refl _
      · rename_i v17 v18
        refine MKept.trans ?_ State.answer_mk
        refine MKept.trans ?_ (h4 ..)
        refine MKept.trans ?_ State.noteSeq_mk
        exact MKept.refl _
  · rename_i v19 v20
    refine MKept.trans ?_ turnedAway_mk
    exact MKept.refl _

theorem State.mailDone_mk {a0 : _} {a1 : _} {a2 : _} {a3 : _} : MKept a0 (@State.mailDone a0 a1 a2 a3) := by
  unfold State.mailDone
  dsimp only
  refine MKept.ite ?_ ?_
  · refine MKept.trans ?_ State.answer_mk
    refine MKept.mkUpd ?_
    exact MKept.refl _
  · refine MKept.trans ?_ State.answer_mk
    refine MKept.mkUpd ?_
    exact MKept.refl _

theorem execMailboxReply_mk {a0 : _} {a1 : _} {a2 : _} {a3 : _} {a4 : _} {a5 : _} {a6 : _} {a7 : _} {t : State} (h : (@execMailboxReply a0 a1 a2 a3 a4 a5 a6 a7) = .next t) : MKept a7 t := by
  unfold execMailboxReply at h
  injection h with h
  subst h
  split
  · rename_i v0 v1
    exact MKept.refl _
  · rename_i v2 v3 v4
    dsimp only
    refine MKept.ite ?_ ?_
    · refine MKept.trans ?_ State.mailNext_mk
      refine MKept.mkUpd ?_
      exact MKept.refl _
    · refine MKept.trans ?_ State.mailDone_mk
      exact MKept.refl _

theorem execMailboxTimeout_mk {a0 : _} {a1 : _} {a2 : _} {a3 : _} {t : State} (h : (@execMailboxTimeout a0 a1 a2 a3) = .next t) : MKept a3 t := by
  unfold execMailboxTimeout at h
  injection h with h
  subst h
  split
  · rename_i v0 v1
    exact MKept.refl _
  · rename_i v2 v3 v4
    refine MKept.trans ?_ State.mailDone_mk
    exact MKept.refl _

theorem unitListBody_mk {a0 : _} {a1 : _} {a2 : _} : MKept a2 (@unitListBody a0 a1 a2).st := by
  unfold unitListBody
  dsimp only
  exact MKept.refl _

theorem execUnitList_mk {a0 : _} {a1 : _} {t : State} (h : (@execUnitList a0 a1) = .next t) : MKept a1 t := by
  unfold execUnitList at h
  injection h with h
  subst h
  refine MKept.trans ?_ (served_mk ?_)
  · exact MKept.refl _
  · intro v0 v1
    refine MKept.trans ?_ unitListBody_mk
    exact MKept.refl _

theorem execUnitInfo_mk {a0 : _} {a1 : _} {t : State} (h : (@execUnitInfo a0 a1) = .next t) : MKept a1 t := by
  unfold execUnitInfo at h
  injection h with h
  subst h
  refine MKept.trans ?_ (served_mk ?_)
  · exact MKept.refl _
  · intro v0 v1
    dsimp only
    exact MKept.refl _

theorem execUnitEpochGet_mk {a0 : _} {a1 : _} {t : State} (h : (@execUnitEpochGet a0 a1) = .next t) : MKept a1 t := by
  unfold execUnitEpochGet at h
  injection h with h
  subst h
  refine MKept.trans ?_ (served_mk ?_)
  · exact MKept.refl _
  · intro v0 v1
    dsimp only
    exact MKept.refl _

theorem unitCertGetBody_mk {a0 : _} {a1 : _} {a2 : _} : MKept a2 (@unitCertGetBody a0 a1 a2).st := by
  unfold unitCertGetBody
  dsimp only
  refine MKept.iteSt ?_ ?_
  · dsimp only
    exact MKept.refl _
  · dsimp only
    refine MKept.trans ?_ State.fresh_mk
    exact MKept.refl _

theorem execUnitCertGet_mk {a0 : _} {a1 : _} {t : State} (h : (@execUnitCertGet a0 a1) = .next t) : MKept a1 t := by
  unfold execUnitCertGet at h
  injection h with h
  subst h
  refine MKept.trans ?_ (mailed_mk ?_)
  · exact MKept.refl _
  · intro v0 v1
    refine MKept.trans ?_ unitCertGetBody_mk
    exact MKept.refl _

theorem State.wrapKey_mk {a0 : _} : MKept a0 (@State.wrapKey a0) := by
  unfold State.wrapKey
  refine MKept.ite ?_ ?_
  · refine MKept.trans ?_ State.raise_mk
    refine MKept.mkUpd ?_
    exact MKept.refl _
  · exact MKept.refl _

theorem csrCreateBody_mk {a0 : _} {a1 : _} {a2 : _} : MKept a2 (@csrCreateBody a0 a1 a2).st := by
  unfold csrCreateBody
  dsimp only
  refine MKept.trans ?_ State.fresh_mk
  refine MKept.trans ?_ State.fresh_mk
  refine MKept.trans ?_ State.wrapKey_mk
  refine MKept.ite ?_ ?_
  · refine MKept.ite ?_ ?_
    · refine MKept.trans ?_ (MKept.put (by decide))
      refine MKept.mkUpd ?_
      refine MKept.trans ?_ State.auditBy_mk
      exact MKept.refl _
    · refine MKept.mkUpd ?_
      refine MKept.trans ?_ State.auditBy_mk
      exact MKept.refl _
  · refine MKept.trans ?_ State.auditBy_mk
    exact MKept.refl _

theorem execCsrCreate_mk {a0 : _} {a1 : _} {t : State} (h : (@execCsrCreate a0 a1) = .next t) : MKept a1 t := by
  unfold execCsrCreate at h
  injection h with h
  subst h
  refine MKept.trans ?_ auditRefused_mk
  refine MKept.trans ?_ (served_mk ?_)
  · exact MKept.refl _
  · intro v0 v1
    refine MKept.trans ?_ csrCreateBody_mk
    exact MKept.refl _

theorem State.certRecord_mk {a0 : _} {a1 : _} : MKept a0 (@State.certRecord a0 a1) := by
  unfold State.certRecord
  refine MKept.trans ?_ State.journal_mk
  exact MKept.refl _

theorem certInstallBody_mk {a0 : _} {a1 : _} {a2 : _} : MKept a2 (@certInstallBody a0 a1 a2).st := by
  unfold certInstallBody
  dsimp only
  refine MKept.iteSt ?_ ?_
  · dsimp only
    refine MKept.trans ?_ State.raise_mk
    refine MKept.trans ?_ State.bumpPair_mk
    refine MKept.mkUpd ?_
    refine MKept.trans ?_ State.fresh_mk
    refine MKept.trans ?_ State.raise_mk
    refine MKept.trans ?_ State.certRecord_mk
    iterate 4 refine MKept.trans ?_ (MKept.put (by decide))
    refine MKept.mkUpd ?_
    refine MKept.trans ?_ State.auditBy_mk
    exact MKept.refl _
  · dsimp only
    refine MKept.trans ?_ State.raise_mk
    refine MKept.trans ?_ State.certRecord_mk
    iterate 4 refine MKept.trans ?_ (MKept.put (by decide))
    refine MKept.mkUpd ?_
    refine MKept.trans ?_ State.auditBy_mk
    exact MKept.refl _

theorem execCertInstall_mk {a0 : _} {a1 : _} {t : State} (h : (@execCertInstall a0 a1) = .next t) : MKept a1 t := by
  unfold execCertInstall at h
  injection h with h
  subst h
  refine MKept.trans ?_ auditRefused_mk
  refine MKept.trans ?_ (servedTracked_mk ?_)
  · exact MKept.refl _
  · intro v0 v1
    refine MKept.trans ?_ certInstallBody_mk
    exact MKept.refl _

theorem execCertExpiring_mk {a0 : _} {a1 : _} {t : State} (h : (@execCertExpiring a0 a1) = .next t) : MKept a1 t := by
  unfold execCertExpiring at h
  injection h with h
  subst h
  refine MKept.ite ?_ ?_
  · refine MKept.trans ?_ State.raise_mk
    refine MKept.mkUpd ?_
    exact MKept.refl _
  · exact MKept.refl _

theorem execCertExpired_mk {a0 : _} {a1 : _} {t : State} (h : (@execCertExpired a0 a1) = .next t) : MKept a1 t := by
  unfold execCertExpired at h
  injection h with h
  subst h
  refine MKept.ite ?_ ?_
  · refine MKept.trans ?_ State.raise_mk
    refine MKept.trans ?_ (MKept.put (by decide))
    exact MKept.refl _
  · exact MKept.refl _

theorem State.tokenRejected_mk {a0 : _} {a1 : _} {a2 : _} {a3 : _} : MKept a0 (@State.tokenRejected a0 a1 a2 a3) := by
  unfold State.tokenRejected
  dsimp only
  refine MKept.trans ?_ State.raise_mk
  refine MKept.trans ?_ State.auditBy_mk
  refine MKept.trans ?_ (MKept.inc (by decide))
  exact MKept.refl _

theorem execSecurityStateSet_mk {a0 : _} {a1 : _} {t : State} (h : (@execSecurityStateSet a0 a1) = .next t) : MKept a1 t := by
  unfold execSecurityStateSet at h
  injection h with h
  subst h
  refine MKept.ite ?_ ?_
  · refine MKept.trans ?_ State.tokenRejected_mk
    refine MKept.trans ?_ auditRefused_mk
    refine MKept.trans ?_ queued_mk
    exact MKept.refl _
  · refine MKept.trans ?_ auditRefused_mk
    refine MKept.trans ?_ queued_mk
    exact MKept.refl _

theorem debugInstallBody_mk {a0 : _} {a1 : _} {a2 : _} : MKept a2 (@debugInstallBody a0 a1 a2).st := by
  unfold debugInstallBody
  dsimp only
  refine MKept.trans ?_ State.raise_mk
  refine MKept.mkUpd ?_
  iterate 7 refine MKept.trans ?_ (MKept.put (by decide))
  refine MKept.trans ?_ State.auditBy_mk
  exact MKept.refl _

theorem execDebugTokenInstall_mk {a0 : _} {a1 : _} {t : State} (h : (@execDebugTokenInstall a0 a1) = .next t) : MKept a1 t := by
  unfold execDebugTokenInstall at h
  injection h with h
  subst h
  refine MKept.ite ?_ ?_
  · refine MKept.trans ?_ State.tokenRejected_mk
    refine MKept.trans ?_ auditRefused_mk
    refine MKept.trans ?_ (served_mk ?_)
    · exact MKept.refl _
    · intro v0 v1
      refine MKept.trans ?_ debugInstallBody_mk
      exact MKept.refl _
  · refine MKept.trans ?_ auditRefused_mk
    refine MKept.trans ?_ (served_mk ?_)
    · exact MKept.refl _
    · intro v2 v3
      refine MKept.trans ?_ debugInstallBody_mk
      exact MKept.refl _

theorem State.dbgResume_mk {a0 : _} : MKept a0 (@State.dbgResume a0) := by
  unfold State.dbgResume
  refine MKept.ite ?_ ?_
  · exact MKept.refl _
  · refine MKept.trans ?_ (MKept.put (by decide))
    refine MKept.trans ?_ State.dropCycles_mk
    refine MKept.trans ?_ State.auditBy_mk
    exact MKept.refl _

theorem State.dbgStep_mk {a0 : _} : MKept a0 (@State.dbgStep a0) := by
  unfold State.dbgStep
  refine MKept.ite ?_ ?_
  · exact MKept.refl _
  · dsimp only
    refine MKept.trans ?_ (MKept.put (by decide))
    refine MKept.trans ?_ State.fresh_mk
    refine MKept.trans ?_ State.auditBy_mk
    exact MKept.refl _

theorem State.lineAlike_mk {a0 : _} {a1 : _} {a2 : _} : MKept a0 (@State.lineAlike a0 a1 a2) := by
  unfold State.lineAlike
  dsimp only
  refine MKept.mkUpd ?_
  exact MKept.refl _

theorem State.dbgWindowWrite_mk {a0 : _} {a1 : _} : MKept a0 (@State.dbgWindowWrite a0 a1) := by
  unfold State.dbgWindowWrite
  refine MKept.ite ?_ ?_
  · exact MKept.refl _
  · dsimp only
    refine MKept.trans ?_ State.lineAlike_mk
    refine MKept.ite ?_ ?_
    · refine MKept.trans ?_ (MKept.put (by decide))
      refine MKept.trans ?_ State.auditBy_mk
      exact MKept.refl _
    · refine MKept.trans ?_ State.auditBy_mk
      exact MKept.refl _

theorem execDbgCmdResume_mk {a0 : _} {t : State} (h : (@execDbgCmdResume a0) = .next t) : MKept a0 t := by
  unfold execDbgCmdResume at h
  injection h with h
  subst h
  refine MKept.trans ?_ State.dbgResume_mk
  exact MKept.refl _

theorem execDbgCmdStep_mk {a0 : _} {t : State} (h : (@execDbgCmdStep a0) = .next t) : MKept a0 t := by
  unfold execDbgCmdStep at h
  injection h with h
  subst h
  refine MKept.trans ?_ State.dbgStep_mk
  exact MKept.refl _

theorem execDbgCmdEndSession_mk {a0 : _} {t : State} (h : (@execDbgCmdEndSession a0) = .next t) : MKept a0 t := by
  unfold execDbgCmdEndSession at h
  injection h with h
  subst h
  refine MKept.trans ?_ State.endDebug_mk
  exact MKept.refl _

theorem execDbgWindowWrite_mk {a0 : _} {a1 : _} {t : State} (h : (@execDbgWindowWrite a0 a1) = .next t) : MKept a1 t := by
  unfold execDbgWindowWrite at h
  injection h with h
  subst h
  refine MKept.trans ?_ State.dbgWindowWrite_mk
  exact MKept.refl _

theorem execDebugDurationEnd_mk {a0 : _} {t : State} (h : (@execDebugDurationEnd a0) = .next t) : MKept a0 t := by
  unfold execDebugDurationEnd at h
  injection h with h
  subst h
  refine MKept.trans ?_ State.endDebug_mk
  exact MKept.refl _

theorem State.mpuFaults_mk {a0 : _} {a1 : _} {a2 : _} {a3 : _} {a4 : _} {a5 : _} {a6 : _} : MKept a0 (@State.mpuFaults a0 a1 a2 a3 a4 a5 a6) := by
  unfold State.mpuFaults
  dsimp only
  split
  · rename_i v0 v1
    exact MKept.refl _
  · rename_i v2 v3 v4 v5 v6 v7
    refine MKept.ite ?_ ?_
    · refine MKept.trans ?_ State.raise_mk
      refine MKept.trans ?_ (MKept.inc (by decide))
      iterate 4 refine MKept.trans ?_ (MKept.put (by decide))
      refine MKept.trans ?_ (MKept.putFlag (by decide))
      iterate 4 refine MKept.trans ?_ (MKept.put (by decide))
      exact MKept.refl _
    · split
      · rename_i v8 v9 v10
        refine MKept.trans ?_ State.overrunStops_mk
        refine MKept.trans ?_ State.raise_mk
        refine MKept.trans ?_ (MKept.inc (by decide))
        iterate 4 refine MKept.trans ?_ (MKept.put (by decide))
        refine MKept.trans ?_ (MKept.putFlag (by decide))
        iterate 4 refine MKept.trans ?_ (MKept.put (by decide))
        exact MKept.refl _
      · rename_i v11 v12
        refine MKept.ite ?_ ?_
        · refine MKept.trans ?_ State.raise_mk
          refine MKept.trans ?_ (MKept.inc (by decide))
          iterate 4 refine MKept.trans ?_ (MKept.put (by decide))
          refine MKept.trans ?_ (MKept.putFlag (by decide))
          iterate 4 refine MKept.trans ?_ (MKept.put (by decide))
          exact MKept.refl _
        · refine MKept.trans ?_ State.cause_mk
          refine MKept.trans ?_ State.raise_mk
          refine MKept.trans ?_ (MKept.inc (by decide))
          iterate 4 refine MKept.trans ?_ (MKept.put (by decide))
          refine MKept.trans ?_ (MKept.putFlag (by decide))
          iterate 4 refine MKept.trans ?_ (MKept.put (by decide))
          exact MKept.refl _

theorem execMpuFault_mk {a0 : _} {a1 : _} {a2 : _} {a3 : _} {a4 : _} {a5 : _} {a6 : _} {t : State} (h : (@execMpuFault a0 a1 a2 a3 a4 a5 a6) = .next t) : MKept a6 t := by
  unfold execMpuFault at h
  injection h with h
  subst h
  refine MKept.trans ?_ State.mpuFaults_mk
  exact MKept.refl _

theorem execMpuBankSwap_mk {a0 : _} {a1 : _} {a2 : _} {t : State} (h : (@execMpuBankSwap a0 a1 a2) = .next t) : MKept a2 t := by
  unfold execMpuBankSwap at h
  injection h with h
  subst h
  refine MKept.mkUpd ?_
  exact MKept.refl _

theorem execAuditLinkCheck_mk {a0 : _} {t : State} (h : (@execAuditLinkCheck a0) = .next t) : MKept a0 t := by
  unfold execAuditLinkCheck at h
  injection h with h
  subst h
  split
  · rename_i v0 v1
    refine MKept.trans ?_ (MKept.put (by decide))
    exact MKept.refl _
  · rename_i v2 v3 v4
    refine MKept.trans ?_ State.raise_mk
    refine MKept.trans ?_ (MKept.put (by decide))
    exact MKept.refl _

theorem auditReadBody_mk {a0 : _} {a1 : _} {a2 : _} : MKept a2 (@auditReadBody a0 a1 a2).st := by
  unfold auditReadBody
  dsimp only
  exact MKept.refl _

theorem execAuditRead_mk {a0 : _} {a1 : _} {t : State} (h : (@execAuditRead a0 a1) = .next t) : MKept a1 t := by
  unfold execAuditRead at h
  injection h with h
  subst h
  refine MKept.trans ?_ (served_mk ?_)
  · exact MKept.refl _
  · intro v0 v1
    refine MKept.trans ?_ auditReadBody_mk
    exact MKept.refl _

theorem State.onPwr_mk {a0 : _} {a1 : _} : MKept a0 (@State.onPwr a0 a1) := by
  unfold State.onPwr
  refine MKept.mkUpd ?_
  exact MKept.refl _

theorem State.showBank_mk {a0 : _} : MKept a0 (@State.showBank a0) := by
  unfold State.showBank
  refine MKept.trans ?_ (MKept.putFlag (by decide))
  exact MKept.refl _

theorem execHoldupBankCharged_mk {a0 : _} {a1 : _} {t : State} (h : (@execHoldupBankCharged a0 a1) = .next t) : MKept a1 t := by
  unfold execHoldupBankCharged at h
  injection h with h
  subst h
  refine MKept.trans ?_ State.showBank_mk
  refine MKept.trans ?_ (MKept.put (by decide))
  exact MKept.refl _

theorem State.railsDown_mk {a0 : _} : MKept a0 (@State.railsDown a0) := by
  unfold State.railsDown
  dsimp only
  iterate 11 refine MKept.trans ?_ (MKept.put (by decide))
  refine MKept.trans ?_ State.onPwr_mk
  refine MKept.mkUpd ?_
  exact MKept.refl _

theorem State.commitSome_mk {a0 : _} {a1 : _} : MKept a0 (@State.commitSome a0 a1) := by
  unfold State.commitSome
  dsimp only
  refine MKept.foldl ?_ (fun v0 v1 => ?_)
  · refine MKept.ite ?_ ?_
    · refine MKept.trans ?_ State.rollDone_mk
      exact MKept.refl _
    · exact MKept.refl _
  · refine MKept.trans ?_ State.commitRecord_mk
    exact MKept.refl _

theorem State.flushJournal_mk {a0 : _} : MKept a0 (@State.flushJournal a0) := by
  unfold State.flushJournal
  dsimp only
  refine MKept.foldl ?_ (fun v0 v1 => ?_)
  · refine MKept.trans ?_ State.commitSome_mk
    exact MKept.refl _
  · refine MKept.trans ?_ State.recorderAppend_mk
    exact MKept.refl _

theorem State.dropMirror_mk {a0 : _} : MKept a0 (@State.dropMirror a0) := by
  unfold State.dropMirror
  split
  · rename_i v0 v1
    exact MKept.refl _
  · rename_i v2 v3 v4
    refine MKept.ite ?_ ?_
    · refine MKept.mkUpd ?_
      exact MKept.refl _
    · refine MKept.mkUpd ?_
      exact MKept.refl _

theorem State.journalTimes_mk {a0 : _} : MKept a0 (@State.journalTimes a0) := by
  unfold State.journalTimes
  refine MKept.trans ?_ State.journal_mk
  refine MKept.trans ?_ State.journal_mk
  exact MKept.refl _

theorem State.retainFlush_mk {a0 : _} : MKept a0 (@State.retainFlush a0) := by
  unfold State.retainFlush
  refine MKept.ite ?_ ?_
  · exact MKept.refl _
  · refine MKept.trans ?_ State.storeMirror_mk
    exact MKept.refl _

theorem State.safeFrames_mk {a0 : _} : MKept a0 (@State.safeFrames a0) := by
  unfold State.safeFrames
  dsimp only
  refine MKept.mkUpd ?_
  exact MKept.refl _

theorem State.shed_mk {a0 : _} : MKept a0 (@State.shed a0) := by
  unfold State.shed
  dsimp only
  refine MKept.mkUpd ?_
  refine MKept.trans ?_ State.surgeStops_mk
  refine MKept.trans ?_ (MKept.put (by decide))
  refine MKept.trans ?_ (MKept.put (by decide))
  refine MKept.mkUpd ?_
  refine MKept.trans ?_ State.endDebug_mk
  exact MKept.refl _

theorem State.journalLast_mk {a0 : _} : MKept a0 (@State.journalLast a0) := by
  unfold State.journalLast
  dsimp only
  refine MKept.trans ?_ State.journalTimes_mk
  refine MKept.trans ?_ State.dropMirror_mk
  refine MKept.foldl ?_ (fun v0 v1 => ?_)
  · refine MKept.trans ?_ State.thaw_mk
    refine MKept.trans ?_ State.rollAbandon_mk
    exact MKept.refl _
  · refine MKept.trans ?_ State.deliver_mk
    exact MKept.refl _

theorem State.flushBegins_mk {a0 : _} : MKept a0 (@State.flushBegins a0) := by
  unfold State.flushBegins
  refine MKept.ite ?_ ?_
  · exact MKept.refl _
  · refine MKept.ite ?_ ?_
    · refine MKept.mkUpd ?_
      exact MKept.refl _
    · refine MKept.mkUpd ?_
      exact MKept.refl _

theorem State.downUntil_mk {a0 : _} {a1 : _} : MKept a0 (@State.downUntil a0 a1) := by
  unfold State.downUntil
  refine MKept.ite ?_ ?_
  · refine MKept.trans ?_ State.commitSome_mk
    refine MKept.trans ?_ State.journalLast_mk
    exact MKept.refl _
  · refine MKept.ite ?_ ?_
    · refine MKept.trans ?_ State.flushBegins_mk
      refine MKept.trans ?_ State.flushJournal_mk
      refine MKept.trans ?_ State.journalLast_mk
      exact MKept.refl _
    · refine MKept.ite ?_ ?_
      · refine MKept.trans ?_ State.retainFlush_mk
        refine MKept.trans ?_ State.flushJournal_mk
        refine MKept.trans ?_ State.journalLast_mk
        exact MKept.refl _
      · refine MKept.trans ?_ State.dropMirror_mk
        exact MKept.refl _

theorem State.railFails_mk {a0 : _} {a1 : _} {a2 : _} : MKept a0 (@State.railFails a0 a1 a2) := by
  unfold State.railFails
  dsimp only
  refine MKept.ite ?_ ?_
  · refine MKept.trans ?_ State.railsDown_mk
    refine MKept.trans ?_ State.latch_mk
    refine MKept.trans ?_ (MKept.inc (by decide))
    exact MKept.refl _
  · refine MKept.mkUpd ?_
    refine MKept.trans ?_ State.railsDown_mk
    refine MKept.trans ?_ State.latch_mk
    refine MKept.trans ?_ (MKept.inc (by decide))
    exact MKept.refl _

theorem State.powerdown_mk {a0 : _} {a1 : _} : MKept a0 (@State.powerdown a0 a1) := by
  unfold State.powerdown
  refine MKept.ite ?_ ?_
  · exact MKept.refl _
  · dsimp only
    split
    · rename_i v0 v1
      refine MKept.trans ?_ State.railFails_mk
      refine MKept.trans ?_ (MKept.put (by decide))
      refine MKept.trans ?_ State.downUntil_mk
      refine MKept.trans ?_ State.shed_mk
      refine MKept.trans ?_ State.raise_mk
      refine MKept.trans ?_ State.latch_mk
      refine MKept.trans ?_ (MKept.put (by decide))
      refine MKept.trans ?_ (MKept.inc (by decide))
      exact MKept.refl _
    · rename_i v2
      refine MKept.mkUpd ?_
      refine MKept.trans ?_ State.railsDown_mk
      refine MKept.trans ?_ State.latch_mk
      refine MKept.trans ?_ (MKept.put (by decide))
      refine MKept.trans ?_ State.retainFlush_mk
      refine MKept.trans ?_ State.flushJournal_mk
      refine MKept.trans ?_ State.journalLast_mk
      refine MKept.trans ?_ State.shed_mk
      refine MKept.trans ?_ State.raise_mk
      refine MKept.trans ?_ State.latch_mk
      refine MKept.trans ?_ (MKept.put (by decide))
      refine MKept.trans ?_ (MKept.inc (by decide))
      exact MKept.refl _

theorem execPowerdownStart_mk {a0 : _} {a1 : _} {t : State} (h : (@execPowerdownStart a0 a1) = .next t) : MKept a0 t := by
  unfold execPowerdownStart at h
  injection h with h
  subst h
  refine MKept.trans ?_ State.powerdown_mk
  exact MKept.refl _

theorem State.crashDown_mk {a0 : _} {a1 : _} : MKept a0 (@State.crashDown a0 a1) := by
  unfold State.crashDown
  refine MKept.ite ?_ ?_
  · exact MKept.refl _
  · refine MKept.trans ?_ State.railFails_mk
    refine MKept.trans ?_ State.dropMirror_mk
    exact MKept.refl _

theorem execCrashDown_mk {a0 : _} {a1 : _} {t : State} (h : (@execCrashDown a0 a1) = .next t) : MKept a1 t := by
  unfold execCrashDown at h
  injection h with h
  subst h
  refine MKept.trans ?_ State.crashDown_mk
  exact MKept.refl _

theorem State.trimCount_mk {a0 : _} {a1 : _} {a2 : _} : MKept a0 (@State.trimCount a0 a1 a2) := by
  unfold State.trimCount
  refine MKept.ite ?_ ?_
  · refine MKept.trans ?_ (MKept.inc (Fld.calm_next (by decide) _))
    exact MKept.refl _
  · exact MKept.refl _

theorem State.trimTimer_mk {a0 : _} {a1 : _} {a2 : _} {a3 : _} : MKept a0 (@State.trimTimer a0 a1 a2 a3) := by
  unfold State.trimTimer
  dsimp only
  refine MKept.ite ?_ ?_
  · exact MKept.refl _
  · split
    · rename_i v0 v1
      refine MKept.trans ?_ State.onPwr_mk
      exact MKept.refl _
    · rename_i v2 v3 v4
      refine MKept.ite ?_ ?_
      · refine MKept.trans ?_ State.raise_mk
        refine MKept.trans ?_ State.onPwr_mk
        refine MKept.trans ?_ State.trimCount_mk
        exact MKept.refl _
      · refine MKept.trans ?_ State.trimCount_mk
        exact MKept.refl _

theorem execTrimIdleTimer_mk {a0 : _} {a1 : _} {a2 : _} {a3 : _} {t : State} (h : (@execTrimIdleTimer a0 a1 a2 a3) = .next t) : MKept a3 t := by
  unfold execTrimIdleTimer at h
  injection h with h
  subst h
  refine MKept.trans ?_ State.trimTimer_mk
  exact MKept.refl _

theorem State.showTrim_mk {a0 : _} : MKept a0 (@State.showTrim a0) := by
  unfold State.showTrim
  dsimp only
  refine MKept.ite ?_ ?_
  · refine MKept.trans ?_ (MKept.put (by decide))
    exact MKept.refl _
  · refine MKept.trans ?_ (MKept.put (by decide))
    refine MKept.trans ?_ (MKept.put (by decide))
    exact MKept.refl _

theorem State.holdAbsent_mk {a0 : _} : MKept a0 (@State.holdAbsent a0) := by
  unfold State.holdAbsent
  refine MKept.ite ?_ ?_
  · exact MKept.refl _
  · dsimp only
    refine MKept.trans ?_ State.showTrim_mk
    refine MKept.trans ?_ State.onPwr_mk
    exact MKept.refl _

theorem State.trimConfirm_mk {a0 : _} {a1 : _} : MKept a0 (@State.trimConfirm a0 a1) := by
  unfold State.trimConfirm
  dsimp only
  refine MKept.trans ?_ State.showTrim_mk
  refine MKept.trans ?_ State.onPwr_mk
  refine MKept.foldl ?_ (fun v0 v1 => ?_)
  · exact MKept.refl _
  · refine MKept.trans ?_ State.trimCount_mk
    exact MKept.refl _

theorem execTrimEntryConfirm_mk {a0 : _} {a1 : _} {t : State} (h : (@execTrimEntryConfirm a0 a1) = .next t) : MKept a1 t := by
  unfold execTrimEntryConfirm at h
  injection h with h
  subst h
  refine MKept.trans ?_ State.trimConfirm_mk
  exact MKept.refl _

theorem State.trimExit_mk {a0 : _} {a1 : _} : MKept a0 (@State.trimExit a0 a1) := by
  unfold State.trimExit
  dsimp only
  refine MKept.trans ?_ State.showTrim_mk
  refine MKept.ite ?_ ?_
  · refine MKept.trans ?_ (MKept.put (Fld.calm_next (by decide) _))
    refine MKept.trans ?_ State.onPwr_mk
    refine MKept.trans ?_ State.onPwr_mk
    exact MKept.refl _
  · refine MKept.trans ?_ State.onPwr_mk
    exact MKept.refl _

theorem State.trimWake_mk {a0 : _} {a1 : _} {a2 : _} {a3 : _} : MKept a0 (@State.trimWake a0 a1 a2 a3) := by
  unfold State.trimWake
  dsimp only
  refine MKept.ite ?_ ?_
  · refine MKept.ite ?_ ?_
    · refine MKept.ite ?_ ?_
      · refine MKept.trans ?_ (MKept.put (Fld.calm_next (by decide) _))
        refine MKept.trans ?_ State.trimCount_mk
        refine MKept.trans ?_ State.onPwr_mk
        refine MKept.ite ?_ ?_
        · exact MKept.refl _
        · refine MKept.trans ?_ (MKept.put (Fld.calm_next (by decide) _))
          exact MKept.refl _
      · refine MKept.trans ?_ State.trimCount_mk
        refine MKept.trans ?_ State.onPwr_mk
        refine MKept.ite ?_ ?_
        · exact MKept.refl _
        · refine MKept.trans ?_ (MKept.put (Fld.calm_next (by decide) _))
          exact MKept.refl _
    · refine MKept.trans ?_ State.trimExit_mk
      refine MKept.trans ?_ State.trimConfirm_mk
      refine MKept.ite ?_ ?_
      · exact MKept.refl _
      · refine MKept.trans ?_ (MKept.put (Fld.calm_next (by decide) _))
        exact MKept.refl _
  · refine MKept.trans ?_ State.trimExit_mk
    refine MKept.ite ?_ ?_
    · exact MKept.refl _
    · refine MKept.trans ?_ (MKept.put (Fld.calm_next (by decide) _))
      exact MKept.refl _

theorem execTrimWake_mk {a0 : _} {a1 : _} {a2 : _} {a3 : _} {t : State} (h : (@execTrimWake a0 a1 a2 a3) = .next t) : MKept a3 t := by
  unfold execTrimWake at h
  injection h with h
  subst h
  refine MKept.trans ?_ State.trimWake_mk
  exact MKept.refl _

theorem dormantEnterApply_mk {a0 : _} : MKept a0 (@dormantEnterApply a0).st := by
  unfold dormantEnterApply
  refine MKept.iteSt ?_ ?_
  · dsimp only
    exact MKept.refl _
  · refine MKept.iteSt ?_ ?_
    · dsimp only
      exact MKept.refl _
    · dsimp only
      refine MKept.trans ?_ State.onPwr_mk
      refine MKept.trans ?_ State.journalTimes_mk
      refine MKept.trans ?_ State.raise_mk
      refine MKept.trans ?_ State.thaw_mk
      refine MKept.trans ?_ State.rollAbandon_mk
      iterate 4 refine MKept.trans ?_ (MKept.put (by decide))
      refine MKept.trans ?_ State.endDebug_mk
      exact MKept.refl _

theorem execDormantEnter_mk {a0 : _} {a1 : _} {t : State} (h : (@execDormantEnter a0 a1) = .next t) : MKept a1 t := by
  unfold execDormantEnter at h
  injection h with h
  subst h
  refine MKept.trans ?_ queued_mk
  exact MKept.refl _

theorem State.dormantFlush_mk {a0 : _} : MKept a0 (@State.dormantFlush a0) := by
  unfold State.dormantFlush
  refine MKept.ite ?_ ?_
  · dsimp only
    refine MKept.ite ?_ ?_
    · refine MKept.mkUpd ?_
      refine MKept.trans ?_ State.onPwr_mk
      exact MKept.refl _
    · refine MKept.trans ?_ State.onPwr_mk
      exact MKept.refl _
  · exact MKept.refl _

theorem execPartnerWakePulse_mk {a0 : _} {t : State} (h : (@execPartnerWakePulse a0) = .next t) : MKept a0 t := by
  unfold execPartnerWakePulse at h
  injection h with h
  subst h
  refine MKept.ite ?_ ?_
  · refine MKept.trans ?_ State.onPwr_mk
    exact MKept.refl _
  · exact MKept.refl _

theorem powerStatusBody_mk {a0 : _} {a1 : _} : MKept a1 (@powerStatusBody a0 a1).st := by
  unfold powerStatusBody
  split
  · rename_i v0 v1 v2 v3
    dsimp only
    refine MKept.trans ?_ (MKept.put (by decide))
    refine MKept.ofSnd v3 ?_
    refine MKept.trans ?_ State.fresh_mk
    exact MKept.refl _

theorem execPowerStatus_mk {a0 : _} {a1 : _} {t : State} (h : (@execPowerStatus a0 a1) = .next t) : MKept a1 t := by
  unfold execPowerStatus at h
  injection h with h
  subst h
  refine MKept.trans ?_ (served_mk ?_)
  · exact MKept.refl _
  · intro v0 v1
    refine MKept.trans ?_ powerStatusBody_mk
    exact MKept.refl _

theorem execPowerStats_mk {a0 : _} {a1 : _} {t : State} (h : (@execPowerStats a0 a1) = .next t) : MKept a1 t := by
  unfold execPowerStats at h
  injection h with h
  subst h
  refine MKept.trans ?_ (served_mk ?_)
  · exact MKept.refl _
  · intro v0 v1
    dsimp only
    exact MKept.refl _

theorem State.onImg_mk {a0 : _} {a1 : _} : MKept a0 (@State.onImg a0 a1) := by
  unfold State.onImg
  refine MKept.mkUpd ?_
  exact MKept.refl _

theorem State.writeSlots_mk {a0 : _} {a1 : _} : MKept a0 (@State.writeSlots a0 a1) := by
  unfold State.writeSlots
  refine MKept.trans ?_ State.onImg_mk
  exact MKept.refl _

theorem deferred_mk {a0 : _} {a1 : _} {a2 : _} {a3 : _} {a4 : _} (h3 : ∀ y0 y1, MKept y1 (a3 y0 y1)) : MKept a4 (@deferred a0 a1 a2 a3 a4) := by
  unfold deferred
  split
  · rename_i v0 v1 v2
    dsimp only
    split
    · rename_i v3 v4 v5 v6
      refine MKept.trans ?_ State.answer_mk
      refine MKept.trans ?_ State.noteSeq_mk
      exact MKept.refl _
    · rename_i v7 v8
      refine MKept.trans ?_ (h3 ..)
      refine MKept.trans ?_ State.noteSeq_mk
      exact MKept.refl _
  · rename_i v9 v10
    refine MKept.trans ?_ turnedAway_mk
    exact MKept.refl _

theorem execImageHeader_mk {a0 : _} {a1 : _} {t : State} (h : (@execImageHeader a0 a1) = .next t) : MKept a1 t := by
  unfold execImageHeader at h
  injection h with h
  subst h
  refine MKept.trans ?_ (deferred_mk ?_)
  · exact MKept.refl _
  · intro v0 v1
    dsimp only
    refine MKept.trans ?_ State.eraseWanted_mk
    refine MKept.trans ?_ State.onImg_mk
    refine MKept.trans ?_ State.writeSlots_mk
    exact MKept.refl _

theorem State.slotErased_mk {a0 : _} : MKept a0 (@State.slotErased a0) := by
  unfold State.slotErased
  split
  · rename_i v0 v1
    exact MKept.refl _
  · rename_i v2 v3 v4 v5
    dsimp only
    refine MKept.trans ?_ State.answer_mk
    refine MKept.mkUpd ?_
    refine MKept.trans ?_ State.onImg_mk
    exact MKept.refl _

theorem execImageEraseComplete_mk {a0 : _} {a1 : _} {a2 : _} {t : State} (h : (@execImageEraseComplete a0 a1 a2) = .next t) : MKept a0 t := by
  unfold execImageEraseComplete at h
  injection h with h
  subst h
  refine MKept.ite ?_ ?_
  · exact MKept.refl _
  · refine MKept.ite ?_ ?_
    · refine MKept.trans ?_ State.eraseWanted_mk
      refine MKept.trans ?_ State.eraseEnds_mk
      exact MKept.refl _
    · refine MKept.trans ?_ State.slotErased_mk
      refine MKept.trans ?_ State.eraseEnds_mk
      exact MKept.refl _

theorem State.putTransfer_mk {a0 : _} {a1 : _} : MKept a0 (@State.putTransfer a0 a1) := by
  unfold State.putTransfer
  refine MKept.mkUpd ?_
  exact MKept.refl _

theorem State.closeTransfer_mk {a0 : _} {a1 : _} : MKept a0 (@State.closeTransfer a0 a1) := by
  unfold State.closeTransfer
  refine MKept.mkUpd ?_
  exact MKept.refl _

theorem execImageChunk_mk {a0 : _} {a1 : _} {t : State} (h : (@execImageChunk a0 a1) = .next t) : MKept a1 t := by
  unfold execImageChunk at h
  injection h with h
  subst h
  refine MKept.trans ?_ (served_mk ?_)
  · exact MKept.refl _
  · intro v0 v1
    split
    · rename_i v2 v3
      dsimp only
      exact MKept.refl _
    · rename_i v4 v5 v6
      dsimp only
      refine MKept.trans ?_ State.putTransfer_mk
      exact MKept.refl _

theorem State.journalProgram_mk {a0 : _} : MKept a0 (@State.journalProgram a0) := by
  unfold State.journalProgram
  refine MKept.trans ?_ State.journal_mk
  exact MKept.refl _

theorem State.recordPairUpdate_mk {a0 : _} {a1 : _} {a2 : _} : MKept a0 (@State.recordPairUpdate a0 a1 a2) := by
  unfold State.recordPairUpdate
  refine MKept.ite ?_ ?_
  · exact MKept.refl _
  · dsimp only
    refine MKept.trans ?_ State.journalProgram_mk
    refine MKept.trans ?_ (MKept.put (by decide))
    refine MKept.trans ?_ State.onImg_mk
    exact MKept.refl _

theorem State.clearPairUpdate_mk {a0 : _} : MKept a0 (@State.clearPairUpdate a0) := by
  unfold State.clearPairUpdate
  refine MKept.ite ?_ ?_
  · refine MKept.trans ?_ State.journalProgram_mk
    refine MKept.trans ?_ (MKept.put (by decide))
    refine MKept.trans ?_ State.onImg_mk
    exact MKept.refl _
  · exact MKept.refl _

theorem State.stageImage_mk {a0 : _} {a1 : _} : MKept a0 (@State.stageImage a0 a1) := by
  unfold State.stageImage
  dsimp only
  refine MKept.trans ?_ State.recordPairUpdate_mk
  refine MKept.trans ?_ State.onImg_mk
  refine MKept.trans ?_ State.writeSlots_mk
  refine MKept.trans ?_ State.closeTransfer_mk
  exact MKept.refl _

theorem State.showImages_mk {a0 : _} : MKept a0 (@State.showImages a0) := by
  unfold State.showImages
  dsimp only
  refine MKept.trans ?_ (MKept.put (by decide))
  refine MKept.trans ?_ (MKept.put (by decide))
  refine MKept.trans ?_ (MKept.putFlag (by decide))
  refine MKept.trans ?_ (MKept.putFlag (by decide))
  exact MKept.refl _

theorem State.confirmType_mk {a0 : _} {a1 : _} : MKept a0 (@State.confirmType a0 a1) := by
  unfold State.confirmType
  dsimp only
  refine MKept.ite ?_ ?_
  · refine MKept.trans ?_ State.writeSlots_mk
    refine MKept.trans ?_ (MKept.peak (Fld.calm_next (by decide) _))
    refine MKept.ite ?_ ?_
    · refine MKept.trans ?_ State.onImg_mk
      refine MKept.trans ?_ State.writeSlots_mk
      exact MKept.refl _
    · refine MKept.trans ?_ State.writeSlots_mk
      exact MKept.refl _
  · refine MKept.trans ?_ (MKept.peak (Fld.calm_next (by decide) _))
    refine MKept.ite ?_ ?_
    · refine MKept.trans ?_ State.onImg_mk
      refine MKept.trans ?_ State.writeSlots_mk
      exact MKept.refl _
    · refine MKept.trans ?_ State.writeSlots_mk
      exact MKept.refl _

theorem State.confirmAll_mk {a0 : _} {a1 : _} : MKept a0 (@State.confirmAll a0 a1) := by
  unfold State.confirmAll
  dsimp only
  refine MKept.trans ?_ State.clearPairUpdate_mk
  refine MKept.trans ?_ State.showImages_mk
  refine MKept.ite ?_ ?_
  · refine MKept.trans ?_ State.onImg_mk
    refine MKept.trans ?_ (MKept.put (by decide))
    refine MKept.foldl ?_ (fun v0 v1 => ?_)
    · exact MKept.refl _
    · refine MKept.trans ?_ State.confirmType_mk
      exact MKept.refl _
  · refine MKept.foldl ?_ (fun v2 v3 => ?_)
    · exact MKept.refl _
    · refine MKept.trans ?_ State.confirmType_mk
      exact MKept.refl _

theorem execImageAutoConfirm_mk {a0 : _} {t : State} (h : (@execImageAutoConfirm a0) = .next t) : MKept a0 t := by
  unfold execImageAutoConfirm at h
  injection h with h
  subst h
  refine MKept.ite ?_ ?_
  · refine MKept.trans ?_ State.confirmAll_mk
    exact MKept.refl _
  · exact MKept.refl _

theorem imageConfirmBody_mk {a0 : _} {a1 : _} {a2 : _} : MKept a2 (@imageConfirmBody a0 a1 a2).st := by
  unfold imageConfirmBody
  dsimp only
  refine MKept.trans ?_ State.confirmAll_mk
  refine MKept.foldl ?_ (fun v0 v1 => ?_)
  · exact MKept.refl _
  · refine MKept.trans ?_ State.auditBy_mk
    exact MKept.refl _

theorem execImageConfirm_mk {a0 : _} {a1 : _} {t : State} (h : (@execImageConfirm a0 a1) = .next t) : MKept a1 t := by
  unfold execImageConfirm at h
  injection h with h
  subst h
  refine MKept.trans ?_ (served_mk ?_)
  · exact MKept.refl _
  · intro v0 v1
    refine MKept.trans ?_ imageConfirmBody_mk
    exact MKept.refl _

theorem execImageStatus_mk {a0 : _} {a1 : _} {t : State} (h : (@execImageStatus a0 a1) = .next t) : MKept a1 t := by
  unfold execImageStatus at h
  injection h with h
  subst h
  refine MKept.trans ?_ (served_mk ?_)
  · exact MKept.refl _
  · intro v0 v1
    dsimp only
    exact MKept.refl _

theorem State.imagesEdge_mk {a0 : _} : MKept a0 (@State.imagesEdge a0) := by
  unfold State.imagesEdge
  refine MKept.ite ?_ ?_
  · exact MKept.refl _
  · dsimp only
    refine MKept.trans ?_ State.showImages_mk
    refine MKept.trans ?_ State.onImg_mk
    exact MKept.refl _

theorem State.startStaged_mk {a0 : _} {a1 : _} {a2 : _} : MKept a0 (@State.startStaged a0 a1 a2) := by
  unfold State.startStaged
  dsimp only
  refine MKept.ite ?_ ?_
  · exact MKept.refl _
  · refine MKept.ite ?_ ?_
    · refine MKept.ite ?_ ?_
      · refine MKept.trans ?_ (MKept.put (by decide))
        refine MKept.trans ?_ (MKept.put (by decide))
        refine MKept.trans ?_ State.writeSlots_mk
        exact MKept.refl _
      · exact MKept.refl _
    · refine MKept.ite ?_ ?_
      · refine MKept.trans ?_ State.writeSlots_mk
        exact MKept.refl _
      · refine MKept.trans ?_ State.writeSlots_mk
        exact MKept.refl _

theorem State.fallBack_mk {a0 : _} {a1 : _} : MKept a0 (@State.fallBack a0 a1) := by
  unfold State.fallBack
  dsimp only
  refine MKept.ite ?_ ?_
  · exact MKept.refl _
  · refine MKept.ite ?_ ?_
    · refine MKept.trans ?_ (MKept.put (by decide))
      refine MKept.trans ?_ (MKept.put (by decide))
      refine MKept.trans ?_ State.onImg_mk
      refine MKept.trans ?_ State.writeSlots_mk
      exact MKept.refl _
    · refine MKept.trans ?_ State.writeSlots_mk
      exact MKept.refl _

theorem State.takeFallback_mk {a0 : _} : MKept a0 (@State.takeFallback a0) := by
  unfold State.takeFallback
  dsimp only
  refine MKept.trans ?_ State.showImages_mk
  refine MKept.trans ?_ State.onImg_mk
  refine MKept.trans ?_ (MKept.put (by decide))
  refine MKept.trans ?_ (MKept.put (by decide))
  refine MKept.trans ?_ (MKept.inc (by decide))
  refine MKept.trans ?_ (MKept.put (by decide))
  refine MKept.foldl ?_ (fun v0 v1 => ?_)
  · exact MKept.refl _
  · refine MKept.trans ?_ State.fallBack_mk
    exact MKept.refl _

theorem State.imagesStart_mk {a0 : _} {a1 : _} : MKept a0 (@State.imagesStart a0 a1) := by
  unfold State.imagesStart
  dsimp only
  refine MKept.ite ?_ ?_
  · refine MKept.trans ?_ State.showImages_mk
    refine MKept.ite ?_ ?_
    · refine MKept.trans ?_ State.onImg_mk
      refine MKept.foldl ?_ (fun v0 v1 => ?_)
      · refine MKept.trans ?_ (MKept.put (by decide))
        refine MKept.trans ?_ State.onImg_mk
        exact MKept.refl _
      · refine MKept.trans ?_ State.startStaged_mk
        exact MKept.refl _
    · refine MKept.trans ?_ (MKept.put (by decide))
      refine MKept.trans ?_ State.onImg_mk
      refine MKept.foldl ?_ (fun v2 v3 => ?_)
      · refine MKept.trans ?_ (MKept.put (by decide))
        refine MKept.trans ?_ State.onImg_mk
        exact MKept.refl _
      · refine MKept.trans ?_ State.startStaged_mk
        exact MKept.refl _
  · refine MKept.ite ?_ ?_
    · refine MKept.trans ?_ State.takeFallback_mk
      refine MKept.trans ?_ (MKept.put (by decide))
      refine MKept.trans ?_ State.onImg_mk
      exact MKept.refl _
    · refine MKept.trans ?_ State.showImages_mk
      refine MKept.trans ?_ State.onImg_mk
      refine MKept.trans ?_ (MKept.put (by decide))
      refine MKept.trans ?_ (MKept.put (by decide))
      refine MKept.trans ?_ State.onImg_mk
      exact MKept.refl _

theorem State.message_mk {a0 : _} {a1 : _} {a2 : _} : MKept a0 (@State.message a0 a1 a2) := by
  unfold State.message
  refine MKept.trans ?_ (MKept.put (by decide))
  refine MKept.mkUpd ?_
  exact MKept.refl _

theorem State.panelRefused_mk {a0 : _} {a1 : _} {a2 : _} : MKept a0 (@State.panelRefused a0 a1 a2) := by
  unfold State.panelRefused
  refine MKept.trans ?_ State.message_mk
  refine MKept.trans ?_ State.raise_mk
  exact MKept.refl _

theorem State.panelAct_mk {a0 : _} {a1 : _} : MKept a0 (@State.panelAct a0 a1) := by
  unfold State.panelAct
  refine MKept.mkUpd ?_
  exact MKept.refl _

theorem State.stuckReset_mk {a0 : _} {a1 : _} : MKept a0 (@State.stuckReset a0 a1) := by
  unfold State.stuckReset
  dsimp only
  refine MKept.ite ?_ ?_
  · refine MKept.trans ?_ State.showLeds_mk
    refine MKept.trans ?_ State.message_mk
    refine MKept.trans ?_ State.raise_mk
    refine MKept.trans ?_ (MKept.inc (by decide))
    refine MKept.trans ?_ (MKept.put (by decide))
    exact MKept.refl _
  · refine MKept.trans ?_ State.showLeds_mk
    refine MKept.trans ?_ State.raise_mk
    refine MKept.trans ?_ (MKept.inc (by decide))
    refine MKept.trans ?_ (MKept.put (by decide))
    exact MKept.refl _

theorem execStuckReset_mk {a0 : _} {a1 : _} {t : State} (h : (@execStuckReset a0 a1) = .next t) : MKept a1 t := by
  unfold execStuckReset at h
  injection h with h
  subst h
  refine MKept.ite ?_ ?_
  · exact MKept.refl _
  · refine MKept.trans ?_ State.stuckReset_mk
    exact MKept.refl _

theorem execResetRearm_mk {a0 : _} {t : State} (h : (@execResetRearm a0) = .next t) : MKept a0 t := by
  unfold execResetRearm at h
  injection h with h
  subst h
  refine MKept.ite ?_ ?_
  · refine MKept.trans ?_ State.showLeds_mk
    refine MKept.trans ?_ (MKept.put (by decide))
    exact MKept.refl _
  · exact MKept.refl _

theorem State.releaseAccepted_mk {a0 : _} {a1 : _} : MKept a0 (@State.releaseAccepted a0 a1) := by
  unfold State.releaseAccepted
  refine MKept.trans ?_ State.raise_mk
  refine MKept.trans ?_ (MKept.put (by decide))
  refine MKept.trans ?_ (MKept.inc (by decide))
  exact MKept.refl _

theorem execOkToRemove_mk {a0 : _} {t : State} (h : (@execOkToRemove a0) = .next t) : MKept a0 t := by
  unfold execOkToRemove at h
  injection h with h
  subst h
  refine MKept.ite ?_ ?_
  · refine MKept.trans ?_ State.showLeds_mk
    refine MKept.trans ?_ State.message_mk
    refine MKept.trans ?_ State.raise_mk
    refine MKept.trans ?_ (MKept.put (by decide))
    exact MKept.refl _
  · exact MKept.refl _

theorem execButtonClosure_mk {a0 : _} {a1 : _} {t : State} (h : (@execButtonClosure a0 a1) = .next t) : MKept a1 t := by
  unfold execButtonClosure at h
  injection h with h
  subst h
  refine MKept.ite ?_ ?_
  · refine MKept.trans ?_ (MKept.put (by split <;> decide))
    exact MKept.refl _
  · exact MKept.refl _

theorem execModuleRemove_mk {a0 : _} {t : State} (h : (@execModuleRemove a0) = .next t) : MKept a0 t := by
  unfold execModuleRemove at h
  injection h with h
  subst h
  refine MKept.mkUpd ?_
  refine MKept.trans ?_ State.onPwr_mk
  refine MKept.trans ?_ State.powerdown_mk
  iterate 5 refine MKept.trans ?_ (MKept.put (by decide))
  exact MKept.refl _

theorem State.touched_mk {a0 : _} : MKept a0 (@State.touched a0) := by
  unfold State.touched
  refine MKept.trans ?_ (MKept.put (by decide))
  exact MKept.refl _

theorem execTouchPage_mk {a0 : _} {t : State} (h : (@execTouchPage a0) = .next t) : MKept a0 t := by
  unfold execTouchPage at h
  injection h with h
  subst h
  refine MKept.ite ?_ ?_
  · exact MKept.refl _
  · dsimp only
    refine MKept.mkUpd ?_
    refine MKept.trans ?_ (MKept.put (by decide))
    refine MKept.trans ?_ State.touched_mk
    exact MKept.refl _

theorem execTouchSelect_mk {a0 : _} {t : State} (h : (@execTouchSelect a0) = .next t) : MKept a0 t := by
  unfold execTouchSelect at h
  injection h with h
  subst h
  refine MKept.ite ?_ ?_
  · exact MKept.refl _
  · dsimp only
    refine MKept.mkUpd ?_
    refine MKept.trans ?_ State.touched_mk
    exact MKept.refl _

theorem execTouchBack_mk {a0 : _} {t : State} (h : (@execTouchBack a0) = .next t) : MKept a0 t := by
  unfold execTouchBack at h
  injection h with h
  subst h
  refine MKept.ite ?_ ?_
  · exact MKept.refl _
  · dsimp only
    refine MKept.mkUpd ?_
    refine MKept.trans ?_ (MKept.put (by decide))
    refine MKept.trans ?_ State.touched_mk
    exact MKept.refl _

theorem execTouchAck_mk {a0 : _} {t : State} (h : (@execTouchAck a0) = .next t) : MKept a0 t := by
  unfold execTouchAck at h
  injection h with h
  subst h
  refine MKept.ite ?_ ?_
  · exact MKept.refl _
  · refine MKept.trans ?_ State.showLeds_mk
    dsimp only
    refine MKept.mkUpd ?_
    refine MKept.trans ?_ State.touched_mk
    exact MKept.refl _

theorem execDisplayTimeout_mk {a0 : _} {t : State} (h : (@execDisplayTimeout a0) = .next t) : MKept a0 t := by
  unfold execDisplayTimeout at h
  injection h with h
  subst h
  refine MKept.ite ?_ ?_
  · refine MKept.trans ?_ (MKept.put (by decide))
    exact MKept.refl _
  · exact MKept.refl _

theorem execPanelMessageTimeout_mk {a0 : _} {t : State} (h : (@execPanelMessageTimeout a0) = .next t) : MKept a0 t := by
  unfold execPanelMessageTimeout at h
  injection h with h
  subst h
  refine MKept.ite ?_ ?_
  · exact MKept.refl _
  · refine MKept.mkUpd ?_
    exact MKept.refl _

theorem State.showAttempts_mk {a0 : _} : MKept a0 (@State.showAttempts a0) := by
  unfold State.showAttempts
  refine MKept.foldl ?_ (fun v0 v1 => ?_)
  · exact MKept.refl _
  · refine MKept.trans ?_ (MKept.put (Fld.calm_next (by decide) _))
    exact MKept.refl _

theorem State.retireCluster_mk {a0 : _} {a1 : _} : MKept a0 (@State.retireCluster a0 a1) := by
  unfold State.retireCluster
  dsimp only
  refine MKept.ite ?_ ?_
  · refine MKept.trans ?_ State.plan_mk
    refine MKept.trans ?_ (MKept.put (by decide))
    refine MKept.trans ?_ State.journal_mk
    refine MKept.trans ?_ State.raise_mk
    refine MKept.trans ?_ (MKept.put (by decide))
    exact MKept.refl _
  · refine MKept.trans ?_ (MKept.put (by decide))
    refine MKept.trans ?_ State.journal_mk
    refine MKept.trans ?_ State.raise_mk
    refine MKept.trans ?_ (MKept.put (by decide))
    exact MKept.refl _

theorem State.isolate_mk {a0 : _} {a1 : _} : MKept a0 (@State.isolate a0 a1) := by
  unfold State.isolate
  dsimp only
  refine MKept.ite ?_ ?_
  · refine MKept.trans ?_ State.retireCluster_mk
    refine MKept.mkUpd ?_
    refine MKept.trans ?_ (MKept.put (by decide))
    refine MKept.trans ?_ (MKept.put (by decide))
    exact MKept.refl _
  · refine MKept.mkUpd ?_
    refine MKept.trans ?_ (MKept.put (by decide))
    refine MKept.trans ?_ (MKept.put (by decide))
    exact MKept.refl _

theorem State.countMismatch_mk {a0 : _} : MKept a0 (@State.countMismatch a0) := by
  unfold State.countMismatch
  refine MKept.trans ?_ (MKept.put (by decide))
  refine MKept.trans ?_ (MKept.inc (by decide))
  exact MKept.refl _

theorem State.passTxn_mk {a0 : _} {a1 : _} : MKept a0 (@State.passTxn a0 a1) := by
  unfold State.passTxn
  refine MKept.mkUpd ?_
  exact MKept.refl _

theorem State.vote_mk {a0 : _} {a1 : _} {a2 : _} {a3 : _} {a4 : _} : MKept a0 (@State.vote a0 a1 a2 a3 a4) := by
  unfold State.vote
  dsimp only
  refine MKept.ite ?_ ?_
  · exact MKept.refl _
  · refine MKept.ite ?_ ?_
    · split
      · rename_i v0 v1
        refine MKept.trans ?_ State.raise_mk
        refine MKept.trans ?_ State.countMismatch_mk
        refine MKept.trans ?_ State.passTxn_mk
        exact MKept.refl _
      · rename_i v2 v3 v4 v5
        refine MKept.ite ?_ ?_
        · refine MKept.trans ?_ State.passTxn_mk
          exact MKept.refl _
        · refine MKept.trans ?_ State.isolate_mk
          refine MKept.trans ?_ State.raise_mk
          refine MKept.trans ?_ State.countMismatch_mk
          refine MKept.trans ?_ State.passTxn_mk
          exact MKept.refl _
    · split
      · rename_i v6 v7 v8 v9
        refine MKept.ite ?_ ?_
        · refine MKept.trans ?_ State.passTxn_mk
          exact MKept.refl _
        · refine MKept.trans ?_ State.raise_mk
          refine MKept.trans ?_ State.countMismatch_mk
          refine MKept.trans ?_ State.passTxn_mk
          exact MKept.refl _
      · rename_i v10 v11
        exact MKept.refl _

theorem execTriadMismatch_mk {a0 : _} {a1 : _} {a2 : _} {a3 : _} {a4 : _} {a5 : _} {t : State} (h : (@execTriadMismatch a0 a1 a2 a3 a4 a5) = .next t) : MKept a3 t := by
  unfold execTriadMismatch at h
  injection h with h
  subst h
  refine MKept.ite ?_ ?_
  · exact MKept.refl _
  · refine MKept.trans ?_ State.vote_mk
    exact MKept.refl _

theorem State.startResync_mk {a0 : _} {a1 : _} : MKept a0 (@State.startResync a0 a1) := by
  unfold State.startResync
  dsimp only
  refine MKept.trans ?_ State.raise_mk
  refine MKept.trans ?_ State.journal_mk
  refine MKept.trans ?_ (MKept.put (by decide))
  refine MKept.trans ?_ (MKept.put (by decide))
  refine MKept.trans ?_ State.showAttempts_mk
  refine MKept.mkUpd ?_
  exact MKept.refl _

theorem State.copied_mk {a0 : _} : MKept a0 (@State.copied a0) := by
  unfold State.copied
  refine MKept.mkUpd ?_
  exact MKept.refl _

theorem execResyncStart_mk {a0 : _} {t : State} (h : (@execResyncStart a0) = .next t) : MKept a0 t := by
  unfold execResyncStart at h
  injection h with h
  subst h
  split
  · rename_i v0 v1 v2
    refine MKept.ite ?_ ?_
    · refine MKept.trans ?_ State.startResync_mk
      exact MKept.refl _
    · exact MKept.refl _
  · rename_i v3 v4
    exact MKept.refl _

theorem State.resyncFails_mk {a0 : _} : MKept a0 (@State.resyncFails a0) := by
  unfold State.resyncFails
  dsimp only
  refine MKept.trans ?_ State.raise_mk
  refine MKept.trans ?_ (MKept.put (by decide))
  refine MKept.trans ?_ (MKept.put (by decide))
  refine MKept.mkUpd ?_
  exact MKept.refl _

theorem State.judgePass_mk {a0 : _} : MKept a0 (@State.judgePass a0) := by
  unfold State.judgePass
  refine MKept.ite ?_ ?_
  · refine MKept.mkUpd ?_
    exact MKept.refl _
  · refine MKept.ite ?_ ?_
    · refine MKept.trans ?_ State.resyncFails_mk
      exact MKept.refl _
    · dsimp only
      refine MKept.mkUpd ?_
      refine MKept.trans ?_ State.copied_mk
      exact MKept.refl _

theorem execResyncPassDone_mk {a0 : _} {a1 : _} {t : State} (h : (@execResyncPassDone a0 a1) = .next t) : MKept a1 t := by
  unfold execResyncPassDone at h
  injection h with h
  subst h
  refine MKept.ite ?_ ?_
  · exact MKept.refl _
  · refine MKept.ite ?_ ?_
    · refine MKept.trans ?_ State.judgePass_mk
      refine MKept.trans ?_ (MKept.put (by decide))
      exact MKept.refl _
    · refine MKept.ite ?_ ?_
      · refine MKept.trans ?_ State.judgePass_mk
        refine MKept.mkUpd ?_
        exact MKept.refl _
      · exact MKept.refl _

theorem execResyncFinal_mk {a0 : _} {a1 : _} {t : State} (h : (@execResyncFinal a0 a1) = .next t) : MKept a1 t := by
  unfold execResyncFinal at h
  injection h with h
  subst h
  refine MKept.ite ?_ ?_
  · refine MKept.ite ?_ ?_
    · refine MKept.trans ?_ (MKept.put (by decide))
      refine MKept.trans ?_ State.copied_mk
      exact MKept.refl _
    · refine MKept.trans ?_ State.judgePass_mk
      exact MKept.refl _
  · exact MKept.refl _

theorem State.rejoins_mk {a0 : _} : MKept a0 (@State.rejoins a0) := by
  unfold State.rejoins
  refine MKept.ite ?_ ?_
  · refine MKept.trans ?_ (MKept.put (by decide))
    exact MKept.refl _
  · exact MKept.refl _

theorem execResyncDone_mk {a0 : _} {a1 : _} {t : State} (h : (@execResyncDone a0 a1) = .next t) : MKept a1 t := by
  unfold execResyncDone at h
  injection h with h
  subst h
  refine MKept.ite ?_ ?_
  · dsimp only
    refine MKept.trans ?_ State.raise_mk
    refine MKept.mkUpd ?_
    iterate 5 refine MKept.trans ?_ (MKept.put (by decide))
    exact MKept.refl _
  · exact MKept.refl _

theorem execResyncRetry_mk {a0 : _} {a1 : _} {t : State} (h : (@execResyncRetry a0 a1) = .next t) : MKept a1 t := by
  unfold execResyncRetry at h
  injection h with h
  subst h
  refine MKept.ite ?_ ?_
  · refine MKept.trans ?_ State.startResync_mk
    exact MKept.refl _
  · exact MKept.refl _

theorem execSplitClusterFault_mk {a0 : _} {a1 : _} {a2 : _} {t : State} (h : (@execSplitClusterFault a0 a1 a2) = .next t) : MKept a2 t := by
  unfold execSplitClusterFault at h
  injection h with h
  subst h
  refine MKept.ite ?_ ?_
  · exact MKept.refl _
  · refine MKept.ite ?_ ?_
    · refine MKept.trans ?_ State.raise_mk
      exact MKept.refl _
    · refine MKept.trans ?_ (State.onCluster_mk ?_)
      · exact MKept.refl _
      · intro v0
        refine MKept.trans ?_ State.splitFault_mk
        exact MKept.refl _

theorem State.atEdge_mk {a0 : _} {a1 : _} {a2 : _} {a3 : _} : MKept a0 (@State.atEdge a0 a1 a2 a3) := by
  unfold State.atEdge
  refine MKept.mkUpd ?_
  exact MKept.refl _

theorem State.surgeStep_mk {a0 : _} {a1 : _} {a2 : _} : MKept a0 (@State.surgeStep a0 a1 a2) := by
  unfold State.surgeStep
  dsimp only
  refine MKept.ite ?_ ?_
  · refine MKept.ite ?_ ?_
    · refine MKept.trans ?_ (MKept.put (by decide))
      refine MKept.mkUpd ?_
      exact MKept.refl _
    · refine MKept.trans ?_ State.raise_mk
      refine MKept.trans ?_ (MKept.put (by decide))
      refine MKept.trans ?_ (MKept.put (by decide))
      refine MKept.trans ?_ State.atEdge_mk
      refine MKept.mkUpd ?_
      refine MKept.trans ?_ (MKept.put (by decide))
      refine MKept.mkUpd ?_
      exact MKept.refl _
  · refine MKept.ite ?_ ?_
    · refine MKept.trans ?_ (MKept.put (by decide))
      refine MKept.trans ?_ (MKept.put (by decide))
      exact MKept.refl _
    · refine MKept.ite ?_ ?_
      · refine MKept.trans ?_ State.raise_mk
        refine MKept.trans ?_ State.atEdge_mk
        refine MKept.mkUpd ?_
        refine MKept.trans ?_ (MKept.put (by decide))
        refine MKept.trans ?_ (MKept.put (by decide))
        exact MKept.refl _
      · refine MKept.ite ?_ ?_
        · refine MKept.trans ?_ State.raise_mk
          refine MKept.mkUpd ?_
          refine MKept.trans ?_ (MKept.put (by decide))
          refine MKept.trans ?_ (MKept.put (by decide))
          exact MKept.refl _
        · refine MKept.trans ?_ (MKept.put (by decide))
          refine MKept.trans ?_ (MKept.put (by decide))
          exact MKept.refl _

theorem execClusterTrimExit_mk {a0 : _} {a1 : _} {a2 : _} {a3 : _} {a4 : _} {t : State} (h : (@execClusterTrimExit a0 a1 a2 a3 a4) = .next t) : MKept a4 t := by
  unfold execClusterTrimExit at h
  injection h with h
  subst h
  refine MKept.ite ?_ ?_
  · exact MKept.refl _
  · dsimp only
    refine MKept.trans ?_ State.rejoins_mk
    refine MKept.trans ?_ State.surgeStep_mk
    refine MKept.trans ?_ (MKept.put (by decide))
    refine MKept.trans ?_ State.trimExit_mk
    exact MKept.refl _

theorem State.showApplicable_mk {a0 : _} : MKept a0 (@State.showApplicable a0) := by
  unfold State.showApplicable
  refine MKept.foldl ?_ (fun v0 v1 => ?_)
  · exact MKept.refl _
  · refine MKept.ite ?_ ?_
    · refine MKept.trans ?_ (MKept.put (by decide))
      exact MKept.refl _
    · refine MKept.ite ?_ ?_
      · refine MKept.trans ?_ (MKept.put (by decide))
        exact MKept.refl _
      · exact MKept.refl _

theorem State.judgeReady_mk {s : State} : MKept s s.judgeReady := by
  unfold State.judgeReady
  split
  · exact MKept.refl _
  · rename_i h
    dsimp only
    have hr : s.get F.role = rStandby := by
      by_contra hn; exact h (.inl hn)
    have key : MKept s ((s.put F.pairState (if s.checksStand = true then 4 else 3)).setMode ((s.put F.pairState (if s.checksStand = true then 4 else 3)).get F.mode) rStandby
        (if s.checksStand = true then 1 else 0) ((s.put F.pairState (if s.checksStand = true then 4 else 3)).get F.safeCause) 0) := by
      refine State.setMode_same (MKept.put (by decide)) rfl ?_
      rw [State.get_put_ne (by decide)]; exact hr
    split
    · exact MKept.trans key State.raise_mk
    · exact key

theorem State.selftestRan_mk {a0 : _} {a1 : _} : MKept a0 (@State.selftestRan a0 a1) := by
  unfold State.selftestRan
  split
  · rename_i v0 v1
    exact MKept.refl _
  · rename_i v2 v3 v4
    dsimp only
    refine MKept.ite ?_ ?_
    · refine MKept.trans ?_ State.onPwr_mk
      exact MKept.refl _
    · refine MKept.trans ?_ State.answer_mk
      refine MKept.trans ?_ State.onPwr_mk
      exact MKept.refl _

theorem State.healthPass_mk {a0 : _} {a1 : _} : MKept a0 (@State.healthPass a0 a1) := by
  unfold State.healthPass
  refine MKept.ite ?_ ?_
  · refine MKept.trans ?_ State.selftestRan_mk
    exact MKept.refl _
  · dsimp only
    refine MKept.trans ?_ State.judgeReady_mk
    refine MKept.trans ?_ State.selftestRan_mk
    refine MKept.ite ?_ ?_
    · refine MKept.trans ?_ State.showBank_mk
      refine MKept.trans ?_ (MKept.put (by decide))
      refine MKept.trans ?_ State.fresh_mk
      refine MKept.trans ?_ State.onImg_mk
      refine MKept.trans ?_ (MKept.put (by decide))
      refine MKept.trans ?_ (MKept.put (by decide))
      exact MKept.refl _
    · refine MKept.trans ?_ State.onImg_mk
      refine MKept.trans ?_ (MKept.put (by decide))
      refine MKept.trans ?_ (MKept.put (by decide))
      exact MKept.refl _

theorem execHealthCheckPass_mk {a0 : _} {a1 : _} {t : State} (h : (@execHealthCheckPass a0 a1) = .next t) : MKept a1 t := by
  unfold execHealthCheckPass at h
  injection h with h
  subst h
  refine MKept.trans ?_ State.healthPass_mk
  exact MKept.refl _

theorem execHealthCheckDue_mk {a0 : _} {a1 : _} {t : State} (h : (@execHealthCheckDue a0 a1) = .next t) : MKept a1 t := by
  unfold execHealthCheckDue at h
  injection h with h
  subst h
  refine MKept.ite ?_ ?_
  · refine MKept.trans ?_ State.judgeReady_mk
    refine MKept.trans ?_ (MKept.put (by decide))
    exact MKept.refl _
  · exact MKept.refl _

theorem State.checkedFault_mk {a0 : _} {a1 : _} : MKept a0 (@State.checkedFault a0 a1) := by
  unfold State.checkedFault
  refine MKept.ite ?_ ?_
  · refine MKept.foldl ?_ (fun v0 v1 => ?_)
    · exact MKept.refl _
    · refine MKept.trans ?_ State.faFault_mk
      exact MKept.refl _
  · refine MKept.ite ?_ ?_
    · refine MKept.foldl ?_ (fun v2 v3 => ?_)
      · exact MKept.refl _
      · refine MKept.trans ?_ State.canFaults_mk
        exact MKept.refl _
    · refine MKept.ite ?_ ?_
      · refine MKept.foldl ?_ (fun v4 v5 => ?_)
        · exact MKept.refl _
        · refine MKept.trans ?_ State.canFaults_mk
          exact MKept.refl _
      · exact MKept.refl _

theorem execHealthReport_mk {a0 : _} {a1 : _} {t : State} (h : (@execHealthReport a0 a1) = .next t) : MKept a1 t := by
  unfold execHealthReport at h
  injection h with h
  subst h
  refine MKept.trans ?_ (served_mk ?_)
  · exact MKept.refl _
  · intro v0 v1
    dsimp only
    exact MKept.refl _

theorem State.selftest_mk {a0 : _} {a1 : _} : MKept a0 (@State.selftest a0 a1) := by
  unfold State.selftest
  dsimp only
  refine MKept.ite ?_ ?_
  · refine MKept.trans ?_ State.answer_mk
    refine MKept.trans ?_ State.judgeReady_mk
    refine MKept.foldl ?_ (fun v0 v1 => ?_)
    · exact MKept.refl _
    · refine MKept.trans ?_ (MKept.put (by decide))
      exact MKept.refl _
  · refine MKept.trans ?_ State.onPwr_mk
    refine MKept.trans ?_ State.judgeReady_mk
    refine MKept.foldl ?_ (fun v2 v3 => ?_)
    · exact MKept.refl _
    · refine MKept.trans ?_ (MKept.put (by decide))
      exact MKept.refl _

theorem execSelftest_mk {a0 : _} {a1 : _} {t : State} (h : (@execSelftest a0 a1) = .next t) : MKept a1 t := by
  unfold execSelftest at h
  injection h with h
  subst h
  refine MKept.trans ?_ (deferred_mk ?_)
  · exact MKept.refl _
  · intro v0 v1
    refine MKept.trans ?_ State.selftest_mk
    exact MKept.refl _

theorem State.pairLinkUp_mk {a0 : _} {a1 : _} : MKept a0 (@State.pairLinkUp a0 a1) := by
  unfold State.pairLinkUp
  dsimp only
  refine MKept.ite ?_ ?_
  · exact MKept.refl _
  · refine MKept.ite ?_ ?_
    · refine MKept.trans ?_ State.showLeds_mk
      refine MKept.trans ?_ State.dropSync_mk
      refine MKept.ite ?_ ?_
      · refine MKept.trans ?_ (MKept.put (by decide))
        refine MKept.mkUpd ?_
        refine MKept.trans ?_ State.raise_mk
        refine MKept.trans ?_ (MKept.put (by decide))
        exact MKept.refl _
      · refine MKept.mkUpd ?_
        refine MKept.trans ?_ State.raise_mk
        refine MKept.trans ?_ (MKept.put (by decide))
        exact MKept.refl _
    · refine MKept.trans ?_ State.showLeds_mk
      refine MKept.ite ?_ ?_
      · refine MKept.trans ?_ (MKept.put (by decide))
        refine MKept.mkUpd ?_
        refine MKept.trans ?_ State.raise_mk
        refine MKept.trans ?_ (MKept.put (by decide))
        exact MKept.refl _
      · refine MKept.mkUpd ?_
        refine MKept.trans ?_ State.raise_mk
        refine MKept.trans ?_ (MKept.put (by decide))
        exact MKept.refl _

theorem execPairLinkUp_mk {a0 : _} {a1 : _} {t : State} (h : (@execPairLinkUp a0 a1) = .next t) : MKept a1 t := by
  unfold execPairLinkUp at h
  injection h with h
  subst h
  refine MKept.trans ?_ State.pairLinkUp_mk
  exact MKept.refl _

theorem execPairLinkDegraded_mk {a0 : _} {a1 : _} {t : State} (h : (@execPairLinkDegraded a0 a1) = .next t) : MKept a1 t := by
  unfold execPairLinkDegraded at h
  injection h with h
  subst h
  refine MKept.ite ?_ ?_
  · exact MKept.refl _
  · dsimp only
    refine MKept.trans ?_ State.showLeds_mk
    refine MKept.ite ?_ ?_
    · refine MKept.trans ?_ (MKept.put (by decide))
      exact MKept.refl _
    · refine MKept.trans ?_ State.raise_mk
      refine MKept.trans ?_ (MKept.put (by decide))
      exact MKept.refl _

theorem State.heartbeatSend_mk {a0 : _} {a1 : _} {a2 : _} : MKept a0 (@State.heartbeatSend a0 a1 a2) := by
  unfold State.heartbeatSend
  refine MKept.ite ?_ ?_
  · exact MKept.refl _
  · refine MKept.ite ?_ ?_
    · refine MKept.mkUpd ?_
      exact MKept.refl _
    · dsimp only
      refine MKept.mkUpd ?_
      exact MKept.refl _

theorem execHeartbeatSend_mk {a0 : _} {a1 : _} {a2 : _} {a3 : _} {t : State} (h : (@execHeartbeatSend a0 a1 a2 a3) = .next t) : MKept a3 t := by
  unfold execHeartbeatSend at h
  injection h with h
  subst h
  refine MKept.trans ?_ State.heartbeatSend_mk
  exact MKept.refl _

theorem State.stopsHeart_mk {a0 : _} : MKept a0 (@State.stopsHeart a0) := by
  unfold State.stopsHeart
  refine MKept.trans ?_ State.fieldOff_mk
  refine MKept.trans ?_ State.refreshDrive_mk
  refine MKept.mkUpd ?_
  exact MKept.refl _

theorem execOwnHeartbeatStop_mk {a0 : _} {t : State} (h : (@execOwnHeartbeatStop a0) = .next t) : MKept a0 t := by
  unfold execOwnHeartbeatStop at h
  injection h with h
  subst h
  refine MKept.trans ?_ State.stopsHeart_mk
  exact MKept.refl _

theorem State.partnerGone_mk {a0 : _} : MKept a0 (@State.partnerGone a0) := by
  unfold State.partnerGone
  refine MKept.mkUpd ?_
  exact MKept.refl _

theorem State.linkLoss_mk {a0 : _} : MKept a0 (@State.linkLoss a0) := by
  unfold State.linkLoss
  refine MKept.ite ?_ ?_
  · exact MKept.refl _
  · dsimp only
    refine MKept.trans ?_ State.showLeds_mk
    refine MKept.trans ?_ (MKept.put (by decide))
    refine MKept.trans ?_ State.raise_mk
    refine MKept.mkUpd ?_
    exact MKept.refl _

theorem State.heartbeatLoss_mk {a0 : _} : MKept a0 (@State.heartbeatLoss a0) := by
  unfold State.heartbeatLoss
  refine MKept.ite ?_ ?_
  · exact MKept.refl _
  · dsimp only
    refine MKept.ite ?_ ?_
    · refine MKept.trans ?_ State.raise_mk
      refine MKept.mkUpd ?_
      exact MKept.refl _
    · refine MKept.ite ?_ ?_
      · refine MKept.trans ?_ State.linkLoss_mk
        refine MKept.trans ?_ (MKept.put (by decide))
        refine MKept.trans ?_ State.partnerGone_mk
        refine MKept.trans ?_ State.runLeaves_mk
        refine MKept.trans ?_ State.endCrossovers_mk
        refine MKept.trans ?_ State.raise_mk
        refine MKept.mkUpd ?_
        exact MKept.refl _
      · refine MKept.trans ?_ (MKept.put (by decide))
        refine MKept.trans ?_ State.partnerGone_mk
        refine MKept.trans ?_ State.runLeaves_mk
        refine MKept.trans ?_ State.endCrossovers_mk
        refine MKept.trans ?_ State.raise_mk
        refine MKept.mkUpd ?_
        exact MKept.refl _

theorem execHeartbeatLost_mk {a0 : _} {a1 : _} {t : State} (h : (@execHeartbeatLost a0 a1) = .next t) : MKept a1 t := by
  unfold execHeartbeatLost at h
  injection h with h
  subst h
  refine MKept.ite ?_ ?_
  · refine MKept.trans ?_ State.heartbeatLoss_mk
    exact MKept.refl _
  · exact MKept.refl _

theorem State.activeHears_mk {a0 : _} {a1 : _} : MKept a0 (@State.activeHears a0 a1) := by
  unfold State.activeHears
  dsimp only
  refine MKept.trans ?_ State.wrapKey_mk
  refine MKept.mkUpd ?_
  refine MKept.ite ?_ ?_
  · refine MKept.trans ?_ State.endCrossovers_mk
    refine MKept.ite ?_ ?_
    · refine MKept.trans ?_ State.runLeaves_mk
      refine MKept.trans ?_ (MKept.putFlag (by decide))
      refine MKept.trans ?_ (MKept.put (by decide))
      exact MKept.refl _
    · refine MKept.trans ?_ (MKept.putFlag (by decide))
      refine MKept.trans ?_ (MKept.put (by decide))
      exact MKept.refl _
  · refine MKept.ite ?_ ?_
    · refine MKept.trans ?_ State.runLeaves_mk
      refine MKept.trans ?_ (MKept.putFlag (by decide))
      refine MKept.trans ?_ (MKept.put (by decide))
      exact MKept.refl _
    · refine MKept.trans ?_ (MKept.putFlag (by decide))
      refine MKept.trans ?_ (MKept.put (by decide))
      exact MKept.refl _

theorem State.takeActive_mk {a0 : _} {a1 : _} : MKept a0 (@State.takeActive a0 a1) := by
  unfold State.takeActive
  dsimp only
  refine MKept.mkUpd ?_
  refine MKept.trans ?_ State.takeServo_mk
  exact MKept.refl _

theorem State.endsShadow_mk {a0 : _} : MKept a0 (@State.endsShadow a0) := by
  unfold State.endsShadow
  refine MKept.mkUpd ?_
  exact MKept.refl _

theorem State.followerHears_mk {a0 : _} {a1 : _} {a2 : _} {a3 : _} : MKept a0 (@State.followerHears a0 a1 a2 a3) := by
  unfold State.followerHears
  refine MKept.ite ?_ ?_
  · refine MKept.trans ?_ State.heartbeatLoss_mk
    exact MKept.refl _
  · refine MKept.ite ?_ ?_
    · exact MKept.refl _
    · dsimp only
      refine MKept.ite ?_ ?_
      · refine MKept.ite ?_ ?_
        · refine MKept.trans ?_ State.endsShadow_mk
          refine MKept.trans ?_ State.takeActive_mk
          exact MKept.refl _
        · refine MKept.trans ?_ State.takeActive_mk
          exact MKept.refl _
      · refine MKept.ite ?_ ?_
        · refine MKept.trans ?_ State.dropSync_mk
          refine MKept.trans ?_ State.takeActive_mk
          exact MKept.refl _
        · refine MKept.trans ?_ State.takeActive_mk
          exact MKept.refl _

theorem State.followStep_mk {a0 : _} {a1 : _} : MKept a0 (@State.followStep a0 a1) := by
  unfold State.followStep
  dsimp only
  refine MKept.ite ?_ ?_
  · exact MKept.refl _
  · refine MKept.trans ?_ State.raise_mk
    refine MKept.trans ?_ State.pinsStep_mk
    refine MKept.trans ?_ (MKept.put (by decide))
    exact MKept.refl _

theorem State.heartbeatReceive_mk {a0 : _} {a1 : _} : MKept a0 (@State.heartbeatReceive a0 a1) := by
  unfold State.heartbeatReceive
  refine MKept.ite ?_ ?_
  · exact MKept.refl _
  · dsimp only
    refine MKept.ite ?_ ?_
    · refine MKept.trans ?_ State.followerHears_mk
      refine MKept.trans ?_ State.partnerLossIn_mk
      refine MKept.trans ?_ State.putUnit_mk
      refine MKept.trans ?_ (MKept.put (by decide))
      refine MKept.mkUpd ?_
      refine MKept.trans ?_ State.followStep_mk
      exact MKept.refl _
    · refine MKept.ite ?_ ?_
      · refine MKept.mkUpd ?_
        refine MKept.trans ?_ State.activeHears_mk
        refine MKept.trans ?_ State.partnerLossIn_mk
        refine MKept.trans ?_ State.putUnit_mk
        refine MKept.trans ?_ (MKept.put (by decide))
        refine MKept.mkUpd ?_
        refine MKept.trans ?_ State.followStep_mk
        exact MKept.refl _
      · refine MKept.trans ?_ State.partnerLossIn_mk
        refine MKept.trans ?_ State.putUnit_mk
        refine MKept.trans ?_ (MKept.put (by decide))
        refine MKept.mkUpd ?_
        refine MKept.trans ?_ State.followStep_mk
        exact MKept.refl _

theorem execHeartbeatReceive_mk {a0 : _} {a1 : _} {t : State} (h : (@execHeartbeatReceive a0 a1) = .next t) : MKept a1 t := by
  unfold execHeartbeatReceive at h
  injection h with h
  subst h
  refine MKept.trans ?_ State.heartbeatReceive_mk
  exact MKept.refl _

theorem State.shadowCmd_mk {a0 : _} {a1 : _} : MKept a0 (@State.shadowCmd a0 a1) := by
  unfold State.shadowCmd
  dsimp only
  refine MKept.mkUpd ?_
  split
  · rename_i v0 v1
    refine MKept.trans ?_ valueWriteApply_mk
    exact MKept.refl _
  · rename_i v2 v3
    refine MKept.trans ?_ constWriteApply_mk
    exact MKept.refl _
  · rename_i v4 v5
    refine MKept.trans ?_ forceSetApply_mk
    exact MKept.refl _
  · rename_i v6 v7
    refine MKept.trans ?_ forceClearApply_mk
    exact MKept.refl _
  · rename_i v8 v9
    refine MKept.trans ?_ loopModeSetApply_mk
    exact MKept.refl _
  · rename_i v10 v11
    refine MKept.trans ?_ loopSpSetApply_mk
    exact MKept.refl _
  · rename_i v12 v13
    refine MKept.trans ?_ loopCoeffSetApply_mk
    exact MKept.refl _
  · rename_i v14 v15 v16 v17 v18 v19 v20 v21
    exact MKept.refl _

theorem State.takeAcks_mk {a0 : _} {a1 : _} : MKept a0 (@State.takeAcks a0 a1) := by
  unfold State.takeAcks
  refine MKept.ite ?_ ?_
  · exact MKept.refl _
  · dsimp only
    refine MKept.trans ?_ (MKept.put (by decide))
    refine MKept.mkUpd ?_
    exact MKept.refl _

theorem State.shadowImage_mk {a0 : _} {a1 : _} : MKept a0 (@State.shadowImage a0 a1) := by
  unfold State.shadowImage
  dsimp only
  refine MKept.mkUpd ?_
  refine MKept.trans ?_ State.takeAcks_mk
  refine MKept.foldl ?_ (fun v0 v1 => ?_)
  · exact MKept.refl _
  · refine MKept.trans ?_ State.shadowCmd_mk
    exact MKept.refl _

theorem State.frozenImage_mk {a0 : _} {a1 : _} : MKept a0 (@State.frozenImage a0 a1) := by
  unfold State.frozenImage
  refine MKept.ite ?_ ?_
  · exact MKept.refl _
  · dsimp only
    refine MKept.ite ?_ ?_
    · refine MKept.mkUpd ?_
      exact MKept.refl _
    · refine MKept.trans ?_ State.shadowImage_mk
      refine MKept.mkUpd ?_
      exact MKept.refl _

theorem execFrozenImageReceive_mk {a0 : _} {a1 : _} {t : State} (h : (@execFrozenImageReceive a0 a1) = .next t) : MKept a1 t := by
  unfold execFrozenImageReceive at h
  injection h with h
  subst h
  refine MKept.trans ?_ State.frozenImage_mk
  exact MKept.refl _

theorem execTrackingLineReceive_mk {a0 : _} {a1 : _} {a2 : _} {t : State} (h : (@execTrackingLineReceive a0 a1 a2) = .next t) : MKept a2 t := by
  unfold execTrackingLineReceive at h
  injection h with h
  subst h
  refine MKept.ite ?_ ?_
  · refine MKept.mkUpd ?_
    exact MKept.refl _
  · exact MKept.refl _

theorem execOutputCloseReceive_mk {a0 : _} {a1 : _} {a2 : _} {t : State} (h : (@execOutputCloseReceive a0 a1 a2) = .next t) : MKept a2 t := by
  unfold execOutputCloseReceive at h
  injection h with h
  subst h
  refine MKept.ite ?_ ?_
  · refine MKept.mkUpd ?_
    exact MKept.refl _
  · exact MKept.refl _

theorem statusFields_calm : statusFields.all (fun f => f.calm) = true := by decide +kernel

theorem State.takeStatuses_mk {s : State} {l : List (Nat × Nat)} : MKept s (s.takeStatuses l) := by
  unfold State.takeStatuses
  refine MKept.regSteps (t := { s with regs := s.regs.filter (fun r => !isStatus r.1) })
    (MKept.regDrop (MKept.refl s) (by decide +kernel) (by decide +kernel)) (fun r a => ?_)
  unfold takeStatus
  split
  · rename_i f hf
    refine .inr ⟨_, _, ?_, rfl⟩
    have hq := List.all_eq_true.1 statusFields_calm f (List.mem_of_find?_eq_some hf)
    have hp := List.find?_some hf
    simp only [Bool.and_eq_true, beq_iff_eq, decide_eq_true_eq] at hp
    obtain ⟨⟨hl, hm⟩, hi⟩ := hp
    have e : fldKey f ((a.1 - f.home) / 4194304) = a.1 := by simp only [fldKey, Nat.mod_eq_of_lt hi]; omega
    have := e ▸ f.calm_keys hq ((a.1 - f.home) / 4194304)
    simpa [not_or] using this
  · exact .inl rfl

theorem State.takeRecord_mk {a0 : _} {a1 : _} : MKept a0 (@State.takeRecord a0 a1) := by
  unfold State.takeRecord
  refine MKept.trans ?_ State.journalNew_mk
  exact MKept.refl _

theorem State.takeEpochs_mk {a0 : _} {a1 : _} : MKept a0 (@State.takeEpochs a0 a1) := by
  unfold State.takeEpochs
  refine MKept.foldl ?_ (fun v0 v1 => ?_)
  · exact MKept.refl _
  · refine MKept.ite ?_ ?_
    · refine MKept.mkUpd ?_
      exact MKept.refl _
    · refine MKept.ite ?_ ?_
      · exact MKept.refl _
      · refine MKept.trans ?_ State.putUnit_mk
        exact MKept.refl _

theorem State.standbySnapshot_mk {a0 : _} {a1 : _} : MKept a0 (@State.standbySnapshot a0 a1) := by
  unfold State.standbySnapshot
  refine MKept.ite ?_ ?_
  · refine MKept.trans ?_ State.takeSnapshot_mk
    exact MKept.refl _
  · exact MKept.refl _

theorem State.takeSlots_mk {a0 : _} {a1 : _} {a2 : _} : MKept a0 (@State.takeSlots a0 a1 a2) := by
  unfold State.takeSlots
  refine MKept.trans ?_ (MKept.put (by decide))
  refine MKept.trans ?_ (MKept.put (by decide))
  refine MKept.mkUpd ?_
  exact MKept.refl _

theorem State.startCompute_mk {a0 : _} {a1 : _} : MKept a0 (@State.startCompute a0 a1) := by
  unfold State.startCompute
  dsimp only
  refine MKept.trans ?_ State.releaseAll_mk
  refine MKept.trans ?_ State.loopIntake_mk
  refine MKept.mkUpd ?_
  refine MKept.ite ?_ ?_
  · refine MKept.mkUpd ?_
    exact MKept.refl _
  · refine MKept.trans ?_ State.raise_mk
    refine MKept.trans ?_ (MKept.put (by decide))
    refine MKept.mkUpd ?_
    exact MKept.refl _

theorem State.takeCommands_mk {a0 : _} {a1 : _} : MKept a0 (@State.takeCommands a0 a1) := by
  unfold State.takeCommands
  dsimp only
  refine MKept.trans ?_ State.countSessions_mk
  refine MKept.mkUpd ?_
  exact MKept.refl _

theorem State.serveNow_mk {a0 : _} {a1 : _} : MKept a0 (@State.serveNow a0 a1) := by
  unfold State.serveNow
  refine MKept.trans ?_ State.showLeds_mk
  refine MKept.trans ?_ State.canShow_mk
  refine MKept.trans ?_ State.timeTakesOver_mk
  refine MKept.trans ?_ State.lanesTakeService_mk
  refine MKept.trans ?_ State.fieldTakeover_mk
  exact MKept.refl _

theorem State.noteTakeover_mk {a0 : _} {a1 : _} {a2 : _} {a3 : _} {a4 : _} {a5 : _} : MKept a0 (@State.noteTakeover a0 a1 a2 a3 a4 a5) := by
  unfold State.noteTakeover
  dsimp only
  refine MKept.trans ?_ State.raise_mk
  refine MKept.trans ?_ (MKept.put (by decide))
  refine MKept.trans ?_ (MKept.put (by decide))
  refine MKept.trans ?_ (MKept.inc (by decide))
  exact MKept.refl _

theorem State.partnerFailed_mk {a0 : _} : MKept a0 (@State.partnerFailed a0) := by
  unfold State.partnerFailed
  refine MKept.trans ?_ (MKept.put (by decide))
  refine MKept.trans ?_ State.bumpUnit_mk
  dsimp only
  refine MKept.mkUpd ?_
  refine MKept.trans ?_ State.partnerGone_mk
  exact MKept.refl _

theorem State.takeNow_mk {a0 : _} {a1 : _} {a2 : _} : MKept a0 (@State.takeNow a0 a1 a2) := by
  unfold State.takeNow
  refine MKept.ite ?_ ?_
  · refine MKept.trans ?_ State.startCompute_mk
    refine MKept.mkUpd ?_
    exact MKept.refl _
  · exact MKept.refl _

theorem State.takeRedo_mk {a0 : _} {a1 : _} {a2 : _} : MKept a0 (@State.takeRedo a0 a1 a2) := by
  unfold State.takeRedo
  dsimp only
  refine MKept.ite ?_ ?_
  · refine MKept.trans ?_ State.startCompute_mk
    refine MKept.mkUpd ?_
    exact MKept.refl _
  · refine MKept.mkUpd ?_
    exact MKept.refl _

theorem State.backTo_mk {a0 : _} {a1 : _} : MKept a0 (@State.backTo a0 a1) := by
  unfold State.backTo
  split
  · rename_i v0 v1
    exact MKept.refl _
  · rename_i v2 v3 v4
    refine MKept.ite ?_ ?_
    · exact MKept.refl _
    · dsimp only
      split
      · rename_i v5 v6 v7
        refine MKept.foldl ?_ (fun v8 v9 => ?_)
        · refine MKept.trans ?_ State.takeStatuses_mk
          refine MKept.mkUpd ?_
          exact MKept.refl _
        · refine MKept.trans ?_ State.shadowCmd_mk
          exact MKept.refl _
      · rename_i v10 v11
        refine MKept.trans ?_ State.takeStatuses_mk
        refine MKept.mkUpd ?_
        exact MKept.refl _

theorem State.planRuns_mk {a0 : _} {a1 : _} : MKept a0 (@State.planRuns a0 a1) := by
  unfold State.planRuns
  refine MKept.ite ?_ ?_
  · dsimp only
    refine MKept.trans ?_ State.raise_mk
    refine MKept.trans ?_ (MKept.inc (by decide))
    refine MKept.mkUpd ?_
    exact MKept.refl _
  · dsimp only
    refine MKept.ite ?_ ?_
    · refine MKept.mkUpd ?_
      exact MKept.refl _
    · refine MKept.trans ?_ State.panelRefused_mk
      refine MKept.trans ?_ (MKept.put (by decide))
      refine MKept.mkUpd ?_
      exact MKept.refl _

theorem execPlannedSwitchover_mk {a0 : _} {t : State} (h : (@execPlannedSwitchover a0) = .next t) : MKept a0 t := by
  unfold execPlannedSwitchover at h
  injection h with h
  subst h
  refine MKept.ite ?_ ?_
  · exact MKept.refl _
  · split
    · rename_i v0 v1 v2
      refine MKept.ite ?_ ?_
      · refine MKept.trans ?_ State.planRuns_mk
        exact MKept.refl _
      · exact MKept.refl _
    · rename_i v3 v4
      refine MKept.ite ?_ ?_
      · dsimp only
        refine MKept.mkUpd ?_
        refine MKept.trans ?_ (MKept.inc (by decide))
        exact MKept.refl _
      · exact MKept.refl _

theorem State.mapInto_mk {a0 : _} {a1 : _} : MKept a0 (@State.mapInto a0 a1) := by
  unfold State.mapInto
  dsimp only
  refine MKept.trans ?_ State.journalLoad_mk
  refine MKept.trans ?_ State.loadProgram_mk
  refine MKept.mkUpd ?_
  refine MKept.trans ?_ State.purgeCoeffs_mk
  refine MKept.trans ?_ State.clearForces_mk
  refine MKept.trans ?_ State.dropCycles_mk
  exact MKept.refl _

theorem State.notePromoted_mk {a0 : _} : MKept a0 (@State.notePromoted a0) := by
  unfold State.notePromoted
  refine MKept.trans ?_ State.journalProgram_mk
  refine MKept.trans ?_ State.raise_mk
  refine MKept.trans ?_ (MKept.put (by decide))
  refine MKept.trans ?_ (MKept.put (by decide))
  exact MKept.refl _

theorem State.noteReverted_mk {a0 : _} : MKept a0 (@State.noteReverted a0) := by
  unfold State.noteReverted
  refine MKept.trans ?_ State.journalProgram_mk
  refine MKept.trans ?_ State.raise_mk
  dsimp only
  refine MKept.mkUpd ?_
  refine MKept.trans ?_ (MKept.put (by decide))
  exact MKept.refl _

theorem State.keepOld_mk {a0 : _} : MKept a0 (@State.keepOld a0) := by
  unfold State.keepOld
  refine MKept.mkUpd ?_
  exact MKept.refl _

theorem State.handsChange_mk {a0 : _} {a1 : _} : MKept a0 (@State.handsChange a0 a1) := by
  unfold State.handsChange
  refine MKept.ite ?_ ?_
  · refine MKept.trans ?_ State.keepOld_mk
    refine MKept.trans ?_ State.notePromoted_mk
    exact MKept.refl _
  · refine MKept.ite ?_ ?_
    · refine MKept.trans ?_ State.noteReverted_mk
      exact MKept.refl _
    · exact MKept.refl _

theorem State.takesChange_mk {a0 : _} : MKept a0 (@State.takesChange a0) := by
  unfold State.takesChange
  dsimp only
  refine MKept.trans ?_ (MKept.put (by decide))
  refine MKept.mkUpd ?_
  refine MKept.trans ?_ State.notePromoted_mk
  exact MKept.refl _

theorem State.takesBack_mk {a0 : _} {a1 : _} : MKept a0 (@State.takesBack a0 a1) := by
  unfold State.takesBack
  split
  · rename_i v0 v1
    dsimp only
    refine MKept.trans ?_ State.noteReverted_mk
    refine MKept.mkUpd ?_
    refine MKept.trans ?_ State.mapInto_mk
    exact MKept.refl _
  · rename_i v2
    exact MKept.refl _

theorem execPairStatus_mk {a0 : _} {a1 : _} {t : State} (h : (@execPairStatus a0 a1) = .next t) : MKept a1 t := by
  unfold execPairStatus at h
  injection h with h
  subst h
  refine MKept.trans ?_ (served_mk ?_)
  · exact MKept.refl _
  · intro v0 v1
    dsimp only
    exact MKept.refl _

theorem switchoverApply_mk {a0 : _} : MKept a0 (@switchoverApply a0).st := by
  unfold switchoverApply
  split
  · rename_i v0 v1 v2 v3
    dsimp only
    exact MKept.refl _
  · rename_i v4 v5
    dsimp only
    refine MKept.trans ?_ State.planAt_mk
    exact MKept.refl _

theorem execSwitchover_mk {a0 : _} {a1 : _} {t : State} (h : (@execSwitchover a0 a1) = .next t) : MKept a1 t := by
  unfold execSwitchover at h
  injection h with h
  subst h
  refine MKept.trans ?_ queued_mk
  exact MKept.refl _

theorem resyncApply_mk {a0 : _} : MKept a0 (@resyncApply a0).st := by
  unfold resyncApply
  split
  · rename_i v0 v1 v2 v3
    dsimp only
    exact MKept.refl _
  · rename_i v4 v5
    dsimp only
    refine MKept.trans ?_ (MKept.put (by decide))
    refine MKept.trans ?_ (MKept.put (by decide))
    refine MKept.mkUpd ?_
    exact MKept.refl _

theorem execResyncStandby_mk {a0 : _} {a1 : _} {t : State} (h : (@execResyncStandby a0 a1) = .next t) : MKept a1 t := by
  unfold execResyncStandby at h
  injection h with h
  subst h
  refine MKept.trans ?_ queued_mk
  exact MKept.refl _

theorem programStageBody_mk {a0 : _} {a1 : _} {a2 : _} : MKept a2 (@programStageBody a0 a1 a2).st := by
  unfold programStageBody
  dsimp only
  refine MKept.mkUpd ?_
  exact MKept.refl _

theorem execProgramStage_mk {a0 : _} {a1 : _} {t : State} (h : (@execProgramStage a0 a1) = .next t) : MKept a1 t := by
  unfold execProgramStage at h
  injection h with h
  subst h
  refine MKept.trans ?_ (served_mk ?_)
  · exact MKept.refl _
  · intro v0 v1
    refine MKept.trans ?_ programStageBody_mk
    exact MKept.refl _

theorem State.stageProgram_mk {a0 : _} {a1 : _} {a2 : _} : MKept a0 (@State.stageProgram a0 a1 a2) := by
  unfold State.stageProgram
  refine MKept.ite ?_ ?_
  · refine MKept.mkUpd ?_
    exact MKept.refl _
  · refine MKept.trans ?_ State.putRt_mk
    exact MKept.refl _

theorem programChunkBody_mk {a0 : _} {a1 : _} {a2 : _} {a3 : _} : MKept a3 (@programChunkBody a0 a1 a2 a3).st := by
  unfold programChunkBody
  split
  · rename_i v0 v1
    dsimp only
    exact MKept.refl _
  · rename_i v2 v3 v4
    dsimp only
    refine MKept.iteSt ?_ ?_
    · dsimp only
      refine MKept.trans ?_ State.putTransfer_mk
      exact MKept.refl _
    · split
      · rename_i v5
        dsimp only
        refine MKept.trans ?_ State.closeTransfer_mk
        exact MKept.refl _
      · rename_i v6 v7
        refine MKept.iteSt ?_ ?_
        · dsimp only
          refine MKept.trans ?_ State.stageProgram_mk
          refine MKept.trans ?_ State.closeTransfer_mk
          exact MKept.refl _
        · dsimp only
          refine MKept.trans ?_ State.closeTransfer_mk
          exact MKept.refl _

theorem execProgramChunk_mk {a0 : _} {a1 : _} {a2 : _} {t : State} (h : (@execProgramChunk a0 a1 a2) = .next t) : MKept a2 t := by
  unfold execProgramChunk at h
  injection h with h
  subst h
  refine MKept.trans ?_ (servedTracked_mk ?_)
  · exact MKept.refl _
  · intro v0 v1
    refine MKept.trans ?_ programChunkBody_mk
    exact MKept.refl _

theorem shadowStartApply_mk {a0 : _} : MKept a0 (@shadowStartApply a0).st := by
  unfold shadowStartApply
  split
  · rename_i v0 v1 v2 v3
    dsimp only
    exact MKept.refl _
  · rename_i v4 v5
    dsimp only
    refine MKept.trans ?_ (MKept.put (by decide))
    refine MKept.mkUpd ?_
    exact MKept.refl _

theorem execShadowStart_mk {a0 : _} {a1 : _} {t : State} (h : (@execShadowStart a0 a1) = .next t) : MKept a1 t := by
  unfold execShadowStart at h
  injection h with h
  subst h
  refine MKept.trans ?_ queued_mk
  exact MKept.refl _

theorem State.runBegins_mk {a0 : _} : MKept a0 (@State.runBegins a0) := by
  unfold State.runBegins
  dsimp only
  iterate 8 refine MKept.trans ?_ (MKept.put (by decide))
  refine MKept.mkUpd ?_
  exact MKept.refl _

theorem State.showCmp_mk {a0 : _} : MKept a0 (@State.showCmp a0) := by
  unfold State.showCmp
  dsimp only
  iterate 3 refine MKept.trans ?_ (MKept.put (by decide))
  exact MKept.refl _

theorem State.noteDiff_mk {a0 : _} {a1 : _} {a2 : _} {a3 : _} {a4 : _} : MKept a0 (@State.noteDiff a0 a1 a2 a3 a4) := by
  unfold State.noteDiff
  split
  · rename_i v0 v1 v2 v3
    split
    · rename_i v4 v5 v6
      dsimp only
      refine MKept.mkUpd ?_
      refine MKept.ofSnd v3 ?_
      split
      · rename_i v7 v8 v9
        dsimp only
        exact MKept.refl _
      · rename_i v10 v11
        refine MKept.trans ?_ State.fresh_mk
        exact MKept.refl _
    · rename_i v12 v13
      dsimp only
      refine MKept.ite ?_ ?_
      · refine MKept.mkUpd ?_
        refine MKept.ofSnd v3 ?_
        split
        · rename_i v14 v15 v16
          dsimp only
          exact MKept.refl _
        · rename_i v17 v18
          refine MKept.trans ?_ State.fresh_mk
          exact MKept.refl _
      · refine MKept.trans ?_ State.raise_mk
        refine MKept.mkUpd ?_
        refine MKept.ofSnd v3 ?_
        split
        · rename_i v19 v20 v21
          dsimp only
          exact MKept.refl _
        · rename_i v22 v23
          refine MKept.trans ?_ State.fresh_mk
          exact MKept.refl _

theorem State.shadowCompare_mk {a0 : _} {a1 : _} : MKept a0 (@State.shadowCompare a0 a1) := by
  unfold State.shadowCompare
  dsimp only
  refine MKept.ite ?_ ?_
  · exact MKept.refl _
  · refine MKept.ite ?_ ?_
    · exact MKept.refl _
    · refine MKept.trans ?_ State.showCmp_mk
      refine MKept.foldl ?_ (fun v0 v1 => ?_)
      · refine MKept.trans ?_ (MKept.peak (by decide))
        refine MKept.trans ?_ (MKept.inc (by decide))
        refine MKept.trans ?_ (MKept.put (by decide))
        exact MKept.refl _
      · refine MKept.trans ?_ State.noteDiff_mk
        exact MKept.refl _

theorem execShadowCompare_mk {a0 : _} {a1 : _} {t : State} (h : (@execShadowCompare a0 a1) = .next t) : MKept a1 t := by
  unfold execShadowCompare at h
  injection h with h
  subst h
  refine MKept.trans ?_ State.shadowCompare_mk
  exact MKept.refl _

theorem shadowGetBody_mk {a0 : _} {a1 : _} {a2 : _} : MKept a2 (@shadowGetBody a0 a1 a2).st := by
  unfold shadowGetBody
  dsimp only
  refine MKept.ite ?_ ?_
  · refine MKept.mkUpd ?_
    exact MKept.refl _
  · refine MKept.trans ?_ State.showCmp_mk
    refine MKept.mkUpd ?_
    exact MKept.refl _

theorem execShadowCompareGet_mk {a0 : _} {a1 : _} {t : State} (h : (@execShadowCompareGet a0 a1) = .next t) : MKept a1 t := by
  unfold execShadowCompareGet at h
  injection h with h
  subst h
  refine MKept.trans ?_ (served_mk ?_)
  · exact MKept.refl _
  · intro v0 v1
    refine MKept.trans ?_ shadowGetBody_mk
    exact MKept.refl _

theorem State.promoteCluster_mk {a0 : _} {a1 : _} : MKept a0 (@State.promoteCluster a0 a1) := by
  unfold State.promoteCluster
  split
  · rename_i v0 v1
    exact MKept.refl _
  · rename_i v2 v3 v4
    dsimp only
    refine MKept.trans ?_ State.showRuntime_mk
    refine MKept.mkUpd ?_
    refine MKept.trans ?_ State.coldCluster_mk
    refine MKept.trans ?_ State.loadProgram_mk
    refine MKept.mkUpd ?_
    refine MKept.trans ?_ State.dropCycles_mk
    exact MKept.refl _

theorem State.promoteOwn_mk {a0 : _} {a1 : _} : MKept a0 (@State.promoteOwn a0 a1) := by
  unfold State.promoteOwn
  split
  · rename_i v0 v1
    exact MKept.refl _
  · rename_i v2 v3 v4
    dsimp only
    refine MKept.trans ?_ (MKept.put (by decide))
    refine MKept.mkUpd ?_
    refine MKept.trans ?_ State.restartProgram_mk
    refine MKept.trans ?_ State.journalLoad_mk
    refine MKept.trans ?_ State.loadProgram_mk
    refine MKept.trans ?_ State.purgeCoeffs_mk
    refine MKept.mkUpd ?_
    refine MKept.trans ?_ State.dropCycles_mk
    exact MKept.refl _

theorem promoteApply_mk {a0 : _} {a1 : _} {a2 : _} : MKept a2 (@promoteApply a0 a1 a2).st := by
  unfold promoteApply
  split
  · rename_i v0 v1 v2 v3
    dsimp only
    exact MKept.refl _
  · rename_i v4 v5
    dsimp only
    refine MKept.iteSt ?_ ?_
    · dsimp only
      refine MKept.trans ?_ State.showRuntime_mk
      refine MKept.trans ?_ State.raise_mk
      refine MKept.trans ?_ (State.onCluster_mk ?_)
      · refine MKept.trans ?_ (State.onCluster_mk ?_)
        · refine MKept.trans ?_ State.promoteOwn_mk
          refine MKept.trans ?_ State.auditBy_mk
          exact MKept.refl _
        · intro v6
          refine MKept.trans ?_ State.promoteCluster_mk
          exact MKept.refl _
      · intro v7
        refine MKept.trans ?_ State.promoteCluster_mk
        exact MKept.refl _
    · dsimp only
      refine MKept.mkUpd ?_
      refine MKept.trans ?_ State.auditBy_mk
      exact MKept.refl _

theorem execPromote_mk {a0 : _} {a1 : _} {t : State} (h : (@execPromote a0 a1) = .next t) : MKept a1 t := by
  unfold execPromote at h
  injection h with h
  subst h
  refine MKept.trans ?_ queued_mk
  exact MKept.refl _

theorem revertApply_mk {a0 : _} {a1 : _} : MKept a1 (@revertApply a0 a1).st := by
  unfold revertApply
  split
  · rename_i v0 v1 v2 v3
    dsimp only
    exact MKept.refl _
  · rename_i v4 v5
    dsimp only
    refine MKept.iteSt ?_ ?_
    · dsimp only
      refine MKept.trans ?_ State.raise_mk
      refine MKept.trans ?_ (MKept.put (by decide))
      refine MKept.mkUpd ?_
      refine MKept.trans ?_ State.auditBy_mk
      exact MKept.refl _
    · dsimp only
      refine MKept.mkUpd ?_
      refine MKept.trans ?_ State.auditBy_mk
      exact MKept.refl _

theorem execRevert_mk {a0 : _} {a1 : _} {t : State} (h : (@execRevert a0 a1) = .next t) : MKept a1 t := by
  unfold execRevert at h
  injection h with h
  subst h
  refine MKept.trans ?_ queued_mk
  exact MKept.refl _

theorem State.revertHandover_mk {a0 : _} : MKept a0 (@State.revertHandover a0) := by
  unfold State.revertHandover
  refine MKept.ite ?_ ?_
  · refine MKept.ite ?_ ?_
    · exact MKept.refl _
    · refine MKept.ite ?_ ?_
      · refine MKept.mkUpd ?_
        exact MKept.refl _
      · dsimp only
        refine MKept.trans ?_ State.raise_mk
        refine MKept.mkUpd ?_
        refine MKept.trans ?_ (MKept.inc (by decide))
        exact MKept.refl _
  · refine MKept.ite ?_ ?_
    · dsimp only
      refine MKept.mkUpd ?_
      refine MKept.trans ?_ (MKept.inc (by decide))
      exact MKept.refl _
    · exact MKept.refl _

theorem execRevertHandover_mk {a0 : _} {t : State} (h : (@execRevertHandover a0) = .next t) : MKept a0 t := by
  unfold execRevertHandover at h
  injection h with h
  subst h
  refine MKept.trans ?_ State.revertHandover_mk
  exact MKept.refl _

theorem State.confirmChange_mk {a0 : _} {a1 : _} : MKept a0 (@State.confirmChange a0 a1) := by
  unfold State.confirmChange
  dsimp only
  refine MKept.trans ?_ State.journalProgram_mk
  refine MKept.trans ?_ State.raise_mk
  refine MKept.trans ?_ (MKept.put (by decide))
  refine MKept.trans ?_ (MKept.put (by decide))
  refine MKept.mkUpd ?_
  exact MKept.refl _

theorem changeConfirmApply_mk {a0 : _} {a1 : _} : MKept a1 (@changeConfirmApply a0 a1).st := by
  unfold changeConfirmApply
  split
  · rename_i v0 v1 v2 v3
    dsimp only
    exact MKept.refl _
  · rename_i v4 v5
    dsimp only
    refine MKept.trans ?_ State.confirmChange_mk
    refine MKept.trans ?_ State.auditBy_mk
    exact MKept.refl _

theorem execChangeConfirm_mk {a0 : _} {a1 : _} {t : State} (h : (@execChangeConfirm a0 a1) = .next t) : MKept a1 t := by
  unfold execChangeConfirm at h
  injection h with h
  subst h
  refine MKept.trans ?_ queued_mk
  exact MKept.refl _

theorem execConfirmWindowEnd_mk {a0 : _} {t : State} (h : (@execConfirmWindowEnd a0) = .next t) : MKept a0 t := by
  unfold execConfirmWindowEnd at h
  injection h with h
  subst h
  refine MKept.ite ?_ ?_
  · refine MKept.trans ?_ State.confirmChange_mk
    exact MKept.refl _
  · exact MKept.refl _

theorem execKlStatus_mk {a0 : _} {a1 : _} {t : State} (h : (@execKlStatus a0 a1) = .next t) : MKept a1 t := by
  unfold execKlStatus at h
  injection h with h
  subst h
  refine MKept.trans ?_ (served_mk ?_)
  · exact MKept.refl _
  · intro v0 v1
    dsimp only
    exact MKept.refl _

theorem State.triggerField_mk {a0 : _} {a1 : _} {a2 : _} {a3 : _} : MKept a0 (@State.triggerField a0 a1 a2 a3) := by
  unfold State.triggerField
  refine MKept.ite ?_ ?_
  · refine MKept.trans ?_ State.encPreset_mk
    exact MKept.refl _
  · refine MKept.ite ?_ ?_
    · refine MKept.ite ?_ ?_
      · refine MKept.trans ?_ State.canRecover_mk
        exact MKept.refl _
      · exact MKept.refl _
    · refine MKept.ite ?_ ?_
      · refine MKept.ite ?_ ?_
        · refine MKept.mkUpd ?_
          exact MKept.refl _
        · refine MKept.ite ?_ ?_
          · refine MKept.trans ?_ State.dbgResume_mk
            exact MKept.refl _
          · refine MKept.ite ?_ ?_
            · refine MKept.trans ?_ State.dbgStep_mk
              exact MKept.refl _
            · refine MKept.trans ?_ State.endDebug_mk
              exact MKept.refl _
      · exact MKept.refl _

theorem State.laneModeWritten_mk {a0 : _} {a1 : _} : MKept a0 (@State.laneModeWritten a0 a1) := by
  unfold State.laneModeWritten
  dsimp only
  refine MKept.ite ?_ ?_
  · exact MKept.refl _
  · refine MKept.mkUpd ?_
    refine MKept.trans ?_ State.putLane_mk
    iterate 4 refine MKept.trans ?_ (MKept.put (by decide))
    exact MKept.refl _

theorem State.written_mk {a0 : _} {a1 : _} {a2 : _} : MKept a0 (@State.written a0 a1 a2) := by
  unfold State.written
  dsimp only
  refine MKept.ite ?_ ?_
  · refine MKept.trans ?_ State.laneModeWritten_mk
    exact MKept.refl _
  · refine MKept.ite ?_ ?_
    · refine MKept.trans ?_ State.typeWritten_mk
      exact MKept.refl _
    · refine MKept.ite ?_ ?_
      · refine MKept.ite ?_ ?_
        · refine MKept.trans ?_ (MKept.put (by decide))
          exact MKept.refl _
        · exact MKept.refl _
      · refine MKept.ite ?_ ?_
        · refine MKept.trans ?_ State.dioWritten_mk
          exact MKept.refl _
        · refine MKept.ite ?_ ?_
          · refine MKept.trans ?_ State.faWritten_mk
            exact MKept.refl _
          · refine MKept.ite ?_ ?_
            · refine MKept.trans ?_ State.faWritten_mk
              exact MKept.refl _
            · refine MKept.ite ?_ ?_
              · refine MKept.trans ?_ State.showPorts_mk
                exact MKept.refl _
              · refine MKept.ite ?_ ?_
                · refine MKept.trans ?_ State.pinWritten_mk
                  exact MKept.refl _
                · refine MKept.ite ?_ ?_
                  · refine MKept.trans ?_ State.dbgWindowWrite_mk
                    exact MKept.refl _
                  · refine MKept.ite ?_ ?_
                    · refine MKept.trans ?_ (MKept.put (by decide))
                      exact MKept.refl _
                    · exact MKept.refl _

theorem objMailed_mk {a0 : _} {a1 : _} {a2 : _} : MKept a2 (@objMailed a0 a1 a2) := by
  unfold objMailed
  dsimp only
  split
  · rename_i v0 v1 v2 v3
    refine MKept.ite ?_ ?_
    · refine MKept.trans ?_ State.answer_mk
      exact MKept.refl _
    · refine MKept.trans ?_ State.mailSend_mk
      exact MKept.refl _
  · rename_i v4 v5
    exact MKept.refl _

theorem execObjWrite_mk {a0 : _} {a1 : _} {t : State} (h : (@execObjWrite a0 a1) = .next t) : MKept a1 t := by
  unfold execObjWrite at h
  injection h with h
  subst h
  refine MKept.ite ?_ ?_
  · refine MKept.trans ?_ (deferred_mk ?_)
    · exact MKept.refl _
    · intro v0 v1
      refine MKept.trans ?_ objMailed_mk
      exact MKept.refl _
  · refine MKept.trans ?_ queued_mk
    exact MKept.refl _

theorem execIoConfigSet_mk {a0 : _} {a1 : _} {t : State} (h : (@execIoConfigSet a0 a1) = .next t) : MKept a1 t := by
  unfold execIoConfigSet at h
  injection h with h
  subst h
  refine MKept.trans ?_ queued_mk
  exact MKept.refl _

theorem objReadBody_mk {a0 : _} {a1 : _} {a2 : _} : MKept a2 (@objReadBody a0 a1 a2).st := by
  unfold objReadBody
  dsimp only
  exact MKept.refl _

theorem execObjRead_mk {a0 : _} {a1 : _} {t : State} (h : (@execObjRead a0 a1) = .next t) : MKept a1 t := by
  unfold execObjRead at h
  injection h with h
  subst h
  refine MKept.trans ?_ (mailed_mk ?_)
  · exact MKept.refl _
  · intro v0 v1
    refine MKept.trans ?_ objReadBody_mk
    exact MKept.refl _

theorem ioDiagBody_mk {a0 : _} {a1 : _} {a2 : _} : MKept a2 (@ioDiagBody a0 a1 a2).st := by
  unfold ioDiagBody
  split
  · rename_i v0 v1
    dsimp only
    exact MKept.refl _
  · rename_i v2 v3 v4
    dsimp only
    exact MKept.refl _

theorem execIoDiagRead_mk {a0 : _} {a1 : _} {t : State} (h : (@execIoDiagRead a0 a1) = .next t) : MKept a1 t := by
  unfold execIoDiagRead at h
  injection h with h
  subst h
  refine MKept.trans ?_ (served_mk ?_)
  · exact MKept.refl _
  · intro v0 v1
    refine MKept.trans ?_ ioDiagBody_mk
    exact MKept.refl _

theorem laneStatusBody_mk {a0 : _} {a1 : _} {a2 : _} : MKept a2 (@laneStatusBody a0 a1 a2).st := by
  unfold laneStatusBody
  dsimp only
  exact MKept.refl _

theorem execLaneStatus_mk {a0 : _} {a1 : _} {t : State} (h : (@execLaneStatus a0 a1) = .next t) : MKept a1 t := by
  unfold execLaneStatus at h
  injection h with h
  subst h
  refine MKept.trans ?_ (served_mk ?_)
  · exact MKept.refl _
  · intro v0 v1
    refine MKept.trans ?_ laneStatusBody_mk
    exact MKept.refl _

theorem State.journalIs_mk {a0 : _} {a1 : _} : MKept a0 (@State.journalIs a0 a1) := by
  unfold State.journalIs
  dsimp only
  iterate 3 refine MKept.trans ?_ (MKept.put (by decide))
  refine MKept.mkUpd ?_
  exact MKept.refl _

theorem State.resumeOpTime_mk {a0 : _} : MKept a0 (@State.resumeOpTime a0) := by
  unfold State.resumeOpTime
  split
  · rename_i v0 v1 v2
    refine MKept.mkUpd ?_
    exact MKept.refl _
  · rename_i v3 v4
    refine MKept.mkUpd ?_
    exact MKept.refl _

theorem State.chooseHalf_mk {a0 : _} {a1 : _} : MKept a0 (@State.chooseHalf a0 a1) := by
  unfold State.chooseHalf
  dsimp only
  split
  · rename_i v0 v1
    refine MKept.ite ?_ ?_
    · refine MKept.ite ?_ ?_
      · refine MKept.trans ?_ State.rollSwitch_mk
        exact MKept.refl _
      · exact MKept.refl _
    · refine MKept.trans ?_ (MKept.put (by decide))
      refine MKept.mkUpd ?_
      refine MKept.ite ?_ ?_
      · refine MKept.trans ?_ State.rollSwitch_mk
        exact MKept.refl _
      · exact MKept.refl _
  · rename_i v2 v3 v4
    refine MKept.trans ?_ (MKept.put (by decide))
    refine MKept.ite ?_ ?_
    · refine MKept.ite ?_ ?_
      · refine MKept.ite ?_ ?_
        · refine MKept.trans ?_ State.rollSwitch_mk
          exact MKept.refl _
        · exact MKept.refl _
      · refine MKept.trans ?_ (MKept.put (by decide))
        refine MKept.mkUpd ?_
        refine MKept.ite ?_ ?_
        · refine MKept.trans ?_ State.rollSwitch_mk
          exact MKept.refl _
        · exact MKept.refl _
    · refine MKept.trans ?_ State.swapHalves_mk
      refine MKept.ite ?_ ?_
      · refine MKept.ite ?_ ?_
        · refine MKept.trans ?_ State.rollSwitch_mk
          exact MKept.refl _
        · exact MKept.refl _
      · refine MKept.trans ?_ (MKept.put (by decide))
        refine MKept.mkUpd ?_
        refine MKept.ite ?_ ?_
        · refine MKept.trans ?_ State.rollSwitch_mk
          exact MKept.refl _
        · exact MKept.refl _

theorem State.mergeToll_mk {a0 : _} : MKept a0 (@State.mergeToll a0) := by
  unfold State.mergeToll
  dsimp only
  refine MKept.trans ?_ State.journal_mk
  refine MKept.trans ?_ State.journalToll_mk
  refine MKept.trans ?_ State.latch_mk
  refine MKept.trans ?_ (MKept.put (by decide))
  refine MKept.trans ?_ (MKept.put (by decide))
  refine MKept.mkUpd ?_
  exact MKept.refl _

theorem State.raiseAgain_mk {a0 : _} {a1 : _} : MKept a0 (@State.raiseAgain a0 a1) := by
  unfold State.raiseAgain
  dsimp only
  refine MKept.ite ?_ ?_
  · exact MKept.refl _
  · refine MKept.mkUpd ?_
    refine MKept.ite ?_ ?_
    · refine MKept.trans ?_ State.raiseLatched_mk
      refine MKept.trans ?_ State.fresh_mk
      exact MKept.refl _
    · refine MKept.trans ?_ State.raiseLatched_mk
      refine MKept.trans ?_ State.fresh_mk
      exact MKept.refl _

theorem State.takeSafeRecord_mk {a0 : _} : MKept a0 (@State.takeSafeRecord a0) := by
  unfold State.takeSafeRecord
  dsimp only
  refine MKept.trans ?_ State.showSafeCause_mk
  refine MKept.ite ?_ ?_
  · refine MKept.mkUpd ?_
    exact MKept.refl _
  · exact MKept.refl _

theorem State.bootFallback_mk {a0 : _} {a1 : _} : MKept a0 (@State.bootFallback a0 a1) := by
  unfold State.bootFallback
  refine MKept.trans ?_ (MKept.inc (by decide))
  refine MKept.trans ?_ (MKept.put (by decide))
  refine MKept.trans ?_ State.fallBack_mk
  exact MKept.refl _

theorem State.restoreClusters_mk {a0 : _} {a1 : _} : MKept a0 (@State.restoreClusters a0 a1) := by
  unfold State.restoreClusters
  refine MKept.foldl ?_ (fun v0 v1 => ?_)
  · exact MKept.refl _
  · refine MKept.ite ?_ ?_
    · dsimp only
      refine MKept.trans ?_ State.raise_mk
      refine MKept.trans ?_ State.journal_mk
      refine MKept.trans ?_ State.showAttempts_mk
      refine MKept.trans ?_ (MKept.put (by decide))
      refine MKept.mkUpd ?_
      exact MKept.refl _
    · exact MKept.refl _

theorem State.refusePartner_mk {a0 : _} {a1 : _} : MKept a0 (@State.refusePartner a0 a1) := by
  unfold State.refusePartner
  dsimp only
  refine MKept.ite ?_ ?_
  · refine MKept.trans ?_ State.raise_mk
    refine MKept.trans ?_ (MKept.put (by decide))
    refine MKept.mkUpd ?_
    refine MKept.trans ?_ State.partnerGone_mk
    exact MKept.refl _
  · refine MKept.trans ?_ (MKept.put (by decide))
    refine MKept.mkUpd ?_
    refine MKept.trans ?_ State.partnerGone_mk
    exact MKept.refl _

theorem State.acceptPartner_mk {a0 : _} {a1 : _} : MKept a0 (@State.acceptPartner a0 a1) := by
  unfold State.acceptPartner
  dsimp only
  refine MKept.trans ?_ State.clearPairUpdate_mk
  refine MKept.trans ?_ State.putUnit_mk
  refine MKept.trans ?_ State.onImg_mk
  refine MKept.ite ?_ ?_
  · refine MKept.trans ?_ State.journalProgram_mk
    refine MKept.trans ?_ (MKept.put (by decide))
    refine MKept.ite ?_ ?_
    · refine MKept.mkUpd ?_
      refine MKept.ite ?_ ?_
      · refine MKept.trans ?_ (MKept.put (by decide))
        refine MKept.mkUpd ?_
        exact MKept.refl _
      · refine MKept.mkUpd ?_
        exact MKept.refl _
    · refine MKept.ite ?_ ?_
      · refine MKept.trans ?_ (MKept.put (by decide))
        refine MKept.mkUpd ?_
        exact MKept.refl _
      · refine MKept.mkUpd ?_
        exact MKept.refl _
  · refine MKept.ite ?_ ?_
    · refine MKept.mkUpd ?_
      refine MKept.ite ?_ ?_
      · refine MKept.trans ?_ (MKept.put (by decide))
        refine MKept.mkUpd ?_
        exact MKept.refl _
      · refine MKept.mkUpd ?_
        exact MKept.refl _
    · refine MKept.ite ?_ ?_
      · refine MKept.trans ?_ (MKept.put (by decide))
        refine MKept.mkUpd ?_
        exact MKept.refl _
      · refine MKept.mkUpd ?_
        exact MKept.refl _

theorem State.exchange_mk {a0 : _} {a1 : _} : MKept a0 (@State.exchange a0 a1) := by
  unfold State.exchange
  dsimp only
  refine MKept.ite ?_ ?_
  · refine MKept.trans ?_ State.acceptPartner_mk
    exact MKept.refl _
  · refine MKept.trans ?_ State.refusePartner_mk
    exact MKept.refl _

theorem State.startField_mk {a0 : _} {a1 : _} : MKept a0 (@State.startField a0 a1) := by
  unfold State.startField
  dsimp only
  refine MKept.trans ?_ State.showFa_mk
  refine MKept.foldl ?_ (fun v0 v1 => ?_)
  · refine MKept.trans ?_ (MKept.put (by decide))
    refine MKept.mkUpd ?_
    refine MKept.foldl ?_ (fun v2 v3 => ?_)
    · refine MKept.trans ?_ (MKept.put (by decide))
      refine MKept.trans ?_ (MKept.put (by decide))
      refine MKept.trans ?_ (MKept.put (by decide))
      exact MKept.refl _
    · refine MKept.trans ?_ (MKept.putFlag (by decide))
      refine MKept.trans ?_ (MKept.put (by decide))
      exact MKept.refl _
  · refine MKept.trans ?_ State.faComesUp_mk
    exact MKept.refl _

theorem State.startLanes_mk {a0 : _} {a1 : _} : MKept a0 (@State.startLanes a0 a1) := by
  unfold State.startLanes
  refine MKept.foldl ?_ (fun v0 v1 => ?_)
  · refine MKept.trans ?_ State.holdAbsent_mk
    exact MKept.refl _
  · refine MKept.ite ?_ ?_
    · refine MKept.trans ?_ (MKept.put (by decide))
      exact MKept.refl _
    · exact MKept.refl _

theorem State.startBeat_mk {a0 : _} {a1 : _} : MKept a0 (@State.startBeat a0 a1) := by
  unfold State.startBeat
  dsimp only
  refine MKept.ite ?_ ?_
  · refine MKept.trans ?_ State.takeServo_mk
    refine MKept.mkUpd ?_
    refine MKept.trans ?_ (MKept.put (by decide))
    exact MKept.refl _
  · refine MKept.trans ?_ State.setAlign_mk
    refine MKept.mkUpd ?_
    refine MKept.trans ?_ (MKept.put (by decide))
    exact MKept.refl _

theorem State.startProgram_mk {a0 : _} {a1 : _} {a2 : _} : MKept a0 (@State.startProgram a0 a1 a2) := by
  unfold State.startProgram
  dsimp only
  refine MKept.trans ?_ State.showRuntime_mk
  refine MKept.trans ?_ (MKept.put (by decide))
  refine MKept.trans ?_ (MKept.put (by decide))
  refine MKept.trans ?_ (State.onCluster_mk ?_)
  · refine MKept.trans ?_ (State.onCluster_mk ?_)
    · split
      · rename_i v0 v1 v2
        refine MKept.ite ?_ ?_
        · refine MKept.trans ?_ State.journalLoad_mk
          refine MKept.trans ?_ State.loadProgram_mk
          refine MKept.mkUpd ?_
          exact MKept.refl _
        · refine MKept.trans ?_ State.noProgram_mk
          refine MKept.mkUpd ?_
          exact MKept.refl _
      · rename_i v3 v4
        refine MKept.trans ?_ State.noProgram_mk
        refine MKept.mkUpd ?_
        exact MKept.refl _
    · intro v5
      refine MKept.trans ?_ State.coldCluster_mk
      exact MKept.refl _
  · intro v6
    refine MKept.trans ?_ State.coldCluster_mk
    exact MKept.refl _

theorem State.startTests_mk {a0 : _} {a1 : _} : MKept a0 (@State.startTests a0 a1) := by
  unfold State.startTests
  dsimp only
  refine MKept.foldl ?_ (fun v0 v1 => ?_)
  · refine MKept.trans ?_ State.showApplicable_mk
    refine MKept.mkUpd ?_
    exact MKept.refl _
  · refine MKept.ite ?_ ?_
    · exact MKept.refl _
    · refine MKept.ite ?_ ?_
      · refine MKept.trans ?_ State.healthFails_mk
        exact MKept.refl _
      · refine MKept.trans ?_ State.healthPass_mk
        exact MKept.refl _

theorem State.startEpochs_mk {a0 : _} {a1 : _} : MKept a0 (@State.startEpochs a0 a1) := by
  unfold State.startEpochs
  dsimp only
  refine MKept.ite ?_ ?_
  · refine MKept.trans ?_ State.bumpOwn_mk
    refine MKept.ite ?_ ?_
    · refine MKept.trans ?_ State.bumpUnit_mk
      exact MKept.refl _
    · exact MKept.refl _
  · refine MKept.ite ?_ ?_
    · refine MKept.trans ?_ State.bumpUnit_mk
      exact MKept.refl _
    · exact MKept.refl _

theorem State.startCauses_mk {a0 : _} : MKept a0 (@State.startCauses a0) := by
  unfold State.startCauses
  dsimp only
  refine MKept.ite ?_ ?_
  · refine MKept.trans ?_ State.raise_mk
    refine MKept.mkUpd ?_
    exact MKept.refl _
  · refine MKept.mkUpd ?_
    exact MKept.refl _

theorem State.damper_mk {a0 : _} : MKept a0 (@State.damper a0) := by
  unfold State.damper
  refine MKept.ite ?_ ?_
  · refine MKept.trans ?_ (MKept.inc (by decide))
    exact MKept.refl _
  · exact MKept.refl _

theorem State.newBeat_mk {a0 : _} : MKept a0 (@State.newBeat a0) := by
  unfold State.newBeat
  refine MKept.mkUpd ?_
  exact MKept.refl _

theorem State.stepTaken_mk {a0 : _} {a1 : _} : MKept a0 (@State.stepTaken a0 a1) := by
  unfold State.stepTaken
  dsimp only
  refine MKept.ite ?_ ?_
  · refine MKept.trans ?_ State.becomeAligned_mk
    refine MKept.trans ?_ State.raise_mk
    refine MKept.trans ?_ State.pinsStep_mk
    refine MKept.mkUpd ?_
    exact MKept.refl _
  · refine MKept.trans ?_ State.setAlign_mk
    refine MKept.trans ?_ (MKept.put (by decide))
    refine MKept.trans ?_ State.raise_mk
    refine MKept.trans ?_ State.pinsStep_mk
    refine MKept.mkUpd ?_
    exact MKept.refl _

theorem State.turn_mk {a0 : _} : MKept a0 (@State.turn a0) := by
  unfold State.turn
  dsimp only
  refine MKept.ite ?_ ?_
  · refine MKept.trans ?_ State.stepTaken_mk
    refine MKept.trans ?_ (MKept.put (by decide))
    refine MKept.trans ?_ State.newBeat_mk
    refine MKept.trans ?_ (MKept.put (by decide))
    exact MKept.refl _
  · refine MKept.trans ?_ (MKept.put (by decide))
    refine MKept.trans ?_ State.newBeat_mk
    refine MKept.trans ?_ (MKept.put (by decide))
    exact MKept.refl _

theorem State.reportImageLoss_mk {a0 : _} : MKept a0 (@State.reportImageLoss a0) := by
  unfold State.reportImageLoss
  refine MKept.ite ?_ ?_
  · exact MKept.refl _
  · dsimp only
    refine MKept.mkUpd ?_
    refine MKept.trans ?_ State.raise_mk
    exact MKept.refl _

theorem State.journalEdge_mk {a0 : _} : MKept a0 (@State.journalEdge a0) := by
  unfold State.journalEdge
  dsimp only
  refine MKept.ite ?_ ?_
  · refine MKept.mkUpd ?_
    refine MKept.trans ?_ State.rollStart_mk
    refine MKept.ite ?_ ?_
    · refine MKept.trans ?_ State.journal_mk
      refine MKept.trans ?_ State.journalRetry_mk
      refine MKept.mkUpd ?_
      exact MKept.refl _
    · refine MKept.trans ?_ State.journalRetry_mk
      refine MKept.mkUpd ?_
      exact MKept.refl _
  · refine MKept.ite ?_ ?_
    · refine MKept.trans ?_ State.journal_mk
      refine MKept.trans ?_ State.journalRetry_mk
      refine MKept.mkUpd ?_
      exact MKept.refl _
    · refine MKept.trans ?_ State.journalRetry_mk
      refine MKept.mkUpd ?_
      exact MKept.refl _

theorem State.sampleLocal_mk {a0 : _} : MKept a0 (@State.sampleLocal a0) := by
  unfold State.sampleLocal
  refine MKept.mkUpd ?_
  exact MKept.refl _

theorem State.ownImage_mk {a0 : _} : MKept a0 (@State.ownImage a0) := by
  unfold State.ownImage
  dsimp only
  refine MKept.mkUpd ?_
  exact MKept.refl _

theorem State.imageStands_mk {a0 : _} : MKept a0 (@State.imageStands a0) := by
  unfold State.imageStands
  refine MKept.ite ?_ ?_
  · exact MKept.refl _
  · refine MKept.ite ?_ ?_
    · refine MKept.mkUpd ?_
      exact MKept.refl _
    · refine MKept.mkUpd ?_
      exact MKept.refl _

theorem State.imageEvents_mk {a0 : _} : MKept a0 (@State.imageEvents a0) := by
  unfold State.imageEvents
  refine MKept.mkUpd ?_
  exact MKept.refl _

theorem State.imageSent_mk {a0 : _} : MKept a0 (@State.imageSent a0) := by
  unfold State.imageSent
  refine MKept.ite ?_ ?_
  · exact MKept.refl _
  · split
    · rename_i v0 v1 v2 v3
      dsimp only
      refine MKept.mkUpd ?_
      refine MKept.ofSnd v3 ?_
      refine MKept.trans ?_ State.fresh_mk
      exact MKept.refl _

theorem State.lateViews_mk {a0 : _} {a1 : _} : MKept a0 (@State.lateViews a0 a1) := by
  unfold State.lateViews
  split
  · rename_i v0 v1 v2
    refine MKept.ite ?_ ?_
    · exact MKept.refl _
    · dsimp only
      refine MKept.mkUpd ?_
      exact MKept.refl _
  · rename_i v3 v4
    exact MKept.refl _

theorem State.clusterStarts_mk {a0 : _} : MKept a0 (@State.clusterStarts a0) := by
  unfold State.clusterStarts
  refine MKept.trans ?_ State.releaseAll_mk
  refine MKept.trans ?_ State.loopIntake_mk
  refine MKept.mkUpd ?_
  exact MKept.refl _

theorem State.imageStarts_mk {a0 : _} {a1 : _} {a2 : _} : MKept a0 (@State.imageStarts a0 a1 a2) := by
  unfold State.imageStarts
  refine MKept.ite ?_ ?_
  · exact MKept.refl _
  · dsimp only
    refine MKept.trans ?_ (State.onCluster_mk ?_)
    · refine MKept.trans ?_ (State.onCluster_mk ?_)
      · refine MKept.trans ?_ State.lateViews_mk
        refine MKept.trans ?_ State.startCompute_mk
        exact MKept.refl _
      · intro v0
        refine MKept.trans ?_ State.clusterStarts_mk
        exact MKept.refl _
    · intro v1
      refine MKept.trans ?_ State.clusterStarts_mk
      exact MKept.refl _

theorem State.refuseLosers_mk {a0 : _} : MKept a0 (@State.refuseLosers a0) := by
  unfold State.refuseLosers
  refine MKept.ite ?_ ?_
  · refine MKept.foldl ?_ (fun v0 v1 => ?_)
    · exact MKept.refl _
    · refine MKept.trans ?_ State.afterFreeze_mk
      exact MKept.refl _
  · exact MKept.refl _

theorem State.accountBeat_mk {a0 : _} : MKept a0 (@State.accountBeat a0) := by
  unfold State.accountBeat
  dsimp only
  refine MKept.ite ?_ ?_
  · refine MKept.trans ?_ (MKept.put (by decide))
    refine MKept.trans ?_ (MKept.put (by decide))
    refine MKept.trans ?_ (MKept.put (by decide))
    refine MKept.mkUpd ?_
    exact MKept.refl _
  · refine MKept.trans ?_ (MKept.put (by decide))
    refine MKept.trans ?_ (MKept.put (by decide))
    refine MKept.mkUpd ?_
    exact MKept.refl _

theorem State.engineEnds_mk {a0 : _} {a1 : _} {a2 : _} : MKept a0 (@State.engineEnds a0 a1 a2) := by
  unfold State.engineEnds
  refine MKept.ite ?_ ?_
  · exact MKept.refl _
  · dsimp only
    refine MKept.trans ?_ State.cutLoops_mk
    refine MKept.trans ?_ (MKept.put (by decide))
    refine MKept.mkUpd ?_
    exact MKept.refl _

theorem State.cutSlices_mk {a0 : _} : MKept a0 (@State.cutSlices a0) := by
  unfold State.cutSlices
  refine MKept.foldl ?_ (fun v0 v1 => ?_)
  · exact MKept.refl _
  · refine MKept.ite ?_ ?_
    · refine MKept.trans ?_ State.watchClass_mk
      refine MKept.mkUpd ?_
      exact MKept.refl _
    · exact MKept.refl _

theorem State.commitStart_mk {a0 : _} {a1 : _} {a2 : _} : MKept a0 (@State.commitStart a0 a1 a2) := by
  unfold State.commitStart
  refine MKept.ite ?_ ?_
  · exact MKept.refl _
  · dsimp only
    refine MKept.trans ?_ (State.onCluster_mk ?_)
    · refine MKept.trans ?_ (State.onCluster_mk ?_)
      · refine MKept.trans ?_ State.engineEnds_mk
        refine MKept.trans ?_ State.accountBeat_mk
        refine MKept.mkUpd ?_
        refine MKept.trans ?_ (State.onClusters_mk ?_)
        · exact MKept.refl _
        · intro v0
          refine MKept.trans ?_ State.cutSlices_mk
          exact MKept.refl _
      · intro v1
        refine MKept.trans ?_ State.engineEnds_mk
        exact MKept.refl _
    · intro v2
      refine MKept.trans ?_ State.engineEnds_mk
      exact MKept.refl _

theorem execCommitStart_mk {a0 : _} {a1 : _} {a2 : _} {t : State} (h : (@execCommitStart a0 a1 a2) = .next t) : MKept a2 t := by
  unfold execCommitStart at h
  injection h with h
  subst h
  refine MKept.trans ?_ State.commitStart_mk
  exact MKept.refl _

theorem State.commitDone_mk {a0 : _} : MKept a0 (@State.commitDone a0) := by
  unfold State.commitDone
  refine MKept.ite ?_ ?_
  · exact MKept.refl _
  · dsimp only
    refine MKept.ite ?_ ?_
    · refine MKept.ite ?_ ?_
      · refine MKept.mkUpd ?_
        refine MKept.trans ?_ State.retainSnapshot_mk
        refine MKept.ite ?_ ?_
        · exact MKept.refl _
        · refine MKept.trans ?_ (State.onClusters_mk ?_)
          · exact MKept.refl _
          · intro v0
            refine MKept.trans ?_ State.commitRuntime_mk
            exact MKept.refl _
      · refine MKept.mkUpd ?_
        refine MKept.trans ?_ State.retainSnapshot_mk
        refine MKept.ite ?_ ?_
        · exact MKept.refl _
        · refine MKept.trans ?_ (State.onClusters_mk ?_)
          · exact MKept.refl _
          · intro v1
            refine MKept.trans ?_ State.commitRuntime_mk
            exact MKept.refl _
    · refine MKept.ite ?_ ?_
      · refine MKept.mkUpd ?_
        refine MKept.trans ?_ State.retainSnapshot_mk
        refine MKept.ite ?_ ?_
        · exact MKept.refl _
        · refine MKept.trans ?_ (State.onClusters_mk ?_)
          · exact MKept.refl _
          · intro v2
            refine MKept.trans ?_ State.commitRuntime_mk
            exact MKept.refl _
      · refine MKept.mkUpd ?_
        refine MKept.trans ?_ State.retainSnapshot_mk
        refine MKept.ite ?_ ?_
        · exact MKept.refl _
        · refine MKept.trans ?_ (State.onClusters_mk ?_)
          · exact MKept.refl _
          · intro v3
            refine MKept.trans ?_ State.commitRuntime_mk
            exact MKept.refl _

theorem execCommitDone_mk {a0 : _} {t : State} (h : (@execCommitDone a0) = .next t) : MKept a0 t := by
  unfold execCommitDone at h
  injection h with h
  subst h
  refine MKept.trans ?_ State.commitDone_mk
  exact MKept.refl _

theorem State.putByAll_mk {a0 : _} : MKept a0 (@State.putByAll a0) := by
  unfold State.putByAll
  refine MKept.trans ?_ State.putByWork_mk
  exact MKept.refl _

theorem State.commitLate_mk {a0 : _} : MKept a0 (@State.commitLate a0) := by
  unfold State.commitLate
  refine MKept.ite ?_ ?_
  · exact MKept.refl _
  · dsimp only
    refine MKept.trans ?_ State.raise_mk
    refine MKept.trans ?_ (MKept.put (by decide))
    refine MKept.mkUpd ?_
    refine MKept.trans ?_ (State.onClusters_mk ?_)
    · exact MKept.refl _
    · intro v0
      refine MKept.trans ?_ State.putByAll_mk
      exact MKept.refl _

theorem execCommitLate_mk {a0 : _} {t : State} (h : (@execCommitLate a0) = .next t) : MKept a0 t := by
  unfold execCommitLate at h
  injection h with h
  subst h
  refine MKept.trans ?_ State.commitLate_mk
  exact MKept.refl _

theorem State.emitStart_mk {a0 : _} : MKept a0 (@State.emitStart a0) := by
  unfold State.emitStart
  refine MKept.ite ?_ ?_
  · exact MKept.refl _
  · dsimp only
    refine MKept.ite ?_ ?_
    · refine MKept.trans ?_ State.armLatches_mk
      refine MKept.ite ?_ ?_
      · refine MKept.trans ?_ State.canCommit_mk
        refine MKept.trans ?_ State.emitWsl_mk
        refine MKept.ite ?_ ?_
        · refine MKept.trans ?_ State.emitForwarded_mk
          refine MKept.trans ?_ State.emitLanes_mk
          refine MKept.mkUpd ?_
          exact MKept.refl _
        · refine MKept.trans ?_ State.emitLanes_mk
          refine MKept.mkUpd ?_
          exact MKept.refl _
      · refine MKept.trans ?_ State.emitWsl_mk
        refine MKept.ite ?_ ?_
        · refine MKept.trans ?_ State.emitForwarded_mk
          refine MKept.trans ?_ State.emitLanes_mk
          refine MKept.mkUpd ?_
          exact MKept.refl _
        · refine MKept.trans ?_ State.emitLanes_mk
          refine MKept.mkUpd ?_
          exact MKept.refl _
    · refine MKept.ite ?_ ?_
      · refine MKept.trans ?_ State.canCommit_mk
        refine MKept.trans ?_ State.emitWsl_mk
        refine MKept.ite ?_ ?_
        · refine MKept.trans ?_ State.emitForwarded_mk
          refine MKept.trans ?_ State.emitLanes_mk
          refine MKept.mkUpd ?_
          exact MKept.refl _
        · refine MKept.trans ?_ State.emitLanes_mk
          refine MKept.mkUpd ?_
          exact MKept.refl _
      · refine MKept.trans ?_ State.emitWsl_mk
        refine MKept.ite ?_ ?_
        · refine MKept.trans ?_ State.emitForwarded_mk
          refine MKept.trans ?_ State.emitLanes_mk
          refine MKept.mkUpd ?_
          exact MKept.refl _
        · refine MKept.trans ?_ State.emitLanes_mk
          refine MKept.mkUpd ?_
          exact MKept.refl _

theorem execEmitStart_mk {a0 : _} {t : State} (h : (@execEmitStart a0) = .next t) : MKept a0 t := by
  unfold execEmitStart at h
  injection h with h
  subst h
  refine MKept.trans ?_ State.emitStart_mk
  exact MKept.refl _

theorem State.trackOverflow_mk {a0 : _} {a1 : _} : MKept a0 (@State.trackOverflow a0 a1) := by
  unfold State.trackOverflow
  dsimp only
  refine MKept.trans ?_ (MKept.put (by decide))
  refine MKept.mkUpd ?_
  refine MKept.trans ?_ State.raise_mk
  refine MKept.trans ?_ (MKept.inc (by decide))
  exact MKept.refl _

theorem State.logTrack_mk {a0 : _} {a1 : _} : MKept a0 (@State.logTrack a0 a1) := by
  unfold State.logTrack
  dsimp only
  refine MKept.trans ?_ (MKept.put (by decide))
  refine MKept.mkUpd ?_
  exact MKept.refl _

theorem State.sendClose_mk {a0 : _} {a1 : _} {a2 : _} : MKept a0 (@State.sendClose a0 a1 a2) := by
  unfold State.sendClose
  dsimp only
  refine MKept.ite ?_ ?_
  · refine MKept.trans ?_ State.trackOverflow_mk
    refine MKept.trans ?_ (MKept.put (by decide))
    refine MKept.mkUpd ?_
    refine MKept.trans ?_ State.logTrack_mk
    exact MKept.refl _
  · refine MKept.trans ?_ (MKept.put (by decide))
    refine MKept.mkUpd ?_
    refine MKept.trans ?_ State.logTrack_mk
    exact MKept.refl _

theorem State.trackingClose_mk {a0 : _} {a1 : _} {a2 : _} : MKept a0 (@State.trackingClose a0 a1 a2) := by
  unfold State.trackingClose
  refine MKept.ite ?_ ?_
  · exact MKept.refl _
  · dsimp only
    refine MKept.mkUpd ?_
    refine MKept.trans ?_ State.releaseHeld_mk
    refine MKept.ite ?_ ?_
    · refine MKept.trans ?_ State.logTrack_mk
      exact MKept.refl _
    · refine MKept.trans ?_ State.sendClose_mk
      exact MKept.refl _

theorem execTrackingCloseSend_mk {a0 : _} {a1 : _} {a2 : _} {t : State} (h : (@execTrackingCloseSend a0 a1 a2) = .next t) : MKept a2 t := by
  unfold execTrackingCloseSend at h
  injection h with h
  subst h
  refine MKept.trans ?_ State.trackingClose_mk
  exact MKept.refl _

theorem execRetainMirrorDone_mk {a0 : _} {t : State} (h : (@execRetainMirrorDone a0) = .next t) : MKept a0 t := by
  unfold execRetainMirrorDone at h
  injection h with h
  subst h
  split
  · rename_i v0 v1 v2
    refine MKept.trans ?_ State.storeMirror_mk
    exact MKept.refl _
  · rename_i v3 v4
    exact MKept.refl _

end Sys2Proof.Machine
end

