-- ==== Sys2Proof/Laws/State.lean ====
section
/-! SUPPORT. What each update of the state leaves and what it changes, part by part: every lemma is true by computation. -/

namespace Sys2Proof.Machine

open Sys2Proof

/-! A field of the object map. -/

@[simp] theorem State.put_mem (s : State) (f : Fld) (v k : Nat) : (s.put f v k).mem = s.mem := rfl
@[simp] theorem State.put_free (s : State) (f : Fld) (v k : Nat) : (s.put f v k).free = s.free := rfl
@[simp] theorem State.put_beat (s : State) (f : Fld) (v k : Nat) : (s.put f v k).beat = s.beat := rfl
@[simp] theorem State.put_ev (s : State) (f : Fld) (v k : Nat) : (s.put f v k).ev = s.ev := rfl
@[simp] theorem State.put_lcp (s : State) (f : Fld) (v k : Nat) : (s.put f v k).lcp = s.lcp := rfl
@[simp] theorem State.put_jr (s : State) (f : Fld) (v k : Nat) : (s.put f v k).jr = s.jr := rfl
@[simp] theorem State.put_units (s : State) (f : Fld) (v k : Nat) : (s.put f v k).units = s.units := rfl
@[simp] theorem State.put_wd (s : State) (f : Fld) (v k : Nat) : (s.put f v k).wd = s.wd := rfl
@[simp] theorem State.put_rt (s : State) (f : Fld) (v k : Nat) : (s.put f v k).rt = s.rt := rfl
@[simp] theorem State.put_rtY (s : State) (f : Fld) (v k : Nat) : (s.put f v k).rtY = s.rtY := rfl
@[simp] theorem State.put_rtZ (s : State) (f : Fld) (v k : Nat) : (s.put f v k).rtZ = s.rtZ := rfl
@[simp] theorem State.put_loops (s : State) (f : Fld) (v k : Nat) : (s.put f v k).loops = s.loops := rfl
@[simp] theorem State.put_pair (s : State) (f : Fld) (v k : Nat) : (s.put f v k).pair = s.pair := rfl
@[simp] theorem State.put_sec (s : State) (f : Fld) (v k : Nat) : (s.put f v k).sec = s.sec := rfl
@[simp] theorem State.put_triad (s : State) (f : Fld) (v k : Nat) : (s.put f v k).triad = s.triad := rfl
@[simp] theorem State.put_pwr (s : State) (f : Fld) (v k : Nat) : (s.put f v k).pwr = s.pwr := rfl
@[simp] theorem State.put_img (s : State) (f : Fld) (v k : Nat) : (s.put f v k).img = s.img := rfl
@[simp] theorem State.put_panel (s : State) (f : Fld) (v k : Nat) : (s.put f v k).panel = s.panel := rfl
@[simp] theorem State.put_lanes (s : State) (f : Fld) (v k : Nat) : (s.put f v k).lanes = s.lanes := rfl
@[simp] theorem State.put_field (s : State) (f : Fld) (v k : Nat) : (s.put f v k).field = s.field := rfl
@[simp] theorem State.put_time (s : State) (f : Fld) (v k : Nat) : (s.put f v k).time = s.time := rfl
@[simp] theorem State.put_can (s : State) (f : Fld) (v k : Nat) : (s.put f v k).can = s.can := rfl
@[simp] theorem State.put_pending (s : State) (f : Fld) (v k : Nat) : (s.put f v k).pending = s.pending := rfl
@[simp] theorem State.putFlag_mem (s : State) (f : Fld) (b : Bool) (k : Nat) : (s.putFlag f b k).mem = s.mem := rfl
@[simp] theorem State.putFlag_free (s : State) (f : Fld) (b : Bool) (k : Nat) : (s.putFlag f b k).free = s.free := rfl
@[simp] theorem State.putFlag_beat (s : State) (f : Fld) (b : Bool) (k : Nat) : (s.putFlag f b k).beat = s.beat := rfl
@[simp] theorem State.putFlag_ev (s : State) (f : Fld) (b : Bool) (k : Nat) : (s.putFlag f b k).ev = s.ev := rfl
@[simp] theorem State.putFlag_lcp (s : State) (f : Fld) (b : Bool) (k : Nat) : (s.putFlag f b k).lcp = s.lcp := rfl
@[simp] theorem State.putFlag_jr (s : State) (f : Fld) (b : Bool) (k : Nat) : (s.putFlag f b k).jr = s.jr := rfl
@[simp] theorem State.putFlag_units (s : State) (f : Fld) (b : Bool) (k : Nat) : (s.putFlag f b k).units = s.units := rfl
@[simp] theorem State.putFlag_wd (s : State) (f : Fld) (b : Bool) (k : Nat) : (s.putFlag f b k).wd = s.wd := rfl
@[simp] theorem State.putFlag_rt (s : State) (f : Fld) (b : Bool) (k : Nat) : (s.putFlag f b k).rt = s.rt := rfl
@[simp] theorem State.putFlag_rtY (s : State) (f : Fld) (b : Bool) (k : Nat) : (s.putFlag f b k).rtY = s.rtY := rfl
@[simp] theorem State.putFlag_rtZ (s : State) (f : Fld) (b : Bool) (k : Nat) : (s.putFlag f b k).rtZ = s.rtZ := rfl
@[simp] theorem State.putFlag_loops (s : State) (f : Fld) (b : Bool) (k : Nat) : (s.putFlag f b k).loops = s.loops := rfl
@[simp] theorem State.putFlag_pair (s : State) (f : Fld) (b : Bool) (k : Nat) : (s.putFlag f b k).pair = s.pair := rfl
@[simp] theorem State.putFlag_sec (s : State) (f : Fld) (b : Bool) (k : Nat) : (s.putFlag f b k).sec = s.sec := rfl
@[simp] theorem State.putFlag_triad (s : State) (f : Fld) (b : Bool) (k : Nat) : (s.putFlag f b k).triad = s.triad := rfl
@[simp] theorem State.putFlag_pwr (s : State) (f : Fld) (b : Bool) (k : Nat) : (s.putFlag f b k).pwr = s.pwr := rfl
@[simp] theorem State.putFlag_img (s : State) (f : Fld) (b : Bool) (k : Nat) : (s.putFlag f b k).img = s.img := rfl
@[simp] theorem State.putFlag_panel (s : State) (f : Fld) (b : Bool) (k : Nat) : (s.putFlag f b k).panel = s.panel := rfl
@[simp] theorem State.putFlag_lanes (s : State) (f : Fld) (b : Bool) (k : Nat) : (s.putFlag f b k).lanes = s.lanes := rfl
@[simp] theorem State.putFlag_field (s : State) (f : Fld) (b : Bool) (k : Nat) : (s.putFlag f b k).field = s.field := rfl
@[simp] theorem State.putFlag_time (s : State) (f : Fld) (b : Bool) (k : Nat) : (s.putFlag f b k).time = s.time := rfl
@[simp] theorem State.putFlag_can (s : State) (f : Fld) (b : Bool) (k : Nat) : (s.putFlag f b k).can = s.can := rfl
@[simp] theorem State.putFlag_pending (s : State) (f : Fld) (b : Bool) (k : Nat) : (s.putFlag f b k).pending = s.pending := rfl
@[simp] theorem State.inc_mem (s : State) (f : Fld) (k : Nat) : (s.inc f k).mem = s.mem := rfl
@[simp] theorem State.inc_free (s : State) (f : Fld) (k : Nat) : (s.inc f k).free = s.free := rfl
@[simp] theorem State.inc_beat (s : State) (f : Fld) (k : Nat) : (s.inc f k).beat = s.beat := rfl
@[simp] theorem State.inc_ev (s : State) (f : Fld) (k : Nat) : (s.inc f k).ev = s.ev := rfl
@[simp] theorem State.inc_lcp (s : State) (f : Fld) (k : Nat) : (s.inc f k).lcp = s.lcp := rfl
@[simp] theorem State.inc_jr (s : State) (f : Fld) (k : Nat) : (s.inc f k).jr = s.jr := rfl
@[simp] theorem State.inc_units (s : State) (f : Fld) (k : Nat) : (s.inc f k).units = s.units := rfl
@[simp] theorem State.inc_wd (s : State) (f : Fld) (k : Nat) : (s.inc f k).wd = s.wd := rfl
@[simp] theorem State.inc_rt (s : State) (f : Fld) (k : Nat) : (s.inc f k).rt = s.rt := rfl
@[simp] theorem State.inc_rtY (s : State) (f : Fld) (k : Nat) : (s.inc f k).rtY = s.rtY := rfl
@[simp] theorem State.inc_rtZ (s : State) (f : Fld) (k : Nat) : (s.inc f k).rtZ = s.rtZ := rfl
@[simp] theorem State.inc_loops (s : State) (f : Fld) (k : Nat) : (s.inc f k).loops = s.loops := rfl
@[simp] theorem State.inc_pair (s : State) (f : Fld) (k : Nat) : (s.inc f k).pair = s.pair := rfl
@[simp] theorem State.inc_sec (s : State) (f : Fld) (k : Nat) : (s.inc f k).sec = s.sec := rfl
@[simp] theorem State.inc_triad (s : State) (f : Fld) (k : Nat) : (s.inc f k).triad = s.triad := rfl
@[simp] theorem State.inc_pwr (s : State) (f : Fld) (k : Nat) : (s.inc f k).pwr = s.pwr := rfl
@[simp] theorem State.inc_img (s : State) (f : Fld) (k : Nat) : (s.inc f k).img = s.img := rfl
@[simp] theorem State.inc_panel (s : State) (f : Fld) (k : Nat) : (s.inc f k).panel = s.panel := rfl
@[simp] theorem State.inc_lanes (s : State) (f : Fld) (k : Nat) : (s.inc f k).lanes = s.lanes := rfl
@[simp] theorem State.inc_field (s : State) (f : Fld) (k : Nat) : (s.inc f k).field = s.field := rfl
@[simp] theorem State.inc_time (s : State) (f : Fld) (k : Nat) : (s.inc f k).time = s.time := rfl
@[simp] theorem State.inc_can (s : State) (f : Fld) (k : Nat) : (s.inc f k).can = s.can := rfl
@[simp] theorem State.inc_pending (s : State) (f : Fld) (k : Nat) : (s.inc f k).pending = s.pending := rfl
@[simp] theorem State.add_mem (s : State) (f : Fld) (d k : Nat) : (s.add f d k).mem = s.mem := rfl
@[simp] theorem State.add_free (s : State) (f : Fld) (d k : Nat) : (s.add f d k).free = s.free := rfl
@[simp] theorem State.add_beat (s : State) (f : Fld) (d k : Nat) : (s.add f d k).beat = s.beat := rfl
@[simp] theorem State.add_ev (s : State) (f : Fld) (d k : Nat) : (s.add f d k).ev = s.ev := rfl
@[simp] theorem State.add_lcp (s : State) (f : Fld) (d k : Nat) : (s.add f d k).lcp = s.lcp := rfl
@[simp] theorem State.add_jr (s : State) (f : Fld) (d k : Nat) : (s.add f d k).jr = s.jr := rfl
@[simp] theorem State.add_units (s : State) (f : Fld) (d k : Nat) : (s.add f d k).units = s.units := rfl
@[simp] theorem State.add_wd (s : State) (f : Fld) (d k : Nat) : (s.add f d k).wd = s.wd := rfl
@[simp] theorem State.add_rt (s : State) (f : Fld) (d k : Nat) : (s.add f d k).rt = s.rt := rfl
@[simp] theorem State.add_rtY (s : State) (f : Fld) (d k : Nat) : (s.add f d k).rtY = s.rtY := rfl
@[simp] theorem State.add_rtZ (s : State) (f : Fld) (d k : Nat) : (s.add f d k).rtZ = s.rtZ := rfl
@[simp] theorem State.add_loops (s : State) (f : Fld) (d k : Nat) : (s.add f d k).loops = s.loops := rfl
@[simp] theorem State.add_pair (s : State) (f : Fld) (d k : Nat) : (s.add f d k).pair = s.pair := rfl
@[simp] theorem State.add_sec (s : State) (f : Fld) (d k : Nat) : (s.add f d k).sec = s.sec := rfl
@[simp] theorem State.add_triad (s : State) (f : Fld) (d k : Nat) : (s.add f d k).triad = s.triad := rfl
@[simp] theorem State.add_pwr (s : State) (f : Fld) (d k : Nat) : (s.add f d k).pwr = s.pwr := rfl
@[simp] theorem State.add_img (s : State) (f : Fld) (d k : Nat) : (s.add f d k).img = s.img := rfl
@[simp] theorem State.add_panel (s : State) (f : Fld) (d k : Nat) : (s.add f d k).panel = s.panel := rfl
@[simp] theorem State.add_lanes (s : State) (f : Fld) (d k : Nat) : (s.add f d k).lanes = s.lanes := rfl
@[simp] theorem State.add_field (s : State) (f : Fld) (d k : Nat) : (s.add f d k).field = s.field := rfl
@[simp] theorem State.add_time (s : State) (f : Fld) (d k : Nat) : (s.add f d k).time = s.time := rfl
@[simp] theorem State.add_can (s : State) (f : Fld) (d k : Nat) : (s.add f d k).can = s.can := rfl
@[simp] theorem State.add_pending (s : State) (f : Fld) (d k : Nat) : (s.add f d k).pending = s.pending := rfl
@[simp] theorem State.peak_mem (s : State) (f : Fld) (v k : Nat) : (s.peak f v k).mem = s.mem := by unfold State.peak; split <;> rfl
@[simp] theorem State.peak_free (s : State) (f : Fld) (v k : Nat) : (s.peak f v k).free = s.free := by unfold State.peak; split <;> rfl
@[simp] theorem State.peak_beat (s : State) (f : Fld) (v k : Nat) : (s.peak f v k).beat = s.beat := by unfold State.peak; split <;> rfl
@[simp] theorem State.peak_ev (s : State) (f : Fld) (v k : Nat) : (s.peak f v k).ev = s.ev := by unfold State.peak; split <;> rfl
@[simp] theorem State.peak_lcp (s : State) (f : Fld) (v k : Nat) : (s.peak f v k).lcp = s.lcp := by unfold State.peak; split <;> rfl
@[simp] theorem State.peak_jr (s : State) (f : Fld) (v k : Nat) : (s.peak f v k).jr = s.jr := by unfold State.peak; split <;> rfl
@[simp] theorem State.peak_units (s : State) (f : Fld) (v k : Nat) : (s.peak f v k).units = s.units := by unfold State.peak; split <;> rfl
@[simp] theorem State.peak_wd (s : State) (f : Fld) (v k : Nat) : (s.peak f v k).wd = s.wd := by unfold State.peak; split <;> rfl
@[simp] theorem State.peak_rt (s : State) (f : Fld) (v k : Nat) : (s.peak f v k).rt = s.rt := by unfold State.peak; split <;> rfl
@[simp] theorem State.peak_rtY (s : State) (f : Fld) (v k : Nat) : (s.peak f v k).rtY = s.rtY := by unfold State.peak; split <;> rfl
@[simp] theorem State.peak_rtZ (s : State) (f : Fld) (v k : Nat) : (s.peak f v k).rtZ = s.rtZ := by unfold State.peak; split <;> rfl
@[simp] theorem State.peak_loops (s : State) (f : Fld) (v k : Nat) : (s.peak f v k).loops = s.loops := by unfold State.peak; split <;> rfl
@[simp] theorem State.peak_pair (s : State) (f : Fld) (v k : Nat) : (s.peak f v k).pair = s.pair := by unfold State.peak; split <;> rfl
@[simp] theorem State.peak_sec (s : State) (f : Fld) (v k : Nat) : (s.peak f v k).sec = s.sec := by unfold State.peak; split <;> rfl
@[simp] theorem State.peak_triad (s : State) (f : Fld) (v k : Nat) : (s.peak f v k).triad = s.triad := by unfold State.peak; split <;> rfl
@[simp] theorem State.peak_pwr (s : State) (f : Fld) (v k : Nat) : (s.peak f v k).pwr = s.pwr := by unfold State.peak; split <;> rfl
@[simp] theorem State.peak_img (s : State) (f : Fld) (v k : Nat) : (s.peak f v k).img = s.img := by unfold State.peak; split <;> rfl
@[simp] theorem State.peak_panel (s : State) (f : Fld) (v k : Nat) : (s.peak f v k).panel = s.panel := by unfold State.peak; split <;> rfl
@[simp] theorem State.peak_lanes (s : State) (f : Fld) (v k : Nat) : (s.peak f v k).lanes = s.lanes := by unfold State.peak; split <;> rfl
@[simp] theorem State.peak_field (s : State) (f : Fld) (v k : Nat) : (s.peak f v k).field = s.field := by unfold State.peak; split <;> rfl
@[simp] theorem State.peak_time (s : State) (f : Fld) (v k : Nat) : (s.peak f v k).time = s.time := by unfold State.peak; split <;> rfl
@[simp] theorem State.peak_can (s : State) (f : Fld) (v k : Nat) : (s.peak f v k).can = s.can := by unfold State.peak; split <;> rfl
@[simp] theorem State.peak_pending (s : State) (f : Fld) (v k : Nat) : (s.peak f v k).pending = s.pending := by unfold State.peak; split <;> rfl

/-! An event: the router and its count. -/

@[simp] theorem State.raise_mem (s : State) (src code sev : Nat) (d : List (Nat × Nat)) : (s.raise src code sev d).mem = s.mem := rfl
@[simp] theorem State.raise_free (s : State) (src code sev : Nat) (d : List (Nat × Nat)) : (s.raise src code sev d).free = s.free := rfl
@[simp] theorem State.raise_beat (s : State) (src code sev : Nat) (d : List (Nat × Nat)) : (s.raise src code sev d).beat = s.beat := rfl
@[simp] theorem State.raise_lcp (s : State) (src code sev : Nat) (d : List (Nat × Nat)) : (s.raise src code sev d).lcp = s.lcp := rfl
@[simp] theorem State.raise_jr (s : State) (src code sev : Nat) (d : List (Nat × Nat)) : (s.raise src code sev d).jr = s.jr := rfl
@[simp] theorem State.raise_units (s : State) (src code sev : Nat) (d : List (Nat × Nat)) : (s.raise src code sev d).units = s.units := rfl
@[simp] theorem State.raise_wd (s : State) (src code sev : Nat) (d : List (Nat × Nat)) : (s.raise src code sev d).wd = s.wd := rfl
@[simp] theorem State.raise_rt (s : State) (src code sev : Nat) (d : List (Nat × Nat)) : (s.raise src code sev d).rt = s.rt := rfl
@[simp] theorem State.raise_rtY (s : State) (src code sev : Nat) (d : List (Nat × Nat)) : (s.raise src code sev d).rtY = s.rtY := rfl
@[simp] theorem State.raise_rtZ (s : State) (src code sev : Nat) (d : List (Nat × Nat)) : (s.raise src code sev d).rtZ = s.rtZ := rfl
@[simp] theorem State.raise_loops (s : State) (src code sev : Nat) (d : List (Nat × Nat)) : (s.raise src code sev d).loops = s.loops := rfl
@[simp] theorem State.raise_pair (s : State) (src code sev : Nat) (d : List (Nat × Nat)) : (s.raise src code sev d).pair = s.pair := rfl
@[simp] theorem State.raise_sec (s : State) (src code sev : Nat) (d : List (Nat × Nat)) : (s.raise src code sev d).sec = s.sec := rfl
@[simp] theorem State.raise_triad (s : State) (src code sev : Nat) (d : List (Nat × Nat)) : (s.raise src code sev d).triad = s.triad := rfl
@[simp] theorem State.raise_pwr (s : State) (src code sev : Nat) (d : List (Nat × Nat)) : (s.raise src code sev d).pwr = s.pwr := rfl
@[simp] theorem State.raise_img (s : State) (src code sev : Nat) (d : List (Nat × Nat)) : (s.raise src code sev d).img = s.img := rfl
@[simp] theorem State.raise_panel (s : State) (src code sev : Nat) (d : List (Nat × Nat)) : (s.raise src code sev d).panel = s.panel := rfl
@[simp] theorem State.raise_lanes (s : State) (src code sev : Nat) (d : List (Nat × Nat)) : (s.raise src code sev d).lanes = s.lanes := rfl
@[simp] theorem State.raise_field (s : State) (src code sev : Nat) (d : List (Nat × Nat)) : (s.raise src code sev d).field = s.field := rfl
@[simp] theorem State.raise_time (s : State) (src code sev : Nat) (d : List (Nat × Nat)) : (s.raise src code sev d).time = s.time := rfl
@[simp] theorem State.raise_can (s : State) (src code sev : Nat) (d : List (Nat × Nat)) : (s.raise src code sev d).can = s.can := rfl
@[simp] theorem State.raise_pending (s : State) (src code sev : Nat) (d : List (Nat × Nat)) : (s.raise src code sev d).pending = s.pending := rfl
@[simp] theorem State.raiseWsl_mem (s : State) (p st code sev : Nat) (d : List (Nat × Nat)) : (s.raiseWsl p st code sev d).mem = s.mem := rfl
@[simp] theorem State.raiseWsl_free (s : State) (p st code sev : Nat) (d : List (Nat × Nat)) : (s.raiseWsl p st code sev d).free = s.free := rfl
@[simp] theorem State.raiseWsl_beat (s : State) (p st code sev : Nat) (d : List (Nat × Nat)) : (s.raiseWsl p st code sev d).beat = s.beat := rfl
@[simp] theorem State.raiseWsl_lcp (s : State) (p st code sev : Nat) (d : List (Nat × Nat)) : (s.raiseWsl p st code sev d).lcp = s.lcp := rfl
@[simp] theorem State.raiseWsl_jr (s : State) (p st code sev : Nat) (d : List (Nat × Nat)) : (s.raiseWsl p st code sev d).jr = s.jr := rfl
@[simp] theorem State.raiseWsl_units (s : State) (p st code sev : Nat) (d : List (Nat × Nat)) : (s.raiseWsl p st code sev d).units = s.units := rfl
@[simp] theorem State.raiseWsl_wd (s : State) (p st code sev : Nat) (d : List (Nat × Nat)) : (s.raiseWsl p st code sev d).wd = s.wd := rfl
@[simp] theorem State.raiseWsl_rt (s : State) (p st code sev : Nat) (d : List (Nat × Nat)) : (s.raiseWsl p st code sev d).rt = s.rt := rfl
@[simp] theorem State.raiseWsl_rtY (s : State) (p st code sev : Nat) (d : List (Nat × Nat)) : (s.raiseWsl p st code sev d).rtY = s.rtY := rfl
@[simp] theorem State.raiseWsl_rtZ (s : State) (p st code sev : Nat) (d : List (Nat × Nat)) : (s.raiseWsl p st code sev d).rtZ = s.rtZ := rfl
@[simp] theorem State.raiseWsl_loops (s : State) (p st code sev : Nat) (d : List (Nat × Nat)) : (s.raiseWsl p st code sev d).loops = s.loops := rfl
@[simp] theorem State.raiseWsl_pair (s : State) (p st code sev : Nat) (d : List (Nat × Nat)) : (s.raiseWsl p st code sev d).pair = s.pair := rfl
@[simp] theorem State.raiseWsl_sec (s : State) (p st code sev : Nat) (d : List (Nat × Nat)) : (s.raiseWsl p st code sev d).sec = s.sec := rfl
@[simp] theorem State.raiseWsl_triad (s : State) (p st code sev : Nat) (d : List (Nat × Nat)) : (s.raiseWsl p st code sev d).triad = s.triad := rfl
@[simp] theorem State.raiseWsl_pwr (s : State) (p st code sev : Nat) (d : List (Nat × Nat)) : (s.raiseWsl p st code sev d).pwr = s.pwr := rfl
@[simp] theorem State.raiseWsl_img (s : State) (p st code sev : Nat) (d : List (Nat × Nat)) : (s.raiseWsl p st code sev d).img = s.img := rfl
@[simp] theorem State.raiseWsl_panel (s : State) (p st code sev : Nat) (d : List (Nat × Nat)) : (s.raiseWsl p st code sev d).panel = s.panel := rfl
@[simp] theorem State.raiseWsl_lanes (s : State) (p st code sev : Nat) (d : List (Nat × Nat)) : (s.raiseWsl p st code sev d).lanes = s.lanes := rfl
@[simp] theorem State.raiseWsl_field (s : State) (p st code sev : Nat) (d : List (Nat × Nat)) : (s.raiseWsl p st code sev d).field = s.field := rfl
@[simp] theorem State.raiseWsl_time (s : State) (p st code sev : Nat) (d : List (Nat × Nat)) : (s.raiseWsl p st code sev d).time = s.time := rfl
@[simp] theorem State.raiseWsl_can (s : State) (p st code sev : Nat) (d : List (Nat × Nat)) : (s.raiseWsl p st code sev d).can = s.can := rfl
@[simp] theorem State.raiseWsl_pending (s : State) (p st code sev : Nat) (d : List (Nat × Nat)) : (s.raiseWsl p st code sev d).pending = s.pending := rfl
@[simp] theorem State.raise_router (s : State) (src code sev : Nat) (d : List (Nat × Nat)) : (s.raise src code sev d).ev.router = s.ev.router ++ mkRecs s src code sev (packData 64 0 0 d) := rfl

/-! The fault latch, a cause, the port of the Journal. -/

@[simp] theorem State.latch_regs (s : State) (f : Latch → Latch) : (s.latch f).regs = s.regs := rfl
@[simp] theorem State.cause_regs (s : State) (k : CauseKind) (c : Nat) : (s.cause k c).regs = s.regs := rfl
@[simp] theorem State.fresh_regs (s : State) (w : Nat) : (s.fresh w).2.regs = s.regs := rfl
@[simp] theorem State.onSession_regs (s : State) (i : Nat) (f : Session → Session) : (s.onSession i f).regs = s.regs := rfl
@[simp] theorem State.send_regs (s : State) (r : Reply) : (s.send r).regs = s.regs := rfl
@[simp] theorem State.answer_regs (s : State) (r : Reply) : (s.answer r).regs = s.regs := rfl
@[simp] theorem State.answerHeld_regs (s : State) (r : Reply) : (s.answerHeld r).regs = s.regs := by unfold State.answerHeld; dsimp only; split <;> rfl
@[simp] theorem State.noteSeq_regs (s : State) (q : Packet) : (s.noteSeq q).regs = s.regs := rfl
@[simp] theorem State.putUnit_regs (s : State) (u : UnitRec) : (s.putUnit u).regs = s.regs := rfl
@[simp] theorem State.dropTransfers_regs (s : State) (b : Bool) : (s.dropTransfers b).regs = s.regs := rfl
@[simp] theorem State.latch_mem (s : State) (f : Latch → Latch) : (s.latch f).mem = s.mem := rfl
@[simp] theorem State.cause_mem (s : State) (k : CauseKind) (c : Nat) : (s.cause k c).mem = s.mem := rfl
@[simp] theorem State.fresh_mem (s : State) (w : Nat) : (s.fresh w).2.mem = s.mem := rfl
@[simp] theorem State.journal_mem (s : State) (t k l p : Nat) (b c : Bool) : (s.journal t k l p b c).mem = s.mem := by unfold State.journal; split <;> rfl
@[simp] theorem State.onSession_mem (s : State) (i : Nat) (f : Session → Session) : (s.onSession i f).mem = s.mem := rfl
@[simp] theorem State.send_mem (s : State) (r : Reply) : (s.send r).mem = s.mem := rfl
@[simp] theorem State.answer_mem (s : State) (r : Reply) : (s.answer r).mem = s.mem := rfl
@[simp] theorem State.answerHeld_mem (s : State) (r : Reply) : (s.answerHeld r).mem = s.mem := by unfold State.answerHeld; dsimp only; split <;> rfl
@[simp] theorem State.noteSeq_mem (s : State) (q : Packet) : (s.noteSeq q).mem = s.mem := rfl
@[simp] theorem State.putUnit_mem (s : State) (u : UnitRec) : (s.putUnit u).mem = s.mem := rfl
@[simp] theorem State.dropTransfers_mem (s : State) (b : Bool) : (s.dropTransfers b).mem = s.mem := rfl
@[simp] theorem State.latch_free (s : State) (f : Latch → Latch) : (s.latch f).free = s.free := rfl
@[simp] theorem State.cause_free (s : State) (k : CauseKind) (c : Nat) : (s.cause k c).free = s.free := rfl
@[simp] theorem State.journal_free (s : State) (t k l p : Nat) (b c : Bool) : (s.journal t k l p b c).free = s.free := by unfold State.journal; split <;> rfl
@[simp] theorem State.onSession_free (s : State) (i : Nat) (f : Session → Session) : (s.onSession i f).free = s.free := rfl
@[simp] theorem State.send_free (s : State) (r : Reply) : (s.send r).free = s.free := rfl
@[simp] theorem State.answer_free (s : State) (r : Reply) : (s.answer r).free = s.free := rfl
@[simp] theorem State.answerHeld_free (s : State) (r : Reply) : (s.answerHeld r).free = s.free := by unfold State.answerHeld; dsimp only; split <;> rfl
@[simp] theorem State.noteSeq_free (s : State) (q : Packet) : (s.noteSeq q).free = s.free := rfl
@[simp] theorem State.putUnit_free (s : State) (u : UnitRec) : (s.putUnit u).free = s.free := rfl
@[simp] theorem State.dropTransfers_free (s : State) (b : Bool) : (s.dropTransfers b).free = s.free := rfl
@[simp] theorem State.latch_beat (s : State) (f : Latch → Latch) : (s.latch f).beat = s.beat := rfl
@[simp] theorem State.fresh_beat (s : State) (w : Nat) : (s.fresh w).2.beat = s.beat := rfl
@[simp] theorem State.journal_beat (s : State) (t k l p : Nat) (b c : Bool) : (s.journal t k l p b c).beat = s.beat := by unfold State.journal; split <;> rfl
@[simp] theorem State.onSession_beat (s : State) (i : Nat) (f : Session → Session) : (s.onSession i f).beat = s.beat := rfl
@[simp] theorem State.send_beat (s : State) (r : Reply) : (s.send r).beat = s.beat := rfl
@[simp] theorem State.answer_beat (s : State) (r : Reply) : (s.answer r).beat = s.beat := rfl
@[simp] theorem State.answerHeld_beat (s : State) (r : Reply) : (s.answerHeld r).beat = s.beat := by unfold State.answerHeld; dsimp only; split <;> rfl
@[simp] theorem State.putUnit_beat (s : State) (u : UnitRec) : (s.putUnit u).beat = s.beat := rfl
@[simp] theorem State.dropTransfers_beat (s : State) (b : Bool) : (s.dropTransfers b).beat = s.beat := rfl
@[simp] theorem State.latch_ev (s : State) (f : Latch → Latch) : (s.latch f).ev = s.ev := rfl
@[simp] theorem State.cause_ev (s : State) (k : CauseKind) (c : Nat) : (s.cause k c).ev = s.ev := rfl
@[simp] theorem State.fresh_ev (s : State) (w : Nat) : (s.fresh w).2.ev = s.ev := rfl
@[simp] theorem State.onSession_ev (s : State) (i : Nat) (f : Session → Session) : (s.onSession i f).ev = s.ev := rfl
@[simp] theorem State.send_ev (s : State) (r : Reply) : (s.send r).ev = s.ev := rfl
@[simp] theorem State.answer_ev (s : State) (r : Reply) : (s.answer r).ev = s.ev := rfl
@[simp] theorem State.answerHeld_ev (s : State) (r : Reply) : (s.answerHeld r).ev = s.ev := by unfold State.answerHeld; dsimp only; split <;> rfl
@[simp] theorem State.noteSeq_ev (s : State) (q : Packet) : (s.noteSeq q).ev = s.ev := rfl
@[simp] theorem State.putUnit_ev (s : State) (u : UnitRec) : (s.putUnit u).ev = s.ev := rfl
@[simp] theorem State.dropTransfers_ev (s : State) (b : Bool) : (s.dropTransfers b).ev = s.ev := rfl
@[simp] theorem State.latch_lcp (s : State) (f : Latch → Latch) : (s.latch f).lcp = s.lcp := rfl
@[simp] theorem State.cause_lcp (s : State) (k : CauseKind) (c : Nat) : (s.cause k c).lcp = s.lcp := rfl
@[simp] theorem State.fresh_lcp (s : State) (w : Nat) : (s.fresh w).2.lcp = s.lcp := rfl
@[simp] theorem State.journal_lcp (s : State) (t k l p : Nat) (b c : Bool) : (s.journal t k l p b c).lcp = s.lcp := by unfold State.journal; split <;> rfl
@[simp] theorem State.putUnit_lcp (s : State) (u : UnitRec) : (s.putUnit u).lcp = s.lcp := rfl
@[simp] theorem State.latch_jr (s : State) (f : Latch → Latch) : (s.latch f).jr = s.jr := rfl
@[simp] theorem State.cause_jr (s : State) (k : CauseKind) (c : Nat) : (s.cause k c).jr = s.jr := rfl
@[simp] theorem State.fresh_jr (s : State) (w : Nat) : (s.fresh w).2.jr = s.jr := rfl
@[simp] theorem State.onSession_jr (s : State) (i : Nat) (f : Session → Session) : (s.onSession i f).jr = s.jr := rfl
@[simp] theorem State.send_jr (s : State) (r : Reply) : (s.send r).jr = s.jr := rfl
@[simp] theorem State.answer_jr (s : State) (r : Reply) : (s.answer r).jr = s.jr := rfl
@[simp] theorem State.answerHeld_jr (s : State) (r : Reply) : (s.answerHeld r).jr = s.jr := by unfold State.answerHeld; dsimp only; split <;> rfl
@[simp] theorem State.noteSeq_jr (s : State) (q : Packet) : (s.noteSeq q).jr = s.jr := rfl
@[simp] theorem State.putUnit_jr (s : State) (u : UnitRec) : (s.putUnit u).jr = s.jr := rfl
@[simp] theorem State.dropTransfers_jr (s : State) (b : Bool) : (s.dropTransfers b).jr = s.jr := rfl
@[simp] theorem State.latch_units (s : State) (f : Latch → Latch) : (s.latch f).units = s.units := rfl
@[simp] theorem State.cause_units (s : State) (k : CauseKind) (c : Nat) : (s.cause k c).units = s.units := rfl
@[simp] theorem State.fresh_units (s : State) (w : Nat) : (s.fresh w).2.units = s.units := rfl
@[simp] theorem State.journal_units (s : State) (t k l p : Nat) (b c : Bool) : (s.journal t k l p b c).units = s.units := by unfold State.journal; split <;> rfl
@[simp] theorem State.onSession_units (s : State) (i : Nat) (f : Session → Session) : (s.onSession i f).units = s.units := rfl
@[simp] theorem State.send_units (s : State) (r : Reply) : (s.send r).units = s.units := rfl
@[simp] theorem State.answer_units (s : State) (r : Reply) : (s.answer r).units = s.units := rfl
@[simp] theorem State.answerHeld_units (s : State) (r : Reply) : (s.answerHeld r).units = s.units := by unfold State.answerHeld; dsimp only; split <;> rfl
@[simp] theorem State.noteSeq_units (s : State) (q : Packet) : (s.noteSeq q).units = s.units := rfl
@[simp] theorem State.dropTransfers_units (s : State) (b : Bool) : (s.dropTransfers b).units = s.units := rfl
@[simp] theorem State.latch_wd (s : State) (f : Latch → Latch) : (s.latch f).wd = s.wd := rfl
@[simp] theorem State.cause_wd (s : State) (k : CauseKind) (c : Nat) : (s.cause k c).wd = s.wd := rfl
@[simp] theorem State.fresh_wd (s : State) (w : Nat) : (s.fresh w).2.wd = s.wd := rfl
@[simp] theorem State.journal_wd (s : State) (t k l p : Nat) (b c : Bool) : (s.journal t k l p b c).wd = s.wd := by unfold State.journal; split <;> rfl
@[simp] theorem State.onSession_wd (s : State) (i : Nat) (f : Session → Session) : (s.onSession i f).wd = s.wd := rfl
@[simp] theorem State.send_wd (s : State) (r : Reply) : (s.send r).wd = s.wd := rfl
@[simp] theorem State.answer_wd (s : State) (r : Reply) : (s.answer r).wd = s.wd := rfl
@[simp] theorem State.answerHeld_wd (s : State) (r : Reply) : (s.answerHeld r).wd = s.wd := by unfold State.answerHeld; dsimp only; split <;> rfl
@[simp] theorem State.noteSeq_wd (s : State) (q : Packet) : (s.noteSeq q).wd = s.wd := rfl
@[simp] theorem State.putUnit_wd (s : State) (u : UnitRec) : (s.putUnit u).wd = s.wd := rfl
@[simp] theorem State.dropTransfers_wd (s : State) (b : Bool) : (s.dropTransfers b).wd = s.wd := rfl
@[simp] theorem State.latch_rt (s : State) (f : Latch → Latch) : (s.latch f).rt = s.rt := rfl
@[simp] theorem State.cause_rt (s : State) (k : CauseKind) (c : Nat) : (s.cause k c).rt = s.rt := rfl
@[simp] theorem State.fresh_rt (s : State) (w : Nat) : (s.fresh w).2.rt = s.rt := rfl
@[simp] theorem State.journal_rt (s : State) (t k l p : Nat) (b c : Bool) : (s.journal t k l p b c).rt = s.rt := by unfold State.journal; split <;> rfl
@[simp] theorem State.onSession_rt (s : State) (i : Nat) (f : Session → Session) : (s.onSession i f).rt = s.rt := rfl
@[simp] theorem State.send_rt (s : State) (r : Reply) : (s.send r).rt = s.rt := rfl
@[simp] theorem State.answer_rt (s : State) (r : Reply) : (s.answer r).rt = s.rt := rfl
@[simp] theorem State.answerHeld_rt (s : State) (r : Reply) : (s.answerHeld r).rt = s.rt := by unfold State.answerHeld; dsimp only; split <;> rfl
@[simp] theorem State.noteSeq_rt (s : State) (q : Packet) : (s.noteSeq q).rt = s.rt := rfl
@[simp] theorem State.putUnit_rt (s : State) (u : UnitRec) : (s.putUnit u).rt = s.rt := rfl
@[simp] theorem State.dropTransfers_rt (s : State) (b : Bool) : (s.dropTransfers b).rt = s.rt := rfl
@[simp] theorem State.latch_rtY (s : State) (f : Latch → Latch) : (s.latch f).rtY = s.rtY := rfl
@[simp] theorem State.cause_rtY (s : State) (k : CauseKind) (c : Nat) : (s.cause k c).rtY = s.rtY := rfl
@[simp] theorem State.fresh_rtY (s : State) (w : Nat) : (s.fresh w).2.rtY = s.rtY := rfl
@[simp] theorem State.journal_rtY (s : State) (t k l p : Nat) (b c : Bool) : (s.journal t k l p b c).rtY = s.rtY := by unfold State.journal; split <;> rfl
@[simp] theorem State.onSession_rtY (s : State) (i : Nat) (f : Session → Session) : (s.onSession i f).rtY = s.rtY := rfl
@[simp] theorem State.send_rtY (s : State) (r : Reply) : (s.send r).rtY = s.rtY := rfl
@[simp] theorem State.answer_rtY (s : State) (r : Reply) : (s.answer r).rtY = s.rtY := rfl
@[simp] theorem State.answerHeld_rtY (s : State) (r : Reply) : (s.answerHeld r).rtY = s.rtY := by unfold State.answerHeld; dsimp only; split <;> rfl
@[simp] theorem State.noteSeq_rtY (s : State) (q : Packet) : (s.noteSeq q).rtY = s.rtY := rfl
@[simp] theorem State.putUnit_rtY (s : State) (u : UnitRec) : (s.putUnit u).rtY = s.rtY := rfl
@[simp] theorem State.dropTransfers_rtY (s : State) (b : Bool) : (s.dropTransfers b).rtY = s.rtY := rfl
@[simp] theorem State.latch_rtZ (s : State) (f : Latch → Latch) : (s.latch f).rtZ = s.rtZ := rfl
@[simp] theorem State.cause_rtZ (s : State) (k : CauseKind) (c : Nat) : (s.cause k c).rtZ = s.rtZ := rfl
@[simp] theorem State.fresh_rtZ (s : State) (w : Nat) : (s.fresh w).2.rtZ = s.rtZ := rfl
@[simp] theorem State.journal_rtZ (s : State) (t k l p : Nat) (b c : Bool) : (s.journal t k l p b c).rtZ = s.rtZ := by unfold State.journal; split <;> rfl
@[simp] theorem State.onSession_rtZ (s : State) (i : Nat) (f : Session → Session) : (s.onSession i f).rtZ = s.rtZ := rfl
@[simp] theorem State.send_rtZ (s : State) (r : Reply) : (s.send r).rtZ = s.rtZ := rfl
@[simp] theorem State.answer_rtZ (s : State) (r : Reply) : (s.answer r).rtZ = s.rtZ := rfl
@[simp] theorem State.answerHeld_rtZ (s : State) (r : Reply) : (s.answerHeld r).rtZ = s.rtZ := by unfold State.answerHeld; dsimp only; split <;> rfl
@[simp] theorem State.noteSeq_rtZ (s : State) (q : Packet) : (s.noteSeq q).rtZ = s.rtZ := rfl
@[simp] theorem State.putUnit_rtZ (s : State) (u : UnitRec) : (s.putUnit u).rtZ = s.rtZ := rfl
@[simp] theorem State.dropTransfers_rtZ (s : State) (b : Bool) : (s.dropTransfers b).rtZ = s.rtZ := rfl
@[simp] theorem State.latch_loops (s : State) (f : Latch → Latch) : (s.latch f).loops = s.loops := rfl
@[simp] theorem State.cause_loops (s : State) (k : CauseKind) (c : Nat) : (s.cause k c).loops = s.loops := rfl
@[simp] theorem State.fresh_loops (s : State) (w : Nat) : (s.fresh w).2.loops = s.loops := rfl
@[simp] theorem State.journal_loops (s : State) (t k l p : Nat) (b c : Bool) : (s.journal t k l p b c).loops = s.loops := by unfold State.journal; split <;> rfl
@[simp] theorem State.onSession_loops (s : State) (i : Nat) (f : Session → Session) : (s.onSession i f).loops = s.loops := rfl
@[simp] theorem State.send_loops (s : State) (r : Reply) : (s.send r).loops = s.loops := rfl
@[simp] theorem State.answer_loops (s : State) (r : Reply) : (s.answer r).loops = s.loops := rfl
@[simp] theorem State.answerHeld_loops (s : State) (r : Reply) : (s.answerHeld r).loops = s.loops := by unfold State.answerHeld; dsimp only; split <;> rfl
@[simp] theorem State.noteSeq_loops (s : State) (q : Packet) : (s.noteSeq q).loops = s.loops := rfl
@[simp] theorem State.putUnit_loops (s : State) (u : UnitRec) : (s.putUnit u).loops = s.loops := rfl
@[simp] theorem State.dropTransfers_loops (s : State) (b : Bool) : (s.dropTransfers b).loops = s.loops := rfl
@[simp] theorem State.latch_pair (s : State) (f : Latch → Latch) : (s.latch f).pair = s.pair := rfl
@[simp] theorem State.cause_pair (s : State) (k : CauseKind) (c : Nat) : (s.cause k c).pair = s.pair := rfl
@[simp] theorem State.fresh_pair (s : State) (w : Nat) : (s.fresh w).2.pair = s.pair := rfl
@[simp] theorem State.journal_pair (s : State) (t k l p : Nat) (b c : Bool) : (s.journal t k l p b c).pair = s.pair := by unfold State.journal; split <;> rfl
@[simp] theorem State.onSession_pair (s : State) (i : Nat) (f : Session → Session) : (s.onSession i f).pair = s.pair := rfl
@[simp] theorem State.send_pair (s : State) (r : Reply) : (s.send r).pair = s.pair := rfl
@[simp] theorem State.answer_pair (s : State) (r : Reply) : (s.answer r).pair = s.pair := rfl
@[simp] theorem State.answerHeld_pair (s : State) (r : Reply) : (s.answerHeld r).pair = s.pair := by unfold State.answerHeld; dsimp only; split <;> rfl
@[simp] theorem State.noteSeq_pair (s : State) (q : Packet) : (s.noteSeq q).pair = s.pair := rfl
@[simp] theorem State.putUnit_pair (s : State) (u : UnitRec) : (s.putUnit u).pair = s.pair := rfl
@[simp] theorem State.dropTransfers_pair (s : State) (b : Bool) : (s.dropTransfers b).pair = s.pair := rfl
@[simp] theorem State.latch_sec (s : State) (f : Latch → Latch) : (s.latch f).sec = s.sec := rfl
@[simp] theorem State.cause_sec (s : State) (k : CauseKind) (c : Nat) : (s.cause k c).sec = s.sec := rfl
@[simp] theorem State.fresh_sec (s : State) (w : Nat) : (s.fresh w).2.sec = s.sec := rfl
@[simp] theorem State.journal_sec (s : State) (t k l p : Nat) (b c : Bool) : (s.journal t k l p b c).sec = s.sec := by unfold State.journal; split <;> rfl
@[simp] theorem State.onSession_sec (s : State) (i : Nat) (f : Session → Session) : (s.onSession i f).sec = s.sec := rfl
@[simp] theorem State.send_sec (s : State) (r : Reply) : (s.send r).sec = s.sec := rfl
@[simp] theorem State.answer_sec (s : State) (r : Reply) : (s.answer r).sec = s.sec := rfl
@[simp] theorem State.answerHeld_sec (s : State) (r : Reply) : (s.answerHeld r).sec = s.sec := by unfold State.answerHeld; dsimp only; split <;> rfl
@[simp] theorem State.noteSeq_sec (s : State) (q : Packet) : (s.noteSeq q).sec = s.sec := rfl
@[simp] theorem State.putUnit_sec (s : State) (u : UnitRec) : (s.putUnit u).sec = s.sec := rfl
@[simp] theorem State.dropTransfers_sec (s : State) (b : Bool) : (s.dropTransfers b).sec = s.sec := rfl
@[simp] theorem State.latch_triad (s : State) (f : Latch → Latch) : (s.latch f).triad = s.triad := rfl
@[simp] theorem State.cause_triad (s : State) (k : CauseKind) (c : Nat) : (s.cause k c).triad = s.triad := rfl
@[simp] theorem State.fresh_triad (s : State) (w : Nat) : (s.fresh w).2.triad = s.triad := rfl
@[simp] theorem State.journal_triad (s : State) (t k l p : Nat) (b c : Bool) : (s.journal t k l p b c).triad = s.triad := by unfold State.journal; split <;> rfl
@[simp] theorem State.onSession_triad (s : State) (i : Nat) (f : Session → Session) : (s.onSession i f).triad = s.triad := rfl
@[simp] theorem State.send_triad (s : State) (r : Reply) : (s.send r).triad = s.triad := rfl
@[simp] theorem State.answer_triad (s : State) (r : Reply) : (s.answer r).triad = s.triad := rfl
@[simp] theorem State.answerHeld_triad (s : State) (r : Reply) : (s.answerHeld r).triad = s.triad := by unfold State.answerHeld; dsimp only; split <;> rfl
@[simp] theorem State.noteSeq_triad (s : State) (q : Packet) : (s.noteSeq q).triad = s.triad := rfl
@[simp] theorem State.putUnit_triad (s : State) (u : UnitRec) : (s.putUnit u).triad = s.triad := rfl
@[simp] theorem State.dropTransfers_triad (s : State) (b : Bool) : (s.dropTransfers b).triad = s.triad := rfl
@[simp] theorem State.cause_pwr (s : State) (k : CauseKind) (c : Nat) : (s.cause k c).pwr = s.pwr := rfl
@[simp] theorem State.fresh_pwr (s : State) (w : Nat) : (s.fresh w).2.pwr = s.pwr := rfl
@[simp] theorem State.journal_pwr (s : State) (t k l p : Nat) (b c : Bool) : (s.journal t k l p b c).pwr = s.pwr := by unfold State.journal; split <;> rfl
@[simp] theorem State.onSession_pwr (s : State) (i : Nat) (f : Session → Session) : (s.onSession i f).pwr = s.pwr := rfl
@[simp] theorem State.send_pwr (s : State) (r : Reply) : (s.send r).pwr = s.pwr := rfl
@[simp] theorem State.answer_pwr (s : State) (r : Reply) : (s.answer r).pwr = s.pwr := rfl
@[simp] theorem State.answerHeld_pwr (s : State) (r : Reply) : (s.answerHeld r).pwr = s.pwr := by unfold State.answerHeld; dsimp only; split <;> rfl
@[simp] theorem State.noteSeq_pwr (s : State) (q : Packet) : (s.noteSeq q).pwr = s.pwr := rfl
@[simp] theorem State.putUnit_pwr (s : State) (u : UnitRec) : (s.putUnit u).pwr = s.pwr := rfl
@[simp] theorem State.dropTransfers_pwr (s : State) (b : Bool) : (s.dropTransfers b).pwr = s.pwr := rfl
@[simp] theorem State.latch_img (s : State) (f : Latch → Latch) : (s.latch f).img = s.img := rfl
@[simp] theorem State.cause_img (s : State) (k : CauseKind) (c : Nat) : (s.cause k c).img = s.img := rfl
@[simp] theorem State.fresh_img (s : State) (w : Nat) : (s.fresh w).2.img = s.img := rfl
@[simp] theorem State.journal_img (s : State) (t k l p : Nat) (b c : Bool) : (s.journal t k l p b c).img = s.img := by unfold State.journal; split <;> rfl
@[simp] theorem State.onSession_img (s : State) (i : Nat) (f : Session → Session) : (s.onSession i f).img = s.img := rfl
@[simp] theorem State.send_img (s : State) (r : Reply) : (s.send r).img = s.img := rfl
@[simp] theorem State.answer_img (s : State) (r : Reply) : (s.answer r).img = s.img := rfl
@[simp] theorem State.answerHeld_img (s : State) (r : Reply) : (s.answerHeld r).img = s.img := by unfold State.answerHeld; dsimp only; split <;> rfl
@[simp] theorem State.noteSeq_img (s : State) (q : Packet) : (s.noteSeq q).img = s.img := rfl
@[simp] theorem State.putUnit_img (s : State) (u : UnitRec) : (s.putUnit u).img = s.img := rfl
@[simp] theorem State.dropTransfers_img (s : State) (b : Bool) : (s.dropTransfers b).img = s.img := rfl
@[simp] theorem State.latch_panel (s : State) (f : Latch → Latch) : (s.latch f).panel = s.panel := rfl
@[simp] theorem State.cause_panel (s : State) (k : CauseKind) (c : Nat) : (s.cause k c).panel = s.panel := rfl
@[simp] theorem State.fresh_panel (s : State) (w : Nat) : (s.fresh w).2.panel = s.panel := rfl
@[simp] theorem State.journal_panel (s : State) (t k l p : Nat) (b c : Bool) : (s.journal t k l p b c).panel = s.panel := by unfold State.journal; split <;> rfl
@[simp] theorem State.onSession_panel (s : State) (i : Nat) (f : Session → Session) : (s.onSession i f).panel = s.panel := rfl
@[simp] theorem State.send_panel (s : State) (r : Reply) : (s.send r).panel = s.panel := rfl
@[simp] theorem State.answer_panel (s : State) (r : Reply) : (s.answer r).panel = s.panel := rfl
@[simp] theorem State.answerHeld_panel (s : State) (r : Reply) : (s.answerHeld r).panel = s.panel := by unfold State.answerHeld; dsimp only; split <;> rfl
@[simp] theorem State.noteSeq_panel (s : State) (q : Packet) : (s.noteSeq q).panel = s.panel := rfl
@[simp] theorem State.putUnit_panel (s : State) (u : UnitRec) : (s.putUnit u).panel = s.panel := rfl
@[simp] theorem State.dropTransfers_panel (s : State) (b : Bool) : (s.dropTransfers b).panel = s.panel := rfl
@[simp] theorem State.latch_lanes (s : State) (f : Latch → Latch) : (s.latch f).lanes = s.lanes := rfl
@[simp] theorem State.cause_lanes (s : State) (k : CauseKind) (c : Nat) : (s.cause k c).lanes = s.lanes := rfl
@[simp] theorem State.fresh_lanes (s : State) (w : Nat) : (s.fresh w).2.lanes = s.lanes := rfl
@[simp] theorem State.journal_lanes (s : State) (t k l p : Nat) (b c : Bool) : (s.journal t k l p b c).lanes = s.lanes := by unfold State.journal; split <;> rfl
@[simp] theorem State.onSession_lanes (s : State) (i : Nat) (f : Session → Session) : (s.onSession i f).lanes = s.lanes := rfl
@[simp] theorem State.send_lanes (s : State) (r : Reply) : (s.send r).lanes = s.lanes := rfl
@[simp] theorem State.answer_lanes (s : State) (r : Reply) : (s.answer r).lanes = s.lanes := rfl
@[simp] theorem State.answerHeld_lanes (s : State) (r : Reply) : (s.answerHeld r).lanes = s.lanes := by unfold State.answerHeld; dsimp only; split <;> rfl
@[simp] theorem State.noteSeq_lanes (s : State) (q : Packet) : (s.noteSeq q).lanes = s.lanes := rfl
@[simp] theorem State.putUnit_lanes (s : State) (u : UnitRec) : (s.putUnit u).lanes = s.lanes := rfl
@[simp] theorem State.dropTransfers_lanes (s : State) (b : Bool) : (s.dropTransfers b).lanes = s.lanes := rfl
@[simp] theorem State.latch_field (s : State) (f : Latch → Latch) : (s.latch f).field = s.field := rfl
@[simp] theorem State.cause_field (s : State) (k : CauseKind) (c : Nat) : (s.cause k c).field = s.field := rfl
@[simp] theorem State.fresh_field (s : State) (w : Nat) : (s.fresh w).2.field = s.field := rfl
@[simp] theorem State.journal_field (s : State) (t k l p : Nat) (b c : Bool) : (s.journal t k l p b c).field = s.field := by unfold State.journal; split <;> rfl
@[simp] theorem State.onSession_field (s : State) (i : Nat) (f : Session → Session) : (s.onSession i f).field = s.field := rfl
@[simp] theorem State.send_field (s : State) (r : Reply) : (s.send r).field = s.field := rfl
@[simp] theorem State.answer_field (s : State) (r : Reply) : (s.answer r).field = s.field := rfl
@[simp] theorem State.answerHeld_field (s : State) (r : Reply) : (s.answerHeld r).field = s.field := by unfold State.answerHeld; dsimp only; split <;> rfl
@[simp] theorem State.noteSeq_field (s : State) (q : Packet) : (s.noteSeq q).field = s.field := rfl
@[simp] theorem State.putUnit_field (s : State) (u : UnitRec) : (s.putUnit u).field = s.field := rfl
@[simp] theorem State.dropTransfers_field (s : State) (b : Bool) : (s.dropTransfers b).field = s.field := rfl
@[simp] theorem State.latch_time (s : State) (f : Latch → Latch) : (s.latch f).time = s.time := rfl
@[simp] theorem State.cause_time (s : State) (k : CauseKind) (c : Nat) : (s.cause k c).time = s.time := rfl
@[simp] theorem State.fresh_time (s : State) (w : Nat) : (s.fresh w).2.time = s.time := rfl
@[simp] theorem State.journal_time (s : State) (t k l p : Nat) (b c : Bool) : (s.journal t k l p b c).time = s.time := by unfold State.journal; split <;> rfl
@[simp] theorem State.onSession_time (s : State) (i : Nat) (f : Session → Session) : (s.onSession i f).time = s.time := rfl
@[simp] theorem State.send_time (s : State) (r : Reply) : (s.send r).time = s.time := rfl
@[simp] theorem State.answer_time (s : State) (r : Reply) : (s.answer r).time = s.time := rfl
@[simp] theorem State.answerHeld_time (s : State) (r : Reply) : (s.answerHeld r).time = s.time := by unfold State.answerHeld; dsimp only; split <;> rfl
@[simp] theorem State.noteSeq_time (s : State) (q : Packet) : (s.noteSeq q).time = s.time := rfl
@[simp] theorem State.putUnit_time (s : State) (u : UnitRec) : (s.putUnit u).time = s.time := rfl
@[simp] theorem State.dropTransfers_time (s : State) (b : Bool) : (s.dropTransfers b).time = s.time := rfl
@[simp] theorem State.latch_can (s : State) (f : Latch → Latch) : (s.latch f).can = s.can := rfl
@[simp] theorem State.cause_can (s : State) (k : CauseKind) (c : Nat) : (s.cause k c).can = s.can := rfl
@[simp] theorem State.fresh_can (s : State) (w : Nat) : (s.fresh w).2.can = s.can := rfl
@[simp] theorem State.journal_can (s : State) (t k l p : Nat) (b c : Bool) : (s.journal t k l p b c).can = s.can := by unfold State.journal; split <;> rfl
@[simp] theorem State.onSession_can (s : State) (i : Nat) (f : Session → Session) : (s.onSession i f).can = s.can := rfl
@[simp] theorem State.send_can (s : State) (r : Reply) : (s.send r).can = s.can := rfl
@[simp] theorem State.answer_can (s : State) (r : Reply) : (s.answer r).can = s.can := rfl
@[simp] theorem State.answerHeld_can (s : State) (r : Reply) : (s.answerHeld r).can = s.can := by unfold State.answerHeld; dsimp only; split <;> rfl
@[simp] theorem State.noteSeq_can (s : State) (q : Packet) : (s.noteSeq q).can = s.can := rfl
@[simp] theorem State.putUnit_can (s : State) (u : UnitRec) : (s.putUnit u).can = s.can := rfl
@[simp] theorem State.dropTransfers_can (s : State) (b : Bool) : (s.dropTransfers b).can = s.can := rfl
@[simp] theorem State.latch_pending (s : State) (f : Latch → Latch) : (s.latch f).pending = s.pending := rfl
@[simp] theorem State.cause_pending (s : State) (k : CauseKind) (c : Nat) : (s.cause k c).pending = s.pending := rfl
@[simp] theorem State.fresh_pending (s : State) (w : Nat) : (s.fresh w).2.pending = s.pending := rfl
@[simp] theorem State.journal_pending (s : State) (t k l p : Nat) (b c : Bool) : (s.journal t k l p b c).pending = s.pending := by unfold State.journal; split <;> rfl
@[simp] theorem State.onSession_pending (s : State) (i : Nat) (f : Session → Session) : (s.onSession i f).pending = s.pending := rfl
@[simp] theorem State.send_pending (s : State) (r : Reply) : (s.send r).pending = s.pending := rfl
@[simp] theorem State.answer_pending (s : State) (r : Reply) : (s.answer r).pending = s.pending := rfl
@[simp] theorem State.answerHeld_pending (s : State) (r : Reply) : (s.answerHeld r).pending = s.pending := by unfold State.answerHeld; dsimp only; split <;> rfl
@[simp] theorem State.noteSeq_pending (s : State) (q : Packet) : (s.noteSeq q).pending = s.pending := rfl
@[simp] theorem State.putUnit_pending (s : State) (u : UnitRec) : (s.putUnit u).pending = s.pending := rfl
@[simp] theorem State.dropTransfers_pending (s : State) (b : Bool) : (s.dropTransfers b).pending = s.pending := rfl

/-! Reading a field after an update. -/

/-- After a write, the field reads what was written, cut to its width; every field with another key reads as before. -/
theorem State.get_put (s : State) (f g : Fld) (v k j : Nat) :
    (s.put f v k).get g j = if fldKey g j = fldKey f k then v % 2 ^ f.w else s.get g j := by
  split
  · rename_i h; simp only [State.get, State.put, h, regGet_regPut_self]
  · rename_i h; exact State.get_put_ne h

/-- Writing the parts beside the registers changes no field. -/
theorem State.get_of_regs {s t : State} (h : t.regs = s.regs) (f : Fld) (k : Nat) : t.get f k = s.get f k := by
  simp only [State.get, h]

@[simp] theorem State.get_mk (s : State) {mem free beat ev lcp jr units wd rt rtY rtZ loops pair sec triad pwr img panel lanes field time can pending} (f : Fld) (k : Nat) :
    State.get (State.mk s.regs mem free beat ev lcp jr units wd rt rtY rtZ loops pair sec triad pwr img panel lanes field time can pending) f k = s.get f k := rfl

@[simp] theorem State.get_latch (s : State) (h : Latch → Latch) (f : Fld) (k : Nat) : (s.latch h).get f k = s.get f k := rfl
@[simp] theorem State.get_cause (s : State) (h : CauseKind) (c : Nat) (f : Fld) (k : Nat) : (s.cause h c).get f k = s.get f k := rfl
@[simp] theorem State.get_fresh (s : State) (w : Nat) (f : Fld) (k : Nat) : (s.fresh w).2.get f k = s.get f k := rfl
@[simp] theorem State.get_onSession (s : State) (i : Nat) (h : Session → Session) (f : Fld) (k : Nat) :
    (s.onSession i h).get f k = s.get f k := rfl
@[simp] theorem State.get_send (s : State) (r : Reply) (f : Fld) (k : Nat) : (s.send r).get f k = s.get f k := rfl
@[simp] theorem State.get_answer (s : State) (r : Reply) (f : Fld) (k : Nat) : (s.answer r).get f k = s.get f k := rfl
@[simp] theorem State.get_answerHeld (s : State) (r : Reply) (f : Fld) (k : Nat) : (s.answerHeld r).get f k = s.get f k := by
  simp only [State.get, State.answerHeld_regs]
@[simp] theorem State.get_noteSeq (s : State) (p : Packet) (f : Fld) (k : Nat) : (s.noteSeq p).get f k = s.get f k := rfl
@[simp] theorem State.get_dropTransfers (s : State) (b : Bool) (f : Fld) (k : Nat) : (s.dropTransfers b).get f k = s.get f k := rfl
@[simp] theorem State.get_putUnit (s : State) (u : UnitRec) (f : Fld) (k : Nat) : (s.putUnit u).get f k = s.get f k := rfl

/-- An event changes no field but the count of its source. -/
theorem State.get_raise (s : State) (src code sev : Nat) (d : List (Nat × Nat)) (f : Fld) (k : Nat) :
    (s.raise src code sev d).get f k = (s.inc F.raised src).get f k := rfl

theorem State.get_raise_ne {s : State} {src code sev : Nat} {d : List (Nat × Nat)} {f : Fld} {k : Nat}
    (h : fldKey f k ≠ fldKey F.raised src) : (s.raise src code sev d).get f k = s.get f k := by
  rw [State.get_raise]
  exact State.get_put_ne h

end Sys2Proof.Machine
end

