-- ==== Sys2Proof/Laws/Packets.lean ====
section
/-! SUPPORT. What each way of handling an opcode does with a packet that reaches it and passes its checks, and what a passed
list of checks says of each. -/

namespace Sys2Proof.Machine

open Sys2Proof

/-! Checks. -/

theorem Chk.andThen_ok {a b : Chk} : a.andThen b = .ok ↔ a = .ok ∧ b = .ok := by
  cases a <;> simp [Chk.andThen]

theorem Chk.all_ok {l : List Chk} : Chk.all l = .ok ↔ ∀ c ∈ l, c = .ok := by
  induction l with
  | nil => simp [Chk.all]
  | cons a l ih => simp [Chk.all, Chk.andThen_ok, ih]

@[simp] theorem param_ok {b : Bool} {n : Nat} : param b n = .ok ↔ b = true := by cases b <;> simp [param]
@[simp] theorem need_ok {b : Bool} {n : Nat} : need b n = .ok ↔ b = true := by cases b <;> simp [need]
@[simp] theorem require_ok {b : Bool} {n : Nat} {l : List Tlv} : require b n l = .ok ↔ b = true := by cases b <;> simp [require]
@[simp] theorem needTlv_ok {p : Packet} {n : Nat} : needTlv p n = .ok ↔ p.has n = true := by simp [needTlv]

/-! Replies. -/

/-- A held answer: the cache takes it, and it leaves now or joins the held replies. -/
theorem State.answerHeld_eq (s : State) (r : Reply) : s.answerHeld r =
    { s with lcp := { s.lcp with
        sessions := s.lcp.sessions.map (fun x => if x.id == r.sess then Session.remember x r else x)
        wire := if s.replyBeat = 0 ∧ s.jr.asked ≤ s.jr.commits then s.lcp.wire ++ [r] else s.lcp.wire
        heldReplies := if s.replyBeat = 0 ∧ s.jr.asked ≤ s.jr.commits then s.lcp.heldReplies
          else s.lcp.heldReplies ++ [{ beat := s.replyBeat, need := s.jr.asked, reply := r }] } } := by
  show (if s.replyBeat = 0 ∧ s.jr.asked ≤ s.jr.commits then _ else _) = _
  by_cases h : s.replyBeat = 0 ∧ s.jr.asked ≤ s.jr.commits
  · rw [if_pos h, if_pos h, if_pos h]; rfl
  · rw [if_neg h, if_neg h, if_neg h]; rfl

/-- An S opcode that reaches its unit and passes its checks. -/
theorem served_go {o : Op} {p : Packet} {chk : UnitSel → State → Chk} {body : UnitSel → State → Ans} {u : UnitSel} {s : State}
    (h : admission o p s = .go u) (k : (permit o p u (s.noteSeq p)).andThen (chk u (s.noteSeq p)) = .ok) :
    served o p chk body s = (body u (s.noteSeq p)).st.answer (mkReply o p (body u (s.noteSeq p)).st (some u)
      (if (body u (s.noteSeq p)).more then 8 else 0) (body u (s.noteSeq p)).status (body u (s.noteSeq p)).tlvs) := by
  unfold served
  rw [h]
  dsimp only
  rw [k]

/-- The same for one whose reply is held. -/
theorem servedTracked_go {o : Op} {p : Packet} {chk : UnitSel → State → Chk} {body : UnitSel → State → Ans} {u : UnitSel}
    {s : State} (h : admission o p s = .go u) (k : (permit o p u (s.noteSeq p)).andThen (chk u (s.noteSeq p)) = .ok) :
    servedTracked o p chk body s = (body u (s.noteSeq p)).st.answerHeld (mkReply o p (body u (s.noteSeq p)).st (some u)
      (if (body u (s.noteSeq p)).more then 8 else 0) (body u (s.noteSeq p)).status (body u (s.noteSeq p)).tlvs) := by
  unfold servedTracked
  rw [h]
  dsimp only
  rw [k]

/-- The priority and the arrival beat by which a request is queued: of its session and of this beat, or, for a request that
the partner forwarded, those it brings (R385). -/
def queuedFrom (p : Packet) (s : State) : Nat × Nat :=
  p.origin.getD ((match s.session? p.sess with | some x => x.prio | none => 0), s.now)

/-- The command that an F or P opcode puts into the queue. -/
def queuedCmd (o : Op) (p : Packet) (u : UnitSel) (n : Nat) (s : State) : QCmd :=
  { op := o, pkt := p, prio := (queuedFrom p s).1, beat := (queuedFrom p s).2, apply := n, epoch := s.epochOf u }

/-- An F or P opcode that reaches its unit and passes its checks. -/
theorem queued_go {o : Op} {p : Packet} {chk : UnitSel → State → Chk} {n : UnitSel → State → Nat} {u : UnitSel} {s : State}
    (h : admission o p s = .go u) (k : (permit o p u (s.noteSeq p)).andThen (chk u (s.noteSeq p)) = .ok) :
    queued o p chk n s =
      (if queuedP o then (s.noteSeq p).enqueue (queuedCmd o p u (n u (s.noteSeq p)) (s.noteSeq p))
       else ((s.noteSeq p).enqueue (queuedCmd o p u (n u (s.noteSeq p)) (s.noteSeq p))).answerHeld
        (mkReply o p ((s.noteSeq p).enqueue (queuedCmd o p u (n u (s.noteSeq p)) (s.noteSeq p))) (some u) 0 stAccepted
          (applyBeatTlv (n u (s.noteSeq p)) ::
            lockTlvs o ((s.noteSeq p).enqueue (queuedCmd o p u (n u (s.noteSeq p)) (s.noteSeq p)))))) := by
  unfold queued
  rw [h]
  dsimp only
  rw [k]
  rfl

/-- An opcode whose final reply comes later. -/
theorem deferred_go {o : Op} {p : Packet} {chk : UnitSel → State → Chk} {body : UnitSel → State → State} {u : UnitSel}
    {s : State} (h : admission o p s = .go u) (k : (permit o p u (s.noteSeq p)).andThen (chk u (s.noteSeq p)) = .ok) :
    deferred o p chk body s = body u (s.noteSeq p) := by
  unfold deferred
  rw [h]
  dsimp only
  rw [k]

/-- A refusal that is recorded: nothing where there is none. -/
theorem auditRefused_go {o : Op} {p : Packet} {chk : UnitSel → State → Chk} {a d : Nat} {u : UnitSel} {s t : State}
    (h : admission o p s = .go u) (k : (permit o p u (s.noteSeq p)).andThen (chk u (s.noteSeq p)) = .ok) :
    auditRefused o p chk a d s t = t := by
  unfold auditRefused
  rw [h]
  dsimp only
  rw [k]

end Sys2Proof.Machine
end

