-- ==== Sys2Proof/Laws/Effects.lean ====
section
/-! SUPPORT. The lemmas of the terms the statements use (`RegsBut`, `Raised`, `Replied`, `Does`): what each shared operation does
to them. -/

namespace Sys2Proof.Machine

open Sys2Proof

theorem RegsBut.refl {l s} : RegsBut l s s := fun _ _ _ => rfl
theorem RegsBut.put {l s t f v k} (h : RegsBut l s t) (hm : (f, k) ∈ l) : RegsBut l s (t.put f v k) := by
  intro g j hg
  rw [State.get_put_ne (hg _ hm)]; exact h g j hg
theorem RegsBut.putFlag {l s t f v k} (h : RegsBut l s t) (hm : (f, k) ∈ l) : RegsBut l s (t.putFlag f v k) := h.put hm
theorem RegsBut.inc {l s t f k} (h : RegsBut l s t) (hm : (f, k) ∈ l) : RegsBut l s (t.inc f k) := h.put hm
theorem RegsBut.add {l s t f k d} (h : RegsBut l s t) (hm : (f, k) ∈ l) : RegsBut l s (t.add f d k) := h.put hm
theorem RegsBut.peak {l s t f k d} (h : RegsBut l s t) (hm : (f, k) ∈ l) : RegsBut l s (t.peak f d k) := by
  unfold State.peak; split
  · exact h.put hm
  · exact h
theorem RegsBut.raise {l s t src c v d} (h : RegsBut l s t) (hm : (F.raised, src) ∈ l) : RegsBut l s (t.raise src c v d) := h.put hm
theorem RegsBut.regs {l s t u} (h : RegsBut l s t) (e : u.regs = t.regs) : RegsBut l s u := by
  intro f k hk; rw [State.get_of_regs e]; exact h f k hk
theorem RegsBut.ite {l s t u} {c : Prop} [Decidable c] (h : c → RegsBut l s t) (h' : ¬ c → RegsBut l s u) : RegsBut l s (if c then t else u) := by
  split
  · exact h ‹_›
  · exact h' ‹_›
theorem packData_one (cur used : Nat) (l : List (Nat × Nat)) (h : used + (l.map Prod.fst).sum ≤ 64) :
    packData 64 cur used l = [cur + 2 ^ used * sideBySide l] := by
  induction l generalizing cur used with
  | nil => simp [packData, sideBySide]
  | cons p l ih =>
    obtain ⟨w, v⟩ := p
    simp only [List.map_cons, List.sum_cons] at h
    rw [packData, if_pos (by omega), ih _ _ (by omega)]
    simp only [sideBySide, List.cons.injEq, and_true, Nat.pow_add, Nat.mul_add]
    rw [Nat.mul_comm (v % 2 ^ w), Nat.mul_assoc]
    omega
theorem mkRecs_one (s : State) (src code sev : Nat) (l : List (Nat × Nat)) (h : (l.map Prod.fst).sum ≤ 64) :
    mkRecs s src code sev (packData 64 0 0 l) = [eventOf s src code sev l] := by
  rw [packData_one 0 0 l (by omega)]
  simp only [mkRecs, eventOf, State.now, State.opTime, List.mapIdx_cons, List.mapIdx_nil, Nat.zero_add, Nat.pow_zero, Nat.one_mul, beq_iff_eq]
  rfl

def stampKeys (src : Nat) : List Nat := [fldKey F.beatIndex 0, fldKey F.timeLocked 0, fldKey F.powerCycles 0, fldKey F.routeClusters src, fldKey F.routeLoops src,
  fldKey F.routeSup src, fldKey F.routeRecorder src, fldKey F.routeTp2 src, fldKey F.routeTp3 src]
def stampFree (src : Nat) (l : List (Fld × Nat)) : Bool := l.all fun p => (stampKeys src).all fun g => !(g == fldKey p.1 p.2)
theorem eventOf_same {l : List (Fld × Nat)} {s t : State} {src : Nat} (h : RegsBut l s t) (hl : stampFree src l = true) (hb : t.beat.off = s.beat.off)
    (ho : t.beat.opBeats = s.beat.opBeats) (code sev d) : eventOf t src code sev d = eventOf s src code sev d := by
  have key : ∀ f k, fldKey f k ∈ stampKeys src → t.get f k = s.get f k := by
    intro f k hm
    refine h f k ?_
    intro p hp
    have := List.all_eq_true.1 (List.all_eq_true.1 hl p hp) _ hm
    simpa using this
  simp only [eventOf, State.route]
  rw [hb, ho, key F.beatIndex 0 (by simp [stampKeys]), key F.timeLocked 0 (by simp [stampKeys]), key F.powerCycles 0 (by simp [stampKeys]),
    key F.routeClusters src (by simp [stampKeys]), key F.routeLoops src (by simp [stampKeys]), key F.routeSup src (by simp [stampKeys]),
    key F.routeRecorder src (by simp [stampKeys]), key F.routeTp2 src (by simp [stampKeys]), key F.routeTp3 src (by simp [stampKeys])]
theorem Raised.refl {s} : Raised [] s s := by simp [Raised]
theorem Raised.raise {es : List EvRec} {l : List (Fld × Nat)} {s t : State} {src code sev d} (h : Raised es s t) (hr : RegsBut l s t)
    (hl : stampFree src l = true) (ho : t.beat.off = s.beat.off) (hp : t.beat.opBeats = s.beat.opBeats)
    (hw : (d.map Prod.fst).sum ≤ 64) : Raised (es ++ [eventOf s src code sev d]) s (t.raise src code sev d) := by
  have e : (t.raise src code sev d).ev = { t.ev with router := t.ev.router ++ mkRecs t src code sev (packData 64 0 0 d) } := rfl
  simp only [Raised] at h ⊢
  rw [e, h, mkRecs_one _ _ _ _ _ hw, eventOf_same hr hl ho hp, List.append_assoc]
theorem Raised.of_ev {es : List EvRec} {s t u : State} (h : Raised es s t) (e : u.ev = t.ev) : Raised es s u := by
  simp only [Raised] at h ⊢; rw [e, h]
theorem Raised.raiseOne {l : List (Fld × Nat)} {s t : State} {src code sev d} (hr : RegsBut l s t) (he : t.ev = s.ev)
    (hl : stampFree src l = true) (ho : t.beat.off = s.beat.off) (hp : t.beat.opBeats = s.beat.opBeats)
    (hw : (d.map Prod.fst).sum ≤ 64) : Raised [eventOf s src code sev d] s (t.raise src code sev d) :=
  Raised.raise (Raised.refl.of_ev he) hr hl ho hp hw
theorem RaisedLast.raise {l : List (Fld × Nat)} {s t : State} {src code sev d} (h : ∃ es, t.ev.router = s.ev.router ++ es) (hr : RegsBut l s t)
    (hl : stampFree src l = true) (ho : t.beat.off = s.beat.off) (hp : t.beat.opBeats = s.beat.opBeats)
    (hw : (d.map Prod.fst).sum ≤ 64) : RaisedLast [eventOf s src code sev d] s (t.raise src code sev d) := by
  obtain ⟨es, he⟩ := h
  have e : (t.raise src code sev d).ev.router = t.ev.router ++ mkRecs t src code sev (packData 64 0 0 d) := rfl
  exact ⟨es, by rw [e, he, mkRecs_one _ _ _ _ _ hw, eventOf_same hr hl ho hp, List.append_assoc]⟩
theorem served_ok {o : Op} {p : Packet} {chk : UnitSel → State → Chk} {body : UnitSel → State → Ans} {u : UnitSel} {s : State}
    (h : Passes o p chk u s) : served o p chk body s = (body u (s.noteSeq p)).st.answer (mkReply o p (body u (s.noteSeq p)).st (some u)
      (if (body u (s.noteSeq p)).more then 8 else 0) (body u (s.noteSeq p)).status (body u (s.noteSeq p)).tlvs) := served_go h.1 h.2
theorem auditEq (s : State) (a r d p sub : Nat) : ∃ q : AuditRec, q.action = a ∧ q.result = r % 256 ∧ q.subject = sub % 2 ^ 32 ∧
    (s.audit a r d p sub).sec = { s.sec with audit := (s.audit a r d p sub).sec.audit } ∧ (s.audit a r d p sub).sec.audit.getLast? = some q ∧
    (∃ es, (s.audit a r d p sub).ev = { s.ev with router := s.ev.router ++ es }) ∧
    RegsBut auditRegs s (s.audit a r d p sub) ∧
    s.audit a r d p sub = { s with regs := (s.audit a r d p sub).regs, ev := (s.audit a r d p sub).ev, sec := (s.audit a r d p sub).sec } := by
  unfold State.audit
  dsimp only
  split
  all_goals refine ⟨_, rfl, rfl, rfl, rfl, List.getLast?_concat .., ?_, ?_, rfl⟩
  · exact ⟨_, rfl⟩
  · refine RegsBut.raise (RegsBut.inc (RegsBut.put (RegsBut.put (RegsBut.regs RegsBut.refl rfl) ?_) ?_) ?_) ?_ <;> simp [auditRegs]
  · exact ⟨[], by simp⟩
  · refine (RegsBut.put (RegsBut.put (RegsBut.regs RegsBut.refl rfl) ?_) ?_)  <;> simp [auditRegs]

theorem RegsBut.trans {l s t u} (h : RegsBut l s t) (h' : RegsBut l t u) : RegsBut l s u := fun f k hk => (h' f k hk).trans (h f k hk)
theorem RegsBut.mono {l l' s t} (h : RegsBut l s t) (hl : ∀ p ∈ l, p ∈ l') : RegsBut l' s t := fun f k hk => h f k (fun p hp => hk p (hl p hp))

theorem auditBy_spec (s : State) (i a r d : Nat) : ∃ p sub, s.auditBy i a r d = s.audit a r d p sub := by
  unfold State.auditBy; split <;> exact ⟨_, _, rfl⟩

/-- An action recorded in the audit log: what it changes. -/
theorem audit_recorded (s : State) (a r d p sub : Nat) : Recorded a r d (s.audit a r d p sub) := by
  unfold State.audit
  dsimp only
  split <;> exact ⟨_, List.getLast?_concat .., rfl, rfl, rfl⟩

/-- The same for an action of the session of a packet that has been noted. -/
theorem auditBy_noted (p : Packet) (s : State) (a r d : Nat) : ∃ (rg : List (Nat × Nat)) (ev : EventSt) (sec : SecSt) (es : List EvRec),
    (s.noteSeq p).auditBy p.sess a r d = ({ (s.noteSeq p) with regs := rg, ev := ev, sec := sec } : State) ∧
    RegsBut auditRegs s ({ (s.noteSeq p) with regs := rg, ev := ev, sec := sec } : State) ∧
    ev = { s.ev with router := s.ev.router ++ es } ∧
    Recorded a r d ({ (s.noteSeq p) with regs := rg, ev := ev, sec := sec } : State) ∧ sec = { s.sec with audit := sec.audit } := by
  obtain ⟨pr, sub, hv⟩ := auditBy_spec (s.noteSeq p) p.sess a r d
  obtain ⟨q, -, -, -, h4, -, ⟨es, h6⟩, h7, h8⟩ := auditEq (s.noteSeq p) a r d pr sub
  have h9 := audit_recorded (s.noteSeq p) a r d pr sub
  rw [hv]
  refine ⟨_, _, _, es, h8, RegsBut.trans (RegsBut.regs RegsBut.refl rfl) (RegsBut.regs h7 rfl), h6, ?_, h4⟩
  exact h8 ▸ h9

theorem auditRefused_ok {o : Op} {p : Packet} {chk : UnitSel → State → Chk} {u : UnitSel} {s : State} {a d : Nat}
    (h : Passes o p chk u s) (s' : State) : auditRefused o p chk a d s s' = s' := auditRefused_go h.1 h.2

theorem State.fresh_lt (s : State) (w : Nat) : (s.fresh w).1 < 2 ^ w := Nat.mod_lt _ (Nat.two_pow_pos w)

theorem does_served {c : Instr} {o : Op} {p : Packet} {chk : UnitSel → State → Chk} {body : UnitSel → State → Ans} {u : UnitSel} {s : State}
    {P : State → Prop} (h : Passes o p chk u s) (he : exec c s = .next (served o p chk body s))
    (k : ∀ r, r = mkReply o p (body u (s.noteSeq p)).st (some u) (if (body u (s.noteSeq p)).more then 8 else 0) (body u (s.noteSeq p)).status (body u (s.noteSeq p)).tlvs →
      P ((body u (s.noteSeq p)).st.answer r)) : Does c s P :=
  ⟨_, he, by rw [served_ok h]; exact k _ rfl⟩
theorem replied_mk {o : Op} {p : Packet} {a : Ans} {u : UnitSel} {s : State} {r : Reply}
    (hr : r = mkReply o p a.st (some u) (if a.more then 8 else 0) a.status a.tlvs) (hw : a.st.lcp.wire = s.lcp.wire) :
    Replied o p u a.status a.tlvs a.more s (a.st.answer r) := by
  subst hr
  refine ⟨_, by rw [← hw]; rfl, rfl, rfl, rfl, rfl, ?_, rfl, rfl, ?_, ?_⟩
  · cases u <;> rfl
  · cases a.more <;> cases hb : bitOf p.flags 5 <;> simp only [mkReply, hb] <;> decide
  · cases a.more <;> cases hb : bitOf p.flags 5 <;> simp only [mkReply, hb] <;> decide
theorem remIf (c : Prop) [Decidable c] (a : Session) (r : Reply) : (if c then Session.remember a r else a).id = a.id ∧ (if c then Session.remember a r else a).nextPrio = a.nextPrio := by
  split <;> simp [Session.remember]
theorem setMode_gets (s : State) (a b c d e f : Nat) (ha : a < 8) (hb : b < 8) : (s.setMode a b c d e f).get F.mode = a ∧ (s.setMode a b c d e f).get F.role = b := by
  unfold State.setMode
  dsimp only
  split
  · rename_i h; exact ⟨h.1, h.2.1⟩
  · have key : ∀ u, MKept ((((s.put F.mode a).put F.role b).put F.ready c).put F.safeCause d) u → u.get F.mode = a ∧ u.get F.role = b := by
      intro u hu
      have e1 : ((((s.put F.mode a).put F.role b).put F.ready c).put F.safeCause d).get F.mode = a := by
        rw [State.get_put_ne (by decide), State.get_put_ne (by decide), State.get_put_ne (by decide), State.get_put_self]
        exact Nat.mod_eq_of_lt ha
      have e2 : ((((s.put F.mode a).put F.role b).put F.ready c).put F.safeCause d).get F.role = b := by
        rw [State.get_put_ne (by decide), State.get_put_ne (by decide), State.get_put_self]
        exact Nat.mod_eq_of_lt hb
      obtain ⟨x, y⟩ := hu.same ⟨by rw [e1]; exact ha, by rw [e2]; exact hb⟩
      exact ⟨by rw [x, e1], by rw [y, e2]⟩
    apply key
    refine MKept.trans ?_ State.raise_mk
    refine MKept.trans ?_ State.refreshDrive_mk
    refine MKept.thenUnits ?_
    refine MKept.thenUnits ?_
    refine MKept.thenBump ?_
    refine MKept.ite (MKept.refl _) ?_
    exact MKept.trans (MKept.trans (MKept.put (by decide)) (MKept.putFlag (by decide))) State.bumpOwn_mk
theorem enterStart_gets (s : State) (c : Nat) : (s.enterStart c).get F.mode = 1 ∧ (s.enterStart c).get F.role = 0 := by
  unfold State.enterStart
  dsimp only
  have key : ∀ (w : State) (x y : Nat), ((w.setMode mStart rNone 0 x y 2).canShow.fieldOff).get F.mode = 1 ∧
      ((w.setMode mStart rNone 0 x y 2).canShow.fieldOff).get F.role = 0 := by
    intro w x y
    obtain ⟨a, b⟩ := setMode_gets w mStart rNone 0 x y 2 (by decide) (by decide)
    obtain ⟨c, d⟩ := (MKept.trans State.canShow_mk (State.fieldOff_mk (a0 := (w.setMode mStart rNone 0 x y 2).canShow))).same ⟨by rw [a]; decide, by rw [b]; decide⟩
    exact ⟨c.trans a, d.trans b⟩
  split
  · obtain ⟨a, b⟩ := key _ _ _
    obtain ⟨c, d⟩ := (State.bumpOwn_mk (a1 := 2)).same ⟨by rw [a]; decide, by rw [b]; decide⟩
    exact ⟨c.trans a, d.trans b⟩
  · exact key _ _ _
theorem does_tracked {c : Instr} {o : Op} {p : Packet} {chk : UnitSel → State → Chk} {body : UnitSel → State → Ans} {u : UnitSel} {s : State}
    {P : State → Prop} (h : Passes o p chk u s) (he : exec c s = .next (servedTracked o p chk body s))
    (k : ∀ r, r = mkReply o p (body u (s.noteSeq p)).st (some u) (if (body u (s.noteSeq p)).more then 8 else 0) (body u (s.noteSeq p)).status (body u (s.noteSeq p)).tlvs →
      P ((body u (s.noteSeq p)).st.answerHeld r)) : Does c s P :=
  ⟨_, he, by rw [servedTracked_go h.1 h.2]; exact k _ rfl⟩
theorem held_mk {o : Op} {p : Packet} {a : Ans} {u : UnitSel} {s : State} {r : Reply}
    (hr : r = mkReply o p a.st (some u) (if a.more then 8 else 0) a.status a.tlvs) (hw : a.st.lcp.wire = s.lcp.wire) (hh : a.st.lcp.heldReplies = s.lcp.heldReplies) :
    RepliedHeld o p a.status a.tlvs s (a.st.answerHeld r) := by
  refine ⟨r, by rw [hr]; rfl, by rw [hr]; rfl, by rw [hr]; rfl, by rw [hr]; rfl, by rw [hr]; rfl, ?_⟩
  rw [State.answerHeld_eq]
  dsimp only
  split
  · exact .inl ⟨by rw [hw], hh⟩
  · exact .inr ⟨hw, _, by rw [hh], rfl⟩
theorem journal_spec (s : State) (a b c d e f) : (s.journal a b c d e f).img = s.img ∧ (s.journal a b c d e f).lcp = s.lcp ∧ (s.journal a b c d e f).mem = s.mem ∧
   (s.journal a b c d e f).sec = s.sec ∧ RegsBut [(F.raised, 378)] s (s.journal a b c d e f) := by
  unfold State.journal
  split
  · exact ⟨rfl, rfl, rfl, rfl, RegsBut.regs RegsBut.refl rfl⟩
  · exact ⟨rfl, rfl, rfl, rfl, RegsBut.raise RegsBut.refl (by simp)⟩

end Sys2Proof.Machine
end

