-- ==== Sys2Proof/Laws/KeepsBase.lean ====
section
/-! SUPPORT. `Keeps`: an operation keeps the invariant of the block and the queue of commands. The lemmas of the shared
operations; the files Keeps… hold one lemma per function of each family. -/

namespace Sys2Proof.Machine

open Sys2Proof

/-- From `s` to `t` the invariant is kept, and the queue is the same. -/
structure Keeps (s t : State) : Prop where
  inv : s.Inv → t.Inv
  queue : t.pending = s.pending

theorem Keeps.refl (s : State) : Keeps s s := ⟨id, rfl⟩

theorem Keeps.trans {s t u : State} (h : Keeps s t) (k : Keeps t u) : Keeps s u :=
  ⟨fun i => k.inv (h.inv i), k.queue.trans h.queue⟩

/-- A change of parts the invariant does not speak of. -/
theorem Keeps.upd {s t u : State} (h : Keeps s t) (hr : u.regs = t.regs) (hm : u.mems = t.mems)
    (he : u.beat.edgePend = t.beat.edgePend) (hc : u.can.pend = t.can.pend) (hp : u.pending = t.pending) : Keeps s u := by
  refine ⟨fun i => ?_, hp.trans h.queue⟩
  obtain ⟨⟨a, b⟩, c, d⟩ := h.inv i
  refine ⟨⟨hm ▸ a, hr ▸ b⟩, ?_, ?_⟩
  · simpa only [State.DriveSafe, State.get, hr] using c
  · simpa only [State.EdgesClean, he, hc] using d

/-- The same where writes that wait are dropped. -/
theorem Keeps.drop {s t u : State} (h : Keeps s t) (hr : u.regs = t.regs) (hm : u.mems = t.mems)
    (he : u.beat.edgePend ⊆ t.beat.edgePend) (hc : u.can.pend ⊆ t.can.pend) (hp : u.pending = t.pending) : Keeps s u := by
  refine ⟨fun i => ?_, hp.trans h.queue⟩
  obtain ⟨⟨a, b⟩, c, d⟩ := h.inv i
  refine ⟨⟨hm ▸ a, hr ▸ b⟩, ?_, ?_⟩
  · simpa only [State.DriveSafe, State.get, hr] using c
  · intro w hw
    rcases List.mem_append.1 hw with hw | hw
    · exact d w (List.mem_append.2 (.inl (he hw)))
    · exact d w (List.mem_append.2 (.inr (hc hw)))

/-- `Keeps.upd` and `Keeps.drop` in the form in which a record update unfolds. -/
theorem Keeps.mkUpd {s t : State} (h : Keeps s t) {free ev lcp jr units wd rt rtY rtZ loops pair sec pwr img panel lanes field time} {beat : BeatSt} {can : CanSt}
    {triad : TriadSt}
    (he : beat.edgePend = t.beat.edgePend) (hc : can.pend = t.can.pend)
    (hy : triad.memY = t.triad.memY) (hz : triad.memZ = t.triad.memZ) :
    Keeps s (State.mk t.regs t.mem free beat ev lcp jr units wd rt rtY rtZ loops pair sec triad pwr img panel lanes field time can t.pending) :=
  Keeps.upd h rfl (by simp only [State.mems, hy, hz]) he hc rfl

theorem Keeps.mkDrop {s t : State} (h : Keeps s t) {free ev lcp jr units wd rt rtY rtZ loops pair sec pwr img panel lanes field time} {beat : BeatSt} {can : CanSt}
    {triad : TriadSt}
    (he : beat.edgePend ⊆ t.beat.edgePend) (hc : can.pend ⊆ t.can.pend)
    (hy : triad.memY = t.triad.memY) (hz : triad.memZ = t.triad.memZ) :
    Keeps s (State.mk t.regs t.mem free beat ev lcp jr units wd rt rtY rtZ loops pair sec triad pwr img panel lanes field time can t.pending) :=
  Keeps.drop h rfl (by simp only [State.mems, hy, hz]) he hc rfl

/-- A change of memory that keeps its canonical form. -/
theorem Keeps.memUpd {s t u : State} (h : Keeps s t) (hr : u.regs = t.regs)
    (hm : t.mems.all memWf = true → u.mems.all memWf = true)
    (he : u.beat.edgePend ⊆ t.beat.edgePend) (hc : u.can.pend ⊆ t.can.pend) (hp : u.pending = t.pending) : Keeps s u := by
  refine ⟨fun i => ?_, hp.trans h.queue⟩
  obtain ⟨⟨a, b⟩, c, d⟩ := h.inv i
  refine ⟨⟨hm a, hr ▸ b⟩, ?_, ?_⟩
  · simpa only [State.DriveSafe, State.get, hr] using c
  · intro w hw
    rcases List.mem_append.1 hw with hw | hw
    · exact d w (List.mem_append.2 (.inl (he hw)))
    · exact d w (List.mem_append.2 (.inr (hc hw)))

theorem Keeps.ite {s a b : State} {c : Prop} [Decidable c] (ha : Keeps s a) (hb : Keeps s b) : Keeps s (if c then a else b) := by
  split <;> assumption

theorem Keeps.iteFst {α : Type} {s : State} {a b : State × α} {c : Prop} [Decidable c] (ha : Keeps s a.1) (hb : Keeps s b.1) :
    Keeps s (if c then a else b).1 := by
  split <;> assumption

theorem Keeps.iteSnd {α : Type} {s : State} {a b : α × State} {c : Prop} [Decidable c] (ha : Keeps s a.2) (hb : Keeps s b.2) :
    Keeps s (if c then a else b).2 := by
  split <;> assumption

theorem Keeps.iteSt {s : State} {a b : Ans} {c : Prop} [Decidable c] (ha : Keeps s a.st) (hb : Keeps s b.st) :
    Keeps s (if c then a else b).st := by
  split <;> assumption

theorem Keeps.foldl {α : Type} {s t : State} {f : State → α → State} {l : List α} (h : Keeps s t)
    (hf : ∀ u a, Keeps u (f u a)) : Keeps s (l.foldl f t) := by
  induction l generalizing t with
  | nil => exact h
  | cons a l ih => exact ih (h.trans (hf t a))

theorem Keeps.foldlSnd {α β : Type} {s : State} {t : β × State} {f : β × State → α → β × State} {l : List α}
    (h : Keeps s t.2) (hf : ∀ u a, Keeps u.2 (f u a).2) : Keeps s (l.foldl f t).2 := by
  induction l generalizing t with
  | nil => exact h
  | cons a l ih => exact ih (h.trans (hf t a))

theorem Keeps.foldlFst {α β : Type} {s : State} {t : State × β} {f : State × β → α → State × β} {l : List α}
    (h : Keeps s t.1) (hf : ∀ u a, Keeps u.1 (f u a).1) : Keeps s (l.foldl f t).1 := by
  induction l generalizing t with
  | nil => exact h
  | cons a l ih => exact ih (h.trans (hf t a))

theorem Keeps.ofSnd {α : Type} {s x : State} {e : α × State} {a : α} (h : e = (a, x)) (k : Keeps s e.2) : Keeps s x := by
  subst h; exact k

theorem Keeps.ofFst {α : Type} {s x : State} {e : State × α} {a : α} (h : e = (x, a)) (k : Keeps s e.1) : Keeps s x := by
  subst h; exact k

/-- A key that is none of the four of `statusKeys`, whatever the copy number: by its place in the map. -/
def Fld.quiet (f : Fld) : Bool :=
  decide (51543801862 < f.home) || (f.home % 4194304 != 6 &&
    (decide (67108879 < f.home) || (f.home % 4194304 != 0 && f.home % 4194304 != 3 && f.home % 4194304 != 15)))

theorem Fld.quiet_keys {f : Fld} (h : f.quiet = true) (k : Nat) : fldKey f k ∉ statusKeys := by
  simp only [Fld.quiet, Bool.or_eq_true, decide_eq_true_eq, Bool.and_eq_true, bne_iff_ne] at h
  simp only [statusKeys, fldKey, F.mode, F.role, F.claim, F.driveEn, List.mem_cons, List.not_mem_nil, or_false]
  omega

/-- Fields behind the last of the four, wherever their number leads. -/
theorem Fld.quiet_next {f : Fld} (h : decide (51543801862 < f.home) = true) (i : Nat) : (f.next i).quiet = true := by
  have h := of_decide_eq_true h
  have k : 51543801862 < (f.next i).home := Nat.lt_of_lt_of_le h (Nat.le_add_right _ _)
  rw [Fld.quiet, decide_eq_true k, Bool.true_or]

/-- Writing a key other than the four. -/
theorem Keeps.regPut {s t : State} {k v : Nat} (h : Keeps s t) (hk : k ∉ statusKeys) :
    Keeps s { t with regs := regPut t.regs k v } := by
  refine ⟨fun i => ?_, h.queue⟩
  obtain ⟨⟨a, b⟩, c, d⟩ := h.inv i
  simp only [statusKeys, List.mem_cons, List.not_mem_nil, or_false, not_or] at hk
  obtain ⟨h1, h2, h3, h4⟩ := hk
  refine ⟨⟨a, regWf_regPut b k v⟩, ?_, d⟩
  simpa only [State.DriveSafe, State.get, regGet_regPut_ne (Ne.symm h1), regGet_regPut_ne (Ne.symm h2),
    regGet_regPut_ne (Ne.symm h3), regGet_regPut_ne (Ne.symm h4)] using c

theorem Keeps.putKey {s : State} {f : Fld} {v k : Nat} (h : fldKey f k ∉ statusKeys) : Keeps s (s.put f v k) :=
  Keeps.regPut (Keeps.refl s) h

theorem Keeps.put {s : State} {f : Fld} {v k : Nat} (h : f.quiet = true) : Keeps s (s.put f v k) := Keeps.putKey (f.quiet_keys h k)

theorem Keeps.putFlag {s : State} {f : Fld} {b : Bool} {k : Nat} (h : f.quiet = true) : Keeps s (s.putFlag f b k) := Keeps.put h

theorem Keeps.inc {s : State} {f : Fld} {k : Nat} (h : f.quiet = true) : Keeps s (s.inc f k) := Keeps.put h

theorem Keeps.add {s : State} {f : Fld} {d k : Nat} (h : f.quiet = true) : Keeps s (s.add f d k) := Keeps.put h

theorem Keeps.peak {s : State} {f : Fld} {v k : Nat} (h : f.quiet = true) : Keeps s (s.peak f v k) := by
  unfold State.peak; split
  · exact Keeps.put h
  · exact Keeps.refl s

/-- The claim or the drive enable is released. -/
theorem Keeps.release {s : State} {f : Fld} (h : f = F.claim ∨ f = F.driveEn) : Keeps s (s.put f 0) := by
  refine ⟨fun i => ?_, rfl⟩
  obtain ⟨⟨a, b⟩, c, d⟩ := i
  refine ⟨⟨a, regWf_regPut b _ _⟩, ?_, d⟩
  intro hc
  rcases h with rfl | rfl
  · rw [State.get_put_self, State.get_put_ne (by decide)] at hc
    rw [State.get_put_ne (by decide), State.get_put_ne (by decide)]
    exact c (.inr (by simpa using hc))
  · rw [State.get_put_self, State.get_put_ne (by decide)] at hc
    rw [State.get_put_ne (by decide), State.get_put_ne (by decide)]
    exact c (.inl (by simpa using hc))

/-- Writes that wait take their places in the registers. -/
theorem Keeps.regFold {s t : State} {l : List (Nat × Nat)} (h : Keeps s t) (hl : s.Inv → ∀ w ∈ l, w.1 ∉ statusKeys) :
    Keeps s { t with regs := l.foldl (fun l (w : Nat × Nat) => Machine.regPut l w.1 w.2) t.regs } := by
  have key : ∀ (l : List (Nat × Nat)) (t : State), t.Inv → (∀ w ∈ l, w.1 ∉ statusKeys) →
      State.Inv { t with regs := l.foldl (fun l (w : Nat × Nat) => Machine.regPut l w.1 w.2) t.regs } := by
    intro l
    induction l with
    | nil => intro t i _; exact i
    | cons w l ih =>
      intro t i hw
      exact ih { t with regs := Machine.regPut t.regs w.1 w.2 }
        ((Keeps.regPut (Keeps.refl t) (hw w (by simp))).inv i) (fun x hx => hw x (by simp [hx]))
  exact ⟨fun i => key l t (h.inv i) (hl i), h.queue⟩

/-- Writes of keys other than the four, in any order of choice. -/
theorem Keeps.regSteps {α : Type} {s t : State} {l : List α} {f : List (Nat × Nat) → α → List (Nat × Nat)} (h : Keeps s t)
    (hf : ∀ r a, f r a = r ∨ ∃ k v, k ∉ statusKeys ∧ f r a = Machine.regPut r k v) :
    Keeps s { t with regs := l.foldl f t.regs } := by
  induction l generalizing t with
  | nil => exact h
  | cons a l ih =>
    refine ih (t := { t with regs := f t.regs a }) ?_
    rcases hf t.regs a with e | ⟨k, v, hk, e⟩
    · rw [e]; exact h
    · rw [e]; exact Keeps.regPut h hk

/-- Registers other than the four go back to their defaults. -/
theorem Keeps.regDrop {s t : State} {p : Nat → Bool} (h : Keeps s t) (hp : ∀ k ∈ statusKeys, p k = false) :
    Keeps s { t with regs := t.regs.filter (fun r => !p r.1) } := by
  refine ⟨fun i => ?_, h.queue⟩
  obtain ⟨⟨a, b⟩, c, d⟩ := h.inv i
  refine ⟨⟨a, regWf_filter b _⟩, ?_, d⟩
  have keep : ∀ k ∈ statusKeys, ∀ d, regGet (t.regs.filter (fun r => !p r.1)) k d = regGet t.regs k d :=
    fun k hk d => regGet_filter (by simp [hp k hk]) t.regs d
  simp only [State.DriveSafe, State.get] at c ⊢
  rw [keep _ (by decide), keep _ (by decide), keep _ (by decide), keep _ (by decide)]
  exact c

/-! A mode change: what is kept between its first write and the last. -/

/-- The part of the invariant that does not speak of mode, role and drive. -/
def State.Inv0 (s : State) : Prop := s.Canonical ∧ s.EdgesClean

/-- `Keeps` for that part. -/
structure Keeps0 (s t : State) : Prop where
  inv : s.Inv0 → t.Inv0
  queue : t.pending = s.pending

theorem Keeps0.refl (s : State) : Keeps0 s s := ⟨id, rfl⟩

theorem Keeps0.trans {s t u : State} (h : Keeps0 s t) (k : Keeps0 t u) : Keeps0 s u :=
  ⟨fun i => k.inv (h.inv i), k.queue.trans h.queue⟩

theorem Keeps0.upd {s t u : State} (h : Keeps0 s t) (hr : u.regs = t.regs) (hm : u.mems = t.mems)
    (he : u.beat.edgePend = t.beat.edgePend) (hc : u.can.pend = t.can.pend) (hp : u.pending = t.pending) : Keeps0 s u := by
  refine ⟨fun i => ?_, hp.trans h.queue⟩
  obtain ⟨⟨a, b⟩, d⟩ := h.inv i
  refine ⟨⟨hm ▸ a, hr ▸ b⟩, ?_⟩
  simpa only [State.EdgesClean, he, hc] using d

theorem Keeps0.ite {s a b : State} {c : Prop} [Decidable c] (ha : Keeps0 s a) (hb : Keeps0 s b) :
    Keeps0 s (if c then a else b) := by
  split <;> assumption

theorem Keeps0.put {s : State} {f : Fld} {v k : Nat} : Keeps0 s (s.put f v k) :=
  ⟨fun i => ⟨⟨i.1.1, regWf_regPut i.1.2 _ _⟩, i.2⟩, rfl⟩

theorem Keeps0.raise {s : State} {src code sev : Nat} {d : List (Nat × Nat)} : Keeps0 s (s.raise src code sev d) :=
  ⟨fun i => ⟨⟨i.1.1, regWf_regPut i.1.2 _ _⟩, i.2⟩, rfl⟩

theorem Keeps0.journal {s : State} {t k l p : Nat} {b c : Bool} : Keeps0 s (s.journal t k l p b c) := by
  unfold State.journal
  refine Keeps0.ite ⟨id, rfl⟩ (Keeps0.trans ?_ Keeps0.raise)
  exact ⟨id, rfl⟩

theorem Keeps0.bumpOwn {s : State} {c : Nat} : Keeps0 s (s.bumpOwn c) := by
  unfold State.bumpOwn
  refine Keeps0.trans ?_ Keeps0.journal
  exact Keeps0.trans ((Keeps0.put.trans Keeps0.put).trans Keeps0.put) ⟨id, rfl⟩

theorem Keeps0.bumpPair {s : State} {c : Nat} : Keeps0 s (s.bumpPair c) := by
  unfold State.bumpPair
  exact Keeps0.trans (t := State.dropTransfers { s with units := { s.units with pair := { s.units.pair with
    epoch := nextEpoch s.units.pair.epoch, lastBeat := s.now, lastCause := c } } } true) ⟨id, rfl⟩ Keeps0.journal

/-- Claim and drive follow mode and role, whatever they were. -/
theorem State.refreshDrive_drive (s : State) : s.refreshDrive.DriveSafe := by
  intro h
  have hc : s.refreshDrive.get F.claim = if drives (s.get F.mode) (s.get F.role) && !s.wd.hbStopped then 1 else 0 := by
    simp only [State.refreshDrive, State.putFlag]
    rw [State.get_put_ne (by decide), State.get_put_self]
    split <;> simp_all [F.claim]
  have hd : s.refreshDrive.get F.driveEn =
      if drives (s.get F.mode) (s.get F.role) && !s.wd.hbStopped && s.pair.claimBeats == 0 then 1 else 0 := by
    simp only [State.refreshDrive, State.putFlag]
    rw [State.get_put_self]
    split <;> simp_all [F.driveEn]
  have hm : s.refreshDrive.get F.mode = s.get F.mode := by
    simp only [State.refreshDrive, State.putFlag]
    rw [State.get_put_ne (by decide), State.get_put_ne (by decide)]
  have hr : s.refreshDrive.get F.role = s.get F.role := by
    simp only [State.refreshDrive, State.putFlag]
    rw [State.get_put_ne (by decide), State.get_put_ne (by decide)]
  rw [hm, hr]
  cases hdr : drives (s.get F.mode) (s.get F.role)
  · rw [hc, hd, hdr] at h
    simp at h
  · rfl

theorem Keeps0.refreshDrive {s t : State} (h : Keeps0 s t) : Keeps s t.refreshDrive := by
  refine ⟨fun i => ?_, h.queue⟩
  have k : t.Inv0 := h.inv ⟨i.1, i.2.2⟩
  have q : Keeps0 t t.refreshDrive := by
    unfold State.refreshDrive State.putFlag
    exact Keeps0.put.trans Keeps0.put
  exact ⟨(q.inv k).1, t.refreshDrive_drive, (q.inv k).2⟩

end Sys2Proof.Machine
end

