-- ==== Sys2Proof/Laws/KeepsA.lean ====
section
/-! SUPPORT. What each function of Ops, Operands, Packets, Num, Runtime, Loops, Values, Sessions, Events, Journal, Can, Modes keeps: the invariant of the block and the queue. -/

set_option maxRecDepth 4000
namespace Sys2Proof.Machine

open Sys2Proof

/-! Ops. -/

theorem State.fresh_keeps {a0 : _} {a1 : _} : Keeps a0 (@State.fresh a0 a1).2 := by
  unfold State.fresh
  dsimp only
  refine Keeps.mkUpd ?_ (by with_reducible rfl) (by with_reducible rfl) (by with_reducible rfl) (by with_reducible rfl)
  exact Keeps.refl _

theorem State.raise_keeps {a0 : _} {a1 : _} {a2 : _} {a3 : _} {a4 : _} : Keeps a0 (@State.raise a0 a1 a2 a3 a4) := by
  unfold State.raise
  dsimp only
  refine Keeps.mkUpd ?_ (by with_reducible rfl) (by with_reducible rfl) (by with_reducible rfl) (by with_reducible rfl)
  refine Keeps.trans ?_ (Keeps.inc (by decide))
  exact Keeps.refl _

theorem State.raiseWsl_keeps {a0 : _} {a1 : _} {a2 : _} {a3 : _} {a4 : _} {a5 : _} : Keeps a0 (@State.raiseWsl a0 a1 a2 a3 a4 a5) := by
  unfold State.raiseWsl
  dsimp only
  refine Keeps.mkUpd ?_ (by with_reducible rfl) (by with_reducible rfl) (by with_reducible rfl) (by with_reducible rfl)
  refine Keeps.trans ?_ (Keeps.inc (by decide))
  exact Keeps.refl _

theorem State.journal_keeps {a0 : _} {a1 : _} {a2 : _} {a3 : _} {a4 : _} {a5 : _} {a6 : _} : Keeps a0 (@State.journal a0 a1 a2 a3 a4 a5 a6) := by
  unfold State.journal
  dsimp only
  refine Keeps.ite ?_ ?_
  · refine Keeps.mkUpd ?_ (by with_reducible rfl) (by with_reducible rfl) (by with_reducible rfl) (by with_reducible rfl)
    exact Keeps.refl _
  · refine Keeps.trans ?_ State.raise_keeps
    refine Keeps.mkUpd ?_ (by with_reducible rfl) (by with_reducible rfl) (by with_reducible rfl) (by with_reducible rfl)
    exact Keeps.refl _

theorem State.journalRetry_keeps {a0 : _} : Keeps a0 (@State.journalRetry a0) := by
  unfold State.journalRetry
  refine Keeps.foldl ?_ (fun v0 v1 => ?_)
  · exact Keeps.refl _
  · refine Keeps.ite ?_ ?_
    · refine Keeps.trans ?_ State.journal_keeps
      exact Keeps.refl _
    · exact Keeps.refl _

theorem State.journalNew_keeps {a0 : _} {a1 : _} {a2 : _} {a3 : _} {a4 : _} {a5 : _} : Keeps a0 (@State.journalNew a0 a1 a2 a3 a4 a5) := by
  unfold State.journalNew
  split
  · rename_i v0 v1 v2
    refine Keeps.ite ?_ ?_
    · exact Keeps.refl _
    · refine Keeps.trans ?_ State.journal_keeps
      exact Keeps.refl _
  · rename_i v3 v4
    refine Keeps.ite ?_ ?_
    · exact Keeps.refl _
    · refine Keeps.trans ?_ State.journal_keeps
      exact Keeps.refl _

theorem State.dropTransfers_keeps {a0 : _} {a1 : _} : Keeps a0 (@State.dropTransfers a0 a1) := by
  unfold State.dropTransfers
  refine Keeps.mkUpd ?_ (by with_reducible rfl) (by with_reducible rfl) (by with_reducible rfl) (by with_reducible rfl)
  exact Keeps.refl _

theorem State.bumpOwn_keeps {a0 : _} {a1 : _} : Keeps a0 (@State.bumpOwn a0 a1) := by
  unfold State.bumpOwn
  dsimp only
  refine Keeps.trans ?_ State.journal_keeps
  refine Keeps.trans ?_ State.dropTransfers_keeps
  iterate 3 refine Keeps.trans ?_ (Keeps.put (by decide))
  exact Keeps.refl _

theorem State.bumpPair_keeps {a0 : _} {a1 : _} : Keeps a0 (@State.bumpPair a0 a1) := by
  unfold State.bumpPair
  dsimp only
  refine Keeps.trans ?_ State.journal_keeps
  refine Keeps.trans ?_ State.dropTransfers_keeps
  refine Keeps.mkUpd ?_ (by with_reducible rfl) (by with_reducible rfl) (by with_reducible rfl) (by with_reducible rfl)
  exact Keeps.refl _

theorem State.putUnit_keeps {a0 : _} {a1 : _} : Keeps a0 (@State.putUnit a0 a1) := by
  unfold State.putUnit
  refine Keeps.mkUpd ?_ (by with_reducible rfl) (by with_reducible rfl) (by with_reducible rfl) (by with_reducible rfl)
  exact Keeps.refl _

theorem State.bumpUnit_keeps {a0 : _} {a1 : _} {a2 : _} : Keeps a0 (@State.bumpUnit a0 a1 a2) := by
  unfold State.bumpUnit
  dsimp only
  refine Keeps.trans ?_ State.journal_keeps
  refine Keeps.trans ?_ State.putUnit_keeps
  exact Keeps.refl _

theorem State.latch_keeps {a0 : _} {a1 : _} : Keeps a0 (@State.latch a0 a1) := by
  unfold State.latch
  refine Keeps.mkUpd ?_ (by with_reducible rfl) (by with_reducible rfl) (by with_reducible rfl) (by with_reducible rfl)
  exact Keeps.refl _

theorem State.latchCounts_keeps {a0 : _} {a1 : _} : Keeps a0 (@State.latchCounts a0 a1) := by
  unfold State.latchCounts
  refine Keeps.trans ?_ State.latch_keeps
  exact Keeps.refl _

theorem State.raiseLatched_keeps {a0 : _} {a1 : _} {a2 : _} {a3 : _} {a4 : _} : Keeps a0 (@State.raiseLatched a0 a1 a2 a3 a4) := by
  unfold State.raiseLatched
  refine Keeps.trans ?_ State.raise_keeps
  refine Keeps.trans ?_ State.latch_keeps
  exact Keeps.refl _

theorem State.audit_keeps {a0 : _} {a1 : _} {a2 : _} {a3 : _} {a4 : _} {a5 : _} : Keeps a0 (@State.audit a0 a1 a2 a3 a4 a5) := by
  unfold State.audit
  dsimp only
  refine Keeps.ite ?_ ?_
  · refine Keeps.trans ?_ State.raise_keeps
    refine Keeps.trans ?_ (Keeps.inc (by decide))
    refine Keeps.trans ?_ (Keeps.put (by decide))
    refine Keeps.trans ?_ (Keeps.put (by decide))
    refine Keeps.mkUpd ?_ (by with_reducible rfl) (by with_reducible rfl) (by with_reducible rfl) (by with_reducible rfl)
    exact Keeps.refl _
  · refine Keeps.trans ?_ (Keeps.put (by decide))
    refine Keeps.trans ?_ (Keeps.put (by decide))
    refine Keeps.mkUpd ?_ (by with_reducible rfl) (by with_reducible rfl) (by with_reducible rfl) (by with_reducible rfl)
    exact Keeps.refl _

theorem State.auditBy_keeps {a0 : _} {a1 : _} {a2 : _} {a3 : _} {a4 : _} : Keeps a0 (@State.auditBy a0 a1 a2 a3 a4) := by
  unfold State.auditBy
  split
  · rename_i v0 v1 v2
    refine Keeps.trans ?_ State.audit_keeps
    exact Keeps.refl _
  · rename_i v3 v4
    refine Keeps.trans ?_ State.audit_keeps
    exact Keeps.refl _

theorem State.dropCycles_keeps {a0 : _} : Keeps a0 (@State.dropCycles a0) := by
  unfold State.dropCycles
  dsimp only
  refine Keeps.mkUpd ?_ (by with_reducible rfl) (by with_reducible rfl) (by with_reducible rfl) (by with_reducible rfl)
  refine Keeps.foldl ?_ (fun v0 v1 => ?_)
  · exact Keeps.refl _
  · refine Keeps.ite ?_ ?_
    · refine Keeps.ite ?_ ?_
      · refine Keeps.trans ?_ (Keeps.put (by decide))
        exact Keeps.refl _
      · exact Keeps.refl _
    · refine Keeps.trans ?_ (Keeps.put (by decide))
      refine Keeps.ite ?_ ?_
      · refine Keeps.trans ?_ (Keeps.put (by decide))
        exact Keeps.refl _
      · exact Keeps.refl _

theorem State.endDebug_keeps {a0 : _} {a1 : _} : Keeps a0 (@State.endDebug a0 a1) := by
  unfold State.endDebug
  refine Keeps.ite ?_ ?_
  · exact Keeps.refl _
  · dsimp only
    refine Keeps.trans ?_ State.raise_keeps
    refine Keeps.mkUpd ?_ (by with_reducible rfl) (by with_reducible rfl) (by with_reducible rfl) (by with_reducible rfl)
    iterate 4 refine Keeps.trans ?_ (Keeps.put (by decide))
    refine Keeps.trans ?_ State.auditBy_keeps
    refine Keeps.ite ?_ ?_
    · refine Keeps.trans ?_ State.dropCycles_keeps
      exact Keeps.refl _
    · exact Keeps.refl _

theorem State.putDio_keeps {a0 : _} {a1 : _} : Keeps a0 (@State.putDio a0 a1) := by
  unfold State.putDio
  refine Keeps.mkUpd ?_ (by with_reducible rfl) (by with_reducible rfl) (by with_reducible rfl) (by with_reducible rfl)
  exact Keeps.refl _

theorem State.putAo_keeps {a0 : _} {a1 : _} : Keeps a0 (@State.putAo a0 a1) := by
  unfold State.putAo
  refine Keeps.mkUpd ?_ (by with_reducible rfl) (by with_reducible rfl) (by with_reducible rfl) (by with_reducible rfl)
  exact Keeps.refl _

theorem State.fieldOff_keeps {a0 : _} : Keeps a0 (@State.fieldOff a0) := by
  unfold State.fieldOff
  dsimp only
  refine Keeps.foldl ?_ (fun v0 v1 => ?_)
  · refine Keeps.foldl ?_ (fun v2 v3 => ?_)
    · exact Keeps.refl _
    · refine Keeps.trans ?_ (Keeps.put (by decide))
      refine Keeps.trans ?_ (Keeps.put (by decide))
      refine Keeps.trans ?_ State.putDio_keeps
      exact Keeps.refl _
  · refine Keeps.trans ?_ (Keeps.put (by decide))
    refine Keeps.trans ?_ State.putAo_keeps
    exact Keeps.refl _

theorem State.refreshDrive_keeps {s : State} : Keeps s s.refreshDrive := (Keeps0.refl s).refreshDrive

theorem State.setMode_keeps {s : State} {a b c d e f : Nat} : Keeps s (s.setMode a b c d e f) := by
  unfold State.setMode
  dsimp only
  refine Keeps.ite (Keeps.refl s) ?_
  refine Keeps.trans (Keeps0.refreshDrive ?_) State.raise_keeps
  refine Keeps0.trans ?_ (Keeps0.ite (by exact ⟨id, rfl⟩) (Keeps0.refl _))
  refine Keeps0.trans ?_ (Keeps0.ite (by exact ⟨id, rfl⟩) (Keeps0.refl _))
  refine Keeps0.trans ?_ (Keeps0.ite Keeps0.bumpPair (Keeps0.refl _))
  refine Keeps0.trans (t := (((s.put F.mode a).put F.role b).put F.ready c).put F.safeCause d)
    (((Keeps0.put.trans Keeps0.put).trans Keeps0.put).trans Keeps0.put) ?_
  refine Keeps0.ite (Keeps0.refl _) ?_
  exact Keeps0.trans (Keeps0.trans Keeps0.put Keeps0.put) Keeps0.bumpOwn

theorem State.rejectNext_keeps {a0 : _} : Keeps a0 (@State.rejectNext a0) := by
  unfold State.rejectNext
  refine Keeps.ite ?_ ?_
  · refine Keeps.mkUpd ?_ (by with_reducible rfl) (by with_reducible rfl) (by with_reducible rfl) (by with_reducible rfl)
    exact Keeps.refl _
  · exact Keeps.refl _

theorem State.cause_keeps {a0 : _} {a1 : _} {a2 : _} : Keeps a0 (@State.cause a0 a1 a2) := by
  unfold State.cause
  refine Keeps.mkUpd ?_ (by with_reducible rfl) (by with_reducible rfl) (by with_reducible rfl) (by with_reducible rfl)
  exact Keeps.refl _

theorem State.thaw_keeps {a0 : _} : Keeps a0 (@State.thaw a0) := by
  unfold State.thaw
  dsimp only
  iterate 3 refine Keeps.trans ?_ (Keeps.put (by decide))
  refine Keeps.mkUpd ?_ (by with_reducible rfl) (by with_reducible rfl) (by with_reducible rfl) (by with_reducible rfl)
  exact Keeps.refl _

/-! Packets. -/

theorem State.send_keeps {a0 : _} {a1 : _} : Keeps a0 (@State.send a0 a1) := by
  unfold State.send
  refine Keeps.mkUpd ?_ (by with_reducible rfl) (by with_reducible rfl) (by with_reducible rfl) (by with_reducible rfl)
  exact Keeps.refl _

theorem State.onSession_keeps {a0 : _} {a1 : _} {a2 : _} : Keeps a0 (@State.onSession a0 a1 a2) := by
  unfold State.onSession
  refine Keeps.mkUpd ?_ (by with_reducible rfl) (by with_reducible rfl) (by with_reducible rfl) (by with_reducible rfl)
  exact Keeps.refl _

theorem State.answer_keeps {a0 : _} {a1 : _} : Keeps a0 (@State.answer a0 a1) := by
  unfold State.answer
  refine Keeps.trans ?_ State.send_keeps
  refine Keeps.trans ?_ State.onSession_keeps
  exact Keeps.refl _

theorem State.answerHeld_keeps {a0 : _} {a1 : _} : Keeps a0 (@State.answerHeld a0 a1) := by
  unfold State.answerHeld
  dsimp only
  refine Keeps.ite ?_ ?_
  · refine Keeps.trans ?_ State.send_keeps
    refine Keeps.trans ?_ State.onSession_keeps
    exact Keeps.refl _
  · refine Keeps.mkUpd ?_ (by with_reducible rfl) (by with_reducible rfl) (by with_reducible rfl) (by with_reducible rfl)
    refine Keeps.trans ?_ State.onSession_keeps
    exact Keeps.refl _

theorem State.releaseHeld_keeps {a0 : _} {a1 : _} : Keeps a0 (@State.releaseHeld a0 a1) := by
  unfold State.releaseHeld
  dsimp only
  refine Keeps.mkUpd ?_ (by with_reducible rfl) (by with_reducible rfl) (by with_reducible rfl) (by with_reducible rfl)
  exact Keeps.refl _

theorem State.heard_keeps {a0 : _} {a1 : _} : Keeps a0 (@State.heard a0 a1) := by
  unfold State.heard
  refine Keeps.trans ?_ State.onSession_keeps
  exact Keeps.refl _

theorem State.noteSeq_keeps {a0 : _} {a1 : _} : Keeps a0 (@State.noteSeq a0 a1) := by
  unfold State.noteSeq
  dsimp only
  refine Keeps.mkUpd ?_ (by with_reducible rfl) (by with_reducible rfl) (by with_reducible rfl) (by with_reducible rfl)
  refine Keeps.trans ?_ State.onSession_keeps
  exact Keeps.refl _

theorem State.countSessions_keeps {a0 : _} : Keeps a0 (@State.countSessions a0) := by
  unfold State.countSessions
  refine Keeps.trans ?_ (Keeps.put (by decide))
  refine Keeps.trans ?_ (Keeps.put (by decide))
  exact Keeps.refl _

theorem State.releaseSession_keeps {a0 : _} {a1 : _} {a2 : _} : Keeps a0 (@State.releaseSession a0 a1 a2) := by
  unfold State.releaseSession
  dsimp only
  refine Keeps.trans ?_ State.raise_keeps
  refine Keeps.trans ?_ State.countSessions_keeps
  refine Keeps.ite ?_ ?_
  · refine Keeps.trans ?_ State.thaw_keeps
    refine Keeps.trans ?_ (Keeps.put (by decide))
    refine Keeps.mkUpd ?_ (by with_reducible rfl) (by with_reducible rfl) (by with_reducible rfl) (by with_reducible rfl)
    refine Keeps.ite ?_ ?_
    · refine Keeps.trans ?_ State.endDebug_keeps
      exact Keeps.refl _
    · exact Keeps.refl _
  · refine Keeps.trans ?_ (Keeps.put (by decide))
    refine Keeps.mkUpd ?_ (by with_reducible rfl) (by with_reducible rfl) (by with_reducible rfl) (by with_reducible rfl)
    refine Keeps.ite ?_ ?_
    · refine Keeps.trans ?_ State.endDebug_keeps
      exact Keeps.refl _
    · exact Keeps.refl _

theorem State.holdSession_keeps {a0 : _} {a1 : _} {a2 : _} : Keeps a0 (@State.holdSession a0 a1 a2) := by
  unfold State.holdSession
  refine Keeps.trans ?_ State.countSessions_keeps
  refine Keeps.trans ?_ State.onSession_keeps
  exact Keeps.refl _

theorem State.closeConn_keeps {a0 : _} {a1 : _} : Keeps a0 (@State.closeConn a0 a1) := by
  unfold State.closeConn
  refine Keeps.ite ?_ ?_
  · refine Keeps.trans ?_ State.holdSession_keeps
    exact Keeps.refl _
  · exact Keeps.refl _

theorem turnedAway_keeps {a0 : _} {a1 : _} {a2 : _} {a3 : _} : Keeps a3 (@turnedAway a0 a1 a2 a3) := by
  unfold turnedAway
  split
  · rename_i v0
    exact Keeps.refl _
  · rename_i v1
    refine Keeps.trans ?_ State.closeConn_keeps
    exact Keeps.refl _
  · rename_i v2 v3 v4 v5
    dsimp only
    refine Keeps.ite ?_ ?_
    · refine Keeps.trans ?_ State.closeConn_keeps
      refine Keeps.trans ?_ State.send_keeps
      refine Keeps.trans ?_ State.heard_keeps
      exact Keeps.refl _
    · refine Keeps.trans ?_ State.send_keeps
      refine Keeps.trans ?_ State.heard_keeps
      exact Keeps.refl _
  · rename_i v6 v7
    refine Keeps.trans ?_ State.send_keeps
    refine Keeps.trans ?_ (Keeps.inc (by decide))
    refine Keeps.trans ?_ State.heard_keeps
    exact Keeps.refl _
  · rename_i v8 v9 v10 v11
    refine Keeps.trans ?_ State.answer_keeps
    refine Keeps.trans ?_ State.noteSeq_keeps
    exact Keeps.refl _
  · rename_i v12 v13
    dsimp only
    refine Keeps.ite ?_ ?_
    · refine Keeps.trans ?_ State.answer_keeps
      refine Keeps.trans ?_ State.noteSeq_keeps
      exact Keeps.refl _
    · refine Keeps.mkUpd ?_ (by with_reducible rfl) (by with_reducible rfl) (by with_reducible rfl) (by with_reducible rfl)
      refine Keeps.trans ?_ State.noteSeq_keeps
      exact Keeps.refl _
  · rename_i v14 v15
    exact Keeps.refl _

theorem served_keeps {a0 : _} {a1 : _} {a2 : _} {a3 : _} {a4 : _} (h3 : ∀ y0 y1, Keeps y1 (a3 y0 y1).st) : Keeps a4 (@served a0 a1 a2 a3 a4) := by
  unfold served
  split
  · rename_i v0 v1 v2
    dsimp only
    split
    · rename_i v3 v4 v5 v6
      refine Keeps.trans ?_ State.answer_keeps
      refine Keeps.trans ?_ State.noteSeq_keeps
      exact Keeps.refl _
    · rename_i v7 v8
      refine Keeps.trans ?_ State.answer_keeps
      refine Keeps.trans ?_ (h3 ..)
      refine Keeps.trans ?_ State.noteSeq_keeps
      exact Keeps.refl _
  · rename_i v9 v10
    refine Keeps.trans ?_ turnedAway_keeps
    exact Keeps.refl _

theorem servedTracked_keeps {a0 : _} {a1 : _} {a2 : _} {a3 : _} {a4 : _} (h3 : ∀ y0 y1, Keeps y1 (a3 y0 y1).st) : Keeps a4 (@servedTracked a0 a1 a2 a3 a4) := by
  unfold servedTracked
  split
  · rename_i v0 v1 v2
    dsimp only
    split
    · rename_i v3 v4 v5 v6
      refine Keeps.trans ?_ State.answer_keeps
      refine Keeps.trans ?_ State.noteSeq_keeps
      exact Keeps.refl _
    · rename_i v7 v8
      refine Keeps.trans ?_ State.answerHeld_keeps
      refine Keeps.trans ?_ (h3 ..)
      refine Keeps.trans ?_ State.noteSeq_keeps
      exact Keeps.refl _
  · rename_i v9 v10
    refine Keeps.trans ?_ turnedAway_keeps
    exact Keeps.refl _

theorem State.enqueue_keeps {a0 : _} {a1 : _} : Keeps a0 (@State.enqueue a0 a1) := by
  unfold State.enqueue
  refine Keeps.mkUpd ?_ (by with_reducible rfl) (by with_reducible rfl) (by with_reducible rfl) (by with_reducible rfl)
  exact Keeps.refl _

theorem queued_keeps {a0 : _} {a1 : _} {a2 : _} {a3 : _} {a4 : _} : Keeps a4 (@queued a0 a1 a2 a3 a4) := by
  unfold queued
  split
  · rename_i v0 v1 v2
    dsimp only
    split
    · rename_i v3 v4 v5 v6
      refine Keeps.trans ?_ State.answer_keeps
      refine Keeps.trans ?_ State.noteSeq_keeps
      exact Keeps.refl _
    · rename_i v7 v8
      refine Keeps.ite ?_ ?_
      · refine Keeps.trans ?_ State.enqueue_keeps
        refine Keeps.trans ?_ State.noteSeq_keeps
        exact Keeps.refl _
      · refine Keeps.trans ?_ State.answerHeld_keeps
        refine Keeps.trans ?_ State.enqueue_keeps
        refine Keeps.trans ?_ State.noteSeq_keeps
        exact Keeps.refl _
  · rename_i v9 v10
    refine Keeps.trans ?_ turnedAway_keeps
    exact Keeps.refl _

theorem State.lateEpoch_keeps {a0 : _} {a1 : _} {a2 : _} : Keeps a0 (@State.lateEpoch a0 a1 a2) := by
  unfold State.lateEpoch
  dsimp only
  refine Keeps.trans ?_ State.answerHeld_keeps
  exact Keeps.refl _

theorem State.afterFreeze_keeps {a0 : _} {a1 : _} {a2 : _} {a3 : _} : Keeps a0 (@State.afterFreeze a0 a1 a2 a3) := by
  unfold State.afterFreeze
  dsimp only
  refine Keeps.ite ?_ ?_
  · refine Keeps.trans ?_ State.answerHeld_keeps
    refine Keeps.ite ?_ ?_
    · refine Keeps.trans ?_ (Keeps.inc (by decide))
      exact Keeps.refl _
    · exact Keeps.refl _
  · refine Keeps.ite ?_ ?_
    · refine Keeps.ite ?_ ?_
      · refine Keeps.trans ?_ (Keeps.inc (by decide))
        exact Keeps.refl _
      · exact Keeps.refl _
    · refine Keeps.trans ?_ State.answerHeld_keeps
      refine Keeps.ite ?_ ?_
      · refine Keeps.trans ?_ (Keeps.inc (by decide))
        exact Keeps.refl _
      · exact Keeps.refl _

/-! Runtime. -/

theorem State.putRt_keeps {a0 : _} {a1 : _} {a2 : _} : Keeps a0 (@State.putRt a0 a1 a2) := by
  unfold State.putRt
  split
  · rename_i v0
    refine Keeps.mkUpd ?_ (by with_reducible rfl) (by with_reducible rfl) (by with_reducible rfl) (by with_reducible rfl)
    exact Keeps.refl _
  · rename_i v1
    refine Keeps.mkUpd ?_ (by with_reducible rfl) (by with_reducible rfl) (by with_reducible rfl) (by with_reducible rfl)
    exact Keeps.refl _
  · rename_i v2 v3 v4
    refine Keeps.mkUpd ?_ (by with_reducible rfl) (by with_reducible rfl) (by with_reducible rfl) (by with_reducible rfl)
    exact Keeps.refl _

theorem isClusterKey_quiet {k : Nat} (h : isClusterKey k = true) : k ∉ statusKeys := by
  intro hk
  have : statusKeys.all (fun k => !isClusterKey k) = true := by decide +kernel
  have := List.all_eq_true.1 this k hk
  simp [h] at this

theorem State.swapCluster_keeps {s : State} {c : Nat} : Keeps s (s.swapCluster c) := by
  have h : ∀ l : List (Nat × Nat), Keeps s { s with
      regs := l.foldl takeClusterReg (s.regs.filter (fun r => !isClusterKey r.1)) } := by
    intro l
    refine Keeps.regSteps (t := { s with regs := s.regs.filter (fun r => !isClusterKey r.1) }) ?_ (fun r a => ?_)
    · refine Keeps.regDrop (Keeps.refl s) (fun k hk => ?_)
      cases e : isClusterKey k
      · rfl
      · exact absurd hk (isClusterKey_quiet e)
    · unfold takeClusterReg
      split
      · split
        · rename_i e
          exact .inr ⟨_, _, isClusterKey_quiet e, rfl⟩
        · exact .inl rfl
      · exact .inl rfl
  refine Keeps.upd (h (if c = 1 then s.triad.y else s.triad.z).regs) ?_ ?_ ?_ ?_ ?_
  · unfold State.swapCluster; rfl
  · unfold State.swapCluster State.putRt
    by_cases hc : c = 1
    · simp [State.mems, hc]
    · simp only [State.mems, hc, if_false]; split <;> rfl
  · unfold State.swapCluster; rfl
  · unfold State.swapCluster State.putRt; dsimp only; split <;> rfl
  · unfold State.swapCluster State.putRt; dsimp only; split <;> rfl

theorem State.onCluster_keeps {a0 : _} {a1 : _} {a2 : _} (h2 : ∀ y0, Keeps y0 (a2 y0)) : Keeps a0 (@State.onCluster a0 a1 a2) := by
  unfold State.onCluster
  refine Keeps.ite ?_ ?_
  · refine Keeps.trans ?_ (h2 ..)
    exact Keeps.refl _
  · refine Keeps.ite ?_ ?_
    · refine Keeps.trans ?_ State.swapCluster_keeps
      refine Keeps.trans ?_ (h2 ..)
      refine Keeps.trans ?_ State.swapCluster_keeps
      exact Keeps.refl _
    · exact Keeps.refl _

theorem State.onClusters_keeps {a0 : _} {a1 : _} (h1 : ∀ y0, Keeps y0 (a1 y0)) : Keeps a0 (@State.onClusters a0 a1) := by
  unfold State.onClusters
  refine Keeps.trans ?_ (State.onCluster_keeps ?_)
  · refine Keeps.trans ?_ (State.onCluster_keeps ?_)
    · refine Keeps.trans ?_ (h1 ..)
      exact Keeps.refl _
    · intro v0
      refine Keeps.trans ?_ (h1 ..)
      exact Keeps.refl _
  · intro v1
    refine Keeps.trans ?_ (h1 ..)
    exact Keeps.refl _

theorem State.showRuntime_keeps {a0 : _} : Keeps a0 (@State.showRuntime a0) := by
  unfold State.showRuntime
  dsimp only
  refine Keeps.trans ?_ (Keeps.put (by decide))
  iterate 3 refine Keeps.trans ?_ (Keeps.putFlag (by decide))
  refine Keeps.trans ?_ (Keeps.put (by decide))
  refine Keeps.trans ?_ (Keeps.putFlag (by decide))
  refine Keeps.trans ?_ (Keeps.putFlag (by decide))
  exact Keeps.refl _

theorem State.startNext_keeps {a0 : _} {a1 : _} : Keeps a0 (@State.startNext a0 a1) := by
  unfold State.startNext
  split
  · rename_i v0 v1
    exact Keeps.refl _
  · rename_i v2 v3 v4 v5
    dsimp only
    refine Keeps.ite ?_ ?_
    · refine Keeps.trans ?_ (Keeps.put (by decide))
      exact Keeps.refl _
    · refine Keeps.mkUpd ?_ (by with_reducible rfl) (by with_reducible rfl) (by with_reducible rfl) (by with_reducible rfl)
      refine Keeps.trans ?_ (Keeps.put (by decide))
      exact Keeps.refl _

theorem State.putExec_keeps {a0 : _} {a1 : _} {a2 : _} : Keeps a0 (@State.putExec a0 a1 a2) := by
  unfold State.putExec
  refine Keeps.trans ?_ (Keeps.put (by decide))
  refine Keeps.mkUpd ?_ (by with_reducible rfl) (by with_reducible rfl) (by with_reducible rfl) (by with_reducible rfl)
  exact Keeps.refl _

theorem State.newCycle_keeps {a0 : _} {a1 : _} : Keeps a0 (@State.newCycle a0 a1) := by
  unfold State.newCycle
  split
  · rename_i v0 v1
    exact Keeps.refl _
  · rename_i v2 v3 v4
    refine Keeps.foldl ?_ (fun v5 v6 => ?_)
    · exact Keeps.refl _
    · dsimp only
      refine Keeps.ite ?_ ?_
      · refine Keeps.trans ?_ (Keeps.put (by decide))
        refine Keeps.trans ?_ State.putExec_keeps
        exact Keeps.refl _
      · refine Keeps.trans ?_ State.putExec_keeps
        exact Keeps.refl _

theorem State.releaseClass_keeps {a0 : _} {a1 : _} : Keeps a0 (@State.releaseClass a0 a1) := by
  unfold State.releaseClass
  dsimp only
  refine Keeps.trans ?_ State.startNext_keeps
  refine Keeps.mkUpd ?_ (by with_reducible rfl) (by with_reducible rfl) (by with_reducible rfl) (by with_reducible rfl)
  refine Keeps.foldl ?_ (fun v0 v1 => ?_)
  · refine Keeps.trans ?_ State.newCycle_keeps
    exact Keeps.refl _
  · refine Keeps.trans ?_ (Keeps.put (by decide))
    refine Keeps.trans ?_ (Keeps.put (by decide))
    exact Keeps.refl _

theorem State.releaseAll_keeps {a0 : _} : Keeps a0 (@State.releaseAll a0) := by
  unfold State.releaseAll
  dsimp only
  refine Keeps.ite ?_ ?_
  · refine Keeps.mkUpd ?_ (by with_reducible rfl) (by with_reducible rfl) (by with_reducible rfl) (by with_reducible rfl)
    refine Keeps.foldl ?_ (fun v0 v1 => ?_)
    · refine Keeps.mkUpd ?_ (by with_reducible rfl) (by with_reducible rfl) (by with_reducible rfl) (by with_reducible rfl)
      exact Keeps.refl _
    · refine Keeps.trans ?_ State.releaseClass_keeps
      exact Keeps.refl _
  · refine Keeps.foldl ?_ (fun v2 v3 => ?_)
    · refine Keeps.mkUpd ?_ (by with_reducible rfl) (by with_reducible rfl) (by with_reducible rfl) (by with_reducible rfl)
      exact Keeps.refl _
    · refine Keeps.trans ?_ State.releaseClass_keeps
      exact Keeps.refl _

theorem State.mailWrites_keeps {a0 : _} {a1 : _} : Keeps a0 (@State.mailWrites a0 a1) := by
  unfold State.mailWrites
  refine Keeps.ite ?_ ?_
  · exact Keeps.refl _
  · dsimp only
    refine Keeps.mkUpd ?_ (by with_reducible rfl) (by with_reducible rfl) (by with_reducible rfl) (by with_reducible rfl)
    exact Keeps.refl _

theorem State.publish_keeps {a0 : _} {a1 : _} : Keeps a0 (@State.publish a0 a1) := by
  unfold State.publish
  dsimp only
  refine Keeps.mkUpd ?_ (by with_reducible rfl) (by with_reducible rfl) (by with_reducible rfl) (by with_reducible rfl)
  exact Keeps.refl _

theorem State.holdPublish_keeps {a0 : _} : Keeps a0 (@State.holdPublish a0) := by
  unfold State.holdPublish
  dsimp only
  refine Keeps.mkUpd ?_ (by with_reducible rfl) (by with_reducible rfl) (by with_reducible rfl) (by with_reducible rfl)
  refine Keeps.foldl ?_ (fun v0 v1 => ?_)
  · exact Keeps.refl _
  · refine Keeps.trans ?_ State.publish_keeps
    exact Keeps.refl _

theorem State.endTask_keeps {a0 : _} {a1 : _} {a2 : _} {a3 : _} : Keeps a0 (@State.endTask a0 a1 a2 a3) := by
  unfold State.endTask
  split
  · rename_i v0 v1
    exact Keeps.refl _
  · rename_i v2 v3 v4
    split
    · rename_i v5 v6
      exact Keeps.refl _
    · rename_i v7 v8 v9 v10
      refine Keeps.ite ?_ ?_
      · exact Keeps.refl _
      · dsimp only
        refine Keeps.trans ?_ State.showRuntime_keeps
        refine Keeps.trans ?_ State.mailWrites_keeps
        refine Keeps.ite ?_ ?_
        · refine Keeps.trans ?_ State.holdPublish_keeps
          refine Keeps.ite ?_ ?_
          · refine Keeps.ite ?_ ?_
            · refine Keeps.trans ?_ (Keeps.inc (by decide))
              refine Keeps.trans ?_ State.putExec_keeps
              refine Keeps.trans ?_ (Keeps.put (by decide))
              refine Keeps.mkUpd ?_ (by with_reducible rfl) (by with_reducible rfl) (by with_reducible rfl) (by with_reducible rfl)
              exact Keeps.refl _
            · refine Keeps.trans ?_ State.putExec_keeps
              refine Keeps.trans ?_ (Keeps.put (by decide))
              refine Keeps.mkUpd ?_ (by with_reducible rfl) (by with_reducible rfl) (by with_reducible rfl) (by with_reducible rfl)
              exact Keeps.refl _
          · refine Keeps.trans ?_ (Keeps.put (by decide))
            refine Keeps.ite ?_ ?_
            · refine Keeps.trans ?_ (Keeps.inc (by decide))
              refine Keeps.trans ?_ State.putExec_keeps
              refine Keeps.trans ?_ (Keeps.put (by decide))
              refine Keeps.mkUpd ?_ (by with_reducible rfl) (by with_reducible rfl) (by with_reducible rfl) (by with_reducible rfl)
              exact Keeps.refl _
            · refine Keeps.trans ?_ State.putExec_keeps
              refine Keeps.trans ?_ (Keeps.put (by decide))
              refine Keeps.mkUpd ?_ (by with_reducible rfl) (by with_reducible rfl) (by with_reducible rfl) (by with_reducible rfl)
              exact Keeps.refl _
        · refine Keeps.trans ?_ State.startNext_keeps
          refine Keeps.ite ?_ ?_
          · refine Keeps.ite ?_ ?_
            · refine Keeps.trans ?_ (Keeps.inc (by decide))
              refine Keeps.trans ?_ State.putExec_keeps
              refine Keeps.trans ?_ (Keeps.put (by decide))
              refine Keeps.mkUpd ?_ (by with_reducible rfl) (by with_reducible rfl) (by with_reducible rfl) (by with_reducible rfl)
              exact Keeps.refl _
            · refine Keeps.trans ?_ State.putExec_keeps
              refine Keeps.trans ?_ (Keeps.put (by decide))
              refine Keeps.mkUpd ?_ (by with_reducible rfl) (by with_reducible rfl) (by with_reducible rfl) (by with_reducible rfl)
              exact Keeps.refl _
          · refine Keeps.trans ?_ (Keeps.put (by decide))
            refine Keeps.ite ?_ ?_
            · refine Keeps.trans ?_ (Keeps.inc (by decide))
              refine Keeps.trans ?_ State.putExec_keeps
              refine Keeps.trans ?_ (Keeps.put (by decide))
              refine Keeps.mkUpd ?_ (by with_reducible rfl) (by with_reducible rfl) (by with_reducible rfl) (by with_reducible rfl)
              exact Keeps.refl _
            · refine Keeps.trans ?_ State.putExec_keeps
              refine Keeps.trans ?_ (Keeps.put (by decide))
              refine Keeps.mkUpd ?_ (by with_reducible rfl) (by with_reducible rfl) (by with_reducible rfl) (by with_reducible rfl)
              exact Keeps.refl _

theorem State.coldCluster_keeps {a0 : _} : Keeps a0 (@State.coldCluster a0) := by
  unfold State.coldCluster
  dsimp only
  refine Keeps.mkUpd ?_ (by with_reducible rfl) (by with_reducible rfl) (by with_reducible rfl) (by with_reducible rfl)
  refine Keeps.trans ?_ State.dropCycles_keeps
  exact Keeps.refl _

theorem State.splitFault_keeps {a0 : _} {a1 : _} {a2 : _} : Keeps a0 (@State.splitFault a0 a1 a2) := by
  unfold State.splitFault
  refine Keeps.trans ?_ State.coldCluster_keeps
  refine Keeps.trans ?_ State.raise_keeps
  exact Keeps.refl _

theorem State.overrunStops_keeps {a0 : _} {a1 : _} {a2 : _} : Keeps a0 (@State.overrunStops a0 a1 a2) := by
  unfold State.overrunStops
  refine Keeps.ite ?_ ?_
  · refine Keeps.trans ?_ State.splitFault_keeps
    exact Keeps.refl _
  · dsimp only
    refine Keeps.ite ?_ ?_
    · refine Keeps.mkUpd ?_ (by with_reducible rfl) (by with_reducible rfl) (by with_reducible rfl) (by with_reducible rfl)
      refine Keeps.foldl ?_ (fun v0 v1 => ?_)
      · exact Keeps.refl _
      · refine Keeps.trans ?_ State.raise_keeps
        exact Keeps.refl _
    · refine Keeps.ite ?_ ?_
      · refine Keeps.mkUpd ?_ (by with_reducible rfl) (by with_reducible rfl) (by with_reducible rfl) (by with_reducible rfl)
        refine Keeps.foldl ?_ (fun v2 v3 => ?_)
        · exact Keeps.refl _
        · refine Keeps.trans ?_ State.raise_keeps
          exact Keeps.refl _
      · refine Keeps.trans ?_ State.cause_keeps
        refine Keeps.mkUpd ?_ (by with_reducible rfl) (by with_reducible rfl) (by with_reducible rfl) (by with_reducible rfl)
        refine Keeps.foldl ?_ (fun v4 v5 => ?_)
        · exact Keeps.refl _
        · refine Keeps.trans ?_ State.raise_keeps
          exact Keeps.refl _

theorem State.spill_keeps {a0 : _} {a1 : _} {a2 : _} : Keeps a0 (@State.spill a0 a1 a2) := by
  unfold State.spill
  dsimp only
  refine Keeps.trans ?_ (Keeps.put (by decide))
  refine Keeps.mkUpd ?_ (by with_reducible rfl) (by with_reducible rfl) (by with_reducible rfl) (by with_reducible rfl)
  exact Keeps.refl _

theorem State.skipTask_keeps {a0 : _} {a1 : _} {a2 : _} : Keeps a0 (@State.skipTask a0 a1 a2) := by
  unfold State.skipTask
  refine Keeps.trans ?_ State.raise_keeps
  refine Keeps.trans ?_ State.spill_keeps
  refine Keeps.trans ?_ (Keeps.inc (by decide))
  refine Keeps.trans ?_ (Keeps.inc (by decide))
  exact Keeps.refl _

theorem State.overrun_keeps {a0 : _} {a1 : _} : Keeps a0 (@State.overrun a0 a1) := by
  unfold State.overrun
  dsimp only
  refine Keeps.ite ?_ ?_
  · refine Keeps.trans ?_ State.overrunStops_keeps
    exact Keeps.refl _
  · refine Keeps.ite ?_ ?_
    · refine Keeps.trans ?_ State.showRuntime_keeps
      refine Keeps.trans ?_ State.overrunStops_keeps
      refine Keeps.foldl ?_ (fun v0 v1 => ?_)
      · exact Keeps.refl _
      · refine Keeps.trans ?_ State.skipTask_keeps
        exact Keeps.refl _
    · refine Keeps.trans ?_ State.showRuntime_keeps
      refine Keeps.mkUpd ?_ (by with_reducible rfl) (by with_reducible rfl) (by with_reducible rfl) (by with_reducible rfl)
      refine Keeps.foldl ?_ (fun v2 v3 => ?_)
      · exact Keeps.refl _
      · refine Keeps.trans ?_ State.skipTask_keeps
        exact Keeps.refl _

theorem State.spillAll_keeps {a0 : _} {a1 : _} : Keeps a0 (@State.spillAll a0 a1) := by
  unfold State.spillAll
  dsimp only
  refine Keeps.trans ?_ State.showRuntime_keeps
  refine Keeps.mkUpd ?_ (by with_reducible rfl) (by with_reducible rfl) (by with_reducible rfl) (by with_reducible rfl)
  refine Keeps.foldl ?_ (fun v0 v1 => ?_)
  · exact Keeps.refl _
  · refine Keeps.trans ?_ State.spill_keeps
    exact Keeps.refl _

theorem State.putByWork_keeps {a0 : _} {a1 : _} : Keeps a0 (@State.putByWork a0 a1) := by
  unfold State.putByWork
  dsimp only
  refine Keeps.mkUpd ?_ (by with_reducible rfl) (by with_reducible rfl) (by with_reducible rfl) (by with_reducible rfl)
  exact Keeps.refl _

theorem State.commitRuntime_keeps {a0 : _} : Keeps a0 (@State.commitRuntime a0) := by
  unfold State.commitRuntime
  dsimp only
  refine Keeps.trans ?_ State.showRuntime_keeps
  refine Keeps.mkUpd ?_ (by with_reducible rfl) (by with_reducible rfl) (by with_reducible rfl) (by with_reducible rfl)
  refine Keeps.foldl ?_ (fun v0 v1 => ?_)
  · refine Keeps.mkUpd ?_ (by with_reducible rfl) (by with_reducible rfl) (by with_reducible rfl) (by with_reducible rfl)
    exact Keeps.refl _
  · refine Keeps.trans ?_ State.publish_keeps
    exact Keeps.refl _

theorem State.takeSnapshot_keeps {a0 : _} {a1 : _} : Keeps a0 (@State.takeSnapshot a0 a1) := by
  unfold State.takeSnapshot
  dsimp only
  split
  · rename_i v0 v1 v2
    refine Keeps.trans ?_ State.raise_keeps
    refine Keeps.trans ?_ (Keeps.inc (by decide))
    refine Keeps.mkUpd ?_ (by with_reducible rfl) (by with_reducible rfl) (by with_reducible rfl) (by with_reducible rfl)
    refine Keeps.trans ?_ (Keeps.peak (by decide))
    exact Keeps.refl _
  · rename_i v3 v4
    refine Keeps.mkUpd ?_ (by with_reducible rfl) (by with_reducible rfl) (by with_reducible rfl) (by with_reducible rfl)
    refine Keeps.trans ?_ (Keeps.peak (by decide))
    exact Keeps.refl _

theorem State.retainSnapshot_keeps {a0 : _} : Keeps a0 (@State.retainSnapshot a0) := by
  unfold State.retainSnapshot
  refine Keeps.ite ?_ ?_
  · exact Keeps.refl _
  · refine Keeps.trans ?_ State.takeSnapshot_keeps
    exact Keeps.refl _

theorem State.storeMirror_keeps {a0 : _} {a1 : _} : Keeps a0 (@State.storeMirror a0 a1) := by
  unfold State.storeMirror
  refine Keeps.ite ?_ ?_
  · refine Keeps.trans ?_ (Keeps.put (by decide))
    refine Keeps.mkUpd ?_ (by with_reducible rfl) (by with_reducible rfl) (by with_reducible rfl) (by with_reducible rfl)
    exact Keeps.refl _
  · refine Keeps.trans ?_ (Keeps.put (by decide))
    refine Keeps.mkUpd ?_ (by with_reducible rfl) (by with_reducible rfl) (by with_reducible rfl) (by with_reducible rfl)
    exact Keeps.refl _

theorem State.showLoops_keeps {a0 : _} : Keeps a0 (@State.showLoops a0) := by
  unfold State.showLoops
  dsimp only
  iterate 4 refine Keeps.trans ?_ (Keeps.put (by decide))
  exact Keeps.refl _

theorem State.showGroup_keeps {a0 : _} {a1 : _} : Keeps a0 (@State.showGroup a0 a1) := by
  unfold State.showGroup
  dsimp only
  refine Keeps.trans ?_ (Keeps.put (by decide))
  refine Keeps.trans ?_ (Keeps.putFlag (by decide))
  exact Keeps.refl _

theorem State.initGroup_keeps {a0 : _} {a1 : _} : Keeps a0 (@State.initGroup a0 a1) := by
  unfold State.initGroup
  iterate 5 refine Keeps.trans ?_ (Keeps.put (by decide))
  refine Keeps.trans ?_ State.showGroup_keeps
  exact Keeps.refl _

theorem State.clearForces_keeps {a0 : _} {a1 : _} : Keeps a0 (@State.clearForces a0 a1) := by
  unfold State.clearForces
  refine Keeps.foldl ?_ (fun v0 v1 => ?_)
  · exact Keeps.refl _
  · refine Keeps.ite ?_ ?_
    · refine Keeps.trans ?_ State.journal_keeps
      refine Keeps.mkUpd ?_ (by with_reducible rfl) (by with_reducible rfl) (by with_reducible rfl) (by with_reducible rfl)
      exact Keeps.refl _
    · exact Keeps.refl _

theorem State.clearAllForces_keeps {a0 : _} : Keeps a0 (@State.clearAllForces a0) := by
  unfold State.clearAllForces
  refine Keeps.trans ?_ State.clearForces_keeps
  exact Keeps.refl _

theorem State.coldRestart_keeps {a0 : _} : Keeps a0 (@State.coldRestart a0) := by
  unfold State.coldRestart
  dsimp only
  refine Keeps.trans ?_ State.showRuntime_keeps
  refine Keeps.trans ?_ (Keeps.put (by decide))
  refine Keeps.trans ?_ (Keeps.put (by decide))
  refine Keeps.foldl ?_ (fun v0 v1 => ?_)
  · refine Keeps.mkUpd ?_ (by with_reducible rfl) (by with_reducible rfl) (by with_reducible rfl) (by with_reducible rfl)
    refine Keeps.trans ?_ State.clearAllForces_keeps
    refine Keeps.trans ?_ State.dropCycles_keeps
    exact Keeps.refl _
  · refine Keeps.trans ?_ State.initGroup_keeps
    exact Keeps.refl _

theorem State.warmRestart_keeps {a0 : _} : Keeps a0 (@State.warmRestart a0) := by
  unfold State.warmRestart
  split
  · rename_i v0 v1 v2 v3
    refine Keeps.ite ?_ ?_
    · refine Keeps.trans ?_ State.coldRestart_keeps
      refine Keeps.trans ?_ State.raise_keeps
      exact Keeps.refl _
    · dsimp only
      refine Keeps.trans ?_ State.showRuntime_keeps
      refine Keeps.trans ?_ (Keeps.put (by decide))
      refine Keeps.mkUpd ?_ (by with_reducible rfl) (by with_reducible rfl) (by with_reducible rfl) (by with_reducible rfl)
      refine Keeps.trans ?_ State.dropCycles_keeps
      refine Keeps.ite ?_ ?_
      · refine Keeps.trans ?_ State.raise_keeps
        exact Keeps.refl _
      · exact Keeps.refl _

theorem State.restartProgram_keeps {a0 : _} {a1 : _} : Keeps a0 (@State.restartProgram a0 a1) := by
  unfold State.restartProgram
  refine Keeps.ite ?_ ?_
  · refine Keeps.trans ?_ State.coldRestart_keeps
    exact Keeps.refl _
  · refine Keeps.trans ?_ State.warmRestart_keeps
    exact Keeps.refl _

theorem State.purgeCoeffs_keeps {a0 : _} {a1 : _} : Keeps a0 (@State.purgeCoeffs a0 a1) := by
  unfold State.purgeCoeffs
  dsimp only
  refine Keeps.foldl ?_ (fun v0 v1 => ?_)
  · refine Keeps.mkUpd ?_ (by with_reducible rfl) (by with_reducible rfl) (by with_reducible rfl) (by with_reducible rfl)
    exact Keeps.refl _
  · refine Keeps.trans ?_ State.journal_keeps
    exact Keeps.refl _

theorem State.noTasks_keeps {a0 : _} : Keeps a0 (@State.noTasks a0) := by
  unfold State.noTasks
  refine Keeps.foldl ?_ (fun v0 v1 => ?_)
  · exact Keeps.refl _
  · refine Keeps.trans ?_ (Keeps.put (by decide))
    iterate 3 refine Keeps.trans ?_ (Keeps.put (by decide))
    exact Keeps.refl _

theorem State.showTasks_keeps {a0 : _} {a1 : _} : Keeps a0 (@State.showTasks a0 a1) := by
  unfold State.showTasks
  refine Keeps.foldl ?_ (fun v0 v1 => ?_)
  · exact Keeps.refl _
  · refine Keeps.trans ?_ (Keeps.putFlag (by decide))
    refine Keeps.trans ?_ (Keeps.putFlag (by decide))
    refine Keeps.trans ?_ (Keeps.put (by decide))
    refine Keeps.trans ?_ (Keeps.put (by decide))
    exact Keeps.refl _

theorem State.noProgram_keeps {a0 : _} : Keeps a0 (@State.noProgram a0) := by
  unfold State.noProgram
  iterate 5 refine Keeps.trans ?_ (Keeps.put (by decide))
  refine Keeps.trans ?_ State.noTasks_keeps
  exact Keeps.refl _

theorem State.loadProgram_keeps {a0 : _} {a1 : _} {a2 : _} : Keeps a0 (@State.loadProgram a0 a1 a2) := by
  unfold State.loadProgram
  dsimp only
  refine Keeps.trans ?_ State.showRuntime_keeps
  refine Keeps.trans ?_ State.showLoops_keeps
  refine Keeps.foldl ?_ (fun v0 v1 => ?_)
  · refine Keeps.mkUpd ?_ (by with_reducible rfl) (by with_reducible rfl) (by with_reducible rfl) (by with_reducible rfl)
    refine Keeps.ite ?_ ?_
    · refine Keeps.foldl ?_ (fun v2 v3 => ?_)
      · refine Keeps.trans ?_ (Keeps.put (by decide))
        iterate 4 refine Keeps.trans ?_ (Keeps.put (by decide))
        refine Keeps.trans ?_ State.showTasks_keeps
        refine Keeps.trans ?_ State.noTasks_keeps
        refine Keeps.trans ?_ (Keeps.put (by decide))
        refine Keeps.foldl ?_ (fun v4 v5 => ?_)
        · exact Keeps.refl _
        · refine Keeps.trans ?_ (Keeps.put (Fld.quiet_next (by decide) _))
          exact Keeps.refl _
      · refine Keeps.trans ?_ (Keeps.putFlag (by decide))
        exact Keeps.refl _
    · refine Keeps.trans ?_ (Keeps.put (by decide))
      iterate 4 refine Keeps.trans ?_ (Keeps.put (by decide))
      refine Keeps.trans ?_ State.showTasks_keeps
      refine Keeps.trans ?_ State.noTasks_keeps
      refine Keeps.trans ?_ (Keeps.put (by decide))
      refine Keeps.foldl ?_ (fun v6 v7 => ?_)
      · exact Keeps.refl _
      · refine Keeps.trans ?_ (Keeps.put (Fld.quiet_next (by decide) _))
        exact Keeps.refl _
  · refine Keeps.ite ?_ ?_
    · refine Keeps.trans ?_ State.showGroup_keeps
      exact Keeps.refl _
    · refine Keeps.trans ?_ State.initGroup_keeps
      exact Keeps.refl _

theorem State.journalSub_keeps {a0 : _} {a1 : _} {a2 : _} : Keeps a0 (@State.journalSub a0 a1 a2) := by
  unfold State.journalSub
  dsimp only
  refine Keeps.trans ?_ State.journalNew_keeps
  exact Keeps.refl _

theorem State.journalLoad_keeps {a0 : _} {a1 : _} : Keeps a0 (@State.journalLoad a0 a1) := by
  unfold State.journalLoad
  dsimp only
  refine Keeps.foldl ?_ (fun v0 v1 => ?_)
  · refine Keeps.foldl ?_ (fun v2 v3 => ?_)
    · refine Keeps.foldl ?_ (fun v4 v5 => ?_)
      · exact Keeps.refl _
      · refine Keeps.trans ?_ State.journalNew_keeps
        exact Keeps.refl _
    · refine Keeps.trans ?_ State.journalSub_keeps
      exact Keeps.refl _
  · refine Keeps.trans ?_ State.journalSub_keeps
    exact Keeps.refl _

/-! Loops. -/

theorem State.putLoop_keeps {a0 : _} {a1 : _} : Keeps a0 (@State.putLoop a0 a1) := by
  unfold State.putLoop
  refine Keeps.mkUpd ?_ (by with_reducible rfl) (by with_reducible rfl) (by with_reducible rfl) (by with_reducible rfl)
  exact Keeps.refl _

theorem State.loopMode_keeps {a0 : _} {a1 : _} {a2 : _} {a3 : _} : Keeps a0 (@State.loopMode a0 a1 a2 a3).1 := by
  unfold State.loopMode
  refine Keeps.iteFst ?_ ?_
  · dsimp only
    exact Keeps.refl _
  · dsimp only
    refine Keeps.trans ?_ State.raise_keeps
    exact Keeps.refl _

theorem State.requestMode_keeps {a0 : _} {a1 : _} {a2 : _} {a3 : _} : Keeps a0 (@State.requestMode a0 a1 a2 a3).1 := by
  unfold State.requestMode
  dsimp only
  refine Keeps.iteFst ?_ ?_
  · dsimp only
    exact Keeps.refl _
  · refine Keeps.trans ?_ State.loopMode_keeps
    exact Keeps.refl _

theorem State.readFlag_keeps {a0 : _} {a1 : _} {a2 : _} : Keeps a0 (@State.readFlag a0 a1 a2) := by
  unfold State.readFlag
  refine Keeps.ite ?_ ?_
  · exact Keeps.refl _
  · refine Keeps.mkUpd ?_ (by with_reducible rfl) (by with_reducible rfl) (by with_reducible rfl) (by with_reducible rfl)
    exact Keeps.refl _

theorem State.spoilRate_keeps {a0 : _} {a1 : _} {a2 : _} : Keeps a0 (@State.spoilRate a0 a1 a2) := by
  unfold State.spoilRate
  refine Keeps.mkUpd ?_ (by with_reducible rfl) (by with_reducible rfl) (by with_reducible rfl) (by with_reducible rfl)
  exact Keeps.refl _

theorem State.loopSetpoint_keeps {a0 : _} {a1 : _} {a2 : _} : Keeps a0 (@State.loopSetpoint a0 a1 a2).1 := by
  unfold State.loopSetpoint
  dsimp only
  refine Keeps.iteFst ?_ ?_
  · dsimp only
    exact Keeps.refl _
  · refine Keeps.iteFst ?_ ?_
    · dsimp only
      exact Keeps.refl _
    · refine Keeps.iteFst ?_ ?_
      · refine Keeps.iteFst ?_ ?_
        · dsimp only
          refine Keeps.ite ?_ ?_
          · refine Keeps.trans ?_ State.raise_keeps
            refine Keeps.trans ?_ State.loopMode_keeps
            refine Keeps.trans ?_ State.raise_keeps
            exact Keeps.refl _
          · refine Keeps.trans ?_ State.loopMode_keeps
            refine Keeps.trans ?_ State.raise_keeps
            exact Keeps.refl _
        · dsimp only
          refine Keeps.ite ?_ ?_
          · refine Keeps.trans ?_ State.raise_keeps
            exact Keeps.refl _
          · exact Keeps.refl _
      · refine Keeps.iteFst ?_ ?_
        · dsimp only
          refine Keeps.ite ?_ ?_
          · refine Keeps.trans ?_ State.raise_keeps
            exact Keeps.refl _
          · exact Keeps.refl _
        · refine Keeps.iteFst ?_ ?_
          · dsimp only
            exact Keeps.refl _
          · dsimp only
            exact Keeps.refl _

theorem State.deliverOut_keeps {a0 : _} {a1 : _} {a2 : _} : Keeps a0 (@State.deliverOut a0 a1 a2) := by
  unfold State.deliverOut
  split
  · rename_i v0 v1 v2
    dsimp only
    refine Keeps.mkUpd ?_ (by with_reducible rfl) (by with_reducible rfl) (by with_reducible rfl) (by with_reducible rfl)
    exact Keeps.refl _
  · rename_i v3 v4
    exact Keeps.refl _

theorem State.selectGroup_keeps {a0 : _} {a1 : _} : Keeps a0 (@State.selectGroup a0 a1) := by
  unfold State.selectGroup
  refine Keeps.ite ?_ ?_
  · exact Keeps.refl _
  · dsimp only
    split
    · rename_i v0 v1 v2
      split
      · rename_i v3 v4 v5
        refine Keeps.trans ?_ State.deliverOut_keeps
        refine Keeps.foldl ?_ (fun v6 v7 => ?_)
        · refine Keeps.trans ?_ (Keeps.put (by decide))
          split
          · rename_i v8 v9
            refine Keeps.trans ?_ (Keeps.putFlag (by decide))
            refine Keeps.ite ?_ ?_
            · refine Keeps.trans ?_ (Keeps.put (by decide))
              refine Keeps.mkUpd ?_ (by with_reducible rfl) (by with_reducible rfl) (by with_reducible rfl) (by with_reducible rfl)
              exact Keeps.refl _
            · refine Keeps.trans ?_ State.raise_keeps
              refine Keeps.trans ?_ (Keeps.put (by decide))
              refine Keeps.mkUpd ?_ (by with_reducible rfl) (by with_reducible rfl) (by with_reducible rfl) (by with_reducible rfl)
              exact Keeps.refl _
          · rename_i v10 v11 v12
            refine Keeps.ite ?_ ?_
            · refine Keeps.trans ?_ (Keeps.putFlag (by decide))
              refine Keeps.trans ?_ (Keeps.put (by decide))
              refine Keeps.mkUpd ?_ (by with_reducible rfl) (by with_reducible rfl) (by with_reducible rfl) (by with_reducible rfl)
              exact Keeps.refl _
            · refine Keeps.trans ?_ State.raise_keeps
              refine Keeps.trans ?_ (Keeps.inc (by decide))
              refine Keeps.trans ?_ (Keeps.put (by decide))
              refine Keeps.trans ?_ (Keeps.putFlag (by decide))
              refine Keeps.trans ?_ (Keeps.put (by decide))
              refine Keeps.mkUpd ?_ (by with_reducible rfl) (by with_reducible rfl) (by with_reducible rfl) (by with_reducible rfl)
              exact Keeps.refl _
        · split
          · rename_i v13 v14 v15
            refine Keeps.trans ?_ State.putLoop_keeps
            exact Keeps.refl _
          · rename_i v16 v17
            exact Keeps.refl _
      · rename_i v18 v19
        refine Keeps.foldl ?_ (fun v20 v21 => ?_)
        · refine Keeps.trans ?_ (Keeps.put (by decide))
          split
          · rename_i v22 v23
            refine Keeps.trans ?_ (Keeps.putFlag (by decide))
            refine Keeps.ite ?_ ?_
            · refine Keeps.trans ?_ (Keeps.put (by decide))
              refine Keeps.mkUpd ?_ (by with_reducible rfl) (by with_reducible rfl) (by with_reducible rfl) (by with_reducible rfl)
              exact Keeps.refl _
            · refine Keeps.trans ?_ State.raise_keeps
              refine Keeps.trans ?_ (Keeps.put (by decide))
              refine Keeps.mkUpd ?_ (by with_reducible rfl) (by with_reducible rfl) (by with_reducible rfl) (by with_reducible rfl)
              exact Keeps.refl _
          · rename_i v24 v25 v26
            refine Keeps.ite ?_ ?_
            · refine Keeps.trans ?_ (Keeps.putFlag (by decide))
              refine Keeps.trans ?_ (Keeps.put (by decide))
              refine Keeps.mkUpd ?_ (by with_reducible rfl) (by with_reducible rfl) (by with_reducible rfl) (by with_reducible rfl)
              exact Keeps.refl _
            · refine Keeps.trans ?_ State.raise_keeps
              refine Keeps.trans ?_ (Keeps.inc (by decide))
              refine Keeps.trans ?_ (Keeps.put (by decide))
              refine Keeps.trans ?_ (Keeps.putFlag (by decide))
              refine Keeps.trans ?_ (Keeps.put (by decide))
              refine Keeps.mkUpd ?_ (by with_reducible rfl) (by with_reducible rfl) (by with_reducible rfl) (by with_reducible rfl)
              exact Keeps.refl _
        · split
          · rename_i v27 v28 v29
            refine Keeps.trans ?_ State.putLoop_keeps
            exact Keeps.refl _
          · rename_i v30 v31
            exact Keeps.refl _
    · rename_i v32 v33
      refine Keeps.foldl ?_ (fun v34 v35 => ?_)
      · refine Keeps.trans ?_ (Keeps.put (by decide))
        split
        · rename_i v36 v37
          refine Keeps.trans ?_ (Keeps.putFlag (by decide))
          refine Keeps.ite ?_ ?_
          · refine Keeps.trans ?_ (Keeps.put (by decide))
            refine Keeps.mkUpd ?_ (by with_reducible rfl) (by with_reducible rfl) (by with_reducible rfl) (by with_reducible rfl)
            exact Keeps.refl _
          · refine Keeps.trans ?_ State.raise_keeps
            refine Keeps.trans ?_ (Keeps.put (by decide))
            refine Keeps.mkUpd ?_ (by with_reducible rfl) (by with_reducible rfl) (by with_reducible rfl) (by with_reducible rfl)
            exact Keeps.refl _
        · rename_i v38 v39 v40
          refine Keeps.ite ?_ ?_
          · refine Keeps.trans ?_ (Keeps.putFlag (by decide))
            refine Keeps.trans ?_ (Keeps.put (by decide))
            refine Keeps.mkUpd ?_ (by with_reducible rfl) (by with_reducible rfl) (by with_reducible rfl) (by with_reducible rfl)
            exact Keeps.refl _
          · refine Keeps.trans ?_ State.raise_keeps
            refine Keeps.trans ?_ (Keeps.inc (by decide))
            refine Keeps.trans ?_ (Keeps.put (by decide))
            refine Keeps.trans ?_ (Keeps.putFlag (by decide))
            refine Keeps.trans ?_ (Keeps.put (by decide))
            refine Keeps.mkUpd ?_ (by with_reducible rfl) (by with_reducible rfl) (by with_reducible rfl) (by with_reducible rfl)
            exact Keeps.refl _
      · split
        · rename_i v41 v42 v43
          refine Keeps.trans ?_ State.putLoop_keeps
          exact Keeps.refl _
        · rename_i v44 v45
          exact Keeps.refl _

theorem State.loopTrack_keeps {a0 : _} {a1 : _} : Keeps a0 (@State.loopTrack a0 a1).1 := by
  unfold State.loopTrack
  split
  · rename_i v0 v1
    dsimp only
    exact Keeps.refl _
  · rename_i v2 v3 v4
    dsimp only
    refine Keeps.iteFst ?_ ?_
    · refine Keeps.trans ?_ State.loopMode_keeps
      refine Keeps.trans ?_ State.readFlag_keeps
      exact Keeps.refl _
    · refine Keeps.iteFst ?_ ?_
      · refine Keeps.trans ?_ State.loopMode_keeps
        refine Keeps.trans ?_ State.readFlag_keeps
        exact Keeps.refl _
      · dsimp only
        refine Keeps.trans ?_ State.readFlag_keeps
        exact Keeps.refl _

theorem State.loopWork_keeps {a0 : _} {a1 : _} {a2 : _} : Keeps a0 (@State.loopWork a0 a1 a2).1 := by
  unfold State.loopWork
  dsimp only
  refine Keeps.iteFst ?_ ?_
  · dsimp only
    refine Keeps.trans ?_ State.loopMode_keeps
    refine Keeps.trans ?_ State.raise_keeps
    refine Keeps.trans ?_ (Keeps.inc (by decide))
    exact Keeps.refl _
  · refine Keeps.iteFst ?_ ?_
    · dsimp only
      exact Keeps.refl _
    · dsimp only
      refine Keeps.trans ?_ State.loopSetpoint_keeps
      exact Keeps.refl _

theorem State.loopRun_keeps {a0 : _} {a1 : _} {a2 : _} : Keeps a0 (@State.loopRun a0 a1 a2) := by
  unfold State.loopRun
  dsimp only
  split
  · rename_i v0 v1 v2
    refine Keeps.trans ?_ State.selectGroup_keeps
    refine Keeps.trans ?_ State.putLoop_keeps
    refine Keeps.trans ?_ State.loopWork_keeps
    refine Keeps.trans ?_ State.loopTrack_keeps
    exact Keeps.refl _
  · rename_i v3 v4
    refine Keeps.trans ?_ State.deliverOut_keeps
    refine Keeps.trans ?_ State.putLoop_keeps
    refine Keeps.trans ?_ State.loopWork_keeps
    refine Keeps.trans ?_ State.loopTrack_keeps
    exact Keeps.refl _

theorem State.loopLine_keeps {a0 : _} : Keeps a0 (@State.loopLine a0) := by
  unfold State.loopLine
  split
  · rename_i v0 v1 v2 v3
    split
    · rename_i v4 v5 v6 v7
      refine Keeps.mkUpd ?_ (by with_reducible rfl) (by with_reducible rfl) (by with_reducible rfl) (by with_reducible rfl)
      refine Keeps.ofSnd v7 ?_
      refine Keeps.trans ?_ State.fresh_keeps
      refine Keeps.ofSnd v3 ?_
      refine Keeps.trans ?_ State.fresh_keeps
      exact Keeps.refl _

theorem State.loopExecute_keeps {a0 : _} {a1 : _} : Keeps a0 (@State.loopExecute a0 a1) := by
  unfold State.loopExecute
  refine Keeps.ite ?_ ?_
  · exact Keeps.refl _
  · split
    · rename_i v0 v1
      exact Keeps.refl _
    · rename_i v2 v3 v4
      refine Keeps.ite ?_ ?_
      · exact Keeps.refl _
      · dsimp only
        refine Keeps.trans ?_ State.loopLine_keeps
        refine Keeps.mkUpd ?_ (by with_reducible rfl) (by with_reducible rfl) (by with_reducible rfl) (by with_reducible rfl)
        refine Keeps.trans ?_ State.loopRun_keeps
        refine Keeps.mkUpd ?_ (by with_reducible rfl) (by with_reducible rfl) (by with_reducible rfl) (by with_reducible rfl)
        exact Keeps.refl _

theorem State.takeReq_keeps {a0 : _} {a1 : _} : Keeps a0 (@State.takeReq a0 a1).1 := by
  unfold State.takeReq
  split
  · rename_i v0 v1
    dsimp only
    exact Keeps.refl _
  · rename_i v2 v3 v4
    dsimp only
    refine Keeps.iteFst ?_ ?_
    · refine Keeps.trans ?_ State.requestMode_keeps
      refine Keeps.trans ?_ State.readFlag_keeps
      exact Keeps.refl _
    · dsimp only
      refine Keeps.trans ?_ State.readFlag_keeps
      exact Keeps.refl _

theorem State.loopRelease_keeps {a0 : _} {a1 : _} : Keeps a0 (@State.loopRelease a0 a1) := by
  unfold State.loopRelease
  dsimp only
  refine Keeps.trans ?_ State.putLoop_keeps
  refine Keeps.trans ?_ State.takeReq_keeps
  exact Keeps.refl _

theorem State.releaseLoops_keeps {a0 : _} {a1 : _} : Keeps a0 (@State.releaseLoops a0 a1) := by
  unfold State.releaseLoops
  dsimp only
  refine Keeps.foldl ?_ (fun v0 v1 => ?_)
  · refine Keeps.mkUpd ?_ (by with_reducible rfl) (by with_reducible rfl) (by with_reducible rfl) (by with_reducible rfl)
    exact Keeps.refl _
  · refine Keeps.trans ?_ State.loopRelease_keeps
    exact Keeps.refl _

theorem State.loopIntake_keeps {a0 : _} : Keeps a0 (@State.loopIntake a0) := by
  unfold State.loopIntake
  refine Keeps.ite ?_ ?_
  · exact Keeps.refl _
  · refine Keeps.foldl ?_ (fun v0 v1 => ?_)
    · exact Keeps.refl _
    · refine Keeps.trans ?_ State.releaseLoops_keeps
      exact Keeps.refl _

theorem State.cutLoops_keeps {a0 : _} {a1 : _} : Keeps a0 (@State.cutLoops a0 a1) := by
  unfold State.cutLoops
  dsimp only
  refine Keeps.ite ?_ ?_
  · exact Keeps.refl _
  · refine Keeps.trans ?_ State.raise_keeps
    refine Keeps.trans ?_ (Keeps.add (by decide))
    refine Keeps.mkUpd ?_ (by with_reducible rfl) (by with_reducible rfl) (by with_reducible rfl) (by with_reducible rfl)
    exact Keeps.refl _

theorem loopReadBody_keeps {a0 : _} {a1 : _} {a2 : _} : Keeps a2 (@loopReadBody a0 a1 a2).st := by
  unfold loopReadBody
  dsimp only
  refine Keeps.iteSt ?_ ?_
  · dsimp only
    exact Keeps.refl _
  · split
    · rename_i v0 v1
      dsimp only
      exact Keeps.refl _
    · rename_i v2 v3 v4
      dsimp only
      exact Keeps.refl _

theorem loopModeSetApply_keeps {a0 : _} {a1 : _} : Keeps a1 (@loopModeSetApply a0 a1).st := by
  unfold loopModeSetApply
  dsimp only
  refine Keeps.iteSt ?_ ?_
  · refine Keeps.iteSt ?_ ?_
    · dsimp only
      exact Keeps.refl _
    · dsimp only
      refine Keeps.trans ?_ State.raise_keeps
      refine Keeps.trans ?_ (Keeps.put (by decide))
      exact Keeps.refl _
  · split
    · rename_i v0 v1
      dsimp only
      exact Keeps.refl _
    · rename_i v2 v3 v4
      dsimp only
      refine Keeps.trans ?_ State.putLoop_keeps
      refine Keeps.trans ?_ State.requestMode_keeps
      exact Keeps.refl _

theorem loopSpSetApply_keeps {a0 : _} {a1 : _} : Keeps a1 (@loopSpSetApply a0 a1).st := by
  unfold loopSpSetApply
  split
  · rename_i v0 v1
    dsimp only
    exact Keeps.refl _
  · rename_i v2 v3 v4
    refine Keeps.iteSt ?_ ?_
    · dsimp only
      refine Keeps.trans ?_ State.putLoop_keeps
      exact Keeps.refl _
    · refine Keeps.iteSt ?_ ?_
      · dsimp only
        refine Keeps.trans ?_ State.putLoop_keeps
        exact Keeps.refl _
      · dsimp only
        exact Keeps.refl _

theorem loopCoeffSetApply_keeps {a0 : _} {a1 : _} : Keeps a1 (@loopCoeffSetApply a0 a1).st := by
  unfold loopCoeffSetApply
  split
  · rename_i v0 v1
    dsimp only
    exact Keeps.refl _
  · rename_i v2 v3 v4
    dsimp only
    refine Keeps.iteSt ?_ ?_
    · dsimp only
      exact Keeps.refl _
    · refine Keeps.iteSt ?_ ?_
      · dsimp only
        exact Keeps.refl _
      · refine Keeps.iteSt ?_ ?_
        · dsimp only
          refine Keeps.trans ?_ State.raise_keeps
          exact Keeps.refl _
        · dsimp only
          refine Keeps.trans ?_ State.raise_keeps
          refine Keeps.trans ?_ State.journal_keeps
          refine Keeps.mkUpd ?_ (by with_reducible rfl) (by with_reducible rfl) (by with_reducible rfl) (by with_reducible rfl)
          refine Keeps.trans ?_ State.putLoop_keeps
          exact Keeps.refl _

/-! Values. -/

theorem valueWriteApply_keeps {a0 : _} {a1 : _} : Keeps a1 (@valueWriteApply a0 a1).st := by
  unfold valueWriteApply
  dsimp only
  refine Keeps.trans ?_ State.putRt_keeps
  exact Keeps.refl _

theorem constWriteApply_keeps {a0 : _} {a1 : _} : Keeps a1 (@constWriteApply a0 a1).st := by
  unfold constWriteApply
  dsimp only
  split
  · rename_i v0 v1 v2 v3
    dsimp only
    exact Keeps.refl _
  · rename_i v4 v5
    refine Keeps.iteSt ?_ ?_
    · dsimp only
      refine Keeps.trans ?_ State.raise_keeps
      exact Keeps.refl _
    · dsimp only
      refine Keeps.trans ?_ State.showRuntime_keeps
      refine Keeps.foldl ?_ (fun v6 v7 => ?_)
      · exact Keeps.refl _
      · split
        · rename_i v8 v9 v10
          refine Keeps.trans ?_ State.journal_keeps
          refine Keeps.trans ?_ State.putRt_keeps
          exact Keeps.refl _
        · rename_i v11 v12
          exact Keeps.refl _

theorem forceSetApply_keeps {a0 : _} {a1 : _} : Keeps a1 (@forceSetApply a0 a1).st := by
  unfold forceSetApply
  split
  · rename_i v0 v1 v2 v3
    dsimp only
    exact Keeps.refl _
  · rename_i v4 v5
    dsimp only
    refine Keeps.trans ?_ State.showRuntime_keeps
    refine Keeps.foldl ?_ (fun v6 v7 => ?_)
    · refine Keeps.trans ?_ State.auditBy_keeps
      exact Keeps.refl _
    · split
      · rename_i v8 v9 v10
        refine Keeps.trans ?_ State.journal_keeps
        refine Keeps.mkUpd ?_ (by with_reducible rfl) (by with_reducible rfl) (by with_reducible rfl) (by with_reducible rfl)
        exact Keeps.refl _
      · rename_i v11 v12
        exact Keeps.refl _

theorem forceClearApply_keeps {a0 : _} {a1 : _} : Keeps a1 (@forceClearApply a0 a1).st := by
  unfold forceClearApply
  dsimp only
  refine Keeps.trans ?_ State.showRuntime_keeps
  refine Keeps.trans ?_ State.clearForces_keeps
  refine Keeps.trans ?_ State.auditBy_keeps
  exact Keeps.refl _

theorem valueOwnApply_keeps {a0 : _} {a1 : _} : Keeps a1 (@valueOwnApply a0 a1).st := by
  unfold valueOwnApply
  dsimp only
  split
  · rename_i v0 v1 v2
    dsimp only
    exact Keeps.refl _
  · rename_i v3 v4
    dsimp only
    refine Keeps.trans ?_ (Keeps.put (by decide))
    refine Keeps.mkUpd ?_ (by with_reducible rfl) (by with_reducible rfl) (by with_reducible rfl) (by with_reducible rfl)
    exact Keeps.refl _

theorem valueReleaseApply_keeps {a0 : _} {a1 : _} : Keeps a1 (@valueReleaseApply a0 a1).st := by
  unfold valueReleaseApply
  dsimp only
  refine Keeps.trans ?_ (Keeps.put (by decide))
  refine Keeps.foldl ?_ (fun v0 v1 => ?_)
  · refine Keeps.ite ?_ ?_
    · refine Keeps.trans ?_ State.auditBy_keeps
      exact Keeps.refl _
    · exact Keeps.refl _
  · split
    · rename_i v2 v3
      exact Keeps.refl _
    · rename_i v4 v5 v6
      refine Keeps.ite ?_ ?_
      · exact Keeps.refl _
      · refine Keeps.ite ?_ ?_
        · refine Keeps.mkUpd ?_ (by with_reducible rfl) (by with_reducible rfl) (by with_reducible rfl) (by with_reducible rfl)
          exact Keeps.refl _
        · refine Keeps.trans ?_ State.raise_keeps
          refine Keeps.mkUpd ?_ (by with_reducible rfl) (by with_reducible rfl) (by with_reducible rfl) (by with_reducible rfl)
          exact Keeps.refl _

theorem valueReadBody_keeps {a0 : _} {a1 : _} {a2 : _} : Keeps a2 (@valueReadBody a0 a1 a2).st := by
  unfold valueReadBody
  dsimp only
  exact Keeps.refl _

theorem execValueRead_keeps {a0 : _} {a1 : _} {t : State} (h : (@execValueRead a0 a1) = .next t) : Keeps a1 t := by
  unfold execValueRead at h
  injection h with h
  subst h
  refine Keeps.trans ?_ (served_keeps ?_)
  · exact Keeps.refl _
  · intro v0 v1
    refine Keeps.trans ?_ valueReadBody_keeps
    exact Keeps.refl _

theorem execValueWrite_keeps {a0 : _} {a1 : _} {t : State} (h : (@execValueWrite a0 a1) = .next t) : Keeps a1 t := by
  unfold execValueWrite at h
  injection h with h
  subst h
  refine Keeps.trans ?_ queued_keeps
  exact Keeps.refl _

theorem execConstWrite_keeps {a0 : _} {a1 : _} {t : State} (h : (@execConstWrite a0 a1) = .next t) : Keeps a1 t := by
  unfold execConstWrite at h
  injection h with h
  subst h
  refine Keeps.trans ?_ queued_keeps
  exact Keeps.refl _

theorem execValueOwn_keeps {a0 : _} {a1 : _} {t : State} (h : (@execValueOwn a0 a1) = .next t) : Keeps a1 t := by
  unfold execValueOwn at h
  injection h with h
  subst h
  refine Keeps.trans ?_ queued_keeps
  exact Keeps.refl _

theorem execValueRelease_keeps {a0 : _} {a1 : _} {t : State} (h : (@execValueRelease a0 a1) = .next t) : Keeps a1 t := by
  unfold execValueRelease at h
  injection h with h
  subst h
  refine Keeps.trans ?_ queued_keeps
  exact Keeps.refl _

theorem execForceSet_keeps {a0 : _} {a1 : _} {t : State} (h : (@execForceSet a0 a1) = .next t) : Keeps a1 t := by
  unfold execForceSet at h
  injection h with h
  subst h
  refine Keeps.trans ?_ queued_keeps
  exact Keeps.refl _

theorem execForceClear_keeps {a0 : _} {a1 : _} {t : State} (h : (@execForceClear a0 a1) = .next t) : Keeps a1 t := by
  unfold execForceClear at h
  injection h with h
  subst h
  refine Keeps.trans ?_ queued_keeps
  exact Keeps.refl _

theorem execLoopRead_keeps {a0 : _} {a1 : _} {t : State} (h : (@execLoopRead a0 a1) = .next t) : Keeps a1 t := by
  unfold execLoopRead at h
  injection h with h
  subst h
  refine Keeps.trans ?_ (served_keeps ?_)
  · exact Keeps.refl _
  · intro v0 v1
    refine Keeps.trans ?_ loopReadBody_keeps
    exact Keeps.refl _

theorem execLoopModeSet_keeps {a0 : _} {a1 : _} {t : State} (h : (@execLoopModeSet a0 a1) = .next t) : Keeps a1 t := by
  unfold execLoopModeSet at h
  injection h with h
  subst h
  refine Keeps.trans ?_ queued_keeps
  exact Keeps.refl _

theorem execLoopCoeffSet_keeps {a0 : _} {a1 : _} {t : State} (h : (@execLoopCoeffSet a0 a1) = .next t) : Keeps a1 t := by
  unfold execLoopCoeffSet at h
  injection h with h
  subst h
  refine Keeps.trans ?_ queued_keeps
  exact Keeps.refl _

theorem execLoopSpSet_keeps {a0 : _} {a1 : _} {t : State} (h : (@execLoopSpSet a0 a1) = .next t) : Keeps a1 t := by
  unfold execLoopSpSet at h
  injection h with h
  subst h
  refine Keeps.trans ?_ queued_keeps
  exact Keeps.refl _

theorem execLoopBlockExecute_keeps {a0 : _} {a1 : _} {a2 : _} {t : State} (h : (@execLoopBlockExecute a0 a1 a2) = .next t) : Keeps a1 t := by
  unfold execLoopBlockExecute at h
  injection h with h
  subst h
  refine Keeps.trans ?_ (State.onCluster_keeps ?_)
  · exact Keeps.refl _
  · intro v0
    refine Keeps.trans ?_ State.loopExecute_keeps
    exact Keeps.refl _

theorem State.lineMem_keeps {s : State} {a d : Nat} : Keeps s (s.lineMem a d) := by
  unfold State.lineMem
  refine Keeps.ite ?_ (Keeps.ite ?_ ?_)
  all_goals
    refine Keeps.memUpd (Keeps.refl s) rfl (fun h => ?_) (List.Subset.refl _) (List.Subset.refl _) rfl
    simp only [State.mems, List.all_cons, List.all_nil, Bool.and_true, Bool.and_eq_true] at h ⊢
  · exact ⟨h.1, memWf_memWrite h.2.1 _ _ _, h.2.2⟩
  · exact ⟨h.1, h.2.1, memWf_memWrite h.2.2 _ _ _⟩
  · exact ⟨memWf_memWrite h.1 _ _ _, h.2⟩

theorem State.writeLine_keeps {a0 : _} {a1 : _} : Keeps a0 (@State.writeLine a0 a1) := by
  unfold State.writeLine
  dsimp only
  refine Keeps.mkUpd ?_ (by with_reducible rfl) (by with_reducible rfl) (by with_reducible rfl) (by with_reducible rfl)
  refine Keeps.trans ?_ State.lineMem_keeps
  exact Keeps.refl _

theorem State.taskEnd_keeps {a0 : _} {a1 : _} {a2 : _} {a3 : _} {a4 : _} : Keeps a0 (@State.taskEnd a0 a1 a2 a3 a4) := by
  unfold State.taskEnd
  refine Keeps.ite ?_ ?_
  · refine Keeps.foldl ?_ (fun v0 v1 => ?_)
    · refine Keeps.trans ?_ State.endTask_keeps
      exact Keeps.refl _
    · refine Keeps.trans ?_ State.writeLine_keeps
      exact Keeps.refl _
  · exact Keeps.refl _

theorem execTaskEnd_keeps {a0 : _} {a1 : _} {a2 : _} {a3 : _} {a4 : _} {a5 : _} {t : State} (h : (@execTaskEnd a0 a1 a2 a3 a4 a5) = .next t) : Keeps a4 t := by
  unfold execTaskEnd at h
  injection h with h
  subst h
  refine Keeps.trans ?_ (State.onCluster_keeps ?_)
  · exact Keeps.refl _
  · intro v0
    refine Keeps.trans ?_ State.taskEnd_keeps
    exact Keeps.refl _

theorem State.sliceUsed_keeps {a0 : _} {a1 : _} {a2 : _} : Keeps a0 (@State.sliceUsed a0 a1 a2) := by
  unfold State.sliceUsed
  dsimp only
  refine Keeps.trans ?_ (Keeps.put (Fld.quiet_next (by decide) _))
  refine Keeps.mkUpd ?_ (by with_reducible rfl) (by with_reducible rfl) (by with_reducible rfl) (by with_reducible rfl)
  exact Keeps.refl _

theorem State.watchClass_keeps {a0 : _} {a1 : _} : Keeps a0 (@State.watchClass a0 a1) := by
  unfold State.watchClass
  refine Keeps.ite ?_ ?_
  · exact Keeps.refl _
  · refine Keeps.ite ?_ ?_
    · refine Keeps.trans ?_ State.spillAll_keeps
      exact Keeps.refl _
    · refine Keeps.trans ?_ State.overrun_keeps
      exact Keeps.refl _

theorem State.endSlice_keeps {a0 : _} {a1 : _} {a2 : _} : Keeps a0 (@State.endSlice a0 a1 a2) := by
  unfold State.endSlice
  refine Keeps.ite ?_ ?_
  · exact Keeps.refl _
  · dsimp only
    refine Keeps.trans ?_ State.watchClass_keeps
    refine Keeps.mkUpd ?_ (by with_reducible rfl) (by with_reducible rfl) (by with_reducible rfl) (by with_reducible rfl)
    refine Keeps.trans ?_ State.sliceUsed_keeps
    exact Keeps.refl _

theorem execSliceEnd_keeps {a0 : _} {a1 : _} {a2 : _} {a3 : _} {t : State} (h : (@execSliceEnd a0 a1 a2 a3) = .next t) : Keeps a2 t := by
  unfold execSliceEnd at h
  injection h with h
  subst h
  refine Keeps.trans ?_ (State.onCluster_keeps ?_)
  · exact Keeps.refl _
  · intro v0
    refine Keeps.trans ?_ State.endSlice_keeps
    exact Keeps.refl _

/-! Sessions. -/

theorem State.sessionOpened_keeps {a0 : _} {a1 : _} {a2 : _} : Keeps a0 (@State.sessionOpened a0 a1 a2) := by
  unfold State.sessionOpened
  refine Keeps.trans ?_ State.raise_keeps
  refine Keeps.trans ?_ State.audit_keeps
  exact Keeps.refl _

theorem State.openSession_keeps {a0 : _} {a1 : _} : Keeps a0 (@State.openSession a0 a1) := by
  unfold State.openSession
  split
  · rename_i v0 v1 v2
    dsimp only
    refine Keeps.trans ?_ State.answer_keeps
    refine Keeps.trans ?_ State.sessionOpened_keeps
    refine Keeps.trans ?_ State.countSessions_keeps
    refine Keeps.trans ?_ State.onSession_keeps
    exact Keeps.refl _
  · rename_i v3 v4
    dsimp only
    refine Keeps.trans ?_ State.answer_keeps
    refine Keeps.trans ?_ State.sessionOpened_keeps
    refine Keeps.trans ?_ State.countSessions_keeps
    refine Keeps.mkUpd ?_ (by with_reducible rfl) (by with_reducible rfl) (by with_reducible rfl) (by with_reducible rfl)
    exact Keeps.refl _

theorem State.authFailed_keeps {a0 : _} {a1 : _} {a2 : _} : Keeps a0 (@State.authFailed a0 a1 a2) := by
  unfold State.authFailed
  dsimp only
  refine Keeps.trans ?_ State.send_keeps
  refine Keeps.trans ?_ State.raise_keeps
  refine Keeps.mkUpd ?_ (by with_reducible rfl) (by with_reducible rfl) (by with_reducible rfl) (by with_reducible rfl)
  refine Keeps.trans ?_ State.audit_keeps
  exact Keeps.refl _

theorem State.helloService_keeps {a0 : _} {a1 : _} : Keeps a0 (@State.helloService a0 a1) := by
  unfold State.helloService
  refine Keeps.ite ?_ ?_
  · split
    · rename_i v0 v1 v2 v3
      dsimp only
      refine Keeps.trans ?_ State.send_keeps
      refine Keeps.mkUpd ?_ (by with_reducible rfl) (by with_reducible rfl) (by with_reducible rfl) (by with_reducible rfl)
      refine Keeps.ofSnd v3 ?_
      refine Keeps.trans ?_ State.fresh_keeps
      exact Keeps.refl _
  · refine Keeps.ite ?_ ?_
    · refine Keeps.trans ?_ State.authFailed_keeps
      exact Keeps.refl _
    · refine Keeps.ite ?_ ?_
      · refine Keeps.trans ?_ State.authFailed_keeps
        exact Keeps.refl _
      · refine Keeps.ite ?_ ?_
        · refine Keeps.trans ?_ State.authFailed_keeps
          exact Keeps.refl _
        · dsimp only
          refine Keeps.ite ?_ ?_
          · refine Keeps.trans ?_ State.send_keeps
            refine Keeps.mkUpd ?_ (by with_reducible rfl) (by with_reducible rfl) (by with_reducible rfl) (by with_reducible rfl)
            exact Keeps.refl _
          · refine Keeps.trans ?_ State.openSession_keeps
            refine Keeps.mkUpd ?_ (by with_reducible rfl) (by with_reducible rfl) (by with_reducible rfl) (by with_reducible rfl)
            exact Keeps.refl _

theorem State.helloTls_keeps {a0 : _} {a1 : _} : Keeps a0 (@State.helloTls a0 a1) := by
  unfold State.helloTls
  refine Keeps.ite ?_ ?_
  · refine Keeps.trans ?_ State.send_keeps
    exact Keeps.refl _
  · refine Keeps.trans ?_ State.openSession_keeps
    exact Keeps.refl _

theorem State.hello_keeps {a0 : _} {a1 : _} : Keeps a0 (@State.hello a0 a1) := by
  unfold State.hello
  split
  · rename_i v0 v1 v2
    refine Keeps.ite ?_ ?_
    · refine Keeps.trans ?_ State.send_keeps
      exact Keeps.refl _
    · split
      · rename_i v3 v4 v5 v6
        refine Keeps.trans ?_ State.send_keeps
        exact Keeps.refl _
      · rename_i v7 v8
        refine Keeps.ite ?_ ?_
        · refine Keeps.trans ?_ State.helloService_keeps
          exact Keeps.refl _
        · refine Keeps.trans ?_ State.helloTls_keeps
          exact Keeps.refl _
  · rename_i v9 v10
    refine Keeps.trans ?_ turnedAway_keeps
    exact Keeps.refl _

theorem execHello_keeps {a0 : _} {a1 : _} {t : State} (h : (@execHello a0 a1) = .next t) : Keeps a1 t := by
  unfold execHello at h
  injection h with h
  subst h
  refine Keeps.trans ?_ State.hello_keeps
  exact Keeps.refl _

theorem execBye_keeps {a0 : _} {a1 : _} {t : State} (h : (@execBye a0 a1) = .next t) : Keeps a1 t := by
  unfold execBye at h
  injection h with h
  subst h
  refine Keeps.ite ?_ ?_
  · refine Keeps.trans ?_ State.releaseSession_keeps
    refine Keeps.trans ?_ (served_keeps ?_)
    · exact Keeps.refl _
    · intro v0 v1
      dsimp only
      exact Keeps.refl _
  · refine Keeps.trans ?_ (served_keeps ?_)
    · exact Keeps.refl _
    · intro v2 v3
      dsimp only
      exact Keeps.refl _

theorem execPing_keeps {a0 : _} {a1 : _} {t : State} (h : (@execPing a0 a1) = .next t) : Keeps a1 t := by
  unfold execPing at h
  injection h with h
  subst h
  refine Keeps.trans ?_ (served_keeps ?_)
  · exact Keeps.refl _
  · intro v0 v1
    dsimp only
    exact Keeps.refl _

theorem sessionPriorityBody_keeps {a0 : _} {a1 : _} {a2 : _} : Keeps a2 (@sessionPriorityBody a0 a1 a2).st := by
  unfold sessionPriorityBody
  dsimp only
  refine Keeps.trans ?_ State.onSession_keeps
  exact Keeps.refl _

theorem execSessionPriority_keeps {a0 : _} {a1 : _} {t : State} (h : (@execSessionPriority a0 a1) = .next t) : Keeps a1 t := by
  unfold execSessionPriority at h
  injection h with h
  subst h
  refine Keeps.trans ?_ (served_keeps ?_)
  · exact Keeps.refl _
  · intro v0 v1
    refine Keeps.trans ?_ sessionPriorityBody_keeps
    exact Keeps.refl _

theorem execSessionTransportLoss_keeps {a0 : _} {a1 : _} {t : State} (h : (@execSessionTransportLoss a0 a1) = .next t) : Keeps a1 t := by
  unfold execSessionTransportLoss at h
  injection h with h
  subst h
  refine Keeps.trans ?_ State.closeConn_keeps
  exact Keeps.refl _

theorem execSessionIdleTimeout_keeps {a0 : _} {a1 : _} {t : State} (h : (@execSessionIdleTimeout a0 a1) = .next t) : Keeps a1 t := by
  unfold execSessionIdleTimeout at h
  injection h with h
  subst h
  split
  · rename_i v0 v1 v2
    refine Keeps.ite ?_ ?_
    · refine Keeps.trans ?_ State.holdSession_keeps
      exact Keeps.refl _
    · exact Keeps.refl _
  · rename_i v3 v4
    exact Keeps.refl _

theorem execOwnGraceExpiry_keeps {a0 : _} {a1 : _} {t : State} (h : (@execOwnGraceExpiry a0 a1) = .next t) : Keeps a1 t := by
  unfold execOwnGraceExpiry at h
  injection h with h
  subst h
  split
  · rename_i v0 v1 v2
    refine Keeps.ite ?_ ?_
    · refine Keeps.trans ?_ State.releaseSession_keeps
      exact Keeps.refl _
    · exact Keeps.refl _
  · rename_i v3 v4
    exact Keeps.refl _

theorem execNonceExpiry_keeps {a0 : _} {t : State} (h : (@execNonceExpiry a0) = .next t) : Keeps a0 t := by
  unfold execNonceExpiry at h
  injection h with h
  subst h
  refine Keeps.ite ?_ ?_
  · refine Keeps.mkUpd ?_ (by with_reducible rfl) (by with_reducible rfl) (by with_reducible rfl) (by with_reducible rfl)
    exact Keeps.refl _
  · exact Keeps.refl _

theorem execServicePacketCrcFail_keeps {a0 : _} {t : State} (h : (@execServicePacketCrcFail a0) = .next t) : Keeps a0 t := by
  unfold execServicePacketCrcFail at h
  injection h with h
  subst h
  refine Keeps.trans ?_ (Keeps.inc (by decide))
  exact Keeps.refl _

theorem execTransferTimeout_keeps {a0 : _} {a1 : _} {t : State} (h : (@execTransferTimeout a0 a1) = .next t) : Keeps a1 t := by
  unfold execTransferTimeout at h
  injection h with h
  subst h
  refine Keeps.mkUpd ?_ (by with_reducible rfl) (by with_reducible rfl) (by with_reducible rfl) (by with_reducible rfl)
  exact Keeps.refl _

theorem execForwardTimeout_keeps {a0 : _} {a1 : _} {a2 : _} {t : State} (h : (@execForwardTimeout a0 a1 a2) = .next t) : Keeps a2 t := by
  unfold execForwardTimeout at h
  injection h with h
  subst h
  split
  · rename_i v0 v1
    exact Keeps.refl _
  · rename_i v2 v3 v4
    dsimp only
    refine Keeps.trans ?_ State.answer_keeps
    refine Keeps.mkUpd ?_ (by with_reducible rfl) (by with_reducible rfl) (by with_reducible rfl) (by with_reducible rfl)
    exact Keeps.refl _

theorem execGong_keeps {a0 : _} {a1 : _} {t : State} (h : (@execGong a0 a1) = .next t) : Keeps a1 t := by
  unfold execGong at h
  injection h with h
  subst h
  refine Keeps.ite ?_ ?_
  · split
    · rename_i v0 v1 v2 v3
      refine Keeps.mkUpd ?_ (by with_reducible rfl) (by with_reducible rfl) (by with_reducible rfl) (by with_reducible rfl)
      refine Keeps.ofSnd v3 ?_
      refine Keeps.trans ?_ State.fresh_keeps
      refine Keeps.trans ?_ queued_keeps
      exact Keeps.refl _
  · refine Keeps.trans ?_ queued_keeps
    exact Keeps.refl _

theorem execGongDatagramSend_keeps {a0 : _} {t : State} (h : (@execGongDatagramSend a0) = .next t) : Keeps a0 t := by
  unfold execGongDatagramSend at h
  injection h with h
  subst h
  refine Keeps.ite ?_ ?_
  · exact Keeps.refl _
  · split
    · rename_i v0 v1
      exact Keeps.refl _
    · rename_i v2 v3 v4 v5
      dsimp only
      refine Keeps.mkUpd ?_ (by with_reducible rfl) (by with_reducible rfl) (by with_reducible rfl) (by with_reducible rfl)
      exact Keeps.refl _

theorem State.gongRejected_keeps {a0 : _} {a1 : _} {a2 : _} : Keeps a0 (@State.gongRejected a0 a1 a2) := by
  unfold State.gongRejected
  refine Keeps.trans ?_ State.raise_keeps
  exact Keeps.refl _

theorem State.gongReceive_keeps {a0 : _} {a1 : _} : Keeps a0 (@State.gongReceive a0 a1) := by
  unfold State.gongReceive
  refine Keeps.ite ?_ ?_
  · exact Keeps.refl _
  · refine Keeps.ite ?_ ?_
    · refine Keeps.trans ?_ State.gongRejected_keeps
      exact Keeps.refl _
    · refine Keeps.ite ?_ ?_
      · exact Keeps.refl _
      · refine Keeps.ite ?_ ?_
        · refine Keeps.trans ?_ State.gongRejected_keeps
          exact Keeps.refl _
        · refine Keeps.ite ?_ ?_
          · refine Keeps.trans ?_ State.gongRejected_keeps
            exact Keeps.refl _
          · dsimp only
            refine Keeps.trans ?_ State.raise_keeps
            refine Keeps.trans ?_ (Keeps.put (by decide))
            refine Keeps.mkUpd ?_ (by with_reducible rfl) (by with_reducible rfl) (by with_reducible rfl) (by with_reducible rfl)
            exact Keeps.refl _

theorem execGongDatagramReceive_keeps {a0 : _} {a1 : _} {t : State} (h : (@execGongDatagramReceive a0 a1) = .next t) : Keeps a1 t := by
  unfold execGongDatagramReceive at h
  injection h with h
  subst h
  refine Keeps.trans ?_ State.gongReceive_keeps
  exact Keeps.refl _

/-! Events. -/

theorem State.toRecorder_keeps {a0 : _} {a1 : _} : Keeps a0 (@State.toRecorder a0 a1) := by
  unfold State.toRecorder
  refine Keeps.foldl ?_ (fun v0 v1 => ?_)
  · exact Keeps.refl _
  · refine Keeps.ite ?_ ?_
    · refine Keeps.ite ?_ ?_
      · refine Keeps.trans ?_ (Keeps.put (by decide))
        refine Keeps.mkUpd ?_ (by with_reducible rfl) (by with_reducible rfl) (by with_reducible rfl) (by with_reducible rfl)
        exact Keeps.refl _
      · refine Keeps.trans ?_ (Keeps.inc (by decide))
        refine Keeps.mkUpd ?_ (by with_reducible rfl) (by with_reducible rfl) (by with_reducible rfl) (by with_reducible rfl)
        exact Keeps.refl _
    · refine Keeps.ite ?_ ?_
      · refine Keeps.mkUpd ?_ (by with_reducible rfl) (by with_reducible rfl) (by with_reducible rfl) (by with_reducible rfl)
        exact Keeps.refl _
      · refine Keeps.trans ?_ (Keeps.inc (by decide))
        exact Keeps.refl _

theorem State.showLeds_keeps {a0 : _} : Keeps a0 (@State.showLeds a0) := by
  unfold State.showLeds
  dsimp only
  refine Keeps.trans ?_ (Keeps.put (by decide))
  exact Keeps.refl _

theorem State.deliver_keeps {a0 : _} : Keeps a0 (@State.deliver a0) := by
  unfold State.deliver
  split
  · rename_i v0 v1 v2 v3
    split
    · rename_i v4
      exact Keeps.refl _
    · rename_i v5 v6 v7
      dsimp only
      refine Keeps.ite ?_ ?_
      · refine Keeps.trans ?_ State.toRecorder_keeps
        refine Keeps.ite ?_ ?_
        · refine Keeps.trans ?_ (Keeps.put (by decide))
          refine Keeps.ite ?_ ?_
          · refine Keeps.trans ?_ State.showLeds_keeps
            refine Keeps.mkUpd ?_ (by with_reducible rfl) (by with_reducible rfl) (by with_reducible rfl) (by with_reducible rfl)
            exact Keeps.refl _
          · refine Keeps.mkUpd ?_ (by with_reducible rfl) (by with_reducible rfl) (by with_reducible rfl) (by with_reducible rfl)
            exact Keeps.refl _
        · refine Keeps.ite ?_ ?_
          · refine Keeps.trans ?_ State.showLeds_keeps
            refine Keeps.mkUpd ?_ (by with_reducible rfl) (by with_reducible rfl) (by with_reducible rfl) (by with_reducible rfl)
            exact Keeps.refl _
          · refine Keeps.mkUpd ?_ (by with_reducible rfl) (by with_reducible rfl) (by with_reducible rfl) (by with_reducible rfl)
            exact Keeps.refl _
      · refine Keeps.ite ?_ ?_
        · refine Keeps.trans ?_ (Keeps.put (by decide))
          refine Keeps.ite ?_ ?_
          · refine Keeps.trans ?_ State.showLeds_keeps
            refine Keeps.mkUpd ?_ (by with_reducible rfl) (by with_reducible rfl) (by with_reducible rfl) (by with_reducible rfl)
            exact Keeps.refl _
          · refine Keeps.mkUpd ?_ (by with_reducible rfl) (by with_reducible rfl) (by with_reducible rfl) (by with_reducible rfl)
            exact Keeps.refl _
        · refine Keeps.ite ?_ ?_
          · refine Keeps.trans ?_ State.showLeds_keeps
            refine Keeps.mkUpd ?_ (by with_reducible rfl) (by with_reducible rfl) (by with_reducible rfl) (by with_reducible rfl)
            exact Keeps.refl _
          · refine Keeps.mkUpd ?_ (by with_reducible rfl) (by with_reducible rfl) (by with_reducible rfl) (by with_reducible rfl)
            exact Keeps.refl _

theorem execEventDeliver_keeps {a0 : _} {t : State} (h : (@execEventDeliver a0) = .next t) : Keeps a0 t := by
  unfold execEventDeliver at h
  injection h with h
  subst h
  refine Keeps.trans ?_ State.deliver_keeps
  exact Keeps.refl _

theorem State.journalToll_keeps {a0 : _} : Keeps a0 (@State.journalToll a0) := by
  unfold State.journalToll
  refine Keeps.trans ?_ State.journal_keeps
  exact Keeps.refl _

theorem State.tollStep_keeps {a0 : _} {a1 : _} {a2 : _} : Keeps a0 (@State.tollStep a0 a1 a2) := by
  unfold State.tollStep
  dsimp only
  refine Keeps.ite ?_ ?_
  · refine Keeps.trans ?_ State.cause_keeps
    refine Keeps.trans ?_ State.raiseLatched_keeps
    refine Keeps.trans ?_ State.journal_keeps
    refine Keeps.trans ?_ State.journalToll_keeps
    refine Keeps.mkUpd ?_ (by with_reducible rfl) (by with_reducible rfl) (by with_reducible rfl) (by with_reducible rfl)
    refine Keeps.trans ?_ State.latchCounts_keeps
    refine Keeps.trans ?_ (Keeps.put (by decide))
    refine Keeps.mkUpd ?_ (by with_reducible rfl) (by with_reducible rfl) (by with_reducible rfl) (by with_reducible rfl)
    refine Keeps.trans ?_ State.rejectNext_keeps
    exact Keeps.refl _
  · refine Keeps.ite ?_ ?_
    · refine Keeps.trans ?_ State.cause_keeps
      refine Keeps.trans ?_ State.raiseLatched_keeps
      refine Keeps.trans ?_ State.journal_keeps
      refine Keeps.trans ?_ State.journalToll_keeps
      refine Keeps.mkUpd ?_ (by with_reducible rfl) (by with_reducible rfl) (by with_reducible rfl) (by with_reducible rfl)
      refine Keeps.trans ?_ State.latchCounts_keeps
      refine Keeps.trans ?_ (Keeps.put (by decide))
      refine Keeps.mkUpd ?_ (by with_reducible rfl) (by with_reducible rfl) (by with_reducible rfl) (by with_reducible rfl)
      refine Keeps.trans ?_ State.rejectNext_keeps
      exact Keeps.refl _
    · refine Keeps.mkUpd ?_ (by with_reducible rfl) (by with_reducible rfl) (by with_reducible rfl) (by with_reducible rfl)
      refine Keeps.trans ?_ State.raiseLatched_keeps
      refine Keeps.trans ?_ State.journal_keeps
      refine Keeps.trans ?_ State.journalToll_keeps
      refine Keeps.mkUpd ?_ (by with_reducible rfl) (by with_reducible rfl) (by with_reducible rfl) (by with_reducible rfl)
      refine Keeps.trans ?_ State.latchCounts_keeps
      refine Keeps.trans ?_ (Keeps.put (by decide))
      refine Keeps.mkUpd ?_ (by with_reducible rfl) (by with_reducible rfl) (by with_reducible rfl) (by with_reducible rfl)
      refine Keeps.trans ?_ State.rejectNext_keeps
      exact Keeps.refl _

theorem State.eraseStarts_keeps {a0 : _} : Keeps a0 (@State.eraseStarts a0) := by
  unfold State.eraseStarts
  refine Keeps.ite ?_ ?_
  · exact Keeps.refl _
  · dsimp only
    refine Keeps.ite ?_ ?_
    · refine Keeps.trans ?_ (Keeps.put (by decide))
      refine Keeps.mkUpd ?_ (by with_reducible rfl) (by with_reducible rfl) (by with_reducible rfl) (by with_reducible rfl)
      exact Keeps.refl _
    · refine Keeps.mkUpd ?_ (by with_reducible rfl) (by with_reducible rfl) (by with_reducible rfl) (by with_reducible rfl)
      exact Keeps.refl _

theorem State.eraseWanted_keeps {a0 : _} : Keeps a0 (@State.eraseWanted a0) := by
  unfold State.eraseWanted
  refine Keeps.trans ?_ State.eraseStarts_keeps
  refine Keeps.mkUpd ?_ (by with_reducible rfl) (by with_reducible rfl) (by with_reducible rfl) (by with_reducible rfl)
  exact Keeps.refl _

theorem State.eraseEnds_keeps {a0 : _} {a1 : _} : Keeps a0 (@State.eraseEnds a0 a1) := by
  unfold State.eraseEnds
  dsimp only
  refine Keeps.ite ?_ ?_
  · refine Keeps.trans ?_ (Keeps.put (by decide))
    refine Keeps.trans ?_ (Keeps.put (by decide))
    refine Keeps.mkUpd ?_ (by with_reducible rfl) (by with_reducible rfl) (by with_reducible rfl) (by with_reducible rfl)
    exact Keeps.refl _
  · refine Keeps.mkUpd ?_ (by with_reducible rfl) (by with_reducible rfl) (by with_reducible rfl) (by with_reducible rfl)
    exact Keeps.refl _

theorem State.openWindow_keeps {a0 : _} : Keeps a0 (@State.openWindow a0) := by
  unfold State.openWindow
  dsimp only
  refine Keeps.trans ?_ State.eraseStarts_keeps
  refine Keeps.mkUpd ?_ (by with_reducible rfl) (by with_reducible rfl) (by with_reducible rfl) (by with_reducible rfl)
  iterate 5 refine Keeps.trans ?_ (Keeps.put (by decide))
  exact Keeps.refl _

theorem State.expire_keeps {a0 : _} {a1 : _} : Keeps a0 (@State.expire a0 a1) := by
  unfold State.expire
  dsimp only
  refine Keeps.ite ?_ ?_
  · refine Keeps.trans ?_ State.latchCounts_keeps
    refine Keeps.trans ?_ (Keeps.put (by decide))
    refine Keeps.mkUpd ?_ (by with_reducible rfl) (by with_reducible rfl) (by with_reducible rfl) (by with_reducible rfl)
    refine Keeps.trans ?_ (Keeps.put (by decide))
    refine Keeps.trans ?_ (Keeps.inc (by decide))
    refine Keeps.trans ?_ (Keeps.put (by decide))
    refine Keeps.trans ?_ (Keeps.put (by decide))
    exact Keeps.refl _
  · refine Keeps.ite ?_ ?_
    · refine Keeps.trans ?_ State.openWindow_keeps
      refine Keeps.trans ?_ State.tollStep_keeps
      refine Keeps.trans ?_ (Keeps.put (by decide))
      refine Keeps.trans ?_ (Keeps.inc (by decide))
      refine Keeps.trans ?_ (Keeps.put (by decide))
      refine Keeps.trans ?_ (Keeps.put (by decide))
      exact Keeps.refl _
    · refine Keeps.mkUpd ?_ (by with_reducible rfl) (by with_reducible rfl) (by with_reducible rfl) (by with_reducible rfl)
      refine Keeps.trans ?_ State.tollStep_keeps
      refine Keeps.trans ?_ (Keeps.put (by decide))
      refine Keeps.trans ?_ (Keeps.inc (by decide))
      refine Keeps.trans ?_ (Keeps.put (by decide))
      refine Keeps.trans ?_ (Keeps.put (by decide))
      exact Keeps.refl _

theorem State.wdLands_keeps {a0 : _} {a1 : _} {a2 : _} : Keeps a0 (@State.wdLands a0 a1 a2) := by
  unfold State.wdLands
  refine Keeps.ite ?_ ?_
  · exact Keeps.refl _
  · dsimp only
    refine Keeps.ite ?_ ?_
    · refine Keeps.trans ?_ State.expire_keeps
      refine Keeps.trans ?_ State.raiseLatched_keeps
      refine Keeps.trans ?_ (Keeps.put (by decide))
      exact Keeps.refl _
    · refine Keeps.ite ?_ ?_
      · refine Keeps.trans ?_ State.expire_keeps
        refine Keeps.trans ?_ State.raiseLatched_keeps
        refine Keeps.trans ?_ (Keeps.put (by decide))
        exact Keeps.refl _
      · refine Keeps.trans ?_ State.openWindow_keeps
        refine Keeps.trans ?_ (Keeps.put (by decide))
        exact Keeps.refl _

theorem execWdService_keeps {a0 : _} {a1 : _} {a2 : _} {t : State} (h : (@execWdService a0 a1 a2) = .next t) : Keeps a2 t := by
  unfold execWdService at h
  injection h with h
  subst h
  split
  · rename_i v0 v1 v2
    refine Keeps.trans ?_ State.wdLands_keeps
    exact Keeps.refl _
  · rename_i v3 v4
    exact Keeps.refl _

theorem execWdExpired_keeps {a0 : _} {t : State} (h : (@execWdExpired a0) = .next t) : Keeps a0 t := by
  unfold execWdExpired at h
  injection h with h
  subst h
  refine Keeps.ite ?_ ?_
  · exact Keeps.refl _
  · dsimp only
    refine Keeps.trans ?_ State.expire_keeps
    refine Keeps.trans ?_ State.raiseLatched_keeps
    refine Keeps.trans ?_ (Keeps.put (by decide))
    exact Keeps.refl _

theorem execWdAckTimeout_keeps {a0 : _} {t : State} (h : (@execWdAckTimeout a0) = .next t) : Keeps a0 t := by
  unfold execWdAckTimeout at h
  injection h with h
  subst h
  refine Keeps.ite ?_ ?_
  · exact Keeps.refl _
  · dsimp only
    refine Keeps.trans ?_ State.cause_keeps
    refine Keeps.trans ?_ State.latch_keeps
    refine Keeps.mkUpd ?_ (by with_reducible rfl) (by with_reducible rfl) (by with_reducible rfl) (by with_reducible rfl)
    exact Keeps.refl _

theorem execWdClockStop_keeps {a0 : _} {t : State} (h : (@execWdClockStop a0) = .next t) : Keeps a0 t := by
  unfold execWdClockStop at h
  injection h with h
  subst h
  refine Keeps.ite ?_ ?_
  · exact Keeps.refl _
  · dsimp only
    refine Keeps.trans ?_ State.expire_keeps
    refine Keeps.trans ?_ State.raiseLatched_keeps
    refine Keeps.mkUpd ?_ (by with_reducible rfl) (by with_reducible rfl) (by with_reducible rfl) (by with_reducible rfl)
    refine Keeps.trans ?_ (Keeps.put (by decide))
    refine Keeps.trans ?_ (Keeps.put (by decide))
    exact Keeps.refl _

theorem State.healthFails_keeps {a0 : _} {a1 : _} : Keeps a0 (@State.healthFails a0 a1) := by
  unfold State.healthFails
  refine Keeps.ite ?_ ?_
  · exact Keeps.refl _
  · refine Keeps.trans ?_ State.raise_keeps
    refine Keeps.trans ?_ (Keeps.inc (by decide))
    refine Keeps.trans ?_ (Keeps.put (by decide))
    exact Keeps.refl _

theorem execWdEraseGuard_keeps {a0 : _} {a1 : _} {t : State} (h : (@execWdEraseGuard a0 a1) = .next t) : Keeps a1 t := by
  unfold execWdEraseGuard at h
  injection h with h
  subst h
  refine Keeps.ite ?_ ?_
  · exact Keeps.refl _
  · refine Keeps.trans ?_ State.raiseLatched_keeps
    iterate 3 refine Keeps.trans ?_ (Keeps.put (by decide))
    exact Keeps.refl _

theorem execTollAge_keeps {a0 : _} {t : State} (h : (@execTollAge a0) = .next t) : Keeps a0 t := by
  unfold execTollAge at h
  injection h with h
  subst h
  refine Keeps.trans ?_ (Keeps.put (by decide))
  refine Keeps.mkUpd ?_ (by with_reducible rfl) (by with_reducible rfl) (by with_reducible rfl) (by with_reducible rfl)
  exact Keeps.refl _

theorem State.showFaults_keeps {a0 : _} : Keeps a0 (@State.showFaults a0) := by
  unfold State.showFaults
  dsimp only
  refine Keeps.trans ?_ (Keeps.peak (by decide))
  iterate 4 refine Keeps.trans ?_ (Keeps.put (by decide))
  exact Keeps.refl _

theorem State.putCtx_keeps {a0 : _} {a1 : _} {a2 : _} : Keeps a0 (@State.putCtx a0 a1 a2) := by
  unfold State.putCtx
  refine Keeps.mkUpd ?_ (by with_reducible rfl) (by with_reducible rfl) (by with_reducible rfl) (by with_reducible rfl)
  exact Keeps.refl _

theorem State.faultArrives_keeps {a0 : _} {a1 : _} : Keeps a0 (@State.faultArrives a0 a1) := by
  unfold State.faultArrives
  dsimp only
  split
  · rename_i v0 v1
    refine Keeps.trans ?_ State.showFaults_keeps
    refine Keeps.trans ?_ State.putCtx_keeps
    exact Keeps.refl _
  · rename_i v2 v3 v4
    refine Keeps.ite ?_ ?_
    · refine Keeps.trans ?_ State.tollStep_keeps
      refine Keeps.trans ?_ State.raiseLatched_keeps
      exact Keeps.refl _
    · refine Keeps.ite ?_ ?_
      · refine Keeps.trans ?_ State.showFaults_keeps
        refine Keeps.trans ?_ (Keeps.inc (by decide))
        refine Keeps.trans ?_ State.putCtx_keeps
        exact Keeps.refl _
      · refine Keeps.ite ?_ ?_
        · refine Keeps.trans ?_ State.tollStep_keeps
          refine Keeps.trans ?_ State.raiseLatched_keeps
          exact Keeps.refl _
        · refine Keeps.trans ?_ State.showFaults_keeps
          refine Keeps.trans ?_ State.putCtx_keeps
          exact Keeps.refl _

theorem execFaultArrival_keeps {a0 : _} {t : State} (h : (@execFaultArrival a0) = .next t) : Keeps a0 t := by
  unfold execFaultArrival at h
  injection h with h
  subst h
  split
  · rename_i v0 v1
    exact Keeps.refl _
  · rename_i v2 v3 v4 v5
    refine Keeps.trans ?_ State.faultArrives_keeps
    refine Keeps.mkUpd ?_ (by with_reducible rfl) (by with_reducible rfl) (by with_reducible rfl) (by with_reducible rfl)
    exact Keeps.refl _

theorem execFaultHandlerEnd_keeps {a0 : _} {a1 : _} {a2 : _} {t : State} (h : (@execFaultHandlerEnd a0 a1 a2) = .next t) : Keeps a2 t := by
  unfold execFaultHandlerEnd at h
  injection h with h
  subst h
  split
  · rename_i v0 v1
    exact Keeps.refl _
  · rename_i v2 v3 v4
    dsimp only
    refine Keeps.ite ?_ ?_
    · refine Keeps.mkUpd ?_ (by with_reducible rfl) (by with_reducible rfl) (by with_reducible rfl) (by with_reducible rfl)
      refine Keeps.trans ?_ State.showFaults_keeps
      refine Keeps.trans ?_ State.putCtx_keeps
      exact Keeps.refl _
    · refine Keeps.trans ?_ State.showFaults_keeps
      refine Keeps.trans ?_ State.putCtx_keeps
      exact Keeps.refl _

theorem State.safeRecord_keeps {a0 : _} {a1 : _} : Keeps a0 (@State.safeRecord a0 a1) := by
  unfold State.safeRecord
  refine Keeps.trans ?_ State.journal_keeps
  refine Keeps.trans ?_ State.latch_keeps
  refine Keeps.mkUpd ?_ (by with_reducible rfl) (by with_reducible rfl) (by with_reducible rfl) (by with_reducible rfl)
  exact Keeps.refl _

theorem execFatalHandler_keeps {a0 : _} {t : State} (h : (@execFatalHandler a0) = .next t) : Keeps a0 t := by
  unfold execFatalHandler at h
  injection h with h
  subst h
  split
  · rename_i v0 v1
    exact Keeps.refl _
  · rename_i v2 v3 v4
    dsimp only
    refine Keeps.ite ?_ ?_
    · refine Keeps.trans ?_ State.cause_keeps
      refine Keeps.trans ?_ (Keeps.release (by simp))
      refine Keeps.trans ?_ (Keeps.release (by simp))
      refine Keeps.trans ?_ State.rejectNext_keeps
      exact Keeps.refl _
    · refine Keeps.trans ?_ State.cause_keeps
      refine Keeps.trans ?_ (Keeps.release (by simp))
      refine Keeps.trans ?_ (Keeps.release (by simp))
      refine Keeps.trans ?_ State.safeRecord_keeps
      refine Keeps.trans ?_ State.rejectNext_keeps
      exact Keeps.refl _

theorem State.recorderAppend_keeps {a0 : _} : Keeps a0 (@State.recorderAppend a0) := by
  unfold State.recorderAppend
  split
  · rename_i v0 v1
    exact Keeps.refl _
  · rename_i v2 v3 v4 v5
    refine Keeps.ite ?_ ?_
    · exact Keeps.refl _
    · dsimp only
      refine Keeps.ite ?_ ?_
      · refine Keeps.trans ?_ (Keeps.inc (by decide))
        refine Keeps.ite ?_ ?_
        · refine Keeps.mkUpd ?_ (by with_reducible rfl) (by with_reducible rfl) (by with_reducible rfl) (by with_reducible rfl)
          exact Keeps.refl _
        · refine Keeps.mkUpd ?_ (by with_reducible rfl) (by with_reducible rfl) (by with_reducible rfl) (by with_reducible rfl)
          exact Keeps.refl _
      · refine Keeps.ite ?_ ?_
        · refine Keeps.trans ?_ (Keeps.put (by decide))
          refine Keeps.mkUpd ?_ (by with_reducible rfl) (by with_reducible rfl) (by with_reducible rfl) (by with_reducible rfl)
          refine Keeps.ite ?_ ?_
          · refine Keeps.mkUpd ?_ (by with_reducible rfl) (by with_reducible rfl) (by with_reducible rfl) (by with_reducible rfl)
            exact Keeps.refl _
          · refine Keeps.mkUpd ?_ (by with_reducible rfl) (by with_reducible rfl) (by with_reducible rfl) (by with_reducible rfl)
            exact Keeps.refl _
        · refine Keeps.ite ?_ ?_
          · refine Keeps.trans ?_ (Keeps.put (by decide))
            refine Keeps.trans ?_ (Keeps.put (by decide))
            refine Keeps.mkUpd ?_ (by with_reducible rfl) (by with_reducible rfl) (by with_reducible rfl) (by with_reducible rfl)
            refine Keeps.ite ?_ ?_
            · refine Keeps.mkUpd ?_ (by with_reducible rfl) (by with_reducible rfl) (by with_reducible rfl) (by with_reducible rfl)
              exact Keeps.refl _
            · refine Keeps.mkUpd ?_ (by with_reducible rfl) (by with_reducible rfl) (by with_reducible rfl) (by with_reducible rfl)
              exact Keeps.refl _
          · refine Keeps.trans ?_ State.raise_keeps
            refine Keeps.mkUpd ?_ (by with_reducible rfl) (by with_reducible rfl) (by with_reducible rfl) (by with_reducible rfl)
            refine Keeps.trans ?_ (Keeps.put (by decide))
            refine Keeps.trans ?_ (Keeps.put (by decide))
            refine Keeps.mkUpd ?_ (by with_reducible rfl) (by with_reducible rfl) (by with_reducible rfl) (by with_reducible rfl)
            refine Keeps.ite ?_ ?_
            · refine Keeps.mkUpd ?_ (by with_reducible rfl) (by with_reducible rfl) (by with_reducible rfl) (by with_reducible rfl)
              exact Keeps.refl _
            · refine Keeps.mkUpd ?_ (by with_reducible rfl) (by with_reducible rfl) (by with_reducible rfl) (by with_reducible rfl)
              exact Keeps.refl _

theorem execRecorderAppend_keeps {a0 : _} {t : State} (h : (@execRecorderAppend a0) = .next t) : Keeps a0 t := by
  unfold execRecorderAppend at h
  injection h with h
  subst h
  refine Keeps.trans ?_ State.recorderAppend_keeps
  exact Keeps.refl _

theorem execRecorderFreeze_keeps {a0 : _} {a1 : _} {t : State} (h : (@execRecorderFreeze a0 a1) = .next t) : Keeps a1 t := by
  unfold execRecorderFreeze at h
  injection h with h
  subst h
  refine Keeps.trans ?_ (served_keeps ?_)
  · exact Keeps.refl _
  · intro v0 v1
    dsimp only
    refine Keeps.trans ?_ (Keeps.put (by decide))
    refine Keeps.trans ?_ (Keeps.put (by decide))
    exact Keeps.refl _

theorem execRecorderRead_keeps {a0 : _} {a1 : _} {t : State} (h : (@execRecorderRead a0 a1) = .next t) : Keeps a1 t := by
  unfold execRecorderRead at h
  injection h with h
  subst h
  refine Keeps.trans ?_ (served_keeps ?_)
  · exact Keeps.refl _
  · intro v0 v1
    split
    · rename_i v2 v3 v4 v5
      dsimp only
      exact Keeps.refl _

theorem recorderThawBody_keeps {a0 : _} {a1 : _} : Keeps a1 (@recorderThawBody a0 a1).st := by
  unfold recorderThawBody
  dsimp only
  refine Keeps.trans ?_ State.thaw_keeps
  exact Keeps.refl _

theorem execRecorderThaw_keeps {a0 : _} {a1 : _} {t : State} (h : (@execRecorderThaw a0 a1) = .next t) : Keeps a1 t := by
  unfold execRecorderThaw at h
  injection h with h
  subst h
  refine Keeps.trans ?_ (served_keeps ?_)
  · exact Keeps.refl _
  · intro v0 v1
    refine Keeps.trans ?_ recorderThawBody_keeps
    exact Keeps.refl _

theorem recorderClearBody_keeps {a0 : _} {a1 : _} {a2 : _} : Keeps a2 (@recorderClearBody a0 a1 a2).st := by
  unfold recorderClearBody
  dsimp only
  refine Keeps.mkUpd ?_ (by with_reducible rfl) (by with_reducible rfl) (by with_reducible rfl) (by with_reducible rfl)
  refine Keeps.trans ?_ (Keeps.put (by decide))
  refine Keeps.mkUpd ?_ (by with_reducible rfl) (by with_reducible rfl) (by with_reducible rfl) (by with_reducible rfl)
  refine Keeps.trans ?_ (Keeps.inc (by decide))
  refine Keeps.trans ?_ (Keeps.inc (by decide))
  iterate 3 refine Keeps.trans ?_ (Keeps.put (by decide))
  refine Keeps.mkUpd ?_ (by with_reducible rfl) (by with_reducible rfl) (by with_reducible rfl) (by with_reducible rfl)
  refine Keeps.trans ?_ State.auditBy_keeps
  exact Keeps.refl _

theorem execRecorderClear_keeps {a0 : _} {a1 : _} {t : State} (h : (@execRecorderClear a0 a1) = .next t) : Keeps a1 t := by
  unfold execRecorderClear at h
  injection h with h
  subst h
  refine Keeps.trans ?_ (served_keeps ?_)
  · exact Keeps.refl _
  · intro v0 v1
    refine Keeps.trans ?_ recorderClearBody_keeps
    exact Keeps.refl _

theorem execEventSubscribe_keeps {a0 : _} {a1 : _} {t : State} (h : (@execEventSubscribe a0 a1) = .next t) : Keeps a1 t := by
  unfold execEventSubscribe at h
  injection h with h
  subst h
  refine Keeps.trans ?_ (served_keeps ?_)
  · exact Keeps.refl _
  · intro v0 v1
    dsimp only
    refine Keeps.trans ?_ State.onSession_keeps
    exact Keeps.refl _

theorem eventReadBody_keeps {a0 : _} {a1 : _} {a2 : _} : Keeps a2 (@eventReadBody a0 a1 a2).st := by
  unfold eventReadBody
  dsimp only
  exact Keeps.refl _

theorem execEventRead_keeps {a0 : _} {a1 : _} {t : State} (h : (@execEventRead a0 a1) = .next t) : Keeps a1 t := by
  unfold execEventRead at h
  injection h with h
  subst h
  refine Keeps.trans ?_ (served_keeps ?_)
  · exact Keeps.refl _
  · intro v0 v1
    refine Keeps.trans ?_ eventReadBody_keeps
    exact Keeps.refl _

theorem State.eventPackets_keeps {a0 : _} : Keeps a0 (@State.eventPackets a0) := by
  unfold State.eventPackets
  dsimp only
  refine Keeps.mkUpd ?_ (by with_reducible rfl) (by with_reducible rfl) (by with_reducible rfl) (by with_reducible rfl)
  exact Keeps.refl _

/-! Journal. -/

theorem State.rollStart_keeps {a0 : _} {a1 : _} : Keeps a0 (@State.rollStart a0 a1) := by
  unfold State.rollStart
  dsimp only
  refine Keeps.trans ?_ State.raise_keeps
  refine Keeps.trans ?_ (Keeps.put (by decide))
  refine Keeps.mkUpd ?_ (by with_reducible rfl) (by with_reducible rfl) (by with_reducible rfl) (by with_reducible rfl)
  exact Keeps.refl _

theorem State.commitRecord_keeps {a0 : _} : Keeps a0 (@State.commitRecord a0) := by
  unfold State.commitRecord
  split
  · rename_i v0 v1
    exact Keeps.refl _
  · rename_i v2 v3 v4 v5
    refine Keeps.ite ?_ ?_
    · exact Keeps.refl _
    · dsimp only
      refine Keeps.trans ?_ State.releaseHeld_keeps
      refine Keeps.ite ?_ ?_
      · refine Keeps.trans ?_ State.rollStart_keeps
        iterate 3 refine Keeps.trans ?_ (Keeps.put (by decide))
        refine Keeps.mkUpd ?_ (by with_reducible rfl) (by with_reducible rfl) (by with_reducible rfl) (by with_reducible rfl)
        exact Keeps.refl _
      · refine Keeps.trans ?_ (Keeps.put (by decide))
        refine Keeps.trans ?_ (Keeps.put (by decide))
        refine Keeps.trans ?_ (Keeps.put (by decide))
        refine Keeps.mkUpd ?_ (by with_reducible rfl) (by with_reducible rfl) (by with_reducible rfl) (by with_reducible rfl)
        exact Keeps.refl _

theorem execJournalRecordCommit_keeps {a0 : _} {t : State} (h : (@execJournalRecordCommit a0) = .next t) : Keeps a0 t := by
  unfold execJournalRecordCommit at h
  injection h with h
  subst h
  refine Keeps.trans ?_ State.commitRecord_keeps
  exact Keeps.refl _

theorem State.rollCopy_keeps {a0 : _} : Keeps a0 (@State.rollCopy a0) := by
  unfold State.rollCopy
  refine Keeps.ite ?_ ?_
  · exact Keeps.refl _
  · split
    · rename_i v0 v1 v2 v3
      dsimp only
      refine Keeps.ite ?_ ?_
      · refine Keeps.trans ?_ (Keeps.put (by decide))
        refine Keeps.mkUpd ?_ (by with_reducible rfl) (by with_reducible rfl) (by with_reducible rfl) (by with_reducible rfl)
        exact Keeps.refl _
      · refine Keeps.mkUpd ?_ (by with_reducible rfl) (by with_reducible rfl) (by with_reducible rfl) (by with_reducible rfl)
        exact Keeps.refl _

theorem execRollCopy_keeps {a0 : _} {t : State} (h : (@execRollCopy a0) = .next t) : Keeps a0 t := by
  unfold execRollCopy at h
  injection h with h
  subst h
  refine Keeps.trans ?_ State.rollCopy_keeps
  exact Keeps.refl _

theorem State.swapHalves_keeps {a0 : _} : Keeps a0 (@State.swapHalves a0) := by
  unfold State.swapHalves
  dsimp only
  iterate 3 refine Keeps.trans ?_ (Keeps.put (by decide))
  refine Keeps.mkUpd ?_ (by with_reducible rfl) (by with_reducible rfl) (by with_reducible rfl) (by with_reducible rfl)
  exact Keeps.refl _

theorem State.rollSwitch_keeps {a0 : _} : Keeps a0 (@State.rollSwitch a0) := by
  unfold State.rollSwitch
  dsimp only
  refine Keeps.trans ?_ (Keeps.inc (by decide))
  refine Keeps.trans ?_ (Keeps.put (by decide))
  refine Keeps.trans ?_ (Keeps.put (by decide))
  refine Keeps.trans ?_ State.swapHalves_keeps
  refine Keeps.ite ?_ ?_
  · refine Keeps.mkUpd ?_ (by with_reducible rfl) (by with_reducible rfl) (by with_reducible rfl) (by with_reducible rfl)
    exact Keeps.refl _
  · refine Keeps.mkUpd ?_ (by with_reducible rfl) (by with_reducible rfl) (by with_reducible rfl) (by with_reducible rfl)
    exact Keeps.refl _

theorem State.rollDone_keeps {a0 : _} : Keeps a0 (@State.rollDone a0) := by
  unfold State.rollDone
  refine Keeps.ite ?_ ?_
  · exact Keeps.refl _
  · dsimp only
    refine Keeps.ite ?_ ?_
    · refine Keeps.trans ?_ State.raise_keeps
      refine Keeps.mkUpd ?_ (by with_reducible rfl) (by with_reducible rfl) (by with_reducible rfl) (by with_reducible rfl)
      refine Keeps.trans ?_ State.raise_keeps
      refine Keeps.trans ?_ State.rollSwitch_keeps
      exact Keeps.refl _
    · refine Keeps.mkUpd ?_ (by with_reducible rfl) (by with_reducible rfl) (by with_reducible rfl) (by with_reducible rfl)
      refine Keeps.trans ?_ State.raise_keeps
      refine Keeps.trans ?_ State.rollSwitch_keeps
      exact Keeps.refl _

theorem execRollDone_keeps {a0 : _} {t : State} (h : (@execRollDone a0) = .next t) : Keeps a0 t := by
  unfold execRollDone at h
  injection h with h
  subst h
  refine Keeps.trans ?_ State.rollDone_keeps
  exact Keeps.refl _

theorem State.rollAbandon_keeps {a0 : _} : Keeps a0 (@State.rollAbandon a0) := by
  unfold State.rollAbandon
  refine Keeps.ite ?_ ?_
  · refine Keeps.trans ?_ (Keeps.put (by decide))
    refine Keeps.mkUpd ?_ (by with_reducible rfl) (by with_reducible rfl) (by with_reducible rfl) (by with_reducible rfl)
    exact Keeps.refl _
  · exact Keeps.refl _

theorem execJournalStatus_keeps {a0 : _} {a1 : _} {t : State} (h : (@execJournalStatus a0 a1) = .next t) : Keeps a1 t := by
  unfold execJournalStatus at h
  injection h with h
  subst h
  refine Keeps.trans ?_ (served_keeps ?_)
  · exact Keeps.refl _
  · intro v0 v1
    dsimp only
    exact Keeps.refl _

theorem execRollNow_keeps {a0 : _} {a1 : _} {t : State} (h : (@execRollNow a0 a1) = .next t) : Keeps a1 t := by
  unfold execRollNow at h
  injection h with h
  subst h
  refine Keeps.trans ?_ (served_keeps ?_)
  · exact Keeps.refl _
  · intro v0 v1
    dsimp only
    refine Keeps.trans ?_ State.rollStart_keeps
    exact Keeps.refl _

/-! Can. -/

theorem State.putCanObj_keeps {a0 : _} {a1 : _} : Keeps a0 (@State.putCanObj a0 a1) := by
  unfold State.putCanObj
  refine Keeps.mkUpd ?_ (by with_reducible rfl) (by with_reducible rfl) (by with_reducible rfl) (by with_reducible rfl)
  exact Keeps.refl _

theorem State.putCanCtl_keeps {a0 : _} {a1 : _} : Keeps a0 (@State.putCanCtl a0 a1) := by
  unfold State.putCanCtl
  refine Keeps.mkUpd ?_ (by with_reducible rfl) (by with_reducible rfl) (by with_reducible rfl) (by with_reducible rfl)
  exact Keeps.refl _

theorem State.canDropObj_keeps {a0 : _} {a1 : _} {a2 : _} : Keeps a0 (@State.canDropObj a0 a1 a2) := by
  unfold State.canDropObj
  refine Keeps.ite ?_ ?_
  · dsimp only
    refine Keeps.ite ?_ ?_
    · refine Keeps.trans ?_ (Keeps.put (by decide))
      refine Keeps.trans ?_ State.putCanObj_keeps
      refine Keeps.trans ?_ (Keeps.put (by decide))
      exact Keeps.refl _
    · refine Keeps.trans ?_ State.putCanObj_keeps
      refine Keeps.trans ?_ (Keeps.put (by decide))
      exact Keeps.refl _
  · exact Keeps.refl _

theorem State.canDropCtl_keeps {a0 : _} {a1 : _} {a2 : _} : Keeps a0 (@State.canDropCtl a0 a1 a2) := by
  unfold State.canDropCtl
  refine Keeps.foldl ?_ (fun v0 v1 => ?_)
  · exact Keeps.refl _
  · refine Keeps.trans ?_ State.canDropObj_keeps
    exact Keeps.refl _

theorem State.canDropAll_keeps {a0 : _} : Keeps a0 (@State.canDropAll a0) := by
  unfold State.canDropAll
  refine Keeps.foldl ?_ (fun v0 v1 => ?_)
  · exact Keeps.refl _
  · refine Keeps.trans ?_ State.canDropObj_keeps
    exact Keeps.refl _

theorem State.canShow_keeps {a0 : _} : Keeps a0 (@State.canShow a0) := by
  unfold State.canShow
  refine Keeps.foldl ?_ (fun v0 v1 => ?_)
  · exact Keeps.refl _
  · dsimp only
    refine Keeps.ite ?_ ?_
    · exact Keeps.refl _
    · refine Keeps.ite ?_ ?_
      · refine Keeps.trans ?_ (Keeps.put (by decide))
        iterate 3 refine Keeps.trans ?_ (Keeps.put (by decide))
        exact Keeps.refl _
      · refine Keeps.trans ?_ (Keeps.put (by decide))
        refine Keeps.ite ?_ ?_
        · refine Keeps.trans ?_ State.canDropCtl_keeps
          refine Keeps.trans ?_ (Keeps.put (by decide))
          exact Keeps.refl _
        · refine Keeps.trans ?_ (Keeps.put (by decide))
          exact Keeps.refl _

theorem State.canErr_keeps {a0 : _} {a1 : _} {a2 : _} {a3 : _} : Keeps a0 (@State.canErr a0 a1 a2 a3) := by
  unfold State.canErr
  dsimp only
  refine Keeps.ite ?_ ?_
  · refine Keeps.trans ?_ (Keeps.put (by decide))
    refine Keeps.trans ?_ (Keeps.put (by decide))
    exact Keeps.refl _
  · refine Keeps.trans ?_ State.raise_keeps
    refine Keeps.ite ?_ ?_
    · refine Keeps.trans ?_ State.canDropCtl_keeps
      refine Keeps.trans ?_ (Keeps.inc (by decide))
      iterate 3 refine Keeps.trans ?_ (Keeps.put (by decide))
      exact Keeps.refl _
    · refine Keeps.trans ?_ (Keeps.put (by decide))
      refine Keeps.trans ?_ (Keeps.put (by decide))
      refine Keeps.trans ?_ (Keeps.put (by decide))
      exact Keeps.refl _

theorem State.canCountErr_keeps {a0 : _} {a1 : _} {a2 : _} : Keeps a0 (@State.canCountErr a0 a1 a2) := by
  unfold State.canCountErr
  dsimp only
  refine Keeps.ite ?_ ?_
  · refine Keeps.trans ?_ State.raise_keeps
    refine Keeps.trans ?_ State.putCanCtl_keeps
    refine Keeps.trans ?_ (Keeps.inc (by decide))
    exact Keeps.refl _
  · refine Keeps.trans ?_ (Keeps.inc (by decide))
    exact Keeps.refl _

theorem State.setNoPeer_keeps {a0 : _} {a1 : _} {a2 : _} : Keeps a0 (@State.setNoPeer a0 a1 a2) := by
  unfold State.setNoPeer
  dsimp only
  refine Keeps.trans ?_ (Keeps.put (by decide))
  refine Keeps.trans ?_ (Keeps.putFlag (by decide))
  exact Keeps.refl _

theorem State.canResume_keeps {a0 : _} {a1 : _} : Keeps a0 (@State.canResume a0 a1) := by
  unfold State.canResume
  refine Keeps.ite ?_ ?_
  · refine Keeps.trans ?_ State.setNoPeer_keeps
    refine Keeps.trans ?_ State.putCanObj_keeps
    exact Keeps.refl _
  · exact Keeps.refl _

theorem State.canWake_keeps {a0 : _} {a1 : _} : Keeps a0 (@State.canWake a0 a1) := by
  unfold State.canWake
  refine Keeps.ite ?_ ?_
  · exact Keeps.refl _
  · refine Keeps.foldl ?_ (fun v0 v1 => ?_)
    · exact Keeps.refl _
    · refine Keeps.ite ?_ ?_
      · refine Keeps.trans ?_ State.putCanObj_keeps
        exact Keeps.refl _
      · exact Keeps.refl _

theorem State.canStore_keeps {a0 : _} {a1 : _} {a2 : _} {a3 : _} : Keeps a0 (@State.canStore a0 a1 a2 a3) := by
  unfold State.canStore
  dsimp only
  refine Keeps.ite ?_ ?_
  · refine Keeps.ite ?_ ?_
    · refine Keeps.trans ?_ State.raise_keeps
      refine Keeps.trans ?_ (Keeps.inc (by decide))
      refine Keeps.trans ?_ (Keeps.put (by decide))
      refine Keeps.trans ?_ State.putCanObj_keeps
      refine Keeps.trans ?_ (Keeps.inc (by decide))
      exact Keeps.refl _
    · refine Keeps.trans ?_ State.putCanObj_keeps
      refine Keeps.trans ?_ (Keeps.inc (by decide))
      exact Keeps.refl _
  · refine Keeps.trans ?_ State.putCanObj_keeps
    refine Keeps.ite ?_ ?_
    · refine Keeps.trans ?_ (Keeps.inc (by decide))
      refine Keeps.trans ?_ (Keeps.inc (by decide))
      exact Keeps.refl _
    · refine Keeps.trans ?_ (Keeps.inc (by decide))
      exact Keeps.refl _

theorem State.canFilter_keeps {a0 : _} {a1 : _} {a2 : _} : Keeps a0 (@State.canFilter a0 a1 a2) := by
  unfold State.canFilter
  split
  · rename_i v0 v1
    refine Keeps.trans ?_ (Keeps.inc (by decide))
    exact Keeps.refl _
  · rename_i v2 v3 v4
    dsimp only
    refine Keeps.ite ?_ ?_
    · exact Keeps.refl _
    · refine Keeps.trans ?_ State.canStore_keeps
      exact Keeps.refl _

theorem State.abrFrame_keeps {a0 : _} {a1 : _} {a2 : _} : Keeps a0 (@State.abrFrame a0 a1 a2) := by
  unfold State.abrFrame
  dsimp only
  refine Keeps.ite ?_ ?_
  · exact Keeps.refl _
  · refine Keeps.ite ?_ ?_
    · refine Keeps.trans ?_ State.putCanCtl_keeps
      exact Keeps.refl _
    · refine Keeps.trans ?_ State.canShow_keeps
      refine Keeps.trans ?_ State.raise_keeps
      refine Keeps.trans ?_ (Keeps.put (by decide))
      refine Keeps.trans ?_ State.putCanCtl_keeps
      exact Keeps.refl _

theorem State.canRxOk_keeps {a0 : _} {a1 : _} : Keeps a0 (@State.canRxOk a0 a1) := by
  unfold State.canRxOk
  dsimp only
  refine Keeps.ite ?_ ?_
  · exact Keeps.refl _
  · refine Keeps.ite ?_ ?_
    · refine Keeps.trans ?_ State.canErr_keeps
      exact Keeps.refl _
    · refine Keeps.trans ?_ State.canErr_keeps
      refine Keeps.trans ?_ State.fresh_keeps
      exact Keeps.refl _

theorem State.canReceive_keeps {a0 : _} {a1 : _} {a2 : _} : Keeps a0 (@State.canReceive a0 a1 a2) := by
  unfold State.canReceive
  dsimp only
  refine Keeps.ite ?_ ?_
  · exact Keeps.refl _
  · refine Keeps.ite ?_ ?_
    · refine Keeps.trans ?_ State.canCountErr_keeps
      exact Keeps.refl _
    · refine Keeps.trans ?_ State.canFilter_keeps
      refine Keeps.trans ?_ State.canWake_keeps
      refine Keeps.ite ?_ ?_
      · refine Keeps.trans ?_ State.abrFrame_keeps
        exact Keeps.refl _
      · refine Keeps.ite ?_ ?_
        · refine Keeps.trans ?_ State.canRxOk_keeps
          exact Keeps.refl _
        · exact Keeps.refl _

theorem execCanFrameReceive_keeps {a0 : _} {a1 : _} {a2 : _} {t : State} (h : (@execCanFrameReceive a0 a1 a2) = .next t) : Keeps a2 t := by
  unfold execCanFrameReceive at h
  injection h with h
  subst h
  refine Keeps.trans ?_ State.canReceive_keeps
  exact Keeps.refl _

theorem State.canCopy_keeps {a0 : _} {a1 : _} : Keeps a0 (@State.canCopy a0 a1) := by
  unfold State.canCopy
  refine Keeps.ite ?_ ?_
  · exact Keeps.refl _
  · dsimp only
    refine Keeps.trans ?_ (Keeps.put (by decide))
    refine Keeps.trans ?_ State.putCanObj_keeps
    exact Keeps.refl _

theorem State.canFreeze_keeps {a0 : _} : Keeps a0 (@State.canFreeze a0) := by
  unfold State.canFreeze
  dsimp only
  refine Keeps.mkUpd ?_ (by with_reducible rfl) (by with_reducible rfl) (by with_reducible rfl) (by with_reducible rfl)
  refine Keeps.foldl ?_ (fun v0 v1 => ?_)
  · exact Keeps.refl _
  · refine Keeps.trans ?_ State.canCopy_keeps
    exact Keeps.refl _

theorem State.canQueueObj_keeps {a0 : _} {a1 : _} : Keeps a0 (@State.canQueueObj a0 a1) := by
  unfold State.canQueueObj
  dsimp only
  refine Keeps.ite ?_ ?_
  · exact Keeps.refl _
  · refine Keeps.trans ?_ (Keeps.put (by decide))
    refine Keeps.trans ?_ State.putCanObj_keeps
    refine Keeps.ite ?_ ?_
    · refine Keeps.trans ?_ (Keeps.inc (by decide))
      exact Keeps.refl _
    · exact Keeps.refl _

theorem State.canCommit_keeps {a0 : _} : Keeps a0 (@State.canCommit a0) := by
  unfold State.canCommit
  dsimp only
  refine Keeps.ite ?_ ?_
  · refine Keeps.foldl ?_ (fun v0 v1 => ?_)
    · exact Keeps.refl _
    · refine Keeps.ite ?_ ?_
      · refine Keeps.trans ?_ State.canResume_keeps
        exact Keeps.refl _
      · exact Keeps.refl _
  · refine Keeps.mkUpd ?_ (by with_reducible rfl) (by with_reducible rfl) (by with_reducible rfl) (by with_reducible rfl)
    refine Keeps.foldl ?_ (fun v2 v3 => ?_)
    · refine Keeps.foldl ?_ (fun v4 v5 => ?_)
      · exact Keeps.refl _
      · refine Keeps.ite ?_ ?_
        · refine Keeps.trans ?_ State.canResume_keeps
          exact Keeps.refl _
        · exact Keeps.refl _
    · refine Keeps.ite ?_ ?_
      · refine Keeps.trans ?_ State.canQueueObj_keeps
        exact Keeps.refl _
      · exact Keeps.refl _

theorem execCanTxComplete_keeps {a0 : _} {a1 : _} {a2 : _} {t : State} (h : (@execCanTxComplete a0 a1 a2) = .next t) : Keeps a2 t := by
  unfold execCanTxComplete at h
  injection h with h
  subst h
  refine Keeps.ite ?_ ?_
  · exact Keeps.refl _
  · dsimp only
    refine Keeps.ite ?_ ?_
    · refine Keeps.trans ?_ State.canDropObj_keeps
      refine Keeps.trans ?_ (Keeps.put (by decide))
      refine Keeps.trans ?_ (Keeps.inc (by decide))
      exact Keeps.refl _
    · refine Keeps.trans ?_ State.canErr_keeps
      refine Keeps.trans ?_ State.canDropObj_keeps
      refine Keeps.trans ?_ (Keeps.put (by decide))
      refine Keeps.trans ?_ (Keeps.inc (by decide))
      exact Keeps.refl _

theorem State.canShotEnds_keeps {a0 : _} {a1 : _} : Keeps a0 (@State.canShotEnds a0 a1) := by
  unfold State.canShotEnds
  refine Keeps.ite ?_ ?_
  · refine Keeps.trans ?_ State.raise_keeps
    refine Keeps.trans ?_ (Keeps.put (by decide))
    refine Keeps.trans ?_ State.canDropObj_keeps
    exact Keeps.refl _
  · exact Keeps.refl _

theorem execCanBusError_keeps {a0 : _} {a1 : _} {a2 : _} {a3 : _} {a4 : _} {a5 : _} {t : State} (h : (@execCanBusError a0 a1 a2 a3 a4 a5) = .next t) : Keeps a5 t := by
  unfold execCanBusError at h
  injection h with h
  subst h
  refine Keeps.ite ?_ ?_
  · exact Keeps.refl _
  · dsimp only
    refine Keeps.ite ?_ ?_
    · refine Keeps.trans ?_ State.canErr_keeps
      split
      · rename_i v0 v1
        refine Keeps.trans ?_ State.canShotEnds_keeps
        refine Keeps.trans ?_ State.canCountErr_keeps
        exact Keeps.refl _
      · rename_i v2
        refine Keeps.trans ?_ State.canCountErr_keeps
        exact Keeps.refl _
    · refine Keeps.trans ?_ State.putCanCtl_keeps
      refine Keeps.trans ?_ State.canCountErr_keeps
      exact Keeps.refl _

theorem execCanAckError_keeps {a0 : _} {a1 : _} {a2 : _} {t : State} (h : (@execCanAckError a0 a1 a2) = .next t) : Keeps a2 t := by
  unfold execCanAckError at h
  injection h with h
  subst h
  refine Keeps.ite ?_ ?_
  · exact Keeps.refl _
  · dsimp only
    refine Keeps.trans ?_ State.canShotEnds_keeps
    refine Keeps.ite ?_ ?_
    · refine Keeps.trans ?_ State.raise_keeps
      refine Keeps.trans ?_ State.setNoPeer_keeps
      refine Keeps.trans ?_ (Keeps.put (by decide))
      refine Keeps.trans ?_ State.canDropObj_keeps
      refine Keeps.ite ?_ ?_
      · refine Keeps.trans ?_ State.canErr_keeps
        refine Keeps.trans ?_ State.canCountErr_keeps
        exact Keeps.refl _
      · refine Keeps.trans ?_ State.canCountErr_keeps
        exact Keeps.refl _
    · refine Keeps.trans ?_ (Keeps.put (by decide))
      refine Keeps.ite ?_ ?_
      · refine Keeps.trans ?_ State.canErr_keeps
        refine Keeps.trans ?_ State.canCountErr_keeps
        exact Keeps.refl _
      · refine Keeps.trans ?_ State.canCountErr_keeps
        exact Keeps.refl _

theorem execCanNoPeerResume_keeps {a0 : _} {a1 : _} {a2 : _} {t : State} (h : (@execCanNoPeerResume a0 a1 a2) = .next t) : Keeps a2 t := by
  unfold execCanNoPeerResume at h
  injection h with h
  subst h
  refine Keeps.ite ?_ ?_
  · refine Keeps.trans ?_ State.canResume_keeps
    exact Keeps.refl _
  · exact Keeps.refl _

theorem State.canRecover_keeps {a0 : _} {a1 : _} : Keeps a0 (@State.canRecover a0 a1) := by
  unfold State.canRecover
  refine Keeps.ite ?_ ?_
  · refine Keeps.trans ?_ State.putCanCtl_keeps
    exact Keeps.refl _
  · exact Keeps.refl _

theorem execCanRecover_keeps {a0 : _} {a1 : _} {t : State} (h : (@execCanRecover a0 a1) = .next t) : Keeps a1 t := by
  unfold execCanRecover at h
  injection h with h
  subst h
  refine Keeps.trans ?_ State.canRecover_keeps
  exact Keeps.refl _

theorem execCanBusoffRecovery_keeps {a0 : _} {a1 : _} {t : State} (h : (@execCanBusoffRecovery a0 a1) = .next t) : Keeps a1 t := by
  unfold execCanBusoffRecovery at h
  injection h with h
  subst h
  refine Keeps.ite ?_ ?_
  · refine Keeps.trans ?_ State.canErr_keeps
    refine Keeps.trans ?_ State.putCanCtl_keeps
    exact Keeps.refl _
  · exact Keeps.refl _

theorem execCanAbrDwell_keeps {a0 : _} {a1 : _} {t : State} (h : (@execCanAbrDwell a0 a1) = .next t) : Keeps a1 t := by
  unfold execCanAbrDwell at h
  injection h with h
  subst h
  refine Keeps.ite ?_ ?_
  · exact Keeps.refl _
  · refine Keeps.ite ?_ ?_
    · refine Keeps.trans ?_ State.putCanCtl_keeps
      exact Keeps.refl _
    · refine Keeps.ite ?_ ?_
      · refine Keeps.trans ?_ State.putCanCtl_keeps
        exact Keeps.refl _
      · dsimp only
        refine Keeps.trans ?_ State.canShow_keeps
        refine Keeps.trans ?_ State.raise_keeps
        refine Keeps.trans ?_ (Keeps.put (by decide))
        refine Keeps.trans ?_ State.putCanCtl_keeps
        exact Keeps.refl _

theorem State.canFaults_keeps {a0 : _} {a1 : _} {a2 : _} : Keeps a0 (@State.canFaults a0 a1 a2) := by
  unfold State.canFaults
  dsimp only
  refine Keeps.ite ?_ ?_
  · exact Keeps.refl _
  · refine Keeps.trans ?_ State.raise_keeps
    refine Keeps.trans ?_ State.canShow_keeps
    refine Keeps.trans ?_ State.canDropCtl_keeps
    refine Keeps.trans ?_ (Keeps.put (by decide))
    refine Keeps.trans ?_ (Keeps.inc (by decide))
    refine Keeps.trans ?_ State.putCanCtl_keeps
    exact Keeps.refl _

theorem execCanControllerFault_keeps {a0 : _} {a1 : _} {a2 : _} {t : State} (h : (@execCanControllerFault a0 a1 a2) = .next t) : Keeps a2 t := by
  unfold execCanControllerFault at h
  injection h with h
  subst h
  refine Keeps.trans ?_ State.canFaults_keeps
  exact Keeps.refl _

theorem execCanControllerReload_keeps {a0 : _} {a1 : _} {t : State} (h : (@execCanControllerReload a0 a1) = .next t) : Keeps a1 t := by
  unfold execCanControllerReload at h
  injection h with h
  subst h
  refine Keeps.ite ?_ ?_
  · refine Keeps.trans ?_ State.canShow_keeps
    refine Keeps.trans ?_ (Keeps.put (by decide))
    exact Keeps.refl _
  · exact Keeps.refl _

theorem State.canModeWritten_keeps {a0 : _} {a1 : _} : Keeps a0 (@State.canModeWritten a0 a1) := by
  unfold State.canModeWritten
  dsimp only
  refine Keeps.ite ?_ ?_
  · refine Keeps.ite ?_ ?_
    · refine Keeps.trans ?_ State.putCanCtl_keeps
      exact Keeps.refl _
    · refine Keeps.ite ?_ ?_
      · refine Keeps.trans ?_ (Keeps.put (by decide))
        refine Keeps.trans ?_ State.putCanCtl_keeps
        exact Keeps.refl _
      · refine Keeps.trans ?_ State.putCanCtl_keeps
        exact Keeps.refl _
  · refine Keeps.trans ?_ State.putCanCtl_keeps
    exact Keeps.refl _

theorem State.canRewritten_keeps {a0 : _} {a1 : _} : Keeps a0 (@State.canRewritten a0 a1) := by
  unfold State.canRewritten
  refine Keeps.trans ?_ State.putCanObj_keeps
  refine Keeps.trans ?_ State.canDropObj_keeps
  exact Keeps.refl _

/-- The writes that wait for a CAN edge take their places. -/
theorem canEdge_regs {s : State} : Keeps s { s with
    regs := s.can.pend.foldl (fun l (w : Nat × Nat) => regPut l w.1 w.2) s.regs, can := { s.can with pend := [] } } := by
  refine Keeps.drop (Keeps.regFold (Keeps.refl s) (l := s.can.pend) ?_) rfl rfl (List.Subset.refl _) (List.nil_subset _) rfl
  intro i w hw
  exact i.2.2 w (List.mem_append.2 (.inr hw))

theorem State.canEdge_keeps {s : State} : Keeps s s.canEdge := by
  unfold State.canEdge
  dsimp only
  refine Keeps.mkUpd ?_ (by with_reducible rfl) (by with_reducible rfl) (by with_reducible rfl) (by with_reducible rfl)
  refine Keeps.trans ?_ State.canShow_keeps
  refine Keeps.foldl ?_ (fun u x => ?_)
  · refine Keeps.foldl canEdge_regs (fun u x => ?_)
    exact Keeps.ite State.canRewritten_keeps (Keeps.refl _)
  · refine Keeps.trans (t := if s.can.pend.any (fun w => w.1 == fldKey F.canMode x) then u.canModeWritten x else u)
        (Keeps.ite State.canModeWritten_keeps (Keeps.refl u)) ?_
    refine Keeps.ite ?_ (Keeps.refl _)
    refine Keeps.trans ?_ State.putCanCtl_keeps
    refine Keeps.trans ?_ (Keeps.put (by decide))
    refine Keeps.trans ?_ (Keeps.put (by decide))
    exact Keeps.put (by decide)

/-- Register writes of quiet fields may wait for a CAN edge. -/
theorem Keeps.canPend {s t : State} {ws : List (Nat × Nat)} (h : Keeps s t) (hw : ∀ w ∈ ws, w.1 ∉ statusKeys) :
    Keeps s { t with can := { t.can with pend := t.can.pend ++ ws } } := by
  refine ⟨fun i => ?_, h.queue⟩
  obtain ⟨a, b, c⟩ := h.inv i
  refine ⟨a, b, ?_⟩
  intro w hm
  rcases List.mem_append.1 hm with hm | hm
  · exact c w (List.mem_append.2 (.inl hm))
  · rcases List.mem_append.1 hm with hm | hm
    · exact c w (List.mem_append.2 (.inr hm))
    · exact hw w hm

/-- The same for writes of the next edge. -/
theorem Keeps.edgePend {s t : State} {ws : List (Nat × Nat)} (h : Keeps s t) (hw : ∀ w ∈ ws, w.1 ∉ statusKeys) :
    Keeps s { t with beat := { t.beat with edgePend := t.beat.edgePend ++ ws } } := by
  refine ⟨fun i => ?_, h.queue⟩
  obtain ⟨a, b, c⟩ := h.inv i
  refine ⟨a, b, ?_⟩
  intro w hm
  rcases List.mem_append.1 hm with hm | hm
  · rcases List.mem_append.1 hm with hm | hm
    · exact c w (List.mem_append.2 (.inl hm))
    · exact hw w hm
  · exact c w (List.mem_append.2 (.inr hm))

theorem objCfgWrites_quiet {o c : Nat} : ∀ w ∈ objCfgWrites o c, w.1 ∉ statusKeys := by
  intro w hw
  simp only [objCfgWrites, List.map_cons, List.map_nil, List.mem_cons, List.not_mem_nil, or_false] at hw
  rcases hw with rfl | rfl | rfl | rfl | rfl | rfl | rfl | rfl | rfl <;> exact Fld.quiet_keys (by decide) o

theorem canObjSetApply_keeps {p : Packet} {s : State} : Keeps s (canObjSetApply p s).st := by
  unfold canObjSetApply
  dsimp only
  refine Keeps.canPend State.journal_keeps ?_
  intro w hw
  rcases List.mem_append.1 hw with hw | hw
  · exact objCfgWrites_quiet w hw
  · simp only [List.mem_cons, List.not_mem_nil, or_false] at hw
    rcases hw with rfl | rfl | rfl <;> exact Fld.quiet_keys (by decide) _

theorem execCanObjSet_keeps {a0 : _} {a1 : _} {t : State} (h : (@execCanObjSet a0 a1) = .next t) : Keeps a1 t := by
  unfold execCanObjSet at h
  injection h with h
  subst h
  refine Keeps.trans ?_ queued_keeps
  exact Keeps.refl _

/-! Modes. -/

theorem State.planAt_keeps {a0 : _} {a1 : _} {a2 : _} {a3 : _} : Keeps a0 (@State.planAt a0 a1 a2 a3) := by
  unfold State.planAt
  refine Keeps.ite ?_ ?_
  · refine Keeps.mkUpd ?_ (by with_reducible rfl) (by with_reducible rfl) (by with_reducible rfl) (by with_reducible rfl)
    exact Keeps.refl _
  · exact Keeps.refl _

theorem State.plan_keeps {a0 : _} {a1 : _} {a2 : _} : Keeps a0 (@State.plan a0 a1 a2) := by
  unfold State.plan
  refine Keeps.trans ?_ State.planAt_keeps
  exact Keeps.refl _

theorem State.runLeaves_keeps {a0 : _} : Keeps a0 (@State.runLeaves a0) := by
  unfold State.runLeaves
  dsimp only
  refine Keeps.ite ?_ ?_
  · exact Keeps.refl _
  · refine Keeps.ite ?_ ?_
    · refine Keeps.trans ?_ (Keeps.put (by decide))
      refine Keeps.mkUpd ?_ (by with_reducible rfl) (by with_reducible rfl) (by with_reducible rfl) (by with_reducible rfl)
      exact Keeps.refl _
    · refine Keeps.mkUpd ?_ (by with_reducible rfl) (by with_reducible rfl) (by with_reducible rfl) (by with_reducible rfl)
      exact Keeps.refl _

theorem State.dropSync_keeps {a0 : _} : Keeps a0 (@State.dropSync a0) := by
  unfold State.dropSync
  refine Keeps.ite ?_ ?_
  · exact Keeps.refl _
  · dsimp only
    refine Keeps.trans ?_ State.setMode_keeps
    refine Keeps.trans ?_ (Keeps.put (by decide))
    refine Keeps.trans ?_ (Keeps.put (by decide))
    refine Keeps.mkUpd ?_ (by with_reducible rfl) (by with_reducible rfl) (by with_reducible rfl) (by with_reducible rfl)
    exact Keeps.refl _

theorem State.enterStandby_keeps {a0 : _} {a1 : _} : Keeps a0 (@State.enterStandby a0 a1) := by
  unfold State.enterStandby
  dsimp only
  refine Keeps.trans ?_ State.setMode_keeps
  refine Keeps.trans ?_ (Keeps.put (by decide))
  refine Keeps.trans ?_ (Keeps.put (by decide))
  refine Keeps.mkUpd ?_ (by with_reducible rfl) (by with_reducible rfl) (by with_reducible rfl) (by with_reducible rfl)
  refine Keeps.trans ?_ State.dropCycles_keeps
  exact Keeps.refl _

theorem State.stopShadow_keeps {a0 : _} {a1 : _} : Keeps a0 (@State.stopShadow a0 a1) := by
  unfold State.stopShadow
  refine Keeps.ite ?_ ?_
  · exact Keeps.refl _
  · dsimp only
    refine Keeps.trans ?_ State.enterStandby_keeps
    refine Keeps.trans ?_ (Keeps.put (by decide))
    refine Keeps.mkUpd ?_ (by with_reducible rfl) (by with_reducible rfl) (by with_reducible rfl) (by with_reducible rfl)
    split
    · rename_i v0 v1 v2
      refine Keeps.trans ?_ State.loadProgram_keeps
      refine Keeps.trans ?_ State.dropCycles_keeps
      exact Keeps.refl _
    · rename_i v3 v4
      refine Keeps.trans ?_ State.dropCycles_keeps
      exact Keeps.refl _

theorem State.decideRole_keeps {a0 : _} {a1 : _} : Keeps a0 (@State.decideRole a0 a1) := by
  unfold State.decideRole
  dsimp only
  refine Keeps.ite ?_ ?_
  · refine Keeps.trans ?_ State.enterStandby_keeps
    refine Keeps.mkUpd ?_ (by with_reducible rfl) (by with_reducible rfl) (by with_reducible rfl) (by with_reducible rfl)
    refine Keeps.ite ?_ ?_
    · refine Keeps.trans ?_ State.raise_keeps
      exact Keeps.refl _
    · exact Keeps.refl _
  · refine Keeps.trans ?_ State.setMode_keeps
    refine Keeps.ite ?_ ?_
    · refine Keeps.mkUpd ?_ (by with_reducible rfl) (by with_reducible rfl) (by with_reducible rfl) (by with_reducible rfl)
      refine Keeps.ite ?_ ?_
      · refine Keeps.trans ?_ State.raise_keeps
        exact Keeps.refl _
      · exact Keeps.refl _
    · refine Keeps.mkUpd ?_ (by with_reducible rfl) (by with_reducible rfl) (by with_reducible rfl) (by with_reducible rfl)
      refine Keeps.ite ?_ ?_
      · refine Keeps.trans ?_ State.raise_keeps
        exact Keeps.refl _
      · exact Keeps.refl _

theorem State.endSessions_keeps {a0 : _} {a1 : _} : Keeps a0 (@State.endSessions a0 a1) := by
  unfold State.endSessions
  refine Keeps.foldl ?_ (fun v0 v1 => ?_)
  · exact Keeps.refl _
  · refine Keeps.trans ?_ State.releaseSession_keeps
    exact Keeps.refl _

theorem State.settleEdges_keeps {s : State} : Keeps s s.settleEdges :=
  Keeps.drop (Keeps.regFold (Keeps.refl s) (l := s.beat.edgePend ++ s.can.pend) (fun i => i.2.2)) rfl rfl (List.nil_subset _)
    (List.nil_subset _) rfl

theorem State.abandonResync_keeps {a0 : _} : Keeps a0 (@State.abandonResync a0) := by
  unfold State.abandonResync
  refine Keeps.trans ?_ (Keeps.put (by decide))
  dsimp only
  refine Keeps.mkUpd ?_ (by rfl) (by rfl) (by rfl) (by rfl)
  refine Keeps.trans ?_ (Keeps.put (by decide))
  exact Keeps.refl _

theorem State.surgeStops_keeps {a0 : _} : Keeps a0 (@State.surgeStops a0) := by
  unfold State.surgeStops
  refine Keeps.ite ?_ ?_
  · exact Keeps.refl _
  · dsimp only
    refine Keeps.mkUpd ?_ (by rfl) (by rfl) (by rfl) (by rfl)
    refine Keeps.trans ?_ (Keeps.put (by decide))
    exact Keeps.refl _

theorem State.enterStart_keeps {a0 : _} {a1 : _} : Keeps a0 (@State.enterStart a0 a1) := by
  unfold State.enterStart
  dsimp only
  refine Keeps.ite ?_ ?_
  · refine Keeps.trans ?_ State.bumpOwn_keeps
    refine Keeps.trans ?_ State.fieldOff_keeps
    refine Keeps.trans ?_ State.canShow_keeps
    refine Keeps.trans ?_ State.setMode_keeps
    refine Keeps.trans ?_ State.canDropAll_keeps
    refine Keeps.trans ?_ State.abandonResync_keeps
    refine Keeps.mkUpd ?_ (by with_reducible rfl) (by with_reducible rfl) (by with_reducible rfl) (by with_reducible rfl)
    refine Keeps.trans ?_ State.surgeStops_keeps
    refine Keeps.trans ?_ State.settleEdges_keeps
    refine Keeps.trans ?_ State.dropCycles_keeps
    refine Keeps.trans ?_ State.runLeaves_keeps
    refine Keeps.trans ?_ State.rollAbandon_keeps
    refine Keeps.trans ?_ State.endSessions_keeps
    refine Keeps.trans ?_ State.endDebug_keeps
    exact Keeps.refl _
  · refine Keeps.trans ?_ State.fieldOff_keeps
    refine Keeps.trans ?_ State.canShow_keeps
    refine Keeps.trans ?_ State.setMode_keeps
    refine Keeps.trans ?_ State.canDropAll_keeps
    refine Keeps.trans ?_ State.abandonResync_keeps
    refine Keeps.mkUpd ?_ (by with_reducible rfl) (by with_reducible rfl) (by with_reducible rfl) (by with_reducible rfl)
    refine Keeps.trans ?_ State.surgeStops_keeps
    refine Keeps.trans ?_ State.settleEdges_keeps
    refine Keeps.trans ?_ State.dropCycles_keeps
    refine Keeps.trans ?_ State.runLeaves_keeps
    refine Keeps.trans ?_ State.rollAbandon_keeps
    refine Keeps.trans ?_ State.endSessions_keeps
    refine Keeps.trans ?_ State.endDebug_keeps
    exact Keeps.refl _

theorem State.enterStop_keeps {a0 : _} {a1 : _} : Keeps a0 (@State.enterStop a0 a1) := by
  unfold State.enterStop
  dsimp only
  refine Keeps.trans ?_ State.setMode_keeps
  refine Keeps.mkUpd ?_ (by with_reducible rfl) (by with_reducible rfl) (by with_reducible rfl) (by with_reducible rfl)
  refine Keeps.trans ?_ State.canDropAll_keeps
  refine Keeps.trans ?_ State.dropCycles_keeps
  refine Keeps.trans ?_ State.runLeaves_keeps
  exact Keeps.refl _

theorem State.keyStops_keeps {a0 : _} : Keeps a0 (@State.keyStops a0) := by
  unfold State.keyStops
  dsimp only
  refine Keeps.ite ?_ ?_
  · refine Keeps.trans ?_ State.setMode_keeps
    refine Keeps.trans ?_ State.dropCycles_keeps
    refine Keeps.ite ?_ ?_
    · refine Keeps.trans ?_ State.stopShadow_keeps
      exact Keeps.refl _
    · exact Keeps.refl _
  · refine Keeps.ite ?_ ?_
    · refine Keeps.trans ?_ State.enterStop_keeps
      refine Keeps.ite ?_ ?_
      · refine Keeps.trans ?_ State.stopShadow_keeps
        exact Keeps.refl _
      · exact Keeps.refl _
    · refine Keeps.ite ?_ ?_
      · refine Keeps.trans ?_ State.stopShadow_keeps
        exact Keeps.refl _
      · exact Keeps.refl _

theorem State.enterSafe_keeps {a0 : _} {a1 : _} : Keeps a0 (@State.enterSafe a0 a1) := by
  unfold State.enterSafe
  dsimp only
  refine Keeps.trans ?_ State.fieldOff_keeps
  refine Keeps.trans ?_ State.canShow_keeps
  refine Keeps.trans ?_ State.setMode_keeps
  refine Keeps.trans ?_ State.canDropAll_keeps
  refine Keeps.trans ?_ State.abandonResync_keeps
  refine Keeps.mkUpd ?_ (by with_reducible rfl) (by with_reducible rfl) (by with_reducible rfl) (by with_reducible rfl)
  refine Keeps.ite ?_ ?_
  · refine Keeps.trans ?_ State.dropCycles_keeps
    refine Keeps.trans ?_ State.runLeaves_keeps
    refine Keeps.trans ?_ State.endDebug_keeps
    exact Keeps.refl _
  · refine Keeps.trans ?_ State.safeRecord_keeps
    refine Keeps.trans ?_ State.dropCycles_keeps
    refine Keeps.trans ?_ State.runLeaves_keeps
    refine Keeps.trans ?_ State.endDebug_keeps
    exact Keeps.refl _

theorem State.restartPair_keeps {a0 : _} {a1 : _} : Keeps a0 (@State.restartPair a0 a1) := by
  unfold State.restartPair
  dsimp only
  refine Keeps.ite ?_ ?_
  · refine Keeps.mkUpd ?_ (by with_reducible rfl) (by with_reducible rfl) (by with_reducible rfl) (by with_reducible rfl)
    refine Keeps.trans ?_ State.restartProgram_keeps
    exact Keeps.refl _
  · refine Keeps.trans ?_ State.restartProgram_keeps
    exact Keeps.refl _

theorem State.unhalt_keeps {a0 : _} : Keeps a0 (@State.unhalt a0) := by
  unfold State.unhalt
  refine Keeps.ite ?_ ?_
  · refine Keeps.trans ?_ State.endDebug_keeps
    exact Keeps.refl _
  · exact Keeps.refl _

theorem State.startRun_keeps {a0 : _} {a1 : _} {a2 : _} : Keeps a0 (@State.startRun a0 a1 a2) := by
  unfold State.startRun
  dsimp only
  refine Keeps.trans ?_ State.setMode_keeps
  refine Keeps.trans ?_ State.restartPair_keeps
  refine Keeps.trans ?_ State.unhalt_keeps
  exact Keeps.refl _

theorem State.enterHold_keeps {a0 : _} : Keeps a0 (@State.enterHold a0) := by
  unfold State.enterHold
  dsimp only
  refine Keeps.trans ?_ State.setMode_keeps
  refine Keeps.mkUpd ?_ (by with_reducible rfl) (by with_reducible rfl) (by with_reducible rfl) (by with_reducible rfl)
  refine Keeps.trans ?_ State.holdPublish_keeps
  refine Keeps.trans ?_ State.runLeaves_keeps
  exact Keeps.refl _

theorem State.keyAway_keeps {a0 : _} {a1 : _} : Keeps a0 (@State.keyAway a0 a1) := by
  unfold State.keyAway
  dsimp only
  refine Keeps.ite ?_ ?_
  · refine Keeps.trans ?_ State.startRun_keeps
    refine Keeps.ite ?_ ?_
    · refine Keeps.ite ?_ ?_
      · refine Keeps.trans ?_ State.decideRole_keeps
        exact Keeps.refl _
      · exact Keeps.refl _
    · exact Keeps.refl _
  · refine Keeps.ite ?_ ?_
    · refine Keeps.ite ?_ ?_
      · refine Keeps.trans ?_ State.decideRole_keeps
        exact Keeps.refl _
      · exact Keeps.refl _
    · exact Keeps.refl _

theorem State.keyFaults_keeps {a0 : _} : Keeps a0 (@State.keyFaults a0) := by
  unfold State.keyFaults
  split
  · rename_i v0 v1 v2 v3
    refine Keeps.trans ?_ State.raise_keeps
    refine Keeps.mkUpd ?_ (by with_reducible rfl) (by with_reducible rfl) (by with_reducible rfl) (by with_reducible rfl)
    refine Keeps.ofSnd v3 ?_
    refine Keeps.trans ?_ State.fresh_keeps
    exact Keeps.refl _

theorem State.planKey_keeps {a0 : _} : Keeps a0 (@State.planKey a0) := by
  unfold State.planKey
  split
  · rename_i v0 v1
    refine Keeps.trans ?_ State.plan_keeps
    exact Keeps.refl _
  · rename_i v2 v3 v4
    refine Keeps.mkUpd ?_ (by with_reducible rfl) (by with_reducible rfl) (by with_reducible rfl) (by with_reducible rfl)
    exact Keeps.refl _

theorem State.keyChange_keeps {a0 : _} {a1 : _} : Keeps a0 (@State.keyChange a0 a1) := by
  unfold State.keyChange
  dsimp only
  refine Keeps.ite ?_ ?_
  · exact Keeps.refl _
  · refine Keeps.ite ?_ ?_
    · refine Keeps.ite ?_ ?_
      · refine Keeps.trans ?_ State.planKey_keeps
        refine Keeps.ite ?_ ?_
        · refine Keeps.trans ?_ State.keyFaults_keeps
          refine Keeps.trans ?_ State.raise_keeps
          refine Keeps.trans ?_ State.audit_keeps
          refine Keeps.trans ?_ (Keeps.put (by decide))
          exact Keeps.refl _
        · refine Keeps.mkUpd ?_ (by with_reducible rfl) (by with_reducible rfl) (by with_reducible rfl) (by with_reducible rfl)
          refine Keeps.trans ?_ State.raise_keeps
          refine Keeps.trans ?_ State.audit_keeps
          refine Keeps.trans ?_ (Keeps.put (by decide))
          exact Keeps.refl _
      · refine Keeps.ite ?_ ?_
        · refine Keeps.ite ?_ ?_
          · refine Keeps.trans ?_ State.keyFaults_keeps
            refine Keeps.trans ?_ State.raise_keeps
            refine Keeps.trans ?_ State.audit_keeps
            refine Keeps.trans ?_ (Keeps.put (by decide))
            exact Keeps.refl _
          · refine Keeps.mkUpd ?_ (by with_reducible rfl) (by with_reducible rfl) (by with_reducible rfl) (by with_reducible rfl)
            refine Keeps.trans ?_ State.raise_keeps
            refine Keeps.trans ?_ State.audit_keeps
            refine Keeps.trans ?_ (Keeps.put (by decide))
            exact Keeps.refl _
        · refine Keeps.trans ?_ State.cause_keeps
          refine Keeps.ite ?_ ?_
          · refine Keeps.trans ?_ State.keyFaults_keeps
            refine Keeps.trans ?_ State.raise_keeps
            refine Keeps.trans ?_ State.audit_keeps
            refine Keeps.trans ?_ (Keeps.put (by decide))
            exact Keeps.refl _
          · refine Keeps.mkUpd ?_ (by with_reducible rfl) (by with_reducible rfl) (by with_reducible rfl) (by with_reducible rfl)
            refine Keeps.trans ?_ State.raise_keeps
            refine Keeps.trans ?_ State.audit_keeps
            refine Keeps.trans ?_ (Keeps.put (by decide))
            exact Keeps.refl _
    · refine Keeps.ite ?_ ?_
      · refine Keeps.mkUpd ?_ (by with_reducible rfl) (by with_reducible rfl) (by with_reducible rfl) (by with_reducible rfl)
        refine Keeps.ite ?_ ?_
        · refine Keeps.trans ?_ State.keyFaults_keeps
          refine Keeps.trans ?_ State.raise_keeps
          refine Keeps.trans ?_ State.audit_keeps
          refine Keeps.trans ?_ (Keeps.put (by decide))
          exact Keeps.refl _
        · refine Keeps.mkUpd ?_ (by with_reducible rfl) (by with_reducible rfl) (by with_reducible rfl) (by with_reducible rfl)
          refine Keeps.trans ?_ State.raise_keeps
          refine Keeps.trans ?_ State.audit_keeps
          refine Keeps.trans ?_ (Keeps.put (by decide))
          exact Keeps.refl _
      · refine Keeps.ite ?_ ?_
        · refine Keeps.trans ?_ State.keyFaults_keeps
          refine Keeps.trans ?_ State.raise_keeps
          refine Keeps.trans ?_ State.audit_keeps
          refine Keeps.trans ?_ (Keeps.put (by decide))
          exact Keeps.refl _
        · refine Keeps.mkUpd ?_ (by with_reducible rfl) (by with_reducible rfl) (by with_reducible rfl) (by with_reducible rfl)
          refine Keeps.trans ?_ State.raise_keeps
          refine Keeps.trans ?_ State.audit_keeps
          refine Keeps.trans ?_ (Keeps.put (by decide))
          exact Keeps.refl _

theorem execKeyChange_keeps {a0 : _} {a1 : _} {t : State} (h : (@execKeyChange a0 a1) = .next t) : Keeps a1 t := by
  unfold execKeyChange at h
  injection h with h
  subst h
  refine Keeps.trans ?_ State.keyChange_keeps
  exact Keeps.refl _

theorem execHoldTimeout_keeps {a0 : _} {t : State} (h : (@execHoldTimeout a0) = .next t) : Keeps a0 t := by
  unfold execHoldTimeout at h
  injection h with h
  subst h
  refine Keeps.ite ?_ ?_
  · refine Keeps.trans ?_ State.cause_keeps
    refine Keeps.trans ?_ State.raise_keeps
    exact Keeps.refl _
  · exact Keeps.refl _

theorem execModeGet_keeps {a0 : _} {a1 : _} {t : State} (h : (@execModeGet a0 a1) = .next t) : Keeps a1 t := by
  unfold execModeGet at h
  injection h with h
  subst h
  refine Keeps.trans ?_ (served_keeps ?_)
  · exact Keeps.refl _
  · intro v0 v1
    dsimp only
    exact Keeps.refl _

theorem modeSetApply_keeps {a0 : _} {a1 : _} {a2 : _} : Keeps a2 (@modeSetApply a0 a1 a2).st := by
  unfold modeSetApply
  split
  · rename_i v0 v1 v2 v3
    dsimp only
    exact Keeps.refl _
  · rename_i v4 v5
    dsimp only
    refine Keeps.iteSt ?_ ?_
    · dsimp only
      refine Keeps.trans ?_ State.setMode_keeps
      refine Keeps.mkUpd ?_ (by with_reducible rfl) (by with_reducible rfl) (by with_reducible rfl) (by with_reducible rfl)
      refine Keeps.trans ?_ State.dropSync_keeps
      exact Keeps.refl _
    · refine Keeps.iteSt ?_ ?_
      · dsimp only
        refine Keeps.ite ?_ ?_
        · exact Keeps.refl _
        · refine Keeps.trans ?_ State.enterStop_keeps
          exact Keeps.refl _
      · refine Keeps.iteSt ?_ ?_
        · dsimp only
          refine Keeps.ite ?_ ?_
          · exact Keeps.refl _
          · refine Keeps.trans ?_ State.enterHold_keeps
            exact Keeps.refl _
        · refine Keeps.iteSt ?_ ?_
          · dsimp only
            refine Keeps.trans ?_ State.startRun_keeps
            exact Keeps.refl _
          · refine Keeps.iteSt ?_ ?_
            · dsimp only
              refine Keeps.mkUpd ?_ (by with_reducible rfl) (by with_reducible rfl) (by with_reducible rfl) (by with_reducible rfl)
              exact Keeps.refl _
            · refine Keeps.iteSt ?_ ?_
              · dsimp only
                refine Keeps.trans ?_ State.setMode_keeps
                refine Keeps.mkUpd ?_ (by with_reducible rfl) (by with_reducible rfl) (by with_reducible rfl) (by with_reducible rfl)
                refine Keeps.trans ?_ State.dropCycles_keeps
                refine Keeps.trans ?_ State.unhalt_keeps
                exact Keeps.refl _
              · dsimp only
                exact Keeps.refl _

theorem execModeSet_keeps {a0 : _} {a1 : _} {t : State} (h : (@execModeSet a0 a1) = .next t) : Keeps a1 t := by
  unfold execModeSet at h
  injection h with h
  subst h
  refine Keeps.trans ?_ queued_keeps
  exact Keeps.refl _

theorem State.moduleRestart_keeps {a0 : _} {a1 : _} : Keeps a0 (@State.moduleRestart a0 a1) := by
  unfold State.moduleRestart
  refine Keeps.ite ?_ ?_
  · refine Keeps.trans ?_ State.planAt_keeps
    exact Keeps.refl _
  · refine Keeps.trans ?_ State.enterStart_keeps
    exact Keeps.refl _

theorem restartApply_keeps {a0 : _} {a1 : _} : Keeps a1 (@restartApply a0 a1).st := by
  unfold restartApply
  refine Keeps.iteSt ?_ ?_
  · refine Keeps.iteSt ?_ ?_
    · dsimp only
      exact Keeps.refl _
    · dsimp only
      refine Keeps.trans ?_ State.moduleRestart_keeps
      exact Keeps.refl _
  · dsimp only
    refine Keeps.trans ?_ State.restartPair_keeps
    exact Keeps.refl _

theorem execRestart_keeps {a0 : _} {a1 : _} {t : State} (h : (@execRestart a0 a1) = .next t) : Keeps a1 t := by
  unfold execRestart at h
  injection h with h
  subst h
  refine Keeps.trans ?_ queued_keeps
  exact Keeps.refl _

theorem auditRefused_keeps {o : Op} {p : Packet} {chk : UnitSel → State → Chk} {a d : Nat} {s t : State} :
    Keeps t (auditRefused o p chk a d s t) := by
  unfold auditRefused
  split
  · dsimp only
    split
    · exact State.auditBy_keeps
    · exact Keeps.refl t
  · exact Keeps.refl t

theorem State.showSafeCause_keeps {a0 : _} {a1 : _} : Keeps a0 (@State.showSafeCause a0 a1) := by
  unfold State.showSafeCause
  refine Keeps.trans ?_ State.setMode_keeps
  exact Keeps.refl _

theorem State.clearSafe_keeps {a0 : _} : Keeps a0 (@State.clearSafe a0) := by
  unfold State.clearSafe
  dsimp only
  refine Keeps.trans ?_ State.journalToll_keeps
  refine Keeps.trans ?_ State.journal_keeps
  refine Keeps.trans ?_ State.showSafeCause_keeps
  refine Keeps.trans ?_ (Keeps.put (by decide))
  refine Keeps.trans ?_ State.latch_keeps
  refine Keeps.mkUpd ?_ (by with_reducible rfl) (by with_reducible rfl) (by with_reducible rfl) (by with_reducible rfl)
  exact Keeps.refl _

theorem clearSafeBody_keeps {a0 : _} {a1 : _} {a2 : _} : Keeps a2 (@clearSafeBody a0 a1 a2).st := by
  unfold clearSafeBody
  dsimp only
  refine Keeps.trans ?_ State.clearSafe_keeps
  refine Keeps.trans ?_ State.auditBy_keeps
  exact Keeps.refl _

theorem execClearSafe_keeps {a0 : _} {a1 : _} {t : State} (h : (@execClearSafe a0 a1) = .next t) : Keeps a1 t := by
  unfold execClearSafe at h
  injection h with h
  subst h
  refine Keeps.ite ?_ ?_
  · refine Keeps.trans ?_ State.enterStart_keeps
    refine Keeps.trans ?_ auditRefused_keeps
    refine Keeps.trans ?_ (served_keeps ?_)
    · exact Keeps.refl _
    · intro v0 v1
      refine Keeps.trans ?_ clearSafeBody_keeps
      exact Keeps.refl _
  · refine Keeps.trans ?_ auditRefused_keeps
    refine Keeps.trans ?_ (served_keeps ?_)
    · exact Keeps.refl _
    · intro v2 v3
      refine Keeps.trans ?_ clearSafeBody_keeps
      exact Keeps.refl _

end Sys2Proof.Machine
end

