-- ==== Sys2Proof/Laws/KeepsB.lean ====
section
/-! SUPPORT. What each function of Lanes, Field, Filter, Clock, Units, Security, Power keeps: the invariant of the block and the queue. -/

set_option maxRecDepth 4000
namespace Sys2Proof.Machine

open Sys2Proof

/-! Lanes. -/

theorem State.putLane_keeps {a0 : _} {a1 : _} : Keeps a0 (@State.putLane a0 a1) := by
  unfold State.putLane
  refine Keeps.mkUpd ?_ (by with_reducible rfl) (by with_reducible rfl) (by with_reducible rfl) (by with_reducible rfl)
  exact Keeps.refl _

theorem State.putL3_keeps {a0 : _} {a1 : _} : Keeps a0 (@State.putL3 a0 a1) := by
  unfold State.putL3
  refine Keeps.mkUpd ?_ (by with_reducible rfl) (by with_reducible rfl) (by with_reducible rfl) (by with_reducible rfl)
  exact Keeps.refl _

theorem State.putWsl_keeps {a0 : _} {a1 : _} : Keeps a0 (@State.putWsl a0 a1) := by
  unfold State.putWsl
  refine Keeps.mkUpd ?_ (by with_reducible rfl) (by with_reducible rfl) (by with_reducible rfl) (by with_reducible rfl)
  exact Keeps.refl _

theorem State.oweErr_keeps {a0 : _} {a1 : _} {a2 : _} : Keeps a0 (@State.oweErr a0 a1 a2) := by
  unfold State.oweErr
  refine Keeps.ite ?_ ?_
  · refine Keeps.mkUpd ?_ (by with_reducible rfl) (by with_reducible rfl) (by with_reducible rfl) (by with_reducible rfl)
    exact Keeps.refl _
  · exact Keeps.refl _

theorem State.addDue_keeps {a0 : _} {a1 : _} {a2 : _} {a3 : _} {a4 : _} : Keeps a0 (@State.addDue a0 a1 a2 a3 a4) := by
  unfold State.addDue
  refine Keeps.mkUpd ?_ (by with_reducible rfl) (by with_reducible rfl) (by with_reducible rfl) (by with_reducible rfl)
  exact Keeps.refl _

theorem State.laneEvent_keeps {a0 : _} {a1 : _} {a2 : _} {a3 : _} {a4 : _} : Keeps a0 (@State.laneEvent a0 a1 a2 a3 a4) := by
  unfold State.laneEvent
  refine Keeps.trans ?_ State.raise_keeps
  exact Keeps.refl _

theorem State.showCrossover_keeps {a0 : _} : Keeps a0 (@State.showCrossover a0) := by
  unfold State.showCrossover
  dsimp only
  refine Keeps.trans ?_ (Keeps.put (by decide))
  refine Keeps.trans ?_ (Keeps.put (by decide))
  refine Keeps.trans ?_ (Keeps.putFlag (by decide))
  exact Keeps.refl _

theorem State.setL3_keeps {a0 : _} {a1 : _} {a2 : _} : Keeps a0 (@State.setL3 a0 a1 a2) := by
  unfold State.setL3
  refine Keeps.mkUpd ?_ (by with_reducible rfl) (by with_reducible rfl) (by with_reducible rfl) (by with_reducible rfl)
  exact Keeps.refl _

theorem State.laneFail_keeps {a0 : _} {a1 : _} : Keeps a0 (@State.laneFail a0 a1) := by
  unfold State.laneFail
  dsimp only
  refine Keeps.ite ?_ ?_
  · refine Keeps.trans ?_ State.putLane_keeps
    refine Keeps.trans ?_ (Keeps.put (by decide))
    refine Keeps.trans ?_ (Keeps.put (by decide))
    refine Keeps.trans ?_ (Keeps.inc (by decide))
    exact Keeps.refl _
  · refine Keeps.ite ?_ ?_
    · refine Keeps.trans ?_ State.setL3_keeps
      refine Keeps.foldl ?_ (fun v0 v1 => ?_)
      · refine Keeps.ite ?_ ?_
        · refine Keeps.trans ?_ State.putLane_keeps
          refine Keeps.trans ?_ (Keeps.put (by decide))
          refine Keeps.trans ?_ (Keeps.put (by decide))
          refine Keeps.trans ?_ (Keeps.inc (by decide))
          exact Keeps.refl _
        · refine Keeps.trans ?_ State.laneEvent_keeps
          refine Keeps.trans ?_ State.putLane_keeps
          refine Keeps.trans ?_ (Keeps.put (by decide))
          refine Keeps.trans ?_ (Keeps.put (by decide))
          refine Keeps.trans ?_ (Keeps.inc (by decide))
          exact Keeps.refl _
      · refine Keeps.trans ?_ State.oweErr_keeps
        exact Keeps.refl _
    · refine Keeps.foldl ?_ (fun v2 v3 => ?_)
      · refine Keeps.ite ?_ ?_
        · refine Keeps.trans ?_ State.putLane_keeps
          refine Keeps.trans ?_ (Keeps.put (by decide))
          refine Keeps.trans ?_ (Keeps.put (by decide))
          refine Keeps.trans ?_ (Keeps.inc (by decide))
          exact Keeps.refl _
        · refine Keeps.trans ?_ State.laneEvent_keeps
          refine Keeps.trans ?_ State.putLane_keeps
          refine Keeps.trans ?_ (Keeps.put (by decide))
          refine Keeps.trans ?_ (Keeps.put (by decide))
          refine Keeps.trans ?_ (Keeps.inc (by decide))
          exact Keeps.refl _
      · refine Keeps.trans ?_ State.oweErr_keeps
        exact Keeps.refl _

theorem State.boardGone_keeps {a0 : _} {a1 : _} : Keeps a0 (@State.boardGone a0 a1) := by
  unfold State.boardGone
  dsimp only
  refine Keeps.trans ?_ State.showCrossover_keeps
  refine Keeps.foldl ?_ (fun v0 v1 => ?_)
  · refine Keeps.trans ?_ State.bumpUnit_keeps
    refine Keeps.trans ?_ State.laneEvent_keeps
    refine Keeps.trans ?_ State.putLane_keeps
    iterate 3 refine Keeps.trans ?_ (Keeps.put (by decide))
    refine Keeps.ite ?_ ?_
    · exact Keeps.refl _
    · refine Keeps.trans ?_ (Keeps.put (by decide))
      refine Keeps.trans ?_ (Keeps.inc (by decide))
      exact Keeps.refl _
  · refine Keeps.trans ?_ State.oweErr_keeps
    exact Keeps.refl _

theorem State.payFailure_keeps {a0 : _} {a1 : _} : Keeps a0 (@State.payFailure a0 a1) := by
  unfold State.payFailure
  refine Keeps.ite ?_ ?_
  · refine Keeps.trans ?_ State.laneEvent_keeps
    refine Keeps.trans ?_ State.putLane_keeps
    exact Keeps.refl _
  · exact Keeps.refl _

theorem State.crossEdge_keeps {a0 : _} : Keeps a0 (@State.crossEdge a0) := by
  unfold State.crossEdge
  dsimp only
  refine Keeps.trans ?_ State.showCrossover_keeps
  refine Keeps.foldl ?_ (fun v0 v1 => ?_)
  · refine Keeps.foldl ?_ (fun v2 v3 => ?_)
    · exact Keeps.refl _
    · refine Keeps.ite ?_ ?_
      · refine Keeps.trans ?_ State.payFailure_keeps
        exact Keeps.refl _
      · exact Keeps.refl _
  · refine Keeps.ite ?_ ?_
    · refine Keeps.trans ?_ State.laneEvent_keeps
      refine Keeps.trans ?_ (Keeps.put (by decide))
      refine Keeps.trans ?_ State.putLane_keeps
      exact Keeps.refl _
    · refine Keeps.ite ?_ ?_
      · refine Keeps.ite ?_ ?_
        · refine Keeps.trans ?_ State.setL3_keeps
          refine Keeps.foldl ?_ (fun v4 v5 => ?_)
          · refine Keeps.trans ?_ State.laneEvent_keeps
            refine Keeps.trans ?_ (Keeps.put (by decide))
            refine Keeps.trans ?_ State.putLane_keeps
            exact Keeps.refl _
          · refine Keeps.ite ?_ ?_
            · refine Keeps.trans ?_ State.oweErr_keeps
              exact Keeps.refl _
            · exact Keeps.refl _
        · refine Keeps.trans ?_ State.laneEvent_keeps
          refine Keeps.trans ?_ (Keeps.put (by decide))
          refine Keeps.trans ?_ State.putLane_keeps
          exact Keeps.refl _
      · exact Keeps.refl _

theorem State.endCrossover_keeps {a0 : _} {a1 : _} : Keeps a0 (@State.endCrossover a0 a1) := by
  unfold State.endCrossover
  dsimp only
  refine Keeps.ite ?_ ?_
  · exact Keeps.refl _
  · refine Keeps.trans ?_ State.showCrossover_keeps
    refine Keeps.ite ?_ ?_
    · refine Keeps.trans ?_ State.setL3_keeps
      refine Keeps.ite ?_ ?_
      · refine Keeps.foldl ?_ (fun v0 v1 => ?_)
        · refine Keeps.trans ?_ State.laneEvent_keeps
          refine Keeps.trans ?_ (Keeps.put (by decide))
          refine Keeps.trans ?_ State.putLane_keeps
          exact Keeps.refl _
        · refine Keeps.trans ?_ State.oweErr_keeps
          exact Keeps.refl _
      · refine Keeps.trans ?_ (Keeps.put (by decide))
        refine Keeps.trans ?_ State.putLane_keeps
        exact Keeps.refl _
    · refine Keeps.ite ?_ ?_
      · refine Keeps.foldl ?_ (fun v2 v3 => ?_)
        · refine Keeps.trans ?_ State.laneEvent_keeps
          refine Keeps.trans ?_ (Keeps.put (by decide))
          refine Keeps.trans ?_ State.putLane_keeps
          exact Keeps.refl _
        · refine Keeps.trans ?_ State.oweErr_keeps
          exact Keeps.refl _
      · refine Keeps.trans ?_ (Keeps.put (by decide))
        refine Keeps.trans ?_ State.putLane_keeps
        exact Keeps.refl _

theorem State.endCrossovers_keeps {a0 : _} : Keeps a0 (@State.endCrossovers a0) := by
  unfold State.endCrossovers
  refine Keeps.foldl ?_ (fun v0 v1 => ?_)
  · exact Keeps.refl _
  · refine Keeps.trans ?_ State.endCrossover_keeps
    exact Keeps.refl _

theorem State.lanesTakeService_keeps {a0 : _} : Keeps a0 (@State.lanesTakeService a0) := by
  unfold State.lanesTakeService
  refine Keeps.foldl ?_ (fun v0 v1 => ?_)
  · exact Keeps.refl _
  · refine Keeps.ite ?_ ?_
    · refine Keeps.ite ?_ ?_
      · refine Keeps.trans ?_ State.putLane_keeps
        exact Keeps.refl _
      · refine Keeps.foldl ?_ (fun v2 v3 => ?_)
        · exact Keeps.refl _
        · refine Keeps.trans ?_ State.oweErr_keeps
          exact Keeps.refl _
    · exact Keeps.refl _

theorem State.laneReturn_keeps {a0 : _} {a1 : _} : Keeps a0 (@State.laneReturn a0 a1) := by
  unfold State.laneReturn
  dsimp only
  refine Keeps.ite ?_ ?_
  · refine Keeps.trans ?_ State.putLane_keeps
    refine Keeps.trans ?_ (Keeps.put (by decide))
    refine Keeps.trans ?_ State.payFailure_keeps
    exact Keeps.refl _
  · refine Keeps.trans ?_ State.oweErr_keeps
    refine Keeps.trans ?_ State.laneEvent_keeps
    refine Keeps.trans ?_ State.putLane_keeps
    refine Keeps.trans ?_ (Keeps.put (by decide))
    refine Keeps.trans ?_ State.payFailure_keeps
    exact Keeps.refl _

theorem State.sendService_keeps {a0 : _} {a1 : _} {a2 : _} {a3 : _} : Keeps a0 (@State.sendService a0 a1 a2 a3) := by
  unfold State.sendService
  dsimp only
  refine Keeps.ite ?_ ?_
  · refine Keeps.trans ?_ State.putLane_keeps
    exact Keeps.refl _
  · exact Keeps.refl _

theorem State.edgeLaunch_keeps {a0 : _} {a1 : _} : Keeps a0 (@State.edgeLaunch a0 a1) := by
  unfold State.edgeLaunch
  dsimp only
  refine Keeps.ite ?_ ?_
  · refine Keeps.trans ?_ State.putLane_keeps
    exact Keeps.refl _
  · exact Keeps.refl _

theorem execEdgeLaunch_keeps {a0 : _} {a1 : _} {t : State} (h : (@execEdgeLaunch a0 a1) = .next t) : Keeps a1 t := by
  unfold execEdgeLaunch at h
  injection h with h
  subst h
  refine Keeps.trans ?_ State.edgeLaunch_keeps
  exact Keeps.refl _

theorem execDelayMeasure_keeps {a0 : _} {a1 : _} {t : State} (h : (@execDelayMeasure a0 a1) = .next t) : Keeps a1 t := by
  unfold execDelayMeasure at h
  injection h with h
  subst h
  refine Keeps.ite ?_ ?_
  · dsimp only
    refine Keeps.trans ?_ State.putLane_keeps
    exact Keeps.refl _
  · exact Keeps.refl _

theorem execDelayRespReceive_keeps {a0 : _} {a1 : _} {a2 : _} {a3 : _} {a4 : _} {a5 : _} {t : State} (h : (@execDelayRespReceive a0 a1 a2 a3 a4 a5) = .next t) : Keeps a4 t := by
  unfold execDelayRespReceive at h
  injection h with h
  subst h
  refine Keeps.ite ?_ ?_
  · exact Keeps.refl _
  · refine Keeps.ite ?_ ?_
    · refine Keeps.trans ?_ (Keeps.inc (by decide))
      refine Keeps.trans ?_ State.putLane_keeps
      exact Keeps.refl _
    · refine Keeps.ite ?_ ?_
      · exact Keeps.refl _
      · dsimp only
        refine Keeps.ite ?_ ?_
        · refine Keeps.trans ?_ (Keeps.inc (by decide))
          refine Keeps.trans ?_ State.putLane_keeps
          exact Keeps.refl _
        · refine Keeps.trans ?_ (Keeps.put (by decide))
          refine Keeps.trans ?_ State.putLane_keeps
          exact Keeps.refl _

theorem State.putHolder_keeps {s : State} {k v : Nat} : Keeps s (s.putHolder k v) := by
  unfold State.putHolder
  split
  · refine Keeps.putKey ?_
    simp only [statusKeys, fldKey, F.laneHolder, F.mode, F.role, F.claim, F.driveEn, List.mem_cons, List.not_mem_nil, or_false]
    omega
  · exact Keeps.refl s

theorem State.laneStatusIn_keeps {a0 : _} {a1 : _} {a2 : _} : Keeps a0 (@State.laneStatusIn a0 a1 a2) := by
  unfold State.laneStatusIn
  dsimp only
  refine Keeps.ite ?_ ?_
  · refine Keeps.trans ?_ State.laneEvent_keeps
    refine Keeps.trans ?_ (Keeps.add (by decide))
    refine Keeps.trans ?_ State.putHolder_keeps
    refine Keeps.trans ?_ State.putLane_keeps
    exact Keeps.refl _
  · refine Keeps.trans ?_ (Keeps.add (by decide))
    refine Keeps.trans ?_ State.putHolder_keeps
    refine Keeps.trans ?_ State.putLane_keeps
    exact Keeps.refl _

theorem State.frameAccepted_keeps {a0 : _} {a1 : _} {a2 : _} {a3 : _} : Keeps a0 (@State.frameAccepted a0 a1 a2 a3) := by
  unfold State.frameAccepted
  dsimp only
  refine Keeps.ite ?_ ?_
  · refine Keeps.trans ?_ State.putLane_keeps
    split
    · rename_i v0 v1 v2
      refine Keeps.trans ?_ State.laneStatusIn_keeps
      refine Keeps.trans ?_ (Keeps.put (by decide))
      refine Keeps.trans ?_ (Keeps.put (by decide))
      refine Keeps.ite ?_ ?_
      · refine Keeps.trans ?_ (Keeps.inc (by decide))
        refine Keeps.trans ?_ State.putLane_keeps
        exact Keeps.refl _
      · refine Keeps.trans ?_ State.putLane_keeps
        exact Keeps.refl _
    · rename_i v3 v4
      refine Keeps.trans ?_ (Keeps.put (by decide))
      refine Keeps.trans ?_ (Keeps.put (by decide))
      refine Keeps.ite ?_ ?_
      · refine Keeps.trans ?_ (Keeps.inc (by decide))
        refine Keeps.trans ?_ State.putLane_keeps
        exact Keeps.refl _
      · refine Keeps.trans ?_ State.putLane_keeps
        exact Keeps.refl _
  · refine Keeps.trans ?_ State.addDue_keeps
    refine Keeps.trans ?_ State.putLane_keeps
    split
    · rename_i v5 v6 v7
      refine Keeps.trans ?_ State.laneStatusIn_keeps
      refine Keeps.trans ?_ (Keeps.put (by decide))
      refine Keeps.trans ?_ (Keeps.put (by decide))
      refine Keeps.ite ?_ ?_
      · refine Keeps.trans ?_ (Keeps.inc (by decide))
        refine Keeps.trans ?_ State.putLane_keeps
        exact Keeps.refl _
      · refine Keeps.trans ?_ State.putLane_keeps
        exact Keeps.refl _
    · rename_i v8 v9
      refine Keeps.trans ?_ (Keeps.put (by decide))
      refine Keeps.trans ?_ (Keeps.put (by decide))
      refine Keeps.ite ?_ ?_
      · refine Keeps.trans ?_ (Keeps.inc (by decide))
        refine Keeps.trans ?_ State.putLane_keeps
        exact Keeps.refl _
      · refine Keeps.trans ?_ State.putLane_keeps
        exact Keeps.refl _

theorem State.upstreamFrame_keeps {a0 : _} {a1 : _} {a2 : _} : Keeps a0 (@State.upstreamFrame a0 a1 a2) := by
  unfold State.upstreamFrame
  dsimp only
  refine Keeps.ite ?_ ?_
  · exact Keeps.refl _
  · refine Keeps.ite ?_ ?_
    · refine Keeps.ite ?_ ?_
      · refine Keeps.trans ?_ State.putLane_keeps
        exact Keeps.refl _
      · exact Keeps.refl _
    · refine Keeps.ite ?_ ?_
      · refine Keeps.trans ?_ (Keeps.inc (by decide))
        exact Keeps.refl _
      · refine Keeps.ite ?_ ?_
        · refine Keeps.ite ?_ ?_
          · refine Keeps.trans ?_ State.putLane_keeps
            exact Keeps.refl _
          · exact Keeps.refl _
        · refine Keeps.ite ?_ ?_
          · refine Keeps.ite ?_ ?_
            · refine Keeps.trans ?_ State.putLane_keeps
              refine Keeps.trans ?_ (Keeps.inc (by decide))
              exact Keeps.refl _
            · refine Keeps.trans ?_ (Keeps.inc (by decide))
              exact Keeps.refl _
          · refine Keeps.ite ?_ ?_
            · refine Keeps.ite ?_ ?_
              · refine Keeps.trans ?_ (Keeps.inc (by decide))
                refine Keeps.trans ?_ State.putLane_keeps
                exact Keeps.refl _
              · exact Keeps.refl _
            · refine Keeps.trans ?_ State.frameAccepted_keeps
              exact Keeps.refl _

theorem execUpstreamFrameReceive_keeps {a0 : _} {a1 : _} {a2 : _} {t : State} (h : (@execUpstreamFrameReceive a0 a1 a2) = .next t) : Keeps a2 t := by
  unfold execUpstreamFrameReceive at h
  injection h with h
  subst h
  refine Keeps.trans ?_ State.upstreamFrame_keeps
  exact Keeps.refl _

theorem execAckSend_keeps {a0 : _} {a1 : _} {a2 : _} {t : State} (h : (@execAckSend a0 a1 a2) = .next t) : Keeps a2 t := by
  unfold execAckSend at h
  injection h with h
  subst h
  refine Keeps.ite ?_ ?_
  · exact Keeps.refl _
  · dsimp only
    refine Keeps.trans ?_ State.putLane_keeps
    exact Keeps.refl _

theorem State.laneStale_keeps {a0 : _} {a1 : _} : Keeps a0 (@State.laneStale a0 a1) := by
  unfold State.laneStale
  dsimp only
  refine Keeps.ite ?_ ?_
  · refine Keeps.trans ?_ State.laneFail_keeps
    refine Keeps.ite ?_ ?_
    · refine Keeps.trans ?_ State.laneEvent_keeps
      refine Keeps.ite ?_ ?_
      · refine Keeps.trans ?_ (Keeps.put (by decide))
        refine Keeps.ite ?_ ?_
        · refine Keeps.trans ?_ (Keeps.put (by decide))
          refine Keeps.trans ?_ (Keeps.inc (by decide))
          refine Keeps.trans ?_ State.putLane_keeps
          exact Keeps.refl _
        · refine Keeps.trans ?_ State.addDue_keeps
          refine Keeps.trans ?_ (Keeps.put (by decide))
          refine Keeps.trans ?_ (Keeps.inc (by decide))
          refine Keeps.trans ?_ State.putLane_keeps
          exact Keeps.refl _
      · refine Keeps.ite ?_ ?_
        · refine Keeps.trans ?_ (Keeps.put (by decide))
          refine Keeps.trans ?_ (Keeps.inc (by decide))
          refine Keeps.trans ?_ State.putLane_keeps
          exact Keeps.refl _
        · refine Keeps.trans ?_ State.addDue_keeps
          refine Keeps.trans ?_ (Keeps.put (by decide))
          refine Keeps.trans ?_ (Keeps.inc (by decide))
          refine Keeps.trans ?_ State.putLane_keeps
          exact Keeps.refl _
    · refine Keeps.ite ?_ ?_
      · refine Keeps.trans ?_ (Keeps.put (by decide))
        refine Keeps.ite ?_ ?_
        · refine Keeps.trans ?_ (Keeps.put (by decide))
          refine Keeps.trans ?_ (Keeps.inc (by decide))
          refine Keeps.trans ?_ State.putLane_keeps
          exact Keeps.refl _
        · refine Keeps.trans ?_ State.addDue_keeps
          refine Keeps.trans ?_ (Keeps.put (by decide))
          refine Keeps.trans ?_ (Keeps.inc (by decide))
          refine Keeps.trans ?_ State.putLane_keeps
          exact Keeps.refl _
      · refine Keeps.ite ?_ ?_
        · refine Keeps.trans ?_ (Keeps.put (by decide))
          refine Keeps.trans ?_ (Keeps.inc (by decide))
          refine Keeps.trans ?_ State.putLane_keeps
          exact Keeps.refl _
        · refine Keeps.trans ?_ State.addDue_keeps
          refine Keeps.trans ?_ (Keeps.put (by decide))
          refine Keeps.trans ?_ (Keeps.inc (by decide))
          refine Keeps.trans ?_ State.putLane_keeps
          exact Keeps.refl _
  · refine Keeps.ite ?_ ?_
    · refine Keeps.trans ?_ State.laneEvent_keeps
      refine Keeps.ite ?_ ?_
      · refine Keeps.trans ?_ (Keeps.put (by decide))
        refine Keeps.ite ?_ ?_
        · refine Keeps.trans ?_ (Keeps.put (by decide))
          refine Keeps.trans ?_ (Keeps.inc (by decide))
          refine Keeps.trans ?_ State.putLane_keeps
          exact Keeps.refl _
        · refine Keeps.trans ?_ State.addDue_keeps
          refine Keeps.trans ?_ (Keeps.put (by decide))
          refine Keeps.trans ?_ (Keeps.inc (by decide))
          refine Keeps.trans ?_ State.putLane_keeps
          exact Keeps.refl _
      · refine Keeps.ite ?_ ?_
        · refine Keeps.trans ?_ (Keeps.put (by decide))
          refine Keeps.trans ?_ (Keeps.inc (by decide))
          refine Keeps.trans ?_ State.putLane_keeps
          exact Keeps.refl _
        · refine Keeps.trans ?_ State.addDue_keeps
          refine Keeps.trans ?_ (Keeps.put (by decide))
          refine Keeps.trans ?_ (Keeps.inc (by decide))
          refine Keeps.trans ?_ State.putLane_keeps
          exact Keeps.refl _
    · refine Keeps.ite ?_ ?_
      · refine Keeps.trans ?_ (Keeps.put (by decide))
        refine Keeps.ite ?_ ?_
        · refine Keeps.trans ?_ (Keeps.put (by decide))
          refine Keeps.trans ?_ (Keeps.inc (by decide))
          refine Keeps.trans ?_ State.putLane_keeps
          exact Keeps.refl _
        · refine Keeps.trans ?_ State.addDue_keeps
          refine Keeps.trans ?_ (Keeps.put (by decide))
          refine Keeps.trans ?_ (Keeps.inc (by decide))
          refine Keeps.trans ?_ State.putLane_keeps
          exact Keeps.refl _
      · refine Keeps.ite ?_ ?_
        · refine Keeps.trans ?_ (Keeps.put (by decide))
          refine Keeps.trans ?_ (Keeps.inc (by decide))
          refine Keeps.trans ?_ State.putLane_keeps
          exact Keeps.refl _
        · refine Keeps.trans ?_ State.addDue_keeps
          refine Keeps.trans ?_ (Keeps.put (by decide))
          refine Keeps.trans ?_ (Keeps.inc (by decide))
          refine Keeps.trans ?_ State.putLane_keeps
          exact Keeps.refl _

theorem State.laneGood_keeps {a0 : _} {a1 : _} : Keeps a0 (@State.laneGood a0 a1) := by
  unfold State.laneGood
  dsimp only
  refine Keeps.ite ?_ ?_
  · refine Keeps.trans ?_ State.laneReturn_keeps
    refine Keeps.ite ?_ ?_
    · refine Keeps.trans ?_ (Keeps.put (by decide))
      refine Keeps.trans ?_ (Keeps.put (by decide))
      refine Keeps.trans ?_ State.putLane_keeps
      exact Keeps.refl _
    · refine Keeps.trans ?_ (Keeps.put (by decide))
      refine Keeps.trans ?_ State.putLane_keeps
      exact Keeps.refl _
  · refine Keeps.ite ?_ ?_
    · refine Keeps.trans ?_ (Keeps.put (by decide))
      refine Keeps.trans ?_ (Keeps.put (by decide))
      refine Keeps.trans ?_ State.putLane_keeps
      exact Keeps.refl _
    · refine Keeps.trans ?_ (Keeps.put (by decide))
      refine Keeps.trans ?_ State.putLane_keeps
      exact Keeps.refl _

theorem State.windowEnd_keeps {a0 : _} {a1 : _} : Keeps a0 (@State.windowEnd a0 a1) := by
  unfold State.windowEnd
  dsimp only
  refine Keeps.ite ?_ ?_
  · exact Keeps.refl _
  · refine Keeps.ite ?_ ?_
    · refine Keeps.trans ?_ State.laneGood_keeps
      exact Keeps.refl _
    · refine Keeps.trans ?_ State.laneStale_keeps
      exact Keeps.refl _

theorem execExchangeWindowEnd_keeps {a0 : _} {a1 : _} {t : State} (h : (@execExchangeWindowEnd a0 a1) = .next t) : Keeps a1 t := by
  unfold execExchangeWindowEnd at h
  injection h with h
  subst h
  refine Keeps.trans ?_ State.windowEnd_keeps
  exact Keeps.refl _

theorem State.lossOfLink_keeps {a0 : _} {a1 : _} : Keeps a0 (@State.lossOfLink a0 a1) := by
  unfold State.lossOfLink
  dsimp only
  refine Keeps.ite ?_ ?_
  · exact Keeps.refl _
  · refine Keeps.ite ?_ ?_
    · refine Keeps.trans ?_ State.boardGone_keeps
      refine Keeps.trans ?_ (Keeps.put (by decide))
      exact Keeps.refl _
    · refine Keeps.ite ?_ ?_
      · refine Keeps.trans ?_ State.putLane_keeps
        refine Keeps.trans ?_ (Keeps.put (by decide))
        exact Keeps.refl _
      · refine Keeps.trans ?_ State.laneFail_keeps
        refine Keeps.trans ?_ (Keeps.put (by decide))
        exact Keeps.refl _

theorem execLossOfLink_keeps {a0 : _} {a1 : _} {t : State} (h : (@execLossOfLink a0 a1) = .next t) : Keeps a1 t := by
  unfold execLossOfLink at h
  injection h with h
  subst h
  refine Keeps.trans ?_ State.lossOfLink_keeps
  exact Keeps.refl _

theorem State.partnerLossIn_keeps {a0 : _} {a1 : _} : Keeps a0 (@State.partnerLossIn a0 a1) := by
  unfold State.partnerLossIn
  dsimp only
  refine Keeps.foldl ?_ (fun v0 v1 => ?_)
  · refine Keeps.mkUpd ?_ (by with_reducible rfl) (by with_reducible rfl) (by with_reducible rfl) (by with_reducible rfl)
    exact Keeps.refl _
  · split
    · rename_i v2 v3 v4
      refine Keeps.ite ?_ ?_
      · refine Keeps.trans ?_ State.boardGone_keeps
        exact Keeps.refl _
      · exact Keeps.refl _
    · rename_i v5 v6
      exact Keeps.refl _

theorem State.boardUnit_keeps {a0 : _} {a1 : _} {a2 : _} {a3 : _} {a4 : _} : Keeps a0 (@State.boardUnit a0 a1 a2 a3 a4) := by
  unfold State.boardUnit
  dsimp only
  refine Keeps.trans ?_ State.bumpUnit_keeps
  refine Keeps.trans ?_ State.putUnit_keeps
  exact Keeps.refl _

theorem State.slotInserted_keeps {a0 : _} {a1 : _} {a2 : _} {a3 : _} {a4 : _} {a5 : _} : Keeps a0 (@State.slotInserted a0 a1 a2 a3 a4 a5) := by
  unfold State.slotInserted
  dsimp only
  refine Keeps.trans ?_ State.laneEvent_keeps
  refine Keeps.trans ?_ State.putLane_keeps
  iterate 3 refine Keeps.trans ?_ (Keeps.put (by decide))
  refine Keeps.trans ?_ State.boardUnit_keeps
  refine Keeps.ite ?_ ?_
  · refine Keeps.trans ?_ State.boardGone_keeps
    exact Keeps.refl _
  · exact Keeps.refl _

theorem State.l3Inserted_keeps {a0 : _} {a1 : _} {a2 : _} {a3 : _} {a4 : _} {a5 : _} : Keeps a0 (@State.l3Inserted a0 a1 a2 a3 a4 a5) := by
  unfold State.l3Inserted
  dsimp only
  refine Keeps.trans ?_ State.laneEvent_keeps
  refine Keeps.trans ?_ State.putL3_keeps
  refine Keeps.ite ?_ ?_
  · refine Keeps.trans ?_ (Keeps.put (by decide))
    refine Keeps.trans ?_ (Keeps.put (by decide))
    refine Keeps.trans ?_ (Keeps.put (by decide))
    refine Keeps.trans ?_ State.boardUnit_keeps
    exact Keeps.refl _
  · refine Keeps.trans ?_ (Keeps.put (by decide))
    refine Keeps.trans ?_ (Keeps.put (by decide))
    refine Keeps.trans ?_ State.boardUnit_keeps
    exact Keeps.refl _

theorem State.behindBridge_keeps {a0 : _} {a1 : _} {a2 : _} {a3 : _} {a4 : _} {a5 : _} {a6 : _} : Keeps a0 (@State.behindBridge a0 a1 a2 a3 a4 a5 a6) := by
  unfold State.behindBridge
  dsimp only
  refine Keeps.trans ?_ State.laneEvent_keeps
  refine Keeps.trans ?_ State.bumpUnit_keeps
  refine Keeps.trans ?_ State.boardUnit_keeps
  exact Keeps.refl _

theorem State.mismatchFound_keeps {a0 : _} {a1 : _} {a2 : _} {a3 : _} {a4 : _} : Keeps a0 (@State.mismatchFound a0 a1 a2 a3 a4) := by
  unfold State.mismatchFound
  dsimp only
  refine Keeps.ite ?_ ?_
  · refine Keeps.trans ?_ State.putL3_keeps
    refine Keeps.trans ?_ State.bumpUnit_keeps
    refine Keeps.trans ?_ State.laneEvent_keeps
    exact Keeps.refl _
  · refine Keeps.trans ?_ (Keeps.put (by decide))
    refine Keeps.trans ?_ (Keeps.put (by decide))
    refine Keeps.trans ?_ State.putLane_keeps
    refine Keeps.trans ?_ State.bumpUnit_keeps
    refine Keeps.trans ?_ State.laneEvent_keeps
    exact Keeps.refl _

theorem State.typeWritten_keeps {a0 : _} {a1 : _} : Keeps a0 (@State.typeWritten a0 a1) := by
  unfold State.typeWritten
  dsimp only
  refine Keeps.ite ?_ ?_
  · exact Keeps.refl _
  · refine Keeps.ite ?_ ?_
    · refine Keeps.foldl ?_ (fun v0 v1 => ?_)
      · exact Keeps.refl _
      · refine Keeps.trans ?_ State.mismatchFound_keeps
        refine Keeps.trans ?_ State.putL3_keeps
        refine Keeps.ite ?_ ?_
        · refine Keeps.trans ?_ State.oweErr_keeps
          exact Keeps.refl _
        · exact Keeps.refl _
    · split
      · rename_i v2 v3 v4 v5
        refine Keeps.ite ?_ ?_
        · exact Keeps.refl _
        · refine Keeps.trans ?_ State.showCrossover_keeps
          refine Keeps.foldl ?_ (fun v6 v7 => ?_)
          · refine Keeps.trans ?_ State.mismatchFound_keeps
            refine Keeps.trans ?_ State.putLane_keeps
            exact Keeps.refl _
          · refine Keeps.trans ?_ State.oweErr_keeps
            exact Keeps.refl _
      · rename_i v8 v9
        exact Keeps.refl _

theorem State.boardInserted_keeps {a0 : _} {a1 : _} {a2 : _} {a3 : _} {a4 : _} {a5 : _} {a6 : _} {a7 : _} : Keeps a0 (@State.boardInserted a0 a1 a2 a3 a4 a5 a6 a7) := by
  unfold State.boardInserted
  dsimp only
  refine Keeps.ite ?_ ?_
  · exact Keeps.refl _
  · refine Keeps.ite ?_ ?_
    · refine Keeps.ite ?_ ?_
      · refine Keeps.trans ?_ (Keeps.put (by decide))
        refine Keeps.trans ?_ (Keeps.put (by decide))
        refine Keeps.trans ?_ State.raise_keeps
        exact Keeps.refl _
      · refine Keeps.trans ?_ State.raise_keeps
        exact Keeps.refl _
    · refine Keeps.ite ?_ ?_
      · refine Keeps.ite ?_ ?_
        · refine Keeps.trans ?_ State.behindBridge_keeps
          exact Keeps.refl _
        · exact Keeps.refl _
      · refine Keeps.ite ?_ ?_
        · refine Keeps.trans ?_ State.mismatchFound_keeps
          exact Keeps.refl _
        · refine Keeps.ite ?_ ?_
          · refine Keeps.ite ?_ ?_
            · refine Keeps.trans ?_ State.l3Inserted_keeps
              exact Keeps.refl _
            · exact Keeps.refl _
          · refine Keeps.trans ?_ State.slotInserted_keeps
            exact Keeps.refl _

theorem execBoardInserted_keeps {a0 : _} {a1 : _} {a2 : _} {a3 : _} {a4 : _} {a5 : _} {a6 : _} {a7 : _} {t : State} (h : (@execBoardInserted a0 a1 a2 a3 a4 a5 a6 a7) = .next t) : Keeps a7 t := by
  unfold execBoardInserted at h
  injection h with h
  subst h
  refine Keeps.trans ?_ State.boardInserted_keeps
  exact Keeps.refl _

theorem State.crossForward_keeps {a0 : _} {a1 : _} {a2 : _} : Keeps a0 (@State.crossForward a0 a1 a2) := by
  unfold State.crossForward
  refine Keeps.ite ?_ ?_
  · refine Keeps.ite ?_ ?_
    · exact Keeps.refl _
    · dsimp only
      refine Keeps.mkUpd ?_ (by with_reducible rfl) (by with_reducible rfl) (by with_reducible rfl) (by with_reducible rfl)
      refine Keeps.foldl ?_ (fun v0 v1 => ?_)
      · exact Keeps.refl _
      · refine Keeps.trans ?_ State.addDue_keeps
        exact Keeps.refl _
  · refine Keeps.ite ?_ ?_
    · refine Keeps.mkUpd ?_ (by with_reducible rfl) (by with_reducible rfl) (by with_reducible rfl) (by with_reducible rfl)
      exact Keeps.refl _
    · exact Keeps.refl _

theorem execCrossoverForward_keeps {a0 : _} {a1 : _} {a2 : _} {t : State} (h : (@execCrossoverForward a0 a1 a2) = .next t) : Keeps a2 t := by
  unfold execCrossoverForward at h
  injection h with h
  subst h
  refine Keeps.trans ?_ State.crossForward_keeps
  exact Keeps.refl _

theorem execLaneProbe_keeps {a0 : _} {a1 : _} {a2 : _} {t : State} (h : (@execLaneProbe a0 a1 a2) = .next t) : Keeps a2 t := by
  unfold execLaneProbe at h
  injection h with h
  subst h
  refine Keeps.ite ?_ ?_
  · exact Keeps.refl _
  · dsimp only
    refine Keeps.ite ?_ ?_
    · refine Keeps.trans ?_ State.putLane_keeps
      refine Keeps.trans ?_ State.sendService_keeps
      exact Keeps.refl _
    · refine Keeps.ite ?_ ?_
      · refine Keeps.trans ?_ State.putLane_keeps
        refine Keeps.trans ?_ State.sendService_keeps
        exact Keeps.refl _
      · refine Keeps.trans ?_ State.putLane_keeps
        refine Keeps.trans ?_ State.sendService_keeps
        exact Keeps.refl _

theorem execCrossoverEnd_keeps {a0 : _} {a1 : _} {a2 : _} {t : State} (h : (@execCrossoverEnd a0 a1 a2) = .next t) : Keeps a2 t := by
  unfold execCrossoverEnd at h
  injection h with h
  subst h
  dsimp only
  refine Keeps.mkUpd ?_ (by with_reducible rfl) (by with_reducible rfl) (by with_reducible rfl) (by with_reducible rfl)
  refine Keeps.trans ?_ State.endCrossover_keeps
  exact Keeps.refl _

theorem execL3Poll_keeps {a0 : _} {a1 : _} {a2 : _} {t : State} (h : (@execL3Poll a0 a1 a2) = .next t) : Keeps a2 t := by
  unfold execL3Poll at h
  injection h with h
  subst h
  refine Keeps.ite ?_ ?_
  · refine Keeps.trans ?_ State.putL3_keeps
    exact Keeps.refl _
  · exact Keeps.refl _

theorem execL3CheckPoll_keeps {a0 : _} {a1 : _} {a2 : _} {t : State} (h : (@execL3CheckPoll a0 a1 a2) = .next t) : Keeps a2 t := by
  unfold execL3CheckPoll at h
  injection h with h
  subst h
  refine Keeps.ite ?_ ?_
  · refine Keeps.trans ?_ State.putL3_keeps
    exact Keeps.refl _
  · exact Keeps.refl _

theorem State.showL3_keeps {a0 : _} {a1 : _} : Keeps a0 (@State.showL3 a0 a1) := by
  unfold State.showL3
  dsimp only
  refine Keeps.ite ?_ ?_
  · refine Keeps.trans ?_ (Keeps.put (by decide))
    refine Keeps.trans ?_ (Keeps.put (by decide))
    exact Keeps.refl _
  · refine Keeps.trans ?_ (Keeps.put (by decide))
    exact Keeps.refl _

theorem State.l3Stale_keeps {a0 : _} {a1 : _} {a2 : _} {a3 : _} : Keeps a0 (@State.l3Stale a0 a1 a2 a3) := by
  unfold State.l3Stale
  dsimp only
  refine Keeps.ite ?_ ?_
  · refine Keeps.trans ?_ State.laneFail_keeps
    refine Keeps.trans ?_ State.showL3_keeps
    refine Keeps.ite ?_ ?_
    · refine Keeps.ite ?_ ?_
      · refine Keeps.trans ?_ State.bumpUnit_keeps
        refine Keeps.trans ?_ State.laneEvent_keeps
        refine Keeps.ite ?_ ?_
        · refine Keeps.trans ?_ State.oweErr_keeps
          refine Keeps.trans ?_ State.laneEvent_keeps
          refine Keeps.trans ?_ (Keeps.put (by decide))
          refine Keeps.trans ?_ State.putL3_keeps
          refine Keeps.ite ?_ ?_
          · refine Keeps.trans ?_ State.laneEvent_keeps
            refine Keeps.ite ?_ ?_
            · refine Keeps.trans ?_ State.putLane_keeps
              refine Keeps.trans ?_ (Keeps.inc (by decide))
              refine Keeps.trans ?_ State.putL3_keeps
              exact Keeps.refl _
            · refine Keeps.trans ?_ State.addDue_keeps
              refine Keeps.trans ?_ State.putLane_keeps
              refine Keeps.trans ?_ (Keeps.inc (by decide))
              refine Keeps.trans ?_ State.putL3_keeps
              exact Keeps.refl _
          · refine Keeps.ite ?_ ?_
            · refine Keeps.trans ?_ State.putLane_keeps
              refine Keeps.trans ?_ (Keeps.inc (by decide))
              refine Keeps.trans ?_ State.putL3_keeps
              exact Keeps.refl _
            · refine Keeps.trans ?_ State.addDue_keeps
              refine Keeps.trans ?_ State.putLane_keeps
              refine Keeps.trans ?_ (Keeps.inc (by decide))
              refine Keeps.trans ?_ State.putL3_keeps
              exact Keeps.refl _
        · refine Keeps.trans ?_ State.laneEvent_keeps
          refine Keeps.trans ?_ (Keeps.put (by decide))
          refine Keeps.trans ?_ State.putL3_keeps
          refine Keeps.ite ?_ ?_
          · refine Keeps.trans ?_ State.laneEvent_keeps
            refine Keeps.ite ?_ ?_
            · refine Keeps.trans ?_ State.putLane_keeps
              refine Keeps.trans ?_ (Keeps.inc (by decide))
              refine Keeps.trans ?_ State.putL3_keeps
              exact Keeps.refl _
            · refine Keeps.trans ?_ State.addDue_keeps
              refine Keeps.trans ?_ State.putLane_keeps
              refine Keeps.trans ?_ (Keeps.inc (by decide))
              refine Keeps.trans ?_ State.putL3_keeps
              exact Keeps.refl _
          · refine Keeps.ite ?_ ?_
            · refine Keeps.trans ?_ State.putLane_keeps
              refine Keeps.trans ?_ (Keeps.inc (by decide))
              refine Keeps.trans ?_ State.putL3_keeps
              exact Keeps.refl _
            · refine Keeps.trans ?_ State.addDue_keeps
              refine Keeps.trans ?_ State.putLane_keeps
              refine Keeps.trans ?_ (Keeps.inc (by decide))
              refine Keeps.trans ?_ State.putL3_keeps
              exact Keeps.refl _
      · refine Keeps.ite ?_ ?_
        · refine Keeps.trans ?_ State.oweErr_keeps
          refine Keeps.trans ?_ State.laneEvent_keeps
          refine Keeps.trans ?_ (Keeps.put (by decide))
          refine Keeps.trans ?_ State.putL3_keeps
          refine Keeps.ite ?_ ?_
          · refine Keeps.trans ?_ State.laneEvent_keeps
            refine Keeps.ite ?_ ?_
            · refine Keeps.trans ?_ State.putLane_keeps
              refine Keeps.trans ?_ (Keeps.inc (by decide))
              refine Keeps.trans ?_ State.putL3_keeps
              exact Keeps.refl _
            · refine Keeps.trans ?_ State.addDue_keeps
              refine Keeps.trans ?_ State.putLane_keeps
              refine Keeps.trans ?_ (Keeps.inc (by decide))
              refine Keeps.trans ?_ State.putL3_keeps
              exact Keeps.refl _
          · refine Keeps.ite ?_ ?_
            · refine Keeps.trans ?_ State.putLane_keeps
              refine Keeps.trans ?_ (Keeps.inc (by decide))
              refine Keeps.trans ?_ State.putL3_keeps
              exact Keeps.refl _
            · refine Keeps.trans ?_ State.addDue_keeps
              refine Keeps.trans ?_ State.putLane_keeps
              refine Keeps.trans ?_ (Keeps.inc (by decide))
              refine Keeps.trans ?_ State.putL3_keeps
              exact Keeps.refl _
        · refine Keeps.trans ?_ State.laneEvent_keeps
          refine Keeps.trans ?_ (Keeps.put (by decide))
          refine Keeps.trans ?_ State.putL3_keeps
          refine Keeps.ite ?_ ?_
          · refine Keeps.trans ?_ State.laneEvent_keeps
            refine Keeps.ite ?_ ?_
            · refine Keeps.trans ?_ State.putLane_keeps
              refine Keeps.trans ?_ (Keeps.inc (by decide))
              refine Keeps.trans ?_ State.putL3_keeps
              exact Keeps.refl _
            · refine Keeps.trans ?_ State.addDue_keeps
              refine Keeps.trans ?_ State.putLane_keeps
              refine Keeps.trans ?_ (Keeps.inc (by decide))
              refine Keeps.trans ?_ State.putL3_keeps
              exact Keeps.refl _
          · refine Keeps.ite ?_ ?_
            · refine Keeps.trans ?_ State.putLane_keeps
              refine Keeps.trans ?_ (Keeps.inc (by decide))
              refine Keeps.trans ?_ State.putL3_keeps
              exact Keeps.refl _
            · refine Keeps.trans ?_ State.addDue_keeps
              refine Keeps.trans ?_ State.putLane_keeps
              refine Keeps.trans ?_ (Keeps.inc (by decide))
              refine Keeps.trans ?_ State.putL3_keeps
              exact Keeps.refl _
    · refine Keeps.ite ?_ ?_
      · refine Keeps.trans ?_ State.laneEvent_keeps
        refine Keeps.ite ?_ ?_
        · refine Keeps.trans ?_ State.putLane_keeps
          refine Keeps.trans ?_ (Keeps.inc (by decide))
          refine Keeps.trans ?_ State.putL3_keeps
          exact Keeps.refl _
        · refine Keeps.trans ?_ State.addDue_keeps
          refine Keeps.trans ?_ State.putLane_keeps
          refine Keeps.trans ?_ (Keeps.inc (by decide))
          refine Keeps.trans ?_ State.putL3_keeps
          exact Keeps.refl _
      · refine Keeps.ite ?_ ?_
        · refine Keeps.trans ?_ State.putLane_keeps
          refine Keeps.trans ?_ (Keeps.inc (by decide))
          refine Keeps.trans ?_ State.putL3_keeps
          exact Keeps.refl _
        · refine Keeps.trans ?_ State.addDue_keeps
          refine Keeps.trans ?_ State.putLane_keeps
          refine Keeps.trans ?_ (Keeps.inc (by decide))
          refine Keeps.trans ?_ State.putL3_keeps
          exact Keeps.refl _
  · refine Keeps.trans ?_ State.showL3_keeps
    refine Keeps.ite ?_ ?_
    · refine Keeps.ite ?_ ?_
      · refine Keeps.trans ?_ State.bumpUnit_keeps
        refine Keeps.trans ?_ State.laneEvent_keeps
        refine Keeps.ite ?_ ?_
        · refine Keeps.trans ?_ State.oweErr_keeps
          refine Keeps.trans ?_ State.laneEvent_keeps
          refine Keeps.trans ?_ (Keeps.put (by decide))
          refine Keeps.trans ?_ State.putL3_keeps
          refine Keeps.ite ?_ ?_
          · refine Keeps.trans ?_ State.laneEvent_keeps
            refine Keeps.ite ?_ ?_
            · refine Keeps.trans ?_ State.putLane_keeps
              refine Keeps.trans ?_ (Keeps.inc (by decide))
              refine Keeps.trans ?_ State.putL3_keeps
              exact Keeps.refl _
            · refine Keeps.trans ?_ State.addDue_keeps
              refine Keeps.trans ?_ State.putLane_keeps
              refine Keeps.trans ?_ (Keeps.inc (by decide))
              refine Keeps.trans ?_ State.putL3_keeps
              exact Keeps.refl _
          · refine Keeps.ite ?_ ?_
            · refine Keeps.trans ?_ State.putLane_keeps
              refine Keeps.trans ?_ (Keeps.inc (by decide))
              refine Keeps.trans ?_ State.putL3_keeps
              exact Keeps.refl _
            · refine Keeps.trans ?_ State.addDue_keeps
              refine Keeps.trans ?_ State.putLane_keeps
              refine Keeps.trans ?_ (Keeps.inc (by decide))
              refine Keeps.trans ?_ State.putL3_keeps
              exact Keeps.refl _
        · refine Keeps.trans ?_ State.laneEvent_keeps
          refine Keeps.trans ?_ (Keeps.put (by decide))
          refine Keeps.trans ?_ State.putL3_keeps
          refine Keeps.ite ?_ ?_
          · refine Keeps.trans ?_ State.laneEvent_keeps
            refine Keeps.ite ?_ ?_
            · refine Keeps.trans ?_ State.putLane_keeps
              refine Keeps.trans ?_ (Keeps.inc (by decide))
              refine Keeps.trans ?_ State.putL3_keeps
              exact Keeps.refl _
            · refine Keeps.trans ?_ State.addDue_keeps
              refine Keeps.trans ?_ State.putLane_keeps
              refine Keeps.trans ?_ (Keeps.inc (by decide))
              refine Keeps.trans ?_ State.putL3_keeps
              exact Keeps.refl _
          · refine Keeps.ite ?_ ?_
            · refine Keeps.trans ?_ State.putLane_keeps
              refine Keeps.trans ?_ (Keeps.inc (by decide))
              refine Keeps.trans ?_ State.putL3_keeps
              exact Keeps.refl _
            · refine Keeps.trans ?_ State.addDue_keeps
              refine Keeps.trans ?_ State.putLane_keeps
              refine Keeps.trans ?_ (Keeps.inc (by decide))
              refine Keeps.trans ?_ State.putL3_keeps
              exact Keeps.refl _
      · refine Keeps.ite ?_ ?_
        · refine Keeps.trans ?_ State.oweErr_keeps
          refine Keeps.trans ?_ State.laneEvent_keeps
          refine Keeps.trans ?_ (Keeps.put (by decide))
          refine Keeps.trans ?_ State.putL3_keeps
          refine Keeps.ite ?_ ?_
          · refine Keeps.trans ?_ State.laneEvent_keeps
            refine Keeps.ite ?_ ?_
            · refine Keeps.trans ?_ State.putLane_keeps
              refine Keeps.trans ?_ (Keeps.inc (by decide))
              refine Keeps.trans ?_ State.putL3_keeps
              exact Keeps.refl _
            · refine Keeps.trans ?_ State.addDue_keeps
              refine Keeps.trans ?_ State.putLane_keeps
              refine Keeps.trans ?_ (Keeps.inc (by decide))
              refine Keeps.trans ?_ State.putL3_keeps
              exact Keeps.refl _
          · refine Keeps.ite ?_ ?_
            · refine Keeps.trans ?_ State.putLane_keeps
              refine Keeps.trans ?_ (Keeps.inc (by decide))
              refine Keeps.trans ?_ State.putL3_keeps
              exact Keeps.refl _
            · refine Keeps.trans ?_ State.addDue_keeps
              refine Keeps.trans ?_ State.putLane_keeps
              refine Keeps.trans ?_ (Keeps.inc (by decide))
              refine Keeps.trans ?_ State.putL3_keeps
              exact Keeps.refl _
        · refine Keeps.trans ?_ State.laneEvent_keeps
          refine Keeps.trans ?_ (Keeps.put (by decide))
          refine Keeps.trans ?_ State.putL3_keeps
          refine Keeps.ite ?_ ?_
          · refine Keeps.trans ?_ State.laneEvent_keeps
            refine Keeps.ite ?_ ?_
            · refine Keeps.trans ?_ State.putLane_keeps
              refine Keeps.trans ?_ (Keeps.inc (by decide))
              refine Keeps.trans ?_ State.putL3_keeps
              exact Keeps.refl _
            · refine Keeps.trans ?_ State.addDue_keeps
              refine Keeps.trans ?_ State.putLane_keeps
              refine Keeps.trans ?_ (Keeps.inc (by decide))
              refine Keeps.trans ?_ State.putL3_keeps
              exact Keeps.refl _
          · refine Keeps.ite ?_ ?_
            · refine Keeps.trans ?_ State.putLane_keeps
              refine Keeps.trans ?_ (Keeps.inc (by decide))
              refine Keeps.trans ?_ State.putL3_keeps
              exact Keeps.refl _
            · refine Keeps.trans ?_ State.addDue_keeps
              refine Keeps.trans ?_ State.putLane_keeps
              refine Keeps.trans ?_ (Keeps.inc (by decide))
              refine Keeps.trans ?_ State.putL3_keeps
              exact Keeps.refl _
    · refine Keeps.ite ?_ ?_
      · refine Keeps.trans ?_ State.laneEvent_keeps
        refine Keeps.ite ?_ ?_
        · refine Keeps.trans ?_ State.putLane_keeps
          refine Keeps.trans ?_ (Keeps.inc (by decide))
          refine Keeps.trans ?_ State.putL3_keeps
          exact Keeps.refl _
        · refine Keeps.trans ?_ State.addDue_keeps
          refine Keeps.trans ?_ State.putLane_keeps
          refine Keeps.trans ?_ (Keeps.inc (by decide))
          refine Keeps.trans ?_ State.putL3_keeps
          exact Keeps.refl _
      · refine Keeps.ite ?_ ?_
        · refine Keeps.trans ?_ State.putLane_keeps
          refine Keeps.trans ?_ (Keeps.inc (by decide))
          refine Keeps.trans ?_ State.putL3_keeps
          exact Keeps.refl _
        · refine Keeps.trans ?_ State.addDue_keeps
          refine Keeps.trans ?_ State.putLane_keeps
          refine Keeps.trans ?_ (Keeps.inc (by decide))
          refine Keeps.trans ?_ State.putL3_keeps
          exact Keeps.refl _

theorem State.l3Good_keeps {a0 : _} {a1 : _} {a2 : _} {a3 : _} {a4 : _} : Keeps a0 (@State.l3Good a0 a1 a2 a3 a4) := by
  unfold State.l3Good
  dsimp only
  refine Keeps.trans ?_ State.showL3_keeps
  refine Keeps.ite ?_ ?_
  · refine Keeps.ite ?_ ?_
    · refine Keeps.trans ?_ State.putLane_keeps
      refine Keeps.trans ?_ (Keeps.put (by decide))
      refine Keeps.ite ?_ ?_
      · refine Keeps.trans ?_ State.oweErr_keeps
        refine Keeps.trans ?_ State.laneEvent_keeps
        refine Keeps.trans ?_ State.putL3_keeps
        refine Keeps.ite ?_ ?_
        · refine Keeps.ite ?_ ?_
          · refine Keeps.trans ?_ State.laneEvent_keeps
            refine Keeps.ite ?_ ?_
            · refine Keeps.trans ?_ (Keeps.put (by decide))
              refine Keeps.trans ?_ (Keeps.put (by decide))
              refine Keeps.trans ?_ (Keeps.put (by decide))
              refine Keeps.trans ?_ State.putLane_keeps
              refine Keeps.trans ?_ State.putHolder_keeps
              refine Keeps.trans ?_ State.putL3_keeps
              exact Keeps.refl _
            · refine Keeps.trans ?_ (Keeps.put (by decide))
              refine Keeps.trans ?_ (Keeps.put (by decide))
              refine Keeps.trans ?_ State.putLane_keeps
              refine Keeps.trans ?_ State.putHolder_keeps
              refine Keeps.trans ?_ State.putL3_keeps
              exact Keeps.refl _
          · refine Keeps.ite ?_ ?_
            · refine Keeps.trans ?_ (Keeps.put (by decide))
              refine Keeps.trans ?_ (Keeps.put (by decide))
              refine Keeps.trans ?_ (Keeps.put (by decide))
              refine Keeps.trans ?_ State.putLane_keeps
              refine Keeps.trans ?_ State.putHolder_keeps
              refine Keeps.trans ?_ State.putL3_keeps
              exact Keeps.refl _
            · refine Keeps.trans ?_ (Keeps.put (by decide))
              refine Keeps.trans ?_ (Keeps.put (by decide))
              refine Keeps.trans ?_ State.putLane_keeps
              refine Keeps.trans ?_ State.putHolder_keeps
              refine Keeps.trans ?_ State.putL3_keeps
              exact Keeps.refl _
        · refine Keeps.trans ?_ State.addDue_keeps
          refine Keeps.ite ?_ ?_
          · refine Keeps.trans ?_ State.laneEvent_keeps
            refine Keeps.ite ?_ ?_
            · refine Keeps.trans ?_ (Keeps.put (by decide))
              refine Keeps.trans ?_ (Keeps.put (by decide))
              refine Keeps.trans ?_ (Keeps.put (by decide))
              refine Keeps.trans ?_ State.putLane_keeps
              refine Keeps.trans ?_ State.putHolder_keeps
              refine Keeps.trans ?_ State.putL3_keeps
              exact Keeps.refl _
            · refine Keeps.trans ?_ (Keeps.put (by decide))
              refine Keeps.trans ?_ (Keeps.put (by decide))
              refine Keeps.trans ?_ State.putLane_keeps
              refine Keeps.trans ?_ State.putHolder_keeps
              refine Keeps.trans ?_ State.putL3_keeps
              exact Keeps.refl _
          · refine Keeps.ite ?_ ?_
            · refine Keeps.trans ?_ (Keeps.put (by decide))
              refine Keeps.trans ?_ (Keeps.put (by decide))
              refine Keeps.trans ?_ (Keeps.put (by decide))
              refine Keeps.trans ?_ State.putLane_keeps
              refine Keeps.trans ?_ State.putHolder_keeps
              refine Keeps.trans ?_ State.putL3_keeps
              exact Keeps.refl _
            · refine Keeps.trans ?_ (Keeps.put (by decide))
              refine Keeps.trans ?_ (Keeps.put (by decide))
              refine Keeps.trans ?_ State.putLane_keeps
              refine Keeps.trans ?_ State.putHolder_keeps
              refine Keeps.trans ?_ State.putL3_keeps
              exact Keeps.refl _
      · refine Keeps.trans ?_ State.putL3_keeps
        refine Keeps.ite ?_ ?_
        · refine Keeps.ite ?_ ?_
          · refine Keeps.trans ?_ State.laneEvent_keeps
            refine Keeps.ite ?_ ?_
            · refine Keeps.trans ?_ (Keeps.put (by decide))
              refine Keeps.trans ?_ (Keeps.put (by decide))
              refine Keeps.trans ?_ (Keeps.put (by decide))
              refine Keeps.trans ?_ State.putLane_keeps
              refine Keeps.trans ?_ State.putHolder_keeps
              refine Keeps.trans ?_ State.putL3_keeps
              exact Keeps.refl _
            · refine Keeps.trans ?_ (Keeps.put (by decide))
              refine Keeps.trans ?_ (Keeps.put (by decide))
              refine Keeps.trans ?_ State.putLane_keeps
              refine Keeps.trans ?_ State.putHolder_keeps
              refine Keeps.trans ?_ State.putL3_keeps
              exact Keeps.refl _
          · refine Keeps.ite ?_ ?_
            · refine Keeps.trans ?_ (Keeps.put (by decide))
              refine Keeps.trans ?_ (Keeps.put (by decide))
              refine Keeps.trans ?_ (Keeps.put (by decide))
              refine Keeps.trans ?_ State.putLane_keeps
              refine Keeps.trans ?_ State.putHolder_keeps
              refine Keeps.trans ?_ State.putL3_keeps
              exact Keeps.refl _
            · refine Keeps.trans ?_ (Keeps.put (by decide))
              refine Keeps.trans ?_ (Keeps.put (by decide))
              refine Keeps.trans ?_ State.putLane_keeps
              refine Keeps.trans ?_ State.putHolder_keeps
              refine Keeps.trans ?_ State.putL3_keeps
              exact Keeps.refl _
        · refine Keeps.trans ?_ State.addDue_keeps
          refine Keeps.ite ?_ ?_
          · refine Keeps.trans ?_ State.laneEvent_keeps
            refine Keeps.ite ?_ ?_
            · refine Keeps.trans ?_ (Keeps.put (by decide))
              refine Keeps.trans ?_ (Keeps.put (by decide))
              refine Keeps.trans ?_ (Keeps.put (by decide))
              refine Keeps.trans ?_ State.putLane_keeps
              refine Keeps.trans ?_ State.putHolder_keeps
              refine Keeps.trans ?_ State.putL3_keeps
              exact Keeps.refl _
            · refine Keeps.trans ?_ (Keeps.put (by decide))
              refine Keeps.trans ?_ (Keeps.put (by decide))
              refine Keeps.trans ?_ State.putLane_keeps
              refine Keeps.trans ?_ State.putHolder_keeps
              refine Keeps.trans ?_ State.putL3_keeps
              exact Keeps.refl _
          · refine Keeps.ite ?_ ?_
            · refine Keeps.trans ?_ (Keeps.put (by decide))
              refine Keeps.trans ?_ (Keeps.put (by decide))
              refine Keeps.trans ?_ (Keeps.put (by decide))
              refine Keeps.trans ?_ State.putLane_keeps
              refine Keeps.trans ?_ State.putHolder_keeps
              refine Keeps.trans ?_ State.putL3_keeps
              exact Keeps.refl _
            · refine Keeps.trans ?_ (Keeps.put (by decide))
              refine Keeps.trans ?_ (Keeps.put (by decide))
              refine Keeps.trans ?_ State.putLane_keeps
              refine Keeps.trans ?_ State.putHolder_keeps
              refine Keeps.trans ?_ State.putL3_keeps
              exact Keeps.refl _
    · refine Keeps.ite ?_ ?_
      · refine Keeps.trans ?_ State.oweErr_keeps
        refine Keeps.trans ?_ State.laneEvent_keeps
        refine Keeps.trans ?_ State.putL3_keeps
        refine Keeps.ite ?_ ?_
        · refine Keeps.ite ?_ ?_
          · refine Keeps.trans ?_ State.laneEvent_keeps
            refine Keeps.ite ?_ ?_
            · refine Keeps.trans ?_ (Keeps.put (by decide))
              refine Keeps.trans ?_ (Keeps.put (by decide))
              refine Keeps.trans ?_ (Keeps.put (by decide))
              refine Keeps.trans ?_ State.putLane_keeps
              refine Keeps.trans ?_ State.putHolder_keeps
              refine Keeps.trans ?_ State.putL3_keeps
              exact Keeps.refl _
            · refine Keeps.trans ?_ (Keeps.put (by decide))
              refine Keeps.trans ?_ (Keeps.put (by decide))
              refine Keeps.trans ?_ State.putLane_keeps
              refine Keeps.trans ?_ State.putHolder_keeps
              refine Keeps.trans ?_ State.putL3_keeps
              exact Keeps.refl _
          · refine Keeps.ite ?_ ?_
            · refine Keeps.trans ?_ (Keeps.put (by decide))
              refine Keeps.trans ?_ (Keeps.put (by decide))
              refine Keeps.trans ?_ (Keeps.put (by decide))
              refine Keeps.trans ?_ State.putLane_keeps
              refine Keeps.trans ?_ State.putHolder_keeps
              refine Keeps.trans ?_ State.putL3_keeps
              exact Keeps.refl _
            · refine Keeps.trans ?_ (Keeps.put (by decide))
              refine Keeps.trans ?_ (Keeps.put (by decide))
              refine Keeps.trans ?_ State.putLane_keeps
              refine Keeps.trans ?_ State.putHolder_keeps
              refine Keeps.trans ?_ State.putL3_keeps
              exact Keeps.refl _
        · refine Keeps.trans ?_ State.addDue_keeps
          refine Keeps.ite ?_ ?_
          · refine Keeps.trans ?_ State.laneEvent_keeps
            refine Keeps.ite ?_ ?_
            · refine Keeps.trans ?_ (Keeps.put (by decide))
              refine Keeps.trans ?_ (Keeps.put (by decide))
              refine Keeps.trans ?_ (Keeps.put (by decide))
              refine Keeps.trans ?_ State.putLane_keeps
              refine Keeps.trans ?_ State.putHolder_keeps
              refine Keeps.trans ?_ State.putL3_keeps
              exact Keeps.refl _
            · refine Keeps.trans ?_ (Keeps.put (by decide))
              refine Keeps.trans ?_ (Keeps.put (by decide))
              refine Keeps.trans ?_ State.putLane_keeps
              refine Keeps.trans ?_ State.putHolder_keeps
              refine Keeps.trans ?_ State.putL3_keeps
              exact Keeps.refl _
          · refine Keeps.ite ?_ ?_
            · refine Keeps.trans ?_ (Keeps.put (by decide))
              refine Keeps.trans ?_ (Keeps.put (by decide))
              refine Keeps.trans ?_ (Keeps.put (by decide))
              refine Keeps.trans ?_ State.putLane_keeps
              refine Keeps.trans ?_ State.putHolder_keeps
              refine Keeps.trans ?_ State.putL3_keeps
              exact Keeps.refl _
            · refine Keeps.trans ?_ (Keeps.put (by decide))
              refine Keeps.trans ?_ (Keeps.put (by decide))
              refine Keeps.trans ?_ State.putLane_keeps
              refine Keeps.trans ?_ State.putHolder_keeps
              refine Keeps.trans ?_ State.putL3_keeps
              exact Keeps.refl _
      · refine Keeps.trans ?_ State.putL3_keeps
        refine Keeps.ite ?_ ?_
        · refine Keeps.ite ?_ ?_
          · refine Keeps.trans ?_ State.laneEvent_keeps
            refine Keeps.ite ?_ ?_
            · refine Keeps.trans ?_ (Keeps.put (by decide))
              refine Keeps.trans ?_ (Keeps.put (by decide))
              refine Keeps.trans ?_ (Keeps.put (by decide))
              refine Keeps.trans ?_ State.putLane_keeps
              refine Keeps.trans ?_ State.putHolder_keeps
              refine Keeps.trans ?_ State.putL3_keeps
              exact Keeps.refl _
            · refine Keeps.trans ?_ (Keeps.put (by decide))
              refine Keeps.trans ?_ (Keeps.put (by decide))
              refine Keeps.trans ?_ State.putLane_keeps
              refine Keeps.trans ?_ State.putHolder_keeps
              refine Keeps.trans ?_ State.putL3_keeps
              exact Keeps.refl _
          · refine Keeps.ite ?_ ?_
            · refine Keeps.trans ?_ (Keeps.put (by decide))
              refine Keeps.trans ?_ (Keeps.put (by decide))
              refine Keeps.trans ?_ (Keeps.put (by decide))
              refine Keeps.trans ?_ State.putLane_keeps
              refine Keeps.trans ?_ State.putHolder_keeps
              refine Keeps.trans ?_ State.putL3_keeps
              exact Keeps.refl _
            · refine Keeps.trans ?_ (Keeps.put (by decide))
              refine Keeps.trans ?_ (Keeps.put (by decide))
              refine Keeps.trans ?_ State.putLane_keeps
              refine Keeps.trans ?_ State.putHolder_keeps
              refine Keeps.trans ?_ State.putL3_keeps
              exact Keeps.refl _
        · refine Keeps.trans ?_ State.addDue_keeps
          refine Keeps.ite ?_ ?_
          · refine Keeps.trans ?_ State.laneEvent_keeps
            refine Keeps.ite ?_ ?_
            · refine Keeps.trans ?_ (Keeps.put (by decide))
              refine Keeps.trans ?_ (Keeps.put (by decide))
              refine Keeps.trans ?_ (Keeps.put (by decide))
              refine Keeps.trans ?_ State.putLane_keeps
              refine Keeps.trans ?_ State.putHolder_keeps
              refine Keeps.trans ?_ State.putL3_keeps
              exact Keeps.refl _
            · refine Keeps.trans ?_ (Keeps.put (by decide))
              refine Keeps.trans ?_ (Keeps.put (by decide))
              refine Keeps.trans ?_ State.putLane_keeps
              refine Keeps.trans ?_ State.putHolder_keeps
              refine Keeps.trans ?_ State.putL3_keeps
              exact Keeps.refl _
          · refine Keeps.ite ?_ ?_
            · refine Keeps.trans ?_ (Keeps.put (by decide))
              refine Keeps.trans ?_ (Keeps.put (by decide))
              refine Keeps.trans ?_ (Keeps.put (by decide))
              refine Keeps.trans ?_ State.putLane_keeps
              refine Keeps.trans ?_ State.putHolder_keeps
              refine Keeps.trans ?_ State.putL3_keeps
              exact Keeps.refl _
            · refine Keeps.trans ?_ (Keeps.put (by decide))
              refine Keeps.trans ?_ (Keeps.put (by decide))
              refine Keeps.trans ?_ State.putLane_keeps
              refine Keeps.trans ?_ State.putHolder_keeps
              refine Keeps.trans ?_ State.putL3_keeps
              exact Keeps.refl _
  · refine Keeps.ite ?_ ?_
    · refine Keeps.ite ?_ ?_
      · refine Keeps.trans ?_ State.laneEvent_keeps
        refine Keeps.ite ?_ ?_
        · refine Keeps.trans ?_ (Keeps.put (by decide))
          refine Keeps.trans ?_ (Keeps.put (by decide))
          refine Keeps.trans ?_ (Keeps.put (by decide))
          refine Keeps.trans ?_ State.putLane_keeps
          refine Keeps.trans ?_ State.putHolder_keeps
          refine Keeps.trans ?_ State.putL3_keeps
          exact Keeps.refl _
        · refine Keeps.trans ?_ (Keeps.put (by decide))
          refine Keeps.trans ?_ (Keeps.put (by decide))
          refine Keeps.trans ?_ State.putLane_keeps
          refine Keeps.trans ?_ State.putHolder_keeps
          refine Keeps.trans ?_ State.putL3_keeps
          exact Keeps.refl _
      · refine Keeps.ite ?_ ?_
        · refine Keeps.trans ?_ (Keeps.put (by decide))
          refine Keeps.trans ?_ (Keeps.put (by decide))
          refine Keeps.trans ?_ (Keeps.put (by decide))
          refine Keeps.trans ?_ State.putLane_keeps
          refine Keeps.trans ?_ State.putHolder_keeps
          refine Keeps.trans ?_ State.putL3_keeps
          exact Keeps.refl _
        · refine Keeps.trans ?_ (Keeps.put (by decide))
          refine Keeps.trans ?_ (Keeps.put (by decide))
          refine Keeps.trans ?_ State.putLane_keeps
          refine Keeps.trans ?_ State.putHolder_keeps
          refine Keeps.trans ?_ State.putL3_keeps
          exact Keeps.refl _
    · refine Keeps.trans ?_ State.addDue_keeps
      refine Keeps.ite ?_ ?_
      · refine Keeps.trans ?_ State.laneEvent_keeps
        refine Keeps.ite ?_ ?_
        · refine Keeps.trans ?_ (Keeps.put (by decide))
          refine Keeps.trans ?_ (Keeps.put (by decide))
          refine Keeps.trans ?_ (Keeps.put (by decide))
          refine Keeps.trans ?_ State.putLane_keeps
          refine Keeps.trans ?_ State.putHolder_keeps
          refine Keeps.trans ?_ State.putL3_keeps
          exact Keeps.refl _
        · refine Keeps.trans ?_ (Keeps.put (by decide))
          refine Keeps.trans ?_ (Keeps.put (by decide))
          refine Keeps.trans ?_ State.putLane_keeps
          refine Keeps.trans ?_ State.putHolder_keeps
          refine Keeps.trans ?_ State.putL3_keeps
          exact Keeps.refl _
      · refine Keeps.ite ?_ ?_
        · refine Keeps.trans ?_ (Keeps.put (by decide))
          refine Keeps.trans ?_ (Keeps.put (by decide))
          refine Keeps.trans ?_ (Keeps.put (by decide))
          refine Keeps.trans ?_ State.putLane_keeps
          refine Keeps.trans ?_ State.putHolder_keeps
          refine Keeps.trans ?_ State.putL3_keeps
          exact Keeps.refl _
        · refine Keeps.trans ?_ (Keeps.put (by decide))
          refine Keeps.trans ?_ (Keeps.put (by decide))
          refine Keeps.trans ?_ State.putLane_keeps
          refine Keeps.trans ?_ State.putHolder_keeps
          refine Keeps.trans ?_ State.putL3_keeps
          exact Keeps.refl _

theorem execL3ResponseReceive_keeps {a0 : _} {a1 : _} {a2 : _} {a3 : _} {a4 : _} {a5 : _} {a6 : _} {a7 : _} {a8 : _} {t : State} (h : (@execL3ResponseReceive a0 a1 a2 a3 a4 a5 a6 a7 a8) = .next t) : Keeps a6 t := by
  unfold execL3ResponseReceive at h
  injection h with h
  subst h
  refine Keeps.ite ?_ ?_
  · exact Keeps.refl _
  · refine Keeps.ite ?_ ?_
    · refine Keeps.trans ?_ State.l3Good_keeps
      exact Keeps.refl _
    · refine Keeps.trans ?_ State.l3Stale_keeps
      exact Keeps.refl _

theorem execL3ResponseTimeout_keeps {a0 : _} {a1 : _} {a2 : _} {a3 : _} {t : State} (h : (@execL3ResponseTimeout a0 a1 a2 a3) = .next t) : Keeps a3 t := by
  unfold execL3ResponseTimeout at h
  injection h with h
  subst h
  refine Keeps.ite ?_ ?_
  · exact Keeps.refl _
  · refine Keeps.trans ?_ State.l3Stale_keeps
    exact Keeps.refl _

theorem State.wslFrame_keeps {a0 : _} {a1 : _} {a2 : _} {a3 : _} {a4 : _} : Keeps a0 (@State.wslFrame a0 a1 a2 a3 a4) := by
  unfold State.wslFrame
  dsimp only
  refine Keeps.ite ?_ ?_
  · exact Keeps.refl _
  · refine Keeps.ite ?_ ?_
    · refine Keeps.trans ?_ State.putWsl_keeps
      exact Keeps.refl _
    · refine Keeps.ite ?_ ?_
      · exact Keeps.refl _
      · refine Keeps.ite ?_ ?_
        · refine Keeps.trans ?_ State.putWsl_keeps
          exact Keeps.refl _
        · refine Keeps.ite ?_ ?_
          · exact Keeps.refl _
          · refine Keeps.ite ?_ ?_
            · exact Keeps.refl _
            · refine Keeps.ite ?_ ?_
              · refine Keeps.trans ?_ (Keeps.inc (by decide))
                exact Keeps.refl _
              · refine Keeps.ite ?_ ?_
                · refine Keeps.trans ?_ State.putWsl_keeps
                  exact Keeps.refl _
                · refine Keeps.trans ?_ State.putWsl_keeps
                  exact Keeps.refl _

theorem execWslFrameReceive_keeps {a0 : _} {a1 : _} {a2 : _} {a3 : _} {a4 : _} {t : State} (h : (@execWslFrameReceive a0 a1 a2 a3 a4) = .next t) : Keeps a3 t := by
  unfold execWslFrameReceive at h
  injection h with h
  subst h
  refine Keeps.trans ?_ State.wslFrame_keeps
  exact Keeps.refl _

theorem State.wslGood_keeps {a0 : _} {a1 : _} : Keeps a0 (@State.wslGood a0 a1) := by
  unfold State.wslGood
  dsimp only
  refine Keeps.ite ?_ ?_
  · refine Keeps.trans ?_ State.oweErr_keeps
    refine Keeps.trans ?_ State.raiseWsl_keeps
    refine Keeps.trans ?_ (Keeps.put (by decide))
    refine Keeps.trans ?_ State.putWsl_keeps
    refine Keeps.trans ?_ State.addDue_keeps
    refine Keeps.trans ?_ State.putWsl_keeps
    exact Keeps.refl _
  · refine Keeps.ite ?_ ?_
    · refine Keeps.trans ?_ State.addDue_keeps
      refine Keeps.trans ?_ State.putWsl_keeps
      exact Keeps.refl _
    · refine Keeps.trans ?_ (Keeps.put (by decide))
      refine Keeps.trans ?_ State.putWsl_keeps
      refine Keeps.trans ?_ State.addDue_keeps
      refine Keeps.trans ?_ State.putWsl_keeps
      exact Keeps.refl _

theorem State.wslStale_keeps {a0 : _} {a1 : _} {a2 : _} : Keeps a0 (@State.wslStale a0 a1 a2) := by
  unfold State.wslStale
  dsimp only
  refine Keeps.ite ?_ ?_
  · refine Keeps.trans ?_ State.addDue_keeps
    refine Keeps.trans ?_ State.putWsl_keeps
    exact Keeps.refl _
  · refine Keeps.ite ?_ ?_
    · refine Keeps.trans ?_ State.oweErr_keeps
      refine Keeps.trans ?_ State.raiseWsl_keeps
      refine Keeps.trans ?_ (Keeps.put (by decide))
      refine Keeps.trans ?_ State.putWsl_keeps
      refine Keeps.trans ?_ (Keeps.put (by decide))
      refine Keeps.ite ?_ ?_
      · refine Keeps.trans ?_ State.raiseWsl_keeps
        refine Keeps.trans ?_ State.addDue_keeps
        refine Keeps.trans ?_ State.putWsl_keeps
        exact Keeps.refl _
      · refine Keeps.trans ?_ State.addDue_keeps
        refine Keeps.trans ?_ State.putWsl_keeps
        exact Keeps.refl _
    · refine Keeps.trans ?_ (Keeps.put (by decide))
      refine Keeps.ite ?_ ?_
      · refine Keeps.trans ?_ State.raiseWsl_keeps
        refine Keeps.trans ?_ State.addDue_keeps
        refine Keeps.trans ?_ State.putWsl_keeps
        exact Keeps.refl _
      · refine Keeps.trans ?_ State.addDue_keeps
        refine Keeps.trans ?_ State.putWsl_keeps
        exact Keeps.refl _

theorem State.wslDeadline_keeps {a0 : _} {a1 : _} : Keeps a0 (@State.wslDeadline a0 a1) := by
  unfold State.wslDeadline
  dsimp only
  refine Keeps.ite ?_ ?_
  · exact Keeps.refl _
  · refine Keeps.ite ?_ ?_
    · exact Keeps.refl _
    · refine Keeps.ite ?_ ?_
      · refine Keeps.trans ?_ State.wslGood_keeps
        exact Keeps.refl _
      · refine Keeps.trans ?_ State.wslStale_keeps
        exact Keeps.refl _

theorem execWslExchangeDeadline_keeps {a0 : _} {a1 : _} {t : State} (h : (@execWslExchangeDeadline a0 a1) = .next t) : Keeps a1 t := by
  unfold execWslExchangeDeadline at h
  injection h with h
  subst h
  refine Keeps.trans ?_ State.wslDeadline_keeps
  exact Keeps.refl _

theorem execWslGateOpen_keeps {a0 : _} {a1 : _} {t : State} (h : (@execWslGateOpen a0 a1) = .next t) : Keeps a1 t := by
  unfold execWslGateOpen at h
  injection h with h
  subst h
  refine Keeps.ite ?_ ?_
  · refine Keeps.mkUpd ?_ (by with_reducible rfl) (by with_reducible rfl) (by with_reducible rfl) (by with_reducible rfl)
    exact Keeps.refl _
  · exact Keeps.refl _

theorem execWslGateClose_keeps {a0 : _} {a1 : _} {a2 : _} {t : State} (h : (@execWslGateClose a0 a1 a2) = .next t) : Keeps a2 t := by
  unfold execWslGateClose at h
  injection h with h
  subst h
  refine Keeps.ite ?_ ?_
  · exact Keeps.refl _
  · dsimp only
    split
    · rename_i v0 v1 v2
      refine Keeps.trans ?_ (Keeps.add (by decide))
      refine Keeps.mkUpd ?_ (by with_reducible rfl) (by with_reducible rfl) (by with_reducible rfl) (by with_reducible rfl)
      exact Keeps.refl _
    · rename_i v3 v4
      refine Keeps.mkUpd ?_ (by with_reducible rfl) (by with_reducible rfl) (by with_reducible rfl) (by with_reducible rfl)
      exact Keeps.refl _

theorem State.emitLanes_keeps {a0 : _} : Keeps a0 (@State.emitLanes a0) := by
  unfold State.emitLanes
  refine Keeps.ite ?_ ?_
  · refine Keeps.mkUpd ?_ (by with_reducible rfl) (by with_reducible rfl) (by with_reducible rfl) (by with_reducible rfl)
    exact Keeps.refl _
  · dsimp only
    refine Keeps.mkUpd ?_ (by with_reducible rfl) (by with_reducible rfl) (by with_reducible rfl) (by with_reducible rfl)
    exact Keeps.refl _

theorem State.emitForwarded_keeps {a0 : _} {a1 : _} : Keeps a0 (@State.emitForwarded a0 a1) := by
  unfold State.emitForwarded
  dsimp only
  refine Keeps.mkUpd ?_ (by with_reducible rfl) (by with_reducible rfl) (by with_reducible rfl) (by with_reducible rfl)
  exact Keeps.refl _

theorem State.emitWsl_keeps {a0 : _} : Keeps a0 (@State.emitWsl a0) := by
  unfold State.emitWsl
  dsimp only
  refine Keeps.ite ?_ ?_
  · refine Keeps.mkUpd ?_ (by with_reducible rfl) (by with_reducible rfl) (by with_reducible rfl) (by with_reducible rfl)
    exact Keeps.refl _
  · refine Keeps.foldl ?_ (fun v0 v1 => ?_)
    · refine Keeps.mkUpd ?_ (by with_reducible rfl) (by with_reducible rfl) (by with_reducible rfl) (by with_reducible rfl)
      exact Keeps.refl _
    · refine Keeps.ite ?_ ?_
      · refine Keeps.mkUpd ?_ (by with_reducible rfl) (by with_reducible rfl) (by with_reducible rfl) (by with_reducible rfl)
        refine Keeps.trans ?_ State.putWsl_keeps
        exact Keeps.refl _
      · exact Keeps.refl _

/-! Field. -/

theorem State.putCap_keeps {a0 : _} {a1 : _} : Keeps a0 (@State.putCap a0 a1) := by
  unfold State.putCap
  refine Keeps.mkUpd ?_ (by with_reducible rfl) (by with_reducible rfl) (by with_reducible rfl) (by with_reducible rfl)
  exact Keeps.refl _

theorem State.wireEnds_keeps {a0 : _} {a1 : _} : Keeps a0 (@State.wireEnds a0 a1) := by
  unfold State.wireEnds
  dsimp only
  refine Keeps.ite ?_ ?_
  · refine Keeps.trans ?_ State.raise_keeps
    refine Keeps.trans ?_ (Keeps.put (by decide))
    refine Keeps.ite ?_ ?_
    · refine Keeps.trans ?_ State.raise_keeps
      refine Keeps.trans ?_ (Keeps.put (by decide))
      exact Keeps.refl _
    · exact Keeps.refl _
  · refine Keeps.ite ?_ ?_
    · refine Keeps.trans ?_ State.raise_keeps
      refine Keeps.trans ?_ (Keeps.put (by decide))
      exact Keeps.refl _
    · exact Keeps.refl _

theorem State.dioDrive_keeps {a0 : _} {a1 : _} {a2 : _} : Keeps a0 (@State.dioDrive a0 a1 a2) := by
  unfold State.dioDrive
  dsimp only
  refine Keeps.trans ?_ State.putDio_keeps
  refine Keeps.ite ?_ ?_
  · refine Keeps.trans ?_ State.wireEnds_keeps
    exact Keeps.refl _
  · exact Keeps.refl _

theorem State.aoDrive_keeps {a0 : _} {a1 : _} {a2 : _} {a3 : _} : Keeps a0 (@State.aoDrive a0 a1 a2 a3) := by
  unfold State.aoDrive
  dsimp only
  refine Keeps.ite ?_ ?_
  · refine Keeps.trans ?_ (Keeps.put (by decide))
    refine Keeps.trans ?_ State.putAo_keeps
    exact Keeps.refl _
  · refine Keeps.trans ?_ (Keeps.putFlag (by decide))
    refine Keeps.trans ?_ State.putAo_keeps
    refine Keeps.ite ?_ ?_
    · refine Keeps.trans ?_ (Keeps.put (by decide))
      exact Keeps.refl _
    · exact Keeps.refl _

theorem State.aoSafeState_keeps {a0 : _} {a1 : _} : Keeps a0 (@State.aoSafeState a0 a1) := by
  unfold State.aoSafeState
  split
  · rename_i v0 v1
    refine Keeps.trans ?_ State.aoDrive_keeps
    exact Keeps.refl _
  · rename_i v2 v3
    refine Keeps.trans ?_ State.aoDrive_keeps
    exact Keeps.refl _
  · rename_i v4 v5 v6
    refine Keeps.trans ?_ State.aoDrive_keeps
    exact Keeps.refl _

theorem State.fieldSafe_keeps {a0 : _} : Keeps a0 (@State.fieldSafe a0) := by
  unfold State.fieldSafe
  dsimp only
  refine Keeps.foldl ?_ (fun v0 v1 => ?_)
  · refine Keeps.foldl ?_ (fun v2 v3 => ?_)
    · exact Keeps.refl _
    · refine Keeps.trans ?_ State.dioDrive_keeps
      exact Keeps.refl _
  · refine Keeps.trans ?_ State.aoSafeState_keeps
    exact Keeps.refl _

theorem State.fieldApply_keeps {a0 : _} {a1 : _} : Keeps a0 (@State.fieldApply a0 a1) := by
  unfold State.fieldApply
  dsimp only
  refine Keeps.foldl ?_ (fun v0 v1 => ?_)
  · refine Keeps.foldl ?_ (fun v2 v3 => ?_)
    · exact Keeps.refl _
    · split
      · rename_i v4 v5 v6
        split
        · rename_i v7 v8 v9
          refine Keeps.trans ?_ State.dioDrive_keeps
          refine Keeps.trans ?_ State.putDio_keeps
          exact Keeps.refl _
        · rename_i v10 v11
          refine Keeps.trans ?_ State.dioDrive_keeps
          exact Keeps.refl _
      · rename_i v12 v13
        refine Keeps.trans ?_ State.dioDrive_keeps
        exact Keeps.refl _
  · split
    · rename_i v14 v15 v16
      split
      · rename_i v17 v18 v19
        refine Keeps.trans ?_ State.aoDrive_keeps
        exact Keeps.refl _
      · rename_i v20 v21
        refine Keeps.trans ?_ State.aoSafeState_keeps
        exact Keeps.refl _
    · rename_i v22 v23
      refine Keeps.trans ?_ State.aoDrive_keeps
      exact Keeps.refl _

theorem State.armLatches_keeps {a0 : _} {a1 : _} : Keeps a0 (@State.armLatches a0 a1) := by
  unfold State.armLatches
  refine Keeps.mkUpd ?_ (by with_reducible rfl) (by with_reducible rfl) (by with_reducible rfl) (by with_reducible rfl)
  exact Keeps.refl _

theorem State.fieldSilent_keeps {a0 : _} : Keeps a0 (@State.fieldSilent a0) := by
  unfold State.fieldSilent
  refine Keeps.ite ?_ ?_
  · exact Keeps.refl _
  · dsimp only
    refine Keeps.trans ?_ State.fieldSafe_keeps
    refine Keeps.trans ?_ State.raise_keeps
    refine Keeps.trans ?_ (Keeps.inc (by decide))
    refine Keeps.trans ?_ (Keeps.put (by decide))
    refine Keeps.mkUpd ?_ (by with_reducible rfl) (by with_reducible rfl) (by with_reducible rfl) (by with_reducible rfl)
    exact Keeps.refl _

theorem State.dioSample_keeps {a0 : _} {a1 : _} {a2 : _} : Keeps a0 (@State.dioSample a0 a1 a2) := by
  unfold State.dioSample
  dsimp only
  refine Keeps.ite ?_ ?_
  · refine Keeps.trans ?_ (Keeps.putFlag (by decide))
    exact Keeps.refl _
  · refine Keeps.ite ?_ ?_
    · refine Keeps.trans ?_ State.putDio_keeps
      exact Keeps.refl _
    · refine Keeps.ite ?_ ?_
      · refine Keeps.trans ?_ (Keeps.putFlag (by decide))
        refine Keeps.trans ?_ State.putDio_keeps
        exact Keeps.refl _
      · refine Keeps.trans ?_ State.putDio_keeps
        exact Keeps.refl _

theorem State.aoSample_keeps {a0 : _} {a1 : _} {a2 : _} {a3 : _} : Keeps a0 (@State.aoSample a0 a1 a2 a3) := by
  unfold State.aoSample
  dsimp only
  refine Keeps.ite ?_ ?_
  · refine Keeps.trans ?_ (Keeps.put (by decide))
    refine Keeps.ite ?_ ?_
    · refine Keeps.trans ?_ (Keeps.put (by decide))
      refine Keeps.trans ?_ State.putAo_keeps
      refine Keeps.trans ?_ (Keeps.put (by decide))
      refine Keeps.trans ?_ (Keeps.put (by decide))
      exact Keeps.refl _
    · refine Keeps.trans ?_ State.putAo_keeps
      refine Keeps.trans ?_ (Keeps.put (by decide))
      refine Keeps.trans ?_ (Keeps.put (by decide))
      exact Keeps.refl _
  · refine Keeps.ite ?_ ?_
    · refine Keeps.trans ?_ (Keeps.put (by decide))
      refine Keeps.trans ?_ State.putAo_keeps
      refine Keeps.trans ?_ (Keeps.put (by decide))
      refine Keeps.trans ?_ (Keeps.put (by decide))
      exact Keeps.refl _
    · refine Keeps.trans ?_ State.putAo_keeps
      refine Keeps.trans ?_ (Keeps.put (by decide))
      refine Keeps.trans ?_ (Keeps.put (by decide))
      exact Keeps.refl _

theorem State.encPresets_keeps {a0 : _} : Keeps a0 (@State.encPresets a0) := by
  unfold State.encPresets
  dsimp only
  refine Keeps.mkUpd ?_ (by with_reducible rfl) (by with_reducible rfl) (by with_reducible rfl) (by with_reducible rfl)
  refine Keeps.foldl ?_ (fun v0 v1 => ?_)
  · exact Keeps.refl _
  · refine Keeps.trans ?_ (Keeps.put (by decide))
    refine Keeps.trans ?_ (Keeps.put (by decide))
    refine Keeps.trans ?_ (Keeps.put (by decide))
    exact Keeps.refl _

theorem State.capsToImage_keeps {a0 : _} : Keeps a0 (@State.capsToImage a0) := by
  unfold State.capsToImage
  refine Keeps.foldl ?_ (fun v0 v1 => ?_)
  · exact Keeps.refl _
  · dsimp only
    refine Keeps.ite ?_ ?_
    · refine Keeps.trans ?_ State.putCap_keeps
      exact Keeps.refl _
    · refine Keeps.ite ?_ ?_
      · refine Keeps.trans ?_ State.raise_keeps
        refine Keeps.trans ?_ State.putCap_keeps
        exact Keeps.refl _
      · refine Keeps.trans ?_ State.raise_keeps
        refine Keeps.trans ?_ State.putCap_keeps
        exact Keeps.refl _

theorem State.fieldEdge_keeps {a0 : _} {a1 : _} : Keeps a0 (@State.fieldEdge a0 a1) := by
  unfold State.fieldEdge
  dsimp only
  refine Keeps.mkUpd ?_ (by with_reducible rfl) (by with_reducible rfl) (by with_reducible rfl) (by with_reducible rfl)
  refine Keeps.trans ?_ State.capsToImage_keeps
  refine Keeps.foldl ?_ (fun v0 v1 => ?_)
  · refine Keeps.foldl ?_ (fun v2 v3 => ?_)
    · split
      · rename_i v4 v5 v6
        refine Keeps.ite ?_ ?_
        · refine Keeps.ite ?_ ?_
          · refine Keeps.trans ?_ State.fieldSafe_keeps
            refine Keeps.mkUpd ?_ (by with_reducible rfl) (by with_reducible rfl) (by with_reducible rfl) (by with_reducible rfl)
            refine Keeps.trans ?_ State.encPresets_keeps
            exact Keeps.refl _
          · refine Keeps.trans ?_ State.fieldApply_keeps
            refine Keeps.mkUpd ?_ (by with_reducible rfl) (by with_reducible rfl) (by with_reducible rfl) (by with_reducible rfl)
            refine Keeps.trans ?_ State.encPresets_keeps
            exact Keeps.refl _
        · refine Keeps.trans ?_ State.fieldOff_keeps
          refine Keeps.mkUpd ?_ (by with_reducible rfl) (by with_reducible rfl) (by with_reducible rfl) (by with_reducible rfl)
          refine Keeps.trans ?_ State.encPresets_keeps
          exact Keeps.refl _
      · rename_i v7 v8
        refine Keeps.ite ?_ ?_
        · refine Keeps.trans ?_ State.fieldSilent_keeps
          refine Keeps.trans ?_ State.encPresets_keeps
          exact Keeps.refl _
        · refine Keeps.ite ?_ ?_
          · refine Keeps.trans ?_ State.fieldOff_keeps
            refine Keeps.trans ?_ State.encPresets_keeps
            exact Keeps.refl _
          · refine Keeps.trans ?_ State.encPresets_keeps
            exact Keeps.refl _
    · refine Keeps.trans ?_ State.dioSample_keeps
      exact Keeps.refl _
  · refine Keeps.ite ?_ ?_
    · exact Keeps.refl _
    · refine Keeps.trans ?_ State.aoSample_keeps
      exact Keeps.refl _

theorem State.fieldFails_keeps {a0 : _} {a1 : _} : Keeps a0 (@State.fieldFails a0 a1) := by
  unfold State.fieldFails
  refine Keeps.ite ?_ ?_
  · exact Keeps.refl _
  · dsimp only
    refine Keeps.ite ?_ ?_
    · refine Keeps.trans ?_ State.plan_keeps
      refine Keeps.foldl ?_ (fun v0 v1 => ?_)
      · refine Keeps.trans ?_ State.raise_keeps
        refine Keeps.mkUpd ?_ (by with_reducible rfl) (by with_reducible rfl) (by with_reducible rfl) (by with_reducible rfl)
        exact Keeps.refl _
      · refine Keeps.ite ?_ ?_
        · exact Keeps.refl _
        · refine Keeps.trans ?_ (Keeps.put (by decide))
          exact Keeps.refl _
    · refine Keeps.ite ?_ ?_
      · refine Keeps.trans ?_ State.cause_keeps
        refine Keeps.foldl ?_ (fun v2 v3 => ?_)
        · refine Keeps.trans ?_ State.raise_keeps
          refine Keeps.mkUpd ?_ (by with_reducible rfl) (by with_reducible rfl) (by with_reducible rfl) (by with_reducible rfl)
          exact Keeps.refl _
        · refine Keeps.ite ?_ ?_
          · exact Keeps.refl _
          · refine Keeps.trans ?_ (Keeps.put (by decide))
            exact Keeps.refl _
      · refine Keeps.foldl ?_ (fun v4 v5 => ?_)
        · refine Keeps.trans ?_ State.raise_keeps
          refine Keeps.mkUpd ?_ (by with_reducible rfl) (by with_reducible rfl) (by with_reducible rfl) (by with_reducible rfl)
          exact Keeps.refl _
        · refine Keeps.ite ?_ ?_
          · exact Keeps.refl _
          · refine Keeps.trans ?_ (Keeps.put (by decide))
            exact Keeps.refl _

theorem State.converterBad_keeps {a0 : _} : Keeps a0 (@State.converterBad a0) := by
  unfold State.converterBad
  dsimp only
  refine Keeps.ite ?_ ?_
  · refine Keeps.trans ?_ (Keeps.put (by decide))
    exact Keeps.refl _
  · refine Keeps.ite ?_ ?_
    · refine Keeps.trans ?_ State.fieldFails_keeps
      refine Keeps.mkUpd ?_ (by with_reducible rfl) (by with_reducible rfl) (by with_reducible rfl) (by with_reducible rfl)
      refine Keeps.trans ?_ (Keeps.put (by decide))
      exact Keeps.refl _
    · refine Keeps.mkUpd ?_ (by with_reducible rfl) (by with_reducible rfl) (by with_reducible rfl) (by with_reducible rfl)
      refine Keeps.trans ?_ (Keeps.put (by decide))
      exact Keeps.refl _

theorem execFieldSamplesCross_keeps {a0 : _} {a1 : _} {t : State} (h : (@execFieldSamplesCross a0 a1) = .next t) : Keeps a1 t := by
  unfold execFieldSamplesCross at h
  injection h with h
  subst h
  refine Keeps.ite ?_ ?_
  · refine Keeps.trans ?_ State.converterBad_keeps
    refine Keeps.mkUpd ?_ (by with_reducible rfl) (by with_reducible rfl) (by with_reducible rfl) (by with_reducible rfl)
    exact Keeps.refl _
  · dsimp only
    refine Keeps.mkUpd ?_ (by with_reducible rfl) (by with_reducible rfl) (by with_reducible rfl) (by with_reducible rfl)
    refine Keeps.trans ?_ (Keeps.put (by decide))
    refine Keeps.mkUpd ?_ (by with_reducible rfl) (by with_reducible rfl) (by with_reducible rfl) (by with_reducible rfl)
    exact Keeps.refl _

theorem execFieldSamplesLate_keeps {a0 : _} {t : State} (h : (@execFieldSamplesLate a0) = .next t) : Keeps a0 t := by
  unfold execFieldSamplesLate at h
  injection h with h
  subst h
  refine Keeps.ite ?_ ?_
  · refine Keeps.trans ?_ State.fieldFails_keeps
    refine Keeps.mkUpd ?_ (by with_reducible rfl) (by with_reducible rfl) (by with_reducible rfl) (by with_reducible rfl)
    exact Keeps.refl _
  · refine Keeps.mkUpd ?_ (by with_reducible rfl) (by with_reducible rfl) (by with_reducible rfl) (by with_reducible rfl)
    exact Keeps.refl _

theorem execFieldConverter_keeps {a0 : _} {t : State} (h : (@execFieldConverter a0) = .next t) : Keeps a0 t := by
  unfold execFieldConverter at h
  injection h with h
  subst h
  refine Keeps.trans ?_ State.converterBad_keeps
  refine Keeps.trans ?_ State.raise_keeps
  exact Keeps.refl _

theorem execFieldTimeout_keeps {a0 : _} {t : State} (h : (@execFieldTimeout a0) = .next t) : Keeps a0 t := by
  unfold execFieldTimeout at h
  injection h with h
  subst h
  refine Keeps.ite ?_ ?_
  · refine Keeps.trans ?_ State.fieldSilent_keeps
    exact Keeps.refl _
  · exact Keeps.refl _

theorem State.dioWritten_keeps {a0 : _} {a1 : _} : Keeps a0 (@State.dioWritten a0 a1) := by
  unfold State.dioWritten
  dsimp only
  refine Keeps.ite ?_ ?_
  · refine Keeps.ite ?_ ?_
    · refine Keeps.trans ?_ (Keeps.put (by decide))
      refine Keeps.trans ?_ (Keeps.putFlag (by decide))
      refine Keeps.ite ?_ ?_
      · refine Keeps.trans ?_ (Keeps.put (by decide))
        exact Keeps.refl _
      · exact Keeps.refl _
    · refine Keeps.trans ?_ (Keeps.putFlag (by decide))
      refine Keeps.ite ?_ ?_
      · refine Keeps.trans ?_ (Keeps.put (by decide))
        exact Keeps.refl _
      · exact Keeps.refl _
  · refine Keeps.trans ?_ State.wireEnds_keeps
    refine Keeps.ite ?_ ?_
    · refine Keeps.trans ?_ (Keeps.put (by decide))
      refine Keeps.trans ?_ (Keeps.putFlag (by decide))
      refine Keeps.ite ?_ ?_
      · refine Keeps.trans ?_ (Keeps.put (by decide))
        exact Keeps.refl _
      · exact Keeps.refl _
    · refine Keeps.trans ?_ (Keeps.putFlag (by decide))
      refine Keeps.ite ?_ ?_
      · refine Keeps.trans ?_ (Keeps.put (by decide))
        exact Keeps.refl _
      · exact Keeps.refl _

theorem State.dioTrip_keeps {a0 : _} {a1 : _} {a2 : _} : Keeps a0 (@State.dioTrip a0 a1 a2) := by
  unfold State.dioTrip
  dsimp only
  refine Keeps.trans ?_ State.raise_keeps
  refine Keeps.trans ?_ State.spoilRate_keeps
  refine Keeps.trans ?_ (Keeps.inc (by decide))
  refine Keeps.trans ?_ (Keeps.put (by decide))
  refine Keeps.trans ?_ (Keeps.put (by decide))
  refine Keeps.trans ?_ State.putDio_keeps
  refine Keeps.foldl ?_ (fun v0 v1 => ?_)
  · exact Keeps.refl _
  · refine Keeps.trans ?_ State.putDio_keeps
    exact Keeps.refl _

theorem execDioRampAbort_keeps {a0 : _} {a1 : _} {t : State} (h : (@execDioRampAbort a0 a1) = .next t) : Keeps a1 t := by
  unfold execDioRampAbort at h
  injection h with h
  subst h
  refine Keeps.ite ?_ ?_
  · refine Keeps.trans ?_ State.dioTrip_keeps
    exact Keeps.refl _
  · exact Keeps.refl _

theorem execDioOverloadTrip_keeps {a0 : _} {a1 : _} {t : State} (h : (@execDioOverloadTrip a0 a1) = .next t) : Keeps a1 t := by
  unfold execDioOverloadTrip at h
  injection h with h
  subst h
  refine Keeps.ite ?_ ?_
  · refine Keeps.trans ?_ State.dioTrip_keeps
    exact Keeps.refl _
  · exact Keeps.refl _

theorem State.dioRetry_keeps {a0 : _} {a1 : _} {a2 : _} : Keeps a0 (@State.dioRetry a0 a1 a2) := by
  unfold State.dioRetry
  dsimp only
  refine Keeps.ite ?_ ?_
  · exact Keeps.refl _
  · refine Keeps.ite ?_ ?_
    · refine Keeps.foldl ?_ (fun v0 v1 => ?_)
      · refine Keeps.trans ?_ (Keeps.put (by decide))
        refine Keeps.trans ?_ (Keeps.put (by decide))
        exact Keeps.refl _
      · refine Keeps.trans ?_ State.dioDrive_keeps
        exact Keeps.refl _
    · refine Keeps.trans ?_ State.dioTrip_keeps
      refine Keeps.trans ?_ (Keeps.put (by decide))
      exact Keeps.refl _

theorem execDioRetry_keeps {a0 : _} {a1 : _} {a2 : _} {t : State} (h : (@execDioRetry a0 a1 a2) = .next t) : Keeps a2 t := by
  unfold execDioRetry at h
  injection h with h
  subst h
  refine Keeps.trans ?_ State.dioRetry_keeps
  exact Keeps.refl _

theorem execDioRetriesRestore_keeps {a0 : _} {a1 : _} {t : State} (h : (@execDioRetriesRestore a0 a1) = .next t) : Keeps a1 t := by
  unfold execDioRetriesRestore at h
  injection h with h
  subst h
  refine Keeps.ite ?_ ?_
  · refine Keeps.trans ?_ (Keeps.put (by decide))
    exact Keeps.refl _
  · exact Keeps.refl _

theorem State.dioClear_keeps {a0 : _} {a1 : _} : Keeps a0 (@State.dioClear a0 a1) := by
  unfold State.dioClear
  dsimp only
  iterate 4 refine Keeps.trans ?_ (Keeps.put (by decide))
  exact Keeps.refl _

theorem execDioOverloadClear_keeps {a0 : _} {a1 : _} {a2 : _} {t : State} (h : (@execDioOverloadClear a0 a1 a2) = .next t) : Keeps a2 t := by
  unfold execDioOverloadClear at h
  injection h with h
  subst h
  refine Keeps.trans ?_ State.dioClear_keeps
  exact Keeps.refl _

theorem execDioOvertemp_keeps {a0 : _} {a1 : _} {t : State} (h : (@execDioOvertemp a0 a1) = .next t) : Keeps a1 t := by
  unfold execDioOvertemp at h
  injection h with h
  subst h
  refine Keeps.ite ?_ ?_
  · exact Keeps.refl _
  · dsimp only
    refine Keeps.trans ?_ State.raise_keeps
    refine Keeps.trans ?_ State.spoilRate_keeps
    refine Keeps.trans ?_ (Keeps.inc (by decide))
    refine Keeps.trans ?_ (Keeps.put (by decide))
    refine Keeps.trans ?_ State.putDio_keeps
    refine Keeps.foldl ?_ (fun v0 v1 => ?_)
    · exact Keeps.refl _
    · refine Keeps.trans ?_ State.putDio_keeps
      exact Keeps.refl _

theorem execDioCooled_keeps {a0 : _} {a1 : _} {t : State} (h : (@execDioCooled a0 a1) = .next t) : Keeps a1 t := by
  unfold execDioCooled at h
  injection h with h
  subst h
  refine Keeps.ite ?_ ?_
  · exact Keeps.refl _
  · dsimp only
    refine Keeps.foldl ?_ (fun v0 v1 => ?_)
    · refine Keeps.trans ?_ State.putDio_keeps
      exact Keeps.refl _
    · refine Keeps.trans ?_ State.dioDrive_keeps
      exact Keeps.refl _

theorem execDioWire_keeps {a0 : _} {a1 : _} {a2 : _} {a3 : _} {t : State} (h : (@execDioWire a0 a1 a2 a3) = .next t) : Keeps a3 t := by
  unfold execDioWire at h
  injection h with h
  subst h
  refine Keeps.ite ?_ ?_
  · exact Keeps.refl _
  · refine Keeps.trans ?_ State.raise_keeps
    refine Keeps.trans ?_ (Keeps.putFlag (by split <;> decide))
    refine Keeps.ite ?_ ?_
    · refine Keeps.trans ?_ State.spoilRate_keeps
      exact Keeps.refl _
    · exact Keeps.refl _

theorem execDioEdge_keeps {a0 : _} {a1 : _} {a2 : _} {a3 : _} {t : State} (h : (@execDioEdge a0 a1 a2 a3) = .next t) : Keeps a3 t := by
  unfold execDioEdge at h
  injection h with h
  subst h
  refine Keeps.ite ?_ ?_
  · exact Keeps.refl _
  · dsimp only
    refine Keeps.trans ?_ State.raise_keeps
    refine Keeps.ite ?_ ?_
    · refine Keeps.trans ?_ (Keeps.inc (by decide))
      exact Keeps.refl _
    · exact Keeps.refl _

theorem execLoadSupplyChange_keeps {a0 : _} {a1 : _} {a2 : _} {t : State} (h : (@execLoadSupplyChange a0 a1 a2) = .next t) : Keeps a2 t := by
  unfold execLoadSupplyChange at h
  injection h with h
  subst h
  refine Keeps.ite ?_ ?_
  · exact Keeps.refl _
  · dsimp only
    refine Keeps.trans ?_ State.raise_keeps
    refine Keeps.foldl ?_ (fun v0 v1 => ?_)
    · refine Keeps.trans ?_ (Keeps.put (by split <;> decide))
      exact Keeps.refl _
    · refine Keeps.trans ?_ (Keeps.putFlag (by decide))
      exact Keeps.refl _

theorem execAoOpenLoop_keeps {a0 : _} {a1 : _} {t : State} (h : (@execAoOpenLoop a0 a1) = .next t) : Keeps a1 t := by
  unfold execAoOpenLoop at h
  injection h with h
  subst h
  refine Keeps.ite ?_ ?_
  · exact Keeps.refl _
  · refine Keeps.trans ?_ State.raise_keeps
    refine Keeps.trans ?_ State.putAo_keeps
    refine Keeps.trans ?_ (Keeps.put (by decide))
    exact Keeps.refl _

theorem execAoMiswire_keeps {a0 : _} {a1 : _} {a2 : _} {t : State} (h : (@execAoMiswire a0 a1 a2) = .next t) : Keeps a2 t := by
  unfold execAoMiswire at h
  injection h with h
  subst h
  refine Keeps.ite ?_ ?_
  · exact Keeps.refl _
  · dsimp only
    refine Keeps.trans ?_ State.raise_keeps
    refine Keeps.trans ?_ State.putAo_keeps
    refine Keeps.trans ?_ (Keeps.put (by decide))
    refine Keeps.trans ?_ (Keeps.put (by decide))
    exact Keeps.refl _

theorem execAoMiswireClear_keeps {a0 : _} {a1 : _} {t : State} (h : (@execAoMiswireClear a0 a1) = .next t) : Keeps a1 t := by
  unfold execAoMiswireClear at h
  injection h with h
  subst h
  refine Keeps.ite ?_ ?_
  · exact Keeps.refl _
  · dsimp only
    refine Keeps.ite ?_ ?_
    · refine Keeps.trans ?_ State.aoSafeState_keeps
      refine Keeps.trans ?_ (Keeps.put (by decide))
      exact Keeps.refl _
    · refine Keeps.trans ?_ State.aoDrive_keeps
      refine Keeps.trans ?_ (Keeps.put (by decide))
      exact Keeps.refl _

theorem execAoReadback_keeps {a0 : _} {a1 : _} {a2 : _} {t : State} (h : (@execAoReadback a0 a1 a2) = .next t) : Keeps a2 t := by
  unfold execAoReadback at h
  injection h with h
  subst h
  refine Keeps.ite ?_ ?_
  · exact Keeps.refl _
  · dsimp only
    refine Keeps.trans ?_ State.raise_keeps
    refine Keeps.trans ?_ State.putAo_keeps
    iterate 3 refine Keeps.trans ?_ (Keeps.put (by decide))
    exact Keeps.refl _

theorem execAoHeadroomLow_keeps {a0 : _} {a1 : _} {t : State} (h : (@execAoHeadroomLow a0 a1) = .next t) : Keeps a1 t := by
  unfold execAoHeadroomLow at h
  injection h with h
  subst h
  refine Keeps.ite ?_ ?_
  · refine Keeps.trans ?_ (Keeps.put (by decide))
    exact Keeps.refl _
  · exact Keeps.refl _

theorem State.encMove_keeps {a0 : _} {a1 : _} {a2 : _} : Keeps a0 (@State.encMove a0 a1 a2) := by
  unfold State.encMove
  refine Keeps.trans ?_ (Keeps.put (by decide))
  exact Keeps.refl _

theorem State.encIllegal_keeps {a0 : _} {a1 : _} : Keeps a0 (@State.encIllegal a0 a1) := by
  unfold State.encIllegal
  dsimp only
  refine Keeps.trans ?_ State.raise_keeps
  refine Keeps.trans ?_ State.spoilRate_keeps
  refine Keeps.trans ?_ (Keeps.put (by decide))
  refine Keeps.trans ?_ (Keeps.inc (by decide))
  exact Keeps.refl _

theorem execEncCountStep_keeps {a0 : _} {a1 : _} {a2 : _} {a3 : _} {a4 : _} {a5 : _} {t : State} (h : (@execEncCountStep a0 a1 a2 a3 a4 a5) = .next t) : Keeps a5 t := by
  unfold execEncCountStep at h
  injection h with h
  subst h
  refine Keeps.ite ?_ ?_
  · refine Keeps.trans ?_ State.encIllegal_keeps
    exact Keeps.refl _
  · refine Keeps.trans ?_ State.encMove_keeps
    exact Keeps.refl _

theorem execEncIllegal_keeps {a0 : _} {a1 : _} {t : State} (h : (@execEncIllegal a0 a1) = .next t) : Keeps a1 t := by
  unfold execEncIllegal at h
  injection h with h
  subst h
  refine Keeps.ite ?_ ?_
  · refine Keeps.trans ?_ State.encIllegal_keeps
    exact Keeps.refl _
  · exact Keeps.refl _

theorem State.encRef_keeps {a0 : _} {a1 : _} {a2 : _} {a3 : _} : Keeps a0 (@State.encRef a0 a1 a2 a3) := by
  unfold State.encRef
  dsimp only
  refine Keeps.ite ?_ ?_
  · refine Keeps.trans ?_ State.raise_keeps
    refine Keeps.trans ?_ (Keeps.put (by decide))
    refine Keeps.ite ?_ ?_
    · refine Keeps.trans ?_ (Keeps.put (by decide))
      refine Keeps.trans ?_ (Keeps.put (by decide))
      exact Keeps.refl _
    · refine Keeps.trans ?_ (Keeps.put (by decide))
      refine Keeps.trans ?_ (Keeps.put (by decide))
      refine Keeps.trans ?_ (Keeps.put (by decide))
      exact Keeps.refl _
  · refine Keeps.trans ?_ State.encMove_keeps
    refine Keeps.ite ?_ ?_
    · refine Keeps.trans ?_ (Keeps.put (by decide))
      refine Keeps.trans ?_ (Keeps.put (by decide))
      exact Keeps.refl _
    · refine Keeps.trans ?_ (Keeps.put (by decide))
      refine Keeps.trans ?_ (Keeps.put (by decide))
      refine Keeps.trans ?_ (Keeps.put (by decide))
      exact Keeps.refl _

theorem execEncZ_keeps {a0 : _} {a1 : _} {a2 : _} {a3 : _} {a4 : _} {a5 : _} {t : State} (h : (@execEncZ a0 a1 a2 a3 a4 a5) = .next t) : Keeps a5 t := by
  unfold execEncZ at h
  injection h with h
  subst h
  refine Keeps.ite ?_ ?_
  · refine Keeps.trans ?_ State.encRef_keeps
    exact Keeps.refl _
  · refine Keeps.trans ?_ State.encMove_keeps
    exact Keeps.refl _

theorem execEncLineFault_keeps {a0 : _} {a1 : _} {a2 : _} {t : State} (h : (@execEncLineFault a0 a1 a2) = .next t) : Keeps a2 t := by
  unfold execEncLineFault at h
  injection h with h
  subst h
  refine Keeps.ite ?_ ?_
  · refine Keeps.trans ?_ State.raise_keeps
    refine Keeps.trans ?_ (Keeps.put (by decide))
    exact Keeps.refl _
  · exact Keeps.refl _

theorem State.encPreset_keeps {a0 : _} {a1 : _} {a2 : _} : Keeps a0 (@State.encPreset a0 a1 a2) := by
  unfold State.encPreset
  refine Keeps.mkUpd ?_ (by with_reducible rfl) (by with_reducible rfl) (by with_reducible rfl) (by with_reducible rfl)
  exact Keeps.refl _

theorem execCountPreset_keeps {a0 : _} {a1 : _} {a2 : _} {t : State} (h : (@execCountPreset a0 a1 a2) = .next t) : Keeps a2 t := by
  unfold execCountPreset at h
  injection h with h
  subst h
  refine Keeps.trans ?_ State.encPreset_keeps
  exact Keeps.refl _

theorem State.capInc_keeps {s : State} {f g : Fld} {u : Nat} (hf : f.quiet = true) (hg : g.quiet = true) :
    Keeps s (s.capInc f g u) := by
  unfold State.capInc
  exact Keeps.ite (Keeps.inc hf) (Keeps.inc hg)

theorem State.capResult_keeps {a0 : _} {a1 : _} {a2 : _} : Keeps a0 (@State.capResult a0 a1 a2) := by
  unfold State.capResult
  dsimp only
  refine Keeps.ite ?_ ?_
  · refine Keeps.trans ?_ State.putCap_keeps
    exact Keeps.refl _
  · refine Keeps.trans ?_ (State.capInc_keeps ?_ ?_)
    · exact Keeps.refl _
    · decide
    · decide

theorem State.capEvent_keeps {a0 : _} {a1 : _} {a2 : _} {a3 : _} {a4 : _} : Keeps a0 (@State.capEvent a0 a1 a2 a3 a4) := by
  unfold State.capEvent
  dsimp only
  refine Keeps.ite ?_ ?_
  · exact Keeps.refl _
  · refine Keeps.ite ?_ ?_
    · refine Keeps.ite ?_ ?_
      · refine Keeps.trans ?_ State.capResult_keeps
        exact Keeps.refl _
      · exact Keeps.refl _
    · refine Keeps.ite ?_ ?_
      · refine Keeps.ite ?_ ?_
        · exact Keeps.refl _
        · split
          · rename_i v0 v1 v2
            refine Keeps.trans ?_ State.capResult_keeps
            refine Keeps.trans ?_ State.putCap_keeps
            exact Keeps.refl _
          · rename_i v3 v4
            refine Keeps.trans ?_ State.putCap_keeps
            exact Keeps.refl _
      · refine Keeps.ite ?_ ?_
        · refine Keeps.trans ?_ State.capResult_keeps
          refine Keeps.trans ?_ (State.capInc_keeps ?_ ?_)
          · refine Keeps.trans ?_ State.putCap_keeps
            refine Keeps.ite ?_ ?_
            · refine Keeps.trans ?_ (State.capInc_keeps ?_ ?_)
              · exact Keeps.refl _
              · decide
              · decide
            · exact Keeps.refl _
          · decide
          · decide
        · refine Keeps.ite ?_ ?_
          · refine Keeps.trans ?_ State.putCap_keeps
            refine Keeps.ite ?_ ?_
            · refine Keeps.trans ?_ (State.capInc_keeps ?_ ?_)
              · exact Keeps.refl _
              · decide
              · decide
            · exact Keeps.refl _
          · refine Keeps.ite ?_ ?_
            · split
              · rename_i v5 v6 v7
                refine Keeps.trans ?_ State.capResult_keeps
                refine Keeps.trans ?_ State.putCap_keeps
                exact Keeps.refl _
              · rename_i v8 v9
                refine Keeps.trans ?_ (State.capInc_keeps ?_ ?_)
                · exact Keeps.refl _
                · decide
                · decide
            · exact Keeps.refl _

theorem execCaptureEvent_keeps {a0 : _} {a1 : _} {a2 : _} {a3 : _} {a4 : _} {t : State} (h : (@execCaptureEvent a0 a1 a2 a3 a4) = .next t) : Keeps a4 t := by
  unfold execCaptureEvent at h
  injection h with h
  subst h
  refine Keeps.ite ?_ ?_
  · exact Keeps.refl _
  · refine Keeps.trans ?_ State.capEvent_keeps
    exact Keeps.refl _

theorem execCaptureIntervalTimeout_keeps {a0 : _} {a1 : _} {t : State} (h : (@execCaptureIntervalTimeout a0 a1) = .next t) : Keeps a1 t := by
  unfold execCaptureIntervalTimeout at h
  injection h with h
  subst h
  refine Keeps.ite ?_ ?_
  · refine Keeps.trans ?_ (State.capInc_keeps ?_ ?_)
    · refine Keeps.trans ?_ State.putCap_keeps
      exact Keeps.refl _
    · decide
    · decide
  · exact Keeps.refl _

theorem State.takeTrips_keeps {a0 : _} : Keeps a0 (@State.takeTrips a0) := by
  unfold State.takeTrips
  dsimp only
  refine Keeps.foldl ?_ (fun v0 v1 => ?_)
  · exact Keeps.refl _
  · refine Keeps.ite ?_ ?_
    · refine Keeps.trans ?_ State.putDio_keeps
      refine Keeps.trans ?_ (Keeps.put (by decide))
      refine Keeps.trans ?_ (Keeps.put (by decide))
      exact Keeps.refl _
    · exact Keeps.refl _

theorem State.fieldTakeover_keeps {a0 : _} {a1 : _} : Keeps a0 (@State.fieldTakeover a0 a1) := by
  unfold State.fieldTakeover
  dsimp only
  refine Keeps.ite ?_ ?_
  · refine Keeps.trans ?_ State.fieldSafe_keeps
    refine Keeps.mkUpd ?_ (by with_reducible rfl) (by with_reducible rfl) (by with_reducible rfl) (by with_reducible rfl)
    refine Keeps.trans ?_ State.takeTrips_keeps
    exact Keeps.refl _
  · refine Keeps.trans ?_ State.fieldApply_keeps
    refine Keeps.mkUpd ?_ (by with_reducible rfl) (by with_reducible rfl) (by with_reducible rfl) (by with_reducible rfl)
    refine Keeps.trans ?_ State.takeTrips_keeps
    exact Keeps.refl _

theorem State.encFollow_keeps {a0 : _} {a1 : _} {a2 : _} : Keeps a0 (@State.encFollow a0 a1 a2) := by
  unfold State.encFollow
  refine Keeps.foldl ?_ (fun v0 v1 => ?_)
  · exact Keeps.refl _
  · dsimp only
    refine Keeps.trans ?_ (Keeps.put (by decide))
    refine Keeps.trans ?_ State.encMove_keeps
    exact Keeps.refl _

theorem State.encSync_keeps {a0 : _} : Keeps a0 (@State.encSync a0) := by
  unfold State.encSync
  split
  · rename_i v0 v1 v2
    refine Keeps.trans ?_ State.encFollow_keeps
    exact Keeps.refl _
  · rename_i v3 v4
    exact Keeps.refl _

/-! Filter. -/

theorem State.putFa_keeps {a0 : _} {a1 : _} : Keeps a0 (@State.putFa a0 a1) := by
  unfold State.putFa
  refine Keeps.mkUpd ?_ (by with_reducible rfl) (by with_reducible rfl) (by with_reducible rfl) (by with_reducible rfl)
  exact Keeps.refl _

theorem State.showFa_keeps {a0 : _} : Keeps a0 (@State.showFa a0) := by
  unfold State.showFa
  dsimp only
  refine Keeps.trans ?_ (Keeps.put (by decide))
  refine Keeps.trans ?_ (Keeps.put (by decide))
  exact Keeps.refl _

theorem State.showFaCfg_keeps {a0 : _} {a1 : _} : Keeps a0 (@State.showFaCfg a0 a1) := by
  unfold State.showFaCfg
  dsimp only
  iterate 3 refine Keeps.trans ?_ (Keeps.put (by decide))
  exact Keeps.refl _

theorem State.faRestart_keeps {a0 : _} {a1 : _} {a2 : _} : Keeps a0 (@State.faRestart a0 a1 a2) := by
  unfold State.faRestart
  dsimp only
  refine Keeps.ite ?_ ?_
  · refine Keeps.trans ?_ State.showFa_keeps
    refine Keeps.trans ?_ State.putFa_keeps
    exact Keeps.refl _
  · refine Keeps.trans ?_ State.showFa_keeps
    refine Keeps.trans ?_ State.showFaCfg_keeps
    iterate 4 refine Keeps.trans ?_ (Keeps.put (by decide))
    refine Keeps.trans ?_ State.putFa_keeps
    exact Keeps.refl _

theorem execFaChainRestart_keeps {a0 : _} {a1 : _} {t : State} (h : (@execFaChainRestart a0 a1) = .next t) : Keeps a1 t := by
  unfold execFaChainRestart at h
  injection h with h
  subst h
  refine Keeps.ite ?_ ?_
  · refine Keeps.trans ?_ State.faRestart_keeps
    exact Keeps.refl _
  · exact Keeps.refl _

theorem State.raiseAt_keeps {a0 : _} {a1 : _} {a2 : _} {a3 : _} {a4 : _} {a5 : _} : Keeps a0 (@State.raiseAt a0 a1 a2 a3 a4 a5) := by
  unfold State.raiseAt
  dsimp only
  refine Keeps.mkUpd ?_ (by with_reducible rfl) (by with_reducible rfl) (by with_reducible rfl) (by with_reducible rfl)
  refine Keeps.trans ?_ (Keeps.inc (by decide))
  exact Keeps.refl _

theorem State.faWatch_keeps {a0 : _} {a1 : _} {a2 : _} : Keeps a0 (@State.faWatch a0 a1 a2) := by
  unfold State.faWatch
  dsimp only
  refine Keeps.ite ?_ ?_
  · exact Keeps.refl _
  · refine Keeps.ite ?_ ?_
    · refine Keeps.trans ?_ State.raiseAt_keeps
      refine Keeps.trans ?_ (Keeps.putFlag (by decide))
      exact Keeps.refl _
    · exact Keeps.refl _

theorem State.faSampleEvents_keeps {a0 : _} {a1 : _} {a2 : _} {a3 : _} {a4 : _} : Keeps a0 (@State.faSampleEvents a0 a1 a2 a3 a4) := by
  unfold State.faSampleEvents
  dsimp only
  refine Keeps.ite ?_ ?_
  · refine Keeps.trans ?_ State.raise_keeps
    refine Keeps.trans ?_ (Keeps.put (by decide))
    refine Keeps.ite ?_ ?_
    · refine Keeps.trans ?_ State.raise_keeps
      refine Keeps.ite ?_ ?_
      · refine Keeps.trans ?_ (Keeps.inc (by decide))
        refine Keeps.trans ?_ (Keeps.put (by decide))
        exact Keeps.refl _
      · exact Keeps.refl _
    · refine Keeps.ite ?_ ?_
      · refine Keeps.trans ?_ State.raise_keeps
        refine Keeps.ite ?_ ?_
        · refine Keeps.trans ?_ (Keeps.inc (by decide))
          refine Keeps.trans ?_ (Keeps.put (by decide))
          exact Keeps.refl _
        · exact Keeps.refl _
      · refine Keeps.ite ?_ ?_
        · refine Keeps.trans ?_ (Keeps.inc (by decide))
          refine Keeps.trans ?_ (Keeps.put (by decide))
          exact Keeps.refl _
        · exact Keeps.refl _
  · refine Keeps.ite ?_ ?_
    · refine Keeps.trans ?_ State.raise_keeps
      refine Keeps.ite ?_ ?_
      · refine Keeps.trans ?_ (Keeps.inc (by decide))
        refine Keeps.trans ?_ (Keeps.put (by decide))
        exact Keeps.refl _
      · exact Keeps.refl _
    · refine Keeps.ite ?_ ?_
      · refine Keeps.trans ?_ State.raise_keeps
        refine Keeps.ite ?_ ?_
        · refine Keeps.trans ?_ (Keeps.inc (by decide))
          refine Keeps.trans ?_ (Keeps.put (by decide))
          exact Keeps.refl _
        · exact Keeps.refl _
      · refine Keeps.ite ?_ ?_
        · refine Keeps.trans ?_ (Keeps.inc (by decide))
          refine Keeps.trans ?_ (Keeps.put (by decide))
          exact Keeps.refl _
        · exact Keeps.refl _

theorem State.faDeliver_keeps {a0 : _} {a1 : _} {a2 : _} : Keeps a0 (@State.faDeliver a0 a1 a2) := by
  unfold State.faDeliver
  dsimp only
  refine Keeps.ite ?_ ?_
  · exact Keeps.refl _
  · refine Keeps.trans ?_ State.putFa_keeps
    refine Keeps.trans ?_ State.faWatch_keeps
    refine Keeps.trans ?_ State.faSampleEvents_keeps
    refine Keeps.ite ?_ ?_
    · exact Keeps.refl _
    · refine Keeps.trans ?_ (Keeps.put (by decide))
      exact Keeps.refl _

theorem execFaSampleDeliver_keeps {a0 : _} {a1 : _} {a2 : _} {t : State} (h : (@execFaSampleDeliver a0 a1 a2) = .next t) : Keeps a2 t := by
  unfold execFaSampleDeliver at h
  injection h with h
  subst h
  refine Keeps.trans ?_ State.faDeliver_keeps
  exact Keeps.refl _

theorem State.faEdge_keeps {a0 : _} : Keeps a0 (@State.faEdge a0) := by
  unfold State.faEdge
  refine Keeps.foldl ?_ (fun v0 v1 => ?_)
  · exact Keeps.refl _
  · dsimp only
    refine Keeps.trans ?_ State.putFa_keeps
    exact Keeps.refl _

theorem State.faFault_keeps {a0 : _} {a1 : _} {a2 : _} : Keeps a0 (@State.faFault a0 a1 a2) := by
  unfold State.faFault
  refine Keeps.ite ?_ ?_
  · exact Keeps.refl _
  · dsimp only
    refine Keeps.trans ?_ State.showFa_keeps
    refine Keeps.trans ?_ State.raise_keeps
    refine Keeps.trans ?_ (Keeps.inc (by decide))
    refine Keeps.trans ?_ (Keeps.put (by decide))
    refine Keeps.trans ?_ State.putFa_keeps
    exact Keeps.refl _

theorem execFaLaneFault_keeps {a0 : _} {a1 : _} {a2 : _} {t : State} (h : (@execFaLaneFault a0 a1 a2) = .next t) : Keeps a2 t := by
  unfold execFaLaneFault at h
  injection h with h
  subst h
  refine Keeps.trans ?_ State.faFault_keeps
  exact Keeps.refl _

theorem execFaLaneReload_keeps {a0 : _} {a1 : _} {t : State} (h : (@execFaLaneReload a0 a1) = .next t) : Keeps a1 t := by
  unfold execFaLaneReload at h
  injection h with h
  subst h
  refine Keeps.ite ?_ ?_
  · refine Keeps.trans ?_ State.faRestart_keeps
    exact Keeps.refl _
  · exact Keeps.refl _

theorem State.faIdle_keeps {a0 : _} {a1 : _} : Keeps a0 (@State.faIdle a0 a1) := by
  unfold State.faIdle
  refine Keeps.trans ?_ State.showFaCfg_keeps
  refine Keeps.trans ?_ State.putFa_keeps
  exact Keeps.refl _

theorem State.faComesUp_keeps {a0 : _} {a1 : _} : Keeps a0 (@State.faComesUp a0 a1) := by
  unfold State.faComesUp
  dsimp only
  refine Keeps.ite ?_ ?_
  · refine Keeps.trans ?_ State.putFa_keeps
    refine Keeps.trans ?_ State.faIdle_keeps
    exact Keeps.refl _
  · refine Keeps.trans ?_ State.faIdle_keeps
    exact Keeps.refl _

theorem State.faWritten_keeps {a0 : _} {a1 : _} {a2 : _} {a3 : _} {a4 : _} : Keeps a0 (@State.faWritten a0 a1 a2 a3 a4) := by
  unfold State.faWritten
  dsimp only
  refine Keeps.ite ?_ ?_
  · refine Keeps.ite ?_ ?_
    · refine Keeps.trans ?_ State.faIdle_keeps
      exact Keeps.refl _
    · refine Keeps.trans ?_ State.putFa_keeps
      exact Keeps.refl _
  · refine Keeps.ite ?_ ?_
    · refine Keeps.ite ?_ ?_
      · refine Keeps.trans ?_ State.showFa_keeps
        refine Keeps.trans ?_ (Keeps.put (by decide))
        refine Keeps.trans ?_ State.faIdle_keeps
        exact Keeps.refl _
      · refine Keeps.ite ?_ ?_
        · refine Keeps.trans ?_ State.showFa_keeps
          refine Keeps.trans ?_ State.putFa_keeps
          exact Keeps.refl _
        · refine Keeps.trans ?_ State.putFa_keeps
          exact Keeps.refl _
    · refine Keeps.ite ?_ ?_
      · refine Keeps.trans ?_ State.putFa_keeps
        exact Keeps.refl _
      · refine Keeps.ite ?_ ?_
        · refine Keeps.trans ?_ State.putFa_keeps
          exact Keeps.refl _
        · refine Keeps.ite ?_ ?_
          · refine Keeps.trans ?_ State.putFa_keeps
            exact Keeps.refl _
          · exact Keeps.refl _

/-! Clock. -/

theorem State.onTime_keeps {a0 : _} {a1 : _} : Keeps a0 (@State.onTime a0 a1) := by
  unfold State.onTime
  refine Keeps.mkUpd ?_ (by with_reducible rfl) (by with_reducible rfl) (by with_reducible rfl) (by with_reducible rfl)
  exact Keeps.refl _

theorem State.showPorts_keeps {a0 : _} : Keeps a0 (@State.showPorts a0) := by
  unfold State.showPorts
  refine Keeps.foldl ?_ (fun v0 v1 => ?_)
  · exact Keeps.refl _
  · dsimp only
    refine Keeps.ite ?_ ?_
    · exact Keeps.refl _
    · refine Keeps.trans ?_ State.raise_keeps
      refine Keeps.trans ?_ (Keeps.put (by decide))
      exact Keeps.refl _

theorem State.setAlign_keeps {a0 : _} {a1 : _} : Keeps a0 (@State.setAlign a0 a1) := by
  unfold State.setAlign
  dsimp only
  refine Keeps.trans ?_ State.showPorts_keeps
  refine Keeps.trans ?_ (Keeps.put (by decide))
  refine Keeps.trans ?_ (Keeps.putFlag (by decide))
  refine Keeps.trans ?_ (Keeps.put (by decide))
  exact Keeps.refl _

theorem State.becomeAligned_keeps {a0 : _} : Keeps a0 (@State.becomeAligned a0) := by
  unfold State.becomeAligned
  dsimp only
  refine Keeps.trans ?_ State.onTime_keeps
  refine Keeps.trans ?_ State.raise_keeps
  refine Keeps.trans ?_ State.setAlign_keeps
  iterate 3 refine Keeps.trans ?_ (Keeps.put (by decide))
  exact Keeps.refl _

theorem State.classify_keeps {a0 : _} {a1 : _} : Keeps a0 (@State.classify a0 a1) := by
  unfold State.classify
  dsimp only
  refine Keeps.ite ?_ ?_
  · refine Keeps.trans ?_ State.becomeAligned_keeps
    refine Keeps.trans ?_ State.onTime_keeps
    refine Keeps.mkUpd ?_ (by with_reducible rfl) (by with_reducible rfl) (by with_reducible rfl) (by with_reducible rfl)
    exact Keeps.refl _
  · refine Keeps.ite ?_ ?_
    · refine Keeps.trans ?_ State.setAlign_keeps
      iterate 3 refine Keeps.trans ?_ (Keeps.put (by decide))
      refine Keeps.trans ?_ State.onTime_keeps
      refine Keeps.mkUpd ?_ (by with_reducible rfl) (by with_reducible rfl) (by with_reducible rfl) (by with_reducible rfl)
      exact Keeps.refl _
    · refine Keeps.trans ?_ State.setAlign_keeps
      iterate 3 refine Keeps.trans ?_ (Keeps.put (by decide))
      refine Keeps.trans ?_ State.onTime_keeps
      refine Keeps.mkUpd ?_ (by with_reducible rfl) (by with_reducible rfl) (by with_reducible rfl) (by with_reducible rfl)
      exact Keeps.refl _

theorem State.selectGm_keeps {a0 : _} {a1 : _} {a2 : _} : Keeps a0 (@State.selectGm a0 a1 a2) := by
  unfold State.selectGm
  dsimp only
  refine Keeps.trans ?_ State.showPorts_keeps
  refine Keeps.trans ?_ (Keeps.put (by decide))
  refine Keeps.trans ?_ (Keeps.put (by decide))
  refine Keeps.trans ?_ State.onTime_keeps
  exact Keeps.refl _

theorem State.loseGm_keeps {a0 : _} : Keeps a0 (@State.loseGm a0) := by
  unfold State.loseGm
  dsimp only
  refine Keeps.ite ?_ ?_
  · refine Keeps.trans ?_ State.showPorts_keeps
    iterate 3 refine Keeps.trans ?_ (Keeps.put (by decide))
    refine Keeps.trans ?_ State.onTime_keeps
    exact Keeps.refl _
  · refine Keeps.ite ?_ ?_
    · refine Keeps.trans ?_ State.raise_keeps
      refine Keeps.trans ?_ State.setAlign_keeps
      iterate 5 refine Keeps.trans ?_ (Keeps.put (by decide))
      refine Keeps.trans ?_ State.onTime_keeps
      exact Keeps.refl _
    · refine Keeps.ite ?_ ?_
      · refine Keeps.trans ?_ State.setAlign_keeps
        iterate 3 refine Keeps.trans ?_ (Keeps.put (by decide))
        refine Keeps.trans ?_ State.onTime_keeps
        exact Keeps.refl _
      · refine Keeps.trans ?_ State.showPorts_keeps
        iterate 3 refine Keeps.trans ?_ (Keeps.put (by decide))
        refine Keeps.trans ?_ State.onTime_keeps
        exact Keeps.refl _

theorem State.countSync_keeps {a0 : _} : Keeps a0 (@State.countSync a0) := by
  unfold State.countSync
  dsimp only
  refine Keeps.trans ?_ State.onTime_keeps
  exact Keeps.refl _

theorem State.sync_keeps {a0 : _} {a1 : _} : Keeps a0 (@State.sync a0 a1) := by
  unfold State.sync
  dsimp only
  refine Keeps.ite ?_ ?_
  · refine Keeps.ite ?_ ?_
    · refine Keeps.trans ?_ State.raise_keeps
      refine Keeps.trans ?_ State.onTime_keeps
      refine Keeps.ite ?_ ?_
      · refine Keeps.trans ?_ State.showPorts_keeps
        refine Keeps.trans ?_ (Keeps.put (by decide))
        refine Keeps.trans ?_ (Keeps.put (by decide))
        refine Keeps.trans ?_ State.countSync_keeps
        exact Keeps.refl _
      · refine Keeps.trans ?_ (Keeps.put (by decide))
        refine Keeps.trans ?_ State.countSync_keeps
        exact Keeps.refl _
    · refine Keeps.trans ?_ State.onTime_keeps
      refine Keeps.ite ?_ ?_
      · refine Keeps.trans ?_ State.showPorts_keeps
        refine Keeps.trans ?_ (Keeps.put (by decide))
        refine Keeps.trans ?_ (Keeps.put (by decide))
        refine Keeps.trans ?_ State.countSync_keeps
        exact Keeps.refl _
      · refine Keeps.trans ?_ (Keeps.put (by decide))
        refine Keeps.trans ?_ State.countSync_keeps
        exact Keeps.refl _
  · refine Keeps.ite ?_ ?_
    · refine Keeps.ite ?_ ?_
      · refine Keeps.trans ?_ State.showPorts_keeps
        refine Keeps.trans ?_ (Keeps.put (by decide))
        refine Keeps.trans ?_ (Keeps.put (by decide))
        refine Keeps.trans ?_ State.countSync_keeps
        exact Keeps.refl _
      · refine Keeps.trans ?_ (Keeps.put (by decide))
        refine Keeps.trans ?_ State.countSync_keeps
        exact Keeps.refl _
    · refine Keeps.ite ?_ ?_
      · refine Keeps.trans ?_ State.classify_keeps
        refine Keeps.trans ?_ State.onTime_keeps
        refine Keeps.trans ?_ (Keeps.put (by decide))
        refine Keeps.trans ?_ State.fresh_keeps
        refine Keeps.ite ?_ ?_
        · refine Keeps.trans ?_ State.showPorts_keeps
          refine Keeps.trans ?_ (Keeps.put (by decide))
          refine Keeps.trans ?_ (Keeps.put (by decide))
          refine Keeps.trans ?_ State.countSync_keeps
          exact Keeps.refl _
        · refine Keeps.trans ?_ (Keeps.put (by decide))
          refine Keeps.trans ?_ State.countSync_keeps
          exact Keeps.refl _
      · refine Keeps.ite ?_ ?_
        · refine Keeps.ite ?_ ?_
          · refine Keeps.trans ?_ State.classify_keeps
            refine Keeps.trans ?_ State.onTime_keeps
            refine Keeps.trans ?_ (Keeps.put (by decide))
            refine Keeps.trans ?_ State.fresh_keeps
            refine Keeps.ite ?_ ?_
            · refine Keeps.trans ?_ State.showPorts_keeps
              refine Keeps.trans ?_ (Keeps.put (by decide))
              refine Keeps.trans ?_ (Keeps.put (by decide))
              refine Keeps.trans ?_ State.countSync_keeps
              exact Keeps.refl _
            · refine Keeps.trans ?_ (Keeps.put (by decide))
              refine Keeps.trans ?_ State.countSync_keeps
              exact Keeps.refl _
          · refine Keeps.trans ?_ (Keeps.put (by decide))
            refine Keeps.mkUpd ?_ (by with_reducible rfl) (by with_reducible rfl) (by with_reducible rfl) (by with_reducible rfl)
            refine Keeps.trans ?_ State.onTime_keeps
            refine Keeps.trans ?_ (Keeps.put (by decide))
            refine Keeps.trans ?_ State.fresh_keeps
            refine Keeps.ite ?_ ?_
            · refine Keeps.trans ?_ State.showPorts_keeps
              refine Keeps.trans ?_ (Keeps.put (by decide))
              refine Keeps.trans ?_ (Keeps.put (by decide))
              refine Keeps.trans ?_ State.countSync_keeps
              exact Keeps.refl _
            · refine Keeps.trans ?_ (Keeps.put (by decide))
              refine Keeps.trans ?_ State.countSync_keeps
              exact Keeps.refl _
        · refine Keeps.ite ?_ ?_
          · refine Keeps.ite ?_ ?_
            · refine Keeps.trans ?_ State.becomeAligned_keeps
              refine Keeps.mkUpd ?_ (by with_reducible rfl) (by with_reducible rfl) (by with_reducible rfl) (by with_reducible rfl)
              refine Keeps.trans ?_ State.onTime_keeps
              refine Keeps.trans ?_ (Keeps.put (by decide))
              refine Keeps.trans ?_ State.fresh_keeps
              refine Keeps.ite ?_ ?_
              · refine Keeps.trans ?_ State.showPorts_keeps
                refine Keeps.trans ?_ (Keeps.put (by decide))
                refine Keeps.trans ?_ (Keeps.put (by decide))
                refine Keeps.trans ?_ State.countSync_keeps
                exact Keeps.refl _
              · refine Keeps.trans ?_ (Keeps.put (by decide))
                refine Keeps.trans ?_ State.countSync_keeps
                exact Keeps.refl _
            · refine Keeps.ite ?_ ?_
              · refine Keeps.trans ?_ State.classify_keeps
                refine Keeps.trans ?_ State.onTime_keeps
                refine Keeps.trans ?_ (Keeps.put (by decide))
                refine Keeps.trans ?_ State.fresh_keeps
                refine Keeps.ite ?_ ?_
                · refine Keeps.trans ?_ State.showPorts_keeps
                  refine Keeps.trans ?_ (Keeps.put (by decide))
                  refine Keeps.trans ?_ (Keeps.put (by decide))
                  refine Keeps.trans ?_ State.countSync_keeps
                  exact Keeps.refl _
                · refine Keeps.trans ?_ (Keeps.put (by decide))
                  refine Keeps.trans ?_ State.countSync_keeps
                  exact Keeps.refl _
              · refine Keeps.trans ?_ (Keeps.put (by decide))
                refine Keeps.mkUpd ?_ (by with_reducible rfl) (by with_reducible rfl) (by with_reducible rfl) (by with_reducible rfl)
                refine Keeps.trans ?_ State.onTime_keeps
                refine Keeps.trans ?_ (Keeps.put (by decide))
                refine Keeps.trans ?_ State.fresh_keeps
                refine Keeps.ite ?_ ?_
                · refine Keeps.trans ?_ State.showPorts_keeps
                  refine Keeps.trans ?_ (Keeps.put (by decide))
                  refine Keeps.trans ?_ (Keeps.put (by decide))
                  refine Keeps.trans ?_ State.countSync_keeps
                  exact Keeps.refl _
                · refine Keeps.trans ?_ (Keeps.put (by decide))
                  refine Keeps.trans ?_ State.countSync_keeps
                  exact Keeps.refl _
          · refine Keeps.trans ?_ State.classify_keeps
            refine Keeps.trans ?_ State.onTime_keeps
            refine Keeps.trans ?_ (Keeps.put (by decide))
            refine Keeps.trans ?_ State.fresh_keeps
            refine Keeps.ite ?_ ?_
            · refine Keeps.trans ?_ State.showPorts_keeps
              refine Keeps.trans ?_ (Keeps.put (by decide))
              refine Keeps.trans ?_ (Keeps.put (by decide))
              refine Keeps.trans ?_ State.countSync_keeps
              exact Keeps.refl _
            · refine Keeps.trans ?_ (Keeps.put (by decide))
              refine Keeps.trans ?_ State.countSync_keeps
              exact Keeps.refl _

theorem execPtpSyncReceive_keeps {a0 : _} {a1 : _} {a2 : _} {a3 : _} {a4 : _} {t : State} (h : (@execPtpSyncReceive a0 a1 a2 a3 a4) = .next t) : Keeps a3 t := by
  unfold execPtpSyncReceive at h
  injection h with h
  subst h
  refine Keeps.ite ?_ ?_
  · refine Keeps.trans ?_ State.sync_keeps
    exact Keeps.refl _
  · exact Keeps.refl _

theorem execDelayExchangeComplete_keeps {a0 : _} {a1 : _} {a2 : _} {a3 : _} {t : State} (h : (@execDelayExchangeComplete a0 a1 a2 a3) = .next t) : Keeps a3 t := by
  unfold execDelayExchangeComplete at h
  injection h with h
  subst h
  refine Keeps.ite ?_ ?_
  · refine Keeps.trans ?_ State.onTime_keeps
    refine Keeps.trans ?_ (Keeps.put (by decide))
    refine Keeps.ite ?_ ?_
    · refine Keeps.trans ?_ (Keeps.put (by decide))
      exact Keeps.refl _
    · exact Keeps.refl _
  · refine Keeps.ite ?_ ?_
    · refine Keeps.trans ?_ (Keeps.put (by decide))
      exact Keeps.refl _
    · exact Keeps.refl _

theorem execAnnounceReceive_keeps {a0 : _} {a1 : _} {t : State} (h : (@execAnnounceReceive a0 a1) = .next t) : Keeps a1 t := by
  unfold execAnnounceReceive at h
  injection h with h
  subst h
  refine Keeps.ite ?_ ?_
  · exact Keeps.refl _
  · dsimp only
    refine Keeps.ite ?_ ?_
    · refine Keeps.trans ?_ State.selectGm_keeps
      refine Keeps.trans ?_ State.onTime_keeps
      exact Keeps.refl _
    · refine Keeps.ite ?_ ?_
      · refine Keeps.trans ?_ State.onTime_keeps
        refine Keeps.trans ?_ State.onTime_keeps
        exact Keeps.refl _
      · refine Keeps.trans ?_ State.onTime_keeps
        exact Keeps.refl _

theorem execGmChange_keeps {a0 : _} {a1 : _} {a2 : _} {t : State} (h : (@execGmChange a0 a1 a2) = .next t) : Keeps a2 t := by
  unfold execGmChange at h
  injection h with h
  subst h
  split
  · rename_i v0 v1
    refine Keeps.trans ?_ State.selectGm_keeps
    exact Keeps.refl _
  · rename_i v2 v3 v4
    refine Keeps.ite ?_ ?_
    · exact Keeps.refl _
    · dsimp only
      refine Keeps.trans ?_ State.selectGm_keeps
      refine Keeps.trans ?_ State.loseGm_keeps
      refine Keeps.trans ?_ State.raise_keeps
      refine Keeps.trans ?_ State.raise_keeps
      refine Keeps.trans ?_ (Keeps.inc (by decide))
      exact Keeps.refl _

theorem execGmLost_keeps {a0 : _} {a1 : _} {t : State} (h : (@execGmLost a0 a1) = .next t) : Keeps a1 t := by
  unfold execGmLost at h
  injection h with h
  subst h
  split
  · rename_i v0 v1
    exact Keeps.refl _
  · rename_i v2 v3 v4
    refine Keeps.ite ?_ ?_
    · exact Keeps.refl _
    · dsimp only
      refine Keeps.trans ?_ State.loseGm_keeps
      refine Keeps.trans ?_ State.raise_keeps
      refine Keeps.trans ?_ State.onTime_keeps
      exact Keeps.refl _

theorem State.lockLost_keeps {a0 : _} : Keeps a0 (@State.lockLost a0) := by
  unfold State.lockLost
  refine Keeps.ite ?_ ?_
  · dsimp only
    refine Keeps.trans ?_ State.raise_keeps
    refine Keeps.trans ?_ State.showPorts_keeps
    refine Keeps.trans ?_ (Keeps.put (by decide))
    refine Keeps.trans ?_ (Keeps.put (by decide))
    exact Keeps.refl _
  · exact Keeps.refl _

theorem execTimeLockLost_keeps {a0 : _} {t : State} (h : (@execTimeLockLost a0) = .next t) : Keeps a0 t := by
  unfold execTimeLockLost at h
  injection h with h
  subst h
  refine Keeps.trans ?_ State.lockLost_keeps
  exact Keeps.refl _

theorem State.slewEdge_keeps {a0 : _} : Keeps a0 (@State.slewEdge a0) := by
  unfold State.slewEdge
  refine Keeps.ite ?_ ?_
  · exact Keeps.refl _
  · refine Keeps.ite ?_ ?_
    · dsimp only
      refine Keeps.ite ?_ ?_
      · refine Keeps.trans ?_ State.becomeAligned_keeps
        refine Keeps.mkUpd ?_ (by with_reducible rfl) (by with_reducible rfl) (by with_reducible rfl) (by with_reducible rfl)
        exact Keeps.refl _
      · refine Keeps.trans ?_ (Keeps.put (by decide))
        refine Keeps.mkUpd ?_ (by with_reducible rfl) (by with_reducible rfl) (by with_reducible rfl) (by with_reducible rfl)
        exact Keeps.refl _
    · dsimp only
      refine Keeps.ite ?_ ?_
      · refine Keeps.ite ?_ ?_
        · refine Keeps.trans ?_ State.lockLost_keeps
          refine Keeps.trans ?_ (Keeps.put (by decide))
          refine Keeps.trans ?_ (Keeps.put (by decide))
          refine Keeps.mkUpd ?_ (by with_reducible rfl) (by with_reducible rfl) (by with_reducible rfl) (by with_reducible rfl)
          exact Keeps.refl _
        · refine Keeps.trans ?_ (Keeps.put (by decide))
          refine Keeps.trans ?_ (Keeps.put (by decide))
          refine Keeps.mkUpd ?_ (by with_reducible rfl) (by with_reducible rfl) (by with_reducible rfl) (by with_reducible rfl)
          exact Keeps.refl _
      · refine Keeps.mkUpd ?_ (by with_reducible rfl) (by with_reducible rfl) (by with_reducible rfl) (by with_reducible rfl)
        exact Keeps.refl _

theorem execPtpRxError_keeps {a0 : _} {a1 : _} {t : State} (h : (@execPtpRxError a0 a1) = .next t) : Keeps a1 t := by
  unfold execPtpRxError at h
  injection h with h
  subst h
  refine Keeps.ite ?_ ?_
  · refine Keeps.trans ?_ State.raise_keeps
    refine Keeps.trans ?_ State.onTime_keeps
    refine Keeps.trans ?_ (Keeps.inc (by decide))
    exact Keeps.refl _
  · refine Keeps.trans ?_ (Keeps.inc (by decide))
    exact Keeps.refl _

theorem execPtpForward_keeps {a0 : _} {a1 : _} {a2 : _} {a3 : _} {a4 : _} {a5 : _} {a6 : _} {t : State} (h : (@execPtpForward a0 a1 a2 a3 a4 a5 a6) = .next t) : Keeps a6 t := by
  unfold execPtpForward at h
  injection h with h
  subst h
  refine Keeps.ite ?_ ?_
  · exact Keeps.refl _
  · refine Keeps.ite ?_ ?_
    · refine Keeps.trans ?_ State.onTime_keeps
      exact Keeps.refl _
    · refine Keeps.ite ?_ ?_
      · dsimp only
        refine Keeps.ite ?_ ?_
        · refine Keeps.trans ?_ State.raise_keeps
          refine Keeps.trans ?_ State.onTime_keeps
          refine Keeps.trans ?_ State.onTime_keeps
          refine Keeps.trans ?_ (Keeps.inc (by decide))
          exact Keeps.refl _
        · refine Keeps.trans ?_ State.onTime_keeps
          refine Keeps.trans ?_ (Keeps.inc (by decide))
          exact Keeps.refl _
      · dsimp only
        refine Keeps.trans ?_ State.onTime_keeps
        exact Keeps.refl _

theorem State.linkAt_keeps {a0 : _} {a1 : _} {a2 : _} : Keeps a0 (@State.linkAt a0 a1 a2) := by
  unfold State.linkAt
  dsimp only
  refine Keeps.trans ?_ State.onTime_keeps
  exact Keeps.refl _

theorem State.sourceAgain_keeps {a0 : _} : Keeps a0 (@State.sourceAgain a0) := by
  unfold State.sourceAgain
  split
  · rename_i v0 v1 v2
    refine Keeps.trans ?_ (Keeps.put (by decide))
    exact Keeps.refl _
  · rename_i v3 v4
    exact Keeps.refl _

theorem execEthLinkChange_keeps {a0 : _} {a1 : _} {a2 : _} {t : State} (h : (@execEthLinkChange a0 a1 a2) = .next t) : Keeps a2 t := by
  unfold execEthLinkChange at h
  injection h with h
  subst h
  refine Keeps.trans ?_ State.showPorts_keeps
  refine Keeps.ite ?_ ?_
  · refine Keeps.trans ?_ State.sourceAgain_keeps
    refine Keeps.trans ?_ State.linkAt_keeps
    exact Keeps.refl _
  · refine Keeps.trans ?_ State.linkAt_keeps
    exact Keeps.refl _

theorem State.putPin_keeps {a0 : _} {a1 : _} : Keeps a0 (@State.putPin a0 a1) := by
  unfold State.putPin
  refine Keeps.trans ?_ State.onTime_keeps
  exact Keeps.refl _

theorem State.pulse_keeps {a0 : _} {a1 : _} {a2 : _} {a3 : _} : Keeps a0 (@State.pulse a0 a1 a2 a3) := by
  unfold State.pulse
  refine Keeps.trans ?_ State.putPin_keeps
  refine Keeps.trans ?_ (Keeps.inc (by decide))
  exact Keeps.refl _

theorem State.pinWritten_keeps {a0 : _} {a1 : _} {a2 : _} : Keeps a0 (@State.pinWritten a0 a1 a2) := by
  unfold State.pinWritten
  dsimp only
  refine Keeps.ite ?_ ?_
  · refine Keeps.trans ?_ State.raise_keeps
    refine Keeps.trans ?_ (Keeps.put (by decide))
    refine Keeps.trans ?_ State.putPin_keeps
    exact Keeps.refl _
  · refine Keeps.ite ?_ ?_
    · refine Keeps.ite ?_ ?_
      · refine Keeps.trans ?_ (Keeps.put (by decide))
        refine Keeps.trans ?_ State.putPin_keeps
        exact Keeps.refl _
      · refine Keeps.trans ?_ State.putPin_keeps
        exact Keeps.refl _
    · refine Keeps.trans ?_ (Keeps.put (by decide))
      refine Keeps.trans ?_ State.putPin_keeps
      exact Keeps.refl _

theorem State.pinsStep_keeps {a0 : _} : Keeps a0 (@State.pinsStep a0) := by
  unfold State.pinsStep
  refine Keeps.mkUpd ?_ (by with_reducible rfl) (by with_reducible rfl) (by with_reducible rfl) (by with_reducible rfl)
  exact Keeps.refl _

theorem execPpsEdge_keeps {a0 : _} {a1 : _} {t : State} (h : (@execPpsEdge a0 a1) = .next t) : Keeps a1 t := by
  unfold execPpsEdge at h
  injection h with h
  subst h
  refine Keeps.trans ?_ State.raise_keeps
  refine Keeps.trans ?_ State.onTime_keeps
  refine Keeps.trans ?_ (Keeps.inc (by decide))
  refine Keeps.trans ?_ (Keeps.put (by decide))
  refine Keeps.trans ?_ (Keeps.put (by decide))
  exact Keeps.refl _

theorem execPpsLost_keeps {a0 : _} {t : State} (h : (@execPpsLost a0) = .next t) : Keeps a0 t := by
  unfold execPpsLost at h
  injection h with h
  subst h
  refine Keeps.ite ?_ ?_
  · refine Keeps.trans ?_ State.raise_keeps
    refine Keeps.trans ?_ (Keeps.put (by decide))
    exact Keeps.refl _
  · exact Keeps.refl _

theorem execPpsOutPulse_keeps {a0 : _} {t : State} (h : (@execPpsOutPulse a0) = .next t) : Keeps a0 t := by
  unfold execPpsOutPulse at h
  injection h with h
  subst h
  refine Keeps.ite ?_ ?_
  · exact Keeps.refl _
  · dsimp only
    refine Keeps.ite ?_ ?_
    · refine Keeps.trans ?_ (Keeps.putFlag (by decide))
      refine Keeps.trans ?_ State.onTime_keeps
      refine Keeps.ite ?_ ?_
      · exact Keeps.refl _
      · refine Keeps.trans ?_ State.raise_keeps
        exact Keeps.refl _
    · refine Keeps.trans ?_ State.pulse_keeps
      refine Keeps.trans ?_ (Keeps.putFlag (by decide))
      refine Keeps.trans ?_ State.onTime_keeps
      refine Keeps.ite ?_ ?_
      · exact Keeps.refl _
      · refine Keeps.trans ?_ State.raise_keeps
        exact Keeps.refl _

theorem execChimePulse_keeps {a0 : _} {a1 : _} {t : State} (h : (@execChimePulse a0 a1) = .next t) : Keeps a1 t := by
  unfold execChimePulse at h
  injection h with h
  subst h
  refine Keeps.ite ?_ ?_
  · exact Keeps.refl _
  · split
    · rename_i v0 v1 v2 v3 v4 v5
      refine Keeps.trans ?_ State.pulse_keeps
      exact Keeps.refl _
    · rename_i v6 v7 v8 v9 v10 v11 v12
      refine Keeps.ite ?_ ?_
      · refine Keeps.trans ?_ State.pulse_keeps
        exact Keeps.refl _
      · refine Keeps.trans ?_ State.pulse_keeps
        refine Keeps.trans ?_ State.putPin_keeps
        exact Keeps.refl _
    · rename_i v13 v14 v15 v16 v17
      refine Keeps.trans ?_ State.pulse_keeps
      refine Keeps.trans ?_ State.putPin_keeps
      exact Keeps.refl _
    · rename_i v18 v19 v20 v21
      exact Keeps.refl _

theorem execRimshotFired_keeps {a0 : _} {a1 : _} {t : State} (h : (@execRimshotFired a0 a1) = .next t) : Keeps a1 t := by
  unfold execRimshotFired at h
  injection h with h
  subst h
  refine Keeps.ite ?_ ?_
  · exact Keeps.refl _
  · refine Keeps.trans ?_ State.raise_keeps
    refine Keeps.trans ?_ (Keeps.put (by decide))
    refine Keeps.trans ?_ State.pulse_keeps
    exact Keeps.refl _

theorem execTpEventPulse_keeps {a0 : _} {a1 : _} {t : State} (h : (@execTpEventPulse a0 a1) = .next t) : Keeps a1 t := by
  unfold execTpEventPulse at h
  injection h with h
  subst h
  refine Keeps.ite ?_ ?_
  · exact Keeps.refl _
  · dsimp only
    refine Keeps.ite ?_ ?_
    · refine Keeps.mkUpd ?_ (by with_reducible rfl) (by with_reducible rfl) (by with_reducible rfl) (by with_reducible rfl)
      exact Keeps.refl _
    · refine Keeps.ite ?_ ?_
      · refine Keeps.trans ?_ (Keeps.inc (by decide))
        refine Keeps.mkUpd ?_ (by with_reducible rfl) (by with_reducible rfl) (by with_reducible rfl) (by with_reducible rfl)
        exact Keeps.refl _
      · refine Keeps.trans ?_ State.pulse_keeps
        refine Keeps.mkUpd ?_ (by with_reducible rfl) (by with_reducible rfl) (by with_reducible rfl) (by with_reducible rfl)
        exact Keeps.refl _

theorem execTimeStatus_keeps {a0 : _} {a1 : _} {t : State} (h : (@execTimeStatus a0 a1) = .next t) : Keeps a1 t := by
  unfold execTimeStatus at h
  injection h with h
  subst h
  refine Keeps.trans ?_ (served_keeps ?_)
  · exact Keeps.refl _
  · intro v0 v1
    dsimp only
    exact Keeps.refl _

theorem chimeSetApply_keeps {a0 : _} {a1 : _} : Keeps a1 (@chimeSetApply a0 a1).st := by
  unfold chimeSetApply
  dsimp only
  refine Keeps.trans ?_ State.pinWritten_keeps
  iterate 4 refine Keeps.trans ?_ (Keeps.put (by decide))
  exact Keeps.refl _

theorem execChimeSet_keeps {a0 : _} {a1 : _} {t : State} (h : (@execChimeSet a0 a1) = .next t) : Keeps a1 t := by
  unfold execChimeSet at h
  injection h with h
  subst h
  refine Keeps.trans ?_ queued_keeps
  exact Keeps.refl _

theorem rimshotArmApply_keeps {a0 : _} {a1 : _} : Keeps a1 (@rimshotArmApply a0 a1).st := by
  unfold rimshotArmApply
  dsimp only
  refine Keeps.trans ?_ (Keeps.put (by decide))
  refine Keeps.trans ?_ State.putPin_keeps
  iterate 3 refine Keeps.trans ?_ (Keeps.put (by decide))
  refine Keeps.ite ?_ ?_
  · refine Keeps.trans ?_ (Keeps.inc (by decide))
    exact Keeps.refl _
  · exact Keeps.refl _

theorem execRimshotArm_keeps {a0 : _} {a1 : _} {t : State} (h : (@execRimshotArm a0 a1) = .next t) : Keeps a1 t := by
  unfold execRimshotArm at h
  injection h with h
  subst h
  refine Keeps.trans ?_ queued_keeps
  exact Keeps.refl _

theorem captureReadBody_keeps {a0 : _} {a1 : _} {a2 : _} : Keeps a2 (@captureReadBody a0 a1 a2).st := by
  unfold captureReadBody
  dsimp only
  exact Keeps.refl _

theorem execCaptureRead_keeps {a0 : _} {a1 : _} {t : State} (h : (@execCaptureRead a0 a1) = .next t) : Keeps a1 t := by
  unfold execCaptureRead at h
  injection h with h
  subst h
  refine Keeps.trans ?_ (served_keeps ?_)
  · exact Keeps.refl _
  · intro v0 v1
    refine Keeps.trans ?_ captureReadBody_keeps
    exact Keeps.refl _

theorem State.takeServo_keeps {a0 : _} {a1 : _} : Keeps a0 (@State.takeServo a0 a1) := by
  unfold State.takeServo
  dsimp only
  refine Keeps.trans ?_ (Keeps.putFlag (by decide))
  refine Keeps.trans ?_ State.setAlign_keeps
  refine Keeps.trans ?_ (Keeps.putFlag (by decide))
  refine Keeps.trans ?_ State.onTime_keeps
  refine Keeps.mkUpd ?_ (by with_reducible rfl) (by with_reducible rfl) (by with_reducible rfl) (by with_reducible rfl)
  iterate 3 refine Keeps.trans ?_ (Keeps.put (by decide))
  exact Keeps.refl _

theorem State.timeTakesOver_keeps {a0 : _} : Keeps a0 (@State.timeTakesOver a0) := by
  unfold State.timeTakesOver
  refine Keeps.ite ?_ ?_
  · dsimp only
    split
    · rename_i v0 v1 v2
      refine Keeps.trans ?_ (Keeps.put (by decide))
      refine Keeps.trans ?_ (Keeps.put (by decide))
      refine Keeps.trans ?_ State.onTime_keeps
      exact Keeps.refl _
    · rename_i v3 v4
      refine Keeps.trans ?_ State.onTime_keeps
      exact Keeps.refl _
  · exact Keeps.refl _

/-! Units. -/

theorem State.showUnit_keeps {a0 : _} : Keeps a0 (@State.showUnit a0) := by
  unfold State.showUnit
  refine Keeps.trans ?_ (Keeps.put (by decide))
  exact Keeps.refl _

theorem State.mailNext_keeps {a0 : _} {a1 : _} : Keeps a0 (@State.mailNext a0 a1) := by
  unfold State.mailNext
  dsimp only
  refine Keeps.mkUpd ?_ (by with_reducible rfl) (by with_reducible rfl) (by with_reducible rfl) (by with_reducible rfl)
  refine Keeps.trans ?_ State.sendService_keeps
  exact Keeps.refl _

theorem State.mailSend_keeps {a0 : _} {a1 : _} {a2 : _} {a3 : _} {a4 : _} {a5 : _} {a6 : _} {a7 : _} {a8 : _} : Keeps a0 (@State.mailSend a0 a1 a2 a3 a4 a5 a6 a7 a8) := by
  unfold State.mailSend
  refine Keeps.trans ?_ State.mailNext_keeps
  exact Keeps.refl _

theorem mailed_keeps {a0 : _} {a1 : _} {a2 : _} {a3 : _} {a4 : _} {a5 : _} (h4 : ∀ y0 y1, Keeps y1 (a4 y0 y1).st) : Keeps a5 (@mailed a0 a1 a2 a3 a4 a5) := by
  unfold mailed
  split
  · rename_i v0 v1 v2
    dsimp only
    split
    · rename_i v3 v4 v5 v6
      refine Keeps.trans ?_ State.answer_keeps
      refine Keeps.trans ?_ State.noteSeq_keeps
      exact Keeps.refl _
    · rename_i v7 v8
      split
      · rename_i v9 v10 v11 v12 v13 v14 v15 v16
        refine Keeps.ite ?_ ?_
        · refine Keeps.trans ?_ State.answer_keeps
          refine Keeps.trans ?_ State.noteSeq_keeps
          exact Keeps.refl _
        · refine Keeps.trans ?_ State.mailSend_keeps
          refine Keeps.trans ?_ State.noteSeq_keeps
          exact Keeps.refl _
      · rename_i v17 v18
        refine Keeps.trans ?_ State.answer_keeps
        refine Keeps.trans ?_ (h4 ..)
        refine Keeps.trans ?_ State.noteSeq_keeps
        exact Keeps.refl _
  · rename_i v19 v20
    refine Keeps.trans ?_ turnedAway_keeps
    exact Keeps.refl _

theorem State.mailDone_keeps {a0 : _} {a1 : _} {a2 : _} {a3 : _} : Keeps a0 (@State.mailDone a0 a1 a2 a3) := by
  unfold State.mailDone
  dsimp only
  refine Keeps.ite ?_ ?_
  · refine Keeps.trans ?_ State.answer_keeps
    refine Keeps.mkUpd ?_ (by with_reducible rfl) (by with_reducible rfl) (by with_reducible rfl) (by with_reducible rfl)
    exact Keeps.refl _
  · refine Keeps.trans ?_ State.answer_keeps
    refine Keeps.mkUpd ?_ (by with_reducible rfl) (by with_reducible rfl) (by with_reducible rfl) (by with_reducible rfl)
    exact Keeps.refl _

theorem execMailboxReply_keeps {a0 : _} {a1 : _} {a2 : _} {a3 : _} {a4 : _} {a5 : _} {a6 : _} {a7 : _} {t : State} (h : (@execMailboxReply a0 a1 a2 a3 a4 a5 a6 a7) = .next t) : Keeps a7 t := by
  unfold execMailboxReply at h
  injection h with h
  subst h
  split
  · rename_i v0 v1
    exact Keeps.refl _
  · rename_i v2 v3 v4
    dsimp only
    refine Keeps.ite ?_ ?_
    · refine Keeps.trans ?_ State.mailNext_keeps
      refine Keeps.mkUpd ?_ (by with_reducible rfl) (by with_reducible rfl) (by with_reducible rfl) (by with_reducible rfl)
      exact Keeps.refl _
    · refine Keeps.trans ?_ State.mailDone_keeps
      exact Keeps.refl _

theorem execMailboxTimeout_keeps {a0 : _} {a1 : _} {a2 : _} {a3 : _} {t : State} (h : (@execMailboxTimeout a0 a1 a2 a3) = .next t) : Keeps a3 t := by
  unfold execMailboxTimeout at h
  injection h with h
  subst h
  split
  · rename_i v0 v1
    exact Keeps.refl _
  · rename_i v2 v3 v4
    refine Keeps.trans ?_ State.mailDone_keeps
    exact Keeps.refl _

theorem unitListBody_keeps {a0 : _} {a1 : _} {a2 : _} : Keeps a2 (@unitListBody a0 a1 a2).st := by
  unfold unitListBody
  dsimp only
  exact Keeps.refl _

theorem execUnitList_keeps {a0 : _} {a1 : _} {t : State} (h : (@execUnitList a0 a1) = .next t) : Keeps a1 t := by
  unfold execUnitList at h
  injection h with h
  subst h
  refine Keeps.trans ?_ (served_keeps ?_)
  · exact Keeps.refl _
  · intro v0 v1
    refine Keeps.trans ?_ unitListBody_keeps
    exact Keeps.refl _

theorem execUnitInfo_keeps {a0 : _} {a1 : _} {t : State} (h : (@execUnitInfo a0 a1) = .next t) : Keeps a1 t := by
  unfold execUnitInfo at h
  injection h with h
  subst h
  refine Keeps.trans ?_ (served_keeps ?_)
  · exact Keeps.refl _
  · intro v0 v1
    dsimp only
    exact Keeps.refl _

theorem execUnitEpochGet_keeps {a0 : _} {a1 : _} {t : State} (h : (@execUnitEpochGet a0 a1) = .next t) : Keeps a1 t := by
  unfold execUnitEpochGet at h
  injection h with h
  subst h
  refine Keeps.trans ?_ (served_keeps ?_)
  · exact Keeps.refl _
  · intro v0 v1
    dsimp only
    exact Keeps.refl _

theorem unitCertGetBody_keeps {a0 : _} {a1 : _} {a2 : _} : Keeps a2 (@unitCertGetBody a0 a1 a2).st := by
  unfold unitCertGetBody
  dsimp only
  refine Keeps.iteSt ?_ ?_
  · dsimp only
    exact Keeps.refl _
  · dsimp only
    refine Keeps.trans ?_ State.fresh_keeps
    exact Keeps.refl _

theorem execUnitCertGet_keeps {a0 : _} {a1 : _} {t : State} (h : (@execUnitCertGet a0 a1) = .next t) : Keeps a1 t := by
  unfold execUnitCertGet at h
  injection h with h
  subst h
  refine Keeps.trans ?_ (mailed_keeps ?_)
  · exact Keeps.refl _
  · intro v0 v1
    refine Keeps.trans ?_ unitCertGetBody_keeps
    exact Keeps.refl _

theorem State.wrapKey_keeps {a0 : _} : Keeps a0 (@State.wrapKey a0) := by
  unfold State.wrapKey
  refine Keeps.ite ?_ ?_
  · refine Keeps.trans ?_ State.raise_keeps
    refine Keeps.mkUpd ?_ (by with_reducible rfl) (by with_reducible rfl) (by with_reducible rfl) (by with_reducible rfl)
    exact Keeps.refl _
  · exact Keeps.refl _

theorem csrCreateBody_keeps {a0 : _} {a1 : _} {a2 : _} : Keeps a2 (@csrCreateBody a0 a1 a2).st := by
  unfold csrCreateBody
  dsimp only
  refine Keeps.trans ?_ State.fresh_keeps
  refine Keeps.trans ?_ State.fresh_keeps
  refine Keeps.trans ?_ State.wrapKey_keeps
  refine Keeps.ite ?_ ?_
  · refine Keeps.ite ?_ ?_
    · refine Keeps.trans ?_ (Keeps.put (by decide))
      refine Keeps.mkUpd ?_ (by with_reducible rfl) (by with_reducible rfl) (by with_reducible rfl) (by with_reducible rfl)
      refine Keeps.trans ?_ State.auditBy_keeps
      exact Keeps.refl _
    · refine Keeps.mkUpd ?_ (by with_reducible rfl) (by with_reducible rfl) (by with_reducible rfl) (by with_reducible rfl)
      refine Keeps.trans ?_ State.auditBy_keeps
      exact Keeps.refl _
  · refine Keeps.trans ?_ State.auditBy_keeps
    exact Keeps.refl _

theorem execCsrCreate_keeps {a0 : _} {a1 : _} {t : State} (h : (@execCsrCreate a0 a1) = .next t) : Keeps a1 t := by
  unfold execCsrCreate at h
  injection h with h
  subst h
  refine Keeps.trans ?_ auditRefused_keeps
  refine Keeps.trans ?_ (served_keeps ?_)
  · exact Keeps.refl _
  · intro v0 v1
    refine Keeps.trans ?_ csrCreateBody_keeps
    exact Keeps.refl _

theorem State.certRecord_keeps {a0 : _} {a1 : _} : Keeps a0 (@State.certRecord a0 a1) := by
  unfold State.certRecord
  refine Keeps.trans ?_ State.journal_keeps
  exact Keeps.refl _

theorem certInstallBody_keeps {a0 : _} {a1 : _} {a2 : _} : Keeps a2 (@certInstallBody a0 a1 a2).st := by
  unfold certInstallBody
  dsimp only
  refine Keeps.iteSt ?_ ?_
  · dsimp only
    refine Keeps.trans ?_ State.raise_keeps
    refine Keeps.trans ?_ State.bumpPair_keeps
    refine Keeps.mkUpd ?_ (by with_reducible rfl) (by with_reducible rfl) (by with_reducible rfl) (by with_reducible rfl)
    refine Keeps.trans ?_ State.fresh_keeps
    refine Keeps.trans ?_ State.raise_keeps
    refine Keeps.trans ?_ State.certRecord_keeps
    iterate 4 refine Keeps.trans ?_ (Keeps.put (by decide))
    refine Keeps.mkUpd ?_ (by with_reducible rfl) (by with_reducible rfl) (by with_reducible rfl) (by with_reducible rfl)
    refine Keeps.trans ?_ State.auditBy_keeps
    exact Keeps.refl _
  · dsimp only
    refine Keeps.trans ?_ State.raise_keeps
    refine Keeps.trans ?_ State.certRecord_keeps
    iterate 4 refine Keeps.trans ?_ (Keeps.put (by decide))
    refine Keeps.mkUpd ?_ (by with_reducible rfl) (by with_reducible rfl) (by with_reducible rfl) (by with_reducible rfl)
    refine Keeps.trans ?_ State.auditBy_keeps
    exact Keeps.refl _

theorem execCertInstall_keeps {a0 : _} {a1 : _} {t : State} (h : (@execCertInstall a0 a1) = .next t) : Keeps a1 t := by
  unfold execCertInstall at h
  injection h with h
  subst h
  refine Keeps.trans ?_ auditRefused_keeps
  refine Keeps.trans ?_ (servedTracked_keeps ?_)
  · exact Keeps.refl _
  · intro v0 v1
    refine Keeps.trans ?_ certInstallBody_keeps
    exact Keeps.refl _

theorem execCertExpiring_keeps {a0 : _} {a1 : _} {t : State} (h : (@execCertExpiring a0 a1) = .next t) : Keeps a1 t := by
  unfold execCertExpiring at h
  injection h with h
  subst h
  refine Keeps.ite ?_ ?_
  · refine Keeps.trans ?_ State.raise_keeps
    refine Keeps.mkUpd ?_ (by with_reducible rfl) (by with_reducible rfl) (by with_reducible rfl) (by with_reducible rfl)
    exact Keeps.refl _
  · exact Keeps.refl _

theorem execCertExpired_keeps {a0 : _} {a1 : _} {t : State} (h : (@execCertExpired a0 a1) = .next t) : Keeps a1 t := by
  unfold execCertExpired at h
  injection h with h
  subst h
  refine Keeps.ite ?_ ?_
  · refine Keeps.trans ?_ State.raise_keeps
    refine Keeps.trans ?_ (Keeps.put (by decide))
    exact Keeps.refl _
  · exact Keeps.refl _

/-! Security. -/

theorem State.tokenRejected_keeps {a0 : _} {a1 : _} {a2 : _} {a3 : _} : Keeps a0 (@State.tokenRejected a0 a1 a2 a3) := by
  unfold State.tokenRejected
  dsimp only
  refine Keeps.trans ?_ State.raise_keeps
  refine Keeps.trans ?_ State.auditBy_keeps
  refine Keeps.trans ?_ (Keeps.inc (by decide))
  exact Keeps.refl _

theorem securityStateSetApply_keeps {a0 : _} {a1 : _} : Keeps a1 (@securityStateSetApply a0 a1).st := by
  unfold securityStateSetApply
  dsimp only
  refine Keeps.iteSt ?_ ?_
  · dsimp only
    exact Keeps.refl _
  · refine Keeps.iteSt ?_ ?_
    · dsimp only
      refine Keeps.ite ?_ ?_
      · refine Keeps.trans ?_ State.tokenRejected_keeps
        refine Keeps.trans ?_ State.auditBy_keeps
        exact Keeps.refl _
      · refine Keeps.trans ?_ State.auditBy_keeps
        exact Keeps.refl _
    · refine Keeps.iteSt ?_ ?_
      · dsimp only
        refine Keeps.trans ?_ (Keeps.put (by decide))
        refine Keeps.trans ?_ State.raise_keeps
        refine Keeps.trans ?_ (Keeps.putKey (by decide))
        refine Keeps.ite ?_ ?_
        · refine Keeps.trans ?_ (Keeps.put (by decide))
          refine Keeps.trans ?_ State.endDebug_keeps
          refine Keeps.trans ?_ State.auditBy_keeps
          exact Keeps.refl _
        · refine Keeps.trans ?_ State.endDebug_keeps
          refine Keeps.trans ?_ State.auditBy_keeps
          exact Keeps.refl _
      · refine Keeps.iteSt ?_ ?_
        · dsimp only
          refine Keeps.trans ?_ State.enterStart_keeps
          refine Keeps.trans ?_ State.raise_keeps
          refine Keeps.trans ?_ (Keeps.putKey (by decide))
          refine Keeps.ite ?_ ?_
          · refine Keeps.trans ?_ (Keeps.put (by decide))
            refine Keeps.trans ?_ State.endDebug_keeps
            refine Keeps.trans ?_ State.auditBy_keeps
            exact Keeps.refl _
          · refine Keeps.trans ?_ State.endDebug_keeps
            refine Keeps.trans ?_ State.auditBy_keeps
            exact Keeps.refl _
        · dsimp only
          refine Keeps.trans ?_ State.raise_keeps
          refine Keeps.trans ?_ (Keeps.putKey (by decide))
          refine Keeps.ite ?_ ?_
          · refine Keeps.trans ?_ (Keeps.put (by decide))
            refine Keeps.trans ?_ State.endDebug_keeps
            refine Keeps.trans ?_ State.auditBy_keeps
            exact Keeps.refl _
          · refine Keeps.trans ?_ State.endDebug_keeps
            refine Keeps.trans ?_ State.auditBy_keeps
            exact Keeps.refl _

theorem execSecurityStateSet_keeps {a0 : _} {a1 : _} {t : State} (h : (@execSecurityStateSet a0 a1) = .next t) : Keeps a1 t := by
  unfold execSecurityStateSet at h
  injection h with h
  subst h
  refine Keeps.ite ?_ ?_
  · refine Keeps.trans ?_ State.tokenRejected_keeps
    refine Keeps.trans ?_ auditRefused_keeps
    refine Keeps.trans ?_ queued_keeps
    exact Keeps.refl _
  · refine Keeps.trans ?_ auditRefused_keeps
    refine Keeps.trans ?_ queued_keeps
    exact Keeps.refl _

theorem debugInstallBody_keeps {a0 : _} {a1 : _} {a2 : _} : Keeps a2 (@debugInstallBody a0 a1 a2).st := by
  unfold debugInstallBody
  dsimp only
  refine Keeps.trans ?_ State.raise_keeps
  refine Keeps.mkUpd ?_ (by with_reducible rfl) (by with_reducible rfl) (by with_reducible rfl) (by with_reducible rfl)
  iterate 7 refine Keeps.trans ?_ (Keeps.put (by decide))
  refine Keeps.trans ?_ State.auditBy_keeps
  exact Keeps.refl _

theorem execDebugTokenInstall_keeps {a0 : _} {a1 : _} {t : State} (h : (@execDebugTokenInstall a0 a1) = .next t) : Keeps a1 t := by
  unfold execDebugTokenInstall at h
  injection h with h
  subst h
  refine Keeps.ite ?_ ?_
  · refine Keeps.trans ?_ State.tokenRejected_keeps
    refine Keeps.trans ?_ auditRefused_keeps
    refine Keeps.trans ?_ (served_keeps ?_)
    · exact Keeps.refl _
    · intro v0 v1
      refine Keeps.trans ?_ debugInstallBody_keeps
      exact Keeps.refl _
  · refine Keeps.trans ?_ auditRefused_keeps
    refine Keeps.trans ?_ (served_keeps ?_)
    · exact Keeps.refl _
    · intro v2 v3
      refine Keeps.trans ?_ debugInstallBody_keeps
      exact Keeps.refl _

theorem State.dbgHalt_keeps {a0 : _} : Keeps a0 (@State.dbgHalt a0) := by
  unfold State.dbgHalt
  refine Keeps.ite ?_ ?_
  · exact Keeps.refl _
  · dsimp only
    refine Keeps.ite ?_ ?_
    · refine Keeps.mkUpd ?_ (by with_reducible rfl) (by with_reducible rfl) (by with_reducible rfl) (by with_reducible rfl)
      refine Keeps.trans ?_ State.dropSync_keeps
      refine Keeps.trans ?_ (Keeps.put (by decide))
      refine Keeps.trans ?_ (Keeps.put (by decide))
      refine Keeps.trans ?_ State.fresh_keeps
      refine Keeps.trans ?_ State.auditBy_keeps
      exact Keeps.refl _
    · refine Keeps.ite ?_ ?_
      · refine Keeps.trans ?_ State.stopShadow_keeps
        refine Keeps.trans ?_ (Keeps.put (by decide))
        refine Keeps.trans ?_ (Keeps.put (by decide))
        refine Keeps.trans ?_ State.fresh_keeps
        refine Keeps.trans ?_ State.auditBy_keeps
        exact Keeps.refl _
      · refine Keeps.trans ?_ (Keeps.put (by decide))
        refine Keeps.trans ?_ (Keeps.put (by decide))
        refine Keeps.trans ?_ State.fresh_keeps
        refine Keeps.trans ?_ State.auditBy_keeps
        exact Keeps.refl _

theorem State.dbgResume_keeps {a0 : _} : Keeps a0 (@State.dbgResume a0) := by
  unfold State.dbgResume
  refine Keeps.ite ?_ ?_
  · exact Keeps.refl _
  · refine Keeps.trans ?_ (Keeps.put (by decide))
    refine Keeps.trans ?_ State.dropCycles_keeps
    refine Keeps.trans ?_ State.auditBy_keeps
    exact Keeps.refl _

theorem State.dbgStep_keeps {a0 : _} : Keeps a0 (@State.dbgStep a0) := by
  unfold State.dbgStep
  refine Keeps.ite ?_ ?_
  · exact Keeps.refl _
  · dsimp only
    refine Keeps.trans ?_ (Keeps.put (by decide))
    refine Keeps.trans ?_ State.fresh_keeps
    refine Keeps.trans ?_ State.auditBy_keeps
    exact Keeps.refl _

theorem State.lineAlike_keeps {s : State} {a d : Nat} : Keeps s (s.lineAlike a d) := by
  unfold State.lineAlike
  refine Keeps.memUpd (Keeps.refl s) rfl (fun h => ?_) (List.Subset.refl _) (List.Subset.refl _) rfl
  simp only [State.mems, List.all_cons, List.all_nil, Bool.and_true, Bool.and_eq_true] at h ⊢
  refine ⟨memWf_memWrite h.1 _ _ _, ?_, ?_⟩ <;> split
  · exact memWf_memWrite h.2.1 _ _ _
  · exact h.2.1
  · exact memWf_memWrite h.2.2 _ _ _
  · exact h.2.2

theorem State.dbgWindowWrite_keeps {s : State} {d : Nat} : Keeps s (s.dbgWindowWrite d) := by
  unfold State.dbgWindowWrite
  dsimp only
  refine Keeps.ite (Keeps.refl s) (Keeps.trans ?_ State.lineAlike_keeps)
  exact State.auditBy_keeps.trans (Keeps.ite (Keeps.put (by decide)) (Keeps.refl _))

theorem execDbgCmdHalt_keeps {a0 : _} {t : State} (h : (@execDbgCmdHalt a0) = .next t) : Keeps a0 t := by
  unfold execDbgCmdHalt at h
  injection h with h
  subst h
  refine Keeps.trans ?_ State.dbgHalt_keeps
  exact Keeps.refl _

theorem execDbgCmdResume_keeps {a0 : _} {t : State} (h : (@execDbgCmdResume a0) = .next t) : Keeps a0 t := by
  unfold execDbgCmdResume at h
  injection h with h
  subst h
  refine Keeps.trans ?_ State.dbgResume_keeps
  exact Keeps.refl _

theorem execDbgCmdStep_keeps {a0 : _} {t : State} (h : (@execDbgCmdStep a0) = .next t) : Keeps a0 t := by
  unfold execDbgCmdStep at h
  injection h with h
  subst h
  refine Keeps.trans ?_ State.dbgStep_keeps
  exact Keeps.refl _

theorem execDbgCmdEndSession_keeps {a0 : _} {t : State} (h : (@execDbgCmdEndSession a0) = .next t) : Keeps a0 t := by
  unfold execDbgCmdEndSession at h
  injection h with h
  subst h
  refine Keeps.trans ?_ State.endDebug_keeps
  exact Keeps.refl _

theorem execDbgWindowWrite_keeps {a0 : _} {a1 : _} {t : State} (h : (@execDbgWindowWrite a0 a1) = .next t) : Keeps a1 t := by
  unfold execDbgWindowWrite at h
  injection h with h
  subst h
  refine Keeps.trans ?_ State.dbgWindowWrite_keeps
  exact Keeps.refl _

theorem execDebugDurationEnd_keeps {a0 : _} {t : State} (h : (@execDebugDurationEnd a0) = .next t) : Keeps a0 t := by
  unfold execDebugDurationEnd at h
  injection h with h
  subst h
  refine Keeps.trans ?_ State.endDebug_keeps
  exact Keeps.refl _

theorem State.traceItems_keeps {n : Nat} {s : State} : Keeps s (s.traceItems n) := by
  induction n generalizing s with
  | zero => exact Keeps.refl s
  | succ n ih =>
    unfold State.traceItems
    dsimp only
    refine Keeps.trans ?_ ih
    refine Keeps.trans (t := State.put _ _ _) ?_ (Keeps.ite (Keeps.inc (by decide)) (Keeps.refl _))
    refine Keeps.trans ?_ (Keeps.put (by decide))
    exact Keeps.upd (State.fresh_keeps (a1 := 96)) rfl rfl rfl rfl rfl

theorem State.debugEdge_keeps {a0 : _} : Keeps a0 (@State.debugEdge a0) := by
  unfold State.debugEdge
  dsimp only
  refine Keeps.ite ?_ ?_
  · refine Keeps.ite ?_ ?_
    · refine Keeps.trans ?_ State.traceItems_keeps
      refine Keeps.trans ?_ State.fresh_keeps
      exact Keeps.refl _
    · exact Keeps.refl _
  · refine Keeps.ite ?_ ?_
    · refine Keeps.trans ?_ State.endDebug_keeps
      refine Keeps.ite ?_ ?_
      · refine Keeps.trans ?_ State.traceItems_keeps
        refine Keeps.trans ?_ State.fresh_keeps
        exact Keeps.refl _
      · exact Keeps.refl _
    · refine Keeps.trans ?_ (Keeps.put (by decide))
      refine Keeps.mkUpd ?_ (by with_reducible rfl) (by with_reducible rfl) (by with_reducible rfl) (by with_reducible rfl)
      refine Keeps.ite ?_ ?_
      · refine Keeps.trans ?_ State.traceItems_keeps
        refine Keeps.trans ?_ State.fresh_keeps
        exact Keeps.refl _
      · exact Keeps.refl _

theorem State.mpuFaults_keeps {a0 : _} {a1 : _} {a2 : _} {a3 : _} {a4 : _} {a5 : _} {a6 : _} : Keeps a0 (@State.mpuFaults a0 a1 a2 a3 a4 a5 a6) := by
  unfold State.mpuFaults
  dsimp only
  split
  · rename_i v0 v1
    exact Keeps.refl _
  · rename_i v2 v3 v4 v5 v6 v7
    refine Keeps.ite ?_ ?_
    · refine Keeps.trans ?_ State.raise_keeps
      refine Keeps.trans ?_ (Keeps.inc (by decide))
      iterate 4 refine Keeps.trans ?_ (Keeps.put (by decide))
      refine Keeps.trans ?_ (Keeps.putFlag (by decide))
      iterate 4 refine Keeps.trans ?_ (Keeps.put (by decide))
      exact Keeps.refl _
    · split
      · rename_i v8 v9 v10
        refine Keeps.trans ?_ State.overrunStops_keeps
        refine Keeps.trans ?_ State.raise_keeps
        refine Keeps.trans ?_ (Keeps.inc (by decide))
        iterate 4 refine Keeps.trans ?_ (Keeps.put (by decide))
        refine Keeps.trans ?_ (Keeps.putFlag (by decide))
        iterate 4 refine Keeps.trans ?_ (Keeps.put (by decide))
        exact Keeps.refl _
      · rename_i v11 v12
        refine Keeps.ite ?_ ?_
        · refine Keeps.trans ?_ State.raise_keeps
          refine Keeps.trans ?_ (Keeps.inc (by decide))
          iterate 4 refine Keeps.trans ?_ (Keeps.put (by decide))
          refine Keeps.trans ?_ (Keeps.putFlag (by decide))
          iterate 4 refine Keeps.trans ?_ (Keeps.put (by decide))
          exact Keeps.refl _
        · refine Keeps.trans ?_ State.cause_keeps
          refine Keeps.trans ?_ State.raise_keeps
          refine Keeps.trans ?_ (Keeps.inc (by decide))
          iterate 4 refine Keeps.trans ?_ (Keeps.put (by decide))
          refine Keeps.trans ?_ (Keeps.putFlag (by decide))
          iterate 4 refine Keeps.trans ?_ (Keeps.put (by decide))
          exact Keeps.refl _

theorem execMpuFault_keeps {a0 : _} {a1 : _} {a2 : _} {a3 : _} {a4 : _} {a5 : _} {a6 : _} {t : State} (h : (@execMpuFault a0 a1 a2 a3 a4 a5 a6) = .next t) : Keeps a6 t := by
  unfold execMpuFault at h
  injection h with h
  subst h
  refine Keeps.trans ?_ State.mpuFaults_keeps
  exact Keeps.refl _

theorem execMpuBankSwap_keeps {a0 : _} {a1 : _} {a2 : _} {t : State} (h : (@execMpuBankSwap a0 a1 a2) = .next t) : Keeps a2 t := by
  unfold execMpuBankSwap at h
  injection h with h
  subst h
  refine Keeps.mkUpd ?_ (by with_reducible rfl) (by with_reducible rfl) (by with_reducible rfl) (by with_reducible rfl)
  exact Keeps.refl _

theorem execAuditLinkCheck_keeps {a0 : _} {t : State} (h : (@execAuditLinkCheck a0) = .next t) : Keeps a0 t := by
  unfold execAuditLinkCheck at h
  injection h with h
  subst h
  split
  · rename_i v0 v1
    refine Keeps.trans ?_ (Keeps.put (by decide))
    exact Keeps.refl _
  · rename_i v2 v3 v4
    refine Keeps.trans ?_ State.raise_keeps
    refine Keeps.trans ?_ (Keeps.put (by decide))
    exact Keeps.refl _

theorem auditReadBody_keeps {a0 : _} {a1 : _} {a2 : _} : Keeps a2 (@auditReadBody a0 a1 a2).st := by
  unfold auditReadBody
  dsimp only
  exact Keeps.refl _

theorem execAuditRead_keeps {a0 : _} {a1 : _} {t : State} (h : (@execAuditRead a0 a1) = .next t) : Keeps a1 t := by
  unfold execAuditRead at h
  injection h with h
  subst h
  refine Keeps.trans ?_ (served_keeps ?_)
  · exact Keeps.refl _
  · intro v0 v1
    refine Keeps.trans ?_ auditReadBody_keeps
    exact Keeps.refl _

/-! Power. -/

theorem State.onPwr_keeps {a0 : _} {a1 : _} : Keeps a0 (@State.onPwr a0 a1) := by
  unfold State.onPwr
  refine Keeps.mkUpd ?_ (by with_reducible rfl) (by with_reducible rfl) (by with_reducible rfl) (by with_reducible rfl)
  exact Keeps.refl _

theorem State.showBank_keeps {a0 : _} : Keeps a0 (@State.showBank a0) := by
  unfold State.showBank
  refine Keeps.trans ?_ (Keeps.putFlag (by decide))
  exact Keeps.refl _

theorem execHoldupBankCharged_keeps {a0 : _} {a1 : _} {t : State} (h : (@execHoldupBankCharged a0 a1) = .next t) : Keeps a1 t := by
  unfold execHoldupBankCharged at h
  injection h with h
  subst h
  refine Keeps.trans ?_ State.showBank_keeps
  refine Keeps.trans ?_ (Keeps.put (by decide))
  exact Keeps.refl _

theorem State.railsDown_keeps {s : State} : Keeps s s.railsDown := by
  unfold State.railsDown
  dsimp only
  repeat' first
    | exact Keeps.refl _
    | refine Keeps.trans ?_ (Keeps.put (by decide))
    | refine Keeps.trans ?_ (Keeps.release (by simp))
    | refine Keeps.trans ?_ State.onPwr_keeps
  exact Keeps.memUpd (Keeps.refl s) rfl (fun _ => rfl) (List.nil_subset _) (List.nil_subset _) rfl

theorem State.commitSome_keeps {a0 : _} {a1 : _} : Keeps a0 (@State.commitSome a0 a1) := by
  unfold State.commitSome
  dsimp only
  refine Keeps.foldl ?_ (fun v0 v1 => ?_)
  · refine Keeps.ite ?_ ?_
    · refine Keeps.trans ?_ State.rollDone_keeps
      exact Keeps.refl _
    · exact Keeps.refl _
  · refine Keeps.trans ?_ State.commitRecord_keeps
    exact Keeps.refl _

theorem State.flushJournal_keeps {a0 : _} : Keeps a0 (@State.flushJournal a0) := by
  unfold State.flushJournal
  dsimp only
  refine Keeps.foldl ?_ (fun v0 v1 => ?_)
  · refine Keeps.trans ?_ State.commitSome_keeps
    exact Keeps.refl _
  · refine Keeps.trans ?_ State.recorderAppend_keeps
    exact Keeps.refl _

theorem State.dropMirror_keeps {a0 : _} : Keeps a0 (@State.dropMirror a0) := by
  unfold State.dropMirror
  split
  · rename_i v0 v1
    exact Keeps.refl _
  · rename_i v2 v3 v4
    refine Keeps.ite ?_ ?_
    · refine Keeps.mkUpd ?_ (by with_reducible rfl) (by with_reducible rfl) (by with_reducible rfl) (by with_reducible rfl)
      exact Keeps.refl _
    · refine Keeps.mkUpd ?_ (by with_reducible rfl) (by with_reducible rfl) (by with_reducible rfl) (by with_reducible rfl)
      exact Keeps.refl _

theorem State.journalTimes_keeps {a0 : _} : Keeps a0 (@State.journalTimes a0) := by
  unfold State.journalTimes
  refine Keeps.trans ?_ State.journal_keeps
  refine Keeps.trans ?_ State.journal_keeps
  exact Keeps.refl _

theorem State.retainFlush_keeps {a0 : _} : Keeps a0 (@State.retainFlush a0) := by
  unfold State.retainFlush
  refine Keeps.ite ?_ ?_
  · exact Keeps.refl _
  · refine Keeps.trans ?_ State.storeMirror_keeps
    exact Keeps.refl _

theorem State.safeFrames_keeps {a0 : _} : Keeps a0 (@State.safeFrames a0) := by
  unfold State.safeFrames
  dsimp only
  refine Keeps.mkUpd ?_ (by with_reducible rfl) (by with_reducible rfl) (by with_reducible rfl) (by with_reducible rfl)
  exact Keeps.refl _

theorem State.shed_keeps {a0 : _} : Keeps a0 (@State.shed a0) := by
  unfold State.shed
  dsimp only
  refine Keeps.mkUpd ?_ (by with_reducible rfl) (by with_reducible rfl) (by with_reducible rfl) (by with_reducible rfl)
  refine Keeps.trans ?_ State.surgeStops_keeps
  refine Keeps.trans ?_ (Keeps.release (by simp))
  refine Keeps.trans ?_ (Keeps.release (by simp))
  refine Keeps.mkUpd ?_ (by with_reducible rfl) (by with_reducible rfl) (by with_reducible rfl) (by with_reducible rfl)
  refine Keeps.trans ?_ State.endDebug_keeps
  exact Keeps.refl _

theorem State.journalLast_keeps {a0 : _} : Keeps a0 (@State.journalLast a0) := by
  unfold State.journalLast
  dsimp only
  refine Keeps.trans ?_ State.journalTimes_keeps
  refine Keeps.trans ?_ State.dropMirror_keeps
  refine Keeps.foldl ?_ (fun v0 v1 => ?_)
  · refine Keeps.trans ?_ State.thaw_keeps
    refine Keeps.trans ?_ State.rollAbandon_keeps
    exact Keeps.refl _
  · refine Keeps.trans ?_ State.deliver_keeps
    exact Keeps.refl _

theorem State.flushBegins_keeps {a0 : _} : Keeps a0 (@State.flushBegins a0) := by
  unfold State.flushBegins
  refine Keeps.ite ?_ ?_
  · exact Keeps.refl _
  · refine Keeps.ite ?_ ?_
    · refine Keeps.mkUpd ?_ (by with_reducible rfl) (by with_reducible rfl) (by with_reducible rfl) (by with_reducible rfl)
      exact Keeps.refl _
    · refine Keeps.mkUpd ?_ (by with_reducible rfl) (by with_reducible rfl) (by with_reducible rfl) (by with_reducible rfl)
      exact Keeps.refl _

theorem State.downUntil_keeps {a0 : _} {a1 : _} : Keeps a0 (@State.downUntil a0 a1) := by
  unfold State.downUntil
  refine Keeps.ite ?_ ?_
  · refine Keeps.trans ?_ State.commitSome_keeps
    refine Keeps.trans ?_ State.journalLast_keeps
    exact Keeps.refl _
  · refine Keeps.ite ?_ ?_
    · refine Keeps.trans ?_ State.flushBegins_keeps
      refine Keeps.trans ?_ State.flushJournal_keeps
      refine Keeps.trans ?_ State.journalLast_keeps
      exact Keeps.refl _
    · refine Keeps.ite ?_ ?_
      · refine Keeps.trans ?_ State.retainFlush_keeps
        refine Keeps.trans ?_ State.flushJournal_keeps
        refine Keeps.trans ?_ State.journalLast_keeps
        exact Keeps.refl _
      · refine Keeps.trans ?_ State.dropMirror_keeps
        exact Keeps.refl _

theorem State.railFails_keeps {a0 : _} {a1 : _} {a2 : _} : Keeps a0 (@State.railFails a0 a1 a2) := by
  unfold State.railFails
  dsimp only
  refine Keeps.ite ?_ ?_
  · refine Keeps.trans ?_ State.railsDown_keeps
    refine Keeps.trans ?_ State.latch_keeps
    refine Keeps.trans ?_ (Keeps.inc (by decide))
    exact Keeps.refl _
  · refine Keeps.mkUpd ?_ (by with_reducible rfl) (by with_reducible rfl) (by with_reducible rfl) (by with_reducible rfl)
    refine Keeps.trans ?_ State.railsDown_keeps
    refine Keeps.trans ?_ State.latch_keeps
    refine Keeps.trans ?_ (Keeps.inc (by decide))
    exact Keeps.refl _

theorem State.powerdown_keeps {a0 : _} {a1 : _} : Keeps a0 (@State.powerdown a0 a1) := by
  unfold State.powerdown
  refine Keeps.ite ?_ ?_
  · exact Keeps.refl _
  · dsimp only
    split
    · rename_i v0 v1
      refine Keeps.trans ?_ State.railFails_keeps
      refine Keeps.trans ?_ (Keeps.put (by decide))
      refine Keeps.trans ?_ State.downUntil_keeps
      refine Keeps.trans ?_ State.shed_keeps
      refine Keeps.trans ?_ State.raise_keeps
      refine Keeps.trans ?_ State.latch_keeps
      refine Keeps.trans ?_ (Keeps.put (by decide))
      refine Keeps.trans ?_ (Keeps.inc (by decide))
      exact Keeps.refl _
    · rename_i v2
      refine Keeps.mkUpd ?_ (by with_reducible rfl) (by with_reducible rfl) (by with_reducible rfl) (by with_reducible rfl)
      refine Keeps.trans ?_ State.railsDown_keeps
      refine Keeps.trans ?_ State.latch_keeps
      refine Keeps.trans ?_ (Keeps.put (by decide))
      refine Keeps.trans ?_ State.retainFlush_keeps
      refine Keeps.trans ?_ State.flushJournal_keeps
      refine Keeps.trans ?_ State.journalLast_keeps
      refine Keeps.trans ?_ State.shed_keeps
      refine Keeps.trans ?_ State.raise_keeps
      refine Keeps.trans ?_ State.latch_keeps
      refine Keeps.trans ?_ (Keeps.put (by decide))
      refine Keeps.trans ?_ (Keeps.inc (by decide))
      exact Keeps.refl _

theorem execPowerdownStart_keeps {a0 : _} {a1 : _} {t : State} (h : (@execPowerdownStart a0 a1) = .next t) : Keeps a0 t := by
  unfold execPowerdownStart at h
  injection h with h
  subst h
  refine Keeps.trans ?_ State.powerdown_keeps
  exact Keeps.refl _

theorem State.crashDown_keeps {a0 : _} {a1 : _} : Keeps a0 (@State.crashDown a0 a1) := by
  unfold State.crashDown
  refine Keeps.ite ?_ ?_
  · exact Keeps.refl _
  · refine Keeps.trans ?_ State.railFails_keeps
    refine Keeps.trans ?_ State.dropMirror_keeps
    exact Keeps.refl _

theorem execCrashDown_keeps {a0 : _} {a1 : _} {t : State} (h : (@execCrashDown a0 a1) = .next t) : Keeps a1 t := by
  unfold execCrashDown at h
  injection h with h
  subst h
  refine Keeps.trans ?_ State.crashDown_keeps
  exact Keeps.refl _

theorem State.leaveDormant_keeps {a0 : _} : Keeps a0 (@State.leaveDormant a0) := by
  unfold State.leaveDormant
  dsimp only
  refine Keeps.ite ?_ ?_
  · refine Keeps.trans ?_ State.setMode_keeps
    refine Keeps.mkUpd ?_ (by with_reducible rfl) (by with_reducible rfl) (by with_reducible rfl) (by with_reducible rfl)
    refine Keeps.trans ?_ State.onPwr_keeps
    exact Keeps.refl _
  · refine Keeps.mkUpd ?_ (by with_reducible rfl) (by with_reducible rfl) (by with_reducible rfl) (by with_reducible rfl)
    refine Keeps.trans ?_ State.onPwr_keeps
    exact Keeps.refl _

theorem State.powerUp_keeps {s : State} {w : Nat} : Keeps s (s.powerUp w) := by
  unfold State.powerUp
  refine Keeps.trans (Keeps.trans State.leaveDormant_keeps (Keeps0.refreshDrive ?_)) State.bumpOwn_keeps
  refine Keeps0.upd (t := State.put _ _ _) (Keeps0.trans ?_ Keeps0.put) rfl rfl rfl rfl rfl
  iterate 4 refine Keeps0.trans ?_ Keeps0.put
  exact Keeps0.put

theorem execPowerdownRestart_keeps {a0 : _} {t : State} (h : (@execPowerdownRestart a0) = .next t) : Keeps a0 t := by
  unfold execPowerdownRestart at h
  injection h with h
  subst h
  refine Keeps.ite ?_ ?_
  · refine Keeps.trans ?_ State.powerUp_keeps
    exact Keeps.refl _
  · exact Keeps.refl _

theorem State.trimCount_keeps {a0 : _} {a1 : _} {a2 : _} : Keeps a0 (@State.trimCount a0 a1 a2) := by
  unfold State.trimCount
  refine Keeps.ite ?_ ?_
  · refine Keeps.trans ?_ (Keeps.inc (Fld.quiet_next (by decide) _))
    exact Keeps.refl _
  · exact Keeps.refl _

theorem State.trimTimer_keeps {a0 : _} {a1 : _} {a2 : _} {a3 : _} : Keeps a0 (@State.trimTimer a0 a1 a2 a3) := by
  unfold State.trimTimer
  dsimp only
  refine Keeps.ite ?_ ?_
  · exact Keeps.refl _
  · split
    · rename_i v0 v1
      refine Keeps.trans ?_ State.onPwr_keeps
      exact Keeps.refl _
    · rename_i v2 v3 v4
      refine Keeps.ite ?_ ?_
      · refine Keeps.trans ?_ State.raise_keeps
        refine Keeps.trans ?_ State.onPwr_keeps
        refine Keeps.trans ?_ State.trimCount_keeps
        exact Keeps.refl _
      · refine Keeps.trans ?_ State.trimCount_keeps
        exact Keeps.refl _

theorem execTrimIdleTimer_keeps {a0 : _} {a1 : _} {a2 : _} {a3 : _} {t : State} (h : (@execTrimIdleTimer a0 a1 a2 a3) = .next t) : Keeps a3 t := by
  unfold execTrimIdleTimer at h
  injection h with h
  subst h
  refine Keeps.trans ?_ State.trimTimer_keeps
  exact Keeps.refl _

theorem State.showTrim_keeps {a0 : _} : Keeps a0 (@State.showTrim a0) := by
  unfold State.showTrim
  dsimp only
  refine Keeps.ite ?_ ?_
  · refine Keeps.trans ?_ (Keeps.put (by decide))
    exact Keeps.refl _
  · refine Keeps.trans ?_ (Keeps.put (by decide))
    refine Keeps.trans ?_ (Keeps.put (by decide))
    exact Keeps.refl _

theorem State.holdAbsent_keeps {a0 : _} : Keeps a0 (@State.holdAbsent a0) := by
  unfold State.holdAbsent
  refine Keeps.ite ?_ ?_
  · exact Keeps.refl _
  · dsimp only
    refine Keeps.trans ?_ State.showTrim_keeps
    refine Keeps.trans ?_ State.onPwr_keeps
    exact Keeps.refl _

theorem State.trimConfirm_keeps {a0 : _} {a1 : _} : Keeps a0 (@State.trimConfirm a0 a1) := by
  unfold State.trimConfirm
  dsimp only
  refine Keeps.trans ?_ State.showTrim_keeps
  refine Keeps.trans ?_ State.onPwr_keeps
  refine Keeps.foldl ?_ (fun v0 v1 => ?_)
  · exact Keeps.refl _
  · refine Keeps.trans ?_ State.trimCount_keeps
    exact Keeps.refl _

theorem execTrimEntryConfirm_keeps {a0 : _} {a1 : _} {t : State} (h : (@execTrimEntryConfirm a0 a1) = .next t) : Keeps a1 t := by
  unfold execTrimEntryConfirm at h
  injection h with h
  subst h
  refine Keeps.trans ?_ State.trimConfirm_keeps
  exact Keeps.refl _

theorem State.trimExit_keeps {a0 : _} {a1 : _} : Keeps a0 (@State.trimExit a0 a1) := by
  unfold State.trimExit
  dsimp only
  refine Keeps.trans ?_ State.showTrim_keeps
  refine Keeps.ite ?_ ?_
  · refine Keeps.trans ?_ (Keeps.put (Fld.quiet_next (by decide) _))
    refine Keeps.trans ?_ State.onPwr_keeps
    refine Keeps.trans ?_ State.onPwr_keeps
    exact Keeps.refl _
  · refine Keeps.trans ?_ State.onPwr_keeps
    exact Keeps.refl _

theorem State.trimWake_keeps {a0 : _} {a1 : _} {a2 : _} {a3 : _} : Keeps a0 (@State.trimWake a0 a1 a2 a3) := by
  unfold State.trimWake
  dsimp only
  refine Keeps.ite ?_ ?_
  · refine Keeps.ite ?_ ?_
    · refine Keeps.ite ?_ ?_
      · refine Keeps.trans ?_ (Keeps.put (Fld.quiet_next (by decide) _))
        refine Keeps.trans ?_ State.trimCount_keeps
        refine Keeps.trans ?_ State.onPwr_keeps
        refine Keeps.ite ?_ ?_
        · exact Keeps.refl _
        · refine Keeps.trans ?_ (Keeps.put (Fld.quiet_next (by decide) _))
          exact Keeps.refl _
      · refine Keeps.trans ?_ State.trimCount_keeps
        refine Keeps.trans ?_ State.onPwr_keeps
        refine Keeps.ite ?_ ?_
        · exact Keeps.refl _
        · refine Keeps.trans ?_ (Keeps.put (Fld.quiet_next (by decide) _))
          exact Keeps.refl _
    · refine Keeps.trans ?_ State.trimExit_keeps
      refine Keeps.trans ?_ State.trimConfirm_keeps
      refine Keeps.ite ?_ ?_
      · exact Keeps.refl _
      · refine Keeps.trans ?_ (Keeps.put (Fld.quiet_next (by decide) _))
        exact Keeps.refl _
  · refine Keeps.trans ?_ State.trimExit_keeps
    refine Keeps.ite ?_ ?_
    · exact Keeps.refl _
    · refine Keeps.trans ?_ (Keeps.put (Fld.quiet_next (by decide) _))
      exact Keeps.refl _

theorem execTrimWake_keeps {a0 : _} {a1 : _} {a2 : _} {a3 : _} {t : State} (h : (@execTrimWake a0 a1 a2 a3) = .next t) : Keeps a3 t := by
  unfold execTrimWake at h
  injection h with h
  subst h
  refine Keeps.trans ?_ State.trimWake_keeps
  exact Keeps.refl _

theorem dormantEnterApply_keeps {a0 : _} : Keeps a0 (@dormantEnterApply a0).st := by
  unfold dormantEnterApply
  refine Keeps.iteSt ?_ ?_
  · dsimp only
    exact Keeps.refl _
  · refine Keeps.iteSt ?_ ?_
    · dsimp only
      exact Keeps.refl _
    · dsimp only
      refine Keeps.trans ?_ State.onPwr_keeps
      refine Keeps.trans ?_ State.journalTimes_keeps
      refine Keeps.trans ?_ State.raise_keeps
      refine Keeps.trans ?_ State.thaw_keeps
      refine Keeps.trans ?_ State.rollAbandon_keeps
      refine Keeps.trans ?_ (Keeps.release (by simp))
      refine Keeps.trans ?_ (Keeps.release (by simp))
      refine Keeps.trans ?_ (Keeps.put (by decide))
      refine Keeps.trans ?_ (Keeps.put (by decide))
      refine Keeps.trans ?_ State.endDebug_keeps
      exact Keeps.refl _

theorem execDormantEnter_keeps {a0 : _} {a1 : _} {t : State} (h : (@execDormantEnter a0 a1) = .next t) : Keeps a1 t := by
  unfold execDormantEnter at h
  injection h with h
  subst h
  refine Keeps.trans ?_ queued_keeps
  exact Keeps.refl _

theorem State.dormantFlush_keeps {a0 : _} : Keeps a0 (@State.dormantFlush a0) := by
  unfold State.dormantFlush
  refine Keeps.ite ?_ ?_
  · dsimp only
    refine Keeps.ite ?_ ?_
    · refine Keeps.mkUpd ?_ (by with_reducible rfl) (by with_reducible rfl) (by with_reducible rfl) (by with_reducible rfl)
      refine Keeps.trans ?_ State.onPwr_keeps
      exact Keeps.refl _
    · refine Keeps.trans ?_ State.onPwr_keeps
      exact Keeps.refl _
  · exact Keeps.refl _

theorem State.dormantEdge_keeps {a0 : _} : Keeps a0 (@State.dormantEdge a0) := by
  unfold State.dormantEdge
  dsimp only
  refine Keeps.ite ?_ ?_
  · refine Keeps.trans ?_ State.dormantFlush_keeps
    exact Keeps.refl _
  · split
    · rename_i v0 v1 v2
      refine Keeps.trans ?_ State.powerUp_keeps
      refine Keeps.trans ?_ (Keeps.put (by decide))
      refine Keeps.trans ?_ (Keeps.put (by decide))
      refine Keeps.trans ?_ State.railsDown_keeps
      refine Keeps.trans ?_ State.latch_keeps
      refine Keeps.trans ?_ State.flushJournal_keeps
      refine Keeps.trans ?_ State.setMode_keeps
      refine Keeps.trans ?_ State.surgeStops_keeps
      refine Keeps.trans ?_ State.abandonResync_keeps
      refine Keeps.trans ?_ State.dormantFlush_keeps
      exact Keeps.refl _
    · rename_i v3 v4
      refine Keeps.trans ?_ (Keeps.put (by decide))
      refine Keeps.trans ?_ (Keeps.put (by decide))
      refine Keeps.trans ?_ State.railsDown_keeps
      refine Keeps.trans ?_ State.latch_keeps
      refine Keeps.trans ?_ State.flushJournal_keeps
      refine Keeps.trans ?_ State.setMode_keeps
      refine Keeps.trans ?_ State.surgeStops_keeps
      refine Keeps.trans ?_ State.abandonResync_keeps
      refine Keeps.trans ?_ State.dormantFlush_keeps
      exact Keeps.refl _

theorem State.dormantWake_keeps {a0 : _} {a1 : _} : Keeps a0 (@State.dormantWake a0 a1) := by
  unfold State.dormantWake
  refine Keeps.ite ?_ ?_
  · refine Keeps.trans ?_ State.powerUp_keeps
    exact Keeps.refl _
  · refine Keeps.ite ?_ ?_
    · refine Keeps.trans ?_ State.onPwr_keeps
      exact Keeps.refl _
    · refine Keeps.ite ?_ ?_
      · dsimp only
        refine Keeps.trans ?_ State.raise_keeps
        refine Keeps.trans ?_ State.showTrim_keeps
        refine Keeps.trans ?_ State.onPwr_keeps
        refine Keeps.trans ?_ (Keeps.put (by decide))
        refine Keeps.trans ?_ (Keeps.put (by decide))
        exact Keeps.refl _
      · exact Keeps.refl _

theorem execDormantWake_keeps {a0 : _} {a1 : _} {t : State} (h : (@execDormantWake a0 a1) = .next t) : Keeps a1 t := by
  unfold execDormantWake at h
  injection h with h
  subst h
  refine Keeps.trans ?_ State.dormantWake_keeps
  exact Keeps.refl _

theorem execPartnerWakePulse_keeps {a0 : _} {t : State} (h : (@execPartnerWakePulse a0) = .next t) : Keeps a0 t := by
  unfold execPartnerWakePulse at h
  injection h with h
  subst h
  refine Keeps.ite ?_ ?_
  · refine Keeps.trans ?_ State.onPwr_keeps
    exact Keeps.refl _
  · exact Keeps.refl _

theorem powerStatusBody_keeps {a0 : _} {a1 : _} : Keeps a1 (@powerStatusBody a0 a1).st := by
  unfold powerStatusBody
  split
  · rename_i v0 v1 v2 v3
    dsimp only
    refine Keeps.trans ?_ (Keeps.put (by decide))
    refine Keeps.ofSnd v3 ?_
    refine Keeps.trans ?_ State.fresh_keeps
    exact Keeps.refl _

theorem execPowerStatus_keeps {a0 : _} {a1 : _} {t : State} (h : (@execPowerStatus a0 a1) = .next t) : Keeps a1 t := by
  unfold execPowerStatus at h
  injection h with h
  subst h
  refine Keeps.trans ?_ (served_keeps ?_)
  · exact Keeps.refl _
  · intro v0 v1
    refine Keeps.trans ?_ powerStatusBody_keeps
    exact Keeps.refl _

theorem execPowerStats_keeps {a0 : _} {a1 : _} {t : State} (h : (@execPowerStats a0 a1) = .next t) : Keeps a1 t := by
  unfold execPowerStats at h
  injection h with h
  subst h
  refine Keeps.trans ?_ (served_keeps ?_)
  · exact Keeps.refl _
  · intro v0 v1
    dsimp only
    exact Keeps.refl _

end Sys2Proof.Machine
end

