-- ==== Sys2Proof/Laws/KeepsC.lean ====
section
/-! SUPPORT. What each function of Images, Panel, Triad, Pair, Change keeps: the invariant of the block and the queue. -/

set_option maxRecDepth 4000
namespace Sys2Proof.Machine

open Sys2Proof

/-! Images. -/

theorem State.onImg_keeps {a0 : _} {a1 : _} : Keeps a0 (@State.onImg a0 a1) := by
  unfold State.onImg
  refine Keeps.mkUpd ?_ (by with_reducible rfl) (by with_reducible rfl) (by with_reducible rfl) (by with_reducible rfl)
  exact Keeps.refl _

theorem State.writeSlots_keeps {a0 : _} {a1 : _} : Keeps a0 (@State.writeSlots a0 a1) := by
  unfold State.writeSlots
  refine Keeps.trans ?_ State.onImg_keeps
  exact Keeps.refl _

theorem deferred_keeps {a0 : _} {a1 : _} {a2 : _} {a3 : _} {a4 : _} (h3 : ∀ y0 y1, Keeps y1 (a3 y0 y1)) : Keeps a4 (@deferred a0 a1 a2 a3 a4) := by
  unfold deferred
  split
  · rename_i v0 v1 v2
    dsimp only
    split
    · rename_i v3 v4 v5 v6
      refine Keeps.trans ?_ State.answer_keeps
      refine Keeps.trans ?_ State.noteSeq_keeps
      exact Keeps.refl _
    · rename_i v7 v8
      refine Keeps.trans ?_ (h3 ..)
      refine Keeps.trans ?_ State.noteSeq_keeps
      exact Keeps.refl _
  · rename_i v9 v10
    refine Keeps.trans ?_ turnedAway_keeps
    exact Keeps.refl _

theorem execImageHeader_keeps {a0 : _} {a1 : _} {t : State} (h : (@execImageHeader a0 a1) = .next t) : Keeps a1 t := by
  unfold execImageHeader at h
  injection h with h
  subst h
  refine Keeps.trans ?_ (deferred_keeps ?_)
  · exact Keeps.refl _
  · intro v0 v1
    dsimp only
    refine Keeps.trans ?_ State.eraseWanted_keeps
    refine Keeps.trans ?_ State.onImg_keeps
    refine Keeps.trans ?_ State.writeSlots_keeps
    exact Keeps.refl _

theorem State.slotErased_keeps {a0 : _} : Keeps a0 (@State.slotErased a0) := by
  unfold State.slotErased
  split
  · rename_i v0 v1
    exact Keeps.refl _
  · rename_i v2 v3 v4 v5
    dsimp only
    refine Keeps.trans ?_ State.answer_keeps
    refine Keeps.mkUpd ?_ (by with_reducible rfl) (by with_reducible rfl) (by with_reducible rfl) (by with_reducible rfl)
    refine Keeps.trans ?_ State.onImg_keeps
    exact Keeps.refl _

theorem execImageEraseComplete_keeps {a0 : _} {a1 : _} {a2 : _} {t : State} (h : (@execImageEraseComplete a0 a1 a2) = .next t) : Keeps a0 t := by
  unfold execImageEraseComplete at h
  injection h with h
  subst h
  refine Keeps.ite ?_ ?_
  · exact Keeps.refl _
  · refine Keeps.ite ?_ ?_
    · refine Keeps.trans ?_ State.eraseWanted_keeps
      refine Keeps.trans ?_ State.eraseEnds_keeps
      exact Keeps.refl _
    · refine Keeps.trans ?_ State.slotErased_keeps
      refine Keeps.trans ?_ State.eraseEnds_keeps
      exact Keeps.refl _

theorem State.putTransfer_keeps {a0 : _} {a1 : _} : Keeps a0 (@State.putTransfer a0 a1) := by
  unfold State.putTransfer
  refine Keeps.mkUpd ?_ (by with_reducible rfl) (by with_reducible rfl) (by with_reducible rfl) (by with_reducible rfl)
  exact Keeps.refl _

theorem State.closeTransfer_keeps {a0 : _} {a1 : _} : Keeps a0 (@State.closeTransfer a0 a1) := by
  unfold State.closeTransfer
  refine Keeps.mkUpd ?_ (by with_reducible rfl) (by with_reducible rfl) (by with_reducible rfl) (by with_reducible rfl)
  exact Keeps.refl _

theorem execImageChunk_keeps {a0 : _} {a1 : _} {t : State} (h : (@execImageChunk a0 a1) = .next t) : Keeps a1 t := by
  unfold execImageChunk at h
  injection h with h
  subst h
  refine Keeps.trans ?_ (served_keeps ?_)
  · exact Keeps.refl _
  · intro v0 v1
    split
    · rename_i v2 v3
      dsimp only
      exact Keeps.refl _
    · rename_i v4 v5 v6
      dsimp only
      refine Keeps.trans ?_ State.putTransfer_keeps
      exact Keeps.refl _

theorem State.journalProgram_keeps {a0 : _} : Keeps a0 (@State.journalProgram a0) := by
  unfold State.journalProgram
  refine Keeps.trans ?_ State.journal_keeps
  exact Keeps.refl _

theorem State.recordPairUpdate_keeps {a0 : _} {a1 : _} {a2 : _} : Keeps a0 (@State.recordPairUpdate a0 a1 a2) := by
  unfold State.recordPairUpdate
  refine Keeps.ite ?_ ?_
  · exact Keeps.refl _
  · dsimp only
    refine Keeps.trans ?_ State.journalProgram_keeps
    refine Keeps.trans ?_ (Keeps.put (by decide))
    refine Keeps.trans ?_ State.onImg_keeps
    exact Keeps.refl _

theorem State.clearPairUpdate_keeps {a0 : _} : Keeps a0 (@State.clearPairUpdate a0) := by
  unfold State.clearPairUpdate
  refine Keeps.ite ?_ ?_
  · refine Keeps.trans ?_ State.journalProgram_keeps
    refine Keeps.trans ?_ (Keeps.put (by decide))
    refine Keeps.trans ?_ State.onImg_keeps
    exact Keeps.refl _
  · exact Keeps.refl _

theorem State.stageImage_keeps {a0 : _} {a1 : _} : Keeps a0 (@State.stageImage a0 a1) := by
  unfold State.stageImage
  dsimp only
  refine Keeps.trans ?_ State.recordPairUpdate_keeps
  refine Keeps.trans ?_ State.onImg_keeps
  refine Keeps.trans ?_ State.writeSlots_keeps
  refine Keeps.trans ?_ State.closeTransfer_keeps
  exact Keeps.refl _

theorem State.restartNow_keeps {a0 : _} {a1 : _} : Keeps a0 (@State.restartNow a0 a1) := by
  unfold State.restartNow
  refine Keeps.ite ?_ ?_
  · refine Keeps.trans ?_ State.moduleRestart_keeps
    exact Keeps.refl _
  · exact Keeps.refl _

theorem imageCommitBody_keeps {a0 : _} {a1 : _} {a2 : _} : Keeps a2 (@imageCommitBody a0 a1 a2) := by
  unfold imageCommitBody
  split
  · rename_i v0 v1
    exact Keeps.refl _
  · rename_i v2 v3 v4
    dsimp only
    refine Keeps.ite ?_ ?_
    · refine Keeps.trans ?_ State.answer_keeps
      refine Keeps.trans ?_ State.closeTransfer_keeps
      refine Keeps.trans ?_ State.auditBy_keeps
      exact Keeps.refl _
    · refine Keeps.ite ?_ ?_
      · refine Keeps.trans ?_ State.eraseWanted_keeps
        refine Keeps.trans ?_ State.onImg_keeps
        refine Keeps.trans ?_ State.stageImage_keeps
        refine Keeps.trans ?_ State.auditBy_keeps
        exact Keeps.refl _
      · refine Keeps.trans ?_ State.restartNow_keeps
        refine Keeps.trans ?_ State.answer_keeps
        refine Keeps.trans ?_ State.stageImage_keeps
        refine Keeps.trans ?_ State.auditBy_keeps
        exact Keeps.refl _

theorem execImageCommit_keeps {a0 : _} {a1 : _} {t : State} (h : (@execImageCommit a0 a1) = .next t) : Keeps a1 t := by
  unfold execImageCommit at h
  injection h with h
  subst h
  refine Keeps.trans ?_ (deferred_keeps ?_)
  · exact Keeps.refl _
  · intro v0 v1
    refine Keeps.trans ?_ imageCommitBody_keeps
    exact Keeps.refl _

theorem State.bankProgrammed_keeps {a0 : _} : Keeps a0 (@State.bankProgrammed a0) := by
  unfold State.bankProgrammed
  split
  · rename_i v0 v1
    exact Keeps.refl _
  · rename_i v2 v3 v4 v5
    dsimp only
    refine Keeps.trans ?_ State.restartNow_keeps
    refine Keeps.trans ?_ State.answer_keeps
    refine Keeps.trans ?_ State.onImg_keeps
    exact Keeps.refl _

theorem execSupBankProgramDone_keeps {a0 : _} {a1 : _} {a2 : _} {t : State} (h : (@execSupBankProgramDone a0 a1 a2) = .next t) : Keeps a0 t := by
  unfold execSupBankProgramDone at h
  injection h with h
  subst h
  refine Keeps.ite ?_ ?_
  · exact Keeps.refl _
  · refine Keeps.ite ?_ ?_
    · refine Keeps.trans ?_ State.eraseWanted_keeps
      refine Keeps.trans ?_ State.eraseEnds_keeps
      exact Keeps.refl _
    · refine Keeps.trans ?_ State.bankProgrammed_keeps
      refine Keeps.trans ?_ State.eraseEnds_keeps
      exact Keeps.refl _

theorem State.showImages_keeps {a0 : _} : Keeps a0 (@State.showImages a0) := by
  unfold State.showImages
  dsimp only
  refine Keeps.trans ?_ (Keeps.put (by decide))
  refine Keeps.trans ?_ (Keeps.put (by decide))
  refine Keeps.trans ?_ (Keeps.putFlag (by decide))
  refine Keeps.trans ?_ (Keeps.putFlag (by decide))
  exact Keeps.refl _

theorem State.confirmType_keeps {a0 : _} {a1 : _} : Keeps a0 (@State.confirmType a0 a1) := by
  unfold State.confirmType
  dsimp only
  refine Keeps.ite ?_ ?_
  · refine Keeps.trans ?_ State.writeSlots_keeps
    refine Keeps.trans ?_ (Keeps.peak (Fld.quiet_next (by decide) _))
    refine Keeps.ite ?_ ?_
    · refine Keeps.trans ?_ State.onImg_keeps
      refine Keeps.trans ?_ State.writeSlots_keeps
      exact Keeps.refl _
    · refine Keeps.trans ?_ State.writeSlots_keeps
      exact Keeps.refl _
  · refine Keeps.trans ?_ (Keeps.peak (Fld.quiet_next (by decide) _))
    refine Keeps.ite ?_ ?_
    · refine Keeps.trans ?_ State.onImg_keeps
      refine Keeps.trans ?_ State.writeSlots_keeps
      exact Keeps.refl _
    · refine Keeps.trans ?_ State.writeSlots_keeps
      exact Keeps.refl _

theorem State.confirmAll_keeps {a0 : _} {a1 : _} : Keeps a0 (@State.confirmAll a0 a1) := by
  unfold State.confirmAll
  dsimp only
  refine Keeps.trans ?_ State.clearPairUpdate_keeps
  refine Keeps.trans ?_ State.showImages_keeps
  refine Keeps.ite ?_ ?_
  · refine Keeps.trans ?_ State.onImg_keeps
    refine Keeps.trans ?_ (Keeps.put (by decide))
    refine Keeps.foldl ?_ (fun v0 v1 => ?_)
    · exact Keeps.refl _
    · refine Keeps.trans ?_ State.confirmType_keeps
      exact Keeps.refl _
  · refine Keeps.foldl ?_ (fun v2 v3 => ?_)
    · exact Keeps.refl _
    · refine Keeps.trans ?_ State.confirmType_keeps
      exact Keeps.refl _

theorem execImageAutoConfirm_keeps {a0 : _} {t : State} (h : (@execImageAutoConfirm a0) = .next t) : Keeps a0 t := by
  unfold execImageAutoConfirm at h
  injection h with h
  subst h
  refine Keeps.ite ?_ ?_
  · refine Keeps.trans ?_ State.confirmAll_keeps
    exact Keeps.refl _
  · exact Keeps.refl _

theorem imageConfirmBody_keeps {a0 : _} {a1 : _} {a2 : _} : Keeps a2 (@imageConfirmBody a0 a1 a2).st := by
  unfold imageConfirmBody
  dsimp only
  refine Keeps.trans ?_ State.confirmAll_keeps
  refine Keeps.foldl ?_ (fun v0 v1 => ?_)
  · exact Keeps.refl _
  · refine Keeps.trans ?_ State.auditBy_keeps
    exact Keeps.refl _

theorem execImageConfirm_keeps {a0 : _} {a1 : _} {t : State} (h : (@execImageConfirm a0 a1) = .next t) : Keeps a1 t := by
  unfold execImageConfirm at h
  injection h with h
  subst h
  refine Keeps.trans ?_ (served_keeps ?_)
  · exact Keeps.refl _
  · intro v0 v1
    refine Keeps.trans ?_ imageConfirmBody_keeps
    exact Keeps.refl _

theorem execImageStatus_keeps {a0 : _} {a1 : _} {t : State} (h : (@execImageStatus a0 a1) = .next t) : Keeps a1 t := by
  unfold execImageStatus at h
  injection h with h
  subst h
  refine Keeps.trans ?_ (served_keeps ?_)
  · exact Keeps.refl _
  · intro v0 v1
    dsimp only
    exact Keeps.refl _

theorem State.rejectImages_keeps {a0 : _} : Keeps a0 (@State.rejectImages a0) := by
  unfold State.rejectImages
  refine Keeps.ite ?_ ?_
  · exact Keeps.refl _
  · dsimp only
    refine Keeps.ite ?_ ?_
    · refine Keeps.trans ?_ (Keeps.put (by decide))
      refine Keeps.trans ?_ State.onImg_keeps
      exact Keeps.refl _
    · refine Keeps.ite ?_ ?_
      · refine Keeps.trans ?_ State.plan_keeps
        refine Keeps.trans ?_ State.onImg_keeps
        exact Keeps.refl _
      · refine Keeps.ite ?_ ?_
        · refine Keeps.trans ?_ State.onImg_keeps
          exact Keeps.refl _
        · refine Keeps.trans ?_ State.enterStart_keeps
          refine Keeps.trans ?_ State.onImg_keeps
          exact Keeps.refl _

theorem execImageRejection_keeps {a0 : _} {a1 : _} {t : State} (h : (@execImageRejection a0 a1) = .next t) : Keeps a1 t := by
  unfold execImageRejection at h
  injection h with h
  subst h
  refine Keeps.ite ?_ ?_
  · refine Keeps.trans ?_ State.rejectNext_keeps
    exact Keeps.refl _
  · refine Keeps.ite ?_ ?_
    · exact Keeps.refl _
    · refine Keeps.ite ?_ ?_
      · exact Keeps.refl _
      · refine Keeps.trans ?_ State.rejectImages_keeps
        exact Keeps.refl _

theorem execConfirmDeadline_keeps {a0 : _} {t : State} (h : (@execConfirmDeadline a0) = .next t) : Keeps a0 t := by
  unfold execConfirmDeadline at h
  injection h with h
  subst h
  refine Keeps.ite ?_ ?_
  · refine Keeps.trans ?_ State.rejectImages_keeps
    exact Keeps.refl _
  · exact Keeps.refl _

theorem State.imagesEdge_keeps {a0 : _} : Keeps a0 (@State.imagesEdge a0) := by
  unfold State.imagesEdge
  refine Keeps.ite ?_ ?_
  · exact Keeps.refl _
  · dsimp only
    refine Keeps.trans ?_ State.showImages_keeps
    refine Keeps.trans ?_ State.onImg_keeps
    exact Keeps.refl _

theorem State.startStaged_keeps {a0 : _} {a1 : _} {a2 : _} : Keeps a0 (@State.startStaged a0 a1 a2) := by
  unfold State.startStaged
  dsimp only
  refine Keeps.ite ?_ ?_
  · exact Keeps.refl _
  · refine Keeps.ite ?_ ?_
    · refine Keeps.ite ?_ ?_
      · refine Keeps.trans ?_ (Keeps.put (by decide))
        refine Keeps.trans ?_ (Keeps.put (by decide))
        refine Keeps.trans ?_ State.writeSlots_keeps
        exact Keeps.refl _
      · exact Keeps.refl _
    · refine Keeps.ite ?_ ?_
      · refine Keeps.trans ?_ State.writeSlots_keeps
        exact Keeps.refl _
      · refine Keeps.trans ?_ State.writeSlots_keeps
        exact Keeps.refl _

theorem State.fallBack_keeps {a0 : _} {a1 : _} : Keeps a0 (@State.fallBack a0 a1) := by
  unfold State.fallBack
  dsimp only
  refine Keeps.ite ?_ ?_
  · exact Keeps.refl _
  · refine Keeps.ite ?_ ?_
    · refine Keeps.trans ?_ (Keeps.put (by decide))
      refine Keeps.trans ?_ (Keeps.put (by decide))
      refine Keeps.trans ?_ State.onImg_keeps
      refine Keeps.trans ?_ State.writeSlots_keeps
      exact Keeps.refl _
    · refine Keeps.trans ?_ State.writeSlots_keeps
      exact Keeps.refl _

theorem State.takeFallback_keeps {a0 : _} : Keeps a0 (@State.takeFallback a0) := by
  unfold State.takeFallback
  dsimp only
  refine Keeps.trans ?_ State.showImages_keeps
  refine Keeps.trans ?_ State.onImg_keeps
  refine Keeps.trans ?_ (Keeps.put (by decide))
  refine Keeps.trans ?_ (Keeps.put (by decide))
  refine Keeps.trans ?_ (Keeps.inc (by decide))
  refine Keeps.trans ?_ (Keeps.put (by decide))
  refine Keeps.foldl ?_ (fun v0 v1 => ?_)
  · exact Keeps.refl _
  · refine Keeps.trans ?_ State.fallBack_keeps
    exact Keeps.refl _

theorem State.imagesStart_keeps {a0 : _} {a1 : _} : Keeps a0 (@State.imagesStart a0 a1) := by
  unfold State.imagesStart
  dsimp only
  refine Keeps.ite ?_ ?_
  · refine Keeps.trans ?_ State.showImages_keeps
    refine Keeps.ite ?_ ?_
    · refine Keeps.trans ?_ State.onImg_keeps
      refine Keeps.foldl ?_ (fun v0 v1 => ?_)
      · refine Keeps.trans ?_ (Keeps.put (by decide))
        refine Keeps.trans ?_ State.onImg_keeps
        exact Keeps.refl _
      · refine Keeps.trans ?_ State.startStaged_keeps
        exact Keeps.refl _
    · refine Keeps.trans ?_ (Keeps.put (by decide))
      refine Keeps.trans ?_ State.onImg_keeps
      refine Keeps.foldl ?_ (fun v2 v3 => ?_)
      · refine Keeps.trans ?_ (Keeps.put (by decide))
        refine Keeps.trans ?_ State.onImg_keeps
        exact Keeps.refl _
      · refine Keeps.trans ?_ State.startStaged_keeps
        exact Keeps.refl _
  · refine Keeps.ite ?_ ?_
    · refine Keeps.trans ?_ State.takeFallback_keeps
      refine Keeps.trans ?_ (Keeps.put (by decide))
      refine Keeps.trans ?_ State.onImg_keeps
      exact Keeps.refl _
    · refine Keeps.trans ?_ State.showImages_keeps
      refine Keeps.trans ?_ State.onImg_keeps
      refine Keeps.trans ?_ (Keeps.put (by decide))
      refine Keeps.trans ?_ (Keeps.put (by decide))
      refine Keeps.trans ?_ State.onImg_keeps
      exact Keeps.refl _

/-! Panel. -/

theorem State.message_keeps {a0 : _} {a1 : _} {a2 : _} : Keeps a0 (@State.message a0 a1 a2) := by
  unfold State.message
  refine Keeps.trans ?_ (Keeps.put (by decide))
  refine Keeps.mkUpd ?_ (by with_reducible rfl) (by with_reducible rfl) (by with_reducible rfl) (by with_reducible rfl)
  exact Keeps.refl _

theorem State.panelRefused_keeps {a0 : _} {a1 : _} {a2 : _} : Keeps a0 (@State.panelRefused a0 a1 a2) := by
  unfold State.panelRefused
  refine Keeps.trans ?_ State.message_keeps
  refine Keeps.trans ?_ State.raise_keeps
  exact Keeps.refl _

theorem State.panelAct_keeps {a0 : _} {a1 : _} : Keeps a0 (@State.panelAct a0 a1) := by
  unfold State.panelAct
  refine Keeps.mkUpd ?_ (by with_reducible rfl) (by with_reducible rfl) (by with_reducible rfl) (by with_reducible rfl)
  exact Keeps.refl _

theorem State.stuckReset_keeps {a0 : _} {a1 : _} : Keeps a0 (@State.stuckReset a0 a1) := by
  unfold State.stuckReset
  dsimp only
  refine Keeps.ite ?_ ?_
  · refine Keeps.trans ?_ State.showLeds_keeps
    refine Keeps.trans ?_ State.message_keeps
    refine Keeps.trans ?_ State.raise_keeps
    refine Keeps.trans ?_ (Keeps.inc (by decide))
    refine Keeps.trans ?_ (Keeps.put (by decide))
    exact Keeps.refl _
  · refine Keeps.trans ?_ State.showLeds_keeps
    refine Keeps.trans ?_ State.raise_keeps
    refine Keeps.trans ?_ (Keeps.inc (by decide))
    refine Keeps.trans ?_ (Keeps.put (by decide))
    exact Keeps.refl _

theorem execStuckReset_keeps {a0 : _} {a1 : _} {t : State} (h : (@execStuckReset a0 a1) = .next t) : Keeps a1 t := by
  unfold execStuckReset at h
  injection h with h
  subst h
  refine Keeps.ite ?_ ?_
  · exact Keeps.refl _
  · refine Keeps.trans ?_ State.stuckReset_keeps
    exact Keeps.refl _

theorem execResetRearm_keeps {a0 : _} {t : State} (h : (@execResetRearm a0) = .next t) : Keeps a0 t := by
  unfold execResetRearm at h
  injection h with h
  subst h
  refine Keeps.ite ?_ ?_
  · refine Keeps.trans ?_ State.showLeds_keeps
    refine Keeps.trans ?_ (Keeps.put (by decide))
    exact Keeps.refl _
  · exact Keeps.refl _

theorem State.resetShort_keeps {a0 : _} : Keeps a0 (@State.resetShort a0) := by
  unfold State.resetShort
  dsimp only
  refine Keeps.ite ?_ ?_
  · exact Keeps.refl _
  · refine Keeps.ite ?_ ?_
    · refine Keeps.ite ?_ ?_
      · refine Keeps.trans ?_ State.planAt_keeps
        exact Keeps.refl _
      · refine Keeps.trans ?_ State.panelRefused_keeps
        exact Keeps.refl _
    · refine Keeps.ite ?_ ?_
      · refine Keeps.trans ?_ State.restartPair_keeps
        exact Keeps.refl _
      · refine Keeps.ite ?_ ?_
        · refine Keeps.trans ?_ State.dropSync_keeps
          exact Keeps.refl _
        · refine Keeps.ite ?_ ?_
          · refine Keeps.trans ?_ State.stopShadow_keeps
            exact Keeps.refl _
          · exact Keeps.refl _

theorem State.resetHold_keeps {a0 : _} : Keeps a0 (@State.resetHold a0) := by
  unfold State.resetHold
  dsimp only
  refine Keeps.ite ?_ ?_
  · exact Keeps.refl _
  · refine Keeps.ite ?_ ?_
    · refine Keeps.ite ?_ ?_
      · refine Keeps.trans ?_ State.planAt_keeps
        exact Keeps.refl _
      · refine Keeps.trans ?_ State.panelRefused_keeps
        exact Keeps.refl _
    · refine Keeps.ite ?_ ?_
      · refine Keeps.trans ?_ State.panelRefused_keeps
        exact Keeps.refl _
      · refine Keeps.ite ?_ ?_
        · refine Keeps.trans ?_ State.enterStart_keeps
          refine Keeps.trans ?_ State.raise_keeps
          exact Keeps.refl _
        · refine Keeps.trans ?_ State.enterStart_keeps
          exact Keeps.refl _

theorem State.resetRelease_keeps {a0 : _} {a1 : _} : Keeps a0 (@State.resetRelease a0 a1) := by
  unfold State.resetRelease
  refine Keeps.ite ?_ ?_
  · exact Keeps.refl _
  · refine Keeps.ite ?_ ?_
    · refine Keeps.ite ?_ ?_
      · refine Keeps.trans ?_ (Keeps.put (by decide))
        exact Keeps.refl _
      · exact Keeps.refl _
    · refine Keeps.ite ?_ ?_
      · refine Keeps.trans ?_ State.stuckReset_keeps
        exact Keeps.refl _
      · dsimp only
        refine Keeps.ite ?_ ?_
        · refine Keeps.trans ?_ State.panelAct_keeps
          refine Keeps.trans ?_ State.raise_keeps
          refine Keeps.trans ?_ (Keeps.inc (by decide))
          refine Keeps.trans ?_ (Keeps.put (by decide))
          exact Keeps.refl _
        · refine Keeps.ite ?_ ?_
          · refine Keeps.trans ?_ State.resetShort_keeps
            refine Keeps.trans ?_ State.raise_keeps
            refine Keeps.trans ?_ (Keeps.inc (by decide))
            refine Keeps.trans ?_ (Keeps.put (by decide))
            exact Keeps.refl _
          · refine Keeps.trans ?_ State.resetHold_keeps
            refine Keeps.trans ?_ State.raise_keeps
            refine Keeps.trans ?_ (Keeps.inc (by decide))
            refine Keeps.trans ?_ (Keeps.put (by decide))
            exact Keeps.refl _

theorem execResetRelease_keeps {a0 : _} {a1 : _} {t : State} (h : (@execResetRelease a0 a1) = .next t) : Keeps a1 t := by
  unfold execResetRelease at h
  injection h with h
  subst h
  refine Keeps.trans ?_ State.resetRelease_keeps
  exact Keeps.refl _

theorem State.quiesce_keeps {a0 : _} : Keeps a0 (@State.quiesce a0) := by
  unfold State.quiesce
  dsimp only
  refine Keeps.trans ?_ State.showLeds_keeps
  refine Keeps.trans ?_ State.canShow_keeps
  refine Keeps.trans ?_ (Keeps.put (by decide))
  refine Keeps.ite ?_ ?_
  · refine Keeps.trans ?_ State.retainFlush_keeps
    refine Keeps.trans ?_ State.flushJournal_keeps
    split
    · rename_i v0 v1 v2
      refine Keeps.trans ?_ State.storeMirror_keeps
      refine Keeps.foldl ?_ (fun v3 v4 => ?_)
      · refine Keeps.trans ?_ State.setMode_keeps
        refine Keeps.mkUpd ?_ (by with_reducible rfl) (by with_reducible rfl) (by with_reducible rfl) (by with_reducible rfl)
        refine Keeps.trans ?_ State.canDropAll_keeps
        refine Keeps.trans ?_ State.dropCycles_keeps
        refine Keeps.ite ?_ ?_
        · refine Keeps.trans ?_ State.stopShadow_keeps
          exact Keeps.refl _
        · exact Keeps.refl _
      · refine Keeps.ite ?_ ?_
        · exact Keeps.refl _
        · refine Keeps.trans ?_ State.holdSession_keeps
          exact Keeps.refl _
    · rename_i v5 v6
      refine Keeps.foldl ?_ (fun v7 v8 => ?_)
      · refine Keeps.trans ?_ State.setMode_keeps
        refine Keeps.mkUpd ?_ (by with_reducible rfl) (by with_reducible rfl) (by with_reducible rfl) (by with_reducible rfl)
        refine Keeps.trans ?_ State.canDropAll_keeps
        refine Keeps.trans ?_ State.dropCycles_keeps
        refine Keeps.ite ?_ ?_
        · refine Keeps.trans ?_ State.stopShadow_keeps
          exact Keeps.refl _
        · exact Keeps.refl _
      · refine Keeps.ite ?_ ?_
        · exact Keeps.refl _
        · refine Keeps.trans ?_ State.holdSession_keeps
          exact Keeps.refl _
  · refine Keeps.trans ?_ State.flushJournal_keeps
    split
    · rename_i v9 v10 v11
      refine Keeps.trans ?_ State.storeMirror_keeps
      refine Keeps.foldl ?_ (fun v12 v13 => ?_)
      · refine Keeps.trans ?_ State.setMode_keeps
        refine Keeps.mkUpd ?_ (by with_reducible rfl) (by with_reducible rfl) (by with_reducible rfl) (by with_reducible rfl)
        refine Keeps.trans ?_ State.canDropAll_keeps
        refine Keeps.trans ?_ State.dropCycles_keeps
        refine Keeps.ite ?_ ?_
        · refine Keeps.trans ?_ State.stopShadow_keeps
          exact Keeps.refl _
        · exact Keeps.refl _
      · refine Keeps.ite ?_ ?_
        · exact Keeps.refl _
        · refine Keeps.trans ?_ State.holdSession_keeps
          exact Keeps.refl _
    · rename_i v14 v15
      refine Keeps.foldl ?_ (fun v16 v17 => ?_)
      · refine Keeps.trans ?_ State.setMode_keeps
        refine Keeps.mkUpd ?_ (by with_reducible rfl) (by with_reducible rfl) (by with_reducible rfl) (by with_reducible rfl)
        refine Keeps.trans ?_ State.canDropAll_keeps
        refine Keeps.trans ?_ State.dropCycles_keeps
        refine Keeps.ite ?_ ?_
        · refine Keeps.trans ?_ State.stopShadow_keeps
          exact Keeps.refl _
        · exact Keeps.refl _
      · refine Keeps.ite ?_ ?_
        · exact Keeps.refl _
        · refine Keeps.trans ?_ State.holdSession_keeps
          exact Keeps.refl _

theorem State.releaseAccepted_keeps {a0 : _} {a1 : _} : Keeps a0 (@State.releaseAccepted a0 a1) := by
  unfold State.releaseAccepted
  refine Keeps.trans ?_ State.raise_keeps
  refine Keeps.trans ?_ (Keeps.put (by decide))
  refine Keeps.trans ?_ (Keeps.inc (by decide))
  exact Keeps.refl _

theorem State.quiesceSoon_keeps {a0 : _} {a1 : _} : Keeps a0 (@State.quiesceSoon a0 a1) := by
  unfold State.quiesceSoon
  dsimp only
  refine Keeps.ite ?_ ?_
  · refine Keeps.trans ?_ State.panelAct_keeps
    refine Keeps.trans ?_ State.releaseAccepted_keeps
    exact Keeps.refl _
  · refine Keeps.trans ?_ State.quiesce_keeps
    refine Keeps.trans ?_ State.releaseAccepted_keeps
    exact Keeps.refl _

theorem State.releaseAct_keeps {a0 : _} {a1 : _} : Keeps a0 (@State.releaseAct a0 a1) := by
  unfold State.releaseAct
  dsimp only
  refine Keeps.ite ?_ ?_
  · refine Keeps.trans ?_ State.dormantWake_keeps
    exact Keeps.refl _
  · refine Keeps.ite ?_ ?_
    · exact Keeps.refl _
    · refine Keeps.ite ?_ ?_
      · refine Keeps.ite ?_ ?_
        · refine Keeps.trans ?_ (Keeps.put (by decide))
          exact Keeps.refl _
        · refine Keeps.trans ?_ State.message_keeps
          refine Keeps.trans ?_ (Keeps.put (by decide))
          exact Keeps.refl _
      · refine Keeps.ite ?_ ?_
        · refine Keeps.trans ?_ State.enterStart_keeps
          refine Keeps.trans ?_ (Keeps.put (by decide))
          exact Keeps.refl _
        · refine Keeps.ite ?_ ?_
          · refine Keeps.mkUpd ?_ (by with_reducible rfl) (by with_reducible rfl) (by with_reducible rfl) (by with_reducible rfl)
            refine Keeps.trans ?_ State.planAt_keeps
            refine Keeps.trans ?_ State.releaseAccepted_keeps
            refine Keeps.trans ?_ (Keeps.put (by decide))
            exact Keeps.refl _
          · refine Keeps.ite ?_ ?_
            · refine Keeps.ite ?_ ?_
              · refine Keeps.trans ?_ State.quiesceSoon_keeps
                refine Keeps.trans ?_ (Keeps.put (by decide))
                exact Keeps.refl _
              · refine Keeps.trans ?_ State.panelRefused_keeps
                refine Keeps.trans ?_ (Keeps.put (by decide))
                exact Keeps.refl _
            · refine Keeps.trans ?_ State.quiesceSoon_keeps
              refine Keeps.trans ?_ (Keeps.put (by decide))
              exact Keeps.refl _

theorem execReleasePress_keeps {a0 : _} {a1 : _} {t : State} (h : (@execReleasePress a0 a1) = .next t) : Keeps a1 t := by
  unfold execReleasePress at h
  injection h with h
  subst h
  refine Keeps.ite ?_ ?_
  · exact Keeps.refl _
  · refine Keeps.ite ?_ ?_
    · refine Keeps.ite ?_ ?_
      · refine Keeps.trans ?_ (Keeps.put (by decide))
        exact Keeps.refl _
      · exact Keeps.refl _
    · refine Keeps.trans ?_ State.releaseAct_keeps
      exact Keeps.refl _

theorem execReleaseHold_keeps {a0 : _} {t : State} (h : (@execReleaseHold a0) = .next t) : Keeps a0 t := by
  unfold execReleaseHold at h
  injection h with h
  subst h
  refine Keeps.ite ?_ ?_
  · refine Keeps.trans ?_ State.releaseAct_keeps
    exact Keeps.refl _
  · exact Keeps.refl _

theorem execOkToRemove_keeps {a0 : _} {t : State} (h : (@execOkToRemove a0) = .next t) : Keeps a0 t := by
  unfold execOkToRemove at h
  injection h with h
  subst h
  refine Keeps.ite ?_ ?_
  · refine Keeps.trans ?_ State.showLeds_keeps
    refine Keeps.trans ?_ State.message_keeps
    refine Keeps.trans ?_ State.raise_keeps
    refine Keeps.trans ?_ (Keeps.put (by decide))
    exact Keeps.refl _
  · exact Keeps.refl _

theorem State.panelApply_keeps {a0 : _} {a1 : _} : Keeps a0 (@State.panelApply a0 a1) := by
  unfold State.panelApply
  split
  · rename_i v0
    refine Keeps.trans ?_ State.resetShort_keeps
    exact Keeps.refl _
  · rename_i v1
    refine Keeps.trans ?_ State.resetHold_keeps
    exact Keeps.refl _
  · rename_i v2
    refine Keeps.trans ?_ State.quiesce_keeps
    exact Keeps.refl _
  · rename_i v3
    refine Keeps.trans ?_ State.quiesce_keeps
    exact Keeps.refl _
  · rename_i v4
    refine Keeps.trans ?_ State.keyAway_keeps
    exact Keeps.refl _
  · rename_i v5
    refine Keeps.trans ?_ State.keyAway_keeps
    exact Keeps.refl _
  · rename_i v6 v7 v8 v9 v10 v11 v12
    exact Keeps.refl _

theorem State.panelFreeze_keeps {a0 : _} : Keeps a0 (@State.panelFreeze a0) := by
  unfold State.panelFreeze
  dsimp only
  refine Keeps.foldl ?_ (fun v0 v1 => ?_)
  · refine Keeps.mkUpd ?_ (by with_reducible rfl) (by with_reducible rfl) (by with_reducible rfl) (by with_reducible rfl)
    exact Keeps.refl _
  · refine Keeps.trans ?_ State.panelApply_keeps
    exact Keeps.refl _

theorem execButtonClosure_keeps {a0 : _} {a1 : _} {t : State} (h : (@execButtonClosure a0 a1) = .next t) : Keeps a1 t := by
  unfold execButtonClosure at h
  injection h with h
  subst h
  refine Keeps.ite ?_ ?_
  · refine Keeps.trans ?_ (Keeps.put (by split <;> decide))
    exact Keeps.refl _
  · exact Keeps.refl _

theorem execModuleInsert_keeps {a0 : _} {a1 : _} {t : State} (h : (@execModuleInsert a0 a1) = .next t) : Keeps a1 t := by
  unfold execModuleInsert at h
  injection h with h
  subst h
  refine Keeps.ite ?_ ?_
  · refine Keeps.trans ?_ (Keeps.put (by decide))
    refine Keeps.trans ?_ State.powerUp_keeps
    exact Keeps.refl _
  · exact Keeps.refl _

theorem execModuleRemove_keeps {a0 : _} {t : State} (h : (@execModuleRemove a0) = .next t) : Keeps a0 t := by
  unfold execModuleRemove at h
  injection h with h
  subst h
  refine Keeps.mkUpd ?_ (by with_reducible rfl) (by with_reducible rfl) (by with_reducible rfl) (by with_reducible rfl)
  refine Keeps.trans ?_ State.onPwr_keeps
  refine Keeps.trans ?_ State.powerdown_keeps
  refine Keeps.trans ?_ (Keeps.put (by decide))
  refine Keeps.trans ?_ (Keeps.put (by decide))
  refine Keeps.trans ?_ (Keeps.release (by simp))
  refine Keeps.trans ?_ (Keeps.release (by simp))
  refine Keeps.trans ?_ (Keeps.put (by decide))
  exact Keeps.refl _

theorem State.touched_keeps {a0 : _} : Keeps a0 (@State.touched a0) := by
  unfold State.touched
  refine Keeps.trans ?_ (Keeps.put (by decide))
  exact Keeps.refl _

theorem execTouchPage_keeps {a0 : _} {t : State} (h : (@execTouchPage a0) = .next t) : Keeps a0 t := by
  unfold execTouchPage at h
  injection h with h
  subst h
  refine Keeps.ite ?_ ?_
  · exact Keeps.refl _
  · dsimp only
    refine Keeps.mkUpd ?_ (by with_reducible rfl) (by with_reducible rfl) (by with_reducible rfl) (by with_reducible rfl)
    refine Keeps.trans ?_ (Keeps.put (by decide))
    refine Keeps.trans ?_ State.touched_keeps
    exact Keeps.refl _

theorem execTouchSelect_keeps {a0 : _} {t : State} (h : (@execTouchSelect a0) = .next t) : Keeps a0 t := by
  unfold execTouchSelect at h
  injection h with h
  subst h
  refine Keeps.ite ?_ ?_
  · exact Keeps.refl _
  · dsimp only
    refine Keeps.mkUpd ?_ (by with_reducible rfl) (by with_reducible rfl) (by with_reducible rfl) (by with_reducible rfl)
    refine Keeps.trans ?_ State.touched_keeps
    exact Keeps.refl _

theorem execTouchBack_keeps {a0 : _} {t : State} (h : (@execTouchBack a0) = .next t) : Keeps a0 t := by
  unfold execTouchBack at h
  injection h with h
  subst h
  refine Keeps.ite ?_ ?_
  · exact Keeps.refl _
  · dsimp only
    refine Keeps.mkUpd ?_ (by with_reducible rfl) (by with_reducible rfl) (by with_reducible rfl) (by with_reducible rfl)
    refine Keeps.trans ?_ (Keeps.put (by decide))
    refine Keeps.trans ?_ State.touched_keeps
    exact Keeps.refl _

theorem execTouchAck_keeps {a0 : _} {t : State} (h : (@execTouchAck a0) = .next t) : Keeps a0 t := by
  unfold execTouchAck at h
  injection h with h
  subst h
  refine Keeps.ite ?_ ?_
  · exact Keeps.refl _
  · refine Keeps.trans ?_ State.showLeds_keeps
    dsimp only
    refine Keeps.mkUpd ?_ (by with_reducible rfl) (by with_reducible rfl) (by with_reducible rfl) (by with_reducible rfl)
    refine Keeps.trans ?_ State.touched_keeps
    exact Keeps.refl _

theorem execDisplayTimeout_keeps {a0 : _} {t : State} (h : (@execDisplayTimeout a0) = .next t) : Keeps a0 t := by
  unfold execDisplayTimeout at h
  injection h with h
  subst h
  refine Keeps.ite ?_ ?_
  · refine Keeps.trans ?_ (Keeps.put (by decide))
    exact Keeps.refl _
  · exact Keeps.refl _

theorem execPanelMessageTimeout_keeps {a0 : _} {t : State} (h : (@execPanelMessageTimeout a0) = .next t) : Keeps a0 t := by
  unfold execPanelMessageTimeout at h
  injection h with h
  subst h
  refine Keeps.ite ?_ ?_
  · exact Keeps.refl _
  · refine Keeps.mkUpd ?_ (by with_reducible rfl) (by with_reducible rfl) (by with_reducible rfl) (by with_reducible rfl)
    exact Keeps.refl _

/-! Triad. -/

theorem State.showAttempts_keeps {s : State} : Keeps s s.showAttempts := by
  unfold State.showAttempts
  refine Keeps.foldl (Keeps.refl s) (fun u c => Keeps.putKey ?_)
  simp only [statusKeys, fldKey, Fld.next, F.resyncCountX, F.mode, F.role, F.claim, F.driveEn, List.mem_cons, List.not_mem_nil,
    or_false]
  omega

theorem State.retireCluster_keeps {a0 : _} {a1 : _} : Keeps a0 (@State.retireCluster a0 a1) := by
  unfold State.retireCluster
  dsimp only
  refine Keeps.ite ?_ ?_
  · refine Keeps.trans ?_ State.plan_keeps
    refine Keeps.trans ?_ (Keeps.put (by decide))
    refine Keeps.trans ?_ State.journal_keeps
    refine Keeps.trans ?_ State.raise_keeps
    refine Keeps.trans ?_ (Keeps.put (by decide))
    exact Keeps.refl _
  · refine Keeps.trans ?_ (Keeps.put (by decide))
    refine Keeps.trans ?_ State.journal_keeps
    refine Keeps.trans ?_ State.raise_keeps
    refine Keeps.trans ?_ (Keeps.put (by decide))
    exact Keeps.refl _

theorem State.isolate_keeps {a0 : _} {a1 : _} : Keeps a0 (@State.isolate a0 a1) := by
  unfold State.isolate
  dsimp only
  refine Keeps.ite ?_ ?_
  · refine Keeps.trans ?_ State.retireCluster_keeps
    refine Keeps.mkUpd ?_ (by with_reducible rfl) (by with_reducible rfl) (by with_reducible rfl) (by with_reducible rfl)
    refine Keeps.trans ?_ (Keeps.put (by decide))
    refine Keeps.trans ?_ (Keeps.put (by decide))
    exact Keeps.refl _
  · refine Keeps.mkUpd ?_ (by with_reducible rfl) (by with_reducible rfl) (by with_reducible rfl) (by with_reducible rfl)
    refine Keeps.trans ?_ (Keeps.put (by decide))
    refine Keeps.trans ?_ (Keeps.put (by decide))
    exact Keeps.refl _

theorem State.countMismatch_keeps {a0 : _} : Keeps a0 (@State.countMismatch a0) := by
  unfold State.countMismatch
  refine Keeps.trans ?_ (Keeps.put (by decide))
  refine Keeps.trans ?_ (Keeps.inc (by decide))
  exact Keeps.refl _

theorem State.passTxn_keeps {a0 : _} {a1 : _} : Keeps a0 (@State.passTxn a0 a1) := by
  unfold State.passTxn
  refine Keeps.mkUpd ?_ (by with_reducible rfl) (by with_reducible rfl) (by with_reducible rfl) (by with_reducible rfl)
  exact Keeps.refl _

theorem State.vote_keeps {a0 : _} {a1 : _} {a2 : _} {a3 : _} {a4 : _} : Keeps a0 (@State.vote a0 a1 a2 a3 a4) := by
  unfold State.vote
  dsimp only
  refine Keeps.ite ?_ ?_
  · exact Keeps.refl _
  · refine Keeps.ite ?_ ?_
    · split
      · rename_i v0 v1
        refine Keeps.trans ?_ State.raise_keeps
        refine Keeps.trans ?_ State.countMismatch_keeps
        refine Keeps.trans ?_ State.passTxn_keeps
        exact Keeps.refl _
      · rename_i v2 v3 v4 v5
        refine Keeps.ite ?_ ?_
        · refine Keeps.trans ?_ State.passTxn_keeps
          exact Keeps.refl _
        · refine Keeps.trans ?_ State.isolate_keeps
          refine Keeps.trans ?_ State.raise_keeps
          refine Keeps.trans ?_ State.countMismatch_keeps
          refine Keeps.trans ?_ State.passTxn_keeps
          exact Keeps.refl _
    · split
      · rename_i v6 v7 v8 v9
        refine Keeps.ite ?_ ?_
        · refine Keeps.trans ?_ State.passTxn_keeps
          exact Keeps.refl _
        · refine Keeps.trans ?_ State.raise_keeps
          refine Keeps.trans ?_ State.countMismatch_keeps
          refine Keeps.trans ?_ State.passTxn_keeps
          exact Keeps.refl _
      · rename_i v10 v11
        exact Keeps.refl _

theorem execTriadMismatch_keeps {a0 : _} {a1 : _} {a2 : _} {a3 : _} {a4 : _} {a5 : _} {t : State} (h : (@execTriadMismatch a0 a1 a2 a3 a4 a5) = .next t) : Keeps a3 t := by
  unfold execTriadMismatch at h
  injection h with h
  subst h
  refine Keeps.ite ?_ ?_
  · exact Keeps.refl _
  · refine Keeps.trans ?_ State.vote_keeps
    exact Keeps.refl _

theorem State.startResync_keeps {a0 : _} {a1 : _} : Keeps a0 (@State.startResync a0 a1) := by
  unfold State.startResync
  dsimp only
  refine Keeps.trans ?_ State.raise_keeps
  refine Keeps.trans ?_ State.journal_keeps
  refine Keeps.trans ?_ (Keeps.put (by decide))
  refine Keeps.trans ?_ (Keeps.put (by decide))
  refine Keeps.trans ?_ State.showAttempts_keeps
  refine Keeps.mkUpd ?_ (by with_reducible rfl) (by with_reducible rfl) (by with_reducible rfl) (by with_reducible rfl)
  exact Keeps.refl _

theorem State.copied_keeps {a0 : _} : Keeps a0 (@State.copied a0) := by
  unfold State.copied
  refine Keeps.mkUpd ?_ (by with_reducible rfl) (by with_reducible rfl) (by with_reducible rfl) (by with_reducible rfl)
  exact Keeps.refl _

theorem execResyncStart_keeps {a0 : _} {t : State} (h : (@execResyncStart a0) = .next t) : Keeps a0 t := by
  unfold execResyncStart at h
  injection h with h
  subst h
  split
  · rename_i v0 v1 v2
    refine Keeps.ite ?_ ?_
    · refine Keeps.trans ?_ State.startResync_keeps
      exact Keeps.refl _
    · exact Keeps.refl _
  · rename_i v3 v4
    exact Keeps.refl _

theorem State.resyncFails_keeps {a0 : _} : Keeps a0 (@State.resyncFails a0) := by
  unfold State.resyncFails
  dsimp only
  refine Keeps.trans ?_ State.raise_keeps
  refine Keeps.trans ?_ (Keeps.put (by decide))
  refine Keeps.trans ?_ (Keeps.put (by decide))
  refine Keeps.mkUpd ?_ (by with_reducible rfl) (by with_reducible rfl) (by with_reducible rfl) (by with_reducible rfl)
  exact Keeps.refl _

theorem State.judgePass_keeps {a0 : _} : Keeps a0 (@State.judgePass a0) := by
  unfold State.judgePass
  refine Keeps.ite ?_ ?_
  · refine Keeps.mkUpd ?_ (by with_reducible rfl) (by with_reducible rfl) (by with_reducible rfl) (by with_reducible rfl)
    exact Keeps.refl _
  · refine Keeps.ite ?_ ?_
    · refine Keeps.trans ?_ State.resyncFails_keeps
      exact Keeps.refl _
    · dsimp only
      refine Keeps.mkUpd ?_ (by with_reducible rfl) (by with_reducible rfl) (by with_reducible rfl) (by with_reducible rfl)
      refine Keeps.trans ?_ State.copied_keeps
      exact Keeps.refl _

theorem execResyncPassDone_keeps {a0 : _} {a1 : _} {t : State} (h : (@execResyncPassDone a0 a1) = .next t) : Keeps a1 t := by
  unfold execResyncPassDone at h
  injection h with h
  subst h
  refine Keeps.ite ?_ ?_
  · exact Keeps.refl _
  · refine Keeps.ite ?_ ?_
    · refine Keeps.trans ?_ State.judgePass_keeps
      refine Keeps.trans ?_ (Keeps.put (by decide))
      exact Keeps.refl _
    · refine Keeps.ite ?_ ?_
      · refine Keeps.trans ?_ State.judgePass_keeps
        refine Keeps.mkUpd ?_ (by with_reducible rfl) (by with_reducible rfl) (by with_reducible rfl) (by with_reducible rfl)
        exact Keeps.refl _
      · exact Keeps.refl _

theorem execResyncFinal_keeps {a0 : _} {a1 : _} {t : State} (h : (@execResyncFinal a0 a1) = .next t) : Keeps a1 t := by
  unfold execResyncFinal at h
  injection h with h
  subst h
  refine Keeps.ite ?_ ?_
  · refine Keeps.ite ?_ ?_
    · refine Keeps.trans ?_ (Keeps.put (by decide))
      refine Keeps.trans ?_ State.copied_keeps
      exact Keeps.refl _
    · refine Keeps.trans ?_ State.judgePass_keeps
      exact Keeps.refl _
  · exact Keeps.refl _

theorem State.rejoins_keeps {a0 : _} : Keeps a0 (@State.rejoins a0) := by
  unfold State.rejoins
  refine Keeps.ite ?_ ?_
  · refine Keeps.trans ?_ (Keeps.put (by decide))
    exact Keeps.refl _
  · exact Keeps.refl _

theorem execResyncDone_keeps {a0 : _} {a1 : _} {t : State} (h : (@execResyncDone a0 a1) = .next t) : Keeps a1 t := by
  unfold execResyncDone at h
  injection h with h
  subst h
  refine Keeps.ite ?_ ?_
  · dsimp only
    refine Keeps.trans ?_ State.raise_keeps
    refine Keeps.mkUpd ?_ (by with_reducible rfl) (by with_reducible rfl) (by with_reducible rfl) (by with_reducible rfl)
    iterate 5 refine Keeps.trans ?_ (Keeps.put (by decide))
    exact Keeps.refl _
  · exact Keeps.refl _

theorem execResyncRetry_keeps {a0 : _} {a1 : _} {t : State} (h : (@execResyncRetry a0 a1) = .next t) : Keeps a1 t := by
  unfold execResyncRetry at h
  injection h with h
  subst h
  refine Keeps.ite ?_ ?_
  · refine Keeps.trans ?_ State.startResync_keeps
    exact Keeps.refl _
  · exact Keeps.refl _

theorem execSplitClusterFault_keeps {a0 : _} {a1 : _} {a2 : _} {t : State} (h : (@execSplitClusterFault a0 a1 a2) = .next t) : Keeps a2 t := by
  unfold execSplitClusterFault at h
  injection h with h
  subst h
  refine Keeps.ite ?_ ?_
  · exact Keeps.refl _
  · refine Keeps.ite ?_ ?_
    · refine Keeps.trans ?_ State.raise_keeps
      exact Keeps.refl _
    · refine Keeps.trans ?_ (State.onCluster_keeps ?_)
      · exact Keeps.refl _
      · intro v0
        refine Keeps.trans ?_ State.splitFault_keeps
        exact Keeps.refl _

theorem State.atEdge_keeps {s : State} {f : Fld} {v k : Nat} (h : f.quiet = true) : Keeps s (s.atEdge f v k) :=
  Keeps.edgePend (Keeps.refl s) (by simpa using f.quiet_keys h k)

theorem State.surgeStep_keeps {a0 : _} {a1 : _} {a2 : _} : Keeps a0 (@State.surgeStep a0 a1 a2) := by
  unfold State.surgeStep
  dsimp only
  refine Keeps.ite ?_ ?_
  · refine Keeps.ite ?_ ?_
    · refine Keeps.trans ?_ (Keeps.put (by decide))
      refine Keeps.mkUpd ?_ (by with_reducible rfl) (by with_reducible rfl) (by with_reducible rfl) (by with_reducible rfl)
      exact Keeps.refl _
    · refine Keeps.trans ?_ State.raise_keeps
      refine Keeps.trans ?_ (Keeps.put (by decide))
      refine Keeps.trans ?_ (Keeps.put (by decide))
      refine Keeps.trans ?_ (State.atEdge_keeps ?_)
      · refine Keeps.mkUpd ?_ (by with_reducible rfl) (by with_reducible rfl) (by with_reducible rfl) (by with_reducible rfl)
        refine Keeps.trans ?_ (Keeps.put (by decide))
        refine Keeps.mkUpd ?_ (by with_reducible rfl) (by with_reducible rfl) (by with_reducible rfl) (by with_reducible rfl)
        exact Keeps.refl _
      · decide
  · refine Keeps.ite ?_ ?_
    · refine Keeps.trans ?_ (Keeps.put (by decide))
      refine Keeps.trans ?_ (Keeps.put (by decide))
      exact Keeps.refl _
    · refine Keeps.ite ?_ ?_
      · refine Keeps.trans ?_ State.raise_keeps
        refine Keeps.trans ?_ (State.atEdge_keeps ?_)
        · refine Keeps.mkUpd ?_ (by with_reducible rfl) (by with_reducible rfl) (by with_reducible rfl) (by with_reducible rfl)
          refine Keeps.trans ?_ (Keeps.put (by decide))
          refine Keeps.trans ?_ (Keeps.put (by decide))
          exact Keeps.refl _
        · decide
      · refine Keeps.ite ?_ ?_
        · refine Keeps.trans ?_ State.raise_keeps
          refine Keeps.mkUpd ?_ (by with_reducible rfl) (by with_reducible rfl) (by with_reducible rfl) (by with_reducible rfl)
          refine Keeps.trans ?_ (Keeps.put (by decide))
          refine Keeps.trans ?_ (Keeps.put (by decide))
          exact Keeps.refl _
        · refine Keeps.trans ?_ (Keeps.put (by decide))
          refine Keeps.trans ?_ (Keeps.put (by decide))
          exact Keeps.refl _

theorem execClusterTrimExit_keeps {a0 : _} {a1 : _} {a2 : _} {a3 : _} {a4 : _} {t : State} (h : (@execClusterTrimExit a0 a1 a2 a3 a4) = .next t) : Keeps a4 t := by
  unfold execClusterTrimExit at h
  injection h with h
  subst h
  refine Keeps.ite ?_ ?_
  · exact Keeps.refl _
  · dsimp only
    refine Keeps.trans ?_ State.rejoins_keeps
    refine Keeps.trans ?_ State.surgeStep_keeps
    refine Keeps.trans ?_ (Keeps.put (by decide))
    refine Keeps.trans ?_ State.trimExit_keeps
    exact Keeps.refl _

/-! Pair. -/

theorem State.showApplicable_keeps {a0 : _} : Keeps a0 (@State.showApplicable a0) := by
  unfold State.showApplicable
  refine Keeps.foldl ?_ (fun v0 v1 => ?_)
  · exact Keeps.refl _
  · refine Keeps.ite ?_ ?_
    · refine Keeps.trans ?_ (Keeps.put (by decide))
      exact Keeps.refl _
    · refine Keeps.ite ?_ ?_
      · refine Keeps.trans ?_ (Keeps.put (by decide))
        exact Keeps.refl _
      · exact Keeps.refl _

theorem State.judgeReady_keeps {a0 : _} : Keeps a0 (@State.judgeReady a0) := by
  unfold State.judgeReady
  refine Keeps.ite ?_ ?_
  · exact Keeps.refl _
  · dsimp only
    refine Keeps.ite ?_ ?_
    · refine Keeps.trans ?_ State.raise_keeps
      refine Keeps.trans ?_ State.setMode_keeps
      refine Keeps.trans ?_ (Keeps.put (by decide))
      exact Keeps.refl _
    · refine Keeps.trans ?_ State.setMode_keeps
      refine Keeps.trans ?_ (Keeps.put (by decide))
      exact Keeps.refl _

theorem State.selftestRan_keeps {a0 : _} {a1 : _} : Keeps a0 (@State.selftestRan a0 a1) := by
  unfold State.selftestRan
  split
  · rename_i v0 v1
    exact Keeps.refl _
  · rename_i v2 v3 v4
    dsimp only
    refine Keeps.ite ?_ ?_
    · refine Keeps.trans ?_ State.onPwr_keeps
      exact Keeps.refl _
    · refine Keeps.trans ?_ State.answer_keeps
      refine Keeps.trans ?_ State.onPwr_keeps
      exact Keeps.refl _

theorem State.healthPass_keeps {a0 : _} {a1 : _} : Keeps a0 (@State.healthPass a0 a1) := by
  unfold State.healthPass
  refine Keeps.ite ?_ ?_
  · refine Keeps.trans ?_ State.selftestRan_keeps
    exact Keeps.refl _
  · dsimp only
    refine Keeps.trans ?_ State.judgeReady_keeps
    refine Keeps.trans ?_ State.selftestRan_keeps
    refine Keeps.ite ?_ ?_
    · refine Keeps.trans ?_ State.showBank_keeps
      refine Keeps.trans ?_ (Keeps.put (by decide))
      refine Keeps.trans ?_ State.fresh_keeps
      refine Keeps.trans ?_ State.onImg_keeps
      refine Keeps.trans ?_ (Keeps.put (by decide))
      refine Keeps.trans ?_ (Keeps.put (by decide))
      exact Keeps.refl _
    · refine Keeps.trans ?_ State.onImg_keeps
      refine Keeps.trans ?_ (Keeps.put (by decide))
      refine Keeps.trans ?_ (Keeps.put (by decide))
      exact Keeps.refl _

theorem execHealthCheckPass_keeps {a0 : _} {a1 : _} {t : State} (h : (@execHealthCheckPass a0 a1) = .next t) : Keeps a1 t := by
  unfold execHealthCheckPass at h
  injection h with h
  subst h
  refine Keeps.trans ?_ State.healthPass_keeps
  exact Keeps.refl _

theorem execHealthCheckDue_keeps {a0 : _} {a1 : _} {t : State} (h : (@execHealthCheckDue a0 a1) = .next t) : Keeps a1 t := by
  unfold execHealthCheckDue at h
  injection h with h
  subst h
  refine Keeps.ite ?_ ?_
  · refine Keeps.trans ?_ State.judgeReady_keeps
    refine Keeps.trans ?_ (Keeps.put (by decide))
    exact Keeps.refl _
  · exact Keeps.refl _

theorem State.checkedFault_keeps {a0 : _} {a1 : _} : Keeps a0 (@State.checkedFault a0 a1) := by
  unfold State.checkedFault
  refine Keeps.ite ?_ ?_
  · refine Keeps.foldl ?_ (fun v0 v1 => ?_)
    · exact Keeps.refl _
    · refine Keeps.trans ?_ State.faFault_keeps
      exact Keeps.refl _
  · refine Keeps.ite ?_ ?_
    · refine Keeps.foldl ?_ (fun v2 v3 => ?_)
      · exact Keeps.refl _
      · refine Keeps.trans ?_ State.canFaults_keeps
        exact Keeps.refl _
    · refine Keeps.ite ?_ ?_
      · refine Keeps.foldl ?_ (fun v4 v5 => ?_)
        · exact Keeps.refl _
        · refine Keeps.trans ?_ State.canFaults_keeps
          exact Keeps.refl _
      · exact Keeps.refl _

theorem State.healthFailed_keeps {a0 : _} {a1 : _} : Keeps a0 (@State.healthFailed a0 a1) := by
  unfold State.healthFailed
  refine Keeps.ite ?_ ?_
  · refine Keeps.trans ?_ State.selftestRan_keeps
    exact Keeps.refl _
  · dsimp only
    refine Keeps.trans ?_ State.judgeReady_keeps
    refine Keeps.trans ?_ State.selftestRan_keeps
    refine Keeps.trans ?_ State.rejectImages_keeps
    refine Keeps.ite ?_ ?_
    · refine Keeps.trans ?_ State.plan_keeps
      refine Keeps.trans ?_ State.checkedFault_keeps
      refine Keeps.ite ?_ ?_
      · refine Keeps.trans ?_ State.cause_keeps
        refine Keeps.ite ?_ ?_
        · refine Keeps.trans ?_ State.raise_keeps
          refine Keeps.trans ?_ State.showBank_keeps
          refine Keeps.trans ?_ (Keeps.put (by decide))
          refine Keeps.trans ?_ State.fresh_keeps
          refine Keeps.trans ?_ State.healthFails_keeps
          exact Keeps.refl _
        · refine Keeps.trans ?_ State.healthFails_keeps
          exact Keeps.refl _
      · refine Keeps.ite ?_ ?_
        · refine Keeps.trans ?_ State.raise_keeps
          refine Keeps.trans ?_ State.showBank_keeps
          refine Keeps.trans ?_ (Keeps.put (by decide))
          refine Keeps.trans ?_ State.fresh_keeps
          refine Keeps.trans ?_ State.healthFails_keeps
          exact Keeps.refl _
        · refine Keeps.trans ?_ State.healthFails_keeps
          exact Keeps.refl _
    · refine Keeps.ite ?_ ?_
      · refine Keeps.trans ?_ State.plan_keeps
        refine Keeps.trans ?_ State.checkedFault_keeps
        refine Keeps.ite ?_ ?_
        · refine Keeps.trans ?_ State.cause_keeps
          refine Keeps.ite ?_ ?_
          · refine Keeps.trans ?_ State.raise_keeps
            refine Keeps.trans ?_ State.showBank_keeps
            refine Keeps.trans ?_ (Keeps.put (by decide))
            refine Keeps.trans ?_ State.fresh_keeps
            refine Keeps.trans ?_ State.healthFails_keeps
            exact Keeps.refl _
          · refine Keeps.trans ?_ State.healthFails_keeps
            exact Keeps.refl _
        · refine Keeps.ite ?_ ?_
          · refine Keeps.trans ?_ State.raise_keeps
            refine Keeps.trans ?_ State.showBank_keeps
            refine Keeps.trans ?_ (Keeps.put (by decide))
            refine Keeps.trans ?_ State.fresh_keeps
            refine Keeps.trans ?_ State.healthFails_keeps
            exact Keeps.refl _
          · refine Keeps.trans ?_ State.healthFails_keeps
            exact Keeps.refl _
      · refine Keeps.trans ?_ State.checkedFault_keeps
        refine Keeps.ite ?_ ?_
        · refine Keeps.trans ?_ State.cause_keeps
          refine Keeps.ite ?_ ?_
          · refine Keeps.trans ?_ State.raise_keeps
            refine Keeps.trans ?_ State.showBank_keeps
            refine Keeps.trans ?_ (Keeps.put (by decide))
            refine Keeps.trans ?_ State.fresh_keeps
            refine Keeps.trans ?_ State.healthFails_keeps
            exact Keeps.refl _
          · refine Keeps.trans ?_ State.healthFails_keeps
            exact Keeps.refl _
        · refine Keeps.ite ?_ ?_
          · refine Keeps.trans ?_ State.raise_keeps
            refine Keeps.trans ?_ State.showBank_keeps
            refine Keeps.trans ?_ (Keeps.put (by decide))
            refine Keeps.trans ?_ State.fresh_keeps
            refine Keeps.trans ?_ State.healthFails_keeps
            exact Keeps.refl _
          · refine Keeps.trans ?_ State.healthFails_keeps
            exact Keeps.refl _

theorem execHealthCheckFailed_keeps {a0 : _} {a1 : _} {t : State} (h : (@execHealthCheckFailed a0 a1) = .next t) : Keeps a1 t := by
  unfold execHealthCheckFailed at h
  injection h with h
  subst h
  refine Keeps.trans ?_ State.healthFailed_keeps
  exact Keeps.refl _

theorem State.feedChange_keeps {a0 : _} {a1 : _} {a2 : _} {a3 : _} : Keeps a0 (@State.feedChange a0 a1 a2 a3) := by
  unfold State.feedChange
  dsimp only
  refine Keeps.ite ?_ ?_
  · refine Keeps.trans ?_ (Keeps.put (by split <;> decide))
    refine Keeps.trans ?_ (Keeps.put (by split <;> decide))
    exact Keeps.refl _
  · refine Keeps.ite ?_ ?_
    · refine Keeps.ite ?_ ?_
      · refine Keeps.trans ?_ State.raise_keeps
        refine Keeps.trans ?_ State.raise_keeps
        refine Keeps.trans ?_ (Keeps.put (by split <;> decide))
        refine Keeps.trans ?_ (Keeps.put (by split <;> decide))
        exact Keeps.refl _
      · refine Keeps.trans ?_ State.raise_keeps
        refine Keeps.trans ?_ (Keeps.put (by split <;> decide))
        refine Keeps.trans ?_ (Keeps.put (by split <;> decide))
        exact Keeps.refl _
    · refine Keeps.ite ?_ ?_
      · refine Keeps.ite ?_ ?_
        · refine Keeps.trans ?_ State.raise_keeps
          refine Keeps.trans ?_ State.raise_keeps
          refine Keeps.trans ?_ (Keeps.put (by split <;> decide))
          refine Keeps.trans ?_ (Keeps.put (by split <;> decide))
          exact Keeps.refl _
        · refine Keeps.trans ?_ State.raise_keeps
          refine Keeps.trans ?_ (Keeps.put (by split <;> decide))
          refine Keeps.trans ?_ (Keeps.put (by split <;> decide))
          exact Keeps.refl _
      · refine Keeps.trans ?_ State.healthFailed_keeps
        refine Keeps.ite ?_ ?_
        · refine Keeps.trans ?_ State.raise_keeps
          refine Keeps.trans ?_ State.raise_keeps
          refine Keeps.trans ?_ (Keeps.put (by split <;> decide))
          refine Keeps.trans ?_ (Keeps.put (by split <;> decide))
          exact Keeps.refl _
        · refine Keeps.trans ?_ State.raise_keeps
          refine Keeps.trans ?_ (Keeps.put (by split <;> decide))
          refine Keeps.trans ?_ (Keeps.put (by split <;> decide))
          exact Keeps.refl _

theorem execFeedChange_keeps {a0 : _} {a1 : _} {a2 : _} {a3 : _} {t : State} (h : (@execFeedChange a0 a1 a2 a3) = .next t) : Keeps a3 t := by
  unfold execFeedChange at h
  injection h with h
  subst h
  refine Keeps.trans ?_ State.feedChange_keeps
  exact Keeps.refl _

theorem execWdMonitorClock_keeps {a0 : _} {t : State} (h : (@execWdMonitorClock a0) = .next t) : Keeps a0 t := by
  unfold execWdMonitorClock at h
  injection h with h
  subst h
  refine Keeps.trans ?_ State.healthFailed_keeps
  refine Keeps.trans ?_ State.raiseLatched_keeps
  refine Keeps.trans ?_ (Keeps.put (by decide))
  exact Keeps.refl _

theorem execHealthReport_keeps {a0 : _} {a1 : _} {t : State} (h : (@execHealthReport a0 a1) = .next t) : Keeps a1 t := by
  unfold execHealthReport at h
  injection h with h
  subst h
  refine Keeps.trans ?_ (served_keeps ?_)
  · exact Keeps.refl _
  · intro v0 v1
    dsimp only
    exact Keeps.refl _

theorem State.selftest_keeps {a0 : _} {a1 : _} : Keeps a0 (@State.selftest a0 a1) := by
  unfold State.selftest
  dsimp only
  refine Keeps.ite ?_ ?_
  · refine Keeps.trans ?_ State.answer_keeps
    refine Keeps.trans ?_ State.judgeReady_keeps
    refine Keeps.foldl ?_ (fun v0 v1 => ?_)
    · exact Keeps.refl _
    · refine Keeps.trans ?_ (Keeps.put (by decide))
      exact Keeps.refl _
  · refine Keeps.trans ?_ State.onPwr_keeps
    refine Keeps.trans ?_ State.judgeReady_keeps
    refine Keeps.foldl ?_ (fun v2 v3 => ?_)
    · exact Keeps.refl _
    · refine Keeps.trans ?_ (Keeps.put (by decide))
      exact Keeps.refl _

theorem execSelftest_keeps {a0 : _} {a1 : _} {t : State} (h : (@execSelftest a0 a1) = .next t) : Keeps a1 t := by
  unfold execSelftest at h
  injection h with h
  subst h
  refine Keeps.trans ?_ (deferred_keeps ?_)
  · exact Keeps.refl _
  · intro v0 v1
    refine Keeps.trans ?_ State.selftest_keeps
    exact Keeps.refl _

theorem State.pairLinkUp_keeps {a0 : _} {a1 : _} : Keeps a0 (@State.pairLinkUp a0 a1) := by
  unfold State.pairLinkUp
  dsimp only
  refine Keeps.ite ?_ ?_
  · exact Keeps.refl _
  · refine Keeps.ite ?_ ?_
    · refine Keeps.trans ?_ State.showLeds_keeps
      refine Keeps.trans ?_ State.dropSync_keeps
      refine Keeps.ite ?_ ?_
      · refine Keeps.trans ?_ (Keeps.put (by decide))
        refine Keeps.mkUpd ?_ (by with_reducible rfl) (by with_reducible rfl) (by with_reducible rfl) (by with_reducible rfl)
        refine Keeps.trans ?_ State.raise_keeps
        refine Keeps.trans ?_ (Keeps.put (by decide))
        exact Keeps.refl _
      · refine Keeps.mkUpd ?_ (by with_reducible rfl) (by with_reducible rfl) (by with_reducible rfl) (by with_reducible rfl)
        refine Keeps.trans ?_ State.raise_keeps
        refine Keeps.trans ?_ (Keeps.put (by decide))
        exact Keeps.refl _
    · refine Keeps.trans ?_ State.showLeds_keeps
      refine Keeps.ite ?_ ?_
      · refine Keeps.trans ?_ (Keeps.put (by decide))
        refine Keeps.mkUpd ?_ (by with_reducible rfl) (by with_reducible rfl) (by with_reducible rfl) (by with_reducible rfl)
        refine Keeps.trans ?_ State.raise_keeps
        refine Keeps.trans ?_ (Keeps.put (by decide))
        exact Keeps.refl _
      · refine Keeps.mkUpd ?_ (by with_reducible rfl) (by with_reducible rfl) (by with_reducible rfl) (by with_reducible rfl)
        refine Keeps.trans ?_ State.raise_keeps
        refine Keeps.trans ?_ (Keeps.put (by decide))
        exact Keeps.refl _

theorem execPairLinkUp_keeps {a0 : _} {a1 : _} {t : State} (h : (@execPairLinkUp a0 a1) = .next t) : Keeps a1 t := by
  unfold execPairLinkUp at h
  injection h with h
  subst h
  refine Keeps.trans ?_ State.pairLinkUp_keeps
  exact Keeps.refl _

theorem execPairLinkDegraded_keeps {a0 : _} {a1 : _} {t : State} (h : (@execPairLinkDegraded a0 a1) = .next t) : Keeps a1 t := by
  unfold execPairLinkDegraded at h
  injection h with h
  subst h
  refine Keeps.ite ?_ ?_
  · exact Keeps.refl _
  · dsimp only
    refine Keeps.trans ?_ State.showLeds_keeps
    refine Keeps.ite ?_ ?_
    · refine Keeps.trans ?_ (Keeps.put (by decide))
      exact Keeps.refl _
    · refine Keeps.trans ?_ State.raise_keeps
      refine Keeps.trans ?_ (Keeps.put (by decide))
      exact Keeps.refl _

theorem State.heartbeatSend_keeps {a0 : _} {a1 : _} {a2 : _} : Keeps a0 (@State.heartbeatSend a0 a1 a2) := by
  unfold State.heartbeatSend
  refine Keeps.ite ?_ ?_
  · exact Keeps.refl _
  · refine Keeps.ite ?_ ?_
    · refine Keeps.mkUpd ?_ (by with_reducible rfl) (by with_reducible rfl) (by with_reducible rfl) (by with_reducible rfl)
      exact Keeps.refl _
    · dsimp only
      refine Keeps.mkUpd ?_ (by with_reducible rfl) (by with_reducible rfl) (by with_reducible rfl) (by with_reducible rfl)
      exact Keeps.refl _

theorem execHeartbeatSend_keeps {a0 : _} {a1 : _} {a2 : _} {a3 : _} {t : State} (h : (@execHeartbeatSend a0 a1 a2 a3) = .next t) : Keeps a3 t := by
  unfold execHeartbeatSend at h
  injection h with h
  subst h
  refine Keeps.trans ?_ State.heartbeatSend_keeps
  exact Keeps.refl _

theorem State.stopsHeart_keeps {a0 : _} : Keeps a0 (@State.stopsHeart a0) := by
  unfold State.stopsHeart
  refine Keeps.trans ?_ State.fieldOff_keeps
  refine Keeps.trans ?_ State.refreshDrive_keeps
  refine Keeps.mkUpd ?_ (by with_reducible rfl) (by with_reducible rfl) (by with_reducible rfl) (by with_reducible rfl)
  exact Keeps.refl _

theorem execOwnHeartbeatStop_keeps {a0 : _} {t : State} (h : (@execOwnHeartbeatStop a0) = .next t) : Keeps a0 t := by
  unfold execOwnHeartbeatStop at h
  injection h with h
  subst h
  refine Keeps.trans ?_ State.stopsHeart_keeps
  exact Keeps.refl _

theorem State.partnerGone_keeps {a0 : _} : Keeps a0 (@State.partnerGone a0) := by
  unfold State.partnerGone
  refine Keeps.mkUpd ?_ (by with_reducible rfl) (by with_reducible rfl) (by with_reducible rfl) (by with_reducible rfl)
  exact Keeps.refl _

theorem State.linkLoss_keeps {a0 : _} : Keeps a0 (@State.linkLoss a0) := by
  unfold State.linkLoss
  refine Keeps.ite ?_ ?_
  · exact Keeps.refl _
  · dsimp only
    refine Keeps.trans ?_ State.showLeds_keeps
    refine Keeps.trans ?_ (Keeps.put (by decide))
    refine Keeps.trans ?_ State.raise_keeps
    refine Keeps.mkUpd ?_ (by with_reducible rfl) (by with_reducible rfl) (by with_reducible rfl) (by with_reducible rfl)
    exact Keeps.refl _

theorem State.heartbeatLoss_keeps {a0 : _} : Keeps a0 (@State.heartbeatLoss a0) := by
  unfold State.heartbeatLoss
  refine Keeps.ite ?_ ?_
  · exact Keeps.refl _
  · dsimp only
    refine Keeps.ite ?_ ?_
    · refine Keeps.trans ?_ State.raise_keeps
      refine Keeps.mkUpd ?_ (by with_reducible rfl) (by with_reducible rfl) (by with_reducible rfl) (by with_reducible rfl)
      exact Keeps.refl _
    · refine Keeps.ite ?_ ?_
      · refine Keeps.trans ?_ State.linkLoss_keeps
        refine Keeps.trans ?_ (Keeps.put (by decide))
        refine Keeps.trans ?_ State.partnerGone_keeps
        refine Keeps.trans ?_ State.runLeaves_keeps
        refine Keeps.trans ?_ State.endCrossovers_keeps
        refine Keeps.trans ?_ State.raise_keeps
        refine Keeps.mkUpd ?_ (by with_reducible rfl) (by with_reducible rfl) (by with_reducible rfl) (by with_reducible rfl)
        exact Keeps.refl _
      · refine Keeps.trans ?_ (Keeps.put (by decide))
        refine Keeps.trans ?_ State.partnerGone_keeps
        refine Keeps.trans ?_ State.runLeaves_keeps
        refine Keeps.trans ?_ State.endCrossovers_keeps
        refine Keeps.trans ?_ State.raise_keeps
        refine Keeps.mkUpd ?_ (by with_reducible rfl) (by with_reducible rfl) (by with_reducible rfl) (by with_reducible rfl)
        exact Keeps.refl _

theorem execHeartbeatLost_keeps {a0 : _} {a1 : _} {t : State} (h : (@execHeartbeatLost a0 a1) = .next t) : Keeps a1 t := by
  unfold execHeartbeatLost at h
  injection h with h
  subst h
  refine Keeps.ite ?_ ?_
  · refine Keeps.trans ?_ State.heartbeatLoss_keeps
    exact Keeps.refl _
  · exact Keeps.refl _

theorem State.activeHears_keeps {a0 : _} {a1 : _} : Keeps a0 (@State.activeHears a0 a1) := by
  unfold State.activeHears
  dsimp only
  refine Keeps.trans ?_ State.wrapKey_keeps
  refine Keeps.mkUpd ?_ (by with_reducible rfl) (by with_reducible rfl) (by with_reducible rfl) (by with_reducible rfl)
  refine Keeps.ite ?_ ?_
  · refine Keeps.trans ?_ State.endCrossovers_keeps
    refine Keeps.ite ?_ ?_
    · refine Keeps.trans ?_ State.runLeaves_keeps
      refine Keeps.trans ?_ (Keeps.putFlag (by decide))
      refine Keeps.trans ?_ (Keeps.put (by decide))
      exact Keeps.refl _
    · refine Keeps.trans ?_ (Keeps.putFlag (by decide))
      refine Keeps.trans ?_ (Keeps.put (by decide))
      exact Keeps.refl _
  · refine Keeps.ite ?_ ?_
    · refine Keeps.trans ?_ State.runLeaves_keeps
      refine Keeps.trans ?_ (Keeps.putFlag (by decide))
      refine Keeps.trans ?_ (Keeps.put (by decide))
      exact Keeps.refl _
    · refine Keeps.trans ?_ (Keeps.putFlag (by decide))
      refine Keeps.trans ?_ (Keeps.put (by decide))
      exact Keeps.refl _

theorem State.takeActive_keeps {a0 : _} {a1 : _} : Keeps a0 (@State.takeActive a0 a1) := by
  unfold State.takeActive
  dsimp only
  refine Keeps.mkUpd ?_ (by with_reducible rfl) (by with_reducible rfl) (by with_reducible rfl) (by with_reducible rfl)
  refine Keeps.trans ?_ State.takeServo_keeps
  exact Keeps.refl _

theorem State.endsShadow_keeps {a0 : _} : Keeps a0 (@State.endsShadow a0) := by
  unfold State.endsShadow
  refine Keeps.mkUpd ?_ (by with_reducible rfl) (by with_reducible rfl) (by with_reducible rfl) (by with_reducible rfl)
  exact Keeps.refl _

theorem State.followerHears_keeps {a0 : _} {a1 : _} {a2 : _} {a3 : _} : Keeps a0 (@State.followerHears a0 a1 a2 a3) := by
  unfold State.followerHears
  refine Keeps.ite ?_ ?_
  · refine Keeps.trans ?_ State.heartbeatLoss_keeps
    exact Keeps.refl _
  · refine Keeps.ite ?_ ?_
    · exact Keeps.refl _
    · dsimp only
      refine Keeps.ite ?_ ?_
      · refine Keeps.ite ?_ ?_
        · refine Keeps.trans ?_ State.endsShadow_keeps
          refine Keeps.trans ?_ State.takeActive_keeps
          exact Keeps.refl _
        · refine Keeps.trans ?_ State.takeActive_keeps
          exact Keeps.refl _
      · refine Keeps.ite ?_ ?_
        · refine Keeps.trans ?_ State.dropSync_keeps
          refine Keeps.trans ?_ State.takeActive_keeps
          exact Keeps.refl _
        · refine Keeps.trans ?_ State.takeActive_keeps
          exact Keeps.refl _

theorem State.followStep_keeps {a0 : _} {a1 : _} : Keeps a0 (@State.followStep a0 a1) := by
  unfold State.followStep
  dsimp only
  refine Keeps.ite ?_ ?_
  · exact Keeps.refl _
  · refine Keeps.trans ?_ State.raise_keeps
    refine Keeps.trans ?_ State.pinsStep_keeps
    refine Keeps.trans ?_ (Keeps.put (by decide))
    exact Keeps.refl _

theorem State.heartbeatReceive_keeps {a0 : _} {a1 : _} : Keeps a0 (@State.heartbeatReceive a0 a1) := by
  unfold State.heartbeatReceive
  refine Keeps.ite ?_ ?_
  · exact Keeps.refl _
  · dsimp only
    refine Keeps.ite ?_ ?_
    · refine Keeps.trans ?_ State.followerHears_keeps
      refine Keeps.trans ?_ State.partnerLossIn_keeps
      refine Keeps.trans ?_ State.putUnit_keeps
      refine Keeps.trans ?_ (Keeps.put (by decide))
      refine Keeps.mkUpd ?_ (by with_reducible rfl) (by with_reducible rfl) (by with_reducible rfl) (by with_reducible rfl)
      refine Keeps.trans ?_ State.followStep_keeps
      exact Keeps.refl _
    · refine Keeps.ite ?_ ?_
      · refine Keeps.mkUpd ?_ (by with_reducible rfl) (by with_reducible rfl) (by with_reducible rfl) (by with_reducible rfl)
        refine Keeps.trans ?_ State.activeHears_keeps
        refine Keeps.trans ?_ State.partnerLossIn_keeps
        refine Keeps.trans ?_ State.putUnit_keeps
        refine Keeps.trans ?_ (Keeps.put (by decide))
        refine Keeps.mkUpd ?_ (by with_reducible rfl) (by with_reducible rfl) (by with_reducible rfl) (by with_reducible rfl)
        refine Keeps.trans ?_ State.followStep_keeps
        exact Keeps.refl _
      · refine Keeps.trans ?_ State.partnerLossIn_keeps
        refine Keeps.trans ?_ State.putUnit_keeps
        refine Keeps.trans ?_ (Keeps.put (by decide))
        refine Keeps.mkUpd ?_ (by with_reducible rfl) (by with_reducible rfl) (by with_reducible rfl) (by with_reducible rfl)
        refine Keeps.trans ?_ State.followStep_keeps
        exact Keeps.refl _

theorem execHeartbeatReceive_keeps {a0 : _} {a1 : _} {t : State} (h : (@execHeartbeatReceive a0 a1) = .next t) : Keeps a1 t := by
  unfold execHeartbeatReceive at h
  injection h with h
  subst h
  refine Keeps.trans ?_ State.heartbeatReceive_keeps
  exact Keeps.refl _

theorem State.shadowCmd_keeps {a0 : _} {a1 : _} : Keeps a0 (@State.shadowCmd a0 a1) := by
  unfold State.shadowCmd
  dsimp only
  refine Keeps.mkUpd ?_ (by with_reducible rfl) (by with_reducible rfl) (by with_reducible rfl) (by with_reducible rfl)
  split
  · rename_i v0 v1
    refine Keeps.trans ?_ valueWriteApply_keeps
    exact Keeps.refl _
  · rename_i v2 v3
    refine Keeps.trans ?_ constWriteApply_keeps
    exact Keeps.refl _
  · rename_i v4 v5
    refine Keeps.trans ?_ forceSetApply_keeps
    exact Keeps.refl _
  · rename_i v6 v7
    refine Keeps.trans ?_ forceClearApply_keeps
    exact Keeps.refl _
  · rename_i v8 v9
    refine Keeps.trans ?_ loopModeSetApply_keeps
    exact Keeps.refl _
  · rename_i v10 v11
    refine Keeps.trans ?_ loopSpSetApply_keeps
    exact Keeps.refl _
  · rename_i v12 v13
    refine Keeps.trans ?_ loopCoeffSetApply_keeps
    exact Keeps.refl _
  · rename_i v14 v15 v16 v17 v18 v19 v20 v21
    exact Keeps.refl _

theorem State.takeAcks_keeps {a0 : _} {a1 : _} : Keeps a0 (@State.takeAcks a0 a1) := by
  unfold State.takeAcks
  refine Keeps.ite ?_ ?_
  · exact Keeps.refl _
  · dsimp only
    refine Keeps.trans ?_ (Keeps.put (by decide))
    refine Keeps.mkUpd ?_ (by with_reducible rfl) (by with_reducible rfl) (by with_reducible rfl) (by with_reducible rfl)
    exact Keeps.refl _

theorem State.shadowImage_keeps {a0 : _} {a1 : _} : Keeps a0 (@State.shadowImage a0 a1) := by
  unfold State.shadowImage
  dsimp only
  refine Keeps.mkUpd ?_ (by with_reducible rfl) (by with_reducible rfl) (by with_reducible rfl) (by with_reducible rfl)
  refine Keeps.trans ?_ State.takeAcks_keeps
  refine Keeps.foldl ?_ (fun v0 v1 => ?_)
  · exact Keeps.refl _
  · refine Keeps.trans ?_ State.shadowCmd_keeps
    exact Keeps.refl _

theorem State.frozenImage_keeps {a0 : _} {a1 : _} : Keeps a0 (@State.frozenImage a0 a1) := by
  unfold State.frozenImage
  refine Keeps.ite ?_ ?_
  · exact Keeps.refl _
  · dsimp only
    refine Keeps.ite ?_ ?_
    · refine Keeps.mkUpd ?_ (by with_reducible rfl) (by with_reducible rfl) (by with_reducible rfl) (by with_reducible rfl)
      exact Keeps.refl _
    · refine Keeps.trans ?_ State.shadowImage_keeps
      refine Keeps.mkUpd ?_ (by with_reducible rfl) (by with_reducible rfl) (by with_reducible rfl) (by with_reducible rfl)
      exact Keeps.refl _

theorem execFrozenImageReceive_keeps {a0 : _} {a1 : _} {t : State} (h : (@execFrozenImageReceive a0 a1) = .next t) : Keeps a1 t := by
  unfold execFrozenImageReceive at h
  injection h with h
  subst h
  refine Keeps.trans ?_ State.frozenImage_keeps
  exact Keeps.refl _

theorem execTrackingLineReceive_keeps {a0 : _} {a1 : _} {a2 : _} {t : State} (h : (@execTrackingLineReceive a0 a1 a2) = .next t) : Keeps a2 t := by
  unfold execTrackingLineReceive at h
  injection h with h
  subst h
  refine Keeps.ite ?_ ?_
  · refine Keeps.mkUpd ?_ (by with_reducible rfl) (by with_reducible rfl) (by with_reducible rfl) (by with_reducible rfl)
    exact Keeps.refl _
  · exact Keeps.refl _

theorem execOutputCloseReceive_keeps {a0 : _} {a1 : _} {a2 : _} {t : State} (h : (@execOutputCloseReceive a0 a1 a2) = .next t) : Keeps a2 t := by
  unfold execOutputCloseReceive at h
  injection h with h
  subst h
  refine Keeps.ite ?_ ?_
  · refine Keeps.mkUpd ?_ (by with_reducible rfl) (by with_reducible rfl) (by with_reducible rfl) (by with_reducible rfl)
    exact Keeps.refl _
  · exact Keeps.refl _

/-- No field that may be written has one of the keys of mode, role, claim and drive enable. -/
theorem objMap_quiet : objMap.flatten.all (fun f => f.acc == .ro || f.quiet) = true := by decide +kernel

theorem quiet_of_mem {f : Fld} (h : f ∈ objMap.flatten) (ha : f.acc ≠ .ro) : f.quiet = true := by
  have := List.all_eq_true.1 objMap_quiet f h
  simpa [ha] using this

theorem sharedField?_quiet {k : Nat} {f : Fld} (h : sharedField? k = some f) : k ∉ statusKeys := by
  have hp := List.find?_some h
  simp only [Bool.and_eq_true, beq_iff_eq, decide_eq_true_eq] at hp
  obtain ⟨⟨⟨⟨ha, hl⟩, hm⟩, hi⟩, -⟩ := hp
  have hq : f.quiet = true := quiet_of_mem (List.mem_of_find?_eq_some h) (by rw [ha]; decide)
  have := f.quiet_keys hq ((k - f.home) / 4194304)
  have e : fldKey f ((k - f.home) / 4194304) = k := by simp only [fldKey, Nat.mod_eq_of_lt hi]; omega
  rwa [e] at this

theorem statusFields_quiet : statusFields.all (fun f => f.quiet) = true := by decide +kernel

theorem isStatus_quiet {k : Nat} (hk : k ∈ statusKeys) : isStatus k = false := by
  have : statusKeys.all (fun k => !isStatus k) = true := by decide +kernel
  simpa using List.all_eq_true.1 this k hk

theorem State.takeStatuses_keeps {s : State} {l : List (Nat × Nat)} : Keeps s (s.takeStatuses l) := by
  unfold State.takeStatuses
  refine Keeps.regSteps (t := { s with regs := s.regs.filter (fun r => !isStatus r.1) })
    (Keeps.regDrop (Keeps.refl s) (fun k hk => isStatus_quiet hk)) (fun r a => ?_)
  unfold takeStatus
  split
  · rename_i f hf
    refine .inr ⟨_, _, ?_, rfl⟩
    have hq := List.all_eq_true.1 statusFields_quiet f (List.mem_of_find?_eq_some hf)
    have hp := List.find?_some hf
    simp only [Bool.and_eq_true, beq_iff_eq, decide_eq_true_eq] at hp
    obtain ⟨⟨hl, hm⟩, hi⟩ := hp
    have e : fldKey f ((a.1 - f.home) / 4194304) = a.1 := by simp only [fldKey, Nat.mod_eq_of_lt hi]; omega
    exact e ▸ f.quiet_keys hq _
  · exact .inl rfl


theorem State.takeRecord_keeps {a0 : _} {a1 : _} : Keeps a0 (@State.takeRecord a0 a1) := by
  unfold State.takeRecord
  refine Keeps.trans ?_ State.journalNew_keeps
  exact Keeps.refl _

theorem State.takeEpochs_keeps {a0 : _} {a1 : _} : Keeps a0 (@State.takeEpochs a0 a1) := by
  unfold State.takeEpochs
  refine Keeps.foldl ?_ (fun v0 v1 => ?_)
  · exact Keeps.refl _
  · refine Keeps.ite ?_ ?_
    · refine Keeps.mkUpd ?_ (by with_reducible rfl) (by with_reducible rfl) (by with_reducible rfl) (by with_reducible rfl)
      exact Keeps.refl _
    · refine Keeps.ite ?_ ?_
      · exact Keeps.refl _
      · refine Keeps.trans ?_ State.putUnit_keeps
        exact Keeps.refl _

theorem State.applyTracked_keeps {s : State} {t : Tracked} : Keeps s (s.applyTracked t) := by
  unfold State.applyTracked
  dsimp only
  refine Keeps.trans ?_ State.showRuntime_keeps
  refine Keeps.trans ?_ State.takeEpochs_keeps
  refine Keeps.trans ?_ (Keeps.put (by decide))
  refine Keeps.trans ?_ (Keeps.putFlag (by decide))
  refine Keeps.trans ?_ (Keeps.put (by decide))
  refine Keeps.foldl ?_ (fun u r => State.takeRecord_keeps)
  refine Keeps.trans ?_ State.takeStatuses_keeps
  refine Keeps.upd (t := { s with regs := t.config.foldl takeConfig s.regs }) (Keeps.regSteps (Keeps.refl s) ?_) rfl rfl rfl rfl rfl
  intro r a
  unfold takeConfig
  split
  · rename_i f hf
    exact .inr ⟨_, _, sharedField?_quiet hf, rfl⟩
  · exact .inl rfl

theorem State.followMode_keeps {a0 : _} {a1 : _} : Keeps a0 (@State.followMode a0 a1) := by
  unfold State.followMode
  refine Keeps.ite ?_ ?_
  · exact Keeps.refl _
  · refine Keeps.trans ?_ State.setMode_keeps
    exact Keeps.refl _

theorem State.standbySnapshot_keeps {a0 : _} {a1 : _} : Keeps a0 (@State.standbySnapshot a0 a1) := by
  unfold State.standbySnapshot
  refine Keeps.ite ?_ ?_
  · refine Keeps.trans ?_ State.takeSnapshot_keeps
    exact Keeps.refl _
  · exact Keeps.refl _

theorem memWf_lines {l : List (Nat × Nat)} {m : List Host.Cell} (h : memWf m = true) :
    memWf (l.foldl (fun m (r : Nat × Nat) => memWrite m r.1 r.2 64) m) = true := by
  induction l generalizing m with
  | nil => exact h
  | cons a l ih =>
    rw [List.foldl_cons]
    exact ih (memWf_memWrite h a.1 a.2 64)

theorem State.closeAccepted_keeps {s : State} {n c : Nat} {t : Tracked} : Keeps s (s.closeAccepted n c t) := by
  unfold State.closeAccepted
  dsimp only
  have h : Keeps s (State.put { s with
      mem := s.pair.rx.foldl (fun m (r : Nat × Nat) => memWrite m r.1 r.2 64) s.mem
      pair := { s.pair with
        rx := []
        images := s.pair.images.filter (fun i => decide (n < i.beat) || (i.beat == n && i.crc == c)) } } F.lastClosed n) := by
    refine Keeps.trans ?_ (Keeps.put (by decide))
    refine Keeps.memUpd (Keeps.refl s) rfl (fun w => ?_) (List.Subset.refl _) (List.Subset.refl _) rfl
    simp only [State.mems, List.all_cons, List.all_nil, Bool.and_true, Bool.and_eq_true] at w ⊢
    exact ⟨memWf_lines w.1, w.2⟩
  refine Keeps.ite ?_ h
  exact ((h.trans State.applyTracked_keeps).trans State.followMode_keeps).trans State.standbySnapshot_keeps

theorem State.closeReceive_keeps {a0 : _} {a1 : _} {a2 : _} {a3 : _} {a4 : _} {a5 : _} {a6 : _} : Keeps a0 (@State.closeReceive a0 a1 a2 a3 a4 a5 a6) := by
  unfold State.closeReceive
  refine Keeps.ite ?_ ?_
  · exact Keeps.refl _
  · dsimp only
    refine Keeps.ite ?_ ?_
    · refine Keeps.ite ?_ ?_
      · refine Keeps.trans ?_ State.closeAccepted_keeps
        exact Keeps.refl _
      · refine Keeps.trans ?_ State.dropSync_keeps
        refine Keeps.trans ?_ State.closeAccepted_keeps
        exact Keeps.refl _
    · refine Keeps.trans ?_ State.dropSync_keeps
      exact Keeps.refl _

theorem execTrackingCloseReceive_keeps {a0 : _} {a1 : _} {a2 : _} {a3 : _} {a4 : _} {a5 : _} {a6 : _} {t : State} (h : (@execTrackingCloseReceive a0 a1 a2 a3 a4 a5 a6) = .next t) : Keeps a6 t := by
  unfold execTrackingCloseReceive at h
  injection h with h
  subst h
  refine Keeps.trans ?_ State.closeReceive_keeps
  exact Keeps.refl _

theorem State.takeSlots_keeps {a0 : _} {a1 : _} {a2 : _} : Keeps a0 (@State.takeSlots a0 a1 a2) := by
  unfold State.takeSlots
  refine Keeps.trans ?_ (Keeps.put (by decide))
  refine Keeps.trans ?_ (Keeps.put (by decide))
  refine Keeps.mkUpd ?_ (by with_reducible rfl) (by with_reducible rfl) (by with_reducible rfl) (by with_reducible rfl)
  exact Keeps.refl _

theorem State.syncComplete_keeps {a0 : _} {a1 : _} {a2 : _} : Keeps a0 (@State.syncComplete a0 a1 a2) := by
  unfold State.syncComplete
  refine Keeps.ite ?_ ?_
  · exact Keeps.refl _
  · dsimp only
    refine Keeps.trans ?_ State.showLeds_keeps
    refine Keeps.trans ?_ State.judgeReady_keeps
    refine Keeps.trans ?_ State.encSync_keeps
    refine Keeps.mkUpd ?_ (by with_reducible rfl) (by with_reducible rfl) (by with_reducible rfl) (by with_reducible rfl)
    refine Keeps.trans ?_ State.followMode_keeps
    refine Keeps.trans ?_ (Keeps.put (by decide))
    refine Keeps.trans ?_ State.takeSlots_keeps
    refine Keeps.trans ?_ State.applyTracked_keeps
    refine Keeps.mkUpd ?_ (by with_reducible rfl) (by with_reducible rfl) (by with_reducible rfl) (by with_reducible rfl)
    split
    · rename_i v0 v1
      refine Keeps.trans ?_ State.loadProgram_keeps
      exact Keeps.refl _
    · rename_i v2
      exact Keeps.refl _

theorem execSyncComplete_keeps {a0 : _} {a1 : _} {a2 : _} {t : State} (h : (@execSyncComplete a0 a1 a2) = .next t) : Keeps a2 t := by
  unfold execSyncComplete at h
  injection h with h
  subst h
  refine Keeps.trans ?_ State.syncComplete_keeps
  exact Keeps.refl _

theorem State.startCompute_keeps {a0 : _} {a1 : _} : Keeps a0 (@State.startCompute a0 a1) := by
  unfold State.startCompute
  dsimp only
  refine Keeps.trans ?_ State.releaseAll_keeps
  refine Keeps.trans ?_ State.loopIntake_keeps
  refine Keeps.mkUpd ?_ (by with_reducible rfl) (by with_reducible rfl) (by with_reducible rfl) (by with_reducible rfl)
  refine Keeps.ite ?_ ?_
  · refine Keeps.mkUpd ?_ (by with_reducible rfl) (by with_reducible rfl) (by with_reducible rfl) (by with_reducible rfl)
    exact Keeps.refl _
  · refine Keeps.trans ?_ State.raise_keeps
    refine Keeps.trans ?_ (Keeps.put (by decide))
    refine Keeps.mkUpd ?_ (by with_reducible rfl) (by with_reducible rfl) (by with_reducible rfl) (by with_reducible rfl)
    exact Keeps.refl _

theorem State.takeCommands_keeps {a0 : _} {a1 : _} : Keeps a0 (@State.takeCommands a0 a1) := by
  unfold State.takeCommands
  dsimp only
  refine Keeps.trans ?_ State.countSessions_keeps
  refine Keeps.mkUpd ?_ (by with_reducible rfl) (by with_reducible rfl) (by with_reducible rfl) (by with_reducible rfl)
  exact Keeps.refl _

theorem State.serveNow_keeps {a0 : _} {a1 : _} : Keeps a0 (@State.serveNow a0 a1) := by
  unfold State.serveNow
  refine Keeps.trans ?_ State.showLeds_keeps
  refine Keeps.trans ?_ State.canShow_keeps
  refine Keeps.trans ?_ State.timeTakesOver_keeps
  refine Keeps.trans ?_ State.lanesTakeService_keeps
  refine Keeps.trans ?_ State.fieldTakeover_keeps
  exact Keeps.refl _

theorem State.noteTakeover_keeps {a0 : _} {a1 : _} {a2 : _} {a3 : _} {a4 : _} {a5 : _} : Keeps a0 (@State.noteTakeover a0 a1 a2 a3 a4 a5) := by
  unfold State.noteTakeover
  dsimp only
  refine Keeps.trans ?_ State.raise_keeps
  refine Keeps.trans ?_ (Keeps.put (by decide))
  refine Keeps.trans ?_ (Keeps.put (by decide))
  refine Keeps.trans ?_ (Keeps.inc (by decide))
  exact Keeps.refl _

theorem State.partnerFailed_keeps {a0 : _} : Keeps a0 (@State.partnerFailed a0) := by
  unfold State.partnerFailed
  refine Keeps.trans ?_ (Keeps.put (by decide))
  refine Keeps.trans ?_ State.bumpUnit_keeps
  dsimp only
  refine Keeps.mkUpd ?_ (by with_reducible rfl) (by with_reducible rfl) (by with_reducible rfl) (by with_reducible rfl)
  refine Keeps.trans ?_ State.partnerGone_keeps
  exact Keeps.refl _

theorem State.takeUnsynced_keeps {a0 : _} {a1 : _} : Keeps a0 (@State.takeUnsynced a0 a1) := by
  unfold State.takeUnsynced
  dsimp only
  refine Keeps.trans ?_ State.serveNow_keeps
  refine Keeps.trans ?_ State.noteTakeover_keeps
  refine Keeps.trans ?_ State.takeCommands_keeps
  refine Keeps.trans ?_ (Keeps.put (by decide))
  refine Keeps.trans ?_ State.setMode_keeps
  refine Keeps.mkUpd ?_ (by with_reducible rfl) (by with_reducible rfl) (by with_reducible rfl) (by with_reducible rfl)
  refine Keeps.trans ?_ State.dropCycles_keeps
  refine Keeps.trans ?_ State.partnerFailed_keeps
  exact Keeps.refl _

theorem State.takeNow_keeps {a0 : _} {a1 : _} {a2 : _} : Keeps a0 (@State.takeNow a0 a1 a2) := by
  unfold State.takeNow
  refine Keeps.ite ?_ ?_
  · refine Keeps.trans ?_ State.startCompute_keeps
    refine Keeps.mkUpd ?_ (by with_reducible rfl) (by with_reducible rfl) (by with_reducible rfl) (by with_reducible rfl)
    exact Keeps.refl _
  · exact Keeps.refl _

theorem State.takeRedo_keeps {a0 : _} {a1 : _} {a2 : _} : Keeps a0 (@State.takeRedo a0 a1 a2) := by
  unfold State.takeRedo
  dsimp only
  refine Keeps.ite ?_ ?_
  · refine Keeps.trans ?_ State.startCompute_keeps
    refine Keeps.mkUpd ?_ (by with_reducible rfl) (by with_reducible rfl) (by with_reducible rfl) (by with_reducible rfl)
    exact Keeps.refl _
  · refine Keeps.mkUpd ?_ (by with_reducible rfl) (by with_reducible rfl) (by with_reducible rfl) (by with_reducible rfl)
    exact Keeps.refl _

theorem State.backTo_keeps {a0 : _} {a1 : _} : Keeps a0 (@State.backTo a0 a1) := by
  unfold State.backTo
  split
  · rename_i v0 v1
    exact Keeps.refl _
  · rename_i v2 v3 v4
    refine Keeps.ite ?_ ?_
    · exact Keeps.refl _
    · dsimp only
      split
      · rename_i v5 v6 v7
        refine Keeps.foldl ?_ (fun v8 v9 => ?_)
        · refine Keeps.trans ?_ State.takeStatuses_keeps
          refine Keeps.mkUpd ?_ (by with_reducible rfl) (by with_reducible rfl) (by with_reducible rfl) (by with_reducible rfl)
          exact Keeps.refl _
        · refine Keeps.trans ?_ State.shadowCmd_keeps
          exact Keeps.refl _
      · rename_i v10 v11
        refine Keeps.trans ?_ State.takeStatuses_keeps
        refine Keeps.mkUpd ?_ (by with_reducible rfl) (by with_reducible rfl) (by with_reducible rfl) (by with_reducible rfl)
        exact Keeps.refl _

theorem State.takeSynced_keeps {a0 : _} {a1 : _} {a2 : _} {a3 : _} {a4 : _} : Keeps a0 (@State.takeSynced a0 a1 a2 a3 a4) := by
  unfold State.takeSynced
  dsimp only
  refine Keeps.ite ?_ ?_
  · refine Keeps.trans ?_ State.takeNow_keeps
    refine Keeps.mkUpd ?_ (by with_reducible rfl) (by with_reducible rfl) (by with_reducible rfl) (by with_reducible rfl)
    refine Keeps.trans ?_ State.serveNow_keeps
    refine Keeps.trans ?_ State.noteTakeover_keeps
    refine Keeps.trans ?_ State.takeCommands_keeps
    refine Keeps.trans ?_ State.setMode_keeps
    refine Keeps.ite ?_ ?_
    · refine Keeps.trans ?_ State.journalProgram_keeps
      refine Keeps.mkUpd ?_ (by with_reducible rfl) (by with_reducible rfl) (by with_reducible rfl) (by with_reducible rfl)
      refine Keeps.trans ?_ (Keeps.put (by decide))
      refine Keeps.trans ?_ (Keeps.put (by decide))
      refine Keeps.trans ?_ State.partnerFailed_keeps
      refine Keeps.ite ?_ ?_
      · refine Keeps.trans ?_ State.backTo_keeps
        exact Keeps.refl _
      · exact Keeps.refl _
    · refine Keeps.mkUpd ?_ (by with_reducible rfl) (by with_reducible rfl) (by with_reducible rfl) (by with_reducible rfl)
      refine Keeps.trans ?_ State.partnerFailed_keeps
      refine Keeps.ite ?_ ?_
      · refine Keeps.trans ?_ State.backTo_keeps
        exact Keeps.refl _
      · exact Keeps.refl _
  · refine Keeps.trans ?_ State.takeRedo_keeps
    refine Keeps.mkUpd ?_ (by with_reducible rfl) (by with_reducible rfl) (by with_reducible rfl) (by with_reducible rfl)
    refine Keeps.trans ?_ State.serveNow_keeps
    refine Keeps.trans ?_ State.noteTakeover_keeps
    refine Keeps.trans ?_ State.takeCommands_keeps
    refine Keeps.trans ?_ State.setMode_keeps
    refine Keeps.ite ?_ ?_
    · refine Keeps.trans ?_ State.journalProgram_keeps
      refine Keeps.mkUpd ?_ (by with_reducible rfl) (by with_reducible rfl) (by with_reducible rfl) (by with_reducible rfl)
      refine Keeps.trans ?_ (Keeps.put (by decide))
      refine Keeps.trans ?_ (Keeps.put (by decide))
      refine Keeps.trans ?_ State.partnerFailed_keeps
      refine Keeps.ite ?_ ?_
      · refine Keeps.trans ?_ State.backTo_keeps
        exact Keeps.refl _
      · exact Keeps.refl _
    · refine Keeps.mkUpd ?_ (by with_reducible rfl) (by with_reducible rfl) (by with_reducible rfl) (by with_reducible rfl)
      refine Keeps.trans ?_ State.partnerFailed_keeps
      refine Keeps.ite ?_ ?_
      · refine Keeps.trans ?_ State.backTo_keeps
        exact Keeps.refl _
      · exact Keeps.refl _

theorem State.followerLinkLost_keeps {a0 : _} {a1 : _} : Keeps a0 (@State.followerLinkLost a0 a1) := by
  unfold State.followerLinkLost
  dsimp only
  refine Keeps.trans ?_ (Keeps.put (by decide))
  refine Keeps.trans ?_ (Keeps.put (by decide))
  refine Keeps.trans ?_ State.linkLoss_keeps
  refine Keeps.ite ?_ ?_
  · refine Keeps.trans ?_ State.stopShadow_keeps
    refine Keeps.mkUpd ?_ (by with_reducible rfl) (by with_reducible rfl) (by with_reducible rfl) (by with_reducible rfl)
    exact Keeps.refl _
  · refine Keeps.trans ?_ State.dropSync_keeps
    refine Keeps.mkUpd ?_ (by with_reducible rfl) (by with_reducible rfl) (by with_reducible rfl) (by with_reducible rfl)
    exact Keeps.refl _

theorem State.takeover_keeps {a0 : _} {a1 : _} {a2 : _} : Keeps a0 (@State.takeover a0 a1 a2) := by
  unfold State.takeover
  refine Keeps.ite ?_ ?_
  · exact Keeps.refl _
  · dsimp only
    refine Keeps.ite ?_ ?_
    · refine Keeps.ite ?_ ?_
      · refine Keeps.trans ?_ State.linkLoss_keeps
        refine Keeps.mkUpd ?_ (by with_reducible rfl) (by with_reducible rfl) (by with_reducible rfl) (by with_reducible rfl)
        exact Keeps.refl _
      · refine Keeps.mkUpd ?_ (by with_reducible rfl) (by with_reducible rfl) (by with_reducible rfl) (by with_reducible rfl)
        exact Keeps.refl _
    · refine Keeps.ite ?_ ?_
      · refine Keeps.mkUpd ?_ (by with_reducible rfl) (by with_reducible rfl) (by with_reducible rfl) (by with_reducible rfl)
        exact Keeps.refl _
      · refine Keeps.ite ?_ ?_
        · refine Keeps.trans ?_ State.followerLinkLost_keeps
          refine Keeps.mkUpd ?_ (by with_reducible rfl) (by with_reducible rfl) (by with_reducible rfl) (by with_reducible rfl)
          exact Keeps.refl _
        · refine Keeps.ite ?_ ?_
          · refine Keeps.trans ?_ State.takeSynced_keeps
            refine Keeps.mkUpd ?_ (by with_reducible rfl) (by with_reducible rfl) (by with_reducible rfl) (by with_reducible rfl)
            exact Keeps.refl _
          · split
            · rename_i v0 v1 v2
              refine Keeps.ite ?_ ?_
              · refine Keeps.trans ?_ State.takeSynced_keeps
                refine Keeps.mkUpd ?_ (by with_reducible rfl) (by with_reducible rfl) (by with_reducible rfl) (by with_reducible rfl)
                exact Keeps.refl _
              · refine Keeps.trans ?_ State.takeUnsynced_keeps
                refine Keeps.ite ?_ ?_
                · refine Keeps.trans ?_ State.stopShadow_keeps
                  refine Keeps.mkUpd ?_ (by with_reducible rfl) (by with_reducible rfl) (by with_reducible rfl) (by with_reducible rfl)
                  exact Keeps.refl _
                · refine Keeps.mkUpd ?_ (by with_reducible rfl) (by with_reducible rfl) (by with_reducible rfl) (by with_reducible rfl)
                  exact Keeps.refl _
            · rename_i v3 v4
              refine Keeps.trans ?_ State.takeUnsynced_keeps
              refine Keeps.ite ?_ ?_
              · refine Keeps.trans ?_ State.stopShadow_keeps
                refine Keeps.mkUpd ?_ (by with_reducible rfl) (by with_reducible rfl) (by with_reducible rfl) (by with_reducible rfl)
                exact Keeps.refl _
              · refine Keeps.mkUpd ?_ (by with_reducible rfl) (by with_reducible rfl) (by with_reducible rfl) (by with_reducible rfl)
                exact Keeps.refl _

theorem execTakeover_keeps {a0 : _} {a1 : _} {a2 : _} {t : State} (h : (@execTakeover a0 a1 a2) = .next t) : Keeps a2 t := by
  unfold execTakeover at h
  injection h with h
  subst h
  refine Keeps.trans ?_ State.takeover_keeps
  exact Keeps.refl _

theorem execClaimReleasedUnsynced_keeps {a0 : _} {t : State} (h : (@execClaimReleasedUnsynced a0) = .next t) : Keeps a0 t := by
  unfold execClaimReleasedUnsynced at h
  injection h with h
  subst h
  refine Keeps.ite ?_ ?_
  · refine Keeps.trans ?_ State.takeUnsynced_keeps
    refine Keeps.mkUpd ?_ (by with_reducible rfl) (by with_reducible rfl) (by with_reducible rfl) (by with_reducible rfl)
    exact Keeps.refl _
  · exact Keeps.refl _

theorem execClaimProbe_keeps {a0 : _} {a1 : _} {t : State} (h : (@execClaimProbe a0 a1) = .next t) : Keeps a1 t := by
  unfold execClaimProbe at h
  injection h with h
  subst h
  refine Keeps.ite ?_ ?_
  · exact Keeps.refl _
  · dsimp only
    refine Keeps.ite ?_ ?_
    · refine Keeps.mkUpd ?_ (by with_reducible rfl) (by with_reducible rfl) (by with_reducible rfl) (by with_reducible rfl)
      exact Keeps.refl _
    · refine Keeps.trans ?_ State.showLeds_keeps
      refine Keeps.trans ?_ State.canShow_keeps
      refine Keeps.trans ?_ State.raise_keeps
      refine Keeps.trans ?_ State.setMode_keeps
      refine Keeps.mkUpd ?_ (by with_reducible rfl) (by with_reducible rfl) (by with_reducible rfl) (by with_reducible rfl)
      refine Keeps.trans ?_ State.canDropAll_keeps
      refine Keeps.trans ?_ State.dropCycles_keeps
      refine Keeps.mkUpd ?_ (by with_reducible rfl) (by with_reducible rfl) (by with_reducible rfl) (by with_reducible rfl)
      exact Keeps.refl _

theorem State.planRuns_keeps {a0 : _} {a1 : _} : Keeps a0 (@State.planRuns a0 a1) := by
  unfold State.planRuns
  refine Keeps.ite ?_ ?_
  · dsimp only
    refine Keeps.trans ?_ State.raise_keeps
    refine Keeps.trans ?_ (Keeps.inc (by decide))
    refine Keeps.mkUpd ?_ (by with_reducible rfl) (by with_reducible rfl) (by with_reducible rfl) (by with_reducible rfl)
    exact Keeps.refl _
  · dsimp only
    refine Keeps.ite ?_ ?_
    · refine Keeps.mkUpd ?_ (by with_reducible rfl) (by with_reducible rfl) (by with_reducible rfl) (by with_reducible rfl)
      exact Keeps.refl _
    · refine Keeps.trans ?_ State.panelRefused_keeps
      refine Keeps.trans ?_ (Keeps.put (by decide))
      refine Keeps.mkUpd ?_ (by with_reducible rfl) (by with_reducible rfl) (by with_reducible rfl) (by with_reducible rfl)
      exact Keeps.refl _

theorem execPlannedSwitchover_keeps {a0 : _} {t : State} (h : (@execPlannedSwitchover a0) = .next t) : Keeps a0 t := by
  unfold execPlannedSwitchover at h
  injection h with h
  subst h
  refine Keeps.ite ?_ ?_
  · exact Keeps.refl _
  · split
    · rename_i v0 v1 v2
      refine Keeps.ite ?_ ?_
      · refine Keeps.trans ?_ State.planRuns_keeps
        exact Keeps.refl _
      · exact Keeps.refl _
    · rename_i v3 v4
      refine Keeps.ite ?_ ?_
      · dsimp only
        refine Keeps.mkUpd ?_ (by with_reducible rfl) (by with_reducible rfl) (by with_reducible rfl) (by with_reducible rfl)
        refine Keeps.trans ?_ (Keeps.inc (by decide))
        exact Keeps.refl _
      · exact Keeps.refl _

theorem State.mapInto_keeps {a0 : _} {a1 : _} : Keeps a0 (@State.mapInto a0 a1) := by
  unfold State.mapInto
  dsimp only
  refine Keeps.trans ?_ State.journalLoad_keeps
  refine Keeps.trans ?_ State.loadProgram_keeps
  refine Keeps.mkUpd ?_ (by with_reducible rfl) (by with_reducible rfl) (by with_reducible rfl) (by with_reducible rfl)
  refine Keeps.trans ?_ State.purgeCoeffs_keeps
  refine Keeps.trans ?_ State.clearForces_keeps
  refine Keeps.trans ?_ State.dropCycles_keeps
  exact Keeps.refl _

theorem State.notePromoted_keeps {a0 : _} : Keeps a0 (@State.notePromoted a0) := by
  unfold State.notePromoted
  refine Keeps.trans ?_ State.journalProgram_keeps
  refine Keeps.trans ?_ State.raise_keeps
  refine Keeps.trans ?_ (Keeps.put (by decide))
  refine Keeps.trans ?_ (Keeps.put (by decide))
  exact Keeps.refl _

theorem State.noteReverted_keeps {a0 : _} : Keeps a0 (@State.noteReverted a0) := by
  unfold State.noteReverted
  refine Keeps.trans ?_ State.journalProgram_keeps
  refine Keeps.trans ?_ State.raise_keeps
  dsimp only
  refine Keeps.mkUpd ?_ (by with_reducible rfl) (by with_reducible rfl) (by with_reducible rfl) (by with_reducible rfl)
  refine Keeps.trans ?_ (Keeps.put (by decide))
  exact Keeps.refl _

theorem State.keepOld_keeps {a0 : _} : Keeps a0 (@State.keepOld a0) := by
  unfold State.keepOld
  refine Keeps.mkUpd ?_ (by with_reducible rfl) (by with_reducible rfl) (by with_reducible rfl) (by with_reducible rfl)
  exact Keeps.refl _

theorem State.handsChange_keeps {a0 : _} {a1 : _} : Keeps a0 (@State.handsChange a0 a1) := by
  unfold State.handsChange
  refine Keeps.ite ?_ ?_
  · refine Keeps.trans ?_ State.keepOld_keeps
    refine Keeps.trans ?_ State.notePromoted_keeps
    exact Keeps.refl _
  · refine Keeps.ite ?_ ?_
    · refine Keeps.trans ?_ State.noteReverted_keeps
      exact Keeps.refl _
    · exact Keeps.refl _

theorem State.becomesStandby_keeps {a0 : _} {a1 : _} : Keeps a0 (@State.becomesStandby a0 a1) := by
  unfold State.becomesStandby
  dsimp only
  refine Keeps.mkUpd ?_ (by with_reducible rfl) (by with_reducible rfl) (by with_reducible rfl) (by with_reducible rfl)
  refine Keeps.foldl ?_ (fun v0 v1 => ?_)
  · refine Keeps.trans ?_ State.canShow_keeps
    refine Keeps.trans ?_ State.fieldOff_keeps
    refine Keeps.trans ?_ State.endCrossovers_keeps
    refine Keeps.trans ?_ State.bumpUnit_keeps
    refine Keeps.trans ?_ State.setMode_keeps
    refine Keeps.trans ?_ (Keeps.putFlag (by decide))
    refine Keeps.trans ?_ (Keeps.put (by decide))
    exact Keeps.refl _
  · refine Keeps.trans ?_ State.lateEpoch_keeps
    exact Keeps.refl _

theorem State.afterHandover_keeps {a0 : _} {a1 : _} : Keeps a0 (@State.afterHandover a0 a1) := by
  unfold State.afterHandover
  refine Keeps.ite ?_ ?_
  · refine Keeps.ite ?_ ?_
    · refine Keeps.trans ?_ State.quiesce_keeps
      exact Keeps.refl _
    · refine Keeps.trans ?_ State.showLeds_keeps
      refine Keeps.trans ?_ State.canShow_keeps
      refine Keeps.trans ?_ State.setMode_keeps
      refine Keeps.trans ?_ State.dropCycles_keeps
      exact Keeps.refl _
  · refine Keeps.ite ?_ ?_
    · refine Keeps.mkUpd ?_ (by with_reducible rfl) (by with_reducible rfl) (by with_reducible rfl) (by with_reducible rfl)
      exact Keeps.refl _
    · refine Keeps.trans ?_ State.showLeds_keeps
      exact Keeps.refl _

theorem State.handsOver_keeps {a0 : _} {a1 : _} : Keeps a0 (@State.handsOver a0 a1) := by
  unfold State.handsOver
  dsimp only
  refine Keeps.trans ?_ State.afterHandover_keeps
  refine Keeps.trans ?_ State.becomesStandby_keeps
  refine Keeps.trans ?_ State.handsChange_keeps
  refine Keeps.trans ?_ (Keeps.put (by decide))
  refine Keeps.foldl ?_ (fun v0 v1 => ?_)
  · refine Keeps.mkUpd ?_ (by with_reducible rfl) (by with_reducible rfl) (by with_reducible rfl) (by with_reducible rfl)
    exact Keeps.refl _
  · refine Keeps.ite ?_ ?_
    · refine Keeps.trans ?_ State.holdSession_keeps
      exact Keeps.refl _
    · exact Keeps.refl _

theorem State.takesChange_keeps {a0 : _} : Keeps a0 (@State.takesChange a0) := by
  unfold State.takesChange
  dsimp only
  refine Keeps.trans ?_ (Keeps.put (by decide))
  refine Keeps.mkUpd ?_ (by with_reducible rfl) (by with_reducible rfl) (by with_reducible rfl) (by with_reducible rfl)
  refine Keeps.trans ?_ State.notePromoted_keeps
  exact Keeps.refl _

theorem State.takesBack_keeps {a0 : _} {a1 : _} : Keeps a0 (@State.takesBack a0 a1) := by
  unfold State.takesBack
  split
  · rename_i v0 v1
    dsimp only
    refine Keeps.trans ?_ State.noteReverted_keeps
    refine Keeps.mkUpd ?_ (by with_reducible rfl) (by with_reducible rfl) (by with_reducible rfl) (by with_reducible rfl)
    refine Keeps.trans ?_ State.mapInto_keeps
    exact Keeps.refl _
  · rename_i v2
    exact Keeps.refl _

theorem State.takesOver_keeps {a0 : _} : Keeps a0 (@State.takesOver a0) := by
  unfold State.takesOver
  dsimp only
  refine Keeps.trans ?_ State.serveNow_keeps
  refine Keeps.trans ?_ State.takeCommands_keeps
  refine Keeps.trans ?_ State.bumpUnit_keeps
  refine Keeps.trans ?_ State.setMode_keeps
  refine Keeps.trans ?_ (Keeps.put (by decide))
  refine Keeps.ite ?_ ?_
  · refine Keeps.trans ?_ State.takesChange_keeps
    refine Keeps.trans ?_ (Keeps.put (by decide))
    refine Keeps.trans ?_ (Keeps.put (by decide))
    refine Keeps.mkUpd ?_ (by with_reducible rfl) (by with_reducible rfl) (by with_reducible rfl) (by with_reducible rfl)
    exact Keeps.refl _
  · refine Keeps.trans ?_ State.takesBack_keeps
    refine Keeps.mkUpd ?_ (by with_reducible rfl) (by with_reducible rfl) (by with_reducible rfl) (by with_reducible rfl)
    refine Keeps.trans ?_ (Keeps.put (by decide))
    refine Keeps.trans ?_ (Keeps.put (by decide))
    refine Keeps.mkUpd ?_ (by with_reducible rfl) (by with_reducible rfl) (by with_reducible rfl) (by with_reducible rfl)
    exact Keeps.refl _

theorem State.handoverEdge_keeps {a0 : _} : Keeps a0 (@State.handoverEdge a0) := by
  unfold State.handoverEdge
  refine Keeps.ite ?_ ?_
  · exact Keeps.refl _
  · refine Keeps.ite ?_ ?_
    · refine Keeps.trans ?_ State.handsOver_keeps
      exact Keeps.refl _
    · refine Keeps.ite ?_ ?_
      · refine Keeps.trans ?_ State.takesOver_keeps
        exact Keeps.refl _
      · refine Keeps.mkUpd ?_ (by with_reducible rfl) (by with_reducible rfl) (by with_reducible rfl) (by with_reducible rfl)
        exact Keeps.refl _

theorem execPairStatus_keeps {a0 : _} {a1 : _} {t : State} (h : (@execPairStatus a0 a1) = .next t) : Keeps a1 t := by
  unfold execPairStatus at h
  injection h with h
  subst h
  refine Keeps.trans ?_ (served_keeps ?_)
  · exact Keeps.refl _
  · intro v0 v1
    dsimp only
    exact Keeps.refl _

theorem switchoverApply_keeps {a0 : _} : Keeps a0 (@switchoverApply a0).st := by
  unfold switchoverApply
  split
  · rename_i v0 v1 v2 v3
    dsimp only
    exact Keeps.refl _
  · rename_i v4 v5
    dsimp only
    refine Keeps.trans ?_ State.planAt_keeps
    exact Keeps.refl _

theorem execSwitchover_keeps {a0 : _} {a1 : _} {t : State} (h : (@execSwitchover a0 a1) = .next t) : Keeps a1 t := by
  unfold execSwitchover at h
  injection h with h
  subst h
  refine Keeps.trans ?_ queued_keeps
  exact Keeps.refl _

theorem resyncApply_keeps {a0 : _} : Keeps a0 (@resyncApply a0).st := by
  unfold resyncApply
  split
  · rename_i v0 v1 v2 v3
    dsimp only
    exact Keeps.refl _
  · rename_i v4 v5
    dsimp only
    refine Keeps.trans ?_ (Keeps.put (by decide))
    refine Keeps.trans ?_ (Keeps.put (by decide))
    refine Keeps.mkUpd ?_ (by with_reducible rfl) (by with_reducible rfl) (by with_reducible rfl) (by with_reducible rfl)
    exact Keeps.refl _

theorem execResyncStandby_keeps {a0 : _} {a1 : _} {t : State} (h : (@execResyncStandby a0 a1) = .next t) : Keeps a1 t := by
  unfold execResyncStandby at h
  injection h with h
  subst h
  refine Keeps.trans ?_ queued_keeps
  exact Keeps.refl _

theorem execSupervisorLockstepMismatch_keeps {a0 : _} {t : State} (h : (@execSupervisorLockstepMismatch a0) = .next t) : Keeps a0 t := by
  unfold execSupervisorLockstepMismatch at h
  injection h with h
  subst h
  refine Keeps.ite ?_ ?_
  · exact Keeps.refl _
  · dsimp only
    refine Keeps.trans ?_ State.showLeds_keeps
    refine Keeps.trans ?_ State.canShow_keeps
    refine Keeps.trans ?_ State.fieldOff_keeps
    refine Keeps.trans ?_ State.setMode_keeps
    refine Keeps.trans ?_ State.abandonResync_keeps
    refine Keeps.mkUpd ?_ (by with_reducible rfl) (by with_reducible rfl) (by with_reducible rfl) (by with_reducible rfl)
    refine Keeps.trans ?_ State.canDropAll_keeps
    refine Keeps.trans ?_ State.dropCycles_keeps
    refine Keeps.trans ?_ State.latch_keeps
    exact Keeps.refl _

/-! Change. -/

theorem programStageBody_keeps {a0 : _} {a1 : _} {a2 : _} : Keeps a2 (@programStageBody a0 a1 a2).st := by
  unfold programStageBody
  dsimp only
  refine Keeps.mkUpd ?_ (by with_reducible rfl) (by with_reducible rfl) (by with_reducible rfl) (by with_reducible rfl)
  exact Keeps.refl _

theorem execProgramStage_keeps {a0 : _} {a1 : _} {t : State} (h : (@execProgramStage a0 a1) = .next t) : Keeps a1 t := by
  unfold execProgramStage at h
  injection h with h
  subst h
  refine Keeps.trans ?_ (served_keeps ?_)
  · exact Keeps.refl _
  · intro v0 v1
    refine Keeps.trans ?_ programStageBody_keeps
    exact Keeps.refl _

theorem State.stageProgram_keeps {a0 : _} {a1 : _} {a2 : _} : Keeps a0 (@State.stageProgram a0 a1 a2) := by
  unfold State.stageProgram
  refine Keeps.ite ?_ ?_
  · refine Keeps.mkUpd ?_ (by with_reducible rfl) (by with_reducible rfl) (by with_reducible rfl) (by with_reducible rfl)
    exact Keeps.refl _
  · refine Keeps.trans ?_ State.putRt_keeps
    exact Keeps.refl _

theorem programChunkBody_keeps {a0 : _} {a1 : _} {a2 : _} {a3 : _} : Keeps a3 (@programChunkBody a0 a1 a2 a3).st := by
  unfold programChunkBody
  split
  · rename_i v0 v1
    dsimp only
    exact Keeps.refl _
  · rename_i v2 v3 v4
    dsimp only
    refine Keeps.iteSt ?_ ?_
    · dsimp only
      refine Keeps.trans ?_ State.putTransfer_keeps
      exact Keeps.refl _
    · split
      · rename_i v5
        dsimp only
        refine Keeps.trans ?_ State.closeTransfer_keeps
        exact Keeps.refl _
      · rename_i v6 v7
        refine Keeps.iteSt ?_ ?_
        · dsimp only
          refine Keeps.trans ?_ State.stageProgram_keeps
          refine Keeps.trans ?_ State.closeTransfer_keeps
          exact Keeps.refl _
        · dsimp only
          refine Keeps.trans ?_ State.closeTransfer_keeps
          exact Keeps.refl _

theorem execProgramChunk_keeps {a0 : _} {a1 : _} {a2 : _} {t : State} (h : (@execProgramChunk a0 a1 a2) = .next t) : Keeps a2 t := by
  unfold execProgramChunk at h
  injection h with h
  subst h
  refine Keeps.trans ?_ (servedTracked_keeps ?_)
  · exact Keeps.refl _
  · intro v0 v1
    refine Keeps.trans ?_ programChunkBody_keeps
    exact Keeps.refl _

theorem shadowStartApply_keeps {a0 : _} : Keeps a0 (@shadowStartApply a0).st := by
  unfold shadowStartApply
  split
  · rename_i v0 v1 v2 v3
    dsimp only
    exact Keeps.refl _
  · rename_i v4 v5
    dsimp only
    refine Keeps.trans ?_ (Keeps.put (by decide))
    refine Keeps.mkUpd ?_ (by with_reducible rfl) (by with_reducible rfl) (by with_reducible rfl) (by with_reducible rfl)
    exact Keeps.refl _

theorem execShadowStart_keeps {a0 : _} {a1 : _} {t : State} (h : (@execShadowStart a0 a1) = .next t) : Keeps a1 t := by
  unfold execShadowStart at h
  injection h with h
  subst h
  refine Keeps.trans ?_ queued_keeps
  exact Keeps.refl _

theorem State.runBegins_keeps {a0 : _} : Keeps a0 (@State.runBegins a0) := by
  unfold State.runBegins
  dsimp only
  iterate 8 refine Keeps.trans ?_ (Keeps.put (by decide))
  refine Keeps.mkUpd ?_ (by with_reducible rfl) (by with_reducible rfl) (by with_reducible rfl) (by with_reducible rfl)
  exact Keeps.refl _

theorem State.shadowRunStart_keeps {a0 : _} : Keeps a0 (@State.shadowRunStart a0) := by
  unfold State.shadowRunStart
  refine Keeps.ite ?_ ?_
  · refine Keeps.ite ?_ ?_
    · exact Keeps.refl _
    · refine Keeps.ite ?_ ?_
      · refine Keeps.mkUpd ?_ (by with_reducible rfl) (by with_reducible rfl) (by with_reducible rfl) (by with_reducible rfl)
        exact Keeps.refl _
      · dsimp only
        refine Keeps.mkUpd ?_ (by with_reducible rfl) (by with_reducible rfl) (by with_reducible rfl) (by with_reducible rfl)
        refine Keeps.trans ?_ State.runBegins_keeps
        exact Keeps.refl _
  · split
    · rename_i v0 v1
      exact Keeps.refl _
    · rename_i v2 v3 v4
      refine Keeps.ite ?_ ?_
      · exact Keeps.refl _
      · dsimp only
        refine Keeps.trans ?_ State.showLeds_keeps
        refine Keeps.trans ?_ State.setMode_keeps
        refine Keeps.mkUpd ?_ (by with_reducible rfl) (by with_reducible rfl) (by with_reducible rfl) (by with_reducible rfl)
        refine Keeps.trans ?_ State.mapInto_keeps
        refine Keeps.trans ?_ State.runBegins_keeps
        exact Keeps.refl _

theorem execShadowRunStart_keeps {a0 : _} {a1 : _} {t : State} (h : (@execShadowRunStart a0 a1) = .next t) : Keeps a1 t := by
  unfold execShadowRunStart at h
  injection h with h
  subst h
  refine Keeps.ite ?_ ?_
  · refine Keeps.trans ?_ State.shadowRunStart_keeps
    exact Keeps.refl _
  · exact Keeps.refl _

theorem State.showCmp_keeps {a0 : _} : Keeps a0 (@State.showCmp a0) := by
  unfold State.showCmp
  dsimp only
  iterate 3 refine Keeps.trans ?_ (Keeps.put (by decide))
  exact Keeps.refl _

theorem State.noteDiff_keeps {a0 : _} {a1 : _} {a2 : _} {a3 : _} {a4 : _} : Keeps a0 (@State.noteDiff a0 a1 a2 a3 a4) := by
  unfold State.noteDiff
  split
  · rename_i v0 v1 v2 v3
    split
    · rename_i v4 v5 v6
      dsimp only
      refine Keeps.mkUpd ?_ (by with_reducible rfl) (by with_reducible rfl) (by with_reducible rfl) (by with_reducible rfl)
      refine Keeps.ofSnd v3 ?_
      split
      · rename_i v7 v8 v9
        dsimp only
        exact Keeps.refl _
      · rename_i v10 v11
        refine Keeps.trans ?_ State.fresh_keeps
        exact Keeps.refl _
    · rename_i v12 v13
      dsimp only
      refine Keeps.ite ?_ ?_
      · refine Keeps.mkUpd ?_ (by with_reducible rfl) (by with_reducible rfl) (by with_reducible rfl) (by with_reducible rfl)
        refine Keeps.ofSnd v3 ?_
        split
        · rename_i v14 v15 v16
          dsimp only
          exact Keeps.refl _
        · rename_i v17 v18
          refine Keeps.trans ?_ State.fresh_keeps
          exact Keeps.refl _
      · refine Keeps.trans ?_ State.raise_keeps
        refine Keeps.mkUpd ?_ (by with_reducible rfl) (by with_reducible rfl) (by with_reducible rfl) (by with_reducible rfl)
        refine Keeps.ofSnd v3 ?_
        split
        · rename_i v19 v20 v21
          dsimp only
          exact Keeps.refl _
        · rename_i v22 v23
          refine Keeps.trans ?_ State.fresh_keeps
          exact Keeps.refl _

theorem State.shadowCompare_keeps {a0 : _} {a1 : _} : Keeps a0 (@State.shadowCompare a0 a1) := by
  unfold State.shadowCompare
  dsimp only
  refine Keeps.ite ?_ ?_
  · exact Keeps.refl _
  · refine Keeps.ite ?_ ?_
    · exact Keeps.refl _
    · refine Keeps.trans ?_ State.showCmp_keeps
      refine Keeps.foldl ?_ (fun v0 v1 => ?_)
      · refine Keeps.trans ?_ (Keeps.peak (by decide))
        refine Keeps.trans ?_ (Keeps.inc (by decide))
        refine Keeps.trans ?_ (Keeps.put (by decide))
        exact Keeps.refl _
      · refine Keeps.trans ?_ State.noteDiff_keeps
        exact Keeps.refl _

theorem execShadowCompare_keeps {a0 : _} {a1 : _} {t : State} (h : (@execShadowCompare a0 a1) = .next t) : Keeps a1 t := by
  unfold execShadowCompare at h
  injection h with h
  subst h
  refine Keeps.trans ?_ State.shadowCompare_keeps
  exact Keeps.refl _

theorem shadowGetBody_keeps {a0 : _} {a1 : _} {a2 : _} : Keeps a2 (@shadowGetBody a0 a1 a2).st := by
  unfold shadowGetBody
  dsimp only
  refine Keeps.ite ?_ ?_
  · refine Keeps.mkUpd ?_ (by with_reducible rfl) (by with_reducible rfl) (by with_reducible rfl) (by with_reducible rfl)
    exact Keeps.refl _
  · refine Keeps.trans ?_ State.showCmp_keeps
    refine Keeps.mkUpd ?_ (by with_reducible rfl) (by with_reducible rfl) (by with_reducible rfl) (by with_reducible rfl)
    exact Keeps.refl _

theorem execShadowCompareGet_keeps {a0 : _} {a1 : _} {t : State} (h : (@execShadowCompareGet a0 a1) = .next t) : Keeps a1 t := by
  unfold execShadowCompareGet at h
  injection h with h
  subst h
  refine Keeps.trans ?_ (served_keeps ?_)
  · exact Keeps.refl _
  · intro v0 v1
    refine Keeps.trans ?_ shadowGetBody_keeps
    exact Keeps.refl _

theorem State.promoteCluster_keeps {a0 : _} {a1 : _} : Keeps a0 (@State.promoteCluster a0 a1) := by
  unfold State.promoteCluster
  split
  · rename_i v0 v1
    exact Keeps.refl _
  · rename_i v2 v3 v4
    dsimp only
    refine Keeps.trans ?_ State.showRuntime_keeps
    refine Keeps.mkUpd ?_ (by with_reducible rfl) (by with_reducible rfl) (by with_reducible rfl) (by with_reducible rfl)
    refine Keeps.trans ?_ State.coldCluster_keeps
    refine Keeps.trans ?_ State.loadProgram_keeps
    refine Keeps.mkUpd ?_ (by with_reducible rfl) (by with_reducible rfl) (by with_reducible rfl) (by with_reducible rfl)
    refine Keeps.trans ?_ State.dropCycles_keeps
    exact Keeps.refl _

theorem State.promoteOwn_keeps {a0 : _} {a1 : _} : Keeps a0 (@State.promoteOwn a0 a1) := by
  unfold State.promoteOwn
  split
  · rename_i v0 v1
    exact Keeps.refl _
  · rename_i v2 v3 v4
    dsimp only
    refine Keeps.trans ?_ (Keeps.put (by decide))
    refine Keeps.mkUpd ?_ (by with_reducible rfl) (by with_reducible rfl) (by with_reducible rfl) (by with_reducible rfl)
    refine Keeps.trans ?_ State.restartProgram_keeps
    refine Keeps.trans ?_ State.journalLoad_keeps
    refine Keeps.trans ?_ State.loadProgram_keeps
    refine Keeps.trans ?_ State.purgeCoeffs_keeps
    refine Keeps.mkUpd ?_ (by with_reducible rfl) (by with_reducible rfl) (by with_reducible rfl) (by with_reducible rfl)
    refine Keeps.trans ?_ State.dropCycles_keeps
    exact Keeps.refl _

theorem promoteApply_keeps {a0 : _} {a1 : _} {a2 : _} : Keeps a2 (@promoteApply a0 a1 a2).st := by
  unfold promoteApply
  split
  · rename_i v0 v1 v2 v3
    dsimp only
    exact Keeps.refl _
  · rename_i v4 v5
    dsimp only
    refine Keeps.iteSt ?_ ?_
    · dsimp only
      refine Keeps.trans ?_ State.showRuntime_keeps
      refine Keeps.trans ?_ State.raise_keeps
      refine Keeps.trans ?_ (State.onCluster_keeps ?_)
      · refine Keeps.trans ?_ (State.onCluster_keeps ?_)
        · refine Keeps.trans ?_ State.promoteOwn_keeps
          refine Keeps.trans ?_ State.auditBy_keeps
          exact Keeps.refl _
        · intro v6
          refine Keeps.trans ?_ State.promoteCluster_keeps
          exact Keeps.refl _
      · intro v7
        refine Keeps.trans ?_ State.promoteCluster_keeps
        exact Keeps.refl _
    · dsimp only
      refine Keeps.mkUpd ?_ (by with_reducible rfl) (by with_reducible rfl) (by with_reducible rfl) (by with_reducible rfl)
      refine Keeps.trans ?_ State.auditBy_keeps
      exact Keeps.refl _

theorem execPromote_keeps {a0 : _} {a1 : _} {t : State} (h : (@execPromote a0 a1) = .next t) : Keeps a1 t := by
  unfold execPromote at h
  injection h with h
  subst h
  refine Keeps.trans ?_ queued_keeps
  exact Keeps.refl _

theorem revertApply_keeps {a0 : _} {a1 : _} : Keeps a1 (@revertApply a0 a1).st := by
  unfold revertApply
  split
  · rename_i v0 v1 v2 v3
    dsimp only
    exact Keeps.refl _
  · rename_i v4 v5
    dsimp only
    refine Keeps.iteSt ?_ ?_
    · dsimp only
      refine Keeps.trans ?_ State.raise_keeps
      refine Keeps.trans ?_ (Keeps.put (by decide))
      refine Keeps.mkUpd ?_ (by with_reducible rfl) (by with_reducible rfl) (by with_reducible rfl) (by with_reducible rfl)
      refine Keeps.trans ?_ State.auditBy_keeps
      exact Keeps.refl _
    · dsimp only
      refine Keeps.mkUpd ?_ (by with_reducible rfl) (by with_reducible rfl) (by with_reducible rfl) (by with_reducible rfl)
      refine Keeps.trans ?_ State.auditBy_keeps
      exact Keeps.refl _

theorem execRevert_keeps {a0 : _} {a1 : _} {t : State} (h : (@execRevert a0 a1) = .next t) : Keeps a1 t := by
  unfold execRevert at h
  injection h with h
  subst h
  refine Keeps.trans ?_ queued_keeps
  exact Keeps.refl _

theorem State.revertHandover_keeps {a0 : _} : Keeps a0 (@State.revertHandover a0) := by
  unfold State.revertHandover
  refine Keeps.ite ?_ ?_
  · refine Keeps.ite ?_ ?_
    · exact Keeps.refl _
    · refine Keeps.ite ?_ ?_
      · refine Keeps.mkUpd ?_ (by with_reducible rfl) (by with_reducible rfl) (by with_reducible rfl) (by with_reducible rfl)
        exact Keeps.refl _
      · dsimp only
        refine Keeps.trans ?_ State.raise_keeps
        refine Keeps.mkUpd ?_ (by with_reducible rfl) (by with_reducible rfl) (by with_reducible rfl) (by with_reducible rfl)
        refine Keeps.trans ?_ (Keeps.inc (by decide))
        exact Keeps.refl _
  · refine Keeps.ite ?_ ?_
    · dsimp only
      refine Keeps.mkUpd ?_ (by with_reducible rfl) (by with_reducible rfl) (by with_reducible rfl) (by with_reducible rfl)
      refine Keeps.trans ?_ (Keeps.inc (by decide))
      exact Keeps.refl _
    · exact Keeps.refl _

theorem execRevertHandover_keeps {a0 : _} {t : State} (h : (@execRevertHandover a0) = .next t) : Keeps a0 t := by
  unfold execRevertHandover at h
  injection h with h
  subst h
  refine Keeps.trans ?_ State.revertHandover_keeps
  exact Keeps.refl _

theorem State.confirmChange_keeps {a0 : _} {a1 : _} : Keeps a0 (@State.confirmChange a0 a1) := by
  unfold State.confirmChange
  dsimp only
  refine Keeps.trans ?_ State.journalProgram_keeps
  refine Keeps.trans ?_ State.raise_keeps
  refine Keeps.trans ?_ (Keeps.put (by decide))
  refine Keeps.trans ?_ (Keeps.put (by decide))
  refine Keeps.mkUpd ?_ (by with_reducible rfl) (by with_reducible rfl) (by with_reducible rfl) (by with_reducible rfl)
  exact Keeps.refl _

theorem changeConfirmApply_keeps {a0 : _} {a1 : _} : Keeps a1 (@changeConfirmApply a0 a1).st := by
  unfold changeConfirmApply
  split
  · rename_i v0 v1 v2 v3
    dsimp only
    exact Keeps.refl _
  · rename_i v4 v5
    dsimp only
    refine Keeps.trans ?_ State.confirmChange_keeps
    refine Keeps.trans ?_ State.auditBy_keeps
    exact Keeps.refl _

theorem execChangeConfirm_keeps {a0 : _} {a1 : _} {t : State} (h : (@execChangeConfirm a0 a1) = .next t) : Keeps a1 t := by
  unfold execChangeConfirm at h
  injection h with h
  subst h
  refine Keeps.trans ?_ queued_keeps
  exact Keeps.refl _

theorem execConfirmWindowEnd_keeps {a0 : _} {t : State} (h : (@execConfirmWindowEnd a0) = .next t) : Keeps a0 t := by
  unfold execConfirmWindowEnd at h
  injection h with h
  subst h
  refine Keeps.ite ?_ ?_
  · refine Keeps.trans ?_ State.confirmChange_keeps
    exact Keeps.refl _
  · exact Keeps.refl _

theorem execKlStatus_keeps {a0 : _} {a1 : _} {t : State} (h : (@execKlStatus a0 a1) = .next t) : Keeps a1 t := by
  unfold execKlStatus at h
  injection h with h
  subst h
  refine Keeps.trans ?_ (served_keeps ?_)
  · exact Keeps.refl _
  · intro v0 v1
    dsimp only
    exact Keeps.refl _

end Sys2Proof.Machine
end

