-- ==== Sys2Proof/Laws/KeepsD.lean ====
section
/-! SUPPORT. What each function of Objects, Start, Beat, Freeze, Commit keeps: the invariant of the block and the queue. -/

set_option maxRecDepth 4000
namespace Sys2Proof.Machine

open Sys2Proof

/-! Objects. -/

theorem State.writeField_keeps {s : State} {e : WEntry} {f : Fld} {v : Nat} (h : f.quiet = true) :
    Keeps s (s.writeField e f v) := by
  unfold State.writeField
  dsimp only
  refine Keeps.ite (State.atEdge_keeps h) (Keeps.ite ?_ (Keeps.put h))
  exact Keeps.canPend (Keeps.refl s) (by simpa using f.quiet_keys h _)

theorem State.clearField_keeps {s : State} {f : Fld} {k : Nat} (h : f.quiet = true) : Keeps s (s.clearField f k) := by
  unfold State.clearField
  refine Keeps.ite State.dioClear_keeps (Keeps.ite State.canResume_keeps ?_)
  refine Keeps.ite ?_ (Keeps.put h)
  exact Keeps.trans (Keeps.put h) State.latch_keeps

theorem State.triggerField_keeps {a0 : _} {a1 : _} {a2 : _} {a3 : _} : Keeps a0 (@State.triggerField a0 a1 a2 a3) := by
  unfold State.triggerField
  refine Keeps.ite ?_ ?_
  · refine Keeps.trans ?_ State.encPreset_keeps
    exact Keeps.refl _
  · refine Keeps.ite ?_ ?_
    · refine Keeps.ite ?_ ?_
      · refine Keeps.trans ?_ State.canRecover_keeps
        exact Keeps.refl _
      · exact Keeps.refl _
    · refine Keeps.ite ?_ ?_
      · refine Keeps.ite ?_ ?_
        · refine Keeps.mkUpd ?_ (by with_reducible rfl) (by with_reducible rfl) (by with_reducible rfl) (by with_reducible rfl)
          exact Keeps.refl _
        · refine Keeps.ite ?_ ?_
          · refine Keeps.trans ?_ State.dbgResume_keeps
            exact Keeps.refl _
          · refine Keeps.ite ?_ ?_
            · refine Keeps.trans ?_ State.dbgStep_keeps
              exact Keeps.refl _
            · refine Keeps.trans ?_ State.endDebug_keeps
              exact Keeps.refl _
      · exact Keeps.refl _

theorem State.journalWrite_keeps {s t : State} {e : WEntry} : Keeps s (s.journalWrite t e) := by
  unfold State.journalWrite
  dsimp only
  exact Keeps.ite (Keeps.refl s) (Keeps.ite State.journal_keeps State.journal_keeps)

theorem State.laneModeWritten_keeps {a0 : _} {a1 : _} : Keeps a0 (@State.laneModeWritten a0 a1) := by
  unfold State.laneModeWritten
  dsimp only
  refine Keeps.ite ?_ ?_
  · exact Keeps.refl _
  · refine Keeps.mkUpd ?_ (by with_reducible rfl) (by with_reducible rfl) (by with_reducible rfl) (by with_reducible rfl)
    refine Keeps.trans ?_ State.putLane_keeps
    iterate 4 refine Keeps.trans ?_ (Keeps.put (by decide))
    exact Keeps.refl _

theorem State.written_keeps {a0 : _} {a1 : _} {a2 : _} : Keeps a0 (@State.written a0 a1 a2) := by
  unfold State.written
  dsimp only
  refine Keeps.ite ?_ ?_
  · refine Keeps.trans ?_ State.laneModeWritten_keeps
    exact Keeps.refl _
  · refine Keeps.ite ?_ ?_
    · refine Keeps.trans ?_ State.typeWritten_keeps
      exact Keeps.refl _
    · refine Keeps.ite ?_ ?_
      · refine Keeps.ite ?_ ?_
        · refine Keeps.trans ?_ (Keeps.put (by decide))
          exact Keeps.refl _
        · exact Keeps.refl _
      · refine Keeps.ite ?_ ?_
        · refine Keeps.trans ?_ State.dioWritten_keeps
          exact Keeps.refl _
        · refine Keeps.ite ?_ ?_
          · refine Keeps.trans ?_ State.faWritten_keeps
            exact Keeps.refl _
          · refine Keeps.ite ?_ ?_
            · refine Keeps.trans ?_ State.faWritten_keeps
              exact Keeps.refl _
            · refine Keeps.ite ?_ ?_
              · refine Keeps.trans ?_ State.showPorts_keeps
                exact Keeps.refl _
              · refine Keeps.ite ?_ ?_
                · refine Keeps.trans ?_ State.pinWritten_keeps
                  exact Keeps.refl _
                · refine Keeps.ite ?_ ?_
                  · refine Keeps.trans ?_ State.dbgWindowWrite_keeps
                    exact Keeps.refl _
                  · refine Keeps.ite ?_ ?_
                    · refine Keeps.trans ?_ (Keeps.put (by decide))
                      exact Keeps.refl _
                    · exact Keeps.refl _

theorem Keeps.foldlMem {α : Type} {s t : State} {f : State → α → State} {l : List α} (h : Keeps s t)
    (hf : ∀ u, ∀ a ∈ l, Keeps u (f u a)) : Keeps s (l.foldl f t) := by
  induction l generalizing t with
  | nil => exact h
  | cons a l ih => exact ih (h.trans (hf t a (by simp))) (fun u b hb => hf u b (by simp [hb]))

theorem subFields_mem {i j : Nat} {f : Fld} (h : f ∈ subFields i j) : f ∈ objMap.flatten := by
  simp only [subFields, List.mem_filter] at h
  have h := h.1
  unfold fieldsOf at h
  split at h
  · rename_i g hg
    exact List.mem_flatten.2 ⟨g, List.mem_of_find?_eq_some hg, h⟩
  · cases h

theorem State.applyEntry_keeps {s t : State} {e : WEntry} : Keeps s (s.applyEntry t e) := by
  unfold State.applyEntry
  dsimp only
  refine Keeps.trans ?_ State.written_keeps
  refine Keeps.trans ?_ State.journalWrite_keeps
  refine Keeps.foldlMem (Keeps.refl s) (fun u f hf => ?_)
  refine Keeps.ite (Keeps.refl u) ?_
  split
  · rename_i ha
    exact Keeps.ite (Keeps.refl u) (State.writeField_keeps (quiet_of_mem (subFields_mem hf) (by rw [ha]; decide)))
  · rename_i ha
    exact Keeps.ite (State.clearField_keeps (quiet_of_mem (subFields_mem hf) (by rw [ha]; decide))) (Keeps.refl u)
  · exact State.triggerField_keeps
  · exact Keeps.refl u

theorem State.applyWrites_keeps {a0 : _} {a1 : _} : Keeps a0 (@State.applyWrites a0 a1) := by
  unfold State.applyWrites
  dsimp only
  refine Keeps.trans ?_ State.judgeReady_keeps
  refine Keeps.trans ?_ State.showApplicable_keeps
  refine Keeps.foldl ?_ (fun v0 v1 => ?_)
  · refine Keeps.foldl ?_ (fun v2 v3 => ?_)
    · exact Keeps.refl _
    · refine Keeps.trans ?_ State.journal_keeps
      refine Keeps.trans ?_ (Keeps.put (by decide))
      exact Keeps.refl _
  · refine Keeps.trans ?_ State.applyEntry_keeps
    exact Keeps.refl _

theorem objWriteApply_keeps {a0 : _} {a1 : _} {a2 : _} : Keeps a2 (@objWriteApply a0 a1 a2).st := by
  unfold objWriteApply
  split
  · rename_i v0 v1 v2 v3
    dsimp only
    exact Keeps.refl _
  · rename_i v4 v5
    dsimp only
    refine Keeps.trans ?_ State.applyWrites_keeps
    exact Keeps.refl _

theorem objMailed_keeps {a0 : _} {a1 : _} {a2 : _} : Keeps a2 (@objMailed a0 a1 a2) := by
  unfold objMailed
  dsimp only
  split
  · rename_i v0 v1 v2 v3
    refine Keeps.ite ?_ ?_
    · refine Keeps.trans ?_ State.answer_keeps
      exact Keeps.refl _
    · refine Keeps.trans ?_ State.mailSend_keeps
      exact Keeps.refl _
  · rename_i v4 v5
    exact Keeps.refl _

theorem execObjWrite_keeps {a0 : _} {a1 : _} {t : State} (h : (@execObjWrite a0 a1) = .next t) : Keeps a1 t := by
  unfold execObjWrite at h
  injection h with h
  subst h
  refine Keeps.ite ?_ ?_
  · refine Keeps.trans ?_ (deferred_keeps ?_)
    · exact Keeps.refl _
    · intro v0 v1
      refine Keeps.trans ?_ objMailed_keeps
      exact Keeps.refl _
  · refine Keeps.trans ?_ queued_keeps
    exact Keeps.refl _

theorem ioConfigApply_keeps {a0 : _} {a1 : _} {a2 : _} : Keeps a2 (@ioConfigApply a0 a1 a2).st := by
  unfold ioConfigApply
  split
  · rename_i v0 v1 v2 v3
    dsimp only
    exact Keeps.refl _
  · rename_i v4 v5
    dsimp only
    refine Keeps.trans ?_ State.applyWrites_keeps
    exact Keeps.refl _

theorem execIoConfigSet_keeps {a0 : _} {a1 : _} {t : State} (h : (@execIoConfigSet a0 a1) = .next t) : Keeps a1 t := by
  unfold execIoConfigSet at h
  injection h with h
  subst h
  refine Keeps.trans ?_ queued_keeps
  exact Keeps.refl _

theorem objReadBody_keeps {a0 : _} {a1 : _} {a2 : _} : Keeps a2 (@objReadBody a0 a1 a2).st := by
  unfold objReadBody
  dsimp only
  exact Keeps.refl _

theorem execObjRead_keeps {a0 : _} {a1 : _} {t : State} (h : (@execObjRead a0 a1) = .next t) : Keeps a1 t := by
  unfold execObjRead at h
  injection h with h
  subst h
  refine Keeps.trans ?_ (mailed_keeps ?_)
  · exact Keeps.refl _
  · intro v0 v1
    refine Keeps.trans ?_ objReadBody_keeps
    exact Keeps.refl _

theorem ioDiagBody_keeps {a0 : _} {a1 : _} {a2 : _} : Keeps a2 (@ioDiagBody a0 a1 a2).st := by
  unfold ioDiagBody
  split
  · rename_i v0 v1
    dsimp only
    exact Keeps.refl _
  · rename_i v2 v3 v4
    dsimp only
    exact Keeps.refl _

theorem execIoDiagRead_keeps {a0 : _} {a1 : _} {t : State} (h : (@execIoDiagRead a0 a1) = .next t) : Keeps a1 t := by
  unfold execIoDiagRead at h
  injection h with h
  subst h
  refine Keeps.trans ?_ (served_keeps ?_)
  · exact Keeps.refl _
  · intro v0 v1
    refine Keeps.trans ?_ ioDiagBody_keeps
    exact Keeps.refl _

theorem laneStatusBody_keeps {a0 : _} {a1 : _} {a2 : _} : Keeps a2 (@laneStatusBody a0 a1 a2).st := by
  unfold laneStatusBody
  dsimp only
  exact Keeps.refl _

theorem execLaneStatus_keeps {a0 : _} {a1 : _} {t : State} (h : (@execLaneStatus a0 a1) = .next t) : Keeps a1 t := by
  unfold execLaneStatus at h
  injection h with h
  subst h
  refine Keeps.trans ?_ (served_keeps ?_)
  · exact Keeps.refl _
  · intro v0 v1
    refine Keeps.trans ?_ laneStatusBody_keeps
    exact Keeps.refl _

/-! Start. -/

theorem regGet_filter_out {p : Nat × Nat → Bool} {k : Nat} (h : ∀ v, p (k, v) = false) (l : List (Nat × Nat)) (d : Nat) :
    regGet (l.filter p) k d = d := by
  induction l with
  | nil => rfl
  | cons q t ih =>
    obtain ⟨a, w⟩ := q
    rw [List.filter_cons]
    split
    · rename_i hp
      have : a ≠ k := by rintro rfl; simp [h w] at hp
      simp [regGet, this, ih]
    · exact ih

theorem State.startReset_keeps {s : State} : Keeps s s.startReset := by
  unfold State.startReset
  dsimp only
  refine Keeps.foldl ?_ (fun u k => Keeps.put (f := F.laneModeNow) (by decide))
  refine ⟨fun i => ⟨⟨i.1.1, regWf_filter i.1.2 _⟩, ?_, by simp [State.EdgesClean]⟩, rfl⟩
  have keep : ∀ (k : Nat), startClears k = false → ∀ (l : List (Nat × Nat)) (d : Nat),
      regGet (l.filter (fun r => !startClears r.1)) k d = regGet l k d :=
    fun k h l d => regGet_filter (by simp [h]) l d
  have gone : ∀ (k : Nat), startClears k = true → ∀ (l : List (Nat × Nat)) (d : Nat),
      regGet (l.filter (fun r => !startClears r.1)) k d = d :=
    fun k h l d => regGet_filter_out (by simp [h]) l d
  have hm : startClears (fldKey F.mode 0) = false := by decide +kernel
  have hr : startClears (fldKey F.role 0) = false := by decide +kernel
  have hc : startClears (fldKey F.claim 0) = false := by decide +kernel
  have hd : startClears (fldKey F.driveEn 0) = true := by decide +kernel
  have i := i.2.1
  simp only [State.DriveSafe, State.get] at i ⊢
  rw [keep _ hm, keep _ hr, keep _ hc, gone _ hd]
  intro h
  rcases h with h | h
  · exact i (.inl h)
  · exact absurd h (by decide)

theorem State.startFails_keeps {a0 : _} {a1 : _} : Keeps a0 (@State.startFails a0 a1) := by
  unfold State.startFails
  dsimp only
  refine Keeps.trans ?_ State.showLeds_keeps
  refine Keeps.mkUpd ?_ (by with_reducible rfl) (by with_reducible rfl) (by with_reducible rfl) (by with_reducible rfl)
  refine Keeps.trans ?_ State.enterSafe_keeps
  exact Keeps.refl _

theorem State.startS1_keeps {a0 : _} {a1 : _} : Keeps a0 (@State.startS1 a0 a1) := by
  unfold State.startS1
  dsimp only
  refine Keeps.ite ?_ ?_
  · refine Keeps.trans ?_ State.stuckReset_keeps
    refine Keeps.trans ?_ (Keeps.putFlag (by decide))
    refine Keeps.mkUpd ?_ (by with_reducible rfl) (by with_reducible rfl) (by with_reducible rfl) (by with_reducible rfl)
    refine Keeps.trans ?_ State.raise_keeps
    refine Keeps.trans ?_ (Keeps.put (by decide))
    refine Keeps.trans ?_ State.latch_keeps
    refine Keeps.ite ?_ ?_
    · refine Keeps.trans ?_ State.raise_keeps
      refine Keeps.trans ?_ (Keeps.put (by decide))
      refine Keeps.trans ?_ (Keeps.put (by decide))
      refine Keeps.trans ?_ (Keeps.putFlag (by decide))
      refine Keeps.trans ?_ State.onPwr_keeps
      refine Keeps.ite ?_ ?_
      · refine Keeps.trans ?_ State.keyFaults_keeps
        refine Keeps.ite ?_ ?_
        · refine Keeps.trans ?_ (Keeps.put (by decide))
          refine Keeps.trans ?_ (Keeps.put (by decide))
          refine Keeps.trans ?_ (Keeps.put (by decide))
          refine Keeps.mkUpd ?_ (by with_reducible rfl) (by with_reducible rfl) (by with_reducible rfl) (by with_reducible rfl)
          iterate 5 refine Keeps.trans ?_ (Keeps.put (by decide))
          refine Keeps.trans ?_ State.startReset_keeps
          exact Keeps.refl _
        · refine Keeps.mkUpd ?_ (by with_reducible rfl) (by with_reducible rfl) (by with_reducible rfl) (by with_reducible rfl)
          iterate 5 refine Keeps.trans ?_ (Keeps.put (by decide))
          refine Keeps.trans ?_ State.startReset_keeps
          exact Keeps.refl _
      · refine Keeps.ite ?_ ?_
        · refine Keeps.trans ?_ (Keeps.put (by decide))
          refine Keeps.trans ?_ (Keeps.put (by decide))
          refine Keeps.trans ?_ (Keeps.put (by decide))
          refine Keeps.mkUpd ?_ (by with_reducible rfl) (by with_reducible rfl) (by with_reducible rfl) (by with_reducible rfl)
          iterate 5 refine Keeps.trans ?_ (Keeps.put (by decide))
          refine Keeps.trans ?_ State.startReset_keeps
          exact Keeps.refl _
        · refine Keeps.mkUpd ?_ (by with_reducible rfl) (by with_reducible rfl) (by with_reducible rfl) (by with_reducible rfl)
          iterate 5 refine Keeps.trans ?_ (Keeps.put (by decide))
          refine Keeps.trans ?_ State.startReset_keeps
          exact Keeps.refl _
    · refine Keeps.trans ?_ (Keeps.put (by decide))
      refine Keeps.trans ?_ (Keeps.putFlag (by decide))
      refine Keeps.trans ?_ State.onPwr_keeps
      refine Keeps.ite ?_ ?_
      · refine Keeps.trans ?_ State.keyFaults_keeps
        refine Keeps.ite ?_ ?_
        · refine Keeps.trans ?_ (Keeps.put (by decide))
          refine Keeps.trans ?_ (Keeps.put (by decide))
          refine Keeps.trans ?_ (Keeps.put (by decide))
          refine Keeps.mkUpd ?_ (by with_reducible rfl) (by with_reducible rfl) (by with_reducible rfl) (by with_reducible rfl)
          iterate 5 refine Keeps.trans ?_ (Keeps.put (by decide))
          refine Keeps.trans ?_ State.startReset_keeps
          exact Keeps.refl _
        · refine Keeps.mkUpd ?_ (by with_reducible rfl) (by with_reducible rfl) (by with_reducible rfl) (by with_reducible rfl)
          iterate 5 refine Keeps.trans ?_ (Keeps.put (by decide))
          refine Keeps.trans ?_ State.startReset_keeps
          exact Keeps.refl _
      · refine Keeps.ite ?_ ?_
        · refine Keeps.trans ?_ (Keeps.put (by decide))
          refine Keeps.trans ?_ (Keeps.put (by decide))
          refine Keeps.trans ?_ (Keeps.put (by decide))
          refine Keeps.mkUpd ?_ (by with_reducible rfl) (by with_reducible rfl) (by with_reducible rfl) (by with_reducible rfl)
          iterate 5 refine Keeps.trans ?_ (Keeps.put (by decide))
          refine Keeps.trans ?_ State.startReset_keeps
          exact Keeps.refl _
        · refine Keeps.mkUpd ?_ (by with_reducible rfl) (by with_reducible rfl) (by with_reducible rfl) (by with_reducible rfl)
          iterate 5 refine Keeps.trans ?_ (Keeps.put (by decide))
          refine Keeps.trans ?_ State.startReset_keeps
          exact Keeps.refl _
  · refine Keeps.trans ?_ (Keeps.putFlag (by decide))
    refine Keeps.mkUpd ?_ (by with_reducible rfl) (by with_reducible rfl) (by with_reducible rfl) (by with_reducible rfl)
    refine Keeps.trans ?_ State.raise_keeps
    refine Keeps.trans ?_ (Keeps.put (by decide))
    refine Keeps.trans ?_ State.latch_keeps
    refine Keeps.ite ?_ ?_
    · refine Keeps.trans ?_ State.raise_keeps
      refine Keeps.trans ?_ (Keeps.put (by decide))
      refine Keeps.trans ?_ (Keeps.put (by decide))
      refine Keeps.trans ?_ (Keeps.putFlag (by decide))
      refine Keeps.trans ?_ State.onPwr_keeps
      refine Keeps.ite ?_ ?_
      · refine Keeps.trans ?_ State.keyFaults_keeps
        refine Keeps.ite ?_ ?_
        · refine Keeps.trans ?_ (Keeps.put (by decide))
          refine Keeps.trans ?_ (Keeps.put (by decide))
          refine Keeps.trans ?_ (Keeps.put (by decide))
          refine Keeps.mkUpd ?_ (by with_reducible rfl) (by with_reducible rfl) (by with_reducible rfl) (by with_reducible rfl)
          iterate 5 refine Keeps.trans ?_ (Keeps.put (by decide))
          refine Keeps.trans ?_ State.startReset_keeps
          exact Keeps.refl _
        · refine Keeps.mkUpd ?_ (by with_reducible rfl) (by with_reducible rfl) (by with_reducible rfl) (by with_reducible rfl)
          iterate 5 refine Keeps.trans ?_ (Keeps.put (by decide))
          refine Keeps.trans ?_ State.startReset_keeps
          exact Keeps.refl _
      · refine Keeps.ite ?_ ?_
        · refine Keeps.trans ?_ (Keeps.put (by decide))
          refine Keeps.trans ?_ (Keeps.put (by decide))
          refine Keeps.trans ?_ (Keeps.put (by decide))
          refine Keeps.mkUpd ?_ (by with_reducible rfl) (by with_reducible rfl) (by with_reducible rfl) (by with_reducible rfl)
          iterate 5 refine Keeps.trans ?_ (Keeps.put (by decide))
          refine Keeps.trans ?_ State.startReset_keeps
          exact Keeps.refl _
        · refine Keeps.mkUpd ?_ (by with_reducible rfl) (by with_reducible rfl) (by with_reducible rfl) (by with_reducible rfl)
          iterate 5 refine Keeps.trans ?_ (Keeps.put (by decide))
          refine Keeps.trans ?_ State.startReset_keeps
          exact Keeps.refl _
    · refine Keeps.trans ?_ (Keeps.put (by decide))
      refine Keeps.trans ?_ (Keeps.putFlag (by decide))
      refine Keeps.trans ?_ State.onPwr_keeps
      refine Keeps.ite ?_ ?_
      · refine Keeps.trans ?_ State.keyFaults_keeps
        refine Keeps.ite ?_ ?_
        · refine Keeps.trans ?_ (Keeps.put (by decide))
          refine Keeps.trans ?_ (Keeps.put (by decide))
          refine Keeps.trans ?_ (Keeps.put (by decide))
          refine Keeps.mkUpd ?_ (by with_reducible rfl) (by with_reducible rfl) (by with_reducible rfl) (by with_reducible rfl)
          iterate 5 refine Keeps.trans ?_ (Keeps.put (by decide))
          refine Keeps.trans ?_ State.startReset_keeps
          exact Keeps.refl _
        · refine Keeps.mkUpd ?_ (by with_reducible rfl) (by with_reducible rfl) (by with_reducible rfl) (by with_reducible rfl)
          iterate 5 refine Keeps.trans ?_ (Keeps.put (by decide))
          refine Keeps.trans ?_ State.startReset_keeps
          exact Keeps.refl _
      · refine Keeps.ite ?_ ?_
        · refine Keeps.trans ?_ (Keeps.put (by decide))
          refine Keeps.trans ?_ (Keeps.put (by decide))
          refine Keeps.trans ?_ (Keeps.put (by decide))
          refine Keeps.mkUpd ?_ (by with_reducible rfl) (by with_reducible rfl) (by with_reducible rfl) (by with_reducible rfl)
          iterate 5 refine Keeps.trans ?_ (Keeps.put (by decide))
          refine Keeps.trans ?_ State.startReset_keeps
          exact Keeps.refl _
        · refine Keeps.mkUpd ?_ (by with_reducible rfl) (by with_reducible rfl) (by with_reducible rfl) (by with_reducible rfl)
          iterate 5 refine Keeps.trans ?_ (Keeps.put (by decide))
          refine Keeps.trans ?_ State.startReset_keeps
          exact Keeps.refl _

theorem State.restoreSub_keeps {s : State} {i j : Nat} {v : Option Nat} : Keeps s (s.restoreSub i j v) := by
  unfold State.restoreSub
  refine Keeps.foldlMem (Keeps.refl s) (fun u f hf => ?_)
  split
  · rename_i ha
    exact Keeps.put (quiet_of_mem (subFields_mem hf) (by rw [ha]; decide))
  · exact Keeps.refl u

theorem State.restoreCan_keeps {a0 : _} {a1 : _} {a2 : _} : Keeps a0 (@State.restoreCan a0 a1 a2) := by
  unfold State.restoreCan
  dsimp only
  refine Keeps.ite ?_ ?_
  · refine Keeps.trans ?_ State.restoreSub_keeps
    iterate 3 refine Keeps.trans ?_ State.restoreSub_keeps
    exact Keeps.refl _
  · refine Keeps.trans ?_ State.restoreSub_keeps
    refine Keeps.trans ?_ State.restoreSub_keeps
    refine Keeps.trans ?_ State.restoreSub_keeps
    exact Keeps.refl _

theorem State.forgetRec_keeps {a0 : _} {a1 : _} {a2 : _} : Keeps a0 (@State.forgetRec a0 a1 a2) := by
  unfold State.forgetRec
  dsimp only
  refine Keeps.ite ?_ ?_
  · refine Keeps.trans ?_ State.restoreSub_keeps
    exact Keeps.refl _
  · refine Keeps.ite ?_ ?_
    · refine Keeps.trans ?_ State.restoreCan_keeps
      exact Keeps.refl _
    · refine Keeps.ite ?_ ?_
      · refine Keeps.mkUpd ?_ (by with_reducible rfl) (by with_reducible rfl) (by with_reducible rfl) (by with_reducible rfl)
        exact Keeps.refl _
      · refine Keeps.ite ?_ ?_
        · refine Keeps.mkUpd ?_ (by with_reducible rfl) (by with_reducible rfl) (by with_reducible rfl) (by with_reducible rfl)
          exact Keeps.refl _
        · refine Keeps.ite ?_ ?_
          · refine Keeps.mkUpd ?_ (by with_reducible rfl) (by with_reducible rfl) (by with_reducible rfl) (by with_reducible rfl)
            exact Keeps.refl _
          · exact Keeps.refl _

theorem State.journalIs_keeps {a0 : _} {a1 : _} : Keeps a0 (@State.journalIs a0 a1) := by
  unfold State.journalIs
  dsimp only
  iterate 3 refine Keeps.trans ?_ (Keeps.put (by decide))
  refine Keeps.mkUpd ?_ (by with_reducible rfl) (by with_reducible rfl) (by with_reducible rfl) (by with_reducible rfl)
  exact Keeps.refl _

theorem State.journalCut_keeps {a0 : _} {a1 : _} : Keeps a0 (@State.journalCut a0 a1) := by
  unfold State.journalCut
  dsimp only
  refine Keeps.trans ?_ State.raise_keeps
  refine Keeps.foldl ?_ (fun v0 v1 => ?_)
  · exact Keeps.refl _
  · refine Keeps.trans ?_ State.forgetRec_keeps
    exact Keeps.refl _

theorem State.resumeOpTime_keeps {a0 : _} : Keeps a0 (@State.resumeOpTime a0) := by
  unfold State.resumeOpTime
  split
  · rename_i v0 v1 v2
    refine Keeps.mkUpd ?_ (by with_reducible rfl) (by with_reducible rfl) (by with_reducible rfl) (by with_reducible rfl)
    exact Keeps.refl _
  · rename_i v3 v4
    refine Keeps.mkUpd ?_ (by with_reducible rfl) (by with_reducible rfl) (by with_reducible rfl) (by with_reducible rfl)
    exact Keeps.refl _

theorem State.chooseHalf_keeps {a0 : _} {a1 : _} : Keeps a0 (@State.chooseHalf a0 a1) := by
  unfold State.chooseHalf
  dsimp only
  split
  · rename_i v0 v1
    refine Keeps.ite ?_ ?_
    · refine Keeps.ite ?_ ?_
      · refine Keeps.trans ?_ State.rollSwitch_keeps
        exact Keeps.refl _
      · exact Keeps.refl _
    · refine Keeps.trans ?_ (Keeps.put (by decide))
      refine Keeps.mkUpd ?_ (by with_reducible rfl) (by with_reducible rfl) (by with_reducible rfl) (by with_reducible rfl)
      refine Keeps.ite ?_ ?_
      · refine Keeps.trans ?_ State.rollSwitch_keeps
        exact Keeps.refl _
      · exact Keeps.refl _
  · rename_i v2 v3 v4
    refine Keeps.trans ?_ (Keeps.put (by decide))
    refine Keeps.ite ?_ ?_
    · refine Keeps.ite ?_ ?_
      · refine Keeps.ite ?_ ?_
        · refine Keeps.trans ?_ State.rollSwitch_keeps
          exact Keeps.refl _
        · exact Keeps.refl _
      · refine Keeps.trans ?_ (Keeps.put (by decide))
        refine Keeps.mkUpd ?_ (by with_reducible rfl) (by with_reducible rfl) (by with_reducible rfl) (by with_reducible rfl)
        refine Keeps.ite ?_ ?_
        · refine Keeps.trans ?_ State.rollSwitch_keeps
          exact Keeps.refl _
        · exact Keeps.refl _
    · refine Keeps.trans ?_ State.swapHalves_keeps
      refine Keeps.ite ?_ ?_
      · refine Keeps.ite ?_ ?_
        · refine Keeps.trans ?_ State.rollSwitch_keeps
          exact Keeps.refl _
        · exact Keeps.refl _
      · refine Keeps.trans ?_ (Keeps.put (by decide))
        refine Keeps.mkUpd ?_ (by with_reducible rfl) (by with_reducible rfl) (by with_reducible rfl) (by with_reducible rfl)
        refine Keeps.ite ?_ ?_
        · refine Keeps.trans ?_ State.rollSwitch_keeps
          exact Keeps.refl _
        · exact Keeps.refl _

theorem State.recoverJournal_keeps {a0 : _} {a1 : _} : Keeps a0 (@State.recoverJournal a0 a1) := by
  unfold State.recoverJournal
  dsimp only
  refine Keeps.ite ?_ ?_
  · refine Keeps.trans ?_ State.resumeOpTime_keeps
    refine Keeps.mkUpd ?_ (by with_reducible rfl) (by with_reducible rfl) (by with_reducible rfl) (by with_reducible rfl)
    refine Keeps.trans ?_ State.journalIs_keeps
    refine Keeps.ite ?_ ?_
    · refine Keeps.trans ?_ State.journalCut_keeps
      refine Keeps.ite ?_ ?_
      · refine Keeps.trans ?_ State.raise_keeps
        refine Keeps.trans ?_ (Keeps.inc (by decide))
        refine Keeps.ite ?_ ?_
        · refine Keeps.trans ?_ State.raise_keeps
          refine Keeps.trans ?_ (Keeps.put (by decide))
          refine Keeps.mkUpd ?_ (by with_reducible rfl) (by with_reducible rfl) (by with_reducible rfl) (by with_reducible rfl)
          refine Keeps.foldl ?_ (fun v0 v1 => ?_)
          · refine Keeps.trans ?_ State.chooseHalf_keeps
            exact Keeps.refl _
          · refine Keeps.trans ?_ State.forgetRec_keeps
            exact Keeps.refl _
        · refine Keeps.trans ?_ (Keeps.put (by decide))
          refine Keeps.mkUpd ?_ (by with_reducible rfl) (by with_reducible rfl) (by with_reducible rfl) (by with_reducible rfl)
          refine Keeps.foldl ?_ (fun v2 v3 => ?_)
          · refine Keeps.trans ?_ State.chooseHalf_keeps
            exact Keeps.refl _
          · refine Keeps.trans ?_ State.forgetRec_keeps
            exact Keeps.refl _
      · refine Keeps.ite ?_ ?_
        · refine Keeps.trans ?_ State.raise_keeps
          refine Keeps.trans ?_ (Keeps.put (by decide))
          refine Keeps.mkUpd ?_ (by with_reducible rfl) (by with_reducible rfl) (by with_reducible rfl) (by with_reducible rfl)
          refine Keeps.foldl ?_ (fun v4 v5 => ?_)
          · refine Keeps.trans ?_ State.chooseHalf_keeps
            exact Keeps.refl _
          · refine Keeps.trans ?_ State.forgetRec_keeps
            exact Keeps.refl _
        · refine Keeps.trans ?_ (Keeps.put (by decide))
          refine Keeps.mkUpd ?_ (by with_reducible rfl) (by with_reducible rfl) (by with_reducible rfl) (by with_reducible rfl)
          refine Keeps.foldl ?_ (fun v6 v7 => ?_)
          · refine Keeps.trans ?_ State.chooseHalf_keeps
            exact Keeps.refl _
          · refine Keeps.trans ?_ State.forgetRec_keeps
            exact Keeps.refl _
    · refine Keeps.ite ?_ ?_
      · refine Keeps.trans ?_ State.raise_keeps
        refine Keeps.trans ?_ (Keeps.inc (by decide))
        refine Keeps.ite ?_ ?_
        · refine Keeps.trans ?_ State.raise_keeps
          refine Keeps.trans ?_ (Keeps.put (by decide))
          refine Keeps.mkUpd ?_ (by with_reducible rfl) (by with_reducible rfl) (by with_reducible rfl) (by with_reducible rfl)
          refine Keeps.foldl ?_ (fun v8 v9 => ?_)
          · refine Keeps.trans ?_ State.chooseHalf_keeps
            exact Keeps.refl _
          · refine Keeps.trans ?_ State.forgetRec_keeps
            exact Keeps.refl _
        · refine Keeps.trans ?_ (Keeps.put (by decide))
          refine Keeps.mkUpd ?_ (by with_reducible rfl) (by with_reducible rfl) (by with_reducible rfl) (by with_reducible rfl)
          refine Keeps.foldl ?_ (fun v10 v11 => ?_)
          · refine Keeps.trans ?_ State.chooseHalf_keeps
            exact Keeps.refl _
          · refine Keeps.trans ?_ State.forgetRec_keeps
            exact Keeps.refl _
      · refine Keeps.ite ?_ ?_
        · refine Keeps.trans ?_ State.raise_keeps
          refine Keeps.trans ?_ (Keeps.put (by decide))
          refine Keeps.mkUpd ?_ (by with_reducible rfl) (by with_reducible rfl) (by with_reducible rfl) (by with_reducible rfl)
          refine Keeps.foldl ?_ (fun v12 v13 => ?_)
          · refine Keeps.trans ?_ State.chooseHalf_keeps
            exact Keeps.refl _
          · refine Keeps.trans ?_ State.forgetRec_keeps
            exact Keeps.refl _
        · refine Keeps.trans ?_ (Keeps.put (by decide))
          refine Keeps.mkUpd ?_ (by with_reducible rfl) (by with_reducible rfl) (by with_reducible rfl) (by with_reducible rfl)
          refine Keeps.foldl ?_ (fun v14 v15 => ?_)
          · refine Keeps.trans ?_ State.chooseHalf_keeps
            exact Keeps.refl _
          · refine Keeps.trans ?_ State.forgetRec_keeps
            exact Keeps.refl _
  · refine Keeps.mkUpd ?_ (by with_reducible rfl) (by with_reducible rfl) (by with_reducible rfl) (by with_reducible rfl)
    refine Keeps.trans ?_ State.journalIs_keeps
    refine Keeps.ite ?_ ?_
    · refine Keeps.trans ?_ State.journalCut_keeps
      refine Keeps.ite ?_ ?_
      · refine Keeps.trans ?_ State.raise_keeps
        refine Keeps.trans ?_ (Keeps.inc (by decide))
        refine Keeps.ite ?_ ?_
        · refine Keeps.trans ?_ State.raise_keeps
          refine Keeps.trans ?_ (Keeps.put (by decide))
          refine Keeps.mkUpd ?_ (by with_reducible rfl) (by with_reducible rfl) (by with_reducible rfl) (by with_reducible rfl)
          refine Keeps.foldl ?_ (fun v16 v17 => ?_)
          · refine Keeps.trans ?_ State.chooseHalf_keeps
            exact Keeps.refl _
          · refine Keeps.trans ?_ State.forgetRec_keeps
            exact Keeps.refl _
        · refine Keeps.trans ?_ (Keeps.put (by decide))
          refine Keeps.mkUpd ?_ (by with_reducible rfl) (by with_reducible rfl) (by with_reducible rfl) (by with_reducible rfl)
          refine Keeps.foldl ?_ (fun v18 v19 => ?_)
          · refine Keeps.trans ?_ State.chooseHalf_keeps
            exact Keeps.refl _
          · refine Keeps.trans ?_ State.forgetRec_keeps
            exact Keeps.refl _
      · refine Keeps.ite ?_ ?_
        · refine Keeps.trans ?_ State.raise_keeps
          refine Keeps.trans ?_ (Keeps.put (by decide))
          refine Keeps.mkUpd ?_ (by with_reducible rfl) (by with_reducible rfl) (by with_reducible rfl) (by with_reducible rfl)
          refine Keeps.foldl ?_ (fun v20 v21 => ?_)
          · refine Keeps.trans ?_ State.chooseHalf_keeps
            exact Keeps.refl _
          · refine Keeps.trans ?_ State.forgetRec_keeps
            exact Keeps.refl _
        · refine Keeps.trans ?_ (Keeps.put (by decide))
          refine Keeps.mkUpd ?_ (by with_reducible rfl) (by with_reducible rfl) (by with_reducible rfl) (by with_reducible rfl)
          refine Keeps.foldl ?_ (fun v22 v23 => ?_)
          · refine Keeps.trans ?_ State.chooseHalf_keeps
            exact Keeps.refl _
          · refine Keeps.trans ?_ State.forgetRec_keeps
            exact Keeps.refl _
    · refine Keeps.ite ?_ ?_
      · refine Keeps.trans ?_ State.raise_keeps
        refine Keeps.trans ?_ (Keeps.inc (by decide))
        refine Keeps.ite ?_ ?_
        · refine Keeps.trans ?_ State.raise_keeps
          refine Keeps.trans ?_ (Keeps.put (by decide))
          refine Keeps.mkUpd ?_ (by with_reducible rfl) (by with_reducible rfl) (by with_reducible rfl) (by with_reducible rfl)
          refine Keeps.foldl ?_ (fun v24 v25 => ?_)
          · refine Keeps.trans ?_ State.chooseHalf_keeps
            exact Keeps.refl _
          · refine Keeps.trans ?_ State.forgetRec_keeps
            exact Keeps.refl _
        · refine Keeps.trans ?_ (Keeps.put (by decide))
          refine Keeps.mkUpd ?_ (by with_reducible rfl) (by with_reducible rfl) (by with_reducible rfl) (by with_reducible rfl)
          refine Keeps.foldl ?_ (fun v26 v27 => ?_)
          · refine Keeps.trans ?_ State.chooseHalf_keeps
            exact Keeps.refl _
          · refine Keeps.trans ?_ State.forgetRec_keeps
            exact Keeps.refl _
      · refine Keeps.ite ?_ ?_
        · refine Keeps.trans ?_ State.raise_keeps
          refine Keeps.trans ?_ (Keeps.put (by decide))
          refine Keeps.mkUpd ?_ (by with_reducible rfl) (by with_reducible rfl) (by with_reducible rfl) (by with_reducible rfl)
          refine Keeps.foldl ?_ (fun v28 v29 => ?_)
          · refine Keeps.trans ?_ State.chooseHalf_keeps
            exact Keeps.refl _
          · refine Keeps.trans ?_ State.forgetRec_keeps
            exact Keeps.refl _
        · refine Keeps.trans ?_ (Keeps.put (by decide))
          refine Keeps.mkUpd ?_ (by with_reducible rfl) (by with_reducible rfl) (by with_reducible rfl) (by with_reducible rfl)
          refine Keeps.foldl ?_ (fun v30 v31 => ?_)
          · refine Keeps.trans ?_ State.chooseHalf_keeps
            exact Keeps.refl _
          · refine Keeps.trans ?_ State.forgetRec_keeps
            exact Keeps.refl _

theorem State.mergeToll_keeps {a0 : _} : Keeps a0 (@State.mergeToll a0) := by
  unfold State.mergeToll
  dsimp only
  refine Keeps.trans ?_ State.journal_keeps
  refine Keeps.trans ?_ State.journalToll_keeps
  refine Keeps.trans ?_ State.latch_keeps
  refine Keeps.trans ?_ (Keeps.put (by decide))
  refine Keeps.trans ?_ (Keeps.put (by decide))
  refine Keeps.mkUpd ?_ (by with_reducible rfl) (by with_reducible rfl) (by with_reducible rfl) (by with_reducible rfl)
  exact Keeps.refl _

theorem State.raiseAgain_keeps {a0 : _} {a1 : _} : Keeps a0 (@State.raiseAgain a0 a1) := by
  unfold State.raiseAgain
  dsimp only
  refine Keeps.ite ?_ ?_
  · exact Keeps.refl _
  · refine Keeps.mkUpd ?_ (by with_reducible rfl) (by with_reducible rfl) (by with_reducible rfl) (by with_reducible rfl)
    refine Keeps.ite ?_ ?_
    · refine Keeps.trans ?_ State.raiseLatched_keeps
      refine Keeps.trans ?_ State.fresh_keeps
      exact Keeps.refl _
    · refine Keeps.trans ?_ State.raiseLatched_keeps
      refine Keeps.trans ?_ State.fresh_keeps
      exact Keeps.refl _

theorem State.takeSafeRecord_keeps {a0 : _} : Keeps a0 (@State.takeSafeRecord a0) := by
  unfold State.takeSafeRecord
  dsimp only
  refine Keeps.trans ?_ State.showSafeCause_keeps
  refine Keeps.ite ?_ ?_
  · refine Keeps.mkUpd ?_ (by with_reducible rfl) (by with_reducible rfl) (by with_reducible rfl) (by with_reducible rfl)
    exact Keeps.refl _
  · exact Keeps.refl _

theorem State.startS3_keeps {a0 : _} {a1 : _} : Keeps a0 (@State.startS3 a0 a1) := by
  unfold State.startS3
  dsimp only
  refine Keeps.ite ?_ ?_
  · refine Keeps.trans ?_ State.clearSafe_keeps
    refine Keeps.trans ?_ State.takeSafeRecord_keeps
    refine Keeps.foldl ?_ (fun v0 v1 => ?_)
    · refine Keeps.trans ?_ State.mergeToll_keeps
      refine Keeps.ite ?_ ?_
      · refine Keeps.trans ?_ State.journal_keeps
        refine Keeps.trans ?_ (Keeps.put (by decide))
        refine Keeps.ite ?_ ?_
        · refine Keeps.trans ?_ (Keeps.put (by decide))
          refine Keeps.trans ?_ (Keeps.put (by decide))
          refine Keeps.trans ?_ (Keeps.put (by decide))
          refine Keeps.trans ?_ State.raise_keeps
          refine Keeps.trans ?_ State.recoverJournal_keeps
          exact Keeps.refl _
        · refine Keeps.trans ?_ State.recoverJournal_keeps
          exact Keeps.refl _
      · refine Keeps.ite ?_ ?_
        · refine Keeps.trans ?_ (Keeps.put (by decide))
          refine Keeps.trans ?_ (Keeps.put (by decide))
          refine Keeps.trans ?_ (Keeps.put (by decide))
          refine Keeps.trans ?_ State.raise_keeps
          refine Keeps.trans ?_ State.recoverJournal_keeps
          exact Keeps.refl _
        · refine Keeps.trans ?_ State.recoverJournal_keeps
          exact Keeps.refl _
    · refine Keeps.trans ?_ State.raiseAgain_keeps
      exact Keeps.refl _
  · refine Keeps.trans ?_ State.takeSafeRecord_keeps
    refine Keeps.foldl ?_ (fun v2 v3 => ?_)
    · refine Keeps.trans ?_ State.mergeToll_keeps
      refine Keeps.ite ?_ ?_
      · refine Keeps.trans ?_ State.journal_keeps
        refine Keeps.trans ?_ (Keeps.put (by decide))
        refine Keeps.ite ?_ ?_
        · refine Keeps.trans ?_ (Keeps.put (by decide))
          refine Keeps.trans ?_ (Keeps.put (by decide))
          refine Keeps.trans ?_ (Keeps.put (by decide))
          refine Keeps.trans ?_ State.raise_keeps
          refine Keeps.trans ?_ State.recoverJournal_keeps
          exact Keeps.refl _
        · refine Keeps.trans ?_ State.recoverJournal_keeps
          exact Keeps.refl _
      · refine Keeps.ite ?_ ?_
        · refine Keeps.trans ?_ (Keeps.put (by decide))
          refine Keeps.trans ?_ (Keeps.put (by decide))
          refine Keeps.trans ?_ (Keeps.put (by decide))
          refine Keeps.trans ?_ State.raise_keeps
          refine Keeps.trans ?_ State.recoverJournal_keeps
          exact Keeps.refl _
        · refine Keeps.trans ?_ State.recoverJournal_keeps
          exact Keeps.refl _
    · refine Keeps.trans ?_ State.raiseAgain_keeps
      exact Keeps.refl _

theorem State.bootFallback_keeps {a0 : _} {a1 : _} : Keeps a0 (@State.bootFallback a0 a1) := by
  unfold State.bootFallback
  refine Keeps.trans ?_ (Keeps.inc (by decide))
  refine Keeps.trans ?_ (Keeps.put (by decide))
  refine Keeps.trans ?_ State.fallBack_keeps
  exact Keeps.refl _

theorem State.startS5_keeps {s t : State} {i : StartIn} (h : s.startS5 i = some t) : Keeps s t := by
  have key : ∀ (l : List Nat) (o : Option State), (∀ x, o = some x → Keeps s x) → ∀ y,
      l.foldl (fun (o : Option State) k => o.bind (fun (s : State) =>
        let t := k + 1
        if bitOf i.imagesOk t then some s
        else if bitOf i.fallbackOk t ∧ (s.slot t 2).state = 1 then some (s.bootFallback t)
        else none)) o = some y → Keeps s y := by
    intro l
    induction l with
    | nil => intro o ho y hy; exact ho y hy
    | cons k l ih =>
      intro o ho y hy
      refine ih _ ?_ y hy
      intro x hx
      cases o with
      | none => cases hx
      | some u =>
        have hu := ho u rfl
        simp only [Option.bind_some] at hx
        split at hx
        · injection hx with hx; subst hx; exact hu
        · split at hx
          · injection hx with hx; subst hx; exact hu.trans State.bootFallback_keeps
          · cases hx
  refine key (List.range 5) (some (s.imagesStart i.copyOk)) ?_ t h
  intro x hx
  injection hx with hx
  subst hx
  exact State.imagesStart_keeps

theorem State.restoreClusters_keeps {a0 : _} {a1 : _} : Keeps a0 (@State.restoreClusters a0 a1) := by
  unfold State.restoreClusters
  refine Keeps.foldl ?_ (fun v0 v1 => ?_)
  · exact Keeps.refl _
  · refine Keeps.ite ?_ ?_
    · dsimp only
      refine Keeps.trans ?_ State.raise_keeps
      refine Keeps.trans ?_ State.journal_keeps
      refine Keeps.trans ?_ State.showAttempts_keeps
      refine Keeps.trans ?_ (Keeps.put (by decide))
      refine Keeps.mkUpd ?_ (by with_reducible rfl) (by with_reducible rfl) (by with_reducible rfl) (by with_reducible rfl)
      exact Keeps.refl _
    · exact Keeps.refl _

theorem State.startS6_keeps {s t : State} {i : StartIn} (h : s.startS6 i = some t) : Keeps s t := by
  unfold State.startS6 at h
  dsimp only at h
  have h0 : Keeps s (State.put (State.abandonResync { s with triad := { s.triad with
      startsNext := none, waiting := [], converged := false, passes := 0 } }) F.isolated 0) := by
    refine Keeps.trans ?_ (Keeps.put (by decide))
    refine Keeps.trans ?_ State.abandonResync_keeps
    exact Keeps.upd (Keeps.refl s) rfl rfl rfl rfl rfl
  generalize State.put (State.abandonResync _) F.isolated 0 = u at h h0
  split at h
  · split at h
    · cases h
    · injection h with h; subst h
      refine Keeps.trans ?_ (Keeps.put (by decide))
      refine Keeps.memUpd (h0.trans (Keeps.put (f := F.triad) (v := 2) (k := 0) (by decide))) rfl (fun w => ?_)
        (List.Subset.refl _) (List.Subset.refl _) rfl
      simp only [State.mems, List.all_cons, List.all_nil, Bool.and_true, Bool.and_eq_true] at w ⊢
      exact ⟨w.1, w.1, w.1⟩
  · split at h
    · injection h with h; subst h
      exact h0.trans (State.restoreClusters_keeps.trans (Keeps.put (by decide)))
    · injection h with h; subst h
      refine Keeps.trans (h0.trans (State.restoreClusters_keeps (a1 := i))) ?_
      refine Keeps.ite ?_ (Keeps.trans ?_ State.isolate_keeps)
      · refine Keeps.trans ?_ (Keeps.put (by decide))
        refine Keeps.trans ?_ (Keeps.put (by decide))
        exact Keeps.ite State.raise_keeps (Keeps.refl _)
      · exact Keeps.ite State.raise_keeps (Keeps.refl _)
    · cases h

theorem State.refusePartner_keeps {a0 : _} {a1 : _} : Keeps a0 (@State.refusePartner a0 a1) := by
  unfold State.refusePartner
  dsimp only
  refine Keeps.ite ?_ ?_
  · refine Keeps.trans ?_ State.raise_keeps
    refine Keeps.trans ?_ (Keeps.put (by decide))
    refine Keeps.mkUpd ?_ (by with_reducible rfl) (by with_reducible rfl) (by with_reducible rfl) (by with_reducible rfl)
    refine Keeps.trans ?_ State.partnerGone_keeps
    exact Keeps.refl _
  · refine Keeps.trans ?_ (Keeps.put (by decide))
    refine Keeps.mkUpd ?_ (by with_reducible rfl) (by with_reducible rfl) (by with_reducible rfl) (by with_reducible rfl)
    refine Keeps.trans ?_ State.partnerGone_keeps
    exact Keeps.refl _

theorem State.acceptPartner_keeps {a0 : _} {a1 : _} : Keeps a0 (@State.acceptPartner a0 a1) := by
  unfold State.acceptPartner
  dsimp only
  refine Keeps.trans ?_ State.clearPairUpdate_keeps
  refine Keeps.trans ?_ State.putUnit_keeps
  refine Keeps.trans ?_ State.onImg_keeps
  refine Keeps.ite ?_ ?_
  · refine Keeps.trans ?_ State.journalProgram_keeps
    refine Keeps.trans ?_ (Keeps.put (by decide))
    refine Keeps.ite ?_ ?_
    · refine Keeps.mkUpd ?_ (by with_reducible rfl) (by with_reducible rfl) (by with_reducible rfl) (by with_reducible rfl)
      refine Keeps.ite ?_ ?_
      · refine Keeps.trans ?_ (Keeps.put (by decide))
        refine Keeps.mkUpd ?_ (by with_reducible rfl) (by with_reducible rfl) (by with_reducible rfl) (by with_reducible rfl)
        exact Keeps.refl _
      · refine Keeps.mkUpd ?_ (by with_reducible rfl) (by with_reducible rfl) (by with_reducible rfl) (by with_reducible rfl)
        exact Keeps.refl _
    · refine Keeps.ite ?_ ?_
      · refine Keeps.trans ?_ (Keeps.put (by decide))
        refine Keeps.mkUpd ?_ (by with_reducible rfl) (by with_reducible rfl) (by with_reducible rfl) (by with_reducible rfl)
        exact Keeps.refl _
      · refine Keeps.mkUpd ?_ (by with_reducible rfl) (by with_reducible rfl) (by with_reducible rfl) (by with_reducible rfl)
        exact Keeps.refl _
  · refine Keeps.ite ?_ ?_
    · refine Keeps.mkUpd ?_ (by with_reducible rfl) (by with_reducible rfl) (by with_reducible rfl) (by with_reducible rfl)
      refine Keeps.ite ?_ ?_
      · refine Keeps.trans ?_ (Keeps.put (by decide))
        refine Keeps.mkUpd ?_ (by with_reducible rfl) (by with_reducible rfl) (by with_reducible rfl) (by with_reducible rfl)
        exact Keeps.refl _
      · refine Keeps.mkUpd ?_ (by with_reducible rfl) (by with_reducible rfl) (by with_reducible rfl) (by with_reducible rfl)
        exact Keeps.refl _
    · refine Keeps.ite ?_ ?_
      · refine Keeps.trans ?_ (Keeps.put (by decide))
        refine Keeps.mkUpd ?_ (by with_reducible rfl) (by with_reducible rfl) (by with_reducible rfl) (by with_reducible rfl)
        exact Keeps.refl _
      · refine Keeps.mkUpd ?_ (by with_reducible rfl) (by with_reducible rfl) (by with_reducible rfl) (by with_reducible rfl)
        exact Keeps.refl _

theorem State.exchange_keeps {a0 : _} {a1 : _} : Keeps a0 (@State.exchange a0 a1) := by
  unfold State.exchange
  dsimp only
  refine Keeps.ite ?_ ?_
  · refine Keeps.trans ?_ State.acceptPartner_keeps
    exact Keeps.refl _
  · refine Keeps.trans ?_ State.refusePartner_keeps
    exact Keeps.refl _

theorem State.startField_keeps {a0 : _} {a1 : _} : Keeps a0 (@State.startField a0 a1) := by
  unfold State.startField
  dsimp only
  refine Keeps.trans ?_ State.showFa_keeps
  refine Keeps.foldl ?_ (fun v0 v1 => ?_)
  · refine Keeps.trans ?_ (Keeps.put (by decide))
    refine Keeps.mkUpd ?_ (by with_reducible rfl) (by with_reducible rfl) (by with_reducible rfl) (by with_reducible rfl)
    refine Keeps.foldl ?_ (fun v2 v3 => ?_)
    · refine Keeps.trans ?_ (Keeps.put (by decide))
      refine Keeps.trans ?_ (Keeps.put (by decide))
      refine Keeps.trans ?_ (Keeps.put (by decide))
      exact Keeps.refl _
    · refine Keeps.trans ?_ (Keeps.putFlag (by decide))
      refine Keeps.trans ?_ (Keeps.put (by decide))
      exact Keeps.refl _
  · refine Keeps.trans ?_ State.faComesUp_keeps
    exact Keeps.refl _

theorem State.startLanes_keeps {a0 : _} {a1 : _} : Keeps a0 (@State.startLanes a0 a1) := by
  unfold State.startLanes
  refine Keeps.foldl ?_ (fun v0 v1 => ?_)
  · refine Keeps.trans ?_ State.holdAbsent_keeps
    exact Keeps.refl _
  · refine Keeps.ite ?_ ?_
    · refine Keeps.trans ?_ (Keeps.put (by decide))
      exact Keeps.refl _
    · exact Keeps.refl _

theorem State.startBeat_keeps {a0 : _} {a1 : _} : Keeps a0 (@State.startBeat a0 a1) := by
  unfold State.startBeat
  dsimp only
  refine Keeps.ite ?_ ?_
  · refine Keeps.trans ?_ State.takeServo_keeps
    refine Keeps.mkUpd ?_ (by with_reducible rfl) (by with_reducible rfl) (by with_reducible rfl) (by with_reducible rfl)
    refine Keeps.trans ?_ (Keeps.put (by decide))
    exact Keeps.refl _
  · refine Keeps.trans ?_ State.setAlign_keeps
    refine Keeps.mkUpd ?_ (by with_reducible rfl) (by with_reducible rfl) (by with_reducible rfl) (by with_reducible rfl)
    refine Keeps.trans ?_ (Keeps.put (by decide))
    exact Keeps.refl _

theorem State.startProgram_keeps {a0 : _} {a1 : _} {a2 : _} : Keeps a0 (@State.startProgram a0 a1 a2) := by
  unfold State.startProgram
  dsimp only
  refine Keeps.trans ?_ State.showRuntime_keeps
  refine Keeps.trans ?_ (Keeps.put (by decide))
  refine Keeps.trans ?_ (Keeps.put (by decide))
  refine Keeps.trans ?_ (State.onCluster_keeps ?_)
  · refine Keeps.trans ?_ (State.onCluster_keeps ?_)
    · split
      · rename_i v0 v1 v2
        refine Keeps.ite ?_ ?_
        · refine Keeps.trans ?_ State.journalLoad_keeps
          refine Keeps.trans ?_ State.loadProgram_keeps
          refine Keeps.mkUpd ?_ (by with_reducible rfl) (by with_reducible rfl) (by with_reducible rfl) (by with_reducible rfl)
          exact Keeps.refl _
        · refine Keeps.trans ?_ State.noProgram_keeps
          refine Keeps.mkUpd ?_ (by with_reducible rfl) (by with_reducible rfl) (by with_reducible rfl) (by with_reducible rfl)
          exact Keeps.refl _
      · rename_i v3 v4
        refine Keeps.trans ?_ State.noProgram_keeps
        refine Keeps.mkUpd ?_ (by with_reducible rfl) (by with_reducible rfl) (by with_reducible rfl) (by with_reducible rfl)
        exact Keeps.refl _
    · intro v5
      refine Keeps.trans ?_ State.coldCluster_keeps
      exact Keeps.refl _
  · intro v6
    refine Keeps.trans ?_ State.coldCluster_keeps
    exact Keeps.refl _

theorem State.startTests_keeps {a0 : _} {a1 : _} : Keeps a0 (@State.startTests a0 a1) := by
  unfold State.startTests
  dsimp only
  refine Keeps.foldl ?_ (fun v0 v1 => ?_)
  · refine Keeps.trans ?_ State.showApplicable_keeps
    refine Keeps.mkUpd ?_ (by with_reducible rfl) (by with_reducible rfl) (by with_reducible rfl) (by with_reducible rfl)
    exact Keeps.refl _
  · refine Keeps.ite ?_ ?_
    · exact Keeps.refl _
    · refine Keeps.ite ?_ ?_
      · refine Keeps.trans ?_ State.healthFails_keeps
        exact Keeps.refl _
      · refine Keeps.trans ?_ State.healthPass_keeps
        exact Keeps.refl _

theorem State.exitStart_keeps {a0 : _} {a1 : _} : Keeps a0 (@State.exitStart a0 a1) := by
  unfold State.exitStart
  dsimp only
  refine Keeps.ite ?_ ?_
  · refine Keeps.trans ?_ State.startRun_keeps
    exact Keeps.refl _
  · refine Keeps.ite ?_ ?_
    · refine Keeps.trans ?_ State.coldRestart_keeps
      exact Keeps.refl _
    · exact Keeps.refl _

theorem State.startEpochs_keeps {a0 : _} {a1 : _} : Keeps a0 (@State.startEpochs a0 a1) := by
  unfold State.startEpochs
  dsimp only
  refine Keeps.ite ?_ ?_
  · refine Keeps.trans ?_ State.bumpOwn_keeps
    refine Keeps.ite ?_ ?_
    · refine Keeps.trans ?_ State.bumpUnit_keeps
      exact Keeps.refl _
    · exact Keeps.refl _
  · refine Keeps.ite ?_ ?_
    · refine Keeps.trans ?_ State.bumpUnit_keeps
      exact Keeps.refl _
    · exact Keeps.refl _

theorem State.startService_keeps {a0 : _} {a1 : _} : Keeps a0 (@State.startService a0 a1) := by
  unfold State.startService
  dsimp only
  refine Keeps.trans ?_ State.showUnit_keeps
  refine Keeps.trans ?_ State.showLeds_keeps
  refine Keeps.trans ?_ State.canShow_keeps
  refine Keeps.mkUpd ?_ (by with_reducible rfl) (by with_reducible rfl) (by with_reducible rfl) (by with_reducible rfl)
  refine Keeps.ite ?_ ?_
  · refine Keeps.trans ?_ (Keeps.put (by decide))
    refine Keeps.trans ?_ State.exitStart_keeps
    refine Keeps.trans ?_ State.decideRole_keeps
    refine Keeps.trans ?_ State.startEpochs_keeps
    refine Keeps.trans ?_ State.startTests_keeps
    refine Keeps.trans ?_ State.startProgram_keeps
    refine Keeps.trans ?_ State.startLanes_keeps
    refine Keeps.trans ?_ State.startField_keeps
    exact Keeps.refl _
  · refine Keeps.trans ?_ State.exitStart_keeps
    refine Keeps.trans ?_ State.decideRole_keeps
    refine Keeps.trans ?_ State.startEpochs_keeps
    refine Keeps.trans ?_ State.startTests_keeps
    refine Keeps.trans ?_ State.startProgram_keeps
    refine Keeps.trans ?_ State.startLanes_keeps
    refine Keeps.trans ?_ State.startField_keeps
    exact Keeps.refl _

theorem State.startPair_keeps {a0 : _} {a1 : _} : Keeps a0 (@State.startPair a0 a1) := by
  unfold State.startPair
  dsimp only
  refine Keeps.ite ?_ ?_
  · refine Keeps.trans ?_ State.startFails_keeps
    refine Keeps.trans ?_ State.startBeat_keeps
    split
    · rename_i v0 v1 v2
      refine Keeps.ite ?_ ?_
      · refine Keeps.ite ?_ ?_
        · exact Keeps.refl _
        · refine Keeps.trans ?_ State.pairLinkUp_keeps
          exact Keeps.refl _
      · refine Keeps.trans ?_ State.exchange_keeps
        refine Keeps.ite ?_ ?_
        · exact Keeps.refl _
        · refine Keeps.trans ?_ State.pairLinkUp_keeps
          exact Keeps.refl _
    · rename_i v3 v4
      refine Keeps.ite ?_ ?_
      · exact Keeps.refl _
      · refine Keeps.trans ?_ State.pairLinkUp_keeps
        exact Keeps.refl _
  · refine Keeps.trans ?_ State.startService_keeps
    refine Keeps.trans ?_ State.startBeat_keeps
    split
    · rename_i v5 v6 v7
      refine Keeps.ite ?_ ?_
      · refine Keeps.ite ?_ ?_
        · exact Keeps.refl _
        · refine Keeps.trans ?_ State.pairLinkUp_keeps
          exact Keeps.refl _
      · refine Keeps.trans ?_ State.exchange_keeps
        refine Keeps.ite ?_ ?_
        · exact Keeps.refl _
        · refine Keeps.trans ?_ State.pairLinkUp_keeps
          exact Keeps.refl _
    · rename_i v8 v9
      refine Keeps.ite ?_ ?_
      · exact Keeps.refl _
      · refine Keeps.trans ?_ State.pairLinkUp_keeps
        exact Keeps.refl _

theorem State.startS4_keeps {s : State} {i : StartIn} : Keeps s (s.startS4 i) := by
  unfold State.startS4
  refine Keeps.ite State.startFails_keeps (Keeps.ite ?_ ?_)
  · refine Keeps.trans ?_ State.showLeds_keeps
    exact Keeps.upd State.setMode_keeps rfl rfl rfl rfl rfl
  · split
    · exact State.rejectNext_keeps.trans State.startFails_keeps
    · rename_i u hu
      refine (State.startS5_keeps hu).trans ?_
      split
      · exact State.rejectNext_keeps.trans State.startFails_keeps
      · rename_i v hv
        exact (State.startS6_keeps hv).trans State.startPair_keeps

theorem State.startS2_keeps {a0 : _} {a1 : _} : Keeps a0 (@State.startS2 a0 a1) := by
  unfold State.startS2
  refine Keeps.ite ?_ ?_
  · refine Keeps.trans ?_ State.showLeds_keeps
    refine Keeps.mkUpd ?_ (by with_reducible rfl) (by with_reducible rfl) (by with_reducible rfl) (by with_reducible rfl)
    exact Keeps.refl _
  · dsimp only
    refine Keeps.ite ?_ ?_
    · refine Keeps.trans ?_ State.startFails_keeps
      refine Keeps.trans ?_ State.openWindow_keeps
      refine Keeps.trans ?_ (Keeps.put (by decide))
      refine Keeps.trans ?_ (Keeps.put (by decide))
      refine Keeps.ite ?_ ?_
      · exact Keeps.refl _
      · refine Keeps.trans ?_ State.bootFallback_keeps
        exact Keeps.refl _
    · refine Keeps.trans ?_ State.startS4_keeps
      refine Keeps.trans ?_ State.startS3_keeps
      refine Keeps.trans ?_ State.openWindow_keeps
      refine Keeps.trans ?_ (Keeps.put (by decide))
      refine Keeps.trans ?_ (Keeps.put (by decide))
      refine Keeps.ite ?_ ?_
      · exact Keeps.refl _
      · refine Keeps.trans ?_ State.bootFallback_keeps
        exact Keeps.refl _

theorem State.startS1Fails_keeps {a0 : _} : Keeps a0 (@State.startS1Fails a0) := by
  unfold State.startS1Fails
  dsimp only
  refine Keeps.ite ?_ ?_
  · refine Keeps.trans ?_ State.showLeds_keeps
    refine Keeps.mkUpd ?_ (by with_reducible rfl) (by with_reducible rfl) (by with_reducible rfl) (by with_reducible rfl)
    refine Keeps.trans ?_ State.onPwr_keeps
    exact Keeps.refl _
  · refine Keeps.trans ?_ State.startFails_keeps
    refine Keeps.trans ?_ State.onPwr_keeps
    refine Keeps.mkUpd ?_ (by with_reducible rfl) (by with_reducible rfl) (by with_reducible rfl) (by with_reducible rfl)
    refine Keeps.trans ?_ State.onPwr_keeps
    exact Keeps.refl _

theorem State.startCauses_keeps {a0 : _} : Keeps a0 (@State.startCauses a0) := by
  unfold State.startCauses
  dsimp only
  refine Keeps.ite ?_ ?_
  · refine Keeps.trans ?_ State.raise_keeps
    refine Keeps.mkUpd ?_ (by with_reducible rfl) (by with_reducible rfl) (by with_reducible rfl) (by with_reducible rfl)
    exact Keeps.refl _
  · refine Keeps.mkUpd ?_ (by with_reducible rfl) (by with_reducible rfl) (by with_reducible rfl) (by with_reducible rfl)
    exact Keeps.refl _

theorem State.start_keeps {a0 : _} {a1 : _} : Keeps a0 (@State.start a0 a1) := by
  unfold State.start
  dsimp only
  split
  · rename_i v0 v1 v2
    refine Keeps.trans ?_ State.startFails_keeps
    refine Keeps.trans ?_ State.startCauses_keeps
    exact Keeps.refl _
  · rename_i v3 v4
    refine Keeps.ite ?_ ?_
    · refine Keeps.trans ?_ State.startS1Fails_keeps
      refine Keeps.trans ?_ State.startCauses_keeps
      exact Keeps.refl _
    · refine Keeps.trans ?_ State.startS2_keeps
      refine Keeps.trans ?_ State.startS1_keeps
      refine Keeps.trans ?_ State.onPwr_keeps
      refine Keeps.trans ?_ State.startCauses_keeps
      exact Keeps.refl _

theorem execStartSequence_keeps {a0 : _} {a1 : _} {t : State} (h : (@execStartSequence a0 a1) = .next t) : Keeps a1 t := by
  unfold execStartSequence at h
  injection h with h
  subst h
  refine Keeps.ite ?_ ?_
  · exact Keeps.refl _
  · refine Keeps.trans ?_ State.start_keeps
    exact Keeps.refl _

theorem execPartnerExchange_keeps {a0 : _} {a1 : _} {a2 : _} {t : State} (h : (@execPartnerExchange a0 a1 a2) = .next t) : Keeps a1 t := by
  unfold execPartnerExchange at h
  injection h with h
  subst h
  refine Keeps.ite ?_ ?_
  · exact Keeps.refl _
  · dsimp only
    refine Keeps.ite ?_ ?_
    · refine Keeps.trans ?_ State.showLeds_keeps
      refine Keeps.trans ?_ State.canShow_keeps
      refine Keeps.trans ?_ State.exitStart_keeps
      refine Keeps.trans ?_ State.decideRole_keeps
      split
      · rename_i v0 v1
        refine Keeps.ite ?_ ?_
        · refine Keeps.mkUpd ?_ (by with_reducible rfl) (by with_reducible rfl) (by with_reducible rfl) (by with_reducible rfl)
          exact Keeps.refl _
        · refine Keeps.trans ?_ State.exchange_keeps
          refine Keeps.mkUpd ?_ (by with_reducible rfl) (by with_reducible rfl) (by with_reducible rfl) (by with_reducible rfl)
          exact Keeps.refl _
      · rename_i v2
        refine Keeps.mkUpd ?_ (by with_reducible rfl) (by with_reducible rfl) (by with_reducible rfl) (by with_reducible rfl)
        exact Keeps.refl _
    · split
      · rename_i v3 v4
        refine Keeps.ite ?_ ?_
        · refine Keeps.mkUpd ?_ (by with_reducible rfl) (by with_reducible rfl) (by with_reducible rfl) (by with_reducible rfl)
          exact Keeps.refl _
        · refine Keeps.trans ?_ State.exchange_keeps
          refine Keeps.mkUpd ?_ (by with_reducible rfl) (by with_reducible rfl) (by with_reducible rfl) (by with_reducible rfl)
          exact Keeps.refl _
      · rename_i v5
        refine Keeps.mkUpd ?_ (by with_reducible rfl) (by with_reducible rfl) (by with_reducible rfl) (by with_reducible rfl)
        exact Keeps.refl _

/-! Beat. -/

theorem State.damper_keeps {a0 : _} : Keeps a0 (@State.damper a0) := by
  unfold State.damper
  refine Keeps.ite ?_ ?_
  · refine Keeps.trans ?_ (Keeps.inc (by decide))
    exact Keeps.refl _
  · exact Keeps.refl _

theorem State.newBeat_keeps {a0 : _} : Keeps a0 (@State.newBeat a0) := by
  unfold State.newBeat
  refine Keeps.mkUpd ?_ (by with_reducible rfl) (by with_reducible rfl) (by with_reducible rfl) (by with_reducible rfl)
  exact Keeps.refl _

theorem State.stepTaken_keeps {a0 : _} {a1 : _} : Keeps a0 (@State.stepTaken a0 a1) := by
  unfold State.stepTaken
  dsimp only
  refine Keeps.ite ?_ ?_
  · refine Keeps.trans ?_ State.becomeAligned_keeps
    refine Keeps.trans ?_ State.raise_keeps
    refine Keeps.trans ?_ State.pinsStep_keeps
    refine Keeps.mkUpd ?_ (by with_reducible rfl) (by with_reducible rfl) (by with_reducible rfl) (by with_reducible rfl)
    exact Keeps.refl _
  · refine Keeps.trans ?_ State.setAlign_keeps
    refine Keeps.trans ?_ (Keeps.put (by decide))
    refine Keeps.trans ?_ State.raise_keeps
    refine Keeps.trans ?_ State.pinsStep_keeps
    refine Keeps.mkUpd ?_ (by with_reducible rfl) (by with_reducible rfl) (by with_reducible rfl) (by with_reducible rfl)
    exact Keeps.refl _

theorem State.turn_keeps {a0 : _} : Keeps a0 (@State.turn a0) := by
  unfold State.turn
  dsimp only
  refine Keeps.ite ?_ ?_
  · refine Keeps.trans ?_ State.stepTaken_keeps
    refine Keeps.trans ?_ (Keeps.put (by decide))
    refine Keeps.trans ?_ State.newBeat_keeps
    refine Keeps.trans ?_ (Keeps.put (by decide))
    exact Keeps.refl _
  · refine Keeps.trans ?_ (Keeps.put (by decide))
    refine Keeps.trans ?_ State.newBeat_keeps
    refine Keeps.trans ?_ (Keeps.put (by decide))
    exact Keeps.refl _

theorem State.pendEdge_keeps {s : State} : Keeps s s.pendEdge := by
  have h : Keeps s { s with regs := s.beat.edgePend.foldl (fun l (w : Nat × Nat) => regPut l w.1 w.2) s.regs
                            beat := { s.beat with edgePend := [] } } :=
    Keeps.drop (Keeps.regFold (Keeps.refl s) (l := s.beat.edgePend) (fun i w hw => i.2.2 w (List.mem_append.2 (.inl hw))))
      rfl rfl (List.nil_subset _) (List.Subset.refl _) rfl
  unfold State.pendEdge
  dsimp only
  exact Keeps.ite h (Keeps.trans h State.bumpPair_keeps)

theorem State.pairEdge_keeps {a0 : _} : Keeps a0 (@State.pairEdge a0) := by
  unfold State.pairEdge
  dsimp only
  refine Keeps.trans ?_ (Keeps.putFlag (by decide))
  refine Keeps.trans ?_ State.refreshDrive_keeps
  refine Keeps.mkUpd ?_ (by with_reducible rfl) (by with_reducible rfl) (by with_reducible rfl) (by with_reducible rfl)
  refine Keeps.trans ?_ State.handoverEdge_keeps
  exact Keeps.refl _

theorem State.reportImageLoss_keeps {a0 : _} : Keeps a0 (@State.reportImageLoss a0) := by
  unfold State.reportImageLoss
  refine Keeps.ite ?_ ?_
  · exact Keeps.refl _
  · dsimp only
    refine Keeps.mkUpd ?_ (by with_reducible rfl) (by with_reducible rfl) (by with_reducible rfl) (by with_reducible rfl)
    refine Keeps.trans ?_ State.raise_keeps
    exact Keeps.refl _

theorem State.journalEdge_keeps {a0 : _} : Keeps a0 (@State.journalEdge a0) := by
  unfold State.journalEdge
  dsimp only
  refine Keeps.ite ?_ ?_
  · refine Keeps.mkUpd ?_ (by with_reducible rfl) (by with_reducible rfl) (by with_reducible rfl) (by with_reducible rfl)
    refine Keeps.trans ?_ State.rollStart_keeps
    refine Keeps.ite ?_ ?_
    · refine Keeps.trans ?_ State.journal_keeps
      refine Keeps.trans ?_ State.journalRetry_keeps
      refine Keeps.mkUpd ?_ (by with_reducible rfl) (by with_reducible rfl) (by with_reducible rfl) (by with_reducible rfl)
      exact Keeps.refl _
    · refine Keeps.trans ?_ State.journalRetry_keeps
      refine Keeps.mkUpd ?_ (by with_reducible rfl) (by with_reducible rfl) (by with_reducible rfl) (by with_reducible rfl)
      exact Keeps.refl _
  · refine Keeps.ite ?_ ?_
    · refine Keeps.trans ?_ State.journal_keeps
      refine Keeps.trans ?_ State.journalRetry_keeps
      refine Keeps.mkUpd ?_ (by with_reducible rfl) (by with_reducible rfl) (by with_reducible rfl) (by with_reducible rfl)
      exact Keeps.refl _
    · refine Keeps.trans ?_ State.journalRetry_keeps
      refine Keeps.mkUpd ?_ (by with_reducible rfl) (by with_reducible rfl) (by with_reducible rfl) (by with_reducible rfl)
      exact Keeps.refl _

theorem State.sampleLocal_keeps {a0 : _} : Keeps a0 (@State.sampleLocal a0) := by
  unfold State.sampleLocal
  refine Keeps.mkUpd ?_ (by with_reducible rfl) (by with_reducible rfl) (by with_reducible rfl) (by with_reducible rfl)
  exact Keeps.refl _

theorem State.blocksEdge_keeps {a0 : _} {a1 : _} : Keeps a0 (@State.blocksEdge a0 a1) := by
  unfold State.blocksEdge
  dsimp only
  refine Keeps.trans ?_ State.dormantEdge_keeps
  refine Keeps.trans ?_ State.sampleLocal_keeps
  refine Keeps.trans ?_ State.showLeds_keeps
  refine Keeps.trans ?_ State.showUnit_keeps
  refine Keeps.ite ?_ ?_
  · refine Keeps.trans ?_ State.imagesEdge_keeps
    refine Keeps.trans ?_ State.debugEdge_keeps
    refine Keeps.trans ?_ State.slewEdge_keeps
    refine Keeps.trans ?_ State.faEdge_keeps
    refine Keeps.trans ?_ State.fieldEdge_keeps
    refine Keeps.trans ?_ State.canEdge_keeps
    refine Keeps.trans ?_ State.crossEdge_keeps
    refine Keeps.trans ?_ State.journalEdge_keeps
    refine Keeps.trans ?_ State.reportImageLoss_keeps
    refine Keeps.trans ?_ State.eventPackets_keeps
    refine Keeps.trans ?_ State.pairEdge_keeps
    refine Keeps.trans ?_ State.pendEdge_keeps
    exact Keeps.refl _
  · refine Keeps.trans ?_ State.showAttempts_keeps
    refine Keeps.trans ?_ State.imagesEdge_keeps
    refine Keeps.trans ?_ State.debugEdge_keeps
    refine Keeps.trans ?_ State.slewEdge_keeps
    refine Keeps.trans ?_ State.faEdge_keeps
    refine Keeps.trans ?_ State.fieldEdge_keeps
    refine Keeps.trans ?_ State.canEdge_keeps
    refine Keeps.trans ?_ State.crossEdge_keeps
    refine Keeps.trans ?_ State.journalEdge_keeps
    refine Keeps.trans ?_ State.reportImageLoss_keeps
    refine Keeps.trans ?_ State.eventPackets_keeps
    refine Keeps.trans ?_ State.pairEdge_keeps
    refine Keeps.trans ?_ State.pendEdge_keeps
    exact Keeps.refl _

theorem State.beatEdge_keeps {a0 : _} {a1 : _} : Keeps a0 (@State.beatEdge a0 a1) := by
  unfold State.beatEdge
  refine Keeps.ite ?_ ?_
  · exact Keeps.refl _
  · dsimp only
    refine Keeps.ite ?_ ?_
    · refine Keeps.trans ?_ State.enterStart_keeps
      refine Keeps.mkUpd ?_ (by with_reducible rfl) (by with_reducible rfl) (by with_reducible rfl) (by with_reducible rfl)
      refine Keeps.trans ?_ State.turn_keeps
      refine Keeps.trans ?_ State.damper_keeps
      exact Keeps.refl _
    · refine Keeps.trans ?_ State.blocksEdge_keeps
      refine Keeps.mkUpd ?_ (by with_reducible rfl) (by with_reducible rfl) (by with_reducible rfl) (by with_reducible rfl)
      refine Keeps.trans ?_ State.turn_keeps
      refine Keeps.trans ?_ State.damper_keeps
      exact Keeps.refl _

theorem execBeatEdge_keeps {a0 : _} {a1 : _} {t : State} (h : (@execBeatEdge a0 a1) = .next t) : Keeps a1 t := by
  unfold execBeatEdge at h
  injection h with h
  subst h
  refine Keeps.trans ?_ State.beatEdge_keeps
  exact Keeps.refl _

theorem State.ownImage_keeps {a0 : _} : Keeps a0 (@State.ownImage a0) := by
  unfold State.ownImage
  dsimp only
  refine Keeps.mkUpd ?_ (by with_reducible rfl) (by with_reducible rfl) (by with_reducible rfl) (by with_reducible rfl)
  exact Keeps.refl _

theorem State.imageStands_keeps {a0 : _} : Keeps a0 (@State.imageStands a0) := by
  unfold State.imageStands
  refine Keeps.ite ?_ ?_
  · exact Keeps.refl _
  · refine Keeps.ite ?_ ?_
    · refine Keeps.mkUpd ?_ (by with_reducible rfl) (by with_reducible rfl) (by with_reducible rfl) (by with_reducible rfl)
      exact Keeps.refl _
    · refine Keeps.mkUpd ?_ (by with_reducible rfl) (by with_reducible rfl) (by with_reducible rfl) (by with_reducible rfl)
      exact Keeps.refl _

theorem State.imageEvents_keeps {a0 : _} : Keeps a0 (@State.imageEvents a0) := by
  unfold State.imageEvents
  refine Keeps.mkUpd ?_ (by with_reducible rfl) (by with_reducible rfl) (by with_reducible rfl) (by with_reducible rfl)
  exact Keeps.refl _

theorem State.imageSent_keeps {a0 : _} : Keeps a0 (@State.imageSent a0) := by
  unfold State.imageSent
  refine Keeps.ite ?_ ?_
  · exact Keeps.refl _
  · split
    · rename_i v0 v1 v2 v3
      dsimp only
      refine Keeps.mkUpd ?_ (by with_reducible rfl) (by with_reducible rfl) (by with_reducible rfl) (by with_reducible rfl)
      refine Keeps.ofSnd v3 ?_
      refine Keeps.trans ?_ State.fresh_keeps
      exact Keeps.refl _

theorem State.haltPending_keeps {a0 : _} : Keeps a0 (@State.haltPending a0) := by
  unfold State.haltPending
  refine Keeps.ite ?_ ?_
  · dsimp only
    refine Keeps.mkUpd ?_ (by with_reducible rfl) (by with_reducible rfl) (by with_reducible rfl) (by with_reducible rfl)
    refine Keeps.trans ?_ State.dbgHalt_keeps
    exact Keeps.refl _
  · exact Keeps.refl _

theorem State.lateViews_keeps {a0 : _} {a1 : _} : Keeps a0 (@State.lateViews a0 a1) := by
  unfold State.lateViews
  split
  · rename_i v0 v1 v2
    refine Keeps.ite ?_ ?_
    · exact Keeps.refl _
    · dsimp only
      refine Keeps.mkUpd ?_ (by with_reducible rfl) (by with_reducible rfl) (by with_reducible rfl) (by with_reducible rfl)
      exact Keeps.refl _
  · rename_i v3 v4
    exact Keeps.refl _

theorem State.clusterStarts_keeps {a0 : _} : Keeps a0 (@State.clusterStarts a0) := by
  unfold State.clusterStarts
  refine Keeps.trans ?_ State.releaseAll_keeps
  refine Keeps.trans ?_ State.loopIntake_keeps
  refine Keeps.mkUpd ?_ (by with_reducible rfl) (by with_reducible rfl) (by with_reducible rfl) (by with_reducible rfl)
  exact Keeps.refl _

theorem State.imageStarts_keeps {a0 : _} {a1 : _} {a2 : _} : Keeps a0 (@State.imageStarts a0 a1 a2) := by
  unfold State.imageStarts
  refine Keeps.ite ?_ ?_
  · exact Keeps.refl _
  · dsimp only
    refine Keeps.trans ?_ (State.onCluster_keeps ?_)
    · refine Keeps.trans ?_ (State.onCluster_keeps ?_)
      · refine Keeps.trans ?_ State.lateViews_keeps
        refine Keeps.trans ?_ State.startCompute_keeps
        exact Keeps.refl _
      · intro v0
        refine Keeps.trans ?_ State.clusterStarts_keeps
        exact Keeps.refl _
    · intro v1
      refine Keeps.trans ?_ State.clusterStarts_keeps
      exact Keeps.refl _

theorem State.imageComplete_keeps {a0 : _} {a1 : _} : Keeps a0 (@State.imageComplete a0 a1) := by
  unfold State.imageComplete
  refine Keeps.ite ?_ ?_
  · exact Keeps.refl _
  · dsimp only
    refine Keeps.trans ?_ State.imageStarts_keeps
    refine Keeps.mkUpd ?_ (by with_reducible rfl) (by with_reducible rfl) (by with_reducible rfl) (by with_reducible rfl)
    refine Keeps.trans ?_ State.haltPending_keeps
    refine Keeps.trans ?_ State.imageSent_keeps
    refine Keeps.trans ?_ State.imageEvents_keeps
    refine Keeps.trans ?_ State.imageStands_keeps
    refine Keeps.trans ?_ State.ownImage_keeps
    refine Keeps.trans ?_ State.canFreeze_keeps
    exact Keeps.refl _

theorem execImageComplete_keeps {a0 : _} {a1 : _} {t : State} (h : (@execImageComplete a0 a1) = .next t) : Keeps a1 t := by
  unfold execImageComplete at h
  injection h with h
  subst h
  refine Keeps.trans ?_ State.imageComplete_keeps
  exact Keeps.refl _

/-! Freeze. -/

theorem State.takeCause_keeps {a0 : _} {a1 : _} : Keeps a0 (@State.takeCause a0 a1) := by
  unfold State.takeCause
  dsimp only
  split
  · rename_i v0
    refine Keeps.mkUpd ?_ (by with_reducible rfl) (by with_reducible rfl) (by with_reducible rfl) (by with_reducible rfl)
    exact Keeps.refl _
  · rename_i v1 v2
    split
    · rename_i v3 v4 v5
      refine Keeps.trans ?_ State.enterSafe_keeps
      refine Keeps.mkUpd ?_ (by with_reducible rfl) (by with_reducible rfl) (by with_reducible rfl) (by with_reducible rfl)
      exact Keeps.refl _
    · rename_i v6 v7
      refine Keeps.trans ?_ State.enterStart_keeps
      refine Keeps.mkUpd ?_ (by with_reducible rfl) (by with_reducible rfl) (by with_reducible rfl) (by with_reducible rfl)
      exact Keeps.refl _
    · rename_i v8 v9
      refine Keeps.trans ?_ State.keyStops_keeps
      refine Keeps.mkUpd ?_ (by with_reducible rfl) (by with_reducible rfl) (by with_reducible rfl) (by with_reducible rfl)
      exact Keeps.refl _
    · rename_i v10 v11
      refine Keeps.ite ?_ ?_
      · refine Keeps.trans ?_ State.enterStop_keeps
        refine Keeps.mkUpd ?_ (by with_reducible rfl) (by with_reducible rfl) (by with_reducible rfl) (by with_reducible rfl)
        exact Keeps.refl _
      · refine Keeps.mkUpd ?_ (by with_reducible rfl) (by with_reducible rfl) (by with_reducible rfl) (by with_reducible rfl)
        exact Keeps.refl _

theorem State.freezeFirst_keeps {a0 : _} : Keeps a0 (@State.freezeFirst a0) := by
  unfold State.freezeFirst
  dsimp only
  refine Keeps.ite ?_ ?_
  · refine Keeps.mkUpd ?_ (by with_reducible rfl) (by with_reducible rfl) (by with_reducible rfl) (by with_reducible rfl)
    refine Keeps.trans ?_ State.takeCause_keeps
    refine Keeps.mkUpd ?_ (by with_reducible rfl) (by with_reducible rfl) (by with_reducible rfl) (by with_reducible rfl)
    exact Keeps.refl _
  · refine Keeps.ite ?_ ?_
    · refine Keeps.trans ?_ State.stopShadow_keeps
      refine Keeps.trans ?_ State.panelFreeze_keeps
      refine Keeps.mkUpd ?_ (by with_reducible rfl) (by with_reducible rfl) (by with_reducible rfl) (by with_reducible rfl)
      refine Keeps.ite ?_ ?_
      · refine Keeps.trans ?_ State.restartPair_keeps
        refine Keeps.mkUpd ?_ (by with_reducible rfl) (by with_reducible rfl) (by with_reducible rfl) (by with_reducible rfl)
        refine Keeps.trans ?_ State.takeCause_keeps
        refine Keeps.mkUpd ?_ (by with_reducible rfl) (by with_reducible rfl) (by with_reducible rfl) (by with_reducible rfl)
        exact Keeps.refl _
      · refine Keeps.trans ?_ State.takeCause_keeps
        refine Keeps.mkUpd ?_ (by with_reducible rfl) (by with_reducible rfl) (by with_reducible rfl) (by with_reducible rfl)
        exact Keeps.refl _
    · refine Keeps.trans ?_ State.panelFreeze_keeps
      refine Keeps.mkUpd ?_ (by with_reducible rfl) (by with_reducible rfl) (by with_reducible rfl) (by with_reducible rfl)
      refine Keeps.ite ?_ ?_
      · refine Keeps.trans ?_ State.restartPair_keeps
        refine Keeps.mkUpd ?_ (by with_reducible rfl) (by with_reducible rfl) (by with_reducible rfl) (by with_reducible rfl)
        refine Keeps.trans ?_ State.takeCause_keeps
        refine Keeps.mkUpd ?_ (by with_reducible rfl) (by with_reducible rfl) (by with_reducible rfl) (by with_reducible rfl)
        exact Keeps.refl _
      · refine Keeps.trans ?_ State.takeCause_keeps
        refine Keeps.mkUpd ?_ (by with_reducible rfl) (by with_reducible rfl) (by with_reducible rfl) (by with_reducible rfl)
        exact Keeps.refl _

theorem applyCmd_keeps {a0 : _} {a1 : _} {a2 : _} : Keeps a2 (@applyCmd a0 a1 a2).st := by
  unfold applyCmd
  dsimp only
  split
  · rename_i v0 v1
    refine Keeps.trans ?_ modeSetApply_keeps
    exact Keeps.refl _
  · rename_i v2 v3
    refine Keeps.trans ?_ restartApply_keeps
    exact Keeps.refl _
  · rename_i v4 v5
    refine Keeps.trans ?_ valueWriteApply_keeps
    exact Keeps.refl _
  · rename_i v6 v7
    refine Keeps.trans ?_ constWriteApply_keeps
    exact Keeps.refl _
  · rename_i v8 v9
    refine Keeps.trans ?_ forceSetApply_keeps
    exact Keeps.refl _
  · rename_i v10 v11
    refine Keeps.trans ?_ forceClearApply_keeps
    exact Keeps.refl _
  · rename_i v12 v13
    refine Keeps.trans ?_ valueOwnApply_keeps
    exact Keeps.refl _
  · rename_i v14 v15
    refine Keeps.trans ?_ valueReleaseApply_keeps
    exact Keeps.refl _
  · rename_i v16 v17
    refine Keeps.trans ?_ loopModeSetApply_keeps
    exact Keeps.refl _
  · rename_i v18 v19
    refine Keeps.trans ?_ loopSpSetApply_keeps
    exact Keeps.refl _
  · rename_i v20 v21
    refine Keeps.trans ?_ loopCoeffSetApply_keeps
    exact Keeps.refl _
  · rename_i v22 v23
    refine Keeps.trans ?_ chimeSetApply_keeps
    exact Keeps.refl _
  · rename_i v24 v25
    refine Keeps.trans ?_ rimshotArmApply_keeps
    exact Keeps.refl _
  · rename_i v26 v27
    refine Keeps.trans ?_ canObjSetApply_keeps
    exact Keeps.refl _
  · rename_i v28 v29
    refine Keeps.trans ?_ securityStateSetApply_keeps
    exact Keeps.refl _
  · rename_i v30 v31
    refine Keeps.trans ?_ dormantEnterApply_keeps
    exact Keeps.refl _
  · rename_i v32 v33
    refine Keeps.trans ?_ switchoverApply_keeps
    exact Keeps.refl _
  · rename_i v34 v35
    refine Keeps.trans ?_ resyncApply_keeps
    exact Keeps.refl _
  · rename_i v36 v37
    refine Keeps.trans ?_ shadowStartApply_keeps
    exact Keeps.refl _
  · rename_i v38 v39
    refine Keeps.trans ?_ promoteApply_keeps
    exact Keeps.refl _
  · rename_i v40 v41
    refine Keeps.trans ?_ revertApply_keeps
    exact Keeps.refl _
  · rename_i v42 v43
    refine Keeps.trans ?_ changeConfirmApply_keeps
    exact Keeps.refl _
  · rename_i v44 v45
    refine Keeps.trans ?_ objWriteApply_keeps
    exact Keeps.refl _
  · rename_i v46 v47
    refine Keeps.trans ?_ ioConfigApply_keeps
    exact Keeps.refl _
  · rename_i v48 v49 v50 v51 v52 v53 v54 v55 v56 v57 v58 v59 v60 v61 v62 v63 v64 v65 v66 v67 v68 v69 v70 v71 v72
    dsimp only
    exact Keeps.refl _

theorem State.freezeOne_keeps {a0 : _} {a1 : _} {a2 : _} {a3 : _} : Keeps a0 (@State.freezeOne a0 a1 a2 a3).1 := by
  unfold State.freezeOne
  split
  · rename_i v0 v1 v2 v3
    dsimp only
    refine Keeps.trans ?_ State.afterFreeze_keeps
    exact Keeps.refl _
  · rename_i v4 v5 v6
    refine Keeps.iteFst ?_ ?_
    · dsimp only
      refine Keeps.trans ?_ State.lateEpoch_keeps
      exact Keeps.refl _
    · split
      · rename_i v7 v8 v9 v10
        dsimp only
        refine Keeps.trans ?_ State.afterFreeze_keeps
        exact Keeps.refl _
      · rename_i v11 v12
        dsimp only
        split
        · rename_i v13 v14 v15
          dsimp only
          refine Keeps.trans ?_ State.afterFreeze_keeps
          exact Keeps.refl _
        · rename_i v16 v17
          dsimp only
          refine Keeps.trans ?_ State.afterFreeze_keeps
          refine Keeps.ite ?_ ?_
          · refine Keeps.mkUpd ?_ (by with_reducible rfl) (by with_reducible rfl) (by with_reducible rfl) (by with_reducible rfl)
            refine Keeps.trans ?_ applyCmd_keeps
            exact Keeps.refl _
          · refine Keeps.trans ?_ applyCmd_keeps
            exact Keeps.refl _

theorem freezeAll_keeps {c : Option Cause} {l : List QCmd} {s : State} {w : List (Target × Nat)} :
    Keeps s (freezeAll c l s w) := by
  induction l generalizing s w with
  | nil => exact Keeps.refl s
  | cons q t ih =>
    unfold freezeAll
    dsimp only
    exact Keeps.ite (Keeps.refl s) (Keeps.trans State.freezeOne_keeps ih)

theorem State.refuseLosers_keeps {a0 : _} : Keeps a0 (@State.refuseLosers a0) := by
  unfold State.refuseLosers
  refine Keeps.ite ?_ ?_
  · refine Keeps.foldl ?_ (fun v0 v1 => ?_)
    · exact Keeps.refl _
    · refine Keeps.trans ?_ State.afterFreeze_keeps
      exact Keeps.refl _
  · exact Keeps.refl _

theorem State.freezeApply_keeps {a0 : _} : Keeps a0 (@State.freezeApply a0) := by
  unfold State.freezeApply
  refine Keeps.ite ?_ ?_
  · exact Keeps.refl _
  · dsimp only
    refine Keeps.trans ?_ State.showLeds_keeps
    refine Keeps.trans ?_ freezeAll_keeps
    refine Keeps.mkUpd ?_ (by with_reducible rfl) (by with_reducible rfl) (by with_reducible rfl) (by with_reducible rfl)
    refine Keeps.trans ?_ State.freezeFirst_keeps
    refine Keeps.trans ?_ State.refuseLosers_keeps
    exact Keeps.refl _

theorem execFreezeCommandApply_keeps {a0 : _} {t : State} (h : (@execFreezeCommandApply a0) = .next t) : Keeps a0 t := by
  unfold execFreezeCommandApply at h
  injection h with h
  subst h
  refine Keeps.trans ?_ State.freezeApply_keeps
  exact Keeps.refl _

/-! Commit. -/

theorem State.accountBeat_keeps {a0 : _} : Keeps a0 (@State.accountBeat a0) := by
  unfold State.accountBeat
  dsimp only
  refine Keeps.ite ?_ ?_
  · refine Keeps.trans ?_ (Keeps.put (by decide))
    refine Keeps.trans ?_ (Keeps.put (by decide))
    refine Keeps.trans ?_ (Keeps.put (by decide))
    refine Keeps.mkUpd ?_ (by with_reducible rfl) (by with_reducible rfl) (by with_reducible rfl) (by with_reducible rfl)
    exact Keeps.refl _
  · refine Keeps.trans ?_ (Keeps.put (by decide))
    refine Keeps.trans ?_ (Keeps.put (by decide))
    refine Keeps.mkUpd ?_ (by with_reducible rfl) (by with_reducible rfl) (by with_reducible rfl) (by with_reducible rfl)
    exact Keeps.refl _

theorem State.engineEnds_keeps {a0 : _} {a1 : _} {a2 : _} : Keeps a0 (@State.engineEnds a0 a1 a2) := by
  unfold State.engineEnds
  refine Keeps.ite ?_ ?_
  · exact Keeps.refl _
  · dsimp only
    refine Keeps.trans ?_ State.cutLoops_keeps
    refine Keeps.trans ?_ (Keeps.put (by decide))
    refine Keeps.mkUpd ?_ (by with_reducible rfl) (by with_reducible rfl) (by with_reducible rfl) (by with_reducible rfl)
    exact Keeps.refl _

theorem State.cutSlices_keeps {a0 : _} : Keeps a0 (@State.cutSlices a0) := by
  unfold State.cutSlices
  refine Keeps.foldl ?_ (fun v0 v1 => ?_)
  · exact Keeps.refl _
  · refine Keeps.ite ?_ ?_
    · refine Keeps.trans ?_ State.watchClass_keeps
      refine Keeps.mkUpd ?_ (by with_reducible rfl) (by with_reducible rfl) (by with_reducible rfl) (by with_reducible rfl)
      exact Keeps.refl _
    · exact Keeps.refl _

theorem State.commitStart_keeps {a0 : _} {a1 : _} {a2 : _} : Keeps a0 (@State.commitStart a0 a1 a2) := by
  unfold State.commitStart
  refine Keeps.ite ?_ ?_
  · exact Keeps.refl _
  · dsimp only
    refine Keeps.trans ?_ (State.onCluster_keeps ?_)
    · refine Keeps.trans ?_ (State.onCluster_keeps ?_)
      · refine Keeps.trans ?_ State.engineEnds_keeps
        refine Keeps.trans ?_ State.accountBeat_keeps
        refine Keeps.mkUpd ?_ (by with_reducible rfl) (by with_reducible rfl) (by with_reducible rfl) (by with_reducible rfl)
        refine Keeps.trans ?_ (State.onClusters_keeps ?_)
        · exact Keeps.refl _
        · intro v0
          refine Keeps.trans ?_ State.cutSlices_keeps
          exact Keeps.refl _
      · intro v1
        refine Keeps.trans ?_ State.engineEnds_keeps
        exact Keeps.refl _
    · intro v2
      refine Keeps.trans ?_ State.engineEnds_keeps
      exact Keeps.refl _

theorem execCommitStart_keeps {a0 : _} {a1 : _} {a2 : _} {t : State} (h : (@execCommitStart a0 a1 a2) = .next t) : Keeps a2 t := by
  unfold execCommitStart at h
  injection h with h
  subst h
  refine Keeps.trans ?_ State.commitStart_keeps
  exact Keeps.refl _

theorem State.commitDone_keeps {a0 : _} : Keeps a0 (@State.commitDone a0) := by
  unfold State.commitDone
  refine Keeps.ite ?_ ?_
  · exact Keeps.refl _
  · dsimp only
    refine Keeps.ite ?_ ?_
    · refine Keeps.ite ?_ ?_
      · refine Keeps.mkUpd ?_ (by with_reducible rfl) (by with_reducible rfl) (by with_reducible rfl) (by with_reducible rfl)
        refine Keeps.trans ?_ State.retainSnapshot_keeps
        refine Keeps.ite ?_ ?_
        · exact Keeps.refl _
        · refine Keeps.trans ?_ (State.onClusters_keeps ?_)
          · exact Keeps.refl _
          · intro v0
            refine Keeps.trans ?_ State.commitRuntime_keeps
            exact Keeps.refl _
      · refine Keeps.mkUpd ?_ (by with_reducible rfl) (by with_reducible rfl) (by with_reducible rfl) (by with_reducible rfl)
        refine Keeps.trans ?_ State.retainSnapshot_keeps
        refine Keeps.ite ?_ ?_
        · exact Keeps.refl _
        · refine Keeps.trans ?_ (State.onClusters_keeps ?_)
          · exact Keeps.refl _
          · intro v1
            refine Keeps.trans ?_ State.commitRuntime_keeps
            exact Keeps.refl _
    · refine Keeps.ite ?_ ?_
      · refine Keeps.mkUpd ?_ (by with_reducible rfl) (by with_reducible rfl) (by with_reducible rfl) (by with_reducible rfl)
        refine Keeps.trans ?_ State.retainSnapshot_keeps
        refine Keeps.ite ?_ ?_
        · exact Keeps.refl _
        · refine Keeps.trans ?_ (State.onClusters_keeps ?_)
          · exact Keeps.refl _
          · intro v2
            refine Keeps.trans ?_ State.commitRuntime_keeps
            exact Keeps.refl _
      · refine Keeps.mkUpd ?_ (by with_reducible rfl) (by with_reducible rfl) (by with_reducible rfl) (by with_reducible rfl)
        refine Keeps.trans ?_ State.retainSnapshot_keeps
        refine Keeps.ite ?_ ?_
        · exact Keeps.refl _
        · refine Keeps.trans ?_ (State.onClusters_keeps ?_)
          · exact Keeps.refl _
          · intro v3
            refine Keeps.trans ?_ State.commitRuntime_keeps
            exact Keeps.refl _

theorem execCommitDone_keeps {a0 : _} {t : State} (h : (@execCommitDone a0) = .next t) : Keeps a0 t := by
  unfold execCommitDone at h
  injection h with h
  subst h
  refine Keeps.trans ?_ State.commitDone_keeps
  exact Keeps.refl _

theorem State.putByAll_keeps {a0 : _} : Keeps a0 (@State.putByAll a0) := by
  unfold State.putByAll
  refine Keeps.trans ?_ State.putByWork_keeps
  exact Keeps.refl _

theorem State.commitLate_keeps {a0 : _} : Keeps a0 (@State.commitLate a0) := by
  unfold State.commitLate
  refine Keeps.ite ?_ ?_
  · exact Keeps.refl _
  · dsimp only
    refine Keeps.trans ?_ State.raise_keeps
    refine Keeps.trans ?_ (Keeps.put (by decide))
    refine Keeps.mkUpd ?_ (by with_reducible rfl) (by with_reducible rfl) (by with_reducible rfl) (by with_reducible rfl)
    refine Keeps.trans ?_ (State.onClusters_keeps ?_)
    · exact Keeps.refl _
    · intro v0
      refine Keeps.trans ?_ State.putByAll_keeps
      exact Keeps.refl _

theorem execCommitLate_keeps {a0 : _} {t : State} (h : (@execCommitLate a0) = .next t) : Keeps a0 t := by
  unfold execCommitLate at h
  injection h with h
  subst h
  refine Keeps.trans ?_ State.commitLate_keeps
  exact Keeps.refl _

theorem State.emitStart_keeps {a0 : _} : Keeps a0 (@State.emitStart a0) := by
  unfold State.emitStart
  refine Keeps.ite ?_ ?_
  · exact Keeps.refl _
  · dsimp only
    refine Keeps.ite ?_ ?_
    · refine Keeps.trans ?_ State.armLatches_keeps
      refine Keeps.ite ?_ ?_
      · refine Keeps.trans ?_ State.canCommit_keeps
        refine Keeps.trans ?_ State.emitWsl_keeps
        refine Keeps.ite ?_ ?_
        · refine Keeps.trans ?_ State.emitForwarded_keeps
          refine Keeps.trans ?_ State.emitLanes_keeps
          refine Keeps.mkUpd ?_ (by with_reducible rfl) (by with_reducible rfl) (by with_reducible rfl) (by with_reducible rfl)
          exact Keeps.refl _
        · refine Keeps.trans ?_ State.emitLanes_keeps
          refine Keeps.mkUpd ?_ (by with_reducible rfl) (by with_reducible rfl) (by with_reducible rfl) (by with_reducible rfl)
          exact Keeps.refl _
      · refine Keeps.trans ?_ State.emitWsl_keeps
        refine Keeps.ite ?_ ?_
        · refine Keeps.trans ?_ State.emitForwarded_keeps
          refine Keeps.trans ?_ State.emitLanes_keeps
          refine Keeps.mkUpd ?_ (by with_reducible rfl) (by with_reducible rfl) (by with_reducible rfl) (by with_reducible rfl)
          exact Keeps.refl _
        · refine Keeps.trans ?_ State.emitLanes_keeps
          refine Keeps.mkUpd ?_ (by with_reducible rfl) (by with_reducible rfl) (by with_reducible rfl) (by with_reducible rfl)
          exact Keeps.refl _
    · refine Keeps.ite ?_ ?_
      · refine Keeps.trans ?_ State.canCommit_keeps
        refine Keeps.trans ?_ State.emitWsl_keeps
        refine Keeps.ite ?_ ?_
        · refine Keeps.trans ?_ State.emitForwarded_keeps
          refine Keeps.trans ?_ State.emitLanes_keeps
          refine Keeps.mkUpd ?_ (by with_reducible rfl) (by with_reducible rfl) (by with_reducible rfl) (by with_reducible rfl)
          exact Keeps.refl _
        · refine Keeps.trans ?_ State.emitLanes_keeps
          refine Keeps.mkUpd ?_ (by with_reducible rfl) (by with_reducible rfl) (by with_reducible rfl) (by with_reducible rfl)
          exact Keeps.refl _
      · refine Keeps.trans ?_ State.emitWsl_keeps
        refine Keeps.ite ?_ ?_
        · refine Keeps.trans ?_ State.emitForwarded_keeps
          refine Keeps.trans ?_ State.emitLanes_keeps
          refine Keeps.mkUpd ?_ (by with_reducible rfl) (by with_reducible rfl) (by with_reducible rfl) (by with_reducible rfl)
          exact Keeps.refl _
        · refine Keeps.trans ?_ State.emitLanes_keeps
          refine Keeps.mkUpd ?_ (by with_reducible rfl) (by with_reducible rfl) (by with_reducible rfl) (by with_reducible rfl)
          exact Keeps.refl _

theorem execEmitStart_keeps {a0 : _} {t : State} (h : (@execEmitStart a0) = .next t) : Keeps a0 t := by
  unfold execEmitStart at h
  injection h with h
  subst h
  refine Keeps.trans ?_ State.emitStart_keeps
  exact Keeps.refl _

theorem State.trackOverflow_keeps {a0 : _} {a1 : _} : Keeps a0 (@State.trackOverflow a0 a1) := by
  unfold State.trackOverflow
  dsimp only
  refine Keeps.trans ?_ (Keeps.put (by decide))
  refine Keeps.mkUpd ?_ (by with_reducible rfl) (by with_reducible rfl) (by with_reducible rfl) (by with_reducible rfl)
  refine Keeps.trans ?_ State.raise_keeps
  refine Keeps.trans ?_ (Keeps.inc (by decide))
  exact Keeps.refl _

theorem State.logTrack_keeps {a0 : _} {a1 : _} : Keeps a0 (@State.logTrack a0 a1) := by
  unfold State.logTrack
  dsimp only
  refine Keeps.trans ?_ (Keeps.put (by decide))
  refine Keeps.mkUpd ?_ (by with_reducible rfl) (by with_reducible rfl) (by with_reducible rfl) (by with_reducible rfl)
  exact Keeps.refl _

theorem State.sendClose_keeps {a0 : _} {a1 : _} {a2 : _} : Keeps a0 (@State.sendClose a0 a1 a2) := by
  unfold State.sendClose
  dsimp only
  refine Keeps.ite ?_ ?_
  · refine Keeps.trans ?_ State.trackOverflow_keeps
    refine Keeps.trans ?_ (Keeps.put (by decide))
    refine Keeps.mkUpd ?_ (by with_reducible rfl) (by with_reducible rfl) (by with_reducible rfl) (by with_reducible rfl)
    refine Keeps.trans ?_ State.logTrack_keeps
    exact Keeps.refl _
  · refine Keeps.trans ?_ (Keeps.put (by decide))
    refine Keeps.mkUpd ?_ (by with_reducible rfl) (by with_reducible rfl) (by with_reducible rfl) (by with_reducible rfl)
    refine Keeps.trans ?_ State.logTrack_keeps
    exact Keeps.refl _

theorem State.trackingClose_keeps {a0 : _} {a1 : _} {a2 : _} : Keeps a0 (@State.trackingClose a0 a1 a2) := by
  unfold State.trackingClose
  refine Keeps.ite ?_ ?_
  · exact Keeps.refl _
  · dsimp only
    refine Keeps.mkUpd ?_ (by with_reducible rfl) (by with_reducible rfl) (by with_reducible rfl) (by with_reducible rfl)
    refine Keeps.trans ?_ State.releaseHeld_keeps
    refine Keeps.ite ?_ ?_
    · refine Keeps.trans ?_ State.logTrack_keeps
      exact Keeps.refl _
    · refine Keeps.trans ?_ State.sendClose_keeps
      exact Keeps.refl _

theorem execTrackingCloseSend_keeps {a0 : _} {a1 : _} {a2 : _} {t : State} (h : (@execTrackingCloseSend a0 a1 a2) = .next t) : Keeps a2 t := by
  unfold execTrackingCloseSend at h
  injection h with h
  subst h
  refine Keeps.trans ?_ State.trackingClose_keeps
  exact Keeps.refl _

theorem execRetainMirrorDone_keeps {a0 : _} {t : State} (h : (@execRetainMirrorDone a0) = .next t) : Keeps a0 t := by
  unfold execRetainMirrorDone at h
  injection h with h
  subst h
  split
  · rename_i v0 v1 v2
    refine Keeps.trans ?_ State.storeMirror_keeps
    exact Keeps.refl _
  · rename_i v3 v4
    exact Keeps.refl _

end Sys2Proof.Machine
end

