-- ==== Sys2Proof/Laws/TouchBase.lean ====
section
/-! SUPPORT. `Touches`: an operation changes only the parts named. The lemmas of the shared operations; the files Touch… hold one
lemma per function of each family. -/

namespace Sys2Proof.Machine

open Sys2Proof

theorem Touches.refl {m : Parts} (s : State) : Touches m s s := rfl

theorem Parts.pick {α : Type} {a b : Bool} {x y z : α} (l : a = false ∨ b = true) (h : (bif a then z else x) = (bif a then z else y)) :
    (bif b then z else x) = (bif b then z else y) := by
  rcases l with rfl | rfl
  · simp only [cond_false] at h
    rw [h]
  · rfl

/-- Two states that differ in no part but those of a smaller set. -/
theorem Touches.mono {m n : Parts} {s t : State} (h : Touches m s t) (l : m.le n = true) : Touches n s t := by
  simp only [Touches, State.without, State.mk.injEq] at h ⊢
  simp only [Parts.le, Bool.and_eq_true, Bool.or_eq_true, Bool.not_eq_true'] at l
  obtain ⟨h_regs, h_mem, h_free, h_beat, h_ev, h_lcp, h_jr, h_units, h_wd, h_rt, h_rtY, h_rtZ, h_loops, h_pair, h_sec, h_triad, h_pwr, h_img, h_panel, h_lanes, h_field, h_time, h_can, h_pending⟩ := h
  obtain ⟨⟨⟨⟨⟨⟨⟨⟨⟨⟨⟨⟨⟨⟨⟨⟨⟨⟨⟨⟨⟨⟨l_regs, l_mem⟩, l_free⟩, l_beat⟩, l_ev⟩, l_lcp⟩, l_jr⟩, l_units⟩, l_wd⟩, l_rt⟩, l_rtY⟩, l_rtZ⟩, l_loops⟩, l_pair⟩, l_sec⟩, l_triad⟩, l_pwr⟩, l_img⟩, l_panel⟩, l_lanes⟩, l_field⟩, l_time⟩, l_can⟩ := l
  exact ⟨Parts.pick l_regs h_regs, Parts.pick l_mem h_mem, Parts.pick l_free h_free, Parts.pick l_beat h_beat, Parts.pick l_ev h_ev, Parts.pick l_lcp h_lcp, Parts.pick l_jr h_jr, Parts.pick l_units h_units, Parts.pick l_wd h_wd, Parts.pick l_rt h_rt, Parts.pick l_rtY h_rtY,
    Parts.pick l_rtZ h_rtZ, Parts.pick l_loops h_loops, Parts.pick l_pair h_pair, Parts.pick l_sec h_sec, Parts.pick l_triad h_triad, Parts.pick l_pwr h_pwr, Parts.pick l_img h_img, Parts.pick l_panel h_panel, Parts.pick l_lanes h_lanes, Parts.pick l_field h_field, Parts.pick l_time h_time, Parts.pick l_can h_can, h_pending⟩

theorem Touches.trans {m n : Parts} {s t u : State} (h : Touches m s t) (k : Touches n t u) (l : n.le m = true) : Touches m s u :=
  Eq.trans (k.mono l) h

theorem Touches.comp {m : Parts} {s t u : State} (h : Touches m s t) (k : Touches m t u) : Touches m s u := Eq.trans k h

theorem Parts.step {a b c : Bool} (h : a = false ∨ b = true) (k : b = false ∨ c = true) : a = false ∨ c = true := by
  rcases h with h | h
  · exact .inl h
  · exact .inr (k.resolve_left (by simp [h]))

theorem Parts.le_trans {a b c : Parts} (h : a.le b = true) (k : b.le c = true) : a.le c = true := by
  simp only [Parts.le, Bool.and_eq_true, Bool.or_eq_true, Bool.not_eq_true'] at h k ⊢
  obtain ⟨⟨⟨⟨⟨⟨⟨⟨⟨⟨⟨⟨⟨⟨⟨⟨⟨⟨⟨⟨⟨⟨h_regs, h_mem⟩, h_free⟩, h_beat⟩, h_ev⟩, h_lcp⟩, h_jr⟩, h_units⟩, h_wd⟩, h_rt⟩, h_rtY⟩, h_rtZ⟩, h_loops⟩, h_pair⟩, h_sec⟩, h_triad⟩, h_pwr⟩, h_img⟩, h_panel⟩, h_lanes⟩, h_field⟩, h_time⟩, h_can⟩ := h
  obtain ⟨⟨⟨⟨⟨⟨⟨⟨⟨⟨⟨⟨⟨⟨⟨⟨⟨⟨⟨⟨⟨⟨k_regs, k_mem⟩, k_free⟩, k_beat⟩, k_ev⟩, k_lcp⟩, k_jr⟩, k_units⟩, k_wd⟩, k_rt⟩, k_rtY⟩, k_rtZ⟩, k_loops⟩, k_pair⟩, k_sec⟩, k_triad⟩, k_pwr⟩, k_img⟩, k_panel⟩, k_lanes⟩, k_field⟩, k_time⟩, k_can⟩ := k
  exact ⟨⟨⟨⟨⟨⟨⟨⟨⟨⟨⟨⟨⟨⟨⟨⟨⟨⟨⟨⟨⟨⟨Parts.step h_regs k_regs, Parts.step h_mem k_mem⟩, Parts.step h_free k_free⟩, Parts.step h_beat k_beat⟩, Parts.step h_ev k_ev⟩, Parts.step h_lcp k_lcp⟩, Parts.step h_jr k_jr⟩, Parts.step h_units k_units⟩, Parts.step h_wd k_wd⟩, Parts.step h_rt k_rt⟩, Parts.step h_rtY k_rtY⟩, Parts.step h_rtZ k_rtZ⟩, Parts.step h_loops k_loops⟩, Parts.step h_pair k_pair⟩, Parts.step h_sec k_sec⟩, Parts.step h_triad k_triad⟩, Parts.step h_pwr k_pwr⟩, Parts.step h_img k_img⟩, Parts.step h_panel k_panel⟩, Parts.step h_lanes k_lanes⟩, Parts.step h_field k_field⟩, Parts.step h_time k_time⟩, Parts.step h_can k_can⟩

/-- A record update of the parts named. -/
theorem Touches.mkUpd {m : Parts} {s t : State} {regs mem free beat ev lcp jr units wd rt rtY rtZ loops pair sec triad pwr img panel lanes field time can} (h : Touches m s t)
    (e : (State.mk regs mem free beat ev lcp jr units wd rt rtY rtZ loops pair sec triad pwr img panel lanes field time can t.pending).without m = t.without m) :
    Touches m s (State.mk regs mem free beat ev lcp jr units wd rt rtY rtZ loops pair sec triad pwr img panel lanes field time can t.pending) := Eq.trans e h

theorem Touches.ite {m : Parts} {s a b : State} {c : Prop} [Decidable c] (ha : Touches m s a) (hb : Touches m s b) : Touches m s (if c then a else b) := by
  split <;> assumption

theorem Touches.iteFst {m : Parts} {α : Type} {s : State} {a b : State × α} {c : Prop} [Decidable c] (ha : Touches m s a.1) (hb : Touches m s b.1) :
    Touches m s (if c then a else b).1 := by
  split <;> assumption

theorem Touches.iteSnd {m : Parts} {α : Type} {s : State} {a b : α × State} {c : Prop} [Decidable c] (ha : Touches m s a.2) (hb : Touches m s b.2) :
    Touches m s (if c then a else b).2 := by
  split <;> assumption

theorem Touches.iteSt {m : Parts} {s : State} {a b : Ans} {c : Prop} [Decidable c] (ha : Touches m s a.st) (hb : Touches m s b.st) :
    Touches m s (if c then a else b).st := by
  split <;> assumption

theorem Touches.foldl {m : Parts} {α : Type} {s t : State} {f : State → α → State} {l : List α} (h : Touches m s t)
    (hf : ∀ u a, Touches m u (f u a)) : Touches m s (l.foldl f t) := by
  induction l generalizing t with
  | nil => exact h
  | cons a l ih => exact ih (h.comp (hf t a))

theorem Touches.foldlSnd {m : Parts} {α β : Type} {s : State} {t : β × State} {f : β × State → α → β × State} {l : List α}
    (h : Touches m s t.2) (hf : ∀ u a, Touches m u.2 (f u a).2) : Touches m s (l.foldl f t).2 := by
  induction l generalizing t with
  | nil => exact h
  | cons a l ih => exact ih (h.comp (hf t a))

theorem Touches.foldlFst {m : Parts} {α β : Type} {s : State} {t : State × β} {f : State × β → α → State × β} {l : List α}
    (h : Touches m s t.1) (hf : ∀ u a, Touches m u.1 (f u a).1) : Touches m s (l.foldl f t).1 := by
  induction l generalizing t with
  | nil => exact h
  | cons a l ih => exact ih (h.comp (hf t a))

theorem Touches.ofSnd {m : Parts} {α : Type} {s x : State} {e : α × State} {a : α} (h : e = (a, x)) (k : Touches m s e.2) : Touches m s x := by
  subst h; exact k

theorem Touches.ofFst {m : Parts} {α : Type} {s x : State} {e : State × α} {a : α} (h : e = (x, a)) (k : Touches m s e.1) : Touches m s x := by
  subst h; exact k

theorem Touches.put {s : State} {f : Fld} {v k : Nat} : Touches { regs := true } s (s.put f v k) := rfl
theorem Touches.putFlag {s : State} {f : Fld} {b : Bool} {k : Nat} : Touches { regs := true } s (s.putFlag f b k) := rfl
theorem Touches.inc {s : State} {f : Fld} {k : Nat} : Touches { regs := true } s (s.inc f k) := rfl
theorem Touches.add {s : State} {f : Fld} {d k : Nat} : Touches { regs := true } s (s.add f d k) := rfl
theorem Touches.peak {s : State} {f : Fld} {v k : Nat} : Touches { regs := true } s (s.peak f v k) := by
  unfold State.peak; split <;> rfl

end Sys2Proof.Machine
end

