-- ==== Sys2Proof/Laws/TouchA.lean ====
section
/-! SUPPORT. Which parts of the state each function of Ops, Operands, Packets, Num, Runtime, Loops, Values, Sessions, Events, Journal, Can, Modes may change. -/

set_option maxRecDepth 4000
namespace Sys2Proof.Machine

open Sys2Proof

/-! Ops. -/

theorem State.fresh_touches {a0 : _} {a1 : _} : Touches { free := true } a0 (@State.fresh a0 a1).2 := by
  unfold State.fresh
  dsimp only
  refine Touches.mkUpd ?_ (by simp only [State.without, cond_true, cond_false])
  exact Touches.refl _

theorem State.raise_touches {a0 : _} {a1 : _} {a2 : _} {a3 : _} {a4 : _} : Touches { regs := true, ev := true } a0 (@State.raise a0 a1 a2 a3 a4) := by
  unfold State.raise
  dsimp only
  refine Touches.mkUpd ?_ (by simp only [State.without, cond_true, cond_false])
  refine Touches.trans ?_ Touches.inc rfl
  exact Touches.refl _

theorem State.raiseWsl_touches {a0 : _} {a1 : _} {a2 : _} {a3 : _} {a4 : _} {a5 : _} : Touches { regs := true, ev := true } a0 (@State.raiseWsl a0 a1 a2 a3 a4 a5) := by
  unfold State.raiseWsl
  dsimp only
  refine Touches.mkUpd ?_ (by simp only [State.without, cond_true, cond_false])
  refine Touches.trans ?_ Touches.inc rfl
  exact Touches.refl _

theorem State.journal_touches {a0 : _} {a1 : _} {a2 : _} {a3 : _} {a4 : _} {a5 : _} {a6 : _} : Touches { regs := true, ev := true, jr := true } a0 (@State.journal a0 a1 a2 a3 a4 a5 a6) := by
  unfold State.journal
  dsimp only
  refine Touches.ite ?_ ?_
  · refine Touches.mkUpd ?_ (by simp only [State.without, cond_true, cond_false])
    exact Touches.refl _
  · refine Touches.trans ?_ State.raise_touches rfl
    refine Touches.mkUpd ?_ (by simp only [State.without, cond_true, cond_false])
    exact Touches.refl _

theorem State.journalRetry_touches {a0 : _} : Touches { regs := true, ev := true, jr := true } a0 (@State.journalRetry a0) := by
  unfold State.journalRetry
  refine Touches.foldl ?_ (fun v0 v1 => ?_)
  · exact Touches.refl _
  · refine Touches.ite ?_ ?_
    · refine Touches.trans ?_ State.journal_touches rfl
      exact Touches.refl _
    · exact Touches.refl _

theorem State.journalNew_touches {a0 : _} {a1 : _} {a2 : _} {a3 : _} {a4 : _} {a5 : _} : Touches { regs := true, ev := true, jr := true } a0 (@State.journalNew a0 a1 a2 a3 a4 a5) := by
  unfold State.journalNew
  split
  · rename_i v0 v1 v2
    refine Touches.ite ?_ ?_
    · exact Touches.refl _
    · refine Touches.trans ?_ State.journal_touches rfl
      exact Touches.refl _
  · rename_i v3 v4
    refine Touches.ite ?_ ?_
    · exact Touches.refl _
    · refine Touches.trans ?_ State.journal_touches rfl
      exact Touches.refl _

theorem State.dropTransfers_touches {a0 : _} {a1 : _} : Touches { lcp := true } a0 (@State.dropTransfers a0 a1) := by
  unfold State.dropTransfers
  refine Touches.mkUpd ?_ (by simp only [State.without, cond_true, cond_false])
  exact Touches.refl _

theorem State.bumpOwn_touches {a0 : _} {a1 : _} : Touches { regs := true, ev := true, lcp := true, jr := true } a0 (@State.bumpOwn a0 a1) := by
  unfold State.bumpOwn
  dsimp only
  refine Touches.trans ?_ State.journal_touches rfl
  refine Touches.trans ?_ State.dropTransfers_touches rfl
  iterate 3 refine Touches.trans ?_ Touches.put rfl
  exact Touches.refl _

theorem State.bumpPair_touches {a0 : _} {a1 : _} : Touches { regs := true, ev := true, lcp := true, jr := true, units := true } a0 (@State.bumpPair a0 a1) := by
  unfold State.bumpPair
  dsimp only
  refine Touches.trans ?_ State.journal_touches rfl
  refine Touches.trans ?_ State.dropTransfers_touches rfl
  refine Touches.mkUpd ?_ (by simp only [State.without, cond_true, cond_false])
  exact Touches.refl _

theorem State.putUnit_touches {a0 : _} {a1 : _} : Touches { units := true } a0 (@State.putUnit a0 a1) := by
  unfold State.putUnit
  refine Touches.mkUpd ?_ (by simp only [State.without, cond_true, cond_false])
  exact Touches.refl _

theorem State.bumpUnit_touches {a0 : _} {a1 : _} {a2 : _} : Touches { regs := true, ev := true, jr := true, units := true } a0 (@State.bumpUnit a0 a1 a2) := by
  unfold State.bumpUnit
  dsimp only
  refine Touches.trans ?_ State.journal_touches rfl
  refine Touches.trans ?_ State.putUnit_touches rfl
  exact Touches.refl _

theorem State.latch_touches {a0 : _} {a1 : _} : Touches { pwr := true } a0 (@State.latch a0 a1) := by
  unfold State.latch
  refine Touches.mkUpd ?_ (by simp only [State.without, cond_true, cond_false])
  exact Touches.refl _

theorem State.latchCounts_touches {a0 : _} {a1 : _} : Touches { pwr := true } a0 (@State.latchCounts a0 a1) := by
  unfold State.latchCounts
  refine Touches.trans ?_ State.latch_touches rfl
  exact Touches.refl _

theorem State.raiseLatched_touches {a0 : _} {a1 : _} {a2 : _} {a3 : _} {a4 : _} : Touches { regs := true, ev := true, pwr := true } a0 (@State.raiseLatched a0 a1 a2 a3 a4) := by
  unfold State.raiseLatched
  refine Touches.trans ?_ State.raise_touches rfl
  refine Touches.trans ?_ State.latch_touches rfl
  exact Touches.refl _

theorem State.audit_touches {a0 : _} {a1 : _} {a2 : _} {a3 : _} {a4 : _} {a5 : _} : Touches { regs := true, ev := true, sec := true } a0 (@State.audit a0 a1 a2 a3 a4 a5) := by
  unfold State.audit
  dsimp only
  refine Touches.ite ?_ ?_
  · refine Touches.trans ?_ State.raise_touches rfl
    refine Touches.trans ?_ Touches.inc rfl
    refine Touches.trans ?_ Touches.put rfl
    refine Touches.trans ?_ Touches.put rfl
    refine Touches.mkUpd ?_ (by simp only [State.without, cond_true, cond_false])
    exact Touches.refl _
  · refine Touches.trans ?_ Touches.put rfl
    refine Touches.trans ?_ Touches.put rfl
    refine Touches.mkUpd ?_ (by simp only [State.without, cond_true, cond_false])
    exact Touches.refl _

theorem State.auditBy_touches {a0 : _} {a1 : _} {a2 : _} {a3 : _} {a4 : _} : Touches { regs := true, ev := true, sec := true } a0 (@State.auditBy a0 a1 a2 a3 a4) := by
  unfold State.auditBy
  split
  · rename_i v0 v1 v2
    refine Touches.trans ?_ State.audit_touches rfl
    exact Touches.refl _
  · rename_i v3 v4
    refine Touches.trans ?_ State.audit_touches rfl
    exact Touches.refl _

theorem State.dropCycles_touches {a0 : _} : Touches { regs := true, rt := true } a0 (@State.dropCycles a0) := by
  unfold State.dropCycles
  dsimp only
  refine Touches.mkUpd ?_ (by simp only [State.without, cond_true, cond_false])
  refine Touches.foldl ?_ (fun v0 v1 => ?_)
  · exact Touches.refl _
  · refine Touches.ite ?_ ?_
    · refine Touches.ite ?_ ?_
      · refine Touches.trans ?_ Touches.put rfl
        exact Touches.refl _
      · exact Touches.refl _
    · refine Touches.trans ?_ Touches.put rfl
      refine Touches.ite ?_ ?_
      · refine Touches.trans ?_ Touches.put rfl
        exact Touches.refl _
      · exact Touches.refl _

theorem State.endDebug_touches {a0 : _} {a1 : _} : Touches { regs := true, ev := true, rt := true, sec := true } a0 (@State.endDebug a0 a1) := by
  unfold State.endDebug
  refine Touches.ite ?_ ?_
  · exact Touches.refl _
  · dsimp only
    refine Touches.trans ?_ State.raise_touches rfl
    refine Touches.mkUpd ?_ (by simp only [State.without, cond_true, cond_false])
    iterate 4 refine Touches.trans ?_ Touches.put rfl
    refine Touches.trans ?_ State.auditBy_touches rfl
    refine Touches.ite ?_ ?_
    · refine Touches.trans ?_ State.dropCycles_touches rfl
      exact Touches.refl _
    · exact Touches.refl _

theorem State.putDio_touches {a0 : _} {a1 : _} : Touches { field := true } a0 (@State.putDio a0 a1) := by
  unfold State.putDio
  refine Touches.mkUpd ?_ (by simp only [State.without, cond_true, cond_false])
  exact Touches.refl _

theorem State.putAo_touches {a0 : _} {a1 : _} : Touches { field := true } a0 (@State.putAo a0 a1) := by
  unfold State.putAo
  refine Touches.mkUpd ?_ (by simp only [State.without, cond_true, cond_false])
  exact Touches.refl _

theorem State.fieldOff_touches {a0 : _} : Touches { regs := true, field := true } a0 (@State.fieldOff a0) := by
  unfold State.fieldOff
  dsimp only
  refine Touches.foldl ?_ (fun v0 v1 => ?_)
  · refine Touches.foldl ?_ (fun v2 v3 => ?_)
    · exact Touches.refl _
    · refine Touches.trans ?_ Touches.put rfl
      refine Touches.trans ?_ Touches.put rfl
      refine Touches.trans ?_ State.putDio_touches rfl
      exact Touches.refl _
  · refine Touches.trans ?_ Touches.put rfl
    refine Touches.trans ?_ State.putAo_touches rfl
    exact Touches.refl _

theorem State.refreshDrive_touches {a0 : _} : Touches { regs := true } a0 (@State.refreshDrive a0) := by
  unfold State.refreshDrive
  dsimp only
  refine Touches.trans ?_ Touches.putFlag rfl
  refine Touches.trans ?_ Touches.putFlag rfl
  exact Touches.refl _

theorem State.setMode_touches {a0 : _} {a1 : _} {a2 : _} {a3 : _} {a4 : _} {a5 : _} {a6 : _} : Touches { regs := true, ev := true, lcp := true, jr := true, units := true } a0 (@State.setMode a0 a1 a2 a3 a4 a5 a6) := by
  unfold State.setMode
  dsimp only
  refine Touches.ite ?_ ?_
  · exact Touches.refl _
  · refine Touches.trans ?_ State.raise_touches rfl
    refine Touches.trans ?_ State.refreshDrive_touches rfl
    refine Touches.ite ?_ ?_
    · refine Touches.mkUpd ?_ (by simp only [State.without, cond_true, cond_false])
      refine Touches.ite ?_ ?_
      · refine Touches.mkUpd ?_ (by simp only [State.without, cond_true, cond_false])
        refine Touches.ite ?_ ?_
        · refine Touches.trans ?_ State.bumpPair_touches rfl
          refine Touches.ite ?_ ?_
          · refine Touches.trans ?_ Touches.put rfl
            iterate 3 refine Touches.trans ?_ Touches.put rfl
            exact Touches.refl _
          · refine Touches.trans ?_ State.bumpOwn_touches rfl
            refine Touches.trans ?_ Touches.putFlag rfl
            iterate 5 refine Touches.trans ?_ Touches.put rfl
            exact Touches.refl _
        · refine Touches.ite ?_ ?_
          · refine Touches.trans ?_ Touches.put rfl
            iterate 3 refine Touches.trans ?_ Touches.put rfl
            exact Touches.refl _
          · refine Touches.trans ?_ State.bumpOwn_touches rfl
            refine Touches.trans ?_ Touches.putFlag rfl
            iterate 5 refine Touches.trans ?_ Touches.put rfl
            exact Touches.refl _
      · refine Touches.ite ?_ ?_
        · refine Touches.trans ?_ State.bumpPair_touches rfl
          refine Touches.ite ?_ ?_
          · refine Touches.trans ?_ Touches.put rfl
            iterate 3 refine Touches.trans ?_ Touches.put rfl
            exact Touches.refl _
          · refine Touches.trans ?_ State.bumpOwn_touches rfl
            refine Touches.trans ?_ Touches.putFlag rfl
            iterate 5 refine Touches.trans ?_ Touches.put rfl
            exact Touches.refl _
        · refine Touches.ite ?_ ?_
          · refine Touches.trans ?_ Touches.put rfl
            iterate 3 refine Touches.trans ?_ Touches.put rfl
            exact Touches.refl _
          · refine Touches.trans ?_ State.bumpOwn_touches rfl
            refine Touches.trans ?_ Touches.putFlag rfl
            iterate 5 refine Touches.trans ?_ Touches.put rfl
            exact Touches.refl _
    · refine Touches.ite ?_ ?_
      · refine Touches.mkUpd ?_ (by simp only [State.without, cond_true, cond_false])
        refine Touches.ite ?_ ?_
        · refine Touches.trans ?_ State.bumpPair_touches rfl
          refine Touches.ite ?_ ?_
          · refine Touches.trans ?_ Touches.put rfl
            iterate 3 refine Touches.trans ?_ Touches.put rfl
            exact Touches.refl _
          · refine Touches.trans ?_ State.bumpOwn_touches rfl
            refine Touches.trans ?_ Touches.putFlag rfl
            iterate 5 refine Touches.trans ?_ Touches.put rfl
            exact Touches.refl _
        · refine Touches.ite ?_ ?_
          · refine Touches.trans ?_ Touches.put rfl
            iterate 3 refine Touches.trans ?_ Touches.put rfl
            exact Touches.refl _
          · refine Touches.trans ?_ State.bumpOwn_touches rfl
            refine Touches.trans ?_ Touches.putFlag rfl
            iterate 5 refine Touches.trans ?_ Touches.put rfl
            exact Touches.refl _
      · refine Touches.ite ?_ ?_
        · refine Touches.trans ?_ State.bumpPair_touches rfl
          refine Touches.ite ?_ ?_
          · refine Touches.trans ?_ Touches.put rfl
            iterate 3 refine Touches.trans ?_ Touches.put rfl
            exact Touches.refl _
          · refine Touches.trans ?_ State.bumpOwn_touches rfl
            refine Touches.trans ?_ Touches.putFlag rfl
            iterate 5 refine Touches.trans ?_ Touches.put rfl
            exact Touches.refl _
        · refine Touches.ite ?_ ?_
          · refine Touches.trans ?_ Touches.put rfl
            iterate 3 refine Touches.trans ?_ Touches.put rfl
            exact Touches.refl _
          · refine Touches.trans ?_ State.bumpOwn_touches rfl
            refine Touches.trans ?_ Touches.putFlag rfl
            iterate 5 refine Touches.trans ?_ Touches.put rfl
            exact Touches.refl _

theorem State.rejectNext_touches {a0 : _} : Touches { img := true } a0 (@State.rejectNext a0) := by
  unfold State.rejectNext
  refine Touches.ite ?_ ?_
  · refine Touches.mkUpd ?_ (by simp only [State.without, cond_true, cond_false])
    exact Touches.refl _
  · exact Touches.refl _

theorem State.cause_touches {a0 : _} {a1 : _} {a2 : _} : Touches { beat := true } a0 (@State.cause a0 a1 a2) := by
  unfold State.cause
  refine Touches.mkUpd ?_ (by simp only [State.without, cond_true, cond_false])
  exact Touches.refl _

theorem State.thaw_touches {a0 : _} : Touches { regs := true, jr := true } a0 (@State.thaw a0) := by
  unfold State.thaw
  dsimp only
  iterate 3 refine Touches.trans ?_ Touches.put rfl
  refine Touches.mkUpd ?_ (by simp only [State.without, cond_true, cond_false])
  exact Touches.refl _

/-! Packets. -/

theorem State.send_touches {a0 : _} {a1 : _} : Touches { lcp := true } a0 (@State.send a0 a1) := by
  unfold State.send
  refine Touches.mkUpd ?_ (by simp only [State.without, cond_true, cond_false])
  exact Touches.refl _

theorem State.onSession_touches {a0 : _} {a1 : _} {a2 : _} : Touches { lcp := true } a0 (@State.onSession a0 a1 a2) := by
  unfold State.onSession
  refine Touches.mkUpd ?_ (by simp only [State.without, cond_true, cond_false])
  exact Touches.refl _

theorem State.answer_touches {a0 : _} {a1 : _} : Touches { lcp := true } a0 (@State.answer a0 a1) := by
  unfold State.answer
  refine Touches.trans ?_ State.send_touches rfl
  refine Touches.trans ?_ State.onSession_touches rfl
  exact Touches.refl _

theorem State.answerHeld_touches {a0 : _} {a1 : _} : Touches { lcp := true } a0 (@State.answerHeld a0 a1) := by
  unfold State.answerHeld
  dsimp only
  refine Touches.ite ?_ ?_
  · refine Touches.trans ?_ State.send_touches rfl
    refine Touches.trans ?_ State.onSession_touches rfl
    exact Touches.refl _
  · refine Touches.mkUpd ?_ (by simp only [State.without, cond_true, cond_false])
    refine Touches.trans ?_ State.onSession_touches rfl
    exact Touches.refl _

theorem State.releaseHeld_touches {a0 : _} {a1 : _} : Touches { lcp := true } a0 (@State.releaseHeld a0 a1) := by
  unfold State.releaseHeld
  dsimp only
  refine Touches.mkUpd ?_ (by simp only [State.without, cond_true, cond_false])
  exact Touches.refl _

theorem State.heard_touches {a0 : _} {a1 : _} : Touches { lcp := true } a0 (@State.heard a0 a1) := by
  unfold State.heard
  refine Touches.trans ?_ State.onSession_touches rfl
  exact Touches.refl _

theorem State.noteSeq_touches {a0 : _} {a1 : _} : Touches { beat := true, lcp := true } a0 (@State.noteSeq a0 a1) := by
  unfold State.noteSeq
  dsimp only
  refine Touches.mkUpd ?_ (by simp only [State.without, cond_true, cond_false])
  refine Touches.trans ?_ State.onSession_touches rfl
  exact Touches.refl _

theorem State.countSessions_touches {a0 : _} : Touches { regs := true } a0 (@State.countSessions a0) := by
  unfold State.countSessions
  refine Touches.trans ?_ Touches.put rfl
  refine Touches.trans ?_ Touches.put rfl
  exact Touches.refl _

theorem State.releaseSession_touches {a0 : _} {a1 : _} {a2 : _} : Touches { regs := true, ev := true, lcp := true, jr := true, rt := true, sec := true } a0 (@State.releaseSession a0 a1 a2) := by
  unfold State.releaseSession
  dsimp only
  refine Touches.trans ?_ State.raise_touches rfl
  refine Touches.trans ?_ State.countSessions_touches rfl
  refine Touches.ite ?_ ?_
  · refine Touches.trans ?_ State.thaw_touches rfl
    refine Touches.trans ?_ Touches.put rfl
    refine Touches.mkUpd ?_ (by simp only [State.without, cond_true, cond_false])
    refine Touches.ite ?_ ?_
    · refine Touches.trans ?_ State.endDebug_touches rfl
      exact Touches.refl _
    · exact Touches.refl _
  · refine Touches.trans ?_ Touches.put rfl
    refine Touches.mkUpd ?_ (by simp only [State.without, cond_true, cond_false])
    refine Touches.ite ?_ ?_
    · refine Touches.trans ?_ State.endDebug_touches rfl
      exact Touches.refl _
    · exact Touches.refl _

theorem State.holdSession_touches {a0 : _} {a1 : _} {a2 : _} : Touches { regs := true, lcp := true } a0 (@State.holdSession a0 a1 a2) := by
  unfold State.holdSession
  refine Touches.trans ?_ State.countSessions_touches rfl
  refine Touches.trans ?_ State.onSession_touches rfl
  exact Touches.refl _

theorem State.closeConn_touches {a0 : _} {a1 : _} : Touches { regs := true, lcp := true } a0 (@State.closeConn a0 a1) := by
  unfold State.closeConn
  refine Touches.ite ?_ ?_
  · refine Touches.trans ?_ State.holdSession_touches rfl
    exact Touches.refl _
  · exact Touches.refl _

theorem turnedAway_touches {a0 : _} {a1 : _} {a2 : _} {a3 : _} : Touches { regs := true, beat := true, lcp := true } a3 (@turnedAway a0 a1 a2 a3) := by
  unfold turnedAway
  split
  · rename_i v0
    exact Touches.refl _
  · rename_i v1
    refine Touches.trans ?_ State.closeConn_touches rfl
    exact Touches.refl _
  · rename_i v2 v3 v4 v5
    dsimp only
    refine Touches.ite ?_ ?_
    · refine Touches.trans ?_ State.closeConn_touches rfl
      refine Touches.trans ?_ State.send_touches rfl
      refine Touches.trans ?_ State.heard_touches rfl
      exact Touches.refl _
    · refine Touches.trans ?_ State.send_touches rfl
      refine Touches.trans ?_ State.heard_touches rfl
      exact Touches.refl _
  · rename_i v6 v7
    refine Touches.trans ?_ State.send_touches rfl
    refine Touches.trans ?_ Touches.inc rfl
    refine Touches.trans ?_ State.heard_touches rfl
    exact Touches.refl _
  · rename_i v8 v9 v10 v11
    refine Touches.trans ?_ State.answer_touches rfl
    refine Touches.trans ?_ State.noteSeq_touches rfl
    exact Touches.refl _
  · rename_i v12 v13
    dsimp only
    refine Touches.ite ?_ ?_
    · refine Touches.trans ?_ State.answer_touches rfl
      refine Touches.trans ?_ State.noteSeq_touches rfl
      exact Touches.refl _
    · refine Touches.mkUpd ?_ (by simp only [State.without, cond_true, cond_false])
      refine Touches.trans ?_ State.noteSeq_touches rfl
      exact Touches.refl _
  · rename_i v14 v15
    exact Touches.refl _

theorem served_touches {m : Parts} {a0 : _} {a1 : _} {a2 : _} {a3 : _} {a4 : _} (h3 : ∀ y0 y1, Touches m y1 (a3 y0 y1).st) (l : Parts.le { regs := true, beat := true, lcp := true } m = true) : Touches m a4 (@served a0 a1 a2 a3 a4) := by
  unfold served
  split
  · rename_i v0 v1 v2
    dsimp only
    split
    · rename_i v3 v4 v5 v6
      refine Touches.trans ?_ State.answer_touches (Parts.le_trans rfl l)
      refine Touches.trans ?_ State.noteSeq_touches (Parts.le_trans rfl l)
      exact Touches.refl _
    · rename_i v7 v8
      refine Touches.trans ?_ State.answer_touches (Parts.le_trans rfl l)
      refine Touches.comp ?_ (h3 ..)
      refine Touches.trans ?_ State.noteSeq_touches (Parts.le_trans rfl l)
      exact Touches.refl _
  · rename_i v9 v10
    refine Touches.trans ?_ turnedAway_touches (Parts.le_trans rfl l)
    exact Touches.refl _

theorem servedTracked_touches {m : Parts} {a0 : _} {a1 : _} {a2 : _} {a3 : _} {a4 : _} (h3 : ∀ y0 y1, Touches m y1 (a3 y0 y1).st) (l : Parts.le { regs := true, beat := true, lcp := true } m = true) : Touches m a4 (@servedTracked a0 a1 a2 a3 a4) := by
  unfold servedTracked
  split
  · rename_i v0 v1 v2
    dsimp only
    split
    · rename_i v3 v4 v5 v6
      refine Touches.trans ?_ State.answer_touches (Parts.le_trans rfl l)
      refine Touches.trans ?_ State.noteSeq_touches (Parts.le_trans rfl l)
      exact Touches.refl _
    · rename_i v7 v8
      refine Touches.trans ?_ State.answerHeld_touches (Parts.le_trans rfl l)
      refine Touches.comp ?_ (h3 ..)
      refine Touches.trans ?_ State.noteSeq_touches (Parts.le_trans rfl l)
      exact Touches.refl _
  · rename_i v9 v10
    refine Touches.trans ?_ turnedAway_touches (Parts.le_trans rfl l)
    exact Touches.refl _

theorem State.enqueue_touches {a0 : _} {a1 : _} : Touches { lcp := true } a0 (@State.enqueue a0 a1) := by
  unfold State.enqueue
  refine Touches.mkUpd ?_ (by simp only [State.without, cond_true, cond_false])
  exact Touches.refl _

theorem queued_touches {a0 : _} {a1 : _} {a2 : _} {a3 : _} {a4 : _} : Touches { regs := true, beat := true, lcp := true } a4 (@queued a0 a1 a2 a3 a4) := by
  unfold queued
  split
  · rename_i v0 v1 v2
    dsimp only
    split
    · rename_i v3 v4 v5 v6
      refine Touches.trans ?_ State.answer_touches rfl
      refine Touches.trans ?_ State.noteSeq_touches rfl
      exact Touches.refl _
    · rename_i v7 v8
      refine Touches.ite ?_ ?_
      · refine Touches.trans ?_ State.enqueue_touches rfl
        refine Touches.trans ?_ State.noteSeq_touches rfl
        exact Touches.refl _
      · refine Touches.trans ?_ State.answerHeld_touches rfl
        refine Touches.trans ?_ State.enqueue_touches rfl
        refine Touches.trans ?_ State.noteSeq_touches rfl
        exact Touches.refl _
  · rename_i v9 v10
    refine Touches.trans ?_ turnedAway_touches rfl
    exact Touches.refl _

theorem State.lateEpoch_touches {a0 : _} {a1 : _} {a2 : _} : Touches { lcp := true } a0 (@State.lateEpoch a0 a1 a2) := by
  unfold State.lateEpoch
  dsimp only
  refine Touches.trans ?_ State.answerHeld_touches rfl
  exact Touches.refl _

theorem State.afterFreeze_touches {a0 : _} {a1 : _} {a2 : _} {a3 : _} : Touches { regs := true, lcp := true } a0 (@State.afterFreeze a0 a1 a2 a3) := by
  unfold State.afterFreeze
  dsimp only
  refine Touches.ite ?_ ?_
  · refine Touches.trans ?_ State.answerHeld_touches rfl
    refine Touches.ite ?_ ?_
    · refine Touches.trans ?_ Touches.inc rfl
      exact Touches.refl _
    · exact Touches.refl _
  · refine Touches.ite ?_ ?_
    · refine Touches.ite ?_ ?_
      · refine Touches.trans ?_ Touches.inc rfl
        exact Touches.refl _
      · exact Touches.refl _
    · refine Touches.trans ?_ State.answerHeld_touches rfl
      refine Touches.ite ?_ ?_
      · refine Touches.trans ?_ Touches.inc rfl
        exact Touches.refl _
      · exact Touches.refl _

/-! Runtime. -/

theorem State.putRt_touches {a0 : _} {a1 : _} {a2 : _} : Touches { rt := true, rtY := true, rtZ := true } a0 (@State.putRt a0 a1 a2) := by
  unfold State.putRt
  split
  · rename_i v0
    refine Touches.mkUpd ?_ (by simp only [State.without, cond_true, cond_false])
    exact Touches.refl _
  · rename_i v1
    refine Touches.mkUpd ?_ (by simp only [State.without, cond_true, cond_false])
    exact Touches.refl _
  · rename_i v2 v3 v4
    refine Touches.mkUpd ?_ (by simp only [State.without, cond_true, cond_false])
    exact Touches.refl _

theorem State.swapCluster_touches {a0 : _} {a1 : _} : Touches { regs := true, beat := true, rt := true, rtY := true, rtZ := true, loops := true, triad := true } a0 (@State.swapCluster a0 a1) := by
  unfold State.swapCluster
  dsimp only
  refine Touches.mkUpd ?_ (by simp only [State.without, cond_true, cond_false])
  refine Touches.trans ?_ State.putRt_touches rfl
  exact Touches.refl _

theorem State.onCluster_touches {m : Parts} {a0 : _} {a1 : _} {a2 : _} (h2 : ∀ y0, Touches m y0 (a2 y0)) (l : Parts.le { regs := true, beat := true, rt := true, rtY := true, rtZ := true, loops := true, triad := true } m = true) : Touches m a0 (@State.onCluster a0 a1 a2) := by
  unfold State.onCluster
  refine Touches.ite ?_ ?_
  · refine Touches.comp ?_ (h2 ..)
    exact Touches.refl _
  · refine Touches.ite ?_ ?_
    · refine Touches.trans ?_ State.swapCluster_touches (Parts.le_trans rfl l)
      refine Touches.comp ?_ (h2 ..)
      refine Touches.trans ?_ State.swapCluster_touches (Parts.le_trans rfl l)
      exact Touches.refl _
    · exact Touches.refl _

theorem State.onClusters_touches {m : Parts} {a0 : _} {a1 : _} (h1 : ∀ y0, Touches m y0 (a1 y0)) (l : Parts.le { regs := true, beat := true, rt := true, rtY := true, rtZ := true, loops := true, triad := true } m = true) : Touches m a0 (@State.onClusters a0 a1) := by
  unfold State.onClusters
  refine Touches.comp ?_ (State.onCluster_touches ?_ (Parts.le_trans rfl l))
  · refine Touches.comp ?_ (State.onCluster_touches ?_ (Parts.le_trans rfl l))
    · refine Touches.comp ?_ (h1 ..)
      exact Touches.refl _
    · intro v0
      refine Touches.comp ?_ (h1 ..)
      exact Touches.refl _
  · intro v1
    refine Touches.comp ?_ (h1 ..)
    exact Touches.refl _

theorem State.showRuntime_touches {a0 : _} : Touches { regs := true } a0 (@State.showRuntime a0) := by
  unfold State.showRuntime
  dsimp only
  refine Touches.trans ?_ Touches.put rfl
  iterate 3 refine Touches.trans ?_ Touches.putFlag rfl
  refine Touches.trans ?_ Touches.put rfl
  refine Touches.trans ?_ Touches.putFlag rfl
  refine Touches.trans ?_ Touches.putFlag rfl
  exact Touches.refl _

theorem State.startNext_touches {a0 : _} {a1 : _} : Touches { regs := true, rt := true } a0 (@State.startNext a0 a1) := by
  unfold State.startNext
  split
  · rename_i v0 v1
    exact Touches.refl _
  · rename_i v2 v3 v4 v5
    dsimp only
    refine Touches.ite ?_ ?_
    · refine Touches.trans ?_ Touches.put rfl
      exact Touches.refl _
    · refine Touches.mkUpd ?_ (by simp only [State.without, cond_true, cond_false])
      refine Touches.trans ?_ Touches.put rfl
      exact Touches.refl _

theorem State.putExec_touches {a0 : _} {a1 : _} {a2 : _} : Touches { regs := true, rt := true } a0 (@State.putExec a0 a1 a2) := by
  unfold State.putExec
  refine Touches.trans ?_ Touches.put rfl
  refine Touches.mkUpd ?_ (by simp only [State.without, cond_true, cond_false])
  exact Touches.refl _

theorem State.newCycle_touches {a0 : _} {a1 : _} : Touches { regs := true, rt := true } a0 (@State.newCycle a0 a1) := by
  unfold State.newCycle
  split
  · rename_i v0 v1
    exact Touches.refl _
  · rename_i v2 v3 v4
    refine Touches.foldl ?_ (fun v5 v6 => ?_)
    · exact Touches.refl _
    · dsimp only
      refine Touches.ite ?_ ?_
      · refine Touches.trans ?_ Touches.put rfl
        refine Touches.trans ?_ State.putExec_touches rfl
        exact Touches.refl _
      · refine Touches.trans ?_ State.putExec_touches rfl
        exact Touches.refl _

theorem State.releaseClass_touches {a0 : _} {a1 : _} : Touches { regs := true, rt := true } a0 (@State.releaseClass a0 a1) := by
  unfold State.releaseClass
  dsimp only
  refine Touches.trans ?_ State.startNext_touches rfl
  refine Touches.mkUpd ?_ (by simp only [State.without, cond_true, cond_false])
  refine Touches.foldl ?_ (fun v0 v1 => ?_)
  · refine Touches.trans ?_ State.newCycle_touches rfl
    exact Touches.refl _
  · refine Touches.trans ?_ Touches.put rfl
    refine Touches.trans ?_ Touches.put rfl
    exact Touches.refl _

theorem State.releaseAll_touches {a0 : _} : Touches { regs := true, rt := true } a0 (@State.releaseAll a0) := by
  unfold State.releaseAll
  dsimp only
  refine Touches.ite ?_ ?_
  · refine Touches.mkUpd ?_ (by simp only [State.without, cond_true, cond_false])
    refine Touches.foldl ?_ (fun v0 v1 => ?_)
    · refine Touches.mkUpd ?_ (by simp only [State.without, cond_true, cond_false])
      exact Touches.refl _
    · refine Touches.trans ?_ State.releaseClass_touches rfl
      exact Touches.refl _
  · refine Touches.foldl ?_ (fun v2 v3 => ?_)
    · refine Touches.mkUpd ?_ (by simp only [State.without, cond_true, cond_false])
      exact Touches.refl _
    · refine Touches.trans ?_ State.releaseClass_touches rfl
      exact Touches.refl _

theorem State.mailWrites_touches {a0 : _} {a1 : _} : Touches { triad := true } a0 (@State.mailWrites a0 a1) := by
  unfold State.mailWrites
  refine Touches.ite ?_ ?_
  · exact Touches.refl _
  · dsimp only
    refine Touches.mkUpd ?_ (by simp only [State.without, cond_true, cond_false])
    exact Touches.refl _

theorem State.publish_touches {a0 : _} {a1 : _} : Touches { rt := true, loops := true } a0 (@State.publish a0 a1) := by
  unfold State.publish
  dsimp only
  refine Touches.mkUpd ?_ (by simp only [State.without, cond_true, cond_false])
  exact Touches.refl _

theorem State.holdPublish_touches {a0 : _} : Touches { rt := true, loops := true } a0 (@State.holdPublish a0) := by
  unfold State.holdPublish
  dsimp only
  refine Touches.mkUpd ?_ (by simp only [State.without, cond_true, cond_false])
  refine Touches.foldl ?_ (fun v0 v1 => ?_)
  · exact Touches.refl _
  · refine Touches.trans ?_ State.publish_touches rfl
    exact Touches.refl _

theorem State.endTask_touches {a0 : _} {a1 : _} {a2 : _} {a3 : _} : Touches { regs := true, beat := true, rt := true, loops := true, triad := true, can := true } a0 (@State.endTask a0 a1 a2 a3) := by
  unfold State.endTask
  split
  · rename_i v0 v1
    exact Touches.refl _
  · rename_i v2 v3 v4
    split
    · rename_i v5 v6
      exact Touches.refl _
    · rename_i v7 v8 v9 v10
      refine Touches.ite ?_ ?_
      · exact Touches.refl _
      · dsimp only
        refine Touches.trans ?_ State.showRuntime_touches rfl
        refine Touches.trans ?_ State.mailWrites_touches rfl
        refine Touches.ite ?_ ?_
        · refine Touches.trans ?_ State.holdPublish_touches rfl
          refine Touches.ite ?_ ?_
          · refine Touches.ite ?_ ?_
            · refine Touches.trans ?_ Touches.inc rfl
              refine Touches.trans ?_ State.putExec_touches rfl
              refine Touches.trans ?_ Touches.put rfl
              refine Touches.mkUpd ?_ (by simp only [State.without, cond_true, cond_false])
              exact Touches.refl _
            · refine Touches.trans ?_ State.putExec_touches rfl
              refine Touches.trans ?_ Touches.put rfl
              refine Touches.mkUpd ?_ (by simp only [State.without, cond_true, cond_false])
              exact Touches.refl _
          · refine Touches.trans ?_ Touches.put rfl
            refine Touches.ite ?_ ?_
            · refine Touches.trans ?_ Touches.inc rfl
              refine Touches.trans ?_ State.putExec_touches rfl
              refine Touches.trans ?_ Touches.put rfl
              refine Touches.mkUpd ?_ (by simp only [State.without, cond_true, cond_false])
              exact Touches.refl _
            · refine Touches.trans ?_ State.putExec_touches rfl
              refine Touches.trans ?_ Touches.put rfl
              refine Touches.mkUpd ?_ (by simp only [State.without, cond_true, cond_false])
              exact Touches.refl _
        · refine Touches.trans ?_ State.startNext_touches rfl
          refine Touches.ite ?_ ?_
          · refine Touches.ite ?_ ?_
            · refine Touches.trans ?_ Touches.inc rfl
              refine Touches.trans ?_ State.putExec_touches rfl
              refine Touches.trans ?_ Touches.put rfl
              refine Touches.mkUpd ?_ (by simp only [State.without, cond_true, cond_false])
              exact Touches.refl _
            · refine Touches.trans ?_ State.putExec_touches rfl
              refine Touches.trans ?_ Touches.put rfl
              refine Touches.mkUpd ?_ (by simp only [State.without, cond_true, cond_false])
              exact Touches.refl _
          · refine Touches.trans ?_ Touches.put rfl
            refine Touches.ite ?_ ?_
            · refine Touches.trans ?_ Touches.inc rfl
              refine Touches.trans ?_ State.putExec_touches rfl
              refine Touches.trans ?_ Touches.put rfl
              refine Touches.mkUpd ?_ (by simp only [State.without, cond_true, cond_false])
              exact Touches.refl _
            · refine Touches.trans ?_ State.putExec_touches rfl
              refine Touches.trans ?_ Touches.put rfl
              refine Touches.mkUpd ?_ (by simp only [State.without, cond_true, cond_false])
              exact Touches.refl _

theorem State.coldCluster_touches {a0 : _} : Touches { regs := true, rt := true, loops := true } a0 (@State.coldCluster a0) := by
  unfold State.coldCluster
  dsimp only
  refine Touches.mkUpd ?_ (by simp only [State.without, cond_true, cond_false])
  refine Touches.trans ?_ State.dropCycles_touches rfl
  exact Touches.refl _

theorem State.splitFault_touches {a0 : _} {a1 : _} {a2 : _} : Touches { regs := true, ev := true, rt := true, loops := true } a0 (@State.splitFault a0 a1 a2) := by
  unfold State.splitFault
  refine Touches.trans ?_ State.coldCluster_touches rfl
  refine Touches.trans ?_ State.raise_touches rfl
  exact Touches.refl _

theorem State.overrunStops_touches {a0 : _} {a1 : _} {a2 : _} : Touches { regs := true, beat := true, ev := true, rt := true, loops := true, pair := true } a0 (@State.overrunStops a0 a1 a2) := by
  unfold State.overrunStops
  refine Touches.ite ?_ ?_
  · refine Touches.trans ?_ State.splitFault_touches rfl
    exact Touches.refl _
  · dsimp only
    refine Touches.ite ?_ ?_
    · refine Touches.mkUpd ?_ (by simp only [State.without, cond_true, cond_false])
      refine Touches.foldl ?_ (fun v0 v1 => ?_)
      · exact Touches.refl _
      · refine Touches.trans ?_ State.raise_touches rfl
        exact Touches.refl _
    · refine Touches.ite ?_ ?_
      · refine Touches.mkUpd ?_ (by simp only [State.without, cond_true, cond_false])
        refine Touches.foldl ?_ (fun v2 v3 => ?_)
        · exact Touches.refl _
        · refine Touches.trans ?_ State.raise_touches rfl
          exact Touches.refl _
      · refine Touches.trans ?_ State.cause_touches rfl
        refine Touches.mkUpd ?_ (by simp only [State.without, cond_true, cond_false])
        refine Touches.foldl ?_ (fun v4 v5 => ?_)
        · exact Touches.refl _
        · refine Touches.trans ?_ State.raise_touches rfl
          exact Touches.refl _

theorem State.spill_touches {a0 : _} {a1 : _} {a2 : _} : Touches { regs := true, rt := true } a0 (@State.spill a0 a1 a2) := by
  unfold State.spill
  dsimp only
  refine Touches.trans ?_ Touches.put rfl
  refine Touches.mkUpd ?_ (by simp only [State.without, cond_true, cond_false])
  exact Touches.refl _

theorem State.skipTask_touches {a0 : _} {a1 : _} {a2 : _} : Touches { regs := true, ev := true, rt := true } a0 (@State.skipTask a0 a1 a2) := by
  unfold State.skipTask
  refine Touches.trans ?_ State.raise_touches rfl
  refine Touches.trans ?_ State.spill_touches rfl
  refine Touches.trans ?_ Touches.inc rfl
  refine Touches.trans ?_ Touches.inc rfl
  exact Touches.refl _

theorem State.overrun_touches {a0 : _} {a1 : _} : Touches { regs := true, beat := true, ev := true, rt := true, loops := true, pair := true } a0 (@State.overrun a0 a1) := by
  unfold State.overrun
  dsimp only
  refine Touches.ite ?_ ?_
  · refine Touches.trans ?_ State.overrunStops_touches rfl
    exact Touches.refl _
  · refine Touches.ite ?_ ?_
    · refine Touches.trans ?_ State.showRuntime_touches rfl
      refine Touches.trans ?_ State.overrunStops_touches rfl
      refine Touches.foldl ?_ (fun v0 v1 => ?_)
      · exact Touches.refl _
      · refine Touches.trans ?_ State.skipTask_touches rfl
        exact Touches.refl _
    · refine Touches.trans ?_ State.showRuntime_touches rfl
      refine Touches.mkUpd ?_ (by simp only [State.without, cond_true, cond_false])
      refine Touches.foldl ?_ (fun v2 v3 => ?_)
      · exact Touches.refl _
      · refine Touches.trans ?_ State.skipTask_touches rfl
        exact Touches.refl _

theorem State.spillAll_touches {a0 : _} {a1 : _} : Touches { regs := true, rt := true } a0 (@State.spillAll a0 a1) := by
  unfold State.spillAll
  dsimp only
  refine Touches.trans ?_ State.showRuntime_touches rfl
  refine Touches.mkUpd ?_ (by simp only [State.without, cond_true, cond_false])
  refine Touches.foldl ?_ (fun v0 v1 => ?_)
  · exact Touches.refl _
  · refine Touches.trans ?_ State.spill_touches rfl
    exact Touches.refl _

theorem State.putByWork_touches {a0 : _} {a1 : _} : Touches { rt := true } a0 (@State.putByWork a0 a1) := by
  unfold State.putByWork
  dsimp only
  refine Touches.mkUpd ?_ (by simp only [State.without, cond_true, cond_false])
  exact Touches.refl _

theorem State.commitRuntime_touches {a0 : _} : Touches { regs := true, rt := true, loops := true } a0 (@State.commitRuntime a0) := by
  unfold State.commitRuntime
  dsimp only
  refine Touches.trans ?_ State.showRuntime_touches rfl
  refine Touches.mkUpd ?_ (by simp only [State.without, cond_true, cond_false])
  refine Touches.foldl ?_ (fun v0 v1 => ?_)
  · refine Touches.mkUpd ?_ (by simp only [State.without, cond_true, cond_false])
    exact Touches.refl _
  · refine Touches.trans ?_ State.publish_touches rfl
    exact Touches.refl _

theorem State.takeSnapshot_touches {a0 : _} {a1 : _} : Touches { regs := true, ev := true, rt := true } a0 (@State.takeSnapshot a0 a1) := by
  unfold State.takeSnapshot
  dsimp only
  split
  · rename_i v0 v1 v2
    refine Touches.trans ?_ State.raise_touches rfl
    refine Touches.trans ?_ Touches.inc rfl
    refine Touches.mkUpd ?_ (by simp only [State.without, cond_true, cond_false])
    refine Touches.trans ?_ Touches.peak rfl
    exact Touches.refl _
  · rename_i v3 v4
    refine Touches.mkUpd ?_ (by simp only [State.without, cond_true, cond_false])
    refine Touches.trans ?_ Touches.peak rfl
    exact Touches.refl _

theorem State.retainSnapshot_touches {a0 : _} : Touches { regs := true, ev := true, rt := true } a0 (@State.retainSnapshot a0) := by
  unfold State.retainSnapshot
  refine Touches.ite ?_ ?_
  · exact Touches.refl _
  · refine Touches.trans ?_ State.takeSnapshot_touches rfl
    exact Touches.refl _

theorem State.storeMirror_touches {a0 : _} {a1 : _} : Touches { regs := true, rt := true } a0 (@State.storeMirror a0 a1) := by
  unfold State.storeMirror
  refine Touches.ite ?_ ?_
  · refine Touches.trans ?_ Touches.put rfl
    refine Touches.mkUpd ?_ (by simp only [State.without, cond_true, cond_false])
    exact Touches.refl _
  · refine Touches.trans ?_ Touches.put rfl
    refine Touches.mkUpd ?_ (by simp only [State.without, cond_true, cond_false])
    exact Touches.refl _

theorem State.showLoops_touches {a0 : _} : Touches { regs := true } a0 (@State.showLoops a0) := by
  unfold State.showLoops
  dsimp only
  iterate 4 refine Touches.trans ?_ Touches.put rfl
  exact Touches.refl _

theorem State.showGroup_touches {a0 : _} {a1 : _} : Touches { regs := true } a0 (@State.showGroup a0 a1) := by
  unfold State.showGroup
  dsimp only
  refine Touches.trans ?_ Touches.put rfl
  refine Touches.trans ?_ Touches.putFlag rfl
  exact Touches.refl _

theorem State.initGroup_touches {a0 : _} {a1 : _} : Touches { regs := true } a0 (@State.initGroup a0 a1) := by
  unfold State.initGroup
  iterate 5 refine Touches.trans ?_ Touches.put rfl
  refine Touches.trans ?_ State.showGroup_touches rfl
  exact Touches.refl _

theorem State.clearForces_touches {a0 : _} {a1 : _} : Touches { regs := true, ev := true, jr := true, rt := true } a0 (@State.clearForces a0 a1) := by
  unfold State.clearForces
  refine Touches.foldl ?_ (fun v0 v1 => ?_)
  · exact Touches.refl _
  · refine Touches.ite ?_ ?_
    · refine Touches.trans ?_ State.journal_touches rfl
      refine Touches.mkUpd ?_ (by simp only [State.without, cond_true, cond_false])
      exact Touches.refl _
    · exact Touches.refl _

theorem State.clearAllForces_touches {a0 : _} : Touches { regs := true, ev := true, jr := true, rt := true } a0 (@State.clearAllForces a0) := by
  unfold State.clearAllForces
  refine Touches.trans ?_ State.clearForces_touches rfl
  exact Touches.refl _

theorem State.coldRestart_touches {a0 : _} : Touches { regs := true, ev := true, lcp := true, jr := true, rt := true, loops := true } a0 (@State.coldRestart a0) := by
  unfold State.coldRestart
  dsimp only
  refine Touches.trans ?_ State.showRuntime_touches rfl
  refine Touches.trans ?_ Touches.put rfl
  refine Touches.trans ?_ Touches.put rfl
  refine Touches.foldl ?_ (fun v0 v1 => ?_)
  · refine Touches.mkUpd ?_ (by simp only [State.without, cond_true, cond_false])
    refine Touches.trans ?_ State.clearAllForces_touches rfl
    refine Touches.trans ?_ State.dropCycles_touches rfl
    exact Touches.refl _
  · refine Touches.trans ?_ State.initGroup_touches rfl
    exact Touches.refl _

theorem State.warmRestart_touches {a0 : _} : Touches { regs := true, ev := true, lcp := true, jr := true, rt := true, loops := true } a0 (@State.warmRestart a0) := by
  unfold State.warmRestart
  split
  · rename_i v0 v1 v2 v3
    refine Touches.ite ?_ ?_
    · refine Touches.trans ?_ State.coldRestart_touches rfl
      refine Touches.trans ?_ State.raise_touches rfl
      exact Touches.refl _
    · dsimp only
      refine Touches.trans ?_ State.showRuntime_touches rfl
      refine Touches.trans ?_ Touches.put rfl
      refine Touches.mkUpd ?_ (by simp only [State.without, cond_true, cond_false])
      refine Touches.trans ?_ State.dropCycles_touches rfl
      refine Touches.ite ?_ ?_
      · refine Touches.trans ?_ State.raise_touches rfl
        exact Touches.refl _
      · exact Touches.refl _

theorem State.restartProgram_touches {a0 : _} {a1 : _} : Touches { regs := true, ev := true, lcp := true, jr := true, rt := true, loops := true } a0 (@State.restartProgram a0 a1) := by
  unfold State.restartProgram
  refine Touches.ite ?_ ?_
  · refine Touches.trans ?_ State.coldRestart_touches rfl
    exact Touches.refl _
  · refine Touches.trans ?_ State.warmRestart_touches rfl
    exact Touches.refl _

theorem State.purgeCoeffs_touches {a0 : _} {a1 : _} : Touches { regs := true, ev := true, jr := true, loops := true } a0 (@State.purgeCoeffs a0 a1) := by
  unfold State.purgeCoeffs
  dsimp only
  refine Touches.foldl ?_ (fun v0 v1 => ?_)
  · refine Touches.mkUpd ?_ (by simp only [State.without, cond_true, cond_false])
    exact Touches.refl _
  · refine Touches.trans ?_ State.journal_touches rfl
    exact Touches.refl _

theorem State.noTasks_touches {a0 : _} : Touches { regs := true } a0 (@State.noTasks a0) := by
  unfold State.noTasks
  refine Touches.foldl ?_ (fun v0 v1 => ?_)
  · exact Touches.refl _
  · refine Touches.trans ?_ Touches.put rfl
    iterate 3 refine Touches.trans ?_ Touches.put rfl
    exact Touches.refl _

theorem State.showTasks_touches {a0 : _} {a1 : _} : Touches { regs := true } a0 (@State.showTasks a0 a1) := by
  unfold State.showTasks
  refine Touches.foldl ?_ (fun v0 v1 => ?_)
  · exact Touches.refl _
  · refine Touches.trans ?_ Touches.putFlag rfl
    refine Touches.trans ?_ Touches.putFlag rfl
    refine Touches.trans ?_ Touches.put rfl
    refine Touches.trans ?_ Touches.put rfl
    exact Touches.refl _

theorem State.noProgram_touches {a0 : _} : Touches { regs := true } a0 (@State.noProgram a0) := by
  unfold State.noProgram
  iterate 5 refine Touches.trans ?_ Touches.put rfl
  refine Touches.trans ?_ State.noTasks_touches rfl
  exact Touches.refl _

theorem State.loadProgram_touches {a0 : _} {a1 : _} {a2 : _} : Touches { regs := true, rt := true, loops := true } a0 (@State.loadProgram a0 a1 a2) := by
  unfold State.loadProgram
  dsimp only
  refine Touches.trans ?_ State.showRuntime_touches rfl
  refine Touches.trans ?_ State.showLoops_touches rfl
  refine Touches.foldl ?_ (fun v0 v1 => ?_)
  · refine Touches.mkUpd ?_ (by simp only [State.without, cond_true, cond_false])
    refine Touches.ite ?_ ?_
    · refine Touches.foldl ?_ (fun v2 v3 => ?_)
      · refine Touches.trans ?_ Touches.put rfl
        iterate 4 refine Touches.trans ?_ Touches.put rfl
        refine Touches.trans ?_ State.showTasks_touches rfl
        refine Touches.trans ?_ State.noTasks_touches rfl
        refine Touches.trans ?_ Touches.put rfl
        refine Touches.foldl ?_ (fun v4 v5 => ?_)
        · exact Touches.refl _
        · refine Touches.trans ?_ Touches.put rfl
          exact Touches.refl _
      · refine Touches.trans ?_ Touches.putFlag rfl
        exact Touches.refl _
    · refine Touches.trans ?_ Touches.put rfl
      iterate 4 refine Touches.trans ?_ Touches.put rfl
      refine Touches.trans ?_ State.showTasks_touches rfl
      refine Touches.trans ?_ State.noTasks_touches rfl
      refine Touches.trans ?_ Touches.put rfl
      refine Touches.foldl ?_ (fun v6 v7 => ?_)
      · exact Touches.refl _
      · refine Touches.trans ?_ Touches.put rfl
        exact Touches.refl _
  · refine Touches.ite ?_ ?_
    · refine Touches.trans ?_ State.showGroup_touches rfl
      exact Touches.refl _
    · refine Touches.trans ?_ State.initGroup_touches rfl
      exact Touches.refl _

theorem State.journalSub_touches {a0 : _} {a1 : _} {a2 : _} : Touches { regs := true, ev := true, jr := true } a0 (@State.journalSub a0 a1 a2) := by
  unfold State.journalSub
  dsimp only
  refine Touches.trans ?_ State.journalNew_touches rfl
  exact Touches.refl _

theorem State.journalLoad_touches {a0 : _} {a1 : _} : Touches { regs := true, ev := true, jr := true } a0 (@State.journalLoad a0 a1) := by
  unfold State.journalLoad
  dsimp only
  refine Touches.foldl ?_ (fun v0 v1 => ?_)
  · refine Touches.foldl ?_ (fun v2 v3 => ?_)
    · refine Touches.foldl ?_ (fun v4 v5 => ?_)
      · exact Touches.refl _
      · refine Touches.trans ?_ State.journalNew_touches rfl
        exact Touches.refl _
    · refine Touches.trans ?_ State.journalSub_touches rfl
      exact Touches.refl _
  · refine Touches.trans ?_ State.journalSub_touches rfl
    exact Touches.refl _

/-! Loops. -/

theorem State.putLoop_touches {a0 : _} {a1 : _} : Touches { loops := true } a0 (@State.putLoop a0 a1) := by
  unfold State.putLoop
  refine Touches.mkUpd ?_ (by simp only [State.without, cond_true, cond_false])
  exact Touches.refl _

theorem State.loopMode_touches {a0 : _} {a1 : _} {a2 : _} {a3 : _} : Touches { regs := true, ev := true } a0 (@State.loopMode a0 a1 a2 a3).1 := by
  unfold State.loopMode
  refine Touches.iteFst ?_ ?_
  · dsimp only
    exact Touches.refl _
  · dsimp only
    refine Touches.trans ?_ State.raise_touches rfl
    exact Touches.refl _

theorem State.requestMode_touches {a0 : _} {a1 : _} {a2 : _} {a3 : _} : Touches { regs := true, ev := true } a0 (@State.requestMode a0 a1 a2 a3).1 := by
  unfold State.requestMode
  dsimp only
  refine Touches.iteFst ?_ ?_
  · dsimp only
    exact Touches.refl _
  · refine Touches.trans ?_ State.loopMode_touches rfl
    exact Touches.refl _

theorem State.readFlag_touches {a0 : _} {a1 : _} {a2 : _} : Touches { ev := true } a0 (@State.readFlag a0 a1 a2) := by
  unfold State.readFlag
  refine Touches.ite ?_ ?_
  · exact Touches.refl _
  · refine Touches.mkUpd ?_ (by simp only [State.without, cond_true, cond_false])
    exact Touches.refl _

theorem State.spoilRate_touches {a0 : _} {a1 : _} {a2 : _} : Touches { loops := true } a0 (@State.spoilRate a0 a1 a2) := by
  unfold State.spoilRate
  refine Touches.mkUpd ?_ (by simp only [State.without, cond_true, cond_false])
  exact Touches.refl _

theorem State.loopSetpoint_touches {a0 : _} {a1 : _} {a2 : _} : Touches { regs := true, ev := true } a0 (@State.loopSetpoint a0 a1 a2).1 := by
  unfold State.loopSetpoint
  dsimp only
  refine Touches.iteFst ?_ ?_
  · dsimp only
    exact Touches.refl _
  · refine Touches.iteFst ?_ ?_
    · dsimp only
      exact Touches.refl _
    · refine Touches.iteFst ?_ ?_
      · refine Touches.iteFst ?_ ?_
        · dsimp only
          refine Touches.ite ?_ ?_
          · refine Touches.trans ?_ State.raise_touches rfl
            refine Touches.trans ?_ State.loopMode_touches rfl
            refine Touches.trans ?_ State.raise_touches rfl
            exact Touches.refl _
          · refine Touches.trans ?_ State.loopMode_touches rfl
            refine Touches.trans ?_ State.raise_touches rfl
            exact Touches.refl _
        · dsimp only
          refine Touches.ite ?_ ?_
          · refine Touches.trans ?_ State.raise_touches rfl
            exact Touches.refl _
          · exact Touches.refl _
      · refine Touches.iteFst ?_ ?_
        · dsimp only
          refine Touches.ite ?_ ?_
          · refine Touches.trans ?_ State.raise_touches rfl
            exact Touches.refl _
          · exact Touches.refl _
        · refine Touches.iteFst ?_ ?_
          · dsimp only
            exact Touches.refl _
          · dsimp only
            exact Touches.refl _

theorem State.deliverOut_touches {a0 : _} {a1 : _} {a2 : _} : Touches { rt := true } a0 (@State.deliverOut a0 a1 a2) := by
  unfold State.deliverOut
  split
  · rename_i v0 v1 v2
    dsimp only
    refine Touches.mkUpd ?_ (by simp only [State.without, cond_true, cond_false])
    exact Touches.refl _
  · rename_i v3 v4
    exact Touches.refl _

theorem State.selectGroup_touches {a0 : _} {a1 : _} : Touches { regs := true, ev := true, rt := true, loops := true } a0 (@State.selectGroup a0 a1) := by
  unfold State.selectGroup
  refine Touches.ite ?_ ?_
  · exact Touches.refl _
  · dsimp only
    split
    · rename_i v0 v1 v2
      split
      · rename_i v3 v4 v5
        refine Touches.trans ?_ State.deliverOut_touches rfl
        refine Touches.foldl ?_ (fun v6 v7 => ?_)
        · refine Touches.trans ?_ Touches.put rfl
          split
          · rename_i v8 v9
            refine Touches.trans ?_ Touches.putFlag rfl
            refine Touches.ite ?_ ?_
            · refine Touches.trans ?_ Touches.put rfl
              refine Touches.mkUpd ?_ (by simp only [State.without, cond_true, cond_false])
              exact Touches.refl _
            · refine Touches.trans ?_ State.raise_touches rfl
              refine Touches.trans ?_ Touches.put rfl
              refine Touches.mkUpd ?_ (by simp only [State.without, cond_true, cond_false])
              exact Touches.refl _
          · rename_i v10 v11 v12
            refine Touches.ite ?_ ?_
            · refine Touches.trans ?_ Touches.putFlag rfl
              refine Touches.trans ?_ Touches.put rfl
              refine Touches.mkUpd ?_ (by simp only [State.without, cond_true, cond_false])
              exact Touches.refl _
            · refine Touches.trans ?_ State.raise_touches rfl
              refine Touches.trans ?_ Touches.inc rfl
              refine Touches.trans ?_ Touches.put rfl
              refine Touches.trans ?_ Touches.putFlag rfl
              refine Touches.trans ?_ Touches.put rfl
              refine Touches.mkUpd ?_ (by simp only [State.without, cond_true, cond_false])
              exact Touches.refl _
        · split
          · rename_i v13 v14 v15
            refine Touches.trans ?_ State.putLoop_touches rfl
            exact Touches.refl _
          · rename_i v16 v17
            exact Touches.refl _
      · rename_i v18 v19
        refine Touches.foldl ?_ (fun v20 v21 => ?_)
        · refine Touches.trans ?_ Touches.put rfl
          split
          · rename_i v22 v23
            refine Touches.trans ?_ Touches.putFlag rfl
            refine Touches.ite ?_ ?_
            · refine Touches.trans ?_ Touches.put rfl
              refine Touches.mkUpd ?_ (by simp only [State.without, cond_true, cond_false])
              exact Touches.refl _
            · refine Touches.trans ?_ State.raise_touches rfl
              refine Touches.trans ?_ Touches.put rfl
              refine Touches.mkUpd ?_ (by simp only [State.without, cond_true, cond_false])
              exact Touches.refl _
          · rename_i v24 v25 v26
            refine Touches.ite ?_ ?_
            · refine Touches.trans ?_ Touches.putFlag rfl
              refine Touches.trans ?_ Touches.put rfl
              refine Touches.mkUpd ?_ (by simp only [State.without, cond_true, cond_false])
              exact Touches.refl _
            · refine Touches.trans ?_ State.raise_touches rfl
              refine Touches.trans ?_ Touches.inc rfl
              refine Touches.trans ?_ Touches.put rfl
              refine Touches.trans ?_ Touches.putFlag rfl
              refine Touches.trans ?_ Touches.put rfl
              refine Touches.mkUpd ?_ (by simp only [State.without, cond_true, cond_false])
              exact Touches.refl _
        · split
          · rename_i v27 v28 v29
            refine Touches.trans ?_ State.putLoop_touches rfl
            exact Touches.refl _
          · rename_i v30 v31
            exact Touches.refl _
    · rename_i v32 v33
      refine Touches.foldl ?_ (fun v34 v35 => ?_)
      · refine Touches.trans ?_ Touches.put rfl
        split
        · rename_i v36 v37
          refine Touches.trans ?_ Touches.putFlag rfl
          refine Touches.ite ?_ ?_
          · refine Touches.trans ?_ Touches.put rfl
            refine Touches.mkUpd ?_ (by simp only [State.without, cond_true, cond_false])
            exact Touches.refl _
          · refine Touches.trans ?_ State.raise_touches rfl
            refine Touches.trans ?_ Touches.put rfl
            refine Touches.mkUpd ?_ (by simp only [State.without, cond_true, cond_false])
            exact Touches.refl _
        · rename_i v38 v39 v40
          refine Touches.ite ?_ ?_
          · refine Touches.trans ?_ Touches.putFlag rfl
            refine Touches.trans ?_ Touches.put rfl
            refine Touches.mkUpd ?_ (by simp only [State.without, cond_true, cond_false])
            exact Touches.refl _
          · refine Touches.trans ?_ State.raise_touches rfl
            refine Touches.trans ?_ Touches.inc rfl
            refine Touches.trans ?_ Touches.put rfl
            refine Touches.trans ?_ Touches.putFlag rfl
            refine Touches.trans ?_ Touches.put rfl
            refine Touches.mkUpd ?_ (by simp only [State.without, cond_true, cond_false])
            exact Touches.refl _
      · split
        · rename_i v41 v42 v43
          refine Touches.trans ?_ State.putLoop_touches rfl
          exact Touches.refl _
        · rename_i v44 v45
          exact Touches.refl _

theorem State.loopTrack_touches {a0 : _} {a1 : _} : Touches { regs := true, ev := true } a0 (@State.loopTrack a0 a1).1 := by
  unfold State.loopTrack
  split
  · rename_i v0 v1
    dsimp only
    exact Touches.refl _
  · rename_i v2 v3 v4
    dsimp only
    refine Touches.iteFst ?_ ?_
    · refine Touches.trans ?_ State.loopMode_touches rfl
      refine Touches.trans ?_ State.readFlag_touches rfl
      exact Touches.refl _
    · refine Touches.iteFst ?_ ?_
      · refine Touches.trans ?_ State.loopMode_touches rfl
        refine Touches.trans ?_ State.readFlag_touches rfl
        exact Touches.refl _
      · dsimp only
        refine Touches.trans ?_ State.readFlag_touches rfl
        exact Touches.refl _

theorem State.loopWork_touches {a0 : _} {a1 : _} {a2 : _} : Touches { regs := true, ev := true } a0 (@State.loopWork a0 a1 a2).1 := by
  unfold State.loopWork
  dsimp only
  refine Touches.iteFst ?_ ?_
  · dsimp only
    refine Touches.trans ?_ State.loopMode_touches rfl
    refine Touches.trans ?_ State.raise_touches rfl
    refine Touches.trans ?_ Touches.inc rfl
    exact Touches.refl _
  · refine Touches.iteFst ?_ ?_
    · dsimp only
      exact Touches.refl _
    · dsimp only
      refine Touches.trans ?_ State.loopSetpoint_touches rfl
      exact Touches.refl _

theorem State.loopRun_touches {a0 : _} {a1 : _} {a2 : _} : Touches { regs := true, ev := true, rt := true, loops := true } a0 (@State.loopRun a0 a1 a2) := by
  unfold State.loopRun
  dsimp only
  split
  · rename_i v0 v1 v2
    refine Touches.trans ?_ State.selectGroup_touches rfl
    refine Touches.trans ?_ State.putLoop_touches rfl
    refine Touches.trans ?_ State.loopWork_touches rfl
    refine Touches.trans ?_ State.loopTrack_touches rfl
    exact Touches.refl _
  · rename_i v3 v4
    refine Touches.trans ?_ State.deliverOut_touches rfl
    refine Touches.trans ?_ State.putLoop_touches rfl
    refine Touches.trans ?_ State.loopWork_touches rfl
    refine Touches.trans ?_ State.loopTrack_touches rfl
    exact Touches.refl _

theorem State.loopLine_touches {a0 : _} : Touches { free := true, pair := true } a0 (@State.loopLine a0) := by
  unfold State.loopLine
  split
  · rename_i v0 v1 v2 v3
    split
    · rename_i v4 v5 v6 v7
      refine Touches.mkUpd ?_ (by simp only [State.without, cond_true, cond_false])
      refine Touches.ofSnd v7 ?_
      refine Touches.trans ?_ State.fresh_touches rfl
      refine Touches.ofSnd v3 ?_
      refine Touches.trans ?_ State.fresh_touches rfl
      exact Touches.refl _

theorem State.loopExecute_touches {a0 : _} {a1 : _} : Touches { regs := true, free := true, ev := true, rt := true, loops := true, pair := true } a0 (@State.loopExecute a0 a1) := by
  unfold State.loopExecute
  refine Touches.ite ?_ ?_
  · exact Touches.refl _
  · split
    · rename_i v0 v1
      exact Touches.refl _
    · rename_i v2 v3 v4
      refine Touches.ite ?_ ?_
      · exact Touches.refl _
      · dsimp only
        refine Touches.trans ?_ State.loopLine_touches rfl
        refine Touches.mkUpd ?_ (by simp only [State.without, cond_true, cond_false])
        refine Touches.trans ?_ State.loopRun_touches rfl
        refine Touches.mkUpd ?_ (by simp only [State.without, cond_true, cond_false])
        exact Touches.refl _

theorem State.takeReq_touches {a0 : _} {a1 : _} : Touches { regs := true, ev := true } a0 (@State.takeReq a0 a1).1 := by
  unfold State.takeReq
  split
  · rename_i v0 v1
    dsimp only
    exact Touches.refl _
  · rename_i v2 v3 v4
    dsimp only
    refine Touches.iteFst ?_ ?_
    · refine Touches.trans ?_ State.requestMode_touches rfl
      refine Touches.trans ?_ State.readFlag_touches rfl
      exact Touches.refl _
    · dsimp only
      refine Touches.trans ?_ State.readFlag_touches rfl
      exact Touches.refl _

theorem State.loopRelease_touches {a0 : _} {a1 : _} : Touches { regs := true, ev := true, loops := true } a0 (@State.loopRelease a0 a1) := by
  unfold State.loopRelease
  dsimp only
  refine Touches.trans ?_ State.putLoop_touches rfl
  refine Touches.trans ?_ State.takeReq_touches rfl
  exact Touches.refl _

theorem State.releaseLoops_touches {a0 : _} {a1 : _} : Touches { regs := true, ev := true, loops := true } a0 (@State.releaseLoops a0 a1) := by
  unfold State.releaseLoops
  dsimp only
  refine Touches.foldl ?_ (fun v0 v1 => ?_)
  · refine Touches.mkUpd ?_ (by simp only [State.without, cond_true, cond_false])
    exact Touches.refl _
  · refine Touches.trans ?_ State.loopRelease_touches rfl
    exact Touches.refl _

theorem State.loopIntake_touches {a0 : _} : Touches { regs := true, ev := true, loops := true } a0 (@State.loopIntake a0) := by
  unfold State.loopIntake
  refine Touches.ite ?_ ?_
  · exact Touches.refl _
  · refine Touches.foldl ?_ (fun v0 v1 => ?_)
    · exact Touches.refl _
    · refine Touches.trans ?_ State.releaseLoops_touches rfl
      exact Touches.refl _

theorem State.cutLoops_touches {a0 : _} {a1 : _} : Touches { regs := true, ev := true, loops := true } a0 (@State.cutLoops a0 a1) := by
  unfold State.cutLoops
  dsimp only
  refine Touches.ite ?_ ?_
  · exact Touches.refl _
  · refine Touches.trans ?_ State.raise_touches rfl
    refine Touches.trans ?_ Touches.add rfl
    refine Touches.mkUpd ?_ (by simp only [State.without, cond_true, cond_false])
    exact Touches.refl _

theorem loopReadBody_touches {a0 : _} {a1 : _} {a2 : _} : Touches {} a2 (@loopReadBody a0 a1 a2).st := by
  unfold loopReadBody
  dsimp only
  refine Touches.iteSt ?_ ?_
  · dsimp only
    exact Touches.refl _
  · split
    · rename_i v0 v1
      dsimp only
      exact Touches.refl _
    · rename_i v2 v3 v4
      dsimp only
      exact Touches.refl _

theorem loopModeSetApply_touches {a0 : _} {a1 : _} : Touches { regs := true, ev := true, loops := true } a1 (@loopModeSetApply a0 a1).st := by
  unfold loopModeSetApply
  dsimp only
  refine Touches.iteSt ?_ ?_
  · refine Touches.iteSt ?_ ?_
    · dsimp only
      exact Touches.refl _
    · dsimp only
      refine Touches.trans ?_ State.raise_touches rfl
      refine Touches.trans ?_ Touches.put rfl
      exact Touches.refl _
  · split
    · rename_i v0 v1
      dsimp only
      exact Touches.refl _
    · rename_i v2 v3 v4
      dsimp only
      refine Touches.trans ?_ State.putLoop_touches rfl
      refine Touches.trans ?_ State.requestMode_touches rfl
      exact Touches.refl _

theorem loopSpSetApply_touches {a0 : _} {a1 : _} : Touches { loops := true } a1 (@loopSpSetApply a0 a1).st := by
  unfold loopSpSetApply
  split
  · rename_i v0 v1
    dsimp only
    exact Touches.refl _
  · rename_i v2 v3 v4
    refine Touches.iteSt ?_ ?_
    · dsimp only
      refine Touches.trans ?_ State.putLoop_touches rfl
      exact Touches.refl _
    · refine Touches.iteSt ?_ ?_
      · dsimp only
        refine Touches.trans ?_ State.putLoop_touches rfl
        exact Touches.refl _
      · dsimp only
        exact Touches.refl _

theorem loopCoeffSetApply_touches {a0 : _} {a1 : _} : Touches { regs := true, ev := true, jr := true, loops := true } a1 (@loopCoeffSetApply a0 a1).st := by
  unfold loopCoeffSetApply
  split
  · rename_i v0 v1
    dsimp only
    exact Touches.refl _
  · rename_i v2 v3 v4
    dsimp only
    refine Touches.iteSt ?_ ?_
    · dsimp only
      exact Touches.refl _
    · refine Touches.iteSt ?_ ?_
      · dsimp only
        exact Touches.refl _
      · refine Touches.iteSt ?_ ?_
        · dsimp only
          refine Touches.trans ?_ State.raise_touches rfl
          exact Touches.refl _
        · dsimp only
          refine Touches.trans ?_ State.raise_touches rfl
          refine Touches.trans ?_ State.journal_touches rfl
          refine Touches.mkUpd ?_ (by simp only [State.without, cond_true, cond_false])
          refine Touches.trans ?_ State.putLoop_touches rfl
          exact Touches.refl _

/-! Values. -/

theorem valueWriteApply_touches {a0 : _} {a1 : _} : Touches { rt := true, rtY := true, rtZ := true } a1 (@valueWriteApply a0 a1).st := by
  unfold valueWriteApply
  dsimp only
  refine Touches.trans ?_ State.putRt_touches rfl
  exact Touches.refl _

theorem constWriteApply_touches {a0 : _} {a1 : _} : Touches { regs := true, ev := true, jr := true, rt := true, rtY := true, rtZ := true } a1 (@constWriteApply a0 a1).st := by
  unfold constWriteApply
  dsimp only
  split
  · rename_i v0 v1 v2 v3
    dsimp only
    exact Touches.refl _
  · rename_i v4 v5
    refine Touches.iteSt ?_ ?_
    · dsimp only
      refine Touches.trans ?_ State.raise_touches rfl
      exact Touches.refl _
    · dsimp only
      refine Touches.trans ?_ State.showRuntime_touches rfl
      refine Touches.foldl ?_ (fun v6 v7 => ?_)
      · exact Touches.refl _
      · split
        · rename_i v8 v9 v10
          refine Touches.trans ?_ State.journal_touches rfl
          refine Touches.trans ?_ State.putRt_touches rfl
          exact Touches.refl _
        · rename_i v11 v12
          exact Touches.refl _

theorem forceSetApply_touches {a0 : _} {a1 : _} : Touches { regs := true, ev := true, jr := true, rt := true, sec := true } a1 (@forceSetApply a0 a1).st := by
  unfold forceSetApply
  split
  · rename_i v0 v1 v2 v3
    dsimp only
    exact Touches.refl _
  · rename_i v4 v5
    dsimp only
    refine Touches.trans ?_ State.showRuntime_touches rfl
    refine Touches.foldl ?_ (fun v6 v7 => ?_)
    · refine Touches.trans ?_ State.auditBy_touches rfl
      exact Touches.refl _
    · split
      · rename_i v8 v9 v10
        refine Touches.trans ?_ State.journal_touches rfl
        refine Touches.mkUpd ?_ (by simp only [State.without, cond_true, cond_false])
        exact Touches.refl _
      · rename_i v11 v12
        exact Touches.refl _

theorem forceClearApply_touches {a0 : _} {a1 : _} : Touches { regs := true, ev := true, jr := true, rt := true, sec := true } a1 (@forceClearApply a0 a1).st := by
  unfold forceClearApply
  dsimp only
  refine Touches.trans ?_ State.showRuntime_touches rfl
  refine Touches.trans ?_ State.clearForces_touches rfl
  refine Touches.trans ?_ State.auditBy_touches rfl
  exact Touches.refl _

theorem valueOwnApply_touches {a0 : _} {a1 : _} : Touches { regs := true, lcp := true } a1 (@valueOwnApply a0 a1).st := by
  unfold valueOwnApply
  dsimp only
  split
  · rename_i v0 v1 v2
    dsimp only
    exact Touches.refl _
  · rename_i v3 v4
    dsimp only
    refine Touches.trans ?_ Touches.put rfl
    refine Touches.mkUpd ?_ (by simp only [State.without, cond_true, cond_false])
    exact Touches.refl _

theorem valueReleaseApply_touches {a0 : _} {a1 : _} : Touches { regs := true, ev := true, lcp := true, sec := true } a1 (@valueReleaseApply a0 a1).st := by
  unfold valueReleaseApply
  dsimp only
  refine Touches.trans ?_ Touches.put rfl
  refine Touches.foldl ?_ (fun v0 v1 => ?_)
  · refine Touches.ite ?_ ?_
    · refine Touches.trans ?_ State.auditBy_touches rfl
      exact Touches.refl _
    · exact Touches.refl _
  · split
    · rename_i v2 v3
      exact Touches.refl _
    · rename_i v4 v5 v6
      refine Touches.ite ?_ ?_
      · exact Touches.refl _
      · refine Touches.ite ?_ ?_
        · refine Touches.mkUpd ?_ (by simp only [State.without, cond_true, cond_false])
          exact Touches.refl _
        · refine Touches.trans ?_ State.raise_touches rfl
          refine Touches.mkUpd ?_ (by simp only [State.without, cond_true, cond_false])
          exact Touches.refl _

theorem valueReadBody_touches {a0 : _} {a1 : _} {a2 : _} : Touches {} a2 (@valueReadBody a0 a1 a2).st := by
  unfold valueReadBody
  dsimp only
  exact Touches.refl _

theorem execValueRead_touches {a0 : _} {a1 : _} {t : State} (h : (@execValueRead a0 a1) = .next t) : Touches { regs := true, beat := true, lcp := true } a1 t := by
  unfold execValueRead at h
  injection h with h
  subst h
  refine Touches.comp ?_ (served_touches ?_ rfl)
  · exact Touches.refl _
  · intro v0 v1
    refine Touches.trans ?_ valueReadBody_touches rfl
    exact Touches.refl _

theorem execValueWrite_touches {a0 : _} {a1 : _} {t : State} (h : (@execValueWrite a0 a1) = .next t) : Touches { regs := true, beat := true, lcp := true } a1 t := by
  unfold execValueWrite at h
  injection h with h
  subst h
  refine Touches.trans ?_ queued_touches rfl
  exact Touches.refl _

theorem execConstWrite_touches {a0 : _} {a1 : _} {t : State} (h : (@execConstWrite a0 a1) = .next t) : Touches { regs := true, beat := true, lcp := true } a1 t := by
  unfold execConstWrite at h
  injection h with h
  subst h
  refine Touches.trans ?_ queued_touches rfl
  exact Touches.refl _

theorem execValueOwn_touches {a0 : _} {a1 : _} {t : State} (h : (@execValueOwn a0 a1) = .next t) : Touches { regs := true, beat := true, lcp := true } a1 t := by
  unfold execValueOwn at h
  injection h with h
  subst h
  refine Touches.trans ?_ queued_touches rfl
  exact Touches.refl _

theorem execValueRelease_touches {a0 : _} {a1 : _} {t : State} (h : (@execValueRelease a0 a1) = .next t) : Touches { regs := true, beat := true, lcp := true } a1 t := by
  unfold execValueRelease at h
  injection h with h
  subst h
  refine Touches.trans ?_ queued_touches rfl
  exact Touches.refl _

theorem execForceSet_touches {a0 : _} {a1 : _} {t : State} (h : (@execForceSet a0 a1) = .next t) : Touches { regs := true, beat := true, lcp := true } a1 t := by
  unfold execForceSet at h
  injection h with h
  subst h
  refine Touches.trans ?_ queued_touches rfl
  exact Touches.refl _

theorem execForceClear_touches {a0 : _} {a1 : _} {t : State} (h : (@execForceClear a0 a1) = .next t) : Touches { regs := true, beat := true, lcp := true } a1 t := by
  unfold execForceClear at h
  injection h with h
  subst h
  refine Touches.trans ?_ queued_touches rfl
  exact Touches.refl _

theorem execLoopRead_touches {a0 : _} {a1 : _} {t : State} (h : (@execLoopRead a0 a1) = .next t) : Touches { regs := true, beat := true, lcp := true } a1 t := by
  unfold execLoopRead at h
  injection h with h
  subst h
  refine Touches.comp ?_ (served_touches ?_ rfl)
  · exact Touches.refl _
  · intro v0 v1
    refine Touches.trans ?_ loopReadBody_touches rfl
    exact Touches.refl _

theorem execLoopModeSet_touches {a0 : _} {a1 : _} {t : State} (h : (@execLoopModeSet a0 a1) = .next t) : Touches { regs := true, beat := true, lcp := true } a1 t := by
  unfold execLoopModeSet at h
  injection h with h
  subst h
  refine Touches.trans ?_ queued_touches rfl
  exact Touches.refl _

theorem execLoopCoeffSet_touches {a0 : _} {a1 : _} {t : State} (h : (@execLoopCoeffSet a0 a1) = .next t) : Touches { regs := true, beat := true, lcp := true } a1 t := by
  unfold execLoopCoeffSet at h
  injection h with h
  subst h
  refine Touches.trans ?_ queued_touches rfl
  exact Touches.refl _

theorem execLoopSpSet_touches {a0 : _} {a1 : _} {t : State} (h : (@execLoopSpSet a0 a1) = .next t) : Touches { regs := true, beat := true, lcp := true } a1 t := by
  unfold execLoopSpSet at h
  injection h with h
  subst h
  refine Touches.trans ?_ queued_touches rfl
  exact Touches.refl _

theorem execLoopBlockExecute_touches {a0 : _} {a1 : _} {a2 : _} {t : State} (h : (@execLoopBlockExecute a0 a1 a2) = .next t) : Touches { regs := true, free := true, beat := true, ev := true, rt := true, rtY := true, rtZ := true, loops := true, pair := true, triad := true } a1 t := by
  unfold execLoopBlockExecute at h
  injection h with h
  subst h
  refine Touches.comp ?_ (State.onCluster_touches ?_ rfl)
  · exact Touches.refl _
  · intro v0
    refine Touches.trans ?_ State.loopExecute_touches rfl
    exact Touches.refl _

theorem State.lineMem_touches {a0 : _} {a1 : _} {a2 : _} : Touches { mem := true, triad := true } a0 (@State.lineMem a0 a1 a2) := by
  unfold State.lineMem
  refine Touches.ite ?_ ?_
  · refine Touches.mkUpd ?_ (by simp only [State.without, cond_true, cond_false])
    exact Touches.refl _
  · refine Touches.ite ?_ ?_
    · refine Touches.mkUpd ?_ (by simp only [State.without, cond_true, cond_false])
      exact Touches.refl _
    · refine Touches.mkUpd ?_ (by simp only [State.without, cond_true, cond_false])
      exact Touches.refl _

theorem State.writeLine_touches {a0 : _} {a1 : _} : Touches { mem := true, pair := true, triad := true } a0 (@State.writeLine a0 a1) := by
  unfold State.writeLine
  dsimp only
  refine Touches.mkUpd ?_ (by simp only [State.without, cond_true, cond_false])
  refine Touches.trans ?_ State.lineMem_touches rfl
  exact Touches.refl _

theorem State.taskEnd_touches {a0 : _} {a1 : _} {a2 : _} {a3 : _} {a4 : _} : Touches { regs := true, mem := true, beat := true, rt := true, loops := true, pair := true, triad := true, can := true } a0 (@State.taskEnd a0 a1 a2 a3 a4) := by
  unfold State.taskEnd
  refine Touches.ite ?_ ?_
  · refine Touches.foldl ?_ (fun v0 v1 => ?_)
    · refine Touches.trans ?_ State.endTask_touches rfl
      exact Touches.refl _
    · refine Touches.trans ?_ State.writeLine_touches rfl
      exact Touches.refl _
  · exact Touches.refl _

theorem execTaskEnd_touches {a0 : _} {a1 : _} {a2 : _} {a3 : _} {a4 : _} {a5 : _} {t : State} (h : (@execTaskEnd a0 a1 a2 a3 a4 a5) = .next t) : Touches { regs := true, mem := true, beat := true, rt := true, rtY := true, rtZ := true, loops := true, pair := true, triad := true, can := true } a4 t := by
  unfold execTaskEnd at h
  injection h with h
  subst h
  refine Touches.comp ?_ (State.onCluster_touches ?_ rfl)
  · exact Touches.refl _
  · intro v0
    refine Touches.trans ?_ State.taskEnd_touches rfl
    exact Touches.refl _

theorem State.sliceUsed_touches {a0 : _} {a1 : _} {a2 : _} : Touches { regs := true, beat := true } a0 (@State.sliceUsed a0 a1 a2) := by
  unfold State.sliceUsed
  dsimp only
  refine Touches.trans ?_ Touches.put rfl
  refine Touches.mkUpd ?_ (by simp only [State.without, cond_true, cond_false])
  exact Touches.refl _

theorem State.watchClass_touches {a0 : _} {a1 : _} : Touches { regs := true, beat := true, ev := true, rt := true, loops := true, pair := true } a0 (@State.watchClass a0 a1) := by
  unfold State.watchClass
  refine Touches.ite ?_ ?_
  · exact Touches.refl _
  · refine Touches.ite ?_ ?_
    · refine Touches.trans ?_ State.spillAll_touches rfl
      exact Touches.refl _
    · refine Touches.trans ?_ State.overrun_touches rfl
      exact Touches.refl _

theorem State.endSlice_touches {a0 : _} {a1 : _} {a2 : _} : Touches { regs := true, beat := true, ev := true, rt := true, loops := true, pair := true } a0 (@State.endSlice a0 a1 a2) := by
  unfold State.endSlice
  refine Touches.ite ?_ ?_
  · exact Touches.refl _
  · dsimp only
    refine Touches.trans ?_ State.watchClass_touches rfl
    refine Touches.mkUpd ?_ (by simp only [State.without, cond_true, cond_false])
    refine Touches.trans ?_ State.sliceUsed_touches rfl
    exact Touches.refl _

theorem execSliceEnd_touches {a0 : _} {a1 : _} {a2 : _} {a3 : _} {t : State} (h : (@execSliceEnd a0 a1 a2 a3) = .next t) : Touches { regs := true, beat := true, ev := true, rt := true, rtY := true, rtZ := true, loops := true, pair := true, triad := true } a2 t := by
  unfold execSliceEnd at h
  injection h with h
  subst h
  refine Touches.comp ?_ (State.onCluster_touches ?_ rfl)
  · exact Touches.refl _
  · intro v0
    refine Touches.trans ?_ State.endSlice_touches rfl
    exact Touches.refl _

/-! Sessions. -/

theorem State.sessionOpened_touches {a0 : _} {a1 : _} {a2 : _} : Touches { regs := true, ev := true, sec := true } a0 (@State.sessionOpened a0 a1 a2) := by
  unfold State.sessionOpened
  refine Touches.trans ?_ State.raise_touches rfl
  refine Touches.trans ?_ State.audit_touches rfl
  exact Touches.refl _

theorem State.openSession_touches {a0 : _} {a1 : _} : Touches { regs := true, ev := true, lcp := true, sec := true } a0 (@State.openSession a0 a1) := by
  unfold State.openSession
  split
  · rename_i v0 v1 v2
    dsimp only
    refine Touches.trans ?_ State.answer_touches rfl
    refine Touches.trans ?_ State.sessionOpened_touches rfl
    refine Touches.trans ?_ State.countSessions_touches rfl
    refine Touches.trans ?_ State.onSession_touches rfl
    exact Touches.refl _
  · rename_i v3 v4
    dsimp only
    refine Touches.trans ?_ State.answer_touches rfl
    refine Touches.trans ?_ State.sessionOpened_touches rfl
    refine Touches.trans ?_ State.countSessions_touches rfl
    refine Touches.mkUpd ?_ (by simp only [State.without, cond_true, cond_false])
    exact Touches.refl _

theorem State.authFailed_touches {a0 : _} {a1 : _} {a2 : _} : Touches { regs := true, ev := true, lcp := true, sec := true } a0 (@State.authFailed a0 a1 a2) := by
  unfold State.authFailed
  dsimp only
  refine Touches.trans ?_ State.send_touches rfl
  refine Touches.trans ?_ State.raise_touches rfl
  refine Touches.mkUpd ?_ (by simp only [State.without, cond_true, cond_false])
  refine Touches.trans ?_ State.audit_touches rfl
  exact Touches.refl _

theorem State.helloService_touches {a0 : _} {a1 : _} : Touches { regs := true, free := true, ev := true, lcp := true, sec := true } a0 (@State.helloService a0 a1) := by
  unfold State.helloService
  refine Touches.ite ?_ ?_
  · split
    · rename_i v0 v1 v2 v3
      dsimp only
      refine Touches.trans ?_ State.send_touches rfl
      refine Touches.mkUpd ?_ (by simp only [State.without, cond_true, cond_false])
      refine Touches.ofSnd v3 ?_
      refine Touches.trans ?_ State.fresh_touches rfl
      exact Touches.refl _
  · refine Touches.ite ?_ ?_
    · refine Touches.trans ?_ State.authFailed_touches rfl
      exact Touches.refl _
    · refine Touches.ite ?_ ?_
      · refine Touches.trans ?_ State.authFailed_touches rfl
        exact Touches.refl _
      · refine Touches.ite ?_ ?_
        · refine Touches.trans ?_ State.authFailed_touches rfl
          exact Touches.refl _
        · dsimp only
          refine Touches.ite ?_ ?_
          · refine Touches.trans ?_ State.send_touches rfl
            refine Touches.mkUpd ?_ (by simp only [State.without, cond_true, cond_false])
            exact Touches.refl _
          · refine Touches.trans ?_ State.openSession_touches rfl
            refine Touches.mkUpd ?_ (by simp only [State.without, cond_true, cond_false])
            exact Touches.refl _

theorem State.helloTls_touches {a0 : _} {a1 : _} : Touches { regs := true, ev := true, lcp := true, sec := true } a0 (@State.helloTls a0 a1) := by
  unfold State.helloTls
  refine Touches.ite ?_ ?_
  · refine Touches.trans ?_ State.send_touches rfl
    exact Touches.refl _
  · refine Touches.trans ?_ State.openSession_touches rfl
    exact Touches.refl _

theorem State.hello_touches {a0 : _} {a1 : _} : Touches { regs := true, free := true, beat := true, ev := true, lcp := true, sec := true } a0 (@State.hello a0 a1) := by
  unfold State.hello
  split
  · rename_i v0 v1 v2
    refine Touches.ite ?_ ?_
    · refine Touches.trans ?_ State.send_touches rfl
      exact Touches.refl _
    · split
      · rename_i v3 v4 v5 v6
        refine Touches.trans ?_ State.send_touches rfl
        exact Touches.refl _
      · rename_i v7 v8
        refine Touches.ite ?_ ?_
        · refine Touches.trans ?_ State.helloService_touches rfl
          exact Touches.refl _
        · refine Touches.trans ?_ State.helloTls_touches rfl
          exact Touches.refl _
  · rename_i v9 v10
    refine Touches.trans ?_ turnedAway_touches rfl
    exact Touches.refl _

theorem execHello_touches {a0 : _} {a1 : _} {t : State} (h : (@execHello a0 a1) = .next t) : Touches { regs := true, free := true, beat := true, ev := true, lcp := true, sec := true } a1 t := by
  unfold execHello at h
  injection h with h
  subst h
  refine Touches.trans ?_ State.hello_touches rfl
  exact Touches.refl _

theorem execBye_touches {a0 : _} {a1 : _} {t : State} (h : (@execBye a0 a1) = .next t) : Touches { regs := true, beat := true, ev := true, lcp := true, jr := true, rt := true, sec := true } a1 t := by
  unfold execBye at h
  injection h with h
  subst h
  refine Touches.ite ?_ ?_
  · refine Touches.trans ?_ State.releaseSession_touches rfl
    refine Touches.comp ?_ (served_touches ?_ rfl)
    · exact Touches.refl _
    · intro v0 v1
      dsimp only
      exact Touches.refl _
  · refine Touches.comp ?_ (served_touches ?_ rfl)
    · exact Touches.refl _
    · intro v2 v3
      dsimp only
      exact Touches.refl _

theorem execPing_touches {a0 : _} {a1 : _} {t : State} (h : (@execPing a0 a1) = .next t) : Touches { regs := true, beat := true, lcp := true } a1 t := by
  unfold execPing at h
  injection h with h
  subst h
  refine Touches.comp ?_ (served_touches ?_ rfl)
  · exact Touches.refl _
  · intro v0 v1
    dsimp only
    exact Touches.refl _

theorem sessionPriorityBody_touches {a0 : _} {a1 : _} {a2 : _} : Touches { lcp := true } a2 (@sessionPriorityBody a0 a1 a2).st := by
  unfold sessionPriorityBody
  dsimp only
  refine Touches.trans ?_ State.onSession_touches rfl
  exact Touches.refl _

theorem execSessionPriority_touches {a0 : _} {a1 : _} {t : State} (h : (@execSessionPriority a0 a1) = .next t) : Touches { regs := true, beat := true, lcp := true } a1 t := by
  unfold execSessionPriority at h
  injection h with h
  subst h
  refine Touches.comp ?_ (served_touches ?_ rfl)
  · exact Touches.refl _
  · intro v0 v1
    refine Touches.trans ?_ sessionPriorityBody_touches rfl
    exact Touches.refl _

theorem execSessionTransportLoss_touches {a0 : _} {a1 : _} {t : State} (h : (@execSessionTransportLoss a0 a1) = .next t) : Touches { regs := true, lcp := true } a1 t := by
  unfold execSessionTransportLoss at h
  injection h with h
  subst h
  refine Touches.trans ?_ State.closeConn_touches rfl
  exact Touches.refl _

theorem execSessionIdleTimeout_touches {a0 : _} {a1 : _} {t : State} (h : (@execSessionIdleTimeout a0 a1) = .next t) : Touches { regs := true, lcp := true } a1 t := by
  unfold execSessionIdleTimeout at h
  injection h with h
  subst h
  split
  · rename_i v0 v1 v2
    refine Touches.ite ?_ ?_
    · refine Touches.trans ?_ State.holdSession_touches rfl
      exact Touches.refl _
    · exact Touches.refl _
  · rename_i v3 v4
    exact Touches.refl _

theorem execOwnGraceExpiry_touches {a0 : _} {a1 : _} {t : State} (h : (@execOwnGraceExpiry a0 a1) = .next t) : Touches { regs := true, ev := true, lcp := true, jr := true, rt := true, sec := true } a1 t := by
  unfold execOwnGraceExpiry at h
  injection h with h
  subst h
  split
  · rename_i v0 v1 v2
    refine Touches.ite ?_ ?_
    · refine Touches.trans ?_ State.releaseSession_touches rfl
      exact Touches.refl _
    · exact Touches.refl _
  · rename_i v3 v4
    exact Touches.refl _

theorem execNonceExpiry_touches {a0 : _} {t : State} (h : (@execNonceExpiry a0) = .next t) : Touches { lcp := true } a0 t := by
  unfold execNonceExpiry at h
  injection h with h
  subst h
  refine Touches.ite ?_ ?_
  · refine Touches.mkUpd ?_ (by simp only [State.without, cond_true, cond_false])
    exact Touches.refl _
  · exact Touches.refl _

theorem execServicePacketCrcFail_touches {a0 : _} {t : State} (h : (@execServicePacketCrcFail a0) = .next t) : Touches { regs := true } a0 t := by
  unfold execServicePacketCrcFail at h
  injection h with h
  subst h
  refine Touches.trans ?_ Touches.inc rfl
  exact Touches.refl _

theorem execTransferTimeout_touches {a0 : _} {a1 : _} {t : State} (h : (@execTransferTimeout a0 a1) = .next t) : Touches { lcp := true } a1 t := by
  unfold execTransferTimeout at h
  injection h with h
  subst h
  refine Touches.mkUpd ?_ (by simp only [State.without, cond_true, cond_false])
  exact Touches.refl _

theorem execForwardTimeout_touches {a0 : _} {a1 : _} {a2 : _} {t : State} (h : (@execForwardTimeout a0 a1 a2) = .next t) : Touches { lcp := true } a2 t := by
  unfold execForwardTimeout at h
  injection h with h
  subst h
  split
  · rename_i v0 v1
    exact Touches.refl _
  · rename_i v2 v3 v4
    dsimp only
    refine Touches.trans ?_ State.answer_touches rfl
    refine Touches.mkUpd ?_ (by simp only [State.without, cond_true, cond_false])
    exact Touches.refl _

theorem execGong_touches {a0 : _} {a1 : _} {t : State} (h : (@execGong a0 a1) = .next t) : Touches { regs := true, free := true, beat := true, lcp := true } a1 t := by
  unfold execGong at h
  injection h with h
  subst h
  refine Touches.ite ?_ ?_
  · split
    · rename_i v0 v1 v2 v3
      refine Touches.mkUpd ?_ (by simp only [State.without, cond_true, cond_false])
      refine Touches.ofSnd v3 ?_
      refine Touches.trans ?_ State.fresh_touches rfl
      refine Touches.trans ?_ queued_touches rfl
      exact Touches.refl _
  · refine Touches.trans ?_ queued_touches rfl
    exact Touches.refl _

theorem execGongDatagramSend_touches {a0 : _} {t : State} (h : (@execGongDatagramSend a0) = .next t) : Touches { lcp := true } a0 t := by
  unfold execGongDatagramSend at h
  injection h with h
  subst h
  refine Touches.ite ?_ ?_
  · exact Touches.refl _
  · split
    · rename_i v0 v1
      exact Touches.refl _
    · rename_i v2 v3 v4 v5
      dsimp only
      refine Touches.mkUpd ?_ (by simp only [State.without, cond_true, cond_false])
      exact Touches.refl _

theorem State.gongRejected_touches {a0 : _} {a1 : _} {a2 : _} : Touches { regs := true, ev := true } a0 (@State.gongRejected a0 a1 a2) := by
  unfold State.gongRejected
  refine Touches.trans ?_ State.raise_touches rfl
  exact Touches.refl _

theorem State.gongReceive_touches {a0 : _} {a1 : _} : Touches { regs := true, ev := true, lcp := true } a0 (@State.gongReceive a0 a1) := by
  unfold State.gongReceive
  refine Touches.ite ?_ ?_
  · exact Touches.refl _
  · refine Touches.ite ?_ ?_
    · refine Touches.trans ?_ State.gongRejected_touches rfl
      exact Touches.refl _
    · refine Touches.ite ?_ ?_
      · exact Touches.refl _
      · refine Touches.ite ?_ ?_
        · refine Touches.trans ?_ State.gongRejected_touches rfl
          exact Touches.refl _
        · refine Touches.ite ?_ ?_
          · refine Touches.trans ?_ State.gongRejected_touches rfl
            exact Touches.refl _
          · dsimp only
            refine Touches.trans ?_ State.raise_touches rfl
            refine Touches.trans ?_ Touches.put rfl
            refine Touches.mkUpd ?_ (by simp only [State.without, cond_true, cond_false])
            exact Touches.refl _

theorem execGongDatagramReceive_touches {a0 : _} {a1 : _} {t : State} (h : (@execGongDatagramReceive a0 a1) = .next t) : Touches { regs := true, ev := true, lcp := true } a1 t := by
  unfold execGongDatagramReceive at h
  injection h with h
  subst h
  refine Touches.trans ?_ State.gongReceive_touches rfl
  exact Touches.refl _

/-! Events. -/

theorem State.toRecorder_touches {a0 : _} {a1 : _} : Touches { regs := true, jr := true } a0 (@State.toRecorder a0 a1) := by
  unfold State.toRecorder
  refine Touches.foldl ?_ (fun v0 v1 => ?_)
  · exact Touches.refl _
  · refine Touches.ite ?_ ?_
    · refine Touches.ite ?_ ?_
      · refine Touches.trans ?_ Touches.put rfl
        refine Touches.mkUpd ?_ (by simp only [State.without, cond_true, cond_false])
        exact Touches.refl _
      · refine Touches.trans ?_ Touches.inc rfl
        refine Touches.mkUpd ?_ (by simp only [State.without, cond_true, cond_false])
        exact Touches.refl _
    · refine Touches.ite ?_ ?_
      · refine Touches.mkUpd ?_ (by simp only [State.without, cond_true, cond_false])
        exact Touches.refl _
      · refine Touches.trans ?_ Touches.inc rfl
        exact Touches.refl _

theorem State.showLeds_touches {a0 : _} : Touches { regs := true } a0 (@State.showLeds a0) := by
  unfold State.showLeds
  dsimp only
  refine Touches.trans ?_ Touches.put rfl
  exact Touches.refl _

theorem State.deliver_touches {a0 : _} : Touches { regs := true, ev := true, lcp := true, jr := true, panel := true } a0 (@State.deliver a0) := by
  unfold State.deliver
  split
  · rename_i v0 v1 v2 v3
    split
    · rename_i v4
      exact Touches.refl _
    · rename_i v5 v6 v7
      dsimp only
      refine Touches.ite ?_ ?_
      · refine Touches.trans ?_ State.toRecorder_touches rfl
        refine Touches.ite ?_ ?_
        · refine Touches.trans ?_ Touches.put rfl
          refine Touches.ite ?_ ?_
          · refine Touches.trans ?_ State.showLeds_touches rfl
            refine Touches.mkUpd ?_ (by simp only [State.without, cond_true, cond_false])
            exact Touches.refl _
          · refine Touches.mkUpd ?_ (by simp only [State.without, cond_true, cond_false])
            exact Touches.refl _
        · refine Touches.ite ?_ ?_
          · refine Touches.trans ?_ State.showLeds_touches rfl
            refine Touches.mkUpd ?_ (by simp only [State.without, cond_true, cond_false])
            exact Touches.refl _
          · refine Touches.mkUpd ?_ (by simp only [State.without, cond_true, cond_false])
            exact Touches.refl _
      · refine Touches.ite ?_ ?_
        · refine Touches.trans ?_ Touches.put rfl
          refine Touches.ite ?_ ?_
          · refine Touches.trans ?_ State.showLeds_touches rfl
            refine Touches.mkUpd ?_ (by simp only [State.without, cond_true, cond_false])
            exact Touches.refl _
          · refine Touches.mkUpd ?_ (by simp only [State.without, cond_true, cond_false])
            exact Touches.refl _
        · refine Touches.ite ?_ ?_
          · refine Touches.trans ?_ State.showLeds_touches rfl
            refine Touches.mkUpd ?_ (by simp only [State.without, cond_true, cond_false])
            exact Touches.refl _
          · refine Touches.mkUpd ?_ (by simp only [State.without, cond_true, cond_false])
            exact Touches.refl _

theorem execEventDeliver_touches {a0 : _} {t : State} (h : (@execEventDeliver a0) = .next t) : Touches { regs := true, ev := true, lcp := true, jr := true, panel := true } a0 t := by
  unfold execEventDeliver at h
  injection h with h
  subst h
  refine Touches.trans ?_ State.deliver_touches rfl
  exact Touches.refl _

theorem State.journalToll_touches {a0 : _} : Touches { regs := true, ev := true, jr := true } a0 (@State.journalToll a0) := by
  unfold State.journalToll
  refine Touches.trans ?_ State.journal_touches rfl
  exact Touches.refl _

theorem State.tollStep_touches {a0 : _} {a1 : _} {a2 : _} : Touches { regs := true, beat := true, ev := true, jr := true, wd := true, pwr := true, img := true } a0 (@State.tollStep a0 a1 a2) := by
  unfold State.tollStep
  dsimp only
  refine Touches.ite ?_ ?_
  · refine Touches.trans ?_ State.cause_touches rfl
    refine Touches.trans ?_ State.raiseLatched_touches rfl
    refine Touches.trans ?_ State.journal_touches rfl
    refine Touches.trans ?_ State.journalToll_touches rfl
    refine Touches.mkUpd ?_ (by simp only [State.without, cond_true, cond_false])
    refine Touches.trans ?_ State.latchCounts_touches rfl
    refine Touches.trans ?_ Touches.put rfl
    refine Touches.mkUpd ?_ (by simp only [State.without, cond_true, cond_false])
    refine Touches.trans ?_ State.rejectNext_touches rfl
    exact Touches.refl _
  · refine Touches.ite ?_ ?_
    · refine Touches.trans ?_ State.cause_touches rfl
      refine Touches.trans ?_ State.raiseLatched_touches rfl
      refine Touches.trans ?_ State.journal_touches rfl
      refine Touches.trans ?_ State.journalToll_touches rfl
      refine Touches.mkUpd ?_ (by simp only [State.without, cond_true, cond_false])
      refine Touches.trans ?_ State.latchCounts_touches rfl
      refine Touches.trans ?_ Touches.put rfl
      refine Touches.mkUpd ?_ (by simp only [State.without, cond_true, cond_false])
      refine Touches.trans ?_ State.rejectNext_touches rfl
      exact Touches.refl _
    · refine Touches.mkUpd ?_ (by simp only [State.without, cond_true, cond_false])
      refine Touches.trans ?_ State.raiseLatched_touches rfl
      refine Touches.trans ?_ State.journal_touches rfl
      refine Touches.trans ?_ State.journalToll_touches rfl
      refine Touches.mkUpd ?_ (by simp only [State.without, cond_true, cond_false])
      refine Touches.trans ?_ State.latchCounts_touches rfl
      refine Touches.trans ?_ Touches.put rfl
      refine Touches.mkUpd ?_ (by simp only [State.without, cond_true, cond_false])
      refine Touches.trans ?_ State.rejectNext_touches rfl
      exact Touches.refl _

theorem State.eraseStarts_touches {a0 : _} : Touches { regs := true, wd := true } a0 (@State.eraseStarts a0) := by
  unfold State.eraseStarts
  refine Touches.ite ?_ ?_
  · exact Touches.refl _
  · dsimp only
    refine Touches.ite ?_ ?_
    · refine Touches.trans ?_ Touches.put rfl
      refine Touches.mkUpd ?_ (by simp only [State.without, cond_true, cond_false])
      exact Touches.refl _
    · refine Touches.mkUpd ?_ (by simp only [State.without, cond_true, cond_false])
      exact Touches.refl _

theorem State.eraseWanted_touches {a0 : _} : Touches { regs := true, wd := true } a0 (@State.eraseWanted a0) := by
  unfold State.eraseWanted
  refine Touches.trans ?_ State.eraseStarts_touches rfl
  refine Touches.mkUpd ?_ (by simp only [State.without, cond_true, cond_false])
  exact Touches.refl _

theorem State.eraseEnds_touches {a0 : _} {a1 : _} : Touches { regs := true, wd := true } a0 (@State.eraseEnds a0 a1) := by
  unfold State.eraseEnds
  dsimp only
  refine Touches.ite ?_ ?_
  · refine Touches.trans ?_ Touches.put rfl
    refine Touches.trans ?_ Touches.put rfl
    refine Touches.mkUpd ?_ (by simp only [State.without, cond_true, cond_false])
    exact Touches.refl _
  · refine Touches.mkUpd ?_ (by simp only [State.without, cond_true, cond_false])
    exact Touches.refl _

theorem State.openWindow_touches {a0 : _} : Touches { regs := true, wd := true } a0 (@State.openWindow a0) := by
  unfold State.openWindow
  dsimp only
  refine Touches.trans ?_ State.eraseStarts_touches rfl
  refine Touches.mkUpd ?_ (by simp only [State.without, cond_true, cond_false])
  iterate 5 refine Touches.trans ?_ Touches.put rfl
  exact Touches.refl _

theorem State.expire_touches {a0 : _} {a1 : _} : Touches { regs := true, beat := true, ev := true, jr := true, wd := true, pwr := true, img := true } a0 (@State.expire a0 a1) := by
  unfold State.expire
  dsimp only
  refine Touches.ite ?_ ?_
  · refine Touches.trans ?_ State.latchCounts_touches rfl
    refine Touches.trans ?_ Touches.put rfl
    refine Touches.mkUpd ?_ (by simp only [State.without, cond_true, cond_false])
    refine Touches.trans ?_ Touches.put rfl
    refine Touches.trans ?_ Touches.inc rfl
    refine Touches.trans ?_ Touches.put rfl
    refine Touches.trans ?_ Touches.put rfl
    exact Touches.refl _
  · refine Touches.ite ?_ ?_
    · refine Touches.trans ?_ State.openWindow_touches rfl
      refine Touches.trans ?_ State.tollStep_touches rfl
      refine Touches.trans ?_ Touches.put rfl
      refine Touches.trans ?_ Touches.inc rfl
      refine Touches.trans ?_ Touches.put rfl
      refine Touches.trans ?_ Touches.put rfl
      exact Touches.refl _
    · refine Touches.mkUpd ?_ (by simp only [State.without, cond_true, cond_false])
      refine Touches.trans ?_ State.tollStep_touches rfl
      refine Touches.trans ?_ Touches.put rfl
      refine Touches.trans ?_ Touches.inc rfl
      refine Touches.trans ?_ Touches.put rfl
      refine Touches.trans ?_ Touches.put rfl
      exact Touches.refl _

theorem State.wdLands_touches {a0 : _} {a1 : _} {a2 : _} : Touches { regs := true, beat := true, ev := true, jr := true, wd := true, pwr := true, img := true } a0 (@State.wdLands a0 a1 a2) := by
  unfold State.wdLands
  refine Touches.ite ?_ ?_
  · exact Touches.refl _
  · dsimp only
    refine Touches.ite ?_ ?_
    · refine Touches.trans ?_ State.expire_touches rfl
      refine Touches.trans ?_ State.raiseLatched_touches rfl
      refine Touches.trans ?_ Touches.put rfl
      exact Touches.refl _
    · refine Touches.ite ?_ ?_
      · refine Touches.trans ?_ State.expire_touches rfl
        refine Touches.trans ?_ State.raiseLatched_touches rfl
        refine Touches.trans ?_ Touches.put rfl
        exact Touches.refl _
      · refine Touches.trans ?_ State.openWindow_touches rfl
        refine Touches.trans ?_ Touches.put rfl
        exact Touches.refl _

theorem execWdService_touches {a0 : _} {a1 : _} {a2 : _} {t : State} (h : (@execWdService a0 a1 a2) = .next t) : Touches { regs := true, beat := true, ev := true, jr := true, wd := true, pwr := true, img := true } a2 t := by
  unfold execWdService at h
  injection h with h
  subst h
  split
  · rename_i v0 v1 v2
    refine Touches.trans ?_ State.wdLands_touches rfl
    exact Touches.refl _
  · rename_i v3 v4
    exact Touches.refl _

theorem execWdExpired_touches {a0 : _} {t : State} (h : (@execWdExpired a0) = .next t) : Touches { regs := true, beat := true, ev := true, jr := true, wd := true, pwr := true, img := true } a0 t := by
  unfold execWdExpired at h
  injection h with h
  subst h
  refine Touches.ite ?_ ?_
  · exact Touches.refl _
  · dsimp only
    refine Touches.trans ?_ State.expire_touches rfl
    refine Touches.trans ?_ State.raiseLatched_touches rfl
    refine Touches.trans ?_ Touches.put rfl
    exact Touches.refl _

theorem execWdAckTimeout_touches {a0 : _} {t : State} (h : (@execWdAckTimeout a0) = .next t) : Touches { beat := true, wd := true, pwr := true } a0 t := by
  unfold execWdAckTimeout at h
  injection h with h
  subst h
  refine Touches.ite ?_ ?_
  · exact Touches.refl _
  · dsimp only
    refine Touches.trans ?_ State.cause_touches rfl
    refine Touches.trans ?_ State.latch_touches rfl
    refine Touches.mkUpd ?_ (by simp only [State.without, cond_true, cond_false])
    exact Touches.refl _

theorem execWdClockStop_touches {a0 : _} {t : State} (h : (@execWdClockStop a0) = .next t) : Touches { regs := true, beat := true, ev := true, jr := true, wd := true, pwr := true, img := true } a0 t := by
  unfold execWdClockStop at h
  injection h with h
  subst h
  refine Touches.ite ?_ ?_
  · exact Touches.refl _
  · dsimp only
    refine Touches.trans ?_ State.expire_touches rfl
    refine Touches.trans ?_ State.raiseLatched_touches rfl
    refine Touches.mkUpd ?_ (by simp only [State.without, cond_true, cond_false])
    refine Touches.trans ?_ Touches.put rfl
    refine Touches.trans ?_ Touches.put rfl
    exact Touches.refl _

theorem State.healthFails_touches {a0 : _} {a1 : _} : Touches { regs := true, ev := true } a0 (@State.healthFails a0 a1) := by
  unfold State.healthFails
  refine Touches.ite ?_ ?_
  · exact Touches.refl _
  · refine Touches.trans ?_ State.raise_touches rfl
    refine Touches.trans ?_ Touches.inc rfl
    refine Touches.trans ?_ Touches.put rfl
    exact Touches.refl _

theorem execWdEraseGuard_touches {a0 : _} {a1 : _} {t : State} (h : (@execWdEraseGuard a0 a1) = .next t) : Touches { regs := true, ev := true, pwr := true } a1 t := by
  unfold execWdEraseGuard at h
  injection h with h
  subst h
  refine Touches.ite ?_ ?_
  · exact Touches.refl _
  · refine Touches.trans ?_ State.raiseLatched_touches rfl
    iterate 3 refine Touches.trans ?_ Touches.put rfl
    exact Touches.refl _

theorem execTollAge_touches {a0 : _} {t : State} (h : (@execTollAge a0) = .next t) : Touches { regs := true, wd := true } a0 t := by
  unfold execTollAge at h
  injection h with h
  subst h
  refine Touches.trans ?_ Touches.put rfl
  refine Touches.mkUpd ?_ (by simp only [State.without, cond_true, cond_false])
  exact Touches.refl _

theorem State.showFaults_touches {a0 : _} : Touches { regs := true } a0 (@State.showFaults a0) := by
  unfold State.showFaults
  dsimp only
  refine Touches.trans ?_ Touches.peak rfl
  iterate 4 refine Touches.trans ?_ Touches.put rfl
  exact Touches.refl _

theorem State.putCtx_touches {a0 : _} {a1 : _} {a2 : _} : Touches { ev := true } a0 (@State.putCtx a0 a1 a2) := by
  unfold State.putCtx
  refine Touches.mkUpd ?_ (by simp only [State.without, cond_true, cond_false])
  exact Touches.refl _

theorem State.faultArrives_touches {a0 : _} {a1 : _} : Touches { regs := true, beat := true, ev := true, jr := true, wd := true, pwr := true, img := true } a0 (@State.faultArrives a0 a1) := by
  unfold State.faultArrives
  dsimp only
  split
  · rename_i v0 v1
    refine Touches.trans ?_ State.showFaults_touches rfl
    refine Touches.trans ?_ State.putCtx_touches rfl
    exact Touches.refl _
  · rename_i v2 v3 v4
    refine Touches.ite ?_ ?_
    · refine Touches.trans ?_ State.tollStep_touches rfl
      refine Touches.trans ?_ State.raiseLatched_touches rfl
      exact Touches.refl _
    · refine Touches.ite ?_ ?_
      · refine Touches.trans ?_ State.showFaults_touches rfl
        refine Touches.trans ?_ Touches.inc rfl
        refine Touches.trans ?_ State.putCtx_touches rfl
        exact Touches.refl _
      · refine Touches.ite ?_ ?_
        · refine Touches.trans ?_ State.tollStep_touches rfl
          refine Touches.trans ?_ State.raiseLatched_touches rfl
          exact Touches.refl _
        · refine Touches.trans ?_ State.showFaults_touches rfl
          refine Touches.trans ?_ State.putCtx_touches rfl
          exact Touches.refl _

theorem execFaultArrival_touches {a0 : _} {t : State} (h : (@execFaultArrival a0) = .next t) : Touches { regs := true, beat := true, ev := true, jr := true, wd := true, pwr := true, img := true } a0 t := by
  unfold execFaultArrival at h
  injection h with h
  subst h
  split
  · rename_i v0 v1
    exact Touches.refl _
  · rename_i v2 v3 v4 v5
    refine Touches.trans ?_ State.faultArrives_touches rfl
    refine Touches.mkUpd ?_ (by simp only [State.without, cond_true, cond_false])
    exact Touches.refl _

theorem execFaultHandlerEnd_touches {a0 : _} {a1 : _} {a2 : _} {t : State} (h : (@execFaultHandlerEnd a0 a1 a2) = .next t) : Touches { regs := true, beat := true, ev := true } a2 t := by
  unfold execFaultHandlerEnd at h
  injection h with h
  subst h
  split
  · rename_i v0 v1
    exact Touches.refl _
  · rename_i v2 v3 v4
    dsimp only
    refine Touches.ite ?_ ?_
    · refine Touches.mkUpd ?_ (by simp only [State.without, cond_true, cond_false])
      refine Touches.trans ?_ State.showFaults_touches rfl
      refine Touches.trans ?_ State.putCtx_touches rfl
      exact Touches.refl _
    · refine Touches.trans ?_ State.showFaults_touches rfl
      refine Touches.trans ?_ State.putCtx_touches rfl
      exact Touches.refl _

theorem State.safeRecord_touches {a0 : _} {a1 : _} : Touches { regs := true, ev := true, jr := true, wd := true, pwr := true } a0 (@State.safeRecord a0 a1) := by
  unfold State.safeRecord
  refine Touches.trans ?_ State.journal_touches rfl
  refine Touches.trans ?_ State.latch_touches rfl
  refine Touches.mkUpd ?_ (by simp only [State.without, cond_true, cond_false])
  exact Touches.refl _

theorem execFatalHandler_touches {a0 : _} {t : State} (h : (@execFatalHandler a0) = .next t) : Touches { regs := true, beat := true, ev := true, jr := true, wd := true, pwr := true, img := true } a0 t := by
  unfold execFatalHandler at h
  injection h with h
  subst h
  split
  · rename_i v0 v1
    exact Touches.refl _
  · rename_i v2 v3 v4
    dsimp only
    refine Touches.ite ?_ ?_
    · refine Touches.trans ?_ State.cause_touches rfl
      refine Touches.trans ?_ Touches.put rfl
      refine Touches.trans ?_ Touches.put rfl
      refine Touches.trans ?_ State.rejectNext_touches rfl
      exact Touches.refl _
    · refine Touches.trans ?_ State.cause_touches rfl
      refine Touches.trans ?_ Touches.put rfl
      refine Touches.trans ?_ Touches.put rfl
      refine Touches.trans ?_ State.safeRecord_touches rfl
      refine Touches.trans ?_ State.rejectNext_touches rfl
      exact Touches.refl _

theorem State.recorderAppend_touches {a0 : _} : Touches { regs := true, ev := true, jr := true, pwr := true } a0 (@State.recorderAppend a0) := by
  unfold State.recorderAppend
  split
  · rename_i v0 v1
    exact Touches.refl _
  · rename_i v2 v3 v4 v5
    refine Touches.ite ?_ ?_
    · exact Touches.refl _
    · dsimp only
      refine Touches.ite ?_ ?_
      · refine Touches.trans ?_ Touches.inc rfl
        refine Touches.ite ?_ ?_
        · refine Touches.mkUpd ?_ (by simp only [State.without, cond_true, cond_false])
          exact Touches.refl _
        · refine Touches.mkUpd ?_ (by simp only [State.without, cond_true, cond_false])
          exact Touches.refl _
      · refine Touches.ite ?_ ?_
        · refine Touches.trans ?_ Touches.put rfl
          refine Touches.mkUpd ?_ (by simp only [State.without, cond_true, cond_false])
          refine Touches.ite ?_ ?_
          · refine Touches.mkUpd ?_ (by simp only [State.without, cond_true, cond_false])
            exact Touches.refl _
          · refine Touches.mkUpd ?_ (by simp only [State.without, cond_true, cond_false])
            exact Touches.refl _
        · refine Touches.ite ?_ ?_
          · refine Touches.trans ?_ Touches.put rfl
            refine Touches.trans ?_ Touches.put rfl
            refine Touches.mkUpd ?_ (by simp only [State.without, cond_true, cond_false])
            refine Touches.ite ?_ ?_
            · refine Touches.mkUpd ?_ (by simp only [State.without, cond_true, cond_false])
              exact Touches.refl _
            · refine Touches.mkUpd ?_ (by simp only [State.without, cond_true, cond_false])
              exact Touches.refl _
          · refine Touches.trans ?_ State.raise_touches rfl
            refine Touches.mkUpd ?_ (by simp only [State.without, cond_true, cond_false])
            refine Touches.trans ?_ Touches.put rfl
            refine Touches.trans ?_ Touches.put rfl
            refine Touches.mkUpd ?_ (by simp only [State.without, cond_true, cond_false])
            refine Touches.ite ?_ ?_
            · refine Touches.mkUpd ?_ (by simp only [State.without, cond_true, cond_false])
              exact Touches.refl _
            · refine Touches.mkUpd ?_ (by simp only [State.without, cond_true, cond_false])
              exact Touches.refl _

theorem execRecorderAppend_touches {a0 : _} {t : State} (h : (@execRecorderAppend a0) = .next t) : Touches { regs := true, ev := true, jr := true, pwr := true } a0 t := by
  unfold execRecorderAppend at h
  injection h with h
  subst h
  refine Touches.trans ?_ State.recorderAppend_touches rfl
  exact Touches.refl _

theorem execRecorderFreeze_touches {a0 : _} {a1 : _} {t : State} (h : (@execRecorderFreeze a0 a1) = .next t) : Touches { regs := true, beat := true, lcp := true } a1 t := by
  unfold execRecorderFreeze at h
  injection h with h
  subst h
  refine Touches.comp ?_ (served_touches ?_ rfl)
  · exact Touches.refl _
  · intro v0 v1
    dsimp only
    refine Touches.trans ?_ Touches.put rfl
    refine Touches.trans ?_ Touches.put rfl
    exact Touches.refl _

theorem execRecorderRead_touches {a0 : _} {a1 : _} {t : State} (h : (@execRecorderRead a0 a1) = .next t) : Touches { regs := true, beat := true, lcp := true } a1 t := by
  unfold execRecorderRead at h
  injection h with h
  subst h
  refine Touches.comp ?_ (served_touches ?_ rfl)
  · exact Touches.refl _
  · intro v0 v1
    split
    · rename_i v2 v3 v4 v5
      dsimp only
      exact Touches.refl _

theorem recorderThawBody_touches {a0 : _} {a1 : _} : Touches { regs := true, jr := true } a1 (@recorderThawBody a0 a1).st := by
  unfold recorderThawBody
  dsimp only
  refine Touches.trans ?_ State.thaw_touches rfl
  exact Touches.refl _

theorem execRecorderThaw_touches {a0 : _} {a1 : _} {t : State} (h : (@execRecorderThaw a0 a1) = .next t) : Touches { regs := true, beat := true, lcp := true, jr := true } a1 t := by
  unfold execRecorderThaw at h
  injection h with h
  subst h
  refine Touches.comp ?_ (served_touches ?_ rfl)
  · exact Touches.refl _
  · intro v0 v1
    refine Touches.trans ?_ recorderThawBody_touches rfl
    exact Touches.refl _

theorem recorderClearBody_touches {a0 : _} {a1 : _} {a2 : _} : Touches { regs := true, ev := true, jr := true, sec := true } a2 (@recorderClearBody a0 a1 a2).st := by
  unfold recorderClearBody
  dsimp only
  refine Touches.mkUpd ?_ (by simp only [State.without, cond_true, cond_false])
  refine Touches.trans ?_ Touches.put rfl
  refine Touches.mkUpd ?_ (by simp only [State.without, cond_true, cond_false])
  refine Touches.trans ?_ Touches.inc rfl
  refine Touches.trans ?_ Touches.inc rfl
  iterate 3 refine Touches.trans ?_ Touches.put rfl
  refine Touches.mkUpd ?_ (by simp only [State.without, cond_true, cond_false])
  refine Touches.trans ?_ State.auditBy_touches rfl
  exact Touches.refl _

theorem execRecorderClear_touches {a0 : _} {a1 : _} {t : State} (h : (@execRecorderClear a0 a1) = .next t) : Touches { regs := true, beat := true, ev := true, lcp := true, jr := true, sec := true } a1 t := by
  unfold execRecorderClear at h
  injection h with h
  subst h
  refine Touches.comp ?_ (served_touches ?_ rfl)
  · exact Touches.refl _
  · intro v0 v1
    refine Touches.trans ?_ recorderClearBody_touches rfl
    exact Touches.refl _

theorem execEventSubscribe_touches {a0 : _} {a1 : _} {t : State} (h : (@execEventSubscribe a0 a1) = .next t) : Touches { regs := true, beat := true, lcp := true } a1 t := by
  unfold execEventSubscribe at h
  injection h with h
  subst h
  refine Touches.comp ?_ (served_touches ?_ rfl)
  · exact Touches.refl _
  · intro v0 v1
    dsimp only
    refine Touches.trans ?_ State.onSession_touches rfl
    exact Touches.refl _

theorem eventReadBody_touches {a0 : _} {a1 : _} {a2 : _} : Touches {} a2 (@eventReadBody a0 a1 a2).st := by
  unfold eventReadBody
  dsimp only
  exact Touches.refl _

theorem execEventRead_touches {a0 : _} {a1 : _} {t : State} (h : (@execEventRead a0 a1) = .next t) : Touches { regs := true, beat := true, lcp := true } a1 t := by
  unfold execEventRead at h
  injection h with h
  subst h
  refine Touches.comp ?_ (served_touches ?_ rfl)
  · exact Touches.refl _
  · intro v0 v1
    refine Touches.trans ?_ eventReadBody_touches rfl
    exact Touches.refl _

theorem State.eventPackets_touches {a0 : _} : Touches { lcp := true } a0 (@State.eventPackets a0) := by
  unfold State.eventPackets
  dsimp only
  refine Touches.mkUpd ?_ (by simp only [State.without, cond_true, cond_false])
  exact Touches.refl _

/-! Journal. -/

theorem State.rollStart_touches {a0 : _} {a1 : _} : Touches { regs := true, ev := true, jr := true } a0 (@State.rollStart a0 a1) := by
  unfold State.rollStart
  dsimp only
  refine Touches.trans ?_ State.raise_touches rfl
  refine Touches.trans ?_ Touches.put rfl
  refine Touches.mkUpd ?_ (by simp only [State.without, cond_true, cond_false])
  exact Touches.refl _

theorem State.commitRecord_touches {a0 : _} : Touches { regs := true, ev := true, lcp := true, jr := true } a0 (@State.commitRecord a0) := by
  unfold State.commitRecord
  split
  · rename_i v0 v1
    exact Touches.refl _
  · rename_i v2 v3 v4 v5
    refine Touches.ite ?_ ?_
    · exact Touches.refl _
    · dsimp only
      refine Touches.trans ?_ State.releaseHeld_touches rfl
      refine Touches.ite ?_ ?_
      · refine Touches.trans ?_ State.rollStart_touches rfl
        iterate 3 refine Touches.trans ?_ Touches.put rfl
        refine Touches.mkUpd ?_ (by simp only [State.without, cond_true, cond_false])
        exact Touches.refl _
      · refine Touches.trans ?_ Touches.put rfl
        refine Touches.trans ?_ Touches.put rfl
        refine Touches.trans ?_ Touches.put rfl
        refine Touches.mkUpd ?_ (by simp only [State.without, cond_true, cond_false])
        exact Touches.refl _

theorem execJournalRecordCommit_touches {a0 : _} {t : State} (h : (@execJournalRecordCommit a0) = .next t) : Touches { regs := true, ev := true, lcp := true, jr := true } a0 t := by
  unfold execJournalRecordCommit at h
  injection h with h
  subst h
  refine Touches.trans ?_ State.commitRecord_touches rfl
  exact Touches.refl _

theorem State.rollCopy_touches {a0 : _} : Touches { regs := true, jr := true } a0 (@State.rollCopy a0) := by
  unfold State.rollCopy
  refine Touches.ite ?_ ?_
  · exact Touches.refl _
  · split
    · rename_i v0 v1 v2 v3
      dsimp only
      refine Touches.ite ?_ ?_
      · refine Touches.trans ?_ Touches.put rfl
        refine Touches.mkUpd ?_ (by simp only [State.without, cond_true, cond_false])
        exact Touches.refl _
      · refine Touches.mkUpd ?_ (by simp only [State.without, cond_true, cond_false])
        exact Touches.refl _

theorem execRollCopy_touches {a0 : _} {t : State} (h : (@execRollCopy a0) = .next t) : Touches { regs := true, jr := true } a0 t := by
  unfold execRollCopy at h
  injection h with h
  subst h
  refine Touches.trans ?_ State.rollCopy_touches rfl
  exact Touches.refl _

theorem State.swapHalves_touches {a0 : _} : Touches { regs := true, jr := true } a0 (@State.swapHalves a0) := by
  unfold State.swapHalves
  dsimp only
  iterate 3 refine Touches.trans ?_ Touches.put rfl
  refine Touches.mkUpd ?_ (by simp only [State.without, cond_true, cond_false])
  exact Touches.refl _

theorem State.rollSwitch_touches {a0 : _} : Touches { regs := true, jr := true } a0 (@State.rollSwitch a0) := by
  unfold State.rollSwitch
  dsimp only
  refine Touches.trans ?_ Touches.inc rfl
  refine Touches.trans ?_ Touches.put rfl
  refine Touches.trans ?_ Touches.put rfl
  refine Touches.trans ?_ State.swapHalves_touches rfl
  refine Touches.ite ?_ ?_
  · refine Touches.mkUpd ?_ (by simp only [State.without, cond_true, cond_false])
    exact Touches.refl _
  · refine Touches.mkUpd ?_ (by simp only [State.without, cond_true, cond_false])
    exact Touches.refl _

theorem State.rollDone_touches {a0 : _} : Touches { regs := true, ev := true, jr := true } a0 (@State.rollDone a0) := by
  unfold State.rollDone
  refine Touches.ite ?_ ?_
  · exact Touches.refl _
  · dsimp only
    refine Touches.ite ?_ ?_
    · refine Touches.trans ?_ State.raise_touches rfl
      refine Touches.mkUpd ?_ (by simp only [State.without, cond_true, cond_false])
      refine Touches.trans ?_ State.raise_touches rfl
      refine Touches.trans ?_ State.rollSwitch_touches rfl
      exact Touches.refl _
    · refine Touches.mkUpd ?_ (by simp only [State.without, cond_true, cond_false])
      refine Touches.trans ?_ State.raise_touches rfl
      refine Touches.trans ?_ State.rollSwitch_touches rfl
      exact Touches.refl _

theorem execRollDone_touches {a0 : _} {t : State} (h : (@execRollDone a0) = .next t) : Touches { regs := true, ev := true, jr := true } a0 t := by
  unfold execRollDone at h
  injection h with h
  subst h
  refine Touches.trans ?_ State.rollDone_touches rfl
  exact Touches.refl _

theorem State.rollAbandon_touches {a0 : _} : Touches { regs := true, jr := true } a0 (@State.rollAbandon a0) := by
  unfold State.rollAbandon
  refine Touches.ite ?_ ?_
  · refine Touches.trans ?_ Touches.put rfl
    refine Touches.mkUpd ?_ (by simp only [State.without, cond_true, cond_false])
    exact Touches.refl _
  · exact Touches.refl _

theorem execJournalStatus_touches {a0 : _} {a1 : _} {t : State} (h : (@execJournalStatus a0 a1) = .next t) : Touches { regs := true, beat := true, lcp := true } a1 t := by
  unfold execJournalStatus at h
  injection h with h
  subst h
  refine Touches.comp ?_ (served_touches ?_ rfl)
  · exact Touches.refl _
  · intro v0 v1
    dsimp only
    exact Touches.refl _

theorem execRollNow_touches {a0 : _} {a1 : _} {t : State} (h : (@execRollNow a0 a1) = .next t) : Touches { regs := true, beat := true, ev := true, lcp := true, jr := true } a1 t := by
  unfold execRollNow at h
  injection h with h
  subst h
  refine Touches.comp ?_ (served_touches ?_ rfl)
  · exact Touches.refl _
  · intro v0 v1
    dsimp only
    refine Touches.trans ?_ State.rollStart_touches rfl
    exact Touches.refl _

/-! Can. -/

theorem State.putCanObj_touches {a0 : _} {a1 : _} : Touches { can := true } a0 (@State.putCanObj a0 a1) := by
  unfold State.putCanObj
  refine Touches.mkUpd ?_ (by simp only [State.without, cond_true, cond_false])
  exact Touches.refl _

theorem State.putCanCtl_touches {a0 : _} {a1 : _} : Touches { can := true } a0 (@State.putCanCtl a0 a1) := by
  unfold State.putCanCtl
  refine Touches.mkUpd ?_ (by simp only [State.without, cond_true, cond_false])
  exact Touches.refl _

theorem State.canDropObj_touches {a0 : _} {a1 : _} {a2 : _} : Touches { regs := true, can := true } a0 (@State.canDropObj a0 a1 a2) := by
  unfold State.canDropObj
  refine Touches.ite ?_ ?_
  · dsimp only
    refine Touches.ite ?_ ?_
    · refine Touches.trans ?_ Touches.put rfl
      refine Touches.trans ?_ State.putCanObj_touches rfl
      refine Touches.trans ?_ Touches.put rfl
      exact Touches.refl _
    · refine Touches.trans ?_ State.putCanObj_touches rfl
      refine Touches.trans ?_ Touches.put rfl
      exact Touches.refl _
  · exact Touches.refl _

theorem State.canDropCtl_touches {a0 : _} {a1 : _} {a2 : _} : Touches { regs := true, can := true } a0 (@State.canDropCtl a0 a1 a2) := by
  unfold State.canDropCtl
  refine Touches.foldl ?_ (fun v0 v1 => ?_)
  · exact Touches.refl _
  · refine Touches.trans ?_ State.canDropObj_touches rfl
    exact Touches.refl _

theorem State.canDropAll_touches {a0 : _} : Touches { regs := true, can := true } a0 (@State.canDropAll a0) := by
  unfold State.canDropAll
  refine Touches.foldl ?_ (fun v0 v1 => ?_)
  · exact Touches.refl _
  · refine Touches.trans ?_ State.canDropObj_touches rfl
    exact Touches.refl _

theorem State.canShow_touches {a0 : _} : Touches { regs := true, can := true } a0 (@State.canShow a0) := by
  unfold State.canShow
  refine Touches.foldl ?_ (fun v0 v1 => ?_)
  · exact Touches.refl _
  · dsimp only
    refine Touches.ite ?_ ?_
    · exact Touches.refl _
    · refine Touches.ite ?_ ?_
      · refine Touches.trans ?_ Touches.put rfl
        iterate 3 refine Touches.trans ?_ Touches.put rfl
        exact Touches.refl _
      · refine Touches.trans ?_ Touches.put rfl
        refine Touches.ite ?_ ?_
        · refine Touches.trans ?_ State.canDropCtl_touches rfl
          refine Touches.trans ?_ Touches.put rfl
          exact Touches.refl _
        · refine Touches.trans ?_ Touches.put rfl
          exact Touches.refl _

theorem State.canErr_touches {a0 : _} {a1 : _} {a2 : _} {a3 : _} : Touches { regs := true, ev := true, can := true } a0 (@State.canErr a0 a1 a2 a3) := by
  unfold State.canErr
  dsimp only
  refine Touches.ite ?_ ?_
  · refine Touches.trans ?_ Touches.put rfl
    refine Touches.trans ?_ Touches.put rfl
    exact Touches.refl _
  · refine Touches.trans ?_ State.raise_touches rfl
    refine Touches.ite ?_ ?_
    · refine Touches.trans ?_ State.canDropCtl_touches rfl
      refine Touches.trans ?_ Touches.inc rfl
      iterate 3 refine Touches.trans ?_ Touches.put rfl
      exact Touches.refl _
    · refine Touches.trans ?_ Touches.put rfl
      refine Touches.trans ?_ Touches.put rfl
      refine Touches.trans ?_ Touches.put rfl
      exact Touches.refl _

theorem State.canCountErr_touches {a0 : _} {a1 : _} {a2 : _} : Touches { regs := true, ev := true, can := true } a0 (@State.canCountErr a0 a1 a2) := by
  unfold State.canCountErr
  dsimp only
  refine Touches.ite ?_ ?_
  · refine Touches.trans ?_ State.raise_touches rfl
    refine Touches.trans ?_ State.putCanCtl_touches rfl
    refine Touches.trans ?_ Touches.inc rfl
    exact Touches.refl _
  · refine Touches.trans ?_ Touches.inc rfl
    exact Touches.refl _

theorem State.setNoPeer_touches {a0 : _} {a1 : _} {a2 : _} : Touches { regs := true } a0 (@State.setNoPeer a0 a1 a2) := by
  unfold State.setNoPeer
  dsimp only
  refine Touches.trans ?_ Touches.put rfl
  refine Touches.trans ?_ Touches.putFlag rfl
  exact Touches.refl _

theorem State.canResume_touches {a0 : _} {a1 : _} : Touches { regs := true, can := true } a0 (@State.canResume a0 a1) := by
  unfold State.canResume
  refine Touches.ite ?_ ?_
  · refine Touches.trans ?_ State.setNoPeer_touches rfl
    refine Touches.trans ?_ State.putCanObj_touches rfl
    exact Touches.refl _
  · exact Touches.refl _

theorem State.canWake_touches {a0 : _} {a1 : _} : Touches { can := true } a0 (@State.canWake a0 a1) := by
  unfold State.canWake
  refine Touches.ite ?_ ?_
  · exact Touches.refl _
  · refine Touches.foldl ?_ (fun v0 v1 => ?_)
    · exact Touches.refl _
    · refine Touches.ite ?_ ?_
      · refine Touches.trans ?_ State.putCanObj_touches rfl
        exact Touches.refl _
      · exact Touches.refl _

theorem State.canStore_touches {a0 : _} {a1 : _} {a2 : _} {a3 : _} : Touches { regs := true, ev := true, can := true } a0 (@State.canStore a0 a1 a2 a3) := by
  unfold State.canStore
  dsimp only
  refine Touches.ite ?_ ?_
  · refine Touches.ite ?_ ?_
    · refine Touches.trans ?_ State.raise_touches rfl
      refine Touches.trans ?_ Touches.inc rfl
      refine Touches.trans ?_ Touches.put rfl
      refine Touches.trans ?_ State.putCanObj_touches rfl
      refine Touches.trans ?_ Touches.inc rfl
      exact Touches.refl _
    · refine Touches.trans ?_ State.putCanObj_touches rfl
      refine Touches.trans ?_ Touches.inc rfl
      exact Touches.refl _
  · refine Touches.trans ?_ State.putCanObj_touches rfl
    refine Touches.ite ?_ ?_
    · refine Touches.trans ?_ Touches.inc rfl
      refine Touches.trans ?_ Touches.inc rfl
      exact Touches.refl _
    · refine Touches.trans ?_ Touches.inc rfl
      exact Touches.refl _

theorem State.canFilter_touches {a0 : _} {a1 : _} {a2 : _} : Touches { regs := true, ev := true, can := true } a0 (@State.canFilter a0 a1 a2) := by
  unfold State.canFilter
  split
  · rename_i v0 v1
    refine Touches.trans ?_ Touches.inc rfl
    exact Touches.refl _
  · rename_i v2 v3 v4
    dsimp only
    refine Touches.ite ?_ ?_
    · exact Touches.refl _
    · refine Touches.trans ?_ State.canStore_touches rfl
      exact Touches.refl _

theorem State.abrFrame_touches {a0 : _} {a1 : _} {a2 : _} : Touches { regs := true, ev := true, can := true } a0 (@State.abrFrame a0 a1 a2) := by
  unfold State.abrFrame
  dsimp only
  refine Touches.ite ?_ ?_
  · exact Touches.refl _
  · refine Touches.ite ?_ ?_
    · refine Touches.trans ?_ State.putCanCtl_touches rfl
      exact Touches.refl _
    · refine Touches.trans ?_ State.canShow_touches rfl
      refine Touches.trans ?_ State.raise_touches rfl
      refine Touches.trans ?_ Touches.put rfl
      refine Touches.trans ?_ State.putCanCtl_touches rfl
      exact Touches.refl _

theorem State.canRxOk_touches {a0 : _} {a1 : _} : Touches { regs := true, free := true, ev := true, can := true } a0 (@State.canRxOk a0 a1) := by
  unfold State.canRxOk
  dsimp only
  refine Touches.ite ?_ ?_
  · exact Touches.refl _
  · refine Touches.ite ?_ ?_
    · refine Touches.trans ?_ State.canErr_touches rfl
      exact Touches.refl _
    · refine Touches.trans ?_ State.canErr_touches rfl
      refine Touches.trans ?_ State.fresh_touches rfl
      exact Touches.refl _

theorem State.canReceive_touches {a0 : _} {a1 : _} {a2 : _} : Touches { regs := true, free := true, ev := true, can := true } a0 (@State.canReceive a0 a1 a2) := by
  unfold State.canReceive
  dsimp only
  refine Touches.ite ?_ ?_
  · exact Touches.refl _
  · refine Touches.ite ?_ ?_
    · refine Touches.trans ?_ State.canCountErr_touches rfl
      exact Touches.refl _
    · refine Touches.trans ?_ State.canFilter_touches rfl
      refine Touches.trans ?_ State.canWake_touches rfl
      refine Touches.ite ?_ ?_
      · refine Touches.trans ?_ State.abrFrame_touches rfl
        exact Touches.refl _
      · refine Touches.ite ?_ ?_
        · refine Touches.trans ?_ State.canRxOk_touches rfl
          exact Touches.refl _
        · exact Touches.refl _

theorem execCanFrameReceive_touches {a0 : _} {a1 : _} {a2 : _} {t : State} (h : (@execCanFrameReceive a0 a1 a2) = .next t) : Touches { regs := true, free := true, ev := true, can := true } a2 t := by
  unfold execCanFrameReceive at h
  injection h with h
  subst h
  refine Touches.trans ?_ State.canReceive_touches rfl
  exact Touches.refl _

theorem State.canCopy_touches {a0 : _} {a1 : _} : Touches { regs := true, can := true } a0 (@State.canCopy a0 a1) := by
  unfold State.canCopy
  refine Touches.ite ?_ ?_
  · exact Touches.refl _
  · dsimp only
    refine Touches.trans ?_ Touches.put rfl
    refine Touches.trans ?_ State.putCanObj_touches rfl
    exact Touches.refl _

theorem State.canFreeze_touches {a0 : _} : Touches { regs := true, can := true } a0 (@State.canFreeze a0) := by
  unfold State.canFreeze
  dsimp only
  refine Touches.mkUpd ?_ (by simp only [State.without, cond_true, cond_false])
  refine Touches.foldl ?_ (fun v0 v1 => ?_)
  · exact Touches.refl _
  · refine Touches.trans ?_ State.canCopy_touches rfl
    exact Touches.refl _

theorem State.canQueueObj_touches {a0 : _} {a1 : _} : Touches { regs := true, can := true } a0 (@State.canQueueObj a0 a1) := by
  unfold State.canQueueObj
  dsimp only
  refine Touches.ite ?_ ?_
  · exact Touches.refl _
  · refine Touches.trans ?_ Touches.put rfl
    refine Touches.trans ?_ State.putCanObj_touches rfl
    refine Touches.ite ?_ ?_
    · refine Touches.trans ?_ Touches.inc rfl
      exact Touches.refl _
    · exact Touches.refl _

theorem State.canCommit_touches {a0 : _} : Touches { regs := true, can := true } a0 (@State.canCommit a0) := by
  unfold State.canCommit
  dsimp only
  refine Touches.ite ?_ ?_
  · refine Touches.foldl ?_ (fun v0 v1 => ?_)
    · exact Touches.refl _
    · refine Touches.ite ?_ ?_
      · refine Touches.trans ?_ State.canResume_touches rfl
        exact Touches.refl _
      · exact Touches.refl _
  · refine Touches.mkUpd ?_ (by simp only [State.without, cond_true, cond_false])
    refine Touches.foldl ?_ (fun v2 v3 => ?_)
    · refine Touches.foldl ?_ (fun v4 v5 => ?_)
      · exact Touches.refl _
      · refine Touches.ite ?_ ?_
        · refine Touches.trans ?_ State.canResume_touches rfl
          exact Touches.refl _
        · exact Touches.refl _
    · refine Touches.ite ?_ ?_
      · refine Touches.trans ?_ State.canQueueObj_touches rfl
        exact Touches.refl _
      · exact Touches.refl _

theorem execCanTxComplete_touches {a0 : _} {a1 : _} {a2 : _} {t : State} (h : (@execCanTxComplete a0 a1 a2) = .next t) : Touches { regs := true, ev := true, can := true } a2 t := by
  unfold execCanTxComplete at h
  injection h with h
  subst h
  refine Touches.ite ?_ ?_
  · exact Touches.refl _
  · dsimp only
    refine Touches.ite ?_ ?_
    · refine Touches.trans ?_ State.canDropObj_touches rfl
      refine Touches.trans ?_ Touches.put rfl
      refine Touches.trans ?_ Touches.inc rfl
      exact Touches.refl _
    · refine Touches.trans ?_ State.canErr_touches rfl
      refine Touches.trans ?_ State.canDropObj_touches rfl
      refine Touches.trans ?_ Touches.put rfl
      refine Touches.trans ?_ Touches.inc rfl
      exact Touches.refl _

theorem State.canShotEnds_touches {a0 : _} {a1 : _} : Touches { regs := true, ev := true, can := true } a0 (@State.canShotEnds a0 a1) := by
  unfold State.canShotEnds
  refine Touches.ite ?_ ?_
  · refine Touches.trans ?_ State.raise_touches rfl
    refine Touches.trans ?_ Touches.put rfl
    refine Touches.trans ?_ State.canDropObj_touches rfl
    exact Touches.refl _
  · exact Touches.refl _

theorem execCanBusError_touches {a0 : _} {a1 : _} {a2 : _} {a3 : _} {a4 : _} {a5 : _} {t : State} (h : (@execCanBusError a0 a1 a2 a3 a4 a5) = .next t) : Touches { regs := true, ev := true, can := true } a5 t := by
  unfold execCanBusError at h
  injection h with h
  subst h
  refine Touches.ite ?_ ?_
  · exact Touches.refl _
  · dsimp only
    refine Touches.ite ?_ ?_
    · refine Touches.trans ?_ State.canErr_touches rfl
      split
      · rename_i v0 v1
        refine Touches.trans ?_ State.canShotEnds_touches rfl
        refine Touches.trans ?_ State.canCountErr_touches rfl
        exact Touches.refl _
      · rename_i v2
        refine Touches.trans ?_ State.canCountErr_touches rfl
        exact Touches.refl _
    · refine Touches.trans ?_ State.putCanCtl_touches rfl
      refine Touches.trans ?_ State.canCountErr_touches rfl
      exact Touches.refl _

theorem execCanAckError_touches {a0 : _} {a1 : _} {a2 : _} {t : State} (h : (@execCanAckError a0 a1 a2) = .next t) : Touches { regs := true, ev := true, can := true } a2 t := by
  unfold execCanAckError at h
  injection h with h
  subst h
  refine Touches.ite ?_ ?_
  · exact Touches.refl _
  · dsimp only
    refine Touches.trans ?_ State.canShotEnds_touches rfl
    refine Touches.ite ?_ ?_
    · refine Touches.trans ?_ State.raise_touches rfl
      refine Touches.trans ?_ State.setNoPeer_touches rfl
      refine Touches.trans ?_ Touches.put rfl
      refine Touches.trans ?_ State.canDropObj_touches rfl
      refine Touches.ite ?_ ?_
      · refine Touches.trans ?_ State.canErr_touches rfl
        refine Touches.trans ?_ State.canCountErr_touches rfl
        exact Touches.refl _
      · refine Touches.trans ?_ State.canCountErr_touches rfl
        exact Touches.refl _
    · refine Touches.trans ?_ Touches.put rfl
      refine Touches.ite ?_ ?_
      · refine Touches.trans ?_ State.canErr_touches rfl
        refine Touches.trans ?_ State.canCountErr_touches rfl
        exact Touches.refl _
      · refine Touches.trans ?_ State.canCountErr_touches rfl
        exact Touches.refl _

theorem execCanNoPeerResume_touches {a0 : _} {a1 : _} {a2 : _} {t : State} (h : (@execCanNoPeerResume a0 a1 a2) = .next t) : Touches { regs := true, can := true } a2 t := by
  unfold execCanNoPeerResume at h
  injection h with h
  subst h
  refine Touches.ite ?_ ?_
  · refine Touches.trans ?_ State.canResume_touches rfl
    exact Touches.refl _
  · exact Touches.refl _

theorem State.canRecover_touches {a0 : _} {a1 : _} : Touches { can := true } a0 (@State.canRecover a0 a1) := by
  unfold State.canRecover
  refine Touches.ite ?_ ?_
  · refine Touches.trans ?_ State.putCanCtl_touches rfl
    exact Touches.refl _
  · exact Touches.refl _

theorem execCanRecover_touches {a0 : _} {a1 : _} {t : State} (h : (@execCanRecover a0 a1) = .next t) : Touches { can := true } a1 t := by
  unfold execCanRecover at h
  injection h with h
  subst h
  refine Touches.trans ?_ State.canRecover_touches rfl
  exact Touches.refl _

theorem execCanBusoffRecovery_touches {a0 : _} {a1 : _} {t : State} (h : (@execCanBusoffRecovery a0 a1) = .next t) : Touches { regs := true, ev := true, can := true } a1 t := by
  unfold execCanBusoffRecovery at h
  injection h with h
  subst h
  refine Touches.ite ?_ ?_
  · refine Touches.trans ?_ State.canErr_touches rfl
    refine Touches.trans ?_ State.putCanCtl_touches rfl
    exact Touches.refl _
  · exact Touches.refl _

theorem execCanAbrDwell_touches {a0 : _} {a1 : _} {t : State} (h : (@execCanAbrDwell a0 a1) = .next t) : Touches { regs := true, ev := true, can := true } a1 t := by
  unfold execCanAbrDwell at h
  injection h with h
  subst h
  refine Touches.ite ?_ ?_
  · exact Touches.refl _
  · refine Touches.ite ?_ ?_
    · refine Touches.trans ?_ State.putCanCtl_touches rfl
      exact Touches.refl _
    · refine Touches.ite ?_ ?_
      · refine Touches.trans ?_ State.putCanCtl_touches rfl
        exact Touches.refl _
      · dsimp only
        refine Touches.trans ?_ State.canShow_touches rfl
        refine Touches.trans ?_ State.raise_touches rfl
        refine Touches.trans ?_ Touches.put rfl
        refine Touches.trans ?_ State.putCanCtl_touches rfl
        exact Touches.refl _

theorem State.canFaults_touches {a0 : _} {a1 : _} {a2 : _} : Touches { regs := true, ev := true, can := true } a0 (@State.canFaults a0 a1 a2) := by
  unfold State.canFaults
  dsimp only
  refine Touches.ite ?_ ?_
  · exact Touches.refl _
  · refine Touches.trans ?_ State.raise_touches rfl
    refine Touches.trans ?_ State.canShow_touches rfl
    refine Touches.trans ?_ State.canDropCtl_touches rfl
    refine Touches.trans ?_ Touches.put rfl
    refine Touches.trans ?_ Touches.inc rfl
    refine Touches.trans ?_ State.putCanCtl_touches rfl
    exact Touches.refl _

theorem execCanControllerFault_touches {a0 : _} {a1 : _} {a2 : _} {t : State} (h : (@execCanControllerFault a0 a1 a2) = .next t) : Touches { regs := true, ev := true, can := true } a2 t := by
  unfold execCanControllerFault at h
  injection h with h
  subst h
  refine Touches.trans ?_ State.canFaults_touches rfl
  exact Touches.refl _

theorem execCanControllerReload_touches {a0 : _} {a1 : _} {t : State} (h : (@execCanControllerReload a0 a1) = .next t) : Touches { regs := true, can := true } a1 t := by
  unfold execCanControllerReload at h
  injection h with h
  subst h
  refine Touches.ite ?_ ?_
  · refine Touches.trans ?_ State.canShow_touches rfl
    refine Touches.trans ?_ Touches.put rfl
    exact Touches.refl _
  · exact Touches.refl _

theorem State.canModeWritten_touches {a0 : _} {a1 : _} : Touches { regs := true, can := true } a0 (@State.canModeWritten a0 a1) := by
  unfold State.canModeWritten
  dsimp only
  refine Touches.ite ?_ ?_
  · refine Touches.ite ?_ ?_
    · refine Touches.trans ?_ State.putCanCtl_touches rfl
      exact Touches.refl _
    · refine Touches.ite ?_ ?_
      · refine Touches.trans ?_ Touches.put rfl
        refine Touches.trans ?_ State.putCanCtl_touches rfl
        exact Touches.refl _
      · refine Touches.trans ?_ State.putCanCtl_touches rfl
        exact Touches.refl _
  · refine Touches.trans ?_ State.putCanCtl_touches rfl
    exact Touches.refl _

theorem State.canRewritten_touches {a0 : _} {a1 : _} : Touches { regs := true, can := true } a0 (@State.canRewritten a0 a1) := by
  unfold State.canRewritten
  refine Touches.trans ?_ State.putCanObj_touches rfl
  refine Touches.trans ?_ State.canDropObj_touches rfl
  exact Touches.refl _

theorem State.canEdge_touches {a0 : _} : Touches { regs := true, can := true } a0 (@State.canEdge a0) := by
  unfold State.canEdge
  dsimp only
  refine Touches.mkUpd ?_ (by simp only [State.without, cond_true, cond_false])
  refine Touches.trans ?_ State.canShow_touches rfl
  refine Touches.foldl ?_ (fun v0 v1 => ?_)
  · refine Touches.foldl ?_ (fun v2 v3 => ?_)
    · refine Touches.mkUpd ?_ (by simp only [State.without, cond_true, cond_false])
      exact Touches.refl _
    · refine Touches.ite ?_ ?_
      · refine Touches.trans ?_ State.canRewritten_touches rfl
        exact Touches.refl _
      · exact Touches.refl _
  · refine Touches.ite ?_ ?_
    · refine Touches.trans ?_ State.putCanCtl_touches rfl
      iterate 3 refine Touches.trans ?_ Touches.put rfl
      refine Touches.ite ?_ ?_
      · refine Touches.trans ?_ State.canModeWritten_touches rfl
        exact Touches.refl _
      · exact Touches.refl _
    · refine Touches.ite ?_ ?_
      · refine Touches.trans ?_ State.canModeWritten_touches rfl
        exact Touches.refl _
      · exact Touches.refl _

theorem canObjSetApply_touches {a0 : _} {a1 : _} : Touches { regs := true, ev := true, jr := true, can := true } a1 (@canObjSetApply a0 a1).st := by
  unfold canObjSetApply
  dsimp only
  refine Touches.mkUpd ?_ (by simp only [State.without, cond_true, cond_false])
  refine Touches.trans ?_ State.journal_touches rfl
  exact Touches.refl _

theorem execCanObjSet_touches {a0 : _} {a1 : _} {t : State} (h : (@execCanObjSet a0 a1) = .next t) : Touches { regs := true, beat := true, lcp := true } a1 t := by
  unfold execCanObjSet at h
  injection h with h
  subst h
  refine Touches.trans ?_ queued_touches rfl
  exact Touches.refl _

/-! Modes. -/

theorem State.planAt_touches {a0 : _} {a1 : _} {a2 : _} {a3 : _} : Touches { pair := true } a0 (@State.planAt a0 a1 a2 a3) := by
  unfold State.planAt
  refine Touches.ite ?_ ?_
  · refine Touches.mkUpd ?_ (by simp only [State.without, cond_true, cond_false])
    exact Touches.refl _
  · exact Touches.refl _

theorem State.plan_touches {a0 : _} {a1 : _} {a2 : _} : Touches { pair := true } a0 (@State.plan a0 a1 a2) := by
  unfold State.plan
  refine Touches.trans ?_ State.planAt_touches rfl
  exact Touches.refl _

theorem State.runLeaves_touches {a0 : _} : Touches { regs := true, pair := true } a0 (@State.runLeaves a0) := by
  unfold State.runLeaves
  dsimp only
  refine Touches.ite ?_ ?_
  · exact Touches.refl _
  · refine Touches.ite ?_ ?_
    · refine Touches.trans ?_ Touches.put rfl
      refine Touches.mkUpd ?_ (by simp only [State.without, cond_true, cond_false])
      exact Touches.refl _
    · refine Touches.mkUpd ?_ (by simp only [State.without, cond_true, cond_false])
      exact Touches.refl _

theorem State.dropSync_touches {a0 : _} : Touches { regs := true, ev := true, lcp := true, jr := true, units := true, pair := true } a0 (@State.dropSync a0) := by
  unfold State.dropSync
  refine Touches.ite ?_ ?_
  · exact Touches.refl _
  · dsimp only
    refine Touches.trans ?_ State.setMode_touches rfl
    refine Touches.trans ?_ Touches.put rfl
    refine Touches.trans ?_ Touches.put rfl
    refine Touches.mkUpd ?_ (by simp only [State.without, cond_true, cond_false])
    exact Touches.refl _

theorem State.enterStandby_touches {a0 : _} {a1 : _} : Touches { regs := true, ev := true, lcp := true, jr := true, units := true, rt := true, pair := true } a0 (@State.enterStandby a0 a1) := by
  unfold State.enterStandby
  dsimp only
  refine Touches.trans ?_ State.setMode_touches rfl
  refine Touches.trans ?_ Touches.put rfl
  refine Touches.trans ?_ Touches.put rfl
  refine Touches.mkUpd ?_ (by simp only [State.without, cond_true, cond_false])
  refine Touches.trans ?_ State.dropCycles_touches rfl
  exact Touches.refl _

theorem State.stopShadow_touches {a0 : _} {a1 : _} : Touches { regs := true, ev := true, lcp := true, jr := true, units := true, rt := true, loops := true, pair := true } a0 (@State.stopShadow a0 a1) := by
  unfold State.stopShadow
  refine Touches.ite ?_ ?_
  · exact Touches.refl _
  · dsimp only
    refine Touches.trans ?_ State.enterStandby_touches rfl
    refine Touches.trans ?_ Touches.put rfl
    refine Touches.mkUpd ?_ (by simp only [State.without, cond_true, cond_false])
    split
    · rename_i v0 v1 v2
      refine Touches.trans ?_ State.loadProgram_touches rfl
      refine Touches.trans ?_ State.dropCycles_touches rfl
      exact Touches.refl _
    · rename_i v3 v4
      refine Touches.trans ?_ State.dropCycles_touches rfl
      exact Touches.refl _

theorem State.decideRole_touches {a0 : _} {a1 : _} : Touches { regs := true, ev := true, lcp := true, jr := true, units := true, rt := true, pair := true } a0 (@State.decideRole a0 a1) := by
  unfold State.decideRole
  dsimp only
  refine Touches.ite ?_ ?_
  · refine Touches.trans ?_ State.enterStandby_touches rfl
    refine Touches.mkUpd ?_ (by simp only [State.without, cond_true, cond_false])
    refine Touches.ite ?_ ?_
    · refine Touches.trans ?_ State.raise_touches rfl
      exact Touches.refl _
    · exact Touches.refl _
  · refine Touches.trans ?_ State.setMode_touches rfl
    refine Touches.ite ?_ ?_
    · refine Touches.mkUpd ?_ (by simp only [State.without, cond_true, cond_false])
      refine Touches.ite ?_ ?_
      · refine Touches.trans ?_ State.raise_touches rfl
        exact Touches.refl _
      · exact Touches.refl _
    · refine Touches.mkUpd ?_ (by simp only [State.without, cond_true, cond_false])
      refine Touches.ite ?_ ?_
      · refine Touches.trans ?_ State.raise_touches rfl
        exact Touches.refl _
      · exact Touches.refl _

theorem State.endSessions_touches {a0 : _} {a1 : _} : Touches { regs := true, ev := true, lcp := true, jr := true, rt := true, sec := true } a0 (@State.endSessions a0 a1) := by
  unfold State.endSessions
  refine Touches.foldl ?_ (fun v0 v1 => ?_)
  · exact Touches.refl _
  · refine Touches.trans ?_ State.releaseSession_touches rfl
    exact Touches.refl _

theorem State.settleEdges_touches {a0 : _} : Touches { regs := true, beat := true, can := true } a0 (@State.settleEdges a0) := by
  unfold State.settleEdges
  refine Touches.mkUpd ?_ (by simp only [State.without, cond_true, cond_false])
  exact Touches.refl _

theorem State.abandonResync_touches {a0 : _} : Touches { regs := true, triad := true } a0 (@State.abandonResync a0) := by
  unfold State.abandonResync
  refine Touches.trans ?_ Touches.put rfl
  dsimp only
  refine Touches.mkUpd ?_ (by simp only [State.without, cond_true, cond_false])
  refine Touches.trans ?_ Touches.put rfl
  exact Touches.refl _

theorem State.surgeStops_touches {a0 : _} : Touches { regs := true, triad := true } a0 (@State.surgeStops a0) := by
  unfold State.surgeStops
  refine Touches.ite ?_ ?_
  · exact Touches.refl _
  · dsimp only
    refine Touches.mkUpd ?_ (by simp only [State.without, cond_true, cond_false])
    refine Touches.trans ?_ Touches.put rfl
    exact Touches.refl _

theorem State.enterStart_touches {a0 : _} {a1 : _} : Touches { regs := true, beat := true, ev := true, lcp := true, jr := true, units := true, wd := true, rt := true, pair := true, sec := true, triad := true, field := true, can := true } a0 (@State.enterStart a0 a1) := by
  unfold State.enterStart
  dsimp only
  refine Touches.ite ?_ ?_
  · refine Touches.trans ?_ State.bumpOwn_touches rfl
    refine Touches.trans ?_ State.fieldOff_touches rfl
    refine Touches.trans ?_ State.canShow_touches rfl
    refine Touches.trans ?_ State.setMode_touches rfl
    refine Touches.trans ?_ State.canDropAll_touches rfl
    refine Touches.trans ?_ State.abandonResync_touches rfl
    refine Touches.mkUpd ?_ (by simp only [State.without, cond_true, cond_false])
    refine Touches.trans ?_ State.surgeStops_touches rfl
    refine Touches.trans ?_ State.settleEdges_touches rfl
    refine Touches.trans ?_ State.dropCycles_touches rfl
    refine Touches.trans ?_ State.runLeaves_touches rfl
    refine Touches.trans ?_ State.rollAbandon_touches rfl
    refine Touches.trans ?_ State.endSessions_touches rfl
    refine Touches.trans ?_ State.endDebug_touches rfl
    exact Touches.refl _
  · refine Touches.trans ?_ State.fieldOff_touches rfl
    refine Touches.trans ?_ State.canShow_touches rfl
    refine Touches.trans ?_ State.setMode_touches rfl
    refine Touches.trans ?_ State.canDropAll_touches rfl
    refine Touches.trans ?_ State.abandonResync_touches rfl
    refine Touches.mkUpd ?_ (by simp only [State.without, cond_true, cond_false])
    refine Touches.trans ?_ State.surgeStops_touches rfl
    refine Touches.trans ?_ State.settleEdges_touches rfl
    refine Touches.trans ?_ State.dropCycles_touches rfl
    refine Touches.trans ?_ State.runLeaves_touches rfl
    refine Touches.trans ?_ State.rollAbandon_touches rfl
    refine Touches.trans ?_ State.endSessions_touches rfl
    refine Touches.trans ?_ State.endDebug_touches rfl
    exact Touches.refl _

theorem State.enterStop_touches {a0 : _} {a1 : _} : Touches { regs := true, ev := true, lcp := true, jr := true, units := true, rt := true, pair := true, can := true } a0 (@State.enterStop a0 a1) := by
  unfold State.enterStop
  dsimp only
  refine Touches.trans ?_ State.setMode_touches rfl
  refine Touches.mkUpd ?_ (by simp only [State.without, cond_true, cond_false])
  refine Touches.trans ?_ State.canDropAll_touches rfl
  refine Touches.trans ?_ State.dropCycles_touches rfl
  refine Touches.trans ?_ State.runLeaves_touches rfl
  exact Touches.refl _

theorem State.keyStops_touches {a0 : _} : Touches { regs := true, ev := true, lcp := true, jr := true, units := true, rt := true, loops := true, pair := true, can := true } a0 (@State.keyStops a0) := by
  unfold State.keyStops
  dsimp only
  refine Touches.ite ?_ ?_
  · refine Touches.trans ?_ State.setMode_touches rfl
    refine Touches.trans ?_ State.dropCycles_touches rfl
    refine Touches.ite ?_ ?_
    · refine Touches.trans ?_ State.stopShadow_touches rfl
      exact Touches.refl _
    · exact Touches.refl _
  · refine Touches.ite ?_ ?_
    · refine Touches.trans ?_ State.enterStop_touches rfl
      refine Touches.ite ?_ ?_
      · refine Touches.trans ?_ State.stopShadow_touches rfl
        exact Touches.refl _
      · exact Touches.refl _
    · refine Touches.ite ?_ ?_
      · refine Touches.trans ?_ State.stopShadow_touches rfl
        exact Touches.refl _
      · exact Touches.refl _

theorem State.enterSafe_touches {a0 : _} {a1 : _} : Touches { regs := true, ev := true, lcp := true, jr := true, units := true, wd := true, rt := true, pair := true, sec := true, triad := true, pwr := true, field := true, can := true } a0 (@State.enterSafe a0 a1) := by
  unfold State.enterSafe
  dsimp only
  refine Touches.trans ?_ State.fieldOff_touches rfl
  refine Touches.trans ?_ State.canShow_touches rfl
  refine Touches.trans ?_ State.setMode_touches rfl
  refine Touches.trans ?_ State.canDropAll_touches rfl
  refine Touches.trans ?_ State.abandonResync_touches rfl
  refine Touches.mkUpd ?_ (by simp only [State.without, cond_true, cond_false])
  refine Touches.ite ?_ ?_
  · refine Touches.trans ?_ State.dropCycles_touches rfl
    refine Touches.trans ?_ State.runLeaves_touches rfl
    refine Touches.trans ?_ State.endDebug_touches rfl
    exact Touches.refl _
  · refine Touches.trans ?_ State.safeRecord_touches rfl
    refine Touches.trans ?_ State.dropCycles_touches rfl
    refine Touches.trans ?_ State.runLeaves_touches rfl
    refine Touches.trans ?_ State.endDebug_touches rfl
    exact Touches.refl _

theorem State.restartPair_touches {a0 : _} {a1 : _} : Touches { regs := true, ev := true, lcp := true, jr := true, rt := true, loops := true, pair := true } a0 (@State.restartPair a0 a1) := by
  unfold State.restartPair
  dsimp only
  refine Touches.ite ?_ ?_
  · refine Touches.mkUpd ?_ (by simp only [State.without, cond_true, cond_false])
    refine Touches.trans ?_ State.restartProgram_touches rfl
    exact Touches.refl _
  · refine Touches.trans ?_ State.restartProgram_touches rfl
    exact Touches.refl _

theorem State.unhalt_touches {a0 : _} : Touches { regs := true, ev := true, rt := true, sec := true } a0 (@State.unhalt a0) := by
  unfold State.unhalt
  refine Touches.ite ?_ ?_
  · refine Touches.trans ?_ State.endDebug_touches rfl
    exact Touches.refl _
  · exact Touches.refl _

theorem State.startRun_touches {a0 : _} {a1 : _} {a2 : _} : Touches { regs := true, ev := true, lcp := true, jr := true, units := true, rt := true, loops := true, pair := true, sec := true } a0 (@State.startRun a0 a1 a2) := by
  unfold State.startRun
  dsimp only
  refine Touches.trans ?_ State.setMode_touches rfl
  refine Touches.trans ?_ State.restartPair_touches rfl
  refine Touches.trans ?_ State.unhalt_touches rfl
  exact Touches.refl _

theorem State.enterHold_touches {a0 : _} : Touches { regs := true, ev := true, lcp := true, jr := true, units := true, rt := true, loops := true, pair := true } a0 (@State.enterHold a0) := by
  unfold State.enterHold
  dsimp only
  refine Touches.trans ?_ State.setMode_touches rfl
  refine Touches.mkUpd ?_ (by simp only [State.without, cond_true, cond_false])
  refine Touches.trans ?_ State.holdPublish_touches rfl
  refine Touches.trans ?_ State.runLeaves_touches rfl
  exact Touches.refl _

theorem State.keyAway_touches {a0 : _} {a1 : _} : Touches { regs := true, ev := true, lcp := true, jr := true, units := true, rt := true, loops := true, pair := true, sec := true } a0 (@State.keyAway a0 a1) := by
  unfold State.keyAway
  dsimp only
  refine Touches.ite ?_ ?_
  · refine Touches.trans ?_ State.startRun_touches rfl
    refine Touches.ite ?_ ?_
    · refine Touches.ite ?_ ?_
      · refine Touches.trans ?_ State.decideRole_touches rfl
        exact Touches.refl _
      · exact Touches.refl _
    · exact Touches.refl _
  · refine Touches.ite ?_ ?_
    · refine Touches.ite ?_ ?_
      · refine Touches.trans ?_ State.decideRole_touches rfl
        exact Touches.refl _
      · exact Touches.refl _
    · exact Touches.refl _

theorem State.keyFaults_touches {a0 : _} : Touches { regs := true, free := true, ev := true, panel := true } a0 (@State.keyFaults a0) := by
  unfold State.keyFaults
  split
  · rename_i v0 v1 v2 v3
    refine Touches.trans ?_ State.raise_touches rfl
    refine Touches.mkUpd ?_ (by simp only [State.without, cond_true, cond_false])
    refine Touches.ofSnd v3 ?_
    refine Touches.trans ?_ State.fresh_touches rfl
    exact Touches.refl _

theorem State.planKey_touches {a0 : _} : Touches { pair := true } a0 (@State.planKey a0) := by
  unfold State.planKey
  split
  · rename_i v0 v1
    refine Touches.trans ?_ State.plan_touches rfl
    exact Touches.refl _
  · rename_i v2 v3 v4
    refine Touches.mkUpd ?_ (by simp only [State.without, cond_true, cond_false])
    exact Touches.refl _

theorem State.keyChange_touches {a0 : _} {a1 : _} : Touches { regs := true, free := true, beat := true, ev := true, pair := true, sec := true, panel := true } a0 (@State.keyChange a0 a1) := by
  unfold State.keyChange
  dsimp only
  refine Touches.ite ?_ ?_
  · exact Touches.refl _
  · refine Touches.ite ?_ ?_
    · refine Touches.ite ?_ ?_
      · refine Touches.trans ?_ State.planKey_touches rfl
        refine Touches.ite ?_ ?_
        · refine Touches.trans ?_ State.keyFaults_touches rfl
          refine Touches.trans ?_ State.raise_touches rfl
          refine Touches.trans ?_ State.audit_touches rfl
          refine Touches.trans ?_ Touches.put rfl
          exact Touches.refl _
        · refine Touches.mkUpd ?_ (by simp only [State.without, cond_true, cond_false])
          refine Touches.trans ?_ State.raise_touches rfl
          refine Touches.trans ?_ State.audit_touches rfl
          refine Touches.trans ?_ Touches.put rfl
          exact Touches.refl _
      · refine Touches.ite ?_ ?_
        · refine Touches.ite ?_ ?_
          · refine Touches.trans ?_ State.keyFaults_touches rfl
            refine Touches.trans ?_ State.raise_touches rfl
            refine Touches.trans ?_ State.audit_touches rfl
            refine Touches.trans ?_ Touches.put rfl
            exact Touches.refl _
          · refine Touches.mkUpd ?_ (by simp only [State.without, cond_true, cond_false])
            refine Touches.trans ?_ State.raise_touches rfl
            refine Touches.trans ?_ State.audit_touches rfl
            refine Touches.trans ?_ Touches.put rfl
            exact Touches.refl _
        · refine Touches.trans ?_ State.cause_touches rfl
          refine Touches.ite ?_ ?_
          · refine Touches.trans ?_ State.keyFaults_touches rfl
            refine Touches.trans ?_ State.raise_touches rfl
            refine Touches.trans ?_ State.audit_touches rfl
            refine Touches.trans ?_ Touches.put rfl
            exact Touches.refl _
          · refine Touches.mkUpd ?_ (by simp only [State.without, cond_true, cond_false])
            refine Touches.trans ?_ State.raise_touches rfl
            refine Touches.trans ?_ State.audit_touches rfl
            refine Touches.trans ?_ Touches.put rfl
            exact Touches.refl _
    · refine Touches.ite ?_ ?_
      · refine Touches.mkUpd ?_ (by simp only [State.without, cond_true, cond_false])
        refine Touches.ite ?_ ?_
        · refine Touches.trans ?_ State.keyFaults_touches rfl
          refine Touches.trans ?_ State.raise_touches rfl
          refine Touches.trans ?_ State.audit_touches rfl
          refine Touches.trans ?_ Touches.put rfl
          exact Touches.refl _
        · refine Touches.mkUpd ?_ (by simp only [State.without, cond_true, cond_false])
          refine Touches.trans ?_ State.raise_touches rfl
          refine Touches.trans ?_ State.audit_touches rfl
          refine Touches.trans ?_ Touches.put rfl
          exact Touches.refl _
      · refine Touches.ite ?_ ?_
        · refine Touches.trans ?_ State.keyFaults_touches rfl
          refine Touches.trans ?_ State.raise_touches rfl
          refine Touches.trans ?_ State.audit_touches rfl
          refine Touches.trans ?_ Touches.put rfl
          exact Touches.refl _
        · refine Touches.mkUpd ?_ (by simp only [State.without, cond_true, cond_false])
          refine Touches.trans ?_ State.raise_touches rfl
          refine Touches.trans ?_ State.audit_touches rfl
          refine Touches.trans ?_ Touches.put rfl
          exact Touches.refl _

theorem execKeyChange_touches {a0 : _} {a1 : _} {t : State} (h : (@execKeyChange a0 a1) = .next t) : Touches { regs := true, free := true, beat := true, ev := true, pair := true, sec := true, panel := true } a1 t := by
  unfold execKeyChange at h
  injection h with h
  subst h
  refine Touches.trans ?_ State.keyChange_touches rfl
  exact Touches.refl _

theorem execHoldTimeout_touches {a0 : _} {t : State} (h : (@execHoldTimeout a0) = .next t) : Touches { regs := true, beat := true, ev := true } a0 t := by
  unfold execHoldTimeout at h
  injection h with h
  subst h
  refine Touches.ite ?_ ?_
  · refine Touches.trans ?_ State.cause_touches rfl
    refine Touches.trans ?_ State.raise_touches rfl
    exact Touches.refl _
  · exact Touches.refl _

theorem execModeGet_touches {a0 : _} {a1 : _} {t : State} (h : (@execModeGet a0 a1) = .next t) : Touches { regs := true, beat := true, lcp := true } a1 t := by
  unfold execModeGet at h
  injection h with h
  subst h
  refine Touches.comp ?_ (served_touches ?_ rfl)
  · exact Touches.refl _
  · intro v0 v1
    dsimp only
    exact Touches.refl _

theorem modeSetApply_touches {a0 : _} {a1 : _} {a2 : _} : Touches { regs := true, ev := true, lcp := true, jr := true, units := true, rt := true, loops := true, pair := true, sec := true, can := true } a2 (@modeSetApply a0 a1 a2).st := by
  unfold modeSetApply
  split
  · rename_i v0 v1 v2 v3
    dsimp only
    exact Touches.refl _
  · rename_i v4 v5
    dsimp only
    refine Touches.iteSt ?_ ?_
    · dsimp only
      refine Touches.trans ?_ State.setMode_touches rfl
      refine Touches.mkUpd ?_ (by simp only [State.without, cond_true, cond_false])
      refine Touches.trans ?_ State.dropSync_touches rfl
      exact Touches.refl _
    · refine Touches.iteSt ?_ ?_
      · dsimp only
        refine Touches.ite ?_ ?_
        · exact Touches.refl _
        · refine Touches.trans ?_ State.enterStop_touches rfl
          exact Touches.refl _
      · refine Touches.iteSt ?_ ?_
        · dsimp only
          refine Touches.ite ?_ ?_
          · exact Touches.refl _
          · refine Touches.trans ?_ State.enterHold_touches rfl
            exact Touches.refl _
        · refine Touches.iteSt ?_ ?_
          · dsimp only
            refine Touches.trans ?_ State.startRun_touches rfl
            exact Touches.refl _
          · refine Touches.iteSt ?_ ?_
            · dsimp only
              refine Touches.mkUpd ?_ (by simp only [State.without, cond_true, cond_false])
              exact Touches.refl _
            · refine Touches.iteSt ?_ ?_
              · dsimp only
                refine Touches.trans ?_ State.setMode_touches rfl
                refine Touches.mkUpd ?_ (by simp only [State.without, cond_true, cond_false])
                refine Touches.trans ?_ State.dropCycles_touches rfl
                refine Touches.trans ?_ State.unhalt_touches rfl
                exact Touches.refl _
              · dsimp only
                exact Touches.refl _

theorem execModeSet_touches {a0 : _} {a1 : _} {t : State} (h : (@execModeSet a0 a1) = .next t) : Touches { regs := true, beat := true, lcp := true } a1 t := by
  unfold execModeSet at h
  injection h with h
  subst h
  refine Touches.trans ?_ queued_touches rfl
  exact Touches.refl _

theorem State.moduleRestart_touches {a0 : _} {a1 : _} : Touches { regs := true, beat := true, ev := true, lcp := true, jr := true, units := true, wd := true, rt := true, pair := true, sec := true, triad := true, field := true, can := true } a0 (@State.moduleRestart a0 a1) := by
  unfold State.moduleRestart
  refine Touches.ite ?_ ?_
  · refine Touches.trans ?_ State.planAt_touches rfl
    exact Touches.refl _
  · refine Touches.trans ?_ State.enterStart_touches rfl
    exact Touches.refl _

theorem restartApply_touches {a0 : _} {a1 : _} : Touches { regs := true, beat := true, ev := true, lcp := true, jr := true, units := true, wd := true, rt := true, loops := true, pair := true, sec := true, triad := true, field := true, can := true } a1 (@restartApply a0 a1).st := by
  unfold restartApply
  refine Touches.iteSt ?_ ?_
  · refine Touches.iteSt ?_ ?_
    · dsimp only
      exact Touches.refl _
    · dsimp only
      refine Touches.trans ?_ State.moduleRestart_touches rfl
      exact Touches.refl _
  · dsimp only
    refine Touches.trans ?_ State.restartPair_touches rfl
    exact Touches.refl _

theorem execRestart_touches {a0 : _} {a1 : _} {t : State} (h : (@execRestart a0 a1) = .next t) : Touches { regs := true, beat := true, lcp := true } a1 t := by
  unfold execRestart at h
  injection h with h
  subst h
  refine Touches.trans ?_ queued_touches rfl
  exact Touches.refl _

theorem auditRefused_touches {o : Op} {p : Packet} {chk : UnitSel → State → Chk} {a d : Nat} {s t : State} : Touches { regs := true, beat := true, ev := true, lcp := true, sec := true } t (auditRefused o p chk a d s t) := by
  unfold auditRefused
  split
  · dsimp only
    split
    · exact Touches.trans (Touches.refl _) State.auditBy_touches rfl
    · exact Touches.refl _
  · exact Touches.refl _

theorem State.showSafeCause_touches {a0 : _} {a1 : _} : Touches { regs := true, ev := true, lcp := true, jr := true, units := true } a0 (@State.showSafeCause a0 a1) := by
  unfold State.showSafeCause
  refine Touches.trans ?_ State.setMode_touches rfl
  exact Touches.refl _

theorem State.clearSafe_touches {a0 : _} : Touches { regs := true, ev := true, lcp := true, jr := true, units := true, wd := true, pwr := true } a0 (@State.clearSafe a0) := by
  unfold State.clearSafe
  dsimp only
  refine Touches.trans ?_ State.journalToll_touches rfl
  refine Touches.trans ?_ State.journal_touches rfl
  refine Touches.trans ?_ State.showSafeCause_touches rfl
  refine Touches.trans ?_ Touches.put rfl
  refine Touches.trans ?_ State.latch_touches rfl
  refine Touches.mkUpd ?_ (by simp only [State.without, cond_true, cond_false])
  exact Touches.refl _

theorem clearSafeBody_touches {a0 : _} {a1 : _} {a2 : _} : Touches { regs := true, ev := true, lcp := true, jr := true, units := true, wd := true, sec := true, pwr := true } a2 (@clearSafeBody a0 a1 a2).st := by
  unfold clearSafeBody
  dsimp only
  refine Touches.trans ?_ State.clearSafe_touches rfl
  refine Touches.trans ?_ State.auditBy_touches rfl
  exact Touches.refl _

theorem execClearSafe_touches {a0 : _} {a1 : _} {t : State} (h : (@execClearSafe a0 a1) = .next t) : Touches { regs := true, beat := true, ev := true, lcp := true, jr := true, units := true, wd := true, rt := true, pair := true, sec := true, triad := true, pwr := true, field := true, can := true } a1 t := by
  unfold execClearSafe at h
  injection h with h
  subst h
  refine Touches.ite ?_ ?_
  · refine Touches.trans ?_ State.enterStart_touches rfl
    refine Touches.trans ?_ auditRefused_touches rfl
    refine Touches.comp ?_ (served_touches ?_ rfl)
    · exact Touches.refl _
    · intro v0 v1
      refine Touches.trans ?_ clearSafeBody_touches rfl
      exact Touches.refl _
  · refine Touches.trans ?_ auditRefused_touches rfl
    refine Touches.comp ?_ (served_touches ?_ rfl)
    · exact Touches.refl _
    · intro v2 v3
      refine Touches.trans ?_ clearSafeBody_touches rfl
      exact Touches.refl _

end Sys2Proof.Machine
end

