-- ==== Sys2Proof/Laws/TouchB.lean ====
section
/-! SUPPORT. Which parts of the state each function of Lanes, Field, Filter, Clock, Units, Security, Power may change. -/

set_option maxRecDepth 4000
namespace Sys2Proof.Machine

open Sys2Proof

/-! Lanes. -/

theorem State.putLane_touches {a0 : _} {a1 : _} : Touches { lanes := true } a0 (@State.putLane a0 a1) := by
  unfold State.putLane
  refine Touches.mkUpd ?_ (by simp only [State.without, cond_true, cond_false])
  exact Touches.refl _

theorem State.putL3_touches {a0 : _} {a1 : _} : Touches { lanes := true } a0 (@State.putL3 a0 a1) := by
  unfold State.putL3
  refine Touches.mkUpd ?_ (by simp only [State.without, cond_true, cond_false])
  exact Touches.refl _

theorem State.putWsl_touches {a0 : _} {a1 : _} : Touches { lanes := true } a0 (@State.putWsl a0 a1) := by
  unfold State.putWsl
  refine Touches.mkUpd ?_ (by simp only [State.without, cond_true, cond_false])
  exact Touches.refl _

theorem State.oweErr_touches {a0 : _} {a1 : _} {a2 : _} : Touches { rt := true } a0 (@State.oweErr a0 a1 a2) := by
  unfold State.oweErr
  refine Touches.ite ?_ ?_
  · refine Touches.mkUpd ?_ (by simp only [State.without, cond_true, cond_false])
    exact Touches.refl _
  · exact Touches.refl _

theorem State.addDue_touches {a0 : _} {a1 : _} {a2 : _} {a3 : _} {a4 : _} : Touches { rt := true, lanes := true } a0 (@State.addDue a0 a1 a2 a3 a4) := by
  unfold State.addDue
  refine Touches.mkUpd ?_ (by simp only [State.without, cond_true, cond_false])
  exact Touches.refl _

theorem State.laneEvent_touches {a0 : _} {a1 : _} {a2 : _} {a3 : _} {a4 : _} : Touches { regs := true, ev := true } a0 (@State.laneEvent a0 a1 a2 a3 a4) := by
  unfold State.laneEvent
  refine Touches.trans ?_ State.raise_touches rfl
  exact Touches.refl _

theorem State.showCrossover_touches {a0 : _} : Touches { regs := true } a0 (@State.showCrossover a0) := by
  unfold State.showCrossover
  dsimp only
  refine Touches.trans ?_ Touches.put rfl
  refine Touches.trans ?_ Touches.put rfl
  refine Touches.trans ?_ Touches.putFlag rfl
  exact Touches.refl _

theorem State.setL3_touches {a0 : _} {a1 : _} {a2 : _} : Touches { lanes := true } a0 (@State.setL3 a0 a1 a2) := by
  unfold State.setL3
  refine Touches.mkUpd ?_ (by simp only [State.without, cond_true, cond_false])
  exact Touches.refl _

theorem State.laneFail_touches {a0 : _} {a1 : _} : Touches { regs := true, ev := true, rt := true, lanes := true } a0 (@State.laneFail a0 a1) := by
  unfold State.laneFail
  dsimp only
  refine Touches.ite ?_ ?_
  · refine Touches.trans ?_ State.putLane_touches rfl
    refine Touches.trans ?_ Touches.put rfl
    refine Touches.trans ?_ Touches.put rfl
    refine Touches.trans ?_ Touches.inc rfl
    exact Touches.refl _
  · refine Touches.ite ?_ ?_
    · refine Touches.trans ?_ State.setL3_touches rfl
      refine Touches.foldl ?_ (fun v0 v1 => ?_)
      · refine Touches.ite ?_ ?_
        · refine Touches.trans ?_ State.putLane_touches rfl
          refine Touches.trans ?_ Touches.put rfl
          refine Touches.trans ?_ Touches.put rfl
          refine Touches.trans ?_ Touches.inc rfl
          exact Touches.refl _
        · refine Touches.trans ?_ State.laneEvent_touches rfl
          refine Touches.trans ?_ State.putLane_touches rfl
          refine Touches.trans ?_ Touches.put rfl
          refine Touches.trans ?_ Touches.put rfl
          refine Touches.trans ?_ Touches.inc rfl
          exact Touches.refl _
      · refine Touches.trans ?_ State.oweErr_touches rfl
        exact Touches.refl _
    · refine Touches.foldl ?_ (fun v2 v3 => ?_)
      · refine Touches.ite ?_ ?_
        · refine Touches.trans ?_ State.putLane_touches rfl
          refine Touches.trans ?_ Touches.put rfl
          refine Touches.trans ?_ Touches.put rfl
          refine Touches.trans ?_ Touches.inc rfl
          exact Touches.refl _
        · refine Touches.trans ?_ State.laneEvent_touches rfl
          refine Touches.trans ?_ State.putLane_touches rfl
          refine Touches.trans ?_ Touches.put rfl
          refine Touches.trans ?_ Touches.put rfl
          refine Touches.trans ?_ Touches.inc rfl
          exact Touches.refl _
      · refine Touches.trans ?_ State.oweErr_touches rfl
        exact Touches.refl _

theorem State.boardGone_touches {a0 : _} {a1 : _} : Touches { regs := true, ev := true, jr := true, units := true, rt := true, lanes := true } a0 (@State.boardGone a0 a1) := by
  unfold State.boardGone
  dsimp only
  refine Touches.trans ?_ State.showCrossover_touches rfl
  refine Touches.foldl ?_ (fun v0 v1 => ?_)
  · refine Touches.trans ?_ State.bumpUnit_touches rfl
    refine Touches.trans ?_ State.laneEvent_touches rfl
    refine Touches.trans ?_ State.putLane_touches rfl
    iterate 3 refine Touches.trans ?_ Touches.put rfl
    refine Touches.ite ?_ ?_
    · exact Touches.refl _
    · refine Touches.trans ?_ Touches.put rfl
      refine Touches.trans ?_ Touches.inc rfl
      exact Touches.refl _
  · refine Touches.trans ?_ State.oweErr_touches rfl
    exact Touches.refl _

theorem State.payFailure_touches {a0 : _} {a1 : _} : Touches { regs := true, ev := true, lanes := true } a0 (@State.payFailure a0 a1) := by
  unfold State.payFailure
  refine Touches.ite ?_ ?_
  · refine Touches.trans ?_ State.laneEvent_touches rfl
    refine Touches.trans ?_ State.putLane_touches rfl
    exact Touches.refl _
  · exact Touches.refl _

theorem State.crossEdge_touches {a0 : _} : Touches { regs := true, ev := true, rt := true, lanes := true } a0 (@State.crossEdge a0) := by
  unfold State.crossEdge
  dsimp only
  refine Touches.trans ?_ State.showCrossover_touches rfl
  refine Touches.foldl ?_ (fun v0 v1 => ?_)
  · refine Touches.foldl ?_ (fun v2 v3 => ?_)
    · exact Touches.refl _
    · refine Touches.ite ?_ ?_
      · refine Touches.trans ?_ State.payFailure_touches rfl
        exact Touches.refl _
      · exact Touches.refl _
  · refine Touches.ite ?_ ?_
    · refine Touches.trans ?_ State.laneEvent_touches rfl
      refine Touches.trans ?_ Touches.put rfl
      refine Touches.trans ?_ State.putLane_touches rfl
      exact Touches.refl _
    · refine Touches.ite ?_ ?_
      · refine Touches.ite ?_ ?_
        · refine Touches.trans ?_ State.setL3_touches rfl
          refine Touches.foldl ?_ (fun v4 v5 => ?_)
          · refine Touches.trans ?_ State.laneEvent_touches rfl
            refine Touches.trans ?_ Touches.put rfl
            refine Touches.trans ?_ State.putLane_touches rfl
            exact Touches.refl _
          · refine Touches.ite ?_ ?_
            · refine Touches.trans ?_ State.oweErr_touches rfl
              exact Touches.refl _
            · exact Touches.refl _
        · refine Touches.trans ?_ State.laneEvent_touches rfl
          refine Touches.trans ?_ Touches.put rfl
          refine Touches.trans ?_ State.putLane_touches rfl
          exact Touches.refl _
      · exact Touches.refl _

theorem State.endCrossover_touches {a0 : _} {a1 : _} : Touches { regs := true, ev := true, rt := true, lanes := true } a0 (@State.endCrossover a0 a1) := by
  unfold State.endCrossover
  dsimp only
  refine Touches.ite ?_ ?_
  · exact Touches.refl _
  · refine Touches.trans ?_ State.showCrossover_touches rfl
    refine Touches.ite ?_ ?_
    · refine Touches.trans ?_ State.setL3_touches rfl
      refine Touches.ite ?_ ?_
      · refine Touches.foldl ?_ (fun v0 v1 => ?_)
        · refine Touches.trans ?_ State.laneEvent_touches rfl
          refine Touches.trans ?_ Touches.put rfl
          refine Touches.trans ?_ State.putLane_touches rfl
          exact Touches.refl _
        · refine Touches.trans ?_ State.oweErr_touches rfl
          exact Touches.refl _
      · refine Touches.trans ?_ Touches.put rfl
        refine Touches.trans ?_ State.putLane_touches rfl
        exact Touches.refl _
    · refine Touches.ite ?_ ?_
      · refine Touches.foldl ?_ (fun v2 v3 => ?_)
        · refine Touches.trans ?_ State.laneEvent_touches rfl
          refine Touches.trans ?_ Touches.put rfl
          refine Touches.trans ?_ State.putLane_touches rfl
          exact Touches.refl _
        · refine Touches.trans ?_ State.oweErr_touches rfl
          exact Touches.refl _
      · refine Touches.trans ?_ Touches.put rfl
        refine Touches.trans ?_ State.putLane_touches rfl
        exact Touches.refl _

theorem State.endCrossovers_touches {a0 : _} : Touches { regs := true, ev := true, rt := true, lanes := true } a0 (@State.endCrossovers a0) := by
  unfold State.endCrossovers
  refine Touches.foldl ?_ (fun v0 v1 => ?_)
  · exact Touches.refl _
  · refine Touches.trans ?_ State.endCrossover_touches rfl
    exact Touches.refl _

theorem State.lanesTakeService_touches {a0 : _} : Touches { rt := true, lanes := true } a0 (@State.lanesTakeService a0) := by
  unfold State.lanesTakeService
  refine Touches.foldl ?_ (fun v0 v1 => ?_)
  · exact Touches.refl _
  · refine Touches.ite ?_ ?_
    · refine Touches.ite ?_ ?_
      · refine Touches.trans ?_ State.putLane_touches rfl
        exact Touches.refl _
      · refine Touches.foldl ?_ (fun v2 v3 => ?_)
        · exact Touches.refl _
        · refine Touches.trans ?_ State.oweErr_touches rfl
          exact Touches.refl _
    · exact Touches.refl _

theorem State.laneReturn_touches {a0 : _} {a1 : _} : Touches { regs := true, ev := true, rt := true, lanes := true } a0 (@State.laneReturn a0 a1) := by
  unfold State.laneReturn
  dsimp only
  refine Touches.ite ?_ ?_
  · refine Touches.trans ?_ State.putLane_touches rfl
    refine Touches.trans ?_ Touches.put rfl
    refine Touches.trans ?_ State.payFailure_touches rfl
    exact Touches.refl _
  · refine Touches.trans ?_ State.oweErr_touches rfl
    refine Touches.trans ?_ State.laneEvent_touches rfl
    refine Touches.trans ?_ State.putLane_touches rfl
    refine Touches.trans ?_ Touches.put rfl
    refine Touches.trans ?_ State.payFailure_touches rfl
    exact Touches.refl _

theorem State.sendService_touches {a0 : _} {a1 : _} {a2 : _} {a3 : _} : Touches { lanes := true } a0 (@State.sendService a0 a1 a2 a3) := by
  unfold State.sendService
  dsimp only
  refine Touches.ite ?_ ?_
  · refine Touches.trans ?_ State.putLane_touches rfl
    exact Touches.refl _
  · exact Touches.refl _

theorem State.edgeLaunch_touches {a0 : _} {a1 : _} : Touches { lanes := true } a0 (@State.edgeLaunch a0 a1) := by
  unfold State.edgeLaunch
  dsimp only
  refine Touches.ite ?_ ?_
  · refine Touches.trans ?_ State.putLane_touches rfl
    exact Touches.refl _
  · exact Touches.refl _

theorem execEdgeLaunch_touches {a0 : _} {a1 : _} {t : State} (h : (@execEdgeLaunch a0 a1) = .next t) : Touches { lanes := true } a1 t := by
  unfold execEdgeLaunch at h
  injection h with h
  subst h
  refine Touches.trans ?_ State.edgeLaunch_touches rfl
  exact Touches.refl _

theorem execDelayMeasure_touches {a0 : _} {a1 : _} {t : State} (h : (@execDelayMeasure a0 a1) = .next t) : Touches { lanes := true } a1 t := by
  unfold execDelayMeasure at h
  injection h with h
  subst h
  refine Touches.ite ?_ ?_
  · dsimp only
    refine Touches.trans ?_ State.putLane_touches rfl
    exact Touches.refl _
  · exact Touches.refl _

theorem execDelayRespReceive_touches {a0 : _} {a1 : _} {a2 : _} {a3 : _} {a4 : _} {a5 : _} {t : State} (h : (@execDelayRespReceive a0 a1 a2 a3 a4 a5) = .next t) : Touches { regs := true, lanes := true } a4 t := by
  unfold execDelayRespReceive at h
  injection h with h
  subst h
  refine Touches.ite ?_ ?_
  · exact Touches.refl _
  · refine Touches.ite ?_ ?_
    · refine Touches.trans ?_ Touches.inc rfl
      refine Touches.trans ?_ State.putLane_touches rfl
      exact Touches.refl _
    · refine Touches.ite ?_ ?_
      · exact Touches.refl _
      · dsimp only
        refine Touches.ite ?_ ?_
        · refine Touches.trans ?_ Touches.inc rfl
          refine Touches.trans ?_ State.putLane_touches rfl
          exact Touches.refl _
        · refine Touches.trans ?_ Touches.put rfl
          refine Touches.trans ?_ State.putLane_touches rfl
          exact Touches.refl _

theorem State.putHolder_touches {a0 : _} {a1 : _} {a2 : _} : Touches { regs := true } a0 (@State.putHolder a0 a1 a2) := by
  unfold State.putHolder
  refine Touches.ite ?_ ?_
  · refine Touches.trans ?_ Touches.put rfl
    exact Touches.refl _
  · exact Touches.refl _

theorem State.laneStatusIn_touches {a0 : _} {a1 : _} {a2 : _} : Touches { regs := true, ev := true, lanes := true } a0 (@State.laneStatusIn a0 a1 a2) := by
  unfold State.laneStatusIn
  dsimp only
  refine Touches.ite ?_ ?_
  · refine Touches.trans ?_ State.laneEvent_touches rfl
    refine Touches.trans ?_ Touches.add rfl
    refine Touches.trans ?_ State.putHolder_touches rfl
    refine Touches.trans ?_ State.putLane_touches rfl
    exact Touches.refl _
  · refine Touches.trans ?_ Touches.add rfl
    refine Touches.trans ?_ State.putHolder_touches rfl
    refine Touches.trans ?_ State.putLane_touches rfl
    exact Touches.refl _

theorem State.frameAccepted_touches {a0 : _} {a1 : _} {a2 : _} {a3 : _} : Touches { regs := true, ev := true, rt := true, lanes := true } a0 (@State.frameAccepted a0 a1 a2 a3) := by
  unfold State.frameAccepted
  dsimp only
  refine Touches.ite ?_ ?_
  · refine Touches.trans ?_ State.putLane_touches rfl
    split
    · rename_i v0 v1 v2
      refine Touches.trans ?_ State.laneStatusIn_touches rfl
      refine Touches.trans ?_ Touches.put rfl
      refine Touches.trans ?_ Touches.put rfl
      refine Touches.ite ?_ ?_
      · refine Touches.trans ?_ Touches.inc rfl
        refine Touches.trans ?_ State.putLane_touches rfl
        exact Touches.refl _
      · refine Touches.trans ?_ State.putLane_touches rfl
        exact Touches.refl _
    · rename_i v3 v4
      refine Touches.trans ?_ Touches.put rfl
      refine Touches.trans ?_ Touches.put rfl
      refine Touches.ite ?_ ?_
      · refine Touches.trans ?_ Touches.inc rfl
        refine Touches.trans ?_ State.putLane_touches rfl
        exact Touches.refl _
      · refine Touches.trans ?_ State.putLane_touches rfl
        exact Touches.refl _
  · refine Touches.trans ?_ State.addDue_touches rfl
    refine Touches.trans ?_ State.putLane_touches rfl
    split
    · rename_i v5 v6 v7
      refine Touches.trans ?_ State.laneStatusIn_touches rfl
      refine Touches.trans ?_ Touches.put rfl
      refine Touches.trans ?_ Touches.put rfl
      refine Touches.ite ?_ ?_
      · refine Touches.trans ?_ Touches.inc rfl
        refine Touches.trans ?_ State.putLane_touches rfl
        exact Touches.refl _
      · refine Touches.trans ?_ State.putLane_touches rfl
        exact Touches.refl _
    · rename_i v8 v9
      refine Touches.trans ?_ Touches.put rfl
      refine Touches.trans ?_ Touches.put rfl
      refine Touches.ite ?_ ?_
      · refine Touches.trans ?_ Touches.inc rfl
        refine Touches.trans ?_ State.putLane_touches rfl
        exact Touches.refl _
      · refine Touches.trans ?_ State.putLane_touches rfl
        exact Touches.refl _

theorem State.upstreamFrame_touches {a0 : _} {a1 : _} {a2 : _} : Touches { regs := true, ev := true, rt := true, lanes := true } a0 (@State.upstreamFrame a0 a1 a2) := by
  unfold State.upstreamFrame
  dsimp only
  refine Touches.ite ?_ ?_
  · exact Touches.refl _
  · refine Touches.ite ?_ ?_
    · refine Touches.ite ?_ ?_
      · refine Touches.trans ?_ State.putLane_touches rfl
        exact Touches.refl _
      · exact Touches.refl _
    · refine Touches.ite ?_ ?_
      · refine Touches.trans ?_ Touches.inc rfl
        exact Touches.refl _
      · refine Touches.ite ?_ ?_
        · refine Touches.ite ?_ ?_
          · refine Touches.trans ?_ State.putLane_touches rfl
            exact Touches.refl _
          · exact Touches.refl _
        · refine Touches.ite ?_ ?_
          · refine Touches.ite ?_ ?_
            · refine Touches.trans ?_ State.putLane_touches rfl
              refine Touches.trans ?_ Touches.inc rfl
              exact Touches.refl _
            · refine Touches.trans ?_ Touches.inc rfl
              exact Touches.refl _
          · refine Touches.ite ?_ ?_
            · refine Touches.ite ?_ ?_
              · refine Touches.trans ?_ Touches.inc rfl
                refine Touches.trans ?_ State.putLane_touches rfl
                exact Touches.refl _
              · exact Touches.refl _
            · refine Touches.trans ?_ State.frameAccepted_touches rfl
              exact Touches.refl _

theorem execUpstreamFrameReceive_touches {a0 : _} {a1 : _} {a2 : _} {t : State} (h : (@execUpstreamFrameReceive a0 a1 a2) = .next t) : Touches { regs := true, ev := true, rt := true, lanes := true } a2 t := by
  unfold execUpstreamFrameReceive at h
  injection h with h
  subst h
  refine Touches.trans ?_ State.upstreamFrame_touches rfl
  exact Touches.refl _

theorem execAckSend_touches {a0 : _} {a1 : _} {a2 : _} {t : State} (h : (@execAckSend a0 a1 a2) = .next t) : Touches { lanes := true } a2 t := by
  unfold execAckSend at h
  injection h with h
  subst h
  refine Touches.ite ?_ ?_
  · exact Touches.refl _
  · dsimp only
    refine Touches.trans ?_ State.putLane_touches rfl
    exact Touches.refl _

theorem State.laneStale_touches {a0 : _} {a1 : _} : Touches { regs := true, ev := true, rt := true, lanes := true } a0 (@State.laneStale a0 a1) := by
  unfold State.laneStale
  dsimp only
  refine Touches.ite ?_ ?_
  · refine Touches.trans ?_ State.laneFail_touches rfl
    refine Touches.ite ?_ ?_
    · refine Touches.trans ?_ State.laneEvent_touches rfl
      refine Touches.ite ?_ ?_
      · refine Touches.trans ?_ Touches.put rfl
        refine Touches.ite ?_ ?_
        · refine Touches.trans ?_ Touches.put rfl
          refine Touches.trans ?_ Touches.inc rfl
          refine Touches.trans ?_ State.putLane_touches rfl
          exact Touches.refl _
        · refine Touches.trans ?_ State.addDue_touches rfl
          refine Touches.trans ?_ Touches.put rfl
          refine Touches.trans ?_ Touches.inc rfl
          refine Touches.trans ?_ State.putLane_touches rfl
          exact Touches.refl _
      · refine Touches.ite ?_ ?_
        · refine Touches.trans ?_ Touches.put rfl
          refine Touches.trans ?_ Touches.inc rfl
          refine Touches.trans ?_ State.putLane_touches rfl
          exact Touches.refl _
        · refine Touches.trans ?_ State.addDue_touches rfl
          refine Touches.trans ?_ Touches.put rfl
          refine Touches.trans ?_ Touches.inc rfl
          refine Touches.trans ?_ State.putLane_touches rfl
          exact Touches.refl _
    · refine Touches.ite ?_ ?_
      · refine Touches.trans ?_ Touches.put rfl
        refine Touches.ite ?_ ?_
        · refine Touches.trans ?_ Touches.put rfl
          refine Touches.trans ?_ Touches.inc rfl
          refine Touches.trans ?_ State.putLane_touches rfl
          exact Touches.refl _
        · refine Touches.trans ?_ State.addDue_touches rfl
          refine Touches.trans ?_ Touches.put rfl
          refine Touches.trans ?_ Touches.inc rfl
          refine Touches.trans ?_ State.putLane_touches rfl
          exact Touches.refl _
      · refine Touches.ite ?_ ?_
        · refine Touches.trans ?_ Touches.put rfl
          refine Touches.trans ?_ Touches.inc rfl
          refine Touches.trans ?_ State.putLane_touches rfl
          exact Touches.refl _
        · refine Touches.trans ?_ State.addDue_touches rfl
          refine Touches.trans ?_ Touches.put rfl
          refine Touches.trans ?_ Touches.inc rfl
          refine Touches.trans ?_ State.putLane_touches rfl
          exact Touches.refl _
  · refine Touches.ite ?_ ?_
    · refine Touches.trans ?_ State.laneEvent_touches rfl
      refine Touches.ite ?_ ?_
      · refine Touches.trans ?_ Touches.put rfl
        refine Touches.ite ?_ ?_
        · refine Touches.trans ?_ Touches.put rfl
          refine Touches.trans ?_ Touches.inc rfl
          refine Touches.trans ?_ State.putLane_touches rfl
          exact Touches.refl _
        · refine Touches.trans ?_ State.addDue_touches rfl
          refine Touches.trans ?_ Touches.put rfl
          refine Touches.trans ?_ Touches.inc rfl
          refine Touches.trans ?_ State.putLane_touches rfl
          exact Touches.refl _
      · refine Touches.ite ?_ ?_
        · refine Touches.trans ?_ Touches.put rfl
          refine Touches.trans ?_ Touches.inc rfl
          refine Touches.trans ?_ State.putLane_touches rfl
          exact Touches.refl _
        · refine Touches.trans ?_ State.addDue_touches rfl
          refine Touches.trans ?_ Touches.put rfl
          refine Touches.trans ?_ Touches.inc rfl
          refine Touches.trans ?_ State.putLane_touches rfl
          exact Touches.refl _
    · refine Touches.ite ?_ ?_
      · refine Touches.trans ?_ Touches.put rfl
        refine Touches.ite ?_ ?_
        · refine Touches.trans ?_ Touches.put rfl
          refine Touches.trans ?_ Touches.inc rfl
          refine Touches.trans ?_ State.putLane_touches rfl
          exact Touches.refl _
        · refine Touches.trans ?_ State.addDue_touches rfl
          refine Touches.trans ?_ Touches.put rfl
          refine Touches.trans ?_ Touches.inc rfl
          refine Touches.trans ?_ State.putLane_touches rfl
          exact Touches.refl _
      · refine Touches.ite ?_ ?_
        · refine Touches.trans ?_ Touches.put rfl
          refine Touches.trans ?_ Touches.inc rfl
          refine Touches.trans ?_ State.putLane_touches rfl
          exact Touches.refl _
        · refine Touches.trans ?_ State.addDue_touches rfl
          refine Touches.trans ?_ Touches.put rfl
          refine Touches.trans ?_ Touches.inc rfl
          refine Touches.trans ?_ State.putLane_touches rfl
          exact Touches.refl _

theorem State.laneGood_touches {a0 : _} {a1 : _} : Touches { regs := true, ev := true, rt := true, lanes := true } a0 (@State.laneGood a0 a1) := by
  unfold State.laneGood
  dsimp only
  refine Touches.ite ?_ ?_
  · refine Touches.trans ?_ State.laneReturn_touches rfl
    refine Touches.ite ?_ ?_
    · refine Touches.trans ?_ Touches.put rfl
      refine Touches.trans ?_ Touches.put rfl
      refine Touches.trans ?_ State.putLane_touches rfl
      exact Touches.refl _
    · refine Touches.trans ?_ Touches.put rfl
      refine Touches.trans ?_ State.putLane_touches rfl
      exact Touches.refl _
  · refine Touches.ite ?_ ?_
    · refine Touches.trans ?_ Touches.put rfl
      refine Touches.trans ?_ Touches.put rfl
      refine Touches.trans ?_ State.putLane_touches rfl
      exact Touches.refl _
    · refine Touches.trans ?_ Touches.put rfl
      refine Touches.trans ?_ State.putLane_touches rfl
      exact Touches.refl _

theorem State.windowEnd_touches {a0 : _} {a1 : _} : Touches { regs := true, ev := true, rt := true, lanes := true } a0 (@State.windowEnd a0 a1) := by
  unfold State.windowEnd
  dsimp only
  refine Touches.ite ?_ ?_
  · exact Touches.refl _
  · refine Touches.ite ?_ ?_
    · refine Touches.trans ?_ State.laneGood_touches rfl
      exact Touches.refl _
    · refine Touches.trans ?_ State.laneStale_touches rfl
      exact Touches.refl _

theorem execExchangeWindowEnd_touches {a0 : _} {a1 : _} {t : State} (h : (@execExchangeWindowEnd a0 a1) = .next t) : Touches { regs := true, ev := true, rt := true, lanes := true } a1 t := by
  unfold execExchangeWindowEnd at h
  injection h with h
  subst h
  refine Touches.trans ?_ State.windowEnd_touches rfl
  exact Touches.refl _

theorem State.lossOfLink_touches {a0 : _} {a1 : _} : Touches { regs := true, ev := true, jr := true, units := true, rt := true, lanes := true } a0 (@State.lossOfLink a0 a1) := by
  unfold State.lossOfLink
  dsimp only
  refine Touches.ite ?_ ?_
  · exact Touches.refl _
  · refine Touches.ite ?_ ?_
    · refine Touches.trans ?_ State.boardGone_touches rfl
      refine Touches.trans ?_ Touches.put rfl
      exact Touches.refl _
    · refine Touches.ite ?_ ?_
      · refine Touches.trans ?_ State.putLane_touches rfl
        refine Touches.trans ?_ Touches.put rfl
        exact Touches.refl _
      · refine Touches.trans ?_ State.laneFail_touches rfl
        refine Touches.trans ?_ Touches.put rfl
        exact Touches.refl _

theorem execLossOfLink_touches {a0 : _} {a1 : _} {t : State} (h : (@execLossOfLink a0 a1) = .next t) : Touches { regs := true, ev := true, jr := true, units := true, rt := true, lanes := true } a1 t := by
  unfold execLossOfLink at h
  injection h with h
  subst h
  refine Touches.trans ?_ State.lossOfLink_touches rfl
  exact Touches.refl _

theorem State.partnerLossIn_touches {a0 : _} {a1 : _} : Touches { regs := true, ev := true, jr := true, units := true, rt := true, pair := true, lanes := true } a0 (@State.partnerLossIn a0 a1) := by
  unfold State.partnerLossIn
  dsimp only
  refine Touches.foldl ?_ (fun v0 v1 => ?_)
  · refine Touches.mkUpd ?_ (by simp only [State.without, cond_true, cond_false])
    exact Touches.refl _
  · split
    · rename_i v2 v3 v4
      refine Touches.ite ?_ ?_
      · refine Touches.trans ?_ State.boardGone_touches rfl
        exact Touches.refl _
      · exact Touches.refl _
    · rename_i v5 v6
      exact Touches.refl _

theorem State.boardUnit_touches {a0 : _} {a1 : _} {a2 : _} {a3 : _} {a4 : _} : Touches { regs := true, ev := true, jr := true, units := true } a0 (@State.boardUnit a0 a1 a2 a3 a4) := by
  unfold State.boardUnit
  dsimp only
  refine Touches.trans ?_ State.bumpUnit_touches rfl
  refine Touches.trans ?_ State.putUnit_touches rfl
  exact Touches.refl _

theorem State.slotInserted_touches {a0 : _} {a1 : _} {a2 : _} {a3 : _} {a4 : _} {a5 : _} : Touches { regs := true, ev := true, jr := true, units := true, rt := true, lanes := true } a0 (@State.slotInserted a0 a1 a2 a3 a4 a5) := by
  unfold State.slotInserted
  dsimp only
  refine Touches.trans ?_ State.laneEvent_touches rfl
  refine Touches.trans ?_ State.putLane_touches rfl
  iterate 3 refine Touches.trans ?_ Touches.put rfl
  refine Touches.trans ?_ State.boardUnit_touches rfl
  refine Touches.ite ?_ ?_
  · refine Touches.trans ?_ State.boardGone_touches rfl
    exact Touches.refl _
  · exact Touches.refl _

theorem State.l3Inserted_touches {a0 : _} {a1 : _} {a2 : _} {a3 : _} {a4 : _} {a5 : _} : Touches { regs := true, ev := true, jr := true, units := true, lanes := true } a0 (@State.l3Inserted a0 a1 a2 a3 a4 a5) := by
  unfold State.l3Inserted
  dsimp only
  refine Touches.trans ?_ State.laneEvent_touches rfl
  refine Touches.trans ?_ State.putL3_touches rfl
  refine Touches.ite ?_ ?_
  · refine Touches.trans ?_ Touches.put rfl
    refine Touches.trans ?_ Touches.put rfl
    refine Touches.trans ?_ Touches.put rfl
    refine Touches.trans ?_ State.boardUnit_touches rfl
    exact Touches.refl _
  · refine Touches.trans ?_ Touches.put rfl
    refine Touches.trans ?_ Touches.put rfl
    refine Touches.trans ?_ State.boardUnit_touches rfl
    exact Touches.refl _

theorem State.behindBridge_touches {a0 : _} {a1 : _} {a2 : _} {a3 : _} {a4 : _} {a5 : _} {a6 : _} : Touches { regs := true, ev := true, jr := true, units := true } a0 (@State.behindBridge a0 a1 a2 a3 a4 a5 a6) := by
  unfold State.behindBridge
  dsimp only
  refine Touches.trans ?_ State.laneEvent_touches rfl
  refine Touches.trans ?_ State.bumpUnit_touches rfl
  refine Touches.trans ?_ State.boardUnit_touches rfl
  exact Touches.refl _

theorem State.mismatchFound_touches {a0 : _} {a1 : _} {a2 : _} {a3 : _} {a4 : _} : Touches { regs := true, ev := true, jr := true, units := true, lanes := true } a0 (@State.mismatchFound a0 a1 a2 a3 a4) := by
  unfold State.mismatchFound
  dsimp only
  refine Touches.ite ?_ ?_
  · refine Touches.trans ?_ State.putL3_touches rfl
    refine Touches.trans ?_ State.bumpUnit_touches rfl
    refine Touches.trans ?_ State.laneEvent_touches rfl
    exact Touches.refl _
  · refine Touches.trans ?_ Touches.put rfl
    refine Touches.trans ?_ Touches.put rfl
    refine Touches.trans ?_ State.putLane_touches rfl
    refine Touches.trans ?_ State.bumpUnit_touches rfl
    refine Touches.trans ?_ State.laneEvent_touches rfl
    exact Touches.refl _

theorem State.typeWritten_touches {a0 : _} {a1 : _} : Touches { regs := true, ev := true, jr := true, units := true, rt := true, lanes := true } a0 (@State.typeWritten a0 a1) := by
  unfold State.typeWritten
  dsimp only
  refine Touches.ite ?_ ?_
  · exact Touches.refl _
  · refine Touches.ite ?_ ?_
    · refine Touches.foldl ?_ (fun v0 v1 => ?_)
      · exact Touches.refl _
      · refine Touches.trans ?_ State.mismatchFound_touches rfl
        refine Touches.trans ?_ State.putL3_touches rfl
        refine Touches.ite ?_ ?_
        · refine Touches.trans ?_ State.oweErr_touches rfl
          exact Touches.refl _
        · exact Touches.refl _
    · split
      · rename_i v2 v3 v4 v5
        refine Touches.ite ?_ ?_
        · exact Touches.refl _
        · refine Touches.trans ?_ State.showCrossover_touches rfl
          refine Touches.foldl ?_ (fun v6 v7 => ?_)
          · refine Touches.trans ?_ State.mismatchFound_touches rfl
            refine Touches.trans ?_ State.putLane_touches rfl
            exact Touches.refl _
          · refine Touches.trans ?_ State.oweErr_touches rfl
            exact Touches.refl _
      · rename_i v8 v9
        exact Touches.refl _

theorem State.boardInserted_touches {a0 : _} {a1 : _} {a2 : _} {a3 : _} {a4 : _} {a5 : _} {a6 : _} {a7 : _} : Touches { regs := true, ev := true, jr := true, units := true, rt := true, lanes := true } a0 (@State.boardInserted a0 a1 a2 a3 a4 a5 a6 a7) := by
  unfold State.boardInserted
  dsimp only
  refine Touches.ite ?_ ?_
  · exact Touches.refl _
  · refine Touches.ite ?_ ?_
    · refine Touches.ite ?_ ?_
      · refine Touches.trans ?_ Touches.put rfl
        refine Touches.trans ?_ Touches.put rfl
        refine Touches.trans ?_ State.raise_touches rfl
        exact Touches.refl _
      · refine Touches.trans ?_ State.raise_touches rfl
        exact Touches.refl _
    · refine Touches.ite ?_ ?_
      · refine Touches.ite ?_ ?_
        · refine Touches.trans ?_ State.behindBridge_touches rfl
          exact Touches.refl _
        · exact Touches.refl _
      · refine Touches.ite ?_ ?_
        · refine Touches.trans ?_ State.mismatchFound_touches rfl
          exact Touches.refl _
        · refine Touches.ite ?_ ?_
          · refine Touches.ite ?_ ?_
            · refine Touches.trans ?_ State.l3Inserted_touches rfl
              exact Touches.refl _
            · exact Touches.refl _
          · refine Touches.trans ?_ State.slotInserted_touches rfl
            exact Touches.refl _

theorem execBoardInserted_touches {a0 : _} {a1 : _} {a2 : _} {a3 : _} {a4 : _} {a5 : _} {a6 : _} {a7 : _} {t : State} (h : (@execBoardInserted a0 a1 a2 a3 a4 a5 a6 a7) = .next t) : Touches { regs := true, ev := true, jr := true, units := true, rt := true, lanes := true } a7 t := by
  unfold execBoardInserted at h
  injection h with h
  subst h
  refine Touches.trans ?_ State.boardInserted_touches rfl
  exact Touches.refl _

theorem State.crossForward_touches {a0 : _} {a1 : _} {a2 : _} : Touches { rt := true, pair := true, lanes := true } a0 (@State.crossForward a0 a1 a2) := by
  unfold State.crossForward
  refine Touches.ite ?_ ?_
  · refine Touches.ite ?_ ?_
    · exact Touches.refl _
    · dsimp only
      refine Touches.mkUpd ?_ (by simp only [State.without, cond_true, cond_false])
      refine Touches.foldl ?_ (fun v0 v1 => ?_)
      · exact Touches.refl _
      · refine Touches.trans ?_ State.addDue_touches rfl
        exact Touches.refl _
  · refine Touches.ite ?_ ?_
    · refine Touches.mkUpd ?_ (by simp only [State.without, cond_true, cond_false])
      exact Touches.refl _
    · exact Touches.refl _

theorem execCrossoverForward_touches {a0 : _} {a1 : _} {a2 : _} {t : State} (h : (@execCrossoverForward a0 a1 a2) = .next t) : Touches { rt := true, pair := true, lanes := true } a2 t := by
  unfold execCrossoverForward at h
  injection h with h
  subst h
  refine Touches.trans ?_ State.crossForward_touches rfl
  exact Touches.refl _

theorem execLaneProbe_touches {a0 : _} {a1 : _} {a2 : _} {t : State} (h : (@execLaneProbe a0 a1 a2) = .next t) : Touches { lanes := true } a2 t := by
  unfold execLaneProbe at h
  injection h with h
  subst h
  refine Touches.ite ?_ ?_
  · exact Touches.refl _
  · dsimp only
    refine Touches.ite ?_ ?_
    · refine Touches.trans ?_ State.putLane_touches rfl
      refine Touches.trans ?_ State.sendService_touches rfl
      exact Touches.refl _
    · refine Touches.ite ?_ ?_
      · refine Touches.trans ?_ State.putLane_touches rfl
        refine Touches.trans ?_ State.sendService_touches rfl
        exact Touches.refl _
      · refine Touches.trans ?_ State.putLane_touches rfl
        refine Touches.trans ?_ State.sendService_touches rfl
        exact Touches.refl _

theorem execCrossoverEnd_touches {a0 : _} {a1 : _} {a2 : _} {t : State} (h : (@execCrossoverEnd a0 a1 a2) = .next t) : Touches { regs := true, ev := true, rt := true, lanes := true } a2 t := by
  unfold execCrossoverEnd at h
  injection h with h
  subst h
  dsimp only
  refine Touches.mkUpd ?_ (by simp only [State.without, cond_true, cond_false])
  refine Touches.trans ?_ State.endCrossover_touches rfl
  exact Touches.refl _

theorem execL3Poll_touches {a0 : _} {a1 : _} {a2 : _} {t : State} (h : (@execL3Poll a0 a1 a2) = .next t) : Touches { lanes := true } a2 t := by
  unfold execL3Poll at h
  injection h with h
  subst h
  refine Touches.ite ?_ ?_
  · refine Touches.trans ?_ State.putL3_touches rfl
    exact Touches.refl _
  · exact Touches.refl _

theorem execL3CheckPoll_touches {a0 : _} {a1 : _} {a2 : _} {t : State} (h : (@execL3CheckPoll a0 a1 a2) = .next t) : Touches { lanes := true } a2 t := by
  unfold execL3CheckPoll at h
  injection h with h
  subst h
  refine Touches.ite ?_ ?_
  · refine Touches.trans ?_ State.putL3_touches rfl
    exact Touches.refl _
  · exact Touches.refl _

theorem State.showL3_touches {a0 : _} {a1 : _} : Touches { regs := true } a0 (@State.showL3 a0 a1) := by
  unfold State.showL3
  dsimp only
  refine Touches.ite ?_ ?_
  · refine Touches.trans ?_ Touches.put rfl
    refine Touches.trans ?_ Touches.put rfl
    exact Touches.refl _
  · refine Touches.trans ?_ Touches.put rfl
    exact Touches.refl _

theorem State.l3Stale_touches {a0 : _} {a1 : _} {a2 : _} {a3 : _} : Touches { regs := true, ev := true, jr := true, units := true, rt := true, lanes := true } a0 (@State.l3Stale a0 a1 a2 a3) := by
  unfold State.l3Stale
  dsimp only
  refine Touches.ite ?_ ?_
  · refine Touches.trans ?_ State.laneFail_touches rfl
    refine Touches.trans ?_ State.showL3_touches rfl
    refine Touches.ite ?_ ?_
    · refine Touches.ite ?_ ?_
      · refine Touches.trans ?_ State.bumpUnit_touches rfl
        refine Touches.trans ?_ State.laneEvent_touches rfl
        refine Touches.ite ?_ ?_
        · refine Touches.trans ?_ State.oweErr_touches rfl
          refine Touches.trans ?_ State.laneEvent_touches rfl
          refine Touches.trans ?_ Touches.put rfl
          refine Touches.trans ?_ State.putL3_touches rfl
          refine Touches.ite ?_ ?_
          · refine Touches.trans ?_ State.laneEvent_touches rfl
            refine Touches.ite ?_ ?_
            · refine Touches.trans ?_ State.putLane_touches rfl
              refine Touches.trans ?_ Touches.inc rfl
              refine Touches.trans ?_ State.putL3_touches rfl
              exact Touches.refl _
            · refine Touches.trans ?_ State.addDue_touches rfl
              refine Touches.trans ?_ State.putLane_touches rfl
              refine Touches.trans ?_ Touches.inc rfl
              refine Touches.trans ?_ State.putL3_touches rfl
              exact Touches.refl _
          · refine Touches.ite ?_ ?_
            · refine Touches.trans ?_ State.putLane_touches rfl
              refine Touches.trans ?_ Touches.inc rfl
              refine Touches.trans ?_ State.putL3_touches rfl
              exact Touches.refl _
            · refine Touches.trans ?_ State.addDue_touches rfl
              refine Touches.trans ?_ State.putLane_touches rfl
              refine Touches.trans ?_ Touches.inc rfl
              refine Touches.trans ?_ State.putL3_touches rfl
              exact Touches.refl _
        · refine Touches.trans ?_ State.laneEvent_touches rfl
          refine Touches.trans ?_ Touches.put rfl
          refine Touches.trans ?_ State.putL3_touches rfl
          refine Touches.ite ?_ ?_
          · refine Touches.trans ?_ State.laneEvent_touches rfl
            refine Touches.ite ?_ ?_
            · refine Touches.trans ?_ State.putLane_touches rfl
              refine Touches.trans ?_ Touches.inc rfl
              refine Touches.trans ?_ State.putL3_touches rfl
              exact Touches.refl _
            · refine Touches.trans ?_ State.addDue_touches rfl
              refine Touches.trans ?_ State.putLane_touches rfl
              refine Touches.trans ?_ Touches.inc rfl
              refine Touches.trans ?_ State.putL3_touches rfl
              exact Touches.refl _
          · refine Touches.ite ?_ ?_
            · refine Touches.trans ?_ State.putLane_touches rfl
              refine Touches.trans ?_ Touches.inc rfl
              refine Touches.trans ?_ State.putL3_touches rfl
              exact Touches.refl _
            · refine Touches.trans ?_ State.addDue_touches rfl
              refine Touches.trans ?_ State.putLane_touches rfl
              refine Touches.trans ?_ Touches.inc rfl
              refine Touches.trans ?_ State.putL3_touches rfl
              exact Touches.refl _
      · refine Touches.ite ?_ ?_
        · refine Touches.trans ?_ State.oweErr_touches rfl
          refine Touches.trans ?_ State.laneEvent_touches rfl
          refine Touches.trans ?_ Touches.put rfl
          refine Touches.trans ?_ State.putL3_touches rfl
          refine Touches.ite ?_ ?_
          · refine Touches.trans ?_ State.laneEvent_touches rfl
            refine Touches.ite ?_ ?_
            · refine Touches.trans ?_ State.putLane_touches rfl
              refine Touches.trans ?_ Touches.inc rfl
              refine Touches.trans ?_ State.putL3_touches rfl
              exact Touches.refl _
            · refine Touches.trans ?_ State.addDue_touches rfl
              refine Touches.trans ?_ State.putLane_touches rfl
              refine Touches.trans ?_ Touches.inc rfl
              refine Touches.trans ?_ State.putL3_touches rfl
              exact Touches.refl _
          · refine Touches.ite ?_ ?_
            · refine Touches.trans ?_ State.putLane_touches rfl
              refine Touches.trans ?_ Touches.inc rfl
              refine Touches.trans ?_ State.putL3_touches rfl
              exact Touches.refl _
            · refine Touches.trans ?_ State.addDue_touches rfl
              refine Touches.trans ?_ State.putLane_touches rfl
              refine Touches.trans ?_ Touches.inc rfl
              refine Touches.trans ?_ State.putL3_touches rfl
              exact Touches.refl _
        · refine Touches.trans ?_ State.laneEvent_touches rfl
          refine Touches.trans ?_ Touches.put rfl
          refine Touches.trans ?_ State.putL3_touches rfl
          refine Touches.ite ?_ ?_
          · refine Touches.trans ?_ State.laneEvent_touches rfl
            refine Touches.ite ?_ ?_
            · refine Touches.trans ?_ State.putLane_touches rfl
              refine Touches.trans ?_ Touches.inc rfl
              refine Touches.trans ?_ State.putL3_touches rfl
              exact Touches.refl _
            · refine Touches.trans ?_ State.addDue_touches rfl
              refine Touches.trans ?_ State.putLane_touches rfl
              refine Touches.trans ?_ Touches.inc rfl
              refine Touches.trans ?_ State.putL3_touches rfl
              exact Touches.refl _
          · refine Touches.ite ?_ ?_
            · refine Touches.trans ?_ State.putLane_touches rfl
              refine Touches.trans ?_ Touches.inc rfl
              refine Touches.trans ?_ State.putL3_touches rfl
              exact Touches.refl _
            · refine Touches.trans ?_ State.addDue_touches rfl
              refine Touches.trans ?_ State.putLane_touches rfl
              refine Touches.trans ?_ Touches.inc rfl
              refine Touches.trans ?_ State.putL3_touches rfl
              exact Touches.refl _
    · refine Touches.ite ?_ ?_
      · refine Touches.trans ?_ State.laneEvent_touches rfl
        refine Touches.ite ?_ ?_
        · refine Touches.trans ?_ State.putLane_touches rfl
          refine Touches.trans ?_ Touches.inc rfl
          refine Touches.trans ?_ State.putL3_touches rfl
          exact Touches.refl _
        · refine Touches.trans ?_ State.addDue_touches rfl
          refine Touches.trans ?_ State.putLane_touches rfl
          refine Touches.trans ?_ Touches.inc rfl
          refine Touches.trans ?_ State.putL3_touches rfl
          exact Touches.refl _
      · refine Touches.ite ?_ ?_
        · refine Touches.trans ?_ State.putLane_touches rfl
          refine Touches.trans ?_ Touches.inc rfl
          refine Touches.trans ?_ State.putL3_touches rfl
          exact Touches.refl _
        · refine Touches.trans ?_ State.addDue_touches rfl
          refine Touches.trans ?_ State.putLane_touches rfl
          refine Touches.trans ?_ Touches.inc rfl
          refine Touches.trans ?_ State.putL3_touches rfl
          exact Touches.refl _
  · refine Touches.trans ?_ State.showL3_touches rfl
    refine Touches.ite ?_ ?_
    · refine Touches.ite ?_ ?_
      · refine Touches.trans ?_ State.bumpUnit_touches rfl
        refine Touches.trans ?_ State.laneEvent_touches rfl
        refine Touches.ite ?_ ?_
        · refine Touches.trans ?_ State.oweErr_touches rfl
          refine Touches.trans ?_ State.laneEvent_touches rfl
          refine Touches.trans ?_ Touches.put rfl
          refine Touches.trans ?_ State.putL3_touches rfl
          refine Touches.ite ?_ ?_
          · refine Touches.trans ?_ State.laneEvent_touches rfl
            refine Touches.ite ?_ ?_
            · refine Touches.trans ?_ State.putLane_touches rfl
              refine Touches.trans ?_ Touches.inc rfl
              refine Touches.trans ?_ State.putL3_touches rfl
              exact Touches.refl _
            · refine Touches.trans ?_ State.addDue_touches rfl
              refine Touches.trans ?_ State.putLane_touches rfl
              refine Touches.trans ?_ Touches.inc rfl
              refine Touches.trans ?_ State.putL3_touches rfl
              exact Touches.refl _
          · refine Touches.ite ?_ ?_
            · refine Touches.trans ?_ State.putLane_touches rfl
              refine Touches.trans ?_ Touches.inc rfl
              refine Touches.trans ?_ State.putL3_touches rfl
              exact Touches.refl _
            · refine Touches.trans ?_ State.addDue_touches rfl
              refine Touches.trans ?_ State.putLane_touches rfl
              refine Touches.trans ?_ Touches.inc rfl
              refine Touches.trans ?_ State.putL3_touches rfl
              exact Touches.refl _
        · refine Touches.trans ?_ State.laneEvent_touches rfl
          refine Touches.trans ?_ Touches.put rfl
          refine Touches.trans ?_ State.putL3_touches rfl
          refine Touches.ite ?_ ?_
          · refine Touches.trans ?_ State.laneEvent_touches rfl
            refine Touches.ite ?_ ?_
            · refine Touches.trans ?_ State.putLane_touches rfl
              refine Touches.trans ?_ Touches.inc rfl
              refine Touches.trans ?_ State.putL3_touches rfl
              exact Touches.refl _
            · refine Touches.trans ?_ State.addDue_touches rfl
              refine Touches.trans ?_ State.putLane_touches rfl
              refine Touches.trans ?_ Touches.inc rfl
              refine Touches.trans ?_ State.putL3_touches rfl
              exact Touches.refl _
          · refine Touches.ite ?_ ?_
            · refine Touches.trans ?_ State.putLane_touches rfl
              refine Touches.trans ?_ Touches.inc rfl
              refine Touches.trans ?_ State.putL3_touches rfl
              exact Touches.refl _
            · refine Touches.trans ?_ State.addDue_touches rfl
              refine Touches.trans ?_ State.putLane_touches rfl
              refine Touches.trans ?_ Touches.inc rfl
              refine Touches.trans ?_ State.putL3_touches rfl
              exact Touches.refl _
      · refine Touches.ite ?_ ?_
        · refine Touches.trans ?_ State.oweErr_touches rfl
          refine Touches.trans ?_ State.laneEvent_touches rfl
          refine Touches.trans ?_ Touches.put rfl
          refine Touches.trans ?_ State.putL3_touches rfl
          refine Touches.ite ?_ ?_
          · refine Touches.trans ?_ State.laneEvent_touches rfl
            refine Touches.ite ?_ ?_
            · refine Touches.trans ?_ State.putLane_touches rfl
              refine Touches.trans ?_ Touches.inc rfl
              refine Touches.trans ?_ State.putL3_touches rfl
              exact Touches.refl _
            · refine Touches.trans ?_ State.addDue_touches rfl
              refine Touches.trans ?_ State.putLane_touches rfl
              refine Touches.trans ?_ Touches.inc rfl
              refine Touches.trans ?_ State.putL3_touches rfl
              exact Touches.refl _
          · refine Touches.ite ?_ ?_
            · refine Touches.trans ?_ State.putLane_touches rfl
              refine Touches.trans ?_ Touches.inc rfl
              refine Touches.trans ?_ State.putL3_touches rfl
              exact Touches.refl _
            · refine Touches.trans ?_ State.addDue_touches rfl
              refine Touches.trans ?_ State.putLane_touches rfl
              refine Touches.trans ?_ Touches.inc rfl
              refine Touches.trans ?_ State.putL3_touches rfl
              exact Touches.refl _
        · refine Touches.trans ?_ State.laneEvent_touches rfl
          refine Touches.trans ?_ Touches.put rfl
          refine Touches.trans ?_ State.putL3_touches rfl
          refine Touches.ite ?_ ?_
          · refine Touches.trans ?_ State.laneEvent_touches rfl
            refine Touches.ite ?_ ?_
            · refine Touches.trans ?_ State.putLane_touches rfl
              refine Touches.trans ?_ Touches.inc rfl
              refine Touches.trans ?_ State.putL3_touches rfl
              exact Touches.refl _
            · refine Touches.trans ?_ State.addDue_touches rfl
              refine Touches.trans ?_ State.putLane_touches rfl
              refine Touches.trans ?_ Touches.inc rfl
              refine Touches.trans ?_ State.putL3_touches rfl
              exact Touches.refl _
          · refine Touches.ite ?_ ?_
            · refine Touches.trans ?_ State.putLane_touches rfl
              refine Touches.trans ?_ Touches.inc rfl
              refine Touches.trans ?_ State.putL3_touches rfl
              exact Touches.refl _
            · refine Touches.trans ?_ State.addDue_touches rfl
              refine Touches.trans ?_ State.putLane_touches rfl
              refine Touches.trans ?_ Touches.inc rfl
              refine Touches.trans ?_ State.putL3_touches rfl
              exact Touches.refl _
    · refine Touches.ite ?_ ?_
      · refine Touches.trans ?_ State.laneEvent_touches rfl
        refine Touches.ite ?_ ?_
        · refine Touches.trans ?_ State.putLane_touches rfl
          refine Touches.trans ?_ Touches.inc rfl
          refine Touches.trans ?_ State.putL3_touches rfl
          exact Touches.refl _
        · refine Touches.trans ?_ State.addDue_touches rfl
          refine Touches.trans ?_ State.putLane_touches rfl
          refine Touches.trans ?_ Touches.inc rfl
          refine Touches.trans ?_ State.putL3_touches rfl
          exact Touches.refl _
      · refine Touches.ite ?_ ?_
        · refine Touches.trans ?_ State.putLane_touches rfl
          refine Touches.trans ?_ Touches.inc rfl
          refine Touches.trans ?_ State.putL3_touches rfl
          exact Touches.refl _
        · refine Touches.trans ?_ State.addDue_touches rfl
          refine Touches.trans ?_ State.putLane_touches rfl
          refine Touches.trans ?_ Touches.inc rfl
          refine Touches.trans ?_ State.putL3_touches rfl
          exact Touches.refl _

theorem State.l3Good_touches {a0 : _} {a1 : _} {a2 : _} {a3 : _} {a4 : _} : Touches { regs := true, ev := true, rt := true, lanes := true } a0 (@State.l3Good a0 a1 a2 a3 a4) := by
  unfold State.l3Good
  dsimp only
  refine Touches.trans ?_ State.showL3_touches rfl
  refine Touches.ite ?_ ?_
  · refine Touches.ite ?_ ?_
    · refine Touches.trans ?_ State.putLane_touches rfl
      refine Touches.trans ?_ Touches.put rfl
      refine Touches.ite ?_ ?_
      · refine Touches.trans ?_ State.oweErr_touches rfl
        refine Touches.trans ?_ State.laneEvent_touches rfl
        refine Touches.trans ?_ State.putL3_touches rfl
        refine Touches.ite ?_ ?_
        · refine Touches.ite ?_ ?_
          · refine Touches.trans ?_ State.laneEvent_touches rfl
            refine Touches.ite ?_ ?_
            · refine Touches.trans ?_ Touches.put rfl
              refine Touches.trans ?_ Touches.put rfl
              refine Touches.trans ?_ Touches.put rfl
              refine Touches.trans ?_ State.putLane_touches rfl
              refine Touches.trans ?_ State.putHolder_touches rfl
              refine Touches.trans ?_ State.putL3_touches rfl
              exact Touches.refl _
            · refine Touches.trans ?_ Touches.put rfl
              refine Touches.trans ?_ Touches.put rfl
              refine Touches.trans ?_ State.putLane_touches rfl
              refine Touches.trans ?_ State.putHolder_touches rfl
              refine Touches.trans ?_ State.putL3_touches rfl
              exact Touches.refl _
          · refine Touches.ite ?_ ?_
            · refine Touches.trans ?_ Touches.put rfl
              refine Touches.trans ?_ Touches.put rfl
              refine Touches.trans ?_ Touches.put rfl
              refine Touches.trans ?_ State.putLane_touches rfl
              refine Touches.trans ?_ State.putHolder_touches rfl
              refine Touches.trans ?_ State.putL3_touches rfl
              exact Touches.refl _
            · refine Touches.trans ?_ Touches.put rfl
              refine Touches.trans ?_ Touches.put rfl
              refine Touches.trans ?_ State.putLane_touches rfl
              refine Touches.trans ?_ State.putHolder_touches rfl
              refine Touches.trans ?_ State.putL3_touches rfl
              exact Touches.refl _
        · refine Touches.trans ?_ State.addDue_touches rfl
          refine Touches.ite ?_ ?_
          · refine Touches.trans ?_ State.laneEvent_touches rfl
            refine Touches.ite ?_ ?_
            · refine Touches.trans ?_ Touches.put rfl
              refine Touches.trans ?_ Touches.put rfl
              refine Touches.trans ?_ Touches.put rfl
              refine Touches.trans ?_ State.putLane_touches rfl
              refine Touches.trans ?_ State.putHolder_touches rfl
              refine Touches.trans ?_ State.putL3_touches rfl
              exact Touches.refl _
            · refine Touches.trans ?_ Touches.put rfl
              refine Touches.trans ?_ Touches.put rfl
              refine Touches.trans ?_ State.putLane_touches rfl
              refine Touches.trans ?_ State.putHolder_touches rfl
              refine Touches.trans ?_ State.putL3_touches rfl
              exact Touches.refl _
          · refine Touches.ite ?_ ?_
            · refine Touches.trans ?_ Touches.put rfl
              refine Touches.trans ?_ Touches.put rfl
              refine Touches.trans ?_ Touches.put rfl
              refine Touches.trans ?_ State.putLane_touches rfl
              refine Touches.trans ?_ State.putHolder_touches rfl
              refine Touches.trans ?_ State.putL3_touches rfl
              exact Touches.refl _
            · refine Touches.trans ?_ Touches.put rfl
              refine Touches.trans ?_ Touches.put rfl
              refine Touches.trans ?_ State.putLane_touches rfl
              refine Touches.trans ?_ State.putHolder_touches rfl
              refine Touches.trans ?_ State.putL3_touches rfl
              exact Touches.refl _
      · refine Touches.trans ?_ State.putL3_touches rfl
        refine Touches.ite ?_ ?_
        · refine Touches.ite ?_ ?_
          · refine Touches.trans ?_ State.laneEvent_touches rfl
            refine Touches.ite ?_ ?_
            · refine Touches.trans ?_ Touches.put rfl
              refine Touches.trans ?_ Touches.put rfl
              refine Touches.trans ?_ Touches.put rfl
              refine Touches.trans ?_ State.putLane_touches rfl
              refine Touches.trans ?_ State.putHolder_touches rfl
              refine Touches.trans ?_ State.putL3_touches rfl
              exact Touches.refl _
            · refine Touches.trans ?_ Touches.put rfl
              refine Touches.trans ?_ Touches.put rfl
              refine Touches.trans ?_ State.putLane_touches rfl
              refine Touches.trans ?_ State.putHolder_touches rfl
              refine Touches.trans ?_ State.putL3_touches rfl
              exact Touches.refl _
          · refine Touches.ite ?_ ?_
            · refine Touches.trans ?_ Touches.put rfl
              refine Touches.trans ?_ Touches.put rfl
              refine Touches.trans ?_ Touches.put rfl
              refine Touches.trans ?_ State.putLane_touches rfl
              refine Touches.trans ?_ State.putHolder_touches rfl
              refine Touches.trans ?_ State.putL3_touches rfl
              exact Touches.refl _
            · refine Touches.trans ?_ Touches.put rfl
              refine Touches.trans ?_ Touches.put rfl
              refine Touches.trans ?_ State.putLane_touches rfl
              refine Touches.trans ?_ State.putHolder_touches rfl
              refine Touches.trans ?_ State.putL3_touches rfl
              exact Touches.refl _
        · refine Touches.trans ?_ State.addDue_touches rfl
          refine Touches.ite ?_ ?_
          · refine Touches.trans ?_ State.laneEvent_touches rfl
            refine Touches.ite ?_ ?_
            · refine Touches.trans ?_ Touches.put rfl
              refine Touches.trans ?_ Touches.put rfl
              refine Touches.trans ?_ Touches.put rfl
              refine Touches.trans ?_ State.putLane_touches rfl
              refine Touches.trans ?_ State.putHolder_touches rfl
              refine Touches.trans ?_ State.putL3_touches rfl
              exact Touches.refl _
            · refine Touches.trans ?_ Touches.put rfl
              refine Touches.trans ?_ Touches.put rfl
              refine Touches.trans ?_ State.putLane_touches rfl
              refine Touches.trans ?_ State.putHolder_touches rfl
              refine Touches.trans ?_ State.putL3_touches rfl
              exact Touches.refl _
          · refine Touches.ite ?_ ?_
            · refine Touches.trans ?_ Touches.put rfl
              refine Touches.trans ?_ Touches.put rfl
              refine Touches.trans ?_ Touches.put rfl
              refine Touches.trans ?_ State.putLane_touches rfl
              refine Touches.trans ?_ State.putHolder_touches rfl
              refine Touches.trans ?_ State.putL3_touches rfl
              exact Touches.refl _
            · refine Touches.trans ?_ Touches.put rfl
              refine Touches.trans ?_ Touches.put rfl
              refine Touches.trans ?_ State.putLane_touches rfl
              refine Touches.trans ?_ State.putHolder_touches rfl
              refine Touches.trans ?_ State.putL3_touches rfl
              exact Touches.refl _
    · refine Touches.ite ?_ ?_
      · refine Touches.trans ?_ State.oweErr_touches rfl
        refine Touches.trans ?_ State.laneEvent_touches rfl
        refine Touches.trans ?_ State.putL3_touches rfl
        refine Touches.ite ?_ ?_
        · refine Touches.ite ?_ ?_
          · refine Touches.trans ?_ State.laneEvent_touches rfl
            refine Touches.ite ?_ ?_
            · refine Touches.trans ?_ Touches.put rfl
              refine Touches.trans ?_ Touches.put rfl
              refine Touches.trans ?_ Touches.put rfl
              refine Touches.trans ?_ State.putLane_touches rfl
              refine Touches.trans ?_ State.putHolder_touches rfl
              refine Touches.trans ?_ State.putL3_touches rfl
              exact Touches.refl _
            · refine Touches.trans ?_ Touches.put rfl
              refine Touches.trans ?_ Touches.put rfl
              refine Touches.trans ?_ State.putLane_touches rfl
              refine Touches.trans ?_ State.putHolder_touches rfl
              refine Touches.trans ?_ State.putL3_touches rfl
              exact Touches.refl _
          · refine Touches.ite ?_ ?_
            · refine Touches.trans ?_ Touches.put rfl
              refine Touches.trans ?_ Touches.put rfl
              refine Touches.trans ?_ Touches.put rfl
              refine Touches.trans ?_ State.putLane_touches rfl
              refine Touches.trans ?_ State.putHolder_touches rfl
              refine Touches.trans ?_ State.putL3_touches rfl
              exact Touches.refl _
            · refine Touches.trans ?_ Touches.put rfl
              refine Touches.trans ?_ Touches.put rfl
              refine Touches.trans ?_ State.putLane_touches rfl
              refine Touches.trans ?_ State.putHolder_touches rfl
              refine Touches.trans ?_ State.putL3_touches rfl
              exact Touches.refl _
        · refine Touches.trans ?_ State.addDue_touches rfl
          refine Touches.ite ?_ ?_
          · refine Touches.trans ?_ State.laneEvent_touches rfl
            refine Touches.ite ?_ ?_
            · refine Touches.trans ?_ Touches.put rfl
              refine Touches.trans ?_ Touches.put rfl
              refine Touches.trans ?_ Touches.put rfl
              refine Touches.trans ?_ State.putLane_touches rfl
              refine Touches.trans ?_ State.putHolder_touches rfl
              refine Touches.trans ?_ State.putL3_touches rfl
              exact Touches.refl _
            · refine Touches.trans ?_ Touches.put rfl
              refine Touches.trans ?_ Touches.put rfl
              refine Touches.trans ?_ State.putLane_touches rfl
              refine Touches.trans ?_ State.putHolder_touches rfl
              refine Touches.trans ?_ State.putL3_touches rfl
              exact Touches.refl _
          · refine Touches.ite ?_ ?_
            · refine Touches.trans ?_ Touches.put rfl
              refine Touches.trans ?_ Touches.put rfl
              refine Touches.trans ?_ Touches.put rfl
              refine Touches.trans ?_ State.putLane_touches rfl
              refine Touches.trans ?_ State.putHolder_touches rfl
              refine Touches.trans ?_ State.putL3_touches rfl
              exact Touches.refl _
            · refine Touches.trans ?_ Touches.put rfl
              refine Touches.trans ?_ Touches.put rfl
              refine Touches.trans ?_ State.putLane_touches rfl
              refine Touches.trans ?_ State.putHolder_touches rfl
              refine Touches.trans ?_ State.putL3_touches rfl
              exact Touches.refl _
      · refine Touches.trans ?_ State.putL3_touches rfl
        refine Touches.ite ?_ ?_
        · refine Touches.ite ?_ ?_
          · refine Touches.trans ?_ State.laneEvent_touches rfl
            refine Touches.ite ?_ ?_
            · refine Touches.trans ?_ Touches.put rfl
              refine Touches.trans ?_ Touches.put rfl
              refine Touches.trans ?_ Touches.put rfl
              refine Touches.trans ?_ State.putLane_touches rfl
              refine Touches.trans ?_ State.putHolder_touches rfl
              refine Touches.trans ?_ State.putL3_touches rfl
              exact Touches.refl _
            · refine Touches.trans ?_ Touches.put rfl
              refine Touches.trans ?_ Touches.put rfl
              refine Touches.trans ?_ State.putLane_touches rfl
              refine Touches.trans ?_ State.putHolder_touches rfl
              refine Touches.trans ?_ State.putL3_touches rfl
              exact Touches.refl _
          · refine Touches.ite ?_ ?_
            · refine Touches.trans ?_ Touches.put rfl
              refine Touches.trans ?_ Touches.put rfl
              refine Touches.trans ?_ Touches.put rfl
              refine Touches.trans ?_ State.putLane_touches rfl
              refine Touches.trans ?_ State.putHolder_touches rfl
              refine Touches.trans ?_ State.putL3_touches rfl
              exact Touches.refl _
            · refine Touches.trans ?_ Touches.put rfl
              refine Touches.trans ?_ Touches.put rfl
              refine Touches.trans ?_ State.putLane_touches rfl
              refine Touches.trans ?_ State.putHolder_touches rfl
              refine Touches.trans ?_ State.putL3_touches rfl
              exact Touches.refl _
        · refine Touches.trans ?_ State.addDue_touches rfl
          refine Touches.ite ?_ ?_
          · refine Touches.trans ?_ State.laneEvent_touches rfl
            refine Touches.ite ?_ ?_
            · refine Touches.trans ?_ Touches.put rfl
              refine Touches.trans ?_ Touches.put rfl
              refine Touches.trans ?_ Touches.put rfl
              refine Touches.trans ?_ State.putLane_touches rfl
              refine Touches.trans ?_ State.putHolder_touches rfl
              refine Touches.trans ?_ State.putL3_touches rfl
              exact Touches.refl _
            · refine Touches.trans ?_ Touches.put rfl
              refine Touches.trans ?_ Touches.put rfl
              refine Touches.trans ?_ State.putLane_touches rfl
              refine Touches.trans ?_ State.putHolder_touches rfl
              refine Touches.trans ?_ State.putL3_touches rfl
              exact Touches.refl _
          · refine Touches.ite ?_ ?_
            · refine Touches.trans ?_ Touches.put rfl
              refine Touches.trans ?_ Touches.put rfl
              refine Touches.trans ?_ Touches.put rfl
              refine Touches.trans ?_ State.putLane_touches rfl
              refine Touches.trans ?_ State.putHolder_touches rfl
              refine Touches.trans ?_ State.putL3_touches rfl
              exact Touches.refl _
            · refine Touches.trans ?_ Touches.put rfl
              refine Touches.trans ?_ Touches.put rfl
              refine Touches.trans ?_ State.putLane_touches rfl
              refine Touches.trans ?_ State.putHolder_touches rfl
              refine Touches.trans ?_ State.putL3_touches rfl
              exact Touches.refl _
  · refine Touches.ite ?_ ?_
    · refine Touches.ite ?_ ?_
      · refine Touches.trans ?_ State.laneEvent_touches rfl
        refine Touches.ite ?_ ?_
        · refine Touches.trans ?_ Touches.put rfl
          refine Touches.trans ?_ Touches.put rfl
          refine Touches.trans ?_ Touches.put rfl
          refine Touches.trans ?_ State.putLane_touches rfl
          refine Touches.trans ?_ State.putHolder_touches rfl
          refine Touches.trans ?_ State.putL3_touches rfl
          exact Touches.refl _
        · refine Touches.trans ?_ Touches.put rfl
          refine Touches.trans ?_ Touches.put rfl
          refine Touches.trans ?_ State.putLane_touches rfl
          refine Touches.trans ?_ State.putHolder_touches rfl
          refine Touches.trans ?_ State.putL3_touches rfl
          exact Touches.refl _
      · refine Touches.ite ?_ ?_
        · refine Touches.trans ?_ Touches.put rfl
          refine Touches.trans ?_ Touches.put rfl
          refine Touches.trans ?_ Touches.put rfl
          refine Touches.trans ?_ State.putLane_touches rfl
          refine Touches.trans ?_ State.putHolder_touches rfl
          refine Touches.trans ?_ State.putL3_touches rfl
          exact Touches.refl _
        · refine Touches.trans ?_ Touches.put rfl
          refine Touches.trans ?_ Touches.put rfl
          refine Touches.trans ?_ State.putLane_touches rfl
          refine Touches.trans ?_ State.putHolder_touches rfl
          refine Touches.trans ?_ State.putL3_touches rfl
          exact Touches.refl _
    · refine Touches.trans ?_ State.addDue_touches rfl
      refine Touches.ite ?_ ?_
      · refine Touches.trans ?_ State.laneEvent_touches rfl
        refine Touches.ite ?_ ?_
        · refine Touches.trans ?_ Touches.put rfl
          refine Touches.trans ?_ Touches.put rfl
          refine Touches.trans ?_ Touches.put rfl
          refine Touches.trans ?_ State.putLane_touches rfl
          refine Touches.trans ?_ State.putHolder_touches rfl
          refine Touches.trans ?_ State.putL3_touches rfl
          exact Touches.refl _
        · refine Touches.trans ?_ Touches.put rfl
          refine Touches.trans ?_ Touches.put rfl
          refine Touches.trans ?_ State.putLane_touches rfl
          refine Touches.trans ?_ State.putHolder_touches rfl
          refine Touches.trans ?_ State.putL3_touches rfl
          exact Touches.refl _
      · refine Touches.ite ?_ ?_
        · refine Touches.trans ?_ Touches.put rfl
          refine Touches.trans ?_ Touches.put rfl
          refine Touches.trans ?_ Touches.put rfl
          refine Touches.trans ?_ State.putLane_touches rfl
          refine Touches.trans ?_ State.putHolder_touches rfl
          refine Touches.trans ?_ State.putL3_touches rfl
          exact Touches.refl _
        · refine Touches.trans ?_ Touches.put rfl
          refine Touches.trans ?_ Touches.put rfl
          refine Touches.trans ?_ State.putLane_touches rfl
          refine Touches.trans ?_ State.putHolder_touches rfl
          refine Touches.trans ?_ State.putL3_touches rfl
          exact Touches.refl _

theorem execL3ResponseReceive_touches {a0 : _} {a1 : _} {a2 : _} {a3 : _} {a4 : _} {a5 : _} {a6 : _} {a7 : _} {a8 : _} {t : State} (h : (@execL3ResponseReceive a0 a1 a2 a3 a4 a5 a6 a7 a8) = .next t) : Touches { regs := true, ev := true, jr := true, units := true, rt := true, lanes := true } a6 t := by
  unfold execL3ResponseReceive at h
  injection h with h
  subst h
  refine Touches.ite ?_ ?_
  · exact Touches.refl _
  · refine Touches.ite ?_ ?_
    · refine Touches.trans ?_ State.l3Good_touches rfl
      exact Touches.refl _
    · refine Touches.trans ?_ State.l3Stale_touches rfl
      exact Touches.refl _

theorem execL3ResponseTimeout_touches {a0 : _} {a1 : _} {a2 : _} {a3 : _} {t : State} (h : (@execL3ResponseTimeout a0 a1 a2 a3) = .next t) : Touches { regs := true, ev := true, jr := true, units := true, rt := true, lanes := true } a3 t := by
  unfold execL3ResponseTimeout at h
  injection h with h
  subst h
  refine Touches.ite ?_ ?_
  · exact Touches.refl _
  · refine Touches.trans ?_ State.l3Stale_touches rfl
    exact Touches.refl _

theorem State.wslFrame_touches {a0 : _} {a1 : _} {a2 : _} {a3 : _} {a4 : _} : Touches { regs := true, lanes := true } a0 (@State.wslFrame a0 a1 a2 a3 a4) := by
  unfold State.wslFrame
  dsimp only
  refine Touches.ite ?_ ?_
  · exact Touches.refl _
  · refine Touches.ite ?_ ?_
    · refine Touches.trans ?_ State.putWsl_touches rfl
      exact Touches.refl _
    · refine Touches.ite ?_ ?_
      · exact Touches.refl _
      · refine Touches.ite ?_ ?_
        · refine Touches.trans ?_ State.putWsl_touches rfl
          exact Touches.refl _
        · refine Touches.ite ?_ ?_
          · exact Touches.refl _
          · refine Touches.ite ?_ ?_
            · exact Touches.refl _
            · refine Touches.ite ?_ ?_
              · refine Touches.trans ?_ Touches.inc rfl
                exact Touches.refl _
              · refine Touches.ite ?_ ?_
                · refine Touches.trans ?_ State.putWsl_touches rfl
                  exact Touches.refl _
                · refine Touches.trans ?_ State.putWsl_touches rfl
                  exact Touches.refl _

theorem execWslFrameReceive_touches {a0 : _} {a1 : _} {a2 : _} {a3 : _} {a4 : _} {t : State} (h : (@execWslFrameReceive a0 a1 a2 a3 a4) = .next t) : Touches { regs := true, lanes := true } a3 t := by
  unfold execWslFrameReceive at h
  injection h with h
  subst h
  refine Touches.trans ?_ State.wslFrame_touches rfl
  exact Touches.refl _

theorem State.wslGood_touches {a0 : _} {a1 : _} : Touches { regs := true, ev := true, rt := true, lanes := true } a0 (@State.wslGood a0 a1) := by
  unfold State.wslGood
  dsimp only
  refine Touches.ite ?_ ?_
  · refine Touches.trans ?_ State.oweErr_touches rfl
    refine Touches.trans ?_ State.raiseWsl_touches rfl
    refine Touches.trans ?_ Touches.put rfl
    refine Touches.trans ?_ State.putWsl_touches rfl
    refine Touches.trans ?_ State.addDue_touches rfl
    refine Touches.trans ?_ State.putWsl_touches rfl
    exact Touches.refl _
  · refine Touches.ite ?_ ?_
    · refine Touches.trans ?_ State.addDue_touches rfl
      refine Touches.trans ?_ State.putWsl_touches rfl
      exact Touches.refl _
    · refine Touches.trans ?_ Touches.put rfl
      refine Touches.trans ?_ State.putWsl_touches rfl
      refine Touches.trans ?_ State.addDue_touches rfl
      refine Touches.trans ?_ State.putWsl_touches rfl
      exact Touches.refl _

theorem State.wslStale_touches {a0 : _} {a1 : _} {a2 : _} : Touches { regs := true, ev := true, rt := true, lanes := true } a0 (@State.wslStale a0 a1 a2) := by
  unfold State.wslStale
  dsimp only
  refine Touches.ite ?_ ?_
  · refine Touches.trans ?_ State.addDue_touches rfl
    refine Touches.trans ?_ State.putWsl_touches rfl
    exact Touches.refl _
  · refine Touches.ite ?_ ?_
    · refine Touches.trans ?_ State.oweErr_touches rfl
      refine Touches.trans ?_ State.raiseWsl_touches rfl
      refine Touches.trans ?_ Touches.put rfl
      refine Touches.trans ?_ State.putWsl_touches rfl
      refine Touches.trans ?_ Touches.put rfl
      refine Touches.ite ?_ ?_
      · refine Touches.trans ?_ State.raiseWsl_touches rfl
        refine Touches.trans ?_ State.addDue_touches rfl
        refine Touches.trans ?_ State.putWsl_touches rfl
        exact Touches.refl _
      · refine Touches.trans ?_ State.addDue_touches rfl
        refine Touches.trans ?_ State.putWsl_touches rfl
        exact Touches.refl _
    · refine Touches.trans ?_ Touches.put rfl
      refine Touches.ite ?_ ?_
      · refine Touches.trans ?_ State.raiseWsl_touches rfl
        refine Touches.trans ?_ State.addDue_touches rfl
        refine Touches.trans ?_ State.putWsl_touches rfl
        exact Touches.refl _
      · refine Touches.trans ?_ State.addDue_touches rfl
        refine Touches.trans ?_ State.putWsl_touches rfl
        exact Touches.refl _

theorem State.wslDeadline_touches {a0 : _} {a1 : _} : Touches { regs := true, ev := true, rt := true, lanes := true } a0 (@State.wslDeadline a0 a1) := by
  unfold State.wslDeadline
  dsimp only
  refine Touches.ite ?_ ?_
  · exact Touches.refl _
  · refine Touches.ite ?_ ?_
    · exact Touches.refl _
    · refine Touches.ite ?_ ?_
      · refine Touches.trans ?_ State.wslGood_touches rfl
        exact Touches.refl _
      · refine Touches.trans ?_ State.wslStale_touches rfl
        exact Touches.refl _

theorem execWslExchangeDeadline_touches {a0 : _} {a1 : _} {t : State} (h : (@execWslExchangeDeadline a0 a1) = .next t) : Touches { regs := true, ev := true, rt := true, lanes := true } a1 t := by
  unfold execWslExchangeDeadline at h
  injection h with h
  subst h
  refine Touches.trans ?_ State.wslDeadline_touches rfl
  exact Touches.refl _

theorem execWslGateOpen_touches {a0 : _} {a1 : _} {t : State} (h : (@execWslGateOpen a0 a1) = .next t) : Touches { lanes := true } a1 t := by
  unfold execWslGateOpen at h
  injection h with h
  subst h
  refine Touches.ite ?_ ?_
  · refine Touches.mkUpd ?_ (by simp only [State.without, cond_true, cond_false])
    exact Touches.refl _
  · exact Touches.refl _

theorem execWslGateClose_touches {a0 : _} {a1 : _} {a2 : _} {t : State} (h : (@execWslGateClose a0 a1 a2) = .next t) : Touches { regs := true, lanes := true } a2 t := by
  unfold execWslGateClose at h
  injection h with h
  subst h
  refine Touches.ite ?_ ?_
  · exact Touches.refl _
  · dsimp only
    split
    · rename_i v0 v1 v2
      refine Touches.trans ?_ Touches.add rfl
      refine Touches.mkUpd ?_ (by simp only [State.without, cond_true, cond_false])
      exact Touches.refl _
    · rename_i v3 v4
      refine Touches.mkUpd ?_ (by simp only [State.without, cond_true, cond_false])
      exact Touches.refl _

theorem State.emitLanes_touches {a0 : _} : Touches { lanes := true } a0 (@State.emitLanes a0) := by
  unfold State.emitLanes
  refine Touches.ite ?_ ?_
  · refine Touches.mkUpd ?_ (by simp only [State.without, cond_true, cond_false])
    exact Touches.refl _
  · dsimp only
    refine Touches.mkUpd ?_ (by simp only [State.without, cond_true, cond_false])
    exact Touches.refl _

theorem State.emitForwarded_touches {a0 : _} {a1 : _} : Touches { lanes := true } a0 (@State.emitForwarded a0 a1) := by
  unfold State.emitForwarded
  dsimp only
  refine Touches.mkUpd ?_ (by simp only [State.without, cond_true, cond_false])
  exact Touches.refl _

theorem State.emitWsl_touches {a0 : _} : Touches { lanes := true } a0 (@State.emitWsl a0) := by
  unfold State.emitWsl
  dsimp only
  refine Touches.ite ?_ ?_
  · refine Touches.mkUpd ?_ (by simp only [State.without, cond_true, cond_false])
    exact Touches.refl _
  · refine Touches.foldl ?_ (fun v0 v1 => ?_)
    · refine Touches.mkUpd ?_ (by simp only [State.without, cond_true, cond_false])
      exact Touches.refl _
    · refine Touches.ite ?_ ?_
      · refine Touches.mkUpd ?_ (by simp only [State.without, cond_true, cond_false])
        refine Touches.trans ?_ State.putWsl_touches rfl
        exact Touches.refl _
      · exact Touches.refl _

/-! Field. -/

theorem State.putCap_touches {a0 : _} {a1 : _} : Touches { field := true } a0 (@State.putCap a0 a1) := by
  unfold State.putCap
  refine Touches.mkUpd ?_ (by simp only [State.without, cond_true, cond_false])
  exact Touches.refl _

theorem State.wireEnds_touches {a0 : _} {a1 : _} : Touches { regs := true, ev := true } a0 (@State.wireEnds a0 a1) := by
  unfold State.wireEnds
  dsimp only
  refine Touches.ite ?_ ?_
  · refine Touches.trans ?_ State.raise_touches rfl
    refine Touches.trans ?_ Touches.put rfl
    refine Touches.ite ?_ ?_
    · refine Touches.trans ?_ State.raise_touches rfl
      refine Touches.trans ?_ Touches.put rfl
      exact Touches.refl _
    · exact Touches.refl _
  · refine Touches.ite ?_ ?_
    · refine Touches.trans ?_ State.raise_touches rfl
      refine Touches.trans ?_ Touches.put rfl
      exact Touches.refl _
    · exact Touches.refl _

theorem State.dioDrive_touches {a0 : _} {a1 : _} {a2 : _} : Touches { regs := true, ev := true, field := true } a0 (@State.dioDrive a0 a1 a2) := by
  unfold State.dioDrive
  dsimp only
  refine Touches.trans ?_ State.putDio_touches rfl
  refine Touches.ite ?_ ?_
  · refine Touches.trans ?_ State.wireEnds_touches rfl
    exact Touches.refl _
  · exact Touches.refl _

theorem State.aoDrive_touches {a0 : _} {a1 : _} {a2 : _} {a3 : _} : Touches { regs := true, field := true } a0 (@State.aoDrive a0 a1 a2 a3) := by
  unfold State.aoDrive
  dsimp only
  refine Touches.ite ?_ ?_
  · refine Touches.trans ?_ Touches.put rfl
    refine Touches.trans ?_ State.putAo_touches rfl
    exact Touches.refl _
  · refine Touches.trans ?_ Touches.putFlag rfl
    refine Touches.trans ?_ State.putAo_touches rfl
    refine Touches.ite ?_ ?_
    · refine Touches.trans ?_ Touches.put rfl
      exact Touches.refl _
    · exact Touches.refl _

theorem State.aoSafeState_touches {a0 : _} {a1 : _} : Touches { regs := true, field := true } a0 (@State.aoSafeState a0 a1) := by
  unfold State.aoSafeState
  split
  · rename_i v0 v1
    refine Touches.trans ?_ State.aoDrive_touches rfl
    exact Touches.refl _
  · rename_i v2 v3
    refine Touches.trans ?_ State.aoDrive_touches rfl
    exact Touches.refl _
  · rename_i v4 v5 v6
    refine Touches.trans ?_ State.aoDrive_touches rfl
    exact Touches.refl _

theorem State.fieldSafe_touches {a0 : _} : Touches { regs := true, ev := true, field := true } a0 (@State.fieldSafe a0) := by
  unfold State.fieldSafe
  dsimp only
  refine Touches.foldl ?_ (fun v0 v1 => ?_)
  · refine Touches.foldl ?_ (fun v2 v3 => ?_)
    · exact Touches.refl _
    · refine Touches.trans ?_ State.dioDrive_touches rfl
      exact Touches.refl _
  · refine Touches.trans ?_ State.aoSafeState_touches rfl
    exact Touches.refl _

theorem State.fieldApply_touches {a0 : _} {a1 : _} : Touches { regs := true, ev := true, field := true } a0 (@State.fieldApply a0 a1) := by
  unfold State.fieldApply
  dsimp only
  refine Touches.foldl ?_ (fun v0 v1 => ?_)
  · refine Touches.foldl ?_ (fun v2 v3 => ?_)
    · exact Touches.refl _
    · split
      · rename_i v4 v5 v6
        split
        · rename_i v7 v8 v9
          refine Touches.trans ?_ State.dioDrive_touches rfl
          refine Touches.trans ?_ State.putDio_touches rfl
          exact Touches.refl _
        · rename_i v10 v11
          refine Touches.trans ?_ State.dioDrive_touches rfl
          exact Touches.refl _
      · rename_i v12 v13
        refine Touches.trans ?_ State.dioDrive_touches rfl
        exact Touches.refl _
  · split
    · rename_i v14 v15 v16
      split
      · rename_i v17 v18 v19
        refine Touches.trans ?_ State.aoDrive_touches rfl
        exact Touches.refl _
      · rename_i v20 v21
        refine Touches.trans ?_ State.aoSafeState_touches rfl
        exact Touches.refl _
    · rename_i v22 v23
      refine Touches.trans ?_ State.aoDrive_touches rfl
      exact Touches.refl _

theorem State.armLatches_touches {a0 : _} {a1 : _} : Touches { field := true } a0 (@State.armLatches a0 a1) := by
  unfold State.armLatches
  refine Touches.mkUpd ?_ (by simp only [State.without, cond_true, cond_false])
  exact Touches.refl _

theorem State.fieldSilent_touches {a0 : _} : Touches { regs := true, ev := true, field := true } a0 (@State.fieldSilent a0) := by
  unfold State.fieldSilent
  refine Touches.ite ?_ ?_
  · exact Touches.refl _
  · dsimp only
    refine Touches.trans ?_ State.fieldSafe_touches rfl
    refine Touches.trans ?_ State.raise_touches rfl
    refine Touches.trans ?_ Touches.inc rfl
    refine Touches.trans ?_ Touches.put rfl
    refine Touches.mkUpd ?_ (by simp only [State.without, cond_true, cond_false])
    exact Touches.refl _

theorem State.dioSample_touches {a0 : _} {a1 : _} {a2 : _} : Touches { regs := true, field := true } a0 (@State.dioSample a0 a1 a2) := by
  unfold State.dioSample
  dsimp only
  refine Touches.ite ?_ ?_
  · refine Touches.trans ?_ Touches.putFlag rfl
    exact Touches.refl _
  · refine Touches.ite ?_ ?_
    · refine Touches.trans ?_ State.putDio_touches rfl
      exact Touches.refl _
    · refine Touches.ite ?_ ?_
      · refine Touches.trans ?_ Touches.putFlag rfl
        refine Touches.trans ?_ State.putDio_touches rfl
        exact Touches.refl _
      · refine Touches.trans ?_ State.putDio_touches rfl
        exact Touches.refl _

theorem State.aoSample_touches {a0 : _} {a1 : _} {a2 : _} {a3 : _} : Touches { regs := true, field := true } a0 (@State.aoSample a0 a1 a2 a3) := by
  unfold State.aoSample
  dsimp only
  refine Touches.ite ?_ ?_
  · refine Touches.trans ?_ Touches.put rfl
    refine Touches.ite ?_ ?_
    · refine Touches.trans ?_ Touches.put rfl
      refine Touches.trans ?_ State.putAo_touches rfl
      refine Touches.trans ?_ Touches.put rfl
      refine Touches.trans ?_ Touches.put rfl
      exact Touches.refl _
    · refine Touches.trans ?_ State.putAo_touches rfl
      refine Touches.trans ?_ Touches.put rfl
      refine Touches.trans ?_ Touches.put rfl
      exact Touches.refl _
  · refine Touches.ite ?_ ?_
    · refine Touches.trans ?_ Touches.put rfl
      refine Touches.trans ?_ State.putAo_touches rfl
      refine Touches.trans ?_ Touches.put rfl
      refine Touches.trans ?_ Touches.put rfl
      exact Touches.refl _
    · refine Touches.trans ?_ State.putAo_touches rfl
      refine Touches.trans ?_ Touches.put rfl
      refine Touches.trans ?_ Touches.put rfl
      exact Touches.refl _

theorem State.encPresets_touches {a0 : _} : Touches { regs := true, field := true } a0 (@State.encPresets a0) := by
  unfold State.encPresets
  dsimp only
  refine Touches.mkUpd ?_ (by simp only [State.without, cond_true, cond_false])
  refine Touches.foldl ?_ (fun v0 v1 => ?_)
  · exact Touches.refl _
  · refine Touches.trans ?_ Touches.put rfl
    refine Touches.trans ?_ Touches.put rfl
    refine Touches.trans ?_ Touches.put rfl
    exact Touches.refl _

theorem State.capsToImage_touches {a0 : _} : Touches { regs := true, ev := true, field := true } a0 (@State.capsToImage a0) := by
  unfold State.capsToImage
  refine Touches.foldl ?_ (fun v0 v1 => ?_)
  · exact Touches.refl _
  · dsimp only
    refine Touches.ite ?_ ?_
    · refine Touches.trans ?_ State.putCap_touches rfl
      exact Touches.refl _
    · refine Touches.ite ?_ ?_
      · refine Touches.trans ?_ State.raise_touches rfl
        refine Touches.trans ?_ State.putCap_touches rfl
        exact Touches.refl _
      · refine Touches.trans ?_ State.raise_touches rfl
        refine Touches.trans ?_ State.putCap_touches rfl
        exact Touches.refl _

theorem State.fieldEdge_touches {a0 : _} {a1 : _} : Touches { regs := true, ev := true, field := true } a0 (@State.fieldEdge a0 a1) := by
  unfold State.fieldEdge
  dsimp only
  refine Touches.mkUpd ?_ (by simp only [State.without, cond_true, cond_false])
  refine Touches.trans ?_ State.capsToImage_touches rfl
  refine Touches.foldl ?_ (fun v0 v1 => ?_)
  · refine Touches.foldl ?_ (fun v2 v3 => ?_)
    · split
      · rename_i v4 v5 v6
        refine Touches.ite ?_ ?_
        · refine Touches.ite ?_ ?_
          · refine Touches.trans ?_ State.fieldSafe_touches rfl
            refine Touches.mkUpd ?_ (by simp only [State.without, cond_true, cond_false])
            refine Touches.trans ?_ State.encPresets_touches rfl
            exact Touches.refl _
          · refine Touches.trans ?_ State.fieldApply_touches rfl
            refine Touches.mkUpd ?_ (by simp only [State.without, cond_true, cond_false])
            refine Touches.trans ?_ State.encPresets_touches rfl
            exact Touches.refl _
        · refine Touches.trans ?_ State.fieldOff_touches rfl
          refine Touches.mkUpd ?_ (by simp only [State.without, cond_true, cond_false])
          refine Touches.trans ?_ State.encPresets_touches rfl
          exact Touches.refl _
      · rename_i v7 v8
        refine Touches.ite ?_ ?_
        · refine Touches.trans ?_ State.fieldSilent_touches rfl
          refine Touches.trans ?_ State.encPresets_touches rfl
          exact Touches.refl _
        · refine Touches.ite ?_ ?_
          · refine Touches.trans ?_ State.fieldOff_touches rfl
            refine Touches.trans ?_ State.encPresets_touches rfl
            exact Touches.refl _
          · refine Touches.trans ?_ State.encPresets_touches rfl
            exact Touches.refl _
    · refine Touches.trans ?_ State.dioSample_touches rfl
      exact Touches.refl _
  · refine Touches.ite ?_ ?_
    · exact Touches.refl _
    · refine Touches.trans ?_ State.aoSample_touches rfl
      exact Touches.refl _

theorem State.fieldFails_touches {a0 : _} {a1 : _} : Touches { regs := true, beat := true, ev := true, pair := true, field := true } a0 (@State.fieldFails a0 a1) := by
  unfold State.fieldFails
  refine Touches.ite ?_ ?_
  · exact Touches.refl _
  · dsimp only
    refine Touches.ite ?_ ?_
    · refine Touches.trans ?_ State.plan_touches rfl
      refine Touches.foldl ?_ (fun v0 v1 => ?_)
      · refine Touches.trans ?_ State.raise_touches rfl
        refine Touches.mkUpd ?_ (by simp only [State.without, cond_true, cond_false])
        exact Touches.refl _
      · refine Touches.ite ?_ ?_
        · exact Touches.refl _
        · refine Touches.trans ?_ Touches.put rfl
          exact Touches.refl _
    · refine Touches.ite ?_ ?_
      · refine Touches.trans ?_ State.cause_touches rfl
        refine Touches.foldl ?_ (fun v2 v3 => ?_)
        · refine Touches.trans ?_ State.raise_touches rfl
          refine Touches.mkUpd ?_ (by simp only [State.without, cond_true, cond_false])
          exact Touches.refl _
        · refine Touches.ite ?_ ?_
          · exact Touches.refl _
          · refine Touches.trans ?_ Touches.put rfl
            exact Touches.refl _
      · refine Touches.foldl ?_ (fun v4 v5 => ?_)
        · refine Touches.trans ?_ State.raise_touches rfl
          refine Touches.mkUpd ?_ (by simp only [State.without, cond_true, cond_false])
          exact Touches.refl _
        · refine Touches.ite ?_ ?_
          · exact Touches.refl _
          · refine Touches.trans ?_ Touches.put rfl
            exact Touches.refl _

theorem State.converterBad_touches {a0 : _} : Touches { regs := true, beat := true, ev := true, pair := true, field := true } a0 (@State.converterBad a0) := by
  unfold State.converterBad
  dsimp only
  refine Touches.ite ?_ ?_
  · refine Touches.trans ?_ Touches.put rfl
    exact Touches.refl _
  · refine Touches.ite ?_ ?_
    · refine Touches.trans ?_ State.fieldFails_touches rfl
      refine Touches.mkUpd ?_ (by simp only [State.without, cond_true, cond_false])
      refine Touches.trans ?_ Touches.put rfl
      exact Touches.refl _
    · refine Touches.mkUpd ?_ (by simp only [State.without, cond_true, cond_false])
      refine Touches.trans ?_ Touches.put rfl
      exact Touches.refl _

theorem execFieldSamplesCross_touches {a0 : _} {a1 : _} {t : State} (h : (@execFieldSamplesCross a0 a1) = .next t) : Touches { regs := true, beat := true, ev := true, pair := true, field := true } a1 t := by
  unfold execFieldSamplesCross at h
  injection h with h
  subst h
  refine Touches.ite ?_ ?_
  · refine Touches.trans ?_ State.converterBad_touches rfl
    refine Touches.mkUpd ?_ (by simp only [State.without, cond_true, cond_false])
    exact Touches.refl _
  · dsimp only
    refine Touches.mkUpd ?_ (by simp only [State.without, cond_true, cond_false])
    refine Touches.trans ?_ Touches.put rfl
    refine Touches.mkUpd ?_ (by simp only [State.without, cond_true, cond_false])
    exact Touches.refl _

theorem execFieldSamplesLate_touches {a0 : _} {t : State} (h : (@execFieldSamplesLate a0) = .next t) : Touches { regs := true, beat := true, ev := true, pair := true, field := true } a0 t := by
  unfold execFieldSamplesLate at h
  injection h with h
  subst h
  refine Touches.ite ?_ ?_
  · refine Touches.trans ?_ State.fieldFails_touches rfl
    refine Touches.mkUpd ?_ (by simp only [State.without, cond_true, cond_false])
    exact Touches.refl _
  · refine Touches.mkUpd ?_ (by simp only [State.without, cond_true, cond_false])
    exact Touches.refl _

theorem execFieldConverter_touches {a0 : _} {t : State} (h : (@execFieldConverter a0) = .next t) : Touches { regs := true, beat := true, ev := true, pair := true, field := true } a0 t := by
  unfold execFieldConverter at h
  injection h with h
  subst h
  refine Touches.trans ?_ State.converterBad_touches rfl
  refine Touches.trans ?_ State.raise_touches rfl
  exact Touches.refl _

theorem execFieldTimeout_touches {a0 : _} {t : State} (h : (@execFieldTimeout a0) = .next t) : Touches { regs := true, ev := true, field := true } a0 t := by
  unfold execFieldTimeout at h
  injection h with h
  subst h
  refine Touches.ite ?_ ?_
  · refine Touches.trans ?_ State.fieldSilent_touches rfl
    exact Touches.refl _
  · exact Touches.refl _

theorem State.dioWritten_touches {a0 : _} {a1 : _} : Touches { regs := true, ev := true } a0 (@State.dioWritten a0 a1) := by
  unfold State.dioWritten
  dsimp only
  refine Touches.ite ?_ ?_
  · refine Touches.ite ?_ ?_
    · refine Touches.trans ?_ Touches.put rfl
      refine Touches.trans ?_ Touches.putFlag rfl
      refine Touches.ite ?_ ?_
      · refine Touches.trans ?_ Touches.put rfl
        exact Touches.refl _
      · exact Touches.refl _
    · refine Touches.trans ?_ Touches.putFlag rfl
      refine Touches.ite ?_ ?_
      · refine Touches.trans ?_ Touches.put rfl
        exact Touches.refl _
      · exact Touches.refl _
  · refine Touches.trans ?_ State.wireEnds_touches rfl
    refine Touches.ite ?_ ?_
    · refine Touches.trans ?_ Touches.put rfl
      refine Touches.trans ?_ Touches.putFlag rfl
      refine Touches.ite ?_ ?_
      · refine Touches.trans ?_ Touches.put rfl
        exact Touches.refl _
      · exact Touches.refl _
    · refine Touches.trans ?_ Touches.putFlag rfl
      refine Touches.ite ?_ ?_
      · refine Touches.trans ?_ Touches.put rfl
        exact Touches.refl _
      · exact Touches.refl _

theorem State.dioTrip_touches {a0 : _} {a1 : _} {a2 : _} : Touches { regs := true, ev := true, loops := true, field := true } a0 (@State.dioTrip a0 a1 a2) := by
  unfold State.dioTrip
  dsimp only
  refine Touches.trans ?_ State.raise_touches rfl
  refine Touches.trans ?_ State.spoilRate_touches rfl
  refine Touches.trans ?_ Touches.inc rfl
  refine Touches.trans ?_ Touches.put rfl
  refine Touches.trans ?_ Touches.put rfl
  refine Touches.trans ?_ State.putDio_touches rfl
  refine Touches.foldl ?_ (fun v0 v1 => ?_)
  · exact Touches.refl _
  · refine Touches.trans ?_ State.putDio_touches rfl
    exact Touches.refl _

theorem execDioRampAbort_touches {a0 : _} {a1 : _} {t : State} (h : (@execDioRampAbort a0 a1) = .next t) : Touches { regs := true, ev := true, loops := true, field := true } a1 t := by
  unfold execDioRampAbort at h
  injection h with h
  subst h
  refine Touches.ite ?_ ?_
  · refine Touches.trans ?_ State.dioTrip_touches rfl
    exact Touches.refl _
  · exact Touches.refl _

theorem execDioOverloadTrip_touches {a0 : _} {a1 : _} {t : State} (h : (@execDioOverloadTrip a0 a1) = .next t) : Touches { regs := true, ev := true, loops := true, field := true } a1 t := by
  unfold execDioOverloadTrip at h
  injection h with h
  subst h
  refine Touches.ite ?_ ?_
  · refine Touches.trans ?_ State.dioTrip_touches rfl
    exact Touches.refl _
  · exact Touches.refl _

theorem State.dioRetry_touches {a0 : _} {a1 : _} {a2 : _} : Touches { regs := true, ev := true, loops := true, field := true } a0 (@State.dioRetry a0 a1 a2) := by
  unfold State.dioRetry
  dsimp only
  refine Touches.ite ?_ ?_
  · exact Touches.refl _
  · refine Touches.ite ?_ ?_
    · refine Touches.foldl ?_ (fun v0 v1 => ?_)
      · refine Touches.trans ?_ Touches.put rfl
        refine Touches.trans ?_ Touches.put rfl
        exact Touches.refl _
      · refine Touches.trans ?_ State.dioDrive_touches rfl
        exact Touches.refl _
    · refine Touches.trans ?_ State.dioTrip_touches rfl
      refine Touches.trans ?_ Touches.put rfl
      exact Touches.refl _

theorem execDioRetry_touches {a0 : _} {a1 : _} {a2 : _} {t : State} (h : (@execDioRetry a0 a1 a2) = .next t) : Touches { regs := true, ev := true, loops := true, field := true } a2 t := by
  unfold execDioRetry at h
  injection h with h
  subst h
  refine Touches.trans ?_ State.dioRetry_touches rfl
  exact Touches.refl _

theorem execDioRetriesRestore_touches {a0 : _} {a1 : _} {t : State} (h : (@execDioRetriesRestore a0 a1) = .next t) : Touches { regs := true } a1 t := by
  unfold execDioRetriesRestore at h
  injection h with h
  subst h
  refine Touches.ite ?_ ?_
  · refine Touches.trans ?_ Touches.put rfl
    exact Touches.refl _
  · exact Touches.refl _

theorem State.dioClear_touches {a0 : _} {a1 : _} : Touches { regs := true } a0 (@State.dioClear a0 a1) := by
  unfold State.dioClear
  dsimp only
  iterate 4 refine Touches.trans ?_ Touches.put rfl
  exact Touches.refl _

theorem execDioOverloadClear_touches {a0 : _} {a1 : _} {a2 : _} {t : State} (h : (@execDioOverloadClear a0 a1 a2) = .next t) : Touches { regs := true } a2 t := by
  unfold execDioOverloadClear at h
  injection h with h
  subst h
  refine Touches.trans ?_ State.dioClear_touches rfl
  exact Touches.refl _

theorem execDioOvertemp_touches {a0 : _} {a1 : _} {t : State} (h : (@execDioOvertemp a0 a1) = .next t) : Touches { regs := true, ev := true, loops := true, field := true } a1 t := by
  unfold execDioOvertemp at h
  injection h with h
  subst h
  refine Touches.ite ?_ ?_
  · exact Touches.refl _
  · dsimp only
    refine Touches.trans ?_ State.raise_touches rfl
    refine Touches.trans ?_ State.spoilRate_touches rfl
    refine Touches.trans ?_ Touches.inc rfl
    refine Touches.trans ?_ Touches.put rfl
    refine Touches.trans ?_ State.putDio_touches rfl
    refine Touches.foldl ?_ (fun v0 v1 => ?_)
    · exact Touches.refl _
    · refine Touches.trans ?_ State.putDio_touches rfl
      exact Touches.refl _

theorem execDioCooled_touches {a0 : _} {a1 : _} {t : State} (h : (@execDioCooled a0 a1) = .next t) : Touches { regs := true, ev := true, field := true } a1 t := by
  unfold execDioCooled at h
  injection h with h
  subst h
  refine Touches.ite ?_ ?_
  · exact Touches.refl _
  · dsimp only
    refine Touches.foldl ?_ (fun v0 v1 => ?_)
    · refine Touches.trans ?_ State.putDio_touches rfl
      exact Touches.refl _
    · refine Touches.trans ?_ State.dioDrive_touches rfl
      exact Touches.refl _

theorem execDioWire_touches {a0 : _} {a1 : _} {a2 : _} {a3 : _} {t : State} (h : (@execDioWire a0 a1 a2 a3) = .next t) : Touches { regs := true, ev := true, loops := true } a3 t := by
  unfold execDioWire at h
  injection h with h
  subst h
  refine Touches.ite ?_ ?_
  · exact Touches.refl _
  · refine Touches.trans ?_ State.raise_touches rfl
    refine Touches.trans ?_ Touches.putFlag rfl
    refine Touches.ite ?_ ?_
    · refine Touches.trans ?_ State.spoilRate_touches rfl
      exact Touches.refl _
    · exact Touches.refl _

theorem execDioEdge_touches {a0 : _} {a1 : _} {a2 : _} {a3 : _} {t : State} (h : (@execDioEdge a0 a1 a2 a3) = .next t) : Touches { regs := true, ev := true } a3 t := by
  unfold execDioEdge at h
  injection h with h
  subst h
  refine Touches.ite ?_ ?_
  · exact Touches.refl _
  · dsimp only
    refine Touches.trans ?_ State.raise_touches rfl
    refine Touches.ite ?_ ?_
    · refine Touches.trans ?_ Touches.inc rfl
      exact Touches.refl _
    · exact Touches.refl _

theorem execLoadSupplyChange_touches {a0 : _} {a1 : _} {a2 : _} {t : State} (h : (@execLoadSupplyChange a0 a1 a2) = .next t) : Touches { regs := true, ev := true } a2 t := by
  unfold execLoadSupplyChange at h
  injection h with h
  subst h
  refine Touches.ite ?_ ?_
  · exact Touches.refl _
  · dsimp only
    refine Touches.trans ?_ State.raise_touches rfl
    refine Touches.foldl ?_ (fun v0 v1 => ?_)
    · refine Touches.trans ?_ Touches.put rfl
      exact Touches.refl _
    · refine Touches.trans ?_ Touches.putFlag rfl
      exact Touches.refl _

theorem execAoOpenLoop_touches {a0 : _} {a1 : _} {t : State} (h : (@execAoOpenLoop a0 a1) = .next t) : Touches { regs := true, ev := true, field := true } a1 t := by
  unfold execAoOpenLoop at h
  injection h with h
  subst h
  refine Touches.ite ?_ ?_
  · exact Touches.refl _
  · refine Touches.trans ?_ State.raise_touches rfl
    refine Touches.trans ?_ State.putAo_touches rfl
    refine Touches.trans ?_ Touches.put rfl
    exact Touches.refl _

theorem execAoMiswire_touches {a0 : _} {a1 : _} {a2 : _} {t : State} (h : (@execAoMiswire a0 a1 a2) = .next t) : Touches { regs := true, ev := true, field := true } a2 t := by
  unfold execAoMiswire at h
  injection h with h
  subst h
  refine Touches.ite ?_ ?_
  · exact Touches.refl _
  · dsimp only
    refine Touches.trans ?_ State.raise_touches rfl
    refine Touches.trans ?_ State.putAo_touches rfl
    refine Touches.trans ?_ Touches.put rfl
    refine Touches.trans ?_ Touches.put rfl
    exact Touches.refl _

theorem execAoMiswireClear_touches {a0 : _} {a1 : _} {t : State} (h : (@execAoMiswireClear a0 a1) = .next t) : Touches { regs := true, field := true } a1 t := by
  unfold execAoMiswireClear at h
  injection h with h
  subst h
  refine Touches.ite ?_ ?_
  · exact Touches.refl _
  · dsimp only
    refine Touches.ite ?_ ?_
    · refine Touches.trans ?_ State.aoSafeState_touches rfl
      refine Touches.trans ?_ Touches.put rfl
      exact Touches.refl _
    · refine Touches.trans ?_ State.aoDrive_touches rfl
      refine Touches.trans ?_ Touches.put rfl
      exact Touches.refl _

theorem execAoReadback_touches {a0 : _} {a1 : _} {a2 : _} {t : State} (h : (@execAoReadback a0 a1 a2) = .next t) : Touches { regs := true, ev := true, field := true } a2 t := by
  unfold execAoReadback at h
  injection h with h
  subst h
  refine Touches.ite ?_ ?_
  · exact Touches.refl _
  · dsimp only
    refine Touches.trans ?_ State.raise_touches rfl
    refine Touches.trans ?_ State.putAo_touches rfl
    iterate 3 refine Touches.trans ?_ Touches.put rfl
    exact Touches.refl _

theorem execAoHeadroomLow_touches {a0 : _} {a1 : _} {t : State} (h : (@execAoHeadroomLow a0 a1) = .next t) : Touches { regs := true } a1 t := by
  unfold execAoHeadroomLow at h
  injection h with h
  subst h
  refine Touches.ite ?_ ?_
  · refine Touches.trans ?_ Touches.put rfl
    exact Touches.refl _
  · exact Touches.refl _

theorem State.encMove_touches {a0 : _} {a1 : _} {a2 : _} : Touches { regs := true } a0 (@State.encMove a0 a1 a2) := by
  unfold State.encMove
  refine Touches.trans ?_ Touches.put rfl
  exact Touches.refl _

theorem State.encIllegal_touches {a0 : _} {a1 : _} : Touches { regs := true, ev := true, loops := true } a0 (@State.encIllegal a0 a1) := by
  unfold State.encIllegal
  dsimp only
  refine Touches.trans ?_ State.raise_touches rfl
  refine Touches.trans ?_ State.spoilRate_touches rfl
  refine Touches.trans ?_ Touches.put rfl
  refine Touches.trans ?_ Touches.inc rfl
  exact Touches.refl _

theorem execEncCountStep_touches {a0 : _} {a1 : _} {a2 : _} {a3 : _} {a4 : _} {a5 : _} {t : State} (h : (@execEncCountStep a0 a1 a2 a3 a4 a5) = .next t) : Touches { regs := true, ev := true, loops := true } a5 t := by
  unfold execEncCountStep at h
  injection h with h
  subst h
  refine Touches.ite ?_ ?_
  · refine Touches.trans ?_ State.encIllegal_touches rfl
    exact Touches.refl _
  · refine Touches.trans ?_ State.encMove_touches rfl
    exact Touches.refl _

theorem execEncIllegal_touches {a0 : _} {a1 : _} {t : State} (h : (@execEncIllegal a0 a1) = .next t) : Touches { regs := true, ev := true, loops := true } a1 t := by
  unfold execEncIllegal at h
  injection h with h
  subst h
  refine Touches.ite ?_ ?_
  · refine Touches.trans ?_ State.encIllegal_touches rfl
    exact Touches.refl _
  · exact Touches.refl _

theorem State.encRef_touches {a0 : _} {a1 : _} {a2 : _} {a3 : _} : Touches { regs := true, ev := true } a0 (@State.encRef a0 a1 a2 a3) := by
  unfold State.encRef
  dsimp only
  refine Touches.ite ?_ ?_
  · refine Touches.trans ?_ State.raise_touches rfl
    refine Touches.trans ?_ Touches.put rfl
    refine Touches.ite ?_ ?_
    · refine Touches.trans ?_ Touches.put rfl
      refine Touches.trans ?_ Touches.put rfl
      exact Touches.refl _
    · refine Touches.trans ?_ Touches.put rfl
      refine Touches.trans ?_ Touches.put rfl
      refine Touches.trans ?_ Touches.put rfl
      exact Touches.refl _
  · refine Touches.trans ?_ State.encMove_touches rfl
    refine Touches.ite ?_ ?_
    · refine Touches.trans ?_ Touches.put rfl
      refine Touches.trans ?_ Touches.put rfl
      exact Touches.refl _
    · refine Touches.trans ?_ Touches.put rfl
      refine Touches.trans ?_ Touches.put rfl
      refine Touches.trans ?_ Touches.put rfl
      exact Touches.refl _

theorem execEncZ_touches {a0 : _} {a1 : _} {a2 : _} {a3 : _} {a4 : _} {a5 : _} {t : State} (h : (@execEncZ a0 a1 a2 a3 a4 a5) = .next t) : Touches { regs := true, ev := true } a5 t := by
  unfold execEncZ at h
  injection h with h
  subst h
  refine Touches.ite ?_ ?_
  · refine Touches.trans ?_ State.encRef_touches rfl
    exact Touches.refl _
  · refine Touches.trans ?_ State.encMove_touches rfl
    exact Touches.refl _

theorem execEncLineFault_touches {a0 : _} {a1 : _} {a2 : _} {t : State} (h : (@execEncLineFault a0 a1 a2) = .next t) : Touches { regs := true, ev := true } a2 t := by
  unfold execEncLineFault at h
  injection h with h
  subst h
  refine Touches.ite ?_ ?_
  · refine Touches.trans ?_ State.raise_touches rfl
    refine Touches.trans ?_ Touches.put rfl
    exact Touches.refl _
  · exact Touches.refl _

theorem State.encPreset_touches {a0 : _} {a1 : _} {a2 : _} : Touches { field := true } a0 (@State.encPreset a0 a1 a2) := by
  unfold State.encPreset
  refine Touches.mkUpd ?_ (by simp only [State.without, cond_true, cond_false])
  exact Touches.refl _

theorem execCountPreset_touches {a0 : _} {a1 : _} {a2 : _} {t : State} (h : (@execCountPreset a0 a1 a2) = .next t) : Touches { field := true } a2 t := by
  unfold execCountPreset at h
  injection h with h
  subst h
  refine Touches.trans ?_ State.encPreset_touches rfl
  exact Touches.refl _

theorem State.capInc_touches {a0 : _} {a1 : _} {a2 : _} {a3 : _} : Touches { regs := true } a0 (@State.capInc a0 a1 a2 a3) := by
  unfold State.capInc
  refine Touches.ite ?_ ?_
  · refine Touches.trans ?_ Touches.inc rfl
    exact Touches.refl _
  · refine Touches.trans ?_ Touches.inc rfl
    exact Touches.refl _

theorem State.capResult_touches {a0 : _} {a1 : _} {a2 : _} : Touches { regs := true, field := true } a0 (@State.capResult a0 a1 a2) := by
  unfold State.capResult
  dsimp only
  refine Touches.ite ?_ ?_
  · refine Touches.trans ?_ State.putCap_touches rfl
    exact Touches.refl _
  · refine Touches.trans ?_ State.capInc_touches rfl
    exact Touches.refl _

theorem State.capEvent_touches {a0 : _} {a1 : _} {a2 : _} {a3 : _} {a4 : _} : Touches { regs := true, field := true } a0 (@State.capEvent a0 a1 a2 a3 a4) := by
  unfold State.capEvent
  dsimp only
  refine Touches.ite ?_ ?_
  · exact Touches.refl _
  · refine Touches.ite ?_ ?_
    · refine Touches.ite ?_ ?_
      · refine Touches.trans ?_ State.capResult_touches rfl
        exact Touches.refl _
      · exact Touches.refl _
    · refine Touches.ite ?_ ?_
      · refine Touches.ite ?_ ?_
        · exact Touches.refl _
        · split
          · rename_i v0 v1 v2
            refine Touches.trans ?_ State.capResult_touches rfl
            refine Touches.trans ?_ State.putCap_touches rfl
            exact Touches.refl _
          · rename_i v3 v4
            refine Touches.trans ?_ State.putCap_touches rfl
            exact Touches.refl _
      · refine Touches.ite ?_ ?_
        · refine Touches.trans ?_ State.capResult_touches rfl
          refine Touches.trans ?_ State.capInc_touches rfl
          refine Touches.trans ?_ State.putCap_touches rfl
          refine Touches.ite ?_ ?_
          · refine Touches.trans ?_ State.capInc_touches rfl
            exact Touches.refl _
          · exact Touches.refl _
        · refine Touches.ite ?_ ?_
          · refine Touches.trans ?_ State.putCap_touches rfl
            refine Touches.ite ?_ ?_
            · refine Touches.trans ?_ State.capInc_touches rfl
              exact Touches.refl _
            · exact Touches.refl _
          · refine Touches.ite ?_ ?_
            · split
              · rename_i v5 v6 v7
                refine Touches.trans ?_ State.capResult_touches rfl
                refine Touches.trans ?_ State.putCap_touches rfl
                exact Touches.refl _
              · rename_i v8 v9
                refine Touches.trans ?_ State.capInc_touches rfl
                exact Touches.refl _
            · exact Touches.refl _

theorem execCaptureEvent_touches {a0 : _} {a1 : _} {a2 : _} {a3 : _} {a4 : _} {t : State} (h : (@execCaptureEvent a0 a1 a2 a3 a4) = .next t) : Touches { regs := true, field := true } a4 t := by
  unfold execCaptureEvent at h
  injection h with h
  subst h
  refine Touches.ite ?_ ?_
  · exact Touches.refl _
  · refine Touches.trans ?_ State.capEvent_touches rfl
    exact Touches.refl _

theorem execCaptureIntervalTimeout_touches {a0 : _} {a1 : _} {t : State} (h : (@execCaptureIntervalTimeout a0 a1) = .next t) : Touches { regs := true, field := true } a1 t := by
  unfold execCaptureIntervalTimeout at h
  injection h with h
  subst h
  refine Touches.ite ?_ ?_
  · refine Touches.trans ?_ State.capInc_touches rfl
    refine Touches.trans ?_ State.putCap_touches rfl
    exact Touches.refl _
  · exact Touches.refl _

theorem State.takeTrips_touches {a0 : _} : Touches { regs := true, field := true } a0 (@State.takeTrips a0) := by
  unfold State.takeTrips
  dsimp only
  refine Touches.foldl ?_ (fun v0 v1 => ?_)
  · exact Touches.refl _
  · refine Touches.ite ?_ ?_
    · refine Touches.trans ?_ State.putDio_touches rfl
      refine Touches.trans ?_ Touches.put rfl
      refine Touches.trans ?_ Touches.put rfl
      exact Touches.refl _
    · exact Touches.refl _

theorem State.fieldTakeover_touches {a0 : _} {a1 : _} : Touches { regs := true, ev := true, field := true } a0 (@State.fieldTakeover a0 a1) := by
  unfold State.fieldTakeover
  dsimp only
  refine Touches.ite ?_ ?_
  · refine Touches.trans ?_ State.fieldSafe_touches rfl
    refine Touches.mkUpd ?_ (by simp only [State.without, cond_true, cond_false])
    refine Touches.trans ?_ State.takeTrips_touches rfl
    exact Touches.refl _
  · refine Touches.trans ?_ State.fieldApply_touches rfl
    refine Touches.mkUpd ?_ (by simp only [State.without, cond_true, cond_false])
    refine Touches.trans ?_ State.takeTrips_touches rfl
    exact Touches.refl _

theorem State.encFollow_touches {a0 : _} {a1 : _} {a2 : _} : Touches { regs := true } a0 (@State.encFollow a0 a1 a2) := by
  unfold State.encFollow
  refine Touches.foldl ?_ (fun v0 v1 => ?_)
  · exact Touches.refl _
  · dsimp only
    refine Touches.trans ?_ Touches.put rfl
    refine Touches.trans ?_ State.encMove_touches rfl
    exact Touches.refl _

theorem State.encSync_touches {a0 : _} : Touches { regs := true } a0 (@State.encSync a0) := by
  unfold State.encSync
  split
  · rename_i v0 v1 v2
    refine Touches.trans ?_ State.encFollow_touches rfl
    exact Touches.refl _
  · rename_i v3 v4
    exact Touches.refl _

/-! Filter. -/

theorem State.putFa_touches {a0 : _} {a1 : _} : Touches { field := true } a0 (@State.putFa a0 a1) := by
  unfold State.putFa
  refine Touches.mkUpd ?_ (by simp only [State.without, cond_true, cond_false])
  exact Touches.refl _

theorem State.showFa_touches {a0 : _} : Touches { regs := true } a0 (@State.showFa a0) := by
  unfold State.showFa
  dsimp only
  refine Touches.trans ?_ Touches.put rfl
  refine Touches.trans ?_ Touches.put rfl
  exact Touches.refl _

theorem State.showFaCfg_touches {a0 : _} {a1 : _} : Touches { regs := true } a0 (@State.showFaCfg a0 a1) := by
  unfold State.showFaCfg
  dsimp only
  iterate 3 refine Touches.trans ?_ Touches.put rfl
  exact Touches.refl _

theorem State.faRestart_touches {a0 : _} {a1 : _} {a2 : _} : Touches { regs := true, field := true } a0 (@State.faRestart a0 a1 a2) := by
  unfold State.faRestart
  dsimp only
  refine Touches.ite ?_ ?_
  · refine Touches.trans ?_ State.showFa_touches rfl
    refine Touches.trans ?_ State.putFa_touches rfl
    exact Touches.refl _
  · refine Touches.trans ?_ State.showFa_touches rfl
    refine Touches.trans ?_ State.showFaCfg_touches rfl
    iterate 4 refine Touches.trans ?_ Touches.put rfl
    refine Touches.trans ?_ State.putFa_touches rfl
    exact Touches.refl _

theorem execFaChainRestart_touches {a0 : _} {a1 : _} {t : State} (h : (@execFaChainRestart a0 a1) = .next t) : Touches { regs := true, field := true } a1 t := by
  unfold execFaChainRestart at h
  injection h with h
  subst h
  refine Touches.ite ?_ ?_
  · refine Touches.trans ?_ State.faRestart_touches rfl
    exact Touches.refl _
  · exact Touches.refl _

theorem State.raiseAt_touches {a0 : _} {a1 : _} {a2 : _} {a3 : _} {a4 : _} {a5 : _} : Touches { regs := true, ev := true } a0 (@State.raiseAt a0 a1 a2 a3 a4 a5) := by
  unfold State.raiseAt
  dsimp only
  refine Touches.mkUpd ?_ (by simp only [State.without, cond_true, cond_false])
  refine Touches.trans ?_ Touches.inc rfl
  exact Touches.refl _

theorem State.faWatch_touches {a0 : _} {a1 : _} {a2 : _} : Touches { regs := true, ev := true } a0 (@State.faWatch a0 a1 a2) := by
  unfold State.faWatch
  dsimp only
  refine Touches.ite ?_ ?_
  · exact Touches.refl _
  · refine Touches.ite ?_ ?_
    · refine Touches.trans ?_ State.raiseAt_touches rfl
      refine Touches.trans ?_ Touches.putFlag rfl
      exact Touches.refl _
    · exact Touches.refl _

theorem State.faSampleEvents_touches {a0 : _} {a1 : _} {a2 : _} {a3 : _} {a4 : _} : Touches { regs := true, ev := true } a0 (@State.faSampleEvents a0 a1 a2 a3 a4) := by
  unfold State.faSampleEvents
  dsimp only
  refine Touches.ite ?_ ?_
  · refine Touches.trans ?_ State.raise_touches rfl
    refine Touches.trans ?_ Touches.put rfl
    refine Touches.ite ?_ ?_
    · refine Touches.trans ?_ State.raise_touches rfl
      refine Touches.ite ?_ ?_
      · refine Touches.trans ?_ Touches.inc rfl
        refine Touches.trans ?_ Touches.put rfl
        exact Touches.refl _
      · exact Touches.refl _
    · refine Touches.ite ?_ ?_
      · refine Touches.trans ?_ State.raise_touches rfl
        refine Touches.ite ?_ ?_
        · refine Touches.trans ?_ Touches.inc rfl
          refine Touches.trans ?_ Touches.put rfl
          exact Touches.refl _
        · exact Touches.refl _
      · refine Touches.ite ?_ ?_
        · refine Touches.trans ?_ Touches.inc rfl
          refine Touches.trans ?_ Touches.put rfl
          exact Touches.refl _
        · exact Touches.refl _
  · refine Touches.ite ?_ ?_
    · refine Touches.trans ?_ State.raise_touches rfl
      refine Touches.ite ?_ ?_
      · refine Touches.trans ?_ Touches.inc rfl
        refine Touches.trans ?_ Touches.put rfl
        exact Touches.refl _
      · exact Touches.refl _
    · refine Touches.ite ?_ ?_
      · refine Touches.trans ?_ State.raise_touches rfl
        refine Touches.ite ?_ ?_
        · refine Touches.trans ?_ Touches.inc rfl
          refine Touches.trans ?_ Touches.put rfl
          exact Touches.refl _
        · exact Touches.refl _
      · refine Touches.ite ?_ ?_
        · refine Touches.trans ?_ Touches.inc rfl
          refine Touches.trans ?_ Touches.put rfl
          exact Touches.refl _
        · exact Touches.refl _

theorem State.faDeliver_touches {a0 : _} {a1 : _} {a2 : _} : Touches { regs := true, ev := true, field := true } a0 (@State.faDeliver a0 a1 a2) := by
  unfold State.faDeliver
  dsimp only
  refine Touches.ite ?_ ?_
  · exact Touches.refl _
  · refine Touches.trans ?_ State.putFa_touches rfl
    refine Touches.trans ?_ State.faWatch_touches rfl
    refine Touches.trans ?_ State.faSampleEvents_touches rfl
    refine Touches.ite ?_ ?_
    · exact Touches.refl _
    · refine Touches.trans ?_ Touches.put rfl
      exact Touches.refl _

theorem execFaSampleDeliver_touches {a0 : _} {a1 : _} {a2 : _} {t : State} (h : (@execFaSampleDeliver a0 a1 a2) = .next t) : Touches { regs := true, ev := true, field := true } a2 t := by
  unfold execFaSampleDeliver at h
  injection h with h
  subst h
  refine Touches.trans ?_ State.faDeliver_touches rfl
  exact Touches.refl _

theorem State.faEdge_touches {a0 : _} : Touches { field := true } a0 (@State.faEdge a0) := by
  unfold State.faEdge
  refine Touches.foldl ?_ (fun v0 v1 => ?_)
  · exact Touches.refl _
  · dsimp only
    refine Touches.trans ?_ State.putFa_touches rfl
    exact Touches.refl _

theorem State.faFault_touches {a0 : _} {a1 : _} {a2 : _} : Touches { regs := true, ev := true, field := true } a0 (@State.faFault a0 a1 a2) := by
  unfold State.faFault
  refine Touches.ite ?_ ?_
  · exact Touches.refl _
  · dsimp only
    refine Touches.trans ?_ State.showFa_touches rfl
    refine Touches.trans ?_ State.raise_touches rfl
    refine Touches.trans ?_ Touches.inc rfl
    refine Touches.trans ?_ Touches.put rfl
    refine Touches.trans ?_ State.putFa_touches rfl
    exact Touches.refl _

theorem execFaLaneFault_touches {a0 : _} {a1 : _} {a2 : _} {t : State} (h : (@execFaLaneFault a0 a1 a2) = .next t) : Touches { regs := true, ev := true, field := true } a2 t := by
  unfold execFaLaneFault at h
  injection h with h
  subst h
  refine Touches.trans ?_ State.faFault_touches rfl
  exact Touches.refl _

theorem execFaLaneReload_touches {a0 : _} {a1 : _} {t : State} (h : (@execFaLaneReload a0 a1) = .next t) : Touches { regs := true, field := true } a1 t := by
  unfold execFaLaneReload at h
  injection h with h
  subst h
  refine Touches.ite ?_ ?_
  · refine Touches.trans ?_ State.faRestart_touches rfl
    exact Touches.refl _
  · exact Touches.refl _

theorem State.faIdle_touches {a0 : _} {a1 : _} : Touches { regs := true, field := true } a0 (@State.faIdle a0 a1) := by
  unfold State.faIdle
  refine Touches.trans ?_ State.showFaCfg_touches rfl
  refine Touches.trans ?_ State.putFa_touches rfl
  exact Touches.refl _

theorem State.faComesUp_touches {a0 : _} {a1 : _} : Touches { regs := true, field := true } a0 (@State.faComesUp a0 a1) := by
  unfold State.faComesUp
  dsimp only
  refine Touches.ite ?_ ?_
  · refine Touches.trans ?_ State.putFa_touches rfl
    refine Touches.trans ?_ State.faIdle_touches rfl
    exact Touches.refl _
  · refine Touches.trans ?_ State.faIdle_touches rfl
    exact Touches.refl _

theorem State.faWritten_touches {a0 : _} {a1 : _} {a2 : _} {a3 : _} {a4 : _} : Touches { regs := true, field := true } a0 (@State.faWritten a0 a1 a2 a3 a4) := by
  unfold State.faWritten
  dsimp only
  refine Touches.ite ?_ ?_
  · refine Touches.ite ?_ ?_
    · refine Touches.trans ?_ State.faIdle_touches rfl
      exact Touches.refl _
    · refine Touches.trans ?_ State.putFa_touches rfl
      exact Touches.refl _
  · refine Touches.ite ?_ ?_
    · refine Touches.ite ?_ ?_
      · refine Touches.trans ?_ State.showFa_touches rfl
        refine Touches.trans ?_ Touches.put rfl
        refine Touches.trans ?_ State.faIdle_touches rfl
        exact Touches.refl _
      · refine Touches.ite ?_ ?_
        · refine Touches.trans ?_ State.showFa_touches rfl
          refine Touches.trans ?_ State.putFa_touches rfl
          exact Touches.refl _
        · refine Touches.trans ?_ State.putFa_touches rfl
          exact Touches.refl _
    · refine Touches.ite ?_ ?_
      · refine Touches.trans ?_ State.putFa_touches rfl
        exact Touches.refl _
      · refine Touches.ite ?_ ?_
        · refine Touches.trans ?_ State.putFa_touches rfl
          exact Touches.refl _
        · refine Touches.ite ?_ ?_
          · refine Touches.trans ?_ State.putFa_touches rfl
            exact Touches.refl _
          · exact Touches.refl _

/-! Clock. -/

theorem State.onTime_touches {a0 : _} {a1 : _} : Touches { time := true } a0 (@State.onTime a0 a1) := by
  unfold State.onTime
  refine Touches.mkUpd ?_ (by simp only [State.without, cond_true, cond_false])
  exact Touches.refl _

theorem State.showPorts_touches {a0 : _} : Touches { regs := true, ev := true } a0 (@State.showPorts a0) := by
  unfold State.showPorts
  refine Touches.foldl ?_ (fun v0 v1 => ?_)
  · exact Touches.refl _
  · dsimp only
    refine Touches.ite ?_ ?_
    · exact Touches.refl _
    · refine Touches.trans ?_ State.raise_touches rfl
      refine Touches.trans ?_ Touches.put rfl
      exact Touches.refl _

theorem State.setAlign_touches {a0 : _} {a1 : _} : Touches { regs := true, ev := true } a0 (@State.setAlign a0 a1) := by
  unfold State.setAlign
  dsimp only
  refine Touches.trans ?_ State.showPorts_touches rfl
  refine Touches.trans ?_ Touches.put rfl
  refine Touches.trans ?_ Touches.putFlag rfl
  refine Touches.trans ?_ Touches.put rfl
  exact Touches.refl _

theorem State.becomeAligned_touches {a0 : _} : Touches { regs := true, ev := true, time := true } a0 (@State.becomeAligned a0) := by
  unfold State.becomeAligned
  dsimp only
  refine Touches.trans ?_ State.onTime_touches rfl
  refine Touches.trans ?_ State.raise_touches rfl
  refine Touches.trans ?_ State.setAlign_touches rfl
  iterate 3 refine Touches.trans ?_ Touches.put rfl
  exact Touches.refl _

theorem State.classify_touches {a0 : _} {a1 : _} : Touches { regs := true, beat := true, ev := true, time := true } a0 (@State.classify a0 a1) := by
  unfold State.classify
  dsimp only
  refine Touches.ite ?_ ?_
  · refine Touches.trans ?_ State.becomeAligned_touches rfl
    refine Touches.trans ?_ State.onTime_touches rfl
    refine Touches.mkUpd ?_ (by simp only [State.without, cond_true, cond_false])
    exact Touches.refl _
  · refine Touches.ite ?_ ?_
    · refine Touches.trans ?_ State.setAlign_touches rfl
      iterate 3 refine Touches.trans ?_ Touches.put rfl
      refine Touches.trans ?_ State.onTime_touches rfl
      refine Touches.mkUpd ?_ (by simp only [State.without, cond_true, cond_false])
      exact Touches.refl _
    · refine Touches.trans ?_ State.setAlign_touches rfl
      iterate 3 refine Touches.trans ?_ Touches.put rfl
      refine Touches.trans ?_ State.onTime_touches rfl
      refine Touches.mkUpd ?_ (by simp only [State.without, cond_true, cond_false])
      exact Touches.refl _

theorem State.selectGm_touches {a0 : _} {a1 : _} {a2 : _} : Touches { regs := true, ev := true, time := true } a0 (@State.selectGm a0 a1 a2) := by
  unfold State.selectGm
  dsimp only
  refine Touches.trans ?_ State.showPorts_touches rfl
  refine Touches.trans ?_ Touches.put rfl
  refine Touches.trans ?_ Touches.put rfl
  refine Touches.trans ?_ State.onTime_touches rfl
  exact Touches.refl _

theorem State.loseGm_touches {a0 : _} : Touches { regs := true, ev := true, time := true } a0 (@State.loseGm a0) := by
  unfold State.loseGm
  dsimp only
  refine Touches.ite ?_ ?_
  · refine Touches.trans ?_ State.showPorts_touches rfl
    iterate 3 refine Touches.trans ?_ Touches.put rfl
    refine Touches.trans ?_ State.onTime_touches rfl
    exact Touches.refl _
  · refine Touches.ite ?_ ?_
    · refine Touches.trans ?_ State.raise_touches rfl
      refine Touches.trans ?_ State.setAlign_touches rfl
      iterate 5 refine Touches.trans ?_ Touches.put rfl
      refine Touches.trans ?_ State.onTime_touches rfl
      exact Touches.refl _
    · refine Touches.ite ?_ ?_
      · refine Touches.trans ?_ State.setAlign_touches rfl
        iterate 3 refine Touches.trans ?_ Touches.put rfl
        refine Touches.trans ?_ State.onTime_touches rfl
        exact Touches.refl _
      · refine Touches.trans ?_ State.showPorts_touches rfl
        iterate 3 refine Touches.trans ?_ Touches.put rfl
        refine Touches.trans ?_ State.onTime_touches rfl
        exact Touches.refl _

theorem State.countSync_touches {a0 : _} : Touches { time := true } a0 (@State.countSync a0) := by
  unfold State.countSync
  dsimp only
  refine Touches.trans ?_ State.onTime_touches rfl
  exact Touches.refl _

theorem State.sync_touches {a0 : _} {a1 : _} : Touches { regs := true, free := true, beat := true, ev := true, time := true } a0 (@State.sync a0 a1) := by
  unfold State.sync
  dsimp only
  refine Touches.ite ?_ ?_
  · refine Touches.ite ?_ ?_
    · refine Touches.trans ?_ State.raise_touches rfl
      refine Touches.trans ?_ State.onTime_touches rfl
      refine Touches.ite ?_ ?_
      · refine Touches.trans ?_ State.showPorts_touches rfl
        refine Touches.trans ?_ Touches.put rfl
        refine Touches.trans ?_ Touches.put rfl
        refine Touches.trans ?_ State.countSync_touches rfl
        exact Touches.refl _
      · refine Touches.trans ?_ Touches.put rfl
        refine Touches.trans ?_ State.countSync_touches rfl
        exact Touches.refl _
    · refine Touches.trans ?_ State.onTime_touches rfl
      refine Touches.ite ?_ ?_
      · refine Touches.trans ?_ State.showPorts_touches rfl
        refine Touches.trans ?_ Touches.put rfl
        refine Touches.trans ?_ Touches.put rfl
        refine Touches.trans ?_ State.countSync_touches rfl
        exact Touches.refl _
      · refine Touches.trans ?_ Touches.put rfl
        refine Touches.trans ?_ State.countSync_touches rfl
        exact Touches.refl _
  · refine Touches.ite ?_ ?_
    · refine Touches.ite ?_ ?_
      · refine Touches.trans ?_ State.showPorts_touches rfl
        refine Touches.trans ?_ Touches.put rfl
        refine Touches.trans ?_ Touches.put rfl
        refine Touches.trans ?_ State.countSync_touches rfl
        exact Touches.refl _
      · refine Touches.trans ?_ Touches.put rfl
        refine Touches.trans ?_ State.countSync_touches rfl
        exact Touches.refl _
    · refine Touches.ite ?_ ?_
      · refine Touches.trans ?_ State.classify_touches rfl
        refine Touches.trans ?_ State.onTime_touches rfl
        refine Touches.trans ?_ Touches.put rfl
        refine Touches.trans ?_ State.fresh_touches rfl
        refine Touches.ite ?_ ?_
        · refine Touches.trans ?_ State.showPorts_touches rfl
          refine Touches.trans ?_ Touches.put rfl
          refine Touches.trans ?_ Touches.put rfl
          refine Touches.trans ?_ State.countSync_touches rfl
          exact Touches.refl _
        · refine Touches.trans ?_ Touches.put rfl
          refine Touches.trans ?_ State.countSync_touches rfl
          exact Touches.refl _
      · refine Touches.ite ?_ ?_
        · refine Touches.ite ?_ ?_
          · refine Touches.trans ?_ State.classify_touches rfl
            refine Touches.trans ?_ State.onTime_touches rfl
            refine Touches.trans ?_ Touches.put rfl
            refine Touches.trans ?_ State.fresh_touches rfl
            refine Touches.ite ?_ ?_
            · refine Touches.trans ?_ State.showPorts_touches rfl
              refine Touches.trans ?_ Touches.put rfl
              refine Touches.trans ?_ Touches.put rfl
              refine Touches.trans ?_ State.countSync_touches rfl
              exact Touches.refl _
            · refine Touches.trans ?_ Touches.put rfl
              refine Touches.trans ?_ State.countSync_touches rfl
              exact Touches.refl _
          · refine Touches.trans ?_ Touches.put rfl
            refine Touches.mkUpd ?_ (by simp only [State.without, cond_true, cond_false])
            refine Touches.trans ?_ State.onTime_touches rfl
            refine Touches.trans ?_ Touches.put rfl
            refine Touches.trans ?_ State.fresh_touches rfl
            refine Touches.ite ?_ ?_
            · refine Touches.trans ?_ State.showPorts_touches rfl
              refine Touches.trans ?_ Touches.put rfl
              refine Touches.trans ?_ Touches.put rfl
              refine Touches.trans ?_ State.countSync_touches rfl
              exact Touches.refl _
            · refine Touches.trans ?_ Touches.put rfl
              refine Touches.trans ?_ State.countSync_touches rfl
              exact Touches.refl _
        · refine Touches.ite ?_ ?_
          · refine Touches.ite ?_ ?_
            · refine Touches.trans ?_ State.becomeAligned_touches rfl
              refine Touches.mkUpd ?_ (by simp only [State.without, cond_true, cond_false])
              refine Touches.trans ?_ State.onTime_touches rfl
              refine Touches.trans ?_ Touches.put rfl
              refine Touches.trans ?_ State.fresh_touches rfl
              refine Touches.ite ?_ ?_
              · refine Touches.trans ?_ State.showPorts_touches rfl
                refine Touches.trans ?_ Touches.put rfl
                refine Touches.trans ?_ Touches.put rfl
                refine Touches.trans ?_ State.countSync_touches rfl
                exact Touches.refl _
              · refine Touches.trans ?_ Touches.put rfl
                refine Touches.trans ?_ State.countSync_touches rfl
                exact Touches.refl _
            · refine Touches.ite ?_ ?_
              · refine Touches.trans ?_ State.classify_touches rfl
                refine Touches.trans ?_ State.onTime_touches rfl
                refine Touches.trans ?_ Touches.put rfl
                refine Touches.trans ?_ State.fresh_touches rfl
                refine Touches.ite ?_ ?_
                · refine Touches.trans ?_ State.showPorts_touches rfl
                  refine Touches.trans ?_ Touches.put rfl
                  refine Touches.trans ?_ Touches.put rfl
                  refine Touches.trans ?_ State.countSync_touches rfl
                  exact Touches.refl _
                · refine Touches.trans ?_ Touches.put rfl
                  refine Touches.trans ?_ State.countSync_touches rfl
                  exact Touches.refl _
              · refine Touches.trans ?_ Touches.put rfl
                refine Touches.mkUpd ?_ (by simp only [State.without, cond_true, cond_false])
                refine Touches.trans ?_ State.onTime_touches rfl
                refine Touches.trans ?_ Touches.put rfl
                refine Touches.trans ?_ State.fresh_touches rfl
                refine Touches.ite ?_ ?_
                · refine Touches.trans ?_ State.showPorts_touches rfl
                  refine Touches.trans ?_ Touches.put rfl
                  refine Touches.trans ?_ Touches.put rfl
                  refine Touches.trans ?_ State.countSync_touches rfl
                  exact Touches.refl _
                · refine Touches.trans ?_ Touches.put rfl
                  refine Touches.trans ?_ State.countSync_touches rfl
                  exact Touches.refl _
          · refine Touches.trans ?_ State.classify_touches rfl
            refine Touches.trans ?_ State.onTime_touches rfl
            refine Touches.trans ?_ Touches.put rfl
            refine Touches.trans ?_ State.fresh_touches rfl
            refine Touches.ite ?_ ?_
            · refine Touches.trans ?_ State.showPorts_touches rfl
              refine Touches.trans ?_ Touches.put rfl
              refine Touches.trans ?_ Touches.put rfl
              refine Touches.trans ?_ State.countSync_touches rfl
              exact Touches.refl _
            · refine Touches.trans ?_ Touches.put rfl
              refine Touches.trans ?_ State.countSync_touches rfl
              exact Touches.refl _

theorem execPtpSyncReceive_touches {a0 : _} {a1 : _} {a2 : _} {a3 : _} {a4 : _} {t : State} (h : (@execPtpSyncReceive a0 a1 a2 a3 a4) = .next t) : Touches { regs := true, free := true, beat := true, ev := true, time := true } a3 t := by
  unfold execPtpSyncReceive at h
  injection h with h
  subst h
  refine Touches.ite ?_ ?_
  · refine Touches.trans ?_ State.sync_touches rfl
    exact Touches.refl _
  · exact Touches.refl _

theorem execDelayExchangeComplete_touches {a0 : _} {a1 : _} {a2 : _} {a3 : _} {t : State} (h : (@execDelayExchangeComplete a0 a1 a2 a3) = .next t) : Touches { regs := true, time := true } a3 t := by
  unfold execDelayExchangeComplete at h
  injection h with h
  subst h
  refine Touches.ite ?_ ?_
  · refine Touches.trans ?_ State.onTime_touches rfl
    refine Touches.trans ?_ Touches.put rfl
    refine Touches.ite ?_ ?_
    · refine Touches.trans ?_ Touches.put rfl
      exact Touches.refl _
    · exact Touches.refl _
  · refine Touches.ite ?_ ?_
    · refine Touches.trans ?_ Touches.put rfl
      exact Touches.refl _
    · exact Touches.refl _

theorem execAnnounceReceive_touches {a0 : _} {a1 : _} {t : State} (h : (@execAnnounceReceive a0 a1) = .next t) : Touches { regs := true, ev := true, time := true } a1 t := by
  unfold execAnnounceReceive at h
  injection h with h
  subst h
  refine Touches.ite ?_ ?_
  · exact Touches.refl _
  · dsimp only
    refine Touches.ite ?_ ?_
    · refine Touches.trans ?_ State.selectGm_touches rfl
      refine Touches.trans ?_ State.onTime_touches rfl
      exact Touches.refl _
    · refine Touches.ite ?_ ?_
      · refine Touches.trans ?_ State.onTime_touches rfl
        refine Touches.trans ?_ State.onTime_touches rfl
        exact Touches.refl _
      · refine Touches.trans ?_ State.onTime_touches rfl
        exact Touches.refl _

theorem execGmChange_touches {a0 : _} {a1 : _} {a2 : _} {t : State} (h : (@execGmChange a0 a1 a2) = .next t) : Touches { regs := true, ev := true, time := true } a2 t := by
  unfold execGmChange at h
  injection h with h
  subst h
  split
  · rename_i v0 v1
    refine Touches.trans ?_ State.selectGm_touches rfl
    exact Touches.refl _
  · rename_i v2 v3 v4
    refine Touches.ite ?_ ?_
    · exact Touches.refl _
    · dsimp only
      refine Touches.trans ?_ State.selectGm_touches rfl
      refine Touches.trans ?_ State.loseGm_touches rfl
      refine Touches.trans ?_ State.raise_touches rfl
      refine Touches.trans ?_ State.raise_touches rfl
      refine Touches.trans ?_ Touches.inc rfl
      exact Touches.refl _

theorem execGmLost_touches {a0 : _} {a1 : _} {t : State} (h : (@execGmLost a0 a1) = .next t) : Touches { regs := true, ev := true, time := true } a1 t := by
  unfold execGmLost at h
  injection h with h
  subst h
  split
  · rename_i v0 v1
    exact Touches.refl _
  · rename_i v2 v3 v4
    refine Touches.ite ?_ ?_
    · exact Touches.refl _
    · dsimp only
      refine Touches.trans ?_ State.loseGm_touches rfl
      refine Touches.trans ?_ State.raise_touches rfl
      refine Touches.trans ?_ State.onTime_touches rfl
      exact Touches.refl _

theorem State.lockLost_touches {a0 : _} : Touches { regs := true, ev := true } a0 (@State.lockLost a0) := by
  unfold State.lockLost
  refine Touches.ite ?_ ?_
  · dsimp only
    refine Touches.trans ?_ State.raise_touches rfl
    refine Touches.trans ?_ State.showPorts_touches rfl
    refine Touches.trans ?_ Touches.put rfl
    refine Touches.trans ?_ Touches.put rfl
    exact Touches.refl _
  · exact Touches.refl _

theorem execTimeLockLost_touches {a0 : _} {t : State} (h : (@execTimeLockLost a0) = .next t) : Touches { regs := true, ev := true } a0 t := by
  unfold execTimeLockLost at h
  injection h with h
  subst h
  refine Touches.trans ?_ State.lockLost_touches rfl
  exact Touches.refl _

theorem State.slewEdge_touches {a0 : _} : Touches { regs := true, beat := true, ev := true, time := true } a0 (@State.slewEdge a0) := by
  unfold State.slewEdge
  refine Touches.ite ?_ ?_
  · exact Touches.refl _
  · refine Touches.ite ?_ ?_
    · dsimp only
      refine Touches.ite ?_ ?_
      · refine Touches.trans ?_ State.becomeAligned_touches rfl
        refine Touches.mkUpd ?_ (by simp only [State.without, cond_true, cond_false])
        exact Touches.refl _
      · refine Touches.trans ?_ Touches.put rfl
        refine Touches.mkUpd ?_ (by simp only [State.without, cond_true, cond_false])
        exact Touches.refl _
    · dsimp only
      refine Touches.ite ?_ ?_
      · refine Touches.ite ?_ ?_
        · refine Touches.trans ?_ State.lockLost_touches rfl
          refine Touches.trans ?_ Touches.put rfl
          refine Touches.trans ?_ Touches.put rfl
          refine Touches.mkUpd ?_ (by simp only [State.without, cond_true, cond_false])
          exact Touches.refl _
        · refine Touches.trans ?_ Touches.put rfl
          refine Touches.trans ?_ Touches.put rfl
          refine Touches.mkUpd ?_ (by simp only [State.without, cond_true, cond_false])
          exact Touches.refl _
      · refine Touches.mkUpd ?_ (by simp only [State.without, cond_true, cond_false])
        exact Touches.refl _

theorem execPtpRxError_touches {a0 : _} {a1 : _} {t : State} (h : (@execPtpRxError a0 a1) = .next t) : Touches { regs := true, ev := true, time := true } a1 t := by
  unfold execPtpRxError at h
  injection h with h
  subst h
  refine Touches.ite ?_ ?_
  · refine Touches.trans ?_ State.raise_touches rfl
    refine Touches.trans ?_ State.onTime_touches rfl
    refine Touches.trans ?_ Touches.inc rfl
    exact Touches.refl _
  · refine Touches.trans ?_ Touches.inc rfl
    exact Touches.refl _

theorem execPtpForward_touches {a0 : _} {a1 : _} {a2 : _} {a3 : _} {a4 : _} {a5 : _} {a6 : _} {t : State} (h : (@execPtpForward a0 a1 a2 a3 a4 a5 a6) = .next t) : Touches { regs := true, ev := true, time := true } a6 t := by
  unfold execPtpForward at h
  injection h with h
  subst h
  refine Touches.ite ?_ ?_
  · exact Touches.refl _
  · refine Touches.ite ?_ ?_
    · refine Touches.trans ?_ State.onTime_touches rfl
      exact Touches.refl _
    · refine Touches.ite ?_ ?_
      · dsimp only
        refine Touches.ite ?_ ?_
        · refine Touches.trans ?_ State.raise_touches rfl
          refine Touches.trans ?_ State.onTime_touches rfl
          refine Touches.trans ?_ State.onTime_touches rfl
          refine Touches.trans ?_ Touches.inc rfl
          exact Touches.refl _
        · refine Touches.trans ?_ State.onTime_touches rfl
          refine Touches.trans ?_ Touches.inc rfl
          exact Touches.refl _
      · dsimp only
        refine Touches.trans ?_ State.onTime_touches rfl
        exact Touches.refl _

theorem State.linkAt_touches {a0 : _} {a1 : _} {a2 : _} : Touches { time := true } a0 (@State.linkAt a0 a1 a2) := by
  unfold State.linkAt
  dsimp only
  refine Touches.trans ?_ State.onTime_touches rfl
  exact Touches.refl _

theorem State.sourceAgain_touches {a0 : _} : Touches { regs := true } a0 (@State.sourceAgain a0) := by
  unfold State.sourceAgain
  split
  · rename_i v0 v1 v2
    refine Touches.trans ?_ Touches.put rfl
    exact Touches.refl _
  · rename_i v3 v4
    exact Touches.refl _

theorem execEthLinkChange_touches {a0 : Fin 12} {a1 : Bool} {a2 t : State} (h : execEthLinkChange a0 a1 a2 = .next t) : Touches { regs := true, ev := true, time := true } a2 t := by
  unfold execEthLinkChange at h
  dsimp only at h
  rw [Host.Outcome.next.injEq] at h
  rw [← h]
  refine Touches.trans ?_ State.showPorts_touches rfl
  refine Touches.ite (Touches.trans ?_ State.sourceAgain_touches rfl) ?_
  · exact Touches.trans (Touches.refl _) State.linkAt_touches rfl
  · exact Touches.trans (Touches.refl _) State.linkAt_touches rfl

theorem State.putPin_touches {a0 : _} {a1 : _} : Touches { time := true } a0 (@State.putPin a0 a1) := by
  unfold State.putPin
  refine Touches.trans ?_ State.onTime_touches rfl
  exact Touches.refl _

theorem State.pulse_touches {a0 : _} {a1 : _} {a2 : _} {a3 : _} : Touches { regs := true, time := true } a0 (@State.pulse a0 a1 a2 a3) := by
  unfold State.pulse
  refine Touches.trans ?_ State.putPin_touches rfl
  refine Touches.trans ?_ Touches.inc rfl
  exact Touches.refl _

theorem State.pinWritten_touches {a0 : _} {a1 : _} {a2 : _} : Touches { regs := true, ev := true, time := true } a0 (@State.pinWritten a0 a1 a2) := by
  unfold State.pinWritten
  dsimp only
  refine Touches.ite ?_ ?_
  · refine Touches.trans ?_ State.raise_touches rfl
    refine Touches.trans ?_ Touches.put rfl
    refine Touches.trans ?_ State.putPin_touches rfl
    exact Touches.refl _
  · refine Touches.ite ?_ ?_
    · refine Touches.ite ?_ ?_
      · refine Touches.trans ?_ Touches.put rfl
        refine Touches.trans ?_ State.putPin_touches rfl
        exact Touches.refl _
      · refine Touches.trans ?_ State.putPin_touches rfl
        exact Touches.refl _
    · refine Touches.trans ?_ Touches.put rfl
      refine Touches.trans ?_ State.putPin_touches rfl
      exact Touches.refl _

theorem State.pinsStep_touches {a0 : _} : Touches { time := true } a0 (@State.pinsStep a0) := by
  unfold State.pinsStep
  refine Touches.mkUpd ?_ (by simp only [State.without, cond_true, cond_false])
  exact Touches.refl _

theorem execPpsEdge_touches {a0 : _} {a1 : _} {t : State} (h : (@execPpsEdge a0 a1) = .next t) : Touches { regs := true, ev := true, time := true } a1 t := by
  unfold execPpsEdge at h
  injection h with h
  subst h
  refine Touches.trans ?_ State.raise_touches rfl
  refine Touches.trans ?_ State.onTime_touches rfl
  refine Touches.trans ?_ Touches.inc rfl
  refine Touches.trans ?_ Touches.put rfl
  refine Touches.trans ?_ Touches.put rfl
  exact Touches.refl _

theorem execPpsLost_touches {a0 : _} {t : State} (h : (@execPpsLost a0) = .next t) : Touches { regs := true, ev := true } a0 t := by
  unfold execPpsLost at h
  injection h with h
  subst h
  refine Touches.ite ?_ ?_
  · refine Touches.trans ?_ State.raise_touches rfl
    refine Touches.trans ?_ Touches.put rfl
    exact Touches.refl _
  · exact Touches.refl _

theorem execPpsOutPulse_touches {a0 : _} {t : State} (h : (@execPpsOutPulse a0) = .next t) : Touches { regs := true, ev := true, time := true } a0 t := by
  unfold execPpsOutPulse at h
  injection h with h
  subst h
  refine Touches.ite ?_ ?_
  · exact Touches.refl _
  · dsimp only
    refine Touches.ite ?_ ?_
    · refine Touches.trans ?_ Touches.putFlag rfl
      refine Touches.trans ?_ State.onTime_touches rfl
      refine Touches.ite ?_ ?_
      · exact Touches.refl _
      · refine Touches.trans ?_ State.raise_touches rfl
        exact Touches.refl _
    · refine Touches.trans ?_ State.pulse_touches rfl
      refine Touches.trans ?_ Touches.putFlag rfl
      refine Touches.trans ?_ State.onTime_touches rfl
      refine Touches.ite ?_ ?_
      · exact Touches.refl _
      · refine Touches.trans ?_ State.raise_touches rfl
        exact Touches.refl _

theorem execChimePulse_touches {a0 : _} {a1 : _} {t : State} (h : (@execChimePulse a0 a1) = .next t) : Touches { regs := true, time := true } a1 t := by
  unfold execChimePulse at h
  injection h with h
  subst h
  refine Touches.ite ?_ ?_
  · exact Touches.refl _
  · split
    · rename_i v0 v1 v2 v3 v4 v5
      refine Touches.trans ?_ State.pulse_touches rfl
      exact Touches.refl _
    · rename_i v6 v7 v8 v9 v10 v11 v12
      refine Touches.ite ?_ ?_
      · refine Touches.trans ?_ State.pulse_touches rfl
        exact Touches.refl _
      · refine Touches.trans ?_ State.pulse_touches rfl
        refine Touches.trans ?_ State.putPin_touches rfl
        exact Touches.refl _
    · rename_i v13 v14 v15 v16 v17
      refine Touches.trans ?_ State.pulse_touches rfl
      refine Touches.trans ?_ State.putPin_touches rfl
      exact Touches.refl _
    · rename_i v18 v19 v20 v21
      exact Touches.refl _

theorem execRimshotFired_touches {a0 : _} {a1 : _} {t : State} (h : (@execRimshotFired a0 a1) = .next t) : Touches { regs := true, ev := true, time := true } a1 t := by
  unfold execRimshotFired at h
  injection h with h
  subst h
  refine Touches.ite ?_ ?_
  · exact Touches.refl _
  · refine Touches.trans ?_ State.raise_touches rfl
    refine Touches.trans ?_ Touches.put rfl
    refine Touches.trans ?_ State.pulse_touches rfl
    exact Touches.refl _

theorem execTpEventPulse_touches {a0 : _} {a1 : _} {t : State} (h : (@execTpEventPulse a0 a1) = .next t) : Touches { regs := true, ev := true, time := true } a1 t := by
  unfold execTpEventPulse at h
  injection h with h
  subst h
  refine Touches.ite ?_ ?_
  · exact Touches.refl _
  · dsimp only
    refine Touches.ite ?_ ?_
    · refine Touches.mkUpd ?_ (by simp only [State.without, cond_true, cond_false])
      exact Touches.refl _
    · refine Touches.ite ?_ ?_
      · refine Touches.trans ?_ Touches.inc rfl
        refine Touches.mkUpd ?_ (by simp only [State.without, cond_true, cond_false])
        exact Touches.refl _
      · refine Touches.trans ?_ State.pulse_touches rfl
        refine Touches.mkUpd ?_ (by simp only [State.without, cond_true, cond_false])
        exact Touches.refl _

theorem execTimeStatus_touches {a0 : _} {a1 : _} {t : State} (h : (@execTimeStatus a0 a1) = .next t) : Touches { regs := true, beat := true, lcp := true } a1 t := by
  unfold execTimeStatus at h
  injection h with h
  subst h
  refine Touches.comp ?_ (served_touches ?_ rfl)
  · exact Touches.refl _
  · intro v0 v1
    dsimp only
    exact Touches.refl _

theorem chimeSetApply_touches {a0 : _} {a1 : _} : Touches { regs := true, ev := true, time := true } a1 (@chimeSetApply a0 a1).st := by
  unfold chimeSetApply
  dsimp only
  refine Touches.trans ?_ State.pinWritten_touches rfl
  iterate 4 refine Touches.trans ?_ Touches.put rfl
  exact Touches.refl _

theorem execChimeSet_touches {a0 : _} {a1 : _} {t : State} (h : (@execChimeSet a0 a1) = .next t) : Touches { regs := true, beat := true, lcp := true } a1 t := by
  unfold execChimeSet at h
  injection h with h
  subst h
  refine Touches.trans ?_ queued_touches rfl
  exact Touches.refl _

theorem rimshotArmApply_touches {a0 : _} {a1 : _} : Touches { regs := true, time := true } a1 (@rimshotArmApply a0 a1).st := by
  unfold rimshotArmApply
  dsimp only
  refine Touches.trans ?_ Touches.put rfl
  refine Touches.trans ?_ State.putPin_touches rfl
  iterate 3 refine Touches.trans ?_ Touches.put rfl
  refine Touches.ite ?_ ?_
  · refine Touches.trans ?_ Touches.inc rfl
    exact Touches.refl _
  · exact Touches.refl _

theorem execRimshotArm_touches {a0 : _} {a1 : _} {t : State} (h : (@execRimshotArm a0 a1) = .next t) : Touches { regs := true, beat := true, lcp := true } a1 t := by
  unfold execRimshotArm at h
  injection h with h
  subst h
  refine Touches.trans ?_ queued_touches rfl
  exact Touches.refl _

theorem captureReadBody_touches {a0 : _} {a1 : _} {a2 : _} : Touches {} a2 (@captureReadBody a0 a1 a2).st := by
  unfold captureReadBody
  dsimp only
  exact Touches.refl _

theorem execCaptureRead_touches {a0 : _} {a1 : _} {t : State} (h : (@execCaptureRead a0 a1) = .next t) : Touches { regs := true, beat := true, lcp := true } a1 t := by
  unfold execCaptureRead at h
  injection h with h
  subst h
  refine Touches.comp ?_ (served_touches ?_ rfl)
  · exact Touches.refl _
  · intro v0 v1
    refine Touches.trans ?_ captureReadBody_touches rfl
    exact Touches.refl _

theorem State.takeServo_touches {a0 : _} {a1 : _} : Touches { regs := true, beat := true, ev := true, time := true } a0 (@State.takeServo a0 a1) := by
  unfold State.takeServo
  dsimp only
  refine Touches.trans ?_ Touches.putFlag rfl
  refine Touches.trans ?_ State.setAlign_touches rfl
  refine Touches.trans ?_ Touches.putFlag rfl
  refine Touches.trans ?_ State.onTime_touches rfl
  refine Touches.mkUpd ?_ (by simp only [State.without, cond_true, cond_false])
  iterate 3 refine Touches.trans ?_ Touches.put rfl
  exact Touches.refl _

theorem State.timeTakesOver_touches {a0 : _} : Touches { regs := true, time := true } a0 (@State.timeTakesOver a0) := by
  unfold State.timeTakesOver
  refine Touches.ite ?_ ?_
  · dsimp only
    split
    · rename_i v0 v1 v2
      refine Touches.trans ?_ Touches.put rfl
      refine Touches.trans ?_ Touches.put rfl
      refine Touches.trans ?_ State.onTime_touches rfl
      exact Touches.refl _
    · rename_i v3 v4
      refine Touches.trans ?_ State.onTime_touches rfl
      exact Touches.refl _
  · exact Touches.refl _

/-! Units. -/

theorem State.showUnit_touches {a0 : _} : Touches { regs := true } a0 (@State.showUnit a0) := by
  unfold State.showUnit
  refine Touches.trans ?_ Touches.put rfl
  exact Touches.refl _

theorem State.mailNext_touches {a0 : _} {a1 : _} : Touches { lcp := true, lanes := true } a0 (@State.mailNext a0 a1) := by
  unfold State.mailNext
  dsimp only
  refine Touches.mkUpd ?_ (by simp only [State.without, cond_true, cond_false])
  refine Touches.trans ?_ State.sendService_touches rfl
  exact Touches.refl _

theorem State.mailSend_touches {a0 : _} {a1 : _} {a2 : _} {a3 : _} {a4 : _} {a5 : _} {a6 : _} {a7 : _} {a8 : _} : Touches { lcp := true, lanes := true } a0 (@State.mailSend a0 a1 a2 a3 a4 a5 a6 a7 a8) := by
  unfold State.mailSend
  refine Touches.trans ?_ State.mailNext_touches rfl
  exact Touches.refl _

theorem mailed_touches {m : Parts} {a0 : _} {a1 : _} {a2 : _} {a3 : _} {a4 : _} {a5 : _} (h4 : ∀ y0 y1, Touches m y1 (a4 y0 y1).st) (l : Parts.le { regs := true, beat := true, lcp := true, lanes := true } m = true) : Touches m a5 (@mailed a0 a1 a2 a3 a4 a5) := by
  unfold mailed
  split
  · rename_i v0 v1 v2
    dsimp only
    split
    · rename_i v3 v4 v5 v6
      refine Touches.trans ?_ State.answer_touches (Parts.le_trans rfl l)
      refine Touches.trans ?_ State.noteSeq_touches (Parts.le_trans rfl l)
      exact Touches.refl _
    · rename_i v7 v8
      split
      · rename_i v9 v10 v11 v12 v13 v14 v15 v16
        refine Touches.ite ?_ ?_
        · refine Touches.trans ?_ State.answer_touches (Parts.le_trans rfl l)
          refine Touches.trans ?_ State.noteSeq_touches (Parts.le_trans rfl l)
          exact Touches.refl _
        · refine Touches.trans ?_ State.mailSend_touches (Parts.le_trans rfl l)
          refine Touches.trans ?_ State.noteSeq_touches (Parts.le_trans rfl l)
          exact Touches.refl _
      · rename_i v17 v18
        refine Touches.trans ?_ State.answer_touches (Parts.le_trans rfl l)
        refine Touches.comp ?_ (h4 ..)
        refine Touches.trans ?_ State.noteSeq_touches (Parts.le_trans rfl l)
        exact Touches.refl _
  · rename_i v19 v20
    refine Touches.trans ?_ turnedAway_touches (Parts.le_trans rfl l)
    exact Touches.refl _

theorem State.mailDone_touches {a0 : _} {a1 : _} {a2 : _} {a3 : _} : Touches { lcp := true } a0 (@State.mailDone a0 a1 a2 a3) := by
  unfold State.mailDone
  dsimp only
  refine Touches.ite ?_ ?_
  · refine Touches.trans ?_ State.answer_touches rfl
    refine Touches.mkUpd ?_ (by simp only [State.without, cond_true, cond_false])
    exact Touches.refl _
  · refine Touches.trans ?_ State.answer_touches rfl
    refine Touches.mkUpd ?_ (by simp only [State.without, cond_true, cond_false])
    exact Touches.refl _

theorem execMailboxReply_touches {a0 : _} {a1 : _} {a2 : _} {a3 : _} {a4 : _} {a5 : _} {a6 : _} {a7 : _} {t : State} (h : (@execMailboxReply a0 a1 a2 a3 a4 a5 a6 a7) = .next t) : Touches { lcp := true, lanes := true } a7 t := by
  unfold execMailboxReply at h
  injection h with h
  subst h
  split
  · rename_i v0 v1
    exact Touches.refl _
  · rename_i v2 v3 v4
    dsimp only
    refine Touches.ite ?_ ?_
    · refine Touches.trans ?_ State.mailNext_touches rfl
      refine Touches.mkUpd ?_ (by simp only [State.without, cond_true, cond_false])
      exact Touches.refl _
    · refine Touches.trans ?_ State.mailDone_touches rfl
      exact Touches.refl _

theorem execMailboxTimeout_touches {a0 : _} {a1 : _} {a2 : _} {a3 : _} {t : State} (h : (@execMailboxTimeout a0 a1 a2 a3) = .next t) : Touches { lcp := true } a3 t := by
  unfold execMailboxTimeout at h
  injection h with h
  subst h
  split
  · rename_i v0 v1
    exact Touches.refl _
  · rename_i v2 v3 v4
    refine Touches.trans ?_ State.mailDone_touches rfl
    exact Touches.refl _

theorem unitListBody_touches {a0 : _} {a1 : _} {a2 : _} : Touches {} a2 (@unitListBody a0 a1 a2).st := by
  unfold unitListBody
  dsimp only
  exact Touches.refl _

theorem execUnitList_touches {a0 : _} {a1 : _} {t : State} (h : (@execUnitList a0 a1) = .next t) : Touches { regs := true, beat := true, lcp := true } a1 t := by
  unfold execUnitList at h
  injection h with h
  subst h
  refine Touches.comp ?_ (served_touches ?_ rfl)
  · exact Touches.refl _
  · intro v0 v1
    refine Touches.trans ?_ unitListBody_touches rfl
    exact Touches.refl _

theorem execUnitInfo_touches {a0 : _} {a1 : _} {t : State} (h : (@execUnitInfo a0 a1) = .next t) : Touches { regs := true, beat := true, lcp := true } a1 t := by
  unfold execUnitInfo at h
  injection h with h
  subst h
  refine Touches.comp ?_ (served_touches ?_ rfl)
  · exact Touches.refl _
  · intro v0 v1
    dsimp only
    exact Touches.refl _

theorem execUnitEpochGet_touches {a0 : _} {a1 : _} {t : State} (h : (@execUnitEpochGet a0 a1) = .next t) : Touches { regs := true, beat := true, lcp := true } a1 t := by
  unfold execUnitEpochGet at h
  injection h with h
  subst h
  refine Touches.comp ?_ (served_touches ?_ rfl)
  · exact Touches.refl _
  · intro v0 v1
    dsimp only
    exact Touches.refl _

theorem unitCertGetBody_touches {a0 : _} {a1 : _} {a2 : _} : Touches { free := true } a2 (@unitCertGetBody a0 a1 a2).st := by
  unfold unitCertGetBody
  dsimp only
  refine Touches.iteSt ?_ ?_
  · dsimp only
    exact Touches.refl _
  · dsimp only
    refine Touches.trans ?_ State.fresh_touches rfl
    exact Touches.refl _

theorem execUnitCertGet_touches {a0 : _} {a1 : _} {t : State} (h : (@execUnitCertGet a0 a1) = .next t) : Touches { regs := true, free := true, beat := true, lcp := true, lanes := true } a1 t := by
  unfold execUnitCertGet at h
  injection h with h
  subst h
  refine Touches.comp ?_ (mailed_touches ?_ rfl)
  · exact Touches.refl _
  · intro v0 v1
    refine Touches.trans ?_ unitCertGetBody_touches rfl
    exact Touches.refl _

theorem State.wrapKey_touches {a0 : _} : Touches { regs := true, ev := true, units := true } a0 (@State.wrapKey a0) := by
  unfold State.wrapKey
  refine Touches.ite ?_ ?_
  · refine Touches.trans ?_ State.raise_touches rfl
    refine Touches.mkUpd ?_ (by simp only [State.without, cond_true, cond_false])
    exact Touches.refl _
  · exact Touches.refl _

theorem csrCreateBody_touches {a0 : _} {a1 : _} {a2 : _} : Touches { regs := true, free := true, ev := true, units := true, sec := true } a2 (@csrCreateBody a0 a1 a2).st := by
  unfold csrCreateBody
  dsimp only
  refine Touches.trans ?_ State.fresh_touches rfl
  refine Touches.trans ?_ State.fresh_touches rfl
  refine Touches.trans ?_ State.wrapKey_touches rfl
  refine Touches.ite ?_ ?_
  · refine Touches.ite ?_ ?_
    · refine Touches.trans ?_ Touches.put rfl
      refine Touches.mkUpd ?_ (by simp only [State.without, cond_true, cond_false])
      refine Touches.trans ?_ State.auditBy_touches rfl
      exact Touches.refl _
    · refine Touches.mkUpd ?_ (by simp only [State.without, cond_true, cond_false])
      refine Touches.trans ?_ State.auditBy_touches rfl
      exact Touches.refl _
  · refine Touches.trans ?_ State.auditBy_touches rfl
    exact Touches.refl _

theorem execCsrCreate_touches {a0 : _} {a1 : _} {t : State} (h : (@execCsrCreate a0 a1) = .next t) : Touches { regs := true, free := true, beat := true, ev := true, lcp := true, units := true, sec := true } a1 t := by
  unfold execCsrCreate at h
  injection h with h
  subst h
  refine Touches.trans ?_ auditRefused_touches rfl
  refine Touches.comp ?_ (served_touches ?_ rfl)
  · exact Touches.refl _
  · intro v0 v1
    refine Touches.trans ?_ csrCreateBody_touches rfl
    exact Touches.refl _

theorem State.certRecord_touches {a0 : _} {a1 : _} : Touches { regs := true, ev := true, jr := true } a0 (@State.certRecord a0 a1) := by
  unfold State.certRecord
  refine Touches.trans ?_ State.journal_touches rfl
  exact Touches.refl _

theorem certInstallBody_touches {a0 : _} {a1 : _} {a2 : _} : Touches { regs := true, free := true, ev := true, lcp := true, jr := true, units := true, sec := true } a2 (@certInstallBody a0 a1 a2).st := by
  unfold certInstallBody
  dsimp only
  refine Touches.iteSt ?_ ?_
  · dsimp only
    refine Touches.trans ?_ State.raise_touches rfl
    refine Touches.trans ?_ State.bumpPair_touches rfl
    refine Touches.mkUpd ?_ (by simp only [State.without, cond_true, cond_false])
    refine Touches.trans ?_ State.fresh_touches rfl
    refine Touches.trans ?_ State.raise_touches rfl
    refine Touches.trans ?_ State.certRecord_touches rfl
    iterate 4 refine Touches.trans ?_ Touches.put rfl
    refine Touches.mkUpd ?_ (by simp only [State.without, cond_true, cond_false])
    refine Touches.trans ?_ State.auditBy_touches rfl
    exact Touches.refl _
  · dsimp only
    refine Touches.trans ?_ State.raise_touches rfl
    refine Touches.trans ?_ State.certRecord_touches rfl
    iterate 4 refine Touches.trans ?_ Touches.put rfl
    refine Touches.mkUpd ?_ (by simp only [State.without, cond_true, cond_false])
    refine Touches.trans ?_ State.auditBy_touches rfl
    exact Touches.refl _

theorem execCertInstall_touches {a0 : _} {a1 : _} {t : State} (h : (@execCertInstall a0 a1) = .next t) : Touches { regs := true, free := true, beat := true, ev := true, lcp := true, jr := true, units := true, sec := true } a1 t := by
  unfold execCertInstall at h
  injection h with h
  subst h
  refine Touches.trans ?_ auditRefused_touches rfl
  refine Touches.comp ?_ (servedTracked_touches ?_ rfl)
  · exact Touches.refl _
  · intro v0 v1
    refine Touches.trans ?_ certInstallBody_touches rfl
    exact Touches.refl _

theorem execCertExpiring_touches {a0 : _} {a1 : _} {t : State} (h : (@execCertExpiring a0 a1) = .next t) : Touches { regs := true, ev := true, units := true } a1 t := by
  unfold execCertExpiring at h
  injection h with h
  subst h
  refine Touches.ite ?_ ?_
  · refine Touches.trans ?_ State.raise_touches rfl
    refine Touches.mkUpd ?_ (by simp only [State.without, cond_true, cond_false])
    exact Touches.refl _
  · exact Touches.refl _

theorem execCertExpired_touches {a0 : _} {a1 : _} {t : State} (h : (@execCertExpired a0 a1) = .next t) : Touches { regs := true, ev := true } a1 t := by
  unfold execCertExpired at h
  injection h with h
  subst h
  refine Touches.ite ?_ ?_
  · refine Touches.trans ?_ State.raise_touches rfl
    refine Touches.trans ?_ Touches.put rfl
    exact Touches.refl _
  · exact Touches.refl _

/-! Security. -/

theorem State.tokenRejected_touches {a0 : _} {a1 : _} {a2 : _} {a3 : _} : Touches { regs := true, ev := true, sec := true } a0 (@State.tokenRejected a0 a1 a2 a3) := by
  unfold State.tokenRejected
  dsimp only
  refine Touches.trans ?_ State.raise_touches rfl
  refine Touches.trans ?_ State.auditBy_touches rfl
  refine Touches.trans ?_ Touches.inc rfl
  exact Touches.refl _

theorem securityStateSetApply_touches {a0 : _} {a1 : _} : Touches { regs := true, beat := true, ev := true, lcp := true, jr := true, units := true, wd := true, rt := true, pair := true, sec := true, triad := true, field := true, can := true } a1 (@securityStateSetApply a0 a1).st := by
  unfold securityStateSetApply
  dsimp only
  refine Touches.iteSt ?_ ?_
  · dsimp only
    exact Touches.refl _
  · refine Touches.iteSt ?_ ?_
    · dsimp only
      refine Touches.ite ?_ ?_
      · refine Touches.trans ?_ State.tokenRejected_touches rfl
        refine Touches.trans ?_ State.auditBy_touches rfl
        exact Touches.refl _
      · refine Touches.trans ?_ State.auditBy_touches rfl
        exact Touches.refl _
    · refine Touches.iteSt ?_ ?_
      · dsimp only
        refine Touches.trans ?_ Touches.put rfl
        refine Touches.trans ?_ State.raise_touches rfl
        refine Touches.trans ?_ Touches.put rfl
        refine Touches.ite ?_ ?_
        · refine Touches.trans ?_ Touches.put rfl
          refine Touches.trans ?_ State.endDebug_touches rfl
          refine Touches.trans ?_ State.auditBy_touches rfl
          exact Touches.refl _
        · refine Touches.trans ?_ State.endDebug_touches rfl
          refine Touches.trans ?_ State.auditBy_touches rfl
          exact Touches.refl _
      · refine Touches.iteSt ?_ ?_
        · dsimp only
          refine Touches.trans ?_ State.enterStart_touches rfl
          refine Touches.trans ?_ State.raise_touches rfl
          refine Touches.trans ?_ Touches.put rfl
          refine Touches.ite ?_ ?_
          · refine Touches.trans ?_ Touches.put rfl
            refine Touches.trans ?_ State.endDebug_touches rfl
            refine Touches.trans ?_ State.auditBy_touches rfl
            exact Touches.refl _
          · refine Touches.trans ?_ State.endDebug_touches rfl
            refine Touches.trans ?_ State.auditBy_touches rfl
            exact Touches.refl _
        · dsimp only
          refine Touches.trans ?_ State.raise_touches rfl
          refine Touches.trans ?_ Touches.put rfl
          refine Touches.ite ?_ ?_
          · refine Touches.trans ?_ Touches.put rfl
            refine Touches.trans ?_ State.endDebug_touches rfl
            refine Touches.trans ?_ State.auditBy_touches rfl
            exact Touches.refl _
          · refine Touches.trans ?_ State.endDebug_touches rfl
            refine Touches.trans ?_ State.auditBy_touches rfl
            exact Touches.refl _

theorem execSecurityStateSet_touches {a0 : _} {a1 : _} {t : State} (h : (@execSecurityStateSet a0 a1) = .next t) : Touches { regs := true, beat := true, ev := true, lcp := true, sec := true } a1 t := by
  unfold execSecurityStateSet at h
  injection h with h
  subst h
  refine Touches.ite ?_ ?_
  · refine Touches.trans ?_ State.tokenRejected_touches rfl
    refine Touches.trans ?_ auditRefused_touches rfl
    refine Touches.trans ?_ queued_touches rfl
    exact Touches.refl _
  · refine Touches.trans ?_ auditRefused_touches rfl
    refine Touches.trans ?_ queued_touches rfl
    exact Touches.refl _

theorem debugInstallBody_touches {a0 : _} {a1 : _} {a2 : _} : Touches { regs := true, ev := true, sec := true } a2 (@debugInstallBody a0 a1 a2).st := by
  unfold debugInstallBody
  dsimp only
  refine Touches.trans ?_ State.raise_touches rfl
  refine Touches.mkUpd ?_ (by simp only [State.without, cond_true, cond_false])
  iterate 7 refine Touches.trans ?_ Touches.put rfl
  refine Touches.trans ?_ State.auditBy_touches rfl
  exact Touches.refl _

theorem execDebugTokenInstall_touches {a0 : _} {a1 : _} {t : State} (h : (@execDebugTokenInstall a0 a1) = .next t) : Touches { regs := true, beat := true, ev := true, lcp := true, sec := true } a1 t := by
  unfold execDebugTokenInstall at h
  injection h with h
  subst h
  refine Touches.ite ?_ ?_
  · refine Touches.trans ?_ State.tokenRejected_touches rfl
    refine Touches.trans ?_ auditRefused_touches rfl
    refine Touches.comp ?_ (served_touches ?_ rfl)
    · exact Touches.refl _
    · intro v0 v1
      refine Touches.trans ?_ debugInstallBody_touches rfl
      exact Touches.refl _
  · refine Touches.trans ?_ auditRefused_touches rfl
    refine Touches.comp ?_ (served_touches ?_ rfl)
    · exact Touches.refl _
    · intro v2 v3
      refine Touches.trans ?_ debugInstallBody_touches rfl
      exact Touches.refl _

theorem State.dbgHalt_touches {a0 : _} : Touches { regs := true, free := true, ev := true, lcp := true, jr := true, units := true, rt := true, loops := true, pair := true, sec := true } a0 (@State.dbgHalt a0) := by
  unfold State.dbgHalt
  refine Touches.ite ?_ ?_
  · exact Touches.refl _
  · dsimp only
    refine Touches.ite ?_ ?_
    · refine Touches.mkUpd ?_ (by simp only [State.without, cond_true, cond_false])
      refine Touches.trans ?_ State.dropSync_touches rfl
      refine Touches.trans ?_ Touches.put rfl
      refine Touches.trans ?_ Touches.put rfl
      refine Touches.trans ?_ State.fresh_touches rfl
      refine Touches.trans ?_ State.auditBy_touches rfl
      exact Touches.refl _
    · refine Touches.ite ?_ ?_
      · refine Touches.trans ?_ State.stopShadow_touches rfl
        refine Touches.trans ?_ Touches.put rfl
        refine Touches.trans ?_ Touches.put rfl
        refine Touches.trans ?_ State.fresh_touches rfl
        refine Touches.trans ?_ State.auditBy_touches rfl
        exact Touches.refl _
      · refine Touches.trans ?_ Touches.put rfl
        refine Touches.trans ?_ Touches.put rfl
        refine Touches.trans ?_ State.fresh_touches rfl
        refine Touches.trans ?_ State.auditBy_touches rfl
        exact Touches.refl _

theorem State.dbgResume_touches {a0 : _} : Touches { regs := true, ev := true, rt := true, sec := true } a0 (@State.dbgResume a0) := by
  unfold State.dbgResume
  refine Touches.ite ?_ ?_
  · exact Touches.refl _
  · refine Touches.trans ?_ Touches.put rfl
    refine Touches.trans ?_ State.dropCycles_touches rfl
    refine Touches.trans ?_ State.auditBy_touches rfl
    exact Touches.refl _

theorem State.dbgStep_touches {a0 : _} : Touches { regs := true, free := true, ev := true, sec := true } a0 (@State.dbgStep a0) := by
  unfold State.dbgStep
  refine Touches.ite ?_ ?_
  · exact Touches.refl _
  · dsimp only
    refine Touches.trans ?_ Touches.put rfl
    refine Touches.trans ?_ State.fresh_touches rfl
    refine Touches.trans ?_ State.auditBy_touches rfl
    exact Touches.refl _

theorem State.lineAlike_touches {a0 : _} {a1 : _} {a2 : _} : Touches { mem := true, triad := true } a0 (@State.lineAlike a0 a1 a2) := by
  unfold State.lineAlike
  dsimp only
  refine Touches.mkUpd ?_ (by simp only [State.without, cond_true, cond_false])
  exact Touches.refl _

theorem State.dbgWindowWrite_touches {a0 : _} {a1 : _} : Touches { regs := true, mem := true, ev := true, sec := true, triad := true } a0 (@State.dbgWindowWrite a0 a1) := by
  unfold State.dbgWindowWrite
  refine Touches.ite ?_ ?_
  · exact Touches.refl _
  · dsimp only
    refine Touches.trans ?_ State.lineAlike_touches rfl
    refine Touches.ite ?_ ?_
    · refine Touches.trans ?_ Touches.put rfl
      refine Touches.trans ?_ State.auditBy_touches rfl
      exact Touches.refl _
    · refine Touches.trans ?_ State.auditBy_touches rfl
      exact Touches.refl _

theorem execDbgCmdHalt_touches {a0 : _} {t : State} (h : (@execDbgCmdHalt a0) = .next t) : Touches { regs := true, free := true, ev := true, lcp := true, jr := true, units := true, rt := true, loops := true, pair := true, sec := true } a0 t := by
  unfold execDbgCmdHalt at h
  injection h with h
  subst h
  refine Touches.trans ?_ State.dbgHalt_touches rfl
  exact Touches.refl _

theorem execDbgCmdResume_touches {a0 : _} {t : State} (h : (@execDbgCmdResume a0) = .next t) : Touches { regs := true, ev := true, rt := true, sec := true } a0 t := by
  unfold execDbgCmdResume at h
  injection h with h
  subst h
  refine Touches.trans ?_ State.dbgResume_touches rfl
  exact Touches.refl _

theorem execDbgCmdStep_touches {a0 : _} {t : State} (h : (@execDbgCmdStep a0) = .next t) : Touches { regs := true, free := true, ev := true, sec := true } a0 t := by
  unfold execDbgCmdStep at h
  injection h with h
  subst h
  refine Touches.trans ?_ State.dbgStep_touches rfl
  exact Touches.refl _

theorem execDbgCmdEndSession_touches {a0 : _} {t : State} (h : (@execDbgCmdEndSession a0) = .next t) : Touches { regs := true, ev := true, rt := true, sec := true } a0 t := by
  unfold execDbgCmdEndSession at h
  injection h with h
  subst h
  refine Touches.trans ?_ State.endDebug_touches rfl
  exact Touches.refl _

theorem execDbgWindowWrite_touches {a0 : _} {a1 : _} {t : State} (h : (@execDbgWindowWrite a0 a1) = .next t) : Touches { regs := true, mem := true, ev := true, sec := true, triad := true } a1 t := by
  unfold execDbgWindowWrite at h
  injection h with h
  subst h
  refine Touches.trans ?_ State.dbgWindowWrite_touches rfl
  exact Touches.refl _

theorem execDebugDurationEnd_touches {a0 : _} {t : State} (h : (@execDebugDurationEnd a0) = .next t) : Touches { regs := true, ev := true, rt := true, sec := true } a0 t := by
  unfold execDebugDurationEnd at h
  injection h with h
  subst h
  refine Touches.trans ?_ State.endDebug_touches rfl
  exact Touches.refl _

theorem State.traceItems_touches {n : Nat} {s : State} : Touches { regs := true, free := true, sec := true } s (s.traceItems n) := by
  induction n generalizing s with
  | zero => exact Touches.refl s
  | succ n ih =>
    unfold State.traceItems
    dsimp only
    refine Touches.comp ?_ ih
    refine Touches.comp (t := State.put _ _ _) ?_ (Touches.ite (Touches.trans (Touches.refl _) Touches.inc rfl) (Touches.refl _))
    refine Touches.trans ?_ Touches.put rfl
    refine Touches.mkUpd ?_ rfl
    exact Touches.trans (Touches.refl _) State.fresh_touches rfl

theorem State.debugEdge_touches {a0 : _} : Touches { regs := true, free := true, ev := true, rt := true, sec := true } a0 (@State.debugEdge a0) := by
  unfold State.debugEdge
  dsimp only
  refine Touches.ite ?_ ?_
  · refine Touches.ite ?_ ?_
    · refine Touches.trans ?_ State.traceItems_touches rfl
      refine Touches.trans ?_ State.fresh_touches rfl
      exact Touches.refl _
    · exact Touches.refl _
  · refine Touches.ite ?_ ?_
    · refine Touches.trans ?_ State.endDebug_touches rfl
      refine Touches.ite ?_ ?_
      · refine Touches.trans ?_ State.traceItems_touches rfl
        refine Touches.trans ?_ State.fresh_touches rfl
        exact Touches.refl _
      · exact Touches.refl _
    · refine Touches.trans ?_ Touches.put rfl
      refine Touches.mkUpd ?_ (by simp only [State.without, cond_true, cond_false])
      refine Touches.ite ?_ ?_
      · refine Touches.trans ?_ State.traceItems_touches rfl
        refine Touches.trans ?_ State.fresh_touches rfl
        exact Touches.refl _
      · exact Touches.refl _

theorem State.mpuFaults_touches {a0 : _} {a1 : _} {a2 : _} {a3 : _} {a4 : _} {a5 : _} {a6 : _} : Touches { regs := true, beat := true, ev := true, rt := true, loops := true, pair := true } a0 (@State.mpuFaults a0 a1 a2 a3 a4 a5 a6) := by
  unfold State.mpuFaults
  dsimp only
  split
  · rename_i v0 v1
    exact Touches.refl _
  · rename_i v2 v3 v4 v5 v6 v7
    refine Touches.ite ?_ ?_
    · refine Touches.trans ?_ State.raise_touches rfl
      refine Touches.trans ?_ Touches.inc rfl
      iterate 4 refine Touches.trans ?_ Touches.put rfl
      refine Touches.trans ?_ Touches.putFlag rfl
      iterate 4 refine Touches.trans ?_ Touches.put rfl
      exact Touches.refl _
    · split
      · rename_i v8 v9 v10
        refine Touches.trans ?_ State.overrunStops_touches rfl
        refine Touches.trans ?_ State.raise_touches rfl
        refine Touches.trans ?_ Touches.inc rfl
        iterate 4 refine Touches.trans ?_ Touches.put rfl
        refine Touches.trans ?_ Touches.putFlag rfl
        iterate 4 refine Touches.trans ?_ Touches.put rfl
        exact Touches.refl _
      · rename_i v11 v12
        refine Touches.ite ?_ ?_
        · refine Touches.trans ?_ State.raise_touches rfl
          refine Touches.trans ?_ Touches.inc rfl
          iterate 4 refine Touches.trans ?_ Touches.put rfl
          refine Touches.trans ?_ Touches.putFlag rfl
          iterate 4 refine Touches.trans ?_ Touches.put rfl
          exact Touches.refl _
        · refine Touches.trans ?_ State.cause_touches rfl
          refine Touches.trans ?_ State.raise_touches rfl
          refine Touches.trans ?_ Touches.inc rfl
          iterate 4 refine Touches.trans ?_ Touches.put rfl
          refine Touches.trans ?_ Touches.putFlag rfl
          iterate 4 refine Touches.trans ?_ Touches.put rfl
          exact Touches.refl _

theorem execMpuFault_touches {a0 : _} {a1 : _} {a2 : _} {a3 : _} {a4 : _} {a5 : _} {a6 : _} {t : State} (h : (@execMpuFault a0 a1 a2 a3 a4 a5 a6) = .next t) : Touches { regs := true, beat := true, ev := true, rt := true, loops := true, pair := true } a6 t := by
  unfold execMpuFault at h
  injection h with h
  subst h
  refine Touches.trans ?_ State.mpuFaults_touches rfl
  exact Touches.refl _

theorem execMpuBankSwap_touches {a0 : _} {a1 : _} {a2 : _} {t : State} (h : (@execMpuBankSwap a0 a1 a2) = .next t) : Touches { sec := true } a2 t := by
  unfold execMpuBankSwap at h
  injection h with h
  subst h
  refine Touches.mkUpd ?_ (by simp only [State.without, cond_true, cond_false])
  exact Touches.refl _

theorem execAuditLinkCheck_touches {a0 : _} {t : State} (h : (@execAuditLinkCheck a0) = .next t) : Touches { regs := true, ev := true } a0 t := by
  unfold execAuditLinkCheck at h
  injection h with h
  subst h
  split
  · rename_i v0 v1
    refine Touches.trans ?_ Touches.put rfl
    exact Touches.refl _
  · rename_i v2 v3 v4
    refine Touches.trans ?_ State.raise_touches rfl
    refine Touches.trans ?_ Touches.put rfl
    exact Touches.refl _

theorem auditReadBody_touches {a0 : _} {a1 : _} {a2 : _} : Touches {} a2 (@auditReadBody a0 a1 a2).st := by
  unfold auditReadBody
  dsimp only
  exact Touches.refl _

theorem execAuditRead_touches {a0 : _} {a1 : _} {t : State} (h : (@execAuditRead a0 a1) = .next t) : Touches { regs := true, beat := true, lcp := true } a1 t := by
  unfold execAuditRead at h
  injection h with h
  subst h
  refine Touches.comp ?_ (served_touches ?_ rfl)
  · exact Touches.refl _
  · intro v0 v1
    refine Touches.trans ?_ auditReadBody_touches rfl
    exact Touches.refl _

/-! Power. -/

theorem State.onPwr_touches {a0 : _} {a1 : _} : Touches { pwr := true } a0 (@State.onPwr a0 a1) := by
  unfold State.onPwr
  refine Touches.mkUpd ?_ (by simp only [State.without, cond_true, cond_false])
  exact Touches.refl _

theorem State.showBank_touches {a0 : _} : Touches { regs := true } a0 (@State.showBank a0) := by
  unfold State.showBank
  refine Touches.trans ?_ Touches.putFlag rfl
  exact Touches.refl _

theorem execHoldupBankCharged_touches {a0 : _} {a1 : _} {t : State} (h : (@execHoldupBankCharged a0 a1) = .next t) : Touches { regs := true } a1 t := by
  unfold execHoldupBankCharged at h
  injection h with h
  subst h
  refine Touches.trans ?_ State.showBank_touches rfl
  refine Touches.trans ?_ Touches.put rfl
  exact Touches.refl _

theorem State.railsDown_touches {a0 : _} : Touches { regs := true, mem := true, beat := true, ev := true, lcp := true, jr := true, wd := true, rt := true, pair := true, sec := true, triad := true, pwr := true, lanes := true, field := true, can := true } a0 (@State.railsDown a0) := by
  unfold State.railsDown
  dsimp only
  iterate 11 refine Touches.trans ?_ Touches.put rfl
  refine Touches.trans ?_ State.onPwr_touches rfl
  refine Touches.mkUpd ?_ (by simp only [State.without, cond_true, cond_false])
  exact Touches.refl _

theorem State.commitSome_touches {a0 : _} {a1 : _} : Touches { regs := true, ev := true, lcp := true, jr := true } a0 (@State.commitSome a0 a1) := by
  unfold State.commitSome
  dsimp only
  refine Touches.foldl ?_ (fun v0 v1 => ?_)
  · refine Touches.ite ?_ ?_
    · refine Touches.trans ?_ State.rollDone_touches rfl
      exact Touches.refl _
    · exact Touches.refl _
  · refine Touches.trans ?_ State.commitRecord_touches rfl
    exact Touches.refl _

theorem State.flushJournal_touches {a0 : _} : Touches { regs := true, ev := true, lcp := true, jr := true, pwr := true } a0 (@State.flushJournal a0) := by
  unfold State.flushJournal
  dsimp only
  refine Touches.foldl ?_ (fun v0 v1 => ?_)
  · refine Touches.trans ?_ State.commitSome_touches rfl
    exact Touches.refl _
  · refine Touches.trans ?_ State.recorderAppend_touches rfl
    exact Touches.refl _

theorem State.dropMirror_touches {a0 : _} : Touches { rt := true } a0 (@State.dropMirror a0) := by
  unfold State.dropMirror
  split
  · rename_i v0 v1
    exact Touches.refl _
  · rename_i v2 v3 v4
    refine Touches.ite ?_ ?_
    · refine Touches.mkUpd ?_ (by simp only [State.without, cond_true, cond_false])
      exact Touches.refl _
    · refine Touches.mkUpd ?_ (by simp only [State.without, cond_true, cond_false])
      exact Touches.refl _

theorem State.journalTimes_touches {a0 : _} : Touches { regs := true, ev := true, jr := true } a0 (@State.journalTimes a0) := by
  unfold State.journalTimes
  refine Touches.trans ?_ State.journal_touches rfl
  refine Touches.trans ?_ State.journal_touches rfl
  exact Touches.refl _

theorem State.retainFlush_touches {a0 : _} : Touches { regs := true, rt := true } a0 (@State.retainFlush a0) := by
  unfold State.retainFlush
  refine Touches.ite ?_ ?_
  · exact Touches.refl _
  · refine Touches.trans ?_ State.storeMirror_touches rfl
    exact Touches.refl _

theorem State.safeFrames_touches {a0 : _} : Touches { rt := true, lanes := true } a0 (@State.safeFrames a0) := by
  unfold State.safeFrames
  dsimp only
  refine Touches.mkUpd ?_ (by simp only [State.without, cond_true, cond_false])
  exact Touches.refl _

theorem State.shed_touches {a0 : _} : Touches { regs := true, ev := true, wd := true, rt := true, sec := true, triad := true, lanes := true } a0 (@State.shed a0) := by
  unfold State.shed
  dsimp only
  refine Touches.mkUpd ?_ (by simp only [State.without, cond_true, cond_false])
  refine Touches.trans ?_ State.surgeStops_touches rfl
  refine Touches.trans ?_ Touches.put rfl
  refine Touches.trans ?_ Touches.put rfl
  refine Touches.mkUpd ?_ (by simp only [State.without, cond_true, cond_false])
  refine Touches.trans ?_ State.endDebug_touches rfl
  exact Touches.refl _

theorem State.journalLast_touches {a0 : _} : Touches { regs := true, ev := true, lcp := true, jr := true, rt := true, panel := true } a0 (@State.journalLast a0) := by
  unfold State.journalLast
  dsimp only
  refine Touches.trans ?_ State.journalTimes_touches rfl
  refine Touches.trans ?_ State.dropMirror_touches rfl
  refine Touches.foldl ?_ (fun v0 v1 => ?_)
  · refine Touches.trans ?_ State.thaw_touches rfl
    refine Touches.trans ?_ State.rollAbandon_touches rfl
    exact Touches.refl _
  · refine Touches.trans ?_ State.deliver_touches rfl
    exact Touches.refl _

theorem State.flushBegins_touches {a0 : _} : Touches { rt := true } a0 (@State.flushBegins a0) := by
  unfold State.flushBegins
  refine Touches.ite ?_ ?_
  · exact Touches.refl _
  · refine Touches.ite ?_ ?_
    · refine Touches.mkUpd ?_ (by simp only [State.without, cond_true, cond_false])
      exact Touches.refl _
    · refine Touches.mkUpd ?_ (by simp only [State.without, cond_true, cond_false])
      exact Touches.refl _

theorem State.downUntil_touches {a0 : _} {a1 : _} : Touches { regs := true, ev := true, lcp := true, jr := true, rt := true, pwr := true, panel := true } a0 (@State.downUntil a0 a1) := by
  unfold State.downUntil
  refine Touches.ite ?_ ?_
  · refine Touches.trans ?_ State.commitSome_touches rfl
    refine Touches.trans ?_ State.journalLast_touches rfl
    exact Touches.refl _
  · refine Touches.ite ?_ ?_
    · refine Touches.trans ?_ State.flushBegins_touches rfl
      refine Touches.trans ?_ State.flushJournal_touches rfl
      refine Touches.trans ?_ State.journalLast_touches rfl
      exact Touches.refl _
    · refine Touches.ite ?_ ?_
      · refine Touches.trans ?_ State.retainFlush_touches rfl
        refine Touches.trans ?_ State.flushJournal_touches rfl
        refine Touches.trans ?_ State.journalLast_touches rfl
        exact Touches.refl _
      · refine Touches.trans ?_ State.dropMirror_touches rfl
        exact Touches.refl _

theorem State.railFails_touches {a0 : _} {a1 : _} {a2 : _} : Touches { regs := true, mem := true, beat := true, ev := true, lcp := true, jr := true, wd := true, rt := true, pair := true, sec := true, triad := true, pwr := true, lanes := true, field := true, can := true } a0 (@State.railFails a0 a1 a2) := by
  unfold State.railFails
  dsimp only
  refine Touches.ite ?_ ?_
  · refine Touches.trans ?_ State.railsDown_touches rfl
    refine Touches.trans ?_ State.latch_touches rfl
    refine Touches.trans ?_ Touches.inc rfl
    exact Touches.refl _
  · refine Touches.mkUpd ?_ (by simp only [State.without, cond_true, cond_false])
    refine Touches.trans ?_ State.railsDown_touches rfl
    refine Touches.trans ?_ State.latch_touches rfl
    refine Touches.trans ?_ Touches.inc rfl
    exact Touches.refl _

theorem State.powerdown_touches {a0 : _} {a1 : _} : Touches { regs := true, mem := true, beat := true, ev := true, lcp := true, jr := true, wd := true, rt := true, pair := true, sec := true, triad := true, pwr := true, panel := true, lanes := true, field := true, can := true } a0 (@State.powerdown a0 a1) := by
  unfold State.powerdown
  refine Touches.ite ?_ ?_
  · exact Touches.refl _
  · dsimp only
    split
    · rename_i v0 v1
      refine Touches.trans ?_ State.railFails_touches rfl
      refine Touches.trans ?_ Touches.put rfl
      refine Touches.trans ?_ State.downUntil_touches rfl
      refine Touches.trans ?_ State.shed_touches rfl
      refine Touches.trans ?_ State.raise_touches rfl
      refine Touches.trans ?_ State.latch_touches rfl
      refine Touches.trans ?_ Touches.put rfl
      refine Touches.trans ?_ Touches.inc rfl
      exact Touches.refl _
    · rename_i v2
      refine Touches.mkUpd ?_ (by simp only [State.without, cond_true, cond_false])
      refine Touches.trans ?_ State.railsDown_touches rfl
      refine Touches.trans ?_ State.latch_touches rfl
      refine Touches.trans ?_ Touches.put rfl
      refine Touches.trans ?_ State.retainFlush_touches rfl
      refine Touches.trans ?_ State.flushJournal_touches rfl
      refine Touches.trans ?_ State.journalLast_touches rfl
      refine Touches.trans ?_ State.shed_touches rfl
      refine Touches.trans ?_ State.raise_touches rfl
      refine Touches.trans ?_ State.latch_touches rfl
      refine Touches.trans ?_ Touches.put rfl
      refine Touches.trans ?_ Touches.inc rfl
      exact Touches.refl _

theorem execPowerdownStart_touches {a0 : _} {a1 : _} {t : State} (h : (@execPowerdownStart a0 a1) = .next t) : Touches { regs := true, mem := true, beat := true, ev := true, lcp := true, jr := true, wd := true, rt := true, pair := true, sec := true, triad := true, pwr := true, panel := true, lanes := true, field := true, can := true } a0 t := by
  unfold execPowerdownStart at h
  injection h with h
  subst h
  refine Touches.trans ?_ State.powerdown_touches rfl
  exact Touches.refl _

theorem State.crashDown_touches {a0 : _} {a1 : _} : Touches { regs := true, mem := true, beat := true, ev := true, lcp := true, jr := true, wd := true, rt := true, pair := true, sec := true, triad := true, pwr := true, lanes := true, field := true, can := true } a0 (@State.crashDown a0 a1) := by
  unfold State.crashDown
  refine Touches.ite ?_ ?_
  · exact Touches.refl _
  · refine Touches.trans ?_ State.railFails_touches rfl
    refine Touches.trans ?_ State.dropMirror_touches rfl
    exact Touches.refl _

theorem execCrashDown_touches {a0 : _} {a1 : _} {t : State} (h : (@execCrashDown a0 a1) = .next t) : Touches { regs := true, mem := true, beat := true, ev := true, lcp := true, jr := true, wd := true, rt := true, pair := true, sec := true, triad := true, pwr := true, lanes := true, field := true, can := true } a1 t := by
  unfold execCrashDown at h
  injection h with h
  subst h
  refine Touches.trans ?_ State.crashDown_touches rfl
  exact Touches.refl _

theorem State.leaveDormant_touches {a0 : _} : Touches { regs := true, ev := true, lcp := true, jr := true, units := true, pwr := true } a0 (@State.leaveDormant a0) := by
  unfold State.leaveDormant
  dsimp only
  refine Touches.ite ?_ ?_
  · refine Touches.trans ?_ State.setMode_touches rfl
    refine Touches.mkUpd ?_ (by simp only [State.without, cond_true, cond_false])
    refine Touches.trans ?_ State.onPwr_touches rfl
    exact Touches.refl _
  · refine Touches.mkUpd ?_ (by simp only [State.without, cond_true, cond_false])
    refine Touches.trans ?_ State.onPwr_touches rfl
    exact Touches.refl _

theorem State.powerUp_touches {a0 : _} {a1 : _} : Touches { regs := true, ev := true, lcp := true, jr := true, units := true, pwr := true } a0 (@State.powerUp a0 a1) := by
  unfold State.powerUp
  dsimp only
  refine Touches.trans ?_ State.bumpOwn_touches rfl
  refine Touches.trans ?_ State.refreshDrive_touches rfl
  refine Touches.trans ?_ State.latch_touches rfl
  iterate 6 refine Touches.trans ?_ Touches.put rfl
  refine Touches.trans ?_ State.leaveDormant_touches rfl
  exact Touches.refl _

theorem execPowerdownRestart_touches {a0 : _} {t : State} (h : (@execPowerdownRestart a0) = .next t) : Touches { regs := true, ev := true, lcp := true, jr := true, units := true, pwr := true } a0 t := by
  unfold execPowerdownRestart at h
  injection h with h
  subst h
  refine Touches.ite ?_ ?_
  · refine Touches.trans ?_ State.powerUp_touches rfl
    exact Touches.refl _
  · exact Touches.refl _

theorem State.trimCount_touches {a0 : _} {a1 : _} {a2 : _} : Touches { regs := true } a0 (@State.trimCount a0 a1 a2) := by
  unfold State.trimCount
  refine Touches.ite ?_ ?_
  · refine Touches.trans ?_ Touches.inc rfl
    exact Touches.refl _
  · exact Touches.refl _

theorem State.trimTimer_touches {a0 : _} {a1 : _} {a2 : _} {a3 : _} : Touches { regs := true, ev := true, pwr := true } a0 (@State.trimTimer a0 a1 a2 a3) := by
  unfold State.trimTimer
  dsimp only
  refine Touches.ite ?_ ?_
  · exact Touches.refl _
  · split
    · rename_i v0 v1
      refine Touches.trans ?_ State.onPwr_touches rfl
      exact Touches.refl _
    · rename_i v2 v3 v4
      refine Touches.ite ?_ ?_
      · refine Touches.trans ?_ State.raise_touches rfl
        refine Touches.trans ?_ State.onPwr_touches rfl
        refine Touches.trans ?_ State.trimCount_touches rfl
        exact Touches.refl _
      · refine Touches.trans ?_ State.trimCount_touches rfl
        exact Touches.refl _

theorem execTrimIdleTimer_touches {a0 : _} {a1 : _} {a2 : _} {a3 : _} {t : State} (h : (@execTrimIdleTimer a0 a1 a2 a3) = .next t) : Touches { regs := true, ev := true, pwr := true } a3 t := by
  unfold execTrimIdleTimer at h
  injection h with h
  subst h
  refine Touches.trans ?_ State.trimTimer_touches rfl
  exact Touches.refl _

theorem State.showTrim_touches {a0 : _} : Touches { regs := true } a0 (@State.showTrim a0) := by
  unfold State.showTrim
  dsimp only
  refine Touches.ite ?_ ?_
  · refine Touches.trans ?_ Touches.put rfl
    exact Touches.refl _
  · refine Touches.trans ?_ Touches.put rfl
    refine Touches.trans ?_ Touches.put rfl
    exact Touches.refl _

theorem State.holdAbsent_touches {a0 : _} : Touches { regs := true, pwr := true } a0 (@State.holdAbsent a0) := by
  unfold State.holdAbsent
  refine Touches.ite ?_ ?_
  · exact Touches.refl _
  · dsimp only
    refine Touches.trans ?_ State.showTrim_touches rfl
    refine Touches.trans ?_ State.onPwr_touches rfl
    exact Touches.refl _

theorem State.trimConfirm_touches {a0 : _} {a1 : _} : Touches { regs := true, pwr := true } a0 (@State.trimConfirm a0 a1) := by
  unfold State.trimConfirm
  dsimp only
  refine Touches.trans ?_ State.showTrim_touches rfl
  refine Touches.trans ?_ State.onPwr_touches rfl
  refine Touches.foldl ?_ (fun v0 v1 => ?_)
  · exact Touches.refl _
  · refine Touches.trans ?_ State.trimCount_touches rfl
    exact Touches.refl _

theorem execTrimEntryConfirm_touches {a0 : _} {a1 : _} {t : State} (h : (@execTrimEntryConfirm a0 a1) = .next t) : Touches { regs := true, pwr := true } a1 t := by
  unfold execTrimEntryConfirm at h
  injection h with h
  subst h
  refine Touches.trans ?_ State.trimConfirm_touches rfl
  exact Touches.refl _

theorem State.trimExit_touches {a0 : _} {a1 : _} : Touches { regs := true, pwr := true } a0 (@State.trimExit a0 a1) := by
  unfold State.trimExit
  dsimp only
  refine Touches.trans ?_ State.showTrim_touches rfl
  refine Touches.ite ?_ ?_
  · refine Touches.trans ?_ Touches.put rfl
    refine Touches.trans ?_ State.onPwr_touches rfl
    refine Touches.trans ?_ State.onPwr_touches rfl
    exact Touches.refl _
  · refine Touches.trans ?_ State.onPwr_touches rfl
    exact Touches.refl _

theorem State.trimWake_touches {a0 : _} {a1 : _} {a2 : _} {a3 : _} : Touches { regs := true, pwr := true } a0 (@State.trimWake a0 a1 a2 a3) := by
  unfold State.trimWake
  dsimp only
  refine Touches.ite ?_ ?_
  · refine Touches.ite ?_ ?_
    · refine Touches.ite ?_ ?_
      · refine Touches.trans ?_ Touches.put rfl
        refine Touches.trans ?_ State.trimCount_touches rfl
        refine Touches.trans ?_ State.onPwr_touches rfl
        refine Touches.ite ?_ ?_
        · exact Touches.refl _
        · refine Touches.trans ?_ Touches.put rfl
          exact Touches.refl _
      · refine Touches.trans ?_ State.trimCount_touches rfl
        refine Touches.trans ?_ State.onPwr_touches rfl
        refine Touches.ite ?_ ?_
        · exact Touches.refl _
        · refine Touches.trans ?_ Touches.put rfl
          exact Touches.refl _
    · refine Touches.trans ?_ State.trimExit_touches rfl
      refine Touches.trans ?_ State.trimConfirm_touches rfl
      refine Touches.ite ?_ ?_
      · exact Touches.refl _
      · refine Touches.trans ?_ Touches.put rfl
        exact Touches.refl _
  · refine Touches.trans ?_ State.trimExit_touches rfl
    refine Touches.ite ?_ ?_
    · exact Touches.refl _
    · refine Touches.trans ?_ Touches.put rfl
      exact Touches.refl _

theorem execTrimWake_touches {a0 : _} {a1 : _} {a2 : _} {a3 : _} {t : State} (h : (@execTrimWake a0 a1 a2 a3) = .next t) : Touches { regs := true, pwr := true } a3 t := by
  unfold execTrimWake at h
  injection h with h
  subst h
  refine Touches.trans ?_ State.trimWake_touches rfl
  exact Touches.refl _

theorem dormantEnterApply_touches {a0 : _} : Touches { regs := true, ev := true, jr := true, rt := true, sec := true, pwr := true } a0 (@dormantEnterApply a0).st := by
  unfold dormantEnterApply
  refine Touches.iteSt ?_ ?_
  · dsimp only
    exact Touches.refl _
  · refine Touches.iteSt ?_ ?_
    · dsimp only
      exact Touches.refl _
    · dsimp only
      refine Touches.trans ?_ State.onPwr_touches rfl
      refine Touches.trans ?_ State.journalTimes_touches rfl
      refine Touches.trans ?_ State.raise_touches rfl
      refine Touches.trans ?_ State.thaw_touches rfl
      refine Touches.trans ?_ State.rollAbandon_touches rfl
      iterate 4 refine Touches.trans ?_ Touches.put rfl
      refine Touches.trans ?_ State.endDebug_touches rfl
      exact Touches.refl _

theorem execDormantEnter_touches {a0 : _} {a1 : _} {t : State} (h : (@execDormantEnter a0 a1) = .next t) : Touches { regs := true, beat := true, lcp := true } a1 t := by
  unfold execDormantEnter at h
  injection h with h
  subst h
  refine Touches.trans ?_ queued_touches rfl
  exact Touches.refl _

theorem State.dormantFlush_touches {a0 : _} : Touches { rt := true, pwr := true } a0 (@State.dormantFlush a0) := by
  unfold State.dormantFlush
  refine Touches.ite ?_ ?_
  · dsimp only
    refine Touches.ite ?_ ?_
    · refine Touches.mkUpd ?_ (by simp only [State.without, cond_true, cond_false])
      refine Touches.trans ?_ State.onPwr_touches rfl
      exact Touches.refl _
    · refine Touches.trans ?_ State.onPwr_touches rfl
      exact Touches.refl _
  · exact Touches.refl _

theorem State.dormantEdge_touches {a0 : _} : Touches { regs := true, mem := true, beat := true, ev := true, lcp := true, jr := true, units := true, wd := true, rt := true, pair := true, sec := true, triad := true, pwr := true, lanes := true, field := true, can := true } a0 (@State.dormantEdge a0) := by
  unfold State.dormantEdge
  dsimp only
  refine Touches.ite ?_ ?_
  · refine Touches.trans ?_ State.dormantFlush_touches rfl
    exact Touches.refl _
  · split
    · rename_i v0 v1 v2
      refine Touches.trans ?_ State.powerUp_touches rfl
      refine Touches.trans ?_ Touches.put rfl
      refine Touches.trans ?_ Touches.put rfl
      refine Touches.trans ?_ State.railsDown_touches rfl
      refine Touches.trans ?_ State.latch_touches rfl
      refine Touches.trans ?_ State.flushJournal_touches rfl
      refine Touches.trans ?_ State.setMode_touches rfl
      refine Touches.trans ?_ State.surgeStops_touches rfl
      refine Touches.trans ?_ State.abandonResync_touches rfl
      refine Touches.trans ?_ State.dormantFlush_touches rfl
      exact Touches.refl _
    · rename_i v3 v4
      refine Touches.trans ?_ Touches.put rfl
      refine Touches.trans ?_ Touches.put rfl
      refine Touches.trans ?_ State.railsDown_touches rfl
      refine Touches.trans ?_ State.latch_touches rfl
      refine Touches.trans ?_ State.flushJournal_touches rfl
      refine Touches.trans ?_ State.setMode_touches rfl
      refine Touches.trans ?_ State.surgeStops_touches rfl
      refine Touches.trans ?_ State.abandonResync_touches rfl
      refine Touches.trans ?_ State.dormantFlush_touches rfl
      exact Touches.refl _

theorem State.dormantWake_touches {a0 : _} {a1 : _} : Touches { regs := true, ev := true, lcp := true, jr := true, units := true, pwr := true } a0 (@State.dormantWake a0 a1) := by
  unfold State.dormantWake
  refine Touches.ite ?_ ?_
  · refine Touches.trans ?_ State.powerUp_touches rfl
    exact Touches.refl _
  · refine Touches.ite ?_ ?_
    · refine Touches.trans ?_ State.onPwr_touches rfl
      exact Touches.refl _
    · refine Touches.ite ?_ ?_
      · dsimp only
        refine Touches.trans ?_ State.raise_touches rfl
        refine Touches.trans ?_ State.showTrim_touches rfl
        refine Touches.trans ?_ State.onPwr_touches rfl
        refine Touches.trans ?_ Touches.put rfl
        refine Touches.trans ?_ Touches.put rfl
        exact Touches.refl _
      · exact Touches.refl _

theorem execDormantWake_touches {a0 : _} {a1 : _} {t : State} (h : (@execDormantWake a0 a1) = .next t) : Touches { regs := true, ev := true, lcp := true, jr := true, units := true, pwr := true } a1 t := by
  unfold execDormantWake at h
  injection h with h
  subst h
  refine Touches.trans ?_ State.dormantWake_touches rfl
  exact Touches.refl _

theorem execPartnerWakePulse_touches {a0 : _} {t : State} (h : (@execPartnerWakePulse a0) = .next t) : Touches { pwr := true } a0 t := by
  unfold execPartnerWakePulse at h
  injection h with h
  subst h
  refine Touches.ite ?_ ?_
  · refine Touches.trans ?_ State.onPwr_touches rfl
    exact Touches.refl _
  · exact Touches.refl _

theorem powerStatusBody_touches {a0 : _} {a1 : _} : Touches { regs := true, free := true } a1 (@powerStatusBody a0 a1).st := by
  unfold powerStatusBody
  split
  · rename_i v0 v1 v2 v3
    dsimp only
    refine Touches.trans ?_ Touches.put rfl
    refine Touches.ofSnd v3 ?_
    refine Touches.trans ?_ State.fresh_touches rfl
    exact Touches.refl _

theorem execPowerStatus_touches {a0 : _} {a1 : _} {t : State} (h : (@execPowerStatus a0 a1) = .next t) : Touches { regs := true, free := true, beat := true, lcp := true } a1 t := by
  unfold execPowerStatus at h
  injection h with h
  subst h
  refine Touches.comp ?_ (served_touches ?_ rfl)
  · exact Touches.refl _
  · intro v0 v1
    refine Touches.trans ?_ powerStatusBody_touches rfl
    exact Touches.refl _

theorem execPowerStats_touches {a0 : _} {a1 : _} {t : State} (h : (@execPowerStats a0 a1) = .next t) : Touches { regs := true, beat := true, lcp := true } a1 t := by
  unfold execPowerStats at h
  injection h with h
  subst h
  refine Touches.comp ?_ (served_touches ?_ rfl)
  · exact Touches.refl _
  · intro v0 v1
    dsimp only
    exact Touches.refl _

end Sys2Proof.Machine
end

