-- ==== Sys2Proof/Laws/TouchC.lean ====
section
/-! SUPPORT. Which parts of the state each function of Images, Panel, Triad, Pair, Change may change. -/

set_option maxRecDepth 4000
namespace Sys2Proof.Machine

open Sys2Proof

/-! Images. -/

theorem State.onImg_touches {a0 : _} {a1 : _} : Touches { img := true } a0 (@State.onImg a0 a1) := by
  unfold State.onImg
  refine Touches.mkUpd ?_ (by simp only [State.without, cond_true, cond_false])
  exact Touches.refl _

theorem State.writeSlots_touches {a0 : _} {a1 : _} : Touches { img := true } a0 (@State.writeSlots a0 a1) := by
  unfold State.writeSlots
  refine Touches.trans ?_ State.onImg_touches rfl
  exact Touches.refl _

theorem deferred_touches {m : Parts} {a0 : _} {a1 : _} {a2 : _} {a3 : _} {a4 : _} (h3 : ∀ y0 y1, Touches m y1 (a3 y0 y1)) (l : Parts.le { regs := true, beat := true, lcp := true } m = true) : Touches m a4 (@deferred a0 a1 a2 a3 a4) := by
  unfold deferred
  split
  · rename_i v0 v1 v2
    dsimp only
    split
    · rename_i v3 v4 v5 v6
      refine Touches.trans ?_ State.answer_touches (Parts.le_trans rfl l)
      refine Touches.trans ?_ State.noteSeq_touches (Parts.le_trans rfl l)
      exact Touches.refl _
    · rename_i v7 v8
      refine Touches.comp ?_ (h3 ..)
      refine Touches.trans ?_ State.noteSeq_touches (Parts.le_trans rfl l)
      exact Touches.refl _
  · rename_i v9 v10
    refine Touches.trans ?_ turnedAway_touches (Parts.le_trans rfl l)
    exact Touches.refl _

theorem execImageHeader_touches {a0 : _} {a1 : _} {t : State} (h : (@execImageHeader a0 a1) = .next t) : Touches { regs := true, beat := true, lcp := true, wd := true, img := true } a1 t := by
  unfold execImageHeader at h
  injection h with h
  subst h
  refine Touches.comp ?_ (deferred_touches ?_ rfl)
  · exact Touches.refl _
  · intro v0 v1
    dsimp only
    refine Touches.trans ?_ State.eraseWanted_touches rfl
    refine Touches.trans ?_ State.onImg_touches rfl
    refine Touches.trans ?_ State.writeSlots_touches rfl
    exact Touches.refl _

theorem State.slotErased_touches {a0 : _} : Touches { lcp := true, img := true } a0 (@State.slotErased a0) := by
  unfold State.slotErased
  split
  · rename_i v0 v1
    exact Touches.refl _
  · rename_i v2 v3 v4 v5
    dsimp only
    refine Touches.trans ?_ State.answer_touches rfl
    refine Touches.mkUpd ?_ (by simp only [State.without, cond_true, cond_false])
    refine Touches.trans ?_ State.onImg_touches rfl
    exact Touches.refl _

theorem execImageEraseComplete_touches {a0 : _} {a1 : _} {a2 : _} {t : State} (h : (@execImageEraseComplete a0 a1 a2) = .next t) : Touches { regs := true, lcp := true, wd := true, img := true } a0 t := by
  unfold execImageEraseComplete at h
  injection h with h
  subst h
  refine Touches.ite ?_ ?_
  · exact Touches.refl _
  · refine Touches.ite ?_ ?_
    · refine Touches.trans ?_ State.eraseWanted_touches rfl
      refine Touches.trans ?_ State.eraseEnds_touches rfl
      exact Touches.refl _
    · refine Touches.trans ?_ State.slotErased_touches rfl
      refine Touches.trans ?_ State.eraseEnds_touches rfl
      exact Touches.refl _

theorem State.putTransfer_touches {a0 : _} {a1 : _} : Touches { lcp := true } a0 (@State.putTransfer a0 a1) := by
  unfold State.putTransfer
  refine Touches.mkUpd ?_ (by simp only [State.without, cond_true, cond_false])
  exact Touches.refl _

theorem State.closeTransfer_touches {a0 : _} {a1 : _} : Touches { lcp := true } a0 (@State.closeTransfer a0 a1) := by
  unfold State.closeTransfer
  refine Touches.mkUpd ?_ (by simp only [State.without, cond_true, cond_false])
  exact Touches.refl _

theorem execImageChunk_touches {a0 : _} {a1 : _} {t : State} (h : (@execImageChunk a0 a1) = .next t) : Touches { regs := true, beat := true, lcp := true } a1 t := by
  unfold execImageChunk at h
  injection h with h
  subst h
  refine Touches.comp ?_ (served_touches ?_ rfl)
  · exact Touches.refl _
  · intro v0 v1
    split
    · rename_i v2 v3
      dsimp only
      exact Touches.refl _
    · rename_i v4 v5 v6
      dsimp only
      refine Touches.trans ?_ State.putTransfer_touches rfl
      exact Touches.refl _

theorem State.journalProgram_touches {a0 : _} : Touches { regs := true, ev := true, jr := true } a0 (@State.journalProgram a0) := by
  unfold State.journalProgram
  refine Touches.trans ?_ State.journal_touches rfl
  exact Touches.refl _

theorem State.recordPairUpdate_touches {a0 : _} {a1 : _} {a2 : _} : Touches { regs := true, ev := true, jr := true, img := true } a0 (@State.recordPairUpdate a0 a1 a2) := by
  unfold State.recordPairUpdate
  refine Touches.ite ?_ ?_
  · exact Touches.refl _
  · dsimp only
    refine Touches.trans ?_ State.journalProgram_touches rfl
    refine Touches.trans ?_ Touches.put rfl
    refine Touches.trans ?_ State.onImg_touches rfl
    exact Touches.refl _

theorem State.clearPairUpdate_touches {a0 : _} : Touches { regs := true, ev := true, jr := true, img := true } a0 (@State.clearPairUpdate a0) := by
  unfold State.clearPairUpdate
  refine Touches.ite ?_ ?_
  · refine Touches.trans ?_ State.journalProgram_touches rfl
    refine Touches.trans ?_ Touches.put rfl
    refine Touches.trans ?_ State.onImg_touches rfl
    exact Touches.refl _
  · exact Touches.refl _

theorem State.stageImage_touches {a0 : _} {a1 : _} : Touches { regs := true, ev := true, lcp := true, jr := true, img := true } a0 (@State.stageImage a0 a1) := by
  unfold State.stageImage
  dsimp only
  refine Touches.trans ?_ State.recordPairUpdate_touches rfl
  refine Touches.trans ?_ State.onImg_touches rfl
  refine Touches.trans ?_ State.writeSlots_touches rfl
  refine Touches.trans ?_ State.closeTransfer_touches rfl
  exact Touches.refl _

theorem State.restartNow_touches {a0 : _} {a1 : _} : Touches { regs := true, beat := true, ev := true, lcp := true, jr := true, units := true, wd := true, rt := true, pair := true, sec := true, triad := true, field := true, can := true } a0 (@State.restartNow a0 a1) := by
  unfold State.restartNow
  refine Touches.ite ?_ ?_
  · refine Touches.trans ?_ State.moduleRestart_touches rfl
    exact Touches.refl _
  · exact Touches.refl _

theorem imageCommitBody_touches {a0 : _} {a1 : _} {a2 : _} : Touches { regs := true, beat := true, ev := true, lcp := true, jr := true, units := true, wd := true, rt := true, pair := true, sec := true, triad := true, img := true, field := true, can := true } a2 (@imageCommitBody a0 a1 a2) := by
  unfold imageCommitBody
  split
  · rename_i v0 v1
    exact Touches.refl _
  · rename_i v2 v3 v4
    dsimp only
    refine Touches.ite ?_ ?_
    · refine Touches.trans ?_ State.answer_touches rfl
      refine Touches.trans ?_ State.closeTransfer_touches rfl
      refine Touches.trans ?_ State.auditBy_touches rfl
      exact Touches.refl _
    · refine Touches.ite ?_ ?_
      · refine Touches.trans ?_ State.eraseWanted_touches rfl
        refine Touches.trans ?_ State.onImg_touches rfl
        refine Touches.trans ?_ State.stageImage_touches rfl
        refine Touches.trans ?_ State.auditBy_touches rfl
        exact Touches.refl _
      · refine Touches.trans ?_ State.restartNow_touches rfl
        refine Touches.trans ?_ State.answer_touches rfl
        refine Touches.trans ?_ State.stageImage_touches rfl
        refine Touches.trans ?_ State.auditBy_touches rfl
        exact Touches.refl _

theorem execImageCommit_touches {a0 : _} {a1 : _} {t : State} (h : (@execImageCommit a0 a1) = .next t) : Touches { regs := true, beat := true, ev := true, lcp := true, jr := true, units := true, wd := true, rt := true, pair := true, sec := true, triad := true, img := true, field := true, can := true } a1 t := by
  unfold execImageCommit at h
  injection h with h
  subst h
  refine Touches.comp ?_ (deferred_touches ?_ rfl)
  · exact Touches.refl _
  · intro v0 v1
    refine Touches.trans ?_ imageCommitBody_touches rfl
    exact Touches.refl _

theorem State.bankProgrammed_touches {a0 : _} : Touches { regs := true, beat := true, ev := true, lcp := true, jr := true, units := true, wd := true, rt := true, pair := true, sec := true, triad := true, img := true, field := true, can := true } a0 (@State.bankProgrammed a0) := by
  unfold State.bankProgrammed
  split
  · rename_i v0 v1
    exact Touches.refl _
  · rename_i v2 v3 v4 v5
    dsimp only
    refine Touches.trans ?_ State.restartNow_touches rfl
    refine Touches.trans ?_ State.answer_touches rfl
    refine Touches.trans ?_ State.onImg_touches rfl
    exact Touches.refl _

theorem execSupBankProgramDone_touches {a0 : _} {a1 : _} {a2 : _} {t : State} (h : (@execSupBankProgramDone a0 a1 a2) = .next t) : Touches { regs := true, beat := true, ev := true, lcp := true, jr := true, units := true, wd := true, rt := true, pair := true, sec := true, triad := true, img := true, field := true, can := true } a0 t := by
  unfold execSupBankProgramDone at h
  injection h with h
  subst h
  refine Touches.ite ?_ ?_
  · exact Touches.refl _
  · refine Touches.ite ?_ ?_
    · refine Touches.trans ?_ State.eraseWanted_touches rfl
      refine Touches.trans ?_ State.eraseEnds_touches rfl
      exact Touches.refl _
    · refine Touches.trans ?_ State.bankProgrammed_touches rfl
      refine Touches.trans ?_ State.eraseEnds_touches rfl
      exact Touches.refl _

theorem State.showImages_touches {a0 : _} : Touches { regs := true } a0 (@State.showImages a0) := by
  unfold State.showImages
  dsimp only
  refine Touches.trans ?_ Touches.put rfl
  refine Touches.trans ?_ Touches.put rfl
  refine Touches.trans ?_ Touches.putFlag rfl
  refine Touches.trans ?_ Touches.putFlag rfl
  exact Touches.refl _

theorem State.confirmType_touches {a0 : _} {a1 : _} : Touches { regs := true, img := true } a0 (@State.confirmType a0 a1) := by
  unfold State.confirmType
  dsimp only
  refine Touches.ite ?_ ?_
  · refine Touches.trans ?_ State.writeSlots_touches rfl
    refine Touches.trans ?_ Touches.peak rfl
    refine Touches.ite ?_ ?_
    · refine Touches.trans ?_ State.onImg_touches rfl
      refine Touches.trans ?_ State.writeSlots_touches rfl
      exact Touches.refl _
    · refine Touches.trans ?_ State.writeSlots_touches rfl
      exact Touches.refl _
  · refine Touches.trans ?_ Touches.peak rfl
    refine Touches.ite ?_ ?_
    · refine Touches.trans ?_ State.onImg_touches rfl
      refine Touches.trans ?_ State.writeSlots_touches rfl
      exact Touches.refl _
    · refine Touches.trans ?_ State.writeSlots_touches rfl
      exact Touches.refl _

theorem State.confirmAll_touches {a0 : _} {a1 : _} : Touches { regs := true, ev := true, jr := true, img := true } a0 (@State.confirmAll a0 a1) := by
  unfold State.confirmAll
  dsimp only
  refine Touches.trans ?_ State.clearPairUpdate_touches rfl
  refine Touches.trans ?_ State.showImages_touches rfl
  refine Touches.ite ?_ ?_
  · refine Touches.trans ?_ State.onImg_touches rfl
    refine Touches.trans ?_ Touches.put rfl
    refine Touches.foldl ?_ (fun v0 v1 => ?_)
    · exact Touches.refl _
    · refine Touches.trans ?_ State.confirmType_touches rfl
      exact Touches.refl _
  · refine Touches.foldl ?_ (fun v2 v3 => ?_)
    · exact Touches.refl _
    · refine Touches.trans ?_ State.confirmType_touches rfl
      exact Touches.refl _

theorem execImageAutoConfirm_touches {a0 : _} {t : State} (h : (@execImageAutoConfirm a0) = .next t) : Touches { regs := true, ev := true, jr := true, img := true } a0 t := by
  unfold execImageAutoConfirm at h
  injection h with h
  subst h
  refine Touches.ite ?_ ?_
  · refine Touches.trans ?_ State.confirmAll_touches rfl
    exact Touches.refl _
  · exact Touches.refl _

theorem imageConfirmBody_touches {a0 : _} {a1 : _} {a2 : _} : Touches { regs := true, ev := true, jr := true, sec := true, img := true } a2 (@imageConfirmBody a0 a1 a2).st := by
  unfold imageConfirmBody
  dsimp only
  refine Touches.trans ?_ State.confirmAll_touches rfl
  refine Touches.foldl ?_ (fun v0 v1 => ?_)
  · exact Touches.refl _
  · refine Touches.trans ?_ State.auditBy_touches rfl
    exact Touches.refl _

theorem execImageConfirm_touches {a0 : _} {a1 : _} {t : State} (h : (@execImageConfirm a0 a1) = .next t) : Touches { regs := true, beat := true, ev := true, lcp := true, jr := true, sec := true, img := true } a1 t := by
  unfold execImageConfirm at h
  injection h with h
  subst h
  refine Touches.comp ?_ (served_touches ?_ rfl)
  · exact Touches.refl _
  · intro v0 v1
    refine Touches.trans ?_ imageConfirmBody_touches rfl
    exact Touches.refl _

theorem execImageStatus_touches {a0 : _} {a1 : _} {t : State} (h : (@execImageStatus a0 a1) = .next t) : Touches { regs := true, beat := true, lcp := true } a1 t := by
  unfold execImageStatus at h
  injection h with h
  subst h
  refine Touches.comp ?_ (served_touches ?_ rfl)
  · exact Touches.refl _
  · intro v0 v1
    dsimp only
    exact Touches.refl _

theorem State.rejectImages_touches {a0 : _} : Touches { regs := true, beat := true, ev := true, lcp := true, jr := true, units := true, wd := true, rt := true, pair := true, sec := true, triad := true, img := true, field := true, can := true } a0 (@State.rejectImages a0) := by
  unfold State.rejectImages
  refine Touches.ite ?_ ?_
  · exact Touches.refl _
  · dsimp only
    refine Touches.ite ?_ ?_
    · refine Touches.trans ?_ Touches.put rfl
      refine Touches.trans ?_ State.onImg_touches rfl
      exact Touches.refl _
    · refine Touches.ite ?_ ?_
      · refine Touches.trans ?_ State.plan_touches rfl
        refine Touches.trans ?_ State.onImg_touches rfl
        exact Touches.refl _
      · refine Touches.ite ?_ ?_
        · refine Touches.trans ?_ State.onImg_touches rfl
          exact Touches.refl _
        · refine Touches.trans ?_ State.enterStart_touches rfl
          refine Touches.trans ?_ State.onImg_touches rfl
          exact Touches.refl _

theorem execImageRejection_touches {a0 : _} {a1 : _} {t : State} (h : (@execImageRejection a0 a1) = .next t) : Touches { regs := true, beat := true, ev := true, lcp := true, jr := true, units := true, wd := true, rt := true, pair := true, sec := true, triad := true, img := true, field := true, can := true } a1 t := by
  unfold execImageRejection at h
  injection h with h
  subst h
  refine Touches.ite ?_ ?_
  · refine Touches.trans ?_ State.rejectNext_touches rfl
    exact Touches.refl _
  · refine Touches.ite ?_ ?_
    · exact Touches.refl _
    · refine Touches.ite ?_ ?_
      · exact Touches.refl _
      · refine Touches.trans ?_ State.rejectImages_touches rfl
        exact Touches.refl _

theorem execConfirmDeadline_touches {a0 : _} {t : State} (h : (@execConfirmDeadline a0) = .next t) : Touches { regs := true, beat := true, ev := true, lcp := true, jr := true, units := true, wd := true, rt := true, pair := true, sec := true, triad := true, img := true, field := true, can := true } a0 t := by
  unfold execConfirmDeadline at h
  injection h with h
  subst h
  refine Touches.ite ?_ ?_
  · refine Touches.trans ?_ State.rejectImages_touches rfl
    exact Touches.refl _
  · exact Touches.refl _

theorem State.imagesEdge_touches {a0 : _} : Touches { regs := true, img := true } a0 (@State.imagesEdge a0) := by
  unfold State.imagesEdge
  refine Touches.ite ?_ ?_
  · exact Touches.refl _
  · dsimp only
    refine Touches.trans ?_ State.showImages_touches rfl
    refine Touches.trans ?_ State.onImg_touches rfl
    exact Touches.refl _

theorem State.startStaged_touches {a0 : _} {a1 : _} {a2 : _} : Touches { regs := true, img := true } a0 (@State.startStaged a0 a1 a2) := by
  unfold State.startStaged
  dsimp only
  refine Touches.ite ?_ ?_
  · exact Touches.refl _
  · refine Touches.ite ?_ ?_
    · refine Touches.ite ?_ ?_
      · refine Touches.trans ?_ Touches.put rfl
        refine Touches.trans ?_ Touches.put rfl
        refine Touches.trans ?_ State.writeSlots_touches rfl
        exact Touches.refl _
      · exact Touches.refl _
    · refine Touches.ite ?_ ?_
      · refine Touches.trans ?_ State.writeSlots_touches rfl
        exact Touches.refl _
      · refine Touches.trans ?_ State.writeSlots_touches rfl
        exact Touches.refl _

theorem State.fallBack_touches {a0 : _} {a1 : _} : Touches { regs := true, img := true } a0 (@State.fallBack a0 a1) := by
  unfold State.fallBack
  dsimp only
  refine Touches.ite ?_ ?_
  · exact Touches.refl _
  · refine Touches.ite ?_ ?_
    · refine Touches.trans ?_ Touches.put rfl
      refine Touches.trans ?_ Touches.put rfl
      refine Touches.trans ?_ State.onImg_touches rfl
      refine Touches.trans ?_ State.writeSlots_touches rfl
      exact Touches.refl _
    · refine Touches.trans ?_ State.writeSlots_touches rfl
      exact Touches.refl _

theorem State.takeFallback_touches {a0 : _} : Touches { regs := true, img := true } a0 (@State.takeFallback a0) := by
  unfold State.takeFallback
  dsimp only
  refine Touches.trans ?_ State.showImages_touches rfl
  refine Touches.trans ?_ State.onImg_touches rfl
  refine Touches.trans ?_ Touches.put rfl
  refine Touches.trans ?_ Touches.put rfl
  refine Touches.trans ?_ Touches.inc rfl
  refine Touches.trans ?_ Touches.put rfl
  refine Touches.foldl ?_ (fun v0 v1 => ?_)
  · exact Touches.refl _
  · refine Touches.trans ?_ State.fallBack_touches rfl
    exact Touches.refl _

theorem State.imagesStart_touches {a0 : _} {a1 : _} : Touches { regs := true, img := true } a0 (@State.imagesStart a0 a1) := by
  unfold State.imagesStart
  dsimp only
  refine Touches.ite ?_ ?_
  · refine Touches.trans ?_ State.showImages_touches rfl
    refine Touches.ite ?_ ?_
    · refine Touches.trans ?_ State.onImg_touches rfl
      refine Touches.foldl ?_ (fun v0 v1 => ?_)
      · refine Touches.trans ?_ Touches.put rfl
        refine Touches.trans ?_ State.onImg_touches rfl
        exact Touches.refl _
      · refine Touches.trans ?_ State.startStaged_touches rfl
        exact Touches.refl _
    · refine Touches.trans ?_ Touches.put rfl
      refine Touches.trans ?_ State.onImg_touches rfl
      refine Touches.foldl ?_ (fun v2 v3 => ?_)
      · refine Touches.trans ?_ Touches.put rfl
        refine Touches.trans ?_ State.onImg_touches rfl
        exact Touches.refl _
      · refine Touches.trans ?_ State.startStaged_touches rfl
        exact Touches.refl _
  · refine Touches.ite ?_ ?_
    · refine Touches.trans ?_ State.takeFallback_touches rfl
      refine Touches.trans ?_ Touches.put rfl
      refine Touches.trans ?_ State.onImg_touches rfl
      exact Touches.refl _
    · refine Touches.trans ?_ State.showImages_touches rfl
      refine Touches.trans ?_ State.onImg_touches rfl
      refine Touches.trans ?_ Touches.put rfl
      refine Touches.trans ?_ Touches.put rfl
      refine Touches.trans ?_ State.onImg_touches rfl
      exact Touches.refl _

/-! Panel. -/

theorem State.message_touches {a0 : _} {a1 : _} {a2 : _} : Touches { regs := true, panel := true } a0 (@State.message a0 a1 a2) := by
  unfold State.message
  refine Touches.trans ?_ Touches.put rfl
  refine Touches.mkUpd ?_ (by simp only [State.without, cond_true, cond_false])
  exact Touches.refl _

theorem State.panelRefused_touches {a0 : _} {a1 : _} {a2 : _} : Touches { regs := true, ev := true, panel := true } a0 (@State.panelRefused a0 a1 a2) := by
  unfold State.panelRefused
  refine Touches.trans ?_ State.message_touches rfl
  refine Touches.trans ?_ State.raise_touches rfl
  exact Touches.refl _

theorem State.panelAct_touches {a0 : _} {a1 : _} : Touches { panel := true } a0 (@State.panelAct a0 a1) := by
  unfold State.panelAct
  refine Touches.mkUpd ?_ (by simp only [State.without, cond_true, cond_false])
  exact Touches.refl _

theorem State.stuckReset_touches {a0 : _} {a1 : _} : Touches { regs := true, ev := true, panel := true } a0 (@State.stuckReset a0 a1) := by
  unfold State.stuckReset
  dsimp only
  refine Touches.ite ?_ ?_
  · refine Touches.trans ?_ State.showLeds_touches rfl
    refine Touches.trans ?_ State.message_touches rfl
    refine Touches.trans ?_ State.raise_touches rfl
    refine Touches.trans ?_ Touches.inc rfl
    refine Touches.trans ?_ Touches.put rfl
    exact Touches.refl _
  · refine Touches.trans ?_ State.showLeds_touches rfl
    refine Touches.trans ?_ State.raise_touches rfl
    refine Touches.trans ?_ Touches.inc rfl
    refine Touches.trans ?_ Touches.put rfl
    exact Touches.refl _

theorem execStuckReset_touches {a0 : _} {a1 : _} {t : State} (h : (@execStuckReset a0 a1) = .next t) : Touches { regs := true, ev := true, panel := true } a1 t := by
  unfold execStuckReset at h
  injection h with h
  subst h
  refine Touches.ite ?_ ?_
  · exact Touches.refl _
  · refine Touches.trans ?_ State.stuckReset_touches rfl
    exact Touches.refl _

theorem execResetRearm_touches {a0 : _} {t : State} (h : (@execResetRearm a0) = .next t) : Touches { regs := true } a0 t := by
  unfold execResetRearm at h
  injection h with h
  subst h
  refine Touches.ite ?_ ?_
  · refine Touches.trans ?_ State.showLeds_touches rfl
    refine Touches.trans ?_ Touches.put rfl
    exact Touches.refl _
  · exact Touches.refl _

theorem State.resetShort_touches {a0 : _} : Touches { regs := true, ev := true, lcp := true, jr := true, units := true, rt := true, loops := true, pair := true, panel := true } a0 (@State.resetShort a0) := by
  unfold State.resetShort
  dsimp only
  refine Touches.ite ?_ ?_
  · exact Touches.refl _
  · refine Touches.ite ?_ ?_
    · refine Touches.ite ?_ ?_
      · refine Touches.trans ?_ State.planAt_touches rfl
        exact Touches.refl _
      · refine Touches.trans ?_ State.panelRefused_touches rfl
        exact Touches.refl _
    · refine Touches.ite ?_ ?_
      · refine Touches.trans ?_ State.restartPair_touches rfl
        exact Touches.refl _
      · refine Touches.ite ?_ ?_
        · refine Touches.trans ?_ State.dropSync_touches rfl
          exact Touches.refl _
        · refine Touches.ite ?_ ?_
          · refine Touches.trans ?_ State.stopShadow_touches rfl
            exact Touches.refl _
          · exact Touches.refl _

theorem State.resetHold_touches {a0 : _} : Touches { regs := true, beat := true, ev := true, lcp := true, jr := true, units := true, wd := true, rt := true, pair := true, sec := true, triad := true, panel := true, field := true, can := true } a0 (@State.resetHold a0) := by
  unfold State.resetHold
  dsimp only
  refine Touches.ite ?_ ?_
  · exact Touches.refl _
  · refine Touches.ite ?_ ?_
    · refine Touches.ite ?_ ?_
      · refine Touches.trans ?_ State.planAt_touches rfl
        exact Touches.refl _
      · refine Touches.trans ?_ State.panelRefused_touches rfl
        exact Touches.refl _
    · refine Touches.ite ?_ ?_
      · refine Touches.trans ?_ State.panelRefused_touches rfl
        exact Touches.refl _
      · refine Touches.ite ?_ ?_
        · refine Touches.trans ?_ State.enterStart_touches rfl
          refine Touches.trans ?_ State.raise_touches rfl
          exact Touches.refl _
        · refine Touches.trans ?_ State.enterStart_touches rfl
          exact Touches.refl _

theorem State.resetRelease_touches {a0 : _} {a1 : _} : Touches { regs := true, beat := true, ev := true, lcp := true, jr := true, units := true, wd := true, rt := true, loops := true, pair := true, sec := true, triad := true, panel := true, field := true, can := true } a0 (@State.resetRelease a0 a1) := by
  unfold State.resetRelease
  refine Touches.ite ?_ ?_
  · exact Touches.refl _
  · refine Touches.ite ?_ ?_
    · refine Touches.ite ?_ ?_
      · refine Touches.trans ?_ Touches.put rfl
        exact Touches.refl _
      · exact Touches.refl _
    · refine Touches.ite ?_ ?_
      · refine Touches.trans ?_ State.stuckReset_touches rfl
        exact Touches.refl _
      · dsimp only
        refine Touches.ite ?_ ?_
        · refine Touches.trans ?_ State.panelAct_touches rfl
          refine Touches.trans ?_ State.raise_touches rfl
          refine Touches.trans ?_ Touches.inc rfl
          refine Touches.trans ?_ Touches.put rfl
          exact Touches.refl _
        · refine Touches.ite ?_ ?_
          · refine Touches.trans ?_ State.resetShort_touches rfl
            refine Touches.trans ?_ State.raise_touches rfl
            refine Touches.trans ?_ Touches.inc rfl
            refine Touches.trans ?_ Touches.put rfl
            exact Touches.refl _
          · refine Touches.trans ?_ State.resetHold_touches rfl
            refine Touches.trans ?_ State.raise_touches rfl
            refine Touches.trans ?_ Touches.inc rfl
            refine Touches.trans ?_ Touches.put rfl
            exact Touches.refl _

theorem execResetRelease_touches {a0 : _} {a1 : _} {t : State} (h : (@execResetRelease a0 a1) = .next t) : Touches { regs := true, beat := true, ev := true, lcp := true, jr := true, units := true, wd := true, rt := true, loops := true, pair := true, sec := true, triad := true, panel := true, field := true, can := true } a1 t := by
  unfold execResetRelease at h
  injection h with h
  subst h
  refine Touches.trans ?_ State.resetRelease_touches rfl
  exact Touches.refl _

theorem State.quiesce_touches {a0 : _} : Touches { regs := true, ev := true, lcp := true, jr := true, units := true, rt := true, loops := true, pair := true, pwr := true, panel := true, can := true } a0 (@State.quiesce a0) := by
  unfold State.quiesce
  dsimp only
  refine Touches.trans ?_ State.showLeds_touches rfl
  refine Touches.trans ?_ State.canShow_touches rfl
  refine Touches.trans ?_ Touches.put rfl
  refine Touches.ite ?_ ?_
  · refine Touches.trans ?_ State.retainFlush_touches rfl
    refine Touches.trans ?_ State.flushJournal_touches rfl
    split
    · rename_i v0 v1 v2
      refine Touches.trans ?_ State.storeMirror_touches rfl
      refine Touches.foldl ?_ (fun v3 v4 => ?_)
      · refine Touches.trans ?_ State.setMode_touches rfl
        refine Touches.mkUpd ?_ (by simp only [State.without, cond_true, cond_false])
        refine Touches.trans ?_ State.canDropAll_touches rfl
        refine Touches.trans ?_ State.dropCycles_touches rfl
        refine Touches.ite ?_ ?_
        · refine Touches.trans ?_ State.stopShadow_touches rfl
          exact Touches.refl _
        · exact Touches.refl _
      · refine Touches.ite ?_ ?_
        · exact Touches.refl _
        · refine Touches.trans ?_ State.holdSession_touches rfl
          exact Touches.refl _
    · rename_i v5 v6
      refine Touches.foldl ?_ (fun v7 v8 => ?_)
      · refine Touches.trans ?_ State.setMode_touches rfl
        refine Touches.mkUpd ?_ (by simp only [State.without, cond_true, cond_false])
        refine Touches.trans ?_ State.canDropAll_touches rfl
        refine Touches.trans ?_ State.dropCycles_touches rfl
        refine Touches.ite ?_ ?_
        · refine Touches.trans ?_ State.stopShadow_touches rfl
          exact Touches.refl _
        · exact Touches.refl _
      · refine Touches.ite ?_ ?_
        · exact Touches.refl _
        · refine Touches.trans ?_ State.holdSession_touches rfl
          exact Touches.refl _
  · refine Touches.trans ?_ State.flushJournal_touches rfl
    split
    · rename_i v9 v10 v11
      refine Touches.trans ?_ State.storeMirror_touches rfl
      refine Touches.foldl ?_ (fun v12 v13 => ?_)
      · refine Touches.trans ?_ State.setMode_touches rfl
        refine Touches.mkUpd ?_ (by simp only [State.without, cond_true, cond_false])
        refine Touches.trans ?_ State.canDropAll_touches rfl
        refine Touches.trans ?_ State.dropCycles_touches rfl
        refine Touches.ite ?_ ?_
        · refine Touches.trans ?_ State.stopShadow_touches rfl
          exact Touches.refl _
        · exact Touches.refl _
      · refine Touches.ite ?_ ?_
        · exact Touches.refl _
        · refine Touches.trans ?_ State.holdSession_touches rfl
          exact Touches.refl _
    · rename_i v14 v15
      refine Touches.foldl ?_ (fun v16 v17 => ?_)
      · refine Touches.trans ?_ State.setMode_touches rfl
        refine Touches.mkUpd ?_ (by simp only [State.without, cond_true, cond_false])
        refine Touches.trans ?_ State.canDropAll_touches rfl
        refine Touches.trans ?_ State.dropCycles_touches rfl
        refine Touches.ite ?_ ?_
        · refine Touches.trans ?_ State.stopShadow_touches rfl
          exact Touches.refl _
        · exact Touches.refl _
      · refine Touches.ite ?_ ?_
        · exact Touches.refl _
        · refine Touches.trans ?_ State.holdSession_touches rfl
          exact Touches.refl _

theorem State.releaseAccepted_touches {a0 : _} {a1 : _} : Touches { regs := true, ev := true } a0 (@State.releaseAccepted a0 a1) := by
  unfold State.releaseAccepted
  refine Touches.trans ?_ State.raise_touches rfl
  refine Touches.trans ?_ Touches.put rfl
  refine Touches.trans ?_ Touches.inc rfl
  exact Touches.refl _

theorem State.quiesceSoon_touches {a0 : _} {a1 : _} : Touches { regs := true, ev := true, lcp := true, jr := true, units := true, rt := true, loops := true, pair := true, pwr := true, panel := true, can := true } a0 (@State.quiesceSoon a0 a1) := by
  unfold State.quiesceSoon
  dsimp only
  refine Touches.ite ?_ ?_
  · refine Touches.trans ?_ State.panelAct_touches rfl
    refine Touches.trans ?_ State.releaseAccepted_touches rfl
    exact Touches.refl _
  · refine Touches.trans ?_ State.quiesce_touches rfl
    refine Touches.trans ?_ State.releaseAccepted_touches rfl
    exact Touches.refl _

theorem State.releaseAct_touches {a0 : _} {a1 : _} : Touches { regs := true, beat := true, ev := true, lcp := true, jr := true, units := true, wd := true, rt := true, loops := true, pair := true, sec := true, triad := true, pwr := true, panel := true, field := true, can := true } a0 (@State.releaseAct a0 a1) := by
  unfold State.releaseAct
  dsimp only
  refine Touches.ite ?_ ?_
  · refine Touches.trans ?_ State.dormantWake_touches rfl
    exact Touches.refl _
  · refine Touches.ite ?_ ?_
    · exact Touches.refl _
    · refine Touches.ite ?_ ?_
      · refine Touches.ite ?_ ?_
        · refine Touches.trans ?_ Touches.put rfl
          exact Touches.refl _
        · refine Touches.trans ?_ State.message_touches rfl
          refine Touches.trans ?_ Touches.put rfl
          exact Touches.refl _
      · refine Touches.ite ?_ ?_
        · refine Touches.trans ?_ State.enterStart_touches rfl
          refine Touches.trans ?_ Touches.put rfl
          exact Touches.refl _
        · refine Touches.ite ?_ ?_
          · refine Touches.mkUpd ?_ (by simp only [State.without, cond_true, cond_false])
            refine Touches.trans ?_ State.planAt_touches rfl
            refine Touches.trans ?_ State.releaseAccepted_touches rfl
            refine Touches.trans ?_ Touches.put rfl
            exact Touches.refl _
          · refine Touches.ite ?_ ?_
            · refine Touches.ite ?_ ?_
              · refine Touches.trans ?_ State.quiesceSoon_touches rfl
                refine Touches.trans ?_ Touches.put rfl
                exact Touches.refl _
              · refine Touches.trans ?_ State.panelRefused_touches rfl
                refine Touches.trans ?_ Touches.put rfl
                exact Touches.refl _
            · refine Touches.trans ?_ State.quiesceSoon_touches rfl
              refine Touches.trans ?_ Touches.put rfl
              exact Touches.refl _

theorem execReleasePress_touches {a0 : _} {a1 : _} {t : State} (h : (@execReleasePress a0 a1) = .next t) : Touches { regs := true, beat := true, ev := true, lcp := true, jr := true, units := true, wd := true, rt := true, loops := true, pair := true, sec := true, triad := true, pwr := true, panel := true, field := true, can := true } a1 t := by
  unfold execReleasePress at h
  injection h with h
  subst h
  refine Touches.ite ?_ ?_
  · exact Touches.refl _
  · refine Touches.ite ?_ ?_
    · refine Touches.ite ?_ ?_
      · refine Touches.trans ?_ Touches.put rfl
        exact Touches.refl _
      · exact Touches.refl _
    · refine Touches.trans ?_ State.releaseAct_touches rfl
      exact Touches.refl _

theorem execReleaseHold_touches {a0 : _} {t : State} (h : (@execReleaseHold a0) = .next t) : Touches { regs := true, beat := true, ev := true, lcp := true, jr := true, units := true, wd := true, rt := true, loops := true, pair := true, sec := true, triad := true, pwr := true, panel := true, field := true, can := true } a0 t := by
  unfold execReleaseHold at h
  injection h with h
  subst h
  refine Touches.ite ?_ ?_
  · refine Touches.trans ?_ State.releaseAct_touches rfl
    exact Touches.refl _
  · exact Touches.refl _

theorem execOkToRemove_touches {a0 : _} {t : State} (h : (@execOkToRemove a0) = .next t) : Touches { regs := true, ev := true, panel := true } a0 t := by
  unfold execOkToRemove at h
  injection h with h
  subst h
  refine Touches.ite ?_ ?_
  · refine Touches.trans ?_ State.showLeds_touches rfl
    refine Touches.trans ?_ State.message_touches rfl
    refine Touches.trans ?_ State.raise_touches rfl
    refine Touches.trans ?_ Touches.put rfl
    exact Touches.refl _
  · exact Touches.refl _

theorem State.panelApply_touches {a0 : _} {a1 : _} : Touches { regs := true, beat := true, ev := true, lcp := true, jr := true, units := true, wd := true, rt := true, loops := true, pair := true, sec := true, triad := true, pwr := true, panel := true, field := true, can := true } a0 (@State.panelApply a0 a1) := by
  unfold State.panelApply
  split
  · rename_i v0
    refine Touches.trans ?_ State.resetShort_touches rfl
    exact Touches.refl _
  · rename_i v1
    refine Touches.trans ?_ State.resetHold_touches rfl
    exact Touches.refl _
  · rename_i v2
    refine Touches.trans ?_ State.quiesce_touches rfl
    exact Touches.refl _
  · rename_i v3
    refine Touches.trans ?_ State.quiesce_touches rfl
    exact Touches.refl _
  · rename_i v4
    refine Touches.trans ?_ State.keyAway_touches rfl
    exact Touches.refl _
  · rename_i v5
    refine Touches.trans ?_ State.keyAway_touches rfl
    exact Touches.refl _
  · rename_i v6 v7 v8 v9 v10 v11 v12
    exact Touches.refl _

theorem State.panelFreeze_touches {a0 : _} : Touches { regs := true, beat := true, ev := true, lcp := true, jr := true, units := true, wd := true, rt := true, loops := true, pair := true, sec := true, triad := true, pwr := true, panel := true, field := true, can := true } a0 (@State.panelFreeze a0) := by
  unfold State.panelFreeze
  dsimp only
  refine Touches.foldl ?_ (fun v0 v1 => ?_)
  · refine Touches.mkUpd ?_ (by simp only [State.without, cond_true, cond_false])
    exact Touches.refl _
  · refine Touches.trans ?_ State.panelApply_touches rfl
    exact Touches.refl _

theorem execButtonClosure_touches {a0 : _} {a1 : _} {t : State} (h : (@execButtonClosure a0 a1) = .next t) : Touches { regs := true } a1 t := by
  unfold execButtonClosure at h
  injection h with h
  subst h
  refine Touches.ite ?_ ?_
  · refine Touches.trans ?_ Touches.put rfl
    exact Touches.refl _
  · exact Touches.refl _

theorem execModuleInsert_touches {a0 : _} {a1 : _} {t : State} (h : (@execModuleInsert a0 a1) = .next t) : Touches { regs := true, ev := true, lcp := true, jr := true, units := true, pwr := true } a1 t := by
  unfold execModuleInsert at h
  injection h with h
  subst h
  refine Touches.ite ?_ ?_
  · refine Touches.trans ?_ Touches.put rfl
    refine Touches.trans ?_ State.powerUp_touches rfl
    exact Touches.refl _
  · exact Touches.refl _

theorem execModuleRemove_touches {a0 : _} {t : State} (h : (@execModuleRemove a0) = .next t) : Touches { regs := true, mem := true, beat := true, ev := true, lcp := true, jr := true, wd := true, rt := true, pair := true, sec := true, triad := true, pwr := true, panel := true, lanes := true, field := true, can := true } a0 t := by
  unfold execModuleRemove at h
  injection h with h
  subst h
  refine Touches.mkUpd ?_ (by simp only [State.without, cond_true, cond_false])
  refine Touches.trans ?_ State.onPwr_touches rfl
  refine Touches.trans ?_ State.powerdown_touches rfl
  iterate 5 refine Touches.trans ?_ Touches.put rfl
  exact Touches.refl _

theorem State.touched_touches {a0 : _} : Touches { regs := true } a0 (@State.touched a0) := by
  unfold State.touched
  refine Touches.trans ?_ Touches.put rfl
  exact Touches.refl _

theorem execTouchPage_touches {a0 : _} {t : State} (h : (@execTouchPage a0) = .next t) : Touches { regs := true, panel := true } a0 t := by
  unfold execTouchPage at h
  injection h with h
  subst h
  refine Touches.ite ?_ ?_
  · exact Touches.refl _
  · dsimp only
    refine Touches.mkUpd ?_ (by simp only [State.without, cond_true, cond_false])
    refine Touches.trans ?_ Touches.put rfl
    refine Touches.trans ?_ State.touched_touches rfl
    exact Touches.refl _

theorem execTouchSelect_touches {a0 : _} {t : State} (h : (@execTouchSelect a0) = .next t) : Touches { regs := true, panel := true } a0 t := by
  unfold execTouchSelect at h
  injection h with h
  subst h
  refine Touches.ite ?_ ?_
  · exact Touches.refl _
  · dsimp only
    refine Touches.mkUpd ?_ (by simp only [State.without, cond_true, cond_false])
    refine Touches.trans ?_ State.touched_touches rfl
    exact Touches.refl _

theorem execTouchBack_touches {a0 : _} {t : State} (h : (@execTouchBack a0) = .next t) : Touches { regs := true, panel := true } a0 t := by
  unfold execTouchBack at h
  injection h with h
  subst h
  refine Touches.ite ?_ ?_
  · exact Touches.refl _
  · dsimp only
    refine Touches.mkUpd ?_ (by simp only [State.without, cond_true, cond_false])
    refine Touches.trans ?_ Touches.put rfl
    refine Touches.trans ?_ State.touched_touches rfl
    exact Touches.refl _

theorem execTouchAck_touches {a0 : _} {t : State} (h : (@execTouchAck a0) = .next t) : Touches { regs := true, panel := true } a0 t := by
  unfold execTouchAck at h
  injection h with h
  subst h
  refine Touches.ite ?_ ?_
  · exact Touches.refl _
  · refine Touches.trans ?_ State.showLeds_touches rfl
    dsimp only
    refine Touches.mkUpd ?_ (by simp only [State.without, cond_true, cond_false])
    refine Touches.trans ?_ State.touched_touches rfl
    exact Touches.refl _

theorem execDisplayTimeout_touches {a0 : _} {t : State} (h : (@execDisplayTimeout a0) = .next t) : Touches { regs := true } a0 t := by
  unfold execDisplayTimeout at h
  injection h with h
  subst h
  refine Touches.ite ?_ ?_
  · refine Touches.trans ?_ Touches.put rfl
    exact Touches.refl _
  · exact Touches.refl _

theorem execPanelMessageTimeout_touches {a0 : _} {t : State} (h : (@execPanelMessageTimeout a0) = .next t) : Touches { panel := true } a0 t := by
  unfold execPanelMessageTimeout at h
  injection h with h
  subst h
  refine Touches.ite ?_ ?_
  · exact Touches.refl _
  · refine Touches.mkUpd ?_ (by simp only [State.without, cond_true, cond_false])
    exact Touches.refl _

/-! Triad. -/

theorem State.showAttempts_touches {a0 : _} : Touches { regs := true } a0 (@State.showAttempts a0) := by
  unfold State.showAttempts
  refine Touches.foldl ?_ (fun v0 v1 => ?_)
  · exact Touches.refl _
  · refine Touches.trans ?_ Touches.put rfl
    exact Touches.refl _

theorem State.retireCluster_touches {a0 : _} {a1 : _} : Touches { regs := true, ev := true, jr := true, pair := true } a0 (@State.retireCluster a0 a1) := by
  unfold State.retireCluster
  dsimp only
  refine Touches.ite ?_ ?_
  · refine Touches.trans ?_ State.plan_touches rfl
    refine Touches.trans ?_ Touches.put rfl
    refine Touches.trans ?_ State.journal_touches rfl
    refine Touches.trans ?_ State.raise_touches rfl
    refine Touches.trans ?_ Touches.put rfl
    exact Touches.refl _
  · refine Touches.trans ?_ Touches.put rfl
    refine Touches.trans ?_ State.journal_touches rfl
    refine Touches.trans ?_ State.raise_touches rfl
    refine Touches.trans ?_ Touches.put rfl
    exact Touches.refl _

theorem State.isolate_touches {a0 : _} {a1 : _} : Touches { regs := true, ev := true, jr := true, pair := true, triad := true } a0 (@State.isolate a0 a1) := by
  unfold State.isolate
  dsimp only
  refine Touches.ite ?_ ?_
  · refine Touches.trans ?_ State.retireCluster_touches rfl
    refine Touches.mkUpd ?_ (by simp only [State.without, cond_true, cond_false])
    refine Touches.trans ?_ Touches.put rfl
    refine Touches.trans ?_ Touches.put rfl
    exact Touches.refl _
  · refine Touches.mkUpd ?_ (by simp only [State.without, cond_true, cond_false])
    refine Touches.trans ?_ Touches.put rfl
    refine Touches.trans ?_ Touches.put rfl
    exact Touches.refl _

theorem State.countMismatch_touches {a0 : _} : Touches { regs := true } a0 (@State.countMismatch a0) := by
  unfold State.countMismatch
  refine Touches.trans ?_ Touches.put rfl
  refine Touches.trans ?_ Touches.inc rfl
  exact Touches.refl _

theorem State.passTxn_touches {a0 : _} {a1 : _} : Touches { triad := true } a0 (@State.passTxn a0 a1) := by
  unfold State.passTxn
  refine Touches.mkUpd ?_ (by simp only [State.without, cond_true, cond_false])
  exact Touches.refl _

theorem State.vote_touches {a0 : _} {a1 : _} {a2 : _} {a3 : _} {a4 : _} : Touches { regs := true, ev := true, jr := true, pair := true, triad := true } a0 (@State.vote a0 a1 a2 a3 a4) := by
  unfold State.vote
  dsimp only
  refine Touches.ite ?_ ?_
  · exact Touches.refl _
  · refine Touches.ite ?_ ?_
    · split
      · rename_i v0 v1
        refine Touches.trans ?_ State.raise_touches rfl
        refine Touches.trans ?_ State.countMismatch_touches rfl
        refine Touches.trans ?_ State.passTxn_touches rfl
        exact Touches.refl _
      · rename_i v2 v3 v4 v5
        refine Touches.ite ?_ ?_
        · refine Touches.trans ?_ State.passTxn_touches rfl
          exact Touches.refl _
        · refine Touches.trans ?_ State.isolate_touches rfl
          refine Touches.trans ?_ State.raise_touches rfl
          refine Touches.trans ?_ State.countMismatch_touches rfl
          refine Touches.trans ?_ State.passTxn_touches rfl
          exact Touches.refl _
    · split
      · rename_i v6 v7 v8 v9
        refine Touches.ite ?_ ?_
        · refine Touches.trans ?_ State.passTxn_touches rfl
          exact Touches.refl _
        · refine Touches.trans ?_ State.raise_touches rfl
          refine Touches.trans ?_ State.countMismatch_touches rfl
          refine Touches.trans ?_ State.passTxn_touches rfl
          exact Touches.refl _
      · rename_i v10 v11
        exact Touches.refl _

theorem execTriadMismatch_touches {a0 : _} {a1 : _} {a2 : _} {a3 : _} {a4 : _} {a5 : _} {t : State} (h : (@execTriadMismatch a0 a1 a2 a3 a4 a5) = .next t) : Touches { regs := true, ev := true, jr := true, pair := true, triad := true } a3 t := by
  unfold execTriadMismatch at h
  injection h with h
  subst h
  refine Touches.ite ?_ ?_
  · exact Touches.refl _
  · refine Touches.trans ?_ State.vote_touches rfl
    exact Touches.refl _

theorem State.startResync_touches {a0 : _} {a1 : _} : Touches { regs := true, ev := true, jr := true, triad := true } a0 (@State.startResync a0 a1) := by
  unfold State.startResync
  dsimp only
  refine Touches.trans ?_ State.raise_touches rfl
  refine Touches.trans ?_ State.journal_touches rfl
  refine Touches.trans ?_ Touches.put rfl
  refine Touches.trans ?_ Touches.put rfl
  refine Touches.trans ?_ State.showAttempts_touches rfl
  refine Touches.mkUpd ?_ (by simp only [State.without, cond_true, cond_false])
  exact Touches.refl _

theorem State.copied_touches {a0 : _} : Touches { triad := true } a0 (@State.copied a0) := by
  unfold State.copied
  refine Touches.mkUpd ?_ (by simp only [State.without, cond_true, cond_false])
  exact Touches.refl _

theorem execResyncStart_touches {a0 : _} {t : State} (h : (@execResyncStart a0) = .next t) : Touches { regs := true, ev := true, jr := true, triad := true } a0 t := by
  unfold execResyncStart at h
  injection h with h
  subst h
  split
  · rename_i v0 v1 v2
    refine Touches.ite ?_ ?_
    · refine Touches.trans ?_ State.startResync_touches rfl
      exact Touches.refl _
    · exact Touches.refl _
  · rename_i v3 v4
    exact Touches.refl _

theorem State.resyncFails_touches {a0 : _} : Touches { regs := true, ev := true, triad := true } a0 (@State.resyncFails a0) := by
  unfold State.resyncFails
  dsimp only
  refine Touches.trans ?_ State.raise_touches rfl
  refine Touches.trans ?_ Touches.put rfl
  refine Touches.trans ?_ Touches.put rfl
  refine Touches.mkUpd ?_ (by simp only [State.without, cond_true, cond_false])
  exact Touches.refl _

theorem State.judgePass_touches {a0 : _} : Touches { regs := true, ev := true, triad := true } a0 (@State.judgePass a0) := by
  unfold State.judgePass
  refine Touches.ite ?_ ?_
  · refine Touches.mkUpd ?_ (by simp only [State.without, cond_true, cond_false])
    exact Touches.refl _
  · refine Touches.ite ?_ ?_
    · refine Touches.trans ?_ State.resyncFails_touches rfl
      exact Touches.refl _
    · dsimp only
      refine Touches.mkUpd ?_ (by simp only [State.without, cond_true, cond_false])
      refine Touches.trans ?_ State.copied_touches rfl
      exact Touches.refl _

theorem execResyncPassDone_touches {a0 : _} {a1 : _} {t : State} (h : (@execResyncPassDone a0 a1) = .next t) : Touches { regs := true, ev := true, triad := true } a1 t := by
  unfold execResyncPassDone at h
  injection h with h
  subst h
  refine Touches.ite ?_ ?_
  · exact Touches.refl _
  · refine Touches.ite ?_ ?_
    · refine Touches.trans ?_ State.judgePass_touches rfl
      refine Touches.trans ?_ Touches.put rfl
      exact Touches.refl _
    · refine Touches.ite ?_ ?_
      · refine Touches.trans ?_ State.judgePass_touches rfl
        refine Touches.mkUpd ?_ (by simp only [State.without, cond_true, cond_false])
        exact Touches.refl _
      · exact Touches.refl _

theorem execResyncFinal_touches {a0 : _} {a1 : _} {t : State} (h : (@execResyncFinal a0 a1) = .next t) : Touches { regs := true, ev := true, triad := true } a1 t := by
  unfold execResyncFinal at h
  injection h with h
  subst h
  refine Touches.ite ?_ ?_
  · refine Touches.ite ?_ ?_
    · refine Touches.trans ?_ Touches.put rfl
      refine Touches.trans ?_ State.copied_touches rfl
      exact Touches.refl _
    · refine Touches.trans ?_ State.judgePass_touches rfl
      exact Touches.refl _
  · exact Touches.refl _

theorem State.rejoins_touches {a0 : _} : Touches { regs := true } a0 (@State.rejoins a0) := by
  unfold State.rejoins
  refine Touches.ite ?_ ?_
  · refine Touches.trans ?_ Touches.put rfl
    exact Touches.refl _
  · exact Touches.refl _

theorem execResyncDone_touches {a0 : _} {a1 : _} {t : State} (h : (@execResyncDone a0 a1) = .next t) : Touches { regs := true, ev := true, triad := true } a1 t := by
  unfold execResyncDone at h
  injection h with h
  subst h
  refine Touches.ite ?_ ?_
  · dsimp only
    refine Touches.trans ?_ State.raise_touches rfl
    refine Touches.mkUpd ?_ (by simp only [State.without, cond_true, cond_false])
    iterate 5 refine Touches.trans ?_ Touches.put rfl
    exact Touches.refl _
  · exact Touches.refl _

theorem execResyncRetry_touches {a0 : _} {a1 : _} {t : State} (h : (@execResyncRetry a0 a1) = .next t) : Touches { regs := true, ev := true, jr := true, triad := true } a1 t := by
  unfold execResyncRetry at h
  injection h with h
  subst h
  refine Touches.ite ?_ ?_
  · refine Touches.trans ?_ State.startResync_touches rfl
    exact Touches.refl _
  · exact Touches.refl _

theorem execSplitClusterFault_touches {a0 : _} {a1 : _} {a2 : _} {t : State} (h : (@execSplitClusterFault a0 a1 a2) = .next t) : Touches { regs := true, beat := true, ev := true, rt := true, rtY := true, rtZ := true, loops := true, triad := true } a2 t := by
  unfold execSplitClusterFault at h
  injection h with h
  subst h
  refine Touches.ite ?_ ?_
  · exact Touches.refl _
  · refine Touches.ite ?_ ?_
    · refine Touches.trans ?_ State.raise_touches rfl
      exact Touches.refl _
    · refine Touches.comp ?_ (State.onCluster_touches ?_ rfl)
      · exact Touches.refl _
      · intro v0
        refine Touches.trans ?_ State.splitFault_touches rfl
        exact Touches.refl _

theorem State.atEdge_touches {a0 : _} {a1 : _} {a2 : _} {a3 : _} : Touches { beat := true } a0 (@State.atEdge a0 a1 a2 a3) := by
  unfold State.atEdge
  refine Touches.mkUpd ?_ (by simp only [State.without, cond_true, cond_false])
  exact Touches.refl _

theorem State.surgeStep_touches {a0 : _} {a1 : _} {a2 : _} : Touches { regs := true, beat := true, ev := true, triad := true } a0 (@State.surgeStep a0 a1 a2) := by
  unfold State.surgeStep
  dsimp only
  refine Touches.ite ?_ ?_
  · refine Touches.ite ?_ ?_
    · refine Touches.trans ?_ Touches.put rfl
      refine Touches.mkUpd ?_ (by simp only [State.without, cond_true, cond_false])
      exact Touches.refl _
    · refine Touches.trans ?_ State.raise_touches rfl
      refine Touches.trans ?_ Touches.put rfl
      refine Touches.trans ?_ Touches.put rfl
      refine Touches.trans ?_ State.atEdge_touches rfl
      refine Touches.mkUpd ?_ (by simp only [State.without, cond_true, cond_false])
      refine Touches.trans ?_ Touches.put rfl
      refine Touches.mkUpd ?_ (by simp only [State.without, cond_true, cond_false])
      exact Touches.refl _
  · refine Touches.ite ?_ ?_
    · refine Touches.trans ?_ Touches.put rfl
      refine Touches.trans ?_ Touches.put rfl
      exact Touches.refl _
    · refine Touches.ite ?_ ?_
      · refine Touches.trans ?_ State.raise_touches rfl
        refine Touches.trans ?_ State.atEdge_touches rfl
        refine Touches.mkUpd ?_ (by simp only [State.without, cond_true, cond_false])
        refine Touches.trans ?_ Touches.put rfl
        refine Touches.trans ?_ Touches.put rfl
        exact Touches.refl _
      · refine Touches.ite ?_ ?_
        · refine Touches.trans ?_ State.raise_touches rfl
          refine Touches.mkUpd ?_ (by simp only [State.without, cond_true, cond_false])
          refine Touches.trans ?_ Touches.put rfl
          refine Touches.trans ?_ Touches.put rfl
          exact Touches.refl _
        · refine Touches.trans ?_ Touches.put rfl
          refine Touches.trans ?_ Touches.put rfl
          exact Touches.refl _

theorem execClusterTrimExit_touches {a0 : _} {a1 : _} {a2 : _} {a3 : _} {a4 : _} {t : State} (h : (@execClusterTrimExit a0 a1 a2 a3 a4) = .next t) : Touches { regs := true, beat := true, ev := true, triad := true, pwr := true } a4 t := by
  unfold execClusterTrimExit at h
  injection h with h
  subst h
  refine Touches.ite ?_ ?_
  · exact Touches.refl _
  · dsimp only
    refine Touches.trans ?_ State.rejoins_touches rfl
    refine Touches.trans ?_ State.surgeStep_touches rfl
    refine Touches.trans ?_ Touches.put rfl
    refine Touches.trans ?_ State.trimExit_touches rfl
    exact Touches.refl _

/-! Pair. -/

theorem State.showApplicable_touches {a0 : _} : Touches { regs := true } a0 (@State.showApplicable a0) := by
  unfold State.showApplicable
  refine Touches.foldl ?_ (fun v0 v1 => ?_)
  · exact Touches.refl _
  · refine Touches.ite ?_ ?_
    · refine Touches.trans ?_ Touches.put rfl
      exact Touches.refl _
    · refine Touches.ite ?_ ?_
      · refine Touches.trans ?_ Touches.put rfl
        exact Touches.refl _
      · exact Touches.refl _

theorem State.judgeReady_touches {a0 : _} : Touches { regs := true, ev := true, lcp := true, jr := true, units := true } a0 (@State.judgeReady a0) := by
  unfold State.judgeReady
  refine Touches.ite ?_ ?_
  · exact Touches.refl _
  · dsimp only
    refine Touches.ite ?_ ?_
    · refine Touches.trans ?_ State.raise_touches rfl
      refine Touches.trans ?_ State.setMode_touches rfl
      refine Touches.trans ?_ Touches.put rfl
      exact Touches.refl _
    · refine Touches.trans ?_ State.setMode_touches rfl
      refine Touches.trans ?_ Touches.put rfl
      exact Touches.refl _

theorem State.selftestRan_touches {a0 : _} {a1 : _} : Touches { lcp := true, pwr := true } a0 (@State.selftestRan a0 a1) := by
  unfold State.selftestRan
  split
  · rename_i v0 v1
    exact Touches.refl _
  · rename_i v2 v3 v4
    dsimp only
    refine Touches.ite ?_ ?_
    · refine Touches.trans ?_ State.onPwr_touches rfl
      exact Touches.refl _
    · refine Touches.trans ?_ State.answer_touches rfl
      refine Touches.trans ?_ State.onPwr_touches rfl
      exact Touches.refl _

theorem State.healthPass_touches {a0 : _} {a1 : _} : Touches { regs := true, free := true, ev := true, lcp := true, jr := true, units := true, pwr := true, img := true } a0 (@State.healthPass a0 a1) := by
  unfold State.healthPass
  refine Touches.ite ?_ ?_
  · refine Touches.trans ?_ State.selftestRan_touches rfl
    exact Touches.refl _
  · dsimp only
    refine Touches.trans ?_ State.judgeReady_touches rfl
    refine Touches.trans ?_ State.selftestRan_touches rfl
    refine Touches.ite ?_ ?_
    · refine Touches.trans ?_ State.showBank_touches rfl
      refine Touches.trans ?_ Touches.put rfl
      refine Touches.trans ?_ State.fresh_touches rfl
      refine Touches.trans ?_ State.onImg_touches rfl
      refine Touches.trans ?_ Touches.put rfl
      refine Touches.trans ?_ Touches.put rfl
      exact Touches.refl _
    · refine Touches.trans ?_ State.onImg_touches rfl
      refine Touches.trans ?_ Touches.put rfl
      refine Touches.trans ?_ Touches.put rfl
      exact Touches.refl _

theorem execHealthCheckPass_touches {a0 : _} {a1 : _} {t : State} (h : (@execHealthCheckPass a0 a1) = .next t) : Touches { regs := true, free := true, ev := true, lcp := true, jr := true, units := true, pwr := true, img := true } a1 t := by
  unfold execHealthCheckPass at h
  injection h with h
  subst h
  refine Touches.trans ?_ State.healthPass_touches rfl
  exact Touches.refl _

theorem execHealthCheckDue_touches {a0 : _} {a1 : _} {t : State} (h : (@execHealthCheckDue a0 a1) = .next t) : Touches { regs := true, ev := true, lcp := true, jr := true, units := true } a1 t := by
  unfold execHealthCheckDue at h
  injection h with h
  subst h
  refine Touches.ite ?_ ?_
  · refine Touches.trans ?_ State.judgeReady_touches rfl
    refine Touches.trans ?_ Touches.put rfl
    exact Touches.refl _
  · exact Touches.refl _

theorem State.checkedFault_touches {a0 : _} {a1 : _} : Touches { regs := true, ev := true, field := true, can := true } a0 (@State.checkedFault a0 a1) := by
  unfold State.checkedFault
  refine Touches.ite ?_ ?_
  · refine Touches.foldl ?_ (fun v0 v1 => ?_)
    · exact Touches.refl _
    · refine Touches.trans ?_ State.faFault_touches rfl
      exact Touches.refl _
  · refine Touches.ite ?_ ?_
    · refine Touches.foldl ?_ (fun v2 v3 => ?_)
      · exact Touches.refl _
      · refine Touches.trans ?_ State.canFaults_touches rfl
        exact Touches.refl _
    · refine Touches.ite ?_ ?_
      · refine Touches.foldl ?_ (fun v4 v5 => ?_)
        · exact Touches.refl _
        · refine Touches.trans ?_ State.canFaults_touches rfl
          exact Touches.refl _
      · exact Touches.refl _

theorem State.healthFailed_touches {a0 : _} {a1 : _} : Touches { regs := true, free := true, beat := true, ev := true, lcp := true, jr := true, units := true, wd := true, rt := true, pair := true, sec := true, triad := true, pwr := true, img := true, field := true, can := true } a0 (@State.healthFailed a0 a1) := by
  unfold State.healthFailed
  refine Touches.ite ?_ ?_
  · refine Touches.trans ?_ State.selftestRan_touches rfl
    exact Touches.refl _
  · dsimp only
    refine Touches.trans ?_ State.judgeReady_touches rfl
    refine Touches.trans ?_ State.selftestRan_touches rfl
    refine Touches.trans ?_ State.rejectImages_touches rfl
    refine Touches.ite ?_ ?_
    · refine Touches.trans ?_ State.plan_touches rfl
      refine Touches.trans ?_ State.checkedFault_touches rfl
      refine Touches.ite ?_ ?_
      · refine Touches.trans ?_ State.cause_touches rfl
        refine Touches.ite ?_ ?_
        · refine Touches.trans ?_ State.raise_touches rfl
          refine Touches.trans ?_ State.showBank_touches rfl
          refine Touches.trans ?_ Touches.put rfl
          refine Touches.trans ?_ State.fresh_touches rfl
          refine Touches.trans ?_ State.healthFails_touches rfl
          exact Touches.refl _
        · refine Touches.trans ?_ State.healthFails_touches rfl
          exact Touches.refl _
      · refine Touches.ite ?_ ?_
        · refine Touches.trans ?_ State.raise_touches rfl
          refine Touches.trans ?_ State.showBank_touches rfl
          refine Touches.trans ?_ Touches.put rfl
          refine Touches.trans ?_ State.fresh_touches rfl
          refine Touches.trans ?_ State.healthFails_touches rfl
          exact Touches.refl _
        · refine Touches.trans ?_ State.healthFails_touches rfl
          exact Touches.refl _
    · refine Touches.ite ?_ ?_
      · refine Touches.trans ?_ State.plan_touches rfl
        refine Touches.trans ?_ State.checkedFault_touches rfl
        refine Touches.ite ?_ ?_
        · refine Touches.trans ?_ State.cause_touches rfl
          refine Touches.ite ?_ ?_
          · refine Touches.trans ?_ State.raise_touches rfl
            refine Touches.trans ?_ State.showBank_touches rfl
            refine Touches.trans ?_ Touches.put rfl
            refine Touches.trans ?_ State.fresh_touches rfl
            refine Touches.trans ?_ State.healthFails_touches rfl
            exact Touches.refl _
          · refine Touches.trans ?_ State.healthFails_touches rfl
            exact Touches.refl _
        · refine Touches.ite ?_ ?_
          · refine Touches.trans ?_ State.raise_touches rfl
            refine Touches.trans ?_ State.showBank_touches rfl
            refine Touches.trans ?_ Touches.put rfl
            refine Touches.trans ?_ State.fresh_touches rfl
            refine Touches.trans ?_ State.healthFails_touches rfl
            exact Touches.refl _
          · refine Touches.trans ?_ State.healthFails_touches rfl
            exact Touches.refl _
      · refine Touches.trans ?_ State.checkedFault_touches rfl
        refine Touches.ite ?_ ?_
        · refine Touches.trans ?_ State.cause_touches rfl
          refine Touches.ite ?_ ?_
          · refine Touches.trans ?_ State.raise_touches rfl
            refine Touches.trans ?_ State.showBank_touches rfl
            refine Touches.trans ?_ Touches.put rfl
            refine Touches.trans ?_ State.fresh_touches rfl
            refine Touches.trans ?_ State.healthFails_touches rfl
            exact Touches.refl _
          · refine Touches.trans ?_ State.healthFails_touches rfl
            exact Touches.refl _
        · refine Touches.ite ?_ ?_
          · refine Touches.trans ?_ State.raise_touches rfl
            refine Touches.trans ?_ State.showBank_touches rfl
            refine Touches.trans ?_ Touches.put rfl
            refine Touches.trans ?_ State.fresh_touches rfl
            refine Touches.trans ?_ State.healthFails_touches rfl
            exact Touches.refl _
          · refine Touches.trans ?_ State.healthFails_touches rfl
            exact Touches.refl _

theorem execHealthCheckFailed_touches {a0 : _} {a1 : _} {t : State} (h : (@execHealthCheckFailed a0 a1) = .next t) : Touches { regs := true, free := true, beat := true, ev := true, lcp := true, jr := true, units := true, wd := true, rt := true, pair := true, sec := true, triad := true, pwr := true, img := true, field := true, can := true } a1 t := by
  unfold execHealthCheckFailed at h
  injection h with h
  subst h
  refine Touches.trans ?_ State.healthFailed_touches rfl
  exact Touches.refl _

theorem State.feedChange_touches {a0 : _} {a1 : _} {a2 : _} {a3 : _} : Touches { regs := true, free := true, beat := true, ev := true, lcp := true, jr := true, units := true, wd := true, rt := true, pair := true, sec := true, triad := true, pwr := true, img := true, field := true, can := true } a0 (@State.feedChange a0 a1 a2 a3) := by
  unfold State.feedChange
  dsimp only
  refine Touches.ite ?_ ?_
  · refine Touches.trans ?_ Touches.put rfl
    refine Touches.trans ?_ Touches.put rfl
    exact Touches.refl _
  · refine Touches.ite ?_ ?_
    · refine Touches.ite ?_ ?_
      · refine Touches.trans ?_ State.raise_touches rfl
        refine Touches.trans ?_ State.raise_touches rfl
        refine Touches.trans ?_ Touches.put rfl
        refine Touches.trans ?_ Touches.put rfl
        exact Touches.refl _
      · refine Touches.trans ?_ State.raise_touches rfl
        refine Touches.trans ?_ Touches.put rfl
        refine Touches.trans ?_ Touches.put rfl
        exact Touches.refl _
    · refine Touches.ite ?_ ?_
      · refine Touches.ite ?_ ?_
        · refine Touches.trans ?_ State.raise_touches rfl
          refine Touches.trans ?_ State.raise_touches rfl
          refine Touches.trans ?_ Touches.put rfl
          refine Touches.trans ?_ Touches.put rfl
          exact Touches.refl _
        · refine Touches.trans ?_ State.raise_touches rfl
          refine Touches.trans ?_ Touches.put rfl
          refine Touches.trans ?_ Touches.put rfl
          exact Touches.refl _
      · refine Touches.trans ?_ State.healthFailed_touches rfl
        refine Touches.ite ?_ ?_
        · refine Touches.trans ?_ State.raise_touches rfl
          refine Touches.trans ?_ State.raise_touches rfl
          refine Touches.trans ?_ Touches.put rfl
          refine Touches.trans ?_ Touches.put rfl
          exact Touches.refl _
        · refine Touches.trans ?_ State.raise_touches rfl
          refine Touches.trans ?_ Touches.put rfl
          refine Touches.trans ?_ Touches.put rfl
          exact Touches.refl _

theorem execFeedChange_touches {a0 : _} {a1 : _} {a2 : _} {a3 : _} {t : State} (h : (@execFeedChange a0 a1 a2 a3) = .next t) : Touches { regs := true, free := true, beat := true, ev := true, lcp := true, jr := true, units := true, wd := true, rt := true, pair := true, sec := true, triad := true, pwr := true, img := true, field := true, can := true } a3 t := by
  unfold execFeedChange at h
  injection h with h
  subst h
  refine Touches.trans ?_ State.feedChange_touches rfl
  exact Touches.refl _

theorem execWdMonitorClock_touches {a0 : _} {t : State} (h : (@execWdMonitorClock a0) = .next t) : Touches { regs := true, free := true, beat := true, ev := true, lcp := true, jr := true, units := true, wd := true, rt := true, pair := true, sec := true, triad := true, pwr := true, img := true, field := true, can := true } a0 t := by
  unfold execWdMonitorClock at h
  injection h with h
  subst h
  refine Touches.trans ?_ State.healthFailed_touches rfl
  refine Touches.trans ?_ State.raiseLatched_touches rfl
  refine Touches.trans ?_ Touches.put rfl
  exact Touches.refl _

theorem execHealthReport_touches {a0 : _} {a1 : _} {t : State} (h : (@execHealthReport a0 a1) = .next t) : Touches { regs := true, beat := true, lcp := true } a1 t := by
  unfold execHealthReport at h
  injection h with h
  subst h
  refine Touches.comp ?_ (served_touches ?_ rfl)
  · exact Touches.refl _
  · intro v0 v1
    dsimp only
    exact Touches.refl _

theorem State.selftest_touches {a0 : _} {a1 : _} : Touches { regs := true, ev := true, lcp := true, jr := true, units := true, pwr := true } a0 (@State.selftest a0 a1) := by
  unfold State.selftest
  dsimp only
  refine Touches.ite ?_ ?_
  · refine Touches.trans ?_ State.answer_touches rfl
    refine Touches.trans ?_ State.judgeReady_touches rfl
    refine Touches.foldl ?_ (fun v0 v1 => ?_)
    · exact Touches.refl _
    · refine Touches.trans ?_ Touches.put rfl
      exact Touches.refl _
  · refine Touches.trans ?_ State.onPwr_touches rfl
    refine Touches.trans ?_ State.judgeReady_touches rfl
    refine Touches.foldl ?_ (fun v2 v3 => ?_)
    · exact Touches.refl _
    · refine Touches.trans ?_ Touches.put rfl
      exact Touches.refl _

theorem execSelftest_touches {a0 : _} {a1 : _} {t : State} (h : (@execSelftest a0 a1) = .next t) : Touches { regs := true, beat := true, ev := true, lcp := true, jr := true, units := true, pwr := true } a1 t := by
  unfold execSelftest at h
  injection h with h
  subst h
  refine Touches.comp ?_ (deferred_touches ?_ rfl)
  · exact Touches.refl _
  · intro v0 v1
    refine Touches.trans ?_ State.selftest_touches rfl
    exact Touches.refl _

theorem State.pairLinkUp_touches {a0 : _} {a1 : _} : Touches { regs := true, ev := true, lcp := true, jr := true, units := true, pair := true } a0 (@State.pairLinkUp a0 a1) := by
  unfold State.pairLinkUp
  dsimp only
  refine Touches.ite ?_ ?_
  · exact Touches.refl _
  · refine Touches.ite ?_ ?_
    · refine Touches.trans ?_ State.showLeds_touches rfl
      refine Touches.trans ?_ State.dropSync_touches rfl
      refine Touches.ite ?_ ?_
      · refine Touches.trans ?_ Touches.put rfl
        refine Touches.mkUpd ?_ (by simp only [State.without, cond_true, cond_false])
        refine Touches.trans ?_ State.raise_touches rfl
        refine Touches.trans ?_ Touches.put rfl
        exact Touches.refl _
      · refine Touches.mkUpd ?_ (by simp only [State.without, cond_true, cond_false])
        refine Touches.trans ?_ State.raise_touches rfl
        refine Touches.trans ?_ Touches.put rfl
        exact Touches.refl _
    · refine Touches.trans ?_ State.showLeds_touches rfl
      refine Touches.ite ?_ ?_
      · refine Touches.trans ?_ Touches.put rfl
        refine Touches.mkUpd ?_ (by simp only [State.without, cond_true, cond_false])
        refine Touches.trans ?_ State.raise_touches rfl
        refine Touches.trans ?_ Touches.put rfl
        exact Touches.refl _
      · refine Touches.mkUpd ?_ (by simp only [State.without, cond_true, cond_false])
        refine Touches.trans ?_ State.raise_touches rfl
        refine Touches.trans ?_ Touches.put rfl
        exact Touches.refl _

theorem execPairLinkUp_touches {a0 : _} {a1 : _} {t : State} (h : (@execPairLinkUp a0 a1) = .next t) : Touches { regs := true, ev := true, lcp := true, jr := true, units := true, pair := true } a1 t := by
  unfold execPairLinkUp at h
  injection h with h
  subst h
  refine Touches.trans ?_ State.pairLinkUp_touches rfl
  exact Touches.refl _

theorem execPairLinkDegraded_touches {a0 : _} {a1 : _} {t : State} (h : (@execPairLinkDegraded a0 a1) = .next t) : Touches { regs := true, ev := true } a1 t := by
  unfold execPairLinkDegraded at h
  injection h with h
  subst h
  refine Touches.ite ?_ ?_
  · exact Touches.refl _
  · dsimp only
    refine Touches.trans ?_ State.showLeds_touches rfl
    refine Touches.ite ?_ ?_
    · refine Touches.trans ?_ Touches.put rfl
      exact Touches.refl _
    · refine Touches.trans ?_ State.raise_touches rfl
      refine Touches.trans ?_ Touches.put rfl
      exact Touches.refl _

theorem State.heartbeatSend_touches {a0 : _} {a1 : _} {a2 : _} : Touches { pair := true } a0 (@State.heartbeatSend a0 a1 a2) := by
  unfold State.heartbeatSend
  refine Touches.ite ?_ ?_
  · exact Touches.refl _
  · refine Touches.ite ?_ ?_
    · refine Touches.mkUpd ?_ (by simp only [State.without, cond_true, cond_false])
      exact Touches.refl _
    · dsimp only
      refine Touches.mkUpd ?_ (by simp only [State.without, cond_true, cond_false])
      exact Touches.refl _

theorem execHeartbeatSend_touches {a0 : _} {a1 : _} {a2 : _} {a3 : _} {t : State} (h : (@execHeartbeatSend a0 a1 a2 a3) = .next t) : Touches { pair := true } a3 t := by
  unfold execHeartbeatSend at h
  injection h with h
  subst h
  refine Touches.trans ?_ State.heartbeatSend_touches rfl
  exact Touches.refl _

theorem State.stopsHeart_touches {a0 : _} : Touches { regs := true, wd := true, field := true } a0 (@State.stopsHeart a0) := by
  unfold State.stopsHeart
  refine Touches.trans ?_ State.fieldOff_touches rfl
  refine Touches.trans ?_ State.refreshDrive_touches rfl
  refine Touches.mkUpd ?_ (by simp only [State.without, cond_true, cond_false])
  exact Touches.refl _

theorem execOwnHeartbeatStop_touches {a0 t : State} (h : execOwnHeartbeatStop a0 = .next t) : Touches { regs := true, wd := true, field := true } a0 t := by
  unfold execOwnHeartbeatStop at h
  rw [Host.Outcome.next.injEq] at h
  rw [← h]
  exact Touches.trans (Touches.refl _) State.stopsHeart_touches rfl

theorem State.partnerGone_touches {a0 : _} : Touches { pair := true } a0 (@State.partnerGone a0) := by
  unfold State.partnerGone
  refine Touches.mkUpd ?_ (by simp only [State.without, cond_true, cond_false])
  exact Touches.refl _

theorem State.linkLoss_touches {a0 : _} : Touches { regs := true, ev := true, pair := true } a0 (@State.linkLoss a0) := by
  unfold State.linkLoss
  refine Touches.ite ?_ ?_
  · exact Touches.refl _
  · dsimp only
    refine Touches.trans ?_ State.showLeds_touches rfl
    refine Touches.trans ?_ Touches.put rfl
    refine Touches.trans ?_ State.raise_touches rfl
    refine Touches.mkUpd ?_ (by simp only [State.without, cond_true, cond_false])
    exact Touches.refl _

theorem State.heartbeatLoss_touches {a0 : _} : Touches { regs := true, ev := true, rt := true, pair := true, lanes := true } a0 (@State.heartbeatLoss a0) := by
  unfold State.heartbeatLoss
  refine Touches.ite ?_ ?_
  · exact Touches.refl _
  · dsimp only
    refine Touches.ite ?_ ?_
    · refine Touches.trans ?_ State.raise_touches rfl
      refine Touches.mkUpd ?_ (by simp only [State.without, cond_true, cond_false])
      exact Touches.refl _
    · refine Touches.ite ?_ ?_
      · refine Touches.trans ?_ State.linkLoss_touches rfl
        refine Touches.trans ?_ Touches.put rfl
        refine Touches.trans ?_ State.partnerGone_touches rfl
        refine Touches.trans ?_ State.runLeaves_touches rfl
        refine Touches.trans ?_ State.endCrossovers_touches rfl
        refine Touches.trans ?_ State.raise_touches rfl
        refine Touches.mkUpd ?_ (by simp only [State.without, cond_true, cond_false])
        exact Touches.refl _
      · refine Touches.trans ?_ Touches.put rfl
        refine Touches.trans ?_ State.partnerGone_touches rfl
        refine Touches.trans ?_ State.runLeaves_touches rfl
        refine Touches.trans ?_ State.endCrossovers_touches rfl
        refine Touches.trans ?_ State.raise_touches rfl
        refine Touches.mkUpd ?_ (by simp only [State.without, cond_true, cond_false])
        exact Touches.refl _

theorem execHeartbeatLost_touches {a0 : _} {a1 : _} {t : State} (h : (@execHeartbeatLost a0 a1) = .next t) : Touches { regs := true, ev := true, rt := true, pair := true, lanes := true } a1 t := by
  unfold execHeartbeatLost at h
  injection h with h
  subst h
  refine Touches.ite ?_ ?_
  · refine Touches.trans ?_ State.heartbeatLoss_touches rfl
    exact Touches.refl _
  · exact Touches.refl _

theorem State.activeHears_touches {a0 : _} {a1 : _} : Touches { regs := true, ev := true, units := true, rt := true, pair := true, lanes := true } a0 (@State.activeHears a0 a1) := by
  unfold State.activeHears
  dsimp only
  refine Touches.trans ?_ State.wrapKey_touches rfl
  refine Touches.mkUpd ?_ (by simp only [State.without, cond_true, cond_false])
  refine Touches.ite ?_ ?_
  · refine Touches.trans ?_ State.endCrossovers_touches rfl
    refine Touches.ite ?_ ?_
    · refine Touches.trans ?_ State.runLeaves_touches rfl
      refine Touches.trans ?_ Touches.putFlag rfl
      refine Touches.trans ?_ Touches.put rfl
      exact Touches.refl _
    · refine Touches.trans ?_ Touches.putFlag rfl
      refine Touches.trans ?_ Touches.put rfl
      exact Touches.refl _
  · refine Touches.ite ?_ ?_
    · refine Touches.trans ?_ State.runLeaves_touches rfl
      refine Touches.trans ?_ Touches.putFlag rfl
      refine Touches.trans ?_ Touches.put rfl
      exact Touches.refl _
    · refine Touches.trans ?_ Touches.putFlag rfl
      refine Touches.trans ?_ Touches.put rfl
      exact Touches.refl _

theorem State.takeActive_touches {a0 : _} {a1 : _} : Touches { regs := true, beat := true, ev := true, units := true, time := true } a0 (@State.takeActive a0 a1) := by
  unfold State.takeActive
  dsimp only
  refine Touches.mkUpd ?_ (by simp only [State.without, cond_true, cond_false])
  refine Touches.trans ?_ State.takeServo_touches rfl
  exact Touches.refl _

theorem State.endsShadow_touches {a0 : _} : Touches { pair := true } a0 (@State.endsShadow a0) := by
  unfold State.endsShadow
  refine Touches.mkUpd ?_ (by simp only [State.without, cond_true, cond_false])
  exact Touches.refl _

theorem State.followerHears_touches {a0 : _} {a1 : _} {a2 : _} {a3 : _} : Touches { regs := true, beat := true, ev := true, lcp := true, jr := true, units := true, rt := true, pair := true, lanes := true, time := true } a0 (@State.followerHears a0 a1 a2 a3) := by
  unfold State.followerHears
  refine Touches.ite ?_ ?_
  · refine Touches.trans ?_ State.heartbeatLoss_touches rfl
    exact Touches.refl _
  · refine Touches.ite ?_ ?_
    · exact Touches.refl _
    · dsimp only
      refine Touches.ite ?_ ?_
      · refine Touches.ite ?_ ?_
        · refine Touches.trans ?_ State.endsShadow_touches rfl
          refine Touches.trans ?_ State.takeActive_touches rfl
          exact Touches.refl _
        · refine Touches.trans ?_ State.takeActive_touches rfl
          exact Touches.refl _
      · refine Touches.ite ?_ ?_
        · refine Touches.trans ?_ State.dropSync_touches rfl
          refine Touches.trans ?_ State.takeActive_touches rfl
          exact Touches.refl _
        · refine Touches.trans ?_ State.takeActive_touches rfl
          exact Touches.refl _

theorem State.followStep_touches {a0 : _} {a1 : _} : Touches { regs := true, ev := true, time := true } a0 (@State.followStep a0 a1) := by
  unfold State.followStep
  dsimp only
  refine Touches.ite ?_ ?_
  · exact Touches.refl _
  · refine Touches.trans ?_ State.raise_touches rfl
    refine Touches.trans ?_ State.pinsStep_touches rfl
    refine Touches.trans ?_ Touches.put rfl
    exact Touches.refl _

theorem State.heartbeatReceive_touches {a0 : _} {a1 : _} : Touches { regs := true, beat := true, ev := true, lcp := true, jr := true, units := true, rt := true, pair := true, lanes := true, time := true } a0 (@State.heartbeatReceive a0 a1) := by
  unfold State.heartbeatReceive
  refine Touches.ite ?_ ?_
  · exact Touches.refl _
  · dsimp only
    refine Touches.ite ?_ ?_
    · refine Touches.trans ?_ State.followerHears_touches rfl
      refine Touches.trans ?_ State.partnerLossIn_touches rfl
      refine Touches.trans ?_ State.putUnit_touches rfl
      refine Touches.trans ?_ Touches.put rfl
      refine Touches.mkUpd ?_ (by simp only [State.without, cond_true, cond_false])
      refine Touches.trans ?_ State.followStep_touches rfl
      exact Touches.refl _
    · refine Touches.ite ?_ ?_
      · refine Touches.mkUpd ?_ (by simp only [State.without, cond_true, cond_false])
        refine Touches.trans ?_ State.activeHears_touches rfl
        refine Touches.trans ?_ State.partnerLossIn_touches rfl
        refine Touches.trans ?_ State.putUnit_touches rfl
        refine Touches.trans ?_ Touches.put rfl
        refine Touches.mkUpd ?_ (by simp only [State.without, cond_true, cond_false])
        refine Touches.trans ?_ State.followStep_touches rfl
        exact Touches.refl _
      · refine Touches.trans ?_ State.partnerLossIn_touches rfl
        refine Touches.trans ?_ State.putUnit_touches rfl
        refine Touches.trans ?_ Touches.put rfl
        refine Touches.mkUpd ?_ (by simp only [State.without, cond_true, cond_false])
        refine Touches.trans ?_ State.followStep_touches rfl
        exact Touches.refl _

theorem execHeartbeatReceive_touches {a0 : _} {a1 : _} {t : State} (h : (@execHeartbeatReceive a0 a1) = .next t) : Touches { regs := true, beat := true, ev := true, lcp := true, jr := true, units := true, rt := true, pair := true, lanes := true, time := true } a1 t := by
  unfold execHeartbeatReceive at h
  injection h with h
  subst h
  refine Touches.trans ?_ State.heartbeatReceive_touches rfl
  exact Touches.refl _

theorem State.shadowCmd_touches {a0 : _} {a1 : _} : Touches { regs := true, ev := true, jr := true, rt := true, rtY := true, rtZ := true, loops := true, sec := true } a0 (@State.shadowCmd a0 a1) := by
  unfold State.shadowCmd
  dsimp only
  refine Touches.mkUpd ?_ (by simp only [State.without, cond_true, cond_false])
  split
  · rename_i v0 v1
    refine Touches.trans ?_ valueWriteApply_touches rfl
    exact Touches.refl _
  · rename_i v2 v3
    refine Touches.trans ?_ constWriteApply_touches rfl
    exact Touches.refl _
  · rename_i v4 v5
    refine Touches.trans ?_ forceSetApply_touches rfl
    exact Touches.refl _
  · rename_i v6 v7
    refine Touches.trans ?_ forceClearApply_touches rfl
    exact Touches.refl _
  · rename_i v8 v9
    refine Touches.trans ?_ loopModeSetApply_touches rfl
    exact Touches.refl _
  · rename_i v10 v11
    refine Touches.trans ?_ loopSpSetApply_touches rfl
    exact Touches.refl _
  · rename_i v12 v13
    refine Touches.trans ?_ loopCoeffSetApply_touches rfl
    exact Touches.refl _
  · rename_i v14 v15 v16 v17 v18 v19 v20 v21
    exact Touches.refl _

theorem State.takeAcks_touches {a0 : _} {a1 : _} : Touches { regs := true, pair := true } a0 (@State.takeAcks a0 a1) := by
  unfold State.takeAcks
  refine Touches.ite ?_ ?_
  · exact Touches.refl _
  · dsimp only
    refine Touches.trans ?_ Touches.put rfl
    refine Touches.mkUpd ?_ (by simp only [State.without, cond_true, cond_false])
    exact Touches.refl _

theorem State.shadowImage_touches {a0 : _} {a1 : _} : Touches { regs := true, ev := true, jr := true, rt := true, rtY := true, rtZ := true, loops := true, pair := true, sec := true } a0 (@State.shadowImage a0 a1) := by
  unfold State.shadowImage
  dsimp only
  refine Touches.mkUpd ?_ (by simp only [State.without, cond_true, cond_false])
  refine Touches.trans ?_ State.takeAcks_touches rfl
  refine Touches.foldl ?_ (fun v0 v1 => ?_)
  · exact Touches.refl _
  · refine Touches.trans ?_ State.shadowCmd_touches rfl
    exact Touches.refl _

theorem State.frozenImage_touches {a0 : _} {a1 : _} : Touches { regs := true, ev := true, jr := true, rt := true, rtY := true, rtZ := true, loops := true, pair := true, sec := true } a0 (@State.frozenImage a0 a1) := by
  unfold State.frozenImage
  refine Touches.ite ?_ ?_
  · exact Touches.refl _
  · dsimp only
    refine Touches.ite ?_ ?_
    · refine Touches.mkUpd ?_ (by simp only [State.without, cond_true, cond_false])
      exact Touches.refl _
    · refine Touches.trans ?_ State.shadowImage_touches rfl
      refine Touches.mkUpd ?_ (by simp only [State.without, cond_true, cond_false])
      exact Touches.refl _

theorem execFrozenImageReceive_touches {a0 : _} {a1 : _} {t : State} (h : (@execFrozenImageReceive a0 a1) = .next t) : Touches { regs := true, ev := true, jr := true, rt := true, rtY := true, rtZ := true, loops := true, pair := true, sec := true } a1 t := by
  unfold execFrozenImageReceive at h
  injection h with h
  subst h
  refine Touches.trans ?_ State.frozenImage_touches rfl
  exact Touches.refl _

theorem execTrackingLineReceive_touches {a0 : _} {a1 : _} {a2 : _} {t : State} (h : (@execTrackingLineReceive a0 a1 a2) = .next t) : Touches { pair := true } a2 t := by
  unfold execTrackingLineReceive at h
  injection h with h
  subst h
  refine Touches.ite ?_ ?_
  · refine Touches.mkUpd ?_ (by simp only [State.without, cond_true, cond_false])
    exact Touches.refl _
  · exact Touches.refl _

theorem execOutputCloseReceive_touches {a0 : _} {a1 : _} {a2 : _} {t : State} (h : (@execOutputCloseReceive a0 a1 a2) = .next t) : Touches { pair := true } a2 t := by
  unfold execOutputCloseReceive at h
  injection h with h
  subst h
  refine Touches.ite ?_ ?_
  · refine Touches.mkUpd ?_ (by simp only [State.without, cond_true, cond_false])
    exact Touches.refl _
  · exact Touches.refl _

theorem State.takeStatuses_touches {a0 : _} {a1 : _} : Touches { regs := true } a0 (@State.takeStatuses a0 a1) := by
  unfold State.takeStatuses
  refine Touches.mkUpd ?_ (by simp only [State.without, cond_true, cond_false])
  exact Touches.refl _

theorem State.takeRecord_touches {a0 : _} {a1 : _} : Touches { regs := true, ev := true, jr := true } a0 (@State.takeRecord a0 a1) := by
  unfold State.takeRecord
  refine Touches.trans ?_ State.journalNew_touches rfl
  exact Touches.refl _

theorem State.takeEpochs_touches {a0 : _} {a1 : _} : Touches { units := true } a0 (@State.takeEpochs a0 a1) := by
  unfold State.takeEpochs
  refine Touches.foldl ?_ (fun v0 v1 => ?_)
  · exact Touches.refl _
  · refine Touches.ite ?_ ?_
    · refine Touches.mkUpd ?_ (by simp only [State.without, cond_true, cond_false])
      exact Touches.refl _
    · refine Touches.ite ?_ ?_
      · exact Touches.refl _
      · refine Touches.trans ?_ State.putUnit_touches rfl
        exact Touches.refl _

theorem State.applyTracked_touches {a0 : _} {a1 : _} : Touches { regs := true, ev := true, lcp := true, jr := true, units := true, rt := true, loops := true, pair := true } a0 (@State.applyTracked a0 a1) := by
  unfold State.applyTracked
  dsimp only
  refine Touches.trans ?_ State.showRuntime_touches rfl
  refine Touches.trans ?_ State.takeEpochs_touches rfl
  refine Touches.trans ?_ Touches.put rfl
  refine Touches.trans ?_ Touches.putFlag rfl
  refine Touches.trans ?_ Touches.put rfl
  refine Touches.foldl ?_ (fun v0 v1 => ?_)
  · refine Touches.trans ?_ State.takeStatuses_touches rfl
    refine Touches.mkUpd ?_ (by simp only [State.without, cond_true, cond_false])
    exact Touches.refl _
  · refine Touches.trans ?_ State.takeRecord_touches rfl
    exact Touches.refl _

theorem State.followMode_touches {a0 : _} {a1 : _} : Touches { regs := true, ev := true, lcp := true, jr := true, units := true } a0 (@State.followMode a0 a1) := by
  unfold State.followMode
  refine Touches.ite ?_ ?_
  · exact Touches.refl _
  · refine Touches.trans ?_ State.setMode_touches rfl
    exact Touches.refl _

theorem State.standbySnapshot_touches {a0 : _} {a1 : _} : Touches { regs := true, ev := true, rt := true } a0 (@State.standbySnapshot a0 a1) := by
  unfold State.standbySnapshot
  refine Touches.ite ?_ ?_
  · refine Touches.trans ?_ State.takeSnapshot_touches rfl
    exact Touches.refl _
  · exact Touches.refl _

theorem State.closeAccepted_touches {a0 : _} {a1 : _} {a2 : _} {a3 : _} : Touches { regs := true, mem := true, ev := true, lcp := true, jr := true, units := true, rt := true, loops := true, pair := true } a0 (@State.closeAccepted a0 a1 a2 a3) := by
  unfold State.closeAccepted
  dsimp only
  refine Touches.ite ?_ ?_
  · refine Touches.trans ?_ State.standbySnapshot_touches rfl
    refine Touches.trans ?_ State.followMode_touches rfl
    refine Touches.trans ?_ State.applyTracked_touches rfl
    refine Touches.trans ?_ Touches.put rfl
    refine Touches.mkUpd ?_ (by simp only [State.without, cond_true, cond_false])
    exact Touches.refl _
  · refine Touches.trans ?_ Touches.put rfl
    refine Touches.mkUpd ?_ (by simp only [State.without, cond_true, cond_false])
    exact Touches.refl _

theorem State.closeReceive_touches {a0 : _} {a1 : _} {a2 : _} {a3 : _} {a4 : _} {a5 : _} {a6 : _} : Touches { regs := true, mem := true, ev := true, lcp := true, jr := true, units := true, rt := true, loops := true, pair := true } a0 (@State.closeReceive a0 a1 a2 a3 a4 a5 a6) := by
  unfold State.closeReceive
  refine Touches.ite ?_ ?_
  · exact Touches.refl _
  · dsimp only
    refine Touches.ite ?_ ?_
    · refine Touches.ite ?_ ?_
      · refine Touches.trans ?_ State.closeAccepted_touches rfl
        exact Touches.refl _
      · refine Touches.trans ?_ State.dropSync_touches rfl
        refine Touches.trans ?_ State.closeAccepted_touches rfl
        exact Touches.refl _
    · refine Touches.trans ?_ State.dropSync_touches rfl
      exact Touches.refl _

theorem execTrackingCloseReceive_touches {a0 : _} {a1 : _} {a2 : _} {a3 : _} {a4 : _} {a5 : _} {a6 : _} {t : State} (h : (@execTrackingCloseReceive a0 a1 a2 a3 a4 a5 a6) = .next t) : Touches { regs := true, mem := true, ev := true, lcp := true, jr := true, units := true, rt := true, loops := true, pair := true } a6 t := by
  unfold execTrackingCloseReceive at h
  injection h with h
  subst h
  refine Touches.trans ?_ State.closeReceive_touches rfl
  exact Touches.refl _

theorem State.takeSlots_touches {a0 : _} {a1 : _} {a2 : _} : Touches { regs := true, rt := true } a0 (@State.takeSlots a0 a1 a2) := by
  unfold State.takeSlots
  refine Touches.trans ?_ Touches.put rfl
  refine Touches.trans ?_ Touches.put rfl
  refine Touches.mkUpd ?_ (by simp only [State.without, cond_true, cond_false])
  exact Touches.refl _

theorem State.syncComplete_touches {a0 : _} {a1 : _} {a2 : _} : Touches { regs := true, ev := true, lcp := true, jr := true, units := true, rt := true, loops := true, pair := true } a0 (@State.syncComplete a0 a1 a2) := by
  unfold State.syncComplete
  refine Touches.ite ?_ ?_
  · exact Touches.refl _
  · dsimp only
    refine Touches.trans ?_ State.showLeds_touches rfl
    refine Touches.trans ?_ State.judgeReady_touches rfl
    refine Touches.trans ?_ State.encSync_touches rfl
    refine Touches.mkUpd ?_ (by simp only [State.without, cond_true, cond_false])
    refine Touches.trans ?_ State.followMode_touches rfl
    refine Touches.trans ?_ Touches.put rfl
    refine Touches.trans ?_ State.takeSlots_touches rfl
    refine Touches.trans ?_ State.applyTracked_touches rfl
    refine Touches.mkUpd ?_ (by simp only [State.without, cond_true, cond_false])
    split
    · rename_i v0 v1
      refine Touches.trans ?_ State.loadProgram_touches rfl
      exact Touches.refl _
    · rename_i v2
      exact Touches.refl _

theorem execSyncComplete_touches {a0 : _} {a1 : _} {a2 : _} {t : State} (h : (@execSyncComplete a0 a1 a2) = .next t) : Touches { regs := true, ev := true, lcp := true, jr := true, units := true, rt := true, loops := true, pair := true } a2 t := by
  unfold execSyncComplete at h
  injection h with h
  subst h
  refine Touches.trans ?_ State.syncComplete_touches rfl
  exact Touches.refl _

theorem State.startCompute_touches {a0 : _} {a1 : _} : Touches { regs := true, beat := true, ev := true, rt := true, loops := true } a0 (@State.startCompute a0 a1) := by
  unfold State.startCompute
  dsimp only
  refine Touches.trans ?_ State.releaseAll_touches rfl
  refine Touches.trans ?_ State.loopIntake_touches rfl
  refine Touches.mkUpd ?_ (by simp only [State.without, cond_true, cond_false])
  refine Touches.ite ?_ ?_
  · refine Touches.mkUpd ?_ (by simp only [State.without, cond_true, cond_false])
    exact Touches.refl _
  · refine Touches.trans ?_ State.raise_touches rfl
    refine Touches.trans ?_ Touches.put rfl
    refine Touches.mkUpd ?_ (by simp only [State.without, cond_true, cond_false])
    exact Touches.refl _

theorem State.takeCommands_touches {a0 : _} {a1 : _} : Touches { regs := true, lcp := true, pair := true } a0 (@State.takeCommands a0 a1) := by
  unfold State.takeCommands
  dsimp only
  refine Touches.trans ?_ State.countSessions_touches rfl
  refine Touches.mkUpd ?_ (by simp only [State.without, cond_true, cond_false])
  exact Touches.refl _

theorem State.serveNow_touches {a0 : _} {a1 : _} : Touches { regs := true, ev := true, rt := true, lanes := true, field := true, time := true, can := true } a0 (@State.serveNow a0 a1) := by
  unfold State.serveNow
  refine Touches.trans ?_ State.showLeds_touches rfl
  refine Touches.trans ?_ State.canShow_touches rfl
  refine Touches.trans ?_ State.timeTakesOver_touches rfl
  refine Touches.trans ?_ State.lanesTakeService_touches rfl
  refine Touches.trans ?_ State.fieldTakeover_touches rfl
  exact Touches.refl _

theorem State.noteTakeover_touches {a0 : _} {a1 : _} {a2 : _} {a3 : _} {a4 : _} {a5 : _} : Touches { regs := true, ev := true } a0 (@State.noteTakeover a0 a1 a2 a3 a4 a5) := by
  unfold State.noteTakeover
  dsimp only
  refine Touches.trans ?_ State.raise_touches rfl
  refine Touches.trans ?_ Touches.put rfl
  refine Touches.trans ?_ Touches.put rfl
  refine Touches.trans ?_ Touches.inc rfl
  exact Touches.refl _

theorem State.partnerFailed_touches {a0 : _} : Touches { regs := true, ev := true, jr := true, units := true, pair := true } a0 (@State.partnerFailed a0) := by
  unfold State.partnerFailed
  refine Touches.trans ?_ Touches.put rfl
  refine Touches.trans ?_ State.bumpUnit_touches rfl
  dsimp only
  refine Touches.mkUpd ?_ (by simp only [State.without, cond_true, cond_false])
  refine Touches.trans ?_ State.partnerGone_touches rfl
  exact Touches.refl _

theorem State.takeUnsynced_touches {a0 : _} {a1 : _} : Touches { regs := true, ev := true, lcp := true, jr := true, units := true, rt := true, pair := true, lanes := true, field := true, time := true, can := true } a0 (@State.takeUnsynced a0 a1) := by
  unfold State.takeUnsynced
  dsimp only
  refine Touches.trans ?_ State.serveNow_touches rfl
  refine Touches.trans ?_ State.noteTakeover_touches rfl
  refine Touches.trans ?_ State.takeCommands_touches rfl
  refine Touches.trans ?_ Touches.put rfl
  refine Touches.trans ?_ State.setMode_touches rfl
  refine Touches.mkUpd ?_ (by simp only [State.without, cond_true, cond_false])
  refine Touches.trans ?_ State.dropCycles_touches rfl
  refine Touches.trans ?_ State.partnerFailed_touches rfl
  exact Touches.refl _

theorem State.takeNow_touches {a0 : _} {a1 : _} {a2 : _} : Touches { regs := true, beat := true, ev := true, rt := true, loops := true } a0 (@State.takeNow a0 a1 a2) := by
  unfold State.takeNow
  refine Touches.ite ?_ ?_
  · refine Touches.trans ?_ State.startCompute_touches rfl
    refine Touches.mkUpd ?_ (by simp only [State.without, cond_true, cond_false])
    exact Touches.refl _
  · exact Touches.refl _

theorem State.takeRedo_touches {a0 : _} {a1 : _} {a2 : _} : Touches { regs := true, beat := true, ev := true, rt := true, loops := true, pair := true } a0 (@State.takeRedo a0 a1 a2) := by
  unfold State.takeRedo
  dsimp only
  refine Touches.ite ?_ ?_
  · refine Touches.trans ?_ State.startCompute_touches rfl
    refine Touches.mkUpd ?_ (by simp only [State.without, cond_true, cond_false])
    exact Touches.refl _
  · refine Touches.mkUpd ?_ (by simp only [State.without, cond_true, cond_false])
    exact Touches.refl _

theorem State.backTo_touches {a0 : _} {a1 : _} : Touches { regs := true, ev := true, jr := true, rt := true, rtY := true, rtZ := true, loops := true, sec := true } a0 (@State.backTo a0 a1) := by
  unfold State.backTo
  split
  · rename_i v0 v1
    exact Touches.refl _
  · rename_i v2 v3 v4
    refine Touches.ite ?_ ?_
    · exact Touches.refl _
    · dsimp only
      split
      · rename_i v5 v6 v7
        refine Touches.foldl ?_ (fun v8 v9 => ?_)
        · refine Touches.trans ?_ State.takeStatuses_touches rfl
          refine Touches.mkUpd ?_ (by simp only [State.without, cond_true, cond_false])
          exact Touches.refl _
        · refine Touches.trans ?_ State.shadowCmd_touches rfl
          exact Touches.refl _
      · rename_i v10 v11
        refine Touches.trans ?_ State.takeStatuses_touches rfl
        refine Touches.mkUpd ?_ (by simp only [State.without, cond_true, cond_false])
        exact Touches.refl _

theorem State.takeSynced_touches {a0 : _} {a1 : _} {a2 : _} {a3 : _} {a4 : _} : Touches { regs := true, beat := true, ev := true, lcp := true, jr := true, units := true, rt := true, rtY := true, rtZ := true, loops := true, pair := true, sec := true, lanes := true, field := true, time := true, can := true } a0 (@State.takeSynced a0 a1 a2 a3 a4) := by
  unfold State.takeSynced
  dsimp only
  refine Touches.ite ?_ ?_
  · refine Touches.trans ?_ State.takeNow_touches rfl
    refine Touches.mkUpd ?_ (by simp only [State.without, cond_true, cond_false])
    refine Touches.trans ?_ State.serveNow_touches rfl
    refine Touches.trans ?_ State.noteTakeover_touches rfl
    refine Touches.trans ?_ State.takeCommands_touches rfl
    refine Touches.trans ?_ State.setMode_touches rfl
    refine Touches.ite ?_ ?_
    · refine Touches.trans ?_ State.journalProgram_touches rfl
      refine Touches.mkUpd ?_ (by simp only [State.without, cond_true, cond_false])
      refine Touches.trans ?_ Touches.put rfl
      refine Touches.trans ?_ Touches.put rfl
      refine Touches.trans ?_ State.partnerFailed_touches rfl
      refine Touches.ite ?_ ?_
      · refine Touches.trans ?_ State.backTo_touches rfl
        exact Touches.refl _
      · exact Touches.refl _
    · refine Touches.mkUpd ?_ (by simp only [State.without, cond_true, cond_false])
      refine Touches.trans ?_ State.partnerFailed_touches rfl
      refine Touches.ite ?_ ?_
      · refine Touches.trans ?_ State.backTo_touches rfl
        exact Touches.refl _
      · exact Touches.refl _
  · refine Touches.trans ?_ State.takeRedo_touches rfl
    refine Touches.mkUpd ?_ (by simp only [State.without, cond_true, cond_false])
    refine Touches.trans ?_ State.serveNow_touches rfl
    refine Touches.trans ?_ State.noteTakeover_touches rfl
    refine Touches.trans ?_ State.takeCommands_touches rfl
    refine Touches.trans ?_ State.setMode_touches rfl
    refine Touches.ite ?_ ?_
    · refine Touches.trans ?_ State.journalProgram_touches rfl
      refine Touches.mkUpd ?_ (by simp only [State.without, cond_true, cond_false])
      refine Touches.trans ?_ Touches.put rfl
      refine Touches.trans ?_ Touches.put rfl
      refine Touches.trans ?_ State.partnerFailed_touches rfl
      refine Touches.ite ?_ ?_
      · refine Touches.trans ?_ State.backTo_touches rfl
        exact Touches.refl _
      · exact Touches.refl _
    · refine Touches.mkUpd ?_ (by simp only [State.without, cond_true, cond_false])
      refine Touches.trans ?_ State.partnerFailed_touches rfl
      refine Touches.ite ?_ ?_
      · refine Touches.trans ?_ State.backTo_touches rfl
        exact Touches.refl _
      · exact Touches.refl _

theorem State.followerLinkLost_touches {a0 : _} {a1 : _} : Touches { regs := true, ev := true, lcp := true, jr := true, units := true, rt := true, loops := true, pair := true, lanes := true } a0 (@State.followerLinkLost a0 a1) := by
  unfold State.followerLinkLost
  dsimp only
  refine Touches.trans ?_ Touches.put rfl
  refine Touches.trans ?_ Touches.put rfl
  refine Touches.trans ?_ State.linkLoss_touches rfl
  refine Touches.ite ?_ ?_
  · refine Touches.trans ?_ State.stopShadow_touches rfl
    refine Touches.mkUpd ?_ (by simp only [State.without, cond_true, cond_false])
    exact Touches.refl _
  · refine Touches.trans ?_ State.dropSync_touches rfl
    refine Touches.mkUpd ?_ (by simp only [State.without, cond_true, cond_false])
    exact Touches.refl _

theorem State.takeover_touches {a0 : _} {a1 : _} {a2 : _} : Touches { regs := true, beat := true, ev := true, lcp := true, jr := true, units := true, rt := true, rtY := true, rtZ := true, loops := true, pair := true, sec := true, lanes := true, field := true, time := true, can := true } a0 (@State.takeover a0 a1 a2) := by
  unfold State.takeover
  refine Touches.ite ?_ ?_
  · exact Touches.refl _
  · dsimp only
    refine Touches.ite ?_ ?_
    · refine Touches.ite ?_ ?_
      · refine Touches.trans ?_ State.linkLoss_touches rfl
        refine Touches.mkUpd ?_ (by simp only [State.without, cond_true, cond_false])
        exact Touches.refl _
      · refine Touches.mkUpd ?_ (by simp only [State.without, cond_true, cond_false])
        exact Touches.refl _
    · refine Touches.ite ?_ ?_
      · refine Touches.mkUpd ?_ (by simp only [State.without, cond_true, cond_false])
        exact Touches.refl _
      · refine Touches.ite ?_ ?_
        · refine Touches.trans ?_ State.followerLinkLost_touches rfl
          refine Touches.mkUpd ?_ (by simp only [State.without, cond_true, cond_false])
          exact Touches.refl _
        · refine Touches.ite ?_ ?_
          · refine Touches.trans ?_ State.takeSynced_touches rfl
            refine Touches.mkUpd ?_ (by simp only [State.without, cond_true, cond_false])
            exact Touches.refl _
          · split
            · rename_i v0 v1 v2
              refine Touches.ite ?_ ?_
              · refine Touches.trans ?_ State.takeSynced_touches rfl
                refine Touches.mkUpd ?_ (by simp only [State.without, cond_true, cond_false])
                exact Touches.refl _
              · refine Touches.trans ?_ State.takeUnsynced_touches rfl
                refine Touches.ite ?_ ?_
                · refine Touches.trans ?_ State.stopShadow_touches rfl
                  refine Touches.mkUpd ?_ (by simp only [State.without, cond_true, cond_false])
                  exact Touches.refl _
                · refine Touches.mkUpd ?_ (by simp only [State.without, cond_true, cond_false])
                  exact Touches.refl _
            · rename_i v3 v4
              refine Touches.trans ?_ State.takeUnsynced_touches rfl
              refine Touches.ite ?_ ?_
              · refine Touches.trans ?_ State.stopShadow_touches rfl
                refine Touches.mkUpd ?_ (by simp only [State.without, cond_true, cond_false])
                exact Touches.refl _
              · refine Touches.mkUpd ?_ (by simp only [State.without, cond_true, cond_false])
                exact Touches.refl _

theorem execTakeover_touches {a0 : _} {a1 : _} {a2 : _} {t : State} (h : (@execTakeover a0 a1 a2) = .next t) : Touches { regs := true, beat := true, ev := true, lcp := true, jr := true, units := true, rt := true, rtY := true, rtZ := true, loops := true, pair := true, sec := true, lanes := true, field := true, time := true, can := true } a2 t := by
  unfold execTakeover at h
  injection h with h
  subst h
  refine Touches.trans ?_ State.takeover_touches rfl
  exact Touches.refl _

theorem execClaimReleasedUnsynced_touches {a0 : _} {t : State} (h : (@execClaimReleasedUnsynced a0) = .next t) : Touches { regs := true, ev := true, lcp := true, jr := true, units := true, rt := true, pair := true, lanes := true, field := true, time := true, can := true } a0 t := by
  unfold execClaimReleasedUnsynced at h
  injection h with h
  subst h
  refine Touches.ite ?_ ?_
  · refine Touches.trans ?_ State.takeUnsynced_touches rfl
    refine Touches.mkUpd ?_ (by simp only [State.without, cond_true, cond_false])
    exact Touches.refl _
  · exact Touches.refl _

theorem execClaimProbe_touches {a0 : _} {a1 : _} {t : State} (h : (@execClaimProbe a0 a1) = .next t) : Touches { regs := true, ev := true, lcp := true, jr := true, units := true, rt := true, pair := true, can := true } a1 t := by
  unfold execClaimProbe at h
  injection h with h
  subst h
  refine Touches.ite ?_ ?_
  · exact Touches.refl _
  · dsimp only
    refine Touches.ite ?_ ?_
    · refine Touches.mkUpd ?_ (by simp only [State.without, cond_true, cond_false])
      exact Touches.refl _
    · refine Touches.trans ?_ State.showLeds_touches rfl
      refine Touches.trans ?_ State.canShow_touches rfl
      refine Touches.trans ?_ State.raise_touches rfl
      refine Touches.trans ?_ State.setMode_touches rfl
      refine Touches.mkUpd ?_ (by simp only [State.without, cond_true, cond_false])
      refine Touches.trans ?_ State.canDropAll_touches rfl
      refine Touches.trans ?_ State.dropCycles_touches rfl
      refine Touches.mkUpd ?_ (by simp only [State.without, cond_true, cond_false])
      exact Touches.refl _

theorem State.planRuns_touches {a0 : _} {a1 : _} : Touches { regs := true, ev := true, pair := true, panel := true } a0 (@State.planRuns a0 a1) := by
  unfold State.planRuns
  refine Touches.ite ?_ ?_
  · dsimp only
    refine Touches.trans ?_ State.raise_touches rfl
    refine Touches.trans ?_ Touches.inc rfl
    refine Touches.mkUpd ?_ (by simp only [State.without, cond_true, cond_false])
    exact Touches.refl _
  · dsimp only
    refine Touches.ite ?_ ?_
    · refine Touches.mkUpd ?_ (by simp only [State.without, cond_true, cond_false])
      exact Touches.refl _
    · refine Touches.trans ?_ State.panelRefused_touches rfl
      refine Touches.trans ?_ Touches.put rfl
      refine Touches.mkUpd ?_ (by simp only [State.without, cond_true, cond_false])
      exact Touches.refl _

theorem execPlannedSwitchover_touches {a0 : _} {t : State} (h : (@execPlannedSwitchover a0) = .next t) : Touches { regs := true, ev := true, pair := true, panel := true } a0 t := by
  unfold execPlannedSwitchover at h
  injection h with h
  subst h
  refine Touches.ite ?_ ?_
  · exact Touches.refl _
  · split
    · rename_i v0 v1 v2
      refine Touches.ite ?_ ?_
      · refine Touches.trans ?_ State.planRuns_touches rfl
        exact Touches.refl _
      · exact Touches.refl _
    · rename_i v3 v4
      refine Touches.ite ?_ ?_
      · dsimp only
        refine Touches.mkUpd ?_ (by simp only [State.without, cond_true, cond_false])
        refine Touches.trans ?_ Touches.inc rfl
        exact Touches.refl _
      · exact Touches.refl _

theorem State.mapInto_touches {a0 : _} {a1 : _} : Touches { regs := true, ev := true, jr := true, rt := true, loops := true } a0 (@State.mapInto a0 a1) := by
  unfold State.mapInto
  dsimp only
  refine Touches.trans ?_ State.journalLoad_touches rfl
  refine Touches.trans ?_ State.loadProgram_touches rfl
  refine Touches.mkUpd ?_ (by simp only [State.without, cond_true, cond_false])
  refine Touches.trans ?_ State.purgeCoeffs_touches rfl
  refine Touches.trans ?_ State.clearForces_touches rfl
  refine Touches.trans ?_ State.dropCycles_touches rfl
  exact Touches.refl _

theorem State.notePromoted_touches {a0 : _} : Touches { regs := true, ev := true, jr := true } a0 (@State.notePromoted a0) := by
  unfold State.notePromoted
  refine Touches.trans ?_ State.journalProgram_touches rfl
  refine Touches.trans ?_ State.raise_touches rfl
  refine Touches.trans ?_ Touches.put rfl
  refine Touches.trans ?_ Touches.put rfl
  exact Touches.refl _

theorem State.noteReverted_touches {a0 : _} : Touches { regs := true, ev := true, jr := true, rt := true } a0 (@State.noteReverted a0) := by
  unfold State.noteReverted
  refine Touches.trans ?_ State.journalProgram_touches rfl
  refine Touches.trans ?_ State.raise_touches rfl
  dsimp only
  refine Touches.mkUpd ?_ (by simp only [State.without, cond_true, cond_false])
  refine Touches.trans ?_ Touches.put rfl
  exact Touches.refl _

theorem State.keepOld_touches {a0 : _} : Touches { rt := true } a0 (@State.keepOld a0) := by
  unfold State.keepOld
  refine Touches.mkUpd ?_ (by simp only [State.without, cond_true, cond_false])
  exact Touches.refl _

theorem State.handsChange_touches {a0 : _} {a1 : _} : Touches { regs := true, ev := true, jr := true, rt := true } a0 (@State.handsChange a0 a1) := by
  unfold State.handsChange
  refine Touches.ite ?_ ?_
  · refine Touches.trans ?_ State.keepOld_touches rfl
    refine Touches.trans ?_ State.notePromoted_touches rfl
    exact Touches.refl _
  · refine Touches.ite ?_ ?_
    · refine Touches.trans ?_ State.noteReverted_touches rfl
      exact Touches.refl _
    · exact Touches.refl _

theorem State.becomesStandby_touches {a0 : _} {a1 : _} : Touches { regs := true, ev := true, lcp := true, jr := true, units := true, rt := true, lanes := true, field := true, can := true } a0 (@State.becomesStandby a0 a1) := by
  unfold State.becomesStandby
  dsimp only
  refine Touches.mkUpd ?_ (by simp only [State.without, cond_true, cond_false])
  refine Touches.foldl ?_ (fun v0 v1 => ?_)
  · refine Touches.trans ?_ State.canShow_touches rfl
    refine Touches.trans ?_ State.fieldOff_touches rfl
    refine Touches.trans ?_ State.endCrossovers_touches rfl
    refine Touches.trans ?_ State.bumpUnit_touches rfl
    refine Touches.trans ?_ State.setMode_touches rfl
    refine Touches.trans ?_ Touches.putFlag rfl
    refine Touches.trans ?_ Touches.put rfl
    exact Touches.refl _
  · refine Touches.trans ?_ State.lateEpoch_touches rfl
    exact Touches.refl _

theorem State.afterHandover_touches {a0 : _} {a1 : _} : Touches { regs := true, ev := true, lcp := true, jr := true, units := true, rt := true, loops := true, pair := true, pwr := true, panel := true, can := true } a0 (@State.afterHandover a0 a1) := by
  unfold State.afterHandover
  refine Touches.ite ?_ ?_
  · refine Touches.ite ?_ ?_
    · refine Touches.trans ?_ State.quiesce_touches rfl
      exact Touches.refl _
    · refine Touches.trans ?_ State.showLeds_touches rfl
      refine Touches.trans ?_ State.canShow_touches rfl
      refine Touches.trans ?_ State.setMode_touches rfl
      refine Touches.trans ?_ State.dropCycles_touches rfl
      exact Touches.refl _
  · refine Touches.ite ?_ ?_
    · refine Touches.mkUpd ?_ (by simp only [State.without, cond_true, cond_false])
      exact Touches.refl _
    · refine Touches.trans ?_ State.showLeds_touches rfl
      exact Touches.refl _

theorem State.handsOver_touches {a0 : _} {a1 : _} : Touches { regs := true, ev := true, lcp := true, jr := true, units := true, rt := true, loops := true, pair := true, pwr := true, panel := true, lanes := true, field := true, can := true } a0 (@State.handsOver a0 a1) := by
  unfold State.handsOver
  dsimp only
  refine Touches.trans ?_ State.afterHandover_touches rfl
  refine Touches.trans ?_ State.becomesStandby_touches rfl
  refine Touches.trans ?_ State.handsChange_touches rfl
  refine Touches.trans ?_ Touches.put rfl
  refine Touches.foldl ?_ (fun v0 v1 => ?_)
  · refine Touches.mkUpd ?_ (by simp only [State.without, cond_true, cond_false])
    exact Touches.refl _
  · refine Touches.ite ?_ ?_
    · refine Touches.trans ?_ State.holdSession_touches rfl
      exact Touches.refl _
    · exact Touches.refl _

theorem State.takesChange_touches {a0 : _} : Touches { regs := true, ev := true, lcp := true, jr := true, rt := true } a0 (@State.takesChange a0) := by
  unfold State.takesChange
  dsimp only
  refine Touches.trans ?_ Touches.put rfl
  refine Touches.mkUpd ?_ (by simp only [State.without, cond_true, cond_false])
  refine Touches.trans ?_ State.notePromoted_touches rfl
  exact Touches.refl _

theorem State.takesBack_touches {a0 : _} {a1 : _} : Touches { regs := true, ev := true, jr := true, rt := true, loops := true } a0 (@State.takesBack a0 a1) := by
  unfold State.takesBack
  split
  · rename_i v0 v1
    dsimp only
    refine Touches.trans ?_ State.noteReverted_touches rfl
    refine Touches.mkUpd ?_ (by simp only [State.without, cond_true, cond_false])
    refine Touches.trans ?_ State.mapInto_touches rfl
    exact Touches.refl _
  · rename_i v2
    exact Touches.refl _

theorem State.takesOver_touches {a0 : _} : Touches { regs := true, ev := true, lcp := true, jr := true, units := true, rt := true, loops := true, pair := true, lanes := true, field := true, time := true, can := true } a0 (@State.takesOver a0) := by
  unfold State.takesOver
  dsimp only
  refine Touches.trans ?_ State.serveNow_touches rfl
  refine Touches.trans ?_ State.takeCommands_touches rfl
  refine Touches.trans ?_ State.bumpUnit_touches rfl
  refine Touches.trans ?_ State.setMode_touches rfl
  refine Touches.trans ?_ Touches.put rfl
  refine Touches.ite ?_ ?_
  · refine Touches.trans ?_ State.takesChange_touches rfl
    refine Touches.trans ?_ Touches.put rfl
    refine Touches.trans ?_ Touches.put rfl
    refine Touches.mkUpd ?_ (by simp only [State.without, cond_true, cond_false])
    exact Touches.refl _
  · refine Touches.trans ?_ State.takesBack_touches rfl
    refine Touches.mkUpd ?_ (by simp only [State.without, cond_true, cond_false])
    refine Touches.trans ?_ Touches.put rfl
    refine Touches.trans ?_ Touches.put rfl
    refine Touches.mkUpd ?_ (by simp only [State.without, cond_true, cond_false])
    exact Touches.refl _

theorem State.handoverEdge_touches {a0 : _} : Touches { regs := true, ev := true, lcp := true, jr := true, units := true, rt := true, loops := true, pair := true, pwr := true, panel := true, lanes := true, field := true, time := true, can := true } a0 (@State.handoverEdge a0) := by
  unfold State.handoverEdge
  refine Touches.ite ?_ ?_
  · exact Touches.refl _
  · refine Touches.ite ?_ ?_
    · refine Touches.trans ?_ State.handsOver_touches rfl
      exact Touches.refl _
    · refine Touches.ite ?_ ?_
      · refine Touches.trans ?_ State.takesOver_touches rfl
        exact Touches.refl _
      · refine Touches.mkUpd ?_ (by simp only [State.without, cond_true, cond_false])
        exact Touches.refl _

theorem execPairStatus_touches {a0 : _} {a1 : _} {t : State} (h : (@execPairStatus a0 a1) = .next t) : Touches { regs := true, beat := true, lcp := true } a1 t := by
  unfold execPairStatus at h
  injection h with h
  subst h
  refine Touches.comp ?_ (served_touches ?_ rfl)
  · exact Touches.refl _
  · intro v0 v1
    dsimp only
    exact Touches.refl _

theorem switchoverApply_touches {a0 : _} : Touches { pair := true } a0 (@switchoverApply a0).st := by
  unfold switchoverApply
  split
  · rename_i v0 v1 v2 v3
    dsimp only
    exact Touches.refl _
  · rename_i v4 v5
    dsimp only
    refine Touches.trans ?_ State.planAt_touches rfl
    exact Touches.refl _

theorem execSwitchover_touches {a0 : _} {a1 : _} {t : State} (h : (@execSwitchover a0 a1) = .next t) : Touches { regs := true, beat := true, lcp := true } a1 t := by
  unfold execSwitchover at h
  injection h with h
  subst h
  refine Touches.trans ?_ queued_touches rfl
  exact Touches.refl _

theorem resyncApply_touches {a0 : _} : Touches { regs := true, pair := true } a0 (@resyncApply a0).st := by
  unfold resyncApply
  split
  · rename_i v0 v1 v2 v3
    dsimp only
    exact Touches.refl _
  · rename_i v4 v5
    dsimp only
    refine Touches.trans ?_ Touches.put rfl
    refine Touches.trans ?_ Touches.put rfl
    refine Touches.mkUpd ?_ (by simp only [State.without, cond_true, cond_false])
    exact Touches.refl _

theorem execResyncStandby_touches {a0 : _} {a1 : _} {t : State} (h : (@execResyncStandby a0 a1) = .next t) : Touches { regs := true, beat := true, lcp := true } a1 t := by
  unfold execResyncStandby at h
  injection h with h
  subst h
  refine Touches.trans ?_ queued_touches rfl
  exact Touches.refl _

theorem execSupervisorLockstepMismatch_touches {a0 : _} {t : State} (h : (@execSupervisorLockstepMismatch a0) = .next t) : Touches { regs := true, ev := true, lcp := true, jr := true, units := true, wd := true, rt := true, pair := true, triad := true, pwr := true, field := true, can := true } a0 t := by
  unfold execSupervisorLockstepMismatch at h
  injection h with h
  subst h
  refine Touches.ite ?_ ?_
  · exact Touches.refl _
  · dsimp only
    refine Touches.trans ?_ State.showLeds_touches rfl
    refine Touches.trans ?_ State.canShow_touches rfl
    refine Touches.trans ?_ State.fieldOff_touches rfl
    refine Touches.trans ?_ State.setMode_touches rfl
    refine Touches.trans ?_ State.abandonResync_touches rfl
    refine Touches.mkUpd ?_ (by simp only [State.without, cond_true, cond_false])
    refine Touches.trans ?_ State.canDropAll_touches rfl
    refine Touches.trans ?_ State.dropCycles_touches rfl
    refine Touches.trans ?_ State.latch_touches rfl
    exact Touches.refl _

/-! Change. -/

theorem programStageBody_touches {a0 : _} {a1 : _} {a2 : _} : Touches { lcp := true } a2 (@programStageBody a0 a1 a2).st := by
  unfold programStageBody
  dsimp only
  refine Touches.mkUpd ?_ (by simp only [State.without, cond_true, cond_false])
  exact Touches.refl _

theorem execProgramStage_touches {a0 : _} {a1 : _} {t : State} (h : (@execProgramStage a0 a1) = .next t) : Touches { regs := true, beat := true, lcp := true } a1 t := by
  unfold execProgramStage at h
  injection h with h
  subst h
  refine Touches.comp ?_ (served_touches ?_ rfl)
  · exact Touches.refl _
  · intro v0 v1
    refine Touches.trans ?_ programStageBody_touches rfl
    exact Touches.refl _

theorem State.stageProgram_touches {a0 : _} {a1 : _} {a2 : _} : Touches { rt := true, rtY := true, rtZ := true, pair := true } a0 (@State.stageProgram a0 a1 a2) := by
  unfold State.stageProgram
  refine Touches.ite ?_ ?_
  · refine Touches.mkUpd ?_ (by simp only [State.without, cond_true, cond_false])
    exact Touches.refl _
  · refine Touches.trans ?_ State.putRt_touches rfl
    exact Touches.refl _

theorem programChunkBody_touches {a0 : _} {a1 : _} {a2 : _} {a3 : _} : Touches { lcp := true, rt := true, rtY := true, rtZ := true, pair := true } a3 (@programChunkBody a0 a1 a2 a3).st := by
  unfold programChunkBody
  split
  · rename_i v0 v1
    dsimp only
    exact Touches.refl _
  · rename_i v2 v3 v4
    dsimp only
    refine Touches.iteSt ?_ ?_
    · dsimp only
      refine Touches.trans ?_ State.putTransfer_touches rfl
      exact Touches.refl _
    · split
      · rename_i v5
        dsimp only
        refine Touches.trans ?_ State.closeTransfer_touches rfl
        exact Touches.refl _
      · rename_i v6 v7
        refine Touches.iteSt ?_ ?_
        · dsimp only
          refine Touches.trans ?_ State.stageProgram_touches rfl
          refine Touches.trans ?_ State.closeTransfer_touches rfl
          exact Touches.refl _
        · dsimp only
          refine Touches.trans ?_ State.closeTransfer_touches rfl
          exact Touches.refl _

theorem execProgramChunk_touches {a0 : _} {a1 : _} {a2 : _} {t : State} (h : (@execProgramChunk a0 a1 a2) = .next t) : Touches { regs := true, beat := true, lcp := true, rt := true, rtY := true, rtZ := true, pair := true } a2 t := by
  unfold execProgramChunk at h
  injection h with h
  subst h
  refine Touches.comp ?_ (servedTracked_touches ?_ rfl)
  · exact Touches.refl _
  · intro v0 v1
    refine Touches.trans ?_ programChunkBody_touches rfl
    exact Touches.refl _

theorem shadowStartApply_touches {a0 : _} : Touches { regs := true, pair := true } a0 (@shadowStartApply a0).st := by
  unfold shadowStartApply
  split
  · rename_i v0 v1 v2 v3
    dsimp only
    exact Touches.refl _
  · rename_i v4 v5
    dsimp only
    refine Touches.trans ?_ Touches.put rfl
    refine Touches.mkUpd ?_ (by simp only [State.without, cond_true, cond_false])
    exact Touches.refl _

theorem execShadowStart_touches {a0 : _} {a1 : _} {t : State} (h : (@execShadowStart a0 a1) = .next t) : Touches { regs := true, beat := true, lcp := true } a1 t := by
  unfold execShadowStart at h
  injection h with h
  subst h
  refine Touches.trans ?_ queued_touches rfl
  exact Touches.refl _

theorem State.runBegins_touches {a0 : _} : Touches { regs := true, pair := true } a0 (@State.runBegins a0) := by
  unfold State.runBegins
  dsimp only
  iterate 8 refine Touches.trans ?_ Touches.put rfl
  refine Touches.mkUpd ?_ (by simp only [State.without, cond_true, cond_false])
  exact Touches.refl _

theorem State.shadowRunStart_touches {a0 : _} : Touches { regs := true, ev := true, lcp := true, jr := true, units := true, rt := true, loops := true, pair := true } a0 (@State.shadowRunStart a0) := by
  unfold State.shadowRunStart
  refine Touches.ite ?_ ?_
  · refine Touches.ite ?_ ?_
    · exact Touches.refl _
    · refine Touches.ite ?_ ?_
      · refine Touches.mkUpd ?_ (by simp only [State.without, cond_true, cond_false])
        exact Touches.refl _
      · dsimp only
        refine Touches.mkUpd ?_ (by simp only [State.without, cond_true, cond_false])
        refine Touches.trans ?_ State.runBegins_touches rfl
        exact Touches.refl _
  · split
    · rename_i v0 v1
      exact Touches.refl _
    · rename_i v2 v3 v4
      refine Touches.ite ?_ ?_
      · exact Touches.refl _
      · dsimp only
        refine Touches.trans ?_ State.showLeds_touches rfl
        refine Touches.trans ?_ State.setMode_touches rfl
        refine Touches.mkUpd ?_ (by simp only [State.without, cond_true, cond_false])
        refine Touches.trans ?_ State.mapInto_touches rfl
        refine Touches.trans ?_ State.runBegins_touches rfl
        exact Touches.refl _

theorem execShadowRunStart_touches {a0 : _} {a1 : _} {t : State} (h : (@execShadowRunStart a0 a1) = .next t) : Touches { regs := true, ev := true, lcp := true, jr := true, units := true, rt := true, loops := true, pair := true } a1 t := by
  unfold execShadowRunStart at h
  injection h with h
  subst h
  refine Touches.ite ?_ ?_
  · refine Touches.trans ?_ State.shadowRunStart_touches rfl
    exact Touches.refl _
  · exact Touches.refl _

theorem State.showCmp_touches {a0 : _} : Touches { regs := true } a0 (@State.showCmp a0) := by
  unfold State.showCmp
  dsimp only
  iterate 3 refine Touches.trans ?_ Touches.put rfl
  exact Touches.refl _

theorem State.noteDiff_touches {a0 : _} {a1 : _} {a2 : _} {a3 : _} {a4 : _} : Touches { regs := true, free := true, ev := true, pair := true } a0 (@State.noteDiff a0 a1 a2 a3 a4) := by
  unfold State.noteDiff
  split
  · rename_i v0 v1 v2 v3
    split
    · rename_i v4 v5 v6
      dsimp only
      refine Touches.mkUpd ?_ (by simp only [State.without, cond_true, cond_false])
      refine Touches.ofSnd v3 ?_
      split
      · rename_i v7 v8 v9
        dsimp only
        exact Touches.refl _
      · rename_i v10 v11
        refine Touches.trans ?_ State.fresh_touches rfl
        exact Touches.refl _
    · rename_i v12 v13
      dsimp only
      refine Touches.ite ?_ ?_
      · refine Touches.mkUpd ?_ (by simp only [State.without, cond_true, cond_false])
        refine Touches.ofSnd v3 ?_
        split
        · rename_i v14 v15 v16
          dsimp only
          exact Touches.refl _
        · rename_i v17 v18
          refine Touches.trans ?_ State.fresh_touches rfl
          exact Touches.refl _
      · refine Touches.trans ?_ State.raise_touches rfl
        refine Touches.mkUpd ?_ (by simp only [State.without, cond_true, cond_false])
        refine Touches.ofSnd v3 ?_
        split
        · rename_i v19 v20 v21
          dsimp only
          exact Touches.refl _
        · rename_i v22 v23
          refine Touches.trans ?_ State.fresh_touches rfl
          exact Touches.refl _

theorem State.shadowCompare_touches {a0 : _} {a1 : _} : Touches { regs := true, free := true, ev := true, pair := true } a0 (@State.shadowCompare a0 a1) := by
  unfold State.shadowCompare
  dsimp only
  refine Touches.ite ?_ ?_
  · exact Touches.refl _
  · refine Touches.ite ?_ ?_
    · exact Touches.refl _
    · refine Touches.trans ?_ State.showCmp_touches rfl
      refine Touches.foldl ?_ (fun v0 v1 => ?_)
      · refine Touches.trans ?_ Touches.peak rfl
        refine Touches.trans ?_ Touches.inc rfl
        refine Touches.trans ?_ Touches.put rfl
        exact Touches.refl _
      · refine Touches.trans ?_ State.noteDiff_touches rfl
        exact Touches.refl _

theorem execShadowCompare_touches {a0 : _} {a1 : _} {t : State} (h : (@execShadowCompare a0 a1) = .next t) : Touches { regs := true, free := true, ev := true, pair := true } a1 t := by
  unfold execShadowCompare at h
  injection h with h
  subst h
  refine Touches.trans ?_ State.shadowCompare_touches rfl
  exact Touches.refl _

theorem shadowGetBody_touches {a0 : _} {a1 : _} {a2 : _} : Touches { regs := true, pair := true } a2 (@shadowGetBody a0 a1 a2).st := by
  unfold shadowGetBody
  dsimp only
  refine Touches.ite ?_ ?_
  · refine Touches.mkUpd ?_ (by simp only [State.without, cond_true, cond_false])
    exact Touches.refl _
  · refine Touches.trans ?_ State.showCmp_touches rfl
    refine Touches.mkUpd ?_ (by simp only [State.without, cond_true, cond_false])
    exact Touches.refl _

theorem execShadowCompareGet_touches {a0 : _} {a1 : _} {t : State} (h : (@execShadowCompareGet a0 a1) = .next t) : Touches { regs := true, beat := true, lcp := true, pair := true } a1 t := by
  unfold execShadowCompareGet at h
  injection h with h
  subst h
  refine Touches.comp ?_ (served_touches ?_ rfl)
  · exact Touches.refl _
  · intro v0 v1
    refine Touches.trans ?_ shadowGetBody_touches rfl
    exact Touches.refl _

theorem State.promoteCluster_touches {a0 : _} {a1 : _} : Touches { regs := true, rt := true, loops := true } a0 (@State.promoteCluster a0 a1) := by
  unfold State.promoteCluster
  split
  · rename_i v0 v1
    exact Touches.refl _
  · rename_i v2 v3 v4
    dsimp only
    refine Touches.trans ?_ State.showRuntime_touches rfl
    refine Touches.mkUpd ?_ (by simp only [State.without, cond_true, cond_false])
    refine Touches.trans ?_ State.coldCluster_touches rfl
    refine Touches.trans ?_ State.loadProgram_touches rfl
    refine Touches.mkUpd ?_ (by simp only [State.without, cond_true, cond_false])
    refine Touches.trans ?_ State.dropCycles_touches rfl
    exact Touches.refl _

theorem State.promoteOwn_touches {a0 : _} {a1 : _} : Touches { regs := true, ev := true, lcp := true, jr := true, rt := true, loops := true } a0 (@State.promoteOwn a0 a1) := by
  unfold State.promoteOwn
  split
  · rename_i v0 v1
    exact Touches.refl _
  · rename_i v2 v3 v4
    dsimp only
    refine Touches.trans ?_ Touches.put rfl
    refine Touches.mkUpd ?_ (by simp only [State.without, cond_true, cond_false])
    refine Touches.trans ?_ State.restartProgram_touches rfl
    refine Touches.trans ?_ State.journalLoad_touches rfl
    refine Touches.trans ?_ State.loadProgram_touches rfl
    refine Touches.trans ?_ State.purgeCoeffs_touches rfl
    refine Touches.mkUpd ?_ (by simp only [State.without, cond_true, cond_false])
    refine Touches.trans ?_ State.dropCycles_touches rfl
    exact Touches.refl _

theorem promoteApply_touches {a0 : _} {a1 : _} {a2 : _} : Touches { regs := true, beat := true, ev := true, lcp := true, jr := true, rt := true, rtY := true, rtZ := true, loops := true, pair := true, sec := true, triad := true } a2 (@promoteApply a0 a1 a2).st := by
  unfold promoteApply
  split
  · rename_i v0 v1 v2 v3
    dsimp only
    exact Touches.refl _
  · rename_i v4 v5
    dsimp only
    refine Touches.iteSt ?_ ?_
    · dsimp only
      refine Touches.trans ?_ State.showRuntime_touches rfl
      refine Touches.trans ?_ State.raise_touches rfl
      refine Touches.comp ?_ (State.onCluster_touches ?_ rfl)
      · refine Touches.comp ?_ (State.onCluster_touches ?_ rfl)
        · refine Touches.trans ?_ State.promoteOwn_touches rfl
          refine Touches.trans ?_ State.auditBy_touches rfl
          exact Touches.refl _
        · intro v6
          refine Touches.trans ?_ State.promoteCluster_touches rfl
          exact Touches.refl _
      · intro v7
        refine Touches.trans ?_ State.promoteCluster_touches rfl
        exact Touches.refl _
    · dsimp only
      refine Touches.mkUpd ?_ (by simp only [State.without, cond_true, cond_false])
      refine Touches.trans ?_ State.auditBy_touches rfl
      exact Touches.refl _

theorem execPromote_touches {a0 : _} {a1 : _} {t : State} (h : (@execPromote a0 a1) = .next t) : Touches { regs := true, beat := true, lcp := true } a1 t := by
  unfold execPromote at h
  injection h with h
  subst h
  refine Touches.trans ?_ queued_touches rfl
  exact Touches.refl _

theorem revertApply_touches {a0 : _} {a1 : _} : Touches { regs := true, ev := true, pair := true, sec := true } a1 (@revertApply a0 a1).st := by
  unfold revertApply
  split
  · rename_i v0 v1 v2 v3
    dsimp only
    exact Touches.refl _
  · rename_i v4 v5
    dsimp only
    refine Touches.iteSt ?_ ?_
    · dsimp only
      refine Touches.trans ?_ State.raise_touches rfl
      refine Touches.trans ?_ Touches.put rfl
      refine Touches.mkUpd ?_ (by simp only [State.without, cond_true, cond_false])
      refine Touches.trans ?_ State.auditBy_touches rfl
      exact Touches.refl _
    · dsimp only
      refine Touches.mkUpd ?_ (by simp only [State.without, cond_true, cond_false])
      refine Touches.trans ?_ State.auditBy_touches rfl
      exact Touches.refl _

theorem execRevert_touches {a0 : _} {a1 : _} {t : State} (h : (@execRevert a0 a1) = .next t) : Touches { regs := true, beat := true, lcp := true } a1 t := by
  unfold execRevert at h
  injection h with h
  subst h
  refine Touches.trans ?_ queued_touches rfl
  exact Touches.refl _

theorem State.revertHandover_touches {a0 : _} : Touches { regs := true, ev := true, pair := true } a0 (@State.revertHandover a0) := by
  unfold State.revertHandover
  refine Touches.ite ?_ ?_
  · refine Touches.ite ?_ ?_
    · exact Touches.refl _
    · refine Touches.ite ?_ ?_
      · refine Touches.mkUpd ?_ (by simp only [State.without, cond_true, cond_false])
        exact Touches.refl _
      · dsimp only
        refine Touches.trans ?_ State.raise_touches rfl
        refine Touches.mkUpd ?_ (by simp only [State.without, cond_true, cond_false])
        refine Touches.trans ?_ Touches.inc rfl
        exact Touches.refl _
  · refine Touches.ite ?_ ?_
    · dsimp only
      refine Touches.mkUpd ?_ (by simp only [State.without, cond_true, cond_false])
      refine Touches.trans ?_ Touches.inc rfl
      exact Touches.refl _
    · exact Touches.refl _

theorem execRevertHandover_touches {a0 : _} {t : State} (h : (@execRevertHandover a0) = .next t) : Touches { regs := true, ev := true, pair := true } a0 t := by
  unfold execRevertHandover at h
  injection h with h
  subst h
  refine Touches.trans ?_ State.revertHandover_touches rfl
  exact Touches.refl _

theorem State.confirmChange_touches {a0 : _} {a1 : _} : Touches { regs := true, ev := true, jr := true, rt := true, pair := true } a0 (@State.confirmChange a0 a1) := by
  unfold State.confirmChange
  dsimp only
  refine Touches.trans ?_ State.journalProgram_touches rfl
  refine Touches.trans ?_ State.raise_touches rfl
  refine Touches.trans ?_ Touches.put rfl
  refine Touches.trans ?_ Touches.put rfl
  refine Touches.mkUpd ?_ (by simp only [State.without, cond_true, cond_false])
  exact Touches.refl _

theorem changeConfirmApply_touches {a0 : _} {a1 : _} : Touches { regs := true, ev := true, jr := true, rt := true, pair := true, sec := true } a1 (@changeConfirmApply a0 a1).st := by
  unfold changeConfirmApply
  split
  · rename_i v0 v1 v2 v3
    dsimp only
    exact Touches.refl _
  · rename_i v4 v5
    dsimp only
    refine Touches.trans ?_ State.confirmChange_touches rfl
    refine Touches.trans ?_ State.auditBy_touches rfl
    exact Touches.refl _

theorem execChangeConfirm_touches {a0 : _} {a1 : _} {t : State} (h : (@execChangeConfirm a0 a1) = .next t) : Touches { regs := true, beat := true, lcp := true } a1 t := by
  unfold execChangeConfirm at h
  injection h with h
  subst h
  refine Touches.trans ?_ queued_touches rfl
  exact Touches.refl _

theorem execConfirmWindowEnd_touches {a0 : _} {t : State} (h : (@execConfirmWindowEnd a0) = .next t) : Touches { regs := true, ev := true, jr := true, rt := true, pair := true } a0 t := by
  unfold execConfirmWindowEnd at h
  injection h with h
  subst h
  refine Touches.ite ?_ ?_
  · refine Touches.trans ?_ State.confirmChange_touches rfl
    exact Touches.refl _
  · exact Touches.refl _

theorem execKlStatus_touches {a0 : _} {a1 : _} {t : State} (h : (@execKlStatus a0 a1) = .next t) : Touches { regs := true, beat := true, lcp := true } a1 t := by
  unfold execKlStatus at h
  injection h with h
  subst h
  refine Touches.comp ?_ (served_touches ?_ rfl)
  · exact Touches.refl _
  · intro v0 v1
    dsimp only
    exact Touches.refl _

end Sys2Proof.Machine
end

