-- ==== Sys2Proof/Laws/TouchD.lean ====
section
/-! SUPPORT. Which parts of the state each function of Objects, Start, Beat, Freeze, Commit may change. -/

set_option maxRecDepth 4000
namespace Sys2Proof.Machine

open Sys2Proof

/-! Objects. -/

theorem State.settled_touches {a0 : _} : Touches { regs := true } a0 (@State.settled a0) := by
  unfold State.settled
  refine Touches.mkUpd ?_ (by simp only [State.without, cond_true, cond_false])
  exact Touches.refl _

theorem State.entryPut_touches {a0 : _} {a1 : _} : Touches { regs := true } a0 (@State.entryPut a0 a1) := by
  unfold State.entryPut
  refine Touches.foldl ?_ (fun v0 v1 => ?_)
  · exact Touches.refl _
  · refine Touches.ite ?_ ?_
    · refine Touches.trans ?_ Touches.put rfl
      exact Touches.refl _
    · exact Touches.refl _

theorem State.scratch_touches {a0 : _} {a1 : _} : Touches { regs := true } a0 (@State.scratch a0 a1) := by
  unfold State.scratch
  dsimp only
  refine Touches.foldl ?_ (fun v0 v1 => ?_)
  · refine Touches.foldl ?_ (fun v2 v3 => ?_)
    · refine Touches.trans ?_ State.settled_touches rfl
      exact Touches.refl _
    · refine Touches.trans ?_ State.entryPut_touches rfl
      exact Touches.refl _
  · refine Touches.trans ?_ Touches.put rfl
    exact Touches.refl _

theorem State.writeField_touches {a0 : _} {a1 : _} {a2 : _} {a3 : _} : Touches { regs := true, beat := true, can := true } a0 (@State.writeField a0 a1 a2 a3) := by
  unfold State.writeField
  dsimp only
  refine Touches.ite ?_ ?_
  · refine Touches.trans ?_ State.atEdge_touches rfl
    exact Touches.refl _
  · refine Touches.ite ?_ ?_
    · refine Touches.mkUpd ?_ (by simp only [State.without, cond_true, cond_false])
      exact Touches.refl _
    · refine Touches.trans ?_ Touches.put rfl
      exact Touches.refl _

theorem State.clearField_touches {a0 : _} {a1 : _} {a2 : _} : Touches { regs := true, pwr := true, can := true } a0 (@State.clearField a0 a1 a2) := by
  unfold State.clearField
  refine Touches.ite ?_ ?_
  · refine Touches.trans ?_ State.dioClear_touches rfl
    exact Touches.refl _
  · refine Touches.ite ?_ ?_
    · refine Touches.trans ?_ State.canResume_touches rfl
      exact Touches.refl _
    · refine Touches.ite ?_ ?_
      · refine Touches.trans ?_ State.latch_touches rfl
        refine Touches.trans ?_ Touches.put rfl
        exact Touches.refl _
      · refine Touches.trans ?_ Touches.put rfl
        exact Touches.refl _

theorem State.triggerField_touches {a0 : _} {a1 : _} {a2 : _} {a3 : _} : Touches { regs := true, free := true, ev := true, rt := true, sec := true, field := true, can := true } a0 (@State.triggerField a0 a1 a2 a3) := by
  unfold State.triggerField
  refine Touches.ite ?_ ?_
  · refine Touches.trans ?_ State.encPreset_touches rfl
    exact Touches.refl _
  · refine Touches.ite ?_ ?_
    · refine Touches.ite ?_ ?_
      · refine Touches.trans ?_ State.canRecover_touches rfl
        exact Touches.refl _
      · exact Touches.refl _
    · refine Touches.ite ?_ ?_
      · refine Touches.ite ?_ ?_
        · refine Touches.mkUpd ?_ (by simp only [State.without, cond_true, cond_false])
          exact Touches.refl _
        · refine Touches.ite ?_ ?_
          · refine Touches.trans ?_ State.dbgResume_touches rfl
            exact Touches.refl _
          · refine Touches.ite ?_ ?_
            · refine Touches.trans ?_ State.dbgStep_touches rfl
              exact Touches.refl _
            · refine Touches.trans ?_ State.endDebug_touches rfl
              exact Touches.refl _
      · exact Touches.refl _

theorem State.journalWrite_touches {s t : State} {e : WEntry} : Touches { regs := true, ev := true, jr := true } s (s.journalWrite t e) := by
  unfold State.journalWrite
  dsimp only
  exact Touches.ite (Touches.refl s) (Touches.ite (Touches.trans (Touches.refl _) State.journal_touches rfl) (Touches.trans (Touches.refl _) State.journal_touches rfl))

theorem State.laneModeWritten_touches {a0 : _} {a1 : _} : Touches { regs := true, lanes := true } a0 (@State.laneModeWritten a0 a1) := by
  unfold State.laneModeWritten
  dsimp only
  refine Touches.ite ?_ ?_
  · exact Touches.refl _
  · refine Touches.mkUpd ?_ (by simp only [State.without, cond_true, cond_false])
    refine Touches.trans ?_ State.putLane_touches rfl
    iterate 4 refine Touches.trans ?_ Touches.put rfl
    exact Touches.refl _

theorem State.written_touches {a0 : _} {a1 : _} {a2 : _} : Touches { regs := true, mem := true, ev := true, jr := true, units := true, rt := true, sec := true, triad := true, lanes := true, field := true, time := true } a0 (@State.written a0 a1 a2) := by
  unfold State.written
  dsimp only
  refine Touches.ite ?_ ?_
  · refine Touches.trans ?_ State.laneModeWritten_touches rfl
    exact Touches.refl _
  · refine Touches.ite ?_ ?_
    · refine Touches.trans ?_ State.typeWritten_touches rfl
      exact Touches.refl _
    · refine Touches.ite ?_ ?_
      · refine Touches.ite ?_ ?_
        · refine Touches.trans ?_ Touches.put rfl
          exact Touches.refl _
        · exact Touches.refl _
      · refine Touches.ite ?_ ?_
        · refine Touches.trans ?_ State.dioWritten_touches rfl
          exact Touches.refl _
        · refine Touches.ite ?_ ?_
          · refine Touches.trans ?_ State.faWritten_touches rfl
            exact Touches.refl _
          · refine Touches.ite ?_ ?_
            · refine Touches.trans ?_ State.faWritten_touches rfl
              exact Touches.refl _
            · refine Touches.ite ?_ ?_
              · refine Touches.trans ?_ State.showPorts_touches rfl
                exact Touches.refl _
              · refine Touches.ite ?_ ?_
                · refine Touches.trans ?_ State.pinWritten_touches rfl
                  exact Touches.refl _
                · refine Touches.ite ?_ ?_
                  · refine Touches.trans ?_ State.dbgWindowWrite_touches rfl
                    exact Touches.refl _
                  · refine Touches.ite ?_ ?_
                    · refine Touches.trans ?_ Touches.put rfl
                      exact Touches.refl _
                    · exact Touches.refl _

theorem State.applyEntry_touches {s t : State} {e : WEntry} : Touches { regs := true, mem := true, free := true, beat := true, ev := true, jr := true, units := true, rt := true, sec := true, triad := true, pwr := true, lanes := true, field := true, time := true, can := true } s (s.applyEntry t e) := by
  unfold State.applyEntry
  dsimp only
  refine Touches.trans ?_ State.written_touches rfl
  refine Touches.trans ?_ State.journalWrite_touches rfl
  refine Touches.foldl (Touches.refl s) (fun u f => ?_)
  refine Touches.ite (Touches.refl u) ?_
  split
  · exact Touches.ite (Touches.refl u) (Touches.trans (Touches.refl _) State.writeField_touches rfl)
  · exact Touches.ite (Touches.trans (Touches.refl _) State.clearField_touches rfl) (Touches.refl u)
  · exact Touches.trans (Touches.refl _) State.triggerField_touches rfl
  · exact Touches.refl u

theorem State.applyWrites_touches {a0 : _} {a1 : _} : Touches { regs := true, mem := true, free := true, beat := true, ev := true, lcp := true, jr := true, units := true, rt := true, sec := true, triad := true, pwr := true, lanes := true, field := true, time := true, can := true } a0 (@State.applyWrites a0 a1) := by
  unfold State.applyWrites
  dsimp only
  refine Touches.trans ?_ State.judgeReady_touches rfl
  refine Touches.trans ?_ State.showApplicable_touches rfl
  refine Touches.foldl ?_ (fun v0 v1 => ?_)
  · refine Touches.foldl ?_ (fun v2 v3 => ?_)
    · exact Touches.refl _
    · refine Touches.trans ?_ State.journal_touches rfl
      refine Touches.trans ?_ Touches.put rfl
      exact Touches.refl _
  · refine Touches.trans ?_ State.applyEntry_touches rfl
    exact Touches.refl _

theorem objWriteApply_touches {a0 : _} {a1 : _} {a2 : _} : Touches { regs := true, mem := true, free := true, beat := true, ev := true, lcp := true, jr := true, units := true, rt := true, sec := true, triad := true, pwr := true, lanes := true, field := true, time := true, can := true } a2 (@objWriteApply a0 a1 a2).st := by
  unfold objWriteApply
  split
  · rename_i v0 v1 v2 v3
    dsimp only
    exact Touches.refl _
  · rename_i v4 v5
    dsimp only
    refine Touches.trans ?_ State.applyWrites_touches rfl
    exact Touches.refl _

theorem objMailed_touches {a0 : _} {a1 : _} {a2 : _} : Touches { lcp := true, lanes := true } a2 (@objMailed a0 a1 a2) := by
  unfold objMailed
  dsimp only
  split
  · rename_i v0 v1 v2 v3
    refine Touches.ite ?_ ?_
    · refine Touches.trans ?_ State.answer_touches rfl
      exact Touches.refl _
    · refine Touches.trans ?_ State.mailSend_touches rfl
      exact Touches.refl _
  · rename_i v4 v5
    exact Touches.refl _

theorem execObjWrite_touches {a0 : _} {a1 : _} {t : State} (h : (@execObjWrite a0 a1) = .next t) : Touches { regs := true, beat := true, lcp := true, lanes := true } a1 t := by
  unfold execObjWrite at h
  injection h with h
  subst h
  refine Touches.ite ?_ ?_
  · refine Touches.comp ?_ (deferred_touches ?_ rfl)
    · exact Touches.refl _
    · intro v0 v1
      refine Touches.trans ?_ objMailed_touches rfl
      exact Touches.refl _
  · refine Touches.trans ?_ queued_touches rfl
    exact Touches.refl _

theorem ioConfigApply_touches {a0 : _} {a1 : _} {a2 : _} : Touches { regs := true, mem := true, free := true, beat := true, ev := true, lcp := true, jr := true, units := true, rt := true, sec := true, triad := true, pwr := true, lanes := true, field := true, time := true, can := true } a2 (@ioConfigApply a0 a1 a2).st := by
  unfold ioConfigApply
  split
  · rename_i v0 v1 v2 v3
    dsimp only
    exact Touches.refl _
  · rename_i v4 v5
    dsimp only
    refine Touches.trans ?_ State.applyWrites_touches rfl
    exact Touches.refl _

theorem execIoConfigSet_touches {a0 : _} {a1 : _} {t : State} (h : (@execIoConfigSet a0 a1) = .next t) : Touches { regs := true, beat := true, lcp := true } a1 t := by
  unfold execIoConfigSet at h
  injection h with h
  subst h
  refine Touches.trans ?_ queued_touches rfl
  exact Touches.refl _

theorem objReadBody_touches {a0 : _} {a1 : _} {a2 : _} : Touches {} a2 (@objReadBody a0 a1 a2).st := by
  unfold objReadBody
  dsimp only
  exact Touches.refl _

theorem execObjRead_touches {a0 : _} {a1 : _} {t : State} (h : (@execObjRead a0 a1) = .next t) : Touches { regs := true, beat := true, lcp := true, lanes := true } a1 t := by
  unfold execObjRead at h
  injection h with h
  subst h
  refine Touches.comp ?_ (mailed_touches ?_ rfl)
  · exact Touches.refl _
  · intro v0 v1
    refine Touches.trans ?_ objReadBody_touches rfl
    exact Touches.refl _

theorem ioDiagBody_touches {a0 : _} {a1 : _} {a2 : _} : Touches {} a2 (@ioDiagBody a0 a1 a2).st := by
  unfold ioDiagBody
  split
  · rename_i v0 v1
    dsimp only
    exact Touches.refl _
  · rename_i v2 v3 v4
    dsimp only
    exact Touches.refl _

theorem execIoDiagRead_touches {a0 : _} {a1 : _} {t : State} (h : (@execIoDiagRead a0 a1) = .next t) : Touches { regs := true, beat := true, lcp := true } a1 t := by
  unfold execIoDiagRead at h
  injection h with h
  subst h
  refine Touches.comp ?_ (served_touches ?_ rfl)
  · exact Touches.refl _
  · intro v0 v1
    refine Touches.trans ?_ ioDiagBody_touches rfl
    exact Touches.refl _

theorem laneStatusBody_touches {a0 : _} {a1 : _} {a2 : _} : Touches {} a2 (@laneStatusBody a0 a1 a2).st := by
  unfold laneStatusBody
  dsimp only
  exact Touches.refl _

theorem execLaneStatus_touches {a0 : _} {a1 : _} {t : State} (h : (@execLaneStatus a0 a1) = .next t) : Touches { regs := true, beat := true, lcp := true } a1 t := by
  unfold execLaneStatus at h
  injection h with h
  subst h
  refine Touches.comp ?_ (served_touches ?_ rfl)
  · exact Touches.refl _
  · intro v0 v1
    refine Touches.trans ?_ laneStatusBody_touches rfl
    exact Touches.refl _

/-! Start. -/

theorem State.startReset_touches {a0 : _} : Touches { regs := true, beat := true, ev := true, lcp := true, wd := true, pair := true, sec := true, panel := true, lanes := true, field := true, time := true, can := true } a0 (@State.startReset a0) := by
  unfold State.startReset
  dsimp only
  refine Touches.foldl ?_ (fun v0 v1 => ?_)
  · refine Touches.mkUpd ?_ (by simp only [State.without, cond_true, cond_false])
    exact Touches.refl _
  · refine Touches.trans ?_ Touches.put rfl
    exact Touches.refl _

theorem State.startFails_touches {a0 : _} {a1 : _} : Touches { regs := true, beat := true, ev := true, lcp := true, jr := true, units := true, wd := true, rt := true, pair := true, sec := true, triad := true, pwr := true, field := true, can := true } a0 (@State.startFails a0 a1) := by
  unfold State.startFails
  dsimp only
  refine Touches.trans ?_ State.showLeds_touches rfl
  refine Touches.mkUpd ?_ (by simp only [State.without, cond_true, cond_false])
  refine Touches.trans ?_ State.enterSafe_touches rfl
  exact Touches.refl _

theorem State.startS1_touches {a0 : _} {a1 : _} : Touches { regs := true, free := true, beat := true, ev := true, lcp := true, wd := true, pair := true, sec := true, pwr := true, panel := true, lanes := true, field := true, time := true, can := true } a0 (@State.startS1 a0 a1) := by
  unfold State.startS1
  dsimp only
  refine Touches.ite ?_ ?_
  · refine Touches.trans ?_ State.stuckReset_touches rfl
    refine Touches.trans ?_ Touches.putFlag rfl
    refine Touches.mkUpd ?_ (by simp only [State.without, cond_true, cond_false])
    refine Touches.trans ?_ State.raise_touches rfl
    refine Touches.trans ?_ Touches.put rfl
    refine Touches.trans ?_ State.latch_touches rfl
    refine Touches.ite ?_ ?_
    · refine Touches.trans ?_ State.raise_touches rfl
      refine Touches.trans ?_ Touches.put rfl
      refine Touches.trans ?_ Touches.put rfl
      refine Touches.trans ?_ Touches.putFlag rfl
      refine Touches.trans ?_ State.onPwr_touches rfl
      refine Touches.ite ?_ ?_
      · refine Touches.trans ?_ State.keyFaults_touches rfl
        refine Touches.ite ?_ ?_
        · refine Touches.trans ?_ Touches.put rfl
          refine Touches.trans ?_ Touches.put rfl
          refine Touches.trans ?_ Touches.put rfl
          refine Touches.mkUpd ?_ (by simp only [State.without, cond_true, cond_false])
          iterate 5 refine Touches.trans ?_ Touches.put rfl
          refine Touches.trans ?_ State.startReset_touches rfl
          exact Touches.refl _
        · refine Touches.mkUpd ?_ (by simp only [State.without, cond_true, cond_false])
          iterate 5 refine Touches.trans ?_ Touches.put rfl
          refine Touches.trans ?_ State.startReset_touches rfl
          exact Touches.refl _
      · refine Touches.ite ?_ ?_
        · refine Touches.trans ?_ Touches.put rfl
          refine Touches.trans ?_ Touches.put rfl
          refine Touches.trans ?_ Touches.put rfl
          refine Touches.mkUpd ?_ (by simp only [State.without, cond_true, cond_false])
          iterate 5 refine Touches.trans ?_ Touches.put rfl
          refine Touches.trans ?_ State.startReset_touches rfl
          exact Touches.refl _
        · refine Touches.mkUpd ?_ (by simp only [State.without, cond_true, cond_false])
          iterate 5 refine Touches.trans ?_ Touches.put rfl
          refine Touches.trans ?_ State.startReset_touches rfl
          exact Touches.refl _
    · refine Touches.trans ?_ Touches.put rfl
      refine Touches.trans ?_ Touches.putFlag rfl
      refine Touches.trans ?_ State.onPwr_touches rfl
      refine Touches.ite ?_ ?_
      · refine Touches.trans ?_ State.keyFaults_touches rfl
        refine Touches.ite ?_ ?_
        · refine Touches.trans ?_ Touches.put rfl
          refine Touches.trans ?_ Touches.put rfl
          refine Touches.trans ?_ Touches.put rfl
          refine Touches.mkUpd ?_ (by simp only [State.without, cond_true, cond_false])
          iterate 5 refine Touches.trans ?_ Touches.put rfl
          refine Touches.trans ?_ State.startReset_touches rfl
          exact Touches.refl _
        · refine Touches.mkUpd ?_ (by simp only [State.without, cond_true, cond_false])
          iterate 5 refine Touches.trans ?_ Touches.put rfl
          refine Touches.trans ?_ State.startReset_touches rfl
          exact Touches.refl _
      · refine Touches.ite ?_ ?_
        · refine Touches.trans ?_ Touches.put rfl
          refine Touches.trans ?_ Touches.put rfl
          refine Touches.trans ?_ Touches.put rfl
          refine Touches.mkUpd ?_ (by simp only [State.without, cond_true, cond_false])
          iterate 5 refine Touches.trans ?_ Touches.put rfl
          refine Touches.trans ?_ State.startReset_touches rfl
          exact Touches.refl _
        · refine Touches.mkUpd ?_ (by simp only [State.without, cond_true, cond_false])
          iterate 5 refine Touches.trans ?_ Touches.put rfl
          refine Touches.trans ?_ State.startReset_touches rfl
          exact Touches.refl _
  · refine Touches.trans ?_ Touches.putFlag rfl
    refine Touches.mkUpd ?_ (by simp only [State.without, cond_true, cond_false])
    refine Touches.trans ?_ State.raise_touches rfl
    refine Touches.trans ?_ Touches.put rfl
    refine Touches.trans ?_ State.latch_touches rfl
    refine Touches.ite ?_ ?_
    · refine Touches.trans ?_ State.raise_touches rfl
      refine Touches.trans ?_ Touches.put rfl
      refine Touches.trans ?_ Touches.put rfl
      refine Touches.trans ?_ Touches.putFlag rfl
      refine Touches.trans ?_ State.onPwr_touches rfl
      refine Touches.ite ?_ ?_
      · refine Touches.trans ?_ State.keyFaults_touches rfl
        refine Touches.ite ?_ ?_
        · refine Touches.trans ?_ Touches.put rfl
          refine Touches.trans ?_ Touches.put rfl
          refine Touches.trans ?_ Touches.put rfl
          refine Touches.mkUpd ?_ (by simp only [State.without, cond_true, cond_false])
          iterate 5 refine Touches.trans ?_ Touches.put rfl
          refine Touches.trans ?_ State.startReset_touches rfl
          exact Touches.refl _
        · refine Touches.mkUpd ?_ (by simp only [State.without, cond_true, cond_false])
          iterate 5 refine Touches.trans ?_ Touches.put rfl
          refine Touches.trans ?_ State.startReset_touches rfl
          exact Touches.refl _
      · refine Touches.ite ?_ ?_
        · refine Touches.trans ?_ Touches.put rfl
          refine Touches.trans ?_ Touches.put rfl
          refine Touches.trans ?_ Touches.put rfl
          refine Touches.mkUpd ?_ (by simp only [State.without, cond_true, cond_false])
          iterate 5 refine Touches.trans ?_ Touches.put rfl
          refine Touches.trans ?_ State.startReset_touches rfl
          exact Touches.refl _
        · refine Touches.mkUpd ?_ (by simp only [State.without, cond_true, cond_false])
          iterate 5 refine Touches.trans ?_ Touches.put rfl
          refine Touches.trans ?_ State.startReset_touches rfl
          exact Touches.refl _
    · refine Touches.trans ?_ Touches.put rfl
      refine Touches.trans ?_ Touches.putFlag rfl
      refine Touches.trans ?_ State.onPwr_touches rfl
      refine Touches.ite ?_ ?_
      · refine Touches.trans ?_ State.keyFaults_touches rfl
        refine Touches.ite ?_ ?_
        · refine Touches.trans ?_ Touches.put rfl
          refine Touches.trans ?_ Touches.put rfl
          refine Touches.trans ?_ Touches.put rfl
          refine Touches.mkUpd ?_ (by simp only [State.without, cond_true, cond_false])
          iterate 5 refine Touches.trans ?_ Touches.put rfl
          refine Touches.trans ?_ State.startReset_touches rfl
          exact Touches.refl _
        · refine Touches.mkUpd ?_ (by simp only [State.without, cond_true, cond_false])
          iterate 5 refine Touches.trans ?_ Touches.put rfl
          refine Touches.trans ?_ State.startReset_touches rfl
          exact Touches.refl _
      · refine Touches.ite ?_ ?_
        · refine Touches.trans ?_ Touches.put rfl
          refine Touches.trans ?_ Touches.put rfl
          refine Touches.trans ?_ Touches.put rfl
          refine Touches.mkUpd ?_ (by simp only [State.without, cond_true, cond_false])
          iterate 5 refine Touches.trans ?_ Touches.put rfl
          refine Touches.trans ?_ State.startReset_touches rfl
          exact Touches.refl _
        · refine Touches.mkUpd ?_ (by simp only [State.without, cond_true, cond_false])
          iterate 5 refine Touches.trans ?_ Touches.put rfl
          refine Touches.trans ?_ State.startReset_touches rfl
          exact Touches.refl _

theorem State.restoreSub_touches {a0 : _} {a1 : _} {a2 : _} {a3 : _} : Touches { regs := true } a0 (@State.restoreSub a0 a1 a2 a3) := by
  unfold State.restoreSub
  refine Touches.foldl ?_ (fun v0 v1 => ?_)
  · exact Touches.refl _
  · refine Touches.ite ?_ ?_
    · refine Touches.trans ?_ Touches.put rfl
      exact Touches.refl _
    · exact Touches.refl _

theorem State.restoreCan_touches {a0 : _} {a1 : _} {a2 : _} : Touches { regs := true } a0 (@State.restoreCan a0 a1 a2) := by
  unfold State.restoreCan
  dsimp only
  refine Touches.ite ?_ ?_
  · refine Touches.trans ?_ State.restoreSub_touches rfl
    iterate 3 refine Touches.trans ?_ State.restoreSub_touches rfl
    exact Touches.refl _
  · refine Touches.trans ?_ State.restoreSub_touches rfl
    refine Touches.trans ?_ State.restoreSub_touches rfl
    refine Touches.trans ?_ State.restoreSub_touches rfl
    exact Touches.refl _

theorem State.forgetRec_touches {a0 : _} {a1 : _} {a2 : _} : Touches { regs := true, rt := true, loops := true } a0 (@State.forgetRec a0 a1 a2) := by
  unfold State.forgetRec
  dsimp only
  refine Touches.ite ?_ ?_
  · refine Touches.trans ?_ State.restoreSub_touches rfl
    exact Touches.refl _
  · refine Touches.ite ?_ ?_
    · refine Touches.trans ?_ State.restoreCan_touches rfl
      exact Touches.refl _
    · refine Touches.ite ?_ ?_
      · refine Touches.mkUpd ?_ (by simp only [State.without, cond_true, cond_false])
        exact Touches.refl _
      · refine Touches.ite ?_ ?_
        · refine Touches.mkUpd ?_ (by simp only [State.without, cond_true, cond_false])
          exact Touches.refl _
        · refine Touches.ite ?_ ?_
          · refine Touches.mkUpd ?_ (by simp only [State.without, cond_true, cond_false])
            exact Touches.refl _
          · exact Touches.refl _

theorem State.journalIs_touches {a0 : _} {a1 : _} : Touches { regs := true, jr := true } a0 (@State.journalIs a0 a1) := by
  unfold State.journalIs
  dsimp only
  iterate 3 refine Touches.trans ?_ Touches.put rfl
  refine Touches.mkUpd ?_ (by simp only [State.without, cond_true, cond_false])
  exact Touches.refl _

theorem State.journalCut_touches {a0 : _} {a1 : _} : Touches { regs := true, ev := true, rt := true, loops := true } a0 (@State.journalCut a0 a1) := by
  unfold State.journalCut
  dsimp only
  refine Touches.trans ?_ State.raise_touches rfl
  refine Touches.foldl ?_ (fun v0 v1 => ?_)
  · exact Touches.refl _
  · refine Touches.trans ?_ State.forgetRec_touches rfl
    exact Touches.refl _

theorem State.resumeOpTime_touches {a0 : _} : Touches { beat := true } a0 (@State.resumeOpTime a0) := by
  unfold State.resumeOpTime
  split
  · rename_i v0 v1 v2
    refine Touches.mkUpd ?_ (by simp only [State.without, cond_true, cond_false])
    exact Touches.refl _
  · rename_i v3 v4
    refine Touches.mkUpd ?_ (by simp only [State.without, cond_true, cond_false])
    exact Touches.refl _

theorem State.chooseHalf_touches {a0 : _} {a1 : _} : Touches { regs := true, jr := true } a0 (@State.chooseHalf a0 a1) := by
  unfold State.chooseHalf
  dsimp only
  split
  · rename_i v0 v1
    refine Touches.ite ?_ ?_
    · refine Touches.ite ?_ ?_
      · refine Touches.trans ?_ State.rollSwitch_touches rfl
        exact Touches.refl _
      · exact Touches.refl _
    · refine Touches.trans ?_ Touches.put rfl
      refine Touches.mkUpd ?_ (by simp only [State.without, cond_true, cond_false])
      refine Touches.ite ?_ ?_
      · refine Touches.trans ?_ State.rollSwitch_touches rfl
        exact Touches.refl _
      · exact Touches.refl _
  · rename_i v2 v3 v4
    refine Touches.trans ?_ Touches.put rfl
    refine Touches.ite ?_ ?_
    · refine Touches.ite ?_ ?_
      · refine Touches.ite ?_ ?_
        · refine Touches.trans ?_ State.rollSwitch_touches rfl
          exact Touches.refl _
        · exact Touches.refl _
      · refine Touches.trans ?_ Touches.put rfl
        refine Touches.mkUpd ?_ (by simp only [State.without, cond_true, cond_false])
        refine Touches.ite ?_ ?_
        · refine Touches.trans ?_ State.rollSwitch_touches rfl
          exact Touches.refl _
        · exact Touches.refl _
    · refine Touches.trans ?_ State.swapHalves_touches rfl
      refine Touches.ite ?_ ?_
      · refine Touches.ite ?_ ?_
        · refine Touches.trans ?_ State.rollSwitch_touches rfl
          exact Touches.refl _
        · exact Touches.refl _
      · refine Touches.trans ?_ Touches.put rfl
        refine Touches.mkUpd ?_ (by simp only [State.without, cond_true, cond_false])
        refine Touches.ite ?_ ?_
        · refine Touches.trans ?_ State.rollSwitch_touches rfl
          exact Touches.refl _
        · exact Touches.refl _

theorem State.recoverJournal_touches {a0 : _} {a1 : _} : Touches { regs := true, beat := true, ev := true, jr := true, rt := true, loops := true } a0 (@State.recoverJournal a0 a1) := by
  unfold State.recoverJournal
  dsimp only
  refine Touches.ite ?_ ?_
  · refine Touches.trans ?_ State.resumeOpTime_touches rfl
    refine Touches.mkUpd ?_ (by simp only [State.without, cond_true, cond_false])
    refine Touches.trans ?_ State.journalIs_touches rfl
    refine Touches.ite ?_ ?_
    · refine Touches.trans ?_ State.journalCut_touches rfl
      refine Touches.ite ?_ ?_
      · refine Touches.trans ?_ State.raise_touches rfl
        refine Touches.trans ?_ Touches.inc rfl
        refine Touches.ite ?_ ?_
        · refine Touches.trans ?_ State.raise_touches rfl
          refine Touches.trans ?_ Touches.put rfl
          refine Touches.mkUpd ?_ (by simp only [State.without, cond_true, cond_false])
          refine Touches.foldl ?_ (fun v0 v1 => ?_)
          · refine Touches.trans ?_ State.chooseHalf_touches rfl
            exact Touches.refl _
          · refine Touches.trans ?_ State.forgetRec_touches rfl
            exact Touches.refl _
        · refine Touches.trans ?_ Touches.put rfl
          refine Touches.mkUpd ?_ (by simp only [State.without, cond_true, cond_false])
          refine Touches.foldl ?_ (fun v2 v3 => ?_)
          · refine Touches.trans ?_ State.chooseHalf_touches rfl
            exact Touches.refl _
          · refine Touches.trans ?_ State.forgetRec_touches rfl
            exact Touches.refl _
      · refine Touches.ite ?_ ?_
        · refine Touches.trans ?_ State.raise_touches rfl
          refine Touches.trans ?_ Touches.put rfl
          refine Touches.mkUpd ?_ (by simp only [State.without, cond_true, cond_false])
          refine Touches.foldl ?_ (fun v4 v5 => ?_)
          · refine Touches.trans ?_ State.chooseHalf_touches rfl
            exact Touches.refl _
          · refine Touches.trans ?_ State.forgetRec_touches rfl
            exact Touches.refl _
        · refine Touches.trans ?_ Touches.put rfl
          refine Touches.mkUpd ?_ (by simp only [State.without, cond_true, cond_false])
          refine Touches.foldl ?_ (fun v6 v7 => ?_)
          · refine Touches.trans ?_ State.chooseHalf_touches rfl
            exact Touches.refl _
          · refine Touches.trans ?_ State.forgetRec_touches rfl
            exact Touches.refl _
    · refine Touches.ite ?_ ?_
      · refine Touches.trans ?_ State.raise_touches rfl
        refine Touches.trans ?_ Touches.inc rfl
        refine Touches.ite ?_ ?_
        · refine Touches.trans ?_ State.raise_touches rfl
          refine Touches.trans ?_ Touches.put rfl
          refine Touches.mkUpd ?_ (by simp only [State.without, cond_true, cond_false])
          refine Touches.foldl ?_ (fun v8 v9 => ?_)
          · refine Touches.trans ?_ State.chooseHalf_touches rfl
            exact Touches.refl _
          · refine Touches.trans ?_ State.forgetRec_touches rfl
            exact Touches.refl _
        · refine Touches.trans ?_ Touches.put rfl
          refine Touches.mkUpd ?_ (by simp only [State.without, cond_true, cond_false])
          refine Touches.foldl ?_ (fun v10 v11 => ?_)
          · refine Touches.trans ?_ State.chooseHalf_touches rfl
            exact Touches.refl _
          · refine Touches.trans ?_ State.forgetRec_touches rfl
            exact Touches.refl _
      · refine Touches.ite ?_ ?_
        · refine Touches.trans ?_ State.raise_touches rfl
          refine Touches.trans ?_ Touches.put rfl
          refine Touches.mkUpd ?_ (by simp only [State.without, cond_true, cond_false])
          refine Touches.foldl ?_ (fun v12 v13 => ?_)
          · refine Touches.trans ?_ State.chooseHalf_touches rfl
            exact Touches.refl _
          · refine Touches.trans ?_ State.forgetRec_touches rfl
            exact Touches.refl _
        · refine Touches.trans ?_ Touches.put rfl
          refine Touches.mkUpd ?_ (by simp only [State.without, cond_true, cond_false])
          refine Touches.foldl ?_ (fun v14 v15 => ?_)
          · refine Touches.trans ?_ State.chooseHalf_touches rfl
            exact Touches.refl _
          · refine Touches.trans ?_ State.forgetRec_touches rfl
            exact Touches.refl _
  · refine Touches.mkUpd ?_ (by simp only [State.without, cond_true, cond_false])
    refine Touches.trans ?_ State.journalIs_touches rfl
    refine Touches.ite ?_ ?_
    · refine Touches.trans ?_ State.journalCut_touches rfl
      refine Touches.ite ?_ ?_
      · refine Touches.trans ?_ State.raise_touches rfl
        refine Touches.trans ?_ Touches.inc rfl
        refine Touches.ite ?_ ?_
        · refine Touches.trans ?_ State.raise_touches rfl
          refine Touches.trans ?_ Touches.put rfl
          refine Touches.mkUpd ?_ (by simp only [State.without, cond_true, cond_false])
          refine Touches.foldl ?_ (fun v16 v17 => ?_)
          · refine Touches.trans ?_ State.chooseHalf_touches rfl
            exact Touches.refl _
          · refine Touches.trans ?_ State.forgetRec_touches rfl
            exact Touches.refl _
        · refine Touches.trans ?_ Touches.put rfl
          refine Touches.mkUpd ?_ (by simp only [State.without, cond_true, cond_false])
          refine Touches.foldl ?_ (fun v18 v19 => ?_)
          · refine Touches.trans ?_ State.chooseHalf_touches rfl
            exact Touches.refl _
          · refine Touches.trans ?_ State.forgetRec_touches rfl
            exact Touches.refl _
      · refine Touches.ite ?_ ?_
        · refine Touches.trans ?_ State.raise_touches rfl
          refine Touches.trans ?_ Touches.put rfl
          refine Touches.mkUpd ?_ (by simp only [State.without, cond_true, cond_false])
          refine Touches.foldl ?_ (fun v20 v21 => ?_)
          · refine Touches.trans ?_ State.chooseHalf_touches rfl
            exact Touches.refl _
          · refine Touches.trans ?_ State.forgetRec_touches rfl
            exact Touches.refl _
        · refine Touches.trans ?_ Touches.put rfl
          refine Touches.mkUpd ?_ (by simp only [State.without, cond_true, cond_false])
          refine Touches.foldl ?_ (fun v22 v23 => ?_)
          · refine Touches.trans ?_ State.chooseHalf_touches rfl
            exact Touches.refl _
          · refine Touches.trans ?_ State.forgetRec_touches rfl
            exact Touches.refl _
    · refine Touches.ite ?_ ?_
      · refine Touches.trans ?_ State.raise_touches rfl
        refine Touches.trans ?_ Touches.inc rfl
        refine Touches.ite ?_ ?_
        · refine Touches.trans ?_ State.raise_touches rfl
          refine Touches.trans ?_ Touches.put rfl
          refine Touches.mkUpd ?_ (by simp only [State.without, cond_true, cond_false])
          refine Touches.foldl ?_ (fun v24 v25 => ?_)
          · refine Touches.trans ?_ State.chooseHalf_touches rfl
            exact Touches.refl _
          · refine Touches.trans ?_ State.forgetRec_touches rfl
            exact Touches.refl _
        · refine Touches.trans ?_ Touches.put rfl
          refine Touches.mkUpd ?_ (by simp only [State.without, cond_true, cond_false])
          refine Touches.foldl ?_ (fun v26 v27 => ?_)
          · refine Touches.trans ?_ State.chooseHalf_touches rfl
            exact Touches.refl _
          · refine Touches.trans ?_ State.forgetRec_touches rfl
            exact Touches.refl _
      · refine Touches.ite ?_ ?_
        · refine Touches.trans ?_ State.raise_touches rfl
          refine Touches.trans ?_ Touches.put rfl
          refine Touches.mkUpd ?_ (by simp only [State.without, cond_true, cond_false])
          refine Touches.foldl ?_ (fun v28 v29 => ?_)
          · refine Touches.trans ?_ State.chooseHalf_touches rfl
            exact Touches.refl _
          · refine Touches.trans ?_ State.forgetRec_touches rfl
            exact Touches.refl _
        · refine Touches.trans ?_ Touches.put rfl
          refine Touches.mkUpd ?_ (by simp only [State.without, cond_true, cond_false])
          refine Touches.foldl ?_ (fun v30 v31 => ?_)
          · refine Touches.trans ?_ State.chooseHalf_touches rfl
            exact Touches.refl _
          · refine Touches.trans ?_ State.forgetRec_touches rfl
            exact Touches.refl _

theorem State.mergeToll_touches {a0 : _} : Touches { regs := true, ev := true, jr := true, wd := true, pwr := true } a0 (@State.mergeToll a0) := by
  unfold State.mergeToll
  dsimp only
  refine Touches.trans ?_ State.journal_touches rfl
  refine Touches.trans ?_ State.journalToll_touches rfl
  refine Touches.trans ?_ State.latch_touches rfl
  refine Touches.trans ?_ Touches.put rfl
  refine Touches.trans ?_ Touches.put rfl
  refine Touches.mkUpd ?_ (by simp only [State.without, cond_true, cond_false])
  exact Touches.refl _

theorem State.raiseAgain_touches {a0 : _} {a1 : _} : Touches { regs := true, free := true, ev := true, pwr := true } a0 (@State.raiseAgain a0 a1) := by
  unfold State.raiseAgain
  dsimp only
  refine Touches.ite ?_ ?_
  · exact Touches.refl _
  · refine Touches.mkUpd ?_ (by simp only [State.without, cond_true, cond_false])
    refine Touches.ite ?_ ?_
    · refine Touches.trans ?_ State.raiseLatched_touches rfl
      refine Touches.trans ?_ State.fresh_touches rfl
      exact Touches.refl _
    · refine Touches.trans ?_ State.raiseLatched_touches rfl
      refine Touches.trans ?_ State.fresh_touches rfl
      exact Touches.refl _

theorem State.takeSafeRecord_touches {a0 : _} : Touches { regs := true, ev := true, lcp := true, jr := true, units := true, wd := true } a0 (@State.takeSafeRecord a0) := by
  unfold State.takeSafeRecord
  dsimp only
  refine Touches.trans ?_ State.showSafeCause_touches rfl
  refine Touches.ite ?_ ?_
  · refine Touches.mkUpd ?_ (by simp only [State.without, cond_true, cond_false])
    exact Touches.refl _
  · exact Touches.refl _

theorem State.startS3_touches {a0 : _} {a1 : _} : Touches { regs := true, free := true, beat := true, ev := true, lcp := true, jr := true, units := true, wd := true, rt := true, loops := true, pwr := true } a0 (@State.startS3 a0 a1) := by
  unfold State.startS3
  dsimp only
  refine Touches.ite ?_ ?_
  · refine Touches.trans ?_ State.clearSafe_touches rfl
    refine Touches.trans ?_ State.takeSafeRecord_touches rfl
    refine Touches.foldl ?_ (fun v0 v1 => ?_)
    · refine Touches.trans ?_ State.mergeToll_touches rfl
      refine Touches.ite ?_ ?_
      · refine Touches.trans ?_ State.journal_touches rfl
        refine Touches.trans ?_ Touches.put rfl
        refine Touches.ite ?_ ?_
        · refine Touches.trans ?_ Touches.put rfl
          refine Touches.trans ?_ Touches.put rfl
          refine Touches.trans ?_ Touches.put rfl
          refine Touches.trans ?_ State.raise_touches rfl
          refine Touches.trans ?_ State.recoverJournal_touches rfl
          exact Touches.refl _
        · refine Touches.trans ?_ State.recoverJournal_touches rfl
          exact Touches.refl _
      · refine Touches.ite ?_ ?_
        · refine Touches.trans ?_ Touches.put rfl
          refine Touches.trans ?_ Touches.put rfl
          refine Touches.trans ?_ Touches.put rfl
          refine Touches.trans ?_ State.raise_touches rfl
          refine Touches.trans ?_ State.recoverJournal_touches rfl
          exact Touches.refl _
        · refine Touches.trans ?_ State.recoverJournal_touches rfl
          exact Touches.refl _
    · refine Touches.trans ?_ State.raiseAgain_touches rfl
      exact Touches.refl _
  · refine Touches.trans ?_ State.takeSafeRecord_touches rfl
    refine Touches.foldl ?_ (fun v2 v3 => ?_)
    · refine Touches.trans ?_ State.mergeToll_touches rfl
      refine Touches.ite ?_ ?_
      · refine Touches.trans ?_ State.journal_touches rfl
        refine Touches.trans ?_ Touches.put rfl
        refine Touches.ite ?_ ?_
        · refine Touches.trans ?_ Touches.put rfl
          refine Touches.trans ?_ Touches.put rfl
          refine Touches.trans ?_ Touches.put rfl
          refine Touches.trans ?_ State.raise_touches rfl
          refine Touches.trans ?_ State.recoverJournal_touches rfl
          exact Touches.refl _
        · refine Touches.trans ?_ State.recoverJournal_touches rfl
          exact Touches.refl _
      · refine Touches.ite ?_ ?_
        · refine Touches.trans ?_ Touches.put rfl
          refine Touches.trans ?_ Touches.put rfl
          refine Touches.trans ?_ Touches.put rfl
          refine Touches.trans ?_ State.raise_touches rfl
          refine Touches.trans ?_ State.recoverJournal_touches rfl
          exact Touches.refl _
        · refine Touches.trans ?_ State.recoverJournal_touches rfl
          exact Touches.refl _
    · refine Touches.trans ?_ State.raiseAgain_touches rfl
      exact Touches.refl _

theorem State.bootFallback_touches {a0 : _} {a1 : _} : Touches { regs := true, img := true } a0 (@State.bootFallback a0 a1) := by
  unfold State.bootFallback
  refine Touches.trans ?_ Touches.inc rfl
  refine Touches.trans ?_ Touches.put rfl
  refine Touches.trans ?_ State.fallBack_touches rfl
  exact Touches.refl _

theorem State.startS5_touches {s t : State} {i : StartIn} (h : s.startS5 i = some t) : Touches { regs := true, img := true } s t := by
  have key : ∀ (l : List Nat) (o : Option State), (∀ x, o = some x → Touches { regs := true, img := true } s x) → ∀ y,
      l.foldl (fun (o : Option State) k => o.bind (fun (s : State) =>
        let t := k + 1
        if bitOf i.imagesOk t then some s
        else if bitOf i.fallbackOk t ∧ (s.slot t 2).state = 1 then some (s.bootFallback t)
        else none)) o = some y → Touches { regs := true, img := true } s y := by
    intro l
    induction l with
    | nil => intro o ho y hy; exact ho y hy
    | cons k l ih =>
      intro o ho y hy
      refine ih _ ?_ y hy
      intro x hx
      cases o with
      | none => cases hx
      | some u =>
        have hu := ho u rfl
        simp only [Option.bind_some] at hx
        split at hx
        · injection hx with hx; subst hx; exact hu
        · split at hx
          · injection hx with hx; subst hx; exact Touches.trans hu State.bootFallback_touches rfl
          · cases hx
  refine key (List.range 5) (some (s.imagesStart i.copyOk)) ?_ t h
  intro x hx
  injection hx with hx
  subst hx
  exact Touches.trans (Touches.refl _) State.imagesStart_touches rfl

theorem State.restoreClusters_touches {a0 : _} {a1 : _} : Touches { regs := true, ev := true, jr := true, triad := true } a0 (@State.restoreClusters a0 a1) := by
  unfold State.restoreClusters
  refine Touches.foldl ?_ (fun v0 v1 => ?_)
  · exact Touches.refl _
  · refine Touches.ite ?_ ?_
    · dsimp only
      refine Touches.trans ?_ State.raise_touches rfl
      refine Touches.trans ?_ State.journal_touches rfl
      refine Touches.trans ?_ State.showAttempts_touches rfl
      refine Touches.trans ?_ Touches.put rfl
      refine Touches.mkUpd ?_ (by simp only [State.without, cond_true, cond_false])
      exact Touches.refl _
    · exact Touches.refl _

theorem State.startS6_touches {s t : State} {i : StartIn} (h : s.startS6 i = some t) : Touches { regs := true, ev := true, jr := true, pair := true, triad := true } s t := by
  unfold State.startS6 at h
  dsimp only at h
  have h0 : Touches { regs := true, ev := true, jr := true, pair := true, triad := true } s (State.put (State.abandonResync { s with triad := { s.triad with
      startsNext := none, waiting := [], converged := false, passes := 0 } }) F.isolated 0) := by
    refine Touches.trans ?_ Touches.put rfl
    exact Touches.trans rfl State.abandonResync_touches rfl
  generalize State.put (State.abandonResync _) F.isolated 0 = u at h h0
  split at h
  · split at h
    · cases h
    · injection h with h; subst h
      exact Touches.trans h0 (n := { regs := true, triad := true }) rfl rfl
  · split at h
    · injection h with h; subst h
      exact Touches.trans (Touches.trans h0 State.restoreClusters_touches rfl) Touches.put rfl
    · injection h with h; subst h
      refine Touches.comp (Touches.trans h0 (State.restoreClusters_touches (a1 := i)) rfl) ?_
      refine Touches.ite ?_ (Touches.trans ?_ State.isolate_touches rfl)
      · refine Touches.trans ?_ Touches.put rfl
        refine Touches.trans ?_ Touches.put rfl
        exact Touches.ite (Touches.trans (Touches.refl _) State.raise_touches rfl) (Touches.refl _)
      · exact Touches.ite (Touches.trans (Touches.refl _) State.raise_touches rfl) (Touches.refl _)
    · cases h

theorem State.refusePartner_touches {a0 : _} {a1 : _} : Touches { regs := true, ev := true, pair := true } a0 (@State.refusePartner a0 a1) := by
  unfold State.refusePartner
  dsimp only
  refine Touches.ite ?_ ?_
  · refine Touches.trans ?_ State.raise_touches rfl
    refine Touches.trans ?_ Touches.put rfl
    refine Touches.mkUpd ?_ (by simp only [State.without, cond_true, cond_false])
    refine Touches.trans ?_ State.partnerGone_touches rfl
    exact Touches.refl _
  · refine Touches.trans ?_ Touches.put rfl
    refine Touches.mkUpd ?_ (by simp only [State.without, cond_true, cond_false])
    refine Touches.trans ?_ State.partnerGone_touches rfl
    exact Touches.refl _

theorem State.acceptPartner_touches {a0 : _} {a1 : _} : Touches { regs := true, ev := true, jr := true, units := true, pair := true, img := true } a0 (@State.acceptPartner a0 a1) := by
  unfold State.acceptPartner
  dsimp only
  refine Touches.trans ?_ State.clearPairUpdate_touches rfl
  refine Touches.trans ?_ State.putUnit_touches rfl
  refine Touches.trans ?_ State.onImg_touches rfl
  refine Touches.ite ?_ ?_
  · refine Touches.trans ?_ State.journalProgram_touches rfl
    refine Touches.trans ?_ Touches.put rfl
    refine Touches.ite ?_ ?_
    · refine Touches.mkUpd ?_ (by simp only [State.without, cond_true, cond_false])
      refine Touches.ite ?_ ?_
      · refine Touches.trans ?_ Touches.put rfl
        refine Touches.mkUpd ?_ (by simp only [State.without, cond_true, cond_false])
        exact Touches.refl _
      · refine Touches.mkUpd ?_ (by simp only [State.without, cond_true, cond_false])
        exact Touches.refl _
    · refine Touches.ite ?_ ?_
      · refine Touches.trans ?_ Touches.put rfl
        refine Touches.mkUpd ?_ (by simp only [State.without, cond_true, cond_false])
        exact Touches.refl _
      · refine Touches.mkUpd ?_ (by simp only [State.without, cond_true, cond_false])
        exact Touches.refl _
  · refine Touches.ite ?_ ?_
    · refine Touches.mkUpd ?_ (by simp only [State.without, cond_true, cond_false])
      refine Touches.ite ?_ ?_
      · refine Touches.trans ?_ Touches.put rfl
        refine Touches.mkUpd ?_ (by simp only [State.without, cond_true, cond_false])
        exact Touches.refl _
      · refine Touches.mkUpd ?_ (by simp only [State.without, cond_true, cond_false])
        exact Touches.refl _
    · refine Touches.ite ?_ ?_
      · refine Touches.trans ?_ Touches.put rfl
        refine Touches.mkUpd ?_ (by simp only [State.without, cond_true, cond_false])
        exact Touches.refl _
      · refine Touches.mkUpd ?_ (by simp only [State.without, cond_true, cond_false])
        exact Touches.refl _

theorem State.exchange_touches {a0 : _} {a1 : _} : Touches { regs := true, ev := true, jr := true, units := true, pair := true, img := true } a0 (@State.exchange a0 a1) := by
  unfold State.exchange
  dsimp only
  refine Touches.ite ?_ ?_
  · refine Touches.trans ?_ State.acceptPartner_touches rfl
    exact Touches.refl _
  · refine Touches.trans ?_ State.refusePartner_touches rfl
    exact Touches.refl _

theorem State.startField_touches {a0 : _} {a1 : _} : Touches { regs := true, field := true } a0 (@State.startField a0 a1) := by
  unfold State.startField
  dsimp only
  refine Touches.trans ?_ State.showFa_touches rfl
  refine Touches.foldl ?_ (fun v0 v1 => ?_)
  · refine Touches.trans ?_ Touches.put rfl
    refine Touches.mkUpd ?_ (by simp only [State.without, cond_true, cond_false])
    refine Touches.foldl ?_ (fun v2 v3 => ?_)
    · refine Touches.trans ?_ Touches.put rfl
      refine Touches.trans ?_ Touches.put rfl
      refine Touches.trans ?_ Touches.put rfl
      exact Touches.refl _
    · refine Touches.trans ?_ Touches.putFlag rfl
      refine Touches.trans ?_ Touches.put rfl
      exact Touches.refl _
  · refine Touches.trans ?_ State.faComesUp_touches rfl
    exact Touches.refl _

theorem State.startLanes_touches {a0 : _} {a1 : _} : Touches { regs := true, pwr := true } a0 (@State.startLanes a0 a1) := by
  unfold State.startLanes
  refine Touches.foldl ?_ (fun v0 v1 => ?_)
  · refine Touches.trans ?_ State.holdAbsent_touches rfl
    exact Touches.refl _
  · refine Touches.ite ?_ ?_
    · refine Touches.trans ?_ Touches.put rfl
      exact Touches.refl _
    · exact Touches.refl _

theorem State.startBeat_touches {a0 : _} {a1 : _} : Touches { regs := true, beat := true, ev := true, time := true } a0 (@State.startBeat a0 a1) := by
  unfold State.startBeat
  dsimp only
  refine Touches.ite ?_ ?_
  · refine Touches.trans ?_ State.takeServo_touches rfl
    refine Touches.mkUpd ?_ (by simp only [State.without, cond_true, cond_false])
    refine Touches.trans ?_ Touches.put rfl
    exact Touches.refl _
  · refine Touches.trans ?_ State.setAlign_touches rfl
    refine Touches.mkUpd ?_ (by simp only [State.without, cond_true, cond_false])
    refine Touches.trans ?_ Touches.put rfl
    exact Touches.refl _

theorem State.startProgram_touches {a0 : _} {a1 : _} {a2 : _} : Touches { regs := true, beat := true, ev := true, jr := true, rt := true, rtY := true, rtZ := true, loops := true, triad := true } a0 (@State.startProgram a0 a1 a2) := by
  unfold State.startProgram
  dsimp only
  refine Touches.trans ?_ State.showRuntime_touches rfl
  refine Touches.trans ?_ Touches.put rfl
  refine Touches.trans ?_ Touches.put rfl
  refine Touches.comp ?_ (State.onCluster_touches ?_ rfl)
  · refine Touches.comp ?_ (State.onCluster_touches ?_ rfl)
    · split
      · rename_i v0 v1 v2
        refine Touches.ite ?_ ?_
        · refine Touches.trans ?_ State.journalLoad_touches rfl
          refine Touches.trans ?_ State.loadProgram_touches rfl
          refine Touches.mkUpd ?_ (by simp only [State.without, cond_true, cond_false])
          exact Touches.refl _
        · refine Touches.trans ?_ State.noProgram_touches rfl
          refine Touches.mkUpd ?_ (by simp only [State.without, cond_true, cond_false])
          exact Touches.refl _
      · rename_i v3 v4
        refine Touches.trans ?_ State.noProgram_touches rfl
        refine Touches.mkUpd ?_ (by simp only [State.without, cond_true, cond_false])
        exact Touches.refl _
    · intro v5
      refine Touches.trans ?_ State.coldCluster_touches rfl
      exact Touches.refl _
  · intro v6
    refine Touches.trans ?_ State.coldCluster_touches rfl
    exact Touches.refl _

theorem State.startTests_touches {a0 : _} {a1 : _} : Touches { regs := true, free := true, ev := true, lcp := true, jr := true, units := true, pair := true, pwr := true, img := true } a0 (@State.startTests a0 a1) := by
  unfold State.startTests
  dsimp only
  refine Touches.foldl ?_ (fun v0 v1 => ?_)
  · refine Touches.trans ?_ State.showApplicable_touches rfl
    refine Touches.mkUpd ?_ (by simp only [State.without, cond_true, cond_false])
    exact Touches.refl _
  · refine Touches.ite ?_ ?_
    · exact Touches.refl _
    · refine Touches.ite ?_ ?_
      · refine Touches.trans ?_ State.healthFails_touches rfl
        exact Touches.refl _
      · refine Touches.trans ?_ State.healthPass_touches rfl
        exact Touches.refl _

theorem State.exitStart_touches {a0 : _} {a1 : _} : Touches { regs := true, ev := true, lcp := true, jr := true, units := true, rt := true, loops := true, pair := true, sec := true } a0 (@State.exitStart a0 a1) := by
  unfold State.exitStart
  dsimp only
  refine Touches.ite ?_ ?_
  · refine Touches.trans ?_ State.startRun_touches rfl
    exact Touches.refl _
  · refine Touches.ite ?_ ?_
    · refine Touches.trans ?_ State.coldRestart_touches rfl
      exact Touches.refl _
    · exact Touches.refl _

theorem State.startEpochs_touches {a0 : _} {a1 : _} : Touches { regs := true, ev := true, lcp := true, jr := true, units := true } a0 (@State.startEpochs a0 a1) := by
  unfold State.startEpochs
  dsimp only
  refine Touches.ite ?_ ?_
  · refine Touches.trans ?_ State.bumpOwn_touches rfl
    refine Touches.ite ?_ ?_
    · refine Touches.trans ?_ State.bumpUnit_touches rfl
      exact Touches.refl _
    · exact Touches.refl _
  · refine Touches.ite ?_ ?_
    · refine Touches.trans ?_ State.bumpUnit_touches rfl
      exact Touches.refl _
    · exact Touches.refl _

theorem State.startService_touches {a0 : _} {a1 : _} : Touches { regs := true, free := true, beat := true, ev := true, lcp := true, jr := true, units := true, wd := true, rt := true, rtY := true, rtZ := true, loops := true, pair := true, sec := true, triad := true, pwr := true, img := true, field := true, can := true } a0 (@State.startService a0 a1) := by
  unfold State.startService
  dsimp only
  refine Touches.trans ?_ State.showUnit_touches rfl
  refine Touches.trans ?_ State.showLeds_touches rfl
  refine Touches.trans ?_ State.canShow_touches rfl
  refine Touches.mkUpd ?_ (by simp only [State.without, cond_true, cond_false])
  refine Touches.ite ?_ ?_
  · refine Touches.trans ?_ Touches.put rfl
    refine Touches.trans ?_ State.exitStart_touches rfl
    refine Touches.trans ?_ State.decideRole_touches rfl
    refine Touches.trans ?_ State.startEpochs_touches rfl
    refine Touches.trans ?_ State.startTests_touches rfl
    refine Touches.trans ?_ State.startProgram_touches rfl
    refine Touches.trans ?_ State.startLanes_touches rfl
    refine Touches.trans ?_ State.startField_touches rfl
    exact Touches.refl _
  · refine Touches.trans ?_ State.exitStart_touches rfl
    refine Touches.trans ?_ State.decideRole_touches rfl
    refine Touches.trans ?_ State.startEpochs_touches rfl
    refine Touches.trans ?_ State.startTests_touches rfl
    refine Touches.trans ?_ State.startProgram_touches rfl
    refine Touches.trans ?_ State.startLanes_touches rfl
    refine Touches.trans ?_ State.startField_touches rfl
    exact Touches.refl _

theorem State.startPair_touches {a0 : _} {a1 : _} : Touches { regs := true, free := true, beat := true, ev := true, lcp := true, jr := true, units := true, wd := true, rt := true, rtY := true, rtZ := true, loops := true, pair := true, sec := true, triad := true, pwr := true, img := true, field := true, time := true, can := true } a0 (@State.startPair a0 a1) := by
  unfold State.startPair
  dsimp only
  refine Touches.ite ?_ ?_
  · refine Touches.trans ?_ State.startFails_touches rfl
    refine Touches.trans ?_ State.startBeat_touches rfl
    split
    · rename_i v0 v1 v2
      refine Touches.ite ?_ ?_
      · refine Touches.ite ?_ ?_
        · exact Touches.refl _
        · refine Touches.trans ?_ State.pairLinkUp_touches rfl
          exact Touches.refl _
      · refine Touches.trans ?_ State.exchange_touches rfl
        refine Touches.ite ?_ ?_
        · exact Touches.refl _
        · refine Touches.trans ?_ State.pairLinkUp_touches rfl
          exact Touches.refl _
    · rename_i v3 v4
      refine Touches.ite ?_ ?_
      · exact Touches.refl _
      · refine Touches.trans ?_ State.pairLinkUp_touches rfl
        exact Touches.refl _
  · refine Touches.trans ?_ State.startService_touches rfl
    refine Touches.trans ?_ State.startBeat_touches rfl
    split
    · rename_i v5 v6 v7
      refine Touches.ite ?_ ?_
      · refine Touches.ite ?_ ?_
        · exact Touches.refl _
        · refine Touches.trans ?_ State.pairLinkUp_touches rfl
          exact Touches.refl _
      · refine Touches.trans ?_ State.exchange_touches rfl
        refine Touches.ite ?_ ?_
        · exact Touches.refl _
        · refine Touches.trans ?_ State.pairLinkUp_touches rfl
          exact Touches.refl _
    · rename_i v8 v9
      refine Touches.ite ?_ ?_
      · exact Touches.refl _
      · refine Touches.trans ?_ State.pairLinkUp_touches rfl
        exact Touches.refl _

theorem State.startS4_touches {s : State} {i : StartIn} : Touches { regs := true, free := true, beat := true, ev := true, lcp := true, jr := true, units := true, wd := true, rt := true, rtY := true, rtZ := true, loops := true, pair := true, sec := true, triad := true, pwr := true, img := true, field := true, time := true, can := true } s (s.startS4 i) := by
  unfold State.startS4
  refine Touches.ite (Touches.trans (Touches.refl _) State.startFails_touches rfl) (Touches.ite ?_ ?_)
  · refine Touches.trans ?_ State.showLeds_touches rfl
    refine Touches.mkUpd ?_ rfl
    exact Touches.trans (Touches.refl _) State.setMode_touches rfl
  · split
    · exact Touches.trans (Touches.trans (Touches.refl _) State.rejectNext_touches rfl) State.startFails_touches rfl
    · rename_i u hu
      refine Touches.comp (Touches.mono (State.startS5_touches hu) rfl) ?_
      split
      · exact Touches.trans (Touches.trans (Touches.refl _) State.rejectNext_touches rfl) State.startFails_touches rfl
      · rename_i v hv
        exact Touches.trans (Touches.mono (State.startS6_touches hv) rfl) State.startPair_touches rfl

theorem State.startS2_touches {a0 : _} {a1 : _} : Touches { regs := true, free := true, beat := true, ev := true, lcp := true, jr := true, units := true, wd := true, rt := true, rtY := true, rtZ := true, loops := true, pair := true, sec := true, triad := true, pwr := true, img := true, panel := true, field := true, time := true, can := true } a0 (@State.startS2 a0 a1) := by
  unfold State.startS2
  refine Touches.ite ?_ ?_
  · refine Touches.trans ?_ State.showLeds_touches rfl
    refine Touches.mkUpd ?_ (by simp only [State.without, cond_true, cond_false])
    exact Touches.refl _
  · dsimp only
    refine Touches.ite ?_ ?_
    · refine Touches.trans ?_ State.startFails_touches rfl
      refine Touches.trans ?_ State.openWindow_touches rfl
      refine Touches.trans ?_ Touches.put rfl
      refine Touches.trans ?_ Touches.put rfl
      refine Touches.ite ?_ ?_
      · exact Touches.refl _
      · refine Touches.trans ?_ State.bootFallback_touches rfl
        exact Touches.refl _
    · refine Touches.trans ?_ State.startS4_touches rfl
      refine Touches.trans ?_ State.startS3_touches rfl
      refine Touches.trans ?_ State.openWindow_touches rfl
      refine Touches.trans ?_ Touches.put rfl
      refine Touches.trans ?_ Touches.put rfl
      refine Touches.ite ?_ ?_
      · exact Touches.refl _
      · refine Touches.trans ?_ State.bootFallback_touches rfl
        exact Touches.refl _

theorem State.startS1Fails_touches {a0 : _} : Touches { regs := true, beat := true, ev := true, lcp := true, jr := true, units := true, wd := true, rt := true, pair := true, sec := true, triad := true, pwr := true, panel := true, field := true, can := true } a0 (@State.startS1Fails a0) := by
  unfold State.startS1Fails
  dsimp only
  refine Touches.ite ?_ ?_
  · refine Touches.trans ?_ State.showLeds_touches rfl
    refine Touches.mkUpd ?_ (by simp only [State.without, cond_true, cond_false])
    refine Touches.trans ?_ State.onPwr_touches rfl
    exact Touches.refl _
  · refine Touches.trans ?_ State.startFails_touches rfl
    refine Touches.trans ?_ State.onPwr_touches rfl
    refine Touches.mkUpd ?_ (by simp only [State.without, cond_true, cond_false])
    refine Touches.trans ?_ State.onPwr_touches rfl
    exact Touches.refl _

theorem State.startCauses_touches {a0 : _} : Touches { regs := true, beat := true, ev := true } a0 (@State.startCauses a0) := by
  unfold State.startCauses
  dsimp only
  refine Touches.ite ?_ ?_
  · refine Touches.trans ?_ State.raise_touches rfl
    refine Touches.mkUpd ?_ (by simp only [State.without, cond_true, cond_false])
    exact Touches.refl _
  · refine Touches.mkUpd ?_ (by simp only [State.without, cond_true, cond_false])
    exact Touches.refl _

theorem State.start_touches {a0 : _} {a1 : _} : Touches { regs := true, free := true, beat := true, ev := true, lcp := true, jr := true, units := true, wd := true, rt := true, rtY := true, rtZ := true, loops := true, pair := true, sec := true, triad := true, pwr := true, img := true, panel := true, lanes := true, field := true, time := true, can := true } a0 (@State.start a0 a1) := by
  unfold State.start
  dsimp only
  split
  · rename_i v0 v1 v2
    refine Touches.trans ?_ State.startFails_touches rfl
    refine Touches.trans ?_ State.startCauses_touches rfl
    exact Touches.refl _
  · rename_i v3 v4
    refine Touches.ite ?_ ?_
    · refine Touches.trans ?_ State.startS1Fails_touches rfl
      refine Touches.trans ?_ State.startCauses_touches rfl
      exact Touches.refl _
    · refine Touches.trans ?_ State.startS2_touches rfl
      refine Touches.trans ?_ State.startS1_touches rfl
      refine Touches.trans ?_ State.onPwr_touches rfl
      refine Touches.trans ?_ State.startCauses_touches rfl
      exact Touches.refl _

theorem execStartSequence_touches {a0 : _} {a1 : _} {t : State} (h : (@execStartSequence a0 a1) = .next t) : Touches { regs := true, free := true, beat := true, ev := true, lcp := true, jr := true, units := true, wd := true, rt := true, rtY := true, rtZ := true, loops := true, pair := true, sec := true, triad := true, pwr := true, img := true, panel := true, lanes := true, field := true, time := true, can := true } a1 t := by
  unfold execStartSequence at h
  injection h with h
  subst h
  refine Touches.ite ?_ ?_
  · exact Touches.refl _
  · refine Touches.trans ?_ State.start_touches rfl
    exact Touches.refl _

theorem execPartnerExchange_touches {a0 : _} {a1 : _} {a2 : _} {t : State} (h : (@execPartnerExchange a0 a1 a2) = .next t) : Touches { regs := true, ev := true, lcp := true, jr := true, units := true, rt := true, loops := true, pair := true, sec := true, img := true, can := true } a1 t := by
  unfold execPartnerExchange at h
  injection h with h
  subst h
  refine Touches.ite ?_ ?_
  · exact Touches.refl _
  · dsimp only
    refine Touches.ite ?_ ?_
    · refine Touches.trans ?_ State.showLeds_touches rfl
      refine Touches.trans ?_ State.canShow_touches rfl
      refine Touches.trans ?_ State.exitStart_touches rfl
      refine Touches.trans ?_ State.decideRole_touches rfl
      split
      · rename_i v0 v1
        refine Touches.ite ?_ ?_
        · refine Touches.mkUpd ?_ (by simp only [State.without, cond_true, cond_false])
          exact Touches.refl _
        · refine Touches.trans ?_ State.exchange_touches rfl
          refine Touches.mkUpd ?_ (by simp only [State.without, cond_true, cond_false])
          exact Touches.refl _
      · rename_i v2
        refine Touches.mkUpd ?_ (by simp only [State.without, cond_true, cond_false])
        exact Touches.refl _
    · split
      · rename_i v3 v4
        refine Touches.ite ?_ ?_
        · refine Touches.mkUpd ?_ (by simp only [State.without, cond_true, cond_false])
          exact Touches.refl _
        · refine Touches.trans ?_ State.exchange_touches rfl
          refine Touches.mkUpd ?_ (by simp only [State.without, cond_true, cond_false])
          exact Touches.refl _
      · rename_i v5
        refine Touches.mkUpd ?_ (by simp only [State.without, cond_true, cond_false])
        exact Touches.refl _

/-! Beat. -/

theorem State.damper_touches {a0 : _} : Touches { regs := true } a0 (@State.damper a0) := by
  unfold State.damper
  refine Touches.ite ?_ ?_
  · refine Touches.trans ?_ Touches.inc rfl
    exact Touches.refl _
  · exact Touches.refl _

theorem State.newBeat_touches {a0 : _} : Touches { beat := true, lcp := true, wd := true, loops := true, pair := true } a0 (@State.newBeat a0) := by
  unfold State.newBeat
  refine Touches.mkUpd ?_ (by simp only [State.without, cond_true, cond_false])
  exact Touches.refl _

theorem State.stepTaken_touches {a0 : _} {a1 : _} : Touches { regs := true, beat := true, ev := true, time := true } a0 (@State.stepTaken a0 a1) := by
  unfold State.stepTaken
  dsimp only
  refine Touches.ite ?_ ?_
  · refine Touches.trans ?_ State.becomeAligned_touches rfl
    refine Touches.trans ?_ State.raise_touches rfl
    refine Touches.trans ?_ State.pinsStep_touches rfl
    refine Touches.mkUpd ?_ (by simp only [State.without, cond_true, cond_false])
    exact Touches.refl _
  · refine Touches.trans ?_ State.setAlign_touches rfl
    refine Touches.trans ?_ Touches.put rfl
    refine Touches.trans ?_ State.raise_touches rfl
    refine Touches.trans ?_ State.pinsStep_touches rfl
    refine Touches.mkUpd ?_ (by simp only [State.without, cond_true, cond_false])
    exact Touches.refl _

theorem State.turn_touches {a0 : _} : Touches { regs := true, beat := true, ev := true, lcp := true, wd := true, loops := true, pair := true, time := true } a0 (@State.turn a0) := by
  unfold State.turn
  dsimp only
  refine Touches.ite ?_ ?_
  · refine Touches.trans ?_ State.stepTaken_touches rfl
    refine Touches.trans ?_ Touches.put rfl
    refine Touches.trans ?_ State.newBeat_touches rfl
    refine Touches.trans ?_ Touches.put rfl
    exact Touches.refl _
  · refine Touches.trans ?_ Touches.put rfl
    refine Touches.trans ?_ State.newBeat_touches rfl
    refine Touches.trans ?_ Touches.put rfl
    exact Touches.refl _

theorem State.pendEdge_touches {a0 : _} : Touches { regs := true, beat := true, ev := true, lcp := true, jr := true, units := true } a0 (@State.pendEdge a0) := by
  unfold State.pendEdge
  dsimp only
  refine Touches.ite ?_ ?_
  · refine Touches.mkUpd ?_ (by simp only [State.without, cond_true, cond_false])
    exact Touches.refl _
  · refine Touches.trans ?_ State.bumpPair_touches rfl
    refine Touches.mkUpd ?_ (by simp only [State.without, cond_true, cond_false])
    exact Touches.refl _

theorem State.pairEdge_touches {a0 : _} : Touches { regs := true, ev := true, lcp := true, jr := true, units := true, rt := true, loops := true, pair := true, pwr := true, panel := true, lanes := true, field := true, time := true, can := true } a0 (@State.pairEdge a0) := by
  unfold State.pairEdge
  dsimp only
  refine Touches.trans ?_ Touches.putFlag rfl
  refine Touches.trans ?_ State.refreshDrive_touches rfl
  refine Touches.mkUpd ?_ (by simp only [State.without, cond_true, cond_false])
  refine Touches.trans ?_ State.handoverEdge_touches rfl
  exact Touches.refl _

theorem State.reportImageLoss_touches {a0 : _} : Touches { regs := true, ev := true } a0 (@State.reportImageLoss a0) := by
  unfold State.reportImageLoss
  refine Touches.ite ?_ ?_
  · exact Touches.refl _
  · dsimp only
    refine Touches.mkUpd ?_ (by simp only [State.without, cond_true, cond_false])
    refine Touches.trans ?_ State.raise_touches rfl
    exact Touches.refl _

theorem State.journalEdge_touches {a0 : _} : Touches { regs := true, ev := true, jr := true } a0 (@State.journalEdge a0) := by
  unfold State.journalEdge
  dsimp only
  refine Touches.ite ?_ ?_
  · refine Touches.mkUpd ?_ (by simp only [State.without, cond_true, cond_false])
    refine Touches.trans ?_ State.rollStart_touches rfl
    refine Touches.ite ?_ ?_
    · refine Touches.trans ?_ State.journal_touches rfl
      refine Touches.trans ?_ State.journalRetry_touches rfl
      refine Touches.mkUpd ?_ (by simp only [State.without, cond_true, cond_false])
      exact Touches.refl _
    · refine Touches.trans ?_ State.journalRetry_touches rfl
      refine Touches.mkUpd ?_ (by simp only [State.without, cond_true, cond_false])
      exact Touches.refl _
  · refine Touches.ite ?_ ?_
    · refine Touches.trans ?_ State.journal_touches rfl
      refine Touches.trans ?_ State.journalRetry_touches rfl
      refine Touches.mkUpd ?_ (by simp only [State.without, cond_true, cond_false])
      exact Touches.refl _
    · refine Touches.trans ?_ State.journalRetry_touches rfl
      refine Touches.mkUpd ?_ (by simp only [State.without, cond_true, cond_false])
      exact Touches.refl _

theorem State.sampleLocal_touches {a0 : _} : Touches { field := true } a0 (@State.sampleLocal a0) := by
  unfold State.sampleLocal
  refine Touches.mkUpd ?_ (by simp only [State.without, cond_true, cond_false])
  exact Touches.refl _

theorem State.blocksEdge_touches {a0 : _} {a1 : _} : Touches { regs := true, mem := true, free := true, beat := true, ev := true, lcp := true, jr := true, units := true, wd := true, rt := true, loops := true, pair := true, sec := true, triad := true, pwr := true, img := true, panel := true, lanes := true, field := true, time := true, can := true } a0 (@State.blocksEdge a0 a1) := by
  unfold State.blocksEdge
  dsimp only
  refine Touches.trans ?_ State.dormantEdge_touches rfl
  refine Touches.trans ?_ State.sampleLocal_touches rfl
  refine Touches.trans ?_ State.showLeds_touches rfl
  refine Touches.trans ?_ State.showUnit_touches rfl
  refine Touches.ite ?_ ?_
  · refine Touches.trans ?_ State.imagesEdge_touches rfl
    refine Touches.trans ?_ State.debugEdge_touches rfl
    refine Touches.trans ?_ State.slewEdge_touches rfl
    refine Touches.trans ?_ State.faEdge_touches rfl
    refine Touches.trans ?_ State.fieldEdge_touches rfl
    refine Touches.trans ?_ State.canEdge_touches rfl
    refine Touches.trans ?_ State.crossEdge_touches rfl
    refine Touches.trans ?_ State.journalEdge_touches rfl
    refine Touches.trans ?_ State.reportImageLoss_touches rfl
    refine Touches.trans ?_ State.eventPackets_touches rfl
    refine Touches.trans ?_ State.pairEdge_touches rfl
    refine Touches.trans ?_ State.pendEdge_touches rfl
    exact Touches.refl _
  · refine Touches.trans ?_ State.showAttempts_touches rfl
    refine Touches.trans ?_ State.imagesEdge_touches rfl
    refine Touches.trans ?_ State.debugEdge_touches rfl
    refine Touches.trans ?_ State.slewEdge_touches rfl
    refine Touches.trans ?_ State.faEdge_touches rfl
    refine Touches.trans ?_ State.fieldEdge_touches rfl
    refine Touches.trans ?_ State.canEdge_touches rfl
    refine Touches.trans ?_ State.crossEdge_touches rfl
    refine Touches.trans ?_ State.journalEdge_touches rfl
    refine Touches.trans ?_ State.reportImageLoss_touches rfl
    refine Touches.trans ?_ State.eventPackets_touches rfl
    refine Touches.trans ?_ State.pairEdge_touches rfl
    refine Touches.trans ?_ State.pendEdge_touches rfl
    exact Touches.refl _

theorem State.beatEdge_touches {a0 : _} {a1 : _} : Touches { regs := true, mem := true, free := true, beat := true, ev := true, lcp := true, jr := true, units := true, wd := true, rt := true, loops := true, pair := true, sec := true, triad := true, pwr := true, img := true, panel := true, lanes := true, field := true, time := true, can := true } a0 (@State.beatEdge a0 a1) := by
  unfold State.beatEdge
  refine Touches.ite ?_ ?_
  · exact Touches.refl _
  · dsimp only
    refine Touches.ite ?_ ?_
    · refine Touches.trans ?_ State.enterStart_touches rfl
      refine Touches.mkUpd ?_ (by simp only [State.without, cond_true, cond_false])
      refine Touches.trans ?_ State.turn_touches rfl
      refine Touches.trans ?_ State.damper_touches rfl
      exact Touches.refl _
    · refine Touches.trans ?_ State.blocksEdge_touches rfl
      refine Touches.mkUpd ?_ (by simp only [State.without, cond_true, cond_false])
      refine Touches.trans ?_ State.turn_touches rfl
      refine Touches.trans ?_ State.damper_touches rfl
      exact Touches.refl _

theorem execBeatEdge_touches {a0 : _} {a1 : _} {t : State} (h : (@execBeatEdge a0 a1) = .next t) : Touches { regs := true, mem := true, free := true, beat := true, ev := true, lcp := true, jr := true, units := true, wd := true, rt := true, loops := true, pair := true, sec := true, triad := true, pwr := true, img := true, panel := true, lanes := true, field := true, time := true, can := true } a1 t := by
  unfold execBeatEdge at h
  injection h with h
  subst h
  refine Touches.trans ?_ State.beatEdge_touches rfl
  exact Touches.refl _

theorem State.ownImage_touches {a0 : _} : Touches { rt := true, pair := true, lanes := true } a0 (@State.ownImage a0) := by
  unfold State.ownImage
  dsimp only
  refine Touches.mkUpd ?_ (by simp only [State.without, cond_true, cond_false])
  exact Touches.refl _

theorem State.imageStands_touches {a0 : _} : Touches { rt := true } a0 (@State.imageStands a0) := by
  unfold State.imageStands
  refine Touches.ite ?_ ?_
  · exact Touches.refl _
  · refine Touches.ite ?_ ?_
    · refine Touches.mkUpd ?_ (by simp only [State.without, cond_true, cond_false])
      exact Touches.refl _
    · refine Touches.mkUpd ?_ (by simp only [State.without, cond_true, cond_false])
      exact Touches.refl _

theorem State.imageEvents_touches {a0 : _} : Touches { ev := true } a0 (@State.imageEvents a0) := by
  unfold State.imageEvents
  refine Touches.mkUpd ?_ (by simp only [State.without, cond_true, cond_false])
  exact Touches.refl _

theorem State.imageSent_touches {a0 : _} : Touches { free := true, pair := true } a0 (@State.imageSent a0) := by
  unfold State.imageSent
  refine Touches.ite ?_ ?_
  · exact Touches.refl _
  · split
    · rename_i v0 v1 v2 v3
      dsimp only
      refine Touches.mkUpd ?_ (by simp only [State.without, cond_true, cond_false])
      refine Touches.ofSnd v3 ?_
      refine Touches.trans ?_ State.fresh_touches rfl
      exact Touches.refl _

theorem State.haltPending_touches {a0 : _} : Touches { regs := true, free := true, ev := true, lcp := true, jr := true, units := true, rt := true, loops := true, pair := true, sec := true } a0 (@State.haltPending a0) := by
  unfold State.haltPending
  refine Touches.ite ?_ ?_
  · dsimp only
    refine Touches.mkUpd ?_ (by simp only [State.without, cond_true, cond_false])
    refine Touches.trans ?_ State.dbgHalt_touches rfl
    exact Touches.refl _
  · exact Touches.refl _

theorem State.lateViews_touches {a0 : _} {a1 : _} : Touches { rt := true, loops := true } a0 (@State.lateViews a0 a1) := by
  unfold State.lateViews
  split
  · rename_i v0 v1 v2
    refine Touches.ite ?_ ?_
    · exact Touches.refl _
    · dsimp only
      refine Touches.mkUpd ?_ (by simp only [State.without, cond_true, cond_false])
      exact Touches.refl _
  · rename_i v3 v4
    exact Touches.refl _

theorem State.clusterStarts_touches {a0 : _} : Touches { regs := true, beat := true, ev := true, rt := true, loops := true } a0 (@State.clusterStarts a0) := by
  unfold State.clusterStarts
  refine Touches.trans ?_ State.releaseAll_touches rfl
  refine Touches.trans ?_ State.loopIntake_touches rfl
  refine Touches.mkUpd ?_ (by simp only [State.without, cond_true, cond_false])
  exact Touches.refl _

theorem State.imageStarts_touches {a0 : _} {a1 : _} {a2 : _} : Touches { regs := true, beat := true, ev := true, rt := true, rtY := true, rtZ := true, loops := true, triad := true } a0 (@State.imageStarts a0 a1 a2) := by
  unfold State.imageStarts
  refine Touches.ite ?_ ?_
  · exact Touches.refl _
  · dsimp only
    refine Touches.comp ?_ (State.onCluster_touches ?_ rfl)
    · refine Touches.comp ?_ (State.onCluster_touches ?_ rfl)
      · refine Touches.trans ?_ State.lateViews_touches rfl
        refine Touches.trans ?_ State.startCompute_touches rfl
        exact Touches.refl _
      · intro v0
        refine Touches.trans ?_ State.clusterStarts_touches rfl
        exact Touches.refl _
    · intro v1
      refine Touches.trans ?_ State.clusterStarts_touches rfl
      exact Touches.refl _

theorem State.imageComplete_touches {a0 : _} {a1 : _} : Touches { regs := true, free := true, beat := true, ev := true, lcp := true, jr := true, units := true, rt := true, rtY := true, rtZ := true, loops := true, pair := true, sec := true, triad := true, lanes := true, can := true } a0 (@State.imageComplete a0 a1) := by
  unfold State.imageComplete
  refine Touches.ite ?_ ?_
  · exact Touches.refl _
  · dsimp only
    refine Touches.trans ?_ State.imageStarts_touches rfl
    refine Touches.mkUpd ?_ (by simp only [State.without, cond_true, cond_false])
    refine Touches.trans ?_ State.haltPending_touches rfl
    refine Touches.trans ?_ State.imageSent_touches rfl
    refine Touches.trans ?_ State.imageEvents_touches rfl
    refine Touches.trans ?_ State.imageStands_touches rfl
    refine Touches.trans ?_ State.ownImage_touches rfl
    refine Touches.trans ?_ State.canFreeze_touches rfl
    exact Touches.refl _

theorem execImageComplete_touches {a0 : _} {a1 : _} {t : State} (h : (@execImageComplete a0 a1) = .next t) : Touches { regs := true, free := true, beat := true, ev := true, lcp := true, jr := true, units := true, rt := true, rtY := true, rtZ := true, loops := true, pair := true, sec := true, triad := true, lanes := true, can := true } a1 t := by
  unfold execImageComplete at h
  injection h with h
  subst h
  refine Touches.trans ?_ State.imageComplete_touches rfl
  exact Touches.refl _

/-! Freeze. -/

theorem State.takeCause_touches {a0 : _} {a1 : _} : Touches { regs := true, beat := true, ev := true, lcp := true, jr := true, units := true, wd := true, rt := true, loops := true, pair := true, sec := true, triad := true, pwr := true, field := true, can := true } a0 (@State.takeCause a0 a1) := by
  unfold State.takeCause
  dsimp only
  split
  · rename_i v0
    refine Touches.mkUpd ?_ (by simp only [State.without, cond_true, cond_false])
    exact Touches.refl _
  · rename_i v1 v2
    split
    · rename_i v3 v4 v5
      refine Touches.trans ?_ State.enterSafe_touches rfl
      refine Touches.mkUpd ?_ (by simp only [State.without, cond_true, cond_false])
      exact Touches.refl _
    · rename_i v6 v7
      refine Touches.trans ?_ State.enterStart_touches rfl
      refine Touches.mkUpd ?_ (by simp only [State.without, cond_true, cond_false])
      exact Touches.refl _
    · rename_i v8 v9
      refine Touches.trans ?_ State.keyStops_touches rfl
      refine Touches.mkUpd ?_ (by simp only [State.without, cond_true, cond_false])
      exact Touches.refl _
    · rename_i v10 v11
      refine Touches.ite ?_ ?_
      · refine Touches.trans ?_ State.enterStop_touches rfl
        refine Touches.mkUpd ?_ (by simp only [State.without, cond_true, cond_false])
        exact Touches.refl _
      · refine Touches.mkUpd ?_ (by simp only [State.without, cond_true, cond_false])
        exact Touches.refl _

theorem State.freezeFirst_touches {a0 : _} : Touches { regs := true, beat := true, ev := true, lcp := true, jr := true, units := true, wd := true, rt := true, loops := true, pair := true, sec := true, triad := true, pwr := true, panel := true, field := true, can := true } a0 (@State.freezeFirst a0) := by
  unfold State.freezeFirst
  dsimp only
  refine Touches.ite ?_ ?_
  · refine Touches.mkUpd ?_ (by simp only [State.without, cond_true, cond_false])
    refine Touches.trans ?_ State.takeCause_touches rfl
    refine Touches.mkUpd ?_ (by simp only [State.without, cond_true, cond_false])
    exact Touches.refl _
  · refine Touches.ite ?_ ?_
    · refine Touches.trans ?_ State.stopShadow_touches rfl
      refine Touches.trans ?_ State.panelFreeze_touches rfl
      refine Touches.mkUpd ?_ (by simp only [State.without, cond_true, cond_false])
      refine Touches.ite ?_ ?_
      · refine Touches.trans ?_ State.restartPair_touches rfl
        refine Touches.mkUpd ?_ (by simp only [State.without, cond_true, cond_false])
        refine Touches.trans ?_ State.takeCause_touches rfl
        refine Touches.mkUpd ?_ (by simp only [State.without, cond_true, cond_false])
        exact Touches.refl _
      · refine Touches.trans ?_ State.takeCause_touches rfl
        refine Touches.mkUpd ?_ (by simp only [State.without, cond_true, cond_false])
        exact Touches.refl _
    · refine Touches.trans ?_ State.panelFreeze_touches rfl
      refine Touches.mkUpd ?_ (by simp only [State.without, cond_true, cond_false])
      refine Touches.ite ?_ ?_
      · refine Touches.trans ?_ State.restartPair_touches rfl
        refine Touches.mkUpd ?_ (by simp only [State.without, cond_true, cond_false])
        refine Touches.trans ?_ State.takeCause_touches rfl
        refine Touches.mkUpd ?_ (by simp only [State.without, cond_true, cond_false])
        exact Touches.refl _
      · refine Touches.trans ?_ State.takeCause_touches rfl
        refine Touches.mkUpd ?_ (by simp only [State.without, cond_true, cond_false])
        exact Touches.refl _

theorem applyCmd_touches {a0 : _} {a1 : _} {a2 : _} : Touches { regs := true, mem := true, free := true, beat := true, ev := true, lcp := true, jr := true, units := true, wd := true, rt := true, rtY := true, rtZ := true, loops := true, pair := true, sec := true, triad := true, pwr := true, lanes := true, field := true, time := true, can := true } a2 (@applyCmd a0 a1 a2).st := by
  unfold applyCmd
  dsimp only
  split
  · rename_i v0 v1
    refine Touches.trans ?_ modeSetApply_touches rfl
    exact Touches.refl _
  · rename_i v2 v3
    refine Touches.trans ?_ restartApply_touches rfl
    exact Touches.refl _
  · rename_i v4 v5
    refine Touches.trans ?_ valueWriteApply_touches rfl
    exact Touches.refl _
  · rename_i v6 v7
    refine Touches.trans ?_ constWriteApply_touches rfl
    exact Touches.refl _
  · rename_i v8 v9
    refine Touches.trans ?_ forceSetApply_touches rfl
    exact Touches.refl _
  · rename_i v10 v11
    refine Touches.trans ?_ forceClearApply_touches rfl
    exact Touches.refl _
  · rename_i v12 v13
    refine Touches.trans ?_ valueOwnApply_touches rfl
    exact Touches.refl _
  · rename_i v14 v15
    refine Touches.trans ?_ valueReleaseApply_touches rfl
    exact Touches.refl _
  · rename_i v16 v17
    refine Touches.trans ?_ loopModeSetApply_touches rfl
    exact Touches.refl _
  · rename_i v18 v19
    refine Touches.trans ?_ loopSpSetApply_touches rfl
    exact Touches.refl _
  · rename_i v20 v21
    refine Touches.trans ?_ loopCoeffSetApply_touches rfl
    exact Touches.refl _
  · rename_i v22 v23
    refine Touches.trans ?_ chimeSetApply_touches rfl
    exact Touches.refl _
  · rename_i v24 v25
    refine Touches.trans ?_ rimshotArmApply_touches rfl
    exact Touches.refl _
  · rename_i v26 v27
    refine Touches.trans ?_ canObjSetApply_touches rfl
    exact Touches.refl _
  · rename_i v28 v29
    refine Touches.trans ?_ securityStateSetApply_touches rfl
    exact Touches.refl _
  · rename_i v30 v31
    refine Touches.trans ?_ dormantEnterApply_touches rfl
    exact Touches.refl _
  · rename_i v32 v33
    refine Touches.trans ?_ switchoverApply_touches rfl
    exact Touches.refl _
  · rename_i v34 v35
    refine Touches.trans ?_ resyncApply_touches rfl
    exact Touches.refl _
  · rename_i v36 v37
    refine Touches.trans ?_ shadowStartApply_touches rfl
    exact Touches.refl _
  · rename_i v38 v39
    refine Touches.trans ?_ promoteApply_touches rfl
    exact Touches.refl _
  · rename_i v40 v41
    refine Touches.trans ?_ revertApply_touches rfl
    exact Touches.refl _
  · rename_i v42 v43
    refine Touches.trans ?_ changeConfirmApply_touches rfl
    exact Touches.refl _
  · rename_i v44 v45
    refine Touches.trans ?_ objWriteApply_touches rfl
    exact Touches.refl _
  · rename_i v46 v47
    refine Touches.trans ?_ ioConfigApply_touches rfl
    exact Touches.refl _
  · rename_i v48 v49 v50 v51 v52 v53 v54 v55 v56 v57 v58 v59 v60 v61 v62 v63 v64 v65 v66 v67 v68 v69 v70 v71 v72
    dsimp only
    exact Touches.refl _

theorem State.freezeOne_touches {a0 : _} {a1 : _} {a2 : _} {a3 : _} : Touches { regs := true, mem := true, free := true, beat := true, ev := true, lcp := true, jr := true, units := true, wd := true, rt := true, rtY := true, rtZ := true, loops := true, pair := true, sec := true, triad := true, pwr := true, lanes := true, field := true, time := true, can := true } a0 (@State.freezeOne a0 a1 a2 a3).1 := by
  unfold State.freezeOne
  split
  · rename_i v0 v1 v2 v3
    dsimp only
    refine Touches.trans ?_ State.afterFreeze_touches rfl
    exact Touches.refl _
  · rename_i v4 v5 v6
    refine Touches.iteFst ?_ ?_
    · dsimp only
      refine Touches.trans ?_ State.lateEpoch_touches rfl
      exact Touches.refl _
    · split
      · rename_i v7 v8 v9 v10
        dsimp only
        refine Touches.trans ?_ State.afterFreeze_touches rfl
        exact Touches.refl _
      · rename_i v11 v12
        dsimp only
        split
        · rename_i v13 v14 v15
          dsimp only
          refine Touches.trans ?_ State.afterFreeze_touches rfl
          exact Touches.refl _
        · rename_i v16 v17
          dsimp only
          refine Touches.trans ?_ State.afterFreeze_touches rfl
          refine Touches.ite ?_ ?_
          · refine Touches.mkUpd ?_ (by simp only [State.without, cond_true, cond_false])
            refine Touches.trans ?_ applyCmd_touches rfl
            exact Touches.refl _
          · refine Touches.trans ?_ applyCmd_touches rfl
            exact Touches.refl _

theorem freezeAll_touches {c : Option Cause} {l : List QCmd} {s : State} {w : List (Target × Nat)} :
    Touches { regs := true, mem := true, free := true, beat := true, ev := true, lcp := true, jr := true, units := true, wd := true, rt := true, rtY := true, rtZ := true, loops := true, pair := true, sec := true, triad := true, pwr := true, lanes := true, field := true, time := true, can := true } s (freezeAll c l s w) := by
  induction l generalizing s w with
  | nil => exact Touches.refl s
  | cons q t ih =>
    unfold freezeAll
    dsimp only
    exact Touches.ite (Touches.refl s) (Touches.comp (Touches.trans (Touches.refl _) State.freezeOne_touches rfl) ih)

theorem State.refuseLosers_touches {a0 : _} : Touches { regs := true, lcp := true } a0 (@State.refuseLosers a0) := by
  unfold State.refuseLosers
  refine Touches.ite ?_ ?_
  · refine Touches.foldl ?_ (fun v0 v1 => ?_)
    · exact Touches.refl _
    · refine Touches.trans ?_ State.afterFreeze_touches rfl
      exact Touches.refl _
  · exact Touches.refl _

theorem State.freezeApply_touches {a0 : _} : Touches { regs := true, mem := true, free := true, beat := true, ev := true, lcp := true, jr := true, units := true, wd := true, rt := true, rtY := true, rtZ := true, loops := true, pair := true, sec := true, triad := true, pwr := true, panel := true, lanes := true, field := true, time := true, can := true } a0 (@State.freezeApply a0) := by
  unfold State.freezeApply
  refine Touches.ite ?_ ?_
  · exact Touches.refl _
  · dsimp only
    refine Touches.trans ?_ State.showLeds_touches rfl
    refine Touches.trans ?_ freezeAll_touches rfl
    refine Touches.mkUpd ?_ (by simp only [State.without, cond_true, cond_false])
    refine Touches.trans ?_ State.freezeFirst_touches rfl
    refine Touches.trans ?_ State.refuseLosers_touches rfl
    exact Touches.refl _

theorem execFreezeCommandApply_touches {a0 : _} {t : State} (h : (@execFreezeCommandApply a0) = .next t) : Touches { regs := true, mem := true, free := true, beat := true, ev := true, lcp := true, jr := true, units := true, wd := true, rt := true, rtY := true, rtZ := true, loops := true, pair := true, sec := true, triad := true, pwr := true, panel := true, lanes := true, field := true, time := true, can := true } a0 t := by
  unfold execFreezeCommandApply at h
  injection h with h
  subst h
  refine Touches.trans ?_ State.freezeApply_touches rfl
  exact Touches.refl _

/-! Commit. -/

theorem State.accountBeat_touches {a0 : _} : Touches { regs := true, beat := true } a0 (@State.accountBeat a0) := by
  unfold State.accountBeat
  dsimp only
  refine Touches.ite ?_ ?_
  · refine Touches.trans ?_ Touches.put rfl
    refine Touches.trans ?_ Touches.put rfl
    refine Touches.trans ?_ Touches.put rfl
    refine Touches.mkUpd ?_ (by simp only [State.without, cond_true, cond_false])
    exact Touches.refl _
  · refine Touches.trans ?_ Touches.put rfl
    refine Touches.trans ?_ Touches.put rfl
    refine Touches.mkUpd ?_ (by simp only [State.without, cond_true, cond_false])
    exact Touches.refl _

theorem State.engineEnds_touches {a0 : _} {a1 : _} {a2 : _} : Touches { regs := true, ev := true, loops := true } a0 (@State.engineEnds a0 a1 a2) := by
  unfold State.engineEnds
  refine Touches.ite ?_ ?_
  · exact Touches.refl _
  · dsimp only
    refine Touches.trans ?_ State.cutLoops_touches rfl
    refine Touches.trans ?_ Touches.put rfl
    refine Touches.mkUpd ?_ (by simp only [State.without, cond_true, cond_false])
    exact Touches.refl _

theorem State.cutSlices_touches {a0 : _} : Touches { regs := true, beat := true, ev := true, rt := true, loops := true, pair := true } a0 (@State.cutSlices a0) := by
  unfold State.cutSlices
  refine Touches.foldl ?_ (fun v0 v1 => ?_)
  · exact Touches.refl _
  · refine Touches.ite ?_ ?_
    · refine Touches.trans ?_ State.watchClass_touches rfl
      refine Touches.mkUpd ?_ (by simp only [State.without, cond_true, cond_false])
      exact Touches.refl _
    · exact Touches.refl _

theorem State.commitStart_touches {a0 : _} {a1 : _} {a2 : _} : Touches { regs := true, beat := true, ev := true, rt := true, rtY := true, rtZ := true, loops := true, pair := true, triad := true } a0 (@State.commitStart a0 a1 a2) := by
  unfold State.commitStart
  refine Touches.ite ?_ ?_
  · exact Touches.refl _
  · dsimp only
    refine Touches.comp ?_ (State.onCluster_touches ?_ rfl)
    · refine Touches.comp ?_ (State.onCluster_touches ?_ rfl)
      · refine Touches.trans ?_ State.engineEnds_touches rfl
        refine Touches.trans ?_ State.accountBeat_touches rfl
        refine Touches.mkUpd ?_ (by simp only [State.without, cond_true, cond_false])
        refine Touches.comp ?_ (State.onClusters_touches ?_ rfl)
        · exact Touches.refl _
        · intro v0
          refine Touches.trans ?_ State.cutSlices_touches rfl
          exact Touches.refl _
      · intro v1
        refine Touches.trans ?_ State.engineEnds_touches rfl
        exact Touches.refl _
    · intro v2
      refine Touches.trans ?_ State.engineEnds_touches rfl
      exact Touches.refl _

theorem execCommitStart_touches {a0 : _} {a1 : _} {a2 : _} {t : State} (h : (@execCommitStart a0 a1 a2) = .next t) : Touches { regs := true, beat := true, ev := true, rt := true, rtY := true, rtZ := true, loops := true, pair := true, triad := true } a2 t := by
  unfold execCommitStart at h
  injection h with h
  subst h
  refine Touches.trans ?_ State.commitStart_touches rfl
  exact Touches.refl _

theorem State.commitDone_touches {a0 : _} : Touches { regs := true, beat := true, ev := true, rt := true, rtY := true, rtZ := true, loops := true, pair := true, triad := true } a0 (@State.commitDone a0) := by
  unfold State.commitDone
  refine Touches.ite ?_ ?_
  · exact Touches.refl _
  · dsimp only
    refine Touches.ite ?_ ?_
    · refine Touches.ite ?_ ?_
      · refine Touches.mkUpd ?_ (by simp only [State.without, cond_true, cond_false])
        refine Touches.trans ?_ State.retainSnapshot_touches rfl
        refine Touches.ite ?_ ?_
        · exact Touches.refl _
        · refine Touches.comp ?_ (State.onClusters_touches ?_ rfl)
          · exact Touches.refl _
          · intro v0
            refine Touches.trans ?_ State.commitRuntime_touches rfl
            exact Touches.refl _
      · refine Touches.mkUpd ?_ (by simp only [State.without, cond_true, cond_false])
        refine Touches.trans ?_ State.retainSnapshot_touches rfl
        refine Touches.ite ?_ ?_
        · exact Touches.refl _
        · refine Touches.comp ?_ (State.onClusters_touches ?_ rfl)
          · exact Touches.refl _
          · intro v1
            refine Touches.trans ?_ State.commitRuntime_touches rfl
            exact Touches.refl _
    · refine Touches.ite ?_ ?_
      · refine Touches.mkUpd ?_ (by simp only [State.without, cond_true, cond_false])
        refine Touches.trans ?_ State.retainSnapshot_touches rfl
        refine Touches.ite ?_ ?_
        · exact Touches.refl _
        · refine Touches.comp ?_ (State.onClusters_touches ?_ rfl)
          · exact Touches.refl _
          · intro v2
            refine Touches.trans ?_ State.commitRuntime_touches rfl
            exact Touches.refl _
      · refine Touches.mkUpd ?_ (by simp only [State.without, cond_true, cond_false])
        refine Touches.trans ?_ State.retainSnapshot_touches rfl
        refine Touches.ite ?_ ?_
        · exact Touches.refl _
        · refine Touches.comp ?_ (State.onClusters_touches ?_ rfl)
          · exact Touches.refl _
          · intro v3
            refine Touches.trans ?_ State.commitRuntime_touches rfl
            exact Touches.refl _

theorem execCommitDone_touches {a0 : _} {t : State} (h : (@execCommitDone a0) = .next t) : Touches { regs := true, beat := true, ev := true, rt := true, rtY := true, rtZ := true, loops := true, pair := true, triad := true } a0 t := by
  unfold execCommitDone at h
  injection h with h
  subst h
  refine Touches.trans ?_ State.commitDone_touches rfl
  exact Touches.refl _

theorem State.putByAll_touches {a0 : _} : Touches { rt := true } a0 (@State.putByAll a0) := by
  unfold State.putByAll
  refine Touches.trans ?_ State.putByWork_touches rfl
  exact Touches.refl _

theorem State.commitLate_touches {a0 : _} : Touches { regs := true, beat := true, ev := true, rt := true, rtY := true, rtZ := true, loops := true, triad := true } a0 (@State.commitLate a0) := by
  unfold State.commitLate
  refine Touches.ite ?_ ?_
  · exact Touches.refl _
  · dsimp only
    refine Touches.trans ?_ State.raise_touches rfl
    refine Touches.trans ?_ Touches.put rfl
    refine Touches.mkUpd ?_ (by simp only [State.without, cond_true, cond_false])
    refine Touches.comp ?_ (State.onClusters_touches ?_ rfl)
    · exact Touches.refl _
    · intro v0
      refine Touches.trans ?_ State.putByAll_touches rfl
      exact Touches.refl _

theorem execCommitLate_touches {a0 : _} {t : State} (h : (@execCommitLate a0) = .next t) : Touches { regs := true, beat := true, ev := true, rt := true, rtY := true, rtZ := true, loops := true, triad := true } a0 t := by
  unfold execCommitLate at h
  injection h with h
  subst h
  refine Touches.trans ?_ State.commitLate_touches rfl
  exact Touches.refl _

theorem State.emitStart_touches {a0 : _} : Touches { regs := true, beat := true, lanes := true, field := true, can := true } a0 (@State.emitStart a0) := by
  unfold State.emitStart
  refine Touches.ite ?_ ?_
  · exact Touches.refl _
  · dsimp only
    refine Touches.ite ?_ ?_
    · refine Touches.trans ?_ State.armLatches_touches rfl
      refine Touches.ite ?_ ?_
      · refine Touches.trans ?_ State.canCommit_touches rfl
        refine Touches.trans ?_ State.emitWsl_touches rfl
        refine Touches.ite ?_ ?_
        · refine Touches.trans ?_ State.emitForwarded_touches rfl
          refine Touches.trans ?_ State.emitLanes_touches rfl
          refine Touches.mkUpd ?_ (by simp only [State.without, cond_true, cond_false])
          exact Touches.refl _
        · refine Touches.trans ?_ State.emitLanes_touches rfl
          refine Touches.mkUpd ?_ (by simp only [State.without, cond_true, cond_false])
          exact Touches.refl _
      · refine Touches.trans ?_ State.emitWsl_touches rfl
        refine Touches.ite ?_ ?_
        · refine Touches.trans ?_ State.emitForwarded_touches rfl
          refine Touches.trans ?_ State.emitLanes_touches rfl
          refine Touches.mkUpd ?_ (by simp only [State.without, cond_true, cond_false])
          exact Touches.refl _
        · refine Touches.trans ?_ State.emitLanes_touches rfl
          refine Touches.mkUpd ?_ (by simp only [State.without, cond_true, cond_false])
          exact Touches.refl _
    · refine Touches.ite ?_ ?_
      · refine Touches.trans ?_ State.canCommit_touches rfl
        refine Touches.trans ?_ State.emitWsl_touches rfl
        refine Touches.ite ?_ ?_
        · refine Touches.trans ?_ State.emitForwarded_touches rfl
          refine Touches.trans ?_ State.emitLanes_touches rfl
          refine Touches.mkUpd ?_ (by simp only [State.without, cond_true, cond_false])
          exact Touches.refl _
        · refine Touches.trans ?_ State.emitLanes_touches rfl
          refine Touches.mkUpd ?_ (by simp only [State.without, cond_true, cond_false])
          exact Touches.refl _
      · refine Touches.trans ?_ State.emitWsl_touches rfl
        refine Touches.ite ?_ ?_
        · refine Touches.trans ?_ State.emitForwarded_touches rfl
          refine Touches.trans ?_ State.emitLanes_touches rfl
          refine Touches.mkUpd ?_ (by simp only [State.without, cond_true, cond_false])
          exact Touches.refl _
        · refine Touches.trans ?_ State.emitLanes_touches rfl
          refine Touches.mkUpd ?_ (by simp only [State.without, cond_true, cond_false])
          exact Touches.refl _

theorem execEmitStart_touches {a0 : _} {t : State} (h : (@execEmitStart a0) = .next t) : Touches { regs := true, beat := true, lanes := true, field := true, can := true } a0 t := by
  unfold execEmitStart at h
  injection h with h
  subst h
  refine Touches.trans ?_ State.emitStart_touches rfl
  exact Touches.refl _

theorem State.trackOverflow_touches {a0 : _} {a1 : _} : Touches { regs := true, ev := true, lcp := true, pair := true } a0 (@State.trackOverflow a0 a1) := by
  unfold State.trackOverflow
  dsimp only
  refine Touches.trans ?_ Touches.put rfl
  refine Touches.mkUpd ?_ (by simp only [State.without, cond_true, cond_false])
  refine Touches.trans ?_ State.raise_touches rfl
  refine Touches.trans ?_ Touches.inc rfl
  exact Touches.refl _

theorem State.logTrack_touches {a0 : _} {a1 : _} : Touches { regs := true, pair := true } a0 (@State.logTrack a0 a1) := by
  unfold State.logTrack
  dsimp only
  refine Touches.trans ?_ Touches.put rfl
  refine Touches.mkUpd ?_ (by simp only [State.without, cond_true, cond_false])
  exact Touches.refl _

theorem State.sendClose_touches {a0 : _} {a1 : _} {a2 : _} : Touches { regs := true, ev := true, lcp := true, pair := true } a0 (@State.sendClose a0 a1 a2) := by
  unfold State.sendClose
  dsimp only
  refine Touches.ite ?_ ?_
  · refine Touches.trans ?_ State.trackOverflow_touches rfl
    refine Touches.trans ?_ Touches.put rfl
    refine Touches.mkUpd ?_ (by simp only [State.without, cond_true, cond_false])
    refine Touches.trans ?_ State.logTrack_touches rfl
    exact Touches.refl _
  · refine Touches.trans ?_ Touches.put rfl
    refine Touches.mkUpd ?_ (by simp only [State.without, cond_true, cond_false])
    refine Touches.trans ?_ State.logTrack_touches rfl
    exact Touches.refl _

theorem State.trackingClose_touches {a0 : _} {a1 : _} {a2 : _} : Touches { regs := true, beat := true, ev := true, lcp := true, pair := true } a0 (@State.trackingClose a0 a1 a2) := by
  unfold State.trackingClose
  refine Touches.ite ?_ ?_
  · exact Touches.refl _
  · dsimp only
    refine Touches.mkUpd ?_ (by simp only [State.without, cond_true, cond_false])
    refine Touches.trans ?_ State.releaseHeld_touches rfl
    refine Touches.ite ?_ ?_
    · refine Touches.trans ?_ State.logTrack_touches rfl
      exact Touches.refl _
    · refine Touches.trans ?_ State.sendClose_touches rfl
      exact Touches.refl _

theorem execTrackingCloseSend_touches {a0 : _} {a1 : _} {a2 : _} {t : State} (h : (@execTrackingCloseSend a0 a1 a2) = .next t) : Touches { regs := true, beat := true, ev := true, lcp := true, pair := true } a2 t := by
  unfold execTrackingCloseSend at h
  injection h with h
  subst h
  refine Touches.trans ?_ State.trackingClose_touches rfl
  exact Touches.refl _

theorem execRetainMirrorDone_touches {a0 : _} {t : State} (h : (@execRetainMirrorDone a0) = .next t) : Touches { regs := true, rt := true } a0 t := by
  unfold execRetainMirrorDone at h
  injection h with h
  subst h
  split
  · rename_i v0 v1 v2
    refine Touches.trans ?_ State.storeMirror_touches rfl
    exact Touches.refl _
  · rename_i v3 v4
    exact Touches.refl _

end Sys2Proof.Machine
end

