-- ==== Sys2Proof/WellFormed.lean ====
section
/-! DEFINITION. Which commands are well formed: every operand within the width and range the spec gives it. The machine gives a
meaning to the others too; the checks say what a sender can send. -/

namespace Sys2Proof

/-- A number of 8, 32 or 64 bits. -/
def u8 (v : Nat) : Bool := decide (v < 256)
def u32 (v : Nat) : Bool := decide (v < 2 ^ 32)
def u64 (v : Nat) : Bool := decide (v < 2 ^ 64)

/-- An instant or a time within a beat, in 0.1 µs, and in 5 ns (R25, R439). -/
def inBeat (t : Nat) : Bool := decide (t ≤ 2500)
def inBeat5 (t : Nat) : Bool := decide (t < 50000)

/-- Values by INDEX: 22 bits of index (R82), at most 8 bytes of value. -/
def cells (l : List (Nat × Nat)) : Bool := l.all (fun c => decide (c.1 < 2 ^ 22 + 2 ^ 17) && u64 c.2)

/-- An operand that may be absent. -/
def optWf {α : Type} (f : α → Bool) : Option α → Bool
  | some a => f a
  | none => true

/-- A line record (R141): a 64-byte line of the address space of R494, with its content. -/
def lineWf (r : Nat × Nat) : Bool := decide (r.1 < 2 ^ 48) && decide (r.1 % 64 = 0) && decide (r.2 < 2 ^ 512)

/-- A TLV (R385). -/
def Tlv.wf (x : Tlv) : Bool := decide (x.t < 65536) && decide (x.len ≤ 65280) && decide (x.val < 256 ^ x.len)

/-- A command packet (R358, R384, R385); its arrival stamp lies within a beat (R389). -/
def Packet.wf (p : Packet) : Bool :=
  u32 p.sess && decide (p.magic < 65536) && u8 p.version && u8 p.flags && u32 p.seq && u32 p.epoch && u32 p.length
    && u32 p.reserved && u8 p.hopLen && p.hops.all (fun h => decide (h < 65536)) && p.tlvs.all Tlv.wf && inBeat5 p.stamp
    && optWf (fun (k : Nat) => decide (k < 12)) p.port && (p.origin.isNone || p.flags / 32 % 2 == 1)
    && optWf (fun (o : Nat × Nat) => decide (o.1 < 8) && u64 o.2) p.origin

/-- A named value of a program (R82). -/
def ValDef.wf (v : ValDef) : Bool := decide (v.idx < 2 ^ 22) && decide (v.home < 5) && decide (v.kind < 5) && decide (v.attr < 3)

/-- A program as its loader hands it over (R79 to R84). -/
def Program.wf (p : Program) : Bool :=
  p.vals.all ValDef.wf && p.tasks.all (fun t => decide (t.id < 32) && decide (t.cls < 5)) && decide (p.slices.length = 5)
    && p.loops.all (fun l => decide (l.num < 2 ^ 14) && decide (l.cls < 5))

/-- A Gong datagram (R405). -/
def GongDatagram.wf (d : GongDatagram) : Bool := u64 d.target && u64 d.serial && inBeat5 d.stamp

/-- The local samples of an edge: 16 states, and four readings of a port or none. -/
def EdgeIn.wf (e : EdgeIn) : Bool :=
  decide (e.dio < 65536) && (e.aoMa == [] || (decide (e.aoMa.length = 4) && decide (e.aoV.length = 4)))

/-- A heartbeat (R140). -/
def Heartbeat.wf (h : Heartbeat) : Bool :=
  u64 h.beat && decide (h.mode ≤ 5) && decide (h.role ≤ 4) && u32 h.epoch && decide (h.lanes < 2 ^ 96)

/-- A frame of a lane or of WSL-E (R207): header widths and payload bytes. -/
def Frame.wf (f : Frame) : Bool :=
  u8 f.ftype && u8 f.flags && u64 f.beat && u8 f.lane && u8 f.frag && decide (f.epochLo < 65536) && f.payload.all u8
    && u32 f.crc && cells f.points

/-- The prefix of a WSL-E frame (R226). -/
def WslPrefix.wf (x : WslPrefix) : Bool := decide (x.magic < 65536) && u8 x.ver && u8 x.dir && u32 x.station && u32 x.xseq

/-- A frozen input image (R142). -/
def Image.wf (i : Image) : Bool :=
  u64 i.beat && u32 i.crc && i.points.all (fun x => decide (x.1 < 2 ^ 22) && u64 x.2.1 && u8 x.2.2)
    && i.dio.all (fun w => decide (w < 512)) && i.enc.all (fun e => u64 e.1 && decide (e.2 < 2))

/-- What a follower takes from a beat's lines (R141). -/
def Tracked.wf (t : Tracked) : Bool := decide (t.mode ≤ 5) && cells t.published && cells t.work && cells t.forces

/-- What the partner reports (R69). -/
def PartnerInfo.wf (p : PartnerInfo) : Bool := decide (p.role ≤ 4) && decide (p.mode ≤ 5) && u64 p.serial

/-- What the boot finds (R66): feeds, key and wake source within their codes. -/
def StartIn.wf (i : StartIn) : Bool :=
  decide (i.feedA < 4) && decide (i.feedB < 4) && decide (i.key < 4) && decide (i.side < 2) && u8 i.wake
    && decide (i.clusters < 8) && decide (i.linkLanes < 4) && u64 i.beat && u64 i.rtc && optWf PartnerInfo.wf i.partner
    && optWf Program.wf i.progStored

/-- A transaction (R181): a 48-bit address, 64 bytes of data, 64 byte enables. -/
def Txn.wf (t : Txn) : Bool := decide (t.addr < 2 ^ 48) && decide (t.data < 2 ^ 512) && decide (t.be < 2 ^ 64)

/-- A CAN frame (R329): identifier width, data length. -/
def CanFrame.wf (f : CanFrame) : Bool :=
  decide (f.id < (if f.ide then 2 ^ 29 else 2 ^ 11)) && decide (f.len ≤ (if f.fdf then 64 else 8)) && decide (f.data < 256 ^ f.len)

/-- An Announce (R305). -/
def Announce.wf (a : Announce) : Bool := u64 a.gm && u8 a.domain && u8 a.prio1 && u8 a.clockClass && u8 a.prio2

/-- The command is one the spec lets its sender give, with every operand in its range. -/
def Instr.wf : Instr → Bool
  | .hello p => p.wf
  | .bye p => p.wf
  | .ping p => p.wf
  | .sessionPriority p => p.wf
  | .unitList p => p.wf
  | .unitInfo p => p.wf
  | .unitCertGet p => p.wf
  | .unitEpochGet p => p.wf
  | .modeGet p => p.wf
  | .modeSet p => p.wf
  | .restart p => p.wf
  | .gong p => p.wf
  | .clearSafe p => p.wf
  | .valueRead p => p.wf
  | .valueWrite p => p.wf
  | .constWrite p => p.wf
  | .valueOwn p => p.wf
  | .valueRelease p => p.wf
  | .forceSet p => p.wf
  | .forceClear p => p.wf
  | .objRead p => p.wf
  | .objWrite p => p.wf
  | .programStage p => p.wf
  | .programChunk p prog => p.wf && optWf Program.wf prog
  | .shadowStart p => p.wf
  | .shadowCompareGet p => p.wf
  | .promote p => p.wf
  | .revert p => p.wf
  | .changeConfirm p => p.wf
  | .pairStatus p => p.wf
  | .switchover p => p.wf
  | .healthReport p => p.wf
  | .resyncStandby p => p.wf
  | .loopRead p => p.wf
  | .loopModeSet p => p.wf
  | .loopCoeffSet p => p.wf
  | .loopSpSet p => p.wf
  | .timeStatus p => p.wf
  | .chimeSet p => p.wf
  | .rimshotArm p => p.wf
  | .captureRead p => p.wf
  | .journalStatus p => p.wf
  | .rollNow p => p.wf
  | .recorderFreeze p => p.wf
  | .recorderRead p => p.wf
  | .recorderThaw p => p.wf
  | .recorderClear p => p.wf
  | .imageHeader p => p.wf
  | .imageChunk p => p.wf
  | .imageCommit p => p.wf
  | .imageStatus p => p.wf
  | .imageConfirm p => p.wf
  | .csrCreate p => p.wf
  | .certInstall p => p.wf
  | .securityStateSet p => p.wf
  | .debugTokenInstall p => p.wf
  | .auditRead p => p.wf
  | .ioConfigSet p => p.wf
  | .ioDiagRead p => p.wf
  | .laneStatus p => p.wf
  | .canObjSet p => p.wf
  | .powerStatus p => p.wf
  | .dormantEnter p => p.wf
  | .powerStats p => p.wf
  | .eventSubscribe p => p.wf
  | .eventRead p => p.wf
  | .selftest p => p.wf
  | .klStatus p => p.wf
  | .gongDatagramSend => true
  | .gongDatagramReceive d => d.wf
  | .servicePacketCrcFail => true
  | .nonceExpiry => true
  | .sessionTransportLoss sess => u32 sess
  | .sessionIdleTimeout sess => u32 sess
  | .ownGraceExpiry sess => u32 sess
  | .transferTimeout _ => true
  | .forwardTimeout sess seq => u32 sess && u32 seq
  | .mailboxReply _ sub mbSeq mbOp status len val => (decide (sub < 65536)) && u8 mbSeq && u8 mbOp && u8 status && decide (len < 65536) && decide (val < 256 ^ len)
  | .mailboxTimeout _ sub mbSeq => decide (sub < 65536) && u8 mbSeq
  | .beatEdge inp => inp.wf
  | .freezeCommandApply => true
  | .imageComplete offset => inBeat offset
  | .taskEnd _ writes _ lines _ => cells writes && lines.all lineWf
  | .sliceEnd _ used _ => inBeat used
  | .loopBlockExecute loop _ => decide (loop < 2 ^ 14)
  | .commitStart unfinished finish => unfinished.all (fun n => decide (n < 3 * 2 ^ 14)) && inBeat finish
  | .commitDone => true
  | .commitLate => true
  | .emitStart => true
  | .trackingCloseSend resent _ => resent.all lineWf
  | .clusterTrimExit _ _ _ _ => true
  | .holdTimeout => true
  | .retainMirrorDone => true
  | .startSequence inp => inp.wf
  | .partnerExchange inp _ => optWf PartnerInfo.wf inp
  | .heartbeatSend _ _ _ => true
  | .heartbeatReceive h => h.wf
  | .heartbeatLost _ => true
  | .ownHeartbeatStop => true
  | .takeover _ _ => true
  | .claimReleasedUnsynced => true
  | .claimProbe _ => true
  | .pairLinkUp lanes => decide (lanes < 4)
  | .pairLinkDegraded _ => true
  | .frozenImageReceive inp => inp.wf
  | .trackingLineReceive addr data => lineWf (addr, data)
  | .outputCloseReceive beat outs => u64 beat && cells outs
  | .trackingCloseReceive beat _ crc imageCrc _ t => u64 beat && u32 crc && u32 imageCrc && t.wf
  | .syncComplete prog t => optWf Program.wf prog && t.wf
  | .healthCheckPass _ => true
  | .healthCheckDue _ => true
  | .healthCheckFailed _ => true
  | .plannedSwitchover => true
  | .shadowRunStart beat => u64 beat
  | .shadowCompare theirs => theirs.all (fun x => u32 x.1)
  | .revertHandover => true
  | .confirmWindowEnd => true
  | .triadMismatch x y z off _ => optWf Txn.wf x && optWf Txn.wf y && optWf Txn.wf z && inBeat5 off
  | .resyncStart => true
  | .resyncPassDone _ => true
  | .resyncFinal _ => true
  | .resyncDone _ => true
  | .resyncRetry _ => true
  | .splitClusterFault _ _ => true
  | .edgeLaunch _ => true
  | .delayMeasure _ => true
  | .delayRespReceive _ seq _ crc mark => u8 seq && u8 mark && u8 crc
  | .upstreamFrameReceive _ f => f.wf
  | .ackSend _ _ => true
  | .exchangeWindowEnd _ => true
  | .lossOfLink _ => true
  | .boardInserted _ addr generation type _ partCode serial => decide (addr < 12) && decide (generation < 256) && u32 type && u32 partCode && u64 serial
  | .crossoverForward _ points => cells points
  | .laneProbe _ reply => optWf Frame.wf reply
  | .crossoverEnd _ _ => true
  | .l3Poll _ _ => true
  | .l3CheckPoll _ _ => true
  | .l3ResponseReceive _ _ _ addrChar status crc inputs points =>
    u8 addrChar && u8 status && inputs.all u8 && decide (crc < 65536) && cells points
  | .l3ResponseTimeout _ _ _ => true
  | .wslFrameReceive _ pre f off => pre.wf && f.wf && inBeat5 off
  | .wslExchangeDeadline _ => true
  | .wslGateOpen _ => true
  | .wslGateClose _ _ => true
  | .fieldSamplesCross _ => true
  | .fieldSamplesLate => true
  | .fieldConverter => true
  | .fieldTimeout => true
  | .dioRampAbort _ => true
  | .dioOverloadTrip _ => true
  | .dioRetry _ _ => true
  | .dioRetriesRestore _ => true
  | .dioOverloadClear _ _ => true
  | .dioOvertemp _ => true
  | .dioCooled _ => true
  | .dioWire _ _ _ => true
  | .dioEdge _ _ off => inBeat5 off
  | .loadSupplyChange _ _ => true
  | .aoOpenLoop _ => true
  | .aoMiswire _ volts => u32 volts
  | .aoMiswireClear _ => true
  | .aoReadback _ ma => u32 ma
  | .aoHeadroomLow _ => true
  | .encIllegal _ => true
  | .encZ _ _ _ _ _ => true
  | .encLineFault _ _ => true
  | .countPreset _ value => u64 value
  | .captureEvent _ _ _ _ => true
  | .captureIntervalTimeout _ => true
  | .faSampleDeliver _ x => decide (x.count.natAbs < 2 ^ 23)
  | .faChainRestart _ => true
  | .faLaneFault _ _ => true
  | .faLaneReload _ => true
  | .ptpSyncReceive _ gm _ domain => u64 gm && u8 domain
  | .delayExchangeComplete _ gm _ => u64 gm
  | .announceReceive a => a.wf
  | .gmChange gm _ => u64 gm
  | .gmLost _ => true
  | .timeLockLost => true
  | .ptpRxError _ => true
  | .ptpForward _ _ _ _ ingress egress => decide (ingress ≤ egress)
  | .ppsEdge off => inBeat5 off
  | .ppsLost => true
  | .ppsOutPulse => true
  | .chimePulse _ => true
  | .rimshotFired _ => true
  | .tpEventPulse _ => true
  | .canFrameReceive _ f => f.wf
  | .canTxComplete _ _ => true
  | .canBusError _ _ _ tec rec' => decide (tec < 512) && decide (rec' < 512)
  | .canAckError _ _ => true
  | .canNoPeerResume _ _ => true
  | .canRecover _ => true
  | .canBusoffRecovery _ => true
  | .canAbrDwell _ => true
  | .canControllerFault _ _ => true
  | .canControllerReload _ => true
  | .journalRecordCommit => true
  | .rollCopy => true
  | .rollDone => true
  | .recorderAppend => true
  | .eventDeliver => true
  | .faultArrival => true
  | .faultHandlerEnd _ time => inBeat time
  | .fatalHandler => true
  | .wdService k _ => u32 k
  | .wdExpired => true
  | .wdAckTimeout => true
  | .wdClockStop => true
  | .wdMonitorClock => true
  | .wdEraseGuard target => u8 target
  | .tollAge => true
  | .dbgCmdHalt => true
  | .dbgCmdResume => true
  | .dbgCmdStep => true
  | .dbgCmdEndSession => true
  | .dbgWindowWrite data => decide (data < 2 ^ 512)
  | .debugDurationEnd => true
  | .mpuBankSwap _ regions => decide (regions.length = 16)
  | .mpuFault _ addr _ _ _ _ => decide (addr < 2 ^ 48)
  | .auditLinkCheck => true
  | .certExpiring _ => true
  | .certExpired _ => true
  | .feedChange _ _ _ => true
  | .powerdownStart cut => optWf (fun (c : PowerCut) => u8 c.rail && decide (1 ≤ c.step) && decide (c.step ≤ 5)) cut
  | .crashDown rail => u8 rail
  | .powerdownRestart => true
  | .trimIdleTimer _ unit refusers => u8 unit && u8 refusers
  | .trimEntryConfirm _ => true
  | .trimWake _ wake _ => u8 wake
  | .dormantWake wake => u8 wake
  | .partnerWakePulse => true
  | .moduleInsert _ => true
  | .moduleRemove => true
  | .keyChange _ => true
  | .resetRelease _ => true
  | .stuckReset _ => true
  | .resetRearm => true
  | .releasePress _ => true
  | .releaseHold => true
  | .okToRemove => true
  | .touchPage => true
  | .touchSelect => true
  | .touchBack => true
  | .touchAck => true
  | .displayTimeout => true
  | .imageEraseComplete held _ => decide (held ≤ 20000)
  | .supBankProgramDone held _ => decide (held ≤ 20000)
  | .imageAutoConfirm => true
  | .imageRejection cause => decide (cause < 256)
  | .confirmDeadline => true
  | .supervisorLockstepMismatch => true
  | .encCountStep _ _ _ _ _ => true
  | .ethLinkChange _ _ => true
  | .buttonClosure _ => true
  | .panelMessageTimeout => true
  | .holdupBankCharged _ => true

end Sys2Proof
end

