-- ==== Sys2Proof/Tests/Slice0.lean ====
section
/-! SUPPORT. Tests: witnesses for the hypotheses of the statements, an ill-formed term for each check of WellFormed, and single
commands on the worked examples of the spec. -/

open Sys2Proof Sys2Proof.Machine

namespace Sys2Proof.Tests

set_option Elab.async false

/-! States and operands the tests share. -/


/-- Register values set one after another: field, index, value. -/
def puts (s : State) (l : List (Fld × Nat × Nat)) : State := l.foldl (fun s p => s.put p.1 p.2.2 p.2.1) s

/-- A module that runs alone: SOLO in RUN, the key at REM, claim and drive asserted, beat 4,000. -/
def up : State := puts { State.reset with beat := { runs := true } }
  [(F.mode, 0, 3), (F.role, 0, 1), (F.key, 0, 1), (F.claim, 0, 1), (F.driveEn, 0, 1), (F.beatIndex, 0, 4000), (F.sec, 0, 1)]

/-- Session 1, with every privilege. -/
def one : Session := { id := 1, fp := 5, priv := 3, prio := 7 }

/-- The same module with a host. -/
def host : State := { up with lcp := { sessions := [one] } }

/-- The first request of session 1, to the pair, with these parameters. -/
def ask (tlvs : List Tlv) : Packet :=
  { sess := 1, service := false, cert := { fp := 5, priv := 3, signer := true }, seq := 1, epoch := 1
    length := 4 + tlvs.foldl (fun n x => n + 4 + pad4 x.len) 0, tlvs := tlvs, stamp := 100 }

/-- The same, to the module on side A. -/
def askOwn (tlvs : List Tlv) : Packet := { ask tlvs with hopLen := 1, hops := [0] }

/-- An ACTIVE with a READY STANDBY, and a host. -/
def active : State :=
  { puts host [(F.role, 0, 2), (F.linkUp, 0, 3)] with
    pair := { seen := true, partnerRole := 3, partnerMode := 3, partnerReady := true } }

/-- A STANDBY that is READY. -/
def standby : State :=
  { puts up [(F.role, 0, 3), (F.linkUp, 0, 3), (F.claim, 0, 0), (F.driveEn, 0, 0), (F.ready, 0, 1)] with
    pair := { seen := true, partnerRole := 2, partnerMode := 3, current := true, hasImage := true } }

/-- A variable, a forceable input point and an output point. -/
def val (i home kind : Nat) (ty : ValTy) (attr : Nat) : ValDef :=
  { idx := i, home := home, kind := kind, ty := ty, attr := attr, lo := 0, hi := 100, forceable := true, init := 0, subst := .hold
    fixedVal := 0, safeVal := 0, rangeLo := 0, rangeHi := 100, digital := ty == .bool, station := none, statusObj := 0
    compare := 0 }

/-- A small program: one task, one variable, one constant, one input point, one output point. -/
def prog : Program :=
  { hwMask := 1, wellFormed := true, gen := 1, layoutId := 7, code := 1000, data := 1000, retained := 8
    slices := [40, 40, 40, 30, 20]
    vals := [val 1 0 0 .u32 1, val 2 0 2 .u32 1, { val 3 0 3 .bool 0 with statusObj := 0x3030 }, val 4 0 4 .bool 0]
    tasks := [{ id := 0, cls := 0, order := 1, isError := false, skippable := false }]
    stations := [], loops := [], groups := [], carry := [], replaceCoeff := [], streamed := 0 }

/-- The running module with that program. -/
def run : State := { host with rt := { prog := some prog } }

/-- A loop block. -/
def loop0 : LoopDef :=
  { num := 0, cls := 0, mode0 := 1, spTarget := 0, spWorking := 0, out := 0, gain := 0x3F800000, resetTime := 0, rateTime := 0
    derivFilter := 0, action := 0, deadband := 0, bias := 0, spLo := 0, spHi := 0x42C80000, rampUp := 0, rampDown := 0, outLo := 0
    outHi := 0x42C80000, outRate := 0, spTrack := 0, extSource := 0, extGain := 0, extOffset := 0, pvLo := 0, pvHi := 0x42C80000
    group := none, groupPos := 0, primary := none, primaryIsGroup := false, progOwner := false, pvVal := 1, outVal := 4
    spVal := none, trackSwitch := none, trackVal := none, modeReq := none }

/-- The module with the program and its loop. -/
def looped : State :=
  { run with loops := { loops := [{ num := 0, d := loop0, mode := 1, req := 1, target := 0, working := 0, out := 0 }] } }

/-- An answer that the session still holds. -/
def answer : Reply := { sess := 1, op := 3, flags := 1, seq := 1, epoch := 1, status := 0, hopLen := 0, hops := [], tlvs := [] }

/-- A mailbox exchange of session 1 with the board of lane 0. -/
def mailOf : MailReq := { lane := 0, sub := 0, mbSeq := 1, mbOp := 1, obj := 0x01002000, data := 0, rest := 0, sess := 1, pkt := ask [], op := .objRead }

/-- An image header of a type and a body length, for the part code and hardware issue at reset (R523). -/
def header (ty len : Nat) : Nat :=
  0x474D494B + 256 ^ 4 + ty * 256 ^ 5 + 256 ^ 12 + 256 ^ 19 + len * 256 ^ 24

/-- An open transfer of session 1: four bytes of eight received. -/
def half (image : Bool) (hdr : Nat) : Transfer :=
  { id := 1, image := image, sess := 1, total := 8, got := 4, hdr := hdr, pair := false }

/-- A state with that transfer. -/
def during (x : Transfer) : State := { host with lcp := { host.lcp with transfers := [x] } }

/-- A chunk of four bytes for it. -/
def chunk : Packet := ask [tlv 0x8007 4 1, tlv 0x8008 8 4, tlv 0x8009 4 0x11223344]

/-- A debug token of a kind and a scope, for the serial number at reset (R475). -/
def token (kind scope : Nat) : Tlv :=
  { t := 0x003F, len := 145
    val := 0x5444 + 256 ^ 2 + kind * 256 ^ 3 + scope * 256 ^ 28 + 60 * 256 ^ 32 + 256 ^ 36 + 256 ^ 44 }

/-- A queued command of session 1 to the pair. -/
def due (o : Op) (tlvs : List Tlv) : QCmd :=
  { op := o, pkt := ask tlvs, prio := 7, beat := 3998, apply := 4000, epoch := 1 }

/-- A state in the Freeze of whose beat it applies. -/
def dueIn (s : State) (q : QCmd) : State := { s with lcp := { s.lcp with queue := [q] } }

/-- A cause of a mode change, from the beat before. -/
def caused (s : State) (k : CauseKind) : State :=
  { s with beat := { s.beat with causes := [{ kind := k, beat := 3999, code := 2 }] } }

/-- A START input in which everything is found well. -/
def boot : StartIn :=
  { wake := 1, powerOff := true, railsOk := true, feedA := 1, feedB := 1, key := 1, resetHeld := false, side := 0
    latchValid := false, supImageOk := true, supOtherOk := true, sbValid := (true, true), unreadable := none, torn := false
    rtc := 0, securityOk := true, imagesOk := 63, fallbackOk := 63, copyOk := 63, clusters := 7, linkLanes := 0
    partner := none, claimAsserted := false, partnerRun := false, beat := 1000, fieldAnswers := true, boards := 0, laOk := 0
    lbOk := 0, fullHeight := false, chassisChanged := false, replaced := false, retainA := false, retainB := false
    selfTestFail := 0, notApplicable := 0, progStored := none }

/-- The module before its START. -/
def cold : State := State.reset.put F.mode 1

/-- The running module in the compute window, with one task of its program to run. -/
def tasked (skip : Bool) : State :=
  { puts run [(F.sliceT0, 0, 40)] with
    beat := { runs := true, computing := true }
    rt := { run.rt with
      prog := some { prog with tasks := [{ id := 0, cls := 0, order := 1, isError := false, skippable := skip }] }
      runQ := [{ task := 0 }] } }

/-- A loop block that waits for its turn. -/
def waiting0 : LoopRt := { num := 0, d := loop0, mode := 1, req := 1, target := 0, working := 0, out := 0, ran := false }

/-- Its loop engine has started. -/
def looping : State :=
  { run with beat := { runs := true, computing := true }, loops := { loops := [waiting0], started := true } }

/-- A SPLIT module whose cluster Y runs that task, or that loop block. -/
def split (z : Bool) : State :=
  { (tasked false).put F.triad 2 with
    rtY := (tasked false).rt
    triad := { y := { regs := (tasked false).regs, loops := if z then looping.loops else {} } } }

/-- The module with its host before a beat runs. -/
def still : State := { host with beat := {} }

/-- What a partner says of itself. -/
def twin : PartnerInfo :=
  { hwIssue := 1, fw := 0x01000000, pairId := 0, pairMode := 0, triad := 0, role := 3, mode := 3, gen := 1, atS12 := false
    serial := 9 }

/-- A heartbeat of an ACTIVE in RUN. -/
def beat0 : Heartbeat :=
  { beat := 3999, mode := 3, role := 2, epoch := 1, triad := 0, lanes := 0, lossOfLink := 0, lastBeat := 3998
    handover := false, ready := false, keyStop := false }

/-- A frozen image of the last beat. -/
def image0 : Image := { beat := 3999, complete := true, points := [], crc := 0 }

/-- The ACTIVE in a shadow run that is settled, its Commit done. -/
def shadowed : State :=
  { puts active [(F.shState, 0, 2), (F.shStartBeat, 0, 0), (F.shadowSettle, 0, 0)] with
    beat := { runs := true, committed := true }, rt := { prog := some prog } }

/-- Lane 0 of mode L5 or L4, in a state of its own, with its controller's record. -/
def laned (mode st : Nat) (l : LaneRt) : State :=
  { puts host [(F.laneMode, 0, mode), (F.laneState, 0, st), (F.laneLink, 0, 1), (F.staleLimit, 0, 3), (F.restoreLimit, 0, 3)] with
    lanes := { lanes := [l] } }

/-- A frame with the CRC of its bytes. -/
def sealed (f : Frame) : Frame := { f with crc := crc32c (frameBytes f) }

/-- An upstream frame of lane 0 in beat 4,000. -/
def upFrame : Frame :=
  sealed { symbolsOk := true, ftype := 2, flags := 0, beat := 4000, lane := 0, frag := 0, epochLo := 1, payload := [0xFF, 0xFF, 3, 1, 1, 0, 0, 0]
           crc := 0, points := [(3, 1)] }

/-- An L3 lane with a board at address 0, as its controller stands. -/
def polled (claim : Nat) (l : L3Rt) : State :=
  { puts host [(F.laneMode, 0, 3), (F.laneState, 0, 2), (F.laneLink, 0, 1), (F.l3Boards, 0, 1), (F.claim, 0, claim)] with
    lanes := { l3 := [l] } }

/-- A remote station on a downstream port. -/
def remote (beat : Nat) (w : WslRt) : State :=
  { puts host [(F.wslDownPorts, 0, 0x10), (F.wslPort, 0, 4), (F.wslStation, 0, 7), (F.beatIndex, 0, beat), (F.wslStaleLimit, 0, 3)] with
    lanes := { wsl := [w] } }

/-- The triad with cluster 1 out. -/
def dual : State := puts up [(F.triad, 0, 1), (F.isolated, 0, 2)]

/-- What a cluster issues. -/
def txn (a : Nat) : Option Txn :=
  some { addr := a, data := 5, be := 255, kind := 1, len := 8, cache := 0, priv := 0, region := 0, poison := false }

/-- The triad with the resync of cluster 1 in a phase. -/
def resync (ph : Nat) (t : TriadSt) : State := { puts dual [(F.resyncPhase, 0, ph), (F.resyncTarget, 0, 1)] with triad := t }

/-- Lines marked beyond what converges. -/
def marked : List Nat := List.replicate 12289 0

/-- A state with this record of DIO channel 0, configured as an output. -/
def dioed (l : List (Fld × Nat × Nat)) (d : DioRt) : State :=
  { puts up ([(F.dioDir, 0, 1)] ++ l) with field := { dios := [d] } }

/-- A state with this record of AO port 0. -/
def aoed (l : List (Fld × Nat × Nat)) (a : AoRt) : State := { puts up l with field := { aos := [a] } }

/-- A state with this record of capture unit 0. -/
def capped (l : List (Fld × Nat × Nat)) (c : CapRt) : State := { puts up l with field := { caps := [c] } }

/-- A state with this record of filter lane 0, enabled. -/
def filtered (st : Nat) (a : FaRt) : State := { puts up [(F.faEnable, 0, 1), (F.faState, 0, st)] with field := { fas := [a] } }

/-- A module whose servo follows grandmaster 7 through port 0. -/
def clocked (l : List (Fld × Nat × Nat)) (x : TimeSt) : State :=
  { puts up ([(F.sourcePort, 0, 0)] ++ l) with time := { x with gm := some 7, firstSync := true, measured := true, count := 8 } }

/-- An Announce of grandmaster 7 at port 0. -/
def ann : Announce :=
  { gm := 7, port := 0, domain := 0, prio1 := 1, clockClass := 6, accuracy := 0x20, variance := 0, prio2 := 1, steps := 0 }

/-- A state with this memory of pin 2. -/
def pinned (l : List (Fld × Nat × Nat)) (x : PinRt) : State := { puts up l with time := { pins := [x] } }

/-- A classical frame of identifier 5. -/
def frame0 : CanFrame :=
  { id := 5, ide := false, rtr := false, fdf := false, brs := false, esi := false, len := 2, data := 0x1234, sof := 1000
    atEdge := false }

/-- Controller 0 monitors the bus; its filter element 0 sends identifier 5 to object 3, an RX object. -/
def bus (c : CanSt) : State :=
  { puts up [(F.canMode, 0, 2), (F.canBusMode, 0, 2), (F.canErrState, 0, 0), (F.fType, 0, 1), (F.fId1, 0, 5), (F.fId2, 0, 5),
      (F.fObject, 0, 3), (F.objDir, 3, 1)] with can := c }

/-- Controller 0 on the bus, its object 3 with a frame to send. -/
def sending (l : List (Fld × Nat × Nat)) : State :=
  puts up ([(F.canMode, 0, 1), (F.canBusMode, 0, 1), (F.canErrState, 0, 0), (F.objPending, 3, 1)] ++ l)

/-- Controller 0 in search of the bit rate, `n` beats into operation. -/
def searching (n : Nat) (c : CanRt) : State :=
  { puts up [(F.canMode, 0, 3), (F.canBusMode, 0, 3)] with beat := { runs := true, opBeats := n }, can := { ctls := [c] } }

/-- A Journal record. -/
def rec0 : JRec := { seq := 0, type := 5, tomb := false, shared := true, key := 1, len := 4, payload := 9 }

/-- An event record. -/
def ev0 : EvRec :=
  { src := 340, code := 1, sev := 1, beat := 4000, off := 0, ptpValid := false, ptp := 0, op := 0, cycles := 0, data := 5
    route := 0xFF }

/-- A fault of a severity, of a source of the triad or the Supervisor. -/
def fault0 (src sev : Nat) : FaultE := { src := src, sev := sev, beat := 4000, off := 0 }

/-- An audit record with this link. -/
def audit0 (seq link : Nat) : AuditRec :=
  { op := 0, cycles := 0, beat := 0, seq := seq, action := 1, result := 0, states := 0, detail := 0, subject := 0, link := link }

/-- A module without power whose feeds are both good again. -/
def dark : State := { puts up [(F.feedA, 0, 1), (F.feedB, 0, 1)] with pwr := { off := true } }

/-- A packet that came in on no port is framed where what is left of the checks holds. -/
theorem framed_of {p : Packet} {s : State} (hp : p.port = none) (h : (s.get F.mode ≠ 0 ∧ s.lcp.mute = false ∧ s.pwr.off = false ∧
    (s.quiet = false ∨ p.service = true)) ∧ p.magic = 0x434C ∧ p.version = 1 ∧ p.length ≤ 65512 ∧ framingOk p = true ∧
    flagsOk p = true) : Framed p s :=
  have ⟨⟨a, b, c, d⟩, e, f, g, i, j⟩ := h
  { awake := a, heard := b, on := c, served := d, magic := e, version := f, length := g, framing := i, flags := j
    port := fun k hk => by rw [hp] at hk; cases hk }

/-- The same packet in an open session with room. -/
theorem inSession_of {p : Packet} {x : Session} {s : State} (hp : p.port = none) (h : ((s.get F.mode ≠ 0 ∧ s.lcp.mute = false ∧
    s.pwr.off = false ∧ (s.quiet = false ∨ p.service = true)) ∧ p.magic = 0x434C ∧ p.version = 1 ∧ p.length ≤ 65512 ∧
    framingOk p = true ∧ flagsOk p = true) ∧ s.session? p.sess = some x ∧ s.awaiting p.sess < 64) : InSession p x s :=
  { framed := framed_of hp h.1, session := h.2.1, room := h.2.2 }

/-- The same packet as a new request. -/
theorem arrives_of {p : Packet} {x : Session} {s : State} (hp : p.port = none) (h : (((s.get F.mode ≠ 0 ∧ s.lcp.mute = false ∧
    s.pwr.off = false ∧ (s.quiet = false ∨ p.service = true)) ∧ p.magic = 0x434C ∧ p.version = 1 ∧ p.length ≤ 65512 ∧
    framingOk p = true ∧ flagsOk p = true) ∧ s.session? p.sess = some x ∧ s.awaiting p.sess < 64) ∧
    x.cache.find? (fun r => r.seq == p.seq) = none ∧ x.high < p.seq) : Arrives p x s :=
  { inSession := inSession_of hp h.1, fresh := h.2.1, rises := h.2.2 }


/-! Every check of well-formedness refuses a term. -/

/-- Packets: each field of the header, a hop, a TLV, the arrival stamp. -/
theorem test_wf_packet : Instr.wf (.ping (ask [])) = true ∧ [{ ask [] with sess := 2 ^ 32 }, { ask [] with magic := 65536 },
    { ask [] with version := 256 }, { ask [] with flags := 256 }, { ask [] with seq := 2 ^ 32 }, { ask [] with epoch := 2 ^ 32 },
    { ask [] with length := 2 ^ 32 }, { ask [] with reserved := 2 ^ 32 }, { ask [] with hopLen := 256 },
    { ask [] with hops := [65536] }, ask [{ t := 65536, len := 4, val := 0 }], ask [tlv 0x10 65281 0], ask [{ t := 0x10, len := 1, val := 256 }],
    { ask [] with stamp := 50000 }, { ask [] with port := some 12 }, { ask [] with origin := some (1, 1) },
    { ask [] with flags := 32, origin := some (8, 1) }].all (fun p => !Instr.wf (.ping p)) = true := by decide +kernel

/-- Programs: values, tasks, slices, loops. -/
theorem test_wf_program : Instr.wf (.programChunk (ask []) (some prog)) = true ∧ [{ prog with vals := [val (2 ^ 22) 0 0 .u32 1] },
    { prog with vals := [val 1 5 0 .u32 1] }, { prog with vals := [val 1 0 5 .u32 1] }, { prog with vals := [val 1 0 0 .u32 3] },
    { prog with tasks := [{ id := 32, cls := 0, order := 0, isError := false, skippable := false }] },
    { prog with tasks := [{ id := 0, cls := 5, order := 0, isError := false, skippable := false }] }, { prog with slices := [1] },
    { prog with loops := [{ loop0 with num := 2 ^ 14 }] }, { prog with loops := [{ loop0 with cls := 5 }] }].all
      (fun p => !Instr.wf (.syncComplete (some p) {}) && !Instr.wf (.programChunk (ask []) (some p))) = true := by decide +kernel

/-- Sessions, mailboxes and datagrams. -/
theorem test_wf_transport : [Instr.sessionTransportLoss (2 ^ 32), .sessionIdleTimeout (2 ^ 32), .ownGraceExpiry (2 ^ 32),
    .forwardTimeout (2 ^ 32) 0, .forwardTimeout 0 (2 ^ 32), .mailboxReply 0 65536 0 0 0 0 0, .mailboxReply 0 0 256 0 0 0 0,
    .mailboxReply 0 0 0 256 0 0 0, .mailboxReply 0 0 0 0 256 0 0, .mailboxReply 0 0 0 0 0 65536 0, .mailboxReply 0 0 0 0 0 1 256,
    .mailboxTimeout 0 65536 0, .mailboxTimeout 0 0 256,
    .gongDatagramReceive { group := 0, target := 2 ^ 64, serial := 0, signer := 0, signature := 0, stamp := 0, known := true },
    .gongDatagramReceive { group := 0, target := 0, serial := 2 ^ 64, signer := 0, signature := 0, stamp := 0, known := true },
    .gongDatagramReceive { group := 0, target := 0, serial := 0, signer := 0, signature := 0, stamp := 50000, known := true }].all
      (fun i => !i.wf) = true := by decide +kernel

/-- A transaction with one operand out of its range. -/
def badTxns : List (Option Txn) :=
  [(txn 64).map (fun t => { t with addr := 2 ^ 48 }), (txn 64).map (fun t => { t with data := 2 ^ 512 }),
   (txn 64).map (fun t => { t with be := 2 ^ 64 })]

/-- The beat, the start and the loop engine. -/
theorem test_wf_beat : [Instr.beatEdge { dio := 65536 }, .beatEdge { aoMa := [1] }, .imageComplete 2501,
    .taskEnd 0 [(2 ^ 23, 0)] 0 [], .taskEnd 0 [(0, 2 ^ 64)] 0 [], .taskEnd 0 [] 0 [(2 ^ 48, 0)],
    .taskEnd 0 [] 0 [(1, 0)], .taskEnd 0 [] 0 [(0, 2 ^ 512)], .sliceEnd 0 2501, .loopBlockExecute (2 ^ 14),
    .commitStart [3 * 2 ^ 14] 0, .commitStart [] 2501, .trackingCloseSend [(1, 0)] true,
    .triadMismatch none none none 50000, .shadowRunStart (2 ^ 64),
    .startSequence { boot with feedA := 4 }, .startSequence { boot with feedB := 4 }, .startSequence { boot with key := 4 },
    .startSequence { boot with side := 2 }, .startSequence { boot with wake := 256 }, .startSequence { boot with clusters := 8 },
    .startSequence { boot with linkLanes := 4 }, .startSequence { boot with beat := 2 ^ 64 },
    .startSequence { boot with rtc := 2 ^ 64 }, .startSequence { boot with partner := some { twin with role := 5 } },
    .startSequence { boot with progStored := some { prog with slices := [] } }].all (fun i => !i.wf) = true ∧
    badTxns.all (fun x => !(Instr.triadMismatch x none none).wf && !(Instr.triadMismatch none x none).wf
      && !(Instr.triadMismatch none none x).wf) = true := by decide +kernel

/-- The pair. -/
theorem test_wf_pair : [Instr.heartbeatReceive { beat0 with beat := 2 ^ 64 }, .heartbeatReceive { beat0 with mode := 6 },
    .heartbeatReceive { beat0 with role := 5 }, .heartbeatReceive { beat0 with epoch := 2 ^ 32 },
    .heartbeatReceive { beat0 with lanes := 2 ^ 96 }, .partnerExchange (some { twin with mode := 6 }),
    .partnerExchange (some { twin with serial := 2 ^ 64 }), .pairLinkUp 4, .frozenImageReceive { image0 with beat := 2 ^ 64 },
    .frozenImageReceive { image0 with crc := 2 ^ 32 }, .frozenImageReceive { image0 with points := [(2 ^ 22, 0, 0)] },
    .frozenImageReceive { image0 with points := [(0, 2 ^ 64, 0)] }, .frozenImageReceive { image0 with points := [(0, 0, 256)] },
    .frozenImageReceive { image0 with dio := [512] }, .frozenImageReceive { image0 with enc := [(0, 2)] },
    .trackingLineReceive (2 ^ 48) 0, .trackingLineReceive 1 0, .trackingLineReceive 0 (2 ^ 512), .outputCloseReceive (2 ^ 64) [],
    .outputCloseReceive 0 [(0, 2 ^ 64)], .trackingCloseReceive (2 ^ 64) 0 0 0 true {}, .trackingCloseReceive 0 0 (2 ^ 32) 0 true {},
    .trackingCloseReceive 0 0 0 (2 ^ 32) true {}, .trackingCloseReceive 0 0 0 0 true { mode := 6 },
    .trackingCloseReceive 0 0 0 0 true { published := [(0, 2 ^ 64)] }, .trackingCloseReceive 0 0 0 0 true { work := [(0, 2 ^ 64)] },
    .syncComplete none { forces := [(0, 2 ^ 64)] }, .syncComplete (some { prog with slices := [] }) {},
    .shadowCompare [(2 ^ 32, 0, 0)]].all (fun i => !i.wf) = true := by decide +kernel

/-- A frame with one operand out of its range. -/
def badFrames : List Frame :=
  [{ upFrame with ftype := 256 }, { upFrame with flags := 256 }, { upFrame with beat := 2 ^ 64 }, { upFrame with lane := 256 },
   { upFrame with frag := 256 }, { upFrame with epochLo := 65536 }, { upFrame with payload := [256] },
   { upFrame with crc := 2 ^ 32 }, { upFrame with points := [(0, 2 ^ 64)] }]

/-- A WSL-E prefix, and the same with one operand out of its range. -/
def prefix0 : WslPrefix := { magic := 0, ver := 0, dir := 0, station := 0, xseq := 0 }
def badPrefixes : List WslPrefix :=
  [{ prefix0 with magic := 65536 }, { prefix0 with ver := 256 }, { prefix0 with dir := 256 }, { prefix0 with station := 2 ^ 32 },
   { prefix0 with xseq := 2 ^ 32 }]

/-- The station link. -/
theorem test_wf_lanes : [Instr.delayRespReceive 0 256 0 0, .delayRespReceive 0 0 0 0 256, .delayRespReceive 0 0 0 256,
    .boardInserted 0 12 5 0 true 0 0, .boardInserted 0 0 256 0 true 0 0, .boardInserted 0 0 5 (2 ^ 32) true 0 0,
    .boardInserted 0 0 5 0 true (2 ^ 32) 0, .boardInserted 0 0 5 0 true 0 (2 ^ 64), .crossoverForward 0 [(0, 2 ^ 64)],
    .l3ResponseReceive 0 0 false 256 0 0, .l3ResponseReceive 0 0 false 0 256 0,
    .l3ResponseReceive 0 0 false 0 0 0 [256], .l3ResponseReceive 0 0 false 0 0 65536,
    .l3ResponseReceive 0 0 false 0 0 0 [] [(0, 2 ^ 64)], .wslFrameReceive 0 prefix0 upFrame 50000].all (fun i => !i.wf) = true ∧
    badFrames.all (fun f => !(Instr.upstreamFrameReceive 0 f).wf && !(Instr.laneProbe 0 (some f)).wf
      && !(Instr.wslFrameReceive 0 prefix0 f).wf) = true ∧
    badPrefixes.all (fun x => !(Instr.wslFrameReceive 0 x upFrame).wf) = true := by decide +kernel

/-- The field side, the clock and the CAN controllers. -/
theorem test_wf_field : [Instr.dioEdge 0 true 50000, .aoMiswire 0 (2 ^ 32), .aoReadback 0 (2 ^ 32), .countPreset 0 (2 ^ 64),
    .faSampleDeliver 0 { count := 2 ^ 23, deliver := 0 }, .ptpSyncReceive 0 (2 ^ 64) 0, .ptpSyncReceive 0 0 0 256, .ptpForward 0 false false 0 1 0, .ppsEdge 50000, .delayExchangeComplete 0 (2 ^ 64) 0,
    .announceReceive { ann with gm := 2 ^ 64 }, .announceReceive { ann with domain := 256 }, .announceReceive { ann with prio1 := 256 },
    .announceReceive { ann with clockClass := 256 }, .announceReceive { ann with prio2 := 256 }, .gmChange (2 ^ 64) 0,
    .canFrameReceive 0 { frame0 with id := 2 ^ 11 }, .canFrameReceive 0 { frame0 with len := 9 },
    .canFrameReceive 0 { frame0 with data := 65536 }, .canBusError 0 0 none 512 0, .canBusError 0 0 none 0 512].all
      (fun i => !i.wf) = true := by decide +kernel

/-- Events, security, power and the panel. -/
theorem test_wf_rest : [Instr.faultHandlerEnd true 2501, .wdService (2 ^ 32) (.byFault true), .wdEraseGuard 256, .dbgWindowWrite (2 ^ 512),
    .mpuBankSwap 0 [], .mpuFault 0 (2 ^ 48) 1 0 false 0, .powerdownStart (some { rail := 256, step := 1, done := 0 }), .powerdownStart (some { rail := 0, step := 6, done := 0 }),
    .crashDown 256, .trimIdleTimer 0 256 0, .trimIdleTimer 0 0 256,
    .trimWake 0 256 0, .dormantWake 256, .imageEraseComplete 20001 true,
    .supBankProgramDone 20001 false, .imageRejection 256].all (fun i => !i.wf) = true := by decide +kernel


/-! One command each, on the worked examples of the chapters: the expected values are those of the spec's tables. -/

/-- What a command leaves, seen through a property; false where it does not complete. -/
def after (c : Instr) (s : State) (f : State → Bool) : Bool :=
  match exec c s with
  | .next t => f t
  | _ => false

/-- The variable of the example in chapter 15: INDEX 74,565, home class T2, KIND 0, REAL, OPERATOR. -/
def var15 : ValDef :=
  { idx := 74565, home := 2, kind := 0, ty := .f32, attr := 1, lo := 0, hi := 0x447A0000, forceable := false, init := 0
    subst := .hold, fixedVal := 0, safeVal := 0, rangeLo := 0, rangeHi := 0, digital := false, station := none, statusObj := 0
    compare := 0 }

/-- The pair of that example, in beat 2,000,013 with epoch 9. -/
def pair15 : State :=
  { host.put F.beatIndex 2000013 with
    units := { pair := { hops := [], type := 1, epoch := 9 } }, rt := { prog := some { prog with vals := [var15] } } }

/-- Its request: 42.0 to the handle, 100 µs after the edge. -/
def write15 : Packet :=
  { ask [tlv 0x10 4 0x00812345, tlv 0x11 4 0x42280000] with seq := 57, epoch := 9, stamp := 20000 }

/-- The handle of the example is INDEX + class and kind above bit 22 (R82). -/
theorem test_handle : handleOf var15 = 0x00812345 := by decide +kernel

/-- VALUE_WRITE is accepted with APPLY_BEAT 2,000,040, STATUS 0x0001 and FLAGS 0x01. -/
theorem test_value_write : after (.valueWrite write15) pair15 (fun t => t.lcp.wire.any (fun r =>
    r.seq == 57 && r.status == 1 && r.flags == 1 && r.epoch == 9 && r.tlvs == [{ t := 0x8001, len := 8, val := 0x1E84A8 }]))
    = true := by decide +kernel

/-- The same request with the key at RUN is refused with KEY_LOCKED, and nothing is queued. -/
theorem test_value_write_key : after (.valueWrite write15) ((pair15.put F.key 0).put F.keyRunWrites 0) (fun t =>
    t.lcp.queue.isEmpty && t.lcp.wire.any (fun r => r.status == stKeyLocked)) = true := by decide +kernel

/-- Two writes of one target in one Freeze: the higher priority wins, the loser hears LATE CONFLICT with 41.0 and session 14. -/
theorem test_conflict : after .freezeCommandApply
    { pair15 with
      beat := { runs := true }
      lcp := { sessions := [{ one with id := 11, prio := 3 }, { one with id := 14, prio := 5 }], queue := [
        { op := .valueWrite, pkt := { write15 with sess := 11 }, prio := 3, beat := 2000012, apply := 2000013, epoch := 9 },
        { op := .valueWrite, prio := 5, beat := 2000012, apply := 2000013, epoch := 9
          pkt := { write15 with sess := 14, seq := 3, tlvs := [tlv 0x10 4 0x00812345, tlv 0x11 4 0x42240000] } }] } }
    (fun t => valAt t.rt.published 74565 == some 0x42240000 && (t.lcp.wire ++ t.lcp.heldReplies.map (fun h => h.reply)).any
      (fun r => r.sess == 11 && r.status == stConflict && r.tlvs == [tlv 0x8004 4 0x42240000, tlv 0x8006 4 14])) = true := by
  decide +kernel

/-- The watchdog example: O = 1,311 and C = 3,277 at the defaults. -/
def watched : State := { up with wd := { running := true } }

/-- Service at k = 1,311 is accepted; at k = 2 it is early, and step 1; in the tick of C the expiry wins. -/
theorem test_wd_edges : after (.wdService 1311 (.byFault true)) watched (fun t => t.get F.toll == 0 && t.get F.wdState == 0) = true ∧
    after (.wdService 2 (.byFault true)) watched (fun t => t.get F.toll == 1 && t.get F.wdLastCause == 2) = true ∧
    after (.wdService 3277 (.byFault true)) watched (fun t => t.get F.toll == 1 && t.get F.wdLastCause == 1) = true := by
  decide +kernel

/-- By its rule the Supervisor withholds a service before (O + C) / 2 = 2,294 and gives it after. -/
theorem test_wd_rule : watched.wdWritten 2294 (.byRule true) = none ∧ watched.wdWritten 2295 (.byRule true) = some true := by
  decide +kernel

/-- Regions 3 and 7 of the example in chapter 18, in bank A of core 0. -/
def fenced : State :=
  { up with sec := { regions := [(3, 2 ^ 64 * 8192 + 2 ^ 16 * 0x40008000 + 0xFF00 + 3),
    (7, 2 ^ 64 * 65536 + 2 ^ 16 * 0x40000000 + 0xFF00 + 7)] } }

/-- A task store of 64 bytes at 0x40007FE0 is refused in part 1, by region 3, at 0x40008000, cause 2. -/
theorem test_mpu : after (.mpuFault 0 0x40007FE0 64 1 false 0) fenced (fun t => t.get F.faultAddr == 0x40008000 &&
    t.get F.mfRegion == 3 && t.get F.mfPart == 1 && t.get F.mfCause == 2 && t.mem == []) = true := by decide +kernel

/-- The flow loop FIC of chapter 5: gain 0.5, reset 5 s, set-point 80, f 60. -/
def fic : LoopRt :=
  { d := { loop0 with cls := 2, gain := 0x3F000000, resetTime := 0x40A00000, pvHi := 0x42C80000 }
    num := 0, mode := 2, req := 2, target := 0, working := 0x42A00000, out := 0x42700000, f := 0x42700000, last := 2 }

/-- Its execution k + 2: pv 79.5, rf 60: candidate 60.25. -/
theorem test_pid : (pidStep fic (159 / 2) 60).cand = 0x42710000 := by decide +kernel

/-- The temperature loop of chapter 5: 2.0 °C/s upward, from 100 to 120 °C. -/
def ramped : LoopRt :=
  { d := { loop0 with cls := 1, rampUp := 0x40000000, spHi := 0x43480000 }
    num := 0, mode := 2, req := 2, target := 0x42F00000, working := 0x42C80000, out := 0 }

/-- In a cycle of 1 ms it moves by 0.002 °C. -/
theorem test_ramp : (rampSp ramped (classDt 1)).working = toF32 (100 + 2 / 1000) := by decide +kernel

/-- FA2 with rate 6 and 63 taps: D = 600.737 µs, 78 unsettled samples. -/
theorem test_filter_delay : faDelay 6 63 0 = 600737 ∧ faSettling 63 = 78 := by decide +kernel

/-- The holdover bound after 0.375 s is 59 ns, after 600 s 15,950 ns; it passes 1 µs at 37.86 s. -/
theorem test_holdover : boundNs 1500 = 59 ∧ boundNs 2400000 / 10 = 1595 ∧ boundOver 151400 = false ∧ boundOver 151440 = true := by
  decide +kernel

/-- Z at 31.125 µs and a falling DIO5 at 98.440 µs: 13,463; both in one sample: 0, COINCIDENT; a stop alone: ORPHAN_STOP 1. -/
def cam (c : CapRt) : State := capped [(F.capMode, 2, 2), (F.startSrc, 2, 1), (F.stopSrc, 2, 2)] c

/-- The first beat of that example. -/
theorem test_interval : after (.captureEvent 2 false true 98440) (cam { u := 2, start := some 31125 }) (fun t =>
    (t.cap 2).queue.map (fun r => r.val) == [13463]) = true := by decide +kernel

/-- The other two. -/
theorem test_interval_edges : after (.captureEvent 2 true true 40005) (cam { u := 2 }) (fun t =>
      (t.cap 2).queue.map (fun r => (r.val, r.coincident)) == [(0, true)]) = true ∧
    after (.captureEvent 2 false true 60000) (cam { u := 2 }) (fun t =>
      t.get F.orphanStop 2 == 1 && (t.cap 2).queue.isEmpty) = true := by decide +kernel

/-- The Journal and frames are checked by CRC-32C: its published check value over the digits 1 to 9. -/
theorem test_crc32c : crc32c [0x31, 0x32, 0x33, 0x34, 0x35, 0x36, 0x37, 0x38, 0x39] = 0xE3069283 := by decide +kernel

/-- Control in reverse: the quadrature sequence 00, 10, 11, 01 counts one way and back the other (R262). -/
theorem test_quadrature : (encStep 0 false false true false, encStep 0 true false true true, encStep 0 true true false true,
    encStep 0 false true true true) = (1, 1, 1, -1) := by decide +kernel

/-- A STANDBY buffers a line of tracking, within the 48 bits of the address space. -/
theorem test_tracking_line : after (.trackingLineReceive (2 ^ 48 + 64) 1) standby (fun t => t.pair.rx == [(64, 1)]) = true := by
  decide +kernel

/-- CRC-8 and CRC-16 of the digits 1 to 9: the published check values 0xF4 (R202) and 0x29B1 (R222). -/
theorem test_small_crcs : crc8 [0x31, 0x32, 0x33, 0x34, 0x35, 0x36, 0x37, 0x38, 0x39] = 0xF4 ∧
    crc16 [0x31, 0x32, 0x33, 0x34, 0x35, 0x36, 0x37, 0x38, 0x39] = 0x29B1 := by decide +kernel

/-- An empty queue idles, and the first command of a queue leaves it. -/
theorem test_step : (match step up with | .next t => t == up | _ => false) = true ∧ (match step { up with pending := [.touchPage, .touchBack] } with
    | .next t => t.pending == [.touchBack]
    | _ => false) = true := by decide +kernel

/-- No word spells a command, so nothing is put into the queue. -/
theorem test_no_words : decodeTableWord 16 3 = none ∧ up.withFetchWord 16 3 = up := by decide +kernel


/-! Witnesses: for each statement with hypotheses, and for each of its clauses, operands and a state that meet them together. -/

/-- Witness of EveryStepKeepsTheInvariant. -/
theorem test_witness_EveryStepKeepsTheInvariant : ∃ s t : State, s.Inv ∧ StepsTo s t :=
  ⟨{ up with pending := [.touchPage] }, _, by unfold State.Inv State.Canonical State.DriveSafe State.EdgesClean; decide +kernel, rfl⟩

/-- Witness of CommandsChangeOnlyTheirParts. -/
theorem test_witness_CommandsChangeOnlyTheirParts : ∃ (c : Instr) (s t : State), exec c s = .next t := ⟨.touchPage, up, _, rfl⟩

/-- Witness of OnlyTheseCommandsChangeModeOrRole. -/
theorem test_witness_OnlyTheseCommandsChangeModeOrRole : ∃ (c : Instr) (s t : State),
    changesMode c = false ∧ s.ModeFits ∧ exec c s = .next t :=
  ⟨.touchPage, up, _, by decide +kernel, by unfold State.ModeFits; decide +kernel, rfl⟩


/-- Witness of TasksEndOrOverrun's clauses for each cluster: one that runs a program of its own, and one that runs none. -/
theorem test_witness_ForEachCluster : ∃ (c : Fin 3) (s t : State),
    c ≠ 0 ∧ s.splitRuns c.val = true ∧ t.splitRuns c.val = false :=
  ⟨1, split true, up, by decide +kernel⟩

/-- Witnesses of StepCarriesOutTheFrontCommand. -/
theorem test_witness_StepCarriesOutTheFrontCommand :
    (∃ c : Instr, ∃ rest : List Instr, ∃ s : State, s.pending = c :: rest) ∧
    (∃ s : State, s.pending = []) :=
  ⟨⟨.touchPage, [], { up with pending := [.touchPage] }, by decide +kernel⟩,
   ⟨up, by decide +kernel⟩⟩

/-- Witnesses of TheExpectedEpochDecidesAcceptance. -/
theorem test_witness_TheExpectedEpochDecidesAcceptance :
    (∃ g : Option Program, ∃ r ∈ requests g, ∃ p : Packet, ∃ x : Session, ∃ u : UnitSel, ∃ s : State, Arrives p x s ∧ resolve s p = .unit u ∧ answersFor u s = true ∧ ((p.epoch = 0 ∧ epochFree r.1 p = false) ∨ (p.epoch ≠ 0 ∧ p.epoch ≠ s.epochOf u))) ∧
    (∃ g : Option Program, ∃ r ∈ requests g, ∃ p : Packet, ∃ x : Session, ∃ u : UnitSel, ∃ s : State, Arrives p x s ∧ resolve s p = .unit u ∧ answersFor u s = true ∧ ((p.epoch = 0 ∧ epochFree r.1 p = true) ∨ (p.epoch ≠ 0 ∧ p.epoch = s.epochOf u)) ∧ opModeOk r.1 u s = true) :=
  ⟨⟨none, (.modeSet, .modeSet), by simp [requests], { ask [] with epoch := 9 }, one, .pair, host, arrives_of rfl (by decide +kernel), by decide +kernel⟩,
   ⟨none, (.modeGet, .modeGet), by simp [requests], { ask [] with epoch := 0 }, one, .pair, host, arrives_of rfl (by decide +kernel), by decide +kernel⟩⟩

/-- Witnesses of SessionOpcodesNameTheRoot. -/
theorem test_witness_SessionOpcodesNameTheRoot :
    (∃ r ∈ sessionRequests, ∃ p : Packet, ∃ x : Session, ∃ s : State, Arrives p x s ∧ p.hopLen = 0) ∧
    (∃ p : Packet, ∃ s : State, Framed p s ∧ s.session? p.sess = none ∧ p.sess = 0) ∧
    (∃ r ∈ sessionRequests, ∃ p : Packet, ∃ x : Session, ∃ s : State, Arrives p x s ∧ p.hopLen ≠ 0) ∧
    (∃ p : Packet, ∃ s : State, Framed p s ∧ s.session? p.sess = none ∧ p.sess = 0 ∧ p.hopLen ≠ 0) :=
  ⟨⟨(.ping, .ping), by simp [sessionRequests], ask [], one, host, arrives_of rfl (by decide +kernel), by decide +kernel⟩,
   ⟨{ ask [] with sess := 0 }, up, framed_of rfl (by decide +kernel), by decide +kernel⟩,
   ⟨(.ping, .ping), by simp [sessionRequests], askOwn [], one, host, arrives_of rfl (by decide +kernel), by decide +kernel⟩,
   ⟨{ askOwn [] with sess := 0 }, up, framed_of rfl (by decide +kernel), by decide +kernel⟩⟩

/-- Witnesses of RepeatedAndStrayRequestsDoNothing. -/
theorem test_witness_RepeatedAndStrayRequestsDoNothing :
    (∃ g : Option Program, ∃ r ∈ sessionRequests ++ requests g, ∃ p : Packet, ∃ x : Session, ∃ q : Reply, ∃ s : State, InSession p x s ∧ x.cache.find? (fun r => r.seq == p.seq) = some q) ∧
    (∃ g : Option Program, ∃ r ∈ sessionRequests ++ requests g, ∃ p : Packet, ∃ x : Session, ∃ s : State, InSession p x s ∧ x.cache.find? (fun r => r.seq == p.seq) = none ∧ p.seq ≤ x.high) ∧
    (∃ g : Option Program, ∃ r ∈ sessionRequests ++ requests g, ∃ p : Packet, ∃ s : State, Framed p s ∧ (∀ x ∈ s.lcp.sessions, x.id ≠ p.sess)) ∧
    (∃ g : Option Program, ∃ r ∈ sessionRequests ++ requests g, ∃ p : Packet, ∃ x : Session, ∃ s : State, Framed p s ∧ s.session? p.sess = some x ∧ 64 ≤ s.awaiting p.sess) ∧
    (∃ g : Option Program, ∃ r ∈ sessionRequests ++ requests g, ∃ p : Packet, ∃ s : State, p.magic ≠ 0x434C ∧ s.session? p.sess = none) :=
  ⟨⟨none, (.ping, .ping), by simp [sessionRequests, requests], ask [], { one with cache := [answer] }, answer, { host with lcp := { sessions := [{ one with cache := [answer] }] } }, inSession_of rfl (by decide +kernel), by decide +kernel⟩,
   ⟨none, (.modeSet, .modeSet), by simp [sessionRequests, requests], ask [], { one with high := 1 }, { host with lcp := { sessions := [{ one with high := 1 }] } }, inSession_of rfl (by decide +kernel), by decide +kernel⟩,
   ⟨none, (.ping, .ping), by simp [sessionRequests, requests], ask [], up, framed_of rfl (by decide +kernel), by decide +kernel⟩,
   ⟨none, (.ping, .ping), by simp [sessionRequests, requests], ask [], one, { host with lcp := { sessions := [one], mail := List.replicate 64 mailOf } }, framed_of rfl (by decide +kernel), by decide +kernel⟩,
   ⟨none, (.ping, .ping), by simp [sessionRequests, requests], { ask [] with magic := 0 }, up, by decide +kernel⟩⟩

/-- Witnesses of ReadsAnswerAndChangeNothing, part 1. -/
theorem test_witness_ReadsAnswerAndChangeNothing_1 :
    (∃ p : Packet, ∃ u : UnitSel, ∃ s : State, Passes .ping p (noChk p) u s) ∧
    (∃ p : Packet, ∃ u : UnitSel, ∃ s : State, Passes .modeGet p (noChk p) u s) ∧
    (∃ p : Packet, ∃ u : UnitSel, ∃ s : State, Passes .unitInfo p (noChk p) u s) ∧
    (∃ p : Packet, ∃ u : UnitSel, ∃ s : State, Passes .unitEpochGet p (noChk p) u s) ∧
    (∃ p : Packet, ∃ u : UnitSel, ∃ s : State, Passes .unitList p (noChk p) u s) ∧
    (∃ p : Packet, ∃ u : UnitSel, ∃ s : State, Passes .valueRead p (valueReadChk p) u s) ∧
    (∃ p : Packet, ∃ u : UnitSel, ∃ s : State, Passes .loopRead p (loopReadChk p) u s) ∧
    (∃ p : Packet, ∃ u : UnitSel, ∃ s : State, Passes .captureRead p ((fun p _ _ => needTlv p 0x0030) p) u s) :=
  ⟨⟨ask [], .pair, host, by unfold Passes; decide +kernel⟩,
   ⟨ask [], .pair, host, by unfold Passes; decide +kernel⟩,
   ⟨askOwn [], .own, host, by unfold Passes; decide +kernel⟩,
   ⟨ask [], .pair, host, by unfold Passes; decide +kernel⟩,
   ⟨ask [], .pair, active, by unfold Passes; decide +kernel⟩,
   ⟨ask [tlv 0x10 4 1], .pair, run, by unfold Passes; decide +kernel⟩,
   ⟨ask [tlv 0x1A 2 0, tlv 0x1B 8 1], .pair, looped, by unfold Passes; decide +kernel⟩,
   ⟨ask [tlv 0x30 1 0], .pair, host, by unfold Passes; decide +kernel⟩⟩

/-- Witnesses of ReadsAnswerAndChangeNothing, part 2. -/
theorem test_witness_ReadsAnswerAndChangeNothing_2 :
    (∃ p : Packet, ∃ u : UnitSel, ∃ s : State, Passes .ioDiagRead p (ioDiagChk p) u s) ∧
    (∃ p : Packet, ∃ u : UnitSel, ∃ s : State, Passes .pairStatus p (noChk p) u s) ∧
    (∃ p : Packet, ∃ u : UnitSel, ∃ s : State, Passes .healthReport p (noChk p) u s) ∧
    (∃ p : Packet, ∃ u : UnitSel, ∃ s : State, Passes .timeStatus p (noChk p) u s) ∧
    (∃ p : Packet, ∃ u : UnitSel, ∃ s : State, Passes .journalStatus p (noChk p) u s) ∧
    (∃ p : Packet, ∃ u : UnitSel, ∃ s : State, Passes .laneStatus p ((fun p _ _ => needTlv p 0x0040) p) u s) ∧
    (∃ p : Packet, ∃ u : UnitSel, ∃ s : State, Passes .imageStatus p (noChk p) u s) ∧
    (∃ p : Packet, ∃ u : UnitSel, ∃ s : State, Passes .powerStats p (noChk p) u s) :=
  ⟨⟨ask [tlv 0x10 4 0x06000003], .pair, run, by unfold Passes; decide +kernel⟩,
   ⟨ask [], .pair, active, by unfold Passes; decide +kernel⟩,
   ⟨ask [], .pair, host, by unfold Passes; decide +kernel⟩,
   ⟨ask [], .pair, host, by unfold Passes; decide +kernel⟩,
   ⟨ask [], .pair, host, by unfold Passes; decide +kernel⟩,
   ⟨ask [tlv 0x40 1 0xFF], .pair, host, by unfold Passes; decide +kernel⟩,
   ⟨ask [], .pair, host, by unfold Passes; decide +kernel⟩,
   ⟨ask [], .pair, host, by unfold Passes; decide +kernel⟩⟩

/-- Witnesses of ReadsAnswerAndChangeNothing, part 3. -/
theorem test_witness_ReadsAnswerAndChangeNothing_3 :
    (∃ p : Packet, ∃ u : UnitSel, ∃ s : State, Passes .klStatus p (noChk p) u s) ∧
    (∃ p : Packet, ∃ u : UnitSel, ∃ s : State, Passes .recorderRead p (pagedChk p) u s) ∧
    (∃ p : Packet, ∃ u : UnitSel, ∃ s : State, Passes .eventRead p (pagedChk p) u s) ∧
    (∃ p : Packet, ∃ u : UnitSel, ∃ s : State, Passes .auditRead p (pagedChk p) u s) :=
  ⟨⟨ask [], .pair, host, by unfold Passes; decide +kernel⟩,
   ⟨ask [tlv 0x33 4 0, tlv 0x26 4 64], .pair, host, by unfold Passes; decide +kernel⟩,
   ⟨ask [tlv 0x33 4 0, tlv 0x26 4 64], .pair, host, by unfold Passes; decide +kernel⟩,
   ⟨ask [tlv 0x33 4 0, tlv 0x26 4 64], .pair, host, by unfold Passes; decide +kernel⟩⟩

/-- Witnesses of CommandsWaitForTheirBeat, part 1. -/
theorem test_witness_CommandsWaitForTheirBeat_1 :
    (∃ p : Packet, ∃ u : UnitSel, ∃ s : State, Passes .modeSet p (modeSetChk p) u s) ∧
    (∃ p : Packet, ∃ u : UnitSel, ∃ s : State, Passes .restart p (restartChk p) u s) ∧
    (∃ p : Packet, ∃ u : UnitSel, ∃ s : State, Passes .valueOwn p (valueOwnChk p) u s) ∧
    (∃ p : Packet, ∃ u : UnitSel, ∃ s : State, Passes .valueRelease p (valueReleaseChk p) u s) ∧
    (∃ p : Packet, ∃ u : UnitSel, ∃ s : State, Passes .shadowStart p ((fun _ _ s => shadowStartRules s) p) u s) ∧
    (∃ p : Packet, ∃ u : UnitSel, ∃ s : State, Passes .revert p ((fun _ _ s => revertRules s) p) u s) ∧
    (∃ p : Packet, ∃ u : UnitSel, ∃ s : State, Passes .changeConfirm p ((fun _ _ s => changeConfirmRules s) p) u s) ∧
    (∃ p : Packet, ∃ u : UnitSel, ∃ s : State, Passes .resyncStandby p ((fun _ _ s => resyncRules s) p) u s) :=
  ⟨⟨ask [tlv 0x17 1 2], .pair, host, by unfold Passes; decide +kernel⟩,
   ⟨ask [tlv 0x18 1 0], .pair, host, by unfold Passes; decide +kernel⟩,
   ⟨ask [tlv 0x10 4 1], .pair, run, by unfold Passes; decide +kernel⟩,
   ⟨ask [tlv 0x10 4 1], .pair, run, by unfold Passes; decide +kernel⟩,
   ⟨ask [], .pair, { active with pair := { active.pair with partnerStaged := true } }, by unfold Passes; decide +kernel⟩,
   ⟨ask [], .pair, active.put F.changePending 1, by unfold Passes; decide +kernel⟩,
   ⟨ask [], .pair, host.put F.changePending 1, by unfold Passes; decide +kernel⟩,
   ⟨ask [], .pair, active, by unfold Passes; decide +kernel⟩⟩

/-- Witnesses of CommandsWaitForTheirBeat, part 2. -/
theorem test_witness_CommandsWaitForTheirBeat_2 :
    (∃ p : Packet, ∃ u : UnitSel, ∃ s : State, Passes .chimeSet p (chimeSetChk p) u s) ∧
    (∃ p : Packet, ∃ u : UnitSel, ∃ s : State, Passes .rimshotArm p (rimshotArmChk p) u s) ∧
    (∃ p : Packet, ∃ u : UnitSel, ∃ s : State, Passes .ioConfigSet p ((fun p => ioConfigChk p true) p) u s) ∧
    (∃ p : Packet, ∃ u : UnitSel, ∃ s : State, Passes .canObjSet p (canObjSetChk p) u s) ∧
    (∃ p : Packet, ∃ u : UnitSel, ∃ s : State, Passes .dormantEnter p ((fun _ => dormantEnterChk) p) u s) ∧
    (∃ p : Packet, ∃ u : UnitSel, ∃ s : State, Passes .objWrite p (objWriteChk p true) u s ∧ boardUnit u s = none) ∧
    (∃ p : Packet, ∃ u : UnitSel, ∃ s : State, Passes .valueWrite p (valueWriteChk p) u s) ∧
    (∃ p : Packet, ∃ u : UnitSel, ∃ s : State, Passes .constWrite p (constWriteChk p) u s) :=
  ⟨⟨ask [tlv 0x2B 1 2, tlv 0x2C 8 1000, tlv 0x2D 8 0, tlv 0x2E 4 100], .pair, host, by unfold Passes; decide +kernel⟩,
   ⟨ask [tlv 0x2B 1 3, tlv 0x2F 8 1001000000], .pair, host, by unfold Passes; decide +kernel⟩,
   ⟨ask [tlv 0x14 4 0x00022100, tlv 0x15 1 3], .pair, host, by unfold Passes; decide +kernel⟩,
   ⟨ask [tlv 0x41 2 0, tlv 0x15 12 (2 ^ 64)], .pair, host, by unfold Passes; decide +kernel⟩,
   ⟨ask [], .pair, { host.put F.mode 2 with pair := { single := true } }, by unfold Passes; decide +kernel⟩,
   ⟨ask [tlv 0x14 4 0x00011000, tlv 0x15 1 1], .pair, host, by unfold Passes; decide +kernel⟩,
   ⟨ask [tlv 0x10 4 1, tlv 0x11 4 7], .pair, run, by unfold Passes; decide +kernel⟩,
   ⟨ask [tlv 0x10 4 0x04000002, tlv 0x11 4 7], .pair, run, by unfold Passes; decide +kernel⟩⟩

/-- Witnesses of CommandsWaitForTheirBeat, part 3. -/
theorem test_witness_CommandsWaitForTheirBeat_3 :
    (∃ p : Packet, ∃ u : UnitSel, ∃ s : State, Passes .forceSet p (forceSetChk p) u s) ∧
    (∃ p : Packet, ∃ u : UnitSel, ∃ s : State, Passes .forceClear p (forceClearChk p) u s) ∧
    (∃ p : Packet, ∃ u : UnitSel, ∃ s : State, Passes .loopModeSet p (loopModeSetChk p) u s) ∧
    (∃ p : Packet, ∃ u : UnitSel, ∃ s : State, Passes .loopSpSet p (loopSpSetChk p) u s) :=
  ⟨⟨ask [tlv 0x10 4 0x06000003, tlv 0x11 1 1], .pair, run, by unfold Passes; decide +kernel⟩,
   ⟨ask [tlv 0x10 4 0xFFFFFFFF], .pair, run, by unfold Passes; decide +kernel⟩,
   ⟨ask [tlv 0x1A 2 0, tlv 0x17 1 0], .pair, looped, by unfold Passes; decide +kernel⟩,
   ⟨ask [tlv 0x1A 2 0, tlv 0x1C 1 0, tlv 0x11 4 0], .pair, looped, by unfold Passes; decide +kernel⟩⟩

/-- Witnesses of CommandsThatNameABeatOrAnswerLate. -/
theorem test_witness_CommandsThatNameABeatOrAnswerLate :
    (∃ p : Packet, ∃ u : UnitSel, ∃ s : State, Passes .promote p ((fun p u s => Chk.all [targetBeatChk p s, promoteRules p u s]) p) u s) ∧
    (∃ p : Packet, ∃ u : UnitSel, ∃ s : State, Passes .switchover p ((fun p _ s => Chk.all [targetBeatChk p s, switchoverRules s]) p) u s) ∧
    (∃ p : Packet, ∃ u : UnitSel, ∃ s : State, Passes .gong p (gongChk p) u s) ∧
    (∃ p : Packet, ∃ u : UnitSel, ∃ s : State, Passes .loopCoeffSet p (loopCoeffSetChk p) u s) ∧
    (∃ p : Packet, ∃ u : UnitSel, ∃ s : State, Passes .securityStateSet p (securityStateSetChk p) u s) :=
  ⟨⟨ask [], .pair, active.put F.shState 2, by unfold Passes; decide +kernel⟩,
   ⟨ask [tlv 0x8002 8 4001], .pair, active, by unfold Passes; decide +kernel⟩,
   ⟨ask [tlv 0x8002 8 4041, tlv 0x800F 2 7], .pair, host.put F.gongGroup 7, by unfold Passes; decide +kernel⟩,
   ⟨ask [tlv 0x1A 2 0, tlv 0x1B 8 6], .pair, looped, by unfold Passes; decide +kernel⟩,
   ⟨ask [tlv 0x3E 1 0], .pair, host, by unfold Passes; decide +kernel⟩⟩

/-- Witnesses of HelloOpensOrResumesASession. -/
theorem test_witness_HelloOpensOrResumesASession :
    (∃ p : Packet, ∃ s : State, ∃ u : UnitSel, admission .hello p s = .go u ∧ p.hopLen = 0 ∧ helloChk p = .ok ∧ p.service = true ∧ p.has 0x800D = false) ∧
    (∃ p : Packet, ∃ s : State, HelloGranted p s) :=
  ⟨⟨{ ask [tlv 0x1E 4 1, tlv 0x1D 1 3] with sess := 0, service := true }, up, .own, by decide +kernel⟩,
   ⟨{ ask [tlv 0x1E 4 1, tlv 0x1D 1 3] with sess := 0 }, up, ⟨⟨.own, by decide +kernel⟩, by decide +kernel, by decide +kernel, by decide +kernel⟩⟩⟩

/-- Witnesses of SessionsAreHeldAndReleased. -/
theorem test_witness_SessionsAreHeldAndReleased :
    (∃ p : Packet, ∃ u : UnitSel, ∃ s : State, Passes .bye p (noChk p) u s ∧ p.tlvs = []) ∧
    (∃ id : ℕ, ∃ s : State, ∃ x : Session, s.session? id = some x) ∧
    (∃ id : ℕ, ∃ s : State, ∃ x : Session, s.session? id = some x ∧ TimeIsUp s x.last (4000 * x.idle)) ∧
    (∃ id : ℕ, ∃ s : State, ∃ x : Session, s.lcp.sessions.find? (fun x => x.id == id && x.held) = some x ∧ TimeIsUp s x.last (4000 * x.grace)) ∧
    (∃ p : Packet, ∃ u : UnitSel, ∃ s : State, Passes .sessionPriority p (fun _ _ => needTlv p 0x001D) u s) :=
  ⟨⟨ask [], .pair, host, by unfold Passes; decide +kernel⟩,
   ⟨1, host, one, by decide +kernel⟩,
   ⟨1, still, one, by unfold TimeIsUp; decide +kernel⟩,
   ⟨1, { still with lcp := { sessions := [{ one with held := true }] } }, { one with held := true }, by unfold TimeIsUp; decide +kernel⟩,
   ⟨ask [tlv 0x1D 1 2], .pair, host, by unfold Passes; decide +kernel⟩⟩

/-- Witnesses of TransportTimersDropWhatTheyWatch. -/
theorem test_witness_TransportTimersDropWhatTheyWatch :
    (∃ s : State, TimeIsUp s s.lcp.nonceAt 120000) ∧
    (∃ s : State, (¬TimeIsUp s s.lcp.nonceAt 120000)) ∧
    (∃ f : Forward, ∃ id : ℕ, ∃ seq : ℕ, ∃ s : State, s.lcp.forwards.filter (fun g => g.req.sess == id && g.req.seq == seq) = [f] ∧ TimeIsUp s f.beat f.limit) :=
  ⟨⟨{ still with lcp := { still.lcp with nonce := some 5 } }, by unfold TimeIsUp; decide +kernel⟩,
   ⟨{ host with lcp := { host.lcp with nonce := some 5 } }, by unfold TimeIsUp; decide +kernel⟩,
   ⟨{ beat := 0, limit := 10, req := answer }, 1, 1, { still with lcp := { still.lcp with forwards := [{ beat := 0, limit := 10, req := answer }] } }, by unfold TimeIsUp; decide +kernel⟩⟩

/-- Witnesses of GongsAreSentThriceAndScheduleTheStop. -/
theorem test_witness_GongsAreSentThriceAndScheduleTheStop :
    (∃ s : State, ∃ g : GongOut, ∃ rest : List GongOut, (s.get F.role = 1 ∨ s.get F.role = 2) ∧ s.lcp.gongOut = g :: rest) ∧
    (∃ d : GongDatagram, ∃ s : State, s.get F.gongGroup ≠ 0 ∧ d.group = s.get F.gongGroup ∧ d.known = true ∧ (d.signer, d.serial) ∉ s.lcp.gongSeen ∧ (∀ g ∈ s.lcp.gongSeen, g.1 = d.signer → g.2 ≤ d.serial) ∧ s.eligible d.stamp ≤ d.target) :=
  ⟨⟨{ host.put F.gongPorts 0x10 with lcp := { host.lcp with gongOut := [{ serial := 1, group := 7, target := 5000, left := 3 }] } }, { serial := 1, group := 7, target := 5000, left := 3 }, [], by decide +kernel⟩,
   ⟨{ group := 7, target := 4001, serial := 2, signer := 3, signature := 0, stamp := 100, known := true }, host.put F.gongGroup 7, by decide +kernel⟩⟩

/-- Witnesses of MailboxExchangesEndInAReply. -/
theorem test_witness_MailboxExchangesEndInAReply :
    (∃ lane : Fin 96, ∃ sub : ℕ, ∃ n : ℕ, ∃ op : ℕ, ∃ status : ℕ, ∃ len : ℕ, ∃ data : ℕ, ∃ s : State, ∃ m : MailReq, s.lcp.mail.filter (fun m => m.lane == lane.val && m.sub == sub && m.mbSeq == n) = [m] ∧ m.mbOp = op ∧ (status ≠ 0 ∨ (op ≠ 1 ∧ m.rest = 0) ∨ (op = 1 ∧ len ≠ s.mailRoom lane.val)) ∧ (m.pkt.epoch = 0 ∨ m.pkt.epoch = s.epochOf m.unit)) ∧
    (∃ lane : Fin 96, ∃ sub : ℕ, ∃ n : ℕ, ∃ op : ℕ, ∃ len : ℕ, ∃ data : ℕ, ∃ s : State, ∃ m : MailReq, s.lcp.mail.filter (fun m => m.lane == lane.val && m.sub == sub && m.mbSeq == n) = [m] ∧ m.mbOp = op ∧ ((op ≠ 1 ∧ m.rest ≠ 0) ∨ (op = 1 ∧ len = s.mailRoom lane.val ∧ m.got + len < 65280))) ∧
    (∃ lane : Fin 96, ∃ sub : ℕ, ∃ n : ℕ, ∃ s : State, ∃ m : MailReq, s.lcp.mail.find? (fun m => m.lane == lane.val && m.sub == sub && m.mbSeq == n) = some m ∧ (m.pkt.epoch = 0 ∨ m.pkt.epoch = s.epochOf m.unit)) :=
  ⟨⟨0, 0, 1, 1, 0, 4, 7, { host with lcp := { host.lcp with mail := [mailOf] } }, mailOf, by decide +kernel⟩,
   ⟨0, 0, 1, 1, 1012, 7, { host with lcp := { host.lcp with mail := [mailOf] } }, mailOf, by decide +kernel⟩,
   ⟨0, 0, 1, { host with lcp := { host.lcp with mail := [mailOf] } }, mailOf, by decide +kernel⟩⟩

/-- Witnesses of RequestsServedOnReceiptDoWhatTheyName, part 1. -/
theorem test_witness_RequestsServedOnReceiptDoWhatTheyName_1 :
    (∃ p : Packet, ∃ u : UnitSel, ∃ s : State, Passes .recorderFreeze p (freezeChk p) u s) ∧
    (∃ p : Packet, ∃ u : UnitSel, ∃ s : State, Passes .recorderThaw p (thawChk p) u s) ∧
    (∃ p : Packet, ∃ u : UnitSel, ∃ s : State, Passes .recorderClear p (clearChk p) u s) ∧
    (∃ p : Packet, ∃ u : UnitSel, ∃ s : State, Passes .rollNow p (rollChk p) u s) ∧
    (∃ p : Packet, ∃ u : UnitSel, ∃ s : State, Passes .eventSubscribe p (subscribeChk p) u s) ∧
    (∃ p : Packet, ∃ u : UnitSel, ∃ s : State, Passes .powerStatus p (noChk p) u s) ∧
    (∃ p : Packet, ∃ u : UnitSel, ∃ s : State, Passes .objRead p (objReadChk p) u s ∧ readMailbox p u (s.noteSeq p) = none) ∧
    (∃ p : Packet, ∃ u : UnitSel, ∃ s : State, ∃ k : ℕ, ∃ sub : ℕ, ∃ mb : ℕ, ∃ obj : ℕ, ∃ len : ℕ, ∃ data : ℕ, Passes .objRead p (objReadChk p) u s ∧ readMailbox p u (s.noteSeq p) = some (k, sub, mb, obj, len, data) ∧ s.mailBusy k sub = false) :=
  ⟨⟨ask [], .pair, host, by unfold Passes; decide +kernel⟩,
   ⟨ask [], .pair, puts host [(F.recFrozen, 0, 1), (F.frozenBy, 0, 1)], by unfold Passes; decide +kernel⟩,
   ⟨ask [], .pair, host, by unfold Passes; decide +kernel⟩,
   ⟨ask [], .pair, host, by unfold Passes; decide +kernel⟩,
   ⟨ask [tlv 0x42 64 7, tlv 0x43 1 2], .pair, host, by unfold Passes; decide +kernel⟩,
   ⟨ask [], .pair, host, by unfold Passes; decide +kernel⟩,
   ⟨ask [tlv 0x14 4 0x00011000], .pair, host, by unfold Passes; decide +kernel⟩,
   ⟨{ ask [tlv 0x14 4 0x00011000] with hopLen := 1, hops := [0x0100] }, .slot 0, { puts host [(F.laneMode, 0, 1), (F.laneState, 0, 2), (F.laneLink, 0, 1)] with units := { others := [{ hops := [0x0100], type := 0x10 }] } }, 0, 0xFFFF, 1, 0x00011000, 0, 0, by unfold Passes; decide +kernel⟩⟩

/-- Witnesses of RequestsServedOnReceiptDoWhatTheyName, part 2. -/
theorem test_witness_RequestsServedOnReceiptDoWhatTheyName_2 :
    ∃ p : Packet, ∃ u : UnitSel, ∃ s : State, Passes .shadowCompareGet p (shadowGetChk p) u s :=
  ⟨ask [tlv 0x8008 8 0, tlv 0x26 4 64, tlv 0x28 4 1], .pair, { run with pair := { cmp := [{ handle := 1, intended := false, unaccepted := true, first := 1, last := 2, count := 2, deviation := 0 }] } }, by unfold Passes; decide +kernel⟩

/-- Witnesses of ImagesAndProgramsAreStagedByChunks. -/
theorem test_witness_ImagesAndProgramsAreStagedByChunks :
    (∃ p : Packet, ∃ u : UnitSel, ∃ s : State, Passes .imageHeader p (imageHeaderChk p) u s ∧ s.get F.wdState ≠ 1) ∧
    (∃ s : State, ∃ held : ℕ, s.img.erase.isSome = true ∧ s.wd.erase = 2 ∧ s.get F.guardUsed ≤ 25000) ∧
    (∃ s : State, ∃ held : ℕ, ∃ p : Packet, ∃ h : ℕ, s.img.erase = some (p, h) ∧ s.wd.erase = 2) ∧
    (∃ p : Packet, ∃ u : UnitSel, ∃ s : State, ∃ x : Transfer, Passes .imageChunk p (fun _ s => chunkChk p true s) u s ∧ s.transferOf p true = some x) ∧
    (∃ p : Packet, ∃ u : UnitSel, ∃ s : State, Passes .programStage p (programStageChk p) u s) ∧
    (∃ p : Packet, ∃ prog : Option Program, ∃ u : UnitSel, ∃ s : State, ∃ x : Transfer, Passes .programChunk p (fun _ s => chunkChk p false s) u s ∧ s.transferOf p false = some x ∧ x.got + chunkLen p < x.total) ∧
    (∃ p : Packet, ∃ g : Program, ∃ u : UnitSel, ∃ s : State, ∃ x : Transfer, Passes .programChunk p (fun _ s => chunkChk p false s) u s ∧ s.transferOf p false = some x ∧ x.total ≤ x.got + chunkLen p ∧ programDetail g (s.get F.hwIssue - 1) = 0) ∧
    (∃ p : Packet, ∃ g : Program, ∃ u : UnitSel, ∃ s : State, ∃ x : Transfer, Passes .programChunk p (fun _ s => chunkChk p false s) u s ∧ s.transferOf p false = some x ∧ x.total ≤ x.got + chunkLen p ∧ programDetail g (s.get F.hwIssue - 1) ≠ 0) :=
  ⟨⟨ask [tlv 0x34 512 (header 1 8)], .pair, host, by unfold Passes; decide +kernel⟩,
   ⟨{ host with img := { erase := some (ask [tlv 0x34 512 (header 1 8)], header 1 8) }, wd := { host.wd with erase := 2 } }, 100, by decide +kernel⟩,
   ⟨{ host with img := { erase := some (ask [tlv 0x34 512 (header 1 8)], header 1 8) }, wd := { host.wd with erase := 2 } }, 100, ask [tlv 0x34 512 (header 1 8)], header 1 8, by decide +kernel⟩,
   ⟨chunk, .pair, during (half true (header 1 8)), half true (header 1 8), by unfold Passes; decide +kernel⟩,
   ⟨ask [tlv 0x25 8 8], .pair, host.put F.mode 2, by unfold Passes; decide +kernel⟩,
   ⟨chunk, none, .pair, (during { half false 0 with total := 16, pair := true }), { half false 0 with total := 16, pair := true }, by unfold Passes; decide +kernel⟩,
   ⟨chunk, prog, .pair, (during { half false 0 with pair := true }), { half false 0 with pair := true }, by unfold Passes; decide +kernel⟩,
   ⟨chunk, { prog with wellFormed := false }, .pair, (during { half false 0 with pair := true }), { half false 0 with pair := true }, by unfold Passes; decide +kernel⟩⟩

/-- Witnesses of ImageCommitStagesTheImage. -/
theorem test_witness_ImageCommitStagesTheImage :
    (∃ p : Packet, ∃ u : UnitSel, ∃ s : State, ∃ x : Transfer, Passes .imageCommit p (imageCommitBefore p) u s ∧ s.transferOf p true = some x ∧ p.digestOk = false) ∧
    (∃ p : Packet, ∃ u : UnitSel, ∃ s : State, ∃ x : Transfer, Passes .imageCommit p (imageCommitBefore p) u s ∧ s.transferOf p true = some x ∧ p.digestOk = true ∧ hdrBytes x.hdr 5 1 ≠ 0 ∧ p.val 0x0038 0 ≠ 1) ∧
    (∃ p : Packet, ∃ u : UnitSel, ∃ s : State, ∃ x : Transfer, Passes .imageCommit p (imageCommitBefore p) u s ∧ s.transferOf p true = some x ∧ p.digestOk = true ∧ hdrBytes x.hdr 5 1 ≠ 0 ∧ p.val 0x0038 0 = 1) ∧
    (∃ p : Packet, ∃ u : UnitSel, ∃ s : State, ∃ x : Transfer, Passes .imageCommit p (imageCommitBefore p) u s ∧ s.transferOf p true = some x ∧ p.digestOk = true ∧ hdrBytes x.hdr 5 1 = 0 ∧ s.get F.wdState ≠ 1) ∧
    (∃ s : State, ∃ held : ℕ, s.img.program.isSome = true ∧ s.wd.erase = 2 ∧ s.get F.guardUsed ≤ 25000) ∧
    (∃ s : State, ∃ held : ℕ, ∃ p : Packet, ∃ b : ℕ, s.img.program = some (p, b) ∧ s.wd.erase = 2 ∧ p.val 0x0038 0 ≠ 1) :=
  ⟨⟨{ ask [tlv 0x8007 4 1] with digestOk := false }, .pair, during { half true (header 1 8) with got := 8 }, { half true (header 1 8) with got := 8 }, by unfold Passes; decide +kernel⟩,
   ⟨ask [tlv 0x8007 4 1], .pair, during { half true (header 1 8) with got := 8 }, { half true (header 1 8) with got := 8 }, by unfold Passes; decide +kernel⟩,
   ⟨ask [tlv 0x8007 4 1, tlv 0x38 1 1], .pair, (during { half true (header 1 8) with got := 8 }).put F.mode 2, { half true (header 1 8) with got := 8 }, by unfold Passes; decide +kernel⟩,
   ⟨ask [tlv 0x8007 4 1], .pair, during { half true (header 0 8) with got := 8 }, { half true (header 0 8) with got := 8 }, by unfold Passes; decide +kernel⟩,
   ⟨{ host with img := { program := some (ask [], 1) }, wd := { host.wd with erase := 2 } }, 100, by decide +kernel⟩,
   ⟨{ host with img := { program := some (ask [], 1) }, wd := { host.wd with erase := 2 } }, 100, ask [], 1, by decide +kernel⟩⟩

/-- Witnesses of ImagesAreConfirmedOrRejected. -/
theorem test_witness_ImagesAreConfirmedOrRejected :
    (∃ p : Packet, ∃ u : UnitSel, ∃ s : State, Passes .imageConfirm p (fun _ s => need (!(confirmTypes p s).isEmpty && s.confirmable) 9) u s) ∧
    (∃ s : State, s.awaitingTypes ≠ [] ∧ s.img.confirm = 0 ∧ s.confirmable = true) ∧
    (∃ cause : ℕ, ∃ s : State, (cause = 2 ∨ cause = 3)) ∧
    (∃ cause : ℕ, ∃ s : State, cause ≠ 2 ∧ cause ≠ 3 ∧ (cause = 1 → ∃ k : Fin 48, s.get F.hcState k.val = 2) ∧ (cause = 4 → s.img.confirm = 1 ∧ s.get F.confirmDue = 1 ∧ 4000 * s.img.deadline ≤ s.img.dueBeats) ∧ s.awaitingTypes ≠ []) ∧
    (∃ s : State, s.awaitingTypes ≠ [] ∧ s.img.confirm = 1 ∧ s.get F.confirmDue = 1 ∧ 4000 * s.img.deadline ≤ s.img.dueBeats) :=
  ⟨⟨ask [], .pair, { host with img := { slots := [(4, { state := 2, arb := 3 })], period := 0, passed := List.range 48 } }, by unfold Passes; decide +kernel⟩,
   ⟨{ host with img := { slots := [(4, { state := 2, arb := 3 })], period := 0, passed := List.range 48 } }, by decide +kernel⟩,
   ⟨2, host.put F.imgPending 1, by decide +kernel⟩,
   ⟨4, { host.put F.confirmDue 1 with img := { slots := [(4, { state := 2, arb := 3 }), (6, { state := 1 })], confirm := 1, dueBeats := 2 ^ 40 } }, by decide +kernel⟩,
   ⟨{ host.put F.confirmDue 1 with img := { slots := [(4, { state := 2, arb := 3 }), (6, { state := 1 })], confirm := 1, dueBeats := 2 ^ 40 } }, by decide +kernel⟩⟩

/-- Witnesses of CertificatesAreMadeInstalledAndShown. -/
theorem test_witness_CertificatesAreMadeInstalledAndShown :
    (∃ p : Packet, ∃ u : UnitSel, ∃ s : State, Passes .csrCreate p (csrCreateChk p) u s) ∧
    (∃ p : Packet, ∃ u : UnitSel, ∃ s : State, Passes .certInstall p (certInstallChk p) u s ∧ (p.val 0x003B 0 = 1 ∨ p.val 0x003B 0 = 3)) ∧
    (∃ p : Packet, ∃ u : UnitSel, ∃ s : State, Passes .certInstall p (certInstallChk p) u s ∧ p.val 0x003B 0 = 2) ∧
    (∃ p : Packet, ∃ u : UnitSel, ∃ s : State, ∃ c : ℕ × ℕ, Passes .unitCertGet p (unitCertGetChk p) u s ∧ certMailbox u s = none ∧ (u = .own ∨ u = .pair) ∧ s.chain? (if p.has 0x003B then p.val 0x003B 0 else s.presented) = some c) ∧
    (∃ p : Packet, ∃ u : UnitSel, ∃ s : State, ∃ c : ℕ × ℕ, Passes .unitCertGet p (unitCertGetChk p) u s ∧ certMailbox u s = none ∧ u ≠ .own ∧ u ≠ .pair ∧ s.chain? (if p.has 0x003B then p.val 0x003B 0 else s.presented) = some c) ∧
    (∃ p : Packet, ∃ u : UnitSel, ∃ s : State, ∃ m : ℕ × ℕ × ℕ × ℕ × ℕ × ℕ, Passes .unitCertGet p (unitCertGetChk p) u s ∧ certMailbox u (s.noteSeq p) = some m ∧ s.mailBusy m.1 m.2.1 = false) :=
  ⟨⟨ask [tlv 0x39 1 1], .pair, host, by unfold Passes; decide +kernel⟩,
   ⟨askOwn [tlv 0x3B 1 1, tlv 0x3C 8 5], .own, host, by unfold Passes; decide +kernel⟩,
   ⟨ask [tlv 0x3B 1 2, tlv 0x3C 8 5], .pair, host, by unfold Passes; decide +kernel⟩,
   ⟨ask [], .pair, { host with units := { chains := [(2, 4, 9)] } }, (4, 9), by unfold Passes; decide +kernel⟩,
   ⟨{ ask [] with hopLen := 1, hops := [2] }, .chassis, { host with units := { chains := [(2, 4, 9)] } }, (4, 9), by unfold Passes; decide +kernel⟩,
   ⟨{ ask [] with hopLen := 1, hops := [0x0100] }, .slot 0, { puts host [(F.laneMode, 0, 1), (F.laneState, 0, 2), (F.laneLink, 0, 1)] with units := { others := [{ hops := [0x0100], type := 0x10 }] } }, (0, 0xFFFF, 1, 0x0020, 0, 0), by unfold Passes; decide +kernel⟩⟩

/-- Witnesses of DebugTokensClearSafeAndSelftest. -/
theorem test_witness_DebugTokensClearSafeAndSelftest :
    (∃ p : Packet, ∃ u : UnitSel, ∃ s : State, Passes .debugTokenInstall p (debugInstallChk p) u s) ∧
    (∃ p : Packet, ∃ u : UnitSel, ∃ s : State, Passes .clearSafe p (noChk p) u s) ∧
    (∃ p : Packet, ∃ u : UnitSel, ∃ s : State, Passes .selftest p (selftestChk p) u s ∧ (∀ k ∈ testsAsked p, s.get F.hcState k = 3) ∧ s.get F.role ≠ 3) ∧
    (∃ p : Packet, ∃ u : UnitSel, ∃ s : State, Passes .selftest p (selftestChk p) u s ∧ (∀ k ∈ testsAsked p, k ≤ 2 ∨ k = 39 ∨ k = 40) ∧ s.get F.role ≠ 3) ∧
    (∃ p : Packet, ∃ u : UnitSel, ∃ s : State, ∃ k : ℕ, Passes .selftest p (selftestChk p) u s ∧ k ∈ testsAsked p ∧ 3 ≤ k ∧ k ≠ 39 ∧ k ≠ 40 ∧ s.get F.hcState k ≠ 3 ∧ s.get F.role ≠ 3) :=
  ⟨⟨ask [token 3 1], .pair, host, by unfold Passes; decide +kernel⟩,
   ⟨askOwn [], .own, puts host [(F.mode, 0, 5), (F.role, 0, 0)], by unfold Passes; decide +kernel⟩,
   ⟨ask [tlv 0x45 8 1], .pair, host.put F.hcState 3 0, by unfold Passes; decide +kernel⟩,
   ⟨ask [tlv 0x45 8 1], .pair, host, by unfold Passes; decide +kernel⟩,
   ⟨ask [tlv 0x45 8 8], .pair, host, 3, by unfold Passes; decide +kernel⟩⟩

/-- Witnesses of FreezeTakesTheWinningCause. -/
theorem test_witness_FreezeTakesTheWinningCause :
    (∃ s : State, ∃ n : ℕ, ∃ c : Cause, OnlyCauses s ∧ s.winner = some c ∧ c.kind = .safe n ∧ n < 16) ∧
    (∃ s : State, ∃ c : Cause, OnlyCauses s ∧ s.winner = some c ∧ c.kind = .start) ∧
    (∃ s : State, ∃ c : Cause, OnlyCauses s ∧ s.winner = some c ∧ c.kind = .keyStop ∧ (s.get F.role = 1 ∨ s.get F.role = 2) ∧ (s.get F.mode = 3 ∨ s.get F.mode = 4)) ∧
    (∃ s : State, ∃ c : Cause, OnlyCauses s ∧ s.winner = some c ∧ c.kind = .keyStop ∧ s.get F.role = 3) ∧
    (∃ s : State, ∃ c : Cause, OnlyCauses s ∧ s.winner = some c ∧ c.kind = .stop ∧ s.get F.role < 8 ∧ (s.get F.mode = 3 ∨ s.get F.mode = 4)) ∧
    (∃ s : State, OnlyCauses s ∧ s.winner = none ∧ s.ModeFits) :=
  ⟨⟨caused up (.safe 2), 2, { kind := .safe 2, beat := 3999, code := 2 }, by constructor <;> decide +kernel, by decide +kernel⟩,
   ⟨caused up .start, { kind := .start, beat := 3999, code := 2 }, by constructor <;> decide +kernel, by decide +kernel⟩,
   ⟨caused up .keyStop, { kind := .keyStop, beat := 3999, code := 2 }, by constructor <;> decide +kernel, by decide +kernel⟩,
   ⟨caused standby .keyStop, { kind := .keyStop, beat := 3999, code := 2 }, by constructor <;> decide +kernel, by decide +kernel⟩,
   ⟨caused up .stop, { kind := .stop, beat := 3999, code := 2 }, by constructor <;> decide +kernel, by decide +kernel⟩,
   ⟨up, by constructor <;> decide +kernel, by unfold State.ModeFits; decide +kernel⟩⟩

/-- Witnesses of FreezeAppliesTheDueCommand. -/
theorem test_witness_FreezeAppliesTheDueCommand :
    (∃ q : QCmd, ∃ u : UnitSel, ∃ s : State, Applies q u s ∧ s.epochOf u = q.epoch ∧ q.op = .modeSet ∧ u ≠ .own ∧ modeSetRules q.pkt u s = .ok ∧ (s.get F.role = 1 ∨ s.get F.role = 2) ∧ s.get F.mode < 8) ∧
    (∃ q : QCmd, ∃ u : UnitSel, ∃ s : State, ∃ h : ℕ, ∃ v : ValDef, ∃ n : ℕ, ∃ x : Tlv, Applies q u s ∧ s.epochOf u = q.epoch ∧ q.op = .valueWrite ∧ pairsOf q.pkt.tlvs 1 = [(n, h, x)] ∧ (s.rtOf (pktCluster q.pkt)).handle? h = some v ∧ bitOf q.pkt.flags 4 = false) ∧
    (∃ q : QCmd, ∃ u : UnitSel, ∃ s : State, ∃ h : ℕ, ∃ v : ValDef, ∃ n : ℕ, ∃ x : Tlv, Applies q u s ∧ s.epochOf u = q.epoch ∧ q.op = .forceSet ∧ pairsOf q.pkt.tlvs 1 = [(n, h, x)] ∧ s.rt.handle? h = some v) ∧
    (∃ q : QCmd, ∃ u : UnitSel, ∃ s : State, ∃ h : ℕ, Applies q u s ∧ s.epochOf u = q.epoch ∧ q.op = .valueOwn ∧ q.pkt.vals 0x0010 = [h] ∧ s.owner? h = none ∧ bitOf q.pkt.flags 4 = false) ∧
    (∃ q : QCmd, ∃ u : UnitSel, ∃ s : State, Applies q u s ∧ s.epochOf u ≠ q.epoch ∧ (opSpec q.op).ef = false) :=
  ⟨⟨due .modeSet [tlv 0x17 1 2], .pair, dueIn host (due .modeSet [tlv 0x17 1 2]), by constructor <;> decide +kernel, by decide +kernel⟩,
   ⟨due .valueWrite [tlv 0x10 4 1, tlv 0x11 4 7], .pair, dueIn run (due .valueWrite [tlv 0x10 4 1, tlv 0x11 4 7]), 1, val 1 0 0 .u32 1, 1, tlv 0x11 4 7, by constructor <;> decide +kernel, by decide +kernel⟩,
   ⟨due .forceSet [tlv 0x10 4 0x06000003, tlv 0x11 1 1], .pair, dueIn run (due .forceSet [tlv 0x10 4 0x06000003, tlv 0x11 1 1]), 0x06000003, { val 3 0 3 .bool 0 with statusObj := 0x3030 }, 1, tlv 0x11 1 1, by constructor <;> decide +kernel, by decide +kernel⟩,
   ⟨due .valueOwn [tlv 0x10 4 1], .pair, dueIn run (due .valueOwn [tlv 0x10 4 1]), 1, by constructor <;> decide +kernel, by decide +kernel⟩,
   ⟨{ due .valueOwn [tlv 0x10 4 1] with epoch := 9 }, .pair, dueIn run { due .valueOwn [tlv 0x10 4 1] with epoch := 9 }, by constructor <;> decide +kernel, by decide +kernel⟩⟩

/-- Witnesses of TheEdgeTurnsTheBeat. -/
theorem test_witness_TheEdgeTurnsTheBeat :
    (∃ inp : EdgeIn, ∃ s : State, Runs s ∧ s.panel.restartAfter = false ∧ s.get F.pwr ≠ 2 ∧ s.beat.edgePend = [] ∧ s.can.pend = [] ∧ s.pair.handing = false ∧ s.stepNow = false) ∧
    (∃ inp : EdgeIn, ∃ s : State, (s.pwr.off = true ∨ s.beat.runs = false)) ∧
    (∃ n : ℕ, ∃ s : State, Runs s ∧ s.beat.imaged = false ∧ s.beat.committing = false ∧ s.sec.cmd ≠ 1 ∧ s.pair.redo ≠ some s.now) ∧
    (∃ s : State, Runs s ∧ s.get F.mode = 4 ∧ s.get F.holdTimeoutCfg ≠ 0 ∧ (s.get F.role = 1 ∨ s.get F.role = 2)) ∧
    (∃ s : State, s.get F.mode ≠ 4) :=
  ⟨⟨{}, up, by unfold Runs; decide +kernel⟩,
   ⟨{}, State.reset, by decide +kernel⟩,
   ⟨300, up, by unfold Runs; decide +kernel⟩,
   ⟨puts up [(F.mode, 0, 4), (F.holdTimeoutCfg, 0, 5)], by unfold Runs; decide +kernel⟩,
   ⟨up, by decide +kernel⟩⟩

/-- Witnesses of CommitsPublishOrAreAbandoned. -/
theorem test_witness_CommitsPublishOrAreAbandoned :
    (∃ l : List ℕ, ∃ n : ℕ, ∃ s : State, Runs s ∧ s.beat.computing = true) ∧
    (∃ s : State, s.pwr.off = false ∧ s.beat.committing = true ∧ s.get F.role ≠ 3) ∧
    (∃ s : State, s.pwr.off = false ∧ s.beat.committing = true ∧ s.get F.role = 3) ∧
    (∃ s : State, s.pwr.off = false ∧ s.beat.committing = true) ∧
    (∃ s : State, ∃ m : RetainSlot, s.rt.mirror = some m) :=
  ⟨⟨[], 100, { up with beat := { up.beat with computing := true } }, by unfold Runs; decide +kernel⟩,
   ⟨{ tasked false with beat := { up.beat with committing := true } }, by decide +kernel⟩,
   ⟨{ standby with beat := { up.beat with committing := true } }, by decide +kernel⟩,
   ⟨{ up with beat := { up.beat with committing := true } }, by decide +kernel⟩,
   ⟨{ run with rt := { run.rt with mirror := some { valid := true, beat := 3000, gen := 1, layout := 7, vals := [] } } }, { valid := true, beat := 3000, gen := 1, layout := 7, vals := [] }, by decide +kernel⟩⟩

/-- Witnesses of EmitAndTheTrackingClose. -/
theorem test_witness_EmitAndTheTrackingClose :
    (∃ s : State, Runs s ∧ s.beat.committing = false) ∧
    (∃ rs : List (ℕ × ℕ), ∃ all : Bool, ∃ s : State, Runs s ∧ (s.hasStandby = false ∨ s.get F.linkUp = 0)) ∧
    (∃ rs : List (ℕ × ℕ), ∃ s : State, Runs s ∧ s.hasStandby = true ∧ s.get F.linkUp ≠ 0 ∧ 64 * (s.lineRecords rs).length ≤ s.trackLimit - s.pair.xBytes) ∧
    (∃ rs : List (ℕ × ℕ), ∃ all : Bool, ∃ s : State, Runs s ∧ s.hasStandby = true ∧ s.get F.linkUp ≠ 0 ∧ (all = false ∨ s.trackLimit - s.pair.xBytes < 64 * (s.lineRecords rs).length)) ∧
    (∃ x : ℤ, ∃ y : ℤ, ∃ z : ℤ, ∃ s : State, Runs s ∧ s.get F.surge = 0 ∧ s.get F.surgePolicy = 1 ∧ s.surgeRefusal (max x (max y z)) = 0) ∧
    (∃ x : ℤ, ∃ y : ℤ, ∃ z : ℤ, ∃ r : Bool, ∃ s : State, (s.pwr.off = true ∨ s.beat.runs = false)) :=
  ⟨⟨up, by unfold Runs; decide +kernel⟩,
   ⟨[], true, up, by unfold Runs; decide +kernel⟩,
   ⟨[], active, by unfold Runs; decide +kernel⟩,
   ⟨[], false, active, by unfold Runs; decide +kernel⟩,
   ⟨-10, 20, 30, up.put F.surgePolicy 1, by unfold Runs; decide +kernel⟩,
   ⟨1, 2, 3, true, State.reset, by decide +kernel⟩⟩

/-- Witnesses of TheImageCompleteEventStartsCompute. -/
theorem test_witness_TheImageCompleteEventStartsCompute :
    (∃ n : ℕ, ∃ s : State, Runs s ∧ s.beat.imaged = false ∧ s.beat.committing = false ∧ s.pair.redo ≠ some s.now) ∧
    (∃ n : ℕ, ∃ s : State, Runs s ∧ s.beat.imaged = false ∧ s.beat.committing = false ∧ s.pair.redo = some s.now) :=
  ⟨⟨300, up, by unfold Runs; decide +kernel⟩,
   ⟨300, { up with pair := { up.pair with redo := some up.now } }, by unfold Runs; decide +kernel⟩⟩

/-- Witnesses of TasksEndOrOverrun. -/
theorem test_witness_TasksEndOrOverrun :
    (∃ k : Fin 32, ∃ ws : List (ℕ × ℕ), ∃ x : ℕ, ∃ ls : List (ℕ × ℕ), ∃ s : State, ∃ d : TaskDef, ∃ e : RunE, ∃ rest : List RunE, s.rt.taskDef? k.val = some d ∧ s.rt.runsOf d.cls = e :: rest ∧ e.task = k.val ∧ s.inSlice d.cls = true ∧ s.held d.cls = false) ∧
    (∃ k : Fin 32, ∃ ws : List (ℕ × ℕ), ∃ x : ℕ, ∃ ls : List (ℕ × ℕ), ∃ s : State, s.endsNow k.val = false) ∧
    (∃ c : Fin 5, ∃ used : ℕ, ∃ s : State, (s.beat.computing = false ∨ c.val < s.beat.slice)) ∧
    (∃ c : Fin 5, ∃ used : ℕ, ∃ s : State, s.beat.computing = true ∧ s.beat.slice ≤ c.val ∧ (s.cycleOver c.val = false ∨ s.rt.runsOf c.val = [])) ∧
    (∃ c : Fin 5, ∃ used : ℕ, ∃ s : State, ∃ e : RunE, ∃ rest : List RunE, s.beat.computing = true ∧ s.beat.slice ≤ c.val ∧ s.get F.haltState = 0 ∧ s.held c.val = false ∧ s.cycleOver c.val = true ∧ s.lostIn c.val = false ∧ s.rt.runsOf c.val = e :: rest ∧ s.rt.maySkip e = false ∧ s.get F.role ≠ 4 ∧ s.get F.triad ≠ 2 ∧ s.triad.cur = 0) ∧
    (∃ c : Fin 5, ∃ used : ℕ, ∃ s : State, ∃ e : RunE, s.beat.computing = true ∧ s.beat.slice ≤ c.val ∧ s.get F.haltState = 0 ∧ s.held c.val = false ∧ s.cycleOver c.val = true ∧ s.lostIn c.val = false ∧ s.rt.runsOf c.val = [e] ∧ s.rt.maySkip e = true ∧ e.task < 32 ∧ s.get F.taskSkips e.task < s.get F.skipLimit e.task) ∧
    (∃ n : ℕ, ∃ s : State, (s.engineRuns = false ∨ s.loop? n = none ∨ (∃ l, s.loop? n = some l ∧ s.takesBlock l = false))) ∧
    (∃ n : ℕ, ∃ s : State, ∃ l : LoopRt, s.engineRuns = true ∧ s.loop? n = some l ∧ s.takesBlock l = true) :=
  ⟨⟨0, [(1, 5)], 30, [(64, 5)], tasked false, { id := 0, cls := 0, order := 1, isError := false, skippable := false }, { task := 0 }, [], by decide +kernel⟩,
   ⟨7, [(1, 5)], 30, [], tasked false, by decide +kernel⟩,
   ⟨0, 20, run, by decide +kernel⟩,
   ⟨1, 20, tasked false, by decide +kernel⟩,
   ⟨0, 20, tasked false, { task := 0 }, [], by decide +kernel⟩,
   ⟨0, 20, tasked true, { task := 0 }, by decide +kernel⟩,
   ⟨0, run, by decide +kernel⟩,
   ⟨0, looping, waiting0, by decide +kernel⟩⟩

/-- Witnesses of StartEndsInServiceOrInSafe, part 1. -/
theorem test_witness_StartEndsInServiceOrInSafe_1 :
    (∃ i : StartIn, ∃ s : State, CleanStart i s) ∧
    (∃ i : StartIn, ∃ s : State, CleanStart { i with securityOk := true } s ∧ i.securityOk = false) ∧
    (∃ i : StartIn, ∃ s : State, s.pwr.off = false ∧ s.get F.mode = 1 ∧ s.beat.runs = false ∧ s.beat.causes = [] ∧ i.railsOk = false ∧ s.pwr.s1Fails < 2) ∧
    (∃ i : StartIn, ∃ s : State, ∃ c : ℕ, s.pwr.off = false ∧ s.get F.mode = 1 ∧ s.beat.runs = false ∧ s.beat.causes.findSome? (fun c => match c.kind with | .safe k => some k | _ => none) = some c) ∧
    (∃ i : StartIn, ∃ s : State, ((s.pwr.off = true ∧ s.pwr.s1Fails = 0) ∨ s.get F.mode ≠ 1 ∨ s.beat.runs = true)) ∧
    (∃ p : PartnerInfo, ∃ b : Bool, ∃ s : State, Runs s ∧ s.get F.linkUp ≠ 0 ∧ s.get F.triad ≠ 2 ∧ s.pair.waitRule = false ∧ s.pairingRefusal p = 0) ∧
    (∃ p : PartnerInfo, ∃ b : Bool, ∃ s : State, Runs s ∧ s.get F.linkUp ≠ 0 ∧ s.get F.triad ≠ 2 ∧ s.pair.waitRule = false ∧ s.pairingRefusal p ≠ 0) ∧
    (∃ o : Option PartnerInfo, ∃ b : Bool, ∃ s : State, Runs s ∧ (o = none ∨ s.get F.linkUp = 0) ∧ s.get F.triad ≠ 2 ∧ s.pair.waitRule = false) :=
  ⟨⟨boot, cold, by constructor <;> decide +kernel⟩,
   ⟨{ boot with securityOk := false }, cold, by constructor <;> decide +kernel, by decide +kernel⟩,
   ⟨{ boot with railsOk := false }, cold, by decide +kernel⟩,
   ⟨boot, { cold with beat := { causes := [{ kind := .safe 9, beat := 0, code := 1 }] } }, 9, by decide +kernel⟩,
   ⟨boot, up, by decide +kernel⟩,
   ⟨twin, false, up.put F.linkUp 3, by unfold Runs; decide +kernel⟩,
   ⟨{ twin with hwIssue := 2 }, false, up.put F.linkUp 3, by unfold Runs; decide +kernel⟩,
   ⟨none, false, up, by unfold Runs; decide +kernel⟩⟩

/-- Witnesses of StartEndsInServiceOrInSafe, part 2. -/
theorem test_witness_StartEndsInServiceOrInSafe_2 :
    ∃ o : Option PartnerInfo, ∃ b : Bool, ∃ s : State, s.get F.triad = 2 :=
  ⟨none, false, up.put F.triad 2, by decide +kernel⟩

/-- Witnesses of HeartbeatsAndThePairLink, part 1. -/
theorem test_witness_HeartbeatsAndThePairLink_1 :
    (∃ n : ℕ, ∃ s : State, Up s ∧ n % 4 ≠ 0 ∧ s.get F.linkUp ≠ n % 4 ∧ s.get F.triad ≠ 2 ∧ s.pair.linkLost = false ∧ s.get F.pairState ≠ 6) ∧
    (∃ k : Fin 2, ∃ s : State, s.get F.linkUp = 3) ∧
    (∃ k : Fin 10, ∃ s : State, Up s ∧ s.quiet = false ∧ s.get F.triad ≠ 2 ∧ s.get F.linkUp ≠ 0 ∧ s.wd.hbStopped = false ∧ s.lcp.mute = false) ∧
    (∃ k : Fin 10, ∃ a : Bool, ∃ b : Bool, ∃ s : State, Up s ∧ s.quiet = false ∧ s.get F.triad ≠ 2 ∧ (a = false ∨ b = false)) ∧
    (∃ n : ℕ, ∃ s : State, s.get F.triad = 2) ∧
    (∃ k : Fin 10, ∃ a : Bool, ∃ b : Bool, ∃ s : State, s.get F.triad = 2) ∧
    (∃ h : Heartbeat, ∃ s : State, Up s ∧ s.get F.linkUp ≠ 0 ∧ s.pair.seen = true ∧ s.get F.role = 2) ∧
    (∃ h : Heartbeat, ∃ s : State, Up s ∧ s.get F.linkUp ≠ 0 ∧ s.pair.seen = true ∧ s.get F.role = 3 ∧ h.role = 2 ∧ h.mode = 3 ∧ h.resync = true ∧ s.pair.current = true) :=
  ⟨⟨3, up, by unfold Up; decide +kernel⟩,
   ⟨1, up.put F.linkUp 3, by decide +kernel⟩,
   ⟨3, active, by unfold Up; decide +kernel⟩,
   ⟨3, false, true, active, by unfold Up; decide +kernel⟩,
   ⟨3, up.put F.triad 2, by decide +kernel⟩,
   ⟨3, true, true, up.put F.triad 2, by decide +kernel⟩,
   ⟨beat0, active, by unfold Up; decide +kernel⟩,
   ⟨{ beat0 with resync := true }, standby, by unfold Up; decide +kernel⟩⟩

/-- Witnesses of HeartbeatsAndThePairLink, part 2. -/
theorem test_witness_HeartbeatsAndThePairLink_2 :
    (∃ k : Fin 10, ∃ s : State, Up s ∧ s.pair.seen = true ∧ s.pair.lost = false ∧ Follows s) ∧
    (∃ k : Fin 10, ∃ s : State, s.pair.seen = false) :=
  ⟨⟨3, standby, by unfold Up Follows; decide +kernel⟩,
   ⟨3, up, by decide +kernel⟩⟩

/-- Witnesses of FollowersTakeThePlant. -/
theorem test_witness_FollowersTakeThePlant :
    (∃ n : ℕ, ∃ s : State, s.pair.lost = true ∧ s.get F.role = 3 ∧ s.pair.current = true ∧ s.get F.mode < 8) ∧
    (∃ n : ℕ, ∃ s : State, s.pair.lost = true ∧ s.get F.role = 3 ∧ s.pair.current = false ∧ s.pair.shadowC = none) ∧
    (∃ n : ℕ, ∃ s : State, s.pair.lost = true ∧ s.get F.role = 3 ∧ s.get F.mode < 8) ∧
    (∃ n : ℕ, ∃ b : Bool, ∃ s : State, s.pair.lost = false) ∧
    (∃ s : State, s.get F.role = 3 ∧ s.pair.linkLost = true) ∧
    (∃ s : State, s.get F.side = 1 ∧ s.pair.claimBeats ≠ 0 ∧ s.get F.role = 2) ∧
    (∃ s : State, s.get F.side = 1 ∧ s.pair.claimBeats ≠ 0 ∧ s.get F.role = 2) :=
  ⟨⟨7000, { standby with pair := { standby.pair with lost := true } }, by decide +kernel⟩,
   ⟨7000, { standby with pair := { standby.pair with lost := true, current := false } }, by decide +kernel⟩,
   ⟨7000, { standby with pair := { standby.pair with lost := true } }, by decide +kernel⟩,
   ⟨7000, false, standby, by decide +kernel⟩,
   ⟨{ standby with pair := { standby.pair with linkLost := true } }, by decide +kernel⟩,
   ⟨{ puts active [(F.side, 0, 1)] with pair := { claimBeats := 3 } }, by decide +kernel⟩,
   ⟨{ puts active [(F.side, 0, 1)] with pair := { claimBeats := 3 } }, by decide +kernel⟩⟩

/-- Witnesses of StandbyFollowsTheTracking. -/
theorem test_witness_StandbyFollowsTheTracking :
    (∃ i : Image, ∃ s : State, s.get F.role = 3) ∧
    (∃ n : ℕ, ∃ c : ℕ, ∃ crc : ℕ, ∃ ic : ℕ, ∃ x : Tracked, ∃ s : State, s.get F.role = 3 ∧ s.pair.rx.length = c ∧ linesCrc s.pair.rx = crc ∧ (s.pair.current = false ∨ n = s.get F.lastClosed + 1) ∧ s.pair.hasImage = false ∧ s.canTake x = true) ∧
    (∃ n : ℕ, ∃ c : ℕ, ∃ crc : ℕ, ∃ ic : ℕ, ∃ x : Tracked, ∃ s : State, s.get F.role = 3 ∧ s.pair.rx.length = c ∧ linesCrc s.pair.rx = crc ∧ (s.pair.current = false ∨ n = s.get F.lastClosed + 1) ∧ s.pair.hasImage = true ∧ x.config = [] ∧ s.canTake x = true) ∧
    (∃ n : ℕ, ∃ c : ℕ, ∃ crc : ℕ, ∃ ic : ℕ, ∃ o : Bool, ∃ x : Tracked, ∃ s : State, s.get F.role = 3 ∧ (o = true ∨ s.pair.rx.length ≠ c ∨ linesCrc s.pair.rx ≠ crc) ∧ s.get F.mode < 8) ∧
    (∃ x : Tracked, ∃ s : State, s.get F.role = 3 ∧ s.pair.current = false ∧ s.get F.linkUp ≠ 0 ∧ x.config = []) ∧
    (∃ p : Option Program, ∃ x : Tracked, ∃ s : State, s.get F.role ≠ 3) :=
  ⟨⟨image0, standby, by decide +kernel⟩,
   ⟨4000, 0, linesCrc [], 0, {}, { standby.put F.lastClosed 3999 with pair := { standby.pair with hasImage := false } }, by decide +kernel⟩,
   ⟨4000, 1, linesCrc [(64, 7)], 0, {}, { standby.put F.lastClosed 3999 with pair := { standby.pair with rx := [(64, 7)] } }, by decide +kernel⟩,
   ⟨4000, 1, 0, 0, false, {}, standby, by decide +kernel⟩,
   ⟨{}, { standby with pair := { standby.pair with current := false } }, by decide +kernel⟩,
   ⟨none, {}, up, by decide +kernel⟩⟩

/-- Witnesses of HealthChecksAndFeedsAreJudged, part 1. -/
theorem test_witness_HealthChecksAndFeedsAreJudged_1 :
    (∃ k : Fin 48, ∃ s : State, s.get F.hcState k.val ≠ 3 ∧ k.val ≠ 43 ∧ s.pwr.selftest = none ∧ s.get F.role ≠ 3) ∧
    (∃ k : Fin 48, ∃ s : State, k.val = 43 ∧ s.get F.hcState k.val ≠ 3) ∧
    (∃ k : Fin 48, ∃ s : State, s.get F.hcState k.val = 0 ∧ s.get F.role ≠ 3) ∧
    (∃ k : Fin 48, ∃ s : State, s.get F.hcState k.val = 0 ∧ s.get F.role = 3 ∧ s.pair.current = true ∧ s.get F.mode < 8) ∧
    (∃ k : Fin 48, ∃ s : State, s.get F.hcState k.val ≠ 0) ∧
    (∃ k : Fin 48, ∃ s : State, s.get F.hcState k.val ≠ 3 ∧ k.val ∉ [27, 30, 31, 35, 43] ∧ s.get F.role = 1 ∧ s.awaitingTypes = [] ∧ s.pwr.selftest = none) ∧
    (∃ k : Fin 48, ∃ s : State, k.val = 35 ∧ s.get F.hcState k.val ≠ 3 ∧ s.awaitingTypes = []) ∧
    (∃ k : Fin 48, ∃ s : State, k.val = 43 ∧ s.get F.hcState k.val ≠ 3 ∧ s.get F.role ≠ 3 ∧ s.awaitingTypes = []) :=
  ⟨⟨0, up, by decide +kernel⟩,
   ⟨43, up, by decide +kernel⟩,
   ⟨0, up.put F.hcState 0 0, by decide +kernel⟩,
   ⟨0, standby.put F.hcState 0 0, by decide +kernel⟩,
   ⟨0, up.put F.hcState 1 0, by decide +kernel⟩,
   ⟨0, up, by decide +kernel⟩,
   ⟨35, up, by decide +kernel⟩,
   ⟨43, up, by decide +kernel⟩⟩

/-- Witnesses of HealthChecksAndFeedsAreJudged, part 2. -/
theorem test_witness_HealthChecksAndFeedsAreJudged_2 :
    (∃ k : Fin 48, ∃ j : Fin 8, ∃ s : State, k.val = 27 ∧ s.get F.hcState k.val ≠ 3 ∧ s.get F.faEnable j.val ≠ 0 ∧ s.get F.faState j.val ≠ 0 ∧ s.get F.faState j.val ≠ 4 ∧ s.get F.role = 1 ∧ s.awaitingTypes = []) ∧
    (∃ k : Fin 48, ∃ j : Fin 4, ∃ s : State, (k.val = 30 ∨ k.val = 31) ∧ s.get F.hcState k.val ≠ 3 ∧ s.get F.canMode (4 * (k.val - 30) + j.val) ≠ 0 ∧ s.get F.canFault (4 * (k.val - 30) + j.val) ≠ 2 ∧ s.get F.role = 1 ∧ s.awaitingTypes = []) ∧
    (∃ k : Fin 48, ∃ s : State, s.get F.hcState k.val ≠ 3 ∧ s.get F.role = 2 ∧ (s.get F.switchoverOnHealth = 1 ∨ k.val = 32) ∧ s.pair.partnerReady = true ∧ s.pair.handover = none ∧ s.awaitingTypes = []) ∧
    (∃ k : Fin 48, ∃ s : State, s.get F.hcState k.val ≠ 3 ∧ s.get F.role = 3 ∧ s.pair.current = true ∧ s.awaitingTypes = [] ∧ s.get F.mode < 8) ∧
    (∃ k : Fin 48, ∃ s : State, s.get F.hcState k.val ≠ 3 ∧ s.get F.role = 1 ∧ s.get F.mode = 2 ∧ s.awaitingTypes ≠ []) ∧
    (∃ n : Fin 4, ∃ v : ℕ, ∃ s : State, Up s ∧ s.get F.feedA ≠ n.val ∧ n.val ≠ 3 ∧ feedGood n.val = true ∧ feedGood (s.get F.feedB) = true) ∧
    (∃ n : Fin 4, ∃ v : ℕ, ∃ s : State, Up s ∧ s.get F.feedB ≠ n.val ∧ n.val ≠ 3 ∧ feedGood n.val = false ∧ feedGood (s.get F.feedA) = true ∧ s.get F.hcState 44 < 2 ∧ s.get F.role = 1 ∧ s.awaitingTypes = [] ∧ s.pwr.selftest = none) ∧
    (∃ n : Fin 4, ∃ v : ℕ, ∃ s : State, s.get F.feedA = n.val) :=
  ⟨⟨27, 0, puts up [(F.faEnable, 0, 1), (F.faState, 0, 2)], by decide +kernel⟩,
   ⟨30, 0, puts up [(F.canMode, 0, 1)], by decide +kernel⟩,
   ⟨0, active.put F.switchoverOnHealth 1, by decide +kernel⟩,
   ⟨0, standby, by decide +kernel⟩,
   ⟨0, { up.put F.mode 2 with img := { slots := [(4, { state := 2 })] } }, by decide +kernel⟩,
   ⟨1, 4800, puts up [(F.feedA, 0, 0), (F.feedB, 0, 1)], by unfold Up; decide +kernel⟩,
   ⟨0, 100, puts up [(F.feedA, 0, 1), (F.feedB, 0, 1)], by unfold Up; decide +kernel⟩,
   ⟨1, 4700, puts up [(F.feedA, 0, 1)], by decide +kernel⟩⟩

/-- Witnesses of HealthChecksAndFeedsAreJudged, part 3. -/
theorem test_witness_HealthChecksAndFeedsAreJudged_3 :
    ∃ s : State, s.get F.hcState 42 ≠ 3 ∧ s.get F.role = 1 ∧ s.awaitingTypes = [] ∧ s.pwr.selftest = none :=
  ⟨up, by decide +kernel⟩

/-- Witnesses of SwitchoversAndShadowRunsTakeTheirSteps, part 1. -/
theorem test_witness_SwitchoversAndShadowRunsTakeTheirSteps_1 :
    (∃ ho : Handover, ∃ s : State, s.pair.handing = false ∧ s.pair.handover = some ho ∧ s.get F.role = 2 ∧ ho.apply ≤ s.now ∧ s.canHand ho = true) ∧
    (∃ ho : Handover, ∃ s : State, s.pair.handing = false ∧ s.pair.handover = some ho ∧ s.get F.role = 2 ∧ ho.apply ≤ s.now ∧ s.canHand ho = false) ∧
    (∃ s : State, s.pair.handing = false ∧ s.pair.handover = none ∧ s.pair.partnerHandover = true ∧ s.get F.role = 3 ∧ s.get F.ready = 1) ∧
    (∃ s : State, s.pair.handing = true) ∧
    (∃ s : State, s.get F.role = 2 ∧ s.pair.shadowAt = some s.now ∧ s.pair.partnerReady = true) ∧
    (∃ g : Program, ∃ s : State, s.get F.role = 3 ∧ s.get F.ready = 1 ∧ s.now % 4000 = 0 ∧ s.rt.staged = some g) ∧
    (∃ s : State, s.get F.role = 3 ∧ (s.get F.ready ≠ 1 ∨ s.now % 4000 ≠ 0 ∨ s.rt.staged = none)) ∧
    (∃ b : ℕ, ∃ s : State, b ≠ s.now) :=
  ⟨⟨{ apply := 4000, cause := 1 }, { active with pair := { active.pair with handover := some { apply := 4000, cause := 1 } } }, by decide +kernel⟩,
   ⟨{ apply := 4000, cause := 1 }, { active with pair := { active.pair with partnerReady := false, handover := some { apply := 4000, cause := 1 } } }, by decide +kernel⟩,
   ⟨{ standby with pair := { standby.pair with partnerHandover := true } }, by decide +kernel⟩,
   ⟨{ active with pair := { active.pair with handing := true } }, by decide +kernel⟩,
   ⟨{ active with pair := { active.pair with shadowAt := some 4000 } }, by decide +kernel⟩,
   ⟨prog, { standby with rt := { standby.rt with staged := some prog } }, by decide +kernel⟩,
   ⟨standby.put F.ready 0, by decide +kernel⟩,
   ⟨5, standby, by decide +kernel⟩⟩

/-- Witnesses of SwitchoversAndShadowRunsTakeTheirSteps, part 2. -/
theorem test_witness_SwitchoversAndShadowRunsTakeTheirSteps_2 :
    (∃ l : List (ℕ × ℕ × ℕ), ∃ s : State, (s.get F.role = 2 ∨ s.get F.role = 4) ∧ (s.get F.shState = 1 ∨ s.get F.shState = 2) ∧ s.beat.committed = true ∧ s.get F.shStartBeat + s.get F.shadowSettle ≤ s.now) ∧
    (∃ l : List (ℕ × ℕ × ℕ), ∃ v : ValDef, ∃ a : ℕ, ∃ b : ℕ, ∃ s : State, (s.get F.role = 2 ∨ s.get F.role = 4) ∧ (s.get F.shState = 1 ∨ s.get F.shState = 2) ∧ s.beat.committed = true ∧ s.get F.shStartBeat + s.get F.shadowSettle ≤ s.now ∧ s.compared l = [(v, a, b, false)] ∧ valuesMatch v a b (s.get F.compareTolerance) = false ∧ s.pair.cmp.find? (fun r => r.handle == handleOf v) = none) ∧
    (∃ l : List (ℕ × ℕ × ℕ), ∃ s : State, (s.beat.committed = false ∨ s.now < s.get F.shStartBeat + s.get F.shadowSettle)) ∧
    (∃ s : State, s.get F.role = 2 ∧ s.pair.revertAt = some (s.now + 1) ∧ s.pair.partnerReady = true) ∧
    (∃ s : State, s.get F.role = 3 ∧ s.get F.ready = 1 ∧ s.get F.changePending = 1 ∧ s.rt.revertArea.isSome = true ∧ (s.now + 1) % 4000 = 0) ∧
    (∃ s : State, s.get F.role = 1) ∧
    (∃ s : State, s.get F.changePending = 1 ∧ (s.get F.role = 1 ∨ s.get F.role = 2)) ∧
    (∃ s : State, s.get F.changePending ≠ 1) :=
  ⟨⟨[], shadowed, by decide +kernel⟩,
   ⟨[(handleOf (val 4 0 4 .bool 0), 1, 1)], val 4 0 4 .bool 0, 0, 1, shadowed, by decide +kernel⟩,
   ⟨[], active, by decide +kernel⟩,
   ⟨{ active with pair := { active.pair with revertAt := some 4001 } }, by decide +kernel⟩,
   ⟨{ puts standby [(F.changePending, 0, 1), (F.beatIndex, 0, 3999)] with rt := { revertArea := some prog } }, by decide +kernel⟩,
   ⟨up, by decide +kernel⟩,
   ⟨up.put F.changePending 1, by decide +kernel⟩,
   ⟨up, by decide +kernel⟩⟩

/-- Witnesses of TheVoterIsolatesTheOddCluster. -/
theorem test_witness_TheVoterIsolatesTheOddCluster :
    (∃ tx : Fin 3 → Option Txn, ∃ off : ℕ, ∃ s : State, s.triadRuns = true ∧ s.get F.triad = 0 ∧ votable (tx 0) = votable (tx 1) ∧ votable (tx 1) = votable (tx 2)) ∧
    (∃ tx : Fin 3 → Option Txn, ∃ c : Fin 3, ∃ d : Fin 3, ∃ e : Fin 3, ∃ off : ℕ, ∃ s : State, s.triadRuns = true ∧ s.get F.triad = 0 ∧ c ≠ d ∧ c ≠ e ∧ d ≠ e ∧ votable (tx d) = votable (tx e) ∧ votable (tx c) ≠ votable (tx d) ∧ (s.attemptsOf c.val).length < 3) ∧
    (∃ tx : Fin 3 → Option Txn, ∃ c : Fin 3, ∃ d : Fin 3, ∃ e : Fin 3, ∃ off : ℕ, ∃ s : State, s.triadRuns = true ∧ s.get F.triad = 0 ∧ c ≠ d ∧ c ≠ e ∧ d ≠ e ∧ votable (tx d) = votable (tx e) ∧ votable (tx c) ≠ votable (tx d) ∧ 3 ≤ (s.attemptsOf c.val).length) ∧
    (∃ tx : Fin 3 → Option Txn, ∃ off : ℕ, ∃ s : State, s.triadRuns = true ∧ s.get F.triad = 0 ∧ votable (tx 0) ≠ votable (tx 1) ∧ votable (tx 0) ≠ votable (tx 2) ∧ votable (tx 1) ≠ votable (tx 2)) ∧
    (∃ tx : Fin 3 → Option Txn, ∃ c : Fin 3, ∃ d : Fin 3, ∃ e : Fin 3, ∃ off : ℕ, ∃ s : State, s.triadRuns = true ∧ s.get F.triad = 1 ∧ c ≠ d ∧ c ≠ e ∧ d ≠ e ∧ s.votes c.val = false ∧ s.votes d.val = true ∧ s.votes e.val = true ∧ votable (tx d) = votable (tx e)) ∧
    (∃ tx : Fin 3 → Option Txn, ∃ c : Fin 3, ∃ d : Fin 3, ∃ e : Fin 3, ∃ off : ℕ, ∃ s : State, s.triadRuns = true ∧ s.get F.triad = 1 ∧ c ≠ d ∧ c ≠ e ∧ d ≠ e ∧ s.votes c.val = false ∧ s.votes d.val = true ∧ s.votes e.val = true ∧ votable (tx d) ≠ votable (tx e)) ∧
    (∃ x : Option Txn, ∃ y : Option Txn, ∃ z : Option Txn, ∃ off : ℕ, ∃ b : Bool, ∃ s : State, (b = true ∨ s.triadRuns = false ∨ s.get F.triad = 2)) :=
  ⟨⟨(fun _ => txn 64), 5, up, by decide +kernel⟩,
   ⟨(fun i => if i = 1 then none else txn 64), 1, 0, 2, 5, up, by decide +kernel⟩,
   ⟨(fun i => if i = 1 then none else txn 64), 1, 0, 2, 5, { up with triad := { attempts := [(1, 1), (1, 2), (1, 3)] } }, by decide +kernel⟩,
   ⟨(fun i => txn i.val), 5, up, by decide +kernel⟩,
   ⟨(fun _ => txn 64), 1, 0, 2, 5, dual, by decide +kernel⟩,
   ⟨(fun i => if i = 0 then none else txn 64), 1, 0, 2, 5, dual, by decide +kernel⟩,
   ⟨none, none, none, 5, true, up, by decide +kernel⟩⟩

/-- Witnesses of AClusterIsResynchronised, part 1. -/
theorem test_witness_AClusterIsResynchronised_1 :
    (∃ c : ℕ, ∃ s : State, s.triad.startsNext = some c ∧ s.canResync = true) ∧
    (∃ s : State, (s.triad.startsNext = none ∨ s.canResync = false)) ∧
    (∃ c : Fin 3, ∃ s : State, s.triad.waiting.contains c.val = true ∧ s.canResync = true ∧ (s.attemptsOf c.val).length < 3) ∧
    (∃ c : Fin 3, ∃ s : State, 3 ≤ (s.attemptsOf c.val).length) ∧
    (∃ c : Fin 3, ∃ s : State, s.resyncOf c = true ∧ s.get F.resyncPhase = 1 ∧ s.residual ≤ 786432) ∧
    (∃ c : Fin 3, ∃ s : State, s.resyncOf c = true ∧ s.get F.resyncPhase = 1 ∧ 786432 < s.residual ∧ s.triad.passes < 6) ∧
    (∃ c : Fin 3, ∃ s : State, s.resyncOf c = true ∧ s.get F.resyncPhase = 2 ∧ s.triad.converged = false ∧ s.residual ≤ 786432) ∧
    (∃ c : Fin 3, ∃ s : State, s.resyncOf c = true ∧ s.get F.resyncPhase = 2 ∧ s.triad.converged = false ∧ 786432 < s.residual ∧ s.triad.passes < 5) :=
  ⟨⟨1, { dual with triad := { startsNext := some 1 } }, by decide +kernel⟩,
   ⟨up, by decide +kernel⟩,
   ⟨1, { dual with triad := { waiting := [1] } }, by decide +kernel⟩,
   ⟨1, { up with triad := { attempts := [(1, 1), (1, 2), (1, 3)] } }, by decide +kernel⟩,
   ⟨1, resync 1 {}, by decide +kernel⟩,
   ⟨1, resync 1 { dirty := marked }, by decide +kernel⟩,
   ⟨1, resync 2 {}, by decide +kernel⟩,
   ⟨1, resync 2 { dirty := marked }, by decide +kernel⟩⟩

/-- Witnesses of AClusterIsResynchronised, part 2. -/
theorem test_witness_AClusterIsResynchronised_2 :
    (∃ c : Fin 3, ∃ s : State, s.resyncOf c = true ∧ s.get F.resyncPhase = 2 ∧ s.triad.converged = false ∧ 786432 < s.residual ∧ 5 ≤ s.triad.passes) ∧
    (∃ c : Fin 3, ∃ s : State, s.resyncOf c = true ∧ s.get F.resyncPhase = 2 ∧ s.triad.converged = true ∧ s.residual ≤ 786432) ∧
    (∃ c : Fin 3, ∃ s : State, s.resyncOf c = true ∧ s.get F.resyncPhase = 2 ∧ s.triad.converged = true ∧ 786432 < s.residual ∧ s.triad.passes < 6) ∧
    (∃ c : Fin 3, ∃ s : State, s.resyncOf c = true ∧ s.get F.resyncPhase = 4) ∧
    (∃ c : Fin 3, ∃ s : State, s.resyncOf c = false) ∧
    (∃ c : Fin 3, ∃ s : State, s.get F.resyncPhase ≠ 4) ∧
    (∃ c : Fin 3, ∃ n : ℕ, ∃ s : State, c.val ≠ 0 ∧ s.splitRuns c.val = true ∧ s.triadRuns = true) ∧
    (∃ c : Fin 3, ∃ n : ℕ, ∃ s : State, c.val ≠ 0 ∧ s.splitRuns c.val = false) :=
  ⟨⟨1, resync 2 { passes := 5, dirty := marked, attempts := [(1, 0)] }, by decide +kernel⟩,
   ⟨1, resync 2 { converged := true }, by decide +kernel⟩,
   ⟨1, resync 2 { converged := true, passes := 5, dirty := marked }, by decide +kernel⟩,
   ⟨1, resync 4 {}, by decide +kernel⟩,
   ⟨1, up, by decide +kernel⟩,
   ⟨1, dual, by decide +kernel⟩,
   ⟨1, 3, split false, by decide +kernel⟩,
   ⟨1, 3, up, by decide +kernel⟩⟩

/-- Witnesses of AClusterIsResynchronised, part 3. -/
theorem test_witness_AClusterIsResynchronised_3 :
    (∃ c : Fin 3, ∃ n : ℕ, ∃ s : State, c.val = 0 ∧ s.get F.triad = 2 ∧ s.triadRuns = true) ∧
    (∃ c : Fin 3, ∃ n : ℕ, ∃ s : State, s.get F.triad ≠ 2) :=
  ⟨⟨0, 3, up.put F.triad 2, by decide +kernel⟩,
   ⟨1, 3, up, by decide +kernel⟩⟩

/-- Witnesses of LaneExchangesAreMadeAndJudged, part 1. -/
theorem test_witness_LaneExchangesAreMadeAndJudged_1 :
    (∃ k : Fin 96, ∃ s : State, s.get F.laneLink k.val = 1 ∧ (s.get F.laneMode k.val = 1 ∨ s.get F.laneMode k.val = 2) ∧ s.quiet = false) ∧
    (∃ k : Fin 96, ∃ s : State, (s.get F.laneLink k.val ≠ 1 ∨ s.get F.laneMode k.val = 3)) ∧
    (∃ k : Fin 96, ∃ s : State, (s.get F.laneMode k.val = 1 ∨ s.get F.laneMode k.val = 2) ∧ s.quiet = false) ∧
    (∃ k : Fin 96, ∃ n : ℕ, ∃ s : State, (s.lane k.val).delayWait = true ∧ ((s.lane k.val).delayKnown = false ∨ natDist ((n - 1000) / 2) (s.get F.laneDelay k.val) ≤ 100)) ∧
    (∃ k : Fin 96, ∃ q : ℕ, ∃ m : ℕ, ∃ c : ℕ, ∃ n : ℕ, ∃ s : State, (s.lane k.val).delayWait = true ∧ (c ≠ crc8 [q, m] ∨ q = (s.lane k.val).delaySeq ∧ m = 0x80 ∧ (s.lane k.val).delayKnown = true ∧ 100 < natDist ((n - 1000) / 2) (s.get F.laneDelay k.val))) ∧
    (∃ k : Fin 96, ∃ q : ℕ, ∃ m : ℕ, ∃ c : ℕ, ∃ n : ℕ, ∃ s : State, (s.lane k.val).delayWait = false) ∧
    (∃ k : Fin 96, ∃ f : Frame, ∃ v : ℕ, ∃ s : State, FrameFits k.val f s ∧ ownStatus? f = some v) ∧
    (∃ k : Fin 96, ∃ f : Frame, ∃ s : State, FrameFits k.val f s ∧ ownStatus? f = none) :=
  ⟨⟨0, laned 1 2 { k := 0 }, by decide +kernel⟩,
   ⟨1, laned 1 2 { k := 0 }, by decide +kernel⟩,
   ⟨0, laned 1 2 { k := 0 }, by decide +kernel⟩,
   ⟨0, 3000, laned 1 2 { k := 0, delayWait := true, delaySeq := 4 }, by decide +kernel⟩,
   ⟨0, 4, 0x80, 0, 3000, laned 1 2 { k := 0, delayWait := true, delaySeq := 4, delayKnown := true }, by decide +kernel⟩,
   ⟨0, 4, 0x80, 0, 3000, laned 1 2 { k := 0 }, by decide +kernel⟩,
   ⟨0, upFrame, 1, laned 1 2 { k := 0 }, by constructor <;> decide +kernel, by decide +kernel⟩,
   ⟨0, sealed { upFrame with payload := [1, 2, 3, 4] }, laned 1 2 { k := 0 }, by constructor <;> decide +kernel, by decide +kernel⟩⟩

/-- Witnesses of LaneExchangesAreMadeAndJudged, part 2. -/
theorem test_witness_LaneExchangesAreMadeAndJudged_2 :
    (∃ k : Fin 96, ∃ f : Frame, ∃ s : State, (s.laneServed k.val = false ∨ s.get F.laneMode k.val = 3)) ∧
    (∃ k : Fin 96, ∃ f : Frame, ∃ s : State, s.laneServed k.val = true ∧ s.get F.laneMode k.val = 1 ∧ frameSound f 1444 = true ∧ f.ftype = 2 ∧ f.beat = s.now ∧ f.lane = k.val ∧ f.epochLo ≠ s.epochOf (.slot k.val) % 65536 ∧ bitOf f.flags 4 = false) ∧
    (∃ k : Fin 96, ∃ s : State, s.laneServed k.val = true) ∧
    (∃ k : Fin 96, ∃ s : State, (s.lane k.val).retried ≠ some (s.exchangeEdge k.val)) ∧
    (∃ k : Fin 96, ∃ s : State, s.get F.laneState k.val = 3 ∧ s.get F.laneMode k.val = 1 ∧ (s.lane k.val).judged ≠ some s.now ∧ (s.lane k.val).accepted = some s.now ∧ (s.lane k.val).fresh = false) ∧
    (∃ k : Fin 96, ∃ s : State, s.get F.laneState k.val = 2 ∧ s.get F.laneMode k.val = 1 ∧ (s.lane k.val).judged ≠ some s.now ∧ (s.lane k.val).accepted ≠ some s.now ∧ (s.lane k.val).run = 0 ∧ 1 < s.get F.staleLimit k.val) :=
  ⟨⟨0, upFrame, laned 3 2 { k := 0 }, by decide +kernel⟩,
   ⟨0, sealed { upFrame with epochLo := 9 }, laned 1 2 { k := 0 }, by decide +kernel⟩,
   ⟨0, laned 1 2 { k := 0 }, by decide +kernel⟩,
   ⟨0, laned 1 2 { k := 0 }, by decide +kernel⟩,
   ⟨0, laned 1 3 { k := 0, accepted := some 4000 }, by decide +kernel⟩,
   ⟨0, laned 1 2 { k := 0 }, by decide +kernel⟩⟩

/-- Witnesses of LanesFailCrossOverAndReturn, part 1. -/
theorem test_witness_LanesFailCrossOverAndReturn_1 :
    (∃ k : Fin 96, ∃ s : State, s.get F.laneState k.val = 3 ∧ s.get F.laneMode k.val = 1 ∧ (s.lane k.val).judged ≠ some s.now ∧ (s.lane k.val).accepted ≠ some s.now ∧ (s.lane k.val).run ≠ 0 ∧ s.get F.staleLimit k.val ≤ (s.lane k.val).run + 1 ∧ s.serving = true ∧ s.partnerHealthy k.val = false ∧ (s.lane k.val).ever = true ∧ (s.lane k.val).owes = false) ∧
    (∃ k : Fin 96, ∃ s : State, s.get F.laneState k.val = 3 ∧ s.get F.laneMode k.val = 1 ∧ (s.lane k.val).judged ≠ some s.now ∧ (s.lane k.val).accepted ≠ some s.now ∧ (s.lane k.val).run ≠ 0 ∧ s.get F.staleLimit k.val ≤ (s.lane k.val).run + 1 ∧ s.serving = true ∧ s.partnerHealthy k.val = true) ∧
    (∃ k : Fin 96, ∃ s : State, s.get F.laneState k.val = 4 ∧ s.get F.laneMode k.val = 1 ∧ (s.lane k.val).judged ≠ some s.now ∧ (s.lane k.val).accepted = some s.now ∧ (s.lane k.val).failed = true ∧ (s.lane k.val).fresh = false ∧ (s.lane k.val).owes = false ∧ (s.lane k.val).crossAt = none ∧ s.get F.restoreLimit k.val ≤ (s.lane k.val).good + 1 ∧ s.serving = true) ∧
    (∃ k : Fin 96, ∃ s : State, s.get F.laneMode k.val ≠ 0 ∧ s.get F.laneState k.val ≠ 0 ∧ s.hasPartner = false) ∧
    (∃ k : Fin 96, ∃ s : State, s.get F.laneMode k.val ≠ 0 ∧ s.get F.laneState k.val ≠ 0 ∧ s.get F.laneState k.val ≠ 6 ∧ s.hasPartner = true ∧ bitOf s.pair.partnerLoss k.val = false ∧ (s.lane k.val).failed = false) ∧
    (∃ k : Fin 96, ∃ s : State, (s.get F.laneMode k.val = 0 ∨ s.get F.laneState k.val = 0)) ∧
    (∃ k : Fin 96, ∃ a : ℕ, ∃ ty : ℕ, ∃ pc : ℕ, ∃ sn : ℕ, ∃ s : State, s.get F.laneMode k.val = 1 ∧ k.val < 48 ∧ s.get F.laneState k.val = 0 ∧ (s.lane k.val).ever = false ∧ (s.get F.expectedType k.val = 0 ∨ s.get F.expectedType k.val = ty)) ∧
    (∃ k : Fin 96, ∃ a : ℕ, ∃ ty : ℕ, ∃ pc : ℕ, ∃ sn : ℕ, ∃ s : State, s.get F.laneMode k.val = 1 ∧ k.val < 48) :=
  ⟨⟨0, laned 1 3 { k := 0, run := 2, ever := true }, by decide +kernel⟩,
   ⟨0, { puts (laned 1 3 { k := 0, run := 2, ever := true }) [(F.role, 0, 2), (F.linkUp, 0, 3), (F.partnerLanes, 0, 1)] with pair := active.pair }, by decide +kernel⟩,
   ⟨0, laned 1 4 { k := 0, accepted := some 4000, failed := true, good := 2 }, by decide +kernel⟩,
   ⟨0, laned 1 2 { k := 0, ever := true }, by decide +kernel⟩,
   ⟨0, { puts (laned 1 2 { k := 0, ever := true }) [(F.role, 0, 2), (F.linkUp, 0, 3)] with pair := active.pair }, by decide +kernel⟩,
   ⟨0, laned 1 0 { k := 0 }, by decide +kernel⟩,
   ⟨0, 0, 9, 1, 2, laned 1 0 { k := 0 }, by decide +kernel⟩,
   ⟨0, 0, 9, 1, 2, laned 1 0 { k := 0 }, by decide +kernel⟩⟩

/-- Witnesses of LanesFailCrossOverAndReturn, part 2. -/
theorem test_witness_LanesFailCrossOverAndReturn_2 :
    (∃ k : Fin 96, ∃ a : ℕ, ∃ g : ℕ, ∃ ty : ℕ, ∃ pc : ℕ, ∃ sn : ℕ, ∃ s : State, s.get F.laneMode k.val = 1 ∧ k.val < 48 ∧ 2 < g ∧ (g ≠ 5 ∧ g ≠ 12 ∨ s.get F.expectedType k.val ≠ 0 ∧ s.get F.expectedType k.val ≠ ty)) ∧
    (∃ k : Fin 96, ∃ a : ℕ, ∃ g : ℕ, ∃ ty : ℕ, ∃ ok : Bool, ∃ pc : ℕ, ∃ sn : ℕ, ∃ s : State, s.get F.laneMode k.val = 0) ∧
    (∃ k : Fin 96, ∃ l : List (ℕ × ℕ), ∃ s : State, s.get F.role = 2 ∧ s.get F.laneState k.val = 5 ∧ s.get F.laneMode k.val ≠ 3) ∧
    (∃ k : Fin 96, ∃ l : List (ℕ × ℕ), ∃ s : State, (s.get F.role = 3 ∨ s.get F.role = 4)) ∧
    (∃ k : Fin 96, ∃ l : List (ℕ × ℕ), ∃ s : State, (s.get F.role = 1 ∨ s.get F.role = 2 ∧ s.get F.laneState k.val ≠ 5)) ∧
    (∃ k : Fin 96, ∃ f : Option Frame, ∃ s : State, s.get F.laneState k.val = 5 ∧ s.serving = true) ∧
    (∃ k : Fin 96, ∃ c : Fin 3, ∃ s : State, s.get F.laneState k.val = 5 ∧ s.serving = true ∧ s.get F.laneMode k.val ≠ 3) ∧
    (∃ k : Fin 96, ∃ c : Fin 3, ∃ s : State, s.get F.laneState k.val ≠ 5 ∧ (s.lane k.val).crossAt = none) :=
  ⟨⟨0, 0, 3, 9, 1, 2, laned 1 0 { k := 0 }, by decide +kernel⟩,
   ⟨0, 0, 5, 9, true, 1, 2, laned 0 0 { k := 0 }, by decide +kernel⟩,
   ⟨0, [(3, 1)], { puts (laned 1 5 { k := 0 }) [(F.role, 0, 2)] with pair := active.pair }, by decide +kernel⟩,
   ⟨0, [(3, 1)], standby, by decide +kernel⟩,
   ⟨0, [(3, 1)], up, by decide +kernel⟩,
   ⟨0, none, laned 1 5 { k := 0, probes := 2 }, by decide +kernel⟩,
   ⟨0, 0, laned 1 5 { k := 0 }, by decide +kernel⟩,
   ⟨0, 0, laned 1 2 { k := 0 }, by decide +kernel⟩⟩

/-- Witnesses of L3PollsAndWslExchanges, part 1. -/
theorem test_witness_L3PollsAndWslExchanges_1 :
    (∃ k : Fin 96, ∃ p : Fin 8, ∃ s : State, s.get F.laneMode k.val = 3 ∧ bitOf (s.get F.l3Boards k.val) p.val = true ∧ s.get F.claim = 1 ∧ s.now % 40 = 5 * p.val ∧ (s.l3 k.val p.val).mismatch = false) ∧
    (∃ k : Fin 96, ∃ p : Fin 8, ∃ s : State, (s.get F.claim = 0 ∨ s.now % 40 ≠ 5 * p.val ∨ (s.l3 k.val p.val).mismatch = true)) ∧
    (∃ k : Fin 96, ∃ p : Fin 8, ∃ s : State, s.get F.laneMode k.val = 3 ∧ bitOf (s.get F.l3Boards k.val) p.val = true ∧ s.get F.claim = 0 ∧ s.now % 40 = 5 * p.val + 2) ∧
    (∃ k : Fin 96, ∃ p : Fin 8, ∃ s : State, (s.get F.claim = 1 ∨ s.now % 40 ≠ 5 * p.val + 2)) ∧
    (∃ k : Fin 96, ∃ p : Fin 8, ∃ a : ℕ, ∃ st : ℕ, ∃ bs : List ℕ, ∃ l : List (ℕ × ℕ), ∃ s : State, (s.l3 k.val p.val).poll = some (s.now, false) ∧ (s.l3 k.val p.val).failed = false ∧ (s.l3 k.val p.val).ever = true ∧ s.get F.laneState k.val ≠ 5 ∧ a % 8 = p.val ∧ bs.length ≤ 12) ∧
    (∃ k : Fin 96, ∃ p : Fin 8, ∃ a : ℕ, ∃ st : ℕ, ∃ bs : List ℕ, ∃ c : ℕ, ∃ l : List (ℕ × ℕ), ∃ s : State, (s.l3 k.val p.val).poll = some (s.now, false) ∧ (c ≠ crc16 (st :: bs) ∨ a % 8 ≠ p.val ∨ 12 < bs.length)) ∧
    (∃ k : Fin 96, ∃ p : Fin 8, ∃ b : Bool, ∃ a : ℕ, ∃ st : ℕ, ∃ bs : List ℕ, ∃ c : ℕ, ∃ l : List (ℕ × ℕ), ∃ s : State, (s.l3 k.val p.val).poll = none) ∧
    (∃ k : Fin 96, ∃ p : Fin 8, ∃ s : State, (s.l3 k.val p.val).poll = some (s.now, false)) :=
  ⟨⟨0, 0, polled 1 { lane := 0, addr := 0 }, by decide +kernel⟩,
   ⟨0, 1, polled 1 { lane := 0, addr := 0 }, by decide +kernel⟩,
   ⟨0, 0, (polled 0 { lane := 0, addr := 0 }).put F.beatIndex 4002, by decide +kernel⟩,
   ⟨0, 0, polled 1 { lane := 0, addr := 0 }, by decide +kernel⟩,
   ⟨0, 0, 0, 0, [], [(3, 1)], polled 1 { lane := 0, addr := 0, ever := true, poll := some (4000, false) }, by decide +kernel⟩,
   ⟨0, 0, 0, 0, [], 0, [], polled 1 { lane := 0, addr := 0, ever := true, poll := some (4000, false) }, by decide +kernel⟩,
   ⟨0, 0, false, 0, 0, [], 0, [], polled 1 { lane := 0, addr := 0 }, by decide +kernel⟩,
   ⟨0, 0, polled 1 { lane := 0, addr := 0, ever := true, poll := some (4000, false) }, by decide +kernel⟩⟩

/-- Witnesses of L3PollsAndWslExchanges, part 2. -/
theorem test_witness_L3PollsAndWslExchanges_2 :
    (∃ k : Fin 96, ∃ p : Fin 8, ∃ c : Bool, ∃ s : State, (s.l3 k.val p.val).poll = none) ∧
    (∃ n : Fin 64, ∃ off : ℕ, ∃ pre : WslPrefix, ∃ f : Frame, ∃ s : State, s.get F.wslPort n.val ≠ 0xFF ∧ s.portUp (s.get F.wslPort n.val) = false ∧ s.portDown (s.get F.wslPort n.val) = true ∧ pre.magic = 0x5745 ∧ pre.ver = 1 ∧ pre.station = s.get F.wslStation n.val ∧ pre.dir = 2 ∧ frameSound f 1444 = true ∧ f.ftype = 0x22 ∧ f.lane = 0xFF ∧ s.rxInTime (s.get F.wslPort n.val) f.beat off = true ∧ ((s.wslRt n.val).beat ≠ f.beat ∨ (s.wslRt n.val).frags = [])) ∧
    (∃ n : Fin 64, ∃ off : ℕ, ∃ pre : WslPrefix, ∃ f : Frame, ∃ s : State, s.get F.wslPort n.val ≠ 0xFF ∧ s.portUp (s.get F.wslPort n.val) = true ∧ s.serving = true ∧ pre.magic = 0x5745 ∧ pre.ver = 1 ∧ pre.station = s.get F.wslStation n.val ∧ pre.dir = 1 ∧ frameSound f 1444 = true ∧ f.ftype = 0x21 ∧ f.lane = 0xFF ∧ bitOf f.flags 0 = true ∧ s.rxInTime (s.get F.wslPort n.val) f.beat off = true ∧ ((s.wslRt n.val).beat ≠ f.beat ∨ (s.wslRt n.val).frags = [])) ∧
    (∃ n : Fin 64, ∃ off : ℕ, ∃ pre : WslPrefix, ∃ f : Frame, ∃ s : State, s.get F.wslPort n.val ≠ 0xFF ∧ s.portUp (s.get F.wslPort n.val) = false ∧ s.portDown (s.get F.wslPort n.val) = true ∧ pre.magic = 0x5745 ∧ pre.ver = 1 ∧ pre.station = s.get F.wslStation n.val ∧ pre.dir = 2 ∧ frameSound f 1444 = true ∧ f.ftype = 0x22 ∧ f.lane = 0xFF ∧ s.rxInTime (s.get F.wslPort n.val) f.beat off = false) ∧
    (∃ n : Fin 64, ∃ off : ℕ, ∃ pre : WslPrefix, ∃ f : Frame, ∃ s : State, (s.get F.wslPort n.val = 0xFF ∨ s.portLive (s.get F.wslPort n.val) = false)) ∧
    (∃ n : Fin 64, ∃ s : State, s.get F.wslPort n.val ≠ 0xFF ∧ s.portLive (s.get F.wslPort n.val) = true ∧ s.now ≠ 0 ∧ (s.now - 1) % 4 = s.rxCadence (s.get F.wslPort n.val) ∧ (s.wslRt n.val).judged ≠ some (s.now - 1) ∧ (s.wslRt n.val).beat = s.now - 1 ∧ (s.wslRt n.val).frags ≠ [] ∧ (s.wslRt n.val).whole = true ∧ (s.wslRt n.val).failed = false) ∧
    (∃ n : Fin 64, ∃ s : State, s.get F.wslPort n.val ≠ 0xFF ∧ s.portLive (s.get F.wslPort n.val) = true ∧ s.now ≠ 0 ∧ (s.now - 1) % 4 = s.rxCadence (s.get F.wslPort n.val) ∧ (s.wslRt n.val).judged ≠ some (s.now - 1) ∧ (s.wslRt n.val).beat ≠ s.now - 1 ∧ (s.wslRt n.val).failed = false ∧ (s.wslRt n.val).ever = true ∧ (s.wslRt n.val).run = 0 ∧ 1 < s.get F.wslStaleLimit n.val) ∧
    (∃ n : Fin 64, ∃ s : State, s.get F.wslPort n.val ≠ 0xFF ∧ s.portLive (s.get F.wslPort n.val) = true ∧ s.now ≠ 0 ∧ (s.now - 1) % 4 = s.rxCadence (s.get F.wslPort n.val) ∧ (s.wslRt n.val).judged ≠ some (s.now - 1) ∧ (s.wslRt n.val).beat ≠ s.now - 1 ∧ (s.wslRt n.val).failed = false ∧ (s.wslRt n.val).ever = true ∧ (s.wslRt n.val).run ≠ 0 ∧ s.get F.wslStaleLimit n.val ≤ (s.wslRt n.val).run + 1 ∧ s.serving = true) :=
  ⟨⟨0, 0, false, polled 1 { lane := 0, addr := 0 }, by decide +kernel⟩,
   ⟨0, 5000, { magic := 0x5745, ver := 1, dir := 2, station := 7, xseq := 3 }, sealed { upFrame with ftype := 0x22, lane := 0xFF, beat := 4002 }, remote 4002 { st := 0 }, by decide +kernel⟩,
   ⟨0, 5000, { magic := 0x5745, ver := 1, dir := 1, station := 7, xseq := 3 }, sealed { upFrame with ftype := 0x21, lane := 0xFF, beat := 4003, flags := 1 }, puts (remote 4003 { st := 0 }) [(F.wslDownPorts, 0, 0), (F.wslUpPorts, 0, 0x10)], by decide +kernel⟩,
   ⟨0, 5000, { magic := 0x5745, ver := 1, dir := 2, station := 7, xseq := 3 }, sealed { upFrame with ftype := 0x22, lane := 0xFF, beat := 3998 }, remote 4002 { st := 0 }, by decide +kernel⟩,
   ⟨0, 5000, { magic := 0x5745, ver := 1, dir := 2, station := 7, xseq := 3 }, upFrame, up.put F.wslPort 0xFF, by decide +kernel⟩,
   ⟨0, remote 4003 { st := 0, beat := 4002, frags := [0], lastFrag := 0, points := [(3, 1)] }, by decide +kernel⟩,
   ⟨0, remote 4003 { st := 0, ever := true }, by decide +kernel⟩,
   ⟨0, remote 4003 { st := 0, ever := true, run := 2 }, by decide +kernel⟩⟩

/-- Witnesses of L3PollsAndWslExchanges, part 3. -/
theorem test_witness_L3PollsAndWslExchanges_3 :
    (∃ n : Fin 64, ∃ s : State, (s.get F.wslPort n.val = 0xFF ∨ s.now = 0)) ∧
    (∃ p : Fin 12, ∃ s : State, (s.portUp p.val = true ∧ s.serving = true ∧ s.now % 4 = 2 ∨ s.portDown p.val = true ∧ s.now % 4 = 3) ∧ p.val ∉ s.lanes.gates) ∧
    (∃ p : Fin 12, ∃ s : State, s.now % 4 < 2) ∧
    (∃ p : Fin 12, ∃ n : ℕ, ∃ k : Fin 64, ∃ s : State, p.val ∈ s.lanes.gates ∧ s.get F.wslPort k.val = p.val ∧ (∀ j, j < k.val → s.get F.wslPort j ≠ p.val)) ∧
    (∃ p : Fin 12, ∃ n : ℕ, ∃ s : State, p.val ∉ s.lanes.gates) :=
  ⟨⟨0, up.put F.wslPort 0xFF, by decide +kernel⟩,
   ⟨4, puts up [(F.wslUpPorts, 0, 0x10), (F.beatIndex, 0, 4002)], by decide +kernel⟩,
   ⟨4, up.put F.wslUpPorts 0x10, by decide +kernel⟩,
   ⟨4, 5, 0, { remote 4000 { st := 0 } with lanes := { wsl := [{ st := 0 }], gates := [4] } }, by decide +kernel⟩,
   ⟨4, 5, up, by decide +kernel⟩⟩

/-- Witnesses of TheFieldSideFailsAndReturns, part 1. -/
theorem test_witness_TheFieldSideFailsAndReturns_1 :
    (∃ s : State, s.field.failed = false) ∧
    (∃ s : State, s.field.failed = true) ∧
    (∃ s : State, s.field.badBeat ≠ some s.now ∧ s.field.bad < 2) ∧
    (∃ b : ℕ, ∃ s : State, s.field.badBeat = some b ∧ b + 1 = s.now ∧ s.field.bad = 2 ∧ s.field.failed = false ∧ s.canPlan = false ∧ s.serving = true) ∧
    (∃ s : State, s.field.late < 2) ∧
    (∃ s : State, 2 ≤ s.field.late ∧ s.field.failed = false ∧ s.canPlan = true ∧ s.pair.handover = none) ∧
    (∃ s : State, s.field.badBeat = some s.now) ∧
    (∃ s : State, s.get F.driveEn = 1 ∧ s.field.silent = false ∧ s.field.lastUpdate + 4 * s.get F.fieldTimeoutCfg ≤ s.now) :=
  ⟨⟨up, by decide +kernel⟩,
   ⟨{ up with field := { failed := true, good := 2 } }, by decide +kernel⟩,
   ⟨up, by decide +kernel⟩,
   ⟨3999, { up with field := { badBeat := some 3999, bad := 2 } }, by decide +kernel⟩,
   ⟨up, by decide +kernel⟩,
   ⟨{ active with field := { late := 2 } }, by decide +kernel⟩,
   ⟨{ up with field := { badBeat := some 4000 } }, by decide +kernel⟩,
   ⟨up, by decide +kernel⟩⟩

/-- Witnesses of TheFieldSideFailsAndReturns, part 2. -/
theorem test_witness_TheFieldSideFailsAndReturns_2 :
    (∃ s : State, (s.get F.driveEn = 0 ∨ s.field.silent = true ∨ s.now < s.field.lastUpdate + 4 * s.get F.fieldTimeoutCfg)) ∧
    (∃ n : Fin 3, ∃ s : State, s.get F.lbState ≠ n.val) ∧
    (∃ n : Fin 3, ∃ s : State, s.get F.laState = n.val) :=
  ⟨⟨up.put F.driveEn 0, by decide +kernel⟩,
   ⟨1, up, by decide +kernel⟩,
   ⟨0, up, by decide +kernel⟩⟩

/-- Witnesses of DigitalChannelsTripAndReturn, part 1. -/
theorem test_witness_DigitalChannelsTripAndReturn_1 :
    (∃ k : Fin 16, ∃ s : State, s.dioDriving k.val = true) ∧
    (∃ k : Fin 16, ∃ s : State, s.dioDriving k.val = false) ∧
    (∃ k : Fin 16, ∃ s : State, s.dioDriving k.val = true) ∧
    (∃ k : Fin 16, ∃ s : State, s.dioDriving k.val = false) ∧
    (∃ k : Fin 16, ∃ x : ℕ, ∃ s : State, s.get F.dioTripped (s.dioLead k.val) ≠ 0 ∧ s.get F.dioRetriesLeft (s.dioLead k.val) ≠ 0 ∧ (s.dio (s.dioLead k.val)).commanded = true ∧ (s.dio (s.dioLead k.val)).trip = some x ∧ x + 20000000 ≤ s.now * 50000 ∧ s.get F.driveEn = 1) ∧
    (∃ k : Fin 16, ∃ x : ℕ, ∃ s : State, s.get F.dioTripped (s.dioLead k.val) ≠ 0 ∧ s.get F.dioRetriesLeft (s.dioLead k.val) ≠ 0 ∧ (s.dio (s.dioLead k.val)).commanded = true ∧ (s.dio (s.dioLead k.val)).trip = some x ∧ x + 20000000 ≤ s.now * 50000 ∧ s.get F.driveEn = 1) ∧
    (∃ k : Fin 16, ∃ ok : Bool, ∃ s : State, (s.get F.dioTripped (s.dioLead k.val) = 0 ∨ s.get F.dioRetriesLeft (s.dioLead k.val) = 0)) ∧
    (∃ k : Fin 16, ∃ x : ℕ, ∃ s : State, (s.dio (s.dioLead k.val)).trip = some x ∧ x + 200000000 ≤ s.tick) :=
  ⟨⟨0, dioed [] { k := 0, on := true }, by decide +kernel⟩,
   ⟨0, up, by decide +kernel⟩,
   ⟨0, dioed [] { k := 0, on := true }, by decide +kernel⟩,
   ⟨0, up, by decide +kernel⟩,
   ⟨0, 1000, dioed [(F.dioTripped, 0, 1), (F.dioRetriesLeft, 0, 2)] { k := 0, commanded := true, trip := some 1000 }, by decide +kernel⟩,
   ⟨0, 1000, dioed [(F.dioTripped, 0, 1), (F.dioRetriesLeft, 0, 2)] { k := 0, commanded := true, trip := some 1000 }, by decide +kernel⟩,
   ⟨0, true, up, by decide +kernel⟩,
   ⟨0, 0, dioed [(F.beatIndex, 0, 8000)] { k := 0, trip := some 0 }, by decide +kernel⟩⟩

/-- Witnesses of DigitalChannelsTripAndReturn, part 2. -/
theorem test_witness_DigitalChannelsTripAndReturn_2 :
    (∃ k : Fin 16, ∃ s : State, (s.dio (s.dioLead k.val)).trip = none) ∧
    (∃ k : Fin 16, ∃ s : State, s.dioOut k.val = true) ∧
    (∃ k : Fin 16, ∃ s : State, s.dioOut k.val = false) ∧
    (∃ k : Fin 16, ∃ s : State, (s.dio k.val).hot = true) ∧
    (∃ k : Fin 16, ∃ s : State, (s.dio k.val).hot = false) ∧
    (∃ k : Fin 16, ∃ onset : Bool, ∃ s : State, s.wireSeen (s.dioLead k.val) false = true ∧ s.flag F.dioOpenWire (s.dioLead k.val) = !onset) ∧
    (∃ k : Fin 16, ∃ onset : Bool, ∃ s : State, s.wireSeen (s.dioLead k.val) true = false) ∧
    (∃ k : Fin 16, ∃ r : Bool, ∃ n : ℕ, ∃ s : State, s.dioOut k.val = false ∧ s.get F.pulsed k.val ≠ 1) :=
  ⟨⟨0, up, by decide +kernel⟩,
   ⟨0, dioed [] { k := 0, on := true }, by decide +kernel⟩,
   ⟨0, up, by decide +kernel⟩,
   ⟨0, dioed [] { k := 0, hot := true }, by decide +kernel⟩,
   ⟨0, up, by decide +kernel⟩,
   ⟨0, true, dioed [(F.openWireEn, 0, 1)] { k := 0 }, by decide +kernel⟩,
   ⟨0, true, up, by decide +kernel⟩,
   ⟨3, true, 500, up, by decide +kernel⟩⟩

/-- Witnesses of DigitalChannelsTripAndReturn, part 3. -/
theorem test_witness_DigitalChannelsTripAndReturn_3 :
    ∃ k : Fin 16, ∃ r : Bool, ∃ n : ℕ, ∃ s : State, s.dioOut k.val = true :=
  ⟨0, true, 500, dioed [] { k := 0 }, by decide +kernel⟩

/-- Witnesses of AnalogPortsEncodersAndCaptures, part 1. -/
theorem test_witness_AnalogPortsEncodersAndCaptures_1 :
    (∃ k : Fin 4, ∃ x : ℕ, ∃ s : State, (s.ao k.val).target = some x ∧ s.flag F.aoOpenLoop k.val = false) ∧
    (∃ k : Fin 4, ∃ s : State, (s.ao k.val).target = none) ∧
    (∃ k : Fin 4, ∃ v : ℕ, ∃ s : State, s.flag F.aoMiswire k.val = false) ∧
    (∃ k : Fin 4, ∃ v : ℕ, ∃ s : State, s.flag F.aoMiswire k.val = true) ∧
    (∃ k : Fin 4, ∃ s : State, s.flag F.aoMiswire k.val = true ∧ s.field.silent = false ∧ s.get F.mode = 3 ∧ s.get F.driveEn = 1 ∧ s.get F.aoMode k.val ≠ 0 ∧ s.flag F.aoReadbackFault k.val = false ∧ f32Bad (s.ao k.val).percent = false) ∧
    (∃ k : Fin 4, ∃ s : State, s.flag F.aoMiswire k.val = false) ∧
    (∃ k : Fin 4, ∃ ma : ℕ, ∃ x : ℕ, ∃ s : State, (s.ao k.val).target = some x ∧ s.flag F.aoOpenLoop k.val = false ∧ s.flag F.aoMiswire k.val = false ∧ s.flag F.aoReadbackFault k.val = false) ∧
    (∃ k : Fin 4, ∃ ma : ℕ, ∃ s : State, s.flag F.aoReadbackFault k.val = true) :=
  ⟨⟨0, 0, aoed [] { k := 0, target := some 0 }, by decide +kernel⟩,
   ⟨0, up, by decide +kernel⟩,
   ⟨0, 0x41200000, up, by decide +kernel⟩,
   ⟨0, 0x41200000, up.put F.aoMiswire 1, by decide +kernel⟩,
   ⟨0, aoed [(F.aoMiswire, 0, 1), (F.aoMode, 0, 1), (F.aoFailing, 0, 1)] { k := 0, percent := 0x42480000 }, by decide +kernel⟩,
   ⟨0, up, by decide +kernel⟩,
   ⟨0, 0x41200000, 0, aoed [] { k := 0, target := some 0 }, by decide +kernel⟩,
   ⟨0, 0, up.put F.aoReadbackFault 1, by decide +kernel⟩⟩

/-- Witnesses of AnalogPortsEncodersAndCaptures, part 2. -/
theorem test_witness_AnalogPortsEncodersAndCaptures_2 :
    (∃ k : Fin 4, ∃ a : Bool, ∃ b : Bool, ∃ c : Bool, ∃ d : Bool, ∃ s : State, (2 < s.get F.encMode k.val ∨ a = c ∨ b = d)) ∧
    (∃ k : Fin 4, ∃ a : Bool, ∃ b : Bool, ∃ s : State, s.get F.encMode k.val ≤ 2) ∧
    (∃ k : Fin 4, ∃ s : State, s.get F.encMode k.val ≤ 2) ∧
    (∃ k : Fin 4, ∃ s : State, 2 < s.get F.encMode k.val) ∧
    (∃ k : Fin 4, ∃ a : Bool, ∃ b : Bool, ∃ d : ℤ, ∃ s : State, s.get F.zMode k.val = 2 ∧ (s.get F.zGate k.val = 0 ∨ a = true ∧ b = true)) ∧
    (∃ k : Fin 4, ∃ a : Bool, ∃ b : Bool, ∃ d : ℤ, ∃ i : Bool, ∃ s : State, s.get F.zMode k.val = 0) ∧
    (∃ k : Fin 4, ∃ l : Fin 3, ∃ s : State, s.get F.encLine k.val = 0) ∧
    (∃ k : Fin 4, ∃ l : Fin 3, ∃ s : State, s.get F.encLine k.val ≠ 0) :=
  ⟨⟨0, true, false, true, true, up, by decide +kernel⟩,
   ⟨0, true, false, up, by decide +kernel⟩,
   ⟨0, up, by decide +kernel⟩,
   ⟨0, up.put F.encMode 3, by decide +kernel⟩,
   ⟨0, true, true, 1, puts up [(F.zMode, 0, 2), (F.zGate, 0, 1)], by decide +kernel⟩,
   ⟨0, true, true, -1, false, up, by decide +kernel⟩,
   ⟨0, 1, up, by decide +kernel⟩,
   ⟨0, 1, up.put F.encLine 1, by decide +kernel⟩⟩

/-- Witnesses of AnalogPortsEncodersAndCaptures, part 3. -/
theorem test_witness_AnalogPortsEncodersAndCaptures_3 :
    (∃ u : Fin 10, ∃ b : Bool, ∃ n : ℕ, ∃ s : State, CapOn u.val s ∧ s.capGet F.capMode F.tcapMode u.val = 1 ∧ s.capGet F.startSrc F.tcapStartSrc u.val ≠ 0 ∧ (s.cap u.val).queue.length < 16) ∧
    (∃ u : Fin 10, ∃ x : ℕ, ∃ n : ℕ, ∃ s : State, CapOn u.val s ∧ s.capGet F.capMode F.tcapMode u.val = 2 ∧ s.capGet F.startSrc F.tcapStartSrc u.val ≠ s.capGet F.stopSrc F.tcapStopSrc u.val ∧ s.capGet F.stopSrc F.tcapStopSrc u.val ≠ 0 ∧ (s.cap u.val).start = some x ∧ (s.cap u.val).queue.length < 16) ∧
    (∃ u : Fin 8, ∃ b : Bool, ∃ n : ℕ, ∃ s : State, s.get F.capMode u.val = 1 ∧ s.get F.startSrc u.val ≠ 0 ∧ 16 ≤ (s.cap u.val).queue.length) ∧
    (∃ u : Fin 8, ∃ n : ℕ, ∃ s : State, s.get F.capMode u.val = 2 ∧ s.get F.startSrc u.val ≠ s.get F.stopSrc u.val ∧ s.get F.stopSrc u.val ≠ 0 ∧ (s.cap u.val).start = none) ∧
    (∃ u : Fin 10, ∃ a : Bool, ∃ b : Bool, ∃ n : ℕ, ∃ s : State, s.capGet F.capMode F.tcapMode u.val = 0) ∧
    (∃ u : Fin 8, ∃ x : ℕ, ∃ s : State, (s.cap u.val).start = some x ∧ x + 1000000 * s.get F.intervalTimeout u.val < 5 * s.tick) ∧
    (∃ u : Fin 10, ∃ s : State, ((s.cap u.val).start = none ∨ (∃ x, (s.cap u.val).start = some x ∧ 5 * s.tick ≤ x + 1000000 * s.capGet F.intervalTimeout F.tcapIntervalTimeout u.val))) :=
  ⟨⟨0, false, 1000, capped [(F.capMode, 0, 1), (F.startSrc, 0, 1)] { u := 0 }, by unfold CapOn; decide +kernel⟩,
   ⟨0, 500, 1000, capped [(F.capMode, 0, 2), (F.startSrc, 0, 1), (F.stopSrc, 0, 2)] { u := 0, start := some 500 }, by unfold CapOn; decide +kernel⟩,
   ⟨0, false, 1000, capped [(F.capMode, 0, 1), (F.startSrc, 0, 1)] { u := 0, queue := List.replicate 16 { time := 1, val := 2 } }, by decide +kernel⟩,
   ⟨0, 1000, capped [(F.capMode, 0, 2), (F.startSrc, 0, 1), (F.stopSrc, 0, 2)] { u := 0 }, by decide +kernel⟩,
   ⟨0, true, true, 1000, up, by decide +kernel⟩,
   ⟨0, 500, capped [(F.beatIndex, 0, 100000)] { u := 0, start := some 500 }, by decide +kernel⟩,
   ⟨0, up, by decide +kernel⟩⟩

/-- Witnesses of FilterLanesSettleAndFault. -/
theorem test_witness_FilterLanesSettleAndFault :
    (∃ k : Fin 8, ∃ x : FaSample, ∃ s : State, s.get F.faEnable k.val ≠ 0 ∧ (s.get F.faState k.val = 1 ∨ s.get F.faState k.val = 2) ∧ s.field.failed = false) ∧
    (∃ k : Fin 8, ∃ x : FaSample, ∃ s : State, (s.get F.faEnable k.val = 0 ∨ s.get F.faState k.val = 3 ∨ s.field.failed = true)) ∧
    (∃ k : Fin 8, ∃ s : State, (s.fa k.val).due = true ∧ (s.fa k.val).dueAt < s.now ∧ s.get F.faEnable k.val ≠ 0 ∧ s.get F.faState k.val ≠ 4) ∧
    (∃ k : Fin 8, ∃ s : State, ((s.fa k.val).due = false ∨ s.now ≤ (s.fa k.val).dueAt)) ∧
    (∃ k : Fin 8, ∃ n : ℕ, ∃ s : State, s.get F.faEnable k.val ≠ 0 ∧ s.get F.faState k.val ≠ 0 ∧ s.get F.faState k.val ≠ 4) ∧
    (∃ k : Fin 8, ∃ n : ℕ, ∃ s : State, (s.get F.faEnable k.val = 0 ∨ s.get F.faState k.val = 0)) ∧
    (∃ k : Fin 8, ∃ s : State, s.get F.faState k.val = 3 ∧ s.get F.faEnable k.val ≠ 0) ∧
    (∃ k : Fin 8, ∃ s : State, s.get F.faState k.val ≠ 3) :=
  ⟨⟨0, { count := 5, deliver := 1000000000 }, (filtered 1 { k := 0 }).put F.unsettledLeft 4, by decide +kernel⟩,
   ⟨0, { count := 5, deliver := 1000000000 }, up, by decide +kernel⟩,
   ⟨0, filtered 2 { k := 0, due := true }, by decide +kernel⟩,
   ⟨0, up, by decide +kernel⟩,
   ⟨0, 1, filtered 2 { k := 0 }, by decide +kernel⟩,
   ⟨0, 1, up, by decide +kernel⟩,
   ⟨0, filtered 3 { k := 0 }, by decide +kernel⟩,
   ⟨0, up, by decide +kernel⟩⟩

/-- Witnesses of TheServoFollowsItsGrandmaster, part 1. -/
theorem test_witness_TheServoFollowsItsGrandmaster_1 :
    (∃ k : Fin 12, ∃ g : ℕ, ∃ d : ℕ, ∃ raw : ℤ, ∃ s : State, (d ≠ s.get F.ptpDomain ∨ s.time.gm ≠ some g ∨ s.isSource k.val = false)) ∧
    (∃ k : Fin 12, ∃ g : ℕ, ∃ raw : ℤ, ∃ off : ℤ, ∃ s : State, off = s.syncOffset k.val raw ∧ s.time.gm = some g ∧ s.isSource k.val = true ∧ s.time.firstSync = true ∧ s.time.measured = true ∧ 8 ≤ s.time.count ∧ s.get F.pairSource = 0 ∧ s.get F.align = 2 ∧ absI off ≤ 50) ∧
    (∃ k : Fin 12, ∃ g : ℕ, ∃ raw : ℤ, ∃ off : ℤ, ∃ s : State, off = s.syncOffset k.val raw ∧ s.time.gm = some g ∧ s.isSource k.val = true ∧ s.time.firstSync = true ∧ s.time.measured = true ∧ 8 ≤ s.time.count ∧ s.get F.pairSource = 0 ∧ s.get F.align = 2 ∧ 50 < absI off ∧ absI off ≤ 10000000 ∧ s.time.off50 = 3) ∧
    (∃ k : Fin 12, ∃ g : ℕ, ∃ raw : ℤ, ∃ off : ℤ, ∃ s : State, off = s.syncOffset k.val raw ∧ s.time.gm = some g ∧ s.isSource k.val = true ∧ s.time.firstSync = true ∧ s.time.measured = true ∧ s.time.count = 7 ∧ 2 * (s.beat.opBeats - s.time.lastRx) ≤ 3 * s.syncBeats ∧ s.get F.pairSource = 0) ∧
    (∃ k : Fin 12, ∃ g : ℕ, ∃ raw : ℤ, ∃ off : ℤ, ∃ s : State, off = s.syncOffset k.val raw ∧ s.time.gm = some g ∧ s.isSource k.val = true ∧ s.time.firstSync = true ∧ s.time.measured = true ∧ 8 ≤ s.time.count ∧ s.get F.pairSource = 1 ∧ s.time.disagree = 15 ∧ 200 < absI off) ∧
    (∃ k : Fin 12, ∃ g : ℕ, ∃ raw : ℤ, ∃ s : State, s.time.gm = some g ∧ s.isSource k.val = true) ∧
    (∃ k : Fin 12, ∃ g : ℕ, ∃ raw : ℤ, ∃ s : State, s.time.gm ≠ some g ∧ s.get F.ptpProfile = 1 ∧ s.get F.ptpRole k.val ≠ 0) ∧
    (∃ a : Announce, ∃ s : State, a.domain = s.get F.ptpDomain ∧ s.sourceRole a.port.val = true ∧ a.port.val ∉ s.time.linkDown ∧ s.time.gm = none) :=
  ⟨⟨0, 7, 0, 5, up, by decide +kernel⟩,
   ⟨0, 7, 5, 5, clocked [(F.align, 0, 2)] {}, by decide +kernel⟩,
   ⟨0, 7, 60, 60, clocked [(F.align, 0, 2), (F.timeLocked, 0, 1)] { off50 := 3 }, by decide +kernel⟩,
   ⟨0, 7, 5, 5, { clocked [] {} with time := { gm := some 7, firstSync := true, measured := true, count := 7 } }, by decide +kernel⟩,
   ⟨0, 7, 300, 300, clocked [(F.pairSource, 0, 1)] { disagree := 15 }, by decide +kernel⟩,
   ⟨0, 7, 500, clocked [] {}, by decide +kernel⟩,
   ⟨0, 9, 500, clocked [(F.ptpProfile, 0, 1), (F.ptpRole, 0, 1)] {}, by decide +kernel⟩,
   ⟨ann, up.put F.ptpRole 1, by decide +kernel⟩⟩

/-- Witnesses of TheServoFollowsItsGrandmaster, part 2. -/
theorem test_witness_TheServoFollowsItsGrandmaster_2 :
    (∃ a : Announce, ∃ g : ℕ, ∃ s : State, a.domain = s.get F.ptpDomain ∧ s.sourceRole a.port.val = true ∧ a.port.val ∉ s.time.linkDown ∧ s.time.gm = some g) ∧
    (∃ a : Announce, ∃ s : State, (a.domain ≠ s.get F.ptpDomain ∨ s.sourceRole a.port.val = false)) ∧
    (∃ g : ℕ, ∃ k : Fin 12, ∃ old : ℕ, ∃ s : State, s.time.gm = some old ∧ old ≠ g) ∧
    (∃ g : ℕ, ∃ k : Fin 12, ∃ s : State, s.time.gm = some g) ∧
    (∃ c : ℕ, ∃ g : ℕ, ∃ s : State, s.time.gm = some g ∧ s.gmSilent c = true) ∧
    (∃ c : ℕ, ∃ s : State, (s.time.gm = none ∨ s.gmSilent c = false)) ∧
    (∃ s : State, s.get F.align = 3 ∧ s.get F.timeLocked = 1) ∧
    (∃ s : State, s.get F.align ≠ 3) :=
  ⟨⟨ann, 7, clocked [(F.ptpRole, 0, 1)] {}, by decide +kernel⟩,
   ⟨{ ann with domain := 3 }, up, by decide +kernel⟩,
   ⟨9, 1, 7, clocked [] {}, by decide +kernel⟩,
   ⟨7, 1, clocked [] {}, by decide +kernel⟩,
   ⟨1, 7, { clocked [(F.align, 0, 2)] { announces := [ann] } with beat := { runs := true, opBeats := 12000 } }, by decide +kernel⟩,
   ⟨1, up, by decide +kernel⟩,
   ⟨puts up [(F.align, 0, 3), (F.timeLocked, 0, 1)], by decide +kernel⟩,
   ⟨up, by decide +kernel⟩⟩

/-- Witnesses of PtpPortsForwardAndCount. -/
theorem test_witness_PtpPortsForwardAndCount :
    (∃ k : Fin 12, ∃ s : State, valAt s.time.rxRaised k.val = none) ∧
    (∃ k : Fin 12, ∃ x : ℕ, ∃ s : State, valAt s.time.rxRaised k.val = some x ∧ s.beat.opBeats < x + 40000) ∧
    (∃ k : Fin 12, ∃ v6 : Bool, ∃ tr : Bool, ∃ c : ℤ, ∃ i : ℤ, ∃ e : ℤ, ∃ s : State, s.quiet = false ∧ s.get F.ptpRole k.val = 4 ∧ s.get F.ptpRole (ringMate k.val) = 4 ∧ ringMate k.val ∉ s.time.linkDown ∧ (v6 = false ∨ tr = true)) ∧
    (∃ k : Fin 12, ∃ c : ℤ, ∃ i : ℤ, ∃ e : ℤ, ∃ s : State, s.quiet = false ∧ s.get F.ptpRole k.val = 4 ∧ s.get F.ptpRole (ringMate k.val) = 4 ∧ ringMate k.val ∉ s.time.linkDown) ∧
    (∃ k : Fin 12, ∃ v6 : Bool, ∃ tr : Bool, ∃ c : ℤ, ∃ i : ℤ, ∃ e : ℤ, ∃ s : State, s.quiet = false ∧ s.get F.ptpRole k.val = 4 ∧ s.get F.ptpRole (ringMate k.val) = 4 ∧ ringMate k.val ∈ s.time.linkDown) ∧
    (∃ k : Fin 12, ∃ v6 : Bool, ∃ tr : Bool, ∃ c : ℤ, ∃ i : ℤ, ∃ e : ℤ, ∃ s : State, (s.quiet = true ∨ s.get F.ptpRole k.val ≠ 4 ∨ s.get F.ptpRole (ringMate k.val) ≠ 4)) :=
  ⟨⟨0, up, by decide +kernel⟩,
   ⟨0, 0, { up with time := { rxRaised := [(0, 0)] } }, by decide +kernel⟩,
   ⟨0, false, false, 10, 100, 350, puts up [(F.ptpRole, 0, 4), (F.ptpRole, 1, 4)], by decide +kernel⟩,
   ⟨0, 10, 100, 350, puts up [(F.ptpRole, 0, 4), (F.ptpRole, 1, 4)], by decide +kernel⟩,
   ⟨0, false, false, 10, 100, 350, { puts up [(F.ptpRole, 0, 4), (F.ptpRole, 1, 4)] with time := { linkDown := [1] } }, by decide +kernel⟩,
   ⟨0, false, false, 10, 100, 350, up, by decide +kernel⟩⟩

/-- Witnesses of TimePinsPulse, part 1. -/
theorem test_witness_TimePinsPulse_1 :
    (∃ s : State, s.get F.ppsInOk = 1 ∧ s.time.ppsLast + 2000000000 ≤ s.nowNs) ∧
    (∃ s : State, (s.get F.ppsInOk = 0 ∨ s.nowNs < s.time.ppsLast + 2000000000)) ∧
    (∃ s : State, s.now % 4000 = 0 ∧ s.pinsDriven = true ∧ (s.get F.ppsOutGate = 0 ∨ s.get F.timeLocked = 1) ∧ s.time.ppsGated = false) ∧
    (∃ s : State, s.now % 4000 = 0 ∧ s.pinsDriven = true ∧ s.get F.ppsOutGate = 1 ∧ s.get F.timeLocked = 0 ∧ s.time.ppsGated = false) ∧
    (∃ s : State, (s.now % 4000 ≠ 0 ∨ s.pinsDriven = false)) ∧
    (∃ n : Fin 2, ∃ g : Grid, ∃ s : State, s.pinsDriven = true ∧ s.get F.tpMode (2 + n.val) = 1 ∧ (s.pin (2 + n.val)).starts = none ∧ (s.pin (2 + n.val)).grid = some g ∧ g.nextAt (max (s.now * 250000) ((s.pin (2 + n.val)).last + 1)) < (s.now + 1) * 250000) ∧
    (∃ n : Fin 2, ∃ f : ℕ, ∃ s : State, s.pinsDriven = true ∧ s.get F.tpMode (2 + n.val) = 1 ∧ (s.pin (2 + n.val)).starts = some f ∧ f < (s.now + 1) * 250000 ∧ (s.pin (2 + n.val)).grid = none) ∧
    (∃ n : Fin 2, ∃ s : State, (s.pinsDriven = false ∨ s.get F.tpMode (2 + n.val) ≠ 1)) :=
  ⟨⟨puts up [(F.ppsInOk, 0, 1), (F.beatIndex, 0, 8000)], by decide +kernel⟩,
   ⟨up, by decide +kernel⟩,
   ⟨{ puts up [(F.tpWidth, 1, 100), (F.ppsOutGate, 0, 0)] with time := { ppsGated := false } }, by decide +kernel⟩,
   ⟨{ puts up [(F.ppsOutGate, 0, 1)] with time := { ppsGated := false } }, by decide +kernel⟩,
   ⟨State.reset, by decide +kernel⟩,
   ⟨0, { period := 4000, phase := 0, width := 20 }, pinned [(F.tpMode, 2, 1)] { p := 2, grid := some { period := 4000, phase := 0, width := 20 } }, by decide +kernel⟩,
   ⟨0, 1000000100, pinned [(F.tpMode, 2, 1)] { p := 2, starts := some 1000000100 }, by decide +kernel⟩,
   ⟨0, up, by decide +kernel⟩⟩

/-- Witnesses of TimePinsPulse, part 2. -/
theorem test_witness_TimePinsPulse_2 :
    (∃ n : Fin 2, ∃ s : State, s.pinsDriven = true ∧ s.get F.tpMode (2 + n.val) = 2 ∧ s.get F.tpState (2 + n.val) = 2 ∧ s.now * 250000 ≤ s.get F.rimshotTime (2 + n.val) / 5 * 5 ∧ s.get F.rimshotTime (2 + n.val) / 5 * 5 < (s.now + 1) * 250000) ∧
    (∃ n : Fin 2, ∃ s : State, (s.get F.tpState (2 + n.val) ≠ 2 ∨ s.get F.tpMode (2 + n.val) ≠ 2)) ∧
    (∃ n : Fin 2, ∃ s : State, 2 + n.val ∈ s.ev.tpPulses ∧ s.pinsDriven = true ∧ s.get F.tpMode (2 + n.val) = 4 ∧ (s.pin (2 + n.val)).pulseEnd ≤ s.nowNs) ∧
    (∃ n : Fin 2, ∃ s : State, 2 + n.val ∈ s.ev.tpPulses ∧ s.pinsDriven = true ∧ s.get F.tpMode (2 + n.val) = 4 ∧ s.nowNs < (s.pin (2 + n.val)).pulseEnd) ∧
    (∃ n : Fin 2, ∃ s : State, 2 + n.val ∉ s.ev.tpPulses) :=
  ⟨⟨0, puts up [(F.tpMode, 2, 2), (F.tpState, 2, 2), (F.rimshotTime, 2, 1000000500)], by decide +kernel⟩,
   ⟨0, up, by decide +kernel⟩,
   ⟨0, { puts up [(F.tpMode, 2, 4)] with ev := { tpPulses := [2] } }, by decide +kernel⟩,
   ⟨0, { pinned [(F.tpMode, 2, 4)] { p := 2, pulseEnd := 2000000000 } with ev := { tpPulses := [2] } }, by decide +kernel⟩,
   ⟨0, up, by decide +kernel⟩⟩

/-- Witnesses of CanFramesAreFilteredAndStored. -/
theorem test_witness_CanFramesAreFilteredAndStored :
    (∃ k : Fin 8, ∃ f : CanFrame, ∃ s : State, (s.get F.canBusMode k.val = 0 ∨ s.get F.canErrState k.val = 2)) ∧
    (∃ k : Fin 8, ∃ f : CanFrame, ∃ s : State, s.get F.canBusMode k.val ≠ 0 ∧ s.get F.canErrState k.val ≠ 2 ∧ f.fdf = true ∧ s.get F.fdEnable k.val = 0) ∧
    (∃ k : Fin 8, ∃ f : CanFrame, ∃ s : State, Monitors k.val f s ∧ s.filterOf k.val f = none) ∧
    (∃ k : Fin 8, ∃ f : CanFrame, ∃ e : ℕ, ∃ o : ℕ, ∃ s : State, Monitors k.val f s ∧ s.filterOf k.val f = some e ∧ s.get F.fAction e = 0 ∧ o = 128 * k.val + s.get F.fObject e ∧ s.get F.objDir o = 1 ∧ s.can.locked = false ∧ f.atEdge = false) ∧
    (∃ k : Fin 8, ∃ f : CanFrame, ∃ e : ℕ, ∃ o : ℕ, ∃ s : State, Monitors k.val f s ∧ s.filterOf k.val f = some e ∧ s.get F.fAction e = 0 ∧ o = 128 * k.val + s.get F.fObject e ∧ s.get F.objDir o = 1 ∧ (s.can.locked = true ∨ f.atEdge = true) ∧ (s.canObj o).shadow = none) ∧
    (∃ k : Fin 8, ∃ f : CanFrame, ∃ e : ℕ, ∃ o : ℕ, ∃ g : CanFrame, ∃ s : State, Monitors k.val f s ∧ s.filterOf k.val f = some e ∧ s.get F.fAction e = 0 ∧ o = 128 * k.val + s.get F.fObject e ∧ s.get F.objDir o = 1 ∧ (s.can.locked = true ∨ f.atEdge = true) ∧ (s.canObj o).shadow = some g) ∧
    (∃ k : Fin 8, ∃ f : CanFrame, ∃ e : ℕ, ∃ s : State, Monitors k.val f s ∧ s.filterOf k.val f = some e ∧ (s.get F.fAction e = 1 ∨ s.get F.objDir (128 * k.val + s.get F.fObject e) ≠ 1)) :=
  ⟨⟨0, frame0, up, by decide +kernel⟩,
   ⟨0, { frame0 with fdf := true }, (bus {}).put F.fdEnable 0, by decide +kernel⟩,
   ⟨0, { frame0 with id := 6 }, bus {}, by constructor <;> decide +kernel, by decide +kernel⟩,
   ⟨0, frame0, 0, 3, bus {}, by constructor <;> decide +kernel, by decide +kernel⟩,
   ⟨0, frame0, 0, 3, bus { locked := true }, by constructor <;> decide +kernel, by decide +kernel⟩,
   ⟨0, frame0, 0, 3, { frame0 with data := 1 }, bus { locked := true, objs := [{ o := 3, shadow := some { frame0 with data := 1 } }] }, by constructor <;> decide +kernel, by decide +kernel⟩,
   ⟨0, frame0, 0, (bus {}).put F.fAction 1, by constructor <;> decide +kernel, by decide +kernel⟩⟩

/-- Witnesses of CanControllersSendAndFail, part 1. -/
theorem test_witness_CanControllersSendAndFail_1 :
    (∃ k : Fin 8, ∃ j : Fin 128, ∃ s : State, s.canSends (128 * k.val + j.val) = true ∧ s.get F.canTec k.val = 0) ∧
    (∃ k : Fin 8, ∃ j : Fin 128, ∃ s : State, s.canSends (128 * k.val + j.val) = true ∧ s.get F.canTec k.val ≠ 0 ∧ s.get F.canTec k.val < 256) ∧
    (∃ k : Fin 8, ∃ j : Fin 128, ∃ s : State, s.canSends (128 * k.val + j.val) = false) ∧
    (∃ k : Fin 8, ∃ n : ℕ, ∃ o : Option (Fin 128), ∃ a : ℕ, ∃ b : ℕ, ∃ s : State, s.get F.canBusMode k.val = 2 ∧ s.get F.canErrState k.val ≠ 2) ∧
    (∃ k : Fin 8, ∃ n : ℕ, ∃ a : ℕ, ∃ b : ℕ, ∃ s : State, s.get F.canBusMode k.val = 1 ∧ s.get F.canErrState k.val ≠ 2) ∧
    (∃ k : Fin 8, ∃ n : ℕ, ∃ o : Option (Fin 128), ∃ a : ℕ, ∃ b : ℕ, ∃ s : State, s.get F.canBusMode k.val = 0) ∧
    (∃ k : Fin 8, ∃ j : Fin 128, ∃ s : State, s.canSends (128 * k.val + j.val) = true ∧ s.get F.canErrState k.val = 0 ∧ s.get F.objAckErrRun (128 * k.val + j.val) < 63 ∧ s.get F.objSingleShot (128 * k.val + j.val) = 0 ∧ s.get F.canTec k.val < 120) ∧
    (∃ k : Fin 8, ∃ j : Fin 128, ∃ s : State, s.canSends (128 * k.val + j.val) = true ∧ s.get F.canErrState k.val = 1 ∧ 63 ≤ s.get F.objAckErrRun (128 * k.val + j.val)) :=
  ⟨⟨0, 3, sending [], by decide +kernel⟩,
   ⟨0, 3, sending [(F.canTec, 0, 9)], by decide +kernel⟩,
   ⟨0, 3, up, by decide +kernel⟩,
   ⟨0, 1, none, 3, 4, bus {}, by decide +kernel⟩,
   ⟨0, 1, 30, 40, sending [], by decide +kernel⟩,
   ⟨0, 1, none, 3, 4, up, by decide +kernel⟩,
   ⟨0, 3, sending [], by decide +kernel⟩,
   ⟨0, 3, sending [(F.canErrState, 0, 1), (F.objAckErrRun, 3, 63), (F.canTec, 0, 128)], by decide +kernel⟩⟩

/-- Witnesses of CanControllersSendAndFail, part 2. -/
theorem test_witness_CanControllersSendAndFail_2 :
    (∃ k : Fin 8, ∃ j : Fin 128, ∃ s : State, s.canSends (128 * k.val + j.val) = false) ∧
    (∃ k : Fin 8, ∃ j : Fin 128, ∃ s : State, s.get F.objNoPeer (128 * k.val + j.val) = 1 ∧ ((s.canObj (128 * k.val + j.val)).resume = true ∨ 1024 + (128 * k.val + j.val) ∈ s.can.sys)) ∧
    (∃ k : Fin 8, ∃ j : Fin 128, ∃ s : State, (s.get F.objNoPeer (128 * k.val + j.val) = 0 ∨ (s.canObj (128 * k.val + j.val)).resume = false ∧ 1024 + (128 * k.val + j.val) ∉ s.can.sys)) ∧
    (∃ k : Fin 8, ∃ s : State, s.get F.canErrState k.val = 2 ∧ s.get F.busoffRecoveryCfg k.val = 0) ∧
    (∃ k : Fin 8, ∃ s : State, s.get F.canErrState k.val ≠ 2) ∧
    (∃ k : Fin 8, ∃ s : State, s.get F.canErrState k.val = 2 ∧ (s.get F.busoffRecoveryCfg k.val = 1 ∨ (s.canCtl k.val).recovering = true)) ∧
    (∃ k : Fin 8, ∃ s : State, s.get F.canErrState k.val ≠ 2) ∧
    (∃ k : Fin 8, ∃ s : State, s.get F.canBusMode k.val = 3 ∧ (s.canCtl k.val).since + 800 ≤ s.beat.opBeats ∧ (s.canCtl k.val).entry < 11) :=
  ⟨⟨0, 3, up, by decide +kernel⟩,
   ⟨0, 3, { puts up [(F.objNoPeer, 3, 1)] with can := { objs := [{ o := 3, resume := true }] } }, by decide +kernel⟩,
   ⟨0, 3, up, by decide +kernel⟩,
   ⟨0, puts up [(F.canErrState, 0, 2), (F.busoffRecoveryCfg, 0, 0)], by decide +kernel⟩,
   ⟨0, up, by decide +kernel⟩,
   ⟨0, puts up [(F.canErrState, 0, 2), (F.canMode, 0, 1)], by decide +kernel⟩,
   ⟨0, up, by decide +kernel⟩,
   ⟨0, searching 800 { k := 0 }, by decide +kernel⟩⟩

/-- Witnesses of CanControllersSendAndFail, part 3. -/
theorem test_witness_CanControllersSendAndFail_3 :
    (∃ k : Fin 8, ∃ s : State, s.get F.canBusMode k.val = 3 ∧ (s.canCtl k.val).since + 800 ≤ s.beat.opBeats ∧ 11 ≤ (s.canCtl k.val).entry ∧ (s.canCtl k.val).rounds + 1 < s.get F.abrRounds k.val) ∧
    (∃ k : Fin 8, ∃ s : State, s.get F.canBusMode k.val = 3 ∧ (s.canCtl k.val).since + 800 ≤ s.beat.opBeats ∧ 11 ≤ (s.canCtl k.val).entry ∧ s.get F.abrRounds k.val ≤ (s.canCtl k.val).rounds + 1) ∧
    (∃ k : Fin 8, ∃ s : State, (s.get F.canBusMode k.val ≠ 3 ∨ s.beat.opBeats < (s.canCtl k.val).since + 800)) ∧
    (∃ k : Fin 8, ∃ n : ℕ, ∃ s : State, s.get F.canFault k.val ≠ 2 ∧ s.get F.canMode k.val ≠ 0) ∧
    (∃ k : Fin 8, ∃ n : ℕ, ∃ s : State, (s.get F.canFault k.val = 2 ∨ s.get F.canMode k.val = 0)) ∧
    (∃ k : Fin 8, ∃ s : State, s.get F.canFault k.val = 1) ∧
    (∃ k : Fin 8, ∃ s : State, s.get F.canFault k.val ≠ 1) :=
  ⟨⟨0, searching 800 { k := 0, entry := 11 }, by decide +kernel⟩,
   ⟨0, (searching 800 { k := 0, entry := 11 }).put F.abrRounds 1, by decide +kernel⟩,
   ⟨0, up, by decide +kernel⟩,
   ⟨0, 1, sending [], by decide +kernel⟩,
   ⟨0, 1, up, by decide +kernel⟩,
   ⟨0, puts up [(F.canFault, 0, 1), (F.canMode, 0, 1)], by decide +kernel⟩,
   ⟨0, up, by decide +kernel⟩⟩

/-- Witnesses of TheJournalCommitsAndRolls, part 1. -/
theorem test_witness_TheJournalCommitsAndRolls_1 :
    (∃ r : JRec, ∃ rest : List JRec, ∃ s : State, s.jr.pend = r :: rest ∧ s.get F.rollState ≠ 2 ∧ s.rt.mirror = none) ∧
    (∃ s : State, (s.jr.pend = [] ∨ s.get F.rollState = 2 ∨ s.rt.mirror ≠ none)) ∧
    (∃ s : State, s.get F.rollState = 1 ∧ s.rt.mirror = none ∧ s.jr.pend = [] ∧ s.jr.recBuf = []) ∧
    (∃ s : State, (s.get F.rollState ≠ 1 ∨ s.rt.mirror ≠ none ∨ s.jr.pend ≠ [] ∨ s.jr.recBuf ≠ [])) ∧
    (∃ s : State, s.get F.rollState = 2 ∧ pendBytes s.jr.other * 100 < s.get F.rollThreshold * 134217728) ∧
    (∃ s : State, s.get F.rollState = 2 ∧ pendBytes s.jr.other < 2 ^ 32 ∧ s.get F.rollThreshold * 134217728 ≤ pendBytes s.jr.other * 100) ∧
    (∃ s : State, s.get F.rollState ≠ 2) ∧
    (∃ r : EvRec, ∃ rest : List EvRec, ∃ s : State, s.portFree = true ∧ s.jr.recBuf = r :: rest ∧ s.get F.recFull = 0 ∧ s.get F.recCount < 4194303 ∧ r.src < 394) :=
  ⟨⟨rec0, [], { up with jr := { pend := [rec0] } }, by decide +kernel⟩,
   ⟨up, by decide +kernel⟩,
   ⟨{ up.put F.rollState 1 with jr := { live := [rec0] } }, by decide +kernel⟩,
   ⟨up, by decide +kernel⟩,
   ⟨{ up.put F.rollState 2 with jr := { other := [rec0] } }, by decide +kernel⟩,
   ⟨{ puts up [(F.rollState, 0, 2), (F.rollThreshold, 0, 0)] with jr := { other := [rec0] } }, by decide +kernel⟩,
   ⟨up, by decide +kernel⟩,
   ⟨ev0, [], { up with jr := { recBuf := [ev0] } }, by decide +kernel⟩⟩

/-- Witnesses of TheJournalCommitsAndRolls, part 2. -/
theorem test_witness_TheJournalCommitsAndRolls_2 :
    (∃ r : EvRec, ∃ rest : List EvRec, ∃ s : State, s.portFree = true ∧ s.jr.recBuf = r :: rest ∧ s.get F.recFull = 1) ∧
    (∃ s : State, (s.jr.recBuf = [] ∨ s.jr.pend ≠ [] ∨ s.rt.mirror ≠ none)) :=
  ⟨⟨ev0, [], { up.put F.recFull 1 with jr := { recBuf := [ev0] } }, by decide +kernel⟩,
   ⟨up, by decide +kernel⟩⟩

/-- Witnesses of EventsReachTheirDestinations. -/
theorem test_witness_EventsReachTheirDestinations :
    (∃ r : EvRec, ∃ rs : List EvRec, ∃ rest : List EvRec, ∃ s : State, s.ev.router = r :: rs ++ rest ∧ OneEvent rs rest) ∧
    (∃ s : State, s.ev.router = []) :=
  ⟨⟨ev0, [{ ev0 with cont := true }], [], { up with ev := { router := [ev0, { ev0 with cont := true }] } }, by unfold OneEvent; decide +kernel⟩,
   ⟨up, by decide +kernel⟩⟩

/-- Witnesses of FaultContextsServeFaults, part 1. -/
theorem test_witness_FaultContextsServeFaults_1 :
    (∃ f : FaultE, ∃ rest : List FaultE, ∃ s : State, s.ev.faults = f :: rest ∧ (ctxOf (triadSource f.src) s).running = none) ∧
    (∃ f : FaultE, ∃ rest : List FaultE, ∃ g : FaultE, ∃ s : State, s.ev.faults = f :: rest ∧ (ctxOf (triadSource f.src) s).running = some g ∧ g.sev < 4 ∧ g.sev < f.sev) ∧
    (∃ f : FaultE, ∃ rest : List FaultE, ∃ g : FaultE, ∃ s : State, s.ev.faults = f :: rest ∧ (ctxOf (triadSource f.src) s).running = some g ∧ g.sev < 4 ∧ f.sev ≤ g.sev ∧ (ctxOf (triadSource f.src) s).queue.length < 16) ∧
    (∃ f : FaultE, ∃ rest : List FaultE, ∃ g : FaultE, ∃ s : State, s.ev.faults = f :: rest ∧ (ctxOf (triadSource f.src) s).running = some g ∧ (4 ≤ g.sev ∨ f.sev ≤ g.sev ∧ 16 ≤ (ctxOf (triadSource f.src) s).queue.length)) ∧
    (∃ s : State, s.ev.faults = []) ∧
    (∃ b : Bool, ∃ n : ℕ, ∃ f : FaultE, ∃ s : State, (ctxOf b s).running = some f ∧ (ctxOf b s).queue = [] ∧ (ctxOf b s).preempted = []) ∧
    (∃ b : Bool, ∃ n : ℕ, ∃ f : FaultE, ∃ p : FaultE, ∃ ps : List FaultE, ∃ s : State, (ctxOf b s).running = some f ∧ (ctxOf b s).preempted = p :: ps ∧ (∀ q ∈ (ctxOf b s).queue, q.sev ≤ p.sev)) ∧
    (∃ b : Bool, ∃ n : ℕ, ∃ f : FaultE, ∃ g : FaultE, ∃ s : State, (ctxOf b s).running = some f ∧ (ctxOf b s).preempted = [] ∧ (ctxOf b s).queue = [g]) :=
  ⟨⟨fault0 340 2, [], { up with ev := { faults := [fault0 340 2] } }, by decide +kernel⟩,
   ⟨fault0 340 3, [], fault0 341 2, { up with ev := { faults := [fault0 340 3], triad := { running := some (fault0 341 2) }, sup := { running := some (fault0 341 2) } } }, by decide +kernel⟩,
   ⟨fault0 340 2, [], fault0 341 2, { up with ev := { faults := [fault0 340 2], triad := { running := some (fault0 341 2) }, sup := { running := some (fault0 341 2) } } }, by decide +kernel⟩,
   ⟨fault0 340 2, [], fault0 341 2, { up with ev := { faults := [fault0 340 2], triad := { running := some (fault0 341 2), queue := List.replicate 16 (fault0 340 2) }, sup := { running := some (fault0 341 2), queue := List.replicate 16 (fault0 340 2) } } }, by decide +kernel⟩,
   ⟨up, by decide +kernel⟩,
   ⟨true, 30, fault0 330 2, { up with ev := { triad := { running := some (fault0 330 2) } } }, by decide +kernel⟩,
   ⟨true, 30, fault0 330 3, fault0 331 2, [], { up with ev := { triad := { running := some (fault0 330 3), preempted := [fault0 331 2], queue := [fault0 332 1] } } }, by decide +kernel⟩,
   ⟨false, 30, fault0 340 2, fault0 341 1, { up with ev := { sup := { running := some (fault0 340 2), queue := [fault0 341 1] } } }, by decide +kernel⟩⟩

/-- Witnesses of FaultContextsServeFaults, part 2. -/
theorem test_witness_FaultContextsServeFaults_2 :
    (∃ b : Bool, ∃ n : ℕ, ∃ s : State, (ctxOf b s).running = none) ∧
    (∃ f : FaultE, ∃ s : State, s.fatal? = some f ∧ (splitSource f.src = false ∨ s.get F.triad ≠ 2)) ∧
    (∃ f : FaultE, ∃ s : State, s.fatal? = some f ∧ (f.src = 330 ∨ f.src = 391 ∨ 402 ≤ f.src ∧ f.src < 434) ∧ s.get F.triad = 2) ∧
    (∃ s : State, s.fatal? = none) :=
  ⟨⟨true, 30, up, by decide +kernel⟩,
   ⟨fault0 336 4, { up with ev := { triad := { running := some (fault0 336 4) } } }, by decide +kernel⟩,
   ⟨fault0 330 4, { up.put F.triad 2 with ev := { triad := { running := some (fault0 330 4) } } }, by decide +kernel⟩,
   ⟨up, by decide +kernel⟩⟩

/-- Witnesses of TheWatchdogCountsItsExpiries, part 1. -/
theorem test_witness_TheWatchdogCountsItsExpiries_1 :
    (∃ k : ℕ, ∃ w : WdWrite, ∃ s : State, s.wd.running = true ∧ s.get F.wdState = 0 ∧ s.get F.openCount ≤ k ∧ k < s.get F.closeCount ∧ s.wdWritten k w = some true ∧ s.wd.erase ≤ 2) ∧
    (∃ k : ℕ, ∃ b : Bool, ∃ s : State, (b = false ∨ 2 * k ≤ s.get F.openCount + s.get F.closeCount ∨ s.wd.tokenMissed = true ∧ s.get F.mode = 3 ∧ s.get F.haltState = 0)) ∧
    (∃ k : ℕ, ∃ w : WdWrite, ∃ ok : Bool, ∃ s : State, s.wd.running = true ∧ s.get F.wdState = 0 ∧ k < s.get F.closeCount ∧ s.wdWritten k w = some ok ∧ (ok = false ∨ k < s.get F.openCount)) ∧
    (∃ s : State, s.wd.running = true ∧ s.get F.wdState = 0) ∧
    (∃ k : ℕ, ∃ w : WdWrite, ∃ s : State, (s.wd.running = false ∨ s.get F.wdState ≠ 0)) ∧
    (∃ s : State, (s.wd.running = false ∨ s.get F.wdState ≠ 0)) ∧
    (∃ s : State, s.wd.waitAck = true) ∧
    (∃ s : State, s.wd.waitAck = false) :=
  ⟨⟨3000, .byRule true, { up with wd := { running := true } }, by decide +kernel⟩,
   ⟨2000, false, up, by decide +kernel⟩,
   ⟨100, .byFault true, true, { up with wd := { running := true } }, by decide +kernel⟩,
   ⟨{ up with wd := { running := true } }, by decide +kernel⟩,
   ⟨100, .byFault true, up, by decide +kernel⟩,
   ⟨up, by decide +kernel⟩,
   ⟨{ up with wd := { waitAck := true } }, by decide +kernel⟩,
   ⟨up, by decide +kernel⟩⟩

/-- Witnesses of TheWatchdogCountsItsExpiries, part 2. -/
theorem test_witness_TheWatchdogCountsItsExpiries_2 :
    (∃ s : State, s.wd.running = true ∧ s.wd.clockStopped = false ∧ s.get F.wdClockNow < 2) ∧
    (∃ s : State, s.wd.clockStopped = true) ∧
    (∃ n : ℕ, ∃ s : State, s.get F.wdState ≠ 1) ∧
    (∃ n : ℕ, ∃ s : State, s.get F.wdState = 1) ∧
    (∃ s : State, Up s) :=
  ⟨⟨{ up with wd := { running := true } }, by decide +kernel⟩,
   ⟨{ up with wd := { clockStopped := true } }, by decide +kernel⟩,
   ⟨1, up, by decide +kernel⟩,
   ⟨1, up.put F.wdState 1, by decide +kernel⟩,
   ⟨up, by unfold Up; decide +kernel⟩⟩

/-- Witnesses of DebugCommandsAreAudited, part 1. -/
theorem test_witness_DebugCommandsAreAudited_1 :
    (∃ s : State, s.get F.dbg = 2 ∧ s.get F.haltState ≠ 1 ∧ haltAdmitted s = .ok ∧ s.get F.role < 3) ∧
    (∃ s : State, s.get F.dbg = 2 ∧ s.get F.haltState ≠ 1 ∧ haltAdmitted s = .ok ∧ s.get F.role = 3 ∧ s.get F.mode < 8) ∧
    (∃ s : State, (s.get F.dbg ≠ 2 ∨ s.get F.haltState = 1 ∨ haltAdmitted s ≠ .ok)) ∧
    (∃ s : State, s.get F.haltState = 1) ∧
    (∃ s : State, s.get F.haltState ≠ 1) ∧
    (∃ s : State, s.get F.haltState = 1) ∧
    (∃ s : State, s.get F.haltState ≠ 1) ∧
    (∃ s : State, s.get F.dbg ≠ 0) :=
  ⟨⟨puts up [(F.mode, 0, 2), (F.sec, 0, 2), (F.dbg, 0, 2)], by decide +kernel⟩,
   ⟨puts standby [(F.sec, 0, 2), (F.dbg, 0, 2)], by decide +kernel⟩,
   ⟨up, by decide +kernel⟩,
   ⟨puts up [(F.mode, 0, 2), (F.dbg, 0, 2), (F.haltState, 0, 1)], by decide +kernel⟩,
   ⟨up, by decide +kernel⟩,
   ⟨puts up [(F.mode, 0, 2), (F.dbg, 0, 2), (F.haltState, 0, 1)], by decide +kernel⟩,
   ⟨up, by decide +kernel⟩,
   ⟨puts up [(F.mode, 0, 2), (F.dbg, 0, 2), (F.haltState, 0, 1)], by decide +kernel⟩⟩

/-- Witnesses of DebugCommandsAreAudited, part 2. -/
theorem test_witness_DebugCommandsAreAudited_2 :
    (∃ s : State, s.get F.dbg = 0) ∧
    (∃ s : State, s.get F.dbg ≠ 0) ∧
    (∃ s : State, s.get F.dbg = 0) ∧
    (∃ d : ℕ, ∃ s : State, s.get F.haltState = 1 ∧ memWf s.mem = true) ∧
    (∃ d : ℕ, ∃ s : State, s.get F.haltState ≠ 1) :=
  ⟨⟨up, by decide +kernel⟩,
   ⟨puts up [(F.mode, 0, 2), (F.dbg, 0, 2), (F.haltState, 0, 1)], by decide +kernel⟩,
   ⟨up, by decide +kernel⟩,
   ⟨0x1122, puts up [(F.mode, 0, 2), (F.dbg, 0, 2), (F.haltState, 0, 1), (F.dbgAddr, 0, 128)], by decide +kernel⟩,
   ⟨5, up, by decide +kernel⟩⟩

/-- Witnesses of AccessesLinksAndCertificatesAreWatched. -/
theorem test_witness_AccessesLinksAndCertificatesAreWatched :
    (∃ c : Fin 4, ∃ a : ℕ, ∃ n : ℕ, ∃ k : Fin 3, ∃ p : Bool, ∃ q : Fin 32, ∃ s : State, s.firstFail c.val (s.mpuBank c.val) a n k.val p = none) ∧
    (∃ c : Fin 4, ∃ a : ℕ, ∃ n : ℕ, ∃ k : Fin 3, ∃ p : Bool, ∃ q : Fin 32, ∃ s : State, ∃ i : ℕ, ∃ b : ℕ, ∃ r : ℕ, ∃ e : ℕ, s.firstFail c.val (s.mpuBank c.val) a n k.val p = some (i, b, r, e) ∧ (p = true ∨ s.rt.taskDef? q.val = none)) ∧
    (∃ s : State, auditBreak s.sec.audit = none) ∧
    (∃ q : ℕ, ∃ s : State, auditBreak s.sec.audit = some q) ∧
    (∃ k : Fin 4, ∃ s : State, s.get F.timeLocked = 1 ∧ s.get F.certState k.val = 1 ∧ k.val ∉ s.units.expiring ∧ s.get F.certNotAfter k.val ≤ s.ptpSecond + 2592000) ∧
    (∃ k : Fin 4, ∃ s : State, (s.get F.timeLocked = 0 ∨ s.get F.certState k.val ≠ 1)) ∧
    (∃ k : Fin 4, ∃ s : State, s.get F.timeLocked = 1 ∧ s.get F.certState k.val = 1 ∧ s.get F.certNotAfter k.val ≤ s.ptpSecond) ∧
    (∃ k : Fin 4, ∃ s : State, (s.get F.timeLocked = 0 ∨ s.get F.certState k.val ≠ 1)) :=
  ⟨⟨0, 64, 0, 0, true, 0, { up with sec := { regions := [(0, 1 + 2 + 16 + 64 * 2 ^ 16 + 512 * 2 ^ 64 + 0xFF00)] } }, by decide +kernel⟩,
   ⟨0, 64, 4, 0, true, 0, up, 0, 64, 16, 1, by decide +kernel⟩,
   ⟨up, by decide +kernel⟩,
   ⟨2, { up with sec := { audit := [audit0 1 0, audit0 2 (2 ^ 64)] } }, if_neg (by show ¬ 2 ^ 64 = Config.sha384 _ % 2 ^ 64; omega)⟩,
   ⟨1, puts up [(F.timeLocked, 0, 1), (F.certState, 1, 1), (F.certNotAfter, 1, 100)], by decide +kernel⟩,
   ⟨1, up, by decide +kernel⟩,
   ⟨1, puts up [(F.timeLocked, 0, 1), (F.certState, 1, 1), (F.certNotAfter, 1, 1)], by decide +kernel⟩,
   ⟨1, up, by decide +kernel⟩⟩

/-- Witnesses of PowerIsLostAndRegained, part 1. -/
theorem test_witness_PowerIsLostAndRegained_1 :
    (∃ s : State, Up s ∧ s.get F.feedA = 0 ∧ s.get F.feedB = 0) ∧
    (∃ c : PowerCut, ∃ s : State, Up s ∧ s.get F.feedA = 0 ∧ s.get F.feedB = 0) ∧
    (∃ c : Option PowerCut, ∃ s : State, (s.pwr.off = true ∨ s.get F.mode = 0 ∨ s.get F.feedA ≠ 0 ∨ s.get F.feedB ≠ 0)) ∧
    (∃ n : ℕ, ∃ s : State, Up s) ∧
    (∃ n : ℕ, ∃ s : State, s.pwr.off = true) ∧
    (∃ s : State, s.pwr.off = true ∧ s.get F.mode ≠ 0 ∧ (s.get F.feedA ≠ 0 ∨ s.get F.feedB ≠ 0)) ∧
    (∃ s : State, s.pwr.off = false) ∧
    (∃ n : ℕ, ∃ s : State, s.get F.mode = 0) :=
  ⟨⟨puts up [(F.feedA, 0, 0), (F.feedB, 0, 0)], by unfold Up; decide +kernel⟩,
   ⟨{ rail := 3, step := 3 }, puts up [(F.feedA, 0, 0), (F.feedB, 0, 0)], by unfold Up; decide +kernel⟩,
   ⟨none, dark, by decide +kernel⟩,
   ⟨7, up, by unfold Up; decide +kernel⟩,
   ⟨7, dark, by decide +kernel⟩,
   ⟨dark, by decide +kernel⟩,
   ⟨up, by decide +kernel⟩,
   ⟨1, { up.put F.mode 0 with pwr := { off := true } }, by decide +kernel⟩⟩

/-- Witnesses of PowerIsLostAndRegained, part 2. -/
theorem test_witness_PowerIsLostAndRegained_2 :
    (∃ n : ℕ, ∃ s : State, s.get F.mode ≠ 0 ∧ s.get F.pwr = 2 ∧ s.dormantReady = true) ∧
    (∃ n : ℕ, ∃ s : State, s.get F.mode ≠ 0 ∧ s.get F.pwr = 2 ∧ s.dormantReady = false) ∧
    (∃ n : ℕ, ∃ s : State, s.get F.mode ≠ 0 ∧ s.get F.pwr ≠ 2) ∧
    (∃ s : State, s.get F.mode = 1 ∧ s.pair.single = false ∧ s.get F.linkUp = 0) ∧
    (∃ s : State, s.get F.mode ≠ 1) ∧
    (∃ s : State, s.pwr.off = true ∧ (s.get F.feedA = 1 ∨ s.get F.feedB = 1)) ∧
    (∃ b : Bool, ∃ s : State, (s.pwr.off = false ∨ b = false)) :=
  ⟨⟨1, puts up [(F.mode, 0, 2), (F.pwr, 0, 2)], by decide +kernel⟩,
   ⟨1, { puts up [(F.mode, 0, 2), (F.pwr, 0, 2)] with jr := { pend := [rec0] } }, by decide +kernel⟩,
   ⟨1, up, by decide +kernel⟩,
   ⟨State.reset.put F.mode 1, by decide +kernel⟩,
   ⟨up, by decide +kernel⟩,
   ⟨dark, by decide +kernel⟩,
   ⟨true, up, by decide +kernel⟩⟩

/-- Witnesses of TrimGatesAndUngates. -/
theorem test_witness_TrimGatesAndUngates :
    (∃ p : Fin 6, ∃ u : ℕ, ∃ n : ℕ, ∃ s : State, s.pwr.off = false ∧ bitOf (s.get F.trimEnable) p.val = true ∧ s.trimIdle p.val u = true ∧ (∀ g ∈ s.pwr.gated, g.1 ≠ p.val * 256 + u) ∧ (∀ e ∈ s.pwr.entering, e.1 ≠ p.val * 256 + u) ∧ s.refuser p.val n = none) ∧
    (∃ p : Fin 6, ∃ u : ℕ, ∃ n : ℕ, ∃ i : ℕ, ∃ s : State, s.pwr.off = false ∧ bitOf (s.get F.trimEnable) p.val = true ∧ s.trimIdle p.val u = true ∧ (∀ g ∈ s.pwr.gated, g.1 ≠ p.val * 256 + u) ∧ (∀ e ∈ s.pwr.entering, e.1 ≠ p.val * 256 + u) ∧ s.refuser p.val n = some i ∧ i < 7) ∧
    (∃ p : Fin 6, ∃ u : ℕ, ∃ n : ℕ, ∃ s : State, s.trimIdle p.val u = false) ∧
    (∃ p : Fin 6, ∃ w : ℕ, ∃ a : Fin 5, ∃ s : State, (∀ e ∈ s.pwr.entering, e.1 / 256 ≠ p.val)) ∧
    (∃ p : Fin 6, ∃ w : ℕ, ∃ a : Fin 5, ∃ e : ℕ × ℕ, ∃ s : State, e ∈ s.pwr.entering ∧ e.1 / 256 = p.val ∧ a.val < 3) :=
  ⟨⟨5, 0, 0, up, by decide +kernel⟩,
   ⟨5, 0, 2, 3, up, by decide +kernel⟩,
   ⟨5, 1, 0, up, by decide +kernel⟩,
   ⟨5, 1, 4, { up with pwr := { gated := [(5 * 256, 0)] } }, by decide +kernel⟩,
   ⟨5, 1, 1, (5 * 256, 1), { up with pwr := { entering := [(5 * 256, 1)] } }, by decide +kernel⟩⟩

/-- Witnesses of TheButtonsAndTheKeyAct, part 1. -/
theorem test_witness_TheButtonsAndTheKeyAct_1 :
    (∃ s : State, s.get F.resetState = 0 ∧ s.pwr.off = false) ∧
    (∃ s : State, s.get F.releaseState = 0 ∧ s.pwr.off = false) ∧
    (∃ s : State, s.get F.resetState ≠ 0) ∧
    (∃ n : ℕ, ∃ s : State, s.pwr.off = false ∧ s.get F.resetState < 2 ∧ s.get F.releaseState ≠ 2 ∧ 50 ≤ n ∧ n ≤ 10000 ∧ s.beat.runs = true) ∧
    (∃ n : ℕ, ∃ s : State, s.pwr.off = false ∧ s.get F.resetState < 2 ∧ s.get F.releaseState ≠ 2 ∧ 10000 < n) ∧
    (∃ n : ℕ, ∃ s : State, s.pwr.off = false ∧ s.get F.resetState < 2 ∧ s.get F.releaseState = 2 ∧ 50 ≤ n) ∧
    (∃ n : ℕ, ∃ s : State, (n < 50 ∨ 2 ≤ s.get F.resetState ∧ s.get F.resetState ≤ 3)) ∧
    (∃ b : Bool, ∃ s : State, s.pwr.off = false ∧ s.get F.resetState < 2) :=
  ⟨⟨up, by decide +kernel⟩,
   ⟨up, by decide +kernel⟩,
   ⟨up.put F.resetState 1, by decide +kernel⟩,
   ⟨500, up, by decide +kernel⟩,
   ⟨12000, up, by decide +kernel⟩,
   ⟨500, up.put F.releaseState 2, by decide +kernel⟩,
   ⟨20, up, by decide +kernel⟩,
   ⟨false, up, by decide +kernel⟩⟩

/-- Witnesses of TheButtonsAndTheKeyAct, part 2. -/
theorem test_witness_TheButtonsAndTheKeyAct_2 :
    (∃ s : State, (s.get F.resetState = 2 ∨ s.get F.resetState = 3)) ∧
    (∃ s : State, s.get F.resetState < 2) ∧
    (∃ n : ℕ, ∃ s : State, 50 ≤ n ∧ (n < 5000 ∨ s.get F.key ≠ 2) ∧ Up s ∧ s.get F.pwr ≠ 2 ∧ s.get F.releaseState < 2 ∧ s.get F.role = 1 ∧ s.get F.mode = 3) ∧
    (∃ n : ℕ, ∃ s : State, 50 ≤ n ∧ (n < 5000 ∨ s.get F.key ≠ 2) ∧ Up s ∧ s.get F.pwr ≠ 2 ∧ s.get F.releaseState < 2 ∧ s.get F.role = 1 ∧ s.get F.mode = 2 ∧ s.beat.runs = true) ∧
    (∃ n : ℕ, ∃ s : State, 50 ≤ n ∧ (n < 5000 ∨ s.get F.key ≠ 2) ∧ Up s ∧ s.get F.pwr ≠ 2 ∧ s.get F.releaseState < 2 ∧ s.get F.role = 2 ∧ s.get F.mode = 3 ∧ s.pair.partnerReady = true ∧ s.pair.handover = none) ∧
    (∃ n : ℕ, ∃ s : State, n < 50) ∧
    (∃ s : State, s.get F.key = 2 ∧ Up s ∧ s.get F.pwr ≠ 2 ∧ s.get F.releaseState < 2 ∧ s.get F.role = 1 ∧ s.get F.mode = 3 ∧ s.beat.runs = true) ∧
    (∃ s : State, s.get F.key ≠ 2) :=
  ⟨⟨up.put F.resetState 2, by decide +kernel⟩,
   ⟨up, by decide +kernel⟩,
   ⟨100, up, by unfold Up; decide +kernel⟩,
   ⟨100, up.put F.mode 2, by unfold Up; decide +kernel⟩,
   ⟨100, active, by unfold Up; decide +kernel⟩,
   ⟨20, up, by decide +kernel⟩,
   ⟨up.put F.key 2, by unfold Up; decide +kernel⟩,
   ⟨up, by decide +kernel⟩⟩

/-- Witnesses of TheButtonsAndTheKeyAct, part 3. -/
theorem test_witness_TheButtonsAndTheKeyAct_3 :
    (∃ s : State, s.get F.releaseState = 2 ∧ s.get F.role = 0) ∧
    (∃ s : State, s.get F.releaseState ≠ 2) ∧
    (∃ k : Fin 4, ∃ s : State, s.get F.key = k.val) ∧
    (∃ k : Fin 4, ∃ s : State, s.get F.key ≠ k.val ∧ k.val = 2 ∧ s.get F.role = 1) ∧
    (∃ k : Fin 4, ∃ s : State, s.get F.key ≠ k.val ∧ k.val = 2 ∧ s.canPlan = true ∧ s.pair.partnerKeyStop = false ∧ s.pair.handover = none) ∧
    (∃ k : Fin 4, ∃ ho : Handover, ∃ s : State, s.get F.key ≠ k.val ∧ k.val = 2 ∧ s.canPlan = true ∧ s.pair.partnerKeyStop = false ∧ s.pair.handover = some ho) ∧
    (∃ k : Fin 4, ∃ s : State, s.get F.key = 2 ∧ k.val < 2) ∧
    (∃ k : Fin 4, ∃ s : State, s.get F.key < 2 ∧ k.val = 3) :=
  ⟨⟨puts up [(F.releaseState, 0, 2), (F.role, 0, 0), (F.mode, 0, 2)], by decide +kernel⟩,
   ⟨up, by decide +kernel⟩,
   ⟨1, up, by decide +kernel⟩,
   ⟨2, up, by decide +kernel⟩,
   ⟨2, active, by decide +kernel⟩,
   ⟨2, { apply := 4005, cause := 1 }, { active with pair := { active.pair with handover := some { apply := 4005, cause := 1 } } }, by decide +kernel⟩,
   ⟨1, up.put F.key 2, by decide +kernel⟩,
   ⟨3, up, by decide +kernel⟩⟩

/-- Witnesses of TouchKeysMoveTheDisplay, part 1. -/
theorem test_witness_TouchKeysMoveTheDisplay_1 :
    (∃ s : State, s.pwr.off = false) ∧
    (∃ s : State, s.pwr.off = false) ∧
    (∃ s : State, s.pwr.off = false) ∧
    (∃ s : State, s.pwr.off = false) ∧
    (∃ s : State, s.pwr.off = true) ∧
    (∃ s : State, s.panel.message = 0) ∧
    (∃ s : State, s.panel.message ≠ 0) ∧
    (∃ s : State, s.panel.message ≠ 4) :=
  ⟨⟨up, by decide +kernel⟩,
   ⟨up, by decide +kernel⟩,
   ⟨up, by decide +kernel⟩,
   ⟨{ up with panel := { events := [(9, true), (8, false), (7, false)] } }, by decide +kernel⟩,
   ⟨dark, by decide +kernel⟩,
   ⟨up, by decide +kernel⟩,
   ⟨{ up with panel := { message := 1 } }, by decide +kernel⟩,
   ⟨{ up with panel := { message := 1 } }, by decide +kernel⟩⟩

/-- Witnesses of TouchKeysMoveTheDisplay, part 2. -/
theorem test_witness_TouchKeysMoveTheDisplay_2 :
    ∃ s : State, s.panel.message = 4 :=
  ⟨{ up with panel := { message := 4 } }, by decide +kernel⟩

end Sys2Proof.Tests
end

/-! IMAGE_COMPLETE (R38, R149). What starts Compute is written by one operation; everything around it (the image, a debug halt
that takes effect, the release of classes and loop blocks, the clusters of a SPLIT module) leaves the beat's timing, FREEZE_LATE
and the stamps of events. `Steady` names what is left, and there is one rule for each operation on the way. -/

namespace Sys2Proof.Machine

open Sys2Proof

/-- The fields that an event's stamp and route are read from (R446, R450), and FREEZE_LATE. -/
def steadyFlds : List Fld :=
  [F.beatIndex, F.timeLocked, F.powerCycles, F.freezeLate, F.routeClusters, F.routeLoops, F.routeSup, F.routeRecorder,
    F.routeTp2, F.routeTp3]

/-- A field apart from all of those. -/
def Fld.offSteady (f : Fld) : Bool :=
  steadyFlds.all fun g => fldApart g f && decide (0 < g.cnt) && decide (0 < f.cnt)

/-- The timing of a beat without what each cluster counts for itself. -/
def BeatSt.timing (b : BeatSt) : BeatSt := { b with slice := 0, used := [], peakLog := [] }

/-- From `s` to `t` the steady fields, the beat's timing and the recomputed beat stand, and the Event Router has only been
handed more. -/
structure Steady (s t : State) : Prop where
  fields : ∀ f ∈ steadyFlds, ∀ k, t.get f k = s.get f k
  timing : t.beat.timing = s.beat.timing
  router : s.ev.router <+: t.ev.router
  redo : t.pair.redo = s.pair.redo

/-- The parts of a state that `Steady` speaks of, whole. -/
def State.steadyParts (s : State) : List (Nat × Nat) × BeatSt × List EvRec × Option Nat :=
  (s.regs, s.beat.timing, s.ev.router, s.pair.redo)

namespace Steady

/-! The rules of the shared operations. -/

theorem refl (s : State) : Steady s s := ⟨fun _ _ _ => rfl, rfl, ⟨[], List.append_nil _⟩, rfl⟩

theorem trans {s t u : State} (h : Steady s t) (k : Steady t u) : Steady s u :=
  ⟨fun f hf n => (k.fields f hf n).trans (h.fields f hf n), k.timing.trans h.timing, h.router.trans k.router,
    k.redo.trans h.redo⟩

/-- A change of parts that `Steady` does not speak of. -/
theorem upd {s t u : State} (h : Steady s t) (e : u.steadyParts = t.steadyParts) : Steady s u := by
  obtain ⟨hr, hb, he, hp⟩ := by simpa only [State.steadyParts, Prod.mk.injEq] using e
  exact h.trans ⟨fun f _ k => State.get_of_regs hr f k, hb, ⟨[], by rw [he, List.append_nil]⟩, hp⟩

/-- The same in the form in which a record update unfolds. -/
theorem mkUpd {s t : State} {mem free ev lcp jr units wd rt rtY rtZ loops pair sec triad pwr img panel lanes field time can}
    {pending} {beat : BeatSt} (e : (beat.timing, ev.router, pair.redo) = (t.beat.timing, t.ev.router, t.pair.redo))
    (h : Steady s t) :
    Steady s (State.mk t.regs mem free beat ev lcp jr units wd rt rtY rtZ loops pair sec triad pwr img panel lanes field time can
      pending) := h.upd (congrArg (Prod.mk t.regs) e)

theorem put {s t : State} {f : Fld} {v k : Nat} (hf : f.offSteady = true) (h : Steady s t) : Steady s (t.put f v k) :=
  h.trans ⟨fun g hg _ => State.get_put_apart (List.all_eq_true.1 hf g hg), rfl, ⟨[], List.append_nil _⟩, rfl⟩

theorem putFlag {s t : State} {f : Fld} {b : Bool} {k : Nat} (hf : f.offSteady = true) (h : Steady s t) :
    Steady s (t.putFlag f b k) := h.put hf

theorem inc {s t : State} {f : Fld} {k : Nat} (hf : f.offSteady = true) (h : Steady s t) : Steady s (t.inc f k) := h.put hf

theorem raise {s t : State} {src code sev : Nat} {d : List (Nat × Nat)} (h : Steady s t) :
    Steady s (t.raise src code sev d) :=
  (h.inc (f := F.raised) (k := src) rfl).trans ⟨fun _ _ _ => rfl, rfl, ⟨_, rfl⟩, rfl⟩

theorem ite {s t u : State} {c : Prop} [Decidable c] (ht : Steady s t) (hu : Steady s u) : Steady s (if c then t else u) := by
  split <;> assumption

theorem iteFst {α : Type} {s : State} {x y : State × α} {c : Prop} [Decidable c] (hx : Steady s x.1) (hy : Steady s y.1) :
    Steady s (if c then x else y).1 := by
  split <;> assumption

theorem foldl {α : Type} {s t : State} {f : State → α → State} {l : List α} (h : Steady s t)
    (hf : ∀ u a, Steady u (f u a)) : Steady s (l.foldl f t) := by
  induction l generalizing t with
  | nil => exact h
  | cons a l ih => exact ih (h.trans (hf t a))

/-- A field of an object behind the events' table (R469), whatever the sub-index. -/
theorem offSteady_next {f : Fld} (hf : 0xC300 * 4194304 ≤ f.home) (hc : 0 < f.cnt) (i : Nat) : (f.next i).offSteady = true := by
  have apart : ∀ g ∈ steadyFlds, 0 < g.cnt ∧ g.home / 4194304 + g.cnt ≤ 0xC300 := by decide
  refine List.all_eq_true.2 fun g hg => ?_
  have far : 0xC300 ≤ (f.home + i * 16384) / 4194304 := by omega
  have behind := (apart g hg).2.trans far
  simp [fldApart, Fld.next, behind, (apart g hg).1, hc]

/-- A change of the units' records that depends on a condition. -/
theorem thenUnits {s t : State} {c : Prop} [Decidable c] {u : UnitSt} (h : Steady s t) :
    Steady s (if c then { t with units := u } else t) := ite (h.upd rfl) h

/-! Journal, epochs and modes. -/

theorem journal {s t : State} {a k l p : Nat} {b c : Bool} (h : Steady s t) : Steady s (t.journal a k l p b c) :=
  .ite (h.upd rfl) (.raise (h.upd rfl))

theorem dropTransfers {s t : State} {b : Bool} (h : Steady s t) : Steady s (t.dropTransfers b) := h.upd rfl

theorem bumpOwn {s t : State} {c : Nat} (h : Steady s t) : Steady s (t.bumpOwn c) :=
  .journal (.dropTransfers (.put rfl (.put rfl (.put rfl h))))

theorem bumpPair {s t : State} {c : Nat} (h : Steady s t) : Steady s (t.bumpPair c) := .journal (.dropTransfers (h.upd rfl))

theorem refreshDrive {s t : State} (h : Steady s t) : Steady s t.refreshDrive := .putFlag rfl (.putFlag rfl h)

theorem setMode {s t : State} {m r d c i e : Nat} (h : Steady s t) : Steady s (t.setMode m r d c i e) := by
  have entered : Steady s ((((t.put F.mode m).put F.role r).put F.ready d).put F.safeCause c) :=
    .put rfl (.put rfl (.put rfl (.put rfl h)))
  refine .ite h (.raise (.refreshDrive (.thenUnits (.thenUnits (.ite (.bumpPair ?_) ?_)))))
  all_goals exact .ite entered (.bumpOwn (.putFlag rfl (.put rfl entered)))

/-! A debug halt (R480, R481). -/

theorem audit {s t : State} {a r d p u : Nat} (h : Steady s t) : Steady s (t.audit a r d p u) :=
  .ite (.raise (.inc rfl (.put rfl (.put rfl (h.upd rfl))))) (.put rfl (.put rfl (h.upd rfl)))

theorem auditBy {s t : State} {i a r d : Nat} (h : Steady s t) : Steady s (t.auditBy i a r d) := by
  obtain ⟨p, u, e⟩ := auditBy_spec t i a r d
  exact e ▸ h.audit

theorem dropCycles {s t : State} (h : Steady s t) : Steady s t.dropCycles := by
  unfold State.dropCycles
  refine .mkUpd rfl (h.foldl fun u _ => ?_)
  exact .ite (.ite (.put rfl (.refl u)) (.refl u)) (.put rfl (.ite (.put rfl (.refl u)) (.refl u)))

theorem dropSync {s t : State} (h : Steady s t) : Steady s t.dropSync := .ite h (.setMode (.put rfl (.put rfl (h.upd rfl))))

theorem enterStandby {s t : State} {c : Nat} (h : Steady s t) : Steady s (t.enterStandby c) := by
  unfold State.enterStandby
  exact .setMode (.put rfl (.put rfl (.mkUpd (by dsimp only) h.dropCycles)))

theorem showGroup {s t : State} {g : GroupDef} (h : Steady s t) : Steady s (t.showGroup g) := .put rfl (.putFlag rfl h)

theorem initGroup {s t : State} {g : GroupDef} (h : Steady s t) : Steady s (t.initGroup g) :=
  .put rfl (.put rfl (.put rfl (.put rfl (.put rfl h.showGroup))))

theorem noTasks {s t : State} (h : Steady s t) : Steady s t.noTasks :=
  h.foldl fun u _ => .put rfl (.put rfl (.put rfl (.put rfl (.refl u))))

theorem showTasks {s t : State} {p : Program} (h : Steady s t) : Steady s (t.showTasks p) :=
  h.foldl fun u _ => .putFlag rfl (.putFlag rfl (.put rfl (.put rfl (.refl u))))

theorem showLoops {s t : State} (h : Steady s t) : Steady s t.showLoops := .put rfl (.put rfl (.put rfl (.put rfl h)))

theorem showRuntime {s t : State} (h : Steady s t) : Steady s t.showRuntime :=
  .put rfl (.putFlag rfl (.putFlag rfl (.putFlag rfl (.put rfl (.putFlag rfl (.putFlag rfl h))))))

theorem loadProgram {s t : State} {p : Program} {c : Bool} (h : Steady s t) : Steady s (t.loadProgram p c) := by
  unfold State.loadProgram
  refine .showRuntime (.showLoops (.foldl (.mkUpd rfl (.ite (.foldl ?_ fun u _ => .putFlag rfl (.refl u)) ?_)) fun u _ =>
    .ite (.showGroup (.refl u)) (.initGroup (.refl u))))
  all_goals
    refine .put rfl (.put rfl (.put rfl (.put rfl (.put rfl (.showTasks (.noTasks (.put rfl (h.foldl fun u i => ?_))))))))
    exact .put (offSteady_next (by decide) (by decide) i) (.refl u)

theorem stopShadow {s t : State} {c : Nat} (h : Steady s t) : Steady s (t.stopShadow c) := by
  unfold State.stopShadow
  refine .ite h (.enterStandby (.put rfl (.mkUpd rfl ?_)))
  split
  · exact .loadProgram h.dropCycles
  · exact h.dropCycles

theorem dbgHalt {s t : State} (h : Steady s t) : Steady s t.dbgHalt := by
  unfold State.dbgHalt
  refine .ite h (.ite (.mkUpd rfl (.dropSync ?_)) (.ite (.stopShadow ?_) ?_))
  all_goals exact .put rfl (.put rfl (h.auditBy.upd rfl))

theorem haltPending {s t : State} (h : Steady s t) : Steady s t.haltPending := .ite (h.dbgHalt.upd rfl) h

/-! The Freeze up to its image (R36, R103, R142, R333). -/

theorem canCopy {s t : State} {o : Nat} (h : Steady s t) : Steady s (t.canCopy o) := .ite h (.put rfl (h.upd rfl))

theorem canFreeze {s t : State} (h : Steady s t) : Steady s t.canFreeze := by
  unfold State.canFreeze
  exact .mkUpd rfl (h.foldl fun u _ => .canCopy (.refl u))

theorem ownImage {s t : State} (h : Steady s t) : Steady s t.ownImage := h.upd rfl

theorem imageStands {s t : State} (h : Steady s t) : Steady s t.imageStands := .ite h (.ite (h.upd rfl) (h.upd rfl))

theorem imageEvents {s t : State} (h : Steady s t) : Steady s t.imageEvents := h.upd rfl

theorem imageSent {s t : State} (h : Steady s t) : Steady s t.imageSent := .ite h (h.upd rfl)

/-! The release of loop blocks and of classes (R84, R114, R122, R150). -/

theorem readFlag {s t : State} {l : List Nat} {i : Nat} (h : Steady s t) : Steady s (t.readFlag l i) := .ite h (h.upd rfl)

theorem requestMode {s t : State} {l : LoopRt} {m c : Nat} (h : Steady s t) : Steady s (t.requestMode l m c).1 := by
  have moved (l : LoopRt) : Steady s (t.loopMode l m c).1 := .iteFst h h.raise
  exact .iteFst h (moved _)

theorem takeReq {s t : State} {l : LoopRt} (h : Steady s t) : Steady s (t.takeReq l).1 := by
  unfold State.takeReq
  split
  · exact h
  · exact .iteFst (.requestMode h.readFlag) h.readFlag

theorem loopRelease {s t : State} {l : LoopRt} (h : Steady s t) : Steady s (t.loopRelease l) := h.takeReq.upd rfl

theorem releaseLoops {s t : State} {c : Nat} (h : Steady s t) : Steady s (t.releaseLoops c) :=
  .foldl (h.upd rfl) fun u _ => .loopRelease (.refl u)

theorem loopIntake {s t : State} (h : Steady s t) : Steady s t.loopIntake :=
  .ite h (h.foldl fun u _ => .releaseLoops (.refl u))

theorem putExec {s t : State} {k : Nat} {l : List Nat} (h : Steady s t) : Steady s (t.putExec k l) := .put rfl (h.upd rfl)

theorem newCycle {s t : State} {c : Nat} (h : Steady s t) : Steady s (t.newCycle c) := by
  unfold State.newCycle
  split
  · exact h
  · exact h.foldl fun u _ => .ite (.put rfl (.putExec (.refl u))) (.putExec (.refl u))

theorem startNext {s t : State} {c : Nat} (h : Steady s t) : Steady s (t.startNext c) := by
  unfold State.startNext
  split
  · exact h
  · exact .ite (.put rfl h) (.mkUpd rfl (.put rfl h))

theorem releaseClass {s t : State} {c : Nat} (h : Steady s t) : Steady s (t.releaseClass c) := by
  unfold State.releaseClass
  exact .startNext (.mkUpd rfl (h.newCycle.foldl fun u _ => .put rfl (.put rfl (.refl u))))

theorem releaseAll {s t : State} (h : Steady s t) : Steady s t.releaseAll := by
  have released := Steady.foldl (l := t.releasing) (f := State.releaseClass)
    (h.upd (u := { t with rt := t.releasing.foldl RtSt.look t.rt }) rfl) fun u _ => .releaseClass (.refl u)
  exact .ite (released.upd rfl) released

theorem lateViews {s t : State} {l : List PointV} (h : Steady s t) : Steady s (t.lateViews l) := by
  unfold State.lateViews
  split
  · exact .ite h (h.upd rfl)
  · exact h

/-! The clusters of a SPLIT module (R190, R191). -/

/-- No steady field shows a program, whatever its copy number. -/
theorem isClusterKey_steady : ∀ f ∈ steadyFlds, ∀ k, isClusterKey (fldKey f k) = false := by
  intro f hf k
  have clear : ∀ f ∈ steadyFlds, 0 < f.cnt ∧ (f.home / 4194304 + f.cnt ≤ 0x8000 ∨
      0x8400 ≤ f.home / 4194304 ∧ f.home / 4194304 + f.cnt ≤ 0xD000) := by decide
  obtain ⟨hc, range⟩ := clear f hf
  have inst := Nat.mod_lt k hc
  have obj : fldKey f k / 4194304 = f.home / 4194304 + k % f.cnt := by unfold fldKey; omega
  simp only [isClusterKey, obj, Bool.or_eq_false_iff, Bool.and_eq_false_iff, beq_eq_false_iff_ne, decide_eq_false_iff_not]
  omega

/-- A cluster's own copy of a register changes no register that shows no program. -/
theorem regGet_takeClusterReg {key : Nat} (hk : isClusterKey key = false) (l : List (Nat × Nat)) (c : Nat × Nat) (d : Nat) :
    regGet (takeClusterReg l c) key d = regGet l key d := by
  unfold takeClusterReg
  split
  · split
    · next own => exact regGet_regPut_ne (fun e => by simp [e, own] at hk) l _ d
    · rfl
  · rfl

theorem swapCluster {s t : State} {c : Nat} (h : Steady s t) : Steady s (t.swapCluster c) := by
  refine h.trans ⟨fun f hf k => ?_, ?_, ?_, ?_⟩
  · have hk := isClusterKey_steady f hf k
    have own (l m : List (Nat × Nat)) :
        regGet (l.foldl takeClusterReg m) (fldKey f k) f.dflt = regGet m (fldKey f k) f.dflt := by
      induction l generalizing m with
      | nil => rfl
      | cons a l ih => exact (ih _).trans (regGet_takeClusterReg hk m a _)
    exact (own _ _).trans (regGet_filter (by simp [hk]) _ _)
  all_goals
    unfold State.swapCluster State.putRt
    dsimp only
    split <;> simp [BeatSt.timing]

theorem clusterStarts {s t : State} (h : Steady s t) : Steady s t.clusterStarts := .releaseAll (.loopIntake (h.upd rfl))

theorem onCluster {s t : State} {c : Nat} {f : State → State} (h : Steady s t) (hf : ∀ u, Steady u (f u)) :
    Steady s (t.onCluster c f) :=
  .ite (h.trans (hf t)) (.ite (.swapCluster (h.swapCluster.trans (hf _))) h)

/-! What stands between steady states. -/

theorem now {s t : State} (h : Steady s t) : t.now = s.now := h.fields F.beatIndex (by simp [steadyFlds]) 0

theorem freezeLate {s t : State} (h : Steady s t) : t.get F.freezeLate = s.get F.freezeLate :=
  h.fields F.freezeLate (by simp [steadyFlds]) 0

/-- What does not read the clusters' own counts reads the same of both beats. -/
theorem reads {α : Type} {s t : State} (h : Steady s t) (p : BeatSt → α) (hp : ∀ b : BeatSt, p b.timing = p b) :
    p t.beat = p s.beat := by
  rw [← hp, h.timing, hp]

/-- The same change of both beats, of what is timing. -/
theorem mapBeat {s t : State} (h : Steady s t) (f : BeatSt → BeatSt)
    (hf : ∀ b : BeatSt, (f b.timing).timing = (f b).timing) :
    Steady { s with beat := f s.beat } { t with beat := f t.beat } :=
  ⟨h.fields, by rw [← hf t.beat, h.timing, hf], h.router, h.redo⟩

/-- An event is stamped and routed the same in both states. -/
theorem eventOf_eq {s t : State} (h : Steady s t) (src code sev : Nat) (d : List (Nat × Nat)) :
    eventOf t src code sev d = eventOf s src code sev d := by
  have off := h.reads BeatSt.off fun _ => rfl
  have op := h.reads BeatSt.opBeats fun _ => rfl
  have fields := h.fields
  simp only [steadyFlds, List.forall_mem_cons] at fields
  simp only [eventOf, State.route, off, op, fields]

end Steady

/-! Compute starts (R38). -/

/-- The beat as its Compute starts `late` × 0.1 µs behind 20 µs after the edge. -/
def BeatSt.start (b : BeatSt) (late : Nat) : BeatSt :=
  { b with freezeDelay := late, computing := true, charged := b.charged + late }

/-- What the start of Compute itself writes: the beat's timing and, with a delay, FREEZE_LATE and BEAT_FREEZE_LATE. -/
def State.startWrites (s : State) (late : Nat) : State :=
  let t := { s with beat := s.beat.start late }
  if late = 0 then t else (t.put F.freezeLate 1).raise 452 1 1 [(32, late)]

theorem startCompute_steady (s : State) (n : Nat) : Steady (s.startWrites (n - 200)) (s.startCompute n) := by
  unfold State.startCompute
  exact .releaseAll (.loopIntake (.mkUpd rfl (.refl _)))

theorem startWrites_beat (s : State) (late : Nat) : (s.startWrites late).beat = s.beat.start late := by
  unfold State.startWrites
  split <;> rfl

theorem startWrites_freezeLate_onTime (s : State) : (s.startWrites 0).get F.freezeLate = s.get F.freezeLate := rfl

theorem startWrites_freezeLate_late {s : State} {late : Nat} (h : late ≠ 0) : (s.startWrites late).get F.freezeLate = 1 := by
  rw [State.startWrites, if_neg h, State.get_raise_ne (by decide), State.get_put_self]
  rfl

/-- The event is stamped as the state before would stamp it: FREEZE_LATE and the charge are no part of a stamp. -/
theorem startWrites_raises {s : State} {late : Nat} (h : late ≠ 0) :
    eventOf s 452 1 1 [(32, late)] ∈ (s.startWrites late).ev.router := by
  rw [State.startWrites, if_neg h]
  have stamped := Raised.raiseOne (s := { s with beat := s.beat.start late }) (src := 452) (code := 1) (sev := 1)
    (d := [(32, late)]) (RegsBut.put (f := F.freezeLate) (v := 1) (k := 0) (l := [(F.freezeLate, 0)]) RegsBut.refl (by simp)) rfl
    (by decide) rfl rfl (by simp)
  rw [stamped]
  exact List.mem_append_right _ (List.mem_singleton.2 rfl)

/-- Outside the slot of a recomputed beat, Compute starts; what follows is steady. -/
theorem imageStarts_steady {s : State} {n : Nat} {prev : List PointV} (h : s.pair.redo ≠ some s.now) :
    Steady (s.startCompute n) (s.imageStarts n prev) := by
  rw [State.imageStarts, if_neg h]
  exact .onCluster (.onCluster (.lateViews (.refl _)) fun u => .clusterStarts (.refl u)) fun u => .clusterStarts (.refl u)

/-! The image-complete event. -/

/-- The beat as its Freeze ends `offset` × 0.1 µs after the edge. -/
def BeatSt.imageEnd (offset : Nat) (b : BeatSt) : BeatSt := { b with imaged := true, off := max b.off (offset * 20) }

/-- The state whose Freeze has ended with its image. -/
def State.imageEnds (s : State) (offset : Nat) : State :=
  let t := s.canFreeze.ownImage.imageStands.imageEvents.imageSent.haltPending
  { t with beat := t.beat.imageEnd offset }

theorem imageComplete_eq {s : State} {n : Nat} (hr : Runs s) (hi : s.beat.imaged = false) (hc : s.beat.committing = false) :
    s.imageComplete n = (s.imageEnds n).imageStarts n s.pair.own := by
  obtain ⟨on, runs⟩ := hr
  rw [State.imageComplete, if_neg (by simp [on, runs, hi, hc])]
  rfl

/-- An operation that touches other parts leaves memory. -/
theorem Touches.mem_eq {m : Parts} {s t : State} (h : Touches m s t) (hm : m.mem = false) : t.mem = s.mem := by
  have same : (t.without m).mem = (s.without m).mem := congrArg State.mem h
  simpa [State.without, hm] using same

/-- The end of the Freeze moves the beat to the event's offset, and nothing else that `Steady` speaks of. -/
theorem imageEnds_steady (s : State) (n : Nat) : Steady { s with beat := s.beat.imageEnd n } (s.imageEnds n) :=
  .mapBeat (.haltPending (.imageSent (.imageEvents (.imageStands (.ownImage (.canFreeze (.refl s)))))))
    (BeatSt.imageEnd n) fun _ => rfl

/-- The beat that is recomputed stands through the end of the Freeze. -/
theorem imageEnds_redo (s : State) (n : Nat) :
    (s.imageEnds n).pair.redo = some (s.imageEnds n).now ↔ s.pair.redo = some s.now := by
  have ends := imageEnds_steady s n
  rw [ends.redo, ends.now]
  rfl

/-- Settles O28: the Freeze's end and everything behind the start of Compute are steady, so what stands in the beat, in
FREEZE_LATE and in the Event Router is what the start of Compute wrote there. -/
theorem theImageCompleteEventStartsCompute : Obligations.TheImageCompleteEventStartsCompute := by
  unfold Obligations.TheImageCompleteEventStartsCompute
  refine ⟨fun n s hr hi hc hredo => ⟨s.imageComplete n, rfl, ?_⟩,
    fun n s hr hi hc hredo => ⟨s.imageComplete n, rfl, ?_⟩⟩
  · have ends := imageEnds_steady s n
    have starts := (startCompute_steady (s.imageEnds n) n).trans
      (imageStarts_steady (prev := s.pair.own) ((imageEnds_redo s n).not.2 hredo))
    rw [← imageComplete_eq hr hi hc] at starts
    have beat {α : Type} (p : BeatSt → α) (hp : ∀ b : BeatSt, p b.timing = p b) :
        p (s.imageComplete n).beat = p ((s.imageEnds n).beat.start (n - 200)) := by
      rw [starts.reads p hp, startWrites_beat]
    have charge : (s.imageEnds n).beat.charged = s.beat.charged := ends.reads BeatSt.charged fun _ => rfl
    refine ⟨beat BeatSt.computing fun _ => rfl, beat BeatSt.freezeDelay fun _ => rfl, ?_, fun late => ⟨?_, ?_⟩,
      fun onTime => ?_⟩
    · rw [beat BeatSt.charged fun _ => rfl, BeatSt.start, charge]
    · rw [starts.freezeLate, startWrites_freezeLate_late (by omega)]
    · have raised := startWrites_raises (s := s.imageEnds n) (late := n - 200) (by omega)
      rw [ends.eventOf_eq] at raised
      exact starts.router.subset raised
    · rw [starts.freezeLate, Nat.sub_eq_zero_of_le onTime, startWrites_freezeLate_onTime]
      exact ends.freezeLate
  · have ends := imageEnds_steady s n
    have kept : s.imageComplete n = s.imageEnds n := by
      rw [imageComplete_eq hr hi hc, State.imageStarts, if_pos ((imageEnds_redo s n).2 hredo)]
    have mem := (State.imageComplete_touches (a0 := s) (a1 := n)).mem_eq rfl
    rw [kept] at mem ⊢
    exact ⟨ends.reads BeatSt.imaged fun _ => rfl, ends.reads BeatSt.computing fun _ => rfl,
      ends.reads BeatSt.charged fun _ => rfl, ends.freezeLate, mem⟩

end Sys2Proof.Machine

/-! PTP_RX_ERROR (R308): a message with a bad FCS reaches the port's count and no part of the clock. -/

namespace Sys2Proof.Machine

open Sys2Proof

/-- A saturating count fits its field. -/
theorem satInc_lt (w n : Nat) : satInc w n < 2 ^ w := by
  have full : 0 < 2 ^ w := Nat.two_pow_pos w
  unfold satInc
  split <;> omega

/-- A count reads one more, or all ones. -/
theorem State.get_inc_self (s : State) (f : Fld) (k : Nat) : (s.inc f k).get f k = satInc f.w (s.get f k) := by
  rw [State.inc, State.get_put_self, Nat.mod_eq_of_lt (satInc_lt _ _)]

/-- The event of a bad FCS at port `k`, with the beat it was last raised at. -/
def State.rxErrorRaised (s : State) (k : Nat) : State :=
  (s.onTime fun t => { t with rxRaised := assoc t.rxRaised k s.beat.opBeats }).raise (287 + 2 * k) 1 1
    [(8, k), (32, s.get F.rxFcs k)]

theorem State.get_rxErrorRaised_rxFcs (s : State) (k : Nat) : (s.rxErrorRaised k).get F.rxFcs k = s.get F.rxFcs k := by
  have apart : fldKey F.rxFcs k ≠ fldKey F.raised (287 + 2 * k) := fldKey_apart rfl (by decide) (by decide) _ _
  exact State.get_raise_ne apart

theorem RegsBut.rxErrorRaised {l : List (Fld × Nat)} {s t : State} {k : Nat} (h : RegsBut l s t)
    (hm : (F.raised, 287 + 2 * k) ∈ l) : RegsBut l s (t.rxErrorRaised k) :=
  .raise (h.regs rfl) hm

/-- A received error is counted; then it is raised, unless it was raised within the last 10 s. -/
theorem execPtpRxError_cases (k : Fin 12) (s : State) :
    execPtpRxError k s = .next (s.inc F.rxFcs k) ∨
      execPtpRxError k s = .next ((s.inc F.rxFcs k).rxErrorRaised k) := by
  unfold execPtpRxError
  dsimp only
  split_ifs
  · exact .inr rfl
  · exact .inl rfl

/-- Settles O48: whether or not the event is due, only the count, the event and the time of its last raising are written. -/
theorem aMessageWithABadFcsIsOnlyCounted : Obligations.AMessageWithABadFcsIsOnlyCounted := by
  unfold Obligations.AMessageWithABadFcsIsOnlyCounted
  intro k s
  have counted : (s.inc F.rxFcs k).get F.rxFcs k = satInc 32 (s.get F.rxFcs k) := State.get_inc_self s F.rxFcs k
  have others : RegsBut [(F.rxFcs, k.val), (F.raised, 287 + 2 * k.val)] s (s.inc F.rxFcs k) := .inc .refl (by simp)
  obtain notDue | due := execPtpRxError_cases k s
  · exact ⟨_, notDue, counted, others, rfl⟩
  · exact ⟨_, due, (State.get_rxErrorRaised_rxFcs _ _).trans counted, others.rxErrorRaised (by simp), rfl⟩

end Sys2Proof.Machine

/-! What becomes of a request that steps 1 to 8 of R388 let through: its unit, its expected epoch (R363) and its unit's mode. -/

namespace Sys2Proof.Machine

open Sys2Proof

theorem Framed.lcpOff_eq {p : Packet} {s : State} (h : Framed p s) : s.lcpOff p = false := by
  unfold State.lcpOff
  split
  · next k hk =>
    obtain enabled | service := (h.port k hk).1
    · simp [enabled]
    · simp [service]
  · rfl

theorem Framed.upstreamOnly_eq {p : Packet} {s : State} (h : Framed p s) : s.upstreamOnly p = false := by
  unfold State.upstreamOnly
  split
  · next k hk =>
    obtain down | solo | active := (h.port k hk).2
    · simp [down]
    · simp [solo]
    · simp [active]
  · rfl

/-- A module that hears a framed packet does not pass it over in silence. -/
theorem Framed.not_silent {p : Packet} {s : State} (h : Framed p s) : ¬ (s.get F.mode = mDormant ∨ s.lcp.mute ∨ s.pwr.off ∨
    (s.quiet ∧ !p.service) ∨ s.lcpOff p ∨ s.upstreamOnly p) := by
  have listens : ¬ (s.quiet = true ∧ (!p.service) = true) := by
    obtain quiet | service := h.served
    · simp [quiet]
    · simp [service]
  rintro (asleep | mute | off | quiet | port | port)
  · exact h.awake asleep
  · simp [h.heard] at mute
  · simp [h.on] at off
  · exact listens quiet
  · simp [h.lcpOff_eq] at port
  · simp [h.upstreamOnly_eq] at port

/-- Behind step 8 a session opcode is admitted by its UnitRef alone, any other by its unit. -/
theorem Arrives.admission_eq {o : Op} {p : Packet} {x : Session} {s : State} (h : Arrives p x s) (ho : o ≠ .hello) :
    admission o p s = if isSessionOp o then (if p.hopLen = 0 then .go .pair else .late none stBadParam [])
      else admitUnit o p s := by
  obtain ⟨⟨framed, session, room⟩, fresh, rises⟩ := h
  unfold admission
  rw [if_neg framed.not_silent, if_neg (not_not.2 framed.magic), if_neg (not_not.2 framed.version),
    if_neg (Nat.not_lt.2 framed.length), session]
  simp [framed.framing, framed.flags, ho, fresh, Nat.not_le.2 room, Nat.not_le.2 rises]

/-- A request of a unit is admitted by that unit. -/
theorem Arrives.admission_unit {o : Op} {p : Packet} {x : Session} {s : State} (h : Arrives p x s)
    (ho : isSessionOp o = false) : admission o p s = admitUnit o p s := by
  have other : o ≠ .hello := by
    rintro rfl
    exact absurd ho (by decide)
  rw [h.admission_eq other, if_neg (by simp [ho])]

/-- A unit this module answers for checks the expected epoch, then its mode. -/
theorem admitUnit_eq {o : Op} {p : Packet} {u : UnitSel} {s : State} (hr : resolve s p = .unit u) (ha : answersFor u s = true) :
    admitUnit o p s =
      if (p.epoch = 0 ∧ !epochFree o p) ∨ (p.epoch ≠ 0 ∧ p.epoch ≠ s.epochOf u) then
        .late (some u) stEpochMismatch [tlvPacked 0x8005 [(4, s.epochOf u), (1, s.roleCodeOf u)]]
      else if !opModeOk o u s then .late (some u) stWrongMode (detail (s.get F.mode))
      else .go u := by
  unfold admitUnit
  rw [hr]
  dsimp only
  rw [if_neg]
  · rfl
  · cases u <;> simp_all [answersFor]

/-- The epoch check of R363 fails. -/
theorem admitUnit_epochMismatch {o : Op} {p : Packet} {u : UnitSel} {s : State} (hr : resolve s p = .unit u)
    (ha : answersFor u s = true) (he : (p.epoch = 0 ∧ epochFree o p = false) ∨ (p.epoch ≠ 0 ∧ p.epoch ≠ s.epochOf u)) :
    admitUnit o p s = .late (some u) stEpochMismatch [tlvPacked 0x8005 [(4, s.epochOf u), (1, s.roleCodeOf u)]] := by
  rw [admitUnit_eq hr ha, if_pos (by simpa using he)]

/-- The checks of R363 and of the unit's mode pass. -/
theorem admitUnit_go {o : Op} {p : Packet} {u : UnitSel} {s : State} (hr : resolve s p = .unit u) (ha : answersFor u s = true)
    (he : (p.epoch = 0 ∧ epochFree o p = true) ∨ (p.epoch ≠ 0 ∧ p.epoch = s.epochOf u)) (hm : opModeOk o u s = true) :
    admitUnit o p s = .go u := by
  have expected : ¬ ((p.epoch = 0 ∧ (!epochFree o p) = true) ∨ (p.epoch ≠ 0 ∧ p.epoch ≠ s.epochOf u)) := by
    obtain ⟨zero, free⟩ | ⟨named, same⟩ := he
    · simp [zero, free]
    · simp [named, ← same]
  rw [admitUnit_eq hr ha, if_neg expected, if_neg (by simp [hm])]

/-! A request that does not reach its opcode. -/

/-- The packet passes steps 1 to 11 of R388, and reaches its opcode with a unit. -/
def Admitted (o : Op) (p : Packet) (s : State) : Prop := ∃ u, admission o p s = .go u

/-- Where a request does not reach its opcode, its command does what R388 gives for the failing step, and no more. -/
def TurnsAway (r : Op × (Packet → Instr)) : Prop :=
  ∀ p s, ¬ Admitted r.1 p s → exec (r.2 p) s = .next (turnedAway r.1 p (admission r.1 p s) s)

section

variable {o : Op} {p : Packet} {s : State}

theorem served_away {chk : UnitSel → State → Chk} {body : UnitSel → State → Ans} (h : ¬ Admitted o p s) :
    served o p chk body s = turnedAway o p (admission o p s) s := by
  unfold served
  split
  · next u hu => exact absurd ⟨u, hu⟩ h
  · rfl

theorem servedTracked_away {chk : UnitSel → State → Chk} {body : UnitSel → State → Ans} (h : ¬ Admitted o p s) :
    servedTracked o p chk body s = turnedAway o p (admission o p s) s := by
  unfold servedTracked
  split
  · next u hu => exact absurd ⟨u, hu⟩ h
  · rfl

theorem queued_away {chk : UnitSel → State → Chk} {n : UnitSel → State → Nat} (h : ¬ Admitted o p s) :
    queued o p chk n s = turnedAway o p (admission o p s) s := by
  unfold queued
  split
  · next u hu => exact absurd ⟨u, hu⟩ h
  · rfl

theorem deferred_away {chk : UnitSel → State → Chk} {body : UnitSel → State → State} (h : ¬ Admitted o p s) :
    deferred o p chk body s = turnedAway o p (admission o p s) s := by
  unfold deferred
  split
  · next u hu => exact absurd ⟨u, hu⟩ h
  · rfl

theorem mailed_away {chk : UnitSel → State → Chk} {mb : UnitSel → State → Option (Nat × Nat × Nat × Nat × Nat × Nat)}
    {body : UnitSel → State → Ans} (h : ¬ Admitted o p s) :
    mailed o p chk mb body s = turnedAway o p (admission o p s) s := by
  unfold mailed
  split
  · next u hu => exact absurd ⟨u, hu⟩ h
  · rfl

theorem auditRefused_away {chk : UnitSel → State → Chk} {a d : Nat} {t : State} (h : ¬ Admitted o p s) :
    auditRefused o p chk a d s t = t := by
  unfold auditRefused
  split
  · next u hu => exact absurd ⟨u, hu⟩ h
  · rfl

theorem passesAll_away {chk : UnitSel → State → Chk} (h : ¬ Admitted o p s) : passesAll o p chk s = false := by
  unfold passesAll
  split
  · next u hu => exact absurd ⟨u, hu⟩ h
  · rfl

theorem tokenFails_away {before : UnitSel → State → Chk} {check : State → Nat} (h : ¬ Admitted o p s) :
    tokenFails o p before check s = 0 := by
  unfold tokenFails
  split
  · next u hu => exact absurd ⟨u, hu⟩ h
  · rfl

theorem State.closeConn_queue (s : State) (id : Nat) : (s.closeConn id).lcp.queue = s.lcp.queue := by
  unfold State.closeConn
  split <;> rfl

/-- A packet turned away queues nothing for the Freeze. -/
theorem turnedAway_queue (a : Admit) : (turnedAway o p a s).lcp.queue = s.lcp.queue := by
  cases a with
  | silent => rfl
  | drop => exact s.closeConn_queue p.sess
  | refuse st tl close =>
    cases close
    · rfl
    · exact State.closeConn_queue _ p.sess
  | cached r => rfl
  | late u st tl => rfl
  | away u =>
    unfold turnedAway
    dsimp only
    split_ifs <;> rfl
  | go u => rfl

end

/-! Most requests are handled in one of these ways and no more; those below do something beside it, once they have reached
their opcode. -/

theorem TurnsAway.served {o : Op} {c : Packet → Instr} {chk : Packet → UnitSel → State → Chk}
    {body : Packet → UnitSel → State → Ans} (he : ∀ p s, exec (c p) s = .next (served o p (chk p) (body p) s) := by intros; rfl) :
    TurnsAway (o, c) := fun p s h => by rw [he, served_away h]

theorem TurnsAway.queued {o : Op} {c : Packet → Instr} {chk : Packet → UnitSel → State → Chk}
    {n : Packet → UnitSel → State → Nat} (he : ∀ p s, exec (c p) s = .next (queued o p (chk p) (n p) s) := by intros; rfl) :
    TurnsAway (o, c) := fun p s h => by rw [he, queued_away h]

theorem TurnsAway.deferred {o : Op} {c : Packet → Instr} {chk : Packet → UnitSel → State → Chk}
    {body : Packet → UnitSel → State → State} (he : ∀ p s, exec (c p) s = .next (deferred o p (chk p) (body p) s) := by intros; rfl) :
    TurnsAway (o, c) := fun p s h => by rw [he, deferred_away h]

theorem TurnsAway.mailed {o : Op} {c : Packet → Instr} {chk : Packet → UnitSel → State → Chk}
    {mb : Packet → UnitSel → State → Option (Nat × Nat × Nat × Nat × Nat × Nat)} {body : Packet → UnitSel → State → Ans}
    (he : ∀ p s, exec (c p) s = .next (mailed o p (chk p) (mb p) (body p) s) := by intros; rfl) :
    TurnsAway (o, c) := fun p s h => by rw [he, mailed_away h]

/-- The datagrams of a Gong are made only where the queue has grown. -/
theorem gong_turnsAway : TurnsAway (.gong, .gong) := by
  intro p s h
  show execGong p s = _
  unfold execGong
  simp [queued_away h, turnedAway_queue]

theorem clearSafe_turnsAway : TurnsAway (.clearSafe, .clearSafe) := by
  intro p s h
  show execClearSafe p s = _
  unfold execClearSafe
  simp [served_away h, auditRefused_away h, passesAll_away h]

theorem csrCreate_turnsAway : TurnsAway (.csrCreate, .csrCreate) := by
  intro p s h
  show execCsrCreate p s = _
  unfold execCsrCreate
  simp [served_away h, auditRefused_away h]

theorem certInstall_turnsAway : TurnsAway (.certInstall, .certInstall) := by
  intro p s h
  show execCertInstall p s = _
  unfold execCertInstall
  simp [servedTracked_away h, auditRefused_away h]

theorem securityStateSet_turnsAway : TurnsAway (.securityStateSet, .securityStateSet) := by
  intro p s h
  show execSecurityStateSet p s = _
  unfold execSecurityStateSet
  simp [queued_away h, auditRefused_away h, tokenFails_away h]

theorem debugTokenInstall_turnsAway : TurnsAway (.debugTokenInstall, .debugTokenInstall) := by
  intro p s h
  show execDebugTokenInstall p s = _
  unfold execDebugTokenInstall
  simp [served_away h, auditRefused_away h, tokenFails_away h]

theorem objWrite_turnsAway : TurnsAway (.objWrite, .objWrite) := by
  intro p s h
  show execObjWrite p s = _
  unfold execObjWrite
  simp [deferred_away h, queued_away h]

theorem programChunk_turnsAway (g : Option Program) : TurnsAway (.programChunk, fun p => .programChunk p g) := by
  intro p s h
  show execProgramChunk p g s = _
  unfold execProgramChunk
  rw [servedTracked_away h]

/-- One entry for each request, in the order of `requests`. -/
theorem requests_turnAway (g : Option Program) : ∀ r ∈ requests g, TurnsAway r := by
  simp only [requests, List.forall_mem_cons]
  exact ⟨.served, .served, .mailed, .served,
    .served, .queued, .queued, gong_turnsAway, clearSafe_turnsAway,
    .served, .queued, .queued, .queued,
    .queued, .queued, .queued, .mailed,
    objWrite_turnsAway, .served, programChunk_turnsAway g,
    .queued, .served, .queued, .queued,
    .queued, .served, .queued,
    .served, .queued, .served,
    .queued, .queued, .queued,
    .served, .queued, .queued, .served,
    .served, .served, .served,
    .served, .served, .served,
    .deferred, .served, .deferred,
    .served, .served, csrCreate_turnsAway,
    certInstall_turnsAway, securityStateSet_turnsAway, debugTokenInstall_turnsAway,
    .served, .queued, .served, .served,
    .queued, .served, .queued,
    .served, .served, .served, .deferred,
    .served, List.forall_mem_nil _⟩

/-- None of them is an opcode of the session itself (R415). -/
theorem requests_unit (g : Option Program) : ∀ r ∈ requests g, isSessionOp r.1 = false := by
  have each : (requests g).all (fun r => !isSessionOp r.1) = true := rfl
  simpa using List.all_eq_true.1 each

/-- A request refused behind step 8 is answered, and that is all. -/
theorem refused_of_late {g : Option Program} {r : Op × (Packet → Instr)} {p : Packet} {s : State} {u : Option UnitSel}
    {status : Nat} {tlvs : List Tlv} (hr : r ∈ requests g) (ha : admission r.1 p s = .late u status tlvs) :
    Does (r.2 p) s fun t => Refused p status tlvs s t ∧ OnlyAnswered s t := by
  have away : ¬ Admitted r.1 p s := fun ⟨_, hu⟩ => by simp [ha] at hu
  refine ⟨_, requests_turnAway g r hr p s away, ?_⟩
  rw [ha]
  exact ⟨⟨_, rfl, rfl, rfl, rfl, rfl⟩, rfl⟩

/-- Settles O6: behind step 8 a request of a unit this module answers for is decided by `admitUnit_eq`; a request it turns away
is answered without reaching its opcode. -/
theorem theExpectedEpochDecidesAcceptance : Obligations.TheExpectedEpochDecidesAcceptance := by
  unfold Obligations.TheExpectedEpochDecidesAcceptance
  constructor
  · intro g r hr p x u s arrives resolved here mismatch
    exact refused_of_late hr
      ((arrives.admission_unit (requests_unit g r hr)).trans (admitUnit_epochMismatch resolved here mismatch))
  · intro g r hr p x u s arrives resolved here expected mode
    exact (arrives.admission_unit (requests_unit g r hr)).trans (admitUnit_go resolved here expected mode)

end Sys2Proof.Machine

/-! R415: the opcodes of the session itself are checked through step 8 of R388, name the root, and carry an EPOCH that nothing
reads. -/

namespace Sys2Proof.Machine

open Sys2Proof

/-- They are session opcodes that need an open session: HELLO is not among them. -/
theorem sessionRequests_session : ∀ r ∈ sessionRequests, isSessionOp r.1 = true ∧ r.1 ≠ .hello := by
  simp only [sessionRequests, List.forall_mem_cons]
  exact ⟨⟨rfl, nofun⟩, ⟨rfl, nofun⟩, ⟨rfl, nofun⟩, List.forall_mem_nil _⟩

/-- Behind step 8 a request of an open session itself is admitted by its UnitRef alone. -/
theorem Arrives.admission_session {r : Op × (Packet → Instr)} {p : Packet} {x : Session} {s : State} (h : Arrives p x s)
    (hr : r ∈ sessionRequests) :
    admission r.1 p s = if p.hopLen = 0 then .go .pair else .late none stBadParam [] := by
  obtain ⟨session, other⟩ := sessionRequests_session r hr
  rw [h.admission_eq other, if_pos session]

/-- A HELLO outside a session is admitted by its framing alone. -/
theorem Framed.admission_hello {p : Packet} {s : State} (h : Framed p s) (hs : s.session? p.sess = none) (h0 : p.sess = 0) :
    admission .hello p s = .go .own := by
  unfold admission
  rw [if_neg h.not_silent, if_neg (not_not.2 h.magic), if_neg (not_not.2 h.version), if_neg (Nat.not_lt.2 h.length), hs]
  simp [h.framing, h.flags, h0]

/-! A request of the session that names another unit than the root. -/

/-- BYE closes its session only once it has reached its opcode. -/
theorem bye_turnsAway : TurnsAway (.bye, .bye) := by
  intro p s h
  show execBye p s = _
  unfold execBye
  rw [served_away h]
  cases ha : admission .bye p s with
  | go u => exact absurd ⟨u, ha⟩ h
  | _ => rfl

theorem sessionRequests_turnAway : ∀ r ∈ sessionRequests, TurnsAway r := by
  simp only [sessionRequests, List.forall_mem_cons]
  exact ⟨bye_turnsAway, .served, .served, List.forall_mem_nil _⟩

/-- A request refused behind step 8 is answered, and that is all. -/
theorem TurnsAway.refused {r : Op × (Packet → Instr)} {p : Packet} {s : State} {u : Option UnitSel} {status : Nat}
    {tlvs : List Tlv} (h : TurnsAway r) (ha : admission r.1 p s = .late u status tlvs) :
    Does (r.2 p) s fun t => Refused p status tlvs s t ∧ OnlyAnswered s t := by
  have away : ¬ Admitted r.1 p s := fun ⟨_, hu⟩ => by simp [ha] at hu
  refine ⟨_, h p s away, ?_⟩
  rw [ha]
  exact ⟨⟨_, rfl, rfl, rfl, rfl, rfl⟩, rfl⟩

/-- An admitted HELLO with hops in its UnitRef is answered BAD_PARAM, outside any session. -/
theorem State.hello_hops {p : Packet} {s : State} {u : UnitSel} (ha : admission .hello p s = .go u) (hh : p.hopLen ≠ 0) :
    s.hello p = s.send (mkReply .hello p s none 0 stBadParam []) := by
  unfold State.hello
  rw [ha]
  exact if_pos hh

/-! The EPOCH of a session opcode. -/

section

variable {o : Op} {p : Packet} {s : State} (e : Nat)

/-- Only step 10 reads the EPOCH, and a session opcode ends at step 8. -/
theorem admission_epoch (ho : isSessionOp o = true) : admission o { p with epoch := e } s = admission o p s := by
  unfold admission
  simp only [ho, if_true]
  rfl

/-- A packet is forwarded only behind step 8, by its unit: no other branch answers `.away`. -/
theorem admission_ne_away (ho : isSessionOp o = true) (u : UnitSel) : admission o p s ≠ .away u := by
  unfold admission
  simp only [ho, if_true]
  repeat' split
  all_goals nofun

/-- Of the packets turned away only a forwarded one carries its EPOCH on. -/
theorem turnedAway_epoch {a : Admit} (ha : ∀ u, a ≠ .away u) :
    turnedAway o { p with epoch := e } a s = turnedAway o p a s := by
  cases a with
  | away u => exact absurd rfl (ha u)
  | _ => rfl

theorem served_epoch {chk : UnitSel → State → Chk} {body : UnitSel → State → Ans} (ho : isSessionOp o = true) :
    served o { p with epoch := e } chk body s = served o p chk body s := by
  unfold served
  rw [admission_epoch e ho]
  split
  · rfl
  · exact turnedAway_epoch e (admission_ne_away ho)

end

/-- The command does the same whatever the EPOCH of its packet. -/
def IgnoresEpoch (c : Packet → Instr) : Prop := ∀ p e s, exec (c { p with epoch := e }) s = exec (c p) s

theorem hello_ignoresEpoch : IgnoresEpoch .hello := by
  intro p e s
  show Host.Outcome.next (s.hello { p with epoch := e }) = .next (s.hello p)
  unfold State.hello
  rw [admission_epoch e rfl]
  split
  · rfl
  · rw [turnedAway_epoch e (admission_ne_away rfl)]

theorem bye_ignoresEpoch : IgnoresEpoch .bye := by
  intro p e s
  show execBye { p with epoch := e } s = execBye p s
  unfold execBye
  rw [served_epoch e rfl, admission_epoch e rfl]

theorem ping_ignoresEpoch : IgnoresEpoch .ping := fun _ e _ => congrArg _ (served_epoch e rfl)

theorem sessionPriority_ignoresEpoch : IgnoresEpoch .sessionPriority := fun _ e _ => congrArg _ (served_epoch e rfl)

/-- Settles O7: behind step 8 the UnitRef alone decides, by `Arrives.admission_session` and `Framed.admission_hello`; the EPOCH is
not read, since the step that reads it and the forward that carries it lie behind step 8. -/
theorem sessionOpcodesNameTheRoot : Obligations.SessionOpcodesNameTheRoot := by
  unfold Obligations.SessionOpcodesNameTheRoot
  refine ⟨?root, ?hello, ?hops, ?helloHops, ?epoch⟩
  case root =>
    intro r hr p x s arrives root
    rw [arrives.admission_session hr, if_pos root]
  case hello =>
    intro p s framed unopened zero
    exact framed.admission_hello unopened zero
  case hops =>
    intro r hr p x s arrives hops
    exact (sessionRequests_turnAway r hr).refused ((arrives.admission_session hr).trans (if_neg hops))
  case helloHops =>
    intro p s framed unopened zero hops
    exact ⟨_, congrArg Host.Outcome.next (State.hello_hops (framed.admission_hello unopened zero) hops),
      ⟨_, rfl, rfl, rfl, rfl, rfl⟩, rfl⟩
  case epoch =>
    intro p e s r hr
    have each : ∀ r ∈ (.hello, .hello) :: sessionRequests, IgnoresEpoch r.2 := by
      simp only [sessionRequests, List.forall_mem_cons]
      exact ⟨hello_ignoresEpoch, bye_ignoresEpoch, ping_ignoresEpoch, sessionPriority_ignoresEpoch, List.forall_mem_nil _⟩
    exact each r hr p e s

end Sys2Proof.Machine

/-! The machine as a whole: one case for each command, by the lemma of its meaning under Laws. -/

namespace Sys2Proof.Machine

open Sys2Proof

/-- Every command answers a next state. -/
theorem exec_next (c : Instr) (s : State) : ∃ t, exec c s = .next t := by
  cases c <;> exact ⟨_, rfl⟩

/-- Every command keeps the invariant and the queue. -/
theorem exec_keeps {c : Instr} {s t : State} (h : exec c s = .next t) : Keeps s t := by
  cases c with
  | hello => exact execHello_keeps h
  | bye => exact execBye_keeps h
  | ping => exact execPing_keeps h
  | sessionPriority => exact execSessionPriority_keeps h
  | unitList => exact execUnitList_keeps h
  | unitInfo => exact execUnitInfo_keeps h
  | unitCertGet => exact execUnitCertGet_keeps h
  | unitEpochGet => exact execUnitEpochGet_keeps h
  | modeGet => exact execModeGet_keeps h
  | modeSet => exact execModeSet_keeps h
  | restart => exact execRestart_keeps h
  | gong => exact execGong_keeps h
  | clearSafe => exact execClearSafe_keeps h
  | valueRead => exact execValueRead_keeps h
  | valueWrite => exact execValueWrite_keeps h
  | constWrite => exact execConstWrite_keeps h
  | valueOwn => exact execValueOwn_keeps h
  | valueRelease => exact execValueRelease_keeps h
  | forceSet => exact execForceSet_keeps h
  | forceClear => exact execForceClear_keeps h
  | objRead => exact execObjRead_keeps h
  | objWrite => exact execObjWrite_keeps h
  | programStage => exact execProgramStage_keeps h
  | programChunk => exact execProgramChunk_keeps h
  | shadowStart => exact execShadowStart_keeps h
  | shadowCompareGet => exact execShadowCompareGet_keeps h
  | promote => exact execPromote_keeps h
  | revert => exact execRevert_keeps h
  | changeConfirm => exact execChangeConfirm_keeps h
  | pairStatus => exact execPairStatus_keeps h
  | switchover => exact execSwitchover_keeps h
  | healthReport => exact execHealthReport_keeps h
  | resyncStandby => exact execResyncStandby_keeps h
  | loopRead => exact execLoopRead_keeps h
  | loopModeSet => exact execLoopModeSet_keeps h
  | loopCoeffSet => exact execLoopCoeffSet_keeps h
  | loopSpSet => exact execLoopSpSet_keeps h
  | timeStatus => exact execTimeStatus_keeps h
  | chimeSet => exact execChimeSet_keeps h
  | rimshotArm => exact execRimshotArm_keeps h
  | captureRead => exact execCaptureRead_keeps h
  | journalStatus => exact execJournalStatus_keeps h
  | rollNow => exact execRollNow_keeps h
  | recorderFreeze => exact execRecorderFreeze_keeps h
  | recorderRead => exact execRecorderRead_keeps h
  | recorderThaw => exact execRecorderThaw_keeps h
  | recorderClear => exact execRecorderClear_keeps h
  | imageHeader => exact execImageHeader_keeps h
  | imageChunk => exact execImageChunk_keeps h
  | imageCommit => exact execImageCommit_keeps h
  | imageStatus => exact execImageStatus_keeps h
  | imageConfirm => exact execImageConfirm_keeps h
  | csrCreate => exact execCsrCreate_keeps h
  | certInstall => exact execCertInstall_keeps h
  | securityStateSet => exact execSecurityStateSet_keeps h
  | debugTokenInstall => exact execDebugTokenInstall_keeps h
  | auditRead => exact execAuditRead_keeps h
  | ioConfigSet => exact execIoConfigSet_keeps h
  | ioDiagRead => exact execIoDiagRead_keeps h
  | laneStatus => exact execLaneStatus_keeps h
  | canObjSet => exact execCanObjSet_keeps h
  | powerStatus => exact execPowerStatus_keeps h
  | dormantEnter => exact execDormantEnter_keeps h
  | powerStats => exact execPowerStats_keeps h
  | eventSubscribe => exact execEventSubscribe_keeps h
  | eventRead => exact execEventRead_keeps h
  | selftest => exact execSelftest_keeps h
  | klStatus => exact execKlStatus_keeps h
  | gongDatagramSend => exact execGongDatagramSend_keeps h
  | gongDatagramReceive => exact execGongDatagramReceive_keeps h
  | servicePacketCrcFail => exact execServicePacketCrcFail_keeps h
  | nonceExpiry => exact execNonceExpiry_keeps h
  | sessionTransportLoss => exact execSessionTransportLoss_keeps h
  | sessionIdleTimeout => exact execSessionIdleTimeout_keeps h
  | ownGraceExpiry => exact execOwnGraceExpiry_keeps h
  | transferTimeout => exact execTransferTimeout_keeps h
  | forwardTimeout => exact execForwardTimeout_keeps h
  | mailboxReply => exact execMailboxReply_keeps h
  | mailboxTimeout => exact execMailboxTimeout_keeps h
  | beatEdge => exact execBeatEdge_keeps h
  | freezeCommandApply => exact execFreezeCommandApply_keeps h
  | imageComplete => exact execImageComplete_keeps h
  | taskEnd => exact execTaskEnd_keeps h
  | sliceEnd => exact execSliceEnd_keeps h
  | loopBlockExecute => exact execLoopBlockExecute_keeps h
  | commitStart => exact execCommitStart_keeps h
  | commitDone => exact execCommitDone_keeps h
  | commitLate => exact execCommitLate_keeps h
  | emitStart => exact execEmitStart_keeps h
  | trackingCloseSend => exact execTrackingCloseSend_keeps h
  | clusterTrimExit => exact execClusterTrimExit_keeps h
  | holdTimeout => exact execHoldTimeout_keeps h
  | retainMirrorDone => exact execRetainMirrorDone_keeps h
  | startSequence => exact execStartSequence_keeps h
  | partnerExchange => exact execPartnerExchange_keeps h
  | heartbeatSend tick => exact execHeartbeatSend_keeps (a0 := tick) h
  | heartbeatReceive => exact execHeartbeatReceive_keeps h
  | heartbeatLost tick => exact execHeartbeatLost_keeps (a0 := tick) h
  | ownHeartbeatStop => exact execOwnHeartbeatStop_keeps h
  | takeover => exact execTakeover_keeps h
  | claimReleasedUnsynced => exact execClaimReleasedUnsynced_keeps h
  | claimProbe => exact execClaimProbe_keeps h
  | pairLinkUp => exact execPairLinkUp_keeps h
  | pairLinkDegraded => exact execPairLinkDegraded_keeps h
  | frozenImageReceive => exact execFrozenImageReceive_keeps h
  | trackingLineReceive => exact execTrackingLineReceive_keeps h
  | outputCloseReceive => exact execOutputCloseReceive_keeps h
  | trackingCloseReceive => exact execTrackingCloseReceive_keeps h
  | syncComplete => exact execSyncComplete_keeps h
  | healthCheckPass => exact execHealthCheckPass_keeps h
  | healthCheckDue => exact execHealthCheckDue_keeps h
  | healthCheckFailed => exact execHealthCheckFailed_keeps h
  | plannedSwitchover => exact execPlannedSwitchover_keeps h
  | shadowRunStart => exact execShadowRunStart_keeps h
  | shadowCompare => exact execShadowCompare_keeps h
  | revertHandover => exact execRevertHandover_keeps h
  | confirmWindowEnd => exact execConfirmWindowEnd_keeps h
  | triadMismatch => exact execTriadMismatch_keeps h
  | resyncStart => exact execResyncStart_keeps h
  | resyncPassDone => exact execResyncPassDone_keeps h
  | resyncFinal => exact execResyncFinal_keeps h
  | resyncDone => exact execResyncDone_keeps h
  | resyncRetry => exact execResyncRetry_keeps h
  | splitClusterFault => exact execSplitClusterFault_keeps h
  | edgeLaunch => exact execEdgeLaunch_keeps h
  | delayMeasure => exact execDelayMeasure_keeps h
  | delayRespReceive => exact execDelayRespReceive_keeps h
  | upstreamFrameReceive => exact execUpstreamFrameReceive_keeps h
  | ackSend => exact execAckSend_keeps h
  | exchangeWindowEnd => exact execExchangeWindowEnd_keeps h
  | lossOfLink => exact execLossOfLink_keeps h
  | boardInserted => exact execBoardInserted_keeps h
  | crossoverForward => exact execCrossoverForward_keeps h
  | laneProbe => exact execLaneProbe_keeps h
  | crossoverEnd lane cause => exact execCrossoverEnd_keeps (a1 := cause) h
  | l3Poll => exact execL3Poll_keeps h
  | l3CheckPoll => exact execL3CheckPoll_keeps h
  | l3ResponseReceive => exact execL3ResponseReceive_keeps h
  | l3ResponseTimeout => exact execL3ResponseTimeout_keeps h
  | wslFrameReceive => exact execWslFrameReceive_keeps h
  | wslExchangeDeadline => exact execWslExchangeDeadline_keeps h
  | wslGateOpen => exact execWslGateOpen_keeps h
  | wslGateClose => exact execWslGateClose_keeps h
  | fieldSamplesCross => exact execFieldSamplesCross_keeps h
  | fieldSamplesLate => exact execFieldSamplesLate_keeps h
  | fieldConverter => exact execFieldConverter_keeps h
  | fieldTimeout => exact execFieldTimeout_keeps h
  | dioRampAbort => exact execDioRampAbort_keeps h
  | dioOverloadTrip => exact execDioOverloadTrip_keeps h
  | dioRetry => exact execDioRetry_keeps h
  | dioRetriesRestore => exact execDioRetriesRestore_keeps h
  | dioOverloadClear k byAck => exact execDioOverloadClear_keeps (a1 := byAck) h
  | dioOvertemp => exact execDioOvertemp_keeps h
  | dioCooled => exact execDioCooled_keeps h
  | dioWire => exact execDioWire_keeps h
  | dioEdge => exact execDioEdge_keeps h
  | loadSupplyChange => exact execLoadSupplyChange_keeps h
  | aoOpenLoop => exact execAoOpenLoop_keeps h
  | aoMiswire => exact execAoMiswire_keeps h
  | aoMiswireClear => exact execAoMiswireClear_keeps h
  | aoReadback => exact execAoReadback_keeps h
  | aoHeadroomLow => exact execAoHeadroomLow_keeps h
  | encIllegal => exact execEncIllegal_keeps h
  | encZ => exact execEncZ_keeps h
  | encLineFault => exact execEncLineFault_keeps h
  | countPreset => exact execCountPreset_keeps h
  | captureEvent => exact execCaptureEvent_keeps h
  | captureIntervalTimeout => exact execCaptureIntervalTimeout_keeps h
  | faSampleDeliver => exact execFaSampleDeliver_keeps h
  | faChainRestart => exact execFaChainRestart_keeps h
  | faLaneFault => exact execFaLaneFault_keeps h
  | faLaneReload => exact execFaLaneReload_keeps h
  | ptpSyncReceive => exact execPtpSyncReceive_keeps h
  | delayExchangeComplete => exact execDelayExchangeComplete_keeps h
  | announceReceive => exact execAnnounceReceive_keeps h
  | gmChange => exact execGmChange_keeps h
  | gmLost => exact execGmLost_keeps h
  | timeLockLost => exact execTimeLockLost_keeps h
  | ptpRxError => exact execPtpRxError_keeps h
  | ptpForward => exact execPtpForward_keeps h
  | ppsEdge => exact execPpsEdge_keeps h
  | ppsLost => exact execPpsLost_keeps h
  | ppsOutPulse => exact execPpsOutPulse_keeps h
  | chimePulse => exact execChimePulse_keeps h
  | rimshotFired => exact execRimshotFired_keeps h
  | tpEventPulse => exact execTpEventPulse_keeps h
  | canFrameReceive => exact execCanFrameReceive_keeps h
  | canTxComplete => exact execCanTxComplete_keeps h
  | canBusError => exact execCanBusError_keeps h
  | canAckError => exact execCanAckError_keeps h
  | canNoPeerResume => exact execCanNoPeerResume_keeps h
  | canRecover => exact execCanRecover_keeps h
  | canBusoffRecovery => exact execCanBusoffRecovery_keeps h
  | canAbrDwell => exact execCanAbrDwell_keeps h
  | canControllerFault => exact execCanControllerFault_keeps h
  | canControllerReload => exact execCanControllerReload_keeps h
  | journalRecordCommit => exact execJournalRecordCommit_keeps h
  | rollCopy => exact execRollCopy_keeps h
  | rollDone => exact execRollDone_keeps h
  | recorderAppend => exact execRecorderAppend_keeps h
  | eventDeliver => exact execEventDeliver_keeps h
  | faultArrival => exact execFaultArrival_keeps h
  | faultHandlerEnd => exact execFaultHandlerEnd_keeps h
  | fatalHandler => exact execFatalHandler_keeps h
  | wdService => exact execWdService_keeps h
  | wdExpired => exact execWdExpired_keeps h
  | wdAckTimeout => exact execWdAckTimeout_keeps h
  | wdClockStop => exact execWdClockStop_keeps h
  | wdMonitorClock => exact execWdMonitorClock_keeps h
  | wdEraseGuard => exact execWdEraseGuard_keeps h
  | tollAge => exact execTollAge_keeps h
  | dbgCmdHalt => exact execDbgCmdHalt_keeps h
  | dbgCmdResume => exact execDbgCmdResume_keeps h
  | dbgCmdStep => exact execDbgCmdStep_keeps h
  | dbgCmdEndSession => exact execDbgCmdEndSession_keeps h
  | dbgWindowWrite => exact execDbgWindowWrite_keeps h
  | debugDurationEnd => exact execDebugDurationEnd_keeps h
  | mpuBankSwap => exact execMpuBankSwap_keeps h
  | mpuFault => exact execMpuFault_keeps h
  | auditLinkCheck => exact execAuditLinkCheck_keeps h
  | certExpiring => exact execCertExpiring_keeps h
  | certExpired => exact execCertExpired_keeps h
  | feedChange => exact execFeedChange_keeps h
  | powerdownStart => exact execPowerdownStart_keeps h
  | crashDown => exact execCrashDown_keeps h
  | powerdownRestart => exact execPowerdownRestart_keeps h
  | trimIdleTimer => exact execTrimIdleTimer_keeps h
  | trimEntryConfirm => exact execTrimEntryConfirm_keeps h
  | trimWake => exact execTrimWake_keeps h
  | dormantWake => exact execDormantWake_keeps h
  | partnerWakePulse => exact execPartnerWakePulse_keeps h
  | moduleInsert => exact execModuleInsert_keeps h
  | moduleRemove => exact execModuleRemove_keeps h
  | keyChange => exact execKeyChange_keeps h
  | resetRelease => exact execResetRelease_keeps h
  | stuckReset => exact execStuckReset_keeps h
  | resetRearm => exact execResetRearm_keeps h
  | releasePress => exact execReleasePress_keeps h
  | releaseHold => exact execReleaseHold_keeps h
  | okToRemove => exact execOkToRemove_keeps h
  | touchPage => exact execTouchPage_keeps h
  | touchSelect => exact execTouchSelect_keeps h
  | touchBack => exact execTouchBack_keeps h
  | touchAck => exact execTouchAck_keeps h
  | displayTimeout => exact execDisplayTimeout_keeps h
  | imageEraseComplete => exact execImageEraseComplete_keeps h
  | supBankProgramDone => exact execSupBankProgramDone_keeps h
  | imageAutoConfirm => exact execImageAutoConfirm_keeps h
  | imageRejection => exact execImageRejection_keeps h
  | confirmDeadline => exact execConfirmDeadline_keeps h
  | supervisorLockstepMismatch => exact execSupervisorLockstepMismatch_keeps h
  | encCountStep => exact execEncCountStep_keeps h
  | ethLinkChange => exact execEthLinkChange_keeps h
  | buttonClosure => exact execButtonClosure_keeps h
  | panelMessageTimeout => exact execPanelMessageTimeout_keeps h
  | holdupBankCharged => exact execHoldupBankCharged_keeps h

/-- Every command changes the parts of its footprint at most. -/
theorem exec_touches {c : Instr} {s t : State} (h : exec c s = .next t) : Touches (footprint c) s t := by
  cases c with
  | hello => exact execHello_touches h
  | bye => exact execBye_touches h
  | ping => exact execPing_touches h
  | sessionPriority => exact execSessionPriority_touches h
  | unitList => exact execUnitList_touches h
  | unitInfo => exact execUnitInfo_touches h
  | unitCertGet => exact execUnitCertGet_touches h
  | unitEpochGet => exact execUnitEpochGet_touches h
  | modeGet => exact execModeGet_touches h
  | modeSet => exact execModeSet_touches h
  | restart => exact execRestart_touches h
  | gong => exact execGong_touches h
  | clearSafe => exact execClearSafe_touches h
  | valueRead => exact execValueRead_touches h
  | valueWrite => exact execValueWrite_touches h
  | constWrite => exact execConstWrite_touches h
  | valueOwn => exact execValueOwn_touches h
  | valueRelease => exact execValueRelease_touches h
  | forceSet => exact execForceSet_touches h
  | forceClear => exact execForceClear_touches h
  | objRead => exact execObjRead_touches h
  | objWrite => exact execObjWrite_touches h
  | programStage => exact execProgramStage_touches h
  | programChunk => exact execProgramChunk_touches h
  | shadowStart => exact execShadowStart_touches h
  | shadowCompareGet => exact execShadowCompareGet_touches h
  | promote => exact execPromote_touches h
  | revert => exact execRevert_touches h
  | changeConfirm => exact execChangeConfirm_touches h
  | pairStatus => exact execPairStatus_touches h
  | switchover => exact execSwitchover_touches h
  | healthReport => exact execHealthReport_touches h
  | resyncStandby => exact execResyncStandby_touches h
  | loopRead => exact execLoopRead_touches h
  | loopModeSet => exact execLoopModeSet_touches h
  | loopCoeffSet => exact execLoopCoeffSet_touches h
  | loopSpSet => exact execLoopSpSet_touches h
  | timeStatus => exact execTimeStatus_touches h
  | chimeSet => exact execChimeSet_touches h
  | rimshotArm => exact execRimshotArm_touches h
  | captureRead => exact execCaptureRead_touches h
  | journalStatus => exact execJournalStatus_touches h
  | rollNow => exact execRollNow_touches h
  | recorderFreeze => exact execRecorderFreeze_touches h
  | recorderRead => exact execRecorderRead_touches h
  | recorderThaw => exact execRecorderThaw_touches h
  | recorderClear => exact execRecorderClear_touches h
  | imageHeader => exact execImageHeader_touches h
  | imageChunk => exact execImageChunk_touches h
  | imageCommit => exact execImageCommit_touches h
  | imageStatus => exact execImageStatus_touches h
  | imageConfirm => exact execImageConfirm_touches h
  | csrCreate => exact execCsrCreate_touches h
  | certInstall => exact execCertInstall_touches h
  | securityStateSet => exact execSecurityStateSet_touches h
  | debugTokenInstall => exact execDebugTokenInstall_touches h
  | auditRead => exact execAuditRead_touches h
  | ioConfigSet => exact execIoConfigSet_touches h
  | ioDiagRead => exact execIoDiagRead_touches h
  | laneStatus => exact execLaneStatus_touches h
  | canObjSet => exact execCanObjSet_touches h
  | powerStatus => exact execPowerStatus_touches h
  | dormantEnter => exact execDormantEnter_touches h
  | powerStats => exact execPowerStats_touches h
  | eventSubscribe => exact execEventSubscribe_touches h
  | eventRead => exact execEventRead_touches h
  | selftest => exact execSelftest_touches h
  | klStatus => exact execKlStatus_touches h
  | gongDatagramSend => exact execGongDatagramSend_touches h
  | gongDatagramReceive => exact execGongDatagramReceive_touches h
  | servicePacketCrcFail => exact execServicePacketCrcFail_touches h
  | nonceExpiry => exact execNonceExpiry_touches h
  | sessionTransportLoss => exact execSessionTransportLoss_touches h
  | sessionIdleTimeout => exact execSessionIdleTimeout_touches h
  | ownGraceExpiry => exact execOwnGraceExpiry_touches h
  | transferTimeout => exact execTransferTimeout_touches h
  | forwardTimeout => exact execForwardTimeout_touches h
  | mailboxReply => exact execMailboxReply_touches h
  | mailboxTimeout => exact execMailboxTimeout_touches h
  | beatEdge => exact execBeatEdge_touches h
  | freezeCommandApply => exact execFreezeCommandApply_touches h
  | imageComplete => exact execImageComplete_touches h
  | taskEnd => exact execTaskEnd_touches h
  | sliceEnd => exact execSliceEnd_touches h
  | loopBlockExecute => exact execLoopBlockExecute_touches h
  | commitStart => exact execCommitStart_touches h
  | commitDone => exact execCommitDone_touches h
  | commitLate => exact execCommitLate_touches h
  | emitStart => exact execEmitStart_touches h
  | trackingCloseSend => exact execTrackingCloseSend_touches h
  | clusterTrimExit => exact execClusterTrimExit_touches h
  | holdTimeout => exact execHoldTimeout_touches h
  | retainMirrorDone => exact execRetainMirrorDone_touches h
  | startSequence => exact execStartSequence_touches h
  | partnerExchange => exact execPartnerExchange_touches h
  | heartbeatSend tick => exact execHeartbeatSend_touches (a0 := tick) h
  | heartbeatReceive => exact execHeartbeatReceive_touches h
  | heartbeatLost tick => exact execHeartbeatLost_touches (a0 := tick) h
  | ownHeartbeatStop => exact execOwnHeartbeatStop_touches h
  | takeover => exact execTakeover_touches h
  | claimReleasedUnsynced => exact execClaimReleasedUnsynced_touches h
  | claimProbe => exact execClaimProbe_touches h
  | pairLinkUp => exact execPairLinkUp_touches h
  | pairLinkDegraded => exact execPairLinkDegraded_touches h
  | frozenImageReceive => exact execFrozenImageReceive_touches h
  | trackingLineReceive => exact execTrackingLineReceive_touches h
  | outputCloseReceive => exact execOutputCloseReceive_touches h
  | trackingCloseReceive => exact execTrackingCloseReceive_touches h
  | syncComplete => exact execSyncComplete_touches h
  | healthCheckPass => exact execHealthCheckPass_touches h
  | healthCheckDue => exact execHealthCheckDue_touches h
  | healthCheckFailed => exact execHealthCheckFailed_touches h
  | plannedSwitchover => exact execPlannedSwitchover_touches h
  | shadowRunStart => exact execShadowRunStart_touches h
  | shadowCompare => exact execShadowCompare_touches h
  | revertHandover => exact execRevertHandover_touches h
  | confirmWindowEnd => exact execConfirmWindowEnd_touches h
  | triadMismatch => exact execTriadMismatch_touches h
  | resyncStart => exact execResyncStart_touches h
  | resyncPassDone => exact execResyncPassDone_touches h
  | resyncFinal => exact execResyncFinal_touches h
  | resyncDone => exact execResyncDone_touches h
  | resyncRetry => exact execResyncRetry_touches h
  | splitClusterFault => exact execSplitClusterFault_touches h
  | edgeLaunch => exact execEdgeLaunch_touches h
  | delayMeasure => exact execDelayMeasure_touches h
  | delayRespReceive => exact execDelayRespReceive_touches h
  | upstreamFrameReceive => exact execUpstreamFrameReceive_touches h
  | ackSend => exact execAckSend_touches h
  | exchangeWindowEnd => exact execExchangeWindowEnd_touches h
  | lossOfLink => exact execLossOfLink_touches h
  | boardInserted => exact execBoardInserted_touches h
  | crossoverForward => exact execCrossoverForward_touches h
  | laneProbe => exact execLaneProbe_touches h
  | crossoverEnd lane cause => exact execCrossoverEnd_touches (a1 := cause) h
  | l3Poll => exact execL3Poll_touches h
  | l3CheckPoll => exact execL3CheckPoll_touches h
  | l3ResponseReceive => exact execL3ResponseReceive_touches h
  | l3ResponseTimeout => exact execL3ResponseTimeout_touches h
  | wslFrameReceive => exact execWslFrameReceive_touches h
  | wslExchangeDeadline => exact execWslExchangeDeadline_touches h
  | wslGateOpen => exact execWslGateOpen_touches h
  | wslGateClose => exact execWslGateClose_touches h
  | fieldSamplesCross => exact execFieldSamplesCross_touches h
  | fieldSamplesLate => exact execFieldSamplesLate_touches h
  | fieldConverter => exact execFieldConverter_touches h
  | fieldTimeout => exact execFieldTimeout_touches h
  | dioRampAbort => exact execDioRampAbort_touches h
  | dioOverloadTrip => exact execDioOverloadTrip_touches h
  | dioRetry => exact execDioRetry_touches h
  | dioRetriesRestore => exact execDioRetriesRestore_touches h
  | dioOverloadClear k byAck => exact execDioOverloadClear_touches (a1 := byAck) h
  | dioOvertemp => exact execDioOvertemp_touches h
  | dioCooled => exact execDioCooled_touches h
  | dioWire => exact execDioWire_touches h
  | dioEdge => exact execDioEdge_touches h
  | loadSupplyChange => exact execLoadSupplyChange_touches h
  | aoOpenLoop => exact execAoOpenLoop_touches h
  | aoMiswire => exact execAoMiswire_touches h
  | aoMiswireClear => exact execAoMiswireClear_touches h
  | aoReadback => exact execAoReadback_touches h
  | aoHeadroomLow => exact execAoHeadroomLow_touches h
  | encIllegal => exact execEncIllegal_touches h
  | encZ => exact execEncZ_touches h
  | encLineFault => exact execEncLineFault_touches h
  | countPreset => exact execCountPreset_touches h
  | captureEvent => exact execCaptureEvent_touches h
  | captureIntervalTimeout => exact execCaptureIntervalTimeout_touches h
  | faSampleDeliver => exact execFaSampleDeliver_touches h
  | faChainRestart => exact execFaChainRestart_touches h
  | faLaneFault => exact execFaLaneFault_touches h
  | faLaneReload => exact execFaLaneReload_touches h
  | ptpSyncReceive => exact execPtpSyncReceive_touches h
  | delayExchangeComplete => exact execDelayExchangeComplete_touches h
  | announceReceive => exact execAnnounceReceive_touches h
  | gmChange => exact execGmChange_touches h
  | gmLost => exact execGmLost_touches h
  | timeLockLost => exact execTimeLockLost_touches h
  | ptpRxError => exact execPtpRxError_touches h
  | ptpForward => exact execPtpForward_touches h
  | ppsEdge => exact execPpsEdge_touches h
  | ppsLost => exact execPpsLost_touches h
  | ppsOutPulse => exact execPpsOutPulse_touches h
  | chimePulse => exact execChimePulse_touches h
  | rimshotFired => exact execRimshotFired_touches h
  | tpEventPulse => exact execTpEventPulse_touches h
  | canFrameReceive => exact execCanFrameReceive_touches h
  | canTxComplete => exact execCanTxComplete_touches h
  | canBusError => exact execCanBusError_touches h
  | canAckError => exact execCanAckError_touches h
  | canNoPeerResume => exact execCanNoPeerResume_touches h
  | canRecover => exact execCanRecover_touches h
  | canBusoffRecovery => exact execCanBusoffRecovery_touches h
  | canAbrDwell => exact execCanAbrDwell_touches h
  | canControllerFault => exact execCanControllerFault_touches h
  | canControllerReload => exact execCanControllerReload_touches h
  | journalRecordCommit => exact execJournalRecordCommit_touches h
  | rollCopy => exact execRollCopy_touches h
  | rollDone => exact execRollDone_touches h
  | recorderAppend => exact execRecorderAppend_touches h
  | eventDeliver => exact execEventDeliver_touches h
  | faultArrival => exact execFaultArrival_touches h
  | faultHandlerEnd => exact execFaultHandlerEnd_touches h
  | fatalHandler => exact execFatalHandler_touches h
  | wdService => exact execWdService_touches h
  | wdExpired => exact execWdExpired_touches h
  | wdAckTimeout => exact execWdAckTimeout_touches h
  | wdClockStop => exact execWdClockStop_touches h
  | wdMonitorClock => exact execWdMonitorClock_touches h
  | wdEraseGuard => exact execWdEraseGuard_touches h
  | tollAge => exact execTollAge_touches h
  | dbgCmdHalt => exact execDbgCmdHalt_touches h
  | dbgCmdResume => exact execDbgCmdResume_touches h
  | dbgCmdStep => exact execDbgCmdStep_touches h
  | dbgCmdEndSession => exact execDbgCmdEndSession_touches h
  | dbgWindowWrite => exact execDbgWindowWrite_touches h
  | debugDurationEnd => exact execDebugDurationEnd_touches h
  | mpuBankSwap => exact execMpuBankSwap_touches h
  | mpuFault => exact execMpuFault_touches h
  | auditLinkCheck => exact execAuditLinkCheck_touches h
  | certExpiring => exact execCertExpiring_touches h
  | certExpired => exact execCertExpired_touches h
  | feedChange => exact execFeedChange_touches h
  | powerdownStart => exact execPowerdownStart_touches h
  | crashDown => exact execCrashDown_touches h
  | powerdownRestart => exact execPowerdownRestart_touches h
  | trimIdleTimer => exact execTrimIdleTimer_touches h
  | trimEntryConfirm => exact execTrimEntryConfirm_touches h
  | trimWake => exact execTrimWake_touches h
  | dormantWake => exact execDormantWake_touches h
  | partnerWakePulse => exact execPartnerWakePulse_touches h
  | moduleInsert => exact execModuleInsert_touches h
  | moduleRemove => exact execModuleRemove_touches h
  | keyChange => exact execKeyChange_touches h
  | resetRelease => exact execResetRelease_touches h
  | stuckReset => exact execStuckReset_touches h
  | resetRearm => exact execResetRearm_touches h
  | releasePress => exact execReleasePress_touches h
  | releaseHold => exact execReleaseHold_touches h
  | okToRemove => exact execOkToRemove_touches h
  | touchPage => exact execTouchPage_touches h
  | touchSelect => exact execTouchSelect_touches h
  | touchBack => exact execTouchBack_touches h
  | touchAck => exact execTouchAck_touches h
  | displayTimeout => exact execDisplayTimeout_touches h
  | imageEraseComplete => exact execImageEraseComplete_touches h
  | supBankProgramDone => exact execSupBankProgramDone_touches h
  | imageAutoConfirm => exact execImageAutoConfirm_touches h
  | imageRejection => exact execImageRejection_touches h
  | confirmDeadline => exact execConfirmDeadline_touches h
  | supervisorLockstepMismatch => exact execSupervisorLockstepMismatch_touches h
  | encCountStep => exact execEncCountStep_touches h
  | ethLinkChange => exact execEthLinkChange_touches h
  | buttonClosure => exact execButtonClosure_touches h
  | panelMessageTimeout => exact execPanelMessageTimeout_touches h
  | holdupBankCharged => exact execHoldupBankCharged_touches h

/-- A command outside the list leaves MODE and ROLE. -/
theorem exec_mkept {c : Instr} {s t : State} (hc : changesMode c = false) (h : exec c s = .next t) : MKept s t := by
  cases c with
  | hello => exact execHello_mk h
  | bye => exact execBye_mk h
  | ping => exact execPing_mk h
  | sessionPriority => exact execSessionPriority_mk h
  | unitList => exact execUnitList_mk h
  | unitInfo => exact execUnitInfo_mk h
  | unitCertGet => exact execUnitCertGet_mk h
  | unitEpochGet => exact execUnitEpochGet_mk h
  | modeGet => exact execModeGet_mk h
  | modeSet => exact execModeSet_mk h
  | restart => exact execRestart_mk h
  | gong => exact execGong_mk h
  | valueRead => exact execValueRead_mk h
  | valueWrite => exact execValueWrite_mk h
  | constWrite => exact execConstWrite_mk h
  | valueOwn => exact execValueOwn_mk h
  | valueRelease => exact execValueRelease_mk h
  | forceSet => exact execForceSet_mk h
  | forceClear => exact execForceClear_mk h
  | objRead => exact execObjRead_mk h
  | objWrite => exact execObjWrite_mk h
  | programStage => exact execProgramStage_mk h
  | programChunk => exact execProgramChunk_mk h
  | shadowStart => exact execShadowStart_mk h
  | shadowCompareGet => exact execShadowCompareGet_mk h
  | promote => exact execPromote_mk h
  | revert => exact execRevert_mk h
  | changeConfirm => exact execChangeConfirm_mk h
  | pairStatus => exact execPairStatus_mk h
  | switchover => exact execSwitchover_mk h
  | healthReport => exact execHealthReport_mk h
  | resyncStandby => exact execResyncStandby_mk h
  | loopRead => exact execLoopRead_mk h
  | loopModeSet => exact execLoopModeSet_mk h
  | loopCoeffSet => exact execLoopCoeffSet_mk h
  | loopSpSet => exact execLoopSpSet_mk h
  | timeStatus => exact execTimeStatus_mk h
  | chimeSet => exact execChimeSet_mk h
  | rimshotArm => exact execRimshotArm_mk h
  | captureRead => exact execCaptureRead_mk h
  | journalStatus => exact execJournalStatus_mk h
  | rollNow => exact execRollNow_mk h
  | recorderFreeze => exact execRecorderFreeze_mk h
  | recorderRead => exact execRecorderRead_mk h
  | recorderThaw => exact execRecorderThaw_mk h
  | recorderClear => exact execRecorderClear_mk h
  | imageHeader => exact execImageHeader_mk h
  | imageChunk => exact execImageChunk_mk h
  | imageStatus => exact execImageStatus_mk h
  | imageConfirm => exact execImageConfirm_mk h
  | csrCreate => exact execCsrCreate_mk h
  | certInstall => exact execCertInstall_mk h
  | securityStateSet => exact execSecurityStateSet_mk h
  | debugTokenInstall => exact execDebugTokenInstall_mk h
  | auditRead => exact execAuditRead_mk h
  | ioConfigSet => exact execIoConfigSet_mk h
  | ioDiagRead => exact execIoDiagRead_mk h
  | laneStatus => exact execLaneStatus_mk h
  | canObjSet => exact execCanObjSet_mk h
  | powerStatus => exact execPowerStatus_mk h
  | dormantEnter => exact execDormantEnter_mk h
  | powerStats => exact execPowerStats_mk h
  | eventSubscribe => exact execEventSubscribe_mk h
  | eventRead => exact execEventRead_mk h
  | selftest => exact execSelftest_mk h
  | klStatus => exact execKlStatus_mk h
  | gongDatagramSend => exact execGongDatagramSend_mk h
  | gongDatagramReceive => exact execGongDatagramReceive_mk h
  | servicePacketCrcFail => exact execServicePacketCrcFail_mk h
  | nonceExpiry => exact execNonceExpiry_mk h
  | sessionTransportLoss => exact execSessionTransportLoss_mk h
  | sessionIdleTimeout => exact execSessionIdleTimeout_mk h
  | ownGraceExpiry => exact execOwnGraceExpiry_mk h
  | transferTimeout => exact execTransferTimeout_mk h
  | forwardTimeout => exact execForwardTimeout_mk h
  | mailboxReply => exact execMailboxReply_mk h
  | mailboxTimeout => exact execMailboxTimeout_mk h
  | taskEnd => exact execTaskEnd_mk h
  | sliceEnd => exact execSliceEnd_mk h
  | loopBlockExecute => exact execLoopBlockExecute_mk h
  | commitStart => exact execCommitStart_mk h
  | commitDone => exact execCommitDone_mk h
  | commitLate => exact execCommitLate_mk h
  | emitStart => exact execEmitStart_mk h
  | trackingCloseSend => exact execTrackingCloseSend_mk h
  | clusterTrimExit => exact execClusterTrimExit_mk h
  | holdTimeout => exact execHoldTimeout_mk h
  | retainMirrorDone => exact execRetainMirrorDone_mk h
  | heartbeatSend tick => exact execHeartbeatSend_mk (a0 := tick) h
  | heartbeatReceive => exact execHeartbeatReceive_mk h
  | heartbeatLost tick => exact execHeartbeatLost_mk (a0 := tick) h
  | ownHeartbeatStop => exact execOwnHeartbeatStop_mk h
  | pairLinkUp => exact execPairLinkUp_mk h
  | pairLinkDegraded => exact execPairLinkDegraded_mk h
  | frozenImageReceive => exact execFrozenImageReceive_mk h
  | trackingLineReceive => exact execTrackingLineReceive_mk h
  | outputCloseReceive => exact execOutputCloseReceive_mk h
  | healthCheckPass => exact execHealthCheckPass_mk h
  | healthCheckDue => exact execHealthCheckDue_mk h
  | plannedSwitchover => exact execPlannedSwitchover_mk h
  | shadowCompare => exact execShadowCompare_mk h
  | revertHandover => exact execRevertHandover_mk h
  | confirmWindowEnd => exact execConfirmWindowEnd_mk h
  | triadMismatch => exact execTriadMismatch_mk h
  | resyncStart => exact execResyncStart_mk h
  | resyncPassDone => exact execResyncPassDone_mk h
  | resyncFinal => exact execResyncFinal_mk h
  | resyncDone => exact execResyncDone_mk h
  | resyncRetry => exact execResyncRetry_mk h
  | splitClusterFault => exact execSplitClusterFault_mk h
  | edgeLaunch => exact execEdgeLaunch_mk h
  | delayMeasure => exact execDelayMeasure_mk h
  | delayRespReceive => exact execDelayRespReceive_mk h
  | upstreamFrameReceive => exact execUpstreamFrameReceive_mk h
  | ackSend => exact execAckSend_mk h
  | exchangeWindowEnd => exact execExchangeWindowEnd_mk h
  | lossOfLink => exact execLossOfLink_mk h
  | boardInserted => exact execBoardInserted_mk h
  | crossoverForward => exact execCrossoverForward_mk h
  | laneProbe => exact execLaneProbe_mk h
  | crossoverEnd lane cause => exact execCrossoverEnd_mk (a1 := cause) h
  | l3Poll => exact execL3Poll_mk h
  | l3CheckPoll => exact execL3CheckPoll_mk h
  | l3ResponseReceive => exact execL3ResponseReceive_mk h
  | l3ResponseTimeout => exact execL3ResponseTimeout_mk h
  | wslFrameReceive => exact execWslFrameReceive_mk h
  | wslExchangeDeadline => exact execWslExchangeDeadline_mk h
  | wslGateOpen => exact execWslGateOpen_mk h
  | wslGateClose => exact execWslGateClose_mk h
  | fieldSamplesCross => exact execFieldSamplesCross_mk h
  | fieldSamplesLate => exact execFieldSamplesLate_mk h
  | fieldConverter => exact execFieldConverter_mk h
  | fieldTimeout => exact execFieldTimeout_mk h
  | dioRampAbort => exact execDioRampAbort_mk h
  | dioOverloadTrip => exact execDioOverloadTrip_mk h
  | dioRetry => exact execDioRetry_mk h
  | dioRetriesRestore => exact execDioRetriesRestore_mk h
  | dioOverloadClear k byAck => exact execDioOverloadClear_mk (a1 := byAck) h
  | dioOvertemp => exact execDioOvertemp_mk h
  | dioCooled => exact execDioCooled_mk h
  | dioWire => exact execDioWire_mk h
  | dioEdge => exact execDioEdge_mk h
  | loadSupplyChange => exact execLoadSupplyChange_mk h
  | aoOpenLoop => exact execAoOpenLoop_mk h
  | aoMiswire => exact execAoMiswire_mk h
  | aoMiswireClear => exact execAoMiswireClear_mk h
  | aoReadback => exact execAoReadback_mk h
  | aoHeadroomLow => exact execAoHeadroomLow_mk h
  | encIllegal => exact execEncIllegal_mk h
  | encZ => exact execEncZ_mk h
  | encLineFault => exact execEncLineFault_mk h
  | countPreset => exact execCountPreset_mk h
  | captureEvent => exact execCaptureEvent_mk h
  | captureIntervalTimeout => exact execCaptureIntervalTimeout_mk h
  | faSampleDeliver => exact execFaSampleDeliver_mk h
  | faChainRestart => exact execFaChainRestart_mk h
  | faLaneFault => exact execFaLaneFault_mk h
  | faLaneReload => exact execFaLaneReload_mk h
  | ptpSyncReceive => exact execPtpSyncReceive_mk h
  | delayExchangeComplete => exact execDelayExchangeComplete_mk h
  | announceReceive => exact execAnnounceReceive_mk h
  | gmChange => exact execGmChange_mk h
  | gmLost => exact execGmLost_mk h
  | timeLockLost => exact execTimeLockLost_mk h
  | ptpRxError => exact execPtpRxError_mk h
  | ptpForward => exact execPtpForward_mk h
  | ppsEdge => exact execPpsEdge_mk h
  | ppsLost => exact execPpsLost_mk h
  | ppsOutPulse => exact execPpsOutPulse_mk h
  | chimePulse => exact execChimePulse_mk h
  | rimshotFired => exact execRimshotFired_mk h
  | tpEventPulse => exact execTpEventPulse_mk h
  | canFrameReceive => exact execCanFrameReceive_mk h
  | canTxComplete => exact execCanTxComplete_mk h
  | canBusError => exact execCanBusError_mk h
  | canAckError => exact execCanAckError_mk h
  | canNoPeerResume => exact execCanNoPeerResume_mk h
  | canRecover => exact execCanRecover_mk h
  | canBusoffRecovery => exact execCanBusoffRecovery_mk h
  | canAbrDwell => exact execCanAbrDwell_mk h
  | canControllerFault => exact execCanControllerFault_mk h
  | canControllerReload => exact execCanControllerReload_mk h
  | journalRecordCommit => exact execJournalRecordCommit_mk h
  | rollCopy => exact execRollCopy_mk h
  | rollDone => exact execRollDone_mk h
  | recorderAppend => exact execRecorderAppend_mk h
  | eventDeliver => exact execEventDeliver_mk h
  | faultArrival => exact execFaultArrival_mk h
  | faultHandlerEnd => exact execFaultHandlerEnd_mk h
  | fatalHandler => exact execFatalHandler_mk h
  | wdService => exact execWdService_mk h
  | wdExpired => exact execWdExpired_mk h
  | wdAckTimeout => exact execWdAckTimeout_mk h
  | wdClockStop => exact execWdClockStop_mk h
  | wdEraseGuard => exact execWdEraseGuard_mk h
  | tollAge => exact execTollAge_mk h
  | dbgCmdResume => exact execDbgCmdResume_mk h
  | dbgCmdStep => exact execDbgCmdStep_mk h
  | dbgCmdEndSession => exact execDbgCmdEndSession_mk h
  | dbgWindowWrite => exact execDbgWindowWrite_mk h
  | debugDurationEnd => exact execDebugDurationEnd_mk h
  | mpuBankSwap => exact execMpuBankSwap_mk h
  | mpuFault => exact execMpuFault_mk h
  | auditLinkCheck => exact execAuditLinkCheck_mk h
  | certExpiring => exact execCertExpiring_mk h
  | certExpired => exact execCertExpired_mk h
  | powerdownStart => exact execPowerdownStart_mk h
  | crashDown => exact execCrashDown_mk h
  | trimIdleTimer => exact execTrimIdleTimer_mk h
  | trimEntryConfirm => exact execTrimEntryConfirm_mk h
  | trimWake => exact execTrimWake_mk h
  | partnerWakePulse => exact execPartnerWakePulse_mk h
  | moduleRemove => exact execModuleRemove_mk h
  | keyChange => exact execKeyChange_mk h
  | stuckReset => exact execStuckReset_mk h
  | resetRearm => exact execResetRearm_mk h
  | okToRemove => exact execOkToRemove_mk h
  | touchPage => exact execTouchPage_mk h
  | touchSelect => exact execTouchSelect_mk h
  | touchBack => exact execTouchBack_mk h
  | touchAck => exact execTouchAck_mk h
  | displayTimeout => exact execDisplayTimeout_mk h
  | imageEraseComplete => exact execImageEraseComplete_mk h
  | imageAutoConfirm => exact execImageAutoConfirm_mk h
  | encCountStep => exact execEncCountStep_mk h
  | ethLinkChange => exact execEthLinkChange_mk h
  | buttonClosure => exact execButtonClosure_mk h
  | panelMessageTimeout => exact execPanelMessageTimeout_mk h
  | holdupBankCharged => exact execHoldupBankCharged_mk h
  | _ => cases hc

/-- Settles O1: `step` is `exec` of the front command by its definition, and idles on an empty queue. -/
theorem stepCarriesOutTheFrontCommand : Obligations.StepCarriesOutTheFrontCommand := by
  unfold Obligations.StepCarriesOutTheFrontCommand
  constructor
  · intro c rest s hp
    rw [step, hp]
  · intro s hp
    rw [step, hp]

/-- Settles O3: on an empty queue the state stands; a command keeps the invariant, which does not speak of the queue. -/
theorem everyStepKeepsTheInvariant : Obligations.EveryStepKeepsTheInvariant := by
  unfold Obligations.EveryStepKeepsTheInvariant
  intro s t inv steps
  obtain ⟨front, empty⟩ := stepCarriesOutTheFrontCommand
  unfold StepsTo at steps
  cases hp : s.pending with
  | nil =>
    rw [empty s hp] at steps
    injection steps with same
    exact same ▸ inv
  | cons c rest =>
    rw [front c rest s hp] at steps
    exact (exec_keeps steps).inv inv

/-- Settles O4: every command answers a next state, and touches its footprint. -/
theorem commandsChangeOnlyTheirParts : Obligations.CommandsChangeOnlyTheirParts := by
  unfold Obligations.CommandsChangeOnlyTheirParts
  intro c s
  obtain ⟨t, ht⟩ := exec_next c s
  exact ⟨t, ht, exec_touches ht⟩

/-- Settles O5: a command outside the list keeps MODE and ROLE. -/
theorem onlyTheseCommandsChangeModeOrRole : Obligations.OnlyTheseCommandsChangeModeOrRole := by
  unfold Obligations.OnlyTheseCommandsChangeModeOrRole
  intro c s t hc fits h
  exact (exec_mkept hc h).same fits

/-- A key that a list of registers does not name reads its default. -/
theorem regGet_unlisted {l : List (Nat × Nat)} {k d : Nat} (h : k ∉ l.map Prod.fst) : regGet l k d = d := by
  induction l with
  | nil => rfl
  | cons p t ih =>
    obtain ⟨other, rest⟩ : k ≠ p.1 ∧ k ∉ t.map Prod.fst := by simpa using h
    rw [regGet, if_neg (Ne.symm other), ih rest]

/-- A field apart from the two that reset gives values of their own: the intervals of the health checks (R146) and the routes to
the recorder (R469). -/
def Fld.plainAtReset (f : Fld) : Bool := fldApart f F.hcInterval && fldApart f F.routeRecorder && decide (0 < f.cnt)

/-- Such a field reads the default of its table after reset. -/
theorem State.get_reset {f : Fld} {k : Nat} (h : f.plainAtReset = true) : State.reset.get f k = f.dflt := by
  simp only [Fld.plainAtReset, Bool.and_eq_true, decide_eq_true_eq] at h
  obtain ⟨⟨interval, route⟩, cnt⟩ := h
  refine regGet_unlisted fun listed => ?_
  obtain ⟨⟨key, v⟩, hp, hk⟩ := List.mem_map.1 listed
  obtain hi | hr := List.mem_append.1 hp
  · obtain ⟨n, _, hn⟩ := List.mem_mapIdx.1 hi
    obtain ⟨same, -⟩ := Prod.mk.inj hn
    exact fldKey_apart interval cnt (by decide) k n (hk.symm.trans same.symm)
  · obtain ⟨n, -, hn⟩ := List.mem_map.1 hr
    obtain ⟨same, -⟩ := Prod.mk.inj hn
    exact fldKey_apart route cnt (by decide) k n (hk.symm.trans same.symm)

theorem State.reset_inv : State.reset.Inv := by
  have claim : State.reset.get F.claim = 0 := State.get_reset rfl
  have drive : State.reset.get F.driveEn = 0 := State.get_reset rfl
  refine ⟨⟨by decide, by decide⟩, ?_, ?_⟩
  · intro asserted
    simp [claim, drive] at asserted
  · exact List.forall_mem_nil _

/-- Settles O2: the registers of the reset state are listed, and the defaults of the tables are read by evaluation. -/
theorem resetSatisfiesTheInvariantAndHoldsTheDefaults : Obligations.ResetSatisfiesTheInvariantAndHoldsTheDefaults := by
  unfold Obligations.ResetSatisfiesTheInvariantAndHoldsTheDefaults
  have mode : State.reset.get F.mode = 1 := State.get_reset rfl
  have role : State.reset.get F.role = 0 := State.get_reset rfl
  refine ⟨State.reset_inv, ⟨by omega, by omega⟩, rfl, rfl, mode, role, ?_⟩
  simp (disch := decide) only [State.get_reset]
  decide
end Sys2Proof.Machine

namespace Sys2Proof.Machine

open Sys2Proof

/-! The display and its touch keys (R546). -/

/-- A touch lights the display. -/
theorem State.touched_displayOn (s : State) : s.touched.get F.displayOn = 1 := State.get_put_self s F.displayOn 1 0

theorem RegsBut.touched {l : List (Fld × Nat)} {s : State} (hm : (F.displayOn, 0) ∈ l) : RegsBut l s s.touched :=
  .put .refl hm

/-- A field apart from the display's reads as before a touch. -/
theorem State.get_touched {f : Fld} {k : Nat} (s : State)
    (h : (fldApart f F.displayOn && decide (0 < f.cnt) && decide (0 < F.displayOn.cnt)) = true) :
    s.touched.get f k = s.get f k := State.get_put_apart h

theorem RegsBut.showLeds {l : List (Fld × Nat)} {s t : State} (h : RegsBut l s t) (hm : (F.leds, 0) ∈ l) :
    RegsBut l s t.showLeds := .put h hm

/-- Behind events that have been seen, ACK marks the first one that has not. -/
theorem markSeen_append {l : List (Nat × Bool)} (seen : ∀ e ∈ l, e.2 = true) (r : List (Nat × Bool)) :
    markSeen (l ++ r) = l ++ markSeen r := by
  induction l with
  | nil => rfl
  | cons e l ih =>
    obtain ⟨n, b⟩ := e
    obtain ⟨hb, rest⟩ := List.forall_mem_cons.1 seen
    obtain rfl : b = true := hb
    exact congrArg _ (ih rest)

/-- Settles O60: each key writes the page, the light or the list of events it names, and a dark panel none. -/
theorem touchKeysMoveTheDisplay : Obligations.TouchKeysMoveTheDisplay := by
  unfold Obligations.TouchKeysMoveTheDisplay
  refine ⟨fun s on => ?page, fun s on => ?select, fun s on => ?back, fun s on => ?ack, fun s off => ?dark,
    fun s none => ?timeout, fun s stands => ?lit, fun s other => ?message, fun s removable => ?removable⟩
  case page =>
    refine ⟨_, congrArg Host.Outcome.next (if_neg (by simp [on])), ?_, ?_, ?_, rfl⟩
    · exact (State.get_put_self ..).trans (Nat.mod_eq_of_lt (by show _ < 8; omega))
    · exact (State.get_put_apart rfl).trans s.touched_displayOn
    · exact .regs (.put (.touched (by simp)) (by simp)) rfl
  case select =>
    refine ⟨_, congrArg Host.Outcome.next (if_neg (by simp [on])), s.touched_displayOn, ?_, rfl⟩
    exact .regs (.touched (by simp)) rfl
  case back =>
    refine ⟨_, congrArg Host.Outcome.next (if_neg (by simp [on])), State.get_put_self .., ?_, ?_, rfl⟩
    · exact (State.get_put_apart rfl).trans s.touched_displayOn
    · exact .regs (.put (.touched (by simp)) (by simp)) rfl
  case ack =>
    refine ⟨_, congrArg Host.Outcome.next (if_neg (by simp [on])), fun l n r events seen => ?_, fun seen => ?_, ?_, rfl⟩
    · show markSeen s.panel.events = _
      rw [events, markSeen_append seen]
      rfl
    · show markSeen s.panel.events = _
      simpa [markSeen] using markSeen_append seen []
    · exact .showLeds (.regs (.touched (by simp)) rfl) (by simp)
  case dark =>
    exact ⟨⟨s, congrArg Host.Outcome.next (if_pos off), rfl⟩, ⟨s, congrArg Host.Outcome.next (if_pos off), rfl⟩,
      ⟨s, congrArg Host.Outcome.next (if_pos off), rfl⟩, ⟨s, congrArg Host.Outcome.next (if_pos off), rfl⟩⟩
  case timeout =>
    exact ⟨_, congrArg Host.Outcome.next (if_pos none), State.get_put_self .., .put .refl (by simp), rfl⟩
  case lit => exact ⟨s, congrArg Host.Outcome.next (if_neg stands), rfl⟩
  case message => exact ⟨_, congrArg Host.Outcome.next (if_neg other), rfl⟩
  case removable => exact ⟨s, congrArg Host.Outcome.next (if_pos removable), rfl⟩

end Sys2Proof.Machine

namespace Sys2Proof.Machine

open Sys2Proof

/-! The timers of the transport (R382, R400, R402, R403). -/

/-- The timers judge as `TimeIsUp` says. -/
theorem State.elapsed_iff {s : State} {since beats : Nat} : s.elapsed since beats = true ↔ TimeIsUp s since beats := by
  rw [State.elapsed, Bool.or_eq_true, Bool.not_eq_true', decide_eq_true_eq, TimeIsUp, State.now]

/-- A count of 32 bits stands at its end. -/
theorem satInc_32 (n : Nat) : satInc 32 n = min (n + 1) 0xFFFFFFFF := by
  unfold satInc
  split <;> omega

/-- The one forward of a request is found when its time is up. -/
theorem find_forward {l : List Forward} {f : Forward} {id seq : Nat} {late : Forward → Bool}
    (one : l.filter (fun g => g.req.sess == id && g.req.seq == seq) = [f]) (up : late f = true) :
    l.find? (fun g => g.req.sess == id && g.req.seq == seq && late g) = some f := by
  have found : (l.filter fun g => g.req.sess == id && g.req.seq == seq).find? late = some f := by
    rw [one, List.find?_cons_of_pos up]
  rw [List.find?_filter] at found
  rw [← found]
  congr 1
  funext g
  exact Bool.eq_iff_iff.2 (by simp [and_assoc])

theorem execForwardTimeout_found {f : Forward} {id seq : Nat} {s : State}
    (found : s.lcp.forwards.find? (fun g => g.req.sess == id && g.req.seq == seq && s.elapsed g.beat g.limit) = some f) :
    execForwardTimeout id seq s = .next (({ s with lcp := { s.lcp with
        forwards := s.lcp.forwards.filter (fun g => !(g.req.sess == id && g.req.seq == seq)) } } : State).answer
      { f.req with flags := 1 + 32, status := stTimeout, epoch := 0, tlvs := hopPos 1 }) := by
  rw [execForwardTimeout, found]

/-- Settles O14: each timer's command is a test of its time, and then one write of the transport's part. -/
theorem transportTimersDropWhatTheyWatch : Obligations.TransportTimersDropWhatTheyWatch := by
  unfold Obligations.TransportTimersDropWhatTheyWatch
  refine ⟨fun s up => ?nonce, fun s young => ?young, fun s => ?broken, fun image s => ?transfer,
    fun f id seq s one up => ?forward⟩
  case nonce => exact ⟨_, congrArg Host.Outcome.next (if_pos (State.elapsed_iff.2 up)), rfl, rfl⟩
  case young => exact ⟨_, congrArg Host.Outcome.next (if_neg (mt State.elapsed_iff.1 young)), rfl⟩
  case broken =>
    exact ⟨_, rfl, (State.get_inc_self ..).trans (satInc_32 _), .inc .refl (by simp), rfl⟩
  case transfer =>
    refine ⟨_, rfl, fun x => ?_, rfl⟩
    simp [← State.elapsed_iff]
  case forward =>
    have asked : f ∈ s.lcp.forwards.filter (fun g => g.req.sess == id && g.req.seq == seq) := by simp [one]
    obtain ⟨-, hid, hseq⟩ : f ∈ s.lcp.forwards ∧ f.req.sess = id ∧ f.req.seq = seq := by simpa using asked
    have found : s.lcp.forwards.find? (fun g => g.req.sess == id && g.req.seq == seq && s.elapsed g.beat g.limit) = some f :=
      find_forward one (State.elapsed_iff.2 up)
    refine ⟨_, execForwardTimeout_found found, fun g => ?_, ⟨_, rfl, rfl, hid, hseq, rfl, rfl⟩, rfl⟩
    simp [State.answer, State.send, State.onSession, imp_iff_not_or]

/-! Gongs (R404 to R406). -/

/-- Fields that fit are packed into the record being filled. -/
theorem packData_fit {lim cur used : Nat} {l r : List (Nat × Nat)} (h : used + (l.map Prod.fst).sum ≤ lim) :
    packData lim cur used (l ++ r) = packData lim (cur + 2 ^ used * sideBySide l) (used + (l.map Prod.fst).sum) r := by
  induction l generalizing cur used with
  | nil => simp [sideBySide]
  | cons p l ih =>
    obtain ⟨w, v⟩ := p
    have fits : used + w + (l.map Prod.fst).sum ≤ lim := by simpa [Nat.add_assoc] using h
    have value : cur + v % 2 ^ w * 2 ^ used + 2 ^ (used + w) * sideBySide l = cur + 2 ^ used * sideBySide ((w, v) :: l) := by
      rw [sideBySide]
      ring
    rw [List.cons_append, packData, if_pos (by omega), ih fits, value]
    simp [Nat.add_assoc]

/-- A field that no longer fits begins the second record. -/
theorem packData_two {l r : List (Nat × Nat)} {w v : Nat} (first : (l.map Prod.fst).sum ≤ 64)
    (full : 64 < (l.map Prod.fst).sum + w) (second : w + (r.map Prod.fst).sum ≤ 64) :
    packData 64 0 0 (l ++ (w, v) :: r) = [sideBySide l, sideBySide ((w, v) :: r)] := by
  rw [packData_fit (by omega), packData, if_neg (by omega), packData_one _ _ _ second]
  simp [sideBySide]

/-- An event whose data fills two records. -/
theorem mkRecs_two {l r : List (Nat × Nat)} {w v : Nat} (s : State) (src code sev : Nat) (first : (l.map Prod.fst).sum ≤ 64)
    (full : 64 < (l.map Prod.fst).sum + w) (second : w + (r.map Prod.fst).sum ≤ 64) :
    mkRecs s src code sev (packData 64 0 0 (l ++ (w, v) :: r)) =
      [eventOf s src code sev l, { eventOf s src code sev ((w, v) :: r) with cont := true }] := by
  rw [packData_two first full second]
  simp only [mkRecs, eventOf, State.now, State.opTime, List.mapIdx_cons, List.mapIdx_nil, beq_iff_eq]
  rfl

theorem RaisedLast.raiseTwo {keys : List (Fld × Nat)} {s t : State} {src code sev w v : Nat} {l r : List (Nat × Nat)}
    (h : ∃ es, t.ev.router = s.ev.router ++ es) (hr : RegsBut keys s t) (hl : stampFree src keys = true)
    (ho : t.beat.off = s.beat.off) (hp : t.beat.opBeats = s.beat.opBeats) (first : (l.map Prod.fst).sum ≤ 64)
    (full : 64 < (l.map Prod.fst).sum + w) (second : w + (r.map Prod.fst).sum ≤ 64) :
    RaisedLast [eventOf s src code sev l, { eventOf s src code sev ((w, v) :: r) with cont := true }] s
      (t.raise src code sev (l ++ (w, v) :: r)) := by
  obtain ⟨es, he⟩ := h
  refine ⟨es, ?_⟩
  rw [State.raise_router, he, mkRecs_two t src code sev first full second, eventOf_same hr hl ho hp, eventOf_same hr hl ho hp,
    List.append_assoc]

/-- A Gong that this module has still to weigh is accepted. -/
theorem State.gongReceive_accepts {d : GongDatagram} {s : State} (grouped : s.get F.gongGroup ≠ 0)
    (own : d.group = s.get F.gongGroup) (known : d.known = true) (unseen : (d.signer, d.serial) ∉ s.lcp.gongSeen)
    (newest : ∀ g ∈ s.lcp.gongSeen, g.1 = d.signer → g.2 ≤ d.serial) (met : s.eligible d.stamp ≤ d.target) :
    s.gongReceive d = ((({ s with lcp := { s.lcp with
        gongSeen := s.lcp.gongSeen ++ [(d.signer, d.serial)], gongs := s.lcp.gongs ++ [d.target] } } : State).put F.lastGongBeat
          d.target).raise 466 1 2
        [(32, d.signer), (32, min d.serial 0xFFFFFFFF), (32, d.target), (8, s.get F.timeLocked)]) := by
  have noneHigher : ¬(s.lcp.gongSeen.any (fun g => g.1 == d.signer && decide (d.serial < g.2))) = true := by
    simp only [List.any_eq_true, Bool.and_eq_true, beq_iff_eq, decide_eq_true_eq, not_exists, not_and, not_lt]
    exact newest
  rw [State.gongReceive, if_neg (by tauto), known, if_neg (by decide), if_neg (by simpa using unseen), if_neg noneHigher,
    if_neg (by omega)]
  rfl

/-- Settles O15: the send takes the first Gong that waits; the receipt's tests pass by its hypotheses. -/
theorem gongsAreSentThriceAndScheduleTheStop : Obligations.GongsAreSentThriceAndScheduleTheStop := by
  unfold Obligations.GongsAreSentThriceAndScheduleTheStop
  constructor
  · intro s g rest acts waits
    have acting : ¬(s.get F.role ≠ rActive ∧ s.get F.role ≠ rSolo) := by simp only [rActive, rSolo]; omega
    refine ⟨_, by rw [exec, execGongDatagramSend, if_neg acting, waits], ?_, rfl, rfl⟩
    by_cases port : s.get F.gongPorts = 0 <;> simp [port]
  · intro d s grouped own known unseen newest met
    have regs : ∀ u : State, u.regs = s.regs → RegsBut [(F.lastGongBeat, 0)] s (u.put F.lastGongBeat d.target) :=
      fun u same => .put (.regs .refl same) (by simp)
    refine ⟨_, congrArg Host.Outcome.next (State.gongReceive_accepts grouped own known unseen newest met), rfl, rfl, ?_, ?_, ?_, rfl⟩
    · exact (State.get_raise_ne (by decide)).trans (State.get_put_self ..)
    · exact RaisedLast.raiseTwo (l := [(32, d.signer), (32, min d.serial 0xFFFFFFFF)]) ⟨[], by simp⟩ (regs _ rfl) (by decide)
        rfl rfl (by simp) (by simp) (by simp)
    · exact .raise ((regs _ rfl).mono (by simp)) (by simp)

end Sys2Proof.Machine

namespace Sys2Proof.Machine

open Sys2Proof

/-! Reading a field past writes of fields of other homes, and behind a write that fits. -/

theorem State.get_inc_apart {s : State} {f g : Fld} {k j : Nat}
    (h : (fldApart g f && decide (0 < g.cnt) && decide (0 < f.cnt)) = true) : (s.inc f k).get g j = s.get g j :=
  State.get_put_apart h

theorem State.get_raise_apart {s : State} {src code sev : Nat} {d : List (Nat × Nat)} {g : Fld} {j : Nat}
    (h : (fldApart g F.raised && decide (0 < g.cnt) && decide (0 < F.raised.cnt)) = true) :
    (s.raise src code sev d).get g j = s.get g j := State.get_put_apart h

theorem State.get_put_fits {s : State} {f : Fld} {v k : Nat} (h : v < 2 ^ f.w) : (s.put f v k).get f k = v :=
  (State.get_put_self ..).trans (Nat.mod_eq_of_lt h)

/-- A signed number is kept in the bits of its field. -/
theorem ofSigned_lt (w : Nat) (i : Int) : ofSigned w i < 2 ^ w := by
  have pos : (0 : Int) < 2 ^ w := by positivity
  have low := Int.emod_nonneg i pos.ne'
  have high := Int.emod_lt_of_pos i pos
  rw [ofSigned, ← Int.ofNat_lt, Int.toNat_of_nonneg low]
  exact_mod_cast high

/-! The time pins (R315 to R321). -/

/-- A flag that reads 1, and one that reads 0. -/
theorem State.flag_of_one {s : State} {f : Fld} {k : Nat} (h : s.get f k = 1) : s.flag f k = true := by simp [State.flag, h]
theorem State.flag_of_zero {s : State} {f : Fld} {k : Nat} (h : s.get f k = 0) : s.flag f k = false := by simp [State.flag, h]

/-- The record of a pin names it. -/
theorem State.pin_p (s : State) (p : Nat) : (s.pin p).p = p := by
  unfold State.pin
  cases h : s.time.pins.find? (fun x => x.p == p) with
  | none => rfl
  | some x => simpa using List.find?_some h

/-- The record put for a pin is the one found. -/
theorem State.pin_putPin {s : State} {x : PinRt} {p : Nat} (h : x.p = p) : (s.putPin x).pin p = x := by
  subst h
  have others : (s.time.pins.filter (fun y => y.p != x.p)).find? (fun y => y.p == x.p) = none := by
    simp [List.find?_eq_none]
  simp [State.pin, State.putPin, State.onTime, List.find?_append, others]

/-- A pulse: what its pin keeps of it. -/
theorem State.pin_pulse (s : State) (p t width : Nat) :
    (s.pulse p t width).pin p = { s.pin p with last := t, pulseEnd := t + width * 5 } :=
  State.pin_putPin (s.pin_p p)

/-- A pulse is counted. -/
theorem State.get_pulse_tpPulses (s : State) (p t width : Nat) :
    (s.pulse p t width).get F.tpPulses p = satInc 32 (s.get F.tpPulses p) := State.get_inc_self s F.tpPulses p

theorem RegsBut.onTime {l : List (Fld × Nat)} {s t : State} {f : TimeSt → TimeSt} (h : RegsBut l s t) :
    RegsBut l s (t.onTime f) := h.regs rfl

theorem RegsBut.pulse {l : List (Fld × Nat)} {s t : State} {p t0 width : Nat} (h : RegsBut l s t)
    (hm : (F.tpPulses, p) ∈ l) : RegsBut l s (t.pulse p t0 width) := .regs (.inc h hm) rfl

/-- A pulse of the pin's own width that follows other writes. -/
theorem Pulsed.pulse {s t : State} {p t0 : Nat} (count : t.get F.tpPulses p = s.get F.tpPulses p) :
    Pulsed p t0 s (t.pulse p t0 (s.get F.tpWidth p)) := by
  rw [Pulsed, State.get_pulse_tpPulses, State.pin_pulse, count]
  exact ⟨rfl, rfl, rfl⟩

/-- Nor does it matter what else is written behind the pulse. -/
theorem Pulsed.of_time {s t u : State} {p t0 : Nat} (h : Pulsed p t0 s t)
    (count : u.get F.tpPulses p = t.get F.tpPulses p) (time : u.time = t.time) : Pulsed p t0 s u := by
  have pin : u.pin p = t.pin p := by rw [State.pin, State.pin, time]
  rw [Pulsed, count, pin]
  exact h

/-- The next instant of the grid that runs falls in this beat. -/
theorem execChimePulse_grid {n : Fin 2} {s : State} {g : Grid} (drives : s.pinsDriven = true)
    (mode : s.get F.tpMode (2 + n.val) = 1) (starts : (s.pin (2 + n.val)).starts = none)
    (grid : (s.pin (2 + n.val)).grid = some g)
    (due : g.nextAt (max (s.now * 250000) ((s.pin (2 + n.val)).last + 1)) < (s.now + 1) * 250000) :
    execChimePulse n s = .next (s.pulse (2 + n.val) (g.nextAt (max (s.now * 250000) ((s.pin (2 + n.val)).last + 1))) g.width) := by
  simp [execChimePulse, drives, mode, starts, grid, due]

/-- The first instant of the grid last written falls in this beat, and no other grid runs. -/
theorem execChimePulse_starts {n : Fin 2} {s : State} {f : Nat} (drives : s.pinsDriven = true)
    (mode : s.get F.tpMode (2 + n.val) = 1) (starts : (s.pin (2 + n.val)).starts = some f) (due : f < (s.now + 1) * 250000)
    (grid : (s.pin (2 + n.val)).grid = none) : execChimePulse n s =
      .next ((s.putPin { s.pin (2 + n.val) with grid := some (s.pinGrid (2 + n.val)), starts := none }).pulse (2 + n.val) f
        (s.get F.tpWidth (2 + n.val))) := by
  simp [execChimePulse, drives, mode, starts, grid, due]

/-- An armed pin fires in the beat of its time. -/
theorem execRimshotFired_due {n : Fin 2} {s : State} (drives : s.pinsDriven = true) (mode : s.get F.tpMode (2 + n.val) = 2)
    (armed : s.get F.tpState (2 + n.val) = 2) (since : s.now * 250000 ≤ s.get F.rimshotTime (2 + n.val) / 5 * 5)
    (till : s.get F.rimshotTime (2 + n.val) / 5 * 5 < (s.now + 1) * 250000) : execRimshotFired n s =
      .next (((s.pulse (2 + n.val) (s.get F.rimshotTime (2 + n.val) / 5 * 5) (s.get F.tpWidth (2 + n.val))).put F.tpState 0
        (2 + n.val)).raise (326 + n.val) 1 0 [(8, 2 + n.val),
          (32, instant ((s.get F.rimshotTime (2 + n.val) / 5 * 5 : Nat) : Int) s.now), (8, 0)]) := by
  simp [execRimshotFired, drives, mode, armed, Nat.not_lt.2 since, Nat.not_le.2 till]

/-- An event that waits for its pin. -/
theorem execTpEventPulse_waits {n : Fin 2} {s : State} (waits : 2 + n.val ∈ s.ev.tpPulses) (drives : s.pinsDriven = true)
    (mode : s.get F.tpMode (2 + n.val) = 4) : execTpEventPulse n s = .next (
      if s.nowNs < (s.pin (2 + n.val)).pulseEnd then
        ({ s with ev := { s.ev with tpPulses := s.ev.tpPulses.erase (2 + n.val) } } : State).inc F.tpMerged (2 + n.val)
      else ({ s with ev := { s.ev with tpPulses := s.ev.tpPulses.erase (2 + n.val) } } : State).pulse (2 + n.val) s.nowNs
        (s.get F.tpWidth (2 + n.val))) := by
  have driven : ¬((!s.pinsDriven) = true) := by simp [drives]
  have named : ¬((!s.ev.tpPulses.contains (2 + n.val)) = true) := by simpa using waits
  exact congrArg Host.Outcome.next ((if_neg named).trans (if_neg (not_or.2 ⟨driven, not_not.2 mode⟩)))

/-- The gate of TP1 is open (R317). -/
def State.ppsOutOpen (s : State) : State := (s.onTime fun t => { t with ppsGated := false }).put F.ppsOutOn 1

/-- A field apart from the gate's reads as before. -/
theorem State.get_ppsOutOpen {f : Fld} {k : Nat} (s : State)
    (h : (fldApart f F.ppsOutOn && decide (0 < f.cnt) && decide (0 < F.ppsOutOn.cnt)) = true) :
    s.ppsOutOpen.get f k = s.get f k := State.get_put_apart h

/-- At an integer second TP1 pulses, or a gate that closes is reported. -/
theorem execPpsOutPulse_open {s : State} (second : s.now % 4000 = 0) (drives : s.pinsDriven = true)
    (gate : s.get F.ppsOutGate = 0 ∨ s.get F.timeLocked = 1) (ungated : s.time.ppsGated = false) :
    execPpsOutPulse s = .next (s.ppsOutOpen.pulse 1 (s.now * 250000) (s.get F.tpWidth 1)) := by
  have free : (s.flag F.ppsOutGate && !s.flag F.timeLocked) = false := by
    obtain zero | locked := gate
    · rw [State.flag_of_zero zero, Bool.false_and]
    · rw [State.flag_of_one locked, Bool.not_true, Bool.and_false]
  have width : s.ppsOutOpen.get F.tpWidth 1 = s.get F.tpWidth 1 := s.get_ppsOutOpen rfl
  have now : s.ppsOutOpen.now = s.now := s.get_ppsOutOpen rfl
  unfold execPpsOutPulse
  dsimp only
  rw [if_neg (by simp [second, drives]), free, ungated, ← width, ← now]
  rfl

theorem execPpsOutPulse_gated {s : State} (second : s.now % 4000 = 0) (drives : s.pinsDriven = true)
    (gate : s.get F.ppsOutGate = 1) (unlocked : s.get F.timeLocked = 0) (ungated : s.time.ppsGated = false) :
    execPpsOutPulse s =
      .next (((s.raise 324 1 1 [(8, 1)]).onTime fun t => { t with ppsGated := true }).put F.ppsOutOn 0) := by
  unfold execPpsOutPulse
  dsimp only
  rw [if_neg (by simp [second, drives]), State.flag_of_one gate, State.flag_of_zero unlocked, ungated]
  rfl

/-- Settles O47: each command of a pin is a test of its instant, and then a pulse or the report that there is none. -/
theorem timePinsPulse : Obligations.TimePinsPulse := by
  unfold Obligations.TimePinsPulse
  refine ⟨fun off s => ?ppsIn, fun s ok up => ?ppsLost, fun s still => ?ppsStill,
    fun s second drives opens ungated => ?ppsOut, fun s second drives gate unlocked ungated => ?ppsGated, fun s not => ?ppsNot,
    fun n g s drives mode starts grid due => ?chimeOld, fun n f s drives mode starts due grid => ?chimeFresh,
    fun n s not => ?chimeNot, fun n s drives mode armed since till => ?rimshot, fun n s not => ?rimshotNot,
    fun n s waits drives mode ended => ?event, fun n s waits drives mode during => ?merged, fun n s not => ?eventNot⟩
  case ppsIn =>
    have regs : RegsBut [(F.ppsOffset, 0), (F.ppsInOk, 0), (F.tpPulses, 0)] s
        (((s.put F.ppsOffset (ofSigned 32 (toSecond (s.now * 250000 + off * 5)))).put F.ppsInOk 1).inc F.tpPulses 0) :=
      .inc (.put (.put .refl (by simp)) (by simp)) (by simp)
    refine ⟨_, rfl, ?_, ?_, rfl, ?_, ?_, ?_, rfl⟩
    · exact (State.get_raise_apart rfl).trans ((State.get_inc_apart rfl).trans
        ((State.get_put_apart rfl).trans (State.get_put_fits (ofSigned_lt ..))))
    · exact (State.get_raise_apart rfl).trans ((State.get_inc_apart rfl).trans (State.get_put_self ..))
    · exact (State.get_raise_apart rfl).trans ((State.get_inc_self ..).trans (congrArg _
        ((State.get_put_apart rfl).trans (State.get_put_apart rfl))))
    · exact .raiseOne (.regs regs rfl) rfl (by decide) rfl rfl (by simp)
    · exact .raise ((regs.regs rfl).mono (by simp)) (by simp)
  case ppsLost =>
    refine ⟨_, congrArg Host.Outcome.next (if_pos ⟨State.flag_of_one ok, up⟩), ?_, ?_, ?_, rfl⟩
    · exact (State.get_raise_apart rfl).trans (State.get_put_self ..)
    · exact .raiseOne (l := [(F.ppsInOk, 0)]) (.put .refl (by simp)) rfl (by decide) rfl rfl (by simp)
    · exact .raise (.put .refl (by simp)) (by simp)
  case ppsStill =>
    have silent : ¬(s.flag F.ppsInOk = true ∧ s.time.ppsLast + 2000000000 ≤ s.nowNs) := by
      rintro ⟨ok, up⟩
      obtain none | young := still
      · simp [State.flag_of_zero none] at ok
      · omega
    exact ⟨s, congrArg Host.Outcome.next (if_neg silent), rfl⟩
  case ppsOut =>
    refine ⟨_, execPpsOutPulse_open second drives opens ungated, .pulse (s.get_ppsOutOpen rfl), ?_, ?_, rfl⟩
    · exact (State.get_inc_apart rfl).trans (State.get_put_self ..)
    · exact .pulse (.put (.regs .refl rfl) (by simp)) (by simp)
  case ppsGated =>
    refine ⟨_, execPpsOutPulse_gated second drives gate unlocked ungated, State.get_put_self .., rfl, ?_, ?_, rfl⟩
    · exact (Raised.raiseOne (l := []) .refl rfl (by decide) rfl rfl (by simp)).of_ev rfl
    · exact .put (.onTime (.raise .refl (by simp))) (by simp)
  case ppsNot =>
    exact ⟨s, congrArg Host.Outcome.next (if_pos (not.imp_right fun idle => by simp [idle])), rfl⟩
  case chimeOld =>
    refine ⟨_, execChimePulse_grid drives mode starts grid due, State.get_pulse_tpPulses .., ?_, ?_, .pulse .refl (by simp), rfl⟩
    · rw [State.pin_pulse]
    · rw [State.pin_pulse, grid]
  case chimeFresh =>
    have own : (s.putPin { s.pin (2 + n.val) with grid := some (s.pinGrid (2 + n.val)), starts := none }).pin (2 + n.val) =
        { s.pin (2 + n.val) with grid := some (s.pinGrid (2 + n.val)), starts := none } := State.pin_putPin (s.pin_p _)
    refine ⟨_, execChimePulse_starts drives mode starts due grid, Pulsed.pulse rfl, ?_, ?_, .pulse (.regs .refl rfl) (by simp), rfl⟩
    · rw [State.pin_pulse, own]
    · rw [State.pin_pulse, own]
  case chimeNot =>
    exact ⟨s, congrArg Host.Outcome.next (if_pos (not.imp_left fun idle => by simp [idle])), rfl⟩
  case rimshot =>
    have regs : RegsBut [(F.tpState, 2 + n.val), (F.tpPulses, 2 + n.val)] s ((s.pulse (2 + n.val)
        (s.get F.rimshotTime (2 + n.val) / 5 * 5) (s.get F.tpWidth (2 + n.val))).put F.tpState 0 (2 + n.val)) :=
      .put (.pulse .refl (by simp)) (by simp)
    have stamp : stampFree (326 + n.val) [(F.tpState, 2 + n.val), (F.tpPulses, 2 + n.val)] = true := by
      clear * -
      decide +revert
    refine ⟨_, execRimshotFired_due drives mode armed since till, ?_, ?_, .raiseOne regs rfl stamp rfl rfl (by simp), ?_, rfl⟩
    · exact (Pulsed.pulse rfl).of_time ((State.get_raise_apart rfl).trans (State.get_put_apart rfl)) rfl
    · exact (State.get_raise_apart rfl).trans (State.get_put_self ..)
    · exact .raise (regs.mono (by simp)) (by simp)
  case rimshotNot =>
    refine ⟨s, congrArg Host.Outcome.next (if_pos ?_), rfl⟩
    tauto
  case event =>
    refine ⟨_, (execTpEventPulse_waits waits drives mode).trans (congrArg Host.Outcome.next (if_neg (Nat.not_lt.2 ended))),
      Pulsed.pulse rfl, rfl, .pulse (.regs .refl rfl) (by simp), rfl⟩
  case merged =>
    exact ⟨_, (execTpEventPulse_waits waits drives mode).trans (congrArg Host.Outcome.next (if_pos during)),
      State.get_inc_self .., .inc (.regs .refl rfl) (by simp), rfl⟩
  case eventNot =>
    exact ⟨s, congrArg Host.Outcome.next (if_pos (by simpa using not)), rfl⟩

end Sys2Proof.Machine

namespace Sys2Proof.Machine

open Sys2Proof

/-! PORT_STATE of every port (R305, R306). -/

/-- A field apart from the ports' states and the counts of events has a key of its own. -/
theorem portRegs_apart {f : Fld} {k : Nat} (state : fldApart f F.portState = true) (raised : fldApart f F.raised = true)
    (cnt : 0 < f.cnt) : ∀ p ∈ portRegs, fldKey f k ≠ fldKey p.1 p.2 := by
  intro p hp
  obtain port | count := List.mem_append.1 hp
  · obtain ⟨j, -, rfl⟩ := List.mem_map.1 port
    exact fldKey_apart state cnt (by decide) k j
  · obtain ⟨j, -, rfl⟩ := List.mem_map.1 count
    exact fldKey_apart raised cnt (by decide) k _

/-- The state of a port follows its role, its link, the source and the lock, and none of these is a port's state. -/
theorem State.portStateOf_same {s t : State} {k : Nat} (regs : RegsBut portRegs s t) (time : t.time = s.time) :
    t.portStateOf k = s.portStateOf k := by
  have role : t.get F.ptpRole k = s.get F.ptpRole k := regs _ _ (portRegs_apart rfl rfl (by decide))
  have source : t.get F.sourcePort = s.get F.sourcePort := regs _ _ (portRegs_apart rfl rfl (by decide))
  have present : t.get F.gmPresent = s.get F.gmPresent := regs _ _ (portRegs_apart rfl rfl (by decide))
  have locked : t.get F.timeLocked = s.get F.timeLocked := regs _ _ (portRegs_apart rfl rfl (by decide))
  unfold State.portStateOf State.flag
  rw [role, source, present, locked, time]

theorem State.portStateOf_lt (s : State) (k : Nat) : s.portStateOf k < 2 ^ F.portState.w := by
  unfold State.portStateOf
  dsimp only
  split_ifs <;> decide

/-- One port's state follows; its change is raised. -/
def State.showPort (s : State) (k : Nat) : State :=
  if s.portStateOf k = s.get F.portState k then s
  else (s.put F.portState (s.portStateOf k) k).raise (286 + 2 * k) 1 0
    [(8, k), (8, s.get F.portState k), (8, s.portStateOf k)]

theorem State.showPorts_eq (s : State) : s.showPorts = (List.range 12).foldl State.showPort s := rfl

theorem RegsBut.showPort {s t : State} {k : Nat} (h : RegsBut portRegs s t) (hk : k < 12) : RegsBut portRegs s (t.showPort k) := by
  refine .ite (fun _ => h) fun _ => .raise (.put h ?_) ?_
  · exact List.mem_append_left _ (List.mem_map_of_mem (List.mem_range.2 hk))
  · exact List.mem_append_right _ (List.mem_map.2 ⟨k, List.mem_range.2 hk, rfl⟩)

/-- Showing a port changes registers and raises events, and nothing else. -/
theorem State.showPort_parts (s : State) (k : Nat) :
    s.showPort k = { s with regs := (s.showPort k).regs, ev := (s.showPort k).ev } := by
  unfold State.showPort
  split_ifs <;> rfl

theorem State.get_showPort_self (s : State) (k : Nat) : (s.showPort k).get F.portState k = s.portStateOf k := by
  unfold State.showPort
  split_ifs with same
  · exact same.symm
  · exact (State.get_raise_apart rfl).trans (State.get_put_fits (s.portStateOf_lt k))

theorem State.get_showPort_other {s : State} {j k : Nat} (hj : j < 12) (hk : k < 12) (other : k ≠ j) :
    (s.showPort j).get F.portState k = s.get F.portState k := by
  have apart : fldKey F.portState k ≠ fldKey F.portState j := by
    simp only [fldKey, F.portState]
    omega
  unfold State.showPort
  split_ifs
  · rfl
  · exact (State.get_raise_apart rfl).trans (State.get_put_ne apart)

/-- Any number of ports that are shown in turn. -/
theorem RegsBut.showPortsOf {s t : State} {l : List Nat} (h : RegsBut portRegs s t) (hl : ∀ j ∈ l, j < 12) :
    RegsBut portRegs s (l.foldl State.showPort t) := by
  induction l generalizing t with
  | nil => exact h
  | cons j l ih =>
    obtain ⟨hj, rest⟩ := List.forall_mem_cons.1 hl
    exact ih (h.showPort hj) rest

theorem State.showPortsOf_parts (s : State) (l : List Nat) :
    l.foldl State.showPort s = { s with regs := (l.foldl State.showPort s).regs, ev := (l.foldl State.showPort s).ev } := by
  induction l generalizing s with
  | nil => rfl
  | cons j l ih =>
    rw [List.foldl_cons, ih (s.showPort j), State.showPort_parts s j]

/-- A port that is among those shown, or shows its state already, shows it afterwards. -/
theorem State.get_showPortsOf {s : State} {l : List Nat} {k : Nat} (hk : k < 12) (hl : ∀ j ∈ l, j < 12)
    (shown : k ∈ l ∨ s.get F.portState k = s.portStateOf k) :
    (l.foldl State.showPort s).get F.portState k = s.portStateOf k := by
  induction l generalizing s with
  | nil => simpa using shown
  | cons j l ih =>
    obtain ⟨hj, rest⟩ := List.forall_mem_cons.1 hl
    have kept : (s.showPort j).portStateOf k = s.portStateOf k :=
      State.portStateOf_same (.showPort .refl hj) (by rw [State.showPort_parts])
    rw [List.foldl_cons, ← kept]
    refine ih rest ?_
    rw [kept]
    by_cases same : k = j
    · exact .inr (same ▸ s.get_showPort_self k)
    · rw [State.get_showPort_other hj hk same]
      simpa [same] using shown

theorem RegsBut.showPorts {s t : State} (h : RegsBut portRegs s t) : RegsBut portRegs s t.showPorts :=
  h.showPortsOf fun _ => List.mem_range.1

theorem State.showPorts_parts (s : State) : s.showPorts = { s with regs := s.showPorts.regs, ev := s.showPorts.ev } :=
  s.showPortsOf_parts _

theorem State.showPorts_time (s : State) : s.showPorts.time = s.time := by rw [State.showPorts_parts]

theorem State.get_showPorts_portState {s : State} {k : Nat} (hk : k < 12) :
    s.showPorts.get F.portState k = s.portStateOf k :=
  State.get_showPortsOf hk (fun _ => List.mem_range.1) (.inl (List.mem_range.2 hk))

/-! The ports forward, correct, drop and count (R308 to R311, R508). -/

/-- A received error that has not been raised for 10 s. -/
theorem execPtpRxError_due {k : Fin 12} {s : State} (first : valAt s.time.rxRaised k.val = none) :
    execPtpRxError k s = .next ((s.inc F.rxFcs k).rxErrorRaised k) := by
  have none : valAt (s.inc F.rxFcs k).time.rxRaised k.val = none := first
  unfold execPtpRxError
  dsimp only
  rw [none]
  rfl

theorem execPtpRxError_young {k : Fin 12} {s : State} {x : Nat} (before : valAt s.time.rxRaised k.val = some x)
    (young : s.beat.opBeats < x + 40000) : execPtpRxError k s = .next (s.inc F.rxFcs k) := by
  have some : valAt (s.inc F.rxFcs k).time.rxRaised k.val = some x := before
  unfold execPtpRxError
  dsimp only
  rw [some]
  exact congrArg Host.Outcome.next (if_neg (by simp [Nat.not_le.2 young]))

/-- Both ports of a transparent pair, on a module that sends. -/
theorem transparent {s : State} {k : Nat} (loud : s.quiet = false) (ring : s.get F.ptpRole k = 4)
    (mate : s.get F.ptpRole (ringMate k) = 4) :
    ¬((s.quiet || !(s.get F.ptpRole k == 4 && s.get F.ptpRole (ringMate k) == 4)) = true) := by
  simp [loud, ring, mate]

/-- The event of a message that passed uncorrected, with the beat it was last raised at. -/
def State.tcRaisedAt (s : State) (k : Nat) : State :=
  (s.onTime fun t => { t with tcRaised := assoc t.tcRaised k s.beat.opBeats }).raise 317 1 1
    [(8, k), (32, s.get F.tcUncorrected k)]

/-- The message that leaves uncorrected, counted. -/
def State.passUncorrected (s : State) (k : Nat) (c : Int) : State :=
  (s.inc F.tcUncorrected k).onTime fun t => { t with forwarded := some { port := ringMate k, correction := c } }

theorem execPtpForward_uncorrected {k : Fin 12} {s : State} {c i e : Int} (loud : s.quiet = false)
    (ring : s.get F.ptpRole k.val = 4) (mate : s.get F.ptpRole (ringMate k.val) = 4)
    (up : ringMate k.val ∉ s.time.linkDown) : execPtpForward k true false c i e s = .next (
      if (match valAt s.time.tcRaised k.val with | some t => decide (t + 40000 ≤ s.beat.opBeats) | none => true) = true
      then (s.passUncorrected k c).tcRaisedAt k else s.passUncorrected k c) := by
  unfold execPtpForward
  dsimp only
  rw [if_neg (transparent loud ring mate), if_neg (by simpa using up)]
  rfl

/-- The port's link changes; a source port without link may give way. -/
def State.linkMoves (s : State) (k : Nat) (up : Bool) : State :=
  if !up && (s.linkAt k up).get F.sourcePort == k then (s.linkAt k up).sourceAgain else s.linkAt k up

theorem RegsBut.sourceAgain {l : List (Fld × Nat)} {s t : State} (h : RegsBut l s t) (hm : (F.sourcePort, 0) ∈ l) :
    RegsBut l s t.sourceAgain := by
  unfold State.sourceAgain
  split
  · exact .put h hm
  · exact h

theorem State.sourceAgain_parts (s : State) : s.sourceAgain = { s with regs := s.sourceAgain.regs } := by
  unfold State.sourceAgain
  split <;> rfl

theorem RegsBut.linkMoves {s : State} {k : Nat} {up : Bool} : RegsBut [(F.sourcePort, 0)] s (s.linkMoves k up) :=
  .ite (fun _ => .sourceAgain (.regs .refl rfl) (by simp)) fun _ => .regs .refl rfl

theorem State.linkMoves_parts (s : State) (k : Nat) (up : Bool) :
    s.linkMoves k up = { s with regs := (s.linkMoves k up).regs, time := (s.linkAt k up).time } := by
  unfold State.linkMoves
  split
  · rw [State.sourceAgain_parts]
    rfl
  · rfl

/-- Settles O46: a message that passes is tested for quiet, ring, link and trailer in this order; a link that changes moves the
source at most, and then every port shows its state. -/
theorem ptpPortsForwardAndCount : Obligations.PtpPortsForwardAndCount := by
  unfold Obligations.PtpPortsForwardAndCount
  refine ⟨fun k s first => ?first, fun k x s before young => ?again, fun k v6 tr c i e s loud ring mate up corrects => ?forward,
    fun k c i e s loud ring mate up => ?uncorrected, fun k v6 tr c i e s loud ring mate down => ?dropped,
    fun k v6 tr c i e s other => ?other, fun k s => ?down, fun k s => ?up⟩
  case first =>
    have counted : (s.inc F.rxFcs k).get F.rxFcs k = satInc 32 (s.get F.rxFcs k) := State.get_inc_self s F.rxFcs k
    have stamp : stampFree (287 + 2 * k.val) [(F.rxFcs, k.val)] = true := by
      clear * -
      decide +revert
    refine ⟨_, execPtpRxError_due first, (State.get_rxErrorRaised_rxFcs _ _).trans counted, ?_,
      .rxErrorRaised (.inc .refl (by simp)) (by simp), rfl⟩
    rw [← counted]
    exact .raiseOne (.onTime (.inc .refl (by simp))) rfl stamp rfl rfl (by simp)
  case again =>
    exact ⟨_, execPtpRxError_young before young, State.get_inc_self .., .inc .refl (by simp), rfl⟩
  case forward =>
    refine ⟨_, congrArg Host.Outcome.next ((if_neg (transparent loud ring mate)).trans ((if_neg (by simpa using up)).trans
      (if_neg ?_))), rfl⟩
    obtain rfl | rfl := corrects <;> simp
  case uncorrected =>
    have counted : (s.passUncorrected k c).get F.tcUncorrected k = satInc 32 (s.get F.tcUncorrected k) :=
      State.get_inc_self s F.tcUncorrected k
    have regs : RegsBut [(F.tcUncorrected, k.val)] s (s.passUncorrected k c) := .onTime (.inc .refl (by simp))
    have stamp : stampFree 317 [(F.tcUncorrected, k.val)] = true := by
      clear * -
      decide +revert
    by_cases due : (match valAt s.time.tcRaised k.val with
      | some t => decide (t + 40000 ≤ s.beat.opBeats) | none => true) = true
    · refine ⟨_, (execPtpForward_uncorrected loud ring mate up).trans (congrArg _ (if_pos due)), rfl,
        (State.get_raise_apart rfl).trans counted, fun _ => ?_, fun x before young => ?_,
        .raise (.onTime (regs.mono (by simp))) (by simp), rfl⟩
      · rw [← counted]
        exact .raiseOne (.onTime regs) rfl stamp rfl rfl (by simp)
      · rw [before] at due
        exact absurd (of_decide_eq_true due) (by omega)
    · refine ⟨_, (execPtpForward_uncorrected loud ring mate up).trans (congrArg _ (if_neg due)), rfl, counted,
        fun first => ?_, fun _ _ _ => rfl, regs.mono (by simp), rfl⟩
      rw [first] at due
      exact absurd rfl due
  case dropped =>
    exact ⟨_, congrArg Host.Outcome.next ((if_neg (transparent loud ring mate)).trans (if_pos (by simpa using down))), rfl⟩
  case other =>
    refine ⟨s, congrArg Host.Outcome.next (if_pos ?_), rfl⟩
    obtain quiet | role | role := other <;> simp [*]
  case down =>
    have down : k.val ∈ (s.linkMoves k false).time.linkDown := by
      rw [State.linkMoves_parts]
      simp [State.linkAt, State.onTime]
    refine ⟨(s.linkMoves k false).showPorts, rfl, ?_, ?_, ?_, fun enabled => ?_, ?_, ?_⟩
    · rwa [State.showPorts_time]
    · rw [State.showPorts_time, State.linkMoves_parts]
      intro a ha same
      simp [State.linkAt, State.onTime, same] at ha
    · rw [State.showPorts_time, State.linkMoves_parts]
      intro f hf
      simp only [State.linkAt, State.onTime] at hf
      split at hf
      · split at hf
        · cases hf
        · rename_i g _ elsewhere
          obtain rfl : g = f := Option.some.inj hf
          simpa using elsewhere
      · cases hf
    · have role : (s.linkMoves k false).get F.ptpRole k = s.get F.ptpRole k :=
        RegsBut.linkMoves _ _ (by simpa using fldKey_apart rfl (by decide) (by decide) _ _)
      rw [State.get_showPorts_portState k.isLt, State.portStateOf]
      simp [role, enabled, down]
    · exact (RegsBut.linkMoves.mono (by simp)).trans ((RegsBut.showPorts .refl).mono fun _ => List.mem_cons_of_mem _)
    · rw [State.showPorts_parts, State.linkMoves_parts]
  case up =>
    refine ⟨(s.linkAt k true).showPorts, rfl, ?_, ?_, .showPorts (.regs .refl rfl), ?_⟩
    · rw [State.showPorts_time]
      simp [State.linkAt, State.onTime]
    · rw [State.showPorts_time]
      rfl
    · rw [State.showPorts_time]
      exact (State.showPorts_parts _).trans rfl

end Sys2Proof.Machine

namespace Sys2Proof.Machine

open Sys2Proof

/-! The stamp of an event, and fields of any index that it does not read. -/

/-- The fields that the stamp of an event reads. -/
def stampFields : List Fld := [F.beatIndex, F.timeLocked, F.powerCycles, F.routeClusters, F.routeLoops, F.routeSup, F.routeRecorder,
  F.routeTp2, F.routeTp3]

/-- The stamp reads no field of this home. -/
def Fld.stampless (f : Fld) : Bool := decide (0 < f.cnt) && stampFields.all fun g => fldApart g f

/-- Fields of which the stamp reads none, at whatever index. -/
theorem stampFree_of_stampless {src : Nat} {l : List (Fld × Nat)} (h : ∀ p ∈ l, p.1.stampless = true) :
    stampFree src l = true := by
  refine List.all_eq_true.2 fun p hp => List.all_eq_true.2 fun key hkey => ?_
  have apart := h p hp
  simp only [Fld.stampless, stampFields, List.all_cons, List.all_nil, Bool.and_true, Bool.and_eq_true, decide_eq_true_eq] at apart
  obtain ⟨cnt, beat, lock, cycles, clusters, loops, sup, recorder, tp2, tp3⟩ := apart
  suffices key ≠ fldKey p.1 p.2 by simpa using this
  simp only [stampKeys, List.mem_cons, List.not_mem_nil, or_false] at hkey
  obtain rfl | rfl | rfl | rfl | rfl | rfl | rfl | rfl | rfl := hkey <;>
    exact fldKey_apart (by assumption) (by decide) cnt _ _

/-! A record replaced in a list by its key. -/

theorem find_replaced_self {α : Type} (key : α → Nat) (l : List α) (x : α) :
    (l.filter (fun y => key y != key x) ++ [x]).find? (fun y => key y == key x) = some x := by
  have others : (l.filter (fun y => key y != key x)).find? (fun y => key y == key x) = none := by
    simp [List.find?_eq_none]
  simp [List.find?_append, others]

theorem find_replaced_other {α : Type} (key : α → Nat) {l : List α} {x : α} {p : Nat} (h : p ≠ key x) :
    (l.filter (fun y => key y != key x) ++ [x]).find? (fun y => key y == p) = l.find? (fun y => key y == p) := by
  have kept : (fun y => decide ((key y != key x) = true ∧ (key y == p) = true)) = fun y => key y == p := by
    funext y
    by_cases hy : key y = p <;> simp [hy, h]
  have last : [x].find? (fun y => key y == p) = none := by simp [Ne.symm h]
  rw [List.find?_append, List.find?_filter, kept, last, Option.or_none]

/-! The message objects of the CAN controllers (R333, R334, R338). -/

theorem State.canObj_o (s : State) (o : Nat) : (s.canObj o).o = o := by
  unfold State.canObj
  cases h : s.can.objs.find? (fun x => x.o == o) with
  | none => rfl
  | some x => simpa using List.find?_some h

/-- The object that was put is the one found under its number; the others stand. -/
theorem State.canObj_put_self {s : State} {x : CanObjRt} {o : Nat} (h : x.o = o) : (s.putCanObj x).canObj o = x := by
  subst h
  rw [State.canObj, State.putCanObj, find_replaced_self CanObjRt.o, Option.getD_some]

theorem State.canObj_put_other {s : State} {x : CanObjRt} {p : Nat} (h : p ≠ x.o) : (s.putCanObj x).canObj p = s.canObj p := by
  rw [State.canObj, State.putCanObj, find_replaced_other CanObjRt.o h, ← State.canObj]

/-- Only the message objects are read. -/
theorem State.canObj_same {s t : State} (h : t.can = s.can) (o : Nat) : t.canObj o = s.canObj o := by
  rw [State.canObj, State.canObj, h]

theorem RegsBut.putCanObj {l : List (Fld × Nat)} {s t : State} {x : CanObjRt} (h : RegsBut l s t) : RegsBut l s (t.putCanObj x) :=
  h.regs rfl

/-- A monitoring controller hands a frame to its filters. -/
theorem Monitors.filters {k : Fin 8} {f : CanFrame} {s : State} (h : Monitors k.val f s) :
    execCanFrameReceive k f s = .next (s.canFilter k f) := by
  obtain ⟨mode, state, format, awake⟩ := h
  have takes : ¬((f.fdf && !s.flag F.fdEnable k) = true) := by
    obtain classic | enabled := format
    · simp [classic]
    · simp [State.flag_of_one enabled]
  have onBus : ¬(s.get F.canBusMode k = 0 ∨ s.get F.canErrState k = 2) := not_or.2 ⟨by omega, state⟩
  unfold execCanFrameReceive State.canReceive
  dsimp only
  rw [if_neg onBus, if_neg takes, mode, if_neg (by decide), if_neg (by decide), State.canWake, if_pos awake]

/-- A filter element that accepts for an RX object stores the frame there. -/
theorem State.canFilter_stores {k e o : Nat} {f : CanFrame} {s : State} (found : s.filterOf k f = some e)
    (accepts : s.get F.fAction e = 0) (ho : o = 128 * k + s.get F.fObject e) (rx : s.get F.objDir o = 1) :
    s.canFilter k f = s.canStore k o f := by
  subst ho
  rw [State.canFilter, found]
  exact if_neg (not_or.2 ⟨by simp [State.flag_of_zero accepts], not_not.2 rx⟩)

theorem State.canFilter_rejects {k e : Nat} {f : CanFrame} {s : State} (found : s.filterOf k f = some e)
    (no : s.get F.fAction e = 1 ∨ s.get F.objDir (128 * k + s.get F.fObject e) ≠ 1) : s.canFilter k f = s := by
  rw [State.canFilter, found]
  exact if_pos (no.imp_left fun reject => State.flag_of_one reject)

/-- The counts of a frame that an unlocked object takes: one that has not been copied is overwritten. -/
def State.canRxCounted (s : State) (k o : Nat) : State :=
  if (s.canObj o).primary.isSome && (s.canObj o).stored != 0 then (s.inc F.canRxFrames k).inc F.objOverwrites o
  else s.inc F.canRxFrames k

theorem State.canRxCounted_parts (s : State) (k o : Nat) : s.canRxCounted k o = { s with regs := (s.canRxCounted k o).regs } := by
  unfold State.canRxCounted
  split <;> rfl

theorem State.get_canRxCounted_rxFrames (s : State) (k o : Nat) :
    (s.canRxCounted k o).get F.canRxFrames k = satInc 32 (s.get F.canRxFrames k) := by
  unfold State.canRxCounted
  split
  · exact (State.get_inc_apart rfl).trans (State.get_inc_self ..)
  · exact State.get_inc_self ..

theorem State.get_canRxCounted_overwrites (s : State) (k o : Nat) :
    (s.canRxCounted k o).get F.objOverwrites o = if (s.canObj o).primary.isSome = true ∧ (s.canObj o).stored ≠ 0 then
      satInc 32 (s.get F.objOverwrites o) else s.get F.objOverwrites o := by
  have before : (s.inc F.canRxFrames k).get F.objOverwrites o = s.get F.objOverwrites o := State.get_inc_apart rfl
  simp only [State.canRxCounted, Bool.and_eq_true, bne_iff_ne]
  split
  · rw [State.get_inc_self, before]
    rfl
  · exact before

theorem RegsBut.canRxCounted {s : State} {k o : Nat} :
    RegsBut [(F.canRxFrames, k), (F.objOverwrites, o)] s (s.canRxCounted k o) :=
  .ite (fun _ => .inc (.inc .refl (by simp)) (by simp)) fun _ => .inc .refl (by simp)

/-- An unlocked object takes the frame in its first buffer. -/
theorem State.canStore_unlocked {k o : Nat} {f : CanFrame} {s : State} (unlocked : s.can.locked = false)
    (inside : f.atEdge = false) : s.canStore k o f =
      (s.canRxCounted k o).putCanObj { s.canObj o with primary := some f, stored := (s.canObj o).stored + 1 } :=
  if_neg (by simp [unlocked, inside])

/-- A locked one takes it in its second buffer, where that is free. -/
theorem State.canStore_locked {k o : Nat} {f : CanFrame} {s : State} (locked : s.can.locked = true ∨ f.atEdge = true)
    (free : (s.canObj o).shadow = none) :
    s.canStore k o f = (s.inc F.canRxFrames k).putCanObj { s.canObj o with shadow := some f, held := (s.canObj o).held + 1 } := by
  have none : ¬((s.canObj o).shadow.isSome = true) := by simp [free]
  exact (if_pos (by simpa using locked)).trans (if_neg none)

/-- Where it holds a frame, that frame is lost. -/
theorem State.canStore_loses {k o : Nat} {f g : CanFrame} {s : State} (locked : s.can.locked = true ∨ f.atEdge = true)
    (holds : (s.canObj o).shadow = some g) : s.canStore k o f =
      ((((s.inc F.canRxFrames k).putCanObj { s.canObj o with shadow := some f, held := (s.canObj o).held + 1 }).put F.objLost 1
        o).inc F.objLostCount o).raise (224 + 8 * k) 1 1 [(16, o % 128)] := by
  have some : (s.canObj o).shadow.isSome = true := by simp [holds]
  exact (if_pos (by simpa using locked)).trans (if_pos some)

/-- An error is counted, whether or not it is raised. -/
theorem State.canCountErr_spec (s : State) (k kind : Nat) :
    (s.canCountErr k kind).get F.canProtocolErrors k = satInc 32 (s.get F.canProtocolErrors k) ∧
    (s.canCountErr k kind).can.objs = s.can.objs ∧
    RegsBut [(F.canProtocolErrors, k), (F.raised, 229 + 8 * k)] s (s.canCountErr k kind) ∧
    s.canCountErr k kind = { s with
      regs := (s.canCountErr k kind).regs, ev := (s.canCountErr k kind).ev, can := (s.canCountErr k kind).can } := by
  unfold State.canCountErr
  dsimp only
  split_ifs
  · exact ⟨(State.get_raise_apart rfl).trans (State.get_inc_self ..), rfl, .raise (.regs (.inc .refl (by simp)) rfl) (by simp), rfl⟩
  · exact ⟨State.get_inc_self .., rfl, .inc .refl (by simp), rfl⟩

/-- Settles O49: a frame passes the tests of R333 and the filters, and the lock of its object chooses the buffer. -/
theorem canFramesAreFilteredAndStored : Obligations.CanFramesAreFilteredAndStored := by
  unfold Obligations.CanFramesAreFilteredAndStored
  refine ⟨fun k f s silent => ?silent, fun k f s on state fd off => ?format, fun k f s hears none => ?unmatched,
    fun k f e o s hears found accepts ho rx unlocked inside => ?stored, fun k f e o s hears found accepts ho rx locked free => ?second,
    fun k f e o g s hears found accepts ho rx locked holds => ?lost, fun k f e s hears found no => ?rejected⟩
  case silent => exact ⟨s, congrArg Host.Outcome.next (if_pos silent), rfl⟩
  case format =>
    refine ⟨s.canCountErr k 2, congrArg Host.Outcome.next ((if_neg (not_or.2 ⟨on, state⟩)).trans (if_pos ?_)),
      s.canCountErr_spec k 2⟩
    simp [fd, State.flag_of_zero off]
  case unmatched =>
    refine ⟨_, hears.filters.trans (congrArg _ (by rw [State.canFilter, none])), State.get_inc_self .., .inc .refl (by simp), rfl⟩
  case stored =>
    have object := State.canObj_o s o
    have objects : (s.canRxCounted k o).can = s.can := by rw [State.canRxCounted_parts]
    refine ⟨_, hears.filters.trans (congrArg _ ((State.canFilter_stores found accepts ho rx).trans
      (State.canStore_unlocked unlocked inside))), State.canObj_put_self object, fun p other => ?_,
      s.get_canRxCounted_rxFrames k o, s.get_canRxCounted_overwrites k o, .putCanObj .canRxCounted, ?_⟩
    · exact (State.canObj_put_other (by simpa [object] using other)).trans (State.canObj_same objects p)
    · rw [State.canRxCounted_parts]
      rfl
  case second =>
    have object := State.canObj_o s o
    refine ⟨_, hears.filters.trans (congrArg _ ((State.canFilter_stores found accepts ho rx).trans
      (State.canStore_locked locked free))), State.canObj_put_self object, fun p other => ?_,
      .putCanObj (.inc .refl (by simp)), rfl⟩
    exact State.canObj_put_other (by simpa [object] using other)
  case lost =>
    have object := State.canObj_o s o
    have regs : RegsBut [(F.canRxFrames, k.val), (F.objLost, o), (F.objLostCount, o)] s
        ((((s.inc F.canRxFrames k).putCanObj { s.canObj o with shadow := some f, held := (s.canObj o).held + 1 }).put F.objLost 1
          o).inc F.objLostCount o) := .inc (.put (.putCanObj (.inc .refl (by simp))) (by simp)) (by simp)
    refine ⟨_, hears.filters.trans (congrArg _ ((State.canFilter_stores found accepts ho rx).trans
      (State.canStore_loses locked holds))), ?_, ?_, ?_, .raiseOne regs rfl ?_ rfl rfl (by simp),
      .raise (regs.mono (by simp)) (by simp)⟩
    · exact (State.canObj_same (by simp only [State.raise_can, State.inc_can, State.put_can]) o).trans
        (State.canObj_put_self (s := s.inc F.canRxFrames k) (by exact object))
    · exact (State.get_raise_apart rfl).trans ((State.get_inc_apart rfl).trans (State.get_put_self ..))
    · exact (State.get_raise_apart rfl).trans ((State.get_inc_self ..).trans (congrArg _ ((State.get_put_apart rfl).trans
        (State.get_inc_apart rfl))))
    · exact stampFree_of_stampless (by simp; decide)
  case rejected => exact ⟨s, hears.filters.trans (congrArg _ (State.canFilter_rejects found no)), rfl⟩

end Sys2Proof.Machine

namespace Sys2Proof.Machine

open Sys2Proof

/-! What an operation writes: the fields it may change, while the stamps of events stand and the Event Router is only handed
more. One rule for each shared operation; the lemmas of the chapters' operations are composed of them. -/

/-- The field is written none of `ws`. -/
def Fld.offAll (ws : List Fld) (g : Fld) : Bool := decide (0 < g.cnt) && ws.all fun f => fldApart g f && decide (0 < f.cnt)

/-- From `s` to `t` the fields of `ws` alone are written, the stamp of events stands but for them, and the Event Router has only
been handed more. -/
structure Writes (ws : List Fld) (s t : State) : Prop where
  fields : ∀ g k, g.offAll ws = true → t.get g k = s.get g k
  off : t.beat.off = s.beat.off
  op : t.beat.opBeats = s.beat.opBeats
  router : s.ev.router <+: t.ev.router

namespace Writes

variable {ws : List Fld} {s t u : State}

theorem refl : Writes ws s s := ⟨fun _ _ _ => rfl, rfl, rfl, ⟨[], List.append_nil _⟩⟩

theorem trans (h : Writes ws s t) (k : Writes ws t u) : Writes ws s u :=
  ⟨fun g j hg => (k.fields g j hg).trans (h.fields g j hg), k.off.trans h.off, k.op.trans h.op, h.router.trans k.router⟩

/-- More fields may be named. -/
theorem mono {ws' : List Fld} (h : Writes ws s t) (sub : ∀ f ∈ ws, f ∈ ws') : Writes ws' s t := by
  refine ⟨fun g k hg => h.fields g k ?_, h.off, h.op, h.router⟩
  simp only [Fld.offAll, Bool.and_eq_true, List.all_eq_true] at hg ⊢
  exact ⟨hg.1, fun f hf => hg.2 f (sub f hf)⟩

/-- A field apart from those named reads as before. -/
theorem get {g : Fld} {k : Nat} (h : Writes ws s t) (hg : g.offAll ws = true) : t.get g k = s.get g k := h.fields g k hg

/-- A change of parts that `Writes` does not speak of. -/
theorem upd (h : Writes ws s t) (regs : u.regs = t.regs) (off : u.beat.off = t.beat.off) (op : u.beat.opBeats = t.beat.opBeats)
    (router : u.ev.router = t.ev.router) : Writes ws s u :=
  h.trans ⟨fun g k _ => State.get_of_regs regs g k, off, op, ⟨[], by rw [router, List.append_nil]⟩⟩

theorem put {f : Fld} {v k : Nat} (h : Writes ws s t) (hf : f ∈ ws) : Writes ws s (t.put f v k) := by
  refine h.trans ⟨fun g j hg => State.get_put_ne ?_, rfl, rfl, ⟨[], List.append_nil _⟩⟩
  simp only [Fld.offAll, Bool.and_eq_true, List.all_eq_true, decide_eq_true_eq] at hg
  exact fldKey_apart (hg.2 f hf).1 hg.1 (hg.2 f hf).2 j k

theorem putFlag {f : Fld} {b : Bool} {k : Nat} (h : Writes ws s t) (hf : f ∈ ws) : Writes ws s (t.putFlag f b k) := h.put hf

theorem inc {f : Fld} {k : Nat} (h : Writes ws s t) (hf : f ∈ ws) : Writes ws s (t.inc f k) := h.put hf

theorem add {f : Fld} {d k : Nat} (h : Writes ws s t) (hf : f ∈ ws) : Writes ws s (t.add f d k) := h.put hf

theorem peak {f : Fld} {v k : Nat} (h : Writes ws s t) (hf : f ∈ ws) : Writes ws s (t.peak f v k) := by
  unfold State.peak
  split
  · exact h.put hf
  · exact h

theorem raise {src code sev : Nat} {d : List (Nat × Nat)} (h : Writes ws s t) (hf : F.raised ∈ ws) :
    Writes ws s (t.raise src code sev d) :=
  (h.inc (k := src) hf).trans ⟨fun _ _ _ => rfl, rfl, rfl, ⟨_, rfl⟩⟩

theorem ite {c : Prop} [Decidable c] (ht : c → Writes ws s t) (hu : ¬c → Writes ws s u) : Writes ws s (if c then t else u) := by
  split
  · exact ht ‹_›
  · exact hu ‹_›

theorem foldl {α : Type} {f : State → α → State} {l : List α} (h : Writes ws s t) (hf : ∀ u a, Writes ws u (f u a)) :
    Writes ws s (l.foldl f t) := by
  induction l generalizing t with
  | nil => exact h
  | cons a l ih => exact ih (h.trans (hf t a))

/-- An event raised behind the writes bears the stamp of the state before them. -/
theorem eventOf {src code sev : Nat} {d : List (Nat × Nat)} (h : Writes ws s t)
    (free : (stampFields.all fun g => g.offAll ws) = true) : eventOf t src code sev d = eventOf s src code sev d := by
  have same : ∀ g ∈ stampFields, ∀ k, t.get g k = s.get g k := fun g hg k => h.fields g k (List.all_eq_true.1 free g hg)
  simp only [Machine.eventOf, State.route]
  rw [h.off, h.op, same F.beatIndex (by simp [stampFields]), same F.timeLocked (by simp [stampFields]),
    same F.powerCycles (by simp [stampFields]), same F.routeClusters (by simp [stampFields]),
    same F.routeLoops (by simp [stampFields]), same F.routeSup (by simp [stampFields]),
    same F.routeRecorder (by simp [stampFields]), same F.routeTp2 (by simp [stampFields]),
    same F.routeTp3 (by simp [stampFields])]

/-- It is the last that the Event Router was handed. -/
theorem raisedLast {src code sev : Nat} {d : List (Nat × Nat)} (h : Writes ws s t)
    (free : (stampFields.all fun g => g.offAll ws) = true) (fits : (d.map Prod.fst).sum ≤ 64) :
    RaisedLast [Machine.eventOf s src code sev d] s (t.raise src code sev d) := by
  obtain ⟨es, hes⟩ := h.router
  refine ⟨es, ?_⟩
  rw [State.raise_router, mkRecs_one _ _ _ _ _ fits, h.eventOf free, ← hes, List.append_assoc]

/-- And where nothing else was raised, the only one. -/
theorem raised {src code sev : Nat} {d : List (Nat × Nat)} (h : Writes ws s t) (quiet : t.ev = s.ev)
    (free : (stampFields.all fun g => g.offAll ws) = true) (fits : (d.map Prod.fst).sum ≤ 64) :
    Raised [Machine.eventOf s src code sev d] s (t.raise src code sev d) := by
  have e : (t.raise src code sev d).ev = { t.ev with router := t.ev.router ++ mkRecs t src code sev (packData 64 0 0 d) } := rfl
  rw [Raised, e, mkRecs_one _ _ _ _ _ fits, h.eventOf free, quiet]

end Writes

/-- A field of another home than those of the registers listed. -/
theorem RegsBut.get_apart {l : List (Fld × Nat)} {s t : State} {g : Fld} {k : Nat} (h : RegsBut l s t) (ws : List Fld)
    (sub : ∀ p ∈ l, p.1 ∈ ws) (hg : g.offAll ws = true) : t.get g k = s.get g k := by
  refine h g k fun p hp => ?_
  simp only [Fld.offAll, Bool.and_eq_true, List.all_eq_true, decide_eq_true_eq] at hg
  obtain ⟨cnt, off⟩ := hg
  exact fldKey_apart (off _ (sub p hp)).1 cnt (off _ (sub p hp)).2 k p.2

/-- What was raised last stays so where the Event Router is handed nothing more. -/
theorem RaisedLast.of_router {es : List EvRec} {s t u : State} (h : RaisedLast es s t) (e : u.ev.router = t.ev.router) :
    RaisedLast es s u := by
  obtain ⟨l, hl⟩ := h
  exact ⟨l, e.trans hl⟩

/-! The parts that an operation does not touch. -/

theorem Touches.ev_eq {m : Parts} {s t : State} (h : Touches m s t) (hm : m.ev = false) : t.ev = s.ev := by
  have same := congrArg State.ev h
  simpa only [State.without, hm, cond_false] using same

theorem Touches.can_eq {m : Parts} {s t : State} (h : Touches m s t) (hm : m.can = false) : t.can = s.can := by
  have same := congrArg State.can h
  simpa only [State.without, hm, cond_false] using same

theorem Touches.beat_eq {m : Parts} {s t : State} (h : Touches m s t) (hm : m.beat = false) : t.beat = s.beat := by
  have same := congrArg State.beat h
  simpa only [State.without, hm, cond_false] using same

end Sys2Proof.Machine

namespace Sys2Proof.Machine

open Sys2Proof

/-! The controllers of the CAN buses (R339 to R344). -/

theorem State.canCtl_k (s : State) (k : Nat) : (s.canCtl k).k = k := by
  unfold State.canCtl
  cases h : s.can.ctls.find? (fun x => x.k == k) with
  | none => rfl
  | some x => simpa using List.find?_some h

theorem State.canCtl_put_self {s : State} {x : CanRt} {k : Nat} (h : x.k = k) : (s.putCanCtl x).canCtl k = x := by
  subst h
  rw [State.canCtl, State.putCanCtl, find_replaced_self CanRt.k, Option.getD_some]

/-- Only the controllers' records are read. -/
theorem State.canCtl_same {s t : State} (h : t.can.ctls = s.can.ctls) (k : Nat) : t.canCtl k = s.canCtl k := by
  rw [State.canCtl, State.canCtl, h]

theorem RegsBut.putCanCtl {l : List (Fld × Nat)} {s t : State} {x : CanRt} (h : RegsBut l s t) : RegsBut l s (t.putCanCtl x) :=
  h.regs rfl

theorem Writes.putCanCtl {ws : List Fld} {s t : State} {x : CanRt} (h : Writes ws s t) : Writes ws s (t.putCanCtl x) :=
  h.upd rfl rfl rfl rfl

theorem Writes.putCanObj {ws : List Fld} {s t : State} {x : CanObjRt} (h : Writes ws s t) : Writes ws s (t.putCanObj x) :=
  h.upd rfl rfl rfl rfl

/-! A pending frame is dropped. -/

/-- The fields that dropping frames writes. -/
def dropFields : List Fld := [F.objPending, F.objTxDropped]

theorem Writes.canDropObj {ws : List Fld} {s t : State} {o : Nat} {mark : Bool} (h : Writes ws s t) (sub : ∀ f ∈ dropFields, f ∈ ws) :
    Writes ws s (t.canDropObj o mark) := by
  have pending : F.objPending ∈ ws := sub _ (by decide)
  have dropped : F.objTxDropped ∈ ws := sub _ (by decide)
  exact .ite (fun _ => .ite (fun _ => .put (.putCanObj (.put h pending)) dropped) fun _ => .putCanObj (.put h pending)) fun _ => h

theorem State.canDropObj_ctls (s : State) (o : Nat) (mark : Bool) : (s.canDropObj o mark).can.ctls = s.can.ctls := by
  unfold State.canDropObj
  dsimp only
  split_ifs <;> rfl

/-- Without the mark: the frame that pends is gone. -/
theorem State.canDropObj_pending {s : State} {o : Nat} (h : s.get F.objPending o = 1) :
    s.canDropObj o false = (s.put F.objPending 0 o).putCanObj { s.canObj o with payload := none } :=
  if_pos (State.flag_of_one h)

theorem Writes.canDropCtl {ws : List Fld} {s t : State} {k : Nat} {mark : Bool} (h : Writes ws s t) (sub : ∀ f ∈ dropFields, f ∈ ws) :
    Writes ws s (t.canDropCtl k mark) :=
  h.foldl fun _ _ => .canDropObj .refl sub

theorem State.canDropCtl_ctls (s : State) (k : Nat) (mark : Bool) : (s.canDropCtl k mark).can.ctls = s.can.ctls := by
  unfold State.canDropCtl
  induction canObjsOf k generalizing s with
  | nil => rfl
  | cons o l ih => exact (ih _).trans (s.canDropObj_ctls o mark)

/-! Error confinement (R339). -/

/-- The error state that the counts give. -/
def canErrCode (tec rec' : Nat) : Nat := if 255 < tec then 2 else if 128 ≤ tec ∨ 128 ≤ rec' then 1 else 0

theorem canErrCode_lt (tec rec' : Nat) : canErrCode tec rec' < 2 ^ F.canErrState.w := by
  unfold canErrCode
  split_ifs <;> decide

/-- The counts as the registers show them. -/
def State.canCounts (s : State) (k tec rec' : Nat) : State := (s.put F.canTec (min tec 255) k).put F.canRec (min rec' 255) k

/-- The state that a change of the error state leads to; bus-off drops the pending frames. -/
def State.canErrEnters (s : State) (k code : Nat) : State :=
  if code = 2 then ((s.put F.canErrState code k).inc F.canBusOffCount k).canDropCtl k true else s.put F.canErrState code k

theorem State.canErr_eq (s : State) (k tec rec' : Nat) : s.canErr k tec rec' =
    if canErrCode tec rec' = s.get F.canErrState k then s.canCounts k tec rec'
    else ((s.canCounts k tec rec').canErrEnters k (canErrCode tec rec')).raise (222 + 8 * k) 1
      (if canErrCode tec rec' = 2 then 2 else 1)
      [(2, s.get F.canErrState k), (2, canErrCode tec rec'), (8, min tec 255), (8, min rec' 255)] := rfl

/-- The fields that a change of the counts writes. -/
def errFields : List Fld := [F.canTec, F.canRec, F.canErrState, F.canBusOffCount, F.raised] ++ dropFields

theorem Writes.canCounts {s : State} {k tec rec' : Nat} : Writes [F.canTec, F.canRec] s (s.canCounts k tec rec') :=
  .put (.put .refl (by decide)) (by simp)

theorem Writes.canErrEnters {s : State} {k code : Nat} :
    Writes ([F.canErrState, F.canBusOffCount] ++ dropFields) s (s.canErrEnters k code) :=
  .ite (fun _ => .canDropCtl (.inc (.put .refl (by decide)) (by decide)) (by decide)) fun _ => .put .refl (by simp)

theorem Writes.canErr {s : State} {k tec rec' : Nat} : Writes errFields s (s.canErr k tec rec') := by
  have counts : Writes errFields s (s.canCounts k tec rec') := Writes.canCounts.mono (by decide)
  rw [State.canErr_eq]
  exact .ite (fun _ => counts) fun _ => .raise (counts.trans (Writes.canErrEnters.mono (by decide))) (by decide)

theorem State.get_canCounts_tec (s : State) (k tec rec' : Nat) : (s.canCounts k tec rec').get F.canTec k = min tec 255 :=
  (State.get_put_apart rfl).trans (State.get_put_fits (by show _ < 256; omega))

theorem State.get_canCounts_rec (s : State) (k tec rec' : Nat) : (s.canCounts k tec rec').get F.canRec k = min rec' 255 :=
  State.get_put_fits (by show _ < 256; omega)

/-- A field that the change of the error state does not write reads as with the counts. -/
theorem State.get_canErr_counts {s : State} {k tec rec' j : Nat} {g : Fld}
    (h : g.offAll (F.raised :: [F.canErrState, F.canBusOffCount] ++ dropFields) = true) :
    (s.canErr k tec rec').get g j = (s.canCounts k tec rec').get g j := by
  have enters : Writes (F.raised :: [F.canErrState, F.canBusOffCount] ++ dropFields) (s.canCounts k tec rec')
    (((s.canCounts k tec rec').canErrEnters k (canErrCode tec rec')).raise (222 + 8 * k) 1
      (if canErrCode tec rec' = 2 then 2 else 1)
      [(2, s.get F.canErrState k), (2, canErrCode tec rec'), (8, min tec 255), (8, min rec' 255)]) :=
    .raise (Writes.canErrEnters.mono (by decide)) (by simp)
  rw [State.canErr_eq]
  split
  · rfl
  · exact enters.get h

theorem State.get_canErr_tec (s : State) (k tec rec' : Nat) : (s.canErr k tec rec').get F.canTec k = min tec 255 :=
  (State.get_canErr_counts rfl).trans (s.get_canCounts_tec ..)

theorem State.get_canErr_rec (s : State) (k tec rec' : Nat) : (s.canErr k tec rec').get F.canRec k = min rec' 255 :=
  (State.get_canErr_counts rfl).trans (s.get_canCounts_rec ..)

theorem State.get_canErr_state (s : State) (k tec rec' : Nat) : (s.canErr k tec rec').get F.canErrState k = canErrCode tec rec' := by
  rw [State.canErr_eq]
  split
  case isTrue same => exact (Writes.canCounts.get rfl).trans same.symm
  case isFalse =>
    have dropped : ∀ u : State, (u.canDropCtl k true).get F.canErrState k = u.get F.canErrState k := fun _ =>
      (Writes.canDropCtl .refl fun _ => id).get rfl
    have entered : ∀ u : State, (u.put F.canErrState (canErrCode tec rec') k).get F.canErrState k = canErrCode tec rec' :=
      fun _ => State.get_put_fits (canErrCode_lt ..)
    rw [State.get_raise_apart rfl, State.canErrEnters]
    split
    · rw [dropped, State.get_inc_apart rfl, entered]
    · exact entered _

/-- A controller that goes bus-off. -/
theorem State.canErr_busOff {s : State} {k tec rec' : Nat} (off : 255 < tec) (on : s.get F.canErrState k ≠ 2) :
    s.canErr k tec rec' = ((s.canCounts k tec rec').canErrEnters k 2).raise
      (222 + 8 * k) 1 2 [(2, s.get F.canErrState k), (2, 2), (8, 255), (8, min rec' 255)] := by
  have code : canErrCode tec rec' = 2 := if_pos off
  have full : min tec 255 = 255 := by omega
  rw [State.canErr_eq, code, if_neg (Ne.symm on), full]
  rfl

/-- Bus-off is counted. -/
theorem State.get_canErrEnters_busOff (s : State) (k : Nat) :
    (s.canErrEnters k 2).get F.canBusOffCount k = satInc 32 (s.get F.canBusOffCount k) := by
  rw [State.canErrEnters, if_pos rfl, (Writes.canDropCtl .refl fun _ => id).get rfl, State.get_inc_self, State.get_put_apart rfl]
  rfl

/-- Short of bus-off no frame is dropped. -/
theorem State.canErr_stays {s : State} {k tec rec' : Nat} (on : tec ≤ 255) :
    (s.canErr k tec rec').can = s.can ∧
      RegsBut [(F.canErrState, k), (F.canTec, k), (F.canRec, k), (F.raised, 222 + 8 * k)] s (s.canErr k tec rec') := by
  have code : canErrCode tec rec' ≠ 2 := by
    unfold canErrCode
    split_ifs <;> omega
  have counts : RegsBut [(F.canErrState, k), (F.canTec, k), (F.canRec, k), (F.raised, 222 + 8 * k)] s (s.canCounts k tec rec') :=
    .put (.put .refl (by simp)) (by simp)
  rw [State.canErr_eq, State.canErrEnters, if_neg code]
  split
  · exact ⟨rfl, counts⟩
  · exact ⟨rfl, .raise (.put counts (by simp)) (by simp)⟩

/-! The bus mode of every controller (R331). -/

/-- One controller enters or leaves normal operation. -/
def State.canShowOne (s : State) (k : Nat) : State :=
  let m := s.canBusModeOf k
  let old := s.get F.canBusMode k
  if m = old then s
  else
    let s := s.put F.canBusMode m k
    if m = 1 then ((s.put F.canErrState 0 k).put F.canTec 0 k).put F.canRec 0 k
    else
      let s := if old = 1 then s.canDropCtl k true else s
      s.put F.canErrState 3 k

theorem State.canShow_eq (s : State) : s.canShow = (List.range 8).foldl State.canShowOne s := rfl

/-- The fields that a change of bus modes writes. -/
def showFields : List Fld := [F.canBusMode, F.canErrState, F.canTec, F.canRec] ++ dropFields

theorem Writes.canShowOne {s : State} {k : Nat} : Writes showFields s (s.canShowOne k) := by
  have mode : ∀ m, Writes showFields s (s.put F.canBusMode m k) := fun m => .put .refl (by decide)
  refine .ite (fun _ => .refl) fun _ => .ite (fun _ => ?_) fun _ => .put (.ite (fun _ => ?_) fun _ => mode _) (by decide)
  · exact .put (.put (.put (mode _) (by decide)) (by decide)) (by decide)
  · exact .canDropCtl (mode _) (by decide)

theorem Writes.canShow {s : State} : Writes showFields s s.canShow := by
  rw [State.canShow_eq]
  exact .foldl .refl fun _ _ => .canShowOne

theorem State.canShowOne_ctls (s : State) (k : Nat) : (s.canShowOne k).can.ctls = s.can.ctls := by
  unfold State.canShowOne
  dsimp only
  split_ifs
  · rfl
  · simp only [State.put_can]
  · simp only [State.put_can, State.canDropCtl_ctls]
  · simp only [State.put_can]

theorem State.canShowsOf_ctls (s : State) (l : List Nat) : (l.foldl State.canShowOne s).can.ctls = s.can.ctls := by
  induction l generalizing s with
  | nil => rfl
  | cons k l ih => exact (ih _).trans (s.canShowOne_ctls k)

theorem State.canShow_ctls (s : State) : s.canShow.can.ctls = s.can.ctls := by
  rw [State.canShow_eq, State.canShowsOf_ctls]

/-- The bus mode follows can_mode, mode, role, fault and detection, and showing it changes none of these. -/
theorem State.canBusModeOf_same {s t : State} {k : Nat} (h : Writes showFields s t) (ctls : t.can.ctls = s.can.ctls) :
    t.canBusModeOf k = s.canBusModeOf k := by
  have asked : t.get F.canMode k = s.get F.canMode k := h.get rfl
  have mode : t.get F.mode = s.get F.mode := h.get rfl
  have role : t.get F.role = s.get F.role := h.get rfl
  have fault : t.get F.canFault k = s.get F.canFault k := h.get rfl
  unfold State.canBusModeOf
  rw [asked, mode, role, fault, State.canCtl_same ctls]

theorem State.canBusModeOf_lt (s : State) (k : Nat) : s.canBusModeOf k < 2 ^ F.canBusMode.w := by
  unfold State.canBusModeOf
  dsimp only
  split
  · decide
  · split
    · split <;> decide
    · split
      · decide
      · split
        · decide
        · split <;> decide
        · decide

theorem State.get_canShowOne_self (s : State) (k : Nat) : (s.canShowOne k).get F.canBusMode k = s.canBusModeOf k := by
  have dropped : ∀ u : State, (u.canDropCtl k true).get F.canBusMode k = u.get F.canBusMode k := fun _ =>
    (Writes.canDropCtl .refl fun _ => id).get rfl
  have shown : (s.put F.canBusMode (s.canBusModeOf k) k).get F.canBusMode k = s.canBusModeOf k :=
    State.get_put_fits (s.canBusModeOf_lt k)
  unfold State.canShowOne
  dsimp only
  split_ifs with same
  · exact same.symm
  · rw [State.get_put_apart rfl, State.get_put_apart rfl, State.get_put_apart rfl, shown]
  · rw [State.get_put_apart rfl, dropped, shown]
  · rw [State.get_put_apart rfl, shown]

theorem State.get_canShowOne_other {s : State} {j k : Nat} (hj : j < 8) (hk : k < 8) (other : k ≠ j) :
    (s.canShowOne j).get F.canBusMode k = s.get F.canBusMode k := by
  have apart : fldKey F.canBusMode k ≠ fldKey F.canBusMode j := by
    simp only [fldKey, F.canBusMode]
    omega
  have dropped : ∀ u : State, (u.canDropCtl j true).get F.canBusMode k = u.get F.canBusMode k := fun _ =>
    (Writes.canDropCtl .refl fun _ => id).get rfl
  have shown : ∀ m, (s.put F.canBusMode m j).get F.canBusMode k = s.get F.canBusMode k := fun _ => State.get_put_ne apart
  unfold State.canShowOne
  dsimp only
  split_ifs
  · rfl
  · rw [State.get_put_apart rfl, State.get_put_apart rfl, State.get_put_apart rfl, shown]
  · rw [State.get_put_apart rfl, dropped, shown]
  · rw [State.get_put_apart rfl, shown]

theorem State.get_canShowsOf {s : State} {l : List Nat} {k : Nat} (hk : k < 8) (hl : ∀ j ∈ l, j < 8)
    (shown : k ∈ l ∨ s.get F.canBusMode k = s.canBusModeOf k) :
    (l.foldl State.canShowOne s).get F.canBusMode k = s.canBusModeOf k := by
  induction l generalizing s with
  | nil => simpa using shown
  | cons j l ih =>
    obtain ⟨hj, rest⟩ := List.forall_mem_cons.1 hl
    have kept : (s.canShowOne j).canBusModeOf k = s.canBusModeOf k := State.canBusModeOf_same .canShowOne (s.canShowOne_ctls j)
    rw [List.foldl_cons, ← kept]
    refine ih rest ?_
    rw [kept]
    by_cases same : k = j
    · exact .inr (same ▸ s.get_canShowOne_self k)
    · rw [State.get_canShowOne_other hj hk same]
      simpa [same] using shown

/-- Every controller shows the bus mode that it has. -/
theorem State.get_canShow_busMode {s : State} {k : Nat} (hk : k < 8) : s.canShow.get F.canBusMode k = s.canShow.canBusModeOf k := by
  rw [State.canBusModeOf_same .canShow s.canShow_ctls]
  rw [State.canShow_eq]
  exact State.get_canShowsOf hk (fun _ => List.mem_range.1) (.inl (List.mem_range.2 hk))

end Sys2Proof.Machine

namespace Sys2Proof.Machine

open Sys2Proof

/-! Transmission, suspension and the end of a controller's service (R337, R339, R340, R342, R344). -/

/-- The controller of a message object. -/
theorem objController (k : Fin 8) (j : Fin 128) : (128 * k.val + j.val) / 128 = k.val := by omega

theorem State.canSends_iff {s : State} {k : Fin 8} {j : Fin 128} : s.canSends (128 * k.val + j.val) = true ↔
    s.get F.canBusMode k.val = 1 ∧ s.get F.canErrState k.val ≠ 2 ∧ s.get F.objPending (128 * k.val + j.val) = 1 := by
  simp [State.canSends, State.flag, objController, and_assoc]

/-- The frame that has been sent is gone. -/
def State.canTxDone (s : State) (k o : Nat) : State := ((s.inc F.canTxFrames k).put F.objAckErrRun 0 o).canDropObj o false

theorem State.canTxDone_eq {s : State} {k o : Nat} (h : s.get F.objPending o = 1) : s.canTxDone k o =
    (((s.inc F.canTxFrames k).put F.objAckErrRun 0 o).put F.objPending 0 o).putCanObj { s.canObj o with payload := none } :=
  State.canDropObj_pending (s := (s.inc F.canTxFrames k).put F.objAckErrRun 0 o)
    ((State.get_put_apart rfl).trans ((State.get_inc_apart rfl).trans h))

theorem execCanTxComplete_sends {s : State} {k : Fin 8} {j : Fin 128} (sends : s.canSends (128 * k.val + j.val) = true) :
    execCanTxComplete k j s = .next (
      if (s.canTxDone k.val (128 * k.val + j.val)).get F.canTec k.val = 0 then s.canTxDone k.val (128 * k.val + j.val)
      else (s.canTxDone k.val (128 * k.val + j.val)).canErr k.val ((s.canTxDone k.val (128 * k.val + j.val)).get F.canTec k.val - 1)
        ((s.canTxDone k.val (128 * k.val + j.val)).get F.canRec k.val)) :=
  congrArg Host.Outcome.next (if_neg (by simp [sends]))

/-- The fields that an error on the bus writes. -/
theorem Writes.canCountErr {s : State} {k kind : Nat} : Writes [F.canProtocolErrors, F.raised] s (s.canCountErr k kind) := by
  unfold State.canCountErr
  dsimp only
  split_ifs
  · exact .raise (.putCanCtl (.inc .refl (by decide))) (by decide)
  · exact .inc .refl (by decide)

theorem execCanBusError_normal {s : State} {k : Fin 8} {n a b : Nat} (normal : s.get F.canBusMode k.val = 1)
    (on : s.get F.canErrState k.val ≠ 2) :
    execCanBusError k n none a b s = .next ((s.canCountErr k n).canErr k a b) := by
  have active : ¬(s.get F.canBusMode k.val = 0 ∨ s.get F.canErrState k.val = 2) := not_or.2 ⟨by omega, on⟩
  exact congrArg Host.Outcome.next ((if_neg active).trans (if_pos normal))

theorem execCanBusError_monitors {s : State} {k : Fin 8} {n : Nat} {o : Option (Fin 128)} {a b : Nat}
    (monitors : s.get F.canBusMode k.val = 2) (on : s.get F.canErrState k.val ≠ 2) : execCanBusError k n o a b s =
      .next ((s.canCountErr k n).putCanCtl { (s.canCountErr k n).canCtl k with good := 0 }) := by
  have active : ¬(s.get F.canBusMode k.val = 0 ∨ s.get F.canErrState k.val = 2) := not_or.2 ⟨by omega, on⟩
  exact congrArg Host.Outcome.next ((if_neg active).trans (if_neg (by omega)))

/-- NO_PEER of an object is written, and with it the count of suspended objects. -/
theorem RegsBut.setNoPeer {l : List (Fld × Nat)} {s t : State} {k : Fin 8} {j : Fin 128} {b : Bool} (h : RegsBut l s t)
    (flag : (F.objNoPeer, 128 * k.val + j.val) ∈ l) (count : (F.canNoPeerObjs, k.val) ∈ l) :
    RegsBut l s (t.setNoPeer (128 * k.val + j.val) b) := by
  unfold State.setNoPeer
  dsimp only
  rw [objController]
  exact .put (.putFlag h flag) count

theorem Writes.setNoPeer {ws : List Fld} {s t : State} {o : Nat} {b : Bool} (h : Writes ws s t) (flag : F.objNoPeer ∈ ws)
    (count : F.canNoPeerObjs ∈ ws) : Writes ws s (t.setNoPeer o b) := .put (.putFlag h flag) count

theorem State.get_setNoPeer (s : State) (o : Nat) (b : Bool) : (s.setNoPeer o b).get F.objNoPeer o = if b then 1 else 0 := by
  unfold State.setNoPeer
  dsimp only
  rw [State.get_put_apart rfl]
  cases b <;> exact State.get_put_self ..

/-- An object resumes. -/
theorem State.canResume_suspended {s : State} {o : Nat} (h : s.get F.objNoPeer o = 1) :
    s.canResume o = (s.putCanObj { s.canObj o with resume := false }).setNoPeer o false := if_pos (State.flag_of_one h)

/-- A frame that is not single-shot does not end on an error. -/
theorem State.canShotEnds_stays {s : State} {o : Nat} (h : s.get F.objSingleShot o = 0 ∨ s.get F.objPending o = 0) :
    s.canShotEnds o = s := by
  refine if_neg ?_
  obtain h | h := h <;> simp [State.flag_of_zero h]

/-- The search of a controller has failed (R342). -/
def State.canAbrFails (s : State) (k : Nat) : State :=
  ((s.putCanCtl { s.canCtl k with detect := 3, good := 0, rounds := (s.canCtl k).rounds + 1 }).put F.canAbrRate 0 k).raise
    (227 + 8 * k) 1 1 [(32, (s.canCtl k).rounds + 1)]

theorem execCanAbrDwell_fails {s : State} {k : Fin 8} (searches : s.get F.canBusMode k.val = 3)
    (dwelt : (s.canCtl k.val).since + 800 ≤ s.beat.opBeats) (last : 11 ≤ (s.canCtl k.val).entry)
    (rounds : s.get F.abrRounds k.val ≤ (s.canCtl k.val).rounds + 1) :
    execCanAbrDwell k s = .next (s.canAbrFails k.val).canShow :=
  congrArg Host.Outcome.next ((if_neg (by omega)).trans ((if_neg (by omega)).trans (if_neg (by omega))))

/-- The faults of the last 60 s before this one. -/
def State.recentFaults (s : State) (k : Nat) : List Nat := (s.canCtl k).faults.filter (fun b => decide (s.beat.opBeats < b + 240000))

/-- This one is the third. -/
def State.canFails (s : State) (k : Nat) : Bool := decide (3 ≤ (s.recentFaults k ++ [s.beat.opBeats]).length)

theorem State.canFails_iff {s : State} {k : Nat} : s.canFails k = true ↔ 2 ≤ (s.recentFaults k).length := by
  simp [State.canFails]

/-- The state in which a fault leaves its controller, before the bus modes are shown. -/
def State.canFaulted (s : State) (k : Nat) : State :=
  (((s.putCanCtl { s.canCtl k with faults := s.recentFaults k ++ [s.beat.opBeats] }).inc F.canFaultCount k).put F.canFault
    (if s.canFails k then 2 else 1) k).canDropCtl k false

theorem execCanControllerFault_takes {s : State} {k : Fin 8} {n : Nat} (serves : s.get F.canFault k.val ≠ 2)
    (on : s.get F.canMode k.val ≠ 0) : execCanControllerFault k n s = .next ((s.canFaulted k.val).canShow.raise (228 + 8 * k.val) 1
      (if s.canFails k.val then 3 else 2) [(8, n)]) :=
  congrArg Host.Outcome.next (if_neg (not_or.2 ⟨serves, on⟩))

/-- A controller with a fault is off its bus. -/
theorem State.canBusModeOf_fault {s : State} {k : Nat} (h : s.get F.canFault k ≠ 0) : s.canBusModeOf k = 0 :=
  if_pos (.inr (.inr h))

/-- A controller that leaves bus-off with both counts 0. -/
theorem State.canErr_recovers {s : State} {k : Nat} (off : s.get F.canErrState k = 2) :
    s.canErr k 0 0 = ((s.canCounts k 0 0).put F.canErrState 0 k).raise (222 + 8 * k) 1 1 [(2, 2), (2, 0), (8, 0), (8, 0)] := by
  have code : canErrCode 0 0 = 0 := rfl
  rw [State.canErr_eq, code, off]
  rfl

/-- The counts after an acknowledgement error: TEC rises by 8 while the controller is error active (R340). -/
def State.canAckCounted (s : State) (k : Nat) : State :=
  if (s.canCountErr k 3).get F.canErrState k = 0 then
    (s.canCountErr k 3).canErr k ((s.canCountErr k 3).get F.canTec k + 8) ((s.canCountErr k 3).get F.canRec k)
  else s.canCountErr k 3

/-- The 64th error in a row suspends the object. -/
def State.canSuspends (s : State) (k o j : Nat) : State :=
  (((s.canDropObj o false).put F.objAckErrRun 0 o).setNoPeer o true).raise (223 + 8 * k) 1 2 [(16, j)]

theorem execCanAckError_sends {s : State} {k : Fin 8} {j : Fin 128} (sends : s.canSends (128 * k.val + j.val) = true) :
    execCanAckError k j s = .next ((
      if 64 ≤ (s.canAckCounted k.val).get F.objAckErrRun (128 * k.val + j.val) + 1 then
        (s.canAckCounted k.val).canSuspends k.val (128 * k.val + j.val) j.val
      else (s.canAckCounted k.val).put F.objAckErrRun ((s.canAckCounted k.val).get F.objAckErrRun (128 * k.val + j.val) + 1)
        (128 * k.val + j.val)).canShotEnds (128 * k.val + j.val)) :=
  congrArg Host.Outcome.next (if_neg (by simp [sends]))

/-- The fields of the error counts of one controller. -/
def ackFields : List Fld := [F.canProtocolErrors, F.canErrState, F.canTec, F.canRec, F.raised]

/-- While error active, and short of bus-off. -/
theorem State.canAckCounted_active {s : State} {k : Nat} (active : s.get F.canErrState k = 0) (low : s.get F.canTec k < 120) :
    (s.canAckCounted k).get F.canTec k = s.get F.canTec k + 8 ∧ (s.canAckCounted k).can.objs = s.can.objs ∧
    ∀ g j, g.offAll ackFields = true → (s.canAckCounted k).get g j = s.get g j := by
  have state : (s.canCountErr k 3).get F.canErrState k = 0 := (Writes.canCountErr.get rfl).trans active
  have tec : (s.canCountErr k 3).get F.canTec k = s.get F.canTec k := Writes.canCountErr.get rfl
  obtain ⟨-, objects, counted, -⟩ := s.canCountErr_spec k 3
  rw [State.canAckCounted, if_pos state]
  obtain ⟨can, regs⟩ := State.canErr_stays (s := s.canCountErr k 3) (k := k) (rec' := (s.canCountErr k 3).get F.canRec k)
    (tec := (s.canCountErr k 3).get F.canTec k + 8) (by omega)
  refine ⟨?_, by rw [can, objects], fun g j off => ?_⟩
  · rw [State.get_canErr_tec, tec]
    omega
  · exact (regs.get_apart ackFields (by simp [ackFields]) off).trans (counted.get_apart ackFields (by simp [ackFields]) off)

/-- While error passive TEC stands. -/
theorem State.canAckCounted_passive {s : State} {k : Nat} (passive : s.get F.canErrState k = 1) :
    s.canAckCounted k = s.canCountErr k 3 := by
  have state : (s.canCountErr k 3).get F.canErrState k = 1 := (Writes.canCountErr.get rfl).trans passive
  exact if_neg (by omega)

/-- The fields that a suspension writes. -/
def suspendFields : List Fld := [F.objPending, F.objAckErrRun, F.objNoPeer, F.canNoPeerObjs]

/-- What a suspension changes. -/
theorem State.canSuspends_spec {s : State} {k o j : Nat} (pending : s.get F.objPending o = 1) :
    (s.canSuspends k o j).get F.objNoPeer o = 1 ∧ (s.canSuspends k o j).get F.objPending o = 0 ∧
    (s.canSuspends k o j).get F.objAckErrRun o = 0 ∧ (s.canSuspends k o j).get F.canTec k = s.get F.canTec k ∧
    Writes suspendFields s (((s.canDropObj o false).put F.objAckErrRun 0 o).setNoPeer o true) := by
  have writes : Writes suspendFields s (((s.canDropObj o false).put F.objAckErrRun 0 o).setNoPeer o true) := by
    rw [State.canDropObj_pending pending]
    exact .setNoPeer (.put (.putCanObj (.put .refl (by decide))) (by decide)) (by decide) (by decide)
  have flagged : ∀ u : State, Writes [F.objNoPeer, F.canNoPeerObjs] u (u.setNoPeer o true) := fun _ =>
    .setNoPeer .refl (by decide) (by decide)
  refine ⟨?_, ?_, ?_, ?_, writes⟩ <;> rw [State.canSuspends, State.get_raise_apart rfl]
  · exact State.get_setNoPeer _ o true
  · rw [(flagged _).get rfl, State.get_put_apart rfl, State.canDropObj_pending pending]
    exact State.get_put_self ..
  · rw [(flagged _).get rfl]
    exact State.get_put_self ..
  · exact writes.get rfl

/-- Settles O50: each command of a controller is a test, and then the writes that the lemmas above give; `canErr` carries the
error state, `canShow` the bus modes. -/
theorem canControllersSendAndFail : Obligations.CanControllersSendAndFail := by
  unfold Obligations.CanControllersSendAndFail
  refine ⟨fun k j s sends clear => ?sent, fun k j s sends counts fits => ?lowered, fun k j s idle => ?notSent,
    fun k n o a b s monitors on => ?monitored, fun k n a b s normal on => ?counted, fun k n o a b s off => ?offBus,
    fun k j s sends active few repeats low => ?ackError, fun k j s sends passive many => ?noPeer, fun k j s idle => ?noAck,
    fun k j s suspended cause => ?resume, fun k j s stays => ?noResume, fun k s off manual => ?recover, fun k s on => ?noRecover,
    fun k s off allowed => ?recovery, fun k s on => ?noRecovery, fun k s searches dwelt more => ?dwell,
    fun k s searches dwelt last rounds => ?round, fun k s searches dwelt last rounds => ?fails, fun k s waits => ?noDwell,
    fun k n s serves on => ?fault, fun k n s none => ?noFault, fun k s faulty => ?reload, fun k s other => ?noReload⟩
  case sent =>
    obtain ⟨-, -, pending⟩ := State.canSends_iff.1 sends
    have done := State.canTxDone_eq (k := k.val) pending
    have tec : (s.canTxDone k.val (128 * k.val + j.val)).get F.canTec k.val = 0 := by
      rw [done]
      exact (State.get_put_apart rfl).trans ((State.get_put_apart rfl).trans ((State.get_inc_apart rfl).trans clear))
    refine ⟨_, (execCanTxComplete_sends sends).trans (congrArg _ ((if_pos tec).trans done)), ?_, ?_, ?_, ?_, ?_, rfl⟩
    · exact (State.get_put_apart rfl).trans ((State.get_put_apart rfl).trans (State.get_inc_self ..))
    · exact State.get_put_self ..
    · exact (State.get_put_apart rfl).trans (State.get_put_self ..)
    · rw [State.canObj_put_self (by exact s.canObj_o _)]
    · exact .putCanObj (.put (.put (.inc .refl (by simp)) (by simp)) (by simp))
  case notSent => exact ⟨s, congrArg Host.Outcome.next (if_pos (by simp [idle])), rfl⟩
  case offBus => exact ⟨s, congrArg Host.Outcome.next (if_pos (.inl off)), rfl⟩
  case noAck => exact ⟨s, congrArg Host.Outcome.next (if_pos (by simp [idle])), rfl⟩
  case recover =>
    exact ⟨_, congrArg Host.Outcome.next (if_pos ⟨off, manual⟩), State.canCtl_put_self (s.canCtl_k _), rfl⟩
  case noRecover => exact ⟨s, congrArg Host.Outcome.next (if_neg (mt And.left on)), rfl⟩
  case noRecovery => exact ⟨s, congrArg Host.Outcome.next (if_neg (mt And.left on)), rfl⟩
  case noFault => exact ⟨s, congrArg Host.Outcome.next (if_pos none), rfl⟩
  case noReload => exact ⟨s, congrArg Host.Outcome.next (if_neg other), rfl⟩
  case noDwell => exact ⟨s, congrArg Host.Outcome.next (if_pos waits), rfl⟩
  case dwell =>
    exact ⟨_, congrArg Host.Outcome.next ((if_neg (by omega)).trans (if_pos more)), State.canCtl_put_self (s.canCtl_k _), rfl⟩
  case round =>
    exact ⟨_, congrArg Host.Outcome.next ((if_neg (by omega)).trans ((if_neg (by omega)).trans (if_pos rounds))),
      State.canCtl_put_self (s.canCtl_k _), rfl⟩
  case lowered =>
    obtain ⟨-, -, pending⟩ := State.canSends_iff.1 sends
    have done := State.canTxDone_eq (k := k.val) pending
    have tec : (s.canTxDone k.val (128 * k.val + j.val)).get F.canTec k.val = s.get F.canTec k.val := by
      rw [done]
      exact (State.get_put_apart rfl).trans ((State.get_put_apart rfl).trans (State.get_inc_apart rfl))
    have gone : (s.canTxDone k.val (128 * k.val + j.val)).get F.objPending (128 * k.val + j.val) = 0 := by
      rw [done]
      exact State.get_put_self ..
    refine ⟨_, (execCanTxComplete_sends sends).trans (congrArg _ (if_neg (by rw [tec]; exact counts))), ?_, ?_, ?_⟩
    · rw [State.get_canErr_tec, tec]
      omega
    · obtain ⟨-, regs⟩ := State.canErr_stays (s := s.canTxDone k.val (128 * k.val + j.val)) (k := k.val)
        (tec := (s.canTxDone k.val (128 * k.val + j.val)).get F.canTec k.val - 1)
        (rec' := (s.canTxDone k.val (128 * k.val + j.val)).get F.canRec k.val) (by rw [tec]; omega)
      exact (regs.get_apart [F.canErrState, F.canTec, F.canRec, F.raised] (by simp) rfl).trans gone
    · exact (State.canErr_touches.mem_eq rfl).trans (by rw [done]; rfl)
  case monitored =>
    obtain ⟨counted, objects, regs, -⟩ := s.canCountErr_spec k n
    refine ⟨_, execCanBusError_monitors monitors on, counted, ?_, .putCanCtl regs, objects⟩
    rw [State.canCtl_put_self (by exact State.canCtl_k _ _)]
  case counted =>
    have errState : (s.canCountErr k n).get F.canErrState k.val = s.get F.canErrState k.val := Writes.canCountErr.get rfl
    refine ⟨_, execCanBusError_normal normal on, State.get_canErr_tec .., State.get_canErr_rec .., State.get_canErr_state ..,
      fun off => ?_⟩
    have busOff := State.canErr_busOff (s := s.canCountErr k n) (rec' := b) off (by rw [errState]; exact on)
    have kept : ((s.canCountErr k n).canCounts k a b).get F.canBusOffCount k.val = s.get F.canBusOffCount k.val :=
      (Writes.canCounts.get rfl).trans (Writes.canCountErr.get rfl)
    have writes : Writes (F.canProtocolErrors :: errFields) s (((s.canCountErr k n).canCounts k a b).canErrEnters k 2) :=
      (Writes.canCountErr.mono (by decide)).trans ((Writes.canCounts.mono (by decide)).trans (Writes.canErrEnters.mono (by decide)))
    constructor
    · rw [busOff, State.get_raise_apart rfl, State.get_canErrEnters_busOff, kept]
    · rw [busOff, errState]
      exact writes.raisedLast rfl (by simp)
  case ackError =>
    obtain ⟨-, -, pending⟩ := State.canSends_iff.1 sends
    obtain ⟨tec, objects, others⟩ := State.canAckCounted_active active low
    have run : (s.canAckCounted k).get F.objAckErrRun (128 * k.val + j.val) = s.get F.objAckErrRun (128 * k.val + j.val) :=
      others _ _ rfl
    have single : (s.canAckCounted k).get F.objSingleShot (128 * k.val + j.val) = 0 := (others _ _ rfl).trans repeats
    refine ⟨_, (execCanAckError_sends sends).trans (congrArg Host.Outcome.next ((congrArg (State.canShotEnds · _)
      (if_neg (by rw [run]; omega))).trans (State.canShotEnds_stays (.inl ((State.get_put_apart rfl).trans single))))),
      ?_, ?_, ?_, objects⟩
    · rw [State.get_put_fits (by show _ < 256; omega), run]
    · exact (State.get_put_apart rfl).trans tec
    · exact (State.get_put_apart rfl).trans ((others _ _ rfl).trans pending)
  case noPeer =>
    obtain ⟨-, -, pending⟩ := State.canSends_iff.1 sends
    have counted : Writes [F.canProtocolErrors, F.raised] s (s.canAckCounted k) := by
      rw [State.canAckCounted_passive passive]
      exact .canCountErr
    obtain ⟨flag, gone, run, tec, writes⟩ := State.canSuspends_spec (k := k) (j := j) ((counted.get rfl).trans pending)
    have many : 64 ≤ (s.canAckCounted k).get F.objAckErrRun (128 * k.val + j.val) + 1 := by
      rw [counted.get rfl]
      omega
    refine ⟨_, (execCanAckError_sends sends).trans (congrArg Host.Outcome.next ((congrArg (State.canShotEnds · _)
      (if_pos many)).trans (State.canShotEnds_stays (.inr gone)))), flag, gone, run, tec.trans (counted.get rfl), ?_⟩
    exact ((counted.mono (ws' := F.canProtocolErrors :: F.raised :: suspendFields) (by decide)).trans
      (writes.mono (by decide))).raisedLast rfl (by simp)
  case resume =>
    have woken : ((s.canObj (128 * k.val + j.val)).resume || s.can.sys.contains (1024 + (128 * k.val + j.val))) = true := by
      simpa using cause
    refine ⟨_, congrArg Host.Outcome.next ((if_pos woken).trans (State.canResume_suspended suspended)), State.get_setNoPeer .., ?_,
      RegsBut.setNoPeer (k := k) (j := j) (.putCanObj .refl) (by simp) (by simp), rfl⟩
    exact congrArg CanObjRt.resume (State.canObj_put_self (by exact s.canObj_o _))
  case noResume =>
    refine ⟨s, congrArg Host.Outcome.next ?_, rfl⟩
    obtain awake | ⟨idle, unasked⟩ := stays
    · exact ite_eq_right_iff.2 fun _ => if_neg (by simp [State.flag_of_zero awake])
    · exact if_neg (by simp [idle, unasked])
  case recovery =>
    obtain ⟨can, regs⟩ := State.canErr_stays (s := s.putCanCtl { s.canCtl k with recovering := false }) (k := k.val) (tec := 0)
      (rec' := 0) (by omega)
    have writes : Writes [F.canTec, F.canRec, F.canErrState] s
        (((s.putCanCtl { s.canCtl k with recovering := false }).canCounts k 0 0).put F.canErrState 0 k) :=
      .put (Writes.trans (.putCanCtl .refl) (Writes.canCounts.mono (by decide))) (by decide)
    refine ⟨_, congrArg Host.Outcome.next (if_pos ⟨off, allowed⟩), State.get_canErr_state .., State.get_canErr_tec ..,
      State.get_canErr_rec .., ?_, ?_, (RegsBut.putCanCtl .refl).trans (regs.mono (by simp))⟩
    · rw [State.canCtl_same (congrArg CanSt.ctls can), State.canCtl_put_self (by exact s.canCtl_k _)]
    · rw [State.canErr_recovers (by exact off)]
      exact writes.raised rfl rfl (by simp)
  case fails =>
    have writes : Writes [F.canAbrRate] s
        ((s.putCanCtl { s.canCtl k with detect := 3, good := 0, rounds := (s.canCtl k).rounds + 1 }).put F.canAbrRate 0 k) :=
      .put (.putCanCtl .refl) (by decide)
    refine ⟨_, execCanAbrDwell_fails searches dwelt last rounds, ?_, ?_, ?_, State.canShow_touches.mem_eq rfl⟩
    · rw [State.canCtl_same (State.canShow_ctls _)]
      exact congrArg CanRt.detect (State.canCtl_put_self (by exact s.canCtl_k _))
    · rw [Writes.canShow.get rfl]
      exact (State.get_raise_apart rfl).trans (State.get_put_self ..)
    · exact (writes.raised rfl rfl (by simp)).of_ev (State.canShow_touches.ev_eq rfl)
  case fault =>
    have shown : ∀ g j, g.offAll (F.raised :: showFields) = true →
        ((s.canFaulted k.val).canShow.raise (228 + 8 * k.val) 1 (if s.canFails k.val then 3 else 2) [(8, n)]).get g j =
          (s.canFaulted k.val).get g j := fun g j off =>
      Writes.get (.raise (Writes.canShow.mono (by decide)) (by decide)) off
    have fault : (s.canFaulted k.val).get F.canFault k = if s.canFails k.val then 2 else 1 := by
      rw [State.canFaulted, (Writes.canDropCtl .refl fun _ => id).get rfl]
      exact State.get_put_fits (by split <;> decide)
    have code : (if s.canFails k.val then 2 else 1) = if 2 ≤ (s.recentFaults k.val).length then 2 else 1 := by
      simp only [State.canFails_iff]
    have faulty : (s.canFaulted k.val).canShow.get F.canFault k ≠ 0 := by
      rw [Writes.canShow.get rfl, fault]
      split <;> decide
    have severity : (if (s.canFaulted k.val).get F.canFault k = 2 then 3 else 2) = if s.canFails k.val then 3 else 2 := by
      rw [fault]
      split <;> rfl
    have writes : Writes (F.canFaultCount :: F.canFault :: showFields) s (s.canFaulted k.val).canShow :=
      (Writes.canDropCtl (.put (.inc (.putCanCtl .refl) (by decide)) (by decide)) (by decide)).trans (Writes.canShow.mono (by decide))
    have mem : (s.canFaulted k.val).canShow.mem = s.mem := by
      rw [State.canShow_touches.mem_eq rfl, State.canFaulted, State.canDropCtl_touches.mem_eq rfl, State.put_mem, State.inc_mem]
      rfl
    refine ⟨_, execCanControllerFault_takes serves on, ?_, ?_, ?_, ?_, (State.raise_mem ..).trans mem⟩
    · rw [shown _ _ rfl, fault]
      exact code
    · rw [shown _ _ rfl, State.canFaulted, (Writes.canDropCtl .refl fun _ => id).get rfl, State.get_put_apart rfl]
      exact State.get_inc_self ..
    · rw [State.get_raise_apart rfl, State.get_canShow_busMode k.isLt]
      exact State.canBusModeOf_fault faulty
    · rw [shown _ _ rfl, severity]
      exact writes.raisedLast rfl (by simp)
  case reload =>
    have emptied : (s.put F.canFault 0 k).get F.canFault k = 0 := State.get_put_self ..
    exact ⟨_, congrArg Host.Outcome.next (if_pos faulty), (Writes.canShow.get rfl).trans emptied, State.get_canShow_busMode k.isLt,
      State.canShow_touches.ev_eq rfl, State.canShow_touches.mem_eq rfl⟩

end Sys2Proof.Machine

namespace Sys2Proof.Machine

open Sys2Proof

/-! TRIM gating (R508 to R511, R516). -/

theorem RegsBut.onPwr {l : List (Fld × Nat)} {s t : State} {f : PowerSt → PowerSt} (h : RegsBut l s t) : RegsBut l s (t.onPwr f) :=
  h.regs rfl

/-- An item of a partition is counted, where the partition counts. -/
theorem RegsBut.trimCount {l : List (Fld × Nat)} {s t : State} {p i : Nat} (h : RegsBut l s t) (hm : (statFld p i, 0) ∈ l) :
    RegsBut l s (t.trimCount p i) := .ite (fun _ => .inc h hm) fun _ => h

theorem State.trimCount_parts (s : State) (p i : Nat) : s.trimCount p i = { s with regs := (s.trimCount p i).regs } := by
  unfold State.trimCount
  split <;> rfl

theorem State.get_trimCount (s : State) (p i : Nat) :
    (s.trimCount p i).get (statFld p i) = if s.trimCounts then satInc 32 (s.get (statFld p i)) else s.get (statFld p i) := by
  unfold State.trimCount
  split
  · exact State.get_inc_self s (statFld p i) 0
  · rfl

/-- GATED and PWR are shown. -/
theorem RegsBut.showTrim {l : List (Fld × Nat)} {s t : State} (h : RegsBut l s t) (gated : (F.gated, 0) ∈ l) (pwr : (F.pwr, 0) ∈ l) :
    RegsBut l s t.showTrim := .ite (fun _ => .put h gated) fun _ => .put (.put h gated) pwr

theorem State.showTrim_parts (s : State) : s.showTrim = { s with regs := s.showTrim.regs } := by
  unfold State.showTrim
  dsimp only
  split <;> rfl

/-- The idle unit may begin its entry: it is enabled, idle and neither gated nor entering. -/
theorem State.trimTimer_begins {s : State} {p u : Nat} (on : s.pwr.off = false) (enabled : bitOf (s.get F.trimEnable) p = true)
    (idle : s.trimIdle p u = true) (ungated : ∀ g ∈ s.pwr.gated, g.1 ≠ p * 256 + u)
    (outside : ∀ e ∈ s.pwr.entering, e.1 ≠ p * 256 + u) :
    ¬((!bitOf (s.get F.trimEnable) p) = true ∨ (!s.trimIdle p u) = true ∨ s.pwr.off = true ∨
      (s.pwr.gated.any (fun g => g.1 == p * 256 + u)) = true ∨ (s.pwr.entering.any (fun e => e.1 == p * 256 + u)) = true) := by
  simp only [on, enabled, idle, List.any_eq_true, beq_iff_eq, not_or, not_exists, not_and]
  exact ⟨by decide, by decide, by decide, ungated, outside⟩

theorem execTrimIdleTimer_enters {s : State} {p : Fin 6} {u n : Nat} (on : s.pwr.off = false)
    (enabled : bitOf (s.get F.trimEnable) p.val = true) (idle : s.trimIdle p.val u = true)
    (ungated : ∀ g ∈ s.pwr.gated, g.1 ≠ p.val * 256 + u) (outside : ∀ e ∈ s.pwr.entering, e.1 ≠ p.val * 256 + u)
    (none : s.refuser p.val n = none) : execTrimIdleTimer p u n s =
      .next { s with pwr := { s.pwr with entering := s.pwr.entering ++ [(p.val * 256 + u, 1)] } } := by
  unfold execTrimIdleTimer State.trimTimer
  dsimp only
  rw [if_neg (State.trimTimer_begins on enabled idle ungated outside), none]
  rfl

theorem execTrimIdleTimer_refused {s : State} {p : Fin 6} {u n i : Nat} (on : s.pwr.off = false)
    (enabled : bitOf (s.get F.trimEnable) p.val = true) (idle : s.trimIdle p.val u = true)
    (ungated : ∀ g ∈ s.pwr.gated, g.1 ≠ p.val * 256 + u) (outside : ∀ e ∈ s.pwr.entering, e.1 ≠ p.val * 256 + u)
    (refused : s.refuser p.val n = some i) (low : i < 7) : execTrimIdleTimer p u n s = .next (s.trimCount p.val i) := by
  unfold execTrimIdleTimer State.trimTimer
  dsimp only
  rw [if_neg (State.trimTimer_begins on enabled idle ungated outside), refused]
  exact congrArg Host.Outcome.next (if_neg fun h => absurd h.1 (by omega))

/-- One count for each entry that is confirmed. -/
theorem RegsBut.trimCounts {l : List (Fld × Nat)} {s t : State} {p i : Nat} {es : List (Nat × Nat)} (h : RegsBut l s t)
    (hm : (statFld p i, 0) ∈ l) : RegsBut l s (es.foldl (fun (s : State) _ => s.trimCount p i) t) := by
  induction es generalizing t with
  | nil => exact h
  | cons e es ih => exact ih (h.trimCount hm)

theorem State.trimCounts_parts (s : State) (p i : Nat) (es : List (Nat × Nat)) :
    es.foldl (fun (s : State) _ => s.trimCount p i) s =
      { s with regs := (es.foldl (fun (s : State) _ => s.trimCount p i) s).regs } := by
  induction es generalizing s with
  | nil => rfl
  | cons e es ih => rw [List.foldl_cons, ih (s.trimCount p i), State.trimCount_parts]

/-- The entries of a partition that are under way. -/
def State.trimEnters (s : State) (p : Nat) : List (Nat × Nat) := s.pwr.entering.filter (fun e => e.1 / 256 == p)

/-- The gated units after the confirmation of partition `p`. -/
def State.trimGated (s : State) (p : Nat) : PowerSt :=
  { s.pwr with
    entering := s.pwr.entering.filter (fun e => e.1 / 256 != p)
    gated := s.pwr.gated ++ (s.trimEnters p).map (fun e => (e.1, s.opTicks))
    entries := s.pwr.entries.filter (fun e => decide (s.beat.opBeats < e.2 + 4)) ++
      (s.trimEnters p).map (fun _ => (p, s.beat.opBeats)) }

theorem State.trimConfirm_parts (s : State) (p : Nat) :
    s.trimConfirm p = { s with regs := (s.trimConfirm p).regs, pwr := s.trimGated p } := by
  unfold State.trimConfirm
  dsimp only
  rw [State.showTrim_parts, State.trimCounts_parts]
  rfl

theorem RegsBut.trimConfirm {l : List (Fld × Nat)} {s t : State} {p : Nat} (h : RegsBut l s t) (count : (statFld p 0, 0) ∈ l)
    (gated : (F.gated, 0) ∈ l) (pwr : (F.pwr, 0) ∈ l) : RegsBut l s (t.trimConfirm p) :=
  .showTrim (.onPwr (.trimCounts h count)) gated pwr

/-- LAST_WAKE is kept outside normal service. -/
def State.keepWake (s : State) (p wake : Nat) : State := if s.trimCounts then s else s.put (statByte p 10) wake

theorem RegsBut.keepWake {l : List (Fld × Nat)} {s t : State} {p wake : Nat} (h : RegsBut l s t) (hm : (statByte p 10, 0) ∈ l) :
    RegsBut l s (t.keepWake p wake) := .ite (fun _ => h) fun _ => .put h hm

theorem State.keepWake_parts (s : State) (p wake : Nat) : s.keepWake p wake = { s with regs := (s.keepWake p wake).regs } := by
  unfold State.keepWake
  split <;> rfl

/-- The gated units of other partitions, and those that are held, stay. -/
def State.trimStays (s : State) (p : Nat) : List (Nat × Nat) := s.pwr.gated.filter (fun g => g.1 / 256 != p || s.heldTrim g.1)

theorem RegsBut.trimExit {l : List (Fld × Nat)} {s t : State} {p : Nat} (h : RegsBut l s t) (ms : (statFld p 8, 0) ∈ l)
    (gated : (F.gated, 0) ∈ l) (pwr : (F.pwr, 0) ∈ l) : RegsBut l s (t.trimExit p) :=
  .showTrim (.ite (fun _ => .put (.onPwr (.onPwr h)) ms) fun _ => .onPwr h) gated pwr

theorem State.trimExit_parts (s : State) (p : Nat) : s.trimExit p = { s with
    regs := (s.trimExit p).regs, pwr := { s.pwr with gated := s.trimStays p, gatedFor := (s.trimExit p).pwr.gatedFor } } := by
  unfold State.trimExit
  dsimp only
  rw [State.showTrim_parts]
  split <;> rfl

/-- A wake before AP3 abandons the entry. -/
def State.trimAbandon (s : State) (p ap : Nat) : State :=
  let s := (s.onPwr fun w => { w with entering := w.entering.filter (fun e => e.1 / 256 != p) }).trimCount p 1
  if s.trimCounts then s.put (statByte p 9) ap else s

theorem RegsBut.trimAbandon {l : List (Fld × Nat)} {s t : State} {p ap : Nat} (h : RegsBut l s t) (count : (statFld p 1, 0) ∈ l)
    (byte : (statByte p 9, 0) ∈ l) : RegsBut l s (t.trimAbandon p ap) :=
  .ite (fun _ => .put (.trimCount (.onPwr h) count) byte) fun _ => .trimCount (.onPwr h) count

theorem State.trimAbandon_parts (s : State) (p ap : Nat) : s.trimAbandon p ap = { s with
    regs := (s.trimAbandon p ap).regs
    pwr := { s.pwr with entering := s.pwr.entering.filter (fun e => e.1 / 256 != p) } } := by
  unfold State.trimAbandon
  dsimp only
  rw [State.trimCount_parts]
  split <;> rfl

/-- A partition with no entry under way exits; an early wake abandons the entry. -/
theorem execTrimWake_exits {s : State} {p : Fin 6} {w : Nat} {a : Fin 5} (nobody : ∀ e ∈ s.pwr.entering, e.1 / 256 ≠ p.val) :
    execTrimWake p w a s = .next ((s.keepWake p w).trimExit p) := by
  have none : ¬(((s.keepWake p w).pwr.entering.any (fun e => e.1 / 256 == p.val)) = true) := by
    rw [State.keepWake_parts]
    simpa using nobody
  exact congrArg Host.Outcome.next (if_neg none)

theorem execTrimWake_abandons {s : State} {p : Fin 6} {w : Nat} {a : Fin 5} {e : Nat × Nat} (he : e ∈ s.pwr.entering)
    (hp : e.1 / 256 = p.val) (early : a.val < 3) : execTrimWake p w a s = .next ((s.keepWake p w).trimAbandon p a) := by
  have some : ((s.keepWake p w).pwr.entering.any (fun e => e.1 / 256 == p.val)) = true := by
    rw [State.keepWake_parts]
    exact List.any_eq_true.2 ⟨e, he, by simp [hp]⟩
  exact congrArg Host.Outcome.next ((if_pos some).trans (if_pos early))

/-- Settles O58: the timer, the confirmation and the wake are composed of the counts, the gated units and what shows them. -/
theorem trimGatesAndUngates : Obligations.TrimGatesAndUngates := by
  unfold Obligations.TrimGatesAndUngates
  refine ⟨fun p u n s on enabled idle ungated outside none => ?enters, fun p u n i s on enabled idle ungated outside refused low => ?refused,
    fun p u n s busy => ?busy, fun p s => ?confirm, fun p w a s nobody => ?exit, fun p w a e s he hp early => ?abandon⟩
  case enters => exact ⟨_, execTrimIdleTimer_enters on enabled idle ungated outside none, rfl⟩
  case refused =>
    exact ⟨_, execTrimIdleTimer_refused on enabled idle ungated outside refused low, s.get_trimCount .., .trimCount .refl (by simp),
      s.trimCount_parts ..⟩
  case busy => exact ⟨s, congrArg Host.Outcome.next (if_pos (.inr (.inl (by simp [busy])))), rfl⟩
  case confirm =>
    refine ⟨s.trimConfirm p, rfl, ?_, ?_, ?_, .trimConfirm .refl (by simp) (by simp) (by simp), ?_⟩
    · rw [State.trimConfirm_parts]
      simp [State.trimGated]
    · rw [State.trimConfirm_parts]
      intro e he hp
      exact List.mem_append_right _ (List.mem_map_of_mem (List.mem_filter.2 ⟨he, by simp [hp]⟩))
    · rw [State.trimConfirm_parts]
      intro g hg
      exact List.mem_append_left _ hg
    · rw [State.trimConfirm_parts]
      rfl
  case exit =>
    have stays : ((s.keepWake p w).trimExit p).pwr.gated = s.trimStays p := by
      rw [State.trimExit_parts, State.keepWake_parts]
      rfl
    refine ⟨_, execTrimWake_exits nobody, fun g hg hp => ?_, fun g hg ho => ?_,
      .trimExit (.keepWake .refl (by simp)) (by simp) (by simp) (by simp), ?_⟩
    · rw [stays] at hg
      simpa [hp] using (List.mem_filter.1 hg).2
    · rw [stays]
      exact List.mem_filter.2 ⟨hg, by simpa using ho⟩
    · rw [State.trimExit_parts, State.keepWake_parts]
  case abandon =>
    refine ⟨_, execTrimWake_abandons he hp early, ?_, .trimAbandon (.keepWake .refl (by simp)) (by simp) (by simp), ?_⟩
    · rw [State.trimAbandon_parts, State.keepWake_parts]
    · rw [State.trimAbandon_parts, State.keepWake_parts]

end Sys2Proof.Machine

namespace Sys2Proof.Machine

open Sys2Proof

/-- An event of two records, behind writes that leave the stamp. -/
theorem Writes.raisedTwo {ws : List Fld} {s t : State} {src code sev w v : Nat} {l r : List (Nat × Nat)} (h : Writes ws s t)
    (quiet : t.ev = s.ev) (free : (stampFields.all fun g => g.offAll ws) = true) (first : (l.map Prod.fst).sum ≤ 64)
    (full : 64 < (l.map Prod.fst).sum + w) (second : w + (r.map Prod.fst).sum ≤ 64) :
    Raised [Machine.eventOf s src code sev l, restOf s src code sev ((w, v) :: r)] s (t.raise src code sev (l ++ (w, v) :: r)) := by
  have e : (t.raise src code sev (l ++ (w, v) :: r)).ev =
      { t.ev with router := t.ev.router ++ mkRecs t src code sev (packData 64 0 0 (l ++ (w, v) :: r)) } := rfl
  rw [Raised, e, mkRecs_two t src code sev first full second, h.eventOf free, h.eventOf free, quiet]
  rfl

/-! Analog loop ports (R260). -/

theorem State.ao_k (s : State) (k : Nat) : (s.ao k).k = k := by
  unfold State.ao
  cases h : s.field.aos.find? (fun a => a.k == k) with
  | none => rfl
  | some x => simpa using List.find?_some h

theorem State.ao_put_self {s : State} {a : AoRt} {k : Nat} (h : a.k = k) : (s.putAo a).ao k = a := by
  subst h
  rw [State.ao, State.putAo, find_replaced_self AoRt.k, Option.getD_some]

/-- Only the ports' records are read. -/
theorem State.ao_same {s t : State} (h : t.field = s.field) (k : Nat) : t.ao k = s.ao k := by rw [State.ao, State.ao, h]

theorem RegsBut.putAo {l : List (Fld × Nat)} {s t : State} {a : AoRt} (h : RegsBut l s t) : RegsBut l s (t.putAo a) := h.regs rfl

theorem Writes.putAo {ws : List Fld} {s t : State} {a : AoRt} (h : Writes ws s t) : Writes ws s (t.putAo a) := h.upd rfl rfl rfl rfl

theorem execAoOpenLoop_opens {s : State} {k : Fin 4} {x : Nat} (drives : (s.ao k.val).target = some x)
    (first : s.flag F.aoOpenLoop k.val = false) : execAoOpenLoop k s =
      .next (((s.put F.aoOpenLoop 1 k).putAo { s.ao k with back := 0 }).raise (162 + 3 * k) 1 2
        [(8, k.val), (32, x), (32, s.get F.aoReadback k)]) := by
  have target : ((s.ao k.val).target).getD 0 = x := by rw [drives, Option.getD_some]
  have data : s.aoData k = [(8, k.val), (32, x), (32, s.get F.aoReadback k)] := by rw [State.aoData, target]
  rw [← data]
  exact congrArg Host.Outcome.next (if_neg (by simp [drives, first]))

theorem execAoReadback_fails {s : State} {k : Fin 4} {ma x : Nat} (drives : (s.ao k.val).target = some x)
    (closed : s.flag F.aoOpenLoop k.val = false) (wired : s.flag F.aoMiswire k.val = false)
    (first : s.flag F.aoReadbackFault k.val = false) : execAoReadback k ma s =
      .next (((((s.put F.aoReadback ma k).put F.aoReadbackFault 1 k).put F.aoFailing 1 k).putAo
        { s.ao k with target := some (s.aoFail k) }).raise (164 + 3 * k) 1 2 [(8, k.val), (32, x), (32, ma)]) := by
  have target : ((s.ao k.val).target).getD 0 = x := by rw [drives, Option.getD_some]
  have level : (((s.put F.aoReadback ma k).put F.aoReadbackFault 1 k).put F.aoFailing 1 k).aoFail k = s.aoFail k := by
    rw [State.aoFail, State.aoFail, State.get_put_apart rfl, State.get_put_apart rfl, State.get_put_apart rfl]
  rw [← target, ← level]
  exact congrArg Host.Outcome.next (if_neg (by simp [drives, closed, wired, first]))

/-- A port without a fault drives its committed value. -/
theorem State.aoDrive_drives {s : State} {k : Nat} (enabled : s.get F.driveEn = 1) (used : s.get F.aoMode k ≠ 0)
    (wired : s.flag F.aoMiswire k = false) (read : s.flag F.aoReadbackFault k = false) (good : f32Bad (s.ao k).percent = false) :
    s.aoDrive k (s.ao k).percent false =
      (s.putAo { s.ao k with target := some (aoCurrent (s.ao k).percent) }).put F.aoFailing 0 k := by
  have drives : ¬(s.get F.driveEn = 0 ∨ s.get F.aoMode k = 0 ∨ s.flag F.aoMiswire k = true) := by simp [enabled, used, wired]
  unfold State.aoDrive
  dsimp only
  rw [if_neg drives]
  have still : ¬((1 : ℚ) < 0) := by norm_num
  simp [good, read, still, State.putFlag]

theorem execAoMiswireClear_drives {s : State} {k : Fin 4} (miswired : s.flag F.aoMiswire k.val = true)
    (heard : s.field.silent = false) (runs : s.get F.mode = 3) (enabled : s.get F.driveEn = 1) (used : s.get F.aoMode k.val ≠ 0)
    (read : s.flag F.aoReadbackFault k.val = false) (good : f32Bad (s.ao k.val).percent = false) :
    execAoMiswireClear k s = .next (((s.put F.aoMiswire 0 k).putAo
      { s.ao k with target := some (aoCurrent (s.ao k).percent) }).put F.aoFailing 0 k) := by
  have mode : (s.put F.aoMiswire 0 k).get F.mode = 3 := (State.get_put_apart rfl).trans runs
  have serves : ¬((s.put F.aoMiswire 0 k).field.silent = true ∨ (s.put F.aoMiswire 0 k).get F.mode = mStop) := by
    rw [mode]
    simp [heard]
  have drive := State.aoDrive_drives (s := s.put F.aoMiswire 0 k) (k := k.val) ((State.get_put_apart rfl).trans enabled)
    (by rw [State.get_put_apart rfl]; exact used) (State.flag_of_zero (State.get_put_self ..))
    (by rw [State.flag, State.get_put_apart rfl]; exact read) good
  exact congrArg Host.Outcome.next ((if_neg (by simp [miswired])).trans ((if_neg serves).trans drive))

/-! Encoder inputs (R262 to R264). -/

theorem RegsBut.spoilRate {l : List (Fld × Nat)} {s t : State} {kind ch : Nat} (h : RegsBut l s t) :
    RegsBut l s (t.spoilRate kind ch) := h.regs rfl

theorem Writes.spoilRate {ws : List Fld} {s t : State} {kind ch : Nat} (h : Writes ws s t) : Writes ws s (t.spoilRate kind ch) :=
  h.upd rfl rfl rfl rfl

/-- The registers of an illegal transition. -/
theorem State.encIllegal_spec (s : State) (k : Fin 4) :
    (s.encIllegal k).get F.encUncertain k.val = 1 ∧
    (s.encIllegal k).get F.encIllegalCount k.val = satInc 16 (s.get F.encIllegalCount k.val) ∧
    (s.encIllegal k).get F.encCount k.val = s.get F.encCount k.val ∧
    Raised [eventOf s (174 + 4 * k.val) 1 1 [(32, k.val), (16, satInc 16 (s.get F.encIllegalCount k.val))]] s (s.encIllegal k) ∧
    RegsBut [(F.encUncertain, k.val), (F.encIllegalCount, k.val), (F.raised, 174 + 4 * k.val)] s (s.encIllegal k) ∧
    s.encIllegal k = { s with
      regs := (s.encIllegal k).regs, ev := (s.encIllegal k).ev, loops := (s.spoilRate 1 k.val).loops } := by
  have count : (((s.inc F.encIllegalCount k).put F.encUncertain 1 k).spoilRate 1 k).get F.encIllegalCount k =
      satInc 16 (s.get F.encIllegalCount k.val) := (State.get_put_apart rfl).trans (State.get_inc_self ..)
  have writes : Writes [F.encIllegalCount, F.encUncertain] s
      (((s.inc F.encIllegalCount k).put F.encUncertain 1 k).spoilRate 1 k) :=
    .spoilRate (.put (.inc .refl (by decide)) (by decide))
  refine ⟨?_, (State.get_raise_apart rfl).trans count, ?_, ?_, .raise (.spoilRate (.put (.inc .refl (by simp)) (by simp))) (by simp), rfl⟩
  · exact (State.get_raise_apart rfl).trans (State.get_put_self ..)
  · exact (State.get_raise_apart rfl).trans (writes.get rfl)
  · rw [← count]
    exact writes.raised rfl rfl (by simp)

theorem State.get_encMove (s : State) (k : Nat) (d : Int) :
    (s.encMove k d).get F.encCount k = ofSigned 64 (toSigned 64 (s.get F.encCount k) + d) % 2 ^ 64 := State.get_put_self ..

theorem RegsBut.encMove {l : List (Fld × Nat)} {s t : State} {k : Nat} {d : Int} (h : RegsBut l s t) (hm : (F.encCount, k) ∈ l) :
    RegsBut l s (t.encMove k d) := .put h hm

/-- A reference of a sample without an illegal transition, where it resets the count. -/
theorem execEncZ_resets {s : State} {k : Fin 4} {a b : Bool} {d : Int} (mode : s.get F.zMode k.val = 2)
    (gate : s.get F.zGate k.val = 0 ∨ a = true ∧ b = true) : execEncZ k a b d false s =
      .next (((((s.put F.encLastZCount (s.get F.encCount k) k).put F.encZSeen 1 k).put F.encUncertain 0 k).put F.encCount 0 k).raise
        (175 + 4 * k) 1 0 [(32, k.val), (32, s.get F.encCount k)]) := by
  have ref : s.get F.zMode k ≠ 0 ∧ (s.get F.zGate k = 0 ∨ (a = true ∧ b = true)) := ⟨by omega, gate⟩
  exact congrArg Host.Outcome.next ((if_pos ref).trans (if_pos (.inl mode)))

end Sys2Proof.Machine

namespace Sys2Proof.Machine

open Sys2Proof

/-! Capture units (R267 to R269, R320). -/

theorem State.cap_u (s : State) (u : Nat) : (s.cap u).u = u := by
  unfold State.cap
  cases h : s.field.caps.find? (fun c => c.u == u) with
  | none => rfl
  | some x => simpa using List.find?_some h

theorem State.cap_put_self {s : State} {c : CapRt} {u : Nat} (h : c.u = u) : (s.putCap c).cap u = c := by
  subst h
  rw [State.cap, State.putCap, find_replaced_self CapRt.u, Option.getD_some]

theorem State.cap_put_other {s : State} {c : CapRt} {v : Nat} (h : v ≠ c.u) : (s.putCap c).cap v = s.cap v := by
  rw [State.cap, State.putCap, find_replaced_other CapRt.u h, ← State.cap]

/-- A replaced record is the only one that differs. -/
theorem OnlyCap.putCap {s : State} {c : CapRt} {u : Nat} (h : c.u = u) : OnlyCap u s (s.putCap c) :=
  ⟨fun _ other => State.cap_put_other (h.symm ▸ other), rfl⟩

/-- A unit in use sees its events. -/
theorem execCaptureEvent_on {s : State} {u : Fin 10} {a b : Bool} {n : Nat} (on : CapOn u.val s) :
    execCaptureEvent u a b n s = .next (s.capEvent u a b (n / 5 * 5)) := by
  refine congrArg Host.Outcome.next (if_neg ?_)
  rintro ⟨high, other⟩
  obtain low | capture := on
  · omega
  · exact other capture

/-- A time-stamp unit takes each start event. -/
theorem State.capEvent_takes {s : State} {u t : Nat} {b : Bool} (mode : s.capGet F.capMode F.tcapMode u = 1)
    (src : s.capGet F.startSrc F.tcapStartSrc u ≠ 0) : s.capEvent u true b t =
      s.capResult u { time := t, val := if u < 8 then s.get F.encCount (u / 2) else 0 } := by
  simp [State.capEvent, mode, src]

/-- An interval unit with a stop source of its own ends its interval at a stop event. -/
theorem State.capEvent_stops {s : State} {u t : Nat} (mode : s.capGet F.capMode F.tcapMode u = 2)
    (own : s.capGet F.startSrc F.tcapStartSrc u ≠ s.capGet F.stopSrc F.tcapStopSrc u)
    (src : s.capGet F.stopSrc F.tcapStopSrc u ≠ 0) : s.capEvent u false true t =
      match (s.cap u).start with
      | some x => (s.putCap { s.cap u with start := none }).capResult u (capInterval x t)
      | none => s.capInc F.orphanStop F.tcapOrphanStop u := by
  simp [State.capEvent, mode, own, src] <;> rfl

theorem State.capResult_room {s : State} {u : Nat} {r : CapRes} (room : (s.cap u).queue.length < 16) :
    s.capResult u r = s.putCap { s.cap u with queue := (s.cap u).queue ++ [r] } := if_pos room

theorem State.capResult_full {s : State} {u : Nat} {r : CapRes} (full : 16 ≤ (s.cap u).queue.length) :
    s.capResult u r = s.capInc F.capOverrun F.tcapOverrun u := if_neg (Nat.not_lt.2 full)

/-- The fields of the units on the encoders. -/
theorem State.capGet_enc (s : State) (f g : Fld) (u : Fin 8) : s.capGet f g u.val = s.get f u := if_pos u.isLt
theorem State.capInc_enc (s : State) (f g : Fld) (u : Fin 8) : s.capInc f g u.val = s.inc f u := if_pos u.isLt

/-- A pending start that is too old is dropped. -/
theorem execCaptureIntervalTimeout_late {s : State} {u : Fin 10} {x : Nat} (start : (s.cap u.val).start = some x)
    (late : x + 1000000 * s.capGet F.intervalTimeout F.tcapIntervalTimeout u < 5 * s.tick) :
    execCaptureIntervalTimeout u s =
      .next ((s.putCap { s.cap u with start := none }).capInc F.capTimeout F.tcapTimeout u) := by
  unfold execCaptureIntervalTimeout
  dsimp only
  rw [start]
  exact congrArg Host.Outcome.next (if_pos (decide_eq_true late))

theorem execCaptureIntervalTimeout_young {s : State} {u : Fin 10} (young : (s.cap u.val).start = none ∨
    ∃ x, (s.cap u.val).start = some x ∧ 5 * s.tick ≤ x + 1000000 * s.capGet F.intervalTimeout F.tcapIntervalTimeout u.val) :
    execCaptureIntervalTimeout u s = .next s := by
  unfold execCaptureIntervalTimeout
  dsimp only
  obtain none | ⟨x, start, early⟩ := young
  · rw [none]
    rfl
  · rw [start]
    exact congrArg Host.Outcome.next (if_neg (by simp [Nat.not_lt.2 early]))

/-- Settles O43: the tests of each fault, step and event in turn, and what each then writes. -/
theorem analogPortsEncodersAndCaptures : Obligations.AnalogPortsEncodersAndCaptures := by
  unfold Obligations.AnalogPortsEncodersAndCaptures
  refine ⟨fun k x s drives first => ?openLoop, fun k s idle => ?noLoop, fun k v s wired => ?miswire, fun k v s miswired => ?again,
    fun k s miswired heard runs enabled used read good => ?cleared, fun k s wired => ?notMiswired,
    fun k ma x s drives closed wired first => ?readback, fun k ma s before => ?readBefore, fun k s => ?headroom,
    fun k a b c d s legal => ?step, fun k a b s quadrature => ?illegalStep, fun k s quadrature => ?illegal,
    fun k s pulse => ?noIllegal, fun k a b d s mode gate => ?reference, fun k a b d i s mode => ?noReference,
    fun k l s line => ?line, fun k l s other => ?noLine, fun k v s => ⟨_, rfl, rfl⟩, fun u b n s on mode src room => ?result,
    fun u x n s on mode own src start room => ?interval, fun u b n s mode src full => ?overrun,
    fun u n s mode own src start => ?orphan, fun u a b n s off => ?unitOff, fun u x s start late => ?timeout,
    fun u s young => ⟨s, execCaptureIntervalTimeout_young young, rfl⟩⟩
  case openLoop =>
    have writes : Writes [F.aoOpenLoop] s ((s.put F.aoOpenLoop 1 k).putAo { s.ao k with back := 0 }) := .putAo (.put .refl (by decide))
    refine ⟨_, execAoOpenLoop_opens drives first, (State.get_raise_apart rfl).trans (State.get_put_self ..), ?_,
      writes.raisedTwo (l := [(8, k.val), (32, x)]) rfl rfl (by simp) (by simp) (by simp),
      .raise (.putAo (.put .refl (by simp))) (by simp), rfl⟩
    exact (State.ao_same (State.raise_field ..) _).trans (State.ao_put_self (by exact s.ao_k k))
  case noLoop => exact ⟨s, congrArg Host.Outcome.next (if_pos (by simp [idle])), rfl⟩
  case miswire =>
    have writes : Writes [F.aoMiswire, F.aoFailing] s
        (((s.put F.aoMiswire 1 k).put F.aoFailing 0 k).putAo { s.ao k with target := none }) :=
      .putAo (.put (.put .refl (by decide)) (by decide))
    refine ⟨_, congrArg Host.Outcome.next (if_neg (by simp [wired])), ?_, ?_, ?_, writes.raised rfl rfl (by simp),
      .raise (.putAo (.put (.put .refl (by simp)) (by simp))) (by simp), rfl⟩
    · exact (State.get_raise_apart rfl).trans ((State.get_put_apart rfl).trans (State.get_put_self ..))
    · exact (State.get_raise_apart rfl).trans (State.get_put_self ..)
    · exact (State.ao_same (State.raise_field ..) _).trans (State.ao_put_self (by exact s.ao_k k))
  case again => exact ⟨s, congrArg Host.Outcome.next (if_pos miswired), rfl⟩
  case cleared =>
    refine ⟨_, execAoMiswireClear_drives miswired heard runs enabled used read good, ?_, State.get_put_self .., ?_,
      .put (.putAo (.put .refl (by simp))) (by simp), rfl⟩
    · exact (State.get_put_apart rfl).trans (State.get_put_self ..)
    · exact (State.ao_same (State.put_field ..) _).trans (State.ao_put_self (by exact s.ao_k k))
  case notMiswired => exact ⟨s, congrArg Host.Outcome.next (if_pos (by simp [wired])), rfl⟩
  case readback =>
    have writes : Writes [F.aoReadback, F.aoReadbackFault, F.aoFailing] s
        ((((s.put F.aoReadback ma k).put F.aoReadbackFault 1 k).put F.aoFailing 1 k).putAo
          { s.ao k with target := some (s.aoFail k) }) := .putAo (.put (.put (.put .refl (by decide)) (by decide)) (by decide))
    refine ⟨_, execAoReadback_fails drives closed wired first, ?_, ?_, ?_, ?_,
      writes.raisedTwo (l := [(8, k.val), (32, x)]) rfl rfl (by simp) (by simp) (by simp), rfl⟩
    · exact (State.get_raise_apart rfl).trans ((State.get_put_apart rfl).trans (State.get_put_self ..))
    · exact (State.get_raise_apart rfl).trans (State.get_put_self ..)
    · exact (State.get_raise_apart rfl).trans ((State.get_put_apart rfl).trans ((State.get_put_apart rfl).trans
        (State.get_put_self ..)))
    · exact (State.ao_same (State.raise_field ..) _).trans (State.ao_put_self (by exact s.ao_k k))
  case readBefore => exact ⟨s, congrArg Host.Outcome.next (if_pos (.inr (.inr (.inr before)))), rfl⟩
  case headroom =>
    by_cases sink : s.get F.aoMode k.val = 2
    · exact ⟨_, congrArg Host.Outcome.next (if_pos sink), (State.get_put_self ..).trans (if_pos sink).symm, .put .refl (by simp), rfl⟩
    · exact ⟨_, congrArg Host.Outcome.next (if_neg sink), (if_neg sink).symm, .refl, rfl⟩
  case step =>
    have moves : ¬(s.get F.encMode k.val ≤ 2 ∧ a ≠ c ∧ b ≠ d) := by
      rintro ⟨low, ac, bd⟩
      obtain high | same | same := legal
      · omega
      · exact ac same
      · exact bd same
    exact ⟨_, congrArg Host.Outcome.next (if_neg moves), s.get_encMove _ _, .encMove .refl (by simp), rfl⟩
  case illegalStep =>
    obtain ⟨uncertain, count, -, raised, regs, parts⟩ := s.encIllegal_spec k
    have both : s.get F.encMode k.val ≤ 2 ∧ a ≠ !a ∧ b ≠ !b := ⟨quadrature, by simp, by simp⟩
    exact ⟨_, congrArg Host.Outcome.next (if_pos both), uncertain, count, raised, regs, parts⟩
  case illegal =>
    obtain ⟨uncertain, -, stands, raised, regs, parts⟩ := s.encIllegal_spec k
    exact ⟨_, congrArg Host.Outcome.next (if_pos quadrature), uncertain, stands, raised, regs, parts⟩
  case noIllegal => exact ⟨s, congrArg Host.Outcome.next (if_neg (Nat.not_le.2 pulse)), rfl⟩
  case reference =>
    have writes : Writes [F.encLastZCount, F.encZSeen, F.encUncertain, F.encCount] s
        ((((s.put F.encLastZCount (s.get F.encCount k) k).put F.encZSeen 1 k).put F.encUncertain 0 k).put F.encCount 0 k) :=
      .put (.put (.put (.put .refl (by decide)) (by decide)) (by decide)) (by decide)
    refine ⟨_, execEncZ_resets mode gate, ?_, ?_, ?_, ?_, writes.raised rfl rfl (by simp),
      .raise (.put (.put (.put (.put .refl (by simp)) (by simp)) (by simp)) (by simp)) (by simp), rfl⟩
    · exact (State.get_raise_apart rfl).trans (State.get_put_self ..)
    · exact (State.get_raise_apart rfl).trans ((State.get_put_apart rfl).trans ((State.get_put_apart rfl).trans
        ((State.get_put_apart rfl).trans (State.get_put_self ..))))
    · exact (State.get_raise_apart rfl).trans ((State.get_put_apart rfl).trans ((State.get_put_apart rfl).trans
        (State.get_put_self ..)))
    · exact (State.get_raise_apart rfl).trans ((State.get_put_apart rfl).trans (State.get_put_self ..))
  case noReference =>
    exact ⟨_, congrArg Host.Outcome.next (if_neg (mt And.left (not_not.2 mode))), s.get_encMove _ _, .encMove .refl (by simp), rfl⟩
  case line =>
    have writes : Writes [F.encLineFault] s (s.put F.encLineFault 1 k) := .put .refl (by decide)
    exact ⟨_, congrArg Host.Outcome.next (if_pos line), (State.get_raise_apart rfl).trans (State.get_put_self ..),
      writes.raised rfl rfl (by simp), .raise (.put .refl (by simp)) (by simp), rfl⟩
  case noLine => exact ⟨s, congrArg Host.Outcome.next (if_neg other), rfl⟩
  case result =>
    have unit : ({ s.cap u.val with queue := (s.cap u.val).queue ++
        [{ time := n / 5 * 5, val := if u.val < 8 then s.get F.encCount (u.val / 2) else 0 }] } : CapRt).u = u.val := s.cap_u u
    exact ⟨_, (execCaptureEvent_on on).trans (congrArg _ ((State.capEvent_takes mode src).trans (State.capResult_room room))),
      State.cap_put_self unit, .putCap unit⟩
  case interval =>
    have unit : ({ s.cap u.val with start := none } : CapRt).u = u.val := s.cap_u u
    have stopped : s.capEvent u false true (n / 5 * 5) =
        (s.putCap { s.cap u with start := none }).capResult u (capInterval x (n / 5 * 5)) := by
      rw [State.capEvent_stops mode own src, start]
    have found : (s.putCap { s.cap u with start := none }).cap u = { s.cap u with start := none } := State.cap_put_self unit
    have entered := State.capResult_room (s := s.putCap { s.cap u with start := none }) (u := u.val)
      (r := capInterval x (n / 5 * 5)) (by rw [found]; exact room)
    rw [found] at entered
    refine ⟨_, (execCaptureEvent_on on).trans (congrArg _ (stopped.trans entered)), State.cap_put_self unit, fun v other => ?_, rfl⟩
    exact (State.cap_put_other (by exact unit.symm ▸ other)).trans (State.cap_put_other (by exact unit.symm ▸ other))
  case overrun =>
    have counted : s.capEvent u true b (n / 5 * 5) = s.inc F.capOverrun u := by
      rw [State.capEvent_takes (by rw [State.capGet_enc]; exact mode) (by rw [State.capGet_enc]; exact src),
        State.capResult_full full, State.capInc_enc]
    exact ⟨_, (execCaptureEvent_on (.inl u.isLt)).trans (congrArg _ counted), State.get_inc_self .., .inc .refl (by simp), rfl⟩
  case orphan =>
    have counted : s.capEvent u false true (n / 5 * 5) = s.inc F.orphanStop u := by
      rw [State.capEvent_stops (by rw [State.capGet_enc]; exact mode) (by rw [State.capGet_enc, State.capGet_enc]; exact own)
        (by rw [State.capGet_enc]; exact src), start, State.capInc_enc]
    exact ⟨_, (execCaptureEvent_on (.inl u.isLt)).trans (congrArg _ counted), State.get_inc_self .., .inc .refl (by simp), rfl⟩
  case unitOff =>
    have nothing : s.capEvent u a b (n / 5 * 5) = s := if_pos off
    exact ⟨s, congrArg Host.Outcome.next (ite_eq_left_iff.2 fun _ => nothing), rfl⟩
  case timeout =>
    have unit : ({ s.cap u.val with start := none } : CapRt).u = u.val := s.cap_u u
    refine ⟨_, (execCaptureIntervalTimeout_late start (by rw [State.capGet_enc]; exact late)).trans
      (congrArg _ (State.capInc_enc ..)), State.cap_put_self unit, State.get_inc_self .., .inc (.regs .refl rfl) (by simp), rfl⟩

end Sys2Proof.Machine

namespace Sys2Proof.Machine

open Sys2Proof

/-! Events that bear the stamp of the state they lead to. -/

/-- Raising an event does not change the stamp of the next one. -/
theorem eventOf_raise (s : State) (src code sev src' code' sev' : Nat) (d d' : List (Nat × Nat)) :
    eventOf (s.raise src' code' sev' d') src code sev d = eventOf s src code sev d :=
  (Writes.refl.raise (ws := [F.raised]) (by decide)).eventOf rfl

theorem RaisedLast.raiseOwn {s t : State} {src code sev : Nat} {d : List (Nat × Nat)} (h : s.ev.router <+: t.ev.router)
    (fits : (d.map Prod.fst).sum ≤ 64) : RaisedLast [eventOf (t.raise src code sev d) src code sev d] s (t.raise src code sev d) := by
  obtain ⟨es, hes⟩ := h
  refine ⟨es, ?_⟩
  rw [State.raise_router, mkRecs_one _ _ _ _ _ fits, eventOf_raise, ← hes, List.append_assoc]

/-! The servo (R26, R27, R312, R313). -/

/-- The fields that PORT_STATE of the ports writes. -/
def portFields : List Fld := [F.portState, F.raised]

theorem Writes.onTime {ws : List Fld} {s t : State} {f : TimeSt → TimeSt} (h : Writes ws s t) : Writes ws s (t.onTime f) :=
  h.upd rfl rfl rfl rfl

theorem Writes.showPort {s : State} {k : Nat} : Writes portFields s (s.showPort k) :=
  .ite (fun _ => .refl) fun _ => .raise (.put .refl (by decide)) (by decide)

theorem Writes.showPorts {s : State} : Writes portFields s s.showPorts := by
  rw [State.showPorts_eq]
  exact .foldl .refl fun _ _ => .showPort

/-- The fields that a new ALIGN writes. -/
def alignFields : List Fld := [F.align, F.timeLocked, F.edgeOffset] ++ portFields

/-- ALIGN and what follows it, before the ports show it. -/
def State.alignAs (s : State) (a : Nat) : State :=
  ((s.put F.align a).putFlag F.timeLocked (a == 2 || (a == 3 && !boundOver s.sinceSync))).put F.edgeOffset
    (if a = 0 then 0x7FFFFFFF else ofSigned 32 s.beat.stepOffset)

theorem State.setAlign_eq (s : State) (a : Nat) : s.setAlign a = (s.alignAs a).showPorts := rfl

theorem Writes.setAlign {s : State} {a : Nat} : Writes alignFields s (s.setAlign a) := by
  rw [State.setAlign_eq]
  exact (Writes.put (.putFlag (.put .refl (by decide)) (by decide)) (by decide)).trans (Writes.showPorts.mono (by decide))

theorem State.setAlign_time (s : State) (a : Nat) : (s.setAlign a).time = s.time := by
  rw [State.setAlign_eq, State.showPorts_time]
  rfl

theorem State.setAlign_beat (s : State) (a : Nat) : (s.setAlign a).beat = s.beat := by
  rw [State.setAlign_eq, State.showPorts_parts]
  rfl

theorem State.setAlign_mem (s : State) (a : Nat) : (s.setAlign a).mem = s.mem := by
  rw [State.setAlign_eq, State.showPorts_parts]
  rfl

theorem State.get_setAlign (s : State) {a : Nat} (h : a < 4) : (s.setAlign a).get F.align = a := by
  rw [State.setAlign_eq, Writes.showPorts.get rfl, State.alignAs, State.get_put_apart rfl]
  exact (State.get_put_apart rfl).trans (State.get_put_fits h)

theorem State.get_setAlign_locked (s : State) (a : Nat) : (s.setAlign a).get F.timeLocked =
    if (a == 2 || (a == 3 && !boundOver s.sinceSync)) = true then 1 else 0 := by
  rw [State.setAlign_eq, Writes.showPorts.get rfl, State.alignAs, State.get_put_apart rfl]
  exact State.get_put_fits (by split <;> decide)

/-- The fields that the classification of an offset writes. -/
def classFields : List Fld := [F.holdoverBound, F.holdoverTime, F.stepPending] ++ alignFields

/-- The offset stands, and what was removed since. -/
def State.offsetFound (s : State) (off : Int) : State :=
  ({ s with beat := { s.beat with stepOffset := off } }).onTime fun t => { t with removed := absI off, off50 := 0 }

/-- Holdover is over; a step may be pending. -/
def State.holdoverEnds (s : State) (step : Nat) : State :=
  ((s.put F.holdoverBound 0).put F.holdoverTime 0).put F.stepPending step

theorem State.becomeAligned_eq (s : State) : s.becomeAligned =
    (((s.holdoverEnds 0).setAlign 2).raise 313 1 0 [(32, ((s.holdoverEnds 0).setAlign 2).now),
      (32, ((s.holdoverEnds 0).setAlign 2).time.removed)]).onTime fun t => { t with off50 := 0, removed := 0 } := by
  unfold State.becomeAligned State.holdoverEnds
  rfl

theorem State.classify_eq (s : State) (off : Int) : s.classify off =
    if absI off ≤ 50 then (s.offsetFound off).becomeAligned
    else if absI off ≤ 10000000 then ((s.offsetFound off).holdoverEnds 0).setAlign 1
    else ((s.offsetFound off).holdoverEnds 1).setAlign 0 := rfl

theorem Writes.offsetFound {ws : List Fld} {s : State} {off : Int} : Writes ws s (s.offsetFound off) :=
  .upd .refl rfl rfl rfl rfl

theorem Writes.holdoverEnds {s : State} {n : Nat} : Writes [F.holdoverBound, F.holdoverTime, F.stepPending] s (s.holdoverEnds n) :=
  .put (.put (.put .refl (by decide)) (by decide)) (by decide)

/-- The offset is classified into the state that ALIGN then shows. -/
theorem Writes.aligns {s : State} {off : Int} {n a : Nat} : Writes classFields s (((s.offsetFound off).holdoverEnds n).setAlign a) :=
  Writes.offsetFound.trans ((Writes.holdoverEnds.mono (by decide)).trans (Writes.setAlign.mono (by decide)))

theorem Writes.classify {s : State} {off : Int} : Writes classFields s (s.classify off) := by
  rw [State.classify_eq, State.becomeAligned_eq]
  exact .ite (fun _ => .onTime (.raise .aligns (by decide))) fun _ => .ite (fun _ => .aligns) fun _ => .aligns

end Sys2Proof.Machine

namespace Sys2Proof.Machine

open Sys2Proof

/-! The classification of an offset (R312). -/

theorem State.alignsTime (s : State) (off : Int) (n a : Nat) :
    (((s.offsetFound off).holdoverEnds n).setAlign a).time = { s.time with removed := absI off, off50 := 0 } := by
  rw [State.setAlign_time]
  rfl

theorem State.alignsBeat (s : State) (off : Int) (n a : Nat) :
    (((s.offsetFound off).holdoverEnds n).setAlign a).beat = { s.beat with stepOffset := off } := by
  rw [State.setAlign_beat]
  rfl

theorem State.alignsMem (s : State) (off : Int) (n a : Nat) : (((s.offsetFound off).holdoverEnds n).setAlign a).mem = s.mem := by
  rw [State.setAlign_mem]
  rfl

/-- STEP_PENDING behind a classification. -/
theorem State.get_aligns_step (s : State) (off : Int) {n a : Nat} (h : n < 2) :
    (((s.offsetFound off).holdoverEnds n).setAlign a).get F.stepPending = n := by
  rw [Writes.setAlign.get rfl]
  exact State.get_put_fits h

/-- At most 50 ns: ALIGNED, with the offset in TIME_ALIGNED. -/
theorem State.classify_aligned {s : State} {off : Int} (small : absI off ≤ 50) : s.classify off =
    ((((s.offsetFound off).holdoverEnds 0).setAlign 2).raise 313 1 0 [(32, s.now), (32, absI off)]).onTime
      fun t => { t with off50 := 0, removed := 0 } := by
  have now : (((s.offsetFound off).holdoverEnds 0).setAlign 2).now = s.now := (Writes.aligns (s := s)).get rfl
  rw [State.classify_eq, if_pos small, State.becomeAligned_eq, now, State.alignsTime]

theorem State.classify_slewing {s : State} {off : Int} (over50 : 50 < absI off) (small : absI off ≤ 10000000) :
    s.classify off = ((s.offsetFound off).holdoverEnds 0).setAlign 1 := by
  rw [State.classify_eq, if_neg (by omega), if_pos small]

theorem State.classify_free {s : State} {off : Int} (large : 10000000 < absI off) :
    s.classify off = ((s.offsetFound off).holdoverEnds 1).setAlign 0 := by
  rw [State.classify_eq, if_neg (by omega), if_neg (by omega)]

theorem State.get_onTime (s : State) (f : TimeSt → TimeSt) (g : Fld) (k : Nat) : (s.onTime f).get g k = s.get g k := rfl

/-- An event of two words of 32 bits stays the last one, with its own stamp, behind a change of the servo's memory. -/
theorem RaisedLast.ownBehind {s t : State} {src code sev a b : Nat} {f : TimeSt → TimeSt} (h : s.ev.router <+: t.ev.router) :
    RaisedLast [eventOf ((t.raise src code sev [(32, a), (32, b)]).onTime f) src code sev [(32, a), (32, b)]] s
      ((t.raise src code sev [(32, a), (32, b)]).onTime f) :=
  RaisedLast.of_router (RaisedLast.raiseOwn h (by simp)) rfl

/-- What a classification makes of ALIGN, TIME_LOCKED and STEP_PENDING. -/
theorem State.classify_spec (s : State) (off : Int) :
    (absI off ≤ 50 → (s.classify off).get F.align = 2 ∧ (s.classify off).get F.timeLocked = 1 ∧
      RaisedLast [eventOf (s.classify off) 313 1 0 [(32, s.now), (32, absI off)]] s (s.classify off)) ∧
    (50 < absI off → absI off ≤ 10000000 → (s.classify off).get F.align = 1 ∧ (s.classify off).get F.timeLocked = 0 ∧
      (s.classify off).get F.stepPending = 0 ∧ (s.classify off).beat.stepOffset = off ∧ (s.classify off).mem = s.mem) ∧
    (10000000 < absI off → (s.classify off).get F.align = 0 ∧ (s.classify off).get F.timeLocked = 0 ∧
      (s.classify off).get F.stepPending = 1) := by
  refine ⟨fun small => ?_, fun over50 small => ?_, fun large => ?_⟩
  · rw [State.classify_aligned small, State.get_onTime, State.get_onTime]
    exact ⟨(State.get_raise_apart rfl).trans (State.get_setAlign _ (by decide)),
      (State.get_raise_apart rfl).trans ((State.get_setAlign_locked ..).trans (if_pos rfl)), RaisedLast.ownBehind Writes.aligns.router⟩
  · rw [State.classify_slewing over50 small]
    refine ⟨State.get_setAlign _ (by decide), (State.get_setAlign_locked ..).trans (if_neg (by simp)),
      State.get_aligns_step _ _ (by decide), ?_, State.alignsMem ..⟩
    rw [State.alignsBeat]
  · rw [State.classify_free large]
    exact ⟨State.get_setAlign _ (by decide), (State.get_setAlign_locked ..).trans (if_neg (by simp)),
      State.get_aligns_step _ _ (by decide)⟩

/-- The servo's memory behind a classification: all but the offset's own course. -/
theorem State.classify_time (s : State) (off : Int) :
    (s.classify off).time.count = s.time.count ∧ (s.classify off).time.lastSync = s.time.lastSync := by
  rw [State.classify_eq, State.becomeAligned_eq]
  split
  · simp only [State.onTime, State.raise_time, State.alignsTime, and_self]
  · split <;> simp only [State.alignsTime, and_self]

/-! A Sync of the selected grandmaster (R306, R312). -/

/-- The Sync is counted, and OWN_OFFSET shows it. -/
def State.syncNoted (s : State) (off : Int) : State := s.countSync.put F.ownOffset (ofSigned 32 off)

theorem State.countSync_parts (s : State) : s.countSync = { s with time := s.countSync.time } := rfl

/-- A qualified grandmaster stays so. -/
theorem State.syncNoted_qualified {s : State} (off : Int) (first : s.time.firstSync = true) (measured : s.time.measured = true)
    (qualified : 8 ≤ s.time.count) : (s.syncNoted off).time =
      { s.time with firstSync := true, count := 8, lastRx := s.beat.opBeats } := by
  simp [State.syncNoted, State.countSync, State.onTime, first, measured, qualified]

/-- The eighth Sync in time qualifies it. -/
theorem State.syncNoted_eighth {s : State} (off : Int) (first : s.time.firstSync = true) (measured : s.time.measured = true)
    (seven : s.time.count = 7) (soon : 2 * (s.beat.opBeats - s.time.lastRx) ≤ 3 * s.syncBeats) :
    (s.syncNoted off).time = { s.time with firstSync := true, count := 8, lastRx := s.beat.opBeats } := by
  simp [State.syncNoted, State.countSync, State.onTime, first, measured, seven, Nat.not_lt.2 soon]

theorem Writes.syncNoted {s : State} {off : Int} : Writes [F.ownOffset] s (s.syncNoted off) := .put (.upd .refl rfl rfl rfl rfl) (by decide)

/-- The servo's own rate, a free value. -/
def State.steers (s : State) : State := (s.fresh 32).2.put F.rate (s.fresh 32).1

theorem Writes.steers {s : State} : Writes [F.rate] s s.steers := .put (.upd .refl rfl rfl rfl rfl) (by decide)

/-- GM_PRESENT with the qualification of the grandmaster. -/
def State.qualifies (s : State) : State := (s.put F.gmPresent 1).showPorts

theorem Writes.qualifies {s : State} : Writes (F.gmPresent :: portFields) s s.qualifies :=
  (Writes.put .refl (by decide)).trans (Writes.showPorts.mono (by decide))

theorem State.qualifies_time (s : State) : s.qualifies.time = s.time := State.showPorts_time _

theorem State.get_qualifies (s : State) : s.qualifies.get F.gmPresent = 1 :=
  (Writes.showPorts.get rfl).trans (State.get_put_self ..)

/-- A module that follows its partner only counts disagreements in a row, and reports the sixteenth. -/
def State.disagrees (s : State) (off : Int) (n : Nat) : State :=
  let u := s.onTime fun t => { t with disagree := n }
  if n = 16 then u.raise 316 1 2 [(32, ofSigned 32 off)] else u

/-- An offset while ALIGNED; `n` in a row were over 50 ns. -/
def State.tracks (s : State) (off : Int) (n : Nat) : State :=
  let u := s.onTime fun t => { t with lastSync := s.beat.opBeats, off50 := n }
  if n ≥ 4 then u.classify off
  else ({ u with beat := { u.beat with stepOffset := off } } : State).put F.edgeOffset (ofSigned 32 off)

/-- The Sync that qualifies the grandmaster: its offset is classified. -/
def State.acquires (s : State) (off : Int) : State :=
  (s.onTime fun t => { t with lastSync := s.beat.opBeats }).classify off

/-- An offset while neither ALIGNED nor newly qualified. -/
def State.returns (s : State) (off : Int) : State :=
  if s.get F.align = 1 then
    let u := s.onTime fun t => { t with lastSync := s.beat.opBeats }
    if absI off ≤ 50 then ({ u with beat := { u.beat with stepOffset := off } } : State).becomeAligned
    else if absI off > 10000000 then u.classify off
    else ({ u with beat := { u.beat with stepOffset := off } } : State).put F.edgeOffset (ofSigned 32 off)
  else s.acquires off

/-- The Sync counted, and the grandmaster qualified with the eighth. -/
def State.syncCounted (s : State) (off : Int) : State :=
  if decide (8 ≤ (s.syncNoted off).time.count) && !decide (8 ≤ s.time.count) then (s.syncNoted off).qualifies else s.syncNoted off

/-- A Sync takes the course of ALIGN and of what the module follows. -/
theorem State.sync_eq (s : State) (off : Int) : s.sync off =
    if (s.syncCounted off).flag F.pairSource then
      (s.syncCounted off).disagrees off (if absI off > 200 then (s.syncCounted off).time.disagree + 1 else 0)
    else if !decide (8 ≤ (s.syncNoted off).time.count) then s.syncCounted off
    else if !decide (8 ≤ s.time.count) then (s.syncCounted off).steers.acquires off
    else if (s.syncCounted off).steers.get F.align = 2 then
      (s.syncCounted off).steers.tracks off (if absI off > 50 then (s.syncCounted off).steers.time.off50 + 1 else 0)
    else (s.syncCounted off).steers.returns off := rfl

theorem State.syncCounted_qualified {s : State} (off : Int) (qualified : 8 ≤ s.time.count) :
    s.syncCounted off = s.syncNoted off := by
  unfold State.syncCounted
  rw [if_neg (by simp [qualified])]

section
variable {s : State} {off : Int} (first : s.time.firstSync = true) (measured : s.time.measured = true)
include first measured

/-- On a module that follows its partner. -/
theorem State.sync_follower (qualified : 8 ≤ s.time.count) (follows : s.get F.pairSource = 1) :
    s.sync off = (s.syncNoted off).disagrees off (if absI off > 200 then s.time.disagree + 1 else 0) := by
  have flag : (s.syncNoted off).flag F.pairSource = true := State.flag_of_one ((Writes.syncNoted.get rfl).trans follows)
  rw [State.sync_eq, State.syncCounted_qualified off qualified, if_pos flag, State.syncNoted_qualified off first measured qualified]

/-- A Sync while ALIGNED: its offset stands, and four in a row over 50 ns are classified. -/
theorem State.sync_aligned (qualified : 8 ≤ s.time.count) (own : s.get F.pairSource = 0) (aligned : s.get F.align = 2) :
    s.sync off = (s.syncNoted off).steers.tracks off (if absI off > 50 then s.time.off50 + 1 else 0) := by
  have leads : (s.syncNoted off).flag F.pairSource = false := State.flag_of_zero ((Writes.syncNoted.get rfl).trans own)
  have align : (s.syncNoted off).steers.get F.align = 2 := (Writes.steers.get rfl).trans ((Writes.syncNoted.get rfl).trans aligned)
  have time := State.syncNoted_qualified off first measured qualified
  have steered : (s.syncNoted off).steers.time = (s.syncNoted off).time := rfl
  rw [State.sync_eq, State.syncCounted_qualified off qualified, if_neg (by simp [leads]), if_neg (by simp [time]),
    if_neg (by simp [qualified]), if_pos align, steered, time]

/-- The eighth Sync in time qualifies the grandmaster. -/
theorem State.sync_eighth (seven : s.time.count = 7) (soon : 2 * (s.beat.opBeats - s.time.lastRx) ≤ 3 * s.syncBeats)
    (own : s.get F.pairSource = 0) : s.sync off = (s.syncNoted off).qualifies.steers.acquires off := by
  have time := State.syncNoted_eighth off first measured seven soon
  have counted : s.syncCounted off = (s.syncNoted off).qualifies := by
    unfold State.syncCounted
    rw [if_pos (by simp [time, seven])]
  have leads : (s.syncNoted off).qualifies.flag F.pairSource = false :=
    State.flag_of_zero ((Writes.qualifies.get rfl).trans ((Writes.syncNoted.get rfl).trans own))
  rw [State.sync_eq, counted, if_neg (by simp [leads]), if_neg (by simp [time]), if_pos (by simp [seven])]

end

/-! The grandmaster (R306 to R308). -/

/-- The grandmaster followed from now on, and the port it is heard on. -/
def State.gmTaken (s : State) (gm port : Nat) : State :=
  ((s.onTime fun t => { t with gm := some gm, firstSync := false, measured := false, count := 0, disagree := 0
                               lastRx := s.beat.opBeats, lastAnn := s.beat.opBeats }).put F.gmIdentity gm).put F.sourcePort port

theorem State.selectGm_eq (s : State) (gm port : Nat) : s.selectGm gm port = (s.gmTaken gm port).showPorts := rfl

theorem Writes.gmTaken {s : State} {gm port : Nat} : Writes [F.gmIdentity, F.sourcePort] s (s.gmTaken gm port) :=
  .put (.put (.onTime .refl) (by decide)) (by decide)

theorem Writes.selectGm {s : State} {gm port : Nat} : Writes ([F.gmIdentity, F.sourcePort] ++ portFields) s (s.selectGm gm port) := by
  rw [State.selectGm_eq]
  exact (Writes.gmTaken.mono (by decide)).trans (Writes.showPorts.mono (by decide))

/-- The registers that a new grandmaster changes. -/
theorem RegsBut.selectGm (s : State) (gm port : Nat) :
    RegsBut ([(F.gmIdentity, 0), (F.sourcePort, 0)] ++ portRegs) s (s.selectGm gm port) := by
  rw [State.selectGm_eq]
  exact (RegsBut.put (RegsBut.put (RegsBut.onTime .refl) (by simp)) (by simp)).trans
    ((RegsBut.showPorts .refl).mono fun _ => List.mem_append_right _)

theorem State.selectGm_time (s : State) (gm port : Nat) : (s.selectGm gm port).time =
    { s.time with gm := some gm, firstSync := false, measured := false, count := 0, disagree := 0
                  lastRx := s.beat.opBeats, lastAnn := s.beat.opBeats } := by
  rw [State.selectGm_eq, State.showPorts_time]
  rfl

theorem State.selectGm_mem (s : State) (gm port : Nat) : (s.selectGm gm port).mem = s.mem := by
  rw [State.selectGm_eq, State.showPorts_parts]
  rfl

theorem State.get_selectGm_identity (s : State) (gm port : Nat) : (s.selectGm gm port).get F.gmIdentity = gm % 2 ^ 64 := by
  rw [State.selectGm_eq, Writes.showPorts.get rfl]
  exact (State.get_put_apart rfl).trans (State.get_put_self ..)

theorem State.get_selectGm_port (s : State) (gm : Nat) (port : Fin 12) : (s.selectGm gm port).get F.sourcePort = port.val := by
  rw [State.selectGm_eq, Writes.showPorts.get rfl]
  exact State.get_put_fits (by have := port.isLt; change _ < 16; omega)

/-- Without a grandmaster, while nothing shows it yet. -/
def State.gmDropped (s : State) : State :=
  (((s.onTime fun t => { t with gm := none, firstSync := false, measured := false, count := 0 }).put F.gmPresent 0).put
    F.gmIdentity 0).put F.sourcePort 15

/-- The bound of the holdover that begins. -/
def State.holdoverBegins (s : State) : State :=
  (s.put F.holdoverBound (boundNs s.sinceSync)).put F.holdoverTime (s.sinceSync / 4)

theorem State.loseGm_eq (s : State) : s.loseGm =
    if s.gmDropped.flag F.pairSource then s.gmDropped.showPorts
    else if s.gmDropped.get F.align = 2 then
      (s.gmDropped.holdoverBegins.setAlign 3).raise 312 1 2 [(32, s.gmDropped.holdoverBegins.now)]
    else if s.gmDropped.get F.align = 1 then s.gmDropped.setAlign 0 else s.gmDropped.showPorts := rfl

/-- The fields that the loss of a grandmaster writes. -/
def lossFields : List Fld :=
  [F.gmPresent, F.gmIdentity, F.sourcePort, F.holdoverBound, F.holdoverTime] ++ alignFields

theorem Writes.gmDropped {s : State} : Writes [F.gmPresent, F.gmIdentity, F.sourcePort] s s.gmDropped :=
  .put (.put (.put (.onTime .refl) (by decide)) (by decide)) (by decide)

theorem Writes.holdoverBegins {s : State} : Writes [F.holdoverBound, F.holdoverTime] s s.holdoverBegins :=
  .put (.put .refl (by decide)) (by decide)

/-- ALIGN moves after the loss. -/
theorem Writes.holdsOver {s : State} : Writes lossFields s (s.gmDropped.holdoverBegins.setAlign 3) :=
  (Writes.gmDropped.mono (by decide)).trans ((Writes.holdoverBegins.mono (by decide)).trans (Writes.setAlign.mono (by decide)))

theorem Writes.loseGm {s : State} : Writes lossFields s s.loseGm := by
  have shown : Writes lossFields s s.gmDropped.showPorts := (Writes.gmDropped.mono (by decide)).trans (Writes.showPorts.mono (by decide))
  have freed : Writes lossFields s (s.gmDropped.setAlign 0) := (Writes.gmDropped.mono (by decide)).trans (Writes.setAlign.mono (by decide))
  rw [State.loseGm_eq]
  exact .ite (fun _ => shown) fun _ => .ite (fun _ => .raise .holdsOver (by decide)) fun _ => .ite (fun _ => freed) fun _ => shown

theorem State.loseGm_mem (s : State) : s.loseGm.mem = s.mem := by
  rw [State.loseGm_eq]
  split
  · rw [State.showPorts_parts]; rfl
  split
  · rw [State.raise_mem, State.setAlign_mem]; rfl
  split
  · rw [State.setAlign_mem]; rfl
  · rw [State.showPorts_parts]; rfl

theorem State.loseGm_time (s : State) :
    s.loseGm.time = { s.time with gm := none, firstSync := false, measured := false, count := 0 } := by
  rw [State.loseGm_eq]
  split
  · rw [State.showPorts_time]; rfl
  split
  · rw [State.raise_time, State.setAlign_time]; rfl
  split
  · rw [State.setAlign_time]; rfl
  · rw [State.showPorts_time]; rfl

/-- A fact of a grandmaster's loss that no course of ALIGN changes. -/
theorem State.get_loseGm (s : State) {g : Fld} (off : g.offAll alignFields = true) (off' : g.offAll [F.holdoverBound, F.holdoverTime] = true) (k : Nat) :
    s.loseGm.get g k = s.gmDropped.get g k := by
  have shown : s.gmDropped.showPorts.get g k = s.gmDropped.get g k := Writes.showPorts.mono (by decide) |>.get (ws := alignFields) off
  have freed : (s.gmDropped.setAlign 0).get g k = s.gmDropped.get g k := Writes.setAlign.get off
  have held : (s.gmDropped.holdoverBegins.setAlign 3).get g k = s.gmDropped.get g k := (Writes.setAlign.get off).trans (Writes.holdoverBegins.get off')
  rw [State.loseGm_eq]
  split
  · exact shown
  split
  · exact ((Writes.refl.raise (ws := alignFields) (by decide)).get off).trans held
  split
  · exact freed
  · exact shown

/-- The loss leaves no grandmaster to be read. -/
theorem State.loseGm_shows (s : State) : s.loseGm.get F.gmPresent = 0 ∧ s.loseGm.get F.gmIdentity = 0 ∧ s.loseGm.get F.sourcePort = 15 := by
  rw [State.get_loseGm s rfl rfl, State.get_loseGm s rfl rfl, State.get_loseGm s rfl rfl]
  refine ⟨?_, ?_, ?_⟩
  · exact (State.get_put_apart rfl).trans ((State.get_put_apart rfl).trans (State.get_put_self ..))
  · exact (State.get_put_apart rfl).trans (State.get_put_self ..)
  · exact State.get_put_self ..

section
variable {s : State} (own : s.get F.pairSource = 0)
include own

theorem State.gmDropped_leads : s.gmDropped.flag F.pairSource = false := State.flag_of_zero ((Writes.gmDropped.get rfl).trans own)

/-- ALIGNED becomes HOLDOVER. -/
theorem State.loseGm_aligned (aligned : s.get F.align = 2) :
    s.loseGm = (s.gmDropped.holdoverBegins.setAlign 3).raise 312 1 2 [(32, s.now)] := by
  have align : s.gmDropped.get F.align = 2 := (Writes.gmDropped.get rfl).trans aligned
  have now : s.gmDropped.holdoverBegins.now = s.now := (Writes.holdoverBegins.get rfl).trans (Writes.gmDropped.get rfl)
  rw [State.loseGm_eq, if_neg (by simp [State.gmDropped_leads own]), if_pos align, now]

theorem State.loseGm_holdsOver (aligned : s.get F.align = 2) : s.loseGm.get F.align = 3 := by
  rw [State.loseGm_aligned own aligned, State.get_raise_apart rfl]
  exact State.get_setAlign _ (by decide)

theorem State.loseGm_raises (aligned : s.get F.align = 2) : RaisedLast [eventOf s.loseGm 312 1 2 [(32, s.now)]] s s.loseGm := by
  rw [State.loseGm_aligned own aligned]
  exact RaisedLast.raiseOwn Writes.holdsOver.router (by simp)

/-- SLEWING becomes FREE. -/
theorem State.loseGm_slewing (slewing : s.get F.align = 1) : s.loseGm.get F.align = 0 := by
  have align : s.gmDropped.get F.align = 1 := (Writes.gmDropped.get rfl).trans slewing
  rw [State.loseGm_eq, if_neg (by simp [State.gmDropped_leads own]), if_neg (by simp [align]), if_pos align]
  exact State.get_setAlign _ (by decide)

end

/-- An event of two records. -/
theorem State.raise_router_two {s t : State} {ws : List Fld} {src code sev w v : Nat} {l r : List (Nat × Nat)} (h : Writes ws s t)
    (free : (stampFields.all fun g => g.offAll ws) = true) (first : (l.map Prod.fst).sum ≤ 64)
    (full : 64 < (l.map Prod.fst).sum + w) (second : w + (r.map Prod.fst).sum ≤ 64) :
    (t.raise src code sev (l ++ (w, v) :: r)).ev.router =
      t.ev.router ++ [eventOf s src code sev l, restOf s src code sev ((w, v) :: r)] := by
  rw [State.raise_router, mkRecs_two t src code sev first full second, h.eventOf free, h.eventOf free]
  rfl

/-- The loss of the grandmaster `gm` is raised. -/
def State.gmLostRaised (s : State) (gm cause : Nat) : State :=
  (s.onTime fun t => { t with announces := t.announces.filter (fun a => a.gm != gm) }).raise 311 1 2 [(64, gm), (8, cause)]

theorem Writes.gmLostRaised {s : State} {gm cause : Nat} : Writes [F.raised] s (s.gmLostRaised gm cause) :=
  .raise (.onTime .refl) (by decide)

theorem State.gmLostRaised_router (s : State) (gm cause : Nat) : (s.gmLostRaised gm cause).ev.router =
    s.ev.router ++ [eventOf s 311 1 2 [(64, gm)], restOf s 311 1 2 [(8, cause)]] :=
  State.raise_router_two (l := [(64, gm)]) (ws := []) (.onTime .refl) (by decide) (by simp) (by simp) (by simp)

/-- Another grandmaster is selected: its change and the loss of the old one are raised. -/
def State.gmChangeRaised (s : State) (old gm : Nat) : State :=
  ((s.inc F.gmChanges).raise 310 1 1 [(64, old), (64, gm)]).raise 311 1 2 [(64, old), (8, 3)]

theorem Writes.gmChangeRaised {s : State} {old gm : Nat} : Writes [F.gmChanges, F.raised] s (s.gmChangeRaised old gm) :=
  .raise (.raise (.inc .refl (by decide)) (by decide)) (by decide)

theorem State.gmChangeRaised_router (s : State) (old gm : Nat) : (s.gmChangeRaised old gm).ev.router =
    s.ev.router ++ [eventOf s 310 1 1 [(64, old)], restOf s 310 1 1 [(64, gm)], eventOf s 311 1 2 [(64, old)],
      restOf s 311 1 2 [(8, 3)]] := by
  have counted : Writes [F.gmChanges, F.raised] s (s.inc F.gmChanges) := .inc .refl (by decide)
  have changed : Writes [F.gmChanges, F.raised] s ((s.inc F.gmChanges).raise 310 1 1 [(64, old), (64, gm)]) :=
    counted.raise (by decide)
  unfold State.gmChangeRaised
  have first := State.raise_router_two (src := 310) (code := 1) (sev := 1) (l := [(64, old)]) (w := 64) (v := gm) (r := []) counted
    (by decide) (by simp) (by simp) (by simp)
  have second := State.raise_router_two (src := 311) (code := 1) (sev := 2) (l := [(64, old)]) (w := 8) (v := 3) (r := []) changed
    (by decide) (by simp) (by simp) (by simp)
  refine second.trans ((congrArg (· ++ _) first).trans ?_)
  simp only [List.append_assoc, List.cons_append, List.nil_append]
  rfl

/-! The end of TIME_LOCKED in HOLDOVER (R313). -/

/-- TIME_LOCKED drops with the bound. -/
def State.unlocked (s : State) : State :=
  ((s.put F.timeLocked 0).put F.holdoverBound (boundNs s.sinceSync)).showPorts

theorem Writes.unlocked {s : State} : Writes ([F.timeLocked, F.holdoverBound] ++ portFields) s s.unlocked :=
  (Writes.put (.put .refl (by decide)) (by decide)).trans (Writes.showPorts.mono (by decide))

theorem State.lockLost_holdover {s : State} (held : s.get F.align = 3) (locked : s.get F.timeLocked = 1) :
    s.lockLost = s.unlocked.raise 314 1 2 [(32, s.now), (32, boundNs s.sinceSync)] := by
  have now : s.unlocked.now = s.now := Writes.unlocked.get rfl
  unfold State.lockLost
  rw [if_pos ⟨held, State.flag_of_one locked⟩, ← now]
  rfl

end Sys2Proof.Machine

namespace Sys2Proof.Machine

open Sys2Proof

/-! O45, by the course of ALIGN. -/

/-- A Sync that the module takes for its own. -/
theorem does_sync {k : Fin 12} {g : Nat} {raw : Int} {s : State} {P : State → Prop} (gm : s.time.gm = some g)
    (source : s.isSource k.val = true) (h : P (s.sync (s.syncOffset k.val raw))) :
    Does (.ptpSyncReceive k g raw (s.get F.ptpDomain)) s P :=
  ⟨_, congrArg Host.Outcome.next (if_pos ⟨rfl, gm, source⟩), h⟩

/-- A Sync has been taken while ALIGNED. -/
def State.offsetTaken (s : State) (n : Nat) : State := s.onTime fun t => { t with lastSync := s.beat.opBeats, off50 := n }

theorem State.tracks_eq (s : State) (off : Int) (n : Nat) : s.tracks off n =
    if n ≥ 4 then (s.offsetTaken n).classify off
    else ({ s.offsetTaken n with beat := { s.beat with stepOffset := off } } : State).put F.edgeOffset (ofSigned 32 off) := rfl

theorem State.steers_time (s : State) : s.steers.time = s.time := rfl

/-- What was raised last behind a state that has itself raised more. -/
theorem RaisedLast.behind {es : List EvRec} {s t u : State} (h : RaisedLast es t u) (p : s.ev.router <+: t.ev.router) :
    RaisedLast es s u := by
  obtain ⟨l, hl⟩ := h
  obtain ⟨m, hm⟩ := p
  exact ⟨m ++ l, by rw [hl, ← hm, List.append_assoc, List.append_assoc]⟩

section
variable {s : State} {off : Int}

/-- A small offset while ALIGNED. -/
theorem State.sync_small (first : s.time.firstSync = true) (measured : s.time.measured = true) (qualified : 8 ≤ s.time.count)
    (own : s.get F.pairSource = 0) (aligned : s.get F.align = 2) (small : absI off ≤ 50) : (s.sync off).get F.align = 2 ∧
      (s.sync off).get F.ownOffset = ofSigned 32 off % 2 ^ 32 ∧ (s.sync off).get F.edgeOffset = ofSigned 32 off % 2 ^ 32 ∧
      (s.sync off).time.lastSync = s.beat.opBeats ∧ (s.sync off).time.off50 = 0 ∧
      RegsBut [(F.ownOffset, 0), (F.edgeOffset, 0), (F.rate, 0)] s (s.sync off) ∧
      s.sync off = { s with regs := (s.sync off).regs, time := (s.sync off).time, free := s.free + 1,
                            beat := { s.beat with stepOffset := off } } := by
  have noted : RegsBut [(F.ownOffset, 0), (F.edgeOffset, 0), (F.rate, 0)] s (s.syncNoted off) :=
    .put (.onTime .refl) (by simp)
  have steered : RegsBut [(F.ownOffset, 0), (F.edgeOffset, 0), (F.rate, 0)] s (s.syncNoted off).steers :=
    .put (noted.trans (.regs .refl rfl)) (by simp)
  rw [State.sync_aligned first measured qualified own aligned, if_neg (by omega), State.tracks_eq, if_neg (by decide)]
  refine ⟨?_, ?_, State.get_put_self .., rfl, rfl, .put (steered.trans (.regs .refl rfl)) (by simp), rfl⟩
  · exact (State.get_put_apart rfl).trans ((Writes.steers.get rfl).trans ((Writes.syncNoted.get rfl).trans aligned))
  · exact (State.get_put_apart rfl).trans ((Writes.steers.get rfl).trans (State.get_put_self ..))

/-- The fourth offset in a row over 50 ns while ALIGNED. -/
theorem State.sync_slips (first : s.time.firstSync = true) (measured : s.time.measured = true) (qualified : 8 ≤ s.time.count)
    (own : s.get F.pairSource = 0) (aligned : s.get F.align = 2) (over50 : 50 < absI off) (small : absI off ≤ 10000000)
    (four : s.time.off50 = 3) : (s.sync off).get F.align = 1 ∧ (s.sync off).get F.timeLocked = 0 ∧
      (s.sync off).get F.stepPending = 0 ∧ (s.sync off).beat.stepOffset = off ∧ (s.sync off).mem = s.mem := by
  obtain ⟨-, slewing, -⟩ := ((s.syncNoted off).steers.offsetTaken 4).classify_spec off
  rw [State.sync_aligned first measured qualified own aligned, if_pos over50, four, State.tracks_eq, if_pos (by decide)]
  exact slewing over50 small

/-- A Sync acquired: the servo's memory and the fields apart from the classification. -/
theorem State.acquires_keeps (s : State) (off : Int) : (s.acquires off).time.count = s.time.count ∧
    (s.acquires off).time.lastSync = s.beat.opBeats ∧ (s.acquires off).get F.gmPresent = s.get F.gmPresent := by
  obtain ⟨count, last⟩ := (s.onTime fun t => { t with lastSync := s.beat.opBeats }).classify_time off
  exact ⟨count, last, Writes.classify.get rfl⟩

/-- What an acquired Sync makes of ALIGN, TIME_LOCKED and STEP_PENDING. -/
theorem State.acquires_spec (s : State) (off : Int) :
    (absI off ≤ 50 → (s.acquires off).get F.align = 2 ∧ (s.acquires off).get F.timeLocked = 1 ∧
      RaisedLast [eventOf (s.acquires off) 313 1 0 [(32, s.now), (32, absI off)]] s (s.acquires off)) ∧
    (50 < absI off → absI off ≤ 10000000 → (s.acquires off).get F.align = 1 ∧ (s.acquires off).get F.timeLocked = 0) ∧
    (10000000 < absI off → (s.acquires off).get F.align = 0 ∧ (s.acquires off).get F.timeLocked = 0 ∧
      (s.acquires off).get F.stepPending = 1) := by
  unfold State.acquires
  have kept : s.ev.router <+: (s.onTime fun t => { t with lastSync := s.beat.opBeats }).ev.router := List.prefix_rfl
  have now : (s.onTime fun t => { t with lastSync := s.beat.opBeats }).now = s.now := rfl
  generalize (s.onTime fun t => { t with lastSync := s.beat.opBeats }) = u at kept now
  obtain ⟨small, slewing, free⟩ := u.classify_spec off
  refine ⟨fun h => ?_, fun a b => ?_, free⟩
  · obtain ⟨align, locked, raised⟩ := small h
    rw [now] at raised
    exact ⟨align, locked, raised.behind kept⟩
  · obtain ⟨align, locked, -⟩ := slewing a b
    exact ⟨align, locked⟩

/-- The eighth Sync in time. -/
theorem State.sync_qualifies (first : s.time.firstSync = true) (measured : s.time.measured = true) (seven : s.time.count = 7)
    (soon : 2 * (s.beat.opBeats - s.time.lastRx) ≤ 3 * s.syncBeats) (own : s.get F.pairSource = 0) :
    (s.sync off).get F.gmPresent = 1 ∧ (s.sync off).time.count = 8 ∧ (s.sync off).time.lastSync = s.beat.opBeats ∧
      (absI off ≤ 50 → (s.sync off).get F.align = 2 ∧ (s.sync off).get F.timeLocked = 1 ∧
        RaisedLast [eventOf (s.sync off) 313 1 0 [(32, s.now), (32, absI off)]] s (s.sync off)) ∧
      (50 < absI off → absI off ≤ 10000000 → (s.sync off).get F.align = 1 ∧ (s.sync off).get F.timeLocked = 0) ∧
      (10000000 < absI off → (s.sync off).get F.align = 0 ∧ (s.sync off).get F.timeLocked = 0 ∧
        (s.sync off).get F.stepPending = 1) := by
  have before : Writes (F.ownOffset :: F.rate :: F.gmPresent :: portFields) s (s.syncNoted off).qualifies.steers :=
    (Writes.syncNoted.mono (by decide)).trans ((Writes.qualifies.mono (by decide)).trans (Writes.steers.mono (by decide)))
  have now : (s.syncNoted off).qualifies.steers.now = s.now := before.get rfl
  have ops : (s.syncNoted off).qualifies.steers.beat.opBeats = s.beat.opBeats := before.op
  have count : (s.syncNoted off).qualifies.steers.time.count = 8 := by
    rw [State.steers_time, State.qualifies_time, State.syncNoted_eighth off first measured seven soon]
  have present : (s.syncNoted off).qualifies.steers.get F.gmPresent = 1 := (Writes.steers.get rfl).trans (State.get_qualifies _)
  rw [State.sync_eighth first measured seven soon own]
  generalize (s.syncNoted off).qualifies.steers = u at before now ops count present
  obtain ⟨counted, last, shown⟩ := u.acquires_keeps off
  obtain ⟨small, slewing, free⟩ := u.acquires_spec off
  refine ⟨shown.trans present, counted.trans count, last.trans ops, fun h => ?_, slewing, free⟩
  obtain ⟨align, locked, raised⟩ := small h
  rw [now] at raised
  exact ⟨align, locked, raised.behind before.router⟩

/-- The sixteenth disagreement in a row of a module that follows its partner. -/
theorem State.sync_disagrees (first : s.time.firstSync = true) (measured : s.time.measured = true) (qualified : 8 ≤ s.time.count)
    (follows : s.get F.pairSource = 1) (fifteen : s.time.disagree = 15) (far : 200 < absI off) :
    Raised [eventOf s 316 1 2 [(32, ofSigned 32 off)]] s (s.sync off) ∧ (s.sync off).time.disagree = 16 ∧
      RegsBut [(F.ownOffset, 0), (F.raised, 316)] s (s.sync off) ∧
      s.sync off = { s with regs := (s.sync off).regs, ev := (s.sync off).ev, time := (s.sync off).time } := by
  rw [State.sync_follower first measured qualified follows, if_pos far, fifteen, State.disagrees, if_pos rfl]
  refine ⟨(Writes.syncNoted.onTime).raised rfl (by decide) (by simp), rfl, ?_, rfl⟩
  exact .raise (.onTime (.put (.onTime .refl) (by simp))) (by simp)

end

/-- The path delay of the own grandmaster (R310). -/
theorem does_delay_source {k : Fin 12} {g : Nat} {raw : Int} {s : State} (gm : s.time.gm = some g)
    (source : s.isSource k.val = true) : Does (.delayExchangeComplete k g raw) s fun t =>
      t.get F.pathDelay = s.delayOf k.val raw % 2 ^ 32 ∧ t.time = { s.time with measured := s.time.measured || s.time.firstSync } ∧
      RegsBut [(F.pathDelay, 0), (F.peerDelay, k.val)] s t ∧ t = { s with regs := t.regs, time := t.time } := by
  refine ⟨_, rfl, ?_⟩
  by_cases peers : s.get F.ptpProfile = 1 ∧ s.get F.ptpRole k.val ≠ 0
  · have same : (s.put F.peerDelay (s.delayOf k.val raw) k.val).isSource k.val = true := by
      have apart : ∀ g : Fld, g.offAll [F.peerDelay] = true → ∀ j,
          (s.put F.peerDelay (s.delayOf k.val raw) k.val).get g j = s.get g j := fun g h j => (Writes.refl.put (by decide)).get h
      simpa only [State.isSource, apart F.sourcePort rfl, apart F.ptpRole rfl] using source
    rw [if_pos peers, if_pos ⟨gm, same⟩]
    exact ⟨State.get_put_self .., rfl, .onTime (.put (.put .refl (by simp)) (by simp)), rfl⟩
  · rw [if_neg peers, if_pos ⟨gm, source⟩]
    exact ⟨State.get_put_self .., rfl, .onTime (.put .refl (by simp)), rfl⟩

/-- The peer delay of a port that does not listen to the grandmaster (R310). -/
theorem does_delay_peer {k : Fin 12} {g : Nat} {raw : Int} {s : State} (gm : s.time.gm ≠ some g) (profile : s.get F.ptpProfile = 1)
    (role : s.get F.ptpRole k.val ≠ 0) : Does (.delayExchangeComplete k g raw) s fun t =>
      t.get F.peerDelay k.val = s.delayOf k.val raw % 2 ^ 32 ∧ RegsBut [(F.peerDelay, k.val)] s t ∧ t = { s with regs := t.regs } := by
  have elsewhere : (s.put F.peerDelay (s.delayOf k.val raw) k.val).time.gm ≠ some g := gm
  have measured : (if s.get F.ptpProfile = 1 ∧ s.get F.ptpRole k.val ≠ 0 then s.put F.peerDelay (s.delayOf k.val raw) k.val else s) =
    s.put F.peerDelay (s.delayOf k.val raw) k.val := if_pos ⟨profile, role⟩
  refine ⟨_, rfl, ?_⟩
  rw [measured, if_neg fun h => elsewhere h.1]
  exact ⟨State.get_put_self .., .put .refl (by simp), rfl⟩

/-- An Announce noted in place of its port's last one. -/
def State.announceNoted (s : State) (a : Announce) : State :=
  s.onTime fun t => { t with announces := t.announces.filter (fun b => b.port != a.port) ++ [a] }

/-- An Announce that concerns the module (R306). -/
theorem does_announce {a : Announce} {s : State} {P : State → Prop} (domain : a.domain = s.get F.ptpDomain)
    (role : s.sourceRole a.port.val = true) (up : a.port.val ∉ s.time.linkDown)
    (h : P (if (s.announceNoted a).time.gm.isNone then (s.announceNoted a).selectGm a.gm a.port.val
      else if (s.announceNoted a).time.gm = some a.gm then (s.announceNoted a).onTime fun t => { t with lastAnn := s.beat.opBeats }
      else s.announceNoted a)) : Does (.announceReceive a) s P :=
  ⟨_, congrArg Host.Outcome.next (if_neg (by simp [domain, role, up])), h⟩

/-- The first one announced becomes the grandmaster. -/
theorem does_announce_first {a : Announce} {s : State} (domain : a.domain = s.get F.ptpDomain)
    (role : s.sourceRole a.port.val = true) (up : a.port.val ∉ s.time.linkDown) (none : s.time.gm = none) :
    Does (.announceReceive a) s fun t => t.time.gm = some a.gm ∧ t.get F.gmIdentity = a.gm % 2 ^ 64 ∧
      t.get F.sourcePort = a.port.val ∧ a ∈ t.time.announces ∧ t.time.count = 0 ∧
      RegsBut ([(F.gmIdentity, 0), (F.sourcePort, 0)] ++ portRegs) s t := by
  have noted : (s.announceNoted a).time.gm = Option.none := none
  refine does_announce domain role up ?_
  rw [if_pos (by rw [noted]; rfl), State.selectGm_time]
  exact ⟨rfl, State.get_selectGm_identity .., State.get_selectGm_port .., List.mem_append_right _ (List.mem_singleton.2 rfl), rfl,
    RegsBut.trans (t := s.announceNoted a) (.onTime .refl) (RegsBut.selectGm _ _ _)⟩

/-- Later ones do not change it. -/
theorem does_announce_later {a : Announce} {g : Nat} {s : State} (domain : a.domain = s.get F.ptpDomain)
    (role : s.sourceRole a.port.val = true) (up : a.port.val ∉ s.time.linkDown) (some : s.time.gm = some g) :
    Does (.announceReceive a) s fun t =>
      a ∈ t.time.announces ∧ t.time.lastAnn = (if a.gm = g then s.beat.opBeats else s.time.lastAnn) ∧
      t = { s with time := { s.time with announces := t.time.announces, lastAnn := t.time.lastAnn } } := by
  have noted : (s.announceNoted a).time.gm = Option.some g := some
  have listed : a ∈ (s.announceNoted a).time.announces := List.mem_append_right _ (List.mem_singleton.2 rfl)
  refine does_announce domain role up ?_
  rw [if_neg (by rw [noted]; simp), noted]
  by_cases same : a.gm = g
  · rw [if_pos (by rw [same]), if_pos same]
    exact ⟨listed, rfl, rfl⟩
  · rw [if_neg fun h => same (Option.some.inj h).symm, if_neg same]
    exact ⟨listed, rfl, rfl⟩

/-- A change of the grandmaster (R307). -/
theorem does_gmChange {g old : Nat} {k : Fin 12} {s : State} (was : s.time.gm = some old) (other : old ≠ g) :
    Does (.gmChange g k) s fun t => t.time.gm = some g ∧ t.get F.gmIdentity = g % 2 ^ 64 ∧ t.get F.sourcePort = k.val ∧
      t.get F.gmPresent = 0 ∧ t.get F.gmChanges = satInc 16 (s.get F.gmChanges) ∧
      (∃ l, t.ev.router = s.ev.router ++ [eventOf s 310 1 1 [(64, old)], restOf s 310 1 1 [(64, g)],
        eventOf s 311 1 2 [(64, old)], restOf s 311 1 2 [(8, 3)]] ++ l) ∧
      (s.get F.pairSource = 0 → s.get F.align = 2 → t.get F.align = 3) ∧ t.mem = s.mem := by
  have runs : exec (.gmChange g k) s = .next ((s.gmChangeRaised old g).loseGm.selectGm g k.val) :=
    congrArg Host.Outcome.next (by rw [was]; exact if_neg other)
  have raised := State.gmChangeRaised_router s old g
  have counted : (s.gmChangeRaised old g).get F.gmChanges = satInc 16 (s.get F.gmChanges) :=
    (State.get_raise_apart rfl).trans ((State.get_raise_apart rfl).trans (State.get_inc_self ..))
  have mem : (s.gmChangeRaised old g).mem = s.mem := rfl
  have writes : Writes [F.gmChanges, F.raised] s (s.gmChangeRaised old g) := .gmChangeRaised
  refine ⟨_, runs, ?_⟩
  generalize s.gmChangeRaised old g = u at raised counted mem writes
  obtain ⟨present, -, -⟩ := u.loseGm_shows
  obtain ⟨l, hl⟩ := (Writes.loseGm.trans (Writes.selectGm.mono (by decide)) : Writes lossFields u (u.loseGm.selectGm g k.val)).router
  refine ⟨by rw [State.selectGm_time],
    State.get_selectGm_identity .., State.get_selectGm_port .., ?_, ?_, ⟨l, ?_⟩, fun own align => ?_, ?_⟩
  · exact (Writes.selectGm.get rfl).trans present
  · exact (Writes.selectGm.get rfl).trans ((Writes.loseGm.get rfl).trans counted)
  · rw [← hl, raised]
  · exact (Writes.selectGm.get rfl).trans (State.loseGm_holdsOver ((writes.get rfl).trans own) ((writes.get rfl).trans align))
  · rw [State.selectGm_mem, State.loseGm_mem, mem]

/-- The loss of the grandmaster (R307, R313). -/
theorem does_gmLost {c g : Nat} {s : State} (was : s.time.gm = some g) (silent : s.gmSilent c = true) :
    Does (.gmLost c) s fun t =>
      t.time.gm = none ∧ t.get F.gmPresent = 0 ∧ t.get F.gmIdentity = 0 ∧ t.get F.sourcePort = 15 ∧ (∀ a ∈ t.time.announces, a.gm ≠ g) ∧
      (∃ l, t.ev.router = s.ev.router ++ [eventOf s 311 1 2 [(64, g)], restOf s 311 1 2 [(8, c)]] ++ l) ∧
      (s.get F.pairSource = 0 → s.get F.align = 2 → t.get F.align = 3 ∧ RaisedLast [eventOf t 312 1 2 [(32, s.now)]] s t) ∧
      (s.get F.pairSource = 0 → s.get F.align = 1 → t.get F.align = 0) ∧ t.mem = s.mem := by
  have runs : exec (.gmLost c) s = .next (s.gmLostRaised g c).loseGm :=
    congrArg Host.Outcome.next (by rw [was]; exact if_neg (by simp [silent]))
  have raised := State.gmLostRaised_router s g c
  have mem : (s.gmLostRaised g c).mem = s.mem := rfl
  have writes : Writes [F.raised] s (s.gmLostRaised g c) := .gmLostRaised
  have forgotten : ∀ a ∈ (s.gmLostRaised g c).time.announces, a.gm ≠ g := fun a ha => by
    simpa using (List.mem_filter.1 ha).2
  refine ⟨_, runs, ?_⟩
  generalize s.gmLostRaised g c = u at raised mem writes forgotten
  have now : u.now = s.now := writes.get rfl
  obtain ⟨present, identity, port⟩ := u.loseGm_shows
  obtain ⟨l, hl⟩ := (Writes.loseGm (s := u)).router
  refine ⟨by rw [State.loseGm_time], present, identity, port, ?_, ⟨l, ?_⟩, fun own align => ?_, fun own align => ?_, ?_⟩
  · rw [State.loseGm_time]; exact forgotten
  · rw [← hl, raised]
  · have own' : u.get F.pairSource = 0 := (writes.get rfl).trans own
    have align' : u.get F.align = 2 := (writes.get rfl).trans align
    rw [← now]
    exact ⟨State.loseGm_holdsOver own' align', (State.loseGm_raises own' align').behind writes.router⟩
  · exact State.loseGm_slewing ((writes.get rfl).trans own) ((writes.get rfl).trans align)
  · rw [State.loseGm_mem, mem]

theorem does_gmKept {c : Nat} {s : State} (h : s.time.gm = none ∨ s.gmSilent c = false) : Does (.gmLost c) s fun t => t = s := by
  refine ⟨_, rfl, ?_⟩
  split
  · rfl
  · next g was =>
    rcases h with none | heard
    · rw [none] at was; cases was
    · rw [if_pos (by rw [heard]; rfl)]

theorem State.unlocked_parts (s : State) : s.unlocked = { s with regs := s.unlocked.regs, ev := s.unlocked.ev } :=
  State.showPorts_parts _

theorem State.raise_parts_of {s u : State} {src code sev : Nat} {d : List (Nat × Nat)} (h : u = { s with regs := u.regs, ev := u.ev }) :
    u.raise src code sev d = { s with regs := (u.raise src code sev d).regs, ev := (u.raise src code sev d).ev } :=
  congrArg (fun v : State => { v with regs := (u.raise src code sev d).regs, ev := (u.raise src code sev d).ev }) h

/-- The end of TIME_LOCKED. -/
theorem does_lockLost {s : State} (held : s.get F.align = 3) (locked : s.get F.timeLocked = 1) : Does .timeLockLost s fun t =>
    t.get F.timeLocked = 0 ∧ t.get F.holdoverBound = boundNs s.sinceSync % 2 ^ 32 ∧
    RaisedLast [eventOf t 314 1 2 [(32, s.now), (32, boundNs s.sinceSync)]] s t ∧
    RegsBut ([(F.timeLocked, 0), (F.holdoverBound, 0), (F.raised, 314)] ++ portRegs) s t ∧ t = { s with regs := t.regs, ev := t.ev } := by
  refine ⟨_, congrArg Host.Outcome.next (State.lockLost_holdover held locked), ?_, ?_, ?_, ?_, ?_⟩
  · refine (State.get_raise_apart rfl).trans ((Writes.showPorts.get rfl).trans ?_)
    exact (State.get_put_apart rfl).trans (State.get_put_self ..)
  · exact (State.get_raise_apart rfl).trans ((Writes.showPorts.get rfl).trans (State.get_put_self ..))
  · exact RaisedLast.raiseOwn Writes.unlocked.router (by simp)
  · have shown : RegsBut ([(F.timeLocked, 0), (F.holdoverBound, 0), (F.raised, 314)] ++ portRegs) s s.unlocked :=
      (RegsBut.put (.put .refl (by simp)) (by simp)).trans ((RegsBut.showPorts .refl).mono fun _ => List.mem_append_right _)
    exact .raise shown (by simp)
  · exact State.raise_parts_of s.unlocked_parts

/-- Settles O45: a Sync by the course of ALIGN, a grandmaster by its choice, change and loss. -/
theorem theServoFollowsItsGrandmaster : Obligations.TheServoFollowsItsGrandmaster := by
  unfold Obligations.TheServoFollowsItsGrandmaster
  refine ⟨fun k g d raw s h => ?_, fun k g raw off s e gm source first measured count own align small => ?_,
    fun k g raw off s e gm source first measured count own align over50 small three => ?_,
    fun k g raw off s e gm source first measured seven soon own => ?_,
    fun k g raw off s e gm source first measured count follows fifteen far => ?_,
    fun k g raw s gm source => does_delay_source gm source, fun k g raw s gm profile role => ?_,
    fun a s domain role up none => does_announce_first domain role up none,
    fun a g s domain role up some => does_announce_later domain role up some, fun a s h => ?_,
    fun g k old s was other => does_gmChange was other, fun g k s same => ?_,
    fun c g s was silent => does_gmLost was silent, fun c s h => ?_, fun s held locked => ?_, fun s h => ?_⟩
  case refine_1 =>
    refine ⟨_, congrArg Host.Outcome.next (if_neg ?_), rfl⟩
    rcases h with h | h | h <;> simp [h]
  case refine_2 => exact does_sync gm source (e ▸ State.sync_small first measured count own align small)
  case refine_3 => exact does_sync gm source (e ▸ State.sync_slips first measured count own align over50 small three)
  case refine_4 => exact does_sync gm source (e ▸ State.sync_qualifies first measured seven soon own)
  case refine_5 => exact does_sync gm source (e ▸ State.sync_disagrees first measured count follows fifteen far)
  case refine_6 => exact does_delay_peer gm profile role
  case refine_7 =>
    refine ⟨_, congrArg Host.Outcome.next (if_pos ?_), rfl⟩
    rcases h with h | h
    · exact .inl h
    · exact .inr (.inl (by simp [h]))
  case refine_8 =>
    refine ⟨s, congrArg Host.Outcome.next (by rw [same]; exact if_pos rfl), rfl⟩
  case refine_9 => exact does_gmKept h
  case refine_10 => exact does_lockLost held locked
  case refine_11 => exact ⟨_, congrArg Host.Outcome.next (if_neg fun c => h c.1), rfl⟩

end Sys2Proof.Machine

namespace Sys2Proof.Machine

open Sys2Proof

/-! O8: the requests that step 8 of R388 or one before it turns away. -/

/-- Every opcode but HELLO is a request of a session. -/
theorem requests_notHello (g : Option Program) : ∀ r ∈ sessionRequests ++ requests g, r.1 ≠ .hello := by
  simp only [sessionRequests, requests, List.cons_append, List.nil_append, List.forall_mem_cons]
  simp

theorem allRequests_turnAway (g : Option Program) : ∀ r ∈ sessionRequests ++ requests g, TurnsAway r := by
  intro r hr
  rcases List.mem_append.1 hr with session | unit
  · exact sessionRequests_turnAway r session
  · exact requests_turnAway g r unit

/-- A request that does not reach its opcode does what its admission gives. -/
theorem TurnsAway.does {r : Op × (Packet → Instr)} {p : Packet} {s : State} {a : Admit} {P : State → Prop} (h : TurnsAway r)
    (ha : admission r.1 p s = a) (away : ∀ u, a ≠ .go u) (hP : P (turnedAway r.1 p a s)) : Does (r.2 p) s P :=
  ⟨_, h p s fun ⟨u, hu⟩ => away u (ha.symm.trans hu), ha ▸ hP⟩

section

variable {o : Op} {p : Packet} {x : Session} {s : State}

/-- Up to the session a framed packet passes every step. -/
theorem Framed.admission_steps (h : Framed p s) : admission o p s =
    match s.session? p.sess with
    | none => if o = .hello ∧ p.sess = 0 then .go .own else .refuse stNotPermitted (detail 7) true
    | some x =>
      if o = .hello then .refuse stNotPermitted (detail 7) false
      else if s.awaiting p.sess ≥ 64 then .refuse stBusy [] false
      else
        match x.cache.find? (fun r => r.seq == p.seq) with
        | some r => .cached r
        | none =>
          if p.seq ≤ x.high then .refuse stBadParam [] false
          else if isSessionOp o then (if p.hopLen = 0 then .go .pair else .late none stBadParam [])
          else admitUnit o p s := by
  unfold admission
  exact (if_neg h.not_silent).trans ((if_neg (not_not.2 h.magic)).trans ((if_neg (not_not.2 h.version)).trans
    ((if_neg (Nat.not_lt.2 h.length)).trans ((if_neg (by simp [h.framing])).trans (if_neg (by simp [h.flags]))))))

theorem Framed.admission_stray (h : Framed p s) (ho : o ≠ .hello) (stray : s.session? p.sess = none) :
    admission o p s = .refuse stNotPermitted (detail 7) true := by
  rw [h.admission_steps, stray]
  exact if_neg fun c => ho c.1

theorem Framed.admission_busy (h : Framed p s) (ho : o ≠ .hello) (session : s.session? p.sess = some x)
    (busy : 64 ≤ s.awaiting p.sess) : admission o p s = .refuse stBusy [] false := by
  rw [h.admission_steps, session]
  exact (if_neg ho).trans (if_pos busy)

theorem InSession.admission_cached {q : Reply} (h : InSession p x s) (ho : o ≠ .hello)
    (held : x.cache.find? (fun r => r.seq == p.seq) = some q) : admission o p s = .cached q := by
  rw [h.framed.admission_steps, h.session]
  refine (if_neg ho).trans ((if_neg (Nat.not_le.2 h.room)).trans ?_)
  rw [held]

theorem InSession.admission_stale (h : InSession p x s) (ho : o ≠ .hello)
    (fresh : x.cache.find? (fun r => r.seq == p.seq) = none) (stale : p.seq ≤ x.high) :
    admission o p s = .refuse stBadParam [] false := by
  rw [h.framed.admission_steps, h.session]
  refine (if_neg ho).trans ((if_neg (Nat.not_le.2 h.room)).trans ?_)
  rw [fresh]
  exact if_pos stale

/-- A packet of another protocol gets no answer, whether the module listens or not. -/
theorem admission_otherMagic (other : p.magic ≠ 0x434C) : admission o p s = .silent ∨ admission o p s = .drop := by
  unfold admission
  by_cases deaf : s.get F.mode = mDormant ∨ s.lcp.mute ∨ s.pwr.off ∨ (s.quiet ∧ !p.service) ∨ s.lcpOff p ∨ s.upstreamOnly p
  · exact .inl (if_pos deaf)
  · exact .inr ((if_neg deaf).trans (if_pos other))

theorem State.session?_none_of_ids {id : Nat} (h : ∀ x ∈ s.lcp.sessions, x.id ≠ id) : s.session? id = none := by
  refine List.find?_eq_none.2 fun x hx => ?_
  simp [h x hx]

/-- A session that does not exist is not touched. -/
theorem State.onSession_none {id : Nat} {f : Session → Session} (h : ∀ x ∈ s.lcp.sessions, x.id ≠ id) : s.onSession id f = s := by
  have same : s.lcp.sessions.map (fun x => if x.id == id then f x else x) = s.lcp.sessions := by
    refine (List.map_congr_left fun x hx => ?_).trans (List.map_id _)
    exact if_neg (by simp [h x hx])
  unfold State.onSession
  rw [same]

end

/-- Settles O8: the admission by the step of R388 that fails, then what is done for it. -/
theorem repeatedAndStrayRequestsDoNothing : Obligations.RepeatedAndStrayRequestsDoNothing := by
  unfold Obligations.RepeatedAndStrayRequestsDoNothing
  refine ⟨fun g r hr p x q s session held => ?repeated, fun g r hr p x s session fresh stale => ?stale,
    fun g r hr p s framed unknown => ?stray, fun g r hr p x s framed session many => ?busy,
    fun g r hr p s other unknown => ?protocol⟩
  all_goals
    have away := allRequests_turnAway g r hr
    have ho := requests_notHello g r hr
  case repeated =>
    refine away.does (session.admission_cached ho held) (fun _ => nofun) ⟨rfl, State.get_inc_self .., ?_, rfl, rfl⟩
    exact .regs (.inc (.regs .refl rfl) (by simp)) rfl
  case stale =>
    exact away.does (session.admission_stale ho fresh stale) (fun _ => nofun) ⟨⟨_, rfl, rfl, rfl, rfl, rfl⟩, rfl, rfl⟩
  case stray =>
    have unopened := State.session?_none_of_ids unknown
    refine away.does (framed.admission_stray ho unopened) (fun _ => nofun) ?_
    have still : (s.send (mkReply r.1 p s (s.unitRefused p) 0 stNotPermitted (detail 7))).session? p.sess = none := unopened
    have done : turnedAway r.1 p (.refuse stNotPermitted (detail 7) true) s =
        s.send (mkReply r.1 p s (s.unitRefused p) 0 stNotPermitted (detail 7)) := by
      unfold turnedAway State.heard
      rw [State.onSession_none unknown]
      exact (if_pos rfl).trans (if_neg (by simp [still]))
    rw [done]
    exact ⟨⟨_, rfl, rfl, rfl, rfl, rfl⟩, rfl⟩
  case busy =>
    exact away.does (framed.admission_busy ho session many) (fun _ => nofun) ⟨⟨_, rfl, rfl, rfl, rfl, rfl⟩, rfl, rfl⟩
  case protocol =>
    rcases admission_otherMagic (o := r.1) (s := s) other with silent | drop
    · exact away.does silent (fun _ => nofun) rfl
    · refine away.does drop (fun _ => nofun) (if_neg ?_)
      simp [unknown]

end Sys2Proof.Machine

namespace Sys2Proof.Machine

open Sys2Proof

/-! Commands that wait for a Freeze (R47, R48). -/

/-- The first eligible beat of the model is that of R47. -/
theorem State.eligible_eq (s : State) (p : Packet) : s.eligible p.stamp = firstBeat p s := by
  unfold State.eligible firstBeat
  by_cases step : s.stepNow
  · rw [if_pos step]
  · have len : s.beatLen = 50000 := if_neg step
    have next : s.nextBeat = s.get F.beatIndex + 1 := if_neg step
    rw [if_neg step, len, next]
    exact if_congr (by omega) rfl rfl

theorem alignUp_eq (n b : Nat) : alignUp n b = releaseBeat n b := rfl

theorem classBeats_eq : (c : Nat) → classBeats c = cycleBeats c
  | 0 => rfl
  | 1 => rfl
  | 2 => rfl
  | 3 => rfl
  | _ + 4 => rfl

theorem firstApplyAt_eq (p : Packet) (u : UnitSel) (s : State) : firstApplyAt p u s = firstBeat p s := s.eligible_eq p

theorem valuesApplyAt_eq (p : Packet) (u : UnitSel) (s : State) :
    valuesApplyAt p u s = releaseBeat (firstBeat p s) (slowestCycle p s) := by
  unfold valuesApplyAt
  rw [alignUp_eq, classBeats_eq, s.eligible_eq]
  rfl

theorem loopApplyAt_eq (p : Packet) (u : UnitSel) (s : State) :
    loopApplyAt p u s = releaseBeat (firstBeat p s) (cycleBeats (s.loopCls (p.val 0x001A 0))) := by
  unfold loopApplyAt
  rw [alignUp_eq, classBeats_eq, s.eligible_eq]

theorem targetApplyAt_eq (p : Packet) (u : UnitSel) (s : State) :
    targetApplyAt p u s = if p.has 0x8002 then p.val 0x8002 0 else firstBeat p s := by
  unfold targetApplyAt
  rw [s.eligible_eq]

/-- An object reads from the registers alone. -/
theorem packObj_of_regs {s t : State} (h : t.regs = s.regs) (idx a b : Nat) : packObj t idx a b = packObj s idx a b := by
  unfold packObj subVal
  simp only [State.get_of_regs h]

/-- A change of a session that keeps its ID and whether it is held. -/
theorem State.session?_onSession {s : State} {id : Nat} {f : Session → Session} (kept : ∀ x, (f x).id = x.id ∧ (f x).held = x.held) :
    (s.onSession id f).session? id = (s.session? id).map f := by
  have passes : ∀ x, (fun x => x.id == id && !x.held && id != 0) (if x.id == id then f x else x) = (x.id == id && !x.held && id != 0) := by
    intro x
    obtain ⟨sameId, sameHeld⟩ := kept x
    by_cases named : (x.id == id) = true
    · simp [named, sameId, sameHeld]
    · simp [named]
  unfold State.session? State.onSession
  rw [List.find?_map, show ((fun x : Session => x.id == id && !x.held && id != 0) ∘ fun x => if x.id == id then f x else x) =
    fun x => x.id == id && !x.held && id != 0 from funext passes]
  refine Option.map_congr fun x found => ?_
  have named := List.find?_some found
  simp only [Bool.and_eq_true] at named
  exact if_pos named.1.1

/-- A request competes by its session's priority as it was when it came (R385). -/
theorem queuedFrom_noteSeq (p : Packet) (s : State) : queuedFrom p (s.noteSeq p) =
    p.origin.getD ((match s.session? p.sess with | some x => x.prio | none => 0), s.get F.beatIndex) := by
  have noted : (s.noteSeq p).session? p.sess = (s.session? p.sess).map fun x => { x with high := p.seq, last := s.now } :=
    State.session?_onSession fun _ => ⟨rfl, rfl⟩
  unfold queuedFrom
  rw [noted]
  cases s.session? p.sess <;> rfl

section

variable {o : Op} {p : Packet} {chk : UnitSel → State → Chk} {n : UnitSel → State → Nat} {u : UnitSel} {s : State}

/-- The state in which an admitted command waits. -/
def State.queues (s : State) (o : Op) (p : Packet) (u : UnitSel) (n : Nat) : State :=
  (s.noteSeq p).enqueue (queuedCmd o p u n (s.noteSeq p))

theorem queues_waits (s : State) (o : Op) (p : Packet) (u : UnitSel) (n : Nat) : Waits o p u n s (s.queues o p u n) :=
  ⟨_, rfl, rfl, rfl, rfl, rfl, queuedFrom_noteSeq p s⟩

/-- A P opcode waits, and is not answered yet. -/
theorem queued_silent (h : Passes o p chk u s) (kind : queuedP o = true) :
    queued o p chk n s = s.queues o p u (n u (s.noteSeq p)) := by
  obtain ⟨go, passes⟩ := h
  rw [queued_go go passes, if_pos kind]
  rfl

/-- Any other waits, and is answered ACCEPTED. -/
theorem queued_answers (h : Passes o p chk u s) (kind : queuedP o = false) : queued o p chk n s =
    (s.queues o p u (n u (s.noteSeq p))).answerHeld (mkReply o p (s.queues o p u (n u (s.noteSeq p))) (some u) 0 stAccepted
      (applyBeatTlv (n u (s.noteSeq p)) :: lockTlvs o (s.queues o p u (n u (s.noteSeq p))))) := by
  obtain ⟨go, passes⟩ := h
  rw [queued_go go passes, if_neg (by simp [kind])]
  rfl

theorem lockTlvs_queues (s : State) (o : Op) (p : Packet) (u : UnitSel) (n : Nat) :
    lockTlvs o (s.queues o p u n) = if o = .gong ∧ s.get F.timeLocked = 0 then [packObj s 0x0010 0 0] else [] := by
  unfold lockTlvs
  rw [packObj_of_regs (s := s) (t := s.queues o p u n) rfl]
  rfl

/-- The completion of a command that waits and is answered. -/
theorem queued_accepted (h : Passes o p chk u s) (kind : queuedP o = false) :
    Waits o p u (n u (s.noteSeq p)) s (queued o p chk n s) ∧ Accepted o p u (n u (s.noteSeq p)) s (queued o p chk n s) ∧
      OnlyQueued s (queued o p chk n s) := by
  rw [queued_answers h kind, lockTlvs_queues, State.answerHeld_eq]
  refine ⟨queues_waits .., ⟨mkReply o p (s.queues o p u (n u (s.noteSeq p))) (some u) 0 stAccepted _, rfl, rfl, rfl, rfl, rfl, rfl,
    ?_⟩, rfl⟩
  by_cases now : (s.noteSeq p).replyBeat = 0 ∧ s.jr.asked ≤ s.jr.commits
  · rw [if_pos now]
    exact ⟨if_pos now, if_pos now⟩
  · rw [if_neg now]
    exact ⟨if_neg now, if_neg now⟩

end

/-- An opcode that does nothing else than to wait and be answered. -/
theorem AcceptsCommand.queued {o : Op} {c : Packet → Instr} {chk : Packet → UnitSel → State → Chk}
    {at_ n : Packet → UnitSel → State → Nat} (kind : queuedP o = false := by decide) (beat : ∀ p u s, at_ p u s = n p u s)
    (he : ∀ p s, exec (c p) s = .next (queued o p (chk p) (at_ p) s) := by intros; rfl) : AcceptsCommand c o chk n := by
  intro p u s h
  refine ⟨_, he p s, ?_⟩
  rw [← beat]
  exact queued_accepted h kind

/-- Settles O10: each opcode waits for its beat by the rule of the queue, and the model's beat is that of the chapter. -/
theorem commandsWaitForTheirBeat : Obligations.CommandsWaitForTheirBeat := by
  unfold Obligations.CommandsWaitForTheirBeat
  refine ⟨.queued (beat := firstApplyAt_eq), .queued (beat := firstApplyAt_eq), .queued (beat := firstApplyAt_eq),
    .queued (beat := firstApplyAt_eq), .queued (beat := firstApplyAt_eq), .queued (beat := firstApplyAt_eq),
    .queued (beat := firstApplyAt_eq), .queued (beat := firstApplyAt_eq), .queued (beat := firstApplyAt_eq),
    .queued (beat := firstApplyAt_eq), .queued (beat := firstApplyAt_eq), .queued (beat := firstApplyAt_eq),
    .queued (beat := firstApplyAt_eq), ?_, .queued (beat := valuesApplyAt_eq), .queued (beat := valuesApplyAt_eq),
    .queued (beat := valuesApplyAt_eq), .queued (beat := ?_), .queued (beat := loopApplyAt_eq), .queued (beat := loopApplyAt_eq)⟩
  · intro p u s h inside
    have beat : firstApplyAt p u (s.noteSeq p) = firstBeat p s := firstApplyAt_eq p u _
    have local_ : exec (.objWrite p) s = .next (queued .objWrite p (objWriteChk p true) (firstApplyAt p) s) :=
      congrArg Host.Outcome.next (if_neg (by rw [h.1]; simp [inside]))
    exact ⟨_, local_, beat ▸ queued_accepted h (by decide)⟩
  · intro p u s
    split
    · exact firstApplyAt_eq p u s
    · exact valuesApplyAt_eq p u s

end Sys2Proof.Machine

namespace Sys2Proof.Machine

open Sys2Proof

/-! Commands that name their beat, or are answered late. -/

/-- A P opcode that does nothing else than to wait. -/
theorem AcceptsSilently.queued {o : Op} {c : Packet → Instr} {chk : Packet → UnitSel → State → Chk}
    {at_ n : Packet → UnitSel → State → Nat} (kind : queuedP o = true) (beat : ∀ p u s, at_ p u s = n p u s)
    (he : ∀ p u s, Passes o p (chk p) u s → exec (c p) s = .next (queued o p (chk p) (at_ p) s)) : AcceptsSilently c o chk n := by
  intro p u s h
  refine ⟨_, he p u s h, ?_⟩
  rw [← beat, queued_silent h kind]
  exact ⟨queues_waits .., rfl, rfl, rfl⟩

/-- A SECURITY_STATE_SET that passes its checks has no token refused. -/
theorem securityStateSet_runs {p : Packet} {u : UnitSel} {s : State} (h : Passes .securityStateSet p (securityStateSetChk p) u s) :
    exec (.securityStateSet p) s =
      .next (queued .securityStateSet p (securityStateSetChk p) (fun _ s => s.eligible p.stamp) s) := by
  obtain ⟨go, passes⟩ := h
  obtain ⟨permitted, own⟩ := Chk.andThen_ok.1 passes
  have checks := Chk.all_ok.1 own
  have token : secTokenCheck p (s.noteSeq p) = 0 := by simpa using checks (need (secTokenCheck p (s.noteSeq p) == 0) 2) (by simp)
  have none : tokenFails .securityStateSet p
      (fun _ s => Chk.all [needTlv p 0x003E, need (secMoveOk s (p.val 0x003E 0)) 2]) (secTokenCheck p) s = 0 := by
    have before : (permit .securityStateSet p u (s.noteSeq p)).andThen
        (Chk.all [needTlv p 0x003E, need (secMoveOk (s.noteSeq p) (p.val 0x003E 0)) 2]) = .ok :=
      Chk.andThen_ok.2 ⟨permitted, Chk.all_ok.2 fun c hc => checks c (by simp only [List.mem_cons] at hc ⊢; tauto)⟩
    unfold tokenFails
    rw [go]
    dsimp only
    rw [before, token]
  show execSecurityStateSet p s = _
  unfold execSecurityStateSet
  dsimp only
  rw [none, auditRefused_go go passes]
  rfl

/-- The Gong that an accepted GONG puts among those to be sent. -/
def State.gongSigned (s : State) (p : Packet) : State :=
  { (s.fresh 768).2 with lcp := { s.lcp with
      gongSerial := s.lcp.gongSerial + 1
      gongs := s.lcp.gongs ++ [p.val 0x8002 0]
      gongOut := s.lcp.gongOut ++ [{ serial := s.lcp.gongSerial + 1, group := p.val 0x800F 0
                                     target := p.val 0x8002 0, left := 3, signature := (s.fresh 768).1 }] } }

theorem gong_runs {p : Packet} {s : State} (one : (queued .gong p (gongChk p) (fun _ _ => p.val 0x8002 0) s).lcp.queue.length =
    s.lcp.queue.length + 1) : exec (.gong p) s =
      .next ((queued .gong p (gongChk p) (fun _ _ => p.val 0x8002 0) s).gongSigned p) := by
  show execGong p s = _
  unfold execGong
  exact congrArg Host.Outcome.next (if_pos (decide_eq_true one))

/-- GONG (R404). -/
theorem gong_accepted {p : Packet} {u : UnitSel} {s : State} (h : Passes .gong p (gongChk p) u s) :
    ∃ t, exec (.gong p) s = .next t
    ∧ firstBeat p s + 40 ≤ p.val 0x8002 0
    ∧ Waits .gong p u (p.val 0x8002 0) s t ∧ Accepted .gong p u (p.val 0x8002 0) s t
    ∧ t.lcp.gongs = s.lcp.gongs ++ [p.val 0x8002 0] ∧ t.lcp.gongSerial = s.lcp.gongSerial + 1
    ∧ (∃ sig, sig < 2 ^ 768 ∧ t.lcp.gongOut = s.lcp.gongOut ++ [{
        serial := s.lcp.gongSerial + 1, group := p.val 0x800F 0, target := p.val 0x8002 0, left := 3, signature := sig }])
    ∧ t = { s with lcp := { s.lcp with sessions := t.lcp.sessions, wire := t.lcp.wire, queue := t.lcp.queue
                                       heldReplies := t.lcp.heldReplies, gongs := t.lcp.gongs
                                       gongSerial := t.lcp.gongSerial, gongOut := t.lcp.gongOut }
                   beat := { s.beat with off := t.beat.off }, free := s.free + 1 } := by
  obtain ⟨waits, answered, only⟩ := queued_accepted (n := fun _ _ => p.val 0x8002 0) h (by decide)
  have one : (queued .gong p (gongChk p) (fun _ _ => p.val 0x8002 0) s).lcp.queue.length = s.lcp.queue.length + 1 := by
    obtain ⟨q, queue, -⟩ := waits
    rw [queue, List.length_append]
    rfl
  have met : firstBeat p (s.noteSeq p) + 40 ≤ p.val 0x8002 0 := by
    obtain ⟨-, own⟩ := Chk.andThen_ok.1 h.2
    have beat := Chk.all_ok.1 own (param (decide ((s.noteSeq p).eligible p.stamp + 40 ≤ p.val 0x8002 0)) (p.pos 0x8002)) (by simp)
    rw [← State.eligible_eq]
    simpa using beat
  have sig := State.fresh_lt (queued .gong p (gongChk p) (fun _ _ => p.val 0x8002 0) s) 768
  refine ⟨_, gong_runs one, met, ?_⟩
  generalize queued .gong p (gongChk p) (fun _ _ => p.val 0x8002 0) s = u at waits answered only sig
  have parts := only
  unfold OnlyQueued at parts
  have serial : u.lcp.gongSerial = s.lcp.gongSerial := by rw [parts]
  have gongs : u.lcp.gongs = s.lcp.gongs := by rw [parts]
  have out : u.lcp.gongOut = s.lcp.gongOut := by rw [parts]
  refine ⟨waits, answered, congrArg (· ++ _) gongs, congrArg (· + 1) serial, ⟨_, sig, ?_⟩, ?_⟩
  · rw [← serial, ← out]
    rfl
  · exact congrArg (fun v : State => { v with free := v.free + 1, lcp := { v.lcp with
      gongSerial := (u.gongSigned p).lcp.gongSerial, gongs := (u.gongSigned p).lcp.gongs
      gongOut := (u.gongSigned p).lcp.gongOut } }) parts

/-- Settles O11: each command by the rule of the queue; GONG schedules its stop behind it. -/
theorem commandsThatNameABeatOrAnswerLate : Obligations.CommandsThatNameABeatOrAnswerLate := by
  unfold Obligations.CommandsThatNameABeatOrAnswerLate
  refine ⟨.queued (beat := targetApplyAt_eq), .queued (beat := targetApplyAt_eq), fun p u s h => gong_accepted h,
    .queued (by decide) loopApplyAt_eq fun _ _ _ _ => rfl,
    .queued (by decide) (fun p _ s => s.eligible_eq p) fun _ _ _ h => securityStateSet_runs h⟩

end Sys2Proof.Machine

namespace Sys2Proof.Machine

open Sys2Proof

/-! What an operation leaves alone, as an equation of states. -/

/-- The state `s` with the parts of `m` as they are in `t`. -/
def State.takes (m : Parts) (s t : State) : State where
  regs := bif m.regs then t.regs else s.regs
  mem := bif m.mem then t.mem else s.mem
  free := bif m.free then t.free else s.free
  beat := bif m.beat then t.beat else s.beat
  ev := bif m.ev then t.ev else s.ev
  lcp := bif m.lcp then t.lcp else s.lcp
  jr := bif m.jr then t.jr else s.jr
  units := bif m.units then t.units else s.units
  wd := bif m.wd then t.wd else s.wd
  rt := bif m.rt then t.rt else s.rt
  rtY := bif m.rtY then t.rtY else s.rtY
  rtZ := bif m.rtZ then t.rtZ else s.rtZ
  loops := bif m.loops then t.loops else s.loops
  pair := bif m.pair then t.pair else s.pair
  sec := bif m.sec then t.sec else s.sec
  triad := bif m.triad then t.triad else s.triad
  pwr := bif m.pwr then t.pwr else s.pwr
  img := bif m.img then t.img else s.img
  panel := bif m.panel then t.panel else s.panel
  lanes := bif m.lanes then t.lanes else s.lanes
  field := bif m.field then t.field else s.field
  time := bif m.time then t.time else s.time
  can := bif m.can then t.can else s.can
  pending := s.pending

theorem Parts.take_eq {α : Type} {b : Bool} {x y z : α} (h : (bif b then z else y) = bif b then z else x) :
    y = bif b then y else x := by
  cases b
  · exact h
  · rfl

/-- An operation that touches the parts of `m` gives the state with these as it left them. -/
theorem Touches.eq_takes {m : Parts} {s t : State} (h : Touches m s t) : t = s.takes m t := by
  simp only [Touches, State.without, State.mk.injEq] at h
  obtain ⟨regs, mem, free, beat, ev, lcp, jr, units, wd, rt, rtY, rtZ, loops, pair, sec, triad, pwr, img, panel, lanes, field, time,
    can, pending⟩ := h
  cases t
  simp only [State.takes, State.mk.injEq]
  exact ⟨Parts.take_eq regs, Parts.take_eq mem, Parts.take_eq free, Parts.take_eq beat, Parts.take_eq ev, Parts.take_eq lcp,
    Parts.take_eq jr, Parts.take_eq units, Parts.take_eq wd, Parts.take_eq rt, Parts.take_eq rtY, Parts.take_eq rtZ,
    Parts.take_eq loops, Parts.take_eq pair, Parts.take_eq sec, Parts.take_eq triad, Parts.take_eq pwr, Parts.take_eq img,
    Parts.take_eq panel, Parts.take_eq lanes, Parts.take_eq field, Parts.take_eq time, Parts.take_eq can, pending⟩

theorem RegsBut.foldl {α : Type} {l : List (Fld × Nat)} {s t : State} {f : State → α → State} {xs : List α} (h : RegsBut l s t)
    (hf : ∀ u, ∀ a ∈ xs, RegsBut l u (f u a)) : RegsBut l s (xs.foldl f t) := by
  induction xs generalizing t with
  | nil => exact h
  | cons x xs ih => exact ih (h.trans (hf t x (List.mem_cons_self ..))) fun u a ha => hf u a (List.mem_cons_of_mem _ ha)

/-! Audit records and the cycles in progress. -/

/-- The fields that an audit record writes. -/
def auditFields : List Fld := [F.auditNext, F.auditCount, F.auditWraps, F.raised]

theorem Writes.audit {s t : State} {a r d p sub : Nat} (h : Writes auditFields s t) : Writes auditFields s (t.audit a r d p sub) :=
  have counted : ∀ sec n m, Writes auditFields s ((({ t with sec := sec } : State).put F.auditNext n).put F.auditCount m) :=
    fun _ _ _ => .put (.put (h.upd rfl rfl rfl rfl) (by decide)) (by decide)
  .ite (fun _ => .raise (.inc (counted ..) (by decide)) (by decide)) fun _ => counted ..

theorem Writes.auditBy {s t : State} {i a r d : Nat} (h : Writes auditFields s t) : Writes auditFields s (t.auditBy i a r d) := by
  obtain ⟨p, sub, e⟩ := auditBy_spec t i a r d
  rw [e]
  exact h.audit

theorem RegsBut.auditBy (s : State) (i a r d : Nat) : RegsBut auditRegs s (s.auditBy i a r d) := by
  obtain ⟨p, sub, e⟩ := auditBy_spec s i a r d
  obtain ⟨-, -, -, -, -, -, -, regs, -⟩ := auditEq s a r d p sub
  rw [e]
  exact regs

/-- What dropping the cycles in progress does to one task. -/
def State.dropTask (s : State) (k : Nat) : State :=
  let u := if s.rt.spills.any (fun e => e.1 == k) then s.put F.taskSkips 0 k else s
  if u.get F.taskState k = 0 then u else u.put F.taskState 0 k

/-- The registers of the tasks. -/
def cycleRegs : List (Fld × Nat) :=
  (List.range 32).map (fun k => (F.taskState, k)) ++ (List.range 32).map (fun k => (F.taskSkips, k))

theorem Writes.dropTask {s : State} {k : Nat} : Writes [F.taskSkips, F.taskState] s (s.dropTask k) :=
  have skips : Writes [F.taskSkips, F.taskState] s (if s.rt.spills.any (fun e => e.1 == k) then s.put F.taskSkips 0 k else s) :=
    .ite (fun _ => .put .refl (by decide)) fun _ => .refl
  .ite (fun _ => skips) fun _ => .put skips (by decide)

theorem RegsBut.dropTask (s : State) {k : Nat} (h : k < 32) : RegsBut cycleRegs s (s.dropTask k) :=
  have state : (F.taskState, k) ∈ cycleRegs := List.mem_append_left _ (List.mem_map.2 ⟨k, List.mem_range.2 h, rfl⟩)
  have skip : (F.taskSkips, k) ∈ cycleRegs := List.mem_append_right _ (List.mem_map.2 ⟨k, List.mem_range.2 h, rfl⟩)
  have skips : RegsBut cycleRegs s (if s.rt.spills.any (fun e => e.1 == k) then s.put F.taskSkips 0 k else s) :=
    .ite (fun _ => .put .refl skip) fun _ => .refl
  .ite (fun _ => skips) fun _ => .put skips state

/-- The work of the cycles in progress is forgotten. -/
def State.forgetWork (s : State) : State :=
  { s with rt := { s.rt with runQ := [], work := [], late := [], withheld := [], unpublished := [], running := [], spills := []
                             errorReason := 0, errorUnit := [] } }

theorem State.dropTask_fun : State.dropTask = fun s t =>
    let s := if s.rt.spills.any (fun e => e.1 == t) then s.put F.taskSkips 0 t else s
    if s.get F.taskState t = 0 then s else s.put F.taskState 0 t := rfl

theorem State.dropCycles_eq (s : State) : s.dropCycles = ((List.range 32).foldl State.dropTask s).forgetWork := by
  rw [State.dropTask_fun]
  exact Eq.refl (State.forgetWork _)

theorem Writes.forgetWork {ws : List Fld} {s t : State} (h : Writes ws s t) : Writes ws s t.forgetWork := h.upd rfl rfl rfl rfl

theorem Writes.dropCycles {s : State} : Writes [F.taskSkips, F.taskState] s s.dropCycles := by
  rw [State.dropCycles_eq]
  exact .forgetWork (.foldl .refl fun _ _ => .dropTask)

theorem RegsBut.forgetWork {l : List (Fld × Nat)} {s t : State} (h : RegsBut l s t) : RegsBut l s t.forgetWork := h.regs rfl

theorem RegsBut.dropCycles (s : State) : RegsBut cycleRegs s s.dropCycles := by
  rw [State.dropCycles_eq]
  exact .forgetWork (.foldl .refl fun u k hk => .dropTask u (List.mem_range.1 hk))

/-! The end of a debug session (R478, R481). -/

/-- The registers of a debug session that ends. -/
def State.dbgClosed (s : State) : State := (((s.put F.dbg 0).put F.debugSession 0).put F.debugLeft 0).put F.haltState 0

/-- Halted cores run on. -/
def State.unhalted (s : State) : State := if s.get F.haltState = 1 then s.dropCycles else s

theorem State.endDebug_eq {s : State} (h : s.get F.dbg ≠ 0) (cause : Nat) : s.endDebug cause =
    ({ (s.unhalted.auditBy (s.unhalted.get F.debugSession) 0x06 0 cause).dbgClosed with
        sec := { (s.unhalted.auditBy (s.unhalted.get F.debugSession) 0x06 0 cause).sec with kind := 0, scope := 0, left := 0, cmd := 0 } } :
      State).raise 389 1 1 [(8, 1), (8, s.sec.kind), (8, cause)] := if_neg h

/-- The fields that the end of a debug session writes. -/
def debugFields : List Fld :=
  [F.dbg, F.debugSession, F.debugLeft, F.haltState, F.taskSkips, F.taskState] ++ auditFields

/-- Its registers. -/
def debugRegs : List (Fld × Nat) :=
  [(F.dbg, 0), (F.debugSession, 0), (F.debugLeft, 0), (F.haltState, 0), (F.raised, 389)] ++ auditRegs ++ cycleRegs

theorem Writes.unhalted {s : State} : Writes [F.taskSkips, F.taskState] s s.unhalted := .ite (fun _ => .dropCycles) fun _ => .refl

theorem Writes.dbgClosed {s : State} : Writes [F.dbg, F.debugSession, F.debugLeft, F.haltState] s s.dbgClosed :=
  .put (.put (.put (.put .refl (by decide)) (by decide)) (by decide)) (by decide)

theorem Writes.endDebug {s : State} {cause : Nat} : Writes debugFields s (s.endDebug cause) := by
  by_cases none : s.get F.dbg = 0
  · rw [State.endDebug, if_pos none]
    exact .refl
  · have audited : Writes debugFields s (s.unhalted.auditBy (s.unhalted.get F.debugSession) 0x06 0 cause) :=
      (Writes.unhalted.mono (by decide)).trans ((Writes.refl.auditBy).mono (by decide))
    rw [State.endDebug_eq none]
    exact .raise ((audited.trans (Writes.dbgClosed.mono (by decide))).upd rfl rfl rfl rfl) (by decide)

theorem RegsBut.endDebug (s : State) (cause : Nat) : RegsBut debugRegs s (s.endDebug cause) := by
  by_cases none : s.get F.dbg = 0
  · rw [State.endDebug, if_pos none]
    exact .refl
  · have run : RegsBut debugRegs s s.unhalted :=
      .ite (fun _ => (RegsBut.dropCycles s).mono fun _ => List.mem_append_right _) fun _ => .refl
    have audited := run.trans ((RegsBut.auditBy s.unhalted (s.unhalted.get F.debugSession) 0x06 0 cause).mono
      fun _ h => List.mem_append_left _ (List.mem_append_right _ h))
    have closed : ∀ u, RegsBut debugRegs u u.dbgClosed := fun u =>
      .put (.put (.put (.put .refl (by simp [debugRegs])) (by simp [debugRegs])) (by simp [debugRegs])) (by simp [debugRegs])
    rw [State.endDebug_eq none]
    exact .raise ((audited.trans (closed _)).regs rfl) (by simp [debugRegs])

/-- It is over. -/
theorem State.get_endDebug {s : State} (h : s.get F.dbg ≠ 0) (cause : Nat) :
    (s.endDebug cause).get F.dbg = 0 ∧ (s.endDebug cause).get F.haltState = 0 := by
  have closed : ∀ u : State, u.dbgClosed.get F.dbg = 0 ∧ u.dbgClosed.get F.haltState = 0 := fun u =>
    ⟨(State.get_put_apart rfl).trans ((State.get_put_apart rfl).trans ((State.get_put_apart rfl).trans (State.get_put_self ..))),
      State.get_put_self ..⟩
  rw [State.endDebug_eq h]
  exact ⟨(State.get_raise_apart rfl).trans (closed _).1, (State.get_raise_apart rfl).trans (closed _).2⟩

end Sys2Proof.Machine

namespace Sys2Proof.Machine

open Sys2Proof

/-! Sessions that end (R382). -/

/-- LcpStatus counts the sessions. -/
theorem Writes.countSessions {s : State} : Writes [F.sessions, F.held] s s.countSessions :=
  .put (.put .refl (by decide)) (by decide)

theorem RegsBut.countSessions (s : State) : RegsBut [(F.sessions, 0), (F.held, 0)] s s.countSessions :=
  .put (.put .refl (by simp)) (by simp)

theorem State.get_countSessions (s : State) :
    s.countSessions.get F.sessions = (s.lcp.sessions.filter (fun x => !x.held)).length % 256 ∧
      s.countSessions.get F.held = (s.lcp.sessions.filter (fun x => x.held)).length % 256 :=
  ⟨(State.get_put_apart rfl).trans (State.get_put_self ..), State.get_put_self ..⟩

/-- A session that is held (R382). -/
theorem State.holdSession_spec (s : State) (id cause : Nat) :
    (s.holdSession id cause).lcp.sessions = s.lcp.sessions.map (fun x =>
      if x.id == id then { x with held := true, lossCause := cause, last := s.get F.beatIndex } else x) ∧
    (s.holdSession id cause).get F.sessions = ((s.holdSession id cause).lcp.sessions.filter (fun x => !x.held)).length % 256 ∧
    (s.holdSession id cause).get F.held = ((s.holdSession id cause).lcp.sessions.filter (fun x => x.held)).length % 256 ∧
    RegsBut [(F.sessions, 0), (F.held, 0)] s (s.holdSession id cause) ∧
    s.holdSession id cause = { s with regs := (s.holdSession id cause).regs
                                      lcp := { s.lcp with sessions := (s.holdSession id cause).lcp.sessions } } := by
  obtain ⟨opened, held⟩ := State.get_countSessions
    (s.onSession id fun x => { x with held := true, lossCause := cause, last := s.now })
  refine ⟨rfl, opened, held, RegsBut.trans (.regs .refl rfl) (RegsBut.countSessions _), rfl⟩

/-- A debug session of a session that ends is over (R478). -/
def State.dbgLeaves (s : State) (id : Nat) : State :=
  if s.get F.dbg != 0 && s.get F.debugSession == id then s.endDebug 3 else s

/-- The session, its ownership and its transfers are gone. -/
def State.sessionGone (s : State) (id : Nat) : State :=
  let t : State := { s with lcp := { s.lcp with
      sessions := s.lcp.sessions.filter (fun x => x.id != id)
      owners := s.lcp.owners.filter (fun o => o.2 != id)
      transfers := s.lcp.transfers.filter (fun t => t.sess != id) } }
  t.put F.ownedHandles t.lcp.owners.length

/-- A recorder frozen by the session runs on. -/
def State.recLeaves (s : State) (id : Nat) : State :=
  if s.flag F.recFrozen && s.get F.frozenBy == id then s.thaw else s

theorem State.releaseSession_eq (s : State) (id cause : Nat) : s.releaseSession id cause =
    (((s.dbgLeaves id).sessionGone id).recLeaves id).countSessions.raise 463 1 0 [(32, id), (8, cause)] := rfl

/-- The fields that the release writes. -/
def releaseFields : List Fld :=
  [F.sessions, F.held, F.ownedHandles, F.recFrozen, F.frozenBy, F.holdDepth] ++ debugFields

theorem Writes.dbgLeaves {s : State} {id : Nat} : Writes debugFields s (s.dbgLeaves id) := .ite (fun _ => .endDebug) fun _ => .refl

theorem Writes.sessionGone {s : State} {id : Nat} : Writes [F.ownedHandles] s (s.sessionGone id) :=
  .put (.upd .refl rfl rfl rfl rfl) (by decide)

theorem Writes.thaw {s : State} : Writes [F.recFrozen, F.frozenBy, F.holdDepth] s s.thaw :=
  .put (.put (.put (.upd .refl rfl rfl rfl rfl) (by decide)) (by decide)) (by decide)

theorem Writes.recLeaves {s : State} {id : Nat} : Writes [F.recFrozen, F.frozenBy, F.holdDepth] s (s.recLeaves id) :=
  .ite (fun _ => .thaw) fun _ => .refl

/-- All that the release does before its event. -/
def State.released (s : State) (id : Nat) : State := (((s.dbgLeaves id).sessionGone id).recLeaves id).countSessions

theorem Writes.released {s : State} {id : Nat} : Writes releaseFields s (s.released id) :=
  (Writes.dbgLeaves.mono (by decide)).trans ((Writes.sessionGone.mono (by decide)).trans
    ((Writes.recLeaves.mono (by decide)).trans (Writes.countSessions.mono (by decide))))

theorem RegsBut.releaseSession (s : State) (id cause : Nat) : RegsBut releaseRegs s (s.releaseSession id cause) := by
  have ended : RegsBut releaseRegs s (s.dbgLeaves id) :=
    .ite (fun _ => (RegsBut.endDebug s 3).mono fun p h => by
      simp only [debugRegs, cycleRegs, releaseRegs, List.mem_append, List.mem_cons] at h ⊢; tauto) fun _ => .refl
  have gone : RegsBut releaseRegs s ((s.dbgLeaves id).sessionGone id) := .put (ended.regs rfl) (by simp [releaseRegs])
  have thaw : ∀ u : State, RegsBut releaseRegs u u.thaw := fun u =>
    .put (.put (.put (.regs .refl rfl) (by simp [releaseRegs])) (by simp [releaseRegs])) (by simp [releaseRegs])
  have recorder : RegsBut releaseRegs s (((s.dbgLeaves id).sessionGone id).recLeaves id) :=
    gone.trans (.ite (fun _ => thaw _) fun _ => .refl)
  rw [State.releaseSession_eq]
  exact .raise (recorder.trans ((RegsBut.countSessions _).mono (by simp [releaseRegs]))) (by simp [releaseRegs])

theorem State.dbgLeaves_lcp (s : State) (id : Nat) : (s.dbgLeaves id).lcp = s.lcp := by
  unfold State.dbgLeaves
  split
  · rw [State.endDebug_touches.eq_takes]
    rfl
  · rfl

theorem State.recLeaves_lcp (s : State) (id : Nat) : (s.recLeaves id).lcp = s.lcp := by
  unfold State.recLeaves
  split <;> rfl

/-- What is left of the sessions. -/
theorem State.releaseSession_lcp (s : State) (id cause : Nat) : (s.releaseSession id cause).lcp =
    { s.lcp with sessions := s.lcp.sessions.filter (fun x => x.id != id), owners := s.lcp.owners.filter (fun o => o.2 != id)
                 transfers := s.lcp.transfers.filter (fun t => t.sess != id) } := by
  have counted : ∀ u : State, (u.countSessions.raise 463 1 0 [(32, id), (8, cause)]).lcp = u.lcp := fun _ => rfl
  have gone : ∀ u : State, (u.sessionGone id).lcp =
      { u.lcp with sessions := u.lcp.sessions.filter (fun x => x.id != id), owners := u.lcp.owners.filter (fun o => o.2 != id)
                   transfers := u.lcp.transfers.filter (fun t => t.sess != id) } := fun _ => rfl
  rw [State.releaseSession_eq, counted, State.recLeaves_lcp, gone, State.dbgLeaves_lcp]

/-- A field that only the recorder's thaw or less changes behind the end of the ownership. -/
theorem State.get_releaseSession (s : State) (id cause : Nat) {g : Fld} (counts : g.offAll [F.sessions, F.held, F.raised] = true) :
    (s.releaseSession id cause).get g = (((s.dbgLeaves id).sessionGone id).recLeaves id).get g := by
  have last : ∀ u : State, Writes [F.sessions, F.held, F.raised] u (u.countSessions.raise 463 1 0 [(32, id), (8, cause)]) :=
    fun _ => .raise (.mono .countSessions (by decide)) (by decide)
  rw [State.releaseSession_eq]
  exact (last _).get counts

theorem State.get_released_handles (s : State) (id cause : Nat) : (s.releaseSession id cause).get F.ownedHandles =
    (s.lcp.owners.filter (fun o => o.2 != id)).length % 65536 := by
  have gone : ((s.dbgLeaves id).sessionGone id).get F.ownedHandles =
      ((s.dbgLeaves id).lcp.owners.filter (fun o => o.2 != id)).length % 65536 := State.get_put_self ..
  rw [State.get_releaseSession s id cause rfl, Writes.recLeaves.get rfl, gone, State.dbgLeaves_lcp]

/-- A recorder frozen by the session takes records again. -/
theorem State.releaseSession_thaws {s : State} {id : Nat} (cause : Nat) (frozen : s.get F.recFrozen = 1) (own : s.get F.frozenBy = id) :
    (s.releaseSession id cause).get F.recFrozen = 0 ∧ (s.releaseSession id cause).jr.recHold = [] := by
  have before : Writes (F.ownedHandles :: debugFields) s ((s.dbgLeaves id).sessionGone id) :=
    (Writes.dbgLeaves.mono (by decide)).trans (Writes.sessionGone.mono (by decide))
  have frozen' : ((s.dbgLeaves id).sessionGone id).flag F.recFrozen = true := State.flag_of_one ((before.get rfl).trans frozen)
  have own' : ((s.dbgLeaves id).sessionGone id).get F.frozenBy = id := (before.get rfl).trans own
  have thawed : ((s.dbgLeaves id).sessionGone id).recLeaves id = ((s.dbgLeaves id).sessionGone id).thaw := if_pos (by simp [frozen', own'])
  refine ⟨?_, ?_⟩
  · rw [State.get_releaseSession s id cause rfl, thawed]
    exact (State.get_put_apart rfl).trans ((State.get_put_apart rfl).trans (State.get_put_self ..))
  · rw [State.releaseSession_eq, thawed]
    generalize (s.dbgLeaves id).sessionGone id = u
    rfl

/-- Its debug session is over. -/
theorem State.releaseSession_undebugs {s : State} {id : Nat} (cause : Nat) (active : s.get F.dbg ≠ 0) (own : s.get F.debugSession = id) :
    (s.releaseSession id cause).get F.dbg = 0 ∧ (s.releaseSession id cause).get F.haltState = 0 := by
  obtain ⟨dbg, halt⟩ := State.get_endDebug active 3
  have ended : s.dbgLeaves id = s.endDebug 3 := if_pos (by simp [active, own])
  rw [State.get_releaseSession s id cause rfl, State.get_releaseSession s id cause rfl, Writes.recLeaves.get rfl,
    Writes.recLeaves.get rfl, Writes.sessionGone.get rfl, Writes.sessionGone.get rfl, ended]
  exact ⟨dbg, halt⟩

theorem State.releaseSession_released (s : State) (id cause : Nat) : SessionReleased id cause s (s.releaseSession id cause) := by
  refine ⟨?_, ?_, State.get_released_handles .., State.releaseSession_thaws cause, State.releaseSession_undebugs cause, ?_⟩
  · rw [State.releaseSession_lcp]
  · rw [State.releaseSession_lcp]
  · exact Writes.released.raisedLast (by decide) (by simp)

/-- The sessions left have another ID. -/
theorem State.releaseSession_forgets (s : State) (id cause : Nat) : ∀ x ∈ (s.releaseSession id cause).lcp.sessions, x.id ≠ id := by
  rw [State.releaseSession_lcp]
  intro x hx
  simpa using (List.mem_filter.1 hx).2

/-- BYE is answered, then its session is released. -/
theorem bye_releases {p : Packet} {u : UnitSel} {s : State} (h : Passes .bye p (noChk p) u s) (bare : p.tlvs = []) :
    exec (.bye p) s = .next (((s.noteSeq p).answer (mkReply .bye p (s.noteSeq p) (some u) 0 stOk [])).releaseSession p.sess 1) := by
  show execBye p s = _
  have answered : served .bye p (fun _ _ => .ok) (fun _ s => { st := s }) s =
      (s.noteSeq p).answer (mkReply .bye p (s.noteSeq p) (some u) 0 stOk []) := served_ok h
  have reached : admission .bye p s = .go u := h.1
  unfold execBye
  rw [answered]
  exact congrArg Host.Outcome.next (if_pos (by rw [reached]; simp [bare]))

/-- No register changes with an answer. -/
theorem RegsBut.answered {l : List (Fld × Nat)} (s : State) (p : Packet) (r : Reply) : RegsBut l s ((s.noteSeq p).answer r) :=
  .regs .refl rfl

/-- The state that a reply leaves, as the release reads it. -/
theorem SessionReleased.of_answer {id cause : Nat} {s t : State} {r : Reply} (h : SessionReleased id cause (s.answer r) t) :
    SessionReleased id cause s t := h

theorem Session.id_answered (x : Session) (r : Reply) : (if (x.id == r.sess) = true then x.remember r else x).id = x.id := by
  split
  · simp only [Session.remember]
  · rfl

/-- SESSION_PRIORITY sets the priority of the next Freeze. -/
theorem does_sessionPriority {p : Packet} {u : UnitSel} {s : State} (h : Passes .sessionPriority p (fun _ _ => needTlv p 0x001D) u s) :
    Does (.sessionPriority p) s fun t =>
      (∀ x ∈ t.lcp.sessions, x.id = p.sess → x.nextPrio = some (min (p.val 0x001D 0) (prioCap (s.privOf p.sess)))) ∧
      Replied .sessionPriority p u stOk [tlv 0x001D 1 (min (p.val 0x001D 0) (prioCap (s.privOf p.sess)))] false s t ∧
      OnlyAnswered s t := by
  have priv : (s.noteSeq p).privOf p.sess = s.privOf p.sess := by
    have noted : (s.noteSeq p).session? p.sess = (s.session? p.sess).map fun x => { x with high := p.seq, last := s.now } :=
      State.session?_onSession fun _ => ⟨rfl, rfl⟩
    unfold State.privOf
    rw [noted]
    cases s.session? p.sess <;> rfl
  refine does_served h rfl fun r hr => ⟨fun x hx own => ?_, ?_, rfl⟩
  · obtain ⟨y, hy, rfl⟩ := List.mem_map.1 hx
    obtain ⟨z, -, rfl⟩ := List.mem_map.1 hy
    rw [← priv]
    by_cases named : (z.id == p.sess) = true
    · simp only [named, if_true]
      split <;> rfl
    · rw [if_neg named] at own
      exact absurd (beq_iff_eq.2 ((Session.id_answered z r).symm.trans own)) named
  · rw [← priv]
    exact replied_mk hr rfl

/-- Settles O13: a session is held by `State.holdSession_spec`, and goes by what `State.releaseSession` leaves. -/
theorem sessionsAreHeldAndReleased : Obligations.SessionsAreHeldAndReleased := by
  unfold Obligations.SessionsAreHeldAndReleased
  refine ⟨fun p u s h bare => ?bye, fun id s x session => ?loss, fun id s x session up => ?idle, fun id s x held up => ?grace,
    fun p u s h => does_sessionPriority h⟩
  case bye =>
    have mem : ∀ r, ((s.noteSeq p).answer r).mem = s.mem := fun _ => rfl
    refine ⟨_, bye_releases h bare, ⟨mkReply .bye p (s.noteSeq p) (some u) 0 stOk [], ?_, rfl, rfl, rfl⟩,
      State.releaseSession_forgets _ _ _, ?_, ?_, ?_⟩
    · rw [State.releaseSession_lcp]
      rfl
    · exact SessionReleased.of_answer (State.releaseSession_released ..)
    · exact (RegsBut.answered s p _).trans (RegsBut.releaseSession _ _ _)
    · exact State.releaseSession_touches.mem_eq rfl |>.trans (mem _)
  case loss =>
    exact ⟨_, congrArg Host.Outcome.next (if_pos (by rw [session]; rfl)), State.holdSession_spec s id 2⟩
  case idle =>
    refine ⟨_, congrArg Host.Outcome.next ?_, State.holdSession_spec s id 3⟩
    rw [session]
    exact if_pos (State.elapsed_iff.2 up)
  case grace =>
    refine ⟨s.releaseSession id x.lossCause, congrArg Host.Outcome.next ?_, ?_, State.releaseSession_released ..,
      RegsBut.releaseSession _ _ _, State.releaseSession_touches.mem_eq rfl⟩
    · rw [held]
      exact if_pos (State.elapsed_iff.2 up)
    · rw [State.releaseSession_lcp]

end Sys2Proof.Machine

namespace Sys2Proof.Machine

open Sys2Proof

/-! A session that HELLO opens or resumes (R381, R382). -/

/-- The reply of a granted HELLO. -/
def greeting (s : State) (p : Packet) (x : Session) (resumed : Bool) : Reply :=
  { mkReply .hello p s.countSessions (some .pair) 0 stOk (helloTlvs s.countSessions x resumed) with sess := x.id }

/-- SESSION_OPENED and the reply, once the session stands among the others. -/
def State.greets (s : State) (p : Packet) (x : Session) (resumed : Bool) : State :=
  (s.countSessions.sessionOpened x resumed).answer (greeting s p x resumed)

/-- A resumed session, as its HELLO leaves it. -/
def resumedSession (s : State) (p : Packet) (x : Session) : Session :=
  { x with held := false, lossCause := 0, service := p.service, pairIp := p.pairIp, last := s.now, high := max x.high p.seq }

/-- A new session stands among the others. -/
def State.withSession (s : State) (p : Packet) : State :=
  { s with lcp := { s.lcp with sessions := s.lcp.sessions ++ [newSession s p], nextSess := nextId s.lcp.nextSess } }

theorem State.openSession_new {s : State} {p : Packet} (h : s.resumable p = none) :
    s.openSession p = (s.withSession p).greets p (newSession s p) false := by
  unfold State.openSession
  rw [h]
  rfl

theorem State.openSession_resumed {s : State} {p : Packet} {x : Session} (h : s.resumable p = some x) :
    s.openSession p = (s.onSession x.id fun _ => resumedSession s p x).greets p (resumedSession s p x) true := by
  unfold State.openSession
  rw [h]
  rfl

section

variable (s : State) (p : Packet) (x : Session) (resumed : Bool)

theorem greeting_greets : GreetedWith x.id x.prio x.priv resumed s (greeting s p x resumed) := by
  have counted : ∀ g : Fld, g.offAll [F.sessions, F.held] = true → s.countSessions.get g = s.get g := fun g off =>
    Writes.countSessions.get off
  refine ⟨rfl, rfl, ?_⟩
  unfold greeting helloTlvs State.now
  dsimp only
  rw [counted F.beatIndex rfl, counted F.side rfl, counted F.role rfl]
  rfl

/-- What the record and the event of an opened session change. -/
theorem State.sessionOpened_spec : ∃ q : AuditRec, q.action = 0x01 ∧ q.result = 0 ∧ q.subject = x.fp % 2 ^ 32 ∧
    (s.sessionOpened x resumed).sec.audit.getLast? = some q ∧
    s.sessionOpened x resumed = { s with regs := (s.sessionOpened x resumed).regs, ev := (s.sessionOpened x resumed).ev
                                         sec := { s.sec with audit := (s.sessionOpened x resumed).sec.audit } } ∧
    RegsBut ((F.raised, 462) :: auditRegs) s (s.sessionOpened x resumed) := by
  obtain ⟨q, action, result, subject, sec, last, -, regs, parts⟩ := auditEq s 0x01 0 x.priv x.priv x.fp
  have whole : s.audit 0x01 0 x.priv x.priv x.fp = { s with
      regs := (s.audit 0x01 0 x.priv x.priv x.fp).regs, ev := (s.audit 0x01 0 x.priv x.priv x.fp).ev
      sec := { s.sec with audit := (s.audit 0x01 0 x.priv x.priv x.fp).sec.audit } } := by
    rw [← sec]
    exact parts
  refine ⟨q, action, result, subject, last, ?_, .raise (regs.mono fun _ => List.mem_cons_of_mem _) (by simp)⟩
  exact congrArg (fun u : State => { u with regs := (s.sessionOpened x resumed).regs, ev := (s.sessionOpened x resumed).ev }) whole

/-- SESSION_OPENED is the last event of an opened session. -/
theorem State.sessionOpened_raises : RaisedLast [eventOf s 462 1 0 [(32, x.id), (32, x.fp)],
    { eventOf s 462 1 0 [(8, x.prio), (8, if resumed then 1 else 0)] with cont := true }] s (s.countSessions.sessionOpened x resumed) := by
  have counted : Writes ([F.sessions, F.held] ++ auditFields) s (s.countSessions.audit 0x01 0 x.priv x.priv x.fp) :=
    (Writes.countSessions.mono (by decide)).trans ((Writes.refl.audit).mono (by decide))
  obtain ⟨es, router⟩ := counted.router
  refine ⟨es, ?_⟩
  rw [← List.append_assoc, router]
  exact State.raise_router_two (l := [(32, x.id), (32, x.fp)]) counted (by decide) (by simp) (by simp) (by simp)

/-- What a granted HELLO does, once its session stands among the others. -/
theorem State.greets_spec :
    (s.greets p x resumed).lcp = { s.lcp with
      sessions := s.lcp.sessions.map (fun y => if y.id == x.id then y.remember (greeting s p x resumed) else y)
      wire := s.lcp.wire ++ [greeting s p x resumed] } ∧
    RaisedLast [eventOf s 462 1 0 [(32, x.id), (32, x.fp)],
      { eventOf s 462 1 0 [(8, x.prio), (8, if resumed then 1 else 0)] with cont := true }] s (s.greets p x resumed) ∧
    Audited 0x01 0 x.fp (s.greets p x resumed) ∧
    (s.greets p x resumed).get F.sessions = (s.lcp.sessions.filter (fun x => !x.held)).length % 256 ∧
    RegsBut ([(F.sessions, 0), (F.held, 0), (F.raised, 462)] ++ auditRegs) s (s.greets p x resumed) ∧
    s.greets p x resumed = { s with regs := (s.greets p x resumed).regs, ev := (s.greets p x resumed).ev
                                    lcp := (s.greets p x resumed).lcp
                                    sec := { s.sec with audit := (s.greets p x resumed).sec.audit } } := by
  obtain ⟨counted, -⟩ := s.get_countSessions
  obtain ⟨q, action, result, subject, last, parts, regs⟩ := s.countSessions.sessionOpened_spec x resumed
  have lcp : (s.countSessions.sessionOpened x resumed).lcp = s.lcp := by rw [parts]; rfl
  have raised := s.sessionOpened_raises x resumed
  have all : RegsBut ([(F.sessions, 0), (F.held, 0), (F.raised, 462)] ++ auditRegs) s (s.countSessions.sessionOpened x resumed) :=
    ((RegsBut.countSessions s).mono (by simp)).trans (regs.mono (by simp [auditRegs]))
  have sessions : (s.countSessions.sessionOpened x resumed).get F.sessions = s.countSessions.get F.sessions :=
    regs.get_apart (F.raised :: auditFields) (by simp [auditRegs, auditFields]) rfl
  have id : (greeting s p x resumed).sess = x.id := rfl
  unfold State.greets
  generalize s.countSessions.sessionOpened x resumed = u at last parts lcp raised all sessions
  refine ⟨?_, raised, ⟨q, last, action, result, subject⟩, sessions.trans counted, all.regs rfl, ?_⟩
  · rw [← lcp]
    rfl
  · exact congrArg (fun v : State => { v with lcp := (u.answer (greeting s p x resumed)).lcp }) parts

end

/-- A changed session stays one that is open or not. -/
theorem sessions_open_map {l : List Session} {f : Session → Session} (kept : ∀ x, (f x).held = x.held) :
    ((l.map f).filter (fun x => !x.held)).length = (l.filter (fun x => !x.held)).length := by
  rw [List.filter_map, List.length_map]
  have same : ((fun x : Session => !x.held) ∘ f) = fun x => !x.held := funext fun x => congrArg _ (kept x)
  rw [same]

theorem Session.held_answered (id : Nat) (x : Session) (r : Reply) : (if (x.id == id) = true then x.remember r else x).held = x.held := by
  split
  · simp only [Session.remember]
  · rfl

/-- A HELLO has opened or resumed its session, and leaves this nonce. -/
def HelloDone (p : Packet) (s : State) (nonce : Option Nat) (t : State) : Prop :=
  (∃ r, t.lcp.wire = s.lcp.wire ++ [r] ∧
    match s.resumable p with
    | none =>
      GreetedWith s.lcp.nextSess (min (p.val 0x001D 0) (prioCap p.cert.priv)) p.cert.priv false s r ∧
      t.lcp.nextSess = nextId s.lcp.nextSess ∧
      t.lcp.sessions = (s.lcp.sessions ++ [newSession s p]).map
        (fun x => if x.id == s.lcp.nextSess then Session.remember x r else x)
    | some x =>
      GreetedWith x.id x.prio x.priv true s r ∧ t.lcp.nextSess = s.lcp.nextSess ∧
      t.lcp.sessions = s.lcp.sessions.map (fun y => if y.id == x.id then
        Session.remember { x with held := false, lossCause := 0, service := p.service, pairIp := p.pairIp
                                  last := s.get F.beatIndex, high := max x.high p.seq } r
        else y)) ∧
  (match s.resumable p with
    | none => RaisedLast [eventOf s 462 1 0 [(32, s.lcp.nextSess), (32, p.cert.fp)],
        { eventOf s 462 1 0 [(8, min (p.val 0x001D 0) (prioCap p.cert.priv)), (8, 0)] with cont := true }] s t
        ∧ Audited 0x01 0 p.cert.fp t
    | some x => RaisedLast [eventOf s 462 1 0 [(32, x.id), (32, x.fp)],
        { eventOf s 462 1 0 [(8, x.prio), (8, 1)] with cont := true }] s t ∧ Audited 0x01 0 x.fp t) ∧
  t.get F.sessions = (t.lcp.sessions.filter (fun x => !x.held)).length % 256 ∧
  RegsBut ([(F.sessions, 0), (F.held, 0), (F.raised, 462)] ++ auditRegs) s t ∧
  t.lcp.nonce = nonce ∧
  t = { s with regs := t.regs, ev := t.ev
               lcp := { s.lcp with sessions := t.lcp.sessions, nextSess := t.lcp.nextSess, nonce := t.lcp.nonce
                                   wire := t.lcp.wire }
               sec := { s.sec with audit := t.sec.audit } }

theorem State.openSession_new_done {s : State} {p : Packet} (h : s.resumable p = none) : HelloDone p s s.lcp.nonce (s.openSession p) := by
  obtain ⟨lcp, raised, audited, sessions, regs, parts⟩ := (s.withSession p).greets_spec p (newSession s p) false
  have greeted := greeting_greets (s.withSession p) p (newSession s p) false
  rw [State.openSession_new h]
  generalize (s.withSession p).greets p (newSession s p) false = t at lcp raised audited sessions regs parts
  have open_ : (t.lcp.sessions.filter (fun x => !x.held)).length = ((s.withSession p).lcp.sessions.filter (fun x => !x.held)).length := by
    rw [lcp]
    exact sessions_open_map fun x => Session.held_answered _ x _
  refine ⟨⟨_, by rw [lcp]; rfl, ?_⟩, ?_, sessions.trans (by rw [open_]), regs, by rw [lcp]; rfl, ?_⟩
  · rw [h, lcp]
    exact ⟨greeted, rfl, rfl⟩
  · rw [h]
    exact ⟨raised, audited⟩
  · rw [lcp] at parts ⊢
    exact parts

theorem State.openSession_resumed_done {s : State} {p : Packet} {x : Session} (h : s.resumable p = some x) :
    HelloDone p s s.lcp.nonce (s.openSession p) := by
  obtain ⟨lcp, raised, audited, sessions, regs, parts⟩ :=
    (s.onSession x.id fun _ => resumedSession s p x).greets_spec p (resumedSession s p x) true
  have greeted := greeting_greets (s.onSession x.id fun _ => resumedSession s p x) p (resumedSession s p x) true
  rw [State.openSession_resumed h]
  generalize greeting (s.onSession x.id fun _ => resumedSession s p x) p (resumedSession s p x) true = r at lcp greeted
  generalize (s.onSession x.id fun _ => resumedSession s p x).greets p (resumedSession s p x) true = t at lcp raised audited sessions regs parts
  have open_ : (t.lcp.sessions.filter (fun x => !x.held)).length =
      ((s.onSession x.id fun _ => resumedSession s p x).lcp.sessions.filter (fun x => !x.held)).length := by
    rw [lcp]
    exact sessions_open_map fun x => Session.held_answered _ x _
  refine ⟨⟨r, by rw [lcp]; rfl, ?_⟩, ?_, sessions.trans (by rw [open_]), regs, by rw [lcp]; rfl, ?_⟩
  · rw [h, lcp]
    refine ⟨greeted, rfl, (List.map_map ..).trans (List.map_congr_left fun y _ => ?_)⟩
    by_cases named : (y.id == x.id) = true
    · rw [Function.comp_apply, if_pos named, if_pos named]
      exact if_pos (beq_self_eq_true _)
    · rw [Function.comp_apply, if_neg named, if_neg named]
      exact if_neg named
  · rw [h]
    exact ⟨raised, audited⟩
  · rw [lcp] at parts ⊢
    exact parts

/-- The packet's HELLO, once it is admitted with its checks passed. -/
theorem hello_runs {p : Packet} {s : State} {u : UnitSel} (go : admission .hello p s = .go u) (own : p.hopLen = 0)
    (ok : helloChk p = .ok) : exec (.hello p) s = .next (if p.service then s.helloService p else s.helloTls p) := by
  show Host.Outcome.next (s.hello p) = _
  unfold State.hello
  rw [go]
  dsimp only
  rw [if_neg (not_not.2 own), ok]

theorem State.openSession_done (s : State) (p : Packet) : HelloDone p s s.lcp.nonce (s.openSession p) := by
  cases h : s.resumable p with
  | none => exact State.openSession_new_done h
  | some x => exact State.openSession_resumed_done h

/-- The nonce is used up. -/
def State.nonceUsed (s : State) : State := { s with lcp := { s.lcp with nonce := none } }

/-- What a HELLO does does not depend on the nonce that it used. -/
theorem HelloDone.of_nonceUsed {p : Packet} {s t : State} {n : Option Nat} (h : HelloDone p s.nonceUsed n t) : HelloDone p s n t := h

/-- A signed HELLO on the service port (R403). -/
theorem State.helloService_granted {p : Packet} {s : State} (signed : p.has 0x800D = true) (nonce : s.lcp.nonce.isSome = true)
    (chain : p.has 0x800E = true) (chainOk : p.chainOk = true) (sigOk : p.sigOk = true)
    (first : (s.lcp.sessions.filter (fun x => x.service && !x.held)).length = 0) :
    s.helloService p = s.nonceUsed.openSession p := by
  have alone : ¬(s.nonceUsed.lcp.sessions.filter (fun x => x.service && !x.held)).length ≥ 1 := by
    have same : s.nonceUsed.lcp.sessions = s.lcp.sessions := rfl
    rw [same, first]
    decide
  have some : s.lcp.nonce.isNone = false := by
    cases given : s.lcp.nonce with
    | none => rw [given] at nonce; cases nonce
    | some n => rfl
  unfold State.helloService
  exact (if_neg (by simp [signed])).trans ((if_neg (by simp [some])).trans ((if_neg (by simp [chain, chainOk])).trans
    ((if_neg (by simp [sigOk])).trans (if_neg alone))))

/-- A HELLO on TLS with a session free or to resume (R379). -/
theorem State.helloTls_granted {p : Packet} {s : State}
    (room : (s.resumable p).isSome = true ∨ (s.lcp.sessions.filter (fun x => !x.service)).length < 16) :
    s.helloTls p = s.openSession p := by
  refine if_neg fun ⟨anew, full⟩ => ?_
  rcases room with resumes | free
  · cases h : s.resumable p with
    | none => rw [h] at resumes; cases resumes
    | some x => rw [h] at anew; cases anew
  · exact absurd full (Nat.not_le.2 free)

/-- Settles O12: the nonce by its own branch, a granted HELLO by what `State.openSession` does. -/
theorem helloOpensOrResumesASession : Obligations.HelloOpensOrResumesASession := by
  unfold Obligations.HelloOpensOrResumesASession
  refine ⟨fun p s u go own ok service unsigned => ?nonce, fun p s granted => ?granted⟩
  case nonce =>
    have runs : exec (.hello p) s = .next (s.helloService p) := (hello_runs go own ok).trans (by rw [if_pos service])
    have fresh : s.helloService p = _ := if_pos (by rw [unsigned]; rfl)
    exact ⟨_, runs.trans (congrArg _ fresh), (s.fresh 256).1, rfl, s.fresh_lt 256, ⟨_, rfl, rfl, rfl⟩, rfl⟩
  case granted =>
    obtain ⟨⟨u, go⟩, own, ok, allowed⟩ := granted
    by_cases service : p.service = true
    · rw [if_pos service] at allowed
      obtain ⟨signed, nonce, chain, chainOk, sigOk, first⟩ := allowed
      have runs : exec (.hello p) s = .next (s.nonceUsed.openSession p) := (hello_runs go own ok).trans
        (by rw [if_pos service, State.helloService_granted signed nonce chain chainOk sigOk first])
      refine ⟨_, runs, ?_⟩
      rw [if_pos service]
      exact HelloDone.of_nonceUsed (State.openSession_done ..)
    · rw [if_neg service] at allowed
      have runs : exec (.hello p) s = .next (s.openSession p) := (hello_runs go own ok).trans
        (by rw [if_neg service, State.helloTls_granted allowed])
      refine ⟨_, runs, ?_⟩
      rw [if_neg service]
      exact State.openSession_done ..

end Sys2Proof.Machine

namespace Sys2Proof.Machine

open Sys2Proof

/-! Mode changes: the fields they write (R55 to R62). -/

theorem Writes.dropTransfers {ws : List Fld} {s t : State} {b : Bool} (h : Writes ws s t) : Writes ws s (t.dropTransfers b) :=
  h.upd rfl rfl rfl rfl

theorem Writes.journal {ws : List Fld} {s t : State} {a k l p : Nat} {b c : Bool} (h : Writes ws s t) (hf : F.raised ∈ ws) :
    Writes ws s (t.journal a k l p b c) :=
  .ite (fun _ => h.upd rfl rfl rfl rfl) fun _ => .raise (h.upd rfl rfl rfl rfl) hf

/-- The fields of the module's epoch. -/
def ownEpochFields : List Fld := [F.epoch, F.lastChangeBeat, F.lastEpochCause, F.raised]

theorem Writes.bumpOwn {s : State} {c : Nat} : Writes ownEpochFields s (s.bumpOwn c) :=
  .journal (.dropTransfers (.put (.put (.put .refl (by decide)) (by decide)) (by decide))) (by decide)

theorem Writes.bumpPair {s : State} {c : Nat} : Writes [F.raised] s (s.bumpPair c) :=
  .journal (.dropTransfers (.upd .refl rfl rfl rfl rfl)) (by decide)

theorem Writes.refreshDrive {s : State} : Writes [F.claim, F.driveEn] s s.refreshDrive :=
  .putFlag (.putFlag .refl (by decide)) (by decide)

/-- The fields that a change of mode or role writes. -/
def modeFields : List Fld :=
  [F.mode, F.role, F.ready, F.safeCause, F.unitRole, F.pairSource, F.claim, F.driveEn] ++ ownEpochFields

/-- The four values that a mode change sets. -/
def State.modePut (s : State) (m r d c : Nat) : State := (((s.put F.mode m).put F.role r).put F.ready d).put F.safeCause c

/-- A changed role shows in the unit's record and in the module's epoch. -/
def State.roleMoves (s : State) (old r e : Nat) : State :=
  if old = r then s else ((s.put F.unitRole r).putFlag F.pairSource (r == rStandby || r == rShadow)).bumpOwn e

/-- The first ACTIVE after a time without one is an epoch event of the pair. -/
def State.pairLeads (s : State) (r : Nat) : State := if r == rActive && s.units.noActive then s.bumpPair 8 else s

/-- A module that acts ends a time without an ACTIVE. -/
def State.actorNoted (s : State) (r : Nat) : State :=
  if r == rSolo || r == rActive then { s with units := { s.units with noActive := false } } else s

/-- One that acts no more begins such a time, where the partner does not act. -/
def State.actorMissed (s : State) (old r : Nat) : State :=
  if !(r == rSolo || r == rActive) && (old == rSolo || old == rActive) && s.pair.partnerRole != rActive
  then { s with units := { s.units with noActive := true } } else s

/-- All that a mode change does before its event. -/
def State.modeMoves (s : State) (m r d c e : Nat) : State :=
  (((((s.modePut m r d c).roleMoves (s.get F.role) r e).pairLeads r).actorNoted r).actorMissed (s.get F.role) r).refreshDrive

theorem State.setMode_eq (s : State) (m r d c k e : Nat) : s.setMode m r d c k e =
    if s.get F.mode = m ∧ s.get F.role = r ∧ s.get F.ready = d ∧ s.get F.safeCause = c then s
    else (s.modeMoves m r d c e).raise 450 1 0 [(3, s.get F.mode), (3, m), (3, s.get F.role), (3, r), (1, s.get F.ready), (1, d),
      (4, s.get F.safeCause), (4, c), (8, k)] := rfl

theorem Writes.modeMoves {s : State} {m r d c e : Nat} : Writes modeFields s (s.modeMoves m r d c e) := by
  have put : Writes modeFields s (s.modePut m r d c) := .put (.put (.put (.put .refl (by decide)) (by decide)) (by decide)) (by decide)
  have role : ∀ u : State, Writes modeFields u (u.roleMoves (s.get F.role) r e) := fun u => .ite (fun _ => .refl) fun _ =>
    (Writes.putFlag (.put .refl (by decide)) (by decide)).trans (Writes.bumpOwn.mono (by decide))
  have pair : ∀ u : State, Writes modeFields u (u.pairLeads r) := fun u => .ite (fun _ => Writes.bumpPair.mono (by decide)) fun _ => .refl
  have noted : ∀ u : State, Writes modeFields u (u.actorNoted r) := fun u => .ite (fun _ => .upd .refl rfl rfl rfl rfl) fun _ => .refl
  have missed : ∀ u : State, Writes modeFields u (u.actorMissed (s.get F.role) r) := fun u =>
    .ite (fun _ => .upd .refl rfl rfl rfl rfl) fun _ => .refl
  exact put.trans ((role _).trans ((pair _).trans ((noted _).trans ((missed _).trans (Writes.refreshDrive.mono (by decide))))))

theorem Writes.setMode {s : State} {m r d c k e : Nat} : Writes modeFields s (s.setMode m r d c k e) := by
  rw [State.setMode_eq]
  exact .ite (fun _ => .refl) fun _ => .raise .modeMoves (by decide)

/-- The field that a mode change reads as set; the fields that follow it are others. -/
theorem State.get_modeMoves (s : State) (m r d c e : Nat) {g : Fld}
    (off : g.offAll ([F.unitRole, F.pairSource, F.claim, F.driveEn] ++ ownEpochFields) = true) :
    (s.modeMoves m r d c e).get g = (s.modePut m r d c).get g := by
  have role : ∀ u : State, Writes ([F.unitRole, F.pairSource, F.claim, F.driveEn] ++ ownEpochFields) u (u.roleMoves (s.get F.role) r e) := fun u =>
    .ite (fun _ => .refl) fun _ => (Writes.putFlag (.put .refl (by decide)) (by decide)).trans (Writes.bumpOwn.mono (by decide))
  have pair : ∀ u : State, (u.pairLeads r).get g = u.get g := fun u =>
    (Writes.ite (ws := [F.unitRole, F.pairSource, F.claim, F.driveEn] ++ ownEpochFields)
      (fun _ => Writes.bumpPair.mono (by decide)) fun _ => .refl : Writes _ u (u.pairLeads r)).get off
  have noted : ∀ u : State, (u.actorNoted r).get g = u.get g := fun u => by unfold State.actorNoted; split <;> rfl
  have missed : ∀ u : State, (u.actorMissed (s.get F.role) r).get g = u.get g := fun u => by unfold State.actorMissed; split <;> rfl
  exact ((Writes.refreshDrive.mono (by decide)).get off).trans ((missed _).trans ((noted _).trans ((pair _).trans ((role _).get off))))

/-- READY after a mode change. -/
theorem State.get_setMode_ready (s : State) {m r d c k e : Nat} (hd : d < 2) : (s.setMode m r d c k e).get F.ready = d := by
  rw [State.setMode_eq]
  split
  · next same =>
    obtain ⟨-, -, ready, -⟩ := same
    exact ready
  · rw [State.get_raise_apart rfl, State.get_modeMoves _ _ _ _ _ _ rfl]
    exact (State.get_put_apart rfl).trans (State.get_put_fits hd)

/-- SAFE_CAUSE after a mode change. -/
theorem State.get_setMode_cause (s : State) {m r d c k e : Nat} (hc : c < 16) : (s.setMode m r d c k e).get F.safeCause = c := by
  rw [State.setMode_eq]
  split
  · next same =>
    obtain ⟨-, -, -, cause⟩ := same
    exact cause
  · rw [State.get_raise_apart rfl, State.get_modeMoves _ _ _ _ _ _ rfl]
    exact State.get_put_fits hc

/-! A STANDBY that drops to SYNCING. -/

/-- What a STANDBY forgets of its ACTIVE. -/
def State.unsynced (s : State) : State :=
  (({ s with pair := { s.pair with current := false, rx := [], images := [] } } : State).put F.pairState 2).put F.resyncing 1

theorem State.dropSync_eq {s : State} (h : s.get F.role = 3) : s.dropSync =
    s.unsynced.setMode (s.unsynced.get F.mode) rStandby 0 (s.unsynced.get F.safeCause) 0 := if_neg (not_not.2 h)

/-- The fields that the drop to SYNCING writes. -/
def syncFields : List Fld := [F.pairState, F.resyncing] ++ modeFields

theorem Writes.unsynced {s : State} : Writes [F.pairState, F.resyncing] s s.unsynced :=
  .put (.put (.upd .refl rfl rfl rfl rfl) (by decide)) (by decide)

theorem Writes.dropSync {s : State} : Writes syncFields s s.dropSync :=
  .ite (fun _ => .refl) fun _ => (Writes.unsynced.mono (by decide)).trans (Writes.setMode.mono (by decide))

/-- A STANDBY is SYNCING, and keeps its mode. -/
theorem State.dropSync_spec {s : State} (h : s.get F.role = 3) (known : s.get F.mode < 8) : s.dropSync.get F.role = 3 ∧ s.dropSync.get F.mode = s.get F.mode ∧
    s.dropSync.get F.ready = 0 ∧ s.dropSync.get F.pairState = 2 ∧ s.dropSync.get F.resyncing = 1 ∧
    s.dropSync.pair = { s.pair with current := false, rx := [], images := [] } := by
  have mode : s.unsynced.get F.mode < 8 := by rwa [Writes.unsynced.get rfl]
  obtain ⟨modeIs, role⟩ := setMode_gets s.unsynced _ rStandby 0 (s.unsynced.get F.safeCause) 0 1 mode (by decide)
  rw [State.dropSync_eq h]
  refine ⟨role, modeIs.trans (Writes.unsynced.get rfl), State.get_setMode_ready _ (by decide),
    (Writes.setMode.get rfl).trans ?_, (Writes.setMode.get rfl).trans
    (State.get_put_self ..), ?_⟩
  · exact (State.get_put_apart rfl).trans (State.get_put_self ..)
  · rw [State.setMode_touches.eq_takes]
    rfl

end Sys2Proof.Machine

namespace Sys2Proof.Machine

open Sys2Proof

theorem Touches.sec_eq {m : Parts} {s t : State} (h : Touches m s t) (hm : m.sec = false) : t.sec = s.sec := by
  have same := congrArg State.sec h
  simpa only [State.without, hm, cond_false] using same

/-! Debug commands (R474, R478 to R481). -/

/-- An audit record changes the log, its counts and the events, and nothing else. -/
theorem State.auditBy_parts (s : State) (i a r d : Nat) : s.auditBy i a r d =
    { s with regs := (s.auditBy i a r d).regs, ev := (s.auditBy i a r d).ev
             sec := { s.sec with audit := (s.auditBy i a r d).sec.audit } } := by
  obtain ⟨p, sub, e⟩ := auditBy_spec s i a r d
  obtain ⟨-, -, -, -, sec, -, -, -, parts⟩ := auditEq s a r d p sub
  rw [e, ← sec]
  exact parts

theorem State.auditBy_recorded (s : State) (i a r d : Nat) : Recorded a r d (s.auditBy i a r d) := by
  obtain ⟨p, sub, e⟩ := auditBy_spec s i a r d
  rw [e]
  exact audit_recorded ..

/-- A record stands where the log does. -/
theorem Recorded.of_audit {a r d : Nat} {s t : State} (h : Recorded a r d s) (e : t.sec.audit = s.sec.audit) : Recorded a r d t := by
  obtain ⟨q, last, rest⟩ := h
  exact ⟨q, by rw [e]; exact last, rest⟩

/-- A line written, byte by byte. -/
theorem memGet_memWrite_in {l : List Host.Cell} (h : memWf l = true) (a v n i : Nat) (hi : i < n) :
    memGet (memWrite l a v n) (a + i) = BitVec.ofNat 8 (v / 256 ^ i) := by
  induction n generalizing l a v i with
  | zero => exact absurd hi (Nat.not_lt_zero i)
  | succ n ih =>
    have wf := memWf_memPut h a (BitVec.ofNat 8 v)
    cases i with
    | zero =>
      have head : memGet (memWrite l a v (n + 1)) a = BitVec.ofNat 8 v :=
        (memGet_memWrite_out (.inl (Nat.lt_succ_self a)) _).trans (memGet_memPut_self h ..)
      rw [Nat.pow_zero, Nat.div_one]
      exact head
    | succ j =>
      have next := ih wf (a + 1) (v / 256) j (Nat.lt_of_succ_lt_succ hi)
      rw [memWrite, show a + (j + 1) = a + 1 + j by omega, next, Nat.div_div_eq_div_mul, Nat.pow_succ']

/-- The cores halt; where, is a free value. -/
def State.coresHalt (s : State) : State :=
  (((s.auditBy (s.get F.debugSession) 0x07 0 1).fresh 256).2.put F.haltState 1).put F.haltPc
    ((s.auditBy (s.get F.debugSession) 0x07 0 1).fresh 256).1

theorem State.dbgHalt_eq (s : State) : s.dbgHalt =
    if s.get F.dbg ≠ 2 ∨ s.get F.haltState = 1 ∨ haltAdmitted s ≠ .ok then s
    else if s.coresHalt.get F.role = rStandby then
      { s.coresHalt.dropSync with pair := { s.coresHalt.dropSync.pair with rx := [] } }
    else if s.coresHalt.get F.role = rShadow then s.coresHalt.stopShadow 0 else s.coresHalt := rfl

theorem Writes.coresHalt {s : State} : Writes ([F.haltState, F.haltPc] ++ auditFields) s s.coresHalt :=
  .put (.put ((Writes.auditBy .refl |>.mono (by decide)).upd rfl rfl rfl rfl) (by decide)) (by decide)

theorem RegsBut.coresHalt (s : State) : RegsBut ([(F.haltState, 0), (F.haltPc, 0)] ++ auditRegs) s s.coresHalt :=
  .put (.put (((RegsBut.auditBy _ _ _ _ _).mono fun _ => List.mem_append_right _).regs rfl) (by simp)) (by simp)

theorem State.coresHalt_parts (s : State) : s.coresHalt = { s with
    regs := s.coresHalt.regs, ev := s.coresHalt.ev, sec := { s.sec with audit := s.coresHalt.sec.audit }, free := s.free + 1 } :=
  congrArg (fun u : State => { u with regs := s.coresHalt.regs, ev := s.coresHalt.ev, free := u.free + 1 })
    (s.auditBy_parts (s.get F.debugSession) 0x07 0 1)

theorem State.coresHalt_recorded (s : State) : Recorded 0x07 0 1 s.coresHalt :=
  (s.auditBy_recorded (s.get F.debugSession) 0x07 0 1).of_audit rfl

theorem State.coresHalt_halts (s : State) : s.coresHalt.get F.haltState = 1 :=
  (State.get_put_apart rfl).trans (State.get_put_self ..)

/-- HALT where R480 admits it. -/
theorem does_halt {s : State} {P : State → Prop} (dbg : s.get F.dbg = 2) (running : s.get F.haltState ≠ 1)
    (ok : haltAdmitted s = .ok) (h : P (if s.coresHalt.get F.role = rStandby then
      { s.coresHalt.dropSync with pair := { s.coresHalt.dropSync.pair with rx := [] } }
    else if s.coresHalt.get F.role = rShadow then s.coresHalt.stopShadow 0 else s.coresHalt)) : Does .dbgCmdHalt s P :=
  ⟨_, congrArg Host.Outcome.next (s.dbgHalt_eq.trans (if_neg (by simp [dbg, running, ok]))), h⟩

/-- A STANDBY that halts drops its synchronisation. -/
theorem does_halt_standby {s : State} (dbg : s.get F.dbg = 2) (running : s.get F.haltState ≠ 1) (ok : haltAdmitted s = .ok)
    (role : s.get F.role = 3) (mode : s.get F.mode < 8) : Does .dbgCmdHalt s fun t =>
      t.get F.haltState = 1 ∧ t.get F.role = 3 ∧ t.get F.ready = 0 ∧ t.get F.pairState = 2 ∧ t.pair.current = false ∧
      t.pair.rx = [] ∧ Recorded 0x07 0 1 t ∧ t.mem = s.mem := by
  have role' : s.coresHalt.get F.role = 3 := (Writes.coresHalt.get rfl).trans role
  obtain ⟨follows, -, ready, pair, -, forgot⟩ := State.dropSync_spec role' (by rwa [Writes.coresHalt.get rfl])
  have sec : s.coresHalt.dropSync.sec = s.coresHalt.sec := State.dropSync_touches.sec_eq rfl
  have kept : s.coresHalt.dropSync.mem = s.coresHalt.mem := State.dropSync_touches.mem_eq rfl
  have mem : s.coresHalt.mem = s.mem := by rw [State.coresHalt_parts]
  have halts : s.coresHalt.dropSync.get F.haltState = 1 := (Writes.dropSync.get rfl).trans s.coresHalt_halts
  have recorded := s.coresHalt_recorded
  refine does_halt dbg running ok ?_
  rw [if_pos role']
  generalize s.coresHalt = u at follows ready pair forgot sec kept mem halts recorded
  refine ⟨halts, follows, ready, pair, ?_, rfl, recorded.of_audit ?_, kept.trans mem⟩
  · exact congrArg PairSt.current forgot
  · exact congrArg SecSt.audit sec

theorem State.dropTasks_rt (s : State) (l : List Nat) : (l.foldl State.dropTask s).rt = s.rt := by
  induction l generalizing s with
  | nil => rfl
  | cons k l ih =>
    have one : (s.dropTask k).rt = s.rt := by
      unfold State.dropTask
      dsimp only
      split_ifs <;> rfl
    exact (ih (s.dropTask k)).trans one

/-- What dropping the cycles leaves of the runtime. -/
theorem State.dropCycles_rt (s : State) : s.dropCycles.rt =
    { s.rt with runQ := [], work := [], late := [], withheld := [], unpublished := [], running := [], spills := []
                errorReason := 0, errorUnit := [] } := by
  have kept := s.dropTasks_rt (List.range 32)
  rw [State.dropCycles_eq]
  generalize (List.range 32).foldl State.dropTask s = u at kept
  rw [← kept]
  rfl

theorem cycleRegs_sub : ∀ p ∈ cycleRegs, p ∈ taskRegs := by
  intro p hp
  simp only [cycleRegs, taskRegs, List.mem_append] at hp ⊢
  tauto

/-- RESUME discards the cycles in progress. -/
theorem does_resume {s : State} (halted : s.get F.haltState = 1) : Does .dbgCmdResume s fun t =>
    t.get F.haltState = 0 ∧ t.rt.runQ = [] ∧ t.rt.work = [] ∧ t.rt.published = s.rt.published ∧ Recorded 0x07 0 2 t ∧
    RegsBut ([(F.haltState, 0)] ++ taskRegs ++ auditRegs) s t ∧
    t = { s with regs := t.regs, ev := t.ev, rt := t.rt, sec := { s.sec with audit := t.sec.audit } } := by
  have recorded := s.auditBy_recorded (s.get F.debugSession) 0x07 0 2
  have parts := s.auditBy_parts (s.get F.debugSession) 0x07 0 2
  have regs := RegsBut.auditBy s (s.get F.debugSession) 0x07 0 2
  have runs : s.dbgResume = (s.auditBy (s.get F.debugSession) 0x07 0 2).dropCycles.put F.haltState 0 := if_neg (not_not.2 halted)
  have whole := (State.dbgResume_touches (a0 := s)).eq_takes
  refine ⟨s.dbgResume, rfl, ?_⟩
  rw [runs] at whole ⊢
  generalize s.auditBy (s.get F.debugSession) 0x07 0 2 = u at recorded parts regs whole
  have rt := u.dropCycles_rt
  have sec : u.dropCycles.sec = u.sec := State.dropCycles_touches.sec_eq rfl
  have published : u.rt.published = s.rt.published := by rw [parts]
  have audit : u.sec = { s.sec with audit := u.sec.audit } := congrArg State.sec parts
  have dropped : RegsBut ([(F.haltState, 0)] ++ taskRegs ++ auditRegs) s u.dropCycles :=
    (regs.mono fun _ => List.mem_append_right _).trans
      ((RegsBut.dropCycles u).mono fun p hp => List.mem_append_left _ (List.mem_append_right _ (cycleRegs_sub p hp)))
  have there : (F.haltState, 0) ∈ [(F.haltState, 0)] ++ taskRegs ++ auditRegs :=
    List.mem_append_left _ (List.mem_append_left _ (List.mem_singleton.2 rfl))
  generalize u.dropCycles = w at whole rt sec dropped
  have log : w.sec = { s.sec with audit := w.sec.audit } := by rw [sec]; exact audit
  refine ⟨State.get_put_self .., congrArg RtSt.runQ rt, congrArg RtSt.work rt, (congrArg RtSt.published rt).trans published,
    recorded.of_audit (congrArg SecSt.audit sec), .put dropped there, whole.trans ?_⟩
  exact congrArg (fun x : SecSt => { s with
    regs := (w.put F.haltState 0).regs, ev := (w.put F.haltState 0).ev, rt := (w.put F.haltState 0).rt, sec := x }) log

/-- STEP executes one instruction; where the cores stand then, is a free value. -/
theorem does_step {s : State} (halted : s.get F.haltState = 1) : Does .dbgCmdStep s fun t =>
    t.get F.haltState = 1 ∧ Recorded 0x07 0 3 t ∧ RegsBut ((F.haltPc, 0) :: auditRegs) s t ∧
    t = { s with regs := t.regs, ev := t.ev, sec := { s.sec with audit := t.sec.audit }, free := s.free + 1 } := by
  have recorded := s.auditBy_recorded (s.get F.debugSession) 0x07 0 3
  have parts := s.auditBy_parts (s.get F.debugSession) 0x07 0 3
  have regs := RegsBut.auditBy s (s.get F.debugSession) 0x07 0 3
  have halt : (s.auditBy (s.get F.debugSession) 0x07 0 3).get F.haltState = s.get F.haltState := (Writes.auditBy .refl).get rfl
  refine ⟨_, congrArg Host.Outcome.next (if_neg (not_not.2 halted)), ?_⟩
  generalize s.auditBy (s.get F.debugSession) 0x07 0 3 = u at recorded parts regs halt
  refine ⟨(State.get_put_apart rfl).trans (halt.trans halted), recorded.of_audit rfl,
    .put ((regs.mono fun _ => List.mem_cons_of_mem _).regs rfl) (List.mem_cons_self ..), ?_⟩
  exact congrArg (fun v : State => { v with regs := ((u.fresh 256).2.put F.haltPc (u.fresh 256).1).regs, free := v.free + 1 }) parts

/-! A write through the debug window. -/

/-- DEBUG_WRITES is set in the DEVELOPMENT state. -/
def State.writeNoted (s : State) : State := if s.get F.sec = 2 then s.put F.debugWrites 1 else s

theorem State.dbgWindowWrite_eq {s : State} (halted : s.get F.haltState = 1) (d : Nat) : s.dbgWindowWrite d =
    (s.auditBy (s.get F.debugSession) 0x08 0 0).writeNoted.lineAlike
      ((s.auditBy (s.get F.debugSession) 0x08 0 0).writeNoted.get F.dbgAddr) d := if_neg (not_not.2 halted)

theorem Writes.writeNoted {s : State} : Writes [F.debugWrites] s s.writeNoted := .ite (fun _ => .put .refl (by decide)) fun _ => .refl

theorem State.writeNoted_parts (s : State) : s.writeNoted = { s with regs := s.writeNoted.regs } := by
  unfold State.writeNoted
  split <;> rfl

theorem State.get_writeNoted (s : State) : s.writeNoted.get F.debugWrites = if s.get F.sec = 2 then 1 else s.get F.debugWrites := by
  unfold State.writeNoted
  split
  · exact State.get_put_self ..
  · rfl

section

variable (s : State) (a d : Nat)

theorem State.lineAlike_mem : (s.lineAlike a d).mem = memWrite s.mem a d 64 := by
  simp only [State.lineAlike]

theorem State.lineAlike_regs : (s.lineAlike a d).regs = s.regs := by
  simp only [State.lineAlike]

theorem State.lineAlike_sec : (s.lineAlike a d).sec = s.sec := by
  simp only [State.lineAlike]

theorem State.lineAlike_split (split : s.get F.triad = 2) :
    (s.lineAlike a d).triad.memY = memWrite s.triad.memY a d 64 ∧ (s.lineAlike a d).triad.memZ = memWrite s.triad.memZ a d 64 := by
  simp only [State.lineAlike, split, beq_self_eq_true, if_true, and_self]

theorem State.lineAlike_whole (whole : s.get F.triad ≠ 2) :
    (s.lineAlike a d).triad.memY = s.triad.memY ∧ (s.lineAlike a d).triad.memZ = s.triad.memZ := by
  simp only [State.lineAlike, beq_eq_false_iff_ne.2 whole, Bool.false_eq_true, if_false, and_self]

theorem State.lineAlike_parts : s.lineAlike a d = { s with
    mem := (s.lineAlike a d).mem
    triad := { s.triad with memY := (s.lineAlike a d).triad.memY, memZ := (s.lineAlike a d).triad.memZ
                            dirty := (s.lineAlike a d).triad.dirty } } := by
  simp only [State.lineAlike]

end

theorem does_windowWrite {d : Nat} {s : State} (halted : s.get F.haltState = 1) (wf : memWf s.mem = true) :
    Does (.dbgWindowWrite d) s fun t =>
      (∀ i, i < 64 → memGet t.mem (s.get F.dbgAddr + i) = BitVec.ofNat 8 (d / 256 ^ i)) ∧
      (∀ a, a < s.get F.dbgAddr ∨ s.get F.dbgAddr + 64 ≤ a → memGet t.mem a = memGet s.mem a) ∧
      (s.get F.triad = 2 → t.triad.memY = memWrite s.triad.memY (s.get F.dbgAddr) d 64 ∧
        t.triad.memZ = memWrite s.triad.memZ (s.get F.dbgAddr) d 64) ∧
      (s.get F.triad ≠ 2 → t.triad.memY = s.triad.memY ∧ t.triad.memZ = s.triad.memZ) ∧
      (t.get F.debugWrites = if s.get F.sec = 2 then 1 else s.get F.debugWrites) ∧ Recorded 0x08 0 0 t ∧
      RegsBut ((F.debugWrites, 0) :: auditRegs) s t ∧
      t = { s with regs := t.regs, ev := t.ev, mem := t.mem, sec := { s.sec with audit := t.sec.audit }
                   triad := { s.triad with memY := t.triad.memY, memZ := t.triad.memZ, dirty := t.triad.dirty } } := by
  have recorded := s.auditBy_recorded (s.get F.debugSession) 0x08 0 0
  have parts := s.auditBy_parts (s.get F.debugSession) 0x08 0 0
  have regs := RegsBut.auditBy s (s.get F.debugSession) 0x08 0 0
  have same : Writes auditFields s (s.auditBy (s.get F.debugSession) 0x08 0 0) := .auditBy .refl
  refine ⟨_, congrArg Host.Outcome.next (State.dbgWindowWrite_eq halted d), ?_⟩
  generalize s.auditBy (s.get F.debugSession) 0x08 0 0 = u at recorded parts regs same
  have addr : u.writeNoted.get F.dbgAddr = s.get F.dbgAddr := (Writes.writeNoted.get rfl).trans (same.get rfl)
  have triad : u.writeNoted.get F.triad = s.get F.triad := (Writes.writeNoted.get rfl).trans (same.get rfl)
  have writes : u.writeNoted.get F.debugWrites = if s.get F.sec = 2 then 1 else s.get F.debugWrites := by
    rw [State.get_writeNoted, same.get rfl, same.get rfl]
  have noted : u.writeNoted = { s with regs := u.writeNoted.regs, ev := u.ev, sec := { s.sec with audit := u.sec.audit } } :=
    u.writeNoted_parts.trans (congrArg (fun v : State => { v with regs := u.writeNoted.regs }) parts)
  have log : u.writeNoted.sec.audit = u.sec.audit := by rw [State.writeNoted_parts]
  have kept : RegsBut ((F.debugWrites, 0) :: auditRegs) s u.writeNoted :=
    (regs.mono fun _ => List.mem_cons_of_mem _).trans (.ite (fun _ => .put .refl (List.mem_cons_self ..)) fun _ => .refl)
  rw [addr]
  generalize u.writeNoted = v at triad writes noted log kept
  have mem : v.mem = s.mem := by rw [noted]
  have copies : v.triad = s.triad := by rw [noted]
  have written := v.lineAlike_parts (s.get F.dbgAddr) d
  have out : ∀ a, a < s.get F.dbgAddr ∨ s.get F.dbgAddr + 64 ≤ a →
      memGet (v.lineAlike (s.get F.dbgAddr) d).mem a = memGet s.mem a := fun a far => by
    rw [State.lineAlike_mem, memGet_memWrite_out far, mem]
  have inside : ∀ i, i < 64 → memGet (v.lineAlike (s.get F.dbgAddr) d).mem (s.get F.dbgAddr + i) = BitVec.ofNat 8 (d / 256 ^ i) :=
    fun i hi => by rw [State.lineAlike_mem, mem, memGet_memWrite_in wf _ d 64 i hi]
  have split := v.lineAlike_split (s.get F.dbgAddr) d
  have whole := v.lineAlike_whole (s.get F.dbgAddr) d
  have sec := v.lineAlike_sec (s.get F.dbgAddr) d
  have regsSame := v.lineAlike_regs (s.get F.dbgAddr) d
  rw [triad, copies] at split whole
  generalize v.lineAlike (s.get F.dbgAddr) d = t at written out inside split whole sec regsSame
  refine ⟨inside, out, split, whole, (State.get_of_regs regsSame _ _).trans writes,
    recorded.of_audit ((congrArg SecSt.audit sec).trans log), kept.regs regsSame, ?_⟩
  have ev : t.ev = u.ev := by rw [written, noted]
  have lines : t.triad = { s.triad with memY := t.triad.memY, memZ := t.triad.memZ, dirty := t.triad.dirty } := by
    rw [← copies]
    exact congrArg State.triad written
  have joined := congrArg (fun w : State => ({ w with mem := t.mem, triad := t.triad } : State)) noted
  have flat : t = { v with mem := t.mem, triad := t.triad } := written.trans (by rw [copies, ← lines])
  refine flat.trans (joined.trans ?_)
  rw [regsSame, ev, sec, log, ← lines]

/-- The debug session ends for a cause. -/
theorem endDebug_done {s : State} (active : s.get F.dbg ≠ 0) (cause : Nat) :
    (s.endDebug cause).get F.dbg = 0 ∧ (s.endDebug cause).get F.debugSession = 0 ∧ (s.endDebug cause).get F.debugLeft = 0 ∧
      (s.endDebug cause).get F.haltState = 0 ∧ (s.endDebug cause).sec.kind = 0 ∧ Recorded 0x06 0 cause (s.endDebug cause) ∧
      RaisedLast [eventOf s 389 1 1 [(8, 1), (8, s.sec.kind), (8, cause)]] s (s.endDebug cause) ∧
      (s.endDebug cause).mem = s.mem := by
  have recorded := s.unhalted.auditBy_recorded (s.unhalted.get F.debugSession) 0x06 0 cause
  have audited : Writes debugFields s (s.unhalted.auditBy (s.unhalted.get F.debugSession) 0x06 0 cause) :=
    (Writes.unhalted.mono (by decide)).trans ((Writes.refl.auditBy).mono (by decide))
  obtain ⟨dbg, halt⟩ := State.get_endDebug active cause
  refine ⟨dbg, ?_, ?_, halt, ?_, ?_, ?_, State.endDebug_touches.mem_eq rfl⟩
  all_goals rw [State.endDebug_eq active]
  all_goals generalize s.unhalted.auditBy (s.unhalted.get F.debugSession) 0x06 0 cause = u at recorded audited
  · exact (State.get_raise_apart rfl).trans ((State.get_put_apart rfl).trans ((State.get_put_apart rfl).trans (State.get_put_self ..)))
  · exact (State.get_raise_apart rfl).trans ((State.get_put_apart rfl).trans (State.get_put_self ..))
  · rfl
  · exact recorded.of_audit rfl
  · exact ((audited.trans (Writes.dbgClosed.mono (by decide))).upd rfl rfl rfl rfl).raisedLast (by decide) (by simp)

/-- Settles O55: each command by its own rule; where R480 or the state of the cores does not allow it, nothing happens. -/
theorem debugCommandsAreAudited : Obligations.DebugCommandsAreAudited := by
  unfold Obligations.DebugCommandsAreAudited
  refine ⟨fun s dbg running ok role => ?halt, fun s dbg running ok role mode => does_halt_standby dbg running ok role mode,
    fun s h => ?refused, fun s halted => does_resume halted, fun s runs => ?noResume, fun s halted => does_step halted,
    fun s runs => ?noStep, fun s active => ⟨_, rfl, endDebug_done active 1⟩, fun s none => ?noEnd, fun s active => ?duration,
    fun s none => ?noDuration, fun d s halted wf => does_windowWrite halted wf, fun d s runs => ?noWrite⟩
  case halt =>
    have role' : s.coresHalt.get F.role = s.get F.role := Writes.coresHalt.get rfl
    refine does_halt dbg running ok ?_
    rw [if_neg (by rw [role']; exact Nat.ne_of_lt role), if_neg (by rw [role']; exact Nat.ne_of_lt (Nat.lt_succ_of_lt role))]
    exact ⟨s.coresHalt_halts, s.coresHalt_recorded, .coresHalt s, s.coresHalt_parts⟩
  case refused => exact ⟨s, congrArg Host.Outcome.next (s.dbgHalt_eq.trans (if_pos h)), rfl⟩
  case noResume => exact ⟨s, congrArg Host.Outcome.next (if_pos runs), rfl⟩
  case noStep => exact ⟨s, congrArg Host.Outcome.next (if_pos runs), rfl⟩
  case noEnd => exact ⟨s, congrArg Host.Outcome.next (if_pos none), rfl⟩
  case duration =>
    obtain ⟨dbg, -, -, halt, -, recorded, raised, mem⟩ := endDebug_done active 2
    exact ⟨_, rfl, dbg, halt, recorded, raised, mem⟩
  case noDuration => exact ⟨s, congrArg Host.Outcome.next (if_pos none), rfl⟩
  case noWrite => exact ⟨s, congrArg Host.Outcome.next (if_pos runs), rfl⟩

end Sys2Proof.Machine

namespace Sys2Proof.Machine

open Sys2Proof

/-! The Journal's port (R430, R434). -/

theorem State.rollStart_parts (s : State) (n : Nat) : s.rollStart n = { s with
    regs := (s.rollStart n).regs, ev := (s.rollStart n).ev
    jr := { s.jr with other := [], otherBytes := 0, copied := 0, rollWanted := false } } := rfl

theorem RegsBut.rollStart (s : State) (n : Nat) : RegsBut [(F.rollState, 0), (F.raised, 376)] s (s.rollStart n) :=
  .raise (.put (.regs .refl rfl) (by simp)) (by simp)

/-- A record stands in the live half, and the counts of the half say so. -/
def State.recordWritten (s : State) (r : JRec) (rest : List JRec) : State :=
  ((({ s with jr := { s.jr with
      pend := rest, live := s.jr.live ++ [recWritten r (s.get F.nextSeq)], commits := s.jr.commits + 1 } } : State).put F.nextSeq
    (s.get F.nextSeq + 1)).put F.liveBytes (s.get F.liveBytes + recBytes r.len)).put F.liveRecords (s.get F.liveRecords + 1)

/-- The Roll starts where the half has reached the threshold. -/
def State.rollChecked (s : State) : State := if s.rollDue then s.rollStart 0 else s

theorem State.commitRecord_eq {s : State} {r : JRec} {rest : List JRec} (pend : s.jr.pend = r :: rest)
    (free : s.get F.rollState ≠ 2) (mirror : s.rt.mirror = none) : s.commitRecord =
      (s.recordWritten r rest).rollChecked.releaseHeld
        (if (s.recordWritten r rest).rollChecked.get F.role = rActive then (s.recordWritten r rest).rollChecked.get F.lastClosed else 0) := by
  have open_ : ¬(s.get F.rollState = 2 ∨ s.rt.mirror.isSome = true) := not_or.2 ⟨free, by rw [mirror]; decide⟩
  unfold State.commitRecord
  rw [pend]
  exact if_neg open_

theorem RegsBut.recordWritten (s : State) (r : JRec) (rest : List JRec) :
    RegsBut [(F.nextSeq, 0), (F.liveBytes, 0), (F.liveRecords, 0)] s (s.recordWritten r rest) :=
  .put (.put (.put (.regs .refl rfl) (by simp)) (by simp)) (by simp)

/-- The counts of the half, behind a Roll that may have started. -/
theorem State.rollChecked_spec (s : State) : s.rollChecked.jr.pend = s.jr.pend ∧ s.rollChecked.jr.live = s.jr.live ∧
    s.rollChecked.jr.commits = s.jr.commits ∧ s.rollChecked.lcp = s.lcp ∧ s.rollChecked.rt = s.rt ∧ s.rollChecked.mem = s.mem ∧
    RegsBut [(F.rollState, 0), (F.raised, 376)] s s.rollChecked := by
  unfold State.rollChecked
  split
  · exact ⟨rfl, rfl, rfl, rfl, rfl, rfl, RegsBut.rollStart s 0⟩
  · exact ⟨rfl, rfl, rfl, rfl, rfl, rfl, .refl⟩

/-- The oldest record is committed. -/
theorem does_recordCommit {r : JRec} {rest : List JRec} {s : State} (pend : s.jr.pend = r :: rest) (free : s.get F.rollState ≠ 2)
    (mirror : s.rt.mirror = none) : Does .journalRecordCommit s fun t =>
    t.jr.pend = rest ∧ (∃ c w, t.jr.live = s.jr.live ++ [{ r with seq := s.get F.nextSeq, crc := c, commit := w }] ∧
      c = crc32c (recBody { r with seq := s.get F.nextSeq }) ∧ w = s.get F.nextSeq % 2 ^ 32 ^^^ 0xA5C35A96) ∧ t.jr.commits = s.jr.commits + 1 ∧
    t.get F.nextSeq = (s.get F.nextSeq + 1) % 2 ^ 64 ∧ t.get F.liveBytes = (s.get F.liveBytes + recBytes r.len) % 2 ^ 32 ∧
    t.get F.liveRecords = (s.get F.liveRecords + 1) % 2 ^ 32 ∧
    t.lcp.queue = s.lcp.queue ∧ t.rt = s.rt ∧
    RegsBut [(F.nextSeq, 0), (F.liveBytes, 0), (F.liveRecords, 0), (F.rollState, 0), (F.raised, 376)] s t ∧ t.mem = s.mem := by
  obtain ⟨kept, live, commits, lcp, rt, mem, rolled⟩ := (s.recordWritten r rest).rollChecked_spec
  have written := RegsBut.recordWritten s r rest
  have queue : (s.recordWritten r rest).rollChecked.lcp.queue = s.lcp.queue := by rw [lcp]; rfl
  have count : ∀ g : Fld, g.offAll [F.rollState, F.raised] = true →
      (s.recordWritten r rest).rollChecked.get g = (s.recordWritten r rest).get g := fun g off =>
    rolled.get_apart [F.rollState, F.raised] (by simp) off
  refine ⟨_, congrArg Host.Outcome.next (State.commitRecord_eq pend free mirror), kept, ⟨_, _, live, rfl, rfl⟩, commits,
    (count _ rfl).trans ?_, (count _ rfl).trans ?_, (count _ rfl).trans (State.get_put_self ..), queue, rt,
    .regs ((written.mono (by simp)).trans (rolled.mono (by simp))) rfl, mem⟩
  · exact (State.get_put_apart rfl).trans ((State.get_put_apart rfl).trans (State.get_put_self ..))
  · exact (State.get_put_apart rfl).trans (State.get_put_self ..)

/-! The Roll (R434). -/

theorem pendBytes_append (l m : List JRec) : pendBytes (l ++ m) = pendBytes l + pendBytes m := by
  have from_ : ∀ (l : List JRec) (n : Nat), l.foldl (fun a r => a + recBytes r.len) n = n + pendBytes l := by
    intro l
    induction l with
    | nil => intro n; rfl
    | cons r l ih =>
      intro n
      have whole : pendBytes (r :: l) = 0 + recBytes r.len + pendBytes l := ih (0 + recBytes r.len)
      rw [List.foldl_cons, ih (n + recBytes r.len), whole]
      omega
  rw [pendBytes, List.foldl_append, from_ m]
  rfl

/-- A beat of the Roll copies standing records of those still to be seen, within its budget. -/
theorem rollTake_spec (all l : List JRec) (budget n : Nat) (acc : List JRec) :
    n ≤ (rollTake all l budget n acc).1 ∧ ∃ rs, (rollTake all l budget n acc).2 = acc ++ rs ∧
      (∀ r ∈ rs, r ∈ l ∧ standing all r = true) ∧ pendBytes rs ≤ budget := by
  induction l generalizing budget n acc with
  | nil => exact ⟨Nat.le_refl _, [], (List.append_nil _).symm, fun _ h => absurd h List.not_mem_nil, Nat.zero_le _⟩
  | cons r l ih =>
    unfold rollTake
    split
    · next stands =>
      split
      · next fits =>
        obtain ⟨le, rs, eq, mem, bytes⟩ := ih (budget - recBytes r.len) (n + 1) (acc ++ [r])
        refine ⟨Nat.le_of_succ_le le, r :: rs, eq.trans (List.append_assoc ..), ?_, ?_⟩
        · intro x hx
          rcases List.mem_cons.1 hx with rfl | rest
          · exact ⟨List.mem_cons_self .., stands⟩
          · exact ⟨List.mem_cons_of_mem _ (mem x rest).1, (mem x rest).2⟩
        · have one : pendBytes [r] = recBytes r.len := Nat.zero_add _
          have sum := pendBytes_append [r] rs
          rw [List.singleton_append] at sum
          omega
      · exact ⟨Nat.le_refl _, [], (List.append_nil _).symm, fun _ h => absurd h List.not_mem_nil, Nat.zero_le _⟩
    · obtain ⟨le, rs, eq, mem, bytes⟩ := ih budget (n + 1) acc
      exact ⟨Nat.le_of_succ_le le, rs, eq, fun x hx => ⟨List.mem_cons_of_mem _ (mem x hx).1, (mem x hx).2⟩, bytes⟩

theorem State.portFree_iff {s : State} : s.portFree = true ↔ s.rt.mirror = none ∧ s.jr.pend = [] := by
  rw [State.portFree, Bool.and_eq_true, Option.isNone_iff_eq_none, List.isEmpty_iff]

/-- What a beat of the Roll has copied. -/
def State.rollCopied (s : State) : State :=
  { s with jr := { s.jr with
      rolled := if s.beat.runs then s.jr.rolled + pendBytes (rollTake s.jr.live (s.jr.live.drop s.jr.copied) (65536 - s.jr.rolled) 0 []).2
        else 0
      other := s.jr.other ++ (rollTake s.jr.live (s.jr.live.drop s.jr.copied) (65536 - s.jr.rolled) 0 []).2
      otherBytes := s.jr.otherBytes + pendBytes (rollTake s.jr.live (s.jr.live.drop s.jr.copied) (65536 - s.jr.rolled) 0 []).2
      copied := s.jr.copied + (rollTake s.jr.live (s.jr.live.drop s.jr.copied) (65536 - s.jr.rolled) 0 []).1 } }

theorem State.rollCopy_eq {s : State} (rolls : s.get F.rollState = 1) (mirror : s.rt.mirror = none) (pend : s.jr.pend = [])
    (idle : s.jr.recBuf = []) : s.rollCopy =
      if s.rollCopied.jr.copied ≥ s.rollCopied.jr.live.length then s.rollCopied.put F.rollState 2 else s.rollCopied := by
  have free : s.portFree = true := State.portFree_iff.2 ⟨mirror, pend⟩
  have open_ : ¬(s.get F.rollState ≠ 1 ∨ (!s.portFree) = true ∨ (!s.jr.recBuf.isEmpty) = true) := by
    rw [rolls, free, idle]
    decide
  exact if_neg open_

theorem does_rollCopy {s : State} (rolls : s.get F.rollState = 1) (mirror : s.rt.mirror = none) (pend : s.jr.pend = [])
    (idle : s.jr.recBuf = []) : Does .rollCopy s fun t =>
    (∃ rs, t.jr.other = s.jr.other ++ rs ∧ (∀ r ∈ rs, r ∈ s.jr.live ∧ standing s.jr.live r = true) ∧ pendBytes rs ≤ 65536 - s.jr.rolled ∧
      t.jr.rolled = if s.beat.runs = true then s.jr.rolled + pendBytes rs else 0) ∧
    t.jr.live = s.jr.live ∧ s.jr.copied ≤ t.jr.copied ∧
    (t.get F.rollState = if s.jr.live.length ≤ t.jr.copied then 2 else 1) ∧ RegsBut [(F.rollState, 0)] s t ∧
    t = { s with regs := t.regs, jr := t.jr } := by
  obtain ⟨-, rs, eq, mem, bytes⟩ := rollTake_spec s.jr.live (s.jr.live.drop s.jr.copied) (65536 - s.jr.rolled) 0 []
  rw [List.nil_append] at eq
  have copied : ∃ rs, s.rollCopied.jr.other = s.jr.other ++ rs ∧ (∀ r ∈ rs, r ∈ s.jr.live ∧ standing s.jr.live r = true) ∧
      pendBytes rs ≤ 65536 - s.jr.rolled ∧ s.rollCopied.jr.rolled = if s.beat.runs = true then s.jr.rolled + pendBytes rs else 0 :=
    ⟨_, rfl, eq ▸ fun r hr => ⟨List.mem_of_mem_drop (mem r hr).1, (mem r hr).2⟩, eq ▸ bytes, rfl⟩
  have more : s.jr.copied ≤ s.rollCopied.jr.copied := Nat.le_add_right ..
  have live : s.rollCopied.jr.live = s.jr.live := rfl
  have same : s.rollCopied.get F.rollState = 1 := rolls
  have parts : s.rollCopied = { s with jr := s.rollCopied.jr } := rfl
  have regs : s.rollCopied.regs = s.regs := rfl
  refine ⟨_, congrArg Host.Outcome.next (State.rollCopy_eq rolls mirror pend idle), ?_⟩
  generalize s.rollCopied = u at copied more live same parts regs
  by_cases all : u.jr.copied ≥ u.jr.live.length
  · rw [if_pos all]
    refine ⟨copied, live, more, ?_, .put (.regs .refl regs) (by simp), ?_⟩
    · rw [if_pos (live ▸ all)]
      exact State.get_put_self ..
    · exact congrArg (fun v : State => { v with regs := (u.put F.rollState 2).regs }) parts
  · rw [if_neg all]
    refine ⟨copied, live, more, ?_, .regs .refl regs, ?_⟩
    · rw [if_neg (live ▸ all)]
      exact same
    · rw [regs]
      exact parts

/-! The switch (R433 to R435). -/

/-- The superblock copy that does not name the live half is written. -/
def State.superblockWritten (s : State) : State :=
  if s.jr.sb0.half = s.get F.liveHalf then { s with jr := { s.jr with sb1 := mkSuperblock (s.get F.sbSeq + 1) (1 - s.get F.liveHalf) } }
  else { s with jr := { s.jr with sb0 := mkSuperblock (s.get F.sbSeq + 1) (1 - s.get F.liveHalf) } }

theorem State.rollSwitch_eq (s : State) : s.rollSwitch =
    ((s.superblockWritten.swapHalves.put F.sbSeq (s.get F.sbSeq + 1)).put F.rollState 0).inc F.rollCount := rfl

theorem State.superblockWritten_spec (s : State) : s.superblockWritten = { s with jr := { s.jr with
    sb0 := s.superblockWritten.jr.sb0, sb1 := s.superblockWritten.jr.sb1 } } ∧
    (s.superblockWritten.jr.sb0, s.superblockWritten.jr.sb1) = (if s.jr.sb0.half = s.get F.liveHalf
      then (s.jr.sb0, mkSuperblock (s.get F.sbSeq + 1) (1 - s.get F.liveHalf))
      else (mkSuperblock (s.get F.sbSeq + 1) (1 - s.get F.liveHalf), s.jr.sb1)) := by
  unfold State.superblockWritten
  split <;> exact ⟨rfl, rfl⟩

/-- The fields that the switch writes. -/
def switchFields : List Fld := [F.liveHalf, F.liveBytes, F.liveRecords, F.sbSeq, F.rollState, F.rollCount]

theorem Writes.swapHalves {s : State} : Writes switchFields s s.swapHalves :=
  .put (.put (.put (.upd .refl rfl rfl rfl rfl) (by decide)) (by decide)) (by decide)

theorem State.swapHalves_spec (s : State) : s.swapHalves.get F.liveHalf = (1 - s.get F.liveHalf) % 256 ∧
    s.swapHalves.get F.liveBytes = pendBytes s.jr.other % 2 ^ 32 ∧ s.swapHalves.get F.liveRecords = s.jr.other.length % 2 ^ 32 :=
  ⟨(State.get_put_apart rfl).trans ((State.get_put_apart rfl).trans (State.get_put_self ..)),
    (State.get_put_apart rfl).trans (State.get_put_self ..), State.get_put_self ..⟩

theorem Writes.rollSwitch {s : State} : Writes switchFields s s.rollSwitch := by
  have block : Writes switchFields s s.superblockWritten := .ite (fun _ => .upd .refl rfl rfl rfl rfl) fun _ => .upd .refl rfl rfl rfl rfl
  rw [State.rollSwitch_eq]
  exact .inc (.put (.put (block.trans .swapHalves) (by decide)) (by decide)) (by decide)

/-- The switch, before its events. -/
theorem State.rollSwitch_spec (s : State) :
    (s.rollSwitch.jr.sb0, s.rollSwitch.jr.sb1) = (if s.jr.sb0.half = s.get F.liveHalf
      then (s.jr.sb0, mkSuperblock (s.get F.sbSeq + 1) (1 - s.get F.liveHalf))
      else (mkSuperblock (s.get F.sbSeq + 1) (1 - s.get F.liveHalf), s.jr.sb1)) ∧
    s.rollSwitch.jr = { s.jr with sb0 := s.rollSwitch.jr.sb0, sb1 := s.rollSwitch.jr.sb1, live := s.jr.other, other := s.jr.live
                                  otherBytes := 0, copied := 0 } ∧
    s.rollSwitch.get F.rollState = 0 ∧ s.rollSwitch.get F.liveHalf = (1 - s.get F.liveHalf) % 256 ∧
    s.rollSwitch.get F.sbSeq = (s.get F.sbSeq + 1) % 2 ^ 64 ∧ s.rollSwitch.get F.liveBytes = pendBytes s.jr.other % 2 ^ 32 ∧
    s.rollSwitch.get F.liveRecords = s.jr.other.length % 2 ^ 32 ∧ s.rollSwitch.get F.rollCount = satInc 32 (s.get F.rollCount) ∧
    s.rollSwitch = { s with regs := s.rollSwitch.regs, jr := s.rollSwitch.jr } := by
  obtain ⟨parts, blocks⟩ := s.superblockWritten_spec
  have kept : ∀ g : Fld, s.superblockWritten.get g = s.get g := fun g => by rw [parts]; rfl
  have jr : s.superblockWritten.jr.other = s.jr.other := by rw [parts]
  obtain ⟨half, bytes, records⟩ := s.superblockWritten.swapHalves_spec
  have count : s.superblockWritten.swapHalves.get F.rollCount = s.superblockWritten.get F.rollCount :=
    (State.get_put_apart rfl).trans ((State.get_put_apart rfl).trans (State.get_put_apart rfl))
  rw [kept] at half count
  rw [jr] at bytes records
  rw [State.rollSwitch_eq]
  have swapped : s.superblockWritten.swapHalves = { s with
      regs := s.superblockWritten.swapHalves.regs, jr := s.superblockWritten.swapHalves.jr } :=
    congrArg (fun v : State => { v with regs := s.superblockWritten.swapHalves.regs, jr := s.superblockWritten.swapHalves.jr }) parts
  have journal : s.superblockWritten.swapHalves.jr = { s.jr with
      sb0 := s.superblockWritten.jr.sb0, sb1 := s.superblockWritten.jr.sb1, live := s.jr.other, other := s.jr.live
      otherBytes := 0, copied := 0 } :=
    congrArg (fun v : State => { v.jr with live := v.jr.other, other := v.jr.live, otherBytes := 0, copied := 0 }) parts
  have sbs : (s.superblockWritten.swapHalves.jr.sb0, s.superblockWritten.swapHalves.jr.sb1) =
    (s.superblockWritten.jr.sb0, s.superblockWritten.jr.sb1) := rfl
  rw [← sbs] at blocks
  generalize s.superblockWritten.swapHalves = u at half bytes records count swapped journal blocks
  refine ⟨blocks, ?_, ?_, ?_, ?_, ?_, ?_, ?_, ?_⟩
  · have sb0 : u.jr.sb0 = s.superblockWritten.jr.sb0 := by rw [journal]
    have sb1 : u.jr.sb1 = s.superblockWritten.jr.sb1 := by rw [journal]
    rw [← sb0, ← sb1] at journal
    exact journal
  · exact (State.get_put_apart rfl).trans (State.get_put_self ..)
  · exact (State.get_put_apart rfl).trans ((State.get_put_apart rfl).trans ((State.get_put_apart rfl).trans half))
  · exact (State.get_put_apart rfl).trans ((State.get_put_apart rfl).trans (State.get_put_self ..))
  · exact (State.get_put_apart rfl).trans ((State.get_put_apart rfl).trans ((State.get_put_apart rfl).trans bytes))
  · exact (State.get_put_apart rfl).trans ((State.get_put_apart rfl).trans ((State.get_put_apart rfl).trans records))
  · have counted : ((u.put F.sbSeq (s.get F.sbSeq + 1)).put F.rollState 0).get F.rollCount = s.get F.rollCount :=
      (State.get_put_apart rfl).trans ((State.get_put_apart rfl).trans count)
    exact (State.get_inc_self ..).trans (congrArg (satInc 32) counted)
  · exact congrArg (fun v : State => { v with
      regs := (((u.put F.sbSeq (s.get F.sbSeq + 1)).put F.rollState 0).inc F.rollCount).regs }) swapped

/-- ROLL_DONE behind a switch. -/
def State.rollRaised (s : State) : State :=
  s.raise 377 1 0 [(8, s.get F.liveHalf), (32, s.get F.sbSeq), (32, s.get F.liveBytes)]

theorem State.rollDone_eq {s : State} (switches : s.get F.rollState = 2) : s.rollDone =
    if s.rollSwitch.rollRaised.get F.rollThreshold * 134217728 ≤ s.rollSwitch.get F.liveBytes * 100 then
      ({ s.rollSwitch.rollRaised with jr := { s.rollSwitch.rollRaised.jr with full := true, fullMark := s.rollSwitch.get F.liveBytes } } :
        State).raise 378 1 2 [(32, s.rollSwitch.get F.liveBytes)]
    else { s.rollSwitch.rollRaised with jr := { s.rollSwitch.rollRaised.jr with full := false } } := if_neg (not_not.2 switches)

theorem Writes.rollRaised {s : State} : Writes [F.raised] s s.rollRaised := .raise .refl (by decide)

/-- An event's data are its fields modulo their widths. -/
theorem eventOf_congr {s : State} {src code sev : Nat} {d d' : List (Nat × Nat)} (h : sideBySide d = sideBySide d') :
    eventOf s src code sev d = eventOf s src code sev d' := by
  unfold eventOf
  rw [h]

theorem State.rollRaised_raises (s : State) : Raised [eventOf s 377 1 0 [(8, 1 - s.get F.liveHalf), (32, s.get F.sbSeq + 1)],
    restOf s 377 1 0 [(32, pendBytes s.jr.other)]] s s.rollSwitch.rollRaised := by
  obtain ⟨-, -, -, half, seq, bytes, -, -, parts⟩ := s.rollSwitch_spec
  have ev : s.rollSwitch.ev = s.ev := by rw [parts]
  have raised := Writes.rollSwitch.raisedTwo (src := 377) (code := 1) (sev := 0)
    (l := [(8, s.rollSwitch.get F.liveHalf), (32, s.rollSwitch.get F.sbSeq)]) (w := 32) (v := s.rollSwitch.get F.liveBytes) (r := [])
    ev (by decide) (by simp) (by simp) (by simp)
  have first : eventOf s 377 1 0 [(8, s.rollSwitch.get F.liveHalf), (32, s.rollSwitch.get F.sbSeq)] =
      eventOf s 377 1 0 [(8, 1 - s.get F.liveHalf), (32, s.get F.sbSeq + 1)] := eventOf_congr (by
    simp only [sideBySide, half, seq]
    omega)
  have second : restOf s 377 1 0 [(32, s.rollSwitch.get F.liveBytes)] = restOf s 377 1 0 [(32, pendBytes s.jr.other)] := by
    unfold restOf
    rw [eventOf_congr (s := s) (d := [(32, s.rollSwitch.get F.liveBytes)]) (d' := [(32, pendBytes s.jr.other)]) (by
      simp only [sideBySide, bytes]
      omega)]
  rw [first, second] at raised
  exact raised

theorem State.rollThreshold_kept (s : State) : s.rollSwitch.rollRaised.get F.rollThreshold = s.get F.rollThreshold :=
  (Writes.rollRaised.get rfl).trans (Writes.rollSwitch.get rfl)

/-- A Roll that ends below the threshold. -/
theorem does_rollDone {s : State} (switches : s.get F.rollState = 2)
    (below : pendBytes s.jr.other * 100 < s.get F.rollThreshold * 134217728) : Does .rollDone s fun t =>
    (t.jr.sb0, t.jr.sb1) = (if s.jr.sb0.half = s.get F.liveHalf
      then (s.jr.sb0, mkSuperblock (s.get F.sbSeq + 1) (1 - s.get F.liveHalf))
      else (mkSuperblock (s.get F.sbSeq + 1) (1 - s.get F.liveHalf), s.jr.sb1)) ∧
    t.jr.live = s.jr.other ∧ t.jr.other = s.jr.live ∧ t.jr.copied = 0 ∧ t.jr.full = false ∧ t.get F.rollState = 0 ∧
    t.get F.liveHalf = (1 - s.get F.liveHalf) % 256 ∧ t.get F.sbSeq = (s.get F.sbSeq + 1) % 2 ^ 64 ∧
    t.get F.liveBytes = pendBytes s.jr.other % 2 ^ 32 ∧ t.get F.liveRecords = s.jr.other.length % 2 ^ 32 ∧
    t.get F.rollCount = satInc 32 (s.get F.rollCount) ∧
    Raised [eventOf s 377 1 0 [(8, 1 - s.get F.liveHalf), (32, s.get F.sbSeq + 1)], restOf s 377 1 0 [(32, pendBytes s.jr.other)]] s t ∧
    t = { s with regs := t.regs, ev := t.ev, jr := t.jr } := by
  obtain ⟨blocks, jr, state, half, seq, bytes, records, count, parts⟩ := s.rollSwitch_spec
  have raised := s.rollRaised_raises
  have low : ¬s.rollSwitch.rollRaised.get F.rollThreshold * 134217728 ≤ s.rollSwitch.get F.liveBytes * 100 := by
    have fits := Nat.mod_le (pendBytes s.jr.other) (2 ^ 32)
    rw [State.rollThreshold_kept, bytes]
    omega
  refine ⟨_, congrArg Host.Outcome.next ((State.rollDone_eq switches).trans (if_neg low)), ?_⟩
  have kept : ∀ g : Fld, g.offAll [F.raised] = true → s.rollSwitch.rollRaised.get g = s.rollSwitch.get g := fun g off =>
    Writes.rollRaised.get off
  have same : s.rollSwitch.rollRaised.jr = s.rollSwitch.jr := rfl
  have whole : s.rollSwitch.rollRaised = { s.rollSwitch with
    regs := s.rollSwitch.rollRaised.regs, ev := s.rollSwitch.rollRaised.ev } := rfl
  generalize s.rollSwitch.rollRaised = u at raised kept same whole
  generalize s.rollSwitch = v at blocks jr state half seq bytes records count parts kept same whole
  have live : u.jr.live = s.jr.other := by rw [same, jr]
  have other : u.jr.other = s.jr.live := by rw [same, jr]
  have copied : u.jr.copied = 0 := by rw [same, jr]
  refine ⟨same ▸ blocks, live, other, copied, rfl, (kept _ rfl).trans state, (kept _ rfl).trans half, (kept _ rfl).trans seq,
    (kept _ rfl).trans bytes, (kept _ rfl).trans records, (kept _ rfl).trans count, raised, ?_⟩
  have flat : u = { s with regs := u.regs, ev := u.ev, jr := v.jr } :=
    whole.trans (congrArg (fun w : State => { w with regs := u.regs, ev := u.ev }) parts)
  exact congrArg (fun w : State => { w with jr := { u.jr with full := false } }) flat

/-- A Roll that ends above it. -/
theorem does_rollDone_full {s : State} (switches : s.get F.rollState = 2) (fits : pendBytes s.jr.other < 2 ^ 32)
    (above : s.get F.rollThreshold * 134217728 ≤ pendBytes s.jr.other * 100) : Does .rollDone s fun t =>
      t.jr.live = s.jr.other ∧ t.get F.rollState = 0 ∧ t.jr.full = true ∧ t.jr.fullMark = pendBytes s.jr.other ∧
      RaisedLast [eventOf s 378 1 2 [(32, pendBytes s.jr.other)]] s t := by
  obtain ⟨-, jr, state, -, -, bytes, -, -, -⟩ := s.rollSwitch_spec
  rw [Nat.mod_eq_of_lt fits] at bytes
  have high : s.rollSwitch.rollRaised.get F.rollThreshold * 134217728 ≤ s.rollSwitch.get F.liveBytes * 100 := by
    rw [State.rollThreshold_kept, bytes]
    exact above
  have writes : Writes (F.raised :: switchFields) s s.rollSwitch.rollRaised :=
    (Writes.rollSwitch.mono (by decide)).trans (Writes.rollRaised.mono (by decide))
  have live : s.rollSwitch.rollRaised.jr.live = s.jr.other := by
    change s.rollSwitch.jr.live = _
    rw [jr]
  have over_ : s.rollSwitch.rollRaised.get F.rollState = 0 := (Writes.rollRaised.get rfl).trans state
  refine ⟨_, congrArg Host.Outcome.next ((State.rollDone_eq switches).trans (if_pos high)), ?_⟩
  rw [bytes]
  generalize s.rollSwitch.rollRaised = u at writes live over_
  exact ⟨live, (State.get_raise_apart rfl).trans over_, rfl, rfl, (writes.upd rfl rfl rfl rfl).raisedLast (by decide) (by simp)⟩

/-! The recorder's port (R440). -/

/-- The oldest record leaves the write buffer. -/
def State.recTaken (s : State) (rest : List EvRec) : State := { s with jr := { s.jr with recBuf := rest } }

/-- A record of the watchdog or the Toll is no longer latched. -/
def State.unlatched (s : State) (r : EvRec) : State :=
  if 394 ≤ r.src ∧ r.src ≤ 401 then
    { s with pwr := { s.pwr with latch := { s.pwr.latch with events := setBit s.pwr.latch.events (r.src - 394) false } } }
  else s

/-- A record stands in the recorder, and is counted. -/
def State.recPlaced (s : State) (r : EvRec) : State :=
  ({ s with jr := { s.jr with recs := s.jr.recs ++ [r] } } : State).put F.recCount (s.get F.recCount + 1)

/-- The record that fills the recorder. -/
def State.recFills (s : State) : State :=
  let t := s.put F.recFull 1
  if t.jr.recFullRaised then t else ({ t with jr := { t.jr with recFullRaised := true } } : State).raise 379 1 1 [(32, t.now)]

theorem State.recorderAppend_free {s : State} {r : EvRec} {rest : List EvRec} (free : s.portFree = true) (buf : s.jr.recBuf = r :: rest) :
    s.recorderAppend =
      if ((s.recTaken rest).unlatched r).flag F.recFull then ((s.recTaken rest).unlatched r).inc F.recLost
      else if ((s.recTaken rest).unlatched r).get F.recCount + 1 < 4194304 then ((s.recTaken rest).unlatched r).recPlaced r
      else (((s.recTaken rest).unlatched r).recPlaced r).recFills := by
  unfold State.recorderAppend
  rw [buf]
  exact if_neg (by rw [free]; decide)

theorem does_recorderAppend {r : EvRec} {rest : List EvRec} {s : State} (free : s.portFree = true) (buf : s.jr.recBuf = r :: rest)
    (open_ : s.get F.recFull = 0) (room : s.get F.recCount < 4194303) (src : r.src < 394) : Does .recorderAppend s fun t =>
      t.jr = { s.jr with recBuf := rest, recs := s.jr.recs ++ [r] } ∧ t.get F.recCount = s.get F.recCount + 1 ∧
      RegsBut [(F.recCount, 0)] s t ∧ t = { s with regs := t.regs, jr := t.jr } := by
  have flag : (s.recTaken rest).flag F.recFull = false := State.flag_of_zero open_
  have count : (s.recTaken rest).get F.recCount = s.get F.recCount := rfl
  have other : (s.recTaken rest).unlatched r = s.recTaken rest := if_neg (by omega)
  have taken : s.recorderAppend = (s.recTaken rest).recPlaced r := by
    rw [State.recorderAppend_free free buf, other, if_neg (by simp [flag]), if_pos (by omega)]
  refine ⟨_, congrArg Host.Outcome.next taken, rfl, State.get_put_fits ?_, .put (.regs .refl rfl) (by simp), rfl⟩
  change s.get F.recCount + 1 < 2 ^ 32
  omega

theorem does_recorderLose {r : EvRec} {rest : List EvRec} {s : State} (free : s.portFree = true) (buf : s.jr.recBuf = r :: rest)
    (full : s.get F.recFull = 1) : Does .recorderAppend s fun t =>
      t.jr = { s.jr with recBuf := rest } ∧ t.get F.recLost = satInc 32 (s.get F.recLost) ∧ RegsBut [(F.recLost, 0)] s t := by
  have parts : ((s.recTaken rest).unlatched r).regs = s.regs ∧ ((s.recTaken rest).unlatched r).jr = { s.jr with recBuf := rest } := by
    unfold State.unlatched
    split <;> exact ⟨rfl, rfl⟩
  obtain ⟨regs, jr⟩ := parts
  have flag : ((s.recTaken rest).unlatched r).flag F.recFull = true := State.flag_of_one ((State.get_of_regs regs _ _).trans full)
  have lost : s.recorderAppend = ((s.recTaken rest).unlatched r).inc F.recLost := by
    rw [State.recorderAppend_free free buf, if_pos flag]
  refine ⟨_, congrArg Host.Outcome.next lost, jr, ?_, .inc (.regs .refl regs) (by simp)⟩
  rw [State.get_inc_self, State.get_of_regs regs]
  rfl

/-- Settles O51: the Journal's port, the Roll, its switch and the recorder's port, each by its own rule. -/
theorem theJournalCommitsAndRolls : Obligations.TheJournalCommitsAndRolls := by
  unfold Obligations.TheJournalCommitsAndRolls
  refine ⟨fun r rest s pend free mirror => does_recordCommit pend free mirror, fun s h => ?idle,
    fun s rolls mirror pend quiet => does_rollCopy rolls mirror pend quiet, fun s h => ?noCopy,
    fun s switches below => does_rollDone switches below, fun s switches fits above => does_rollDone_full switches fits above,
    fun s no => ⟨s, congrArg Host.Outcome.next (if_pos no), rfl⟩,
    fun r rest s free buf open_ room src => does_recorderAppend free buf open_ room src,
    fun r rest s free buf full => does_recorderLose free buf full, fun s h => ?noAppend⟩
  case idle =>
    refine ⟨s, congrArg Host.Outcome.next ?_, rfl⟩
    unfold State.commitRecord
    split
    · rfl
    · next r rest pend =>
      refine if_pos ?_
      rcases h with none | switches | mirrors
      · rw [none] at pend
        cases pend
      · exact .inl switches
      · exact .inr (Option.isSome_iff_ne_none.2 mirrors)
  case noCopy =>
    refine ⟨s, congrArg Host.Outcome.next (if_pos ?_), rfl⟩
    rcases h with rolls | mirrors | pend | buf
    · exact .inl rolls
    · exact .inr (.inl (by rw [State.portFree, Option.isNone_eq_false_iff.2 (Option.isSome_iff_ne_none.2 mirrors)]; rfl))
    · exact .inr (.inl (by simp [State.portFree, pend]))
    · exact .inr (.inr (by simp [buf]))
  case noAppend =>
    refine ⟨s, congrArg Host.Outcome.next ?_, rfl⟩
    unfold State.recorderAppend
    split
    · rfl
    · next r rest buf =>
      refine if_pos ?_
      rcases h with none | pend | mirrors
      · rw [none] at buf
        cases buf
      · simp [State.portFree, pend]
      · rw [State.portFree, Option.isNone_eq_false_iff.2 (Option.isSome_iff_ne_none.2 mirrors)]
        rfl

end Sys2Proof.Machine

namespace Sys2Proof.Machine

open Sys2Proof

/-! The Toll (R461 to R464). -/

theorem Touches.wd_eq {m : Parts} {s t : State} (h : Touches m s t) (hm : m.wd = false) : t.wd = s.wd := by
  have same := congrArg State.wd h
  simpa only [State.without, hm, cond_false] using same

theorem Writes.latch {ws : List Fld} {s t : State} {f : Latch → Latch} (h : Writes ws s t) : Writes ws s (t.latch f) :=
  h.upd rfl rfl rfl rfl

theorem Writes.raiseLatched {ws : List Fld} {s t : State} {src code sev : Nat} {d : List (Nat × Nat)} (h : Writes ws s t)
    (hf : F.raised ∈ ws) : Writes ws s (t.raiseLatched src code sev d) := .raise h.latch hf

theorem Writes.rejectNext {ws : List Fld} {s : State} : Writes ws s s.rejectNext := .ite (fun _ => .upd .refl rfl rfl rfl rfl) fun _ => .refl

theorem State.rejectNext_parts (s : State) : s.rejectNext = { s with img := s.rejectNext.img } := by
  unfold State.rejectNext
  split <;> rfl

theorem Writes.cause {ws : List Fld} {s t : State} {k : CauseKind} {c : Nat} (h : Writes ws s t) : Writes ws s (t.cause k c) :=
  h.upd rfl rfl rfl rfl

/-- The instant of the step stands with the others. -/
def State.tollNoted (s : State) : State :=
  (({ s.rejectNext with wd := { s.wd with instants := s.wd.instants ++ [s.beat.opBeats] } } : State).put
    F.toll (min (s.wd.instants ++ [s.beat.opBeats]).length 15)).latchCounts (s.wd.instants ++ [s.beat.opBeats]).length

/-- A module on which a step 1 becomes a step 2 (R463). -/
def State.tollRestarts (s : State) : Bool :=
  s.get F.role == rActive && s.pair.partnerReady || s.get F.mode == mStart || s.get F.mode == mSafe || s.rt.prog.isNone

/-- The step that is carried out for the step `step` of the table. -/
def State.tollDone (s : State) (step : Nat) (forced : Bool) : Nat :=
  if (if forced && step == 1 then 2 else step) = 1 ∧ s.tollRestarts then 2 else if forced && step == 1 then 2 else step

/-- The step is recorded and raised. -/
def State.tollRaised (s : State) (step done cause : Nat) : State :=
  let t : State := { s with wd := { s.wd with
    step := step, stepDone := done, hbStopped := s.wd.hbStopped || s.get F.role == rActive && s.pair.partnerReady } }
  (t.journalToll.journal 0x10 3 4 (t.journalToll.get F.wdTotal) false).raiseLatched 399 1 (if done = 3 then 4 else 3)
    [(32, s.wd.instants.length), (8, done), (8, step), (8, cause)]

theorem State.tollStep_eq (s : State) (cause : Nat) (forced : Bool) : s.tollStep cause forced =
    let step := tollTable s.tollNoted.wd.instants.length (s.tollNoted.get F.tollLimit)
    let done := s.tollNoted.tollDone step forced
    let t := s.tollNoted.tollRaised step done cause
    if done = 3 then t.cause (.safe 1) 1 else if done = 2 then t.cause .start 2
    else { t with wd := { t.wd with warmRestart := true } } := rfl

/-- The fields that a Toll step writes. -/
def tollFields : List Fld := [F.toll, F.raised]

theorem Writes.tollNoted {s : State} : Writes tollFields s s.tollNoted := by
  unfold State.tollNoted State.latchCounts
  exact .latch (.put (.upd .rejectNext rfl rfl rfl rfl) (by decide))

theorem Writes.tollRaised {s : State} {step done cause : Nat} : Writes [F.raised] s (s.tollRaised step done cause) :=
  .raiseLatched (.journal (.journal (.upd .refl rfl rfl rfl rfl) (by decide)) (by decide)) (by decide)

/-- What a step leaves, before its cause of a mode change. -/
theorem State.tollRaised_spec (s : State) (step done cause : Nat) :
    (s.tollRaised step done cause).wd = { s.wd with
      step := step, stepDone := done, hbStopped := s.wd.hbStopped || s.get F.role == rActive && s.pair.partnerReady } ∧
    (s.tollRaised step done cause).beat = s.beat := by
  have journaled : ∀ u : State, u.journalToll.wd = u.wd ∧ u.journalToll.beat = u.beat := fun u =>
    ⟨State.journalToll_touches.wd_eq rfl, State.journalToll_touches.beat_eq rfl⟩
  have recorded : ∀ (u : State) (p : Nat), (u.journal 0x10 3 4 p false).wd = u.wd ∧ (u.journal 0x10 3 4 p false).beat = u.beat := fun u p =>
    ⟨State.journal_touches.wd_eq rfl, State.journal_touches.beat_eq rfl⟩
  have raised : ∀ (u : State) (v : Nat) (d : List (Nat × Nat)), (u.raiseLatched 399 1 v d).wd = u.wd ∧
    (u.raiseLatched 399 1 v d).beat = u.beat := fun u v d => ⟨rfl, rfl⟩
  unfold State.tollRaised
  rw [(raised _ _ _).1, (raised _ _ _).2, (recorded _ _).1, (recorded _ _).2, (journaled _).1, (journaled _).2]
  exact ⟨rfl, rfl⟩

/-- The step carried out, and the cause of a mode change that it is. -/
def State.tollActs (s : State) (done : Nat) : State :=
  if done = 3 then s.cause (.safe 1) 1 else if done = 2 then s.cause .start 2
  else { s with wd := { s.wd with warmRestart := true } }

theorem Writes.tollActs {ws : List Fld} {s : State} {done : Nat} : Writes ws s (s.tollActs done) :=
  .ite (fun _ => .cause .refl) fun _ => .ite (fun _ => .cause .refl) fun _ => .upd .refl rfl rfl rfl rfl

section

variable (s : State) (cause : Nat) (forced : Bool)

/-- The step of the table, and what is carried out for it. -/
def State.tollNow : Nat := s.tollNoted.tollDone (tollTable (s.wd.instants.length + 1) (s.get F.tollLimit)) forced

theorem State.tollStep_acts : s.tollStep cause forced =
    (s.tollNoted.tollRaised (tollTable (s.wd.instants.length + 1) (s.get F.tollLimit)) (s.tollNow forced) cause).tollActs
      (s.tollNow forced) := by
  have count : s.tollNoted.wd.instants.length = s.wd.instants.length + 1 := List.length_append
  have limit : s.tollNoted.get F.tollLimit = s.get F.tollLimit := Writes.tollNoted.get rfl
  rw [State.tollStep_eq, count, limit]
  rfl

theorem Writes.tollStep : Writes tollFields s (s.tollStep cause forced) := by
  rw [State.tollStep_acts]
  exact Writes.tollNoted.trans ((Writes.tollRaised.mono (by decide)).trans .tollActs)

/-- The counts behind a step. -/
theorem State.tollStep_counts : (s.tollStep cause forced).wd.instants = s.wd.instants ++ [s.beat.opBeats] ∧
    (s.tollStep cause forced).wd.stepDone = s.tollNow forced ∧ (s.tollStep cause forced).wd.erase = s.wd.erase ∧
    (s.tollStep cause forced).wd.clockStopped = s.wd.clockStopped ∧
    (s.tollStep cause forced).get F.toll = min (s.wd.instants.length + 1) 15 := by
  obtain ⟨wd, -⟩ := s.tollNoted.tollRaised_spec (tollTable (s.wd.instants.length + 1) (s.get F.tollLimit)) (s.tollNow forced) cause
  have toll : s.tollNoted.get F.toll = min (s.wd.instants.length + 1) 15 := by
    have len : (s.wd.instants ++ [s.beat.opBeats]).length = s.wd.instants.length + 1 := List.length_append
    rw [← len]
    exact State.get_put_fits (Nat.lt_of_le_of_lt (Nat.min_le_right _ _) (by decide))
  have kept : (s.tollStep cause forced).get F.toll = s.tollNoted.get F.toll := by
    rw [State.tollStep_acts]
    exact (Writes.tollActs (ws := [])).get rfl |>.trans (Writes.tollRaised.get rfl)
  rw [kept, State.tollStep_acts]
  generalize s.tollNoted.tollRaised (tollTable (s.wd.instants.length + 1) (s.get F.tollLimit)) (s.tollNow forced) cause = u at wd
  have acted : (u.tollActs (s.tollNow forced)).wd.instants = u.wd.instants ∧ (u.tollActs (s.tollNow forced)).wd.stepDone = u.wd.stepDone ∧
      (u.tollActs (s.tollNow forced)).wd.erase = u.wd.erase ∧ (u.tollActs (s.tollNow forced)).wd.clockStopped = u.wd.clockStopped := by
    unfold State.tollActs
    split_ifs <;> exact ⟨rfl, rfl, rfl, rfl⟩
  obtain ⟨instants, done, erase, clock⟩ := acted
  rw [instants, done, erase, clock, wd]
  exact ⟨rfl, rfl, rfl, rfl, toll⟩

/-- Step 3 is a cause of SAFE. -/
theorem State.tollStep_safe (limit : s.get F.tollLimit ≤ s.wd.instants.length + 1) : s.tollNow forced = 3 ∧
    { kind := .safe 1, beat := s.now, code := 1 } ∈ (s.tollStep cause forced).beat.causes := by
  have table : tollTable (s.wd.instants.length + 1) (s.get F.tollLimit) = 3 := if_pos limit
  have three : s.tollNow forced = 3 := by
    unfold State.tollNow State.tollDone
    rw [table]
    cases forced <;> simp
  refine ⟨three, ?_⟩
  rw [State.tollStep_acts, three]
  have now : (s.tollNoted.tollRaised (tollTable (s.wd.instants.length + 1) (s.get F.tollLimit)) 3 cause).now = s.now :=
    (Writes.tollRaised.get rfl).trans (Writes.tollNoted.get rfl)
  generalize s.tollNoted.tollRaised (tollTable (s.wd.instants.length + 1) (s.get F.tollLimit)) 3 cause = u at now
  exact List.mem_append_right _ (List.mem_singleton.2 (by rw [now]))

/-- Step 2 is a cause of a restart. -/
theorem State.tollStep_restart (two : s.tollNow forced = 2) :
    { kind := .start, beat := s.now, code := 2 } ∈ (s.tollStep cause forced).beat.causes := by
  rw [State.tollStep_acts, two]
  have now : (s.tollNoted.tollRaised (tollTable (s.wd.instants.length + 1) (s.get F.tollLimit)) 2 cause).now = s.now :=
    (Writes.tollRaised.get rfl).trans (Writes.tollNoted.get rfl)
  generalize s.tollNoted.tollRaised (tollTable (s.wd.instants.length + 1) (s.get F.tollLimit)) 2 cause = u at now
  exact List.mem_append_right _ (List.mem_singleton.2 (by rw [now]))

/-- Below the limit a forced step is carried out as step 2. -/
theorem State.tollNow_forced (below : s.wd.instants.length + 1 < s.get F.tollLimit) : s.tollNow true = 2 := by
  unfold State.tollNow State.tollDone tollTable
  rw [if_neg (Nat.not_le.2 below)]
  split_ifs <;> simp_all

/-- A later one too. -/
theorem State.tollNow_later (below : s.wd.instants.length + 1 < s.get F.tollLimit) (later : 1 ≤ s.wd.instants.length) :
    s.tollNow false = 2 := by
  have table : tollTable (s.wd.instants.length + 1) (s.get F.tollLimit) = 2 :=
    (if_neg (Nat.not_le.2 below)).trans (if_neg (by omega))
  unfold State.tollNow State.tollDone
  rw [table]
  simp

/-- The first one is step 1 on a module that does not restart. -/
theorem State.tollNow_first (first : s.wd.instants = []) (below : 1 < s.get F.tollLimit) (stays : s.tollNoted.tollRestarts = false) :
    s.tollNow false = 1 := by
  have table : tollTable (s.wd.instants.length + 1) (s.get F.tollLimit) = 1 := by
    rw [first]
    exact (if_neg (Nat.not_le.2 below)).trans (if_pos rfl)
  unfold State.tollNow State.tollDone
  rw [table, stays]
  simp

/-- Step 1 is a warm restart. -/
theorem State.tollStep_warm (one : s.tollNow forced = 1) :
    (s.tollStep cause forced).wd.warmRestart = true ∧ (s.tollStep cause forced).beat = s.beat := by
  obtain ⟨-, beat⟩ := s.tollNoted.tollRaised_spec (tollTable (s.wd.instants.length + 1) (s.get F.tollLimit)) 1 cause
  have noted : s.tollNoted.beat = s.beat := by
    change s.rejectNext.beat = _
    rw [State.rejectNext_parts]
  rw [State.tollStep_acts, one]
  generalize s.tollNoted.tollRaised (tollTable (s.wd.instants.length + 1) (s.get F.tollLimit)) 1 cause = u at beat
  exact ⟨rfl, beat.trans noted⟩

end

end Sys2Proof.Machine

namespace Sys2Proof.Machine

open Sys2Proof

/-! Windows of the watchdog (R456, R460, R465, R529). -/

/-- The fields of a window. -/
def windowFields : List Fld := [F.wdState, F.wdCount, F.guardUsed, F.openCount, F.closeCount]

/-- Its registers. -/
def windowRegs : List (Fld × Nat) := [(F.wdState, 0), (F.wdCount, 0), (F.guardUsed, 0), (F.openCount, 0), (F.closeCount, 0)]

/-- A window's counts. -/
def State.windowShown (s : State) (opens closes : Nat) : State :=
  ((((s.put F.wdState (if s.wd.erase = 2 then 1 else 0)).put F.wdCount 0).put F.guardUsed 0).put F.openCount opens).put F.closeCount closes

/-- A window that runs with them. -/
def State.windowRuns (s : State) (opens closes : Nat) : State :=
  { s.windowShown opens closes with wd := { s.wd with running := true, waitAck := false, tokenMissed := false } }

/-- A window, before a waiting erase. -/
def State.windowCounts (s : State) : State :=
  s.windowRuns (max 1 (ticks (s.get F.wdOpen) (s.get F.wdClockNow))) (ticks (s.get F.wdClose) (s.get F.wdClockNow))

theorem State.openWindow_eq (s : State) : s.openWindow = s.windowCounts.eraseStarts := rfl

/-- The erase of a window that opens: a waiting one starts. -/
theorem State.eraseStarts_fresh {s : State} (unused : s.get F.guardUsed = 0) : s.eraseStarts =
    if s.wd.erase = 1 then
      if s.wd.running ∧ s.get F.wdState = 0 then ({ s with wd := { s.wd with erase := 2 } } : State).put F.wdState 1
      else { s with wd := { s.wd with erase := 2 } }
    else s := by
  unfold State.eraseStarts
  by_cases waits : s.wd.erase = 1
  · rw [if_pos waits, if_neg (by rw [waits, unused]; simp)]
    rfl
  · rw [if_neg waits, if_pos (.inl waits)]

theorem Writes.eraseStarts {s : State} : Writes [F.wdState] s s.eraseStarts :=
  .ite (fun _ => .refl) fun _ => .ite (fun _ => .put (.upd .refl rfl rfl rfl rfl) (by decide)) fun _ => .upd .refl rfl rfl rfl rfl

theorem Writes.windowShown {s : State} {opens closes : Nat} : Writes windowFields s (s.windowShown opens closes) :=
  .put (.put (.put (.put (.put .refl (by decide)) (by decide)) (by decide)) (by decide)) (by decide)

theorem Writes.windowRuns {s : State} {opens closes : Nat} : Writes windowFields s (s.windowRuns opens closes) :=
  Writes.windowShown.upd rfl rfl rfl rfl

theorem Writes.windowCounts {s : State} : Writes windowFields s s.windowCounts := by
  unfold State.windowCounts
  exact .windowRuns

theorem Writes.openWindow {s : State} : Writes windowFields s s.openWindow := by
  rw [State.openWindow_eq]
  exact Writes.windowCounts.trans (Writes.eraseStarts.mono (by decide))

theorem RegsBut.windowCounts (s : State) : RegsBut windowRegs s s.windowCounts := by
  unfold State.windowCounts
  generalize max 1 (ticks (s.get F.wdOpen) (s.get F.wdClockNow)) = opens
  generalize ticks (s.get F.wdClose) (s.get F.wdClockNow) = closes
  refine .regs (show RegsBut windowRegs s (s.windowShown opens closes) from ?_) rfl
  refine .put (.put (.put (.put (.put .refl ?_) ?_) ?_) ?_) ?_ <;> simp [windowRegs]

theorem RegsBut.eraseStarts {l : List (Fld × Nat)} {s t : State} (h : RegsBut l s t) (named : (F.wdState, 0) ∈ l) :
    RegsBut l s t.eraseStarts :=
  .ite (fun _ => h) fun _ => .ite (fun _ => .put (h.regs rfl) named) fun _ => h.regs rfl

/-- A window that opens leaves what the watchdog counts. -/
theorem State.openWindow_wd (s : State) : s.openWindow.wd = { s.wd with
    running := true, waitAck := false, tokenMissed := false, erase := s.openWindow.wd.erase } ∧
    s.openWindow.beat = s.beat ∧ s.openWindow.mem = s.mem := by
  have started : ∀ u : State, u.eraseStarts.wd = { u.wd with erase := u.eraseStarts.wd.erase } := fun u => by
    unfold State.eraseStarts
    dsimp only
    split_ifs <;> rfl
  refine ⟨?_, State.openWindow_touches.beat_eq rfl, State.openWindow_touches.mem_eq rfl⟩
  rw [State.openWindow_eq, started]
  rfl

theorem State.windowShown_gets (s : State) (opens closes : Nat) : (s.windowShown opens closes).get F.guardUsed = 0 ∧
    (s.windowShown opens closes).get F.wdCount = 0 ∧ (s.windowShown opens closes).get F.openCount = opens % 2 ^ 32 ∧
    (s.windowShown opens closes).get F.closeCount = closes % 2 ^ 32 ∧
    (s.windowShown opens closes).get F.wdState = if s.wd.erase = 2 then 1 else 0 :=
  ⟨(State.get_put_apart rfl).trans ((State.get_put_apart rfl).trans (State.get_put_self ..)),
    (State.get_put_apart rfl).trans ((State.get_put_apart rfl).trans ((State.get_put_apart rfl).trans (State.get_put_self ..))),
    (State.get_put_apart rfl).trans (State.get_put_self ..), State.get_put_self ..,
    (State.get_put_apart rfl).trans ((State.get_put_apart rfl).trans ((State.get_put_apart rfl).trans ((State.get_put_apart rfl).trans
      (State.get_put_fits (by split <;> decide)))))⟩

theorem State.windowRuns_gets (s : State) (opens closes : Nat) : (s.windowRuns opens closes).get F.guardUsed = 0 ∧
    (s.windowRuns opens closes).get F.wdCount = 0 ∧ (s.windowRuns opens closes).get F.openCount = opens % 2 ^ 32 ∧
    (s.windowRuns opens closes).get F.closeCount = closes % 2 ^ 32 ∧
    (s.windowRuns opens closes).get F.wdState = (if s.wd.erase = 2 then 1 else 0) ∧
    (s.windowRuns opens closes).wd = { s.wd with running := true, waitAck := false, tokenMissed := false } := by
  have shown : ∀ f : Fld, (s.windowRuns opens closes).get f = (s.windowShown opens closes).get f := fun f => State.get_of_regs rfl f 0
  obtain ⟨used, count, opening, closing, state⟩ := s.windowShown_gets opens closes
  rw [shown, shown, shown, shown, shown]
  exact ⟨used, count, opening, closing, state, rfl⟩

/-- A fresh window (R456), which a busy erase holds. -/
theorem State.openWindow_spec {s : State} (erase : s.wd.erase ≤ 2) :
    s.openWindow.get F.wdState = (if s.wd.erase = 0 then 0 else 1) ∧ s.openWindow.get F.wdCount = 0 ∧
    s.openWindow.get F.guardUsed = 0 ∧
    s.openWindow.get F.openCount = max 1 (ticks (s.get F.wdOpen) (s.get F.wdClockNow)) % 2 ^ 32 ∧
    s.openWindow.get F.closeCount = ticks (s.get F.wdClose) (s.get F.wdClockNow) % 2 ^ 32 ∧
    RegsBut windowRegs s s.openWindow ∧
    s.openWindow.wd = { s.wd with
      running := true, waitAck := false, tokenMissed := false, erase := if s.wd.erase = 0 then 0 else 2 } ∧
    s.openWindow = { s with regs := s.openWindow.regs, wd := s.openWindow.wd } := by
  have counts : s.windowCounts = s.windowRuns (max 1 (ticks (s.get F.wdOpen) (s.get F.wdClockNow)))
    (ticks (s.get F.wdClose) (s.get F.wdClockNow)) := rfl
  obtain ⟨used, count, opens, closes, state, wd⟩ := s.windowRuns_gets (max 1 (ticks (s.get F.wdOpen) (s.get F.wdClockNow)))
    (ticks (s.get F.wdClose) (s.get F.wdClockNow))
  rw [← counts] at used count opens closes state wd
  have kept : ∀ g : Fld, g.offAll [F.wdState] = true → s.openWindow.get g = s.windowCounts.get g := fun g off => by
    rw [State.openWindow_eq]
    exact Writes.eraseStarts.get off
  refine ⟨?_, (kept _ rfl).trans count, (kept _ rfl).trans used, (kept _ rfl).trans opens, (kept _ rfl).trans closes, ?_, ?_,
    State.openWindow_touches.eq_takes⟩
  · rw [State.openWindow_eq, State.eraseStarts_fresh used]
    rw [wd]
    by_cases waits : s.wd.erase = 1
    · have idle : s.windowCounts.get F.wdState = 0 := by rw [state, if_neg (by omega)]
      rw [if_pos waits, if_pos ⟨rfl, idle⟩, if_neg (show ¬s.wd.erase = 0 by omega)]
      exact State.get_put_self ..
    · rw [if_neg waits, state]
      by_cases none : s.wd.erase = 0
      · rw [if_pos none, if_neg (by omega)]
      · rw [if_neg none, if_pos (by omega)]
  · rw [State.openWindow_eq]
    exact (RegsBut.windowCounts s).eraseStarts (by simp [windowRegs])
  · rw [State.openWindow_eq, State.eraseStarts_fresh used]
    rw [wd]
    by_cases waits : s.wd.erase = 1
    · rw [if_pos waits, if_neg (show ¬s.wd.erase = 0 by omega)]
      split_ifs <;> rfl
    · rw [if_neg waits, wd]
      by_cases none : s.wd.erase = 0
      · rw [if_pos none, ← none]
      · rw [if_neg none, show (2 : Nat) = s.wd.erase by omega]

/-! Expiries (R461). -/

/-- The expiry is counted. -/
def State.expiryNoted (s : State) (cause : Nat) : State :=
  (((s.put F.wdState 2).put F.wdLastCause cause).inc F.wdTotal).put F.lastExpiryBeat s.now

/-- A mute Supervisor does not acknowledge. -/
def State.ackWaits (s : State) : State :=
  (({ s with wd := { s.wd with instants := s.wd.instants ++ [s.beat.opBeats], waitAck := true } } : State).put F.toll
    (min (s.wd.instants ++ [s.beat.opBeats]).length 15)).latchCounts (s.wd.instants ++ [s.beat.opBeats]).length

/-- The step has been carried out: a warm restart goes on in a new window. -/
def State.tollCarried (s : State) : State := if s.wd.stepDone = 1 then s.openWindow else { s with wd := { s.wd with running := false } }

theorem State.expire_eq (s : State) (cause : Nat) : s.expire cause =
    if (s.expiryNoted cause).lcp.mute then (s.expiryNoted cause).ackWaits
    else ((s.expiryNoted cause).tollStep cause false).tollCarried := by
  unfold State.expire State.expiryNoted State.ackWaits State.tollCarried
  rfl

/-- The fields that an expiry writes. -/
def expiryFields : List Fld := [F.wdLastCause, F.wdTotal, F.lastExpiryBeat] ++ tollFields ++ windowFields

theorem Writes.expiryNoted {s : State} {cause : Nat} :
    Writes [F.wdState, F.wdLastCause, F.wdTotal, F.lastExpiryBeat] s (s.expiryNoted cause) :=
  .put (.inc (.put (.put .refl (by decide)) (by decide)) (by decide)) (by decide)

theorem Writes.ackWaits {s : State} : Writes [F.toll] s s.ackWaits := by
  unfold State.ackWaits State.latchCounts
  exact .latch (.put (.upd .refl rfl rfl rfl rfl) (by decide))

theorem Writes.tollCarried {s : State} : Writes windowFields s s.tollCarried :=
  .ite (fun _ => .openWindow) fun _ => .upd .refl rfl rfl rfl rfl

/-- The course of an expiry behind its counts. -/
theorem Writes.expiryCourse {s : State} {cause : Nat} :
    Writes (tollFields ++ windowFields) s (if s.lcp.mute then s.ackWaits else (s.tollStep cause false).tollCarried) :=
  .ite (fun _ => Writes.ackWaits.mono (by decide)) fun _ =>
    ((Writes.tollStep s cause false).mono (by decide)).trans (Writes.tollCarried.mono (by decide))

theorem Writes.expire {s : State} {cause : Nat} : Writes expiryFields s (s.expire cause) := by
  rw [State.expire_eq]
  exact (Writes.expiryNoted.mono (by decide)).trans (Writes.expiryCourse.mono (by decide))

theorem State.tollCarried_kept (s : State) : s.tollCarried.wd.instants = s.wd.instants ∧ s.tollCarried.wd.stepDone = s.wd.stepDone ∧
    s.tollCarried.wd.warmRestart = s.wd.warmRestart ∧ s.tollCarried.wd.clockStopped = s.wd.clockStopped ∧
    s.tollCarried.beat = s.beat ∧ s.tollCarried.mem = s.mem := by
  obtain ⟨wd, beat, mem⟩ := s.openWindow_wd
  unfold State.tollCarried
  split
  · rw [beat, mem, wd]
    exact ⟨rfl, rfl, rfl, rfl, rfl, rfl⟩
  · exact ⟨rfl, rfl, rfl, rfl, rfl, rfl⟩

/-- Every expiry is counted, as a step of the Toll too. -/
theorem State.expire_counts (s : State) {cause : Nat} (known : cause < 4) :
    (s.expire cause).get F.wdLastCause = cause ∧ (s.expire cause).get F.wdTotal = satInc 32 (s.get F.wdTotal) ∧
    (s.expire cause).get F.lastExpiryBeat = s.now % 2 ^ 64 ∧
    (s.expire cause).get F.toll = min (s.wd.instants.length + 1) 15 ∧
    (s.expire cause).wd.instants = s.wd.instants ++ [s.beat.opBeats] ∧
    (s.expire cause).wd.clockStopped = s.wd.clockStopped ∧ (s.expire cause).mem = s.mem := by
  have kept : ∀ g : Fld, g.offAll (tollFields ++ windowFields) = true → (s.expire cause).get g = (s.expiryNoted cause).get g :=
    fun g off => by
      rw [State.expire_eq]
      exact (Writes.expiryCourse (cause := cause)).get off
  have last : (s.expiryNoted cause).get F.wdLastCause = cause :=
    (State.get_put_apart rfl).trans ((State.get_inc_apart rfl).trans (State.get_put_fits known))
  have total : (s.expiryNoted cause).get F.wdTotal = satInc 32 (s.get F.wdTotal) := by
    have before : ((s.put F.wdState 2).put F.wdLastCause cause).get F.wdTotal = s.get F.wdTotal :=
      (State.get_put_apart rfl).trans (State.get_put_apart rfl)
    exact (State.get_put_apart rfl).trans ((State.get_inc_self ..).trans (congrArg (satInc 32) before))
  have instant : (s.expiryNoted cause).get F.lastExpiryBeat = s.now % 2 ^ 64 := State.get_put_self ..
  have wd : (s.expiryNoted cause).wd = s.wd ∧ (s.expiryNoted cause).beat = s.beat ∧ (s.expiryNoted cause).mem = s.mem := ⟨rfl, rfl, rfl⟩
  refine ⟨(kept _ rfl).trans last, (kept _ rfl).trans total, (kept _ rfl).trans instant, ?_⟩
  rw [State.expire_eq]
  generalize s.expiryNoted cause = u at wd
  obtain ⟨wd, beat, mem⟩ := wd
  rw [← wd, ← beat, ← mem]
  split
  · have len : (u.wd.instants ++ [u.beat.opBeats]).length = u.wd.instants.length + 1 := List.length_append
    refine ⟨?_, rfl, rfl, rfl⟩
    rw [← len]
    exact State.get_put_fits (Nat.lt_of_le_of_lt (Nat.min_le_right _ _) (by decide))
  · obtain ⟨instants, -, -, clock, toll⟩ := u.tollStep_counts cause false
    obtain ⟨sameInstants, -, -, sameClock, -, sameMem⟩ := (u.tollStep cause false).tollCarried_kept
    rw [sameInstants, sameClock, sameMem, instants, clock, Writes.tollCarried.get rfl, toll]
    exact ⟨rfl, rfl, rfl, State.tollStep_touches.mem_eq rfl⟩

/-- A mute Supervisor leaves the step to the power manager. -/
theorem State.expire_mute (s : State) (cause : Nat) (mute : s.lcp.mute = true) :
    (s.expire cause).wd.waitAck = true ∧ (s.expire cause).get F.wdState = 2 := by
  have same : (s.expiryNoted cause).lcp = s.lcp := rfl
  rw [State.expire_eq, same, if_pos mute, Writes.ackWaits.get rfl]
  refine ⟨rfl, ?_⟩
  exact (State.get_put_apart rfl).trans ((State.get_inc_apart rfl).trans ((State.get_put_apart rfl).trans (State.get_put_self ..)))

section

variable (s : State) (cause : Nat) (heard : s.lcp.mute = false)
include heard

theorem State.expire_heard : s.expire cause = ((s.expiryNoted cause).tollStep cause false).tollCarried := by
  have same : (s.expiryNoted cause).lcp = s.lcp := rfl
  rw [State.expire_eq, same, if_neg (by simp [heard])]

/-- Step 3. -/
theorem State.expire_safe (limit : s.get F.tollLimit ≤ s.wd.instants.length + 1) : (s.expire cause).wd.stepDone = 3 ∧
    { kind := .safe 1, beat := s.now, code := 1 } ∈ (s.expire cause).beat.causes := by
  have limit' : (s.expiryNoted cause).get F.tollLimit ≤ (s.expiryNoted cause).wd.instants.length + 1 := by
    rw [Writes.expiryNoted.get rfl]
    exact limit
  have now : (s.expiryNoted cause).now = s.now := Writes.expiryNoted.get rfl
  obtain ⟨three, there⟩ := (s.expiryNoted cause).tollStep_safe cause false limit'
  obtain ⟨-, done, -⟩ := (s.expiryNoted cause).tollStep_counts cause false
  obtain ⟨-, sameDone, -, -, sameBeat, -⟩ := ((s.expiryNoted cause).tollStep cause false).tollCarried_kept
  rw [State.expire_heard s cause heard, sameDone, done, sameBeat, three, ← now]
  exact ⟨rfl, there⟩

/-- Step 2. -/
theorem State.expire_restart (below : s.wd.instants.length + 1 < s.get F.tollLimit) (later : 1 ≤ s.wd.instants.length) :
    (s.expire cause).wd.stepDone = 2 ∧ { kind := .start, beat := s.now, code := 2 } ∈ (s.expire cause).beat.causes := by
  have below' : (s.expiryNoted cause).wd.instants.length + 1 < (s.expiryNoted cause).get F.tollLimit := by
    rw [Writes.expiryNoted.get rfl]
    exact below
  have now : (s.expiryNoted cause).now = s.now := Writes.expiryNoted.get rfl
  have two := (s.expiryNoted cause).tollNow_later below' later
  have there := (s.expiryNoted cause).tollStep_restart cause false two
  obtain ⟨-, done, -⟩ := (s.expiryNoted cause).tollStep_counts cause false
  obtain ⟨-, sameDone, -, -, sameBeat, -⟩ := ((s.expiryNoted cause).tollStep cause false).tollCarried_kept
  rw [State.expire_heard s cause heard, sameDone, done, sameBeat, two, ← now]
  exact ⟨rfl, there⟩

/-- Step 1: the warm restart goes on in a new window. -/
theorem State.expire_warm (first : s.wd.instants = []) (below : 1 < s.get F.tollLimit) (role : s.get F.role = 1)
    (mode : s.get F.mode = 3) (prog : s.rt.prog.isSome = true) (erase : s.wd.erase = 0) :
    (s.expire cause).wd.stepDone = 1 ∧ (s.expire cause).wd.warmRestart = true ∧ (s.expire cause).get F.wdState = 0 ∧
      (s.expire cause).beat = s.beat := by
  have noted : Writes (tollFields ++ expiryFields) s (s.expiryNoted cause).tollNoted :=
    (Writes.expiryNoted.mono (by decide)).trans (Writes.tollNoted.mono (by decide))
  have rt : (s.expiryNoted cause).tollNoted.rt = s.rt := by
    change (s.expiryNoted cause).rejectNext.rt = _
    rw [State.rejectNext_parts]
    rfl
  have stays : (s.expiryNoted cause).tollNoted.tollRestarts = false := by
    unfold State.tollRestarts
    rw [noted.get (g := F.role) rfl, noted.get (g := F.mode) rfl, role, mode, rt, Option.isNone_eq_false_iff.2 prog]
    rfl
  have one := (s.expiryNoted cause).tollNow_first first (by rw [Writes.expiryNoted.get rfl]; exact below) stays
  obtain ⟨warm, beat⟩ := (s.expiryNoted cause).tollStep_warm cause false one
  obtain ⟨-, done, idle, -⟩ := (s.expiryNoted cause).tollStep_counts cause false
  have erase' : ((s.expiryNoted cause).tollStep cause false).wd.erase = 0 := idle.trans erase
  rw [one] at done
  have sameBeat : (s.expiryNoted cause).beat = s.beat := rfl
  rw [State.expire_heard s cause heard]
  generalize (s.expiryNoted cause).tollStep cause false = u at warm beat done erase'
  obtain ⟨-, sameDone, sameWarm, -, carried, -⟩ := u.tollCarried_kept
  have window : u.tollCarried = u.openWindow := if_pos done
  obtain ⟨state, -⟩ := State.openWindow_spec (s := u) (by omega)
  rw [if_pos erase'] at state
  exact ⟨sameDone.trans done, sameWarm.trans warm, by rw [window]; exact state, carried.trans (beat.trans sameBeat)⟩

end

end Sys2Proof.Machine

namespace Sys2Proof.Machine

open Sys2Proof

/-! O54: services, expiries and the Toll. -/

/-- A service word that lands in a running window. -/
theorem State.wdLands_open {s : State} (running : s.wd.running = true) (open_ : s.get F.wdState = 0) (k : Nat) (ok : Bool) :
    s.wdLands k ok = if k ≥ (s.put F.wdCount k).get F.closeCount then
        ((s.put F.wdCount k).raiseLatched 394 1 3 [(8, 1), (32, k), (32, (s.put F.wdCount k).now)]).expire 1
      else if !ok ∨ k < (s.put F.wdCount k).get F.openCount then
        ((s.put F.wdCount k).raiseLatched 395 1 3 [(32, k), (32, (s.put F.wdCount k).get F.openCount)]).expire 2
      else (s.put F.wdCount k).openWindow := by
  unfold State.wdLands
  exact if_neg (by simp [running, open_])

theorem State.wdLands_idle {s : State} (idle : s.wd.running = false ∨ s.get F.wdState ≠ 0) (k : Nat) (ok : Bool) :
    s.wdLands k ok = s := if_pos (by rcases idle with h | h <;> simp [h])

/-- A service that the rule withholds (R458). -/
theorem State.wdServes_withholds {s : State} {k : Nat} {b : Bool} (h : b = false ∨ 2 * k ≤ s.get F.openCount + s.get F.closeCount ∨
    s.wd.tokenMissed = true ∧ s.get F.mode = 3 ∧ s.get F.haltState = 0) : s.wdServes k b = false := by
  have early : ∀ n, n ≤ k → 2 * k ≤ s.get F.openCount + s.get F.closeCount →
      decide (s.get F.openCount + s.get F.closeCount < 2 * n) = false := fun n le half => decide_eq_false (by omega)
  unfold State.wdServes
  dsimp only
  rcases h with sched | half | ⟨missed, mode, halt⟩
  · rw [sched, Bool.and_false, Bool.false_and]
  · have at_ : (if s.beat.runs then k - s.ticksInBeat else k) ≤ k := by split <;> omega
    rw [early _ at_ half, Bool.false_and, Bool.false_and, Bool.false_and]
  · rw [missed, mode, halt]
    exact Bool.and_false _

/-- An event raised before an expiry has reached the router. -/
theorem mem_router_of_raise {s t u : State} {ws ws' : List Fld} {src code sev : Nat} {d : List (Nat × Nat)} (before : Writes ws s t)
    (free : (stampFields.all fun g => g.offAll ws) = true) (fits : (d.map Prod.fst).sum ≤ 64)
    (after : Writes ws' (t.raiseLatched src code sev d) u) : eventOf s src code sev d ∈ u.ev.router := by
  obtain ⟨l, raised⟩ := (before.latch (f := fun l => { l with events := setBit l.events (src - 394) true })).raisedLast
    (src := src) (code := code) (sev := sev) free fits
  have there : eventOf s src code sev d ∈ (t.raiseLatched src code sev d).ev.router := by
    unfold State.raiseLatched
    rw [raised]
    exact List.mem_append_right _ (List.mem_append_right _ (List.mem_singleton.2 rfl))
  exact after.router.subset there

/-- The expiries of a service word (R457). -/
theorem does_wdEarly {k : Nat} {w : WdWrite} {ok : Bool} {s : State} (running : s.wd.running = true) (open_ : s.get F.wdState = 0)
    (inTime : k < s.get F.closeCount) (written : s.wdWritten k w = some ok) (bad : ok = false ∨ k < s.get F.openCount) :
    Does (.wdService k w) s fun t =>
      t.get F.wdLastCause = 2 ∧ t.get F.wdTotal = satInc 32 (s.get F.wdTotal) ∧ t.get F.lastExpiryBeat = s.now % 2 ^ 64 ∧
      t.get F.toll = min (s.wd.instants.length + 1) 15 ∧ t.wd.instants = s.wd.instants ++ [s.beat.opBeats] ∧
      eventOf s 395 1 3 [(32, k), (32, s.get F.openCount)] ∈ t.ev.router ∧ t.mem = s.mem := by
  have noted : Writes [F.wdCount] s (s.put F.wdCount k) := .put .refl (by decide)
  have opens : (s.put F.wdCount k).get F.openCount = s.get F.openCount := noted.get rfl
  have closes : (s.put F.wdCount k).get F.closeCount = s.get F.closeCount := noted.get rfl
  have lands : s.wdLands k ok = ((s.put F.wdCount k).raiseLatched 395 1 3 [(32, k), (32, s.get F.openCount)]).expire 2 := by
    rw [State.wdLands_open running open_, opens, closes, if_neg (Nat.not_le.2 inTime), if_pos (by rcases bad with h | h <;> simp [h])]
  have raised : Writes [F.wdCount, F.raised] s ((s.put F.wdCount k).raiseLatched 395 1 3 [(32, k), (32, s.get F.openCount)]) :=
    .raiseLatched (noted.mono (by decide)) (by decide)
  have event := mem_router_of_raise noted (src := 395) (code := 1) (sev := 3) (d := [(32, k), (32, s.get F.openCount)])
    (by decide) (by simp) (Writes.expire (cause := 2))
  have kept : ((s.put F.wdCount k).raiseLatched 395 1 3 [(32, k), (32, s.get F.openCount)]).wd = s.wd ∧
    ((s.put F.wdCount k).raiseLatched 395 1 3 [(32, k), (32, s.get F.openCount)]).beat = s.beat ∧
    ((s.put F.wdCount k).raiseLatched 395 1 3 [(32, k), (32, s.get F.openCount)]).mem = s.mem := ⟨rfl, rfl, rfl⟩
  have runs : exec (.wdService k w) s = .next (s.wdLands k ok) := by
    show execWdService k w s = _
    unfold execWdService
    rw [written]
  refine ⟨_, runs, ?_⟩
  rw [lands]
  generalize (s.put F.wdCount k).raiseLatched 395 1 3 [(32, k), (32, s.get F.openCount)] = u at raised event kept
  obtain ⟨wd, beat, mem⟩ := kept
  obtain ⟨cause, total, instant, toll, instants, -, same⟩ := u.expire_counts (cause := 2) (by decide)
  have now : u.now = s.now := raised.get rfl
  rw [raised.get rfl] at total
  rw [wd, beat] at instants
  rw [wd] at toll
  rw [now] at instant
  exact ⟨cause, total, instant, toll, instants, event, same.trans mem⟩

/-- The end of a window. -/
theorem execWdExpired_open {s : State} (running : s.wd.running = true) (open_ : s.get F.wdState = 0) :
    exec .wdExpired s = .next (((s.put F.wdCount (s.get F.closeCount)).raiseLatched 394 1 3
      [(8, 1), (32, (s.put F.wdCount (s.get F.closeCount)).get F.closeCount), (32, (s.put F.wdCount (s.get F.closeCount)).now)]).expire 1) :=
  congrArg Host.Outcome.next (if_neg (by simp [running, open_]))

/-- An event of two records raised before an expiry has reached the router. -/
theorem mem_router_of_raiseTwo {s t u : State} {ws ws' : List Fld} {src code sev w v : Nat} {l r : List (Nat × Nat)}
    (before : Writes ws s t) (free : (stampFields.all fun g => g.offAll ws) = true) (first : (l.map Prod.fst).sum ≤ 64)
    (full : 64 < (l.map Prod.fst).sum + w) (second : w + (r.map Prod.fst).sum ≤ 64)
    (after : Writes ws' (t.raiseLatched src code sev (l ++ (w, v) :: r)) u) :
    eventOf s src code sev l ∈ u.ev.router ∧ restOf s src code sev ((w, v) :: r) ∈ u.ev.router := by
  have raised := State.raise_router_two (src := src) (code := code) (sev := sev) (v := v)
    (before.latch (f := fun l => { l with events := setBit l.events (src - 394) true })) free first full second
  have whole : (t.raiseLatched src code sev (l ++ (w, v) :: r)).ev.router = _ := raised
  refine ⟨after.router.subset ?_, after.router.subset ?_⟩
  · rw [whole]
    exact List.mem_append_right _ (List.mem_cons_self ..)
  · rw [whole]
    exact List.mem_append_right _ (List.mem_cons_of_mem _ (List.mem_singleton.2 rfl))

theorem does_wdExpired {s : State} (running : s.wd.running = true) (open_ : s.get F.wdState = 0) : Does .wdExpired s fun t =>
    t.get F.wdLastCause = 1 ∧ t.get F.wdTotal = satInc 32 (s.get F.wdTotal) ∧
    t.get F.toll = min (s.wd.instants.length + 1) 15 ∧ t.wd.instants = s.wd.instants ++ [s.beat.opBeats] ∧
    eventOf s 394 1 3 [(8, 1), (32, s.get F.closeCount)] ∈ t.ev.router ∧ restOf s 394 1 3 [(32, s.now)] ∈ t.ev.router ∧
    (s.lcp.mute = true → t.wd.waitAck = true ∧ t.get F.wdState = 2) ∧
    (s.lcp.mute = false → s.get F.tollLimit ≤ s.wd.instants.length + 1 →
      t.wd.stepDone = 3 ∧ { kind := .safe 1, beat := s.now, code := 1 } ∈ t.beat.causes) ∧
    (s.lcp.mute = false → 1 ≤ s.wd.instants.length → s.wd.instants.length + 1 < s.get F.tollLimit →
      t.wd.stepDone = 2 ∧ { kind := .start, beat := s.now, code := 2 } ∈ t.beat.causes) ∧
    (s.lcp.mute = false → s.wd.instants = [] → 1 < s.get F.tollLimit → s.get F.role = 1 → s.get F.mode = 3 →
      s.rt.prog.isSome = true → s.wd.erase = 0 → t.wd.stepDone = 1 ∧ t.wd.warmRestart = true ∧ t.get F.wdState = 0 ∧ t.beat = s.beat) ∧
    t.mem = s.mem := by
  have noted : Writes [F.wdCount] s (s.put F.wdCount (s.get F.closeCount)) := .put .refl (by decide)
  have closes : (s.put F.wdCount (s.get F.closeCount)).get F.closeCount = s.get F.closeCount := noted.get rfl
  have now : (s.put F.wdCount (s.get F.closeCount)).now = s.now := noted.get rfl
  have runs := execWdExpired_open running open_
  rw [closes, now] at runs
  obtain ⟨event, rest⟩ := mem_router_of_raiseTwo noted (src := 394) (code := 1) (sev := 3) (l := [(8, 1), (32, s.get F.closeCount)])
    (w := 32) (v := s.now) (r := []) (by decide) (by simp) (by simp) (by simp) (Writes.expire (cause := 1))
  have raised : Writes [F.wdCount, F.raised] s ((s.put F.wdCount (s.get F.closeCount)).raiseLatched 394 1 3
    [(8, 1), (32, s.get F.closeCount), (32, s.now)]) := .raiseLatched (noted.mono (by decide)) (by decide)
  have kept : ∀ u, u = (s.put F.wdCount (s.get F.closeCount)).raiseLatched 394 1 3 [(8, 1), (32, s.get F.closeCount), (32, s.now)] →
      u.wd = s.wd ∧ u.beat = s.beat ∧ u.mem = s.mem ∧ u.lcp = s.lcp ∧ u.rt = s.rt := by
    rintro u rfl
    exact ⟨rfl, rfl, rfl, rfl, rfl⟩
  refine ⟨_, runs, ?_⟩
  specialize kept _ rfl
  change eventOf s 394 1 3 _ ∈ (((s.put F.wdCount (s.get F.closeCount)).raiseLatched 394 1 3
    [(8, 1), (32, s.get F.closeCount), (32, s.now)]).expire 1).ev.router at event
  change restOf s 394 1 3 _ ∈ (((s.put F.wdCount (s.get F.closeCount)).raiseLatched 394 1 3
    [(8, 1), (32, s.get F.closeCount), (32, s.now)]).expire 1).ev.router at rest
  generalize (s.put F.wdCount (s.get F.closeCount)).raiseLatched 394 1 3 [(8, 1), (32, s.get F.closeCount), (32, s.now)] = u
    at raised event rest kept
  obtain ⟨wd, beat, mem, lcp, rt⟩ := kept
  obtain ⟨cause, total, -, toll, instants, -, same⟩ := u.expire_counts (cause := 1) (by decide)
  have stamp : u.now = s.now := raised.get rfl
  have limit : u.get F.tollLimit = s.get F.tollLimit := raised.get rfl
  rw [raised.get rfl] at total
  rw [wd, beat] at instants
  rw [wd] at toll
  refine ⟨cause, total, toll, instants, event, rest, fun mute => u.expire_mute 1 (by rw [lcp]; exact mute), fun heard most => ?_,
    fun heard later below => ?_, fun heard first below role mode prog erase => ?_, same.trans mem⟩
  · rw [← stamp]
    exact u.expire_safe 1 (by rw [lcp]; exact heard) (by rw [limit, wd]; exact most)
  · rw [← stamp]
    exact u.expire_restart 1 (by rw [lcp]; exact heard) (by rw [limit, wd]; exact below) (by rw [wd]; exact later)
  · rw [← beat]
    exact u.expire_warm 1 (by rw [lcp]; exact heard) (by rw [wd]; exact first) (by rw [limit]; exact below)
      ((raised.get rfl).trans role) ((raised.get rfl).trans mode) (by rw [rt]; exact prog) (by rw [wd]; exact erase)

/-- The other clock is in use from here on. -/
def State.clockChanged (s : State) : State :=
  { ((s.put F.wdClockNow (1 - s.get F.wdClockNow)).put F.monitorOk 0) with wd := { s.wd with clockStopped := true } }

theorem Writes.clockChanged {s : State} : Writes [F.wdClockNow, F.monitorOk] s s.clockChanged :=
  .upd (.put (.put .refl (by decide)) (by decide)) rfl rfl rfl rfl

theorem State.clockChanged_spec (s : State) (known : s.get F.wdClockNow < 2) :
    s.clockChanged.get F.wdClockNow = 1 - s.get F.wdClockNow ∧ s.clockChanged.get F.monitorOk = 0 :=
  ⟨(State.get_put_apart rfl).trans (State.get_put_fits (by change _ < 2; omega)), State.get_put_self ..⟩

/-- The chosen clock stops (R459). -/
theorem does_wdClockStop {s : State} (running : s.wd.running = true) (runs : s.wd.clockStopped = false) (known : s.get F.wdClockNow < 2) :
    Does .wdClockStop s fun t =>
    t.get F.wdClockNow = 1 - s.get F.wdClockNow ∧ t.get F.monitorOk = 0 ∧ t.wd.clockStopped = true ∧ t.get F.wdLastCause = 3 ∧
    t.wd.instants = s.wd.instants ++ [s.beat.opBeats] ∧ eventOf s 396 1 3 [(8, s.get F.wdClockNow)] ∈ t.ev.router ∧ t.mem = s.mem := by
  have stops : exec .wdClockStop s = .next ((s.clockChanged.raiseLatched 396 1 3 [(8, s.get F.wdClockNow)]).expire 3) :=
    congrArg Host.Outcome.next (if_neg (by simp [running, runs]))
  obtain ⟨clock, monitor⟩ := s.clockChanged_spec known
  have event := mem_router_of_raise (Writes.clockChanged (s := s)) (src := 396) (code := 1) (sev := 3) (d := [(8, s.get F.wdClockNow)])
    (by decide) (by simp) (Writes.expire (cause := 3))
  have raised : Writes [F.raised] s.clockChanged (s.clockChanged.raiseLatched 396 1 3 [(8, s.get F.wdClockNow)]) :=
    .raiseLatched .refl (by decide)
  have kept : (s.clockChanged.raiseLatched 396 1 3 [(8, s.get F.wdClockNow)]).wd = { s.wd with clockStopped := true } ∧
    (s.clockChanged.raiseLatched 396 1 3 [(8, s.get F.wdClockNow)]).beat = s.beat ∧
    (s.clockChanged.raiseLatched 396 1 3 [(8, s.get F.wdClockNow)]).mem = s.mem := ⟨rfl, rfl, rfl⟩
  refine ⟨_, stops, ?_⟩
  generalize s.clockChanged.raiseLatched 396 1 3 [(8, s.get F.wdClockNow)] = u at event raised kept
  obtain ⟨wd, beat, mem⟩ := kept
  obtain ⟨cause, -, -, -, instants, stopped, same⟩ := u.expire_counts (cause := 3) (by decide)
  rw [wd, beat] at instants
  rw [wd] at stopped
  exact ⟨(Writes.expire.get rfl).trans ((raised.get rfl).trans clock), (Writes.expire.get rfl).trans ((raised.get rfl).trans monitor),
    stopped, cause, instants, event, same.trans mem⟩

/-- The power manager carries out the step of a Supervisor that does not acknowledge (R461). -/
theorem does_wdAckTimeout {s : State} (waits : s.wd.waitAck = true) : Does .wdAckTimeout s fun t =>
    t.wd.waitAck = false ∧ t.wd.running = false ∧ t.wd.step = tollTable s.wd.instants.length (s.get F.tollLimit) ∧
    t.beat.causes = s.beat.causes ++ [{ kind := .start, beat := s.now, code := 2 }] ∧
    (s.get F.tollLimit ≤ s.wd.instants.length → t.pwr.latch.safeSet = true ∧ t.pwr.latch.safeCause = 1) ∧
    t = { s with wd := t.wd, pwr := t.pwr, beat := t.beat } := by
  refine ⟨_, congrArg Host.Outcome.next (if_neg (by simp [waits])), rfl, rfl, rfl, rfl, fun limit => ?_, rfl⟩
  have three : tollTable s.wd.instants.length (s.get F.tollLimit) = 3 := if_pos limit
  refine ⟨?_, if_pos three⟩
  change (s.pwr.latch.safeSet || tollTable s.wd.instants.length (s.get F.tollLimit) == 3) = true
  rw [three]
  exact Bool.or_true _

/-- A busy erase that outlasts its guard (R460). -/
theorem does_eraseGuard {n : Nat} {s : State} (held : s.get F.wdState = 1) : Does (.wdEraseGuard n) s fun t =>
      t.get F.eraseGuard = 1 ∧ t.get F.guardUsed = 25000 ∧ t.get F.wdState = 0 ∧
      Raised [eventOf s 398 1 1 [(8, n), (32, 25000)]] s t ∧
      RegsBut [(F.eraseGuard, 0), (F.guardUsed, 0), (F.wdState, 0), (F.raised, 398)] s t ∧
      t = { s with regs := t.regs, ev := t.ev, pwr := t.pwr } := by
  have noted : Writes [F.eraseGuard, F.guardUsed, F.wdState] s (((s.put F.eraseGuard 1).put F.guardUsed 25000).put F.wdState 0) :=
    .put (.put (.put .refl (by decide)) (by decide)) (by decide)
  refine ⟨_, congrArg Host.Outcome.next (if_neg (not_not.2 held)), ?_, ?_, ?_, ?_, ?_, rfl⟩
  · exact (State.get_raise_apart rfl).trans ((State.get_put_apart rfl).trans ((State.get_put_apart rfl).trans (State.get_put_self ..)))
  · exact (State.get_raise_apart rfl).trans ((State.get_put_apart rfl).trans (State.get_put_self ..))
  · exact (State.get_raise_apart rfl).trans (State.get_put_self ..)
  · exact (noted.latch (f := fun l => { l with events := setBit l.events (398 - 394) true })).raised rfl (by decide) (by simp)
  · exact .raise (.regs (.put (.put (.put .refl (by simp)) (by simp)) (by simp)) rfl) (by simp)

/-- Old steps leave the count. -/
theorem does_tollAge (s : State) : Does .tollAge s fun t =>
    (∀ i ∈ t.wd.instants, s.beat.opBeats < i + 345600000) ∧
    (∀ i ∈ s.wd.instants, s.beat.opBeats < i + 345600000 → i ∈ t.wd.instants) ∧
    t.get F.toll = min t.wd.instants.length 15 ∧ RegsBut [(F.toll, 0)] s t ∧
    t = { s with regs := t.regs, wd := { s.wd with instants := t.wd.instants } } := by
  refine ⟨_, rfl, fun i hi => ?_, fun i hi young => ?_, ?_, .put (.regs .refl rfl) (by simp), rfl⟩
  · exact of_decide_eq_true (List.mem_filter.1 hi).2
  · exact List.mem_filter.2 ⟨hi, decide_eq_true young⟩
  · exact State.get_put_fits (Nat.lt_of_le_of_lt (Nat.min_le_right _ _) (by decide))

/-! A Supervisor whose halves differ (R15). -/

theorem Touches.pwr_eq {m : Parts} {s t : State} (h : Touches m s t) (hm : m.pwr = false) : t.pwr = s.pwr := by
  have same := congrArg State.pwr h
  simpa only [State.without, hm, cond_false] using same

theorem Touches.lcp_eq {m : Parts} {s t : State} (h : Touches m s t) (hm : m.lcp = false) : t.lcp = s.lcp := by
  have same := congrArg State.lcp h
  simpa only [State.without, hm, cond_false] using same

/-- It is mute, and its heartbeats stop. -/
def State.muted (s : State) : State :=
  { s.dropCycles.canDropAll with lcp := { s.lcp with mute := true }, wd := { s.wd with hbStopped := true } }

/-- No handover and no shadow run goes on. -/
def State.handoverDropped (s : State) : State :=
  { s with pair := { s.pair with handover := none, handing := false, shadowAt := none, endShadow := false } }

/-- The state of a Supervisor that has failed, before its mode. -/
def State.supervisorFails (s : State) : State :=
  (s.latch fun l => { l with safeSet := true, safeCause := 6 }).muted.handoverDropped.abandonResync

theorem execSupervisorLockstepMismatch_up {s : State} (up : Up s) : exec .supervisorLockstepMismatch s =
    .next ((s.supervisorFails.setMode mSafe rNone 0 6 1).fieldOff.canShow.showLeds) := by
  obtain ⟨on, mode⟩ := up
  exact congrArg Host.Outcome.next (if_neg (by simp [on, mode]))

/-- The local outputs go off. -/
theorem Writes.fieldOff {s : State} : Writes [F.dioOpenWire, F.dioExtDrive, F.aoFailing] s s.fieldOff := by
  unfold State.fieldOff
  refine .foldl (.foldl .refl fun _ _ => ?_) fun _ _ => ?_
  · exact .put (.put (.upd .refl rfl rfl rfl rfl) (by decide)) (by decide)
  · exact .put (.upd .refl rfl rfl rfl rfl) (by decide)

theorem Writes.showLeds {s : State} : Writes [F.leds] s s.showLeds := .put .refl (by decide)

/-- Outputs, CAN controllers and LEDs follow a module that stops. -/
theorem Writes.shownOff {s : State} : Writes (F.leds :: [F.dioOpenWire, F.dioExtDrive, F.aoFailing] ++ showFields) s
    s.fieldOff.canShow.showLeds :=
  (Writes.fieldOff.mono (by decide)).trans ((Writes.canShow.mono (by decide)).trans (Writes.showLeds.mono (by decide)))

theorem State.muted_spec (s : State) : s.muted.lcp.mute = true ∧ s.muted.wd.hbStopped = true ∧ s.muted.pwr = s.pwr ∧ s.muted.mem = s.mem := by
  have pwr : s.dropCycles.canDropAll.pwr = s.pwr :=
    (State.canDropAll_touches.pwr_eq rfl).trans (State.dropCycles_touches.pwr_eq rfl)
  have mem : s.dropCycles.canDropAll.mem = s.mem :=
    (State.canDropAll_touches.mem_eq rfl).trans (State.dropCycles_touches.mem_eq rfl)
  unfold State.muted
  generalize s.dropCycles.canDropAll = v at pwr mem
  exact ⟨rfl, rfl, pwr, mem⟩

theorem State.supervisorFails_spec (s : State) : s.supervisorFails.lcp.mute = true ∧ s.supervisorFails.wd.hbStopped = true ∧
    s.supervisorFails.pwr.latch.safeSet = true ∧ s.supervisorFails.pwr.latch.safeCause = 6 ∧ s.supervisorFails.mem = s.mem := by
  obtain ⟨mute, stopped, pwr, mem⟩ := (s.latch fun l => { l with safeSet := true, safeCause := 6 }).muted_spec
  unfold State.supervisorFails
  generalize (s.latch fun l => { l with safeSet := true, safeCause := 6 }).muted = u at mute stopped pwr mem
  refine ⟨mute, stopped, ?_, ?_, mem⟩
  · show u.pwr.latch.safeSet = true
    rw [pwr]
    rfl
  · show u.pwr.latch.safeCause = 6
    rw [pwr]
    rfl

/-- A mode change keeps the Supervisor mute. -/
theorem State.setMode_mute (s : State) (m r d c k e : Nat) : (s.setMode m r d c k e).lcp.mute = s.lcp.mute := by
  have journaled : ∀ (u : State) a b c d f, (u.journal a b c d f).lcp = u.lcp := fun u a b c d f => State.journal_touches.lcp_eq rfl
  have own : ∀ u : State, (u.bumpOwn e).lcp.mute = u.lcp.mute := fun u => (congrArg LcpSt.mute (journaled ..)).trans rfl
  have pair : ∀ u : State, (u.bumpPair 8).lcp.mute = u.lcp.mute := fun u => (congrArg LcpSt.mute (journaled ..)).trans rfl
  have role : ∀ u : State, (u.roleMoves (s.get F.role) r e).lcp.mute = u.lcp.mute := fun u => by
    unfold State.roleMoves
    split
    · rfl
    · exact own _
  have leads : ∀ u : State, (u.pairLeads r).lcp.mute = u.lcp.mute := fun u => by
    unfold State.pairLeads
    split
    · exact pair _
    · rfl
  have units : ∀ u : State, ((u.actorNoted r).actorMissed (s.get F.role) r).refreshDrive.lcp = u.lcp := fun u =>
    (show _ = (u.actorNoted r).lcp by
      unfold State.actorMissed
      split <;> rfl).trans (by
      unfold State.actorNoted
      split <;> rfl)
  rw [State.setMode_eq]
  split
  · rfl
  · exact (congrArg LcpSt.mute (units _)).trans ((leads _).trans (role _))

theorem does_supervisorLockstep {s : State} (up : Up s) : Does .supervisorLockstepMismatch s fun t =>
    t.get F.mode = 5 ∧ t.get F.role = 0 ∧ t.get F.safeCause = 6 ∧ t.lcp.mute = true ∧ t.wd.hbStopped = true ∧
    t.pwr.latch.safeSet = true ∧ t.pwr.latch.safeCause = 6 ∧ t.mem = s.mem := by
  obtain ⟨mute, stopped, safe, cause, mem⟩ := s.supervisorFails_spec
  refine ⟨_, execSupervisorLockstepMismatch_up up, ?_⟩
  generalize s.supervisorFails = u at mute stopped safe cause mem
  obtain ⟨mode, role⟩ := setMode_gets u mSafe rNone 0 6 1 1 (by decide) (by decide)
  have reason := u.get_setMode_cause (m := mSafe) (r := rNone) (d := 0) (c := 6) (k := 1) (e := 1) (by decide)
  have muteV : (u.setMode mSafe rNone 0 6 1).lcp.mute = true := (State.setMode_mute ..).trans mute
  have wd : (u.setMode mSafe rNone 0 6 1).wd = u.wd := State.setMode_touches.wd_eq rfl
  have pwr : (u.setMode mSafe rNone 0 6 1).pwr = u.pwr := State.setMode_touches.pwr_eq rfl
  have kept : (u.setMode mSafe rNone 0 6 1).mem = u.mem := State.setMode_touches.mem_eq rfl
  generalize u.setMode mSafe rNone 0 6 1 = v at mode role reason muteV wd pwr kept
  have touched : Touches { regs := true, can := true, field := true } v v.fieldOff.canShow.showLeds :=
    (State.fieldOff_touches.mono rfl).comp ((State.canShow_touches.mono rfl).comp (State.showLeds_touches.mono rfl))
  refine ⟨(Writes.shownOff.get rfl).trans mode, (Writes.shownOff.get rfl).trans role, (Writes.shownOff.get rfl).trans reason, ?_, ?_, ?_,
    ?_, ?_⟩
  · rw [touched.lcp_eq rfl]; exact muteV
  · rw [touched.wd_eq rfl, wd]; exact stopped
  · rw [touched.pwr_eq rfl, pwr]; exact safe
  · rw [touched.pwr_eq rfl, pwr]; exact cause
  · rw [touched.mem_eq rfl, kept, mem]

/-- Settles O54: services by the window they land in, expiries by the counts and the step of the Toll. -/
theorem theWatchdogCountsItsExpiries : Obligations.TheWatchdogCountsItsExpiries := by
  unfold Obligations.TheWatchdogCountsItsExpiries
  refine ⟨fun k w s running open_ late inTime written erase => ?service, fun k b s h => ?withheld,
    fun k w ok s running open_ inTime written bad => does_wdEarly running open_ inTime written bad,
    fun s running open_ => does_wdExpired running open_, fun k w s idle => ?noService, fun s idle => ?noExpiry,
    fun s waits => does_wdAckTimeout waits, fun s no => ?noAck, fun s running runs known => does_wdClockStop running runs known,
    fun s stopped => ?noStop, fun n s no => ⟨s, congrArg Host.Outcome.next (if_pos no), rfl⟩, fun n s held => does_eraseGuard held,
    fun s => does_tollAge s, fun s up => does_supervisorLockstep up⟩
  case service =>
    have noted : Writes [F.wdCount] s (s.put F.wdCount k) := .put .refl (by decide)
    have opens : s.wdLands k true = (s.put F.wdCount k).openWindow := by
      rw [State.wdLands_open running open_, noted.get rfl, noted.get rfl, if_neg (Nat.not_le.2 inTime), if_neg (by simp [late])]
    obtain ⟨state, count, used, openAt, closeAt, regs, wd, parts⟩ := State.openWindow_spec (s := s.put F.wdCount k) erase
    refine ⟨s.wdLands k true, congrArg Host.Outcome.next (by rw [written]), ?_⟩
    rw [opens]
    rw [noted.get rfl, noted.get rfl] at openAt closeAt
    have whole : (s.put F.wdCount k).openWindow.wd = { s.wd with
        waitAck := false, tokenMissed := false, erase := if s.wd.erase = 0 then 0 else 2 } := by
      rw [wd, ← running]
      rfl
    have counted : RegsBut windowRegs s (s.put F.wdCount k) := .put .refl (by simp [windowRegs])
    refine ⟨state, count, used, openAt, closeAt, counted.trans regs, ?_⟩
    rw [whole] at parts
    exact parts
  case withheld =>
    have none : s.wdWritten k (.byRule b) = none := if_neg (by simp [State.wdServes_withholds h])
    refine ⟨s, congrArg Host.Outcome.next ?_, rfl⟩
    rw [none]
  case noService =>
    refine ⟨s, congrArg Host.Outcome.next ?_, rfl⟩
    split
    · exact State.wdLands_idle idle ..
    · rfl
  case noExpiry => exact ⟨s, congrArg Host.Outcome.next (if_pos (by rcases idle with h | h <;> simp [h])), rfl⟩
  case noAck => exact ⟨s, congrArg Host.Outcome.next (if_pos (by simp [no])), rfl⟩
  case noStop => exact ⟨s, congrArg Host.Outcome.next (if_pos (.inr stopped)), rfl⟩

end Sys2Proof.Machine

namespace Sys2Proof.Machine

open Sys2Proof

/-! Fault contexts (R453 to R455). -/

/-- Fault objects follow the contexts. -/
theorem State.showFaults_parts (s : State) : s.showFaults = { s with regs := s.showFaults.regs } := by
  have peaked : ∀ (u : State) (f : Fld) (v : Nat), u.peak f v = { u with regs := (u.peak f v).regs } := fun u f v => by
    unfold State.peak
    split <;> rfl
  unfold State.showFaults
  dsimp only
  rw [peaked]
  rfl

theorem RegsBut.peak_ {l : List (Fld × Nat)} {s t : State} {f : Fld} {v : Nat} (h : RegsBut l s t) (named : (f, 0) ∈ l) :
    RegsBut l s (t.peak f v) := by
  unfold State.peak
  split
  · exact h.put named
  · exact h

theorem RegsBut.showFaults {l : List (Fld × Nat)} {s t : State} (h : RegsBut l s t) (named : ∀ p ∈ faultRegs, p ∈ l) :
    RegsBut l s t.showFaults :=
  .peak_ (.put (.put (.put (.put h (named _ (by simp [faultRegs]))) (named _ (by simp [faultRegs]))) (named _ (by simp [faultRegs])))
    (named _ (by simp [faultRegs]))) (named _ (by simp [faultRegs]))

/-- The oldest fault leaves the queue of those to arrive. -/
def State.faultTaken (s : State) (rest : List FaultE) : State := { s with ev := { s.ev with faults := rest } }

theorem execFaultArrival_cons {s : State} {f : FaultE} {rest : List FaultE} (h : s.ev.faults = f :: rest) :
    exec .faultArrival s = .next ((s.faultTaken rest).faultArrives f) := by
  show execFaultArrival s = _
  unfold execFaultArrival
  rw [h]
  rfl

theorem ctxOf_putCtx (s : State) (b : Bool) (c : FaultCtx) : ctxOf b (s.putCtx b c) = c ∧ ctxOf (!b) (s.putCtx b c) = ctxOf (!b) s := by
  cases b <;> exact ⟨rfl, rfl⟩

theorem ctxOf_of_ev {s t : State} (h : t.ev = s.ev) (b : Bool) : ctxOf b t = ctxOf b s := by
  unfold ctxOf
  rw [h]

theorem ctxOf_faultTaken (s : State) (rest : List FaultE) (b : Bool) : ctxOf b (s.faultTaken rest) = ctxOf b s := by
  cases b <;> rfl

/-- Where a fault goes (R455). -/
theorem State.faultArrives_eq (s : State) (f : FaultE) : s.faultArrives f =
    match (ctxOf (triadSource f.src) s).running with
    | none => (s.putCtx (triadSource f.src) { ctxOf (triadSource f.src) s with running := some f }).showFaults
    | some g =>
      if g.sev ≥ 4 then
        (s.raiseLatched 401 1 4 [(8, if triadSource f.src then 0 else 1), (16, f.src)]).tollStep 4 true
      else if f.sev > g.sev then
        ((s.putCtx (triadSource f.src) { ctxOf (triadSource f.src) s with
          running := some f, preempted := g :: (ctxOf (triadSource f.src) s).preempted }).inc F.preemptions).showFaults
      else if (ctxOf (triadSource f.src) s).queue.length ≥ 16 then
        (s.raiseLatched 400 1 4 [(8, if triadSource f.src then 0 else 1), (32, f.sev)]).tollStep 5 true
      else (s.putCtx (triadSource f.src) { ctxOf (triadSource f.src) s with
        queue := (ctxOf (triadSource f.src) s).queue ++ [f] }).showFaults := rfl

section

variable {f g : FaultE} {rest : List FaultE} {s : State}

theorem State.faultArrives_idle (idle : (ctxOf (triadSource f.src) s).running = none) : s.faultArrives f =
    (s.putCtx (triadSource f.src) { ctxOf (triadSource f.src) s with running := some f }).showFaults := by
  rw [State.faultArrives_eq, idle]

theorem State.faultArrives_preempts (runs : (ctxOf (triadSource f.src) s).running = some g) (below : g.sev < 4) (higher : g.sev < f.sev) :
    s.faultArrives f = ((s.putCtx (triadSource f.src) { ctxOf (triadSource f.src) s with
      running := some f, preempted := g :: (ctxOf (triadSource f.src) s).preempted }).inc F.preemptions).showFaults := by
  rw [State.faultArrives_eq, runs]
  exact (if_neg (Nat.not_le.2 below)).trans (if_pos higher)

theorem State.faultArrives_waits (runs : (ctxOf (triadSource f.src) s).running = some g) (below : g.sev < 4) (lower : f.sev ≤ g.sev)
    (room : (ctxOf (triadSource f.src) s).queue.length < 16) : s.faultArrives f =
    (s.putCtx (triadSource f.src) { ctxOf (triadSource f.src) s with
      queue := (ctxOf (triadSource f.src) s).queue ++ [f] }).showFaults := by
  rw [State.faultArrives_eq, runs]
  exact (if_neg (Nat.not_le.2 below)).trans ((if_neg (Nat.not_lt.2 lower)).trans (if_neg (Nat.not_le.2 room)))

/-- A fault that cannot be served is a Toll step (R455). -/
theorem State.faultArrives_toll (runs : (ctxOf (triadSource f.src) s).running = some g)
    (lost : 4 ≤ g.sev ∨ f.sev ≤ g.sev ∧ 16 ≤ (ctxOf (triadSource f.src) s).queue.length) : s.faultArrives f =
    (s.raiseLatched (if 4 ≤ g.sev then 401 else 400) 1 4 (if 4 ≤ g.sev then [(8, if triadSource f.src then 0 else 1), (16, f.src)]
      else [(8, if triadSource f.src then 0 else 1), (32, f.sev)])).tollStep (if 4 ≤ g.sev then 4 else 5) true := by
  rw [State.faultArrives_eq, runs]
  by_cases fatal : 4 ≤ g.sev
  · rw [if_pos fatal, if_pos fatal, if_pos fatal]
    exact if_pos fatal
  · obtain ⟨lower, full⟩ := lost.resolve_left fatal
    rw [if_neg fatal, if_neg fatal, if_neg fatal]
    exact (if_neg fatal).trans ((if_neg (Nat.not_lt.2 lower)).trans (if_pos full))

/-- A fault on its way to a context leaves the rest of the state. -/
theorem State.faultPlaced_spec {b : Bool} {c : FaultCtx} :
    let t := ((s.faultTaken rest).putCtx b c).showFaults
    ctxOf b t = c ∧ ctxOf (!b) t = ctxOf (!b) s ∧ t.ev.faults = rest ∧ RegsBut faultRegs s t ∧ t = { s with regs := t.regs, ev := t.ev } := by
  have shown := ((s.faultTaken rest).putCtx b c).showFaults_parts
  have regs : RegsBut faultRegs s ((s.faultTaken rest).putCtx b c).showFaults := .showFaults .refl fun _ h => h
  obtain ⟨own, other⟩ := ctxOf_putCtx (s.faultTaken rest) b c
  have ev : ((s.faultTaken rest).putCtx b c).showFaults.ev = ((s.faultTaken rest).putCtx b c).ev := by rw [shown]
  refine ⟨(ctxOf_of_ev ev b).trans own, ((ctxOf_of_ev ev (!b)).trans other).trans (ctxOf_faultTaken s rest (!b)), ?_, regs, ?_⟩
  · rw [ev]
    cases b <;> rfl
  · rw [ev]
    exact shown

/-- A fault that starts its handler (R453). -/
theorem does_faultStarts (first : s.ev.faults = f :: rest) (idle : (ctxOf (triadSource f.src) s).running = none) :
    Does .faultArrival s fun t =>
      ctxOf (triadSource f.src) t = { ctxOf (triadSource f.src) s with running := some f } ∧
      ctxOf (!triadSource f.src) t = ctxOf (!triadSource f.src) s ∧ t.ev.faults = rest ∧ RegsBut faultRegs s t ∧
      t = { s with regs := t.regs, ev := t.ev } := by
  refine ⟨_, execFaultArrival_cons first, ?_⟩
  rw [State.faultArrives_idle ((congrArg FaultCtx.running (ctxOf_faultTaken s rest _)).trans idle), ctxOf_faultTaken]
  exact State.faultPlaced_spec

/-- A fault that waits behind one of its severity or above (R455). -/
theorem does_faultWaits (first : s.ev.faults = f :: rest) (runs : (ctxOf (triadSource f.src) s).running = some g) (below : g.sev < 4)
    (lower : f.sev ≤ g.sev) (room : (ctxOf (triadSource f.src) s).queue.length < 16) :
    Does .faultArrival s fun t =>
      ctxOf (triadSource f.src) t = { ctxOf (triadSource f.src) s with queue := (ctxOf (triadSource f.src) s).queue ++ [f] } ∧
      t.ev.faults = rest ∧ RegsBut faultRegs s t ∧ t = { s with regs := t.regs, ev := t.ev } := by
  refine ⟨_, execFaultArrival_cons first, ?_⟩
  rw [State.faultArrives_waits ((congrArg FaultCtx.running (ctxOf_faultTaken s rest _)).trans runs) below lower
    (by rw [ctxOf_faultTaken]; exact room), ctxOf_faultTaken]
  obtain ⟨own, -, taken, regs, parts⟩ := State.faultPlaced_spec (s := s) (rest := rest) (b := triadSource f.src)
    (c := { ctxOf (triadSource f.src) s with queue := (ctxOf (triadSource f.src) s).queue ++ [f] })
  exact ⟨own, taken, regs, parts⟩

/-- A fault that preempts one of lower severity (R454). -/
theorem does_faultPreempts (first : s.ev.faults = f :: rest) (runs : (ctxOf (triadSource f.src) s).running = some g) (below : g.sev < 4)
    (higher : g.sev < f.sev) :
    Does .faultArrival s fun t =>
      ctxOf (triadSource f.src) t =
        { ctxOf (triadSource f.src) s with running := some f, preempted := g :: (ctxOf (triadSource f.src) s).preempted } ∧
      t.get F.preemptions = satInc 32 (s.get F.preemptions) ∧ t.ev.faults = rest ∧
      RegsBut ((F.preemptions, 0) :: faultRegs) s t ∧ t = { s with regs := t.regs, ev := t.ev } := by
  refine ⟨_, execFaultArrival_cons first, ?_⟩
  rw [State.faultArrives_preempts ((congrArg FaultCtx.running (ctxOf_faultTaken s rest _)).trans runs) below higher, ctxOf_faultTaken]
  generalize hc : ({ ctxOf (triadSource f.src) s with
    running := some f, preempted := g :: (ctxOf (triadSource f.src) s).preempted } : FaultCtx) = c
  obtain ⟨own, -⟩ := ctxOf_putCtx (s.faultTaken rest) (triadSource f.src) c
  generalize hb : triadSource f.src = b at own ⊢
  have placed : ((s.faultTaken rest).putCtx b c).ev.faults = rest ∧ (s.faultTaken rest).putCtx b c =
      { s with ev := ((s.faultTaken rest).putCtx b c).ev } := by cases b <;> exact ⟨rfl, rfl⟩
  obtain ⟨taken, parts⟩ := placed
  have counts : ((s.faultTaken rest).putCtx b c).inc F.preemptions = { ((s.faultTaken rest).putCtx b c) with
      regs := (((s.faultTaken rest).putCtx b c).inc F.preemptions).regs } := rfl
  have shown := (((s.faultTaken rest).putCtx b c).inc F.preemptions).showFaults_parts
  have count : (((s.faultTaken rest).putCtx b c).inc F.preemptions).get F.preemptions = satInc 32 (s.get F.preemptions) :=
    State.get_put_fits (satInc_lt _ _)
  have kept : RegsBut faultRegs (((s.faultTaken rest).putCtx b c).inc F.preemptions)
      (((s.faultTaken rest).putCtx b c).inc F.preemptions).showFaults := .showFaults .refl fun _ h => h
  have regs : RegsBut ((F.preemptions, 0) :: faultRegs) s (((s.faultTaken rest).putCtx b c).inc F.preemptions).showFaults :=
    .showFaults (.inc .refl (List.mem_cons_self ..)) fun _ h => List.mem_cons_of_mem _ h
  have ev : (((s.faultTaken rest).putCtx b c).inc F.preemptions).showFaults.ev = ((s.faultTaken rest).putCtx b c).ev := by rw [shown]; rfl
  refine ⟨(ctxOf_of_ev ev b).trans own, (kept.get_apart (faultRegs.map Prod.fst) (fun p hp => List.mem_map_of_mem hp) rfl).trans count, by rw [ev, taken], regs, ?_⟩
  rw [ev]
  rw [counts, parts] at shown
  exact shown

/-- A fault that no handler can serve (R455, R462). -/
theorem does_faultToll (first : s.ev.faults = f :: rest) (runs : (ctxOf (triadSource f.src) s).running = some g)
    (lost : 4 ≤ g.sev ∨ f.sev ≤ g.sev ∧ 16 ≤ (ctxOf (triadSource f.src) s).queue.length) : Does .faultArrival s fun t =>
      t.wd.instants = s.wd.instants ++ [s.beat.opBeats] ∧ t.get F.toll = min (s.wd.instants.length + 1) 15 ∧
      eventOf s (if 4 ≤ g.sev then 401 else 400) 1 4 (if 4 ≤ g.sev then [(8, if triadSource f.src then 0 else 1), (16, f.src)]
        else [(8, if triadSource f.src then 0 else 1), (32, f.sev)]) ∈ t.ev.router ∧
      (s.get F.tollLimit ≤ s.wd.instants.length + 1 → { kind := .safe 1, beat := s.now, code := 1 } ∈ t.beat.causes) ∧
      (s.wd.instants.length + 1 < s.get F.tollLimit → { kind := .start, beat := s.now, code := 2 } ∈ t.beat.causes) ∧
      t.mem = s.mem := by
  refine ⟨_, execFaultArrival_cons first, ?_⟩
  rw [State.faultArrives_toll ((congrArg FaultCtx.running (ctxOf_faultTaken s rest _)).trans runs)
    (by rw [ctxOf_faultTaken]; exact lost)]
  generalize hc : (if 4 ≤ g.sev then 401 else 400) = src
  generalize hd : (if 4 ≤ g.sev then [(8, if triadSource f.src then 0 else 1), (16, f.src)]
    else [(8, if triadSource f.src then 0 else 1), (32, f.sev)]) = d
  generalize (if 4 ≤ g.sev then 4 else 5) = k
  have fits : (d.map Prod.fst).sum ≤ 64 := by
    subst hd
    split <;> simp
  have taken : Writes [] s (s.faultTaken rest) := .upd .refl rfl rfl rfl rfl
  have event := mem_router_of_raise (src := src) (code := 1) (sev := 4) (d := d) taken (by decide) fits (Writes.tollStep _ k true)
  have raised : Writes [F.raised] s ((s.faultTaken rest).raiseLatched src 1 4 d) := .raiseLatched (taken.mono (by decide)) (by decide)
  have kept : ((s.faultTaken rest).raiseLatched src 1 4 d).wd = s.wd ∧ ((s.faultTaken rest).raiseLatched src 1 4 d).beat = s.beat ∧
      ((s.faultTaken rest).raiseLatched src 1 4 d).mem = s.mem := ⟨rfl, rfl, rfl⟩
  generalize (s.faultTaken rest).raiseLatched src 1 4 d = u at event raised kept
  obtain ⟨wd, beat, mem⟩ := kept
  have limit : u.get F.tollLimit = s.get F.tollLimit := raised.get rfl
  have now : u.now = s.now := raised.get rfl
  obtain ⟨instants, -, -, -, toll⟩ := u.tollStep_counts k true
  rw [wd, beat] at instants
  rw [wd] at toll
  refine ⟨instants, toll, event, fun reached => ?_, fun below => ?_, State.tollStep_touches.mem_eq rfl |>.trans mem⟩
  · have safe := (u.tollStep_safe k true (by rw [limit, wd]; exact reached)).2
    rwa [now] at safe
  · have start := u.tollStep_restart k true (u.tollNow_forced (by rw [limit, wd]; exact below))
    rwa [now] at start

end

/-! The end of a handler (R454, R455). -/

theorem firstFault_cases (a : Option FaultE) (b : FaultE) : firstFault a b = some b ∨ ∃ x, a = some x ∧ firstFault a b = some x := by
  cases a with
  | none => exact .inl rfl
  | some x =>
    simp only [firstFault]
    split
    · exact .inl rfl
    · exact .inr ⟨x, rfl, rfl⟩

/-- The fault chosen is one of those that wait. -/
theorem foldl_firstFault_mem (l : List FaultE) (a : Option FaultE) (x : FaultE) (h : l.foldl firstFault a = some x) :
    a = some x ∨ x ∈ l := by
  induction l generalizing a with
  | nil => exact .inl h
  | cons b l ih =>
    rcases ih _ h with chosen | later
    · rcases firstFault_cases a b with eq | ⟨y, ha, eq⟩
      · rw [eq] at chosen
        exact .inr (Option.some.inj chosen ▸ List.mem_cons_self ..)
      · rw [eq] at chosen
        exact .inl (ha.trans chosen)
    · exact .inr (List.mem_cons_of_mem _ later)

theorem FaultCtx.next_resumes {c : FaultCtx} {p : FaultE} {ps : List FaultE} (preempted : c.preempted = p :: ps)
    (lower : ∀ q ∈ c.queue, q.sev ≤ p.sev) : c.next = { running := some p, preempted := ps, queue := c.queue } := by
  unfold FaultCtx.next
  rw [preempted]
  cases best : c.queue.foldl firstFault none with
  | none => rfl
  | some f =>
    have waits : f ∈ c.queue := (foldl_firstFault_mem _ _ _ best).resolve_left (by simp)
    exact if_neg (Nat.not_lt.2 (lower f waits))

theorem FaultCtx.next_serves {c : FaultCtx} {g : FaultE} (preempted : c.preempted = []) (queue : c.queue = [g]) :
    c.next = { running := some g } := by
  unfold FaultCtx.next
  rw [preempted, queue]
  simp [firstFault]

theorem FaultCtx.next_empty {c : FaultCtx} (preempted : c.preempted = []) (queue : c.queue = []) : c.next = {} := by
  unfold FaultCtx.next
  rw [preempted, queue]
  rfl

/-- The time of a handler of the triad context is charged (R39). -/
def State.charge (s : State) (b : Bool) (n : Nat) : State :=
  if b then { s with beat := { s.beat with charged := s.beat.charged + n } } else s

theorem execFaultHandlerEnd_some {b : Bool} {n : Nat} {f : FaultE} {s : State} (runs : (ctxOf b s).running = some f) :
    exec (.faultHandlerEnd b n) s = .next (((s.putCtx b (ctxOf b s).next).showFaults).charge b n) := by
  show execFaultHandlerEnd b n s = _
  unfold execFaultHandlerEnd
  unfold ctxOf at runs ⊢
  dsimp only
  rw [runs]
  rfl

theorem State.charge_spec (s : State) (b : Bool) (n : Nat) : (s.charge b n).ev = s.ev ∧ (s.charge b n).regs = s.regs ∧
    (s.charge b n).beat = { s.beat with charged := s.beat.charged + (if b then n else 0) } ∧
    s.charge b n = { s with beat := (s.charge b n).beat } := by
  cases b <;> exact ⟨rfl, rfl, rfl, rfl⟩

/-- The end of a handler serves what comes next. -/
theorem does_handlerEnd {b : Bool} {n : Nat} {f : FaultE} {c : FaultCtx} {s : State} (runs : (ctxOf b s).running = some f)
    (next : (ctxOf b s).next = c) : Does (.faultHandlerEnd b n) s fun t =>
      ctxOf b t = c ∧ ctxOf (!b) t = ctxOf (!b) s ∧ t.beat = { s.beat with charged := s.beat.charged + (if b then n else 0) } ∧
      RegsBut faultRegs s t ∧ t = { s with regs := t.regs, ev := t.ev, beat := t.beat } := by
  refine ⟨_, execFaultHandlerEnd_some runs, ?_⟩
  rw [next]
  obtain ⟨own, other⟩ := ctxOf_putCtx s b c
  have placed : s.putCtx b c = { s with ev := (s.putCtx b c).ev } := rfl
  have shown := (s.putCtx b c).showFaults_parts
  have regs : RegsBut faultRegs s (s.putCtx b c).showFaults := .showFaults (.regs .refl rfl) fun _ h => h
  have ev : (s.putCtx b c).showFaults.ev = (s.putCtx b c).ev := by rw [shown]
  have beat : (s.putCtx b c).showFaults.beat = s.beat := by rw [shown]; rfl
  generalize (s.putCtx b c).showFaults = u at *
  obtain ⟨ev', regs', beat', parts⟩ := u.charge_spec b n
  refine ⟨(ctxOf_of_ev (ev'.trans ev) b).trans own, (ctxOf_of_ev (ev'.trans ev) (!b)).trans other, beat'.trans (by rw [beat]),
    .regs regs regs', ?_⟩
  rw [ev', regs', parts, ev]
  rw [shown]
  rfl

/-! The handler of severity 4 (R462, R192). -/

theorem splitSource_of {src : Nat} (h : src = 330 ∨ src = 391 ∨ 402 ≤ src ∧ src < 434) : splitSource src = true := by
  unfold splitSource
  simp only [Bool.or_eq_true, Bool.and_eq_true, beq_iff_eq, decide_eq_true_eq]
  omega

theorem execFatalHandler_some {f : FaultE} {s : State} (fatal : s.fatal? = some f) : exec .fatalHandler s = .next
    (if s.get F.triad = 2 ∧ splitSource f.src then (((s.rejectNext).put F.claim 0).put F.driveEn 0).cause .start 2
      else (((s.rejectNext.safeRecord (fatalCause f.src)).put F.claim 0).put F.driveEn 0).cause (.safe (fatalCause f.src)) 1) := by
  show execFatalHandler s = _
  unfold execFatalHandler
  rw [fatal]

theorem RegsBut.rejectNext {l : List (Fld × Nat)} {s : State} : RegsBut l s s.rejectNext := by
  rw [State.rejectNext_parts]
  exact .regs .refl rfl

theorem does_fatalHandler {f : FaultE} {s : State} (fatal : s.fatal? = some f) (other : splitSource f.src = false ∨ s.get F.triad ≠ 2) :
    Does .fatalHandler s fun t =>
      t.wd.safeRec = fatalCause f.src ∧ t.get F.claim = 0 ∧ t.get F.driveEn = 0 ∧
      t.beat.causes = s.beat.causes ++ [{ kind := .safe (fatalCause f.src), beat := s.now, code := 1 }] ∧
      t.pwr.latch.safeSet = true ∧ t.pwr.latch.safeCause = fatalCause f.src ∧
      RegsBut [(F.claim, 0), (F.driveEn, 0), (F.raised, 378)] s t ∧ t.mem = s.mem := by
  have otherwise : ¬ (s.get F.triad = 2 ∧ splitSource f.src = true) := fun ⟨split, of⟩ =>
    other.elim (fun h => Bool.false_ne_true (h.symm.trans of)) fun h => h split
  refine ⟨_, (execFatalHandler_some fatal).trans (congrArg Host.Outcome.next (if_neg otherwise)), ?_⟩
  generalize fatalCause f.src = c
  have recorded : RegsBut [(F.raised, 378)] s (s.rejectNext.safeRecord c) :=
    .trans (.trans .rejectNext (.regs .refl rfl)) (journal_spec _ _ _ _ _ _ _).2.2.2.2
  have wd : (s.rejectNext.safeRecord c).wd.safeRec = c := by
    unfold State.safeRecord
    rw [State.journal_touches.wd_eq rfl]
    rfl
  have latch : (s.rejectNext.safeRecord c).pwr.latch.safeSet = true ∧ (s.rejectNext.safeRecord c).pwr.latch.safeCause = c := by
    unfold State.safeRecord
    rw [State.journal_touches.pwr_eq rfl]
    exact ⟨rfl, rfl⟩
  have kept : (s.rejectNext.safeRecord c).beat = s.beat ∧ (s.rejectNext.safeRecord c).mem = s.mem := by
    rw [State.safeRecord_touches.beat_eq rfl, State.safeRecord_touches.mem_eq rfl, State.rejectNext_parts]
    exact ⟨rfl, rfl⟩
  generalize s.rejectNext.safeRecord c = u at *
  obtain ⟨beat, mem⟩ := kept
  have regs : RegsBut [(F.claim, 0), (F.driveEn, 0), (F.raised, 378)] s ((u.put F.claim 0).put F.driveEn 0) :=
    .put (.put (recorded.mono (by simp)) (by simp)) (by simp)
  have now : ((u.put F.claim 0).put F.driveEn 0).now = s.now := regs.get_apart [F.claim, F.driveEn, F.raised] (by simp) rfl
  refine ⟨wd, (State.get_put_apart rfl).trans (State.get_put_self ..), State.get_put_self .., ?_, latch.1, latch.2, .regs regs rfl, mem⟩
  change ((u.put F.claim 0).put F.driveEn 0).beat.causes ++ [_] = _
  rw [now]
  exact congrArg (fun b => BeatSt.causes b ++ _) beat

theorem does_fatalHandlerSplit {f : FaultE} {s : State} (fatal : s.fatal? = some f)
    (source : f.src = 330 ∨ f.src = 391 ∨ 402 ≤ f.src ∧ f.src < 434) (split : s.get F.triad = 2) :
    Does .fatalHandler s fun t =>
      t.get F.claim = 0 ∧ t.get F.driveEn = 0 ∧ t.wd = s.wd ∧
      t.beat.causes = s.beat.causes ++ [{ kind := .start, beat := s.now, code := 2 }] ∧
      RegsBut [(F.claim, 0), (F.driveEn, 0)] s t := by
  refine ⟨_, (execFatalHandler_some fatal).trans (congrArg Host.Outcome.next (if_pos ⟨split, splitSource_of source⟩)), ?_⟩
  have rejected := s.rejectNext_parts
  have before : RegsBut [] s s.rejectNext := .rejectNext
  generalize s.rejectNext = u at *
  have regs : RegsBut [(F.claim, 0), (F.driveEn, 0)] s ((u.put F.claim 0).put F.driveEn 0) :=
    .put (.put (before.mono (by simp)) (by simp)) (by simp)
  have now : ((u.put F.claim 0).put F.driveEn 0).now = s.now := regs.get_apart [F.claim, F.driveEn] (by simp) rfl
  have kept : u.wd = s.wd ∧ u.beat = s.beat := by rw [rejected]; exact ⟨rfl, rfl⟩
  refine ⟨(State.get_put_apart rfl).trans (State.get_put_self ..), State.get_put_self .., kept.1, ?_, .regs regs rfl⟩
  change ((u.put F.claim 0).put F.driveEn 0).beat.causes ++ [_] = _
  rw [now]
  exact congrArg (fun b => BeatSt.causes b ++ _) kept.2

/-- Settles O53, by a lemma for each place a fault can go to and one for each end of a handler. -/
theorem faultContextsServeFaults : Obligations.FaultContextsServeFaults := by
  unfold Obligations.FaultContextsServeFaults
  refine ⟨fun f rest s first idle => does_faultStarts first idle, fun f rest g s first runs below higher =>
    does_faultPreempts first runs below higher, fun f rest g s first runs below lower room => does_faultWaits first runs below lower room,
    fun f rest g s first runs lost => does_faultToll first runs lost, fun s none => ?_, fun b n f s runs queue preempted =>
    does_handlerEnd runs (FaultCtx.next_empty preempted queue), fun b n f p ps s runs preempted lower => ?_,
    fun b n f g s runs preempted queue => ?_, fun b n s idle => ?_, fun f s fatal other => does_fatalHandler fatal other,
    fun f s fatal source split => does_fatalHandlerSplit fatal source split, fun s none => ?_⟩
  case refine_1 =>
    refine ⟨s, ?_, rfl⟩
    show execFaultArrival s = _
    unfold execFaultArrival
    rw [none]
  case refine_2 =>
    obtain ⟨t, done, own, -⟩ := does_handlerEnd (n := n) runs (FaultCtx.next_resumes preempted lower)
    exact ⟨t, done, by rw [own], by rw [own], by rw [own]⟩
  case refine_3 =>
    obtain ⟨t, done, own, -⟩ := does_handlerEnd (n := n) runs (FaultCtx.next_serves preempted queue)
    exact ⟨t, done, own⟩
  case refine_4 =>
    refine ⟨s, ?_, rfl⟩
    show execFaultHandlerEnd b n s = _
    unfold execFaultHandlerEnd
    unfold ctxOf at idle
    dsimp only
    rw [idle]
  case refine_5 =>
    refine ⟨s, ?_, rfl⟩
    show execFatalHandler s = _
    unfold execFatalHandler
    rw [none]

end Sys2Proof.Machine

namespace Sys2Proof.Machine

open Sys2Proof

/-! The parts that an operation does not touch. -/

theorem Touches.pair_eq {m : Parts} {s t : State} (h : Touches m s t) (hm : m.pair = false) : t.pair = s.pair := by
  have same := congrArg State.pair h
  simpa only [State.without, hm, cond_false] using same

theorem Touches.triad_eq {m : Parts} {s t : State} (h : Touches m s t) (hm : m.triad = false) : t.triad = s.triad := by
  have same := congrArg State.triad h
  simpa only [State.without, hm, cond_false] using same

theorem Touches.lanes_eq {m : Parts} {s t : State} (h : Touches m s t) (hm : m.lanes = false) : t.lanes = s.lanes := by
  have same := congrArg State.lanes h
  simpa only [State.without, hm, cond_false] using same

theorem Touches.field_eq {m : Parts} {s t : State} (h : Touches m s t) (hm : m.field = false) : t.field = s.field := by
  have same := congrArg State.field h
  simpa only [State.without, hm, cond_false] using same

theorem Touches.rt_eq {m : Parts} {s t : State} (h : Touches m s t) (hm : m.rt = false) : t.rt = s.rt := by
  have same := congrArg State.rt h
  simpa only [State.without, hm, cond_false] using same

theorem Touches.units_eq {m : Parts} {s t : State} (h : Touches m s t) (hm : m.units = false) : t.units = s.units := by
  have same := congrArg State.units h
  simpa only [State.without, hm, cond_false] using same

theorem Touches.jr_eq {m : Parts} {s t : State} (h : Touches m s t) (hm : m.jr = false) : t.jr = s.jr := by
  have same := congrArg State.jr h
  simpa only [State.without, hm, cond_false] using same

theorem Touches.img_eq {m : Parts} {s t : State} (h : Touches m s t) (hm : m.img = false) : t.img = s.img := by
  have same := congrArg State.img h
  simpa only [State.without, hm, cond_false] using same

theorem Touches.panel_eq {m : Parts} {s t : State} (h : Touches m s t) (hm : m.panel = false) : t.panel = s.panel := by
  have same := congrArg State.panel h
  simpa only [State.without, hm, cond_false] using same

theorem Touches.loops_eq {m : Parts} {s t : State} (h : Touches m s t) (hm : m.loops = false) : t.loops = s.loops := by
  have same := congrArg State.loops h
  simpa only [State.without, hm, cond_false] using same

theorem Touches.regs_eq {m : Parts} {s t : State} (h : Touches m s t) (hm : m.regs = false) : t.regs = s.regs := by
  have same := congrArg State.regs h
  simpa only [State.without, hm, cond_false] using same

theorem Touches.time_eq {m : Parts} {s t : State} (h : Touches m s t) (hm : m.time = false) : t.time = s.time := by
  have same := congrArg State.time h
  simpa only [State.without, hm, cond_false] using same

/-! The voter (R181 to R184). -/

/-- Two records of one event, where nothing else was raised. -/
theorem Writes.raisedBoth {ws : List Fld} {s t : State} {src code sev w v : Nat} {l r : List (Nat × Nat)} (h : Writes ws s t)
    (quiet : t.ev = s.ev) (free : (stampFields.all fun g => g.offAll ws) = true) (first : (l.map Prod.fst).sum ≤ 64)
    (full : 64 < (l.map Prod.fst).sum + w) (second : w + (r.map Prod.fst).sum ≤ 64) :
    Raised [Machine.eventOf s src code sev l, restOf s src code sev ((w, v) :: r)] s (t.raise src code sev (l ++ (w, v) :: r)) := by
  have e : (t.raise src code sev (l ++ (w, v) :: r)).ev =
    { t.ev with router := t.ev.router ++ mkRecs t src code sev (packData 64 0 0 (l ++ (w, v) :: r)) } := rfl
  rw [Raised, e, mkRecs_two _ _ _ _ first full second, h.eventOf free, h.eventOf free, quiet]
  rfl

theorem State.triadRuns_vote {s : State} (runs : s.triadRuns = true) {n : Nat} (at_ : s.get F.triad = n) (voted : n ≠ 2) :
    ¬ ((!s.triadRuns) = true ∨ s.get F.triad = 2) := by
  rw [runs, at_]
  simpa using voted

theorem State.vote_voted {s : State} (runs : s.triadRuns = true) (voted : s.get F.triad = 0) (x y z : Option Txn) (off : Nat) :
    s.vote x y z off = match majority (votable x) (votable y) (votable z) with
      | none => (s.passTxn none).countMismatch.raise 336 1 4 [(32, s.now), (16, off)]
      | some (c, m) => if c = 3 then s.passTxn m else
          ((s.passTxn m).countMismatch.raise 330 1 2 [(8, c), (32, s.now), (16, off),
            (32, ((if c = 0 then x else if c = 1 then y else z).or m).elim 0 (·.kind))]).isolate c := by
  refine (if_neg (State.triadRuns_vote runs voted (by decide))).trans ((if_pos voted).trans ?_)
  cases majority (votable x) (votable y) (votable z) with
  | none => rfl
  | some p =>
    obtain ⟨c, m⟩ := p
    dsimp only
    refine if_congr Iff.rfl rfl ?_
    generalize (if c = 0 then x else if c = 1 then y else z) = own
    cases own with
    | some t => rfl
    | none => cases m <;> rfl

theorem State.vote_dual {s : State} (runs : s.triadRuns = true) (dual : s.get F.triad = 1) {x y z a b : Option Txn}
    (voters : s.voters x y z = [a, b]) (off : Nat) : s.vote x y z off =
      if a = b then s.passTxn a else (s.passTxn none).countMismatch.raise 335 1 4 [(32, s.now), (16, off)] := by
  refine (if_neg (State.triadRuns_vote runs dual (by decide))).trans ((if_neg (by rw [dual]; decide)).trans ?_)
  rw [voters]

/-- The odd one of three. -/
theorem majority_odd {tx : Fin 3 → Option Txn} {c d e : Fin 3} (cd : c ≠ d) (ce : c ≠ e) (de : d ≠ e) (same : tx d = tx e)
    (odd : tx c ≠ tx d) : majority (tx 0) (tx 1) (tx 2) = some (c.val, tx d) := by
  unfold majority
  fin_cases c <;> fin_cases d <;> fin_cases e <;> simp_all [eq_comm]

theorem majority_all {a b c : Option Txn} (ab : a = b) (bc : b = c) : majority a b c = some (3, a) := if_pos ⟨ab, bc⟩

theorem majority_none {a b c : Option Txn} (ab : a ≠ b) (ac : a ≠ c) (bc : b ≠ c) : majority a b c = none := by
  simp [majority, ab, ac, bc]

/-- The two that vote in DUAL, in their order. -/
theorem State.voters_dual {tx : Fin 3 → Option Txn} {c d e : Fin 3} {s : State} (cd : c ≠ d) (ce : c ≠ e) (de : d ≠ e)
    (off : s.votes c.val = false) (don : s.votes d.val = true) (eon : s.votes e.val = true) :
    s.voters (tx 0) (tx 1) (tx 2) = [votable (tx d), votable (tx e)] ∨ s.voters (tx 0) (tx 1) (tx 2) = [votable (tx e), votable (tx d)] := by
  unfold State.voters
  fin_cases c <;> fin_cases d <;> fin_cases e <;> simp_all

/-- A mismatch counted, with the transaction that passes. -/
def State.mismatched (s : State) (m : Option Txn) : State := (s.passTxn m).countMismatch

/-- The fields of a counted mismatch. -/
def mismatchFields : List Fld := [F.mismatchTotal, F.lastMismatchBeat]

theorem Writes.mismatched {s : State} {m : Option Txn} : Writes mismatchFields s (s.mismatched m) :=
  .put (.inc (.upd .refl rfl rfl rfl rfl) (by decide)) (by decide)

theorem RegsBut.mismatched {l : List (Fld × Nat)} {s : State} {m : Option Txn} (named : ∀ f ∈ mismatchFields, (f, 0) ∈ l) :
    RegsBut l s (s.mismatched m) :=
  .put (.inc (.regs .refl rfl) (named _ (by decide))) (named _ (by decide))

theorem State.mismatched_counts (s : State) (m : Option Txn) :
    (s.mismatched m).get F.mismatchTotal = satInc 32 (s.get F.mismatchTotal) ∧
    (s.mismatched m).get F.lastMismatchBeat = s.now % 2 ^ 64 :=
  ⟨(State.get_put_apart rfl).trans (State.get_put_fits (satInc_lt _ _)), State.get_put_self ..⟩

/-- The cluster's bit is set, the triad DUAL, and the memory of the cluster stays as it is (R180). -/
def State.isolated (s : State) (c : Nat) : State :=
  let t := (s.put F.triad 1).put F.isolated (setBit (s.get F.isolated) c true)
  { t with triad := { t.triad with oddMem := t.mem } }

theorem State.isolate_eq (s : State) (c : Nat) : s.isolate c =
    if 3 ≤ (s.attemptsOf c).length then (s.isolated c).retireCluster c
    else { s.isolated c with triad := { (s.isolated c).triad with startsNext := some c } } := rfl

theorem Writes.isolated {s : State} {c : Nat} : Writes [F.triad, F.isolated] s (s.isolated c) :=
  .upd (.put (.put .refl (by decide)) (by decide)) rfl rfl rfl rfl

theorem State.isolated_spec (s : State) (c : Nat) : (s.isolated c).get F.triad = 1 ∧
    (s.isolated c).get F.isolated = setBit (s.get F.isolated) c true % 8 :=
  ⟨(State.get_put_apart rfl).trans (State.get_put_self ..), State.get_put_self ..⟩

/-- The cluster's retirement is recorded (R188). -/
def State.retirementNoted (s : State) (c : Nat) : State :=
  (((s.put F.retired (setBit (s.get F.retired) c true)).raise 334 1 3 [(8, c)]).journal 0x0B c 1 1 false).put F.hcState 3 c

theorem State.retireCluster_eq (s : State) (c : Nat) : s.retireCluster c =
    if (s.retirementNoted c).get F.dualSwitchover = 1 ∧ (s.retirementNoted c).pair.partnerTriad = 0 then
      (s.retirementNoted c).plan 6 0 else s.retirementNoted c := rfl

/-- The fields of a retirement. -/
def retiredFields : List Fld := [F.retired, F.raised, F.hcState]

theorem Writes.retirementNoted {s : State} {c : Nat} : Writes retiredFields s (s.retirementNoted c) :=
  .put (.journal (.raise (.put .refl (by decide)) (by decide)) (by decide)) (by decide)

theorem State.retirementNoted_spec {s u : State} {c : Nat} {ws : List Fld} (before : Writes ws s u)
    (free : (stampFields.all fun g => g.offAll (F.retired :: ws)) = true) :
    (u.retirementNoted c).get F.retired = setBit (u.get F.retired) c true % 8 ∧ (u.retirementNoted c).get F.hcState c = 3 ∧
    eventOf s 334 1 3 [(8, c)] ∈ (u.retirementNoted c).ev.router ∧
    (u.retirementNoted c).pair = u.pair ∧ (u.retirementNoted c).beat = u.beat ∧ (u.retirementNoted c).mem = u.mem ∧
    (u.retirementNoted c).triad = u.triad := by
  have put : Writes (F.retired :: ws) s (u.put F.retired (setBit (u.get F.retired) c true)) :=
    .put (before.mono fun _ h => List.mem_cons_of_mem _ h) (List.mem_cons_self ..)
  obtain ⟨l, raised⟩ := put.raisedLast (src := 334) (code := 1) (sev := 3) (d := [(8, c)]) free (by simp)
  have bit : ((u.put F.retired (setBit (u.get F.retired) c true)).raise 334 1 3 [(8, c)]).get F.retired =
    setBit (u.get F.retired) c true % 8 := (State.get_raise_apart rfl).trans (State.get_put_self ..)
  have pair : ((u.put F.retired (setBit (u.get F.retired) c true)).raise 334 1 3 [(8, c)]).pair = u.pair := rfl
  have beat : ((u.put F.retired (setBit (u.get F.retired) c true)).raise 334 1 3 [(8, c)]).beat = u.beat := rfl
  have mem : ((u.put F.retired (setBit (u.get F.retired) c true)).raise 334 1 3 [(8, c)]).mem = u.mem := rfl
  have triad : ((u.put F.retired (setBit (u.get F.retired) c true)).raise 334 1 3 [(8, c)]).triad = u.triad := rfl
  have noted : u.retirementNoted c =
    (((u.put F.retired (setBit (u.get F.retired) c true)).raise 334 1 3 [(8, c)]).journal 0x0B c 1 1 false).put F.hcState 3 c := rfl
  rw [noted]
  generalize (u.put F.retired (setBit (u.get F.retired) c true)).raise 334 1 3 [(8, c)] = v at *
  have kept : Writes [F.raised, F.hcState] v ((v.journal 0x0B c 1 1 false).put F.hcState 3 c) :=
    .put (.journal .refl (by decide)) (by decide)
  have touches : Touches { regs := true, ev := true, jr := true } v (v.journal 0x0B c 1 1 false) := State.journal_touches
  refine ⟨(kept.get rfl).trans bit, State.get_put_self .., kept.router.subset ?_, (touches.pair_eq rfl).trans pair,
    (touches.beat_eq rfl).trans beat, (touches.mem_eq rfl).trans mem, (touches.triad_eq rfl).trans triad⟩
  rw [raised]
  exact List.mem_append_right _ (List.mem_append_right _ (List.mem_singleton.2 rfl))

/-- A handover is planned where it can be. -/
theorem State.plan_spec {s : State} (can : s.canPlan = true) (free : s.pair.handover = none) (cause after : Nat) :
    s.plan cause after = { s with pair := { s.pair with handover := some {
      apply := if s.beat.committed ∨ 42400 ≤ s.beat.off then s.now + 1 else s.now, cause := cause, after := after } } } := by
  unfold State.plan State.planAt
  rw [if_pos ⟨can, by rw [free]; rfl⟩]
  simp only [Bool.or_eq_true, decide_eq_true_eq]

theorem State.plan_parts (s : State) (cause after : Nat) : s.plan cause after = { s with pair := (s.plan cause after).pair } := by
  unfold State.plan State.planAt
  split <;> rfl

/-- A mismatch of one cluster of three. -/
def State.oddFound (s : State) (c : Nat) (m : Option Txn) (off kind : Nat) : State :=
  (s.mismatched m).raise 330 1 2 [(8, c), (32, s.now), (16, off), (32, kind)]

theorem Writes.oddFound {s : State} {c : Nat} {m : Option Txn} {off kind : Nat} :
    Writes (F.raised :: mismatchFields) s (s.oddFound c m off kind) :=
  .raise (Writes.mismatched.mono (by decide)) (by decide)

theorem raised_oddFound (s : State) (c : Nat) (m : Option Txn) (off kind : Nat) :
    Raised [eventOf s 330 1 2 [(8, c), (32, s.now), (16, off)], restOf s 330 1 2 [(32, kind)]] s (s.oddFound c m off kind) :=
  Writes.mismatched.raisedBoth (l := [(8, c), (32, s.now), (16, off)]) (r := []) rfl (by decide) (by simp) (by simp) (by simp)

section

variable {tx : Fin 3 → Option Txn} {c d e : Fin 3} {s : State} (runs : s.triadRuns = true) (voted : s.get F.triad = 0)
  (cd : c ≠ d) (ce : c ≠ e) (de : d ≠ e)

include runs voted cd ce de

theorem State.vote_odd (same : votable (tx d) = votable (tx e)) (odd : votable (tx c) ≠ votable (tx d)) (off : Nat) :
    s.vote (tx 0) (tx 1) (tx 2) off = (s.oddFound c.val (votable (tx d)) off
      (((tx c).or (votable (tx d))).elim 0 (·.kind))).isolate c.val := by
  have found := majority_odd (tx := fun i => votable (tx i)) cd ce de same odd
  have own : (if c.val = 0 then tx 0 else if c.val = 1 then tx 1 else tx 2) = tx c := by
    fin_cases c <;> rfl
  rw [State.vote_voted runs voted, found]
  dsimp only
  rw [own]
  exact if_neg (Nat.ne_of_lt c.isLt)

/-- The odd cluster is isolated (R184). -/
theorem does_mismatchIsolates (same : votable (tx d) = votable (tx e)) (odd : votable (tx c) ≠ votable (tx d)) (off : Nat)
    (few : (s.attemptsOf c.val).length < 3) : Does (.triadMismatch (tx 0) (tx 1) (tx 2) off false) s fun t =>
      t.get F.triad = 1 ∧ t.get F.isolated = setBit (s.get F.isolated) c.val true % 8 ∧
      t.triad = { s.triad with startsNext := some c.val, passed := votable (tx d), oddMem := s.mem } ∧
      t.get F.mismatchTotal = satInc 32 (s.get F.mismatchTotal) ∧ t.get F.lastMismatchBeat = s.now % 2 ^ 64 ∧
      Raised [eventOf s 330 1 2 [(8, c.val), (32, s.now), (16, off)],
        restOf s 330 1 2 [(32, ((tx c).or (votable (tx d))).elim 0 (·.kind))]] s t ∧
      RegsBut [(F.mismatchTotal, 0), (F.lastMismatchBeat, 0), (F.triad, 0), (F.isolated, 0), (F.raised, 330)] s t ∧
      t = { s with regs := t.regs, ev := t.ev, triad := t.triad } := by
  refine ⟨_, congrArg Host.Outcome.next (State.vote_odd runs voted cd ce de same odd off), ?_⟩
  generalize ((tx c).or (votable (tx d))).elim 0 (·.kind) = kind
  generalize votable (tx d) = m
  have tries : ((s.oddFound c.val m off kind).attemptsOf c.val).length < 3 := few
  rw [State.isolate_eq, if_neg (Nat.not_le.2 tries)]
  have raised := raised_oddFound s c.val m off kind
  have found : Writes (F.raised :: mismatchFields) s (s.oddFound c.val m off kind) := .oddFound
  have regs : RegsBut [(F.mismatchTotal, 0), (F.lastMismatchBeat, 0), (F.triad, 0), (F.isolated, 0), (F.raised, 330)] s
      (s.oddFound c.val m off kind) := .raise (.mismatched (by simp [mismatchFields])) (by simp)
  obtain ⟨total, beat⟩ := s.mismatched_counts m
  have total' : (s.oddFound c.val m off kind).get F.mismatchTotal = satInc 32 (s.get F.mismatchTotal) :=
    (State.get_raise_apart rfl).trans total
  have beat' : (s.oddFound c.val m off kind).get F.lastMismatchBeat = s.now % 2 ^ 64 := (State.get_raise_apart rfl).trans beat
  have parts : s.oddFound c.val m off kind = { s with
    regs := (s.oddFound c.val m off kind).regs, ev := (s.oddFound c.val m off kind).ev, triad := { s.triad with passed := m } } := rfl
  generalize s.oddFound c.val m off kind = u at *
  obtain ⟨dual, bit⟩ := u.isolated_spec c.val
  have bits : u.get F.isolated = s.get F.isolated := found.get rfl
  rw [bits] at bit
  refine ⟨dual, bit, ?_, (Writes.isolated.get rfl).trans total', (Writes.isolated.get rfl).trans beat', raised.of_ev rfl,
    .regs (.put (.put regs (by simp)) (by simp)) rfl, ?_⟩
  · rw [parts]
    rfl
  · rw [parts]
    rfl

/-- After three attempts it is retired (R188). -/
theorem does_mismatchRetires (same : votable (tx d) = votable (tx e)) (odd : votable (tx c) ≠ votable (tx d)) (off : Nat)
    (spent : 3 ≤ (s.attemptsOf c.val).length) : Does (.triadMismatch (tx 0) (tx 1) (tx 2) off false) s fun t =>
      t.get F.triad = 1 ∧ t.get F.isolated = setBit (s.get F.isolated) c.val true % 8 ∧
      t.get F.retired = setBit (s.get F.retired) c.val true % 8 ∧ t.get F.hcState c.val = 3 ∧
      t.triad = { s.triad with passed := votable (tx d), oddMem := s.mem } ∧ eventOf s 334 1 3 [(8, c.val)] ∈ t.ev.router ∧
      (s.get F.dualSwitchover = 1 → s.pair.partnerTriad = 0 → s.canPlan = true → s.pair.handover = none →
        t.pair.handover = some { apply := if s.beat.committed ∨ 42400 ≤ s.beat.off then s.now + 1 else s.now, cause := 6 }) ∧
      t.mem = s.mem := by
  refine ⟨_, congrArg Host.Outcome.next (State.vote_odd runs voted cd ce de same odd off), ?_⟩
  generalize ((tx c).or (votable (tx d))).elim 0 (·.kind) = kind
  generalize votable (tx d) = m
  have tries : 3 ≤ ((s.oddFound c.val m off kind).attemptsOf c.val).length := spent
  rw [State.isolate_eq, if_pos tries]
  have found : Writes (F.raised :: mismatchFields) s (s.oddFound c.val m off kind) := .oddFound
  have parts : s.oddFound c.val m off kind = { s with
    regs := (s.oddFound c.val m off kind).regs, ev := (s.oddFound c.val m off kind).ev, triad := { s.triad with passed := m } } := rfl
  generalize s.oddFound c.val m off kind = u at *
  obtain ⟨dual, bit⟩ := u.isolated_spec c.val
  have bits : u.get F.isolated = s.get F.isolated := found.get rfl
  rw [bits] at bit
  have gone : Writes ([F.triad, F.isolated] ++ F.raised :: mismatchFields) s (u.isolated c.val) :=
    (found.mono (by decide)).trans (Writes.isolated.mono (by decide))
  have parts' : u.isolated c.val = { s with
      regs := (u.isolated c.val).regs, ev := (u.isolated c.val).ev, triad := { s.triad with passed := m, oddMem := s.mem } } := by
    rw [parts]
    rfl
  generalize u.isolated c.val = v at *
  have retired : v.get F.retired = s.get F.retired := gone.get rfl
  obtain ⟨retiredBit, hc, event, pair, beat, mem, triad⟩ := State.retirementNoted_spec (c := c.val) gone (by decide)
  rw [retired] at retiredBit
  have noted : Writes retiredFields v (v.retirementNoted c.val) := .retirementNoted
  have dual' : (v.retirementNoted c.val).get F.triad = 1 := (noted.get rfl).trans dual
  have bit' : (v.retirementNoted c.val).get F.isolated = setBit (s.get F.isolated) c.val true % 8 := (noted.get rfl).trans bit
  have switch : (v.retirementNoted c.val).get F.dualSwitchover = s.get F.dualSwitchover := (noted.get rfl).trans (gone.get rfl)
  have role : (v.retirementNoted c.val).get F.role = s.get F.role := (noted.get rfl).trans (gone.get rfl)
  have now : (v.retirementNoted c.val).now = s.now := (noted.get rfl).trans (gone.get rfl)
  rw [State.retireCluster_eq]
  generalize v.retirementNoted c.val = w at *
  have kept : w.pair = s.pair ∧ w.beat = s.beat ∧ w.mem = s.mem ∧ w.triad = { s.triad with passed := m, oddMem := s.mem } := by
    rw [pair, beat, mem, triad, parts']
    exact ⟨rfl, rfl, rfl, rfl⟩
  obtain ⟨pair, beat, mem, triad⟩ := kept
  by_cases hands : w.get F.dualSwitchover = 1 ∧ w.pair.partnerTriad = 0
  · rw [if_pos hands]
    have planned := w.plan_parts 6 0
    refine ⟨?_, ?_, ?_, ?_, ?_, ?_, fun _ _ can free => ?_, ?_⟩
    case refine_7 =>
      have can' : w.canPlan = true := by
        unfold State.canPlan
        rw [role, pair]
        exact can
      rw [State.plan_spec can' (by rw [pair]; exact free), now, beat]
    all_goals rw [planned]
    exacts [dual', bit', retiredBit, hc, triad, event, mem]
  · rw [if_neg hands]
    refine ⟨dual', bit', retiredBit, hc, triad, event, fun on voted => absurd ⟨switch.trans on, ?_⟩ hands, mem⟩
    rw [pair]
    exact voted

end

/-- No majority (R182). -/
theorem does_noMajority {tx : Fin 3 → Option Txn} {s : State} (runs : s.triadRuns = true) (voted : s.get F.triad = 0)
    (ab : votable (tx 0) ≠ votable (tx 1)) (ac : votable (tx 0) ≠ votable (tx 2)) (bc : votable (tx 1) ≠ votable (tx 2)) (off : Nat) :
    Does (.triadMismatch (tx 0) (tx 1) (tx 2) off false) s fun t =>
      Raised [eventOf s 336 1 4 [(32, s.now), (16, off)]] s t ∧
      RegsBut [(F.mismatchTotal, 0), (F.lastMismatchBeat, 0), (F.raised, 336)] s t ∧
      t = { s with regs := t.regs, ev := t.ev, triad := { s.triad with passed := none } } := by
  refine ⟨_, congrArg Host.Outcome.next (State.vote_voted runs voted _ _ _ off), ?_⟩
  rw [majority_none ab ac bc]
  exact ⟨(Writes.mismatched (m := none)).raised rfl (by decide) (by simp),
    .raise (.mismatched (m := none) (by simp [mismatchFields])) (by simp), rfl⟩

/-- A difference of the two voters of a DUAL triad (R184). -/
theorem does_dualMismatch {x y z a b : Option Txn} {s : State} (runs : s.triadRuns = true) (dual : s.get F.triad = 1)
    (voters : s.voters x y z = [a, b]) (differ : a ≠ b) (off : Nat) : Does (.triadMismatch x y z off false) s fun t =>
      Raised [eventOf s 335 1 4 [(32, s.now), (16, off)]] s t ∧ t.get F.triad = 1 ∧
      RegsBut [(F.mismatchTotal, 0), (F.lastMismatchBeat, 0), (F.raised, 335)] s t ∧
      t = { s with regs := t.regs, ev := t.ev, triad := { s.triad with passed := none } } := by
  refine ⟨_, congrArg Host.Outcome.next ((State.vote_dual runs dual voters off).trans (if_neg differ)), ?_⟩
  have kept : (s.mismatched none).get F.triad = 1 := (Writes.mismatched.get rfl).trans dual
  exact ⟨(Writes.mismatched (m := none)).raised rfl (by decide) (by simp), (State.get_raise_apart rfl).trans kept,
    .raise (.mismatched (m := none) (by simp [mismatchFields])) (by simp), rfl⟩

/-- Settles O36, by the voter's findings in VOTED and in DUAL. -/
theorem theVoterIsolatesTheOddCluster : Obligations.TheVoterIsolatesTheOddCluster := by
  unfold Obligations.TheVoterIsolatesTheOddCluster
  refine ⟨fun tx off s runs voted ab bc => ?_, fun tx c d e off s runs voted cd ce de same odd few =>
    does_mismatchIsolates runs voted cd ce de same odd off few, fun tx c d e off s runs voted cd ce de same odd spent =>
    does_mismatchRetires runs voted cd ce de same odd off spent, fun tx off s runs voted ab ac bc =>
    does_noMajority runs voted ab ac bc off, fun tx c d e off s runs dual cd ce de out don eon same => ?_,
    fun tx c d e off s runs dual cd ce de out don eon differ => ?_, fun x y z off b s idle => ?_⟩
  case refine_1 =>
    refine ⟨_, congrArg Host.Outcome.next (State.vote_voted runs voted _ _ _ off), ?_⟩
    rw [majority_all ab bc]
    rfl
  case refine_2 =>
    rcases State.voters_dual cd ce de out don eon with voters | voters
    · exact ⟨_, congrArg Host.Outcome.next ((State.vote_dual runs dual voters off).trans (if_pos same)), rfl⟩
    · exact ⟨_, congrArg Host.Outcome.next ((State.vote_dual runs dual voters off).trans (if_pos same.symm)), by rw [same]; rfl⟩
  case refine_3 =>
    rcases State.voters_dual cd ce de out don eon with voters | voters
    · exact does_dualMismatch runs dual voters differ off
    · exact does_dualMismatch runs dual voters (Ne.symm differ) off
  case refine_4 =>
    rcases idle with injected | idle
    · exact ⟨s, congrArg Host.Outcome.next (if_pos injected), rfl⟩
    · have unvoted : s.vote x y z off = s := if_pos (by rcases idle with h | h <;> simp [h])
      exact ⟨s, congrArg Host.Outcome.next ((congrArg (ite _ s) unvoted).trans (ite_self s)), rfl⟩

end Sys2Proof.Machine

namespace Sys2Proof.Machine

open Sys2Proof

/-! What the lanes' failures, crossovers and returns write (R104 to R106, R160 to R163, R216). -/

/-- The fields that PairStatus and the lanes show of failures. -/
def laneFields : List Fld :=
  [F.laneState, F.raised, F.laneFailures, F.laneLastFail, F.laneLink, F.laneBoards, F.crossover, F.crossoverCount, F.crossoverMap]

theorem Writes.showCrossover {s : State} : Writes laneFields s s.showCrossover :=
  .put (.put (.putFlag .refl (by decide)) (by decide)) (by decide)

theorem Writes.oweErr {ws : List Fld} {s t : State} {key r : Nat} (h : Writes ws s t) : Writes ws s (t.oweErr key r) :=
  h.trans (.ite (fun _ => .upd .refl rfl rfl rfl rfl) fun _ => .refl)

theorem Writes.oweErrs {ws : List Fld} {s t : State} {keys : List Nat} {r : Nat} (h : Writes ws s t) :
    Writes ws s (keys.foldl (fun s key => s.oweErr key r) t) :=
  .foldl h fun _ _ => .oweErr .refl

theorem Writes.bumpUnit {ws : List Fld} {s t : State} {hops : List Nat} {c : Nat} (h : Writes ws s t) (hf : F.raised ∈ ws) :
    Writes ws s (t.bumpUnit hops c) := .journal (.upd h rfl rfl rfl rfl) hf

theorem Writes.setL3 {ws : List Fld} {s t : State} {k : Nat} {b : Bool} (h : Writes ws s t) : Writes ws s (t.setL3 k b) :=
  h.upd rfl rfl rfl rfl

theorem Writes.putLane {ws : List Fld} {s t : State} {l : LaneRt} (h : Writes ws s t) : Writes ws s (t.putLane l) :=
  h.upd rfl rfl rfl rfl

theorem Writes.laneEvent {ws : List Fld} {s t : State} {k c v : Nat} {d : List (Nat × Nat)} (h : Writes ws s t) (hf : F.raised ∈ ws) :
    Writes ws s (t.laneEvent k c v d) := .raise h hf

theorem Writes.boardGone {s : State} {l : LaneRt} : Writes laneFields s (s.boardGone l) := by
  have failed : Writes laneFields s (if l.failed then s else (s.inc F.laneFailures l.k).put F.laneLastFail s.now l.k) :=
    .ite (fun _ => .refl) fun _ => .put (.inc .refl (by decide)) (by decide)
  exact (Writes.oweErrs (.bumpUnit (.laneEvent (.putLane (.put (.put (.put failed (by decide)) (by decide)) (by decide)))
    (by decide)) (by decide))).trans .showCrossover

/-- A crossover that stands ends. -/
def State.crossoverEnded (s : State) (k : Nat) : State :=
  let t := (s.putLane { s.lane k with crossAt := none, returnAt := none, probes := 0 }).put F.laneState lsFailed k
  if t.serving then (t.laneKeys k).foldl (fun s key => s.oweErr key 1) (t.laneEvent k 2 2 [(32, t.now), (8, 0xFF)]) else t

theorem State.endCrossover_eq (s : State) (k : Nat) : s.endCrossover k =
    if s.get F.laneState k ≠ lsCrossover ∧ (s.lane k).crossAt.isNone then s
    else (if (s.crossoverEnded k).get F.laneMode k = 3 then (s.crossoverEnded k).setL3 k true else s.crossoverEnded k).showCrossover := rfl

theorem Writes.crossoverEnded {s : State} {k : Nat} : Writes laneFields s (s.crossoverEnded k) := by
  have failed : Writes laneFields s
      ((s.putLane { s.lane k with crossAt := none, returnAt := none, probes := 0 }).put F.laneState lsFailed k) :=
    .put (.putLane .refl) (by decide)
  exact .ite (fun _ => .oweErrs (.laneEvent failed (by decide))) fun _ => failed

theorem Writes.endCrossover {s : State} {k : Nat} : Writes laneFields s (s.endCrossover k) := by
  rw [State.endCrossover_eq]
  exact .ite (fun _ => .refl) fun _ =>
    (Writes.ite (fun _ => .setL3 .crossoverEnded) fun _ => .crossoverEnded).trans .showCrossover

theorem Writes.endCrossovers {s : State} : Writes laneFields s s.endCrossovers := .foldl .refl fun _ _ => .endCrossover

theorem Writes.partnerLossIn {s : State} {bits : Nat} : Writes laneFields s (s.partnerLossIn bits) := by
  unfold State.partnerLossIn
  refine .foldl (.upd .refl rfl rfl rfl rfl) fun u l => ?_
  split
  · exact .ite (fun _ => .boardGone) fun _ => .refl
  · exact .refl

theorem State.partnerLossIn_pair (s : State) (bits : Nat) : (s.partnerLossIn bits).pair = { s.pair with partnerLoss := bits } := by
  unfold State.partnerLossIn
  dsimp only
  generalize hu : ({ s with pair := { s.pair with partnerLoss := bits } } : State) = u
  have start : u.pair = { s.pair with partnerLoss := bits } := by rw [← hu]
  clear hu
  rw [← start]
  clear start
  induction s.lanes.lanes generalizing u with
  | nil => rfl
  | cons l ls ih =>
    rw [List.foldl_cons, ih]
    split
    · split
      · exact State.boardGone_touches.pair_eq rfl
      · rfl
    · rfl

theorem Writes.payFailure {ws : List Fld} {s : State} {l : LaneRt} (hf : F.raised ∈ ws) : Writes ws s (s.payFailure l) :=
  .ite (fun _ => .laneEvent (.putLane .refl) hf) fun _ => .refl

/-- A lane that fails, before its crossover or its substitutes. -/
def State.laneFailing (s : State) (k : Nat) : State :=
  ((s.inc F.laneFailures k).put F.laneLastFail s.now k).put F.laneState lsFailed k

theorem Writes.laneFailing {s : State} {k : Nat} : Writes laneFields s (s.laneFailing k) :=
  .put (.put (.inc .refl (by decide)) (by decide)) (by decide)

/-- The lane without a crossover. -/
def State.laneDown (s : State) (l : LaneRt) : State :=
  let t := s.putLane { l with failed := true, good := 0, healthy := false }
  let u := if l.owes then t else t.laneEvent l.k 2 2 [(32, t.now), (8, 0xFF)]
  let v := (s.liveKeys { l with failed := true, good := 0, healthy := false }).foldl (fun s key => s.oweErr key 1) u
  if v.get F.laneMode l.k = 3 then v.setL3 l.k true else v

theorem State.laneFail_eq (s : State) (l : LaneRt) : s.laneFail l =
    if (s.laneFailing l.k).serving ∧ (s.laneFailing l.k).partnerHealthy l.k then
      (s.laneFailing l.k).putLane { l with failed := true, good := 0, healthy := false
                                           crossAt := some ((s.laneFailing l.k).now + 1), probes := 0, owes := false }
    else (s.laneFailing l.k).laneDown l := rfl

theorem Writes.laneDown {s : State} {l : LaneRt} : Writes laneFields s (s.laneDown l) := by
  have kept : Writes laneFields s (s.putLane { l with failed := true, good := 0, healthy := false }) := .putLane .refl
  have told : Writes laneFields s (if l.owes then s.putLane { l with failed := true, good := 0, healthy := false } else
      (s.putLane { l with failed := true, good := 0, healthy := false }).laneEvent l.k 2 2
        [(32, (s.putLane { l with failed := true, good := 0, healthy := false }).now), (8, 0xFF)]) :=
    .ite (fun _ => kept) fun _ => .laneEvent kept (by decide)
  exact .ite (fun _ => .setL3 (.oweErrs told)) fun _ => .oweErrs told

theorem Writes.laneFail {s : State} {l : LaneRt} : Writes laneFields s (s.laneFail l) := by
  rw [State.laneFail_eq]
  exact .ite (fun _ => .putLane .laneFailing) fun _ => Writes.laneFailing.trans .laneDown

end Sys2Proof.Machine

namespace Sys2Proof.Machine

open Sys2Proof

/-! The pair link (R139, R157, R22). -/

/-- The link trained. -/
def State.linkTrained (s : State) (l : Nat) : State := (s.put F.linkUp l).raise 349 1 0 [(32, l)]

/-- And nothing of its loss stands. -/
def State.linkStands (s : State) (l : Nat) : State :=
  { s.linkTrained l with pair := { s.pair with linkLost := false, decided := none } }

theorem State.pairLinkUp_eq (s : State) (n : Nat) : s.pairLinkUp n =
    if s.pwr.off ∨ s.get F.mode = mDormant ∨ n % 4 = 0 ∨ s.get F.linkUp = n % 4 ∨ s.get F.triad = 2 then s
    else
      let u := if (s.linkStands (n % 4)).get F.pairState = 6 then (s.linkStands (n % 4)).put F.pairState 0 else s.linkStands (n % 4)
      if s.pair.linkLost then u.dropSync.showLeds else u.showLeds := rfl

theorem Up.not_gone {s : State} (up : Up s) : ¬ s.pwr.off = true ∧ ¬ s.get F.mode = mDormant := by
  obtain ⟨on, mode⟩ := up
  exact ⟨by simp [on], mode⟩

theorem does_pairLinkUp {n : Nat} {s : State} (up : Up s) (some_ : n % 4 ≠ 0) (new : s.get F.linkUp ≠ n % 4) (pair : s.get F.triad ≠ 2)
    (kept : s.pair.linkLost = false) (apart : s.get F.pairState ≠ 6) : Does (.pairLinkUp n) s fun t =>
      t.get F.linkUp = n % 4 ∧ Raised [eventOf s 349 1 0 [(32, n % 4)]] s t ∧
      RegsBut [(F.linkUp, 0), (F.raised, 349), (F.leds, 0)] s t ∧ t = { s with regs := t.regs, ev := t.ev, pair := t.pair } ∧
      t.pair = { s.pair with linkLost := false, decided := none } := by
  obtain ⟨on, mode⟩ := up.not_gone
  have trains : ¬ (s.pwr.off = true ∨ s.get F.mode = mDormant ∨ n % 4 = 0 ∨ s.get F.linkUp = n % 4 ∨ s.get F.triad = 2) :=
    not_or.2 ⟨on, not_or.2 ⟨mode, not_or.2 ⟨some_, not_or.2 ⟨new, pair⟩⟩⟩⟩
  have trained : (s.linkTrained (n % 4)).get F.linkUp = n % 4 :=
    (State.get_raise_apart rfl).trans (State.get_put_fits (Nat.mod_lt _ (by decide)))
  have link : (s.linkStands (n % 4)).get F.linkUp = n % 4 := trained
  have raised : Raised [eventOf s 349 1 0 [(32, n % 4)]] s (s.linkStands (n % 4)) :=
    ((Writes.put (ws := [F.linkUp]) .refl (by decide)).raised rfl (by decide) (by simp)).of_ev rfl
  have regs : RegsBut [(F.linkUp, 0), (F.raised, 349), (F.leds, 0)] s (s.linkStands (n % 4)) :=
    .regs (show RegsBut _ s (s.linkTrained (n % 4)) from .raise (.put .refl (by simp)) (by simp)) rfl
  have state : (s.linkStands (n % 4)).get F.pairState ≠ 6 := by
    have same : (s.linkTrained (n % 4)).get F.pairState = s.get F.pairState := (State.get_raise_apart rfl).trans (State.get_put_apart rfl)
    exact fun h => apart (same.symm.trans h)
  have runs : s.pairLinkUp n = (s.linkStands (n % 4)).showLeds := by
    rw [State.pairLinkUp_eq, if_neg trains, if_neg state]
    exact if_neg (by simp [kept])
  refine ⟨_, congrArg Host.Outcome.next runs, (Writes.showLeds.get rfl).trans link, raised.of_ev rfl, .put regs (by simp), rfl, rfl⟩

theorem setBit_three (k : Fin 2) : setBit 3 k.val false = 2 - k.val ∧ bitOf 3 k.val = true := by
  fin_cases k <;> exact ⟨rfl, rfl⟩

/-- One lane of the link fails, and the other carries it (R139). -/
theorem does_pairLinkDegraded {k : Fin 2} {s : State} (both : s.get F.linkUp = 3) : Does (.pairLinkDegraded k) s fun t =>
    t.get F.linkUp = 2 - k.val ∧ Raised [eventOf s 353 1 2 [(8, k.val)]] s t ∧
    RegsBut [(F.linkUp, 0), (F.raised, 353), (F.leds, 0)] s t ∧ t = { s with regs := t.regs, ev := t.ev } := by
  obtain ⟨left, set⟩ := setBit_three k
  have small : 2 - k.val < 2 ^ F.linkUp.w := Nat.lt_of_le_of_lt (Nat.sub_le _ _) (by decide)
  have link : (s.put F.linkUp (2 - k.val)).get F.linkUp = 2 - k.val := State.get_put_fits small
  have up : ¬ (s.put F.linkUp (2 - k.val)).get F.linkUp = 0 := by
    rw [link]
    omega
  have stands : ¬ (!bitOf (s.get F.linkUp) k.val) = true := by
    rw [both, set]
    decide
  have runs : exec (.pairLinkDegraded k) s = .next ((s.put F.linkUp (2 - k.val)).raise 353 1 2 [(8, k.val)]).showLeds := by
    refine congrArg Host.Outcome.next ((if_neg stands).trans ?_)
    rw [both, left]
    exact congrArg State.showLeds (if_neg up)
  refine ⟨_, runs, (Writes.showLeds.get rfl).trans ((State.get_raise_apart rfl).trans link), ?_, .put (.raise (.put .refl (by simp)) (by simp)) (by simp), rfl⟩
  exact ((Writes.put (ws := [F.linkUp]) .refl (by decide)).raised rfl (by decide) (by simp)).of_ev rfl

/-! Heartbeats (R140, R148). -/

/-- The heartbeat of the instant. -/
def State.heartbeat (s : State) : Heartbeat where
  beat := s.now
  mode := s.get F.mode
  role := s.get F.role
  epoch := s.get F.epoch
  triad := s.get F.triad
  lanes := s.laneHealth
  lossOfLink := s.laneLoss
  lastBeat := s.get F.lastClosed
  handover := s.pair.handing || s.pair.handover.isSome
  ready := s.get F.ready == 1
  keyStop := s.get F.key == 2
  servo := s.servo
  syncing := s.get F.role == rStandby && !s.pair.current
  resync := s.pair.dropPartner

theorem State.heartbeatSend_eq (s : State) (a b : Bool) : s.heartbeatSend a b =
    if s.pwr.off ∨ s.get F.mode = mDormant ∨ s.quiet ∨ s.get F.triad = 2 then s
    else if s.get F.linkUp = 0 ∨ !a ∨ !b ∨ s.wd.hbStopped ∨ s.lcp.mute then
      { s with pair := { s.pair with ownStop := s.pair.ownStop + 1 } }
    else { s with pair := { s.pair with hbOut := s.pair.hbOut ++ [s.heartbeat], ownStop := 0 } } := rfl

theorem Up.not_silent {s : State} (up : Up s) (quiet : s.quiet = false) (pair : s.get F.triad ≠ 2) :
    ¬ (s.pwr.off = true ∨ s.get F.mode = mDormant ∨ s.quiet = true ∨ s.get F.triad = 2) := by
  obtain ⟨on, mode⟩ := up.not_gone
  exact not_or.2 ⟨on, not_or.2 ⟨mode, not_or.2 ⟨by simp [quiet], pair⟩⟩⟩

theorem does_heartbeatSend {k : Fin 10} {s : State} (up : Up s) (quiet : s.quiet = false) (pair : s.get F.triad ≠ 2) (link : s.get F.linkUp ≠ 0)
    (beats : s.wd.hbStopped = false) (heard : s.lcp.mute = false) : Does (.heartbeatSend k true true) s fun t =>
      (∃ h, t.pair.hbOut = s.pair.hbOut ++ [h] ∧ h.beat = s.now ∧ h.mode = s.get F.mode ∧ h.role = s.get F.role ∧
        h.epoch = s.get F.epoch ∧ h.lastBeat = s.get F.lastClosed ∧ h.ready = (s.get F.ready == 1)) ∧
      t = { s with pair := { s.pair with hbOut := t.pair.hbOut, ownStop := 0 } } := by
  have lives : ¬ (s.get F.linkUp = 0 ∨ (!true) = true ∨ (!true) = true ∨ s.wd.hbStopped = true ∨ s.lcp.mute = true) := by
    simp [link, beats, heard]
  exact ⟨_, congrArg Host.Outcome.next ((s.heartbeatSend_eq true true).trans ((if_neg (up.not_silent quiet pair)).trans (if_neg lives))),
    ⟨s.heartbeat, rfl, rfl, rfl, rfl, rfl, rfl, rfl⟩, rfl⟩

theorem does_heartbeatMissed {k : Fin 10} {a b : Bool} {s : State} (up : Up s) (quiet : s.quiet = false) (pair : s.get F.triad ≠ 2)
    (dead : a = false ∨ b = false) : Does (.heartbeatSend k a b) s fun t =>
      t = { s with pair := { s.pair with ownStop := s.pair.ownStop + 1 } } := by
  have stops : s.get F.linkUp = 0 ∨ (!a) = true ∨ (!b) = true ∨ s.wd.hbStopped = true ∨ s.lcp.mute = true := by
    rcases dead with h | h <;> simp [h]
  exact ⟨_, congrArg Host.Outcome.next ((s.heartbeatSend_eq a b).trans ((if_neg (up.not_silent quiet pair)).trans (if_pos stops))), rfl⟩

/-- The loss is told. -/
def State.lossTold (s : State) : State :=
  ({ s with pair := { s.pair with lost := true, missed := 2 } } : State).raise 342 1 2 [(32, s.pair.hbBeat), (16, s.pair.hbOff)]

theorem State.heartbeatLoss_eq (s : State) : s.heartbeatLoss =
    if s.pair.lost ∨ s.pwr.off ∨ s.get F.mode = mDormant then s
    else if s.lossTold.get F.role = rStandby ∨ s.lossTold.get F.role = rShadow then s.lossTold
    else
      let t := (s.lossTold.endCrossovers.runLeaves.partnerGone).put F.pairState 0
      if t.get F.linkUp = 0 then t.linkLoss else t := rfl

/-- The second missed one of a follower's partner (R140). -/
theorem does_heartbeatLost {k : Fin 10} {s : State} (up : Up s) (seen : s.pair.seen = true) (fresh : s.pair.lost = false) (follows : Follows s) :
    Does (.heartbeatLost k) s fun t =>
      Raised [eventOf s 342 1 2 [(32, s.pair.hbBeat), (16, s.pair.hbOff)]] s t ∧ RegsBut [(F.raised, 342)] s t ∧
      t = { s with regs := t.regs, ev := t.ev, pair := { s.pair with lost := true, missed := 2 } } := by
  obtain ⟨on, mode⟩ := up.not_gone
  have counts : ¬ (s.pair.lost = true ∨ s.pwr.off = true ∨ s.get F.mode = mDormant) := not_or.2 ⟨by simp [fresh], not_or.2 ⟨on, mode⟩⟩
  have same : s.lossTold.get F.role = s.get F.role := State.get_raise_apart rfl
  have follows' : s.lossTold.get F.role = rStandby ∨ s.lossTold.get F.role = rShadow := by
    rw [same]
    exact follows
  have runs : s.heartbeatLoss = s.lossTold := by
    rw [State.heartbeatLoss_eq, if_neg counts, if_pos follows']
  exact ⟨_, congrArg Host.Outcome.next ((if_pos seen).trans runs),
    (Writes.upd (ws := []) .refl rfl rfl rfl rfl).raised rfl (by decide) (by simp), .raise (.regs .refl rfl) (by simp), rfl⟩

/-- What a heartbeat tells of the partner. -/
def State.partnerTold (s : State) (h : Heartbeat) : State :=
  let s : State := { s with pair := { s.pair with
    partnerRole := h.role, partnerMode := h.mode, partnerEpoch := h.epoch, partnerTriad := h.triad
    partnerReady := h.ready && h.role == rStandby, partnerKeyStop := h.keyStop
    partnerHandover := h.handover, claimIn := h.role == rActive, hbBeat := s.now, hbOff := s.beat.off, missed := 0 } }
  let s := s.put F.partnerLanes h.lanes
  let u := (s.unit? [1 - s.ownHop]).getD { hops := [1 - s.ownHop], type := 2 }
  (s.putUnit { u with epoch := h.epoch, role := h.role, status := 0 }).partnerLossIn h.lossOfLink

theorem State.heartbeatReceive_eq (s : State) (h : Heartbeat) : s.heartbeatReceive h =
    if s.pwr.off ∨ s.get F.mode = mDormant ∨ s.get F.linkUp = 0 ∨ !s.pair.seen then s
    else
      let t := s.followStep h
      let u := t.partnerTold h
      if u.get F.role = rStandby ∨ u.get F.role = rShadow then
        u.followerHears h (t.pair.partnerRole == rActive) (t.pair.handing || t.pair.partnerHandover || h.handover)
      else if u.get F.role = rActive then { u.activeHears h with pair := { (u.activeHears h).pair with lost := false } }
      else u := rfl

/-- The fields that a heartbeat's news of the partner writes. -/
def toldFields : List Fld := F.partnerLanes :: laneFields

theorem Writes.partnerTold {s : State} {h : Heartbeat} : Writes toldFields s (s.partnerTold h) := by
  unfold State.partnerTold
  refine Writes.trans (t := State.putUnit _ _) ?_ (Writes.partnerLossIn.mono (by decide))
  have heard : Writes toldFields s (State.put { s with pair := { s.pair with
      partnerRole := h.role, partnerMode := h.mode, partnerEpoch := h.epoch, partnerTriad := h.triad
      partnerReady := h.ready && h.role == rStandby, partnerKeyStop := h.keyStop
      partnerHandover := h.handover, claimIn := h.role == rActive, hbBeat := s.now, hbOff := s.beat.off, missed := 0 } }
      F.partnerLanes h.lanes) := .put (.upd .refl rfl rfl rfl rfl) (by decide)
  exact heard.upd rfl rfl rfl rfl

theorem State.partnerTold_pair (s : State) (h : Heartbeat) : (s.partnerTold h).pair = { s.pair with
    partnerRole := h.role, partnerMode := h.mode, partnerEpoch := h.epoch, partnerTriad := h.triad
    partnerReady := h.ready && h.role == rStandby, partnerKeyStop := h.keyStop
    partnerHandover := h.handover, claimIn := h.role == rActive, hbBeat := s.now, hbOff := s.beat.off, missed := 0
    partnerLoss := h.lossOfLink } := by
  unfold State.partnerTold
  rw [State.partnerLossIn_pair]
  rfl

theorem State.partnerState_lt (s : State) (h : Heartbeat) : s.partnerState h < 8 := by
  unfold State.partnerState
  split_ifs <;> decide

theorem State.partnerState_of {s t : State} (same : t.get F.lastClosed = s.get F.lastClosed) (h : Heartbeat) :
    t.partnerState h = s.partnerState h := by
  unfold State.partnerState
  rw [same]

theorem Writes.runLeaves {s : State} : Writes [F.shState] s s.runLeaves :=
  .ite (fun _ => .refl) fun _ => .ite (fun _ => .put (.upd .refl rfl rfl rfl rfl) (by decide)) fun _ => .upd .refl rfl rfl rfl rfl

theorem State.runLeaves_pair (s : State) : ∃ a, s.runLeaves.pair = { s.pair with shadowAt := a } := by
  unfold State.runLeaves
  dsimp only
  split
  · exact ⟨s.pair.shadowAt, rfl⟩
  · split <;> exact ⟨none, rfl⟩

theorem Writes.wrapKey {ws : List Fld} {s : State} (hf : F.raised ∈ ws) : Writes ws s s.wrapKey :=
  .ite (fun _ => .raise (.upd .refl rfl rfl rfl rfl) hf) fun _ => .refl

/-- The partner's place in the pair, and the runs that leave with it. -/
def State.partnerPlaced (s : State) (h : Heartbeat) : State :=
  let s := s.put F.pairState (s.partnerState h)
  s.putFlag F.resyncing (s.get F.pairState == 2)

/-- Runs and crossovers that the partner's state ends. -/
def State.partnerEnds (s : State) (h : Heartbeat) : State :=
  let s := if h.role ≠ rShadow ∧ s.get F.shStartBeat + 1 < s.now then s.runLeaves else s
  if h.mode = mStart ∨ h.mode = mSafe ∨ h.mode = mDormant then s.endCrossovers else s

theorem State.activeHears_eq (s : State) (h : Heartbeat) : s.activeHears h =
    let t := (s.partnerPlaced h).partnerEnds h
    ({ t with pair := { t.pair with dropPartner := t.pair.dropPartner && (h.ready || h.role == rShadow) } } : State).wrapKey := rfl

theorem Writes.partnerEnds {s : State} {h : Heartbeat} : Writes (F.shState :: laneFields) s (s.partnerEnds h) := by
  have leaves : Writes (F.shState :: laneFields) s (if h.role ≠ rShadow ∧ s.get F.shStartBeat + 1 < s.now then s.runLeaves else s) :=
    .ite (fun _ => Writes.runLeaves.mono (by decide)) fun _ => .refl
  exact .ite (fun _ => leaves.trans (Writes.endCrossovers.mono (by decide))) fun _ => leaves

theorem State.partnerEnds_pair (s : State) (h : Heartbeat) : ∃ a, (s.partnerEnds h).pair = { s.pair with shadowAt := a } := by
  have leaves : ∃ a, (if h.role ≠ rShadow ∧ s.get F.shStartBeat + 1 < s.now then s.runLeaves else s).pair = { s.pair with shadowAt := a } := by
    split
    · exact s.runLeaves_pair
    · exact ⟨s.pair.shadowAt, rfl⟩
  obtain ⟨a, pair⟩ := leaves
  refine ⟨a, ?_⟩
  unfold State.partnerEnds
  dsimp only
  split
  · exact (State.endCrossovers_touches.pair_eq rfl).trans pair
  · exact pair

/-- What an ACTIVE takes of a heartbeat. -/
theorem State.activeHears_spec (s : State) (h : Heartbeat) : (s.activeHears h).get F.pairState = s.partnerState h ∧
    (s.activeHears h).get F.role = s.get F.role ∧
    ∃ a d, (s.activeHears h).pair = { s.pair with shadowAt := a, dropPartner := d } := by
  have placed : Writes [F.pairState, F.resyncing] s (s.partnerPlaced h) := .putFlag (.put .refl (by decide)) (by decide)
  have state : (s.partnerPlaced h).get F.pairState = s.partnerState h :=
    (State.get_put_apart rfl).trans (State.get_put_fits (Nat.lt_of_lt_of_le (s.partnerState_lt h) (by decide)))
  have pair : (s.partnerPlaced h).pair = s.pair := rfl
  rw [State.activeHears_eq]
  generalize s.partnerPlaced h = t at *
  have ends : Writes (F.shState :: laneFields) t (t.partnerEnds h) := .partnerEnds
  obtain ⟨a, pair'⟩ := t.partnerEnds_pair h
  generalize t.partnerEnds h = u at *
  dsimp only
  generalize hv : ({ u with pair := { u.pair with dropPartner := u.pair.dropPartner && (h.ready || h.role == rShadow) } } : State) = v
  have ends' : Writes (F.shState :: laneFields) t v := hv ▸ ends.upd rfl rfl rfl rfl
  have wraps : Writes [F.raised] v v.wrapKey := .wrapKey (by decide)
  refine ⟨(wraps.get rfl).trans ((ends'.get rfl).trans state), (wraps.get rfl).trans ((ends'.get rfl).trans (placed.get rfl)),
    a, u.pair.dropPartner && (h.ready || h.role == rShadow), ?_⟩
  rw [State.wrapKey_touches.pair_eq rfl, ← hv]
  dsimp only
  rw [pair', pair]

theorem Up.not_deaf {s : State} (up : Up s) (link : s.get F.linkUp ≠ 0) (seen : s.pair.seen = true) :
    ¬ (s.pwr.off = true ∨ s.get F.mode = mDormant ∨ s.get F.linkUp = 0 ∨ (!s.pair.seen) = true) := by
  obtain ⟨on, mode⟩ := up.not_gone
  exact not_or.2 ⟨on, not_or.2 ⟨mode, not_or.2 ⟨link, by simp [seen]⟩⟩⟩

/-- A heartbeat tells an ACTIVE of its partner (R140). -/
theorem does_heartbeatActive {h : Heartbeat} {s : State} (up : Up s) (link : s.get F.linkUp ≠ 0) (seen : s.pair.seen = true)
    (active : s.get F.role = 2) : Does (.heartbeatReceive h) s fun t =>
      t.pair.partnerRole = h.role ∧ t.pair.partnerMode = h.mode ∧ t.pair.partnerEpoch = h.epoch ∧
      t.pair.partnerReady = (h.ready && h.role == rStandby) ∧ t.pair.missed = 0 ∧ t.pair.lost = false ∧
      t.get F.pairState = s.partnerState h ∧ t.get F.role = 2 ∧ t.mem = s.mem := by
  have mem : (s.heartbeatReceive h).mem = s.mem := State.heartbeatReceive_touches.mem_eq rfl
  refine ⟨_, rfl, ?_⟩
  rw [State.heartbeatReceive_eq, if_neg (up.not_deaf link seen)] at mem ⊢
  have stands : s.followStep h = s := if_pos (.inl (by rw [active]; rfl))
  rw [stands] at mem ⊢
  dsimp only at mem ⊢
  have told : Writes toldFields s (s.partnerTold h) := .partnerTold
  have pair := s.partnerTold_pair h
  have same : (s.partnerTold h).partnerState h = s.partnerState h := State.partnerState_of (told.get rfl) h
  have role : (s.partnerTold h).get F.role = 2 := (told.get rfl).trans active
  generalize s.partnerTold h = u at *
  rw [if_neg (by rw [role]; decide), if_pos role] at mem ⊢
  obtain ⟨state, role', a, d, pair'⟩ := u.activeHears_spec h
  generalize u.activeHears h = v at *
  dsimp only at mem ⊢
  rw [pair', pair]
  exact ⟨rfl, rfl, rfl, rfl, rfl, rfl, state.trans same, role'.trans role, mem⟩

/-- A STANDBY that drops out is SYNCING. -/
theorem State.dropSync_syncing {s : State} (standby : s.get F.role = 3) : s.dropSync.get F.pairState = 2 ∧
    s.dropSync.pair = { s.pair with current := false, rx := [], images := [] } := by
  rw [State.dropSync_eq standby]
  refine ⟨(Writes.setMode.get rfl).trans ((State.get_put_apart rfl).trans (State.get_put_self ..)), ?_⟩
  rw [State.setMode_touches.eq_takes]
  rfl

/-- The fields of a taken timebase (R31). -/
def servoFields : List Fld := [F.rate, F.holdoverBound, F.holdoverTime, F.stepPending, F.timeLocked] ++ alignFields

/-- The timebase taken, before ALIGN. -/
def State.servoNoted (s : State) (v : Servo) : State :=
  let s := ((s.put F.rate v.rate).put F.holdoverBound v.bound).put F.holdoverTime v.since
  { s with beat := { s.beat with stepOffset := v.offset } }

/-- And the grandmaster behind it. -/
def State.servoTimed (s : State) (v : Servo) : State :=
  (s.onTime (fun t => { t with lastSync := s.beat.opBeats - 4 * v.since, servoGm := v.gm })).putFlag F.stepPending v.stepPending

theorem State.takeServo_eq (s : State) (v : Servo) : s.takeServo v =
    (((s.servoNoted v).servoTimed v).setAlign v.align).putFlag F.timeLocked (v.align == 2 || (v.align == 3 && decide (v.bound ≤ 1000))) := rfl

theorem Writes.servoNoted {s : State} {v : Servo} : Writes servoFields s (s.servoNoted v) := by
  have put : Writes servoFields s (((s.put F.rate v.rate).put F.holdoverBound v.bound).put F.holdoverTime v.since) :=
    .put (.put (.put .refl (by decide)) (by decide)) (by decide)
  exact put.upd rfl rfl rfl rfl

theorem Writes.servoTimed {s : State} {v : Servo} : Writes servoFields s (s.servoTimed v) := .putFlag (.onTime .refl) (by decide)

theorem Writes.takeServo {s : State} {v : Servo} : Writes servoFields s (s.takeServo v) := by
  rw [State.takeServo_eq]
  exact .putFlag (Writes.servoNoted.trans (Writes.servoTimed.trans (Writes.setAlign.mono (by decide)))) (by decide)

theorem Writes.followStep {s : State} {h : Heartbeat} : Writes [F.beatIndex, F.raised] s (s.followStep h) :=
  .ite (fun _ => .refl) fun _ => .raise (.upd (.put .refl (by decide)) rfl rfl rfl rfl) (by decide)

theorem State.followerHears_eq (s : State) (h : Heartbeat) (was way : Bool) : s.followerHears h was way =
    if was ∧ (h.mode = mStart ∨ h.mode = mSafe ∨ (!way ∧ h.role ≠ rActive)) then s.heartbeatLoss
    else if h.role ≠ rActive then s
    else if (s.takeActive h.servo).get F.role = rShadow then
      (if h.resync ∨ h.mode ≠ mRun then (s.takeActive h.servo).endsShadow else s.takeActive h.servo)
    else if h.resync ∧ (s.takeActive h.servo).pair.current then (s.takeActive h.servo).dropSync else s.takeActive h.servo := rfl

theorem State.takeActive_eq (s : State) (v : Servo) : s.takeActive v =
    { s.takeServo v with units := { (s.takeServo v).units with noActive := false } } := rfl

theorem Writes.takeActive {s : State} {v : Servo} : Writes servoFields s (s.takeActive v) := by
  have taken : Writes servoFields s (s.takeServo v) := .takeServo
  rw [State.takeActive_eq]
  generalize s.takeServo v = u at taken ⊢
  exact taken.upd rfl rfl rfl rfl

/-- An ACTIVE has its STANDBY synchronise anew (R74). -/
theorem does_heartbeatResync {h : Heartbeat} {s : State} (up : Up s) (link : s.get F.linkUp ≠ 0) (seen : s.pair.seen = true)
    (standby : s.get F.role = 3) (active : h.role = 2) (runs : h.mode = 3) (anew : h.resync = true) (current : s.pair.current = true) :
    Does (.heartbeatReceive h) s fun t =>
      t.pair.partnerRole = 2 ∧ t.pair.missed = 0 ∧ t.pair.current = false ∧ t.get F.pairState = 2 ∧ t.mem = s.mem := by
  have mem : (s.heartbeatReceive h).mem = s.mem := State.heartbeatReceive_touches.mem_eq rfl
  refine ⟨_, rfl, ?_⟩
  rw [State.heartbeatReceive_eq, if_neg (up.not_deaf link seen)] at mem ⊢
  dsimp only at mem ⊢
  have stepped : Writes [F.beatIndex, F.raised] s (s.followStep h) := .followStep
  have pair₀ : (s.followStep h).pair = s.pair := State.followStep_touches.pair_eq rfl
  generalize s.followStep h = t at *
  have told : Writes toldFields t (t.partnerTold h) := .partnerTold
  have pair := t.partnerTold_pair h
  generalize t.partnerTold h = u at *
  have role : u.get F.role = 3 := (told.get rfl).trans ((stepped.get rfl).trans standby)
  rw [if_pos (.inl role)] at mem ⊢
  generalize (t.pair.partnerRole == rActive) = was at *
  generalize (t.pair.handing || t.pair.partnerHandover || h.handover) = way at *
  have served : Writes servoFields u (u.takeActive h.servo) := .takeActive
  have pair' : (u.takeActive h.servo).pair = u.pair := State.takeActive_touches.pair_eq rfl
  have role' : (u.takeActive h.servo).get F.role = 3 := (served.get rfl).trans role
  have hears : u.followerHears h was way = (u.takeActive h.servo).dropSync := by
    have stays : ¬ (was = true ∧ (h.mode = mStart ∨ h.mode = mSafe ∨ (!way) = true ∧ h.role ≠ rActive)) := by
      rw [runs, active]
      simp
    have standing : (u.takeActive h.servo).pair.current = true := by
      rw [pair', pair, pair₀]
      exact current
    rw [State.followerHears_eq, if_neg stays, if_neg (by rw [active]; simp), if_neg (by rw [role']; decide), if_pos ⟨anew, standing⟩]
  rw [hears] at mem ⊢
  obtain ⟨state, dropped⟩ := State.dropSync_syncing role'
  rw [dropped, pair', pair]
  exact ⟨active, rfl, rfl, state, mem⟩

/-! The module's own stop (R148). -/

/-- A channel off, with what it shows. -/
def State.dioOff (s : State) (k : Nat) : State := ((s.putDio { s.dio k with on := false }).put F.dioOpenWire 0 k).put F.dioExtDrive 0 k

/-- An analog port off, with what it shows. -/
def State.aoOff (s : State) (k : Nat) : State := (s.putAo { s.ao k with target := none }).put F.aoFailing 0 k

theorem State.fieldOff_eq (s : State) : s.fieldOff =
    (List.range 4).foldl State.aoOff ((List.range 16).foldl State.dioOff s) := rfl

theorem State.dio_k (s : State) (k : Nat) : (s.dio k).k = k := by
  unfold State.dio
  cases found : s.field.dios.find? (fun d => d.k == k) with
  | none => rfl
  | some d => simpa using List.find?_some found

theorem State.dio_off_self (s : State) (k : Nat) : (s.dioOff k).dio k = { s.dio k with on := false } := by
  have same : (s.dioOff k).dio k = (s.putDio { s.dio k with on := false }).dio k := rfl
  have key : ({ s.dio k with on := false } : DioRt).k = k := s.dio_k k
  rw [same]
  generalize ({ s.dio k with on := false } : DioRt) = d at key ⊢
  rw [State.dio, State.putDio, ← key, find_replaced_self DioRt.k, Option.getD_some]

theorem State.dio_off_other (s : State) {k j : Nat} (h : j ≠ k) : (s.dioOff k).dio j = s.dio j := by
  have same : (s.dioOff k).dio j = (s.putDio { s.dio k with on := false }).dio j := rfl
  have key : ({ s.dio k with on := false } : DioRt).k = k := s.dio_k k
  rw [same]
  generalize ({ s.dio k with on := false } : DioRt) = d at key ⊢
  rw [State.dio, State.putDio, find_replaced_other DioRt.k (by rw [key]; exact h), ← State.dio]

theorem State.ao_off_self (s : State) (k : Nat) : (s.aoOff k).ao k = { s.ao k with target := none } :=
  (show (s.aoOff k).ao k = (s.putAo { s.ao k with target := none }).ao k from rfl).trans (State.ao_put_self (s.ao_k k))

theorem State.ao_off_other (s : State) {k j : Nat} (h : j ≠ k) : (s.aoOff k).ao j = s.ao j := by
  have same : (s.aoOff k).ao j = (s.putAo { s.ao k with target := none }).ao j := rfl
  have key : ({ s.ao k with target := none } : AoRt).k = k := s.ao_k k
  rw [same]
  generalize ({ s.ao k with target := none } : AoRt) = a at key ⊢
  rw [State.ao, State.putAo, find_replaced_other AoRt.k (by rw [key]; exact h), ← State.ao]

/-- Every channel of the list is off. -/
theorem State.dios_off (l : List Nat) (s : State) {j : Nat} (h : j ∈ l ∨ (s.dio j).on = false) : ((l.foldl State.dioOff s).dio j).on = false := by
  induction l generalizing s with
  | nil => exact h.resolve_left (by simp)
  | cons k l ih =>
    refine ih _ ?_
    by_cases same : j = k
    · rw [same, State.dio_off_self]
      exact .inr rfl
    · rw [State.dio_off_other _ same]
      exact h.imp_left fun there => (List.mem_cons.1 there).resolve_left same

/-- Every analog port of the list is off. -/
theorem State.aos_off (l : List Nat) (s : State) {j : Nat} (h : j ∈ l ∨ (s.ao j).target = none) : ((l.foldl State.aoOff s).ao j).target = none := by
  induction l generalizing s with
  | nil => exact h.resolve_left (by simp)
  | cons k l ih =>
    refine ih _ ?_
    by_cases same : j = k
    · rw [same, State.ao_off_self]
      exact .inr rfl
    · rw [State.ao_off_other _ same]
      exact h.imp_left fun there => (List.mem_cons.1 there).resolve_left same

theorem State.aos_off_dio (l : List Nat) (s : State) (j : Nat) : (l.foldl State.aoOff s).dio j = s.dio j := by
  induction l generalizing s with
  | nil => rfl
  | cons k l ih => exact (ih _).trans rfl

theorem State.fieldOff_off (s : State) : (∀ k < 4, (s.fieldOff.ao k).target = none) ∧ ∀ k < 16, (s.fieldOff.dio k).on = false := by
  rw [State.fieldOff_eq]
  refine ⟨fun k low => State.aos_off _ _ (.inl (List.mem_range.2 low)), fun k low => ?_⟩
  rw [State.aos_off_dio]
  exact State.dios_off _ _ (.inl (List.mem_range.2 low))

theorem State.fieldOff_parts (s : State) : s.fieldOff = { s with regs := s.fieldOff.regs, field := s.fieldOff.field } :=
  State.fieldOff_touches.eq_takes

/-- The registers that show it. -/
def offRegs : List (Fld × Nat) := (List.range 4).map (fun k => (F.aoFailing, k)) ++
  (List.range 16).map (fun k => (F.dioOpenWire, k)) ++ (List.range 16).map (fun k => (F.dioExtDrive, k))

theorem RegsBut.dioOff {l : List (Fld × Nat)} {s t : State} {k : Nat} (h : RegsBut l s t) (wire : (F.dioOpenWire, k) ∈ l)
    (drive : (F.dioExtDrive, k) ∈ l) : RegsBut l s (t.dioOff k) := .put (.put (h.regs rfl) wire) drive

theorem RegsBut.aoOff {l : List (Fld × Nat)} {s t : State} {k : Nat} (h : RegsBut l s t) (named : (F.aoFailing, k) ∈ l) :
    RegsBut l s (t.aoOff k) := .put (h.regs rfl) named

/-- A fold over channels whose registers are all named. -/
theorem RegsBut.foldl_mem {l : List (Fld × Nat)} {s t : State} {f : State → Nat → State} {ks : List Nat} (h : RegsBut l s t)
    (hf : ∀ u k, k ∈ ks → RegsBut l s u → RegsBut l s (f u k)) : RegsBut l s (ks.foldl f t) := by
  induction ks generalizing t with
  | nil => exact h
  | cons k ks ih =>
    exact ih (hf _ _ (List.mem_cons_self ..) h) fun u j there => hf u j (List.mem_cons_of_mem _ there)

theorem RegsBut.fieldOff {l : List (Fld × Nat)} {s t : State} (h : RegsBut l s t) (named : ∀ p ∈ offRegs, p ∈ l) :
    RegsBut l s t.fieldOff := by
  rw [State.fieldOff_eq]
  refine .foldl_mem (.foldl_mem h fun u k there v => v.dioOff (named _ ?_) (named _ ?_)) fun u k there v => v.aoOff (named _ ?_)
  · exact List.mem_append_left _ (List.mem_append_right _ (List.mem_map_of_mem there))
  · exact List.mem_append_right _ (List.mem_map_of_mem there)
  · exact List.mem_append_left _ (List.mem_append_left _ (List.mem_map_of_mem there))

/-- The module's heartbeats are stopped, before its drive follows. -/
def State.heartStopped (s : State) : State := { s with wd := { s.wd with hbStopped := true } }

theorem State.stopsHeart_eq (s : State) : s.stopsHeart = s.heartStopped.refreshDrive.fieldOff := rfl

/-- Nothing is claimed or driven. -/
theorem State.heartStopped_drive (s : State) : s.heartStopped.refreshDrive = ((s.heartStopped.putFlag F.claim false).putFlag F.driveEn false) := by
  have off : (drives (s.heartStopped.get F.mode) (s.heartStopped.get F.role) && !s.heartStopped.wd.hbStopped) = false := Bool.and_false _
  unfold State.refreshDrive
  rw [off]
  rfl

/-- Claim and drive are released, and nothing is driven. -/
theorem does_ownHeartbeatStop {s : State} : Does .ownHeartbeatStop s fun t =>
    t.wd.hbStopped = true ∧ t.get F.claim = 0 ∧ t.get F.driveEn = 0 ∧
    RegsBut ([(F.claim, 0), (F.driveEn, 0)] ++ (List.range 4).map (fun k => (F.aoFailing, k)) ++
      (List.range 16).map (fun k => (F.dioOpenWire, k)) ++ (List.range 16).map (fun k => (F.dioExtDrive, k))) s t ∧
    (∀ k < 4, (t.ao k).target = none) ∧ (∀ k < 16, (t.dio k).on = false) ∧
    t = { s with regs := t.regs, field := t.field, wd := { s.wd with hbStopped := true } } := by
  refine ⟨_, congrArg Host.Outcome.next s.stopsHeart_eq, ?_⟩
  rw [State.heartStopped_drive]
  have claim : ((s.heartStopped.putFlag F.claim false).putFlag F.driveEn false).get F.claim = 0 :=
    (State.get_put_apart rfl).trans (State.get_put_self ..)
  have drive : ((s.heartStopped.putFlag F.claim false).putFlag F.driveEn false).get F.driveEn = 0 := State.get_put_self ..
  have regs : RegsBut ([(F.claim, 0), (F.driveEn, 0)] ++ (List.range 4).map (fun k => (F.aoFailing, k)) ++
      (List.range 16).map (fun k => (F.dioOpenWire, k)) ++ (List.range 16).map (fun k => (F.dioExtDrive, k))) s
      ((s.heartStopped.putFlag F.claim false).putFlag F.driveEn false) :=
    .put (.put (.regs .refl rfl) (by simp)) (by simp)
  have parts : (s.heartStopped.putFlag F.claim false).putFlag F.driveEn false = { s with
      regs := ((s.heartStopped.putFlag F.claim false).putFlag F.driveEn false).regs, wd := { s.wd with hbStopped := true } } := rfl
  generalize (s.heartStopped.putFlag F.claim false).putFlag F.driveEn false = u at *
  obtain ⟨ao, dio⟩ := u.fieldOff_off
  have wd : u.fieldOff.wd = { s.wd with hbStopped := true } := (State.fieldOff_touches.wd_eq rfl).trans (by rw [parts])
  refine ⟨by rw [wd], (Writes.fieldOff.get rfl).trans claim, (Writes.fieldOff.get rfl).trans drive, regs.fieldOff fun p there => ?_, ao, dio, ?_⟩
  · rw [List.append_assoc, List.append_assoc]
    exact List.mem_append_right _ (by rwa [← List.append_assoc])
  · have field := u.fieldOff_parts
    generalize u.fieldOff = v at *
    refine field.trans ?_
    rw [parts]

/-- Settles O31, by the link's changes, the heartbeats sent, heard and missed, and the module's own stop. -/
theorem heartbeatsAndThePairLink : Obligations.HeartbeatsAndThePairLink := by
  unfold Obligations.HeartbeatsAndThePairLink
  refine ⟨fun n s up lanes new pair kept apart => does_pairLinkUp up lanes new pair kept apart, fun k s both => does_pairLinkDegraded both,
    fun k s up quiet pair link beats heard => does_heartbeatSend up quiet pair link beats heard,
    fun k a b s up quiet pair dead => does_heartbeatMissed up quiet pair dead, fun n s split => ?_, fun k a b s split => ?_,
    fun h s up link seen active => does_heartbeatActive up link seen active,
    fun h s up link seen standby active runs anew current => does_heartbeatResync up link seen standby active runs anew current,
    fun k s up seen fresh follows => does_heartbeatLost up seen fresh follows, fun k s unseen => ?_, fun s => does_ownHeartbeatStop⟩
  case refine_1 =>
    exact ⟨s, congrArg Host.Outcome.next (if_pos (.inr (.inr (.inr (.inr split))))), rfl⟩
  case refine_2 =>
    exact ⟨s, congrArg Host.Outcome.next (if_pos (.inr (.inr (.inr split)))), rfl⟩
  case refine_3 =>
    exact ⟨s, congrArg Host.Outcome.next (if_neg (by simp [unseen])), rfl⟩

end Sys2Proof.Machine

namespace Sys2Proof.Machine

open Sys2Proof

/-! What a STANDBY takes (R141 to R144). -/

/-- A mode change drops transfers at most of what the sessions hold. -/
theorem State.setMode_lcp (s : State) (m r d c k e : Nat) : ∃ x, (s.setMode m r d c k e).lcp = { s.lcp with transfers := x } := by
  have journaled : ∀ (u : State) a b c d f, (u.journal a b c d f).lcp = u.lcp := fun u a b c d f => State.journal_touches.lcp_eq rfl
  have own : ∀ u : State, ∃ x, (u.bumpOwn e).lcp = { u.lcp with transfers := x } := fun u => ⟨_, (journaled ..).trans rfl⟩
  have pair : ∀ u : State, ∃ x, (u.bumpPair 8).lcp = { u.lcp with transfers := x } := fun u => ⟨_, (journaled ..).trans rfl⟩
  have role : ∀ u : State, ∃ x, (u.roleMoves (s.get F.role) r e).lcp = { u.lcp with transfers := x } := fun u => by
    unfold State.roleMoves
    split
    · exact ⟨u.lcp.transfers, rfl⟩
    · exact own _
  have leads : ∀ u : State, ∃ x, (u.pairLeads r).lcp = { u.lcp with transfers := x } := fun u => by
    unfold State.pairLeads
    split
    · exact pair _
    · exact ⟨u.lcp.transfers, rfl⟩
  have units : ∀ u : State, ((u.actorNoted r).actorMissed (s.get F.role) r).refreshDrive.lcp = u.lcp := fun u =>
    (show _ = (u.actorNoted r).lcp by
      unfold State.actorMissed
      split <;> rfl).trans (by
      unfold State.actorNoted
      split <;> rfl)
  rw [State.setMode_eq]
  split
  · exact ⟨s.lcp.transfers, rfl⟩
  · obtain ⟨x, hx⟩ := role (s.modePut m r d c)
    obtain ⟨y, hy⟩ := leads ((s.modePut m r d c).roleMoves (s.get F.role) r e)
    refine ⟨y, (units _).trans (hy.trans ?_)⟩
    rw [hx]
    rfl

theorem regGet_takeStatus {key : Nat} (off : isStatus key = false) (l : List (Nat × Nat)) (c : Nat × Nat) (d : Nat) :
    regGet (takeStatus l c) key d = regGet l key d := by
  unfold takeStatus
  split
  · next f found =>
    refine regGet_regPut_ne (fun same => ?_) l _ d
    have own : isStatus c.1 = true := List.any_eq_true.2 ⟨f, List.mem_of_find?_eq_some found, by simpa using List.find?_some found⟩
    rw [same] at off
    exact Bool.false_ne_true (off.symm.trans own)
  · rfl

/-- Status that was tracked leaves the other registers. -/
theorem State.get_takeStatuses {s : State} {l : List (Nat × Nat)} {g : Fld} {k : Nat} (off : isStatus (fldKey g k) = false) :
    (s.takeStatuses l).get g k = s.get g k := by
  have folded : ∀ (l m : List (Nat × Nat)), regGet (l.foldl takeStatus m) (fldKey g k) g.dflt = regGet m (fldKey g k) g.dflt := fun l => by
    induction l with
    | nil => exact fun m => rfl
    | cons c l ih => exact fun m => (ih _).trans (regGet_takeStatus off m c _)
  exact (folded l _).trans (regGet_filter (by simp [off]) _ _)

/-- The tracked state, before the runtime's status. -/
def State.trackedTaken (s : State) (t : Tracked) : State :=
  let confirmed : Bool := s.get F.changePending == 1 && !t.changePending
  let rt := t.published.foldl (fun (rt : RtSt) w => rt.setValue w.1 w.2) s.rt
  { s with
    regs := t.config.foldl takeConfig s.regs
    rt := { rt with
      published := t.published, work := t.work, forces := t.forces, overlay := t.overlay
      runQ := t.runQ, seen := t.seen, spills := t.spills, late := t.late, unpublished := t.unpublished, withheld := t.withheld
      errQ := t.errQ, lastGood := t.lastGood, staged := t.staged
      revertArea := if confirmed then none else s.rt.revertArea
      resume := if confirmed then none else s.rt.resume }
    lcp := { s.lcp with owners := t.owners }
    units := { s.units with keyMade := s.units.keyMade || t.pairKey }
    loops := { s.loops.track t.loops t.coeffs with seen := t.loopSeen, selected := t.groupsRun }
    pair := { s.pair with cmds := t.cmds, sessions := t.sessions } }

/-- The shared Journal records enter this Journal. -/
def State.recordsTaken (s : State) (t : Tracked) : State := t.records.foldl (fun (s : State) r => s.takeRecord r) s

/-- The registers and epochs that follow. -/
def State.trackedShown (s : State) (t : Tracked) : State :=
  ((((s.put F.programGen t.gen).putFlag F.changePending t.changePending).put F.ownedHandles t.owners.length).takeEpochs t.epochs).showRuntime

theorem State.applyTracked_eq (s : State) (t : Tracked) : s.applyTracked t =
    (((s.trackedTaken t).takeStatuses t.status).recordsTaken t).trackedShown t := rfl

/-- The fields that the runtime shows. -/
def runtimeFields : List Fld := [F.program, F.forcedAny, F.forceCount, F.spilling, F.substituted, F.stepping, F.overlayCount]

theorem Writes.showRuntime {s : State} : Writes runtimeFields s s.showRuntime := by
  unfold State.showRuntime
  exact .put (.putFlag (.putFlag (.putFlag (.put (.putFlag (.putFlag .refl (by decide)) (by decide)) (by decide)) (by decide)) (by decide))
    (by decide)) (by decide)

theorem Writes.journalNew {ws : List Fld} {s : State} {a k l p : Nat} {b : Bool} (hf : F.raised ∈ ws) :
    Writes ws s (s.journalNew a k l p b) := by
  unfold State.journalNew
  split
  · exact .ite (fun _ => .refl) fun _ => .journal .refl hf
  · exact .ite (fun _ => .refl) fun _ => .journal .refl hf

theorem Writes.recordsTaken {s : State} {t : Tracked} : Writes [F.raised] s (s.recordsTaken t) :=
  .foldl .refl fun _ _ => .journalNew (by decide)

theorem State.takeEpochs_parts (s : State) (l : List (List Nat × Nat)) : s.takeEpochs l = { s with units := (s.takeEpochs l).units } :=
  State.takeEpochs_touches.eq_takes

theorem Writes.takeEpochs {ws : List Fld} {s : State} {l : List (List Nat × Nat)} : Writes ws s (s.takeEpochs l) := by
  rw [State.takeEpochs_parts]
  exact .upd .refl rfl rfl rfl rfl

/-- The fields of a taken state. -/
def trackedFields : List Fld := [F.programGen, F.changePending, F.ownedHandles] ++ runtimeFields

theorem Writes.trackedShown {s : State} {t : Tracked} : Writes trackedFields s (s.trackedShown t) :=
  (Writes.put (.putFlag (.put .refl (by decide)) (by decide)) (by decide)).trans (Writes.takeEpochs.trans (Writes.showRuntime.mono (by decide)))

/-- The generation shown is that tracked. -/
theorem State.trackedShown_gen (s : State) (t : Tracked) : (s.trackedShown t).get F.programGen = t.gen % 2 ^ 32 :=
  (Writes.showRuntime.get rfl).trans ((Writes.takeEpochs (ws := []).get rfl).trans ((State.get_put_apart rfl).trans ((State.get_put_apart rfl).trans
    (State.get_put_self ..))))

theorem State.recordsTaken_touches (s : State) (t : Tracked) : Touches { regs := true, ev := true, jr := true } s (s.recordsTaken t) :=
  .foldl (.refl _) fun _ _ => State.takeRecord_touches

theorem State.trackedShown_touches (s : State) (t : Tracked) : Touches { regs := true, units := true } s (s.trackedShown t) :=
  (show Touches { regs := true, units := true } s (((s.put F.programGen t.gen).putFlag F.changePending t.changePending).put F.ownedHandles
    t.owners.length) from rfl).comp ((State.takeEpochs_touches.mono rfl).comp (State.showRuntime_touches.mono rfl))

/-- The state that a STANDBY has taken. -/
theorem State.applyTracked_spec {s : State} {t : Tracked} (plain : t.config = []) :
    (s.applyTracked t).get F.programGen = t.gen % 2 ^ 32 ∧ (s.applyTracked t).get F.lastClosed = s.get F.lastClosed ∧
    (s.applyTracked t).rt = (s.trackedTaken t).rt ∧ (s.applyTracked t).lcp = { s.lcp with owners := t.owners } ∧
    (s.applyTracked t).pair = { s.pair with cmds := t.cmds, sessions := t.sessions } := by
  rw [State.applyTracked_eq]
  have closed : ((s.trackedTaken t).takeStatuses t.status).get F.lastClosed = s.get F.lastClosed := by
    rw [State.get_takeStatuses (by decide)]
    refine State.get_of_regs ?_ _ _
    unfold State.trackedTaken
    rw [plain]
    rfl
  have rt : ((s.trackedTaken t).takeStatuses t.status).rt = (s.trackedTaken t).rt := rfl
  have lcp : ((s.trackedTaken t).takeStatuses t.status).lcp = { s.lcp with owners := t.owners } := rfl
  have pair : ((s.trackedTaken t).takeStatuses t.status).pair = { s.pair with cmds := t.cmds, sessions := t.sessions } := rfl
  generalize (s.trackedTaken t).takeStatuses t.status = u at *
  have records : Writes [F.raised] u (u.recordsTaken t) := .recordsTaken
  have touched := u.recordsTaken_touches t
  generalize u.recordsTaken t = v at *
  have shown : Writes trackedFields v (v.trackedShown t) := .trackedShown
  have touched' := v.trackedShown_touches t
  exact ⟨v.trackedShown_gen t, (shown.get rfl).trans ((records.get rfl).trans closed), (touched'.rt_eq rfl).trans ((touched.rt_eq rfl).trans rt),
    (touched'.lcp_eq rfl).trans ((touched.lcp_eq rfl).trans lcp), (touched'.pair_eq rfl).trans ((touched.pair_eq rfl).trans pair)⟩

theorem Writes.followMode {s : State} {m : Nat} : Writes modeFields s (s.followMode m) :=
  .ite (fun _ => .refl) fun _ => .setMode

theorem State.peak_parts (s : State) (f : Fld) (v : Nat) : s.peak f v = { s with regs := (s.peak f v).regs } := by
  unfold State.peak
  split <;> rfl

/-- A snapshot that starts, with no line dirty. -/
def State.snapshotStarts (s : State) : State :=
  { s.peak F.dirtyPeak (s.rt.bytesOfIdx s.rt.dirty) with rt := { (s.peak F.dirtyPeak (s.rt.bytesOfIdx s.rt.dirty)).rt with dirty := [] } }

theorem State.takeSnapshot_eq (s : State) (n : Nat) : s.takeSnapshot n =
    match s.snapshotStarts.rt.mirror with
    | some _ => (s.snapshotStarts.inc F.retainLateCount).raise 456 1 1 [(32, n)]
    | none => { s.snapshotStarts with rt := { s.snapshotStarts.rt with
        mirror := some (s.snapshotStarts.snapshotAt n)
        dirtyA := if s.snapshotStarts.rt.mirrorB then s.snapshotStarts.rt.dirtyA else []
        dirtyB := if s.snapshotStarts.rt.mirrorB then [] else s.snapshotStarts.rt.dirtyB } } := rfl

theorem State.snapshotStarts_rt (s : State) : s.snapshotStarts.rt = { s.rt with dirty := [] } := by
  unfold State.snapshotStarts
  rw [State.peak_parts]

/-- The fields of a snapshot. -/
def snapshotFields : List Fld := [F.dirtyPeak, F.retainLateCount, F.raised]

theorem Writes.snapshotStarts {s : State} : Writes snapshotFields s s.snapshotStarts := by
  have peaked : Writes snapshotFields s (s.peak F.dirtyPeak (s.rt.bytesOfIdx s.rt.dirty)) := .peak .refl (by decide)
  exact peaked.upd rfl rfl rfl rfl

theorem Writes.takeSnapshot {s : State} {n : Nat} : Writes snapshotFields s (s.takeSnapshot n) := by
  have starts : Writes snapshotFields s s.snapshotStarts := .snapshotStarts
  rw [State.takeSnapshot_eq]
  generalize s.snapshotStarts = u at starts ⊢
  cases u.rt.mirror
  case none => exact starts.upd rfl rfl rfl rfl
  case some => exact .raise (.inc starts (by decide)) (by decide)

/-- What the program's values are stays. -/
theorem State.takeSnapshot_rt (s : State) (n : Nat) : (s.takeSnapshot n).rt.published = s.rt.published ∧
    (s.takeSnapshot n).rt.forces = s.rt.forces ∧ (s.takeSnapshot n).rt.overlay = s.rt.overlay := by
  have rt := s.snapshotStarts_rt
  rw [State.takeSnapshot_eq]
  generalize s.snapshotStarts = u at rt ⊢
  have kept : u.rt.published = s.rt.published ∧ u.rt.forces = s.rt.forces ∧ u.rt.overlay = s.rt.overlay := by
    rw [rt]
    exact ⟨rfl, rfl, rfl⟩
  cases u.rt.mirror <;> exact kept

theorem Writes.standbySnapshot {s : State} {n : Nat} : Writes snapshotFields s (s.standbySnapshot n) :=
  .ite (fun _ => .takeSnapshot) fun _ => .refl

theorem State.standbySnapshot_rt (s : State) (n : Nat) : (s.standbySnapshot n).rt.published = s.rt.published ∧
    (s.standbySnapshot n).rt.forces = s.rt.forces ∧ (s.standbySnapshot n).rt.overlay = s.rt.overlay := by
  unfold State.standbySnapshot
  split
  · exact s.takeSnapshot_rt n
  · exact ⟨rfl, rfl, rfl⟩

theorem State.followMode_lcp (s : State) (m : Nat) : ∃ x, (s.followMode m).lcp = { s.lcp with transfers := x } := by
  unfold State.followMode
  split
  · exact ⟨s.lcp.transfers, rfl⟩
  · exact State.setMode_lcp ..

/-- The lines of a close are in memory, and the beat is closed. -/
def State.linesApplied (s : State) (n imageCrc : Nat) : State :=
  ({ s with
    mem := s.pair.rx.foldl (fun m (r : Nat × Nat) => memWrite m r.1 r.2 64) s.mem
    pair := { s.pair with
      rx := []
      images := s.pair.images.filter (fun i => decide (n < i.beat) || (i.beat == n && i.crc == imageCrc)) } } : State).put F.lastClosed n

theorem State.closeAccepted_eq (s : State) (n imageCrc : Nat) (t : Tracked) : s.closeAccepted n imageCrc t =
    if s.pair.hasImage then (((s.linesApplied n imageCrc).applyTracked t).followMode t.mode).standbySnapshot n
    else s.linesApplied n imageCrc := rfl

theorem State.linesApplied_spec (s : State) (n imageCrc : Nat) :
    (s.linesApplied n imageCrc).mem = s.pair.rx.foldl (fun m (r : Nat × Nat) => memWrite m r.1 r.2 64) s.mem ∧
    (s.linesApplied n imageCrc).pair.rx = [] ∧ (s.linesApplied n imageCrc).get F.lastClosed = n % 2 ^ 64 ∧
    RegsBut [(F.lastClosed, 0)] s (s.linesApplied n imageCrc) ∧ s.linesApplied n imageCrc = { s with
      regs := (s.linesApplied n imageCrc).regs, mem := (s.linesApplied n imageCrc).mem
      pair := { s.pair with rx := [], images := (s.linesApplied n imageCrc).pair.images } } :=
  ⟨rfl, rfl, State.get_put_self .., .put (.regs .refl rfl) (by simp), rfl⟩

/-- A close that matches its lines. -/
def State.closeMatches (s : State) (beat count crc : Nat) (overflow : Bool) : Bool :=
  !overflow && s.pair.rx.length == count && linesCrc s.pair.rx == crc && (!s.pair.current || beat == s.get F.lastClosed + 1)

theorem State.closeReceive_eq (s : State) (beat count crc imageCrc : Nat) (overflow : Bool) (t : Tracked) :
    s.closeReceive beat count crc imageCrc overflow t =
    if s.get F.role ≠ rStandby then s
    else if s.closeMatches beat count crc overflow then
      (if s.canTake t then s.closeAccepted beat imageCrc t else (s.closeAccepted beat imageCrc t).dropSync)
    else s.dropSync := rfl

section

variable {n c crc ic : Nat} {x : Tracked} {s : State} (standby : s.get F.role = 3)

include standby

theorem execTrackingClose_matches (count : s.pair.rx.length = c) (sum : linesCrc s.pair.rx = crc)
    (next : s.pair.current = false ∨ n = s.get F.lastClosed + 1) (room : s.canTake x = true) :
    exec (.trackingCloseReceive n c crc ic false x) s = .next (s.closeAccepted n ic x) := by
  have matches_ : s.closeMatches n c crc false = true := by
    unfold State.closeMatches
    rcases next with h | h <;> simp [count, sum, h]
  refine congrArg Host.Outcome.next ((s.closeReceive_eq ..).trans ((if_neg (not_not.2 standby)).trans ((if_pos matches_).trans (if_pos room))))

/-- Lines before the first image (R144). -/
theorem does_closeLines (count : s.pair.rx.length = c) (sum : linesCrc s.pair.rx = crc)
    (next : s.pair.current = false ∨ n = s.get F.lastClosed + 1) (without_ : s.pair.hasImage = false) (room : s.canTake x = true) :
    Does (.trackingCloseReceive n c crc ic false x) s fun t =>
      t.mem = s.pair.rx.foldl (fun m (r : Nat × Nat) => memWrite m r.1 r.2 64) s.mem ∧ t.pair.rx = [] ∧
      t.get F.lastClosed = n % 2 ^ 64 ∧ RegsBut [(F.lastClosed, 0)] s t ∧
      t = { s with regs := t.regs, mem := t.mem, pair := { s.pair with rx := [], images := t.pair.images } } := by
  refine ⟨_, execTrackingClose_matches standby count sum next room, ?_⟩
  rw [State.closeAccepted_eq, if_neg (by simp [without_])]
  exact s.linesApplied_spec n ic

/-- A close of a STANDBY that has an image (R141, R142). -/
theorem does_closeTracked (count : s.pair.rx.length = c) (sum : linesCrc s.pair.rx = crc)
    (next : s.pair.current = false ∨ n = s.get F.lastClosed + 1) (image : s.pair.hasImage = true) (plain : x.config = [])
    (room : s.canTake x = true) : Does (.trackingCloseReceive n c crc ic false x) s fun t =>
      t.mem = s.pair.rx.foldl (fun m (r : Nat × Nat) => memWrite m r.1 r.2 64) s.mem ∧ t.pair.rx = [] ∧
      t.rt.published = x.published ∧ t.rt.forces = x.forces ∧ t.rt.overlay = x.overlay ∧ t.lcp.owners = x.owners ∧
      t.get F.lastClosed = n % 2 ^ 64 ∧ t.get F.programGen = x.gen % 2 ^ 32 := by
  refine ⟨_, execTrackingClose_matches standby count sum next room, ?_⟩
  rw [State.closeAccepted_eq, if_pos image]
  obtain ⟨mem, rx, closed, -, -⟩ := s.linesApplied_spec n ic
  generalize s.linesApplied n ic = u at *
  obtain ⟨gen, closed', rt, lcp, pair⟩ := State.applyTracked_spec (s := u) plain
  have mem' : (u.applyTracked x).mem = u.mem := State.applyTracked_touches.mem_eq rfl
  have values : (u.trackedTaken x).rt.published = x.published ∧ (u.trackedTaken x).rt.forces = x.forces ∧
    (u.trackedTaken x).rt.overlay = x.overlay := ⟨rfl, rfl, rfl⟩
  rw [← rt] at values
  generalize u.applyTracked x = v at *
  have mode : Writes modeFields v (v.followMode x.mode) := .followMode
  have touched : Touches { regs := true, ev := true, lcp := true, jr := true, units := true } v (v.followMode x.mode) := State.followMode_touches
  obtain ⟨drop, lcp'⟩ := v.followMode_lcp x.mode
  generalize v.followMode x.mode = w at *
  have snap : Writes snapshotFields w (w.standbySnapshot n) := .standbySnapshot
  have touched' : Touches { regs := true, ev := true, rt := true } w (w.standbySnapshot n) := State.standbySnapshot_touches
  obtain ⟨published, forces, overlay⟩ := w.standbySnapshot_rt n
  have rt' : w.rt = v.rt := touched.rt_eq rfl
  obtain ⟨values, forced, overlaid⟩ := values
  rw [published, forces, overlay, rt', touched'.mem_eq rfl, touched.mem_eq rfl, mem', touched'.pair_eq rfl, touched.pair_eq rfl, pair,
    touched'.lcp_eq rfl, lcp', lcp]
  exact ⟨mem, rx, values, forced, overlaid, rfl, (snap.get rfl).trans ((mode.get rfl).trans (closed'.trans closed)),
    (snap.get rfl).trans ((mode.get rfl).trans gen)⟩

/-- A close that does not match its lines (R142, R165). -/
theorem does_closeDrops {o : Bool} (bad : o = true ∨ s.pair.rx.length ≠ c ∨ linesCrc s.pair.rx ≠ crc) (known : s.get F.mode < 8) :
    Does (.trackingCloseReceive n c crc ic o x) s fun t =>
      t.pair.current = false ∧ t.pair.rx = [] ∧ t.get F.pairState = 2 ∧ t.get F.resyncing = 1 ∧ t.get F.ready = 0 ∧
      t.get F.role = 3 ∧ t.mem = s.mem := by
  have differs : ¬ s.closeMatches n c crc o = true := by
    unfold State.closeMatches
    rcases bad with h | h | h <;> simp [h]
  obtain ⟨role, -, ready, state, resyncing, pair⟩ := State.dropSync_spec standby known
  refine ⟨_, congrArg Host.Outcome.next ((s.closeReceive_eq ..).trans ((if_neg (not_not.2 standby)).trans (if_neg differs))), ?_⟩
  exact ⟨by rw [pair], by rw [pair], state, resyncing, ready, role, State.dropSync_touches.mem_eq rfl⟩

end

/-! Synchronisation complete (R144). -/

/-- The counts of the ACTIVE's encoders change no register but theirs. -/
theorem Writes.encSync {s : State} : Writes [F.encCount, F.encUncertain] s s.encSync := by
  unfold State.encSync
  split
  · exact .foldl .refl fun _ _ => .put (.put .refl (by decide)) (by decide)
  · exact .refl

/-- A judged STANDBY, before its event. -/
def State.readyJudged (s : State) : State :=
  (s.put F.pairState (if s.checksStand then 4 else 3)).setMode ((s.put F.pairState (if s.checksStand then 4 else 3)).get F.mode) rStandby
    (if s.checksStand then 1 else 0) ((s.put F.pairState (if s.checksStand then 4 else 3)).get F.safeCause) 0

theorem State.judgeReady_eq (s : State) : s.judgeReady =
    if s.get F.role ≠ rStandby ∨ !s.pair.current then s
    else if s.checksStand ∧ s.get F.ready = 0 then s.readyJudged.raise 346 1 0 [] else s.readyJudged := rfl

/-- The fields of a judged STANDBY. -/
def judgedFields : List Fld := F.pairState :: modeFields

theorem Writes.readyJudged {s : State} : Writes judgedFields s s.readyJudged :=
  (Writes.put .refl (by decide)).trans (Writes.setMode.mono (by decide))

theorem Writes.judgeReady {s : State} : Writes judgedFields s s.judgeReady := by
  rw [State.judgeReady_eq]
  exact .ite (fun _ => .refl) fun _ => .ite (fun _ => .raise .readyJudged (by decide)) fun _ => .readyJudged

theorem State.judgeReady_lcp (s : State) : ∃ x, s.judgeReady.lcp = { s.lcp with transfers := x } := by
  rw [State.judgeReady_eq]
  split
  · exact ⟨s.lcp.transfers, rfl⟩
  · split <;> exact State.setMode_lcp ..

/-- The state taken, before its MODE. -/
def State.syncTaken (s : State) (t : Tracked) : State :=
  ((({ s with pair := { s.pair with current := true, hasImage := true } } : State).applyTracked t).takeSlots t.slotA t.slotB).put F.resyncing 0

/-- The program that a change would resume. -/
def State.syncResumes (s : State) : State :=
  { s with rt := { s.rt with resume := if s.get F.changePending = 1 then s.rt.prog else none } }

theorem State.syncComplete_eq (s : State) (t : Tracked) : s.syncComplete none t =
    if s.get F.role ≠ rStandby ∨ s.pair.current ∨ s.get F.linkUp = 0 then s
    else (((s.syncTaken t).followMode t.mode).syncResumes).encSync.judgeReady.showLeds := rfl

/-- The synchronised STANDBY has the ACTIVE's state (R144). -/
theorem State.syncTaken_spec {s : State} {x : Tracked} (plain : x.config = []) : (s.syncTaken x).get F.resyncing = 0 ∧
    (s.syncTaken x).pair = { s.pair with current := true, hasImage := true, cmds := x.cmds, sessions := x.sessions } ∧
    (s.syncTaken x).rt.published = x.published ∧ (s.syncTaken x).lcp = { s.lcp with owners := x.owners } ∧ (s.syncTaken x).mem = s.mem := by
  obtain ⟨-, -, rt, lcp, pair⟩ := State.applyTracked_spec (s := { s with pair := { s.pair with current := true, hasImage := true } }) plain
  have mem : (({ s with pair := { s.pair with current := true, hasImage := true } } : State).applyTracked x).mem = s.mem :=
    State.applyTracked_touches.mem_eq rfl
  have published : (State.trackedTaken { s with pair := { s.pair with current := true, hasImage := true } } x).rt.published = x.published := rfl
  rw [← rt] at published
  unfold State.syncTaken
  generalize State.applyTracked { s with pair := { s.pair with current := true, hasImage := true } } x = u at *
  exact ⟨State.get_put_self .., pair, published, lcp, mem⟩

/-- A completed synchronisation makes the state current (R144). -/
theorem does_syncComplete {x : Tracked} {s : State} (standby : s.get F.role = 3) (stale : s.pair.current = false) (link : s.get F.linkUp ≠ 0)
    (plain : x.config = []) : Does (.syncComplete none x) s fun t =>
      t.pair.current = true ∧ t.pair.hasImage = true ∧ t.rt.published = x.published ∧ t.lcp.owners = x.owners ∧
      t.get F.resyncing = 0 ∧ t.mem = s.mem := by
  have runs : ¬ (s.get F.role ≠ rStandby ∨ s.pair.current = true ∨ s.get F.linkUp = 0) :=
    not_or.2 ⟨not_not.2 standby, not_or.2 ⟨by simp [stale], link⟩⟩
  refine ⟨_, congrArg Host.Outcome.next ((s.syncComplete_eq x).trans (if_neg runs)), ?_⟩
  obtain ⟨resyncing, pair, published, lcp, mem⟩ := State.syncTaken_spec (s := s) plain
  generalize s.syncTaken x = u at *
  have mode : Writes modeFields u (u.followMode x.mode) := .followMode
  have touched : Touches { regs := true, ev := true, lcp := true, jr := true, units := true } u (u.followMode x.mode) := State.followMode_touches
  obtain ⟨drop, lcp'⟩ := u.followMode_lcp x.mode
  generalize u.followMode x.mode = v at *
  have resumes : Writes [] v v.syncResumes := .upd .refl rfl rfl rfl rfl
  have kept : v.syncResumes.pair = v.pair ∧ v.syncResumes.rt.published = v.rt.published ∧ v.syncResumes.lcp = v.lcp ∧
    v.syncResumes.mem = v.mem := ⟨rfl, rfl, rfl, rfl⟩
  generalize v.syncResumes = w at *
  have enc : Writes [F.encCount, F.encUncertain] w w.encSync := .encSync
  have touchedE : Touches { regs := true } w w.encSync := State.encSync_touches
  generalize w.encSync = y at *
  have judged : Writes judgedFields y y.judgeReady := .judgeReady
  have touchedJ : Touches { regs := true, ev := true, lcp := true, jr := true, units := true } y y.judgeReady := State.judgeReady_touches
  obtain ⟨drop', lcpJ⟩ := y.judgeReady_lcp
  generalize y.judgeReady = z at *
  have leds : Writes [F.leds] z z.showLeds := .showLeds
  have touchedL : Touches { regs := true } z z.showLeds := State.showLeds_touches
  generalize z.showLeds = r at *
  obtain ⟨pairR, rtR, lcpR, memR⟩ := kept
  rw [touchedL.pair_eq rfl, touchedJ.pair_eq rfl, touchedE.pair_eq rfl, pairR, touched.pair_eq rfl, pair,
    touchedL.rt_eq rfl, touchedJ.rt_eq rfl, touchedE.rt_eq rfl, rtR, touched.rt_eq rfl,
    touchedL.lcp_eq rfl, lcpJ, touchedE.lcp_eq rfl, lcpR, lcp', lcp,
    touchedL.mem_eq rfl, touchedJ.mem_eq rfl, touchedE.mem_eq rfl, memR, touched.mem_eq rfl]
  exact ⟨rfl, rfl, published, rfl, (leds.get rfl).trans ((judged.get rfl).trans ((enc.get rfl).trans ((resumes.get rfl).trans
    ((mode.get rfl).trans resyncing)))), mem⟩

/-- Settles O33, by what a STANDBY takes of each message of its ACTIVE. -/
theorem standbyFollowsTheTracking : Obligations.StandbyFollowsTheTracking := by
  unfold Obligations.StandbyFollowsTheTracking
  refine ⟨fun i s standby => ?_, fun a d s => ⟨_, rfl, rfl⟩, fun n o s => ⟨_, rfl, rfl⟩,
    fun n c crc ic x s standby count sum next without_ room => does_closeLines standby count sum next without_ room,
    fun n c crc ic x s standby count sum next image plain room => does_closeTracked standby count sum next image plain room,
    fun n c crc ic o x s standby bad known => does_closeDrops standby bad known,
    fun x s standby stale link plain => does_syncComplete standby stale link plain, fun p x s other =>
    ⟨s, congrArg Host.Outcome.next (if_pos (.inl other)), rfl⟩⟩
  have follows : ¬ (s.get F.role ≠ rStandby ∧ s.get F.role ≠ rShadow) := fun h => h.1 standby
  have standby' : s.get F.role ≠ rShadow := by
    rw [standby]
    decide
  exact ⟨_, congrArg Host.Outcome.next ((if_neg follows).trans (if_pos (.inl standby'))), rfl⟩

end Sys2Proof.Machine

namespace Sys2Proof.Machine

open Sys2Proof

/-- The place of FEED_A in the object map, read with another default. -/
def feedAElse : Fld := { F.feedA with dflt := 1 }

/-- A feed whose state does not change has its register written all the same: the one of a module out of reset, which is at its
default and not listed, is listed from then on. -/
theorem feedA_listed (t : State) (h : exec (.feedChange false 0 0) {} = .next t) :
    State.get {} feedAElse = 1 ∧ t.get feedAElse = 0 ∧ fldKey feedAElse 0 ≠ fldKey F.feedAV 0 := by
  cases h
  exact ⟨by decide, by decide, by decide⟩

/-- Refutes O34: where a feed's state does not change, FEED_CHANGE writes its register with the value it has. `RegsBut` speaks of
every field at a place of the object map, whatever its default, and so of whether the register is listed: after reset it is not,
and the command lists it, which the clause of the unchanged feed denies. -/
theorem not_healthChecksAndFeedsAreJudged : ¬ Obligations.HealthChecksAndFeedsAreJudged := by
  unfold Obligations.HealthChecksAndFeedsAreJudged
  intro h
  obtain ⟨-, -, -, -, -, -, -, -, -, -, -, -, -, -, -, unchanged, -⟩ := h
  obtain ⟨t, done, -, -, regs, -⟩ := unchanged 0 0 {} (by decide)
  obtain ⟨before, after, apart⟩ := feedA_listed t done
  have same : t.get feedAElse = State.get {} feedAElse := regs feedAElse 0 fun p hp => by
    rw [List.mem_singleton.1 hp]
    exact apart
  rw [before, after] at same
  exact absurd same (by decide)

end Sys2Proof.Machine

namespace Sys2Proof.Machine

open Sys2Proof

/-! Planned switch-overs (R154, R155, R172). -/

/-- The edge of a handover is named. -/
def State.handoverNamed (s : State) (cause : Nat) : State :=
  (({ s with pair := { s.pair with handing := true } } : State).inc F.plannedCount).raise 344 1 0 [(32, s.now + 1), (8, cause)]

theorem Writes.panelRefused {s : State} {b r : Nat} : Writes [F.raised, F.displayOn] s (s.panelRefused b r) :=
  .put (.upd (t := s.raise 447 1 1 [(8, b), (8, r)]) (.raise .refl (by decide)) rfl rfl rfl rfl) (by decide)

theorem State.planRuns_eq (s : State) (ho : Handover) : s.planRuns ho =
    if s.canHand ho then s.handoverNamed ho.cause
    else
      let t : State := { s with pair := { s.pair with handover := none } }
      if t.panel.quiesceAfter = 0 then t
      else ({ t with panel := { t.panel with quiesceAfter := 0 } }.put F.releaseState 0).panelRefused 2 1 := rfl

section

variable {ho : Handover} {s : State} (waits : s.pair.handing = false) (planned : s.pair.handover = some ho) (active : s.get F.role = 2)
  (due : ho.apply ≤ s.now)

include waits planned active due

theorem execPlannedSwitchover_due : exec .plannedSwitchover s = .next (s.planRuns ho) := by
  show execPlannedSwitchover s = _
  unfold execPlannedSwitchover
  dsimp only
  rw [if_neg (by simp [waits]), planned]
  exact congrArg Host.Outcome.next (if_pos ⟨active, due⟩)

theorem does_plannedSwitchover (can : s.canHand ho = true) : Does .plannedSwitchover s fun t =>
    t.pair = { s.pair with handing := true } ∧ t.get F.plannedCount = satInc 32 (s.get F.plannedCount) ∧
    Raised [eventOf s 344 1 0 [(32, s.now + 1), (8, ho.cause)]] s t ∧ RegsBut [(F.plannedCount, 0), (F.raised, 344)] s t ∧
    t = { s with regs := t.regs, ev := t.ev, pair := t.pair } := by
  refine ⟨_, execPlannedSwitchover_due waits planned active due, ?_⟩
  rw [State.planRuns_eq, if_pos can]
  have count : (s.handoverNamed ho.cause).get F.plannedCount = satInc 32 (s.get F.plannedCount) :=
    (State.get_raise_apart rfl).trans (State.get_put_fits (satInc_lt _ _))
  have named : Writes [F.plannedCount] s (({ s with pair := { s.pair with handing := true } } : State).inc F.plannedCount) :=
    .inc (.upd .refl rfl rfl rfl rfl) (by decide)
  exact ⟨rfl, count, named.raised rfl (by decide) (by simp), .raise (.inc (.regs .refl rfl) (by simp)) (by simp), rfl⟩

/-- A handover that can no longer be carried out (R154). -/
theorem does_handoverDropped (cannot : s.canHand ho = false) : Does .plannedSwitchover s fun t =>
    t.pair = { s.pair with handover := none } ∧ t.panel.quiesceAfter = 0 ∧
    (s.panel.quiesceAfter = 0 → t = { s with pair := t.pair }) ∧ (s.panel.quiesceAfter ≠ 0 → t.get F.releaseState = 0) := by
  refine ⟨_, execPlannedSwitchover_due waits planned active due, ?_⟩
  rw [State.planRuns_eq, if_neg (by simp [cannot])]
  dsimp only
  by_cases quiet : s.panel.quiesceAfter = 0
  · rw [if_pos quiet]
    exact ⟨rfl, quiet, fun _ => rfl, fun not => absurd quiet not⟩
  · rw [if_neg quiet]
    exact ⟨rfl, rfl, fun is => absurd is quiet, fun _ => (Writes.panelRefused.get rfl).trans (State.get_put_self ..)⟩

end

/-- The STANDBY's side of it (R155). -/
theorem does_standbyHands {s : State} (waits : s.pair.handing = false) (none : s.pair.handover = none) (told : s.pair.partnerHandover = true)
    (standby : s.get F.role = 3) (ready : s.get F.ready = 1) : Does .plannedSwitchover s fun t =>
      t.get F.plannedCount = satInc 32 (s.get F.plannedCount) ∧ RegsBut [(F.plannedCount, 0)] s t ∧
      t = { s with regs := t.regs, pair := { s.pair with handing := true } } := by
  have runs : exec .plannedSwitchover s = .next { s.inc F.plannedCount with pair := { s.pair with handing := true } } := by
    show execPlannedSwitchover s = _
    unfold execPlannedSwitchover
    dsimp only
    rw [if_neg (by simp [waits]), none]
    exact congrArg Host.Outcome.next (if_pos ⟨told, .inl ⟨standby, ready⟩⟩)
  have count : (s.inc F.plannedCount).get F.plannedCount = satInc 32 (s.get F.plannedCount) := State.get_put_fits (satInc_lt _ _)
  exact ⟨_, runs, count, .regs (show RegsBut _ s (s.inc F.plannedCount) from .inc .refl (by simp)) rfl, rfl⟩

/-! Shadow runs (R167, R169). -/

/-- The registers of a run that begins. -/
def runFields : List Fld :=
  [F.shState, F.shStartBeat, F.shBeats, F.shPoints, F.shMismatches, F.shUnaccepted, F.shIntended, F.pairState]

/-- Nothing of an earlier run stands. -/
def State.runCleared (s : State) : State :=
  { s with pair := { s.pair with
    cmp := [], shadowAt := none, endShadow := false, overruns := [], acks := [], theirForces := [], kept := none
    keptStatus := [] } }

/-- What a run shows. -/
def State.runShown (s : State) : State :=
  (((((((s.put F.shState 1).put F.shStartBeat s.now).put F.shBeats 0).put F.shPoints 0).put F.shMismatches 0).put
    F.shUnaccepted 0).put F.shIntended 0).put F.pairState 5

theorem State.runBegins_eq (s : State) : s.runBegins = s.runCleared.runShown := rfl

theorem State.runShown_gets (s : State) : s.runShown.get F.shState = 1 ∧ s.runShown.get F.shStartBeat = s.now % 2 ^ 64 ∧
    s.runShown.get F.shBeats = 0 ∧ s.runShown.get F.shMismatches = 0 ∧ s.runShown.get F.pairState = 5 ∧
    RegsBut (runFields.map fun f => (f, 0)) s s.runShown ∧ Writes runFields s s.runShown := by
  refine ⟨?_, ?_, ?_, ?_, State.get_put_self .., ?_, ?_⟩
  · exact (State.get_put_apart rfl).trans ((State.get_put_apart rfl).trans ((State.get_put_apart rfl).trans ((State.get_put_apart rfl).trans
      ((State.get_put_apart rfl).trans ((State.get_put_apart rfl).trans ((State.get_put_apart rfl).trans (State.get_put_self ..)))))))
  · exact (State.get_put_apart rfl).trans ((State.get_put_apart rfl).trans ((State.get_put_apart rfl).trans ((State.get_put_apart rfl).trans
      ((State.get_put_apart rfl).trans ((State.get_put_apart rfl).trans (State.get_put_self ..))))))
  · exact (State.get_put_apart rfl).trans ((State.get_put_apart rfl).trans ((State.get_put_apart rfl).trans ((State.get_put_apart rfl).trans
      ((State.get_put_apart rfl).trans (State.get_put_self ..)))))
  · exact (State.get_put_apart rfl).trans ((State.get_put_apart rfl).trans ((State.get_put_apart rfl).trans (State.get_put_self ..)))
  · unfold State.runShown runFields
    refine .put (.put (.put (.put (.put (.put (.put (.put .refl ?_) ?_) ?_) ?_) ?_) ?_) ?_) ?_ <;> simp
  · unfold State.runShown
    refine .put (.put (.put (.put (.put (.put (.put (.put .refl ?_) ?_) ?_) ?_) ?_) ?_) ?_) ?_ <;> decide

/-- The ACTIVE's side of a run that starts (R167). -/
theorem does_runStarts {s : State} (active : s.get F.role = 2) (at_ : s.pair.shadowAt = some s.now) (ready : s.pair.partnerReady = true) :
    Does (.shadowRunStart s.now) s fun t =>
      t.get F.shState = 1 ∧ t.get F.shStartBeat = s.now % 2 ^ 64 ∧ t.get F.shBeats = 0 ∧ t.get F.shMismatches = 0 ∧
      t.get F.pairState = 5 ∧
      RegsBut [(F.shState, 0), (F.shStartBeat, 0), (F.shBeats, 0), (F.shPoints, 0), (F.shMismatches, 0), (F.shUnaccepted, 0),
        (F.shIntended, 0), (F.pairState, 0)] s t ∧
      t = { s with regs := t.regs, pair := { s.pair with
        cmp := [], shadowAt := none, endShadow := false, overruns := [], acks := [], theirForces := [], kept := none
        keptStatus := [], partnerRole := 4, partnerReady := false } } := by
  have runs : s.shadowRunStart = { s.runBegins with pair := { s.runBegins.pair with partnerRole := rShadow, partnerReady := false } } :=
    (if_pos active).trans ((if_neg (not_not.2 at_)).trans (if_neg (by simp [ready])))
  refine ⟨_, congrArg Host.Outcome.next ((if_pos rfl).trans runs), ?_⟩
  obtain ⟨state, start, beats, mismatches, pairState, regs, -⟩ := s.runCleared.runShown_gets
  have parts : s.runCleared.runShown = { s with regs := s.runCleared.runShown.regs, pair := s.runCleared.pair } := rfl
  rw [State.runBegins_eq]
  refine ⟨state, start, beats, mismatches, pairState, ?_, ?_⟩
  · exact fun f k off => regs f k off
  · rw [parts]
    rfl

/-- A program that is loaded is the one that runs. -/
theorem State.loadProgram_prog (s : State) (p : Program) (b : Bool) : (s.loadProgram p b).rt.prog = some p := by
  unfold State.loadProgram
  dsimp only
  rw [State.showRuntime_touches.rt_eq rfl, State.showLoops_touches.rt_eq rfl]
  refine congrArg RtSt.prog (Touches.rt_eq (m := { regs := true }) (.foldl (.refl _) fun u g => ?_) rfl)
  exact .ite State.showGroup_touches State.initGroup_touches

theorem State.mapInto_prog (s : State) (p : Program) : (s.mapInto p).rt.prog = some p := by
  unfold State.mapInto
  dsimp only
  rw [State.journalLoad_touches.rt_eq rfl]
  exact State.loadProgram_prog _ _ _

/-- A follower that computes the new program: the old one is in the revert area. -/
def State.asShadow (s : State) (old : Option Program) : State :=
  { s with
    rt := { s.rt with revertArea := old }
    pair := { s.pair with current := false, shadowC := none, rx := [] } }

theorem State.asShadow_spec (s : State) (old : Option Program) : (s.asShadow old).rt.prog = s.rt.prog ∧ (s.asShadow old).rt.revertArea = old ∧
    (s.asShadow old).pair.current = false ∧ (s.asShadow old).pair.shadowC = none ∧ (s.asShadow old).mem = s.mem := ⟨rfl, rfl, rfl, rfl, rfl⟩

/-- The new program in place. -/
def State.shadowLoaded (s : State) (g : Program) : State := (s.runBegins.mapInto g).asShadow s.rt.prog

theorem State.shadowLoaded_spec (s : State) (g : Program) : (s.shadowLoaded g).rt.prog = some g ∧
    (s.shadowLoaded g).rt.revertArea = s.rt.prog ∧ (s.shadowLoaded g).pair.current = false ∧
    (s.shadowLoaded g).pair.shadowC = none ∧ (s.shadowLoaded g).mem = s.mem := by
  have prog := s.runBegins.mapInto_prog g
  have mem : (s.runBegins.mapInto g).mem = s.mem := State.mapInto_touches.mem_eq rfl |>.trans (State.runBegins_touches.mem_eq rfl)
  unfold State.shadowLoaded
  generalize s.runBegins.mapInto g = u at *
  obtain ⟨prog', old, current, shadow, mem'⟩ := u.asShadow_spec s.rt.prog
  exact ⟨prog'.trans prog, old, current, shadow, mem'.trans mem⟩

theorem State.shadowRunStart_standby {s : State} {g : Program} (standby : s.get F.role = 3) (ready : s.get F.ready = 1)
    (at_ : s.now % 4000 = 0) (staged : s.rt.staged = some g) : s.shadowRunStart =
    ((s.shadowLoaded g).setMode mRun rShadow 0 ((s.shadowLoaded g).get F.safeCause) 0).showLeds := by
  refine (if_neg (by rw [standby]; decide)).trans ?_
  rw [staged]
  exact if_neg (not_or.2 ⟨not_not.2 standby, not_or.2 ⟨not_not.2 ready, not_not.2 at_⟩⟩)

/-- The READY STANDBY's side of a run that starts (R167). -/
theorem does_shadowStarts {g : Program} {s : State} (standby : s.get F.role = 3) (ready : s.get F.ready = 1) (at_ : s.now % 4000 = 0)
    (staged : s.rt.staged = some g) : Does (.shadowRunStart s.now) s fun t =>
      t.get F.role = 4 ∧ t.get F.mode = 3 ∧ t.rt.prog = some g ∧ t.rt.revertArea = s.rt.prog ∧ t.pair.current = false ∧
      t.pair.shadowC = none ∧ t.mem = s.mem := by
  refine ⟨_, congrArg Host.Outcome.next ((if_pos rfl).trans (State.shadowRunStart_standby standby ready at_ staged)), ?_⟩
  obtain ⟨prog, old, current, shadow, mem⟩ := s.shadowLoaded_spec g
  generalize s.shadowLoaded g = u at *
  obtain ⟨mode, role⟩ := setMode_gets u mRun rShadow 0 (u.get F.safeCause) 0 1 (by decide) (by decide)
  have touched : Touches { regs := true, ev := true, lcp := true, jr := true, units := true } u
    (u.setMode mRun rShadow 0 (u.get F.safeCause) 0) := State.setMode_touches
  generalize u.setMode mRun rShadow 0 (u.get F.safeCause) 0 = v at *
  have leds : Writes [F.leds] v v.showLeds := .showLeds
  have touchedL : Touches { regs := true } v v.showLeds := State.showLeds_touches
  rw [touchedL.rt_eq rfl, touched.rt_eq rfl, touchedL.pair_eq rfl, touched.pair_eq rfl, touchedL.mem_eq rfl, touched.mem_eq rfl]
  exact ⟨(leds.get rfl).trans role, (leds.get rfl).trans mode, prog, old, current, shadow, mem⟩

/-! The comparison of a run (R169). -/

/-- The counts of the comparison go on. -/
def State.compareCounted (s : State) (n : Nat) : State := ((s.put F.shState 2).inc F.shBeats).peak F.shPoints n

/-- The differences of a beat. -/
def State.differences (s : State) (l : List (Nat × Nat × Nat)) : List (ValDef × Nat × Nat × Bool) :=
  (s.compared l).filter fun c => !valuesMatch c.1 c.2.1 c.2.2.1 (s.get F.compareTolerance)

/-- They are noted. -/
def State.differ (s : State) (cs : List (ValDef × Nat × Nat × Bool)) : State :=
  cs.foldl (fun (s : State) c => s.noteDiff c.1 c.2.1 c.2.2.1 c.2.2.2) s

theorem State.shadowCompare_eq (s : State) (l : List (Nat × Nat × Nat)) : s.shadowCompare l =
    if (s.get F.role ≠ rActive ∧ s.get F.role ≠ rShadow) ∨ (s.get F.shState ≠ 1 ∧ s.get F.shState ≠ 2) then s
    else if s.now < s.get F.shStartBeat + s.get F.shadowSettle ∨ !s.beat.committed then s
    else ((s.compareCounted (s.compared l).length).differ (s.differences l)).showCmp := rfl

/-- The deviation of a difference: in percent of the range, or a free value. -/
def State.deviation (s : State) (v : ValDef) (a b : Nat) : Nat × State :=
  match rangeDiff v a b with
  | some d => (toF32 d, s)
  | none => s.fresh 32

/-- The record of a first difference. -/
def State.firstRec (s : State) (v : ValDef) (dev : Nat) (intended : Bool) : CmpRec :=
  { handle := handleOf v, intended := intended, unaccepted := !intended, first := s.now, last := s.now, count := 1, deviation := dev }

/-- A first difference has a record. -/
def State.firstDiff (s : State) (v : ValDef) (dev : Nat) (intended : Bool) : State :=
  { s with pair := { s.pair with cmp := putCmp s.pair.cmp (s.firstRec v dev intended) } }

/-- The record of a later difference. -/
def State.laterRec (s : State) (r : CmpRec) (dev : Nat) : CmpRec :=
  { r with last := s.now, count := satInc 32 r.count, deviation := if f32 dev ≤ f32 r.deviation then r.deviation else dev }

/-- A difference with its deviation is noted. -/
def State.diffNoted (s : State) (v : ValDef) (dev : Nat) (intended : Bool) : State :=
  match s.pair.cmp.find? (fun r => r.handle == handleOf v) with
  | some r => { s with pair := { s.pair with cmp := putCmp s.pair.cmp (s.laterRec r dev) } }
  | none => if intended then s.firstDiff v dev intended else
      (s.firstDiff v dev intended).raise 354 1 1 [(32, handleOf v), (32, s.now), (32, dev)]

theorem State.noteDiff_eq (s : State) (v : ValDef) (a b : Nat) (i : Bool) :
    s.noteDiff v a b i = (s.deviation v a b).2.diffNoted v (s.deviation v a b).1 i := by
  unfold State.noteDiff State.deviation
  cases rangeDiff v a b <;> rfl

theorem State.deviation_parts (s : State) (v : ValDef) (a b : Nat) : ∃ f, (s.deviation v a b).2 = { s with free := f } := by
  unfold State.deviation
  cases rangeDiff v a b with
  | some d => exact ⟨s.free, rfl⟩
  | none => exact ⟨s.free + 1, rfl⟩

theorem State.diffNoted_parts (s : State) (v : ValDef) (dev : Nat) (i : Bool) : Writes [F.raised] s (s.diffNoted v dev i) ∧
    s.diffNoted v dev i = { s with
      regs := (s.diffNoted v dev i).regs, ev := (s.diffNoted v dev i).ev
      pair := { s.pair with cmp := (s.diffNoted v dev i).pair.cmp } } := by
  unfold State.diffNoted
  cases s.pair.cmp.find? (fun r => r.handle == handleOf v) with
  | some r => exact ⟨.upd .refl rfl rfl rfl rfl, rfl⟩
  | none =>
    cases i with
    | false => exact ⟨.raise (t := s.firstDiff v dev false) (.upd .refl rfl rfl rfl rfl) (by decide), rfl⟩
    | true => exact ⟨.upd .refl rfl rfl rfl rfl, rfl⟩

/-- A noted difference changes the comparison, and raises at most its event. -/
theorem State.noteDiff_parts (s : State) (v : ValDef) (a b : Nat) (i : Bool) : Writes [F.raised] s (s.noteDiff v a b i) ∧
    s.noteDiff v a b i = { s with
      regs := (s.noteDiff v a b i).regs, ev := (s.noteDiff v a b i).ev, free := (s.noteDiff v a b i).free
      pair := { s.pair with cmp := (s.noteDiff v a b i).pair.cmp } } := by
  obtain ⟨f, drawn⟩ := s.deviation_parts v a b
  rw [State.noteDiff_eq, drawn]
  generalize (s.deviation v a b).1 = dev
  obtain ⟨writes, parts⟩ := State.diffNoted_parts { s with free := f } v dev i
  generalize State.diffNoted { s with free := f } v dev i = u at *
  refine ⟨Writes.trans (t := { s with free := f }) (.upd .refl rfl rfl rfl rfl) writes, parts.trans ?_⟩
  have free : u.free = f := by rw [parts]
  rw [free]

theorem State.differ_parts (s : State) (cs : List (ValDef × Nat × Nat × Bool)) : Writes [F.raised] s (s.differ cs) ∧
    s.differ cs = { s with
      regs := (s.differ cs).regs, ev := (s.differ cs).ev, free := (s.differ cs).free
      pair := { s.pair with cmp := (s.differ cs).pair.cmp } } := by
  unfold State.differ
  induction cs generalizing s with
  | nil => exact ⟨.refl, rfl⟩
  | cons c cs ih =>
    rw [List.foldl_cons]
    obtain ⟨writes, parts⟩ := s.noteDiff_parts c.1 c.2.1 c.2.2.1 c.2.2.2
    generalize s.noteDiff c.1 c.2.1 c.2.2.1 c.2.2.2 = u at *
    obtain ⟨more, rest⟩ := ih u
    refine ⟨writes.trans more, ?_⟩
    generalize cs.foldl (fun (s : State) c => s.noteDiff c.1 c.2.1 c.2.2.1 c.2.2.2) u = v at *
    refine rest.trans ?_
    rw [parts]

/-- The fields of the comparison. -/
def cmpFields : List Fld := [F.shMismatches, F.shUnaccepted, F.shIntended]

theorem Writes.showCmp {s : State} : Writes cmpFields s s.showCmp :=
  .put (.put (.put .refl (by decide)) (by decide)) (by decide)

theorem State.showCmp_mismatches (s : State) : s.showCmp.get F.shMismatches = (s.pair.cmp.filter (fun r => !r.intended)).length % 2 ^ 32 :=
  (State.get_put_apart rfl).trans ((State.get_put_apart rfl).trans (State.get_put_self ..))

theorem Writes.compareCounted {s : State} {n : Nat} : Writes [F.shState, F.shBeats, F.shPoints] s (s.compareCounted n) :=
  .peak (.inc (.put .refl (by decide)) (by decide)) (by decide)

theorem State.compareCounted_spec (s : State) (n : Nat) : (s.compareCounted n).get F.shState = 2 ∧
    (s.compareCounted n).get F.shBeats = satInc 32 (s.get F.shBeats) ∧ s.compareCounted n = { s with regs := (s.compareCounted n).regs } := by
  have peaked : Writes [F.shPoints] ((s.put F.shState 2).inc F.shBeats) (s.compareCounted n) := .peak .refl (by decide)
  have state : ((s.put F.shState 2).inc F.shBeats).get F.shState = 2 := (State.get_inc_apart rfl).trans (State.get_put_self ..)
  have beats : ((s.put F.shState 2).inc F.shBeats).get F.shBeats = satInc 32 (s.get F.shBeats) := by
    have before : (s.put F.shState 2).get F.shBeats = s.get F.shBeats := State.get_put_apart rfl
    rw [← before]
    exact State.get_put_fits (satInc_lt _ _)
  exact ⟨(peaked.get rfl).trans state, (peaked.get rfl).trans beats, State.peak_parts _ _ _⟩

section

variable {l : List (Nat × Nat × Nat)} {s : State} (role : s.get F.role = 2 ∨ s.get F.role = 4)
  (runs : s.get F.shState = 1 ∨ s.get F.shState = 2) (committed : s.beat.committed = true)
  (settled : s.get F.shStartBeat + s.get F.shadowSettle ≤ s.now)

include role runs committed settled

theorem State.shadowCompare_runs : s.shadowCompare l =
    ((s.compareCounted (s.compared l).length).differ (s.differences l)).showCmp := by
  rw [State.shadowCompare_eq, if_neg (by simp only [rActive, rShadow]; omega),
    if_neg (not_or.2 ⟨Nat.not_lt.2 settled, by simp [committed]⟩)]

theorem does_shadowCompare : Does (.shadowCompare l) s fun t =>
      t.get F.shState = 2 ∧ t.get F.shBeats = satInc 32 (s.get F.shBeats) ∧
      t.get F.shMismatches = (t.pair.cmp.filter (fun r => !r.intended)).length % 2 ^ 32 ∧
      ((∀ c ∈ s.compared l, valuesMatch c.1 c.2.1 c.2.2.1 (s.get F.compareTolerance) = true) →
        t = { s with regs := t.regs }) ∧
      t = { s with regs := t.regs, ev := t.ev, free := t.free, pair := { s.pair with cmp := t.pair.cmp } } := by
  refine ⟨_, congrArg Host.Outcome.next (State.shadowCompare_runs role runs committed settled), ?_⟩
  obtain ⟨state, beats, parts⟩ := s.compareCounted_spec (s.compared l).length
  generalize s.compareCounted (s.compared l).length = u at *
  obtain ⟨writes, parts'⟩ := u.differ_parts (s.differences l)
  have none : (∀ c ∈ s.compared l, valuesMatch c.1 c.2.1 c.2.2.1 (s.get F.compareTolerance) = true) → u.differ (s.differences l) = u :=
    fun all => by
      have empty : s.differences l = [] := List.filter_eq_nil_iff.2 fun c there => by simp [all c there]
      rw [empty]
      rfl
  generalize u.differ (s.differences l) = v at *
  have shown : Writes cmpFields v v.showCmp := .showCmp
  have regs : v.showCmp = { v with regs := v.showCmp.regs } := State.showCmp_touches.eq_takes
  have count := v.showCmp_mismatches
  have pair : v.showCmp.pair = v.pair := State.showCmp_touches.pair_eq rfl
  rw [← pair] at count
  generalize v.showCmp = w at *
  refine ⟨(shown.get rfl).trans ((writes.get rfl).trans state), (shown.get rfl).trans ((writes.get rfl).trans beats), count, fun all => ?_, ?_⟩
  · refine regs.trans ?_
    rw [none all, parts]
  · refine regs.trans ?_
    rw [parts', parts]
    rw [regs, parts']

/-- A first difference that is not intended is raised. -/
theorem does_shadowMismatch {v : ValDef} {a b : Nat} (one : s.compared l = [(v, a, b, false)])
    (differs : valuesMatch v a b (s.get F.compareTolerance) = false)
    (first : s.pair.cmp.find? (fun r => r.handle == handleOf v) = none) :
    Does (.shadowCompare l) s fun t => ∃ dev, Raised [eventOf s 354 1 1 [(32, handleOf v), (32, s.now)],
      restOf s 354 1 1 [(32, dev)]] s t := by
  have differences : s.differences l = [(v, a, b, false)] := by
    unfold State.differences
    rw [one]
    simp [differs]
  have counted := Writes.compareCounted (s := s) (n := (s.compared l).length)
  obtain ⟨-, -, parts⟩ := s.compareCounted_spec (s.compared l).length
  refine ⟨_, congrArg Host.Outcome.next (State.shadowCompare_runs role runs committed settled), (State.deviation (s.compareCounted (s.compared l).length) v a b).1, ?_⟩
  rw [differences]
  generalize s.compareCounted (s.compared l).length = u at *
  have noted : u.differ [(v, a, b, false)] = u.noteDiff v a b false := rfl
  obtain ⟨f, drawn⟩ := u.deviation_parts v a b
  rw [noted, State.noteDiff_eq, drawn]
  generalize (u.deviation v a b).1 = dev
  have again : ({ u with free := f } : State).pair.cmp.find? (fun r => r.handle == handleOf v) = none := by
    rw [parts]
    exact first
  have quiet : u.ev = s.ev := by rw [parts]
  have now : u.now = s.now := counted.get rfl
  have raises : State.diffNoted { u with free := f } v dev false =
      (State.firstDiff { u with free := f } v dev false).raise 354 1 1 ([(32, handleOf v), (32, s.now)] ++ [(32, dev)]) := by
    unfold State.diffNoted
    rw [again, ← now]
    rfl
  have found : Writes [F.shState, F.shBeats, F.shPoints] s (State.firstDiff { u with free := f } v dev false) := counted.upd rfl rfl rfl rfl
  rw [raises]
  exact (found.raisedBoth (r := []) (w := 32) (v := dev) quiet (by decide) (by simp) (by simp) (by simp)).of_ev (State.showCmp_touches.ev_eq rfl)

end

/-! The end of a change (R172, R173). -/

theorem does_revertActive {s : State} (active : s.get F.role = 2) (at_ : s.pair.revertAt = some (s.now + 1)) (ready : s.pair.partnerReady = true) :
    Does .revertHandover s fun t =>
      t.pair = { s.pair with handover := some { apply := s.now, cause := 11, after := 3 }, handing := true } ∧
      t.get F.plannedCount = satInc 32 (s.get F.plannedCount) ∧ Raised [eventOf s 344 1 0 [(32, s.now + 1), (8, 11)]] s t ∧
      RegsBut [(F.plannedCount, 0), (F.raised, 344)] s t ∧ t = { s with regs := t.regs, ev := t.ev, pair := t.pair } := by
  have now : (s.inc F.plannedCount).now = s.now := State.get_inc_apart rfl
  have count : (s.inc F.plannedCount).get F.plannedCount = satInc 32 (s.get F.plannedCount) := State.get_put_fits (satInc_lt _ _)
  have incs : Writes [F.plannedCount] s (s.inc F.plannedCount) := .inc .refl (by decide)
  have regs : RegsBut [(F.plannedCount, 0), (F.raised, 344)] s (s.inc F.plannedCount) := .inc .refl (by simp)
  have runs : s.revertHandover = State.raise { s.inc F.plannedCount with pair := { (s.inc F.plannedCount).pair with
      handover := some { apply := (s.inc F.plannedCount).now, cause := 11, after := 3 }, handing := true } } 344 1 0
      [(32, (s.inc F.plannedCount).now + 1), (8, 11)] :=
    (if_pos active).trans ((if_neg (not_not.2 at_)).trans (if_neg (by simp [ready])))
  refine ⟨_, congrArg Host.Outcome.next runs, ?_⟩
  rw [now]
  have quiet : (s.inc F.plannedCount).ev = s.ev ∧ (s.inc F.plannedCount).pair = s.pair := ⟨rfl, rfl⟩
  have parts : s.inc F.plannedCount = { s with regs := (s.inc F.plannedCount).regs } := rfl
  generalize s.inc F.plannedCount = u at *
  have told : Writes [F.plannedCount] s ({ u with pair := { u.pair with
    handover := some { apply := s.now, cause := 11, after := 3 }, handing := true } } : State) := incs.upd rfl rfl rfl rfl
  refine ⟨?_, (State.get_raise_apart rfl).trans count, told.raised quiet.1 (by decide) (by simp), .raise (regs.regs rfl) (by simp), ?_⟩
  · rw [← quiet.2]
    rfl
  · rw [parts]
    rfl

theorem does_revertStandby {s : State} (standby : s.get F.role = 3) (ready : s.get F.ready = 1) (pending : s.get F.changePending = 1)
    (area : s.rt.revertArea.isSome = true) (at_ : (s.now + 1) % 4000 = 0) : Does .revertHandover s fun t =>
      t.pair = { s.pair with revertAt := some (s.now + 1), handing := true } ∧ RegsBut [(F.plannedCount, 0)] s t ∧
      t = { s with regs := t.regs, pair := t.pair } := by
  have now : (s.inc F.plannedCount).now = s.now := State.get_inc_apart rfl
  have runs : s.revertHandover = { s.inc F.plannedCount with pair := { s.pair with revertAt := some (s.now + 1), handing := true } } :=
    (if_neg (by rw [standby]; decide)).trans (if_pos ⟨standby, ready, pending, area, at_⟩)
  exact ⟨_, congrArg Host.Outcome.next runs, rfl, .regs (show RegsBut _ s (s.inc F.plannedCount) from .inc .refl (by simp)) rfl, rfl⟩

/-- Nothing of the old program stands. -/
def State.changeEnds (s : State) : State :=
  { s with rt := { s.rt with revertArea := none, resume := none }, pair := { s.pair with revertAt := none } }

/-- The change is confirmed, before its record. -/
def State.changeConfirmed (s : State) (how : Nat) : State :=
  ((s.changeEnds.put F.programGen ((s.get F.programGen + 1) % 2 ^ 32)).put F.changePending 0).raise 357 1 0
    [(32, (s.get F.programGen + 1) % 2 ^ 32), (8, how)]

theorem State.confirmChange_eq (s : State) (how : Nat) : s.confirmChange how = (s.changeConfirmed how).journalProgram := rfl

theorem State.changeConfirmed_spec (s : State) : (s.changeConfirmed 1).get F.changePending = 0 ∧
    (s.changeConfirmed 1).get F.programGen = (s.get F.programGen + 1) % 2 ^ 32 ∧
    eventOf s 357 1 0 [(32, s.get F.programGen + 1), (8, 1)] ∈ (s.changeConfirmed 1).ev.router ∧
    RegsBut [(F.changePending, 0), (F.programGen, 0), (F.raised, 357), (F.raised, 378)] s (s.changeConfirmed 1) ∧
    s.changeConfirmed 1 = { s.changeEnds with regs := (s.changeConfirmed 1).regs, ev := (s.changeConfirmed 1).ev } := by
  have put : Writes [F.programGen, F.changePending] s
      ((s.changeEnds.put F.programGen ((s.get F.programGen + 1) % 2 ^ 32)).put F.changePending 0) :=
    .put (.put (.upd .refl rfl rfl rfl rfl) (by decide)) (by decide)
  obtain ⟨l, raised⟩ := put.raisedLast (src := 357) (code := 1) (sev := 0) (d := [(32, (s.get F.programGen + 1) % 2 ^ 32), (8, 1)])
    (by decide) (by simp)
  have same : eventOf s 357 1 0 [(32, (s.get F.programGen + 1) % 2 ^ 32), (8, 1)] = eventOf s 357 1 0 [(32, s.get F.programGen + 1), (8, 1)] := by
    unfold eventOf sideBySide
    rw [Nat.mod_mod]
  refine ⟨(State.get_raise_apart rfl).trans (State.get_put_self ..), (State.get_raise_apart rfl).trans ((State.get_put_apart rfl).trans
    ((State.get_put_self ..).trans (Nat.mod_mod ..))), ?_, .raise (.put (.put (.regs .refl rfl) (by simp)) (by simp)) (by simp), rfl⟩
  rw [← same]
  unfold State.changeConfirmed
  rw [raised]
  exact List.mem_append_right _ (List.mem_append_right _ (List.mem_singleton.2 rfl))

theorem Writes.journalProgram {s : State} : Writes [F.raised] s s.journalProgram := .journal .refl (by decide)

/-- The end of confirm_window confirms a change (R173). -/
theorem does_confirmWindowEnd {s : State} (pending : s.get F.changePending = 1) (runs : s.get F.role = 1 ∨ s.get F.role = 2) :
    Does .confirmWindowEnd s fun t =>
      t.get F.changePending = 0 ∧ t.get F.programGen = (s.get F.programGen + 1) % 2 ^ 32 ∧ t.rt.revertArea = none ∧
      eventOf s 357 1 0 [(32, s.get F.programGen + 1), (8, 1)] ∈ t.ev.router ∧
      RegsBut [(F.changePending, 0), (F.programGen, 0), (F.raised, 357), (F.raised, 378)] s t ∧
      t = { s with regs := t.regs, ev := t.ev, jr := t.jr, rt := { s.rt with revertArea := none, resume := none },
                   pair := { s.pair with revertAt := none } } := by
  refine ⟨_, congrArg Host.Outcome.next ((if_pos ⟨pending, runs.symm⟩).trans (s.confirmChange_eq 1)), ?_⟩
  obtain ⟨left, gen, event, regs, parts⟩ := s.changeConfirmed_spec
  generalize s.changeConfirmed 1 = u at *
  have noted : Writes [F.raised] u u.journalProgram := .journalProgram
  have same : RegsBut [(F.raised, 378)] u u.journalProgram := (journal_spec _ _ _ _ _ _ _).2.2.2.2
  have touched : Touches { regs := true, ev := true, jr := true } u u.journalProgram := State.journalProgram_touches
  have whole : u.journalProgram = { u with regs := u.journalProgram.regs, ev := u.journalProgram.ev, jr := u.journalProgram.jr } :=
    touched.eq_takes
  generalize u.journalProgram = v at *
  refine ⟨(noted.get rfl).trans left, (noted.get rfl).trans gen, ?_, noted.router.subset event, regs.trans (same.mono (by simp)), ?_⟩
  · rw [touched.rt_eq rfl, parts]
    rfl
  · refine whole.trans ?_
    rw [parts]
    rfl

/-- Settles O35, by the steps of a handover, of a shadow run on both sides, of the comparison, and of the end of a change. -/
theorem switchoversAndShadowRunsTakeTheirSteps : Obligations.SwitchoversAndShadowRunsTakeTheirSteps := by
  unfold Obligations.SwitchoversAndShadowRunsTakeTheirSteps
  refine ⟨fun ho s waits planned active due can => does_plannedSwitchover waits planned active due can,
    fun ho s waits planned active due cannot => does_handoverDropped waits planned active due cannot,
    fun s waits none told standby ready => does_standbyHands waits none told standby ready, fun s handing => ?_,
    fun s active at_ ready => does_runStarts active at_ ready,
    fun g s standby ready at_ staged => does_shadowStarts standby ready at_ staged, fun s standby not => ?_, fun b s other => ?_,
    fun l s role runs committed settled => does_shadowCompare role runs committed settled,
    fun l v a b s role runs committed settled one differs first => does_shadowMismatch role runs committed settled one differs first,
    fun l s idle => ?_, fun s active at_ ready => does_revertActive active at_ ready,
    fun s standby ready pending area at_ => does_revertStandby standby ready pending area at_, fun s solo => ?_,
    fun s pending runs => does_confirmWindowEnd pending runs, fun s none => ?_⟩
  case refine_1 =>
    exact ⟨s, congrArg Host.Outcome.next (if_pos handing), rfl⟩
  case refine_2 =>
    have stands : s.shadowRunStart = s := by
      refine (if_neg (by rw [standby]; decide)).trans ?_
      cases staged : s.rt.staged with
      | none => rfl
      | some g =>
        rw [staged] at not
        exact if_pos (not.elim (fun h => .inr (.inl h)) fun h => h.elim (fun h => .inr (.inr h)) fun h => by cases h)
    exact ⟨s, congrArg Host.Outcome.next ((if_pos rfl).trans stands), rfl⟩
  case refine_3 =>
    exact ⟨s, congrArg Host.Outcome.next (if_neg other), rfl⟩
  case refine_4 =>
    have stands : s.shadowCompare l = s := by
      rw [State.shadowCompare_eq]
      split_ifs with silent early
      · rfl
      · rfl
      · obtain ⟨late, committed⟩ := not_or.1 early
        exact absurd idle (not_or.2 ⟨by simpa using committed, late⟩)
    exact ⟨s, congrArg Host.Outcome.next stands, rfl⟩
  case refine_5 =>
    exact ⟨s, congrArg Host.Outcome.next ((if_neg (by rw [solo]; decide)).trans (if_neg fun h => by
      rw [solo] at h; exact absurd h.1 (by decide))), rfl⟩
  case refine_6 =>
    exact ⟨s, congrArg Host.Outcome.next (if_neg fun h => none h.1), rfl⟩

end Sys2Proof.Machine

namespace Sys2Proof.Machine

open Sys2Proof

/-! The records of L3 boards and WSL-E stations. -/

theorem State.l3_key (s : State) (k a : Nat) : (s.l3 k a).lane = k ∧ (s.l3 k a).addr = a := by
  unfold State.l3
  cases found : s.lanes.l3.find? (fun b => b.lane == k && b.addr == a) with
  | none => exact ⟨rfl, rfl⟩
  | some b => simpa using List.find?_some found

/-- A record that was put is the one found. -/
theorem State.l3_placed {s t : State} {b : L3Rt} {k a : Nat} (h : t.lanes.l3 = (s.putL3 b).lanes.l3) (lane : b.lane = k)
    (addr : b.addr = a) : t.l3 k a = b := by
  subst lane addr
  have others : (s.lanes.l3.filter (fun c => !(c.lane == b.lane && c.addr == b.addr))).find?
      (fun c => c.lane == b.lane && c.addr == b.addr) = none := by
    refine List.find?_eq_none.2 fun c hc same => ?_
    have out := (List.mem_filter.1 hc).2
    rw [same] at out
    exact absurd out (by decide)
  have self : [b].find? (fun c => c.lane == b.lane && c.addr == b.addr) = some b := by simp
  rw [State.l3, h, State.putL3, List.find?_append, others, self, Option.none_or, Option.getD_some]

theorem State.l3_of_lanes {s t : State} (h : t.lanes.l3 = s.lanes.l3) (now : t.now = s.now) (k a : Nat) : t.l3 k a = s.l3 k a := by
  unfold State.l3
  rw [h, now]

theorem State.wslRt_st (s : State) (n : Nat) : (s.wslRt n).st = n := by
  unfold State.wslRt
  cases found : s.lanes.wsl.find? (fun w => w.st == n) with
  | none => rfl
  | some w => simpa using List.find?_some found

theorem State.wslRt_put {s : State} {w : WslRt} {n : Nat} (st : w.st = n) : (s.putWsl w).wslRt n = w := by
  subst st
  rw [State.wslRt, State.putWsl, find_replaced_self WslRt.st, Option.getD_some]

theorem State.lane_k (s : State) (k : Nat) : (s.lane k).k = k := by
  unfold State.lane
  cases found : s.lanes.lanes.find? (fun l => l.k == k) with
  | none => rfl
  | some l => simpa using List.find?_some found

theorem State.lane_put {s : State} {l : LaneRt} {k : Nat} (key : l.k = k) : (s.putLane l).lane k = l := by
  subst key
  rw [State.lane, State.putLane, find_replaced_self LaneRt.k, Option.getD_some]

theorem State.lane_of_lanes {s t : State} (h : t.lanes.lanes = s.lanes.lanes) (k : Nat) : t.lane k = s.lane k := by
  unfold State.lane
  rw [h]

/-! Polls of L3 boards (R222, R223). -/

theorem does_l3Poll {k : Fin 96} {p : Fin 8} {s : State} (mode : s.get F.laneMode k.val = 3) (board : bitOf (s.get F.l3Boards k.val) p.val = true)
    (claim : s.get F.claim = 1) (due : s.now % 40 = 5 * p.val) (fits : (s.l3 k.val p.val).mismatch = false) :
    Does (.l3Poll k p) s fun t =>
      (∃ b, b.length ≤ 9 ∧ b.head? = some (s.now % 256) ∧
        t.l3 k.val p.val = { s.l3 k.val p.val with poll := some (s.now, false), sent := s.outsAt (k.val * 8 + p.val)
                                                   chars := (8 + p.val) :: b ++ bytesOf 2 (crc16 b) }) ∧
      t = { s with lanes := { s.lanes with l3 := t.lanes.l3 } } := by
  obtain ⟨lane, addr⟩ := s.l3_key k.val p.val
  refine ⟨_, congrArg Host.Outcome.next (if_pos ⟨mode, board, claim, by simp [fits], due⟩),
    ⟨s.now % 256 :: ((Config.l3Outputs (s.outsAt (k.val * 8 + p.val))).take 8).map (fun b => b % 256), ?_, rfl, State.l3_placed rfl lane addr⟩, rfl⟩
  simp only [List.length_cons, List.length_map, List.length_take]
  omega

theorem does_l3CheckPoll {k : Fin 96} {p : Fin 8} {s : State} (mode : s.get F.laneMode k.val = 3)
    (board : bitOf (s.get F.l3Boards k.val) p.val = true) (claim : s.get F.claim = 0) (due : s.now % 40 = 5 * p.val + 2) :
    Does (.l3CheckPoll k p) s fun t =>
      t.l3 k.val p.val = { s.l3 k.val p.val with poll := some (s.now, true)
                                                 chars := pollChars 0x03 p.val s.now [] } ∧
      t = { s with lanes := { s.lanes with l3 := t.lanes.l3 } } := by
  obtain ⟨lane, addr⟩ := s.l3_key k.val p.val
  exact ⟨_, congrArg Host.Outcome.next (if_pos ⟨mode, board, claim, due⟩), State.l3_placed rfl lane addr, rfl⟩

/-! Answers of L3 boards (R222 to R224). -/

/-- The fields that the answers of L3 boards write. -/
def l3Fields : List Fld := F.laneStaleRun :: laneFields

/-- What the lane's other bookkeeping leaves of a board and of the points that are due. -/
structure L3Kept (k a : Nat) (s t : State) : Prop where
  writes : Writes l3Fields s t
  poll : (t.l3 k a).poll = (s.l3 k a).poll
  run : (t.l3 k a).run = (s.l3 k a).run
  due : t.lanes.due = s.lanes.due
  mem : t.mem = s.mem

namespace L3Kept

variable {k a : Nat} {s t u : State}

theorem refl : L3Kept k a s s := ⟨.refl, rfl, rfl, rfl, rfl⟩

theorem trans (h : L3Kept k a s t) (g : L3Kept k a t u) : L3Kept k a s u :=
  ⟨h.writes.trans g.writes, g.poll.trans h.poll, g.run.trans h.run, g.due.trans h.due, g.mem.trans h.mem⟩

theorem ite {c : Prop} [Decidable c] (ht : c → L3Kept k a s t) (hu : ¬c → L3Kept k a s u) : L3Kept k a s (if c then t else u) := by
  split
  · exact ht ‹_›
  · exact hu ‹_›

theorem foldl {α : Type} {f : State → α → State} {l : List α} (hf : ∀ u x, L3Kept k a u (f u x)) : L3Kept k a s (l.foldl f s) := by
  induction l generalizing s with
  | nil => exact refl
  | cons x l ih => exact (hf s x).trans ih

/-- The boards' records stand. -/
theorem of_boards (w : Writes l3Fields s t) (boards : t.lanes.l3 = s.lanes.l3) (due : t.lanes.due = s.lanes.due)
    (mem : t.mem = s.mem) : L3Kept k a s t := by
  have same : t.l3 k a = s.l3 k a := State.l3_of_lanes boards (w.get rfl) k a
  exact ⟨w, by rw [same], by rw [same], due, mem⟩

theorem setL3 {j : Nat} {failed : Bool} : L3Kept k a s (s.setL3 j failed) := by
  have kept : (s.setL3 j failed).lanes.l3.find? (fun b => b.lane == k && b.addr == a) =
      (s.lanes.l3.find? (fun b => b.lane == k && b.addr == a)).map
        (fun b => if b.lane == j then { b with failed := failed } else b) := by
    have keys : ((fun b : L3Rt => b.lane == k && b.addr == a) ∘ fun b => if b.lane == j then { b with failed := failed } else b) =
        fun b => b.lane == k && b.addr == a := by
      funext b
      simp only [Function.comp]
      split <;> rfl
    rw [State.setL3, List.find?_map, keys]
  have both : ((s.setL3 j failed).l3 k a).poll = (s.l3 k a).poll ∧ ((s.setL3 j failed).l3 k a).run = (s.l3 k a).run := by
    rw [State.l3, State.l3, kept]
    cases s.lanes.l3.find? (fun b => b.lane == k && b.addr == a) with
    | none => exact ⟨rfl, rfl⟩
    | some b =>
      simp only [Option.map_some, Option.getD_some]
      split <;> exact ⟨rfl, rfl⟩
  exact ⟨.setL3 .refl, both.1, both.2, rfl, rfl⟩

end L3Kept

/-- The board's record behind its answer. -/
def L3Rt.answered (b : L3Rt) (now status : Nat) : L3Rt :=
  { b with poll := none, run := 0, good := b.good + 1, silent := true, last := now, status := status }

/-- The lane shows that a board has answered. -/
def State.l3Answered (s : State) (b : L3Rt) (status : Nat) : State :=
  let t := ((s.putL3 (b.answered s.now status)).putHolder b.lane (bitsOf status 3 2)).putLane { s.lane b.lane with healthy := true }
  let u := (t.put F.laneLink 1 b.lane).put F.laneBoards (setBit (t.get F.laneBoards b.lane) b.addr true) b.lane
  if u.get F.laneState b.lane = lsAbsent then u.put F.laneState lsLive b.lane else u

/-- And raises a change of the holder. -/
def State.l3Told (s : State) (b : L3Rt) (status : Nat) : State :=
  if bitOf status 7 then (s.l3Answered b status).laneEvent b.lane 9 1 [(2, bitsOf status 3 2)] else s.l3Answered b status

theorem State.l3Good_served {s : State} {b : L3Rt} {status : Nat} {points : List (Nat × Nat)} (sound : b.failed = false)
    (ever : b.ever = true) (straight : (s.l3Told b status).get F.laneState b.lane ≠ lsCrossover) :
    s.l3Good b false status points =
      ((s.l3Told b status).addDue ((s.l3Told b status).now + 1) (b.lane * 8 + b.addr) false points).showL3 b.lane := by
  have whole : s.l3Good b false status points =
      (if (b.answered s.now status).good ≥ ((if false ∨ (s.l3Told b status).get F.laneState b.lane = lsCrossover then s.l3Told b status
          else (s.l3Told b status).addDue ((s.l3Told b status).now + 1) (b.lane * 8 + b.addr) false points)).get F.restoreLimit b.lane ∧
          (b.failed ∨ !b.ever) then _
        else if false ∨ (s.l3Told b status).get F.laneState b.lane = lsCrossover then s.l3Told b status
          else (s.l3Told b status).addDue ((s.l3Told b status).now + 1) (b.lane * 8 + b.addr) false points).showL3 b.lane := rfl
  rw [whole, if_neg (by simp [sound, ever]), if_neg (by simp [straight])]

/-- The fields that the lane shows of an answer. -/
def answeredFields : List Fld := [F.laneHolder, F.laneLink, F.laneBoards, F.laneState]

theorem Writes.l3Answered {s : State} {b : L3Rt} {status : Nat} : Writes answeredFields s (s.l3Answered b status) := by
  have held : Writes answeredFields s ((s.putL3 (b.answered s.now status)).putHolder b.lane (bitsOf status 3 2)) :=
    (Writes.upd .refl rfl rfl rfl rfl : Writes answeredFields s (s.putL3 (b.answered s.now status))).trans
      (.ite (fun _ => .put .refl (by decide)) fun _ => .refl)
  have shown {v v' : Nat} : Writes answeredFields s ((((s.putL3 (b.answered s.now status)).putHolder b.lane
      (bitsOf status 3 2)).putLane { s.lane b.lane with healthy := true }).put F.laneLink v b.lane |>.put F.laneBoards v' b.lane) :=
    .put (.put (.putLane held) (by decide)) (by decide)
  exact .ite (fun _ => .put shown (by decide)) fun _ => shown

theorem State.l3Answered_spec {s : State} {b : L3Rt} {status : Nat} (lane : b.lane < 96) :
    (s.l3Answered b status).l3 b.lane b.addr = b.answered s.now status ∧
    (s.l3Answered b status).get F.laneLink b.lane = 1 ∧ (s.l3Answered b status).get F.laneHolder b.lane = bitsOf status 3 2 ∧
    (s.get F.laneState b.lane ≠ lsCrossover → (s.l3Answered b status).get F.laneState b.lane ≠ lsCrossover) ∧
    (s.l3Answered b status).lanes.due = s.lanes.due ∧
    Touches { regs := true, lanes := true } s (s.l3Answered b status) := by
  have served : (s.putL3 (b.answered s.now status)).putHolder b.lane (bitsOf status 3 2) =
    (s.putL3 (b.answered s.now status)).put F.laneHolder (bitsOf status 3 2) b.lane := if_pos lane
  unfold State.l3Answered
  dsimp only
  rw [served]
  have holder : bitsOf status 3 2 < 2 ^ F.laneHolder.w := Nat.mod_lt _ (by decide)
  have one : 1 % 2 ^ F.laneLink.w = 1 := by decide
  split
  · refine ⟨State.l3_placed (s := s) rfl rfl rfl, (State.get_put_apart rfl).trans ((State.get_put_apart rfl).trans
      ((State.get_put_self ..).trans one)), ?_, fun _ => ?_, rfl, rfl⟩
    · exact (State.get_put_apart rfl).trans ((State.get_put_apart rfl).trans ((State.get_put_apart rfl).trans
        (State.get_put_fits holder)))
    · rw [State.get_put_self]
      decide
  · refine ⟨State.l3_placed (s := s) rfl rfl rfl, (State.get_put_apart rfl).trans ((State.get_put_self ..).trans one), ?_,
      fun crossed => ?_, rfl, rfl⟩
    · exact (State.get_put_apart rfl).trans ((State.get_put_apart rfl).trans (State.get_put_fits holder))
    · intro now
      exact crossed (((State.get_put_apart rfl).trans ((State.get_put_apart rfl).trans (State.get_put_apart rfl))).symm.trans now)

theorem Writes.showL3 {ws : List Fld} {s : State} {k : Nat} (run : F.laneStaleRun ∈ ws) (state : F.laneState ∈ ws) :
    Writes ws s (s.showL3 k) :=
  .ite (fun _ => .put (.put .refl run) state) fun _ => .put .refl run

theorem L3Kept.showL3 {k a j : Nat} {s : State} : L3Kept k a s (s.showL3 j) :=
  have same := State.showL3_touches (a0 := s) (a1 := j)
  .of_boards (.showL3 (by decide) (by decide)) (by rw [same.lanes_eq rfl]) (by rw [same.lanes_eq rfl]) (same.mem_eq rfl)

theorem State.showL3_board (s : State) (j k a : Nat) : (s.showL3 j).l3 k a = s.l3 k a :=
  State.l3_of_lanes (by rw [State.showL3_touches.lanes_eq rfl]) ((Writes.showL3 (ws := [F.laneStaleRun, F.laneState]) (by decide)
    (by decide)).get rfl) k a

theorem does_l3ResponseReceive {k : Fin 96} {p : Fin 8} {a st : Nat} {bs : List Nat} {l : List (Nat × Nat)} {s : State}
    (asked : (s.l3 k.val p.val).poll = some (s.now, false)) (sound : (s.l3 k.val p.val).failed = false)
    (ever : (s.l3 k.val p.val).ever = true) (straight : s.get F.laneState k.val ≠ 5) (own : a % 8 = p.val) (fits : bs.length ≤ 12) :
    Does (.l3ResponseReceive k p false a st (crc16 (st :: bs)) bs l) s fun t =>
      (t.l3 k.val p.val).poll = none ∧ (t.l3 k.val p.val).run = 0 ∧ (t.l3 k.val p.val).last = s.now ∧
      t.lanes.due = s.lanes.due ++ [{ beat := s.now + 1, key := k.val * 8 + p.val, stale := false, points := l }] ∧
      t.get F.laneLink k.val = 1 ∧ t.get F.laneHolder k.val = bitsOf st 3 2 ∧
      (t.l3 k.val p.val).status = st ∧
      Raised (if bitOf st 7 then [eventOf s k.val 9 1 [(2, bitsOf st 3 2)]] else []) s t ∧ t.mem = s.mem := by
  refine ⟨_, congrArg Host.Outcome.next ((if_neg (by simp [asked])).trans (if_pos ⟨rfl, own, fits⟩)), ?_⟩
  obtain ⟨lane, addr⟩ := s.l3_key k.val p.val
  generalize s.l3 k.val p.val = b at *
  obtain ⟨board, link, holder, crossed, due, touched⟩ := State.l3Answered_spec (s := s) (b := b) (status := st) (lane ▸ k.isLt)
  have wrote := Writes.l3Answered (s := s) (b := b) (status := st)
  have ev := touched.ev_eq rfl
  have mem := touched.mem_eq rfl
  have told : (s.l3Told b st).lanes = (s.l3Answered b st).lanes ∧ (s.l3Told b st).mem = (s.l3Answered b st).mem ∧
      (∀ g j, g.offAll [F.raised] = true → (s.l3Told b st).get g j = (s.l3Answered b st).get g j) ∧
      Raised (if bitOf st 7 then [eventOf s k.val 9 1 [(2, bitsOf st 3 2)]] else []) s (s.l3Told b st) := by
    unfold State.l3Told
    rw [← lane]
    split
    · exact ⟨rfl, rfl, (Writes.raise .refl (by decide)).fields, wrote.raised ev rfl (Nat.le_of_ble_eq_true rfl)⟩
    · exact ⟨rfl, rfl, fun _ _ _ => rfl, ev.trans (by simp)⟩
  generalize s.l3Answered b st = u at *
  obtain ⟨lanes, memory, reads, raised⟩ := told
  rw [State.l3Good_served sound ever ((reads _ _ rfl).trans_ne (crossed (lane ▸ straight)))]
  generalize s.l3Told b st = v at *
  have now : v.now = s.now := (reads _ _ rfl).trans (wrote.get rfl)
  have same := State.showL3_touches (a0 := v.addDue (v.now + 1) (b.lane * 8 + b.addr) false l) (a1 := b.lane)
  have shown : ((v.addDue (v.now + 1) (b.lane * 8 + b.addr) false l).showL3 b.lane).l3 k.val p.val = b.answered s.now st := by
    rw [State.showL3_board, ← lane, ← addr, ← board]
    exact State.l3_of_lanes (show v.lanes.l3 = u.lanes.l3 by rw [lanes]) (now.trans (wrote.get rfl).symm) _ _
  have kept : ∀ g, g.offAll [F.laneStaleRun, F.laneState] = true → g.offAll [F.raised] = true →
      ((v.addDue (v.now + 1) (b.lane * 8 + b.addr) false l).showL3 b.lane).get g k.val = u.get g k.val := fun g run up =>
    ((Writes.showL3 (by decide) (by decide)).get run).trans (reads g _ up)
  refine ⟨by rw [shown]; rfl, by rw [shown]; rfl, by rw [shown]; rfl, ?_, (kept _ rfl rfl).trans (lane ▸ link),
    (kept _ rfl rfl).trans (lane ▸ holder), by rw [shown]; rfl, (same.ev_eq rfl).trans raised,
    (same.mem_eq rfl).trans (memory.trans mem)⟩
  rw [same.lanes_eq rfl, ← lane, ← addr, ← now, ← due, ← lanes]
  rfl

namespace L3Kept

variable {k a : Nat} {s t : State}

theorem laneEvent {j c v : Nat} {d : List (Nat × Nat)} : L3Kept k a s (s.laneEvent j c v d) :=
  .of_boards (.laneEvent .refl (by decide)) rfl rfl rfl

theorem putLane {l : LaneRt} : L3Kept k a s (s.putLane l) := .of_boards (.putLane .refl) rfl rfl rfl

theorem put {f : Fld} {v j : Nat} (hf : f ∈ l3Fields) : L3Kept k a s (s.put f v j) := .of_boards (.put .refl hf) rfl rfl rfl

theorem oweErr {key r : Nat} : L3Kept k a s (s.oweErr key r) :=
  have same := State.oweErr_touches (a0 := s) (a1 := key) (a2 := r)
  .of_boards (.oweErr .refl) (by rw [same.lanes_eq rfl]) (by rw [same.lanes_eq rfl]) (same.mem_eq rfl)

theorem bumpUnit {hops : List Nat} {c : Nat} : L3Kept k a s (s.bumpUnit hops c) :=
  have same := State.bumpUnit_touches (a0 := s) (a1 := hops) (a2 := c)
  .of_boards (.bumpUnit .refl (by decide)) (by rw [same.lanes_eq rfl]) (by rw [same.lanes_eq rfl]) (same.mem_eq rfl)

/-- A record may change in what is not said here. -/
theorem putL3 {b : L3Rt} (lane : b.lane = k) (addr : b.addr = a) (poll : b.poll = (s.l3 k a).poll) (run : b.run = (s.l3 k a).run) :
    L3Kept k a s (s.putL3 b) := by
  have here : (s.putL3 b).l3 k a = b := State.l3_placed rfl lane addr
  exact ⟨.upd .refl rfl rfl rfl rfl, by rw [here, poll], by rw [here, run], rfl, rfl⟩

theorem laneDown {l : LaneRt} : L3Kept k a s (s.laneDown l) := by
  have told : L3Kept k a s (if l.owes then s.putLane { l with failed := true, good := 0, healthy := false } else
      (s.putLane { l with failed := true, good := 0, healthy := false }).laneEvent l.k 2 2
        [(32, (s.putLane { l with failed := true, good := 0, healthy := false }).now), (8, 0xFF)]) :=
    .ite (fun _ => putLane) fun _ => putLane.trans laneEvent
  exact .ite (fun _ => (told.trans (.foldl fun _ _ => oweErr)).trans setL3) fun _ => told.trans (.foldl fun _ _ => oweErr)

theorem laneFailing {j : Nat} : L3Kept k a s (s.laneFailing j) :=
  .of_boards (Writes.laneFailing.mono (by decide)) rfl rfl rfl

theorem laneFail {l : LaneRt} : L3Kept k a s (s.laneFail l) := by
  rw [State.laneFail_eq]
  exact .ite (fun _ => laneFailing.trans putLane) fun _ => laneFailing.trans laneDown

end L3Kept

/-- The board's record behind a poll without its answer. -/
def L3Rt.missed (b : L3Rt) (missing : Bool) : L3Rt :=
  { b with poll := none, run := b.run + 1, good := 0, silent := (b.silent || b.run == 0) && missing }

/-- The stale board is counted and its points are due as stale. -/
def State.l3Missed (s : State) (b : L3Rt) (missing : Bool) : State :=
  let t := ((s.putL3 (b.missed missing)).inc F.laneStaleBeats b.lane).putLane { s.lane b.lane with healthy := false }
  t.addDue (t.now + 1) (b.lane * 8 + b.addr) true []

/-- The board alone fails (R223). -/
def State.l3Failed (s : State) (b : L3Rt) : State :=
  let t := (s.putL3 { b with failed := true }).put F.laneBoards (setBit (s.get F.laneBoards b.lane) b.addr false) b.lane
  let t := t.laneEvent b.lane 2 2 [(32, t.now), (8, b.addr)]
  let u := if b.ever then t.oweErr (b.lane * 8 + b.addr) 1 else t
  if b.silent then (u.laneEvent b.lane 7 2 [(8, b.addr)]).bumpUnit [0x0100 + b.lane, b.addr] 6 else u

/-- The first poll without an answer is raised. -/
def State.l3Overdue (s : State) (b : L3Rt) : State := if b.run = 1 then s.laneEvent b.lane 1 1 [(32, s.now)] else s

/-- The board alone fails now. -/
def State.l3Fails (s : State) (b : L3Rt) : Bool :=
  !b.failed && decide (b.run ≥ s.get F.staleLimit b.lane) && s.get F.laneState b.lane != lsCrossover

/-- No board of the lane answers any more. -/
def State.l3Dead (s : State) (k : Nat) : Bool :=
  let bs := (List.range 8).filter (fun a => bitOf (s.get F.l3Boards k) a)
  bs.all (fun a => (s.l3 k a).failed) || bs.all (fun a => decide ((s.l3 k a).last + 40 ≤ s.now))

/-- The lane behind a stale board, before it fails itself. -/
def State.l3Staled (s : State) (b : L3Rt) : State :=
  (if (s.l3Overdue b).l3Fails b then (s.l3Overdue b).l3Failed b else s.l3Overdue b).showL3 b.lane

theorem State.l3Stale_eq (s : State) (b : L3Rt) (missing : Bool) :
    s.l3Stale b missing false =
      let v := (s.l3Missed b missing).l3Staled (b.missed missing)
      if v.l3Dead b.lane ∧ !(v.lane b.lane).failed ∧ v.laneServed b.lane then v.laneFail (v.lane b.lane) else v := rfl

theorem L3Kept.l3Failed {s : State} {b : L3Rt} (poll : b.poll = (s.l3 b.lane b.addr).poll) (run : b.run = (s.l3 b.lane b.addr).run) :
    L3Kept b.lane b.addr s (s.l3Failed b) := by
  have failed {n : Nat} : L3Kept b.lane b.addr s (((s.putL3 { b with failed := true }).put F.laneBoards
      (setBit (s.get F.laneBoards b.lane) b.addr false) b.lane).laneEvent b.lane 2 2 [(32, n), (8, b.addr)]) :=
    ((L3Kept.putL3 (b := { b with failed := true }) rfl rfl poll run).trans (.put (by decide))).trans .laneEvent
  exact .ite (fun _ => ((failed.trans (.ite (fun _ => .oweErr) fun _ => .refl)).trans .laneEvent).trans .bumpUnit) fun _ =>
    failed.trans (.ite (fun _ => .oweErr) fun _ => .refl)

theorem State.l3Stale_spec {s : State} {b : L3Rt} {missing : Bool} :
    ((s.l3Stale b missing false).l3 b.lane b.addr).poll = none ∧
    ((s.l3Stale b missing false).l3 b.lane b.addr).run = b.run + 1 ∧
    (s.l3Stale b missing false).lanes.due = s.lanes.due ++
      [{ beat := s.now + 1, key := b.lane * 8 + b.addr, stale := true, points := [] }] ∧
    (s.l3Stale b missing false).get F.laneStaleBeats b.lane = satInc 32 (s.get F.laneStaleBeats b.lane) ∧
    (s.l3Stale b missing false).mem = s.mem := by
  have whole := s.l3Stale_eq b missing
  have board : (s.l3Missed b missing).l3 b.lane b.addr = b.missed missing := State.l3_placed (s := s) rfl rfl rfl
  have counted : (s.l3Missed b missing).get F.laneStaleBeats b.lane = satInc 32 (s.get F.laneStaleBeats b.lane) :=
    State.get_put_fits (satInc_lt ..)
  have due : (s.l3Missed b missing).lanes.due = s.lanes.due ++
      [{ beat := s.now + 1, key := b.lane * 8 + b.addr, stale := true, points := [] }] := by
    have tick : ((s.putL3 (b.missed missing)).inc F.laneStaleBeats b.lane).now = s.now := State.get_put_apart rfl
    exact congrArg (fun n => s.lanes.due ++ [{ beat := n + 1, key := b.lane * 8 + b.addr, stale := true, points := [] }]) tick
  have mem : (s.l3Missed b missing).mem = s.mem := rfl
  generalize s.l3Missed b missing = t at *
  have told : L3Kept b.lane b.addr t (t.l3Overdue (b.missed missing)) := .ite (fun _ => .laneEvent) fun _ => .refl
  have shown : L3Kept b.lane b.addr t (t.l3Staled (b.missed missing)) :=
    (told.trans (.ite (fun _ => .l3Failed (b := b.missed missing) ((congrArg L3Rt.poll board).symm.trans told.poll.symm)
      ((congrArg L3Rt.run board).symm.trans told.run.symm)) fun _ => .refl)).trans .showL3
  have kept : L3Kept b.lane b.addr t (s.l3Stale b missing false) := whole ▸ .ite (fun _ => shown.trans .laneFail) fun _ => shown
  exact ⟨kept.poll.trans (by rw [board]; rfl), kept.run.trans (by rw [board]; rfl), kept.due.trans due,
    (kept.writes.get rfl).trans counted, kept.mem.trans mem⟩

theorem does_l3ResponseStale {k : Fin 96} {p : Fin 8} {a st c : Nat} {bs : List Nat} {l : List (Nat × Nat)} {s : State}
    (asked : (s.l3 k.val p.val).poll = some (s.now, false)) (bad : c ≠ crc16 (st :: bs) ∨ a % 8 ≠ p.val ∨ 12 < bs.length) :
    Does (.l3ResponseReceive k p false a st c bs l) s fun t =>
      (t.l3 k.val p.val).poll = none ∧ (t.l3 k.val p.val).run = (s.l3 k.val p.val).run + 1 ∧
      t.lanes.due = s.lanes.due ++ [{ beat := s.now + 1, key := k.val * 8 + p.val, stale := true, points := [] }] ∧
      t.get F.laneStaleBeats k.val = satInc 32 (s.get F.laneStaleBeats k.val) ∧ t.mem = s.mem := by
  have fails : ¬(c = crc16 (st :: bs) ∧ a % 8 = p.val ∧ bs.length ≤ 12) := by
    rintro ⟨crc, own, fits⟩
    rcases bad with h | h | h
    · exact h crc
    · exact h own
    · omega
  refine ⟨_, congrArg Host.Outcome.next ((if_neg (by simp [asked])).trans (if_neg fails)), ?_⟩
  obtain ⟨lane, addr⟩ := s.l3_key k.val p.val
  have spec := State.l3Stale_spec (s := s) (b := s.l3 k.val p.val) (missing := false)
  rwa [lane, addr] at spec

theorem does_l3ResponseTimeout {k : Fin 96} {p : Fin 8} {s : State} (asked : (s.l3 k.val p.val).poll = some (s.now, false)) :
    Does (.l3ResponseTimeout k p false) s fun t =>
      (t.l3 k.val p.val).poll = none ∧ (t.l3 k.val p.val).run = (s.l3 k.val p.val).run + 1 ∧
      t.lanes.due = s.lanes.due ++ [{ beat := s.now + 1, key := k.val * 8 + p.val, stale := true, points := [] }] ∧
      t.get F.laneStaleBeats k.val = satInc 32 (s.get F.laneStaleBeats k.val) ∧ t.mem = s.mem := by
  refine ⟨_, congrArg Host.Outcome.next (if_neg (by simp [asked])), ?_⟩
  obtain ⟨lane, addr⟩ := s.l3_key k.val p.val
  have spec := State.l3Stale_spec (s := s) (b := s.l3 k.val p.val) (missing := true)
  rwa [lane, addr] at spec

/-! WSL-E fragments (R51, R52, R226). -/

/-- A fragment that has passed the checks is kept with its exchange. -/
def State.wslKept (s : State) (w : WslRt) (pre : WslPrefix) (f : Frame) : State :=
  let w : WslRt := if w.beat = f.beat ∧ w.frags ≠ [] then w
    else { w with beat := f.beat, xseq := pre.xseq, frags := [], lastFrag := f.frag / 16 % 16, points := [] }
  if pre.xseq ≠ w.xseq ∨ w.frags.contains (f.frag % 16) then s.putWsl w
  else s.putWsl { w with frags := w.frags ++ [f.frag % 16], points := w.points ++ f.points }

/-- The first fragment of an exchange. -/
theorem State.wslKept_first {s : State} {w : WslRt} {pre : WslPrefix} {f : Frame} (first : w.beat ≠ f.beat ∨ w.frags = []) :
    s.wslKept w pre f = s.putWsl { w with beat := f.beat, xseq := pre.xseq, frags := [f.frag % 16]
                                          lastFrag := f.frag / 16 % 16, points := f.points } := by
  have other : ¬(w.beat = f.beat ∧ w.frags ≠ []) := by
    rintro ⟨beat, frags⟩
    exact first.elim (fun h => h beat) frags
  unfold State.wslKept
  dsimp only
  rw [if_neg other]
  exact if_neg (by simp)

/-- A fragment of the port's own direction that is sound. -/
structure WslSound (s : State) (n : Nat) (pre : WslPrefix) (f : Frame) : Prop where
  port : s.get F.wslPort n ≠ 0xFF
  live : s.portLive (s.get F.wslPort n) = true
  magic : pre.magic = 0x5745
  ver : pre.ver = 1
  station : pre.station = s.get F.wslStation n
  sound : frameSound f 1444 = true
  lane : f.lane = 0xFF
  ftype : f.ftype = if s.portUp (s.get F.wslPort n) then 0x21 else 0x22
  dir : pre.dir = if s.portUp (s.get F.wslPort n) then 1 else 2
  claims : s.portUp (s.get F.wslPort n) = true → bitOf f.flags 0 = true

theorem State.wslFrame_sound {s : State} {n off : Nat} {pre : WslPrefix} {f : Frame} (h : WslSound s n pre f) :
    s.wslFrame n off pre f = if !s.rxInTime (s.get F.wslPort n) f.beat off then s.inc F.wslBeatMismatch n
      else s.wslKept (if s.portUp (s.get F.wslPort n) then { s.wslRt n with holder := 1 + bitsOf f.flags 1 1 } else s.wslRt n)
        pre f := by
  obtain ⟨port, live, magic, ver, station, sound, lane, ftype, dir, claims⟩ := h
  have known : ftypeKnown f.ftype = true := by
    rw [ftype]
    split <;> decide
  have own : ¬(s.portUp (s.get F.wslPort n) = true ∧ (!bitOf f.flags 0) = true) := fun ⟨up, off⟩ => by simp [claims up] at off
  exact (if_neg (by simp [port, live])).trans ((if_neg (by simp [magic, ver, station])).trans ((if_neg (by simp [sound])).trans
    ((if_neg (by simp [known])).trans ((if_neg (not_or.2 ⟨not_not.2 ftype, not_or.2 ⟨not_not.2 dir, not_not.2 lane⟩⟩)).trans
    (if_neg own)))))

theorem does_wslFrame_kept {n : Fin 64} {off : Nat} {pre : WslPrefix} {f : Frame} {s : State} {w : WslRt}
    (h : WslSound s n.val pre f) (timely : s.rxInTime (s.get F.wslPort n.val) f.beat off = true)
    (fresh : (s.wslRt n.val).beat ≠ f.beat ∨ (s.wslRt n.val).frags = [])
    (own : (if s.portUp (s.get F.wslPort n.val) then { s.wslRt n.val with holder := 1 + bitsOf f.flags 1 1 } else s.wslRt n.val) = w) :
    Does (.wslFrameReceive n pre f off) s fun t =>
      t.wslRt n.val = { w with beat := f.beat, xseq := pre.xseq, frags := [f.frag % 16]
                               lastFrag := f.frag / 16 % 16, points := f.points } ∧
      t = { s with lanes := { s.lanes with wsl := t.lanes.wsl } } := by
  have same : w.st = n.val ∧ (w.beat ≠ f.beat ∨ w.frags = []) := by
    rw [← own]
    split <;> exact ⟨State.wslRt_st s n.val, fresh⟩
  refine ⟨_, congrArg Host.Outcome.next ((State.wslFrame_sound h).trans ((if_neg (by simp [timely])).trans
    ((congrArg (fun w => s.wslKept w pre f) own).trans (State.wslKept_first same.2)))), State.wslRt_put same.1, rfl⟩

theorem does_wslFrame_late {n : Fin 64} {off : Nat} {pre : WslPrefix} {f : Frame} {s : State} (h : WslSound s n.val pre f)
    (late : s.rxInTime (s.get F.wslPort n.val) f.beat off = false) : Does (.wslFrameReceive n pre f off) s fun t =>
      t.get F.wslBeatMismatch n.val = satInc 32 (s.get F.wslBeatMismatch n.val) ∧ RegsBut [(F.wslBeatMismatch, n.val)] s t ∧
      t = { s with regs := t.regs } :=
  ⟨_, congrArg Host.Outcome.next ((State.wslFrame_sound h).trans (if_pos (by simp [late]))), State.get_put_fits (satInc_lt ..),
    RegsBut.inc (.refl (s := s)) (by simp), rfl⟩

/-! WSL-E exchanges at their deadline (R52, R227). -/

/-- An event of a WSL-E station names the station in the last byte of its data (R228). -/
theorem State.raiseWsl_router {s : State} {port st code sev pad : Nat} {data : List (Nat × Nat)}
    (fits : (data.map Prod.fst).sum + pad = 56) (low : st < 256) :
    (s.raiseWsl port st code sev data).ev.router = s.ev.router ++
      [eventOf s (286 + 2 * port) (0x0100 + code) sev (data ++ [(pad, 0), (8, st)])] := by
  have packed : packData 56 0 0 data = [sideBySide data] := by
    have whole := packData_fit (lim := 56) (cur := 0) (used := 0) (l := data) (r := []) (by omega)
    simpa [packData] using whole
  have joined : ∀ l : List (Nat × Nat), sideBySide (l ++ [(pad, 0), (8, st)]) = sideBySide l + st * 2 ^ ((l.map Prod.fst).sum + pad) := by
    intro l
    induction l with
    | nil => simp [sideBySide, Nat.mod_eq_of_lt low, Nat.mul_comm]
    | cons p l ih =>
      obtain ⟨w, v⟩ := p
      rw [List.cons_append, sideBySide, ih, sideBySide, List.map_cons, List.sum_cons]
      ring
  have one : mkRecs s (286 + 2 * port) (0x0100 + code) sev [sideBySide data + st * 2 ^ 56] =
      [eventOf s (286 + 2 * port) (0x0100 + code) sev (data ++ [(pad, 0), (8, st)])] := by
    have word := joined data
    rw [fits] at word
    rw [eventOf, word]
    simp only [mkRecs, State.now, State.opTime, List.mapIdx_cons, List.mapIdx_nil, beq_iff_eq]
    rfl
  have written : (s.raiseWsl port st code sev data).ev.router =
    s.ev.router ++ mkRecs s (286 + 2 * port) (0x0100 + code) sev ((packData 56 0 0 data).map (fun d => d + st * 2 ^ 56)) := rfl
  rw [written, packed, List.map_singleton, one]

/-- The stations behind a key follow from the program and from the kinds of the lanes. -/
theorem State.stationsAt_same {s t : State} (prog : t.rt.prog = s.rt.prog) (kind : ∀ k, t.get F.laneMode k = s.get F.laneMode k)
    (key : Nat) : t.stationsAt key = s.stationsAt key := by
  have keys : ∀ d, t.stationKey d = s.stationKey d := fun d => by simp only [State.stationKey, kind]
  simp only [State.stationsAt, prog, keys]

theorem Writes.raiseWsl {ws : List Fld} {s t : State} {p n c v : Nat} {d : List (Nat × Nat)} (h : Writes ws s t) (hf : F.raised ∈ ws) :
    Writes ws s (t.raiseWsl p n c v d) :=
  (h.inc (k := 286 + 2 * p) hf).trans ⟨fun _ _ _ => rfl, rfl, rfl, ⟨_, rfl⟩⟩

/-- The station's record behind an exchange that came whole. -/
def WslRt.taken (w : WslRt) : WslRt := { w with run := 0, good := w.good + 1, judged := some w.beat, frags := [] }

/-- The station's record behind an exchange that is missing. -/
def WslRt.gone (w : WslRt) (beat : Nat) : WslRt := { w with run := w.run + 1, good := 0, judged := some beat, frags := [] }

def State.wslTaken (s : State) (w : WslRt) : State :=
  ((s.putWsl w.taken).addDue (w.beat + 2) (1000 + w.st) false w.points).putWsl { w.taken with ever := true }

theorem State.wslGood_live {s : State} {w : WslRt} (sound : w.failed = false) :
    s.wslGood w = (s.wslTaken w).put F.wslState lsLive w.st :=
  (if_neg (by simp [sound])).trans (if_neg (by simp [sound]))

def State.wslGone (s : State) (w : WslRt) (beat : Nat) : State :=
  (s.putWsl (w.gone beat)).addDue (beat + 2) (1000 + w.st) true []

def State.wslLate (s : State) (w : WslRt) (beat : Nat) : State :=
  (s.wslGone w beat).raiseWsl (s.get F.wslPort w.st) w.st 1 1 [(32, beat)]

/-- The first missing exchange of a run. -/
theorem State.wslStale_first {s : State} {w : WslRt} {beat : Nat} (sound : w.failed = false) (ever : w.ever = true)
    (first : w.run = 0) (below : 1 < s.get F.wslStaleLimit w.st) :
    s.wslStale w beat = (s.wslLate w beat).put F.wslState lsStale w.st := by
  have raised : (if (w.gone beat).run = 1 then s.wslLate w beat else s.wslGone w beat) = s.wslLate w beat :=
    if_pos (by simp [WslRt.gone, first])
  have limit : ((s.wslLate w beat).put F.wslState lsStale w.st).get F.wslStaleLimit w.st = s.get F.wslStaleLimit w.st :=
    (State.get_put_apart rfl).trans (State.get_put_apart rfl)
  have stands : ¬(w.gone beat).run ≥ ((if (w.gone beat).run = 1 then s.wslLate w beat else s.wslGone w beat).put F.wslState lsStale
      w.st).get F.wslStaleLimit w.st := by
    rw [raised, limit]
    simp only [WslRt.gone, first]
    omega
  exact (if_neg (by simp [sound, ever])).trans ((if_neg stands).trans (congrArg (fun t : State => t.put F.wslState lsStale w.st) raised))

def State.wslLost (s : State) (w : WslRt) (beat : Nat) : State :=
  (((s.wslGone w beat).put F.wslState lsStale w.st).putWsl { w.gone beat with failed := true }).put F.wslState lsFailed w.st

/-- The missing exchange that fails the station. -/
theorem State.wslStale_fails {s : State} {w : WslRt} {beat : Nat} (sound : w.failed = false) (ever : w.ever = true)
    (behind : w.run ≠ 0) (limit : s.get F.wslStaleLimit w.st ≤ w.run + 1) :
    s.wslStale w beat = ((s.wslLost w beat).raiseWsl (s.get F.wslPort w.st) w.st 2 2
      [(32, (s.wslLost w beat).now), (8, 0xFF)]).oweErr (1000 + w.st) 1 := by
  have quiet : (if (w.gone beat).run = 1 then s.wslLate w beat else s.wslGone w beat) = s.wslGone w beat :=
    if_neg (by simp [WslRt.gone, behind])
  have fails : (w.gone beat).run ≥ ((if (w.gone beat).run = 1 then s.wslLate w beat else s.wslGone w beat).put F.wslState lsStale
      w.st).get F.wslStaleLimit w.st := by
    rw [quiet]
    exact Nat.le_trans (Nat.le_of_eq (State.get_put_apart rfl)) limit
  exact (if_neg (by simp [sound, ever])).trans ((if_pos fails).trans (congrArg (fun t : State =>
    (((t.put F.wslState lsStale w.st).putWsl { w.gone beat with failed := true }).put F.wslState lsFailed w.st |>.raiseWsl
      (s.get F.wslPort w.st) w.st 2 2 [(32, ((((t.put F.wslState lsStale w.st).putWsl { w.gone beat with failed := true }).put
        F.wslState lsFailed w.st)).now), (8, 0xFF)]).oweErr (1000 + w.st) 1) quiet))

section

variable {n : Fin 64} {s : State} (port : s.get F.wslPort n.val ≠ 0xFF)
  (live : s.portLive (s.get F.wslPort n.val) = true) (began : s.now ≠ 0)
  (due : (s.now - 1) % 4 = s.rxCadence (s.get F.wslPort n.val)) (unjudged : (s.wslRt n.val).judged ≠ some (s.now - 1))

include port live began due unjudged

theorem does_wslExchangeGood (beat : (s.wslRt n.val).beat = s.now - 1) (frags : (s.wslRt n.val).frags ≠ [])
    (whole : (s.wslRt n.val).whole = true) (sound : (s.wslRt n.val).failed = false) : Does (.wslExchangeDeadline n) s fun t =>
      t.get F.wslState n.val = 2 ∧ (t.wslRt n.val).judged = some (s.now - 1) ∧ (t.wslRt n.val).run = 0 ∧
      t.lanes.due = s.lanes.due ++
        [{ beat := s.now + 1, key := 1000 + n.val, stale := false, points := (s.wslRt n.val).points }] ∧
      RegsBut [(F.wslState, n.val)] s t ∧ t.ev = s.ev ∧ t.mem = s.mem := by
  have judged : s.wslDeadline n.val = s.wslGood (s.wslRt n.val) :=
    (if_neg (by simp [port, live, began])).trans ((if_neg (by simp [due, unjudged])).trans (if_pos ⟨beat, frags, whole⟩))
  refine ⟨_, congrArg Host.Outcome.next (judged.trans (State.wslGood_live sound)), ?_⟩
  have st := s.wslRt_st n.val
  generalize s.wslRt n.val = w at *
  have record : ((s.wslTaken w).put F.wslState lsLive w.st).wslRt n.val = { w.taken with ever := true } :=
    State.wslRt_put (s := (s.putWsl w.taken).addDue (w.beat + 2) (1000 + w.st) false w.points) st
  have arrives : w.beat + 2 = s.now + 1 := by omega
  refine ⟨?_, by rw [record, ← beat]; rfl, by rw [record]; rfl, ?_, ?_, rfl, rfl⟩
  · rw [← st, State.get_put_self]
    decide
  · rw [← st, ← arrives]
    rfl
  · rw [← st]
    exact RegsBut.put (.regs (.refl (s := s)) rfl) (by simp)

variable (missing : (s.wslRt n.val).beat ≠ s.now - 1) (sound : (s.wslRt n.val).failed = false) (ever : (s.wslRt n.val).ever = true)

include missing sound ever

theorem does_wslExchangeStale (first : (s.wslRt n.val).run = 0) (below : 1 < s.get F.wslStaleLimit n.val) :
    Does (.wslExchangeDeadline n) s fun t =>
      t.get F.wslState n.val = 3 ∧ (t.wslRt n.val).run = 1 ∧
      t.lanes.due = s.lanes.due ++ [{ beat := s.now + 1, key := 1000 + n.val, stale := true, points := [] }] ∧
      Raised [eventOf s (286 + 2 * s.get F.wslPort n.val) 0x0101 1 [(32, s.now - 1), (24, 0), (8, n.val)]] s t ∧
      RegsBut [(F.wslState, n.val), (F.raised, 286 + 2 * s.get F.wslPort n.val)] s t ∧ t.mem = s.mem := by
  have judged : s.wslDeadline n.val = s.wslStale (s.wslRt n.val) (s.now - 1) :=
    (if_neg (by simp [port, live, began])).trans ((if_neg (by simp [due, unjudged])).trans (if_neg (by simp [missing])))
  have st := s.wslRt_st n.val
  refine ⟨_, congrArg Host.Outcome.next (judged.trans (State.wslStale_first sound ever first (by rwa [st]))), ?_⟩
  generalize s.wslRt n.val = w at *
  have record : ((s.wslLate w (s.now - 1)).put F.wslState lsStale w.st).wslRt n.val = w.gone (s.now - 1) :=
    State.wslRt_put (s := s) st
  have arrives : s.now - 1 + 2 = s.now + 1 := by omega
  have router := State.raiseWsl_router (s := s.wslGone w (s.now - 1)) (port := s.get F.wslPort w.st) (st := w.st) (code := 1) (sev := 1)
    (pad := 24) (data := [(32, s.now - 1)]) (by simp) (by omega)
  refine ⟨?_, by rw [record]; simp [WslRt.gone, first], ?_, ?_, ?_, rfl⟩
  · rw [← st, State.get_put_self]
    decide
  · rw [← st, ← arrives]
    rfl
  · rw [← st]
    exact congrArg (fun r => { s.ev with router := r }) router
  · rw [← st]
    exact RegsBut.put (.regs (RegsBut.inc (.refl (s := s)) (by simp)) rfl) (by simp)

theorem does_wslExchangeFailed (behind : (s.wslRt n.val).run ≠ 0) (limit : s.get F.wslStaleLimit n.val ≤ (s.wslRt n.val).run + 1)
    (serves : s.serving = true) : Does (.wslExchangeDeadline n) s fun t =>
      t.get F.wslState n.val = 4 ∧ (t.wslRt n.val).failed = true ∧
      Raised [eventOf s (286 + 2 * s.get F.wslPort n.val) 0x0102 2 [(32, s.now), (8, 0xFF), (16, 0), (8, n.val)]] s t ∧
      t.rt.errQ = s.rt.errQ ++ (s.stationsAt (1000 + n.val)).map (fun d => (d.idx, 1)) ∧ t.mem = s.mem := by
  have judged : s.wslDeadline n.val = s.wslStale (s.wslRt n.val) (s.now - 1) :=
    (if_neg (by simp [port, live, began])).trans ((if_neg (by simp [due, unjudged])).trans (if_neg (by simp [missing])))
  have st := s.wslRt_st n.val
  refine ⟨_, congrArg Host.Outcome.next (judged.trans (State.wslStale_fails sound ever behind (by rwa [st]))), ?_⟩
  generalize s.wslRt n.val = w at *
  have now : (s.wslLost w (s.now - 1)).now = s.now := (State.get_put_apart rfl).trans (State.get_put_apart rfl)
  have role : ∀ m, ((s.wslLost w (s.now - 1)).raiseWsl (s.get F.wslPort w.st) w.st 2 2 [(32, m), (8, 0xFF)]).serving = s.serving := by
    intro m
    have kept : ((s.wslLost w (s.now - 1)).raiseWsl (s.get F.wslPort w.st) w.st 2 2 [(32, m), (8, 0xFF)]).get F.role = s.get F.role :=
      (State.get_put_apart rfl).trans ((State.get_put_apart rfl).trans (State.get_put_apart rfl))
    rw [State.serving, kept]
    rfl
  have record : (s.wslLost w (s.now - 1)).wslRt n.val = { w.gone (s.now - 1) with failed := true } :=
    State.wslRt_put (s := (s.wslGone w (s.now - 1)).put F.wslState lsStale w.st) st
  have shown : (s.wslLost w (s.now - 1)).get F.wslState w.st = 4 := State.get_put_self ..
  have wrote : Writes [F.wslState] s (s.wslLost w (s.now - 1)) :=
    .put (.upd (.put (.upd .refl rfl rfl rfl rfl) (by decide)) rfl rfl rfl rfl) (by decide)
  have router := State.raiseWsl_router (s := s.wslLost w (s.now - 1)) (port := s.get F.wslPort w.st) (st := w.st) (code := 2) (sev := 2)
    (pad := 16) (data := [(32, s.now), (8, 0xFF)]) (by simp) (by omega)
  rw [wrote.eventOf rfl] at router
  have stations : ((s.wslLost w (s.now - 1)).raiseWsl (s.get F.wslPort w.st) w.st 2 2 [(32, s.now), (8, 0xFF)]).stationsAt (1000 + w.st) =
      s.stationsAt (1000 + w.st) := by
    apply State.stationsAt_same
    case prog => rfl
    case kind => exact fun k => (State.get_put_apart rfl).trans (wrote.get rfl)
  rw [now, State.oweErr, if_pos ((role _).trans serves)]
  refine ⟨?_, ?_, ?_, ?_, rfl⟩
  · rw [← st]
    exact (State.get_put_apart rfl).trans shown
  · exact congrArg WslRt.failed record
  · rw [← st]
    exact congrArg (fun r => { s.ev with router := r }) router
  · rw [← st, ← stations]
    rfl

end

/-! Gates (R228). -/

theorem does_wslGateOpen {p : Fin 12} {s : State}
    (due : s.portUp p.val = true ∧ s.serving = true ∧ s.now % 4 = 2 ∨ s.portDown p.val = true ∧ s.now % 4 = 3)
    (shut : p.val ∉ s.lanes.gates) : Does (.wslGateOpen p) s fun t =>
    t = { s with lanes := { s.lanes with gates := s.lanes.gates ++ [p.val] } } :=
  ⟨_, congrArg Host.Outcome.next (if_pos ⟨due, by simp [shut]⟩), rfl⟩

/-- The port's gate is shut. -/
def State.gateShut (s : State) (p : Nat) : State :=
  { s with lanes := { s.lanes with gates := s.lanes.gates.filter (fun g => g != p) } }

theorem satAdd_lt (w v d : Nat) : satAdd w v d < 2 ^ w := by
  have := Nat.two_pow_pos w
  unfold satAdd
  split <;> omega

theorem does_wslGateClose {p : Fin 12} {n : Nat} {k : Fin 64} {s : State} (opened : p.val ∈ s.lanes.gates)
    (port : s.get F.wslPort k.val = p.val) (lowest : ∀ j, j < k.val → s.get F.wslPort j ≠ p.val) : Does (.wslGateClose p n) s fun t =>
      p.val ∉ t.lanes.gates ∧ t.get F.wslGateOverrun k.val = satAdd 32 (s.get F.wslGateOverrun k.val) n ∧
      RegsBut [(F.wslGateOverrun, k.val)] s t ∧ t = { s with regs := t.regs, lanes := { s.lanes with gates := t.lanes.gates } } := by
  have named : (List.range 64).find? (fun n => (s.gateShut p.val).get F.wslPort n == p.val) = some k.val :=
    List.find?_range_eq_some.2 ⟨beq_iff_eq.2 port, List.mem_range.2 k.isLt, fun j hj => by
      simpa using show (s.gateShut p.val).get F.wslPort j ≠ p.val from lowest j hj⟩
  have counted : (match (List.range 64).find? (fun n => (s.gateShut p.val).get F.wslPort n == p.val) with
      | some m => (s.gateShut p.val).add F.wslGateOverrun n m
      | none => s.gateShut p.val) = (s.gateShut p.val).add F.wslGateOverrun n k.val := by rw [named]
  exact ⟨_, congrArg Host.Outcome.next ((if_neg (by simp [opened])).trans counted), by simp [State.gateShut, State.add, State.put],
    State.get_put_fits (satAdd_lt ..), RegsBut.add (.regs (.refl (s := s)) rfl) (by simp), rfl⟩

/-- Settles O40: each poll, answer, fragment and deadline is one branch of the model's own case distinction; what the lane books
behind a stale board leaves the board's record and the points that are due as they were. -/
theorem l3PollsAndWslExchanges : Obligations.L3PollsAndWslExchanges := by
  unfold Obligations.L3PollsAndWslExchanges
  refine ⟨fun k p s => does_l3Poll, fun k p s h => ⟨s, ?_, rfl⟩, fun k p s => does_l3CheckPoll, fun k p s h => ⟨s, ?_, rfl⟩,
    fun k p a st bs l s => does_l3ResponseReceive, fun k p a st bs c l s => does_l3ResponseStale, fun k p b a st bs c l s h => ⟨s, ?_, rfl⟩,
    fun k p s => does_l3ResponseTimeout, fun k p c s h => ⟨s, ?_, rfl⟩, ?_, ?_, ?_, fun n off pre f s h => ⟨s, ?_, rfl⟩,
    fun n s => does_wslExchangeGood, fun n s => does_wslExchangeStale, fun n s => does_wslExchangeFailed, fun n s h => ⟨s, ?_, rfl⟩,
    fun p s => does_wslGateOpen, fun p s h => ⟨s, ?_, rfl⟩, fun p n k s => does_wslGateClose, fun p n s h => ⟨s, ?_, rfl⟩⟩
  case refine_1 =>
    refine congrArg Host.Outcome.next (if_neg ?_)
    rintro ⟨-, -, claim, fits, due⟩
    rcases h with h | h | h
    · omega
    · exact h due
    · simp [h] at fits
  case refine_2 =>
    refine congrArg Host.Outcome.next (if_neg ?_)
    rintro ⟨-, -, claim, due⟩
    omega
  case refine_3 => exact congrArg Host.Outcome.next (if_pos (by simp [h]))
  case refine_4 => exact congrArg Host.Outcome.next (if_pos (by simp [h]))
  case refine_5 =>
    intro n off pre f s port notUp down magic ver station dir sound ftype lane timely fresh
    exact does_wslFrame_kept ⟨port, by simp [State.portLive, notUp, down], magic, ver, station, sound, lane, by simp [notUp, ftype],
      by simp [notUp, dir], by simp [notUp]⟩ timely fresh (if_neg (by simp [notUp]))
  case refine_6 =>
    intro n off pre f s port up serves magic ver station dir sound ftype lane claims timely fresh
    exact does_wslFrame_kept ⟨port, by simp [State.portLive, up, serves], magic, ver, station, sound, lane, by simp [up, ftype],
      by simp [up, dir], fun _ => claims⟩ timely fresh (if_pos up)
  case refine_7 =>
    intro n off pre f s port notUp down magic ver station dir sound ftype lane late
    exact does_wslFrame_late ⟨port, by simp [State.portLive, notUp, down], magic, ver, station, sound, lane, by simp [notUp, ftype],
      by simp [notUp, dir], by simp [notUp]⟩ late
  case refine_8 => exact congrArg Host.Outcome.next (if_pos (by rcases h with h | h <;> simp [h]))
  case refine_9 => exact congrArg Host.Outcome.next (if_pos (by rcases h with h | h <;> simp [h]))
  case refine_10 =>
    refine congrArg Host.Outcome.next (if_neg ?_)
    rintro ⟨⟨-, -, due⟩ | ⟨-, due⟩, -⟩ <;> omega
  case refine_11 => exact congrArg Host.Outcome.next (if_pos (by simp [h]))

end Sys2Proof.Machine

namespace Sys2Proof.Machine

open Sys2Proof

/-! Lanes that fail and return (R104 to R106, R160, R216). -/

/-- A module that serves owes the stations behind a key a run of the error task. -/
theorem State.oweErr_serving {ws : List Fld} {s t : State} {key r : Nat} (serves : s.serving = true) (w : Writes ws s t)
    (role : F.role.offAll ws = true) (kind : F.laneMode.offAll ws = true) (rt : t.rt.errQ = s.rt.errQ) (prog : t.rt.prog = s.rt.prog) :
    (t.oweErr key r).rt.errQ = s.rt.errQ ++ (s.stationsAt key).map (fun d => (d.idx, r)) := by
  have still : t.serving = true := by
    rw [State.serving, w.get role]
    exact serves
  have stations := State.stationsAt_same prog (fun _ => w.get kind) key
  rw [State.oweErr, if_pos still, ← stations, ← rt]

theorem State.oweErr_regs (s : State) (key r : Nat) : (s.oweErr key r).regs = s.regs := State.oweErr_touches.regs_eq rfl

/-- The lane's record behind an exchange that is missing. -/
def LaneRt.missed (l : LaneRt) : LaneRt := { l with run := l.run + 1, good := 0, healthy := false }

/-- The missing exchange is counted. -/
def State.laneCounted (s : State) (l : LaneRt) : State :=
  ((s.putLane l.missed).inc F.laneStaleBeats l.k).put F.laneStaleRun (min l.missed.run 15) l.k

/-- The points of the exchange are due as stale. -/
def State.laneMissed (s : State) (l : LaneRt) : State :=
  (s.laneCounted l).addDue ((s.laneCounted l).exchangeImage l.k) (l.k * 8) true []

/-- What the lane shows and raises of a missing exchange. -/
def State.laneLate (s : State) (l : LaneRt) : State :=
  let s := if s.get F.laneState l.k = lsCrossover then s else s.addDue (s.exchangeImage l.k) (l.k * 8) true []
  let s := if s.get F.laneState l.k = lsLive then s.put F.laneState lsStale l.k else s
  if l.run = 1 then s.laneEvent l.k 1 1 [(32, s.exchangeEdge l.k)] else s

theorem State.laneStale_eq (s : State) (l : LaneRt) : s.laneStale l =
    let t := (s.laneCounted l).laneLate l.missed
    if l.missed.run ≥ t.get F.staleLimit l.k ∧ t.get F.laneState l.k = lsStale then t.laneFail l.missed else t := rfl

theorem Writes.laneCounted {s : State} {l : LaneRt} : Writes [F.laneStaleBeats, F.laneStaleRun] s (s.laneCounted l) :=
  .put (.inc (.putLane .refl) (by decide)) (by decide)

theorem Writes.laneMissed {s : State} {l : LaneRt} : Writes [F.laneStaleBeats, F.laneStaleRun] s (s.laneMissed l) :=
  .upd .laneCounted rfl rfl rfl rfl

/-- A further missing exchange of a stale lane, at its limit. -/
theorem State.laneStale_fails {s : State} {l : LaneRt} (stale : s.get F.laneState l.k = lsStale) (behind : l.run ≠ 0)
    (limit : s.get F.staleLimit l.k ≤ l.run + 1) : s.laneStale l = (s.laneMissed l).laneFail l.missed := by
  have counted : (s.laneCounted l).get F.laneState l.k = lsStale := (Writes.laneCounted.get rfl).trans stale
  have still : (s.laneMissed l).get F.laneState l.k = lsStale := (Writes.laneMissed.get rfl).trans stale
  have late : (s.laneCounted l).laneLate l.missed = s.laneMissed l := by
    have due : (if (s.laneCounted l).get F.laneState l.missed.k = lsCrossover then s.laneCounted l else
        (s.laneCounted l).addDue ((s.laneCounted l).exchangeImage l.missed.k) (l.missed.k * 8) true []) = s.laneMissed l :=
      if_neg (fun h => absurd (counted.symm.trans h) (by decide))
    unfold State.laneLate
    dsimp only
    have live : ¬(s.laneMissed l).get F.laneState l.missed.k = lsLive := fun h => absurd (still.symm.trans h) (by decide)
    rw [due, if_neg live, if_neg (by simp [LaneRt.missed, behind])]
  rw [State.laneStale_eq, late]
  refine if_pos ⟨?_, still⟩
  rw [Writes.laneMissed.get rfl]
  exact limit

/-- The record of a lane that has failed. -/
def LaneRt.out (l : LaneRt) : LaneRt := { l with failed := true, good := 0, healthy := false }

/-- The lane fails without a crossover while its points had been live: LANE_FAILED, and a run of the error task is owed. -/
def State.laneAlone (s : State) (l : LaneRt) : State :=
  let t := s.putLane l.out
  (t.laneEvent l.k 2 2 [(32, t.now), (8, 0xFF)]).oweErr (l.k * 8) 1

theorem State.laneDown_eq (s : State) (l : LaneRt) : s.laneDown l =
    if ((s.liveKeys l.out).foldl (fun s key => s.oweErr key 1) (if l.owes then s.putLane l.out else
        (s.putLane l.out).laneEvent l.k 2 2 [(32, (s.putLane l.out).now), (8, 0xFF)])).get F.laneMode l.k = 3 then
      ((s.liveKeys l.out).foldl (fun s key => s.oweErr key 1) (if l.owes then s.putLane l.out else
        (s.putLane l.out).laneEvent l.k 2 2 [(32, (s.putLane l.out).now), (8, 0xFF)])).setL3 l.k true
    else (s.liveKeys l.out).foldl (fun s key => s.oweErr key 1) (if l.owes then s.putLane l.out else
        (s.putLane l.out).laneEvent l.k 2 2 [(32, (s.putLane l.out).now), (8, 0xFF)]) := rfl

theorem State.laneDown_alone {s : State} {l : LaneRt} (mode : s.get F.laneMode l.k ≠ 3) (ever : l.ever = true)
    (paid : l.owes = false) : s.laneDown l = s.laneAlone l := by
  have keys : s.liveKeys l.out = [l.k * 8] := (if_neg mode).trans (if_pos ever)
  have told : (if l.owes then s.putLane l.out else (s.putLane l.out).laneEvent l.k 2 2 [(32, (s.putLane l.out).now), (8, 0xFF)]) =
      (s.putLane l.out).laneEvent l.k 2 2 [(32, (s.putLane l.out).now), (8, 0xFF)] := if_neg (by simp [paid])
  rw [State.laneDown_eq, told, keys]
  refine if_neg ?_
  have wrote : Writes [F.raised] s (s.laneAlone l) := .oweErr (.laneEvent (.putLane .refl) (by decide))
  exact (wrote.get rfl : (s.laneAlone l).get F.laneMode l.k = _).trans_ne mode

/-- The exchange that runs has no accepted frame when it is judged. -/
theorem State.windowEnd_missed {s : State} {k : Nat} (state : s.get F.laneState k = 3) (mode : s.get F.laneMode k = 1)
    (unjudged : (s.lane k).judged ≠ some s.now) (missing : (s.lane k).accepted ≠ some s.now) (behind : (s.lane k).run ≠ 0)
    (limit : s.get F.staleLimit k ≤ (s.lane k).run + 1) :
    s.windowEnd k = (s.laneMissed { s.lane k with judged := some s.now }).laneFail
      ({ s.lane k with judged := some s.now } : LaneRt).missed := by
  have edge : s.exchangeEdge k = s.now := if_neg (by omega)
  have key := s.lane_k k
  have served : s.laneServed k = true := by simp [State.laneServed, state]
  have judged : s.windowEnd k = s.laneStale { s.lane k with judged := some (s.exchangeEdge k) } :=
    (if_neg (by simp [served, mode, edge, unjudged])).trans (if_neg (by simp [edge, missing]))
  rw [judged, edge]
  refine State.laneStale_fails ?_ behind ?_
  · exact key.symm ▸ state
  · exact key.symm ▸ limit

theorem Writes.laneAlone {s : State} {l : LaneRt} : Writes [F.raised] s (s.laneAlone l) :=
  .oweErr (.laneEvent (.putLane .refl) (by decide))

/-- What a lane that fails alone shows and owes. -/
theorem State.laneAlone_spec {ws : List Fld} {s t : State} {l : LaneRt} (w : Writes ws s t) (serves : s.serving = true) (ev : t.ev = s.ev)
    (rt : t.rt = s.rt) (mem : t.mem = s.mem) (role : F.role.offAll (F.raised :: ws) = true)
    (kind : F.laneMode.offAll (F.raised :: ws) = true) (free : (stampFields.all fun g => g.offAll ws) = true) :
    ((t.laneAlone l).lane l.k).failed = true ∧ Raised [eventOf s l.k 2 2 [(32, s.now), (8, 0xFF)]] s (t.laneAlone l) ∧
    (t.laneAlone l).rt.errQ = s.rt.errQ ++ (s.stationsAt (l.k * 8)).map (fun d => (d.idx, 1)) ∧ (t.laneAlone l).mem = s.mem := by
  have now : (t.putLane l.out).now = s.now := w.fields F.beatIndex 0 (List.all_eq_true.1 free _ (by simp [stampFields]))
  have told : Writes (F.raised :: ws) s ((t.putLane l.out).laneEvent l.k 2 2 [(32, (t.putLane l.out).now), (8, 0xFF)]) :=
    .laneEvent (.putLane (w.mono fun f hf => List.mem_cons_of_mem _ hf)) List.mem_cons_self
  have touched := State.oweErr_touches (a0 := (t.putLane l.out).laneEvent l.k 2 2 [(32, (t.putLane l.out).now), (8, 0xFF)])
    (a1 := l.k * 8) (a2 := 1)
  have raised : Raised [eventOf s l.k 2 2 [(32, s.now), (8, 0xFF)]] s
      ((t.putLane l.out).laneEvent l.k 2 2 [(32, (t.putLane l.out).now), (8, 0xFF)]) := by
    rw [now]
    exact w.putLane.raised ev free (by simp)
  refine ⟨?_, (touched.ev_eq rfl).trans raised, State.oweErr_serving serves told role kind (congrArg RtSt.errQ rt)
    (congrArg RtSt.prog rt), (touched.mem_eq rfl).trans mem⟩
  rw [State.laneAlone, State.lane_of_lanes (s := t.putLane l.out) (by rw [touched.lanes_eq rfl]; rfl)]
  exact congrArg LaneRt.failed (State.lane_put rfl)

/-- What the choice between a crossover and substitutes reads. -/
def partnerFields : List Fld := [F.role, F.triad, F.linkUp, F.partnerLanes]

theorem State.partner_same {ws : List Fld} {s t : State} (w : Writes ws s t) (pair : t.pair = s.pair)
    (off : (partnerFields.all fun g => g.offAll ws) = true) :
    t.serving = s.serving ∧ t.hasPartner = s.hasPartner ∧ ∀ k, t.partnerHealthy k = s.partnerHealthy k := by
  have same : ∀ g ∈ partnerFields, t.get g = s.get g := fun g hg => w.fields g 0 (List.all_eq_true.1 off g hg)
  have role := same F.role (by simp [partnerFields])
  have triad := same F.triad (by simp [partnerFields])
  have link := same F.linkUp (by simp [partnerFields])
  have lanes := same F.partnerLanes (by simp [partnerFields])
  have partner : t.hasPartner = s.hasPartner := by
    simp only [State.hasPartner, State.alone, role, triad, link, pair]
  exact ⟨by simp only [State.serving, role], partner, fun k => by simp only [State.partnerHealthy, partner, lanes]⟩

theorem State.laneFail_alone {s : State} {l : LaneRt} (ill : ¬(s.serving = true ∧ s.partnerHealthy l.k = true))
    (mode : s.get F.laneMode l.k ≠ 3) (ever : l.ever = true) (paid : l.owes = false) :
    s.laneFail l = (s.laneFailing l.k).laneAlone l := by
  obtain ⟨serves, -, healthy⟩ := State.partner_same (s := s) (t := s.laneFailing l.k) .laneFailing rfl rfl
  have still : (s.laneFailing l.k).get F.laneMode l.k ≠ 3 := by rwa [Writes.laneFailing.get rfl]
  rw [State.laneFail_eq, if_neg (by rwa [serves, healthy]), State.laneDown_alone still ever paid]

theorem State.laneFail_crosses {s : State} {l : LaneRt} (serving : s.serving = true) (partner : s.partnerHealthy l.k = true) :
    s.laneFail l = (s.laneFailing l.k).putLane { l with failed := true, good := 0, healthy := false
                                                        crossAt := some (s.now + 1), probes := 0, owes := false } := by
  obtain ⟨serves, -, healthy⟩ := State.partner_same (s := s) (t := s.laneFailing l.k) .laneFailing rfl rfl
  have now : (s.laneFailing l.k).now = s.now := Writes.laneFailing.get rfl
  rw [State.laneFail_eq, if_pos ⟨serves.trans serving, (healthy _).trans partner⟩, now]

/-- The state of a lane that fails, and its count. -/
theorem State.laneFailing_shows (s : State) (k : Nat) : (s.laneFailing k).get F.laneState k = 4 ∧
    (s.laneFailing k).get F.laneFailures k = satInc 32 (s.get F.laneFailures k) :=
  ⟨State.get_put_self .., (State.get_put_apart rfl).trans ((State.get_put_apart rfl).trans (State.get_put_fits (satInc_lt ..)))⟩

section

variable {k : Fin 96} {s : State} (state : s.get F.laneState k.val = 3) (mode : s.get F.laneMode k.val = 1)
  (unjudged : (s.lane k.val).judged ≠ some s.now) (missing : (s.lane k.val).accepted ≠ some s.now) (behind : (s.lane k.val).run ≠ 0)
  (limit : s.get F.staleLimit k.val ≤ (s.lane k.val).run + 1) (serves : s.serving = true)

include state mode unjudged missing behind limit serves

theorem does_laneFails (ill : s.partnerHealthy k.val = false) (ever : (s.lane k.val).ever = true) (paid : (s.lane k.val).owes = false) :
    Does (.exchangeWindowEnd k) s fun t =>
      t.get F.laneState k.val = 4 ∧ t.get F.laneFailures k.val = satInc 32 (s.get F.laneFailures k.val) ∧
      (t.lane k.val).failed = true ∧ Raised [eventOf s k.val 2 2 [(32, s.now), (8, 0xFF)]] s t ∧
      t.rt.errQ = s.rt.errQ ++ (s.stationsAt (k.val * 8)).map (fun d => (d.idx, 1)) ∧ t.mem = s.mem := by
  refine ⟨_, congrArg Host.Outcome.next (State.windowEnd_missed state mode unjudged missing behind limit), ?_⟩
  have key := s.lane_k k.val
  generalize hj : ({ s.lane k.val with judged := some s.now } : LaneRt) = j
  have own : j.k = k.val ∧ j.missed.ever = true ∧ j.missed.owes = false := by
    rw [← hj]
    exact ⟨key, ever, paid⟩
  obtain ⟨jk, jever, jowes⟩ := own
  have counted : Writes [F.laneStaleBeats, F.laneStaleRun] s (s.laneMissed j) := .laneMissed
  have parts : (s.laneMissed j).pair = s.pair ∧ (s.laneMissed j).ev = s.ev ∧ (s.laneMissed j).mem = s.mem ∧
      (s.laneMissed j).rt = s.rt := ⟨rfl, rfl, rfl, rfl⟩
  obtain ⟨pair, ev, mem, rt⟩ := parts
  generalize s.laneMissed j = t at *
  obtain ⟨serving, -, healthy⟩ := State.partner_same counted pair rfl
  have failed : t.laneFail j.missed = (t.laneFailing j.missed.k).laneAlone j.missed := by
    refine State.laneFail_alone (fun ⟨_, well⟩ => ?_) ?_ jever jowes
    · rw [healthy, show j.missed.k = k.val from jk, ill] at well
      exact absurd well (by decide)
    · rw [counted.get rfl, show j.missed.k = k.val from jk, mode]
      decide
  have wrote : Writes (F.laneStaleBeats :: F.laneStaleRun :: laneFields) s (t.laneFailing j.missed.k) :=
    (counted.mono (by decide)).trans (Writes.laneFailing.mono (by decide))
  obtain ⟨shown, failures⟩ := State.laneFailing_shows t j.missed.k
  obtain ⟨out, raised, owed, memory⟩ := State.laneAlone_spec (l := j.missed) wrote serves ev rt mem rfl rfl rfl
  have missedK : j.missed.k = k.val := jk
  rw [missedK] at failed shown failures out raised owed memory
  rw [failed]
  exact ⟨(Writes.laneAlone.get rfl).trans shown, (Writes.laneAlone.get rfl).trans (failures.trans (by rw [counted.get rfl])),
    out, raised, owed, memory⟩

theorem does_laneCrosses (partner : s.partnerHealthy k.val = true) : Does (.exchangeWindowEnd k) s fun t =>
      t.get F.laneState k.val = 4 ∧ (t.lane k.val).crossAt = some (s.now + 1) ∧ t.ev = s.ev ∧ t.rt.errQ = s.rt.errQ := by
  refine ⟨_, congrArg Host.Outcome.next (State.windowEnd_missed state mode unjudged missing behind limit), ?_⟩
  have key := s.lane_k k.val
  generalize hj : ({ s.lane k.val with judged := some s.now } : LaneRt) = j
  have jk : j.missed.k = k.val := hj ▸ key
  have counted : Writes [F.laneStaleBeats, F.laneStaleRun] s (s.laneMissed j) := .laneMissed
  obtain ⟨serving, -, healthy⟩ := State.partner_same counted rfl rfl
  have now : (s.laneMissed j).now = s.now := counted.get rfl
  have crossed := State.laneFail_crosses (l := j.missed) (serving.trans serves) ((healthy _).trans (jk.symm ▸ partner))
  rw [crossed, now]
  refine ⟨jk ▸ (State.laneFailing_shows _ _).1, ?_, rfl, rfl⟩
  rw [State.lane_put (by exact jk)]

end

end Sys2Proof.Machine

namespace Sys2Proof.Machine

open Sys2Proof

/-! Lanes that return (R106). -/

/-- The lane's record behind an accepted exchange. -/
def LaneRt.better (l : LaneRt) : LaneRt := { l with run := 0, good := l.good + 1, healthy := true }

/-- The exchange ends a run of stale ones. -/
def State.laneFine (s : State) (l : LaneRt) : State := (s.putLane l.better).put F.laneStaleRun 0 l.k

/-- The lane joins again, without a failure to raise first. -/
def State.laneJoins (s : State) (l : LaneRt) : State :=
  let t := (s.put F.laneState lsLive l.k).putLane { l with owes := false, failed := false, ever := true, good := 0 }
  (t.laneEvent l.k 3 0 [(32, t.now)]).oweErr (l.k * 8) 2

theorem State.laneGood_joins {s : State} {l : LaneRt} (state : s.get F.laneState l.k = lsFailed) (failed : l.failed = true)
    (old : l.fresh = false) (straight : l.crossAt = none) (limit : s.get F.restoreLimit l.k ≤ l.good + 1) (paid : l.owes = false) :
    s.laneGood l = (s.laneFine l).laneJoins l.better := by
  have still : (s.laneFine l).get F.laneState l.k = lsFailed := (State.get_put_apart rfl).trans state
  have bound : (s.laneFine l).get F.restoreLimit l.k = s.get F.restoreLimit l.k := State.get_put_apart rfl
  have fine : (if (s.laneFine l).get F.laneState l.k = lsStale then (s.laneFine l).put F.laneState lsLive l.k else s.laneFine l) =
      s.laneFine l := if_neg (fun h => absurd (still.symm.trans h) (by decide))
  have whole : s.laneGood l =
      if ((l.failed && (if (s.laneFine l).get F.laneState l.k = lsStale then (s.laneFine l).put F.laneState lsLive l.k
          else s.laneFine l).get F.laneState l.k == lsFailed && l.crossAt.isNone) || l.fresh) ∧
        l.better.good ≥ (if (s.laneFine l).get F.laneState l.k = lsStale then (s.laneFine l).put F.laneState lsLive l.k
          else s.laneFine l).get F.restoreLimit l.k then
        (if (s.laneFine l).get F.laneState l.k = lsStale then (s.laneFine l).put F.laneState lsLive l.k
          else s.laneFine l).laneReturn l.better
      else if (s.laneFine l).get F.laneState l.k = lsStale then (s.laneFine l).put F.laneState lsLive l.k
          else s.laneFine l := rfl
  rw [whole, fine, if_pos ⟨by simp [failed, still, straight], by rw [bound]; exact limit⟩]
  have unpaid : (s.laneFine l).payFailure l.better = s.laneFine l := if_neg (by simp [LaneRt.better, paid])
  unfold State.laneReturn
  dsimp only
  rw [unpaid]
  exact if_neg (by simp [LaneRt.better, old])

theorem does_laneReturns {k : Fin 96} {s : State} (state : s.get F.laneState k.val = 4) (mode : s.get F.laneMode k.val = 1)
    (unjudged : (s.lane k.val).judged ≠ some s.now) (accepted : (s.lane k.val).accepted = some s.now)
    (failed : (s.lane k.val).failed = true) (old : (s.lane k.val).fresh = false) (paid : (s.lane k.val).owes = false)
    (straight : (s.lane k.val).crossAt = none) (limit : s.get F.restoreLimit k.val ≤ (s.lane k.val).good + 1)
    (serves : s.serving = true) : Does (.exchangeWindowEnd k) s fun t =>
      t.get F.laneState k.val = 2 ∧ (t.lane k.val).failed = false ∧ Raised [eventOf s k.val 3 0 [(32, s.now)]] s t ∧
      t.rt.errQ = s.rt.errQ ++ (s.stationsAt (k.val * 8)).map (fun d => (d.idx, 2)) ∧ t.mem = s.mem := by
  have edge : s.exchangeEdge k.val = s.now := if_neg (by omega)
  have key := s.lane_k k.val
  have served : s.laneServed k.val = true := by simp [State.laneServed, state]
  have judged : s.windowEnd k.val = s.laneGood { s.lane k.val with judged := some (s.exchangeEdge k.val) } :=
    (if_neg (by simp [served, mode, edge, unjudged])).trans (if_pos (by simp [edge, accepted]))
  generalize hj : ({ s.lane k.val with judged := some (s.exchangeEdge k.val) } : LaneRt) = j at judged
  have jk : j.k = k.val := hj ▸ key
  have joins : s.laneGood j = (s.laneFine j).laneJoins j.better := by
    subst hj
    exact State.laneGood_joins (key.symm ▸ state) failed old straight (key.symm ▸ limit) paid
  refine ⟨_, congrArg Host.Outcome.next (judged.trans joins), ?_⟩
  rw [← jk]
  generalize ht : ((s.laneFine j).put F.laneState lsLive j.k).putLane { j.better with owes := false, failed := false, ever := true, good := 0 } = t
  have wrote : Writes [F.laneStaleRun, F.laneState] s t := ht ▸ .putLane (.put (.put (.putLane .refl) (by decide)) (by decide))
  have now : t.now = s.now := wrote.get rfl
  have told : Writes [F.laneStaleRun, F.laneState, F.raised] s (t.laneEvent j.k 3 0 [(32, s.now)]) :=
    .laneEvent (wrote.mono (by decide)) (by decide)
  have whole : (s.laneFine j).laneJoins j.better = (t.laneEvent j.k 3 0 [(32, s.now)]).oweErr (j.k * 8) 2 := by
    rw [← now, ← ht]
    rfl
  have parts : t.rt = s.rt ∧ t.ev = s.ev ∧ t.mem = s.mem ∧ t.get F.laneState j.k = 2 ∧ (t.lane j.k).failed = false := by
    refine ⟨ht ▸ rfl, ht ▸ rfl, ht ▸ rfl, ?_, ?_⟩
    · rw [← ht]
      exact State.get_put_self ..
    · rw [← ht, State.lane_put (by rfl)]
  obtain ⟨rt, ev, mem, live, back⟩ := parts
  have touched := State.oweErr_touches (a0 := t.laneEvent j.k 3 0 [(32, s.now)]) (a1 := j.k * 8) (a2 := 2)
  rw [whole]
  refine ⟨?_, ?_, (touched.ev_eq rfl).trans (wrote.raised ev rfl (by simp)), State.oweErr_serving serves told rfl rfl
    (congrArg RtSt.errQ rt) (congrArg RtSt.prog rt), (touched.mem_eq rfl).trans mem⟩
  · exact (State.get_of_regs (State.oweErr_regs ..) _ _).trans ((State.get_put_apart rfl).trans live)
  · rw [State.lane_of_lanes (s := t) (by rw [touched.lanes_eq rfl]; rfl), back]

/-! Epoch events of units (R371). -/

/-- The record that was put is the one found. -/
theorem State.unit_placed {s t : State} {u : UnitRec} (h : t.units = (s.putUnit u).units) : t.unit? u.hops = some u := by
  have others : (s.units.others.filter (fun v => v.hops != u.hops)).find? (fun v => v.hops == u.hops) = none := by
    simp [List.find?_eq_none]
  have self : [u].find? (fun v => v.hops == u.hops) = some u := by simp
  rw [State.unit?, h, State.putUnit, List.find?_append, others, self, Option.none_or]

theorem State.unit_of_units {s t : State} (h : t.units = s.units) (hops : List Nat) : t.unit? hops = s.unit? hops := by
  rw [State.unit?, State.unit?, h]

theorem State.unit_hops {s : State} {u : UnitRec} {hops : List Nat} (h : s.unit? hops = some u) : u.hops = hops := by
  simpa using List.find?_some h

/-- The record at these hops, or an empty one. -/
def State.recOf (s : State) (hops : List Nat) : UnitRec := (s.unit? hops).getD { hops := hops }

theorem State.recOf_hops (s : State) (hops : List Nat) : (s.recOf hops).hops = hops := by
  unfold State.recOf
  cases found : s.unit? hops with
  | none => rfl
  | some u => exact State.unit_hops found

/-- A record behind an epoch event. -/
def UnitRec.bumped (u : UnitRec) (now cause : Nat) : UnitRec :=
  { u with epoch := nextEpoch u.epoch, lastBeat := now, lastCause := cause }

/-- An epoch event increments the epoch of the unit's record. -/
theorem State.bumpUnit_unit (s : State) (hops : List Nat) (c : Nat) : (s.bumpUnit hops c).unit? hops =
    some ((s.recOf hops).bumped s.now c) := by
  have kept : (s.bumpUnit hops c).units = (s.putUnit ((s.recOf hops).bumped s.now c)).units := State.journal_touches.units_eq rfl
  have found := State.unit_placed kept
  rwa [show ((s.recOf hops).bumped s.now c).hops = hops from s.recOf_hops hops] at found

theorem State.recOf_of_units {s t : State} (h : t.units = s.units) (hops : List Nat) : t.recOf hops = s.recOf hops := by
  rw [State.recOf, State.recOf, State.unit_of_units h]

/-- The epoch of a slot's board is that of its record. -/
theorem State.epochOf_slot (s : State) (k : Nat) : s.epochOf (.slot k) = (s.recOf [0x0100 + k]).epoch := by
  have named : s.epochOf (.slot k) = match s.unit? [0x0100 + k] with | some r => r.epoch | none => 1 := rfl
  rw [named, State.recOf]
  cases s.unit? [0x0100 + k] <;> rfl

/-! A lost link (R216). -/

/-- The lane's record of a board that has gone. -/
def LaneRt.empty (l : LaneRt) : LaneRt :=
  { l with failed := true, good := 0, healthy := false, lostAt := none, crossAt := none, returnAt := none, probes := 0
           bridge := false, owes := false, type := none, subs := [] }

/-- The lane shows that its board has gone. -/
def State.laneEmptied (s : State) (l : LaneRt) : State :=
  let t := if l.failed then s else (s.inc F.laneFailures l.k).put F.laneLastFail s.now l.k
  (((t.put F.laneState lsAbsent l.k).put F.laneLink 0 l.k).put F.laneBoards 0 l.k).putLane l.empty

/-- The removal is an epoch event. -/
def State.removalTold (s : State) (l : LaneRt) : State :=
  ((s.laneEmptied l).laneEvent l.k 7 2 [(8, 0)]).bumpUnit [0x0100 + l.k] 6

theorem State.boardGone_eq (s : State) (l : LaneRt) : s.boardGone l =
    ((if l.failed ∧ l.crossAt.isNone ∧ s.get F.laneState l.k ≠ lsCrossover then [] else s.liveKeys l).foldl
      (fun s key => s.oweErr key 1) (s.removalTold l)).showCrossover := rfl

theorem Writes.laneEmptied {s : State} {l : LaneRt} : Writes laneFields s (s.laneEmptied l) := by
  have failed : Writes laneFields s (if l.failed then s else (s.inc F.laneFailures l.k).put F.laneLastFail s.now l.k) :=
    .ite (fun _ => .refl) fun _ => .put (.inc .refl (by decide)) (by decide)
  exact .putLane (.put (.put (.put failed (by decide)) (by decide)) (by decide))

theorem Writes.removalTold {s : State} {l : LaneRt} : Writes laneFields s (s.removalTold l) :=
  .bumpUnit (.laneEvent .laneEmptied (by decide)) (by decide)

/-- An event that was raised stays in the router. -/
theorem mem_router_of_event {s t u : State} {ws ws' : List Fld} {src code sev : Nat} {d : List (Nat × Nat)} (before : Writes ws s t)
    (free : (stampFields.all fun g => g.offAll ws) = true) (fits : (d.map Prod.fst).sum ≤ 64)
    (after : Writes ws' (t.raise src code sev d) u) : eventOf s src code sev d ∈ u.ev.router := by
  obtain ⟨l, raised⟩ := before.raisedLast (src := src) (code := code) (sev := sev) free fits
  refine after.router.subset ?_
  rw [raised]
  exact List.mem_append_right _ (List.mem_append_right _ (List.mem_singleton.2 rfl))

theorem State.laneEmptied_shows (s : State) (l : LaneRt) : (s.laneEmptied l).get F.laneState l.k = 0 ∧
    (s.laneEmptied l).get F.laneLink l.k = 0 ∧ (s.laneEmptied l).get F.laneBoards l.k = 0 :=
  ⟨(State.get_put_apart rfl).trans ((State.get_put_apart rfl).trans (State.get_put_self ..)),
    (State.get_put_apart rfl).trans (State.get_put_self ..), State.get_put_self ..⟩

/-- What a board that has gone leaves. -/
theorem State.boardGone_spec {ws : List Fld} {s t : State} {l : LaneRt} {k : Nat} (w : Writes ws s t) (key : l.k = k)
    (units : t.units = s.units) (mem : t.mem = s.mem) (free : (stampFields.all fun g => g.offAll (ws ++ laneFields)) = true) :
    (t.boardGone l).get F.laneState k = 0 ∧ (t.boardGone l).get F.laneLink k = 0 ∧ (t.boardGone l).get F.laneBoards k = 0 ∧
    UnitChanged [0x0100 + k] s (t.boardGone l) ∧ (t.boardGone l).epochOf (.slot k) = nextEpoch (s.epochOf (.slot k)) ∧
    eventOf s k 7 2 [(8, 0)] ∈ (t.boardGone l).ev.router ∧ (t.boardGone l).mem = s.mem := by
  subst key
  have before : Writes (ws ++ laneFields) s (t.laneEmptied l) :=
    (w.mono fun f => List.mem_append_left _).trans (Writes.laneEmptied.mono fun f => List.mem_append_right _)
  have told : Writes [F.raised] (t.laneEmptied l) (t.removalTold l) := .bumpUnit (.laneEvent .refl (by decide)) (by decide)
  have behind : Writes [F.crossover, F.crossoverCount, F.crossoverMap] (t.removalTold l) (t.boardGone l) := by
    rw [State.boardGone_eq]
    exact .put (.put (.putFlag (.foldl .refl fun _ _ => .oweErr .refl) (by decide)) (by decide)) (by decide)
  have raised : Writes [F.raised, F.crossover, F.crossoverCount, F.crossoverMap] ((t.laneEmptied l).laneEvent l.k 7 2 [(8, 0)])
      (t.removalTold l) := .bumpUnit .refl (by decide)
  have rest : Touches { regs := true, rt := true } (t.removalTold l) (t.boardGone l) := by
    rw [State.boardGone_eq]
    exact .trans (.foldl (.refl _) fun u key => .mono State.oweErr_touches rfl) State.showCrossover_touches rfl
  have now : (t.laneEmptied l).now = s.now := before.fields F.beatIndex 0 (List.all_eq_true.1 free _ (by simp [stampFields]))
  have emptied : (t.laneEmptied l).units = s.units ∧ (t.laneEmptied l).mem = s.mem := by
    have touched : Touches { regs := true, lanes := true } t (t.laneEmptied l) := by
      unfold State.laneEmptied
      split <;> rfl
    exact ⟨(touched.units_eq rfl).trans units, (touched.mem_eq rfl).trans mem⟩
  have record : (t.boardGone l).unit? [0x0100 + l.k] = some ((s.recOf [0x0100 + l.k]).bumped s.now 6) := by
    have tick : ((t.laneEmptied l).laneEvent l.k 7 2 [(8, 0)]).now = s.now := (State.get_raise_apart rfl).trans now
    have same : ((t.laneEmptied l).laneEvent l.k 7 2 [(8, 0)]).units = s.units := emptied.1
    rw [State.unit_of_units (rest.units_eq rfl), State.removalTold, State.bumpUnit_unit, tick, State.recOf_of_units same]
  have event : eventOf s l.k 7 2 [(8, 0)] ∈ (t.boardGone l).ev.router :=
    mem_router_of_event before free (by simp) (raised.trans (behind.mono (by decide)))
  obtain ⟨state, link, boards⟩ := t.laneEmptied_shows l
  refine ⟨(behind.get rfl).trans ((told.get rfl).trans state), (behind.get rfl).trans ((told.get rfl).trans link),
    (behind.get rfl).trans ((told.get rfl).trans boards), ⟨_, record, rfl, rfl⟩, ?_, event,
    (rest.mem_eq rfl).trans ((State.bumpUnit_touches.mem_eq rfl).trans emptied.2)⟩
  rw [State.epochOf_slot, State.epochOf_slot, State.recOf, record, Option.getD_some, UnitRec.bumped]

theorem does_lossOfLink_removal {k : Fin 96} {s : State} (mode : s.get F.laneMode k.val ≠ 0) (state : s.get F.laneState k.val ≠ 0)
    (lone : s.hasPartner = false) : Does (.lossOfLink k) s fun t =>
      t.get F.laneState k.val = 0 ∧ t.get F.laneLink k.val = 0 ∧ t.get F.laneBoards k.val = 0 ∧
      UnitChanged [0x0100 + k.val] s t ∧ t.epochOf (.slot k.val) = nextEpoch (s.epochOf (.slot k.val)) ∧
      eventOf s k.val 7 2 [(8, 0)] ∈ t.ev.router ∧ t.mem = s.mem := by
  have wrote : Writes [F.laneLink] s (s.put F.laneLink 0 k.val) := .put .refl (by decide)
  obtain ⟨-, partner, -⟩ := State.partner_same wrote rfl rfl
  exact ⟨_, congrArg Host.Outcome.next ((if_neg (not_or.2 ⟨mode, state⟩)).trans (if_pos (.inr (.inl (by simp [partner, lone]))))),
    State.boardGone_spec wrote (s.lane_k k.val) rfl rfl rfl⟩

/-- A lane that waits for its partner's report raises nothing yet. -/
theorem State.laneDown_waits {s : State} {l : LaneRt} (owes : l.owes = true) :
    (s.laneDown l).lane l.k = l.out ∧ Touches { rt := true, lanes := true } s (s.laneDown l) := by
  have quiet : (if l.owes then s.putLane l.out else (s.putLane l.out).laneEvent l.k 2 2 [(32, (s.putLane l.out).now), (8, 0xFF)]) =
      s.putLane l.out := if_pos owes
  have owed : Touches { rt := true } (s.putLane l.out) ((s.liveKeys l.out).foldl (fun s key => s.oweErr key 1) (s.putLane l.out)) :=
    .foldl (.refl _) fun _ _ => State.oweErr_touches
  have placed : Touches { rt := true, lanes := true } s ((s.liveKeys l.out).foldl (fun s key => s.oweErr key 1) (s.putLane l.out)) :=
    (show Touches { lanes := true } s (s.putLane l.out) from rfl).mono rfl |>.trans owed rfl
  have record : ((s.liveKeys l.out).foldl (fun s key => s.oweErr key 1) (s.putLane l.out)).lane l.k = l.out := by
    rw [State.lane_of_lanes (s := s.putLane l.out) (by rw [owed.lanes_eq rfl])]
    exact State.lane_put rfl
  rw [State.laneDown_eq, quiet]
  split
  · exact ⟨record, placed.trans (n := { lanes := true }) rfl rfl⟩
  · exact ⟨record, placed⟩

/-- A lane that fails while it waits for its partner's report. -/
theorem State.laneFail_waits {s : State} {l : LaneRt} (owes : l.owes = true) :
    ((s.laneFail l).lane l.k).lostAt = l.lostAt ∧ Writes [] (s.laneFailing l.k) (s.laneFail l) ∧
    (s.laneFail l).units = s.units ∧ (s.laneFail l).ev = s.ev ∧ (s.laneFail l).mem = s.mem := by
  rw [State.laneFail_eq]
  split
  · refine ⟨?_, .putLane .refl, rfl, rfl, rfl⟩
    rw [State.lane_put (by rfl)]
  · obtain ⟨record, touched⟩ := State.laneDown_waits (s := s.laneFailing l.k) owes
    exact ⟨by rw [record]; rfl, .upd .refl (touched.regs_eq rfl) (by rw [touched.beat_eq rfl]) (by rw [touched.beat_eq rfl])
      (by rw [touched.ev_eq rfl]), touched.units_eq rfl, touched.ev_eq rfl, touched.mem_eq rfl⟩

theorem does_lossOfLink_failure {k : Fin 96} {s : State} (mode : s.get F.laneMode k.val ≠ 0) (state : s.get F.laneState k.val ≠ 0)
    (fits : s.get F.laneState k.val ≠ 6) (partner : s.hasPartner = true) (unsaid : bitOf s.pair.partnerLoss k.val = false)
    (sound : (s.lane k.val).failed = false) : Does (.lossOfLink k) s fun t =>
      t.get F.laneState k.val = 4 ∧ t.get F.laneLink k.val = 0 ∧ (t.lane k.val).lostAt = some s.now ∧
      t.get F.laneFailures k.val = satInc 32 (s.get F.laneFailures k.val) ∧ t.units = s.units ∧ t.ev = s.ev ∧ t.mem = s.mem := by
  have wrote : Writes [F.laneLink] s (s.put F.laneLink 0 k.val) := .put .refl (by decide)
  have still : (s.put F.laneLink 0 k.val).get F.laneState k.val = s.get F.laneState k.val := State.get_put_apart rfl
  have now : (s.put F.laneLink 0 k.val).now = s.now := State.get_put_apart rfl
  obtain ⟨-, same, -⟩ := State.partner_same wrote rfl rfl
  have key := s.lane_k k.val
  have stays : ¬((s.put F.laneLink 0 k.val).get F.laneState k.val = lsMismatch ∨ (!(s.put F.laneLink 0 k.val).hasPartner) = true ∨
      bitOf (s.put F.laneLink 0 k.val).pair.partnerLoss k.val = true) := by
    rw [still, same, partner]
    rintro (h | h | h)
    · exact fits h
    · exact absurd h (by decide)
    · exact absurd (unsaid.symm.trans h) (by decide)
  refine ⟨_, congrArg Host.Outcome.next ((if_neg (not_or.2 ⟨mode, state⟩)).trans ((if_neg stays).trans (if_neg (by simp [sound])))), ?_⟩
  generalize hj : ({ s.lane k.val with healthy := false, lostAt := some (s.put F.laneLink 0 k.val).now, owes := true } : LaneRt) = j
  have jk : j.k = k.val := hj ▸ key
  have lost : j.lostAt = some s.now := hj ▸ congrArg some now
  obtain ⟨instant, rest, units, ev, mem⟩ := State.laneFail_waits (s := s.put F.laneLink 0 k.val) (l := j) (hj ▸ rfl)
  obtain ⟨shown, failures⟩ := State.laneFailing_shows (s.put F.laneLink 0 k.val) j.k
  have link : ((s.put F.laneLink 0 k.val).laneFailing j.k).get F.laneLink k.val = 0 :=
    (Writes.get (ws := [F.laneFailures, F.laneLastFail, F.laneState])
      (.put (.put (.inc .refl (by decide)) (by decide)) (by decide)) rfl).trans (State.get_put_self ..)
  rw [jk] at instant rest shown failures link
  exact ⟨(rest.get rfl).trans shown, (rest.get rfl).trans link, instant.trans lost,
    (rest.get rfl).trans (failures.trans (by rw [State.get_put_apart rfl])), units, ev, mem⟩

end Sys2Proof.Machine

namespace Sys2Proof.Machine

open Sys2Proof

/-! Boards that are inserted (R201, R233, R371). -/

/-- The record of a board that is configured, before its epoch event. -/
def State.boardRec (s : State) (hops : List Nat) (generation part serial : Nat) : UnitRec :=
  { s.recOf hops with type := unitTypeOf generation, part := part, serial := serial, vouched := generation != 5, status := 0, role := 1 }

theorem State.boardUnit_unit (s : State) (hops : List Nat) (g part serial : Nat) :
    (s.boardUnit hops g part serial).unit? hops = some ((s.boardRec hops g part serial).bumped s.now 6) := by
  have found : (s.putUnit (s.boardRec hops g part serial)).unit? hops = some (s.boardRec hops g part serial) := by
    have placed := State.unit_placed (s := s) (t := s.putUnit (s.boardRec hops g part serial)) rfl
    rwa [show (s.boardRec hops g part serial).hops = hops from s.recOf_hops hops] at placed
  have built : s.boardUnit hops g part serial = (s.putUnit (s.boardRec hops g part serial)).bumpUnit hops 6 := rfl
  rw [built, State.bumpUnit_unit, State.recOf, found, Option.getD_some]
  rfl

theorem Writes.boardUnit {ws : List Fld} {s t : State} {hops : List Nat} {g p n : Nat} (h : Writes ws s t) (hf : F.raised ∈ ws) :
    Writes ws s (t.boardUnit hops g p n) := .bumpUnit (h.upd rfl rfl rfl rfl) hf

/-- The lane's record of a board whose points have been absent. -/
def LaneRt.filled (l : LaneRt) (generation type : Nat) : LaneRt :=
  { l with bridge := generation == 12, type := some (generation, type), owes := false, failed := l.ever, fresh := !l.ever, run := 0
           good := 0, lostAt := none, accepted := none }

/-- The lane shows its new board. -/
def State.slotShown (s : State) (k : Nat) (l : LaneRt) : State :=
  (((s.put F.laneLink 1 k).put F.laneBoards 1 k).put F.laneState lsLive k).putLane l

theorem State.slotShown_touches {s : State} {k : Nat} {l : LaneRt} : Touches { regs := true, lanes := true } s (s.slotShown k l) := rfl

theorem State.slotShown_shows {s : State} {k : Nat} {l : LaneRt} (key : l.k = k) : (s.slotShown k l).get F.laneState k = 2 ∧
    (s.slotShown k l).get F.laneLink k = 1 ∧ (s.slotShown k l).lane k = l :=
  ⟨State.get_put_self .., (State.get_put_apart rfl).trans ((State.get_put_apart rfl).trans (State.get_put_self ..)), State.lane_put key⟩

theorem Writes.slotShown {s : State} {k : Nat} {l : LaneRt} :
    Writes [F.laneLink, F.laneBoards, F.laneState] s (s.slotShown k l) :=
  .putLane (.put (.put (.put .refl (by decide)) (by decide)) (by decide))

/-- A board is configured in an empty slot. -/
def State.slotFilled (s : State) (k generation type part serial : Nat) : State :=
  (s.boardUnit [0x0100 + k] generation part serial).slotShown k ((s.lane k).filled generation type)

theorem State.slotInserted_empty {s : State} {k g ty pc sn : Nat} (empty : s.get F.laneState k = 0) (new : (s.lane k).ever = false) :
    s.slotInserted k g ty pc sn = (s.slotFilled k g ty pc sn).laneEvent k 6 0
      [(8, 0), (32, ty), (32, (s.slotFilled k g ty pc sn).epochOf (.slot k))] := by
  have stays : (if s.get F.laneState k = lsLive ∨ s.get F.laneState k = lsStale then s.boardGone (s.lane k) else s) = s :=
    if_neg (by simp [empty])
  have live : (if s.get F.laneState k = lsCrossover then lsCrossover else if (s.lane k).ever then lsFailed else lsLive) = lsLive :=
    (if_neg (by simp [empty])).trans (if_neg (by simp [new]))
  unfold State.slotInserted
  dsimp only
  rw [stays, live]
  unfold State.slotFilled State.slotShown LaneRt.filled
  with_reducible rfl

theorem does_boardInserted {k : Fin 96} {a ty pc sn : Nat} {s : State} (mode : s.get F.laneMode k.val = 1) (low : k.val < 48)
    (empty : s.get F.laneState k.val = 0) (new : (s.lane k.val).ever = false)
    (fits : s.get F.expectedType k.val = 0 ∨ s.get F.expectedType k.val = ty) : Does (.boardInserted k a 5 ty true pc sn) s fun t =>
      t.get F.laneState k.val = 2 ∧ t.get F.laneLink k.val = 1 ∧ (t.lane k.val).fresh = true ∧
      (∃ u, t.unit? [0x0100 + k.val] = some u ∧ u.type = 0x0010 ∧ u.part = pc ∧ u.serial = sn) ∧
      UnitChanged [0x0100 + k.val] s t ∧ RaisedLast [eventOf s k.val 6 0 [(8, 0), (32, ty)],
        restOf s k.val 6 0 [(32, t.epochOf (.slot k.val))]] s t ∧ t.mem = s.mem := by
  have taken : s.boardInserted k.val a 5 ty true pc sn = s.slotInserted k.val 5 ty pc sn :=
    (if_neg (by omega)).trans ((if_neg (by decide)).trans ((if_neg (by decide)).trans ((if_neg (by
      rintro (h | ⟨want, other⟩)
      · rw [mode] at h
        exact absurd h (by decide)
      · exact fits.elim want other)).trans (if_neg (by omega)))))
  refine ⟨_, congrArg Host.Outcome.next (taken.trans (State.slotInserted_empty empty new)), ?_⟩
  generalize he : (s.slotFilled k.val 5 ty pc sn).epochOf (.slot k.val) = e
  have wrote : Writes [F.raised, F.laneLink, F.laneBoards, F.laneState] s (s.slotFilled k.val 5 ty pc sn) :=
    (Writes.boardUnit .refl (by decide)).trans (Writes.slotShown.mono (by decide))
  have touched : Touches { regs := true, lanes := true } (s.boardUnit [0x0100 + k.val] 5 pc sn) (s.slotFilled k.val 5 ty pc sn) :=
    State.slotShown_touches
  have mem : (s.slotFilled k.val 5 ty pc sn).mem = s.mem := (touched.mem_eq rfl).trans (State.bumpUnit_touches.mem_eq rfl)
  have shown : (s.slotFilled k.val 5 ty pc sn).get F.laneState k.val = 2 ∧ (s.slotFilled k.val 5 ty pc sn).get F.laneLink k.val = 1 ∧
      (s.slotFilled k.val 5 ty pc sn).lane k.val = (s.lane k.val).filled 5 ty := State.slotShown_shows (s.lane_k k.val)
  have record := (State.unit_of_units (touched.units_eq rfl) [0x0100 + k.val]).trans (s.boardUnit_unit [0x0100 + k.val] 5 pc sn)
  generalize s.slotFilled k.val 5 ty pc sn = u at *
  obtain ⟨state, link, lane⟩ := shown
  generalize hv : u.laneEvent k.val 6 0 [(8, 0), (32, ty), (32, e)] = v
  have units : v.units = u.units := hv ▸ rfl
  have lanes : v.lanes.lanes = u.lanes.lanes := hv ▸ rfl
  have found : v.unit? [0x0100 + k.val] = some ((s.boardRec [0x0100 + k.val] 5 pc sn).bumped s.now 6) :=
    (State.unit_of_units units _).trans record
  have epoch : v.epochOf (.slot k.val) = e := by
    rw [State.epochOf_slot, State.recOf_of_units units, ← State.epochOf_slot, he]
  have fresh : (v.lane k.val).fresh = true := by simp [State.lane_of_lanes lanes, lane, LaneRt.filled, new]
  rw [epoch]
  subst hv
  obtain ⟨es, before⟩ := wrote.router
  refine ⟨(State.get_raise_apart rfl).trans state, (State.get_raise_apart rfl).trans link, fresh, ⟨_, found, rfl, rfl, rfl⟩,
    ⟨_, found, rfl, rfl⟩, ⟨es, ?_⟩, mem⟩
  have raised := State.raise_router_two (src := k.val) (code := 6) (sev := 0) (l := [(8, 0), (32, ty)]) (w := 32) (v := e) (r := [])
    wrote (by decide) (by simp) (by simp) (by simp)
  rw [← before, List.append_assoc] at raised
  exact raised

/-! Boards that fail a check (R201). -/

theorem does_boardUnknown {k : Fin 96} {a ty pc sn : Nat} {s : State} (mode : s.get F.laneMode k.val = 1) (low : k.val < 48) :
    Does (.boardInserted k a 5 ty false pc sn) s fun t =>
      t.get F.laneState k.val = 6 ∧ Raised [eventOf s 387 1 2 [(8, 1), (16, 0x0100 + k.val), (8, 1)]] s t ∧
      RegsBut [(F.laneState, k.val), (F.laneLink, k.val), (F.raised, 387)] s t ∧ t = { s with regs := t.regs, ev := t.ev } := by
  have data : (if s.get F.laneMode k.val = 3 ∨ (5 = 1 ∨ 5 = 2) then [(8, 2), (16, 0x0100 + k.val), (16, a), (8, 1)]
      else [(8, 1), (16, 0x0100 + k.val), (8, 1)]) = [(8, 1), (16, 0x0100 + k.val), (8, 1)] := if_neg (by omega)
  have refused : s.boardInserted k.val a 5 ty false pc sn = ((s.raise 387 1 2 (if s.get F.laneMode k.val = 3 ∨ (5 = 1 ∨ 5 = 2) then
      [(8, 2), (16, 0x0100 + k.val), (16, a), (8, 1)] else [(8, 1), (16, 0x0100 + k.val), (8, 1)])).put F.laneLink 1 k.val).put
        F.laneState lsMismatch k.val :=
    (if_neg (by omega)).trans ((if_pos (by decide)).trans (if_pos rfl))
  rw [data] at refused
  refine ⟨_, congrArg Host.Outcome.next refused, State.get_put_self .., ?_, ?_, rfl⟩
  · exact Writes.raised (ws := []) (t := s) .refl rfl (by decide) (by simp)
  · exact RegsBut.put (.put (.raise (.refl (s := s)) (by simp)) (by simp)) (by simp)

/-- The mismatch is raised, and is an epoch event of the slot. -/
def State.mismatchTold (s : State) (k type : Nat) : State :=
  (s.laneEvent k 8 2 [(32, s.get F.expectedType k), (32, type)]).bumpUnit [0x0100 + k] 6

/-- The lane shows a board that does not fit. -/
def State.mismatchShown (s : State) (k : Nat) (l : LaneRt) : State := ((s.putLane l).put F.laneLink 1 k).put F.laneState lsMismatch k

theorem State.mismatchFound_slot {s : State} {k a g ty : Nat} (mode : s.get F.laneMode k = 1) : s.mismatchFound k a g ty =
    (s.mismatchTold k ty).mismatchShown k { (s.mismatchTold k ty).lane k with type := some (g, ty) } := by
  have wrote : Writes [F.raised] s (s.mismatchTold k ty) := .bumpUnit (.laneEvent .refl (by decide)) (by decide)
  have slot : ¬(s.mismatchTold k ty).get F.laneMode k = 3 := by
    rw [wrote.get rfl, mode]
    decide
  exact if_neg slot

theorem Writes.mismatchShown {s : State} {k : Nat} {l : LaneRt} : Writes [F.laneLink, F.laneState] s (s.mismatchShown k l) :=
  .put (.put (.putLane .refl) (by decide)) (by decide)

theorem State.mismatchShown_state (s : State) (k : Nat) (l : LaneRt) : (s.mismatchShown k l).get F.laneState k = 6 :=
  State.get_put_self ..

theorem State.mismatchShown_touches {s : State} {k : Nat} {l : LaneRt} :
    Touches { regs := true, lanes := true } s (s.mismatchShown k l) := rfl

theorem State.mismatchTold_unit (s : State) (k ty : Nat) :
    (s.mismatchTold k ty).unit? [0x0100 + k] = some ((s.recOf [0x0100 + k]).bumped s.now 6) := by
  generalize hu : s.laneEvent k 8 2 [(32, s.get F.expectedType k), (32, ty)] = u
  have told : s.mismatchTold k ty = u.bumpUnit [0x0100 + k] 6 := hu ▸ rfl
  have units : u.units = s.units := hu ▸ rfl
  have now : u.now = s.now := by
    rw [← hu]
    exact State.get_raise_apart rfl
  rw [told, State.bumpUnit_unit, State.recOf_of_units units, now]

theorem does_boardMismatch {k : Fin 96} {a g ty pc sn : Nat} {s : State} (mode : s.get F.laneMode k.val = 1) (low : k.val < 48)
    (new : 2 < g) (other : g ≠ 5 ∧ g ≠ 12 ∨ s.get F.expectedType k.val ≠ 0 ∧ s.get F.expectedType k.val ≠ ty) :
    Does (.boardInserted k a g ty true pc sn) s fun t =>
      t.get F.laneState k.val = 6 ∧ UnitChanged [0x0100 + k.val] s t ∧
      eventOf s k.val 8 2 [(32, s.get F.expectedType k.val), (32, ty)] ∈ t.ev.router ∧ t.mem = s.mem := by
  have unfit : (!generationFits (s.get F.laneMode k.val) g) = true ∨ (s.get F.expectedType k.val ≠ 0 ∧ s.get F.expectedType k.val ≠ ty) := by
    rcases other with ⟨five, bridge⟩ | typed
    · exact .inl (by simp [generationFits, mode, five, bridge])
    · exact .inr typed
  have found : s.boardInserted k.val a g ty true pc sn = s.mismatchFound k.val a g ty :=
    (if_neg (by omega)).trans ((if_neg (by decide)).trans ((if_neg (by omega)).trans (if_pos unfit)))
  refine ⟨_, congrArg Host.Outcome.next (found.trans (State.mismatchFound_slot mode)), ?_⟩
  have record := s.mismatchTold_unit k.val ty
  have mem : (s.mismatchTold k.val ty).mem = s.mem := State.bumpUnit_touches.mem_eq rfl
  have told : Writes [F.raised] (s.raise k.val 8 2 [(32, s.get F.expectedType k.val), (32, ty)]) (s.mismatchTold k.val ty) :=
    .bumpUnit .refl (by decide)
  generalize s.mismatchTold k.val ty = u at *
  refine ⟨State.mismatchShown_state .., ⟨_, (State.unit_of_units (State.mismatchShown_touches.units_eq rfl) _).trans record, rfl, rfl⟩,
    ?_, mem⟩
  exact mem_router_of_event (ws := []) .refl (by decide) (by simp)
    ((told.mono (ws' := [F.raised, F.laneLink, F.laneState]) (by decide)).trans (Writes.mismatchShown.mono (by decide)))

/-! Crossover rows (R161 to R164). -/

theorem does_crossForward_active {k : Fin 96} {l : List (Nat × Nat)} {s : State} (role : s.get F.role = 2)
    (state : s.get F.laneState k.val = 5) (mode : s.get F.laneMode k.val ≠ 3) : Does (.crossoverForward k l) s fun t =>
      (∃ mine, t.lanes.due = s.lanes.due ++ [{ beat := s.now + 1, key := k.val * 8, stale := false, points := mine }] ∧
        ∀ x ∈ mine, x ∈ l) ∧ t.pair = { s.pair with xBytes := s.pair.xBytes + 2344 } ∧ t.regs = s.regs ∧ t.ev = s.ev := by
  have keys : s.laneKeys k.val = [k.val * 8] := if_neg mode
  have taken : s.crossForward k.val l = { (s.addDue (s.now + 1) (k.val * 8) false (l.filter (fun p => match s.rt.entry? p.1 with
      | some v => (s.stationsAt (k.val * 8)).any (fun d => v.station == some d.idx)
      | none => false))) with pair := { s.pair with xBytes := s.pair.xBytes + crossBytes } } := by
    refine (if_pos role).trans ((if_neg (not_not.2 state)).trans ?_)
    dsimp only
    rw [keys]
    rfl
  exact ⟨_, congrArg Host.Outcome.next taken, ⟨_, rfl, fun x hx => (List.mem_filter.1 hx).1⟩, rfl, rfl, rfl⟩

theorem does_crossForward_partner {k : Fin 96} {l : List (Nat × Nat)} {s : State} (role : s.get F.role = 3 ∨ s.get F.role = 4) :
    Does (.crossoverForward k l) s fun t =>
    t.pair = { s.pair with fwd := s.pair.fwd ++ [(k.val, s.now - 1, l)] } ∧ (k.val, s.now) ∈ t.lanes.forwards ∧ t.regs = s.regs ∧
    t.lanes.lanes = s.lanes.lanes ∧ t.lanes.due = s.lanes.due :=
  ⟨_, congrArg Host.Outcome.next ((if_neg (by rcases role with h | h <;> simp [h])).trans (if_pos role)), rfl,
    List.mem_append_right _ (List.mem_singleton.2 rfl), rfl, rfl, rfl⟩

theorem does_crossForward_none {k : Fin 96} {l : List (Nat × Nat)} {s : State}
    (role : s.get F.role = 1 ∨ s.get F.role = 2 ∧ s.get F.laneState k.val ≠ 5) : Does (.crossoverForward k l) s fun t => t = s := by
  refine ⟨s, congrArg Host.Outcome.next ?_, rfl⟩
  rcases role with solo | ⟨active, straight⟩
  · exact (if_neg (by simp [solo])).trans (if_neg (by simp [solo]))
  · exact (if_pos active).trans (if_pos straight)

theorem does_crossoverEnd_none {k : Fin 96} {c : Fin 3} {s : State} (straight : s.get F.laneState k.val ≠ 5)
    (none : (s.lane k.val).crossAt = none) : Does (.crossoverEnd k c) s fun t =>
      t = { s with lanes := { s.lanes with forwards := unassoc s.lanes.forwards k.val } } := by
  have stands : s.endCrossover k.val = s := (State.endCrossover_eq ..).trans (if_pos ⟨straight, by simp [none]⟩)
  exact ⟨_, rfl, by rw [stands]⟩

/-- The lane's record behind a crossover that has ended. -/
def LaneRt.uncrossed (l : LaneRt) : LaneRt := { l with crossAt := none, returnAt := none, probes := 0 }

/-- A slot whose crossover has ended counts as failed. -/
def State.slotLost (s : State) (k : Nat) : State := (s.putLane (s.lane k).uncrossed).put F.laneState lsFailed k

theorem Writes.slotLost {s : State} {k : Nat} : Writes [F.laneState] s (s.slotLost k) := .put (.putLane .refl) (by decide)

theorem State.crossoverEnded_serving {s : State} {k : Nat} (serves : s.serving = true) (mode : s.get F.laneMode k ≠ 3) :
    s.crossoverEnded k = ((s.slotLost k).laneEvent k 2 2 [(32, s.now), (8, 0xFF)]).oweErr (k * 8) 1 := by
  obtain ⟨serving, -, -⟩ := State.partner_same (s := s) (t := s.slotLost k) .slotLost rfl rfl
  have now : (s.slotLost k).now = s.now := Writes.slotLost.get rfl
  have keys : (s.slotLost k).laneKeys k = [k * 8] := by
    refine if_neg ?_
    rwa [Writes.slotLost.get rfl]
  have whole : s.crossoverEnded k = ((s.slotLost k).laneKeys k).foldl (fun s key => s.oweErr key 1)
      ((s.slotLost k).laneEvent k 2 2 [(32, (s.slotLost k).now), (8, 0xFF)]) := if_pos (serving.trans serves)
  rw [whole, keys, now]
  rfl

theorem does_crossoverEnd {k : Fin 96} {c : Fin 3} {s : State} (state : s.get F.laneState k.val = 5) (serves : s.serving = true)
    (mode : s.get F.laneMode k.val ≠ 3) : Does (.crossoverEnd k c) s fun t =>
      t.get F.laneState k.val = 4 ∧ Raised [eventOf s k.val 2 2 [(32, s.now), (8, 0xFF)]] s t ∧
      t.rt.errQ = s.rt.errQ ++ (s.stationsAt (k.val * 8)).map (fun d => (d.idx, 1)) ∧ t.mem = s.mem := by
  have lost : Writes [F.laneState] s (s.slotLost k.val) := .slotLost
  have told : Writes [F.laneState, F.raised] s ((s.slotLost k.val).laneEvent k.val 2 2 [(32, s.now), (8, 0xFF)]) :=
    .laneEvent (lost.mono (by decide)) (by decide)
  have raised : Raised [eventOf s k.val 2 2 [(32, s.now), (8, 0xFF)]] s
      ((s.slotLost k.val).laneEvent k.val 2 2 [(32, s.now), (8, 0xFF)]) := lost.raised rfl rfl (by simp)
  have ended := State.crossoverEnded_serving serves mode
  have touched : Touches { rt := true } ((s.slotLost k.val).laneEvent k.val 2 2 [(32, s.now), (8, 0xFF)]) (s.crossoverEnded k.val) :=
    ended ▸ State.oweErr_touches
  have owed : (s.crossoverEnded k.val).rt.errQ = s.rt.errQ ++ (s.stationsAt (k.val * 8)).map (fun d => (d.idx, 1)) :=
    ended ▸ State.oweErr_serving serves told rfl rfl rfl rfl
  have reads : ∀ f j, (s.crossoverEnded k.val).get f j = ((s.slotLost k.val).laneEvent k.val 2 2 [(32, s.now), (8, 0xFF)]).get f j :=
    State.get_of_regs (touched.regs_eq rfl)
  have stays : ¬(s.crossoverEnded k.val).get F.laneMode k.val = 3 := by
    rwa [reads, told.get rfl]
  have shown : (s.crossoverEnded k.val).get F.laneState k.val = 4 :=
    (reads ..).trans ((State.get_raise_apart rfl).trans (State.get_put_self ..))
  have whole : s.endCrossover k.val = (s.crossoverEnded k.val).showCrossover := by
    rw [State.endCrossover_eq, if_neg (by simp [state]), if_neg stays]
  refine ⟨_, rfl, ?_⟩
  rw [whole]
  have parts := State.showCrossover_touches (a0 := s.crossoverEnded k.val)
  have behind : Writes [F.crossover, F.crossoverCount, F.crossoverMap] (s.crossoverEnded k.val) (s.crossoverEnded k.val).showCrossover :=
    .put (.put (.putFlag .refl (by decide)) (by decide)) (by decide)
  generalize (s.crossoverEnded k.val).showCrossover = u at *
  exact ⟨(behind.get rfl).trans shown, (parts.ev_eq rfl).trans ((touched.ev_eq rfl).trans raised),
    (congrArg RtSt.errQ (parts.rt_eq rfl)).trans owed, (parts.mem_eq rfl).trans (touched.mem_eq rfl)⟩

/-! Probes of a crossed slot (R162, R205). -/

theorem OnlyLane.putLane {k : Nat} {s t : State} {l : LaneRt} (h : OnlyLane k s t) (key : l.k = k) : OnlyLane k s (t.putLane l) := by
  intro j other
  rw [← h j other, State.lane, State.putLane, find_replaced_other LaneRt.k (key ▸ other), ← State.lane]

/-- What stands in a PROBE. -/
def ProbeOf (k : Nat) (s : State) (l : LaneRt) : Prop := ∃ d, l.service = some d ∧ d.ftype = 0x10 ∧
  d.beat = s.now ∧ d.lane = k ∧ d.payload = [] ∧ d.crc = crc32c (headBytes 0x10 d.flags s.now k d.frag d.epochLo [])

/-- A PROBE changes nothing of the lane's record but the frame sent last. -/
theorem State.sendService_probe (s : State) (k : Nat) : ∃ l, (s.sendService k 0x10 []).lane k = l ∧ l.k = k ∧
    l.probes = (s.lane k).probes ∧ l.returnAt = (s.lane k).returnAt ∧
    (s.get F.laneMode k = 1 ∨ s.get F.laneMode k = 2 → ProbeOf k s l) ∧ OnlyLane k s (s.sendService k 0x10 []) ∧
    s.sendService k 0x10 [] = { s with lanes := { s.lanes with lanes := (s.sendService k 0x10 []).lanes.lanes } } := by
  have key := s.lane_k k
  unfold State.sendService
  dsimp only
  split
  case isTrue mode =>
    refine ⟨_, State.lane_put (by exact key), key, rfl, rfl, fun _ => ⟨_, rfl, rfl, rfl, rfl, ?_, ?_⟩, ?_, rfl⟩
    · exact List.take_nil
    · exact congrArg (fun p => crc32c (headBytes 0x10 _ s.now k _ _ p)) List.take_nil
    · exact OnlyLane.putLane (fun _ _ => rfl) key
  case isFalse mode => exact ⟨_, rfl, key, rfl, rfl, fun h => absurd h mode, fun _ _ => rfl, rfl⟩

/-- The record behind a probe's answer. -/
def LaneRt.probed (l : LaneRt) (now : Nat) (ok : Bool) : LaneRt :=
  if !ok then { l with probes := 0 }
  else if l.probes + 1 ≥ 3 then { l with probes := 3, returnAt := some (now + 1) }
  else { l with probes := l.probes + 1 }

theorem LaneRt.probed_spec (l : LaneRt) (now : Nat) (ok : Bool) : (l.probed now ok).k = l.k ∧
    (l.probed now ok).service = l.service ∧
    (ok = false → (l.probed now ok).probes = 0 ∧ (l.probed now ok).returnAt = l.returnAt) ∧
    (ok = true → l.probes < 2 → (l.probed now ok).probes = l.probes + 1 ∧ (l.probed now ok).returnAt = l.returnAt) ∧
    (ok = true → 2 ≤ l.probes → (l.probed now ok).returnAt = some (now + 1)) := by
  cases ok with
  | false => exact ⟨rfl, rfl, fun _ => ⟨rfl, rfl⟩, fun h => absurd h (by decide), fun h => absurd h (by decide)⟩
  | true =>
    unfold LaneRt.probed
    rw [if_neg (by decide)]
    split
    case isTrue third => exact ⟨rfl, rfl, fun h => absurd h (by decide), fun _ few => by omega, fun _ _ => rfl⟩
    case isFalse early => exact ⟨rfl, rfl, fun h => absurd h (by decide), fun _ _ => ⟨rfl, rfl⟩, fun _ many => by omega⟩

theorem execLaneProbe_crossed {k : Fin 96} {f : Option Frame} {s : State} (state : s.get F.laneState k.val = 5)
    (serves : s.serving = true) : execLaneProbe k f s = .next ((s.sendService k.val 0x10 []).putLane
      (((s.sendService k.val 0x10 []).lane k.val).probed (s.sendService k.val 0x10 []).now (s.probeClean k.val f))) := by
  refine congrArg Host.Outcome.next ((if_neg (by simp [state, serves])).trans ?_)
  unfold LaneRt.probed
  dsimp only
  split
  · rfl
  · split <;> rfl

theorem does_laneProbe {k : Fin 96} {f : Option Frame} {s : State} (state : s.get F.laneState k.val = 5) (serves : s.serving = true) :
    Does (.laneProbe k f) s fun t =>
    (s.probeClean k.val f = false → (t.lane k.val).probes = 0 ∧ (t.lane k.val).returnAt = (s.lane k.val).returnAt) ∧
    (s.probeClean k.val f = true → (s.lane k.val).probes < 2 →
      (t.lane k.val).probes = (s.lane k.val).probes + 1 ∧ (t.lane k.val).returnAt = (s.lane k.val).returnAt) ∧
    (s.probeClean k.val f = true → 2 ≤ (s.lane k.val).probes → (t.lane k.val).returnAt = some (s.now + 1)) ∧
    (s.get F.laneMode k.val = 1 ∨ s.get F.laneMode k.val = 2 → ∃ d, (t.lane k.val).service = some d ∧ d.ftype = 0x10 ∧
      d.beat = s.now ∧ d.lane = k.val ∧ d.payload = [] ∧ d.crc = crc32c (headBytes 0x10 d.flags s.now k.val d.frag d.epochLo [])) ∧
    OnlyLane k.val s t ∧ t = { s with lanes := { s.lanes with lanes := t.lanes.lanes } } := by
  refine ⟨_, execLaneProbe_crossed state serves, ?_⟩
  obtain ⟨l, found, key, probes, back, sent, only, parts⟩ := s.sendService_probe k.val
  have now : (s.sendService k.val 0x10 []).now = s.now := by
    rw [parts]
    rfl
  generalize s.sendService k.val 0x10 [] = u at *
  obtain ⟨lane, service, zero, more, full⟩ := l.probed_spec s.now (s.probeClean k.val f)
  rw [found, now, State.lane_put (lane.trans key), service, ← probes, ← back]
  exact ⟨zero, more, full, sent, only.putLane (lane.trans key), by rw [parts]; rfl⟩

/-- Settles O39: the missing exchange at the limit, the accepted one, the lost link, the inserted board and the end of a crossover
each reduce to the one way in which a lane fails, is emptied or returns. -/
theorem lanesFailCrossOverAndReturn : Obligations.LanesFailCrossOverAndReturn := by
  unfold Obligations.LanesFailCrossOverAndReturn
  exact ⟨fun k s => does_laneFails, fun k s => does_laneCrosses, fun k s => does_laneReturns, fun k s => does_lossOfLink_removal,
    fun k s => does_lossOfLink_failure, fun k s h => ⟨s, congrArg Host.Outcome.next (if_pos h), rfl⟩, fun k a ty pc sn s => does_boardInserted,
    fun k a ty pc sn s => does_boardUnknown, fun k a g ty pc sn s => does_boardMismatch,
    fun k a g ty ok pc sn s h => ⟨s, congrArg Host.Outcome.next (if_pos (.inl h)), rfl⟩, fun k l s => does_crossForward_active,
    fun k l s => does_crossForward_partner, fun k l s => does_crossForward_none, fun k f s => does_laneProbe,
    fun k c s => does_crossoverEnd, fun k c s => does_crossoverEnd_none⟩

end Sys2Proof.Machine

namespace Sys2Proof.Machine

open Sys2Proof

/-! RESET (R538 to R541). -/

/-- The first eligible beat reads registers that the panel's actions leave. -/
theorem State.eligible_same {ws : List Fld} {s t : State} (w : Writes ws s t) (beat : t.beat = s.beat)
    (off : ([F.beatIndex, F.stepPending, F.mode, F.pairSource].all fun g => g.offAll ws) = true) (n : Nat) :
    t.eligible n = s.eligible n := by
  have same : ∀ g ∈ [F.beatIndex, F.stepPending, F.mode, F.pairSource], t.get g = s.get g := fun g hg =>
    w.fields g 0 (List.all_eq_true.1 off g hg)
  have now : t.now = s.now := same F.beatIndex (by simp)
  have pending := same F.stepPending (by simp)
  have mode := same F.mode (by simp)
  have source := same F.pairSource (by simp)
  have step : t.stepNow = s.stepNow := by simp only [State.stepNow, State.flag, pending, mode, source]
  have len : t.beatLen = s.beatLen := by
    unfold State.beatLen
    rw [step, beat]
  have next : t.nextBeat = s.nextBeat := by
    unfold State.nextBeat
    rw [step, now, beat]
  unfold State.eligible
  rw [len, next]

theorem RegsBut.panelAct {l : List (Fld × Nat)} {s t : State} {a : Nat} (h : RegsBut l s t) : RegsBut l s (t.panelAct a) := .regs h rfl

theorem RegsBut.message {l : List (Fld × Nat)} {s t : State} {m r : Nat} (h : RegsBut l s t) (hm : (F.displayOn, 0) ∈ l) :
    RegsBut l s (t.message m r) := .put (.regs h rfl) hm

/-- A field apart from the display's reads as before a message. -/
theorem State.get_message {s : State} {m r : Nat} {f : Fld} {k : Nat}
    (h : (fldApart f F.displayOn && decide (0 < f.cnt) && decide (0 < F.displayOn.cnt)) = true) : (s.message m r).get f k = s.get f k :=
  State.get_put_apart h

theorem does_resetRelease {n : Nat} {s : State} (on : s.pwr.off = false) (ready : s.get F.resetState < 2)
    (free : s.get F.releaseState ≠ 2) (long : 50 ≤ n) (short : n ≤ 10000) (runs : s.beat.runs = true) : Does (.resetRelease n) s fun t =>
    t.panel = { s.panel with acts := s.panel.acts ++ [{ act := if n < 2000 then 1 else 2, apply := s.eligible s.beat.off }] } ∧
    t.get F.resetState = 0 ∧ t.get F.resetCount = satInc 32 (s.get F.resetCount) ∧
    Raised [eventOf s 444 1 1 [(32, n), (8, if n < 2000 then 1 else 2)]] s t ∧
    RegsBut [(F.resetState, 0), (F.resetCount, 0), (F.raised, 444)] s t ∧ t = { s with regs := t.regs, ev := t.ev, panel := t.panel } := by
  have counted : Writes [F.resetState, F.resetCount] s ((s.put F.resetState 0).inc F.resetCount) :=
    .inc (.put .refl (by decide)) (by decide)
  generalize act : (if n < 2000 then 1 else 2) = a
  have acts : s.resetRelease n = (((s.put F.resetState 0).inc F.resetCount).raise 444 1 1 [(32, n), (8, a)]).panelAct a := by
    rw [← act]
    exact (if_neg (by simp [on]; omega)).trans ((if_neg free).trans ((if_neg (by omega)).trans (if_pos runs)))
  have eligible : (((s.put F.resetState 0).inc F.resetCount).raise 444 1 1 [(32, n), (8, a)]).eligible s.beat.off = s.eligible s.beat.off :=
    State.eligible_same (counted.mono (ws' := [F.resetState, F.resetCount, F.raised]) (by decide) |>.raise (by decide)) rfl rfl _
  refine ⟨_, congrArg Host.Outcome.next acts, ?_, ?_, ?_, counted.raised rfl (by decide) (by simp), ?_, rfl⟩
  · rw [← eligible]
    rfl
  · exact (State.get_raise_apart (code := 1) (sev := 1) (d := [(32, n), (8, a)]) rfl).trans ((State.get_put_apart rfl).trans
      (State.get_put_self ..))
  · exact (State.get_raise_apart (code := 1) (sev := 1) (d := [(32, n), (8, a)]) rfl).trans ((State.get_put_fits (satInc_lt ..)).trans (congrArg (satInc 32) (State.get_put_apart rfl)))
  · exact .panelAct (.raise (.inc (.put (.refl (s := s)) (by simp)) (by simp)) (by simp))

/-- STUCK_RESET with what it shows. -/
theorem State.stuckReset_spec {s : State} {b : Bool} :
    (s.stuckReset b).get F.resetState = (if b then 3 else 2) ∧ (s.stuckReset b).get F.stuckCount = satInc 32 (s.get F.stuckCount) ∧
    (b = true → (s.stuckReset b).panel.message = 3 ∧ (s.stuckReset b).get F.displayOn = 1) ∧
    (b = false → RegsBut [(F.resetState, 0), (F.stuckCount, 0), (F.leds, 0), (F.raised, 445)] s (s.stuckReset b) ∧
      s.stuckReset b = { s with regs := (s.stuckReset b).regs, ev := (s.stuckReset b).ev }) ∧
    Raised [eventOf s 445 1 2 [(32, if b then 0 else 10000), (8, if b then 1 else 0)]] s (s.stuckReset b) ∧
    RegsBut [(F.resetState, 0), (F.stuckCount, 0), (F.leds, 0), (F.displayOn, 0), (F.raised, 445)] s (s.stuckReset b) := by
  have counted : Writes [F.resetState, F.stuckCount] s ((s.put F.resetState (if b then 3 else 2)).inc F.stuckCount) :=
    .inc (.put .refl (by decide)) (by decide)
  have raised := counted.raised (src := 445) (code := 1) (sev := 2) (d := [(32, if b then 0 else 10000), (8, if b then 1 else 0)]) rfl
    (by decide) (by simp)
  cases b with
  | false =>
    have regs : RegsBut [(F.resetState, 0), (F.stuckCount, 0), (F.leds, 0), (F.raised, 445)] s (s.stuckReset false) :=
      .showLeds (.raise (.inc (.put (.refl (s := s)) (by simp)) (by simp)) (by simp)) (by simp)
    exact ⟨(State.get_put_apart rfl).trans ((State.get_raise_apart rfl).trans ((State.get_put_apart rfl).trans (State.get_put_self ..))),
      (State.get_put_apart rfl).trans ((State.get_raise_apart rfl).trans ((State.get_put_fits (satInc_lt ..)).trans
        (congrArg (satInc 32) (State.get_put_apart rfl)))), fun h => absurd h (by decide), fun _ => ⟨regs, rfl⟩, raised, regs.mono (by simp)⟩
  | true =>
    refine ⟨(State.get_put_apart rfl).trans ((State.get_message rfl).trans ((State.get_raise_apart rfl).trans
      ((State.get_put_apart rfl).trans (State.get_put_self ..)))), ?_, fun _ => ⟨rfl, ?_⟩, fun h => absurd h (by decide), raised, ?_⟩
    · exact (State.get_put_apart rfl).trans ((State.get_message rfl).trans ((State.get_raise_apart rfl).trans
        ((State.get_put_fits (satInc_lt ..)).trans (congrArg (satInc 32) (State.get_put_apart rfl)))))
    · exact (State.get_put_apart rfl).trans (State.get_put_self ..)
    · exact .showLeds (.message (.raise (.inc (.put (.refl (s := s)) (by simp)) (by simp)) (by simp)) (by simp)) (by simp)

/-! RELEASE (R542, R543). -/

/-- The closure of RELEASE has ended. -/
def State.letGo (s : State) : State := s.put F.releaseState 0

/-- RELEASE on an ACTIVE with a partner: the quiesce follows the handover. -/
def State.releaseHands (s : State) : State :=
  let t := (s.releaseAccepted false).planAt ((s.releaseAccepted false).eligible (s.releaseAccepted false).beat.off) 2 1
  { t with panel := { t.panel with quiesceAfter := 1 } }

theorem Writes.letGo {s : State} : Writes [F.releaseState] s s.letGo := .put .refl (by decide)

/-- RELEASE on a module that is up and past START. -/
theorem State.releaseAct_up {s : State} {forced : Bool} (up : Up s) (awake : s.get F.pwr ≠ 2) (rest : s.get F.releaseState < 2)
    (past : s.get F.mode ≠ 1) : s.releaseAct forced =
      if s.get F.role = rActive ∧ s.letGo.canPlan then s.letGo.releaseHands
      else if s.get F.role = rActive ∨ (s.get F.role = rSolo ∧ s.get F.mode ≠ mStop) then
        if forced then s.letGo.quiesceSoon true else s.letGo.panelRefused 2 (if s.get F.role = rActive then 1 else 2)
      else s.letGo.quiesceSoon false := by
  obtain ⟨on, mode⟩ := up
  have low : (if s.get F.releaseState = 1 then 0 else s.get F.releaseState) = 0 := by
    split <;> omega
  have none : s.letGo.get F.releaseState ≠ 3 := by
    rw [State.letGo, State.get_put_self]
    decide
  have whole : s.releaseAct forced = _ := (if_neg (not_or.2 ⟨mode, awake⟩)).trans (if_neg (by simp [on]; omega))
  rw [whole]
  dsimp only
  rw [low]
  exact (if_neg past).trans (if_neg none)

/-- RELEASE_PRESS that has not acted already. -/
theorem execReleasePress_acts {n : Nat} {s : State} (long : 50 ≤ n) (fresh : n < 5000 ∨ s.get F.key ≠ 2) :
    execReleasePress n s = .next (s.releaseAct false) :=
  congrArg Host.Outcome.next ((if_neg (by omega)).trans (if_neg (by omega)))

/-- What an accepted RELEASE shows. -/
theorem State.releaseAccepted_spec {s : State} {forced : Bool} :
    (s.letGo.releaseAccepted forced).get F.releaseState = 2 ∧
    (s.letGo.releaseAccepted forced).get F.releaseCount = satInc 32 (s.get F.releaseCount) ∧
    Raised [eventOf s 446 1 1 [(8, if forced then 1 else 0)]] s (s.letGo.releaseAccepted forced) ∧
    Writes [F.releaseState, F.releaseCount, F.raised] s (s.letGo.releaseAccepted forced) ∧
    s.letGo.releaseAccepted forced = { s with regs := (s.letGo.releaseAccepted forced).regs, ev := (s.letGo.releaseAccepted forced).ev } := by
  have wrote : Writes [F.releaseState, F.releaseCount] s ((s.letGo.inc F.releaseCount).put F.releaseState 2) :=
    .put (.inc (.put .refl (by decide)) (by decide)) (by decide)
  refine ⟨(State.get_raise_apart rfl).trans (State.get_put_self ..), (State.get_raise_apart rfl).trans ((State.get_put_apart rfl).trans
    ((State.get_put_fits (satInc_lt ..)).trans (congrArg (satInc 32) (State.get_put_apart rfl)))), wrote.raised rfl (by decide) (by simp),
    .raise (wrote.mono (by decide)) (by decide), rfl⟩

/-- A quiesce that waits for its Freeze. -/
theorem State.quiesceSoon_spec {s : State} {forced : Bool} (runs : s.beat.runs = true) :
    (s.letGo.quiesceSoon forced).panel.acts =
      s.panel.acts ++ [{ act := if forced then 4 else 3, apply := s.eligible s.beat.off }] ∧
    (s.letGo.quiesceSoon forced).get F.releaseState = 2 ∧
    (s.letGo.quiesceSoon forced).get F.releaseCount = satInc 32 (s.get F.releaseCount) ∧
    Raised [eventOf s 446 1 1 [(8, if forced then 1 else 0)]] s (s.letGo.quiesceSoon forced) ∧
    (s.letGo.quiesceSoon forced).mem = s.mem := by
  obtain ⟨state, count, raised, wrote, parts⟩ := State.releaseAccepted_spec (s := s) (forced := forced)
  have begins : s.letGo.quiesceSoon forced = (s.letGo.releaseAccepted forced).panelAct (if forced then 4 else 3) := by
    refine if_pos ?_
    rw [parts]
    exact runs
  rw [begins]
  have eligible : (s.letGo.releaseAccepted forced).eligible s.beat.off = s.eligible s.beat.off :=
    State.eligible_same wrote rfl rfl _
  refine ⟨?_, state, count, raised, rfl⟩
  rw [← eligible]
  rfl

section

variable {n : Nat} {s : State} (long : 50 ≤ n) (fresh : n < 5000 ∨ s.get F.key ≠ 2) (up : Up s) (awake : s.get F.pwr ≠ 2)
  (rest : s.get F.releaseState < 2)

include long fresh up awake rest

theorem does_releaseRefused (role : s.get F.role = 1) (mode : s.get F.mode = 3) : Does (.releasePress n) s fun t =>
      Raised [eventOf s 447 1 1 [(8, 2), (8, 2)]] s t ∧ t.panel = { s.panel with message := 1, reason := 2 } ∧
      t.get F.releaseState = 0 ∧ RegsBut [(F.releaseState, 0), (F.displayOn, 0), (F.raised, 447)] s t ∧
      t = { s with regs := t.regs, ev := t.ev, panel := t.panel } := by
  have refused : s.releaseAct false = s.letGo.panelRefused 2 2 := by
    rw [State.releaseAct_up up awake rest (by omega), if_neg (by simp [role]), if_pos (by simp [role, mode]), if_neg (by decide),
      if_neg (by simp [role])]
  refine ⟨_, (execReleasePress_acts long fresh).trans (congrArg Host.Outcome.next refused), ?_, rfl, ?_, ?_, rfl⟩
  · exact Writes.letGo.raised (src := 447) (code := 1) (sev := 1) (d := [(8, 2), (8, 2)]) rfl (by decide) (by simp)
  · exact (State.get_message rfl).trans ((State.get_raise_apart rfl).trans (State.get_put_self ..))
  · exact .message (.raise (.put (.refl (s := s)) (by simp)) (by simp)) (by simp)

theorem does_releaseQuiesces (role : s.get F.role = 1) (mode : s.get F.mode = 2) (runs : s.beat.runs = true) :
    Does (.releasePress n) s fun t =>
      t.panel.acts = s.panel.acts ++ [{ act := 3, apply := s.eligible s.beat.off }] ∧ t.get F.releaseState = 2 ∧
      t.get F.releaseCount = satInc 32 (s.get F.releaseCount) ∧ Raised [eventOf s 446 1 1 [(8, 0)]] s t ∧ t.mem = s.mem := by
  have accepted : s.releaseAct false = s.letGo.quiesceSoon false := by
    rw [State.releaseAct_up up awake rest (by omega), if_neg (by simp [role]), if_neg (by simp [role, mode])]
  exact ⟨_, (execReleasePress_acts long fresh).trans (congrArg Host.Outcome.next accepted), State.quiesceSoon_spec runs⟩

theorem does_releaseHands (role : s.get F.role = 2) (mode : s.get F.mode = 3) (ready : s.pair.partnerReady = true)
    (none : s.pair.handover = none) : Does (.releasePress n) s fun t =>
      t.pair.handover = some { apply := s.eligible s.beat.off, cause := 2, after := 1 } ∧ t.panel.quiesceAfter = 1 ∧
      t.get F.releaseState = 2 ∧ Raised [eventOf s 446 1 1 [(8, 0)]] s t ∧ t.mem = s.mem := by
  have plans : s.letGo.canPlan = true := by
    have kept : s.letGo.get F.role = 2 := (Writes.letGo.get rfl).trans role
    simp [State.canPlan, kept, ready, show s.letGo.pair = s.pair from rfl]
  have accepted : s.releaseAct false = s.letGo.releaseHands := by
    rw [State.releaseAct_up up awake rest (by omega), if_pos ⟨role, plans⟩]
  refine ⟨_, (execReleasePress_acts long fresh).trans (congrArg Host.Outcome.next accepted), ?_⟩
  obtain ⟨state, -, raised, wrote, parts⟩ := State.releaseAccepted_spec (s := s) (forced := false)
  have still : (s.letGo.releaseAccepted false).canPlan = true := by
    have kept : (s.letGo.releaseAccepted false).get F.role = 2 := (wrote.get rfl).trans role
    simp [State.canPlan, kept, ready, show (s.letGo.releaseAccepted false).pair = s.pair from rfl]
  have eligible : (s.letGo.releaseAccepted false).eligible s.beat.off = s.eligible s.beat.off := State.eligible_same wrote rfl rfl _
  have planned : (s.letGo.releaseAccepted false).planAt ((s.letGo.releaseAccepted false).eligible s.beat.off) 2 1 =
      { s.letGo.releaseAccepted false with pair := { s.pair with
          handover := some { apply := s.eligible s.beat.off, cause := 2, after := 1 } } } := by
    rw [← eligible]
    exact if_pos ⟨still, by rw [show (s.letGo.releaseAccepted false).pair = s.pair from rfl, none]; rfl⟩
  have whole : s.letGo.releaseHands = { s.letGo.releaseAccepted false with
      pair := { s.pair with handover := some { apply := s.eligible s.beat.off, cause := 2, after := 1 } }
      panel := { s.panel with quiesceAfter := 1 } } :=
    congrArg (fun t : State => { t with panel := { t.panel with quiesceAfter := 1 } }) planned
  rw [whole]
  exact ⟨rfl, rfl, state, raised, rfl⟩

end

theorem does_releaseHold {s : State} (key : s.get F.key = 2) (up : Up s) (awake : s.get F.pwr ≠ 2) (rest : s.get F.releaseState < 2)
    (role : s.get F.role = 1) (mode : s.get F.mode = 3) (runs : s.beat.runs = true) : Does .releaseHold s fun t =>
      t.panel.acts = s.panel.acts ++ [{ act := 4, apply := s.eligible s.beat.off }] ∧ t.get F.releaseState = 2 ∧
      Raised [eventOf s 446 1 1 [(8, 1)]] s t ∧ t.mem = s.mem := by
  have accepted : s.releaseAct true = s.letGo.quiesceSoon true := by
    rw [State.releaseAct_up up awake rest (by omega), if_neg (by simp [role]), if_pos (by simp [role, mode]), if_pos rfl]
  obtain ⟨acts, state, -, raised, mem⟩ := State.quiesceSoon_spec (s := s) (forced := true) runs
  exact ⟨_, congrArg Host.Outcome.next ((if_pos key).trans accepted), acts, state, raised, mem⟩

theorem does_okToRemove {s : State} (waits : s.get F.releaseState = 2) (role : s.get F.role = 0) : Does .okToRemove s fun t =>
    t.get F.releaseState = 3 ∧ t.panel = { s.panel with message := 4, reason := 0 } ∧ t.get F.displayOn = 1 ∧
    Raised [eventOf s 448 1 0 [(32, s.now)]] s t ∧
    RegsBut [(F.releaseState, 0), (F.displayOn, 0), (F.leds, 0), (F.raised, 448)] s t ∧
    t = { s with regs := t.regs, ev := t.ev, panel := t.panel } := by
  have wrote : Writes [F.releaseState] s (s.put F.releaseState 3) := .put .refl (by decide)
  refine ⟨_, congrArg Host.Outcome.next (if_pos ⟨waits, by simp [State.quiet, waits, role]⟩), ?_, rfl, ?_,
    wrote.raised rfl (by decide) (by simp), ?_, rfl⟩
  · exact (State.get_put_apart rfl).trans ((State.get_message rfl).trans ((State.get_raise_apart rfl).trans (State.get_put_self ..)))
  · exact (State.get_put_apart rfl).trans (State.get_put_self ..)
  · exact .showLeds (.message (.raise (.put (.refl (s := s)) (by simp)) (by simp)) (by simp)) (by simp)

end Sys2Proof.Machine

namespace Sys2Proof.Machine

open Sys2Proof

/-! The key switch (R63 to R65). -/

/-- The key's new position, with its audit record. -/
def State.keyNoted (s : State) (pos : Nat) : State := (s.put F.key pos).audit 0x10 0 pos 0 0

/-- And its event. -/
def State.keyMoved (s : State) (pos : Nat) : State := (s.keyNoted pos).raise 442 1 0 [(2, s.get F.key), (2, pos)]

/-- A position that is none of the key's. -/
def State.keySound (s : State) (pos : Nat) : State :=
  if pos = 3 then (s.keyMoved pos).keyFaults
  else { s.keyMoved pos with panel := { (s.keyMoved pos).panel with keyFault := false } }

theorem State.keyChange_eq {s : State} {pos : Nat} (moved : s.get F.key ≠ pos) : s.keyChange pos =
    if pos = 2 then
      if (s.keySound pos).canPlan ∧ !(s.keySound pos).pair.partnerKeyStop then (s.keySound pos).planKey
      else if (s.keySound pos).get F.role = rNone then s.keySound pos
      else (s.keySound pos).cause .keyStop 3
    else if s.get F.key = 2 then
      { s.keySound pos with panel := { (s.keySound pos).panel with acts := (s.keySound pos).panel.acts ++
        [{ act := if pos = 1 then 6 else 5, apply := (s.keySound pos).eligible (s.keySound pos).beat.off }] } }
    else s.keySound pos := if_neg moved

/-- The fields that a change of the key writes. -/
def keyFields : List Fld := F.key :: auditFields

theorem State.keyNoted_spec (s : State) (pos : Nat) : (s.keyNoted pos).get F.key = pos % 4 ∧ Recorded 0x10 0 pos (s.keyNoted pos) ∧
    Writes keyFields s (s.keyNoted pos) ∧ RegsBut ((F.key, 0) :: auditRegs) s (s.keyNoted pos) := by
  obtain ⟨-, -, -, -, -, -, -, regs, -⟩ := auditEq (s.put F.key pos) 0x10 0 pos 0 0
  have wrote : Writes auditFields (s.put F.key pos) (s.keyNoted pos) := .audit .refl
  refine ⟨(wrote.get rfl).trans (State.get_put_self ..), audit_recorded .., (Writes.put .refl (by decide)).trans (wrote.mono (by decide)),
    (RegsBut.put (.refl (s := s)) (by simp)).trans (regs.mono fun p hp => List.mem_cons_of_mem _ hp)⟩

theorem State.keyMoved_spec (s : State) (pos : Nat) : (s.keyMoved pos).get F.key = pos % 4 ∧ Recorded 0x10 0 pos (s.keyMoved pos) ∧
    eventOf s 442 1 0 [(2, s.get F.key), (2, pos)] ∈ (s.keyMoved pos).ev.router ∧ Writes keyFields s (s.keyMoved pos) ∧
    RegsBut ([(F.key, 0), (F.raised, 442)] ++ auditRegs) s (s.keyMoved pos) := by
  obtain ⟨key, recorded, wrote, regs⟩ := s.keyNoted_spec pos
  refine ⟨(State.get_raise_apart rfl).trans key, recorded.of_audit rfl, mem_router_of_event wrote (by decide) (by simp) (Writes.refl (ws := [])),
    .raise wrote (by decide), .raise (regs.mono fun p hp => ?_) (by simp)⟩
  · rcases List.mem_cons.1 hp with rfl | audited
    · simp
    · exact List.mem_append_right _ audited

theorem State.keyMoved_touches (s : State) (pos : Nat) : Touches { regs := true, ev := true, sec := true } s (s.keyMoved pos) :=
  .trans (.trans (n := { regs := true, ev := true, sec := true }) (show Touches _ s (s.put F.key pos) from rfl) State.audit_touches rfl)
    (n := { regs := true, ev := true }) rfl rfl

theorem State.keySound_plain {s : State} {pos : Nat} (sound : pos ≠ 3) : s.keySound pos =
    { s.keyMoved pos with panel := { s.panel with keyFault := false } } := by
  have panel : (s.keyMoved pos).panel = s.panel := (s.keyMoved_touches pos).panel_eq rfl
  rw [State.keySound, if_neg sound, panel]

section

variable {k : Fin 4} {s : State} (moved : s.get F.key ≠ k.val) (stop : k.val = 2)

include moved stop

theorem does_keyStop (role : s.get F.role = 1) : Does (.keyChange k) s fun t =>
    t.get F.key = 2 ∧ Recorded 0x10 0 2 t ∧ eventOf s 442 1 0 [(2, s.get F.key), (2, 2)] ∈ t.ev.router ∧
    t.beat.causes = s.beat.causes ++ [{ kind := .keyStop, beat := s.now, code := 3 }] ∧
    RegsBut ([(F.key, 0), (F.raised, 442)] ++ auditRegs) s t ∧ t.mem = s.mem := by
  obtain ⟨key, recorded, event, wrote, regs⟩ := s.keyMoved_spec 2
  have parts := s.keyMoved_touches 2
  have kept : (s.keyMoved 2).get F.role = 1 := (wrote.get rfl).trans role
  have now : (s.keyMoved 2).now = s.now := wrote.get rfl
  have plain : s.keySound 2 = _ := State.keySound_plain (s := s) (by decide)
  rw [stop] at moved
  have change : s.keyChange 2 = (s.keySound 2).cause .keyStop 3 := by
    have same : (s.keySound 2).get F.role = 1 := by
      rw [plain]
      exact kept
    rw [State.keyChange_eq moved, if_pos rfl, if_neg (by simp [State.canPlan, same]), if_neg (by simp [same])]
  have beat : (s.keyMoved 2).beat = s.beat := parts.beat_eq rfl
  have mem : (s.keyMoved 2).mem = s.mem := parts.mem_eq rfl
  refine ⟨(s.keySound 2).cause .keyStop 3, ?_, ?_⟩
  · rw [← change, ← stop]
    rfl
  · rw [plain]
    generalize s.keyMoved 2 = u at *
    refine ⟨key, recorded.of_audit rfl, event, ?_, regs.regs rfl, mem⟩
    rw [← beat, ← now]
    rfl

section

variable (plans : s.canPlan = true) (alone : s.pair.partnerKeyStop = false)

include plans alone

/-- The key at STOP on an ACTIVE with a READY partner plans a handover. -/
theorem State.keyChange_plans : s.keyChange 2 = (s.keySound 2).planKey ∧ (s.keySound 2).canPlan = true ∧
    (s.keySound 2).pair = s.pair ∧ (s.keySound 2).beat = s.beat ∧ (s.keySound 2).now = s.now ∧ (s.keySound 2).get F.key = 2 ∧
    Recorded 0x10 0 2 (s.keySound 2) := by
  obtain ⟨key, recorded, -, wrote, -⟩ := s.keyMoved_spec 2
  have parts := s.keyMoved_touches 2
  have plain : s.keySound 2 = _ := State.keySound_plain (s := s) (by decide)
  have role : (s.keyMoved 2).get F.role = s.get F.role := wrote.get rfl
  have now : (s.keyMoved 2).now = s.now := wrote.get rfl
  have pair : (s.keySound 2).pair = s.pair := by
    rw [plain]
    exact parts.pair_eq rfl
  have still : (s.keySound 2).canPlan = true := by
    have same : (s.keySound 2).get F.role = s.get F.role := by
      rw [plain]
      exact role
    rw [State.canPlan, same, pair]
    exact plans
  rw [stop] at moved
  refine ⟨?_, still, pair, ?_, ?_, ?_, ?_⟩
  · rw [State.keyChange_eq moved, if_pos rfl, if_pos ⟨still, by simp [pair, alone]⟩]
  · rw [plain]
    exact parts.beat_eq rfl
  · rw [plain]
    exact now
  · rw [plain]
    exact key
  · rw [plain]
    exact recorded.of_audit rfl

theorem does_keyHands (none : s.pair.handover = none) : Does (.keyChange k) s fun t => t.get F.key = 2 ∧ t.beat = s.beat ∧
      t.pair.handover = some { apply := if s.beat.committed = true ∨ 42400 ≤ s.beat.off then s.now + 1 else s.now
                               cause := 4, after := 1 } ∧ Recorded 0x10 0 2 t := by
  obtain ⟨change, still, pair, beat, now, key, recorded⟩ := State.keyChange_plans moved stop plans alone
  refine ⟨_, show execKeyChange k s = .next ((s.keySound 2).planKey) from ?_, ?_⟩
  · rw [← change, ← stop]
    rfl
  have unplanned : (s.keySound 2).pair.handover = .none := by rw [pair, none]
  have planned : (s.keySound 2).planKey = (s.keySound 2).plan 4 1 := by
    unfold State.planKey
    rw [unplanned]
  have named : (s.keySound 2).plan 4 1 = _ := if_pos ⟨still, by rw [unplanned]; rfl⟩
  rw [planned, named]
  refine ⟨key, beat, ?_, recorded.of_audit rfl⟩
  rw [← beat, ← now]
  simp only [Bool.or_eq_true, decide_eq_true_eq]

theorem does_keyHandsToo {ho : Handover} (some_ : s.pair.handover = some ho) : Does (.keyChange k) s fun t =>
    t.get F.key = 2 ∧ t.beat = s.beat ∧ t.pair.handover = some { ho with after := if ho.after = 2 then 2 else 1 } ∧
      Recorded 0x10 0 2 t := by
  obtain ⟨change, still, pair, beat, now, key, recorded⟩ := State.keyChange_plans moved stop plans alone
  refine ⟨_, show execKeyChange k s = .next ((s.keySound 2).planKey) from ?_, ?_⟩
  · rw [← change, ← stop]
    rfl
  have standing : (s.keySound 2).pair.handover = some ho := by rw [pair, some_]
  have planned : (s.keySound 2).planKey = { s.keySound 2 with pair := { (s.keySound 2).pair with
      handover := some { ho with after := if ho.after = 2 then 2 else 1 } } } := by
    unfold State.planKey
    rw [standing]
  rw [planned]
  exact ⟨key, beat, rfl, recorded.of_audit rfl⟩

end

end

theorem does_keyAway {k : Fin 4} {s : State} (stop : s.get F.key = 2) (away : k.val < 2) : Does (.keyChange k) s fun t =>
    t.get F.key = k.val ∧ t.panel.acts = s.panel.acts ++ [{ act := if k.val = 1 then 6 else 5, apply := s.eligible s.beat.off }] ∧
    t.panel.keyFault = false ∧ t.beat = s.beat := by
  obtain ⟨key, -, -, wrote, -⟩ := s.keyMoved_spec k.val
  have parts := s.keyMoved_touches k.val
  have plain : s.keySound k.val = _ := State.keySound_plain (s := s) (by omega)
  have beat : (s.keyMoved k.val).beat = s.beat := parts.beat_eq rfl
  have eligible : (s.keyMoved k.val).eligible s.beat.off = s.eligible s.beat.off := State.eligible_same wrote beat rfl _
  refine ⟨_, congrArg Host.Outcome.next ((State.keyChange_eq (by omega)).trans ((if_neg (by omega)).trans (if_pos stop))), ?_⟩
  rw [plain]
  generalize s.keyMoved k.val = u at *
  refine ⟨key.trans (Nat.mod_eq_of_lt (by omega)), ?_, rfl, beat⟩
  rw [← eligible, ← beat]
  rfl

theorem does_keyLost {k : Fin 4} {s : State} (old : s.get F.key < 2) (lost : k.val = 3) : Does (.keyChange k) s fun t =>
    t.get F.key = 3 ∧ t.panel.keyFault = true ∧ (∃ n, n < 4 ∧ RaisedLast [eventOf s 443 1 2 [(32, n)]] s t) ∧ t.beat = s.beat := by
  obtain ⟨key, -, -, wrote, -⟩ := s.keyMoved_spec k.val
  have parts := s.keyMoved_touches k.val
  have beat : (s.keyMoved k.val).beat = s.beat := parts.beat_eq rfl
  have faults : s.keySound k.val = (s.keyMoved k.val).keyFaults := if_pos lost
  refine ⟨_, congrArg Host.Outcome.next ((State.keyChange_eq (by omega)).trans ((if_neg (by omega)).trans ((if_neg (by omega)).trans
    faults))), ?_⟩
  generalize s.keyMoved k.val = u at *
  refine ⟨?_, rfl, ⟨_, u.fresh_lt 2, ?_⟩, beat⟩
  · exact (State.get_put_apart rfl).trans (key.trans (by rw [lost]))
  · exact Writes.raisedLast (t := { (u.fresh 2).2 with panel := { u.panel with keyFault := true } }) (wrote.upd rfl rfl rfl rfl) (by decide)
      (by simp)

/-- Settles O59: each button and key position is a branch of the model's own case distinction; what an action writes leaves the
beat's registers, so that it is stamped and applied as it was when it was taken. -/
theorem theButtonsAndTheKeyAct : Obligations.TheButtonsAndTheKeyAct := by
  unfold Obligations.TheButtonsAndTheKeyAct
  refine ⟨?_, ?_, fun s h => ⟨s, congrArg Host.Outcome.next (if_neg fun c => h c.1), rfl⟩, fun n s => does_resetRelease, ?_, ?_, ?_, ?_, ?_,
    ?_, fun n s => does_releaseRefused, fun n s => does_releaseQuiesces, fun n s => does_releaseHands,
    fun n s h => ⟨s, congrArg Host.Outcome.next (if_pos h), rfl⟩, fun s => does_releaseHold,
    fun s h => ⟨s, congrArg Host.Outcome.next (if_neg h), rfl⟩, fun s => does_okToRemove,
    fun s h => ⟨s, congrArg Host.Outcome.next (if_neg fun c => h c.1), rfl⟩,
    fun k s h => ⟨s, congrArg Host.Outcome.next (if_pos h), rfl⟩, fun k s => does_keyStop, fun k s => does_keyHands,
    fun k ho s moved stop plans alone => does_keyHandsToo moved stop plans alone, fun k s => does_keyAway, fun k s => does_keyLost⟩
  case refine_1 =>
    intro s open_ on
    exact ⟨_, congrArg Host.Outcome.next (if_pos ⟨open_, by simp [on]⟩), State.get_put_self .., .put (.refl (s := s)) (by simp), rfl⟩
  case refine_2 =>
    intro s open_ on
    exact ⟨_, congrArg Host.Outcome.next (if_pos ⟨open_, by simp [on]⟩), State.get_put_self .., .put (.refl (s := s)) (by simp), rfl⟩
  case refine_3 =>
    intro n s on ready free long
    obtain ⟨state, count, -, whole, raised, -⟩ := State.stuckReset_spec (s := s) (b := false)
    obtain ⟨regs, parts⟩ := whole rfl
    exact ⟨_, congrArg Host.Outcome.next ((if_neg (by simp [on]; omega)).trans ((if_neg free).trans (if_pos long))), state, count,
      raised, regs, parts⟩
  case refine_4 =>
    intro n s on ready waits long
    have lets : s.resetRelease n = if s.get F.resetState = 1 then s.put F.resetState 0 else s :=
      (if_neg (by simp [on]; omega)).trans (if_pos waits)
    refine ⟨_, congrArg Host.Outcome.next lets, ?_⟩
    split
    case isTrue closed => exact ⟨State.get_put_self .., .put (.refl (s := s)) (by simp), rfl⟩
    case isFalse opened => exact ⟨by omega, .refl (s := s), rfl⟩
  case refine_5 =>
    intro n s h
    exact ⟨s, congrArg Host.Outcome.next (if_pos (by rcases h with h | h <;> omega)), rfl⟩
  case refine_6 =>
    intro b s on ready
    obtain ⟨state, count, start, -, raised, regs⟩ := State.stuckReset_spec (s := s) (b := b)
    exact ⟨_, congrArg Host.Outcome.next (if_neg (by simp [on]; omega)), state, count, start, raised, regs⟩
  case refine_7 =>
    intro s h
    exact ⟨_, congrArg Host.Outcome.next (if_pos h), (State.get_put_apart rfl).trans (State.get_put_self ..),
      .showLeds (.put (.refl (s := s)) (by simp)) (by simp), rfl⟩
  case refine_8 =>
    intro s h
    exact ⟨s, congrArg Host.Outcome.next (if_neg (by omega)), rfl⟩

end Sys2Proof.Machine

namespace Sys2Proof.Machine

open Sys2Proof

/-! Erases in the windows of the watchdog (R460, R529). -/

/-- An erase that is wanted. -/
def State.eraseAsked (s : State) : State := { s with wd := { s.wd with erase := 1 } }

/-- An erase that is busy holds the counter of a running window. -/
def State.eraseBusy (s : State) : State :=
  if s.wd.running ∧ s.get F.wdState = 0 then ({ s with wd := { s.wd with erase := 2 } } : State).put F.wdState 1
  else { s with wd := { s.wd with erase := 2 } }

theorem State.eraseWanted_eq (s : State) : s.eraseWanted =
    if s.wd.running ∧ 5000 < s.get F.guardUsed then s.eraseAsked else s.eraseAsked.eraseBusy := by
  have whole : s.eraseWanted = if (1 ≠ 1 ∨ (s.wd.running ∧ 5000 < s.get F.guardUsed)) then s.eraseAsked else s.eraseAsked.eraseBusy := rfl
  rw [whole]
  exact if_congr (by simp) rfl rfl

/-- An erase is wanted behind `s`, of whose watchdog nothing but its erase differs. -/
theorem State.eraseWanted_spec {s u : State} {e : Nat} (wd : u.wd = { s.wd with erase := e }) (idle : u.get F.wdState ≠ 1) :
    EraseWanted (u.get F.guardUsed) s u.eraseWanted ∧ RegsBut [(F.wdState, 0)] u u.eraseWanted ∧
    u.eraseWanted.get F.guardUsed = u.get F.guardUsed := by
  have running : u.wd.running = s.wd.running := by rw [wd]
  rw [State.eraseWanted_eq, EraseWanted, ← running]
  split
  case isTrue waits =>
    refine ⟨⟨?_, idle⟩, .refl (s := u), rfl⟩
    rw [State.eraseAsked, wd]
  case isFalse starts =>
    unfold State.eraseBusy
    split
    case isTrue held =>
      refine ⟨⟨?_, fun _ => ?_⟩, .put (.refl (s := u)) (by simp), State.get_put_apart rfl⟩
      · show ({ u.wd with erase := 2 } : WdSt) = _
        rw [wd]
      · rw [State.get_put_self]
        decide
    case isFalse free =>
      refine ⟨⟨?_, fun on none => free ⟨on, none⟩⟩, .refl (s := u), rfl⟩
      show ({ u.wd with erase := 2 } : WdSt) = _
      rw [wd]

/-- A busy erase ends. -/
theorem State.eraseEnds_spec (s : State) (held : Nat) : (s.eraseEnds held).wd = { s.wd with erase := 0 } ∧
    (s.eraseEnds held).get F.wdState = (if s.get F.wdState = 1 then 0 else s.get F.wdState) ∧
    (s.get F.guardUsed ≤ 25000 → (s.eraseEnds held).get F.guardUsed = guardAfter s held) ∧
    RegsBut [(F.wdState, 0), (F.guardUsed, 0)] s (s.eraseEnds held) ∧
    s.eraseEnds held = { s with regs := (s.eraseEnds held).regs, wd := { s.wd with erase := 0 } } := by
  have whole : s.eraseEnds held = if s.get F.wdState = 1 then
      (({ s with wd := { s.wd with erase := 0 } } : State).put F.wdState 0).put F.guardUsed (min 25000 (s.get F.guardUsed + held))
    else { s with wd := { s.wd with erase := 0 } } := rfl
  rw [whole, guardAfter]
  split
  case isTrue busy =>
    refine ⟨rfl, (State.get_put_apart rfl).trans (State.get_put_self ..), fun _ => ?_, .put (.put (.regs (.refl (s := s)) rfl) (by simp)) (by simp), rfl⟩
    exact State.get_put_fits (by show min 25000 _ < 65536; omega)
  case isFalse idle => exact ⟨rfl, rfl, fun _ => rfl, .regs (.refl (s := s)) rfl, rfl⟩

/-- The next block group is wanted once the busy erase has ended. -/
theorem State.eraseAgain_spec {s : State} {held : Nat} (used : s.get F.guardUsed ≤ 25000) :
    EraseWanted (guardAfter s held) s (s.eraseEnds held).eraseWanted ∧
    (s.eraseEnds held).eraseWanted.get F.guardUsed = guardAfter s held ∧
    RegsBut [(F.wdState, 0), (F.guardUsed, 0)] s (s.eraseEnds held).eraseWanted ∧
    (s.eraseEnds held).eraseWanted =
      { s with regs := (s.eraseEnds held).eraseWanted.regs, wd := (s.eraseEnds held).eraseWanted.wd } := by
  obtain ⟨wd, state, guard, regs, -⟩ := s.eraseEnds_spec held
  have idle : (s.eraseEnds held).get F.wdState ≠ 1 := by
    rw [state]
    split <;> omega
  obtain ⟨wanted, after, kept⟩ := State.eraseWanted_spec wd idle
  rw [guard used] at wanted kept
  exact ⟨wanted, kept, regs.trans (after.mono (by simp)), (State.eraseEnds_touches.comp State.eraseWanted_touches).eq_takes⟩

/-! Slots and transfers (R398 to R400, R520). -/

/-- The entry that was put is the one found. -/
theorem slotPut_self {l : List (Nat × ImgSlot)} {ty k : Nat} {x : ImgSlot} (full : x.state ≠ 0) :
    (slotPut l ty k x).find? (fun e => e.1 == ty * 4 + k) = some (ty * 4 + k, x) := by
  unfold slotPut
  rw [if_neg full]
  exact find_replaced_self Prod.fst l (ty * 4 + k, x)

/-- An emptied slot has no entry. -/
theorem slotPut_empty {l : List (Nat × ImgSlot)} {ty k : Nat} :
    (slotPut l ty k {}).find? (fun e => e.1 == ty * 4 + k) = none := by
  unfold slotPut
  rw [if_pos rfl, List.append_nil]
  simp [List.find?_eq_none]

theorem slotPut_other {l : List (Nat × ImgSlot)} {ty k n : Nat} {x : ImgSlot} (other : n ≠ ty * 4 + k) :
    (slotPut l ty k x).find? (fun e => e.1 == n) = l.find? (fun e => e.1 == n) := by
  have placed := find_replaced_other Prod.fst (l := l) (x := (ty * 4 + k, x)) other
  unfold slotPut
  split
  · rw [List.find?_append, show [(ty * 4 + k, x)].find? (fun e => e.1 == n) = none by simp [Ne.symm other], Option.or_none] at placed
    rw [List.append_nil]
    exact placed
  · exact placed

theorem State.slot_placed {s t : State} {ty k : Nat} {x : ImgSlot} (h : t.img.slots = slotPut s.img.slots ty k x) (full : x.state ≠ 0) :
    t.slot ty k = x ∧ SlotsBut ty k s t := by
  refine ⟨by rw [State.slot, h, slotPut_self full]; rfl, fun a b other => ?_⟩
  rw [State.slot, h, slotPut_other other, ← State.slot]

theorem State.slot_emptied {s t : State} {ty k : Nat} (h : t.img.slots = slotPut s.img.slots ty k {}) :
    t.slot ty k = {} ∧ SlotsBut ty k s t := by
  refine ⟨by rw [State.slot, h, slotPut_empty]; rfl, fun a b other => ?_⟩
  rw [State.slot, h, slotPut_other other, ← State.slot]

/-- What an accepted IMAGE_HEADER makes of the images. -/
def State.headerTaken (s : State) (p : Packet) : State :=
  (s.writeSlots (fun l => slotPut l (hdrBytes (p.val 0x0034 0) 5 1) 1 {})).onImg (fun i => { i with erase := some (p, p.val 0x0034 0) })

theorem does_imageHeader {p : Packet} {u : UnitSel} {s : State} (h : Passes .imageHeader p (imageHeaderChk p) u s)
    (idle : s.get F.wdState ≠ 1) : Does (.imageHeader p) s fun t =>
    t.img.erase = some (p, p.val 0x0034 0) ∧ t.slot (hdrBytes (p.val 0x0034 0) 5 1) 1 = {} ∧
    SlotsBut (hdrBytes (p.val 0x0034 0) 5 1) 1 s t ∧ t.img.slotSeq = s.img.slotSeq + 1 ∧
    EraseWanted (s.get F.guardUsed) s t ∧ RegsBut [(F.wdState, 0)] s t ∧
    t = { s with img := { s.img with slots := t.img.slots, slotSeq := t.img.slotSeq, erase := t.img.erase }
                 regs := t.regs, wd := t.wd
                 lcp := { s.lcp with sessions := t.lcp.sessions }, beat := { s.beat with off := t.beat.off } } := by
  have runs : exec (.imageHeader p) s = .next ((s.noteSeq p).headerTaken p).eraseWanted :=
    congrArg Host.Outcome.next (deferred_go h.1 h.2)
  obtain ⟨wanted, regs, -⟩ := State.eraseWanted_spec (s := s) (u := (s.noteSeq p).headerTaken p) (e := s.wd.erase) rfl idle
  have parts := State.eraseWanted_touches (a0 := (s.noteSeq p).headerTaken p)
  have whole := parts.eq_takes
  have img := parts.img_eq rfl
  have lcp := parts.lcp_eq rfl
  have beat := parts.beat_eq rfl
  have slots : ((s.noteSeq p).headerTaken p).eraseWanted.img.slots =
      slotPut s.img.slots (hdrBytes (p.val 0x0034 0) 5 1) 1 {} := congrArg ImageSt.slots img
  obtain ⟨empty, others⟩ := State.slot_emptied slots
  refine ⟨_, runs, congrArg ImageSt.erase img, empty, others, congrArg ImageSt.slotSeq img, wanted, regs, ?_⟩
  rw [img, lcp, beat]
  exact whole

theorem does_eraseNext {s : State} {held : Nat} (waits : s.img.erase.isSome = true) (busy : s.wd.erase = 2)
    (used : s.get F.guardUsed ≤ 25000) : Does (.imageEraseComplete held true) s fun t =>
      EraseWanted (guardAfter s held) s t ∧ t.get F.guardUsed = guardAfter s held ∧
      RegsBut [(F.wdState, 0), (F.guardUsed, 0)] s t ∧ t = { s with regs := t.regs, wd := t.wd } :=
  ⟨_, congrArg Host.Outcome.next ((if_neg (by simp [Option.isNone_iff_eq_none, ← Option.not_isSome_iff_eq_none, waits, busy])).trans
    (if_pos rfl)), State.eraseAgain_spec used⟩

/-- The transfer that the erase of a staged slot opens. -/
def State.imageTransfer (s : State) (p : Packet) (h : Nat) : Transfer :=
  { id := s.lcp.nextTransfer, image := true, sess := p.sess, total := hdrBytes h 24 8, hdr := h, pair := false, last := s.now }

/-- A transfer is opened. -/
def State.openTransfer (s : State) (x : Transfer) : State :=
  { s with lcp := { s.lcp with transfers := s.lcp.transfers ++ [x], nextTransfer := s.lcp.nextTransfer + 1 } }

/-- The erased slot opens its transfer. -/
def State.slotOpened (s : State) (p : Packet) (h : Nat) : State :=
  (s.onImg (fun i => { i with erase := none })).openTransfer (s.imageTransfer p h)

theorem State.slotErased_eq {s : State} {p : Packet} {h : Nat} (waits : s.img.erase = some (p, h)) :
    ∃ r, s.slotErased = (s.slotOpened p h).answer r ∧ r.op = opCode .imageHeader ∧ r.sess = p.sess ∧ r.seq = p.seq ∧ r.status = stOk ∧
      r.tlvs = [tlv 0x8007 4 s.lcp.nextTransfer] := by
  unfold State.slotErased
  rw [waits]
  exact ⟨_, rfl, rfl, rfl, rfl, rfl, rfl⟩

theorem does_eraseLast {s : State} {held h : Nat} {p : Packet} (waits : s.img.erase = some (p, h)) (busy : s.wd.erase = 2) :
    Does (.imageEraseComplete held false) s fun t =>
    EraseEnded held s t ∧ RegsBut [(F.wdState, 0), (F.guardUsed, 0)] s t ∧
    t.img = { s.img with erase := none } ∧
    t.lcp.transfers = s.lcp.transfers ++
      [{ id := s.lcp.nextTransfer, image := true, sess := p.sess, total := hdrBytes h 24 8, hdr := h, pair := false
         last := s.get F.beatIndex }] ∧
    (∃ r, t.lcp.wire = s.lcp.wire ++ [r] ∧ r.op = opCode .imageHeader ∧ r.sess = p.sess ∧ r.seq = p.seq ∧ r.status = stOk ∧
      r.tlvs = [tlv 0x8007 4 s.lcp.nextTransfer]) ∧
    t = { s with regs := t.regs, wd := t.wd, img := t.img
                 lcp := { s.lcp with transfers := t.lcp.transfers, nextTransfer := s.lcp.nextTransfer + 1
                                     sessions := t.lcp.sessions, wire := t.lcp.wire } } := by
  obtain ⟨wd, state, guard, regs, parts⟩ := s.eraseEnds_spec held
  have now : (s.eraseEnds held).now = s.get F.beatIndex := regs.get_apart [F.wdState, F.guardUsed] (by simp) rfl
  have touched := State.eraseEnds_touches (a0 := s) (a1 := held)
  have img := touched.img_eq rfl
  have lcp := touched.lcp_eq rfl
  have erase : (s.eraseEnds held).img.erase = some (p, h) := (congrArg ImageSt.erase img).trans waits
  obtain ⟨r, opened, op, sess, seq, status, tlvs⟩ := State.slotErased_eq erase
  rw [lcp] at tlvs
  refine ⟨_, congrArg Host.Outcome.next ((if_neg (by simp [waits, busy])).trans ((if_neg (by decide)).trans opened)), ?_⟩
  generalize s.eraseEnds held = u at *
  refine ⟨⟨wd, state, guard⟩, regs.regs rfl, by rw [← img]; rfl, ?_, ⟨r, by rw [← lcp]; rfl, op, sess, seq, status, tlvs⟩, ?_⟩
  · rw [← now, ← lcp]
    rfl
  · have sent : ((u.slotOpened p h).answer r).lcp = { s.lcp with
        transfers := ((u.slotOpened p h).answer r).lcp.transfers, nextTransfer := s.lcp.nextTransfer + 1
        sessions := ((u.slotOpened p h).answer r).lcp.sessions, wire := ((u.slotOpened p h).answer r).lcp.wire } := by
      rw [← lcp]
      rfl
    rw [← sent]
    have opens : Touches { img := true, lcp := true } u ((u.slotOpened p h).answer r) := rfl
    exact ((touched.mono (n := { regs := true, wd := true, img := true, lcp := true }) rfl).trans opens rfl).eq_takes

/-- A transfer has the data of a chunk. -/
theorem ChunkTaken.put {p : Packet} {x : Transfer} {s t : State} (same : t.lcp.transfers = (s.putTransfer (x.take p)).lcp.transfers) :
    ChunkTaken p x s t := by
  intro y
  rw [same]
  simp only [State.putTransfer, List.mem_append, List.mem_filter, List.mem_singleton, bne_iff_ne, ne_eq]
  exact Iff.rfl

theorem mem_closeTransfer {s : State} {id : Nat} {y : Transfer} :
    y ∈ (s.closeTransfer id).lcp.transfers ↔ y ∈ s.lcp.transfers ∧ y.id ≠ id := by
  simp only [State.closeTransfer, List.mem_filter, bne_iff_ne, ne_eq]

/-- IMAGE_CHUNK behind its checks. -/
def imageChunkBody (p : Packet) (_ : UnitSel) (s : State) : Ans :=
  match s.transferOf p true with
  | none => { st := s }
  | some t => { st := s.putTransfer (t.take p) }

theorem does_imageChunk {p : Packet} {u : UnitSel} {s : State} {x : Transfer}
    (h : Passes .imageChunk p (fun _ s => chunkChk p true s) u s) (open_ : s.transferOf p true = some x) :
    Does (.imageChunk p) s fun t => ChunkTaken p x s t ∧ Replied .imageChunk p u stOk [] false s t ∧
      t = { s with lcp := { s.lcp with transfers := t.lcp.transfers, sessions := t.lcp.sessions, wire := t.lcp.wire }
                   beat := { s.beat with off := t.beat.off } } := by
  have found : (s.noteSeq p).transferOf p true = some x := open_
  have body : imageChunkBody p u (s.noteSeq p) = { st := (s.noteSeq p).putTransfer (x.take p) } := by
    unfold imageChunkBody
    rw [found]
  refine does_served (body := imageChunkBody p) h rfl fun r hr => ?_
  rw [body] at hr ⊢
  exact ⟨.put rfl, replied_mk (a := { st := (s.noteSeq p).putTransfer (x.take p) }) hr rfl, rfl⟩

theorem does_programStage {p : Packet} {u : UnitSel} {s : State} (h : Passes .programStage p (programStageChk p) u s) :
    Does (.programStage p) s fun t =>
    t.lcp.transfers = s.lcp.transfers ++
      [{ id := s.lcp.nextTransfer, image := false, sess := p.sess, total := p.val 0x0025 0, pair := !modulePath u s
         cluster := pktCluster p, last := s.get F.beatIndex }] ∧
    Replied .programStage p u stOk [tlv 0x8007 4 s.lcp.nextTransfer] false s t ∧
    t = { s with lcp := { s.lcp with transfers := t.lcp.transfers, nextTransfer := s.lcp.nextTransfer + 1
                                     sessions := t.lcp.sessions, wire := t.lcp.wire }
                 beat := { s.beat with off := t.beat.off } } := by
  refine does_served h rfl fun r hr => ?_
  exact ⟨rfl, replied_mk hr rfl, rfl⟩

/-! Programs (R80, R116). -/

theorem does_programChunk {p : Packet} {prog : Option Program} {u : UnitSel} {s : State} {x : Transfer}
    (h : Passes .programChunk p (fun _ s => chunkChk p false s) u s) (open_ : s.transferOf p false = some x)
    (more : x.got + chunkLen p < x.total) : Does (.programChunk p prog) s fun t =>
      ChunkTaken p x s t ∧ RepliedHeld .programChunk p stOk [] s t ∧
      t = { s with lcp := { s.lcp with transfers := t.lcp.transfers, sessions := t.lcp.sessions, wire := t.lcp.wire
                                       heldReplies := t.lcp.heldReplies }, beat := { s.beat with off := t.beat.off } } := by
  have found : (s.noteSeq p).transferOf p false = some x := open_
  have body : programChunkBody p prog u (s.noteSeq p) = { st := (s.noteSeq p).putTransfer (x.take p) } := by
    unfold programChunkBody
    rw [found]
    exact if_pos more
  refine does_tracked h rfl fun r hr => ?_
  rw [body] at hr ⊢
  have replied := held_mk (a := { st := (s.noteSeq p).putTransfer (x.take p) }) (s := s) hr rfl rfl
  rw [State.answerHeld_eq] at replied ⊢
  exact ⟨.put rfl, replied, rfl⟩

/-- The runtime part of a cluster reads as it was put. -/
theorem State.rtOf_putRt (s : State) (rt : RtSt) : (c : Nat) → (s.putRt c rt).rtOf c = rt
  | 0 => rfl
  | 1 => rfl
  | 2 => rfl
  | _ + 3 => rfl

/-- A program that passes its checks is staged for the pair, or on the module for its cluster (R116, R191). -/
theorem State.stageProgram_spec (s : State) (x : Transfer) (g : Program) :
    (if x.pair then (s.stageProgram x g).pair.partnerStaged = true else ((s.stageProgram x g).rtOf x.cluster).staged = some g) ∧
    (s.stageProgram x g).lcp = s.lcp ∧ (s.stageProgram x g).regs = s.regs ∧ (s.stageProgram x g).mem = s.mem ∧
    (s.stageProgram x g).ev = s.ev := by
  unfold State.stageProgram
  split
  · exact ⟨rfl, rfl, rfl, rfl, rfl⟩
  · have touched := State.putRt_touches (a0 := s) (a1 := x.cluster) (a2 := { s.rtOf x.cluster with staged := some g })
    exact ⟨congrArg RtSt.staged (s.rtOf_putRt _ x.cluster), touched.lcp_eq rfl, touched.regs_eq rfl, touched.mem_eq rfl,
      touched.ev_eq rfl⟩

section

variable {p : Packet} {g : Program} {u : UnitSel} {s : State} {x : Transfer}
  (h : Passes .programChunk p (fun _ s => chunkChk p false s) u s) (open_ : s.transferOf p false = some x)
  (last : x.total ≤ x.got + chunkLen p)

include open_ last

/-- The chunk that completes a program closes its transfer, and the program is checked. -/
theorem programChunkBody_last : programChunkBody p (some g) u (s.noteSeq p) =
    if programDetail g (s.get F.hwIssue - 1) = 0 then { st := ((s.noteSeq p).closeTransfer x.id).stageProgram (x.take p) g }
    else { st := (s.noteSeq p).closeTransfer x.id, status := stBadParam, tlvs := detail (programDetail g (s.get F.hwIssue - 1)) } := by
  have found : (s.noteSeq p).transferOf p false = some x := open_
  unfold programChunkBody
  rw [found]
  exact if_neg (Nat.not_lt.2 last)

include h

theorem does_programStaged (passes : programDetail g (s.get F.hwIssue - 1) = 0) : Does (.programChunk p (some g)) s fun t =>
      (∀ y, y ∈ t.lcp.transfers ↔ y ∈ s.lcp.transfers ∧ y.id ≠ x.id) ∧ RepliedHeld .programChunk p stOk [] s t ∧
      (if x.pair then t.pair.partnerStaged = true else (t.rtOf x.cluster).staged = some g) ∧
      t.regs = s.regs ∧ t.mem = s.mem ∧ t.ev = s.ev := by
  have body : programChunkBody p (some g) u (s.noteSeq p) = _ := (programChunkBody_last open_ last).trans (if_pos passes)
  refine does_tracked h rfl fun r hr => ?_
  rw [body] at hr ⊢
  obtain ⟨staged, lcp, regs, mem, ev⟩ := State.stageProgram_spec ((s.noteSeq p).closeTransfer x.id) (x.take p) g
  generalize ((s.noteSeq p).closeTransfer x.id).stageProgram (x.take p) g = v at *
  have replied := held_mk (a := { st := v }) (s := s) hr (by rw [lcp]; rfl) (by rw [lcp]; rfl)
  rw [State.answerHeld_eq] at replied ⊢
  refine ⟨fun y => ?_, replied, staged, regs, mem, ev⟩
  show y ∈ v.lcp.transfers ↔ _
  rw [lcp]
  exact mem_closeTransfer (s := s.noteSeq p)

theorem does_programRefused (fails : programDetail g (s.get F.hwIssue - 1) ≠ 0) : Does (.programChunk p (some g)) s fun t =>
      (∀ y, y ∈ t.lcp.transfers ↔ y ∈ s.lcp.transfers ∧ y.id ≠ x.id) ∧
      RepliedHeld .programChunk p stBadParam (detail (programDetail g (s.get F.hwIssue - 1))) s t ∧
      t = { s with lcp := { s.lcp with transfers := t.lcp.transfers, sessions := t.lcp.sessions, wire := t.lcp.wire
                                       heldReplies := t.lcp.heldReplies }, beat := { s.beat with off := t.beat.off } } := by
  have body : programChunkBody p (some g) u (s.noteSeq p) = _ := (programChunkBody_last open_ last).trans (if_neg fails)
  refine does_tracked h rfl fun r hr => ?_
  rw [body] at hr ⊢
  have replied := held_mk (a := { st := (s.noteSeq p).closeTransfer x.id, status := stBadParam
                                  tlvs := detail (programDetail g (s.get F.hwIssue - 1)) }) (s := s) hr rfl rfl
  rw [State.answerHeld_eq] at replied ⊢
  exact ⟨fun y => mem_closeTransfer (s := s.noteSeq p), replied, rfl⟩

end

/-- Settles O18: headers and chunks, clause by clause; the erase guard comes from one lemma about the end of a block group. -/
theorem imagesAndProgramsAreStagedByChunks : Obligations.ImagesAndProgramsAreStagedByChunks := by
  unfold Obligations.ImagesAndProgramsAreStagedByChunks
  refine ⟨?_, ?_, ?_, ?_, ?_, ?_, ?_, ?_⟩
  · exact fun p u s => does_imageHeader
  · exact fun s held => does_eraseNext
  · exact fun s held p h => does_eraseLast
  · exact fun p u s x => does_imageChunk
  · exact fun p u s => does_programStage
  · exact fun p prog u s x => does_programChunk
  · exact fun p g u s x => does_programStaged
  · exact fun p g u s x => does_programRefused

end Sys2Proof.Machine

namespace Sys2Proof.Machine

open Sys2Proof

/-! The pair-update record and the staged image (R527, R535, R537). -/

theorem RegsBut.journalProgram (s : State) : RegsBut [(F.raised, 378)] s s.journalProgram := by
  unfold State.journalProgram
  obtain ⟨-, -, -, -, regs⟩ := journal_spec s 0x0A 0 32 (packBytes ([(4, s.get F.programGen), (1, s.get F.changePending),
    (1, s.get F.pairUpdate), (2, 0)] ++ (List.range 6).map (fun i => (4, s.img.pairRec.getD i 0)))).1 true false
  exact regs

theorem State.recordPairUpdate_spec (s : State) (ty v : Nat) :
    (s.recordPairUpdate ty v).img = { s.img with pairRec := (s.recordPairUpdate ty v).img.pairRec } ∧
    (s.pair.single = false → (s.recordPairUpdate ty v).get F.pairUpdate = 1) ∧
    RegsBut [(F.pairUpdate, 0), (F.raised, 378)] s (s.recordPairUpdate ty v) := by
  unfold State.recordPairUpdate
  split
  case isTrue single => exact ⟨rfl, fun two => by simp [single] at two, .refl⟩
  case isFalse two =>
    dsimp only
    generalize rec_ : s.img.pairRec ++ List.replicate (6 - s.img.pairRec.length) 0 = old
    generalize put_ : (s.onImg (fun i => { i with pairRec := old.set ty v })).put F.pairUpdate 1 = u
    have img : u.journalProgram.img = u.img := State.journalProgram_touches.img_eq rfl
    have same : u.img = { s.img with pairRec := u.img.pairRec } := by rw [← put_]; rfl
    have one : u.get F.pairUpdate = 1 := by rw [← put_]; exact State.get_put_self ..
    have regs : RegsBut [(F.pairUpdate, 0), (F.raised, 378)] s u := by
      rw [← put_]
      exact .put (.regs (.refl (s := s)) rfl) (by simp)
    have wrote := RegsBut.journalProgram u
    refine ⟨?_, fun _ => (wrote.get_apart [F.raised] (by simp) rfl).trans one, regs.trans (wrote.mono (by simp))⟩
    rw [img]
    exact same

/-- The staged image is valid under the confirmation rules that stand now; the pair-update record follows. -/
def State.slotStaged (s : State) (x : Transfer) : State :=
  ((s.closeTransfer x.id).writeSlots (fun l => slotPut l (hdrBytes x.hdr 5 1) 1 (stagedSlot x))).onImg (fun i => { i with
    confirm := s.get F.confirmMode, period := s.get F.confirmPeriod, deadline := s.get F.confirmDeadlineCfg
    limit := s.get F.startLimit })

theorem State.stageImage_eq (s : State) (x : Transfer) :
    s.stageImage x = (s.slotStaged x).recordPairUpdate (hdrBytes x.hdr 5 1) (stagedSlot x).version := rfl

/-- What a staged image is, but for what its commit does next. -/
structure Staged (x : Transfer) (s t : State) : Prop where
  slot : t.slot (hdrBytes x.hdr 5 1) 1 = stagedSlot x
  others : SlotsBut (hdrBytes x.hdr 5 1) 1 s t
  confirm : t.img.confirm = s.get F.confirmMode
  period : t.img.period = s.get F.confirmPeriod
  deadline : t.img.deadline = s.get F.confirmDeadlineCfg
  limit : t.img.limit = s.get F.startLimit
  bank : t.img.bankState = s.img.bankState
  pair : s.pair.single = false → t.get F.pairUpdate = 1
  regs : RegsBut [(F.pairUpdate, 0), (F.raised, 378)] s t
  lcp : t.lcp = (s.closeTransfer x.id).lcp
  parts : Touches { regs := true, ev := true, lcp := true, jr := true, img := true } s t

theorem State.stageImage_spec (s : State) (x : Transfer) : Staged x s (s.stageImage x) := by
  rw [State.stageImage_eq]
  obtain ⟨img, pair, regs⟩ := (s.slotStaged x).recordPairUpdate_spec (hdrBytes x.hdr 5 1) (stagedSlot x).version
  have touched := State.recordPairUpdate_touches (a0 := s.slotStaged x) (a1 := hdrBytes x.hdr 5 1) (a2 := (stagedSlot x).version)
  have lcp := touched.lcp_eq rfl
  have staged : Touches { regs := true, ev := true, lcp := true, jr := true, img := true } s (s.slotStaged x) := rfl
  have parts := staged.trans touched rfl
  generalize (s.slotStaged x).recordPairUpdate (hdrBytes x.hdr 5 1) (stagedSlot x).version = t at *
  have slots : t.img.slots = slotPut s.img.slots (hdrBytes x.hdr 5 1) 1 (stagedSlot x) := by rw [img]; rfl
  obtain ⟨slot, others⟩ := State.slot_placed slots (by simp [stagedSlot])
  exact {
    slot, others, lcp, parts, pair
    confirm := by rw [img]; rfl
    period := by rw [img]; rfl
    deadline := by rw [img]; rfl
    limit := by rw [img]; rfl
    bank := by rw [img]; rfl
    regs := (RegsBut.regs (.refl (s := s)) rfl).trans regs }

/-! IMAGE_COMMIT (R424, R527). -/

section

variable {p : Packet} {u : UnitSel} {s : State} {x : Transfer}

/-- The commit is recorded. -/
def State.commitNoted (s : State) (p : Packet) (x : Transfer) : State :=
  (s.noteSeq p).auditBy p.sess 0x0B (if p.digestOk then 0 else stBadParam) (hdrBytes x.hdr 5 1)

theorem State.commitNoted_regs : RegsBut auditRegs s (s.commitNoted p x) :=
  (RegsBut.regs (.refl (s := s)) rfl).trans (RegsBut.auditBy (s.noteSeq p) _ _ _ _)

theorem State.commitNoted_parts : ∃ rg ev sec, s.commitNoted p x = { s.noteSeq p with regs := rg, ev := ev, sec := sec } :=
  ⟨_, _, _, (s.noteSeq p).auditBy_parts ..⟩

theorem State.commitNoted_recorded :
    Recorded 0x0B (if p.digestOk then 0 else stBadParam) (hdrBytes x.hdr 5 1) (s.commitNoted p x) :=
  (s.noteSeq p).auditBy_recorded ..

/-- An accepted IMAGE_COMMIT whose body matches its digest, behind its record. -/
def State.committed (s : State) (p : Packet) (u : UnitSel) (x : Transfer) : State :=
  if hdrBytes x.hdr 5 1 = 0 then
    ((s.stageImage x).onImg (fun i => { i with
      bankState := i.bankState.set (bankOf p (s.stageImage x)) 3, program := some (p, bankOf p (s.stageImage x)) })).eraseWanted
  else ((s.stageImage x).answer (mkReply .imageCommit p (s.stageImage x) (some u) 0 stOk [])).restartNow p

theorem imageCommitBody_eq (open_ : s.transferOf p true = some x) : imageCommitBody p u (s.noteSeq p) =
    if !p.digestOk then ((s.commitNoted p x).closeTransfer x.id).answer
      (mkReply .imageCommit p ((s.commitNoted p x).closeTransfer x.id) (some u) 0 stBadParam (detail 8))
    else (s.commitNoted p x).committed p u x := by
  have found : (s.noteSeq p).transferOf p true = some x := open_
  unfold imageCommitBody
  rw [found]
  rfl

theorem does_commitRefused (h : Passes .imageCommit p (imageCommitBefore p) u s) (open_ : s.transferOf p true = some x)
    (bad : p.digestOk = false) : Does (.imageCommit p) s fun t =>
      (∀ y, y ∈ t.lcp.transfers ↔ y ∈ s.lcp.transfers ∧ y.id ≠ x.id) ∧
      Answered .imageCommit p stBadParam (detail 8) s t ∧ RegsBut auditRegs s t ∧
      (∃ q, t.sec.audit.getLast? = some q ∧ q.action = 0x0B ∧ q.result = stBadParam % 256) ∧ t.img = s.img ∧ t.mem = s.mem := by
  refine ⟨_, congrArg Host.Outcome.next ((deferred_go h.1 h.2).trans ((imageCommitBody_eq open_).trans (if_pos (by simp [bad])))), ?_⟩
  have regs := State.commitNoted_regs (s := s) (p := p) (x := x)
  obtain ⟨q, last, action, result, -⟩ := State.commitNoted_recorded (s := s) (p := p) (x := x)
  obtain ⟨rg, ev, sec, parts⟩ := State.commitNoted_parts (s := s) (p := p) (x := x)
  rw [parts] at regs last ⊢
  rw [bad] at result
  exact ⟨fun y => mem_closeTransfer (s := s.noteSeq p), ⟨_, rfl, rfl, rfl, rfl, rfl, rfl⟩, regs.regs rfl, ⟨q, last, action, result⟩,
    rfl, rfl⟩

/-- The commit of a body that matches its digest. -/
theorem does_committed {P : State → Prop} (h : Passes .imageCommit p (imageCommitBefore p) u s)
    (open_ : s.transferOf p true = some x) (good : p.digestOk = true) (then_ : P ((s.commitNoted p x).committed p u x)) :
    Does (.imageCommit p) s P :=
  ⟨_, congrArg Host.Outcome.next ((deferred_go h.1 h.2).trans ((imageCommitBody_eq open_).trans (if_neg (by simp [good])))), then_⟩

/-- The staged image as seen from before its commit, whose record stands. -/
structure CommitNoted (p : Packet) (x : Transfer) (s t : State) : Prop where
  slot : t.slot (hdrBytes x.hdr 5 1) 1 = stagedSlot x
  others : SlotsBut (hdrBytes x.hdr 5 1) 1 s t
  confirm : t.img.confirm = s.get F.confirmMode
  period : t.img.period = s.get F.confirmPeriod
  deadline : t.img.deadline = s.get F.confirmDeadlineCfg
  limit : t.img.limit = s.get F.startLimit
  bank : t.img.bankState = s.img.bankState
  pairUpdate : s.pair.single = false → t.get F.pairUpdate = 1
  recorded : ∃ q, t.sec.audit.getLast? = some q ∧ q.action = 0x0B ∧ q.result = 0
  regs : RegsBut ([(F.pairUpdate, 0), (F.raised, 378)] ++ auditRegs) s t
  transfers : ∀ y, y ∈ t.lcp.transfers ↔ y ∈ s.lcp.transfers ∧ y.id ≠ x.id
  wire : t.lcp.wire = s.lcp.wire
  mem : t.mem = s.mem
  wd : t.wd = s.wd
  pair : t.pair = s.pair

theorem State.stageImage_committed (good : p.digestOk = true) : CommitNoted p x s ((s.commitNoted p x).stageImage x) := by
  have noted := State.commitNoted_regs (s := s) (p := p) (x := x)
  obtain ⟨q, last, action, result, -⟩ := State.commitNoted_recorded (s := s) (p := p) (x := x)
  obtain ⟨rg, ev, sec, parts⟩ := State.commitNoted_parts (s := s) (p := p) (x := x)
  have staged := (s.commitNoted p x).stageImage_spec x
  generalize (s.commitNoted p x).stageImage x = t at *
  generalize s.commitNoted p x = v at *
  rw [good] at result
  have read {f : Fld} (apart : Fld.offAll auditFields f = true) : v.get f = s.get f :=
    noted.get_apart auditFields (by simp [auditRegs, auditFields]) apart
  exact {
    slot := staged.slot
    others := fun a b other => (staged.others a b other).trans (by rw [parts]; rfl)
    confirm := staged.confirm.trans (read rfl)
    period := staged.period.trans (read rfl)
    deadline := staged.deadline.trans (read rfl)
    limit := staged.limit.trans (read rfl)
    bank := staged.bank.trans (by rw [parts]; rfl)
    pairUpdate := fun two => staged.pair (by rw [parts]; exact two)
    recorded := ⟨q, (congrArg (fun sec => sec.audit.getLast?) (staged.parts.sec_eq rfl)).trans last, action, result⟩
    regs := (noted.mono fun _ => List.mem_append_right _).trans (staged.regs.mono fun _ => List.mem_append_left _)
    transfers := fun y => by
      rw [staged.lcp, mem_closeTransfer, parts]
      exact Iff.rfl
    wire := by rw [staged.lcp, parts]; rfl
    mem := (staged.parts.mem_eq rfl).trans (by rw [parts]; rfl)
    wd := (staged.parts.wd_eq rfl).trans (by rw [parts]; rfl)
    pair := (staged.parts.pair_eq rfl).trans (by rw [parts]; rfl) }

theorem does_commitStaged (h : Passes .imageCommit p (imageCommitBefore p) u s) (open_ : s.transferOf p true = some x)
    (good : p.digestOk = true) (other : hdrBytes x.hdr 5 1 ≠ 0) (stays : p.val 0x0038 0 ≠ 1) : Does (.imageCommit p) s fun t =>
      (∀ y, y ∈ t.lcp.transfers ↔ y ∈ s.lcp.transfers ∧ y.id ≠ x.id) ∧ Answered .imageCommit p stOk [] s t ∧
      t.slot (hdrBytes x.hdr 5 1) 1 = stagedSlot x ∧ SlotsBut (hdrBytes x.hdr 5 1) 1 s t ∧
      t.img.confirm = s.get F.confirmMode ∧ t.img.period = s.get F.confirmPeriod ∧
      t.img.deadline = s.get F.confirmDeadlineCfg ∧ t.img.limit = s.get F.startLimit ∧
      (s.pair.single = false → t.get F.pairUpdate = 1) ∧
      (∃ q, t.sec.audit.getLast? = some q ∧ q.action = 0x0B ∧ q.result = 0) ∧
      RegsBut ([(F.pairUpdate, 0), (F.raised, 378)] ++ auditRegs) s t ∧ t.mem = s.mem := by
  refine does_committed h open_ good ?_
  have c := State.stageImage_committed (s := s) (x := x) good
  rw [State.committed, if_neg other, State.restartNow, if_neg (fun now => stays now.1)]
  generalize (s.commitNoted p x).stageImage x = v at *
  exact ⟨c.transfers, ⟨_, congrArg (· ++ _) c.wire, rfl, rfl, rfl, rfl, rfl⟩, c.slot, c.others, c.confirm, c.period, c.deadline,
    c.limit, c.pairUpdate, c.recorded, c.regs.regs rfl, c.mem⟩

/-- The fields that show whether a module may plan a switch-over or restart are not those of a commit. -/
theorem CommitNoted.canPlan {t : State} (c : CommitNoted p x s t) : t.canPlan = s.canPlan := by
  have role : t.get F.role = s.get F.role := c.regs.get_apart (F.pairUpdate :: auditFields) (by simp [auditRegs, auditFields]) rfl
  rw [State.canPlan, role, c.pair, State.canPlan]

theorem CommitNoted.restartRefused {t : State} (c : CommitNoted p x s t) : t.restartRefused = s.restartRefused := by
  have role : t.get F.role = s.get F.role := c.regs.get_apart (F.pairUpdate :: auditFields) (by simp [auditRegs, auditFields]) rfl
  have mode : t.get F.mode = s.get F.mode := c.regs.get_apart (F.pairUpdate :: auditFields) (by simp [auditRegs, auditFields]) rfl
  rw [State.restartRefused, role, mode, c.canPlan, State.restartRefused]

end

/-- A switch-over that can be carried out is planned, or has been. -/
theorem State.planAt_isSome {s : State} (can : s.canPlan = true) (a cause after : Nat) :
    (s.planAt a cause after).pair.handover.isSome = true := by
  unfold State.planAt
  split
  case isTrue => rfl
  case isFalse planned =>
    rw [Option.isSome_iff_ne_none]
    simpa [can] using planned

/-- A module restart plans a switch-over or goes through START (R74). -/
theorem State.moduleRestart_spec (s : State) (cause : Nat) :
    if s.canPlan then (s.moduleRestart cause).pair.handover.isSome = true
    else (s.moduleRestart cause).get F.mode = 1 ∧ (s.moduleRestart cause).get F.role = 0 := by
  unfold State.moduleRestart
  split
  case isTrue can => exact State.planAt_isSome can ..
  case isFalse alone => exact enterStart_gets s 2

section

variable {p : Packet} {u : UnitSel} {s : State} {x : Transfer}

/-- RESTART_NOW 1 has passed R74 among the checks. -/
theorem restarts_of_passes (h : Passes .imageCommit p (imageCommitBefore p) u s) (open_ : s.transferOf p true = some x)
    (now : p.val 0x0038 0 = 1) : s.restartRefused = false := by
  have found : (s.noteSeq p).transferOf p true = some x := open_
  obtain ⟨-, checks⟩ := Chk.andThen_ok.1 h.2
  simp only [imageCommitBefore, found, Chk.all_ok, List.mem_cons, List.not_mem_nil, or_false, forall_eq_or_imp, forall_eq] at checks
  obtain ⟨-, -, -, -, may⟩ := checks
  have may : (s.noteSeq p).restartRefused = false := by simpa [now] using need_ok.1 may
  exact may

theorem does_commitRestarts (h : Passes .imageCommit p (imageCommitBefore p) u s) (open_ : s.transferOf p true = some x)
    (good : p.digestOk = true) (other : hdrBytes x.hdr 5 1 ≠ 0) (now : p.val 0x0038 0 = 1) : Does (.imageCommit p) s fun t =>
      if s.canPlan then t.pair.handover.isSome = true else t.get F.mode = 1 ∧ t.get F.role = 0 := by
  refine does_committed h open_ good ?_
  have c := State.stageImage_committed (s := s) (x := x) good
  have may := restarts_of_passes h open_ now
  rw [← c.restartRefused] at may
  rw [State.committed, if_neg other, ← c.canPlan]
  generalize (s.commitNoted p x).stageImage x = v at *
  generalize mkReply .imageCommit p v (some u) 0 stOk [] = r
  have restarts : (v.answer r).restartNow p = (v.answer r).moduleRestart 9 := by
    refine if_pos ⟨now, ?_⟩
    show (!v.restartRefused) = true
    rw [may]
    rfl
  rw [restarts]
  exact (v.answer r).moduleRestart_spec 9

theorem does_commitSup (h : Passes .imageCommit p (imageCommitBefore p) u s) (open_ : s.transferOf p true = some x)
    (good : p.digestOk = true) (sup : hdrBytes x.hdr 5 1 = 0) (idle : s.get F.wdState ≠ 1) : Does (.imageCommit p) s fun t =>
      EraseWanted (s.get F.guardUsed) s t ∧ t.slot 0 1 = stagedSlot x ∧ SlotsBut 0 1 s t ∧
      t.img.program = some (p, p.val 0x0037 (1 - s.get F.bootBank)) ∧
      t.img.bankState = s.img.bankState.set (p.val 0x0037 (1 - s.get F.bootBank)) 3 ∧ t.lcp.wire = s.lcp.wire ∧
      RegsBut ([(F.pairUpdate, 0), (F.raised, 378), (F.wdState, 0)] ++ auditRegs) s t ∧ t.mem = s.mem := by
  refine does_committed h open_ good ?_
  have c := State.stageImage_committed (s := s) (x := x) good
  rw [State.committed, if_pos sup]
  generalize (s.commitNoted p x).stageImage x = v at *
  have read {f : Fld} (apart : Fld.offAll (F.pairUpdate :: auditFields) f = true) : v.get f = s.get f :=
    c.regs.get_apart (F.pairUpdate :: auditFields) (by simp [auditRegs, auditFields]) apart
  have boot : bankOf p v = p.val 0x0037 (1 - s.get F.bootBank) := by rw [bankOf, read rfl]
  rw [boot]
  generalize p.val 0x0037 (1 - s.get F.bootBank) = b
  generalize made : v.onImg (fun i => { i with bankState := i.bankState.set b 3, program := some (p, b) }) = w
  have wwd : w.wd = { s.wd with erase := s.wd.erase } := by rw [← made]; exact c.wd
  have wget (f : Fld) : w.get f = v.get f := by rw [← made]; rfl
  obtain ⟨wanted, regs, -⟩ := State.eraseWanted_spec wwd (by rw [wget, read rfl]; exact idle)
  have touched := State.eraseWanted_touches (a0 := w)
  have img := touched.img_eq rfl
  rw [wget, read rfl] at wanted
  have slots : w.eraseWanted.img.slots = v.img.slots := by rw [img, ← made]; rfl
  have slot (a k : Nat) : w.eraseWanted.slot a k = v.slot a k := by rw [State.slot, slots, State.slot]
  refine ⟨wanted, ?_, fun a k other => (slot a k).trans (c.others a k (by rwa [sup])), ?_, ?_, ?_, ?_, ?_⟩
  · rw [slot, ← c.slot, sup]
  · rw [img, ← made]; rfl
  · rw [img, ← made, ← c.bank]; rfl
  · rw [touched.lcp_eq rfl, ← made]
    exact c.wire
  · have before : RegsBut ([(F.pairUpdate, 0), (F.raised, 378), (F.wdState, 0)] ++ auditRegs) s w := by
      rw [← made]
      exact (c.regs.mono (by simp [auditRegs])).regs rfl
    exact before.trans (regs.mono (by simp))
  · rw [touched.mem_eq rfl, ← made]
    exact c.mem

/-- A sector of the bank is erased and the next waits for the guard. -/
theorem does_bankNext {held : Nat} (waits : s.img.program.isSome = true) (busy : s.wd.erase = 2)
    (used : s.get F.guardUsed ≤ 25000) : Does (.supBankProgramDone held true) s fun t =>
      EraseWanted (guardAfter s held) s t ∧ t.get F.guardUsed = guardAfter s held ∧
      RegsBut [(F.wdState, 0), (F.guardUsed, 0)] s t ∧ t = { s with regs := t.regs, wd := t.wd } :=
  ⟨_, congrArg Host.Outcome.next ((if_neg (by simp [Option.isNone_iff_eq_none, ← Option.not_isSome_iff_eq_none, waits, busy])).trans
    (if_pos rfl)), State.eraseAgain_spec used⟩

/-- The bank header stands. -/
def State.bankHeaded (s : State) (b : Nat) : State :=
  s.onImg (fun i => { i with program := none, bankHdr := i.bankHdr.set b (s.slot 0 1).hdr, bankState := i.bankState.set b 2
                             bankSeq := i.bankSeq.set b (s.img.bankSeq.getD (1 - b) 0 + 1) })

theorem State.bankProgrammed_eq {b : Nat} (waits : s.img.program = some (p, b)) (stays : p.val 0x0038 0 ≠ 1) :
    s.bankProgrammed = (s.bankHeaded b).answer (mkReply .imageCommit p (s.bankHeaded b) ((s.bankHeaded b).unitFor p) 0 stOk []) := by
  unfold State.bankProgrammed
  rw [waits]
  exact if_neg fun now => stays now.1

theorem does_bankLast {held b : Nat} (waits : s.img.program = some (p, b)) (busy : s.wd.erase = 2) (stays : p.val 0x0038 0 ≠ 1) :
    Does (.supBankProgramDone held false) s fun t =>
    EraseEnded held s t ∧ RegsBut [(F.wdState, 0), (F.guardUsed, 0)] s t ∧
    t.img = { s.img with program := none, bankHdr := s.img.bankHdr.set b (s.slot 0 1).hdr, bankState := s.img.bankState.set b 2
                         bankSeq := s.img.bankSeq.set b (s.img.bankSeq.getD (1 - b) 0 + 1) } ∧
    Answered .imageCommit p stOk [] s t ∧
    t = { s with regs := t.regs, wd := t.wd, img := t.img
                 lcp := { s.lcp with sessions := t.lcp.sessions, wire := t.lcp.wire } } := by
  obtain ⟨wd, state, guard, regs, parts⟩ := s.eraseEnds_spec held
  have touched := State.eraseEnds_touches (a0 := s) (a1 := held)
  have img := touched.img_eq rfl
  have lcp := touched.lcp_eq rfl
  have program : (s.eraseEnds held).img.program = some (p, b) := (congrArg ImageSt.program img).trans waits
  refine ⟨_, congrArg Host.Outcome.next ((if_neg (by simp [waits, busy])).trans
    ((if_neg (by decide)).trans (State.bankProgrammed_eq program stays))), ?_⟩
  generalize s.eraseEnds held = w at *
  have slot : w.slot 0 1 = s.slot 0 1 := by rw [State.slot, img, State.slot]
  generalize sent_ : mkReply .imageCommit p (w.bankHeaded b) ((w.bankHeaded b).unitFor p) 0 stOk [] = r
  refine ⟨⟨wd, state, guard⟩, regs.regs rfl, ?_, ⟨r, by rw [← lcp]; rfl, by rw [← sent_]; exact ⟨rfl, rfl, rfl, rfl, rfl⟩⟩, ?_⟩
  · rw [← img, ← slot]
    rfl
  · have sent : ((w.bankHeaded b).answer r).lcp = { s.lcp with
        sessions := ((w.bankHeaded b).answer r).lcp.sessions, wire := ((w.bankHeaded b).answer r).lcp.wire } := by
      rw [← lcp]
      rfl
    rw [← sent]
    have opens : Touches { img := true, lcp := true } w ((w.bankHeaded b).answer r) := rfl
    exact ((touched.mono (n := { regs := true, wd := true, img := true, lcp := true }) rfl).trans opens rfl).eq_takes

end

/-- Settles O19: the commit behind its audit record, clause by clause; the erase guard as for IMAGE_HEADER. -/
theorem imageCommitStagesTheImage : Obligations.ImageCommitStagesTheImage := by
  unfold Obligations.ImageCommitStagesTheImage
  refine ⟨?_, ?_, ?_, ?_, ?_, ?_⟩
  · exact fun p u s x => does_commitRefused
  · exact fun p u s x => does_commitStaged
  · exact fun p u s x => does_commitRestarts
  · exact fun p u s x => does_commitSup
  · exact fun s held => does_bankNext
  · exact fun s held p b => does_bankLast

end Sys2Proof.Machine

namespace Sys2Proof.Machine

open Sys2Proof

/-! Confirmation (R525, R531). -/

/-- The counters of ARB_MIN lie apart from each other. -/
theorem arbFld_apart {a b : Nat} (ha : a < 6) (hb : b < 6) (other : a ≠ b) : Fld.offAll [arbFld b] (arbFld a) = true := by
  have all : ∀ a < 6, ∀ b < 6, a ≠ b → Fld.offAll [arbFld b] (arbFld a) = true := by decide
  exact all a ha b hb other

/-- A peak has at least the value that was shown. -/
theorem State.get_peak_least (s : State) (f : Fld) (v : Nat) : v % 2 ^ f.w ≤ (s.peak f v).get f := by
  unfold State.peak
  split
  case isTrue below => exact (State.get_put_self ..).ge
  case isFalse reached => exact (Nat.mod_le ..).trans (Nat.not_lt.1 reached)

/-- The active slot is valid, with its SUP bank. -/
def State.slotConfirmed (s : State) (ty : Nat) : State :=
  if ty = 0 then ((s.writeSlots (fun l => slotPut l ty 0 { s.slot ty 0 with state := 1 })).onImg fun i => { i with
    bankState := i.bankState.set ((s.writeSlots (fun l => slotPut l ty 0 { s.slot ty 0 with state := 1 })).get F.bootBank) 1 })
  else s.writeSlots (fun l => slotPut l ty 0 { s.slot ty 0 with state := 1 })

theorem State.slotConfirmed_spec (s : State) (ty : Nat) :
    (s.slotConfirmed ty).img.slots = slotPut s.img.slots ty 0 { s.slot ty 0 with state := 1 } ∧
    (s.slotConfirmed ty).regs = s.regs := by
  unfold State.slotConfirmed
  split <;> exact ⟨rfl, rfl⟩

/-- A fallback below ARB_MIN is invalid. -/
def State.fallbackJudged (s : State) (ty : Nat) : State :=
  if (s.slot ty 2).state = 1 ∧ (s.slot ty 2).arb < s.get (arbFld ty)
  then s.writeSlots (fun l => slotPut l ty 2 { s.slot ty 2 with state := 3 }) else s

theorem State.fallbackJudged_spec (s : State) (ty : Nat) :
    (∀ a, (s.fallbackJudged ty).slot a 0 = s.slot a 0) ∧ (s.fallbackJudged ty).regs = s.regs := by
  unfold State.fallbackJudged
  split
  case isTrue low =>
    obtain ⟨-, others⟩ := State.slot_placed (s := s) (t := s.writeSlots (fun l => slotPut l ty 2 { s.slot ty 2 with state := 3 })) rfl
      (by simp)
    exact ⟨fun a => others a 0 (by omega), rfl⟩
  case isFalse high => exact ⟨fun _ => rfl, rfl⟩

theorem State.confirmType_eq (s : State) (ty : Nat) :
    s.confirmType ty = ((s.slotConfirmed ty).peak (arbFld ty) (s.slot ty 0).arb).fallbackJudged ty := rfl

theorem State.peak_slot (s : State) (f : Fld) (v ty k : Nat) : (s.peak f v).slot ty k = s.slot ty k := by
  unfold State.peak
  split <;> rfl

theorem State.confirmType_spec (s : State) (ty : Nat) : Confirmed ty s (s.confirmType ty) ∧
    (∀ a, a ≠ ty → (s.confirmType ty).slot a 0 = s.slot a 0) ∧ RegsBut [(arbFld ty, 0)] s (s.confirmType ty) := by
  rw [State.confirmType_eq]
  obtain ⟨slots, regs⟩ := s.slotConfirmed_spec ty
  obtain ⟨slot, others⟩ := State.slot_placed slots (by simp)
  have peak := (s.slotConfirmed ty).get_peak_least (arbFld ty) (s.slot ty 0).arb
  have shown := (s.slotConfirmed ty).peak_slot (arbFld ty) (s.slot ty 0).arb
  have raised : RegsBut [(arbFld ty, 0)] s ((s.slotConfirmed ty).peak (arbFld ty) (s.slot ty 0).arb) :=
    RegsBut.peak (RegsBut.regs (.refl (s := s)) regs) (by simp)
  generalize (s.slotConfirmed ty).peak (arbFld ty) (s.slot ty 0).arb = u at *
  obtain ⟨kept, same⟩ := u.fallbackJudged_spec ty
  refine ⟨⟨?_, ?_⟩, fun a other => ?_, raised.regs same⟩
  · rw [kept, shown, slot]
  · rw [State.get_of_regs same]
    exact peak
  · rw [kept, shown, others a 0 (by omega)]

theorem State.confirmType_kept {s t : State} {ty b : Nat} (h : Confirmed ty s t) (hty : ty < 6) (hb : b < 6) (other : ty ≠ b) :
    Confirmed ty s (t.confirmType b) := by
  obtain ⟨slot, arb⟩ := h
  obtain ⟨-, others, regs⟩ := t.confirmType_spec b
  refine ⟨(others ty other).trans slot, ?_⟩
  rwa [regs.get_apart [arbFld b] (by simp) (arbFld_apart hty hb other)]

/-- The images of a list of types, each confirmed once. -/
theorem State.confirmFold_spec {ts : List Nat} (once : ts.Nodup) (six : ∀ ty ∈ ts, ty < 6) (s : State) :
    (∀ ty ∈ ts, Confirmed ty s (ts.foldl State.confirmType s)) ∧
    (∀ ty, ty ∉ ts → (ts.foldl State.confirmType s).slot ty 0 = s.slot ty 0 ∧
      (ty < 6 → (ts.foldl State.confirmType s).get (arbFld ty) = s.get (arbFld ty))) := by
  induction ts generalizing s with
  | nil => exact ⟨fun _ h => absurd h (List.not_mem_nil), fun _ _ => ⟨rfl, fun _ => rfl⟩⟩
  | cons b ts ih =>
    obtain ⟨new, once⟩ := List.nodup_cons.1 once
    have below := six b (List.mem_cons_self ..)
    obtain ⟨rest, kept⟩ := ih once (fun ty h => six ty (List.mem_cons_of_mem _ h)) (s.confirmType b)
    obtain ⟨first, others, regs⟩ := s.confirmType_spec b
    have same {ty : Nat} (other : ty ≠ b) (hty : ty < 6) : (s.confirmType b).get (arbFld ty) = s.get (arbFld ty) :=
      regs.get_apart [arbFld b] (by simp) (arbFld_apart hty below other)
    refine ⟨fun ty h => ?_, fun ty h => ?_⟩
    · rcases List.mem_cons.1 h with rfl | later
      · obtain ⟨slot, arb⟩ := kept ty new
        exact ⟨slot.trans first.1, by rw [List.foldl_cons, arb below]; exact first.2⟩
      · have other : ty ≠ b := fun e => new (e ▸ later)
        obtain ⟨slot, arb⟩ := rest ty later
        rw [others ty other] at slot arb
        exact ⟨slot, arb⟩
    · have other : ty ≠ b := fun e => h (e ▸ List.mem_cons_self ..)
      obtain ⟨slot, arb⟩ := kept ty fun later => h (List.mem_cons_of_mem _ later)
      exact ⟨slot.trans (others ty other), fun hty => (arb hty).trans (same other hty)⟩

/-- The fields of ImageState that follow a confirmation. -/
def confirmFields : List Fld :=
  [F.startsPending, F.imgPending, F.confirmDue, F.bootBank, F.confirmLeft, F.pairUpdate, F.raised]

theorem Writes.showImages {s t : State} (h : Writes confirmFields s t) : Writes confirmFields s t.showImages :=
  .put (.put (.putFlag (.putFlag h (by decide)) (by decide)) (by decide)) (by decide)

theorem Writes.clearPairUpdate {s t : State} (h : Writes confirmFields s t) : Writes confirmFields s t.clearPairUpdate := by
  unfold State.clearPairUpdate
  exact .ite (fun _ => .journal (.put (h.upd rfl rfl rfl rfl) (by decide)) (by decide)) fun _ => h

/-- What stands of a confirmation once its types are confirmed. -/
def State.confirmShown (s : State) : State :=
  (if s.awaitingTypes.isEmpty then (s.put F.startsPending 0).onImg (fun i => { i with dueBeats := 0, fallback := false })
    else s).showImages.clearPairUpdate

theorem State.confirmAll_eq (s : State) (ts : List Nat) : s.confirmAll ts = (ts.foldl State.confirmType s).confirmShown := rfl


/-- What is shown of a confirmation moves no slot and no ARB_MIN. -/
theorem State.confirmShown_spec (s : State) : (∀ a k, s.confirmShown.slot a k = s.slot a k) ∧
    ∀ ty < 6, s.confirmShown.get (arbFld ty) = s.get (arbFld ty) := by
  have apart : ∀ ty < 6, Fld.offAll confirmFields (arbFld ty) = true := by decide
  have ends (u : State) (regs : Writes confirmFields s u) (slots : u.img.slots = s.img.slots) :
      (∀ a k, u.showImages.clearPairUpdate.slot a k = s.slot a k) ∧
      ∀ ty < 6, u.showImages.clearPairUpdate.get (arbFld ty) = s.get (arbFld ty) := by
    have shown : u.showImages.img = u.img := State.showImages_touches.img_eq rfl
    have cleared (v : State) : v.clearPairUpdate.img.slots = v.img.slots := by
      unfold State.clearPairUpdate
      split
      · rw [State.journalProgram_touches.img_eq rfl]
        rfl
      · rfl
    exact ⟨fun a k => by rw [State.slot, cleared, shown, slots, State.slot], fun ty hty => regs.showImages.clearPairUpdate.get (apart ty hty)⟩
  unfold State.confirmShown
  split
  · exact ends _ (.upd (.put .refl (by decide)) rfl rfl rfl rfl) rfl
  · exact ends s .refl rfl

/-- The types that await confirmation are named once, below 6. -/
theorem State.awaitingTypes_once (s : State) : s.awaitingTypes.Nodup ∧ ∀ ty ∈ s.awaitingTypes, ty < 6 :=
  ⟨List.nodup_range.filter _, fun _ h => List.mem_range.1 (List.mem_of_mem_filter h)⟩

theorem confirmTypes_once (p : Packet) (s : State) : (confirmTypes p s).Nodup ∧ ∀ ty ∈ confirmTypes p s, ty < 6 := by
  obtain ⟨once, six⟩ := s.awaitingTypes_once
  unfold confirmTypes
  split
  · exact ⟨once.filter _, fun ty h => six ty (List.mem_of_mem_filter h)⟩
  · exact ⟨once, six⟩

theorem State.confirmAll_spec {ts : List Nat} (once : ts.Nodup ∧ ∀ ty ∈ ts, ty < 6) (s : State) :
    (∀ ty ∈ ts, Confirmed ty s (s.confirmAll ts)) ∧ ∀ ty, ty ∉ ts → (s.confirmAll ts).slot ty 0 = s.slot ty 0 := by
  rw [State.confirmAll_eq]
  obtain ⟨named, others⟩ := State.confirmFold_spec once.1 once.2 s
  obtain ⟨slot, arb⟩ := (ts.foldl State.confirmType s).confirmShown_spec
  refine ⟨fun ty h => ?_, fun ty h => (slot ty 0).trans (others ty h).1⟩
  obtain ⟨valid, least⟩ := named ty h
  exact ⟨(slot ty 0).trans valid, by rwa [arb ty (once.2 ty h)]⟩

/-- The actions of a confirmation in the audit log. -/
def State.confirmNoted (s : State) (p : Packet) (ts : List Nat) : State :=
  ts.foldl (fun (s : State) t => s.auditBy p.sess 0x0B 0 t) s

theorem State.confirmNoted_spec (s : State) (p : Packet) (ts : List Nat) : RegsBut auditRegs s (s.confirmNoted p ts) ∧
    Touches { regs := true, ev := true, sec := true } s (s.confirmNoted p ts) := by
  refine ⟨.foldl .refl fun u ty _ => .auditBy u _ _ _ _, ?_⟩
  induction ts generalizing s with
  | nil => exact Touches.refl _
  | cons ty ts ih => exact State.auditBy_touches.comp (ih _)

theorem does_imageConfirm {p : Packet} {u : UnitSel} {s : State}
    (h : Passes .imageConfirm p (fun _ s => need (!(confirmTypes p s).isEmpty && s.confirmable) 9) u s) :
    Does (.imageConfirm p) s fun t =>
      (∀ ty ∈ confirmTypes p s, Confirmed ty s t) ∧ (∀ ty, ty ∉ confirmTypes p s → t.slot ty 0 = s.slot ty 0) ∧
      Answered .imageConfirm p stOk [] s t ∧ t.mem = s.mem := by
  refine does_served (body := imageConfirmBody p) h rfl fun r hr => ?_
  have body : imageConfirmBody p u (s.noteSeq p) =
      { st := ((s.noteSeq p).confirmNoted p (confirmTypes p s)).confirmAll (confirmTypes p s) } := rfl
  rw [body] at hr ⊢
  obtain ⟨noted, parts⟩ := (s.noteSeq p).confirmNoted_spec p (confirmTypes p s)
  generalize (s.noteSeq p).confirmNoted p (confirmTypes p s) = v at *
  obtain ⟨named, others⟩ := State.confirmAll_spec (confirmTypes_once p s) v
  have touched : Touches { regs := true, ev := true, jr := true, sec := true, img := true } (s.noteSeq p)
      (v.confirmAll (confirmTypes p s)) :=
    (parts.mono rfl).trans State.confirmAll_touches rfl
  have slot (ty : Nat) : v.slot ty 0 = s.slot ty 0 := by
    rw [State.slot, parts.img_eq rfl]
    rfl
  have wire : (v.confirmAll (confirmTypes p s)).lcp.wire = s.lcp.wire := by
    rw [touched.lcp_eq rfl]
    rfl
  have mem : (v.confirmAll (confirmTypes p s)).mem = s.mem := touched.mem_eq rfl
  clear body touched
  generalize v.confirmAll (confirmTypes p s) = w at *
  refine ⟨fun ty asked => ?_, fun ty not_ => (others ty not_).trans (slot ty), ?_, mem⟩
  · obtain ⟨valid, least⟩ := named ty asked
    rw [slot] at valid least
    exact ⟨valid, least⟩
  · rw [hr]
    exact ⟨_, congrArg (· ++ _) wire, rfl, rfl, rfl, rfl, rfl⟩

theorem does_imageAutoConfirm {s : State} (waits : s.awaitingTypes ≠ []) (auto : s.img.confirm = 0) (may : s.confirmable = true) :
    Does .imageAutoConfirm s fun t =>
    (∀ ty ∈ s.awaitingTypes, Confirmed ty s t) ∧ (∀ ty, ty ∉ s.awaitingTypes → t.slot ty 0 = s.slot ty 0) ∧
    t.lcp = s.lcp ∧ t.mem = s.mem := by
  obtain ⟨named, others⟩ := State.confirmAll_spec s.awaitingTypes_once s
  have touched := State.confirmAll_touches (a0 := s) (a1 := s.awaitingTypes)
  exact ⟨_, congrArg Host.Outcome.next (if_pos (by simp [waits, auto, may])), named, others, touched.lcp_eq rfl, touched.mem_eq rfl⟩

/-! Rejection (R532, R533). -/

/-- What the rejected images' fallback waits for. -/
def State.rejectedNow (s : State) : State :=
  if s.restartRefused then s.put F.imgRejected 1
  else if s.canPlan then s.plan 8 2
  else if s.get F.mode = mStart ∨ s.get F.mode = mDormant then s
  else s.enterStart 6

theorem State.plan_isSome {s : State} (can : s.canPlan = true) {cause after : Nat} :
    (s.plan cause after).pair.handover.isSome = true := State.planAt_isSome can _ cause after

theorem State.rejectImages_spec {s : State} (waits : s.awaitingTypes ≠ []) :
    s.rejectImages.img.fallback = true ∧
    (s.restartRefused = true → s.rejectImages.get F.imgRejected = 1 ∧ RegsBut [(F.imgRejected, 0)] s s.rejectImages) ∧
    (s.restartRefused = false → s.canPlan = true → s.rejectImages.pair.handover.isSome = true ∧ s.rejectImages.regs = s.regs) ∧
    (s.restartRefused = false → s.canPlan = false → s.get F.mode ≠ 1 → s.get F.mode ≠ 0 →
      s.rejectImages.get F.mode = 1 ∧ s.rejectImages.get F.role = 0) := by
  have whole : s.rejectImages = (s.onImg (fun i => { i with fallback := true })).rejectedNow := if_neg (by simp [waits])
  have back : (s.onImg (fun i => { i with fallback := true })).img.fallback = true := rfl
  have regs : (s.onImg (fun i => { i with fallback := true })).regs = s.regs := rfl
  have refused : (s.onImg (fun i => { i with fallback := true })).restartRefused = s.restartRefused := rfl
  have plans : (s.onImg (fun i => { i with fallback := true })).canPlan = s.canPlan := rfl
  rw [whole, ← refused, ← plans]
  generalize s.onImg (fun i => { i with fallback := true }) = u at *
  have get (f : Fld) : u.get f = s.get f := State.get_of_regs regs f 0
  unfold State.rejectedNow
  split
  case isTrue stays =>
    refine ⟨back, fun _ => ⟨State.get_put_self .., .put (.regs (.refl (s := s)) regs) (by simp)⟩, ?_, ?_⟩
    · exact fun restarts => by simp [stays] at restarts
    · exact fun restarts => by simp [stays] at restarts
  case isFalse restarts =>
    split
    case isTrue can =>
      have planned := u.plan_parts 8 2
      refine ⟨by rw [planned]; exact back, fun stays => absurd stays restarts, fun _ _ => ⟨u.plan_isSome can, ?_⟩, fun _ cannot => ?_⟩
      · rw [planned]
        exact regs
      · simp [can] at cannot
    case isFalse cannot =>
      split
      case isTrue down =>
        refine ⟨back, fun stays => absurd stays restarts, fun _ can => absurd can cannot, fun _ _ notStart notDormant => ?_⟩
        rw [get] at down
        exact (down.elim notStart notDormant).elim
      case isFalse up =>
        exact ⟨by rw [State.enterStart_touches.img_eq rfl]; exact back, fun stays => absurd stays restarts,
          fun _ can => absurd can cannot, fun _ _ _ _ => enterStart_gets u 6⟩

theorem does_imageRejectionNext {cause : Nat} {s : State} (later : cause = 2 ∨ cause = 3) : Does (.imageRejection cause) s fun t =>
    (s.get F.imgPending = 1 → t.img.fallback = true) ∧ t = { s with img := { s.img with fallback := t.img.fallback } } := by
  refine ⟨_, congrArg Host.Outcome.next (if_pos later), ?_⟩
  unfold State.rejectNext
  split
  case isTrue waits => exact ⟨fun _ => rfl, rfl⟩
  case isFalse none => exact ⟨fun waits => absurd waits none, rfl⟩

/-- The deadline of the HOST's confirmation is past. -/
theorem State.deadlinePast_of {s : State} (host : s.img.confirm = 1) (due : s.get F.confirmDue = 1)
    (past : 4000 * s.img.deadline ≤ s.img.dueBeats) : s.deadlinePast = true := by
  simp [State.deadlinePast, host, State.flag_of_one due, past]

theorem does_imageRejection {cause : Nat} {s : State} (not2 : cause ≠ 2) (not3 : cause ≠ 3)
    (health : cause = 1 → ∃ k : Fin 48, s.get F.hcState k.val = 2)
    (deadline : cause = 4 → s.img.confirm = 1 ∧ s.get F.confirmDue = 1 ∧ 4000 * s.img.deadline ≤ s.img.dueBeats) :
    exec (.imageRejection cause) s = .next s.rejectImages := by
  refine congrArg Host.Outcome.next ((if_neg (not_or.2 ⟨not2, not3⟩)).trans ((if_neg ?_).trans (if_neg ?_)))
  · rintro ⟨one, none⟩
    obtain ⟨k, failed⟩ := health one
    have := List.all_eq_true.1 none k.val (List.mem_range.2 k.isLt)
    simp [failed] at this
  · rintro ⟨four, early⟩
    obtain ⟨host, due, past⟩ := deadline four
    simp [State.deadlinePast_of host due past] at early

theorem exec_confirmDeadline {s : State} (host : s.img.confirm = 1) (due : s.get F.confirmDue = 1)
    (past : 4000 * s.img.deadline ≤ s.img.dueBeats) : exec .confirmDeadline s = .next s.rejectImages :=
  congrArg Host.Outcome.next (if_pos (State.deadlinePast_of host due past))

/-- Settles O20: confirmation by induction over the types confirmed; every rejection is one and the same function. -/
theorem imagesAreConfirmedOrRejected : Obligations.ImagesAreConfirmedOrRejected := by
  unfold Obligations.ImagesAreConfirmedOrRejected
  refine ⟨?_, ?_, ?_, ?_, ?_⟩
  · exact fun p u s => does_imageConfirm
  · exact fun s => does_imageAutoConfirm
  · exact fun cause s => does_imageRejectionNext
  · exact fun cause s not2 not3 health deadline waits =>
      ⟨_, does_imageRejection not2 not3 health deadline, State.rejectImages_spec waits⟩
  · exact fun s waits host due past => ⟨_, exec_confirmDeadline host due past, State.rejectImages_spec waits⟩

end Sys2Proof.Machine

namespace Sys2Proof.Machine

open Sys2Proof

/-! Requests that a mailbox may carry (R212). -/

section

variable {o : Op} {p : Packet} {chk : UnitSel → State → Chk} {mb : UnitSel → State → Option (Nat × Nat × Nat × Nat × Nat × Nat)}
  {body : UnitSel → State → Ans} {u : UnitSel} {s : State}

/-- Of the unit's own request nothing goes to a mailbox: it is answered at once. -/
theorem mailed_ok (h : Passes o p chk u s) (here : mb u (s.noteSeq p) = none) : mailed o p chk mb body s =
    (body u (s.noteSeq p)).st.answer (mkReply o p (body u (s.noteSeq p)).st (some u) (if (body u (s.noteSeq p)).more then 8 else 0)
      (body u (s.noteSeq p)).status (body u (s.noteSeq p)).tlvs) := by
  unfold mailed
  rw [h.1]
  dsimp only
  rw [h.2]
  dsimp only
  rw [here]

theorem mailed_sent {k sub mbOp obj len data : Nat} (h : Passes o p chk u s)
    (there : mb u (s.noteSeq p) = some (k, sub, mbOp, obj, len, data)) (idle : (s.noteSeq p).mailBusy k sub = false) :
    mailed o p chk mb body s = (s.noteSeq p).mailSend o p k sub mbOp obj len data := by
  unfold mailed
  rw [h.1]
  dsimp only
  rw [h.2]
  dsimp only
  rw [there]
  exact if_neg (by simp [idle])

end

/-- A request's next section leaves, and the request waits under the next MB_SEQ. -/
theorem State.mailNext_spec (s : State) (m : MailReq) :
    (∃ q : MailReq, (s.mailNext m).lcp.mail = s.lcp.mail ++ [q] ∧ q.lane = m.lane ∧ q.sub = m.sub ∧ q.mbSeq = s.lcp.mbSeq ∧
      q.pkt = m.pkt) ∧
    s.mailNext m = { s with
      lcp := { s.lcp with mail := (s.mailNext m).lcp.mail, mbSeq := (s.mailNext m).lcp.mbSeq }, lanes := (s.mailNext m).lanes } := by
  unfold State.mailNext
  dsimp only
  generalize mailSection m.sub s.lcp.mbSeq m.mbOp m.obj (min m.rest (s.mailRoom m.lane)) (m.data % 256 ^ min m.rest (s.mailRoom m.lane)) = words
  have touched := State.sendService_touches (a0 := s) (a1 := m.lane) (a2 := 0x03) (a3 := words)
  generalize s.sendService m.lane 0x03 words = v at *
  rw [touched.eq_takes]
  exact ⟨⟨_, rfl, rfl, rfl, rfl, rfl⟩, rfl⟩

/-! CSR_CREATE (R368, R369). -/

section

variable {p : Packet} {u : UnitSel} {s : State}

/-- The pair key is made where none exists. -/
def State.keyWanted (s : State) (pairKey : Bool) : State :=
  if pairKey && !s.units.keyMade then
    if ({ s with units := { s.units with keyMade := true, wrapped := false } } : State).get F.certState 2 = 0
    then ({ s with units := { s.units with keyMade := true, wrapped := false } } : State).put F.certState 3 2
    else { s with units := { s.units with keyMade := true, wrapped := false } }
  else s

theorem State.keyWanted_spec (s : State) (pairKey : Bool) :
    (s.keyWanted pairKey).units.keyMade = (s.units.keyMade || pairKey) ∧
    (pairKey = true → s.units.keyMade = false → s.get F.certState 2 = 0 → (s.keyWanted pairKey).get F.certState 2 = 3) ∧
    RegsBut [(F.certState, 2)] s (s.keyWanted pairKey) ∧ Touches { regs := true, units := true } s (s.keyWanted pairKey) := by
  unfold State.keyWanted
  split
  case isTrue makes =>
    simp only [Bool.and_eq_true, Bool.not_eq_true'] at makes
    obtain ⟨pairs, none⟩ := makes
    split
    case isTrue free =>
      exact ⟨by simp [pairs], fun _ _ _ => State.get_put_self .., .put (.regs (.refl (s := s)) rfl) (by simp), rfl⟩
    case isFalse used =>
      exact ⟨by simp [pairs], fun _ _ free => absurd free used, .regs (.refl (s := s)) rfl, rfl⟩
  case isFalse stays =>
    simp only [Bool.and_eq_true, Bool.not_eq_true', not_and, Bool.not_eq_false] at stays
    refine ⟨?_, fun pairs none _ => ?_, .refl (s := s), rfl⟩
    · cases pairKey <;> simp_all
    · simp [stays pairs] at none

/-- The pair key reaches the partner or not; neither shows in a certificate. -/
theorem State.wrapKey_spec (s : State) : s.wrapKey.units.keyMade = s.units.keyMade ∧ s.wrapKey.get F.certState 2 = s.get F.certState 2 ∧
    RegsBut [(F.raised, 386)] s s.wrapKey ∧ Touches { regs := true, ev := true, units := true } s s.wrapKey := by
  refine ⟨?_, ?_, ?_, State.wrapKey_touches⟩
  all_goals
    unfold State.wrapKey
    split
  · rfl
  · rfl
  · exact State.get_raise_apart rfl
  · rfl
  · exact .raise (.regs (.refl (s := s)) rfl) (by simp)
  · exact .refl (s := s)

/-- What CSR_CREATE does before its request is made. -/
def State.csrKeyed (s : State) (p : Packet) : State :=
  ((s.auditBy p.sess 0x09 0 (if p.val 0x0039 0 == 1 then 2 else 1)).keyWanted (p.val 0x0039 0 == 1)).wrapKey

theorem csrCreateBody_eq :
    csrCreateBody p u s = { st := ((((s.csrKeyed p).fresh 12).2).fresh 32768).2,
                            tlvs := [tlv 0x003A (((s.csrKeyed p).fresh 12).1 + 1) (((s.csrKeyed p).fresh 12).2.fresh 32768).1] } := rfl

theorem State.csrKeyed_spec (s : State) (p : Packet) :
    Recorded 0x09 0 (if p.val 0x0039 0 = 1 then 2 else 1) (s.csrKeyed p) ∧
    (s.csrKeyed p).units.keyMade = (s.units.keyMade || p.val 0x0039 0 == 1) ∧
    (p.val 0x0039 0 = 1 → s.units.keyMade = false → s.get F.certState 2 = 0 → (s.csrKeyed p).get F.certState 2 = 3) ∧
    RegsBut ([(F.certState, 2), (F.raised, 386)] ++ auditRegs) s (s.csrKeyed p) ∧
    Touches { regs := true, ev := true, sec := true, units := true } s (s.csrKeyed p) := by
  unfold State.csrKeyed
  have recorded := s.auditBy_recorded p.sess 0x09 0 (if p.val 0x0039 0 == 1 then 2 else 1)
  have noted := RegsBut.auditBy s p.sess 0x09 0 (if p.val 0x0039 0 == 1 then 2 else 1)
  have parts : Touches { regs := true, ev := true, sec := true } s (s.auditBy p.sess 0x09 0 (if p.val 0x0039 0 == 1 then 2 else 1)) :=
    State.auditBy_touches
  generalize s.auditBy p.sess 0x09 0 (if p.val 0x0039 0 == 1 then 2 else 1) = a at *
  obtain ⟨made, state, regs, keyed⟩ := a.keyWanted_spec (p.val 0x0039 0 == 1)
  generalize a.keyWanted (p.val 0x0039 0 == 1) = b at *
  obtain ⟨wrapMade, wrapState, wrapRegs, wrapped⟩ := b.wrapKey_spec
  have units := parts.units_eq rfl
  have read : a.get F.certState 2 = s.get F.certState 2 := noted.get_apart auditFields (by simp [auditRegs, auditFields]) rfl
  refine ⟨?_, ?_, fun pairs none free => ?_, ?_, ?_⟩
  · have same : b.wrapKey.sec.audit = a.sec.audit := congrArg SecSt.audit ((wrapped.sec_eq rfl).trans (keyed.sec_eq rfl))
    simpa using recorded.of_audit same
  · rw [wrapMade, made, units]
  · rw [wrapState]
    exact state (by simp [pairs]) (by rw [units]; exact none) (read.trans free)
  · exact ((noted.mono fun _ => List.mem_append_right _).trans (regs.mono (by simp))).trans (wrapRegs.mono (by simp))
  · exact ((parts.mono (n := { regs := true, ev := true, sec := true, units := true }) rfl).trans keyed rfl).trans wrapped rfl

theorem does_csrCreate (h : Passes .csrCreate p (csrCreateChk p) u s) : Does (.csrCreate p) s fun t =>
    (∃ n b, n < 4096 ∧ b < 2 ^ 32768 ∧ Replied .csrCreate p u stOk [tlv 0x003A (n + 1) b] false s t) ∧
    Recorded 0x09 0 (if p.val 0x0039 0 = 1 then 2 else 1) t ∧
    t.units.keyMade = (s.units.keyMade || p.val 0x0039 0 == 1) ∧
    (p.val 0x0039 0 = 1 → s.units.keyMade = false → s.get F.certState 2 = 0 → t.get F.certState 2 = 3) ∧
    RegsBut ([(F.certState, 2), (F.raised, 386)] ++ auditRegs) s t ∧ t.mem = s.mem ∧ t.free = s.free + 2 := by
  refine does_served (body := csrCreateBody p) h (congrArg Host.Outcome.next (auditRefused_ok h _)) fun r hr => ?_
  rw [csrCreateBody_eq] at hr ⊢
  obtain ⟨recorded, made, state, regs, parts⟩ := (s.noteSeq p).csrKeyed_spec p
  have wire : ((s.noteSeq p).csrKeyed p).lcp.wire = s.lcp.wire := by
    rw [parts.lcp_eq rfl]
    rfl
  have mem : ((s.noteSeq p).csrKeyed p).mem = s.mem := by
    rw [parts.mem_eq rfl]
    rfl
  have free : ((s.noteSeq p).csrKeyed p).free = s.free := by
    rw [parts.eq_takes]
    rfl
  generalize (s.noteSeq p).csrKeyed p = v at *
  refine ⟨⟨(v.fresh 12).1, ((v.fresh 12).2.fresh 32768).1, v.fresh_lt 12, (v.fresh 12).2.fresh_lt 32768, replied_mk (a := ⟨_, _, _, _⟩) hr wire⟩, ?_, made,
    state, (RegsBut.regs (.refl (s := s)) rfl).trans (regs.regs rfl), mem, congrArg (· + 2) free⟩
  exact recorded.of_audit rfl

/-! CERT_INSTALL (R362, R368). -/

/-- The slot keeps its chain. -/
def State.chainKept (s : State) (p : Packet) : State :=
  { s with units := { s.units with
    chains := s.units.chains.filter (fun (x : Nat × Nat × Nat) => x.1 != p.val 0x003B 0) ++
      [(p.val 0x003B 0, ((p.find? 0x003C).getD { t := 0x003C, len := 0, val := 0 }).len,
        ((p.find? 0x003C).getD { t := 0x003C, len := 0, val := 0 }).val)]
    expiring := s.units.expiring.filter (· != p.val 0x003B 0) } }

theorem State.chainKept_chain (s : State) {p : Packet} {c : Tlv} (given : p.find? 0x003C = some c) :
    (s.chainKept p).chain? (p.val 0x003B 0) = some (c.len, c.val) := by
  have kept : (s.chainKept p).units.chains = s.units.chains.filter (fun (x : Nat × Nat × Nat) => x.1 != p.val 0x003B 0) ++
      [(p.val 0x003B 0, c.len, c.val)] := by
    unfold State.chainKept
    rw [given]
    rfl
  rw [State.chain?, kept, find_replaced_self Prod.fst s.units.chains (p.val 0x003B 0, c.len, c.val)]
  rfl

/-- The metadata of the slot. -/
def State.certPut (s : State) (p : Packet) : State :=
  (((s.put F.certState 1 (p.val 0x003B 0)).put F.certNotBefore p.notBefore (p.val 0x003B 0)).put F.certNotAfter p.notAfter
    (p.val 0x003B 0)).put F.certFingerprint p.fingerprint (p.val 0x003B 0)

/-- What CERT_INSTALL does for any slot. -/
def State.certInstalled (s : State) (p : Packet) : State :=
  ((((s.auditBy p.sess 0x09 0 (p.val 0x003B 0)).chainKept p).certPut p).certRecord (p.val 0x003B 0)).raise 382 1 0
    [(8, p.val 0x003B 0), (32, p.fingerprint % 2 ^ 32)]

/-- A pair certificate makes the pair's identity anew. -/
def State.pairIdentified (s : State) : State :=
  (({ (s.fresh 64).2 with units := { (s.fresh 64).2.units with pair := { (s.fresh 64).2.units.pair with serial := (s.fresh 64).1 } } } :
    State).bumpPair 7).raise 385 1 0 [(32, (({ (s.fresh 64).2 with units := { (s.fresh 64).2.units with
      pair := { (s.fresh 64).2.units.pair with serial := (s.fresh 64).1 } } } : State).bumpPair 7).units.pair.epoch)]

theorem certInstallBody_eq : certInstallBody p u s =
    if p.val 0x003B 0 = 2 then { st := (s.certInstalled p).pairIdentified } else { st := s.certInstalled p } := rfl

/-- The fields of a slot, and the events of its certificate. -/
def certRegs (slot : Nat) : List (Fld × Nat) :=
  [(F.certState, slot), (F.certNotBefore, slot), (F.certNotAfter, slot), (F.certFingerprint, slot), (F.raised, 378), (F.raised, 382)]

/-- A certificate stands in its slot. -/
structure Installed (p : Packet) (s t : State) : Prop where
  recorded : Recorded 0x09 0 (p.val 0x003B 0) t
  chain : ∀ c, p.find? 0x003C = some c → t.chain? (p.val 0x003B 0) = some (c.len, c.val)
  state : t.get F.certState (p.val 0x003B 0) = 1
  notBefore : t.get F.certNotBefore (p.val 0x003B 0) = p.notBefore % 2 ^ 64
  notAfter : t.get F.certNotAfter (p.val 0x003B 0) = p.notAfter % 2 ^ 64
  fingerprint : t.get F.certFingerprint (p.val 0x003B 0) = p.fingerprint % 2 ^ 384
  regs : RegsBut (certRegs (p.val 0x003B 0) ++ auditRegs) s t
  pair : t.units.pair = s.units.pair
  parts : Touches { regs := true, ev := true, jr := true, sec := true, units := true } s t

theorem State.certPut_spec (s : State) (p : Packet) :
    (s.certPut p).get F.certState (p.val 0x003B 0) = 1 ∧
    (s.certPut p).get F.certNotBefore (p.val 0x003B 0) = p.notBefore % 2 ^ 64 ∧
    (s.certPut p).get F.certNotAfter (p.val 0x003B 0) = p.notAfter % 2 ^ 64 ∧
    (s.certPut p).get F.certFingerprint (p.val 0x003B 0) = p.fingerprint % 2 ^ 384 ∧
    RegsBut (certRegs (p.val 0x003B 0)) s (s.certPut p) ∧ Touches { regs := true } s (s.certPut p) := by
  unfold State.certPut certRegs
  generalize p.val 0x003B 0 = slot
  refine ⟨?_, ?_, ?_, State.get_put_self .., ?_, rfl⟩
  · exact (State.get_put_apart rfl).trans ((State.get_put_apart rfl).trans ((State.get_put_apart rfl).trans (State.get_put_self ..)))
  · exact (State.get_put_apart rfl).trans ((State.get_put_apart rfl).trans (State.get_put_self ..))
  · exact (State.get_put_apart rfl).trans (State.get_put_self ..)
  · exact .put (.put (.put (.put (.refl (s := s)) (by simp)) (by simp)) (by simp)) (by simp)

theorem State.certInstalled_spec (s : State) (p : Packet) : Installed p s (s.certInstalled p) := by
  unfold State.certInstalled
  have recorded := s.auditBy_recorded p.sess 0x09 0 (p.val 0x003B 0)
  have noted := RegsBut.auditBy s p.sess 0x09 0 (p.val 0x003B 0)
  have parts : Touches { regs := true, ev := true, sec := true } s (s.auditBy p.sess 0x09 0 (p.val 0x003B 0)) := State.auditBy_touches
  generalize s.auditBy p.sess 0x09 0 (p.val 0x003B 0) = a at *
  have chain (c : Tlv) (given : p.find? 0x003C = some c) := a.chainKept_chain given
  have keeps : Touches { units := true } a (a.chainKept p) := rfl
  have pair : (a.chainKept p).units.pair = a.units.pair := rfl
  have same : (a.chainKept p).regs = a.regs := rfl
  generalize a.chainKept p = b at *
  obtain ⟨state, notBefore, notAfter, fingerprint, regs, puts⟩ := b.certPut_spec p
  generalize b.certPut p = c at *
  have record : RegsBut [(F.raised, 378)] c (c.certRecord (p.val 0x003B 0)) := (journal_spec c _ _ _ _ _ _).2.2.2.2
  have writes : Touches { regs := true, ev := true, jr := true } c (c.certRecord (p.val 0x003B 0)) := State.certRecord_touches
  generalize c.certRecord (p.val 0x003B 0) = d at *
  have raises : Touches { regs := true, ev := true } d (d.raise 382 1 0 [(8, p.val 0x003B 0), (32, p.fingerprint % 2 ^ 32)]) := rfl
  have raised : RegsBut [(F.raised, 382)] d (d.raise 382 1 0 [(8, p.val 0x003B 0), (32, p.fingerprint % 2 ^ 32)]) :=
    .raise (.refl (s := d)) (by simp)
  generalize d.raise 382 1 0 [(8, p.val 0x003B 0), (32, p.fingerprint % 2 ^ 32)] = t at *
  have read {f : Fld} {k : Nat} (apart : Fld.offAll [F.raised] f = true) : t.get f k = c.get f k :=
    (raised.get_apart [F.raised] (by simp) apart).trans (record.get_apart [F.raised] (by simp) apart)
  have later : Touches { regs := true, ev := true, jr := true } b t :=
    ((puts.mono (n := { regs := true, ev := true, jr := true }) rfl).trans writes rfl).trans raises rfl
  have all : Touches { regs := true, ev := true, jr := true, sec := true, units := true } s t :=
    ((parts.mono (n := { regs := true, ev := true, jr := true, sec := true, units := true }) rfl).trans keeps rfl).trans later rfl
  have units : t.units = b.units := later.units_eq rfl
  exact {
    recorded := recorded.of_audit (congrArg SecSt.audit ((later.sec_eq rfl).trans (keeps.sec_eq rfl)))
    chain := fun c given => by rw [State.chain?, units, ← State.chain?]; exact chain c given
    state := (read rfl).trans state
    notBefore := (read rfl).trans notBefore
    notAfter := (read rfl).trans notAfter
    fingerprint := (read rfl).trans fingerprint
    regs := ((((noted.mono fun _ => List.mem_append_right _).regs same).trans (regs.mono fun _ => List.mem_append_left _)).trans
      (record.mono (by simp [certRegs]))).trans (raised.mono (by simp [certRegs]))
    pair := by rw [units, pair, parts.units_eq rfl]
    parts := all }

theorem does_certInstall (h : Passes .certInstall p (certInstallChk p) u s) (own : p.val 0x003B 0 = 1 ∨ p.val 0x003B 0 = 3) :
    Does (.certInstall p) s fun t => RepliedHeld .certInstall p stOk [] s t ∧ Recorded 0x09 0 (p.val 0x003B 0) t ∧
      (∀ c, p.find? 0x003C = some c → t.chain? (p.val 0x003B 0) = some (c.len, c.val)) ∧
      t.get F.certState (p.val 0x003B 0) = 1 ∧ t.get F.certNotBefore (p.val 0x003B 0) = p.notBefore % 2 ^ 64 ∧
      t.get F.certNotAfter (p.val 0x003B 0) = p.notAfter % 2 ^ 64 ∧
      t.get F.certFingerprint (p.val 0x003B 0) = p.fingerprint % 2 ^ 384 ∧
      RegsBut (certRegs (p.val 0x003B 0) ++ auditRegs) s t ∧ t.mem = s.mem := by
  have body : certInstallBody p u (s.noteSeq p) = { st := (s.noteSeq p).certInstalled p } :=
    certInstallBody_eq.trans (if_neg (by omega))
  refine does_tracked (body := certInstallBody p) h (congrArg Host.Outcome.next (auditRefused_ok h _)) fun r hr => ?_
  rw [body] at hr ⊢
  have c := (s.noteSeq p).certInstalled_spec p
  generalize (s.noteSeq p).certInstalled p = v at *
  have lcp := c.parts.lcp_eq rfl
  have replied := held_mk (a := { st := v }) (s := s) hr (by rw [lcp]; rfl) (by rw [lcp]; rfl)
  rw [State.answerHeld_eq] at replied ⊢
  exact ⟨replied, c.recorded.of_audit rfl, c.chain, c.state, c.notBefore, c.notAfter, c.fingerprint,
    ((RegsBut.regs (.refl (s := s)) rfl).trans c.regs).regs rfl, c.parts.mem_eq rfl⟩

/-- The pair's epoch rises; of the protocol only the pair's transfers end. -/
theorem State.bumpPair_spec (s : State) (cause : Nat) : (s.bumpPair cause).units.pair.epoch = nextEpoch s.units.pair.epoch ∧
    (s.bumpPair cause).mem = s.mem ∧ (s.bumpPair cause).lcp.wire = s.lcp.wire ∧
    (s.bumpPair cause).lcp.heldReplies = s.lcp.heldReplies := by
  unfold State.bumpPair
  have units {w : State} {a k l v : Nat} {b : Bool} : (w.journal a k l v b).units = w.units := State.journal_touches.units_eq rfl
  have lcp {w : State} {a k l v : Nat} {b : Bool} : (w.journal a k l v b).lcp = w.lcp := State.journal_touches.lcp_eq rfl
  have mem {w : State} {a k l v : Nat} {b : Bool} : (w.journal a k l v b).mem = w.mem := State.journal_touches.mem_eq rfl
  rw [units, lcp, mem]
  exact ⟨rfl, rfl, rfl, rfl⟩

/-- The pair has the identity of its new certificate. -/
def State.pairSerial (s : State) : State :=
  { (s.fresh 64).2 with units := { s.units with pair := { s.units.pair with serial := (s.fresh 64).1 } } }

theorem State.pairIdentified_spec (s : State) : s.pairIdentified.units.pair.epoch = nextEpoch s.units.pair.epoch ∧
    Writes [F.raised] s s.pairIdentified ∧ s.pairIdentified.mem = s.mem ∧ s.pairIdentified.lcp.wire = s.lcp.wire ∧
    s.pairIdentified.lcp.heldReplies = s.lcp.heldReplies := by
  have whole : s.pairIdentified = (s.pairSerial.bumpPair 7).raise 385 1 0 [(32, (s.pairSerial.bumpPair 7).units.pair.epoch)] := rfl
  rw [whole]
  obtain ⟨epoch, mem, wire, held⟩ := s.pairSerial.bumpPair_spec 7
  have writes : Writes [F.raised] s.pairSerial (s.pairSerial.bumpPair 7) := .bumpPair
  have made : Writes [F.raised] s s.pairSerial := .upd .refl rfl rfl rfl rfl
  generalize s.pairSerial.bumpPair 7 = w at *
  exact ⟨epoch, .raise (made.trans writes) (by decide), mem, wire, held⟩

theorem does_certInstallPair (h : Passes .certInstall p (certInstallChk p) u s) (pair : p.val 0x003B 0 = 2) :
    Does (.certInstall p) s fun t => RepliedHeld .certInstall p stOk [] s t ∧
      t.get F.certState 2 = 1 ∧ t.get F.certFingerprint 2 = p.fingerprint % 2 ^ 384 ∧
      t.units.pair.epoch = nextEpoch s.units.pair.epoch ∧ t.mem = s.mem := by
  have body : certInstallBody p u (s.noteSeq p) = { st := ((s.noteSeq p).certInstalled p).pairIdentified } :=
    certInstallBody_eq.trans (if_pos pair)
  refine does_tracked (body := certInstallBody p) h (congrArg Host.Outcome.next (auditRefused_ok h _)) fun r hr => ?_
  rw [body] at hr ⊢
  have c := (s.noteSeq p).certInstalled_spec p
  generalize (s.noteSeq p).certInstalled p = v at *
  obtain ⟨epoch, writes, mem, wire, held⟩ := v.pairIdentified_spec
  generalize v.pairIdentified = w at *
  have lcp := c.parts.lcp_eq rfl
  have state := c.state
  have fingerprint := c.fingerprint
  rw [pair] at state fingerprint
  have replied := held_mk (a := { st := w }) (s := s) hr (by rw [wire, lcp]; rfl) (by rw [held, lcp]; rfl)
  rw [State.answerHeld_eq] at replied ⊢
  exact ⟨replied, (writes.get rfl).trans state, (writes.get rfl).trans fingerprint, epoch.trans (congrArg (fun u => nextEpoch u.epoch) c.pair),
    mem.trans (c.parts.mem_eq rfl)⟩

/-! UNIT_CERT_GET (R370, R371). -/

theorem does_unitCertGetOwn {c : Nat × Nat} (h : Passes .unitCertGet p (unitCertGetChk p) u s) (here : certMailbox u s = none)
    (top : u = .own ∨ u = .pair) (chain : s.chain? (if p.has 0x003B then p.val 0x003B 0 else s.presented) = some c) :
    Does (.unitCertGet p) s fun t => Replied .unitCertGet p u stOk [chainTlv c] false s t ∧ OnlyAnswered s t := by
  have body : unitCertGetBody p u (s.noteSeq p) = { st := s.noteSeq p, tlvs := [chainTlv c] } := by
    have found : (s.noteSeq p).chain? (if p.has 0x003B then p.val 0x003B 0 else (s.noteSeq p).presented) = some c := chain
    unfold unitCertGetBody
    rw [found]
    exact if_pos top
  refine ⟨_, congrArg Host.Outcome.next (mailed_ok h here), ?_⟩
  rw [body]
  exact ⟨replied_mk (a := { st := s.noteSeq p, tlvs := [chainTlv c] }) rfl rfl, rfl⟩

theorem does_unitCertGetVouched {c : Nat × Nat} (h : Passes .unitCertGet p (unitCertGetChk p) u s) (here : certMailbox u s = none)
    (notOwn : u ≠ .own) (notPair : u ≠ .pair) (chain : s.chain? (if p.has 0x003B then p.val 0x003B 0 else s.presented) = some c) :
    Does (.unitCertGet p) s fun t => ∃ sig, sig < 2 ^ 768 ∧
      Replied .unitCertGet p u stOk [chainTlv c, vouchTlv (s.noteSeq p) u sig] false s t ∧ t.free = s.free + 1 ∧
      OnlyAnswered { s with free := s.free + 1 } t := by
  have body : unitCertGetBody p u (s.noteSeq p) = { st := ((s.noteSeq p).fresh 768).2
                                                    tlvs := [chainTlv c, vouchTlv (s.noteSeq p) u ((s.noteSeq p).fresh 768).1] } := by
    have found : (s.noteSeq p).chain? (if p.has 0x003B then p.val 0x003B 0 else (s.noteSeq p).presented) = some c := chain
    unfold unitCertGetBody
    rw [found]
    exact if_neg (not_or.2 ⟨notOwn, notPair⟩)
  refine ⟨_, congrArg Host.Outcome.next (mailed_ok h here), ((s.noteSeq p).fresh 768).1, (s.noteSeq p).fresh_lt 768, ?_⟩
  rw [body]
  exact ⟨replied_mk (a := { st := ((s.noteSeq p).fresh 768).2, tlvs := _ }) rfl rfl, rfl, rfl⟩

theorem does_unitCertGetMailed {m : Nat × Nat × Nat × Nat × Nat × Nat} (h : Passes .unitCertGet p (unitCertGetChk p) u s)
    (there : certMailbox u (s.noteSeq p) = some m) (idle : s.mailBusy m.1 m.2.1 = false) : Does (.unitCertGet p) s fun t =>
      (∃ q : MailReq, t.lcp.mail = s.lcp.mail ++ [q] ∧ q.lane = m.1 ∧ q.sub = m.2.1 ∧ q.mbSeq = s.lcp.mbSeq ∧ q.pkt = p) ∧
      t = { s with lcp := { s.lcp with sessions := t.lcp.sessions, mail := t.lcp.mail, mbSeq := t.lcp.mbSeq }
                   lanes := t.lanes, beat := { s.beat with off := t.beat.off } } := by
  obtain ⟨k, sub, mbOp, obj, len, data⟩ := m
  refine ⟨_, congrArg Host.Outcome.next (mailed_sent h there idle), ?_⟩
  unfold State.mailSend
  obtain ⟨sent, whole⟩ := (s.noteSeq p).mailNext_spec { lane := k, sub := sub, mbSeq := 0, mbOp := mbOp, obj := obj, data := data
                                                        rest := len, sess := p.sess, pkt := p, op := .unitCertGet }
  generalize (s.noteSeq p).mailNext { lane := k, sub := sub, mbSeq := 0, mbOp := mbOp, obj := obj, data := data
                                      rest := len, sess := p.sess, pkt := p, op := .unitCertGet } = t at *
  refine ⟨sent, ?_⟩
  rw [whole]
  rfl

end

/-- Settles O21: requests, certificates and chains, clause by clause; what CERT_INSTALL does for any slot is one lemma. -/
theorem certificatesAreMadeInstalledAndShown : Obligations.CertificatesAreMadeInstalledAndShown := by
  unfold Obligations.CertificatesAreMadeInstalledAndShown
  refine ⟨?_, ?_, ?_, ?_, ?_, ?_⟩
  · exact fun p u s => does_csrCreate
  · exact fun p u s => does_certInstall
  · exact fun p u s => does_certInstallPair
  · exact fun p u s c => does_unitCertGetOwn
  · exact fun p u s c => does_unitCertGetVouched
  · exact fun p u s m => does_unitCertGetMailed

end Sys2Proof.Machine

namespace Sys2Proof.Machine

open Sys2Proof

/-! A MODE_SET that is due while the key stands at RUN (R63). -/

/-- A MODE_SET to STOP through the pair. -/
def stopPacket : Packet :=
  { sess := 1, service := false, cert := default, seq := 1, length := 0, tlvs := [tlv 0x0017 1 2] }

/-- It is due in the Freeze of beat 0. -/
def stopDue : QCmd := { op := .modeSet, pkt := stopPacket, prio := 0, beat := 0, apply := 0, epoch := ({} : State).units.pair.epoch }

/-- A SOLO module in RUN whose key has turned to RUN since the command was accepted. -/
def keyTurned : State :=
  { regs := [(fldKey F.mode 0, 3), (fldKey F.role 0, 1)], beat := { runs := true }, lcp := { queue := [stopDue] } }

theorem keyTurned_applies : Applies stopDue .pair keyTurned where
  on := rfl
  runs := rfl
  open_ := rfl
  warm := rfl
  acts := rfl
  shadow := rfl
  causes := rfl
  gongs := rfl
  key_ := by decide
  prios := fun _ none => absurd none List.not_mem_nil
  cmds := rfl
  due := by decide
  unit := rfl
  free_ := rfl

/-- The Freeze refuses it: the module stays in RUN. -/
theorem keyTurned_stays {t : State} (h : exec .freezeCommandApply keyTurned = .next t) : t.get F.mode = 3 := by
  cases h
  decide

/-- Refutes O24: a MODE_SET that waited is looked at again by R63 in its Freeze, and the clause of MODE_SET says nothing of the
key. A SOLO module in RUN whose key stands at RUN refuses the MODE_SET to STOP with KEY_LOCKED and stays in RUN. -/
theorem not_freezeAppliesTheDueCommand : ¬ Obligations.FreezeAppliesTheDueCommand := by
  unfold Obligations.FreezeAppliesTheDueCommand
  intro h
  obtain ⟨modeSet, -⟩ := h
  obtain ⟨t, done, stops, -⟩ := modeSet stopDue .pair keyTurned keyTurned_applies rfl rfl (by decide) (by decide) (by decide) (by decide)
  have stopped : t.get F.mode = 2 := stops (by decide)
  rw [keyTurned_stays done] at stopped
  exact absurd stopped (by decide)

end Sys2Proof.Machine

namespace Sys2Proof.Machine

open Sys2Proof

/-! The queue of commands and the beat in a change of mode. -/

/-- From `s` to `t` the beat and the queue of commands stand. -/
structure Queued (s t : State) : Prop where
  now : t.now = s.now
  queue : t.lcp.queue = s.lcp.queue

namespace Queued

theorem refl (s : State) : Queued s s := ⟨rfl, rfl⟩

theorem trans {s t u : State} (h : Queued s t) (k : Queued t u) : Queued s u := ⟨k.now.trans h.now, k.queue.trans h.queue⟩

/-- An operation that writes other fields and nothing of the protocol. -/
theorem writes {m : Parts} {ws : List Fld} {s t u : State} (h : Queued s t) (touched : Touches m t u) (wrote : Writes ws t u)
    (lcp : m.lcp = false) (off : Fld.offAll ws F.beatIndex = true) : Queued s u :=
  h.trans ⟨wrote.get off, congrArg LcpSt.queue (touched.lcp_eq lcp)⟩

theorem upd {s t u : State} (h : Queued s t) (regs : u.regs = t.regs) (queue : u.lcp.queue = t.lcp.queue) : Queued s u :=
  h.trans ⟨State.get_of_regs regs .., queue⟩

theorem dropCycles {s t : State} (h : Queued s t) : Queued s t.dropCycles := h.writes State.dropCycles_touches .dropCycles rfl rfl

theorem runLeaves {s t : State} (h : Queued s t) : Queued s t.runLeaves := h.writes State.runLeaves_touches .runLeaves rfl rfl

theorem endDebug {s t : State} {c : Nat} (h : Queued s t) : Queued s (t.endDebug c) := h.writes State.endDebug_touches .endDebug rfl rfl

theorem setMode {s t : State} {m r d c k e : Nat} (h : Queued s t) : Queued s (t.setMode m r d c k e) := by
  obtain ⟨x, lcp⟩ := t.setMode_lcp m r d c k e
  exact h.trans ⟨Writes.setMode.get rfl, by rw [lcp]⟩

theorem canShow {s t : State} (h : Queued s t) : Queued s t.canShow := h.writes State.canShow_touches .canShow rfl rfl

theorem fieldOff {s t : State} (h : Queued s t) : Queued s t.fieldOff := h.writes State.fieldOff_touches .fieldOff rfl rfl

end Queued

theorem Writes.canDropAll {s : State} : Writes dropFields s s.canDropAll := .foldl .refl fun _ _ => .canDropObj .refl fun _ h => h

theorem Writes.abandonResync {s : State} : Writes [F.resyncPhase, F.resyncTarget] s s.abandonResync :=
  .put (.upd (.put .refl (by decide)) rfl rfl rfl rfl) (by decide)

theorem Writes.safeRecord {s : State} {c : Nat} : Writes [F.raised] s (s.safeRecord c) :=
  .journal (.latch (.upd .refl rfl rfl rfl rfl)) (by decide)

theorem Queued.canDropAll {s t : State} (h : Queued s t) : Queued s t.canDropAll :=
  h.writes State.canDropAll_touches .canDropAll rfl rfl

theorem Queued.abandonResync {s t : State} (h : Queued s t) : Queued s t.abandonResync :=
  h.writes State.abandonResync_touches .abandonResync rfl rfl

theorem Queued.safeRecord {s t : State} {c : Nat} (h : Queued s t) : Queued s (t.safeRecord c) :=
  h.writes State.safeRecord_touches .safeRecord rfl rfl

/-! The modes entered (R60, R64, R75). -/

/-- The SAFE record stands. -/
def State.safeNoted (s : State) (n : Nat) : State := if s.wd.safeRec = n then s else s.safeRecord n

/-- No handover, no shadow run and no step wait any more. -/
def State.plansGone (s : State) : State :=
  { s with pair := { s.pair with handover := none, handing := false, shadowAt := none, endShadow := false }
           rt := { s.rt with stepClass := none, stepRuns := false } }

theorem Queued.plansGone {s t : State} (h : Queued s t) : Queued s t.plansGone := h.upd rfl rfl

/-- A module on its way into SAFE, before MODE changes. -/
def State.safeComes (s : State) (n : Nat) : State :=
  ((s.endDebug 5).runLeaves.dropCycles.safeNoted n).plansGone.abandonResync.canDropAll

theorem State.enterSafe_eq (s : State) (n : Nat) :
    s.enterSafe n = ((s.safeComes n).setMode mSafe rNone 0 n 1).canShow.fieldOff := by
  unfold State.enterSafe State.safeComes State.safeNoted State.plansGone
  rfl

theorem State.enterSafe_spec (s : State) (n : Nat) :
    (s.enterSafe n).get F.mode = 5 ∧ (s.enterSafe n).get F.role = 0 ∧ (s.enterSafe n).mem = s.mem ∧ Queued s (s.enterSafe n) := by
  have comes : Queued s (s.safeComes n) := by
    have noted (u : State) : Queued u (u.safeNoted n) := by
      unfold State.safeNoted
      split
      · exact .refl u
      · exact .safeRecord (.refl u)
    exact .canDropAll (.abandonResync (.plansGone ((Queued.dropCycles (.runLeaves (.endDebug (.refl s)))).trans (noted _))))
  have mem : (s.enterSafe n).mem = s.mem := State.enterSafe_touches.mem_eq rfl
  rw [State.enterSafe_eq] at *
  obtain ⟨mode, role⟩ := setMode_gets (s.safeComes n) mSafe rNone 0 n 1 1 (by decide) (by decide)
  have kept {f : Fld} (off : Fld.offAll (showFields ++ [F.dioOpenWire, F.dioExtDrive, F.aoFailing]) f = true) :
      ((s.safeComes n).setMode mSafe rNone 0 n 1).canShow.fieldOff.get f = ((s.safeComes n).setMode mSafe rNone 0 n 1).get f :=
    ((Writes.canShow.mono (by decide)).trans (Writes.fieldOff.mono (by decide))).get off
  exact ⟨(kept rfl).trans mode, (kept rfl).trans role, mem, .fieldOff (.canShow (.setMode comes))⟩

/-- What the Freeze does behind a cause that ends no program has nothing to do. -/
structure Softly (s t : State) : Prop extends Queued s t where
  warm : t.wd.warmRestart = s.wd.warmRestart
  acts : t.panel.acts = s.panel.acts
  shadow : t.pair.endShadow = s.pair.endShadow
  mem : t.mem = s.mem

theorem State.runLeaves_shadow (s : State) : s.runLeaves.pair.endShadow = s.pair.endShadow := by
  unfold State.runLeaves
  dsimp only
  split
  · rfl
  · split <;> rfl

/-- No step waits or runs any more. -/
def State.stepGone (s : State) : State := { s with rt := { s.rt with stepClass := none, stepRuns := false } }

theorem Writes.stepGone {ws : List Fld} {s t : State} (h : Writes ws s t) : Writes ws s t.stepGone := h.upd rfl rfl rfl rfl

theorem Queued.stepGone {s t : State} (h : Queued s t) : Queued s t.stepGone := h.upd rfl rfl

/-- A module on its way into STOP, before MODE changes. -/
def State.stopComes (s : State) : State := s.runLeaves.dropCycles.canDropAll.stepGone

theorem State.enterStop_eq (s : State) (c : Nat) : s.enterStop c =
    s.stopComes.setMode mStop (s.stopComes.get F.role) (s.stopComes.get F.ready) (s.stopComes.get F.safeCause) c := by
  unfold State.enterStop State.stopComes State.stepGone
  rfl

theorem State.enterStop_spec {s : State} (fits : s.get F.role < 8) (c : Nat) :
    (s.enterStop c).get F.mode = 2 ∧ (s.enterStop c).get F.role = s.get F.role ∧ Softly s (s.enterStop c) := by
  have drops : Writes ([F.shState, F.taskSkips, F.taskState] ++ dropFields) s s.stopComes :=
    .stepGone (((Writes.runLeaves.mono (by decide)).trans (Writes.dropCycles.mono (by decide))).trans
      (Writes.canDropAll.mono (by decide)))
  have role : s.stopComes.get F.role = s.get F.role := drops.get rfl
  have queued : Queued s s.stopComes := .stepGone (.canDropAll (.dropCycles (.runLeaves (.refl s))))
  have gone (u : State) : u.stepGone.pair = u.pair := rfl
  have shadow : s.stopComes.pair.endShadow = s.pair.endShadow :=
    (congrArg PairSt.endShadow ((gone _).trans ((State.canDropAll_touches.pair_eq rfl).trans (State.dropCycles_touches.pair_eq rfl)))).trans
      s.runLeaves_shadow
  have touched := State.enterStop_touches (a0 := s) (a1 := c)
  have wd := touched.wd_eq rfl
  have panel := touched.panel_eq rfl
  have mem := touched.mem_eq rfl
  rw [State.enterStop_eq, role] at *
  obtain ⟨mode, same⟩ := setMode_gets s.stopComes mStop (s.get F.role) (s.stopComes.get F.ready) (s.stopComes.get F.safeCause) c 1
    (by decide) fits
  have pair : ∀ u : State, ∀ r d k, (u.setMode mStop r d k c).pair = u.pair := fun u r d k => State.setMode_touches.pair_eq rfl
  exact ⟨mode, same, { queued.setMode with
    warm := congrArg WdSt.warmRestart wd
    acts := congrArg PanelSt.acts panel
    shadow := by rw [pair]; exact shadow
    mem := mem }⟩

/-- The key at STOP takes a STANDBY out of service. -/
theorem State.keyStops_standby {s : State} (standby : s.get F.role = 3) :
    s.keyStops.get F.mode = 2 ∧ s.keyStops.get F.role = 0 ∧ Softly s s.keyStops := by
  have whole : s.keyStops = s.dropCycles.setMode mStop rNone 0 (s.dropCycles.get F.safeCause) 3 := by
    have leads : s.keyStops = if s.get F.role = rStandby ∨ s.get F.role = rShadow
        then (if s.get F.role = rShadow then s.stopShadow 3 else s).dropCycles.setMode mStop rNone 0
          ((if s.get F.role = rShadow then s.stopShadow 3 else s).get F.safeCause) 3
        else if (if s.get F.role = rShadow then s.stopShadow 3 else s).get F.mode = mRun ∨
            (if s.get F.role = rShadow then s.stopShadow 3 else s).get F.mode = mHold
          then (if s.get F.role = rShadow then s.stopShadow 3 else s).enterStop 3
          else if s.get F.role = rShadow then s.stopShadow 3 else s := rfl
    rw [leads, if_pos (.inl standby), if_neg (by rw [standby]; decide), (Writes.dropCycles.get rfl : s.dropCycles.get F.safeCause = _)]
  have touched : Touches { regs := true, ev := true, lcp := true, jr := true, units := true, rt := true } s
      (s.dropCycles.setMode mStop rNone 0 (s.dropCycles.get F.safeCause) 3) :=
    (State.dropCycles_touches.mono rfl).trans State.setMode_touches rfl
  have queued : Queued s (s.dropCycles.setMode mStop rNone 0 (s.dropCycles.get F.safeCause) 3) := .setMode (.dropCycles (.refl s))
  obtain ⟨mode, role⟩ := setMode_gets s.dropCycles mStop rNone 0 (s.dropCycles.get F.safeCause) 3 1 (by decide) (by decide)
  rw [whole]
  exact ⟨mode, role, { queued with
    warm := congrArg WdSt.warmRestart (touched.wd_eq rfl)
    acts := congrArg PanelSt.acts (touched.panel_eq rfl)
    shadow := congrArg PairSt.endShadow (touched.pair_eq rfl)
    mem := touched.mem_eq rfl }⟩

theorem State.keyStops_drives {s : State} (drives : s.get F.role = 1 ∨ s.get F.role = 2) (runs : s.get F.mode = 3 ∨ s.get F.mode = 4) :
    s.keyStops = s.enterStop 3 := by
  have other : s.get F.role ≠ rShadow ∧ s.get F.role ≠ rStandby := by
    rcases drives with r | r <;> rw [r] <;> decide
  obtain ⟨notShadow, notStandby⟩ := other
  unfold State.keyStops
  dsimp only
  rw [if_neg notShadow, if_neg (not_or.2 ⟨notStandby, notShadow⟩), if_pos runs]

end Sys2Proof.Machine

namespace Sys2Proof.Machine

open Sys2Proof

/-! The entry into START drops the queue of commands (R60). -/

/-- What waits for a running module waits no more. -/
def State.waitsGone (s : State) : State := { s with
  beat := { s.beat with runs := false, computing := false, committing := false, causes := [] }
  lcp := { s.lcp with queue := [], transfers := [], heldReplies := [], mail := [], forwards := [] }
  pair := { s.pair with handover := none, handing := false, lost := false, current := false, hasImage := false
                        rx := [], images := [], redo := none, lostSlot := none, shadowAt := none, endShadow := false }
  wd := { s.wd with warmRestart := false } }

/-- The module's part of a START, with the role it had. -/
def State.startEnters (s : State) (r c : Nat) : State :=
  if r = rNone then (s.canDropAll.setMode mStart rNone 0 (s.get F.safeCause) c 2).canShow.fieldOff.bumpOwn 2
  else (s.canDropAll.setMode mStart rNone 0 (s.get F.safeCause) c 2).canShow.fieldOff

theorem State.enterStart_eq (s : State) (c : Nat) : ∃ u : State, s.enterStart c =
    u.waitsGone.abandonResync.startEnters (u.waitsGone.abandonResync.get F.role) c := by
  refine ⟨(((s.endDebug 5).endSessions 6).rollAbandon).runLeaves.dropCycles.settleEdges.surgeStops, ?_⟩
  unfold State.enterStart State.startEnters State.waitsGone
  rfl

theorem Queued.bumpOwn {s t : State} {c : Nat} (h : Queued s t) : Queued s (t.bumpOwn c) := by
  have journaled : ∀ (u : State) a b c d f, (u.journal a b c d f).lcp = u.lcp := fun u a b c d f => State.journal_touches.lcp_eq rfl
  have queue : (t.bumpOwn c).lcp.queue = t.lcp.queue := by
    unfold State.bumpOwn
    dsimp only
    rw [journaled]
    rfl
  exact h.trans ⟨Writes.bumpOwn.get rfl, queue⟩

theorem State.enterStart_queue (s : State) (c : Nat) : (s.enterStart c).lcp.queue = [] := by
  obtain ⟨u, whole⟩ := s.enterStart_eq c
  have enters (w : State) (r : Nat) : Queued w (w.startEnters r c) := by
    have shown : Queued w (w.canDropAll.setMode mStart rNone 0 (w.get F.safeCause) c 2).canShow.fieldOff :=
      .fieldOff (.canShow (.setMode (.canDropAll (.refl w))))
    unfold State.startEnters
    split
    · exact shown.bumpOwn
    · exact shown
  have gone : u.waitsGone.lcp.queue = [] := rfl
  rw [whole]
  exact (enters _ _).queue.trans ((Queued.abandonResync (.refl u.waitsGone)).queue.trans gone)

/-! The Freeze of a beat in which no command is due (R62). -/

/-- What a Freeze does first: priorities set in the beat before stand (R381). -/
def State.priosSet (s : State) : State :=
  { s with lcp := { s.lcp with sessions := s.lcp.sessions.map (fun (x : Session) =>
    match x.nextPrio with | some n => { x with prio := n, nextPrio := none } | none => x) } }

/-- The causes and the Gongs of the beats before are no more. -/
def State.causesGone (s : State) : State :=
  { s with
    beat := { s.beat with causes := s.beat.causes.filter (fun c => !decide (c.beat < s.now)) }
    lcp := { s.lcp with gongs := s.lcp.gongs.filter (fun t => !decide (t ≤ s.now)) } }

theorem State.takeCause_none (s : State) : s.takeCause none = s.causesGone := rfl

section

variable {s : State} {c : Cause}

theorem State.takeCause_safe {n : Nat} (h : c.kind = .safe n) : s.takeCause (some c) = s.causesGone.enterSafe n := by
  unfold State.takeCause
  dsimp only
  rw [h]
  rfl

theorem State.takeCause_start (h : c.kind = .start) : s.takeCause (some c) = s.causesGone.enterStart c.code := by
  unfold State.takeCause
  dsimp only
  rw [h]
  rfl

theorem State.takeCause_keyStop (h : c.kind = .keyStop) : s.takeCause (some c) = s.causesGone.keyStops := by
  unfold State.takeCause
  dsimp only
  rw [h]
  rfl

theorem State.takeCause_stop (h : c.kind = .stop) (runs : s.get F.mode = 3 ∨ s.get F.mode = 4) :
    s.takeCause (some c) = s.causesGone.enterStop c.code := by
  unfold State.takeCause
  dsimp only
  rw [h]
  exact if_pos runs

/-- Panel actions due in a Freeze that a cause of precedence 1 or 2 has taken. -/
def State.actsGone (s : State) : State :=
  { s with panel := { s.panel with acts := s.panel.acts.filter (fun a => !decide (a.apply ≤ s.now)) } }

theorem State.actsGone_spec (s : State) : s.actsGone.get F.mode = s.get F.mode ∧ s.actsGone.get F.role = s.get F.role ∧
    s.actsGone.mem = s.mem ∧ Queued s s.actsGone := ⟨rfl, rfl, rfl, rfl, rfl⟩

/-- No RESET waits: the winner takes effect. -/
theorem OnlyCauses.taken (h : OnlyCauses s) : s.priosSet.taken = s.winner := by
  have none : s.priosSet.resetWins = false := by
    have acts : s.priosSet.panel.acts = [] := h.acts
    unfold State.resetWins
    rw [acts]
    rfl
  have winner : s.priosSet.winner = s.winner := rfl
  unfold State.taken
  rw [none, winner]
  cases s.winner <;> rfl

theorem State.freezeFirst_hard (h : OnlyCauses s) (w : s.winner = some c) (hard : c.kind.rank ≤ 2) :
    s.freezeFirst = (s.priosSet.takeCause (some c)).actsGone := by
  have whole : s.freezeFirst = if (match s.priosSet.taken with | some c => decide (c.kind.rank ≤ 2) | none => false) = true
    then (s.priosSet.takeCause s.priosSet.taken).actsGone else _ := rfl
  rw [whole, h.taken, w]
  exact if_pos (by simp [hard])

/-- A Toll's warm restart that waits (R462). -/
def State.warmTaken (s : State) : State :=
  if s.wd.warmRestart then { s with wd := { s.wd with warmRestart := false } }.restartPair 0 else s

/-- What the key left to do is no more once it is at STOP again. -/
def State.keyActsLeft (s : State) : State :=
  { s with panel := { s.panel with
    acts := if s.get F.key = 2 then s.panel.acts.filter (fun a => a.act != 5 && a.act != 6) else s.panel.acts } }

/-- The end of a shadow run (R172). -/
def State.shadowEnds (s : State) : State := if s.pair.endShadow then s.stopShadow 0 else s

/-- What a Freeze does behind a cause that ends no program. -/
def State.freezeRest (s : State) : State := s.warmTaken.keyActsLeft.panelFreeze.shadowEnds

/-- A panel without actions stays as it is. -/
theorem State.noActs (acts : s.panel.acts = []) : ({ s with panel := { s.panel with acts := [] } } : State) = s := by rw [← acts]

/-- Where nothing of these is due nothing of them happens. -/
theorem State.freezeRest_quiet (warm : s.wd.warmRestart = false) (acts : s.panel.acts = []) (shadow : s.pair.endShadow = false) :
    s.freezeRest = s := by
  have left : s.keyActsLeft = s := by
    unfold State.keyActsLeft
    rw [acts]
    exact (congrArg (fun l => { s with panel := { s.panel with acts := l } }) (ite_self [])).trans (State.noActs acts)
  have panel : s.panelFreeze = s := by
    unfold State.panelFreeze
    rw [acts]
    exact State.noActs acts
  unfold State.freezeRest
  rw [State.warmTaken, if_neg (by simp [warm]), left, panel, State.shadowEnds, if_neg (by simp [shadow])]

theorem State.freezeFirst_soft (h : OnlyCauses s) (soft : ∀ c, s.winner = some c → 2 < c.kind.rank)
    (quiet : Softly s.priosSet (s.priosSet.takeCause s.winner)) : s.freezeFirst = s.priosSet.takeCause s.winner := by
  have whole : s.freezeFirst = if (match s.priosSet.taken with | some c => decide (c.kind.rank ≤ 2) | none => false) = true
    then (s.priosSet.takeCause s.priosSet.taken).actsGone else (s.priosSet.takeCause s.priosSet.taken).freezeRest := rfl
  have goesOn : ¬ (match s.winner with | some c => decide (c.kind.rank ≤ 2) | none => false) = true := by
    cases won : s.winner with
    | none => exact Bool.false_ne_true
    | some c => simpa using soft c won
  rw [whole, h.taken]
  exact (if_neg goesOn).trans (State.freezeRest_quiet (quiet.warm.trans h.warm) (quiet.acts.trans h.acts) (quiet.shadow.trans h.shadow))

/-- Commands whose beat has not come stay in the queue, and no other command is due. -/
theorem State.dueCmds_none (later : ∀ q ∈ s.lcp.queue, s.now < q.apply) : s.dueCmds = [] ∧
    s.lcp.queue.filter (fun q => !decide (q.apply ≤ s.now)) = s.lcp.queue := by
  have none : s.lcp.queue.filter (fun q => decide (q.apply ≤ s.now)) = [] :=
    List.filter_eq_nil_iff.2 fun q there => by simpa using later q there
  exact ⟨by rw [State.dueCmds, none]; rfl, List.filter_eq_self.2 fun q there => by simpa using later q there⟩

/-- A Freeze in which no command is due. -/
theorem OnlyCauses.freezes (h : OnlyCauses s) (later : ∀ q ∈ s.freezeFirst.lcp.queue, s.freezeFirst.now < q.apply) :
    exec .freezeCommandApply s = .next s.freezeFirst.showLeds := by
  refine congrArg Host.Outcome.next ?_
  have whole : s.freezeApply = if s.pwr.off ∨ !s.beat.runs ∨ s.beat.imaged then s
    else (freezeAll s.taken s.refuseLosers.freezeFirst.dueCmds { s.refuseLosers.freezeFirst with
      lcp := { s.refuseLosers.freezeFirst.lcp with
        queue := s.refuseLosers.freezeFirst.lcp.queue.filter (fun q => !decide (q.apply ≤ s.refuseLosers.freezeFirst.now)) } } []).showLeds := rfl
  have losers : s.refuseLosers = s := by
    unfold State.refuseLosers
    rw [(State.dueCmds_none h.cmds).1]
    split <;> rfl
  obtain ⟨none, kept⟩ := State.dueCmds_none later
  rw [whole, if_neg (by simp [h.on, h.runs, h.open_]), losers, none, kept]
  rfl

/-! The winner takes effect. -/

theorem Queued.entered {t : State} (entered : Queued s.priosSet.causesGone t) : Queued s t :=
  (Queued.upd (t := s) (u := s.priosSet.causesGone) (.refl s) rfl rfl).trans entered

theorem OnlyCauses.later {t : State} (h : OnlyCauses s) (same : Queued s t) : ∀ q ∈ t.lcp.queue, t.now < q.apply := by
  rw [same.queue, same.now]
  exact h.cmds

/-- The LEDs follow; nothing else does. -/
theorem State.showLeds_spec (s : State) : s.showLeds.get F.mode = s.get F.mode ∧ s.showLeds.get F.role = s.get F.role ∧
    RegsBut [(F.leds, 0)] s s.showLeds ∧ Touches { regs := true } s s.showLeds :=
  ⟨State.get_put_apart rfl, State.get_put_apart rfl, .put (.refl (s := s)) (by simp), State.showLeds_touches⟩

/-- A cause of precedence 1 or 2 drops the panel's actions; the LEDs follow. -/
theorem does_freezeHard {t : State} {m r : Nat} (h : OnlyCauses s) (first : s.freezeFirst = t.actsGone) (mode : t.get F.mode = m)
    (role : t.get F.role = r) (mem : t.mem = s.mem) (later : ∀ q ∈ t.lcp.queue, t.now < q.apply) :
    Does .freezeCommandApply s fun t => t.get F.mode = m ∧ t.get F.role = r ∧ t.mem = s.mem := by
  obtain ⟨goneMode, goneRole, goneMem, gone⟩ := t.actsGone_spec
  obtain ⟨shownMode, shownRole, -, shown⟩ := t.actsGone.showLeds_spec
  refine ⟨_, h.freezes (by rw [first, gone.queue, gone.now]; exact later), ?_⟩
  rw [first]
  exact ⟨shownMode.trans (goneMode.trans mode), shownRole.trans (goneRole.trans role), (shown.mem_eq rfl).trans (goneMem.trans mem)⟩

theorem does_freezeSafe {n : Nat} (h : OnlyCauses s) (w : s.winner = some c) (kind : c.kind = .safe n) :
    Does .freezeCommandApply s fun t => t.get F.mode = 5 ∧ t.get F.role = 0 ∧ t.mem = s.mem := by
  obtain ⟨mode, role, mem, queued⟩ := s.priosSet.causesGone.enterSafe_spec n
  refine does_freezeHard h ?_ mode role mem (h.later queued.entered)
  rw [State.freezeFirst_hard h w (by rw [kind]; exact Nat.le_succ 1), State.takeCause_safe kind]

theorem does_freezeStart (h : OnlyCauses s) (w : s.winner = some c) (kind : c.kind = .start) :
    Does .freezeCommandApply s fun t => t.get F.mode = 1 ∧ t.get F.role = 0 ∧ t.mem = s.mem := by
  obtain ⟨mode, role⟩ := enterStart_gets s.priosSet.causesGone c.code
  have queue := s.priosSet.causesGone.enterStart_queue c.code
  refine does_freezeHard h ?_ mode role (State.enterStart_touches.mem_eq rfl) fun q there => ?_
  · rw [State.freezeFirst_hard h w (by rw [kind]; decide), State.takeCause_start kind]
  · rw [queue] at there
    exact absurd there List.not_mem_nil

/-- A cause that ends no program. -/
theorem does_freezeSoftly {t : State} {m r : Nat} (h : OnlyCauses s) (w : s.winner = some c) (soft : 2 < c.kind.rank)
    (takes : s.priosSet.takeCause (some c) = t) (mode : t.get F.mode = m) (role : t.get F.role = r) (quiet : Softly s.priosSet.causesGone t) :
    Does .freezeCommandApply s fun t => t.get F.mode = m ∧ t.get F.role = r ∧ t.mem = s.mem := by
  have gone : Softly s.priosSet t := { Queued.trans (.upd (.refl _) rfl rfl) quiet.toQueued with
    warm := quiet.warm, acts := quiet.acts, shadow := quiet.shadow, mem := quiet.mem }
  have first : s.freezeFirst = t := by
    rw [State.freezeFirst_soft h (fun d won => ?_) (by rw [w, takes]; exact gone), w, takes]
    rw [w] at won
    cases won
    exact soft
  refine ⟨_, h.freezes (h.later (by rw [first]; exact quiet.toQueued.entered)), ?_⟩
  rw [first]
  obtain ⟨shownMode, shownRole, -, shown⟩ := t.showLeds_spec
  exact ⟨shownMode.trans mode, shownRole.trans role, (shown.mem_eq rfl).trans quiet.mem⟩

theorem does_freezeKeyStop (h : OnlyCauses s) (w : s.winner = some c) (kind : c.kind = .keyStop)
    (drives : s.get F.role = 1 ∨ s.get F.role = 2) (runs : s.get F.mode = 3 ∨ s.get F.mode = 4) :
    Does .freezeCommandApply s fun t => t.get F.mode = 2 ∧ t.get F.role = s.get F.role ∧ t.mem = s.mem := by
  obtain ⟨mode, role, quiet⟩ := State.enterStop_spec (s := s.priosSet.causesGone)
    (show s.get F.role < 8 by rcases drives with r | r <;> rw [r] <;> decide) 3
  exact does_freezeSoftly h w (by rw [kind]; decide) ((State.takeCause_keyStop kind).trans (State.keyStops_drives drives runs))
    mode role quiet

theorem does_freezeKeyStopStandby (h : OnlyCauses s) (w : s.winner = some c) (kind : c.kind = .keyStop) (standby : s.get F.role = 3) :
    Does .freezeCommandApply s fun t => t.get F.mode = 2 ∧ t.get F.role = 0 ∧ t.mem = s.mem := by
  obtain ⟨mode, role, quiet⟩ := State.keyStops_standby (s := s.priosSet.causesGone) standby
  exact does_freezeSoftly h w (by rw [kind]; decide) (State.takeCause_keyStop kind) mode role quiet

theorem does_freezeStop (h : OnlyCauses s) (w : s.winner = some c) (kind : c.kind = .stop) (fits : s.get F.role < 8)
    (runs : s.get F.mode = 3 ∨ s.get F.mode = 4) :
    Does .freezeCommandApply s fun t => t.get F.mode = 2 ∧ t.get F.role = s.get F.role ∧ t.mem = s.mem := by
  obtain ⟨mode, role, quiet⟩ := State.enterStop_spec (s := s.priosSet.causesGone) fits c.code
  exact does_freezeSoftly h w (by rw [kind]; decide) (State.takeCause_stop kind runs) mode role quiet

theorem does_freezeNone (h : OnlyCauses s) (w : s.winner = none) : Does .freezeCommandApply s fun t =>
    t.get F.mode = s.get F.mode ∧ t.get F.role = s.get F.role ∧ RegsBut [(F.leds, 0)] s t ∧ t.lcp.queue = s.lcp.queue ∧
    t.mem = s.mem ∧ t.ev = s.ev := by
  have quiet : Softly s.priosSet s.priosSet.causesGone :=
    { Queued.upd (.refl _) rfl rfl with warm := rfl, acts := rfl, shadow := rfl, mem := rfl }
  have first : s.freezeFirst = s.priosSet.causesGone := by
    rw [State.freezeFirst_soft h (fun d won => by rw [w] at won; cases won) (by rw [w]; exact quiet), w]
    rfl
  refine ⟨_, h.freezes (h.later (by rw [first]; exact .upd (.refl s) rfl rfl)), ?_⟩
  rw [first]
  obtain ⟨mode, role, leds, shown⟩ := s.priosSet.causesGone.showLeds_spec
  have queue : s.priosSet.causesGone.showLeds.lcp.queue = s.priosSet.causesGone.lcp.queue := congrArg LcpSt.queue (shown.lcp_eq rfl)
  exact ⟨mode, role, (RegsBut.regs (.refl (s := s)) rfl).trans leds, queue, shown.mem_eq rfl,
    shown.ev_eq rfl⟩

end

/-- Settles O23: a Freeze in which no command is due is its winner's effect and the LEDs, for each kind of cause. -/
theorem freezeTakesTheWinningCause : Obligations.FreezeTakesTheWinningCause := by
  unfold Obligations.FreezeTakesTheWinningCause
  refine ⟨?_, ?_, ?_, ?_, ?_, ?_⟩
  · exact fun s n c h w kind _ => does_freezeSafe h w kind
  · exact fun s c => does_freezeStart
  · exact fun s c => does_freezeKeyStop
  · exact fun s c => does_freezeKeyStopStandby
  · exact fun s c => does_freezeStop
  · exact fun s h w _ => does_freezeNone h w

end Sys2Proof.Machine
